-- ==== Sys2Proof/Word.lean ====
section
/-! DEFINITION. The word types of the ZX7160 model, register fields and rows of the register map. -/

namespace Sys2Proof

/-- A 32-bit register or message word. -/
abbrev Word := BitVec 32
/-- An octet. -/
abbrev Byte := BitVec 8
/-- A 64-bit value: an EUI-64, an address of host memory. -/
abbrev Word64 := BitVec 64
/-- A host partition, P0 to P3 (R304). -/
abbrev Part := Fin 4

/-- A field of a register: its lowest bit and its width. -/
structure Fld where
  lo : Nat
  w : Nat
deriving DecidableEq, Repr

/-- A row of the register map: key of the first register, two counts with their strides, whether there is one copy per
partition, and the masks of the RW, W1C, WO, RC, RWL and RO bits (R439). -/
structure RegRow where
  base : Nat
  n1 : Nat
  s1 : Nat
  n2 : Nat
  s2 : Nat
  perPart : Bool
  rw : BitVec 32
  w1c : BitVec 32
  wo : BitVec 32
  rc : BitVec 32
  rwl : BitVec 32
  ro : BitVec 32
deriving DecidableEq, Repr

end Sys2Proof
end

