-- ==== Sys2Proof/Syntax.lean ====
section
/-! DEFINITION. The commands of the block: one constructor of `Instr` per row of the spec's table of operations and events,
with the operands a row takes from outside. What the environment decides (a received message, a detection, a check result,
the contents of a frame) is an operand of the command that brings it. -/

namespace Sys2Proof

/-- The two dies: field die and host die (R13). -/
inductive Die where
  | f
  | h
deriving DecidableEq, Repr

/-- A Pass message (R16): its header fields and its payload words. `typ` is the row's own type except in a message of a
reserved type. -/
structure PassMsg where
  typ : Nat
  part : Nat
  guard : Bool
  len : Nat
  seq : Word
  ack : Word
  crc : Word
  payload : List Word
deriving DecidableEq, Repr

/-- A command descriptor (R321): issuing partition and words 0x00 to 0x1C. -/
structure CmdDesc where
  part : Part
  w0 : Word
  w1 : Word
  w2 : Word
  w3 : Word
  w4 : Word
  w5 : Word
  w6 : Word
  w7 : Word
deriving DecidableEq, Repr

/-- What the host's memory answers to a descriptor fetch: all reads good, a read error on the descriptor, or on the buffer (R316). -/
inductive Dma where
  | ok
  | descError
  | bufError
deriving DecidableEq, Repr

/-- An address of a frame on air: none, short, or extended. -/
inductive MacAddr where
  | none
  | short (a : BitVec 16)
  | ext (a : Word64)
deriving DecidableEq, Repr

/-- A received frame as its octets parse under IEEE 802.15.4: its MAC header (`mhr`, with the auxiliary security header and the header IEs), its MAC
payload and its MIC as carried, and the fields of these octets that the chip acts on. `pre` is the duration of its preamble and SFD in ns. What
the lane measures of it stands in the lane (R94). -/
structure RxFrame where
  ftype : Nat
  fcs : Word
  dstPan : Option Nat
  dst : MacAddr
  src : MacAddr
  ackReq : Bool
  dsn : Option Nat
  level : Nat
  keyMode : Nat
  keyIndex : Nat
  headerOk : Bool
  counter : Nat
  mhr : List Byte
  payload : List Byte
  mic : List Byte
  /-- Enh-Ack: content of its Time Correction IE, if it carries one. -/
  correction : Option Int
  nack : Bool
  pre : Nat
  /-- A frame that the Drover injected (R383): array, ASN and sequence that its PSDU carries. -/
  drover : Option (Fin 4 × Nat × Nat)
deriving DecidableEq, Repr

/-- A detection that a detector declares (R82): point (8,192 + k for the acknowledgement point of stream k), searched mode, strength in
0.5 dB, correlation metric, symbol timing in ns, carrier offset in Hz; and what each lane of the point tracks at that moment: lane,
timing, carrier offset (R83). -/
structure Detection where
  point : Nat
  mode : Nat
  strength : Int
  metric : Nat
  timing : Int
  cfo : Int
  tracked : List (Nat × Int × Int)
deriving DecidableEq, Repr

/-- A symbol as a demodulator meets it (R92, R96): the samples before its equaliser, 12 of them half a symbol apart and the newest first where an
equaliser is in use, else one discriminator output, or the value of one SUN OFDM subcarrier before its equalisation; and the known or
decided symbol. Of SUN OFDM also the subcarrier, and whether it is a pilot; the pilots of an OFDM symbol come before its other subcarriers. -/
structure RxSym where
  x : List (Int × Int)
  d : Int × Int
  sub : Nat := 0
  pilot : Bool := false
deriving DecidableEq, Repr

/-- A decoded PHR (R87, R89): whether it passes its PHY's header check, its length and FCS length, its MCS or rate mode, FEC, whether a
field carries a value that the standard reserves, and family and bits [6:0] of the new mode of a mode switch. -/
structure Phr where
  check : Bool
  len : Nat
  fcsLen : Nat
  mcs : Nat
  fec : Bool
  reserved : Bool
  switch : Option (Fin 4 × Nat)
deriving DecidableEq, Repr

/-- What the slot engines' checks find (R122, R123): the failure cause, 1 to 4, of engine A and of engine B (0: the self-check passes), and
whether the plans or actions agree. -/
structure SlotCheck where
  aFail : Fin 5
  bFail : Fin 5
  agree : Bool
deriving DecidableEq, Repr

/-- What the queue manager holds twice for a queue (R287): its head cell, its tail cell, its cell count and its frame count. -/
structure QPtr where
  head : Option Nat
  tail : Option Nat
  cells : Nat
  frames : Nat
deriving DecidableEq, Repr

/-- An access to a function's configuration space (R306): a read or a write of a word by its offset, or the control fields of the PCI Express and
MSI-X capabilities, whose offsets the spec does not give: the codes of the Max Payload Size and Max Read Request Size, and MSI-X enable. -/
inductive CfgAccess where
  | read (off : Nat)
  | write (off : Nat) (data : Word)
  | readDevice
  | writeDevice (mps mrrs : Fin 8)
  | readMsix
  | writeMsix (on : Bool)
deriving DecidableEq, Repr

/-- Where an uncorrectable memory error lies, by the rows of R371 (store numbers 0 to 10), and what it hits. -/
inductive UeStore where
  /-- Caravanserai cell data: an octet of a frame of a queue, and the bits of it in error. -/
  | cell (q frame octet : Nat) (bits : Byte)
  /-- Pointers or link memory of a queue, and what the error makes of one of the two copies. -/
  | pointers (q : Nat) (bad : QPtr)
  /-- Link memory of free cells: that many of them, the lowest, are not free and belong to no chain. -/
  | freeCells (n : Nat)
  /-- A bucket of directory index A (`false`) or B, or from 131,072 on an entry of its overflow store (R27). -/
  | bucket (b : Bool) (i : Fin 135168)
  /-- Other structures of the table SRAM: a neighbour entry, a prefix, a seen-cache entry, an elimination-cache entry. -/
  | nbr (n : Fin 8192)
  | prefix_ (i : Nat)
  | seen (k : Nat)
  | twin (k : Nat)
  /-- A cell of the schedule. -/
  | schedule (c : Fin 1048576)
  /-- A slot of the key cache. -/
  | keySlot (i : Nat)
  /-- Local SRAM of a control-core pair. -/
  | core (i : Fin 4)
  /-- A record of the Ledger area of MRAM, and another MRAM address. -/
  | ledger (i : Fin 16384)
  | mram (addr : Nat)
  /-- DRAM: a spilled cell of a frame of a queue, a node record, a blob. -/
  | spill (q frame addr : Nat)
  | record (o : Fin 524288)
  | blob (j : Fin 1048576)
  /-- H-die SRAM: a fetched descriptor or a held frame, by its place. -/
  | desc (i : Nat)
  | frame (i : Nat)
deriving DecidableEq, Repr

/-- The commands: one constructor per row of the table; those with operands first, in the order of the table, then those without (the Lean runtime
limits the number of constructors with fields that come before one). -/
inductive Instr where
  /-- REGISTER_WRITE (R439). -/
  | registerWrite (p : Part) (off : BitVec 16) (be : BitVec 4) (data : Word) (high : Option (BitVec 4 × Word))
  /-- READ_CLEAR (R441). -/
  | readClear (p : Part) (off : BitVec 16) (wide : Bool)
  /-- LINK_IDLE (R17). -/
  | linkIdle (d : Die) (m : PassMsg)
  /-- CREDIT (R279). -/
  | credit (d : Die) (m : PassMsg)
  /-- FRAME_DN (R32). -/
  | frameDn (m : PassMsg) (faults : Fin 5)
  /-- FRAME_UP (R320). -/
  | frameUp (m : PassMsg)
  /-- DESC (R323). -/
  | desc (m : PassMsg)
  /-- COMPL (R321). -/
  | compl (m : PassMsg)
  /-- EVENT (R327). -/
  | event (m : PassMsg)
  /-- REG_RD (R20). -/
  | regRd (d : Die) (m : PassMsg)
  /-- REG_WR (R21). -/
  | regWr (d : Die) (m : PassMsg)
  /-- REG_RSP (R14). -/
  | regRsp (d : Die) (m : PassMsg)
  /-- TIME_SYNC (R23). -/
  | timeSync (m : PassMsg)
  /-- TS_REPORT (R350). -/
  | tsReport (m : PassMsg)
  /-- HEALTH (R376). -/
  | health (d : Die) (m : PassMsg)
  /-- HEALTH_SEND (R376). -/
  | healthSend (d : Die)
  /-- HEALTH_TIMEOUT (R376). -/
  | healthTimeout (d : Die)
  /-- SAFE_ASSERT (R377). -/
  | safeAssert (d : Die) (m : PassMsg)
  /-- BOOT_LOAD (R13). -/
  | bootLoad (m : PassMsg)
  /-- RESET_REQ (R331). -/
  | resetReq (d : Die) (m : PassMsg)
  /-- PASS_RESEND_TIMEOUT (R18). -/
  | passResendTimeout (d : Die)
  /-- BANDPLAN_WRITE (R43). -/
  | bandplanWrite (p : Part) (data : Word)
  /-- ARRAY_ENABLE (R54). -/
  | arrayEnable (p : Part) (a : Fin 4) (data : Word)
  /-- ARRAY_DISABLE (R55). -/
  | arrayDisable (p : Part) (a : Fin 4) (data : Word)
  /-- ARRAY_CONFIG_UPDATE (R55). -/
  | arrayConfigUpdate (p : Part) (a : Fin 4) (data : Word)
  /-- BEAM_ENABLE (R75). -/
  | beamEnable (p : Part) (b : Fin 48) (data : Word)
  /-- BEAM_DISABLE (R57). -/
  | beamDisable (p : Part) (b : Fin 48) (data : Word)
  /-- WEIGHT_WRITE (R60). -/
  | weightWrite (p : Part) (data : Word)
  /-- WEIGHT_READ (R60). -/
  | weightRead (p : Part)
  /-- WEIGHT_COMMIT (R61). -/
  | weightCommit (p : Part) (data : Word)
  /-- CAL_RUN (R65). -/
  | calRun (p : Part) (data : Word)
  /-- CAL_INTERVAL_EXPIRY (R65). -/
  | calIntervalExpiry (a : Fin 4)
  /-- CALIBRATION_START (R65). -/
  | calibrationStart (a : Fin 4)
  /-- CALIBRATION_DONE (R64). -/
  | calibrationDone (rx tx : List (Int × Int))
  /-- CAL_MAXAGE_EXPIRY (R66). -/
  | calMaxageExpiry (a : Fin 4)
  /-- DIE_TEMP_SAMPLE (R474). -/
  | dieTempSample (quarter : BitVec 12)
  /-- SLOT_PREPARATION (R114). -/
  | slotPreparation (k : SlotCheck)
  /-- BLANKING_START (R72). -/
  | blankingStart (id : Nat)
  /-- FE_TXEN_ASSERT (R49). -/
  | feTxenAssert (id : Nat)
  /-- TX_FRAME_START (R108). -/
  | txFrameStart (id : Nat) (k : SlotCheck)
  /-- TX_FRAME_END (R49). -/
  | txFrameEnd (id : Nat)
  /-- BLANKING_END (R72). -/
  | blankingEnd (a : Fin 4)
  /-- ACK_POINT_OPEN (R119). -/
  | ackPointOpen (k : Fin 16)
  /-- ACK_POINT_CLOSE (R119). -/
  | ackPointClose (k : Fin 16)
  /-- ENH_ACK_BEAM_FIX (R120). -/
  | enhAckBeamFix (id : Nat)
  /-- PREAMBLE_DETECTION (R82). -/
  | preambleDetection (d : Detection)
  /-- SFD_FOUND (R86). -/
  | sfdFound (l : Fin 1152) (syms : List RxSym)
  /-- SFD_LIMIT_EXPIRY (R86). -/
  | sfdLimitExpiry (l : Fin 1152)
  /-- PHR_DECODED (R87). -/
  | phrDecoded (l : Fin 1152) (h : Phr) (syms : List RxSym)
  /-- PSDU_END (R86). -/
  | psduEnd (l : Fin 1152) (syms : List RxSym)
  /-- FCS_CHECK_DONE (R86). -/
  | fcsCheckDone (l : Fin 1152) (ok : Bool) (rssi : BitVec 16) (cfo : Int)
  /-- CROSSROADS_ARRIVAL (R98). -/
  | crossroadsArrival (l : Fin 1152) (f : RxFrame) (faults : Fin 5)
  /-- MERGE_WINDOW_CLOSE (R98). -/
  | mergeWindowClose (n : Nat)
  /-- RECENT_KEY_EXPIRY (R99). -/
  | recentKeyExpiry (n : Nat)
  /-- NOISE_FLOOR_SAMPLE (R100). -/
  | noiseFloorSample (p : Fin 8192) (floor : BitVec 16)
  /-- LP_ENABLE (R481). -/
  | lpEnable (part : Part) (data : Word)
  /-- LP_DISABLE (R102). -/
  | lpDisable (part : Part) (data : Word)
  /-- LP_READ (R102). -/
  | lpRead (part : Part)
  /-- PROFILE_WRITE (R102). -/
  | profileWrite (part : Part) (data : Word)
  /-- SLOT_START (R104). -/
  | slotStart (part : Part)
  /-- SLOT_STOP (R104). -/
  | slotStop (part : Part)
  /-- SLOTFRAME_ENABLE (R109). -/
  | slotframeEnable (part : Part) (i : Fin 64) (data : Word)
  /-- SLOTFRAME_DISABLE (R110). -/
  | slotframeDisable (part : Part) (i : Fin 64) (data : Word)
  /-- CELL_WRITE (R113). -/
  | cellWrite (part : Part) (data : Word)
  /-- CELL_READ (R113). -/
  | cellRead (part : Part)
  /-- HOP_ENTRY_WRITE (R111). -/
  | hopEntryWrite (part : Part) (data : Word)
  /-- ENGINE_BIST_START (R126). -/
  | engineBistStart (e : Fin 2)
  /-- ENGINE_BIST_DONE (R126). -/
  | engineBistDone (e : Fin 2) (sig : BitVec 128)
  /-- ENGINE_PROBATION_END (R126). -/
  | engineProbationEnd (e : Fin 2)
  /-- RX_WINDOW_OPEN (R129). -/
  | rxWindowOpen (a : Fin 4)
  /-- RX_WINDOW_CLOSE (R129). -/
  | rxWindowClose (a : Fin 4)
  /-- REASSEMBLY_TIMEOUT (R238). -/
  | reassemblyTimeout (p : Fin 8) (src size tag : Nat)
  /-- PAN_CREATE (R132). -/
  | panCreate (part : Part) (p : Fin 8) (data : Word)
  /-- PAN_DELETE (R134). -/
  | panDelete (part : Part) (p : Fin 8) (data : Word)
  /-- PAN_OWNER_CHANGE (R133). -/
  | panOwnerChange (part : Part) (p : Fin 8) (data : Word)
  /-- NBR_ENTRY_WRITE (R141). -/
  | nbrEntryWrite (p : Part) (data : Word)
  /-- LIVENESS_PERIOD_EXPIRY (R143). -/
  | livenessPeriodExpiry (n : Fin 8192)
  /-- HELD_FRAME_EXPIRY (R145). -/
  | heldFrameExpiry (n : Fin 8192)
  /-- QUARANTINE_EXPIRY (R139). -/
  | quarantineExpiry (p : Fin 8) (a : BitVec 16)
  /-- JOIN_CACHE_EXPIRY (R162). -/
  | joinCacheExpiry (eui : Word64)
  /-- JOIN_ACCEPT (R163). -/
  | joinAccept (c : CmdDesc) (dma : Dma)
  /-- NODE_RELEASE (R163). -/
  | nodeRelease (c : CmdDesc)
  /-- NBR_ADD (R163). -/
  | nbrAdd (c : CmdDesc) (dma : Dma)
  /-- NBR_REMOVE (R142). -/
  | nbrRemove (c : CmdDesc)
  /-- ADDR_QUARANTINE (R163). -/
  | addrQuarantine (c : CmdDesc)
  /-- KEY_LOAD_DONE (R184). -/
  | keyLoadDone (k : Fin 4)
  /-- KEY_LOAD_TIMEOUT (R186). -/
  | keyLoadTimeout (k : Fin 516)
  /-- KEY_SCRUB (R189). -/
  | keyScrub (before after : List (Fin 8192 × Nat))
  /-- KEY_SLOT_ERASE (R201). -/
  | keySlotErase (p : Part) (data : Word)
  /-- TAMPER_INPUT (R198). -/
  | tamperInput (i : Fin 4) (high : Bool) (samples : Nat)
  /-- TAMPER_LATCH_CLEAR (R199). -/
  | tamperLatchClear (p : Part) (data : Word)
  /-- KEY_STORE (R200). -/
  | keyStore (c : CmdDesc) (dma : Dma)
  /-- KEY_DELETE (R200). -/
  | keyDelete (c : CmdDesc)
  /-- PAN_KEY_SET (R200). -/
  | panKeySet (c : CmdDesc)
  /-- GROUP_ROLL (R200). -/
  | groupRoll (c : CmdDesc)
  /-- GROUP_GRACE_EXPIRY (R200). -/
  | groupGraceExpiry (p : Fin 8)
  /-- DERIVE_LOAD (R200). -/
  | deriveLoad (c : CmdDesc)
  /-- DERIVE_UNLOAD (R200). -/
  | deriveUnload (c : CmdDesc)
  /-- KEK_SET (R181). -/
  | kekSet (c : CmdDesc) (dma : Dma)
  /-- KEK_REWRAP_DONE (R181). -/
  | kekRewrapDone (p : Part)
  /-- KEY_CTR_RAISE (R200). -/
  | keyCtrRaise (c : CmdDesc)
  /-- SEARCH (R226). -/
  | search (c : CmdDesc)
  /-- INSERT (R210). -/
  | insert (c : CmdDesc) (dma : Dma)
  /-- DELETE (R204). -/
  | delete (c : CmdDesc)
  /-- UPDATE (R226). -/
  | update (c : CmdDesc) (dma : Dma)
  /-- NEXT (R214). -/
  | next (c : CmdDesc)
  /-- FLUSH_BY_PORT (R223). -/
  | flushByPort (c : CmdDesc)
  /-- ITERATION_EXPIRY (R214). -/
  | iterationExpiry (p : Part) (b : Bool)
  /-- PREFIX_SEARCH (R230). -/
  | prefixSearch (c : CmdDesc)
  /-- PREFIX_INSERT (R227). -/
  | prefixInsert (c : CmdDesc)
  /-- PREFIX_DELETE (R232). -/
  | prefixDelete (c : CmdDesc)
  /-- PREFIX_UPDATE (R230). -/
  | prefixUpdate (c : CmdDesc)
  /-- PREFIX_NEXT (R230). -/
  | prefixNext (c : CmdDesc)
  /-- LPM_MODE_CHANGE (R233). -/
  | lpmModeChange (p : Part) (data : Word)
  /-- CONTEXT_WRITE (R254). -/
  | contextWrite (p : Part) (data : Word)
  /-- MPL_SEED (R247). -/
  | mplSeed (p : Fin 8)
  /-- TRICKLE_INSTANT (R249). -/
  | trickleInstant (n : Nat) (faults : Fin 5)
  /-- TRICKLE_INTERVAL_END (R249). -/
  | trickleIntervalEnd (n : Nat)
  /-- SEEN_ENTRY_EXPIRY (R248). -/
  | seenEntryExpiry (p : Fin 8) (seed : Nat) (seq : Byte)
  /-- TWIN_ENTRY_EXPIRY (R253). -/
  | twinEntryExpiry (p : Fin 8) (o : Fin 524288) (seq : BitVec 16)
  /-- GROUP_DEFINE (R258). -/
  | groupDefine (c : CmdDesc)
  /-- GROUP_ADD (R256). -/
  | groupAdd (c : CmdDesc) (dma : Dma)
  /-- GROUP_REMOVE (R258). -/
  | groupRemove (c : CmdDesc) (dma : Dma)
  /-- GROUP_COMPACT (R258). -/
  | groupCompact (c : CmdDesc)
  /-- GROUP_READ (R258). -/
  | groupRead (c : CmdDesc)
  /-- GROUP_DELETE (R258). -/
  | groupDelete (c : CmdDesc)
  /-- CVN_POST (R263). -/
  | cvnPost (c : CmdDesc) (dma : Dma) (faults : Fin 5)
  /-- CVN_CANCEL (R265). -/
  | cvnCancel (c : CmdDesc)
  /-- CARAVAN_PHASE_END (R264). -/
  | caravanPhaseEnd (cid : BitVec 16)
  /-- SWEEP_COPY_QUEUE (R264). -/
  | sweepCopyQueue (cid : BitVec 16) (faults : Fin 5)
  /-- CARAVAN_EXPIRY (R265). -/
  | caravanExpiry (cid : BitVec 16)
  /-- CONCUR_TIMEOUT (R268). -/
  | concurTimeout (g : BitVec 16) (p : Part)
  /-- CARAVAN_ID_RELEASE (R269). -/
  | caravanIdRelease (cid : BitVec 16)
  /-- IMG_OPEN (R271). -/
  | imgOpen (c : CmdDesc) (dma : Dma)
  /-- IMG_CANCEL (R275). -/
  | imgCancel (c : CmdDesc)
  /-- IMAGE_LOAD_DONE (R271). -/
  | imageLoadDone (i : Fin 4)
  /-- IMAGE_BLOCK_SEND (R274). -/
  | imageBlockSend (i : Fin 4) (faults : Fin 5)
  /-- REPORT_WINDOW_EXPIRY (R274). -/
  | reportWindowExpiry (i : Fin 4)
  /-- REFILL_DONE (R285). -/
  | refillDone (q : Nat)
  /-- QUEUE_FLUSH (R289). -/
  | queueFlush (p : Part) (data : Word)
  /-- QUEUE_ENTRY_WRITE (R281). -/
  | queueEntryWrite (p : Part) (data : Word)
  /-- EGRESS_DEQUEUE (R290). -/
  | egressDequeue (port : Fin 8)
  /-- POP_WAIT (R292). -/
  | popWait (p : Part)
  /-- POP_DATA (R292). -/
  | popData (p : Part)
  /-- SHAPER_RATE_WRITE (R294). -/
  | shaperRateWrite (p : Part) (data : Word)
  /-- SHAPER_BURST_WRITE (R294). -/
  | shaperBurstWrite (p : Part) (data : Word)
  /-- POLICER_WRITE (R299). -/
  | policerWrite (p : Part) (data : Word)
  /-- SHAPER_ELIGIBLE (R293). -/
  | shaperEligible (i : Fin 1024)
  /-- GCL_COMMIT (R297). -/
  | gclCommit (p : Part) (e : Fin 4) (data : Word)
  /-- GCL_SWITCH (R297). -/
  | gclSwitch (e : Fin 4)
  /-- GATE_INTERVAL_END (R296). -/
  | gateIntervalEnd (e : Fin 4)
  /-- DOORBELL (R311). -/
  | doorbell (p : Part) (r : Nat) (data : Word)
  /-- RING_ENABLE (R310). -/
  | ringEnable (p : Part) (r : Nat) (data : Word)
  /-- RING_DISABLE (R312). -/
  | ringDisable (p : Part) (r : Nat) (data : Word)
  /-- TX_DESC_FETCH (R316). -/
  | txDescFetch (p : Part) (r : Fin 16) (dma : Dma)
  /-- COMMAND_FETCH (R323). -/
  | commandFetch (p : Part) (dma : Dma)
  /-- RX_WRITEBACK (R319). -/
  | rxWriteback (p : Part) (r : Fin 16) (dma : Dma)
  /-- VECTOR_HOLDOFF_EXPIRY (R330). -/
  | vectorHoldoffExpiry (p : Part) (v : Fin 32)
  /-- MSIX_UNMASK (R330). -/
  | msixUnmask (p : Part) (off : BitVec 14) (data : Option Word)
  /-- CONFIG_REQUEST (R307). -/
  | configRequest (p : Part) (a : CfgAccess)
  /-- BAR0_READ_TIMEOUT (R309). -/
  | bar0ReadTimeout (p : Part)
  /-- PART_MAP_WRITE (R305). -/
  | partMapWrite (p : Part) (data : Word)
  /-- PART_RESET (R332). -/
  | partReset (p : Part) (data : Word)
  /-- FUNCTION_LEVEL_RESET (R332). -/
  | functionLevelReset (p : Part)
  /-- SCHED_WRITE (R324). -/
  | schedWrite (c : CmdDesc) (dma : Dma)
  /-- SCHED_READ (R324). -/
  | schedRead (c : CmdDesc)
  /-- QUIET_EXIT (R379). -/
  | quietExit (c : CmdDesc)
  /-- BIST_RUN (R436). -/
  | bistRun (c : CmdDesc)
  /-- BIST_DONE (R437). -/
  | bistDone (w0 w1 w2 w3 : Word)
  /-- LOCK_UNLOCK (R449). -/
  | lockUnlock (p : Part)
  /-- LOCK_ARM (R449). -/
  | lockArm (p : Part) (data : Word)
  /-- LOCK_TIMEOUT (R449). -/
  | lockTimeout (p : Part)
  /-- BANK_SELECT (R443). -/
  | bankSelect (p : Part) (data : Word)
  /-- PORT_ENABLE (R335). -/
  | portEnable (p : Part) (e : Fin 4) (data : Word)
  /-- PORT_DISABLE (R335). -/
  | portDisable (p : Part) (e : Fin 4) (data : Word)
  /-- ETH_LINK (R335). -/
  | ethLink (e : Fin 4) (up : Bool) (speed : Fin 4) (los : Bool)
  /-- ETH_FRAME_RX (R336). -/
  | ethFrameRx (e : Fin 4) (bs : List Byte) (fcsOk : Bool)
  /-- ETH_INGRESS_DRAIN (R278). -/
  | ethIngressDrain (e : Fin 4)
  /-- ETH_TX_DONE (R317). -/
  | ethTxDone (e : Fin 4)
  /-- PRP_CONFIG_WRITE (R340). -/
  | prpConfigWrite (p : Part) (data : Word)
  /-- PRP_ENTRY_FORGET (R341). -/
  | prpEntryForget (src : BitVec 48)
  /-- TXTS_POP (R343). -/
  | txtsPop (p : Part) (e : Fin 4)
  /-- MDIO_WRITE (R334). -/
  | mdioWrite (p : Part) (data : Word)
  /-- MDIO_READ (R334). -/
  | mdioRead (p : Part) (data : Word)
  /-- MDIO_DONE (R334). -/
  | mdioDone (answer : BitVec 16)
  /-- TIME_SET (R347). -/
  | timeSet (p : Part)
  /-- TIME_ADJUST (R347). -/
  | timeAdjust (p : Part)
  /-- DELAY_REQ_SEND (R350). -/
  | delayReqSend (d : Fin 2)
  /-- DOMAIN_TIMEOUT (R351). -/
  | domainTimeout (d : Fin 2)
  /-- TIMER_WRAP (R356). -/
  | timerWrap (t : Fin 8)
  /-- TIMER_COMPARE (R358). -/
  | timerCompare (t : Fin 8)
  /-- TIMER_CLEAR (R356). -/
  | timerClear (p : Part) (t : Fin 8)
  /-- TIMER_COMPARE_WRITE (R358). -/
  | timerCompareWrite (p : Part) (t : Fin 8) (data : Word)
  /-- TIMER_PERIOD_WRITE (R359). -/
  | timerPeriodWrite (p : Part) (t : Fin 8) (data : Word)
  /-- TIMER_COUNT_READ (R357). -/
  | timerCountRead (p : Part) (t : Fin 8)
  /-- TIME_READ (R357). -/
  | timeRead (p : Part)
  /-- CAPTURE_EDGE (R362). -/
  | captureEdge (i : Fin 4) (rising : Bool) (samples : Nat)
  /-- TOUT_PULSE_END (R363). -/
  | toutPulseEnd (k : Fin 4)
  /-- MEMORY_UE (R371). -/
  | memoryUe (u : UeStore)
  /-- CLOCK_CHECK (R374). -/
  | clockCheck (lock : Bool) (k3 k4 : Int)
  /-- TIME_PLAUSIBILITY_CHECK (R374). -/
  | timePlausibilityCheck (ppm : Nat)
  /-- ISLAND_SELF_CHECK (R372). -/
  | islandSelfCheck (pass : Bool)
  /-- OUTPUT_MONITOR (R373). -/
  | outputMonitor (a : Fin 4) (txen dac : Bool)
  /-- BEACON_CHECK (R373). -/
  | beaconCheck (id : Nat)
  /-- LOCKSTEP_MISMATCH (R375). -/
  | lockstepMismatch (i : Fin 4) (sram : Bool)
  /-- WATCHDOG_EXPIRY (R375). -/
  | watchdogExpiry (i : Fin 4)
  /-- PAIR_RESTART_DONE (R375). -/
  | pairRestartDone (i : Fin 4)
  /-- FORCE_QUIET (R372). -/
  | forceQuiet (p : Part) (data : Word)
  /-- YARROW_RESUME (R382). -/
  | yarrowResume (p : Part) (data : Word)
  /-- YARROW_CLUSTER_DONE (R381). -/
  | yarrowClusterDone (sig : BitVec 128) (found : Fin 3)
  /-- DROVER_ATTEMPT (R383). -/
  | droverAttempt (a : Fin 4) (tx : Bool)
  /-- LEDGER_FREEZE (R389). -/
  | ledgerFreeze (p : Part)
  /-- LEDGER_UNFREEZE (R389). -/
  | ledgerUnfreeze (p : Part)
  /-- LOG_DATA_READ (R386). -/
  | logDataRead (p : Part) (trail : Bool)
  /-- LATENCY_TOLERANCE_WRITE (R393). -/
  | latencyToleranceWrite (p : Part) (data : Word)
  /-- POWER_FORCE (R394). -/
  | powerForce (p : Part) (data : Word)
  /-- CLUSTER_UNGATE_DONE (R394). -/
  | clusterUngateDone (c : Fin 16)
  /-- WAKE_N_INPUT (R396). -/
  | wakeNInput (samples : Nat)
  /-- SUPPLY_FAULT (R413). -/
  | supplyFault (d : Die)
  /-- SOFT (R398). -/
  | soft (p : Part) (data : Word)
  /-- RECOVERY (R398). -/
  | recovery (p : Part) (data : Word)
  /-- F_DIE_BOOT (R421). -/
  | fDieBoot (recovLow : Bool)
  /-- BOOT_SELFTEST_DONE (R424). -/
  | bootSelftestDone (sigs : List (BitVec 128))
  /-- ROLLBACK_COMMIT (R425). -/
  | rollbackCommit (p : Part) (data : Word)
  /-- BOOT_SELECT (R426). -/
  | bootSelect (p : Part) (data : Word)
  /-- CLR_TRIES_A (R422). -/
  | clrTriesA (p : Part) (data : Word)
  /-- CLR_TRIES_B (R422). -/
  | clrTriesB (p : Part) (data : Word)
  /-- IDENT (R430). -/
  | ident (seq : Byte)
  /-- SLOTS (R430). -/
  | slots (seq : Byte)
  /-- FLASH_ERASE (R430). -/
  | flashErase (seq slot : Byte) (first count : BitVec 16)
  /-- FLASH_WRITE (R430). -/
  | flashWrite (seq slot : Byte) (off : Word) (data : List Byte)
  /-- FLASH_READ (R430). -/
  | flashRead (seq slot : Byte) (off : Word) (len : BitVec 16)
  /-- SLOT_CRC (R430). -/
  | slotCrc (seq slot : Byte) (off len : Word)
  /-- FLASH_OP_DONE (R430). -/
  | flashOpDone (ok : Bool)
  /-- RAM_LOAD (R433). -/
  | ramLoad (seq : Byte) (off : Word) (data : List Byte)
  /-- RAM_RUN (R433). -/
  | ramRun (seq : Byte)
  /-- RESET (R430). -/
  | smiviReset (seq : Byte)
  /-- CLUSTER_FAULT_IN_SERVICE (R382). -/
  | clusterFaultInService (c : Fin 16)
  /-- RESERVED_TYPE_MESSAGE (R19). -/
  | reservedTypeMessage (d : Die) (m : PassMsg)
  /-- SMIVI_INVALID_COMMAND (R429). -/
  | smiviInvalidCommand (octets : List Byte)
  /-- BUCKET_REBUILD_DONE (R371). -/
  | bucketRebuildDone (b : Bool) (i : Fin 135168)
  /-- TIME_SYNC_SEND (R23). -/
  | timeSyncSend
  /-- PASS_RETRAIN_DONE (R18). -/
  | passRetrainDone
  /-- PASS_DOWN (R22). -/
  | passDown
  /-- K6_CLOCK_LOSS (R26). -/
  | k6ClockLoss
  /-- WEIGHT_BANK_SWAP (R61). -/
  | weightBankSwap
  /-- SLOT_BOUNDARY (R103). -/
  | slotBoundary
  /-- DETECTION_COMMIT (R90). -/
  | detectionCommit
  /-- FLUSH_PASS_START (R223). -/
  | flushPassStart
  /-- FLUSH_DONE (R223). -/
  | flushDone
  /-- SWEEPER_VISIT (R220). -/
  | sweeperVisit
  /-- FILTER_REBUILD_DONE (R232). -/
  | filterRebuildDone
  /-- LPM_MODE_CHANGE_DONE (R233). -/
  | lpmModeChangeDone
  /-- CELL_AUDIT (R288). -/
  | cellAudit
  /-- POP_WAIT_EXPIRY (R292). -/
  | popWaitExpiry
  /-- DEPTH_SAMPLE (R302). -/
  | depthSample
  /-- FW_READY (R331). -/
  | fwReady
  /-- SUPERVISION_TX (R340). -/
  | supervisionTx
  /-- DOMAIN_REVERT (R352). -/
  | domainRevert
  /-- PPS_IN_EDGE (R355). -/
  | ppsInEdge
  /-- PPS_OUT_PULSE (R354). -/
  | ppsOutPulse
  /-- PPS_OUT_END (R354). -/
  | ppsOutEnd
  /-- RTC_UPDATE (R346). -/
  | rtcUpdate
  /-- QUIET_ESCALATION (R380). -/
  | quietEscalation
  /-- YARROW_CLUSTER_START (R381). -/
  | yarrowClusterStart
  /-- DROVER_INTERVAL_END (R384). -/
  | droverIntervalEnd
  /-- FREEZE_LIMIT_EXPIRY (R389). -/
  | freezeLimitExpiry
  /-- POWER_STATE_EXIT_DONE (R393). -/
  | powerStateExitDone
  /-- IDLE_TIMER_EXPIRY (R395). -/
  | idleTimerExpiry
  /-- VAULT_SAVE_START (R396). -/
  | vaultSaveStart
  /-- RTC_ALARM (R396). -/
  | rtcAlarm
  /-- HOLDUP_TRIGGER (R406). -/
  | holdupTrigger
  /-- SAVE_COMPLETE (R407). -/
  | saveComplete
  /-- VHOLD_LOW (R407). -/
  | vholdLow
  /-- RIDE_THROUGH (R409). -/
  | rideThrough
  /-- VBAT_LOSS (R412). -/
  | vbatLoss
  /-- POR_F (R398). -/
  | porF
  /-- POR_H (R398). -/
  | porH
  /-- PIN_F (R399). -/
  | pinF
  /-- PIN_H (R398). -/
  | pinH
  /-- RESET_PASS_TIMEOUT (R399). -/
  | resetPassTimeout
  /-- TRIES_CLEAR_TIMER (R422). -/
  | triesClearTimer
  /-- FUSE_BLOW_DONE (R425). -/
  | fuseBlowDone
  /-- SMIVI_RESPONSE_READ (R428). -/
  | smiviResponseRead
  /-- PPS_SOURCE_TIMEOUT (R355). -/
  | ppsSourceTimeout
  /-- LEDGER_DRAIN_DONE (R389). -/
  | ledgerDrainDone
  /-- POWER_STATE_ENTRY_DONE (R395). -/
  | powerStateEntryDone
deriving DecidableEq, Repr

end Sys2Proof
end

