-- ==== Sys2Proof/Decode.lean ====
section
/-! DEFINITION. The command that a word spells. The spec's table gives its rows no bits: no word spells a command. -/

namespace Sys2Proof

/-- The command that a word of `nbits` bits spells, for the rows to which the spec's table gives bits; it gives none to any row. -/
def decodeTableWord (_nbits _w : Nat) : Option Instr := none

end Sys2Proof
end

