-- ==== Sys2Proof/Config.lean ====
section
/-! DEFINITION. What one chip fixes and what the spec leaves open: constants with no body, so that no proof can see what
they are. Fused values of the part, cryptographic functions the spec names but does not define, and the free values. -/

namespace Sys2Proof.Config

/-- The stream of free values: every value the spec leaves open is this constant at the next index of `State.free`. -/
opaque freeVal : Nat → Nat

/-! Fused values of one part (R27, R163, R335, R420, R425). -/

/-- Chip EUI-64 of `LINK_EUI` (fused). -/
opaque linkEui : BitVec 64
/-- Temperature grade bit of `SYS_ID` (fused): true is grade I. -/
opaque gradeI : Bool
/-- Fused MAC address of Ethernet port `e`. -/
opaque ethMac : Nat → BitVec 48
/-- 128-bit unit ID (fused). -/
opaque unitId : BitVec 128
/-- Lifecycle fuse: true is FIELD. -/
opaque lifecycleField : Bool
/-- Factory array calibration, per array, window and element slot: the fused factor (R66). It is no zero. -/
opaque fusedCal : Nat → Nat → Nat → Rat × Rat
/-- Full scale of a beam's output, at which the sum of R58 saturates. -/
opaque beamLimit : Rat

/-! Functions of the air interface that the spec takes from IEEE 802.15.4 and does not give. -/

/-- Air time in ns of a frame in a PHY mode whose timing the spec does not give (SUN OFDM, SUN O-QPSK, SUN FSK with FEC): family, mode
byte, MCS or rate mode, FEC, preamble octets, PSDU octets. -/
opaque airNs : Nat → Nat → Nat → Bool → Nat → Nat → Nat

/-- Symbol rate of a mode of SUN OFDM or SUN O-QPSK in 0.1 symbols a second, less 1: family and mode byte. -/
opaque symbolRate : Nat → Nat → Nat

/-- Occupied bandwidth in Hz of a PHY mode: family and mode byte (R44). -/
opaque occupiedHz : Nat → Nat → Nat

/-! Fused keys (R180, R420). -/

/-- The device key, which the PUF regenerates at every boot (R180). -/
opaque deviceKey : BitVec 256

/-- The fused key hash of a `KEY_INDEX`; none where no hash is fused or the key is revoked (R420). -/
opaque keyHash : Nat → Option (List (BitVec 8))

/-- The signature of a region's BIST with logic (1) or memory (2) alone, from the manifest's entry for both (R437): region, selection, entry. -/
opaque bistPart : Nat → Nat → Nat → Nat

/-- By which pipeline a frame of an ingress port and source address goes (R33). -/
opaque pipeHash : Nat → Nat → Nat

/-- The error of the board's HREFCLK in ppb; its size counts up to 300,000 (R25, R26). -/
opaque hrefPpb : Int

/-- What GiB of DRAM the board fits, as found at boot: 4 more than this constant modulo 13 (R28, R454). -/
opaque dramGib : Nat

/-- Size in octets of each egress FIFO of the H-die, of a port and priority (R290). -/
opaque egressFifo : Nat

/-! Hash functions of the prefix tables whose form the spec does not give (R232). -/

/-- Candidate bucket `i` (0 or 1) of a prefix of a length, and filter position `i` (0 or 1). -/
opaque lpmBucket : Nat → Nat → Nat → Nat
opaque lpmBit : Nat → Nat → Nat → Nat

end Sys2Proof.Config
end

