-- ==== Sys2Proof/Machine/Assoc.lean ====
section
/-! DEFINITION. Sparse tables: lists of (key, value) pairs in one canonical form, keys strictly rising and no entry equal to
what an unlisted key holds; and the bit-field helpers over registers. -/

namespace Sys2Proof.Machine

/-- The value a table holds at a key; `d` is what an unlisted key holds. -/
def aget {α : Type} (d : α) (k : Nat) : List (Nat × α) → α
  | [] => d
  | (k', v) :: m => if k' = k then v else aget d k m

/-- Puts an entry in its place among rising keys. -/
def aput {α : Type} (k : Nat) (v : α) : List (Nat × α) → List (Nat × α)
  | [] => [(k, v)]
  | (k', v') :: m => if k < k' then (k, v) :: (k', v') :: m else (k', v') :: aput k v m

/-- The table without a key. -/
def adel {α : Type} (k : Nat) : List (Nat × α) → List (Nat × α)
  | [] => []
  | (k', v') :: m => if k' = k then adel k m else (k', v') :: adel k m

/-- Writes a table entry; writing what an unlisted key holds removes the entry. -/
def aset {α : Type} [DecidableEq α] (d : α) (k : Nat) (v : α) (m : List (Nat × α)) : List (Nat × α) :=
  if v = d then adel k m else aput k v (adel k m)

/-- Rewrites one entry by a function. -/
def amod {α : Type} [DecidableEq α] (d : α) (k : Nat) (f : α → α) (m : List (Nat × α)) : List (Nat × α) :=
  aset d k (f (aget d k m)) m

/-- The canonical form of a table. -/
def awf {α : Type} [DecidableEq α] (d : α) : List (Nat × α) → Bool
  | [] => true
  | (k, v) :: m => decide (v ≠ d) && m.all (fun e => decide (k < e.1)) && awf d m

/-- The value of a field of a register word. -/
def fget (f : Fld) (v : Word) : Nat := (v.toNat / 2 ^ f.lo) % 2 ^ f.w

/-- The word with a field replaced. -/
def fset (f : Fld) (v : Word) (x : Nat) : Word :=
  BitVec.ofNat 32 (v.toNat - fget f v * 2 ^ f.lo + (x % 2 ^ f.w) * 2 ^ f.lo)

/-- Bit `i` of a word. -/
def bitAt (v : Word) (i : Nat) : Bool := v.getLsbD i

/-- Bits `hi` to `lo` of a word, as a number. -/
def bitsAt (v : Word) (lo w : Nat) : Nat := (v.toNat / 2 ^ lo) % 2 ^ w

/-- Bit `i` of a mask held as a number. -/
def nbit (m i : Nat) : Bool := (m / 2 ^ i) % 2 == 1

/-- A number with bit `i` set. -/
def setNbit (m i : Nat) : Nat := if nbit m i then m else m + 2 ^ i

/-- A number with bit `i` cleared. -/
def clrNbit (m i : Nat) : Nat := if nbit m i then m - 2 ^ i else m

/-- Two's complement reading of the low `w` bits of a number. -/
def sext (w x : Nat) : Int :=
  let y := x % 2 ^ w
  if y < 2 ^ (w - 1) then (y : Int) else (y : Int) - (2 ^ w : Nat)

/-- The low `w` bits of an integer, as a number. -/
def trunc (w : Nat) (x : Int) : Nat := (x % (2 ^ w : Nat)).toNat

/-- Octets of a number, the lowest first. -/
def leBytes : Nat → Nat → List Byte
  | 0, _ => []
  | n + 1, x => BitVec.ofNat 8 x :: leBytes n (x / 256)

/-- The number octets spell, the lowest first. -/
def leNat : List Byte → Nat
  | [] => 0
  | b :: bs => b.toNat + 256 * leNat bs

/-- The number octets spell, the highest first. -/
def beNat (bs : List Byte) : Nat := bs.foldl (fun a b => a * 256 + b.toNat) 0

/-- `n` octets from an offset, as a number, the first the most significant. -/
def beAt (bs : List Byte) (off n : Nat) : Nat := beNat ((bs.drop off).take n)

/-- Octets of a number, the highest first. -/
def beBytes (n x : Nat) : List Byte := (leBytes n x).reverse

/-- Saturating increment of a 32-bit counter. -/
def satInc (v : Word) : Word := if v = 0xFFFFFFFF#32 then v else v + 1

/-- Saturating addition to a counter of `w` bits. -/
def satAdd (w x n : Nat) : Nat := min (x + n) (2 ^ w - 1)

end Sys2Proof.Machine
end

