-- ==== Sys2Proof/Machine/Crc.lean ====
section
/-! DEFINITION. The cyclic redundancy checks the spec names: CRC-32 with the IEEE 802.3 polynomial (R16), CRC-32C (R370, R386,
R428); and octets of words in the order of R7. PRESUMED: both in their usual reflected form with all-ones start and final
complement (log entry 3). -/

namespace Sys2Proof.Machine

/-- `n` steps of a reflected 32-bit remainder register. -/
def crcBits (poly : Word) : Nat → Word → Word
  | 0, c => c
  | n + 1, c => crcBits poly n (if c.getLsbD 0 then (c >>> 1) ^^^ poly else c >>> 1)

/-- One octet into the remainder register. -/
def crcByte (poly : Word) (c : Word) (b : Byte) : Word := crcBits poly 8 (c ^^^ b.zeroExtend 32)

/-- A reflected CRC over octets. -/
def crcOf (poly : Word) (bs : List Byte) : Word := ~~~ (bs.foldl (crcByte poly) 0xFFFFFFFF#32)

/-- CRC-32 of IEEE 802.3 (R16). -/
def crc32 (bs : List Byte) : Word := crcOf 0xEDB88320#32 bs

/-- CRC-32C (R370, R386, R428). -/
def crc32c (bs : List Byte) : Word := crcOf 0x82F63B78#32 bs

/-- A word's octets, least significant first (R7). -/
def wordBytes (w : Word) : List Byte := [w.extractLsb' 0 8, w.extractLsb' 8 8, w.extractLsb' 16 8, w.extractLsb' 24 8]

/-- Words as octets (R7). -/
def wordsBytes (ws : List Word) : List Byte := ws.flatMap wordBytes

/-- Octets as words, least significant octet first, padded with zeros (R7, R16). -/
def bytesWords : List Byte → List Word
  | [] => []
  | [a] => [BitVec.ofNat 32 (leNat [a])]
  | [a, b] => [BitVec.ofNat 32 (leNat [a, b])]
  | [a, b, c] => [BitVec.ofNat 32 (leNat [a, b, c])]
  | a :: b :: c :: d :: r => BitVec.ofNat 32 (leNat [a, b, c, d]) :: bytesWords r

/-- Word `i` of a list of words; 0 beyond its end. -/
def wordAt (ws : List Word) (i : Nat) : Word := ws.getD i 0

end Sys2Proof.Machine
end

