-- ==== Sys2Proof/Machine/RegMap.lean ====
section
/-! DEFINITION. The register map: one key per register of the spec's register tables (block number of
R444 times 4096, plus the reduced offset of R446, plus 0x20000 times the copy number p + 1 of a register that has one copy
per partition), one field per row of those tables, the access masks of R439 and the reset values. -/

namespace Sys2Proof.Machine.R

/-- `RFP_BANDPLAN`: 02, R73. -/
abbrev RFP_BANDPLAN : Nat := 0x4000
/-- `RFP_FE_TIMING`: 02, R73. -/
abbrev RFP_FE_TIMING : Nat := 0x4004
/-- `RFP_FE_POL`: 02, R73. -/
abbrev RFP_FE_POL : Nat := 0x4008
/-- `RFP_FE_BYP`: 02, R73. -/
abbrev RFP_FE_BYP : Nat := 0x400C
/-- `RFP_ERR`: 02, R73. -/
abbrev RFP_ERR : Nat := 0x4010
/-- `ARR_CFGa`: 02, R73. -/
abbrev ARR_CFG (a : Nat) : Nat := 0x5000 + 4 * a
/-- `ARR_WINa_w`: 02, R73. -/
abbrev ARR_WIN (a : Nat) (w : Nat) : Nat := 0x5010 + 8 * a + 4 * w
/-- `ARR_BLANKa`: 02, R73. -/
abbrev ARR_BLANK (a : Nat) : Nat := 0x5030 + 4 * a
/-- `ARR_TX_CAPa`: 02, R73. -/
abbrev ARR_TX_CAP (a : Nat) : Nat := 0x5040 + 4 * a
/-- `ARR_WADDR`: 02, R73. -/
abbrev ARR_WADDR : Nat := 0x5050
/-- `ARR_WDATA`: 02, R73. -/
abbrev ARR_WDATA : Nat := 0x5054
/-- `ARR_WCOMMIT`: 02, R73. -/
abbrev ARR_WCOMMIT : Nat := 0x5058
/-- `ARR_CAL_CTRL`: 02, R73. -/
abbrev ARR_CAL_CTRL : Nat := 0x505C
/-- `ARR_CAL_STATUSa`: 02, R73. -/
abbrev ARR_CAL_STATUS (a : Nat) : Nat := 0x5060 + 4 * a
/-- `ARR_STREAM_USE`: 02, R73. -/
abbrev ARR_STREAM_USE : Nat := 0x5070
/-- `ARR_CNT_PWRDEF`: 02, R73. -/
abbrev ARR_CNT_PWRDEF : Nat := 0x5074
/-- `ARR_CNT_STRDEF`: 02, R73. -/
abbrev ARR_CNT_STRDEF : Nat := 0x5078
/-- `ARR_CNT_BLANKAB`: 02, R73. -/
abbrev ARR_CNT_BLANKAB : Nat := 0x507C
/-- `ARR_BEAMb`: 02, R73. -/
abbrev ARR_BEAM (b : Nat) : Nat := 0x5100 + 4 * b
/-- `CHZ_LWE`: 03, R102. -/
abbrev CHZ_LWE : Nat := 0x6000
/-- `CHZ_BINS`: 03, R102. -/
abbrev CHZ_BINS : Nat := 0x6004
/-- `CHZ_NARROW`: 03, R102. -/
abbrev CHZ_NARROW : Nat := 0x6008
/-- `SRCH_ERR`: 03, R102. -/
abbrev SRCH_ERR : Nat := 0x7000
/-- `SRCH_LP_ADDR`: 03, R102. -/
abbrev SRCH_LP_ADDR : Nat := 0x7004
/-- `SRCH_LP_DATA0`: 03, R102. -/
abbrev SRCH_LP_DATA0 : Nat := 0x7008
/-- `SRCH_LP_DATA1`: 03, R102. -/
abbrev SRCH_LP_DATA1 : Nat := 0x700C
/-- `SRCH_PROF_ADDR`: 03, R102. -/
abbrev SRCH_PROF_ADDR : Nat := 0x7010
/-- `SRCH_PROF_DATA`: 03, R102. -/
abbrev SRCH_PROF_DATA : Nat := 0x7014
/-- `SRCH_STAT_ADDR`: 03, R102. -/
abbrev SRCH_STAT_ADDR : Nat := 0x7018
/-- `SRCH_STAT_DATA`: 03, R102. -/
abbrev SRCH_STAT_DATA : Nat := 0x701C
/-- `SRCH_CNT_COLLIDE`: 03, R102. -/
abbrev SRCH_CNT_COLLIDE : Nat := 0x7020
/-- `SRCH_CNT_NOLANE`: 03, R102. -/
abbrev SRCH_CNT_NOLANE : Nat := 0x7024
/-- `SRCH_CNT_PREEMPT`: 03, R102. -/
abbrev SRCH_CNT_PREEMPT : Nat := 0x7028
/-- `SRCH_LP_USE`: 03, R102. -/
abbrev SRCH_LP_USE : Nat := 0x702C
/-- `LANE_CFG`: 03, R102. -/
abbrev LANE_CFG : Nat := 0x8000
/-- `LANE_CAP`: 03, R102. -/
abbrev LANE_CAP : Nat := 0x8004
/-- `LANE_STATE`: 03, R102. -/
abbrev LANE_STATE : Nat := 0x8008
/-- `LANE_BUSY`: 03, R102. -/
abbrev LANE_BUSY : Nat := 0x800C
/-- `LANE_HIGHWATER`: 03, R102. -/
abbrev LANE_HIGHWATER : Nat := 0x8010
/-- `LANE_MIGRATED`: 03, R102. -/
abbrev LANE_MIGRATED : Nat := 0x8014
/-- `LANE_PEEK_ADDR`: 03, R102. -/
abbrev LANE_PEEK_ADDR : Nat := 0x8018
/-- `LANE_PEEK`: 03, R102. -/
abbrev LANE_PEEK : Nat := 0x801C
/-- `LANE_COMMITc`: 03, R102. -/
abbrev LANE_COMMIT (c : Nat) : Nat := 0x8040 + 4 * c
/-- `XRD_OPEN`: 03, R102. -/
abbrev XRD_OPEN : Nat := 0x9000
/-- `XRD_CNT_FIRST`: 03, R102. -/
abbrev XRD_CNT_FIRST : Nat := 0x9004
/-- `XRD_CNT_MERGED`: 03, R102. -/
abbrev XRD_CNT_MERGED : Nat := 0x9008
/-- `XRD_CNT_EARLY`: 03, R102. -/
abbrev XRD_CNT_EARLY : Nat := 0x900C
/-- `XRD_CNT_LATECOPY`: 03, R102. -/
abbrev XRD_CNT_LATECOPY : Nat := 0x9010
/-- `XRD_CNT_RETX`: 03, R102. -/
abbrev XRD_CNT_RETX : Nat := 0x9014
/-- `XRD_CNT_RECENTFULL`: 03, R102. -/
abbrev XRD_CNT_RECENTFULL : Nat := 0x9018
/-- `SLOT_CFG`: 04, R131. -/
abbrev SLOT_CFG : Nat := 0xA000
/-- `SLOT_CTRL`: 04, R131. -/
abbrev SLOT_CTRL : Nat := 0xA004
/-- `SLOT_EPOCH_S`: 04, R131. -/
abbrev SLOT_EPOCH_S : Nat := 0xA008
/-- `SLOT_EPOCH_NS`: 04, R131. -/
abbrev SLOT_EPOCH_NS : Nat := 0xA00C
/-- `SLOT_ASN_LO`: 04, R131. -/
abbrev SLOT_ASN_LO : Nat := 0xA010
/-- `SLOT_ASN_HI`: 04, R131. -/
abbrev SLOT_ASN_HI : Nat := 0xA014
/-- `SLOT_ERR`: 04, R131. -/
abbrev SLOT_ERR : Nat := 0xA018
/-- `SLOT_HEALTH`: 04, R131. -/
abbrev SLOT_HEALTH : Nat := 0xA01C
/-- `SLOT_CNT_BLANKDEF`: 04, R131. -/
abbrev SLOT_CNT_BLANKDEF : Nat := 0xA020
/-- `SLOT_CNT_SPANDEF`: 04, R131. -/
abbrev SLOT_CNT_SPANDEF : Nat := 0xA024
/-- `SLOT_CNT_NOFIT`: 04, R131. -/
abbrev SLOT_CNT_NOFIT : Nat := 0xA028
/-- `SLOT_CNT_ACKYIELD`: 04, R131. -/
abbrev SLOT_CNT_ACKYIELD : Nat := 0xA02C
/-- `SLOT_CNT_SWITCH`: 04, R131. -/
abbrev SLOT_CNT_SWITCH : Nat := 0xA030
/-- `SLOT_CELL_ADDR`: 04, R131. -/
abbrev SLOT_CELL_ADDR : Nat := 0xA040
/-- `SLOT_CELL_DATA0`: 04, R131. -/
abbrev SLOT_CELL_DATA0 : Nat := 0xA044
/-- `SLOT_CELL_DATA1`: 04, R131. -/
abbrev SLOT_CELL_DATA1 : Nat := 0xA048
/-- `SLOT_HOP_ADDR`: 04, R131. -/
abbrev SLOT_HOP_ADDR : Nat := 0xA050
/-- `SLOT_HOP_DATA`: 04, R131. -/
abbrev SLOT_HOP_DATA : Nat := 0xA054
/-- `SLOT_HOPh_CH0`: 04, R131. -/
abbrev SLOT_HOP_CH0 (h : Nat) : Nat := 0xA080 + 8 * h
/-- `SLOT_HOPh_CFG`: 04, R131. -/
abbrev SLOT_HOP_CFG (h : Nat) : Nat := 0xA084 + 8 * h
/-- `SLOT_TPLt_W0`: 04, R131. -/
abbrev SLOT_TPL_W0 (t : Nat) : Nat := 0xA100 + 32 * t
/-- `SLOT_TPLt_W1`: 04, R131. -/
abbrev SLOT_TPL_W1 (t : Nat) : Nat := 0xA104 + 32 * t
/-- `SLOT_TPLt_W2`: 04, R131. -/
abbrev SLOT_TPL_W2 (t : Nat) : Nat := 0xA108 + 32 * t
/-- `SLOT_TPLt_W3`: 04, R131. -/
abbrev SLOT_TPL_W3 (t : Nat) : Nat := 0xA10C + 32 * t
/-- `SLOT_TPLt_W4`: 04, R131. -/
abbrev SLOT_TPL_W4 (t : Nat) : Nat := 0xA110 + 32 * t
/-- `SLOT_SFs_W0`: 04, R131. -/
abbrev SLOT_SF_W0 (s : Nat) : Nat := 0xA400 + 16 * s
/-- `SLOT_SFs_W1`: 04, R131. -/
abbrev SLOT_SF_W1 (s : Nat) : Nat := 0xA404 + 16 * s
/-- `SLOT_SFs_W2`: 04, R131. -/
abbrev SLOT_SF_W2 (s : Nat) : Nat := 0xA408 + 16 * s
/-- `LINK_ERR`: 05, R164. -/
abbrev LINK_ERR : Nat := 0xB000
/-- `LINK_EUI_LO`: 05, R164. -/
abbrev LINK_EUI_LO : Nat := 0xB004
/-- `LINK_EUI_HI`: 05, R164. -/
abbrev LINK_EUI_HI : Nat := 0xB008
/-- `LINK_TSRC01`: 05, R164. -/
abbrev LINK_TSRC01 : Nat := 0xB00C
/-- `LINK_TSRC23`: 05, R164. -/
abbrev LINK_TSRC23 : Nat := 0xB010
/-- `LINK_TSRC_STATE`: 05, R164. -/
abbrev LINK_TSRC_STATE : Nat := 0xB014
/-- `LINK_HOLD_DRIFT`: 05, R164. -/
abbrev LINK_HOLD_DRIFT : Nat := 0xB018
/-- `LINK_NBR_ADDR`: 05, R164. -/
abbrev LINK_NBR_ADDR (pt : Nat) : Nat := 0xB01C + 0x20000 * (pt + 1)
/-- `LINK_NBR_DATA`: 05, R164. -/
abbrev LINK_NBR_DATA : Nat := 0xB020
/-- `LINK_NBR_USE`: 05, R164. -/
abbrev LINK_NBR_USE : Nat := 0xB024
/-- `LINK_CNT_DUPREACK`: 05, R164. -/
abbrev LINK_CNT_DUPREACK : Nat := 0xB028
/-- `LINK_CNT_REPLAY`: 05, R164. -/
abbrev LINK_CNT_REPLAY : Nat := 0xB02C
/-- `LINK_CNT_UNKNOWN`: 05, R164. -/
abbrev LINK_CNT_UNKNOWN : Nat := 0xB030
/-- `LINK_CNT_POLICY`: 05, R164. -/
abbrev LINK_CNT_POLICY : Nat := 0xB034
/-- `LINK_CNT_RESADDR`: 05, R164. -/
abbrev LINK_CNT_RESADDR : Nat := 0xB038
/-- `LINK_CNT_TCCLIP`: 05, R164. -/
abbrev LINK_CNT_TCCLIP : Nat := 0xB03C
/-- `LINK_CNT_NACKTX`: 05, R164. -/
abbrev LINK_CNT_NACKTX : Nat := 0xB040
/-- `LINK_CNT_NACKRX`: 05, R164. -/
abbrev LINK_CNT_NACKRX : Nat := 0xB044
/-- `LINK_CNT_JOINDROP`: 05, R164. -/
abbrev LINK_CNT_JOINDROP : Nat := 0xB048
/-- `LINK_CNT_EBSKIP`: 05, R164. -/
abbrev LINK_CNT_EBSKIP : Nat := 0xB04C
/-- `LINK_CNT_REPROTECT`: 05, R164. -/
abbrev LINK_CNT_REPROTECT : Nat := 0xB050
/-- `LINK_CNT_OTHERDST`: 05, R164. -/
abbrev LINK_CNT_OTHERDST : Nat := 0xB054
/-- `PAN_pCTRL`: 05, R164. -/
abbrev PAN_CTRL (p : Nat) : Nat := 0xC000 + 64 * p
/-- `PAN_pID`: 05, R164. -/
abbrev PAN_ID (p : Nat) : Nat := 0xC004 + 64 * p
/-- `PAN_pPOLICY`: 05, R164. -/
abbrev PAN_POLICY (p : Nat) : Nat := 0xC008 + 64 * p
/-- `PAN_pPHY`: 05, R164. -/
abbrev PAN_PHY (p : Nat) : Nat := 0xC00C + 64 * p
/-- `PAN_pRETRY`: 05, R164. -/
abbrev PAN_RETRY (p : Nat) : Nat := 0xC010 + 64 * p
/-- `PAN_pBACKOFF`: 05, R164. -/
abbrev PAN_BACKOFF (p : Nat) : Nat := 0xC014 + 64 * p
/-- `PAN_pADDR`: 05, R164. -/
abbrev PAN_ADDR (p : Nat) : Nat := 0xC018 + 64 * p
/-- `PAN_pQUAR`: 05, R164. -/
abbrev PAN_QUAR (p : Nat) : Nat := 0xC01C + 64 * p
/-- `PAN_pEB_IE_LEN`: 05, R164. -/
abbrev PAN_EB_IE_LEN (p : Nat) : Nat := 0xC020 + 64 * p
/-- `PAN_pEB_IEw`: 05, R164. -/
abbrev PAN_EB_IE (p : Nat) (w : Nat) : Nat := 0xC024 + 64 * p + 4 * w
/-- `KEY_ERR`: 06, R201. -/
abbrev KEY_ERR : Nat := 0xD000
/-- `KEY_STATUS`: 06, R201. -/
abbrev KEY_STATUS : Nat := 0xD004
/-- `KEY_KEKCTL`: 06, R201. -/
abbrev KEY_KEKCTL : Nat := 0xD008
/-- `KEY_MISS_CFG`: 06, R201. -/
abbrev KEY_MISS_CFG : Nat := 0xD00C
/-- `KEY_CACHE_USE`: 06, R201. -/
abbrev KEY_CACHE_USE : Nat := 0xD010
/-- `KEY_SLOT_ERASE`: 06, R201. -/
abbrev KEY_SLOT_ERASE : Nat := 0xD014
/-- `KEY_TAMPER_CFG`: 06, R201. -/
abbrev KEY_TAMPER_CFG : Nat := 0xD018
/-- `KEY_TAMPER_STAT`: 06, R201. -/
abbrev KEY_TAMPER_STAT : Nat := 0xD01C
/-- `KEY_CTR_ADDR`: 06, R201. -/
abbrev KEY_CTR_ADDR (pt : Nat) : Nat := 0xD020 + 0x20000 * (pt + 1)
/-- `KEY_CTR_DATA`: 06, R201. -/
abbrev KEY_CTR_DATA : Nat := 0xD024
/-- `KEY_CTR_INFO`: 06, R201. -/
abbrev KEY_CTR_INFO : Nat := 0xD028
/-- `KEY_CNT_MISS`: 06, R201. -/
abbrev KEY_CNT_MISS : Nat := 0xD030
/-- `KEY_CNT_LATE`: 06, R201. -/
abbrev KEY_CNT_LATE : Nat := 0xD034
/-- `KEY_CNT_TIMEOUT`: 06, R201. -/
abbrev KEY_CNT_TIMEOUT : Nat := 0xD038
/-- `KEY_CNT_TXDEF`: 06, R201. -/
abbrev KEY_CNT_TXDEF : Nat := 0xD03C
/-- `KEY_CNT_EVICT`: 06, R201. -/
abbrev KEY_CNT_EVICT : Nat := 0xD040
/-- `KEY_CNT_MICFAIL`: 06, R201. -/
abbrev KEY_CNT_MICFAIL : Nat := 0xD044
/-- `KEY_CNT_SCRUB`: 06, R201. -/
abbrev KEY_CNT_SCRUB : Nat := 0xD048
/-- `KEY_CNT_ACKSPENT`: 06, R201. -/
abbrev KEY_CNT_ACKSPENT : Nat := 0xD04C
/-- `KEY_PANp_CFG`: 06, R201. -/
abbrev KEY_PAN_CFG (p : Nat) : Nat := 0xD100 + 8 * p
/-- `KEY_PANp_DRV`: 06, R201. -/
abbrev KEY_PAN_DRV (p : Nat) : Nat := 0xD104 + 8 * p
/-- `NDIR_ERR`: 07, R234. -/
abbrev NDIR_ERR : Nat := 0xE000
/-- `NDIR_USE`: 07, R234. -/
abbrev NDIR_USE : Nat := 0xE004
/-- `NDIR_USE_B`: 07, R234. -/
abbrev NDIR_USE_B : Nat := 0xE008
/-- `NDIR_OVF_USE`: 07, R234. -/
abbrev NDIR_OVF_USE : Nat := 0xE00C
/-- `NDIR_OVF_WARN`: 07, R234. -/
abbrev NDIR_OVF_WARN : Nat := 0xE010
/-- `NDIR_AGE`: 07, R234. -/
abbrev NDIR_AGE : Nat := 0xE014
/-- `NDIR_CNT_MOVES`: 07, R234. -/
abbrev NDIR_CNT_MOVES : Nat := 0xE018
/-- `NDIR_CNT_RELOC`: 07, R234. -/
abbrev NDIR_CNT_RELOC : Nat := 0xE01C
/-- `NDIR_CNT_REHOME`: 07, R234. -/
abbrev NDIR_CNT_REHOME : Nat := 0xE020
/-- `NDIR_CNT_AGED`: 07, R234. -/
abbrev NDIR_CNT_AGED : Nat := 0xE024
/-- `NDIR_CNT_UNBOUND`: 07, R234. -/
abbrev NDIR_CNT_UNBOUND : Nat := 0xE028
/-- `NDIR_CNT_RETRY`: 07, R234. -/
abbrev NDIR_CNT_RETRY : Nat := 0xE02C
/-- `NDIR_CNT_LOCKWAIT`: 07, R234. -/
abbrev NDIR_CNT_LOCKWAIT : Nat := 0xE030
/-- `NDIR_CNT_FULL`: 07, R234. -/
abbrev NDIR_CNT_FULL : Nat := 0xE034
/-- `LPM_ERR`: 07, R234. -/
abbrev LPM_ERR : Nat := 0xF000
/-- `LPM_MODE`: 07, R234. -/
abbrev LPM_MODE : Nat := 0xF004
/-- `LPM_USE`: 07, R234. -/
abbrev LPM_USE : Nat := 0xF008
/-- `LPM_NODES`: 07, R234. -/
abbrev LPM_NODES : Nat := 0xF00C
/-- `LPM_LENGTHSk`: 07, R234. -/
abbrev LPM_LENGTHS (k : Nat) : Nat := 0xF010 + 4 * k
/-- `LPM_CNT_MISS`: 07, R234. -/
abbrev LPM_CNT_MISS : Nat := 0xF024
/-- `LPM_CNT_FPROBE`: 07, R234. -/
abbrev LPM_CNT_FPROBE : Nat := 0xF028
/-- `MESH_ERR`: 08, R254. -/
abbrev MESH_ERR : Nat := 0x10000
/-- `MESH_TWIN_CFG`: 08, R254. -/
abbrev MESH_TWIN_CFG : Nat := 0x10004
/-- `MESH_CTX_ADDR`: 08, R254. -/
abbrev MESH_CTX_ADDR : Nat := 0x10008
/-- `MESH_CTX_HI`: 08, R254. -/
abbrev MESH_CTX_HI : Nat := 0x1000C
/-- `MESH_CTX_LO`: 08, R254. -/
abbrev MESH_CTX_LO : Nat := 0x10010
/-- `MESH_CTX_CFG`: 08, R254. -/
abbrev MESH_CTX_CFG : Nat := 0x10014
/-- `MESH_SEEN_USE`: 08, R254. -/
abbrev MESH_SEEN_USE : Nat := 0x10018
/-- `MESH_TWIN_USE`: 08, R254. -/
abbrev MESH_TWIN_USE : Nat := 0x1001C
/-- `MESH_REASM_USE`: 08, R254. -/
abbrev MESH_REASM_USE : Nat := 0x10020
/-- `MESH_PANp_CFG`: 08, R254. -/
abbrev MESH_PAN_CFG (p : Nat) : Nat := 0x10100 + 32 * p
/-- `MESH_PANp_RPL`: 08, R254. -/
abbrev MESH_PAN_RPL (p : Nat) : Nat := 0x10104 + 32 * p
/-- `MESH_PANp_MPL`: 08, R254. -/
abbrev MESH_PAN_MPL (p : Nat) : Nat := 0x10108 + 32 * p
/-- `MESH_PANp_SEED`: 08, R254. -/
abbrev MESH_PAN_SEED (p : Nat) : Nat := 0x1010C + 32 * p
/-- `MESH_PANp_TWSEQ`: 08, R254. -/
abbrev MESH_PAN_TWSEQ (p : Nat) : Nat := 0x10110 + 32 * p
/-- `MESH_CNT_DISCARD`: 08, R254. -/
abbrev MESH_CNT_DISCARD : Nat := 0x10200
/-- `MESH_CNT_DECOMP`: 08, R254. -/
abbrev MESH_CNT_DECOMP : Nat := 0x10204
/-- `MESH_CNT_REASMFULL`: 08, R254. -/
abbrev MESH_CNT_REASMFULL : Nat := 0x10208
/-- `MESH_CNT_REASMTMO`: 08, R254. -/
abbrev MESH_CNT_REASMTMO : Nat := 0x1020C
/-- `MESH_CNT_TOOBIG`: 08, R254. -/
abbrev MESH_CNT_TOOBIG : Nat := 0x10210
/-- `MESH_CNT_DAOBAD`: 08, R254. -/
abbrev MESH_CNT_DAOBAD : Nat := 0x10214
/-- `MESH_CNT_DAOOLD`: 08, R254. -/
abbrev MESH_CNT_DAOOLD : Nat := 0x10218
/-- `MESH_CNT_ALTUSED`: 08, R254. -/
abbrev MESH_CNT_ALTUSED : Nat := 0x1021C
/-- `MESH_CNT_NOROUTE`: 08, R254. -/
abbrev MESH_CNT_NOROUTE : Nat := 0x10220
/-- `MESH_CNT_TOODEEP`: 08, R254. -/
abbrev MESH_CNT_TOODEEP : Nat := 0x10224
/-- `MESH_CNT_NODEMISS`: 08, R254. -/
abbrev MESH_CNT_NODEMISS : Nat := 0x10228
/-- `MESH_CNT_HOPLIMIT`: 08, R254. -/
abbrev MESH_CNT_HOPLIMIT : Nat := 0x1022C
/-- `MESH_CNT_SEEDWAIT`: 08, R254. -/
abbrev MESH_CNT_SEEDWAIT : Nat := 0x10230
/-- `MESH_CNT_MPLDUP`: 08, R254. -/
abbrev MESH_CNT_MPLDUP : Nat := 0x10234
/-- `MESH_CNT_MPLEVICT`: 08, R254. -/
abbrev MESH_CNT_MPLEVICT : Nat := 0x10238
/-- `MESH_CNT_TWINBAD`: 08, R254. -/
abbrev MESH_CNT_TWINBAD : Nat := 0x1023C
/-- `MESH_CNT_TWINSINGLE`: 08, R254. -/
abbrev MESH_CNT_TWINSINGLE : Nat := 0x10240
/-- `MESH_CNT_TWINNOFIT`: 08, R254. -/
abbrev MESH_CNT_TWINNOFIT : Nat := 0x10244
/-- `MESH_CNT_TWINLATE`: 08, R254. -/
abbrev MESH_CNT_TWINLATE : Nat := 0x10248
/-- `MESH_CNT_TWINDUP`: 08, R254. -/
abbrev MESH_CNT_TWINDUP : Nat := 0x1024C
/-- `MESH_CNT_TWINNOORG`: 08, R254. -/
abbrev MESH_CNT_TWINNOORG : Nat := 0x10250
/-- `MESH_CNT_TWINEVICT`: 08, R254. -/
abbrev MESH_CNT_TWINEVICT : Nat := 0x10254
/-- `CVN_ERR`: 09, R276. -/
abbrev CVN_ERR : Nat := 0x11000
/-- `CVN_CFG`: 09, R276. -/
abbrev CVN_CFG : Nat := 0x11004
/-- `CVN_CONCUR`: 09, R276. -/
abbrev CVN_CONCUR : Nat := 0x11008
/-- `CVN_LIMIT01`: 09, R276. -/
abbrev CVN_LIMIT01 : Nat := 0x1100C
/-- `CVN_LIMIT23`: 09, R276. -/
abbrev CVN_LIMIT23 : Nat := 0x11010
/-- `CVN_RINGp`: 09, R276. -/
abbrev CVN_RING (p : Nat) : Nat := 0x11014 + 4 * p
/-- `CVN_USE`: 09, R276. -/
abbrev CVN_USE : Nat := 0x11024
/-- `CVN_IDQ`: 09, R276. -/
abbrev CVN_IDQ : Nat := 0x11028
/-- `CVN_POOL_USE`: 09, R276. -/
abbrev CVN_POOL_USE : Nat := 0x1102C
/-- `CVN_CNT_DUPACK`: 09, R276. -/
abbrev CVN_CNT_DUPACK : Nat := 0x11030
/-- `CVN_CNT_LATEACK`: 09, R276. -/
abbrev CVN_CNT_LATEACK : Nat := 0x11034
/-- `CVN_CNT_STRAY`: 09, R276. -/
abbrev CVN_CNT_STRAY : Nat := 0x11038
/-- `CVN_CNT_BADENV`: 09, R276. -/
abbrev CVN_CNT_BADENV : Nat := 0x1103C
/-- `CVN_CNT_MISMATCH`: 09, R276. -/
abbrev CVN_CNT_MISMATCH : Nat := 0x11040
/-- `IMG_ERR`: 09, R276. -/
abbrev IMG_ERR : Nat := 0x12000
/-- `IMG_CFG`: 09, R276. -/
abbrev IMG_CFG : Nat := 0x12004
/-- `IMG_CFG2`: 09, R276. -/
abbrev IMG_CFG2 : Nat := 0x12008
/-- `IMG_SESSs`: 09, R276. -/
abbrev IMG_SESS (s : Nat) : Nat := 0x12010 + 4 * s
/-- `IMG_CNT_REPORTS`: 09, R276. -/
abbrev IMG_CNT_REPORTS : Nat := 0x12020
/-- `IMG_CNT_STRAY`: 09, R276. -/
abbrev IMG_CNT_STRAY : Nat := 0x12024
/-- `QMG_ERR`: 10, R303. -/
abbrev QMG_ERR : Nat := 0x13000
/-- `QMG_FREE`: 10, R303. -/
abbrev QMG_FREE : Nat := 0x13004
/-- `QMG_SPILL`: 10, R303. -/
abbrev QMG_SPILL : Nat := 0x13008
/-- `QMG_SPILL_CFG`: 10, R303. -/
abbrev QMG_SPILL_CFG : Nat := 0x1300C
/-- `QMG_THRESH`: 10, R303. -/
abbrev QMG_THRESH : Nat := 0x13010
/-- `QMG_RESERVE`: 10, R303. -/
abbrev QMG_RESERVE : Nat := 0x13014
/-- `QMG_HOST_CREDIT`: 10, R303. -/
abbrev QMG_HOST_CREDIT : Nat := 0x13018
/-- `QMG_FLUSH`: 10, R303. -/
abbrev QMG_FLUSH (pt : Nat) : Nat := 0x1301C + 0x20000 * (pt + 1)
/-- `QMG_Q_ADDR`: 10, R303. -/
abbrev QMG_Q_ADDR : Nat := 0x13020
/-- `QMG_Q_DATA`: 10, R303. -/
abbrev QMG_Q_DATA : Nat := 0x13024
/-- `QMG_QINFO_CELLS`: 10, R303. -/
abbrev QMG_QINFO_CELLS : Nat := 0x13028
/-- `QMG_QINFO_FRAMES`: 10, R303. -/
abbrev QMG_QINFO_FRAMES : Nat := 0x1302C
/-- `QMG_QINFO_DROPS`: 10, R303. -/
abbrev QMG_QINFO_DROPS : Nat := 0x13030
/-- `QMG_PROFj_LIM`: 10, R303. -/
abbrev QMG_PROF_LIM (j : Nat) : Nat := 0x13040 + 8 * j
/-- `QMG_PROFj_YLIM`: 10, R303. -/
abbrev QMG_PROF_YLIM (j : Nat) : Nat := 0x13044 + 8 * j
/-- `QMG_WAIT_LIMIT`: 10, R303. -/
abbrev QMG_WAIT_LIMIT : Nat := 0x130C0
/-- `QMG_POP_Q`: 10, R303. -/
abbrev QMG_POP_Q : Nat := 0x130C4
/-- `QMG_POP_WAIT`: 10, R303. -/
abbrev QMG_POP_WAIT : Nat := 0x130C8
/-- `QMG_POP_DATA`: 10, R303. -/
abbrev QMG_POP_DATA : Nat := 0x130CC
/-- `QMG_TAPk`: 10, R303. -/
abbrev QMG_TAP (k : Nat) : Nat := 0x130D0 + 4 * k
/-- `QMG_CNT_FAULT`: 10, R303. -/
abbrev QMG_CNT_FAULT : Nat := 0x130F0
/-- `QMG_CNT_LEAK`: 10, R303. -/
abbrev QMG_CNT_LEAK : Nat := 0x130F4
/-- `QMG_CNT_TAILDROP`: 10, R303. -/
abbrev QMG_CNT_TAILDROP : Nat := 0x130F8
/-- `QMG_CNT_RXNACK`: 10, R303. -/
abbrev QMG_CNT_RXNACK : Nat := 0x130FC
/-- `QMG_CNT_SPILLERR`: 10, R303. -/
abbrev QMG_CNT_SPILLERR : Nat := 0x13100
/-- `QMG_CNT_TAPSKIP`: 10, R303. -/
abbrev QMG_CNT_TAPSKIP : Nat := 0x13104
/-- `QMG_CNT_HOSTFLOOR`: 10, R303. -/
abbrev QMG_CNT_HOSTFLOOR : Nat := 0x13108
/-- `QMG_HIST_ADDR`: 10, R303. -/
abbrev QMG_HIST_ADDR : Nat := 0x13110
/-- `QMG_HIST_DATA`: 10, R303. -/
abbrev QMG_HIST_DATA : Nat := 0x13114
/-- `QMG_HOST_CREDITp`: 10, R303. -/
abbrev QMG_HOST_CREDIT_P (p : Nat) : Nat := 0x13120 + 4 * p
/-- `SHP_ERR`: 10, R303. -/
abbrev SHP_ERR : Nat := 0x14000
/-- `SHP_SH_ADDR`: 10, R303. -/
abbrev SHP_SH_ADDR : Nat := 0x14004
/-- `SHP_SH_DATA0`: 10, R303. -/
abbrev SHP_SH_DATA0 : Nat := 0x14008
/-- `SHP_SH_DATA1`: 10, R303. -/
abbrev SHP_SH_DATA1 : Nat := 0x1400C
/-- `SHP_SH_LEVEL`: 10, R303. -/
abbrev SHP_SH_LEVEL : Nat := 0x14010
/-- `SHP_POL_ADDR`: 10, R303. -/
abbrev SHP_POL_ADDR : Nat := 0x14014
/-- `SHP_POL_DATA`: 10, R303. -/
abbrev SHP_POL_DATA : Nat := 0x14018
/-- `SHP_POL_CNT`: 10, R303. -/
abbrev SHP_POL_CNT : Nat := 0x1401C
/-- `SHP_INGi`: 10, R303. -/
abbrev SHP_ING (i : Nat) : Nat := 0x14040 + 4 * i
/-- `SHP_GCL_ADDR`: 10, R303. -/
abbrev SHP_GCL_ADDR : Nat := 0x14800
/-- `SHP_GCL_DATA`: 10, R303. -/
abbrev SHP_GCL_DATA : Nat := 0x14804
/-- `SHP_GCLe_CTRL`: 10, R303. -/
abbrev SHP_GCL_CTRL (e : Nat) : Nat := 0x14810 + 16 * e
/-- `SHP_GCLe_BASE_S`: 10, R303. -/
abbrev SHP_GCL_BASE_S (e : Nat) : Nat := 0x14814 + 16 * e
/-- `SHP_GCLe_BASE_NS`: 10, R303. -/
abbrev SHP_GCL_BASE_NS (e : Nat) : Nat := 0x14818 + 16 * e
/-- `SHP_CNT_NOFITe`: 10, R303. -/
abbrev SHP_CNT_NOFIT (e : Nat) : Nat := 0x1481C + 16 * e
/-- `PART_ERR`: 11, R333. -/
abbrev PART_ERR (pt : Nat) : Nat := 0x1000 + 0x20000 * (pt + 1)
/-- `PART_STATUS`: 11, R333. -/
abbrev PART_STATUS (pt : Nat) : Nat := 0x1004 + 0x20000 * (pt + 1)
/-- `PART_MAP`: 11, R333. -/
abbrev PART_MAP : Nat := 0x1008
/-- `PART_RESET`: 11, R333. -/
abbrev PART_RESET : Nat := 0x100C
/-- `RING_ERR`: 11, R333. -/
abbrev RING_ERR (pt : Nat) : Nat := 0x2000 + 0x20000 * (pt + 1)
/-- `RING_ERR_INFO`: 11, R333. -/
abbrev RING_ERR_INFO (pt : Nat) : Nat := 0x2004 + 0x20000 * (pt + 1)
/-- `RING_CPL_RESV`: 11, R333. -/
abbrev RING_CPL_RESV (pt : Nat) : Nat := 0x2008 + 0x20000 * (pt + 1)
/-- `RING_rBASE_LO`: 11, R333. -/
abbrev RING_BASE_LO (r : Nat) (pt : Nat) : Nat := 0x2100 + 16 * r + 0x20000 * (pt + 1)
/-- `RING_rBASE_HI`: 11, R333. -/
abbrev RING_BASE_HI (r : Nat) (pt : Nat) : Nat := 0x2104 + 16 * r + 0x20000 * (pt + 1)
/-- `RING_rCFG`: 11, R333. -/
abbrev RING_CFG (r : Nat) (pt : Nat) : Nat := 0x2108 + 16 * r + 0x20000 * (pt + 1)
/-- `RING_rSTATE`: 11, R333. -/
abbrev RING_STATE (r : Nat) (pt : Nat) : Nat := 0x210C + 16 * r + 0x20000 * (pt + 1)
/-- `RING_DBr`: 11, R333. -/
abbrev RING_DB (r : Nat) (pt : Nat) : Nat := 0x2800 + 4 * r + 0x20000 * (pt + 1)
/-- `EVT_ROUTE_ADDR`: 11, R333. -/
abbrev EVT_ROUTE_ADDR (pt : Nat) : Nat := 0x3000 + 0x20000 * (pt + 1)
/-- `EVT_ROUTE_DATA`: 11, R333. -/
abbrev EVT_ROUTE_DATA (pt : Nat) : Nat := 0x3004 + 0x20000 * (pt + 1)
/-- `EVT_CNT_DROP`: 11, R333. -/
abbrev EVT_CNT_DROP (pt : Nat) : Nat := 0x3008 + 0x20000 * (pt + 1)
/-- `EVT_HOLDOFFv`: 11, R333. -/
abbrev EVT_HOLDOFF (v : Nat) (pt : Nat) : Nat := 0x3100 + 4 * v + 0x20000 * (pt + 1)
/-- `ETH_ERR`: 12, R365. -/
abbrev ETH_ERR : Nat := 0x15000
/-- `ETH_CLASSMAP`: 12, R365. -/
abbrev ETH_CLASSMAP : Nat := 0x15004
/-- `ETH_OTHER`: 12, R365. -/
abbrev ETH_OTHER : Nat := 0x15008
/-- `ETH_MDIO`: 12, R365. -/
abbrev ETH_MDIO : Nat := 0x1500C
/-- `ETH_eCFG`: 12, R365. -/
abbrev ETH_CFG (e : Nat) : Nat := 0x15100 + 64 * e
/-- `ETH_eMAC_LO`: 12, R365. -/
abbrev ETH_MAC_LO (e : Nat) : Nat := 0x15104 + 64 * e
/-- `ETH_eMAC_HI`: 12, R365. -/
abbrev ETH_MAC_HI (e : Nat) : Nat := 0x15108 + 64 * e
/-- `ETH_eNH_LO`: 12, R365. -/
abbrev ETH_NH_LO (e : Nat) : Nat := 0x1510C + 64 * e
/-- `ETH_eNH_HI`: 12, R365. -/
abbrev ETH_NH_HI (e : Nat) : Nat := 0x15110 + 64 * e
/-- `ETH_eSTATUS`: 12, R365. -/
abbrev ETH_STATUS (e : Nat) : Nat := 0x15114 + 64 * e
/-- `ETH_eCNT_RXOK`: 12, R365. -/
abbrev ETH_CNT_RXOK (e : Nat) : Nat := 0x15118 + 64 * e
/-- `ETH_eCNT_RXERR`: 12, R365. -/
abbrev ETH_CNT_RXERR (e : Nat) : Nat := 0x1511C + 64 * e
/-- `ETH_eCNT_FIFODROP`: 12, R365. -/
abbrev ETH_CNT_FIFODROP (e : Nat) : Nat := 0x15120 + 64 * e
/-- `ETH_eCNT_TXOK`: 12, R365. -/
abbrev ETH_CNT_TXOK (e : Nat) : Nat := 0x15124 + 64 * e
/-- `ETH_eCNT_NONH`: 12, R365. -/
abbrev ETH_CNT_NONH (e : Nat) : Nat := 0x15128 + 64 * e
/-- `ETH_eCNT_TOOBIG`: 12, R365. -/
abbrev ETH_CNT_TOOBIG (e : Nat) : Nat := 0x1512C + 64 * e
/-- `ETH_eCNT_OTHERDROP`: 12, R365. -/
abbrev ETH_CNT_OTHERDROP (e : Nat) : Nat := 0x15130 + 64 * e
/-- `ETH_eCNT_PAUSE`: 12, R365. -/
abbrev ETH_CNT_PAUSE (e : Nat) : Nat := 0x15134 + 64 * e
/-- `PRP_ERR`: 12, R365. -/
abbrev PRP_ERR : Nat := 0x16000
/-- `PRP_CFG`: 12, R365. -/
abbrev PRP_CFG : Nat := 0x16004
/-- `PRP_USE`: 12, R365. -/
abbrev PRP_USE : Nat := 0x16008
/-- `PRP_CNT_DUP`: 12, R365. -/
abbrev PRP_CNT_DUP : Nat := 0x1600C
/-- `PRP_CNT_EVICT`: 12, R365. -/
abbrev PRP_CNT_EVICT : Nat := 0x16010
/-- `PRP_CNT_WRONGLAN_A`: 12, R365. -/
abbrev PRP_CNT_WRONGLAN_A : Nat := 0x16014
/-- `PRP_CNT_WRONGLAN_B`: 12, R365. -/
abbrev PRP_CNT_WRONGLAN_B : Nat := 0x16018
/-- `PRP_CNT_UNIQUE_A`: 12, R365. -/
abbrev PRP_CNT_UNIQUE_A : Nat := 0x1601C
/-- `PRP_CNT_UNIQUE_B`: 12, R365. -/
abbrev PRP_CNT_UNIQUE_B : Nat := 0x16020
/-- `PRP_CNT_LANDOWN`: 12, R365. -/
abbrev PRP_CNT_LANDOWN : Nat := 0x16024
/-- `PTP_ERR`: 12, R365. -/
abbrev PTP_ERR : Nat := 0x17000
/-- `PTP_NOW_S`: 12, R365. -/
abbrev PTP_NOW_S : Nat := 0x17004
/-- `PTP_NOW_NS`: 12, R365. -/
abbrev PTP_NOW_NS : Nat := 0x17008
/-- `PTP_CFG`: 12, R365. -/
abbrev PTP_CFG : Nat := 0x1700C
/-- `PTP_UTC`: 12, R365. -/
abbrev PTP_UTC : Nat := 0x17010
/-- `PTP_eLAT`: 12, R365. -/
abbrev PTP_LAT (e : Nat) : Nat := 0x17100 + 32 * e
/-- `PTP_eCFG`: 12, R365. -/
abbrev PTP_PORT_CFG (e : Nat) : Nat := 0x17104 + 32 * e
/-- `PTP_eTXTS_POP`: 12, R365. -/
abbrev PTP_TXTS_POP (e : Nat) : Nat := 0x17108 + 32 * e
/-- `PTP_eTXTS_S`: 12, R365. -/
abbrev PTP_TXTS_S (e : Nat) : Nat := 0x1710C + 32 * e
/-- `PTP_eTXTS_NS`: 12, R365. -/
abbrev PTP_TXTS_NS (e : Nat) : Nat := 0x17110 + 32 * e
/-- `PTP_eTXTS_USE`: 12, R365. -/
abbrev PTP_TXTS_USE (e : Nat) : Nat := 0x17114 + 32 * e
/-- `PTP_eCNT_TSOVF`: 12, R365. -/
abbrev PTP_CNT_TSOVF (e : Nat) : Nat := 0x17118 + 32 * e
/-- `TMR_ERR`: 12, R365. -/
abbrev TMR_ERR : Nat := 0x19000
/-- `TMR_TIME_S`: 12, R365. -/
abbrev TMR_TIME_S : Nat := 0x19004
/-- `TMR_TIME_NS`: 12, R365. -/
abbrev TMR_TIME_NS : Nat := 0x19008
/-- `TMR_SRC`: 12, R365. -/
abbrev TMR_SRC : Nat := 0x1900C
/-- `TMR_SERVO`: 12, R365. -/
abbrev TMR_SERVO : Nat := 0x19010
/-- `TMR_OFFSET`: 12, R365. -/
abbrev TMR_OFFSET : Nat := 0x19014
/-- `TMR_SET_S`: 12, R365. -/
abbrev TMR_SET_S : Nat := 0x19018
/-- `TMR_SET_NS`: 12, R365. -/
abbrev TMR_SET_NS : Nat := 0x1901C
/-- `TMR_SET_CTRL`: 12, R365. -/
abbrev TMR_SET_CTRL : Nat := 0x19020
/-- `TMR_ADJ_NS`: 12, R365. -/
abbrev TMR_ADJ_NS : Nat := 0x19024
/-- `TMR_LOCK`: 12, R365. -/
abbrev TMR_LOCK : Nat := 0x19028
/-- `TMR_DOMd_CFG`: 12, R365. -/
abbrev TMR_DOM_CFG (d : Nat) : Nat := 0x19030 + 16 * d
/-- `TMR_DOMd_STATE`: 12, R365. -/
abbrev TMR_DOM_STATE (d : Nat) : Nat := 0x19034 + 16 * d
/-- `TMR_DOMd_DELAY`: 12, R365. -/
abbrev TMR_DOM_DELAY (d : Nat) : Nat := 0x19038 + 16 * d
/-- `TMR_DOMd_OFFSET`: 12, R365. -/
abbrev TMR_DOM_OFFSET (d : Nat) : Nat := 0x1903C + 16 * d
/-- `TMR_PPS`: 12, R365. -/
abbrev TMR_PPS : Nat := 0x19050
/-- `TMR_CNT_PPSREJ`: 12, R365. -/
abbrev TMR_CNT_PPSREJ : Nat := 0x19054
/-- `TMR_tCTRL`: 12, R365. -/
abbrev TMR_CTRL (t : Nat) : Nat := 0x19100 + 64 * t
/-- `TMR_tCNT_LO`: 12, R365. -/
abbrev TMR_CNT_LO (t : Nat) : Nat := 0x19104 + 64 * t
/-- `TMR_tCNT_HI`: 12, R365. -/
abbrev TMR_CNT_HI (t : Nat) : Nat := 0x19108 + 64 * t
/-- `TMR_tCMP_LO`: 12, R365. -/
abbrev TMR_CMP_LO (t : Nat) : Nat := 0x1910C + 64 * t
/-- `TMR_tCMP_HI`: 12, R365. -/
abbrev TMR_CMP_HI (t : Nat) : Nat := 0x19110 + 64 * t
/-- `TMR_tPER_LO`: 12, R365. -/
abbrev TMR_PER_LO (t : Nat) : Nat := 0x19114 + 64 * t
/-- `TMR_tPER_HI`: 12, R365. -/
abbrev TMR_PER_HI (t : Nat) : Nat := 0x19118 + 64 * t
/-- `TMR_tSTAT`: 12, R365. -/
abbrev TMR_STAT (t : Nat) : Nat := 0x1911C + 64 * t
/-- `TMR_CAPi_CFG`: 12, R365. -/
abbrev TMR_CAP_CFG (i : Nat) : Nat := 0x19400 + 32 * i
/-- `TMR_CAPi_STAT`: 12, R365. -/
abbrev TMR_CAP_STAT (i : Nat) : Nat := 0x19404 + 32 * i
/-- `TMR_CAPi_CNT_LO`: 12, R365. -/
abbrev TMR_CAP_CNT_LO (i : Nat) : Nat := 0x19408 + 32 * i
/-- `TMR_CAPi_CNT_HI`: 12, R365. -/
abbrev TMR_CAP_CNT_HI (i : Nat) : Nat := 0x1940C + 32 * i
/-- `TMR_CAPi_S`: 12, R365. -/
abbrev TMR_CAP_S (i : Nat) : Nat := 0x19410 + 32 * i
/-- `TMR_CAPi_NS`: 12, R365. -/
abbrev TMR_CAP_NS (i : Nat) : Nat := 0x19414 + 32 * i
/-- `TMR_TOUTk`: 12, R365. -/
abbrev TMR_TOUT (k : Nat) : Nat := 0x19480 + 4 * k
/-- `SAFE_ERR`: 13, R391. -/
abbrev SAFE_ERR : Nat := 0x1A000
/-- `SAFE_STATE`: 13, R391. -/
abbrev SAFE_STATE : Nat := 0x1A004
/-- `SAFE_CAUSE`: 13, R391. -/
abbrev SAFE_CAUSE : Nat := 0x1A008
/-- `SAFE_CTRL`: 13, R391. -/
abbrev SAFE_CTRL : Nat := 0x1A00C
/-- `SAFE_ESC`: 13, R391. -/
abbrev SAFE_ESC : Nat := 0x1A010
/-- `SAFE_DROVER_CFG`: 13, R391. -/
abbrev SAFE_DROVER_CFG : Nat := 0x1A014
/-- `SAFE_HEALTH`: 13, R391. -/
abbrev SAFE_HEALTH : Nat := 0x1A018
/-- `SAFE_PEER`: 13, R391. -/
abbrev SAFE_PEER : Nat := 0x1A01C
/-- `SAFE_YARROW`: 13, R391. -/
abbrev SAFE_YARROW : Nat := 0x1A020
/-- `SAFE_CNT_PIPEFAIL`: 13, R391. -/
abbrev SAFE_CNT_PIPEFAIL : Nat := 0x1A024
/-- `SAFE_CNT_CLUSTERFAIL`: 13, R391. -/
abbrev SAFE_CNT_CLUSTERFAIL : Nat := 0x1A028
/-- `SAFE_CNT_FRAMECHK`: 13, R391. -/
abbrev SAFE_CNT_FRAMECHK : Nat := 0x1A02C
/-- `SAFE_CNT_PAIRRESTART`: 13, R391. -/
abbrev SAFE_CNT_PAIRRESTART : Nat := 0x1A030
/-- `SAFE_CNT_CELLUE`: 13, R391. -/
abbrev SAFE_CNT_CELLUE : Nat := 0x1A034
/-- `SAFE_DROVERa`: 13, R391. -/
abbrev SAFE_DROVER (a : Nat) : Nat := 0x1A040 + 4 * a
/-- `SAFE_DROVER_STATa`: 13, R391. -/
abbrev SAFE_DROVER_STAT (a : Nat) : Nat := 0x1A050 + 4 * a
/-- `LOG_ERR`: 13, R391. -/
abbrev LOG_ERR : Nat := 0x1B000
/-- `LOG_LCTRL`: 13, R391. -/
abbrev LOG_LCTRL : Nat := 0x1B004
/-- `LOG_LNEXT`: 13, R391. -/
abbrev LOG_LNEXT : Nat := 0x1B008
/-- `LOG_LFIFO`: 13, R391. -/
abbrev LOG_LFIFO : Nat := 0x1B00C
/-- `LOG_LADDR`: 13, R391. -/
abbrev LOG_LADDR (pt : Nat) : Nat := 0x1B010 + 0x20000 * (pt + 1)
/-- `LOG_LDATA`: 13, R391. -/
abbrev LOG_LDATA : Nat := 0x1B014
/-- `LOG_TNEXT`: 13, R391. -/
abbrev LOG_TNEXT : Nat := 0x1B018
/-- `LOG_TADDR`: 13, R391. -/
abbrev LOG_TADDR (pt : Nat) : Nat := 0x1B01C + 0x20000 * (pt + 1)
/-- `LOG_TDATA`: 13, R391. -/
abbrev LOG_TDATA : Nat := 0x1B020
/-- `LOG_CNT_GAP`: 13, R391. -/
abbrev LOG_CNT_GAP : Nat := 0x1B024
/-- `PWR_ERR`: 14, R416. -/
abbrev PWR_ERR : Nat := 0x1C000
/-- `PWR_STATE`: 14, R416. -/
abbrev PWR_STATE : Nat := 0x1C004
/-- `PWR_LAT_TOL`: 14, R416. -/
abbrev PWR_LAT_TOL (pt : Nat) : Nat := 0x1C008 + 0x20000 * (pt + 1)
/-- `PWR_LAT_MIN`: 14, R416. -/
abbrev PWR_LAT_MIN : Nat := 0x1C00C
/-- `PWR_PERMIT`: 14, R416. -/
abbrev PWR_PERMIT : Nat := 0x1C010
/-- `PWR_FORCE`: 14, R416. -/
abbrev PWR_FORCE : Nat := 0x1C014
/-- `PWR_WAKE_CFG`: 14, R416. -/
abbrev PWR_WAKE_CFG : Nat := 0x1C018
/-- `PWR_RTC_S`: 14, R416. -/
abbrev PWR_RTC_S : Nat := 0x1C01C
/-- `PWR_ALARM_S`: 14, R416. -/
abbrev PWR_ALARM_S : Nat := 0x1C020
/-- `PWR_VAULT_STAT`: 14, R416. -/
abbrev PWR_VAULT_STAT : Nat := 0x1C024
/-- `PWR_SAVE_STAT`: 14, R416. -/
abbrev PWR_SAVE_STAT : Nat := 0x1C028
/-- `PWR_CNT_SAVE`: 14, R416. -/
abbrev PWR_CNT_SAVE : Nat := 0x1C02C
/-- `SYS_RESET`: 14, R416. -/
abbrev SYS_RESET : Nat := 0x40
/-- `SYS_RESET_CAUSE`: 14, R416. -/
abbrev SYS_RESET_CAUSE : Nat := 0x44
/-- `SYS_DRAM_KEEP`: 14, R416. -/
abbrev SYS_DRAM_KEEP : Nat := 0x48
/-- `BOOT_ERR`: 15, R438. -/
abbrev BOOT_ERR : Nat := 0x1D000
/-- `BOOT_STATUS`: 15, R438. -/
abbrev BOOT_STATUS : Nat := 0x1D004
/-- `BOOT_VERSION`: 15, R438. -/
abbrev BOOT_VERSION : Nat := 0x1D008
/-- `BOOT_SLOTA`: 15, R438. -/
abbrev BOOT_SLOTA : Nat := 0x1D00C
/-- `BOOT_SLOTB`: 15, R438. -/
abbrev BOOT_SLOTB : Nat := 0x1D010
/-- `BOOT_VER_A`: 15, R438. -/
abbrev BOOT_VER_A : Nat := 0x1D014
/-- `BOOT_VER_B`: 15, R438. -/
abbrev BOOT_VER_B : Nat := 0x1D018
/-- `BOOT_SEL`: 15, R438. -/
abbrev BOOT_SEL : Nat := 0x1D01C
/-- `BOOT_RB`: 15, R438. -/
abbrev BOOT_RB : Nat := 0x1D020
/-- `BOOT_UNIT_IDi`: 15, R438. -/
abbrev BOOT_UNIT_ID (i : Nat) : Nat := 0x1D030 + 4 * i
/-- `BIST_ERR`: 15, R438. -/
abbrev BIST_ERR : Nat := 0x1E000
/-- `BIST_CTRL`: 15, R438. -/
abbrev BIST_CTRL : Nat := 0x1E004
/-- `BIST_STATUS`: 15, R438. -/
abbrev BIST_STATUS : Nat := 0x1E008
/-- `BIST_MISRn`: 15, R438. -/
abbrev BIST_MISR (n : Nat) : Nat := 0x1E00C + 4 * n
/-- `BIST_BOOT_FAIL`: 15, R438. -/
abbrev BIST_BOOT_FAIL : Nat := 0x1E01C
/-- `SYS_LOCK`: 16, R454. -/
abbrev SYS_LOCK (pt : Nat) : Nat := 0x0 + 0x20000 * (pt + 1)
/-- `SYS_BANK`: 16, R454. -/
abbrev SYS_BANK (pt : Nat) : Nat := 0x4 + 0x20000 * (pt + 1)
/-- `SYS_ERR`: 16, R454. -/
abbrev SYS_ERR (pt : Nat) : Nat := 0x8 + 0x20000 * (pt + 1)
/-- `SYS_CNT_GUARD`: 16, R454. -/
abbrev SYS_CNT_GUARD (pt : Nat) : Nat := 0xC + 0x20000 * (pt + 1)
/-- `SYS_ID`: 16, R454. -/
abbrev SYS_ID : Nat := 0x80
/-- `SYS_DRAM`: 16, R454. -/
abbrev SYS_DRAM : Nat := 0x84
/-- `SYS_CNT_CE_SRAM`: 16, R454. -/
abbrev SYS_CNT_CE_SRAM : Nat := 0x88
/-- `SYS_CNT_CE_DRAM`: 16, R454. -/
abbrev SYS_CNT_CE_DRAM : Nat := 0x8C
/-- `SYS_CNT_UE`: 16, R454. -/
abbrev SYS_CNT_UE : Nat := 0x90
/-- `SYS_TEMP`: 16, R454. -/
abbrev SYS_TEMP : Nat := 0x94
/-- `PASS_STATUS`: 16, R455. -/
abbrev PASS_STATUS : Nat := 0x18000
/-- `PASS_REJECT`: 16, R455. -/
abbrev PASS_REJECT : Nat := 0x18004
/-- `PASS_LAST_REJECT`: 16, R455. -/
abbrev PASS_LAST_REJECT : Nat := 0x18008
/-- `PASS_CNT_CRC`: 16, R455. -/
abbrev PASS_CNT_CRC : Nat := 0x1800C
/-- `PASS_CNT_RESEND`: 16, R455. -/
abbrev PASS_CNT_RESEND : Nat := 0x18010
/-- `PASS_CNT_RETRAIN`: 16, R455. -/
abbrev PASS_CNT_RETRAIN : Nat := 0x18014
/-- `PASS_CNT_DOWN`: 16, R455. -/
abbrev PASS_CNT_DOWN : Nat := 0x18018
/-- `PASS_FCNT_CRC`: 16, R455. -/
abbrev PASS_FCNT_CRC : Nat := 0x18080
/-- `PASS_FCNT_RESEND`: 16, R455. -/
abbrev PASS_FCNT_RESEND : Nat := 0x18084

end Sys2Proof.Machine.R

namespace Sys2Proof.Machine.F

abbrev RFP_BANDPLAN_BANDS : Fld := ⟨0, 7⟩
abbrev RFP_BANDPLAN_LOCKED : Fld := ⟨31, 1⟩
abbrev RFP_FE_TIMING_TX_LEAD : Fld := ⟨0, 8⟩
abbrev RFP_FE_TIMING_TX_HOLD : Fld := ⟨8, 8⟩
abbrev RFP_FE_TIMING_TR_GAP : Fld := ⟨16, 4⟩
abbrev RFP_FE_POL_RXEN_INV : Fld := ⟨0, 16⟩
abbrev RFP_FE_POL_BYP_INV : Fld := ⟨16, 16⟩
abbrev RFP_FE_BYP_BYP : Fld := ⟨0, 16⟩
abbrev RFP_ERR_OUT_OF_PLAN : Fld := ⟨0, 1⟩
abbrev RFP_ERR_PLAN_LOCKED : Fld := ⟨1, 1⟩
abbrev RFP_ERR_PART_WRITE : Fld := ⟨2, 1⟩
abbrev RFP_ERR_ARRAY_INVALID : Fld := ⟨3, 1⟩
abbrev RFP_ERR_ARRAY_BUSY : Fld := ⟨4, 1⟩
abbrev RFP_ERR_WEIGHT_BUSY : Fld := ⟨5, 1⟩
abbrev RFP_ERR_CAPACITY : Fld := ⟨6, 1⟩
abbrev ARR_CFG_ENABLE : Fld := ⟨0, 1⟩
abbrev ARR_CFG_CLASS : Fld := ⟨1, 1⟩
abbrev ARR_CFG_WIN1_EN : Fld := ⟨2, 1⟩
abbrev ARR_CFG_STALE_OMNI : Fld := ⟨3, 1⟩
abbrev ARR_CFG_OMNI : Fld := ⟨4, 6⟩
abbrev ARR_CFG_ELEMENTS : Fld := ⟨16, 16⟩
abbrev ARR_WIN_CENTRE_KHZ : Fld := ⟨0, 22⟩
abbrev ARR_BLANK_MASK : Fld := ⟨0, 4⟩
abbrev ARR_TX_CAP_CAP : Fld := ⟨0, 8⟩
abbrev ARR_WADDR_SLOT : Fld := ⟨0, 4⟩
abbrev ARR_WADDR_WIN : Fld := ⟨4, 1⟩
abbrev ARR_WADDR_BEAM : Fld := ⟨5, 6⟩
abbrev ARR_WADDR_SET : Fld := ⟨11, 2⟩
abbrev ARR_WADDR_BANK : Fld := ⟨13, 1⟩
abbrev ARR_WADDR_AUTOINC : Fld := ⟨15, 1⟩
abbrev ARR_WDATA_I : Fld := ⟨0, 16⟩
abbrev ARR_WDATA_Q : Fld := ⟨16, 16⟩
abbrev ARR_WCOMMIT_COMMIT : Fld := ⟨0, 1⟩
abbrev ARR_WCOMMIT_PENDING : Fld := ⟨1, 1⟩
abbrev ARR_CAL_CTRL_RUN : Fld := ⟨0, 1⟩
abbrev ARR_CAL_CTRL_INTERVAL : Fld := ⟨4, 12⟩
abbrev ARR_CAL_CTRL_MAXAGE : Fld := ⟨16, 12⟩
abbrev ARR_CAL_STATUS_STALE : Fld := ⟨0, 1⟩
abbrev ARR_CAL_STATUS_CAUSE : Fld := ⟨1, 3⟩
abbrev ARR_CAL_STATUS_AGE : Fld := ⟨4, 12⟩
abbrev ARR_CAL_STATUS_FAULT : Fld := ⟨16, 16⟩
abbrev ARR_STREAM_USE_BUSY : Fld := ⟨0, 16⟩
abbrev ARR_CNT_PWRDEF_COUNT : Fld := ⟨0, 32⟩
abbrev ARR_CNT_STRDEF_COUNT : Fld := ⟨0, 32⟩
abbrev ARR_CNT_BLANKAB_COUNT : Fld := ⟨0, 32⟩
abbrev ARR_BEAM_ENABLE : Fld := ⟨0, 1⟩
abbrev ARR_BEAM_TX_EXPLICIT : Fld := ⟨1, 1⟩
abbrev ARR_BEAM_ARRAY : Fld := ⟨2, 2⟩
abbrev CHZ_LWE_USED : Fld := ⟨0, 7⟩
abbrev CHZ_BINS_USED : Fld := ⟨0, 18⟩
abbrev CHZ_NARROW_GROUPS : Fld := ⟨0, 6⟩
abbrev SRCH_ERR_SPAN : Fld := ⟨0, 1⟩
abbrev SRCH_ERR_BUDGET : Fld := ⟨1, 1⟩
abbrev SRCH_ERR_PROFILE_INVALID : Fld := ⟨2, 1⟩
abbrev SRCH_ERR_NARROW : Fld := ⟨3, 1⟩
abbrev SRCH_ERR_WIDTH_INVALID : Fld := ⟨4, 1⟩
abbrev SRCH_ERR_LP_BUSY : Fld := ⟨5, 1⟩
abbrev SRCH_ERR_PART_WRITE : Fld := ⟨6, 1⟩
abbrev SRCH_LP_ADDR_LP : Fld := ⟨0, 13⟩
abbrev SRCH_LP_ADDR_AUTOINC : Fld := ⟨15, 1⟩
abbrev SRCH_LP_DATA0_ENABLE : Fld := ⟨0, 1⟩
abbrev SRCH_LP_DATA0_BEAM : Fld := ⟨1, 6⟩
abbrev SRCH_LP_DATA0_WIN : Fld := ⟨7, 1⟩
abbrev SRCH_LP_DATA0_PROFILE : Fld := ⟨8, 6⟩
abbrev SRCH_LP_DATA0_WIDTH : Fld := ⟨14, 4⟩
abbrev SRCH_LP_DATA1_CENTRE : Fld := ⟨0, 25⟩
abbrev SRCH_PROF_ADDR_PROFILE : Fld := ⟨0, 6⟩
abbrev SRCH_PROF_ADDR_WORD : Fld := ⟨8, 2⟩
abbrev SRCH_PROF_DATA_DATA : Fld := ⟨0, 32⟩
abbrev SRCH_STAT_ADDR_LP : Fld := ⟨0, 13⟩
abbrev SRCH_STAT_ADDR_INDEX : Fld := ⟨16, 4⟩
abbrev SRCH_STAT_DATA_VALUE : Fld := ⟨0, 32⟩
abbrev SRCH_CNT_COLLIDE_COUNT : Fld := ⟨0, 32⟩
abbrev SRCH_CNT_NOLANE_COUNT : Fld := ⟨0, 32⟩
abbrev SRCH_CNT_PREEMPT_COUNT : Fld := ⟨0, 32⟩
abbrev SRCH_LP_USE_ENABLED : Fld := ⟨0, 14⟩
abbrev LANE_CFG_RESERVE : Fld := ⟨0, 8⟩
abbrev LANE_CAP_AVAILABLE : Fld := ⟨0, 11⟩
abbrev LANE_CAP_GENERAL : Fld := ⟨16, 11⟩
abbrev LANE_STATE_FAILED : Fld := ⟨0, 16⟩
abbrev LANE_STATE_OFFLINE : Fld := ⟨16, 4⟩
abbrev LANE_STATE_OFFLINE_VALID : Fld := ⟨20, 1⟩
abbrev LANE_STATE_YARROW_PAUSED : Fld := ⟨21, 1⟩
abbrev LANE_BUSY_BUSY : Fld := ⟨0, 11⟩
abbrev LANE_HIGHWATER_MAX : Fld := ⟨0, 11⟩
abbrev LANE_MIGRATED_COUNT : Fld := ⟨0, 32⟩
abbrev LANE_PEEK_ADDR_LANE : Fld := ⟨0, 11⟩
abbrev LANE_PEEK_STATE : Fld := ⟨0, 3⟩
abbrev LANE_PEEK_LP : Fld := ⟨3, 13⟩
abbrev LANE_PEEK_MODE : Fld := ⟨16, 3⟩
abbrev LANE_PEEK_POOL : Fld := ⟨19, 1⟩
abbrev LANE_PEEK_ACKPT : Fld := ⟨20, 1⟩
abbrev LANE_COMMIT_COUNT : Fld := ⟨0, 32⟩
abbrev XRD_OPEN_ENTRIES : Fld := ⟨0, 13⟩
abbrev XRD_CNT_FIRST_COUNT : Fld := ⟨0, 32⟩
abbrev XRD_CNT_MERGED_COUNT : Fld := ⟨0, 32⟩
abbrev XRD_CNT_EARLY_COUNT : Fld := ⟨0, 32⟩
abbrev XRD_CNT_LATECOPY_COUNT : Fld := ⟨0, 32⟩
abbrev XRD_CNT_RETX_COUNT : Fld := ⟨0, 32⟩
abbrev XRD_CNT_RECENTFULL_COUNT : Fld := ⟨0, 32⟩
abbrev SLOT_CFG_LENGTH : Fld := ⟨0, 17⟩
abbrev SLOT_CFG_PREFER : Fld := ⟨17, 1⟩
abbrev SLOT_CFG_REVERT_EN : Fld := ⟨18, 1⟩
abbrev SLOT_CFG_ACK_YIELD : Fld := ⟨19, 1⟩
abbrev SLOT_CFG_PREP_LEAD : Fld := ⟨20, 12⟩
abbrev SLOT_CTRL_START : Fld := ⟨0, 1⟩
abbrev SLOT_CTRL_STOP : Fld := ⟨1, 1⟩
abbrev SLOT_CTRL_RUNNING : Fld := ⟨2, 1⟩
abbrev SLOT_CTRL_DOZE_ACTIVE : Fld := ⟨3, 1⟩
abbrev SLOT_EPOCH_S_SECONDS : Fld := ⟨0, 32⟩
abbrev SLOT_EPOCH_NS_NS : Fld := ⟨0, 30⟩
abbrev SLOT_ASN_LO_ASN : Fld := ⟨0, 32⟩
abbrev SLOT_ASN_HI_ASN : Fld := ⟨0, 8⟩
abbrev SLOT_ERR_TEMPLATE : Fld := ⟨0, 1⟩
abbrev SLOT_ERR_SF_INVALID : Fld := ⟨1, 1⟩
abbrev SLOT_ERR_SF_BUSY : Fld := ⟨2, 1⟩
abbrev SLOT_ERR_HOP_INVALID : Fld := ⟨3, 1⟩
abbrev SLOT_ERR_START_REFUSED : Fld := ⟨4, 1⟩
abbrev SLOT_ERR_RUNNING_WRITE : Fld := ⟨5, 1⟩
abbrev SLOT_ERR_PART_WRITE : Fld := ⟨6, 1⟩
abbrev SLOT_ERR_CELL_INVALID : Fld := ⟨7, 1⟩
abbrev SLOT_HEALTH_A_STATE : Fld := ⟨0, 3⟩
abbrev SLOT_HEALTH_B_STATE : Fld := ⟨3, 3⟩
abbrev SLOT_HEALTH_PRIMARY : Fld := ⟨6, 1⟩
abbrev SLOT_HEALTH_MATCH_S : Fld := ⟨8, 6⟩
abbrev SLOT_HEALTH_A_TRIES : Fld := ⟨14, 2⟩
abbrev SLOT_HEALTH_B_TRIES : Fld := ⟨16, 2⟩
abbrev SLOT_CNT_BLANKDEF_COUNT : Fld := ⟨0, 32⟩
abbrev SLOT_CNT_SPANDEF_COUNT : Fld := ⟨0, 32⟩
abbrev SLOT_CNT_NOFIT_COUNT : Fld := ⟨0, 32⟩
abbrev SLOT_CNT_ACKYIELD_COUNT : Fld := ⟨0, 32⟩
abbrev SLOT_CNT_SWITCH_COUNT : Fld := ⟨0, 32⟩
abbrev SLOT_CELL_ADDR_CELL : Fld := ⟨0, 20⟩
abbrev SLOT_CELL_ADDR_AUTOINC : Fld := ⟨31, 1⟩
abbrev SLOT_CELL_DATA0_WORD0 : Fld := ⟨0, 32⟩
abbrev SLOT_CELL_DATA1_WORD1 : Fld := ⟨0, 32⟩
abbrev SLOT_HOP_ADDR_SEQ : Fld := ⟨0, 3⟩
abbrev SLOT_HOP_ADDR_INDEX : Fld := ⟨4, 9⟩
abbrev SLOT_HOP_ADDR_AUTOINC : Fld := ⟨15, 1⟩
abbrev SLOT_HOP_DATA_CHANNEL : Fld := ⟨0, 16⟩
abbrev SLOT_HOP_CH0_CH0 : Fld := ⟨0, 25⟩
abbrev SLOT_HOP_CFG_SPACING : Fld := ⟨0, 16⟩
abbrev SLOT_HOP_CFG_LEN : Fld := ⟨16, 10⟩
abbrev SLOT_TPL_W0_TX_OFFSET : Fld := ⟨0, 17⟩
abbrev SLOT_TPL_W1_RX_WAIT : Fld := ⟨0, 17⟩
abbrev SLOT_TPL_W2_TX_ACK_DELAY : Fld := ⟨0, 13⟩
abbrev SLOT_TPL_W2_ACK_WAIT : Fld := ⟨16, 13⟩
abbrev SLOT_TPL_W3_MAX_TX : Fld := ⟨0, 17⟩
abbrev SLOT_TPL_W4_MAX_ACK : Fld := ⟨0, 13⟩
abbrev SLOT_SF_W0_ENABLE : Fld := ⟨0, 1⟩
abbrev SLOT_SF_W0_PAN : Fld := ⟨1, 3⟩
abbrev SLOT_SF_W0_HANDLE : Fld := ⟨4, 3⟩
abbrev SLOT_SF_W0_TEMPLATE : Fld := ⟨7, 2⟩
abbrev SLOT_SF_W0_HOP : Fld := ⟨9, 3⟩
abbrev SLOT_SF_W0_DEPTH : Fld := ⟨12, 6⟩
abbrev SLOT_SF_W1_LENGTH : Fld := ⟨0, 16⟩
abbrev SLOT_SF_W2_BASE : Fld := ⟨0, 20⟩
abbrev LINK_ERR_PART_WRITE : Fld := ⟨0, 1⟩
abbrev LINK_ERR_PAN_BUSY : Fld := ⟨1, 1⟩
abbrev LINK_ERR_PAN_INVALID : Fld := ⟨2, 1⟩
abbrev LINK_ERR_NBR_INVALID : Fld := ⟨3, 1⟩
abbrev LINK_ERR_TSRC_INVALID : Fld := ⟨4, 1⟩
abbrev LINK_EUI_LO_EUI : Fld := ⟨0, 32⟩
abbrev LINK_EUI_HI_EUI : Fld := ⟨0, 32⟩
abbrev LINK_TSRC01_NBR0 : Fld := ⟨0, 13⟩
abbrev LINK_TSRC01_V0 : Fld := ⟨15, 1⟩
abbrev LINK_TSRC01_NBR1 : Fld := ⟨16, 13⟩
abbrev LINK_TSRC01_V1 : Fld := ⟨31, 1⟩
abbrev LINK_TSRC23_VALUE : Fld := ⟨0, 32⟩
abbrev LINK_TSRC_STATE_ACTIVE : Fld := ⟨0, 2⟩
abbrev LINK_TSRC_STATE_ACTIVE_VALID : Fld := ⟨2, 1⟩
abbrev LINK_TSRC_STATE_HOLDOVER : Fld := ⟨3, 1⟩
abbrev LINK_HOLD_DRIFT_PPM : Fld := ⟨0, 8⟩
abbrev LINK_NBR_ADDR_NBR : Fld := ⟨0, 13⟩
abbrev LINK_NBR_ADDR_WORD : Fld := ⟨13, 3⟩
abbrev LINK_NBR_DATA_DATA : Fld := ⟨0, 32⟩
abbrev LINK_NBR_USE_VALID : Fld := ⟨0, 14⟩
abbrev LINK_CNT_DUPREACK_COUNT : Fld := ⟨0, 32⟩
abbrev LINK_CNT_REPLAY_COUNT : Fld := ⟨0, 32⟩
abbrev LINK_CNT_UNKNOWN_COUNT : Fld := ⟨0, 32⟩
abbrev LINK_CNT_POLICY_COUNT : Fld := ⟨0, 32⟩
abbrev LINK_CNT_RESADDR_COUNT : Fld := ⟨0, 32⟩
abbrev LINK_CNT_TCCLIP_COUNT : Fld := ⟨0, 32⟩
abbrev LINK_CNT_NACKTX_COUNT : Fld := ⟨0, 32⟩
abbrev LINK_CNT_NACKRX_COUNT : Fld := ⟨0, 32⟩
abbrev LINK_CNT_JOINDROP_COUNT : Fld := ⟨0, 32⟩
abbrev LINK_CNT_EBSKIP_COUNT : Fld := ⟨0, 32⟩
abbrev LINK_CNT_REPROTECT_COUNT : Fld := ⟨0, 32⟩
abbrev LINK_CNT_OTHERDST_COUNT : Fld := ⟨0, 32⟩
abbrev PAN_CTRL_ENABLE : Fld := ⟨0, 1⟩
abbrev PAN_CTRL_OWNER : Fld := ⟨1, 2⟩
abbrev PAN_CTRL_SECURED : Fld := ⟨3, 1⟩
abbrev PAN_ID_PAN_ID : Fld := ⟨0, 16⟩
abbrev PAN_POLICY_LEVEL4_EN : Fld := ⟨0, 1⟩
abbrev PAN_POLICY_JOIN_OPEN : Fld := ⟨1, 1⟩
abbrev PAN_POLICY_JOIN_UNSEC : Fld := ⟨2, 1⟩
abbrev PAN_POLICY_EB_LEVEL : Fld := ⟨3, 2⟩
abbrev PAN_POLICY_EB_POWER : Fld := ⟨5, 8⟩
abbrev PAN_POLICY_EB_HOP_FULL : Fld := ⟨13, 1⟩
abbrev PAN_POLICY_JOIN_RING : Fld := ⟨14, 4⟩
abbrev PAN_POLICY_JOIN_RATE : Fld := ⟨18, 8⟩
abbrev PAN_PHY_MODE : Fld := ⟨0, 8⟩
abbrev PAN_PHY_MCS : Fld := ⟨8, 3⟩
abbrev PAN_PHY_FEC : Fld := ⟨11, 1⟩
abbrev PAN_PHY_FAMILY : Fld := ⟨12, 2⟩
abbrev PAN_PHY_PREAMBLE : Fld := ⟨16, 12⟩
abbrev PAN_RETRY_CLASSES : Fld := ⟨0, 16⟩
abbrev PAN_BACKOFF_MIN_BE : Fld := ⟨0, 4⟩
abbrev PAN_BACKOFF_MAX_BE : Fld := ⟨4, 4⟩
abbrev PAN_ADDR_ASSIGNED : Fld := ⟨0, 17⟩
abbrev PAN_QUAR_QUARANTINED : Fld := ⟨0, 17⟩
abbrev PAN_EB_IE_LEN_LEN : Fld := ⟨0, 6⟩
abbrev PAN_EB_IE_DATA : Fld := ⟨0, 32⟩
abbrev KEY_ERR_PART_WRITE : Fld := ⟨0, 1⟩
abbrev KEY_ERR_PAN_CFG_INVALID : Fld := ⟨1, 1⟩
abbrev KEY_STATUS_KEK_VALID : Fld := ⟨0, 4⟩
abbrev KEY_STATUS_TAMPERED : Fld := ⟨4, 1⟩
abbrev KEY_STATUS_VAULT_CAUSE : Fld := ⟨5, 2⟩
abbrev KEY_STATUS_SAVE_EXACT : Fld := ⟨7, 1⟩
abbrev KEY_KEKCTL_KEK_PROV : Fld := ⟨0, 4⟩
abbrev KEY_MISS_CFG_MISS_TIMEOUT : Fld := ⟨0, 8⟩
abbrev KEY_CACHE_USE_LOADED : Fld := ⟨0, 13⟩
abbrev KEY_CACHE_USE_PINNED : Fld := ⟨16, 6⟩
abbrev KEY_SLOT_ERASE_SLOT : Fld := ⟨0, 13⟩
abbrev KEY_SLOT_ERASE_ALL : Fld := ⟨13, 1⟩
abbrev KEY_SLOT_ERASE_GO : Fld := ⟨14, 1⟩
abbrev KEY_TAMPER_CFG_EN : Fld := ⟨0, 1⟩
abbrev KEY_TAMPER_CFG_POL : Fld := ⟨1, 1⟩
abbrev KEY_TAMPER_CFG_LOG_ONLY : Fld := ⟨2, 1⟩
abbrev KEY_TAMPER_CFG_FILTER : Fld := ⟨4, 4⟩
abbrev KEY_TAMPER_STAT_LATCH : Fld := ⟨0, 4⟩
abbrev KEY_TAMPER_STAT_ZEROIZED : Fld := ⟨4, 1⟩
abbrev KEY_CTR_ADDR_ENTRY : Fld := ⟨0, 14⟩
abbrev KEY_CTR_DATA_NEXT : Fld := ⟨0, 32⟩
abbrev KEY_CTR_INFO_BOUND : Fld := ⟨0, 1⟩
abbrev KEY_CTR_INFO_WARNED : Fld := ⟨1, 1⟩
abbrev KEY_CTR_INFO_SPENT : Fld := ⟨2, 1⟩
abbrev KEY_CTR_INFO_CACHED : Fld := ⟨3, 1⟩
abbrev KEY_CNT_MISS_COUNT : Fld := ⟨0, 32⟩
abbrev KEY_CNT_LATE_COUNT : Fld := ⟨0, 32⟩
abbrev KEY_CNT_TIMEOUT_COUNT : Fld := ⟨0, 32⟩
abbrev KEY_CNT_TXDEF_COUNT : Fld := ⟨0, 32⟩
abbrev KEY_CNT_EVICT_COUNT : Fld := ⟨0, 32⟩
abbrev KEY_CNT_MICFAIL_COUNT : Fld := ⟨0, 32⟩
abbrev KEY_CNT_SCRUB_COUNT : Fld := ⟨0, 32⟩
abbrev KEY_CNT_ACKSPENT_COUNT : Fld := ⟨0, 32⟩
abbrev KEY_PAN_CFG_TX_LEVEL : Fld := ⟨0, 3⟩
abbrev KEY_PAN_CFG_CUR : Fld := ⟨3, 1⟩
abbrev KEY_PAN_CFG_NEXT_VALID : Fld := ⟨4, 1⟩
abbrev KEY_PAN_CFG_GRACE : Fld := ⟨5, 1⟩
abbrev KEY_PAN_CFG_JOIN_KIDX : Fld := ⟨8, 8⟩
abbrev KEY_PAN_CFG_A_KIDX : Fld := ⟨16, 8⟩
abbrev KEY_PAN_CFG_B_KIDX : Fld := ⟨24, 8⟩
abbrev KEY_PAN_DRV_DRV : Fld := ⟨0, 6⟩
abbrev KEY_PAN_DRV_DRV_EN : Fld := ⟨6, 1⟩
abbrev KEY_PAN_DRV_VERSION : Fld := ⟨16, 16⟩
abbrev NDIR_ERR_PART_WRITE : Fld := ⟨0, 1⟩
abbrev NDIR_USE_NODES : Fld := ⟨0, 20⟩
abbrev NDIR_USE_B_ENTRIES : Fld := ⟨0, 20⟩
abbrev NDIR_OVF_USE_A : Fld := ⟨0, 13⟩
abbrev NDIR_OVF_USE_B : Fld := ⟨16, 13⟩
abbrev NDIR_OVF_WARN_OVF_WARN : Fld := ⟨0, 13⟩
abbrev NDIR_AGE_SWEEP_S : Fld := ⟨0, 17⟩
abbrev NDIR_CNT_MOVES_COUNT : Fld := ⟨0, 32⟩
abbrev NDIR_CNT_RELOC_COUNT : Fld := ⟨0, 32⟩
abbrev NDIR_CNT_REHOME_COUNT : Fld := ⟨0, 32⟩
abbrev NDIR_CNT_AGED_COUNT : Fld := ⟨0, 32⟩
abbrev NDIR_CNT_UNBOUND_COUNT : Fld := ⟨0, 32⟩
abbrev NDIR_CNT_RETRY_COUNT : Fld := ⟨0, 32⟩
abbrev NDIR_CNT_LOCKWAIT_COUNT : Fld := ⟨0, 32⟩
abbrev NDIR_CNT_FULL_COUNT : Fld := ⟨0, 32⟩
abbrev LPM_ERR_PART_WRITE : Fld := ⟨0, 1⟩
abbrev LPM_ERR_MODE_BUSY : Fld := ⟨1, 1⟩
abbrev LPM_MODE_MODE : Fld := ⟨0, 1⟩
abbrev LPM_MODE_CHANGING : Fld := ⟨1, 1⟩
abbrev LPM_USE_PREFIXES : Fld := ⟨0, 21⟩
abbrev LPM_NODES_USED : Fld := ⟨0, 14⟩
abbrev LPM_LENGTHS_MASK : Fld := ⟨0, 32⟩
abbrev LPM_CNT_MISS_COUNT : Fld := ⟨0, 32⟩
abbrev LPM_CNT_FPROBE_COUNT : Fld := ⟨0, 32⟩
abbrev MESH_ERR_PART_WRITE : Fld := ⟨0, 1⟩
abbrev MESH_ERR_CTX_INVALID : Fld := ⟨1, 1⟩
abbrev MESH_TWIN_CFG_DISPATCH : Fld := ⟨0, 8⟩
abbrev MESH_CTX_ADDR_CTX : Fld := ⟨0, 4⟩
abbrev MESH_CTX_ADDR_PAN : Fld := ⟨4, 3⟩
abbrev MESH_CTX_HI_PREFIX : Fld := ⟨0, 32⟩
abbrev MESH_CTX_LO_PREFIX : Fld := ⟨0, 32⟩
abbrev MESH_CTX_CFG_LENGTH : Fld := ⟨0, 7⟩
abbrev MESH_CTX_CFG_VALID : Fld := ⟨7, 1⟩
abbrev MESH_CTX_CFG_COMPRESS : Fld := ⟨8, 1⟩
abbrev MESH_SEEN_USE_ENTRIES : Fld := ⟨0, 15⟩
abbrev MESH_TWIN_USE_ENTRIES : Fld := ⟨0, 17⟩
abbrev MESH_REASM_USE_CONTEXTS : Fld := ⟨0, 12⟩
abbrev MESH_PAN_CFG_MAX_FRAME : Fld := ⟨0, 11⟩
abbrev MESH_PAN_CFG_TWIN_EN : Fld := ⟨11, 1⟩
abbrev MESH_PAN_CFG_MPL_FWD : Fld := ⟨12, 1⟩
abbrev MESH_PAN_CFG_DAO_COPY : Fld := ⟨13, 1⟩
abbrev MESH_PAN_RPL_LIFETIME_UNIT : Fld := ⟨0, 16⟩
abbrev MESH_PAN_MPL_IMIN : Fld := ⟨0, 16⟩
abbrev MESH_PAN_MPL_IMAX : Fld := ⟨16, 4⟩
abbrev MESH_PAN_MPL_K : Fld := ⟨20, 4⟩
abbrev MESH_PAN_MPL_EXPIRATIONS : Fld := ⟨24, 4⟩
abbrev MESH_PAN_MPL_SEEDS : Fld := ⟨28, 4⟩
abbrev MESH_PAN_SEED_SEED_BASE : Fld := ⟨0, 16⟩
abbrev MESH_PAN_SEED_SEEDS16 : Fld := ⟨16, 1⟩
abbrev MESH_PAN_TWSEQ_TWSEQ : Fld := ⟨0, 16⟩
abbrev MESH_CNT_DISCARD_COUNT : Fld := ⟨0, 32⟩
abbrev MESH_CNT_DECOMP_COUNT : Fld := ⟨0, 32⟩
abbrev MESH_CNT_REASMFULL_COUNT : Fld := ⟨0, 32⟩
abbrev MESH_CNT_REASMTMO_COUNT : Fld := ⟨0, 32⟩
abbrev MESH_CNT_TOOBIG_COUNT : Fld := ⟨0, 32⟩
abbrev MESH_CNT_DAOBAD_COUNT : Fld := ⟨0, 32⟩
abbrev MESH_CNT_DAOOLD_COUNT : Fld := ⟨0, 32⟩
abbrev MESH_CNT_ALTUSED_COUNT : Fld := ⟨0, 32⟩
abbrev MESH_CNT_NOROUTE_COUNT : Fld := ⟨0, 32⟩
abbrev MESH_CNT_TOODEEP_COUNT : Fld := ⟨0, 32⟩
abbrev MESH_CNT_NODEMISS_COUNT : Fld := ⟨0, 32⟩
abbrev MESH_CNT_HOPLIMIT_COUNT : Fld := ⟨0, 32⟩
abbrev MESH_CNT_SEEDWAIT_COUNT : Fld := ⟨0, 32⟩
abbrev MESH_CNT_MPLDUP_COUNT : Fld := ⟨0, 32⟩
abbrev MESH_CNT_MPLEVICT_COUNT : Fld := ⟨0, 32⟩
abbrev MESH_CNT_TWINBAD_COUNT : Fld := ⟨0, 32⟩
abbrev MESH_CNT_TWINSINGLE_COUNT : Fld := ⟨0, 32⟩
abbrev MESH_CNT_TWINNOFIT_COUNT : Fld := ⟨0, 32⟩
abbrev MESH_CNT_TWINLATE_COUNT : Fld := ⟨0, 32⟩
abbrev MESH_CNT_TWINDUP_COUNT : Fld := ⟨0, 32⟩
abbrev MESH_CNT_TWINNOORG_COUNT : Fld := ⟨0, 32⟩
abbrev MESH_CNT_TWINEVICT_COUNT : Fld := ⟨0, 32⟩
abbrev CVN_ERR_PART_WRITE : Fld := ⟨0, 1⟩
abbrev CVN_CFG_PORT : Fld := ⟨0, 16⟩
abbrev CVN_CFG_SWEEP_INFLIGHT : Fld := ⟨16, 11⟩
abbrev CVN_CONCUR_WINDOW : Fld := ⟨0, 7⟩
abbrev CVN_LIMIT01_LIMIT0 : Fld := ⟨0, 9⟩
abbrev CVN_LIMIT01_LIMIT1 : Fld := ⟨16, 9⟩
abbrev CVN_LIMIT23_VALUE : Fld := ⟨0, 25⟩
abbrev CVN_RING_RING : Fld := ⟨0, 4⟩
abbrev CVN_USE_OPEN : Fld := ⟨0, 9⟩
abbrev CVN_USE_WAITING : Fld := ⟨16, 9⟩
abbrev CVN_IDQ_QUARANTINED : Fld := ⟨0, 17⟩
abbrev CVN_POOL_USE_EXTENTS : Fld := ⟨0, 13⟩
abbrev CVN_CNT_DUPACK_COUNT : Fld := ⟨0, 32⟩
abbrev CVN_CNT_LATEACK_COUNT : Fld := ⟨0, 32⟩
abbrev CVN_CNT_STRAY_COUNT : Fld := ⟨0, 32⟩
abbrev CVN_CNT_BADENV_COUNT : Fld := ⟨0, 32⟩
abbrev CVN_CNT_MISMATCH_COUNT : Fld := ⟨0, 32⟩
abbrev IMG_ERR_PART_WRITE : Fld := ⟨0, 1⟩
abbrev IMG_CFG_RATE : Fld := ⟨0, 10⟩
abbrev IMG_CFG_PROACTIVE : Fld := ⟨10, 7⟩
abbrev IMG_CFG_UNICAST_MAX : Fld := ⟨17, 4⟩
abbrev IMG_CFG2_PORT : Fld := ⟨0, 16⟩
abbrev IMG_CFG2_REPORT_WINDOW : Fld := ⟨16, 16⟩
abbrev IMG_SESS_STATE : Fld := ⟨0, 3⟩
abbrev IMG_SESS_ROUND : Fld := ⟨3, 4⟩
abbrev IMG_SESS_GENS_NEED : Fld := ⟨8, 16⟩
abbrev IMG_CNT_REPORTS_COUNT : Fld := ⟨0, 32⟩
abbrev IMG_CNT_STRAY_COUNT : Fld := ⟨0, 32⟩
abbrev QMG_ERR_PART_WRITE : Fld := ⟨0, 1⟩
abbrev QMG_ERR_QUEUE_INVALID : Fld := ⟨1, 1⟩
abbrev QMG_FREE_CELLS : Fld := ⟨0, 17⟩
abbrev QMG_SPILL_FREE : Fld := ⟨0, 23⟩
abbrev QMG_SPILL_CFG_SIZE_MIB : Fld := ⟨0, 11⟩
abbrev QMG_SPILL_CFG_NEXT_MIB : Fld := ⟨16, 11⟩
abbrev QMG_THRESH_SPILL_LOW : Fld := ⟨0, 16⟩
abbrev QMG_THRESH_SPILL_HIGH : Fld := ⟨16, 16⟩
abbrev QMG_RESERVE_INGRESS_FLOOR : Fld := ⟨0, 16⟩
abbrev QMG_HOST_CREDIT_CELLS : Fld := ⟨0, 16⟩
abbrev QMG_FLUSH_QUEUE : Fld := ⟨0, 16⟩
abbrev QMG_FLUSH_GO : Fld := ⟨16, 1⟩
abbrev QMG_Q_ADDR_QUEUE : Fld := ⟨0, 16⟩
abbrev QMG_Q_ADDR_AUTOINC : Fld := ⟨31, 1⟩
abbrev QMG_Q_DATA_PROFILE : Fld := ⟨0, 4⟩
abbrev QMG_Q_DATA_SHAPER : Fld := ⟨4, 10⟩
abbrev QMG_Q_DATA_SHAPE_EN : Fld := ⟨14, 1⟩
abbrev QMG_QINFO_CELLS_CELLS : Fld := ⟨0, 23⟩
abbrev QMG_QINFO_FRAMES_FRAMES : Fld := ⟨0, 23⟩
abbrev QMG_QINFO_DROPS_DROPS : Fld := ⟨0, 32⟩
abbrev QMG_PROF_LIM_LIMIT : Fld := ⟨0, 23⟩
abbrev QMG_PROF_LIM_SPILL_OK : Fld := ⟨23, 1⟩
abbrev QMG_PROF_YLIM_YLIM : Fld := ⟨0, 23⟩
abbrev QMG_WAIT_LIMIT_WAIT_LIMIT : Fld := ⟨0, 6⟩
abbrev QMG_POP_Q_WINDOW : Fld := ⟨0, 3⟩
abbrev QMG_POP_WAIT_FRAME : Fld := ⟨0, 32⟩
abbrev QMG_POP_DATA_DATA : Fld := ⟨0, 32⟩
abbrev QMG_TAP_SOURCE : Fld := ⟨0, 16⟩
abbrev QMG_TAP_EN : Fld := ⟨16, 1⟩
abbrev QMG_CNT_FAULT_COUNT : Fld := ⟨0, 32⟩
abbrev QMG_CNT_LEAK_COUNT : Fld := ⟨0, 32⟩
abbrev QMG_CNT_TAILDROP_COUNT : Fld := ⟨0, 32⟩
abbrev QMG_CNT_RXNACK_COUNT : Fld := ⟨0, 32⟩
abbrev QMG_CNT_SPILLERR_COUNT : Fld := ⟨0, 32⟩
abbrev QMG_CNT_TAPSKIP_COUNT : Fld := ⟨0, 32⟩
abbrev QMG_CNT_HOSTFLOOR_COUNT : Fld := ⟨0, 32⟩
abbrev QMG_HIST_ADDR_BIN : Fld := ⟨0, 4⟩
abbrev QMG_HIST_ADDR_KIND : Fld := ⟨4, 1⟩
abbrev QMG_HIST_ADDR_CLASS : Fld := ⟨5, 4⟩
abbrev QMG_HIST_DATA_COUNT : Fld := ⟨0, 32⟩
abbrev QMG_HOST_CREDIT_P_CELLS : Fld := ⟨0, 16⟩
abbrev SHP_ERR_PART_WRITE : Fld := ⟨0, 1⟩
abbrev SHP_ERR_GCL_BUSY : Fld := ⟨1, 1⟩
abbrev SHP_SH_ADDR_SHAPER : Fld := ⟨0, 10⟩
abbrev SHP_SH_DATA0_RATE : Fld := ⟨0, 24⟩
abbrev SHP_SH_DATA0_ADJUST : Fld := ⟨24, 7⟩
abbrev SHP_SH_DATA1_BURST : Fld := ⟨0, 20⟩
abbrev SHP_SH_LEVEL_LEVEL : Fld := ⟨0, 32⟩
abbrev SHP_POL_ADDR_POLICER : Fld := ⟨0, 12⟩
abbrev SHP_POL_ADDR_WORD : Fld := ⟨12, 3⟩
abbrev SHP_POL_ADDR_COLOUR : Fld := ⟨15, 2⟩
abbrev SHP_POL_DATA_DATA : Fld := ⟨0, 32⟩
abbrev SHP_POL_CNT_COUNT : Fld := ⟨0, 32⟩
abbrev SHP_ING_POLICER : Fld := ⟨0, 12⟩
abbrev SHP_ING_EN : Fld := ⟨12, 1⟩
abbrev SHP_GCL_ADDR_ENTRY : Fld := ⟨0, 8⟩
abbrev SHP_GCL_ADDR_PORT : Fld := ⟨8, 2⟩
abbrev SHP_GCL_ADDR_BANK : Fld := ⟨10, 1⟩
abbrev SHP_GCL_ADDR_AUTOINC : Fld := ⟨31, 1⟩
abbrev SHP_GCL_DATA_GATES : Fld := ⟨0, 8⟩
abbrev SHP_GCL_DATA_INTERVAL : Fld := ⟨8, 24⟩
abbrev SHP_GCL_CTRL_LEN : Fld := ⟨0, 9⟩
abbrev SHP_GCL_CTRL_COMMIT : Fld := ⟨9, 1⟩
abbrev SHP_GCL_CTRL_PENDING : Fld := ⟨10, 1⟩
abbrev SHP_GCL_BASE_S_SECONDS : Fld := ⟨0, 32⟩
abbrev SHP_GCL_BASE_NS_NS : Fld := ⟨0, 30⟩
abbrev SHP_CNT_NOFIT_COUNT : Fld := ⟨0, 32⟩
abbrev PART_ERR_PART_WRITE : Fld := ⟨0, 1⟩
abbrev PART_ERR_MAP_INVALID : Fld := ⟨1, 1⟩
abbrev PART_STATUS_PART : Fld := ⟨0, 2⟩
abbrev PART_STATUS_PORT : Fld := ⟨2, 1⟩
abbrev PART_STATUS_FUNCTION : Fld := ⟨3, 2⟩
abbrev PART_STATUS_FW_READY : Fld := ⟨5, 1⟩
abbrev PART_STATUS_PASS_UP : Fld := ⟨6, 1⟩
abbrev PART_MAP_MAP : Fld := ⟨0, 8⟩
abbrev PART_MAP_ACTIVE : Fld := ⟨8, 8⟩
abbrev PART_RESET_RESET : Fld := ⟨0, 4⟩
abbrev RING_ERR_DB_OVERRUN : Fld := ⟨0, 1⟩
abbrev RING_ERR_SIZE_INVALID : Fld := ⟨1, 1⟩
abbrev RING_ERR_RING_BUSY : Fld := ⟨2, 1⟩
abbrev RING_ERR_DESC_DMA : Fld := ⟨3, 1⟩
abbrev RING_ERR_BUF_DMA : Fld := ⟨4, 1⟩
abbrev RING_ERR_PART_WRITE : Fld := ⟨5, 1⟩
abbrev RING_ERR_INFO_RING : Fld := ⟨0, 6⟩
abbrev RING_ERR_INFO_INDEX : Fld := ⟨16, 16⟩
abbrev RING_CPL_RESV_RESERVED : Fld := ⟨0, 17⟩
abbrev RING_BASE_LO_ADDR : Fld := ⟨6, 26⟩
abbrev RING_BASE_HI_ADDR : Fld := ⟨0, 32⟩
abbrev RING_CFG_SIZE : Fld := ⟨0, 5⟩
abbrev RING_CFG_VECTOR : Fld := ⟨5, 5⟩
abbrev RING_CFG_IRQ_EN : Fld := ⟨10, 1⟩
abbrev RING_STATE_CHIP : Fld := ⟨0, 16⟩
abbrev RING_STATE_HOST : Fld := ⟨16, 16⟩
abbrev RING_DB_INDEX : Fld := ⟨0, 16⟩
abbrev EVT_ROUTE_ADDR_SOURCE : Fld := ⟨0, 7⟩
abbrev EVT_ROUTE_DATA_EN : Fld := ⟨0, 1⟩
abbrev EVT_ROUTE_DATA_VECTOR : Fld := ⟨1, 5⟩
abbrev EVT_CNT_DROP_COUNT : Fld := ⟨0, 32⟩
abbrev EVT_HOLDOFF_HOLDOFF : Fld := ⟨0, 10⟩
abbrev ETH_ERR_PART_WRITE : Fld := ⟨0, 1⟩
abbrev ETH_ERR_CFG_BUSY : Fld := ⟨1, 1⟩
abbrev ETH_CLASSMAP_CLASSES : Fld := ⟨0, 12⟩
abbrev ETH_OTHER_OTHER_RING : Fld := ⟨0, 4⟩
abbrev ETH_OTHER_OTHER_EN : Fld := ⟨4, 1⟩
abbrev ETH_MDIO_DATA : Fld := ⟨0, 16⟩
abbrev ETH_MDIO_REG : Fld := ⟨16, 5⟩
abbrev ETH_MDIO_PHY : Fld := ⟨21, 5⟩
abbrev ETH_MDIO_OP : Fld := ⟨26, 2⟩
abbrev ETH_MDIO_BUSY : Fld := ⟨28, 1⟩
abbrev ETH_CFG_EN : Fld := ⟨0, 1⟩
abbrev ETH_CFG_MODE : Fld := ⟨1, 1⟩
abbrev ETH_CFG_VLAN_EN : Fld := ⟨2, 1⟩
abbrev ETH_CFG_VID : Fld := ⟨3, 12⟩
abbrev ETH_CFG_NH_V : Fld := ⟨15, 1⟩
abbrev ETH_CFG_MAX_LEN : Fld := ⟨16, 13⟩
abbrev ETH_MAC_LO_MAC : Fld := ⟨0, 32⟩
abbrev ETH_MAC_HI_MAC : Fld := ⟨0, 16⟩
abbrev ETH_NH_LO_NH : Fld := ⟨0, 32⟩
abbrev ETH_NH_HI_NH : Fld := ⟨0, 16⟩
abbrev ETH_STATUS_LINK : Fld := ⟨0, 1⟩
abbrev ETH_STATUS_SPEED : Fld := ⟨1, 2⟩
abbrev ETH_STATUS_LOS : Fld := ⟨3, 1⟩
abbrev ETH_CNT_RXOK_COUNT : Fld := ⟨0, 32⟩
abbrev ETH_CNT_RXERR_COUNT : Fld := ⟨0, 32⟩
abbrev ETH_CNT_FIFODROP_COUNT : Fld := ⟨0, 32⟩
abbrev ETH_CNT_TXOK_COUNT : Fld := ⟨0, 32⟩
abbrev ETH_CNT_NONH_COUNT : Fld := ⟨0, 32⟩
abbrev ETH_CNT_TOOBIG_COUNT : Fld := ⟨0, 32⟩
abbrev ETH_CNT_OTHERDROP_COUNT : Fld := ⟨0, 32⟩
abbrev ETH_CNT_PAUSE_COUNT : Fld := ⟨0, 32⟩
abbrev PRP_ERR_PART_WRITE : Fld := ⟨0, 1⟩
abbrev PRP_ERR_PRP_BUSY : Fld := ⟨1, 1⟩
abbrev PRP_CFG_PRP_EN : Fld := ⟨0, 1⟩
abbrev PRP_CFG_LIFE_CHECK : Fld := ⟨1, 16⟩
abbrev PRP_CFG_ENTRY_FORGET : Fld := ⟨17, 10⟩
abbrev PRP_USE_ENTRIES : Fld := ⟨0, 12⟩
abbrev PRP_CNT_DUP_COUNT : Fld := ⟨0, 32⟩
abbrev PRP_CNT_EVICT_COUNT : Fld := ⟨0, 32⟩
abbrev PRP_CNT_WRONGLAN_A_COUNT : Fld := ⟨0, 32⟩
abbrev PRP_CNT_WRONGLAN_B_COUNT : Fld := ⟨0, 32⟩
abbrev PRP_CNT_UNIQUE_A_COUNT : Fld := ⟨0, 32⟩
abbrev PRP_CNT_UNIQUE_B_COUNT : Fld := ⟨0, 32⟩
abbrev PRP_CNT_LANDOWN_COUNT : Fld := ⟨0, 32⟩
abbrev PTP_ERR_PART_WRITE : Fld := ⟨0, 1⟩
abbrev PTP_NOW_S_SECONDS : Fld := ⟨0, 32⟩
abbrev PTP_NOW_NS_NS : Fld := ⟨0, 30⟩
abbrev PTP_NOW_NS_VALID : Fld := ⟨31, 1⟩
abbrev PTP_CFG_PTP_PART : Fld := ⟨0, 2⟩
abbrev PTP_CFG_PTP_RING : Fld := ⟨2, 4⟩
abbrev PTP_CFG_PTP_COPY : Fld := ⟨6, 1⟩
abbrev PTP_UTC_UTC_OFFSET : Fld := ⟨0, 16⟩
abbrev PTP_UTC_UTC_V : Fld := ⟨16, 1⟩
abbrev PTP_LAT_RX_LAT : Fld := ⟨0, 16⟩
abbrev PTP_LAT_TX_LAT : Fld := ⟨16, 16⟩
abbrev PTP_PORT_CFG_ONESTEP : Fld := ⟨0, 1⟩
abbrev PTP_TXTS_POP_TS_ID : Fld := ⟨0, 16⟩
abbrev PTP_TXTS_POP_VALID : Fld := ⟨16, 1⟩
abbrev PTP_TXTS_S_SECONDS : Fld := ⟨0, 32⟩
abbrev PTP_TXTS_NS_NS : Fld := ⟨0, 30⟩
abbrev PTP_TXTS_USE_ENTRIES : Fld := ⟨0, 7⟩
abbrev PTP_CNT_TSOVF_COUNT : Fld := ⟨0, 32⟩
abbrev TMR_ERR_PART_WRITE : Fld := ⟨0, 1⟩
abbrev TMR_ERR_TIME_RUNNING : Fld := ⟨1, 1⟩
abbrev TMR_TIME_S_SECONDS : Fld := ⟨0, 32⟩
abbrev TMR_TIME_NS_NS : Fld := ⟨0, 30⟩
abbrev TMR_TIME_NS_VALID : Fld := ⟨31, 1⟩
abbrev TMR_SRC_SRC : Fld := ⟨0, 2⟩
abbrev TMR_SRC_PREFER : Fld := ⟨2, 1⟩
abbrev TMR_SRC_REVERT_S : Fld := ⟨3, 12⟩
abbrev TMR_SRC_SLEW_PPM : Fld := ⟨15, 7⟩
abbrev TMR_SERVO_STATE : Fld := ⟨0, 3⟩
abbrev TMR_SERVO_ACTIVE : Fld := ⟨3, 1⟩
abbrev TMR_OFFSET_NS : Fld := ⟨0, 32⟩
abbrev TMR_SET_S_SECONDS : Fld := ⟨0, 32⟩
abbrev TMR_SET_NS_NS : Fld := ⟨0, 30⟩
abbrev TMR_SET_CTRL_SET : Fld := ⟨0, 1⟩
abbrev TMR_SET_CTRL_ADJ : Fld := ⟨1, 1⟩
abbrev TMR_ADJ_NS_NS : Fld := ⟨0, 32⟩
abbrev TMR_LOCK_LOCK_NS : Fld := ⟨0, 16⟩
abbrev TMR_DOM_CFG_EN : Fld := ⟨0, 1⟩
abbrev TMR_DOM_CFG_PORT : Fld := ⟨1, 2⟩
abbrev TMR_DOM_CFG_DOMAIN : Fld := ⟨3, 8⟩
abbrev TMR_DOM_CFG_CLASS_MAX : Fld := ⟨11, 8⟩
abbrev TMR_DOM_STATE_GOOD : Fld := ⟨0, 1⟩
abbrev TMR_DOM_STATE_CLASS : Fld := ⟨1, 8⟩
abbrev TMR_DOM_STATE_TWO_STEP : Fld := ⟨9, 1⟩
abbrev TMR_DOM_DELAY_NS : Fld := ⟨0, 32⟩
abbrev TMR_DOM_OFFSET_NS : Fld := ⟨0, 32⟩
abbrev TMR_PPS_OUT_EN : Fld := ⟨0, 1⟩
abbrev TMR_PPS_WIDTH : Fld := ⟨1, 10⟩
abbrev TMR_PPS_IN_EN : Fld := ⟨11, 1⟩
abbrev TMR_CNT_PPSREJ_COUNT : Fld := ⟨0, 32⟩
abbrev TMR_CTRL_CMP_EN : Fld := ⟨0, 1⟩
abbrev TMR_CTRL_PRELOAD : Fld := ⟨1, 1⟩
abbrev TMR_CTRL_CMP_IRQ : Fld := ⟨2, 1⟩
abbrev TMR_CTRL_WRAP_IRQ : Fld := ⟨3, 1⟩
abbrev TMR_CTRL_CLR : Fld := ⟨4, 1⟩
abbrev TMR_CNT_LO_COUNT : Fld := ⟨0, 32⟩
abbrev TMR_CNT_HI_COUNT : Fld := ⟨0, 32⟩
abbrev TMR_CMP_LO_C : Fld := ⟨0, 32⟩
abbrev TMR_CMP_HI_C : Fld := ⟨0, 32⟩
abbrev TMR_PER_LO_P : Fld := ⟨0, 32⟩
abbrev TMR_PER_HI_P : Fld := ⟨0, 32⟩
abbrev TMR_STAT_CMP : Fld := ⟨0, 1⟩
abbrev TMR_STAT_WRAP : Fld := ⟨1, 1⟩
abbrev TMR_CAP_CFG_EN : Fld := ⟨0, 1⟩
abbrev TMR_CAP_CFG_EDGE : Fld := ⟨1, 2⟩
abbrev TMR_CAP_CFG_FILTER : Fld := ⟨3, 4⟩
abbrev TMR_CAP_CFG_DIV : Fld := ⟨7, 8⟩
abbrev TMR_CAP_CFG_TIMER : Fld := ⟨15, 3⟩
abbrev TMR_CAP_CFG_IRQ : Fld := ⟨18, 1⟩
abbrev TMR_CAP_STAT_FULL : Fld := ⟨0, 1⟩
abbrev TMR_CAP_STAT_OVERRUN : Fld := ⟨1, 1⟩
abbrev TMR_CAP_CNT_LO_COUNT : Fld := ⟨0, 32⟩
abbrev TMR_CAP_CNT_HI_COUNT : Fld := ⟨0, 32⟩
abbrev TMR_CAP_S_SECONDS : Fld := ⟨0, 32⟩
abbrev TMR_CAP_NS_NS : Fld := ⟨0, 30⟩
abbrev TMR_TOUT_EN : Fld := ⟨0, 1⟩
abbrev TMR_TOUT_TIMER : Fld := ⟨1, 3⟩
abbrev TMR_TOUT_ACTION : Fld := ⟨4, 2⟩
abbrev TMR_TOUT_PULSE : Fld := ⟨6, 16⟩
abbrev TMR_TOUT_LEVEL : Fld := ⟨22, 1⟩
abbrev SAFE_ERR_PART_WRITE : Fld := ⟨0, 1⟩
abbrev SAFE_STATE_QUIET : Fld := ⟨0, 1⟩
abbrev SAFE_STATE_DRIVE_F : Fld := ⟨1, 1⟩
abbrev SAFE_STATE_DRIVE_H : Fld := ⟨2, 1⟩
abbrev SAFE_CAUSE_LATCHED : Fld := ⟨0, 16⟩
abbrev SAFE_CAUSE_LIVE : Fld := ⟨16, 16⟩
abbrev SAFE_CTRL_FORCE : Fld := ⟨0, 1⟩
abbrev SAFE_CTRL_YARROW_CONT : Fld := ⟨1, 1⟩
abbrev SAFE_ESC_ESC_S : Fld := ⟨0, 12⟩
abbrev SAFE_DROVER_CFG_INTERVAL_MS : Fld := ⟨0, 8⟩
abbrev SAFE_DROVER_CFG_ATTEMPTS : Fld := ⟨8, 4⟩
abbrev SAFE_HEALTH_PIPE_OK : Fld := ⟨0, 4⟩
abbrev SAFE_HEALTH_PAIR_OK : Fld := ⟨4, 4⟩
abbrev SAFE_HEALTH_DROVER_OK : Fld := ⟨8, 4⟩
abbrev SAFE_HEALTH_CLOCK_OK : Fld := ⟨12, 1⟩
abbrev SAFE_HEALTH_TIME_OK : Fld := ⟨13, 1⟩
abbrev SAFE_HEALTH_LEDGER_OK : Fld := ⟨14, 1⟩
abbrev SAFE_HEALTH_ISLAND_OK : Fld := ⟨15, 1⟩
abbrev SAFE_PEER_PEER_OK : Fld := ⟨0, 1⟩
abbrev SAFE_PEER_AGE_MS : Fld := ⟨8, 8⟩
abbrev SAFE_YARROW_CLUSTER : Fld := ⟨0, 4⟩
abbrev SAFE_YARROW_ACTIVE : Fld := ⟨4, 1⟩
abbrev SAFE_YARROW_PAUSED : Fld := ⟨5, 1⟩
abbrev SAFE_YARROW_ROT_MS : Fld := ⟨8, 8⟩
abbrev SAFE_YARROW_SKIPS : Fld := ⟨16, 16⟩
abbrev SAFE_CNT_PIPEFAIL_COUNT : Fld := ⟨0, 32⟩
abbrev SAFE_CNT_CLUSTERFAIL_COUNT : Fld := ⟨0, 32⟩
abbrev SAFE_CNT_FRAMECHK_COUNT : Fld := ⟨0, 32⟩
abbrev SAFE_CNT_PAIRRESTART_COUNT : Fld := ⟨0, 32⟩
abbrev SAFE_CNT_CELLUE_COUNT : Fld := ⟨0, 32⟩
abbrev SAFE_DROVER_LP : Fld := ⟨0, 13⟩
abbrev SAFE_DROVER_EN : Fld := ⟨13, 1⟩
abbrev SAFE_DROVER_STAT_RX_OK : Fld := ⟨0, 1⟩
abbrev SAFE_DROVER_STAT_TX_OK : Fld := ⟨1, 1⟩
abbrev SAFE_DROVER_STAT_FAILS : Fld := ⟨8, 8⟩
abbrev SAFE_DROVER_STAT_LOOPS : Fld := ⟨16, 16⟩
abbrev LOG_ERR_PART_WRITE : Fld := ⟨0, 1⟩
abbrev LOG_LCTRL_FREEZE : Fld := ⟨0, 1⟩
abbrev LOG_LCTRL_FROZEN : Fld := ⟨1, 1⟩
abbrev LOG_LNEXT_SEQ : Fld := ⟨0, 32⟩
abbrev LOG_LFIFO_ENTRIES : Fld := ⟨0, 9⟩
abbrev LOG_LADDR_INDEX : Fld := ⟨0, 14⟩
abbrev LOG_LADDR_WORD : Fld := ⟨14, 3⟩
abbrev LOG_LADDR_AUTOINC : Fld := ⟨31, 1⟩
abbrev LOG_LDATA_DATA : Fld := ⟨0, 32⟩
abbrev LOG_TNEXT_SEQ : Fld := ⟨0, 32⟩
abbrev LOG_TADDR_INDEX : Fld := ⟨0, 18⟩
abbrev LOG_TADDR_WORD : Fld := ⟨18, 3⟩
abbrev LOG_TADDR_AUTOINC : Fld := ⟨31, 1⟩
abbrev LOG_TDATA_DATA : Fld := ⟨0, 32⟩
abbrev LOG_CNT_GAP_COUNT : Fld := ⟨0, 32⟩
abbrev PWR_ERR_PART_WRITE : Fld := ⟨0, 1⟩
abbrev PWR_ERR_FORCE_INVALID : Fld := ⟨1, 1⟩
abbrev PWR_STATE_STATE : Fld := ⟨0, 3⟩
abbrev PWR_STATE_FORCED : Fld := ⟨3, 1⟩
abbrev PWR_STATE_IDLE : Fld := ⟨4, 1⟩
abbrev PWR_LAT_TOL_TOL_US : Fld := ⟨0, 23⟩
abbrev PWR_LAT_MIN_T_US : Fld := ⟨0, 23⟩
abbrev PWR_PERMIT_PERMIT_DEEP : Fld := ⟨0, 1⟩
abbrev PWR_PERMIT_IDLE_MS : Fld := ⟨8, 8⟩
abbrev PWR_PERMIT_TRIM_SPARE : Fld := ⟨16, 8⟩
abbrev PWR_FORCE_EN : Fld := ⟨0, 1⟩
abbrev PWR_FORCE_STATE : Fld := ⟨1, 3⟩
abbrev PWR_WAKE_CFG_WAKE_EN : Fld := ⟨0, 1⟩
abbrev PWR_WAKE_CFG_ALARM_EN : Fld := ⟨1, 1⟩
abbrev PWR_RTC_S_SECONDS : Fld := ⟨0, 32⟩
abbrev PWR_ALARM_S_SECONDS : Fld := ⟨0, 32⟩
abbrev PWR_VAULT_STAT_ON_VBAT : Fld := ⟨0, 1⟩
abbrev PWR_VAULT_STAT_VBAT_LOST : Fld := ⟨1, 1⟩
abbrev PWR_SAVE_STAT_RESULT : Fld := ⟨0, 2⟩
abbrev PWR_SAVE_STAT_BYTES : Fld := ⟨2, 19⟩
abbrev PWR_SAVE_STAT_TIME_100US : Fld := ⟨21, 11⟩
abbrev PWR_CNT_SAVE_COUNT : Fld := ⟨0, 32⟩
abbrev SYS_RESET_SOFT : Fld := ⟨0, 1⟩
abbrev SYS_RESET_RECOVERY : Fld := ⟨1, 1⟩
abbrev SYS_RESET_CAUSE_KIND : Fld := ⟨0, 4⟩
abbrev SYS_RESET_CAUSE_VAULT_WAKE : Fld := ⟨4, 1⟩
abbrev SYS_RESET_CAUSE_SAVED : Fld := ⟨5, 1⟩
abbrev SYS_DRAM_KEEP_KEEP : Fld := ⟨0, 1⟩
abbrev BOOT_ERR_PART_WRITE : Fld := ⟨0, 1⟩
abbrev BOOT_ERR_SEL_INVALID : Fld := ⟨1, 1⟩
abbrev BOOT_STATUS_SLOT : Fld := ⟨0, 2⟩
abbrev BOOT_STATUS_FALLBACK : Fld := ⟨2, 1⟩
abbrev BOOT_STATUS_FUSE_SVN : Fld := ⟨3, 7⟩
abbrev BOOT_STATUS_RUN_SVN : Fld := ⟨10, 7⟩
abbrev BOOT_STATUS_LIFECYCLE : Fld := ⟨17, 1⟩
abbrev BOOT_VERSION_VERSION : Fld := ⟨0, 32⟩
abbrev BOOT_SLOTA_FIRST_FAIL : Fld := ⟨0, 4⟩
abbrev BOOT_SLOTA_TRIES : Fld := ⟨4, 2⟩
abbrev BOOT_SLOTA_SVN : Fld := ⟨6, 7⟩
abbrev BOOT_SLOTA_CHANGED : Fld := ⟨13, 1⟩
abbrev BOOT_SLOTB_FIRST_FAIL : Fld := ⟨0, 4⟩
abbrev BOOT_SLOTB_TRIES : Fld := ⟨4, 2⟩
abbrev BOOT_SLOTB_SVN : Fld := ⟨6, 7⟩
abbrev BOOT_SLOTB_CHANGED : Fld := ⟨13, 1⟩
abbrev BOOT_VER_A_VERSION : Fld := ⟨0, 32⟩
abbrev BOOT_VER_B_VERSION : Fld := ⟨0, 32⟩
abbrev BOOT_SEL_SEL : Fld := ⟨0, 2⟩
abbrev BOOT_SEL_ONCE : Fld := ⟨2, 1⟩
abbrev BOOT_SEL_CLR_TRIES_A : Fld := ⟨3, 1⟩
abbrev BOOT_SEL_CLR_TRIES_B : Fld := ⟨4, 1⟩
abbrev BOOT_RB_COMMIT : Fld := ⟨0, 1⟩
abbrev BOOT_RB_BLOWING : Fld := ⟨1, 1⟩
abbrev BOOT_UNIT_ID_UNIT_ID : Fld := ⟨0, 32⟩
abbrev BIST_ERR_PART_WRITE : Fld := ⟨0, 1⟩
abbrev BIST_CTRL_MAINT : Fld := ⟨0, 1⟩
abbrev BIST_STATUS_REGION : Fld := ⟨0, 8⟩
abbrev BIST_STATUS_RUNNING : Fld := ⟨8, 1⟩
abbrev BIST_STATUS_PASS : Fld := ⟨9, 1⟩
abbrev BIST_STATUS_VALID : Fld := ⟨10, 1⟩
abbrev BIST_MISR_MISR : Fld := ⟨0, 32⟩
abbrev BIST_BOOT_FAIL_REGIONS : Fld := ⟨0, 32⟩
abbrev SYS_LOCK_KEY : Fld := ⟨0, 32⟩
abbrev SYS_LOCK_UNLOCKED : Fld := ⟨0, 1⟩
abbrev SYS_BANK_BANK : Fld := ⟨0, 2⟩
abbrev SYS_ERR_PART_WRITE : Fld := ⟨0, 1⟩
abbrev SYS_ERR_BANK_INVALID : Fld := ⟨1, 1⟩
abbrev SYS_CNT_GUARD_COUNT : Fld := ⟨0, 32⟩
abbrev SYS_ID_HW_TYPE : Fld := ⟨0, 16⟩
abbrev SYS_ID_STEPPING : Fld := ⟨16, 8⟩
abbrev SYS_ID_GRADE : Fld := ⟨24, 1⟩
abbrev SYS_DRAM_GIB : Fld := ⟨0, 5⟩
abbrev SYS_DRAM_TRAINED : Fld := ⟨5, 1⟩
abbrev SYS_CNT_CE_SRAM_COUNT : Fld := ⟨0, 32⟩
abbrev SYS_CNT_CE_DRAM_COUNT : Fld := ⟨0, 32⟩
abbrev SYS_CNT_UE_COUNT : Fld := ⟨0, 32⟩
abbrev SYS_TEMP_TEMP : Fld := ⟨0, 12⟩
abbrev PASS_STATUS_UP : Fld := ⟨0, 1⟩
abbrev PASS_STATUS_RETRAIN : Fld := ⟨1, 1⟩
abbrev PASS_STATUS_DOWN : Fld := ⟨2, 1⟩
abbrev PASS_STATUS_K6_LOCAL : Fld := ⟨3, 1⟩
abbrev PASS_STATUS_F_RESET : Fld := ⟨4, 1⟩
abbrev PASS_REJECT_COUNT : Fld := ⟨0, 32⟩
abbrev PASS_LAST_REJECT_TYPE : Fld := ⟨0, 8⟩
abbrev PASS_LAST_REJECT_DIE : Fld := ⟨8, 1⟩
abbrev PASS_LAST_REJECT_LEN_ERR : Fld := ⟨9, 1⟩
abbrev PASS_CNT_CRC_COUNT : Fld := ⟨0, 32⟩
abbrev PASS_CNT_RESEND_COUNT : Fld := ⟨0, 32⟩
abbrev PASS_CNT_RETRAIN_COUNT : Fld := ⟨0, 32⟩
abbrev PASS_CNT_DOWN_COUNT : Fld := ⟨0, 32⟩
abbrev PASS_FCNT_CRC_COUNT : Fld := ⟨0, 32⟩
abbrev PASS_FCNT_RESEND_COUNT : Fld := ⟨0, 32⟩

end Sys2Proof.Machine.F

namespace Sys2Proof.Machine

/-- Rows of the `SYS` register table (R444 block 0), in the form base, count, stride, count, stride, one copy per partition,
masks of RW, W1C, WO, RC, RWL and RO bits. -/
def regRowsSys : List RegRow := [
  ⟨0x40, 1, 4096, 1, 4, false, 0x0, 0x0, 0x0, 0x0, 0x3, 0x0⟩,
  ⟨0x44, 1, 4096, 1, 4, false, 0x0, 0x0, 0x0, 0x0, 0x0, 0x3F⟩,
  ⟨0x48, 1, 4096, 1, 4, false, 0x1, 0x0, 0x0, 0x0, 0x0, 0x0⟩,
  ⟨0x0, 1, 4096, 1, 4, true, 0x0, 0x0, 0xFFFFFFFF, 0x0, 0x0, 0x1⟩,
  ⟨0x4, 1, 4096, 1, 4, true, 0x3, 0x0, 0x0, 0x0, 0x0, 0x0⟩,
  ⟨0x8, 1, 4096, 1, 4, true, 0x0, 0x3, 0x0, 0x0, 0x0, 0x0⟩,
  ⟨0xC, 1, 4096, 1, 4, true, 0x0, 0x0, 0x0, 0xFFFFFFFF, 0x0, 0x0⟩,
  ⟨0x80, 1, 4096, 1, 4, false, 0x0, 0x0, 0x0, 0x0, 0x0, 0x1FFFFFF⟩,
  ⟨0x84, 1, 4096, 1, 4, false, 0x0, 0x0, 0x0, 0x0, 0x0, 0x3F⟩,
  ⟨0x88, 1, 4096, 1, 4, false, 0x0, 0x0, 0x0, 0xFFFFFFFF, 0x0, 0x0⟩,
  ⟨0x8C, 1, 4096, 1, 4, false, 0x0, 0x0, 0x0, 0xFFFFFFFF, 0x0, 0x0⟩,
  ⟨0x90, 1, 4096, 1, 4, false, 0x0, 0x0, 0x0, 0xFFFFFFFF, 0x0, 0x0⟩,
  ⟨0x94, 1, 4096, 1, 4, false, 0x0, 0x0, 0x0, 0x0, 0x0, 0xFFF⟩]

/-- Rows of the `PART` register table (R444 block 1), in the form base, count, stride, count, stride, one copy per partition,
masks of RW, W1C, WO, RC, RWL and RO bits. -/
def regRowsPart : List RegRow := [
  ⟨0x1000, 1, 4096, 1, 4, true, 0x0, 0x3, 0x0, 0x0, 0x0, 0x0⟩,
  ⟨0x1004, 1, 4096, 1, 4, true, 0x0, 0x0, 0x0, 0x0, 0x0, 0x7F⟩,
  ⟨0x1008, 1, 4096, 1, 4, false, 0x0, 0x0, 0x0, 0x0, 0xFF, 0xFF00⟩,
  ⟨0x100C, 1, 4096, 1, 4, false, 0x0, 0x0, 0x0, 0x0, 0xF, 0x0⟩]

/-- Rows of the `RING` register table (R444 block 2), in the form base, count, stride, count, stride, one copy per partition,
masks of RW, W1C, WO, RC, RWL and RO bits. -/
def regRowsRing : List RegRow := [
  ⟨0x2000, 1, 4096, 1, 4, true, 0x0, 0x3F, 0x0, 0x0, 0x0, 0x0⟩,
  ⟨0x2004, 1, 4096, 1, 4, true, 0x0, 0x0, 0x0, 0x0, 0x0, 0xFFFF003F⟩,
  ⟨0x2008, 1, 4096, 1, 4, true, 0x0, 0x0, 0x0, 0x0, 0x0, 0x1FFFF⟩,
  ⟨0x2100, 35, 16, 1, 4, true, 0xFFFFFFC0, 0x0, 0x0, 0x0, 0x0, 0x0⟩,
  ⟨0x2104, 35, 16, 1, 4, true, 0xFFFFFFFF, 0x0, 0x0, 0x0, 0x0, 0x0⟩,
  ⟨0x2108, 35, 16, 1, 4, true, 0x7FF, 0x0, 0x0, 0x0, 0x0, 0x0⟩,
  ⟨0x210C, 35, 16, 1, 4, true, 0x0, 0x0, 0x0, 0x0, 0x0, 0xFFFFFFFF⟩,
  ⟨0x2800, 35, 4, 1, 4, true, 0x0, 0x0, 0xFFFF, 0x0, 0x0, 0x0⟩]

/-- Rows of the `EVT` register table (R444 block 3), in the form base, count, stride, count, stride, one copy per partition,
masks of RW, W1C, WO, RC, RWL and RO bits. -/
def regRowsEvt : List RegRow := [
  ⟨0x3000, 1, 4096, 1, 4, true, 0x7F, 0x0, 0x0, 0x0, 0x0, 0x0⟩,
  ⟨0x3004, 1, 4096, 1, 4, true, 0x3F, 0x0, 0x0, 0x0, 0x0, 0x0⟩,
  ⟨0x3008, 1, 4096, 1, 4, true, 0x0, 0x0, 0x0, 0xFFFFFFFF, 0x0, 0x0⟩,
  ⟨0x3100, 32, 4, 1, 4, true, 0x3FF, 0x0, 0x0, 0x0, 0x0, 0x0⟩]

/-- Rows of the `RFP` register table (R444 block 4), in the form base, count, stride, count, stride, one copy per partition,
masks of RW, W1C, WO, RC, RWL and RO bits. -/
def regRowsRfp : List RegRow := [
  ⟨0x4000, 1, 4096, 1, 4, false, 0x7F, 0x0, 0x0, 0x0, 0x0, 0x80000000⟩,
  ⟨0x4004, 1, 4096, 1, 4, false, 0xFFFFF, 0x0, 0x0, 0x0, 0x0, 0x0⟩,
  ⟨0x4008, 1, 4096, 1, 4, false, 0xFFFFFFFF, 0x0, 0x0, 0x0, 0x0, 0x0⟩,
  ⟨0x400C, 1, 4096, 1, 4, false, 0xFFFF, 0x0, 0x0, 0x0, 0x0, 0x0⟩,
  ⟨0x4010, 1, 4096, 1, 4, false, 0x0, 0x7F, 0x0, 0x0, 0x0, 0x0⟩]

/-- Rows of the `ARR` register table (R444 block 5), in the form base, count, stride, count, stride, one copy per partition,
masks of RW, W1C, WO, RC, RWL and RO bits. -/
def regRowsArr : List RegRow := [
  ⟨0x5000, 4, 4, 1, 4, false, 0xFFFF03FF, 0x0, 0x0, 0x0, 0x0, 0x0⟩,
  ⟨0x5010, 4, 8, 2, 4, false, 0x3FFFFF, 0x0, 0x0, 0x0, 0x0, 0x0⟩,
  ⟨0x5030, 4, 4, 1, 4, false, 0xF, 0x0, 0x0, 0x0, 0x0, 0x0⟩,
  ⟨0x5040, 4, 4, 1, 4, false, 0xFF, 0x0, 0x0, 0x0, 0x0, 0x0⟩,
  ⟨0x5050, 1, 4096, 1, 4, false, 0xBFFF, 0x0, 0x0, 0x0, 0x0, 0x0⟩,
  ⟨0x5054, 1, 4096, 1, 4, false, 0xFFFFFFFF, 0x0, 0x0, 0x0, 0x0, 0x0⟩,
  ⟨0x5058, 1, 4096, 1, 4, false, 0x0, 0x0, 0x1, 0x0, 0x0, 0x2⟩,
  ⟨0x505C, 1, 4096, 1, 4, false, 0xFFFFFF0, 0x0, 0x1, 0x0, 0x0, 0x0⟩,
  ⟨0x5060, 4, 4, 1, 4, false, 0x0, 0x0, 0x0, 0x0, 0x0, 0xFFFFFFFF⟩,
  ⟨0x5070, 1, 4096, 1, 4, false, 0x0, 0x0, 0x0, 0x0, 0x0, 0xFFFF⟩,
  ⟨0x5074, 1, 4096, 1, 4, false, 0x0, 0x0, 0x0, 0xFFFFFFFF, 0x0, 0x0⟩,
  ⟨0x5078, 1, 4096, 1, 4, false, 0x0, 0x0, 0x0, 0xFFFFFFFF, 0x0, 0x0⟩,
  ⟨0x507C, 1, 4096, 1, 4, false, 0x0, 0x0, 0x0, 0xFFFFFFFF, 0x0, 0x0⟩,
  ⟨0x5100, 48, 4, 1, 4, false, 0xF, 0x0, 0x0, 0x0, 0x0, 0x0⟩]

/-- Rows of the `CHZ` register table (R444 block 6), in the form base, count, stride, count, stride, one copy per partition,
masks of RW, W1C, WO, RC, RWL and RO bits. -/
def regRowsChz : List RegRow := [
  ⟨0x6000, 1, 4096, 1, 4, false, 0x0, 0x0, 0x0, 0x0, 0x0, 0x7F⟩,
  ⟨0x6004, 1, 4096, 1, 4, false, 0x0, 0x0, 0x0, 0x0, 0x0, 0x3FFFF⟩,
  ⟨0x6008, 1, 4096, 1, 4, false, 0x0, 0x0, 0x0, 0x0, 0x0, 0x3F⟩]

/-- Rows of the `SRCH` register table (R444 block 7), in the form base, count, stride, count, stride, one copy per partition,
masks of RW, W1C, WO, RC, RWL and RO bits. -/
def regRowsSrch : List RegRow := [
  ⟨0x7000, 1, 4096, 1, 4, false, 0x0, 0x7F, 0x0, 0x0, 0x0, 0x0⟩,
  ⟨0x7004, 1, 4096, 1, 4, false, 0x9FFF, 0x0, 0x0, 0x0, 0x0, 0x0⟩,
  ⟨0x7008, 1, 4096, 1, 4, false, 0x3FFFF, 0x0, 0x0, 0x0, 0x0, 0x0⟩,
  ⟨0x700C, 1, 4096, 1, 4, false, 0x1FFFFFF, 0x0, 0x0, 0x0, 0x0, 0x0⟩,
  ⟨0x7010, 1, 4096, 1, 4, false, 0x33F, 0x0, 0x0, 0x0, 0x0, 0x0⟩,
  ⟨0x7014, 1, 4096, 1, 4, false, 0xFFFFFFFF, 0x0, 0x0, 0x0, 0x0, 0x0⟩,
  ⟨0x7018, 1, 4096, 1, 4, false, 0xF1FFF, 0x0, 0x0, 0x0, 0x0, 0x0⟩,
  ⟨0x701C, 1, 4096, 1, 4, false, 0x0, 0x0, 0x0, 0xFFFFFFFF, 0x0, 0x0⟩,
  ⟨0x7020, 1, 4096, 1, 4, false, 0x0, 0x0, 0x0, 0xFFFFFFFF, 0x0, 0x0⟩,
  ⟨0x7024, 1, 4096, 1, 4, false, 0x0, 0x0, 0x0, 0xFFFFFFFF, 0x0, 0x0⟩,
  ⟨0x7028, 1, 4096, 1, 4, false, 0x0, 0x0, 0x0, 0xFFFFFFFF, 0x0, 0x0⟩,
  ⟨0x702C, 1, 4096, 1, 4, false, 0x0, 0x0, 0x0, 0x0, 0x0, 0x3FFF⟩]

/-- Rows of the `LANE` register table (R444 block 8), in the form base, count, stride, count, stride, one copy per partition,
masks of RW, W1C, WO, RC, RWL and RO bits. -/
def regRowsLane : List RegRow := [
  ⟨0x8000, 1, 4096, 1, 4, false, 0xFF, 0x0, 0x0, 0x0, 0x0, 0x0⟩,
  ⟨0x8004, 1, 4096, 1, 4, false, 0x0, 0x0, 0x0, 0x0, 0x0, 0x7FF07FF⟩,
  ⟨0x8008, 1, 4096, 1, 4, false, 0x0, 0x0, 0x0, 0x0, 0x0, 0x3FFFFF⟩,
  ⟨0x800C, 1, 4096, 1, 4, false, 0x0, 0x0, 0x0, 0x0, 0x0, 0x7FF⟩,
  ⟨0x8010, 1, 4096, 1, 4, false, 0x0, 0x0, 0x0, 0x7FF, 0x0, 0x0⟩,
  ⟨0x8014, 1, 4096, 1, 4, false, 0x0, 0x0, 0x0, 0xFFFFFFFF, 0x0, 0x0⟩,
  ⟨0x8018, 1, 4096, 1, 4, false, 0x7FF, 0x0, 0x0, 0x0, 0x0, 0x0⟩,
  ⟨0x801C, 1, 4096, 1, 4, false, 0x0, 0x0, 0x0, 0x0, 0x0, 0x1FFFFF⟩,
  ⟨0x8040, 16, 4, 1, 4, false, 0x0, 0x0, 0x0, 0xFFFFFFFF, 0x0, 0x0⟩]

/-- Rows of the `XRD` register table (R444 block 9), in the form base, count, stride, count, stride, one copy per partition,
masks of RW, W1C, WO, RC, RWL and RO bits. -/
def regRowsXrd : List RegRow := [
  ⟨0x9000, 1, 4096, 1, 4, false, 0x0, 0x0, 0x0, 0x0, 0x0, 0x1FFF⟩,
  ⟨0x9004, 1, 4096, 1, 4, false, 0x0, 0x0, 0x0, 0xFFFFFFFF, 0x0, 0x0⟩,
  ⟨0x9008, 1, 4096, 1, 4, false, 0x0, 0x0, 0x0, 0xFFFFFFFF, 0x0, 0x0⟩,
  ⟨0x900C, 1, 4096, 1, 4, false, 0x0, 0x0, 0x0, 0xFFFFFFFF, 0x0, 0x0⟩,
  ⟨0x9010, 1, 4096, 1, 4, false, 0x0, 0x0, 0x0, 0xFFFFFFFF, 0x0, 0x0⟩,
  ⟨0x9014, 1, 4096, 1, 4, false, 0x0, 0x0, 0x0, 0xFFFFFFFF, 0x0, 0x0⟩,
  ⟨0x9018, 1, 4096, 1, 4, false, 0x0, 0x0, 0x0, 0xFFFFFFFF, 0x0, 0x0⟩]

/-- Rows of the `SLOT` register table (R444 block 10), in the form base, count, stride, count, stride, one copy per partition,
masks of RW, W1C, WO, RC, RWL and RO bits. -/
def regRowsSlot0 : List RegRow := [
  ⟨0xA000, 1, 4096, 1, 4, false, 0xFFFFFFFF, 0x0, 0x0, 0x0, 0x0, 0x0⟩,
  ⟨0xA004, 1, 4096, 1, 4, false, 0x0, 0x0, 0x3, 0x0, 0x0, 0xC⟩,
  ⟨0xA008, 1, 4096, 1, 4, false, 0xFFFFFFFF, 0x0, 0x0, 0x0, 0x0, 0x0⟩,
  ⟨0xA00C, 1, 4096, 1, 4, false, 0x3FFFFFFF, 0x0, 0x0, 0x0, 0x0, 0x0⟩,
  ⟨0xA010, 1, 4096, 1, 4, false, 0x0, 0x0, 0x0, 0x0, 0x0, 0xFFFFFFFF⟩,
  ⟨0xA014, 1, 4096, 1, 4, false, 0x0, 0x0, 0x0, 0x0, 0x0, 0xFF⟩,
  ⟨0xA018, 1, 4096, 1, 4, false, 0x0, 0xFF, 0x0, 0x0, 0x0, 0x0⟩,
  ⟨0xA01C, 1, 4096, 1, 4, false, 0x0, 0x0, 0x0, 0x0, 0x0, 0x3FF7F⟩,
  ⟨0xA020, 1, 4096, 1, 4, false, 0x0, 0x0, 0x0, 0xFFFFFFFF, 0x0, 0x0⟩,
  ⟨0xA024, 1, 4096, 1, 4, false, 0x0, 0x0, 0x0, 0xFFFFFFFF, 0x0, 0x0⟩,
  ⟨0xA028, 1, 4096, 1, 4, false, 0x0, 0x0, 0x0, 0xFFFFFFFF, 0x0, 0x0⟩,
  ⟨0xA02C, 1, 4096, 1, 4, false, 0x0, 0x0, 0x0, 0xFFFFFFFF, 0x0, 0x0⟩,
  ⟨0xA030, 1, 4096, 1, 4, false, 0x0, 0x0, 0x0, 0xFFFFFFFF, 0x0, 0x0⟩,
  ⟨0xA040, 1, 4096, 1, 4, false, 0x800FFFFF, 0x0, 0x0, 0x0, 0x0, 0x0⟩,
  ⟨0xA044, 1, 4096, 1, 4, false, 0xFFFFFFFF, 0x0, 0x0, 0x0, 0x0, 0x0⟩,
  ⟨0xA048, 1, 4096, 1, 4, false, 0xFFFFFFFF, 0x0, 0x0, 0x0, 0x0, 0x0⟩,
  ⟨0xA050, 1, 4096, 1, 4, false, 0x9FF7, 0x0, 0x0, 0x0, 0x0, 0x0⟩,
  ⟨0xA054, 1, 4096, 1, 4, false, 0xFFFF, 0x0, 0x0, 0x0, 0x0, 0x0⟩,
  ⟨0xA080, 8, 8, 1, 4, false, 0x1FFFFFF, 0x0, 0x0, 0x0, 0x0, 0x0⟩,
  ⟨0xA084, 8, 8, 1, 4, false, 0x3FFFFFF, 0x0, 0x0, 0x0, 0x0, 0x0⟩]

/-- Rows of the `SLOT` register table (R444 block 10), in the form base, count, stride, count, stride, one copy per partition,
masks of RW, W1C, WO, RC, RWL and RO bits. -/
def regRowsSlot1 : List RegRow := [
  ⟨0xA100, 4, 32, 1, 4, false, 0x1FFFF, 0x0, 0x0, 0x0, 0x0, 0x0⟩,
  ⟨0xA104, 4, 32, 1, 4, false, 0x1FFFF, 0x0, 0x0, 0x0, 0x0, 0x0⟩,
  ⟨0xA108, 4, 32, 1, 4, false, 0x1FFF1FFF, 0x0, 0x0, 0x0, 0x0, 0x0⟩,
  ⟨0xA10C, 4, 32, 1, 4, false, 0x1FFFF, 0x0, 0x0, 0x0, 0x0, 0x0⟩,
  ⟨0xA110, 4, 32, 1, 4, false, 0x1FFF, 0x0, 0x0, 0x0, 0x0, 0x0⟩,
  ⟨0xA400, 64, 16, 1, 4, false, 0x3FFFF, 0x0, 0x0, 0x0, 0x0, 0x0⟩,
  ⟨0xA404, 64, 16, 1, 4, false, 0xFFFF, 0x0, 0x0, 0x0, 0x0, 0x0⟩,
  ⟨0xA408, 64, 16, 1, 4, false, 0xFFFFF, 0x0, 0x0, 0x0, 0x0, 0x0⟩]

/-- Rows of the `LINK` register table (R444 block 11), in the form base, count, stride, count, stride, one copy per partition,
masks of RW, W1C, WO, RC, RWL and RO bits. -/
def regRowsLink0 : List RegRow := [
  ⟨0xB000, 1, 4096, 1, 4, false, 0x0, 0x1F, 0x0, 0x0, 0x0, 0x0⟩,
  ⟨0xB004, 1, 4096, 1, 4, false, 0x0, 0x0, 0x0, 0x0, 0x0, 0xFFFFFFFF⟩,
  ⟨0xB008, 1, 4096, 1, 4, false, 0x0, 0x0, 0x0, 0x0, 0x0, 0xFFFFFFFF⟩,
  ⟨0xB00C, 1, 4096, 1, 4, false, 0x9FFF9FFF, 0x0, 0x0, 0x0, 0x0, 0x0⟩,
  ⟨0xB010, 1, 4096, 1, 4, false, 0x9FFF9FFF, 0x0, 0x0, 0x0, 0x0, 0x0⟩,
  ⟨0xB014, 1, 4096, 1, 4, false, 0x0, 0x0, 0x0, 0x0, 0x0, 0xF⟩,
  ⟨0xB018, 1, 4096, 1, 4, false, 0xFF, 0x0, 0x0, 0x0, 0x0, 0x0⟩,
  ⟨0xB01C, 1, 4096, 1, 4, true, 0xFFFF, 0x0, 0x0, 0x0, 0x0, 0x0⟩,
  ⟨0xB020, 1, 4096, 1, 4, false, 0xFFFFFFFF, 0x0, 0x0, 0x0, 0x0, 0x0⟩,
  ⟨0xB024, 1, 4096, 1, 4, false, 0x0, 0x0, 0x0, 0x0, 0x0, 0x3FFF⟩,
  ⟨0xB028, 1, 4096, 1, 4, false, 0x0, 0x0, 0x0, 0xFFFFFFFF, 0x0, 0x0⟩,
  ⟨0xB02C, 1, 4096, 1, 4, false, 0x0, 0x0, 0x0, 0xFFFFFFFF, 0x0, 0x0⟩,
  ⟨0xB030, 1, 4096, 1, 4, false, 0x0, 0x0, 0x0, 0xFFFFFFFF, 0x0, 0x0⟩,
  ⟨0xB034, 1, 4096, 1, 4, false, 0x0, 0x0, 0x0, 0xFFFFFFFF, 0x0, 0x0⟩,
  ⟨0xB038, 1, 4096, 1, 4, false, 0x0, 0x0, 0x0, 0xFFFFFFFF, 0x0, 0x0⟩,
  ⟨0xB03C, 1, 4096, 1, 4, false, 0x0, 0x0, 0x0, 0xFFFFFFFF, 0x0, 0x0⟩,
  ⟨0xB040, 1, 4096, 1, 4, false, 0x0, 0x0, 0x0, 0xFFFFFFFF, 0x0, 0x0⟩,
  ⟨0xB044, 1, 4096, 1, 4, false, 0x0, 0x0, 0x0, 0xFFFFFFFF, 0x0, 0x0⟩,
  ⟨0xB048, 1, 4096, 1, 4, false, 0x0, 0x0, 0x0, 0xFFFFFFFF, 0x0, 0x0⟩,
  ⟨0xB04C, 1, 4096, 1, 4, false, 0x0, 0x0, 0x0, 0xFFFFFFFF, 0x0, 0x0⟩]

/-- Rows of the `LINK` register table (R444 block 11), in the form base, count, stride, count, stride, one copy per partition,
masks of RW, W1C, WO, RC, RWL and RO bits. -/
def regRowsLink1 : List RegRow := [
  ⟨0xB050, 1, 4096, 1, 4, false, 0x0, 0x0, 0x0, 0xFFFFFFFF, 0x0, 0x0⟩,
  ⟨0xB054, 1, 4096, 1, 4, false, 0x0, 0x0, 0x0, 0xFFFFFFFF, 0x0, 0x0⟩]

/-- Rows of the `PAN` register table (R444 block 12), in the form base, count, stride, count, stride, one copy per partition,
masks of RW, W1C, WO, RC, RWL and RO bits. -/
def regRowsPan : List RegRow := [
  ⟨0xC000, 8, 64, 1, 4, false, 0x0, 0x0, 0x0, 0x0, 0xF, 0x0⟩,
  ⟨0xC004, 8, 64, 1, 4, false, 0xFFFF, 0x0, 0x0, 0x0, 0x0, 0x0⟩,
  ⟨0xC008, 8, 64, 1, 4, false, 0x3FFFFFF, 0x0, 0x0, 0x0, 0x0, 0x0⟩,
  ⟨0xC00C, 8, 64, 1, 4, false, 0xFFF3FFF, 0x0, 0x0, 0x0, 0x0, 0x0⟩,
  ⟨0xC010, 8, 64, 1, 4, false, 0xFFFF, 0x0, 0x0, 0x0, 0x0, 0x0⟩,
  ⟨0xC014, 8, 64, 1, 4, false, 0xFF, 0x0, 0x0, 0x0, 0x0, 0x0⟩,
  ⟨0xC018, 8, 64, 1, 4, false, 0x0, 0x0, 0x0, 0x0, 0x0, 0x1FFFF⟩,
  ⟨0xC01C, 8, 64, 1, 4, false, 0x0, 0x0, 0x0, 0x0, 0x0, 0x1FFFF⟩,
  ⟨0xC020, 8, 64, 1, 4, false, 0x3F, 0x0, 0x0, 0x0, 0x0, 0x0⟩,
  ⟨0xC024, 8, 64, 7, 4, false, 0xFFFFFFFF, 0x0, 0x0, 0x0, 0x0, 0x0⟩]

/-- Rows of the `KEY` register table (R444 block 13), in the form base, count, stride, count, stride, one copy per partition,
masks of RW, W1C, WO, RC, RWL and RO bits. -/
def regRowsKey0 : List RegRow := [
  ⟨0xD000, 1, 4096, 1, 4, false, 0x0, 0x3, 0x0, 0x0, 0x0, 0x0⟩,
  ⟨0xD004, 1, 4096, 1, 4, false, 0x0, 0x0, 0x0, 0x0, 0x0, 0xFF⟩,
  ⟨0xD008, 1, 4096, 1, 4, false, 0xF, 0x0, 0x0, 0x0, 0x0, 0x0⟩,
  ⟨0xD00C, 1, 4096, 1, 4, false, 0xFF, 0x0, 0x0, 0x0, 0x0, 0x0⟩,
  ⟨0xD010, 1, 4096, 1, 4, false, 0x0, 0x0, 0x0, 0x0, 0x0, 0x3F1FFF⟩,
  ⟨0xD014, 1, 4096, 1, 4, false, 0x0, 0x0, 0x0, 0x0, 0x7FFF, 0x0⟩,
  ⟨0xD018, 1, 4096, 1, 4, false, 0x0, 0x0, 0x0, 0x0, 0xF7F7F7F7, 0x0⟩,
  ⟨0xD01C, 1, 4096, 1, 4, false, 0x0, 0x0, 0x0, 0x0, 0xF, 0x10⟩,
  ⟨0xD020, 1, 4096, 1, 4, true, 0x3FFF, 0x0, 0x0, 0x0, 0x0, 0x0⟩,
  ⟨0xD024, 1, 4096, 1, 4, false, 0x0, 0x0, 0x0, 0x0, 0x0, 0xFFFFFFFF⟩,
  ⟨0xD028, 1, 4096, 1, 4, false, 0x0, 0x0, 0x0, 0x0, 0x0, 0xF⟩,
  ⟨0xD030, 1, 4096, 1, 4, false, 0x0, 0x0, 0x0, 0xFFFFFFFF, 0x0, 0x0⟩,
  ⟨0xD034, 1, 4096, 1, 4, false, 0x0, 0x0, 0x0, 0xFFFFFFFF, 0x0, 0x0⟩,
  ⟨0xD038, 1, 4096, 1, 4, false, 0x0, 0x0, 0x0, 0xFFFFFFFF, 0x0, 0x0⟩,
  ⟨0xD03C, 1, 4096, 1, 4, false, 0x0, 0x0, 0x0, 0xFFFFFFFF, 0x0, 0x0⟩,
  ⟨0xD040, 1, 4096, 1, 4, false, 0x0, 0x0, 0x0, 0xFFFFFFFF, 0x0, 0x0⟩,
  ⟨0xD044, 1, 4096, 1, 4, false, 0x0, 0x0, 0x0, 0xFFFFFFFF, 0x0, 0x0⟩,
  ⟨0xD048, 1, 4096, 1, 4, false, 0x0, 0x0, 0x0, 0xFFFFFFFF, 0x0, 0x0⟩,
  ⟨0xD04C, 1, 4096, 1, 4, false, 0x0, 0x0, 0x0, 0xFFFFFFFF, 0x0, 0x0⟩,
  ⟨0xD100, 8, 8, 1, 4, false, 0x7, 0x0, 0x0, 0x0, 0x0, 0xFFFFFF38⟩]

/-- Rows of the `KEY` register table (R444 block 13), in the form base, count, stride, count, stride, one copy per partition,
masks of RW, W1C, WO, RC, RWL and RO bits. -/
def regRowsKey1 : List RegRow := [
  ⟨0xD104, 8, 8, 1, 4, false, 0xFFFF007F, 0x0, 0x0, 0x0, 0x0, 0x0⟩]

/-- Rows of the `NDIR` register table (R444 block 14), in the form base, count, stride, count, stride, one copy per partition,
masks of RW, W1C, WO, RC, RWL and RO bits. -/
def regRowsNdir : List RegRow := [
  ⟨0xE000, 1, 4096, 1, 4, false, 0x0, 0x1, 0x0, 0x0, 0x0, 0x0⟩,
  ⟨0xE004, 1, 4096, 1, 4, false, 0x0, 0x0, 0x0, 0x0, 0x0, 0xFFFFF⟩,
  ⟨0xE008, 1, 4096, 1, 4, false, 0x0, 0x0, 0x0, 0x0, 0x0, 0xFFFFF⟩,
  ⟨0xE00C, 1, 4096, 1, 4, false, 0x0, 0x0, 0x0, 0x0, 0x0, 0x1FFF1FFF⟩,
  ⟨0xE010, 1, 4096, 1, 4, false, 0x1FFF, 0x0, 0x0, 0x0, 0x0, 0x0⟩,
  ⟨0xE014, 1, 4096, 1, 4, false, 0x1FFFF, 0x0, 0x0, 0x0, 0x0, 0x0⟩,
  ⟨0xE018, 1, 4096, 1, 4, false, 0x0, 0x0, 0x0, 0xFFFFFFFF, 0x0, 0x0⟩,
  ⟨0xE01C, 1, 4096, 1, 4, false, 0x0, 0x0, 0x0, 0xFFFFFFFF, 0x0, 0x0⟩,
  ⟨0xE020, 1, 4096, 1, 4, false, 0x0, 0x0, 0x0, 0xFFFFFFFF, 0x0, 0x0⟩,
  ⟨0xE024, 1, 4096, 1, 4, false, 0x0, 0x0, 0x0, 0xFFFFFFFF, 0x0, 0x0⟩,
  ⟨0xE028, 1, 4096, 1, 4, false, 0x0, 0x0, 0x0, 0xFFFFFFFF, 0x0, 0x0⟩,
  ⟨0xE02C, 1, 4096, 1, 4, false, 0x0, 0x0, 0x0, 0xFFFFFFFF, 0x0, 0x0⟩,
  ⟨0xE030, 1, 4096, 1, 4, false, 0x0, 0x0, 0x0, 0xFFFFFFFF, 0x0, 0x0⟩,
  ⟨0xE034, 1, 4096, 1, 4, false, 0x0, 0x0, 0x0, 0xFFFFFFFF, 0x0, 0x0⟩]

/-- Rows of the `LPM` register table (R444 block 15), in the form base, count, stride, count, stride, one copy per partition,
masks of RW, W1C, WO, RC, RWL and RO bits. -/
def regRowsLpm : List RegRow := [
  ⟨0xF000, 1, 4096, 1, 4, false, 0x0, 0x3, 0x0, 0x0, 0x0, 0x0⟩,
  ⟨0xF004, 1, 4096, 1, 4, false, 0x0, 0x0, 0x0, 0x0, 0x1, 0x2⟩,
  ⟨0xF008, 1, 4096, 1, 4, false, 0x0, 0x0, 0x0, 0x0, 0x0, 0x1FFFFF⟩,
  ⟨0xF00C, 1, 4096, 1, 4, false, 0x0, 0x0, 0x0, 0x0, 0x0, 0x3FFF⟩,
  ⟨0xF010, 5, 4, 1, 4, false, 0x0, 0x0, 0x0, 0x0, 0x0, 0xFFFFFFFF⟩,
  ⟨0xF024, 1, 4096, 1, 4, false, 0x0, 0x0, 0x0, 0xFFFFFFFF, 0x0, 0x0⟩,
  ⟨0xF028, 1, 4096, 1, 4, false, 0x0, 0x0, 0x0, 0xFFFFFFFF, 0x0, 0x0⟩]

/-- Rows of the `MESH` register table (R444 block 16), in the form base, count, stride, count, stride, one copy per partition,
masks of RW, W1C, WO, RC, RWL and RO bits. -/
def regRowsMesh0 : List RegRow := [
  ⟨0x10000, 1, 4096, 1, 4, false, 0x0, 0x3, 0x0, 0x0, 0x0, 0x0⟩,
  ⟨0x10004, 1, 4096, 1, 4, false, 0xFF, 0x0, 0x0, 0x0, 0x0, 0x0⟩,
  ⟨0x10008, 1, 4096, 1, 4, false, 0x7F, 0x0, 0x0, 0x0, 0x0, 0x0⟩,
  ⟨0x1000C, 1, 4096, 1, 4, false, 0xFFFFFFFF, 0x0, 0x0, 0x0, 0x0, 0x0⟩,
  ⟨0x10010, 1, 4096, 1, 4, false, 0xFFFFFFFF, 0x0, 0x0, 0x0, 0x0, 0x0⟩,
  ⟨0x10014, 1, 4096, 1, 4, false, 0x1FF, 0x0, 0x0, 0x0, 0x0, 0x0⟩,
  ⟨0x10018, 1, 4096, 1, 4, false, 0x0, 0x0, 0x0, 0x0, 0x0, 0x7FFF⟩,
  ⟨0x1001C, 1, 4096, 1, 4, false, 0x0, 0x0, 0x0, 0x0, 0x0, 0x1FFFF⟩,
  ⟨0x10020, 1, 4096, 1, 4, false, 0x0, 0x0, 0x0, 0x0, 0x0, 0xFFF⟩,
  ⟨0x10100, 8, 32, 1, 4, false, 0x3FFF, 0x0, 0x0, 0x0, 0x0, 0x0⟩,
  ⟨0x10104, 8, 32, 1, 4, false, 0xFFFF, 0x0, 0x0, 0x0, 0x0, 0x0⟩,
  ⟨0x10108, 8, 32, 1, 4, false, 0xFFFFFFFF, 0x0, 0x0, 0x0, 0x0, 0x0⟩,
  ⟨0x1010C, 8, 32, 1, 4, false, 0x1FFFF, 0x0, 0x0, 0x0, 0x0, 0x0⟩,
  ⟨0x10110, 8, 32, 1, 4, false, 0x0, 0x0, 0x0, 0x0, 0x0, 0xFFFF⟩,
  ⟨0x10200, 1, 4096, 1, 4, false, 0x0, 0x0, 0x0, 0xFFFFFFFF, 0x0, 0x0⟩,
  ⟨0x10204, 1, 4096, 1, 4, false, 0x0, 0x0, 0x0, 0xFFFFFFFF, 0x0, 0x0⟩,
  ⟨0x10208, 1, 4096, 1, 4, false, 0x0, 0x0, 0x0, 0xFFFFFFFF, 0x0, 0x0⟩,
  ⟨0x1020C, 1, 4096, 1, 4, false, 0x0, 0x0, 0x0, 0xFFFFFFFF, 0x0, 0x0⟩,
  ⟨0x10210, 1, 4096, 1, 4, false, 0x0, 0x0, 0x0, 0xFFFFFFFF, 0x0, 0x0⟩,
  ⟨0x10214, 1, 4096, 1, 4, false, 0x0, 0x0, 0x0, 0xFFFFFFFF, 0x0, 0x0⟩]

/-- Rows of the `MESH` register table (R444 block 16), in the form base, count, stride, count, stride, one copy per partition,
masks of RW, W1C, WO, RC, RWL and RO bits. -/
def regRowsMesh1 : List RegRow := [
  ⟨0x10218, 1, 4096, 1, 4, false, 0x0, 0x0, 0x0, 0xFFFFFFFF, 0x0, 0x0⟩,
  ⟨0x1021C, 1, 4096, 1, 4, false, 0x0, 0x0, 0x0, 0xFFFFFFFF, 0x0, 0x0⟩,
  ⟨0x10220, 1, 4096, 1, 4, false, 0x0, 0x0, 0x0, 0xFFFFFFFF, 0x0, 0x0⟩,
  ⟨0x10224, 1, 4096, 1, 4, false, 0x0, 0x0, 0x0, 0xFFFFFFFF, 0x0, 0x0⟩,
  ⟨0x10228, 1, 4096, 1, 4, false, 0x0, 0x0, 0x0, 0xFFFFFFFF, 0x0, 0x0⟩,
  ⟨0x1022C, 1, 4096, 1, 4, false, 0x0, 0x0, 0x0, 0xFFFFFFFF, 0x0, 0x0⟩,
  ⟨0x10230, 1, 4096, 1, 4, false, 0x0, 0x0, 0x0, 0xFFFFFFFF, 0x0, 0x0⟩,
  ⟨0x10234, 1, 4096, 1, 4, false, 0x0, 0x0, 0x0, 0xFFFFFFFF, 0x0, 0x0⟩,
  ⟨0x10238, 1, 4096, 1, 4, false, 0x0, 0x0, 0x0, 0xFFFFFFFF, 0x0, 0x0⟩,
  ⟨0x1023C, 1, 4096, 1, 4, false, 0x0, 0x0, 0x0, 0xFFFFFFFF, 0x0, 0x0⟩,
  ⟨0x10240, 1, 4096, 1, 4, false, 0x0, 0x0, 0x0, 0xFFFFFFFF, 0x0, 0x0⟩,
  ⟨0x10244, 1, 4096, 1, 4, false, 0x0, 0x0, 0x0, 0xFFFFFFFF, 0x0, 0x0⟩,
  ⟨0x10248, 1, 4096, 1, 4, false, 0x0, 0x0, 0x0, 0xFFFFFFFF, 0x0, 0x0⟩,
  ⟨0x1024C, 1, 4096, 1, 4, false, 0x0, 0x0, 0x0, 0xFFFFFFFF, 0x0, 0x0⟩,
  ⟨0x10250, 1, 4096, 1, 4, false, 0x0, 0x0, 0x0, 0xFFFFFFFF, 0x0, 0x0⟩,
  ⟨0x10254, 1, 4096, 1, 4, false, 0x0, 0x0, 0x0, 0xFFFFFFFF, 0x0, 0x0⟩]

/-- Rows of the `CVN` register table (R444 block 17), in the form base, count, stride, count, stride, one copy per partition,
masks of RW, W1C, WO, RC, RWL and RO bits. -/
def regRowsCvn : List RegRow := [
  ⟨0x11000, 1, 4096, 1, 4, false, 0x0, 0x1, 0x0, 0x0, 0x0, 0x0⟩,
  ⟨0x11004, 1, 4096, 1, 4, false, 0x7FFFFFF, 0x0, 0x0, 0x0, 0x0, 0x0⟩,
  ⟨0x11008, 1, 4096, 1, 4, false, 0x7F, 0x0, 0x0, 0x0, 0x0, 0x0⟩,
  ⟨0x1100C, 1, 4096, 1, 4, false, 0x1FF01FF, 0x0, 0x0, 0x0, 0x0, 0x0⟩,
  ⟨0x11010, 1, 4096, 1, 4, false, 0x1FF01FF, 0x0, 0x0, 0x0, 0x0, 0x0⟩,
  ⟨0x11014, 4, 4, 1, 4, false, 0xF, 0x0, 0x0, 0x0, 0x0, 0x0⟩,
  ⟨0x11024, 1, 4096, 1, 4, false, 0x0, 0x0, 0x0, 0x0, 0x0, 0x1FF01FF⟩,
  ⟨0x11028, 1, 4096, 1, 4, false, 0x0, 0x0, 0x0, 0x0, 0x0, 0x1FFFF⟩,
  ⟨0x1102C, 1, 4096, 1, 4, false, 0x0, 0x0, 0x0, 0x0, 0x0, 0x1FFF⟩,
  ⟨0x11030, 1, 4096, 1, 4, false, 0x0, 0x0, 0x0, 0xFFFFFFFF, 0x0, 0x0⟩,
  ⟨0x11034, 1, 4096, 1, 4, false, 0x0, 0x0, 0x0, 0xFFFFFFFF, 0x0, 0x0⟩,
  ⟨0x11038, 1, 4096, 1, 4, false, 0x0, 0x0, 0x0, 0xFFFFFFFF, 0x0, 0x0⟩,
  ⟨0x1103C, 1, 4096, 1, 4, false, 0x0, 0x0, 0x0, 0xFFFFFFFF, 0x0, 0x0⟩,
  ⟨0x11040, 1, 4096, 1, 4, false, 0x0, 0x0, 0x0, 0xFFFFFFFF, 0x0, 0x0⟩]

/-- Rows of the `IMG` register table (R444 block 18), in the form base, count, stride, count, stride, one copy per partition,
masks of RW, W1C, WO, RC, RWL and RO bits. -/
def regRowsImg : List RegRow := [
  ⟨0x12000, 1, 4096, 1, 4, false, 0x0, 0x1, 0x0, 0x0, 0x0, 0x0⟩,
  ⟨0x12004, 1, 4096, 1, 4, false, 0x1FFFFF, 0x0, 0x0, 0x0, 0x0, 0x0⟩,
  ⟨0x12008, 1, 4096, 1, 4, false, 0xFFFFFFFF, 0x0, 0x0, 0x0, 0x0, 0x0⟩,
  ⟨0x12010, 4, 4, 1, 4, false, 0x0, 0x0, 0x0, 0x0, 0x0, 0xFFFF7F⟩,
  ⟨0x12020, 1, 4096, 1, 4, false, 0x0, 0x0, 0x0, 0xFFFFFFFF, 0x0, 0x0⟩,
  ⟨0x12024, 1, 4096, 1, 4, false, 0x0, 0x0, 0x0, 0xFFFFFFFF, 0x0, 0x0⟩]

/-- Rows of the `QMG` register table (R444 block 19), in the form base, count, stride, count, stride, one copy per partition,
masks of RW, W1C, WO, RC, RWL and RO bits. -/
def regRowsQmg0 : List RegRow := [
  ⟨0x13000, 1, 4096, 1, 4, false, 0x0, 0x3, 0x0, 0x0, 0x0, 0x0⟩,
  ⟨0x13004, 1, 4096, 1, 4, false, 0x0, 0x0, 0x0, 0x0, 0x0, 0x1FFFF⟩,
  ⟨0x13008, 1, 4096, 1, 4, false, 0x0, 0x0, 0x0, 0x0, 0x0, 0x7FFFFF⟩,
  ⟨0x1300C, 1, 4096, 1, 4, false, 0x7FF0000, 0x0, 0x0, 0x0, 0x0, 0x7FF⟩,
  ⟨0x13010, 1, 4096, 1, 4, false, 0xFFFFFFFF, 0x0, 0x0, 0x0, 0x0, 0x0⟩,
  ⟨0x13014, 1, 4096, 1, 4, false, 0xFFFF, 0x0, 0x0, 0x0, 0x0, 0x0⟩,
  ⟨0x13018, 1, 4096, 1, 4, false, 0x0, 0x0, 0x0, 0x0, 0x0, 0xFFFF⟩,
  ⟨0x1301C, 1, 4096, 1, 4, true, 0xFFFF, 0x0, 0x10000, 0x0, 0x0, 0x0⟩,
  ⟨0x13020, 1, 4096, 1, 4, false, 0x8000FFFF, 0x0, 0x0, 0x0, 0x0, 0x0⟩,
  ⟨0x13024, 1, 4096, 1, 4, false, 0x7FFF, 0x0, 0x0, 0x0, 0x0, 0x0⟩,
  ⟨0x13028, 1, 4096, 1, 4, false, 0x0, 0x0, 0x0, 0x0, 0x0, 0x7FFFFF⟩,
  ⟨0x1302C, 1, 4096, 1, 4, false, 0x0, 0x0, 0x0, 0x0, 0x0, 0x7FFFFF⟩,
  ⟨0x13030, 1, 4096, 1, 4, false, 0x0, 0x0, 0x0, 0xFFFFFFFF, 0x0, 0x0⟩,
  ⟨0x13040, 16, 8, 1, 4, false, 0xFFFFFF, 0x0, 0x0, 0x0, 0x0, 0x0⟩,
  ⟨0x13044, 16, 8, 1, 4, false, 0x7FFFFF, 0x0, 0x0, 0x0, 0x0, 0x0⟩,
  ⟨0x130C0, 1, 4096, 1, 4, false, 0x3F, 0x0, 0x0, 0x0, 0x0, 0x0⟩,
  ⟨0x130C4, 1, 4096, 1, 4, false, 0x7, 0x0, 0x0, 0x0, 0x0, 0x0⟩,
  ⟨0x130C8, 1, 4096, 1, 4, false, 0x0, 0x0, 0x0, 0xFFFFFFFF, 0x0, 0x0⟩,
  ⟨0x130CC, 1, 4096, 1, 4, false, 0x0, 0x0, 0x0, 0xFFFFFFFF, 0x0, 0x0⟩,
  ⟨0x130D0, 8, 4, 1, 4, false, 0x1FFFF, 0x0, 0x0, 0x0, 0x0, 0x0⟩]

/-- Rows of the `QMG` register table (R444 block 19), in the form base, count, stride, count, stride, one copy per partition,
masks of RW, W1C, WO, RC, RWL and RO bits. -/
def regRowsQmg1 : List RegRow := [
  ⟨0x130F0, 1, 4096, 1, 4, false, 0x0, 0x0, 0x0, 0xFFFFFFFF, 0x0, 0x0⟩,
  ⟨0x130F4, 1, 4096, 1, 4, false, 0x0, 0x0, 0x0, 0xFFFFFFFF, 0x0, 0x0⟩,
  ⟨0x130F8, 1, 4096, 1, 4, false, 0x0, 0x0, 0x0, 0xFFFFFFFF, 0x0, 0x0⟩,
  ⟨0x130FC, 1, 4096, 1, 4, false, 0x0, 0x0, 0x0, 0xFFFFFFFF, 0x0, 0x0⟩,
  ⟨0x13100, 1, 4096, 1, 4, false, 0x0, 0x0, 0x0, 0xFFFFFFFF, 0x0, 0x0⟩,
  ⟨0x13104, 1, 4096, 1, 4, false, 0x0, 0x0, 0x0, 0xFFFFFFFF, 0x0, 0x0⟩,
  ⟨0x13108, 1, 4096, 1, 4, false, 0x0, 0x0, 0x0, 0xFFFFFFFF, 0x0, 0x0⟩,
  ⟨0x13110, 1, 4096, 1, 4, false, 0x1FF, 0x0, 0x0, 0x0, 0x0, 0x0⟩,
  ⟨0x13114, 1, 4096, 1, 4, false, 0x0, 0x0, 0x0, 0xFFFFFFFF, 0x0, 0x0⟩,
  ⟨0x13120, 4, 4, 1, 4, false, 0xFFFF, 0x0, 0x0, 0x0, 0x0, 0x0⟩]

/-- Rows of the `SHP` register table (R444 block 20), in the form base, count, stride, count, stride, one copy per partition,
masks of RW, W1C, WO, RC, RWL and RO bits. -/
def regRowsShp : List RegRow := [
  ⟨0x14000, 1, 4096, 1, 4, false, 0x0, 0x3, 0x0, 0x0, 0x0, 0x0⟩,
  ⟨0x14004, 1, 4096, 1, 4, false, 0x3FF, 0x0, 0x0, 0x0, 0x0, 0x0⟩,
  ⟨0x14008, 1, 4096, 1, 4, false, 0x7FFFFFFF, 0x0, 0x0, 0x0, 0x0, 0x0⟩,
  ⟨0x1400C, 1, 4096, 1, 4, false, 0xFFFFF, 0x0, 0x0, 0x0, 0x0, 0x0⟩,
  ⟨0x14010, 1, 4096, 1, 4, false, 0x0, 0x0, 0x0, 0x0, 0x0, 0xFFFFFFFF⟩,
  ⟨0x14014, 1, 4096, 1, 4, false, 0x1FFFF, 0x0, 0x0, 0x0, 0x0, 0x0⟩,
  ⟨0x14018, 1, 4096, 1, 4, false, 0xFFFFFFFF, 0x0, 0x0, 0x0, 0x0, 0x0⟩,
  ⟨0x1401C, 1, 4096, 1, 4, false, 0x0, 0x0, 0x0, 0xFFFFFFFF, 0x0, 0x0⟩,
  ⟨0x14040, 16, 4, 1, 4, false, 0x1FFF, 0x0, 0x0, 0x0, 0x0, 0x0⟩,
  ⟨0x14800, 1, 4096, 1, 4, false, 0x800007FF, 0x0, 0x0, 0x0, 0x0, 0x0⟩,
  ⟨0x14804, 1, 4096, 1, 4, false, 0xFFFFFFFF, 0x0, 0x0, 0x0, 0x0, 0x0⟩,
  ⟨0x14810, 4, 16, 1, 4, false, 0x1FF, 0x0, 0x200, 0x0, 0x0, 0x400⟩,
  ⟨0x14814, 4, 16, 1, 4, false, 0xFFFFFFFF, 0x0, 0x0, 0x0, 0x0, 0x0⟩,
  ⟨0x14818, 4, 16, 1, 4, false, 0x3FFFFFFF, 0x0, 0x0, 0x0, 0x0, 0x0⟩,
  ⟨0x1481C, 4, 16, 1, 4, false, 0x0, 0x0, 0x0, 0xFFFFFFFF, 0x0, 0x0⟩]

/-- Rows of the `ETH` register table (R444 block 21), in the form base, count, stride, count, stride, one copy per partition,
masks of RW, W1C, WO, RC, RWL and RO bits. -/
def regRowsEth : List RegRow := [
  ⟨0x15000, 1, 4096, 1, 4, false, 0x0, 0x3, 0x0, 0x0, 0x0, 0x0⟩,
  ⟨0x15004, 1, 4096, 1, 4, false, 0xFFF, 0x0, 0x0, 0x0, 0x0, 0x0⟩,
  ⟨0x15008, 1, 4096, 1, 4, false, 0x1F, 0x0, 0x0, 0x0, 0x0, 0x0⟩,
  ⟨0x1500C, 1, 4096, 1, 4, false, 0x3FFFFFF, 0x0, 0xC000000, 0x0, 0x0, 0x10000000⟩,
  ⟨0x15100, 4, 64, 1, 4, false, 0x1FFFFFFF, 0x0, 0x0, 0x0, 0x0, 0x0⟩,
  ⟨0x15104, 4, 64, 1, 4, false, 0xFFFFFFFF, 0x0, 0x0, 0x0, 0x0, 0x0⟩,
  ⟨0x15108, 4, 64, 1, 4, false, 0xFFFF, 0x0, 0x0, 0x0, 0x0, 0x0⟩,
  ⟨0x1510C, 4, 64, 1, 4, false, 0xFFFFFFFF, 0x0, 0x0, 0x0, 0x0, 0x0⟩,
  ⟨0x15110, 4, 64, 1, 4, false, 0xFFFF, 0x0, 0x0, 0x0, 0x0, 0x0⟩,
  ⟨0x15114, 4, 64, 1, 4, false, 0x0, 0x0, 0x0, 0x0, 0x0, 0xF⟩,
  ⟨0x15118, 4, 64, 1, 4, false, 0x0, 0x0, 0x0, 0xFFFFFFFF, 0x0, 0x0⟩,
  ⟨0x1511C, 4, 64, 1, 4, false, 0x0, 0x0, 0x0, 0xFFFFFFFF, 0x0, 0x0⟩,
  ⟨0x15120, 4, 64, 1, 4, false, 0x0, 0x0, 0x0, 0xFFFFFFFF, 0x0, 0x0⟩,
  ⟨0x15124, 4, 64, 1, 4, false, 0x0, 0x0, 0x0, 0xFFFFFFFF, 0x0, 0x0⟩,
  ⟨0x15128, 4, 64, 1, 4, false, 0x0, 0x0, 0x0, 0xFFFFFFFF, 0x0, 0x0⟩,
  ⟨0x1512C, 4, 64, 1, 4, false, 0x0, 0x0, 0x0, 0xFFFFFFFF, 0x0, 0x0⟩,
  ⟨0x15130, 4, 64, 1, 4, false, 0x0, 0x0, 0x0, 0xFFFFFFFF, 0x0, 0x0⟩,
  ⟨0x15134, 4, 64, 1, 4, false, 0x0, 0x0, 0x0, 0xFFFFFFFF, 0x0, 0x0⟩]

/-- Rows of the `PRP` register table (R444 block 22), in the form base, count, stride, count, stride, one copy per partition,
masks of RW, W1C, WO, RC, RWL and RO bits. -/
def regRowsPrp : List RegRow := [
  ⟨0x16000, 1, 4096, 1, 4, false, 0x0, 0x3, 0x0, 0x0, 0x0, 0x0⟩,
  ⟨0x16004, 1, 4096, 1, 4, false, 0x7FFFFFF, 0x0, 0x0, 0x0, 0x0, 0x0⟩,
  ⟨0x16008, 1, 4096, 1, 4, false, 0x0, 0x0, 0x0, 0x0, 0x0, 0xFFF⟩,
  ⟨0x1600C, 1, 4096, 1, 4, false, 0x0, 0x0, 0x0, 0xFFFFFFFF, 0x0, 0x0⟩,
  ⟨0x16010, 1, 4096, 1, 4, false, 0x0, 0x0, 0x0, 0xFFFFFFFF, 0x0, 0x0⟩,
  ⟨0x16014, 1, 4096, 1, 4, false, 0x0, 0x0, 0x0, 0xFFFFFFFF, 0x0, 0x0⟩,
  ⟨0x16018, 1, 4096, 1, 4, false, 0x0, 0x0, 0x0, 0xFFFFFFFF, 0x0, 0x0⟩,
  ⟨0x1601C, 1, 4096, 1, 4, false, 0x0, 0x0, 0x0, 0xFFFFFFFF, 0x0, 0x0⟩,
  ⟨0x16020, 1, 4096, 1, 4, false, 0x0, 0x0, 0x0, 0xFFFFFFFF, 0x0, 0x0⟩,
  ⟨0x16024, 1, 4096, 1, 4, false, 0x0, 0x0, 0x0, 0xFFFFFFFF, 0x0, 0x0⟩]

/-- Rows of the `PTP` register table (R444 block 23), in the form base, count, stride, count, stride, one copy per partition,
masks of RW, W1C, WO, RC, RWL and RO bits. -/
def regRowsPtp : List RegRow := [
  ⟨0x17000, 1, 4096, 1, 4, false, 0x0, 0x1, 0x0, 0x0, 0x0, 0x0⟩,
  ⟨0x17004, 1, 4096, 1, 4, false, 0x0, 0x0, 0x0, 0x0, 0x0, 0xFFFFFFFF⟩,
  ⟨0x17008, 1, 4096, 1, 4, false, 0x0, 0x0, 0x0, 0x0, 0x0, 0xBFFFFFFF⟩,
  ⟨0x1700C, 1, 4096, 1, 4, false, 0x7F, 0x0, 0x0, 0x0, 0x0, 0x0⟩,
  ⟨0x17010, 1, 4096, 1, 4, false, 0x0, 0x0, 0x0, 0x0, 0x0, 0x1FFFF⟩,
  ⟨0x17100, 4, 32, 1, 4, false, 0xFFFFFFFF, 0x0, 0x0, 0x0, 0x0, 0x0⟩,
  ⟨0x17104, 4, 32, 1, 4, false, 0x1, 0x0, 0x0, 0x0, 0x0, 0x0⟩,
  ⟨0x17108, 4, 32, 1, 4, false, 0x0, 0x0, 0x0, 0x1FFFF, 0x0, 0x0⟩,
  ⟨0x1710C, 4, 32, 1, 4, false, 0x0, 0x0, 0x0, 0x0, 0x0, 0xFFFFFFFF⟩,
  ⟨0x17110, 4, 32, 1, 4, false, 0x0, 0x0, 0x0, 0x0, 0x0, 0x3FFFFFFF⟩,
  ⟨0x17114, 4, 32, 1, 4, false, 0x0, 0x0, 0x0, 0x0, 0x0, 0x7F⟩,
  ⟨0x17118, 4, 32, 1, 4, false, 0x0, 0x0, 0x0, 0xFFFFFFFF, 0x0, 0x0⟩]

/-- Rows of the `PASS` register table (R444 block 24), in the form base, count, stride, count, stride, one copy per partition,
masks of RW, W1C, WO, RC, RWL and RO bits. -/
def regRowsPass : List RegRow := [
  ⟨0x18000, 1, 4096, 1, 4, false, 0x0, 0x0, 0x0, 0x0, 0x0, 0x1F⟩,
  ⟨0x18004, 1, 4096, 1, 4, false, 0x0, 0x0, 0x0, 0xFFFFFFFF, 0x0, 0x0⟩,
  ⟨0x18008, 1, 4096, 1, 4, false, 0x0, 0x0, 0x0, 0x0, 0x0, 0x3FF⟩,
  ⟨0x1800C, 1, 4096, 1, 4, false, 0x0, 0x0, 0x0, 0xFFFFFFFF, 0x0, 0x0⟩,
  ⟨0x18010, 1, 4096, 1, 4, false, 0x0, 0x0, 0x0, 0xFFFFFFFF, 0x0, 0x0⟩,
  ⟨0x18014, 1, 4096, 1, 4, false, 0x0, 0x0, 0x0, 0xFFFFFFFF, 0x0, 0x0⟩,
  ⟨0x18018, 1, 4096, 1, 4, false, 0x0, 0x0, 0x0, 0xFFFFFFFF, 0x0, 0x0⟩,
  ⟨0x18080, 1, 4096, 1, 4, false, 0x0, 0x0, 0x0, 0xFFFFFFFF, 0x0, 0x0⟩,
  ⟨0x18084, 1, 4096, 1, 4, false, 0x0, 0x0, 0x0, 0xFFFFFFFF, 0x0, 0x0⟩]

/-- Rows of the `TMR` register table (R444 block 25), in the form base, count, stride, count, stride, one copy per partition,
masks of RW, W1C, WO, RC, RWL and RO bits. -/
def regRowsTmr0 : List RegRow := [
  ⟨0x19000, 1, 4096, 1, 4, false, 0x0, 0x3, 0x0, 0x0, 0x0, 0x0⟩,
  ⟨0x19004, 1, 4096, 1, 4, false, 0x0, 0x0, 0x0, 0x0, 0x0, 0xFFFFFFFF⟩,
  ⟨0x19008, 1, 4096, 1, 4, false, 0x0, 0x0, 0x0, 0x0, 0x0, 0xBFFFFFFF⟩,
  ⟨0x1900C, 1, 4096, 1, 4, false, 0x3FFFFF, 0x0, 0x0, 0x0, 0x0, 0x0⟩,
  ⟨0x19010, 1, 4096, 1, 4, false, 0x0, 0x0, 0x0, 0x0, 0x0, 0xF⟩,
  ⟨0x19014, 1, 4096, 1, 4, false, 0x0, 0x0, 0x0, 0x0, 0x0, 0xFFFFFFFF⟩,
  ⟨0x19018, 1, 4096, 1, 4, false, 0xFFFFFFFF, 0x0, 0x0, 0x0, 0x0, 0x0⟩,
  ⟨0x1901C, 1, 4096, 1, 4, false, 0x3FFFFFFF, 0x0, 0x0, 0x0, 0x0, 0x0⟩,
  ⟨0x19020, 1, 4096, 1, 4, false, 0x0, 0x0, 0x3, 0x0, 0x0, 0x0⟩,
  ⟨0x19024, 1, 4096, 1, 4, false, 0xFFFFFFFF, 0x0, 0x0, 0x0, 0x0, 0x0⟩,
  ⟨0x19028, 1, 4096, 1, 4, false, 0xFFFF, 0x0, 0x0, 0x0, 0x0, 0x0⟩,
  ⟨0x19030, 2, 16, 1, 4, false, 0x7FFFF, 0x0, 0x0, 0x0, 0x0, 0x0⟩,
  ⟨0x19034, 2, 16, 1, 4, false, 0x0, 0x0, 0x0, 0x0, 0x0, 0x3FF⟩,
  ⟨0x19038, 2, 16, 1, 4, false, 0x0, 0x0, 0x0, 0x0, 0x0, 0xFFFFFFFF⟩,
  ⟨0x1903C, 2, 16, 1, 4, false, 0x0, 0x0, 0x0, 0x0, 0x0, 0xFFFFFFFF⟩,
  ⟨0x19050, 1, 4096, 1, 4, false, 0xFFF, 0x0, 0x0, 0x0, 0x0, 0x0⟩,
  ⟨0x19054, 1, 4096, 1, 4, false, 0x0, 0x0, 0x0, 0xFFFFFFFF, 0x0, 0x0⟩,
  ⟨0x19100, 8, 64, 1, 4, false, 0xF, 0x0, 0x10, 0x0, 0x0, 0x0⟩,
  ⟨0x19104, 8, 64, 1, 4, false, 0x0, 0x0, 0x0, 0x0, 0x0, 0xFFFFFFFF⟩,
  ⟨0x19108, 8, 64, 1, 4, false, 0x0, 0x0, 0x0, 0x0, 0x0, 0xFFFFFFFF⟩]

/-- Rows of the `TMR` register table (R444 block 25), in the form base, count, stride, count, stride, one copy per partition,
masks of RW, W1C, WO, RC, RWL and RO bits. -/
def regRowsTmr1 : List RegRow := [
  ⟨0x1910C, 8, 64, 1, 4, false, 0xFFFFFFFF, 0x0, 0x0, 0x0, 0x0, 0x0⟩,
  ⟨0x19110, 8, 64, 1, 4, false, 0xFFFFFFFF, 0x0, 0x0, 0x0, 0x0, 0x0⟩,
  ⟨0x19114, 8, 64, 1, 4, false, 0xFFFFFFFF, 0x0, 0x0, 0x0, 0x0, 0x0⟩,
  ⟨0x19118, 8, 64, 1, 4, false, 0xFFFFFFFF, 0x0, 0x0, 0x0, 0x0, 0x0⟩,
  ⟨0x1911C, 8, 64, 1, 4, false, 0x0, 0x3, 0x0, 0x0, 0x0, 0x0⟩,
  ⟨0x19400, 4, 32, 1, 4, false, 0x7FFFF, 0x0, 0x0, 0x0, 0x0, 0x0⟩,
  ⟨0x19404, 4, 32, 1, 4, false, 0x0, 0x3, 0x0, 0x0, 0x0, 0x0⟩,
  ⟨0x19408, 4, 32, 1, 4, false, 0x0, 0x0, 0x0, 0x0, 0x0, 0xFFFFFFFF⟩,
  ⟨0x1940C, 4, 32, 1, 4, false, 0x0, 0x0, 0x0, 0x0, 0x0, 0xFFFFFFFF⟩,
  ⟨0x19410, 4, 32, 1, 4, false, 0x0, 0x0, 0x0, 0x0, 0x0, 0xFFFFFFFF⟩,
  ⟨0x19414, 4, 32, 1, 4, false, 0x0, 0x0, 0x0, 0x0, 0x0, 0x3FFFFFFF⟩,
  ⟨0x19480, 4, 4, 1, 4, false, 0x3FFFFF, 0x0, 0x0, 0x0, 0x0, 0x400000⟩]

/-- Rows of the `SAFE` register table (R444 block 26), in the form base, count, stride, count, stride, one copy per partition,
masks of RW, W1C, WO, RC, RWL and RO bits. -/
def regRowsSafe : List RegRow := [
  ⟨0x1A000, 1, 4096, 1, 4, false, 0x0, 0x1, 0x0, 0x0, 0x0, 0x0⟩,
  ⟨0x1A004, 1, 4096, 1, 4, false, 0x0, 0x0, 0x0, 0x0, 0x0, 0x7⟩,
  ⟨0x1A008, 1, 4096, 1, 4, false, 0x0, 0x0, 0x0, 0x0, 0x0, 0xFFFFFFFF⟩,
  ⟨0x1A00C, 1, 4096, 1, 4, false, 0x0, 0x0, 0x0, 0x0, 0x3, 0x0⟩,
  ⟨0x1A010, 1, 4096, 1, 4, false, 0x0, 0x0, 0x0, 0x0, 0xFFF, 0x0⟩,
  ⟨0x1A014, 1, 4096, 1, 4, false, 0x0, 0x0, 0x0, 0x0, 0xFFF, 0x0⟩,
  ⟨0x1A018, 1, 4096, 1, 4, false, 0x0, 0x0, 0x0, 0x0, 0x0, 0xFFFF⟩,
  ⟨0x1A01C, 1, 4096, 1, 4, false, 0x0, 0x0, 0x0, 0x0, 0x0, 0xFF01⟩,
  ⟨0x1A020, 1, 4096, 1, 4, false, 0x0, 0x0, 0x0, 0x0, 0x0, 0xFFFFFF3F⟩,
  ⟨0x1A024, 1, 4096, 1, 4, false, 0x0, 0x0, 0x0, 0xFFFFFFFF, 0x0, 0x0⟩,
  ⟨0x1A028, 1, 4096, 1, 4, false, 0x0, 0x0, 0x0, 0xFFFFFFFF, 0x0, 0x0⟩,
  ⟨0x1A02C, 1, 4096, 1, 4, false, 0x0, 0x0, 0x0, 0xFFFFFFFF, 0x0, 0x0⟩,
  ⟨0x1A030, 1, 4096, 1, 4, false, 0x0, 0x0, 0x0, 0xFFFFFFFF, 0x0, 0x0⟩,
  ⟨0x1A034, 1, 4096, 1, 4, false, 0x0, 0x0, 0x0, 0xFFFFFFFF, 0x0, 0x0⟩,
  ⟨0x1A040, 4, 4, 1, 4, false, 0x3FFF, 0x0, 0x0, 0x0, 0x0, 0x0⟩,
  ⟨0x1A050, 4, 4, 1, 4, false, 0x0, 0x0, 0x0, 0x0, 0x0, 0xFFFFFF03⟩]

/-- Rows of the `LOG` register table (R444 block 27), in the form base, count, stride, count, stride, one copy per partition,
masks of RW, W1C, WO, RC, RWL and RO bits. -/
def regRowsLog : List RegRow := [
  ⟨0x1B000, 1, 4096, 1, 4, false, 0x0, 0x1, 0x0, 0x0, 0x0, 0x0⟩,
  ⟨0x1B004, 1, 4096, 1, 4, false, 0x1, 0x0, 0x0, 0x0, 0x0, 0x2⟩,
  ⟨0x1B008, 1, 4096, 1, 4, false, 0x0, 0x0, 0x0, 0x0, 0x0, 0xFFFFFFFF⟩,
  ⟨0x1B00C, 1, 4096, 1, 4, false, 0x0, 0x0, 0x0, 0x0, 0x0, 0x1FF⟩,
  ⟨0x1B010, 1, 4096, 1, 4, true, 0x8001FFFF, 0x0, 0x0, 0x0, 0x0, 0x0⟩,
  ⟨0x1B014, 1, 4096, 1, 4, false, 0x0, 0x0, 0x0, 0x0, 0x0, 0xFFFFFFFF⟩,
  ⟨0x1B018, 1, 4096, 1, 4, false, 0x0, 0x0, 0x0, 0x0, 0x0, 0xFFFFFFFF⟩,
  ⟨0x1B01C, 1, 4096, 1, 4, true, 0x801FFFFF, 0x0, 0x0, 0x0, 0x0, 0x0⟩,
  ⟨0x1B020, 1, 4096, 1, 4, false, 0x0, 0x0, 0x0, 0x0, 0x0, 0xFFFFFFFF⟩,
  ⟨0x1B024, 1, 4096, 1, 4, false, 0x0, 0x0, 0x0, 0xFFFFFFFF, 0x0, 0x0⟩]

/-- Rows of the `PWR` register table (R444 block 28), in the form base, count, stride, count, stride, one copy per partition,
masks of RW, W1C, WO, RC, RWL and RO bits. -/
def regRowsPwr : List RegRow := [
  ⟨0x1C000, 1, 4096, 1, 4, false, 0x0, 0x3, 0x0, 0x0, 0x0, 0x0⟩,
  ⟨0x1C004, 1, 4096, 1, 4, false, 0x0, 0x0, 0x0, 0x0, 0x0, 0x1F⟩,
  ⟨0x1C008, 1, 4096, 1, 4, true, 0x7FFFFF, 0x0, 0x0, 0x0, 0x0, 0x0⟩,
  ⟨0x1C00C, 1, 4096, 1, 4, false, 0x0, 0x0, 0x0, 0x0, 0x0, 0x7FFFFF⟩,
  ⟨0x1C010, 1, 4096, 1, 4, false, 0xFFFF01, 0x0, 0x0, 0x0, 0x0, 0x0⟩,
  ⟨0x1C014, 1, 4096, 1, 4, false, 0x0, 0x0, 0x0, 0x0, 0xF, 0x0⟩,
  ⟨0x1C018, 1, 4096, 1, 4, false, 0x3, 0x0, 0x0, 0x0, 0x0, 0x0⟩,
  ⟨0x1C01C, 1, 4096, 1, 4, false, 0x0, 0x0, 0x0, 0x0, 0x0, 0xFFFFFFFF⟩,
  ⟨0x1C020, 1, 4096, 1, 4, false, 0xFFFFFFFF, 0x0, 0x0, 0x0, 0x0, 0x0⟩,
  ⟨0x1C024, 1, 4096, 1, 4, false, 0x0, 0x2, 0x0, 0x0, 0x0, 0x1⟩,
  ⟨0x1C028, 1, 4096, 1, 4, false, 0x0, 0x0, 0x0, 0x0, 0x0, 0xFFFFFFFF⟩,
  ⟨0x1C02C, 1, 4096, 1, 4, false, 0x0, 0x0, 0x0, 0xFFFFFFFF, 0x0, 0x0⟩]

/-- Rows of the `BOOT` register table (R444 block 29), in the form base, count, stride, count, stride, one copy per partition,
masks of RW, W1C, WO, RC, RWL and RO bits. -/
def regRowsBoot : List RegRow := [
  ⟨0x1D000, 1, 4096, 1, 4, false, 0x0, 0x3, 0x0, 0x0, 0x0, 0x0⟩,
  ⟨0x1D004, 1, 4096, 1, 4, false, 0x0, 0x0, 0x0, 0x0, 0x0, 0x3FFFF⟩,
  ⟨0x1D008, 1, 4096, 1, 4, false, 0x0, 0x0, 0x0, 0x0, 0x0, 0xFFFFFFFF⟩,
  ⟨0x1D00C, 1, 4096, 1, 4, false, 0x0, 0x0, 0x0, 0x0, 0x0, 0x3FFF⟩,
  ⟨0x1D010, 1, 4096, 1, 4, false, 0x0, 0x0, 0x0, 0x0, 0x0, 0x3FFF⟩,
  ⟨0x1D014, 1, 4096, 1, 4, false, 0x0, 0x0, 0x0, 0x0, 0x0, 0xFFFFFFFF⟩,
  ⟨0x1D018, 1, 4096, 1, 4, false, 0x0, 0x0, 0x0, 0x0, 0x0, 0xFFFFFFFF⟩,
  ⟨0x1D01C, 1, 4096, 1, 4, false, 0x0, 0x0, 0x0, 0x0, 0x1F, 0x0⟩,
  ⟨0x1D020, 1, 4096, 1, 4, false, 0x0, 0x0, 0x0, 0x0, 0x1, 0x2⟩,
  ⟨0x1D030, 4, 4, 1, 4, false, 0x0, 0x0, 0x0, 0x0, 0x0, 0xFFFFFFFF⟩]

/-- Rows of the `BIST` register table (R444 block 30), in the form base, count, stride, count, stride, one copy per partition,
masks of RW, W1C, WO, RC, RWL and RO bits. -/
def regRowsBist : List RegRow := [
  ⟨0x1E000, 1, 4096, 1, 4, false, 0x0, 0x1, 0x0, 0x0, 0x0, 0x0⟩,
  ⟨0x1E004, 1, 4096, 1, 4, false, 0x0, 0x0, 0x0, 0x0, 0x1, 0x0⟩,
  ⟨0x1E008, 1, 4096, 1, 4, false, 0x0, 0x0, 0x0, 0x0, 0x0, 0x7FF⟩,
  ⟨0x1E00C, 4, 4, 1, 4, false, 0x0, 0x0, 0x0, 0x0, 0x0, 0xFFFFFFFF⟩,
  ⟨0x1E01C, 1, 4096, 1, 4, false, 0x0, 0x0, 0x0, 0x0, 0x0, 0xFFFFFFFF⟩]

/-- Every register of the spec's tables. -/
def regRows : List RegRow :=
  regRowsSys ++
  regRowsPart ++
  regRowsRing ++
  regRowsEvt ++
  regRowsRfp ++
  regRowsArr ++
  regRowsChz ++
  regRowsSrch ++
  regRowsLane ++
  regRowsXrd ++
  regRowsSlot0 ++
  regRowsSlot1 ++
  regRowsLink0 ++
  regRowsLink1 ++
  regRowsPan ++
  regRowsKey0 ++
  regRowsKey1 ++
  regRowsNdir ++
  regRowsLpm ++
  regRowsMesh0 ++
  regRowsMesh1 ++
  regRowsCvn ++
  regRowsImg ++
  regRowsQmg0 ++
  regRowsQmg1 ++
  regRowsShp ++
  regRowsEth ++
  regRowsPrp ++
  regRowsPtp ++
  regRowsPass ++
  regRowsTmr0 ++
  regRowsTmr1 ++
  regRowsSafe ++
  regRowsLog ++
  regRowsPwr ++
  regRowsBoot ++
  regRowsBist

/-- Reset values that are not 0, keys 0x48 and up. -/
def regReset0 : List (Nat × BitVec 32) := [
  (0x48, 0x1),
  (0x80, 0xA17160),
  (0x1008, 0x5050),
  (0x4004, 0x10414),
  (0x5000, 0x8),
  (0x5004, 0x8),
  (0x5008, 0x8),
  (0x500C, 0x8),
  (0x5030, 0x1),
  (0x5034, 0x2),
  (0x5038, 0x4),
  (0x503C, 0x8),
  (0x505C, 0x7082580),
  (0x5060, 0x3),
  (0x5064, 0x3),
  (0x5068, 0x3),
  (0x506C, 0x3),
  (0x8000, 0x38),
  (0x8004, 0x4480480),
  (0xA000, 0x7D044E20),
  (0xA01C, 0x36),
  (0xA100, 0x848),
  (0xA104, 0x898),
  (0xA108, 0x19003E8),
  (0xA10C, 0x2AF8),
  (0xA110, 0xC80),
  (0xA120, 0x848),
  (0xA124, 0x898),
  (0xA128, 0x19003E8),
  (0xA12C, 0x2AF8),
  (0xA130, 0xC80),
  (0xA140, 0x848),
  (0xA144, 0x898),
  (0xA148, 0x19003E8),
  (0xA14C, 0x2AF8),
  (0xA150, 0xC80),
  (0xA160, 0x848),
  (0xA164, 0x898),
  (0xA168, 0x19003E8),
  (0xA16C, 0x2AF8),
  (0xA170, 0xC80),
  (0xB018, 0x14),
  (0xC004, 0xFFFF),
  (0xC008, 0x400000),
  (0xC00C, 0x80000),
  (0xC010, 0x7777),
  (0xC014, 0x71),
  (0xC044, 0xFFFF),
  (0xC048, 0x400000),
  (0xC04C, 0x80000),
  (0xC050, 0x7777),
  (0xC054, 0x71),
  (0xC084, 0xFFFF),
  (0xC088, 0x400000),
  (0xC08C, 0x80000),
  (0xC090, 0x7777),
  (0xC094, 0x71),
  (0xC0C4, 0xFFFF),
  (0xC0C8, 0x400000),
  (0xC0CC, 0x80000)]

/-- Reset values that are not 0, keys 0xc0d0 and up. -/
def regReset1 : List (Nat × BitVec 32) := [
  (0xC0D0, 0x7777),
  (0xC0D4, 0x71),
  (0xC104, 0xFFFF),
  (0xC108, 0x400000),
  (0xC10C, 0x80000),
  (0xC110, 0x7777),
  (0xC114, 0x71),
  (0xC144, 0xFFFF),
  (0xC148, 0x400000),
  (0xC14C, 0x80000),
  (0xC150, 0x7777),
  (0xC154, 0x71),
  (0xC184, 0xFFFF),
  (0xC188, 0x400000),
  (0xC18C, 0x80000),
  (0xC190, 0x7777),
  (0xC194, 0x71),
  (0xC1C4, 0xFFFF),
  (0xC1C8, 0x400000),
  (0xC1CC, 0x80000),
  (0xC1D0, 0x7777),
  (0xC1D4, 0x71),
  (0xD00C, 0xA),
  (0xD100, 0x5),
  (0xD108, 0x5),
  (0xD110, 0x5),
  (0xD118, 0x5),
  (0xD120, 0x5),
  (0xD128, 0x5),
  (0xD130, 0x5),
  (0xD138, 0x5),
  (0xE010, 0xE00),
  (0xE014, 0x384),
  (0x10004, 0x5A),
  (0x10100, 0x7F),
  (0x10104, 0x3C),
  (0x10108, 0x43140100),
  (0x10120, 0x7F),
  (0x10124, 0x3C),
  (0x10128, 0x43140100),
  (0x10140, 0x7F),
  (0x10144, 0x3C),
  (0x10148, 0x43140100),
  (0x10160, 0x7F),
  (0x10164, 0x3C),
  (0x10168, 0x43140100),
  (0x10180, 0x7F),
  (0x10184, 0x3C),
  (0x10188, 0x43140100),
  (0x101A0, 0x7F),
  (0x101A4, 0x3C),
  (0x101A8, 0x43140100),
  (0x101C0, 0x7F),
  (0x101C4, 0x3C),
  (0x101C8, 0x43140100),
  (0x101E0, 0x7F),
  (0x101E4, 0x3C),
  (0x101E8, 0x43140100),
  (0x11004, 0x40F0B3),
  (0x11008, 0x14)]

/-- Reset values that are not 0, keys 0x1100c and up. -/
def regReset2 : List (Nat × BitVec 32) := [
  (0x1100C, 0x400040),
  (0x11010, 0x400040),
  (0x12004, 0x80832),
  (0x12008, 0x12CF0B4),
  (0x13004, 0x10000),
  (0x1300C, 0x4000000),
  (0x13010, 0x60004000),
  (0x13014, 0x400),
  (0x13018, 0x400),
  (0x13040, 0x801000),
  (0x13044, 0x800),
  (0x13048, 0x801000),
  (0x1304C, 0x800),
  (0x13050, 0x801000),
  (0x13054, 0x800),
  (0x13058, 0x801000),
  (0x1305C, 0x800),
  (0x13060, 0x801000),
  (0x13064, 0x800),
  (0x13068, 0x801000),
  (0x1306C, 0x800),
  (0x13070, 0x801000),
  (0x13074, 0x800),
  (0x13078, 0x801000),
  (0x1307C, 0x800),
  (0x13080, 0x801000),
  (0x13084, 0x800),
  (0x13088, 0x801000),
  (0x1308C, 0x800),
  (0x13090, 0x801000),
  (0x13094, 0x800),
  (0x13098, 0x801000),
  (0x1309C, 0x800),
  (0x130A0, 0x801000),
  (0x130A4, 0x800),
  (0x130A8, 0x801000),
  (0x130AC, 0x800),
  (0x130B0, 0x801000),
  (0x130B4, 0x800),
  (0x130B8, 0x801000),
  (0x130BC, 0x800),
  (0x130C0, 0x8),
  (0x13120, 0x400),
  (0x13124, 0x400),
  (0x13128, 0x400),
  (0x1312C, 0x400),
  (0x15004, 0x2EE),
  (0x15008, 0x10),
  (0x15100, 0x5F20000),
  (0x15140, 0x5F20000),
  (0x15180, 0x5F20000),
  (0x151C0, 0x5F20000),
  (0x16004, 0x3200FA0),
  (0x1900C, 0x3201E0),
  (0x19028, 0x3E8),
  (0x19030, 0x3800),
  (0x19040, 0x3800),
  (0x19050, 0xC8),
  (0x19400, 0x80),
  (0x19420, 0x80)]

/-- Reset values that are not 0, keys 0x19440 and up. -/
def regReset3 : List (Nat × BitVec 32) := [
  (0x19440, 0x80),
  (0x19460, 0x80),
  (0x19480, 0x40),
  (0x19484, 0x40),
  (0x19488, 0x40),
  (0x1948C, 0x40),
  (0x1A014, 0x428),
  (0x1A018, 0xF0FF),
  (0x1A01C, 0xFF00),
  (0x1C010, 0x906400),
  (0x1C018, 0x1)]

/-- The register file after reset: the reset values of the spec's register tables; a register not listed holds 0. -/
def regReset : List (Nat × BitVec 32) :=
  regReset0 ++ regReset1 ++ regReset2 ++ regReset3

end Sys2Proof.Machine
end

