-- ==== Sys2Proof/Machine/State.lean ====
section
/-! DEFINITION. The state of the ZX7160 as plain data: the register file, and beside it every buffer, table, queue, timer, counter
and mode that the spec gives the block; and the state after reset. -/

namespace Sys2Proof.Machine

/-! ## The Pass (R15 to R23) -/

/-- One direction of the Pass: the sender's next `SEQ`, its retry buffer of 64 KiB (R18, R27) and the messages that wait for room in it,
the receiver's next expected `SEQ`, how often the first unacknowledged message has been resent, when the direction last made progress,
and whether the receiver discards until the resend. -/
structure PassDir where
  next : Word := 0
  retry : List PassMsg := []
  waiting : List PassMsg := []
  progress : Nat := 0
  resends : Nat := 0
  rx : Word := 0
  discarding : Bool := false
deriving DecidableEq, Repr

/-- A command in the completion order of its family (R323): its completion record once it is done, and whether that is to be discarded because its
partition has been reset (R332). -/
structure CplSlot where
  cmd : CmdDesc
  done : Option (List Word) := none
  gone : Bool := false
deriving DecidableEq, Repr

/-- What the F-die keeps of completions to come: long commands that run on, and what of their families has been done behind them, in the order in which
it was taken (R323); and by partition the PART resets carried out (R332). -/
structure EndSt where
  order : List CplSlot := []
  gens : List (Nat × Nat) := []
deriving DecidableEq, Repr

/-- The Pass beside its `PASS` registers: both directions, the F-die's own count of malformed messages and the part of it the
H-die has added (R455), the resends that led to the retrain in progress and its start. -/
structure PassSt where
  hf : PassDir := {}
  fh : PassDir := {}
  fReject : Nat := 0
  fRejectSeen : Nat := 0
  retrainResends : Nat := 0
  retrainAt : Nat := 0
  resetReqAt : Option Nat := none
  /-- The H-die's copy of city time (R23, R26). While `hFollow` is true the copy runs with F-die city time, `hOff` ns away from it; else
  it counts on from `hTime` since the instant `hTimeAt` of `State.now`. -/
  hFollow : Bool := false
  hOff : Int := 0
  hTime : Nat := 0
  hTimeAt : Nat := 0
  /-- When the TIME_SYNC that the F-die sent last went on the wire. -/
  syncAt : Nat := 0
  /-- Cells of ingress credit each partition has spent and not got back (R279). -/
  spent : List (Nat × Nat) := []
deriving DecidableEq, Repr

/-! ## Host partitions (R304 to R333) -/

/-- A TX or command descriptor that the H-die has fetched and that has not completed (R314). `opcode` is 0 for a TX descriptor. `gen` is, in a frame on
the F-die, the number of PART resets of its partition before it (R332). -/
structure Fetched where
  part : Nat
  ring : Nat
  index : Nat
  tag : Nat
  opcode : Nat
  cookie : Word
  gen : Nat := 0
deriving DecidableEq, Repr

/-- A frame in the H-die for a host partition's RX ring (R312, R319). -/
structure HeldFrame where
  part : Nat
  ring : Nat
  meta_ : List Word
  bytes : List Byte
  /-- The TX descriptor the frame came from, when another partition sent it: partition, TX ring, index and cookie. -/
  src : Option Fetched
deriving DecidableEq, Repr

/-- The H-die's host side beside its registers. -/
structure HostSt where
  /-- Octets of the hosts' memory, keyed by partition times 2^64 plus address. -/
  mem : List (Nat × Byte) := []
  /-- Entries written since the ring was enabled, per partition and ring (for `PHASE`, R321). -/
  written : List (Nat × Nat) := []
  /-- Descriptors fetched and not completed (R314). -/
  fetched : List Fetched := []
  /-- Completion records waiting in the H-die for their ring (R312). -/
  cplWait : List (Nat × List Word) := []
  /-- Descriptors that completed FLUSHED at a lost Pass, or whose partition was reset, and whose own completion is discarded when it
  still comes (R317, R331, R332). -/
  stale : List Fetched := []
  held : List HeldFrame := []
  evtSeq : List (Nat × Nat) := []
  evtLost : List (Nat × Nat) := []
  /-- Event routes (R330): per partition and source, `EN` in bit 0 and `VECTOR` in bits 5 to 1. -/
  route : List (Nat × Nat) := []
  /-- Pending bits of the PBA, per partition and vector. -/
  pba : List (Nat × Nat) := []
  /-- Vectors the MSI-X table leaves unmasked, per partition and vector. -/
  unmasked : List (Nat × Nat) := []
  /-- Address and data words of the MSI-X table, by partition times 128 plus word (R306). -/
  msix : List (Nat × Word) := []
  /-- Functions with MSI-X enabled, by partition. -/
  msixOn : List (Nat × Nat) := []
  /-- Codes of the Max Payload Size and the Max Read Request Size of each function, and the addresses in BAR0 and BAR2, by partition times 2 plus
  0 or 1 (R306). -/
  mps : List (Nat × Nat) := []
  mrrs : List (Nat × Nat) := []
  bars : List (Nat × Word) := []
  /-- Hold-off deadlines, per partition and vector; 0 for none. -/
  holdoff : List (Nat × Nat) := []
  /-- MSI-X messages sent, per partition and vector. -/
  fired : List (Nat × Nat) := []
  fwReady : Bool := false
  microcode : Bool := false
  bootBytes : Nat := 0
  /-- Length of the H-die microcode of the booted image (section type 6). -/
  microLen : Nat := 0
  /-- Unlock instants of the partitions' locks; 0 while armed (R449). -/
  lockAt : List (Nat × Nat) := []
  /-- What the last host access of a partition returned, and the lower word of the last one of 64 bits (R308). -/
  readData : List (Nat × Word) := []
  readLow : List (Nat × Word) := []
  /-- Tag of the outstanding F-die read of each partition, plus 1; 0 for none (R14), and its start. -/
  readTag : List (Nat × Nat) := []
  readLowTag : List (Nat × Nat) := []
  readAt : List (Nat × Nat) := []
  /-- Last configuration answer of each partition's function: 1 completion, 2 retry status (R307). -/
  cfgAnswer : List (Nat × Nat) := []
  /-- Fetching of TX and command descriptors is stopped (R331). -/
  stopped : Bool := true
deriving DecidableEq, Repr

/-! ## Safety island (R366 to R391) -/

/-- One array's Drover loop (R383): attempts made, whether one passed, the halves of the last attempt and whether its transmit half ran. -/
structure DroverSt where
  attempts : Nat := 0
  passed : Bool := false
  rxOk : Bool := false
  txOk : Bool := false
  txRan : Bool := false
  /-- The injected frame while the Drover waits for it and it holds its cell (R278): ASN, and city time in ns at which its first symbol was at
  the pins; and the sequence of the last frame. -/
  out : Option (Nat × Nat) := none
  seq : Nat := 0
deriving DecidableEq, Repr

/-- The safety island beside the `SAFE` registers. -/
structure SafeSt where
  dacMuted : Bool := false
  /-- Since when `LIVE` has been non-zero without a break (R380). -/
  liveSince : Option Nat := none
  /-- Instants of the last HEALTH received by the F-die and by the H-die, and whether it reported no fault. -/
  healthF : Option Nat := none
  healthH : Option Nat := none
  healthGoodSince : Option Nat := none
  clockGoodSince : Option Nat := none
  agreeSince : Option Nat := none
  /-- Yarrow (R381): clusters skipped in this rotation, to be taken first in the next; start of the rotation. -/
  skipped : List Nat := []
  rotAt : Option Nat := none
  /-- Clusters still to be taken in this rotation. -/
  turn : List Nat := []
  /-- Start of the cluster's migration and of its test. -/
  closeAt : Nat := 0
  yarrowAt : Nat := 0
  drover : List (Nat × DroverSt) := []
  /-- Control-core pairs being restarted (R375). -/
  restarting : List Nat := []
  /-- Interval in progress lapses without a failure because pair 3 restarted. -/
  droverLapse : Bool := false
  /-- Start of the Drover's interval in progress (R383). -/
  droverAt : Nat := 0
  /-- Cause of Quiet the H-die has been told (SAFE_ASSERT, R377). -/
  hQuiet : Bool := false
  /-- The H-die holds the condition of R376 towards the F-die: a fault reported, or 10 ms without HEALTH. -/
  hPeerBad : Bool := false
deriving DecidableEq, Repr

/-! ## Ledger and Trail (R386 to R390) -/

structure LogSt where
  ledger : List (Nat × List Word) := []
  /-- Ledger indexes whose MRAM fails verification (R388). -/
  bad : List Nat := []
  fifo : List (List Word) := []
  frozen : Bool := false
  draining : Bool := false
  frozenAt : Nat := 0
  lostFirst : Word := 0
  lostCount : Nat := 0
  trail : List (Nat × List Word) := []
deriving DecidableEq, Repr

/-! ## Power, resets and the vault (R392 to R416) -/

/-- The holdup save area of MRAM (R407) and the save in progress. -/
structure SaveSt where
  busy : Bool := false
  ok : Bool := false
  /-- A save runs, since this instant. -/
  active : Option Nat := none
  /-- The time anchor: city time, rate correction, servo state and ASN; whether one was saved. -/
  anchorCity : Nat := 0
  anchorRate : Int := 0
  anchorAsn : Nat := 0
  anchorServo : Nat := 0
  anchorValid : Bool := false
  /-- The lost-record tally of a freeze, as the last save wrote it. -/
  lostFirst : Word := 0
  lostCount : Nat := 0
  /-- Bytes and time, in µs, of the last complete save. -/
  bytes : Nat := 0
  time : Nat := 0
deriving DecidableEq, Repr

structure PwrSt where
  /-- A move to a deeper state waits for the next slot boundary: state, cause, wake code. -/
  deeper : Option (Nat × Nat × Nat) := none
  /-- A move to a shallower state under way: new state, old state, cause, wake code, deadline. -/
  exiting : Option (Nat × Nat × Nat × Nat × Nat) := none
  /-- Entry into HOLD or VAULT is under way; what came during it to leave again: cause and wake code (R395, R415). -/
  entering : Bool := false
  wakeDuring : Option (Nat × Nat) := none
  /-- Since when the chip has been seen idle, with the number of frames numbered until then (R395). -/
  idleSince : Option (Nat × Nat) := none
  hush : Bool := false
  saveIsland : Bool := false
  /-- An announced reset in progress, by its code (R399). -/
  resetCode : Option Nat := none
  /-- The save under way belongs to a holdup, and the chip waits for the ride-through outcome (R409). -/
  holdup : Bool := false
  supplyLeft : Bool := false
  vaultEntry : Option Nat := none
  vaultOff : Bool := false
  /-- The vault leaves VAULT, with the wake code of what woke it (R396, R415). -/
  vaultWake : Bool := false
  vaultCode : Nat := 0
  /-- The supplies of each die: 0 all in range; 1 one is not, but the I/O supply is; 2 nor is the I/O supply; 3 none is in range. -/
  fSup : Nat := 0
  hSup : Nat := 0
  /-- The kind of the last F-die reset and whether the boot that follows has run. -/
  lastKind : Nat := 0
  vbatLost : Bool := false
  /-- The F-die has lost power without RESET_REQ while the H-die was powered (R400). -/
  fLost : Bool := false
  fHeld : Bool := true
  hHeld : Bool := true
  /-- Clusters gated; the one being ungated and the instant it is ready (R394). -/
  gated : List Nat := []
  ungating : List Nat := []
  ungateAt : Nat := 0
deriving DecidableEq, Repr

/-! ## Boot, Smivi port and BIST (R417 to R438) -/

/-- A flash operation of the Smivi port in progress: opcode, `SEQ`, first address, data (empty for an erase), octets. -/
structure FlashOp where
  opcode : Nat
  seq : Byte
  addr : Nat
  data : List Byte
  count : Nat
deriving DecidableEq, Repr

structure BootSt where
  /-- The DRAM regions as the boot has placed them, base and size in MiB, and the MiB that SECDED leaves (R28). -/
  regions : List (Nat × Nat) := []
  dramUse : Nat := 0
  /-- NOR flash; an erased octet reads 0xFF. -/
  flash : List (Nat × Byte) := []
  /-- Recovery staging buffer. -/
  staging : List (Nat × Byte) := []
  fuseF : Nat := 0
  /-- 0 ROM recovery, 1 slot A, 2 slot B, 3 RAM (R430). -/
  mode : Nat := 0
  recovery : Nat := 0
  /-- The release of reset has not yet led to firmware or recovery. -/
  booting : Bool := true
  recoveryReq : Bool := false
  readySince : Option Nat := none
  fuseTarget : Nat := 0
  /-- Boot events to be raised once FW_READY has been raised. -/
  events : List (Nat × Nat × Word × Word × Word) := []
  bootFailClusters : List Nat := []
  bootFailPairs : List Nat := []
  /-- Ledger sequences lost at the last reset: first and number (R389). -/
  gapAtBoot : Option (Word × Nat) := none
  selfTestDone : Bool := false
  /-- Smivi: the response ready, and the flash operation in progress. -/
  resp : Option (List Byte) := none
  /-- Octets the last response transaction returned; a RESET command has been answered and takes effect once its response is read. -/
  sent : List Byte := []
  resetAfter : Bool := false
  op : Option FlashOp := none
deriving DecidableEq, Repr

/-- The BIST_RUN in progress (R437): its descriptor, region and run selection. -/
structure BistSt where
  cmd : Option CmdDesc := none
  since : Nat := 0
  /-- The cluster that a BIST_RUN is having its receptions migrated out of. -/
  closing : Option Nat := none
deriving DecidableEq, Repr

/-! ## Backhaul and time (R334 to R365) -/

/-- A frame waiting in the H-die for an Ethernet port (R337, R340): its octets without FCS, whether it asks for a timestamp, and the
TX descriptor it completes. -/
structure EthTx where
  port : Nat
  prio : Nat
  bytes : List Byte
  tsReq : Bool
  tsId : Nat
  src : Option Fetched
  /-- It is one of the two copies that PRP makes (R340). -/
  copy : Bool
  /-- When it became the first of its priority, in ns of city time, plus 1; 0 while it is not (R298). -/
  headAt : Nat
deriving DecidableEq, Repr

/-- An accepted Ethernet frame in an ingress FIFO (R336): port, octets without FCS, and timestamp in ns. -/
structure EthRx where
  port : Nat
  bytes : List Byte
  time : Nat
deriving DecidableEq, Repr

/-- One entry of the PRP duplicate-discard table (R341). -/
structure PrpEntry where
  src : BitVec 48
  high : Nat
  /-- Accepted numbers among the 64 below `high`: bit i is number `high - 1 - i`. -/
  seen : BitVec 64
  last : Nat
deriving DecidableEq, Repr

/-- A foreign master of a PTP domain (R350): its port identity, the data the best-master comparison orders by, and its last
Announce: instant, interval in K4 ticks and UTC offset. -/
structure PtpMaster where
  ident : Nat
  key : List Nat
  clockClass : Nat
  at_ : Nat
  /-- Instant of the Announce before the last, plus 1; 0 for none. -/
  prev : Nat
  interval : Nat
  utc : Nat
deriving DecidableEq, Repr

/-- The measurement state of a tracked PTP domain (R350, R351); times in ns, instants in K4 ticks. -/
structure PtpDom where
  masters : List PtpMaster := []
  chosen : Option Nat := none
  syncAt : Nat := 0
  syncInt : Nat := 0
  syncSeen : Bool := false
  /-- A two-step Sync that waits for its Follow_Up: sequence, receive time and correction. -/
  pendSync : Option (Nat × Nat × Int) := none
  t1 : Int := 0
  t2 : Int := 0
  t3 : Option Int := none
  delaySeq : Nat := 0
  delayAt : Nat := 0
  /-- Least interval between Delay_Reqs, in K4 ticks. -/
  delayInt : Nat := 0
  delayMeasured : Bool := false
  goodSince : Option Nat := none
deriving DecidableEq, Repr

structure EthSt where
  rxFifo : List EthRx := []
  tx : List EthTx := []
  /-- Transmit timestamp queues: per port, oldest first, `TS_ID` and time in ns. -/
  txts : List (Nat × List (Nat × Nat)) := []
  /-- Per port: instant of the last TS_OVERFLOW plus 1, first discarded `TS_ID` and discarded count since. -/
  tsOvfAt : List (Nat × Nat) := []
  tsOvfFirst : List (Nat × Nat) := []
  tsOvfCount : List (Nat × Nat) := []
  prp : List PrpEntry := []
  prpSeq : Nat := 0
  /-- Instant of the last supervision frames, plus 1; 0 for none. -/
  supAt : Nat := 0
  /-- MDIO operation in progress: 1 write, 2 read. -/
  mdio : Nat := 0
  /-- The last frame each port sent, without FCS. -/
  lastTx : List (Nat × List Byte) := []
  /-- Sequence numbers of the supervision frames. -/
  supSeq : Nat := 0
deriving DecidableEq, Repr

/-- One timer T0 to T7 (R356 to R361). -/
structure TimerSt where
  base : Nat := 0
  since : Nat := 0
  /-- The count that stands until `since`, when a return to 0 in the next tick is under way. -/
  held : Nat := 0
  c : Nat := 0
  p : Nat := 0
  preC : Option Nat := none
  preP : Option Nat := none
  stageC : Word := 0
  stageP : Word := 0
  latched : Option Word := none
  /-- Tick of the last compare firing. -/
  firedAt : Option Nat := none
deriving DecidableEq, Repr

/-- City time, its servo and the timers. -/
structure TimeSt where
  /-- City time in units of 1/32 ns. -/
  city32 : Nat := 0
  valid : Bool := false
  /-- Offset still to be slewed, ns. -/
  slew : Int := 0
  /-- What is left over of the rate correction, in 1/32 ns times 10^-12, and of the slewing, in ns times 1/(32 × 10^6), below the units in which city
  time is held. -/
  rateRem : Int := 0
  slewRem : Nat := 0
  /-- Rate correction in parts of 10^12, and the rate corrections of the last 60 s of lock with the instants at which they began. -/
  rate : Int := 0
  rates : List (Nat × Int) := []
  lockRun : Nat := 0
  holdSince : Nat := 0
  /-- Active domain, once there was a good one. -/
  chosen : Bool := false
  latchS : Option Word := none
  dom : List (Nat × PtpDom) := []
  ppsAt : Option Nat := none
  ppsHigh : Option Nat := none
  timers : List (Nat × TimerSt) := []
  /-- Qualified edges counted toward `DIV`, per capture input. -/
  caps : List (Nat × Nat) := []
  /-- End instants of TOUT pulses in progress; 0 for none. -/
  pulse : List (Nat × Nat) := []
deriving DecidableEq, Repr

/-! ## Node directory records (R202) -/

/-- One node record; words 17 to 47 are reserved and 0. -/
structure NodeRec where
  valid : Bool := false
  kind : Nat := 0
  pan : Nat := 0
  hasShort : Bool := false
  hasNbr : Bool := false
  nbr : Nat := 0
  eui : Nat := 0
  short : Nat := 0
  port : Nat := 0
  bound : Bool := false
  q : Nat := 0
  moves : Nat := 0
  heardS : Nat := 0
  heardNs : Nat := 0
  movedS : Nat := 0
  movedNs : Nat := 0
  createdS : Nat := 0
  parent : Nat := 0
  parentV : Bool := false
  altParent : Nat := 0
  altV : Bool := false
  pathExpireS : Nat := 0
  pathSeq : Nat := 0
  reach : Bool := false
  depth : Nat := 0
  rxFrames : Nat := 0
  txFrames : Nat := 0
  lastRssi : Nat := 0
  lastQ : Nat := 0
  hostWords : List Word := []
deriving DecidableEq, Repr

/-! ## Groups, Caravans and image sessions (R255 to R275) -/

/-- A group (R255): `entries` are member words, ordinal in [18:0] and `VOID` in bit 31 (R256). -/
structure Group where
  defined : Bool := false
  pan : Nat := 0
  owner : Nat := 0
  peer : Option Nat := none
  entries : List Word := []
deriving DecidableEq, Repr

/-- An open Caravan (R263, R264). `phase` is 0 flooding, 1 the flood's wait, 2 a sweep round sending, 3 a round's wait,
4 a flood that the engine has not been able to start yet. -/
structure Caravan where
  cid : Nat
  group : Nat
  mode : Nat
  cls : Nat
  rounds : Nat
  ackReq : Bool
  window : Nat
  expiry : Nat
  payload : List Byte
  /-- The postings it answers: one, or two of a dual posting. -/
  posts : List CmdDesc
  /-- Entries at acceptance. -/
  entries : Nat
  pending : List Nat
  answered : List Nat
  /-- Members that answered with a `RESULT` other than 0. -/
  refused : List Nat
  phase : Nat
  round : Nat
  toSend : List Nat
  inFlight : List Nat
  unreached : List Nat
  waitEnd : Nat
  /-- Source port and Hop Limit of its datagrams (log entry 48). -/
  sport : Nat
  hop : Nat
deriving DecidableEq, Repr

/-- A first Safety-class posting that waits for its second (R268). -/
structure CvnWait where
  cmd : CmdDesc
  payload : List Byte
  at_ : Nat
deriving DecidableEq, Repr

/-- An image session (R271 to R275): `state` as `STATE` of `IMG_SESSs`; blocks still to send in this round, as generation, block
index and unicast destination. -/
structure ImgSess where
  cmd : CmdDesc
  group : Nat
  cls : Nat
  rounds : Nat
  k : Nat
  r : Nat
  len : Nat
  imageId : Word
  image : List Byte
  entries : Nat
  state : Nat
  round : Nat
  /-- Next index n_g of each generation. -/
  next : List (Nat × Nat)
  /-- Reports of this round: reporter and its generations with needs. -/
  reports : List (Nat × List (Nat × Nat))
  /-- Members that ever reported, and members that reported done. -/
  heard : List Nat
  done : List Nat
  toSend : List (Nat × Nat × Option Nat)
  sent : Nat
  waitEnd : Nat
  /-- Instant before which `RATE` lets no further block go, in K4 ticks (R274). -/
  nextAt : Nat
  /-- Source port and Hop Limit of its datagrams (log entry 48). -/
  sport : Nat
  hop : Nat
deriving DecidableEq, Repr

structure CvnSt where
  groups : List (Nat × Group) := []
  open_ : List Caravan := []
  waiting : List CvnWait := []
  sess : List (Nat × ImgSess) := []
deriving DecidableEq, Repr

/-- Caravan IDs, kept in MRAM (R269): the last ID assigned, IDs in quarantine with group, posting partitions
(bit p for partition p) and release time (city seconds, plus 1), and IDs open, with group and posting partitions. -/
structure CvnIds where
  last : Nat := 65535
  quar : List (Nat × (Nat × Nat × Nat)) := []
  openIds : List (Nat × (Nat × Nat)) := []
deriving DecidableEq, Repr

/-! ## Transmissions on air -/

/-- The MAC header of a frame that the chip sends, as IEEE 802.15.4-2020 names its parts (R136, R148, R152, R155, R169). -/
structure MacHdr where
  /-- 0 beacon, 1 data, 2 acknowledgement. -/
  ftype : Nat := 1
  version : Nat := 2
  ackReq : Bool := false
  panComp : Bool := false
  pending : Bool := false
  dstPan : Option Nat := none
  dst : MacAddr := .none
  srcPan : Option Nat := none
  src : MacAddr := .none
  /-- Key Identifier Mode and key index of the auxiliary security header. -/
  keyMode : Nat := 0
  keyIndex : Nat := 0
  /-- FCS octets, which the PHR's FCS type bit signals (R479). -/
  fcs : Nat := 4
deriving DecidableEq, Repr

/-- A transmission that has been committed (R118): what is sent, on which array, beam and stream, with its planned times. -/
structure AirTx where
  /-- Number of the transmission, in order of commitment. -/
  id : Nat
  /-- Number of the attempt it is a copy of; 0 for a beacon, an Enh-Ack and a test. -/
  attempt : Nat
  /-- The frame it sends, by `Frame.id`; 0 for none. -/
  frame : Nat
  array : Nat
  beam : Nat
  stream : Nat
  power : Nat
  centre : Nat
  width : Nat
  tStart : Nat
  tEnd : Nat
  /-- 0 data frame, 1 beacon, 2 Enh-Ack. -/
  kind : Nat
  /-- The PAN of a beacon. -/
  pan : Nat
  /-- What it carries: mode byte, security level, counter, DSN, MAC payload or header IE, and the Frame Pending bit of an Enh-Ack. -/
  mode : Nat
  level : Nat
  counter : Option Nat
  dsn : Option Nat
  bytes : List Byte
  pending : Bool
  /-- Its MAC header, and its octets as they go on air, without the FCS. -/
  hdr : MacHdr := {}
  psdu : List Byte := []
  /-- Its blanking has begun, and FE_TXEN has been asserted for it. -/
  blk : Bool := false
  txen : Bool := false
  started : Bool
  ended : Bool
  cut : Bool
deriving DecidableEq, Repr

/-! ## The Caravanserai, shapers, policers and gate lists (R277 to R303) -/

/-- Where a frame came from, and who hears of its end. -/
inductive Origin where
  /-- A radio uplink, an Ethernet port, or the chip's own: nobody is told. -/
  | own
  /-- A TX descriptor of a partition (R317). -/
  | host (f : Fetched)
  /-- A flood's broadcast, by the flood's number (R249). -/
  | flood (n : Nat)
  /-- A sweep copy of a Caravan: its ID and the member's ordinal (R264). -/
  | caravan (cid ord : Nat)
  /-- The flood of a Caravan (R264). -/
  | cvnFlood (cid : Nat)
  /-- A unicast block of an image session (R274). -/
  | image (sess : Nat)
  /-- A test frame of the Drover on an array (R383). -/
  | drover (array : Nat)
deriving DecidableEq, Repr

/-- A frame in the Caravanserai: its octets, and the chain of cells that hold them. -/
structure Frame where
  id : Nat := 0
  bytes : List Byte := []
  ingress : Nat := 63
  origin : Origin := .own
  yellow : Bool := false
  /-- Its frame check word, kept with the first link entry of its chain (R370). -/
  check : Word := 0
  cls : Nat := 0
  prio : Nat := 0
  enq : Nat := 0
  /-- Words 0x04 to 0x1C of its FRAME_UP metadata (R320). -/
  up : List Word := []
  tsReq : Bool := false
  tsId : Nat := 0
  /-- An Ethernet frame that is sent as posted (R316). -/
  direct : Bool := false
  /-- Under PRP: it leaves on LAN B alone (R340). -/
  lanB : Bool := false
  /-- The chain of cells that it took at ingress (R277, R278), in order; `none` for a cell that lies in the spill region (R284). -/
  chain : List (Option Nat) := []
  /-- A spilled cell that holds an uncorrectable error (R285). -/
  spillBad : Option Nat := none
  /-- Its datagram, when several frames make one (R237, R251). -/
  gram : Option Nat := none
  /-- Radio frames: PAN slot, ordinal sent to, neighbour of the first hop (`none` for a broadcast), and the security level. -/
  pan : Nat := 0
  ord : Nat := 0
  nbr : Option Nat := none
  level : Nat := 0
  dsn : Nat := 0
  /-- Attempts admitted, the frame counter and the key they carry, and the plan's view of the attempt in progress. -/
  attempts : Nat := 0
  counter : Option Nat := none
  keyFp : Nat := 0
  /-- What its protection has made of it, which every retry repeats (R38): MAC header and octets without the FCS. -/
  hdr : MacHdr := {}
  psdu : List Byte := []
  onAir : Bool := false
  charged : Bool := false
  lastTx : Nat := 0
  lastBeam : Nat := 63
deriving DecidableEq, Repr

/-- Several frames that make one datagram: fragments (R237) or a twin pair (R252). -/
structure Gram where
  origin : Origin
  twin : Bool
  left : Nat
  done : Bool
deriving DecidableEq, Repr

/-- One queue: its frames, head first; its entry (R281); refusals (R282); and the second copy of its pointers (R287) when an error has changed
it, `none` while it equals the first copy. -/
structure Queue where
  frames : List Frame := []
  entry : Word := 0
  drops : Word := 0
  second : Option QPtr := none
deriving DecidableEq, Repr

/-- What goes with a FRAME_UP beside its metadata: the TX descriptor it came from, its Ethernet priority, and whether it is sent as
posted. -/
structure UpSide where
  src : Option Fetched := none
  prio : Nat := 0
  direct : Bool := false
  /-- The forwarding port it goes to, and its octets. -/
  port : Nat := 0
  len : Nat := 0
deriving DecidableEq, Repr

/-- The queue manager beside the `QMG` registers. -/
structure QmgSt where
  queues : List (Nat × Queue) := []
  nextId : Nat := 1
  grams : List (Nat × Gram) := []
  nextGram : Nat := 1
  /-- The chains of Ethernet frames that are crossing the Pass, oldest first (R278). -/
  inHand : List (List Nat) := []
  /-- The cells that are not free (R277), ascending. -/
  used : List Nat := []
  /-- The window reader's current frame and the octets of it that were read (R292). -/
  popCur : Option Frame := none
  popOff : Nat := 0
  /-- The window reads that stall, oldest first: deadline, and the tag of the REG_RD by which the read came. -/
  popWait : List (Nat × Option Nat) := []
  /-- Histogram bins (R302), keyed by class times 32 plus kind times 16 plus bin. -/
  hist : List (Nat × Word) := []
  /-- Frames sent toward RX rings and not written back: partition, ring, octets (R290). -/
  aside : List (Nat × Nat × Nat) := []
  /-- What the H-die knows of frames that are crossing the Pass and that their metadata does not carry, by the message's `SEQ`. -/
  upSide : List (Nat × UpSide) := []
  /-- FRAME_DN messages that Hush holds in front of their pipeline, oldest first, with their comparator faults (R406; log entry 117). -/
  frozen : List (PassMsg × Nat) := []
  /-- The RX ring last served, per partition (R290). -/
  rxTurn : List (Nat × Nat) := []
deriving DecidableEq, Repr

/-- A shaper (R293): level in 1/65,536 byte at the instant `at_`. -/
structure Shaper where
  rate : Nat := 0xFFFFFF
  adjust : Int := 0
  burst : Nat := 16384
  level : Int := 16384 * 65536
  at_ : Nat := 0
deriving DecidableEq, Repr

/-- A policer (R299): words of `SHP_POL_DATA`, its two buckets in 1/65,536 byte at `at_`, and its counters. -/
structure Policer where
  mode : Nat := 0
  aware : Bool := false
  cir : Nat := 0xFFFFFF
  pir : Nat := 0xFFFFFF
  cbs : Nat := 0
  ebs : Nat := 0
  tc : Nat := 0
  te : Nat := 0
  at_ : Nat := 0
  green : Word := 0
  yellow : Word := 0
  red : Word := 0
deriving DecidableEq, Repr

/-- One Ethernet port's gate list (R296, R297): the operational length and base, the entry in force and since when. -/
structure GateList where
  len : Nat := 0
  base : Nat := 0
  idx : Nat := 0
  /-- City time, in ns, at which the entry in force began. -/
  since : Nat := 0
deriving DecidableEq, Repr

structure ShpSt where
  shapers : List (Nat × Shaper) := []
  policers : List (Nat × Policer) := []
  /-- Gate list words: bank (0 admin, 1 operational) times 1024 plus port times 256 plus entry. -/
  gcl : List (Nat × Word) := []
  gates : List (Nat × GateList) := []
deriving DecidableEq, Repr

/-! ## Arrays, beams and calibration (R42 to R73) -/

/-- The arrays beside the `RFP` and `ARR` registers. -/
structure RfSt where
  /-- Weights (R59): sets 0 and 1 keyed by ((bank * 2 + set) * 48 + beam) * 32 + window * 16 + slot with bank 0 shadow and 1 active,
  set 2 keyed by 6144 + window * 16 + slot. -/
  weights : List (Nat × Word) := []
  /-- Calibration factors that runs have measured (R64), per array times 32 plus window times 16 plus slot: real and imaginary part. -/
  factors : List (Nat × (Rat × Rat)) := []
  /-- Receive corrections in use, under the same keys; an array and slot without an entry has none (R64). -/
  corrections : List (Nat × (Rat × Rat)) := []
  /-- Arrays whose calibration has been requested and not started. -/
  calPending : List Nat := []
  /-- The run in progress: array and start. -/
  calRun : Option (Nat × Nat) := none
  /-- Start of the age of each array's calibration, and the temperature of its last success in 0.25 °C. -/
  calLast : List (Nat × Nat) := []
  calTemp : List (Nat × Int) := []
  /-- Last sample of the die temperature, in 0.25 °C (R474). -/
  dieTemp : Int := 100
  /-- City time, in ns, up to which each array keeps FE_TXEN after its last transmission, at which FE_RXEN may be active again, at which its
  last transmission ended, and up to which transmissions that are over blank it; 0 when the array is not involved (R49, R50, R72). -/
  txOff : List (Nat × Nat) := []
  rxOn : List (Nat × Nat) := []
  lastEnd : List (Nat × Nat) := []
  blankEnd : List (Nat × Nat) := []
deriving DecidableEq, Repr

/-! ## Search, lanes and the Crossroads (R74 to R102, R479 to R481) -/

/-- A detection that has been decided and not committed (R84). Points 0 to 8,191 are listening points; 8,192 + k is the acknowledgement
point of stream k. -/
structure Det where
  id : Nat
  point : Nat
  mode : Nat
  strength : Int
  metric : Nat
  timing : Int
  cfo : Int
  at_ : Nat
deriving DecidableEq, Repr

/-- The equaliser of a lane (R92): 12 feed-forward taps half a symbol apart, 6 feedback taps a symbol apart, and the last 6 decided symbols,
newest first; all three are empty while no such equaliser is in use. Of SUN OFDM (`ofdm`): each subcarrier's estimate from the long training
field, as the sum of sample times conjugate of the known symbol and the sum of its power; and the same two sums over the pilots of the OFDM
symbol in progress, against what the estimates make of them. -/
structure Equaliser where
  ff : List (Rat × Rat) := []
  fb : List (Rat × Rat) := []
  past : List (Rat × Rat) := []
  ofdm : Bool := false
  subs : List (Nat × (Rat × Rat) × Rat) := []
  pilots : (Rat × Rat) × Rat := ((0, 0), 0)
  inPilots : Bool := false
deriving DecidableEq, Repr

/-- A lane (R86): `state` is its state code below OFFLINE; the rest holds what it receives. -/
structure Lane where
  state : Nat := 0
  point : Nat := 0
  beam : Nat := 0
  /-- Index of the mode byte in use, the byte itself and its family. -/
  mode : Nat := 0
  byte : Nat := 0
  fam : Nat := 0
  reserve : Bool := false
  det : Nat := 0
  strength : Int := 0
  /-- Symbol timing and carrier estimate of the detection it holds. -/
  timing : Int := 0
  cfo : Int := 0
  /-- Start of the SFD limit. -/
  since : Nat := 0
  /-- What the point named at the commit: the words of its profile, the centre (125 Hz) and the width code of its channel. -/
  prof : List Word := []
  centre : Nat := 0
  width : Nat := 0
  eq : Equaliser := {}
  /-- From the PHR: PSDU length, 2-octet FCS, MCS or rate mode, FEC. -/
  len : Nat := 0
  fcs2 : Bool := false
  mcs : Nat := 0
  fec : Bool := false
  /-- City time, in ns, at which the SFD ended at the pins (the receive timestamp), and at which the PSDU did. -/
  time : Nat := 0
  ends : Nat := 0
  /-- Power of the decided symbols of the PSDU and of the error against them (R96). -/
  sig : Rat := 0
  err : Rat := 0
  /-- RSSI over the PSDU in 0.5 dB, and Q, from the check. -/
  rssi : Int := 0
  q : Nat := 0
deriving DecidableEq, Repr

/-- The match key of R95: source (kind and value), counter or DSN (kind and value), MIC or FCS, length. -/
structure MatchKey where
  srcKind : Nat
  src : Nat
  cntKind : Nat
  cnt : Nat
  check : Word
  len : Nat
deriving DecidableEq, Repr

/-- A copy's quality, beam and point (R97), and its receive timestamp in ns of city time. -/
structure Copy where
  q : Nat
  beam : Nat
  point : Nat
  time : Nat
deriving DecidableEq, Repr

/-- An open merge entry (R98). `learn` is the key that learning uses: the PAN slot and the source, when the frame was accepted. -/
structure XrdEntry where
  id : Nat
  key : MatchKey
  openedAt : Nat
  rxTime : Nat
  best : Copy
  /-- The best copy of an earlier transmission that this one retries (R99). -/
  prior : Option Copy
  /-- PAN slot plus 1 and source of the frame, for learning; 0 while the link layer has not accepted it. -/
  pan : Nat
  ord : Nat
  /-- The EUI-64 of an accepted join frame, plus 1. -/
  join : Nat
deriving DecidableEq, Repr

/-- A key of the recent-key memory (R99). -/
structure RecentKey where
  id : Nat
  key : MatchKey
  openedAt : Nat
  rxTime : Nat
  best : Copy
deriving DecidableEq, Repr

/-- The first detection of a point with which later ones are compared (R82): its number, instant, metric and mode, and whether it was lost
under R90. -/
structure FirstDet where
  det : Nat
  at_ : Nat
  metric : Nat
  mode : Nat
  lost : Bool := false
deriving DecidableEq, Repr

structure RxSt where
  /-- Listening points: key 2 * point + word. -/
  lp : List (Nat × Word) := []
  /-- Profiles: key 4 * profile + word. -/
  prof : List (Nat × Word) := []
  /-- Statistics: key 16 * point + index. -/
  stat : List (Nat × Word) := []
  lanes : List (Nat × Lane) := []
  dets : List Det := []
  nextDet : Nat := 1
  /-- The first detection of each point, for R82. -/
  firsts : List (Nat × FirstDet) := []
  xrd : List XrdEntry := []
  recent : List RecentKey := []
  nextXrd : Nat := 1
  /-- The cluster that is closed to commits before Yarrow takes it. -/
  closing : Option Nat := none
deriving DecidableEq, Repr

/-! ## Link layer (R132 to R164) -/

/-- A replay record (R150). Keys are named by their fingerprint plus 1; 0 is none. -/
structure ReplayRec where
  key : Nat := 0
  prev : Nat := 0
  ctr : Nat := 0
  dsn : Nat := 0
  mic32 : Word := 0
  valid : Bool := false
  /-- Made from an incoming checkpoint: its DSN and MIC prefix match no frame (R195). -/
  noMatch : Bool := false
deriving DecidableEq, Repr

/-- A neighbour entry (R140) and what the chip keeps beside it. -/
structure Nbr where
  valid : Bool := false
  pan : Nat := 0
  node : Nat := 0
  state : Nat := 0
  sleepy : Bool := false
  misses : Nat := 0
  short : Nat := 0
  profile : Nat := 0
  power : Nat := 0
  txMode : Nat := 0
  txMcs : Nat := 0
  txFec : Bool := false
  preamble : Nat := 0
  livePeriod : Nat := 0
  drift : Nat := 0
  syncS : Nat := 0
  syncNs : Nat := 0
  dupReacked : Nat := 0
  replay : Nat := 0
  be : Nat := 0
  bw : Nat := 0
  dsn : Nat := 0
  link : ReplayRec := {}
  other : ReplayRec := {}
  /-- Last accepted DSN of an unsecured PAN and its instant (R151). -/
  unsec : Option (Nat × Nat) := none
  /-- From when the next miss is counted (R143), and when the entry became LOST (R145). -/
  missFrom : Nat := 0
  lostAt : Nat := 0
  /-- Highest outgoing counter assigned for it under its link key, plus 1 (R39). -/
  highest : Nat := 0
  /-- Fingerprint, plus 1, of the key it was assigned under. -/
  hiKey : Nat := 0
deriving DecidableEq, Repr

/-- A received frame with the metadata of the lane that received it (R94): beam, point and lane, centre (125 Hz) and width code of the channel,
family, mode byte, MCS or rate mode and FEC, PSDU length and 2-octet FCS, RSSI in 0.5 dB, Q, carrier offset in Hz, receive timestamp and
end of the PSDU at the pins in ns of city time; and the merge entry that it opened. -/
structure RxCtx where
  frame : RxFrame
  beam : Nat
  point : Nat
  lane : Nat
  centre : Nat
  width : Nat
  fam : Nat
  mode : Nat
  mcs : Nat
  fec : Bool
  psdu : Nat
  fcs2 : Bool
  rssi : Int
  q : Nat
  cfo : Int
  time : Nat
  ends : Nat
  xrd : Nat
deriving DecidableEq, Repr

/-- A join cache entry (R162). -/
structure JoinEnt where
  eui : Nat
  dsn : Nat
  at_ : Nat
  beam : Nat
  q : Nat
deriving DecidableEq, Repr

/-- What a key is for: the link key of a neighbour, a PAN's join key, one of its two group positions, a partition's KEK, a DERIVE key. -/
inductive KeyRole where
  | link (n : Nat)
  | join (p : Nat)
  | group (p pos : Nat)
  | kek (part : Nat)
  | derive (d : Nat)
deriving DecidableEq, Repr

/-- An Enh-Ack that is to be sent (R152, R120): its receiver, content, and the instants of the frame it answers. -/
structure EnhAck where
  id : Nat
  /-- Neighbour index, none for a join frame. -/
  nbr : Option Nat
  pan : Nat
  dsn : Option Nat
  nack : Bool
  correction : Int
  level : Nat
  /-- Role and fingerprint of the key slot pair that verified the frame, whose ENC slot secures it; none and 0 where it is unsecured. -/
  role : Option KeyRole
  key : Nat
  /-- Merge entry whose best copy gives the beam. -/
  xrd : Nat
  beam : Nat
  /-- Centre (125 Hz) and width code of the channel the frame came on, and its mode byte and family. -/
  centre : Nat
  width : Nat
  mode : Nat
  family : Nat
  power : Nat
  /-- City time, in ns, of its first symbol, and its duration. -/
  start : Nat
  air : Nat
  /-- Its MAC header; the Frame Pending bit is set when the beam is fixed. -/
  hdr : MacHdr
deriving DecidableEq, Repr

structure LinkSt where
  nbrs : List (Nat × Nbr) := []
  /-- Assigned short addresses: key pan * 65536 + address, value 1. -/
  assigned : List (Nat × Nat) := []
  /-- Quarantined addresses: same key, release in city seconds plus 1. -/
  quar : List (Nat × Nat) := []
  /-- The PAN ID a slot's quarantine list belongs to, plus 1. -/
  quarId : List (Nat × Nat) := []
  joins : List JoinEnt := []
  /-- Instants of the join frames taken in the last second, per PAN. -/
  joinRate : List (Nat × List Nat) := []
  /-- DSN of each PAN's broadcast frames (R155). -/
  bDsn : List (Nat × Nat) := []
  /-- When the AIR holdover began. -/
  holdSince : Nat := 0
  /-- Enh-Acks scheduled and not yet fixed. -/
  acks : List EnhAck := []
  nextAck : Nat := 1
deriving DecidableEq, Repr
/-! ## Slot engine (R103 to R131) -/

/-- An attempt that has been admitted (R116) and is not resolved. -/
structure Attempt where
  id : Nat
  queue : Nat
  frame : Nat
  nbr : Option Nat
  pan : Nat
  dsn : Nat
  shared : Bool
  timekeeping : Bool
  tpl : Nat
deriving DecidableEq, Repr

/-- An acknowledgement point (R119): stream, attempt, channel and the city times, in ns, between which it searches. -/
structure AckPt where
  stream : Nat
  attempt : Nat
  beam : Nat
  centre : Nat
  width : Nat
  profile : Nat
  open_ : Bool
  stopped : Bool
  from_ : Nat
  until_ : Nat
  /-- End of the acknowledgement interval of R117. -/
  busyTo : Nat
deriving DecidableEq, Repr

/-- A DOZE receive window (R129): array, channel centre (125 Hz), the city times, in ns, between which it searches, and whether it is
open. -/
structure RxWin where
  array : Nat
  centre : Nat
  from_ : Nat
  until_ : Nat
  open_ : Bool
deriving DecidableEq, Repr

/-- One engine: when it was disabled, when its probation began, and whether a good BIST waits for the next boundary. -/
structure EngineSt where
  since : Nat := 0
  probFrom : Nat := 0
  ready : Bool := false
  /-- Its probation has matched for 60 s and waits for the revert boundary. -/
  revert : Bool := false
deriving DecidableEq, Repr

/-- A cell of a slot: its slotframe, its depth index, its words. -/
structure Cell where
  sf : Nat
  num : Nat
  w0 : Word
  w1 : Word
deriving DecidableEq, Repr

/-- A timing template (R106), in µs. -/
structure Tpl where
  txOffset : Nat
  rxWait : Nat
  ackDelay : Nat
  ackWait : Nat
  maxTx : Nat
  maxAck : Nat
deriving DecidableEq, Repr

/-- What a preparation has read for a slot (R110, R113, R114): the slot, the cells in use of the enabled slotframes, those slotframes with
their length and template, and the templates. -/
structure SlotSnap where
  n : Nat
  cells : List Cell
  sfs : List (Nat × Nat × Nat)
  tpls : List Tpl
deriving DecidableEq, Repr

structure SlotSt where
  /-- Cells: key 2 * cell + word. -/
  cells : List (Nat × Word) := []
  /-- Hop lists: key 512 * sequence + index. -/
  hops : List (Nat × Nat) := []
  /-- `START` accepted: the ASN of the first slot. -/
  startAsn : Option Nat := none
  /-- Epoch, slot length and preparation lead, in ns, that a start has taken and the engine keeps. -/
  grid : Option (Nat × Nat × Nat) := none
  stopping : Bool := false
  /-- The current slot, counted from the epoch without the wrap of the ASN. -/
  cur : Nat := 0
  /-- The ASN whose preparation point has passed and whose boundary has not, plus 1. -/
  prepared : Nat := 0
  /-- What the preparations of the last slots have read, the latest first. -/
  snaps : List SlotSnap := []
  /-- When the last slot boundary fell. -/
  boundaryAt : Nat := 0
  attempts : List Attempt := []
  nextAttempt : Nat := 1
  nextTx : Nat := 1
  acks : List AckPt := []
  wins : List RxWin := []
  engA : EngineSt := {}
  engB : EngineSt := {}
deriving DecidableEq, Repr
/-! ## Keys (R165 to R201) -/

/-- The content of one key slot (R172, R188): attribute (1 ENC, 2 DEC, 3 WRAP, 4 DERIVE; 0 none), key and check value. -/
structure SlotWord where
  attr : Nat := 0
  key : Nat := 0
  crc : Word := 0
deriving DecidableEq, Repr

/-- A key of the cache: its role and first slot number; a frame key takes the ENC slot and the DEC slot after it, a WRAP or DERIVE key one slot
(R173). `fp` is the fingerprint plus 1. -/
structure KeySlot where
  role : KeyRole
  slot : Nat
  /-- A 256-bit key. -/
  long : Bool
  fp : Nat
  part : Nat
  keyId : Nat
  /-- Store position it was loaded from plus 1, or 0; DERIVE number it was derived from plus 1, or 0. -/
  pos : Nat
  derived : Nat
  used : Nat
  /-- The slots hold the key; a pinned key that was erased keeps its entry and reloads on its next need (R189). -/
  loaded : Bool
  /-- Content of its first slot, and of the DEC slot of a frame key. -/
  a : SlotWord
  b : SlotWord
deriving DecidableEq, Repr

/-- A counter entry (R190, R191): `cp` is its last written outgoing checkpoint, `record` its counter record, `inn` the frames
accepted since its incoming checkpoint was written. -/
structure CtrEntry where
  bound : Bool := false
  fp : Nat := 0
  n : Nat := 0
  warned : Bool := false
  keyId : Nat := 0
  part : Nat := 0
  cp : Nat := 0
  record : Nat := 0
  inn : Nat := 0
deriving DecidableEq, Repr

/-- A counter record of MRAM (R192): fingerprint plus 1, outgoing and incoming checkpoints; 0 while it is bound, else its place in the
order of unbinding. -/
structure CtrRec where
  fp : Nat := 0
  out : Nat := 0
  inn : Option Nat := none
  bound : Bool := false
  unbound : Nat := 0
deriving DecidableEq, Repr

/-- A load that has been requested (R184, R185): class 0 receive, 1 transmit, 2 prefetch. -/
structure KeyLoad where
  cls : Nat
  role : KeyRole
  at_ : Nat
deriving DecidableEq, Repr

/-- A received secured frame that waits for its key: the frame, how it was heard, and when. -/
structure RxWait where
  role : KeyRole
  rx : RxCtx
  at_ : Nat
deriving DecidableEq, Repr

/-- A GROUP_ROLL accepted and not carried out. -/
structure Roll where
  cmd : CmdDesc
  pan : Nat
  grace : Nat
deriving DecidableEq, Repr

structure KeySt where
  slots : List KeySlot := []
  uses : Nat := 0
  /-- Wrapped-key store (R179): position to 64 octets; none is no blob. -/
  store : List (Nat × List Byte) := []
  /-- Positions whose blob lies in DRAM with an uncorrectable error (R371). -/
  badBlobs : List Nat := []
  ctrs : List (Nat × CtrEntry) := []
  loads : List KeyLoad := []
  /-- The loads that the four key units serve, by unit (R184). -/
  units : List (Nat × KeyLoad) := []
  /-- Prefetches that found the queue full and wait at their source (R185). -/
  later : List KeyRole := []
  waits : List RxWait := []
  rolls : List Roll := []
  /-- End of each PAN's grace period; 0 for none. -/
  grace : List (Nat × Nat) := []
  /-- KEK_SETs whose rewrap runs. -/
  rewraps : List CmdDesc := []
deriving DecidableEq, Repr

/-- What the vault and MRAM keep of the keys: the 256-bit vault secret, the partition KEKs as they stand in MRAM, wrapped under the storage key
(R180), counter records, order of unbinding. -/
structure VaultSt where
  secret : Nat := 0
  /-- A secret has been made: the first boot makes one (R180). -/
  made : Bool := false
  /-- Partition to the 40 octets of its wrapped KEK; none for no KEK. -/
  keks : List (Nat × List Byte) := []
  records : List (Nat × CtrRec) := []
  unbinds : Nat := 0
  /-- When the RTC was last written (R411). -/
  rtcAt : Nat := 0
  /-- A tamper input qualified while the F-die was unpowered: causes to report at the next boot. -/
  tamperAtBoot : Nat := 0
deriving DecidableEq, Repr
/-! ## Directory indexes, prefixes and mesh forwarding (R202 to R254) -/

/-- An index entry (R206). `key` is PAN * 2^64 plus EUI-64 in index A, PAN * 65536 plus short address in index B; `age` orders the
overflow store; `movedAt` is the number of its last move, for `REPEAT`. -/
structure IdxEntry where
  key : Nat
  ord : Nat
  hit : Bool := false
  aged : Bool := false
  age : Nat := 0
  movedAt : Nat := 0
deriving DecidableEq, Repr

/-- One index (R206, R207): entries by position (R214), the two boot seeds, and by bucket its 8-bit move sequence (R211) with the instant after its
last step in K4 ticks plus 1. -/
structure Index where
  ents : List (Nat × IdxEntry) := []
  seqs : List (Nat × Nat × Nat) := []
  seed1 : Word := 0
  seed2 : Word := 0
deriving DecidableEq, Repr

/-- An open iteration (R214): partition, index, the position it has passed up to, its last NEXT and the move count at its opening. -/
structure Iter where
  part : Nat
  idx : Nat
  cursor : Nat
  last : Nat
  moves : Nat
deriving DecidableEq, Repr

/-- A queued or running FLUSH_BY_PORT (R223): the first position it has not visited, records deleted and bindings cleared. -/
structure FlushJob where
  id : Nat
  part : Nat
  port : Nat
  pan : Option Nat
  running : Bool
  pos : Nat
  deleted : Nat
  cleared : Nat
deriving DecidableEq, Repr

structure DirSt where
  a : Index := {}
  b : Index := {}
  /-- Index moves made since reset, and insertions into the overflow stores. -/
  moves : Nat := 0
  ages : Nat := 0
  iters : List Iter := []
  sweepPos : Nat := 0
  flushes : List FlushJob := []
  nextFlush : Nat := 0
  /-- Buckets of index A or B lost to an uncorrectable error and not rebuilt: index, bucket, entries (R371). -/
  lost : List (Nat × Nat × List (Nat × IdxEntry)) := []
  /-- Ordinals whose record lies in DRAM with an uncorrectable error (R371). -/
  bad : List Nat := []
deriving DecidableEq, Repr

/-- A stored prefix (R227): its 128 bits with those beyond `len` 0. -/
structure Prefix where
  bits : Nat
  len : Nat
  owner : Nat
  result : Word
  /-- Mode H: the bucket that holds it. -/
  bucket : Nat
deriving DecidableEq, Repr

structure LpmSt where
  prefixes : List (Nat × Prefix) := []
  /-- Prefixes deleted since the mode H filter was built: length and bits. -/
  ghosts : List (Nat × Nat) := []
  rebuilding : Bool := false
  /-- Ghosts at the start of the rebuild. -/
  ghostsAt : Nat := 0
deriving DecidableEq, Repr

/-- A reassembly context (R238). -/
structure Reasm where
  pan : Nat
  src : Nat
  size : Nat
  tag : Nat
  start : Nat
  /-- The cells that its fragments hold. -/
  chain : List Nat
  parts : List (Nat × List Byte)
deriving DecidableEq, Repr

/-- A flood that the chip transmits (R249): its frame, class, Trickle interval in K4 ticks and its start, the instant t in it
while it has not passed, consistent
copies heard, intervals left, whether the frame is queued or a first transmission has been sent, and who sent it. -/
structure Flood where
  n : Nat
  pan : Nat
  cls : Nat
  seed : Nat
  seq : Nat
  bytes : List Byte
  interval : Nat
  start : Nat
  instant : Option Nat
  heard : Nat
  left : Nat
  doublings : Nat
  sent : Bool
  chain : List Nat
  origin : Origin
  /-- It is forwarded: the chip has not seeded it. -/
  relay : Bool
deriving DecidableEq, Repr

structure MeshSt where
  /-- Compression contexts: key (pan * 16 + context) * 4, plus 0 for bits 63 to 32, 1 for bits 31 to 0, 2 for the configuration. -/
  ctx : List (Nat × Word) := []
  reasm : List Reasm := []
  fragTag : List (Nat × Nat) := []
  /-- Seen cache: key (pan * 65536 + seed) * 256 + sequence to expiry in K4 ticks. -/
  seen : List (Nat × Nat) := []
  /-- Elimination cache: key (pan * 2^19 + ordinal) * 65536 + sequence to expiry. -/
  twins : List (Nat × Nat) := []
  /-- Per PAN the next seed in rotation; per PAN and seed its next sequence; use instants (plus 1) of seed and sequence. -/
  seedTurn : List (Nat × Nat) := []
  seedSeq : List (Nat × Nat) := []
  seedUsed : List (Nat × Nat) := []
  floods : List Flood := []
  nextFlood : Nat := 1
deriving DecidableEq, Repr
/-! ## The state -/

/-- The machine. `regs` is the register file (one key per register, `RegMap`); `now` counts K4 ticks; `free` is the model's own
counter of free values taken; `pending` is the queue of commands that wait, first in first out. -/
structure State where
  regs : List (Nat × Word)
  now : Nat
  free : Nat
  pass : PassSt
  host : HostSt
  eth : EthSt
  time : TimeSt
  safe : SafeSt
  log : LogSt
  save : SaveSt
  pwr : PwrSt
  boot : BootSt
  bist : BistSt
  /-- Command descriptors that the F-die has taken into their families and not run yet (R323). -/
  cmds : List CmdDesc
  ends : EndSt
  ndir : List (Nat × NodeRec)
  cvn : CvnSt
  cvnIds : CvnIds
  air : List AirTx
  qmg : QmgSt
  shp : ShpSt
  rf : RfSt
  rx : RxSt
  link : LinkSt
  slot : SlotSt
  key : KeySt
  vault : VaultSt
  dir : DirSt
  lpm : LpmSt
  mesh : MeshSt
  pending : List Instr
deriving DecidableEq, Repr

/-- Why the machine stops. No rule of the spec stops the block, so nothing raises it: every command has a next state. -/
inductive Fault where
  /-- Raised by no meaning. Safe: no behaviour of the hardware is replaced by it. -/
  | none
deriving DecidableEq, Repr

/-- Why a command is refused. -/
inductive Refusal where
  /-- Raised by an arm of `exec` whose command has no meaning yet, by its mnemonic. Safe: the model says nothing. -/
  | notModelled (mnemonic : String)
deriving DecidableEq, Repr

/-- Event routes at reset: `EN` 1 for every source in partition 0 (R330). -/
def routeReset : List (Nat × Nat) := (List.range 128).map (fun i => (i, 1))

/-- The machine right after power-on reset, before the boot: every register at the value its table gives. -/
def State.reset : State where
  regs := regReset
  now := 0
  free := 0
  pass := {}
  host := { route := routeReset }
  eth := {}
  time := {}
  safe := {}
  log := {}
  save := {}
  pwr := {}
  boot := {}
  bist := {}
  cmds := []
  ends := {}
  ndir := []
  cvn := {}
  cvnIds := {}
  air := []
  qmg := {}
  shp := {}
  rf := {}
  rx := {}
  link := {}
  slot := {}
  key := {}
  vault := {}
  dir := {}
  lpm := {}
  mesh := {}
  pending := []

end Sys2Proof.Machine
end

