-- ==== Sys2Proof/Machine/Ops.lean ====
section
/-! DEFINITION. The named operations over the state that every family uses: the register file, time, free values, host memory,
rings, interrupt vectors, the Pass, events, completions. -/

namespace Sys2Proof.Machine

/-! ### Register file -/

/-- The stored word of a register. -/
def State.rd (s : State) (k : Nat) : Word := aget 0 k s.regs

/-- Stores a register word. -/
def State.wr (s : State) (k : Nat) (v : Word) : State := { s with regs := aset 0 k v s.regs }

/-- A field of a register. -/
def State.fld (s : State) (k : Nat) (f : Fld) : Nat := fget f (s.rd k)

/-- A one-bit field as a Bool. -/
def State.flag (s : State) (k : Nat) (f : Fld) : Bool := s.fld k f != 0

/-- Stores one field, leaving the register's other bits. -/
def State.setFld (s : State) (k : Nat) (f : Fld) (x : Nat) : State := s.wr k (fset f (s.rd k) x)

/-- Counts one in a saturating 32-bit counter (R439, RC counters). -/
def State.bump (s : State) (k : Nat) : State := s.wr k (satInc (s.rd k))

/-- Counts `n` in a saturating 32-bit counter. -/
def State.bumpBy (s : State) (k : Nat) (n : Nat) : State := s.wr k (BitVec.ofNat 32 (satAdd 32 (s.rd k).toNat n))

/-- Counts one in a saturating field. -/
def State.bumpFld (s : State) (k : Nat) (f : Fld) : State := s.setFld k f (satAdd f.w (s.fld k f) 1)

/-! ### Time -/

/-- Microseconds, milliseconds and seconds in K4 ticks of 256 MHz (R24). -/
def us (n : Nat) : Nat := 256 * n
def ms (n : Nat) : Nat := 256000 * n
def sec (n : Nat) : Nat := 256000000 * n

/-- City time in ns (R346). -/
def State.cityNs (s : State) : Nat := s.time.city32 / 32

/-- City time's seconds and nanoseconds. -/
def State.citySec (s : State) : Nat := s.cityNs / 1000000000 % 2 ^ 32
def State.cityNsec (s : State) : Nat := s.cityNs % 1000000000

/-- The descriptor timestamp of an instant in ns (R326). -/
def descTime (ns : Nat) : Word := BitVec.ofNat 32 ns

/-- `SLEW_PPM` as it acts: 1 to 100 (R348, R365). -/
def State.slewPpm (s : State) : Nat := max 1 (min 100 (s.fld R.TMR_SRC F.TMR_SRC_SLEW_PPM))

/-- City time after `dt` K4 ticks: the ticks at 125/32 ns with the rate correction, and the slewing of an offset still open, at no
more than `SLEW_PPM` (R346, R348). What falls below the units of either is kept for the next time. -/
def cityAdvance (t : TimeSt) (ppm dt : Nat) : TimeSt :=
  let adv := 125 * dt
  let lim : Nat := (adv * ppm + t.slewRem) / 32000000
  let n := min lim t.slew.natAbs
  let step : Int := if t.slew < 0 then -(n : Int) else (n : Int)
  let corr : Int := (adv : Int) * t.rate + t.rateRem
  { t with
    city32 := ((t.city32 : Int) + adv + corr / 1000000000000 + 32 * step).toNat
    rateRem := corr % 1000000000000
    slew := t.slew - step
    slewRem := if t.slew = step then 0 else (adv * ppm + t.slewRem) % 32000000 }

/-- Time passes for `dt` K4 ticks. -/
def State.elapse (s : State) (dt : Nat) : State :=
  { s with now := s.now + dt, time := cityAdvance s.time s.slewPpm dt }

/-- Time passes up to an instant that has not been reached yet. -/
def State.advanceTo (s : State) (t : Nat) : State := s.elapse (t - s.now)

/-- Time passes up to a city time in ns. City time is approached twice to within 1 in 1,000 of what is left, so that the slewing and the rate
correction on the way do not miss the instant. -/
def State.toNs (s : State) (t : Nat) : State :=
  let near (s : State) : State := s.elapse ((32 * t - s.time.city32) / 125 * 999 / 1000)
  let s1 := near (near s)
  s1.elapse ((32 * t - s1.time.city32 + 124) / 125)

/-- City time as the H-die's copy holds it. Once a TIME_SYNC has set it, it equals F-die city time at every instant while the Pass is up
(R23); after a loss of the Pass clock it counts on at the rate of the local clock, whose error is below 300 ppm (R26). -/
def State.hCityNs (s : State) : Nat :=
  if s.pass.hFollow then ((s.cityNs : Int) + s.pass.hOff).toNat
  else
    let ns := (s.now - s.pass.hTimeAt) * 125 / 32
    let e := Config.hrefPpb.natAbs % 300001 * ns / 1000000000
    s.pass.hTime + (if Config.hrefPpb < 0 then ns - e else ns + e)

/-! ### Free values -/

/-- The next free value: nothing constrains it. -/
def State.free! (s : State) : Nat × State := (Config.freeVal s.free, { s with free := s.free + 1 })

/-- The next free value below `n` (for `n` above 0). -/
def State.draw (s : State) (n : Nat) : Nat × State := (Config.freeVal s.free % n, { s with free := s.free + 1 })

/-! ### Host memory (R308, R313) -/

/-- Key of an octet of a partition's host memory. -/
def memKey (p addr : Nat) : Nat := p * 2 ^ 64 + addr % 2 ^ 64

/-- One octet of host memory; an octet nothing has written reads 0 (log entry 5). -/
def State.memByte (s : State) (p addr : Nat) : Byte := aget 0 (memKey p addr) s.host.mem

/-- `n` octets of host memory from an address. -/
def State.memBytes (s : State) (p addr : Nat) : Nat → List Byte
  | 0 => []
  | n + 1 => s.memByte p addr :: State.memBytes s p (addr + 1) n

/-- A 32-bit word of host memory, least significant octet first (R7). -/
def State.memWord (s : State) (p addr : Nat) : Word := BitVec.ofNat 32 (leNat (s.memBytes p addr 4))

/-- Octets written to host memory, over the list of cells. -/
def memPut (p addr : Nat) : List Byte → List (Nat × Byte) → List (Nat × Byte)
  | [], m => m
  | b :: bs, m => memPut p (addr + 1) bs (aset 0 (memKey p addr) b m)

/-- Octets written to host memory. -/
def State.memWrite (s : State) (p addr : Nat) (bs : List Byte) : State :=
  { s with host := { s.host with mem := memPut p addr bs s.host.mem } }

/-! ### Rings (R310, R311) -/

/-- Key of a partition's ring. -/
def ringKey (p r : Nat) : Nat := p * 64 + r

/-- A partition is mapped to a port by `ACTIVE` of `PART_MAP` (R304). -/
def State.mapped (s : State) (p : Nat) : Bool := s.fld R.PART_MAP F.PART_MAP_ACTIVE / 4 ^ p % 4 < 2

/-- `SIZE` of a ring; 0 while it is disabled, or its partition is mapped to no port and has no rings (R304). -/
def State.ringSize (s : State) (p r : Nat) : Nat := if s.mapped p then s.fld (R.RING_CFG r p) F.RING_CFG_SIZE else 0

/-- Base address of a ring. -/
def State.ringBase (s : State) (p r : Nat) : Nat :=
  (s.rd (R.RING_BASE_HI r p)).toNat * 2 ^ 32 + (s.rd (R.RING_BASE_LO r p)).toNat / 64 * 64

/-- The chip's index and the host's index of a ring (`RING_rSTATE`). -/
def State.ringChip (s : State) (p r : Nat) : Nat := s.fld (R.RING_STATE r p) F.RING_STATE_CHIP
def State.ringHost (s : State) (p r : Nat) : Nat := s.fld (R.RING_STATE r p) F.RING_STATE_HOST

/-- Occupancy of a ring from its producer and consumer indices (R311). -/
def occupancy (producer consumer : Nat) : Nat := (producer + 65536 - consumer % 65536) % 65536

/-- A ring that the chip writes has a free entry. -/
def State.ringRoom (s : State) (p r : Nat) : Bool :=
  s.ringSize p r != 0 && occupancy (s.ringChip p r) (s.ringHost p r) < 2 ^ s.ringSize p r - 1

/-- Address of the slot of an index (R311). -/
def State.ringSlot (s : State) (p r i : Nat) : Nat := s.ringBase p r + 32 * (i % 2 ^ s.ringSize p r)

/-- `PHASE` of the next record of a ring: 1 on the first pass, inverted on each later pass (R321). -/
def State.ringPhase (s : State) (p r : Nat) : Nat :=
  (aget 0 (ringKey p r) s.host.written / 2 ^ s.ringSize p r + 1) % 2

/-- Writes a record into the chip's next slot of a ring and moves the chip's index on. -/
def State.ringPut (s : State) (p r : Nat) (ws : List Word) : State :=
  let s1 := s.memWrite p (s.ringSlot p r (s.ringChip p r)) (wordsBytes ws)
  let s2 := { s1 with host := { s1.host with written := amod 0 (ringKey p r) (· + 1) s1.host.written } }
  s2.setFld (R.RING_STATE r p) F.RING_STATE_CHIP ((s.ringChip p r + 1) % 65536)

/-! ### Interrupt vectors (R330) -/

/-- Key of a partition's vector. -/
def vecKey (p v : Nat) : Nat := p * 32 + v

/-- A vector sends its MSI-X message, its PBA bit clears and its hold-off starts. -/
def State.vecFire (s : State) (p v : Nat) : State :=
  { s with host := { s.host with
      fired := amod 0 (vecKey p v) (· + 1) s.host.fired
      pba := aset 0 (vecKey p v) 0 s.host.pba
      holdoff := aset 0 (vecKey p v)
        (let h := s.fld (R.EVT_HOLDOFF v p) F.EVT_HOLDOFF_HOLDOFF
         if h = 0 then 0 else s.now + us h) s.host.holdoff } }

/-- A vector may send its message: MSI-X is enabled and the table leaves the vector unmasked (R306, R330). -/
def State.vecOpen (s : State) (p v : Nat) : Bool := aget 0 p s.host.msixOn != 0 && aget 0 (vecKey p v) s.host.unmasked != 0

/-- A trigger of a vector: fires it, or sets its PBA bit while it is masked, MSI-X is not enabled (log entry 105), or it is inside its hold-off. -/
def State.vecTrigger (s : State) (p v : Nat) : State :=
  if !s.vecOpen p v || s.now < aget 0 (vecKey p v) s.host.holdoff then
    { s with host := { s.host with pba := aset 0 (vecKey p v) 1 s.host.pba } }
  else s.vecFire p v

/-- The vector of an RX ring or the completion ring, when `IRQ_EN` is 1. -/
def State.ringSignal (s : State) (p r : Nat) : State :=
  if s.flag (R.RING_CFG r p) F.RING_CFG_IRQ_EN then s.vecTrigger p (s.fld (R.RING_CFG r p) F.RING_CFG_VECTOR) else s

/-! ### The Pass: sending (R16 to R18) -/

/-- The direction in which a die sends. -/
def State.txDir (s : State) : Die → PassDir
  | .f => s.pass.fh
  | .h => s.pass.hf

/-- The direction in which a die receives. -/
def State.rxDir (s : State) : Die → PassDir
  | .f => s.pass.hf
  | .h => s.pass.fh

def State.setTxDir (s : State) (d : Die) (x : PassDir) : State :=
  match d with
  | .f => { s with pass := { s.pass with fh := x } }
  | .h => { s with pass := { s.pass with hf := x } }

def State.setRxDir (s : State) (d : Die) (x : PassDir) : State :=
  match d with
  | .f => { s with pass := { s.pass with hf := x } }
  | .h => { s with pass := { s.pass with fh := x } }

/-- Header word 0x0 of a message (R16). -/
def passWord0 (typ : Nat) (m : PassMsg) : Word :=
  BitVec.ofNat 32 (typ % 256 + m.part % 4 * 2 ^ 8 + (if m.guard then 2 ^ 10 else 0) + m.len % 2 ^ 16 * 2 ^ 16)

/-- The `CRC` a message of a type must carry (R16). -/
def passCrc (typ : Nat) (m : PassMsg) : Word := crc32 (wordsBytes ([passWord0 typ m, m.seq, m.ack] ++ m.payload))

/-- Octets of a message: the 16-octet header and the payload padded to a multiple of 4 (R16). -/
def passBytes (m : PassMsg) : Nat := 16 + (m.len + 3) / 4 * 4

/-- Messages that wait enter the retry buffer in order while its 64 KiB have room (R27). -/
def passFill (retry : List PassMsg) : List PassMsg → List PassMsg × List PassMsg
  | [] => (retry, [])
  | m :: ms => if ((retry ++ [m]).map passBytes).sum ≤ 65536 then passFill (retry ++ [m]) ms else (retry, m :: ms)

/-- A direction after its waiting messages have taken what room the retry buffer has. -/
def PassDir.fill (x : PassDir) : PassDir := { x with retry := (passFill x.retry x.waiting).1, waiting := (passFill x.retry x.waiting).2 }

/-- A message as it goes on the wire at this instant: the F-die's TIME_SYNC carries city time of the start of its header (R23). -/
def State.passStamp (s : State) (d : Die) (m : PassMsg) : PassMsg :=
  if d = Die.f ∧ m.typ = 0x0A then { m with payload := [BitVec.ofNat 32 s.citySec, BitVec.ofNat 32 s.cityNsec, 0, 0] } else m

/-- A die sends a message: it takes the next `SEQ` and goes into the retry buffer, where it stays until it is acknowledged, or waits for
room in it. `ACKSEQ` and `CRC` are put in as it goes on the wire (`passWire`). -/
def State.passSend (s : State) (d : Die) (typ part : Nat) (guard : Bool) (len : Nat) (payload : List Word) : State :=
  let x := s.txDir d
  s.setTxDir d (PassDir.fill { x with
    next := x.next + 1
    waiting := x.waiting ++ [⟨typ, part, guard, len, x.next, 0, 0, payload⟩]
    progress := if x.retry.isEmpty then s.now else x.progress })

/-- Every message a die has sent has been accepted by the other die, so that the next one is acted on as it arrives (R20). -/
def State.passClear (s : State) (d : Die) : Bool :=
  let x := s.txDir d
  s.flag R.PASS_STATUS F.PASS_STATUS_UP && x.rx = x.next && x.waiting.isEmpty && !x.discarding

/-- A message that finds every earlier one of its direction accepted crosses the Pass at once and is acknowledged: it has taken its `SEQ`
and leaves nothing in the retry buffer. -/
def State.passCross (s : State) (d : Die) : State :=
  let x := s.txDir d
  s.setTxDir d { x with next := x.next + 1, rx := x.rx + 1, retry := [], resends := 0, progress := s.now }

/-- A message of the retry buffer as it goes on the wire: with the `ACKSEQ` of the moment and its `CRC`. -/
def State.passWire (s : State) (d : Die) (m : PassMsg) : PassMsg :=
  let m' := { m with ack := (s.rxDir d).rx - 1 }
  { m' with crc := passCrc m.typ m' }

/-- What a partition's last access returned. -/
def State.answer (s : State) (p : Nat) (w : Word) : State :=
  { s with host := { s.host with readData := aset 0 p w s.host.readData } }

/-- REG_RSP at the H-die: the tag and the data go to the host access that waits for them (R14, R447), or to its lower word (R308). -/
def State.rspTake (s : State) (p tag : Nat) (w : Word) : State :=
  if aget 0 p s.host.readTag = tag + 1 then
    { s.answer p w with host := { (s.answer p w).host with readTag := aset 0 p 0 s.host.readTag } }
  else if aget 0 p s.host.readLowTag = tag + 1 then
    { s with host := { s.host with readLow := aset 0 p w s.host.readLow, readLowTag := aset 0 p 0 s.host.readLowTag } }
  else s

/-- The F-die answers a register read (R14, R20): REG_RSP crosses the Pass behind every earlier message of the F-die. -/
def State.regRsp (s : State) (p tag : Nat) (w : Word) : State :=
  if s.passClear .f then (s.passCross .f).rspTake p tag w else s.passSend .f 0x09 p false 8 [BitVec.ofNat 32 tag, w]

/-! ### Events (R327 to R330) -/

/-- The payload of an EVENT message raised at a city time: the record of R327 without `PHASE`, `LOST` and `SEQ`, and in word 0x18 the partitions it is
always delivered to (PRESUMED layout, log entry 4). -/
def evtWords (ns src mask : Nat) (p0 p1 p2 : Word) : List Word :=
  [BitVec.ofNat 32 (src % 128), p0, p1, p2, BitVec.ofNat 32 (ns / 1000000000), BitVec.ofNat 32 (ns % 1000000000), BitVec.ofNat 32 (mask % 16), 0]

/-- An event raised on the F-die crosses the Pass as EVENT. -/
def State.evtF (s : State) (src mask : Nat) (p0 p1 p2 : Word) : State :=
  s.passSend .f 6 0 false 32 (evtWords s.cityNs src mask p0 p1 p2)

/-- Key of a partition's route of a source. -/
def routeKey (p src : Nat) : Nat := p * 128 + src

/-- The record of an event in a partition's event ring, or its drop (R327, R328). -/
def State.evtWrite (s : State) (p : Nat) (ws : List Word) : State :=
  let seq := aget 0 p s.host.evtSeq
  let s1 := { s with host := { s.host with evtSeq := aset 0 p ((seq + 1) % 65536) s.host.evtSeq } }
  if s.ringRoom p 34 then
    let src := (wordAt ws 0).toNat % 128
    let w0 := BitVec.ofNat 32 (src + s.ringPhase p 34 * 2 ^ 7 + aget 0 p s.host.evtLost * 2 ^ 8 + seq * 2 ^ 16)
    let s2 := s1.ringPut p 34 [w0, wordAt ws 1, wordAt ws 2, wordAt ws 3, wordAt ws 4, wordAt ws 5, 0, 0]
    let s3 := { s2 with host := { s2.host with evtLost := aset 0 p 0 s2.host.evtLost } }
    s3.vecTrigger p (aget 0 (routeKey p src) s.host.route / 2 % 32)
  else
    let s2 := s1.bump (R.EVT_CNT_DROP p)
    { s2 with host := { s2.host with evtLost := aset 0 p 1 s2.host.evtLost } }

/-- An event is delivered to a partition whose `EN` for the source is 1, or that the event names (R329). -/
def State.evtDeliver (s : State) (ws : List Word) (p : Nat) : State :=
  if aget 0 (routeKey p ((wordAt ws 0).toNat % 128)) s.host.route % 2 = 1 || nbit (wordAt ws 6).toNat p then
    s.evtWrite p ws
  else s

/-- The H-die's event router: the event reaches every partition it is due to. -/
def State.evtRoute (s : State) (ws : List Word) : State :=
  [0, 1, 2, 3].foldl (fun s p => s.evtDeliver ws p) s

/-- An event raised on the H-die itself, at the H-die's own city time. -/
def State.evtH (s : State) (src mask : Nat) (p0 p1 p2 : Word) : State := s.evtRoute (evtWords s.hCityNs src mask p0 p1 p2)

/-! ### Completions (R314, R318, R321) -/

/-- Statuses of R325. -/
abbrev stOK : Nat := 0
abbrev stFLUSHED : Nat := 1
abbrev stNO_ROUTE : Nat := 2
abbrev stNBR_LOST : Nat := 3
abbrev stRETRY_EXHAUSTED : Nat := 4
abbrev stKEY_MISS_TIMEOUT : Nat := 5
abbrev stKEY_BAD : Nat := 6
abbrev stKEY_SPENT : Nat := 7
abbrev stROUTE_TOO_DEEP : Nat := 8
abbrev stINSERT_FULL : Nat := 9
abbrev stBAD_PARAM : Nat := 10
abbrev stCONCUR_TIMEOUT : Nat := 11
abbrev stQUEUE_FAULT : Nat := 12
abbrev stGUARD_VIOLATION : Nat := 13
abbrev stPASS_REJECT : Nat := 14
abbrev stQUIET : Nat := 15

/-- Word 0x00 of a completion record, without `PHASE` (R321). -/
def cplWord0 (opcode status tag : Nat) : Word := BitVec.ofNat 32 (opcode % 256 + status % 32 * 2 ^ 8 + tag % 65536 * 2 ^ 16)

/-- A word from a number. -/
abbrev w32 (n : Nat) : Word := BitVec.ofNat 32 n

/-- `CAUSE` and `DETAIL` at 0x18 (R225, R318). -/
def cplCause (cause detail : Nat) : Word := BitVec.ofNat 32 (cause % 256 + detail % 256 * 2 ^ 8)

/-- The five families of the commands (R323), by opcode. -/
def cmdFamily (c : CmdDesc) : Nat := max 1 (min 5 (c.w0.toNat % 256 / 16))

/-- A posting and an image session complete at their end, whatever their family does meanwhile (DESIGN CHOICE, log entry 135). -/
def cmdLoose (c : CmdDesc) : Bool := c.w0.toNat % 256 = 0x38 || c.w0.toNat % 256 = 0x3C

/-- Completion records of a family leave for the H-die in the order in which its commands were taken: those that are done, up to the first command
that is not (R323). -/
def State.cplSend (s : State) (f : Nat) : List CplSlot → State
  | [] => s
  | x :: xs =>
    if cmdFamily x.cmd ≠ f then State.cplSend { s with ends := { s.ends with order := s.ends.order ++ [x] } } f xs
    else match x.done with
      | some ws => State.cplSend (if x.gone then s else s.passSend .f 5 x.cmd.part.val false 32 ws) f xs
      | none => { s with ends := { s.ends with order := s.ends.order ++ x :: xs } }

/-- The record of a command goes into the place that the command has kept, or, of a command that kept none, to the end. -/
def cplMark (c : CmdDesc) (ws : List Word) : List CplSlot → List CplSlot
  | [] => [{ cmd := c, done := some ws }]
  | x :: xs => if x.cmd = c && x.done.isNone then { x with done := some ws } :: xs else x :: cplMark c ws xs

/-- The completion record of a command takes its place in the order of its family (R323). -/
def State.cplOffer (s : State) (c : CmdDesc) (ws : List Word) : State :=
  if cmdLoose c || s.ends.order.all (fun x => cmdFamily x.cmd ≠ cmdFamily c) then s.passSend .f 5 c.part.val false 32 ws
  else State.cplSend { s with ends := { s.ends with order := [] } } (cmdFamily c) (cplMark c ws s.ends.order)

/-- A command takes its place in the order of its family as it arrives, and what is done behind it waits for it. -/
def State.cplOpen (s : State) (c : CmdDesc) : State :=
  if cmdLoose c then s else { s with ends := { s.ends with order := s.ends.order ++ [{ cmd := c }] } }

/-- A command that runs on has a place in the order of its family. -/
def State.cplKeep (s : State) (c : CmdDesc) : State :=
  if s.ends.order.any (fun x => x.cmd = c && x.done.isNone) then s else s.cplOpen c

/-- The completion record of a command: the words 0x04 to 0x14 given, `CAUSE` and `DETAIL` (R321). -/
def cplRecord (c : CmdDesc) (status : Nat) (ws : List Word) (cause detail : Nat) : List Word :=
  [cplWord0 (c.w0.toNat % 256) status (c.w0.toNat / 2 ^ 16), wordAt ws 0, wordAt ws 1, wordAt ws 2, wordAt ws 3, wordAt ws 4,
    cplCause cause detail, 0]

/-- The F-die completes a command with COMPL. -/
def State.cmdDone (s : State) (c : CmdDesc) (status : Nat) (ws : List Word) (cause detail : Nat) : State :=
  let r := s.cplOffer c (cplRecord c status ws cause detail)
  { s with pass := r.pass, ends := r.ends }

/-- A command that runs leaves its family's list. -/
def State.cmdTake (s : State) (c : CmdDesc) : State := { s with cmds := s.cmds.erase c }

/-- No earlier command of its family is still to run (R323). -/
def State.cmdTurn (s : State) (c : CmdDesc) : Bool := (s.cmds.takeWhile (· ≠ c)).all (fun d => cmdFamily d ≠ cmdFamily c)

/-- A command completes OK with result words. -/
def State.cmdOk (s : State) (c : CmdDesc) (ws : List Word) : State := s.cmdDone c stOK ws 0 0

/-- A command completes BAD_PARAM with a cause. -/
def State.cmdBad (s : State) (c : CmdDesc) (cause : Nat) : State := s.cmdDone c stBAD_PARAM [] cause 0

/-- `RING_CPL_RESV` shows the completions still to come (R314), those that wait in the H-die counted. -/
def State.resvSync (s : State) (p : Nat) : State :=
  s.setFld (R.RING_CPL_RESV p) F.RING_CPL_RESV_RESERVED
    ((s.host.fetched.filter (fun f => f.part = p)).length + (s.host.cplWait.filter (fun e => e.1 = p)).length)

/-- A completion record reaches the partition's completion ring, or waits in the H-die while the ring has no room (R312). -/
def State.cplWrite (s : State) (p : Nat) (ws : List Word) : State :=
  if s.ringRoom p 33 && (s.host.cplWait.all (fun e => e.1 ≠ p)) then
    let w0 := wordAt ws 0 + BitVec.ofNat 32 (s.ringPhase p 33 * 2 ^ 13)
    (s.ringPut p 33 (w0 :: ws.drop 1)).ringSignal p 33
  else { s with host := { s.host with cplWait := s.host.cplWait ++ [(p, ws)] } }

/-- A fetched descriptor that a completion record answers: a command by opcode and tag, a transmit by TX ring and index. -/
def cplAnswers (p : Nat) (ws : List Word) (f : Fetched) : Bool :=
  f.part = p && f.opcode = (wordAt ws 0).toNat % 256 &&
    (if f.opcode = 0 then f.index = (wordAt ws 0).toNat / 2 ^ 16 && f.ring = (wordAt ws 3).toNat % 16
     else f.tag = (wordAt ws 0).toNat / 2 ^ 16)

/-- A fetched descriptor completes: it leaves the list of R314 and its record is written. -/
def State.cplEnd (s : State) (p : Nat) (ws : List Word) : State :=
  let s1 := { s with host := { s.host with fetched := s.host.fetched.eraseP (cplAnswers p ws) } }
  (s1.cplWrite p ws).resvSync p

/-- A completion from the F-die. One that was on its way for a descriptor of before, which has completed FLUSHED or whose partition has been reset, is
discarded; the Pass brings it before any for a later descriptor (R20, R317, R331, R332; log entry 75). -/
def State.cplDeliver (s : State) (p : Nat) (ws : List Word) : State :=
  if s.host.stale.any (cplAnswers p ws) then
    { s with host := { s.host with stale := s.host.stale.eraseP (cplAnswers p ws) } }
  else s.cplEnd p ws

/-- The H-die itself completes a descriptor that it has fetched; one that has completed FLUSHED meanwhile is discarded (R331). -/
def State.cplOwn (s : State) (p : Nat) (ws : List Word) : State :=
  if s.host.fetched.any (cplAnswers p ws) then s.cplEnd p ws
  else { s with host := { s.host with stale := s.host.stale.eraseP (cplAnswers p ws) } }

/-- The record of a transmit completion (R318). -/
def txRecord (f : Fetched) (status : Nat) (txTime : Word) (attempts beam : Nat) (twin : Bool) (cause detail : Nat) : List Word :=
  [cplWord0 0 status f.index, f.cookie, txTime,
    w32 (f.ring % 16 + attempts % 32 * 2 ^ 4 + beam % 64 * 2 ^ 9 + (if twin then 2 ^ 15 else 0)), 0, 0, cplCause cause detail, 0]

/-- The F-die completes a transmit descriptor; the completion of one from before a PART reset of its partition is discarded (R332). -/
def State.txDone (s : State) (f : Fetched) (status : Nat) (txTime : Word) (attempts beam : Nat) (twin : Bool) (cause detail : Nat) : State :=
  { s with pass :=
      if f.gen ≠ aget 0 f.part s.ends.gens then s.pass
      else (s.passSend .f 5 f.part false 32 (txRecord f status txTime attempts beam twin cause detail)).pass }

/-- The H-die completes a transmit descriptor itself. -/
def State.txDoneH (s : State) (f : Fetched) (status : Nat) (cause detail : Nat) : State :=
  s.cplOwn f.part (txRecord f status 0 0 63 false cause detail)

/-- The H-die completes a fetched descriptor FLUSHED (R331). -/
def State.flushFetched (s : State) (f : Fetched) : State :=
  if f.opcode = 0 then s.txDoneH f stFLUSHED 0 0
  else s.cplOwn f.part [cplWord0 f.opcode stFLUSHED f.tag, 0, 0, 0, 0, 0, 0, 0]

/-- Every fetched descriptor of every partition completes FLUSHED (R22, R331). -/
def State.flushAllFetched (s : State) : State :=
  let s1 := s.host.fetched.foldl State.flushFetched s
  { s1 with host := { s1.host with stale := s1.host.stale ++ s.host.fetched } }

end Sys2Proof.Machine
end

