-- ==== Sys2Proof/Machine/Arrays.lean ====
section
/-! DEFINITION. Arrays, beams and listening points as the registers and entries name them (R54 to R57, R80), and the pins of the front end
with the power of the converters, which follow from the transmissions, the windows and the power state (R45, R48 to R53, R64, R72, R129). -/

namespace Sys2Proof.Machine

/-! ### Arrays and beams -/

def State.arrOn (s : State) (a : Nat) : Bool := s.flag (R.ARR_CFG a) F.ARR_CFG_ENABLE
def State.arrHigh (s : State) (a : Nat) : Bool := s.flag (R.ARR_CFG a) F.ARR_CFG_CLASS
def State.arrElements (s : State) (a : Nat) : Nat := s.fld (R.ARR_CFG a) F.ARR_CFG_ELEMENTS
def State.beamEn (s : State) (b : Nat) : Bool := b < 48 && s.flag (R.ARR_BEAM b) F.ARR_BEAM_ENABLE
def State.beamArray (s : State) (b : Nat) : Nat := s.fld (R.ARR_BEAM b) F.ARR_BEAM_ARRAY

/-- A beam is active when it and its array are enabled (R57). -/
def State.beamActive (s : State) (b : Nat) : Bool := s.beamEn b && s.arrOn (s.beamArray b)

/-- Windows that an `ARR_CFGa` word uses. -/
def cfgWindows (cfg : Word) : List Nat :=
  if fget F.ARR_CFG_CLASS cfg = 1 then [0] else if fget F.ARR_CFG_WIN1_EN cfg = 1 then [0, 1] else [0]

def State.windows (s : State) (a : Nat) : List Nat := cfgWindows (s.rd (R.ARR_CFG a))

def State.winCentre (s : State) (a w : Nat) : Nat := s.fld (R.ARR_WIN a w) F.ARR_WIN_CENTRE_KHZ

/-! ### Listening points (R80) -/

def State.lpWord (s : State) (p w : Nat) : Word := aget 0 (2 * p + w) s.rx.lp
def State.lpOn (s : State) (p : Nat) : Bool := bitAt (s.lpWord p 0) 0
def State.lpBeam (s : State) (p : Nat) : Nat := bitsAt (s.lpWord p 0) 1 6
def State.lpProfile (s : State) (p : Nat) : Nat := bitsAt (s.lpWord p 0) 8 6
def State.lpWidth (s : State) (p : Nat) : Nat := bitsAt (s.lpWord p 0) 14 4
def State.lpCentre (s : State) (p : Nat) : Nat := bitsAt (s.lpWord p 1) 0 25

/-- The points whose entry names `ENABLE`. -/
def State.lpsOn (s : State) : List Nat := (s.rx.lp.filter (fun e => e.1 % 2 == 0 && bitAt e.2 0)).map (fun e => e.1 / 2)

/-! ### What is on air (R49, R50, R68) -/

/-- The state code in force. -/
def State.pwrState (s : State) : Nat := s.fld R.PWR_STATE F.PWR_STATE_STATE

/-- DOZE applies (R130): `DOZE_ACTIVE` reads 1. -/
def State.doze (s : State) : Bool := s.pwrState = 2

def State.txHold (s : State) : Nat := min 150 (s.fld R.RFP_FE_TIMING F.RFP_FE_TIMING_TX_HOLD)
def State.txLead (s : State) : Nat := s.fld R.RFP_FE_TIMING F.RFP_FE_TIMING_TX_LEAD
def State.trGap (s : State) : Nat := s.fld R.RFP_FE_TIMING F.RFP_FE_TIMING_TR_GAP

/-- A mask with the bits of another cleared. -/
def clearBits (m b : Nat) : Nat := (List.range 16).foldl (fun m i => if nbit b i then clrNbit m i else m) m
def setBits (m b : Nat) : Nat := (List.range 16).foldl (fun m i => if nbit b i then setNbit m i else m) m

/-- A transmission still holds its stream, its pins and its blanking: it is not over, and if it has been cut it is on air up to the symbol
boundary at which it ends (R57, R289) or has been muted (R51). -/
def AirTx.holds (t : AirTx) (now : Nat) : Bool := !t.ended && (!t.cut || (t.started && decide (now < t.tEnd)))

/-- The streams that are occupied, from the first DAC sample to the end (R68): `ARR_STREAM_USE`. -/
def State.streamUse (s : State) : Nat :=
  (s.air.filter (fun t => t.started && t.holds s.cityNs)).foldl (fun m t => setNbit m t.stream) 0

/-- Least time, in ns, between the end of a transmission and the start of the next on its array at which FE_TXEN falls between them (R50). -/
def State.txGapNs (s : State) : Nat := 1000 * (s.txLead + s.txHold + 2 * s.trGap)

/-- A transmission of the array that is still to come joins the last one that ended (R50). -/
def State.txJoined (s : State) (a : Nat) : Bool :=
  let e := aget 0 a s.rf.lastEnd
  e ≠ 0 && s.air.any (fun t => t.array = a && t.holds s.cityNs && decide (t.tStart < e + s.txGapNs))

def State.calibrating (s : State) (a : Nat) : Bool := s.rf.calRun.any (fun r => r.1 = a)

/-- Arrays that an array blanks: itself always. -/
def State.blankMask (s : State) (a : Nat) : Nat := setNbit (s.fld (R.ARR_BLANK a) F.ARR_BLANK_MASK) a

/-- An array is blanked (R72): a transmission whose blanking has begun blanks it, or its interval goes on after the end. -/
def State.blanked (s : State) (a : Nat) : Bool :=
  s.cityNs < aget 0 a s.rf.blankEnd || s.air.any (fun t => t.blk && t.holds s.cityNs && nbit (s.blankMask t.array) a)

/-! ### FE_TXEN, FE_RXEN, FE_BYP and the converters (R45, R48 to R53) -/

/-- In TRIM and deeper an enabled array without an enabled listening point on an active beam is gated (R392). -/
def State.arrGated (s : State) (a : Nat) : Bool :=
  s.pwrState ≠ 0 && s.arrOn a && s.lpsOn.all (fun p => !(s.beamActive (s.lpBeam p) && s.beamArray (s.lpBeam p) = a))

/-- FE_TXEN of an array is asserted (R49, R50). During a calibration run it is not (R64), nor in HOLD and VAULT (R395). -/
def State.arrTxen (s : State) (a : Nat) : Bool :=
  s.arrOn a && s.pwrState < 3 && !s.calibrating a &&
    (s.cityNs < aget 0 a s.rf.txOff || s.txJoined a || s.air.any (fun t => t.array = a && t.txen && t.holds s.cityNs))

/-- The Drover's window on an array is open: from an injection up to the frame's arrival or the attempt's end (R383, chapter 14's DOZE). -/
def State.droverWin (s : State) (a : Nat) : Bool := (aget {} a s.safe.drover).out.isSome

/-- A receive window of an array is open, or opens within a time in ns (R53, R129, R383). -/
def State.winNear (s : State) (a lead : Nat) : Bool :=
  s.droverWin a || s.slot.wins.any (fun w => w.array = a && (w.open_ || (decide (w.from_ ≤ s.cityNs + lead) && decide (s.cityNs < w.until_))))

/-- FE_RXEN of an array is active (R48, R49, R53): the array is enabled and not gated, neither transmits nor is about to, does not calibrate,
and in DOZE has a receive window from `TR_GAP` before it opens. -/
def State.arrRxen (s : State) (a : Nat) : Bool :=
  s.arrOn a && s.pwrState < 3 && !s.arrGated a && !s.calibrating a && !s.arrTxen a && decide (aget 0 a s.rf.rxOn ≤ s.cityNs) &&
    !s.air.any (fun t => t.array = a && t.blk && t.holds s.cityNs) && (!s.doze || s.winNear a (1000 * s.trGap))

/-- The elements of the arrays that a condition names. -/
def State.elementsOf (s : State) (which : Nat → Bool) : Nat :=
  ([0, 1, 2, 3].filter which).foldl (fun m a => setBits m (s.arrElements a)) 0

/-- FE_TXEN by element: all elements of an array together, those of no enabled array low (R45, R50). -/
def State.feTxen (s : State) : Nat := s.elementsOf s.arrTxen

/-- FE_RXEN, active, by element. -/
def State.feRxen (s : State) : Nat := s.elementsOf s.arrRxen

/-- FE_BYP, active, by element (R48). -/
def State.feByp (s : State) : Nat := s.fld R.RFP_FE_BYP F.RFP_FE_BYP_BYP

/-- Converters that are powered, by element (R45, R129, R392): those of an enabled array outside HOLD and VAULT; in DOZE those of an array that
transmits or has a receive window, from 30 µs before FE_RXEN becomes active for it. -/
def State.converters (s : State) : Nat :=
  s.elementsOf (fun a => s.arrOn a && s.pwrState < 3 &&
    (!s.doze || s.winNear a (1000 * s.trGap + 30000) || s.calibrating a || s.air.any (fun t => t.array = a && t.holds s.cityNs)))

/-- Levels of the FE_TXEN, FE_RXEN and FE_BYP pins by element: none while the F-die has no power and they are high impedance, all low while it is
in reset, and else as the polarities of `RFP_FE_POL` give them (R48, R52, the pin states of chapter 14). -/
def State.fePins (s : State) : Option (Nat × Nat × Nat) :=
  if s.pwr.fSup = 3 then none
  else if s.pwr.fHeld then some (0, 0, 0)
  else some (s.feTxen, s.feRxen ^^^ s.fld R.RFP_FE_POL F.RFP_FE_POL_RXEN_INV, s.feByp ^^^ s.fld R.RFP_FE_POL F.RFP_FE_POL_BYP_INV)

end Sys2Proof.Machine
end

