-- ==== Sys2Proof/Machine/CvnEnd.lean ====
section
/-! DEFINITION. What ends a Caravan or an image session: the bitmap or member map, the completions and the event (R265, R267,
R275); and the registers that show how many are open. -/

namespace Sys2Proof.Machine

/-- Whether a member entry is void, and its ordinal (R256). -/
def entVoid (e : Word) : Bool := bitAt e 31
def entOrd (e : Word) : Nat := bitsAt e 0 19

/-- A group by its number. -/
def State.group (s : State) (g : Nat) : Group := aget {} g s.cvn.groups

/-- Eight bits as an octet, the first the least significant. -/
def packByte (bs : List Bool) : Byte := BitVec.ofNat 8 (bs.foldr (fun b a => (if b then 1 else 0) + 2 * a) 0)

/-- Bits packed into octets, in order, up to `n` octets. -/
def packBits : Nat → List Bool → List Byte
  | 0, _ => []
  | n + 1, bs => packByte (bs.take 8) :: packBits n (bs.drop 8)

/-- The completion bitmap of R267 over `n` entry positions: 1 for a non-void entry whose ordinal is in `yes`. -/
def memberMap (n : Nat) (entries : List Word) (yes : List Nat) : List Byte :=
  packBits ((n + 63) / 64 * 8) ((entries.take n).map (fun e => !entVoid e && yes.contains (entOrd e)))

/-- How many bits of the map are 1. -/
def memberCount (n : Nat) (entries : List Word) (yes : List Nat) : Nat :=
  ((entries.take n).filter (fun e => !entVoid e && yes.contains (entOrd e))).length

/-- A command completes with all seven result words. -/
def State.cmdDoneFull (s : State) (c : CmdDesc) (status : Nat) (w1 w2 w3 w4 w5 w6 w7 : Word) : State :=
  s.passSend .f 5 c.part.val false 32 [cplWord0 (c.w0.toNat % 256) status (c.w0.toNat / 2 ^ 16), w1, w2, w3, w4, w5, w6, w7]

/-- `CVN_USE` and `CVN_IDQ` show the open Caravans, the waiting postings and the IDs in quarantine. -/
def State.cvnSync (s : State) : State :=
  let s1 := s.setFld R.CVN_USE F.CVN_USE_OPEN s.cvn.open_.length
  let s2 := s1.setFld R.CVN_USE F.CVN_USE_WAITING s.cvn.waiting.length
  s2.setFld R.CVN_IDQ F.CVN_IDQ_QUARANTINED s.cvnIds.quar.length

/-- A 64-bit host address from two words. -/
def addr64 (lo hi : Word) : Nat := lo.toNat + hi.toNat * 2 ^ 32

/-- One posting of a Caravan that ends: its bitmap is written, then its completion (R265, R267, R313). -/
def State.cvnAnswer (s : State) (c : Caravan) (status : Nat) (expired : Bool) (p : CmdDesc) : State :=
  let es := (s.group c.group).entries
  let s1 := s.memWrite p.part.val (addr64 p.w6 p.w7) (memberMap c.entries es c.answered)
  s1.cmdDoneFull p status (w32 (c.cid % 65536 + (if expired then 2 ^ 16 else 0))) (w32 c.entries)
    (w32 (memberCount c.entries es c.answered)) (w32 (memberCount c.entries es c.refused))
    (w32 ((es.take c.entries).filter entVoid).length) 0
    (w32 (c.pending.filter (fun o => c.unreached.contains o)).length)

/-- A Caravan ends (R265): every poster gets its bitmap and completion and CARAVAN_DONE is raised to them; the ID goes into
quarantine for 600 s (R269). -/
def State.cvnEnd (s : State) (c : Caravan) (status : Nat) (expired : Bool) : State :=
  let s1 := c.posts.foldl (fun s p => s.cvnAnswer c status expired p) s
  let mask := c.posts.foldl (fun m p => setNbit m p.part.val) 0
  let s2 := s1.evtF 18 mask (w32 c.cid) (w32 c.group) (w32 (memberCount c.entries (s.group c.group).entries c.answered))
  ({ s2 with
    cvn := { s2.cvn with open_ := s2.cvn.open_.filter (fun x => x.cid ≠ c.cid) }
    cvnIds := { s2.cvnIds with
      quar := aset (0, 0, 0) c.cid (c.group, mask, s2.citySec + 600 + 1) s2.cvnIds.quar
      openIds := s2.cvnIds.openIds.filter (fun e => e.1 ≠ c.cid) } }).cvnSync

/-- Generations and blocks of an image (R271). -/
def ImgSess.blocks (x : ImgSess) : Nat := (x.len + 1023) / 1024
def ImgSess.gens (x : ImgSess) : Nat := (x.blocks + x.k - 1) / x.k
def ImgSess.kOf (x : ImgSess) (g : Nat) : Nat := if g + 1 = x.gens then x.blocks - (x.gens - 1) * x.k else x.k

/-- Members of a group that are not void. -/
def Group.members (g : Group) : List Nat := (g.entries.filter (fun e => !entVoid e)).map entOrd

/-- An image session ends (R275): the member map and the completion are written and the session is freed. -/
def State.imgEnd (s : State) (i : Nat) (x : ImgSess) (status : Nat) : State :=
  let g := s.group x.group
  let s1 := s.memWrite x.cmd.part.val (addr64 x.cmd.w6 x.cmd.w7) (memberMap x.entries g.entries x.done)
  let s2 := s1.cmdDoneFull x.cmd status (w32 x.entries) (w32 (memberCount x.entries g.entries x.done))
    (w32 (g.members.filter (fun o => !x.heard.contains o)).length) (w32 x.sent) (w32 x.round) 0 0
  let s3 := { s2 with cvn := { s2.cvn with sess := s2.cvn.sess.filter (fun e => e.1 ≠ i) } }
  s3.wr (R.IMG_SESS i) 0

/-- A voided member may have been the last one pending, or the last one not done (R265, R275). -/
def State.cvnSettle (s : State) : State :=
  let s1 := s.cvn.open_.foldl (fun s c => if c.ackReq && c.pending.isEmpty then s.cvnEnd c stOK false else s) s
  s1.cvn.sess.foldl (fun s e =>
    if (s.group e.2.group).members.all e.2.done.contains then s.imgEnd e.1 e.2 stOK else s) s1

/-- The chip enters Quiet: every open Caravan and every image session ends with QUIET (R265, R275). -/
def State.quietEnds (s : State) : State :=
  let s1 := s.cvn.open_.foldl (fun s c => s.cvnEnd c stQUIET false) s
  s1.cvn.sess.foldl (fun s e => s.imgEnd e.1 e.2 stQUIET) s1

end Sys2Proof.Machine
end

