-- ==== Sys2Proof/Machine/Quiet.lean ====
section
/-! DEFINITION. The Ledger and the Trail (R386 to R390) and the entry into Quiet (R372, R377), which every family uses. -/

namespace Sys2Proof.Machine

/-- A log record's eight words (R386): `CHECK` is the CRC-32C of bytes 0 to 27. -/
def logRecord (seq : Word) (sec nsec : Nat) (code src : Nat) (p0 p1 p2 : Word) : List Word :=
  let ws := [seq, w32 sec, w32 nsec, w32 (code % 65536 + src % 65536 * 2 ^ 16), p0, p1, p2]
  ws ++ [crc32c (wordsBytes ws)]

/-- Writes a Trail record: sequence s at index s mod 262,144 (R390). -/
def State.trail (s : State) (code src : Nat) (p0 p1 p2 : Word) : State :=
  let q := s.rd R.LOG_TNEXT
  let r := logRecord q s.citySec s.cityNsec code src p0 p1 p2
  ({ s with log := { s.log with trail := aset [] (q.toNat % 262144) r s.log.trail } }).wr R.LOG_TNEXT (q + 1)

/-- Writes a record into the Ledger ring at its sequence's index, read back and repeated once (R388); the Bool says whether
the record stands there. -/
def State.ledgerStore (s : State) (r : List Word) : State × Bool :=
  let i := (wordAt r 0).toNat % 16384
  if s.log.bad.contains i then (s.setFld R.SAFE_HEALTH F.SAFE_HEALTH_LEDGER_OK 0, false)
  else (({ s with log := { s.log with ledger := aset [] i r s.log.ledger } }).setFld R.SAFE_HEALTH F.SAFE_HEALTH_LEDGER_OK 1, true)

/-- `LOG_LFIFO` shows the records held. -/
def State.fifoSync (s : State) : State := s.setFld R.LOG_LFIFO F.LOG_LFIFO_ENTRIES s.log.fifo.length

/-- A new Ledger record, which takes the next sequence: into the ring, or into the holding FIFO while frozen or draining, or
lost when the FIFO is full (R388, R389). The Bool is false after a write that failed twice. -/
def State.ledgerPut (s : State) (code src : Nat) (p0 p1 p2 : Word) : State × Bool :=
  let q := s.rd R.LOG_LNEXT
  let r := logRecord q s.citySec s.cityNsec code src p0 p1 p2
  let s1 := (s.trail code src p0 p1 p2).wr R.LOG_LNEXT (q + 1)
  if s.log.frozen || s.log.draining then
    if s.log.fifo.length < 256 then
      (({ s1 with log := { s1.log with fifo := s1.log.fifo ++ [r] } }).fifoSync, true)
    else
      ({ s1 with log := { s1.log with
          lostFirst := if s1.log.lostCount = 0 then q else s1.log.lostFirst
          lostCount := s1.log.lostCount + 1 } }, true)
  else s1.ledgerStore r

/-- Whether the chip is in Quiet. -/
def State.inQuiet (s : State) : Bool := s.flag R.SAFE_STATE F.SAFE_STATE_QUIET

/-- Causes that are not live after detection (R372). -/
def causeMomentary (c : Nat) : Bool := c == 4 || c == 7 || c == 14

/-- Every transmission on air or still to start is cut (R51, R377): one on air ends at the mute, every FE_TXEN is low, the FE_RXEN of every
array that transmitted, was about to or calibrated becomes active after `TR_GAP`, and the blanking that has begun for a transmission ends
200 µs after the mute (for one whose first symbol is still to come: DEDUCED, log entry 91). A calibration run is abandoned, its request
stays (R67). -/
def State.cutAir (s : State) : State :=
  let t0 := s.cityNs
  let all := [0, 1, 2, 3]
  let hot := all.filter (fun a => s.arrTxen a || s.calibrating a || t0 < aget 0 a s.rf.rxOn ||
    s.air.any (fun t => t.array = a && t.blk && t.holds t0))
  let deaf := all.filter (fun a => s.air.any (fun t => t.blk && t.holds t0 && nbit (s.blankMask t.array) a))
  { s with
    air := s.air.map (fun t => if t.ended then t else { t with cut := true, tEnd := if t.started then min t.tEnd t0 else t.tEnd })
    rf := { s.rf with
      calRun := none
      txOff := []
      lastEnd := []
      rxOn := hot.foldl (fun m a => aset 0 a (t0 + 1000 * s.trGap) m) s.rf.rxOn
      blankEnd := deaf.foldl (fun m a => amod 0 a (max (t0 + 200000)) m) s.rf.blankEnd } }

/-- The safety island's hardware reaction to a cause (R372, R377): the cause is latched, DACs are muted, FE_TXEN deasserted,
SAFE_N_F driven low, SAFE_ASSERT sent. -/
def State.quietLatch (s : State) (c : Nat) : State :=
  let s1 := s.setFld R.SAFE_CAUSE F.SAFE_CAUSE_LATCHED (setNbit (s.fld R.SAFE_CAUSE F.SAFE_CAUSE_LATCHED) c)
  let live := s.fld R.SAFE_CAUSE F.SAFE_CAUSE_LIVE
  let s2 := if causeMomentary c then s1 else s1.setFld R.SAFE_CAUSE F.SAFE_CAUSE_LIVE (setNbit live c)
  let s3 := (s2.setFld R.SAFE_STATE F.SAFE_STATE_QUIET 1).setFld R.SAFE_STATE F.SAFE_STATE_DRIVE_F 1
  let s4 := { s3 with safe := { s3.safe with
    dacMuted := true
    liveSince := if live = 0 && !causeMomentary c then some s.now else s3.safe.liveSince } }
  (s4.cutAir).passSend .f 0x0D 0 false 8 [w32 c, 0]

/-- A live cause ends (R372). -/
def State.quietOver (s : State) (c : Nat) : State :=
  let l := clrNbit (s.fld R.SAFE_CAUSE F.SAFE_CAUSE_LIVE) c
  let s1 := s.setFld R.SAFE_CAUSE F.SAFE_CAUSE_LIVE l
  if l = 0 then { s1 with safe := { s1.safe with liveSince := none } } else s1

/-- The record and the event of a cause (R377 step 4). -/
def State.quietReport (s : State) (c : Nat) : State × Bool :=
  let l := s.fld R.SAFE_CAUSE F.SAFE_CAUSE_LATCHED
  let (s1, ok) := s.ledgerPut 0x0001 c (w32 l) (w32 (s.fld R.SAFE_CAUSE F.SAFE_CAUSE_LIVE)) 0
  let s2 := if ok && !s.log.frozen && !s.log.draining then s1.quietOver 9 else s1
  (s2.evtF 0 0xF (w32 l) 1 (w32 c), ok)

/-- Cause 9: a Ledger write has failed twice (R388). Its own record is attempted once and a failure there adds nothing. -/
def State.quietLedger (s : State) : State :=
  if nbit (s.fld R.SAFE_CAUSE F.SAFE_CAUSE_LIVE) 9 then s
  else (((s.quietLatch 9).quietReport 9).1).quietEnds

/-- A Ledger record of R387. -/
def State.ledger (s : State) (code src : Nat) (p0 p1 p2 : Word) : State :=
  let (s1, ok) := s.ledgerPut code src p0 p1 p2
  if !ok then s1.quietLedger
  else if s.log.frozen || s.log.draining then s1
  else s1.quietOver 9

/-- A Quiet cause appears (R372, R377): nothing more happens for a cause that is already live. -/
def State.quiet (s : State) (c : Nat) : State :=
  if nbit (s.fld R.SAFE_CAUSE F.SAFE_CAUSE_LIVE) c then s
  else
    let (s1, ok) := (s.quietLatch c).quietReport c
    (if ok then s1 else s1.quietLedger).quietEnds

/-- Sets a one-bit error flag of a register (W1C flags, R439). -/
def State.err (s : State) (k : Nat) (f : Fld) : State := s.setFld k f 1

/-- Whether a partition's lock is unlocked: it has been, and 100 µs have not passed since (R449). -/
def State.unlocked (s : State) (p : Nat) : Bool :=
  s.flag (R.SYS_LOCK p) F.SYS_LOCK_UNLOCKED && s.now < aget 0 p s.host.lockAt - 1 + us 100

/-- Arms a partition's lock. -/
def State.armLock (s : State) (p : Nat) : State :=
  let s1 := s.setFld (R.SYS_LOCK p) F.SYS_LOCK_UNLOCKED 0
  { s1 with host := { s1.host with lockAt := aset 0 p 0 s1.host.lockAt } }

/-- Arms every partition's lock (R404). -/
def State.armLocks (s : State) : State := [0, 1, 2, 3].foldl State.armLock s

/-- The effects on the F-die of a guarded write or command that met an armed lock (R21, R323, R451): event 7 and a Ledger record. -/
def State.guardRaise (s : State) (p : Nat) (what : Word) (command : Bool) (data : Word) : State :=
  let k : Word := if command then 1 else 0
  (s.evtF 7 (2 ^ p) what k data).ledger 0x0040 p what k 0

/-- The same, counted in the partition's `SYS_CNT_GUARD` (R451). -/
def State.guardViolation (s : State) (p : Nat) (what : Word) (command : Bool) (data : Word) : State :=
  (s.bump (R.SYS_CNT_GUARD p)).guardRaise p what command data

end Sys2Proof.Machine
end

