-- ==== Sys2Proof/Machine/PwrOps.lean ====
section
/-! DEFINITION. The choice of the power state, the moves between states and the wake events (R392 to R396). -/

namespace Sys2Proof.Machine

/-- Exit latency of a state in K4 ticks (R392). -/
def exitLatency : Nat → Nat
  | 1 => us 20
  | 2 => us 300
  | 3 => ms 40
  | 4 => ms 2500
  | _ => 0

/-- T: the least `PWR_LAT_TOL` of the mapped partitions (R393). -/
def State.latMin (s : State) : Nat :=
  ([0, 1, 2, 3].filter s.mapped).foldl (fun t p => min t (s.fld (R.PWR_LAT_TOL p) F.PWR_LAT_TOL_TOL_US)) (2 ^ 23 - 1)

/-- The deepest eligible state (R393), given whether the chip has been idle for `IDLE_MS`. -/
def State.deepest (s : State) (idle : Bool) : Nat :=
  let t := s.latMin
  let deep := s.flag R.PWR_PERMIT F.PWR_PERMIT_PERMIT_DEEP && idle
  if 2500000 ≤ t && deep then 4
  else if 40000 ≤ t && deep then 3
  else if 300 ≤ t then 2
  else if 20 ≤ t then 1
  else 0

/-- The target state: a forced state in place of the deepest eligible one; the idle condition still applies to a forced HOLD or
VAULT, and so does `PERMIT_DEEP` (R394). -/
def State.pwrTarget (s : State) (idle : Bool) : Nat :=
  let f := s.fld R.PWR_FORCE F.PWR_FORCE_STATE
  if s.flag R.PWR_FORCE F.PWR_FORCE_EN then
    (if f < 3 then f else if idle && s.flag R.PWR_PERMIT F.PWR_PERMIT_PERMIT_DEEP then f else s.deepest false)
  else s.deepest idle

/-- Whether the slot engine runs. -/
def State.running (s : State) : Bool := s.flag R.SLOT_CTRL F.SLOT_CTRL_RUNNING

/-- All transmission and reception stops (R395): frames on air are cut, lanes and detections are released. The state of the pins follows
from the power state (`State.arrTxen`, `State.arrRxen`, `State.converters`). -/
def State.radioOff (s : State) : State :=
  let s1 := s.cutAir
  let s2 := { s1 with
    rf := { s1.rf with rxOn := [], blankEnd := [] }
    rx := { s1.rx with lanes := [], dets := [] } }
  s2.setFld R.LANE_BUSY F.LANE_BUSY_BUSY 0

/-- The chip takes a state and raises POWER_STATE (R393, R415). A VAULT entry names every partition (R396). -/
def State.pwrTake (s : State) (st cause wake : Nat) : State :=
  let old := s.pwrState
  if st = old then s
  else
    let s0 := if st = 3 || st = 4 then s.radioOff else s
    let s1 := s0.setFld R.PWR_STATE F.PWR_STATE_STATE st
    let s2 := s1.evtF 29 (if st = 4 then 0xF else 0) (w32 st) (w32 old) (w32 (cause + wake * 256))
    { s2 with pwr := { s2.pwr with
        deeper := none
        exiting := none
        entering := st == 3 || st == 4
        wakeDuring := none
        vaultEntry := if st = 4 then some (s.now + ms 10) else s2.pwr.vaultEntry } }

/-- A move to a shallower state starts at once and completes within the exit latency of the state left (R393), counted from the first decision
to leave it, whose cause POWER_STATE reports. -/
def State.pwrExit (s : State) (st cause wake : Nat) : State :=
  { s with pwr := { s.pwr with
      deeper := none
      exiting := match s.pwr.exiting with
        | some (_, old, c, w, at_) => some (st, old, c, w, at_)
        | none => some (st, s.pwrState, cause, wake, s.now + exitLatency s.pwrState) } }

/-- The chip will leave VAULT as soon as its entry is over (R396), woken by the first event that came. -/
def State.vaultLeave (s : State) (code : Nat) : State :=
  if s.pwr.vaultWake then s
  else { s with pwr := { s.pwr with
      vaultWake := true
      vaultCode := code } }

/-- The chip leaves HOLD for a reason, or will once the entry into it is complete. Out of an entry into VAULT only a wake event leads, which does not
stop it (R396). -/
def State.pwrLeave (s : State) (st cause wake : Nat) : State :=
  if s.pwr.vaultEntry.isSome then (if wake = 0 then s else s.vaultLeave wake)
  else if s.pwr.entering then { s with pwr := { s.pwr with wakeDuring := some (cause, wake) } }
  else s.pwrExit st cause wake

/-- The states are re-evaluated after a change of an input (R393). `idle` tells whether the idle condition of R395 holds. -/
def State.pwrEval (s : State) (idle : Bool) (cause wake : Nat) : State :=
  let s0 := s.setFld R.PWR_LAT_MIN F.PWR_LAT_MIN_T_US s.latMin
  if s.pwr.hush then s0
  else
    let t := s0.pwrTarget idle
    let cur := s0.pwrState
    if t = cur then { s0 with pwr := { s0.pwr with deeper := none, exiting := none } }
    else if t < cur then s0.pwrLeave t cause wake
    else if s0.running then { s0 with pwr := { s0.pwr with deeper := some (t, cause, wake), exiting := none } }
    else s0.pwrTake t cause wake

/-- A wake event (R395): a chip in HOLD leaves it for the deepest state that is eligible without the idle condition; one that comes
during entry waits for the entry to complete. A wake during the entry into VAULT does not stop it (R396). -/
def State.wake (s : State) (code : Nat) : State :=
  if s.pwr.vaultEntry.isSome then s.vaultLeave code
  else if s.pwr.hush || s.pwrState ≠ 3 || s.pwr.exiting.isSome then s
  else s.pwrLeave (s.pwrTarget false) 2 code

/-- The chip is idle (R395). -/
def State.idleNow (s : State) : Bool :=
  s.qmg.queues.all (fun e => e.2.frames.isEmpty) && s.host.fetched.isEmpty && s.cvn.open_.isEmpty && s.cvn.waiting.isEmpty &&
    s.cvn.sess.isEmpty && s.dir.flushes.isEmpty && s.rf.calRun.isNone

/-- `IDLE_MS` as it acts. -/
def State.idleMs (s : State) : Nat := max 1 (s.fld R.PWR_PERMIT F.PWR_PERMIT_IDLE_MS)

/-- The chip has been idle for `IDLE_MS` without a break. -/
def State.idleHeld (s : State) : Bool :=
  s.idleNow && s.pwr.idleSince.any (fun x => x.2 = s.qmg.nextId && decide (x.1 + ms s.idleMs ≤ s.now))

end Sys2Proof.Machine
end

