-- ==== Sys2Proof/Machine/PassLink.lean ====
section
/-! DEFINITION. The Pass: receiving, acknowledging, resending, retraining and going down; time, health and reset messages
(R16 to R26, R376, R377, R399). -/

namespace Sys2Proof.Machine

/-- Shortest and longest `LEN` of a message type (R17). -/
def passLens : Nat → Option (Nat × Nat)
  | 0x00 => some (0, 0)
  | 0x01 => some (8, 8)
  | 0x02 => some (32, 4096)
  | 0x03 => some (32, 4096)
  | 0x04 => some (32, 32)
  | 0x05 => some (32, 32)
  | 0x06 => some (32, 32)
  | 0x07 => some (8, 8)
  | 0x08 => some (8, 8)
  | 0x09 => some (8, 8)
  | 0x0A => some (16, 16)
  | 0x0B => some (16, 16)
  | 0x0C => some (32, 32)
  | 0x0D => some (8, 8)
  | 0x0E => some (4, 4096)
  | 0x0F => some (8, 8)
  | _ => none

/-- Whether a message is malformed: a reserved `TYPE`, or a `LEN` its type does not have (R17). -/
def passMalformed (typ : Nat) (m : PassMsg) : Bool :=
  match passLens typ with
  | none => true
  | some (lo, hi) => m.len < lo || hi < m.len

/-- Whether the Pass is up. -/
def State.passUp (s : State) : Bool := s.flag R.PASS_STATUS F.PASS_STATUS_UP

/-- Messages up to and including an acknowledged one leave the retry buffer; the order of `SEQ` is that of its 32-bit circle. -/
def dropAcked (ack : Word) (l : List PassMsg) : List PassMsg := l.dropWhile (fun m => (ack - m.seq).toNat < 2 ^ 31)

/-- A received `ACKSEQ` acknowledges the opposite direction (R16, R18): what it acknowledges makes room for what waits. A TIME_SYNC that has waited
carries city time as it goes on the wire (R23). -/
def State.passAck (s : State) (d : Die) (ack : Word) : State :=
  let x := s.txDir d
  let l := dropAcked ack x.retry
  let moved := decide (l.length < x.retry.length)
  let y := PassDir.fill { x with
    retry := l
    waiting := x.waiting.map (s.passStamp d)
    resends := if moved then 0 else x.resends
    progress := if moved then s.now else x.progress }
  let s1 := s.setTxDir d y
  { s1 with pass := { s1.pass with
      syncAt := if d = .f ∧ (y.retry.drop l.length).any (fun m => m.typ = 0x0A) then s.now else s1.pass.syncAt } }

/-- A malformed message with a correct `CRC` (R19): counted in `PASS_REJECT` (the F-die's own count reaches it with HEALTH, R455),
noted in `PASS_LAST_REJECT` and raised. The event's parameters are not given: free values (log entry 6). -/
def State.passReject (s : State) (d : Die) (typ : Nat) (m : PassMsg) : State :=
  let lenErr := (passLens typ).isSome || 4096 < m.len
  let s1 := s.wr R.PASS_LAST_REJECT (w32 (typ % 256 + (if d = .f then 2 ^ 8 else 0) + (if lenErr then 2 ^ 9 else 0)))
  let s2 := match d with
    | .h => s1.bump R.PASS_REJECT
    | .f => { s1 with pass := { s1.pass with fReject := s1.pass.fReject + 1 } }
  let (a, s3) := s2.free!
  let (b, s4) := s3.free!
  let (c, s5) := s4.free!
  match d with
  | .h => s5.evtH 6 0 (w32 a) (w32 b) (w32 c)
  | .f => s5.evtF 6 0 (w32 a) (w32 b) (w32 c)

/-- A message arrives at a die (R16 to R20). While the Pass is not up nothing arrives. A `CRC` error discards the message and
everything after it until the resend; a message out of order is discarded; every other is acknowledged, and acted on unless it is
malformed, in which case `rejected` follows the rejection. A message that the sender's retry buffer did not hold, such as a LINK_IDLE, has taken
the sender's next `SEQ`. -/
def State.passRx (s : State) (d : Die) (typ : Nat) (m : PassMsg) (act rejected : State → State) : State :=
  if !s.passUp then s
  else if m.crc ≠ passCrc typ m then
    (s.setRxDir d { s.rxDir d with discarding := true }).bump (match d with | .h => R.PASS_CNT_CRC | .f => R.PASS_FCNT_CRC)
  else if m.seq ≠ (s.rxDir d).rx then s
  else
    let x := s.rxDir d
    let s1 := s.setRxDir d { x with rx := x.rx + 1, discarding := false, next := if x.next = m.seq then m.seq + 1 else x.next }
    let s2 := s1.passAck d m.ack
    if passMalformed typ m then rejected (s2.passReject d typ m) else act s2

/-- LINK_IDLE (R17): its `ACKSEQ` acknowledges the opposite direction. -/
def execLinkIdle (d : Die) (m : PassMsg) (s : State) : Host.Outcome State Fault Refusal :=
  .next (s.passRx d 0x00 m id id)

/-- A message of a reserved type (R19). -/
def execReservedTypeMessage (d : Die) (m : PassMsg) (s : State) : Host.Outcome State Fault Refusal :=
  .next (s.passRx d (0x10 + m.typ % 0xF0) m id id)

/-- COMPL arrives at the H-die (R321): the record is written to the completion ring of the partition. -/
def execCompl (m : PassMsg) (s : State) : Host.Outcome State Fault Refusal :=
  .next (s.passRx .h 0x05 m (fun s => s.cplDeliver (m.part % 4) m.payload) id)

/-- EVENT arrives at the H-die (R327): the event is routed to the partitions' event rings. -/
def execEvent (m : PassMsg) (s : State) : Host.Outcome State Fault Refusal :=
  .next (s.passRx .h 0x06 m (fun s => s.evtRoute m.payload) id)

/-- REG_RSP returns the tag and the data to the waiting host access (R14, R447). -/
def execRegRsp (d : Die) (m : PassMsg) (s : State) : Host.Outcome State Fault Refusal :=
  .next (s.passRx d 0x09 m (fun s =>
    match d with
    | .h => s.rspTake (m.part % 4) (wordAt m.payload 0).toNat (wordAt m.payload 1)
    | .f => s) id)

/-- The H-die loses the Pass clock: K6 runs from HREFCLK, and its copy of city time no longer runs with F-die city time (R26). -/
def State.hFree (s : State) : State :=
  let s1 := s.setFld R.PASS_STATUS F.PASS_STATUS_K6_LOCAL 1
  { s1 with pass := { s1.pass with hFollow := false, hTime := s.hCityNs, hTimeAt := s.now } }

/-- K6 runs from the recovered clock again: the H-die's copy of city time counts on at the F-die's rate from where it stands, until a TIME_SYNC
sets it (R26). -/
def State.hFollows (s : State) : State :=
  { s with pass := { s.pass with hFollow := true, hOff := (s.hCityNs : Int) - s.cityNs } }

/-- TIME_SYNC (R23): it arrives 180 ns, 46 ticks of K4, after it went on the wire, and the H-die's copy of city time becomes the value
carried plus 180 ns. -/
def execTimeSync (m : PassMsg) (s : State) : Host.Outcome State Fault Refusal :=
  .next (s.passRx .h 0x0A m (fun s =>
    let s1 := s.advanceTo (s.pass.syncAt + 46)
    let v := (wordAt m.payload 0).toNat * 1000000000 + (wordAt m.payload 1).toNat + 180
    { s1 with pass := { s1.pass with hFollow := true, hOff := (v : Int) - s1.cityNs } }) id)

/-- Every 1 ms the F-die sends TIME_SYNC with city time (R23); one that waits for room in the retry buffer takes city time as it goes on
the wire (`passAck`). -/
def execTimeSyncSend (s : State) : Host.Outcome State Fault Refusal :=
  .next (
    let s1 := s.passSend .f 0x0A 0 false 16 [w32 s.citySec, w32 s.cityNsec, 0, 0]
    { s1 with pass := { s1.pass with syncAt := s.now } })

/-- What a TIME_SYNC carries is city time as its header goes on the wire (R23), so a resent one carries the time of its resend. -/
def State.passRestamp (s : State) : State :=
  { s with pass := { s.pass with
      fh := { s.pass.fh with retry := s.pass.fh.retry.map (fun m =>
        s.passStamp .f m) }
      syncAt := if s.pass.fh.retry.any (fun m => m.typ = 0x0A) then s.now else s.pass.syncAt } }

/-- The H-die stops using the F-die (R331): `FW_READY` clears, fetching stops and fetched descriptors complete FLUSHED. -/
def State.hLose (s : State) : State :=
  ({ s with
      host := { s.host with fwReady := false, stopped := true }
      boot := { s.boot with readySince := none } }).flushAllFetched

/-- What the H-die does at a lost Pass or a lost F-die (R22, R376): SAFE_N_H low, descriptors FLUSHED, QUIET_ENTERED from its own
router. -/
def State.hQuiet (s : State) (cause : Nat) : State :=
  let s1 := (s.setFld R.SAFE_STATE F.SAFE_STATE_DRIVE_H 1).hLose
  s1.evtH 0 0xF (w32 (s1.fld R.SAFE_CAUSE F.SAFE_CAUSE_LATCHED)) 1 (w32 cause)

/-- The conditions of R376 appear at the H-die: it acts as for a lost Pass, once until a HEALTH without fault has ended them. -/
def State.hPeer (s : State) : State :=
  if s.safe.hPeerBad then s else ({ s with safe := { s.safe with hPeerBad := true } }).hQuiet 10

/-- Whether a HEALTH payload reports a fault of its sender: word 0xC bit 0 (PRESUMED layout, log entry 4). -/
def healthFault (ws : List Word) : Bool := bitAt (wordAt ws 3) 0

/-- HEALTH arrives (R376, R455). -/
def execHealth (d : Die) (m : PassMsg) (s : State) : Host.Outcome State Fault Refusal :=
  .next (s.passRx d 0x0C m (fun s =>
    let bad := healthFault m.payload
    match d with
    | .f =>
      let s1 := { s with safe := { s.safe with
        healthF := some s.now
        healthGoodSince := if bad then none else some (s.safe.healthGoodSince.getD s.now) } }
      let s2 := s1.setFld R.SAFE_PEER F.SAFE_PEER_PEER_OK (if bad then 0 else 1)
      if bad then s2.quiet 10
      else if s2.safe.healthGoodSince.any (fun t => t + ms 10 ≤ s2.now) then s2.quietOver 10 else s2
    | .h =>
      let n := (wordAt m.payload 2).toNat
      let s1 := s.bumpBy R.PASS_REJECT (n - s.pass.fRejectSeen)
      let s2 := { s1 with
        safe := { s1.safe with healthH := some s1.now }
        pass := { s1.pass with fRejectSeen := n } }
      if bad then s2.hPeer else { s2 with safe := { s2.safe with hPeerBad := false } }) id)

/-- Every 1 ms a die sends HEALTH with its unit status and live causes (R376). The F-die reports a fault when its clock, time,
Ledger or island status is not good. -/
def execHealthSend (d : Die) (s : State) : Host.Outcome State Fault Refusal :=
  .next (match d with
    | .f =>
      let h := s.rd R.SAFE_HEALTH
      let ok := bitsAt h 12 4 = 15
      s.passSend .f 0x0C 0 false 32
        [h, w32 (s.fld R.SAFE_CAUSE F.SAFE_CAUSE_LIVE), w32 s.pass.fReject, if ok then 0 else 1, 0, 0, 0, 0]
    | .h => s.passSend .h 0x0C 0 false 32 [s.rd R.PASS_STATUS, 0, s.rd R.PASS_REJECT, 0, 0, 0, 0, 0])

/-- 10 ms without HEALTH while the Pass is up (R376). -/
def execHealthTimeout (d : Die) (s : State) : Host.Outcome State Fault Refusal :=
  .next (if !s.passUp then s
    else match d with
    | .f =>
      let s1 := s.advanceTo ((s.safe.healthF.getD s.now) + ms 10)
      ({ s1 with safe := { s1.safe with healthGoodSince := none } }).quiet 10
    | .h => (s.advanceTo ((s.safe.healthH.getD s.now) + ms 10)).hPeer)

/-- SAFE_ASSERT (R377): the die drives its own SAFE_N low; on the F-die the demand is a Quiet cause. -/
def execSafeAssert (d : Die) (m : PassMsg) (s : State) : Host.Outcome State Fault Refusal :=
  .next (s.passRx d 0x0D m (fun s =>
    match d with
    | .h => { s.setFld R.SAFE_STATE F.SAFE_STATE_DRIVE_H 1 with safe := { s.safe with hQuiet := true } }
    | .f =>
      let c := (wordAt m.payload 0).toNat
      if c < 16 && c != 11 then s.quiet c else s.setFld R.SAFE_STATE F.SAFE_STATE_DRIVE_F 1) id)

/-- BOOT_LOAD (R13, R307): microcode octets arrive; with the last of them the H-die's functions answer. -/
def execBootLoad (m : PassMsg) (s : State) : Host.Outcome State Fault Refusal :=
  .next (s.passRx .h 0x0E m (fun s =>
    let n := s.host.bootBytes + m.len
    { s with host := { s.host with bootBytes := n, microcode := s.host.microcode || s.host.microLen ≤ n } }) id)

/-- The Pass retrains (R18): it is not up, every lock is armed (R449), and `n` resends have led to it. -/
def State.passRetrain (s : State) (n : Nat) : State :=
  let s1 := ((s.setFld R.PASS_STATUS F.PASS_STATUS_UP 0).setFld R.PASS_STATUS F.PASS_STATUS_RETRAIN 1).bump R.PASS_CNT_RETRAIN
  ({ s1 with pass := { s1.pass with retrainResends := n, retrainAt := s1.now } }).armLocks

/-- 2 µs without progress: the sender resends from the first unacknowledged message; after 16 consecutive resends of it both dies retrain
(R18). -/
def execPassResendTimeout (d : Die) (s : State) : Host.Outcome State Fault Refusal :=
  .next (
    if (s.txDir d).retry.isEmpty || !s.passUp then s
    else
      let s0 := s.advanceTo ((s.txDir d).progress + us 2)
      let x := s0.txDir d
      let s1 := s0.bumpBy (match d with | .h => R.PASS_CNT_RESEND | .f => R.PASS_FCNT_RESEND) x.retry.length
      let s2 := (s1.setTxDir d { x with resends := x.resends + 1, progress := s0.now })
      let s3 := match d with | .f => s2.passRestamp | .h => s2
      if x.resends + 1 < 16 then s3
      else (s3.setTxDir d { s3.txDir d with resends := 0 }).hFree.passRetrain 16)

/-- K6 runs from HREFCLK from now on, if it does not already (R24, R26). -/
def State.passLocal (s : State) : State :=
  if s.pass.hFollow then s.hFree else s.setFld R.PASS_STATUS F.PASS_STATUS_K6_LOCAL 1

/-- A retrain completes (R18, R22, R26): the Pass is up, K6 runs from the recovered clock, PASS_RETRAIN is raised, and cause 1 is no
longer live. With no retrain in progress the link has come up for the first time. -/
def execPassRetrainDone (s : State) : Host.Outcome State Fault Refusal :=
  .next (
    if s.passUp then s
    else
      let was := s.flag R.PASS_STATUS F.PASS_STATUS_RETRAIN
      let s1 := s.wr R.PASS_STATUS 1
      let s2 := { s1 with pass := { s1.pass with
        hf := { s1.pass.hf with discarding := false, resends := 0 }
        fh := { s1.pass.fh with discarding := false, resends := 0 }
        resetReqAt := none } }
      let s3 := ((if s2.pass.hFollow then s2 else s2.hFollows).passRestamp).quietOver 1
      if was then s3.evtH 22 0 (w32 s.pass.retrainResends) (w32 ((s.now - s.pass.retrainAt) / us 1)) 0 else s3)

/-- A retrain has not completed within 10 ms (R22). The loss that follows RESET_REQ is part of the reset (R399). -/
def execPassDown (s : State) : Host.Outcome State Fault Refusal :=
  .next (
    if !s.flag R.PASS_STATUS F.PASS_STATUS_RETRAIN || s.flag R.PASS_STATUS F.PASS_STATUS_DOWN
        || s.flag R.PASS_STATUS F.PASS_STATUS_F_RESET then s
    else
      let s1 := s.advanceTo (s.pass.retrainAt + ms 10)
      let s2 := ((s1.setFld R.PASS_STATUS F.PASS_STATUS_DOWN 1).passLocal).bump R.PASS_CNT_DOWN
      let s3 := if s2.pwr.fHeld then s2 else s2.quiet 1
      if s3.pwr.hHeld then s3 else s3.hQuiet 1)

/-- The H-die loses the Pass clock (R26): K6 runs from HREFCLK, and the link retrains. -/
def execK6ClockLoss (s : State) : Host.Outcome State Fault Refusal :=
  .next (
    let s1 := s.passLocal
    if s.passUp then s1.passRetrain 0 else s1)

/-- The Pass is not up 5 s after RESET_REQ: the H-die applies R22 (R399). -/
def execResetPassTimeout (s : State) : Host.Outcome State Fault Refusal :=
  .next (
    match s.pass.resetReqAt with
    | none => s
    | some t =>
      if s.passUp || s.flag R.PASS_STATUS F.PASS_STATUS_DOWN then s
      else
        let s1 := s.advanceTo (t + sec 5)
        (((s1.setFld R.PASS_STATUS F.PASS_STATUS_DOWN 1).passLocal).bump R.PASS_CNT_DOWN).hQuiet 1)

end Sys2Proof.Machine
end

