-- ==== Sys2Proof/Machine/HostIf.lean ====
section
/-! DEFINITION. The host side of the H-die: rings and doorbells, descriptor fetching, receive write-back, interrupt vectors,
configuration requests, locks and banks (R304 to R333, R443, R449). -/

namespace Sys2Proof.Machine

/-! ### Rings and doorbells -/

/-- An error of a ring: its flag, the ring and index of the last error, and RING_ERR where the rule raises it (R311, R316, R329). -/
def State.ringErr (s : State) (p r : Nat) (f : Fld) (raise : Bool) (idx : Nat) : State :=
  let s1 := (s.err (R.RING_ERR p) f).wr (R.RING_ERR_INFO p) (w32 (r % 64 + idx % 65536 * 2 ^ 16))
  if raise then s1.evtH 20 (2 ^ p) (w32 r) (s1.rd (R.RING_ERR p)) (w32 idx) else s1

/-- Completion records that wait in the H-die are written, in order, while their ring has room (R312, R314). -/
def State.cplFlush (s : State) (p : Nat) : Nat → State
  | 0 => s
  | n + 1 =>
    match s.host.cplWait.find? (fun e => e.1 = p) with
    | none => s
    | some e =>
      if s.ringRoom p 33 then
        let s1 := { s with host := { s.host with cplWait := s.host.cplWait.eraseP (fun e => e.1 = p) } }
        let w0 := wordAt e.2 0 + BitVec.ofNat 32 (s.ringPhase p 33 * 2 ^ 13)
        State.cplFlush (((s1.ringPut p 33 (w0 :: e.2.drop 1)).ringSignal p 33).resvSync p) p n
      else s

/-- A doorbell write is accepted (R311): a producer index keeps the occupancy at or below 2^`SIZE` - 1; a consumer index does not
pass the chip's producer index. -/
def State.doorbellOk (s : State) (p r i : Nat) : Bool :=
  if r < 33 then occupancy i (s.ringChip p r) ≤ 2 ^ s.ringSize p r - 1
  else occupancy i (s.ringHost p r) ≤ occupancy (s.ringChip p r) (s.ringHost p r)

/-- A doorbell write (R311, R395). -/
def State.doorbell (s : State) (p r : Nat) (data : Word) : State :=
  let i := data.toNat % 65536
  if r ≥ 35 || s.ringSize p r = 0 then s
  else if !s.doorbellOk p r i then s.ringErr p r F.RING_ERR_DB_OVERRUN true i
  else
    let s1 := s.setFld (R.RING_STATE r p) F.RING_STATE_HOST i
    if r < 16 || r = 32 then s1.wake 1
    else if r = 33 then s1.cplFlush p s1.host.cplWait.length
    else s1

def execDoorbell (p : Part) (r : Nat) (data : Word) (s : State) : Host.Outcome State Fault Refusal :=
  .next (s.doorbell p.val r data)

/-- A write of `RING_rCFG` (R310, R312): `SIZE` 0 disables the ring; a valid `SIZE` enables a disabled ring with both indices at 0;
another `SIZE` sets `SIZE_INVALID`, and a `SIZE` other than 0 on an enabled ring sets `RING_BUSY`, also beside `SIZE_INVALID`. A partition mapped to
no port has no rings (R304). -/
def State.ringCfg (s : State) (p r : Nat) (data : Word) : State :=
  let size := fget F.RING_CFG_SIZE data
  let bad := size < 6 || 16 < size
  let busy := s.ringSize p r ≠ 0
  if r ≥ 35 || !s.mapped p then s
  else if size = 0 then s.wr (R.RING_CFG r p) (data &&& 0x7FF)
  else if bad || busy then
    let s1 := if bad then s.ringErr p r F.RING_ERR_SIZE_INVALID false (s.ringChip p r) else s
    if busy then s1.ringErr p r F.RING_ERR_RING_BUSY false (s.ringChip p r) else s1
  else
    let s1 := (s.wr (R.RING_CFG r p) (data &&& 0x7FF)).wr (R.RING_STATE r p) 0
    let s2 := { s1 with host := { s1.host with written := aset 0 (ringKey p r) 0 s1.host.written } }
    if r = 33 then s2.cplFlush p s2.host.cplWait.length else s2

def execRingEnable (p : Part) (r : Nat) (data : Word) (s : State) : Host.Outcome State Fault Refusal :=
  .next (if fget F.RING_CFG_SIZE data = 0 then s else s.ringCfg p.val r data)

def execRingDisable (p : Part) (r : Nat) (data : Word) (s : State) : Host.Outcome State Fault Refusal :=
  .next (s.ringCfg p.val r (fset F.RING_CFG_SIZE data 0))

/-- A write of a ring's `BASE` register: ignored with `RING_BUSY` while the ring is enabled (R312). -/
def State.ringBaseWrite (s : State) (p r : Nat) (hi : Bool) (data : Word) : State :=
  if s.ringSize p r ≠ 0 then s.ringErr p r F.RING_ERR_RING_BUSY false (s.ringChip p r)
  else if hi then s.wr (R.RING_BASE_HI r p) data
  else s.wr (R.RING_BASE_LO r p) (data &&& 0xFFFFFFC0)

/-! ### Fetching descriptors (R314 to R316, R323) -/

/-- Descriptors posted and not yet fetched in a ring the host writes. -/
def State.ringPosted (s : State) (p r : Nat) : Nat :=
  if s.ringSize p r = 0 then 0 else occupancy (s.ringHost p r) (s.ringChip p r)

/-- The completion ring is enabled and has a free slot beyond every completion still to come (R314). -/
def State.cplSlot (s : State) (p : Nat) : Bool :=
  s.ringSize p 33 != 0 &&
    occupancy (s.ringChip p 33) (s.ringHost p 33) + (s.host.fetched.filter (fun f => f.part = p)).length
      + (s.host.cplWait.filter (fun e => e.1 = p)).length < 2 ^ s.ringSize p 33 - 1

/-- Whether the H-die fetches TX and command descriptors of a partition now: not while HOLD or VAULT gates the pipelines and core pairs that
execute them (R395; DESIGN CHOICE, log entry 72). -/
def State.mayFetch (s : State) (p r : Nat) : Bool :=
  !s.host.stopped && !s.pwr.hush && s.pwrState < 3 && s.mapped p && s.ringPosted p r != 0 && s.cplSlot p

/-- The eight words of the descriptor at an index of a ring. -/
def State.ringWords (s : State) (p r i : Nat) : List Word :=
  (List.range 8).map (fun k => s.memWord p (s.ringSlot p r i + 4 * k))

/-- The chip's index of a ring moves past a descriptor. -/
def State.ringNext (s : State) (p r : Nat) : State :=
  s.setFld (R.RING_STATE r p) F.RING_STATE_CHIP ((s.ringChip p r + 1) % 65536)

/-- A descriptor joins the fetched ones (R314). -/
def State.addFetched (s : State) (f : Fetched) : State :=
  ({ s with
      host := { s.host with fetched := s.host.fetched ++ [f] }
      pwr := { s.pwr with idleSince := none } }).resvSync f.part

/-- Cells of a frame's chain (R277). -/
def frameCells (len : Nat) : Nat := (len + 32 + 255) / 256

/-- Cells of credit a partition has left (R279). -/
def State.creditLeft (s : State) (p : Nat) : Nat :=
  s.fld (R.QMG_HOST_CREDIT_P p) F.QMG_HOST_CREDIT_P_CELLS - aget 0 p s.pass.spent

/-- Whether a TX descriptor passes the checks of R316 that need no buffer, and with its frame the others. -/
def txDescOk (p : Nat) (w0 : Word) (frame : List Byte) : Bool :=
  let len := bitsAt w0 0 13
  let port := bitsAt w0 21 6
  1 ≤ len && len ≤ 4064 &&
    (if bitAt w0 20 then p == 0 && 48 ≤ port && port ≤ 51
     else 40 ≤ len && ((frame.headD 0).toNat / 16 == 6))

/-- What the host's memory answers to a fetch. -/
def execTxDescFetch (p : Part) (r : Fin 16) (dma : Dma) (s : State) : Host.Outcome State Fault Refusal :=
  .next (
    let q := p.val
    if !s.mayFetch q r.val then s
    else
      let i := s.ringChip q r.val
      let ws := s.ringWords q r.val i
      let w0 := wordAt ws 0
      let len := bitsAt w0 0 13
      let f : Fetched := ⟨q, r.val, i, 0, 0, wordAt ws 4, 0⟩
      match dma with
      | .descError => (s.setFld (R.RING_CFG r.val q) F.RING_CFG_SIZE 0).ringErr q r.val F.RING_ERR_DESC_DMA true i
      | .bufError =>
        let s1 := (s.ringNext q r.val).ringErr q r.val F.RING_ERR_BUF_DMA true i
        (s1.addFetched f).txDoneH f stBAD_PARAM 20 0
      | .ok =>
        let frame := s.memBytes q (addr64 (wordAt ws 2) (wordAt ws 3)) len
        if !txDescOk q w0 frame then ((s.ringNext q r.val).addFetched f).txDoneH f stBAD_PARAM 23 0
        else if s.creditLeft q < frameCells len then s
        else
          let s1 := (s.ringNext q r.val).addFetched f
          let s2 := { s1 with pass := { s1.pass with spent := amod 0 q (· + frameCells len) s1.pass.spent } }
          let meta_ := [w0, wordAt ws 1, w32 (i + r.val * 2 ^ 16 + (52 + q) * 2 ^ 20), 0, wordAt ws 4, 0, 0, 0]
          s2.passSend .h 0x02 q false (32 + len) (meta_ ++ bytesWords frame))

/-- CREDIT returns cells to a partition (R279): header `PART`, cells in payload word 0 (PRESUMED layout, log entry 4). -/
def execCredit (d : Die) (m : PassMsg) (s : State) : Host.Outcome State Fault Refusal :=
  .next (s.passRx d 0x01 m (fun s =>
    match d with
    | .h => { s with pass := { s.pass with spent := amod 0 (m.part % 4) (· - (wordAt m.payload 0).toNat) s.pass.spent } }
    | .f => s) id)

/-- Opcodes of R322. -/
def opcodeListed (o : Nat) : Bool :=
  (0x01 ≤ o && o ≤ 0x06) || (0x10 ≤ o && o ≤ 0x14) || (0x20 ≤ o && o ≤ 0x27) || (0x30 ≤ o && o ≤ 0x35)
    || o == 0x38 || o == 0x39 || o == 0x3C || o == 0x3D || o == 0x40 || o == 0x41 || o == 0x50 || o == 0x51

/-- The guarded commands (R323). -/
def opcodeGuarded (o : Nat) : Bool := o == 0x50 || o == 0x51

/-- The H-die fetches a command descriptor and sends it as DESC; a guarded command gets `GRANT` from an unlocked lock, which the
fetch arms (R323, R449). -/
def execCommandFetch (p : Part) (dma : Dma) (s : State) : Host.Outcome State Fault Refusal :=
  .next (
    let q := p.val
    if !s.mayFetch q 32 then s
    else
      let i := s.ringChip q 32
      let ws := s.ringWords q 32 i
      match dma with
      | .descError | .bufError => (s.setFld (R.RING_CFG 32 q) F.RING_CFG_SIZE 0).ringErr q 32 F.RING_ERR_DESC_DMA true i
      | .ok =>
        let w0 := wordAt ws 0
        let o := w0.toNat % 256
        let grant := opcodeGuarded o && s.unlocked q
        let w0' := (w0 &&& 0xFFFFFEFF) ||| (if grant then 0x100 else 0)
        let s1 := (s.ringNext q 32).addFetched ⟨q, 32, i, w0.toNat / 2 ^ 16, o, 0, 0⟩
        let s2 := if grant then s1.armLock q else s1
        s2.passSend .h 0x04 q false 32 (w0' :: ws.drop 1))

/-- The descriptor a DESC message carries. -/
def descOf (m : PassMsg) : CmdDesc :=
  ⟨⟨m.part % 4, Nat.mod_lt _ (by decide)⟩, wordAt m.payload 0, wordAt m.payload 1, wordAt m.payload 2, wordAt m.payload 3,
    wordAt m.payload 4, wordAt m.payload 5, wordAt m.payload 6, wordAt m.payload 7⟩

/-- A descriptor has arrived (R322, R323): a guarded command without `GRANT`, a reserved opcode, and a posting or an image session in Quiet are over
at once; every other is still to run. -/
def State.descTake (s0 : State) (c : CmdDesc) : State :=
  let s := s0.cplOpen c
  let o := c.w0.toNat % 256
  if opcodeGuarded o && !bitAt c.w0 8 then
    (s.guardViolation c.part.val (w32 o) true (w32 (c.w0.toNat / 2 ^ 16))).cmdDone c stGUARD_VIOLATION [] 0 0
  else if !opcodeListed o then s.cmdBad c 21
  else if (o = 0x38 || o = 0x3C) && s.inQuiet then s.cmdDone c stQUIET [] 0 0
  else { s with cmds := s.cmds ++ [c] }

/-- DESC arrives at the F-die. What is over at once completes in the order of its family too; a malformed DESC completes PASS_REJECT (R325). -/
def execDesc (m : PassMsg) (s : State) : Host.Outcome State Fault Refusal :=
  let c := descOf m
  .next (s.passRx .f 0x04 m (fun s => s.descTake c) (fun s => (s.cplOpen c).cmdDone c stPASS_REJECT [] 0 0))

/-! ### Receive write-back (R319) -/

/-- The RX descriptors a frame of `len` octets takes, from an index on: index, octets written, and whether it is skipped; none
when the posted descriptors do not suffice. -/
def State.rxPlan (s : State) (p r : Nat) : Nat → Nat → Nat → Option (List (Nat × Nat × Bool))
  | 0, _, _ => none
  | n + 1, i, len =>
    let b := bitsAt (wordAt (s.ringWords p r i) 0) 0 16
    if b = 0 then (State.rxPlan s p r n ((i + 1) % 65536) len).map ((i, 0, true) :: ·)
    else if len ≤ b then some [(i, len, false)]
    else (State.rxPlan s p r n ((i + 1) % 65536) (len - b)).map ((i, b, false) :: ·)

/-- Word 0x00 of an RX write-back. -/
def rxWord0 (bytes status : Nat) (more : Bool) : Word :=
  w32 (bytes % 65536 + status * 2 ^ 16 + (if more then 2 ^ 21 else 0) + 2 ^ 22)

/-- Writes one descriptor back, after its buffer. -/
def State.rxBack (s : State) (p r : Nat) (meta_ : List Word) (part_ : List Byte) (i : Nat) (skip more : Bool) : State :=
  let ws := s.ringWords p r i
  let s1 := if skip then s else s.memWrite p (addr64 (wordAt ws 2) (wordAt ws 3)) part_
  let rec_ := if skip then [rxWord0 0 stFLUSHED false, 0, 0, 0, 0, 0, 0, 0]
    else rxWord0 part_.length stOK more :: (List.range 7).map (fun k => wordAt meta_ (k + 1))
  ((s1.memWrite p (s.ringSlot p r i) (wordsBytes rec_)).ringNext p r).ringSignal p r

/-- A frame is written into its descriptors in order. -/
def State.rxWrite (s : State) (p r : Nat) (meta_ : List Word) : List (Nat × Nat × Bool) → List Byte → State
  | [], _ => s
  | (i, n, skip) :: rest, bs =>
    State.rxWrite (s.rxBack p r meta_ (bs.take n) i skip (!rest.isEmpty)) p r meta_ rest (bs.drop n)

/-- The oldest held frame of an RX ring is written once every descriptor it needs is posted (R312, R319); the sender's descriptor, if
it came from a partition, then completes OK (R317). A read error on a descriptor disables the ring (R333), and the frame stays held. -/
def execRxWriteback (p : Part) (r : Fin 16) (dma : Dma) (s : State) : Host.Outcome State Fault Refusal :=
  .next (
    let q := p.val
    let ring := 16 + r.val
    match s.host.held.find? (fun f => f.part = q && f.ring = r.val) with
    | none => s
    | some f =>
      if s.ringSize q ring = 0 then s
      else if dma = .descError then
        (s.setFld (R.RING_CFG ring q) F.RING_CFG_SIZE 0).ringErr q ring F.RING_ERR_DESC_DMA true (s.ringChip q ring)
      else match s.rxPlan q ring (s.ringPosted q ring) (s.ringChip q ring) f.bytes.length with
        | none => s
        | some plan =>
          let s1 := { s with
            host := { s.host with held := s.host.held.erase f }
            qmg := { s.qmg with aside := s.qmg.aside.erase (q, r.val, f.bytes.length) } }
          let s2 := s1.rxWrite q ring f.meta_ plan f.bytes
          match f.src with
          | none => s2
          | some d => s2.txDoneH d stOK 0 0)

/-! ### Interrupt vectors (R330) -/

/-- A vector with its PBA bit set fires where it may and its hold-off is over. -/
def State.vecRetry (s : State) (p v : Nat) : State :=
  if aget 0 (vecKey p v) s.host.pba ≠ 0 && s.vecOpen p v && aget 0 (vecKey p v) s.host.holdoff ≤ s.now then s.vecFire p v else s

/-- A vector's hold-off ends and a pending trigger fires. -/
def execVectorHoldoffExpiry (p : Part) (v : Fin 32) (s : State) : Host.Outcome State Fault Refusal :=
  .next (
    let k := vecKey p.val v.val
    let t := aget 0 k s.host.holdoff
    if t = 0 then s
    else
      let s1 := s.advanceTo t
      ({ s1 with host := { s1.host with holdoff := aset 0 k 0 s1.host.holdoff } }).vecRetry p.val v.val)

/-- A write of a word of the MSI-X table (R306): address, upper address, data, or vector control, whose bit 0 masks the vector. A vector that is
unmasked fires if its PBA bit is set (R330). -/
def State.msixWrite (s : State) (p i : Nat) (data : Word) : State :=
  if i % 4 < 3 then { s with host := { s.host with msix := aset 0 (p * 128 + i) data s.host.msix } }
  else
    let on := if bitAt data 0 then 0 else 1
    ({ s with host := { s.host with unmasked := aset 0 (vecKey p (i / 4)) on s.host.unmasked } }).vecRetry p (i / 4)

/-- The word at an offset of BAR2 (R306): the MSI-X table of 32 entries of 4 words at 0x0000, the PBA at 0x2000, and 0 elsewhere. -/
def State.msixRead (s : State) (p off : Nat) : Word :=
  let i := off / 4
  if i < 128 then
    (if i % 4 < 3 then aget 0 (p * 128 + i) s.host.msix
     else if aget 0 (vecKey p (i / 4)) s.host.unmasked = 0 then 1 else 0)
  else if i = 2048 then w32 (((List.range 32).map (fun v => if aget 0 (vecKey p v) s.host.pba = 0 then 0 else 2 ^ v)).sum)
  else 0

/-- MSIX_UNMASK: an access to BAR2 at an offset, a read or a write of a word; a write of vector control unmasks a vector or masks it again. -/
def execMsixUnmask (p : Part) (off : BitVec 14) (data : Option Word) (s : State) : Host.Outcome State Fault Refusal :=
  .next (
    if !s.mapped p.val || s.pwr.hHeld then s
    else match data with
      | none => s.answer p.val (s.msixRead p.val off.toNat)
      | some w => if off.toNat / 4 < 128 then s.msixWrite p.val (off.toNat / 4) w else s)

/-! ### Configuration space (R306, R307) -/

/-- The base address of a BAR of a function, as configuration reads show it: 64-bit, not prefetchable, of 64 KiB or 16 KiB. -/
def State.barWord (s : State) (p k : Nat) : Word := aget 0 (p * 2 + k) s.host.bars ||| 4

/-- Words of configuration space that R306 gives; `none` where the spec gives no value. Their places, and the low bits of a BAR, are PCI Express's
(PRESUMED, log entry 105). -/
def State.cfgWord (s : State) (p off : Nat) : Option Word :=
  match off / 4 * 4 with
  | 0x00 => some 0x71601FB3
  | 0x08 => some 0x028000A1
  | 0x10 => some (s.barWord p 0)
  | 0x14 => some 0
  | 0x18 => some (s.barWord p 1)
  | 0x1C => some 0
  | 0x20 => some 0
  | 0x24 => some 0
  | 0x2C => some 0x71601FB3
  | _ => none

/-- MSI-X of a function is enabled or disabled; vectors that have waited for it fire. -/
def State.msixEnable (s : State) (p : Nat) (on : Bool) : State :=
  let s1 := { s with host := { s.host with msixOn := aset 0 p (if on then 1 else 0) s.host.msixOn } }
  (List.range 32).foldl (fun s v => s.vecRetry p v) s1

/-- What a configuration access of a function does (R306): a BAR takes the address bits above its size, and sizes and payload codes that R306 does
not list are not taken. A word whose value the spec does not give reads as a free value, and a write of one does nothing that the spec gives. -/
def State.cfgRun (s : State) (p : Nat) : CfgAccess → State
  | .read off =>
    match s.cfgWord p off with
    | some w => s.answer p w
    | none =>
      let (x, t) := s.free!
      t.answer p (w32 x)
  | .write off data =>
    if off / 4 * 4 = 0x10 then { s with host := { s.host with bars := aset 0 (p * 2) (data &&& 0xFFFF0000) s.host.bars } }
    else if off / 4 * 4 = 0x18 then { s with host := { s.host with bars := aset 0 (p * 2 + 1) (data &&& 0xFFFFC000) s.host.bars } }
    else s
  | .readDevice => s.answer p (w32 (aget 0 p s.host.mps * 2 ^ 5 + aget 2 p s.host.mrrs * 2 ^ 12))
  | .writeDevice m r => { s with host := { s.host with
      mps := if m.val ≤ 2 then aset 0 p m.val s.host.mps else s.host.mps
      mrrs := if r.val ≤ 5 then aset 2 p r.val s.host.mrrs else s.host.mrrs } }
  | .readMsix => s.answer p (w32 (31 + aget 0 p s.host.msixOn * 2 ^ 15))
  | .writeMsix on => s.msixEnable p on

/-- An FLR returns a function's configuration to its reset state (PCI Express; log entry 105): its BARs hold 0, MSI-X is off, its vectors are masked, and
the Max Read Request Size is 512 octets. The Max Payload Size is one of the fields that an FLR keeps. -/
def State.cfgReset (s : State) (p : Nat) : State :=
  { s with host := { s.host with
      msixOn := aset 0 p 0 s.host.msixOn
      bars := s.host.bars.filter (fun (e : Nat × Word) => e.1 / 2 != p)
      unmasked := s.host.unmasked.filter (fun (e : Nat × Nat) => e.1 / 32 != p)
      mrrs := aset 2 p 2 s.host.mrrs } }

/-- A configuration request to a partition's function is answered with retry status until the microcode is loaded (R307). -/
def execConfigRequest (p : Part) (a : CfgAccess) (s : State) : Host.Outcome State Fault Refusal :=
  .next (
    let q := p.val
    if !s.mapped q || s.pwr.hHeld then s
    else if !s.host.microcode then { s with host := { s.host with cfgAnswer := aset 0 q 2 s.host.cfgAnswer } }
    else ({ s with host := { s.host with cfgAnswer := aset 0 q 1 s.host.cfgAnswer } }).cfgRun q a)

/-- A BAR0 read that waits for a retrain returns all ones once the retrain has lasted 2 ms (R309). -/
def execBar0ReadTimeout (p : Part) (s : State) : Host.Outcome State Fault Refusal :=
  .next (
    let q := p.val
    let high := aget 0 q s.host.readTag ≠ 0
    let low := aget 0 q s.host.readLowTag ≠ 0
    if !high && !low || s.flag R.PASS_STATUS F.PASS_STATUS_UP then s
    else
      let s1 := s.advanceTo (s.pass.retrainAt + ms 2)
      { s1 with host := { s1.host with
          readData := if high then aset 0 q 0xFFFFFFFF s1.host.readData else s1.host.readData
          readTag := aset 0 q 0 s1.host.readTag
          readLow := if low then aset 0 q 0xFFFFFFFF s1.host.readLow else s1.host.readLow
          readLowTag := aset 0 q 0 s1.host.readLowTag } })

/-! ### Locks and banks (R443, R449) -/

/-- A write of `SYS_LOCK` (R449): 0x0000_C35A unlocks for 100 µs, any other value arms. -/
def State.lockWrite (s : State) (p : Nat) (data : Word) : State :=
  if data = 0x0000C35A then
    let s1 := s.setFld (R.SYS_LOCK p) F.SYS_LOCK_UNLOCKED 1
    { s1 with host := { s1.host with lockAt := aset 0 p (s.now + 1) s1.host.lockAt } }
  else s.armLock p

def execLockUnlock (p : Part) (s : State) : Host.Outcome State Fault Refusal := .next (s.lockWrite p.val 0x0000C35A)

def execLockArm (p : Part) (data : Word) (s : State) : Host.Outcome State Fault Refusal :=
  .next (if data = 0x0000C35A then s else s.lockWrite p.val data)

/-- LOCK_TIMEOUT: 100 µs after the last unlocking write the lock has armed itself. -/
def execLockTimeout (p : Part) (s : State) : Host.Outcome State Fault Refusal :=
  .next (if s.flag (R.SYS_LOCK p.val) F.SYS_LOCK_UNLOCKED then (s.advanceTo (aget 0 p.val s.host.lockAt - 1 + us 100)).armLock p.val else s)

/-- A write of `SYS_BANK` (R443). -/
def State.bankWrite (s : State) (p : Nat) (data : Word) : State :=
  let b := fget F.SYS_BANK_BANK data
  if b = 3 then s.err (R.SYS_ERR p) F.SYS_ERR_BANK_INVALID else s.setFld (R.SYS_BANK p) F.SYS_BANK_BANK b

def execBankSelect (p : Part) (data : Word) (s : State) : Host.Outcome State Fault Refusal := .next (s.bankWrite p.val data)

/-- A guarded write is accepted by the H-die: it is permitted if the lock is unlocked, and the acceptance arms the lock (R21, R449). -/
def State.guardTake (s : State) (p : Nat) : State × Bool := if s.unlocked p then (s.armLock p, true) else (s, false)

/-- How an access to an F-die register fares (R309): 0 the Pass is up; 1 it waits for a retrain; 2 the retrain has lasted 2 ms, the Pass is down, has
not been up, or an announced F-die reset is in progress. -/
def State.fAccess (s : State) : Nat :=
  if s.flag R.PASS_STATUS F.PASS_STATUS_F_RESET || s.flag R.PASS_STATUS F.PASS_STATUS_DOWN then 2
  else if s.passUp then 0
  else if s.flag R.PASS_STATUS F.PASS_STATUS_RETRAIN && s.now < s.pass.retrainAt + ms 2 then 1
  else 2

/-- The H-die sends a register write across the Pass (R21, R447). -/
def State.sendRegWr (s : State) (p a : Nat) (guard : Bool) (data : Word) : State := s.passSend .h 0x08 p guard 8 [w32 a, data]

/-- A guarded write of an H-die register that meets an armed lock (R451): it is counted, and the F-die is told; while the Pass is down it
is only counted. -/
def State.guardViolationH (s : State) (p : Nat) (addr data : Word) : State :=
  let s1 := s.bump (R.SYS_CNT_GUARD p)
  match s.fAccess with
  | 0 => s1.guardRaise p addr false data
  | 1 => s1.sendRegWr p addr.toNat false data
  | _ => s1

/-- Whether a mapping leaves P0 unmapped or names the reserved value (R305). -/
def mapInvalid (m : Nat) : Bool :=
  m % 4 == 2 || [0, 1, 2, 3].any (fun p => m / 4 ^ p % 4 == 3)

/-- A guarded write of `PART_MAP` (R305, R333, R451): kept in MRAM, applied at the next POR_H or PIN_H. -/
def State.partMapWrite (s : State) (p : Nat) (data : Word) : State :=
  let (s1, ok) := s.guardTake p
  if !ok then s1.guardViolationH p 0x1008 data
  else if p ≠ 0 then s1.err (R.PART_ERR p) F.PART_ERR_PART_WRITE
  else if mapInvalid (fget F.PART_MAP_MAP data) then s1.err (R.PART_ERR p) F.PART_ERR_MAP_INVALID
  else s1.setFld R.PART_MAP F.PART_MAP_MAP (fget F.PART_MAP_MAP data)

def execPartMapWrite (p : Part) (data : Word) (s : State) : Host.Outcome State Fault Refusal := .next (s.partMapWrite p.val data)

end Sys2Proof.Machine
end

