-- ==== Sys2Proof/Machine/Queue.lean ====
section
/-! DEFINITION. The Caravanserai and its queues: cells, joining a queue, spill and refill, the end of a frame, flushing, queue
faults, taps, shapers and policers (R277 to R295, R299 to R301). -/

namespace Sys2Proof.Machine

/-! ### Queue numbers (R280) -/

/-- A queue number that R280 names. -/
def queueValid (q : Nat) : Bool := q < 32920

def qNbr (n c : Nat) : Nat := 4 * n + c
def qBcast (p c : Nat) : Nat := 32768 + 4 * p + c
def qEth (e prio : Nat) : Nat := 32800 + 8 * e + prio
def qHost (p r : Nat) : Nat := 32832 + 16 * p + r
def qFlood (p : Nat) : Nat := 32896 + p
def qImage (s : Nat) : Nat := 32904 + s
def qDrover (a : Nat) : Nat := 32908 + a
def qWindow (k : Nat) : Nat := 32912 + k

/-- A queue the slot engine serves. -/
def isRadioQ (q : Nat) : Bool := q < 32800

/-- A queue the egress scheduler serves (R290). -/
def isEgressQ (q : Nat) : Bool := 32800 ≤ q && q < 32896

def State.queue (s : State) (q : Nat) : Queue := aget {} q s.qmg.queues

def State.setQueue (s : State) (q : Nat) (x : Queue) : State :=
  { s with qmg := { s.qmg with queues := aset {} q x s.qmg.queues } }

/-! ### Cells (R277, R278) -/

/-- A frame's length in octets. -/
def Frame.len (f : Frame) : Nat := f.bytes.length

/-- Cells of a frame's chain, spilled ones counted. -/
def Frame.cells (f : Frame) : Nat := f.chain.length

/-- Cells of its chain that lie in the spill region. -/
def Frame.spilled (f : Frame) : Nat := f.chain.count none

/-- The cells of its chain that are on die, in order. -/
def Frame.onDie (f : Frame) : List Nat := f.chain.filterMap (fun c => c)

def State.freeCells (s : State) : Nat := s.fld R.QMG_FREE F.QMG_FREE_CELLS

/-- The cells in use are these; `QMG_FREE` follows. -/
def State.setUsed (s : State) (u : List Nat) : State :=
  ({ s with qmg := { s.qmg with used := u } }).setFld R.QMG_FREE F.QMG_FREE_CELLS (65536 - u.length)

/-- The `n` lowest free cells from cell `c` on, beside the cells in use. -/
def pickCells (n c : Nat) : List Nat → List Nat
  | [] => (List.range n).map (c + ·)
  | u :: us =>
    if n ≤ u - c then (List.range n).map (c + ·)
    else (List.range (u - c)).map (c + ·) ++ pickCells (n - (u - c)) (u + 1) us

/-- A cell enters the ascending list of those in use. -/
def cellInsert (c : Nat) : List Nat → List Nat
  | [] => [c]
  | u :: us => if c < u then c :: u :: us else if c = u then u :: us else u :: cellInsert c us

/-- Cells return to the free pool (R278). -/
def State.freeChain (s : State) (cs : List Nat) : State := s.setUsed (s.qmg.used.filter (fun c => !cs.contains c))

/-- Cells a queue holds, spilled cells counted (R281). -/
def Queue.cells (x : Queue) : Nat := (x.frames.map Frame.cells).sum

def State.floor (s : State) : Nat := s.fld R.QMG_RESERVE F.QMG_RESERVE_INGRESS_FLOOR

/-- Taking `n` cells keeps the free count at or above `INGRESS_FLOOR`; an exempt frame may take it to 0 (R278). -/
def State.cellsOk (s : State) (n : Nat) (exempt : Bool) : Bool := n ≤ s.freeCells && (exempt || s.floor + n ≤ s.freeCells)

/-- A released frame's cells return to the free pool (R278). -/
def State.release (s : State) (f : Frame) : State := s.freeChain f.onDie

/-- Every chain of cells that the chip holds: of queued frames, of the window reader's frame, of frames crossing the Pass, of fragments and of
floods. -/
def State.chains (s : State) : List (List Nat) :=
  s.qmg.queues.flatMap (fun e => e.2.frames.map Frame.onDie) ++ (s.qmg.popCur.toList.map Frame.onDie) ++ s.qmg.inHand
    ++ s.mesh.reasm.map Reasm.chain ++ s.mesh.floods.map Flood.chain

/-- The entry that the link memory has for a cell (R277): the next cell of its chain and the last-cell flag; the last cell's entry names itself
(DESIGN CHOICE, log entry 8). `none` for a cell of no chain. -/
def State.linkEntry (s : State) (c : Nat) : Option (Nat × Bool) :=
  (s.chains.find? (fun l => l.contains c)).map (fun l =>
    match (l.drop (l.idxOf c + 1)).head? with
    | some n => (n, false)
    | none => (c, true))

/-- The F-die returns ingress credit to a partition (R279). -/
def State.creditBack (s : State) (p n : Nat) : State := s.passSend .f 0x01 p false 8 [w32 n, 0]

/-! ### Profiles (R281) -/

def State.profile (s : State) (q : Nat) : Nat := fget F.QMG_Q_DATA_PROFILE (s.queue q).entry

def State.spillOk (s : State) (q : Nat) : Bool :=
  s.flag (R.QMG_PROF_LIM (s.profile q)) F.QMG_PROF_LIM_SPILL_OK && q < 32912

/-- What a frame of `n` cells meets at a queue (R282): `none` when it fits, else the `DETAIL` of its refusal. -/
def State.queueRefuses (s : State) (q n : Nat) (yellow : Bool) : Option Nat :=
  let j := s.profile q
  let tot := (s.queue q).cells + n
  if s.fld (R.QMG_PROF_LIM j) F.QMG_PROF_LIM_LIMIT < tot then some 0
  else if yellow && s.fld (R.QMG_PROF_YLIM j) F.QMG_PROF_YLIM_YLIM < tot then some 1
  else none

/-! ### Spill (R284, R286) -/

/-- Cells of the spill region (R284). -/
def State.spillSize (s : State) : Nat := s.fld R.QMG_SPILL_CFG F.QMG_SPILL_CFG_SIZE_MIB * 4096

def State.spilledCells (s : State) : Nat := (s.qmg.queues.map (fun e => (e.2.frames.map Frame.spilled).sum)).sum

def State.spillFree (s : State) : Nat := s.spillSize - s.spilledCells

/-- Cell `j` of a chain of `n` cells, of frame `i` of a queue with `after` cells behind the frame, may move: it lies neither in the tail cache nor in
the head frame nor among the first 2 cells of the frame after it (R284, R285; DEDUCED, log entry 8). -/
def movableAt (i after n j : Nat) : Bool := i ≠ 0 && !(i = 1 && j < 2) && j < n && n + after ≥ j + 3

/-- The positions of a frame's cells that are on die and may move. -/
def movableOf (i after : Nat) (f : Frame) : List Nat :=
  (List.range f.cells).filter (fun j => movableAt i after f.cells j && (f.chain.getD j none).isSome)

/-- Movable cells of a queue's frames, from frame `i` on. -/
def movables (i : Nat) : List Frame → Nat
  | [] => 0
  | f :: fs => (movableOf i ((fs.map Frame.cells).sum) f).length + movables (i + 1) fs

/-- One cell moves to the spill region, the movable one nearest the tail: its number and the frames. -/
def spillTail (i : Nat) : List Frame → Option (Nat × List Frame)
  | [] => none
  | f :: fs =>
    match spillTail (i + 1) fs with
    | some (c, gs) => some (c, f :: gs)
    | none =>
      match (movableOf i ((fs.map Frame.cells).sum) f).getLast? with
      | none => none
      | some j => some ((f.chain.getD j none).getD 0, { f with chain := f.chain.set j none } :: fs)

/-- The queue with the most movable cells of those whose profile has `SPILL_OK`, and how many it has: 0 when no movable cell remains. -/
def State.spillPick (s : State) : Nat × Nat :=
  s.qmg.queues.foldl (fun b e =>
    let m := movables 0 e.2.frames
    if s.spillOk e.1 && b.2 < m then (e.1, m) else b) (0, 0)

/-! ### The end of a frame (R237, R252, R265, R278, R317) -/

/-- A sweep copy completes (R264): its member leaves the copies in flight, and is unreached unless the copy completed OK. The
round's sending ends with its last copy. -/
def cvnCopyEnd (now cid ord status : Nat) (c : Caravan) : Caravan :=
  if c.cid ≠ cid then c
  else
    let fl := c.inFlight.erase ord
    let un := c.unreached.filter (· ≠ ord)
    let c1 := { c with inFlight := fl, unreached := if status = 0 then un else ord :: un }
    if c1.phase = 2 && fl.isEmpty && c1.toSend.isEmpty then { c1 with phase := 3, waitEnd := now + ms (100 * c1.window) } else c1

/-- A copy of a flood ends: its sender hears of the first one (R317), and a flood that has no interval left goes with it. -/
def State.floodHeard (s : State) (n status time attempts beam cause detail : Nat) : State :=
  match s.mesh.floods.find? (fun x => x.n = n) with
  | none => s
  | some x =>
    let rest := s.mesh.floods.filter (fun (y : Flood) => y.n ≠ n)
    let s1 := { s with mesh := { s.mesh with floods := if x.left = 0 then rest else { x with sent := true } :: rest } }
    match x.origin with
    | .host f => if x.sent then s1 else s1.txDone f status (w32 time) attempts beam false cause detail
    | _ => s1

/-- Whoever sent a frame or datagram hears of its end: a partition gets its transmit completion (R317), a Caravan its copy's. -/
def State.originEnd (s : State) (o : Origin) (status time attempts beam : Nat) (twin : Bool) (cause detail : Nat) : State :=
  match o with
  | .host f => s.txDone f status (w32 time) attempts beam twin cause detail
  | .caravan cid ord =>
    { s with cvn := { s.cvn with open_ := s.cvn.open_.map (cvnCopyEnd s.now cid ord status) } }
  | .flood n => s.floodHeard n status time attempts beam cause detail
  | _ => s

/-- Every frame of a datagram, with its queue. -/
def State.gramFrames (s : State) (g : Nat) : List (Nat × Frame) :=
  s.qmg.queues.flatMap (fun e => (e.2.frames.filter (fun f => f.gram = some g)).map (fun f => (e.1, f)))

/-- A transmission of a frame is cut at its next symbol boundary (R289). -/
def State.cutFrame (s : State) (id : Nat) : State :=
  { s with air := s.air.map (fun t => if t.frame = id && !t.ended then { t with cut := true } else t) }

/-! ### Neighbours that a queue serves (R140, R157) -/

def State.nbr (s : State) (n : Nat) : Nbr := aget {} n s.link.nbrs

def State.setNbr (s : State) (n : Nat) (x : Nbr) : State := { s with link := { s.link with nbrs := aset {} n x s.link.nbrs } }

/-- `MIN_BE` and `MAX_BE` as they act (R157). -/
def State.maxBe (s : State) (p : Nat) : Nat := s.fld (R.PAN_BACKOFF p) F.PAN_BACKOFF_MAX_BE
def State.minBe (s : State) (p : Nat) : Nat := min (s.fld (R.PAN_BACKOFF p) F.PAN_BACKOFF_MIN_BE) (s.maxBe p)

/-- Backoff returns to its start. -/
def State.backoffReset (s : State) (n : Nat) : State :=
  let x := s.nbr n
  s.setNbr n { x with be := s.minBe x.pan, bw := 0 }

/-- The neighbour has no frame queued. -/
def State.nbrEmpty (s : State) (n : Nat) : Bool := [0, 1, 2, 3].all (fun c => (s.queue (qNbr n c)).frames.isEmpty)

/-- Backoff returns to its start whenever the neighbour's queues become empty, by whatever route a frame leaves them (R157). -/
def State.nbrIdle (s : State) (n : Nat) : State := if (s.nbr n).valid && s.nbrEmpty n then s.backoffReset n else s

/-- A frame leaves its queue and its cells are free; a committed transmission of it is cut or withdrawn (R289). Whoever removes a frame has compared
the two copies of its queue (R287): `finish` and `dropChecked` do; the fragments of a datagram are in one queue. -/
def State.drop (s : State) (q : Nat) (f : Frame) : State :=
  let x := s.queue q
  let s1 := s.setQueue q { x with frames := x.frames.filter (fun g => g.id ≠ f.id) }
  let s2 := (s1.release f).cutFrame f.id
  if q < 32768 then s2.nbrIdle (q / 4) else s2

/-- A frame completes with a status; its cells have been released. Fragments and twin pairs complete as one datagram: any fragment
that is not OK ends the datagram with its status and flushes the rest (R237); a pair completes at the first OK, or with the status
of the copy that failed last (R252). -/
def State.frameEnd (s : State) (f : Frame) (status cause detail : Nat) : State :=
  match f.gram with
  | none => s.originEnd f.origin status f.lastTx f.attempts f.lastBeam false cause detail
  | some g =>
    let x := aget ⟨.own, false, 0, true⟩ g s.qmg.grams
    let put (s : State) (y : Gram) : State := { s with qmg := { s.qmg with
      grams := if y.left = 0 then adel g s.qmg.grams else aput g y (adel g s.qmg.grams) } }
    let last := x.left ≤ 1
    if x.twin then
      if x.done then
        let s1 := put s { x with left := x.left - 1 }
        if status ≠ stOK then s1.bump R.MESH_CNT_TWINLATE else s1
      else if status = stOK || last then
        (put s { x with left := x.left - 1, done := true }).originEnd f.origin status f.lastTx f.attempts f.lastBeam true cause detail
      else put s { x with left := x.left - 1 }
    else if x.done then put s { x with left := x.left - 1 }
    else if status ≠ stOK then
      let s1 := (s.gramFrames g).foldl (fun s e => s.drop e.1 e.2) s
      ({ s1 with qmg := { s1.qmg with grams := adel g s1.qmg.grams } }).originEnd f.origin status f.lastTx f.attempts f.lastBeam
        false cause detail
    else if last then (put s { x with left := 0 }).originEnd f.origin stOK f.lastTx f.attempts f.lastBeam false 0 0
    else put s { x with left := x.left - 1 }

/-- A frame completes and leaves its queue. -/
def State.finishNow (s : State) (q : Nat) (f : Frame) (status cause detail : Nat) : State :=
  (s.drop q f).frameEnd f status cause detail

/-- A frame is in a queue. -/
def State.inQueue (s : State) (q : Nat) (f : Frame) : Bool := (s.queue q).frames.any (fun g => g.id = f.id)

/-! ### Queue faults (R287) -/

/-- What the queue manager holds twice for a queue, as its frames have it. -/
def Queue.ptrs (x : Queue) : QPtr :=
  { head := x.frames.head?.bind (fun f => f.onDie.head?)
    tail := x.frames.getLast?.bind (fun f => f.onDie.getLast?)
    cells := x.cells
    frames := x.frames.length }

/-- The two copies of a queue's pointers differ. -/
def Queue.mismatch (x : Queue) : Bool := x.second.any (fun c => c ≠ x.ptrs)

/-- The two copies of a queue's pointers differ: its frames are released, host frames complete QUEUE_FAULT, and both copies are those of the empty
queue. -/
def State.queueFault (s : State) (q : Nat) : State :=
  let x := s.queue q
  let n := x.frames.length
  let s1 := x.frames.foldl (fun s f => if s.inQueue q f then s.finishNow q f stQUEUE_FAULT 0 0 else s) s
  let s2 := s1.setQueue q { s1.queue q with frames := [], second := none }
  ((s2.evtF 5 0 (w32 q) (w32 n) 0).bump R.QMG_CNT_FAULT).ledger 0x0030 0 (w32 q) (w32 n) 0

/-- Every operation on a queue compares the two copies first. -/
def State.queueCheck (s : State) (q : Nat) : State := if (s.queue q).mismatch then s.queueFault q else s

/-- A queued frame completes and leaves; a queue fault that the removal finds has ended it already (R287). -/
def State.finish (s : State) (q : Nat) (f : Frame) (status cause detail : Nat) : State :=
  if (s.queue q).mismatch then
    let s1 := s.queueFault q
    if s1.inQueue q f then s1.finishNow q f status cause detail else s1
  else s.finishNow q f status cause detail

/-- A removal of a frame that is no completion compares the two copies first (R287): a queue fault ends the frame instead. -/
def State.dropChecked (s : State) (q : Nat) (f : Frame) : State :=
  if (s.queue q).mismatch then s.queueFault q else s.drop q f

/-- A frame that fails its frame check word is discarded (R370). -/
def State.frameCheckFail (s : State) (q : Nat) (f : Frame) : State :=
  ((s.finish q f stQUEUE_FAULT 0 0).bump R.SAFE_CNT_FRAMECHK).ledger 0x0033 0 (w32 q) (w32 f.ingress) 0

/-! ### Flush (R289) -/

/-- A flush of one frame (R289): a flush of a datagram flushes both copies of a pair (R252). -/
def State.flushFrame (s : State) (q : Nat) (f : Frame) : State := if s.inQueue q f then s.finish q f stFLUSHED 0 0 else s

/-- Every frame of a queue is flushed. -/
def State.flushQueue (s0 : State) (q : Nat) : State :=
  let s := s0.queueCheck q
  (s.queue q).frames.foldl (fun s f => s.flushFrame q f) s

/-! ### Spilling (R284) -/

/-- Middle cells move until the count reaches `SPILL_HIGH`, no movable cell remains or no spill cell is free. -/
def State.spillLoop (s : State) (high : Nat) : Nat → State
  | 0 => s
  | n + 1 =>
    if high ≤ s.freeCells || s.spillFree = 0 then s
    else
      let (q, m) := s.spillPick
      if m = 0 then s
      else if (s.queue q).mismatch then State.spillLoop (s.queueFault q) high n
      else
        match spillTail 0 (s.queue q).frames with
        | none => s
        | some (c, fs) => State.spillLoop ((s.setQueue q { s.queue q with frames := fs }).freeChain [c]) high n

/-- Spill, when the free count has fallen below `SPILL_LOW` (R284); not in Hush, when no queue changes (R290). -/
def State.spill (s : State) : State :=
  if s.pwr.hush then s else
  let low := s.fld R.QMG_THRESH F.QMG_THRESH_SPILL_LOW
  let high := max low (s.fld R.QMG_THRESH F.QMG_THRESH_SPILL_HIGH)
  if s.freeCells < low then s.spillLoop high (high - s.freeCells) else s

/-- A chain of `n` cells is taken: the lowest free ones, fewer where fewer are free (the choice of cells DESIGN CHOICE, log entry 8); the free count
may have fallen below `SPILL_LOW` then. -/
def State.takeChain (s : State) (n : Nat) : List Nat × State :=
  let cs := pickCells (min n s.freeCells) 0 s.qmg.used
  (cs, (s.setUsed (cs.foldl (fun u c => cellInsert c u) s.qmg.used)).spill)

/-! ### Shapers (R293 to R295) -/

def unlimited : Nat := 0xFFFFFF

def State.shaper (s : State) (i : Nat) : Shaper := aget {} i s.shp.shapers

def State.setShaper (s : State) (i : Nat) (x : Shaper) : State :=
  { s with shp := { s.shp with shapers := aset {} i x s.shp.shapers } }

/-- The level of a shaper at an instant: `RATE` / 8 bytes per µs times 10^-3 per kb/s, held to 1/65,536 byte, up to `BURST`. -/
def Shaper.settle (x : Shaper) (now : Nat) : Shaper :=
  let full : Int := x.burst * 65536
  let lv : Int := if x.rate = unlimited then full else min full (x.level + (x.rate * (now - x.at_) * 32 / 1000 : Nat))
  { x with level := lv, at_ := now }

/-- A shaper lets its queues send: its level is 0 or more, or it is unlimited. -/
def Shaper.permits (x : Shaper) (now : Nat) : Bool := x.rate = unlimited || decide (0 ≤ (x.settle now).level)

/-- A frame's charge (R293). -/
def Shaper.charge (x : Shaper) (len : Nat) : Nat := (max 1 ((len : Int) + x.adjust)).toNat

/-- A write of `RATE` (R294). -/
def Shaper.setRate (x : Shaper) (now rate : Nat) : Shaper :=
  let y := x.settle now
  { y with rate := rate, level := if rate = unlimited then y.burst * 65536 else y.level }

/-- A write of `BURST` (R294): a level above it falls to it, a debt stays. -/
def Shaper.setBurst (x : Shaper) (now burst : Nat) : Shaper :=
  let y := x.settle now
  { y with burst := burst, level := if y.rate = unlimited then burst * 65536 else min y.level (burst * 65536) }

/-- A queue's shaper, when it is shaped. -/
def State.queueShaper (s : State) (q : Nat) : Option Nat :=
  let e := (s.queue q).entry
  if fget F.QMG_Q_DATA_SHAPE_EN e = 0 then none else some (fget F.QMG_Q_DATA_SHAPER e)

/-- The shaper of a queue, if any, permits it to send. -/
def State.shapePermits (s : State) (q : Nat) : Bool :=
  match s.queueShaper q with
  | none => true
  | some i => (s.shaper i).permits s.now

/-- The head frame's charge is subtracted. -/
def State.shapeCharge (s : State) (q len : Nat) : State :=
  match s.queueShaper q with
  | none => s
  | some i =>
    let x := (s.shaper i).settle s.now
    if x.rate = unlimited then s.setShaper i x else s.setShaper i { x with level := x.level - (x.charge len * 65536 : Nat) }

/-- The frame a queue shows to its consumer: none while it is empty, its head is not wholly on die (R285), or its shaper holds it. -/
def State.qHead (s : State) (q : Nat) : Option Frame :=
  match (s.queue q).frames with
  | [] => none
  | f :: _ => if f.spilled ≠ 0 || !s.shapePermits q then none else some f

/-! ### Joining a queue (R282, R291) -/

/-- Puts a frame at the tail; its cells have been taken. -/
def State.qAppend (s : State) (q : Nat) (f : Frame) : State :=
  let x := s.queue q
  s.setQueue q { x with frames := x.frames ++ [{ f with enq := s.now }] }

/-- A new frame number. -/
def State.newId (s : State) : Nat × State := (s.qmg.nextId, { s with qmg := { s.qmg with nextId := s.qmg.nextId + 1 } })

/-- The window reader's current frame is released. -/
def State.popRelease (s : State) : State :=
  match s.qmg.popCur with
  | none => s
  | some f =>
    let s1 := s.release f
    { s1 with qmg := { s1.qmg with popCur := none, popOff := 0 } }

/-- The window reader takes the head of a window queue as the current frame, and its charge is taken at this dequeue; the answer of
`QMG_POP_WAIT` (R292). A queue whose shaper holds it counts as empty to the reader as to every consumer (R293), and in Hush it does not change
(R290). -/
def State.popTake (s : State) (k : Nat) : Option (Word × State) :=
  match (if s.pwr.hush then none else s.qHead (qWindow k)) with
  | none => none
  | some f =>
    let s0 := (s.shapeCharge (qWindow k) f.len).popRelease
    let s1 := s0.setQueue (qWindow k) { s.queue (qWindow k) with frames := (s.queue (qWindow k)).frames.drop 1 }
    some (w32 (f.len % 4096 + f.tsId % 65536 * 2 ^ 12), { s1 with qmg := { s1.qmg with popCur := some f, popOff := 0 } })

/-- The oldest stalled read is answered: across the Pass when it came as REG_RD. -/
def State.popAnswer (s : State) (w : Word) : State :=
  match s.qmg.popWait with
  | [] => s
  | (_, tag) :: r =>
    let s1 := { s with qmg := { s.qmg with popWait := r } }
    match tag with
    | some t => s1.regRsp 0 t w
    | none => s1.answer 0 w

/-- A frame has reached a window queue: a stalled read of `QMG_POP_WAIT` takes it. -/
def State.popServe (s : State) (k : Nat) : State :=
  if !s.qmg.popWait.isEmpty && s.fld R.QMG_POP_Q F.QMG_POP_Q_WINDOW = k then
    match s.popTake k with
    | none => s
    | some (w, s1) => s1.popAnswer w
  else s

/-- A tap's copy of an admitted frame, in new cells (R291); the copy keeps the low 16 bits of the source queue in `tsId`. -/
def State.tapOne (s : State) (q : Nat) (f : Frame) (k : Nat) : State :=
  let r := R.QMG_TAP k
  if !s.flag r F.QMG_TAP_EN || s.fld r F.QMG_TAP_SOURCE ≠ q then s
  else if (s.queueRefuses (qWindow k) f.cells f.yellow).isSome || !s.cellsOk f.cells false then s.bump R.QMG_CNT_TAPSKIP
  else
    let (i, s1) := (s.queueCheck (qWindow k)).newId
    let (cs, s2) := s1.takeChain f.cells
    (s2.qAppend (qWindow k) { f with id := i, chain := cs.map some, origin := .own, gram := none, tsReq := false, tsId := q }).popServe k

def State.taps (s : State) (q : Nat) (f : Frame) : State :=
  if 32912 ≤ q then s else (List.range 8).foldl (fun s k => s.tapOne q f k) s

/-- A frame with the frame check word of its octets: CRC-32C (R370). -/
def Frame.checked (f : Frame) : Frame := { f with check := crc32c f.bytes }

/-- The frame check word verifies (R370). -/
def Frame.checkOk (f : Frame) : Bool := f.check == crc32c f.bytes

/-- A frame whose cells have been taken is offered to a queue, with its frame check word (R282, R370). The Bool says whether it was admitted; a refusal is counted, and
the refused frame is released and completes INSERT_FULL. An engine offers a frame only when it fits. -/
def State.offer (s0 : State) (q : Nat) (f : Frame) : State × Bool :=
  let s := s0.queueCheck q
  match s.queueRefuses q f.cells f.yellow with
  | none => (((s.qAppend q f.checked).taps q f.checked).spill, true)
  | some d =>
    let x := s.queue q
    let s1 := (s.setQueue q { x with drops := satInc x.drops }).bump R.QMG_CNT_TAILDROP
    ((s1.release f).frameEnd f stINSERT_FULL 7 d, false)

/-! ### Policers (R299 to R301) -/

inductive Colour where
  | green
  | yellow
  | red
deriving DecidableEq, Repr

def State.policer (s : State) (i : Nat) : Policer := aget {} i s.shp.policers

def State.setPolicer (s : State) (i : Nat) (x : Policer) : State :=
  { s with shp := { s.shp with policers := aset {} i x s.shp.policers } }

/-- Tokens in 1/65,536 byte that a rate gives in a time. -/
def tokens (rate dt : Nat) : Nat := rate * dt * 32 / 1000

/-- A bucket at a rate up to a size: an unlimited rate fills it. -/
def fill (rate dt size level : Nat) : Nat := if rate = unlimited then size * 65536 else min (size * 65536) (level + tokens rate dt)

/-- The buckets at an instant: in mode 0 the excess bucket takes what the committed one has no room for (RFC 2697); in mode 1 the
second bucket fills at PIR (RFC 2698). -/
def Policer.settle (x : Policer) (now : Nat) : Policer :=
  let dt := now - x.at_
  if x.mode = 0 then
    let sum := x.tc + tokens x.cir dt
    let tc := fill x.cir dt x.cbs x.tc
    { x with tc := tc, te := if x.cir = unlimited then x.ebs * 65536 else min (x.ebs * 65536) (x.te + (sum - tc)), at_ := now }
  else { x with tc := fill x.cir dt x.cbs x.tc, te := fill x.pir dt x.ebs x.te, at_ := now }

/-- The colour a policer gives a frame, from the colour it has. -/
def Policer.mark (x : Policer) (now len : Nat) (c : Colour) : Colour × Policer :=
  if x.cir = unlimited then (if x.aware then c else .green, x)
  else
    let y := x.settle now
    let b := len * 65536
    let inC := if y.aware then c else .green
    if y.mode = 0 then
      if inC = .green && b ≤ y.tc then (.green, { y with tc := y.tc - b })
      else if inC ≠ .red && b ≤ y.te then (.yellow, { y with te := y.te - b })
      else (.red, y)
    else if inC = .red || y.te < b then (.red, y)
    else if inC = .yellow || y.tc < b then (.yellow, { y with te := y.te - b })
    else (.green, { y with te := y.te - b, tc := y.tc - b })

/-- A frame never improves its colour (R300). -/
def Colour.worst : Colour → Colour → Colour
  | .red, _ | _, .red => .red
  | .yellow, _ | _, .yellow => .yellow
  | .green, .green => .green

/-- A frame meets a policer, which counts it (R300, R301). -/
def State.police (s : State) (i len : Nat) (c : Colour) : Colour × State :=
  let (m, x) := (s.policer i).mark s.now len c
  let out := Colour.worst c m
  let y := match out with
    | .green => { x with green := satInc x.green }
    | .yellow => { x with yellow := satInc x.yellow }
    | .red => { x with red := satInc x.red }
  (out, s.setPolicer i y)

/-- The ingress policer of a source, `SHP_INGi` (R300). -/
def State.policeIngress (s : State) (i len : Nat) (c : Colour) : Colour × State :=
  if s.flag (R.SHP_ING i) F.SHP_ING_EN then s.police (s.fld (R.SHP_ING i) F.SHP_ING_POLICER) len c else (c, s)

end Sys2Proof.Machine
end

