-- ==== Sys2Proof/Machine/QueueCmd.lean ====
section
/-! DEFINITION. The commands and events of the queues, the egress scheduler, the window reader, shapers and policers
(R277 to R303). -/

namespace Sys2Proof.Machine

/-! ### Refill, audit, entries -/

/-- A spilled cell in error discards its frame: QUEUE_FAULT to a host ring, counted and logged (R285). -/
def State.spillError (s : State) (q : Nat) (f : Frame) (cell : Nat) : State :=
  ((s.finish q f stQUEUE_FAULT 0 0).bump R.QMG_CNT_SPILLERR).ledger 0x0031 0 (w32 q) (w32 cell) 0

/-- Spilled cells among the first `k` of a chain come back into cells of a pool, as far as it goes: the chain and the rest of the pool. -/
def fillChain (k : Nat) : List (Option Nat) → List Nat → List (Option Nat) × List Nat
  | none :: r, c :: pool =>
    if k = 0 then (none :: r, c :: pool)
    else
      let (r1, p1) := fillChain (k - 1) r pool
      (some c :: r1, p1)
  | x :: r, pool =>
    let (r1, p1) := fillChain (k - 1) r pool
    (x :: r1, p1)
  | [], pool => ([], pool)

/-- The first frames of a queue come back on die: the head wholly, the next with its first 2 cells (R285). -/
def refill (pool : List Nat) : List Frame → List Frame
  | [] => []
  | [f] => [{ f with chain := (fillChain f.cells f.chain pool).1 }]
  | f :: g :: r =>
    let (c, p1) := fillChain f.cells f.chain pool
    { f with chain := c } :: { g with chain := (fillChain 2 g.chain p1).1 } :: r

/-- Cells that a refill of a queue needs. -/
def refillNeed : List Frame → Nat
  | [] => 0
  | [f] => f.spilled
  | f :: g :: _ => f.spilled + (g.chain.take 2).count none

/-- The frame whose cell in error a refill of these frames would read, with that cell: the head, or the next frame while one of its first 2 cells
is spilled. -/
def refillBad : List Frame → Option (Frame × Nat)
  | [] => none
  | [f] => f.spillBad.map (f, ·)
  | f :: g :: _ =>
    match f.spillBad with
    | some c => some (f, c)
    | none => if (g.chain.take 2).contains none then g.spillBad.map (g, ·) else none

/-- Frames with an error in a spilled cell are discarded as the refill comes to them. -/
def State.spillErrors (s : State) (q : Nat) : Nat → State
  | 0 => s
  | n + 1 =>
    match refillBad (s.queue q).frames with
    | none => s
    | some (f, c) => State.spillErrors (s.spillError q f c) q n

/-- REFILL_DONE: a queue's spilled head frame is back on die, and the first cells of the next, down to no free cell; a frame with an error in a spilled
cell is discarded. -/
def execRefillDone (q : Nat) (s : State) : Host.Outcome State Fault Refusal :=
  .next (
    if s.pwr.hush then s
    else
      let s0 := s.queueCheck q
      let s1 := s0.spillErrors q (s0.queue q).frames.length
      let (cs, s2) := s1.takeChain (refillNeed (s1.queue q).frames)
      let y := s2.queue q
      (s2.setQueue q { y with frames := refill cs y.frames }).spill)

/-- CELL_AUDIT (R288): cells that are not free and belong to no chain are returned to the free pool. -/
def execCellAudit (s : State) : Host.Outcome State Fault Refusal :=
  .next (
    let held := s.chains.flatten
    let lost := s.qmg.used.filter (fun c => !held.contains c)
    if lost.isEmpty then s
    else ((s.freeChain lost).bumpBy R.QMG_CNT_LEAK lost.length).ledger 0x0032 0 (w32 lost.length) 0 0)

/-- A write of a `QMG` or `SHP` register by another partition than 0 (R303). -/
def State.qmgWriter (s : State) (p : Nat) (ok : State) : State := if p = 0 then ok else s.err R.QMG_ERR F.QMG_ERR_PART_WRITE
def State.shpWriter (s : State) (p : Nat) (ok : State) : State := if p = 0 then ok else s.err R.SHP_ERR F.SHP_ERR_PART_WRITE

/-- `QMG_Q_ADDR` advances, wrapping 36,863 to 0. -/
def State.qAddrNext (s : State) : State :=
  if s.flag R.QMG_Q_ADDR F.QMG_Q_ADDR_AUTOINC then
    let q := s.fld R.QMG_Q_ADDR F.QMG_Q_ADDR_QUEUE
    s.setFld R.QMG_Q_ADDR F.QMG_Q_ADDR_QUEUE (if q = 36863 then 0 else q + 1)
  else s

/-- A write of `QMG_Q_DATA` (R280, R281): a reserved queue number sets `QUEUE_INVALID`. -/
def State.qEntryWrite (s : State) (p : Nat) (data : Word) : State :=
  s.qmgWriter p (
    let q := s.fld R.QMG_Q_ADDR F.QMG_Q_ADDR_QUEUE
    let s1 := if queueValid q then s.setQueue q { s.queue q with entry := data &&& 0x7FFF }
      else s.err R.QMG_ERR F.QMG_ERR_QUEUE_INVALID
    s1.qAddrNext)

def execQueueEntryWrite (p : Part) (data : Word) (s : State) : Host.Outcome State Fault Refusal := .next (s.qEntryWrite p.val data)

/-! ### The egress scheduler (R290, R339) -/

/-- The link that serves a port's queues: LAN A's under PRP while either LAN is up. -/
def State.ethServed (s : State) (e : Nat) : Bool :=
  let up (e : Nat) := s.flag (R.ETH_STATUS e) F.ETH_STATUS_LINK
  if s.flag R.PRP_CFG F.PRP_CFG_PRP_EN && e < 2 then e = 0 && (up 0 || up 1) else up e

/-- Octets toward the H-die's egress FIFO of a port and priority: in the FIFO, and on their way across the Pass to port `to_`. -/
def State.egressUse (s : State) (e to_ prio : Nat) : Nat :=
  ((s.eth.tx.filter (fun t => t.port = e && t.prio = prio)).map (fun t => t.bytes.length)).sum
    + ((s.qmg.upSide.filter (fun u => u.2.port = 48 + to_ && u.2.prio = prio)).map (fun u => u.2.len)).sum

/-- The egress FIFO of a port and priority has credit for a frame (R290); under PRP the FIFOs of both LANs take it. The spec gives the FIFOs no
size (log entry 104). -/
def State.egressCredit (s : State) (e prio len : Nat) : Bool :=
  (if s.flag R.PRP_CFG F.PRP_CFG_PRP_EN && e = 0 then [0, 1] else [e]).all (fun k =>
    decide (s.egressUse k e prio + len ≤ Config.egressFifo))

/-- The queue the scheduler takes for an Ethernet port: the highest priority that is not empty, whose shaper permits, and whose egress FIFO has
credit. -/
def State.ethPick (s : State) (e : Nat) : Option Nat :=
  ((List.range 8).reverse.map (qEth e)).find? (fun q => (s.qHead q).any (fun f => s.egressCredit e (q % 8) f.bytes.length))

/-- The descriptors set aside for frames on their way to a ring, and then those of a frame of `len` octets; `none` when the posted
descriptors do not suffice (R290). -/
def State.rxRoom (s : State) (p ring : Nat) : List Nat → Nat → Nat → Bool
  | [], _, _ => true
  | len :: ls, n, i =>
    match s.rxPlan p ring n i len with
    | none => false
    | some plan => State.rxRoom s p ring ls (n - plan.length) ((i + plan.length) % 65536)

/-- An RX ring can take the head frame of its queue. -/
def State.rxReady (s : State) (p r : Nat) : Bool :=
  match s.qHead (qHost p r) with
  | none => false
  | some f =>
    s.ringSize p (16 + r) ≠ 0 &&
      s.rxRoom p (16 + r) (((s.qmg.aside.filter (fun a => a.1 = p && a.2.1 = r)).map (fun a => a.2.2)) ++ [f.bytes.length])
        (s.ringPosted p (16 + r)) (s.ringChip p (16 + r))

/-- The queue the scheduler takes for a partition: the next of its ready RX queues after the one served last. -/
def State.hostPick (s : State) (p : Nat) : Option Nat :=
  let t := aget 0 p s.qmg.rxTurn
  (((List.range 16).map (fun k => (t + k) % 16)).find? (s.rxReady p)).map (qHost p)

/-- The retry buffer of the F-die has room for a FRAME_UP of a frame: nothing waits for room, and it fits. -/
def State.upRoom (s : State) (f : Frame) : Bool :=
  s.pass.fh.waiting.isEmpty && decide ((s.pass.fh.retry.map passBytes).sum + 48 + (f.bytes.length + 3) / 4 * 4 ≤ 65536)

/-- FRAME_UP of a head frame (R278, R320): its charge is taken; the message is placed in the retry buffer and its cells are free. -/
def State.sendUp (s : State) (q port0 ring part : Nat) (f : Frame) : State :=
  let port := if f.lanB then 49 else port0
  let s1 := s.shapeCharge q f.len
  let w0 := w32 (port % 64 + ring % 16 * 2 ^ 6 + (if f.tsReq then 2 ^ 10 else 0) + f.tsId % 65536 * 2 ^ 11)
  let w1 := (wordAt f.up 0 &&& 0xFFFEFFFF) ||| (if f.yellow then 0x10000 else 0)
  let seq := s1.pass.fh.next.toNat
  let s2 := s1.passSend .f 0x03 part false (32 + f.bytes.length)
    (w0 :: w1 :: (List.range 6).map (fun k => wordAt f.up (k + 1)) ++ bytesWords f.bytes)
  let src := match f.origin with | .host d => some d | _ => none
  let x := s2.queue q
  let s3 := (s2.setQueue q { x with frames := x.frames.drop 1 }).release f
  { s3 with qmg := { s3.qmg with
      upSide := s3.qmg.upSide ++ [(seq, ⟨src, f.prio, f.direct, port, f.bytes.length⟩)]
      aside := if 52 ≤ port then s3.qmg.aside ++ [(part, ring, f.bytes.length)] else s3.qmg.aside
      rxTurn := if 52 ≤ port then aset 0 part ((ring + 1) % 16) s3.qmg.rxTurn else s3.qmg.rxTurn } }

/-- The scheduler serves a queue: a frame is checked before FRAME_UP (R370), and stays in its queue, with its cells, until the retry buffer has room for
the message, since placing it there is what releases the cells (R278; DEDUCED, log entry 8). -/
def State.serve (s0 : State) (q port ring part : Nat) : State :=
  let s := s0.queueCheck q
  match s.qHead q with
  | none => s
  | some f => if !f.checkOk then s.frameCheckFail q f else if s.upRoom f then s.sendUp q port ring part f else s

/-- EGRESS_DEQUEUE for forwarding port 48 to 55. -/
def execEgressDequeue (port : Fin 8) (s : State) : Host.Outcome State Fault Refusal :=
  .next (
    if s.pwr.hush || !s.passUp then s
    else if port.val < 4 then
      (if !s.ethServed port.val then s
       else match s.ethPick port.val with
        | none => s
        | some q => s.serve q (48 + port.val) 0 0)
    else
      let p := port.val - 4
      match s.hostPick p with
      | none => s
      | some q => s.serve q (52 + p) (q - qHost p 0) p)

/-! ### The window reader (R292) -/

/-- Octets of a frame as the window reader sees it: 32 bytes of metadata, then the frame. -/
def Frame.windowBytes (f : Frame) : List Byte :=
  wordsBytes (w32 0 :: (List.range 7).map (fun k => wordAt f.up k)) ++ f.bytes

/-- `WAIT_LIMIT` in µs as it acts. -/
def State.waitLimit (s : State) : Nat := min 40 (s.fld R.QMG_WAIT_LIMIT F.QMG_WAIT_LIMIT_WAIT_LIMIT)

/-- A read of `QMG_POP_WAIT`: it takes the next frame, or stalls until one arrives or `WAIT_LIMIT` expires. In Hush, when no queue changes (R290), it takes
none. -/
def State.popWaitRead (s : State) (p : Nat) : State :=
  if p ≠ 0 then s.answer p 0
  else
    let k := s.fld R.QMG_POP_Q F.QMG_POP_Q_WINDOW
    let s1 := if s.pwr.hush then s.popRelease else s.popRelease.queueCheck (qWindow k)
    match s1.popTake k with
    | some (w, s2) => s2.answer 0 w
    | none =>
      if s1.waitLimit = 0 then s1.answer 0 0xFFFFFFFF
      else { s1 with qmg := { s1.qmg with popWait := s1.qmg.popWait ++ [(s1.now + us s1.waitLimit, none)] } }

def execPopWait (p : Part) (s : State) : Host.Outcome State Fault Refusal := .next (s.popWaitRead p.val)

/-- `WAIT_LIMIT` expires: the oldest stalled read returns EMPTY. -/
def execPopWaitExpiry (s : State) : Host.Outcome State Fault Refusal :=
  .next (
    match s.qmg.popWait with
    | [] => s
    | (t, _) :: _ => (s.advanceTo t).popAnswer 0xFFFFFFFF)

/-- A read of `QMG_POP_DATA`: the next 4 octets of the current frame, 0 past its end. -/
def State.popDataRead (s : State) (p : Nat) : State :=
  if p ≠ 0 then s.answer p 0
  else
    match s.qmg.popCur with
    | none => s.answer 0 0
    | some f =>
      let s1 := { s with qmg := { s.qmg with popOff := s.qmg.popOff + 4 } }
      s1.answer 0 (w32 (leNat ((f.windowBytes.drop s.qmg.popOff).take 4)))

def execPopData (p : Part) (s : State) : Host.Outcome State Fault Refusal := .next (s.popDataRead p.val)

/-! ### Shapers and policers -/

/-- A write of `SHP_SH_DATA0`: `RATE` and `ADJUST` of the addressed shaper (R293, R294). -/
def State.shaperRateWrite (s : State) (p : Nat) (data : Word) : State :=
  s.shpWriter p (
    let i := s.fld R.SHP_SH_ADDR F.SHP_SH_ADDR_SHAPER
    s.setShaper i { (s.shaper i).setRate s.now (bitsAt data 0 24) with adjust := sext 7 (bitsAt data 24 7) })

def execShaperRateWrite (p : Part) (data : Word) (s : State) : Host.Outcome State Fault Refusal := .next (s.shaperRateWrite p.val data)

/-- A write of `SHP_SH_DATA1`: `BURST` (R294). -/
def State.shaperBurstWrite (s : State) (p : Nat) (data : Word) : State :=
  s.shpWriter p (
    let i := s.fld R.SHP_SH_ADDR F.SHP_SH_ADDR_SHAPER
    s.setShaper i ((s.shaper i).setBurst s.now (bitsAt data 0 20)))

def execShaperBurstWrite (p : Part) (data : Word) (s : State) : Host.Outcome State Fault Refusal := .next (s.shaperBurstWrite p.val data)

/-- A shaper's level rises to 0: the instant comes at which its queues may send again (R293), and a stalled window read takes the frame that the shaper
held. -/
def execShaperEligible (i : Fin 1024) (s : State) : Host.Outcome State Fault Refusal :=
  .next (
    let x := (s.shaper i.val).settle s.now
    if x.level < 0 && 0 < x.rate then
      let dt := (x.level.natAbs * 1000 + x.rate * 32 - 1) / (x.rate * 32)
      let s1 := s.advanceTo (s.now + dt)
      let s2 := s1.setShaper i.val (x.settle s1.now)
      if s2.pwr.hush then s2 else s2.popServe (s2.fld R.QMG_POP_Q F.QMG_POP_Q_WINDOW)
    else s)

/-- A rate written to a bucket: an unlimited one had filled it (R294, R299). -/
def Policer.setWord (x : Policer) (now w : Nat) (data : Word) : Policer :=
  let y := x.settle now
  match w with
  | 0 => { y with mode := bitsAt data 0 1, aware := bitAt data 1 }
  | 1 => { y with cir := bitsAt data 0 24 }
  | 2 => { y with pir := bitsAt data 0 24 }
  | 3 => { y with cbs := bitsAt data 0 20, tc := min y.tc (bitsAt data 0 20 * 65536) }
  | 4 => { y with ebs := bitsAt data 0 20, te := min y.te (bitsAt data 0 20 * 65536) }
  | _ => x

/-- A write of `SHP_POL_DATA` (R299). -/
def State.policerWrite (s : State) (p : Nat) (data : Word) : State :=
  s.shpWriter p (
    let i := s.fld R.SHP_POL_ADDR F.SHP_POL_ADDR_POLICER
    s.setPolicer i ((s.policer i).setWord s.now (s.fld R.SHP_POL_ADDR F.SHP_POL_ADDR_WORD) data))

def execPolicerWrite (p : Part) (data : Word) (s : State) : Host.Outcome State Fault Refusal := .next (s.policerWrite p.val data)

/-! ### Depth and sojourn sampling (R302) -/

/-- The bin of a sample. -/
def histBin (v : Nat) : Nat := if v = 0 then 0 else min 15 (Nat.log2 v + 1)

/-- The queues of a class. -/
def inClass (c q : Nat) : Bool :=
  if c < 4 then isRadioQ q && q % 4 == c
  else if c < 12 then 32800 ≤ q && q < 32832 && q % 8 == c - 4
  else 32832 ≤ q && q < 32896

/-- One sample increments a bin. -/
def State.histPut (s : State) (c kind v : Nat) : State :=
  { s with qmg := { s.qmg with hist := amod 0 (c * 32 + kind * 16 + histBin v) satInc s.qmg.hist } }

/-- The oldest head frame's age among a class's queues, in ms for the radio classes and µs for the others. -/
def State.sojourn (s : State) (c : Nat) : Nat :=
  let ages := (s.qmg.queues.filter (fun e => inClass c e.1)).filterMap (fun e => e.2.frames.head?.map (fun f => s.now - f.enq))
  ages.foldl max 0 / (if c < 4 then ms 1 else us 1)

def State.depth (s : State) (c : Nat) : Nat :=
  ((s.qmg.queues.filter (fun e => inClass c e.1)).map (fun e => e.2.cells)).sum

/-- DEPTH_SAMPLE: every 1 ms depth and sojourn of 13 classes are binned. -/
def execDepthSample (s : State) : Host.Outcome State Fault Refusal :=
  .next ((List.range 13).foldl (fun s c => (s.histPut c 0 (s.depth c)).histPut c 1 (s.sojourn c)) s)

end Sys2Proof.Machine
end

