-- ==== Sys2Proof/Machine/Eth.lean ====
section
/-! DEFINITION. The Ethernet ports: configuration, reception, PRP, framing and sending, transmit timestamps, gate lists and the
MDIO bus (R296 to R298, R334 to R345, R365). -/

namespace Sys2Proof.Machine

/-! ### Ports (R334, R335) -/

/-- A write of an `ETH`, `PRP`, `PTP` or `TMR` register by another partition than 0 is refused (R365). -/
def State.only0 (s : State) (p : Nat) (k : Nat) (f : Fld) (ok : State) : State := if p = 0 then ok else s.err k f

/-- ETH_LINK (R364). -/
def State.ethLinkEvt (s : State) (e : Nat) : State :=
  s.evtF 23 0 (w32 e) (w32 (s.fld (R.ETH_STATUS e) F.ETH_STATUS_LINK + s.fld (R.ETH_STATUS e) F.ETH_STATUS_SPEED * 2)) 0

/-- City time on the H-die (R342): the copy of R23. -/
def State.portTime (s : State) : Nat := s.hCityNs

/-- The first frame of each port and priority has become so at an instant, unless it was first already; `seen` are ports and priorities that have
one. -/
def markHeads (now : Nat) (seen : List (Nat × Nat)) : List EthTx → List EthTx
  | [] => []
  | t :: r =>
    if seen.contains (t.port, t.prio) then t :: markHeads now seen r
    else { t with headAt := if t.headAt = 0 then now + 1 else t.headAt } :: markHeads now ((t.port, t.prio) :: seen) r

/-- The frames in the egress FIFOs of the H-die. -/
def State.setTx (s : State) (l : List EthTx) : State := { s with eth := { s.eth with tx := markHeads s.portTime [] l } }

/-- An Ethernet frame is dropped on the H-die. A host frame of which no copy is left ends so; the spec gives it no status: a free value (log entry
11). -/
def State.ethLost (s : State) (t : EthTx) : State :=
  match t.src with
  | none => s
  | some f =>
    if s.eth.tx.any (fun u => u.src = some f) then s
    else
      let (st, s1) := s.draw 16
      s1.txDoneH f st 0 0

/-- Redundant copies for a LAN whose link is down are discarded (R340); a frame that is no copy stays. -/
def State.prpLinkDown (s : State) (e : Nat) : State :=
  if s.flag R.PRP_CFG F.PRP_CFG_PRP_EN && e < 2 then
    let gone := s.eth.tx.filter (fun t => t.port = e && t.copy)
    gone.foldl State.ethLost ((s.setTx (s.eth.tx.filter (fun t => !(t.port = e && t.copy)))).bumpBy R.PRP_CNT_LANDOWN gone.length)
  else s

/-- A port's link goes up or down; every change is raised. -/
def State.ethLink (s : State) (e : Nat) (up : Bool) (speed : Nat) (los : Bool) : State :=
  let was := s.flag (R.ETH_STATUS e) F.ETH_STATUS_LINK
  let up' := up && s.flag (R.ETH_CFG e) F.ETH_CFG_EN && !(e < 2 && los)
  let sp := if e < 2 then 0 else if s.flag (R.ETH_CFG e) F.ETH_CFG_MODE then max 1 (min 3 speed) else 1
  let s1 := s.wr (R.ETH_STATUS e) (w32 ((if up' then 1 else 0) + sp * 2 + (if los && e < 2 then 8 else 0)))
  let s2 := if up' then s1 else s1.prpLinkDown e
  if was ≠ up' then s2.ethLinkEvt e else s2

/-- A write of `ETH_eCFG` (R335): while the port is enabled `MODE` and `MAX_LEN` stay and a different value sets `CFG_BUSY`. -/
def State.ethCfg (s : State) (p e : Nat) (data : Word) : State :=
  s.only0 p R.ETH_ERR F.ETH_ERR_PART_WRITE (
    let k := R.ETH_CFG e
    let old := s.rd k
    let d := data &&& 0x1FFFFFFF
    let en := s.flag k F.ETH_CFG_EN
    let same := fget F.ETH_CFG_MODE d = fget F.ETH_CFG_MODE old && fget F.ETH_CFG_MAX_LEN d = fget F.ETH_CFG_MAX_LEN old
    let v := if en then fset F.ETH_CFG_MODE (fset F.ETH_CFG_MAX_LEN d (fget F.ETH_CFG_MAX_LEN old)) (fget F.ETH_CFG_MODE old) else d
    let s1 := (if en && !same then s.err R.ETH_ERR F.ETH_ERR_CFG_BUSY else s).wr k v
    let on := fget F.ETH_CFG_EN v = 1
    if on then s1 else s1.ethLink e false (s1.fld (R.ETH_STATUS e) F.ETH_STATUS_SPEED) (s1.flag (R.ETH_STATUS e) F.ETH_STATUS_LOS))

def execPortEnable (p : Part) (e : Fin 4) (data : Word) (s : State) : Host.Outcome State Fault Refusal :=
  .next (s.ethCfg p.val e.val (fset F.ETH_CFG_EN data 1))

def execPortDisable (p : Part) (e : Fin 4) (data : Word) (s : State) : Host.Outcome State Fault Refusal :=
  .next (s.ethCfg p.val e.val (fset F.ETH_CFG_EN data 0))

def execEthLink (e : Fin 4) (up : Bool) (speed : Fin 4) (los : Bool) (s : State) : Host.Outcome State Fault Refusal :=
  .next (s.ethLink e.val up speed.val los)

/-- The fused word of a MAC address register (R335): the register file holds the word that was written, or the fused one, as its
difference from the fused one, so that it is 0 at reset. -/
def macMask (k : Nat) : Word :=
  let o := k % 4096 - 0x104
  w32 (if o % 64 = 0 then (Config.ethMac (o / 64)).toNat else (Config.ethMac (o / 64)).toNat / 2 ^ 32)

/-- A write of a port's MAC address registers is ignored while the port is enabled (R335). -/
def State.ethMacWrite (s : State) (p e k : Nat) (data : Word) : State :=
  s.only0 p R.ETH_ERR F.ETH_ERR_PART_WRITE (
    if s.flag (R.ETH_CFG e) F.ETH_CFG_EN then s.err R.ETH_ERR F.ETH_ERR_CFG_BUSY else s.wr k (data ^^^ macMask k))

/-- `MAX_LEN` as it acts: 64 to 4,068. -/
def State.maxLen (s : State) (e : Nat) : Nat := max 64 (min 4068 (s.fld (R.ETH_CFG e) F.ETH_CFG_MAX_LEN))

def State.prpOn (s : State) : Bool := s.flag R.PRP_CFG F.PRP_CFG_PRP_EN

/-- The port whose addresses and tag a port uses: LAN A's for LAN B under PRP (R340). -/
def State.addrPort (s : State) (e : Nat) : Nat := if s.prpOn && e = 1 then 0 else e

def State.macOf (s : State) (e : Nat) : Nat :=
  let lo := R.ETH_MAC_LO (s.addrPort e)
  let hi := R.ETH_MAC_HI (s.addrPort e)
  (s.rd lo ^^^ macMask lo).toNat + (s.rd hi ^^^ macMask hi).toNat % 2 ^ 16 * 2 ^ 32

def State.nhOf (s : State) (e : Nat) : Nat :=
  (s.rd (R.ETH_NH_LO (s.addrPort e))).toNat + s.fld (R.ETH_NH_HI (s.addrPort e)) F.ETH_NH_HI_NH * 2 ^ 32

/-! ### Octets of Ethernet frames -/

/-- A frame carries an IEEE 802.1Q tag. -/
def ethTagged (bs : List Byte) : Bool := beAt bs 12 2 == 0x8100

/-- Octets before the payload. -/
def ethHdr (bs : List Byte) : Nat := if ethTagged bs then 18 else 14

/-- The EtherType, read after at most one tag (R336). -/
def etherType (bs : List Byte) : Nat := beAt bs (ethHdr bs - 2) 2

/-- Priority and drop-eligible bit of a tag. -/
def ethPcp (bs : List Byte) : Nat := if ethTagged bs then beAt bs 14 2 / 2 ^ 13 else 0
def ethDei (bs : List Byte) : Bool := ethTagged bs && nbit (beAt bs 14 2) 12

/-- IEEE 802.3 PAUSE (R335): MAC control with opcode 1. -/
def isPause (bs : List Byte) : Bool := beAt bs 12 2 == 0x8808 && beAt bs 14 2 == 1

/-- The destination is the port's address, broadcast or multicast (R336). -/
def State.ethForMe (s : State) (e : Nat) (bs : List Byte) : Bool := nbit (beAt bs 0 1) 0 || beAt bs 0 6 == s.macOf e

/-! ### PRP (R340, R341) -/

/-- A valid trailer: suffix 0x88FB and an LSDU size that matches the frame. PRESUMED: the size counts the octets after the EtherType,
trailer included (log entry 10). -/
def prpTrailer (bs : List Byte) : Option (Nat × Nat) :=
  let t := bs.drop (bs.length - 6)
  if bs.length < 20 || beAt t 4 2 ≠ 0x88FB || beAt t 2 2 % 4096 ≠ bs.length - ethHdr bs then none
  else some (beAt t 0 2, beAt t 2 2 / 4096)

/-- An entry's verdict on a sequence number: whether it is marked, and the entry with it marked. -/
def PrpEntry.take (x : PrpEntry) (seq now : Nat) : Bool × PrpEntry :=
  let ahead := (seq + 65536 - x.high) % 65536
  let behind := (x.high + 65536 - seq) % 65536
  if ahead = 0 then (true, { x with last := now })
  else if behind ≤ 64 then
    (x.seen.getLsbD (behind - 1), { x with seen := x.seen ||| (1#64 <<< (behind - 1)), last := now })
  else
    (false, { x with high := seq, seen := (if ahead ≤ 64 then (x.seen <<< ahead) ||| (1#64 <<< (ahead - 1)) else 0), last := now })

/-- `PRP_USE` shows the entries. -/
def State.prpSync (s : State) : State := s.setFld R.PRP_USE F.PRP_USE_ENTRIES s.eth.prp.length

/-- Duplicate discard (R341): test and marking in one; the Bool says whether the frame is a duplicate. -/
def State.prpDup (s : State) (src seq : Nat) : State × Bool :=
  match s.eth.prp.find? (fun x => x.src = BitVec.ofNat 48 src) with
  | some x =>
    let (dup, y) := x.take seq s.now
    let s1 := { s with eth := { s.eth with prp := s.eth.prp.map (fun z => if z.src = x.src then y else z) } }
    (if dup then s1.bump R.PRP_CNT_DUP else s1, dup)
  | none =>
    let new : PrpEntry := ⟨BitVec.ofNat 48 src, seq, 0, s.now⟩
    if s.eth.prp.length < 2048 then
      (({ s with eth := { s.eth with prp := s.eth.prp ++ [new] } }).prpSync, false)
    else
      let old := s.eth.prp.foldl (fun m z => min m z.last) s.now
      let s1 := { s with eth := { s.eth with prp := (s.eth.prp.eraseP (fun (z : PrpEntry) => z.last = old)) ++ [new] } }
      ((s1.bump R.PRP_CNT_EVICT).prpSync, false)

/-- A frame received on a LAN under PRP: the octets that go on, or nothing for a duplicate. -/
def State.prpRx (s : State) (e : Nat) (bs : List Byte) : State × Option (List Byte) :=
  match prpTrailer bs with
  | none => (s.bump (if e = 0 then R.PRP_CNT_UNIQUE_A else R.PRP_CNT_UNIQUE_B), some bs)
  | some (seq, lan) =>
    let s1 := if lan = 0xA + e then s else s.bump (if e = 0 then R.PRP_CNT_WRONGLAN_A else R.PRP_CNT_WRONGLAN_B)
    let (s2, dup) := s1.prpDup (beAt bs 6 6) seq
    (s2, if dup then none else some (bs.take (bs.length - 6)))

/-- `ENTRY_FORGET` as it acts, in ms. -/
def State.entryForget (s : State) : Nat := max 1 (s.fld R.PRP_CFG F.PRP_CFG_ENTRY_FORGET)

/-- A discard-table entry is forgotten `ENTRY_FORGET` ms after its last frame. -/
def execPrpEntryForget (src : BitVec 48) (s : State) : Host.Outcome State Fault Refusal :=
  .next (
    match s.eth.prp.find? (fun x => x.src = src) with
    | none => s
    | some x =>
      let s1 := s.advanceTo (x.last + ms s.entryForget)
      ({ s1 with eth := { s1.eth with prp := s1.eth.prp.filter (fun y => y.src ≠ src) } }).prpSync)

/-- A write of `PRP_CFG` (R340): `PRP_EN` changes only while both LAN ports are disabled. -/
def State.prpCfg (s : State) (p : Nat) (data : Word) : State :=
  s.only0 p R.PRP_ERR F.PRP_ERR_PART_WRITE (
    let d := data &&& 0x7FFFFFF
    let busy := s.flag (R.ETH_CFG 0) F.ETH_CFG_EN || s.flag (R.ETH_CFG 1) F.ETH_CFG_EN
    let old := s.fld R.PRP_CFG F.PRP_CFG_PRP_EN
    if busy && fget F.PRP_CFG_PRP_EN d ≠ old then
      (s.wr R.PRP_CFG (fset F.PRP_CFG_PRP_EN d old)).err R.PRP_ERR F.PRP_ERR_PRP_BUSY
    else s.wr R.PRP_CFG d)

def execPrpConfigWrite (p : Part) (data : Word) (s : State) : Host.Outcome State Fault Refusal := .next (s.prpCfg p.val data)

/-! ### Reception (R336, R342) -/

/-- `SRC` of city time (R347). -/
def State.src (s : State) : Nat := s.fld R.TMR_SRC F.TMR_SRC_SRC
def State.domEn (s : State) (d : Nat) : Bool := s.src = 1 && s.flag (R.TMR_DOM_CFG d) F.TMR_DOM_CFG_EN

/-- The enabled tracked domains that a received PTP message is one of, on their port (R336). -/
def State.ptpDomainsOf (s : State) (e : Nat) (m : List Byte) : List Nat :=
  [0, 1].filter (fun d => s.domEn d && s.fld (R.TMR_DOM_CFG d) F.TMR_DOM_CFG_PORT = e
    && s.fld (R.TMR_DOM_CFG d) F.TMR_DOM_CFG_DOMAIN = beAt m 4 1)

/-- A frame is a PTP message of a tracked domain, which does not wake the chip (R395). -/
def State.ptpTracked (s : State) (e : Nat) (bs : List Byte) : Bool := etherType bs = 0x88F7 && !(s.ptpDomainsOf e (bs.drop (ethHdr bs))).isEmpty

/-- A received frame: octets without FCS, and whether the FCS is valid. Its timestamp is corrected by `RX_LAT` (R342). -/
def execEthFrameRx (e : Fin 4) (bs : List Byte) (fcsOk : Bool) (s : State) : Host.Outcome State Fault Refusal :=
  .next (
    let q := e.val
    let len := bs.length + 4
    if !s.flag (R.ETH_CFG q) F.ETH_CFG_EN || !s.flag (R.ETH_STATUS q) F.ETH_STATUS_LINK then s
    else if !fcsOk || len < 64 || s.maxLen q < len then s.bump (R.ETH_CNT_RXERR q)
    else if isPause bs then s.bump (R.ETH_CNT_PAUSE q)
    else if !s.ethForMe q bs then s
    else if 262144 < ((s.eth.rxFifo.filter (fun x => x.port = q)).map (fun x => x.bytes.length + 4)).sum + len then
      s.bump (R.ETH_CNT_FIFODROP q)
    else
      let s1 := s.bump (R.ETH_CNT_RXOK q)
      let (s2, keep) := if s1.prpOn && q < 2 then s1.prpRx q bs else (s1, some bs)
      match keep with
      | none => s2
      | some b =>
        let t := s2.portTime - s2.fld (R.PTP_LAT q) F.PTP_LAT_RX_LAT
        let s3 := { s2 with eth := { s2.eth with rxFifo := s2.eth.rxFifo ++ [⟨q, b, t⟩] } }
        if s3.ptpTracked q b then s3 else s3.wake 2)

/-- ETH_INGRESS_DRAIN (R278, R320): the oldest frame of a port's ingress FIFO takes its cells and crosses the Pass as FRAME_DN; it
stays while the free count would fall below `INGRESS_FLOOR`, in Hush, and until the exit from HOLD unless the servo takes it (R395). -/
def execEthIngressDrain (e : Fin 4) (s : State) : Host.Outcome State Fault Refusal :=
  .next (
    match s.eth.rxFifo.find? (fun x => x.port = e.val) with
    | none => s
    | some x =>
      let n := frameCells x.bytes.length
      if !s.passUp || s.pwr.hush || (s.pwrState = 3 && !s.ptpTracked e.val x.bytes) || !s.cellsOk n false then s
      else
        let (cs, s1) := s.takeChain n
        let s2 := { s1 with
          eth := { s1.eth with rxFifo := s1.eth.rxFifo.erase x }
          qmg := { s1.qmg with inHand := s1.qmg.inHand ++ [cs] } }
        s2.passSend .h 0x02 0 false (32 + x.bytes.length)
          ([w32 (x.bytes.length % 8192 + ethPcp x.bytes * 2 ^ 13 + (if ethDei x.bytes then 2 ^ 18 else 0)), 0,
            w32 ((48 + e.val) * 2 ^ 20), descTime x.time, 0, 0, 0, 0] ++ bytesWords x.bytes))

/-! ### Framing and the egress FIFOs (R337, R338, R340) -/

/-- Padding to 60 octets, 64 with the FCS. -/
def ethPad (bs : List Byte) : List Byte := bs ++ List.replicate (60 - bs.length) 0

/-- A routed datagram framed for port `e` (R337). -/
def State.ethFrame (s : State) (e prio : Nat) (dg : List Byte) : List Byte :=
  let dst := dg.drop 24
  let da := if beAt dst 0 1 = 0xFF then beBytes 2 0x3333 ++ (dst.drop 12).take 4 else beBytes 6 (s.nhOf e)
  let c := R.ETH_CFG (s.addrPort e)
  let tag := if s.flag c F.ETH_CFG_VLAN_EN then beBytes 2 0x8100 ++ beBytes 2 (prio * 2 ^ 13 + s.fld c F.ETH_CFG_VID) else []
  da ++ beBytes 6 (s.macOf e) ++ tag ++ beBytes 2 0x86DD ++ dg

/-- A copy with its redundancy control trailer (R340). -/
def prpCopy (bs : List Byte) (seq e : Nat) : List Byte :=
  let b := bs ++ List.replicate (54 - bs.length) 0
  b ++ beBytes 2 seq ++ beBytes 2 ((0xA + e) * 4096 + (b.length + 6 - ethHdr b) % 4096) ++ beBytes 2 0x88FB

/-- A frame joins the H-die's egress FIFO of its port. -/
def State.ethPut (s : State) (t : EthTx) : State := s.setTx (s.eth.tx ++ [t])

/-- The H-die drops a frame bound for an Ethernet port: a host frame completes, any other is only counted. -/
def State.ethRefuse (s : State) (k : Nat) (src : Option Fetched) (status cause : Nat) : State :=
  let s1 := s.bump k
  match src with
  | none => s1
  | some f => s1.txDoneH f status cause 0

/-- A frame under PRP becomes two copies with one sequence number; a copy for a LAN that is down is discarded. With both down the
spec gives a host frame no status: a free value (log entry 11). -/
def State.prpSend (s : State) (prio : Nat) (bs : List Byte) (tsReq : Bool) (tsId : Nat) (src : Option Fetched) : State :=
  let seq := s.eth.prpSeq
  let s1 := { s with eth := { s.eth with prpSeq := (seq + 1) % 65536 } }
  let one (s : State) (e : Nat) : State :=
    if s.flag (R.ETH_STATUS e) F.ETH_STATUS_LINK then s.ethPut ⟨e, prio, prpCopy bs seq e, tsReq, tsId, src, true, 0⟩
    else s.bump R.PRP_CNT_LANDOWN
  let up := s.flag (R.ETH_STATUS 0) F.ETH_STATUS_LINK || s.flag (R.ETH_STATUS 1) F.ETH_STATUS_LINK
  let s2 := one (one s1 0) 1
  if up then s2
  else
    match src with
    | none => s2
    | some f =>
      let (st, s3) := s2.draw 16
      s3.txDoneH f st 0 0

/-- A frame for Ethernet port `e` arrives at the H-die (R337, R340). `TS_REQ` of a partition other than 0 and `PTP_PART` is ignored (R343). -/
def State.ethUp (s : State) (e : Nat) (x : UpSide) (tsReq : Bool) (tsId : Nat) (bs : List Byte) : State :=
  let mcast := beAt (bs.drop 24) 0 1 = 0xFF
  if !x.direct && !mcast && !s.flag (R.ETH_CFG (s.addrPort e)) F.ETH_CFG_NH_V then
    match x.src with
    | none => s.bump (R.ETH_CNT_NONH e)
    | some f => s.txDoneH f stNO_ROUTE 0 0
  else
    let fr := if x.direct then bs else s.ethFrame e x.prio bs
    let tsReq := tsReq && x.src.any (fun f => f.part = 0 || f.part = s.fld R.PTP_CFG F.PTP_CFG_PTP_PART)
    if s.maxLen e < fr.length + 4 then s.ethRefuse (R.ETH_CNT_TOOBIG e) x.src stBAD_PARAM 23
    else if s.prpOn && e < 2 && !(x.direct && etherType bs = 0x88F7) then s.prpSend x.prio fr tsReq tsId x.src
    else s.ethPut ⟨e, x.prio, ethPad fr, tsReq, tsId, x.src, false, 0⟩

/-! ### Gate lists (R296 to R298) -/

def State.gate (s : State) (e : Nat) : GateList := aget {} e s.shp.gates

def gclKey (bank e i : Nat) : Nat := bank * 1024 + e * 256 + i

/-- An entry of a bank: gates and interval. -/
def State.gclEntry (s : State) (bank e i : Nat) : Word := aget 0 (gclKey bank e i) s.shp.gcl

/-- Intervals of the first `n` entries of a bank. -/
def State.gclIntervals (s : State) (bank e n : Nat) : List Nat := (List.range n).map (fun i => fget F.SHP_GCL_DATA_INTERVAL (s.gclEntry bank e i))

/-- The operational entries that have an interval, from entry `i` on, once round: gates and interval. -/
def State.gateRound (s : State) (e i : Nat) : List (Nat × Nat) :=
  let n := (s.gate e).len
  ((List.range n).map (fun k => s.gclEntry 1 e ((i + k) % n))).filterMap (fun w =>
    let t := fget F.SHP_GCL_DATA_INTERVAL w
    if t = 0 then none else some (fget F.SHP_GCL_DATA_GATES w, t))

/-- A list with nothing in it keeps every gate open. -/
def State.gatesOpen (s : State) (e : Nat) : Nat :=
  match s.gateRound e (s.gate e).idx with
  | [] => 0xFF
  | (g, _) :: _ => g

/-- Time over which a gate stays open from the start of a round, in ns; `none` when it never closes. -/
def openRun (prio : Nat) : List (Nat × Nat) → Option Nat
  | [] => none
  | (g, t) :: r => if nbit g prio then (openRun prio r).map (t + ·) else some 0

/-- Time in 0.1 ns that a frame takes on a port (R298). -/
def State.ethTicks (s : State) (e octets : Nat) : Nat := (octets + 20) * 8 * 10 ^ s.fld (R.ETH_STATUS e) F.ETH_STATUS_SPEED

/-- A frame of a priority fits the window in progress: it ends before its gate next closes. -/
def State.gateFits (s : State) (e prio octets : Nat) : Bool :=
  let g := s.gate e
  match openRun prio (s.gateRound e g.idx) with
  | none => true
  | some w => s.ethTicks e octets ≤ (w - (s.portTime - g.since)) * 10

/-- A frame of a priority fits no window of its gate, and the gate has one. -/
def State.gateNever (s : State) (e prio octets : Nat) : Bool :=
  let runs := (List.range (s.gate e).len).map (fun i => openRun prio (s.gateRound e i))
  runs.any (fun r => r.any (0 < ·)) && runs.all (fun r => r.any (fun w => w * 10 < s.ethTicks e octets))

/-- A write of `SHP_GCL_DATA` (R297). -/
def State.gclWrite (s : State) (p : Nat) (data : Word) : State :=
  s.shpWriter p (
    let e := s.fld R.SHP_GCL_ADDR F.SHP_GCL_ADDR_PORT
    let i := s.fld R.SHP_GCL_ADDR F.SHP_GCL_ADDR_ENTRY
    let s1 := if s.flag (R.SHP_GCL_CTRL e) F.SHP_GCL_CTRL_PENDING then s.err R.SHP_ERR F.SHP_ERR_GCL_BUSY
      else { s with shp := { s.shp with gcl := aset 0 (gclKey 0 e i) data s.shp.gcl } }
    if s.flag R.SHP_GCL_ADDR F.SHP_GCL_ADDR_AUTOINC then s1.setFld R.SHP_GCL_ADDR F.SHP_GCL_ADDR_ENTRY ((i + 1) % 256) else s1)

/-- A write of `SHP_GCLe_CTRL`: `LEN`, and `COMMIT`, which sets `PENDING` unless `BASE_NS` is 10^9 or more (R297, R303). -/
def State.gclCtrl (s : State) (p e : Nat) (data : Word) : State :=
  s.shpWriter p (
    let k := R.SHP_GCL_CTRL e
    let s1 := s.setFld k F.SHP_GCL_CTRL_LEN (fget F.SHP_GCL_CTRL_LEN data)
    if fget F.SHP_GCL_CTRL_COMMIT data = 0 then s1
    else if 1000000000 ≤ s.fld (R.SHP_GCL_BASE_NS e) F.SHP_GCL_BASE_NS_NS then s1.err R.SHP_ERR F.SHP_ERR_GCL_BUSY
    else s1.setFld k F.SHP_GCL_CTRL_PENDING 1)

def execGclCommit (p : Part) (e : Fin 4) (data : Word) (s : State) : Host.Outcome State Fault Refusal :=
  .next (s.gclCtrl p.val e.val (fset F.SHP_GCL_CTRL_COMMIT data 1))

/-- K4 ticks that cover a time in ns. -/
def nsTicks (ns : Nat) : Nat := (ns * 32 + 124) / 125

/-- GCL_SWITCH: the admin list becomes operational at the first instant at or after `BASE` and now that lies at `BASE` plus a
multiple of the new cycle. Its first whole cycle begins for every frame that is present (R298). -/
def execGclSwitch (e : Fin 4) (s : State) : Host.Outcome State Fault Refusal :=
  .next (
    let q := e.val
    let k := R.SHP_GCL_CTRL q
    if !s.flag k F.SHP_GCL_CTRL_PENDING then s
    else
      let len := min 256 (s.fld k F.SHP_GCL_CTRL_LEN)
      let base := (s.rd (R.SHP_GCL_BASE_S q)).toNat * 1000000000 + s.fld (R.SHP_GCL_BASE_NS q) F.SHP_GCL_BASE_NS_NS
      let cycle := (s.gclIntervals 0 q len).sum
      let t := s.portTime
      let at_ := if t ≤ base then base else if cycle = 0 then t else base + (t - base + cycle - 1) / cycle * cycle
      let s1 := s.elapse (nsTicks (at_ - t))
      let words := (List.range 256).foldl (fun m i => aset 0 (gclKey 1 q i) (s1.gclEntry 0 q i) m) s1.shp.gcl
      let heads := s1.eth.tx.map (fun (t : EthTx) => if t.port = q && t.headAt ≠ 0 then { t with headAt := at_ + 1 } else t)
      let s2 := { s1 with
        shp := { s1.shp with gcl := words, gates := aset {} q ⟨len, base, 0, at_⟩ s1.shp.gates }
        eth := { s1.eth with tx := heads } }
      s2.setFld k F.SHP_GCL_CTRL_PENDING 0)

/-- The first entry at or after `i` that has an interval, once round. -/
def State.gateSeek (s : State) (e i : Nat) : Nat :=
  let n := (s.gate e).len
  ((List.range n).map (fun k => (i + k) % n)).find? (fun k => fget F.SHP_GCL_DATA_INTERVAL (s.gclEntry 1 e k) ≠ 0) |>.getD 0

/-- First frames of the priorities of a port. -/
def State.ethHeads (s : State) (e : Nat) : List EthTx :=
  (List.range 8).filterMap (fun pr => s.eth.tx.find? (fun t => t.port = e && t.prio = pr))

/-- At an instant of city time, a first frame that has failed to fit every window of its gate through one whole cycle, since it became the first, is
dropped (R298). -/
def State.gateCycle (s : State) (e at_ : Nat) : State :=
  let cycle := ((s.gateRound e 0).map (fun w => w.2)).sum
  (s.ethHeads e).foldl (fun s t =>
    if !s.gateNever e t.prio (t.bytes.length + 4) || at_ + 1 < t.headAt + cycle then s
    else ((s.setTx (s.eth.tx.erase t)).bump (R.SHP_CNT_NOFIT e)).ethLost t) s

/-- GATE_INTERVAL_END: the next entry's gates apply. -/
def execGateIntervalEnd (e : Fin 4) (s : State) : Host.Outcome State Fault Refusal :=
  .next (
    let q := e.val
    let g := s.gate q
    match s.gateRound q g.idx with
    | [] => s
    | (_, t) :: _ =>
      let i := s.gateSeek q g.idx
      let end_ := g.since + t
      let s1 := s.elapse (nsTicks (end_ - s.portTime))
      let j := s1.gateSeek q ((i + 1) % g.len)
      let s2 := s1.gateCycle q end_
      { s2 with shp := { s2.shp with gates := aset {} q { g with idx := j, since := end_ } s2.shp.gates } })

/-! ### Sending (R298, R317, R342 to R344) -/

/-- The frame a port sends: among the priorities whose gate is open and whose head frame fits, the highest. -/
def State.ethNext (s : State) (e : Nat) : Option EthTx :=
  (s.ethHeads e).reverse.find? (fun t => nbit (s.gatesOpen e) t.prio && s.gateFits e t.prio (t.bytes.length + 4))

/-- Offset of a PTP message in a frame; `none` for another frame. -/
def ptpOff (bs : List Byte) : Option Nat := if etherType bs = 0x88F7 then some (ethHdr bs) else none

/-- One-step Sync messages get the egress time as their originTimestamp (R344). -/
def oneStep (bs : List Byte) (ns : Nat) : List Byte :=
  match ptpOff bs with
  | none => bs
  | some o =>
    if beAt bs o 1 % 16 = 0 && !nbit (beAt bs (o + 6) 1) 1 then
      bs.take (o + 34) ++ beBytes 6 (ns / 1000000000) ++ beBytes 4 (ns % 1000000000) ++ bs.drop (o + 44)
    else bs

/-- `PTP_eTXTS_USE` shows the entries. -/
def State.txtsSync (s : State) (e : Nat) : State :=
  s.setFld (R.PTP_TXTS_USE e) F.PTP_TXTS_USE_ENTRIES (aget [] e s.eth.txts).length

/-- A transmit timestamp joins its port's queue, or is discarded when the queue is full; TS_OVERFLOW at most once per 1 ms (R343). -/
def State.txtsPut (s : State) (e tsId ns : Nat) : State :=
  let q := aget [] e s.eth.txts
  if q.length < 64 then
    ({ s with eth := { s.eth with txts := aset [] e (q ++ [(tsId, ns)]) s.eth.txts } }).txtsSync e
  else
    let s1 := s.bump (R.PTP_CNT_TSOVF e)
    let n := aget 0 e s1.eth.tsOvfCount
    let first := if n = 0 then tsId else aget 0 e s1.eth.tsOvfFirst
    let last := aget 0 e s1.eth.tsOvfAt
    if last = 0 || last - 1 + ms 1 ≤ s1.now then
      ({ s1 with eth := { s1.eth with
          tsOvfAt := aset 0 e (s1.now + 1) s1.eth.tsOvfAt
          tsOvfCount := aset 0 e 0 s1.eth.tsOvfCount
          tsOvfFirst := aset 0 e 0 s1.eth.tsOvfFirst } }).evtF 19 0 (w32 e) (w32 first) (w32 (n + 1))
    else
      { s1 with eth := { s1.eth with
          tsOvfCount := aset 0 e (n + 1) s1.eth.tsOvfCount
          tsOvfFirst := aset 0 e first s1.eth.tsOvfFirst } }

/-- ETH_TX_DONE: a frame's last octet leaves a port. Its timestamp is that of its first bit, corrected by `TX_LAT`; a host frame
completes OK, under PRP with the first of its copies. -/
def execEthTxDone (e : Fin 4) (s : State) : Host.Outcome State Fault Refusal :=
  .next (
    let q := e.val
    if !s.flag (R.ETH_STATUS q) F.ETH_STATUS_LINK then s
    else
      match s.ethNext q with
      | none => s
      | some t =>
        let start := s.portTime
        let ts := start + s.fld (R.PTP_LAT q) F.PTP_LAT_TX_LAT
        let s1 := s.elapse (nsTicks (s.ethTicks q (t.bytes.length + 4) / 10))
        let bs := if s.flag (R.PTP_PORT_CFG q) F.PTP_PORT_CFG_ONESTEP then oneStep t.bytes ts else t.bytes
        let tx := s1.eth.tx.erase t
        let s2a := s1.setTx (tx.map (fun (u : EthTx) => if t.src.isSome && u.src = t.src then { u with src := none } else u))
        let s2 := { s2a with eth := { s2a.eth with lastTx := aset [] q bs s2a.eth.lastTx } }
        let s3 := s2.bump (R.ETH_CNT_TXOK q)
        let s4 := if t.tsReq then s3.txtsPut q t.tsId ts else s3
        match t.src with
        | none => s4
        | some f => s4.cplOwn f.part (txRecord f stOK (descTime start) 0 63 false 0 0))

/-- A read of `PTP_eTXTS_POP` (R343). -/
def State.txtsPop (s : State) (p e : Nat) : State :=
  if p ≠ 0 && p ≠ s.fld R.PTP_CFG F.PTP_CFG_PTP_PART then s.answer p 0
  else
    match aget [] e s.eth.txts with
    | [] => s.answer p 0
    | (i, ns) :: r =>
      let s1 := ({ s with eth := { s.eth with txts := aset [] e r s.eth.txts } }).txtsSync e
      let s2 := (s1.wr (R.PTP_TXTS_S e) (w32 (ns / 1000000000))).wr (R.PTP_TXTS_NS e) (w32 (ns % 1000000000))
      s2.answer p (w32 (i % 65536 + 2 ^ 16))

def execTxtsPop (p : Part) (e : Fin 4) (s : State) : Host.Outcome State Fault Refusal := .next (s.txtsPop p.val e.val)

/-! ### Supervision and MDIO -/

/-- The supervision frame of LAN A's address. PRESUMED layout: that of IEC 62439-3 for a doubly attached node (log entry 10). -/
def supervision (mac seq : Nat) : List Byte :=
  beBytes 6 0x01154E000100 ++ beBytes 6 mac ++ beBytes 2 0x88FB ++ beBytes 2 1 ++ beBytes 2 seq ++ beBytes 2 0x1406 ++ beBytes 6 mac
    ++ beBytes 2 0

/-- `LIFE_CHECK` as it acts, in ms. -/
def State.lifeCheck (s : State) : Nat := max 1 (s.fld R.PRP_CFG F.PRP_CFG_LIFE_CHECK)

/-- SUPERVISION_TX (R340): while PRP is on a supervision frame goes on both LANs, `LIFE_CHECK` ms after the last. The spec gives it no priority: a
free value (log entry 12). -/
def execSupervisionTx (s : State) : Host.Outcome State Fault Refusal :=
  .next (
    if !s.prpOn then s
    else
      let s0 := if s.eth.supAt = 0 then s else s.advanceTo (s.eth.supAt - 1 + ms s.lifeCheck)
      let (pr, s1) := s0.draw 8
      let s2 := { s1 with eth := { s1.eth with supAt := s1.now + 1, supSeq := (s1.eth.supSeq + 1) % 65536 } }
      s2.prpSend pr (supervision (s.macOf 0) s.eth.supSeq) false 0 none)

/-- A write of `ETH_MDIO` (R334): `OP` 1 or 2 starts an operation; while `BUSY` writes are ignored. -/
def State.mdioWrite (s : State) (p : Nat) (data : Word) : State :=
  s.only0 p R.ETH_ERR F.ETH_ERR_PART_WRITE (
    if s.flag R.ETH_MDIO F.ETH_MDIO_BUSY then s
    else
      let op := fget F.ETH_MDIO_OP data
      let s1 := s.wr R.ETH_MDIO (data &&& 0x03FFFFFF)
      if op = 1 || op = 2 then
        ({ s1 with eth := { s1.eth with mdio := op } }).setFld R.ETH_MDIO F.ETH_MDIO_BUSY 1
      else s1)

def execMdioWrite (p : Part) (data : Word) (s : State) : Host.Outcome State Fault Refusal :=
  .next (s.mdioWrite p.val (fset F.ETH_MDIO_OP data 1))

def execMdioRead (p : Part) (data : Word) (s : State) : Host.Outcome State Fault Refusal :=
  .next (s.mdioWrite p.val (fset F.ETH_MDIO_OP data 2))

/-- MDIO_DONE: the operation completes; a read leaves what the PHY answered in `DATA`. -/
def execMdioDone (answer : BitVec 16) (s : State) : Host.Outcome State Fault Refusal :=
  .next (
    if s.eth.mdio = 0 then s
    else
      let s1 := s.setFld R.ETH_MDIO F.ETH_MDIO_BUSY 0
      let s2 := if s.eth.mdio = 2 then s1.setFld R.ETH_MDIO F.ETH_MDIO_DATA answer.toNat else s1
      { s2 with eth := { s2.eth with mdio := 0 } })

end Sys2Proof.Machine
end

