-- ==== Sys2Proof/Machine/Time.lean ====
section
/-! DEFINITION. City time: its servo, the tracked PTP domains, the PPS pins, the vault seconds; and the timers with their captures and
compare outputs (R345 to R363). -/

namespace Sys2Proof.Machine

/-- A descriptor timestamp extended to city time in ns with a reference (R345): exact within 2.147483648 s of it. -/
def extendTs (ts : Word) (r : Nat) : Int :=
  let d : Nat := (ts - BitVec.ofNat 32 r).toNat
  (r : Int) + (if 2 ^ 31 ≤ d then (d : Int) - 4294967296 else (d : Int))

/-! ### The servo (R347 to R349) -/

def State.servo (s : State) : Nat := s.fld R.TMR_SERVO F.TMR_SERVO_STATE
def State.setServo (s : State) (x : Nat) : State := s.setFld R.TMR_SERVO F.TMR_SERVO_STATE x
def State.activeDom (s : State) : Nat := s.fld R.TMR_SERVO F.TMR_SERVO_ACTIVE

/-- `LOCK_NS` as it acts. -/
def State.lockNs (s : State) : Nat := max 1 (s.fld R.TMR_LOCK F.TMR_LOCK_LOCK_NS)

/-- City time becomes valid, or stops being so. -/
def State.setValid (s : State) (v : Bool) : State := { s with time := { s.time with valid := v } }

/-- TIME_SOURCE (R364): new and old `SRC` and domain, and the cause. -/
def State.timeSource (s : State) (newSrc newDom oldSrc oldDom cause : Nat) : State :=
  s.evtF 24 0 (w32 (newSrc + newDom * 4)) (w32 (oldSrc + oldDom * 4)) (w32 cause)

/-- Largest rate correction, in parts of 10^12: what REFCLK may be off (R25). -/
def rateMax : Nat := 20000000

/-- The servo sets its rate correction at an offset. The spec gives no rule for it: a free value up to 20 ppm, the tolerance of REFCLK (DESIGN
CHOICE, log entry 107). Corrections of more than 60 s ago are forgotten, but for the one then in force. -/
def State.rateTake (s : State) : State :=
  let (x, s1) := s.draw (2 * rateMax + 1)
  let r : Int := (x : Int) - rateMax
  let old := (s1.time.rates.filter (fun (e : Nat × Int) => e.1 + sec 60 ≤ s1.now)).getLast?.toList
  let new := s1.time.rates.filter (fun (e : Nat × Int) => s1.now < e.1 + sec 60)
  { s1 with time := { s1.time with rate := r, rates := old ++ new ++ [(s1.now, r)] } }

/-- The sum of rate corrections times the ticks for which they were in force, from an instant to another. -/
def rateSum (from_ to_ : Nat) : List (Nat × Int) → Int
  | [] => 0
  | [(t, r)] => r * ((to_ - max t from_ : Nat) : Int)
  | (t, r) :: (u, q) :: l => r * ((max u from_ - max t from_ : Nat) : Int) + rateSum from_ to_ ((u, q) :: l)

/-- The mean rate correction of the last 60 s of lock (R349). -/
def State.rateMean (s : State) : Int :=
  let from_ := max (s.now - sec 60) ((s.time.rates.head?.map (·.1)).getD s.now)
  if s.now ≤ from_ then s.time.rate else rateSum from_ s.now s.time.rates / ((s.now - from_ : Nat) : Int)

/-- LOCKED with no good source of `SRC`: the servo enters HOLDOVER at the mean rate correction of the last 60 s of lock (R349). -/
def State.enterHoldover (s : State) : State :=
  if s.servo ≠ 2 then s
  else
    let s1 := s.setServo 3
    ({ s1 with time := { s1.time with rate := s.rateMean, holdSince := s1.now, lockRun := 0 } }).evtF 25 0 1 (w32 s.src) 0

/-- HOLDOVER raised on leaving. -/
def State.leaveHoldover (s : State) : State :=
  s.evtF 25 0 0 (w32 s.src) (w32 ((s.now - s.time.holdSince) / sec 1))

/-- An amount that city time is ahead by is taken out: by a step when the slot engine does not run and the amount is above 100 µs, by
slewing otherwise (R348). -/
def State.correct (s : State) (ahead : Int) : State :=
  if !s.running && 100000 < ahead.natAbs then
    { s with time := { s.time with city32 := ((s.time.city32 : Int) - 32 * ahead).toNat, slew := 0 } }
  else { s with time := { s.time with slew := -ahead } }

/-- City time is adjusted by an amount, by a step or by slewing as for an offset; what an earlier one has not slewed yet stays to be slewed (R347,
R348). -/
def State.adjust (s : State) (by_ : Int) : State :=
  if !s.running && 100000 < by_.natAbs then
    { s with time := { s.time with city32 := ((s.time.city32 : Int) + 32 * by_).toNat } }
  else { s with time := { s.time with slew := s.time.slew + by_ } }

/-- A signed 32-bit register value, saturating. -/
def satWord (x : Int) : Word := BitVec.ofInt 32 (max (-(2 ^ 31)) (min (2 ^ 31 - 1) x))

/-- The servo takes an offset from its source (R348, R349): 16 consecutive offsets within `LOCK_NS` lock it; from HOLDOVER the first
does when it lies within it, and otherwise the servo is ACQUIRING again. -/
def State.servoOffset (s : State) (ahead : Int) : State :=
  let s1 := ((s.correct ahead).wr R.TMR_OFFSET (satWord ahead)).rateTake
  let inLock := decide (ahead.natAbs ≤ s.lockNs)
  match s.servo with
  | 2 => s1
  | 3 =>
    if inLock then
      let s2 := s1.leaveHoldover
      ({ s2.setServo 2 with time := { (s2.setServo 2).time with lockRun := 16, rates := [(s2.now, s2.time.rate)] } }).setValid true
    else
      let s2 := s1.leaveHoldover
      { s2.setServo 1 with time := { (s2.setServo 1).time with lockRun := 0 } }
  | _ =>
    let n := if inLock then s1.time.lockRun + 1 else 0
    let s2 := { s1 with time := { s1.time with lockRun := n } }
    if 16 ≤ n then ({ s2.setServo 2 with time := { (s2.setServo 2).time with rates := [(s2.now, s2.time.rate)] } }).setValid true
    else s2.setServo 1

/-- A write of `TMR_SET_CTRL` with `SET` (R347): steps city time and enters MANUAL with `SRC` 0, unless the slot engine runs or the
nanoseconds are 10^9 or more. -/
def State.timeSet (s : State) (p : Nat) : State :=
  s.only0 p R.TMR_ERR F.TMR_ERR_PART_WRITE (
    if s.running then s.err R.TMR_ERR F.TMR_ERR_TIME_RUNNING
    else if 1000000000 ≤ s.fld R.TMR_SET_NS F.TMR_SET_NS_NS then s
    else
      let ns := (s.rd R.TMR_SET_S).toNat * 1000000000 + s.fld R.TMR_SET_NS F.TMR_SET_NS_NS
      let s1 := if s.servo = 3 then s.leaveHoldover else s
      let s2 := { s1 with time := { s1.time with city32 := 32 * ns, slew := 0, lockRun := 0, valid := true } }
      let s3 := if s.src ≠ 0 then s2.timeSource 0 s.activeDom s.src s.activeDom 0 else s2
      (s3.setFld R.TMR_SRC F.TMR_SRC_SRC 0).setServo 4)

def execTimeSet (p : Part) (s : State) : Host.Outcome State Fault Refusal := .next (s.timeSet p.val)

/-- A write of `ADJ` (R347): the signed `TMR_ADJ_NS` is applied to city time under the rules of R348. -/
def State.timeAdjust (s : State) (p : Nat) : State :=
  s.only0 p R.TMR_ERR F.TMR_ERR_PART_WRITE (s.adjust (s.rd R.TMR_ADJ_NS).toInt)

def execTimeAdjust (p : Part) (s : State) : Host.Outcome State Fault Refusal := .next (s.timeAdjust p.val)

/-! ### Tracked PTP domains (R350 to R352) -/

def State.dom (s : State) (d : Nat) : PtpDom := aget {} d s.time.dom
def State.setDom (s : State) (d : Nat) (x : PtpDom) : State := { s with time := { s.time with dom := aset {} d x s.time.dom } }

/-- Lexicographic order of the data of two masters, the better first (default BMCA, R350). -/
def keyLess : List Nat → List Nat → Bool
  | a :: as, b :: bs => decide (a < b) || (a == b && keyLess as bs)
  | _, _ => false

/-- The best of a domain's foreign masters. -/
def bestMaster : List PtpMaster → Option PtpMaster
  | [] => none
  | m :: ms =>
    match bestMaster ms with
    | none => some m
    | some b => if keyLess b.key m.key then some b else some m

/-- A foreign master counts once two of its Announce messages have come within four of its intervals (IEEE 1588-2019, FOREIGN_MASTER_THRESHOLD and
FOREIGN_MASTER_TIME_WINDOW; PRESUMED, log entry 115). -/
def PtpMaster.qualified (m : PtpMaster) (now : Nat) : Bool := m.prev ≠ 0 && decide (now < m.prev + 4 * m.interval)

/-- The chosen master's record. -/
def PtpDom.master (x : PtpDom) : Option PtpMaster := x.masters.find? (fun m => x.chosen = some m.ident)

/-- A domain is good (R351), at an instant, for a largest clockClass. -/
def PtpDom.good (x : PtpDom) (now classMax : Nat) : Bool :=
  match x.master with
  | none => false
  | some m => now ≤ m.at_ + 3 * m.interval && m.clockClass ≤ classMax && x.syncSeen && now ≤ x.syncAt + 3 * x.syncInt && x.delayMeasured


/-- Whether a domain is good now. -/
def State.domGood (s : State) (d : Nat) : Bool := s.domEn d && (s.dom d).good s.now (s.fld (R.TMR_DOM_CFG d) F.TMR_DOM_CFG_CLASS_MAX)

/-- `PTP_UTC` reports currentUtcOffset from the active domain's Announce (R350). -/
def State.utcSync (s : State) : State :=
  match (s.dom s.activeDom).master with
  | none => s
  | some b => (s.setFld R.PTP_UTC F.PTP_UTC_UTC_OFFSET b.utc).setFld R.PTP_UTC F.PTP_UTC_UTC_V 1

/-- Another domain becomes the active one. -/
def State.setActive (s : State) (d cause : Nat) : State :=
  let s1 := (s.setFld R.TMR_SERVO F.TMR_SERVO_ACTIVE d).utcSync
  if s.activeDom = d then s1 else s1.timeSource s.src d s.src s.activeDom cause

/-- The states of the domains are re-evaluated (R351, R352). -/
def State.domEval (s : State) : State :=
  let mark (s : State) (d : Nat) : State :=
    let g := s.domGood d
    let x := s.dom d
    let s1 := s.setFld (R.TMR_DOM_STATE d) F.TMR_DOM_STATE_GOOD (if g then 1 else 0)
    s1.setDom d { x with goodSince := if g then some (x.goodSince.getD s.now) else none }
  let s1 := mark (mark s 0) 1
  let prefer := s1.fld R.TMR_SRC F.TMR_SRC_PREFER
  let a := s1.activeDom
  if s1.src ≠ 1 then s1
  else if !s1.time.chosen then
    (if s1.domGood prefer then { s1.setActive prefer 1 with time := { (s1.setActive prefer 1).time with chosen := true } }
     else if s1.domGood (1 - prefer) then
      { s1.setActive (1 - prefer) 1 with time := { (s1.setActive (1 - prefer) 1).time with chosen := true } }
     else s1)
  else if s1.domGood a then s1
  else if s1.domGood (1 - a) then s1.setActive (1 - a) 1
  else s1.enterHoldover

/-- K4 ticks of a PTP log interval, from the octet that holds it. -/
def logInterval (b : Nat) : Nat :=
  let n := sext 8 b
  if n < 0 then sec 1 / 2 ^ n.natAbs else sec 1 * 2 ^ n.natAbs

/-- A correction field: signed, in ns. -/
def correction (m : List Byte) : Int := sext 64 (beAt m 8 8) / 65536

/-- A PTP timestamp in ns. -/
def ptpTime (m : List Byte) (off : Nat) : Int := beAt m off 6 * 1000000000 + beAt m (off + 6) 4

/-- An Announce: the sender's record is kept among at most 8 foreign masters, and the best of those that are qualified is chosen; the chosen one stays
so until a better one is (R350). -/
def State.ptpAnnounce (s : State) (d : Nat) (m : List Byte) : State :=
  let x := s.dom d
  let id := beAt m 20 10
  let new : PtpMaster := ⟨id, [beAt m 47 1, beAt m 48 1, beAt m 49 1, beAt m 50 2, beAt m 52 1, beAt m 53 8, beAt m 61 2, id],
    beAt m 48 1, s.now, ((x.masters.find? (fun (y : PtpMaster) => y.ident = id)).map (fun y => y.at_ + 1)).getD 0, logInterval (beAt m 33 1),
    beAt m 44 2⟩
  let live := x.masters.filter (fun (y : PtpMaster) => y.ident ≠ id && s.now ≤ y.at_ + 3 * y.interval)
  let ms := if live.length < 8 then live ++ [new] else live
  let best := (bestMaster (ms.filter (fun y => y.qualified s.now || x.chosen = some y.ident))).map (fun y => y.ident)
  let y := if best = x.chosen then { x with masters := ms }
    else { x with masters := ms, chosen := best, syncSeen := false, pendSync := none, delayMeasured := false }
  let s1 := s.setDom d y
  match y.master with
  | none => s1
  | some b => (s1.setFld (R.TMR_DOM_STATE d) F.TMR_DOM_STATE_CLASS b.clockClass).utcSync

/-- A complete Sync: with a measured delay it gives an offset, which the servo takes from the active domain. -/
def State.ptpSync (s : State) (d interval : Nat) (t1 t2 : Int) : State :=
  let x := { s.dom d with t1 := t1, t2 := t2, syncAt := s.now, syncInt := interval, syncSeen := true, pendSync := none }
  let s1 := (s.setDom d x).domEval
  if !x.delayMeasured then s1
  else
    let off := t2 - t1 - (s1.rd (R.TMR_DOM_DELAY d)).toInt
    let s2 := s1.wr (R.TMR_DOM_OFFSET d) (satWord off)
    if s2.domGood d && s2.activeDom = d && s2.time.chosen then s2.servoOffset off else s2

/-- Clock identity of the chip's PTP clock. PRESUMED: the chip EUI-64 (log entry 13). -/
def ptpSelf (e : Nat) : Nat := Config.linkEui.toNat * 65536 + e + 1

/-- A message of an enabled tracked domain, with its receive time in ns (R350). What has lapsed before it counts first (R351). A Delay_Resp is the chip's
own when its requestingPortIdentity is. -/
def State.ptpMessage (s0 : State) (d rx : Nat) (m : List Byte) : State :=
  let s := s0.domEval
  let x := s.dom d
  let fromMaster := x.chosen = some (beAt m 20 10)
  let seq := beAt m 30 2
  match beAt m 0 1 % 16 with
  | 0xB => (s.ptpAnnounce d m).domEval
  | 0x0 =>
    if !fromMaster then s
    else if nbit (beAt m 6 1) 1 then
      (s.setFld (R.TMR_DOM_STATE d) F.TMR_DOM_STATE_TWO_STEP 1).setDom d { x with pendSync := some (seq, rx, correction m) }
    else
      (s.setFld (R.TMR_DOM_STATE d) F.TMR_DOM_STATE_TWO_STEP 0).ptpSync d (logInterval (beAt m 33 1)) (ptpTime m 34 + correction m) rx
  | 0x8 =>
    match x.pendSync with
    | some (q, t2, c) =>
      if fromMaster && q = seq then s.ptpSync d (logInterval (beAt m 33 1)) (ptpTime m 34 + correction m + c) t2 else s
    | none => s
  | 0x9 =>
    match x.t3 with
    | some t3 =>
      if fromMaster && seq = x.delaySeq && beAt m 44 10 = ptpSelf (s.fld (R.TMR_DOM_CFG d) F.TMR_DOM_CFG_PORT) then
        let t4 := ptpTime m 34 - correction m
        let delay := ((x.t2 - x.t1) + (t4 - t3)) / 2
        ((s.wr (R.TMR_DOM_DELAY d) (satWord delay)).setDom d
          { x with delayMeasured := true, t3 := none, delayInt := logInterval (beAt m 33 1) }).domEval
      else s
    | none => s
  | _ => s

/-- A Delay_Req of a domain (R350). -/
def delayReq (mac domain e seq : Nat) : List Byte :=
  beBytes 6 0x011B19000000 ++ beBytes 6 mac ++ beBytes 2 0x88F7 ++ beBytes 1 1 ++ beBytes 1 2 ++ beBytes 2 44 ++ beBytes 1 domain ++
    beBytes 15 0 ++ beBytes 10 (ptpSelf e) ++ beBytes 2 seq ++ beBytes 1 1 ++ beBytes 1 0x7F ++ beBytes 10 0

/-- DELAY_REQ_SEND: a tracked domain with a complete Sync sends Delay_Req when its interval allows; the H-die returns the egress
timestamp in TS_REPORT (PRESUMED layout, log entry 4). -/
def execDelayReqSend (d : Fin 2) (s : State) : Host.Outcome State Fault Refusal :=
  .next (
    let x := s.dom d.val
    let e := s.fld (R.TMR_DOM_CFG d.val) F.TMR_DOM_CFG_PORT
    if !s.domEn d.val || !x.syncSeen || !s.flag (R.ETH_STATUS e) F.ETH_STATUS_LINK || !s.passUp then s
    else
      let s1 := if x.delayAt = 0 then s else s.advanceTo (x.delayAt - 1 + x.delayInt)
      let seq := (x.delaySeq + 1) % 65536
      let ts := s1.portTime + s1.fld (R.PTP_LAT e) F.PTP_LAT_TX_LAT
      let s2 := s1.setDom d.val { x with delaySeq := seq, delayAt := s1.now + 1, t3 := none }
      let fr := delayReq (s2.macOf e) (s2.fld (R.TMR_DOM_CFG d.val) F.TMR_DOM_CFG_DOMAIN) e seq
      let s3 := ({ s2 with eth := { s2.eth with lastTx := aset [] e (ethPad fr) s2.eth.lastTx } }).bump (R.ETH_CNT_TXOK e)
      s3.passSend .h 0x0B 0 false 16 [w32 d.val, w32 seq, w32 (ts / 1000000000), w32 (ts % 1000000000)])

/-- TS_REPORT arrives at the F-die with the egress timestamp of a Delay_Req. -/
def execTsReport (m : PassMsg) (s : State) : Host.Outcome State Fault Refusal :=
  .next (s.passRx .f 0x0B m (fun s =>
    let d := (wordAt m.payload 0).toNat % 2
    let x := s.dom d
    if x.delaySeq = (wordAt m.payload 1).toNat then
      s.setDom d { x with t3 := some ((wordAt m.payload 2).toNat * 1000000000 + (wordAt m.payload 3).toNat) }
    else s) id)

/-- DOMAIN_TIMEOUT: the announce or sync intervals of a good domain lapse; time passes up to that instant unless it has come already. -/
def execDomainTimeout (d : Fin 2) (s : State) : Host.Outcome State Fault Refusal :=
  .next (
    let x := s.dom d.val
    if !s.domEn d.val || x.goodSince.isNone then s
    else
      let a := match x.master with | some m => m.at_ + 3 * m.interval | none => s.now
      (s.advanceTo (min a (x.syncAt + 3 * x.syncInt) + 1)).domEval)

/-- `REVERT_S` as it acts. -/
def State.revertS (s : State) : Nat := min 3600 (s.fld R.TMR_SRC F.TMR_SRC_REVERT_S)

/-- DOMAIN_REVERT: `PREFER` has been good for `REVERT_S` seconds and becomes active again. -/
def execDomainRevert (s : State) : Host.Outcome State Fault Refusal :=
  .next (
    let pr := s.fld R.TMR_SRC F.TMR_SRC_PREFER
    match (s.dom pr).goodSince with
    | none => s
    | some t =>
      if s.src ≠ 1 || s.activeDom = pr || s.revertS = 0 || !s.time.chosen then s
      else
        let s1 := (s.advanceTo (t + sec s.revertS)).domEval
        if (s1.dom pr).goodSince = some t && s1.activeDom ≠ pr then s1.setActive pr 2 else s1)

/-- A write of `TMR_SRC` (R347, R352): every change of `SRC` raises TIME_SOURCE; a LOCKED servo whose new source is not good enters
HOLDOVER (with `SRC` 3 the time-source neighbours decide, `State.airSync`). -/
def State.srcWrite (s : State) (p : Nat) (data : Word) : State :=
  s.only0 p R.TMR_ERR F.TMR_ERR_PART_WRITE (
    let old := s.src
    let s1 := s.wr R.TMR_SRC (data &&& 0x3FFFFF)
    let s2 := if s1.src ≠ old then s1.timeSource s1.src s.activeDom old s.activeDom 0 else s1
    if s1.src = old then s2.domEval
    else
      let s3 := { s2 with time := { s2.time with lockRun := 0, ppsAt := none, chosen := false } }
      let s4 := s3.domEval
      if s4.src = 3 || (s4.src = 1 && (s4.domGood 0 || s4.domGood 1)) then s4 else s4.enterHoldover)

/-! ### PPS and the vault seconds (R346, R354, R355) -/

/-- Seconds 10^9 ns. -/
def secNs : Nat := 1000000000

/-- PPS_IN_EDGE (R355): the edge counts as the nearest whole second, after a correction of 12 ns; one more than 400 ms away is
rejected. -/
def execPpsInEdge (s : State) : Host.Outcome State Fault Refusal :=
  .next (
    if s.src ≠ 2 || !s.flag R.TMR_PPS F.TMR_PPS_IN_EN then s
    else
      let c := s.cityNs - 12
      let r := c % secNs
      let ahead : Int := if 2 * r < secNs then r else (r : Int) - secNs
      if 400000000 < ahead.natAbs then s.bump R.TMR_CNT_PPSREJ
      else ({ s with time := { s.time with ppsAt := some s.now } }).servoOffset ahead)

/-- PPS_SOURCE_TIMEOUT: with `SRC` 2, 2 s pass without an accepted edge. -/
def execPpsSourceTimeout (s : State) : Host.Outcome State Fault Refusal :=
  .next (
    match s.time.ppsAt with
    | none => s
    | some t =>
      if s.src ≠ 2 then s
      else
        let s1 := s.advanceTo (t + sec 2)
        ({ s1 with time := { s1.time with ppsAt := none } }).enterHoldover)

/-- PPS_OUT_PULSE (R354): with `OUT_EN` and valid city time PPS_OUT rises at the next whole second. -/
def execPpsOutPulse (s : State) : Host.Outcome State Fault Refusal :=
  .next (
    if !s.flag R.TMR_PPS F.TMR_PPS_OUT_EN || !s.time.valid then s
    else
      let s1 := s.toNs ((s.cityNs + secNs - 1) / secNs * secNs)
      let w := max 1 (min 999 (s1.fld R.TMR_PPS F.TMR_PPS_WIDTH))
      { s1 with time := { s1.time with ppsHigh := some (s1.now + ms w) } })

/-- PPS_OUT falls `WIDTH` ms after it rose. -/
def execPpsOutEnd (s : State) : Host.Outcome State Fault Refusal :=
  .next (
    match s.time.ppsHigh with
    | none => s
    | some t =>
      let s1 := s.advanceTo t
      { s1 with time := { s1.time with ppsHigh := none } })

/-- A write of `TMR_PPS`: with `OUT_EN` 0 PPS_OUT is low. -/
def State.ppsWrite (_s : State) (p : Nat) (plain : State) : State :=
  if p ≠ 0 || plain.flag R.TMR_PPS F.TMR_PPS_OUT_EN then plain else { plain with time := { plain.time with ppsHigh := none } }

/-- Seconds of the RTC, which counts on by itself (R411). -/
def State.rtc (s : State) : Nat := ((s.rd R.PWR_RTC_S).toNat + (s.now - s.vault.rtcAt) / sec 1) % 2 ^ 32

/-- RTC_UPDATE (R346): while city time is valid its seconds are written into the vault RTC. -/
def execRtcUpdate (s : State) : Host.Outcome State Fault Refusal :=
  .next (if s.time.valid then { s.wr R.PWR_RTC_S (w32 s.citySec) with vault := { s.vault with rtcAt := s.now } } else s)

/-- A read of `TMR_TIME_NS` latches `TMR_TIME_S` (R357). -/
def State.timeRead (s : State) (p : Nat) : State :=
  let s1 := { s with time := { s.time with latchS := some (w32 s.citySec) } }
  s1.answer p (w32 (s.cityNsec + (if s.time.valid then 2 ^ 31 else 0)))

def execTimeRead (p : Part) (s : State) : Host.Outcome State Fault Refusal := .next (s.timeRead p.val)

/-! ### Timers (R356 to R361) -/

def State.timer (s : State) (t : Nat) : TimerSt := aget {} t s.time.timers
def State.setTimer (s : State) (t : Nat) (x : TimerSt) : State := { s with time := { s.time with timers := aset {} t x s.time.timers } }

/-- The count at an instant: `P` = 0 stops the counter at 0, to which a period written below the count returns it in the next tick (R359). -/
def TimerSt.count (x : TimerSt) (now : Nat) : Nat :=
  if now < x.since then x.held else if x.p = 0 then 0 else (x.base + (now - x.since)) % x.p

/-- TMR (R364). -/
def State.tmrEvt (s : State) (p0 p1 : Nat) : State := s.evtF 26 0 (w32 p0) (w32 p1) 0

/-- The level of a compare output. -/
def State.setTout (s : State) (k : Nat) (v : Bool) : State := s.setFld (R.TMR_TOUT k) F.TMR_TOUT_LEVEL (if v then 1 else 0)

/-- A compare output follows a compare of its timer (R363). -/
def State.toutFire (s : State) (t k : Nat) : State :=
  let r := R.TMR_TOUT k
  if !s.flag r F.TMR_TOUT_EN || s.fld r F.TMR_TOUT_TIMER ≠ t then s
  else
    match s.fld r F.TMR_TOUT_ACTION with
    | 0 => s.setTout k true
    | 1 => s.setTout k false
    | 2 => s.setTout k (!s.flag r F.TMR_TOUT_LEVEL)
    | _ =>
      let s1 := s.setTout k true
      { s1 with time := { s1.time with pulse := aset 0 k (s1.now + max 1 (s1.fld r F.TMR_TOUT_PULSE)) s1.time.pulse } }

/-- A compare fires (R358, R363). -/
def State.compareFire (s : State) (t : Nat) : State :=
  let s1 := (s.setTimer t { s.timer t with firedAt := some s.now }).setFld (R.TMR_STAT t) F.TMR_STAT_CMP 1
  let s2 := (List.range 4).foldl (fun s k => s.toutFire t k) s1
  if s2.flag (R.TMR_CTRL t) F.TMR_CTRL_CMP_IRQ then (s2.tmrEvt t 1).wake 3 else s2

def State.cmpEn (s : State) (t : Nat) : Bool := s.flag (R.TMR_CTRL t) F.TMR_CTRL_CMP_EN
def State.preload (s : State) (t : Nat) : Bool := s.flag (R.TMR_CTRL t) F.TMR_CTRL_PRELOAD

/-- The wrap event. -/
def State.wrapRaise (s : State) (t : Nat) : State :=
  let s1 := s.setFld (R.TMR_STAT t) F.TMR_STAT_WRAP 1
  if s1.flag (R.TMR_CTRL t) F.TMR_CTRL_WRAP_IRQ then s1.tmrEvt t 2 else s1

/-- With `PRELOAD`, the tick in which the counter returns to 0 copies both preload values; a copied C of 0 fires (R360). -/
def State.preloadTake (s : State) (t : Nat) : State :=
  let x := s.timer t
  if !s.preload t then s
  else
    let s1 := s.setTimer t { x with c := x.preC.getD x.c, p := x.preP.getD x.p, preC := none, preP := none }
    if x.preC = some 0 && s1.cmpEn t && (s1.timer t).p ≠ 0 then s1.compareFire t else s1

/-- TIMER_WRAP: the tick after P - 1 returns the counter to 0. -/
def execTimerWrap (t : Fin 8) (s : State) : Host.Outcome State Fault Refusal :=
  .next (
    let x := s.timer t.val
    if x.p = 0 then s
    else
      let w := x.since + (x.p - x.base)
      let s1 := s.advanceTo w
      ((s1.setTimer t.val { x with base := 0, since := w }).wrapRaise t.val).preloadTake t.val)

/-- TIMER_COMPARE: the counter becomes equal to C; while a return to 0 in the next tick is under way it counts from there. -/
def execTimerCompare (t : Fin 8) (s : State) : Host.Outcome State Fault Refusal :=
  .next (
    let x := s.timer t.val
    if !s.cmpEn t.val || x.p ≤ x.c then s
    else if s.now < x.since then (if x.base ≤ x.c then (s.advanceTo (x.since + (x.c - x.base))).compareFire t.val else s)
    else
      let c := x.count s.now
      let d := (x.c + x.p - c) % x.p
      if c + d < x.p then
        (if d = 0 && x.firedAt = some s.now then s else (s.advanceTo (s.now + d)).compareFire t.val)
      else s)

/-- A write of `CLR`: the counter is 0 in the next tick. -/
def State.timerClear (s : State) (p t : Nat) : State :=
  s.only0 p R.TMR_ERR F.TMR_ERR_PART_WRITE (s.setTimer t { s.timer t with base := 0, since := s.now + 1, held := (s.timer t).count s.now })

def execTimerClear (p : Part) (t : Fin 8) (s : State) : Host.Outcome State Fault Refusal := .next (s.timerClear p.val t.val)

/-- A write of `TMR_tCMP_HI` applies C (R357, R358, R360): at or below the count it fires at once, in immediate mode. -/
def State.compareWrite (s : State) (p t : Nat) (data : Word) : State :=
  s.only0 p R.TMR_ERR F.TMR_ERR_PART_WRITE (
    let x := s.timer t
    let c := data.toNat * 2 ^ 32 + x.stageC.toNat
    if s.preload t then s.setTimer t { x with preC := some c }
    else
      let s1 := s.setTimer t { x with c := c }
      if s.cmpEn t && x.p ≠ 0 && c ≤ x.count s.now then s1.compareFire t else s1)

def execTimerCompareWrite (p : Part) (t : Fin 8) (data : Word) (s : State) : Host.Outcome State Fault Refusal :=
  .next (s.compareWrite p.val t.val data)

/-- A write of `TMR_tPER_HI` applies P (R356, R357, R359, R360). A P at or below the count of a running timer returns it to 0 in the next tick with the wrap event,
a P of 0 to stand there; a return that is under way stays. A stopped timer stands at 0, so with `PRELOAD` both preload values are copied at the
write (DESIGN CHOICE, log entry 116). -/
def State.periodWrite (s : State) (p t : Nat) (data : Word) : State :=
  s.only0 p R.TMR_ERR F.TMR_ERR_PART_WRITE (
    let x := s.timer t
    let v := data.toNat * 2 ^ 32 + x.stageP.toNat
    let c := x.count s.now
    if s.preload t then
      (if x.p ≠ 0 then s.setTimer t { x with preP := some v }
       else (s.setTimer t { x with preP := some v, base := 0, since := max x.since s.now }).preloadTake t)
    else if x.p = 0 then s.setTimer t { x with p := v, base := 0, since := max x.since s.now }
    else if v ≤ c then (s.setTimer t { x with p := v, base := 0, since := s.now + 1, held := c }).wrapRaise t
    else if s.now < x.since then s.setTimer t { x with p := v }
    else s.setTimer t { x with p := v, base := c, since := s.now })

def execTimerPeriodWrite (p : Part) (t : Fin 8) (data : Word) (s : State) : Host.Outcome State Fault Refusal :=
  .next (s.periodWrite p.val t.val data)

/-- A read of `TMR_tCNT_LO` latches the high half (R357). -/
def State.countRead (s : State) (p t : Nat) : State :=
  let c := (s.timer t).count s.now
  (s.setTimer t { s.timer t with latched := some (w32 (c / 2 ^ 32)) }).answer p (w32 c)

def execTimerCountRead (p : Part) (t : Fin 8) (s : State) : Host.Outcome State Fault Refusal := .next (s.countRead p.val t.val)

/-! ### Captures and compare outputs (R362, R363) -/

/-- CAPTURE_EDGE: after an edge of a capture input its new level has stood for `samples` K4 samples; with fewer than `FILTER` it does not qualify. The
time latched is that of the edge at the pin. -/
def execCaptureEdge (i : Fin 4) (rising : Bool) (samples : Nat) (s : State) : Host.Outcome State Fault Refusal :=
  .next (
    let r := R.TMR_CAP_CFG i.val
    let e := s.fld r F.TMR_CAP_CFG_EDGE
    let takes := (e = 0 && rising) || (e = 1 && !rising) || e = 2
    if !s.flag r F.TMR_CAP_CFG_EN || !takes || samples < s.fld r F.TMR_CAP_CFG_FILTER then s
    else
      let n := aget 0 i.val s.time.caps + 1
      let div := let d := s.fld r F.TMR_CAP_CFG_DIV; if d = 0 then 256 else d
      if n < div then { s with time := { s.time with caps := aset 0 i.val n s.time.caps } }
      else
        let s1 := { s with time := { s.time with caps := aset 0 i.val 0 s.time.caps } }
        let irq (s : State) (bits : Nat) : State := if s.flag r F.TMR_CAP_CFG_IRQ then (s.tmrEvt (8 + i.val) bits).wake 3 else s
        if s1.flag (R.TMR_CAP_STAT i.val) F.TMR_CAP_STAT_FULL then
          irq (s1.setFld (R.TMR_CAP_STAT i.val) F.TMR_CAP_STAT_OVERRUN 1) 12
        else
          let f := s1.fld r F.TMR_CAP_CFG_FILTER
          let x := s1.timer (s1.fld r F.TMR_CAP_CFG_TIMER)
          let c := if x.p = 0 then 0 else (x.count s1.now + x.p - f % x.p) % x.p
          let ns := (s1.time.city32 - f * 125) / 32
          let s2 := (s1.wr (R.TMR_CAP_CNT_LO i.val) (w32 c)).wr (R.TMR_CAP_CNT_HI i.val) (w32 (c / 2 ^ 32))
          let s3 := (s2.wr (R.TMR_CAP_S i.val) (w32 (ns / secNs))).wr (R.TMR_CAP_NS i.val) (w32 (ns % secNs))
          irq (s3.setFld (R.TMR_CAP_STAT i.val) F.TMR_CAP_STAT_FULL 1) 4)

/-- TOUT_PULSE_END: a high pulse ends after `PULSE` ticks. -/
def execToutPulseEnd (k : Fin 4) (s : State) : Host.Outcome State Fault Refusal :=
  .next (
    let t := aget 0 k.val s.time.pulse
    if t = 0 then s
    else
      let s1 := s.advanceTo t
      ({ s1 with time := { s1.time with pulse := aset 0 k.val 0 s1.time.pulse } }).setTout k.val false)

/-- A write of `TMR_TOUTk`: the output is low while `EN` is 0 (R363). -/
def State.toutWrite (s : State) (p k : Nat) (data : Word) : State :=
  s.only0 p R.TMR_ERR F.TMR_ERR_PART_WRITE (
    let r := R.TMR_TOUT k
    let s1 := s.wr r ((data &&& 0x003FFFFF) ||| (s.rd r &&& 0x00400000))
    if s1.flag r F.TMR_TOUT_EN then s1
    else ({ s1 with time := { s1.time with pulse := aset 0 k 0 s1.time.pulse } }).setTout k false)

/-- A write of `TMR_CAPi_CFG`: the count of edges restarts when `EN` is written (R362). -/
def State.capWrite (s : State) (p i : Nat) (data : Word) : State :=
  s.only0 p R.TMR_ERR F.TMR_ERR_PART_WRITE (
    let s1 := s.wr (R.TMR_CAP_CFG i) (data &&& 0x7FFFF)
    { s1 with time := { s1.time with caps := aset 0 i 0 s1.time.caps } })

end Sys2Proof.Machine
end

