-- ==== Sys2Proof/Machine/SafeCmd.lean ====
section
/-! DEFINITION. Guarded registers of the F-die, announced resets and the save, and the safety island's checks, Quiet, the Ledger and
the control-core pairs (R372 to R391, R398, R399, R407, R448 to R451). -/

namespace Sys2Proof.Machine

/-! ### Guarded writes (R449 to R451) -/

/-- A guarded write of an F-die register: permitted by an unlocked lock, which it arms; a violation otherwise. -/
def State.guarded (s : State) (p k : Nat) (data : Word) (ok : State → State) : State :=
  let (s1, g) := s.guardTake p
  if g then ok s1 else s1.guardViolation p (w32 k) false data

/-! ### Hush, the save and announced resets (R399, R406, R407) -/

/-- Hush (R406): DACs muted, FE_TXEN low, frames on air cut. -/
def State.enterHush (s : State) : State :=
  let s1 := s.cutAir
  { s1 with
    safe := { s1.safe with dacMuted := true }
    pwr := { s1.pwr with hush := true, saveIsland := true, deeper := none, exiting := none } }

/-- The save starts: `SAVE_BUSY` is set and the save counted. A save under way is not started again. -/
def State.startSave (s : State) : State :=
  if s.save.active.isSome then s
  else
    let s1 := s.bump R.PWR_CNT_SAVE
    { s1 with save := { s1.save with busy := true, ok := false, active := some s1.now } }

/-- Place of a reset code in the order SAFETY, WDOG, PIN_F, RECOVERY, SOFT (R399). -/
def resetRank : Nat → Nat
  | 8 => 0
  | 4 => 1
  | 2 => 2
  | 9 => 3
  | _ => 4

/-- RESET_REQ's payload: kind and partition (PRESUMED layout, log entry 4). -/
def State.sendResetReq (s : State) (code part : Nat) : State := s.passSend .f 0x0F part false 8 [w32 code, w32 part]

/-- An announced F-die reset is requested (R399): Hush, the save, RESET_REQ. A second request merges into the first. -/
def State.requestReset (s : State) (code : Nat) : State :=
  match s.pwr.resetCode with
  | some c =>
    { s with pwr := { s.pwr with
        resetCode := some (if resetRank code < resetRank c then code else c) } }
  | none =>
    let s1 := (s.enterHush).startSave
    ({ s1 with pwr := { s1.pwr with resetCode := some code } }).sendResetReq code 0

/-- The escalation of Quiet (R380): its Ledger record, then a SAFETY reset. -/
def State.escalate (s : State) (src : Nat) : State :=
  (s.ledger 0x0003 src (w32 (s.fld R.SAFE_CAUSE F.SAFE_CAUSE_LATCHED)) (w32 (s.fld R.SAFE_CAUSE F.SAFE_CAUSE_LIVE)) 0).requestReset 8

/-! ### Quiet (R372, R377 to R380) -/

/-- The Quiet exit (R379). -/
def State.quietExit (s : State) : State :=
  let l := s.fld R.SAFE_CAUSE F.SAFE_CAUSE_LATCHED
  let s1 := s.setFld R.SAFE_CAUSE F.SAFE_CAUSE_LATCHED 0
  let s2 := s1.wr R.SAFE_STATE 0
  let s3 := { s2 with safe := { s2.safe with dacMuted := false, hQuiet := false, liveSince := none } }
  (s3.ledger 0x0002 0 (w32 l) 0 0).evtF 0 0xF 0 0 16

/-- QUIET_EXIT (opcode 0x51): the checks of R379 in their order. -/
def execQuietExit (c : CmdDesc) (s0 : State) : Host.Outcome State Fault Refusal :=
  .next (
    if !s0.cmdTurn c then s0
    else
    let s := s0.cmdTake c
    if c.part.val ≠ 0 then s.cmdBad c 26
    else if !s.inQuiet then s.cmdOk c []
    else if bitsAt c.w1 0 16 ≠ s.fld R.SAFE_CAUSE F.SAFE_CAUSE_LATCHED then s.cmdBad c 25
    else if s.fld R.SAFE_CAUSE F.SAFE_CAUSE_LIVE ≠ 0 then s.cmdBad c 24
    else s.quietExit.cmdOk c [])

/-- `ESC_S` as it acts. -/
def State.escS (s : State) : Nat := min 3600 (s.fld R.SAFE_ESC F.SAFE_ESC_ESC_S)

/-- QUIET_ESCALATION: `LIVE` has been non-zero for `ESC_S` seconds (R380). -/
def execQuietEscalation (s : State) : Host.Outcome State Fault Refusal :=
  .next (
    match s.safe.liveSince with
    | none => s
    | some t =>
      if s.escS = 0 || !s.inQuiet then s
      else (s.advanceTo (t + sec s.escS)).escalate 16)

/-- A write of `SAFE_CTRL` (R372, R382): `FORCE` sets or clears cause 13, `YARROW_CONT` 1 resumes a paused Yarrow. -/
def State.safeCtrl (s : State) (p : Nat) (data : Word) : State :=
  s.guarded p R.SAFE_CTRL data (fun s =>
    if p ≠ 0 then s.err R.SAFE_ERR F.SAFE_ERR_PART_WRITE
    else
      let s1 := s.wr R.SAFE_CTRL (data &&& 3)
      let s2 := if bitAt data 0 then s1.quiet 13 else s1.quietOver 13
      if bitAt data 1 then (s2.setFld R.SAFE_YARROW F.SAFE_YARROW_PAUSED 0).setFld R.LANE_STATE F.LANE_STATE_YARROW_PAUSED 0 else s2)

def execForceQuiet (p : Part) (data : Word) (s : State) : Host.Outcome State Fault Refusal := .next (s.safeCtrl p.val data)

def execYarrowResume (p : Part) (data : Word) (s : State) : Host.Outcome State Fault Refusal :=
  .next (s.safeCtrl p.val (fset F.SAFE_CTRL_YARROW_CONT data 1))

/-- The element DACs of an array may be active (R373): a transmission of the committed plan or an Enh-Ack is on air, a calibration runs, or the
Drover's transmit half does; not while they are muted. -/
def State.dacAllowed (s : State) (a : Nat) : Bool :=
  !s.safe.dacMuted &&
    (s.air.any (fun t => t.array = a && t.started && t.holds s.cityNs) || s.calibrating a ||
      (s.droverWin a && (aget {} a s.safe.drover).txRan))

/-- What the output monitor sees on an array is within the intervals that the plan, the Enh-Acks, calibration and the Drover allow (R373). -/
def State.outputAllowed (s : State) (a : Nat) (txen dac : Bool) : Bool := (!txen || s.arrTxen a) && (!dac || s.dacAllowed a)

/-- OUTPUT_MONITOR (R373, R380): FE_TXEN of an array as its pins are, and whether one of its DACs puts out −60 dBm or more. Activity outside the
allowed intervals is cause 4, and in Quiet a SAFETY reset. -/
def execOutputMonitor (a : Fin 4) (txen dac : Bool) (s : State) : Host.Outcome State Fault Refusal :=
  .next (if s.outputAllowed a.val txen dac then s else if s.inQuiet then (s.quiet 4).escalate 4 else s.quiet 4)

/-- BEACON_CHECK (R373): a planned beacon copy is not reported within 1 µs of its end. -/
def execBeaconCheck (id : Nat) (s : State) : Host.Outcome State Fault Refusal :=
  .next (
    match s.air.find? (fun t => t.id = id && t.kind = 1 && !t.ended && !t.cut) with
    | none => s
    | some t => (s.elapse (nsTicks (t.tEnd + 1000 - s.cityNs))).quiet 7)

/-! ### Clock, time and island checks (R372, R374) -/

/-- K3 and K4 are good (R374): the root PLL is in lock, and neither differs by more than 2 % from the island's oscillator. -/
def clockGood (lock : Bool) (k3 k4 : Int) : Bool := lock && decide (k3.natAbs ≤ 20000) && decide (k4.natAbs ≤ 20000)

/-- CLOCK_CHECK: every 10 µs the lock of the root PLL and the errors of K3 and K4 in ppm; cause 3 ends once lock and frequency have been good for
1 s. -/
def execClockCheck (lock : Bool) (k3 k4 : Int) (s : State) : Host.Outcome State Fault Refusal :=
  .next (
    if clockGood lock k3 k4 then
      let t := s.safe.clockGoodSince.getD s.now
      let s1 := ({ s with safe := { s.safe with clockGoodSince := some t } }).setFld R.SAFE_HEALTH F.SAFE_HEALTH_CLOCK_OK 1
      if t + sec 1 ≤ s1.now then s1.quietOver 3 else s1
    else
      (({ s with safe := { s.safe with clockGoodSince := none } }).setFld R.SAFE_HEALTH F.SAFE_HEALTH_CLOCK_OK 0).quiet 3)

/-- TIME_PLAUSIBILITY_CHECK: the difference in ppm of city time and the vault crystal over a 40 ms window. -/
def execTimePlausibilityCheck (ppm : Nat) (s : State) : Host.Outcome State Fault Refusal :=
  .next (
    if s.running && 2000 < ppm then (s.setFld R.SAFE_HEALTH F.SAFE_HEALTH_TIME_OK 0).quiet 8
    else (s.setFld R.SAFE_HEALTH F.SAFE_HEALTH_TIME_OK 1).quietOver 8)

/-- ISLAND_SELF_CHECK. -/
def execIslandSelfCheck (pass : Bool) (s : State) : Host.Outcome State Fault Refusal :=
  .next (
    if pass then (s.setFld R.SAFE_HEALTH F.SAFE_HEALTH_ISLAND_OK 1).quietOver 15
    else (s.setFld R.SAFE_HEALTH F.SAFE_HEALTH_ISLAND_OK 0).quiet 15)

/-! ### Control-core pairs (R375) -/

/-- The pair that runs a command, by opcode (R24; log entry 14). -/
def pairOf (o : Nat) : Nat := if 0x10 ≤ o && o ≤ 0x27 then 1 else if o = 0x50 || o = 0x51 then 0 else 2

/-- A pair of 1 to 3 restarts: its commands complete FLUSHED. `why` is 0 mismatch, 1 watchdog, 2 local SRAM (R387). -/
def State.pairRestart (s : State) (i why : Nat) : State :=
  let mine := s.cmds.filter (fun c => pairOf (c.w0.toNat % 256) = i)
  let s1 := mine.foldl (fun s c => (s.cmdTake c).cmdDone c stFLUSHED [] 0 0) s
  let s2 := s1.setFld R.SAFE_HEALTH F.SAFE_HEALTH_PAIR_OK (clrNbit (s1.fld R.SAFE_HEALTH F.SAFE_HEALTH_PAIR_OK) i)
  let s3 := { s2 with safe := { s2.safe with
    restarting := s2.safe.restarting.filter (· ≠ i) ++ [i]
    droverLapse := s2.safe.droverLapse || i == 3 } }
  (s3.bump R.SAFE_CNT_PAIRRESTART).ledger 0x0022 i (w32 why) 0 0

/-- LOCKSTEP_MISMATCH: a mismatch, or a local SRAM error of a pair, which `SYS_CNT_UE` counts (R454); for pair 0 it is cause 6 and then a SAFETY reset. -/
def execLockstepMismatch (i : Fin 4) (sram : Bool) (s : State) : Host.Outcome State Fault Refusal :=
  .next (
    let s := if sram then s.bump R.SYS_CNT_UE else s
    if i.val = 0 then (s.quiet 6).escalate 6 else s.pairRestart i.val (if sram then 2 else 0))

/-- WATCHDOG_EXPIRY: a pair's 10 ms watchdog; for pair 0 a WDOG reset. -/
def execWatchdogExpiry (i : Fin 4) (s : State) : Host.Outcome State Fault Refusal :=
  .next (if i.val = 0 then s.requestReset 4 else s.pairRestart i.val 1)

/-- PAIR_RESTART_DONE: the pair resumes. -/
def execPairRestartDone (i : Fin 4) (s : State) : Host.Outcome State Fault Refusal :=
  .next (
    if !s.safe.restarting.contains i.val then s
    else
      let s1 := { s with safe := { s.safe with restarting := s.safe.restarting.filter (· ≠ i.val) } }
      s1.setFld R.SAFE_HEALTH F.SAFE_HEALTH_PAIR_OK (setNbit (s1.fld R.SAFE_HEALTH F.SAFE_HEALTH_PAIR_OK) i.val))

/-! ### Ledger freeze and reading (R386, R389) -/

/-- LEDGER_GAP: the record, the event, and the records lost in the count, of R389 (log entry 109). -/
def State.ledgerGap (s : State) (first : Word) (n : Nat) : State :=
  ((s.ledger 0x0070 0 first (w32 n) 0).bumpBy R.LOG_CNT_GAP n).evtF 8 0 first (w32 n) 0

/-- Held records go into the ring in order: one whose write fails twice is cause 9 (R388), and each that verifies ends it (R372). -/
def State.storeAll (s : State) (rs : List (List Word)) : State :=
  let (s1, bad, last) := rs.foldl (fun (x : State × Bool × Bool) r =>
    let (t, ok) := x.1.ledgerStore r
    (if ok then t.quietOver 9 else t, x.2.1 || !ok, ok)) (s, false, true)
  if !bad then s1 else if last then s1.quietLedger.quietOver 9 else s1.quietLedger

/-- The holding FIFO drains into the Ledger. -/
def State.fifoDrain (s : State) : State :=
  let rs := s.log.fifo
  (({ s with log := { s.log with fifo := [] } }).fifoSync).storeAll rs

/-- A freeze ends by a write or by its limit (R389): the FIFO drains, and losses are reported after the drained records. -/
def State.unfreeze (s : State) : State :=
  if !s.log.frozen then s
  else
    let s1 := ({ s with log := { s.log with frozen := false } }).fifoDrain
    let n := s1.log.lostCount
    let s2 := { s1 with log := { s1.log with lostCount := 0, lostFirst := 0 } }
    let s3 := if n = 0 then s2 else s2.ledgerGap s.log.lostFirst n
    ({ s3 with log := { s3.log with draining := true } }).setFld R.LOG_LCTRL F.LOG_LCTRL_FREEZE 0

/-- A write of `LOG_LCTRL` (R389, R391): `FREEZE` 1 is ignored while the Ledger is frozen or draining. -/
def State.lctrlWrite (s : State) (p : Nat) (data : Word) : State :=
  s.only0 p R.LOG_ERR F.LOG_ERR_PART_WRITE (
    if bitAt data 0 then
      (if s.log.frozen || s.log.draining then s
       else ({ s with log := { s.log with frozen := true, frozenAt := s.now } }).wr R.LOG_LCTRL 3)
    else s.unfreeze)

def execLedgerFreeze (p : Part) (s : State) : Host.Outcome State Fault Refusal := .next (s.lctrlWrite p.val 1)
def execLedgerUnfreeze (p : Part) (s : State) : Host.Outcome State Fault Refusal := .next (s.lctrlWrite p.val 0)

/-- FREEZE_LIMIT_EXPIRY: 100 ms after it began a freeze ends. -/
def execFreezeLimitExpiry (s : State) : Host.Outcome State Fault Refusal :=
  .next (if s.log.frozen then (s.advanceTo (s.log.frozenAt + ms 100)).unfreeze else s)

/-- LEDGER_DRAIN_DONE: the FIFO has drained; `FROZEN` clears and a new `FREEZE` is accepted. -/
def execLedgerDrainDone (s : State) : Host.Outcome State Fault Refusal :=
  .next (
    if !s.log.draining then s
    else
      let s1 := s.fifoDrain
      ({ s1 with log := { s1.log with draining := false } }).setFld R.LOG_LCTRL F.LOG_LCTRL_FROZEN 0)

/-- A log window advances: the word, then the index, wrapping. -/
def State.logNext (s : State) (k : Nat) (fi fw : Fld) : State :=
  let w := s.fld k fw
  if w < 7 then s.setFld k fw (w + 1) else (s.setFld k fw 0).setFld k fi (s.fld k fi + 1)

/-- A read of `LOG_LDATA` or `LOG_TDATA` returns the addressed word and advances with `AUTOINC`. -/
def State.logRead (s : State) (p : Nat) (trail : Bool) : State :=
  if trail then
    let k := R.LOG_TADDR p
    let w := wordAt (aget [] (s.fld k F.LOG_TADDR_INDEX) s.log.trail) (s.fld k F.LOG_TADDR_WORD)
    let s1 := s.answer p w
    if s.flag k F.LOG_TADDR_AUTOINC then s1.logNext k F.LOG_TADDR_INDEX F.LOG_TADDR_WORD else s1
  else
    let k := R.LOG_LADDR p
    let w := wordAt (aget [] (s.fld k F.LOG_LADDR_INDEX) s.log.ledger) (s.fld k F.LOG_LADDR_WORD)
    let s1 := s.answer p w
    if s.flag k F.LOG_LADDR_AUTOINC then s1.logNext k F.LOG_LADDR_INDEX F.LOG_LADDR_WORD else s1

def execLogDataRead (p : Part) (trail : Bool) (s : State) : Host.Outcome State Fault Refusal := .next (s.logRead p.val trail)

end Sys2Proof.Machine
end

