-- ==== Sys2Proof/Machine/Aes.lean ====
section
/-! DEFINITION. The ciphers that the spec fixes by the standards it names (PRESUMED: FIPS 197, RFC 5649, NIST SP 800-108, IEEE 802.15.4): AES with
128-bit and 256-bit keys, AES-CMAC and its counter-mode KDF (R182), the AES key wrap (R177, R180), the fingerprint (R176) and CCM* (R165 to R171).
Octets are numbers below 256, first octet first. -/

namespace Sys2Proof.Machine

/-! ### AES -/

/-- The S-box, octet `i` at bits 8 i and up, in four parts of 64 octets. -/
def aesS : List Nat :=
  [0x75B227EBE28012079A059618C323C7041531D871F1E5A534CCF73F362693FDB7C072A49CAFA2D4ADF04759FA7DC982CA76ABD7FE2B670130C56F6BF27B777C63,
    0xD2F3FF1021DAB6BCF5389D928F40A351A89F3C507F02F94585334D43FBAAEFD0CF584C4A39BECB6A5BB1FC20ED00D153842FE329B3D63B52A05A6E1B1A2C8309,
    0x08AE7A65EAF4566CA94ED58D6D37C8E779E4959162ACD3C25C2406490A3A32E0DB0B5EDE14B8EE4688902A22DC4F816073195D643D7EA7C41744975FEC130CCD,
    0x16BB54B00F2D99416842E6BF0D89A18CDF2855CEE9871E9B948ED9691198F8E19E1DC186B95735610EF6034866B53E708A8BBD4B1F74DDE8C6B4A61C2E2578BA]

/-- Its inverse. -/
def aesSInv : List Nat :=
  [0x25D18B6D49A25B76B224D92866A12E084EC3FA420B954CEE3D23C2A632947B54CBE9DEC444438E3487FF2F9B8239E37CFBD7F3819EA340BF38A53630D56A0952,
    0x6B8A130103BDAFC1020F3FCA8F1E2CD00645B3B80558E4F70AD3BC8C00ABD890849D8DA75746155EDAB9EDFD5048706C92B6655DCC5CA4D41698688664F6F872,
    0xF45ACD78FEC0DB9A2079D2C64B3E56FC1BBE18AA0E62B76F89C5291D711AF1476EDF751CE837F9E28535ADE72274AC9673E6B4F0CECFF297EADC674F4111913A,
    0x7D0C2155631469E126D677BA7E042B17619953833CBBEBC8B0F52AAE4D3BE0A0EF9CC9939F7AE52D0D4AB519A97F51605FEC8027591012B131C7078833A8DD1F]

def boxAt (t : List Nat) (x : Nat) : Nat := t.getD (x / 64) 0 / 2 ^ (8 * (x % 64)) % 256

/-- Multiplication by 2 in the field of AES. -/
def xtime (x : Nat) : Nat := if x < 128 then 2 * x else (2 * x - 256) ^^^ 0x1B

/-- Multiplication by a number below 16. -/
def fieldMul (c x : Nat) : Nat :=
  let x2 := xtime x
  let x4 := xtime x2
  (if nbit c 0 then x else 0) ^^^ (if nbit c 1 then x2 else 0) ^^^ (if nbit c 2 then x4 else 0) ^^^ (if nbit c 3 then xtime x4 else 0)

def xorOct (a b : List Nat) : List Nat := List.zipWith (· ^^^ ·) a b

/-- Octets `i` of a block in the order of a list of places. -/
def pickOct (ix : List Nat) (b : List Nat) : List Nat := ix.map (fun i => b.getD i 0)

/-- ShiftRows and its inverse on a block in the order of its octets, columns first. -/
def shiftRows : List Nat → List Nat := pickOct [0, 5, 10, 15, 4, 9, 14, 3, 8, 13, 2, 7, 12, 1, 6, 11]
def shiftRowsInv : List Nat → List Nat := pickOct [0, 13, 10, 7, 4, 1, 14, 11, 8, 5, 2, 15, 12, 9, 6, 3]

/-- A circulant column mix with a first row. -/
def mixColumn (r : Nat × Nat × Nat × Nat) (a b c d : Nat) : List Nat :=
  let m (p q u v : Nat) : Nat := fieldMul r.1 p ^^^ fieldMul r.2.1 q ^^^ fieldMul r.2.2.1 u ^^^ fieldMul r.2.2.2 v
  [m a b c d, m b c d a, m c d a b, m d a b c]

def mixColumns (r : Nat × Nat × Nat × Nat) : List Nat → List Nat
  | a :: b :: c :: d :: rest => mixColumn r a b c d ++ mixColumns r rest
  | _ => []

/-- The next word of a key schedule: word `i` of a key of `nk` words, from the one before it and the one `nk` before. -/
def keyWord (nk i : Nat) (prev back : List Nat) : List Nat :=
  let sub := prev.map (boxAt aesS)
  let rcon := [1, 2, 4, 8, 16, 32, 64, 128, 27, 54].getD (i / nk - 1) 0
  let t := if i % nk = 0 then xorOct (pickOct [1, 2, 3, 0] sub) [rcon, 0, 0, 0] else if 6 < nk && i % nk = 4 then sub else prev
  xorOct back t

/-- The key schedule, the newest word first: `n` words more. -/
def keyWords (nk : Nat) : Nat → Nat → List (List Nat) → List (List Nat)
  | 0, _, ws => ws
  | n + 1, i, ws => keyWords nk n (i + 1) (keyWord nk i (ws.headD []) (ws.getD (nk - 1) []) :: ws)

/-- Words of 4 octets. -/
def chunks4 : List Nat → List (List Nat)
  | a :: b :: c :: d :: rest => [a, b, c, d] :: chunks4 rest
  | _ => []

/-- Blocks of 16 octets. -/
def chunks16 (n : Nat) (xs : List Nat) : List (List Nat) := (List.range n).map (fun i => (xs.drop (16 * i)).take 16)

/-- Round keys of a 16-octet or 32-octet key. -/
def roundKeys (key : List Nat) : List (List Nat) :=
  let nk := key.length / 4
  let n := 4 * (nk + 7)
  chunks16 (nk + 7) ((keyWords nk (n - nk) nk (chunks4 key).reverse).reverse.flatten)

/-- AES encryption of a block. -/
def aesEnc (key block : List Nat) : List Nat :=
  match roundKeys key with
  | [] => block
  | k0 :: ks =>
    let sub (b : List Nat) : List Nat := shiftRows (b.map (boxAt aesS))
    let b := ks.dropLast.foldl (fun b k => xorOct (mixColumns (2, 3, 1, 1) (sub b)) k) (xorOct block k0)
    xorOct (sub b) (ks.getLastD [])

/-- AES decryption of a block. -/
def aesDec (key block : List Nat) : List Nat :=
  match (roundKeys key).reverse with
  | [] => block
  | k0 :: ks =>
    let sub (b : List Nat) : List Nat := (shiftRowsInv b).map (boxAt aesSInv)
    let b := ks.dropLast.foldl (fun b k => mixColumns (14, 11, 13, 9) (xorOct (sub b) k)) (xorOct block k0)
    xorOct (sub b) (ks.getLastD [])

/-! ### Octets and numbers -/

/-- `n` octets of a number, most significant first. -/
def octets (n x : Nat) : List Nat := (List.range n).map (fun i => x / 256 ^ (n - 1 - i) % 256)

def octNat (xs : List Nat) : Nat := xs.foldl (fun a x => 256 * a + x) 0

/-- Octets of a key: 16, or 32 of a 256-bit key. -/
def keyOctets (long : Bool) (k : Nat) : List Nat := octets (if long then 32 else 16) k

def bytesNats (bs : List Byte) : List Nat := bs.map (fun b => b.toNat)
def natsBytes (xs : List Nat) : List Byte := xs.map (fun x => BitVec.ofNat 8 x)

/-- The fingerprint of a key (R176): the first 64 bits of the encryption of a zero block. -/
def fingerprint (long : Bool) (k : Nat) : Nat := octNat ((aesEnc (keyOctets long k) (List.replicate 16 0)).take 8)

/-! ### AES-CMAC and the KDF (R182) -/

/-- Doubling of a block in the field of CMAC. -/
def cmacDouble (b : List Nat) : List Nat :=
  let x := octNat b
  octets 16 (if x < 2 ^ 127 then 2 * x else (2 * x - 2 ^ 128) ^^^ 0x87)

/-- AES-CMAC of octets. -/
def cmac (key m : List Nat) : List Nat :=
  let k1 := cmacDouble (aesEnc key (List.replicate 16 0))
  let n := max 1 ((m.length + 15) / 16)
  let last := m.drop (16 * (n - 1))
  let tail := if last.length = 16 then xorOct last k1
    else xorOct (last ++ [0x80] ++ List.replicate (15 - last.length) 0) (cmacDouble k1)
  let c := (chunks16 (n - 1) m).foldl (fun c b => aesEnc key (xorOct c b)) (List.replicate 16 0)
  aesEnc key (xorOct c tail)

/-- SP 800-108 in counter mode: block i is CMAC of i, label, 0, context and L; the first L bits of the blocks, L a multiple of 8. -/
def kdf (key label context : List Nat) (bits : Nat) : List Nat :=
  ((List.range ((bits + 127) / 128)).flatMap (fun i =>
    cmac key (octets 4 (i + 1) ++ label ++ [0] ++ context ++ octets 4 bits))).take (bits / 8)

/-! ### The AES key wrap (RFC 5649) -/

/-- Semiblocks of 8 octets. -/
def chunks8 (n : Nat) (xs : List Nat) : List (List Nat) := (List.range n).map (fun i => (xs.drop (8 * i)).take 8)

/-- The initial value for a message of a length. -/
def wrapIv (len : Nat) : List Nat := [0xA6, 0x59, 0x59, 0xA6] ++ octets 4 len

/-- One step of the wrap: the integrity register and semiblock `i` of the registers, at step `t`. -/
def wrapStep (key : List Nat) (n : Nat) (s : List Nat × List (List Nat)) (t : Nat) : List Nat × List (List Nat) :=
  let i := t % n
  let b := aesEnc key (s.1 ++ s.2.getD i [])
  (xorOct (b.take 8) (octets 8 (t + 1)), s.2.set i (b.drop 8))

def unwrapStep (key : List Nat) (n : Nat) (s : List Nat × List (List Nat)) (t : Nat) : List Nat × List (List Nat) :=
  let i := t % n
  let b := aesDec key (xorOct s.1 (octets 8 (t + 1)) ++ s.2.getD i [])
  (b.take 8, s.2.set i (b.drop 8))

/-- The wrap of octets whose number is a multiple of 8 and at least 16, so that no padding is added (R177). -/
def keyWrap (key p : List Nat) : List Nat :=
  let n := p.length / 8
  let (a, r) := (List.range (6 * n)).foldl (wrapStep key n) (wrapIv p.length, chunks8 n p)
  a ++ r.flatten

/-- The unwrap: `none` when the integrity check value fails or the message length indicator is not that of the octets (R178, check 1). -/
def keyUnwrap (key c : List Nat) : Option (List Nat) :=
  let n := c.length / 8 - 1
  let (a, r) := (List.range (6 * n)).reverse.foldl (unwrapStep key n) (c.take 8, chunks8 n (c.drop 8))
  if a = wrapIv (8 * n) then some r.flatten else none

/-! ### CCM* (R165, R167) -/

/-- The nonce of a frame: the sender's EUI-64, the frame counter and the security level, each most significant octet first (R167). -/
def ccmNonce (eui counter level : Nat) : List Nat := octets 8 eui ++ octets 4 counter ++ [level]

/-- MIC octets of a security level (R165). -/
def micLen (level : Nat) : Nat :=
  match level % 4 with
  | 1 => 4
  | 2 => 8
  | 3 => 16
  | _ => 0

/-- The payload is encrypted at a level. -/
def levelEnc (level : Nat) : Bool := 4 ≤ level

def padTo16 (xs : List Nat) : List Nat := xs ++ List.replicate ((16 - xs.length % 16) % 16) 0

/-- Key stream block `i`. -/
def ccmStream (key nonce : List Nat) (i : Nat) : List Nat := aesEnc key ([1] ++ nonce ++ octets 2 i)

/-- The authentication tag over header and message, of `m` octets, before its encryption. -/
def ccmTag (key nonce : List Nat) (m : Nat) (a p : List Nat) : List Nat :=
  let flags := (if a.isEmpty then 0 else 64) + 8 * ((m - 2) / 2) + 1
  let ad := if a.isEmpty then [] else padTo16 (octets 2 a.length ++ a)
  let x := padTo16 ([flags] ++ nonce ++ octets 2 p.length ++ ad ++ padTo16 p)
  ((chunks16 (x.length / 16) x).foldl (fun c b => aesEnc key (xorOct c b)) (List.replicate 16 0)).take m

/-- The message under the key stream from block 1 on. -/
def ccmCrypt (key nonce p : List Nat) : List Nat :=
  xorOct p ((List.range ((p.length + 15) / 16)).flatMap (fun i => ccmStream key nonce (i + 1)))

/-- The MIC of a frame: header octets, and the payload in the clear, which counts as header at the levels without encryption. -/
def ccmMic (key nonce : List Nat) (level : Nat) (mhr p : List Nat) : List Nat :=
  if micLen level = 0 then []
  else
    let tag := if levelEnc level then ccmTag key nonce (micLen level) mhr p else ccmTag key nonce (micLen level) (mhr ++ p) []
    xorOct tag (ccmStream key nonce 0)

/-- Protection of a frame: the payload as it is carried, and the MIC. -/
def ccmSeal (key nonce : List Nat) (level : Nat) (mhr p : List Nat) : List Nat × List Nat :=
  (if levelEnc level then ccmCrypt key nonce p else p, ccmMic key nonce level mhr p)

/-- Verification: the payload in the clear, `none` when the MIC fails. -/
def ccmOpen (key nonce : List Nat) (level : Nat) (mhr body mic : List Nat) : Option (List Nat) :=
  let p := if levelEnc level then ccmCrypt key nonce body else body
  if ccmMic key nonce level mhr p = mic then some p else none

end Sys2Proof.Machine
end

