-- ==== Sys2Proof/Machine/Sha.lean ====
section
/-! DEFINITION. The digest and the signature of a firmware image (R418, R420), as the standards that the spec names give them (PRESUMED: FIPS 180-4 for
SHA-256, FIPS 186-4 for ECDSA over P-256; log entry 101). -/

namespace Sys2Proof.Machine

/-! ### SHA-256 -/

def shaK : List Nat :=
  [0x428A2F98, 0x71374491, 0xB5C0FBCF, 0xE9B5DBA5, 0x3956C25B, 0x59F111F1, 0x923F82A4, 0xAB1C5ED5,
    0xD807AA98, 0x12835B01, 0x243185BE, 0x550C7DC3, 0x72BE5D74, 0x80DEB1FE, 0x9BDC06A7, 0xC19BF174,
    0xE49B69C1, 0xEFBE4786, 0x0FC19DC6, 0x240CA1CC, 0x2DE92C6F, 0x4A7484AA, 0x5CB0A9DC, 0x76F988DA,
    0x983E5152, 0xA831C66D, 0xB00327C8, 0xBF597FC7, 0xC6E00BF3, 0xD5A79147, 0x06CA6351, 0x14292967,
    0x27B70A85, 0x2E1B2138, 0x4D2C6DFC, 0x53380D13, 0x650A7354, 0x766A0ABB, 0x81C2C92E, 0x92722C85,
    0xA2BFE8A1, 0xA81A664B, 0xC24B8B70, 0xC76C51A3, 0xD192E819, 0xD6990624, 0xF40E3585, 0x106AA070,
    0x19A4C116, 0x1E376C08, 0x2748774C, 0x34B0BCB5, 0x391C0CB3, 0x4ED8AA4A, 0x5B9CCA4F, 0x682E6FF3,
    0x748F82EE, 0x78A5636F, 0x84C87814, 0x8CC70208, 0x90BEFFFA, 0xA4506CEB, 0xBEF9A3F7, 0xC67178F2]

def shaH : List Nat := [0x6A09E667, 0xBB67AE85, 0x3C6EF372, 0xA54FF53A, 0x510E527F, 0x9B05688C, 0x1F83D9AB, 0x5BE0CD19]

/-- Rotation and sum of 32-bit words. -/
def rot32 (n x : Nat) : Nat := x >>> n ||| x * 2 ^ (32 - n) % 2 ^ 32
def add32 (xs : List Nat) : Nat := xs.sum % 2 ^ 32

/-- The message schedule, newest word first: `n` words more. -/
def shaWords : Nat → List Nat → List Nat
  | 0, ws => ws
  | n + 1, ws =>
    let w (i : Nat) : Nat := ws.getD (i - 1) 0
    let s0 := rot32 7 (w 15) ^^^ rot32 18 (w 15) ^^^ w 15 >>> 3
    let s1 := rot32 17 (w 2) ^^^ rot32 19 (w 2) ^^^ w 2 >>> 10
    shaWords n (add32 [w 16, s0, w 7, s1] :: ws)

/-- One round on the eight working words, with a round constant and a schedule word. -/
def shaRound (v : List Nat) (kw : Nat × Nat) : List Nat :=
  match v with
  | [a, b, c, d, e, f, g, h] =>
    let t1 := add32 [h, rot32 6 e ^^^ rot32 11 e ^^^ rot32 25 e, (e &&& f) ^^^ ((2 ^ 32 - 1 - e) &&& g), kw.1, kw.2]
    let t2 := add32 [rot32 2 a ^^^ rot32 13 a ^^^ rot32 22 a, (a &&& b) ^^^ (a &&& c) ^^^ (b &&& c)]
    [add32 [t1, t2], a, b, c, add32 [d, t1], e, f, g]
  | _ => v

/-- One block of 64 octets. -/
def shaBlock (h block : List Nat) : List Nat :=
  let ws := (shaWords 48 ((chunks4 block).map octNat).reverse).reverse
  List.zipWith (fun x y => add32 [x, y]) h ((shaK.zip ws).foldl shaRound h)

/-- The octets with their padding. -/
def shaPad (m : List Nat) : List Nat := m ++ [0x80] ++ List.replicate ((119 - m.length % 64) % 64) 0 ++ octets 8 (8 * m.length)

/-- SHA-256 of octets. -/
def sha256 (m : List Byte) : List Byte :=
  let x := shaPad (bytesNats m)
  natsBytes ((((List.range (x.length / 64)).map (fun i => (x.drop (64 * i)).take 64)).foldl shaBlock shaH).flatMap (octets 4))

/-! ### ECDSA P-256 -/

def ecP : Nat := 0xFFFFFFFF00000001000000000000000000000000FFFFFFFFFFFFFFFFFFFFFFFF
def ecN : Nat := 0xFFFFFFFF00000000FFFFFFFFFFFFFFFFBCE6FAADA7179E84F3B9CAC2FC632551
def ecB : Nat := 0x5AC635D8AA3A93E7B3EBBD55769886BC651D06B0CC53B0F63BCE3C3E27D2604B
def ecG : Nat × Nat := (0x6B17D1F2E12C4247F8BCE6E563A440F277037D812DEB33A0F4A13945D898C296,
  0x4FE342E2FE1A7F9B8EE7EB4A7C0F9E162BCE33576B315ECECBB6406837BF51F5)

/-- A power modulo `m` with an exponent below 2^`n`. -/
def powMod (m x : Nat) : Nat → Nat → Nat
  | 0, _ => 1
  | n + 1, e =>
    let y := powMod m x n (e / 2)
    if e % 2 = 1 then y * y % m * x % m else y * y % m

/-- The inverse modulo a prime of 256 bits. -/
def invMod (m x : Nat) : Nat := powMod m (x % m) 256 (m - 2)

/-- The chord or tangent of a slope through two points of the curve. -/
def ecChord (l : Nat) (a b : Nat × Nat) : Nat × Nat :=
  let x := (l * l + 2 * ecP - a.1 - b.1) % ecP
  (x, (l * (a.1 + ecP - x) + ecP - a.2) % ecP)

/-- Sum of two points of the curve, `none` the point at infinity. -/
def ecAdd : Option (Nat × Nat) → Option (Nat × Nat) → Option (Nat × Nat)
  | none, q => q
  | p, none => p
  | some a, some b =>
    if a.1 ≠ b.1 then some (ecChord ((b.2 + ecP - a.2) * invMod ecP (b.1 + ecP - a.1) % ecP) a b)
    else if (a.2 + b.2) % ecP = 0 then none
    else some (ecChord ((3 * a.1 * a.1 + ecP - 3) * invMod ecP (2 * a.2) % ecP) a a)

/-- A multiple below 2^`n` of a point. -/
def ecMul (a : Nat × Nat) : Nat → Nat → Option (Nat × Nat)
  | 0, _ => none
  | n + 1, k =>
    let d := ecMul a n (k / 2)
    if k % 2 = 1 then ecAdd (ecAdd d d) (some a) else ecAdd d d

/-- Whether a signature, r then s, of a digest verifies under a public key, X then Y (R418, R420). -/
def ecdsaOk (pub digest sig : List Byte) : Bool :=
  let x := octNat (bytesNats (pub.take 32))
  let y := octNat (bytesNats (pub.drop 32))
  let r := octNat (bytesNats (sig.take 32))
  let t := octNat (bytesNats (sig.drop 32))
  let w := invMod ecN t
  let p := ecAdd (ecMul ecG 256 (octNat (bytesNats digest) * w % ecN)) (ecMul (x, y) 256 (r * w % ecN))
  decide (x < ecP ∧ y < ecP ∧ (y * y + 3 * x) % ecP = (x * x * x + ecB) % ecP ∧ 0 < r ∧ r < ecN ∧ 0 < t ∧ t < ecN ∧ p.map (fun q => q.1 % ecN) = some r)

end Sys2Proof.Machine
end

