-- ==== Sys2Proof/Machine/Image.lean ====
section
/-! DEFINITION. Firmware images: the manifest, its sections and the checks of R420 (R417 to R420). -/

namespace Sys2Proof.Machine

/-- Octets of a store from an address; an octet not listed reads `d`. -/
def storeOctets (d : Byte) (m : List (Nat × Byte)) (addr : Nat) : Nat → List Byte
  | 0 => []
  | n + 1 => aget d addr m :: storeOctets d m (addr + 1) n

/-- Octets written to a store. -/
def octetsPut (d : Byte) (addr : Nat) : List Byte → List (Nat × Byte) → List (Nat × Byte)
  | [], m => m
  | b :: bs, m => octetsPut d (addr + 1) bs (aset d addr b m)

def slotBase (slot : Nat) : Nat := slot * 0x1000000
def slotSize : Nat := 0x1000000

/-- The image of a slot, or the staged one, as a function from offset and length to octets. -/
def State.imageAt (s : State) (mode off n : Nat) : List Byte :=
  if mode = 3 then storeOctets 0 s.boot.staging off n
  else storeOctets 0xFF s.boot.flash (slotBase (mode - 1) + off) n

/-- A field of a manifest, most significant octet first. -/
def mf (m : List Byte) (off n : Nat) : Nat := beNat ((m.drop off).take n)

def manMagic (m : List Byte) : Nat := mf m 0 4
def manSvn (m : List Byte) : Nat := mf m 11 1
def manVersion (m : List Byte) : Nat := mf m 12 4
def manBodyLen (m : List Byte) : Nat := mf m 32 4
def manSections (m : List Byte) : Nat := mf m 68 2

/-- Section entries in use: type, offset, length. -/
def sections (m : List Byte) : List (Nat × Nat × Nat) :=
  (List.range (manSections m)).map (fun i => (mf m (136 + 16 * i) 1, mf m (140 + 16 * i) 4, mf m (144 + 16 * i) 4))

/-- Most octets of a section type (R419); section 7 has one entry of 32 octets for each of the 32 regions of R435. -/
def sectionMax (t : Nat) : Nat :=
  if t ≤ 4 || t = 6 then 2 ^ 20 else if t = 5 then 8 * 2 ^ 20 else if t = 7 then 32 * 32 else if t = 8 then 64 else 16773120

/-- Check 7: the section table satisfies R419. -/
def sectionsOk (m : List Byte) : Bool :=
  let n := manSections m
  let ss := sections m
  let count (t : Nat) : Nat := (ss.filter (fun x => x.1 = t)).length
  1 ≤ n && n ≤ 32 && ss.all (fun x => 1 ≤ x.1 && x.1 ≤ 8 && x.2.1 + x.2.2 ≤ manBodyLen m && x.2.2 ≤ sectionMax x.1) &&
    [1, 2, 3, 4, 6, 7, 8].all (fun t => count t = 1) && count 5 ≤ 1

/-- Checks 1 to 7 of R420 on a manifest, with the fused count F: the number of the first that fails, or 0. A body length outside R418's range
fails with the section table, which no section could satisfy. -/
def manifestFail (f : Nat) (m : List Byte) : Nat :=
  if manMagic m ≠ 0x5A584D46 || mf m 4 2 ≠ 1 then 1
  else if mf m 6 2 ≠ 0x7160 || mf m 8 2 % 2 = 0 then 2
  else if mf m 10 1 % 2 = 1 && mf m 16 16 ≠ Config.unitId.toNat then 3
  else if 64 < manSvn m || manSvn m < f then 4
  else if mf m 70 1 > 3 || Config.keyHash (mf m 70 1) ≠ some (sha256 ((m.drop 72).take 64)) then 5
  else if !ecdsaOk ((m.drop 72).take 64) (sha256 (m.take 4032)) ((m.drop 4032).take 64) then 6
  else if manBodyLen m = 0 || 16773120 < manBodyLen m || !sectionsOk m then 7
  else 0

/-- The manifest of a slot (1 or 2) or of the staged image (3). -/
def State.manifest (s : State) (mode : Nat) : List Byte := s.imageAt mode 0 4096

/-- Check 8: the body's digest. -/
def State.bodyOk (s : State) (mode : Nat) : Bool :=
  let m := s.manifest mode
  sha256 (s.imageAt mode 4096 (manBodyLen m)) = (m.drop 36).take 32

/-- All checks of R420 in order. -/
def State.imageFail (s : State) (mode : Nat) : Nat :=
  let k := manifestFail s.boot.fuseF (s.manifest mode)
  if k ≠ 0 then k else if s.bodyOk mode then 0 else 8

/-- The octets of a section of an image. -/
def State.sectionOf (s : State) (mode t : Nat) : List Byte :=
  match (sections (s.manifest mode)).find? (fun x => x.1 = t) with
  | some (_, off, n) => s.imageAt mode (4096 + off) n
  | none => []

/-- The H-die microcode of an image (section 6). -/
def State.microcode (s : State) (mode : Nat) : List Byte := s.sectionOf mode 6

/-- The signature that the running image's section 7 gives for a region (R419): its entry's `MISR`, most significant octet first. -/
def State.bistEntry (s : State) (r : Nat) : Option Nat :=
  let t := s.sectionOf s.boot.mode 7
  ((List.range (t.length / 32)).find? (fun i => mf t (32 * i) 2 = r)).map (fun i => mf t (32 * i + 16) 16)

/-- A region's signature equals the manifest's entry for the region and run selection (R437): logic and memory together as the entry stands; what
it makes of one of them alone is not given (a constant of Config, log entry 112). -/
def State.bistGood (s : State) (r sel : Nat) (sig : BitVec 128) : Bool :=
  match s.bistEntry r with
  | some x => sig.toNat = (if sel = 3 then x else Config.bistPart r sel x % 2 ^ 128)
  | none => false

end Sys2Proof.Machine
end

