-- ==== Sys2Proof/Machine/Nbr.lean ====
section
/-! DEFINITION. PAN slots and neighbour entries as every family reads them (R132 to R144), and how an attempt ends: acknowledged or
not, retried or completed (R155 to R157). -/

namespace Sys2Proof.Machine

/-! ### PAN slots (R132, R133) -/

def State.panOn (s : State) (p : Nat) : Bool := p < 8 && s.flag (R.PAN_CTRL p) F.PAN_CTRL_ENABLE
def State.panOwner (s : State) (p : Nat) : Nat := s.fld (R.PAN_CTRL p) F.PAN_CTRL_OWNER
def State.panSecured (s : State) (p : Nat) : Bool := s.flag (R.PAN_CTRL p) F.PAN_CTRL_SECURED
def State.panId (s : State) (p : Nat) : Nat := s.fld (R.PAN_ID p) F.PAN_ID_PAN_ID

/-- Partition 0 and the owner of a PAN may act on it (R133). -/
def State.panMay (s : State) (part p : Nat) : Bool := part = 0 || s.panOwner p = part

/-! ### Neighbour entries (R140) -/

/-- `LINK_NBR_USE` shows the valid entries. -/
def State.nbrSync (s : State) : State :=
  s.setFld R.LINK_NBR_USE F.LINK_NBR_USE_VALID (s.link.nbrs.filter (fun e => e.2.valid)).length

/-- Retries of a radio class in a PAN (R156). -/
def State.retries (s : State) (p cls : Nat) : Nat := bitsAt (s.rd (R.PAN_RETRY p)) (4 * cls) 4

/-! ### Attempts (R115 to R119, R155 to R157) -/

/-- Streams that copies of an attempt occupy on air or in the plan. -/
def State.copiesLive (s : State) (a : Nat) : Bool := s.air.any (fun t => t.attempt = a && !t.ended)

/-- Acknowledgement points of an attempt that may still hear an answer. -/
def State.acksLive (s : State) (a : Nat) : Bool := s.slot.acks.any (fun p => p.attempt = a)

/-- The attempt leaves the list, and its acknowledgement points and copies no longer refer to it. -/
def State.attemptDrop (s : State) (a : Nat) : State :=
  { s with slot := { s.slot with
      attempts := s.slot.attempts.filter (fun x => x.id ≠ a)
      acks := s.slot.acks.filter (fun p => p.attempt ≠ a) } }

/-- The frame of an attempt, while it is queued. -/
def State.attemptFrame (s : State) (a : Attempt) : Option Frame := (s.queue a.queue).frames.find? (fun f => f.id = a.frame)

/-- Rewrites one frame of a queue. -/
def State.frameMod (s : State) (q id : Nat) (g : Frame → Frame) : State :=
  let x := s.queue q
  s.setQueue q { x with frames := x.frames.map (fun f => if f.id = id then g f else f) }

/-- An attempt ends without acknowledgement (R156, R157): it uses a retry, and in a shared cell the backoff grows; after the last
attempt the frame completes RETRY_EXHAUSTED. A broadcast that was cut before it was sent ends in the same way (DEDUCED, log entry 20). -/
def State.attemptFail (s : State) (a : Attempt) : State :=
  let s1 := s.attemptDrop a.id
  match s1.attemptFrame a with
  | none => s1
  | some f =>
    match a.nbr with
    | none => s1.finish a.queue f stRETRY_EXHAUSTED 0 0
    | some n =>
      let x := s1.nbr n
      let s2 :=
        if a.shared then
          let be := min (x.be + 1) (s1.maxBe a.pan)
          let (r, s') := s1.draw (2 ^ be)
          s'.setNbr n { x with be := be, bw := r }
        else s1
      if s2.retries a.pan f.cls < f.attempts then s2.finish a.queue f stRETRY_EXHAUSTED 0 0
      else s2.frameMod a.queue f.id (fun g => { g with onAir := false })

/-- The last copy of an attempt is gone and no acknowledgement point is left: the attempt is unacknowledged. -/
def State.attemptCheck (s : State) (id : Nat) : State :=
  match s.slot.attempts.find? (fun x => x.id = id) with
  | none => s
  | some a => if s.copiesLive id || s.acksLive id then s else s.attemptFail a

/-- A valid Enh-Ack acknowledges an attempt (R155): the frame completes OK. -/
def State.attemptOk (s : State) (a : Attempt) : State :=
  let s1 := s.attemptDrop a.id
  match a.nbr with
  | none => s1
  | some n =>
    let s2 := s1.backoffReset n
    match s2.attemptFrame a with
    | none => s2
    | some f => s2.finish a.queue f stOK 0 0

/-- Transmissions that are withdrawn before their first symbol: they leave the plan (R57). Where their pins are already those of a transmission,
FE_TXEN falls and FE_RXEN rises at once, without `TR_GAP` between them (DESIGN CHOICE, log entry 129). -/
def State.withdraw (s : State) (which : AirTx → Bool) : State :=
  let gone := s.air.filter (fun t => which t && !t.started && !t.ended)
  let s1 := { s with
    air := s.air.map (fun t => if which t && !t.started && !t.ended then { t with cut := true, ended := true } else t)
    slot := { s.slot with acks := s.slot.acks.filter (fun p => gone.all (fun t => t.stream ≠ p.stream || t.attempt ≠ p.attempt)) } }
  gone.foldl (fun s t => s.attemptCheck t.attempt) s1

end Sys2Proof.Machine
end

