-- ==== Sys2Proof/Machine/Lanes.lean ====
section
/-! DEFINITION. Bands, profiles, listening points and lanes as every family reads them (R43, R46, R74 to R87), lane release, and what the start
of blanking does (R72). -/

namespace Sys2Proof.Machine

/-! ### Windows and bands -/

/-- Half the usable span of a window, kHz (R46). -/
def halfSpan (high : Bool) : Nat := if high then 48000 else 13000

/-- A band in µHz lies inside the usable span of a window (R46). -/
def State.inSpan (s : State) (a w : Nat) (lo hi : Int) : Bool :=
  let c : Int := s.winCentre a w * 1000000000
  let h : Int := halfSpan (s.arrHigh a) * 1000000000
  decide (c - h ≤ lo) && decide (hi ≤ c + h)

/-- Bands of the band mask, in Hz (R43). -/
def bands : List (Nat × Int × Int) :=
  [(0, 169400000, 169475000), (1, 410000000, 480000000), (2, 779000000, 787000000), (3, 863000000, 876000000),
    (4, 902000000, 928000000), (5, 915000000, 928000000), (6, 2400000000, 2483500000)]

/-- A band of Hz lies wholly inside an enabled band (R44). -/
def State.inPlan (s : State) (lo hi : Int) : Bool :=
  bands.any (fun b => nbit (s.fld R.RFP_BANDPLAN F.RFP_BANDPLAN_BANDS) b.1 && decide (b.2.1 ≤ lo) && decide (hi ≤ b.2.2))

/-! ### Profiles and modes (R81) -/

def State.profWord (s : State) (p w : Nat) : Word := aget 0 (4 * p + w) s.rx.prof

/-- The four words of a profile. -/
def State.profWords (s : State) (p : Nat) : List Word := [0, 1, 2, 3].map (s.profWord p)

def profFamily (ws : List Word) : Nat := bitsAt (wordAt ws 0) 0 2

/-- Mode byte `i` of a profile's words: 0 to 5 searched, 6 and 7 the mode-switch targets. -/
def profMode (ws : List Word) (i : Nat) : Nat :=
  if i < 4 then bitsAt (wordAt ws 1) (8 * i) 8 else bitsAt (wordAt ws 2) (8 * (i - 4)) 8

def State.family (s : State) (p : Nat) : Nat := bitsAt (s.profWord p 0) 0 2
def State.modeByte (s : State) (p i : Nat) : Nat := profMode (s.profWords p) i

/-- The bits of a mode byte are a code of its family. -/
def modeCodeOk (fam m : Nat) : Bool :=
  let c := m % 128
  match fam with
  | 0 => c % 16 < 13 && c / 32 % 4 != 3
  | 1 => c / 4 == 0
  | 2 => c / 4 == 0 && c % 4 != 3
  | _ => c == 0

/-- A valid mode byte of a family. -/
def modeOk (fam m : Nat) : Bool := 128 ≤ m && m < 256 && modeCodeOk fam m

/-- The profile is invalid (R81). -/
def State.profileBad (s : State) (p : Nat) : Bool :=
  let fam := s.family p
  let ms := (List.range 8).map (s.modeByte p)
  let valid := ms.filter (128 ≤ ·)
  valid.isEmpty || valid.any (fun m => !modeCodeOk fam m) || (fam == 3 && 1 < valid.length) || bitsAt (s.profWord p 0) 20 12 < 8

/-- Symbol rates of SUN FSK, in tenths of ksym/s. -/
def fskRate (m : Nat) : Nat := [24, 48, 96, 100, 125, 200, 250, 375, 400, 500, 1000, 1500, 2000].getD (m % 16) 2000

/-- Symbol rate of a mode in 0.1 symbols a second. 62.5 ksym/s of 2.4 GHz O-QPSK follow from 2 symbols an octet and 32 µs an octet (R131's
example). -/
def symRate10 (fam m : Nat) : Nat :=
  match fam with
  | 0 => 1000 * fskRate m
  | 3 => 625000
  | _ => Config.symbolRate fam (m % 128) + 1

/-- Duration of `n` symbols of a mode in ns. -/
def symsNs (fam m n : Nat) : Nat := n * 10000000000 / symRate10 fam m

/-- Carrier-offset tolerance of a family in parts of 10^6 (R93). -/
def carrierPpm (fam : Nat) : Nat := if fam = 1 then 40 else 60

/-- Channel width in Hz by width code (R76). -/
def widthHz (w : Nat) : Option Nat :=
  if w = 15 then some 12500
  else [200000, 400000, 600000, 800000, 1000000, 1200000, 1600000, 2000000, 5000000][w]?

/-- Delay from the element pins to the channel output, ns (R76). -/
def delayNs (w : Nat) : Nat := if w = 15 then 640000 else [96000, 64000, 48000, 48000, 32000, 32000, 32000, 16000, 16000].getD w 0

/-! ### Listening points (R80) -/

/-- Acknowledgement point of a point number of 8,192 and up. -/
def State.ackOf (s : State) (p : Nat) : Option AckPt := s.slot.acks.find? (fun a => a.stream + 8192 = p && a.open_ && !a.stopped)

/-- The acknowledgement point that a point number names: of a stream's points the one that opened last. -/
def State.ackAt (s : State) (p : Nat) : Option AckPt :=
  (s.slot.acks.filter (fun a => a.stream + 8192 = p && a.open_)).foldl (fun (m : Option AckPt) a =>
    match m with
    | none => some a
    | some v => if v.from_ < a.from_ then some a else m) none

def State.pointBeam (s : State) (p : Nat) : Nat := if p < 8192 then s.lpBeam p else ((s.ackAt p).map AckPt.beam).getD 0
def State.pointProfile (s : State) (p : Nat) : Nat := if p < 8192 then s.lpProfile p else ((s.ackAt p).map AckPt.profile).getD 0
def State.pointCentre (s : State) (p : Nat) : Nat := if p < 8192 then s.lpCentre p else ((s.ackAt p).map AckPt.centre).getD 0
def State.pointWidth (s : State) (p : Nat) : Nat := if p < 8192 then s.lpWidth p else ((s.ackAt p).map AckPt.width).getD 0

/-- A DOZE receive window of an array is open (R129, R383). -/
def State.winOpen (s : State) (a : Nat) : Bool := s.slot.wins.any (fun w => w.array = a && w.open_) || s.droverWin a

/-- The array listens: it is enabled, not gated, not blanked, not calibrating, outside a DOZE off period, and not in HOLD or VAULT (R80, R392,
R395). -/
def State.arrListens (s : State) (a : Nat) : Bool :=
  s.arrOn a && s.pwrState < 3 && !s.arrGated a && !s.blanked a && !s.calibrating a && (!s.doze || s.winOpen a)

/-- Symbol rate, in 0.1 symbols a second, of the slowest valid searched mode of a profile; 0 when it has none. -/
def State.slowRate (s : State) (p : Nat) : Nat :=
  ((((List.range 6).map (s.modeByte p)).filter (128 ≤ ·)).map (symRate10 (s.family p))).min?.getD 0

/-- `DET_SYMBOLS` of a profile as it acts (R81). -/
def State.detSymbols (s : State) (p : Nat) : Nat :=
  let n := max 4 (bitsAt (s.profWord p 3) 0 6)
  match s.family p with
  | 0 => n
  | 1 => 0
  | _ => min 6 n

/-- City time, in ns, up to which a listening point of a window searches (R129): its end, the point's channel delay, `DET_SYMBOLS` periods of
its slowest mode and 5 µs. -/
def State.winEnd (s : State) (w : RxWin) (p : Nat) : Nat :=
  w.until_ + delayNs (s.lpWidth p) + s.detSymbols (s.lpProfile p) * 10000000000 / s.slowRate (s.lpProfile p) + 5000

/-- In DOZE a listening point is watched in a window of its array and centre, and the Drover's point in the Drover's window. -/
def State.winWatches (s : State) (p : Nat) : Bool :=
  let a := s.beamArray (s.lpBeam p)
  s.slot.wins.any (fun w => w.open_ && w.array = a && w.centre = s.lpCentre p && s.cityNs < s.winEnd w p) ||
    (s.droverWin a && s.fld (R.SAFE_DROVER a) F.SAFE_DROVER_LP = p)

/-- A point is watched (R80, R119). -/
def State.watched (s : State) (p : Nat) : Bool :=
  let b := s.pointBeam p
  s.beamActive b && s.arrListens (s.beamArray b) && (if p < 8192 then s.lpOn p && (!s.doze || s.winWatches p) else (s.ackOf p).isSome)

/-! ### Statistics and lanes (R85, R86, R100) -/

def stDETECT : Nat := 0
def stFALSE_SYNC : Nat := 1
def stPHR_ERR : Nat := 2
def stFCS_ERR : Nat := 3
def stFCS_OK : Nat := 4
def stPREEMPTED : Nat := 5
def stCOLLIDE : Nat := 6
def stABANDONED : Nat := 7
def stMS_UNSUPPORTED : Nat := 8

/-- A listening point is disabled or suspended (R80). -/
def State.suspended (s : State) (p : Nat) : Bool :=
  !(s.lpOn p && s.beamActive (s.lpBeam p) && s.arrListens (s.beamArray (s.lpBeam p)))

/-- Counts one in a statistic of a listening point; an acknowledgement point has none. The counters of a disabled or suspended point do not
advance (R80), but ABANDONED counts what the suspension itself releases (R86, R100). -/
def State.stat (s : State) (p i : Nat) : State :=
  if p < 8192 && (i = stABANDONED || !s.suspended p) then { s with rx := { s.rx with stat := amod 0 (16 * p + i) satInc s.rx.stat } } else s

/-- Sets a value item of a listening point's statistics. -/
def State.statSet (s : State) (p i : Nat) (v : Word) : State :=
  if p < 8192 then { s with rx := { s.rx with stat := aset 0 (16 * p + i) v s.rx.stat } } else s

def State.lane (s : State) (l : Nat) : Lane := aget {} l s.rx.lanes

/-- `LANE_BUSY` shows the busy lanes, and `LANE_HIGHWATER` the most of them since its last read (R101). -/
def State.laneSync (s : State) : State :=
  let n := s.rx.lanes.length
  let s1 := s.setFld R.LANE_BUSY F.LANE_BUSY_BUSY n
  s1.setFld R.LANE_HIGHWATER F.LANE_HIGHWATER_MAX (max n (s1.fld R.LANE_HIGHWATER F.LANE_HIGHWATER_MAX))

def State.setLane (s : State) (l : Nat) (x : Lane) : State :=
  ({ s with rx := { s.rx with lanes := aset {} l x s.rx.lanes } }).laneSync

/-- A lane returns to IDLE. -/
def State.freeLane (s : State) (l : Nat) : State := s.setLane l {}

/-- A lane is released and counted as ABANDONED on its point (R86). -/
def State.abandon (s : State) (l : Nat) : State := (s.stat (s.lane l).point stABANDONED).freeLane l

/-- Lanes of beams in given states. -/
def State.lanesOf (s : State) (which : Nat → Bool) (states : List Nat) : List Nat :=
  (s.rx.lanes.filter (fun e => which e.2.beam && states.contains e.2.state)).map (fun e => e.1)

/-- Region of the BIST_RUN in progress (R437). -/
def State.bistRegion (s : State) : Option Nat := s.bist.cmd.map (fun c => bitsAt c.w1 0 8)

/-- A cluster is offline under Yarrow, under BIST_RUN, or failed. -/
def State.clusterOut (s : State) (c : Nat) : Bool :=
  nbit (s.fld R.LANE_STATE F.LANE_STATE_FAILED) c || s.bistRegion == some c ||
    (s.flag R.LANE_STATE F.LANE_STATE_OFFLINE_VALID && s.fld R.LANE_STATE F.LANE_STATE_OFFLINE == c)

/-- `RESERVE` as it acts (R85). -/
def State.reserve (s : State) : Nat := min 128 (s.fld R.LANE_CFG F.LANE_CFG_RESERVE)

/-- Available lanes (R85). -/
def State.available (s : State) : Nat := 72 * ((List.range 16).filter (fun c => !s.clusterOut c)).length

/-- `LANE_CAP` shows the available and general counts. -/
def State.capSync (s : State) : State :=
  (s.setFld R.LANE_CAP F.LANE_CAP_AVAILABLE s.available).setFld R.LANE_CAP F.LANE_CAP_GENERAL (s.available - s.reserve)

/-! ### Complex numbers -/

/-- A complex number. -/
abbrev Cx := Rat × Rat

def cxMul (x y : Cx) : Cx := (x.1 * y.1 - x.2 * y.2, x.1 * y.2 + x.2 * y.1)
/-- Squared magnitude. -/
def cxPow (x : Cx) : Rat := x.1 * x.1 + x.2 * x.2
/-- Quotient; of a divisor that is not 0. -/
def cxDiv (x y : Cx) : Cx := let p := cxMul x (y.1, -y.2); (p.1 / cxPow y, p.2 / cxPow y)

/-! ### Blanking (R72) -/

/-- Arrays of `t` that have come to be blanked since `s`: their lanes in SYNC, HEADER and PAYLOAD and their detections that are not committed
are abandoned. -/
def State.blankHit (s t : State) : State :=
  let starts := [0, 1, 2, 3].filter (fun a => t.blanked a && !s.blanked a)
  let hit (b : Nat) : Bool := starts.contains (t.beamArray b)
  let t1 := (t.lanesOf hit [1, 2, 3]).foldl (fun u l => (u.abandon l).bump R.ARR_CNT_BLANKAB) t
  let gone := t1.rx.dets.filter (fun d => hit (t1.pointBeam d.point))
  let t2 := gone.foldl (fun u d => (u.stat d.point stABANDONED).bump R.ARR_CNT_BLANKAB) t1
  { t2 with rx := { t2.rx with dets := t2.rx.dets.filter (fun d => !hit (t1.pointBeam d.point)) } }

end Sys2Proof.Machine
end

