-- ==== Sys2Proof/Machine/Rf.lean ====
section
/-! DEFINITION. Bands, arrays, beams, weights, calibration and the die temperature (R42 to R67, R73 to R77, R474). -/

namespace Sys2Proof.Machine

/-- Only partition 0 writes the `RFP` and `ARR` blocks (R73). -/
def State.rfWriter (s : State) (p : Nat) (ok : State) : State := s.only0 p R.RFP_ERR F.RFP_ERR_PART_WRITE ok

/-! ### Band plan (R43) -/

def State.bandPlan (s : State) (p : Nat) (data : Word) : State :=
  s.rfWriter p (if s.flag R.RFP_BANDPLAN F.RFP_BANDPLAN_LOCKED then s.err R.RFP_ERR F.RFP_ERR_PLAN_LOCKED
    else s.wr R.RFP_BANDPLAN (data &&& 0x7F))

def execBandplanWrite (p : Part) (data : Word) (s : State) : Host.Outcome State Fault Refusal := .next (s.bandPlan p.val data)

/-! ### Channelizer capacity (R47, R75) -/

/-- Low-window-equivalents of one beam of an array with a configuration word. -/
def lweOf (cfg : Word) : Nat := if fget F.ARR_CFG_CLASS cfg = 1 then 4 else (cfgWindows cfg).length

/-- Low-window-equivalents in use. -/
def State.lwe (s : State) : Nat :=
  (((List.range 48).filter s.beamEn).map (fun b => lweOf (s.rd (R.ARR_CFG (s.beamArray b))))).sum

def State.lweSync (s : State) : State := s.setFld R.CHZ_LWE F.CHZ_LWE_USED s.lwe

/-- A write that raises the count above 96 is ignored, and sets `CAPACITY`. -/
def State.capacity (s t : State) (ok : State → State) : State :=
  if s.lwe < t.lwe && 96 < t.lwe then s.err R.RFP_ERR F.RFP_ERR_CAPACITY else ok t.lweSync

/-! ### Windows (R46) and the array checks (R54) -/

/-- A window in use satisfies R46. -/
def windowOk (high : Bool) (centre : Nat) : Bool :=
  let h := halfSpan high
  if high then 2400000 ≤ centre && centre ≤ 2483500 && h < centre && centre + h < 3072000
  else 150000 ≤ centre && centre ≤ 1000000 && h < centre && centre + h < 1024000

/-- The checks of R54 on the word that would enable an array. -/
def State.arrValid (s : State) (a : Nat) (cfg : Word) : Bool :=
  let e := fget F.ARR_CFG_ELEMENTS cfg
  let high := fget F.ARR_CFG_CLASS cfg == 1
  let o := fget F.ARR_CFG_OMNI cfg
  e != 0 && (if high then e % 4096 == 0 else e < 4096) &&
    ([0, 1, 2, 3].all (fun x => x == a || !s.arrOn x || (List.range 16).all (fun i => !(nbit e i && nbit (s.arrElements x) i)))) &&
    s.beamEn o && s.beamArray o == a && (cfgWindows cfg).all (fun w => windowOk high (s.winCentre a w))

/-! ### Listening-point checks that an array's enable repeats (R77) -/

/-- Guard of a channel in µHz: the carrier tolerance of its family times its centre (R77). -/
def guardUHz (fam centre : Nat) : Nat := carrierPpm fam * centre * 125

/-- A band around a centre, in 125 Hz units, with a guard, in µHz. -/
def spanUHz (centre hz guard : Nat) : Int × Int :=
  let c : Int := centre * 125000000
  let h : Int := hz * 500000 + guard
  (c - h, c + h)

/-- The channel of a point with its guard, in µHz; a narrow point's condition 3 widens its band by 10.17 kHz (R79). -/
def chanSpan (fam centre width : Nat) : Int × Int :=
  if width = 15 then (169389830000000, 169485170000000) else spanUHz centre ((widthHz width).getD 0) (guardUHz fam centre)

/-- The channel of a point without its guard. -/
def chanBand (centre width : Nat) : Int × Int :=
  let c : Int := centre * 125
  let h : Int := ((widthHz width).getD 0 : Nat) / 2
  (c - h, c + h)

/-- The span and band-plan checks of a point's words; a beam of 48 and up fails the span. -/
def State.lpSpanOk (s : State) (w0 w1 : Word) : Bool :=
  let b := bitsAt w0 1 6
  let a := s.beamArray b
  let win := bitsAt w0 7 1
  let (lo, hi) := chanSpan (s.family (bitsAt w0 8 6)) (bitsAt w1 0 25) (bitsAt w0 14 4)
  b < 48 && (s.windows a).contains win && s.inSpan a win lo hi

def State.lpPlanOk (s : State) (w0 w1 : Word) : Bool :=
  let (lo, hi) := chanBand (bitsAt w1 0 25) (bitsAt w0 14 4)
  s.inPlan lo hi

/-- Beams with at least one enabled narrow point (R79). -/
def State.narrowBeams (s : State) : List Nat :=
  ((s.lpsOn.filter (fun p => s.lpWidth p == 15)).map s.lpBeam).dedup

/-- Bins that a point that is not narrow uses (R78). -/
def lpBins (fam centre width : Nat) : Nat :=
  ((widthHz width).getD 0 * 1000000 + 2 * guardUHz fam centre + 29999999999) / 30000000000 + 1

/-- Bin budget in use (R78). -/
def State.bins (s : State) : Nat :=
  ((s.lpsOn.filter (fun p => s.lpWidth p != 15)).map (fun p => lpBins (s.family (s.lpProfile p)) (s.lpCentre p) (s.lpWidth p))).sum
    + 5 * s.narrowBeams.length

/-- The registers that count points, bins and narrow groups. -/
def State.lpSync (s : State) : State :=
  let s1 := s.setFld R.CHZ_BINS F.CHZ_BINS_USED s.bins
  let s2 := s1.setFld R.CHZ_NARROW F.CHZ_NARROW_GROUPS s.narrowBeams.length
  s2.setFld R.SRCH_LP_USE F.SRCH_LP_USE_ENABLED s.lpsOn.length

def State.setLpWord (s : State) (p w : Nat) (v : Word) : State := { s with rx := { s.rx with lp := aset 0 (2 * p + w) v s.rx.lp } }

/-- An array is enabled: each enabled point on its beams is checked again (R77). -/
def State.lpRecheck (s : State) (a : Nat) : State :=
  ((s.lpsOn.filter (fun p => s.beamArray (s.lpBeam p) == a)).foldl (fun s p =>
    let w0 := s.lpWord p 0
    let w1 := s.lpWord p 1
    let span := s.lpSpanOk w0 w1
    let plan := s.lpPlanOk w0 w1
    let s1 := if span then s else s.err R.SRCH_ERR F.SRCH_ERR_SPAN
    let s2 := if plan then s1 else s1.err R.RFP_ERR F.RFP_ERR_OUT_OF_PLAN
    if span && plan then s2 else s2.setLpWord p 0 (w0 &&& 0xFFFFFFFE)) s).lpSync

/-! ### A beam becomes inactive (R57) -/

def State.beamOff (s : State) (b : Nat) : State :=
  let ls := s.lanesOf (· == b) [1, 2, 3]
  let s1 := ls.foldl State.abandon s
  let s2 := { s1 with air := s1.air.map (fun (t : AirTx) => if t.beam = b && t.started && !t.ended then { t with cut := true } else t) }
  s2.withdraw (fun t => t.beam = b)

/-! ### Calibration requests (R65) -/

/-- A calibration run is asked for. A request while that array's run waits or is in progress adds no second run (DESIGN CHOICE, log entry 128). -/
def State.calRequest (s : State) (a : Nat) : State :=
  if s.arrOn a && !s.rf.calPending.contains a then { s with rf := { s.rf with calPending := s.rf.calPending ++ [a] } } else s

/-- The calibration of an array becomes stale (R66): CAL_STALE on entry. A further cause while it is stale leaves `CAUSE` as it is, but for an
element fault (DESIGN CHOICE, log entry 95). -/
def State.calStale (s : State) (a cause : Nat) : State :=
  let k := R.ARR_CAL_STATUS a
  if s.flag k F.ARR_CAL_STATUS_STALE then s
  else ((s.setFld k F.ARR_CAL_STATUS_STALE 1).setFld k F.ARR_CAL_STATUS_CAUSE cause).evtF 11 0 (w32 a) (w32 cause) 0

/-! ### Arrays (R54 to R57) -/

/-- The array is switched off: its beams become inactive (R57); its pins, which follow from the arrays that are enabled, go to their inactive
level (R45). -/
def State.arrOff (s : State) (a : Nat) (cfg : Word) : State :=
  let bs := (List.range 48).filter (fun b => s.beamEn b && s.beamArray b == a)
  let s1 := (s.wr (R.ARR_CFG a) cfg).lweSync
  let s2 := bs.foldl State.beamOff s1
  { s2 with rf := { s2.rf with
      txOff := aset 0 a 0 s2.rf.txOff
      rxOn := aset 0 a 0 s2.rf.rxOn
      lastEnd := aset 0 a 0 s2.rf.lastEnd
      calPending := s2.rf.calPending.filter (· ≠ a)
      calRun := if s2.rf.calRun.any (fun r => r.1 = a) then none else s2.rf.calRun } }

/-- A write of `ARR_CFGa`. -/
def State.arrCfg (s : State) (p a : Nat) (data : Word) : State :=
  let k := R.ARR_CFG a
  let d := data &&& 0xFFFF03FF
  s.rfWriter p (
    if s.arrOn a then
      if fget F.ARR_CFG_ENABLE d = 0 then s.capacity (s.wr k d) (fun _ => s.arrOff a d)
      else
        let s1 := s.setFld k F.ARR_CFG_STALE_OMNI (fget F.ARR_CFG_STALE_OMNI d)
        if (d &&& 0xFFFF03F6) = (s.rd k &&& 0xFFFF03F6) then s1 else s1.err R.RFP_ERR F.RFP_ERR_ARRAY_BUSY
    else if fget F.ARR_CFG_ENABLE d = 0 then s.capacity (s.wr k d) id
    else if !s.arrValid a d then s.err R.RFP_ERR F.RFP_ERR_ARRAY_INVALID
    else s.capacity (s.wr k d) (fun t =>
      ((t.setFld R.RFP_BANDPLAN F.RFP_BANDPLAN_LOCKED 1).lpRecheck a).calRequest a))

def execArrayEnable (p : Part) (a : Fin 4) (data : Word) (s : State) : Host.Outcome State Fault Refusal :=
  .next (s.arrCfg p.val a.val (fset F.ARR_CFG_ENABLE data 1))

def execArrayDisable (p : Part) (a : Fin 4) (data : Word) (s : State) : Host.Outcome State Fault Refusal :=
  .next (s.arrCfg p.val a.val (fset F.ARR_CFG_ENABLE data 0))

def execArrayConfigUpdate (p : Part) (a : Fin 4) (data : Word) (s : State) : Host.Outcome State Fault Refusal :=
  .next (if s.arrOn a.val then s.arrCfg p.val a.val (fset F.ARR_CFG_ENABLE data 1) else s)

/-- A write of `ARR_WINa_w`: ignored on an enabled array (R55). -/
def State.winWrite (s : State) (p a w : Nat) (data : Word) : State :=
  s.rfWriter p (if s.arrOn a then s.err R.RFP_ERR F.RFP_ERR_ARRAY_BUSY else s.wr (R.ARR_WIN a w) (data &&& 0x3FFFFF))

/-- A write of `ARR_BLANKa`: bit a reads 1 and cannot be cleared (R72). An array that comes to be blanked by a transmission in progress is
blanked from the write on. -/
def State.blankWrite (s : State) (p a : Nat) (data : Word) : State :=
  s.rfWriter p (s.blankHit (s.wr (R.ARR_BLANK a) (w32 (setNbit (data.toNat % 16) a))))

/-! ### Beams (R55 to R57, R75) -/

/-- A write of `ARR_BEAMb`: the `ARRAY` of a beam of an enabled array keeps its value, the omni beam of an enabled array is not
disabled, and the capacity holds. -/
def State.beamCfg (s : State) (p b : Nat) (data : Word) : State :=
  let k := R.ARR_BEAM b
  let old := s.rd k
  let a := fget F.ARR_BEAM_ARRAY old
  s.rfWriter p (
    if b ≥ 48 then s
    else if s.arrOn a && s.fld (R.ARR_CFG a) F.ARR_CFG_OMNI = b && fget F.ARR_BEAM_ENABLE data = 0 then
      s.err R.RFP_ERR F.RFP_ERR_ARRAY_BUSY
    else
      let hold := s.arrOn a && fget F.ARR_BEAM_ARRAY data ≠ a
      let d := if hold then fset F.ARR_BEAM_ARRAY (data &&& 0xF) a else data &&& 0xF
      let s0 := if hold then s.err R.RFP_ERR F.RFP_ERR_ARRAY_BUSY else s
      s0.capacity (s0.wr k d) (fun t => if s.beamActive b && !t.beamActive b then t.beamOff b else t))

def execBeamEnable (p : Part) (b : Fin 48) (data : Word) (s : State) : Host.Outcome State Fault Refusal :=
  .next (s.beamCfg p.val b.val (fset F.ARR_BEAM_ENABLE data 1))

def execBeamDisable (p : Part) (b : Fin 48) (data : Word) (s : State) : Host.Outcome State Fault Refusal :=
  .next (s.beamCfg p.val b.val (fset F.ARR_BEAM_ENABLE data 0))

/-! ### Weights (R58 to R62) -/

/-- Key of a weight: bank 0 shadow, 1 active. -/
def weightKey (bank set beam win slot : Nat) : Nat :=
  if set = 2 then 6144 + win * 16 + slot else ((bank * 2 + set) * 48 + beam) * 32 + win * 16 + slot

/-- Elements of an array, which number its slots (R59). -/
def State.slots (s : State) (a : Nat) : Nat := ((List.range 16).filter (nbit (s.arrElements a))).length

/-- The address after an access with `AUTOINC` (R60). For set 2, which ignores `BEAM`, the slots and windows of the array that owns the beam of
`BEAM` bound the advance; a beam of an array without elements has no slot and the address goes on to the next window; from a `BEAM` of 48 and
up it goes to slot 0 of window 0 of B0 (DESIGN CHOICE, log entry 94). -/
def State.waddrNext (s : State) : State :=
  let k := R.ARR_WADDR
  if !s.flag k F.ARR_WADDR_AUTOINC then s
  else
    let slot := s.fld k F.ARR_WADDR_SLOT
    let win := s.fld k F.ARR_WADDR_WIN
    let b := s.fld k F.ARR_WADDR_BEAM
    let a := s.beamArray b
    if b < 48 && slot + 1 < s.slots a then s.setFld k F.ARR_WADDR_SLOT (slot + 1)
    else
      let s1 := s.setFld k F.ARR_WADDR_SLOT 0
      if b < 48 && win = 0 && (s.windows a).length = 2 then s1.setFld k F.ARR_WADDR_WIN 1
      else
        let s2 := s1.setFld k F.ARR_WADDR_WIN 0
        if s.fld k F.ARR_WADDR_SET = 2 then s2 else s2.setFld k F.ARR_WADDR_BEAM (if b < 47 then b + 1 else 0)

def State.waddrKey (s : State) (bank : Nat) : Nat :=
  weightKey bank (s.fld R.ARR_WADDR F.ARR_WADDR_SET) (s.fld R.ARR_WADDR F.ARR_WADDR_BEAM) (s.fld R.ARR_WADDR F.ARR_WADDR_WIN)
    (s.fld R.ARR_WADDR F.ARR_WADDR_SLOT)

/-- The address names no weight: set 3 is reserved, and a `BEAM` of 48 to 63 reads 0 and ignores writes (R59, R73); set 2 ignores `BEAM`. -/
def State.waddrNone (s : State) : Bool :=
  let set := s.fld R.ARR_WADDR F.ARR_WADDR_SET
  set = 3 || (set < 2 && 48 ≤ s.fld R.ARR_WADDR F.ARR_WADDR_BEAM)

/-- A write of `ARR_WADDR`. -/
def State.waddrWrite (s : State) (p : Nat) (data : Word) : State := s.rfWriter p (s.wr R.ARR_WADDR (data &&& 0xBFFF))

/-- A write of `ARR_WDATA`. One that is ignored with `WEIGHT_BUSY` does not advance the address (DESIGN CHOICE, log entry 94). -/
def State.weightWrite (s : State) (p : Nat) (data : Word) : State :=
  s.rfWriter p (
    if s.fld R.ARR_WADDR F.ARR_WADDR_SET < 2 && s.flag R.ARR_WCOMMIT F.ARR_WCOMMIT_PENDING then s.err R.RFP_ERR F.RFP_ERR_WEIGHT_BUSY
    else if s.waddrNone then s.waddrNext
    else ({ s with rf := { s.rf with weights := aset 0 (s.waddrKey 0) data s.rf.weights } }).waddrNext)

def execWeightWrite (p : Part) (data : Word) (s : State) : Host.Outcome State Fault Refusal := .next (s.weightWrite p.val data)

/-- A read of `ARR_WDATA`. -/
def State.weightRead (s : State) (p : Nat) : State :=
  let v := if s.waddrNone then 0 else aget 0 (s.waddrKey (s.fld R.ARR_WADDR F.ARR_WADDR_BANK)) s.rf.weights
  (s.answer p v).waddrNext

def execWeightRead (p : Part) (s : State) : Host.Outcome State Fault Refusal := .next (s.weightRead p.val)

/-- A write of `ARR_WCOMMIT` (R61). -/
def State.weightCommit (s : State) (p : Nat) (data : Word) : State :=
  s.rfWriter p (if bitAt data 0 then s.setFld R.ARR_WCOMMIT F.ARR_WCOMMIT_PENDING 1 else s)

def execWeightCommit (p : Part) (data : Word) (s : State) : Host.Outcome State Fault Refusal := .next (s.weightCommit p.val data)

/-- The shadow bank of sets 0 and 1 as both banks. -/
def bankSwap (m : List (Nat × Word)) : List (Nat × Word) :=
  m.filter (fun e => e.1 < 3072) ++ (m.filter (fun e => e.1 < 3072)).map (fun e => (e.1 + 3072, e.2)) ++ m.filter (fun e => 6144 ≤ e.1)

/-- The banks swap, and the new active bank is copied into the shadow bank (R61). The derived transmit weights are a function of the active
weights and the factors (`State.txWeight`), so that they are recomputed with it. -/
def State.weightSwap (s : State) : State :=
  if s.flag R.ARR_WCOMMIT F.ARR_WCOMMIT_PENDING then
    ({ s with rf := { s.rf with weights := bankSwap s.rf.weights } }).setFld R.ARR_WCOMMIT F.ARR_WCOMMIT_PENDING 0
  else s

/-- WEIGHT_BANK_SWAP: within 10 µs of the write while no slot engine runs; a running one swaps at its boundaries (`State.boundaryDue`). -/
def execWeightBankSwap (s : State) : Host.Outcome State Fault Refusal := .next (if s.running then s else s.weightSwap)

/-! ### Weights in use (R58, R62, R64, R66) -/

/-- The complex number of a weight word: 16-bit parts with 14 fractional bits (R58). -/
def cxWord (w : Word) : Cx :=
  let part (n : Nat) : Rat := mkRat (BitVec.ofNat 16 n).toInt 16384
  (part (w.toNat % 65536), part (w.toNat / 65536))

/-- An active weight. -/
def State.weight (s : State) (set b win slot : Nat) : Word := aget 0 (weightKey 1 set b win slot) s.rf.weights

/-- The element in a slot of an array is in the `FAULT` mask: its weight is 0 in both sets (R66). -/
def State.slotFaulted (s : State) (a slot : Nat) : Bool :=
  nbit (s.fld (R.ARR_CAL_STATUS a) F.ARR_CAL_STATUS_FAULT) (((List.range 16).filter (nbit (s.arrElements a))).getD slot 16)

/-- The calibration factor in use: as last measured, the fused one before (R66). -/
def State.calFactor (s : State) (a win slot : Nat) : Cx :=
  ((s.rf.factors.find? (fun e => e.1 = a * 32 + win * 16 + slot)).map (fun e => e.2)).getD (Config.fusedCal a win slot)

/-- The receive weight in use: the active one with the array's receive correction. -/
def State.rxWeight (s : State) (b win slot : Nat) : Cx :=
  let a := s.beamArray b
  if s.slotFaulted a slot then (0, 0)
  else
    let c := ((s.rf.corrections.find? (fun e => e.1 = a * 32 + win * 16 + slot)).map (fun e => e.2)).getD (1, 0)
    cxMul (cxWord (s.weight 0 b win slot)) c

/-- A beam's output for a sample of each element (R58): the saturating sum of weight times sample. -/
def State.beamOutput (s : State) (b win : Nat) (xs : List Cx) : Cx :=
  let ys := (List.range (s.slots (s.beamArray b))).map (fun i => cxMul (s.rxWeight b win i) (xs.getD i (0, 0)))
  let sat (x : Rat) : Rat := max (-Config.beamLimit) (min Config.beamLimit x)
  (sat (ys.map (fun y => y.1)).sum, sat (ys.map (fun y => y.2)).sum)

/-- A beam's transmit weight before the scaling (R62): derived t = w × c, or explicit. The spec does not say whether w is the weight as written or
as R64 corrects it for receive; it is taken as written (DESIGN CHOICE, log entry 127). -/
def State.txWeight (s : State) (b win slot : Nat) : Cx :=
  let a := s.beamArray b
  if s.slotFaulted a slot then (0, 0)
  else if s.flag (R.ARR_BEAM b) F.ARR_BEAM_TX_EXPLICIT then cxWord (s.weight 1 b win slot)
  else cxMul (cxWord (s.weight 0 b win slot)) (s.calFactor a win slot)

/-- The largest |t|² of a beam in a window. -/
def State.txPeak (s : State) (b win : Nat) : Rat :=
  (List.range (s.slots (s.beamArray b))).foldl (fun m i => max m (cxPow (s.txWeight b win i))) 0

/-- The scaled weight's squared magnitude: the share of the stream's power (R69) that leaves an element. The scaled weight itself is
`txWeight` over the root of `txPeak`, so that the largest |t| is 1.0. -/
def State.txShare (s : State) (b win slot : Nat) : Rat := cxPow (s.txWeight b win slot) / s.txPeak b win

/-- The transmit weights of a beam are all zero in a window (R62): an explicit weight is 0, or of a derived one its receive weight or its measured
factor (a fused factor is no zero). -/
def State.txZero (s : State) (b win : Nat) : Bool :=
  let a := s.beamArray b
  (List.range (s.slots a)).all (fun i =>
    s.slotFaulted a i ||
      (if s.flag (R.ARR_BEAM b) F.ARR_BEAM_TX_EXPLICIT then s.weight 1 b win i == 0
       else s.weight 0 b win i == 0 || s.rf.factors.any (fun e => e.1 = a * 32 + win * 16 + i && e.2 == (0, 0))))

/-! ### Calibration (R63 to R67) -/

/-- A write of `ARR_CAL_CTRL`. -/
def State.calCtrl (s : State) (p : Nat) (data : Word) : State :=
  s.rfWriter p (
    let s1 := s.wr R.ARR_CAL_CTRL (data &&& 0x0FFFFFF0)
    if bitAt data 0 then [0, 1, 2, 3].foldl State.calRequest s1 else s1)

def execCalRun (p : Part) (data : Word) (s : State) : Host.Outcome State Fault Refusal :=
  .next (s.calCtrl p.val (data ||| 1))

/-- Start of an array's calibration age: its last successful run, before the first one the F-die reset (`INTERVAL`, `MAXAGE` and `AGE` count from
there: DESIGN CHOICE, log entry 95). -/
def State.calAge (s : State) (a : Nat) : Nat := aget 0 a s.rf.calLast

/-- CAL_INTERVAL_EXPIRY (R65). -/
def execCalIntervalExpiry (a : Fin 4) (s : State) : Host.Outcome State Fault Refusal :=
  .next (
    let n := s.fld R.ARR_CAL_CTRL F.ARR_CAL_CTRL_INTERVAL
    if n = 0 || !s.arrOn a.val then s else (s.advanceTo (s.calAge a.val + sec n)).calRequest a.val)

/-- CAL_MAXAGE_EXPIRY (R66). -/
def execCalMaxageExpiry (a : Fin 4) (s : State) : Host.Outcome State Fault Refusal :=
  .next (
    let n := s.fld R.ARR_CAL_CTRL F.ARR_CAL_CTRL_MAXAGE
    if n = 0 then s else (s.advanceTo (s.calAge a.val + sec n)).calStale a.val 2)

/-- CALIBRATION_START (R65, R67): a requested run starts when none runs, the chip is neither in Quiet nor in Hush, no lane of the array's
beams is in HEADER or PAYLOAD, and the array carries no transmit stream; while the slot engine runs, at a slot boundary only. -/
def execCalibrationStart (a : Fin 4) (s : State) : Host.Outcome State Fault Refusal :=
  .next (
    let mine (b : Nat) : Bool := s.beamArray b == a.val
    if !s.rf.calPending.contains a.val || s.rf.calRun.isSome || s.droverWin a.val || s.inQuiet || s.pwr.hush || 3 ≤ s.pwrState || !s.arrOn a.val then s
    else if s.running && s.now ≠ s.slot.boundaryAt then s
    else if !(s.lanesOf mine [2, 3]).isEmpty || s.air.any (fun t => t.array = a.val && t.holds s.cityNs) then s
    else
      let s1 := (s.lanesOf mine [1]).foldl State.abandon s
      { s1 with
        rf := { s1.rf with calRun := some (a.val, s1.now) }
        pwr := { s1.pwr with idleSince := none } })

/-- Twice the median of powers: of an even number of them the sum of the two in the middle (DESIGN CHOICE, log entry 95). -/
def median2 (ps : List Rat) : Rat :=
  let o := ps.insertionSort (· ≤ ·)
  o.getD ((ps.length - 1) / 2) 0 + o.getD (ps.length / 2) 0

/-- The slots of an array whose response lies more than 30 dB, a factor of 1,000 in power, below the median of the array in a window. -/
def lowSlots (n : Nat) (m : Nat → Cx) : List Nat :=
  let ps := (List.range n).map (fun i => cxPow (m i))
  (List.range n).filter (fun i => decide (2000 * cxPow (m i) < median2 ps))

/-- A quotient; of a divisor 0, for which the spec states none, a free value. -/
def State.cxQuot (s : State) (x y : Cx) : Cx × State :=
  if cxPow y = 0 then
    let (u, s1) := s.free!
    let (v, s2) := s1.free!
    ((u, v), s2)
  else (cxDiv x y, s)

/-- The factor of an element in a window, c = m_rx / m_tx, and, when software has loaded set 2, its receive correction, which makes its receive
chain match slot 0: with the coupler coefficients k, (m_rx of slot 0 / k of slot 0) / (m_rx / k) (DEDUCED, log entry 95). -/
def State.calPut (s : State) (a : Nat) (rx tx : Nat → Nat → Cx) (e : Nat × Nat) : State :=
  let (w, i) := e
  let key := a * 32 + w * 16 + i
  let (c, s1) := s.cxQuot (rx w i) (tx w i)
  let s2 := { s1 with rf := { s1.rf with factors := s1.rf.factors.filter (fun (f : Nat × Cx) => f.1 ≠ key) ++ [(key, c)] } }
  if s2.rf.weights.any (fun x => 6144 ≤ x.1) then
    let k (i : Nat) : Cx := cxWord (aget 0 (weightKey 1 2 0 w i) s2.rf.weights)
    let (r, s3) := s2.cxQuot (cxMul (rx w 0) (k i)) (cxMul (k 0) (rx w i))
    { s3 with rf := { s3.rf with corrections := s3.rf.corrections.filter (fun (f : Nat × Cx) => f.1 ≠ key) ++ [(key, r)] } }
  else { s2 with rf := { s2.rf with corrections := s2.rf.corrections.filter (fun (f : Nat × Cx) => f.1 ≠ key) } }

/-- CALIBRATION_DONE (R64 to R66): the responses m_rx and m_tx that the run has measured, by window times 16 plus slot. A run that finds an element
out of range leaves the factors as last measured and the calibration stale with cause 4. -/
def execCalibrationDone (rx tx : List (Int × Int)) (s0 : State) : Host.Outcome State Fault Refusal :=
  .next (
    match s0.rf.calRun with
    | none => s0
    | some (a, t0) =>
      let s := s0.advanceTo (t0 + us (320 * (s0.windows a).length))
      let k := R.ARR_CAL_STATUS a
      let m (l : List (Int × Int)) (w i : Nat) : Cx := let x := l.getD (w * 16 + i) (0, 0); (x.1, x.2)
      let n := s.slots a
      let els := (List.range 16).filter (nbit (s.arrElements a))
      let low := (s.windows a).flatMap (fun w => lowSlots n (m rx w) ++ lowSlots n (m tx w))
      let fault := low.foldl (fun f i => setNbit f (els.getD i 16 % 16)) 0
      let s1 := { s with rf := { s.rf with calRun := none, calPending := s.rf.calPending.filter (· ≠ a) } }
      if fault ≠ 0 then
        let s2 := s1.setFld k F.ARR_CAL_STATUS_FAULT fault
        (if s2.flag k F.ARR_CAL_STATUS_STALE then s2.setFld k F.ARR_CAL_STATUS_CAUSE 4 else s2.calStale a 4)
      else
        let s2 := ((s.windows a).flatMap (fun w => (List.range n).map (fun i => (w, i)))).foldl (fun s e => s.calPut a (m rx) (m tx) e) s1
        ({ s2 with rf := { s2.rf with
          calLast := aset 0 a s2.now s2.rf.calLast
          calTemp := s2.rf.calTemp.filter (fun (e : Nat × Int) => e.1 ≠ a) ++ [(a, s2.rf.dieTemp)] } }).wr k 0)

/-- `AGE` of an array (R66): seconds since its last successful run, saturating. -/
def State.calAgeS (s : State) (a : Nat) : Nat := min 4095 ((s.now - s.calAge a) / sec 1)

/-! ### Die temperature (R372, R474) -/

/-- The grade's maximum junction temperature, °C (R10). -/
def maxJunction : Int := if Config.gradeI then 125 else 150

/-- The die is 5 °C below the threshold of cause 12, and every supply is in its range (R372). -/
def State.envGood (s : State) : Bool := decide (s.rf.dieTemp ≤ maxJunction * 4) && s.pwr.fSup = 0 && s.pwr.hSup = 0 && !s.pwr.supplyLeft

/-- DIE_TEMP_SAMPLE: a sample in 0.25 °C steps. A move of more than 10 °C since an array's last successful run requests its calibration, one
of more than 20 °C makes it stale (R65, R66); an array without a successful run has no temperature to compare with. Above the maximum junction
temperature + 5 °C the chip enters Quiet with cause 12, which ends 5 °C below that threshold. -/
def execDieTempSample (quarter : BitVec 12) (s0 : State) : Host.Outcome State Fault Refusal :=
  .next (
    let q := quarter.toInt
    let s := ({ s0 with rf := { s0.rf with dieTemp := q } }).setFld R.SYS_TEMP F.SYS_TEMP_TEMP quarter.toNat
    let s1 := s.rf.calTemp.foldl (fun s e =>
      let d := (q - e.2).natAbs
      let s' := if 40 < d then s.calRequest e.1 else s
      if 80 < d then s'.calStale e.1 3 else s') s
    let hot := maxJunction * 4 + 20
    if hot < q then s1.quiet 12
    else if s1.envGood then s1.quietOver 12
    else s1)

end Sys2Proof.Machine
end

