-- ==== Sys2Proof/Machine/Search.lean ====
section
/-! DEFINITION. Listening points and profiles, detections, lanes up to the FCS check, and receive statistics (R78 to R102, R481). -/

namespace Sys2Proof.Machine

/-- Only partition 0 writes the `CHZ`, `SRCH`, `LANE` and `XRD` blocks (R102). -/
def State.srchWriter (s : State) (p : Nat) (ok : State) : State := s.only0 p R.SRCH_ERR F.SRCH_ERR_PART_WRITE ok

/-! ### Listening points (R77 to R81, R481) -/

/-- Centres of the six narrow channels, in 125 Hz units (R79). -/
def narrowCentres : List Nat := [1355250, 1355350, 1355450, 1355550, 1355650, 1355750]

/-- Conditions 1 and 2 of R79. -/
def State.narrowOk (s : State) (w0 w1 : Word) : Bool :=
  let p := bitsAt w0 8 6
  narrowCentres.contains (bitsAt w1 0 25) && s.family p == 0 &&
    ((List.range 8).map (s.modeByte p)).all (fun m => m < 128 || m % 16 < 2)

/-- A condition that fails sets its flag. -/
def State.flagIf (s : State) (bad : Bool) (k : Nat) (f : Fld) : State := if bad then s.err k f else s

/-- A write that enables a point evaluates every check, sets the flag of each that fails, and stores the words when none does (R481). -/
def State.lpEnable (s : State) (p : Nat) (w0 w1 : Word) : State :=
  let width := bitsAt w0 14 4
  let beam := bitsAt w0 1 6
  let prof := bitsAt w0 8 6
  let badWidth := 9 ≤ width && width ≤ 14
  let badProfile := s.profileBad prof
  let badNarrow := width == 15 && !s.narrowOk w0 w1
  let badSpan := 48 ≤ beam || (!badWidth && !s.lpSpanOk w0 w1)
  let badPlan := !badWidth && !s.lpPlanOk w0 w1
  let charge :=
    if width = 15 then (if s.narrowBeams.contains beam then 0 else 5) else lpBins (s.family prof) (bitsAt w1 0 25) width
  let badBudget := !badWidth && (beam < 48 || width ≠ 15) && 131072 < s.bins + charge
  let s1 := s.flagIf badWidth R.SRCH_ERR F.SRCH_ERR_WIDTH_INVALID
  let s2 := s1.flagIf badProfile R.SRCH_ERR F.SRCH_ERR_PROFILE_INVALID
  let s3 := s2.flagIf badNarrow R.SRCH_ERR F.SRCH_ERR_NARROW
  let s4 := s3.flagIf badSpan R.SRCH_ERR F.SRCH_ERR_SPAN
  let s5 := s4.flagIf badPlan R.RFP_ERR F.RFP_ERR_OUT_OF_PLAN
  let s6 := s5.flagIf badBudget R.SRCH_ERR F.SRCH_ERR_BUDGET
  if badWidth || badProfile || badNarrow || badSpan || badPlan || badBudget then s6
  else ((s6.setLpWord p 0 w0).setLpWord p 1 w1).lpSync

/-- The point address after an access to `SRCH_LP_DATA0`. -/
def State.lpNext (s : State) : State :=
  if s.flag R.SRCH_LP_ADDR F.SRCH_LP_ADDR_AUTOINC then
    s.setFld R.SRCH_LP_ADDR F.SRCH_LP_ADDR_LP ((s.fld R.SRCH_LP_ADDR F.SRCH_LP_ADDR_LP + 1) % 8192)
  else s

/-- A write of `SRCH_LP_DATA0` (R102). -/
def State.lpWrite (s : State) (part : Nat) (data : Word) : State :=
  s.srchWriter part (
    let p := s.fld R.SRCH_LP_ADDR F.SRCH_LP_ADDR_LP
    let w0 := data &&& 0x3FFFF
    let w1 := s.rd R.SRCH_LP_DATA1 &&& 0x1FFFFFF
    (if bitAt data 0 then
      (if s.lpOn p then s.err R.SRCH_ERR F.SRCH_ERR_LP_BUSY else s.lpEnable p w0 w1)
     else ((s.setLpWord p 0 w0).setLpWord p 1 w1).lpSync).lpNext)

def execLpEnable (part : Part) (data : Word) (s : State) : Host.Outcome State Fault Refusal := .next (s.lpWrite part.val (data ||| 1))

def execLpDisable (part : Part) (data : Word) (s : State) : Host.Outcome State Fault Refusal :=
  .next (s.lpWrite part.val (data &&& 0xFFFFFFFE))

/-- A read of `SRCH_LP_DATA0` (R102). -/
def State.lpRead (s : State) (part : Nat) : State :=
  let p := s.fld R.SRCH_LP_ADDR F.SRCH_LP_ADDR_LP
  ((s.answer part (s.lpWord p 0)).wr R.SRCH_LP_DATA1 (s.lpWord p 1)).lpNext

def execLpRead (part : Part) (s : State) : Host.Outcome State Fault Refusal := .next (s.lpRead part.val)

/-- The bits of a profile word that R81 defines; the reserved ones read 0 (R9). -/
def profBits (w : Nat) (data : Word) : Word :=
  match w with
  | 0 => data &&& 0xFFFF7F3F
  | 3 => data &&& 0xFFF
  | _ => data

/-- A write of `SRCH_PROF_DATA` (R102). -/
def State.profileWrite (s : State) (part : Nat) (data : Word) : State :=
  s.srchWriter part (
    let p := s.fld R.SRCH_PROF_ADDR F.SRCH_PROF_ADDR_PROFILE
    let w := s.fld R.SRCH_PROF_ADDR F.SRCH_PROF_ADDR_WORD
    if s.lpsOn.any (fun l => s.lpProfile l == p) then s.err R.SRCH_ERR F.SRCH_ERR_LP_BUSY
    else { s with rx := { s.rx with prof := aset 0 (4 * p + w) (profBits w data) s.rx.prof } })

def execProfileWrite (part : Part) (data : Word) (s : State) : Host.Outcome State Fault Refusal := .next (s.profileWrite part.val data)

/-- A read of `SRCH_STAT_DATA` (R100): indexes 0 to 8 clear. -/
def State.statRead (s : State) (part : Nat) : State :=
  let p := s.fld R.SRCH_STAT_ADDR F.SRCH_STAT_ADDR_LP
  let i := s.fld R.SRCH_STAT_ADDR F.SRCH_STAT_ADDR_INDEX
  let s1 := s.answer part (aget 0 (16 * p + i) s.rx.stat)
  if i < 9 then { s1 with rx := { s1.rx with stat := aset 0 (16 * p + i) 0 s1.rx.stat } } else s1

/-- What `LANE_PEEK` shows. -/
def State.lanePeek (s : State) : Word :=
  let l := s.fld R.LANE_PEEK_ADDR F.LANE_PEEK_ADDR_LANE
  let x := s.lane l
  if 1152 ≤ l then 0
  else if x.state = 0 then (if s.clusterOut (l / 72) then 6 else 0)
  else w32 (x.state + (if x.point < 8192 then x.point else x.point - 8192) * 2 ^ 3 + x.mode * 2 ^ 16 +
    (if x.reserve then 2 ^ 19 else 0) + (if x.point < 8192 then 0 else 2 ^ 20))

/-- A write of `LANE_CFG`. -/
def State.laneCfg (s : State) (part : Nat) (data : Word) : State := s.srchWriter part ((s.wr R.LANE_CFG (data &&& 0xFF)).capSync)

/-! ### Equalisers (R92) -/

/-- A lane uses its equaliser: SUN FSK from 100 kb/s on, and both O-QPSK families, unless the profile sets `DFE_OFF`. -/
def eqOn (fam byte : Nat) (prof : List Word) : Bool :=
  !bitAt (wordAt prof 0) 5 && (match fam with
    | 0 => 1000 ≤ fskRate byte * (if nbit byte 4 then 2 else 1)
    | 1 => false
    | _ => true)

/-- The taps after a reset: a single unit centre tap, the seventh of the twelve (DESIGN CHOICE, log entry 97). -/
def eqReset : Equaliser :=
  { ff := (List.range 12).map (fun i => if i = 6 then (1, 0) else (0, 0))
    fb := List.replicate 6 (0, 0)
    past := List.replicate 6 (0, 0) }

/-- The equaliser of a lane that starts in a mode: SUN OFDM has its subcarriers' instead, which `DFE_OFF` does not disable. -/
def eqStart (fam byte : Nat) (prof : List Word) : Equaliser :=
  if fam = 1 then { ofdm := true } else if eqOn fam byte prof then eqReset else {}

def cxInt (x : Int × Int) : Cx := (x.1, x.2)
def cxConj (x : Cx) : Cx := (x.1, -x.2)
def cxSum (xs : List Cx) : Cx := xs.foldl (fun t x => (t.1 + x.1, t.2 + x.2)) (0, 0)

/-- What the taps see of a symbol: the samples, and the past decisions with their sign changed. -/
def Equaliser.input (e : Equaliser) (x : RxSym) : List Cx := x.x.map cxInt ++ e.past.map (fun p => (-p.1, -p.2))

/-- A gain from its two sums: their least-squares quotient, 1 while nothing has been summed (the estimator DESIGN CHOICE, log entry 132). -/
def gainOf (s : Cx × Rat) : Cx := if s.2 = 0 then (1, 0) else (s.1.1 / s.2, s.1.2 / s.2)

/-- A sample and what it should be join the sums of a gain. -/
def gainAdd (s : Cx × Rat) (y d : Cx) : Cx × Rat := let z := cxMul y (cxConj d); ((s.1.1 + z.1, s.1.2 + z.2), s.2 + cxPow d)

/-- The channel of a subcarrier, from the long training field. -/
def Equaliser.channel (e : Equaliser) (k : Nat) : Cx := gainOf (aget ((0, 0), 0) k e.subs)

/-- A symbol of the long training field: its subcarrier's estimate takes it. -/
def Equaliser.ltf (e : Equaliser) (x : RxSym) : Equaliser :=
  { e with subs := aset ((0, 0), 0) x.sub (gainAdd (aget ((0, 0), 0) x.sub e.subs) (cxInt (x.x.headD (0, 0))) (cxInt x.d)) e.subs }

/-- A pilot joins those of its OFDM symbol; the first one after a data subcarrier begins a new symbol. -/
def Equaliser.pilot (e : Equaliser) (x : RxSym) : Equaliser :=
  if !x.pilot then { e with inPilots := false }
  else
    { e with
      pilots := gainAdd (if e.inPilots then e.pilots else ((0, 0), 0)) (cxInt (x.x.headD (0, 0))) (cxMul (e.channel x.sub) (cxInt x.d))
      inPilots := true }

/-- The equalised symbol; without an equaliser the sample itself. A subcarrier is divided by its channel and by what the pilots of its OFDM symbol
show in common; one whose channel is 0 stays as it is. -/
def Equaliser.out (e : Equaliser) (x : RxSym) : Cx :=
  if e.ofdm then
    let y := cxInt (x.x.headD (0, 0))
    let h := cxMul (e.channel x.sub) (gainOf e.pilots)
    if h = (0, 0) then y else cxDiv y h
  else if e.ff.isEmpty then cxInt (x.x.headD (0, 0))
  else cxSum (List.zipWith cxMul (e.ff ++ e.fb) (e.input x))

/-- One NLMS update of the taps towards a known or decided symbol, with a step; an input without power leaves them. -/
def Equaliser.adapt (e : Equaliser) (step : Rat) (x : RxSym) : Equaliser :=
  if e.ff.isEmpty then e
  else
    let u := e.input x
    let y := e.out x
    let d := cxInt x.d
    let norm := (u.map cxPow).sum
    let g : Cx := if norm = 0 then (0, 0) else (step * (d.1 - y.1) / norm, step * (d.2 - y.2) / norm)
    let w := List.zipWith (fun (t v : Cx) => let z := cxMul g (cxConj v); (t.1 + z.1, t.2 + z.2)) (e.ff ++ e.fb) u
    { e with
      ff := w.take 12
      fb := w.drop 12
      past := d :: e.past.take 5 }

/-- A known symbol before the PHR: NLMS with step 2^-2 over preamble and SFD; the long training field of SUN OFDM. -/
def Equaliser.train (e : Equaliser) (x : RxSym) : Equaliser := if e.ofdm then e.ltf x else e.adapt (1 / 4) x

/-- A symbol from the PHR on: NLMS with step 2^-5, decision-directed; the pilots of SUN OFDM. -/
def Equaliser.follow (e : Equaliser) (x : RxSym) : Equaliser := if e.ofdm then e.pilot x else e.adapt (1 / 32) x

/-- A symbol of the PSDU: its power and that of its error are added up (R96), and the equaliser follows. A pilot is no decided symbol. -/
def Lane.symbol (l : Lane) (x : RxSym) : Lane :=
  let y := l.eq.out x
  let d := cxInt x.d
  if l.eq.ofdm && x.pilot then { l with eq := l.eq.follow x }
  else { l with sig := l.sig + cxPow d, err := l.err + cxPow (d.1 - y.1, d.2 - y.2), eq := l.eq.follow x }

/-- Q of a copy (R96): round(4 × SNR in dB), 0 to 255. For q of 1 and more, 40 log10 (sig / err) is at least q - 1/2 exactly when
(sig / err)^80 is at least 10^(2q - 1). -/
def qOf (sig err : Rat) : Nat :=
  let a := (sig.num.natAbs * err.den) ^ 80
  let b := (err.num.natAbs * sig.den) ^ 80
  if a = 0 then 0 else ((List.range 255).filter (fun k => decide (b * 10 ^ (2 * k + 1) ≤ a))).length

/-! ### Detections (R82 to R84) -/

/-- The detection is a repeat of a lane of its point (R83): within a symbol period of the timing that the lane tracks and a quarter of the symbol
rate of its carrier estimate. -/
def State.isRepeat (s : State) (d : Detection) : Bool :=
  s.rx.lanes.any (fun e =>
    let rate := symRate10 e.2.fam e.2.byte
    e.2.point == d.point && 1 ≤ e.2.state && e.2.state ≤ 3 && e.2.mode == d.mode &&
      d.tracked.any (fun t => t.1 == e.1 && (t.2.1 - d.timing).natAbs * rate ≤ 10000000000 && (t.2.2 - d.cfo).natAbs * 40 ≤ rate))

/-- A detection as it waits for its commit. -/
def State.detOf (s : State) (d : Detection) : Det := ⟨s.rx.nextDet, d.point, d.mode, d.strength, d.metric, d.timing, d.cfo, s.now⟩

/-- The lane that a detection takes: it starts in SYNC with what its point names, its equaliser reset. -/
def State.laneFor (s : State) (d : Det) (reserve : Bool) : Lane :=
  let ws := s.profWords (s.pointProfile d.point)
  let fam := profFamily ws
  let byte := profMode ws d.mode
  { state := 1
    point := d.point
    beam := s.pointBeam d.point
    mode := d.mode
    byte := byte
    fam := fam
    reserve := reserve
    det := d.id
    strength := d.strength
    timing := d.timing
    cfo := d.cfo
    since := d.at_
    prof := ws
    centre := s.pointCentre d.point
    width := s.pointWidth d.point
    eq := eqStart fam byte ws }

/-- A new detection waits for its commit, counted as DETECT, and later ones are compared with it (R82). -/
def State.detNew (s : State) (d : Detection) : State :=
  let x := s.detOf d
  let s1 := s.stat d.point stDETECT
  { s1 with rx := { s1.rx with
      dets := s1.rx.dets ++ [x]
      nextDet := s1.rx.nextDet + 1
      firsts := aput d.point { det := x.id, at_ := s1.now, metric := d.metric, mode := d.mode } (adel d.point s1.rx.firsts) } }

/-- A later detection matches better than the first one of its point: by its metric, or at the same instant by its lower mode byte index. -/
def FirstDet.worse (f : FirstDet) (d : Detection) (now : Nat) : Bool :=
  decide (f.metric < d.metric) || (f.metric = d.metric && f.at_ = now && decide (d.mode < f.mode))

/-- A later detection of a point within one symbol period of its first (R82). A better one takes the first's place: before its commit, or in its
lane while that is in SYNC; it is new when the first was lost under R90; otherwise it is discarded. One that has taken the place stands for
the first from then on: still later ones are compared with its metric, up to the end of the first one's period (DESIGN CHOICE, log entry
97). -/
def State.detLater (s : State) (d : Detection) (f : FirstDet) : State :=
  if !f.worse d s.now then s
  else
    let x := s.detOf d
    let s1 := { s with rx := { s.rx with
      nextDet := s.rx.nextDet + 1
      firsts := s.rx.firsts.map (fun (e : Nat × FirstDet) =>
        if e.1 = d.point then (e.1, { f with det := x.id, metric := d.metric, mode := d.mode, lost := false }) else e) } }
    if s.rx.dets.any (fun y => y.id = f.det) then
      { s1 with rx := { s1.rx with dets := s1.rx.dets.map (fun (y : Det) => if y.id = f.det then x else y) } }
    else if f.lost then (s1.stat d.point stDETECT) |> fun s2 => { s2 with rx := { s2.rx with dets := s2.rx.dets ++ [x] } }
    else
      match s.rx.lanes.find? (fun e => e.2.det = f.det) with
      | some (l, y) => if y.state = 1 then s1.setLane l (s.laneFor x y.reserve) else s
      | none => s

/-- The power over a detection's symbols is high enough (R82): `THRESH`, of which 0 to 5 act as 6, above the noise floor that the point's
statistics hold; SUN OFDM has no such test. An acknowledgement point has no noise floor of its own: what its detector declares is taken
(DESIGN CHOICE, log entry 131). -/
def State.detStrong (s : State) (d : Detection) : Bool :=
  let prof := s.pointProfile d.point
  s.family prof = 1 || 8192 ≤ d.point ||
    decide (sext 16 (aget 0 (16 * d.point + 9) s.rx.stat).toNat + max 6 (bitsAt (s.profWord prof 3) 6 6) ≤ d.strength)

/-- PREAMBLE_DETECTION (R82, R83). A point that is not watched detects nothing. -/
def execPreambleDetection (d : Detection) (s : State) : Host.Outcome State Fault Refusal :=
  .next (
    if !s.watched d.point || 6 ≤ d.mode || s.modeByte (s.pointProfile d.point) d.mode < 128 || !s.detStrong d then s
    else if s.isRepeat d then s
    else
      match s.rx.firsts.find? (fun e => e.1 = d.point) with
      | some (_, f) =>
        if (s.now - f.at_) * 125 * s.slowRate (s.pointProfile d.point) ≤ 32 * 10000000000 then s.detLater d f else s.detNew d
      | none => s.detNew d)

/-! ### Commit (R85, R90) -/

/-- Idle lanes of a cluster that takes commits; 0 while it is out of service, gated (R394), or closed before Yarrow or BIST_RUN takes it
(R91). -/
def State.idleIn (s : State) (c : Nat) : Nat :=
  if s.clusterOut c || s.rx.closing = some c || s.bist.closing = some c || s.pwr.gated.contains c then 0
  else 72 - (s.rx.lanes.filter (fun e => e.1 / 72 = c)).length

/-- Idle lanes of all clusters that are not gated. -/
def State.idleLanes (s : State) : Nat := ((List.range 16).map s.idleIn).sum

/-- One more cluster begins to be ungated, when none is (R394): the lowest (DESIGN CHOICE, log entry 71). -/
def State.ungate (s : State) : State :=
  if !s.pwr.ungating.isEmpty then s
  else
    match (List.range 16).find? (fun c => s.pwr.gated.contains c && !s.clusterOut c) with
    | none => s
    | some c => { s with pwr := { s.pwr with ungating := [c], ungateAt := s.now + us 12 } }

/-- A cluster is gated when it holds no reception and `TRIM_SPARE` idle lanes remain without it. -/
def State.gate1 (s : State) (c : Nat) : State :=
  if s.idleIn c = 72 && s.fld R.PWR_PERMIT F.PWR_PERMIT_TRIM_SPARE + 72 ≤ s.idleLanes then
    { s with pwr := { s.pwr with gated := s.pwr.gated ++ [c] } }
  else s

/-- Clusters are gated and ungated (R392, R394): none is gated in RUN; in the deeper states `TRIM_SPARE` idle lanes stay ungated. The
highest clusters are gated first (DESIGN CHOICE, log entry 71). -/
def State.gateEval (s : State) : State :=
  if s.pwrState = 0 then { s with pwr := { s.pwr with gated := [], ungating := [] } }
  else if s.idleLanes < s.fld R.PWR_PERMIT F.PWR_PERMIT_TRIM_SPARE then s.ungate
  else (List.range 16).reverse.foldl State.gate1 s

/-- CLUSTER_UNGATE_DONE: the cluster is ready 12 µs after its ungating. -/
def execClusterUngateDone (c : Fin 16) (s : State) : Host.Outcome State Fault Refusal :=
  .next (
    if !s.pwr.ungating.contains c.val then s
    else
      let s1 := s.advanceTo s.pwr.ungateAt
      { s1 with pwr := { s1.pwr with
          gated := s1.pwr.gated.filter (· ≠ c.val)
          ungating := s1.pwr.ungating.filter (· ≠ c.val) } })

/-- The cluster with the most idle lanes, the lowest on a tie (R85). -/
def State.idleCluster (s : State) : Option Nat :=
  let c := (List.range 16).foldl (fun b c => if s.idleIn b < s.idleIn c then c else b) 0
  if s.idleIn c = 0 then none else some c

/-- The lowest idle lane of a cluster. -/
def State.idleLane (s : State) (c : Nat) : Nat :=
  ((List.range 72).find? (fun i => (s.lane (72 * c + i)).state = 0)).getD 0 + 72 * c

/-- A detection is lost under R90. -/
def State.detLost (s : State) (d : Det) : State :=
  { s with rx := { s.rx with firsts := s.rx.firsts.map (fun (e : Nat × FirstDet) =>
      if e.2.det = d.id then (e.1, { e.2 with lost := true }) else e) } }

/-- A detection lost for want of a lane (R90, rule 6). -/
def State.noLane (s : State) (d : Det) : State := (s.detLost d).bump R.SRCH_CNT_NOLANE

/-- A detection takes an idle lane, which enters SYNC. One that finds no ungated idle lane waits for the ungating (R394). One whose pool has a
free count while no cluster that takes commits has an idle lane is lost for want of a lane, general or reserve (DESIGN CHOICE, log entry
97). -/
def State.commit (s : State) (d : Det) (reserve : Bool) : State :=
  match s.idleCluster with
  | none => if s.pwr.gated.isEmpty then s.noLane d else ({ s with rx := { s.rx with dets := d :: s.rx.dets } }).ungate
  | some c => (s.setLane (s.idleLane c) (s.laneFor d reserve)).bump (R.LANE_COMMIT c)

/-- A lane restarts in SYNC for a stronger detection and keeps its pool (R90). -/
def State.preempt (s : State) (l : Nat) (d : Det) : State :=
  let x := s.lane l
  ((s.stat x.point stPREEMPTED).bump R.SRCH_CNT_PREEMPT).setLane l (s.laneFor d x.reserve)

/-- The weakest lane in SYNC among some lanes; the lowest-numbered among equals. -/
def weakest (ls : List (Nat × Lane)) : Option (Nat × Lane) :=
  (ls.filter (fun e => e.2.state == 1)).foldl (fun b e =>
    match b with
    | none => some e
    | some w => if e.2.strength < w.2.strength then some e else b) none

/-- The lane is weaker than a detection by 6 dB. -/
def weaker (e : Nat × Lane) (d : Det) : Bool := decide (e.2.strength + 12 ≤ d.strength)

/-- Lanes busy in a pool. -/
def State.poolBusy (s : State) (reserve : Bool) : Nat := (s.rx.lanes.filter (fun e => e.2.reserve == reserve)).length

/-- A new detection is handled by the first rule of R90 that applies. -/
def State.handle (s : State) (d : Det) : State :=
  let mine := s.rx.lanes.filter (fun e => e.2.point == d.point)
  let lost (s : State) : State := ((s.detLost d).stat d.point stCOLLIDE).bump R.SRCH_CNT_COLLIDE
  let chip (s : State) : State :=
    if s.poolBusy false < s.available - s.reserve then s.commit d false
    else
      match weakest s.rx.lanes with
      | some e => if weaker e d then s.preempt e.1 d else s.noLane d
      | none => s.noLane d
  let rest (s : State) : State :=
    if 4 ≤ mine.length then lost s
    else if mine.any (fun e => 2 ≤ e.2.state && e.2.state ≤ 4) then
      (if s.poolBusy true < s.reserve then s.commit d true else lost s)
    else chip s
  match weakest mine with
  | some e => if weaker e d then s.preempt e.1 d else rest s
  | none => rest s

/-- DETECTION_COMMIT (R84): the detections are taken in the order of their decisions. -/
def execDetectionCommit (s : State) : Host.Outcome State Fault Refusal :=
  .next (
    match s.rx.dets with
    | [] => s
    | d :: ds => (({ s with rx := { s.rx with dets := ds } }).handle d).gateEval)

/-! ### From the SFD to the FCS (R86 to R89) -/

/-- City time, in ns, at which what leaves the channel output now was at the pins (R76, R94). -/
def State.atPins (s : State) (width : Nat) : Nat := s.cityNs - delayNs width

/-- SFD_FOUND, with the symbols of the preamble since the lane's start and of the SFD; of SUN OFDM, those of the long training field. -/
def execSfdFound (l : Fin 1152) (syms : List RxSym) (s : State) : Host.Outcome State Fault Refusal :=
  .next (
    let x := s.lane l.val
    if x.state = 1 then
      s.setLane l.val { x with state := 2, time := s.atPins x.width, eq := syms.foldl Equaliser.train x.eq }
    else s)

/-- SFD_LIMIT_EXPIRY: `SFD_LIMIT` symbols have passed since the detection, or since the end of a mode-switch PPDU. -/
def execSfdLimitExpiry (l : Fin 1152) (s : State) : Host.Outcome State Fault Refusal :=
  .next (
    let x := s.lane l.val
    if x.state ≠ 1 then s
    else
      let limit := symsNs x.fam x.byte (bitsAt (wordAt x.prof 0) 20 12)
      ((s.advanceTo (x.since + nsTicks limit)).stat x.point stFALSE_SYNC).freeLane l.val)

/-- FCS length of a received frame (R479): what the PHR of SUN FSK signals, and what each other PHY fixes. -/
def Lane.fcsLen (x : Lane) (h : Phr) : Nat :=
  match x.fam with
  | 0 => h.fcsLen
  | 3 => 2
  | _ => 4

/-- A PHR is accepted by a lane (R87). -/
def Lane.phrOk (x : Lane) (h : Phr) : Bool :=
  let w := wordAt x.prof 0
  h.check && !h.reserved && x.fcsLen h ≤ h.len && h.len ≤ (if x.fam = 3 then 127 else 2047) &&
    (match x.fam with
     | 0 => !h.fec || bitAt w 2
     | 1 => h.mcs < 7 && bitAt w (8 + h.mcs)
     | 2 => h.mcs < 4 && bitAt w (16 + h.mcs)
     | _ => true)

/-- The mode byte of a lane's profile that a mode switch names: a searched mode of the profile's family first, then a target, whose byte is
read in the family that the PHR names (R89; DEDUCED, log entry 97). -/
def Lane.switchMode (x : Lane) (fam m : Nat) : Option Nat :=
  (List.range 8).find? (fun i =>
    128 ≤ profMode x.prof i && profMode x.prof i % 128 == m % 128 && (6 ≤ i || fam = profFamily x.prof))

/-- A lane follows a mode switch: it is in SYNC again, in the new mode. Its taps stay, if both modes use them (R92 names no reset here). -/
def Lane.switched (x : Lane) (fam i now : Nat) : Lane :=
  let byte := profMode x.prof i
  { x with
    state := 1
    mode := i
    byte := byte
    fam := fam
    since := now
    eq := if fam ≠ 1 && eqOn fam byte x.prof && !x.eq.ff.isEmpty then x.eq else eqStart fam byte x.prof }

/-- PHR_DECODED, with the symbols of the PHR. -/
def execPhrDecoded (l : Fin 1152) (h : Phr) (syms : List RxSym) (s : State) : Host.Outcome State Fault Refusal :=
  .next (
    let x0 := s.lane l.val
    let x := { x0 with eq := syms.foldl Equaliser.follow x0.eq }
    let bad := (s.stat x.point stPHR_ERR).freeLane l.val
    if x.state ≠ 2 then s
    else
      match h.switch with
      | some (fam, m) =>
        if x.fam ≠ 0 || !h.check || h.reserved || !bitAt (wordAt x.prof 0) 4 then bad
        else
          match x.switchMode fam.val m with
          | some i => s.setLane l.val (x.switched fam.val i s.now)
          | none => (s.stat x.point stMS_UNSUPPORTED).freeLane l.val
      | none =>
        if x.phrOk h then s.setLane l.val { x with state := 3, len := h.len, fcs2 := x.fcsLen h = 2, mcs := h.mcs, fec := h.fec }
        else bad)

/-- PSDU_END, with the symbols of the PSDU. -/
def execPsduEnd (l : Fin 1152) (syms : List RxSym) (s : State) : Host.Outcome State Fault Refusal :=
  .next (
    let x := s.lane l.val
    if x.state = 3 then s.setLane l.val { syms.foldl Lane.symbol x with state := 4, ends := s.atPins x.width } else s)

/-- FCS_CHECK_DONE: with the RSSI over the PSDU in 0.5 dB steps and the carrier offset in Hz. -/
def execFcsCheckDone (l : Fin 1152) (ok : Bool) (rssi : BitVec 16) (cfo : Int) (s : State) : Host.Outcome State Fault Refusal :=
  .next (
    let x := s.lane l.val
    let q := qOf x.sig x.err
    if x.state ≠ 4 then s
    else if ok then
      let s1 := (s.stat x.point stFCS_OK).statSet x.point 10 (w32 rssi.toNat)
      (s1.statSet x.point 11 (w32 q)).setLane l.val { x with state := 5, q := q, rssi := rssi.toInt, cfo := cfo }
    else (s.stat x.point stFCS_ERR).freeLane l.val)

/-- NOISE_FLOOR_SAMPLE (R100): of a watched point on which no lane is committed. -/
def execNoiseFloorSample (p : Fin 8192) (floor : BitVec 16) (s : State) : Host.Outcome State Fault Refusal :=
  .next (if s.watched p.val && s.rx.lanes.all (fun e => e.2.point != p.val) then s.statSet p.val 9 (w32 floor.toNat) else s)

end Sys2Proof.Machine
end

