-- ==== Sys2Proof/Machine/Keys.lean ====
section
/-! DEFINITION. The key cache, blobs, loads, counters and the tamper inputs (R172 to R201). -/

namespace Sys2Proof.Machine

/-- A node record by ordinal. -/
def State.node (s : State) (o : Nat) : NodeRec := aget {} o s.ndir
def State.setNode (s : State) (o : Nat) (x : NodeRec) : State := { s with ndir := aset {} o x s.ndir }

/-! ### Slots (R172 to R176, R188) -/

/-- Fingerprint of a key, plus 1 (R176). -/
def keyFp (long : Bool) (k : Nat) : Nat := fingerprint long k + 1

def attrENC : Nat := 1
def attrDEC : Nat := 2
def attrWRAP : Nat := 3
def attrDERIVE : Nat := 4

def KeyRole.pinned : KeyRole → Bool
  | .link _ => false
  | _ => true

def KeyRole.frameKey : KeyRole → Bool
  | .link _ | .join _ | .group _ _ => true
  | _ => false

/-- Attribute of the first slot of a role. -/
def KeyRole.attr : KeyRole → Nat
  | .kek _ => attrWRAP
  | .derive _ => attrDERIVE
  | _ => attrENC

/-- Check value of a slot (R188): CRC-32C over key, attribute, owning partition and fingerprint, in octets in this order, each most significant
first (DESIGN CHOICE, log entry 100). -/
def slotCrc (long : Bool) (key attr part fp : Nat) : Word :=
  crc32c (natsBytes (keyOctets long key ++ [attr, part] ++ octets 8 (fp - 1)))

/-- The slot of a key that an operation takes: the second for DEC, else the first. -/
def KeySlot.word (x : KeySlot) (attr : Nat) : SlotWord := if attr = attrDEC then x.b else x.a

/-- Number of that slot. -/
def KeySlot.number (x : KeySlot) (attr : Nat) : Nat := if attr = attrDEC then x.slot + 1 else x.slot

def KeySlot.key (x : KeySlot) : Nat := x.a.key

/-- The slot for an operation passes its check: its attribute allows the operation and its check value matches its content (R188). -/
def KeySlot.good (x : KeySlot) (attr : Nat) : Bool :=
  let w := x.word attr
  w.attr = attr && w.crc = slotCrc x.long w.key attr x.part x.fp

/-- The slots that a key has. -/
def KeySlot.attrs (x : KeySlot) : List Nat := if x.role.frameKey then [attrENC, attrDEC] else [x.role.attr]

/-- The slot entry of a role, loaded or not. -/
def State.keyEntry (s : State) (r : KeyRole) : Option KeySlot := s.key.slots.find? (fun x => x.role = r)

/-- The key of a role is in the cache. -/
def State.keyHeld (s : State) (r : KeyRole) : Bool := s.key.slots.any (fun x => x.role = r && x.loaded)

/-- The loaded key of a role whose slot for an operation passes its check. -/
def State.keyGood (s : State) (r : KeyRole) (attr : Nat) : Option KeySlot :=
  s.key.slots.find? (fun x => x.role = r && x.loaded && x.good attr)

/-- Slot numbers in use. -/
def State.slotsUsed (s : State) : List Nat := (s.key.slots.filter (fun x => x.loaded)).flatMap (fun x => x.attrs.map x.number)

/-- Pairs that hold at least one key of some kind. -/
def State.pairsOf (s : State) (which : KeySlot → Bool) : List Nat :=
  ((s.key.slots.filter (fun x => x.loaded && which x)).map (fun x => x.slot / 2)).dedup

def State.pairsUsed (s : State) : Nat := (s.pairsOf (fun _ => true)).length
def State.pairsPinned (s : State) : Nat := (s.pairsOf (fun x => x.role.pinned)).length

/-- `KEY_CACHE_USE` shows the cache, and `KEK_VALID` the partitions that have a KEK, in its slot or to be reloaded into it. -/
def State.keySync (s : State) : State :=
  let s1 := (s.setFld R.KEY_CACHE_USE F.KEY_CACHE_USE_LOADED s.pairsUsed).setFld R.KEY_CACHE_USE F.KEY_CACHE_USE_PINNED s.pairsPinned
  s1.setFld R.KEY_STATUS F.KEY_STATUS_KEK_VALID
    ([0, 1, 2, 3].foldl (fun m p => if (s.keyEntry (.kek p)).isSome then setNbit m p else m) 0)

def State.setSlots (s : State) (l : List KeySlot) : State := ({ s with key := { s.key with slots := l } }).keySync

/-- An entry without its key. -/
def KeySlot.erased (x : KeySlot) : KeySlot := { x with loaded := false, a := {}, b := {} }

/-- The key of a role is erased; a pinned key keeps its entry. -/
def State.keyErase (s : State) (r : KeyRole) : State :=
  s.setSlots (if r.pinned then s.key.slots.map (fun x => if x.role = r then x.erased else x)
    else s.key.slots.filter (fun x => x.role ≠ r))

/-- The role leaves the cache altogether. -/
def State.keyForget (s : State) (r : KeyRole) : State := s.setSlots (s.key.slots.filter (fun x => x.role ≠ r))

/-- A pair is locked while an Enh-Ack that it must secure is to be sent (R175). -/
def State.keyLocked (s : State) (x : KeySlot) : Bool := s.link.acks.any (fun a => a.key = x.fp)

/-- The least recently used unpinned pair that is not locked. -/
def State.lru (s : State) : Option KeySlot :=
  (s.key.slots.filter (fun x => !x.role.pinned && x.loaded && !s.keyLocked x)).foldl (fun b x =>
    match b with
    | none => some x
    | some y => if x.used < y.used then some x else b) none

/-- The slot that a load takes: the one that the role has; a WRAP or DERIVE key the lowest free slot beside another such key; else the lowest free
pair (DESIGN CHOICE, log entry 22: no rule says which). -/
def State.slotFree (s : State) (r : KeyRole) : Option Nat :=
  match s.key.slots.find? (fun x => x.role = r && x.loaded) with
  | some x => some x.slot
  | none =>
    let used := s.slotsUsed
    let half := if r.frameKey then none
      else (List.range 8192).find? (fun n => !used.contains n && used.contains (if n % 2 = 0 then n + 1 else n - 1))
    match half with
    | some n => some n
    | none => ((List.range 4096).find? (fun i => !used.contains (2 * i) && !used.contains (2 * i + 1))).map (2 * ·)

/-- A load has a slot: a free one, or one that an eviction frees (R175). -/
def State.keyRoom (s : State) (r : KeyRole) : Option State :=
  if (s.slotFree r).isSome then some s
  else (s.lru).map (fun x => (s.keyForget x.role).bump R.KEY_CNT_EVICT)

/-- A use of a key moves it to the front of the order of use. -/
def State.keyUse (s : State) (r : KeyRole) : State :=
  { s with key := { s.key with
      uses := s.key.uses + 1
      slots := s.key.slots.map (fun x => if x.role = r then { x with used := s.key.uses + 1 } else x) } }

/-- A slot check fails (R189): the key is invalidated, which for a frame key is its pair, counted, reported and logged. It reloads on its next
need. -/
def State.slotFail (s : State) (x : KeySlot) (no : Nat) : State :=
  let s1 := ((s.keyErase x.role).bump R.KEY_CNT_SCRUB).evtF 13 (2 ^ x.part) (w32 no) (w32 8) 0
  s1.ledger 0x0041 x.part (w32 no) (w32 8) (w32 (x.fp - 1))

/-- The check of a role's slot at its use for an operation (R188). -/
def State.keyCheck (s : State) (r : KeyRole) (attr : Nat) : State :=
  match s.keyEntry r with
  | none => s
  | some x => if x.loaded && !x.good attr then s.slotFail x (x.number attr) else s

/-- A use of a role's key for an operation: the key, when its slot passes its check. -/
def State.keyTake (s : State) (r : KeyRole) (attr : Nat) : State × Option KeySlot :=
  let t := s.keyCheck r attr
  match t.keyGood r attr with
  | some k => (t.keyUse r, some k)
  | none => (t, none)

/-! ### Blobs (R177, R178) -/

/-- An opened blob: `KIND`, `KLEN`, key, `KEY_ID` and `CTR_FLOOR`. -/
structure Opened where
  kind : Nat
  long : Bool
  key : Nat
  keyId : Nat
  floor : Nat
deriving DecidableEq, Repr

/-- The KEK of a partition, when its WRAP slot holds it. -/
def State.kek (s : State) (p : Nat) : Option Nat := (s.keyGood (.kek p) attrWRAP).map KeySlot.key

/-- The checks of R178 in their order: a cause, or the opened blob. A blob whose header names a partition without a valid KEK cannot be
unwrapped and fails check 7 (DEDUCED, log entry 21). -/
def State.blobOpen (s : State) (part : Nat) (b : List Byte) : Except Nat Opened :=
  let o (i : Nat) : Nat := (b.getD i 0).toNat
  let hp := o 2 % 4
  let kind := o 1 % 4
  let long := nbit (o 1) 2
  match s.kek hp with
  | none => .error 7
  | some k =>
    match keyUnwrap (keyOctets true k) (bytesNats (b.drop 8)) with
    | none => .error 1
    | some p =>
      if p.take 8 ≠ bytesNats (b.take 8) then .error 2
      else if o 0 ≠ 1 || kind = 3 || 8 ≤ o 1 || 4 ≤ o 2 || o 3 ≠ 0 || (p.drop 44).any (· ≠ 0) then .error 3
      else if (kind = 0 && long) || (kind = 2 && !long) then .error 4
      else if !long && ((p.drop 24).take 16).any (· ≠ 0) then .error 5
      else if hp ≠ part then .error 6
      else .ok ⟨kind, long, octNat ((p.drop 8).take (if long then 32 else 16)), beNat ((b.drop 4).take 4), octNat ((p.drop 40).take 4)⟩

/-- Partition that a blob's header names. -/
def blobPart (b : List Byte) : Nat := (b.getD 2 0).toNat % 4

/-- The blob at a store position. -/
def State.blob (s : State) (j : Nat) : List Byte := aget [] j s.key.store

/-! ### Counter entries and records (R190 to R195) -/

/-- Counter entry of a role. -/
def ctrOf : KeyRole → Option Nat
  | .link n => some n
  | .join p => some (8192 + 4 * p)
  | .group p pos => some (8193 + 4 * p + pos)
  | _ => none

def State.ctr (s : State) (e : Nat) : CtrEntry := aget {} e s.key.ctrs
def State.setCtr (s : State) (e : Nat) (x : CtrEntry) : State := { s with key := { s.key with ctrs := aset {} e x s.key.ctrs } }
def State.record (s : State) (i : Nat) : CtrRec := aget {} i s.vault.records
def State.setRecord (s : State) (i : Nat) (x : CtrRec) : State := { s with vault := { s.vault with records := aset {} i x s.vault.records } }

/-- Writes an entry's N into its record's outgoing checkpoint (R193). -/
def State.checkpoint (s : State) (e : Nat) : State :=
  let x := s.ctr e
  (s.setCtr e { x with cp := x.n }).setRecord x.record { s.record x.record with out := x.n }

/-- An entry is unbound: exact values go into its record first (R193). -/
def State.unbind (s : State) (e : Nat) : State :=
  let x := s.ctr e
  if !x.bound then s
  else
    let r := s.record x.record
    let l := (s.nbr e).link
    let inn := if e < 8192 && l.valid && l.key = x.fp && !l.noMatch then some l.ctr else r.inn
    let s1 := s.setRecord x.record { r with out := x.n, inn := inn, bound := false, unbound := s.vault.unbinds + 1 }
    ({ s1 with vault := { s1.vault with unbinds := s1.vault.unbinds + 1 } }).setCtr e {}

/-- The record that has been unbound for longest. -/
def State.oldestRecord (s : State) : Nat :=
  ((List.range 8224).foldl (fun (b : Option (Nat × Nat)) i =>
    let r := s.record i
    if r.bound then b
    else
      match b with
      | none => some (i, r.unbound)
      | some (_, u) => if r.unbound < u then some (i, r.unbound) else b) none).map (·.1) |>.getD 0

/-- A frame key is bound to its entry (R190, R192, R195). Entries bound to the same key material share its one counter record (DESIGN CHOICE, log
entry 126). One bound with a counter of 0xFF000000 or more warns at its next counter, and never at 0xFFFFFFFF (DESIGN CHOICE, log entry
125). -/
def State.bind (s0 : State) (e fp keyId part floor : Nat) : State :=
  if (s0.ctr e).bound && (s0.ctr e).fp = fp then s0
  else
    let s := s0.unbind e
    match s.vault.records.find? (fun r => r.2.fp = fp) with
    | some (i, r) =>
      let n := max floor r.out
      let s1 := (s.setRecord i { r with bound := true, unbound := 0, out := n }).setCtr e ⟨true, fp, n, false, keyId, part, n, i, 0⟩
      let x := s1.nbr e
      match r.inn with
      | some c =>
        if e < 8192 && !x.link.valid then s1.setNbr e { x with link := ⟨fp, x.link.prev, c, 0, 0, true, true⟩ } else s1
      | none => s1
    | none =>
      let i := s.oldestRecord
      let r := s.record i
      let s1 := if r.fp = 0 then s else s.ledger 0x0043 0 (w32 e) (w32 (r.fp - 1)) (w32 r.out)
      (s1.setRecord i ⟨fp, floor, none, true, 0⟩).setCtr e ⟨true, fp, floor, false, keyId, part, floor, i, 0⟩

/-- The node ordinal that KEY_SPENT_WARN names: of a link key's neighbour, else 0. -/
def State.ctrNode (s : State) (e : Nat) : Nat := if e < 8192 then (s.nbr e).node else 0

/-- The next counter of an entry (R191, R193); `none` when the key is spent. -/
def State.ctrTake (s : State) (e : Nat) : Option Nat × State :=
  let x := s.ctr e
  if 0xFFFFFFFF ≤ x.n then (none, s)
  else
    let n1 := x.n + 1
    let s1 := s.setCtr e { x with n := n1 }
    let s2 := if x.cp + 262144 ≤ n1 then s1.checkpoint e else s1
    let s3 :=
      if 0xFF000000 ≤ n1 && !x.warned then
        (s2.setCtr e { s2.ctr e with warned := true }).evtF 14 (2 ^ x.part) (w32 e) (w32 x.keyId) (w32 (s.ctrNode e))
      else s2
    (some x.n, s3)

/-! ### Loads (R180, R183 to R186) -/

/-- What a load of a role finds: key, its length, `KEY_ID`, partition, floor, store position plus 1, DERIVE number plus 1. -/
structure Material where
  key : Nat
  long : Bool
  keyId : Nat
  part : Nat
  floor : Nat
  pos : Nat
  derived : Nat
deriving DecidableEq, Repr

/-- The key that a neighbour of a PAN derives (R182, R183): label "ZX-LINK"; PAN ID, EUI-64 and `VERSION` as context. -/
def State.linkKdf (s : State) (p eui : Nat) (long : Bool) (key : Nat) : Nat :=
  octNat (kdf (keyOctets long key) [0x5A, 0x58, 0x2D, 0x4C, 0x49, 0x4E, 0x4B]
    (octets 2 (s.panId p) ++ octets 8 eui ++ octets 2 (s.fld (R.KEY_PAN_DRV p) F.KEY_PAN_DRV_VERSION)) 128)

/-- The storage key (R180): derived from the device key, label "ZX7160 STORE", context the vault secret. -/
def State.storageKey (s : State) : List Nat :=
  kdf (octets 32 Config.deviceKey.toNat) [0x5A, 0x58, 0x37, 0x31, 0x36, 0x30, 0x20, 0x53, 0x54, 0x4F, 0x52, 0x45] (octets 32 s.vault.secret) 256

/-- A KEK as MRAM keeps it: its RFC 5649 wrap under the storage key (the form of the wrap DESIGN CHOICE, log entry 100). -/
def State.kekWrap (s : State) (k : Nat) : List Byte := natsBytes (keyWrap s.storageKey (keyOctets true k))

/-- The KEK that MRAM holds for a partition. -/
def State.kekMram (s : State) (p : Nat) : Option Nat :=
  match aget [] p s.vault.keks with
  | [] => none
  | b => (keyUnwrap s.storageKey (bytesNats b)).map octNat

/-- A key from a store position for a PAN's owner or a partition. The cause of a blob that cannot be read is a free value (R371). -/
def State.fromStore (s : State) (part j kind : Nat) : Except Nat Material :=
  match s.blob j with
  | [] => .error 9
  | b =>
    if s.key.badBlobs.contains j then .error (Config.freeVal s.free)
    else
    match s.blobOpen part b with
    | .error c => .error c
    | .ok o => if o.kind ≠ kind then .error 4 else .ok ⟨o.key, o.long, o.keyId, part, o.floor, j + 1, 0⟩

/-- A link key comes by derivation: no blob at the ordinal, and `DRV_EN` (R183). -/
def State.linkDerives (s : State) (n : Nat) : Bool :=
  let x := s.nbr n
  (s.blob x.node).isEmpty && s.flag (R.KEY_PAN_DRV x.pan) F.KEY_PAN_DRV_DRV_EN

/-- Where the key of a role comes from (R183, R189). -/
def State.material (s : State) (r : KeyRole) : Except Nat Material :=
  match r with
  | .link n =>
    let x := s.nbr n
    let owner := s.panOwner x.pan
    if s.linkDerives n then
      let d := s.fld (R.KEY_PAN_DRV x.pan) F.KEY_PAN_DRV_DRV
      match s.keyGood (.derive d) attrDERIVE with
      | none => .error 9
      | some k => .ok ⟨s.linkKdf x.pan (s.node x.node).eui k.long k.key, false, k.keyId, owner, 0, 0, d + 1⟩
    else s.fromStore owner x.node 0
  | .kek p =>
    match s.kekMram p with
    | none => .error 9
    | some k => .ok ⟨k, true, 0, p, 0, 0, 0⟩
  | _ =>
    match s.keyEntry r with
    | none => .error 9
    | some x => if x.pos = 0 then .error 9 else s.fromStore x.part (x.pos - 1) (if r.frameKey then 0 else 1)

/-- A key enters its slots and, a frame key, is bound to its counter entry. -/
def State.keyPut (s : State) (r : KeyRole) (m : Material) : State :=
  let fp := keyFp m.long m.key
  let w (attr : Nat) : SlotWord := ⟨attr, m.key, slotCrc m.long m.key attr m.part fp⟩
  let x : KeySlot :=
    { role := r
      slot := (s.slotFree r).getD 0
      long := m.long
      fp := fp
      part := m.part
      keyId := m.keyId
      pos := m.pos
      derived := m.derived
      used := s.key.uses + 1
      loaded := true
      a := w r.attr
      b := if r.frameKey then w attrDEC else {} }
  let s1 := ({ s with key := { s.key with uses := s.key.uses + 1 } }).setSlots (s.key.slots.filter (fun (y : KeySlot) => y.role ≠ r) ++ [x])
  match ctrOf r with
  | none => s1
  | some e => s1.bind e fp m.keyId m.part m.floor

/-- A load ends: with a cause, or with the key in its slot; `none` while every unpinned pair is locked. -/
def State.keyLoad (s : State) (r : KeyRole) : Option (Except Nat State) :=
  match s.material r with
  | .error c => some (.error c)
  | .ok m => (s.keyRoom r).map (fun s1 => .ok (s1.keyPut r m))

/-- A partition's KEK is about to be used (R189): its slot is checked; one that was invalidated or erased reloads from MRAM, and a KEK that fails to
unwrap there is gone from its slot, which clears `KEK_VALID`. `KEY_CNT_MISS` counts loads from the key store, not those of a KEK from MRAM
(DESIGN CHOICE, log entry 122). -/
def State.kekReady (s : State) (p : Nat) : State :=
  let t := s.keyCheck (.kek p) attrWRAP
  if (t.keyEntry (.kek p)).isNone || t.keyHeld (.kek p) then t
  else
    match t.keyLoad (.kek p) with
    | some (.ok u) => u
    | some (.error _) => t.keyForget (.kek p)
    | none => t

/-- A DERIVE key is about to be used: checked, and reloaded from its blob where it was invalidated or erased. -/
def State.deriveReady (s : State) (d : Nat) : State :=
  let t := s.keyCheck (.derive d) attrDERIVE
  match t.keyEntry (.derive d) with
  | none => t
  | some x =>
    if x.loaded || x.pos = 0 then t
    else
      let u := t.kekReady (blobPart (t.blob (x.pos - 1)))
      match u.keyLoad (.derive d) with
      | some (.ok v) => v.bump R.KEY_CNT_MISS
      | _ => u

/-- The slots that a load of a role itself uses are checked and reloaded. -/
def State.keyReady (s : State) (r : KeyRole) : State :=
  match r with
  | .link n =>
    if s.linkDerives n then s.deriveReady (s.fld (R.KEY_PAN_DRV (s.nbr n).pan) F.KEY_PAN_DRV_DRV)
    else s.kekReady (blobPart (s.blob (s.nbr n).node))
  | .kek _ => s
  | _ =>
    match s.keyEntry r with
    | none => s
    | some x => s.kekReady (blobPart (s.blob (x.pos - 1)))

/-- A load of a role is under way in a unit, or queued. -/
def State.loadOf (s : State) (r : KeyRole) : Bool := s.key.units.any (fun u => u.2.role = r) || s.key.loads.any (fun l => l.role = r)

/-- A key is requested (R185, R186): a queued load of a later class moves to the class of the request; a full queue leaves the request at its source,
where a prefetch waits in a list of its own. -/
def State.keyRequest (s : State) (cls : Nat) (r : KeyRole) : State :=
  if s.keyHeld r then s
  else if s.loadOf r then
    { s with key := { s.key with loads := s.key.loads.map (fun (l : KeyLoad) => if l.role = r then { l with cls := min cls l.cls } else l) } }
  else if 512 ≤ s.key.loads.length then
    (if cls < 2 || s.key.later.contains r then s else { s with key := { s.key with later := s.key.later ++ [r] } })
  else ({ s with key := { s.key with loads := s.key.loads ++ [KeyLoad.mk cls r s.now] } }).bump R.KEY_CNT_MISS

/-- Prefetches that wait at their source ask again. -/
def State.laterAsk (s : State) : State :=
  if s.key.later.isEmpty || 512 ≤ s.key.loads.length then s
  else s.key.later.foldl (fun t r => t.keyRequest 2 r) { s with key := { s.key with later := [] } }

/-- The queued loads in service order: receive, transmit, prefetch, each in request order (R185). -/
def State.loadOrder (s : State) : List KeyLoad :=
  s.key.loads.filter (·.cls = 0) ++ s.key.loads.filter (·.cls = 1) ++ s.key.loads.filter (fun l => 1 < l.cls)

/-- A load leaves its unit or the queue. -/
def State.loadDrop (s : State) (l : KeyLoad) : State :=
  { s with key := { s.key with
      loads := s.key.loads.erase l
      units := s.key.units.filter (fun (u : Nat × KeyLoad) => u.2 ≠ l) } }

/-- `MISS_TIMEOUT` as it acts. -/
def State.missTimeout (s : State) : Nat := ms (max 1 (s.fld R.KEY_MISS_CFG F.KEY_MISS_CFG_MISS_TIMEOUT))

/-- The current group position of a PAN. -/
def State.groupCur (s : State) (p : Nat) : Nat := s.fld (R.KEY_PAN_CFG p) F.KEY_PAN_CFG_CUR

/-- The role of the key that a queued radio frame needs, in a secured PAN (R169). -/
def State.frameRole (s : State) (f : Frame) : Option KeyRole :=
  if !s.panSecured f.pan then none
  else
    match f.nbr with
    | some n => some (.link n)
    | none => some (.group f.pan (s.groupCur f.pan))

/-- A retry of a link-key frame whose counter lies below the highest assigned since is protected afresh (R39). -/
def State.reprotects (s : State) (f : Frame) : Bool :=
  match f.nbr, f.counter with
  | some i, some c => (s.nbr i).hiKey = f.keyFp && c + 1 < (s.nbr i).highest
  | _, _ => false

/-- Every queued frame that needs the key of a role completes with a status: one that has not been sent, or whose retry is protected afresh; another
retry keeps its ciphertext and needs no key (R187). -/
def State.keyFramesEnd (s : State) (r : KeyRole) (status cause : Nat) : State :=
  let hit := s.qmg.queues.flatMap (fun e =>
    if isRadioQ e.1 then (e.2.frames.filter (fun f =>
      s.frameRole f = some r && !f.onAir && (f.attempts = 0 || s.reprotects f))).map (fun f => (e.1, f)) else [])
  hit.foldl (fun s e => if (s.queue e.1).frames.any (fun f => f.id = e.2.id) then s.finish e.1 e.2 status cause 0 else s) s

/-! ### Slot checks (R188, R189) -/

/-- Bits of the key in a slot flip. -/
def State.slotFlip (s : State) (e : Fin 8192 × Nat) : State :=
  let hit (x : KeySlot) (w : SlotWord) : SlotWord := { w with key := w.key ^^^ e.2 % 2 ^ (if x.long then 256 else 128) }
  { s with key := { s.key with slots := s.key.slots.map (fun (x : KeySlot) =>
      if !x.loaded then x
      else if x.slot = e.1.val then { x with a := hit x x.a }
      else if x.role.frameKey && x.slot + 1 = e.1.val then { x with b := hit x x.b }
      else x) } }

/-- The scrub of one key: its slots are checked in their order, and the first that fails invalidates it. -/
def State.slotScrub (s : State) (x : KeySlot) : State :=
  if !x.loaded then s
  else
    match x.attrs.find? (fun a => !x.good a) with
    | some a => s.slotFail x (x.number a)
    | none => s

/-- KEY_SCRUB: every 250 ms every loaded slot is checked. The operands name bits of slots that have flipped before the scrub reads them, and after;
these a later use or scrub meets. -/
def State.keyScrub (s : State) (before after : List (Fin 8192 × Nat)) : State :=
  let s1 := before.foldl State.slotFlip s
  let s2 := s1.key.slots.foldl State.slotScrub s1
  after.foldl State.slotFlip s2

def execKeyScrub (before after : List (Fin 8192 × Nat)) (s : State) : Host.Outcome State Fault Refusal := .next (s.keyScrub before after)

/-- The loaded key that has a slot number. -/
def State.slotKey (s : State) (n : Nat) : Option KeySlot := s.key.slots.find? (fun x => x.loaded && (x.attrs.map x.number).contains n)

/-- KEY_SLOT_ERASE (R201). -/
def State.slotErase (s : State) (p : Nat) (data : Word) : State :=
  s.guarded p R.KEY_SLOT_ERASE data (fun s =>
    if p ≠ 0 then s.err R.KEY_ERR F.KEY_ERR_PART_WRITE
    else
      let s1 := s.wr R.KEY_SLOT_ERASE (data &&& 0x7FFF)
      if !bitAt data 14 then s1
      else
        let n := bitsAt data 0 13
        let hit := s.key.slots.filter (fun x => x.loaded && (bitAt data 13 || (x.attrs.map x.number).contains n))
        hit.foldl (fun s x => s.keyErase x.role) s1)

def execKeySlotErase (p : Part) (data : Word) (s : State) : Host.Outcome State Fault Refusal := .next (s.slotErase p.val data)

/-! ### Tamper (R197 to R199) -/

/-- An event whose parameters the spec does not give: free values (log entry 6). -/
def State.evtFree (s : State) (src mask : Nat) : State :=
  let (a, s1) := s.free!
  let (b, s2) := s1.free!
  let (c, s3) := s2.free!
  s3.evtF src mask (w32 a) (w32 b) (w32 c)

/-- `TAMPERED` reads 1 while any `LATCH` bit is set. -/
def State.tamperSync (s : State) : State :=
  s.setFld R.KEY_STATUS F.KEY_STATUS_TAMPERED (if s.fld R.KEY_TAMPER_STAT F.KEY_TAMPER_STAT_LATCH = 0 then 0 else 1)

/-- Every key is erased and the partition KEKs leave MRAM (R198). Join, group and DERIVE keys keep their entries, and load again from their store
positions once their KEK is back (DESIGN CHOICE, log entry 124). -/
def State.keyWipe (s : State) : State :=
  ({ s with vault := { s.vault with keks := [] } } : State).setSlots (s.key.slots.filterMap (fun x =>
    match x.role with
    | .kek _ | .link _ => none
    | _ => some x.erased))

/-- The chip's report of a tamper input. -/
def State.tamperReport (s : State) : State :=
  (s.ledger 0x0042 0 (w32 (s.fld R.KEY_TAMPER_STAT F.KEY_TAMPER_STAT_LATCH)) (w32 (s.fld R.KEY_STATUS F.KEY_STATUS_VAULT_CAUSE)) 0).evtFree 12 0xF

/-- A tamper input qualifies (R197): it is enabled and has been at its active level for `FILTER` K5 samples. -/
def tamperQualifies (cfg : Word) (i : Nat) (high : Bool) (samples : Nat) : Bool :=
  bitAt cfg (8 * i) && high == bitAt cfg (8 * i + 1) && bitsAt cfg (8 * i + 4) 4 ≤ samples

/-- TAMPER_INPUT: an input is at a level and has been for a number of K5 samples. While the F-die is held the next boot reports. -/
def execTamperInput (i : Fin 4) (high : Bool) (samples : Nat) (s : State) : Host.Outcome State Fault Refusal :=
  .next (
    let cfg := s.rd R.KEY_TAMPER_CFG
    if !tamperQualifies cfg i.val high samples then s
    else
      let s1 := (s.setFld R.KEY_TAMPER_STAT F.KEY_TAMPER_STAT_LATCH
        (setNbit (s.fld R.KEY_TAMPER_STAT F.KEY_TAMPER_STAT_LATCH) i.val)).tamperSync
      let erase := !bitAt cfg (8 * i.val + 2)
      let s2 := if erase then
          (s1.setFld R.KEY_TAMPER_STAT F.KEY_TAMPER_STAT_ZEROIZED 1) |> fun t => { t with vault := { t.vault with secret := 0 } }
        else s1
      if s.pwr.fHeld then { s2 with vault := { s2.vault with tamperAtBoot := 1 } }
      else (if erase then s2.keyWipe else s2).tamperReport)

/-- The vault's random source makes a new secret: a free value. -/
def State.newSecret (s : State) : State :=
  let (x, t) := s.draw (2 ^ 256)
  { t with vault := { t.vault with
    secret := x
    made := true } }

/-- TAMPER_LATCH_CLEAR (R199): a guarded write of 1 bits; clearing the latch generates a new vault secret. A write that
leaves a bit latched generates none: the one that clears the last does, where the vault was zeroized (DESIGN CHOICE, log entry 123). -/
def State.tamperClear (s : State) (p : Nat) (data : Word) : State :=
  s.guarded p R.KEY_TAMPER_STAT data (fun s =>
    if p ≠ 0 then s.err R.KEY_ERR F.KEY_ERR_PART_WRITE
    else
      let l := s.fld R.KEY_TAMPER_STAT F.KEY_TAMPER_STAT_LATCH
      let l' := clearBits l (data.toNat % 16)
      let s1 := (s.setFld R.KEY_TAMPER_STAT F.KEY_TAMPER_STAT_LATCH l').tamperSync
      if l ≠ 0 && l' = 0 && s.flag R.KEY_TAMPER_STAT F.KEY_TAMPER_STAT_ZEROIZED then
        ((s1.setFld R.KEY_TAMPER_STAT F.KEY_TAMPER_STAT_ZEROIZED 0).setFld R.KEY_STATUS F.KEY_STATUS_VAULT_CAUSE 2).newSecret
      else s1)

def execTamperLatchClear (p : Part) (data : Word) (s : State) : Host.Outcome State Fault Refusal := .next (s.tamperClear p.val data)

/-! ### Registers of the `KEY` block (R201) -/

/-- The derived link keys of a PAN leave the cache (R187). -/
def State.derivedForget (s : State) (p : Nat) : State :=
  s.setSlots (s.key.slots.filter (fun x =>
    match x.role with
    | .link n => !(x.derived ≠ 0 && (s.nbr n).pan = p)
    | _ => true))

/-- A write of `KEY_PANp_CFG` or `KEY_PANp_DRV`: a change of the DERIVE key, `DRV_EN` or `VERSION` replaces the derived keys of the PAN (R183,
R187). -/
def State.keyPanWrite (s : State) (part p : Nat) (drv : Bool) (data : Word) : State :=
  if !s.panMay part p then s.err R.KEY_ERR F.KEY_ERR_PART_WRITE
  else if drv then
    let d := bitsAt data 0 6
    if (s.keyEntry (.derive d)).any (fun x => x.part ≠ s.panOwner p) then s.err R.KEY_ERR F.KEY_ERR_PAN_CFG_INVALID
    else
      let v := data &&& 0xFFFF007F
      let old := s.rd (R.KEY_PAN_DRV p)
      let s1 := s.wr (R.KEY_PAN_DRV p) v
      if v = old then s1 else s1.derivedForget p
  else if bitsAt data 0 3 = 0 then s.err R.KEY_ERR F.KEY_ERR_PAN_CFG_INVALID
  else s.setFld (R.KEY_PAN_CFG p) F.KEY_PAN_CFG_TX_LEVEL (bitsAt data 0 3)

/-- What `KEY_CTR_INFO` shows of an entry. -/
def State.ctrInfo (s : State) (e : Nat) : Word :=
  let x := s.ctr e
  w32 ((if x.bound then 1 else 0) + (if x.bound && 0xFF000000 ≤ x.n then 2 else 0) + (if x.bound && x.n = 0xFFFFFFFF then 4 else 0) +
    (if x.bound && s.key.slots.any (fun y => ctrOf y.role = some e && y.loaded) then 8 else 0))

end Sys2Proof.Machine
end

