-- ==== Sys2Proof/Machine/Node.lean ====
section
/-! DEFINITION. Node records, the two directory indexes, the short address pool and neighbour entries: how they are made and how they
are removed (R138, R139, R142, R202 to R216, R257). -/

namespace Sys2Proof.Machine

/-! ### Index positions (R206, R207, R214) -/

/-- CRC-32C from a given register value (R207). -/
def crcFrom (seed : Word) (bs : List Byte) : Word := ~~~ (bs.foldl (crcByte 0x82F63B78#32) seed)

/-- The hashed octets of a key: PAN slot, then EUI-64 or short address, highest octet first. `b` is true for index B. -/
def idxOctets (b : Bool) (key : Nat) : List Byte :=
  if b then beBytes 1 (key / 2 ^ 16) ++ beBytes 2 key else beBytes 1 (key / 2 ^ 64) ++ beBytes 8 key

def idxKeyA (pan eui : Nat) : Nat := pan * 2 ^ 64 + eui % 2 ^ 64
def idxKeyB (pan short : Nat) : Nat := pan * 2 ^ 16 + short % 2 ^ 16

/-- PAN slot of a key. -/
def idxPan (b : Bool) (key : Nat) : Nat := if b then key / 2 ^ 16 else key / 2 ^ 64

/-- The two candidate buckets of a key. -/
def Index.buckets (x : Index) (b : Bool) (key : Nat) : Nat × Nat :=
  let b1 := (crcFrom x.seed1 (idxOctets b key)).toNat % 131072
  let b2 := (crcFrom x.seed2 (idxOctets b key)).toNat % 131072
  (b1, if b2 = b1 then b1 ^^^ 1 else b2)

/-- The first position of the overflow store, and the end of positions. -/
def ovfBase : Nat := 524288
def idxEnd : Nat := 528384

def Index.at (x : Index) (pos : Nat) : Option IdxEntry := (x.ents.find? (fun e => e.1 = pos)).map (·.2)

def Index.put (x : Index) (pos : Nat) (e : IdxEntry) : Index := { x with ents := aput pos e (adel pos x.ents) }

/-- Position and entry of a key (R209). -/
def Index.find (x : Index) (key : Nat) : Option (Nat × IdxEntry) := x.ents.find? (fun e => e.2.key = key)

/-- Entries in the overflow store. -/
def Index.ovf (x : Index) : Nat := (x.ents.filter (fun e => ovfBase ≤ e.1)).length

def State.idx (s : State) (b : Bool) : Index := if b then s.dir.b else s.dir.a

def State.setIdx (s : State) (b : Bool) (x : Index) : State :=
  { s with dir := if b then { s.dir with b := x } else { s.dir with a := x } }

/-- `NDIR_USE`, `NDIR_USE_B` and `NDIR_OVF_USE` show the directory. -/
def State.dirSync (s : State) : State :=
  let s1 := s.setFld R.NDIR_USE F.NDIR_USE_NODES (s.ndir.filter (fun e => e.2.valid)).length
  let s2 := s1.setFld R.NDIR_USE_B F.NDIR_USE_B_ENTRIES s.dir.b.ents.length
  (s2.setFld R.NDIR_OVF_USE F.NDIR_OVF_USE_A s.dir.a.ovf).setFld R.NDIR_OVF_USE F.NDIR_OVF_USE_B s.dir.b.ovf

/-- The part of an index that a position belongs to: its bucket, or from 131,072 on its own entry of the overflow store. -/
def idxUnit (pos : Nat) : Nat := if pos < ovfBase then pos / 4 else 131072 + (pos - ovfBase)

/-- A bucket or an overflow entry that an uncorrectable error has emptied and that is not yet rebuilt takes no entry (R371; DESIGN CHOICE, log
entry 30). -/
def State.bucketLost (s : State) (b : Bool) (unit : Nat) : Bool :=
  s.dir.lost.any (fun l => l.1 = (if b then 1 else 0) && l.2.1 = unit)

/-- Free ways of a bucket, as positions. -/
def State.freeWays (s : State) (b : Bool) (bucket : Nat) : List Nat :=
  if s.bucketLost b bucket then []
  else ((List.range 4).map (4 * bucket + ·)).filter (fun p => ((s.idx b).at p).isNone)

/-! ### Open iterations (R214, R215) -/

/-- `SWEEP_S` as it acts (R220). -/
def State.sweepS (s : State) : Nat := min 86400 (s.fld R.NDIR_AGE F.NDIR_AGE_SWEEP_S)

/-- Positions that the open iterations of an index have passed up to: NEXT, the sweeper while it runs, and running flushes. -/
def State.cursors (s : State) (b : Bool) : List Nat :=
  let n := (s.dir.iters.filter (fun i => i.idx = (if b then 1 else 0))).map Iter.cursor
  if b then n
  else n ++ (if s.sweepS = 0 then [] else [s.dir.sweepPos]) ++ (s.dir.flushes.filter (·.running)).map FlushJob.pos

/-- A move does not go from a position that an open iteration has yet to pass to one that it has passed. -/
def State.moveOk (s : State) (b : Bool) (src dst : Nat) : Bool := (s.cursors b).all (fun c => !(c ≤ src && dst < c))

/-! ### Moves, insertion and re-homing (R210 to R213) -/

/-- The move sequence of a bucket steps. -/
def Index.seqStep (x : Index) (bucket now : Nat) : Index :=
  { x with seqs := aset (0, 0) bucket (((aget (0, 0) bucket x.seqs).1 + 1) % 256, now + 1) x.seqs }

/-- An entry moves to a position (R211): the copy, the move sequence of the source bucket, or of the destination's when the source is the overflow
store, the source cleared. `MOVING`, set with the copy and cleared last, at most 40 ns later, is `State.moveOpen`. -/
def State.idxMove (s : State) (b : Bool) (src dst : Nat) (e : IdxEntry) : State :=
  let n := s.dir.moves + 1
  let x1 := (s.idx b).put dst { e with movedAt := n }
  let x2 := x1.seqStep ((if ovfBase ≤ src then dst else src) / 4) s.now
  let s1 := { s with dir := { s.dir with moves := n } }
  (s1.setIdx b { x2 with ents := adel src x2.ents }).bump R.NDIR_CNT_RELOC

/-- One of a key's buckets saw a move in the last 40 ns, the longest that a move takes (R211). -/
def State.moveNear (s : State) (b : Bool) (key : Nat) : Bool :=
  let x := s.idx b
  let (b1, b2) := x.buckets b key
  [b1, b2].any (fun c => s.now < (aget (0, 0) c x.seqs).2 + 10)

/-- The last move may still be under way and is this entry's: it may stand in two places, or be on its way between them (R211). -/
def State.moveOpen (s : State) (b : Bool) (e : IdxEntry) : Bool := e.movedAt == s.dir.moves && e.movedAt != 0 && s.moveNear b e.key

/-- A lookup of the pipelines (R208, R209): the ordinal of a key, and the state with the lookup's repeats counted. A read that misses beside a
move under way, for want of the key or because the move is the key's own, may have seen the sequence change: how the two meet is a free value,
of 0 to 2 repeats, or two and the wait for the move lock (DESIGN CHOICE, log entry 102). -/
def State.idxLook (s : State) (b : Bool) (key : Nat) : Option Nat × State :=
  let e := ((s.idx b).find key).map (·.2)
  if (match e with
      | some e => s.moveOpen b e
      | none => s.moveNear b key) then
    let (r, s1) := s.draw 4
    let s2 := s1.bumpBy R.NDIR_CNT_RETRY (min r 2)
    (e.map IdxEntry.ord, if r = 3 then s2.bump R.NDIR_CNT_LOCKWAIT else s2)
  else (e.map IdxEntry.ord, s)

/-- The first resident of the two candidate buckets whose other bucket has a free way and whose move is permitted: its position, entry and
new position. -/
def State.resident (s : State) (b : Bool) : List Nat → Option (Nat × IdxEntry × Nat)
  | [] => none
  | p :: ps =>
    match (s.idx b).at p with
    | none => State.resident s b ps
    | some e =>
      let (c1, c2) := (s.idx b).buckets b e.key
      match s.freeWays b (if p / 4 = c1 then c2 else c1) with
      | [] => State.resident s b ps
      | f :: _ => if s.moveOk b p f then some (p, e, f) else State.resident s b ps

/-- The lowest free position of the overflow store. -/
def State.freeOvf (s : State) (b : Bool) : Nat → Nat → Option Nat
  | 0, _ => none
  | n + 1, p => if ((s.idx b).at p).isNone && !s.bucketLost b (idxUnit p) then some p else State.freeOvf s b n (p + 1)

/-- The event INSERT_FULL (R213). -/
def State.evtInsertFull (s : State) (b : Bool) (detail key : Nat) : State :=
  let pan := idxPan b key
  s.evtF 16 (2 ^ s.panOwner pan) (w32 ((if b then 1 else 0) + detail * 2 ^ 8)) (w32 pan)
    (w32 (if b then key % 2 ^ 16 else key % 2 ^ 32))

/-- `OVF_WARN` as it acts; 0 is no warning. -/
def State.ovfWarn (s : State) : Nat := min 4096 (s.fld R.NDIR_OVF_WARN F.NDIR_OVF_WARN_OVF_WARN)

/-- An entry is placed (R210): the new state and whether a resident was moved; `none` when the insertion fails. Of several free ways the
lowest is taken (DESIGN CHOICE, log entry 30). -/
def State.idxInsert (s : State) (b : Bool) (key ord : Nat) : Option (State × Bool) :=
  let x := s.idx b
  let (b1, b2) := x.buckets b key
  let f1 := s.freeWays b b1
  let f2 := s.freeWays b b2
  let e : IdxEntry := { key := key, ord := ord }
  match (if f1.length < f2.length then f2 else f1) with
  | p :: _ => some (s.setIdx b (x.put p e), false)
  | [] =>
    match s.resident b ((List.range 4).map (4 * b1 + ·) ++ (List.range 4).map (4 * b2 + ·)) with
    | some (p, r, f) =>
      let s1 := s.idxMove b p f r
      some (s1.setIdx b ((s1.idx b).put p e), true)
    | none =>
      match s.freeOvf b 4096 ovfBase with
      | none => none
      | some p =>
        let s1 := { s with dir := { s.dir with ages := s.dir.ages + 1 } }
        let s2 := s1.setIdx b (x.put p { e with age := s.dir.ages + 1 })
        some (if x.ovf + 1 = s.ovfWarn then s2.evtInsertFull b 3 key else s2, false)

/-- The overflow entry that has waited longest for a bucket (R212). -/
def State.waiting (s : State) (b : Bool) (bucket : Nat) : Option (Nat × IdxEntry) :=
  ((s.idx b).ents.filter (fun e => ovfBase ≤ e.1 &&
      (let (c1, c2) := (s.idx b).buckets b e.2.key
       c1 == bucket || c2 == bucket))).foldl (fun (m : Option (Nat × IdxEntry)) e =>
    match m with
    | none => some e
    | some y => if e.2.age < y.2.age then some e else m) none

/-- A key leaves its index, and a freed way is given to the overflow entry that has waited longest for it (R212, R215). -/
def State.idxRemove (s : State) (b : Bool) (key : Nat) : State :=
  match (s.idx b).find key with
  | none => s
  | some (p, _) =>
    let s1 := s.setIdx b { s.idx b with ents := adel p (s.idx b).ents }
    if ovfBase ≤ p then s1
    else
      match s1.waiting b (p / 4) with
      | none => s1
      | some (q, e) => if s1.moveOk b q p then (s1.idxMove b q p e).bump R.NDIR_CNT_REHOME else s1

/-- Marks of an index A entry. -/
def State.idxMark (s : State) (pos : Nat) (hit aged : Bool) : State :=
  match s.dir.a.at pos with
  | none => s
  | some e => s.setIdx false (s.dir.a.put pos { e with hit := hit, aged := aged })

/-- `HIT` of a record's index A entry. -/
def State.nodeHit (s : State) (o : Nat) : State :=
  let r := s.node o
  match s.dir.a.find (idxKeyA r.pan r.eui) with
  | none => s
  | some (p, e) => s.idxMark p true e.aged

/-! ### Short addresses (R137 to R139) -/

def shortKey (p a : Nat) : Nat := p * 2 ^ 16 + a % 2 ^ 16

def State.shortAssigned (s : State) (p a : Nat) : Bool := aget 0 (shortKey p a) s.link.assigned = 1
def State.shortQuarantined (s : State) (p a : Nat) : Bool := aget 0 (shortKey p a) s.link.quar ≠ 0

/-- An address of the pool that is neither assigned nor quarantined (R138). -/
def State.shortFree (s : State) (p a : Nat) : Bool :=
  1 ≤ a && a ≤ 0xFFEF && !s.shortAssigned p a && !s.shortQuarantined p a

/-- The key of an address is in index B already, or among the entries of a lost bucket: that of a record that a deleted PAN has left (R206). -/
def State.shortPresent (s : State) (p a : Nat) : Bool :=
  (s.dir.b.find (idxKeyB p a)).isSome || s.dir.lost.any (fun l => l.1 = 1 && l.2.2.any (fun e => e.2.key = idxKeyB p a))

/-- The lowest free address of a PAN, searched over `n` addresses from one on; one whose key is present is passed over (DEDUCED, log entry 103). -/
def State.shortLowest (s : State) (p : Nat) : Nat → Nat → Option Nat
  | 0, _ => none
  | n + 1, a => if s.shortFree p a && !s.shortPresent p a then some a else State.shortLowest s p n (a + 1)

/-- `PAN_pADDR` and `PAN_pQUAR` show the counts. -/
def State.addrSync (s : State) (p : Nat) : State :=
  (s.setFld (R.PAN_ADDR p) F.PAN_ADDR_ASSIGNED (s.link.assigned.filter (fun e => e.1 / 2 ^ 16 = p)).length).setFld (R.PAN_QUAR p)
    F.PAN_QUAR_QUARANTINED (s.link.quar.filter (fun e => e.1 / 2 ^ 16 = p)).length

def State.shortAssign (s : State) (p a : Nat) : State :=
  ({ s with link := { s.link with assigned := aset 0 (shortKey p a) 1 s.link.assigned } }).addrSync p

/-- An address goes into quarantine for a time (R139, R163). -/
def State.shortQuar (s : State) (p a secs : Nat) : State :=
  ({ s with link := { s.link with
      assigned := aset 0 (shortKey p a) 0 s.link.assigned
      quar := aset 0 (shortKey p a) (s.citySec + secs + 1) s.link.quar } }).addrSync p

/-! ### Neighbour entries (R140, R142) -/

/-- A removed neighbour leaves the time-source list (R146). -/
def State.tsrcClear (s : State) (n : Nat) : State :=
  let one (s : State) (k : Nat) (f v : Fld) : State := if s.flag k v && s.fld k f = n then s.setFld k v 0 else s
  let s1 := one s R.LINK_TSRC01 F.LINK_TSRC01_NBR0 F.LINK_TSRC01_V0
  let s2 := one s1 R.LINK_TSRC01 F.LINK_TSRC01_NBR1 F.LINK_TSRC01_V1
  let s3 := one s2 R.LINK_TSRC23 F.LINK_TSRC01_NBR0 F.LINK_TSRC01_V0
  one s3 R.LINK_TSRC23 F.LINK_TSRC01_NBR1 F.LINK_TSRC01_V1

/-- N of a counter entry as a completion reports it; 0 if it is not bound (R196). -/
def State.finalN (s : State) (e : Nat) : Nat := if (s.ctr e).bound then (s.ctr e).n else 0

/-- A neighbour entry is removed (R142, R190): its frames complete FLUSHED, its replay records go, its link key is unbound and leaves the
cache. -/
def State.nbrRemove (s : State) (n : Nat) : State :=
  let x := s.nbr n
  let s1 := [0, 1, 2, 3].foldl (fun s c => s.flushQueue (qNbr n c)) s
  let s2 := (s1.unbind n).keyForget (.link n)
  let s3 := { s2 with key := { s2.key with
      loads := s2.key.loads.filter (fun (l : KeyLoad) => l.role ≠ KeyRole.link n)
      waits := s2.key.waits.filter (fun (w : RxWait) => w.role ≠ KeyRole.link n) } }
  let s4 := s3.setNode x.node { s3.node x.node with hasNbr := false, nbr := 0 }
  ((s4.tsrcClear n).setNbr n {}).nbrSync

/-- The lowest free neighbour index. -/
def State.nbrLowest (s : State) : Nat → Nat → Option Nat
  | 0, _ => none
  | n + 1, i => if (s.nbr i).valid then State.nbrLowest s n (i + 1) else some i

/-- Words 1 to 3 of an entry that R141 would refuse. -/
def nbrWordsBad (s : State) (w1 w2 : Word) : Bool :=
  let fam := s.family (bitsAt w1 16 6)
  !modeOk fam (bitsAt w2 0 8) || (fam = 0 && (bitsAt w2 16 12 < 4 || 1000 < bitsAt w2 16 12))

/-- Stores the RW fields of words 1 to 3. -/
def Nbr.setWord (x : Nbr) (i : Nat) (w : Word) : Nbr :=
  match i with
  | 0 => { x with sleepy := bitAt w 26 }
  | 1 => { x with profile := bitsAt w 16 6, power := bitsAt w 22 8 }
  | 2 => { x with txMode := bitsAt w 0 8, txMcs := bitsAt w 8 3, txFec := bitAt w 11, preamble := bitsAt w 16 12 }
  | 3 => { x with livePeriod := bitsAt w 0 16, drift := bitsAt w 16 8 }
  | _ => x

/-- A word of an entry (R140). -/
def Nbr.word (x : Nbr) (i : Nat) : Word :=
  match i with
  | 0 => w32 ((if x.valid then 1 else 0) + x.pan * 2 + x.node * 2 ^ 4 + x.state * 2 ^ 23 + (if x.sleepy then 2 ^ 26 else 0)
      + x.misses * 2 ^ 28)
  | 1 => w32 (x.short + x.profile * 2 ^ 16 + x.power * 2 ^ 22)
  | 2 => w32 (x.txMode + x.txMcs * 2 ^ 8 + (if x.txFec then 2 ^ 11 else 0) + x.preamble * 2 ^ 16)
  | 3 => w32 (x.livePeriod + x.drift * 2 ^ 16)
  | 4 => w32 x.syncS
  | 5 => w32 x.syncNs
  | 6 => w32 (x.dupReacked + x.replay * 2 ^ 16)
  | 7 => w32 (x.be + x.bw * 2 ^ 4 + x.dsn * 2 ^ 20)
  | _ => 0

/-- A neighbour entry is added for a node in LIVE (R140, R143, R157). -/
def State.nbrAdd (s : State) (n pan node : Nat) (w1 w2 w3 : Word) : State :=
  let r := s.node node
  let sh := if r.hasShort then r.short else 0xFFFE
  let x : Nbr := { valid := true, pan := pan, node := node, state := 1, short := sh, be := s.minBe pan, missFrom := s.now }
  let y := ((x.setWord 1 w1).setWord 2 w2).setWord 3 w3
  ((s.setNbr n y).setNode node { r with hasNbr := true, nbr := n, reach := true }).nbrSync

/-! ### Node records (R202 to R205, R241, R257) -/

/-- The lowest ordinal not in use (R204). -/
def State.ordLowest (s : State) : Nat → Nat → Option Nat
  | 0, _ => none
  | n + 1, o => if (s.node o).valid then State.ordLowest s n (o + 1) else some o

/-- A record enters the directory: index A, then index B (R213). A failed insertion is counted, and the state it leaves has only the
moved residents changed. -/
def State.nodeCreate (s : State) (o : Nat) (r : NodeRec) : Except (Nat × State) (State × Bool) :=
  let s0 := s.setNode o r
  match s0.idxInsert false (idxKeyA r.pan r.eui) o with
  | none => .error (0, s.bump R.NDIR_CNT_FULL)
  | some (s1, m1) =>
    if r.hasShort then
      match s1.idxInsert true (idxKeyB r.pan r.short) o with
      | none => .error (1, (((s1.idxRemove false (idxKeyA r.pan r.eui)).setNode o (s.node o)).bump R.NDIR_CNT_FULL).dirSync)
      | some (s2, m2) => .ok ((s2.shortAssign r.pan r.short).dirSync, m1 || m2)
    else .ok (s1.dirSync, m1)

/-- A group with every entry that holds an ordinal void. -/
def Group.voidOrd (g : Group) (o : Nat) : Group :=
  { g with entries := g.entries.map (fun (e : Word) => if !entVoid e && entOrd e = o then e ||| 0x80000000#32 else e) }

/-- Every entry of every group that holds an ordinal is voided, and its pending bits are cleared (R257). -/
def State.ordVoid (s : State) (o : Nat) : State :=
  { s with cvn := { s.cvn with
      groups := s.cvn.groups.map (fun (g : Nat × Group) => (g.1, g.2.voidOrd o))
      open_ := s.cvn.open_.map (fun (c : Caravan) => { c with pending := c.pending.filter (· ≠ o) }) } }

/-- A record is deleted (R203, R204, R257): index entries first, then the neighbour entry, the short address, the blob, the group
memberships, and the ordinal; a Caravan or session that this leaves with nobody to wait for ends. -/
def State.nodeDelete (s : State) (o : Nat) : State :=
  let r := s.node o
  let s1 := (s.idxRemove false (idxKeyA r.pan r.eui))
  let s2 := if r.hasShort then s1.idxRemove true (idxKeyB r.pan r.short) else s1
  let s3 := if r.hasNbr then s2.nbrRemove r.nbr else s2
  let s4 := if r.hasShort then s3.shortQuar r.pan r.short 86400 else s3
  let s5 := { s4 with key := { s4.key with store := aset [] o [] s4.key.store } }
  ((s5.ordVoid o).setNode o {}).dirSync.cvnSettle

/-- A record's 64 words (R202). -/
def NodeRec.words (r : NodeRec) : List Word :=
  let b (x : Bool) (k : Nat) : Nat := if x then 2 ^ k else 0
  [w32 (b r.valid 0 + r.kind * 2 + r.pan * 2 ^ 3 + b r.hasShort 6 + b r.hasNbr 7 + r.nbr * 2 ^ 8),
   w32 r.eui, w32 (r.eui / 2 ^ 32), w32 (if r.hasShort then r.short else 0xFFFE),
   w32 (r.port + b r.bound 6 + r.q * 2 ^ 8 + r.moves * 2 ^ 16),
   w32 r.heardS, w32 r.heardNs, w32 r.movedS, w32 r.movedNs, w32 r.createdS,
   w32 (r.parent + b r.parentV 19), w32 (r.altParent + b r.altV 19), w32 r.pathExpireS,
   w32 (r.pathSeq + b r.reach 8 + r.depth * 2 ^ 9),
   w32 r.rxFrames, w32 r.txFrames, w32 (r.lastRssi + r.lastQ * 2 ^ 16)]
    ++ List.replicate 31 0 ++ (List.range 16).map (fun i => wordAt r.hostWords i)

/-! ### Aging (R220, R221) -/

/-- Aging acts on the record of an index A entry: deletes a LEARNED one, unbinds a PINNED one. The Bools say which was done. -/
def State.ageNode (s : State) (o : Nat) (sweep : Bool) : State × Bool × Bool :=
  let r := s.node o
  if r.kind = 0 then (((s.nodeDelete o).bump R.NDIR_CNT_AGED).trail 0x0101 r.pan (w32 o) 0 0, true, false)
  else if r.kind = 1 then
    let s1 := s.setNode o { r with bound := false }
    (if sweep then s1.bump R.NDIR_CNT_UNBOUND else s1, false, true)
  else (s, false, false)

end Sys2Proof.Machine
end

