-- ==== Sys2Proof/Machine/Dir.lean ====
section
/-! DEFINITION. The directory commands, flushes, the sweeper and learning (R214 to R226, R482). -/

namespace Sys2Proof.Machine

/-! ### Descriptors (R224, R225) -/

/-- `TABLE` of a table command. -/
def cmdTable (c : CmdDesc) : Nat := bitsAt c.w1 30 2

/-- A directory command: in its turn, `TABLE` 0 runs it, a reserved `TABLE` completes with cause 2. -/
def State.dirRun (s : State) (c : CmdDesc) (f : State → State) : State :=
  if (cmdTable c) = 1 || !s.cmdTurn c then s else if (cmdTable c) = 0 then f (s.cmdTake c) else (s.cmdTake c).cmdBad c 2

/-- A 64-bit buffer address that is not 8-byte aligned. -/
def unaligned (lo hi : Word) : Bool := addr64 lo hi % 8 != 0

def cmdPan (c : CmdDesc) : Nat := bitsAt c.w1 2 3

/-- EUI-64 of the key words. -/
def cmdEui (c : CmdDesc) : Nat := c.w2.toNat + c.w3.toNat * 2 ^ 32

/-- The record that a key block names: a cause, or its ordinal, `none` when there is no such record (R224, R225). -/
def State.keyFind (s : State) (c : CmdDesc) : Except Nat (Option Nat) :=
  let p := c.part.val
  match bitsAt c.w1 0 2 with
  | 0 => if s.panMay p (cmdPan c) then .ok ((s.dir.a.find (idxKeyA (cmdPan c) (cmdEui c))).map (fun e => e.2.ord)) else .error 1
  | 1 => if s.panMay p (cmdPan c) then .ok ((s.dir.b.find (idxKeyB (cmdPan c) (c.w2.toNat))).map (fun e => e.2.ord)) else .error 1
  | 2 =>
    let o := bitsAt c.w2 0 19
    if !(s.node o).valid then .ok none else if s.panMay p (s.node o).pan then .ok (some o) else .error 1
  | _ => .error 2

/-- Words 0x04 to 0x0C of a completion about a record (R225). -/
def State.dirWords (s : State) (o : Nat) (moved : Bool) : List Word :=
  let r := s.node o
  let a := s.dir.a.find (idxKeyA r.pan r.eui)
  let b := if r.hasShort then s.dir.b.find (idxKeyB r.pan r.short) else none
  let bit (x : Bool) (k : Nat) : Nat := if x then 2 ^ k else 0
  [w32 (o + 2 ^ 19 + r.kind * 2 ^ 20 + bit (a.any (fun e => e.2.hit)) 22 + bit (a.any (fun e => e.2.aged)) 23 + bit moved 24),
   w32 ((a.map (·.1)).getD 0), w32 ((b.map (·.1)).getD 0xFFFFF)]

/-- Words 0x04 to 0x0C where no record is named. -/
def noRecord (found : Bool) : List Word := [if found then 0x80000 else 0, 0, 0xFFFFF]

/-- A record whose DRAM holds an uncorrectable error (R371). -/
def State.nodeBad (s : State) (o : Nat) : Bool := s.dir.bad.contains o

/-! ### SEARCH, INSERT, DELETE, UPDATE (R203, R210, R226) -/

def execSearch (c : CmdDesc) (s : State) : Host.Outcome State Fault Refusal :=
  .next (s.dirRun c (fun s =>
    match s.keyFind c with
    | .error e => s.cmdBad c e
    | .ok f =>
      if unaligned c.w4 c.w5 then s.cmdBad c 8
      else
        match f with
        | none => s.cmdOk c (noRecord false)
        | some o =>
          if s.nodeBad o then s.cmdBad c 20
          else
            let s1 := if addr64 c.w4 c.w5 = 0 then s else s.memWrite c.part.val (addr64 c.w4 c.w5) (wordsBytes (s.node o).words)
            s1.cmdOk c (s1.dirWords o false)))

/-- A port that a partition may name in a binding or a flush (R482). -/
def bindPortOk (p port : Nat) : Bool :=
  if p = 0 then !(60 ≤ port && port ≤ 62) else port < 48 || port == 52 + p || port == 63

/-- The 16 `HOST` words of a buffer; all zero is no words. -/
def State.hostBuf (s : State) (p : Nat) (lo hi : Word) : List Word :=
  if addr64 lo hi = 0 then []
  else
    let ws := bytesWords (s.memBytes p (addr64 lo hi) 64)
    if ws.all (· = 0) then [] else ws

/-- Key already present: in index A, or among the entries of a lost bucket. -/
def State.keyPresent (s : State) (pan eui : Nat) : Bool :=
  (s.dir.a.find (idxKeyA pan eui)).isSome ||
    s.dir.lost.any (fun l => l.1 = 0 && l.2.2.any (fun e => e.2.key = idxKeyA pan eui))

/-- The checks of INSERT that need no free place. The order of a command's checks is the model's (DESIGN CHOICE, log entry 31); a free address whose key
index B still holds is a key already present (DEDUCED, log entry 103). -/
def State.insertBad (s : State) (c : CmdDesc) : Option Nat :=
  let p := c.part.val
  let short := bitsAt c.w4 0 16
  if bitsAt c.w1 0 2 ≠ 0 then some 2
  else if !s.panOn (cmdPan c) || !s.panMay p (cmdPan c) then some 1
  else if s.keyPresent (cmdPan c) (cmdEui c) then some 3
  else if bitAt c.w1 8 && (s.node (bitsAt c.w5 0 19)).valid then some 5
  else if !bindPortOk p (bitsAt c.w4 16 6) then some 6
  else if bitAt c.w1 7 && !s.shortFree (cmdPan c) short then some 7
  else if bitAt c.w1 7 && s.shortPresent (cmdPan c) short then some 3
  else if unaligned c.w6 c.w7 then some 8
  else if bitsAt c.w1 5 2 = 3 then some 11
  else none

/-- INSERT creates a record (R202, R204, R210, R213, R241). -/
def execInsert (c : CmdDesc) (dma : Dma) (s : State) : Host.Outcome State Fault Refusal :=
  .next (s.dirRun c (fun s =>
    match s.insertBad c with
    | some e => s.cmdBad c e
    | none =>
      if addr64 c.w6 c.w7 ≠ 0 && dma ≠ .ok then s.cmdBad c 20
      else
        match (if bitAt c.w1 8 then some (bitsAt c.w5 0 19) else s.ordLowest 524288 0) with
        | none => (s.bump R.NDIR_CNT_FULL).cmdDone c stINSERT_FULL [] 0 2
        | some o =>
          let hs := bitAt c.w1 7
          let r : NodeRec :=
            { valid := true
              kind := bitsAt c.w1 5 2
              pan := (cmdPan c)
              hasShort := hs
              eui := (cmdEui c)
              short := if hs then bitsAt c.w4 0 16 else 0
              port := bitsAt c.w4 16 6
              bound := bitAt c.w4 22
              createdS := s.citySec
              reach := true
              hostWords := s.hostBuf c.part.val c.w6 c.w7 }
          match ({ s with dir := { s.dir with bad := s.dir.bad.filter (· ≠ o) } } : State).nodeCreate o r with
          | .error (d, s1) => s1.cmdDone c stINSERT_FULL [] 0 d
          | .ok (s1, moved) => s1.cmdOk c (s1.dirWords o moved)))

/-- DELETE: the completion describes the record as it stood and carries the final N of its link key (R196, R204). -/
def execDelete (c : CmdDesc) (s : State) : Host.Outcome State Fault Refusal :=
  .next (s.dirRun c (fun s =>
    match s.keyFind c with
    | .error e => s.cmdBad c e
    | .ok none => s.cmdBad c 4
    | .ok (some o) =>
      if s.nodeBad o then s.cmdBad c 20
      else
        let r := s.node o
        let ws := s.dirWords o false ++ [0, w32 (if r.hasNbr then s.finalN r.nbr else 0)]
        (s.nodeDelete o).cmdOk c ws))

/-- A change of `KIND` that UPDATE allows. -/
def kindOk (old new : Nat) : Bool := new < 3 && (new == old || new != 0)

def execUpdate (c : CmdDesc) (dma : Dma) (s : State) : Host.Outcome State Fault Refusal :=
  .next (s.dirRun c (fun s =>
    match s.keyFind c with
    | .error e => s.cmdBad c e
    | .ok none => s.cmdBad c 4
    | .ok (some o) =>
      let r := s.node o
      let port := bitsAt c.w4 2 6
      if bitAt c.w1 6 && !bindPortOk c.part.val port then s.cmdBad c 6
      else if unaligned c.w6 c.w7 then s.cmdBad c 8
      else if bitAt c.w1 5 && !kindOk r.kind (bitsAt c.w4 0 2) then s.cmdBad c 11
      else if s.nodeBad o || (bitAt c.w1 7 && addr64 c.w6 c.w7 ≠ 0 && dma ≠ .ok) then s.cmdBad c 20
      else
        let r1 := if bitAt c.w1 5 then { r with kind := bitsAt c.w4 0 2 } else r
        let r2 := if bitAt c.w1 6 then
          { r1 with port := port, bound := bitAt c.w4 8, heardS := s.citySec, heardNs := s.cityNsec } else r1
        let r3 := if bitAt c.w1 7 then { r2 with hostWords := s.hostBuf c.part.val c.w6 c.w7 } else r2
        let r4 := if bitAt c.w1 8 then { r3 with moves := 0, rxFrames := 0, txFrames := 0 } else r3
        let s1 := s.setNode o r4
        s1.cmdOk c (s1.dirWords o false)))

/-! ### NEXT (R214 to R216) -/

/-- A NEXT item of 16 octets, with `MOVING` as given. -/
def State.nextItem (s : State) (b : Bool) (since : Option Nat) (pos : Nat) (e : IdxEntry) (moving : Bool) : List Byte :=
  let r := s.node e.ord
  let bit (x : Bool) (k : Nat) : Nat := if x then 2 ^ k else 0
  wordsBytes
    [w32 (if b then e.key % 2 ^ 16 else e.key), w32 (if b then 0 else e.key % 2 ^ 64 / 2 ^ 32),
     w32 (e.ord + idxPan b e.key * 2 ^ 19 + r.kind * 2 ^ 22 + bit (!b && e.hit) 24 + bit (!b && e.aged) 25
       + bit (since.any (fun m => m < e.movedAt)) 26 + bit moving 27),
     w32 pos]

/-- The items of a NEXT. An entry whose move may still be under way beside the command reads a free `MOVING` (R211; log entry 102). -/
def State.nextItems (s : State) (b : Bool) (since : Option Nat) (es : List (Nat × IdxEntry)) : List Byte × State :=
  es.foldl (fun (o : List Byte × State) e =>
    let (m, t) := if o.2.moveOpen b e.2 then o.2.draw 2 else (0, o.2)
    (o.1 ++ t.nextItem b since e.1 e.2 (m == 1), t)) ([], s)

def State.iterOf (s : State) (p i : Nat) : Option Iter := s.dir.iters.find? (fun x => x.part = p && x.idx = i)

/-- The iteration of a partition on an index, replaced or closed. -/
def State.setIter (s : State) (p i : Nat) (x : Option Iter) : State :=
  let others := s.dir.iters.filter (fun (y : Iter) => !(y.part = p && y.idx = i))
  { s with dir := { s.dir with iters := others ++ x.toList } }

/-- Word 0x10 of a NEXT completion. -/
def nextWord (cursor n : Nat) (fin unguarded : Bool) : Word :=
  w32 (cursor + n * 2 ^ 20 + (if fin then 2 ^ 29 else 0) + (if unguarded then 2 ^ 30 else 0))

def execNext (c : CmdDesc) (s : State) : Host.Outcome State Fault Refusal :=
  .next (s.dirRun c (fun s =>
    let p := c.part.val
    let b := bitAt c.w1 5
    let i := if b then 1 else 0
    let count := min 256 (bitsAt c.w1 6 9)
    let cur := bitsAt c.w2 0 20
    let open_ := s.iterOf p i
    let ung := cur ≠ 0 && open_.isNone
    if unaligned c.w4 c.w5 then s.cmdBad c 8
    else if count = 0 then s.cmdOk c (noRecord true ++ [nextWord cur 0 (idxEnd ≤ cur) ung])
    else
      let all := (s.idx b).ents.filter (fun e => cur ≤ e.1 && s.panMay p (idxPan b e.2.key))
      let out := all.take count
      let nxt := if out.length = count then ((out.getLast?).map (·.1 + 1)).getD idxEnd else idxEnd
      let fin := idxEnd ≤ nxt || idxEnd ≤ cur
      let nxt := if idxEnd ≤ cur then cur else nxt
      let since := if cur = 0 then some s.dir.moves else open_.map Iter.moves
      let (items, s0) := s.nextItems b since out
      let s1 := s0.memWrite p (addr64 c.w4 c.w5) items
      let s2 :=
        if ung then s1
        else if fin then s1.setIter p i none
        else s1.setIter p i (some ⟨p, i, nxt, s.now, since.getD 0⟩)
      s2.cmdOk c (noRecord true ++ [nextWord nxt out.length fin ung])))

/-- An iteration closes 10 s after its last NEXT (R214). -/
def execIterationExpiry (p : Part) (b : Bool) (s : State) : Host.Outcome State Fault Refusal :=
  .next (
    let i := if b then 1 else 0
    match s.iterOf p.val i with
    | none => s
    | some x => (s.advanceTo (x.last + sec 10)).setIter p.val i none)

/-! ### Flushes (R223) -/

/-- FLUSH_BY_PORT queues a flush; of the chip's eight places a running flush keeps its own until it ends (DEDUCED, log entry 32). -/
def execFlushByPort (c : CmdDesc) (s : State) : Host.Outcome State Fault Refusal :=
  .next (
    if !s.cmdTurn c then s
    else if (cmdTable c) ≠ 0 then (s.cmdTake c).cmdBad c 2
    else
      let s := s.cmdTake c
      let p := c.part.val
      let port := bitsAt c.w1 5 6
      let all := bitAt c.w1 11
      if !all && !s.panMay p (cmdPan c) then s.cmdBad c 1
      else if !bindPortOk p port then s.cmdBad c 6
      else if 8 ≤ s.dir.flushes.length then s.cmdBad c 10
      else
        let id := s.dir.nextFlush
        let s1 := { s with
          dir := { s.dir with
            flushes := s.dir.flushes ++ [FlushJob.mk id p port (if all then none else some (cmdPan c)) false 0 0 0]
            nextFlush := (id + 1) % 256 }
          pwr := { s.pwr with idleSince := none } }
        s1.cmdOk c (noRecord true ++ [w32 id]))

/-- The running flush. -/
def State.flushNow (s : State) : Option FlushJob := s.dir.flushes.find? (·.running)

def State.setFlush (s : State) (j : FlushJob) : State :=
  { s with dir := { s.dir with flushes := s.dir.flushes.map (fun (x : FlushJob) => if x.id = j.id then j else x) } }

/-- The running flush visits the index A entries from its position up to `hi`, one at a time, at most `n` of them. It has passed a position when it
acts on the entry there, so a re-homing that the deletion allows takes no entry past it (R215). -/
def State.flushVisit (s : State) (hi : Nat) : Nat → State
  | 0 => s
  | n + 1 =>
    match s.flushNow with
    | none => s
    | some j =>
      match s.dir.a.ents.find? (fun e => j.pos ≤ e.1 && e.1 < hi) with
      | none => s.setFlush { j with pos := max j.pos hi }
      | some e =>
        let r := s.node e.2.ord
        let k := { j with pos := e.1 + 1 }
        let mine := match j.pan with
          | some p => r.pan = p
          | none => s.panMay j.part r.pan
        if r.valid && r.bound && r.port = j.port && mine then
          let (s1, d, u) := (s.setFlush k).ageNode e.2.ord false
          State.flushVisit (s1.setFlush { k with deleted := j.deleted + (if d then 1 else 0), cleared := j.cleared + (if u then 1 else 0) }) hi n
        else State.flushVisit (s.setFlush k) hi n

/-- The share of a running pass that fits one µs: six positions, so that a pass takes under 100 ms (DESIGN CHOICE, log entry 32). -/
def State.flushTick (s : State) : State :=
  match s.flushNow with
  | none => s
  | some j =>
    if idxEnd ≤ j.pos then s else s.flushVisit (j.pos + 6) (s.dir.a.ents.length + 1)

/-- The next queued flush starts its pass over index A. -/
def execFlushPassStart (s : State) : Host.Outcome State Fault Refusal :=
  .next (
    match s.flushNow, s.dir.flushes with
    | none, j :: _ => s.setFlush { j with running := true, pos := 0 }
    | _, _ => s)

/-- The pass ends: the rest of the index is visited and FLUSH_DONE raised to the issuer. PRESUMED layout of its parameters, log entry 4. -/
def execFlushDone (s : State) : Host.Outcome State Fault Refusal :=
  .next (
    match s.flushNow with
    | none => s
    | some j =>
      let s1 := s.flushVisit idxEnd (s.dir.a.ents.length + 1)
      let j1 := s1.flushNow.getD j
      ({ s1 with dir := { s1.dir with flushes := s1.dir.flushes.filter (fun (x : FlushJob) => x.id ≠ j.id) } }).evtF 17 (2 ^ j.part)
        (w32 (j.id + j.port * 2 ^ 8)) (w32 j1.deleted) (w32 j1.cleared))

/-! ### The sweeper (R220 to R222) -/

/-- SWEEPER_VISIT: the next position of index A. -/
def execSweeperVisit (s : State) : Host.Outcome State Fault Refusal :=
  .next (
    if s.sweepS = 0 then s
    else
      let pos := s.dir.sweepPos
      let s1 := { s with dir := { s.dir with sweepPos := if idxEnd ≤ pos + 1 then 0 else pos + 1 } }
      match s1.dir.a.at pos with
      | none => s1
      | some e =>
        if e.hit then s1.idxMark pos false false
        else if !e.aged then s1.idxMark pos false true
        else ((s1.idxMark pos false false).ageNode e.ord true).1)

/-! ### Learning (R217 to R219) -/

/-- An input of learning for the record of an ordinal: port, quality and receive timestamp in ns (R218). -/
def State.learn (s : State) (o port q t : Nat) : State :=
  let r := s.node o
  let s1 := s.nodeHit o
  let ts := t / 1000000000 % 2 ^ 32
  let tn := t % 1000000000
  let heard := r.heardS * 1000000000 + r.heardNs
  let moved := r.movedS * 1000000000 + r.movedNs
  if r.kind = 2 then s1
  else if !r.bound then s1.setNode o { r with port := port, q := q, heardS := ts, heardNs := tn, bound := true }
  else if port = r.port then s1.setNode o { r with q := q, heardS := ts, heardNs := tn }
  else if r.q + (if t < moved + 4000000000 then 24 else 12) ≤ q || heard + 2000000000 < t then
    (s1.setNode o { r with port := port, q := q, heardS := ts, heardNs := tn, movedS := ts, movedNs := tn, moves := satAdd 16 r.moves 1 }
      ).bump R.NDIR_CNT_MOVES
  else s1

end Sys2Proof.Machine
end

