-- ==== Sys2Proof/Machine/Lpm.lean ====
section
/-! DEFINITION. The prefix tables: lookups, the prefix commands, the mode T trie and the mode H table, and mode changes (R227 to R234). -/

namespace Sys2Proof.Machine

/-! ### Tables (R227, R231, R232) -/

def State.modeH (s : State) : Bool := s.flag R.LPM_MODE F.LPM_MODE_MODE
def State.lpmChanging (s : State) : Bool := s.flag R.LPM_MODE F.LPM_MODE_CHANGING

/-- The first `len` bits of an address, the others 0. -/
def maskTo (len a : Nat) : Nat := a / 2 ^ (128 - len) * 2 ^ (128 - len)

/-- Whether a prefix covers an address. -/
def Prefix.covers (x : Prefix) (a : Nat) : Bool := maskTo x.len a == x.bits

/-- Mode T nodes a prefix needs: stride and the address bits before it. -/
def Prefix.nodes (x : Prefix) : List (Nat × Nat) :=
  (List.range ((x.len - 16 + 7) / 8)).map (fun d => (d, x.bits / 2 ^ (112 - 8 * d)))

/-- Nodes of the pool in use. -/
def lpmNodes (ps : List (Nat × Prefix)) : Nat := ((ps.flatMap (fun e => e.2.nodes)).eraseDups).length

/-- Filter positions of a length and masked prefix (R232). -/
def filterBits (len bits : Nat) : Nat × Nat := (Config.lpmBit 0 len bits % 2 ^ 24, Config.lpmBit 1 len bits % 2 ^ 24)

/-- A bit of the length filter: set by a stored prefix, or by one deleted since the filter was built. -/
def State.filterHas (s : State) (pos : Nat) : Bool :=
  let hit (len bits : Nat) : Bool :=
    let (a, b) := filterBits len bits
    a == pos || b == pos
  s.lpm.prefixes.any (fun e => hit e.2.len e.2.bits) || s.lpm.ghosts.any (fun g => hit g.1 g.2)

/-- Candidate buckets of a prefix in mode H; equal ones are told apart as in R207 (DEDUCED, log entry 33). -/
def lpmBuckets (len bits : Nat) : Nat × Nat :=
  let b1 := Config.lpmBucket 0 len bits % 1048576
  let b2 := Config.lpmBucket 1 len bits % 1048576
  (b1, if b2 = b1 then b1 ^^^ 1 else b2)

def State.lpmFill (s : State) (b : Nat) : Nat := (s.lpm.prefixes.filter (fun e => e.2.bucket = b)).length

/-- Length in use. -/
def State.lenUsed (s : State) (len : Nat) : Bool := s.lpm.prefixes.any (fun e => e.2.len = len)

/-- `LPM_USE`, `LPM_NODES` and `LPM_LENGTHSk` show the tables. -/
def State.lpmSync (s : State) : State :=
  let s1 := s.setFld R.LPM_USE F.LPM_USE_PREFIXES s.lpm.prefixes.length
  let s2 := s1.setFld R.LPM_NODES F.LPM_NODES_USED (if s.modeH then 0 else lpmNodes s.lpm.prefixes)
  (List.range 5).foldl (fun t k =>
    t.wr (R.LPM_LENGTHS k) (w32 (((List.range 32).map (fun i => if s.lenUsed (32 * k + i) then 2 ^ i else 0)).sum))) s2

def State.setPrefixes (s : State) (l : List (Nat × Prefix)) : State := ({ s with lpm := { s.lpm with prefixes := l } }).lpmSync

/-! ### Lookups (R228, R232) -/

/-- The longest of the prefixes given that covers an address, with its ID. -/
def longest (ps : List (Nat × Prefix)) (a : Nat) : Option (Nat × Prefix) :=
  (ps.filter (fun e => e.2.covers a)).foldl (fun (m : Option (Nat × Prefix)) e =>
    match m with
    | none => some e
    | some y => if y.2.len < e.2.len then some e else m) none

/-- Reads that find no match, in a mode H lookup that ends at length `len` plus 1 (0: without a match). -/
def State.fprobes (s : State) (a len : Nat) : Nat :=
  if !s.modeH then 0
  else ((List.range 129).filter (fun l =>
    len ≤ l && s.lenUsed l &&
      (let (x, y) := filterBits l (maskTo l a)
       s.filterHas x && s.filterHas y))).length

/-- The DRAM reads without a match of a lookup among prefixes are counted. -/
def State.lpmReads (s : State) (ps : List (Nat × Prefix)) (a : Nat) : State :=
  s.bumpBy R.LPM_CNT_FPROBE (s.fprobes a (((longest ps a).map (fun e => e.2.len + 1)).getD 0))

/-- A forwarding lookup (R228): the result, and the state with the lookup counted. -/
def State.lpmLookup (s : State) (a : Nat) : Option Word × State :=
  let r := longest s.lpm.prefixes a
  let s1 := s.lpmReads s.lpm.prefixes a
  (r.map (fun e => e.2.result), if r.isNone then s1.bump R.LPM_CNT_MISS else s1)

/-! ### Commands (R229, R230) -/

/-- A prefix command: in its turn it runs with `TABLE` 1, and not while the mode changes (R233). -/
def State.prefixRun (s : State) (c : CmdDesc) (f : State → State) : State :=
  if cmdTable c ≠ 1 || !s.cmdTurn c then s
  else if s.lpmChanging then (s.cmdTake c).cmdBad c 12
  else f (s.cmdTake c)

/-- Address of the prefix words, the lowest-numbered octet highest. -/
def cmdAddr (c : CmdDesc) : Nat := c.w2.toNat * 2 ^ 96 + c.w3.toNat * 2 ^ 64 + c.w4.toNat * 2 ^ 32 + c.w5.toNat

def cmdLen (c : CmdDesc) : Nat := bitsAt c.w1 0 8

/-- The prefixes a partition sees (R229). -/
def State.prefixesOf (s : State) (p : Nat) : List (Nat × Prefix) := s.lpm.prefixes.filter (fun e => p = 0 || e.2.owner = p)

/-- The prefix of a command, among those given. -/
def exactPrefix (ps : List (Nat × Prefix)) (c : CmdDesc) : Option (Nat × Prefix) :=
  ps.find? (fun e => e.2.len = cmdLen c && e.2.bits = maskTo (cmdLen c) (cmdAddr c))

/-- Words 0x04 to 0x0C of a prefix completion. -/
def prefixWords (id : Nat) (x : Prefix) : List Word := [w32 (id + 2 ^ 20), x.result, w32 x.len]

def execPrefixSearch (c : CmdDesc) (s : State) : Host.Outcome State Fault Refusal :=
  .next (s.prefixRun c (fun s =>
    let ps := s.prefixesOf c.part.val
    if bitAt c.w1 8 then
      let s1 := s.lpmReads ps (cmdAddr c)
      match longest ps (cmdAddr c) with
      | none => s1.cmdOk c []
      | some (i, x) => s1.cmdOk c (prefixWords i x)
    else if 128 < cmdLen c then s.cmdBad c 9
    else
      match exactPrefix ps c with
      | none => s.cmdOk c []
      | some (i, x) => s.cmdOk c (prefixWords i x)))

/-- What a result names that its partition may not (R229): 1 for a PAN slot of another owner (R224), 6 for a port, 0 for nothing. -/
def State.resultCause (s : State) (p : Nat) (r : Word) : Nat :=
  let port := bitsAt r 0 6
  if bitAt r 6 then (if s.panMay p (bitsAt r 7 3) then 0 else 1)
  else if (if p = 0 then !(60 ≤ port && port ≤ 62) else port == 52 + p || port == 63) then 0
  else 6

/-- The lowest free ID. -/
def State.idLowest (s : State) : Nat → Nat → Option Nat
  | 0, _ => none
  | n + 1, i => if s.lpm.prefixes.any (fun e => e.1 = i) then State.idLowest s n (i + 1) else some i

/-- PREFIX_INSERT (R227, R231, R232). -/
def execPrefixInsert (c : CmdDesc) (s : State) : Host.Outcome State Fault Refusal :=
  .next (s.prefixRun c (fun s =>
    let len := cmdLen c
    let x : Prefix := { bits := maskTo len (cmdAddr c), len := len, owner := c.part.val, result := c.w6 &&& 0x7FFFFF, bucket := 0 }
    if 128 < len then s.cmdBad c 9
    else if s.resultCause c.part.val c.w6 ≠ 0 then s.cmdBad c (s.resultCause c.part.val c.w6)
    else if (exactPrefix s.lpm.prefixes c).isSome then s.cmdBad c 3
    else
      match s.idLowest (if s.modeH then 1048576 else 65536) 0 with
      | none => s.cmdDone c stINSERT_FULL [] 3 0
      | some i =>
        let (b1, b2) := lpmBuckets len x.bits
        let b := if s.lpmFill b2 < s.lpmFill b1 then b2 else b1
        if s.modeH && 4 ≤ s.lpmFill b then s.cmdDone c stINSERT_FULL [] 3 2
        else if !s.modeH && 8192 < lpmNodes (s.lpm.prefixes ++ [(i, x)]) then s.cmdDone c stINSERT_FULL [] 3 1
        else
          let y := if s.modeH then { x with bucket := b } else x
          (s.setPrefixes (aput i y (adel i s.lpm.prefixes))).cmdOk c (prefixWords i y)))

/-- A rebuild of the length filter starts when the prefixes deleted since the last one reach 65,536 (R232). -/
def State.filterCheck (s : State) : State :=
  if !s.lpm.rebuilding && 65536 ≤ s.lpm.ghosts.length then
    { s with lpm := { s.lpm with rebuilding := true, ghostsAt := s.lpm.ghosts.length } }
  else s

def execPrefixDelete (c : CmdDesc) (s : State) : Host.Outcome State Fault Refusal :=
  .next (s.prefixRun c (fun s =>
    if 128 < cmdLen c then s.cmdBad c 9
    else
      match exactPrefix (s.prefixesOf c.part.val) c with
      | none => s.cmdBad c 4
      | some (i, x) =>
        let s1 := s.setPrefixes (adel i s.lpm.prefixes)
        let s2 := if s.modeH then { s1 with lpm := { s1.lpm with ghosts := s1.lpm.ghosts ++ [(x.len, x.bits)] } } else s1
        s2.filterCheck.cmdOk c (prefixWords i x)))

def execPrefixUpdate (c : CmdDesc) (s : State) : Host.Outcome State Fault Refusal :=
  .next (s.prefixRun c (fun s =>
    if 128 < cmdLen c then s.cmdBad c 9
    else if s.resultCause c.part.val c.w6 ≠ 0 then s.cmdBad c (s.resultCause c.part.val c.w6)
    else
      match exactPrefix (s.prefixesOf c.part.val) c with
      | none => s.cmdBad c 4
      | some (i, x) =>
        let y := { x with result := c.w6 &&& 0x7FFFFF }
        (s.setPrefixes (aput i y (adel i s.lpm.prefixes))).cmdOk c (prefixWords i y)))

/-- A NEXT item of 32 octets (R230). -/
def prefixItem (id : Nat) (x : Prefix) : List Byte :=
  wordsBytes [w32 (x.bits / 2 ^ 96), w32 (x.bits / 2 ^ 64), w32 (x.bits / 2 ^ 32), w32 x.bits,
    w32 (x.len + x.owner * 2 ^ 8 + id * 2 ^ 10), x.result, 0, 0]

def execPrefixNext (c : CmdDesc) (s : State) : Host.Outcome State Fault Refusal :=
  .next (s.prefixRun c (fun s =>
    let p := c.part.val
    let count := min 256 (bitsAt c.w1 9 9)
    let cur := bitsAt c.w2 0 20
    let last := if s.modeH then 1048576 else 65536
    if unaligned c.w4 c.w5 then s.cmdBad c 8
    else if count = 0 then s.cmdOk c [w32 cur]
    else
      let out := ((s.prefixesOf p).filter (fun e => cur ≤ e.1)).take count
      let nxt := if out.length = count then ((out.getLast?).map (·.1 + 1)).getD last else max cur last
      let s1 := s.memWrite p (addr64 c.w4 c.w5) (out.flatMap (fun e => prefixItem e.1 e.2))
      s1.cmdOk c [w32 (nxt % 2 ^ 20 + out.length * 2 ^ 21 + (if last ≤ nxt then 2 ^ 30 else 0))]))

/-! ### Rebuilds and mode changes (R232, R233) -/

/-- The new filter replaces the old one; the prefixes deleted before the rebuild began no longer set its bits. -/
def execFilterRebuildDone (s : State) : Host.Outcome State Fault Refusal :=
  .next (
    if !s.lpm.rebuilding then s
    else ({ s with lpm := { s.lpm with ghosts := s.lpm.ghosts.drop s.lpm.ghostsAt, rebuilding := false, ghostsAt := 0 } }).filterCheck)

/-- A guarded write of `LPM_MODE` (R233, R234). -/
def State.lpmModeWrite (s : State) (p : Nat) (data : Word) : State :=
  s.guarded p R.LPM_MODE data (fun s =>
    if p ≠ 0 then s.err R.LPM_ERR F.LPM_ERR_PART_WRITE
    else if s.lpmChanging then s.err R.LPM_ERR F.LPM_ERR_MODE_BUSY
    else if bitAt data 0 = s.modeH then s
    else
      let s1 := (s.setFld R.LPM_MODE F.LPM_MODE_CHANGING 1).setFld R.LPM_MODE F.LPM_MODE_MODE (if bitAt data 0 then 1 else 0)
      ({ s1 with lpm := {} }).lpmSync)

def execLpmModeChange (p : Part) (data : Word) (s : State) : Host.Outcome State Fault Refusal :=
  .next (s.lpmModeWrite p.val data)

def execLpmModeChangeDone (s : State) : Host.Outcome State Fault Refusal :=
  .next (s.setFld R.LPM_MODE F.LPM_MODE_CHANGING 0)

end Sys2Proof.Machine
end

