-- ==== Sys2Proof/Machine/Link.lean ====
section
/-! DEFINITION. Liveness, the AIR time source, the join cache, and the link-layer commands (R138 to R147, R162 to R164, R324, R483). -/

namespace Sys2Proof.Machine

/-! ### Time-source neighbours (R146, R147) -/

/-- The listed time sources, most preferred first: list position and neighbour. -/
def State.tsrcList (s : State) : List (Nat × Nat) :=
  let one (i k : Nat) (f v : Fld) : List (Nat × Nat) := if s.flag k v then [(i, s.fld k f)] else []
  one 0 R.LINK_TSRC01 F.LINK_TSRC01_NBR0 F.LINK_TSRC01_V0 ++ one 1 R.LINK_TSRC01 F.LINK_TSRC01_NBR1 F.LINK_TSRC01_V1
    ++ one 2 R.LINK_TSRC23 F.LINK_TSRC01_NBR0 F.LINK_TSRC01_V0 ++ one 3 R.LINK_TSRC23 F.LINK_TSRC01_NBR1 F.LINK_TSRC01_V1

def State.airOn (s : State) : Bool := s.flag R.LINK_TSRC_STATE F.LINK_TSRC_STATE_ACTIVE_VALID
def State.airHold (s : State) : Bool := s.flag R.LINK_TSRC_STATE F.LINK_TSRC_STATE_HOLDOVER
def State.airPos (s : State) : Nat := s.fld R.LINK_TSRC_STATE F.LINK_TSRC_STATE_ACTIVE

def State.setAir (s : State) (pos : Option Nat) (hold : Bool) : State :=
  s.wr R.LINK_TSRC_STATE (w32 ((pos.map (· + 4)).getD 0 + (if hold then 8 else 0)))

/-- The active source is kept while it is listed and not LOST; else the most preferred listed neighbour that is LIVE follows it, and with
none left the chip enters holdover (R147). A holdover that has not ended goes on from where it began. -/
def State.airSync (s : State) : State :=
  if s.src ≠ 3 then s.wr R.LINK_TSRC_STATE 0
  else if s.airOn && s.tsrcList.any (fun e => e.1 = s.airPos && (s.nbr e.2).valid && (s.nbr e.2).state ≠ 3) then s
  else
    match s.tsrcList.find? (fun e => (s.nbr e.2).valid && (s.nbr e.2).state = 1) with
    | some e => s.setAir (some e.1) s.airHold
    | none =>
      if s.airOn then
        let s1 := s.setAir none true
        ({ s1 with link := { s1.link with holdSince := if s.airHold then s1.link.holdSince else s1.now } }).enterHoldover
      else s.enterHoldover

/-- A synchronising frame of a neighbour in a timekeeping cell gives an offset in ns (R146, R147). -/
def State.airOffset (s : State) (n : Nat) (off : Int) : State :=
  if s.src ≠ 3 then s
  else
    match s.tsrcList.find? (fun e => e.2 = n) with
    | none => s
    | some (i, _) => if s.airOn && s.airPos < i then s else (s.setAir (some i) false).servoOffset off

/-- A write of `LINK_TSRC01` or `LINK_TSRC23` (R146, R164). -/
def State.tsrcWrite (s : State) (p k : Nat) (data : Word) : State :=
  let bad (f v : Fld) : Bool :=
    fget v data = 1 && (let x := s.nbr (fget f data); !x.valid || x.sleepy)
  if p ≠ 0 then s.err R.LINK_ERR F.LINK_ERR_PART_WRITE
  else if bad F.LINK_TSRC01_NBR0 F.LINK_TSRC01_V0 || bad F.LINK_TSRC01_NBR1 F.LINK_TSRC01_V1 then
    s.err R.LINK_ERR F.LINK_ERR_TSRC_INVALID
  else (s.wr k (data &&& 0x9FFF9FFF)).airSync

/-! ### Liveness (R143 to R145) -/

/-- A frame that synchronises its neighbour: its start in ns of city time (R143, R153). -/
def State.synchronise (s : State) (n start : Nat) : State :=
  let x := s.nbr n
  let s1 := s.setNbr n { x with
    syncS := start / secNs % 2 ^ 32
    syncNs := start % secNs
    misses := 0
    state := 1
    missFrom := s.now
    lostAt := 0 }
  let r := s1.node x.node
  if r.reach then s1 else s1.setNode x.node { r with reach := true }

/-- The other copy of a twin pair is still queued or on air. -/
def State.partnerLives (s : State) (f : Frame) : Bool :=
  match f.gram with
  | none => false
  | some g =>
    let x := aget ⟨.own, false, 0, true⟩ g s.qmg.grams
    x.twin && !x.done && 1 < x.left

/-- A copy whose partner still lives is dropped at once when its neighbour is lost (R145, R252); the removal compares the two copies of the queue
first (R287). -/
def State.twinDrop (s : State) (q : Nat) (f : Frame) : State :=
  if (s.queue q).mismatch then s.queueFault q
  else if s.inQueue q f && s.partnerLives f then
    let s1 := s.drop q f
    match f.gram with
    | none => s1
    | some g => { s1 with qmg := { s1.qmg with
        grams := s1.qmg.grams.map (fun (e : Nat × Gram) => if e.1 = g then (e.1, { e.2 with left := e.2.left - 1 }) else e) } }
  else s

/-- A neighbour enters LOST (R145, R241). -/
def State.nbrLost (s : State) (n : Nat) : State :=
  let x := s.nbr n
  let s1 := s.setNbr n { x with state := 3, lostAt := s.now }
  let s2 := s1.setNode x.node { s1.node x.node with reach := false }
  let s3 := [0, 1, 2, 3].foldl (fun s c => (s.queue (qNbr n c)).frames.foldl (fun s f => s.twinDrop (qNbr n c) f) s) s2
  (s3.evtF 15 (2 ^ s3.panOwner x.pan) (w32 n) (w32 x.node) (w32 x.pan)).airSync

/-- LIVENESS_PERIOD_EXPIRY (R143, R144). -/
def execLivenessPeriodExpiry (n : Fin 8192) (s : State) : Host.Outcome State Fault Refusal :=
  .next (
    let i := n.val
    let x := s.nbr i
    if !x.valid || x.livePeriod = 0 then s
    else
      let s1 := s.advanceTo (x.missFrom + ms (100 * x.livePeriod))
      let m := min 15 (x.misses + 1)
      let s2 := s1.setNbr i { x with misses := m, missFrom := s1.now, state := if m = 2 then 2 else x.state }
      if m = 3 && x.state ≠ 3 then s2.nbrLost i else s2)

/-- HELD_FRAME_EXPIRY: frames still held 30 s after the entry into LOST complete NBR_LOST (R145). -/
def execHeldFrameExpiry (n : Fin 8192) (s : State) : Host.Outcome State Fault Refusal :=
  .next (
    let i := n.val
    let x := s.nbr i
    if !x.valid || x.state ≠ 3 then s
    else
      let s1 := s.advanceTo (x.lostAt + sec 30)
      [0, 1, 2, 3].foldl (fun s c => (s.queue (qNbr i c)).frames.foldl (fun s f =>
        if (s.queue (qNbr i c)).frames.any (fun g => g.id = f.id) then s.finish (qNbr i c) f stNBR_LOST 0 0 else s) s) s1)

/-! ### Neighbour words (R141) -/

/-- NBR_ENTRY_WRITE: a write of `LINK_NBR_DATA` at a partition's address. -/
def State.nbrWrite (s : State) (p : Nat) (data : Word) : State :=
  let n := s.fld (R.LINK_NBR_ADDR p) F.LINK_NBR_ADDR_NBR
  let i := s.fld (R.LINK_NBR_ADDR p) F.LINK_NBR_ADDR_WORD
  let x := s.nbr n
  let y := x.setWord i data
  if !x.valid then s.err R.LINK_ERR F.LINK_ERR_NBR_INVALID
  else if !s.panMay p x.pan then s.err R.LINK_ERR F.LINK_ERR_PART_WRITE
  else if nbrWordsBad s (y.word 1) (y.word 2) then s.err R.LINK_ERR F.LINK_ERR_NBR_INVALID
  else s.setNbr n y

def execNbrEntryWrite (p : Part) (data : Word) (s : State) : Host.Outcome State Fault Refusal := .next (s.nbrWrite p.val data)

/-- What a read of `LINK_NBR_DATA` returns. -/
def State.nbrRead (s : State) (p : Nat) : Word :=
  (s.nbr (s.fld (R.LINK_NBR_ADDR p) F.LINK_NBR_ADDR_NBR)).word (s.fld (R.LINK_NBR_ADDR p) F.LINK_NBR_ADDR_WORD)

/-! ### Addresses and the join cache (R139, R162) -/

/-- QUARANTINE_EXPIRY: the address returns to the pool once its time has come, to within 1 s. -/
def execQuarantineExpiry (p : Fin 8) (a : BitVec 16) (s : State) : Host.Outcome State Fault Refusal :=
  .next (
    let r := aget 0 (shortKey p.val a.toNat) s.link.quar
    if r = 0 || s.citySec + 2 < r then s
    else ({ s with link := { s.link with quar := aset 0 (shortKey p.val a.toNat) 0 s.link.quar } }).addrSync p.val)

/-- JOIN_CACHE_EXPIRY: 120 s after the entry's last join frame. -/
def execJoinCacheExpiry (eui : Word64) (s : State) : Host.Outcome State Fault Refusal :=
  .next (
    match s.link.joins.find? (fun j => j.eui = eui.toNat) with
    | none => s
    | some j =>
      let s1 := s.advanceTo (j.at_ + sec 120)
      { s1 with link := { s1.link with joins := s1.link.joins.filter (fun (x : JoinEnt) => x.eui ≠ eui.toNat) } })

/-! ### Blobs of a command (R178, R179, R200) -/

/-- The kind of key a store position takes: frame keys anywhere, DERIVE keys above the link-key positions. -/
def storeKindOk (j kind : Nat) : Bool := kind = 0 || (kind = 1 && 524288 ≤ j)

/-- Stores a blob that has passed its checks; the cached pair of the link key it replaces is invalidated. -/
def State.blobPut (s : State) (j : Nat) (b : List Byte) : State :=
  let s1 := { s with key := { s.key with
    store := aset [] j b s.key.store
    badBlobs := s.key.badBlobs.filter (· ≠ j) } }
  let r := s1.node j
  if j < 524288 && r.valid && r.hasNbr then s1.keyForget (.link r.nbr) else s1

/-- The parameter block at an address (R324): entry words 1 to 3, and the blob. -/
def State.paramBlock (s : State) (p : Nat) (a : Nat) : (Word × Word × Word) × List Byte :=
  ((s.memWord p a, s.memWord p (a + 4), s.memWord p (a + 8)), s.memBytes p (a + 16) 64)

/-- The KEK that a command's link-key blob is wrapped under is checked and reloaded. -/
def State.blobReady (s : State) (b : List Byte) : State := s.kekReady (blobPart b)

/-- A link-key blob's checks for a PAN: status and cause, or nothing. -/
def State.linkBlobBad (s : State) (pan : Nat) (b : List Byte) : Option (Nat × Nat) :=
  match s.blobOpen (s.panOwner pan) b with
  | .error c => some (stKEY_BAD, c)
  | .ok o => if o.kind = 0 then none else some (stBAD_PARAM, 31)

/-- A new neighbour's link key is loaded, if it has one and a pair is free (R163). -/
def State.linkLoad (s : State) (n : Nat) : State :=
  let u := s.keyReady (.link n)
  match u.keyLoad (.link n) with
  | some (.ok t) => t.bump R.KEY_CNT_MISS
  | some (.error _) => u
  | none => u.keyRequest 2 (.link n)

/-! ### Link-layer commands (R163, R324) -/

/-- PAN slot of a link-layer or key command. -/
def lpan (c : CmdDesc) : Nat := bitsAt c.w1 0 3

/-- The binding that a join leaves: the beam of the join cache, heard at the command's execution (DEDUCED, log entry 34). -/
def State.joinBind (s : State) (o eui : Nat) : State :=
  match s.link.joins.find? (fun j => j.eui = eui) with
  | none => s
  | some j => s.setNode o { s.node o with port := j.beam, bound := true, q := j.q, heardS := s.citySec, heardNs := s.cityNsec }

/-- What JOIN_ACCEPT refuses before it touches the directory: status, cause, detail. -/
def State.joinBad (s : State) (c : CmdDesc) (dma : Dma) : Option (Nat × Nat) :=
  let p := lpan c
  let hop := bitAt c.w1 3
  let need := hop || bitAt c.w1 4
  let short := bitsAt c.w1 16 16
  let (ws, blob) := s.paramBlock c.part.val (addr64 c.w4 c.w5)
  if !s.panOn p || !s.panMay c.part.val p then some (stBAD_PARAM, 1)
  else if need && unaligned c.w4 c.w5 then some (stBAD_PARAM, 8)
  else if need && dma ≠ .ok then some (stBAD_PARAM, 20)
  else if s.keyPresent p (cmdEui c) then some (stBAD_PARAM, 3)
  else if short ≠ 0 && !s.shortFree p short then some (stBAD_PARAM, 7)
  else if short ≠ 0 && s.shortPresent p short then some (stBAD_PARAM, 3)
  else if hop && nbrWordsBad s ws.1 ws.2.1 then some (stBAD_PARAM, 39)
  else if short = 0 && (s.shortLowest p 65519 1).isNone then some (stINSERT_FULL, 1)
  else if hop && (s.nbrLowest 8192 0).isNone then some (stINSERT_FULL, 2)
  else if bitAt c.w1 4 then s.linkBlobBad p blob
  else none

/-- JOIN_ACCEPT (R138, R163). -/
def execJoinAccept (c : CmdDesc) (dma : Dma) (s0 : State) : Host.Outcome State Fault Refusal :=
  .next (
    if !s0.cmdTurn c then s0
    else
    let p := lpan c
    let hop := bitAt c.w1 3
    let (ws, blob) := s0.paramBlock c.part.val (addr64 c.w4 c.w5)
    let s := if bitAt c.w1 4 && dma = .ok then (s0.cmdTake c).blobReady blob else s0.cmdTake c
    match s.joinBad c dma with
    | some (st, cause) => s.cmdDone c st [] cause 0
    | none =>
      match s.ordLowest 524288 0 with
      | none => (s.bump R.NDIR_CNT_FULL).cmdDone c stINSERT_FULL [] 0 2
      | some o =>
        let short := if bitsAt c.w1 16 16 = 0 then (s.shortLowest p 65519 1).getD 0 else bitsAt c.w1 16 16
        let r : NodeRec :=
          { valid := true
            kind := 1
            pan := p
            hasShort := true
            eui := cmdEui c
            short := short
            createdS := s.citySec
            reach := true }
        match s.nodeCreate o r with
        | .error (d, s1) => s1.cmdDone c stINSERT_FULL [] 0 d
        | .ok (s1, _) =>
          let s2 := if bitAt c.w1 4 then s1.blobPut o blob else s1
          if hop then
            let n := (s2.nbrLowest 8192 0).getD 0
            let s3 := ((s2.nbrAdd n p o ws.1 ws.2.1 ws.2.2).joinBind o (cmdEui c)).linkLoad n
            s3.cmdOk c [w32 o, w32 short, w32 n]
          else s2.cmdOk c [w32 o, w32 short, 0x1FFF])

/-- NODE_RELEASE: a DELETE by ordinal in a PAN (R204, R226). -/
def execNodeRelease (c : CmdDesc) (s0 : State) : Host.Outcome State Fault Refusal :=
  .next (
    if !s0.cmdTurn c then s0
    else
    let s := s0.cmdTake c
    let o := bitsAt c.w2 0 19
    let r := s.node o
    if !s.panMay c.part.val (lpan c) then s.cmdBad c 1
    else if !r.valid || r.pan ≠ lpan c then s.cmdBad c 4
    else (s.nodeDelete o).cmdOk c [0, 0, 0, 0, w32 (if r.hasNbr then s.finalN r.nbr else 0)])

/-- NBR_ADD (R140, R163). -/
def execNbrAdd (c : CmdDesc) (dma : Dma) (s0 : State) : Host.Outcome State Fault Refusal :=
  .next (
    if !s0.cmdTurn c then s0
    else
    let p := lpan c
    let o := bitsAt c.w2 0 19
    let (ws, blob) := s0.paramBlock c.part.val (addr64 c.w4 c.w5)
    let s := if bitAt c.w1 4 && dma = .ok then (s0.cmdTake c).blobReady blob else s0.cmdTake c
    let r := s.node o
    if !s.panOn p || !s.panMay c.part.val p then s.cmdBad c 1
    else if unaligned c.w4 c.w5 then s.cmdBad c 8
    else if dma ≠ .ok then s.cmdBad c 20
    else if !r.valid || r.pan ≠ p then s.cmdBad c 4
    else if r.hasNbr then s.cmdBad c 3
    else if nbrWordsBad s ws.1 ws.2.1 then s.cmdBad c 39
    else
      match s.nbrLowest 8192 0 with
      | none => s.cmdDone c stINSERT_FULL [] 2 0
      | some n =>
        match (if bitAt c.w1 4 then s.linkBlobBad p blob else none) with
        | some (st, cause) => s.cmdDone c st [] cause 0
        | none =>
          let s1 := if bitAt c.w1 4 then s.blobPut o blob else s
          (s1.nbrAdd n p o ws.1 ws.2.1 ws.2.2).cmdOk c [0, 0, w32 n])

/-- NBR_REMOVE (R142, R196). -/
def execNbrRemove (c : CmdDesc) (s0 : State) : Host.Outcome State Fault Refusal :=
  .next (
    if !s0.cmdTurn c then s0
    else
    let s := s0.cmdTake c
    let n := bitsAt c.w2 0 13
    if !(s.nbr n).valid then s.cmdBad c 4
    else if !s.panMay c.part.val (s.nbr n).pan then s.cmdBad c 1
    else (s.nbrRemove n).cmdOk c [0, 0, 0, 0, w32 (s.finalN n)])

/-- ADDR_QUARANTINE (R139, R163, R483). -/
def execAddrQuarantine (c : CmdDesc) (s0 : State) : Host.Outcome State Fault Refusal :=
  .next (
    if !s0.cmdTurn c then s0
    else
    let s := s0.cmdTake c
    let a := bitsAt c.w1 16 16
    let secs := bitsAt c.w2 0 17
    if !s.panMay c.part.val (lpan c) then s.cmdBad c 1
    else if a = 0 || 0xFFEF < a || s.shortAssigned (lpan c) a then s.cmdBad c 7
    else if secs = 0 || 86400 < secs then s.cmdBad c 40
    else (s.shortQuar (lpan c) a secs).cmdOk c [])

end Sys2Proof.Machine
end

