-- ==== Sys2Proof/Machine/KeyCmd.lean ====
section
/-! DEFINITION. The key commands (R181, R187, R196, R200, R324, R484). -/

namespace Sys2Proof.Machine

/-- Position and key words of the key commands. -/
def kpos (c : CmdDesc) : Nat := bitsAt c.w2 0 20

/-- Key index registers of a PAN. -/
def State.joinIdx (s : State) (p : Nat) : Nat := s.fld (R.KEY_PAN_CFG p) F.KEY_PAN_CFG_JOIN_KIDX
def kidxFld (pos : Nat) : Fld := if pos = 0 then F.KEY_PAN_CFG_A_KIDX else F.KEY_PAN_CFG_B_KIDX
def State.groupIdx (s : State) (p pos : Nat) : Nat := s.fld (R.KEY_PAN_CFG p) (kidxFld pos)
def State.nextValid (s : State) (p : Nat) : Bool := s.flag (R.KEY_PAN_CFG p) F.KEY_PAN_CFG_NEXT_VALID
def State.inGrace (s : State) (p : Nat) : Bool := s.flag (R.KEY_PAN_CFG p) F.KEY_PAN_CFG_GRACE

/-- KEY_STORE (R178, R179, R200). -/
def execKeyStore (c : CmdDesc) (dma : Dma) (s0 : State) : Host.Outcome State Fault Refusal :=
  .next (
    if !s0.cmdTurn c then s0
    else
    let s1 := s0.cmdTake c
    let b := s1.memBytes c.part.val (addr64 c.w4 c.w5) 64
    if unaligned c.w4 c.w5 then s1.cmdBad c 8
    else if dma ≠ .ok then s1.cmdBad c 20
    else
      let s := s1.kekReady (blobPart b)
      match s.blobOpen c.part.val b with
      | .error e => s.cmdDone c stKEY_BAD [] e 0
      | .ok o =>
        if !storeKindOk (kpos c) o.kind then s.cmdBad c 31
        else (s.blobPut (kpos c) b).cmdOk c [w32 o.keyId])

/-- KEY_DELETE (R200): the pairs loaded from the removed blobs go too; a pinned key stays. -/
def execKeyDelete (c : CmdDesc) (s0 : State) : Host.Outcome State Fault Refusal :=
  .next (
    if !s0.cmdTurn c then s0
    else
    let s := s0.cmdTake c
    let a := kpos c
    let n := bitsAt c.w3 0 17
    let hit (j : Nat) : Bool := a ≤ j && j < a + n
    let blobs := s.key.store.filter (fun e => hit e.1)
    if 1048576 < a + n || 65536 < n then s.cmdBad c 31
    else if blobs.any (fun e => blobPart e.2 ≠ c.part.val) then s.cmdBad c 32
    else
      let s1 := { s with key := { s.key with store := s.key.store.filter (fun (e : Nat × List Byte) => !hit e.1) } }
      let s2 := s1.setSlots (s1.key.slots.filter (fun x => x.role.pinned || x.pos = 0 || !hit (x.pos - 1)))
      s2.cmdOk c [w32 blobs.length])

/-- A group position is unloaded: its key, its counter entry's binding and its index (R190, R200). -/
def State.groupUnload (s : State) (p pos : Nat) : State :=
  ((s.unbind (8193 + 4 * p + pos)).keyForget (.group p pos)).setFld (R.KEY_PAN_CFG p) (kidxFld pos) 0

/-- The grace period of a PAN ends: the old key is unloaded. -/
def State.graceEnd (s : State) (p : Nat) : State :=
  let s1 := (s.groupUnload p (1 - s.groupCur p)).setFld (R.KEY_PAN_CFG p) F.KEY_PAN_CFG_GRACE 0
  { s1 with key := { s1.key with grace := aset 0 p 0 s1.key.grace } }

/-- PAN_KEY_SET (R178, R200). While every unpinned pair is locked the command waits (R175). -/
def execPanKeySet (c : CmdDesc) (s0 : State) : Host.Outcome State Fault Refusal :=
  .next (
    if !s0.cmdTurn c then s0
    else
    let s := s0.cmdTake c
    let p := lpan c
    let next := bitAt c.w1 3
    let idx := bitsAt c.w1 8 8
    let pos := 1 - s.groupCur p
    let clash := if next then idx = s.joinIdx p || idx = s.groupIdx p (1 - pos)
      else idx = s.groupIdx p 0 || idx = s.groupIdx p 1
    if !s.panOn p || !s.panMay c.part.val p then s.cmdBad c 1
    else if idx = 0 || clash then s.cmdBad c 33
    else
      let r : KeyRole := if next then .group p pos else .join p
      let s := s.kekReady (blobPart (s.blob (kpos c)))
      match s.fromStore (s.panOwner p) (kpos c) 0 with
      | .error e => s.cmdDone c stKEY_BAD [] e 0
      | .ok m =>
        match s.keyRoom r with
        | none => s0
        | some s1 =>
          let s2 := (s1.bump R.KEY_CNT_MISS).keyPut r m
          if next then
            let s3 := ((s2.setFld (R.KEY_PAN_CFG p) (kidxFld pos) idx).setFld (R.KEY_PAN_CFG p) F.KEY_PAN_CFG_NEXT_VALID 1).setFld
              (R.KEY_PAN_CFG p) F.KEY_PAN_CFG_GRACE 0
            ({ s3 with key := { s3.key with grace := aset 0 p 0 s3.key.grace } }).cmdOk c []
          else (s2.setFld (R.KEY_PAN_CFG p) F.KEY_PAN_CFG_JOIN_KIDX idx).cmdOk c [])

/-- A roll is carried out (R187, R200): NEXT becomes current, the old key stays for receive during the grace period. -/
def State.rollRun (s : State) (r : Roll) : State :=
  let p := r.pan
  let old := s.groupCur p
  let n := s.finalN (8193 + 4 * p + old)
  let had := s.groupIdx p old ≠ 0
  let s1 := (s.setFld (R.KEY_PAN_CFG p) F.KEY_PAN_CFG_CUR (1 - old)).setFld (R.KEY_PAN_CFG p) F.KEY_PAN_CFG_NEXT_VALID 0
  let s2 :=
    if had && r.grace ≠ 0 then
      let s' := s1.setFld (R.KEY_PAN_CFG p) F.KEY_PAN_CFG_GRACE 1
      { s' with key := { s'.key with grace := aset 0 p (s'.now + sec r.grace) s'.key.grace } }
    else if had then s1.groupUnload p old
    else s1
  s2.cmdOk r.cmd [0, 0, 0, 0, w32 n]

/-- Every accepted roll is carried out, at a preparation point. -/
def State.rollsRun (s : State) : State :=
  s.key.rolls.foldl State.rollRun { s with key := { s.key with rolls := [] } }

/-- GROUP_ROLL: the roll waits for the next preparation point; with no slot engine running it is carried out at once, and a second roll of
a PAN finds no NEXT key of its own (DEDUCED, log entry 35). -/
def execGroupRoll (c : CmdDesc) (s0 : State) : Host.Outcome State Fault Refusal :=
  .next (
    if !s0.cmdTurn c then s0
    else
    let s := s0.cmdTake c
    let p := lpan c
    if !s.panOn p || !s.panMay c.part.val p then s.cmdBad c 1
    else if !s.nextValid p || s.key.rolls.any (fun r => r.pan = p) then s.cmdBad c 34
    else
      let r : Roll := ⟨c, p, bitsAt c.w1 16 16⟩
      if s.running then ({ s with key := { s.key with rolls := s.key.rolls ++ [r] } }).cplKeep c else s.rollRun r)

/-- GROUP_GRACE_EXPIRY. -/
def execGroupGraceExpiry (p : Fin 8) (s : State) : Host.Outcome State Fault Refusal :=
  .next (if s.inGrace p.val then (s.advanceTo (aget 0 p.val s.key.grace)).graceEnd p.val else s)

/-- DERIVE_LOAD (R200): link-key pairs derived from a key it replaces are invalidated. -/
def execDeriveLoad (c : CmdDesc) (s0 : State) : Host.Outcome State Fault Refusal :=
  .next (
    if !s0.cmdTurn c then s0
    else
    let s := s0.cmdTake c
    let d := bitsAt c.w1 0 6
    if (s.keyEntry (.derive d)).any (fun x => x.part ≠ c.part.val) then s.cmdBad c 37
    else
      let s := s.kekReady (blobPart (s.blob (kpos c)))
      match s.fromStore c.part.val (kpos c) 1 with
      | .error e => s.cmdDone c stKEY_BAD [] e 0
      | .ok m =>
        match s.keyRoom (.derive d) with
        | none => s0
        | some s1 =>
          let s2 := s1.setSlots (s1.key.slots.filter (fun x => x.derived ≠ d + 1))
          ((s2.bump R.KEY_CNT_MISS).keyPut (.derive d) m).cmdOk c [])

/-- DERIVE_UNLOAD (R200). -/
def execDeriveUnload (c : CmdDesc) (s0 : State) : Host.Outcome State Fault Refusal :=
  .next (
    if !s0.cmdTurn c then s0
    else
    let s := s0.cmdTake c
    let d := bitsAt c.w1 0 6
    if !(s.keyEntry (.derive d)).any (fun x => x.part = c.part.val) then s.cmdBad c 37
    else (s.keyForget (.derive d)).cmdOk c [])

/-- Every blob of a partition under a new KEK (R181); a blob that the old KEK does not open stays as it is. -/
def State.rewrap (s : State) (p new : Nat) : State :=
  match s.kek p with
  | none => s
  | some old =>
    { s with key := { s.key with store := s.key.store.map (fun (e : Nat × List Byte) =>
        if blobPart e.2 = p then
          match keyUnwrap (keyOctets true old) (bytesNats (e.2.drop 8)) with
          | some x => (e.1, e.2.take 8 ++ natsBytes (keyWrap (keyOctets true new) x))
          | none => e
        else e) } }

/-- A partition gets a KEK: into MRAM under the storage key, into its WRAP slot, and the rewrap starts. -/
def State.kekTake (s : State) (c : CmdDesc) (k : Nat) : State :=
  let p := c.part.val
  let s2 := s.rewrap p k
  let s3 := { s2 with
    vault := { s2.vault with keks := aset [] p (s2.kekWrap k) s2.vault.keks }
    key := { s2.key with rewraps := s2.key.rewraps ++ [c] } }
  (s3.keyPut (.kek p) ⟨k, true, 0, p, 0, 0, 0⟩).cplKeep c

/-- KEK_SET (R181). The cause of its KEY_BAD while `TAMPERED` is 1 is a free value. While every unpinned pair is locked and no slot is free the
command waits (R175). -/
def execKekSet (c : CmdDesc) (dma : Dma) (s0 : State) : Host.Outcome State Fault Refusal :=
  .next (
    if !s0.cmdTurn c then s0
    else
    let s := s0.cmdTake c
    let p := c.part.val
    let blob := bitAt c.w1 0
    let a := addr64 c.w4 c.w5
    if unaligned c.w4 c.w5 then s.cmdBad c 8
    else if s.key.rewraps.any (fun x => x.part = c.part) then s.cmdBad c 36
    else if s.flag R.KEY_STATUS F.KEY_STATUS_TAMPERED then
      let (x, s1) := s.draw 256
      s1.cmdDone c stKEY_BAD [] x 0
    else if !blob && !nbit (s.fld R.KEY_KEKCTL F.KEY_KEKCTL_KEK_PROV) p then s.cmdBad c 38
    else if dma ≠ .ok then s.cmdBad c 20
    else
      match s.keyRoom (.kek p) with
      | none => s0
      | some s1 =>
        if blob then
          let t := s.kekReady p
          match t.blobOpen p (s.memBytes p a 64) with
          | .error e => t.cmdDone c stKEY_BAD [] e 0
          | .ok o => if o.kind ≠ 2 then t.cmdDone c stKEY_BAD [] 4 0 else ((t.keyRoom (.kek p)).getD t).kekTake c o.key
        else (s1.kekReady p).kekTake c (beNat (s.memBytes p a 32)))

/-- KEK_REWRAP_DONE: the KEK_SET of a partition completes, and a plaintext one clears `KEK_PROV`. -/
def execKekRewrapDone (p : Part) (s : State) : Host.Outcome State Fault Refusal :=
  .next (
    match s.key.rewraps.find? (fun x => x.part = p) with
    | none => s
    | some c =>
      let s1 := { s with key := { s.key with rewraps := s.key.rewraps.erase c } }
      let s2 := if bitAt c.w1 0 then s1
        else s1.setFld R.KEY_KEKCTL F.KEY_KEKCTL_KEK_PROV (clrNbit (s1.fld R.KEY_KEKCTL F.KEY_KEKCTL_KEK_PROV) p.val)
      s2.cmdOk c [])

/-- KEY_CTR_RAISE (R191, R200). -/
def execKeyCtrRaise (c : CmdDesc) (s0 : State) : Host.Outcome State Fault Refusal :=
  .next (
    if !s0.cmdTurn c then s0
    else
    let s := s0.cmdTake c
    let e := bitsAt c.w2 0 14
    let x := s.ctr e
    if !x.bound || x.part ≠ c.part.val then s.cmdBad c 35
    else
      let n := max x.n c.w3.toNat
      let s1 := (s.setCtr e { x with n := n }).checkpoint e
      let s2 :=
        if 0xFF000000 ≤ n && !x.warned then
          (s1.setCtr e { s1.ctr e with warned := true }).evtF 14 (2 ^ x.part) (w32 e) (w32 x.keyId) (w32 (s.ctrNode e))
        else s1
      s2.cmdOk c [w32 n])

end Sys2Proof.Machine
end

