-- ==== Sys2Proof/Machine/Iphc.lean ====
section
/-! DEFINITION. IPv6 fields and header compression (R235 to R237), with the octets of RFC 6282 (PRESUMED: the spec names the RFC and does not repeat
its encodings; log entry 39). -/

namespace Sys2Proof.Machine

/-! ### IPv6 fields -/

def ipSrc (dg : List Byte) : Nat := beAt dg 8 16
def ipDst (dg : List Byte) : Nat := beAt dg 24 16
def ipHop (dg : List Byte) : Nat := beAt dg 7 1
def ipNext (dg : List Byte) : Nat := beAt dg 6 1
def ipMulticast (dg : List Byte) : Bool := beAt dg 24 1 == 0xFF
def ipScope (dg : List Byte) : Nat := beAt dg 25 1 % 16

/-- The datagram with another Hop Limit. -/
def ipSetHop (dg : List Byte) (h : Nat) : List Byte := dg.set 7 (BitVec.ofNat 8 h)

/-- An IPv6 header ahead of a payload. -/
def ipHeader (next hop src dst : Nat) (payload : List Byte) : List Byte :=
  [0x60, 0, 0, 0] ++ beBytes 2 payload.length ++ [BitVec.ofNat 8 next, BitVec.ofNat 8 hop] ++ beBytes 16 src ++ beBytes 16 dst ++ payload

/-- An interface identifier from an EUI-64, and back: bit 1 of the first octet inverted. -/
def iidOf (eui : Nat) : Nat := eui ^^^ 2 ^ 57

/-- The interface identifier of a short address. -/
def iidShort (a : Nat) : Nat := 0xFFFE000000 + a % 2 ^ 16

/-- The interface identifier of a link-layer address: a short address, or 2^16 plus an EUI-64. -/
def iidLink (a : Nat) : Nat := if a < 2 ^ 16 then iidShort a else iidOf (a - 2 ^ 16)

/-- The link-local prefix. -/
def linkLocal : Nat := 0xFE80 * 2 ^ 48

/-- A context that may be used: number, prefix and length (R236). -/
structure Ctx where
  num : Nat
  bits : Nat
  len : Nat
deriving DecidableEq, Repr

/-- The 64 prefix bits that a context gives; those beyond its length are 0. -/
def Ctx.prefix64 (c : Ctx) : Nat := c.bits / 2 ^ (64 - c.len) * 2 ^ (64 - c.len)

/-! ### Compression (R237) -/

/-- A form of an address: its compression bit and mode, the context it names, its octets in line. -/
structure AddrForm where
  ac : Nat
  am : Nat
  ctx : Nat
  bytes : List Byte
deriving DecidableEq, Repr

/-- Forms of an interface identifier under a prefix that is not carried: elided where the link gives it, 16 bits, 64 bits. -/
def iidForms (ac ctx link iid : Nat) : List AddrForm :=
  (if iid = link then [⟨ac, 3, ctx, []⟩] else []) ++ (if iid / 2 ^ 16 = 0xFFFE00 then [⟨ac, 2, ctx, beBytes 2 iid⟩] else [])
    ++ [⟨ac, 1, ctx, beBytes 8 iid⟩]

/-- Forms of a unicast address. -/
def uniForms (cs : List Ctx) (link a : Nat) : List AddrForm :=
  (if a / 2 ^ 64 = linkLocal then iidForms 0 0 link (a % 2 ^ 64) else []) ++ [⟨0, 0, 0, beBytes 16 a⟩]
    ++ cs.flatMap (fun c => if c.prefix64 = a / 2 ^ 64 then iidForms 1 c.num link (a % 2 ^ 64) else [])

/-- Forms of a source; the unspecified address takes no octet. -/
def srcForms (cs : List Ctx) (link a : Nat) : List AddrForm := if a = 0 then [⟨1, 0, 0, []⟩] else uniForms cs link a

/-- Forms of a multicast destination: 8, 32, 48 and 128 bits, and a group of a context's prefix (RFC 3306). -/
def mcastForms (cs : List Ctx) (a : Nat) : List AddrForm :=
  let low (n : Nat) : Bool := a % 2 ^ 112 < 2 ^ (8 * n)
  let fs := a / 2 ^ 112 % 256
  (if fs = 2 && low 1 then [⟨0, 3, 0, beBytes 1 a⟩] else []) ++ (if low 3 then [⟨0, 2, 0, beBytes 1 fs ++ beBytes 3 a⟩] else [])
    ++ (if low 5 then [⟨0, 1, 0, beBytes 1 fs ++ beBytes 5 a⟩] else []) ++ [⟨0, 0, 0, beBytes 16 a⟩]
    ++ cs.flatMap (fun c => if a / 2 ^ 96 % 256 = c.len && a / 2 ^ 32 % 2 ^ 64 = c.prefix64
        then [⟨1, 0, c.num, beBytes 2 (a / 2 ^ 104) ++ beBytes 4 a⟩] else [])

def dstForms (cs : List Ctx) (link a : Nat) : List AddrForm := if a / 2 ^ 120 = 0xFF then mcastForms cs a else uniForms cs link a

/-- Octets of a pair of forms, with the context identifiers. -/
def pairCost (e : AddrForm × AddrForm) : Nat :=
  e.1.bytes.length + e.2.bytes.length + (if e.1.ctx = 0 && e.2.ctx = 0 then 0 else 1)

/-- The first of the shortest pairs (DESIGN CHOICE among equally short ones, log entry 39). -/
def bestPair (ss ds : List AddrForm) : AddrForm × AddrForm :=
  (ss.flatMap (fun s => ds.map (fun d => (s, d)))).foldl (fun m e => if pairCost e < pairCost m then e else m)
    (ss.headD ⟨0, 0, 0, []⟩, ds.headD ⟨0, 0, 0, []⟩)

/-- Traffic class and flow label: their code and octets. -/
def flowForm (b : List Byte) : Nat × List Byte :=
  let w := beAt b 0 4
  let tc := w / 2 ^ 20 % 256
  let fl := w % 2 ^ 20
  let ecn := tc % 4
  let dscp := tc / 4
  if tc = 0 && fl = 0 then (3, [])
  else if fl = 0 then (2, beBytes 1 (ecn * 64 + dscp))
  else if dscp = 0 then (1, beBytes 3 (ecn * 2 ^ 22 + fl))
  else (0, beBytes 1 (ecn * 64 + dscp) ++ beBytes 3 fl)

/-- Hop Limit: its code and octets. -/
def hopForm (b : List Byte) : Nat × List Byte :=
  match ipHop b with
  | 1 => (1, [])
  | 64 => (2, [])
  | 255 => (3, [])
  | h => (0, beBytes 1 h)

/-- The NHC of a UDP header: ports, and the checksum in line, always. -/
def udpForm (b : List Byte) : List Byte :=
  let s := beAt b 0 2
  let d := beAt b 2 2
  (if s / 16 = 0xF0B && d / 16 = 0xF0B then 0xF3 :: beBytes 1 (s % 16 * 16 + d % 16)
    else if d / 256 = 0xF0 then 0xF1 :: beBytes 2 s ++ beBytes 1 d
    else if s / 256 = 0xF0 then 0xF2 :: beBytes 1 s ++ beBytes 2 d
    else 0xF0 :: beBytes 4 (beAt b 0 4)) ++ (b.drop 6).take 2

/-- EID of an extension header that the chip adds: Hop-by-Hop, routing. -/
def extEid (next : Nat) : Option Nat := if next = 0 then some 0 else if next = 43 then some 1 else none

/-- The IPHC form of an IPv6 header, and how many octets of it are headers: `sub` is the next-header form of what follows, where there is one, and
`ls` and `ld` are the interface identifiers that the encapsulating header gives. -/
def ip6Form (cs : List Ctx) (ls ld : Nat) (b : List Byte) (sub : Option (List Byte × Nat)) : List Byte × Nat :=
  let (s, d) := bestPair (srcForms cs ls (ipSrc b)) (dstForms cs ld (ipDst b))
  let (tf, flow) := flowForm b
  let (hl, hop) := hopForm b
  let m := if ipMulticast b then 1 else 0
  let cid := if s.ctx = 0 && d.ctx = 0 then 0 else 1
  let nh := if sub.isSome then 1 else 0
  let base := 0x6000 + tf * 2 ^ 11 + nh * 2 ^ 10 + hl * 2 ^ 8 + cid * 2 ^ 7 + s.ac * 2 ^ 6 + s.am * 2 ^ 4 + m * 2 ^ 3 + d.ac * 2 ^ 2 + d.am
  let hdr := beBytes 2 base ++ (if cid = 1 then beBytes 1 (s.ctx * 16 + d.ctx) else []) ++ flow
    ++ (if nh = 1 then [] else beBytes 1 (ipNext b)) ++ hop ++ s.bytes ++ d.bytes
  (hdr ++ (sub.map (fun e => e.1)).getD (b.drop 40), hdr.length + (sub.map (fun e => e.2)).getD 0)

/-- The next-header form of a header of type `next` at the front of the octets, with the octets of it that are headers; `none` where it is left as it
is. At most `n` headers are compressed; `own`: the chip has added the extension headers and the tunnel (R237). -/
def nhcForm (cs : List Ctx) : Nat → Bool → Nat → Nat → Nat → List Byte → Option (List Byte × Nat)
  | 0, _, _, _, _, _ => none
  | n + 1, own, next, ls, ld, b =>
    if next = 17 then
      if b.length < 8 || beAt b 4 2 ≠ b.length then none else some (udpForm b ++ b.drop 8, (udpForm b).length)
    else if !own then none
    else if next = 41 then
      let (x, k) := ip6Form cs ls ld b (nhcForm cs n false (ipNext b) (ipSrc b % 2 ^ 64) (ipDst b % 2 ^ 64) (b.drop 40))
      some (0xEE :: x, k + 1)
    else
      (extEid next).map (fun eid =>
        let len := (beAt b 1 1 + 1) * 8
        let sub := nhcForm cs n own (beAt b 0 1) ls ld (b.drop len)
        let hdr := beBytes 1 (0xE0 + eid * 2 + (if sub.isSome then 1 else 0)) ++ (if sub.isSome then [] else beBytes 1 (beAt b 0 1))
          ++ beBytes 1 (len - 2) ++ (b.drop 2).take (len - 2)
        (hdr ++ (sub.map (fun e => e.1)).getD (b.drop len), hdr.length + (sub.map (fun e => e.2)).getD 0))

/-- The IPHC form of a datagram that the chip sends, and its header octets, with at most `n` headers compressed after the first. The link addresses
are a short address, or 2^16 plus an EUI-64. -/
def iphcForm (cs : List Ctx) (n : Nat) (own : Bool) (src dst : Nat) (dg : List Byte) : List Byte × Nat :=
  ip6Form cs (iidLink src) (iidLink dst) dg (nhcForm cs n own (ipNext dg) (ipSrc dg % 2 ^ 64) (ipDst dg % 2 ^ 64) (dg.drop 40))

/-! ### Decompression (R235, R236) -/

/-- A unicast address; `none` for a context that may not be used, and for a reserved form. -/
def openUni (cs : List Ctx) (ac am ctx link : Nat) (b : List Byte) : Option Nat :=
  let iid := if am = 3 then link else if am = 2 then iidShort (beNat b) else beNat b
  if ac = 0 then (if am = 0 then some (beNat b) else some (linkLocal * 2 ^ 64 + iid))
  else if am = 0 then none
  else (cs.find? (fun c => c.num = ctx)).map (fun c => c.prefix64 * 2 ^ 64 + iid)

def openSrc (cs : List Ctx) (ac am ctx link : Nat) (b : List Byte) : Option Nat :=
  if ac = 1 && am = 0 then some 0 else openUni cs ac am ctx link b

def openMcast (cs : List Ctx) (ac am ctx : Nat) (b : List Byte) : Option Nat :=
  if ac = 1 then
    if am ≠ 0 then none
    else (cs.find? (fun c => c.num = ctx)).map (fun c =>
      0xFF * 2 ^ 120 + beAt b 0 2 * 2 ^ 104 + c.len * 2 ^ 96 + c.prefix64 * 2 ^ 32 + beAt b 2 4)
  else if am = 0 then some (beNat b)
  else if am = 3 then some (0xFF02 * 2 ^ 112 + beNat b)
  else some (0xFF * 2 ^ 120 + beAt b 0 1 * 2 ^ 112 + beNat (b.drop 1))

/-- Octets in line of an address. -/
def uniLen (ac am : Nat) : Nat := [if ac = 1 then 0 else 16, 8, 2, 0].getD am 0
def mcastLen (ac am : Nat) : Nat := if ac = 1 then 6 else [16, 6, 4, 1].getD am 0

/-- The first four octets of an IPv6 header. -/
def openFlow (tf : Nat) (b : List Byte) : List Byte :=
  let tc (x : Nat) : Nat := x % 64 * 4 + x / 64
  beBytes 4 (6 * 2 ^ 28 + (match tf with
    | 0 => tc (beAt b 0 1) * 2 ^ 20 + beAt b 1 3 % 2 ^ 20
    | 1 => beAt b 0 1 / 64 * 2 ^ 20 + beAt b 0 3 % 2 ^ 20
    | 2 => tc (beAt b 0 1) * 2 ^ 20
    | _ => 0))

/-- Octets that follow a header of `hdr` octets in the datagram: those that have come, or what the datagram's size leaves. -/
def openLen (left : Option Nat) (hdr : Nat) (body : List Byte) : Option Nat :=
  match left with
  | none => some body.length
  | some l => if l < hdr + body.length then none else some (l - hdr)

/-- Padding of an options header (RFC 6282: Pad1 or PadN). -/
def padOpt : Nat → List Byte
  | 0 => []
  | 1 => [0]
  | n + 2 => [1, BitVec.ofNat 8 n] ++ List.replicate n 0

/-- The header at the front of the octets, an IPHC form (`ip`) or a next-header form, with its number and the octets it stands for with what
follows; `none` for a decompression error. `left`: the datagram's octets from here on, when a fragment header gives its size. A UDP header without
its checksum is an error (R236). -/
def hcOpen (cs : List Ctx) : Nat → Bool → Option Nat → Nat → Nat → List Byte → Option (Nat × List Byte)
  | 0, _, _, _, _, _ => none
  | n + 1, true, left, ls, ld, b =>
    let base := beAt b 0 2
    let at_ (lo w : Nat) : Nat := base / 2 ^ lo % 2 ^ w
    let cid := at_ 7 1
    let sci := if cid = 1 then beAt b 2 1 / 16 else 0
    let dci := if cid = 1 then beAt b 2 1 % 16 else 0
    let o1 := 2 + cid
    let o2 := o1 + [4, 3, 1, 0].getD (at_ 11 2) 0
    let o3 := o2 + (1 - at_ 10 1)
    let o4 := o3 + (if at_ 8 2 = 0 then 1 else 0)
    let o5 := o4 + uniLen (at_ 6 1) (at_ 4 2)
    let dl := if at_ 3 1 = 1 then mcastLen (at_ 2 1) (at_ 0 2) else uniLen (at_ 2 1) (at_ 0 2)
    let rest := b.drop (o5 + dl)
    let hop := [beAt b o3 1, 1, 64, 255].getD (at_ 8 2) 0
    if base / 2 ^ 13 ≠ 3 || b.length < o5 + dl then none
    else
      (openSrc cs (at_ 6 1) (at_ 4 2) sci ls ((b.drop o4).take (o5 - o4))).bind (fun src =>
        (if at_ 3 1 = 1 then openMcast cs (at_ 2 1) (at_ 0 2) dci ((b.drop o5).take dl)
          else openUni cs (at_ 2 1) (at_ 0 2) dci ld ((b.drop o5).take dl)).bind (fun dst =>
          (if at_ 10 1 = 1 then hcOpen cs n false (left.map (· - 40)) (src % 2 ^ 64) (dst % 2 ^ 64) rest
            else some (beAt b o2 1, rest)).bind (fun e =>
            (openLen left 40 e.2).map (fun len =>
              (41, openFlow (at_ 11 2) (b.drop o1) ++ beBytes 2 len ++ beBytes 1 e.1 ++ beBytes 1 hop ++ beBytes 16 src ++ beBytes 16 dst ++ e.2)))))
  | n + 1, false, left, ls, ld, b =>
    let h := beAt b 0 1
    if h / 8 = 30 then
      let p := h % 4
      let o := 1 + [4, 3, 3, 1].getD p 0
      let src := [beAt b 1 2, beAt b 1 2, 0xF000 + beAt b 1 1, 0xF0B0 + beAt b 1 1 / 16].getD p 0
      let dst := [beAt b 3 2, 0xF000 + beAt b 3 1, beAt b 2 2, 0xF0B0 + beAt b 1 1 % 16].getD p 0
      if nbit h 2 || b.length < o + 2 then none
      else
        (openLen left 8 (b.drop (o + 2))).map (fun len =>
          (17, beBytes 2 src ++ beBytes 2 dst ++ beBytes 2 (len + 8) ++ (b.drop o).take 2 ++ b.drop (o + 2)))
    else if h / 16 ≠ 14 then none
    else if h / 2 % 8 = 7 then hcOpen cs n true left ls ld (b.drop 1)
    else
      let o := 1 + (1 - h % 2)
      let size := beAt b o 1
      let rest := b.drop (o + 1 + size)
      let total := (size + 2 + 7) / 8 * 8
      let pad := total - (size + 2)
      match [some 0, some 43, some 44, some 60, some 135].getD (h / 2 % 8) none with
      | none => none
      | some num =>
        if b.length < o + 1 + size || (pad ≠ 0 && num ≠ 0 && num ≠ 60) || left.any (fun l => l < total) then none
        else
          (if h % 2 = 1 then hcOpen cs n false (left.map (· - total)) ls ld rest else some (beAt b 1 1, rest)).bind (fun e =>
            if left.any (fun l => l < total + e.2.length) then none
            else
              let second := if num = 44 then 0 else total / 8 - 1
              some (num, beBytes 1 e.1 ++ beBytes 1 second ++ (b.drop (o + 1)).take size ++ padOpt pad ++ e.2))

/-- The IPv6 octets of an IPHC form; `left`: the datagram's size in a first fragment. -/
def iphcOpen (cs : List Ctx) (src dst : Nat) (left : Option Nat) (b : List Byte) : Option (List Byte) :=
  (hcOpen cs 16 true left (iidLink src) (iidLink dst) b).map (fun e => e.2)

end Sys2Proof.Machine
end

