-- ==== Sys2Proof/Machine/Mesh.lean ====
section
/-! DEFINITION. Datagrams on their way through the forwarding pipelines: IPv6 fields, compression contexts, source routes, tunnelling,
fragmentation, twin paths, and how a datagram ends or joins a queue (R30, R235 to R237, R239, R242 to R244, R250 to R252, R254). -/

namespace Sys2Proof.Machine

/-! ### Datagrams -/

/-- A datagram whose cells have been taken: its octets, its chain of cells, where it came from and what it carries. -/
structure Pkt where
  dg : List Byte
  chain : List Nat
  ingress : Nat
  origin : Origin
  yellow : Bool
  cls : Nat
  prio : Nat
  up : List Word
  tsReq : Bool
  tsId : Nat
deriving DecidableEq, Repr

/-- A partition posted it. -/
def Pkt.fromHost (x : Pkt) : Bool :=
  match x.origin with
  | .host _ => true
  | _ => false

/-- The chip's engines posted it: a Caravan or an image session, or a flood's own copy. -/
def Pkt.fromEngine (x : Pkt) : Bool :=
  match x.origin with
  | .caravan _ _ => true
  | .cvnFlood _ => true
  | .image _ => true
  | .flood _ => true
  | _ => false

/-- It may take the free count below the floor (R278). -/
def Pkt.exempt (x : Pkt) : Bool :=
  x.cls == 0 &&
    (match x.origin with
    | .host _ => true
    | .caravan _ _ => true
    | .cvnFlood _ => true
    | _ => false)

/-- The datagram ends before any queue: its cells are free and its sender hears. -/
def State.pktEnd (s : State) (x : Pkt) (status cause detail : Nat) : State :=
  (s.freeChain x.chain).originEnd x.origin status 0 0 63 false cause detail

/-- The datagram fails: one that no partition posted is counted. -/
def State.pktFail (s : State) (x : Pkt) (status cause cnt : Nat) : State :=
  (if x.fromHost then s else s.bump cnt).pktEnd x status cause 0

/-- The datagram is dropped where the spec gives a partition's frame no status: free values (log entry 11). -/
def State.pktFree (s : State) (x : Pkt) : State :=
  let (st, s1) := s.draw 16
  let (c, s2) := s1.draw 256
  let (d, s3) := s2.draw 256
  s3.pktEnd x st c d

/-- A frame of a datagram. -/
def Pkt.frame (x : Pkt) (id : Nat) (bytes : List Byte) : Frame :=
  { id := id
    bytes := bytes
    chain := x.chain.map some
    ingress := x.ingress
    origin := x.origin
    yellow := x.yellow
    cls := x.cls
    prio := x.prio
    up := x.up
    tsReq := x.tsReq
    tsId := x.tsId }

/-- FRAME_UP words 0x04 to 0x1C with the length put in (R320). -/
def upLength (up : List Word) (n : Nat) : List Word := up.set 1 ((wordAt up 1 &&& 0xFFFFF) ||| w32 (n % 4096 * 2 ^ 20))

/-- The datagram joins the queue of a host ring or an Ethernet port. -/
def State.pktQueue (s : State) (x : Pkt) (q : Nat) : State :=
  let (i, s1) := s.newId
  (s1.offer q { x.frame i x.dg with up := upLength x.up x.dg.length }).1

/-! ### Compression contexts (R236, R254) -/

/-- Word `w` of a context: prefix high and low, configuration. -/
def ctxKey (p c w : Nat) : Nat := (p * 16 + c) * 4 + w
def State.ctxWord (s : State) (p c w : Nat) : Word := aget 0 (ctxKey p c w) s.mesh.ctx
def State.ctxPrefix (s : State) (p c : Nat) : Nat := (s.ctxWord p c 0).toNat * 2 ^ 32 + (s.ctxWord p c 1).toNat
def State.ctxLen (s : State) (p c : Nat) : Nat := bitsAt (s.ctxWord p c 2) 0 7
def State.ctxValid (s : State) (p c : Nat) : Bool := bitAt (s.ctxWord p c 2) 7
def State.ctxCompress (s : State) (p c : Nat) : Bool := bitAt (s.ctxWord p c 2) 8

/-- The contexts that may be used. -/
def State.contexts (s : State) (p : Nat) (tx : Bool) : List Ctx :=
  ((List.range 16).filter (fun c => s.ctxValid p c && (!tx || s.ctxCompress p c))).map (fun c => ⟨c, s.ctxPrefix p c, s.ctxLen p c⟩)

/-- The chip's own address in a PAN. -/
def State.chipAddr (s : State) (p : Nat) : Nat := s.ctxPrefix p 0 * 2 ^ 64 + iidOf Config.linkEui.toNat

/-- A node's address in its PAN, from its EUI-64 (R264). -/
def State.nodeAddr (s : State) (o : Nat) : Nat := s.ctxPrefix (s.node o).pan 0 * 2 ^ 64 + iidOf (s.node o).eui

/-- Context 0 is valid with a length of 64 bits. -/
def State.ctx0Ok (s : State) (p : Nat) : Bool := s.ctxValid p 0 && s.ctxLen p 0 == 64

/-- The node an interface identifier names in a PAN (R208). -/
def State.iidFind (s : State) (p iid : Nat) : Option Nat :=
  if iid / 2 ^ 16 = 0xFFFE00 then (s.dir.b.find (idxKeyB p iid)).map (fun e => e.2.ord)
  else (s.dir.a.find (idxKeyA p (iidOf iid))).map (fun e => e.2.ord)

/-- The destination lookup of a frame (R208, R209). -/
def State.iidLook (s : State) (p iid : Nat) : Option Nat × State :=
  if iid / 2 ^ 16 = 0xFFFE00 then s.idxLook true (idxKeyB p iid) else s.idxLook false (idxKeyA p (iidOf iid))

/-- A write of `MESH_CTX_CFG` stores the staged prefix with it, or refuses (R236, R254). A write that leaves context 0 valid with another
length than 64 counts as making it invalid (DEDUCED, log entry 40). -/
def State.ctxWrite (s : State) (part : Nat) (data : Word) : State :=
  let c := s.fld R.MESH_CTX_ADDR F.MESH_CTX_ADDR_CTX
  let p := s.fld R.MESH_CTX_ADDR F.MESH_CTX_ADDR_PAN
  let d := data &&& 0x1FF
  let need := s.flag (R.MESH_PAN_CFG p) F.MESH_PAN_CFG_TWIN_EN || s.flag (R.MESH_PAN_CFG p) F.MESH_PAN_CFG_MPL_FWD
  if !s.panMay part p then s.err R.MESH_ERR F.MESH_ERR_PART_WRITE
  else if 64 < bitsAt d 0 7 || (c = 0 && need && !(bitAt d 7 && bitsAt d 0 7 = 64)) then s.err R.MESH_ERR F.MESH_ERR_CTX_INVALID
  else
    { s with mesh := { s.mesh with
        ctx := aset 0 (ctxKey p c 2) d (aset 0 (ctxKey p c 1) (s.rd R.MESH_CTX_LO) (aset 0 (ctxKey p c 0) (s.rd R.MESH_CTX_HI) s.mesh.ctx)) } }

def execContextWrite (p : Part) (data : Word) (s : State) : Host.Outcome State Fault Refusal := .next (s.ctxWrite p.val data)

/-! ### Source routes (R242, R243) -/

/-- What a candidate route is: its records from the destination on, or how it fails. -/
inductive Route where
  | path (l : List Nat)
  | deep
  | bad
deriving DecidableEq, Repr

/-- A pointer held by a record may be used. -/
def State.ptrUsable (s : State) (r : NodeRec) (v : Bool) : Bool := v && (r.pathExpireS == 0xFFFFFFFF || s.citySec < r.pathExpireS)

/-- A record can be a first hop. -/
def State.firstHopOk (s : State) (r : NodeRec) : Bool := r.hasNbr && (s.nbr r.nbr).valid && (s.nbr r.nbr).state != 3

/-- Candidate `k` from record `r` on, the `i`-th of the path. -/
def State.walk (s : State) (k : Nat) : Nat → Nat → List Nat → Nat → Route
  | 0, _, _, _ => .bad
  | n + 1, i, path, o =>
    let r := s.node o
    let p := if i = k then r.altParent else r.parent
    if !r.reach || !s.ptrUsable r (if i = k then r.altV else r.parentV) then .bad
    else if p = o then (if s.firstHopOk r then .path path else .bad)
    else if path.contains p then .bad
    else if path.length = 16 then .deep
    else State.walk s k n (i + 1) (path ++ [p]) p

/-- The 17 candidates for a destination. -/
def State.candidates (s : State) (d : Nat) : List (Nat × Route) := (List.range 17).map (fun k => (k, s.walk k 17 1 [d] d))

/-- The valid candidates, in order. -/
def State.routes (s : State) (d : Nat) : List (Nat × List Nat) :=
  (s.candidates d).filterMap (fun e =>
    match e.2 with
    | .path l => some (e.1, l)
    | _ => none)

/-- No candidate failed otherwise than by its depth (R243). -/
def State.tooDeep (s : State) (d : Nat) : Bool := (s.candidates d).all (fun e => e.2 = .deep)

/-- First hop of a route. -/
def routeHop (l : List Nat) : Nat := l.getLast?.getD 0

/-! ### Tunnel and source routing header (R244) -/

/-- Octets that two addresses share from the front, at most 15. -/
def sharedOctets (a b : Nat) : Nat :=
  ((List.range 16).filter (fun n => 1 ≤ n && a / 2 ^ (128 - 8 * n) = b / 2 ^ (128 - 8 * n))).foldl max 0

/-- The low `16 - n` octets of an address. -/
def addrTail (n a : Nat) : List Byte := beBytes (16 - n) a

/-- The RFC 6554 header for the addresses after the first hop; `ci0` is CmprI where the header has one address and nothing fixes it. -/
def srhOf (hop : Nat) (rest : List Nat) (ci0 : Nat) : List Byte :=
  let last := rest.getLast?.getD 0
  let mid := rest.dropLast
  let ce := sharedOctets hop last
  let ci := if mid.isEmpty then ci0 else (mid.map (sharedOctets hop)).foldl min 15
  let body := mid.flatMap (addrTail ci) ++ addrTail ce last
  let pad := (8 - body.length % 8) % 8
  [41, BitVec.ofNat 8 ((body.length + pad) / 8), 3, BitVec.ofNat 8 rest.length, BitVec.ofNat 8 (ci * 16 + ce), BitVec.ofNat 8 (pad * 16), 0, 0]
    ++ body ++ List.replicate pad 0

/-- Addresses along a route, first hop first; the last is the datagram's own destination (DEDUCED, log entry 41). -/
def State.routeAddrs (s : State) (dg : List Byte) (l : List Nat) : List Nat :=
  (l.reverse.dropLast.map s.nodeAddr) ++ [ipDst dg]

/-- The datagram in its tunnel, for a route; its own Hop Limit is one less. -/
def State.tunnel (s : State) (p : Nat) (dg : List Byte) (l : List Nat) (ci0 : Nat) : List Byte :=
  let inner := ipSetHop dg (ipHop dg - 1)
  match s.routeAddrs dg l with
  | [] => inner
  | [a] => ipHeader 41 64 (s.chipAddr p) a inner
  | a :: rest => ipHeader 43 64 (s.chipAddr p) a (srhOf a rest ci0 ++ inner)

/-! ### Frames of a datagram (R237) -/

/-- Octets of a data frame at a security level beside its payload: frame control, DSN, destination PAN ID, addresses, auxiliary security
header, MIC and FCS (PRESUMED addressing: source 0x0000; log entry 42). `nbr` is none for a broadcast. -/
def State.macOverAt (s : State) (p : Nat) (nbr : Option Nat) (lvl : Nat) : Nat :=
  let dst := match nbr with
    | some n => if (s.nbr n).short = 0xFFFE then 8 else 2
    | none => 2
  let fam := match nbr with
    | some n => s.family (s.nbr n).profile
    | none => s.fld (R.PAN_PHY p) F.PAN_PHY_FAMILY
  let sec := if lvl ≠ 0 then (if nbr.isSome then 5 else 6) + micLen lvl else 0
  7 + dst + sec + (if fam = 3 then 2 else 4)

/-- Level of the data frames of a PAN (R169). -/
def State.txLevel (s : State) (p : Nat) : Nat := if s.panSecured p then s.fld (R.KEY_PAN_CFG p) F.KEY_PAN_CFG_TX_LEVEL else 0

def State.macOver (s : State) (p : Nat) (nbr : Option Nat) : Nat := s.macOverAt p nbr (s.txLevel p)

/-- `MAX_FRAME` as it acts. -/
def State.maxFrame (s : State) (p : Nat) : Nat := max 127 (s.fld (R.MESH_PAN_CFG p) F.MESH_PAN_CFG_MAX_FRAME)

/-- Payload octets that fit one frame. -/
def State.payloadMax (s : State) (p : Nat) (nbr : Option Nat) : Nat := s.maxFrame p - s.macOver p nbr

/-- The compressed form of a datagram for a receiver, with at most `n` headers compressed after the first, and its header octets; `own`: the chip has
added the extension headers (R237). -/
def State.compressAt (s : State) (p : Nat) (nbr : Option Nat) (own : Bool) (n : Nat) (dg : List Byte) : List Byte × Nat :=
  let dst := match nbr with
    | some i => if (s.nbr i).short = 0xFFFE then 2 ^ 16 + (s.node (s.nbr i).node).eui else (s.nbr i).short
    | none => 0xFFFF
  iphcForm (s.contexts p true) n own 0 dst dg

/-- The shortest compressed form of a datagram. -/
def State.compress (s : State) (p : Nat) (nbr : Option Nat) (own : Bool) (dg : List Byte) : List Byte := (s.compressAt p nbr own 8 dg).1

/-- The further fragments from an offset on. -/
def fragRest (size tag m : Nat) : Nat → Nat → List Byte → List (List Byte)
  | 0, _, _ => []
  | n + 1, off, bs =>
    let head := beBytes 2 (0xE000 + size % 2048) ++ beBytes 2 tag ++ beBytes 1 (off / 8)
    if bs.length ≤ m then [head ++ bs] else (head ++ bs.take m) :: fragRest size tag m n (off + m) (bs.drop m)

/-- Octets of the compressed form in the first fragment: with the octets that compression has saved, a multiple of 8. -/
def firstShare (lim : Nat) (comp dg : List Byte) : Nat :=
  let saved := dg.length - comp.length
  (lim - 4 + saved) / 8 * 8 - saved

/-- The fragments of a datagram whose compressed form is given (RFC 4944); a fragment's share of the datagram is a multiple of 8 octets, the last
one's excepted. -/
def fragments (lim tag : Nat) (comp dg : List Byte) : List (List Byte) :=
  let k := firstShare lim comp dg
  let cover := k + (dg.length - comp.length)
  (beBytes 2 (0xC000 + dg.length % 2048) ++ beBytes 2 tag ++ comp.take k)
    :: fragRest dg.length tag ((lim - 5) / 8 * 8) 2048 cover (dg.drop cover)

/-- The frames' payloads of a datagram: one, or fragments. Of a fragmented datagram as many headers are compressed as fit the first fragment, which has
to hold every compressed header (RFC 6282; PRESUMED, log entry 39). -/
def State.partsOf (s : State) (p : Nat) (nbr : Option Nat) (own : Bool) (tag : Nat) (dg : List Byte) : List (List Byte) :=
  let lim := s.payloadMax p nbr
  let whole := s.compress p nbr own dg
  if whole.length ≤ lim then [whole]
  else
    let fits (n : Nat) : Bool :=
      let (c, h) := s.compressAt p nbr own n dg
      decide (h ≤ firstShare lim c dg)
    let n := ((List.range 9).reverse.find? fits).getD 0
    fragments lim tag (s.compressAt p nbr own n dg).1 dg

/-- The next datagram tag of a PAN. -/
def State.fragTag (s : State) (p : Nat) : Nat := aget 0 p s.mesh.fragTag

/-- One copy of a datagram: its queue, neighbour and payloads. -/
structure RadioCopy where
  queue : Nat
  nbr : Option Nat
  ord : Nat
  parts : List (List Byte)
deriving DecidableEq, Repr

/-- A copy of a datagram to a neighbour or, with none, as a broadcast; a fragmented one takes the PAN's next tag. -/
def State.radioCopy (s : State) (p cls ord : Nat) (nbr : Option Nat) (own : Bool) (dg : List Byte) : RadioCopy × State :=
  let parts := s.partsOf p nbr own (s.fragTag p) dg
  let s1 := if parts.length ≤ 1 then s
    else { s with mesh := { s.mesh with fragTag := aset 0 p ((s.fragTag p + 1) % 65536) s.mesh.fragTag } }
  (⟨match nbr with
    | some n => qNbr n cls
    | none => qBcast p cls, nbr, ord, parts⟩, s1)

/-- The frames of copies, each with its queue. -/
def Pkt.frames (x : Pkt) (pan : Nat) (cs : List RadioCopy) : List (Nat × Frame) :=
  cs.flatMap (fun c => c.parts.map (fun b =>
    (c.queue, { x.frame 0 b with chain := [], pan := pan, ord := c.ord, nbr := c.nbr })))

/-- Each of a list of frames takes cells of its own. -/
def State.takeEach (s : State) : List (Nat × Frame) → List (Nat × Frame) × State
  | [] => ([], s)
  | (q, f) :: r =>
    let (cs, s1) := s.takeChain (frameCells f.len)
    let (r1, s2) := State.takeEach s1 r
    ((q, { f with chain := cs.map some }) :: r1, s2)

/-- The first frame of a datagram keeps the datagram's chain (R278), the others take their own. -/
def State.takeRest (s : State) (chain : List Nat) : List (Nat × Frame) → List (Nat × Frame) × State
  | [] => ([], s)
  | (q, f) :: r =>
    let (r1, s1) := s.takeEach r
    ((q, { f with chain := chain.map some }) :: r1, s1)

/-- Every queue of the copies has room for its frames. -/
def State.roomFor (s : State) (fs : List (Nat × Frame)) (yellow : Bool) : Bool :=
  fs.all (fun e => (s.queueRefuses e.1 ((fs.filter (fun g => g.1 = e.1)).map (fun g => g.2.cells)).sum yellow).isNone)

/-- The key a queued radio frame will need is requested ahead (R186). -/
def State.prefetch (s : State) (f : Frame) : State :=
  match s.frameRole f with
  | some r => s.keyRequest 2 r
  | none => s

/-- A frame is offered, unless the datagram it belongs to has ended. -/
def State.offerPart (s : State) (e : Nat × Frame) : State :=
  let f := e.2
  match f.gram with
  | some g =>
    if s.qmg.grams.any (fun x => x.1 = g) then
      let (i, s1) := s.newId
      let (s2, ok) := s1.offer e.1 { f with id := i }
      if ok then s2.prefetch f else s2
    else s.release f
  | none =>
    let (i, s1) := s.newId
    let (s2, ok) := s1.offer e.1 { f with id := i }
    if ok then s2.prefetch f else s2

/-- The frames of a datagram enter their queues (R237, R251, R278, R282); `none` while an engine has to keep it. Further frames that
find no cell end the datagram as at ingress (DEDUCED, log entry 43). -/
def State.radioSend (s : State) (x : Pkt) (pan : Nat) (twin : Bool) (cs : List RadioCopy) : Option State :=
  let parts := x.frames pan cs
  let extra := ((parts.drop 1).map (fun e => frameCells e.2.len)).sum
  let (fs, s1) := s.takeRest x.chain parts
  if extra ≠ 0 && !s.cellsOk extra x.exempt then
    if x.fromEngine then none
    else if x.fromHost then some ((s.bump R.QMG_CNT_HOSTFLOOR).pktEnd x stINSERT_FULL 7 2)
    else some (s.pktEnd x stINSERT_FULL 7 2)
  else if x.fromEngine && !s.roomFor fs x.yellow then none
  else if fs.length ≤ 1 then some (fs.foldl State.offerPart s1)
  else
    let g := s1.qmg.nextGram
    let s2 := { s1 with qmg := { s1.qmg with
      grams := aput g ⟨x.origin, twin, fs.length, false⟩ s1.qmg.grams
      nextGram := g + 1 } }
    some (fs.foldl (fun s e => s.offerPart (e.1, { e.2 with gram := some g })) s2)

/-! ### Unicast into a mesh (R239, R242 to R244, R250, R251) -/

/-- The twin-path header (R250). -/
def State.twinHeader (s : State) (path seq : Nat) : List Byte :=
  [BitVec.ofNat 8 (s.fld R.MESH_TWIN_CFG F.MESH_TWIN_CFG_DISPATCH), BitVec.ofNat 8 (path * 32)] ++ beBytes 2 seq

/-- The first valid route with another first hop than a route's, after it. -/
def secondRoute (j : Nat) (l : List Nat) (rs : List (Nat × List Nat)) : Option (Nat × List Nat) :=
  rs.find? (fun r => j < r.1 && routeHop r.2 ≠ routeHop l)

/-- A datagram goes on one route. An engine's datagram is never fragmented (R261): one that its route makes too long for a frame fails
(DEDUCED, log entry 46). -/
def State.sendOn (s : State) (x : Pkt) (p d : Nat) (l : List Nat) (ci0 : Nat) : Option State :=
  let (c, s1) := s.radioCopy p x.cls d (some (s.node (routeHop l)).nbr) true (s.tunnel p x.dg l ci0)
  if x.fromEngine && 1 < c.parts.length then some (s.pktEnd x stBAD_PARAM 14 0) else s1.radioSend x p false [c]

/-- A datagram goes on two routes, each copy in one frame behind its header. -/
def State.sendTwin (s : State) (x : Pkt) (p d : Nat) (l1 l2 : List Nat) (ci0 : Nat) : Option State :=
  let seq := s.fld (R.MESH_PAN_TWSEQ p) F.MESH_PAN_TWSEQ_TWSEQ
  let copy (path : Nat) (l : List Nat) : RadioCopy :=
    let n := (s.node (routeHop l)).nbr
    ⟨qNbr n x.cls, some n, d, [s.twinHeader path seq ++ s.compress p (some n) true (s.tunnel p x.dg l ci0)]⟩
  (s.setFld (R.MESH_PAN_TWSEQ p) F.MESH_PAN_TWSEQ_TWSEQ ((seq + 1) % 65536)).radioSend x p true [copy 0 l1, copy 1 l2]

/-- The compressed form of a datagram on a route fits one frame (R251, by R237's limit, which does not count the twin-path header), and the PHY carries
the frame with the header. -/
def State.twinFits (s : State) (x : Pkt) (p : Nat) (l : List Nat) (ci0 : Nat) : Bool :=
  let n := (s.node (routeHop l)).nbr
  let k := (s.compress p (some n) true (s.tunnel p x.dg l ci0)).length
  k ≤ s.payloadMax p (some n) && k + 4 + s.macOver p (some n) ≤ 2047

/-- A unicast datagram for the mesh of a PAN; `none` while an engine has to keep it. -/
def State.meshSend (s : State) (x : Pkt) (p : Nat) : Option State :=
  if !s.panOn p then some (s.pktFail x stNO_ROUTE 0 R.MESH_CNT_NOROUTE)
  else if 1280 < x.dg.length then some (s.pktFail x stBAD_PARAM 23 R.MESH_CNT_TOOBIG)
  else if ipHop x.dg ≤ 1 then some ((s.bump R.MESH_CNT_HOPLIMIT).pktFree x)
  else
    match s.iidLook p (ipDst x.dg % 2 ^ 64) with
    | (none, s0) => some (s0.pktFail x stNO_ROUTE 0 R.MESH_CNT_NODEMISS)
    | (some d, s) =>
      match s.routes d with
      | [] =>
        if s.tooDeep d then some (s.pktFail x stROUTE_TOO_DEEP 0 R.MESH_CNT_TOODEEP)
        else some (s.pktFail x stNO_ROUTE 0 R.MESH_CNT_NOROUTE)
      | (j, l) :: rs =>
        let (ci0, s0) := s.draw 16
        let s1 := s0.setNode d { s0.node d with depth := l.length }
        let s2 := if j = 0 then s1 else s1.bump R.MESH_CNT_ALTUSED
        if x.cls ≠ 0 || !s.flag (R.MESH_PAN_CFG p) F.MESH_PAN_CFG_TWIN_EN then s2.sendOn x p d l ci0
        else if !s2.twinFits x p l ci0 then (s2.bump R.MESH_CNT_TWINNOFIT).sendOn x p d l ci0
        else
          match secondRoute j l rs with
          | none => (s2.bump R.MESH_CNT_TWINSINGLE).sendOn x p d l ci0
          | some (_, l2) =>
            if s2.twinFits x p l2 ci0 then (s2.bump R.MESH_CNT_ALTUSED).sendTwin x p d l l2 ci0
            else (s2.bump R.MESH_CNT_TWINNOFIT).sendOn x p d l ci0

end Sys2Proof.Machine
end

