-- ==== Sys2Proof/Machine/Pipe.lean ====
section
/-! DEFINITION. The checked forwarding pipelines (R369): what a comparator fault does while a frame is executed. -/

namespace Sys2Proof.Machine

/-- Pairs in service of a `PIPE_OK` mask. -/
def pipesLeft (ok : Nat) : Nat := ((List.range 4).filter (nbit ok)).length

/-- PIPE_FAIL: the count, the event and the record of a pair out of service (R369, R424). -/
def State.pipeReport (s : State) (pair again left : Nat) : State :=
  ((s.bump R.SAFE_CNT_PIPEFAIL).evtF 2 0 (w32 pair) (w32 again) (w32 left)).ledger 0x0021 pair (w32 again) (w32 left) 0

/-- A comparator fault of a pair (R369): it is out of service until the next F-die reset; the frame is executed again on the remaining
pairs, or the chip enters Quiet with cause 2 when none is left. One frame at most is uncommitted at a time: `frames` is 1, or 0 after a failed
test (log entry 70). -/
def State.pipeFail (s : State) (pair frames : Nat) : State :=
  let ok := s.fld R.SAFE_HEALTH F.SAFE_HEALTH_PIPE_OK
  if !nbit ok pair then s
  else
    let left := pipesLeft (clrNbit ok pair)
    let s1 := (s.setFld R.SAFE_HEALTH F.SAFE_HEALTH_PIPE_OK (clrNbit ok pair)).pipeReport pair (if left = 0 then 0 else frames) left
    if left = 0 then s1.quiet 2 else s1

/-- The pairs that frames are assigned to: those in service, but for one that BIST_RUN tests (R436) while another is in service. -/
def State.pipesUp (s : State) : Nat :=
  let ok := s.fld R.SAFE_HEALTH F.SAFE_HEALTH_PIPE_OK
  match s.bist.cmd with
  | some c =>
    let r := bitsAt c.w1 0 8
    let up := if 18 ≤ r && r < 22 then clrNbit ok (r - 18) else ok
    if up = 0 then ok else up
  | none => ok

/-- The checked pair that a frame is assigned to by its ingress port and source address (R33): the assignment itself is not given (a
constant of Config). A pair out of service leaves its share to the remaining ones (R369). -/
def State.pipeFor (s : State) (port src : Nat) : Nat :=
  let ok := s.pipesUp
  let h := Config.pipeHash port src
  if nbit ok (h % 4) then h % 4
  else
    let l := (List.range 4).filter (nbit ok)
    l.getD (h / 4 % l.length) 0

/-- A frame of an ingress port and source is executed on the pair it is assigned to; `faults` is how many pairs, one after the other, find a
comparator fault in it before it commits (R369). With no pair in service it is not executed. -/
def State.onPipe (s : State) (port src : Nat) : Nat → (State → State) → State
  | 0, run => if s.fld R.SAFE_HEALTH F.SAFE_HEALTH_PIPE_OK = 0 then s else run s
  | n + 1, run =>
    if s.fld R.SAFE_HEALTH F.SAFE_HEALTH_PIPE_OK = 0 then s
    else State.onPipe (s.pipeFail (s.pipeFor port src) 1) port src n run

end Sys2Proof.Machine
end

