-- ==== Sys2Proof/Machine/Flood.lean ====
section
/-! DEFINITION. Flooding with MPL, and the forwarding decision (R30, R228, R246 to R249, R336). -/

namespace Sys2Proof.Machine

/-! ### The seen cache (R248) -/

/-- Key of a PAN, a seed and a sequence; a 16-bit seed ID is `2^128` plus its value. -/
def seenKey (p seed seq : Nat) : Nat := (seed * 8 + p) * 256 + seq % 256

/-- A 16-bit seed ID as a seed. -/
def seed16 (id : Nat) : Nat := 2 ^ 128 + id % 65536

/-- `MESH_SEEN_USE` and `MESH_TWIN_USE` show the entries. -/
def State.cacheSync (s : State) : State :=
  (s.setFld R.MESH_SEEN_USE F.MESH_SEEN_USE_ENTRIES s.mesh.seen.length).setFld R.MESH_TWIN_USE F.MESH_TWIN_USE_ENTRIES s.mesh.twins.length

/-- The key whose entry is nearest its expiry. -/
def nearest (l : List (Nat × Nat)) : Nat :=
  (l.foldl (fun (m : Option (Nat × Nat)) e =>
    match m with
    | none => some e
    | some y => if e.2 < y.2 then some e else m) none).map (·.1) |>.getD 0

/-- A key is inserted; a full cache evicts the entry nearest its expiry. -/
def State.seenPut (s : State) (k : Nat) : State :=
  let full := 16384 ≤ s.mesh.seen.length
  let l := if full then adel (nearest s.mesh.seen) s.mesh.seen else s.mesh.seen
  let s1 := { s with mesh := { s.mesh with seen := aput k (s.now + sec 60) (adel k l) } }
  (if full then s1.bump R.MESH_CNT_MPLEVICT else s1).cacheSync

def State.seenHas (s : State) (k : Nat) : Bool := s.mesh.seen.any (fun e => e.1 = k)

/-- SEEN_ENTRY_EXPIRY: 60 s after insertion. -/
def execSeenEntryExpiry (p : Fin 8) (seed : Nat) (seq : Byte) (s : State) : Host.Outcome State Fault Refusal :=
  .next (
    match s.mesh.seen.find? (fun e => e.1 = seenKey p.val seed seq.toNat) with
    | none => s
    | some e =>
      let s1 := s.advanceTo e.2
      ({ s1 with mesh := { s1.mesh with seen := adel e.1 s1.mesh.seen } }).cacheSync)

/-! ### Floods in progress (R249) -/

def State.mplField (s : State) (p : Nat) (f : Fld) : Nat := s.fld (R.MESH_PAN_MPL p) f

/-- The first interval, in K4 ticks. -/
def State.imin (s : State) (p : Nat) : Nat := ms (max 1 (s.mplField p F.MESH_PAN_MPL_IMIN))

/-- A flood's next interval from an instant on, with its t drawn from the second half (a free value). -/
def State.floodInterval (s : State) (x : Flood) (len : Nat) : Flood × State :=
  let (r, s1) := s.draw (max 1 (len / 2))
  ({ x with interval := len, start := s.now, instant := some (s.now + len / 2 + r), heard := 0 }, s1)

def State.setFlood (s : State) (x : Flood) : State :=
  { s with mesh := { s.mesh with floods := s.mesh.floods.map (fun (y : Flood) => if y.n = x.n then x else y) } }

/-- The Caravan whose flood has ended waits out `ACK_WINDOW` (R264). -/
def State.cvnFloodEnd (s : State) (cid : Nat) : State :=
  { s with cvn := { s.cvn with open_ := s.cvn.open_.map (fun (c : Caravan) =>
      if c.cid = cid && c.phase = 0 then { c with phase := 1, waitEnd := s.now + ms (100 * c.window) } else c) } }

/-- A flood's sender hears that it ends without a transmission: the spec gives no status (free values, log entry 11). -/
def State.floodMute (s : State) (o : Origin) (sent : Bool) : State :=
  match o with
  | .host f =>
    if sent then s
    else
      let (st, s1) := s.draw 16
      let (c, s2) := s1.draw 256
      s2.txDone f st 0 0 63 false c 0
  | .cvnFlood cid => s.cvnFloodEnd cid
  | _ => s

/-- A copy of a flood is in a queue. -/
def State.floodQueued (s : State) (n : Nat) : Bool :=
  s.qmg.queues.any (fun e => e.2.frames.any (fun f => f.origin = .flood n)) || s.qmg.grams.any (fun g => g.2.origin = .flood n)

/-- A flood's last interval ends: its buffer is free. While a copy is still queued and none was sent, its sender waits for that copy. -/
def State.floodEnd (s : State) (x : Flood) : State :=
  let s1 := s.freeChain x.chain
  match x.origin with
  | .host _ =>
    if !x.sent && s1.floodQueued x.n then s1.setFlood { x with left := 0, chain := [], instant := none }
    else
      ({ s1 with mesh := { s1.mesh with floods := s1.mesh.floods.filter (fun (y : Flood) => y.n ≠ x.n) } }).floodMute x.origin x.sent
  | _ => ({ s1 with mesh := { s1.mesh with floods := s1.mesh.floods.filter (fun (y : Flood) => y.n ≠ x.n) } }).floodMute x.origin x.sent

/-- A flood that is seeded or, with `relay`, forwarded starts: its datagram, its chain of cells. Its key is in the seen cache. With `EXPIRATIONS` 0 nothing is sent and its sender hears OK. -/
def State.floodStart (s : State) (p cls seed seq : Nat) (dg : List Byte) (chain : List Nat) (o : Origin) (relay : Bool) : State :=
  let n := s.mesh.nextFlood
  let e := s.mplField p F.MESH_PAN_MPL_EXPIRATIONS
  if e = 0 then
    let s2 := s.freeChain chain
    match o with
    | .host f => s2.txDone f stOK 0 0 63 false 0 0
    | .cvnFlood cid => s2.cvnFloodEnd cid
    | _ => s2
  else
    let x : Flood :=
      { n := n
        pan := p
        cls := cls
        seed := seed
        seq := seq
        bytes := dg
        interval := 0
        start := 0
        instant := none
        heard := 0
        left := e
        doublings := 0
        sent := false
        chain := chain
        origin := o
        relay := relay }
    let (y, s2) := s.floodInterval x (s.imin p)
    { s2 with mesh := { s2.mesh with floods := s2.mesh.floods ++ [y], nextFlood := n + 1 } }

/-- A flood's frame is placed in the broadcast queue. -/
def State.floodSend (s : State) (x : Flood) : State :=
  let held := s.setFlood { x with instant := none }
  let (c, s1) := held.radioCopy x.pan x.cls 0 none (!x.relay) x.bytes
  let engine := match x.origin with
    | .cvnFlood _ => true
    | .image _ => true
    | _ => false
  let need := frameCells (c.parts.headD []).length
  if engine && 1 < c.parts.length then held
  else if !s1.cellsOk need false then s
  else
    let (cs, s2) := s1.takeChain need
    (s2.radioSend ⟨x.bytes, cs, 56, .flood x.n, false, x.cls, 0, [], false, 0⟩ x.pan false [c]).getD s

/-- TRICKLE_INSTANT: the frame is placed in the broadcast queue unless K suppresses it; while its cells or the queue lack room the engine
keeps it for another try, as in Hush, when no queue changes (R290). An engine's flood that no longer fits one frame is not sent (R261; log entry 46). The
frame is made by a checked pipeline (R32, R33), `faults` of whose pairs find a fault one after the other (R369). -/
def execTrickleInstant (n : Nat) (faults : Fin 5) (s : State) : Host.Outcome State Fault Refusal :=
  .next (
    match s.mesh.floods.find? (fun x => x.n = n) with
    | none => s
    | some x =>
      match x.instant with
      | none => s
      | some t =>
        let s1 := s.advanceTo t
        let k := s1.mplField x.pan F.MESH_PAN_MPL_K
        if !s1.panOn x.pan || (k ≠ 0 && k ≤ x.heard) then s1.setFlood { x with instant := none }
        else if s1.pwr.hush then s1
        else s1.onPipe 56 (ipSrc x.bytes) faults.val (fun s => s.floodSend x))

/-- TRICKLE_INTERVAL_END: the next interval starts, of double length up to `IMAX` doublings, or the flood ends. -/
def execTrickleIntervalEnd (n : Nat) (s : State) : Host.Outcome State Fault Refusal :=
  .next (
    match s.mesh.floods.find? (fun x => x.n = n) with
    | none => s
    | some x =>
      if x.left = 0 then s
      else
        let s1 := s.advanceTo (x.start + x.interval)
        if x.left = 1 then s1.floodEnd x
        else
          let up := x.doublings < s1.mplField x.pan F.MESH_PAN_MPL_IMAX
          let (y, s2) := s1.floodInterval { x with left := x.left - 1, doublings := if up then x.doublings + 1 else x.doublings }
            (if up then 2 * x.interval else x.interval)
          s2.setFlood y)

/-! ### Seeding (R246, R247) -/

/-- The number of seed IDs of a PAN. -/
def State.seedCount (s : State) (p : Nat) : Nat :=
  if s.flag (R.MESH_PAN_SEED p) F.MESH_PAN_SEED_SEEDS16 then 16 else max 1 (s.mplField p F.MESH_PAN_MPL_SEEDS)

/-- Seed ID `i` of a PAN, and its next sequence. -/
def State.seedId (s : State) (p i : Nat) : Nat := (s.fld (R.MESH_PAN_SEED p) F.MESH_PAN_SEED_SEED_BASE + i) % 65536
def State.seedSeq (s : State) (p id : Nat) : Nat := aget 0 (p * 65536 + id) s.mesh.seedSeq

/-- The sequence was used less than 60 s ago on the seed ID. -/
def State.seedBusy (s : State) (p id seq : Nat) : Bool :=
  let u := aget 0 (seenKey p (seed16 id) seq) s.mesh.seedUsed
  u ≠ 0 && s.now + 1 < u + sec 60

/-- The next free seed ID in rotation, taken: seed ID and sequence. -/
def State.seedTake (s : State) (p : Nat) : Option (Nat × Nat × State) :=
  let n := s.seedCount p
  let t := aget 0 p s.mesh.seedTurn
  match ((List.range n).map (fun k => (t + k) % n)).find? (fun i => !s.seedBusy p (s.seedId p i) (s.seedSeq p (s.seedId p i))) with
  | none => none
  | some i =>
    let id := s.seedId p i
    let q := s.seedSeq p id
    some (id, q, { s with mesh := { s.mesh with
      seedTurn := aset 0 p ((i + 1) % n) s.mesh.seedTurn
      seedSeq := aset 0 (p * 65536 + id) ((q + 1) % 256) s.mesh.seedSeq
      seedUsed := aset 0 (seenKey p (seed16 id) q) (s.now + 1) s.mesh.seedUsed } })

/-- The tunnelled datagram of a seeded flood: the MPL option with S = 1, a 16-bit seed ID and a sequence (RFC 7731; PRESUMED: the M bit is
set, log entry 42). -/
def State.mplDatagram (s : State) (p id seq : Nat) (dg : List Byte) : List Byte :=
  let opt : List Byte := [41, 0, 0x6D, 4, 0x60, BitVec.ofNat 8 seq] ++ beBytes 2 id
  ipHeader 0 (ipHop dg) (s.chipAddr p) (ipDst dg) (opt ++ dg)

/-- A flood waits in the PAN's flood queue (R247). -/
def State.floodWait (s : State) (x : Pkt) (p : Nat) : Option State :=
  let q := qFlood p
  if x.fromEngine && (s.queueRefuses q x.chain.length x.yellow).isSome then none
  else
    let (i, s1) := s.newId
    some ((s1.bump R.MESH_CNT_SEEDWAIT).offer q { x.frame i x.dg with pan := p }).1

/-- A multicast datagram is seeded, or waits behind others for a seed. -/
def State.floodSeed (s : State) (x : Pkt) (p : Nat) : Option State :=
  if !(s.queue (qFlood p)).frames.isEmpty then s.floodWait x p
  else
    match s.seedTake p with
    | none => s.floodWait x p
    | some (id, q, s1) =>
      some ((s1.seenPut (seenKey p (seed16 id) q)).floodStart p x.cls (seed16 id) q (s1.mplDatagram p id q x.dg) x.chain x.origin false)

/-- MPL_SEED: the flood that has waited longest is seeded, when its frame check word verifies as the engine takes it (R370); not in Hush (R290). -/
def execMplSeed (p : Fin 8) (s0 : State) : Host.Outcome State Fault Refusal :=
  let s := if s0.pwr.hush then s0 else s0.queueCheck (qFlood p.val)
  .next (
    match s.qHead (qFlood p.val) with
    | none => s
    | some f =>
      if s.pwr.hush then s
      else if !f.checkOk then s.frameCheckFail (qFlood p.val) f
      else
      match s.seedTake p.val with
      | none => s
      | some (id, q, s1) =>
        let x := s1.queue (qFlood p.val)
        let s2 := s1.setQueue (qFlood p.val) { x with frames := x.frames.drop 1 }
        (s2.seenPut (seenKey p.val (seed16 id) q)).floodStart p.val f.cls (seed16 id) q (s2.mplDatagram p.val id q f.bytes) f.onDie
          f.origin false)

/-- A multicast datagram for the mesh of a PAN (R239, R246); `none` while an engine has to keep it. -/
def State.floodIn (s : State) (x : Pkt) (p : Nat) : Option State :=
  if !s.panOn p then some (s.pktFail x stNO_ROUTE 0 R.MESH_CNT_NOROUTE)
  else if 1280 < x.dg.length then some (s.pktFail x stBAD_PARAM 23 R.MESH_CNT_TOOBIG)
  else if ipScope x.dg = 2 then
    let (c, s1) := s.radioCopy p x.cls 0 none false x.dg
    s1.radioSend x p false [c]
  else if 3 ≤ ipScope x.dg && ipScope x.dg ≤ 14 then
    if ipHop x.dg = 0 then some (s.pktEnd x stBAD_PARAM 23 0) else s.floodSeed x p
  else some ((s.bump R.MESH_CNT_DISCARD).pktFree x)

/-! ### The forwarding decision (R29, R30, R228, R300, R301, R338) -/

/-- Ethernet priority of a datagram from the mesh. -/
def State.classPrio (s : State) (cls : Nat) : Nat := bitsAt (s.rd R.ETH_CLASSMAP) (3 * cls) 3

/-- The result of a datagram's prefix decides. Ports that name a beam or an engine without `MESH` have no effect in the spec: the datagram
has no route (log entry 44). RX ring 0 takes what is routed to a partition (DEDUCED, log entry 45). -/
def State.forward (s : State) (x : Pkt) (r : Word) : State :=
  let port := bitsAt r 0 6
  if bitAt r 6 then
    ((if ipMulticast x.dg then s.floodIn x (bitsAt r 7 3) else s.meshSend x (bitsAt r 7 3))).getD s
  else if 48 ≤ port && port ≤ 51 then
    let e := if s.prpOn && port = 49 then 0 else port - 48
    s.pktQueue x (qEth e x.prio)
  else if 52 ≤ port && port ≤ 55 then s.pktQueue x (qHost (port - 52) 0)
  else if port = 63 then (s.bump R.MESH_CNT_DISCARD).pktEnd x stOK 0 0
  else s.pktFail x stNO_ROUTE 0 R.MESH_CNT_NOROUTE

/-- A datagram is forwarded under LPM and meets the policer of its result. -/
def State.lpmForward (s : State) (x : Pkt) : State :=
  match s.lpmLookup (ipDst x.dg) with
  | (none, s1) => s1.pktEnd x stNO_ROUTE 0 0
  | (some r, s1) =>
    if !bitAt r 10 then s1.forward x r
    else
      let (c, s2) := s1.police (bitsAt r 11 12) x.dg.length (if x.yellow then .yellow else .green)
      match c with
      | .red => s2.pktEnd x stINSERT_FULL 8 0
      | .yellow => s2.forward { x with yellow := true } r
      | .green => s2.forward x r

/-! ### FRAME_DN (R278, R279, R316, R320, R336) -/

/-- Frame octets of a FRAME_DN or FRAME_UP: 32 octets of metadata come first. -/
def passFrame (m : PassMsg) : List Byte := (wordsBytes (m.payload.drop 8)).take (m.len - 32)

/-- FRAME_UP words 0x04 to 0x1C for a frame of a port: its octets, and its timestamp. -/
def upOf (ingress : Nat) (raw : Bool) (len : Nat) (time : Word) : List Word :=
  [w32 (ingress % 64 + (if raw then 2 ^ 15 else 0)), w32 (len % 4096 * 2 ^ 20), 0, 0, time, 0, 0]

/-- A colour as the Bool of a yellow frame; red is handled before. -/
def isYellow (c : Colour) : Bool := c == .yellow

/-- A packet whose cells have been taken meets the ingress policer of its source: a red one ends, any other goes on in its colour (R300). -/
def State.policed (s : State) (i len : Nat) (x : Pkt) (go : State → Pkt → State) : State :=
  match s.policeIngress i len (if x.yellow then .yellow else .green) with
  | (.red, s1) => s1.pktEnd x stINSERT_FULL 8 0
  | (c, s1) => go s1 { x with yellow := isYellow c }

/-- A policed host frame goes to its Ethernet port as posted (R316), or by the LPM. -/
def State.hostGo (s : State) (w0 : Word) (y : Pkt) : State :=
  if bitAt w0 20 then
    let e := bitsAt w0 21 6 - 48
    let redirected := s.prpOn && e = 1
    let (i, s1) := s.newId
    (s1.offer (qEth (if redirected then 0 else e) y.prio)
      { y.frame i y.dg with direct := true, lanB := redirected && etherType y.dg = 0x88F7 }).1
  else s.lpmForward y

/-- A host frame with room for its cells takes them. -/
def State.hostTake (s : State) (ws : List Word) (bs : List Byte) (p : Nat) (f : Fetched) : State :=
  let w0 := wordAt ws 0
  let (cs, s1) := s.takeChain (frameCells bs.length)
  s1.policed (4 + p) bs.length
    ⟨bs, cs, 52 + p, .host f, bitAt w0 18, bitsAt w0 16 2, bitsAt w0 13 3, upOf (52 + p) false bs.length 0, bitAt w0 19,
      bitsAt (wordAt ws 1) 0 16⟩ (fun s y => s.hostGo w0 y)

/-- A frame of a partition's TX ring arrives at the F-die. -/
def State.hostDn (s : State) (ws : List Word) (bs : List Byte) (p : Nat) : State :=
  let w2 := wordAt ws 2
  let f : Fetched := ⟨p, bitsAt w2 16 4, bitsAt w2 0 16, 0, 0, wordAt ws 4, aget 0 p s.ends.gens⟩
  let n := frameCells bs.length
  (if !s.cellsOk n (bitsAt (wordAt ws 0) 16 2 == 0) then (s.bump R.QMG_CNT_HOSTFLOOR).txDone f stINSERT_FULL 0 0 63 false 7 2
   else s.hostTake ws bs p f).creditBack p n

/-- ICMPv6 types that are delivered raw. -/
def isNeighborDiscovery (dg : List Byte) : Bool := ipNext dg == 58 && 133 ≤ beAt dg 40 1 && beAt dg 40 1 ≤ 137

/-- A raw delivery of an Ethernet frame to an RX ring. -/
def State.rawUp (s : State) (x : Pkt) (bs : List Byte) (time : Word) (p r : Nat) : State :=
  let y := { x with dg := bs, up := upOf x.ingress true bs.length time }
  s.pktQueue y (qHost p r)

/-- A PTP frame is delivered raw to `PTP_RING` of partition `PTP_PART`. -/
def State.ptpUp (s : State) (x : Pkt) (bs : List Byte) (time : Word) : State :=
  s.rawUp x bs time (s.fld R.PTP_CFG F.PTP_CFG_PTP_PART) (s.fld R.PTP_CFG F.PTP_CFG_PTP_RING)

/-- An instant of city time in ns from its descriptor timestamp, with the present as reference (R345). -/
def State.extendTime (s : State) (t : Word) : Nat := (extendTs t s.cityNs).toNat

/-- The IPv6 datagram behind an Ethernet header: the octets that its Payload Length gives it; padding to the shortest Ethernet frame is no part of it. -/
def ethDatagram (bs : List Byte) : List Byte :=
  let dg := bs.drop (ethHdr bs)
  dg.take (40 + beAt dg 4 2)

/-- A frame of an Ethernet port that has passed its policer goes on by its EtherType (R336). -/
def State.ethSort (s1 : State) (y : Pkt) (bs : List Byte) (time : Word) (e : Nat) : State :=
  let dg := bs.drop (ethHdr bs)
  let ty := etherType bs
  if ty = 0x88FB && e < 2 && s1.prpOn then s1.pktEnd y stOK 0 0
  else if ty = 0x88F7 then
    match s1.ptpDomainsOf e dg with
    | [] => s1.ptpUp y bs time
    | ds =>
      let s2 := ds.foldl (fun s d => s.ptpMessage d (s1.extendTime time) dg) s1
      if s2.flag R.PTP_CFG F.PTP_CFG_PTP_COPY then s2.ptpUp y bs time else s2.pktEnd y stOK 0 0
  else if ty = 0x86DD && !isNeighborDiscovery dg then
    let (k, s2) := s1.draw 4
    s2.lpmForward { y with dg := ethDatagram bs, cls := k }
  else if s1.flag R.ETH_OTHER F.ETH_OTHER_OTHER_EN then s1.rawUp y bs time 0 (s1.fld R.ETH_OTHER F.ETH_OTHER_OTHER_RING)
  else (s1.bump (R.ETH_CNT_OTHERDROP e)).pktEnd y stOK 0 0

/-- The chain of the oldest Ethernet frame that is crossing the Pass; a frame that no port's FIFO has sent takes its cells now. -/
def State.handTake (s : State) (n : Nat) : List Nat × State :=
  match s.qmg.inHand with
  | [] => s.takeChain n
  | c :: cs => (c, { s with qmg := { s.qmg with inHand := cs } })

/-- A frame of an Ethernet port arrives at the F-die with its cells taken, and is classified (R336). -/
def State.ethDn (s0 : State) (ws : List Word) (bs : List Byte) (e : Nat) : State :=
  let (cs, s) := s0.handTake (frameCells bs.length)
  let time := wordAt ws 3
  let w0 := wordAt ws 0
  s.policed e bs.length ⟨bs, cs, 48 + e, .own, bitAt w0 18, 0, bitsAt w0 13 3, upOf (48 + e) false bs.length time, false, 0⟩
    (fun s y => s.ethSort y bs time e)

/-- A malformed FRAME_DN: the descriptor of a TX ring completes PASS_REJECT (R325) and its credit returns; the cells of an Ethernet frame are free. -/
def State.frameDnRejected (m : PassMsg) (s : State) : State :=
  let w2 := wordAt m.payload 2
  let i := bitsAt w2 20 6
  if 52 ≤ i && i < 56 then
    (s.txDone ⟨i - 52, bitsAt w2 16 4, bitsAt w2 0 16, 0, 0, wordAt m.payload 4, aget 0 (i - 52) s.ends.gens⟩ stPASS_REJECT 0 0 63 false 0 0).creditBack (i - 52)
      (frameCells (m.len - 32))
  else
    match s.qmg.inHand with
    | [] => s
    | c :: cs => ({ s with qmg := { s.qmg with inHand := cs } }).freeChain c

/-- The source address by which a frame is assigned to a pipeline (R33): the source of its datagram, or, of an Ethernet port's frame and of one posted
with `DIRECT`, which is an Ethernet frame (R316), the source of its Ethernet header. -/
def dnSource (m : PassMsg) : Nat :=
  let bs := passFrame m
  if 52 ≤ bitsAt (wordAt m.payload 2) 20 6 && !bitAt (wordAt m.payload 0) 20 then beAt bs 8 16 else beAt bs 6 6

/-- What a FRAME_DN does at the F-die: from a TX ring or an Ethernet port. -/
def State.frameDn (s : State) (m : PassMsg) (faults : Nat) : State :=
  let i := bitsAt (wordAt m.payload 2) 20 6
  s.onPipe i (dnSource m) faults (fun s =>
    if 52 ≤ i && i < 56 then s.hostDn m.payload (passFrame m) (i - 52)
    else if 48 ≤ i && i < 52 then s.ethDn m.payload (passFrame m) (i - 48)
    else s)

/-- FRAME_DN arrives at the F-die. `faults` counts the pairs whose comparator finds a fault (R369). In Hush, when every queue is frozen (R290, R406), the
frame waits in front of its pipeline until the power has ridden through (DESIGN CHOICE, log entry 117). -/
def execFrameDn (m : PassMsg) (faults : Fin 5) (s : State) : Host.Outcome State Fault Refusal :=
  .next (s.passRx .f 0x02 m (fun s =>
    if s.pwr.hush then { s with qmg := { s.qmg with frozen := s.qmg.frozen ++ [(m, faults.val)] } } else s.frameDn m faults.val)
    (State.frameDnRejected m))

/-- Frames that Hush has held go on, in their order. -/
def State.thaw (s : State) : State :=
  s.qmg.frozen.foldl (fun s e => s.frameDn e.1 e.2) { s with qmg := { s.qmg with frozen := [] } }

/-! ### FRAME_UP (R319, R320) -/

/-- What the H-die knows of a FRAME_UP beside its metadata; it is taken off the list. -/
def State.takeSide (s : State) (seq : Nat) : UpSide × State :=
  (((s.qmg.upSide.find? (fun e => e.1 = seq)).map (·.2)).getD {},
   { s with qmg := { s.qmg with upSide := s.qmg.upSide.filter (fun e => e.1 ≠ seq) } })

/-- FRAME_UP arrives at the H-die: for an Ethernet port, or for an RX ring, where it is held until it is written back. -/
def execFrameUp (m : PassMsg) (s : State) : Host.Outcome State Fault Refusal :=
  .next (s.passRx .h 0x03 m (fun s0 =>
    let w0 := wordAt m.payload 0
    let port := bitsAt w0 0 6
    let (x, s) := s0.takeSide m.seq.toNat
    if 48 ≤ port && port < 52 then s.ethUp (port - 48) x (bitAt w0 10) (bitsAt w0 11 16) (passFrame m)
    else if 52 ≤ port && port < 56 then
      { s with host := { s.host with held := s.host.held ++ [⟨port - 52, bitsAt w0 6 4, m.payload.take 8, passFrame m, x.src⟩] } }
    else s) id)

end Sys2Proof.Machine
end

