-- ==== Sys2Proof/Machine/Cvn.lean ====
section
/-! DEFINITION. Groups and Caravans (R255 to R270, R276). -/

namespace Sys2Proof.Machine

/-! ### Groups (R255 to R258) -/

def State.setGroup (s : State) (g : Nat) (x : Group) : State := { s with cvn := { s.cvn with groups := aset {} g x s.cvn.groups } }

/-- Extents that a list of entries occupies. -/
def extents (n : Nat) : Nat := (n + 1023) / 1024

/-- Extents in use in the pool. -/
def State.poolUsed (s : State) : Nat := (s.cvn.groups.map (fun e => extents e.2.entries.length)).sum

def State.poolSync (s : State) : State := s.setFld R.CVN_POOL_USE F.CVN_POOL_USE_EXTENTS s.poolUsed

/-- A group is locked while an open Caravan, a waiting posting or an open session names it (R258). -/
def State.groupLocked (s : State) (g : Nat) : Bool :=
  s.cvn.open_.any (fun c => c.group = g) || s.cvn.waiting.any (fun w => bitsAt w.cmd.w1 0 16 = g) || s.cvn.sess.any (fun e => e.2.group = g)

def cmdGroup (c : CmdDesc) : Nat := bitsAt c.w1 0 16

/-- Partition 0 and the group's owner may issue its commands. -/
def State.groupMay (s : State) (p g : Nat) : Bool := (s.group g).defined && (p = 0 || (s.group g).owner = p)

/-- Completion words of a group command: entries after it, entries it changed or copied, ordinals skipped. -/
def groupWords (entries done skipped : Nat) : List Word := [w32 entries, w32 done, w32 skipped]

def execGroupDefine (c : CmdDesc) (s0 : State) : Host.Outcome State Fault Refusal :=
  .next (
    if !s0.cmdTurn c then s0
    else
    let s := s0.cmdTake c
    let p := bitsAt c.w1 16 3
    let peer := bitsAt c.w1 19 2
    let g := cmdGroup c
    if !s.panOn p || !s.panMay c.part.val p then s.cmdBad c 1
    else if (s.group g).defined then s.cmdBad c 3
    else if bitAt c.w1 21 && peer = c.part.val then s.cmdBad c 18
    else
      let x : Group :=
        { defined := true
          pan := p
          owner := c.part.val
          peer := if bitAt c.w1 21 then some peer else none
          entries := [] }
      (s.setGroup g x).cmdOk c (groupWords 0 0 0))

/-- The ordinals of a command's buffer. -/
def State.bufOrds (s : State) (c : CmdDesc) (n : Nat) : List Nat :=
  (bytesWords (s.memBytes c.part.val (addr64 c.w4 c.w5) (4 * n))).map (fun w => bitsAt w 0 19)

/-- An ordinal may be appended to a group: a record of its PAN that the issuer may reach, and no non-void entry holds it (R256). -/
def State.addable (s : State) (p : Nat) (x : Group) (es : List Word) (o : Nat) : Bool :=
  (s.node o).valid && (s.node o).pan == x.pan && s.panMay p x.pan && !es.any (fun e => !entVoid e && entOrd e == o)

/-- Entries with ordinals appended in order, and how many were. -/
def State.appendOrds (s : State) (p : Nat) (x : Group) : List Nat → List Word → Nat → List Word × Nat
  | [], es, n => (es, n)
  | o :: os, es, n =>
    if s.addable p x es o then State.appendOrds s p x os (es ++ [w32 o]) (n + 1) else State.appendOrds s p x os es n

/-- `COUNT` of GROUP_ADD and GROUP_REMOVE; above 65,536 it acts as 65,536 (DESIGN CHOICE, log entry 47). -/
def groupCount (w : Word) (width : Nat) : Nat := min 65536 (bitsAt w 0 width)

def execGroupAdd (c : CmdDesc) (dma : Dma) (s0 : State) : Host.Outcome State Fault Refusal :=
  .next (
    if !s0.cmdTurn c then s0
    else
    let s := s0.cmdTake c
    let g := cmdGroup c
    let n := groupCount c.w2 17
    let x := s.group g
    if !s.groupMay c.part.val g then s.cmdBad c 16
    else if s.groupLocked g then s.cmdBad c 13
    else if !s.panOn x.pan then s.cmdBad c 1
    else if unaligned c.w4 c.w5 then s.cmdBad c 8
    else if n ≠ 0 && dma ≠ .ok then s.cmdBad c 20
    else
      let (es, k) := s.appendOrds c.part.val x (s.bufOrds c n) x.entries 0
      if 524288 < es.length then s.cmdDone c stBAD_PARAM [] 17 4
      else if 7936 < s.poolUsed - extents x.entries.length + extents es.length then s.cmdDone c stINSERT_FULL [] 4 0
      else (s.setGroup g { x with entries := es }).poolSync.cmdOk c (groupWords es.length k (n - k)))

/-- Entries with one ordinal voided, and whether an entry held it. -/
def voidOne (o : Nat) (es : List Word) : List Word × Bool :=
  (es.map (fun e => if !entVoid e && entOrd e = o then e ||| 0x80000000 else e), es.any (fun e => !entVoid e && entOrd e == o))

def execGroupRemove (c : CmdDesc) (dma : Dma) (s0 : State) : Host.Outcome State Fault Refusal :=
  .next (
    if !s0.cmdTurn c then s0
    else
    let s := s0.cmdTake c
    let g := cmdGroup c
    let n := groupCount c.w2 17
    let x := s.group g
    if !s.groupMay c.part.val g then s.cmdBad c 16
    else if s.groupLocked g then s.cmdBad c 13
    else if unaligned c.w4 c.w5 then s.cmdBad c 8
    else if n ≠ 0 && dma ≠ .ok then s.cmdBad c 20
    else
      let (es, k) := (s.bufOrds c n).foldl (fun (a : List Word × Nat) o =>
        let (es, hit) := voidOne o a.1
        (es, if hit then a.2 + 1 else a.2)) (x.entries, 0)
      (s.setGroup g { x with entries := es }).cmdOk c (groupWords es.length k (n - k)))

def execGroupCompact (c : CmdDesc) (s0 : State) : Host.Outcome State Fault Refusal :=
  .next (
    if !s0.cmdTurn c then s0
    else
    let s := s0.cmdTake c
    let g := cmdGroup c
    let x := s.group g
    if !s.groupMay c.part.val g then s.cmdBad c 16
    else if s.groupLocked g then s.cmdBad c 13
    else
      let es := x.entries.filter (fun e => !entVoid e)
      (s.setGroup g { x with entries := es }).poolSync.cmdOk c (groupWords es.length (x.entries.length - es.length) 0))

def execGroupRead (c : CmdDesc) (s0 : State) : Host.Outcome State Fault Refusal :=
  .next (
    if !s0.cmdTurn c then s0
    else
    let s := s0.cmdTake c
    let g := cmdGroup c
    let x := s.group g
    if !s.groupMay c.part.val g then s.cmdBad c 16
    else if unaligned c.w4 c.w5 then s.cmdBad c 8
    else
      let es := (x.entries.drop (bitsAt c.w2 0 20)).take (groupCount c.w3 20)
      (s.memWrite c.part.val (addr64 c.w4 c.w5) (wordsBytes es)).cmdOk c (groupWords x.entries.length es.length 0))

def execGroupDelete (c : CmdDesc) (s0 : State) : Host.Outcome State Fault Refusal :=
  .next (
    if !s0.cmdTurn c then s0
    else
    let s := s0.cmdTake c
    let g := cmdGroup c
    if !s.groupMay c.part.val g then s.cmdBad c 16
    else if s.groupLocked g then s.cmdBad c 13
    else (s.setGroup g {}).poolSync.cmdOk c (groupWords 0 0 0))

/-! ### The envelope and its datagram (R259, R260) -/

/-- A COMMAND envelope. -/
def cvnEnvelope (c : Caravan) (sweep : Bool) : List Byte :=
  let b (x : Bool) (k : Nat) : Nat := if x then 2 ^ k else 0
  let body := [0x10, BitVec.ofNat 8 (b c.ackReq 7 + b (c.cls == 0) 6 + b sweep 5)] ++ beBytes 2 c.cid ++ beBytes 2 c.group ++
    beBytes 4 c.expiry ++ beBytes 2 c.window ++ beBytes 2 c.payload.length ++ [0, 0] ++ c.payload
  body ++ beBytes 4 (crc32c body).toNat

/-- The sum of 16-bit groups that the Internet checksum takes. -/
def sum16 : List Byte → Nat
  | [] => 0
  | [a] => a.toNat * 256
  | a :: b :: r => a.toNat * 256 + b.toNat + sum16 r

/-- Folds carries into 16 bits. -/
def fold16 : Nat → Nat → Nat
  | 0, x => x
  | n + 1, x => fold16 n (x % 65536 + x / 65536)

/-- A UDP datagram in IPv6, with its checksum. -/
def udpDatagram (src dst sport dport hop : Nat) (payload : List Byte) : List Byte :=
  let n := payload.length + 8
  let head (ck : Nat) : List Byte := beBytes 2 sport ++ beBytes 2 dport ++ beBytes 2 n ++ beBytes 2 ck
  let x := 65535 - fold16 4 (sum16 (beBytes 16 src ++ beBytes 16 dst ++ beBytes 4 n ++ beBytes 4 17 ++ head 0 ++ payload))
  ipHeader 17 hop src dst (head (if x = 0 then 65535 else x) ++ payload)

/-- Source port and Hop Limit of the datagrams of one posting or session: not given, free values, the Hop Limit 2 or more (log entry 48). -/
def State.engineDraw (s : State) : (Nat × Nat) × State :=
  let (sp, s1) := s.draw 65536
  let (h, s2) := s1.draw 254
  ((sp, h + 2), s2)

/-- The address a group's flood goes to: ff03::fc:g. -/
def groupAddr (g : Nat) : Nat := 0xFF03 * 2 ^ 112 + 0xFC * 2 ^ 16 + g

def State.cvnPort (s : State) : Nat := s.fld R.CVN_CFG F.CVN_CFG_PORT

/-- A datagram of an engine as a packet. -/
def enginePkt (port : Nat) (o : Origin) (cls : Nat) (dg : List Byte) : Pkt := ⟨dg, [], port, o, false, cls, 0, [], false, 0⟩

/-- An engine's datagram is executed by the checked pair that its port and the chip's address assign it to (R33); `faults` of the pairs find a fault in it,
one after the other (R369). -/
def State.enginePipe (s : State) (port p faults : Nat) : State := s.onPipe port (s.chipAddr p) faults id

/-- An engine's datagram takes its cells and goes its way; `none` while the engine has to keep it: without a pair in service (R369), in Hush (R290), without
cells or room (R278, R282). -/
def State.engineSend (s : State) (x : Pkt) (p : Nat) : Option State :=
  let n := frameCells x.dg.length
  if s.fld R.SAFE_HEALTH F.SAFE_HEALTH_PIPE_OK = 0 || s.pwr.hush || !s.cellsOk n x.exempt then none
  else
    let (cs, s1) := s.takeChain n
    let y := { x with chain := cs }
    if ipMulticast x.dg then s1.floodIn y p else s1.meshSend y p

/-- Octets of a unicast data frame to an EUI-64 on a PAN's PHY beside its payload: as `macOver` has them for a neighbour without a short address. -/
def State.macOverUni (s : State) (p : Nat) : Nat :=
  let lvl := s.txLevel p
  15 + (if lvl ≠ 0 then 5 + micLen lvl else 0) + (if s.fld (R.PAN_PHY p) F.PAN_PHY_FAMILY = 3 then 2 else 4)

/-- The compressed form of an engine's payload fits one frame (R261): a flood in its tunnel as a broadcast, and a unicast copy in the tunnel of a one-hop
route to a node that its EUI-64 addresses, whose interface identifiers are elided: the shortest frame that a copy can have (log entry 46). -/
def State.engineFits (s : State) (p dport sport hop : Nat) (payload : List Byte) (flood uni : Bool) : Bool :=
  let a := s.chipAddr p
  let f := s.mplDatagram p 0 0 (udpDatagram a (groupAddr 0) sport dport hop payload)
  let u := ipHeader 41 64 a a (udpDatagram a a sport dport (hop - 1) payload)
  (!flood || decide ((s.compress p none true f).length ≤ s.payloadMax p none)) &&
    (!uni || decide ((iphcForm (s.contexts p true) 8 true 0 (2 ^ 16 + Config.linkEui.toNat) u).1.length ≤ s.maxFrame p - s.macOverUni p))

/-! ### Caravans (R262 to R265, R268 to R270) -/

def State.cvnOf (s : State) (cid : Nat) : Option Caravan := s.cvn.open_.find? (fun c => c.cid = cid)

def State.setCvn (s : State) (c : Caravan) : State :=
  { s with cvn := { s.cvn with open_ := s.cvn.open_.map (fun (x : Caravan) => if x.cid = c.cid then c else x) } }

/-- The next ID after the last one assigned that is neither open nor quarantined (R269). -/
def State.cvnId (s : State) : Nat → Nat → Option Nat
  | 0, _ => none
  | n + 1, i =>
    if s.cvn.open_.any (fun c => c.cid = i) || s.cvnIds.quar.any (fun e => e.1 = i) || s.cvnIds.openIds.any (fun e => e.1 = i) then
      State.cvnId s n ((i + 1) % 65536)
    else some i

/-- `LIMITp` as it acts (R270). -/
def State.cvnLimit (s : State) (p : Nat) : Nat :=
  min 256 (bitsAt (s.rd (if p < 2 then R.CVN_LIMIT01 else R.CVN_LIMIT23)) (16 * (p % 2)) 9)

/-- Caravans and waiting postings of a partition. -/
def State.cvnHeld (s : State) (p : Nat) : Nat :=
  (s.cvn.open_.filter (fun c => c.posts.any (fun d => d.part.val = p))).length +
    (s.cvn.waiting.filter (fun w => w.cmd.part.val = p)).length

/-- The limit that a posting of a partition meets: `DETAIL` of INSERT_FULL 6. -/
def State.cvnFull (s : State) (p : Nat) : Option Nat :=
  if s.cvnLimit p ≤ s.cvnHeld p then some 0
  else if 256 ≤ s.cvn.open_.length + s.cvn.waiting.length then some 1
  else none

/-- Mode, class, rounds, acknowledgement request of a posting. -/
def cvnMode (c : CmdDesc) : Nat := bitsAt c.w1 16 2
def cvnCls (c : CmdDesc) : Nat := bitsAt c.w1 18 2

/-- What a posting fails on: cause and detail. A posting that R268 does not permit takes cause 18 (log entry 49). -/
def State.cvnBad (s : State) (c : CmdDesc) (dma : Dma) (sport hop : Nat) : Option (Nat × Nat) :=
  let p := c.part.val
  let g := cmdGroup c
  let x := s.group g
  let len := bitsAt c.w3 0 11
  if !x.defined || !(p = 0 || x.owner = p || x.peer = some p) then some (16, 0)
  else if !s.panOn x.pan then some (1, 0)
  else if cvnMode c = 3 || (cvnMode c ≠ 0 && !bitAt c.w1 24) then some (17, 0)
  else if c.w2 ≠ 0 && c.w2.toNat ≤ s.citySec then some (17, 1)
  else if 1024 < len then some (17, 2)
  else if unaligned c.w6 c.w7 then some (8, 0)
  else if cvnCls c = 0 && (x.peer.isNone || !(x.owner = p || x.peer = some p) ||
      s.cvn.waiting.any (fun w => cmdGroup w.cmd = g && w.cmd.part.val = p)) then some (18, 0)
  else if len ≠ 0 && dma ≠ .ok then some (20, 0)
  else if !s.engineFits x.pan s.cvnPort sport hop (List.replicate (len + 20) 0) (cvnMode c ≠ 1) (cvnMode c ≠ 0) then some (14, 0)
  else none

/-- The flood of a Caravan starts when the engine can take it. -/
def State.cvnFloodTry (s : State) (c : Caravan) : State :=
  let p := (s.group c.group).pan
  let dg := udpDatagram (s.chipAddr p) (groupAddr c.group) c.sport s.cvnPort c.hop (cvnEnvelope c false)
  ((s.setCvn { c with phase := 0 }).engineSend (enginePkt 58 (.cvnFlood c.cid) c.cls dg) p).getD s

/-- Floods that wait for the engine are tried again. -/
def State.cvnRetry (s : State) : State :=
  s.cvn.open_.foldl (fun s c => if c.phase = 4 then s.cvnFloodTry c else s) s

/-- A sweep round starts: its members in ascending position order; after the last round the Caravan ends. -/
def State.cvnRound (s : State) (c : Caravan) : State :=
  if c.rounds ≤ c.round then s.cvnEnd c stOK false
  else
    let es := ((s.group c.group).entries.take c.entries).filter (fun e => !entVoid e && c.pending.contains (entOrd e))
    s.setCvn { c with phase := 2, round := c.round + 1, toSend := es.map entOrd, inFlight := [] }

/-- A Caravan is accepted (R263, R264): its ID, its pending members, and its first phase. `posts` are its one or two postings, `faults` the comparator faults
that its flood meets. -/
def State.cvnAccept (s : State) (c : CmdDesc) (posts : List CmdDesc) (payload : List Byte) (sport hop faults : Nat) : State :=
  match s.cvnId 65536 ((s.cvnIds.last + 1) % 65536) with
  | none => posts.foldl (fun s d => s.cmdDone d stINSERT_FULL [] 5 0) s
  | some id =>
    let g := cmdGroup c
    let x := s.group g
    let v : Caravan :=
      { cid := id
        group := g
        mode := cvnMode c
        cls := cvnCls c
        rounds := bitsAt c.w1 20 4
        ackReq := bitAt c.w1 24
        window := max 1 (bitsAt c.w3 12 12)
        expiry := c.w2.toNat
        payload := payload
        posts := posts
        entries := x.entries.length
        pending := x.members
        answered := []
        refused := []
        phase := 4
        round := 0
        toSend := []
        inFlight := []
        unreached := []
        waitEnd := 0
        sport := sport
        hop := hop }
    let mask := posts.foldl (fun m d => setNbit m d.part.val) 0
    let s1 := ({ s with
      cvn := { s.cvn with open_ := s.cvn.open_ ++ [v] }
      cvnIds := { s.cvnIds with last := id, openIds := aput id (g, mask) (adel id s.cvnIds.openIds) } }).cvnSync
    if x.members.isEmpty then s1.cvnEnd v stOK false
    else if v.mode = 1 then s1.cvnRound v
    else (s1.enginePipe 58 x.pan faults).cvnFloodTry v

/-- `WINDOW` of dual posting, in K4 ticks. -/
def State.concurWindow (s : State) : Nat := ms (100 * max 1 (min 100 (s.fld R.CVN_CONCUR F.CVN_CONCUR_WINDOW)))

/-- A waiting posting ends with a status. -/
def State.cvnWaitEnd (s : State) (w : CvnWait) (status : Nat) : State :=
  (({ s with cvn := { s.cvn with waiting := s.cvn.waiting.filter (fun (v : CvnWait) => v.cmd ≠ w.cmd) } }).cvnSync).cmdDone w.cmd status [] 0 0

/-- The words of a posting that a concurring one repeats, and its payload. -/
def cvnSame (w : CvnWait) (c : CmdDesc) (payload : List Byte) : Bool :=
  w.cmd.w0 == c.w0 && w.cmd.w1 == c.w1 && w.cmd.w2 == c.w2 && w.cmd.w3 == c.w3 && w.payload == payload

/-- A Safety-class posting waits for its second (R268). -/
def State.cvnHold (s : State) (c : CmdDesc) (payload : List Byte) : State :=
  ({ s with cvn := { s.cvn with waiting := s.cvn.waiting ++ [CvnWait.mk c payload s.now] } }).cvnSync

/-- A Safety-class posting: the first waits, the second concurs or differs (R268). The comparison runs in a checked pipeline, `faults` of whose pairs find
a fault one after the other (R369); when none is left the chip is in Quiet and the second posting completes so. -/
def State.cvnDual (s : State) (c : CmdDesc) (payload : List Byte) (sport hop faults : Nat) : State :=
  match s.cvn.waiting.find? (fun w => cmdGroup w.cmd = cmdGroup c && w.cmd.part ≠ c.part) with
  | some w =>
    if s.now ≤ w.at_ + s.concurWindow then
      let s0 := s.onPipe 58 (cmdGroup c) faults id
      if s0.fld R.SAFE_HEALTH F.SAFE_HEALTH_PIPE_OK = 0 then s0.cmdDone c stQUIET [] 0 0
      else
        let s1 := ({ s0 with cvn := { s0.cvn with waiting := s0.cvn.waiting.filter (fun (v : CvnWait) => v.cmd ≠ w.cmd) } }).cvnSync
        if cvnSame w c payload then s1.cvnAccept c [w.cmd, c] payload sport hop 0
        else
          (((s1.cmdBad w.cmd 15).cmdBad c 15).bump R.CVN_CNT_MISMATCH).ledger 0x0050 (cmdGroup c) (w32 w.cmd.part.val) (w32 c.part.val) 0
    else (s.cvnWaitEnd w stCONCUR_TIMEOUT).cvnHold c payload
  | none => s.cvnHold c payload

/-- A second posting joins a waiting one and takes no further place chip-wide (R270). -/
def State.cvnSecond (s : State) (c : CmdDesc) : Bool :=
  cvnCls c == 0 && s.cvn.waiting.any (fun w => cmdGroup w.cmd == cmdGroup c && w.cmd.part != c.part)

/-- CVN_POST. `faults` counts the pairs whose comparator finds a fault in the comparison of a dual posting, or in the flood of another. -/
def execCvnPost (c : CmdDesc) (dma : Dma) (faults : Fin 5) (s0 : State) : Host.Outcome State Fault Refusal :=
  .next (
    if !s0.cmdTurn c then s0
    else
    let ((sport, hop), s) := (s0.cmdTake c).engineDraw
    if s.inQuiet then s.cmdDone c stQUIET [] 0 0
    else
      match s.cvnBad c dma sport hop with
      | some (cause, d) => s.cmdDone c stBAD_PARAM [] cause d
      | none =>
        let full := if s.cvnSecond c && s.cvnFull c.part.val = some 1 then none else s.cvnFull c.part.val
        match full with
        | some d => s.cmdDone c stINSERT_FULL [] 6 d
        | none =>
          let payload := s.memBytes c.part.val (addr64 c.w4 c.w5) (bitsAt c.w3 0 11)
          if cvnCls c = 0 then s.cvnDual c payload sport hop faults.val else s.cvnAccept c [c] payload sport hop faults.val)

/-- Queued frames of an engine's posting or session are flushed, and its floods stop (R265, R275). -/
def State.engineStop (s : State) (mine : Origin → Bool) : State :=
  let ns := (s.mesh.floods.filter (fun x => mine x.origin)).map Flood.n
  let hit (o : Origin) : Bool :=
    match o with
    | .flood n => ns.contains n
    | o => mine o
  let fs := s.qmg.queues.flatMap (fun e => (e.2.frames.filter (fun f => hit f.origin)).map (fun f => (e.1, f)))
  let s1 := fs.foldl (fun s e => s.flushFrame e.1 e.2) s
  let cells := (s1.mesh.floods.filter (fun x => ns.contains x.n)).flatMap Flood.chain
  ({ s1 with mesh := { s1.mesh with floods := s1.mesh.floods.filter (fun x => !ns.contains x.n) } }).freeChain cells

/-- A Caravan's copies and its flood. -/
def ofCaravan (cid : Nat) (o : Origin) : Bool :=
  match o with
  | .caravan i _ => i == cid
  | .cvnFlood i => i == cid
  | _ => false

def State.cvnStop (s : State) (cid : Nat) : State := s.engineStop (ofCaravan cid)

/-- A Caravan is ended early: its queued copies complete FLUSHED first. -/
def State.cvnAbort (s : State) (cid status : Nat) (expired : Bool) : State :=
  let s1 := s.cvnStop cid
  match s1.cvnOf cid with
  | none => s1
  | some c => s1.cvnEnd c status expired

/-- CVN_CANCEL (R265): the number ended is in word 0x04 (PRESUMED, log entry 4). -/
def execCvnCancel (c : CmdDesc) (s0 : State) : Host.Outcome State Fault Refusal :=
  .next (
    if !s0.cmdTurn c then s0
    else
    let s := s0.cmdTake c
    let g := cmdGroup c
    let x := s.group g
    let p := c.part.val
    if !x.defined || !(p = 0 || x.owner = p || x.peer = some p) then s.cmdBad c 16
    else
      let all := p = 0 || x.owner = p
      let cs := s.cvn.open_.filter (fun v => v.group = g && (all || v.posts.any (fun d => d.part.val = p)))
      let ws := s.cvn.waiting.filter (fun w => cmdGroup w.cmd = g && (all || w.cmd.part.val = p))
      let s1 := cs.foldl (fun s v => s.cvnAbort v.cid stFLUSHED false) s
      let s2 := ws.foldl (fun s w => s.cvnWaitEnd w stFLUSHED) s1
      s2.cmdOk c [w32 (cs.length + ws.length)])

/-- CARAVAN_PHASE_END: a phase's `ACK_WINDOW` ends. -/
def execCaravanPhaseEnd (cid : BitVec 16) (s : State) : Host.Outcome State Fault Refusal :=
  .next (
    match s.cvnOf cid.toNat with
    | none => s
    | some c =>
      if c.phase = 1 then
        let s1 := s.advanceTo c.waitEnd
        if c.mode = 0 then s1.cvnEnd c stOK false else s1.cvnRound c
      else if c.phase = 3 then (s.advanceTo c.waitEnd).cvnRound c
      else s)

/-- `SWEEP_INFLIGHT` as it acts. -/
def State.sweepMax (s : State) : Nat := max 1 (min 1024 (s.fld R.CVN_CFG F.CVN_CFG_SWEEP_INFLIGHT))

/-- A round's sending is over: its wait starts. -/
def State.cvnSent (s : State) (cid : Nat) : State :=
  match s.cvnOf cid with
  | none => s
  | some c =>
    if c.phase = 2 && c.toSend.isEmpty && c.inFlight.isEmpty then s.setCvn { c with phase := 3, waitEnd := s.now + ms (100 * c.window) } else s

/-- SWEEP_COPY_QUEUE: the next member of the round gets its copy, or is skipped when it has answered or been voided. `faults` of the pairs find a comparator
fault in the copy, one after the other (R369). -/
def execSweepCopyQueue (cid : BitVec 16) (faults : Fin 5) (s : State) : Host.Outcome State Fault Refusal :=
  .next (
    match s.cvnOf cid.toNat with
    | none => s
    | some c =>
      match c.toSend with
      | [] => s
      | o :: r =>
        if c.phase ≠ 2 || s.sweepMax ≤ c.inFlight.length then s
        else if !c.pending.contains o then (s.setCvn { c with toSend := r }).cvnSent c.cid
        else
          let p := (s.group c.group).pan
          let dg := udpDatagram (s.chipAddr p) (s.nodeAddr o) c.sport s.cvnPort c.hop (cvnEnvelope c true)
          let s1 := s.enginePipe 58 p faults.val
          let s2 := s1.setCvn { c with toSend := r, inFlight := c.inFlight ++ [o] }
          (s2.engineSend (enginePkt 58 (.caravan c.cid o) c.cls dg) p).getD s1)

/-- City time reaches a second: time passes up to it unless it has come already. -/
def State.toCity (s : State) (t : Nat) : State :=
  if t ≤ s.citySec then s else s.elapse ((t * 1000000000 - s.cityNs) * 32 / 125 + 1)

/-- CARAVAN_EXPIRY. -/
def execCaravanExpiry (cid : BitVec 16) (s : State) : Host.Outcome State Fault Refusal :=
  .next (
    match s.cvnOf cid.toNat with
    | none => s
    | some c => if c.expiry = 0 then s else (s.toCity c.expiry).cvnAbort c.cid stOK true)

/-- CONCUR_TIMEOUT: a first posting of a partition on a group waited in vain. -/
def execConcurTimeout (g : BitVec 16) (p : Part) (s : State) : Host.Outcome State Fault Refusal :=
  .next (
    match s.cvn.waiting.find? (fun w => cmdGroup w.cmd = g.toNat && w.cmd.part = p) with
    | none => s
    | some w => (s.advanceTo (w.at_ + s.concurWindow)).cvnWaitEnd w stCONCUR_TIMEOUT)

/-- CARAVAN_ID_RELEASE: 600 s of city time after the completion, to within 1 s. -/
def execCaravanIdRelease (cid : BitVec 16) (s : State) : Host.Outcome State Fault Refusal :=
  .next (
    let (_, _, r) := aget (0, 0, 0) cid.toNat s.cvnIds.quar
    if r = 0 || s.citySec + 2 < r then s
    else ({ s with cvnIds := { s.cvnIds with quar := adel cid.toNat s.cvnIds.quar } }).cvnSync)

/-! ### Answers (R259, R260, R266) -/

/-- An ACK envelope in UDP payload: ID, group, result; nothing when R259 drops it. -/
def cvnAckOf (b : List Byte) : Option (Nat × Nat × Nat) :=
  let len := beAt b 12 2
  if beAt b 0 1 = 0x11 && beAt b 1 1 = 0 && beAt b 6 4 = 0 && beAt b 10 2 = 0 && beAt b 14 2 = 0 && 1 ≤ len && len ≤ 64
      && 20 + len ≤ b.length && beAt b (16 + len) 4 = (crc32c (b.take (16 + len))).toNat then
    some (beAt b 2 2, beAt b 4 2, beAt b 16 1)
  else none

/-- A COMMAND envelope that passes R259. -/
def cvnCommandOk (b : List Byte) : Bool :=
  let len := beAt b 12 2
  beAt b 0 1 == 0x10 && beAt b 1 1 % 32 == 0 && beAt b 14 2 == 0 && len ≤ 1024 && 20 + len ≤ b.length
    && beAt b (16 + len) 4 == (crc32c (b.take (16 + len))).toNat

/-- Metadata of a Caravan ACK that is delivered (R320). -/
def cvnUp (up : List Word) (cid : Nat) (late : Bool) : List Word :=
  let u := up.set 0 (wordAt up 0 ||| 0x800 ||| (if late then 0x1000 else 0))
  u.set 6 ((wordAt u 6 &&& 0xFFFF) ||| w32 (cid % 65536 * 65536))

/-- The datagram goes to ring `RING` of `CVN_RINGp` of each posting partition; a second one gets a copy in cells of its own
(DEDUCED, log entry 50). -/
def State.cvnDeliver (s : State) (x : Pkt) (cid mask : Nat) (late : Bool) : State :=
  let y := { x with up := cvnUp x.up cid late }
  match [0, 1, 2, 3].filter (nbit mask) with
  | [] => s.pktEnd x stOK 0 0
  | p :: rest =>
    let put (s : State) (p : Nat) (y : Pkt) : State := s.pktQueue y (qHost p (s.fld (R.CVN_RING p) F.CVN_RING_RING))
    rest.foldl (fun s q =>
      let n := frameCells y.dg.length
      if s.cellsOk n false then
        let (cs, s1) := s.takeChain n
        put s1 q { y with chain := cs }
      else s) (put s p y)

/-- A datagram on the Caravan port reaches the chip's address: `ord` is its sender's record, `b` its UDP payload. -/
def State.cvnRx (s : State) (x : Pkt) (ord : Option Nat) (b : List Byte) : State :=
  match ord with
  | none => (s.bump R.CVN_CNT_STRAY).pktEnd x stOK 0 0
  | some o =>
    match cvnAckOf b with
    | none => (s.bump (if cvnCommandOk b then R.CVN_CNT_STRAY else R.CVN_CNT_BADENV)).pktEnd x stOK 0 0
    | some (cid, g, result) =>
      match s.cvnOf cid with
      | some c =>
        if c.group ≠ g then (s.bump R.CVN_CNT_STRAY).pktEnd x stOK 0 0
        else if !c.pending.contains o then (s.bump R.CVN_CNT_DUPACK).pktEnd x stOK 0 0
        else
          let c1 := { c with pending := c.pending.filter (· ≠ o), answered := o :: c.answered, refused := if result = 0 then c.refused else o :: c.refused }
          let mask := c.posts.foldl (fun m d => setNbit m d.part.val) 0
          let s1 := s.setCvn c1
          let s2 := if result = 0 then s1.pktEnd x stOK 0 0 else s1.cvnDeliver x cid mask false
          if c1.ackReq && c1.pending.isEmpty then s2.cvnEnd c1 stOK false else s2
      | none =>
        let (qg, mask, r) := aget (0, 0, 0) cid s.cvnIds.quar
        if r ≠ 0 && qg = g then (s.bump R.CVN_CNT_LATEACK).cvnDeliver x cid mask true
        else (s.bump R.CVN_CNT_STRAY).pktEnd x stOK 0 0

end Sys2Proof.Machine
end

