-- ==== Sys2Proof/Machine/Img.lean ====
section
/-! DEFINITION. Node image sessions: coding, distribution rounds and missing reports (R261, R271 to R276). -/

namespace Sys2Proof.Machine

/-! ### The field GF(2^8) (R272) -/

/-- One step of a product: a times x, reduced by x^8 + x^4 + x^3 + x^2 + 1. -/
def gfDouble (a : Byte) : Byte := if a.getLsbD 7 then (a <<< 1) ^^^ 0x1D#8 else a <<< 1

/-- The product over the bits of `b` from bit `8 - n` on. -/
def gfMulN : Nat → Byte → Byte → Byte
  | 0, _, _ => 0
  | n + 1, a, b => (if b.getLsbD (7 - n) then a else 0) ^^^ gfMulN n (gfDouble a) b

def gfMul (a b : Byte) : Byte := gfMulN 8 a b

/-- A power. -/
def gfPow (a : Byte) : Nat → Byte
  | 0 => 1
  | n + 1 => gfMul a (gfPow a n)

/-- The inverse of a non-zero element. -/
def gfInv (a : Byte) : Byte := gfPow a 254

/-- α^i. -/
def gfPoint (i : Nat) : Byte := gfPow 2 i

/-- The value at α^e of the basis polynomial of point `i` among points 0 to k - 1. -/
def gfBasis (k e i : Nat) : Byte :=
  ((List.range k).filter (· ≠ i)).foldl (fun a m =>
    gfMul a (gfMul (gfPoint e ^^^ gfPoint m) (gfInv (gfPoint i ^^^ gfPoint m)))) 1

/-- The octet of block `e` that the source octets of a position determine. -/
def gfCode (src : List Byte) (e : Nat) : Byte :=
  if e < src.length then src.getD e 0
  else ((List.range src.length).map (fun i => gfMul (src.getD i 0) (gfBasis src.length e i))).foldl (· ^^^ ·) 0

/-! ### Blocks (R271 to R273) -/

/-- Octet `j` of source block `b` of an image, the last block padded with 0. -/
def ImgSess.srcByte (x : ImgSess) (b j : Nat) : Byte := x.image.getD (b * 1024 + j) 0

/-- Octets of block `e` of generation `g`. -/
def ImgSess.block (x : ImgSess) (g e : Nat) : List Byte :=
  (List.range 1024).map (fun j => gfCode ((List.range (x.kOf g)).map (fun i => x.srcByte (g * x.k + i) j)) e)

/-- The block message. -/
def ImgSess.message (x : ImgSess) (g e window : Nat) (last : Bool) : List Byte :=
  let body := [0x10, if last then 0x80 else 0, BitVec.ofNat 8 x.k, BitVec.ofNat 8 (x.kOf g), BitVec.ofNat 8 x.r, BitVec.ofNat 8 e] ++
    beBytes 2 g ++ beBytes 4 x.imageId.toNat ++ beBytes 4 x.len ++ beBytes 2 x.gens ++ beBytes 2 window ++ x.block g e
  body ++ beBytes 4 (crc32c body).toNat

/-! ### Sessions -/

def State.sess (s : State) (i : Nat) : Option ImgSess := (s.cvn.sess.find? (fun e => e.1 = i)).map (·.2)

/-- Generations with a need in this round, with the reporters and their needs. -/
def ImgSess.needs (x : ImgSess) : List (Nat × List (Nat × Nat)) :=
  ((List.range x.gens).map (fun g =>
    (g, x.reports.flatMap (fun r => (r.2.filter (fun e => e.1 = g && 0 < e.2)).map (fun e => (r.1, e.2)))))).filter (fun e => !e.2.isEmpty)

/-- A session is stored, and `IMG_SESSs` shows it. -/
def State.setSess (s : State) (i : Nat) (x : ImgSess) : State :=
  let s1 := { s with cvn := { s.cvn with sess := aput i x (adel i s.cvn.sess) } }
  let gens := (x.reports.flatMap (fun r => (r.2.filter (fun e => 0 < e.2)).map (·.1))).eraseDups.length
  s1.wr (R.IMG_SESS i) (w32 (x.state % 8 + x.round % 16 * 2 ^ 3 + gens % 65536 * 2 ^ 8))

def State.imgPort (s : State) : Nat := s.fld R.IMG_CFG2 F.IMG_CFG2_PORT

/-- `REPORT_WINDOW` as it acts, in units of 100 ms. -/
def State.reportWindow (s : State) : Nat := max 1 (s.fld R.IMG_CFG2 F.IMG_CFG2_REPORT_WINDOW)

/-- What IMG_OPEN refuses: cause and detail. -/
def State.imgBad (s : State) (c : CmdDesc) (dma : Dma) (sport hop : Nat) : Option (Nat × Nat) :=
  let g := bitsAt c.w1 16 16
  let x := s.group g
  let k := bitsAt c.w1 8 8
  let len := bitsAt c.w2 0 25
  let r := bitsAt c.w2 25 7
  if (s.sess (bitsAt c.w1 0 2)).isSome then some (19, 0)
  else if !s.groupMay c.part.val g then some (16, 0)
  else if !s.panOn x.pan then some (1, 0)
  else if k = 0 || 200 < k || len = 0 || 16777216 < len || 255 < k + r then some (17, 3)
  else if 16384 < ((len + 1023) / 1024 + k - 1) / k * r then some (17, 5)
  else if unaligned c.w6 c.w7 then some (8, 0)
  else if dma ≠ .ok then some (20, 0)
  else if !s.engineFits x.pan s.imgPort sport hop (List.replicate 1048 0) true true then some (14, 0)
  else none

/-- IMG_OPEN. -/
def execImgOpen (c : CmdDesc) (dma : Dma) (s0 : State) : Host.Outcome State Fault Refusal :=
  .next (
    if !s0.cmdTurn c then s0
    else
    let ((sport, hop), s) := (s0.cmdTake c).engineDraw
    if s.inQuiet then s.cmdDone c stQUIET [] 0 0
    else
      match s.imgBad c dma sport hop with
      | some (cause, d) => s.cmdDone c stBAD_PARAM [] cause d
      | none =>
        let i := bitsAt c.w1 0 2
        let g := bitsAt c.w1 16 16
        let len := bitsAt c.w2 0 25
        let x : ImgSess :=
          { cmd := c
            group := g
            cls := bitsAt c.w1 2 2
            rounds := bitsAt c.w1 4 4
            k := bitsAt c.w1 8 8
            r := bitsAt c.w2 25 7
            len := len
            imageId := c.w3
            image := s.memBytes c.part.val (addr64 c.w4 c.w5) len
            entries := (s.group g).entries.length
            state := 1
            round := 0
            next := []
            reports := []
            heard := []
            done := []
            toSend := []
            sent := 0
            waitEnd := 0
            nextAt := 0
            sport := sport
            hop := hop }
        if (s.group g).members.isEmpty then s.imgEnd i x stOK else s.setSess i x)

/-- A session is ended early: its queued frames complete FLUSHED and its floods stop. -/
def State.imgAbort (s : State) (i : Nat) (x : ImgSess) : State := (s.engineStop (fun o => o == .image i)).imgEnd i x stFLUSHED

/-- IMG_CANCEL: the issuer or partition 0 ends a session. For another partition, cause 16 (DEDUCED); for a session that is not open the
spec gives no status (free values; log entry 51). -/
def execImgCancel (c : CmdDesc) (s0 : State) : Host.Outcome State Fault Refusal :=
  .next (
    if !s0.cmdTurn c then s0
    else
    let s := s0.cmdTake c
    let i := bitsAt c.w1 0 2
    match s.sess i with
    | none =>
      let (st, s1) := s.draw 16
      let (cause, s2) := s1.draw 256
      s2.cmdDone c st [] cause 0
    | some x =>
      if c.part ≠ 0 && c.part ≠ x.cmd.part then s.cmdBad c 16
      else
        (s.imgAbort i x).cmdOk c [])

/-- `PROACTIVE` as it acts for a session. -/
def State.proactive (s : State) (x : ImgSess) : Nat := min (s.fld R.IMG_CFG F.IMG_CFG_PROACTIVE) x.r

/-- IMAGE_LOAD_DONE: the initial round starts (R274 step 1); reports that came while the image was loading do not count in it. -/
def execImageLoadDone (i : Fin 4) (s : State) : Host.Outcome State Fault Refusal :=
  .next (
    match s.sess i.val with
    | none => s
    | some x =>
      if x.state ≠ 1 then s
      else
        let p := s.proactive x
        let gs := List.range x.gens
        s.setSess i.val { x with
          state := 2
          reports := []
          next := gs.map (fun g => (g, (x.kOf g + p) % (x.kOf g + x.r)))
          toSend := gs.flatMap (fun g => (List.range (x.kOf g + p)).map (fun e => (g, e, none))) })

/-- `RATE` as it acts. -/
def State.imgRate (s : State) : Nat := max 1 (min 1000 (s.fld R.IMG_CFG F.IMG_CFG_RATE))

/-- IMAGE_BLOCK_SEND: the session's next block goes out, by flood or to one node, no sooner than `RATE` lets it; after the last the session collects
reports. While the engine cannot take it the block stays first. `faults` of the pairs find a comparator fault in it, one after the other (R369). -/
def execImageBlockSend (i : Fin 4) (faults : Fin 5) (s0 : State) : Host.Outcome State Fault Refusal :=
  .next (
    match s0.sess i.val with
    | none => s0
    | some x =>
      match x.toSend with
      | [] => s0
      | (g, e, dest) :: rest =>
        let p := (s0.group x.group).pan
        let s := (s0.advanceTo x.nextAt).enginePipe 57 p faults.val
        let dst := match dest with
          | some o => s.nodeAddr o
          | none => groupAddr x.group
        let dg := udpDatagram (s.chipAddr p) dst x.sport s.imgPort x.hop (x.message g e s.reportWindow rest.isEmpty)
        match s.engineSend (enginePkt 57 (.image i.val) x.cls dg) p with
        | none => s
        | some s2 =>
          let y := { x with toSend := rest, sent := x.sent + 1, nextAt := s2.now + sec 1 / s2.imgRate }
          s2.setSess i.val (if rest.isEmpty then
            { y with state := if x.round = 0 then 3 else 4, waitEnd := s2.now + ms (100 * s2.reportWindow) } else y))

/-- Blocks `n` from a generation's next index on, and the index after them. -/
def ImgSess.rotate (x : ImgSess) (g n : Nat) (next : Nat) : List Nat × Nat :=
  let m := x.kOf g + x.r
  ((List.range n).map (fun k => (next + k) % m), (next + n) % m)

/-- The blocks of one generation in a repair round, with the generation's index after them (R274 step 3). -/
def ImgSess.repair (x : ImgSess) (uni g : Nat) (who : List (Nat × Nat)) : List (Nat × Nat × Option Nat) × Nat :=
  let n0 := aget 0 g x.next
  if who.length ≤ uni then
    who.foldl (fun (a : List (Nat × Nat × Option Nat) × Nat) r =>
      let (es, n) := x.rotate g r.2 a.2
      (a.1 ++ es.map (fun e => (g, e, some r.1)), n)) ([], n0)
  else
    let (es, n) := x.rotate g ((who.map (·.2)).foldl max 0) n0
    (es.map (fun e => (g, e, none)), n)

/-- REPORT_WINDOW_EXPIRY: a repair round starts, or the session ends (R274, R275). -/
def execReportWindowExpiry (i : Fin 4) (s0 : State) : Host.Outcome State Fault Refusal :=
  .next (
    match s0.sess i.val with
    | none => s0
    | some x =>
      if x.state < 2 || !x.toSend.isEmpty then s0
      else
        let s := s0.advanceTo x.waitEnd
        let ns := x.needs
        if ns.isEmpty || x.rounds ≤ x.round then s.imgEnd i.val x stOK
        else
          let uni := s.fld R.IMG_CFG F.IMG_CFG_UNICAST_MAX
          let (send, next) := ns.foldl (fun (a : List (Nat × Nat × Option Nat) × List (Nat × Nat)) e =>
            let (bs, n) := x.repair uni e.1 e.2
            (a.1 ++ bs, aset 0 e.1 n a.2)) ([], x.next)
          s.setSess i.val { x with state := 4, round := x.round + 1, toSend := send, next := next, reports := [] })

/-! ### Missing reports (R273) -/

/-- Entries of a report: generation, need, reserved octet. -/
def reportEntries (n : Nat) (b : List Byte) : List (Nat × Nat × Nat) :=
  (List.range n).map (fun i => (beAt b (8 + 4 * i) 2, beAt b (10 + 4 * i) 1, beAt b (11 + 4 * i) 1))

/-- A report that R273 does not drop: the session it is for, and its entries. -/
def State.reportOk (s : State) (o : Nat) (b : List Byte) : Option (Nat × ImgSess × List (Nat × Nat)) :=
  let n := beAt b 1 1
  let es := reportEntries n b
  if beAt b 0 1 ≠ 0x11 || 96 < n || beAt b 2 2 ≠ 0 || b.length < 8 + 4 * n || es.any (fun e => e.2.2 ≠ 0 || e.2.1 = 0 || 200 < e.2.1) then none
  else
    match s.cvn.sess.find? (fun e => e.2.imageId.toNat = beAt b 4 4 && (s.group e.2.group).members.contains o) with
    | none => none
    | some (i, x) =>
      if es.any (fun e => x.gens ≤ e.1 || x.kOf e.1 < e.2.1) then none else some (i, x, es.map (fun e => (e.1, e.2.1)))

/-- A datagram on the image port reaches the chip's address (R260, R274 step 2). -/
def State.imgRx (s : State) (x : Pkt) (ord : Option Nat) (b : List Byte) : State :=
  let s0 := s.pktEnd x stOK 0 0
  match ord.bind (fun o => (s.reportOk o b).map (fun r => (o, r))) with
  | none => s0.bump R.IMG_CNT_STRAY
  | some (o, i, y, es) =>
    let z := { y with
      reports := (y.reports.filter (fun r => r.1 ≠ o)) ++ [(o, es)]
      heard := if y.heard.contains o then y.heard else o :: y.heard
      done := if es.isEmpty && !y.done.contains o then o :: y.done else y.done }
    let s1 := (s0.bump R.IMG_CNT_REPORTS).setSess i z
    if (s1.group z.group).members.all z.done.contains then s1.imgEnd i z stOK else s1

end Sys2Proof.Machine
end

