-- ==== Sys2Proof/Machine/Uplink.lean ====
section
/-! DEFINITION. Radio frames on their way up: dispatch, decompression, reassembly, elimination of twin copies, DAOs, MPL reception and
delivery (R235, R236, R238, R240, R245, R248, R250, R253, R260). -/

namespace Sys2Proof.Machine

/-! ### Decompression (R235, R236) -/

/-- The IPv6 octets of a payload with dispatch 0x41 or IPHC, from and to link addresses; `size` is the datagram's size in a first fragment. -/
def State.expand (s : State) (p src dst : Nat) (size : Option Nat) (b : List Byte) : Option (List Byte) :=
  let d := beAt b 0 1
  if d = 0x41 then some (b.drop 1)
  else if d / 32 = 3 then iphcOpen (s.contexts p false) src dst size b
  else none

/-! ### Reassembly (R238) -/

def State.reasmSync (s : State) : State := s.setFld R.MESH_REASM_USE F.MESH_REASM_USE_CONTEXTS s.mesh.reasm.length

/-- Octet `i` of the datagram, when a fragment has brought it. -/
def partAt (ps : List (Nat × List Byte)) (i : Nat) : Option Byte :=
  (ps.find? (fun e => e.1 ≤ i && i < e.1 + e.2.length)).map (fun e => e.2.getD (i - e.1) 0)

/-- Octets that have all come. -/
def allCome : List (Option Byte) → Option (List Byte)
  | [] => some []
  | none :: _ => none
  | some b :: r => (allCome r).map (b :: ·)

/-- The datagram, once every octet has come. -/
def Reasm.whole (x : Reasm) : Option (List Byte) := allCome ((List.range x.size).map (partAt x.parts))

/-- A fragment overlaps what has come with other content, or reaches beyond the datagram. -/
def Reasm.clash (x : Reasm) (off : Nat) (bs : List Byte) : Bool :=
  x.size < off + bs.length || (List.range bs.length).any (fun i => (partAt x.parts (off + i)).any (fun b => b ≠ bs.getD i 0))

/-- A context is free. -/
def State.reasmForget (s : State) (x : Reasm) : State :=
  (({ s with mesh := { s.mesh with reasm := s.mesh.reasm.filter (fun (y : Reasm) =>
      !(y.pan = x.pan && y.src = x.src && y.size = x.size && y.tag = x.tag)) } })).reasmSync

/-- A context and the fragments received are discarded. -/
def State.reasmDrop (s : State) (x : Reasm) : State := (s.reasmForget x).freeChain x.chain

/-- A fragment joins its context: the state, and the datagram with its chain if it is complete. The datagram keeps the cells of its fragments
(R278; DEDUCED, log entry 52). -/
def State.reasmPut (s : State) (x : Pkt) (p src size tag off : Nat) (bs : List Byte) : State × Option Pkt :=
  match s.mesh.reasm.find? (fun y => y.pan = p && y.src = src && y.size = size && y.tag = tag) with
  | none =>
    if 2048 ≤ s.mesh.reasm.length then ((s.bump R.MESH_CNT_REASMFULL).pktEnd x stOK 0 0, none)
    else if size < off + bs.length then ((s.bump R.MESH_CNT_DECOMP).pktEnd x stOK 0 0, none)
    else
      let y : Reasm := ⟨p, src, size, tag, s.now, x.chain, [(off, bs)]⟩
      match y.whole with
      | some dg => (s, some { x with dg := dg })
      | none => (({ s with mesh := { s.mesh with reasm := s.mesh.reasm ++ [y] } }).reasmSync, none)
  | some y =>
    if y.clash off bs then (((s.reasmDrop y).bump R.MESH_CNT_DECOMP).pktEnd x stOK 0 0, none)
    else
      let z := { y with chain := y.chain ++ x.chain, parts := y.parts ++ [(off, bs)] }
      match z.whole with
      | some dg => (s.reasmForget z, some { x with dg := dg, chain := z.chain })
      | none =>
        ({ s with mesh := { s.mesh with reasm := s.mesh.reasm.map (fun (w : Reasm) =>
            if w.pan = p && w.src = src && w.size = size && w.tag = tag then z else w) } }, none)

/-- REASSEMBLY_TIMEOUT: 60 s after the first fragment. -/
def execReassemblyTimeout (p : Fin 8) (src size tag : Nat) (s : State) : Host.Outcome State Fault Refusal :=
  .next (
    match s.mesh.reasm.find? (fun y => y.pan = p.val && y.src = src && y.size = size && y.tag = tag) with
    | none => s
    | some y => ((s.advanceTo (y.start + sec 60)).reasmDrop y).bump R.MESH_CNT_REASMTMO)

/-! ### Twin copies (R250, R253) -/

/-- Key of the elimination cache. -/
def twinKey (p o seq : Nat) : Nat := (p * 524288 + o) * 65536 + seq % 65536

/-- TWIN_ENTRY_EXPIRY: 16 s after insertion. -/
def execTwinEntryExpiry (p : Fin 8) (o : Fin 524288) (seq : BitVec 16) (s : State) : Host.Outcome State Fault Refusal :=
  .next (
    match s.mesh.twins.find? (fun e => e.1 = twinKey p.val o.val seq.toNat) with
    | none => s
    | some e =>
      let s1 := s.advanceTo e.2
      ({ s1 with mesh := { s1.mesh with twins := adel e.1 s1.mesh.twins } }).cacheSync)

/-- Test and insertion of a twin copy: true for a second copy, which is dropped. -/
def State.twinSeen (s : State) (k : Nat) : State × Bool :=
  if s.mesh.twins.any (fun e => e.1 = k) then (s.bump R.MESH_CNT_TWINDUP, true)
  else
    let full := 65536 ≤ s.mesh.twins.length
    let l := if full then adel (nearest s.mesh.twins) s.mesh.twins else s.mesh.twins
    let s1 := { s with mesh := { s.mesh with twins := aput k (s.now + sec 16) (adel k l) } }
    ((if full then s1.bump R.MESH_CNT_TWINEVICT else s1).cacheSync, false)

/-! ### Extension headers (R245, R248) -/

/-- Options of a Hop-by-Hop header: type and data. -/
def hbhOpts : Nat → List Byte → List (Nat × List Byte)
  | 0, _ => []
  | n + 1, b =>
    match b with
    | [] => []
    | t :: r =>
      if t = 0 then (0, []) :: hbhOpts n r
      else (t.toNat, (r.drop 1).take (beAt r 0 1)) :: hbhOpts n (r.drop (1 + beAt r 0 1))

/-- Octets of the Hop-by-Hop header of a datagram that starts with one. -/
def hbhLen (dg : List Byte) : Nat := (beAt dg 41 1 + 1) * 8

def ipOpts (dg : List Byte) : List (Nat × List Byte) := hbhOpts 2048 (((dg.drop 42).take (hbhLen dg - 2)))

/-- The datagram without a Hop-by-Hop header that carries nothing but an RPL option and padding. -/
def stripRpl (dg : List Byte) : List Byte :=
  let os := ipOpts dg
  if ipNext dg = 0 && os.any (fun o => o.1 = 0x63) && os.all (fun o => o.1 = 0x63 || o.1 = 0 || o.1 = 1) then
    dg.take 4 ++ beBytes 2 (beAt dg 4 2 - hbhLen dg) ++ beBytes 1 (beAt dg 40 1) ++ (dg.drop 7).take 33 ++ dg.drop (40 + hbhLen dg)
  else dg

/-- What an IPv6-in-IPv6 header, with or without a Hop-by-Hop header, encapsulates. -/
def tunnelInner (dg : List Byte) : Option (List Byte) :=
  if ipNext dg = 41 then some (dg.drop 40)
  else if ipNext dg = 0 && beAt dg 40 1 = 41 then some (dg.drop (40 + hbhLen dg))
  else none

/-- Seed and sequence of an MPL option (RFC 7731): a 16-bit seed ID with S = 1, a longer one with 2 and 3, the source address with 0. -/
def mplOf (dg : List Byte) : Option (Nat × Nat) :=
  if ipNext dg ≠ 0 then none
  else
    (((ipOpts dg).find? (fun o => o.1 = 0x6D)).map (·.2)).bind (fun d =>
      match beAt d 0 1 / 64 with
      | 0 => some (ipSrc dg, beAt d 1 1)
      | 1 => some (seed16 (beAt d 2 2), beAt d 1 1)
      | 2 => some (2 * 2 ^ 128 + beAt d 2 8, beAt d 1 1)
      | _ => some (3 * 2 ^ 128 + beAt d 2 16, beAt d 1 1))

/-! ### DAOs (R240) -/

/-- Protocol and place of what follows the Hop-by-Hop, Routing and Destination Options headers (RFC 8200) from a place on; at most 16 are read. -/
def upperFrom (dg : List Byte) : Nat → Nat → Nat → Nat × Nat
  | 0, next, at_ => (next, at_)
  | n + 1, next, at_ =>
    if next = 0 || next = 43 || next = 60 then upperFrom dg n (beAt dg at_ 1) (at_ + (beAt dg (at_ + 1) 1 + 1) * 8) else (next, at_)

/-- The datagram from its ICMPv6 header on, behind the extension headers that stay in it (R245). -/
def icmpOf (dg : List Byte) : Option (List Byte) :=
  let (next, at_) := upperFrom dg 16 (ipNext dg) 40
  if next = 58 then some (dg.drop at_) else none

/-- An RPL DAO. -/
def isDao (dg : List Byte) : Bool := (icmpOf dg).any (fun m => beAt m 0 1 == 155 && beAt m 1 1 == 2)

/-- Options of an RPL DAO, which follow its base: type and data. -/
def daoOpts (dg : List Byte) : List (Nat × List Byte) :=
  let m := (icmpOf dg).getD []
  hbhOpts 2048 (m.drop (if nbit (beAt m 5 1) 6 then 24 else 8))

/-- One Transit Information option: its rank (RFC 6550: the first of the four subfields of Path Control that is in use, PC1 the most preferred; 4 for
none), Path Sequence, Path Lifetime, parent address. -/
structure Transit where
  rank : Nat
  seq : Nat
  life : Nat
  parent : Option Nat
deriving DecidableEq, Repr

def pathRank (c : Nat) : Nat := ([0, 1, 2, 3].find? (fun k => c / 4 ^ (3 - k) % 4 ≠ 0)).getD 4

def transitOf (d : List Byte) : Transit :=
  ⟨pathRank (beAt d 1 1), beAt d 2 1, beAt d 3 1, if d.length < 20 then none else some (beAt d 4 16)⟩

/-- Inserts an option behind those of equal or higher preference. -/
def transitInsert (t : Transit) : List Transit → List Transit
  | [] => [t]
  | u :: r => if t.rank < u.rank then t :: u :: r else u :: transitInsert t r

/-- Path Sequence comparison of RFC 6550, window 16: whether `a` is newer than `b`; numbers that cannot be compared are not newer (DEDUCED,
log entry 53). -/
def pathNewer (a b : Nat) : Bool :=
  if 128 ≤ a && 128 ≤ b then b < a && a - b ≤ 16
  else if a < 128 && b < 128 then 0 < (a + 128 - b) % 128 && (a + 128 - b) % 128 ≤ 16
  else if 128 ≤ a then 16 < 256 + b - a
  else 256 + a - b ≤ 16

/-- `LIFETIME_UNIT` as it acts. -/
def State.lifetimeUnit (s : State) (p : Nat) : Nat := max 1 (s.fld (R.MESH_PAN_RPL p) F.MESH_PAN_RPL_LIFETIME_UNIT)

/-- The node of an address of a PAN, or the target itself for the chip's own address. -/
def State.parentOf (s : State) (p target a : Nat) : Option Nat := if a = s.chipAddr p then some target else s.iidFind p (a % 2 ^ 64)

/-- A DAO is applied to one Target (R240). Path Sequence and Path Lifetime are those of the first option; an option without a parent address is skipped
and not counted; with one parent the alternate lapses, and with none that resolves the pointers stay (log entry 53). -/
def State.daoTarget (s : State) (p : Nat) (ts : List Transit) (o : Nat) : State :=
  match ts with
  | [] => s
  | t :: _ =>
    let r := s.node o
    if r.parentV && !pathNewer t.seq r.pathSeq then s.bump R.MESH_CNT_DAOOLD
    else
      let named := ts.filterMap (fun u => u.parent)
      let got := named.filterMap (s.parentOf p o)
      let s1 := s.bumpBy R.MESH_CNT_DAOBAD (named.length - got.length)
      let r1 := { r with
        pathSeq := t.seq
        pathExpireS := if t.life = 255 then 0xFFFFFFFF else (s1.citySec + t.life * s1.lifetimeUnit p) % 2 ^ 32 }
      let r2 :=
        if t.life = 0 then { r1 with parentV := false, altV := false }
        else
          match got with
          | [] => r1
          | q :: rest => { r1 with parent := q, parentV := true, altParent := rest.headD 0, altV := !rest.isEmpty }
      s1.setNode o r2

/-- A DAO that reaches the chip: every Target of prefix length 128 that resolves. -/
def State.dao (s : State) (p : Nat) (dg : List Byte) : State :=
  let os := daoOpts dg
  let ts := ((os.filter (fun o => o.1 = 6)).map (fun o => transitOf o.2)).foldl (fun l t => transitInsert t l) []
  let targets := (os.filter (fun o => o.1 = 5 && beAt o.2 1 1 = 128)).filterMap (fun o => s.iidFind p (beAt o.2 10 8))
  targets.foldl (fun s o => s.daoTarget p ts o) s

/-- The copy of a DAO for `JOIN_RING`, in cells of its own; its metadata says that it is a DAO (R320). -/
def State.daoCopy (s : State) (x : Pkt) (p : Nat) : State :=
  let n := frameCells x.dg.length
  if !s.flag (R.MESH_PAN_CFG p) F.MESH_PAN_CFG_DAO_COPY || !s.cellsOk n false then s
  else
    let (cs, s1) := s.takeChain n
    let y := { x with chain := cs, up := x.up.set 0 (wordAt x.up 0 ||| 0x4000) }
    s1.pktQueue y (qHost (s.panOwner p) (s.fld (R.PAN_POLICY p) F.PAN_POLICY_JOIN_RING))

/-! ### Delivery (R245, R248, R260) -/

/-- The datagram is one of the chip's own ports', or goes on under LPM. -/
def State.localOrForward (s : State) (x : Pkt) (p : Nat) (own : Bool) : State :=
  let dg := x.dg
  if own && ipNext dg = 17 && beAt dg 42 2 = s.cvnPort then s.cvnRx x (s.iidFind p (ipSrc dg % 2 ^ 64)) (dg.drop 48)
  else if own && ipNext dg = 17 && beAt dg 42 2 = s.imgPort then s.imgRx x (s.iidFind p (ipSrc dg % 2 ^ 64)) (dg.drop 48)
  else s.lpmForward x

/-- An MPL datagram (R248): a consistent copy, or a new one, which is delivered under LPM and, with `MPL_FWD`, forwarded. -/
def State.mplRx (s : State) (x : Pkt) (p seed seq : Nat) : State :=
  let k := seenKey p seed seq
  if s.seenHas k then
    let s1 := { s with mesh := { s.mesh with floods := s.mesh.floods.map (fun (f : Flood) =>
      if f.pan = p && f.seed = seed && f.seq = seq % 256 then { f with heard := f.heard + 1 } else f) } }
    (s1.bump R.MESH_CNT_MPLDUP).pktEnd x stOK 0 0
  else
    let s1 := s.seenPut k
    let hop := ipHop x.dg
    let s2 :=
      if s1.flag (R.MESH_PAN_CFG p) F.MESH_PAN_CFG_MPL_FWD && 2 ≤ hop then
        let n := frameCells x.dg.length
        let (cs, s2) := if s1.cellsOk n false then s1.takeChain n else ([], s1)
        s2.floodStart p x.cls seed seq (ipSetHop x.dg (hop - 1)) cs .own true
      else s1
    s2.lpmForward { x with dg := stripRpl ((tunnelInner x.dg).getD x.dg) }

/-- A datagram from the mesh of a PAN that MPL does not take: an RPL-only header is removed, a DAO is read, and it goes on (R260: also one that is
addressed to the chip). -/
def State.uplinkOne (s : State) (x : Pkt) (p : Nat) (tunnelled : Bool) : State :=
  let y := { x with dg := stripRpl x.dg }
  let own := ipDst y.dg = s.chipAddr p
  if isDao y.dg && (own || tunnelled) then ((s.daoCopy y p).dao p y.dg).localOrForward y p own else s.localOrForward y p own

/-- A datagram from the mesh of a PAN. -/
def State.uplinkDg (s : State) (x : Pkt) (p : Nat) (tunnelled : Bool) : State :=
  match mplOf x.dg with
  | some (seed, seq) => if ipMulticast x.dg then s.mplRx x p seed seq else s.uplinkOne x p tunnelled
  | none => s.uplinkOne x p tunnelled

/-- The datagram after an outer header that is addressed to the chip, and whether there was one. -/
def State.decap (s : State) (p : Nat) (dg : List Byte) : List Byte × Bool :=
  if ipDst dg = s.chipAddr p then
    match tunnelInner dg with
    | some d => (d, true)
    | none => (dg, false)
  else (dg, false)

/-- Metadata of a twin datagram (R253). -/
def twinUp (up : List Word) (seq : Nat) : List Word :=
  let u := up.set 0 (wordAt up 0 ||| 0x2000)
  u.set 6 ((wordAt u 6 &&& 0xFFFF) ||| w32 (seq % 65536 * 65536))

/-- A datagram leaves decompression; `twin` is the sequence of its twin-path header. -/
def State.uplinkWhole (s : State) (x : Pkt) (p : Nat) (dg : List Byte) (twin : Option Nat) : State :=
  let (d, tun) := s.decap p dg
  let y := { x with dg := d, prio := s.classPrio x.cls }
  match twin with
  | none => s.uplinkDg y p tun
  | some seq =>
    match s.iidFind p (ipSrc d % 2 ^ 64) with
    | none => (s.bump R.MESH_CNT_TWINNOORG).uplinkDg y p tun
    | some o =>
      let (s1, dup) := s.twinSeen (twinKey p o seq)
      if dup then s1.pktEnd y stOK 0 0 else s1.uplinkDg { y with up := twinUp y.up seq } p tun

/-- The MAC payload of a frame that the link layer has accepted: `x.dg` is the payload, `src` and `dst` the link-layer addresses (a short address, or
2^16 plus an EUI-64). The radio class of an uplink frame is not given: a free value (log entry 55). -/
def State.uplink (s0 : State) (x0 : Pkt) (p src dst : Nat) : State :=
  let (k, s) := s0.draw 4
  let x := { x0 with cls := k }
  let b := x.dg
  let d := beAt b 0 1
  let bad (s : State) (x : Pkt) : State := (s.bump R.MESH_CNT_DECOMP).pktEnd x stOK 0 0
  let whole (s : State) (x : Pkt) (dg : List Byte) (twin : Option Nat) : State :=
    if dg.length < 40 then bad s x else s.uplinkWhole x p dg twin
  let part (off : Nat) (bs : List Byte) : State :=
    match s.reasmPut x p src (beAt b 0 2 % 2048) (beAt b 2 2) off bs with
    | (s1, none) => s1
    | (s1, some y) => whole s1 y y.dg none
  if d = s.fld R.MESH_TWIN_CFG F.MESH_TWIN_CFG_DISPATCH then
    let nx := beAt b 4 1 / 8
    if beAt b 1 1 / 64 ≠ 0 || nx = 24 || nx = 28 then (s.bump R.MESH_CNT_TWINBAD).pktEnd x stOK 0 0
    else
      match s.expand p src dst none (b.drop 4) with
      | none => bad s x
      | some dg => whole s x dg (some (beAt b 2 2))
  else if d / 8 = 24 then
    match s.expand p src dst (some (beAt b 0 2 % 2048)) (b.drop 4) with
    | none => bad s x
    | some first => part 0 first
  else if d / 8 = 28 then part (8 * beAt b 4 1) (b.drop 5)
  else
    match s.expand p src dst none b with
    | none => bad s x
    | some dg => whole s x dg none

end Sys2Proof.Machine
end

