-- ==== Sys2Proof/Machine/Pan.lean ====
section
/-! DEFINITION. PAN slots: creation, deletion, change of owner, and the `PAN` registers (R132 to R134, R139, R164). -/

namespace Sys2Proof.Machine

/-- `PAN_pCTRL` of a slot is created (R132): the slot's quarantine list is kept with the same `PAN_ID` and discarded with another (R139). -/
def State.panCreate (s : State) (p : Nat) (data : Word) : State :=
  let id := s.panId p
  if id = 0xFFFF || (List.range 8).any (fun q => q ≠ p && s.panOn q && s.panId q = id) then s.err R.LINK_ERR F.LINK_ERR_PAN_INVALID
  else
    let was := aget 0 p s.link.quarId
    let s1 := s.wr (R.PAN_CTRL p) (data &&& 0xF)
    { s1 with link := { s1.link with
        quarId := aset 0 p (id + 1) s1.link.quarId
        quar := if was = 0 || was = id + 1 then s1.link.quar else s1.link.quar.filter (fun (e : Nat × Nat) => e.1 / 2 ^ 16 ≠ p) } }.addrSync p

/-- A write to an existing PAN with `ENABLE` 1 changes `OWNER` only (R133). -/
def State.panChange (s : State) (p : Nat) (data : Word) : State :=
  let s1 := s.setFld (R.PAN_CTRL p) F.PAN_CTRL_OWNER (fget F.PAN_CTRL_OWNER data)
  if fget F.PAN_CTRL_SECURED data = s.fld (R.PAN_CTRL p) F.PAN_CTRL_SECURED then s1 else s1.err R.LINK_ERR F.LINK_ERR_PAN_BUSY

/-- The slotframes of a PAN are disabled at once (R110), and its beacons that have not started leave the plan. -/
def State.panSilence (s : State) (p : Nat) : State :=
  let s1 := (List.range 64).foldl (fun s i =>
    if s.fld (R.SLOT_SF_W0 i) F.SLOT_SF_W0_PAN = p then s.setFld (R.SLOT_SF_W0 i) F.SLOT_SF_W0_ENABLE 0 else s) s
  s1.withdraw (fun t => t.kind = 1 && t.pan = p)

/-- Neighbour indexes of a PAN. -/
def State.panNbrs (s : State) (p : Nat) : List Nat :=
  (s.link.nbrs.filter (fun e => e.2.valid && e.2.pan = p)).map (fun e => e.1)

/-- The join key and both group keys of a PAN are unloaded, and what waits for them goes. -/
def State.panKeys (s : State) (p : Nat) : State :=
  let s1 := (s.groupUnload p 0).groupUnload p 1
  let s2 := ((s1.unbind (8192 + 4 * p)).keyForget (.join p)).wr (R.KEY_PAN_CFG p)
    (w32 (s.fld (R.KEY_PAN_CFG p) F.KEY_PAN_CFG_TX_LEVEL))
  let s3 := s2.setFld (R.KEY_PAN_CFG p) F.KEY_PAN_CFG_CUR (s.groupCur p)
  let mine (r : KeyRole) : Bool := r == .join p || r == .group p 0 || r == .group p 1
  { s3 with key := { s3.key with
      grace := aset 0 p 0 s3.key.grace
      loads := s3.key.loads.filter (fun (l : KeyLoad) => !mine l.role)
      waits := s3.key.waits.filter (fun (w : RxWait) => !mine w.role) } }

/-- Caravans, waiting postings and image sessions on the groups of a PAN end FLUSHED. -/
def State.panGroups (s : State) (p : Nat) : State :=
  let s1 := (s.cvn.open_.filter (fun c => (s.group c.group).pan = p)).foldl (fun s c => s.cvnAbort c.cid stFLUSHED false) s
  let s2 := (s1.cvn.waiting.filter (fun w => (s1.group (cmdGroup w.cmd)).pan = p)).foldl (fun s w => s.cvnWaitEnd w stFLUSHED) s1
  [0, 1, 2, 3].foldl (fun s i =>
    match s.sess i with
    | none => s
    | some x => if (s.group x.group).pan = p then (s.flushQueue (qImage i)).imgAbort i x else s) s2

/-- Rolls of a PAN that have not been carried out complete FLUSHED. -/
def State.panRolls (s : State) (p : Nat) : State :=
  (s.key.rolls.filter (fun r => r.pan = p)).foldl (fun s r => s.cmdDone r.cmd stFLUSHED [] 0 0)
    { s with key := { s.key with rolls := s.key.rolls.filter (fun (r : Roll) => r.pan ≠ p) } }

/-- A PAN is deleted (R134): the seven effects in their order. A write of `ENABLE` 0 to a slot without a PAN stores its other fields. -/
def State.panDelete (s : State) (p : Nat) (data : Word) : State :=
  if !s.panOn p then s.wr (R.PAN_CTRL p) (data &&& 0xE)
  else
    let s1 := (s.wr (R.PAN_CTRL p) (data &&& 0xE)).panSilence p
    let s2 := ([0, 1, 2, 3].map (qBcast p) ++ [qFlood p]).foldl State.flushQueue s1
    let s3 := (s2.panNbrs p).foldl State.nbrRemove s2
    let as := (s3.link.assigned.filter (fun e => e.1 / 2 ^ 16 = p)).map (fun e => e.1 % 2 ^ 16)
    let s4 := as.foldl (fun s a => s.shortQuar p a 86400) s3
    (((s4.panKeys p).panGroups p).panRolls p).airSync

/-- A guarded write of `PAN_pCTRL` (R132 to R134). -/
def State.panCtrl (s : State) (part p : Nat) (data : Word) : State :=
  s.guarded part (R.PAN_CTRL p) data (fun s =>
    if part ≠ 0 then s.err R.LINK_ERR F.LINK_ERR_PART_WRITE
    else if fget F.PAN_CTRL_ENABLE data = 0 then s.panDelete p data
    else if s.panOn p then s.panChange p data
    else s.panCreate p data)

def execPanCreate (part : Part) (p : Fin 8) (data : Word) (s : State) : Host.Outcome State Fault Refusal :=
  .next (if s.panOn p.val then s else s.panCtrl part.val p.val (fset F.PAN_CTRL_ENABLE data 1))

def execPanDelete (part : Part) (p : Fin 8) (data : Word) (s : State) : Host.Outcome State Fault Refusal :=
  .next (s.panCtrl part.val p.val (fset F.PAN_CTRL_ENABLE data 0))

def execPanOwnerChange (part : Part) (p : Fin 8) (data : Word) (s : State) : Host.Outcome State Fault Refusal :=
  .next (if s.panOn p.val then s.panCtrl part.val p.val (fset F.PAN_CTRL_ENABLE data 1) else s)

/-- A write of `PAN_pID`: ignored while the PAN exists (R132). -/
def State.panIdWrite (s : State) (part p : Nat) (data : Word) : State :=
  if !s.panMay part p then s.err R.LINK_ERR F.LINK_ERR_PART_WRITE
  else if s.panOn p then s.err R.LINK_ERR F.LINK_ERR_PAN_BUSY
  else s.wr (R.PAN_ID p) (data &&& 0xFFFF)

/-- A write of another `PAN_p` register by partition 0 or the PAN's owner. -/
def State.panReg (s : State) (part p k : Nat) (v : Word) : State :=
  if s.panMay part p then s.wr k v else s.err R.LINK_ERR F.LINK_ERR_PART_WRITE

end Sys2Proof.Machine
end

