-- ==== Sys2Proof/Machine/Air.lean ====
section
/-! DEFINITION. What a transmission needs: air times, power sums, streams, beams and channels (R31, R44, R46, R66, R68 to R72, R77), and the
slot grid and its cells (R103, R106, R111, R112). -/

namespace Sys2Proof.Machine

/-! ### PHY and air time (R81, R156) -/

/-- How a frame is modulated: family, mode byte, MCS or rate mode, FEC, preamble octets. -/
structure Phy where
  fam : Nat
  mode : Nat
  mcs : Nat
  fec : Bool
  pre : Nat
deriving DecidableEq, Repr

/-- PHY of a neighbour entry (R140). -/
def State.nbrPhy (s : State) (n : Nat) : Phy :=
  let x := s.nbr n
  ⟨s.family x.profile, x.txMode, x.txMcs, x.txFec, x.preamble⟩

/-- PHY of a PAN's broadcasts and beacons. -/
def State.panPhy (s : State) (p : Nat) : Phy :=
  let k := R.PAN_PHY p
  ⟨s.fld k F.PAN_PHY_FAMILY, s.fld k F.PAN_PHY_MODE, s.fld k F.PAN_PHY_MCS, s.flag k F.PAN_PHY_FEC, s.fld k F.PAN_PHY_PREAMBLE⟩

/-- Air time in ns of a PSDU: uncoded FSK has preamble and a 2-octet SFD at one bit a symbol, then a 2-octet PHR and the PSDU at one bit a
symbol in 2-FSK and two in 4-FSK (R480); 2.4 GHz O-QPSK takes 32 µs an octet with 6 octets of overhead (the example before R131); the
rest is not given by the spec. -/
def Phy.air (y : Phy) (psdu : Nat) : Nat :=
  if y.fam = 0 && !y.fec then
    (if nbit y.mode 4 then 8 * y.pre + 24 + 4 * psdu else 8 * (y.pre + 4 + psdu)) * 10000000 / fskRate y.mode
  else if y.fam = 3 then (psdu + 6) * 32000
  else Config.airNs y.fam (y.mode % 128) y.mcs y.fec y.pre psdu

/-- FCS octets of a frame that the chip sends (R479). -/
def Phy.fcs (y : Phy) : Nat := if y.fam = 3 then 2 else 4

/-! ### Power (R69, R70) -/

/-- 10^(-j/40), in units of 10^-24. -/
def powTable : List Nat :=
  [1000000000000000000000000, 944060876285923380364380, 891250938133745529953109, 841395141645195091152742,
    794328234724281502065918, 749894209332455827302184, 707945784384137910802215, 668343917568614608362574,
    630957344480193249434360, 595662143529010460509798, 562341325190349080394951, 530884444230988352200462,
    501187233627272285001554, 473151258961480478903271, 446683592150963118556251, 421696503428582248569013,
    398107170553497250770252, 375837404288444167377711, 354813389233575458433219, 334965439157827659548773]
  ++ [316227766016837933199889, 298538261891795961791328, 281838293126445381910192, 266072505979880963499131,
    251188643150958011108503, 237137370566165526165175, 223872113856833961195495, 211348903983664679556035,
    199526231496887960135246, 188364908948980053500089, 177827941003892280122542, 167880401812256031397195,
    158489319246111348520210, 149623565609443341188029, 141253754462275430215561, 133352143216332402567593,
    125892541179416721042395, 118850222743701843773012, 112201845430196343559104, 105925372517728887880928]

/-- Power of a code relative to -10 dBm, in units of 10^-28: a code is 0.25 dB, and codes above 160 act as 160. -/
def codePower (code : Nat) : Nat :=
  let c := min 160 code
  powTable.getD (c % 40) 0 * 10 ^ (4 - c / 40)

/-- The first code from one on at which a new stream fits under a cap beside the power in use; `none` below -50 dBm. -/
def fitCode (used cap : Nat) : Nat → Nat → Option Nat
  | 0, _ => none
  | n + 1, code => if 160 < code then none else if used + codePower code ≤ cap then some code else fitCode used cap n (code + 1)

/-! ### Streams (R68, R70) -/

/-- Transmissions whose air time overlaps an interval. -/
def State.onAir (s : State) (from_ until_ : Nat) : List AirTx := s.air.filter (fun t => t.holds s.cityNs && t.tStart < until_ && from_ < t.tEnd)

/-- What the stream and power checks of R70 answer: a stream and a power code, no stream, or no power. -/
inductive Grant where
  | ok (stream code : Nat)
  | noStream
  | noPower
deriving DecidableEq, Repr

/-- The checks of R70 in their order for a transmission on an array. -/
def State.grant (s : State) (a from_ until_ code : Nat) : Grant :=
  let busy := s.onAir from_ until_
  let mine := busy.filter (fun t => t.array = a)
  match (List.range 16).find? (fun k => busy.all (fun t => t.stream ≠ k)) with
  | none => .noStream
  | some k =>
    if 8 ≤ mine.length then .noStream
    else
      match fitCode ((mine.map (fun t => codePower t.power)).sum) (codePower (s.fld (R.ARR_TX_CAP a) F.ARR_TX_CAP_CAP)) 161 (min 160 code) with
      | none => .noPower
      | some c => .ok k c

/-- A failed grant is counted. -/
def State.grantCount (s : State) : Grant → State
  | .noStream => s.bump R.ARR_CNT_STRDEF
  | .noPower => s.bump R.ARR_CNT_PWRDEF
  | .ok _ _ => s

/-! ### Channels, windows and beams (R31, R46, R62, R66) -/

/-- A channel: its centre in 125 Hz units and its bandwidth in Hz: of a transmission, its occupied bandwidth (R44). -/
structure Chan where
  centre : Nat
  hz : Nat
deriving DecidableEq, Repr

/-- The channel lies inside the band plan (R44). -/
def State.chanPlanned (s : State) (c : Chan) : Bool :=
  s.inPlan ((c.centre * 125 : Nat) - (c.hz / 2 : Nat)) ((c.centre * 125 : Nat) + (c.hz / 2 : Nat))

/-- The window of an array that holds a channel with the guard of its family (R46, R77). -/
def State.winOf (s : State) (a fam : Nat) (c : Chan) : Option Nat :=
  let (lo, hi) := spanUHz c.centre c.hz (guardUHz fam c.centre)
  (s.windows a).find? (fun w => s.inSpan a w lo hi)

/-- The beam that an array uses in place of a beam: its omni beam while its calibration is stale (R66). -/
def State.beamUsed (s : State) (b : Nat) : Nat :=
  let a := s.beamArray b
  if s.flag (R.ARR_CAL_STATUS a) F.ARR_CAL_STATUS_STALE && s.flag (R.ARR_CFG a) F.ARR_CFG_STALE_OMNI then
    s.fld (R.ARR_CFG a) F.ARR_CFG_OMNI
  else b

/-- The omni beams of the enabled arrays that have a window holding a channel (R31). -/
def State.omniBeams (s : State) (fam : Nat) (c : Chan) : List Nat :=
  ([0, 1, 2, 3].filter s.arrOn).filterMap (fun a =>
    (s.winOf a fam c).bind (fun w =>
      let o := s.fld (R.ARR_CFG a) F.ARR_CFG_OMNI
      if s.txZero o w then none else some o))

/-- The beams a frame goes on (R31): the beam asked for while it is active, its array has a window that holds the channel and its transmit
weights are not all zero in it (R62), else the omni beams. An active beam without such a window answers none. -/
def State.beamsFor (s : State) (fam : Nat) (c : Chan) (want : Option Nat) : List Nat :=
  match want with
  | none => s.omniBeams fam c
  | some b =>
    if !s.beamActive b then s.omniBeams fam c
    else
      match s.winOf (s.beamArray b) fam c with
      | none => []
      | some w => if s.txZero (s.beamUsed b) w then s.omniBeams fam c else [s.beamUsed b]

/-! ### The slot grid (R103, R106) -/

/-- Epoch, slot length and preparation lead (as it acts), in ns, as the registers give them. -/
def State.gridNow (s : State) : Nat × Nat × Nat :=
  ((s.rd R.SLOT_EPOCH_S).toNat * 1000000000 + s.fld R.SLOT_EPOCH_NS F.SLOT_EPOCH_NS_NS, s.fld R.SLOT_CFG F.SLOT_CFG_LENGTH * 1000,
    1000 * max 200 (min 4000 (s.fld R.SLOT_CFG F.SLOT_CFG_PREP_LEAD)))

/-- The grid in force: an engine that has been started keeps the values of its start (DEDUCED, log entry 60). -/
def State.grid (s : State) : Nat × Nat × Nat := s.slot.grid.getD s.gridNow
def State.epochNs (s : State) : Nat := s.grid.1
def State.slotNs (s : State) : Nat := s.grid.2.1
def State.prepNs (s : State) : Nat := s.grid.2.2

/-- The slot a city time lies in, counted from the epoch without the wrap of the ASN. -/
def State.slotOf (s : State) (t : Nat) : Nat := (t - s.epochNs) / max 1 s.slotNs

/-- City time, in ns, of the boundary that begins a slot. -/
def State.boundary (s : State) (n : Nat) : Nat := s.epochNs + n * s.slotNs

def State.tplTxOffset (s : State) (t : Nat) : Nat := s.fld (R.SLOT_TPL_W0 t) F.SLOT_TPL_W0_TX_OFFSET
def State.tplRxWait (s : State) (t : Nat) : Nat := s.fld (R.SLOT_TPL_W1 t) F.SLOT_TPL_W1_RX_WAIT
def State.tplAckDelay (s : State) (t : Nat) : Nat := s.fld (R.SLOT_TPL_W2 t) F.SLOT_TPL_W2_TX_ACK_DELAY
def State.tplAckWait (s : State) (t : Nat) : Nat := s.fld (R.SLOT_TPL_W2 t) F.SLOT_TPL_W2_ACK_WAIT
def State.tplMaxTx (s : State) (t : Nat) : Nat := s.fld (R.SLOT_TPL_W3 t) F.SLOT_TPL_W3_MAX_TX
def State.tplMaxAck (s : State) (t : Nat) : Nat := s.fld (R.SLOT_TPL_W4 t) F.SLOT_TPL_W4_MAX_ACK

/-! ### Slotframes and cells (R109 to R112) -/

def State.sfOn (s : State) (i : Nat) : Bool := s.flag (R.SLOT_SF_W0 i) F.SLOT_SF_W0_ENABLE
def State.sfPan (s : State) (i : Nat) : Nat := s.fld (R.SLOT_SF_W0 i) F.SLOT_SF_W0_PAN
def State.sfTpl (s : State) (i : Nat) : Nat := s.fld (R.SLOT_SF_W0 i) F.SLOT_SF_W0_TEMPLATE
def State.sfHop (s : State) (i : Nat) : Nat := s.fld (R.SLOT_SF_W0 i) F.SLOT_SF_W0_HOP
def State.sfDepth (s : State) (i : Nat) : Nat := s.fld (R.SLOT_SF_W0 i) F.SLOT_SF_W0_DEPTH
def State.sfLen (s : State) (i : Nat) : Nat := s.fld (R.SLOT_SF_W1 i) F.SLOT_SF_W1_LENGTH
def State.sfBase (s : State) (i : Nat) : Nat := s.fld (R.SLOT_SF_W2 i) F.SLOT_SF_W2_BASE

/-- The enabled slotframes, ascending. -/
def State.sfs (s : State) : List Nat := (List.range 64).filter s.sfOn

def State.cellWord (s : State) (c w : Nat) : Word := aget 0 (2 * c + w) s.slot.cells

def Cell.tx (c : Cell) : Bool := bitAt c.w0 1
def Cell.rx (c : Cell) : Bool := bitAt c.w0 2
def Cell.shared (c : Cell) : Bool := bitAt c.w0 3
def Cell.timekeeping (c : Cell) : Bool := bitAt c.w0 4
def Cell.adv (c : Cell) : Bool := bitAt c.w0 5
def Cell.classes (c : Cell) : Nat := bitsAt c.w0 8 4
def Cell.offset (c : Cell) : Nat := bitsAt c.w0 16 16
def Cell.nbr (c : Cell) : Nat := bitsAt c.w1 0 13
def Cell.bcast (c : Cell) : Bool := bitAt c.w1 13
def Cell.beam (c : Cell) : Option Nat := if bitAt c.w1 20 then some (bitsAt c.w1 14 6) else none

/-- The cells in use that the engine reads for a slot (R112), in ascending slotframe and depth. -/
def State.slotCells (s : State) (asn : Nat) : List Cell :=
  s.sfs.flatMap (fun i =>
    ((List.range (s.sfDepth i)).map (fun d =>
      let n := s.sfBase i + asn % max 1 (s.sfLen i) * s.sfDepth i + d
      ⟨i, n, s.cellWord n 0, s.cellWord n 1⟩)).filter (fun c => bitAt c.w0 0))

/-- The cell names a neighbour for its own frames. -/
def Cell.names (c : Cell) (n : Nat) : Bool := !c.adv && !c.bcast && c.nbr == n

/-- The channel of a cell in a slot (R111), as wide as the spacing of its hop sequence (DEDUCED, log entry 56). -/
def State.cellChan (s : State) (c : Cell) (asn : Nat) : Chan :=
  let h := s.sfHop c.sf
  let len := s.fld (R.SLOT_HOP_CFG h) F.SLOT_HOP_CFG_LEN
  let k := aget 0 (512 * h + (asn + c.offset) % max 1 len) s.slot.hops
  let sp := s.fld (R.SLOT_HOP_CFG h) F.SLOT_HOP_CFG_SPACING
  ⟨s.fld (R.SLOT_HOP_CH0 h) F.SLOT_HOP_CH0_CH0 + k * sp, sp * 125⟩

/-- The channel as a transmission in a PHY occupies it (R44): the spec gives no bandwidths of modes, so `Config.occupiedHz` is not known
(log entry 56). -/
def Chan.occupied (c : Chan) (y : Phy) : Chan := { c with hz := Config.occupiedHz y.fam (y.mode % 128) }

/-- What the registers and the cell table give for a slot now. -/
def State.snapNow (s : State) (n : Nat) : SlotSnap :=
  ⟨n, s.slotCells (n % 2 ^ 40), s.sfs.map (fun i => (i, s.sfLen i, s.sfTpl i)), [0, 1, 2, 3].map (fun t =>
    ⟨s.tplTxOffset t, s.tplRxWait t, s.tplAckDelay t, s.tplAckWait t, s.tplMaxTx t, s.tplMaxAck t⟩)⟩

/-- What holds for a slot: what its preparation read (R110, R113), and for a slot that had none what stands there now. -/
def State.snapOf (s : State) (n : Nat) : SlotSnap := (s.slot.snaps.find? (fun x => x.n = n)).getD (s.snapNow n)

/-- The reading of a slot is kept beside those of the two slots before it. -/
def State.snapPut (s : State) (x : SlotSnap) : State :=
  { s with slot := { s.slot with snaps := (x :: s.slot.snaps.filter (fun y => y.n ≠ x.n)).take 3 } }

/-- A template of a slot's reading. -/
def SlotSnap.tpl (x : SlotSnap) (t : Nat) : Tpl := x.tpls.getD t ⟨0, 0, 0, 0, 0, 0⟩

/-- The template that a cell's slotframe had. -/
def SlotSnap.cellTpl (x : SlotSnap) (c : Cell) : Nat := ((x.sfs.find? (fun e => e.1 = c.sf)).map (fun e => e.2.2)).getD 0

/-- The template that holds for a frame in a slot: that of a cell that names its sender, else of the lowest enabled slotframe, else template 0
(DEDUCED, log entry 57). -/
def State.slotTpl (s : State) (n : Nat) (nbr : Option Nat) : Tpl :=
  let x := s.snapOf n
  x.tpl (match x.cells.find? (fun c => nbr.any c.names) with
    | some c => x.cellTpl c
    | none => (x.sfs.head?.map (fun e => e.2.2)).getD 0)

end Sys2Proof.Machine
end

