-- ==== Sys2Proof/Machine/Drover.lean ====
section
/-! DEFINITION. The Drover: attempts, their two halves, and the end of an interval (R67, R99, R278, R383, R384, R391). -/

namespace Sys2Proof.Machine

/-! ### The Drover (R383, R384) -/

def State.droverOn (s : State) (a : Nat) : Bool :=
  let r := R.SAFE_DROVER a
  let p := s.fld r F.SAFE_DROVER_LP
  s.flag r F.SAFE_DROVER_EN && s.lpOn p && s.beamArray (s.lpBeam p) = a

def State.droverSt (s : State) (a : Nat) : DroverSt := aget {} a s.safe.drover

/-- `ATTEMPTS` as it acts. -/
def State.droverMax (s : State) : Nat := max 1 (min 8 (s.fld R.SAFE_DROVER_CFG F.SAFE_DROVER_CFG_ATTEMPTS))

/-- `INTERVAL_MS` as it acts. -/
def State.droverMs (s : State) : Nat := max 10 (s.fld R.SAFE_DROVER_CFG F.SAFE_DROVER_CFG_INTERVAL_MS)

/-- Instant from which attempt `n` of the interval in progress is due: the attempts are spread evenly over the interval (R383). -/
def State.droverDue (s : State) (n : Nat) : Nat := s.safe.droverAt + ms s.droverMs * n / s.droverMax

/-- The attempt in progress is over: its frame is released (R278) and the Drover's window closes. -/
def State.droverDone (s : State) (a : Nat) : State :=
  let s1 := (s.queue (qDrover a)).frames.foldl (fun s f => if f.origin = .drover a then s.dropChecked (qDrover a) f else s) s
  { s1 with safe := { s1.safe with drover := amod {} a (fun (x : DroverSt) => { x with out := none }) s1.safe.drover } }

/-- The transmit half may run on an array: under the conditions of R65, which bar a slot in which the array carries or has carried a stream, after the last acknowledgement point of the slot has closed and before the
next preparation point (R383). -/
def State.droverTxFree (s : State) (a : Nat) : Bool :=
  (s.lanesOf (fun b => s.beamArray b == a) [2, 3]).isEmpty && !s.air.any (fun t => t.array = a && (t.holds s.cityNs || (s.running && t.started))) &&
    s.slot.acks.all (fun p => p.stopped) && (!s.running || s.slot.prepared ≤ s.slot.cur + 1)

/-- The frame that the Drover injects: a PSDU of 16 octets with the ASN and its sequence, which takes its cell as the engine of port 59 (R278,
R383; order and filling of the octets DESIGN CHOICE, log entry 98). -/
def droverFrame (id a asn seq : Nat) : Frame :=
  { id := id, bytes := leBytes 5 asn ++ leBytes 4 seq ++ List.replicate 7 0, ingress := 59, origin := .drover a, cls := 3 }

/-- DROVER_ATTEMPT: when the next attempt of the interval is due on an array, it begins with the injection of its frame, and with what the Drover finds of the test sequence (`tx`); not
in Hush, in HOLD, while a calibration run has CALa (R67), with every attempt of the interval made, or, outside Quiet, while the transmit half cannot run.
The engine holds the frame while its cell or its queue has no room (R278). In Quiet the transmit half is left out. -/
def execDroverAttempt (a : Fin 4) (tx : Bool) (st : State) : Host.Outcome State Fault Refusal :=
  .next (
    let s0 := st.advanceTo (st.droverDue (st.droverSt a.val).attempts)
    if !s0.droverOn a.val || s0.calibrating a.val || s0.pwr.hush || 3 ≤ s0.pwrState || s0.droverMax ≤ (s0.droverSt a.val).attempts then s0
    else if !s0.inQuiet && !s0.droverTxFree a.val then s0
    else
      let s := s0.droverDone a.val
      if !s.cellsOk 1 false || (s.queueRefuses (qDrover a.val) 1 false).isSome then s
      else
        let x := s.droverSt a.val
        let txRuns := !s.inQuiet
        let asn := s.slot.cur % 2 ^ 40
        let y : DroverSt :=
          { attempts := x.attempts + 1
            passed := x.passed
            rxOk := false
            txOk := tx && txRuns
            txRan := txRuns
            out := some (asn, s.cityNs)
            seq := (x.seq + 1) % 2 ^ 32 }
        let s1 := { s with safe := { s.safe with drover := aset {} a.val y s.safe.drover } }
        let (i, s2) := s1.newId
        let (cs, s2a) := s2.takeChain 1
        let s3 := (s2a.offer (qDrover a.val) { droverFrame i a.val asn y.seq with chain := cs.map some }).1
        let s4 := s3.setFld (R.SAFE_DROVER_STAT a.val) F.SAFE_DROVER_STAT_RX_OK 0
        if txRuns then s4.setFld (R.SAFE_DROVER_STAT a.val) F.SAFE_DROVER_STAT_TX_OK (if tx then 1 else 0) else s4)

/-- The Drover takes a frame of its own from the Crossroads (R99, R383): the receive half passes when ASN and sequence are those of the frame it waits
for and the frame's start lies within 2 µs of the injection. -/
def State.droverTake (s : State) (a asn seq start : Nat) : State :=
  let x := s.droverSt a
  match x.out with
  | none => s
  | some (n, t) =>
    if asn ≠ n || seq ≠ x.seq then s
    else
      let ok := decide (start ≤ t + 2000) && decide (t ≤ start + 2000)
      let s1 := s.droverDone a
      let s2 := { s1 with safe := { s1.safe with drover := amod {} a (fun (y : DroverSt) =>
        { y with rxOk := ok, passed := y.passed || (ok && (y.txOk || !y.txRan)) }) s1.safe.drover } }
      s2.setFld (R.SAFE_DROVER_STAT a) F.SAFE_DROVER_STAT_RX_OK (if ok then 1 else 0)

/-- A new interval begins on an array. -/
def State.droverClear (s : State) (a : Nat) : State :=
  { s with safe := { s.safe with drover := amod {} a (fun (x : DroverSt) => ({ seq := x.seq } : DroverSt)) s.safe.drover } }

/-- The end of an interval on one array. A lapsed interval, or one without an attempt, neither passes nor fails. -/
def State.droverEnd (s : State) (a : Nat) : State :=
  if !s.droverOn a then s
  else
    let x := s.droverSt a
    let k := R.SAFE_DROVER_STAT a
    let ok := s.fld R.SAFE_HEALTH F.SAFE_HEALTH_DROVER_OK
    let s1 := s.setFld k F.SAFE_DROVER_STAT_LOOPS (s.fld k F.SAFE_DROVER_STAT_LOOPS + 1)
    let s2 := (s1.droverDone a).droverClear a
    if x.passed then s2.setFld R.SAFE_HEALTH F.SAFE_HEALTH_DROVER_OK (setNbit ok a)
    else if s.safe.droverLapse || x.attempts = 0 then s2
    else
      let halves := (if x.rxOk then 0 else 1) + (if x.txOk || !x.txRan then 0 else 2)
      let s3 := (s2.setFld R.SAFE_HEALTH F.SAFE_HEALTH_DROVER_OK (clrNbit ok a)).bumpFld k F.SAFE_DROVER_STAT_FAILS
      let s4 := (s3.evtF 28 0 (w32 a) (w32 x.attempts) (w32 halves)).quiet 5
      s4.ledger 0x0023 a (w32 x.attempts) (w32 halves) 0

/-- DROVER_INTERVAL_END: `INTERVAL_MS` after it began the interval ends on every array with the Drover, and the next begins. Cause 5 is no longer live when the last loop of each passed. -/
def execDroverIntervalEnd (s : State) : Host.Outcome State Fault Refusal :=
  .next (
    let s0 := s.advanceTo (s.safe.droverAt + ms s.droverMs)
    let s1 := [0, 1, 2, 3].foldl State.droverEnd s0
    let s2 := { s1 with safe := { s1.safe with droverLapse := s1.safe.restarting.contains 3, droverAt := s0.now } }
    let on := [0, 1, 2, 3].filter s2.droverOn
    if on.all (nbit (s2.fld R.SAFE_HEALTH F.SAFE_HEALTH_DROVER_OK)) then s2.quietOver 5 else s2)

/-- A write of `SAFE_DROVERa` (R383, R391): a write with `EN` 1 stores nothing unless `LP` names an enabled listening point on a
beam of the array (R440). -/
def State.droverWrite (s : State) (p a : Nat) (data : Word) : State :=
  s.only0 p R.SAFE_ERR F.SAFE_ERR_PART_WRITE (
    let lp := bitsAt data 0 13
    let ok := s.lpOn lp && s.beamArray (s.lpBeam lp) = a
    let s1 := s.wr (R.SAFE_DROVER a) (data &&& 0x3FFF)
    if bitAt data 13 then (if ok then s1 else s)
    else
      let h := s1.fld R.SAFE_HEALTH F.SAFE_HEALTH_DROVER_OK
      let s2 := s1.setFld R.SAFE_HEALTH F.SAFE_HEALTH_DROVER_OK (clrNbit h a)
      (s2.droverDone a).droverClear a)

end Sys2Proof.Machine
end

