-- ==== Sys2Proof/Machine/Mac.lean ====
section
/-! DEFINITION. Octets of the frames that the chip sends: MAC header, protection by CCM* (R38, R148, R152, R165 to R169). PRESUMED: the layout of
the frame control field, the addressing fields and the auxiliary security header of IEEE 802.15.4 (log entry 42). -/

namespace Sys2Proof.Machine

/-- Addressing mode of an address, and its octets. -/
def addrMode : MacAddr → Nat
  | .none => 0
  | .short _ => 2
  | .ext _ => 3

def addrBytes : MacAddr → List Byte
  | .none => []
  | .short a => leBytes 2 a.toNat
  | .ext a => leBytes 8 a.toNat

def bit (b : Bool) : Nat := if b then 1 else 0

/-- The MAC header of a frame: frame control, sequence number unless suppressed, PAN IDs and addresses, auxiliary security header of the subset of
R166, header IEs. -/
def MacHdr.octets (h : MacHdr) (dsn : Option Nat) (level counter : Nat) (ies : List Byte) : List Byte :=
  let fcf := h.ftype + 8 * bit (level ≠ 0) + 16 * bit h.pending + 32 * bit h.ackReq + 64 * bit h.panComp + 256 * bit dsn.isNone
    + 512 * bit (!ies.isEmpty) + 1024 * addrMode h.dst + 4096 * h.version + 16384 * addrMode h.src
  let pan (p : Option Nat) : List Byte := (p.map (leBytes 2)).getD []
  leBytes 2 fcf ++ (dsn.map (leBytes 1)).getD [] ++ pan h.dstPan ++ addrBytes h.dst ++ pan h.srcPan ++ addrBytes h.src
    ++ (if level = 0 then []
        else leBytes 1 (level + 8 * h.keyMode) ++ leBytes 4 counter ++ (if h.keyMode = 0 then [] else leBytes 1 h.keyIndex))
    ++ ies

/-- A frame that the chip sends, without its FCS: protected under a key at a level of 1 and up, with the chip's EUI-64 in the nonce (R167). -/
def MacHdr.seal (h : MacHdr) (key : Nat) (dsn : Option Nat) (level counter : Nat) (ies payload : List Byte) : List Byte :=
  let mhr := h.octets dsn level counter ies
  if level = 0 then mhr ++ payload
  else
    let (p, mic) := ccmSeal (keyOctets false key) (ccmNonce Config.linkEui.toNat counter level) level (bytesNats mhr) (bytesNats payload)
    mhr ++ natsBytes p ++ natsBytes mic

end Sys2Proof.Machine

namespace Sys2Proof

open Sys2Proof.Machine

/-- The payload of a received frame that verifies under a key with its sender's EUI-64 (R167, R170). -/
def RxFrame.verify (f : RxFrame) (key eui : Nat) : Option (List Byte) :=
  (ccmOpen (keyOctets false key) (ccmNonce eui f.counter f.level) f.level (bytesNats f.mhr) (bytesNats f.payload) (bytesNats f.mic)).map natsBytes

/-- The first 32 bits of a frame's MIC; 0 where it has none. -/
def RxFrame.mic32 (f : RxFrame) : Word := BitVec.ofNat 32 (beNat (f.mic.take 4))

/-- A frame as received, without its FCS. -/
def RxFrame.mpdu (f : RxFrame) : List Byte := f.mhr ++ f.payload ++ f.mic

end Sys2Proof
end

