-- ==== Sys2Proof/Machine/LinkRx.lean ====
section
/-! DEFINITION. The Crossroads and the link layer's reception: merge entries, address and security policy, key waits, duplicates and
replays, acknowledgements, joins (R35, R94 to R102, R135 to R137, R143, R150 to R155, R160 to R162, R165 to R170, R184 to R186). -/

namespace Sys2Proof.Machine

/-! ### Enh-Acks (R152, R153, R159) -/

/-- The frame is addressed to the chip itself (R135, R152). -/
def toChip (a : MacAddr) : Bool := a == .none || a == .short 0 || a == .ext Config.linkEui

/-- Slot of a received frame's start, and the start in ns of city time (R153). -/
def RxCtx.start (x : RxCtx) : Nat := x.time - x.frame.pre

/-- City time, in ns, at which the Enh-Ack to a frame goes on air (R108). -/
def State.ackStart (s : State) (x : RxCtx) (n : Option Nat) : Nat :=
  x.ends + 1000 * (s.slotTpl (s.slotOf x.start) n).ackDelay

/-- The time correction in µs, rounded to the nearest, before it is limited (R153). -/
def State.correctionOf (s : State) (x : RxCtx) (n : Option Nat) : Int :=
  let k := s.slotOf x.start
  let want : Int := s.boundary k + 1000 * (s.slotTpl k n).txOffset
  (want - x.start + 500) / 1000

/-- Octets of an Enh-Ack: frame control, DSN, destination, auxiliary security header, Time Correction IE, MIC and FCS (PRESUMED sizes, log entry
42). -/
def ackOctets (x : RxCtx) : Nat :=
  let f := x.frame
  2 + (if f.dsn.isSome then 1 else 0) + (match f.src with
    | .none => 0
    | .short _ => 2
    | .ext _ => 8)
    + (if f.level = 0 then 0 else 5 + (if f.keyMode = 0 then 0 else 1)) + 4 + micLen f.level
    + (if x.fam = 3 || (x.fam = 0 && x.fcs2) then 2 else 4)

/-- MAC header of an Enh-Ack (R152, R169, R479): version 2, PAN ID compression 1 and no PAN ID, the frame's source as destination, no source; key
identifier of the frame; a 2-octet FCS on 2.4 GHz O-QPSK and to a SUN FSK frame with one. -/
def RxCtx.ackHdr (x : RxCtx) : MacHdr :=
  { ftype := 2
    panComp := true
    dst := x.frame.src
    keyMode := if x.frame.level = 0 then 0 else x.frame.keyMode
    keyIndex := if x.frame.level = 0 then 0 else x.frame.keyIndex
    fcs := if x.fam = 3 || (x.fam = 0 && x.fcs2) then 2 else 4 }

/-- The best copy so far of the frame's transmission (R35, R97): that of its merge entry, open or closed. -/
def State.xrdCopy (s : State) (x : RxCtx) : Copy :=
  match s.rx.xrd.find? (fun e => e.id = x.xrd) with
  | some e => e.best
  | none => ((s.rx.recent.find? (fun e => e.id = x.xrd)).map (fun e => e.best)).getD ⟨x.q, x.beam, x.point, x.time⟩

/-- An Enh-Ack is scheduled for a frame that asks for one and is addressed to the chip; one whose beam would already be fixed is not sent
(R154). It goes in the received mode (DEDUCED, log entry 58). `role` and `key` are the pair that verified the frame, if any. -/
def State.ackPlan (s : State) (x : RxCtx) (p : Nat) (n : Option Nat) (nack : Bool) (role : Option KeyRole) (key : Nat) : State :=
  let f := x.frame
  let start := s.ackStart x n
  if !f.ackReq || !toChip f.dst || start < s.cityNs + 50000 then s
  else
    let c := s.correctionOf x n
    let s1 := if c < -2048 || 2047 < c then s.bump R.LINK_CNT_TCCLIP else s
    let y : Phy := ⟨x.fam, x.mode, x.mcs, x.fec, match n with
      | some i => (s.nbr i).preamble
      | none => s.fld (R.PAN_PHY p) F.PAN_PHY_PREAMBLE⟩
    let a : EnhAck :=
      { id := s.link.nextAck
        nbr := n
        pan := p
        dsn := f.dsn
        nack := nack
        correction := max (-2048) (min 2047 c)
        level := f.level
        role := role
        key := key
        xrd := x.xrd
        beam := (s.xrdCopy x).beam
        centre := x.centre
        width := x.width
        mode := x.mode
        family := x.fam
        power := match n with
          | some i => (s.nbr i).power
          | none => s.fld (R.PAN_POLICY p) F.PAN_POLICY_EB_POWER
        start := start
        air := y.air (ackOctets x)
        hdr := x.ackHdr }
    { s1 with link := { s1.link with acks := s1.link.acks ++ [a], nextAck := s1.link.nextAck + 1 } }

/-! ### Delivery (R36, R161, R300, R320) -/

/-- FRAME_UP words 0x04 to 0x1C of a radio frame (R320). -/
def RxCtx.up (x : RxCtx) (p : Nat) (o : Option Nat) : List Word :=
  let f := x.frame
  [w32 (x.beam % 64 + p * 2 ^ 6 + 2 ^ 9 + f.level % 8 * 2 ^ 17), w32 (match o with
      | some i => i + 2 ^ 19
      | none => 0),
    w32 (x.beam % 64 + (if x.point < 8192 then x.point * 2 ^ 6 else 0) + x.q % 256 * 2 ^ 19),
    w32 (trunc 16 x.rssi + trunc 16 (x.cfo / 10) * 2 ^ 16), descTime x.time, w32 (x.centre % 2 ^ 25 + x.width % 16 * 2 ^ 25),
    w32 (x.mode % 256 + x.mcs % 8 * 2 ^ 8 + (if x.fec then 2 ^ 11 else 0))]

/-- A frame takes its cells and meets its PAN's ingress policer (R150, R278, R300): its chain and the colour it leaves with, `none` for a NACK. -/
def State.rxTake (s : State) (x : RxCtx) (p : Nat) : Option (List Nat × Bool) × State :=
  let n := frameCells x.psdu
  if !s.cellsOk n false then (none, s.bump R.QMG_CNT_RXNACK)
  else
    let (c, s1) := s.policeIngress (8 + p) x.psdu .green
    match c with
    | .red => (none, s1)
    | c =>
      let (cs, s2) := s1.takeChain n
      (some (cs, isYellow c), s2)

/-- The link-layer source as reassembly and decompression name it. -/
def srcNum : MacAddr → Nat
  | .none => 0
  | .short a => a.toNat
  | .ext a => 2 ^ 16 + a.toNat

/-- The datagram of a frame that has taken its cells. -/
def RxCtx.pkt (x : RxCtx) (p : Nat) (o : Option Nat) (take : List Nat × Bool) (bytes : List Byte) : Pkt :=
  ⟨bytes, take.1, x.beam, .own, take.2, 0, 0, x.up p o, false, 0⟩

/-- The merge entry of a frame learns whose frame it is (R217). -/
def State.xrdMark (s : State) (id pan ord join : Nat) : State :=
  { s with rx := { s.rx with xrd := s.rx.xrd.map (fun (e : XrdEntry) =>
      if e.id = id then { e with pan := pan, ord := ord, join := join } else e) } }

/-- A frame of a neighbour is accepted: the node's counts and its last RSSI and Q (R202). -/
def State.nodeHeard (s : State) (o : Nat) (x : RxCtx) : State :=
  let r := s.node o
  s.setNode o { r with rxFrames := satAdd 32 r.rxFrames 1, lastRssi := trunc 16 x.rssi, lastQ := x.q }

/-! ### Time from the air (R146) -/

/-- A synchronising frame of a neighbour in a cell with `TIMEKEEPING`. -/
def State.timeFrom (s : State) (x : RxCtx) (n : Nat) : State :=
  let k := s.slotOf x.start
  if !s.running then s
  else
    let y := s.snapOf k
    match y.cells.find? (fun c => c.names n && c.timekeeping) with
    | none => s
    | some c => s.airOffset n ((x.start : Int) - (s.boundary k + 1000 * (y.tpl (y.cellTpl c)).txOffset : Nat))

/-- The frame synchronises its neighbour (R143). -/
def State.rxSync (s : State) (x : RxCtx) (n : Nat) : State := (s.synchronise n x.start).timeFrom x n

/-! ### Duplicates and replays (R150, R151, R193) -/

/-- What the rule of R150 says of a secured frame. -/
inductive Fate where
  | fresh (r : ReplayRec)
  | again
  | replay
deriving DecidableEq, Repr

/-- R150 up to the decision; `fresh` carries the record with its keys moved on and the frame's counter not yet taken. -/
def fateOf (r0 : ReplayRec) (key counter : Nat) (mic : Word) : Fate :=
  if key ≠ r0.key && key = r0.prev then .replay
  else
    let r := if key = r0.key then r0 else { key := key, prev := r0.key }
    if r.valid && r.ctr = counter && r.mic32 = mic && !r.noMatch then .again
    else if r.valid && counter ≤ r.ctr then .replay
    else .fresh r

/-- MIC prefix as it is compared: level 4 has none. -/
def micPrefix (f : RxFrame) : Word := if f.level = 4 then 0 else f.mic32

/-- The replay record of a neighbour for the class of a key. -/
def State.replayRec (s : State) (n : Nat) (isLink : Bool) : ReplayRec := if isLink then (s.nbr n).link else (s.nbr n).other

def State.setReplay (s : State) (n : Nat) (isLink : Bool) (r : ReplayRec) : State :=
  s.setNbr n (if isLink then { s.nbr n with link := r } else { s.nbr n with other := r })

/-- The record after a frame that is accepted as new; every 4,096th writes the incoming checkpoint of the link key. -/
def State.replayTake (s : State) (n : Nat) (isLink : Bool) (r : ReplayRec) (f : RxFrame) : State :=
  let s1 := s.setReplay n isLink { r with ctr := f.counter, dsn := f.dsn.getD 0, mic32 := micPrefix f, valid := true, noMatch := false }
  if !isLink then s1
  else
    let e := s1.ctr n
    if e.inn + 1 < 4096 then s1.setCtr n { e with inn := e.inn + 1 }
    else (s1.setCtr n { e with inn := 0 }).setRecord e.record { s1.record e.record with inn := some f.counter }

/-- A replay is dropped, counted and written to the Trail. -/
def State.replayDrop (s : State) (p n key : Nat) (f : RxFrame) : State :=
  let x := s.nbr n
  ((s.setNbr n { x with replay := satAdd 16 x.replay 1 }).bump R.LINK_CNT_REPLAY).trail 0x0100 p (w32 n) (w32 f.counter) (w32 (key - 1))

/-- A duplicate is acknowledged again and not delivered. -/
def State.dupAgain (s : State) (x : RxCtx) (p n : Nat) (role : Option KeyRole) (key : Nat) : State :=
  let e := s.nbr n
  let s1 := (s.setNbr n { e with dupReacked := satAdd 16 e.dupReacked 1 }).bump R.LINK_CNT_DUPREACK
  ((s1.rxSync x n).xrdMark x.xrd (p + 1) e.node 0).ackPlan x p (some n) false role key

/-- A new frame of a neighbour: taken, delivered and acknowledged, or answered with NACK. A beacon is never delivered (R136):
it asks for no cells, and no Enh-Ack is due (R152). `taken` is what its acceptance changes. -/
def State.rxNew (s : State) (x : RxCtx) (p n : Nat) (role : Option KeyRole) (key : Nat) (taken : State → State) : State :=
  let o := (s.nbr n).node
  let s0 := s.rxSync x n
  if x.frame.ftype = 0 then taken s0
  else
    let s1 := s0.xrdMark x.xrd (p + 1) o 0
    match s1.rxTake x p with
    | (none, s2) => s2.ackPlan x p (some n) true role key
    | (some take, s2) =>
      let s3 := ((taken s2).nodeHeard o x).ackPlan x p (some n) false role key
      s3.uplink (x.pkt p (some o) take x.frame.payload) p (srcNum x.frame.src) (srcNum x.frame.dst)

/-- A secured frame of a neighbour whose MIC has verified under a role's key. -/
def State.rxSecured (s : State) (x : RxCtx) (p n : Nat) (role : KeyRole) (key : Nat) : State :=
  let f := x.frame
  let isLink := match role with
    | .link _ => true
    | _ => false
  match fateOf (s.replayRec n isLink) key f.counter (micPrefix f) with
  | .replay => s.replayDrop p n key f
  | .again => s.dupAgain x p n (some role) key
  | .fresh r => (s.setReplay n isLink r).rxNew x p n (some role) key (fun t => t.replayTake n isLink r f)

/-- A frame of a neighbour of a PAN without security (R151). -/
def State.rxOpen (s : State) (x : RxCtx) (p n : Nat) : State :=
  let f := x.frame
  let dup := match f.dsn, (s.nbr n).unsec with
    | some d, some (e, t) => d = e && s.now ≤ t + sec 2
    | _, _ => false
  if dup then s.dupAgain x p n none 0
  else
    s.rxNew x p n none 0 (fun t =>
      match f.dsn with
      | some d => t.setNbr n { t.nbr n with unsec := some (d, t.now) }
      | none => t)

/-! ### Joins (R160 to R162) -/

/-- DSN of a join frame as the cache holds it; 256 for none. -/
def joinDsn (f : RxFrame) : Nat := f.dsn.getD 256

/-- A join frame enters the cache with its best beam and Q so far; a full cache drops its oldest entry. -/
def State.joinPut (s : State) (x : RxCtx) (eui : Nat) : State :=
  let rest := s.link.joins.filter (fun (j : JoinEnt) => j.eui ≠ eui)
  let kept := if rest.length < 256 then rest
    else
      let old := rest.foldl (fun (m : Nat) (j : JoinEnt) => min m j.at_) s.now
      match rest.find? (fun (j : JoinEnt) => j.at_ = old) with
      | some o => rest.filter (fun (j : JoinEnt) => j.eui ≠ o.eui)
      | none => rest
  { s with link := { s.link with joins := kept ++ [⟨eui, joinDsn x.frame, s.now, (s.xrdCopy x).beam, (s.xrdCopy x).q⟩] } }

/-- Join frames of a PAN within the last second (R160; a sliding second, DEDUCED, log entry 59). -/
def State.joinsNow (s : State) (p : Nat) : List Nat := (aget [] p s.link.joinRate).filter (fun t => s.now < t + sec 1)

/-- A join frame that satisfies its PAN's policy and whose MIC, if any, has verified. -/
def State.rxJoin (s : State) (x : RxCtx) (p eui : Nat) (role : Option KeyRole) (key : Nat) : State :=
  let now := s.joinsNow p
  if s.fld (R.PAN_POLICY p) F.PAN_POLICY_JOIN_RATE ≤ now.length then s.bump R.LINK_CNT_JOINDROP
  else
    let s1 := { s with link := { s.link with joinRate := aset [] p (now ++ [s.now]) s.link.joinRate } }
    if s1.link.joins.any (fun j => j.eui = eui && j.dsn = joinDsn x.frame && x.frame.dsn.isSome && s1.now ≤ j.at_ + sec 2) then
      (s1.bump R.LINK_CNT_DUPREACK).ackPlan x p none false role key
    else
      match s1.rxTake x p with
      | (none, s2) => s2.ackPlan x p none true role key
      | (some take, s2) =>
        let s3 := ((s2.joinPut x eui).xrdMark x.xrd 0 0 (eui + 1)).ackPlan x p none false role key
        let y := x.pkt p none take x.frame.mpdu
        s3.pktQueue { y with up := y.up.set 0 (wordAt y.up 0 ||| 0x8400) }
          (qHost (s3.panOwner p) (s3.fld (R.PAN_POLICY p) F.PAN_POLICY_JOIN_RING))

/-! ### Keys of received frames (R168, R170, R184 to R186, R189) -/

/-- A frame of a sender with an EUI-64 is verified under a role's key, or waits for it; what it goes on with is its payload in the clear. -/
def State.rxVerify (s : State) (x : RxCtx) (r : KeyRole) (eui : Nat) (ok : State → RxCtx → Nat → State) : State :=
  match s.keyTake r attrDEC with
  | (s1, none) => (s1.keyRequest 0 r) |> fun s2 => { s2 with key := { s2.key with waits := s2.key.waits ++ [⟨r, x, s2.now⟩] } }
  | (s1, some k) =>
    match x.frame.verify k.key eui with
    | none => s1.bump R.KEY_CNT_MICFAIL
    | some p => ok s1 { x with frame := { x.frame with payload := p } } k.fp

/-- The options of an auxiliary security header that the chip supports (R166). -/
def headerBad (f : RxFrame) : Bool :=
  !f.headerOk || 2 ≤ f.keyMode || (f.keyMode = 1 && f.keyIndex = 0) || f.counter = 0xFFFFFFFF

/-- The group position whose key index a frame names, current or in its grace period (R168). -/
def State.groupOf (s : State) (p idx : Nat) : Option Nat :=
  [0, 1].find? (fun k => (k = s.groupCur p || s.inGrace p) && s.groupIdx p k = idx && idx ≠ 0 && (s.keyEntry (.group p k)).isSome)

/-! ### Enh-Acks received (R119, R155) -/

/-- An attempt that an Enh-Ack may answer: it waits for one with this DSN, its frame has not been flushed since (R289), and the Enh-Ack's source
is its neighbour or its destination the chip. -/
def State.ackFits (s : State) (f : RxFrame) (a : Attempt) : Bool :=
  match a.nbr with
  | none => false
  | some n =>
    let x := s.nbr n
    let from_ := match f.src with
      | .none => false
      | .short v => v.toNat = x.short && x.short ≠ 0xFFFE
      | .ext v => v.toNat = (s.node x.node).eui
    f.dsn = some a.dsn && s.acksLive a.id && (s.attemptFrame a).isSome && (from_ || toChip f.dst)

/-- EUI-64 of a neighbour. -/
def State.nbrEui (s : State) (n : Nat) : Nat := (s.node (s.nbr n).node).eui

/-- The answer is valid: it synchronises, and acknowledges the attempt unless it carries NACK. -/
def State.ackTake (s : State) (x : RxCtx) (a : Attempt) (n : Nat) : State :=
  let s1 := s.synchronise n x.start
  let s2 := match x.frame.correction with
    | some c => if a.timekeeping then s1.airOffset n (-(c * 1000)) else s1
    | none => s1
  if x.frame.nack then s2.bump R.LINK_CNT_NACKRX
  else
    let o := (s2.nbr n).node
    let s3 := s2.setNode o { s2.node o with txFrames := satAdd 32 (s2.node o).txFrames 1 }
    s3.attemptOk a

/-- The source lookup of a received frame (R208): a hit sets `HIT`, whatever becomes of the frame. -/
def State.srcLook (s : State) (p : Nat) (a : MacAddr) : State :=
  let hit (f : Option Nat × State) : State :=
    match f.1 with
    | some o => f.2.nodeHit o
    | none => f.2
  match a with
  | .none => s
  | .short v => if v.toNat = 0xFFFE then s else hit (s.idxLook true (idxKeyB p v.toNat))
  | .ext v => hit (s.idxLook false (idxKeyA p v.toNat))

/-- An Enh-Ack for attempts that it fits: the first whose neighbour's key verifies it. It satisfies the policy of the attempt's PAN (R135): level 0 in
a PAN without security, another level in one with it. One whose counter and MIC are those last accepted is dropped as a replay (DESIGN CHOICE,
log entry 120). -/
def State.rxAck (s : State) (x : RxCtx) : State :=
  let f := x.frame
  let fits := s.slot.attempts.filter (s.ackFits f)
  let verified (a : Attempt) : Bool :=
    a.nbr.any (fun n => (s.keyGood (.link n) attrDEC).any (fun k => (f.verify k.key (s.nbrEui n)).isSome))
  match (fits.find? verified) <|> fits.head? with
  | none => s
  | some a =>
    let n := a.nbr.getD 0
    let s := if f.dstPan.isNone then s.srcLook a.pan f.src else s
    let policy := if f.level = 0 then !s.panSecured a.pan
      else s.panSecured a.pan && !headerBad f && f.keyMode = 0 && (f.level ≠ 4 || s.flag (R.PAN_POLICY a.pan) F.PAN_POLICY_LEVEL4_EN)
    if !policy then s.bump R.LINK_CNT_POLICY
    else if f.level = 0 then s.ackTake x a n
    else
      s.rxVerify x (.link n) (s.nbrEui n) (fun s x key =>
        match fateOf (s.nbr n).link key f.counter (micPrefix f) with
        | .fresh r => (s.replayTake n true r f).ackTake x a n
        | _ => s.replayDrop a.pan n key f)

/-! ### Reception (R135 to R137, R160, R168) -/

/-- The addresses reserved by the device (R137). -/
def addrReserved : MacAddr → Bool
  | .short a => 0xFFF0 ≤ a.toNat && a.toNat ≤ 0xFFFD
  | _ => false

/-- A source address that no received frame may carry (R137). -/
def srcReserved (a : MacAddr) : Bool := a = .short 0 || a = .short 0xFFFF || addrReserved a

/-- The neighbour that a source address names in a PAN (R160, R167). -/
def State.srcNbr (s : State) (p : Nat) (a : MacAddr) : Option Nat :=
  let of (o : Option Nat) : Option Nat :=
    o.bind (fun i => let r := s.node i; if r.hasNbr && (s.nbr r.nbr).valid then some r.nbr else none)
  match a with
  | .none => none
  | .short v => if v.toNat = 0xFFFE then none else of ((s.dir.b.find (idxKeyB p v.toNat)).map (fun e => e.2.ord))
  | .ext v => of ((s.dir.a.find (idxKeyA p v.toNat)).map (fun e => e.2.ord))

/-- A join frame in a PAN: its policy, then its key, then the join itself. -/
def State.rxJoinPolicy (s : State) (x : RxCtx) (p eui : Nat) : State :=
  let f := x.frame
  let k := R.PAN_POLICY p
  let fail := s.bump R.LINK_CNT_POLICY
  if !s.flag k F.PAN_POLICY_JOIN_OPEN then fail
  else if f.level = 0 then (if s.flag k F.PAN_POLICY_JOIN_UNSEC then s.rxJoin x p eui none 0 else fail)
  else if !s.panSecured p || headerBad f || (f.level = 4 && !s.flag k F.PAN_POLICY_LEVEL4_EN) then fail
  else if f.keyMode ≠ 1 || f.keyIndex ≠ s.joinIdx p || (s.keyEntry (.join p)).isNone then fail
  else s.rxVerify x (.join p) eui (fun s x key => s.rxJoin x p eui (some (.join p)) key)

/-- A frame of a valid neighbour: its policy, then its key, then duplicates and replays. -/
def State.rxPolicy (s : State) (x : RxCtx) (p n : Nat) : State :=
  let f := x.frame
  let fail := s.bump R.LINK_CNT_POLICY
  if !s.panSecured p then (if f.level = 0 then s.rxOpen x p n else fail)
  else if f.level = 0 || headerBad f || (f.level = 4 && !s.flag (R.PAN_POLICY p) F.PAN_POLICY_LEVEL4_EN) then fail
  else if f.keyMode = 0 then s.rxVerify x (.link n) (s.nbrEui n) (fun s x key => s.rxSecured x p n (.link n) key)
  else
    match s.groupOf p f.keyIndex with
    | none => fail
    | some g => s.rxVerify x (.group p g) (s.nbrEui n) (fun s x key => s.rxSecured x p n (.group p g) key)

/-- The PAN slot of a received frame. -/
def State.panOf (s : State) (id : Option Nat) : Option Nat := (List.range 8).find? (fun p => s.panOn p && id = some (s.panId p))

/-- A frame with a reserved address is counted before anything else of its addresses (R137; the order DESIGN CHOICE, log entry 99), then one
addressed to another device (R135). -/
def State.rxAddressed (s : State) (f : RxFrame) (ok : State) : State :=
  if srcReserved f.src || addrReserved f.dst then s.bump R.LINK_CNT_RESADDR
  else if !toChip f.dst && f.dst ≠ .short 0xFFFF then s.bump R.LINK_CNT_OTHERDST
  else ok

/-- The link layer takes a frame that the Crossroads sends on. An Enh-Ack without a PAN ID is taken under R155. -/
def State.linkRx (s : State) (x : RxCtx) : State :=
  let f := x.frame
  if s.pwr.hush then s
  else if f.ftype = 2 && f.dstPan.isNone then s.rxAddressed f (s.rxAck x)
  else
    match s.panOf f.dstPan with
    | none => s.bump R.LINK_CNT_UNKNOWN
    | some p =>
      let s1 := s.srcLook p f.src
      s.rxAddressed f (
        if f.ftype = 2 then s1.rxAck x
        else
          match s1.srcNbr p f.src, f.src with
          | some n, _ => s1.rxPolicy x p n
          | none, .ext e => if f.ftype = 0 then s1.bump R.LINK_CNT_UNKNOWN else s1.rxJoinPolicy x p e.toNat
          | none, _ => s1.bump R.LINK_CNT_UNKNOWN)

/-! ### The Crossroads (R95 to R99) -/

/-- The match key of a frame (R95). -/
def matchKey (f : RxFrame) (psdu : Nat) : MatchKey :=
  let (sk, sv) : Nat × Nat := match f.src with
    | .none => (0, 0)
    | .short a => (1, a.toNat)
    | .ext a => (2, a.toNat)
  let (ck, cv) : Nat × Nat := if f.level ≠ 0 then (1, f.counter)
    else match f.dsn with
      | some d => (2, d)
      | none => (0, 0)
  ⟨sk, sv, ck, cv, if f.level ≠ 0 && f.level ≠ 4 then f.mic32 else f.fcs, psdu⟩

/-- The better of two copies (R97). -/
def Copy.better (a b : Copy) : Bool :=
  b.q < a.q || (a.q = b.q && (a.beam < b.beam || (a.beam = b.beam && a.point < b.point)))

/-- `XRD_OPEN` shows the open entries. -/
def State.xrdSync (s : State) : State := s.setFld R.XRD_OPEN F.XRD_OPEN_ENTRIES s.rx.xrd.length

/-- A merge entry closes: its best copy, reduced with that of an earlier transmission within 50 ms, goes to learning (R98, R217), or into the
join cache (R162). -/
def State.xrdClose (s : State) (e : XrdEntry) : State :=
  let s1 := ({ s with rx := { s.rx with xrd := s.rx.xrd.filter (fun (y : XrdEntry) => y.id ≠ e.id) } }).xrdSync
  let c := match e.prior with
    | some d =>
      if e.best.time ≤ d.time + 50000000 && d.time ≤ e.best.time + 50000000
        && (e.best.q < d.q || (d.q = e.best.q && d.beam < e.best.beam)) then d else e.best
    | none => e.best
  let s2 := if e.join = 0 then s1
    else { s1 with link := { s1.link with joins := s1.link.joins.map (fun (j : JoinEnt) =>
      if j.eui + 1 = e.join then { j with beam := e.best.beam, q := e.best.q } else j) } }
  if e.pan = 0 || !(s2.node e.ord).hasNbr then s2 else s2.learn e.ord c.beam c.q c.time

/-- MERGE_WINDOW_CLOSE. -/
def execMergeWindowClose (n : Nat) (s : State) : Host.Outcome State Fault Refusal :=
  .next (
    match s.rx.xrd.find? (fun e => e.id = n) with
    | none => s
    | some e => (s.advanceTo (e.openedAt + us 400)).xrdClose e)

/-- RECENT_KEY_EXPIRY. -/
def execRecentKeyExpiry (n : Nat) (s : State) : Host.Outcome State Fault Refusal :=
  .next (
    match s.rx.recent.find? (fun e => e.id = n) with
    | none => s
    | some e =>
      let s1 := s.advanceTo (e.openedAt + ms 50)
      { s1 with rx := { s1.rx with recent := s1.rx.recent.filter (fun (y : RecentKey) => y.id ≠ n) } })

/-- The oldest open entry closes early when a new one finds no room. -/
def State.xrdRoom (s : State) : State :=
  if s.rx.xrd.length < 4096 then s
  else
    match s.rx.xrd with
    | [] => s
    | e :: es =>
      let old := es.foldl (fun (m e : XrdEntry) => if e.openedAt < m.openedAt then e else m) e
      (s.xrdClose old).bump R.XRD_CNT_EARLY

/-- A key enters the recent-key memory; a full memory drops its oldest entry. An entry of an earlier transmission of the frame stays up to its own
end. -/
def State.recentPut (s : State) (r : RecentKey) : State :=
  let l := s.rx.recent
  if l.length < 16384 then { s with rx := { s.rx with recent := l ++ [r] } }
  else
    let old := l.foldl (fun (m : Nat) (y : RecentKey) => min m y.openedAt) s.now
    let cut := match l.find? (fun y => y.openedAt = old) with
      | some y => l.filter (fun (z : RecentKey) => z.id ≠ y.id)
      | none => l
    ({ s with rx := { s.rx with recent := cut ++ [r] } }).bump R.XRD_CNT_RECENTFULL

/-- A frame opens a merge entry and goes on: to the link layer, or, one that the Drover injected, to the Drover (R99). `XRD_CNT_FIRST` counts both:
the spec does not say whether a frame that the Drover takes is sent on to the link layer (DESIGN CHOICE, log entry 121). -/
def State.xrdOpen (s : State) (x : RxCtx) (prior : Option Copy) : State :=
  let s1 := s.xrdRoom
  let id := s1.rx.nextXrd
  let k := matchKey x.frame x.psdu
  let c : Copy := ⟨x.q, x.beam, x.point, x.time⟩
  let e : XrdEntry := ⟨id, k, s1.now, x.time, c, prior, 0, 0, 0⟩
  let s2 := ({ s1 with rx := { s1.rx with xrd := s1.rx.xrd ++ [e], nextXrd := id + 1 } }).xrdSync
  let s3 := s2.recentPut ⟨id, k, s1.now, x.time, c⟩
  let s4 := s3.bump R.XRD_CNT_FIRST
  match x.frame.drover with
  | some (a, asn, seq) => s4.droverTake a.val asn seq x.start
  | none => s4.linkRx { x with xrd := id }

/-- A better copy of an open entry: it becomes the best copy, here and in the recent-key memory, and an Enh-Ack not yet fixed takes its beam. -/
def State.xrdBest (s : State) (id : Nat) (c : Copy) : State :=
  { s with
    rx := { s.rx with
      xrd := s.rx.xrd.map (fun (e : XrdEntry) => if e.id = id then { e with best := c } else e)
      recent := s.rx.recent.map (fun (e : RecentKey) => if e.id = id then { e with best := c } else e) }
    link := { s.link with acks := s.link.acks.map (fun (a : EnhAck) => if a.xrd = id then { a with beam := c.beam } else a) } }

/-- What a lane in MERGE hands over with its frame (R94). -/
def Lane.ctx (y : Lane) (l : Nat) (f : RxFrame) : RxCtx :=
  { frame := f
    beam := y.beam
    point := y.point
    lane := l
    centre := y.centre
    width := y.width
    fam := y.fam
    mode := y.byte
    mcs := y.mcs
    fec := y.fec
    psdu := y.len
    fcs2 := y.fcs2
    rssi := y.rssi
    q := y.q
    cfo := y.cfo
    time := y.time
    ends := y.ends
    xrd := 0 }

/-- Two receive timestamps lie within 100 µs (R99). -/
def nearTimes (t u : Nat) : Bool := decide (t ≤ u + 100000) && decide (u ≤ t + 100000)

/-- A frame goes on through the pipeline of its source (R33, R369); the Drover takes its own from the Crossroads itself (R99, R383). -/
def State.xrdPipe (s : State) (x : RxCtx) (faults : Nat) (prior : Option Copy) : State :=
  if x.frame.drover.isSome then s.xrdOpen x prior
  else s.onPipe x.beam (srcNum x.frame.src) faults (fun s => s.xrdOpen x prior)

/-- CROSSROADS_ARRIVAL: a lane in MERGE hands its frame over and is idle. A copy of an open entry merges; beside the recent keys it is a late copy
of a transmission within 100 µs of it, else a retransmission, of the latest one that is kept. `faults` counts the pairs whose comparator finds a
fault (R369). -/
def execCrossroadsArrival (l : Fin 1152) (f : RxFrame) (faults : Fin 5) (s0 : State) : Host.Outcome State Fault Refusal :=
  .next (
    let y := s0.lane l.val
    if y.state ≠ 5 then s0
    else
      let x := y.ctx l.val f
      let s := s0.freeLane l.val
      let k := matchKey f x.psdu
      match s.rx.xrd.find? (fun e => e.key = k) with
      | some e =>
        let s1 := s.bump R.XRD_CNT_MERGED
        let c : Copy := ⟨x.q, x.beam, x.point, x.time⟩
        if c.better e.best then s1.xrdBest e.id c else s1
      | none =>
        let rs := s.rx.recent.filter (fun e => e.key = k)
        match rs.getLast? with
        | some r =>
          if rs.any (fun e => nearTimes x.time e.rxTime) then s.bump R.XRD_CNT_LATECOPY
          else (s.bump R.XRD_CNT_RETX).xrdPipe x faults.val (some r.best)
        | none => s.xrdPipe x faults.val none)

/-! ### Key loads (R184 to R186) -/

/-- The event of a failed receive load (R186): partition of the key, neighbour index of the frame's sender and cause. A join frame's sender, which has
no index, reads 0x1FFF (DESIGN CHOICE, log entry 100). -/
def State.keyBadEvent (s : State) (r : KeyRole) (x : RxCtx) (cause : Nat) : State :=
  let (part, n) := match r with
    | .link n => (s.panOwner (s.nbr n).pan, n)
    | .join p => (s.panOwner p, 0x1FFF)
    | .group p _ => (s.panOwner p, (s.srcNbr p x.frame.src).getD 0x1FFF)
    | .kek p => (p, 0x1FFF)
    | .derive _ => (0, 0x1FFF)
  s.evtF 13 (2 ^ part) (w32 n) (w32 cause) 0

/-- The received frames that wait for a role leave the wait. -/
def State.waitsTake (s : State) (r : KeyRole) : List RxWait × State :=
  (s.key.waits.filter (fun w => w.role = r),
    { s with key := { s.key with waits := s.key.waits.filter (fun (w : RxWait) => w.role ≠ r) } })

/-- The Enh-Ack's beam of a waiting frame is fixed already (R154, R185). -/
def State.waitLate (s : State) (w : RxWait) : Bool :=
  let n := match w.role with
    | .link n => some n
    | .group p _ => s.srcNbr p w.rx.frame.src
    | _ => none
  w.rx.frame.ackReq && toChip w.rx.frame.dst && decide (s.ackStart w.rx n < s.cityNs + 50000)

/-- A load fails: the received frames that wait for it are dropped, and the queued frames that need it complete KEY_BAD. -/
def State.loadBad (s : State) (l : KeyLoad) (cause : Nat) : State :=
  let (ws, s1) := (s.loadDrop l).waitsTake l.role
  let s2 := match ws with
    | [] => s1
    | w :: _ => s1.keyBadEvent l.role w.rx cause
  s2.keyFramesEnd l.role stKEY_BAD cause

/-- A load ends in its unit: with the key in its slot, or with a cause. It waits while every unpinned pair is locked (R175). -/
def State.loadEnd (s : State) (l : KeyLoad) : State :=
  let s0 := s.keyReady l.role
  match s0.keyLoad l.role with
  | none => s0
  | some (.error cause) => s0.loadBad l cause
  | some (.ok t) =>
    let (ws, s1) := (t.loadDrop l).waitsTake l.role
    let s2 := if ws.any s1.waitLate then s1.bump R.KEY_CNT_LATE else s1
    ws.foldl (fun s w => s.linkRx w.rx) s2

/-- A key unit that serves no load. -/
def State.unitFree (s : State) : Option Nat := [0, 1, 2, 3].find? (fun k => s.key.units.all (fun u => u.1 ≠ k))

/-- Free units take loads from the queue in service order (R184, R185). One for an unavailable key, or for a blob whose partition's KEK is not valid,
fails as it is taken and occupies no unit (R186). -/
def State.keyPump : Nat → State → State
  | 0, s => s
  | n + 1, s =>
    match s.unitFree, s.loadOrder with
    | some k, l :: _ =>
      let u := s.keyReady l.role
      match u.material l.role with
      | .error 9 => State.keyPump n (u.loadBad l 9)
      | .error 7 => State.keyPump n (u.loadBad l 7)
      | _ => State.keyPump n { u with key := { u.key with loads := u.key.loads.erase l, units := u.key.units ++ [(k, l)] } }
    | _, _ => s

/-- The key units after a change of the queue. -/
def State.keyUnits (s : State) : State := s.keyPump (s.key.loads.length + 1)

/-- KEY_LOAD_DONE: a key unit finishes its load. -/
def execKeyLoadDone (k : Fin 4) (s0 : State) : Host.Outcome State Fault Refusal :=
  .next (
    let s := s0.keyUnits
    match s.key.units.find? (fun u => u.1 = k.val) with
    | none => s
    | some u => (s.loadEnd u.2).keyUnits)

/-- KEY_LOAD_TIMEOUT: a load, by its place among those in the units and then those queued in service order, has not completed within
`MISS_TIMEOUT` of its request. -/
def execKeyLoadTimeout (k : Fin 516) (s : State) : Host.Outcome State Fault Refusal :=
  .next (
    match (s.key.units.map (fun u => u.2) ++ s.loadOrder)[k.val]? with
    | none => s
    | some l =>
      let s0 := s.advanceTo (l.at_ + s.missTimeout)
      let (ws, s1) := (s0.loadDrop l).waitsTake l.role
      let s2 := if ws.isEmpty then s1 else s1.bump R.KEY_CNT_TIMEOUT
      (s2.keyFramesEnd l.role stKEY_MISS_TIMEOUT 0).keyUnits)

/-- Received frames whose request the full queue turned away, or that a later class holds, ask again; then prefetches (R185). -/
def State.waitsRetry (s : State) : State :=
  ((s.key.waits.foldl (fun s w => s.keyRequest 0 w.role) s).laterAsk).keyUnits

end Sys2Proof.Machine
end

