-- ==== Sys2Proof/Machine/SlotCfg.lean ====
section
/-! DEFINITION. The slot engine's registers: start and stop, templates, slotframes, hop sequences and cells, and the schedule commands (R103 to
R113, R131, R324). -/

namespace Sys2Proof.Machine

/-! ### Templates and hop sequences (R107, R111) -/

/-- A template is valid for the slot length and preparation lead that the registers give. -/
def State.tplValid (s : State) (t : Nat) : Bool :=
  let l := s.gridNow.2.1 / 1000
  let p := s.gridNow.2.2 / 1000
  let w := s.tplAckWait t
  2 * (s.tplTxOffset t + s.tplMaxTx t + s.tplAckDelay t + s.tplMaxAck t + 100 + p) + w ≤ 2 * l &&
    400 + w ≤ 2 * s.tplAckDelay t && s.tplRxWait t ≤ 2 * s.tplTxOffset t

def State.hopLen (s : State) (h : Nat) : Nat := s.fld (R.SLOT_HOP_CFG h) F.SLOT_HOP_CFG_LEN

/-- Centre of channel `k` of a hop sequence, in 125 Hz units. -/
def State.hopCentre (s : State) (h k : Nat) : Nat :=
  s.fld (R.SLOT_HOP_CH0 h) F.SLOT_HOP_CH0_CH0 + k * s.fld (R.SLOT_HOP_CFG h) F.SLOT_HOP_CFG_SPACING

/-- A hop sequence passes (R111). -/
def State.hopValid (s : State) (h : Nat) : Bool :=
  1 ≤ s.hopLen h && s.hopLen h ≤ 512 && (List.range (s.hopLen h)).all (fun i =>
    let c : Int := (s.hopCentre h (aget 0 (512 * h + i) s.slot.hops) * 125 : Nat)
    s.inPlan c c)

def State.tplBusy (s : State) (t : Nat) : Bool := s.sfs.any (fun i => s.sfTpl i = t)
def State.hopBusy (s : State) (h : Nat) : Bool := s.sfs.any (fun i => s.sfHop i = h)

/-- Only partition 0 writes the engine's configuration (R131). -/
def State.slotWriter (s : State) (part : Nat) (ok : State) : State := s.only0 part R.SLOT_ERR F.SLOT_ERR_PART_WRITE ok

/-- A write of a template word. -/
def State.tplWrite (s : State) (part t k : Nat) (v : Word) : State :=
  s.slotWriter part (if s.tplBusy t then s.err R.SLOT_ERR F.SLOT_ERR_SF_BUSY else s.wr k v)

/-- A write of a channel plan. -/
def State.hopPlanWrite (s : State) (part h k : Nat) (v : Word) : State :=
  s.slotWriter part (if s.hopBusy h then s.err R.SLOT_ERR F.SLOT_ERR_SF_BUSY else s.wr k v)

/-- The hop address after an access with `AUTOINC`. -/
def State.hopNext (s : State) : State :=
  let k := R.SLOT_HOP_ADDR
  if s.flag k F.SLOT_HOP_ADDR_AUTOINC then s.setFld k F.SLOT_HOP_ADDR_INDEX ((s.fld k F.SLOT_HOP_ADDR_INDEX + 1) % 512) else s

def State.hopKey (s : State) : Nat := 512 * s.fld R.SLOT_HOP_ADDR F.SLOT_HOP_ADDR_SEQ + s.fld R.SLOT_HOP_ADDR F.SLOT_HOP_ADDR_INDEX

/-- A write of `SLOT_HOP_DATA`; one that is ignored with `SF_BUSY` does not advance `INDEX` (DESIGN CHOICE, log entry 96). -/
def State.hopWrite (s : State) (part : Nat) (data : Word) : State :=
  s.slotWriter part (
    if s.hopBusy (s.fld R.SLOT_HOP_ADDR F.SLOT_HOP_ADDR_SEQ) then s.err R.SLOT_ERR F.SLOT_ERR_SF_BUSY
    else ({ s with slot := { s.slot with hops := aset 0 s.hopKey (bitsAt data 0 16) s.slot.hops } }).hopNext)

def execHopEntryWrite (part : Part) (data : Word) (s : State) : Host.Outcome State Fault Refusal := .next (s.hopWrite part.val data)

/-- A read of `SLOT_HOP_DATA`. -/
def State.hopRead (s : State) (part : Nat) : State := (s.answer part (w32 (aget 0 s.hopKey s.slot.hops))).hopNext

/-! ### Slotframes (R109, R110) -/

/-- What a descriptor's words would make of an enabled slotframe: the failures of R109, apart from template and hop sequence. -/
def State.sfBad (s : State) (i : Nat) (w0 w1 w2 : Word) : Bool :=
  let pan := fget F.SLOT_SF_W0_PAN w0
  let depth := fget F.SLOT_SF_W0_DEPTH w0
  let len := fget F.SLOT_SF_W1_LENGTH w1
  let base := fget F.SLOT_SF_W2_BASE w2
  let others := s.sfs.filter (· ≠ i)
  !s.panOn pan || depth = 0 || 32 < depth || len = 0 || 1048576 < base + len * depth
    || others.any (fun j => s.sfPan j = pan && s.fld (R.SLOT_SF_W0 j) F.SLOT_SF_W0_HANDLE = fget F.SLOT_SF_W0_HANDLE w0)
    || others.any (fun j => base < s.sfBase j + s.sfLen j * s.sfDepth j && s.sfBase j < base + len * depth)
    || 1024 < depth + (others.map s.sfDepth).sum

/-- A slotframe is enabled, or refused with the flag of every check that fails; SF_INVALID is set by all of them (DEDUCED, log
entry 61). A refused write stores none of the word's other fields (DESIGN CHOICE, log entry 96). -/
def State.sfEnable (s : State) (i : Nat) (w0 : Word) : State :=
  let badTpl := !s.tplValid (fget F.SLOT_SF_W0_TEMPLATE w0)
  let badHop := !s.hopValid (fget F.SLOT_SF_W0_HOP w0)
  let bad := s.sfBad i w0 (s.rd (R.SLOT_SF_W1 i)) (s.rd (R.SLOT_SF_W2 i)) || badTpl || badHop
  let s1 := s.flagIf badTpl R.SLOT_ERR F.SLOT_ERR_TEMPLATE
  let s2 := s1.flagIf badHop R.SLOT_ERR F.SLOT_ERR_HOP_INVALID
  if bad then s2.err R.SLOT_ERR F.SLOT_ERR_SF_INVALID else s2.wr (R.SLOT_SF_W0 i) w0

/-- A write of word 0 of a descriptor: its PAN's owner before and after the write may make it (R131). -/
def State.sfWrite0 (s : State) (part i : Nat) (data : Word) : State :=
  let k := R.SLOT_SF_W0 i
  let d := data &&& 0x3FFFF
  if !s.panMay part (s.sfPan i) || !s.panMay part (fget F.SLOT_SF_W0_PAN d) then s.err R.SLOT_ERR F.SLOT_ERR_PART_WRITE
  else if s.sfOn i then
    let s1 := s.setFld k F.SLOT_SF_W0_ENABLE (fget F.SLOT_SF_W0_ENABLE d)
    if fset F.SLOT_SF_W0_ENABLE d 1 = s.rd k then s1 else s1.err R.SLOT_ERR F.SLOT_ERR_SF_BUSY
  else if fget F.SLOT_SF_W0_ENABLE d = 0 then s.wr k d
  else s.sfEnable i d

/-- A write of word 1 or 2 of a descriptor. -/
def State.sfWrite (s : State) (part i k : Nat) (v : Word) : State :=
  if !s.panMay part (s.sfPan i) then s.err R.SLOT_ERR F.SLOT_ERR_PART_WRITE
  else if s.sfOn i then s.err R.SLOT_ERR F.SLOT_ERR_SF_BUSY
  else s.wr k v

def execSlotframeEnable (part : Part) (i : Fin 64) (data : Word) (s : State) : Host.Outcome State Fault Refusal :=
  .next (s.sfWrite0 part.val i.val (fset F.SLOT_SF_W0_ENABLE data 1))

def execSlotframeDisable (part : Part) (i : Fin 64) (data : Word) (s : State) : Host.Outcome State Fault Refusal :=
  .next (s.sfWrite0 part.val i.val (fset F.SLOT_SF_W0_ENABLE data 0))

/-! ### Cells (R112, R113, R131) -/

/-- A partition may write a cell: it lies within a slotframe descriptor of a PAN that it owns. -/
def State.cellMay (s : State) (part c : Nat) : Bool :=
  part = 0 || (List.range 64).any (fun i =>
    s.sfBase i ≤ c && c < s.sfBase i + s.sfLen i * s.sfDepth i && s.panOwner (s.sfPan i) = part)

/-- A cell write that R112 refuses. -/
def cellBad (w0 w1 : Word) : Bool :=
  bitsAt w0 6 2 ≠ 0 || bitsAt w0 12 4 ≠ 0 || bitsAt w1 21 11 ≠ 0 || (bitAt w0 0 && !bitAt w0 1 && !bitAt w0 2 && !bitAt w0 5)

def State.setCell (s : State) (c : Nat) (w0 w1 : Word) : State :=
  { s with slot := { s.slot with cells := aset 0 (2 * c + 1) w1 (aset 0 (2 * c) w0 s.slot.cells) } }

/-- The cell address after an access with `AUTOINC`. -/
def State.cellNext (s : State) : State :=
  let k := R.SLOT_CELL_ADDR
  if s.flag k F.SLOT_CELL_ADDR_AUTOINC then s.setFld k F.SLOT_CELL_ADDR_CELL ((s.fld k F.SLOT_CELL_ADDR_CELL + 1) % 1048576) else s

/-- A write of `SLOT_CELL_DATA0`: both words at once. The address and the staged word are one shared copy, and the owner is checked here
(DEDUCED, log entry 62). A refused write advances the address too (DESIGN CHOICE, log entry 96). -/
def State.cellWrite (s : State) (part : Nat) (data : Word) : State :=
  let c := s.fld R.SLOT_CELL_ADDR F.SLOT_CELL_ADDR_CELL
  let w1 := s.rd R.SLOT_CELL_DATA1
  (if !s.cellMay part c then s.err R.SLOT_ERR F.SLOT_ERR_PART_WRITE
   else if cellBad data w1 then s.err R.SLOT_ERR F.SLOT_ERR_CELL_INVALID
   else s.setCell c data w1).cellNext

def execCellWrite (part : Part) (data : Word) (s : State) : Host.Outcome State Fault Refusal := .next (s.cellWrite part.val data)

/-- A read of `SLOT_CELL_DATA0`. -/
def State.cellRead (s : State) (part : Nat) : State :=
  let c := s.fld R.SLOT_CELL_ADDR F.SLOT_CELL_ADDR_CELL
  ((s.answer part (s.cellWord c 0)).wr R.SLOT_CELL_DATA1 (s.cellWord c 1)).cellNext

def execCellRead (part : Part) (s : State) : Host.Outcome State Fault Refusal := .next (s.cellRead part.val)

/-! ### The schedule commands (R324) -/

/-- First cell and count of a schedule command. -/
def schedFirst (c : CmdDesc) : Nat := bitsAt c.w2 0 20
def schedCount (c : CmdDesc) : Nat := bitsAt c.w3 0 21

/-- The checks of a schedule command before any cell: a cause. -/
def schedBad (c : CmdDesc) (dma : Dma) : Option Nat :=
  if unaligned c.w4 c.w5 then some 8
  else if 1048576 < schedCount c || 1048576 < schedFirst c + schedCount c then some 22
  else if schedCount c ≠ 0 && dma ≠ .ok then some 20
  else none

/-- SCHED_WRITE: every cell is checked before any is written; the first refused cell is reported by its number (DEDUCED, log entry 63). -/
def execSchedWrite (c : CmdDesc) (dma : Dma) (s0 : State) : Host.Outcome State Fault Refusal :=
  .next (
    if !s0.cmdTurn c then s0
    else
    let s := s0.cmdTake c
    let p := c.part.val
    let a := addr64 c.w4 c.w5
    let word (i w : Nat) : Word := s.memWord p (a + 8 * i + 4 * w)
    match schedBad c dma with
    | some cause => s.cmdBad c cause
    | none =>
      let is := List.range (schedCount c)
      match is.find? (fun i => !s.cellMay p (schedFirst c + i) || cellBad (word i 0) (word i 1)) with
      | some i =>
        s.cmdDone c stBAD_PARAM [w32 (schedFirst c + i)] (if s.cellMay p (schedFirst c + i) then 22 else 1) 0
      | none => (is.foldl (fun s i => s.setCell (schedFirst c + i) (word i 0) (word i 1)) s).cmdOk c [])

/-- SCHED_READ: cells that the issuer may not write read 0. -/
def execSchedRead (c : CmdDesc) (s0 : State) : Host.Outcome State Fault Refusal :=
  .next (
    if !s0.cmdTurn c then s0
    else
    let s := s0.cmdTake c
    let p := c.part.val
    match schedBad c .ok with
    | some cause => s.cmdBad c cause
    | none =>
      let out := (List.range (schedCount c)).flatMap (fun i =>
        let n := schedFirst c + i
        if s.cellMay p n then [s.cellWord n 0, s.cellWord n 1] else [0, 0])
      (s.memWrite p (addr64 c.w4 c.w5) (wordsBytes out)).cmdOk c [w32 (schedCount c)])

/-! ### Start and stop (R104, R105) -/

/-- The engine is about to run. -/
def State.slotPending (s : State) : Bool := s.slot.startAsn.isSome

/-- A start's checks, and the ASN of its first slot: the first boundary at least 1 ms after the write. While the engine runs or a start waits for
its boundary, a further `START` does nothing (DESIGN CHOICE, log entry 96). -/
def State.slotStart (s : State) : State :=
  let (e, l, _) := s.gridNow
  let t := s.cityNs
  if s.running || s.slotPending then s
  else if !s.time.valid || t < e || 1000000000 ≤ s.fld R.SLOT_EPOCH_NS F.SLOT_EPOCH_NS_NS || s.sfs.isEmpty || l < 5000000 || 80000000 < l then
    s.err R.SLOT_ERR F.SLOT_ERR_START_REFUSED
  else if s.sfs.any (fun i => !s.tplValid (s.sfTpl i)) then s.err R.SLOT_ERR F.SLOT_ERR_TEMPLATE
  else
    let n := (t - e) / l + 1
    let m := if e + n * l < t + 1000000 then n + 1 else n
    { s with slot := { s.slot with startAsn := some m, grid := some s.gridNow, stopping := false } }

/-- A stop takes effect at the next boundary, that of a start that waits included (DESIGN CHOICE, log entry 96). -/
def State.slotStop (s : State) : State :=
  if s.running || s.slotPending then { s with slot := { s.slot with stopping := true } } else s

/-- A write of `SLOT_CTRL`; one with both bits runs `START`, then `STOP` (DESIGN CHOICE, log entry 96). -/
def State.slotCtrl (s : State) (part : Nat) (data : Word) : State :=
  s.slotWriter part (
    let s1 := if bitAt data 0 then s.slotStart else s
    if bitAt data 1 then s1.slotStop else s1)

def execSlotStart (part : Part) (s : State) : Host.Outcome State Fault Refusal := .next (s.slotCtrl part.val 1)
def execSlotStop (part : Part) (s : State) : Host.Outcome State Fault Refusal := .next (s.slotCtrl part.val 2)

/-- A write of `SLOT_CFG`: while the engine runs, `LENGTH` and `PREP_LEAD` keep their values (R105); a write that repeats them sets no flag
(DEDUCED, log entry 60). -/
def State.slotCfg (s : State) (part : Nat) (data : Word) : State :=
  s.slotWriter part (
    if !s.running then s.wr R.SLOT_CFG data
    else
      let old := s.rd R.SLOT_CFG
      let d := fset F.SLOT_CFG_PREP_LEAD (fset F.SLOT_CFG_LENGTH data (fget F.SLOT_CFG_LENGTH old)) (fget F.SLOT_CFG_PREP_LEAD old)
      let s1 := s.wr R.SLOT_CFG d
      if d = data then s1 else s1.err R.SLOT_ERR F.SLOT_ERR_RUNNING_WRITE)

/-- A write of `SLOT_EPOCH_S` or `SLOT_EPOCH_NS`. -/
def State.epochWrite (s : State) (part k : Nat) (v : Word) : State :=
  s.slotWriter part (if s.running then s.err R.SLOT_ERR F.SLOT_ERR_RUNNING_WRITE else s.wr k v)

end Sys2Proof.Machine
end

