-- ==== Sys2Proof/Machine/Slot.lean ====
section
/-! DEFINITION. The slot engine's plan: engines A and B, candidates and their checks, admission, enhanced beacons, DOZE windows (R114 to R119,
R122 to R129, R148, R149, R155, R169, R191). -/

namespace Sys2Proof.Machine

/-! ### Engines A and B (R122 to R127) -/

def engField (e : Nat) : Fld := if e = 0 then F.SLOT_HEALTH_A_STATE else F.SLOT_HEALTH_B_STATE
def triesField (e : Nat) : Fld := if e = 0 then F.SLOT_HEALTH_A_TRIES else F.SLOT_HEALTH_B_TRIES

/-- State code of engine A (0) or B (1). -/
def State.engState (s : State) (e : Nat) : Nat := s.fld R.SLOT_HEALTH (engField e)
def State.engSet (s : State) (e st : Nat) : State := s.setFld R.SLOT_HEALTH (engField e) st
def State.engTries (s : State) (e : Nat) : Nat := s.fld R.SLOT_HEALTH (triesField e)
def State.primary (s : State) : Nat := s.fld R.SLOT_HEALTH F.SLOT_HEALTH_PRIMARY
def State.prefer (s : State) : Nat := s.fld R.SLOT_CFG F.SLOT_CFG_PREFER

def State.eng (s : State) (e : Nat) : EngineSt := if e = 0 then s.slot.engA else s.slot.engB
def State.setEng (s : State) (e : Nat) (x : EngineSt) : State :=
  { s with slot := if e = 0 then { s.slot with engA := x } else { s.slot with engB := x } }

/-- An engine becomes primary. -/
def State.engPrimary (s : State) (e : Nat) : State := (s.engSet e 0).setFld R.SLOT_HEALTH F.SLOT_HEALTH_PRIMARY e

/-- The seconds of matching of an engine in probation, 0 where none is in it (R127); a disagreement restarts them (DEDUCED, log entry 64). -/
def State.matchSync (s : State) : State :=
  let m := ([0, 1].filter (fun e => s.engState e = 4)).foldl (fun _ e => min 60 ((s.now - (s.eng e).probFrom) / sec 1)) 0
  s.setFld R.SLOT_HEALTH F.SLOT_HEALTH_MATCH_S m

/-- Roles as the engine begins to compute: the engine named by `PREFER` is primary, the other standby, of those that are not out of service
(R127). They are taken at the first preparation, so that its plans are compared, or at the first boundary where a start leaves no room for
one (DEDUCED, log entry 69). -/
def State.engStart (s : State) : State :=
  let up := [s.prefer, 1 - s.prefer].filter (fun e => s.engState e = 6)
  match up with
  | [] => s
  | e :: r => r.foldl (fun s o => s.engSet o 1) (s.engPrimary e)

/-- An engine is disabled (R125, R126). -/
def State.engDisable (s : State) (e : Nat) : State :=
  (((s.engSet e 2).setFld R.SLOT_HEALTH (triesField e) 0).setEng e { since := s.now }).matchSync

/-- A switch-over from an engine whose self-check failed with a cause (R125). -/
def State.switchOver (s : State) (e cause asn : Nat) : State :=
  let s1 := (((s.engDisable e).engPrimary (1 - e)).setEng (1 - e) {}).matchSync
  ((s1.bump R.SLOT_CNT_SWITCH).evtF 3 0 (w32 e) (w32 cause) (w32 asn)).ledger 0x0010 e (w32 cause) (w32 asn) 0

/-- Self-check cause of R123 that a check reports of an engine; 0 where it passes. -/
def engFail (k : SlotCheck) (e : Nat) : Nat := if e = 0 then k.aFail.val else k.bFail.val

/-- The engines have agreed, or the only one has passed: cause 0 of Quiet ends after 60 s of it (R372). -/
def State.engGood (s : State) : State :=
  match s.safe.agreeSince with
  | none => { s with safe := { s.safe with agreeSince := some s.now } }
  | some t => if t + sec 60 ≤ s.now then s.quietOver 0 else s

def State.engBad (s : State) : State := { s with safe := { s.safe with agreeSince := none } }

/-- The table of R124 at a comparison, or at a disagreement during a slot. -/
def State.engCheck (s : State) (k : SlotCheck) (asn : Nat) : State :=
  let p := s.primary
  let o := 1 - p
  let on := s.engState o = 1 || s.engState o = 4
  if engFail k p ≠ 0 then
    (if on && engFail k o = 0 then s.engBad.switchOver p (engFail k p) asn else s.engBad.quiet 0)
  else if !on then s.engGood.matchSync
  else if engFail k o ≠ 0 then s.engBad.engDisable o
  else if k.agree then s.engGood.matchSync
  else
    let s1 := if s.engState o = 4 then (s.setEng o { s.eng o with probFrom := s.now }).matchSync else s
    s1.engBad.quiet 0

/-! ### Candidates (R115) -/

/-- Radio classes that a cell allows, the highest first. -/
def Cell.classList (c : Cell) : List Nat := [0, 1, 2, 3].filter (fun k => c.classes = 0 || nbit c.classes k)

/-- The queue of a class that a `TX` cell serves. -/
def State.cellQueue (s : State) (c : Cell) (k : Nat) : Nat := if c.bcast then qBcast (s.sfPan c.sf) k else qNbr c.nbr k

/-- A cell for a neighbour offers frames while its entry is valid and not LOST (R142, R145). -/
def State.cellServes (s : State) (c : Cell) : Bool := c.bcast || (let x := s.nbr c.nbr; x.valid && x.state != 3)

/-- A candidate: its cell, queue and frame. -/
structure Cand where
  cell : Cell
  queue : Nat
  frame : Frame
deriving DecidableEq, Repr

/-- The candidate of a cell in the snapshot: the head of the highest allowed class that is not empty, unless an attempt of it is in progress. -/
def State.candOf (s : State) (c : Cell) : Option Cand :=
  if c.adv || !c.tx || !s.cellServes c then none
  else
    match (c.classList.filterMap (fun k => (s.qHead (s.cellQueue c k)).map (fun f => (Cand.mk c (s.cellQueue c k) f)))).head? with
    | some x => if x.frame.onAir then none else some x
    | none => none

/-- The queues that a slot's cells serve are checked before the snapshot (R287). -/
def State.slotQueueCheck (s : State) (cells : List Cell) : State :=
  (cells.filter (fun c => !c.adv && c.tx)).foldl (fun s c => c.classList.foldl (fun s k => s.queueCheck (s.cellQueue c k)) s) s

/-- A candidate is still queued as it was in the snapshot. -/
def State.candLives (s : State) (x : Cand) : Bool := (s.queue x.queue).frames.any (fun f => f.id = x.frame.id && !f.onAir)

/-! ### Blanking clearance (R117) -/

/-- Transmission `i` blanks the array of `j`. -/
def State.blanks (s : State) (i j : Nat) : Bool := i == j || nbit (s.fld (R.ARR_BLANK i) F.ARR_BLANK_MASK) j

/-- Blanking interval of a transmission, ns. -/
def State.blankOf (s : State) (start end_ : Nat) : Nat × Nat := (start - 1000 * (s.txLead + s.trGap), end_ + 200000)

def overlaps (a b : Nat × Nat) : Bool := a.1 < b.2 && b.1 < a.2

/-- A transmission that asks for admission, with its acknowledgement interval if it expects an Enh-Ack. -/
structure Ask where
  array : Nat
  beam : Nat
  start : Nat
  end_ : Nat
  ack : Option (Nat × Nat)
deriving DecidableEq, Repr

/-- R117 between a transmission and every one already admitted. -/
def State.blankClear (s : State) (j : Ask) : Bool :=
  (s.air.filter (fun t => t.holds s.cityNs && t.kind ≠ 2)).all (fun i =>
    let iAck := s.slot.acks.find? (fun p => p.stream = i.stream && p.attempt = i.attempt && i.attempt ≠ 0)
    let one := !s.blanks i.array j.array || j.ack.all (fun w => !overlaps (s.blankOf i.tStart i.tEnd) w)
    let two := !s.blanks j.array i.array || iAck.all (fun p => !overlaps (s.blankOf j.start j.end_) (p.from_, p.busyTo))
    one && two)

/-! ### Admission of the copies (R116 checks 4 and 5, R118, R119) -/

/-- What a frame is sent with in a slot: number of the attempt (0 for a beacon), kind, PAN, PHY, channel, power code, and the
acknowledgement times of the cell's template, ns. -/
structure Plan where
  attempt : Nat
  kind : Nat
  pan : Nat
  frame : Nat
  phy : Phy
  chan : Chan
  width : Nat
  power : Nat
  start : Nat
  air : Nat
  profile : Option Nat
  ackDelay : Nat
  ackWait : Nat
  maxAck : Nat
deriving DecidableEq, Repr

/-- The width code of a channel: the narrowest that holds its bandwidth. -/
def widthOf (hz : Nat) : Nat := ((List.range 9).find? (fun w => decide (hz ≤ (widthHz w).getD 0))).getD 8

/-- Acknowledgement interval and end of the search of a unicast attempt. -/
def Plan.ackWin (p : Plan) : Nat × Nat :=
  let e := p.start + p.air
  (e + p.ackDelay - p.ackWait / 2, e + p.ackDelay + p.ackWait / 2 + p.maxAck)

/-- One copy meets the blanking, stream and power checks; an admitted one takes its stream and, if it expects an Enh-Ack, its
acknowledgement point. -/
def State.admitOn (s : State) (p : Plan) (b : Nat) : State :=
  let a := s.beamArray b
  let e := p.start + p.air
  let win := p.profile.map (fun _ => p.ackWin)
  if !s.blankClear ⟨a, b, p.start, e, win⟩ then s.bump R.SLOT_CNT_BLANKDEF
  else
    match s.grant a p.start e p.power with
    | .ok k code =>
      let t : AirTx :=
        { id := s.slot.nextTx
          attempt := p.attempt
          frame := p.frame
          array := a
          beam := b
          stream := k
          power := code
          centre := p.chan.centre
          width := p.width
          tStart := p.start
          tEnd := e
          kind := p.kind
          pan := p.pan
          mode := p.phy.mode
          level := 0
          counter := none
          dsn := none
          bytes := []
          pending := false
          started := false
          ended := false
          cut := false }
      let pts : List AckPt := match p.profile with
        | none => []
        | some f => [AckPt.mk k p.attempt b p.chan.centre p.width f false false p.ackWin.1 (e + p.ackDelay + p.ackWait / 2) p.ackWin.2]
      { s with
          air := s.air ++ [t]
          slot := { s.slot with nextTx := s.slot.nextTx + 1, acks := s.slot.acks ++ pts } }
    | g => s.grantCount g

/-- Transmissions that a plan has had admitted: those numbered from one on. -/
def State.admitted (s : State) (from_ : Nat) : List AirTx := s.air.filter (fun t => from_ ≤ t.id)

/-- The admitted copies take their content. -/
def State.fillTx (s : State) (from_ level : Nat) (counter dsn : Option Nat) (bytes : List Byte) (hdr : MacHdr) (psdu : List Byte) : State :=
  { s with air := s.air.map (fun (t : AirTx) =>
      if from_ ≤ t.id then
        { t with level := level, counter := counter, dsn := dsn, bytes := bytes, pending := hdr.pending, hdr := hdr, psdu := psdu }
      else t) }

/-- Admitted copies are taken back. -/
def State.unadmit (s : State) (from_ : Nat) : State :=
  let ks := (s.admitted from_).map (fun t => (t.stream, t.attempt))
  { s with
      air := s.air.filter (fun (t : AirTx) => t.id < from_)
      slot := { s.slot with acks := s.slot.acks.filter (fun (p : AckPt) => !ks.contains (p.stream, p.attempt)) } }

/-! ### A data frame (R116, R155 to R157, R169, R186, R191) -/

/-- PSDU octets of a frame: a retry keeps the level of its first attempt. -/
def State.psduOf (s : State) (f : Frame) : Nat :=
  f.bytes.length + s.macOverAt f.pan f.nbr (if f.attempts = 0 then s.txLevel f.pan else f.level)

/-- The frame completes BAD_PARAM at its preparation point; the spec gives no cause: a free value. -/
def State.prepBad (s : State) (x : Cand) : State :=
  let (c, s1) := s.draw 256
  s1.finish x.queue x.frame stBAD_PARAM c 0

/-- The plan of a candidate: its template, PHY, beams asked for. -/
def State.candPlan (s : State) (x : Cand) (n : Nat) : Plan :=
  let t := s.sfTpl x.cell.sf
  let y := match x.frame.nbr with
    | some i => s.nbrPhy i
    | none => s.panPhy x.frame.pan
  { attempt := s.slot.nextAttempt
    kind := 0
    pan := x.frame.pan
    frame := x.frame.id
    phy := y
    chan := (s.cellChan x.cell (n % 2 ^ 40)).occupied y
    width := widthOf (s.cellChan x.cell (n % 2 ^ 40)).hz
    power := match x.frame.nbr with
      | some i => (s.nbr i).power
      | none => s.fld (R.PAN_POLICY x.frame.pan) F.PAN_POLICY_EB_POWER
    start := s.boundary n + 1000 * s.tplTxOffset t
    air := y.air (s.psduOf x.frame)
    profile := x.frame.nbr.map (fun i => (s.nbr i).profile)
    ackDelay := 1000 * s.tplAckDelay t
    ackWait := 1000 * s.tplAckWait t
    maxAck := 1000 * s.tplMaxAck t }

/-- The beam asked for: the cell's, else the binding of the neighbour's node; a broadcast goes on the omni beams. A binding to a port that
is no beam (48 to 59, which R482 allows) counts as none (DESIGN CHOICE, log entry 90). -/
def State.candBeam (s : State) (x : Cand) : Option Nat :=
  match x.cell.beam with
  | some b => some b
  | none => x.frame.nbr.bind (fun i => let r := s.node (s.nbr i).node; if r.bound && r.port < 48 then some r.port else none)

/-- The binding of the neighbour's node in force names port 63: a frame forwarded there is dropped and counted (R30). -/
def State.candDiscards (s : State) (x : Cand) : Bool :=
  x.cell.beam.isNone && x.frame.nbr.any (fun i => let r := s.node (s.nbr i).node; r.bound && r.port == 63)

/-- MAC header of a data frame (R155, R169, R479): from 0x0000 to the neighbour's short address or EUI-64, or to 0xFFFF; Key Identifier Mode 0, or of a
broadcast 1 with the index of the current group key. -/
def State.dataHdr (s : State) (f : Frame) (level fcs : Nat) : MacHdr :=
  { ftype := 1
    ackReq := f.nbr.isSome
    panComp := true
    dstPan := some (s.panId f.pan)
    dst := match f.nbr with
      | some i => if (s.nbr i).short = 0xFFFE then .ext (BitVec.ofNat 64 (s.node (s.nbr i).node).eui) else .short (BitVec.ofNat 16 (s.nbr i).short)
      | none => .short 0xFFFF
    src := .short 0
    keyMode := if level = 0 || f.nbr.isSome then 0 else 1
    keyIndex := if level = 0 || f.nbr.isSome then 0 else s.groupIdx f.pan (s.groupCur f.pan)
    fcs := fcs }

/-- The copies are admitted: sequence number, counter and ciphertext are assigned (R38, R39, R155). `key` is the role and the key that
protect it now; none keeps what the frame carries. -/
def State.commit_ (s : State) (x : Cand) (p : Plan) (from_ : Nat) (key : Option (KeyRole × KeySlot)) : State :=
  let f := x.frame
  let first := f.attempts = 0
  let (dsn, s1) : Nat × State :=
    if !first then (f.dsn, s)
    else
      match f.nbr with
      | some i => let d := ((s.nbr i).dsn + 1) % 256; (d, s.setNbr i { s.nbr i with dsn := d })
      | none =>
        let d := (aget 0 f.pan s.link.bDsn + 1) % 256
        (d, { s with link := { s.link with bDsn := aset 0 f.pan d s.link.bDsn } })
  let (ctr, fp, s2) : Option Nat × Nat × State :=
    match key with
    | none => (f.counter, f.keyFp, s1)
    | some (r, k) =>
      let (c, t) := s1.ctrTake ((ctrOf r).getD 0)
      let t1 := t.keyUse r
      (c, k.fp, if first then t1 else t1.bump R.LINK_CNT_REPROTECT)
  let s3 := match f.nbr, ctr, key with
    | some i, some c, some _ => s2.setNbr i { s2.nbr i with highest := c + 1, hiKey := fp }
    | _, _, _ => s2
  let lvl := if first then s.txLevel f.pan else f.level
  let (hdr, psdu) : MacHdr × List Byte :=
    if !first && key.isNone then (f.hdr, f.psdu)
    else
      let h := s.dataHdr f lvl p.phy.fcs
      (h, h.seal ((key.map (fun k => k.2.key)).getD 0) (some dsn) lvl (ctr.getD 0) [] f.bytes)
  let s4 := s3.fillTx from_ lvl ctr (some dsn) f.bytes hdr psdu
  let s5 := if f.charged then s4 else s4.shapeCharge x.queue f.len
  let beam := ((s5.admitted from_).head?.map AirTx.beam).getD 63
  let s6 := s5.frameMod x.queue f.id (fun g => { g with
    attempts := g.attempts + 1
    counter := ctr
    keyFp := fp
    hdr := hdr
    psdu := psdu
    dsn := dsn
    level := lvl
    onAir := true
    charged := true
    lastTx := p.start
    lastBeam := beam })
  let a : Attempt := ⟨p.attempt, x.queue, f.id, f.nbr, f.pan, dsn, x.cell.shared, x.cell.timekeeping, s.sfTpl x.cell.sf⟩
  { s6 with slot := { s6.slot with attempts := s6.slot.attempts ++ [a], nextAttempt := p.attempt + 1 } }

/-- Checks 4 and 5 for every copy, then the frame check word (R370), then the commit; a frame without an admitted copy waits. -/
def State.candAdmit (s : State) (x : Cand) (p : Plan) (beams : List Nat) (key : Option (KeyRole × KeySlot)) : State :=
  let from_ := s.slot.nextTx
  let s1 := beams.foldl (fun s b => s.admitOn p b) s
  if (s1.admitted from_).isEmpty then s1
  else if !x.frame.checkOk then (s1.unadmit from_).frameCheckFail x.queue x.frame
  else s1.commit_ x p from_ key

/-- The key of a first attempt or of a fresh protection; then the copies (R169, R186, R189, R191). The key deferral stands after check 3
(DEDUCED, log entry 66). -/
def State.candKey (s : State) (x : Cand) (p : Plan) (beams : List Nat) : State :=
  let f := x.frame
  match s.frameRole f with
  | none => s.candAdmit x p beams none
  | some r =>
    if f.attempts ≠ 0 && !s.reprotects f then s.candAdmit x p beams none
    else
      let (s1, k) := s.keyTake r attrENC
      match k with
      | none =>
        let s2 := s1.keyRequest 1 r
        if f.nbr.isNone then s2.finish x.queue f stKEY_BAD 9 0 else s2.bump R.KEY_CNT_TXDEF
      | some k =>
        if (s1.ctr ((ctrOf r).getD 0)).n = 0xFFFFFFFF then s1.finish x.queue f stKEY_SPENT 0 0
        else s1.candAdmit x p beams (some (r, k))

/-- A candidate outside Quiet and Hush (R116). The backoff stands after check 1 (DEDUCED, log entry 66). -/
def State.candPlanIn (s : State) (x : Cand) (n : Nat) : State :=
  let f := x.frame
  let p := s.candPlan x n
  let busy := f.nbr.any (fun i => s.slot.attempts.any (fun a => a.nbr = some i))
  let wait := match f.nbr with
    | some i => x.cell.shared && (s.nbr i).bw ≠ 0
    | none => false
  let badMode := f.nbr.isNone && !modeOk p.phy.fam p.phy.mode
  let level4 := (if f.attempts = 0 then s.txLevel f.pan else f.level) = 4 && !s.flag (R.PAN_POLICY f.pan) F.PAN_POLICY_LEVEL4_EN
  if busy then s
  else if wait then
    (match f.nbr with
     | some i => s.setNbr i { s.nbr i with bw := (s.nbr i).bw - 1 }
     | none => s)
  else if badMode || level4 then s.prepBad x
  else if s.sfs.all (fun i => 1000 * s.tplMaxTx (s.sfTpl i) < p.air) then s.prepBad x
  else if 1000 * s.tplMaxTx (s.sfTpl x.cell.sf) < p.air then s.bump R.SLOT_CNT_NOFIT
  else if !s.chanPlanned p.chan then (s.err R.RFP_ERR F.RFP_ERR_OUT_OF_PLAN).prepBad x
  else
    let beams := s.beamsFor p.phy.fam p.chan (s.candBeam x)
    if beams.isEmpty then s.bump R.SLOT_CNT_SPANDEF else s.candKey x p beams

/-- A candidate at its preparation point: in Quiet it completes QUIET, in Hush it stays (R41, R128). -/
def State.candRun (s : State) (x : Cand) (n : Nat) : State :=
  if !s.candLives x || s.pwr.hush then s
  else if s.inQuiet then s.finish x.queue x.frame stQUIET 0 0
  else if s.candDiscards x then (s.finish x.queue x.frame stOK 0 0).bump R.MESH_CNT_DISCARD
  else s.candPlanIn x n

/-! ### Enhanced beacons (R118, R148, R149) -/

/-- A nested IE of the short form (PRESUMED formats of IEEE 802.15.4, log entry 67). -/
def shortIe (id : Nat) (bs : List Byte) : List Byte := leBytes 2 (bs.length % 256 + id % 128 * 256) ++ bs

/-- A nested IE of the long form. -/
def longIe (id : Nat) (bs : List Byte) : List Byte := leBytes 2 (bs.length % 2048 + id % 16 * 2048 + 2 ^ 15) ++ bs

/-- Fields of the Timeslot IE (R148). -/
def State.timeslotIe (s : State) (t : Nat) : List Byte :=
  let two := leBytes 2
  leBytes 1 (t + 1) ++ two 0 ++ two 0 ++ two (s.tplTxOffset t) ++ two (s.tplTxOffset t - s.tplRxWait t / 2)
    ++ two (s.tplAckDelay t - s.tplAckWait t / 2) ++ two (s.tplAckDelay t) ++ two (s.tplRxWait t) ++ two (s.tplAckWait t)
    ++ two (s.txLead + s.trGap) ++ two (s.tplMaxAck t) ++ leBytes 3 (s.tplMaxTx t) ++ leBytes 3 (s.slotNs / 1000)

/-- Links that the beacons of a PAN announce: slotframe and cell number of each `ADV` cell and of each shared `RX` cell, the first 16. -/
def State.ebLinks (s : State) (p : Nat) : List (Nat × Cell) :=
  ((s.sfs.filter (fun i => s.sfPan i = p)).flatMap (fun i =>
    ((s.slot.cells.filter (fun e => e.1 % 2 = 0 && 2 * s.sfBase i ≤ e.1 && e.1 < 2 * (s.sfBase i + s.sfLen i * s.sfDepth i))).map (fun e =>
      (i, Cell.mk i (e.1 / 2) e.2 (s.cellWord (e.1 / 2) 1)))).filter (fun x =>
        bitAt x.2.w0 0 && (x.2.adv || (x.2.rx && x.2.shared))))).take 16

/-- Slotframe and Link IE. A beacon cell is a receive link for the nodes and a shared receive cell a shared transmit link. -/
def State.linksIe (s : State) (p : Nat) : List Byte :=
  let ls := s.ebLinks p
  let mine := s.sfs.filter (fun i => s.sfPan i = p)
  leBytes 1 mine.length ++ mine.flatMap (fun i =>
    let l := ls.filter (fun x => x.1 = i)
    leBytes 1 (s.fld (R.SLOT_SF_W0 i) F.SLOT_SF_W0_HANDLE) ++ leBytes 2 (s.sfLen i) ++ leBytes 1 l.length ++ l.flatMap (fun x =>
      leBytes 2 ((x.2.num - s.sfBase i) / max 1 (s.sfDepth i)) ++ leBytes 2 x.2.offset
        ++ leBytes 1 ((if x.2.adv then 0x0A else 0) + (if x.2.rx && x.2.shared then 0x05 else 0))))

/-- Channel Hopping IE. -/
def State.hopIe (s : State) (p h : Nat) : List Byte :=
  leBytes 1 h ++ (if s.flag (R.PAN_POLICY p) F.PAN_POLICY_EB_HOP_FULL then
    leBytes 2 (s.hopLen h) ++ (List.range (s.hopLen h)).flatMap (fun i => leBytes 2 (aget 0 (512 * h + i) s.slot.hops)) else [])

/-- The host's payload IEs. -/
def State.hostIe (s : State) (p : Nat) : List Byte :=
  (wordsBytes ((List.range 7).map (fun w => s.rd (R.PAN_EB_IE w p)))).take (min 28 (s.fld (R.PAN_EB_IE_LEN p) F.PAN_EB_IE_LEN_LEN))

/-- IEs of an enhanced beacon in the slot ASN: Header Termination 1, the MLME IE with its nested IEs, the host's IEs. -/
def State.beaconIes (s : State) (c : Cell) (asn : Nat) : List Byte :=
  let p := s.sfPan c.sf
  let body := shortIe 0x1A (leBytes 5 asn ++ leBytes 1 0) ++ shortIe 0x1C (s.timeslotIe (s.sfTpl c.sf)) ++ longIe 9 (s.hopIe p (s.sfHop c.sf))
    ++ shortIe 0x1B (s.linksIe p)
  leBytes 2 (0x7E * 2 ^ 7) ++ leBytes 2 (body.length % 2048 + 2 ^ 11 + 2 ^ 15) ++ body ++ s.hostIe p

/-- Octets of a beacon beside its IEs: frame control, source PAN ID and EUI-64, auxiliary security header, MIC and FCS (PRESUMED sizes, log
entry 42). -/
def ebOver (y : Phy) (level : Nat) : Nat := 12 + (if level = 0 then 0 else 6 + micLen level) + y.fcs

/-- An `ADV` cell: the beacon is built and its copies meet the checks; in a secured PAN it needs the current group key (R149, R169, R191). -/
def State.beaconRun (s : State) (c : Cell) (n : Nat) : State :=
  let pan := s.sfPan c.sf
  let level := if s.panSecured pan then s.fld (R.PAN_POLICY pan) F.PAN_POLICY_EB_LEVEL else 0
  let t := s.sfTpl c.sf
  let y := s.panPhy pan
  let bytes := s.beaconIes c (n % 2 ^ 40)
  let p : Plan :=
    { attempt := 0
      kind := 1
      pan := pan
      frame := 0
      phy := y
      chan := (s.cellChan c (n % 2 ^ 40)).occupied y
      width := widthOf (s.cellChan c (n % 2 ^ 40)).hz
      power := s.fld (R.PAN_POLICY pan) F.PAN_POLICY_EB_POWER
      start := s.boundary n + 1000 * s.tplTxOffset t
      air := y.air (bytes.length + ebOver y level)
      profile := none
      ackDelay := 0
      ackWait := 0
      maxAck := 0 }
  if s.inQuiet || s.pwr.hush || !modeOk y.fam y.mode then s
  else if s.sfs.all (fun i => 1000 * s.tplMaxTx (s.sfTpl i) < p.air) then s
  else if 1000 * s.tplMaxTx t < p.air then s.bump R.SLOT_CNT_NOFIT
  else if !s.chanPlanned p.chan then s.err R.RFP_ERR F.RFP_ERR_OUT_OF_PLAN
  else
    let beams := match c.beam with
      | some b => s.beamsFor y.fam p.chan (some b)
      | none => s.omniBeams y.fam p.chan
    if beams.isEmpty then s.bump R.SLOT_CNT_SPANDEF
    else
      let r := KeyRole.group pan (s.groupCur pan)
      let e := (ctrOf r).getD 0
      let (s1, k) := if level = 0 then (s, none) else s.keyTake r attrENC
      if level ≠ 0 && k.isNone then (s1.keyRequest 1 r).bump R.LINK_CNT_EBSKIP
      else if level ≠ 0 && (s1.ctr e).n = 0xFFFFFFFF then s1.bump R.LINK_CNT_EBSKIP
      else
        let from_ := s1.slot.nextTx
        let s2 := beams.foldl (fun s b => s.admitOn p b) s1
        let h : MacHdr :=
          { ftype := 0
            srcPan := some (s.panId pan)
            src := .ext Config.linkEui
            keyMode := if level = 0 then 0 else 1
            keyIndex := if level = 0 then 0 else s.groupIdx pan (s.groupCur pan)
            fcs := y.fcs }
        let sealed (c : Option Nat) : List Byte :=
          h.seal ((k.map KeySlot.key).getD 0) none level (c.getD 0) (bytes.take 2) (bytes.drop 2)
        if (s2.admitted from_).isEmpty then s2
        else if level = 0 then s2.fillTx from_ 0 none none bytes h (sealed none)
        else
          let (ctr, s3) := s2.ctrTake e
          (s3.keyUse r).fillTx from_ level ctr none bytes h (sealed ctr)

/-! ### DOZE windows (R129, R158) -/

/-- Guard of a neighbour in ns before its limit (R158); the holdover term applies in the holdover of R147 and in HOLDOVER of the servo (R349). -/
def State.guardNs (s : State) (n : Nat) : Nat :=
  let x := s.nbr n
  let dt := s.cityNs - (x.syncS * secNs + x.syncNs)
  let g := 2 * x.drift * dt / 1000000 + 100000
  let since := if s.airHold then s.link.holdSince else s.time.holdSince
  let h := if s.airHold || s.servo = 3 then
      2 * s.fld R.LINK_HOLD_DRIFT F.LINK_HOLD_DRIFT_PPM * ((s.now - since) * 125 / 32) / 1000000
    else 0
  if x.state = 2 then 2 * (g + h) else g + h

/-- Half width w of a receive cell's window. The spec gives `RX_WAIT`/2 for a cell with `BCAST` or `SHARED` and the guard of `NBR` for any other;
an `ADV` cell, and one whose `NBR` entry is not valid, has no guard to take and so the width of a shared one (DESIGN CHOICE, log entry 118). -/
def State.winHalf (s : State) (c : Cell) : Nat :=
  let half := 1000 * s.tplRxWait (s.sfTpl c.sf) / 2
  if c.adv || c.bcast || c.shared || !(s.nbr c.nbr).valid then half else min half (s.guardNs c.nbr)

/-- Family whose guard a cell's channel has: that of its neighbour, else of its PAN. -/
def State.cellFamily (s : State) (c : Cell) : Nat :=
  if c.adv || c.bcast || !(s.nbr c.nbr).valid then s.fld (R.PAN_PHY (s.sfPan c.sf)) F.PAN_PHY_FAMILY
  else s.family (s.nbr c.nbr).profile

/-- A receive cell of the slot opens a window: an `RX` cell, unless it is a `TX` cell that transmits (R112), and its neighbour is not LOST. An
`ADV` cell ignores `TX`, and so opens its window beside its beacon. A `TX` cell whose frame is deferred or skipped does not transmit and so
acts as a receive cell (DESIGN CHOICE, log entry 93). -/
def State.winCell (s : State) (c : Cell) (sent : Bool) : Bool :=
  c.rx && (c.adv || !sent) && (c.adv || c.bcast || (s.nbr c.nbr).state != 3)

/-- A window on every enabled array that holds its channel. -/
def State.winAdd (s : State) (fam : Nat) (ch : Chan) (from_ until_ : Nat) : State :=
  let as := [0, 1, 2, 3].filter (fun a => s.arrOn a && (s.winOf a fam ch).isSome)
  { s with slot := { s.slot with wins := s.slot.wins ++ as.map (fun a => RxWin.mk a ch.centre from_ until_ false) } }

/-- The windows of a slot: its receive cells, and the acknowledgement points that its plan opens. `sent` are the cells that transmit. -/
def State.winPlan (s : State) (cells : List Cell) (sent : List Nat) (n : Nat) : State :=
  let s1 := (cells.filter (fun c => s.winCell c (sent.contains c.num))).foldl (fun s c =>
    let mid := s.boundary n + 1000 * s.tplTxOffset (s.sfTpl c.sf)
    let w := s.winHalf c
    s.winAdd (s.cellFamily c) (s.cellChan c (n % 2 ^ 40)) (mid - w) (mid + w)) s
  (s1.slot.acks.filter (fun p => !p.open_)).foldl (fun s p =>
    s.winAdd (s.family p.profile) ⟨p.centre, (widthHz p.width).getD 0⟩ p.from_ p.until_) s1

/-! ### The preparation point (R114, R122, R200) -/

/-- Acknowledgement points that have stopped and of which no lane and no detection is left: their attempts are unacknowledged (R119; a lane
in SYNC counts, DEDUCED, log entry 68). -/
def State.ackSettle (s : State) : State :=
  let busy (p : AckPt) : Bool :=
    s.rx.lanes.any (fun e => e.2.point == 8192 + p.stream) || s.rx.dets.any (fun d => d.point == 8192 + p.stream)
  let gone := s.slot.acks.filter (fun p => p.stopped && !busy p)
  let s1 := { s with slot := { s.slot with acks := s.slot.acks.filter (fun (p : AckPt) => !p.stopped || busy p) } }
  gone.foldl (fun s p => s.attemptCheck p.attempt) s1

/-- Cells in pass 1: `ADV` cells and cells whose candidate is of Safety class. -/
def passOne (e : Cell × Option Cand) : Bool := e.1.adv || e.2.any (fun x => x.frame.cls = 0)

/-- The candidate of a cell as its turn comes: a queue that another admission of the slot has left without level counts as empty, and the cell
takes the next class (R115, R293). -/
def State.candNow (s : State) (e : Cell × Option Cand) : Option Cand :=
  e.2.bind (fun x => if s.shapePermits x.queue then some x else s.candOf e.1)

/-- One cell of the plan: the state after it, and whether it transmits. -/
def State.cellRun (s : State) (e : Cell × Option Cand) (n : Nat) : State × Bool :=
  let t := if e.1.adv then s.beaconRun e.1 n
    else
      match s.candNow e with
      | some x => s.candRun x n
      | none => s
  (t, !(t.admitted s.slot.nextTx).isEmpty)

/-- The plan of slot `n` (R114): both passes over the cells of the snapshot, then the receive windows. -/
def State.slotPlan (s0 : State) (n : Nat) : State :=
  let cells := s0.slotCells (n % 2 ^ 40)
  let s := s0.slotQueueCheck cells
  let es := cells.map (fun c => (c, s.candOf c))
  let (t, sent) := (es.filter passOne ++ es.filter (fun e => !passOne e)).foldl
    (fun (a : State × List Nat) e => let (t, b) := a.1.cellRun e n; (t, if b then a.2 ++ [e.1.num] else a.2)) (s, [])
  t.winPlan cells sent n

/-- What both engines read at a preparation point is kept (R110, R113). -/
def State.slotRead (s : State) (n : Nat) : State := s.snapPut (s.snapNow n)

/-- The slot whose preparation point comes next: the one after the current slot, or the first slot of an accepted start; none while the
engine neither runs nor is about to, or stops at the next boundary. -/
def State.prepNext (s : State) : Option Nat :=
  let n := if s.running then some (s.slot.cur + 1) else s.slot.startAsn
  match n with
  | none => none
  | some n => if s.slot.stopping || s.slot.prepared = n + 1 then none else some n

/-- Acknowledgement points settle at a preparation point, but not in Hush, where frames stay in their queues (R128, R290). -/
def State.prepSettle (s : State) : State := if s.pwr.hush then s else s.ackSettle

/-- SLOT_PREPARATION. A start whose first slot has no preparation point left has no plan for it. Where the comparison itself causes Quiet, the
slot has its receive windows and no transmission, and the frames stay in their queues (DEDUCED, log entry 69). In HOLD nothing is planned
(R395). -/
def execSlotPreparation (k : SlotCheck) (s0 : State) : Host.Outcome State Fault Refusal :=
  .next (
    match s0.prepNext with
    | none => s0
    | some n =>
      let at_ := s0.boundary n - s0.prepNs
      if at_ + 20000 < s0.cityNs then s0
      else
        let s1 := (((s0.toNs at_).prepSettle).rollsRun).engStart
        let s2 := (s1.slotRead n).engCheck k (n % 2 ^ 40)
        let s3 := { s2 with slot := { s2.slot with prepared := n + 1, wins := s2.slot.wins.filter (fun (w : RxWin) => w.open_ || at_ ≤ w.until_) } }
        if 3 ≤ s3.pwrState then s3
        else if s3.inQuiet && !s1.inQuiet then s3.winPlan (s3.slotCells (n % 2 ^ 40)) [] n
        else s3.slotPlan n)

end Sys2Proof.Machine
end

