-- ==== Sys2Proof/Machine/SlotTx.lean ====
section
/-! DEFINITION. Slot boundaries, the transmissions of a slot with their pins and blanking, acknowledgement points, Enh-Acks, DOZE windows, and
the return of a disabled engine (R49 to R53, R72, R103, R108, R110, R119 to R121, R125, R126, R129, R130, R152 to R159). -/

namespace Sys2Proof.Machine

/-! ### DOZE windows (R129) -/

/-- The window that opens next on an array. -/
def State.nextWin (s : State) (a : Nat) : Option RxWin :=
  (s.slot.wins.filter (fun w => w.array = a && !w.open_)).foldl (fun (m : Option RxWin) w =>
    match m with
    | none => some w
    | some v => if w.from_ < v.from_ then some w else m) none

/-- RX_WINDOW_OPEN: the next planned window of an array opens and its points search; the FE_RXEN pins follow it (`State.arrRxen`). -/
def execRxWindowOpen (a : Fin 4) (s : State) : Host.Outcome State Fault Refusal :=
  .next (
    match s.nextWin a.val with
    | none => s
    | some w =>
      if !s.doze then s
      else
        let s1 := s.toNs w.from_
        { s1 with slot := { s1.slot with wins := s1.slot.wins.map (fun (v : RxWin) => if v = w then { v with open_ := true } else v) } })

/-- Last instant at which something in the open windows of an array still searches. -/
def State.winsEnd (s : State) (a : Nat) : Nat :=
  (s.slot.wins.filter (fun w => w.array = a && w.open_)).foldl (fun m w =>
    ((s.lpsOn.filter (fun p => s.beamArray (s.lpBeam p) = a && s.lpCentre p = w.centre)).map (s.winEnd w)).foldl max (max m w.until_)) 0

/-- RX_WINDOW_CLOSE: the joined windows of an array close once every point in them has stopped searching and no lane of the array is in
SYNC, HEADER or PAYLOAD (R129). -/
def execRxWindowClose (a : Fin 4) (s : State) : Host.Outcome State Fault Refusal :=
  .next (
    if !s.slot.wins.any (fun w => w.array = a.val && w.open_) || !(s.lanesOf (fun b => s.beamArray b == a.val) [1, 2, 3]).isEmpty then s
    else
      let s1 := s.toNs (s.winsEnd a.val)
      { s1 with slot := { s1.slot with wins := s1.slot.wins.filter (fun (w : RxWin) => !(w.array = a.val && w.open_)) } })

/-! ### The slot boundary (R103, R104, R110, R126) -/

/-- Roles as the engine stops. -/
def State.engStop (s : State) : State :=
  ([0, 1].foldl (fun s e => if [0, 1, 4].contains (s.engState e) then (s.engSet e 6).setEng e {} else s) s).matchSync

/-- Transmissions of the plan whose first symbol is still to come leave it as the engine stops, and their frames stay in their queues: such an
attempt has no result, and its counter and ciphertext stay consumed (DEDUCED, log entry 92). Enh-Acks are no part of the plan. -/
def State.planDrop (s : State) : State :=
  let gone := s.air.filter (fun t => t.kind ≠ 2 && !t.started && !t.ended)
  let s1 := { s with
    air := s.air.map (fun (t : AirTx) => if t.kind ≠ 2 && !t.started && !t.ended then { t with cut := true, ended := true } else t) }
  gone.foldl (fun s t =>
    match s.slot.attempts.find? (fun x => x.id = t.attempt) with
    | none => s
    | some x => if s.copiesLive x.id then s else (s.attemptDrop x.id).frameMod x.queue x.frame (fun g => { g with onAir := false })) s1

/-- The engine stops: attempts on air complete, frames stay in their queues. -/
def State.slotHalt (s : State) : State :=
  let s1 := ((s.wr R.SLOT_CTRL 0).engStop).planDrop
  { s1 with slot := { s1.slot with startAsn := none, grid := none, stopping := false, prepared := 0, wins := [] } }

/-- An engine with a good BIST takes the running engine's state and enters probation (R126). -/
def State.engProbation (s : State) (e : Nat) : State :=
  if s.engState e = 3 && (s.eng e).ready then ((s.engSet e 4).setEng e { probFrom := s.now }).matchSync else s

/-- The boundary of slot `n` is one of the master slotframe: the lowest that is enabled for the slot. -/
def State.masterSlot (s : State) (n : Nat) : Bool :=
  match (s.snapOf n).sfs with
  | [] => true
  | x :: _ => n % 2 ^ 40 % max 1 x.2.1 = 0

/-- The engine named by `PREFER` takes the primary role back (R126). The 60 s settle it: a change of `PREFER` or `REVERT_EN`, or a
disagreement, between their end and this boundary does not take the role from it again (DESIGN CHOICE, log entry 119). -/
def State.engRevert (s : State) (e n : Nat) : State :=
  if s.engState e = 4 && (s.eng e).revert && s.masterSlot n then
    let s1 := (((s.engSet s.primary 1).engPrimary e).setEng e {}).matchSync
    (s1.evtF 4 0 (w32 e) (w32 (n % 2 ^ 40)) 0).ledger 0x0011 e (w32 (n % 2 ^ 40)) 0 0
  else s

/-- As DOZE takes effect, lanes that hold a frame and detections that wait are outside every receive window: their frames are not received (R130).
The spec names no count for them (DESIGN CHOICE, log entry 130). -/
def State.dozeDrop (s : State) : State :=
  let off (b : Nat) : Bool := !s.winOpen (s.beamArray b)
  let s1 := (s.lanesOf off [1, 2, 3]).foldl State.freeLane s
  { s1 with rx := { s1.rx with dets := s1.rx.dets.filter (fun d => !off (s1.pointBeam d.point)) } }

/-- A move to a deeper state takes place where its conditions still hold: HOLD and VAULT need the chip idle up to now (R393, R395). -/
def State.deeperDue (s : State) : State :=
  match s.pwr.deeper with
  | none => s
  | some (st, cause, wake) =>
    let t := s.pwrTarget (3 ≤ st && s.idleHeld)
    if s.pwrState < t then
      let s1 := (s.pwrTake t cause wake).gateEval
      if t = 2 then s1.dozeDrop else s1
    else { s with pwr := { s.pwr with deeper := none } }

/-- What takes place at every boundary: weight banks, the power state that waits, the transmissions that are over; and a calibration run may
start. -/
def State.boundaryDue (s : State) : State :=
  let s2 := s.weightSwap.deeperDue
  { s2 with
    air := s2.air.filter (fun (t : AirTx) => !t.ended || s2.copiesLive t.attempt && t.attempt ≠ 0)
    slot := { s2.slot with boundaryAt := s2.now } }

/-- SLOT_BOUNDARY: the next boundary of an engine that runs or is about to. -/
def execSlotBoundary (s0 : State) : Host.Outcome State Fault Refusal :=
  .next (
    let next := if s0.running then some (s0.slot.cur + 1) else s0.slot.startAsn
    match next with
    | none => s0
    | some n =>
      let s := s0.toNs (s0.boundary n)
      if s.slot.stopping then s.boundaryDue.slotHalt
      else
        let asn := n % 2 ^ 40
        let s1 := (s.wr R.SLOT_ASN_LO (w32 asn)).wr R.SLOT_ASN_HI (w32 (asn / 2 ^ 32))
        let s2 := { s1 with slot := { s1.slot with cur := n, startAsn := none } }
        let s3 := if s0.running then s2 else (s2.setFld R.SLOT_CTRL F.SLOT_CTRL_RUNNING 1).engStart
        let s4 := if s3.slot.prepared = n + 1 then s3 else s3.snapPut (s3.snapNow n)
        let s5 := (s4.boundaryDue.engProbation 0).engProbation 1
        (s5.engRevert 0 n).engRevert 1 n)

/-! ### Transmissions (R49 to R51, R72, R108) -/

/-- A transmission of the plan that is still to be carried out. -/
def State.tx (s : State) (id : Nat) : Option AirTx := s.air.find? (fun t => t.id = id && !t.ended)

def State.txMod (s : State) (id : Nat) (g : AirTx → AirTx) : State :=
  { s with air := s.air.map (fun (t : AirTx) => if t.id = id then g t else t) }

/-- BLANKING_START: at `TX_LEAD` and `TR_GAP` before the first symbol the array's FE_RXEN goes inactive and blanking begins. -/
def execBlankingStart (id : Nat) (s : State) : Host.Outcome State Fault Refusal :=
  .next (
    match s.tx id with
    | none => s
    | some t =>
      if t.cut then s
      else
        let s1 := s.toNs (t.tStart - 1000 * (s.txLead + s.trGap))
        s1.blankHit (s1.txMod id (fun u => { u with blk := true })))

/-- FE_TXEN_ASSERT: at `TX_LEAD` before the first symbol, on every element of the array. -/
def execFeTxenAssert (id : Nat) (s : State) : Host.Outcome State Fault Refusal :=
  .next (
    match s.tx id with
    | none => s
    | some t => if t.cut then s else (s.toNs (t.tStart - 1000 * s.txLead)).txMod id (fun u => { u with txen := true }))

/-- TX_FRAME_START: the first symbol is at the pins. The operand tells what the check of the primary's action finds (R122). -/
def execTxFrameStart (id : Nat) (k : SlotCheck) (s : State) : Host.Outcome State Fault Refusal :=
  .next (
    match s.tx id with
    | none => s
    | some t =>
      if t.cut then s
      else
        let s1 := (s.toNs t.tStart).txMod id (fun u => { u with started := true })
        if s1.running && t.kind ≠ 2 then s1.engCheck k (s1.slot.cur % 2 ^ 40) else s1)

/-- The pins of an array after a transmission that ended at an instant, and the blanking of the arrays it blanks (R49 to R51, R72). -/
def State.txPins (s : State) (t : AirTx) (end_ : Nat) : State :=
  let hold := end_ + 1000 * s.txHold
  { s with rf := { s.rf with
    txOff := if s.arrOn t.array then amod 0 t.array (max hold) s.rf.txOff else s.rf.txOff
    rxOn := if s.arrOn t.array then amod 0 t.array (max (hold + 1000 * s.trGap)) s.rf.rxOn else s.rf.rxOn
    lastEnd := if s.arrOn t.array then amod 0 t.array (max end_) s.rf.lastEnd else s.rf.lastEnd
    blankEnd := ([0, 1, 2, 3].filter (nbit (s.blankMask t.array))).foldl (fun m a => amod 0 a (max (end_ + 200000)) m) s.rf.blankEnd } }

/-- The attempt that a copy belongs to, once the copy is gone: a broadcast completes OK when its last copy has been sent (R156). -/
def State.txAttempt (s : State) (t : AirTx) : State :=
  match s.slot.attempts.find? (fun a => a.id = t.attempt) with
  | none => s
  | some a =>
    if a.nbr.isSome then
      let s1 := if t.cut then
          { s with slot := { s.slot with acks := s.slot.acks.filter (fun (p : AckPt) => !(p.stream = t.stream && p.attempt = t.attempt)) } }
        else s
      s1.attemptCheck a.id
    else if s.copiesLive a.id then s
    else if s.air.all (fun u => u.attempt ≠ a.id || u.cut) then s.attemptFail a
    else
      let s1 := s.attemptDrop a.id
      match s1.attemptFrame a with
      | none => s1
      | some f => s1.finish a.queue f stOK 0 0

/-- TX_FRAME_END: the stream is free, the pins follow; a transmission that was cut ends now, at its symbol boundary, or has ended at the mute. -/
def execTxFrameEnd (id : Nat) (s : State) : Host.Outcome State Fault Refusal :=
  .next (
    match s.tx id with
    | none => s
    | some t =>
      if !t.started && !t.cut then s
      else
        let s1 := if t.cut then s else s.toNs t.tEnd
        let e := if t.cut then min t.tEnd s1.cityNs else t.tEnd
        let s2 := s1.txMod id (fun u => { u with ended := true, tEnd := e })
        let s3 := if t.started && (!t.cut || t.holds s.cityNs) then s2.txPins t e else s2
        s3.txAttempt t)

/-- BLANKING_END: a joined blanking interval ends and listening resumes. -/
def execBlankingEnd (a : Fin 4) (s : State) : Host.Outcome State Fault Refusal :=
  .next (
    let e := aget 0 a.val s.rf.blankEnd
    if e = 0 then s
    else
      let s1 := s.toNs e
      { s1 with rf := { s1.rf with blankEnd := aset 0 a.val 0 s1.rf.blankEnd } })

/-! ### Acknowledgement points (R119) -/

def State.ackMod (s : State) (q : AckPt) (g : AckPt → AckPt) : State :=
  { s with slot := { s.slot with acks := s.slot.acks.map (fun (p : AckPt) => if p = q then g p else p) } }

/-- Of the points of stream `k` that meet a test, the one that opens first: a stream may carry a second attempt once its first is over. -/
def State.ackFirst (s : State) (k : Nat) (ok : AckPt → Bool) : Option AckPt :=
  (s.slot.acks.filter (fun p => p.stream = k && ok p)).foldl (fun (m : Option AckPt) p =>
    match m with
    | none => some p
    | some v => if p.from_ < v.from_ then some p else m) none

/-- ACK_POINT_OPEN of stream `k`. -/
def execAckPointOpen (k : Fin 16) (s : State) : Host.Outcome State Fault Refusal :=
  .next (
    match s.ackFirst k.val (fun p => !p.open_) with
    | none => s
    | some p => (s.toNs p.from_).ackMod p (fun q => { q with open_ := true }))

/-- ACK_POINT_CLOSE: the point stops searching; its attempt is unacknowledged once no lane of the point is left. -/
def execAckPointClose (k : Fin 16) (s : State) : Host.Outcome State Fault Refusal :=
  .next (
    match s.ackFirst k.val (fun p => p.open_ && !p.stopped) with
    | none => s
    | some p => ((s.toNs p.until_).ackMod p (fun q => { q with stopped := true })).ackSettle)

/-! ### Enh-Acks (R120, R152, R159) -/

/-- `ACK_YIELD` suppresses an Enh-Ack on an array: its blanking would overlap a lane in HEADER or PAYLOAD, or the acknowledgement interval of
an admitted transmission, on an array it blanks. -/
def State.ackYields (s : State) (a : EnhAck) (array : Nat) : Bool :=
  let m := s.blankMask array
  s.flag R.SLOT_CFG F.SLOT_CFG_ACK_YIELD &&
    (!(s.lanesOf (fun b => nbit m (s.beamArray b)) [2, 3]).isEmpty ||
      s.slot.acks.any (fun p => nbit m (s.beamArray p.beam) && overlaps (s.blankOf a.start (a.start + a.air)) (p.from_, p.busyTo)))

/-- One copy of an Enh-Ack meets the yield, stream and power checks. -/
def State.ackAdmit (s : State) (a : EnhAck) (b : Nat) : State :=
  let array := s.beamArray b
  if s.ackYields a array then s.bump R.SLOT_CNT_ACKYIELD
  else
    match s.grant array a.start (a.start + a.air) a.power with
    | .ok k code =>
      let t : AirTx :=
        { id := s.slot.nextTx
          attempt := 0
          frame := 0
          array := array
          beam := b
          stream := k
          power := code
          centre := a.centre
          width := a.width
          tStart := a.start
          tEnd := a.start + a.air
          kind := 2
          pan := a.pan
          mode := a.mode
          level := 0
          counter := none
          dsn := none
          bytes := []
          pending := false
          started := false
          ended := false
          cut := false }
      { s with air := s.air ++ [t], slot := { s.slot with nextTx := s.slot.nextTx + 1 } }
    | g => s.grantCount g

/-- Header IE of an Enh-Ack: the Time Correction IE with its NACK bit (R153). -/
def EnhAck.ie (a : EnhAck) : List Byte :=
  leBytes 2 (2 + 0x1E * 2 ^ 7) ++ leBytes 2 (trunc 12 a.correction + (if a.nack then 2 ^ 15 else 0))

/-- Frame Pending bit (R159). -/
def State.ackPending (s : State) (a : EnhAck) : Bool := a.nbr.any (fun n => (s.nbr n).sleepy && !s.nbrEmpty n)

/-- The cached key whose ENC slot secures an Enh-Ack: the pair that verified the frame. -/
def State.ackKey (s : State) (a : EnhAck) : Option KeySlot :=
  a.role.bind (fun r => s.key.slots.find? (fun x => x.role = r && x.fp = a.key && x.loaded))

/-- The Enh-Ack is sent: it takes its counter (R152, R191), and a NACK is counted. -/
def State.ackSend (s : State) (a : EnhAck) (from_ : Nat) : State :=
  let s1 := if a.nack then s.bump R.LINK_CNT_NACKTX else s
  let p := s.ackPending a
  let h := { a.hdr with pending := p }
  let fill (s : State) (c : Option Nat) (key : Nat) : State := s.fillTx from_ a.level c a.dsn a.ie h (h.seal key a.dsn a.level (c.getD 0) a.ie [])
  match s1.ackKey a with
  | none => fill s1 none 0
  | some x =>
    let (c, s2) := s1.ctrTake ((ctrOf x.role).getD 0)
    let s3 := match x.role, c with
      | .link n, some v => s2.setNbr n { s2.nbr n with highest := v + 1, hiKey := x.fp }
      | _, _ => s2
    fill (s3.keyUse x.role) c x.key

/-- ENH_ACK_BEAM_FIX: 50 µs before the Enh-Ack goes on air (R35, R120, R128). A secured one whose key is gone, whose slot fails its check, or
at level 4 with `LEVEL4_EN` 0 (R165), is not sent. -/
def execEnhAckBeamFix (id : Nat) (s0 : State) : Host.Outcome State Fault Refusal :=
  .next (
    match s0.link.acks.find? (fun a => a.id = id) with
    | none => s0
    | some a =>
      let s1 := s0.toNs (a.start - 50000)
      let s := { s1 with link := { s1.link with acks := s1.link.acks.filter (fun (b : EnhAck) => b.id ≠ id) } }
      let s := match s.ackKey a with
        | some x => if a.level = 0 then s else s.keyCheck x.role attrENC
        | none => s
      let key := s.ackKey a
      let level4 := a.level = 4 && !s.flag (R.PAN_POLICY a.pan) F.PAN_POLICY_LEVEL4_EN
      if s.inQuiet || s.pwr.hush || level4 || (a.level ≠ 0 && key.isNone) then s
      else
        let from_ := s.slot.nextTx
        let t := (s.beamsFor a.family ⟨a.centre, (widthHz a.width).getD 0⟩ (some a.beam)).foldl (fun s b => s.ackAdmit a b) s
        if (t.admitted from_).isEmpty then t
        else if a.level ≠ 0 && key.any (fun x => (s.ctr ((ctrOf x.role).getD 0)).n = 0xFFFFFFFF) then s.bump R.KEY_CNT_ACKSPENT
        else t.ackSend a from_)

/-! ### The return of a disabled engine (R126) -/

/-- ENGINE_BIST_START of engine A (0) or B (1): 1 s after it was disabled. -/
def execEngineBistStart (e : Fin 2) (s : State) : Host.Outcome State Fault Refusal :=
  .next (
    if s.engState e.val ≠ 2 then s
    else
      let s1 := s.advanceTo ((s.eng e.val).since + sec 1)
      ((s1.engSet e.val 3).setFld R.SLOT_HEALTH (triesField e.val) (min 3 (s1.engTries e.val + 1))).setEng e.val { since := s1.now })

/-- ENGINE_BIST_DONE, 20 ms after its start (R435): a right signature waits for the next boundary; three wrong ones leave the engine FAILED. -/
def execEngineBistDone (e : Fin 2) (sig : BitVec 128) (s : State) : Host.Outcome State Fault Refusal :=
  .next (
    if s.engState e.val ≠ 3 || (s.eng e.val).ready || s.bistRegion = some (16 + e.val) then s
    else
      let s1 := s.advanceTo ((s.eng e.val).since + ms 20)
      if s1.bistGood (16 + e.val) 3 sig then s1.setEng e.val { ready := true }
      else if 3 ≤ s1.engTries e.val then s1.engSet e.val 5
      else (s1.engSet e.val 2).setEng e.val { since := s1.now })

/-- ENGINE_PROBATION_END: 60 s of matching; the engine waits for the revert boundary or becomes standby. -/
def execEngineProbationEnd (e : Fin 2) (s : State) : Host.Outcome State Fault Refusal :=
  .next (
    if s.engState e.val ≠ 4 || (s.eng e.val).revert then s
    else
      let s1 := s.advanceTo ((s.eng e.val).probFrom + sec 60)
      if s1.prefer = e.val && s1.flag R.SLOT_CFG F.SLOT_CFG_REVERT_EN then s1.setEng e.val { s1.eng e.val with revert := true }
      else ((s1.engSet e.val 1).setEng e.val {}).matchSync)

end Sys2Proof.Machine
end

