-- ==== Sys2Proof/Machine/FaultCmd.lean ====
section
/-! DEFINITION. Uncorrectable memory errors, Yarrow and cluster failures (R91, R371, R381, R382). -/

namespace Sys2Proof.Machine

/-! ### Clusters (R91, R381, R382) -/

/-- Busy lanes of a cluster in given states. -/
def State.clusterLanes (s : State) (c : Nat) (states : List Nat) : List Nat :=
  (s.rx.lanes.filter (fun e => e.1 / 72 = c && states.contains e.2.state)).map (fun e => e.1)

/-- A lane in SYNC, HEADER or PAYLOAD moves with all it holds to an idle lane of another cluster (R91); it stays where there is none. -/
def State.migrate (s : State) (l : Nat) : State :=
  match s.idleCluster with
  | none => s
  | some c =>
    let free := s.idleLane c
    (({ s with rx := { s.rx with lanes := aset {} free (s.lane l) (aset {} l {} s.rx.lanes) } }).laneSync).bump R.LANE_MIGRATED

/-- Every lane of a cluster that can be migrated is. The cluster takes no commits. -/
def State.migrateAll (s : State) (c : Nat) : State := (s.clusterLanes c [1, 2, 3]).foldl State.migrate s

/-- A cluster fails (R382): out of service until the next F-die reset; Yarrow pauses unless `YARROW_CONT` is 1. `how` is 0 under Yarrow or
BIST_RUN, 1 in service. -/
def State.clusterFail (s : State) (c lost how : Nat) : State :=
  let s1 := (s.setFld R.LANE_STATE F.LANE_STATE_FAILED (setNbit (s.fld R.LANE_STATE F.LANE_STATE_FAILED) c)).capSync
  let s2 := (s1.bump R.SAFE_CNT_CLUSTERFAIL).evtF 1 0 (w32 c) (w32 lost) (w32 how)
  let s3 := s2.ledger 0x0020 c (w32 lost) (w32 how) 0
  if s3.flag R.SAFE_CTRL F.SAFE_CTRL_YARROW_CONT || s3.flag R.SAFE_YARROW F.SAFE_YARROW_PAUSED then s3
  else ((s3.setFld R.SAFE_YARROW F.SAFE_YARROW_PAUSED 1).setFld R.LANE_STATE F.LANE_STATE_YARROW_PAUSED 1).evtF 27 0 (w32 c) 0 0

/-- CLUSTER_FAULT_IN_SERVICE: the cluster's receptions are lost, what has reached the Crossroads is kept. -/
def execClusterFaultInService (c : Fin 16) (s : State) : Host.Outcome State Fault Refusal :=
  .next (
    if s.clusterOut c.val then s
    else
      let ls := s.clusterLanes c.val [1, 2, 3, 4, 5]
      let s1 := ls.foldl State.freeLane s
      let s2 := { s1 with rx := { s1.rx with closing := if s1.rx.closing = some c.val then none else s1.rx.closing } }
      s2.clusterFail c.val ls.length 1)

/-- A new rotation begins once every cluster has had its turn: skipped clusters first, then the others in order (R381). -/
def State.yarrowTurn (s : State) : State :=
  let live (c : Nat) : Bool := !nbit (s.fld R.LANE_STATE F.LANE_STATE_FAILED) c
  let turn := s.safe.turn.filter live
  if !turn.isEmpty then { s with safe := { s.safe with turn := turn } }
  else
    let first := s.safe.skipped.filter live
    let s1 := match s.safe.rotAt with
      | none => s
      | some t => s.setFld R.SAFE_YARROW F.SAFE_YARROW_ROT_MS (min 255 ((s.now - t) / ms 1))
    { s1 with safe := { s1.safe with
        turn := first ++ (List.range 16).filter (fun c => live c && !first.contains c)
        skipped := []
        rotAt := some s1.now } }

/-- Yarrow takes its cluster offline. -/
def State.yarrowTake (s : State) (c : Nat) : State :=
  let s1 := (s.setFld R.LANE_STATE F.LANE_STATE_OFFLINE c).setFld R.LANE_STATE F.LANE_STATE_OFFLINE_VALID 1
  let s2 := (s1.setFld R.SAFE_YARROW F.SAFE_YARROW_CLUSTER c).setFld R.SAFE_YARROW F.SAFE_YARROW_ACTIVE 1
  ({ s2 with
      rx := { s2.rx with closing := none }
      pwr := { s2.pwr with
        gated := s2.pwr.gated.filter (· ≠ c)
        ungating := s2.pwr.ungating.filter (· ≠ c) }
      safe := { s2.safe with
        turn := s2.safe.turn.erase c
        yarrowAt := s2.now } }).capSync

/-- Yarrow leaves a cluster in service for this rotation and takes it first in the next (R91, R381). -/
def State.yarrowSkip (s : State) (c : Nat) : State :=
  let s1 := s.bumpFld R.SAFE_YARROW F.SAFE_YARROW_SKIPS
  { s1 with
    rx := { s1.rx with closing := none }
    safe := { s1.safe with
      turn := s1.safe.turn.erase c
      skipped := s1.safe.skipped ++ [c] } }

/-- YARROW_CLUSTER_START: the next cluster takes no more commits and its receptions are migrated; it goes offline once it holds none, or is
skipped when a lane finds no idle lane within 2.5 ms. A cluster under BIST_RUN is skipped (R436). -/
def execYarrowClusterStart (s : State) : Host.Outcome State Fault Refusal :=
  .next (
    if s.flag R.SAFE_YARROW F.SAFE_YARROW_ACTIVE || s.flag R.SAFE_YARROW F.SAFE_YARROW_PAUSED || s.safe.restarting.contains 3 then s
    else
      let s1 := s.yarrowTurn
      match s1.safe.turn with
      | [] => s1
      | c :: _ =>
        if s1.bistRegion = some c || s1.bist.closing = some c then s1.yarrowSkip c
        else
          let s2 := if s1.rx.closing = some c then s1
            else { s1 with rx := { s1.rx with closing := some c }, safe := { s1.safe with closeAt := s1.now } }
          let s3 := s2.migrateAll c
          if !(s3.clusterLanes c [1, 2, 3]).isEmpty then
            (if s3.safe.closeAt + us 2500 ≤ s3.now then s3.yarrowSkip c else s3)
          else if !(s3.clusterLanes c [4, 5]).isEmpty then s3
          else s3.yarrowTake c)

/-- What the read of the standby slot engine's state memories has found since the last cluster (R381): nothing, an error that it corrects, which
only counts (R27), or an uncorrectable one. That is cause 1 of the engine's self-check (R123), so the engine is disabled as in R124 (DEDUCED,
log entry 134). With no engine in standby or probation nothing is read. -/
def State.standbyRead (s : State) (found : Fin 3) : State :=
  let o := 1 - s.primary
  if s.engState o ≠ 1 && s.engState o ≠ 4 || found = 0 then s
  else if found = 1 then s.bump R.SYS_CNT_CE_SRAM
  else (s.bump R.SYS_CNT_UE).engBad.engDisable o

/-- YARROW_CLUSTER_DONE: 2.5 ms later the cluster returns, or fails with a wrong signature. Yarrow stops while pair 3 restarts (R375). -/
def execYarrowClusterDone (sig : BitVec 128) (found : Fin 3) (s : State) : Host.Outcome State Fault Refusal :=
  .next (
    if !s.flag R.SAFE_YARROW F.SAFE_YARROW_ACTIVE || s.safe.restarting.contains 3 then s
    else
      let c := s.fld R.SAFE_YARROW F.SAFE_YARROW_CLUSTER
      let s1 := s.advanceTo (s.safe.yarrowAt + us 2500)
      let s2 := (s1.setFld R.SAFE_YARROW F.SAFE_YARROW_ACTIVE 0).setFld R.LANE_STATE F.LANE_STATE_OFFLINE_VALID 0
      let s3 := ((s2.setFld R.LANE_STATE F.LANE_STATE_OFFLINE 0).capSync).standbyRead found
      if s3.bistGood c 3 sig then s3 else s3.clusterFail c 0 0)

/-! ### Uncorrectable memory errors (R371) -/

/-- The cell that holds an octet of a frame of a queue: the first cell of a chain holds 32 octets less of the frame (R277; log entry 108). -/
def State.octetCell (s : State) (q id a : Nat) : Nat :=
  match (s.queue q).frames.find? (fun f => f.id = id) with
  | some f => (f.chain.getD ((a + 32) / 256) none).getD 0
  | none => 0

/-- The row of R371's table and the address or index. -/
def State.ueRow (s : State) : UeStore → Nat × Nat
  | .cell q f a _ => (0, s.octetCell q f a)
  | .pointers q _ => (1, q)
  | .freeCells n => (1, n)
  | .bucket b i => (2, i.val + (if b then 135168 else 0))
  | .nbr n => (3, n.val)
  | .prefix_ i => (3, i)
  | .seen k => (3, k)
  | .twin k => (3, k)
  | .schedule c => (4, c.val)
  | .keySlot i => (5, i)
  | .core i => (6, i.val)
  | .ledger i => (7, i.val)
  | .mram a => (8, a)
  | .spill _ _ a => (9, a)
  | .record o => (9, o.val)
  | .blob j => (9, j.val)
  | .desc i => (10, i)
  | .frame i => (10, i)

/-- The entries of a bucket, or the overflow entry, leave the index without the effects of R204 until firmware has rebuilt it. -/
def State.bucketDrop (s : State) (b : Bool) (i : Nat) : State :=
  if s.bucketLost b i then s
  else
    let x := s.idx b
    let gone := x.ents.filter (fun e => idxUnit e.1 = i)
    let s1 := s.setIdx b { x with ents := x.ents.filter (fun e => idxUnit e.1 ≠ i) }
    ({ s1 with dir := { s1.dir with lost := s1.dir.lost ++ [(if b then 1 else 0, i, gone)] } }).dirSync

/-- A fetched descriptor of the H-die completes QUEUE_FAULT, and what the F-die makes of it is discarded. -/
def State.descFault (s : State) (f : Fetched) : State :=
  let s1 := if f.opcode = 0 then s.txDoneH f stQUEUE_FAULT 0 0
    else s.cplOwn f.part [cplWord0 f.opcode stQUEUE_FAULT f.tag, 0, 0, 0, 0, 0, 0, 0]
  { s1 with host := { s1.host with stale := s1.host.stale ++ [f] } }

/-- What the store does. -/
def State.ueEffect (s : State) : UeStore → State
  | .cell q f a x => s.frameMod q f (fun g => { g with bytes := g.bytes.modify a (fun b => b ^^^ x) })
  | .pointers q bad => if queueValid q then s.setQueue q { s.queue q with second := some bad } else s
  | .freeCells n =>
    (s.takeChain n).2
  | .bucket b i => s.bucketDrop b i.val
  | .nbr n => if (s.nbr n.val).valid then s.nbrRemove n.val else s
  | .prefix_ i => s.setPrefixes (adel i s.lpm.prefixes)
  | .seen k => ({ s with mesh := { s.mesh with seen := adel k s.mesh.seen } }).cacheSync
  | .twin k => ({ s with mesh := { s.mesh with twins := adel k s.mesh.twins } }).cacheSync
  | .schedule c =>
    let w0 := s.cellWord c.val 0
    (s.setCell c.val (if bitAt w0 0 then w0 - 1 else w0) (s.cellWord c.val 1)).bump R.SAFE_CNT_CELLUE
  | .keySlot i =>
    match s.slotKey i with
    | some x => s.slotFail x i
    | none => s
  | .core i => if i.val = 0 then (s.quiet 6).escalate 6 else s.pairRestart i.val 2
  | .ledger i => ({ s with log := { s.log with bad := i.val :: s.log.bad.filter (· ≠ i.val) } }).quiet 9
  | .mram _ => s
  | .spill q f a => s.frameMod q f (fun g => if g.spilled = 0 then g else { g with spillBad := some a })
  | .record o => { s with dir := { s.dir with bad := o.val :: s.dir.bad.filter (· ≠ o.val) } }
  | .blob j => { s with key := { s.key with badBlobs := j.val :: s.key.badBlobs.filter (· ≠ j.val) } }
  | .desc i =>
    match s.host.fetched[i]? with
    | some f => s.descFault f
    | none => s
  | .frame i =>
    match s.host.held[i]? with
    | none => s
    | some h =>
      let s1 := { s with host := { s.host with held := s.host.held.erase h } }
      match h.src with
      | some f => s1.txDoneH f stQUEUE_FAULT 0 0
      | none => s1

/-- MEMORY_UE: every row counts in `SYS_CNT_UE` and writes a Ledger record. -/
def execMemoryUe (u : UeStore) (s : State) : Host.Outcome State Fault Refusal :=
  .next (((s.bump R.SYS_CNT_UE).ledger 0x0034 (s.ueRow u).1 (w32 (s.ueRow u).2) 0 0).ueEffect u)

/-- An entry of a lost bucket whose node record still has its key. -/
def State.entLives (s : State) (b : Bool) (e : Nat × IdxEntry) : Bool :=
  let r := s.node e.2.ord
  r.valid && ((s.idx b).find e.2.key).isNone &&
    (if b then r.hasShort && idxKeyB r.pan r.short = e.2.key else idxKeyA r.pan r.eui = e.2.key)

/-- BUCKET_REBUILD_DONE: firmware has rebuilt the bucket or overflow entry from the node records. The records hold no `HIT` and `AGED` marks: free values. -/
def execBucketRebuildDone (b : Bool) (i : Fin 135168) (s : State) : Host.Outcome State Fault Refusal :=
  .next (
    match s.dir.lost.find? (fun l => l.1 = (if b then 1 else 0) && l.2.1 = i.val) with
    | none => s
    | some l =>
      let s1 := { s with dir := { s.dir with lost := s.dir.lost.erase l } }
      ((l.2.2.filter (s1.entLives b)).foldl (fun (t : State) (e : Nat × IdxEntry) =>
        let (h, t1) := t.draw 2
        let (a, t2) := t1.draw 2
        t2.setIdx b ((t2.idx b).put e.1 { e.2 with hit := h == 1, aged := a == 1 })) s1).dirSync)

end Sys2Proof.Machine
end

