-- ==== Sys2Proof/Machine/BistCmd.lean ====
section
/-! DEFINITION. Self-test under BIST_RUN (R434 to R437). -/

namespace Sys2Proof.Machine

def bistReg (c : CmdDesc) : Nat := bitsAt c.w1 0 8

/-- `MAINT` acts, or the part is not a FIELD part (R434). -/
def State.bistAllowed (s : State) : Bool := !Config.lifecycleField || s.flag R.BIST_CTRL F.BIST_CTRL_MAINT

/-- Run time of a region (R435). -/
def bistTime (r : Nat) : Nat :=
  if r < 16 then us 2500 else if r < 18 then ms 20 else if r < 22 then ms 5 else if [25, 26, 27, 31].contains r then ms 50 else ms 100

/-- The region is in use: a primary slot engine, or the only pair in service. -/
def State.bistInUse (s : State) (r : Nat) : Bool :=
  if r = 16 || r = 17 then s.engState (r - 16) = 0
  else if 18 ≤ r && r < 22 then s.fld R.SAFE_HEALTH F.SAFE_HEALTH_PIPE_OK = 2 ^ (r - 18)
  else false

/-- BAD_PARAM cause of a BIST_RUN (R434 to R437). -/
def State.bistBad (s : State) (c : CmdDesc) : Option Nat :=
  let r := bistReg c
  if c.part.val ≠ 0 then some 26
  else if !s.bistAllowed then some 30
  else if 32 ≤ r || bitsAt c.w1 8 2 = 0 then some 27
  else if s.bistInUse r then some 28
  else if 22 ≤ r && (!nbit (s.fld R.SAFE_CAUSE F.SAFE_CAUSE_LIVE) 13 || s.running) then some 29
  else none

/-- The test begins. -/
def State.bistStart (s : State) (c : CmdDesc) : State :=
  let s1 := ((s.cmdTake c).cplKeep c).setFld R.BIST_STATUS F.BIST_STATUS_RUNNING 1
  { s1 with bist := { cmd := some c, since := s1.now, closing := none } }

/-- BIST_RUN (opcode 0x50): a second one, whatever becomes of it, waits until the first completes; a cluster waits for Yarrow to leave it and for its receptions. -/
def execBistRun (c : CmdDesc) (s : State) : Host.Outcome State Fault Refusal :=
  .next (
    if !s.cmdTurn c || s.bist.cmd.isSome || s.bist.closing.any (· ≠ bistReg c) then s
    else
    match s.bistBad c with
    | some k => (s.cmdTake c).cmdBad c k
    | none =>
      let r := bistReg c
      if r < 16 then
        if s.rx.closing = some r || (s.flag R.LANE_STATE F.LANE_STATE_OFFLINE_VALID && s.fld R.LANE_STATE F.LANE_STATE_OFFLINE = r) then s
        else
          let s1 := ({ s with bist := { s.bist with closing := some r } }).migrateAll r
          if (s1.clusterLanes r [1, 2, 3, 4, 5]).isEmpty then (s1.bistStart c).capSync else s1
      else if r < 18 then
        let s1 := s.bistStart c
        if s1.engState (r - 16) = 5 then s1 else ((s1.engSet (r - 16) 3).setEng (r - 16) {}).matchSync
      else s.bistStart c)

/-- The region returns, or is out of service (R436). -/
def State.bistReturn (s : State) (r : Nat) (good : Bool) : State :=
  if r < 16 then (if good then s.capSync else (s.capSync).clusterFail r 0 0)
  else if r < 18 then
    (if s.engState (r - 16) = 5 then s
     else if good then s.setEng (r - 16) { ready := true }
     else s.engDisable (r - 16))
  else if r < 22 then (if good then s else s.pipeFail (r - 18) 0)
  else s.requestReset 5

/-- BIST_DONE: the signature, bits [31:0] first, passes when it equals the manifest's entry. After a class F region a SOFT reset follows, which flushes the
descriptor. -/
def execBistDone (w0 w1 w2 w3 : Word) (s : State) : Host.Outcome State Fault Refusal :=
  .next (
    match s.bist.cmd with
    | none => s
    | some c =>
      let r := bistReg c
      let good := s.bistGood r (bitsAt c.w1 8 2) (w3 ++ w2 ++ w1 ++ w0)
      let s1 := s.advanceTo (s.bist.since + bistTime r)
      let s2 := { s1 with bist := {} }
      let s3 := s2.wr R.BIST_STATUS (w32 (r + (if good then 2 ^ 9 else 0) + 2 ^ 10))
      let s4 := (((s3.wr (R.BIST_MISR 0) w0).wr (R.BIST_MISR 1) w1).wr (R.BIST_MISR 2) w2).wr (R.BIST_MISR 3) w3
      let s5 := s4.bistReturn r good
      if 22 ≤ r then s5
      else s5.cmdOk c [w32 ((if good then 1 else 0) + bitsAt c.w1 8 2 * 2), w0, w1, w2, w3])

end Sys2Proof.Machine
end

