-- ==== Sys2Proof/Machine/PwrCmd.lean ====
section
/-! DEFINITION. The power states' inputs and events, the save and the holdup up to the resets that follow them (R392 to R397, R405 to R411). -/

namespace Sys2Proof.Machine

/-! ### Idle and the choice of a state (R393 to R395) -/

/-- The states are re-evaluated after a write. Outside the deep states, and once the chip leaves one, only `IDLE_TIMER_EXPIRY` brings the idle
condition; a change that makes HOLD ineligible is a wake event, of a forced HOLD too, which POWER_STATE reports beside its cause (DEDUCED, log
entry 72). -/
def State.pwrInput (s : State) (cause : Nat) : State :=
  let idle := s.idleNow && 3 ≤ s.pwrState && s.pwr.exiting.isNone
  let drops := 40000 ≤ s.fld R.PWR_LAT_MIN F.PWR_LAT_MIN_T_US && s.latMin < 40000
  let leaves := 3 ≤ s.pwrState && (drops || s.pwrTarget idle < 3)
  (if leaves && drops && !s.pwr.hush then (s.setFld R.PWR_LAT_MIN F.PWR_LAT_MIN_T_US s.latMin).pwrLeave (s.pwrTarget false) 0 4
   else s.pwrEval idle cause (if leaves then 4 else 0)).gateEval

/-- A write of the partition's `PWR_LAT_TOL`. -/
def State.latWrite (s : State) (p : Nat) (data : Word) : State := (s.wr (R.PWR_LAT_TOL p) (data &&& 0x7FFFFF)).pwrInput 0

def execLatencyToleranceWrite (p : Part) (data : Word) (s : State) : Host.Outcome State Fault Refusal := .next (s.latWrite p.val data)

/-- A write of another `PWR` register by another partition than 0 is refused (R416). -/
def State.pwrWriter (s : State) (p : Nat) (ok : State) : State := s.only0 p R.PWR_ERR F.PWR_ERR_PART_WRITE ok

/-- A write of `PWR_PERMIT`. With `PERMIT_DEEP` 0 a force of HOLD or VAULT is ignored and sets `FORCE_INVALID` (R394). -/
def State.permitWrite (s : State) (p : Nat) (data : Word) : State :=
  s.pwrWriter p (
    let bad := !bitAt data 0 && s.flag R.PWR_FORCE F.PWR_FORCE_EN && 3 ≤ s.fld R.PWR_FORCE F.PWR_FORCE_STATE
    ((if bad then s.err R.PWR_ERR F.PWR_ERR_FORCE_INVALID else s).wr R.PWR_PERMIT (data &&& 0xFFFF01)).pwrInput 0)

/-- POWER_FORCE: a guarded write of `PWR_FORCE` (R394). -/
def State.forceWrite (s : State) (p : Nat) (data : Word) : State :=
  s.guarded p R.PWR_FORCE data (fun s => s.pwrWriter p (
    let st := fget F.PWR_FORCE_STATE data
    let en := bitAt data 0
    if en && (5 ≤ st || (3 ≤ st && !s.flag R.PWR_PERMIT F.PWR_PERMIT_PERMIT_DEEP)) then s.err R.PWR_ERR F.PWR_ERR_FORCE_INVALID
    else ((s.wr R.PWR_FORCE (data &&& 0xF)).setFld R.PWR_STATE F.PWR_STATE_FORCED (if en then 1 else 0)).pwrInput 1))

def execPowerForce (p : Part) (data : Word) (s : State) : Host.Outcome State Fault Refusal := .next (s.forceWrite p.val data)

/-- Instant from which the chip has been idle for `IDLE_MS` without a break: counted from when it was first seen idle, from now where it has not
been seen so, or where a frame has come since (R395). -/
def State.idleDue (s : State) : Nat :=
  (match s.pwr.idleSince with
   | some (t, n) => if n = s.qmg.nextId then t else s.now
   | none => s.now) + ms s.idleMs

/-- What the chip sees of its idleness as time passes (R395). -/
def State.idleSync (s : State) : State :=
  let seen := s.pwr.idleSince.any (fun x => x.2 = s.qmg.nextId)
  if s.idleNow && seen then s
  else { s with pwr := { s.pwr with idleSince := if s.idleNow then some (s.now, s.qmg.nextId) else none } }

/-- IDLE_TIMER_EXPIRY: the chip has been idle for `IDLE_MS` without a break. -/
def execIdleTimerExpiry (s : State) : Host.Outcome State Fault Refusal :=
  .next (
    if s.idleNow && s.pwrState < 3 then
      let s1 := s.advanceTo s.idleDue
      ({ s1 with pwr := { s1.pwr with idleSince := some (s.idleDue - ms s.idleMs, s1.qmg.nextId) } }).pwrEval true 3 0
    else s)

/-- POWER_STATE_EXIT_DONE: the move to a shallower state is complete. -/
def execPowerStateExitDone (s : State) : Host.Outcome State Fault Refusal :=
  .next (
    match s.pwr.exiting with
    | none => s
    | some (st, _, cause, wake, at_) =>
      if s.pwr.hush then s
      else
        let s1 := s.advanceTo at_
        (({ s1 with pwr := { s1.pwr with exiting := none } }).pwrTake st cause wake).gateEval)

/-- POWER_STATE_ENTRY_DONE: entry into HOLD is complete; what came during it to leave HOLD takes effect, with its cause. -/
def execPowerStateEntryDone (s : State) : Host.Outcome State Fault Refusal :=
  .next (
    if !s.pwr.entering || s.pwrState ≠ 3 then s
    else
      let s1 := { s with pwr := { s.pwr with entering := false, wakeDuring := none } }
      match s.pwr.wakeDuring with
      | none => s1
      | some (c, w) => s1.pwrExit (s1.pwrTarget false) c w)

/-! ### VAULT (R396, R410, R411) -/

/-- VAULT_SAVE_START: 10 ms after POWER_STATE with code 4. -/
def execVaultSaveStart (s : State) : Host.Outcome State Fault Refusal :=
  .next (
    match s.pwr.vaultEntry with
    | none => s
    | some t =>
      if s.save.active.isSome || s.pwr.vaultOff then s else (s.advanceTo t).startSave)

/-- The vault leaves VAULT: VAULT_OFF is deasserted. A wake during the entry follows it. -/
def State.vaultWakes (s : State) (code : Nat) : State :=
  if s.pwr.vaultOff then
    let s1 := s.vaultLeave code
    { s1 with pwr := { s1.pwr with vaultOff := false } }
  else if s.pwr.vaultEntry.isSome then s.vaultLeave code
  else s

/-- WAKE_N_INPUT: WAKE_N has been low for a number of consecutive K5 samples; 2 wake. -/
def execWakeNInput (samples : Nat) (s : State) : Host.Outcome State Fault Refusal :=
  .next (if 2 ≤ samples && s.flag R.PWR_WAKE_CFG F.PWR_WAKE_CFG_WAKE_EN then s.vaultWakes 5 else s)

/-- Instant at which the RTC reaches `ALARM_S`, from the second in which it still can (R411). -/
def State.alarmAt (s : State) : Option Nat :=
  let a := (s.rd R.PWR_ALARM_S).toNat
  if s.rtc ≤ a then some (s.vault.rtcAt + sec (a - (s.rd R.PWR_RTC_S).toNat)) else none

/-- RTC_ALARM: the RTC reaches `ALARM_S`. -/
def execRtcAlarm (s : State) : Host.Outcome State Fault Refusal :=
  .next (
    match s.alarmAt with
    | some t =>
      let s1 := s.advanceTo t
      if s1.flag R.PWR_WAKE_CFG F.PWR_WAKE_CFG_ALARM_EN then s1.vaultWakes 6 else s1
    | none => s)

/-- VBAT_LOSS: with the I/O supply absent the vault, which then runs on VBAT, loses its contents (R410, R412): its registers return to their reset
values; `VBAT_LOST` is set by the next boot. -/
def execVbatLoss (s : State) : Host.Outcome State Fault Refusal :=
  .next (
    if !s.pwr.fHeld then s
    else
      let s1 := [R.PWR_RTC_S, R.KEY_TAMPER_CFG, R.PWR_WAKE_CFG, R.PWR_ALARM_S].foldl (fun s k => s.wr k (aget 0 k regReset)) s
      { s1.setFld R.PWR_VAULT_STAT F.PWR_VAULT_STAT_ON_VBAT 1 with
        pwr := { s1.pwr with
          vbatLost := true
          fSup := max 2 s1.pwr.fSup }
        vault := { s1.vault with
          secret := 0
          rtcAt := s1.now } })

/-! ### Holdup (R406 to R409) -/

/-- HOLDUP_TRIGGER: Hush, the save domain isolated, the save started. A further trigger starts no second save. -/
def execHoldupTrigger (s : State) : Host.Outcome State Fault Refusal :=
  .next (
    if s.pwr.holdup then s
    else
      let s1 := s.enterHush.startSave
      { s1 with pwr := { s1.pwr with holdup := true, supplyLeft := false } })

/-- A bound entry's exact N and last accepted counter go into its record (R193, R407 item 1). -/
def State.ctrSave (s : State) (e : Nat) : State :=
  let x := s.ctr e
  let l := (s.nbr e).link
  let s1 := s.checkpoint e
  if e < 8192 && l.valid && l.key = x.fp && !l.noMatch then s1.setRecord x.record { s1.record x.record with inn := some l.ctr } else s1

def State.boundCtrs (s : State) : List Nat := (s.key.ctrs.filter (fun e => e.2.bound)).map (fun e => e.1)

/-- Bytes that the save writes (R407): the items of the table with the records held and one SAVE_DONE record. -/
def State.saveBytes (s : State) : Nat := 8 + 65792 + 64 + 4096 + 8 + (32 * (s.log.fifo.length + 1) + 8) + 8

/-- `PWR_SAVE_STAT` of a save: result, bytes, time in µs. -/
def saveStat (result bytes us_ : Nat) : Word := w32 (result % 4 + bytes % 2 ^ 19 * 4 + us_ / 100 % 2 ^ 11 * 2 ^ 21)

/-- The save's items, up to and including SAVE_OK. It has taken at most 3 ms; how long is a free value (R407). -/
def State.saveItems (s0 : State) : State :=
  let (d, sd) := s0.draw 3001
  let s := sd.advanceTo (s0.save.active.getD s0.now + us d)
  let t := (s.now - (s.save.active.getD s.now)) / us 1
  let bytes := s.saveBytes
  let s1 := s.boundCtrs.foldl State.ctrSave s
  let s2 := { s1 with save := { s1.save with
    anchorCity := s1.time.city32
    anchorRate := s1.time.rate
    anchorAsn := s1.slot.cur
    anchorServo := s1.servo
    bytes := bytes
    time := t
    anchorValid := true
    lostFirst := s1.log.lostFirst
    lostCount := s1.log.lostCount } }
  let s3 := s2.fifoDrain
  let q := s3.rd R.LOG_LNEXT
  let r := logRecord q s3.citySec s3.cityNsec 0x0060 0 (w32 bytes) (w32 t) 0
  let (s4, ok) := ((s3.trail 0x0060 0 (w32 bytes) (w32 t) 0).wr R.LOG_LNEXT (q + 1)).ledgerStore r
  let s5 := (if ok then s4.quietOver 9 else s4.quietLedger).wr R.PWR_SAVE_STAT (saveStat 1 bytes t)
  { s5 with save := { s5.save with busy := false, ok := true, active := none } }

/-- VHOLD_LOW: VHOLD falls below 5.0 V and the save stops before SAVE_OK. How far it came is not given: some of the bound entries, in order,
have their exact values, and some of the records held are in the Ledger. -/
def execVholdLow (s : State) : Host.Outcome State Fault Refusal :=
  .next (
    if s.save.active.isNone then s
    else
      let es := s.boundCtrs
      let (k, s1) := s.draw (es.length + s.log.fifo.length + 1)
      let s2 := (es.take k).foldl State.ctrSave s1
      let n := k - es.length
      let s3 := s2.storeAll (s2.log.fifo.take n)
      let (b, s4) := s3.draw (s.saveBytes)
      let s5 := s4.wr R.PWR_SAVE_STAT (saveStat 2 b ((s.now - (s.save.active.getD s.now)) / us 1))
      { s5 with
        save := { s5.save with active := none }
        log := { s5.log with fifo := s5.log.fifo.drop n } })

end Sys2Proof.Machine
end

