-- ==== Sys2Proof/Machine/Reset.lean ====
section
/-! DEFINITION. Resets: what each keeps and loses, what requests it, and the H-die's part (R331, R332, R396, R398 to R404, R407, R409,
R413); and the flush of a queue, whose host part a PART reset shares (R289, R290). -/

namespace Sys2Proof.Machine

/-! ### Registers that a reset keeps (R402, R404, R416, R454, R455) -/

/-- A register of the H-die: blocks `PART`, `RING`, `EVT`, `ETH`, `PRP`, `PTP`, and the H-die parts of `SYS`, `SHP` and `PASS` (R444). -/
def hostReg (k : Nat) : Bool :=
  let b := k % 0x20000 / 4096
  let o := k % 4096
  (1 ≤ b && b ≤ 3) || (21 ≤ b && b ≤ 23) || (b = 0 && o < 0x40) || (b = 20 && 0x800 ≤ o) || (b = 24 && o < 0x80)

/-- Registers of the F-die that MRAM, the vault or a sensor holds. -/
def keptReg (k : Nat) : Bool :=
  [R.LOG_LNEXT, R.BOOT_SEL, R.BIST_CTRL, R.BIST_STATUS, R.BIST_MISR 0, R.BIST_MISR 1, R.BIST_MISR 2, R.BIST_MISR 3, R.PWR_SAVE_STAT,
    R.PWR_WAKE_CFG, R.PWR_RTC_S, R.PWR_ALARM_S, R.PWR_VAULT_STAT, R.KEY_TAMPER_CFG, R.KEY_TAMPER_STAT, R.SYS_TEMP].contains k

/-- The register file after a reset that keeps some registers and returns every other to its reset value. -/
def regsAfter (keep : Nat → Bool) (regs : List (Nat × Word)) : List (Nat × Word) :=
  (regs.filter (fun e => keep e.1)).foldl (fun m e => aset 0 e.1 e.2 m) (regReset.filter (fun e => !keep e.1))

/-- One field keeps the value it had in another state. -/
def State.keepFld (s old : State) (k : Nat) (f : Fld) : State := s.setFld k f (old.fld k f)

/-- Fields of other F-die registers that MRAM or the vault holds, and the H-die's SAFE_N. -/
def State.keepFields (s old : State) : State :=
  let s1 := (s.keepFld old R.SAFE_STATE F.SAFE_STATE_QUIET).keepFld old R.SAFE_STATE F.SAFE_STATE_DRIVE_H
  let s2 := (s1.keepFld old R.SAFE_CAUSE F.SAFE_CAUSE_LATCHED).keepFld old R.QMG_SPILL_CFG F.QMG_SPILL_CFG_NEXT_MIB
  let s3 := (s2.keepFld old R.BOOT_SLOTA F.BOOT_SLOTA_TRIES).keepFld old R.BOOT_SLOTB F.BOOT_SLOTB_TRIES
  let s4 := (s3.keepFld old R.KEY_STATUS F.KEY_STATUS_TAMPERED).keepFld old R.KEY_STATUS F.KEY_STATUS_VAULT_CAUSE
  s4.setFld R.BIST_STATUS F.BIST_STATUS_RUNNING 0

/-! ### The F-die reset -/

/-- Counter records that were bound become unbound as they stand, in order of their number (R190, R402; log entry 76). -/
def recordsUnbind (v : VaultSt) : VaultSt :=
  v.records.foldl (fun v e =>
    if e.2.bound then
      { v with
        records := aset {} e.1 { e.2 with bound := false, unbound := v.unbinds + 1 } v.records
        unbinds := v.unbinds + 1 }
    else v) v

/-- What the boot will report as lost (R389): the tally that a save wrote, or, without one, the records held and those lost before. -/
def State.gapNow (s : State) : Option (Word × Nat) :=
  if s.save.ok then (if s.save.lostCount = 0 then none else some (s.save.lostFirst, s.save.lostCount))
  else
    match s.log.fifo with
    | r :: _ => some (wordAt r 0, s.log.fifo.length + s.log.lostCount)
    | [] => if s.log.lostCount = 0 then none else some (s.log.lostFirst, s.log.lostCount)

/-- Free octets from an address: what an interrupted erase or program leaves is not given. -/
def State.flashFree (s : State) (addr : Nat) : Nat → State
  | 0 => s
  | n + 1 =>
    let (b, s1) := s.draw 256
    State.flashFree { s1 with boot := { s1.boot with flash := aset 0xFF addr (BitVec.ofNat 8 b) s1.boot.flash } } (addr + 1) n

/-- A flash operation that a reset interrupts. -/
def State.flashCut (s : State) : State :=
  match s.boot.op with
  | none => s
  | some o => { s.flashFree o.addr o.count with boot := { (s.flashFree o.addr o.count).boot with op := none } }

/-- Blowing that a reset interrupts leaves F at a step already blown (R425). -/
def State.fuseCut (s : State) : State :=
  if !s.flag R.BOOT_RB F.BOOT_RB_BLOWING then s
  else
    let (k, s1) := s.draw (s.boot.fuseTarget - s.boot.fuseF + 1)
    { s1 with boot := { s1.boot with fuseF := s1.boot.fuseF + k } }

/-- The H-die's half of an F-die reset or of a Pass loss (R331); frames it holds no longer complete a descriptor. -/
def State.hForget (s : State) : State :=
  let s1 := s.hLose
  { s1 with
    host := { s1.host with
      stale := []
      held := s1.host.held.map (fun h => { h with src := none }) }
    eth := { s1.eth with tx := s1.eth.tx.map (fun (t : EthTx) => { t with src := none }) } }

/-- `ON_VBAT` (R410, R416): the vault runs on VBAT while the F-die I/O supply is out of its range. -/
def State.onVbat (s : State) : State := s.setFld R.PWR_VAULT_STAT F.PWR_VAULT_STAT_ON_VBAT (if 2 ≤ s.pwr.fSup then 1 else 0)

/-- What a die's supplies are once one has left its range, or in VAULT: how many more are out, the I/O supply and in the end every one, is not
given: free values. -/
def State.supplies (s : State) (least : Nat) (d : Die) : State :=
  let (x, t) := s.draw (4 - least)
  match d with
  | .f => ({ t with pwr := { t.pwr with fSup := least + x } }).onVbat
  | .h => { t with pwr := { t.pwr with hSup := least + x } }

/-- An F-die reset of a kind (R398, R402 to R404): the F-die's state is that after power-on but for what MRAM, the vault, fuses, the flash
and, across SOFT, DRAM keep. `release` is false while the die stays in reset. -/
def State.fDieReset (s0 : State) (kind : Nat) (release : Bool) : State :=
  let s := s0.flashCut.fuseCut.hForget
  let dram := kind = 5 && s.flag R.SYS_DRAM_KEEP F.SYS_DRAM_KEEP_KEEP
  let quiet := s.inQuiet
  let r := State.reset
  let t : State := { r with
    regs := regsAfter (fun k => hostReg k || keptReg k) s.regs
    now := s.now
    free := s.free
    pass := { r.pass with
      retrainResends := s.pass.retrainResends
      retrainAt := s.pass.retrainAt
      resetReqAt := s.pass.resetReqAt
      hTime := s.hCityNs
      hTimeAt := s.now }
    host := { s.host with bootBytes := 0 }
    eth := s.eth
    safe := { r.safe with
      dacMuted := quiet
      hQuiet := s.safe.hQuiet
      hPeerBad := s.safe.hPeerBad
      droverAt := s.now
      healthH := s.safe.healthH }
    log := { r.log with
      ledger := s.log.ledger
      bad := s.log.bad }
    save := { s.save with active := none }
    pwr := { r.pwr with
      lastKind := kind
      vaultOff := s.pwr.vaultOff
      vaultWake := s.pwr.vaultWake && kind == 0
      vaultCode := if kind = 0 then s.pwr.vaultCode else 0
      fSup := if release then 0 else s.pwr.fSup
      hSup := s.pwr.hSup
      vbatLost := s.pwr.vbatLost
      fLost := s.pwr.fLost
      hHeld := s.pwr.hHeld
      fHeld := !release }
    boot := { r.boot with
      flash := s.boot.flash
      fuseF := s.boot.fuseF
      recoveryReq := kind == 9
      gapAtBoot := s.boot.gapAtBoot.or s.gapNow }
    cvn := { r.cvn with groups := if dram then s.cvn.groups else [] }
    cvnIds := s.cvnIds
    shp := { r.shp with
      gcl := s.shp.gcl
      gates := s.shp.gates }
    rf := { r.rf with
      dieTemp := s.rf.dieTemp
      calLast := [0, 1, 2, 3].map (fun a => (a, s.now)) }
    key := { r.key with
      store := if dram then s.key.store else []
      badBlobs := if dram then s.key.badBlobs else [] }
    vault := recordsUnbind s.vault
    pending := s.pending }
  let u := (t.keepFields s).setFld R.PASS_STATUS F.PASS_STATUS_UP 0
  let v := ((if kind = 0 then u else u.setFld R.PASS_STATUS F.PASS_STATUS_RETRAIN 0).setFld R.PASS_STATUS F.PASS_STATUS_K6_LOCAL 1).onVbat
  (v.setFld R.SAFE_STATE F.SAFE_STATE_DRIVE_F (if quiet && release then 1 else 0)).armLocks

/-! ### The H-die reset -/

/-- The microcode of the running image goes to the H-die in BOOT_LOAD messages of up to 4,096 octets, padded with zeros to whole words
(R13, R307). -/
def State.loadChunks (s : State) : Nat → List Byte → State
  | 0, _ => s
  | n + 1, bs =>
    if bs.isEmpty then s
    else State.loadChunks (s.passSend .f 0x0E 0 false (bs.take 4096).length (bytesWords (bs.take 4096))) n (bs.drop 4096)

def State.sendMicrocode (s : State) : State :=
  let bs := s.microcode s.boot.mode
  let padded := bs ++ List.replicate ((4 - bs.length % 4) % 4) 0
  { s.loadChunks 257 padded with host := { (s.loadChunks 257 padded).host with microLen := padded.length } }

/-- The firmware has passed its self-test and runs. -/
def State.fwRuns (s : State) : Bool := !s.pwr.fHeld && !s.boot.booting && s.boot.mode ≠ 0 && s.boot.selfTestDone

/-- An H-die reset (R398, R402): every register and buffer of the die is lost, `PART_MAP` comes into force (R305), and the Pass is lost. Frames
that the F-die sent and the H-die had not taken return their cells. -/
def State.hDieReset (s : State) (release : Bool) : State :=
  let s1 := s.freeChain s.qmg.inHand.flatten
  let s2 : State := { s1 with
    regs := regsAfter (fun k => !hostReg k || k == R.PART_MAP) s1.regs
    host := { State.reset.host with
      mem := s1.host.mem
      microLen := s1.host.microLen
      stale := s1.host.stale ++ s1.host.fetched }
    eth := {}
    shp := { s1.shp with
      gcl := []
      gates := [] }
    pass := { fReject := s1.pass.fReject }
    qmg := { s1.qmg with
      inHand := []
      aside := []
      upSide := [] }
    safe := { s1.safe with
      healthH := none
      hQuiet := false
      hPeerBad := false }
    boot := { s1.boot with readySince := none }
    pwr := { s1.pwr with
      hHeld := !release
      hSup := if release then 0 else s1.pwr.hSup } }
  let s3 := s2.setFld R.PART_MAP F.PART_MAP_ACTIVE (s2.fld R.PART_MAP F.PART_MAP_MAP)
  (s3.setFld R.SAFE_STATE F.SAFE_STATE_DRIVE_H (if release && s3.inQuiet then 1 else 0)).armLocks

/-- A running F-die loses the H-die: a Pass loss, which puts it into Quiet with cause 1 (R400). -/
def State.hGone (s : State) : State := if s.pwr.fHeld then s else s.quiet 1

/-- The H-die leaves its reset: running firmware sends it the microcode again, and the power states follow the mapping. -/
def State.hBack (s : State) : State := if s.fwRuns then s.sendMicrocode.pwrInput 0 else s

/-- Every supply of a die is in range again: cause 12 lasts only while the die is too hot (R372). -/
def State.suppliesBack (s : State) : State := if s.pwr.fHeld || !s.envGood then s else s.quietOver 12

/-- POR_H (R398). -/
def execPorH (s : State) : Host.Outcome State Fault Refusal :=
  .next (if !s.pwr.hHeld || s.pwr.vaultOff then s else ((s.hDieReset true).hBack).suppliesBack)

/-- PIN_H: RESET_H_N low for 1 µs (R398, R400). -/
def execPinH (s : State) : Host.Outcome State Fault Refusal :=
  .next (if s.pwr.hHeld then s else ((s.hDieReset true).hGone).hBack)

/-! ### Requests (R398, R399) -/

/-- PIN_F (R399). -/
def execPinF (s : State) : Host.Outcome State Fault Refusal := .next (if s.pwr.fHeld then s else s.requestReset 2)

/-- A guarded write of `SYS_RESET` (R398, R450, R454): both bits act as RECOVERY. -/
def State.sysReset (s : State) (p : Nat) (data : Word) : State :=
  s.guarded p R.SYS_RESET data (fun s =>
    if p ≠ 0 then s.err (R.SYS_ERR p) F.SYS_ERR_PART_WRITE
    else if bitAt data 1 then s.requestReset 9
    else if bitAt data 0 then s.requestReset 5
    else s)

def execSoft (p : Part) (data : Word) (s : State) : Host.Outcome State Fault Refusal := .next (s.sysReset p.val data)
def execRecovery (p : Part) (data : Word) (s : State) : Host.Outcome State Fault Refusal :=
  .next (s.sysReset p.val (fset F.SYS_RESET_RECOVERY data 1))

/-- The H-die takes RESET_REQ (R309, R331): the loss of the Pass that follows belongs to the reset, and reads that wait return all ones. -/
def State.resetReqTake (s : State) : State :=
  let s1 := s.hLose.setFld R.PASS_STATUS F.PASS_STATUS_F_RESET 1
  let wait := s1.host.readTag.map (fun e => e.1)
  { s1 with
    pass := { s1.pass with resetReqAt := some s1.now }
    host := { s1.host with
      readData := wait.foldl (fun m q => aset 0 q 0xFFFFFFFF m) s1.host.readData
      readTag := [] } }

/-! ### Supplies and the save (R396, R399, R407, R409, R413) -/

/-- POR_F (R398, R409): the die leaves reset once its supplies are back and no save runs. -/
def execPorF (s : State) : Host.Outcome State Fault Refusal :=
  .next (if !s.pwr.fHeld || s.pwr.vaultOff || s.save.active.isSome then s else s.fDieReset 0 true)

/-- SAVE_COMPLETE: SAVE_OK is written; the reset that was announced follows, or VAULT_OFF, or the chip holds Hush until the holdup ends. An
F-die reset that the H-die has not heard of yet counts as announced. -/
def execSaveComplete (s : State) : Host.Outcome State Fault Refusal :=
  .next (
    if s.save.active.isNone then s
    else
      let s1 := s.saveItems
      match s1.pwr.resetCode with
      | some c =>
        if s1.pwr.supplyLeft then s1
        else (if s1.flag R.PASS_STATUS F.PASS_STATUS_F_RESET || s1.pwr.hHeld then s1 else s1.resetReqTake).fDieReset c true
      | none =>
        if s1.pwr.vaultEntry.isSome && !s1.pwr.holdup then
          let s2 := (s1.fDieReset 0 false).hDieReset false
          if s2.pwr.vaultWake then s2
          else ({ s2 with pwr := { s2.pwr with vaultOff := true } }.supplies 0 .f).supplies 0 .h
        else s1)

/-- The chip leaves Hush with SAVE_DONE, and its state follows what came in Hush (R406, R409). -/
def State.hushOver (s : State) : State :=
  let s1 := { s with
    save := { s.save with ok := false }
    safe := { s.safe with dacMuted := s.inQuiet }
    pwr := { s.pwr with
      hush := false
      saveIsland := false
      holdup := false } }
  let s2 := s1.setFld R.PWR_SAVE_STAT F.PWR_SAVE_STAT_RESULT 3
  (s2.evtF 9 0 (w32 s.save.bytes) (w32 s.save.time) 1).pwrInput 0

/-- RIDE_THROUGH: VSENSE has been above its release level for 10 ms. Without a loss of a supply the chip leaves Hush with SAVE_DONE, and what it
held goes on; else the event is a POR_F. -/
def execRideThrough (s : State) : Host.Outcome State Fault Refusal :=
  .next (
    if !s.pwr.holdup || s.save.active.isSome then s
    else if s.pwr.supplyLeft then s.fDieReset 0 true
    else if !s.save.ok then s
    else s.hushOver.thaw)

/-- The F-die has lost a supply: it is in reset, and a powered H-die finds the Pass gone, outside an announced reset without warning (R22,
R400). Quiet cause 12 is latched, in MRAM, but not while the save domain is isolated, which no longer sees the supplies (R372, R406; log
entry 113). While the save runs, and until the holdup ends, what the save domain holds stays. -/
def State.fSupplyFault (s : State) : State :=
  let told := s.flag R.PASS_STATUS F.PASS_STATUS_F_RESET
  let lost := !s.pwr.hHeld && !told
  let s0 := if s.pwr.saveIsland then s else s.quiet 12
  let s1 := if lost && s0.passUp then s0.passLocal.passRetrain 0 else s0
  let s2 := { s1 with pwr := { s1.pwr with
    fLost := lost
    vaultWake := false
    vaultCode := 0 } }
  (if s2.save.active.isSome || s2.pwr.holdup then
    { s2 with pwr := { s2.pwr with
        supplyLeft := true
        fHeld := true } }
  else s2.fDieReset 0 false).supplies 1 .f

/-- SUPPLY_FAULT: a supply of a die leaves its range for more than 10 µs (R413): Quiet cause 12 (R372), and the die is reset. -/
def execSupplyFault (d : Die) (s : State) : Host.Outcome State Fault Refusal :=
  .next (
    match d with
    | .f => if s.pwr.fHeld then s else s.fSupplyFault
    | .h =>
      if s.pwr.hHeld then s
      else
        let s1 := ((s.hDieReset false).hGone).supplies 1 .h
        let s2 := if s1.pwr.fHeld then s1 else s1.quiet 12
        { s2 with pwr := { s2.pwr with fLost := false } })

/-! ### Flushing a queue (R289, R290) -/

/-- The partition may flush the queue. -/
def State.mayFlush (s : State) (p q : Nat) : Bool :=
  p = 0 || (32832 + 16 * p ≤ q && q < 32848 + 16 * p) ||
    (q < 32768 && (s.nbr (q / 4)).valid && s.panOwner (s.nbr (q / 4)).pan = p) ||
    (32768 ≤ q && q < 32800 && s.panOwner ((q - 32768) / 4) = p)

/-- The write-back that a flush meets in progress (R289): the oldest frame held for an enabled RX ring whose descriptors are all posted (DESIGN CHOICE,
log entry 133). The descriptor that its first octets were to fill completes FLUSHED, behind those that are skipped before it. -/
def State.backFlush (s : State) (p r : Nat) : State :=
  match s.host.held.find? (fun f => f.part = p && f.ring = r) with
  | none => s
  | some f =>
    let plan := ((s.rxPlan p (16 + r) (s.ringPosted p (16 + r)) (s.ringChip p (16 + r)) f.bytes.length).getD [])
    let upto := plan.takeWhile (fun e => e.2.2) ++ (plan.dropWhile (fun e => e.2.2)).take 1
    upto.foldl (fun s e => s.rxBack p (16 + r) [] [] e.1 true false) s

/-- The H-die's part of a flush of a host RX queue (R289, R312): a write-back in progress ends, frames held for the ring are released, and a
partition that sent one hears FLUSHED. -/
def State.heldFlush (s0 : State) (p r : Nat) : State :=
  let s := s0.backFlush p r
  let mine := s.host.held.filter (fun h => h.part = p && h.ring = r)
  let s1 := { s with
    host := { s.host with held := s.host.held.filter (fun (h : HeldFrame) => !(h.part = p && h.ring = r)) }
    qmg := { s.qmg with aside := s.qmg.aside.filter (fun (a : Nat × Nat × Nat) => !(a.1 = p && a.2.1 = r)) } }
  mine.foldl (fun s h =>
    match h.src with
    | some f => s.txDoneH f stFLUSHED 0 0
    | none => s) s1

/-- REG_WR to the ring engine of a partition's RX ring, by which the F-die passes a flush on (R289; PRESUMED address, log entry 4). -/
def State.sendRingFlush (s : State) (p r : Nat) : State :=
  s.passSend .f 0x08 p false 8 [w32 (R.RING_STATE (16 + r) p % 0x20000), 0]

/-- A write of `QMG_FLUSH` (R280, R289, R290): `GO` empties the queue. A write that names a reserved queue, one that the partition may not
make and, in Hush, any with `GO` stores nothing (R440). -/
def State.flushWrite (s : State) (p : Nat) (data : Word) : State :=
  let q := data.toNat % 65536
  let s1 := s.setFld (R.QMG_FLUSH p) F.QMG_FLUSH_QUEUE q
  if !queueValid q then s.err R.QMG_ERR F.QMG_ERR_QUEUE_INVALID
  else if !bitAt data 16 then s1
  else if !s.mayFlush p q then s.err R.QMG_ERR F.QMG_ERR_PART_WRITE
  else if s.pwr.hush then s
  else
    let s2 := s1.flushQueue q
    if 32832 ≤ q && q < 32896 then s2.sendRingFlush ((q - 32832) / 16) ((q - 32832) % 16) else s2

def execQueueFlush (p : Part) (data : Word) (s : State) : Host.Outcome State Fault Refusal := .next (s.flushWrite p.val data)

/-! ### PART resets (R332) -/

/-- The H-die stops for a partition: its descriptors and completions are dropped, its rings, vectors and routes return to reset. -/
def State.partHost (s : State) (p : Nat) : State :=
  let gone := s.host.fetched.filter (fun f => f.part = p)
  let mine (w : Nat) (m : List (Nat × Nat)) : List (Nat × Nat) := m.filter (fun (e : Nat × Nat) => e.1 / w != p)
  let own (f : Option Fetched) : Option Fetched := f.filter (fun f => f.part != p)
  let s0 := { s with eth := { s.eth with tx := s.eth.tx.map (fun (t : EthTx) => { t with src := own t.src }) } }
  let s1 := { s0 with host := { s.host with
    fetched := s.host.fetched.filter (fun (f : Fetched) => f.part != p)
    held := s.host.held.map (fun (h : HeldFrame) => { h with src := own h.src })
    readTag := aset 0 p 0 s.host.readTag
    readLowTag := aset 0 p 0 s.host.readLowTag
    stale := s.host.stale ++ gone
    cplWait := s.host.cplWait.filter (fun (e : Nat × List Word) => e.1 != p)
    written := mine 64 s.host.written
    route := (routeReset.filter (fun (e : Nat × Nat) => e.1 / 128 == p)) ++ mine 128 s.host.route
    pba := mine 32 s.host.pba
    holdoff := mine 32 s.host.holdoff } }
  let s2 := (List.range 35).foldl (fun s r =>
    (((s.wr (R.RING_BASE_LO r p) 0).wr (R.RING_BASE_HI r p) 0).wr (R.RING_CFG r p) 0).wr (R.RING_STATE r p) 0) s1
  let s3 := (List.range 32).foldl (fun s v => s.wr (R.EVT_HOLDOFF v p) 0) s2
  ((s3.wr (R.RING_CPL_RESV p) 0).wr (R.EVT_ROUTE_ADDR p) 0).wr (R.SYS_BANK p) 0

/-- Frames for a partition's RX rings are released on both dies. -/
def State.partFrames (s : State) (p : Nat) : State :=
  (List.range 16).foldl (fun s r =>
    let crossing := s.qmg.aside.any (fun a => a.1 = p && a.2.1 = r)
    let s1 := (s.flushQueue (qHost p r)).heldFlush p r
    if crossing then s1.sendRingFlush p r else s1) s

/-- A partition's postings, sessions and Caravans end without a bitmap or map; a dual Caravan goes on for its other poster. -/
def State.partCvn (s : State) (p : Nat) : State :=
  let s1 := ({ s with cvn := { s.cvn with waiting := s.cvn.waiting.filter (fun (w : CvnWait) => w.cmd.part.val != p) } }).cvnSync
  let s2 := (s1.cvn.sess.filter (fun e => e.2.cmd.part.val = p)).foldl (fun s e =>
    let fs := s.qmg.queues.flatMap (fun q => (q.2.frames.filter (fun f => f.origin = .image e.1)).map (fun f => (q.1, f)))
    let s' := fs.foldl (fun s g => s.flushFrame g.1 g.2) s
    ({ s' with cvn := { s'.cvn with sess := s'.cvn.sess.filter (fun (x : Nat × ImgSess) => x.1 != e.1) } }).wr (R.IMG_SESS e.1) 0) s1
  let only := s2.cvn.open_.filter (fun c => c.posts.all (fun d => d.part.val = p))
  let drop (c : Caravan) : Caravan := { c with posts := c.posts.filter (fun (d : CmdDesc) => d.part.val != p) }
  let s3 := { s2 with cvn := { s2.cvn with open_ := s2.cvn.open_.map drop } }
  only.foldl (fun s c => s.cvnAbort c.cid stFLUSHED false) s3

/-- The F-die discards the completions still to come for a partition (R332): of its commands that have not run, of those that run on, and of its
frames; only what is on its way to the H-die still comes and is discarded there. -/
def State.partForget (s : State) (p : Nat) : State :=
  let flying (f : Fetched) : Bool :=
    (s.pass.fh.retry ++ s.pass.fh.waiting).any (fun m => m.typ = 5 && m.part = p && cplAnswers p m.payload f)
  let side (x : UpSide) : UpSide := { x with src := x.src.filter (fun f => f.part != p) }
  { s with
    cmds := s.cmds.filter (fun (c : CmdDesc) => c.part.val != p)
    ends := { s.ends with
      gens := amod 0 p (· + 1) s.ends.gens
      order := ((s.cmds.filter (fun (c : CmdDesc) => c.part.val = p)).foldl (fun (l : List CplSlot) c => l.erase { cmd := c })
        s.ends.order.reverse).reverse.map (fun (x : CplSlot) => if x.cmd.part.val = p then { x with gone := true } else x) }
    qmg := { s.qmg with
      upSide := s.qmg.upSide.map (fun (e : Nat × UpSide) => (e.1, side e.2))
      frozen := s.qmg.frozen.filter (fun (e : PassMsg × Nat) => e.1.part != p) }
    host := { s.host with stale := s.host.stale.filter (fun (f : Fetched) => f.part != p || flying f) } }

/-- The F-die's part of a PART reset: its copies of the partition's registers return to reset, frames for the partition's RX rings are
released, completions still to come are discarded, and postings, sessions and Caravans end. -/
def State.partResetF (s : State) (p : Nat) : State :=
  let s1 := ((s.partFrames p).partCvn p).partForget p
  (((s1.wr (R.LINK_NBR_ADDR p) 0).wr (R.QMG_FLUSH p) 0).wr (R.PWR_LAT_TOL p) 0).pwrInput 0

/-- PART reset of a partition (R332): `flr` tells what started it. The H-die does its part and asks the F-die for the rest with RESET_REQ
(R17; its payload is the kind and the partition, PRESUMED, log entry 4). -/
def State.partReset (s : State) (p : Nat) (flr : Bool) : State :=
  let s1 := (s.partHost p).armLock p
  let s2 := if s1.passClear .h then (s1.passCross .h).partResetF p else s1.passSend .h 0x0F p false 8 [6, w32 p]
  s2.evtH 21 0 (w32 p) (if flr then 1 else 0) 0

/-- RESET_REQ arrives (R17, R331, R332): at the H-die it announces an F-die reset, at the F-die it asks for the F-die's part of a PART
reset. -/
def execResetReq (d : Die) (m : PassMsg) (s : State) : Host.Outcome State Fault Refusal :=
  .next (s.passRx d 0x0F m (fun s =>
    match d with
    | .h => s.resetReqTake
    | .f => if (wordAt m.payload 0).toNat = 6 then s.partResetF ((wordAt m.payload 1).toNat % 4) else s) id)

/-- A guarded write of `PART_RESET`: partition 0 resets any set, another only itself. -/
def State.partResetWrite (s : State) (p : Nat) (data : Word) : State :=
  let (s1, ok) := s.guardTake p
  if !ok then s1.guardViolationH p 0x100C data
  else
    let bits := data.toNat % 16
    let mask := if p = 0 then bits else bits &&& 2 ^ p
    let s2 := if mask = bits then s1 else s1.err (R.PART_ERR p) F.PART_ERR_PART_WRITE
    [0, 1, 2, 3].foldl (fun s q => if nbit mask q then s.partReset q false else s) s2

def execPartReset (p : Part) (data : Word) (s : State) : Host.Outcome State Fault Refusal := .next (s.partResetWrite p.val data)

/-- FUNCTION_LEVEL_RESET: an FLR of the partition's function. -/
def execFunctionLevelReset (p : Part) (s : State) : Host.Outcome State Fault Refusal :=
  .next (if s.mapped p.val then (s.cfgReset p.val).partReset p.val true else s)

/-! ### FW_READY (R331, R401) -/

/-- Failed units of the boot self-test are reported (R424). -/
def State.bootReports (s : State) : State :=
  let s1 := s.boot.bootFailClusters.foldl (fun s c => s.clusterFail c 0 0) s
  let left := pipesLeft (s1.fld R.SAFE_HEALTH F.SAFE_HEALTH_PIPE_OK)
  let s2 := s.boot.bootFailPairs.foldl (fun s i => s.pipeReport i 0 left) s1
  let s3 := s.boot.events.foldl (fun s (e : Nat × Nat × Word × Word × Word) => s.evtF e.1 e.2.1 e.2.2.1 e.2.2.2.1 e.2.2.2.2) s2
  { s3 with boot := { s3.boot with
      bootFailClusters := []
      bootFailPairs := []
      events := [] } }

/-- FW_READY: with the firmware running, the Pass up and the microcode loaded the H-die sets `FW_READY`, raises it from its own router (log
entry 73) and fetches again; the events that the boot has found follow. -/
def execFwReady (s : State) : Host.Outcome State Fault Refusal :=
  .next (
    if !s.passUp || !s.fwRuns || !s.host.microcode || s.host.fwReady then s
    else
      let s1 := { s with
        host := { s.host with
          fwReady := true
          stopped := false }
        boot := { s.boot with readySince := some s.now } }
      (s1.evtH 30 0xF (s1.rd R.BOOT_VERSION) (w32 (s1.rd R.SYS_RESET_CAUSE).toNat) 0).bootReports)

end Sys2Proof.Machine
end

