-- ==== Sys2Proof/Machine/Boot.lean ====
section
/-! DEFINITION. The boot ROM, the boot self-test, what the firmware does before FW_READY, anti-rollback and slot selection (R194, R378,
R389, R401, R403, R408, R421 to R426, R432). -/

namespace Sys2Proof.Machine

/-! ### Recovery (R432) -/

def be (n x : Nat) : List Byte := beBytes n x

/-- The IDENT payload (R430). -/
def State.identPayload (s : State) : List Byte :=
  be 2 0x7160 ++ [1, if Config.lifecycleField then 1 else 0] ++ be 16 Config.unitId.toNat ++
    [BitVec.ofNat 8 s.boot.fuseF, BitVec.ofNat 8 s.boot.mode, BitVec.ofNat 8 s.boot.recovery]

/-- A Smivi response frame: `CHECK` is CRC-32C over the octets before it, most significant octet first (R428; log entry 74). -/
def smiviFrame (status : Nat) (seq : Byte) (payload : List Byte) : List Byte :=
  let b := [BitVec.ofNat 8 status, seq] ++ be 2 payload.length ++ payload
  b ++ be 4 (crc32c b).toNat

/-- The ROM enters recovery for a reason (R432): the DACs are silent, SAFE_N_F is driven low, no microcode is sent, so that the H-die's functions
answer with retry status, and IDENT is sent unasked. `KIND` reads 9 but
for a failed self-test, which RAM_RUN makes 9 (R398, R433). -/
def State.recover (s : State) (reason : Nat) : State :=
  let s1 := s.cutAir.setFld R.SAFE_STATE F.SAFE_STATE_DRIVE_F 1
  let s2 := if reason = 4 then s1 else s1.setFld R.SYS_RESET_CAUSE F.SYS_RESET_CAUSE_KIND 9
  let s3 := { s2 with
    safe := { s2.safe with dacMuted := true }
    host := { s2.host with microcode := false }
    boot := { s2.boot with
      mode := 0
      recovery := reason
      booting := false
      recoveryReq := false
      selfTestDone := false } }
  { s3 with boot := { s3.boot with resp := some (smiviFrame 1 0 s3.identPayload) } }

/-! ### The ROM (R421) -/

def slotReg (slot : Nat) : Nat := if slot = 1 then R.BOOT_SLOTA else R.BOOT_SLOTB
def slotVer (slot : Nat) : Nat := if slot = 1 then R.BOOT_VER_A else R.BOOT_VER_B

/-- Attempt count of a slot (R422). -/
def State.tries (s : State) (slot : Nat) : Nat := s.fld (slotReg slot) F.BOOT_SLOTA_TRIES
def State.setTries (s : State) (slot n : Nat) : State := s.setFld (slotReg slot) F.BOOT_SLOTA_TRIES n

/-- Checks 1 to 7 of a slot, into its registers. -/
def State.slotCheck (s : State) (slot : Nat) : State :=
  let m := s.manifest slot
  let s1 := s.setFld (slotReg slot) F.BOOT_SLOTA_FIRST_FAIL (manifestFail s.boot.fuseF m)
  ((s1.setFld (slotReg slot) F.BOOT_SLOTA_SVN (manSvn m)).setFld (slotReg slot) F.BOOT_SLOTA_CHANGED 0).wr (slotVer slot)
    (w32 (manVersion m))

def State.candidate (s : State) (slot : Nat) : Bool :=
  s.fld (slotReg slot) F.BOOT_SLOTA_FIRST_FAIL = 0 && s.tries slot < 3

/-- The candidates in order: a forced one first, the others by descending version, slot A first on equal versions. -/
def State.bootOrder (s : State) : List Nat :=
  let byVersion := if (s.rd R.BOOT_VER_A).toNat < (s.rd R.BOOT_VER_B).toNat then [2, 1] else [1, 2]
  let sel := s.fld R.BOOT_SEL F.BOOT_SEL_SEL
  let order := if sel = 1 then [1, 2] else if sel = 2 then (if s.candidate 2 then [2, 1] else byVersion) else byVersion
  order.filter s.candidate

/-- The image of a slot, or the staged one, starts: pair 0 runs its code (R421, R433). -/
def State.imageStart (s : State) (mode svn version : Nat) (fallback : Bool) : State :=
  let s1 := ((s.setFld R.BOOT_STATUS F.BOOT_STATUS_SLOT (mode - 1)).setFld R.BOOT_STATUS F.BOOT_STATUS_FALLBACK (if fallback then 1 else 0)).setFld
    R.BOOT_STATUS F.BOOT_STATUS_RUN_SVN svn
  let s2 := s1.wr R.BOOT_VERSION (w32 version)
  { s2 with boot := { s2.boot with
      mode := mode
      booting := false
      selfTestDone := false } }

/-- The first candidate whose body passes check 8 boots; with none left the ROM enters recovery. -/
def State.bootTry (s : State) (first : Bool) : List Nat → State
  | [] => s.recover 3
  | c :: rest =>
    if s.bodyOk c then
      (s.setTries c (min 3 (s.tries c + 1))).imageStart c (s.fld (slotReg c) F.BOOT_SLOTA_SVN) (s.rd (slotVer c)).toNat (!first)
    else State.bootTry (s.setFld (slotReg c) F.BOOT_SLOTA_FIRST_FAIL 8) false rest

/-- F_DIE_BOOT: the ROM at the release of an F-die reset; `recovLow` is the level of RECOV_N. -/
def execFDieBoot (recovLow : Bool) (s : State) : Host.Outcome State Fault Refusal :=
  .next (
    if s.pwr.fHeld || !s.boot.booting then s
    else
      let s1 := s.wr R.SYS_RESET_CAUSE (w32 (s.pwr.lastKind + (if s.pwr.vaultWake then 16 else 0)))
      if recovLow || s.boot.recoveryReq then
        ((s1.setFld R.BOOT_SLOTA F.BOOT_SLOTA_FIRST_FAIL 9).setFld R.BOOT_SLOTB F.BOOT_SLOTA_FIRST_FAIL 9).recover
          (if recovLow then 1 else 2)
      else
        let s2 := (s1.slotCheck 1).slotCheck 2
        let sel := s2.fld R.BOOT_SEL F.BOOT_SEL_SEL
        let used := (sel = 1 || sel = 2) && s2.candidate sel
        let cs := s2.bootOrder
        let s3 := if used && s2.flag R.BOOT_SEL F.BOOT_SEL_ONCE then s2.setFld R.BOOT_SEL F.BOOT_SEL_SEL 0 else s2
        s3.bootTry true cs)

/-! ### The boot self-test and the firmware's start (R194, R423, R424) -/

/-- An event that waits for FW_READY. -/
def State.bootEvent (s : State) (src mask : Nat) (p0 p1 p2 : Word) : State :=
  { s with boot := { s.boot with events := s.boot.events ++ [(src, mask, p0, p1, p2)] } }

/-- Units that failed the self-test are out of service. -/
def State.bootUnits (s : State) (fail : Nat) : State :=
  let cs := (List.range 16).filter (nbit fail)
  let ps := (List.range 4).filter (fun i => nbit fail (18 + i))
  let s1 := s.setFld R.LANE_STATE F.LANE_STATE_FAILED (setBits (s.fld R.LANE_STATE F.LANE_STATE_FAILED) (fail % 65536))
  let s2 := [0, 1].foldl (fun s e => if nbit fail (16 + e) then s.engSet e 5 else s) s1
  let s3 := s2.setFld R.SAFE_HEALTH F.SAFE_HEALTH_PIPE_OK (ps.foldl clrNbit (s2.fld R.SAFE_HEALTH F.SAFE_HEALTH_PIPE_OK))
  ({ s3 with boot := { s3.boot with
      bootFailClusters := cs
      bootFailPairs := ps } }).capSync

/-- City time starts from the saved anchor, or from the RTC, not valid (R346). -/
def State.bootTime (s : State) : State :=
  { s with time := { s.time with
      city32 := if s.save.ok && s.save.anchorValid then s.save.anchorCity else s.rtc * 32000000000
      rate := if s.save.ok && s.save.anchorValid then s.save.anchorRate else 0
      valid := false } }

/-- SAVE_OK is read and cleared (R194, R408): without it every outgoing checkpoint moves 1,048,576 on. -/
def State.bootSave (s : State) : State :=
  let s1 :=
    if s.save.ok then
      ((s.setFld R.KEY_STATUS F.KEY_STATUS_SAVE_EXACT 1).setFld R.SYS_RESET_CAUSE F.SYS_RESET_CAUSE_SAVED 1).bootEvent 9 0
        (w32 s.save.bytes) (w32 s.save.time) 0
    else
      let up (v : VaultSt) (e : Nat × CtrRec) : VaultSt :=
        { v with records := aset {} e.1 { e.2 with out := min 0xFFFFFFFF (e.2.out + 1048576) } v.records }
      let s' := ({ s with vault := s.vault.records.foldl up s.vault }).setFld R.KEY_STATUS F.KEY_STATUS_SAVE_EXACT 0
      (s'.ledger 0x0061 0 0 0 0).bootEvent 10 0xF (if s.save.busy then 1 else 0) 0 0
  { s1 with save := { s1.save with
      ok := false
      busy := false
      lostFirst := 0
      lostCount := 0 } }

/-- The gap that a reset has left in the Ledger (R389). -/
def State.bootGap (s : State) : State :=
  match s.boot.gapAtBoot with
  | none => s
  | some (first, n) => ((s.ledger 0x0070 0 first (w32 n) 0).bumpBy R.LOG_CNT_GAP n).bootEvent 8 0 first (w32 n) 0

/-- Partition KEKs are unwrapped into their WRAP slots (R180); with the secret zeroized none is loaded (R198). -/
def State.bootKeks (s : State) : State :=
  if s.flag R.KEY_TAMPER_STAT F.KEY_TAMPER_STAT_ZEROIZED then s
  else
    [0, 1, 2, 3].foldl (fun s p =>
      if (aget [] p s.vault.keks).isEmpty then s
      else
        match s.keyLoad (.kek p) with
        | some (.ok s1) => s1
        | _ => { s with vault := { s.vault with keks := aset [] p [] s.vault.keks } }) s

/-- What the vault has to report (R198, R199, R412); the first boot makes its secret (R180). -/
def State.bootVault (s : State) : State :=
  let s1 := if s.pwr.vbatLost then
      ((s.setFld R.KEY_STATUS F.KEY_STATUS_VAULT_CAUSE 1).setFld R.PWR_VAULT_STAT F.PWR_VAULT_STAT_VBAT_LOST 1).newSecret
    else if s.vault.made then s
    else s.newSecret
  let s2 := if s1.vault.tamperAtBoot ≠ 0 then s1.tamperReport else s1
  { s2 with
    pwr := { s2.pwr with vbatLost := false }
    vault := { s2.vault with tamperAtBoot := 0 } }

/-- IDs of Caravans that were open go into quarantine for 600 s from the boot (R269). -/
def State.bootCaravans (s : State) : State :=
  let quar := s.cvnIds.openIds.foldl (fun m e => aset (0, 0, 0) e.1 (e.2.1, e.2.2, s.citySec + 600 + 1) m) s.cvnIds.quar
  ({ s with cvnIds := { s.cvnIds with
      quar := quar
      openIds := [] } }).cvnSync

/-- Quiet held in MRAM (R378), and the Quiet of an F-die that lost its power alone (R400). -/
def State.bootQuiet (s : State) : State :=
  let s1 :=
    if s.inQuiet then
      let l := setNbit (s.fld R.SAFE_CAUSE F.SAFE_CAUSE_LATCHED) 14
      let s' := (s.cutAir.setFld R.SAFE_CAUSE F.SAFE_CAUSE_LATCHED l).setFld R.SAFE_STATE F.SAFE_STATE_DRIVE_F 1
      let s'' := { s' with safe := { s'.safe with dacMuted := true } }
      (s''.ledger 0x0001 14 (w32 l) (w32 (s.fld R.SAFE_CAUSE F.SAFE_CAUSE_LIVE)) 0).bootEvent 0 0xF (w32 l) 1 14
    else s
  let s2 := if s1.pwr.fLost then (if s1.passUp then (s1.quiet 1).quietOver 1 else s1.quiet 1) else s1
  { s2 with pwr := { s2.pwr with fLost := false } }

/-- A VAULT exit is a change of the power state (R393): POWER_STATE names RUN after VAULT, a wake event as its cause, and what woke the vault. -/
def State.bootWake (s : State) : State :=
  if !s.pwr.vaultWake then s
  else
    let s1 := s.bootEvent 29 0 0 4 (w32 (2 + s.pwr.vaultCode * 256))
    { s1 with pwr := { s1.pwr with
        vaultWake := false
        vaultCode := 0 } }

/-- GiB of DRAM that the board fits: 4 to 16 (R28). -/
def dramGiB : Nat := 4 + Config.dramGib % 13

/-- MiB of DRAM that inline SECDED leaves of the GiB fitted: it takes 1/16 (R28). -/
def dramUsable (gib : Nat) : Nat := gib * 1024 / 16 * 15

/-- Sizes in MiB of the DRAM regions in their order (R28): node records, wrapped keys, queue spill, LPM mode H tables, group membership
lists, Caravan bitmaps, image stores, Trail, firmware. -/
def dramSizes (spill : Nat) : List Nat := [128, 64, spill, 128, 32, 16, 128, 8, 256]

/-- Base and size of each region in MiB, placed from an address upward. -/
def dramPlace : Nat → List Nat → List (Nat × Nat)
  | _, [] => []
  | a, n :: ns => (a, n) :: dramPlace (a + n) ns

/-- DRAM and the spill region as the boot finds them; the index hashes get new seeds (R28, R207, R286). -/
def State.bootMemory (s : State) : State :=
  let s1 := s.wr R.SYS_DRAM (w32 (dramGiB + 32))
  let spill := min 1024 (s1.fld R.QMG_SPILL_CFG F.QMG_SPILL_CFG_NEXT_MIB)
  let s1' := { s1 with boot := { s1.boot with regions := dramPlace 0 (dramSizes spill), dramUse := dramUsable dramGiB } }
  let s2 := s1'.setFld R.QMG_SPILL_CFG F.QMG_SPILL_CFG_SIZE_MIB spill
  let (a1, s3) := s2.free!
  let (a2, s4) := s3.free!
  let (b1, s5) := s4.free!
  let (b2, s6) := s5.free!
  { s6 with dir := { s6.dir with
      a := { s6.dir.a with seed1 := w32 a1, seed2 := w32 a2 }
      b := { s6.dir.b with seed1 := w32 b1, seed2 := w32 b2 } } }

/-- What the firmware does between the self-test and FW_READY. -/
def State.bootFinish (s : State) : State :=
  let s1 := s.bootMemory.bootTime.bootSave.bootGap.bootVault.bootKeks.bootCaravans.poolSync.bootQuiet.bootWake
  let s2 := [0, 1, 2, 3].foldl (fun s a => s.bootEvent 11 0 (w32 a) 1 0) s1
  ({ s2 with boot := { s2.boot with gapAtBoot := none } }).sendMicrocode

/-- Regions whose signature is not that of the image's section 7, a bit for each (R424, R435). -/
def State.bootFails (s : State) (sigs : List (BitVec 128)) : Nat :=
  (List.range 32).foldl (fun f r => if s.bistGood r 3 (sigs.getD r 0) then f else setNbit f r) 0

/-- BOOT_SELFTEST_DONE: the signatures of the 32 regions are compared with the image's (R424, R435). -/
def execBootSelftestDone (sigs : List (BitVec 128)) (s : State) : Host.Outcome State Fault Refusal :=
  .next (
    if s.pwr.fHeld || s.boot.booting || s.boot.mode = 0 || s.boot.selfTestDone then s
    else
      let f := s.bootFails sigs
      let s1 := s.wr R.BIST_BOOT_FAIL (w32 f)
      if 2 ^ 22 ≤ f || bitsAt (w32 f) 16 2 = 3 || bitsAt (w32 f) 18 4 = 15 then s1.recover 4
      else
        let s2 := s1.bootUnits f
        ({ s2 with boot := { s2.boot with selfTestDone := true } }).bootFinish)

/-! ### Attempt counts, anti-rollback and slot selection (R422, R425, R426) -/

/-- TRIES_CLEAR_TIMER: `FW_READY` has been 1 for 60 s. -/
def execTriesClearTimer (s : State) : Host.Outcome State Fault Refusal :=
  .next (
    match s.boot.readySince with
    | none => s
    | some t =>
      let s1 := s.advanceTo (t + sec 60)
      let s2 := { s1 with boot := { s1.boot with readySince := none } }
      if s2.boot.mode = 1 || s2.boot.mode = 2 then s2.setTries s2.boot.mode 0 else s2)

/-- A guarded write of a `BOOT` register (R438). -/
def State.bootGuarded (s : State) (p k : Nat) (data : Word) (ok : State → State) : State :=
  s.guarded p k data (fun s => if p ≠ 0 then s.err R.BOOT_ERR F.BOOT_ERR_PART_WRITE else ok s)

/-- A write of `BOOT_RB`. -/
def State.rollbackWrite (s : State) (p : Nat) (data : Word) : State :=
  s.bootGuarded p R.BOOT_RB data (fun s =>
    let svn := s.fld R.BOOT_STATUS F.BOOT_STATUS_RUN_SVN
    if !bitAt data 0 || s.boot.mode = 3 || svn ≤ s.boot.fuseF || s.flag R.BOOT_RB F.BOOT_RB_BLOWING then s
    else { s.setFld R.BOOT_RB F.BOOT_RB_BLOWING 1 with boot := { s.boot with fuseTarget := svn } })

def execRollbackCommit (p : Part) (data : Word) (s : State) : Host.Outcome State Fault Refusal := .next (s.rollbackWrite p.val data)

/-- FUSE_BLOW_DONE. -/
def execFuseBlowDone (s : State) : Host.Outcome State Fault Refusal :=
  .next (
    if !s.flag R.BOOT_RB F.BOOT_RB_BLOWING then s
    else { s.setFld R.BOOT_RB F.BOOT_RB_BLOWING 0 with boot := { s.boot with fuseF := max s.boot.fuseF s.boot.fuseTarget } })

/-- A write of `BOOT_SEL`: a `SEL` of 3 refuses the write; `CLR_TRIES_A` and `CLR_TRIES_B` clear attempt counts. -/
def State.bootSelWrite (s : State) (p : Nat) (data : Word) : State :=
  s.bootGuarded p R.BOOT_SEL data (fun s =>
    if bitsAt data 0 2 = 3 then s.err R.BOOT_ERR F.BOOT_ERR_SEL_INVALID
    else
      let s1 := s.wr R.BOOT_SEL (data &&& 7)
      let s2 := if bitAt data 3 then s1.setTries 1 0 else s1
      if bitAt data 4 then s2.setTries 2 0 else s2)

def execBootSelect (p : Part) (data : Word) (s : State) : Host.Outcome State Fault Refusal := .next (s.bootSelWrite p.val data)
def execClrTriesA (p : Part) (data : Word) (s : State) : Host.Outcome State Fault Refusal :=
  .next (s.bootSelWrite p.val (fset F.BOOT_SEL_CLR_TRIES_A data 1))
def execClrTriesB (p : Part) (data : Word) (s : State) : Host.Outcome State Fault Refusal :=
  .next (s.bootSelWrite p.val (fset F.BOOT_SEL_CLR_TRIES_B data 1))

end Sys2Proof.Machine
end

