-- ==== Sys2Proof/Machine/Smivi.lean ====
section
/-! DEFINITION. The Smivi port (R427 to R433). A command row is a command frame with a good `CHECK`; its payload fields are operands.
SMIVI_INVALID_COMMAND carries the octets of any transaction. -/

namespace Sys2Proof.Machine

/-! Status codes of R429. -/

abbrev smOK : Nat := 1
abbrev smCRC_ERR : Nat := 2
abbrev smBAD_OPCODE : Nat := 3
abbrev smBAD_PARAM : Nat := 4
abbrev smDENIED : Nat := 5
abbrev smFLASH_ERR : Nat := 6
abbrev smINVALID_IMAGE : Nat := 7
abbrev smBUSY : Nat := 8

/-- A response becomes ready and SMV_ATTN is driven high. -/
def State.smReply (s : State) (status : Nat) (seq : Byte) (payload : List Byte) : State :=
  { s with boot := { s.boot with resp := some (smiviFrame status seq payload) } }

/-- Neither firmware nor recovery is running (R431). -/
def State.smBusy (s : State) : Bool := s.boot.booting || (s.boot.mode ≠ 0 && !s.boot.selfTestDone)

/-- A command frame arrives (R431): it is discarded while a command runs or its response has not been read, and answered BUSY during the
boot. A held F-die has no port. -/
def State.smivi (s : State) (seq : Byte) (run : State → State) : State :=
  if s.pwr.fHeld || s.boot.resp.isSome || s.boot.op.isSome then s
  else if s.smBusy then s.smReply smBUSY seq []
  else run s

/-- IDENT. -/
def State.smIdent (s : State) (seq : Byte) : State :=
  s.smivi seq (fun s => s.smReply smOK seq s.identPayload)

/-- IDENT: who the chip is. -/
def execIdent (seq : Byte) (s : State) : Host.Outcome State Fault Refusal := .next (s.smIdent seq)

/-- The SLOTS entry of a slot. -/
def State.slotInfo (s : State) (slot : Nat) : List Byte :=
  be 4 (s.rd (slotVer slot)).toNat ++
    [BitVec.ofNat 8 (s.fld (slotReg slot) F.BOOT_SLOTA_SVN), BitVec.ofNat 8 (s.fld (slotReg slot) F.BOOT_SLOTA_FIRST_FAIL),
      BitVec.ofNat 8 (s.tries slot), BitVec.ofNat 8 (s.fld (slotReg slot) F.BOOT_SLOTA_CHANGED)]

/-- SLOTS. -/
def State.smSlots (s : State) (seq : Byte) : State :=
  s.smivi seq (fun s => s.smReply smOK seq (s.slotInfo 1 ++ s.slotInfo 2))

/-- SLOTS: the two slots. -/
def execSlots (seq : Byte) (s : State) : Host.Outcome State Fault Refusal := .next (s.smSlots seq)

/-- A slot octet of a command, 0 slot A and 1 slot B (PRESUMED, log entry 74), may be written (R430). -/
def State.smMayWrite (s : State) (slot : Byte) : Bool := s.boot.mode = 0 || s.boot.mode = 3 || s.boot.mode ≠ slot.toNat + 1

/-- A range lies in a slot. -/
def smRange (slot : Byte) (off n : Nat) : Bool := slot.toNat < 2 && off + n ≤ slotSize

/-- An erase or a program starts; its response follows with FLASH_OP_DONE. -/
def State.smFlash (s : State) (seq : Byte) (slot : Byte) (off n opcode : Nat) (data : List Byte) (good : Bool) : State :=
  if !good then s.smReply smBAD_PARAM seq []
  else if !s.smMayWrite slot then s.smReply smDENIED seq []
  else { s with boot := { s.boot with op := some ⟨opcode, seq, slotBase slot.toNat + off, data, n⟩ } }

/-- FLASH_ERASE: slot, first sector, sector count. -/
def State.smErase (s : State) (seq slot : Byte) (first count : BitVec 16) : State :=
  s.smivi seq (fun s =>
    s.smFlash seq slot (65536 * first.toNat) (65536 * count.toNat) 0x10 [] (smRange slot (65536 * first.toNat) (65536 * count.toNat)))

/-- FLASH_ERASE of sectors of a slot. -/
def execFlashErase (seq slot : Byte) (first count : BitVec 16) (s : State) : Host.Outcome State Fault Refusal := .next (s.smErase seq slot first count)

/-- FLASH_WRITE: slot, offset, data. -/
def State.smWrite (s : State) (seq slot : Byte) (off : Word) (data : List Byte) : State :=
  s.smivi seq (fun s =>
    s.smFlash seq slot off.toNat data.length 0x11 data
      (smRange slot off.toNat data.length && off.toNat % 256 = 0 && 1 ≤ data.length && data.length ≤ 1024))

/-- FLASH_WRITE of octets of a slot. -/
def execFlashWrite (seq slot : Byte) (off : Word) (data : List Byte) (s : State) : Host.Outcome State Fault Refusal := .next (s.smWrite seq slot off data)

/-- FLASH_READ: slot, offset, length. -/
def State.smRead (s : State) (seq slot : Byte) (off : Word) (len : BitVec 16) : State :=
  s.smivi seq (fun s =>
    if smRange slot off.toNat len.toNat && 1 ≤ len.toNat && len.toNat ≤ 1024 then
      s.smReply smOK seq (storeOctets 0xFF s.boot.flash (slotBase slot.toNat + off.toNat) len.toNat)
    else s.smReply smBAD_PARAM seq [])

/-- FLASH_READ of octets of a slot. -/
def execFlashRead (seq slot : Byte) (off : Word) (len : BitVec 16) (s : State) : Host.Outcome State Fault Refusal := .next (s.smRead seq slot off len)

/-- SLOT_CRC: slot, offset, length. -/
def State.smSlotCrc (s : State) (seq slot : Byte) (off len : Word) : State :=
  s.smivi seq (fun s =>
    if smRange slot off.toNat len.toNat then
      s.smReply smOK seq (be 4 (crc32c (storeOctets 0xFF s.boot.flash (slotBase slot.toNat + off.toNat) len.toNat)).toNat)
    else s.smReply smBAD_PARAM seq [])

/-- SLOT_CRC over octets of a slot. -/
def execSlotCrc (seq slot : Byte) (off len : Word) (s : State) : Host.Outcome State Fault Refusal := .next (s.smSlotCrc seq slot off len)

/-- Octets of a range become erased. -/
def flashErased (addr n : Nat) (m : List (Nat × Byte)) : List (Nat × Byte) := m.filter (fun e => !(addr ≤ e.1 && e.1 < addr + n))

/-- FLASH_OP_DONE: the NOR has finished; `ok` is false when it reported an error or the read-back failed, and the octets are then free
values, as they are where the program met data that was not erased. An erase of a slot's first sector clears its attempt count (R422). -/
def execFlashOpDone (ok : Bool) (s : State) : Host.Outcome State Fault Refusal :=
  .next (
    match s.boot.op with
    | none => s
    | some o =>
      let slot := o.addr / slotSize + 1
      let s1 := ({ s with boot := { s.boot with op := none } }).setFld (slotReg slot) F.BOOT_SLOTA_CHANGED 1
      let clean := o.opcode = 0x10 || (storeOctets 0xFF s.boot.flash o.addr o.count).all (fun b => b = 0xFF)
      if !(ok && clean) then (s1.flashFree o.addr o.count).smReply smFLASH_ERR o.seq []
      else if o.opcode = 0x10 then
        let s2 := { s1 with boot := { s1.boot with flash := flashErased o.addr o.count s1.boot.flash } }
        (if o.addr % slotSize = 0 && o.count ≠ 0 then s2.setTries slot 0 else s2).smReply smOK o.seq []
      else
        ({ s1 with boot := { s1.boot with flash := octetsPut 0xFF o.addr o.data s1.boot.flash } }).smReply smOK o.seq [])

/-- RAM_LOAD: offset, data (R433). -/
def State.smRamLoad (s : State) (seq : Byte) (off : Word) (data : List Byte) : State :=
  s.smivi seq (fun s =>
    if 16777216 < off.toNat + data.length || data.isEmpty || 1024 < data.length then s.smReply smBAD_PARAM seq []
    else if s.boot.mode ≠ 0 then s.smReply smDENIED seq []
    else ({ s with boot := { s.boot with staging := octetsPut 0 off.toNat data s.boot.staging } }).smReply smOK seq [])

/-- RAM_LOAD into the staging buffer. -/
def execRamLoad (seq : Byte) (off : Word) (data : List Byte) (s : State) : Host.Outcome State Fault Refusal := .next (s.smRamLoad seq off data)

/-- RAM_RUN: the staged image is checked and started (R433). -/
def State.smRamRun (s : State) (seq : Byte) : State :=
  s.smivi seq (fun s =>
    if s.boot.mode ≠ 0 then s.smReply smDENIED seq []
    else
      let k := s.imageFail 3
      if k ≠ 0 then s.smReply smINVALID_IMAGE seq [BitVec.ofNat 8 k]
      else
        let m := s.manifest 3
        let s1 := (s.setFld R.SYS_RESET_CAUSE F.SYS_RESET_CAUSE_KIND 9).imageStart 3 (manSvn m) (manVersion m) false
        let s2 := s1.setFld R.SAFE_STATE F.SAFE_STATE_DRIVE_F (if s1.inQuiet then 1 else 0)
        ({ s2 with safe := { s2.safe with dacMuted := s2.inQuiet } }).smReply smOK seq [])

/-- RAM_RUN of the staged image. -/
def execRamRun (seq : Byte) (s : State) : Host.Outcome State Fault Refusal := .next (s.smRamRun seq)

/-- RESET: the response is sent first. -/
def State.smReset (s : State) (seq : Byte) : State :=
  s.smivi seq (fun s => ({ s with boot := { s.boot with resetAfter := true } }).smReply smOK seq [])

/-- RESET of the F-die. -/
def execSmiviReset (seq : Byte) (s : State) : Host.Outcome State Fault Refusal := .next (s.smReset seq)

/-- A command frame with a good `CHECK` runs its command (R430); a listed opcode with a payload that is not of its layout is answered BAD_PARAM
(DESIGN CHOICE, log entry 74). -/
def State.smRun (s : State) (opcode : Nat) (seq : Byte) (pl : List Byte) : State :=
  let slot := pl.getD 0 0
  let bad := s.smivi seq (fun s => s.smReply smBAD_PARAM seq [])
  match opcode with
  | 0x01 => if pl.length = 0 then s.smIdent seq else bad
  | 0x02 => if pl.length = 0 then s.smSlots seq else bad
  | 0x10 => if pl.length = 5 then s.smErase seq slot (BitVec.ofNat 16 (beAt pl 1 2)) (BitVec.ofNat 16 (beAt pl 3 2)) else bad
  | 0x11 => if 6 ≤ pl.length then s.smWrite seq slot (w32 (beAt pl 2 4)) (pl.drop 6) else bad
  | 0x12 => if pl.length = 8 then s.smRead seq slot (w32 (beAt pl 2 4)) (BitVec.ofNat 16 (beAt pl 6 2)) else bad
  | 0x13 => if pl.length = 10 then s.smSlotCrc seq slot (w32 (beAt pl 2 4)) (w32 (beAt pl 6 4)) else bad
  | 0x20 => if 4 ≤ pl.length then s.smRamLoad seq (w32 (beAt pl 0 4)) (pl.drop 4) else bad
  | 0x21 => if pl.length = 0 then s.smRamRun seq else bad
  | 0x30 => if pl.length = 0 then s.smReset seq else bad
  | _ => s.smivi seq (fun s => s.smReply smBAD_OPCODE seq [])

/-- The octets of a command frame (R428): `OPCODE`, `SEQ`, `LEN`, the payload and `CHECK`, which is CRC-32C over all before it. A `LEN` above 1,030,
a wrong `CHECK` or a frame that ends before its `CHECK` is answered CRC_ERR (R429). -/
def State.smFrame (s : State) (f : List Byte) : State :=
  let seq := f.getD 1 0
  let len := beAt f 2 2
  let body := f.take (4 + len)
  if f.length < 8 + len || 1030 < len || beAt f (4 + len) 4 ≠ (crc32c body).toNat then s.smivi seq (fun s => s.smReply smCRC_ERR seq [])
  else s.smRun (f.getD 0 0).toNat seq (body.drop 4)

/-- A READ returns the response that is ready, or `STATUS` NONE and zeros, of which the model sends a frame's eight octets (R428); a RESET that
has been answered takes effect. -/
def State.smRespond (s : State) : State :=
  if s.pwr.fHeld then s
  else
    let reset := s.boot.resetAfter && s.boot.resp.isSome
    let s1 := { s with boot := { s.boot with
      sent := s.boot.resp.getD (List.replicate 8 0)
      resp := none
      resetAfter := s.boot.resetAfter && !reset } }
    if reset then s1.requestReset 2 else s1

/-- SMIVI_RESPONSE_READ: the master reads a response. -/
def execSmiviResponseRead (s : State) : Host.Outcome State Fault Refusal := .next s.smRespond

/-- SMIVI_INVALID_COMMAND: a transaction of the port, as the octets that the master sends (R427): the TXN octet 0xA5 and a command frame, 0x5A for
a READ, or another TXN value, which ends the transaction without effect. -/
def execSmiviInvalidCommand (octets : List Byte) (s : State) : Host.Outcome State Fault Refusal :=
  .next (
    match octets with
    | [] => s
    | x :: f => if x = 0xA5 then s.smFrame f else if x = 0x5A then s.smRespond else s)

end Sys2Proof.Machine
end

