-- ==== Sys2Proof/Machine/RegAccess.lean ====
section
/-! DEFINITION. Host accesses to registers: windows, banks and aliases, access codes, guarded writes, partition rules, and the register
messages of the Pass (R14, R20, R21, R308, R309, R439 to R455). -/

namespace Sys2Proof.Machine

/-! ### Decoding (R444, R446) -/

/-- Decode width D of each block (R444). -/
def decodeWidth : List Nat :=
  [8, 8, 12, 10, 8, 10, 8, 8, 8, 8, 12, 8, 10, 10, 8, 8, 10, 8, 8, 10, 12, 10, 8, 10, 8, 12, 8, 8, 8, 8, 8]

/-- The block that a window shows under a bank; `none` for a window that the bank leaves empty (R443, R444). -/
def windowBlock (bank w : Nat) : Option Nat :=
  if w < 4 then some w
  else match bank with
    | 0 => if w < 14 then some w else none
    | 1 => if w < 14 then some (w + 10) else none
    | _ => if w < 11 then some (w + 20) else none

/-- The register address (R447) of a BAR0 offset: window offset bits [D - 1:2] in the block that the partition's bank shows. -/
def State.barAddr (s : State) (p off : Nat) : Option Nat :=
  (windowBlock (s.fld (R.SYS_BANK p) F.SYS_BANK_BANK) (off / 4096 % 16)).map (fun b =>
    b * 4096 + off % 4096 % 2 ^ (decodeWidth.getD b 12) / 4 * 4)

/-- A row of the register map covers an address. -/
def rowCovers (r : RegRow) (a : Nat) : Bool :=
  r.base ≤ a && (a - r.base) / r.s1 < r.n1 && (a - r.base) % r.s1 % r.s2 = 0 && (a - r.base) % r.s1 / r.s2 < r.n2

/-- The register at an address. -/
def rowAt (a : Nat) : Option RegRow := regRows.find? (rowCovers · a)

/-- Key of a partition's view of a register. -/
def rowKey (r : RegRow) (p a : Nat) : Nat := if r.perPart then a + 0x20000 * (p + 1) else a

/-- A register of which some field is RWL (R442, R448). -/
def rowGuarded (r : RegRow) : Bool := r.rwl != 0

/-! ### Access codes (R439 to R442) -/

/-- What a write stores: writable fields take the data, W1C flags written with 1 clear, everything else stays. -/
def plainWord (r : RegRow) (old data : Word) : Word :=
  let m := r.rw ||| r.rwl
  ((old &&& ~~~m) ||| (data &&& m)) &&& ~~~(data &&& r.w1c)

/-- What a read returns: WO fields and reserved bits read 0. -/
def plainRead (r : RegRow) (v : Word) : Word := v &&& (r.rw ||| r.w1c ||| r.rc ||| r.rwl ||| r.ro)

/-- A write that the block's partition rule refuses sets the block's `PART_WRITE`. -/
def State.partRefuse (s : State) (p a : Nat) : State :=
  match a / 4096 with
  | 0 => s.err (R.SYS_ERR p) F.SYS_ERR_PART_WRITE
  | 1 => s.err (R.PART_ERR p) F.PART_ERR_PART_WRITE
  | 2 => s.err (R.RING_ERR p) F.RING_ERR_PART_WRITE
  | 4 | 5 => s.err R.RFP_ERR F.RFP_ERR_PART_WRITE
  | 6 | 7 | 8 | 9 => s.err R.SRCH_ERR F.SRCH_ERR_PART_WRITE
  | 10 => s.err R.SLOT_ERR F.SLOT_ERR_PART_WRITE
  | 11 | 12 => s.err R.LINK_ERR F.LINK_ERR_PART_WRITE
  | 13 => s.err R.KEY_ERR F.KEY_ERR_PART_WRITE
  | 14 => s.err R.NDIR_ERR F.NDIR_ERR_PART_WRITE
  | 15 => s.err R.LPM_ERR F.LPM_ERR_PART_WRITE
  | 16 => s.err R.MESH_ERR F.MESH_ERR_PART_WRITE
  | 17 => s.err R.CVN_ERR F.CVN_ERR_PART_WRITE
  | 18 => s.err R.IMG_ERR F.IMG_ERR_PART_WRITE
  | 19 => s.err R.QMG_ERR F.QMG_ERR_PART_WRITE
  | 20 => s.err R.SHP_ERR F.SHP_ERR_PART_WRITE
  | 21 => s.err R.ETH_ERR F.ETH_ERR_PART_WRITE
  | 22 => s.err R.PRP_ERR F.PRP_ERR_PART_WRITE
  | 23 => s.err R.PTP_ERR F.PTP_ERR_PART_WRITE
  | 25 => s.err R.TMR_ERR F.TMR_ERR_PART_WRITE
  | 26 => s.err R.SAFE_ERR F.SAFE_ERR_PART_WRITE
  | 27 => s.err R.LOG_ERR F.LOG_ERR_PART_WRITE
  | 28 => s.err R.PWR_ERR F.PWR_ERR_PART_WRITE
  | 29 => s.err R.BOOT_ERR F.BOOT_ERR_PART_WRITE
  | 30 => s.err R.BIST_ERR F.BIST_ERR_PART_WRITE
  | _ => s

/-- A partition owns some enabled PAN: it may use the address and staging registers of what it may write (R131, R254; DEDUCED, log entry
77). -/
def State.ownsPan (s : State) (p : Nat) : Bool := (List.range 8).any (fun i => s.flag (R.PAN_CTRL i) F.PAN_CTRL_ENABLE && s.panOwner i = p)

/-- The partition rules of registers with no rule of their own (R73, R102, R131, R164, R201, R234, R254, R276, R303, R333, R365, R391,
R416, R438, R454): every partition writes its own copies but `PART_STATUS`, partition 0 everything, a PAN's owner that PAN's registers. -/
def State.mayPut (s : State) (p a : Nat) (r : RegRow) : Bool :=
  p = 0 || (r.perPart && a ≠ 0x1004) || (a / 4096 = 0 && a ≠ R.SYS_RESET && a ≠ R.SYS_DRAM_KEEP) ||
    (a / 4096 = 12 && s.panMay p (a % 4096 / 64)) ||
    (a / 4096 = 16 && 0x100 ≤ a % 4096 && a % 4096 < 0x200 && s.panMay p ((a % 4096 - 0x100) / 32)) ||
    ((a = R.MESH_CTX_ADDR || a = R.MESH_CTX_HI || a = R.MESH_CTX_LO || a = R.SLOT_CELL_ADDR || a = R.SLOT_CELL_DATA1) && s.ownsPan p) ||
    a = R.CVN_RING p

/-! ### Writes -/

/-- A write of a register that only stores. -/
def State.putPlain (s : State) (p a : Nat) (r : RegRow) (data : Word) : State :=
  if s.mayPut p a r then s.wr (rowKey r p a) (plainWord r (s.rd (rowKey r p a)) data) else s.partRefuse p a

/-- Writes of H-die registers that do more than store; `b` is the first register of the row, `i` and `j` its indices. -/
def State.putHost (s : State) (p b i : Nat) (data : Word) (plain : State) : State :=
  if b = 0 then s.lockWrite p data
  else if b = 4 then s.bankWrite p data
  else if b = R.PART_MAP then s.partMapWrite p data
  else if b = R.PART_RESET then s.partResetWrite p data
  else if b = 0x2100 then s.ringBaseWrite p i false data
  else if b = 0x2104 then s.ringBaseWrite p i true data
  else if b = 0x2108 then s.ringCfg p i data
  else if b = 0x2800 then s.doorbell p i data
  else if b = 0x3004 then
    { s with host := { s.host with
        route := aset 0 (routeKey p (s.fld (R.EVT_ROUTE_ADDR p) F.EVT_ROUTE_ADDR_SOURCE)) (data.toNat % 64) s.host.route } }
  else if b = R.SHP_GCL_DATA then s.gclWrite p data
  else if b = R.SHP_GCL_CTRL 0 then s.gclCtrl p i data
  else if b = R.ETH_MDIO then s.mdioWrite p data
  else if b = R.ETH_CFG 0 then s.ethCfg p i data
  else if b = R.ETH_MAC_LO 0 then s.ethMacWrite p i (R.ETH_MAC_LO i) data
  else if b = R.ETH_MAC_HI 0 then s.ethMacWrite p i (R.ETH_MAC_HI i) (data &&& 0xFFFF)
  else if b = R.PRP_CFG then s.prpCfg p data
  else plain

/-- Writes of the RF, array and receive registers. -/
def State.putRadio (s : State) (p b i j : Nat) (data : Word) (plain : State) : State :=
  if b = R.RFP_BANDPLAN then s.bandPlan p data
  else if b = R.ARR_CFG 0 then s.arrCfg p i data
  else if b = R.ARR_WIN 0 0 then s.winWrite p i j data
  else if b = R.ARR_BLANK 0 then s.blankWrite p i data
  else if b = R.ARR_BEAM 0 then s.beamCfg p i data
  else if b = R.ARR_WADDR then s.waddrWrite p data
  else if b = R.ARR_WDATA then s.weightWrite p data
  else if b = R.ARR_WCOMMIT then s.weightCommit p data
  else if b = R.ARR_CAL_CTRL then s.calCtrl p data
  else if b = R.SRCH_LP_DATA0 then s.lpWrite p data
  else if b = R.SRCH_PROF_DATA then s.profileWrite p data
  else if b = R.LANE_CFG then s.laneCfg p data
  else plain

/-- Writes of the slot engine's registers. -/
def State.putSlot (s : State) (p b i : Nat) (data : Word) (plain : State) : State :=
  if b = R.SLOT_CFG then s.slotCfg p data
  else if b = R.SLOT_CTRL then s.slotCtrl p data
  else if b = R.SLOT_EPOCH_S then s.epochWrite p R.SLOT_EPOCH_S data
  else if b = R.SLOT_EPOCH_NS then s.epochWrite p R.SLOT_EPOCH_NS (data &&& 0x3FFFFFFF)
  else if b = R.SLOT_TPL_W0 0 then s.tplWrite p i (R.SLOT_TPL_W0 i) (data &&& 0x1FFFF)
  else if b = R.SLOT_TPL_W1 0 then s.tplWrite p i (R.SLOT_TPL_W1 i) (data &&& 0x1FFFF)
  else if b = R.SLOT_TPL_W2 0 then s.tplWrite p i (R.SLOT_TPL_W2 i) (data &&& 0x1FFF1FFF)
  else if b = R.SLOT_TPL_W3 0 then s.tplWrite p i (R.SLOT_TPL_W3 i) (data &&& 0x1FFFF)
  else if b = R.SLOT_TPL_W4 0 then s.tplWrite p i (R.SLOT_TPL_W4 i) (data &&& 0x1FFF)
  else if b = R.SLOT_HOP_CH0 0 then s.hopPlanWrite p i (R.SLOT_HOP_CH0 i) (data &&& 0x1FFFFFF)
  else if b = R.SLOT_HOP_CFG 0 then s.hopPlanWrite p i (R.SLOT_HOP_CFG i) (data &&& 0x3FFFFFF)
  else if b = R.SLOT_HOP_DATA then s.hopWrite p data
  else if b = R.SLOT_SF_W0 0 then s.sfWrite0 p i data
  else if b = R.SLOT_SF_W1 0 then s.sfWrite p i (R.SLOT_SF_W1 i) (data &&& 0xFFFF)
  else if b = R.SLOT_SF_W2 0 then s.sfWrite p i (R.SLOT_SF_W2 i) (data &&& 0xFFFFF)
  else if b = R.SLOT_CELL_DATA0 then s.cellWrite p data
  else plain

/-- Writes of the link, PAN, key, prefix, mesh, queue and shaping registers. -/
def State.putNet (s : State) (p b i : Nat) (data : Word) (plain : State) : State :=
  if b = R.LINK_TSRC01 then s.tsrcWrite p R.LINK_TSRC01 data
  else if b = R.LINK_TSRC23 then s.tsrcWrite p R.LINK_TSRC23 data
  else if b = R.LINK_NBR_DATA then s.nbrWrite p data
  else if b = R.PAN_CTRL 0 then s.panCtrl p i data
  else if b = R.PAN_ID 0 then s.panIdWrite p i data
  else if b = R.KEY_SLOT_ERASE then s.slotErase p data
  else if b = R.KEY_TAMPER_STAT then s.tamperClear p data
  else if b = R.KEY_PAN_CFG 0 then s.keyPanWrite p i false data
  else if b = R.KEY_PAN_DRV 0 then s.keyPanWrite p i true data
  else if b = R.LPM_MODE then s.lpmModeWrite p data
  else if b = R.MESH_TWIN_CFG then
    (if p = 0 && !(0x51 ≤ data.toNat % 256 && data.toNat % 256 ≤ 0x5F) then s.err R.MESH_ERR F.MESH_ERR_CTX_INVALID else plain)
  else if b = R.MESH_CTX_CFG then s.ctxWrite p data
  else if b = R.MESH_PAN_CFG 0 then
    (if s.panMay p i && (bitAt data 11 || bitAt data 12) && !s.ctx0Ok i then s.err R.MESH_ERR F.MESH_ERR_CTX_INVALID else plain)
  else if b = R.QMG_Q_ADDR then
    (if p = 0 && !queueValid (bitsAt data 0 16) then s.err R.QMG_ERR F.QMG_ERR_QUEUE_INVALID else plain)
  else if b = R.QMG_TAP 0 then
    (if p = 0 && 32912 ≤ bitsAt data 0 16 then s.err R.QMG_ERR F.QMG_ERR_QUEUE_INVALID else plain)
  else if b = R.QMG_Q_DATA then s.qEntryWrite p data
  else if b = R.QMG_FLUSH 0 - 0x20000 then s.flushWrite p data
  else if b = R.QMG_THRESH then plain.spill
  else if b = R.SHP_SH_DATA0 then s.shaperRateWrite p data
  else if b = R.SHP_SH_DATA1 then s.shaperBurstWrite p data
  else if b = R.SHP_POL_DATA then s.policerWrite p data
  else plain

/-- Writes of the time, safety, log, power and boot registers. -/
def State.putSys (s : State) (p b i : Nat) (data : Word) (plain : State) : State :=
  if b = R.SYS_RESET then s.sysReset p data
  else if b = R.TMR_SRC then s.srcWrite p data
  else if b = R.TMR_SET_CTRL then
    (if p ≠ 0 then plain
     else
      let s1 := if bitAt data 0 then s.timeSet p else s
      if bitAt data 1 then s1.timeAdjust p else s1)
  else if b = R.TMR_DOM_CFG 0 then plain.domEval
  else if b = R.TMR_PPS then s.ppsWrite p plain
  else if b = R.TMR_CTRL 0 then (if p = 0 && bitAt data 4 then plain.timerClear p i else plain)
  else if b = R.TMR_CMP_LO 0 then s.only0 p R.TMR_ERR F.TMR_ERR_PART_WRITE (s.setTimer i { s.timer i with stageC := data })
  else if b = R.TMR_PER_LO 0 then s.only0 p R.TMR_ERR F.TMR_ERR_PART_WRITE (s.setTimer i { s.timer i with stageP := data })
  else if b = R.TMR_CMP_HI 0 then s.compareWrite p i data
  else if b = R.TMR_PER_HI 0 then s.periodWrite p i data
  else if b = R.TMR_CAP_CFG 0 then s.capWrite p i data
  else if b = R.TMR_TOUT 0 then s.toutWrite p i data
  else if b = R.SAFE_CTRL then s.safeCtrl p data
  else if b = R.SAFE_DROVER 0 then s.droverWrite p i data
  else if b = R.LOG_LCTRL then s.lctrlWrite p data
  else if b = R.PWR_LAT_TOL 0 - 0x20000 then s.latWrite p data
  else if b = R.PWR_PERMIT then s.permitWrite p data
  else if b = R.PWR_FORCE then s.forceWrite p data
  else if b = R.BOOT_SEL then s.bootSelWrite p data
  else if b = R.BOOT_RB then s.rollbackWrite p data
  else plain

/-- A write of the register at an address takes effect on its die. An address that names no register ignores it (R446). -/
def State.regPut (s : State) (p a : Nat) (data : Word) : State :=
  match rowAt a with
  | none => s
  | some r =>
    let i := (a - r.base) / r.s1
    let j := (a - r.base) % r.s1 / r.s2
    let plain := if rowGuarded r then s.guarded p a data (fun s => s.putPlain p a r data) else s.putPlain p a r data
    if hostReg a then s.putHost p r.base i data plain
    else if a / 4096 < 10 && 4 ≤ a / 4096 then s.putRadio p r.base i j data plain
    else if a / 4096 = 10 then s.putSlot p r.base i data plain
    else if 11 ≤ a / 4096 && a / 4096 ≤ 20 then s.putNet p r.base i data plain
    else s.putSys p r.base i data plain

/-! ### Reads -/

/-- A read of a register that only stores: RC fields clear (R439). -/
def State.getPlain (s : State) (p a : Nat) (r : RegRow) : State :=
  let k := rowKey r p a
  let v := s.rd k
  (if r.rc = 0 then s else s.wr k (v &&& ~~~r.rc)).answer p (plainRead r v)

/-- The reading partition's own view (R304, R333): partition, port, function, `FW_READY` and `PASS_UP`. -/
def State.partStatus (s : State) (p : Nat) : Word :=
  let act := s.fld R.PART_MAP F.PART_MAP_ACTIVE
  let port := act / 4 ^ p % 4
  let fn := ((List.range p).filter (fun q => act / 4 ^ q % 4 = port)).length
  w32 (p + (if port = 1 then 4 else 0) + fn * 8 + (if s.host.fwReady then 32 else 0) + (if s.passUp then 64 else 0))

/-- Reads of H-die registers that do more than return a stored word. -/
def State.getHost (s : State) (p b i : Nat) (plain : State) : State :=
  if b = 0 then s.answer p (if s.unlocked p then 1 else 0)
  else if b = 0x1004 then s.answer p (s.partStatus p)
  else if b = 0x3004 then
    s.answer p (w32 (aget 0 (routeKey p (s.fld (R.EVT_ROUTE_ADDR p) F.EVT_ROUTE_ADDR_SOURCE)) s.host.route))
  else if b = R.SHP_GCL_DATA then
    (let e := s.fld R.SHP_GCL_ADDR F.SHP_GCL_ADDR_PORT
     let n := s.fld R.SHP_GCL_ADDR F.SHP_GCL_ADDR_ENTRY
     let s1 := s.answer p (s.gclEntry (s.fld R.SHP_GCL_ADDR F.SHP_GCL_ADDR_BANK) e n)
     if s.flag R.SHP_GCL_ADDR F.SHP_GCL_ADDR_AUTOINC then s1.setFld R.SHP_GCL_ADDR F.SHP_GCL_ADDR_ENTRY ((n + 1) % 256) else s1)
  else if b = R.ETH_MAC_LO 0 then s.answer p (s.rd (R.ETH_MAC_LO i) ^^^ macMask (R.ETH_MAC_LO i))
  else if b = R.ETH_MAC_HI 0 then s.answer p ((s.rd (R.ETH_MAC_HI i) ^^^ macMask (R.ETH_MAC_HI i)) &&& 0xFFFF)
  else if b = R.PTP_NOW_S then s.answer p (w32 (s.hCityNs / 1000000000))
  else if b = R.PTP_NOW_NS then s.answer p (w32 (s.hCityNs % 1000000000 + (if s.time.valid then 2 ^ 31 else 0)))
  else if b = R.PTP_TXTS_POP 0 then s.txtsPop p i
  else plain

/-- Reads of the RF, array and receive registers. -/
def State.getRadio (s : State) (p b i : Nat) (plain : State) : State :=
  if b = R.ARR_WDATA then s.weightRead p
  else if b = R.ARR_CAL_STATUS 0 then
    s.answer p (fset F.ARR_CAL_STATUS_AGE (s.rd (R.ARR_CAL_STATUS i)) (s.calAgeS i))
  else if b = R.ARR_STREAM_USE then s.answer p (w32 s.streamUse)
  else if b = R.SRCH_LP_DATA0 then s.lpRead p
  else if b = R.SRCH_PROF_DATA then
    s.answer p (aget 0 (4 * s.fld R.SRCH_PROF_ADDR F.SRCH_PROF_ADDR_PROFILE + s.fld R.SRCH_PROF_ADDR F.SRCH_PROF_ADDR_WORD) s.rx.prof)
  else if b = R.SRCH_STAT_DATA then s.statRead p
  else if b = R.LANE_PEEK then s.answer p s.lanePeek
  else if b = R.LANE_HIGHWATER then (s.answer p (s.rd R.LANE_HIGHWATER)).wr R.LANE_HIGHWATER (w32 (s.fld R.LANE_BUSY F.LANE_BUSY_BUSY))
  else plain

/-- Reads of the queue manager's and shaper's registers. -/
def State.getQueue (s : State) (p b : Nat) (plain : State) : State :=
  let q := s.fld R.QMG_Q_ADDR F.QMG_Q_ADDR_QUEUE
  let sh := (s.shaper (s.fld R.SHP_SH_ADDR F.SHP_SH_ADDR_SHAPER)).settle s.now
  let po := s.fld R.SHP_POL_ADDR F.SHP_POL_ADDR_POLICER
  let x := s.policer po
  if b = R.QMG_SPILL then s.answer p (w32 s.spillFree)
  else if b = R.QMG_HOST_CREDIT then s.answer p (s.rd (R.QMG_HOST_CREDIT_P p))
  else if b = R.QMG_Q_DATA then (s.answer p (s.queue q).entry).qAddrNext
  else if b = R.QMG_QINFO_CELLS then s.answer p (w32 (s.queue q).cells)
  else if b = R.QMG_QINFO_FRAMES then s.answer p (w32 (s.queue q).frames.length)
  else if b = R.QMG_QINFO_DROPS then (s.answer p (s.queue q).drops).setQueue q { s.queue q with drops := 0 }
  else if b = R.QMG_POP_WAIT then s.popWaitRead p
  else if b = R.QMG_POP_DATA then s.popDataRead p
  else if b = R.QMG_HIST_DATA then
    (let c := s.fld R.QMG_HIST_ADDR F.QMG_HIST_ADDR_CLASS
     let k := c * 32 + s.fld R.QMG_HIST_ADDR F.QMG_HIST_ADDR_KIND * 16 + s.fld R.QMG_HIST_ADDR F.QMG_HIST_ADDR_BIN
     let s1 := s.answer p (aget 0 k s.qmg.hist)
     { s1 with qmg := { s1.qmg with hist := aset 0 k 0 s1.qmg.hist } })
  else if b = R.SHP_SH_DATA0 then s.answer p (w32 (sh.rate + trunc 7 sh.adjust * 2 ^ 24))
  else if b = R.SHP_SH_DATA1 then s.answer p (w32 sh.burst)
  else if b = R.SHP_SH_LEVEL then s.answer p (w32 (trunc 32 (sh.level / 65536)))
  else if b = R.SHP_POL_DATA then
    s.answer p (w32 (match s.fld R.SHP_POL_ADDR F.SHP_POL_ADDR_WORD with
      | 0 => x.mode + (if x.aware then 2 else 0)
      | 1 => x.cir
      | 2 => x.pir
      | 3 => x.cbs
      | 4 => x.ebs
      | _ => 0))
  else if b = R.SHP_POL_CNT then
    (match s.fld R.SHP_POL_ADDR F.SHP_POL_ADDR_COLOUR with
     | 0 => (s.answer p x.green).setPolicer po { x with green := 0 }
     | 1 => (s.answer p x.yellow).setPolicer po { x with yellow := 0 }
     | 2 => (s.answer p x.red).setPolicer po { x with red := 0 }
     | _ => s.answer p 0)
  else plain

/-- Reads of the slot, link, key and mesh registers. -/
def State.getNet (s : State) (p b : Nat) (plain : State) : State :=
  let e := s.fld (R.KEY_CTR_ADDR p) F.KEY_CTR_ADDR_ENTRY
  if b = R.SLOT_CTRL then s.answer p (fset F.SLOT_CTRL_DOZE_ACTIVE (s.rd R.SLOT_CTRL) (if s.doze then 1 else 0))
  else if b = R.SLOT_CELL_DATA0 then s.cellRead p
  else if b = R.SLOT_HOP_DATA then s.hopRead p
  else if b = R.LINK_EUI_LO then s.answer p (w32 Config.linkEui.toNat)
  else if b = R.LINK_EUI_HI then s.answer p (w32 (Config.linkEui.toNat / 2 ^ 32))
  else if b = R.LINK_NBR_DATA then s.answer p (s.nbrRead p)
  else if b = R.KEY_CTR_DATA then s.answer p (if e < 8224 then w32 (s.ctr e).n else 0)
  else if b = R.KEY_CTR_INFO then s.answer p (if e < 8224 then s.ctrInfo e else 0)
  else if b = R.MESH_CTX_CFG then
    s.answer p (s.ctxWord (s.fld R.MESH_CTX_ADDR F.MESH_CTX_ADDR_PAN) (s.fld R.MESH_CTX_ADDR F.MESH_CTX_ADDR_CTX) 2)
  else plain

/-- The high half of a timer's count: latched by the read of the low half, else live (R357). -/
def State.countHigh (s : State) (p t : Nat) : State :=
  let x := s.timer t
  match x.latched with
  | some w => (s.setTimer t { x with latched := none }).answer p w
  | none => s.answer p (w32 (x.count s.now / 2 ^ 32))

/-- City seconds: latched by the read of the nanoseconds, else live (R357). -/
def State.timeHigh (s : State) (p : Nat) : State :=
  match s.time.latchS with
  | some w => ({ s with time := { s.time with latchS := none } }).answer p w
  | none => s.answer p (w32 s.citySec)

/-- Milliseconds since the last HEALTH, saturating (R376). -/
def State.peerAge (s : State) : Nat :=
  match s.safe.healthF with
  | some t => min 255 ((s.now - t) / ms 1)
  | none => 255

/-- Reads of the time, safety, log, power, boot and identity registers. -/
def State.getSys (s : State) (p b i : Nat) (plain : State) : State :=
  let x := s.timer i
  if b = R.SYS_ID then s.answer p (w32 (0xA17160 + (if Config.gradeI then 2 ^ 24 else 0)))
  else if b = R.SYS_CNT_CE_SRAM || b = R.SYS_CNT_CE_DRAM then
    (let (n, s1) := s.free!
     (s1.answer p (w32 (satAdd 32 (s.rd b).toNat n))).wr b 0)
  else if b = R.TMR_TIME_S then s.timeHigh p
  else if b = R.TMR_TIME_NS then s.timeRead p
  else if b = R.TMR_CNT_LO 0 then s.countRead p i
  else if b = R.TMR_CNT_HI 0 then s.countHigh p i
  else if b = R.TMR_CMP_LO 0 then s.answer p x.stageC
  else if b = R.TMR_PER_LO 0 then s.answer p x.stageP
  else if b = R.TMR_CMP_HI 0 then s.answer p (w32 (x.preC.getD x.c / 2 ^ 32))
  else if b = R.TMR_PER_HI 0 then s.answer p (w32 (x.preP.getD x.p / 2 ^ 32))
  else if b = R.SAFE_PEER then s.answer p (fset F.SAFE_PEER_AGE_MS (s.rd R.SAFE_PEER) s.peerAge)
  else if b = R.LOG_LDATA then s.logRead p false
  else if b = R.LOG_TDATA then s.logRead p true
  else if b = R.PWR_STATE then s.answer p (fset F.PWR_STATE_IDLE (s.rd R.PWR_STATE) (if s.idleNow then 1 else 0))
  else if b = R.PWR_RTC_S then s.answer p (w32 s.rtc)
  else if b = R.BOOT_STATUS then
    s.answer p (fset F.BOOT_STATUS_FUSE_SVN (fset F.BOOT_STATUS_LIFECYCLE (s.rd R.BOOT_STATUS) (if Config.lifecycleField then 1 else 0))
      s.boot.fuseF)
  else if b = R.BOOT_UNIT_ID 0 then s.answer p (w32 (Config.unitId.toNat / 2 ^ (32 * i)))
  else plain

/-- A read of the register at an address: its value goes to `readData`, and its side effects happen. An address that names no register
reads 0 (R446). -/
def State.regGet (s : State) (p a : Nat) : State :=
  match rowAt a with
  | none => s.answer p 0
  | some r =>
    let i := (a - r.base) / r.s1
    let plain := s.getPlain p a r
    if hostReg a then s.getHost p r.base i plain
    else if a / 4096 < 10 && 4 ≤ a / 4096 then s.getRadio p r.base i plain
    else if a / 4096 = 19 || a / 4096 = 20 then s.getQueue p r.base plain
    else if 10 ≤ a / 4096 && a / 4096 < 19 then s.getNet p r.base plain
    else s.getSys p r.base i plain

/-! ### BAR0 accesses (R14, R309, R443 to R451) -/

/-- A write of an F-die register goes across the Pass as REG_WR (R14, R21). -/
def State.writeSend (s : State) (p a : Nat) (data : Word) : State :=
  if (rowAt a).any rowGuarded then
    let (s1, g) := s.guardTake p
    (if g then s1 else s1.bump (R.SYS_CNT_GUARD p)).sendRegWr p a g data
  else s.sendRegWr p a false data

/-- Whether the H-die itself refuses a write of a `SYS` register of the F-die by its partition (R454). A guarded one that meets an armed lock is a
violation first (R451). -/
def State.sysRefuses (s : State) (p a : Nat) : Bool := p ≠ 0 && (a = R.SYS_DRAM_KEEP || (a = R.SYS_RESET && s.unlocked p))

/-- The refusal: a guarded write that its lock permits has consumed the unlock (R450). -/
def State.sysRefuse (s : State) (p a : Nat) : State := if a = R.SYS_RESET then (s.armLock p).partRefuse p a else s.partRefuse p a

/-- A host's write of a register. One of the H-die's is written within the H-die, which also checks the partition of a `SYS` write (R454). One of the
F-die's crosses the Pass as REG_WR: at once when
every earlier message of the H-die has been accepted, else in its order behind them or after the retrain (R14, R20); while the Pass is down
it is dropped (R309), and a guarded one has met its lock. -/
def State.barWrite (s : State) (p a : Nat) (data : Word) : State :=
  if hostReg a then s.regPut p a data
  else if s.sysRefuses p a then s.sysRefuse p a
  else match s.fAccess with
    | 0 => if s.passClear .h then (s.passCross .h).regPut p a data else s.writeSend p a data
    | 1 => s.writeSend p a data
    | _ =>
      if (rowAt a).any rowGuarded then
        let (s1, g) := s.guardTake p
        if g then s1 else s1.bump (R.SYS_CNT_GUARD p)
      else s

/-- A host writes a word at a BAR0 offset, with byte enables (R308, R309, R439 to R451). A partition mapped to no port has no register view
(R304). -/
def State.busWrite (s : State) (p off : Nat) (be : BitVec 4) (data : Word) : State :=
  if be ≠ 15 || !s.mapped p then s
  else match s.barAddr p off with
    | none => s
    | some a => s.barWrite p a data

/-- REGISTER_WRITE: a host's write of 32 bits, or of 64 bits, which is split in two, the lower address first; `high` holds the byte enables and data of
the upper word (R308). -/
def execRegisterWrite (p : Part) (off : BitVec 16) (be : BitVec 4) (data : Word) (high : Option (BitVec 4 × Word)) (s : State) :
    Host.Outcome State Fault Refusal :=
  .next (
    let s1 := s.busWrite p.val off.toNat be data
    match high with
    | none => s1
    | some h => s1.busWrite p.val (off.toNat + 4) h.1 h.2)

/-- A register read takes place at the F-die and is answered with REG_RSP; one that stalls at `QMG_POP_WAIT` is answered later (R292). -/
def State.fRead (s : State) (p a tag : Nat) : State :=
  let s1 := s.regGet p a
  let w := aget 0 p s1.host.readData
  let s2 := { s1 with host := { s1.host with readData := s.host.readData } }
  if a = R.QMG_POP_WAIT && s.qmg.popWait.length < s1.qmg.popWait.length then
    { s2 with qmg := { s2.qmg with popWait := s2.qmg.popWait.dropLast ++ (s2.qmg.popWait.getLast?.map (fun e => (e.1, some tag))).toList } }
  else s2.regRsp p tag w

/-- A host's read of a register. One of the F-die's crosses the Pass as REG_RD in its order behind every earlier message (R14, R20), waits
for a retrain (R309), or returns all ones. -/
def State.barRead (s : State) (p a : Nat) : State :=
  if hostReg a then s.regGet p a
  else if s.fAccess = 2 then s.answer p 0xFFFFFFFF
  else
    let tag := s.pass.hf.next.toNat
    let s1 := { s with host := { s.host with
      readTag := aset 0 p (tag + 1) s.host.readTag
      readAt := aset 0 p s.now s.host.readAt } }
    if s1.passClear .h then (s1.passCross .h).fRead p a tag else s1.passSend .h 0x07 p false 8 [w32 a, w32 tag]

/-- A host reads the word at a BAR0 offset; RC fields clear, and a read through an alias has every side effect (R439, R441, R446). -/
def State.busRead (s : State) (p off : Nat) : State :=
  if !s.mapped p then s
  else match s.barAddr p off with
    | none => s.answer p 0
    | some a => s.barRead p a

/-- The word read, or waited for, is the lower one of 64 bits. -/
def State.readSplit (s : State) (p : Nat) : State :=
  { s with host := { s.host with
      readLow := aset 0 p (aget 0 p s.host.readData) s.host.readLow
      readLowTag := aset 0 p (aget 0 p s.host.readTag) s.host.readLowTag
      readTag := aset 0 p 0 s.host.readTag } }

/-- READ_CLEAR: a host's read of 32 bits, or of 64 bits, which is split in two, the lower address first (R308). -/
def execReadClear (p : Part) (off : BitVec 16) (wide : Bool) (s : State) : Host.Outcome State Fault Refusal :=
  .next (
    let s1 := s.busRead p.val off.toNat
    if wide then (s1.readSplit p.val).busRead p.val (off.toNat + 4) else s1)

/-! ### REG_RD and REG_WR (R20, R21, R447) -/

/-- Bits [31:17] of an address are reserved and ignored (R9, R447). A register message that names block 31 or a block of the other die is malformed (R447). -/
def regAddrBad (d : Die) (a : Nat) : Bool := 31 ≤ a / 4096 || (match d with | .f => hostReg a | .h => !hostReg a)

/-- A malformed register message: `LEN` was right. -/
def State.regReject (s : State) (d : Die) (typ : Nat) (m : PassMsg) : State :=
  (s.passReject d typ m).setFld R.PASS_LAST_REJECT F.PASS_LAST_REJECT_LEN_ERR 0

/-- REG_RD arrives: it is answered with REG_RSP, after every earlier write of the partition, which took effect on arrival (R20). At the H-die
it reads an H-die register for the F-die (R17). -/
def execRegRd (d : Die) (m : PassMsg) (s : State) : Host.Outcome State Fault Refusal :=
  .next (s.passRx d 0x07 m (fun s =>
    let a := (wordAt m.payload 0).toNat % 0x20000
    let p := m.part % 4
    let tag := wordAt m.payload 1
    if regAddrBad d a then s.regReject d 0x07 m
    else match d with
      | .f => s.fRead p a tag.toNat
      | .h =>
        let s1 := s.regGet p a
        ({ s1 with host := { s1.host with readData := s.host.readData } }).passSend .h 0x09 p false 8 [tag, aget 0 p s1.host.readData]) id)

/-- The F-die applies a write under the `GUARD` bit of its message, not under the lock that the H-die holds (R21): the lock and
`SYS_CNT_GUARD` of the H-die stay as they are. -/
def State.withGuard (s : State) (p : Nat) (g : Bool) (f : State → State) : State :=
  let s0 := s.setFld (R.SYS_LOCK p) F.SYS_LOCK_UNLOCKED (if g then 1 else 0)
  let s1 := f { s0 with host := { s0.host with lockAt := aset 0 p (s.now + 1) s0.host.lockAt } }
  let s2 := (s1.wr (R.SYS_LOCK p) (s.rd (R.SYS_LOCK p))).wr (R.SYS_CNT_GUARD p) (s.rd (R.SYS_CNT_GUARD p))
  { s2 with host := { s2.host with lockAt := s.host.lockAt } }

/-- REG_WR arrives (R21, R447). At the F-die an unguarded write to a guarded register is a violation, also when the register is one of the
H-die's (R451). At the H-die the ring engine takes the flush of an RX ring (R289; PRESUMED address, log entry 4); any other register of its own it writes (R17). -/
def execRegWr (d : Die) (m : PassMsg) (s : State) : Host.Outcome State Fault Refusal :=
  .next (s.passRx d 0x08 m (fun s =>
    let a := (wordAt m.payload 0).toNat % 0x20000
    let data := wordAt m.payload 1
    let p := m.part % 4
    match d with
    | .f =>
      if !m.guard && (a = R.PART_MAP || a = R.PART_RESET) then s.guardRaise p (w32 a) false data
      else if regAddrBad .f a then s.regReject .f 0x08 m
      else s.withGuard p m.guard (fun s => s.regPut p a data)
    | .h =>
      if regAddrBad .h a then s.regReject .h 0x08 m
      else if 0x220C ≤ a && a < 0x230C && a % 16 = 0xC then s.heldFlush p ((a - 0x220C) / 16)
      else s.withGuard p m.guard (fun s => s.regPut p a data)) id)

end Sys2Proof.Machine
end

