-- ==== Sys2Proof/Machine/Dispatch.lean ====
section
/-! DEFINITION. One arm per command: the meaning each command has. -/

namespace Sys2Proof.Machine

/-- The effect of a command on everything but the queue. -/
def exec (i : Instr) (s : State) : Host.Outcome State Fault Refusal :=
  match i with
  | .registerWrite p off be data high => Sys2Proof.Machine.execRegisterWrite p off be data high s
  | .readClear p off wide => Sys2Proof.Machine.execReadClear p off wide s
  | .linkIdle d m => Sys2Proof.Machine.execLinkIdle d m s
  | .credit d m => Sys2Proof.Machine.execCredit d m s
  | .frameDn m faults => Sys2Proof.Machine.execFrameDn m faults s
  | .frameUp m => Sys2Proof.Machine.execFrameUp m s
  | .desc m => Sys2Proof.Machine.execDesc m s
  | .compl m => Sys2Proof.Machine.execCompl m s
  | .event m => Sys2Proof.Machine.execEvent m s
  | .regRd d m => Sys2Proof.Machine.execRegRd d m s
  | .regWr d m => Sys2Proof.Machine.execRegWr d m s
  | .regRsp d m => Sys2Proof.Machine.execRegRsp d m s
  | .timeSync m => Sys2Proof.Machine.execTimeSync m s
  | .tsReport m => Sys2Proof.Machine.execTsReport m s
  | .health d m => Sys2Proof.Machine.execHealth d m s
  | .healthSend d => Sys2Proof.Machine.execHealthSend d s
  | .healthTimeout d => Sys2Proof.Machine.execHealthTimeout d s
  | .safeAssert d m => Sys2Proof.Machine.execSafeAssert d m s
  | .bootLoad m => Sys2Proof.Machine.execBootLoad m s
  | .resetReq d m => Sys2Proof.Machine.execResetReq d m s
  | .passResendTimeout d => Sys2Proof.Machine.execPassResendTimeout d s
  | .bandplanWrite p data => Sys2Proof.Machine.execBandplanWrite p data s
  | .arrayEnable p a data => Sys2Proof.Machine.execArrayEnable p a data s
  | .arrayDisable p a data => Sys2Proof.Machine.execArrayDisable p a data s
  | .arrayConfigUpdate p a data => Sys2Proof.Machine.execArrayConfigUpdate p a data s
  | .beamEnable p b data => Sys2Proof.Machine.execBeamEnable p b data s
  | .beamDisable p b data => Sys2Proof.Machine.execBeamDisable p b data s
  | .weightWrite p data => Sys2Proof.Machine.execWeightWrite p data s
  | .weightRead p => Sys2Proof.Machine.execWeightRead p s
  | .weightCommit p data => Sys2Proof.Machine.execWeightCommit p data s
  | .calRun p data => Sys2Proof.Machine.execCalRun p data s
  | .calIntervalExpiry a => Sys2Proof.Machine.execCalIntervalExpiry a s
  | .calibrationStart a => Sys2Proof.Machine.execCalibrationStart a s
  | .calibrationDone rx tx => Sys2Proof.Machine.execCalibrationDone rx tx s
  | .calMaxageExpiry a => Sys2Proof.Machine.execCalMaxageExpiry a s
  | .dieTempSample quarter => Sys2Proof.Machine.execDieTempSample quarter s
  | .slotPreparation k => Sys2Proof.Machine.execSlotPreparation k s
  | .blankingStart id => Sys2Proof.Machine.execBlankingStart id s
  | .feTxenAssert id => Sys2Proof.Machine.execFeTxenAssert id s
  | .txFrameStart id k => Sys2Proof.Machine.execTxFrameStart id k s
  | .txFrameEnd id => Sys2Proof.Machine.execTxFrameEnd id s
  | .blankingEnd a => Sys2Proof.Machine.execBlankingEnd a s
  | .ackPointOpen k => Sys2Proof.Machine.execAckPointOpen k s
  | .ackPointClose k => Sys2Proof.Machine.execAckPointClose k s
  | .enhAckBeamFix id => Sys2Proof.Machine.execEnhAckBeamFix id s
  | .preambleDetection d => Sys2Proof.Machine.execPreambleDetection d s
  | .sfdFound l syms => Sys2Proof.Machine.execSfdFound l syms s
  | .sfdLimitExpiry l => Sys2Proof.Machine.execSfdLimitExpiry l s
  | .phrDecoded l h syms => Sys2Proof.Machine.execPhrDecoded l h syms s
  | .psduEnd l syms => Sys2Proof.Machine.execPsduEnd l syms s
  | .fcsCheckDone l ok rssi cfo => Sys2Proof.Machine.execFcsCheckDone l ok rssi cfo s
  | .crossroadsArrival l f faults => Sys2Proof.Machine.execCrossroadsArrival l f faults s
  | .mergeWindowClose n => Sys2Proof.Machine.execMergeWindowClose n s
  | .recentKeyExpiry n => Sys2Proof.Machine.execRecentKeyExpiry n s
  | .noiseFloorSample p floor => Sys2Proof.Machine.execNoiseFloorSample p floor s
  | .lpEnable part data => Sys2Proof.Machine.execLpEnable part data s
  | .lpDisable part data => Sys2Proof.Machine.execLpDisable part data s
  | .lpRead part => Sys2Proof.Machine.execLpRead part s
  | .profileWrite part data => Sys2Proof.Machine.execProfileWrite part data s
  | .slotStart part => Sys2Proof.Machine.execSlotStart part s
  | .slotStop part => Sys2Proof.Machine.execSlotStop part s
  | .slotframeEnable part idx data => Sys2Proof.Machine.execSlotframeEnable part idx data s
  | .slotframeDisable part idx data => Sys2Proof.Machine.execSlotframeDisable part idx data s
  | .cellWrite part data => Sys2Proof.Machine.execCellWrite part data s
  | .cellRead part => Sys2Proof.Machine.execCellRead part s
  | .hopEntryWrite part data => Sys2Proof.Machine.execHopEntryWrite part data s
  | .engineBistStart e => Sys2Proof.Machine.execEngineBistStart e s
  | .engineBistDone e sig => Sys2Proof.Machine.execEngineBistDone e sig s
  | .engineProbationEnd e => Sys2Proof.Machine.execEngineProbationEnd e s
  | .rxWindowOpen a => Sys2Proof.Machine.execRxWindowOpen a s
  | .rxWindowClose a => Sys2Proof.Machine.execRxWindowClose a s
  | .reassemblyTimeout p src size tag => Sys2Proof.Machine.execReassemblyTimeout p src size tag s
  | .panCreate part p data => Sys2Proof.Machine.execPanCreate part p data s
  | .panDelete part p data => Sys2Proof.Machine.execPanDelete part p data s
  | .panOwnerChange part p data => Sys2Proof.Machine.execPanOwnerChange part p data s
  | .nbrEntryWrite p data => Sys2Proof.Machine.execNbrEntryWrite p data s
  | .livenessPeriodExpiry n => Sys2Proof.Machine.execLivenessPeriodExpiry n s
  | .heldFrameExpiry n => Sys2Proof.Machine.execHeldFrameExpiry n s
  | .quarantineExpiry p a => Sys2Proof.Machine.execQuarantineExpiry p a s
  | .joinCacheExpiry eui => Sys2Proof.Machine.execJoinCacheExpiry eui s
  | .joinAccept c dma => Sys2Proof.Machine.execJoinAccept c dma s
  | .nodeRelease c => Sys2Proof.Machine.execNodeRelease c s
  | .nbrAdd c dma => Sys2Proof.Machine.execNbrAdd c dma s
  | .nbrRemove c => Sys2Proof.Machine.execNbrRemove c s
  | .addrQuarantine c => Sys2Proof.Machine.execAddrQuarantine c s
  | .keyLoadDone k => Sys2Proof.Machine.execKeyLoadDone k s
  | .keyLoadTimeout k => Sys2Proof.Machine.execKeyLoadTimeout k s
  | .keyScrub before after => Sys2Proof.Machine.execKeyScrub before after s
  | .keySlotErase p data => Sys2Proof.Machine.execKeySlotErase p data s
  | .tamperInput idx high samples => Sys2Proof.Machine.execTamperInput idx high samples s
  | .tamperLatchClear p data => Sys2Proof.Machine.execTamperLatchClear p data s
  | .keyStore c dma => Sys2Proof.Machine.execKeyStore c dma s
  | .keyDelete c => Sys2Proof.Machine.execKeyDelete c s
  | .panKeySet c => Sys2Proof.Machine.execPanKeySet c s
  | .groupRoll c => Sys2Proof.Machine.execGroupRoll c s
  | .groupGraceExpiry p => Sys2Proof.Machine.execGroupGraceExpiry p s
  | .deriveLoad c => Sys2Proof.Machine.execDeriveLoad c s
  | .deriveUnload c => Sys2Proof.Machine.execDeriveUnload c s
  | .kekSet c dma => Sys2Proof.Machine.execKekSet c dma s
  | .kekRewrapDone p => Sys2Proof.Machine.execKekRewrapDone p s
  | .keyCtrRaise c => Sys2Proof.Machine.execKeyCtrRaise c s
  | .search c => Sys2Proof.Machine.execSearch c s
  | .insert c dma => Sys2Proof.Machine.execInsert c dma s
  | .delete c => Sys2Proof.Machine.execDelete c s
  | .update c dma => Sys2Proof.Machine.execUpdate c dma s
  | .next c => Sys2Proof.Machine.execNext c s
  | .flushByPort c => Sys2Proof.Machine.execFlushByPort c s
  | .iterationExpiry p b => Sys2Proof.Machine.execIterationExpiry p b s
  | .prefixSearch c => Sys2Proof.Machine.execPrefixSearch c s
  | .prefixInsert c => Sys2Proof.Machine.execPrefixInsert c s
  | .prefixDelete c => Sys2Proof.Machine.execPrefixDelete c s
  | .prefixUpdate c => Sys2Proof.Machine.execPrefixUpdate c s
  | .prefixNext c => Sys2Proof.Machine.execPrefixNext c s
  | .lpmModeChange p data => Sys2Proof.Machine.execLpmModeChange p data s
  | .contextWrite p data => Sys2Proof.Machine.execContextWrite p data s
  | .mplSeed p => Sys2Proof.Machine.execMplSeed p s
  | .trickleInstant n faults => Sys2Proof.Machine.execTrickleInstant n faults s
  | .trickleIntervalEnd n => Sys2Proof.Machine.execTrickleIntervalEnd n s
  | .seenEntryExpiry p seed seq => Sys2Proof.Machine.execSeenEntryExpiry p seed seq s
  | .twinEntryExpiry p o seq => Sys2Proof.Machine.execTwinEntryExpiry p o seq s
  | .groupDefine c => Sys2Proof.Machine.execGroupDefine c s
  | .groupAdd c dma => Sys2Proof.Machine.execGroupAdd c dma s
  | .groupRemove c dma => Sys2Proof.Machine.execGroupRemove c dma s
  | .groupCompact c => Sys2Proof.Machine.execGroupCompact c s
  | .groupRead c => Sys2Proof.Machine.execGroupRead c s
  | .groupDelete c => Sys2Proof.Machine.execGroupDelete c s
  | .cvnPost c dma faults => Sys2Proof.Machine.execCvnPost c dma faults s
  | .cvnCancel c => Sys2Proof.Machine.execCvnCancel c s
  | .caravanPhaseEnd cid => Sys2Proof.Machine.execCaravanPhaseEnd cid s
  | .sweepCopyQueue cid faults => Sys2Proof.Machine.execSweepCopyQueue cid faults s
  | .caravanExpiry cid => Sys2Proof.Machine.execCaravanExpiry cid s
  | .concurTimeout g p => Sys2Proof.Machine.execConcurTimeout g p s
  | .caravanIdRelease cid => Sys2Proof.Machine.execCaravanIdRelease cid s
  | .imgOpen c dma => Sys2Proof.Machine.execImgOpen c dma s
  | .imgCancel c => Sys2Proof.Machine.execImgCancel c s
  | .imageLoadDone idx => Sys2Proof.Machine.execImageLoadDone idx s
  | .imageBlockSend idx faults => Sys2Proof.Machine.execImageBlockSend idx faults s
  | .reportWindowExpiry idx => Sys2Proof.Machine.execReportWindowExpiry idx s
  | .refillDone q => Sys2Proof.Machine.execRefillDone q s
  | .queueFlush p data => Sys2Proof.Machine.execQueueFlush p data s
  | .queueEntryWrite p data => Sys2Proof.Machine.execQueueEntryWrite p data s
  | .egressDequeue port => Sys2Proof.Machine.execEgressDequeue port s
  | .popWait p => Sys2Proof.Machine.execPopWait p s
  | .popData p => Sys2Proof.Machine.execPopData p s
  | .shaperRateWrite p data => Sys2Proof.Machine.execShaperRateWrite p data s
  | .shaperBurstWrite p data => Sys2Proof.Machine.execShaperBurstWrite p data s
  | .policerWrite p data => Sys2Proof.Machine.execPolicerWrite p data s
  | .shaperEligible idx => Sys2Proof.Machine.execShaperEligible idx s
  | .gclCommit p e data => Sys2Proof.Machine.execGclCommit p e data s
  | .gclSwitch e => Sys2Proof.Machine.execGclSwitch e s
  | .gateIntervalEnd e => Sys2Proof.Machine.execGateIntervalEnd e s
  | .doorbell p r data => Sys2Proof.Machine.execDoorbell p r data s
  | .ringEnable p r data => Sys2Proof.Machine.execRingEnable p r data s
  | .ringDisable p r data => Sys2Proof.Machine.execRingDisable p r data s
  | .txDescFetch p r dma => Sys2Proof.Machine.execTxDescFetch p r dma s
  | .commandFetch p dma => Sys2Proof.Machine.execCommandFetch p dma s
  | .rxWriteback p r dma => Sys2Proof.Machine.execRxWriteback p r dma s
  | .vectorHoldoffExpiry p v => Sys2Proof.Machine.execVectorHoldoffExpiry p v s
  | .msixUnmask p off data => Sys2Proof.Machine.execMsixUnmask p off data s
  | .configRequest p a => Sys2Proof.Machine.execConfigRequest p a s
  | .bar0ReadTimeout p => Sys2Proof.Machine.execBar0ReadTimeout p s
  | .partMapWrite p data => Sys2Proof.Machine.execPartMapWrite p data s
  | .partReset p data => Sys2Proof.Machine.execPartReset p data s
  | .functionLevelReset p => Sys2Proof.Machine.execFunctionLevelReset p s
  | .schedWrite c dma => Sys2Proof.Machine.execSchedWrite c dma s
  | .schedRead c => Sys2Proof.Machine.execSchedRead c s
  | .quietExit c => Sys2Proof.Machine.execQuietExit c s
  | .bistRun c => Sys2Proof.Machine.execBistRun c s
  | .bistDone w0 w1 w2 w3 => Sys2Proof.Machine.execBistDone w0 w1 w2 w3 s
  | .lockUnlock p => Sys2Proof.Machine.execLockUnlock p s
  | .lockArm p data => Sys2Proof.Machine.execLockArm p data s
  | .lockTimeout p => Sys2Proof.Machine.execLockTimeout p s
  | .bankSelect p data => Sys2Proof.Machine.execBankSelect p data s
  | .portEnable p e data => Sys2Proof.Machine.execPortEnable p e data s
  | .portDisable p e data => Sys2Proof.Machine.execPortDisable p e data s
  | .ethLink e up speed los => Sys2Proof.Machine.execEthLink e up speed los s
  | .ethFrameRx e bs fcsOk => Sys2Proof.Machine.execEthFrameRx e bs fcsOk s
  | .ethIngressDrain e => Sys2Proof.Machine.execEthIngressDrain e s
  | .ethTxDone e => Sys2Proof.Machine.execEthTxDone e s
  | .prpConfigWrite p data => Sys2Proof.Machine.execPrpConfigWrite p data s
  | .prpEntryForget src => Sys2Proof.Machine.execPrpEntryForget src s
  | .txtsPop p e => Sys2Proof.Machine.execTxtsPop p e s
  | .mdioWrite p data => Sys2Proof.Machine.execMdioWrite p data s
  | .mdioRead p data => Sys2Proof.Machine.execMdioRead p data s
  | .mdioDone answer => Sys2Proof.Machine.execMdioDone answer s
  | .timeSet p => Sys2Proof.Machine.execTimeSet p s
  | .timeAdjust p => Sys2Proof.Machine.execTimeAdjust p s
  | .delayReqSend d => Sys2Proof.Machine.execDelayReqSend d s
  | .domainTimeout d => Sys2Proof.Machine.execDomainTimeout d s
  | .timerWrap t => Sys2Proof.Machine.execTimerWrap t s
  | .timerCompare t => Sys2Proof.Machine.execTimerCompare t s
  | .timerClear p t => Sys2Proof.Machine.execTimerClear p t s
  | .timerCompareWrite p t data => Sys2Proof.Machine.execTimerCompareWrite p t data s
  | .timerPeriodWrite p t data => Sys2Proof.Machine.execTimerPeriodWrite p t data s
  | .timerCountRead p t => Sys2Proof.Machine.execTimerCountRead p t s
  | .timeRead p => Sys2Proof.Machine.execTimeRead p s
  | .captureEdge idx rising samples => Sys2Proof.Machine.execCaptureEdge idx rising samples s
  | .toutPulseEnd k => Sys2Proof.Machine.execToutPulseEnd k s
  | .memoryUe u => Sys2Proof.Machine.execMemoryUe u s
  | .clockCheck lock k3 k4 => Sys2Proof.Machine.execClockCheck lock k3 k4 s
  | .timePlausibilityCheck ppm => Sys2Proof.Machine.execTimePlausibilityCheck ppm s
  | .islandSelfCheck pass => Sys2Proof.Machine.execIslandSelfCheck pass s
  | .outputMonitor a txen dac => Sys2Proof.Machine.execOutputMonitor a txen dac s
  | .beaconCheck id => Sys2Proof.Machine.execBeaconCheck id s
  | .lockstepMismatch idx sram => Sys2Proof.Machine.execLockstepMismatch idx sram s
  | .watchdogExpiry idx => Sys2Proof.Machine.execWatchdogExpiry idx s
  | .pairRestartDone idx => Sys2Proof.Machine.execPairRestartDone idx s
  | .forceQuiet p data => Sys2Proof.Machine.execForceQuiet p data s
  | .yarrowResume p data => Sys2Proof.Machine.execYarrowResume p data s
  | .yarrowClusterDone sig found => Sys2Proof.Machine.execYarrowClusterDone sig found s
  | .droverAttempt a tx => Sys2Proof.Machine.execDroverAttempt a tx s
  | .ledgerFreeze p => Sys2Proof.Machine.execLedgerFreeze p s
  | .ledgerUnfreeze p => Sys2Proof.Machine.execLedgerUnfreeze p s
  | .logDataRead p trail => Sys2Proof.Machine.execLogDataRead p trail s
  | .latencyToleranceWrite p data => Sys2Proof.Machine.execLatencyToleranceWrite p data s
  | .powerForce p data => Sys2Proof.Machine.execPowerForce p data s
  | .clusterUngateDone c => Sys2Proof.Machine.execClusterUngateDone c s
  | .wakeNInput samples => Sys2Proof.Machine.execWakeNInput samples s
  | .supplyFault d => Sys2Proof.Machine.execSupplyFault d s
  | .soft p data => Sys2Proof.Machine.execSoft p data s
  | .recovery p data => Sys2Proof.Machine.execRecovery p data s
  | .fDieBoot recovLow => Sys2Proof.Machine.execFDieBoot recovLow s
  | .bootSelftestDone sigs => Sys2Proof.Machine.execBootSelftestDone sigs s
  | .rollbackCommit p data => Sys2Proof.Machine.execRollbackCommit p data s
  | .bootSelect p data => Sys2Proof.Machine.execBootSelect p data s
  | .clrTriesA p data => Sys2Proof.Machine.execClrTriesA p data s
  | .clrTriesB p data => Sys2Proof.Machine.execClrTriesB p data s
  | .ident seq => Sys2Proof.Machine.execIdent seq s
  | .slots seq => Sys2Proof.Machine.execSlots seq s
  | .flashErase seq slot first count => Sys2Proof.Machine.execFlashErase seq slot first count s
  | .flashWrite seq slot off data => Sys2Proof.Machine.execFlashWrite seq slot off data s
  | .flashRead seq slot off len => Sys2Proof.Machine.execFlashRead seq slot off len s
  | .slotCrc seq slot off len => Sys2Proof.Machine.execSlotCrc seq slot off len s
  | .flashOpDone ok => Sys2Proof.Machine.execFlashOpDone ok s
  | .ramLoad seq off data => Sys2Proof.Machine.execRamLoad seq off data s
  | .ramRun seq => Sys2Proof.Machine.execRamRun seq s
  | .smiviReset seq => Sys2Proof.Machine.execSmiviReset seq s
  | .clusterFaultInService c => Sys2Proof.Machine.execClusterFaultInService c s
  | .reservedTypeMessage d m => Sys2Proof.Machine.execReservedTypeMessage d m s
  | .smiviInvalidCommand octets => Sys2Proof.Machine.execSmiviInvalidCommand octets s
  | .bucketRebuildDone b idx => Sys2Proof.Machine.execBucketRebuildDone b idx s
  | .timeSyncSend => Sys2Proof.Machine.execTimeSyncSend s
  | .passRetrainDone => Sys2Proof.Machine.execPassRetrainDone s
  | .passDown => Sys2Proof.Machine.execPassDown s
  | .k6ClockLoss => Sys2Proof.Machine.execK6ClockLoss s
  | .weightBankSwap => Sys2Proof.Machine.execWeightBankSwap s
  | .slotBoundary => Sys2Proof.Machine.execSlotBoundary s
  | .detectionCommit => Sys2Proof.Machine.execDetectionCommit s
  | .flushPassStart => Sys2Proof.Machine.execFlushPassStart s
  | .flushDone => Sys2Proof.Machine.execFlushDone s
  | .sweeperVisit => Sys2Proof.Machine.execSweeperVisit s
  | .filterRebuildDone => Sys2Proof.Machine.execFilterRebuildDone s
  | .lpmModeChangeDone => Sys2Proof.Machine.execLpmModeChangeDone s
  | .cellAudit => Sys2Proof.Machine.execCellAudit s
  | .popWaitExpiry => Sys2Proof.Machine.execPopWaitExpiry s
  | .depthSample => Sys2Proof.Machine.execDepthSample s
  | .fwReady => Sys2Proof.Machine.execFwReady s
  | .supervisionTx => Sys2Proof.Machine.execSupervisionTx s
  | .domainRevert => Sys2Proof.Machine.execDomainRevert s
  | .ppsInEdge => Sys2Proof.Machine.execPpsInEdge s
  | .ppsOutPulse => Sys2Proof.Machine.execPpsOutPulse s
  | .ppsOutEnd => Sys2Proof.Machine.execPpsOutEnd s
  | .rtcUpdate => Sys2Proof.Machine.execRtcUpdate s
  | .quietEscalation => Sys2Proof.Machine.execQuietEscalation s
  | .yarrowClusterStart => Sys2Proof.Machine.execYarrowClusterStart s
  | .droverIntervalEnd => Sys2Proof.Machine.execDroverIntervalEnd s
  | .freezeLimitExpiry => Sys2Proof.Machine.execFreezeLimitExpiry s
  | .powerStateExitDone => Sys2Proof.Machine.execPowerStateExitDone s
  | .idleTimerExpiry => Sys2Proof.Machine.execIdleTimerExpiry s
  | .vaultSaveStart => Sys2Proof.Machine.execVaultSaveStart s
  | .rtcAlarm => Sys2Proof.Machine.execRtcAlarm s
  | .holdupTrigger => Sys2Proof.Machine.execHoldupTrigger s
  | .saveComplete => Sys2Proof.Machine.execSaveComplete s
  | .vholdLow => Sys2Proof.Machine.execVholdLow s
  | .rideThrough => Sys2Proof.Machine.execRideThrough s
  | .vbatLoss => Sys2Proof.Machine.execVbatLoss s
  | .porF => Sys2Proof.Machine.execPorF s
  | .porH => Sys2Proof.Machine.execPorH s
  | .pinF => Sys2Proof.Machine.execPinF s
  | .pinH => Sys2Proof.Machine.execPinH s
  | .resetPassTimeout => Sys2Proof.Machine.execResetPassTimeout s
  | .triesClearTimer => Sys2Proof.Machine.execTriesClearTimer s
  | .fuseBlowDone => Sys2Proof.Machine.execFuseBlowDone s
  | .smiviResponseRead => Sys2Proof.Machine.execSmiviResponseRead s
  | .ppsSourceTimeout => Sys2Proof.Machine.execPpsSourceTimeout s
  | .ledgerDrainDone => Sys2Proof.Machine.execLedgerDrainDone s
  | .powerStateEntryDone => Sys2Proof.Machine.execPowerStateEntryDone s

end Sys2Proof.Machine
end

