-- ==== Sys2Proof/Machine/Tick.lean ====
section
/-! DEFINITION. Time on an empty queue: 1 µs passes, and what the block does of itself within it happens (log entry 1). -/

namespace Sys2Proof.Machine

/-- Corrected memory errors of 1 µs, which no command reports: they are counted and have no other effect (R27); how many there are is a free
value (log entry 19). -/
def State.corrected (s : State) : State :=
  let (a, s1) := s.free!
  let (b, s2) := s1.free!
  (s2.bumpBy R.SYS_CNT_CE_SRAM a).bumpBy R.SYS_CNT_CE_DRAM b

/-- What a running F-die does of itself in 1 µs: a share of a running FLUSH_BY_PORT pass, the choice of the time source, posted messages that
wait for room, received frames that wait for a key load, acknowledgement points that have ended, gating of clusters, the sight of an idle chip; and the errors that its memories correct. -/
def State.selfTick (s : State) : State :=
  if s.pwr.fHeld then s
  else if s.pwr.hush then s.corrected
  else s.corrected.flushTick.airSync.cvnRetry.waitsRetry.ackSettle.gateEval.idleSync

/-- The idle step: 1 µs of time, and what the block does of itself. -/
def State.tick (s : State) : State := (s.elapse (us 1)).selfTick

end Sys2Proof.Machine
end

