-- ==== Sys2Proof/Machine/Pins.lean ====
section
/-! DEFINITION. Levels of the chip's balls as the state gives them, beside those of the front ends (`State.fePins`): SAFE_N, SFP_TXDIS, PPS_OUT,
TOUT, SMV_ATTN, VAULT_OFF, the DACs and the LPDDR5 reset (R354, R363, R377, R396, R413, R414, R427), and the serial ports' state (R304, R335, R414). A die is unpowered while none of its supplies is in range
(`fSup`, `hSup`). -/

namespace Sys2Proof.Machine

/-- SAFE_N_F is driven low; else it is released (R377, R414). -/
def State.safeNLowF (s : State) : Bool := !s.pwr.fHeld && s.flag R.SAFE_STATE F.SAFE_STATE_DRIVE_F

/-- SAFE_N_H is driven low; else it is released. -/
def State.safeNLowH (s : State) : Bool := !s.pwr.hHeld && s.flag R.SAFE_STATE F.SAFE_STATE_DRIVE_H

/-- Level of an output of a die: high impedance while the die is unpowered, a given level while it is in reset, and else its own. -/
def pinLevel (unpowered held inReset level : Bool) : Option Bool := if unpowered then none else some (if held then inReset else level)

/-- SFP_TXDIS of a LAN port: low only while the port's `EN` is 1 (R335), high in reset. -/
def State.txDis (s : State) (e : Nat) : Option Bool := pinLevel (s.pwr.hSup = 3) s.pwr.hHeld true (!s.flag (R.ETH_CFG e) F.ETH_CFG_EN)

/-- PPS_OUT (R354). -/
def State.ppsOut (s : State) : Option Bool := pinLevel (s.pwr.fSup = 3) s.pwr.fHeld false s.time.ppsHigh.isSome

/-- TOUT0 to TOUT3 (R363). -/
def State.toutPin (s : State) (k : Nat) : Option Bool :=
  pinLevel (s.pwr.fSup = 3) s.pwr.fHeld false (s.flag (R.TMR_TOUT k) F.TMR_TOUT_LEVEL)

/-- SMV_ATTN: high while a response is ready, low otherwise, in reset, and while the F-die is unpowered (R427). -/
def State.smvAttn (s : State) : Bool := !s.pwr.fHeld && s.boot.resp.isSome

/-- VAULT_OFF is asserted (R396). -/
def State.vaultOffPin (s : State) : Bool := s.pwr.vaultOff

/-- The element DACs can emit: not while the die has no power or is in reset, nor muted (R377, R406, R414). -/
def State.dacsLive (s : State) : Bool := !s.pwr.fHeld && !s.safe.dacMuted

/-- The LPDDR5 reset: low while the F-die is in reset and until its memory controller has started, which the boot does before it places the
regions (R28, R413; the instant is a DESIGN CHOICE, log entry 110). -/
def State.ddrReset (s : State) : Option Bool :=
  pinLevel (s.pwr.fSup = 3) (s.pwr.fHeld || !s.boot.selfTestDone) false true

/-- What the balls of a serial link are: high impedance, in electrical idle, or driven by a link that is down or up. -/
inductive SerLevel where
  | highZ
  | idle
  | link (up : Bool)
deriving DecidableEq, Repr

/-- LAN A (0), LAN B (1) and the AUX SerDes (2, 3): high impedance and link down outside service (R414). -/
def State.lanPin (s : State) (e : Nat) : SerLevel :=
  if s.pwr.hSup = 3 || s.pwr.hHeld then .highZ else .link (s.flag (R.ETH_STATUS e) F.ETH_STATUS_LINK)

/-- MDC and MDIO are driven: not outside service (R414). -/
def State.mdioDriven (s : State) : Bool := s.pwr.hSup ≠ 3 && !s.pwr.hHeld

/-- PA (0) and PB (1): in electrical idle in reset, and while no partition is mapped to the port, which then does not train (R304, R414). -/
def State.pciePin (s : State) (port : Nat) : SerLevel :=
  if s.pwr.hSup = 3 then .highZ
  else if s.pwr.hHeld || ([0, 1, 2, 3].all (fun p => s.fld R.PART_MAP F.PART_MAP_ACTIVE / 4 ^ p % 4 ≠ port)) then .idle
  else .link true

end Sys2Proof.Machine
end

