-- ==== Sys2Proof/Safety.lean ====
section
/-! DEFINITION. The terms in which claims are made: answering a next state, a message that its receiver accepts, the canonical forms, and
what a safe chip does in Quiet. -/

namespace Sys2Proof.Machine

/-- A command has an effect that a property describes: `exec` answers a next state with it. -/
def Does (c : Instr) (s : State) (q : State → Prop) : Prop := ∃ t, exec c s = .next t ∧ q t

/-- A message of a type that a die accepts and acts on (R16 to R18): the Pass is up, `CRC` and `SEQ` are right, and `LEN` is one of the
type's. -/
abbrev Accepted (s : State) (d : Die) (typ : Nat) (m : PassMsg) : Prop :=
  s.passUp = true ∧ m.crc = passCrc typ m ∧ m.seq = (s.rxDir d).rx ∧ passMalformed typ m = false

/-- The Pass message that a command brings: the die that receives it, its type and the message. -/
def passMessage : Instr → Option (Die × Nat × PassMsg)
  | .linkIdle d m => some (d, 0x00, m)
  | .credit d m => some (d, 0x01, m)
  | .frameDn m _ => some (.f, 0x02, m)
  | .frameUp m => some (.h, 0x03, m)
  | .desc m => some (.f, 0x04, m)
  | .compl m => some (.h, 0x05, m)
  | .event m => some (.h, 0x06, m)
  | .regRd d m => some (d, 0x07, m)
  | .regWr d m => some (d, 0x08, m)
  | .regRsp d m => some (d, 0x09, m)
  | .timeSync m => some (.h, 0x0A, m)
  | .tsReport m => some (.f, 0x0B, m)
  | .health d m => some (d, 0x0C, m)
  | .safeAssert d m => some (d, 0x0D, m)
  | .bootLoad m => some (.h, 0x0E, m)
  | .resetReq d m => some (d, 0x0F, m)
  | .reservedTypeMessage d m => some (d, 0x10 + m.typ % 0xF0, m)
  | _ => none

/-- The command that a command of the table runs, where it runs one (R322). -/
def commandOf : Instr → Option CmdDesc
  | .joinAccept c _ => some c
  | .nodeRelease c => some c
  | .nbrAdd c _ => some c
  | .nbrRemove c => some c
  | .addrQuarantine c => some c
  | .keyStore c _ => some c
  | .keyDelete c => some c
  | .panKeySet c => some c
  | .groupRoll c => some c
  | .deriveLoad c => some c
  | .deriveUnload c => some c
  | .kekSet c _ => some c
  | .keyCtrRaise c => some c
  | .search c => some c
  | .insert c _ => some c
  | .delete c => some c
  | .update c _ => some c
  | .next c => some c
  | .flushByPort c => some c
  | .prefixSearch c => some c
  | .prefixInsert c => some c
  | .prefixDelete c => some c
  | .prefixUpdate c => some c
  | .prefixNext c => some c
  | .groupDefine c => some c
  | .groupAdd c _ => some c
  | .groupRemove c _ => some c
  | .groupCompact c => some c
  | .groupRead c => some c
  | .groupDelete c => some c
  | .cvnPost c _ _ => some c
  | .cvnCancel c => some c
  | .imgOpen c _ => some c
  | .imgCancel c => some c
  | .schedWrite c _ => some c
  | .schedRead c => some c
  | .quietExit c => some c
  | .bistRun c => some c
  | _ => none

/-- The receiver after it has acknowledged a message and taken the message's `ACKSEQ`, before it acts on it. -/
def State.acked (s : State) (d : Die) (m : PassMsg) : State :=
  (s.setRxDir d { s.rxDir d with rx := (s.rxDir d).rx + 1, discarding := false,
                                 next := if (s.rxDir d).next = m.seq then m.seq + 1 else (s.rxDir d).next }).passAck d m.ack

/-- The register file and the hosts' memory are in their canonical form. -/
def State.canon (s : State) : Bool := awf 0 s.regs && awf 0 s.host.mem

/-- The partition reads a word. -/
def State.reads (s : State) (p : Nat) : Word := aget 0 p s.host.readData

/-- The last message that a die has sent and not had acknowledged, be it in the retry buffer or waiting for room in it. -/
def State.lastSent (s : State) (d : Die) : Option PassMsg := ((s.txDir d).retry ++ (s.txDir d).waiting).getLast?

/-- Everything but the register file is as in another state. -/
def State.onlyRegs (t s : State) : Prop := t = { s with regs := t.regs }

/-- Nothing but some registers changed: every other state field and every other register is as it was. -/
def State.onlyKeys (t s : State) (ks : List Nat) : Prop := t.onlyRegs s ∧ ∀ k, k ∉ ks → t.rd k = s.rd k

/-- No register but those listed changed. -/
def State.regsBut (t s : State) (ks : List Nat) : Prop := ∀ k, k ∉ ks → t.rd k = s.rd k

/-- The message a die sent last, by its type, partition and first words. -/
def State.sent (s : State) (d : Die) : Option (Nat × Nat × List Word) := (s.lastSent d).map (fun e => (e.typ, e.part, e.payload))

/-- Of the family of a command, no completion is outstanding but its own (R323). -/
def State.clearFor (s : State) (c : CmdDesc) : Bool := s.ends.order.all (fun x => cmdFamily x.cmd ≠ cmdFamily c || x = { cmd := c })

/-- A command leads its family (R323): no earlier one of the family is still to run, and no completion of the family is outstanding but its own. -/
def State.leads (s : State) (c : CmdDesc) : Bool := s.cmdTurn c && s.clearFor c

/-- The status and result words of the COMPL that the F-die sent last, and the command's partition. -/
def State.completed (s : State) (c : CmdDesc) (status : Nat) (ws : List Word) (cause : Nat) : Prop :=
  s.sent .f = some (5, c.part.val, [cplWord0 (c.w0.toNat % 256) status (c.w0.toNat / 2 ^ 16), wordAt ws 0, wordAt ws 1, wordAt ws 2,
    wordAt ws 3, wordAt ws 4, cplCause cause 0, 0])

/-- A completion record stands in the partition's completion ring where the chip's index was, which has moved on (R318, R321). -/
def State.cplWritten (t s : State) (p : Nat) (ws : List Word) : Prop :=
  t.ringChip p 33 = (s.ringChip p 33 + 1) % 65536 ∧
  ∀ k : Fin 8, t.memWord p (s.ringSlot p 33 (s.ringChip p 33) + 4 * k) =
    wordAt ws k + (if k.val = 0 then BitVec.ofNat 32 (s.ringPhase p 33 * 2 ^ 13) else 0)

/-- The H-die writes a completion record of the partition at once: its completion ring has room, and none waits (R312). -/
def State.cplReady (s : State) (p : Nat) : Bool := s.ringRoom p 33 && s.host.cplWait.all (fun e => e.1 ≠ p)

/-- The F-die raised an event last: its source and parameters. -/
def State.raised (s : State) (src : Nat) (p0 p1 p2 : Word) : Prop :=
  (s.lastSent .f).map (fun e => (e.typ, (wordAt e.payload 0).toNat, wordAt e.payload 1, wordAt e.payload 2, wordAt e.payload 3)) =
    some (6, src, p0, p1, p2)

/-- The octets of a Smivi transaction that brings a command frame (R427, R428): the TXN octet 0xA5, the frame and its `CHECK`. -/
def smiviCommand (op q : Byte) (pl : List Byte) : List Byte :=
  let b := [op, q] ++ be 2 pl.length ++ pl
  0xA5 :: (b ++ be 4 (crc32c b).toNat)

/-! ### Frames -/

/-- The components of the state. -/
inductive Comp where
  | regs
  | now
  | free
  | pass
  | host
  | eth
  | time
  | safe
  | log
  | save
  | pwr
  | boot
  | bist
  | cmds
  | ends
  | ndir
  | cvn
  | cvnIds
  | air
  | qmg
  | shp
  | rf
  | rx
  | link
  | slot
  | key
  | vault
  | dir
  | lpm
  | mesh
  | pending
deriving DecidableEq, Repr

/-- A component is as it was. -/
def State.sameAt (t s : State) : Comp → Prop
  | .regs => t.regs = s.regs
  | .now => t.now = s.now
  | .free => t.free = s.free
  | .pass => t.pass = s.pass
  | .host => t.host = s.host
  | .eth => t.eth = s.eth
  | .time => t.time = s.time
  | .safe => t.safe = s.safe
  | .log => t.log = s.log
  | .save => t.save = s.save
  | .pwr => t.pwr = s.pwr
  | .boot => t.boot = s.boot
  | .bist => t.bist = s.bist
  | .cmds => t.cmds = s.cmds
  | .ends => t.ends = s.ends
  | .ndir => t.ndir = s.ndir
  | .cvn => t.cvn = s.cvn
  | .cvnIds => t.cvnIds = s.cvnIds
  | .air => t.air = s.air
  | .qmg => t.qmg = s.qmg
  | .shp => t.shp = s.shp
  | .rf => t.rf = s.rf
  | .rx => t.rx = s.rx
  | .link => t.link = s.link
  | .slot => t.slot = s.slot
  | .key => t.key = s.key
  | .vault => t.vault = s.vault
  | .dir => t.dir = s.dir
  | .lpm => t.lpm = s.lpm
  | .mesh => t.mesh = s.mesh
  | .pending => t.pending = s.pending

/-- Every component but those listed is as it was. -/
def State.onlyIn (t s : State) (l : List Comp) : Prop := ∀ k, k ∉ l → t.sameAt s k

/-- Every component of the state but the queue. -/
def everyComp : List Comp := [.regs, .now, .free, .pass, .host, .eth, .time, .safe, .log, .save, .pwr, .boot, .bist, .cmds, .ends, .ndir,
  .cvn, .cvnIds, .air, .qmg, .shp, .rf, .rx, .link, .slot, .key, .vault, .dir, .lpm, .mesh]

/-- The components that a command may change; every other is as it was when the command answers. The queue is none of them. -/
def touches : Instr → List Comp
  | .registerWrite _ _ _ _ _ => [.regs, .free, .pass, .host, .eth, .time, .safe, .log, .save, .pwr, .boot, .cmds, .ends, .ndir, .cvn,
    .cvnIds, .air, .qmg, .shp, .rf, .rx, .link, .slot, .key, .vault, .lpm, .mesh]
  | .readClear _ _ _ => [.regs, .free, .pass, .host, .eth, .time, .safe, .log, .cvn, .cvnIds, .air, .qmg, .shp, .rf, .rx, .link, .key,
    .vault, .mesh]
  | .linkIdle _ _ => [.regs, .free, .pass, .host, .air, .qmg, .rx, .link]
  | .credit _ _ => [.regs, .free, .pass, .host, .air, .qmg, .rx, .link]
  | .frameDn _ _ => [.regs, .free, .pass, .host, .time, .safe, .log, .ndir, .cvn, .cvnIds, .air, .qmg, .shp, .rf, .rx, .link, .key, .vault,
    .mesh]
  | .frameUp _ => [.regs, .free, .pass, .host, .eth, .air, .qmg, .rx, .link]
  | .desc _ => [.regs, .free, .pass, .host, .safe, .log, .cmds, .ends, .cvn, .cvnIds, .air, .qmg, .rf, .rx, .link]
  | .compl _ => [.regs, .free, .pass, .host, .air, .qmg, .rx, .link]
  | .event _ => [.regs, .free, .pass, .host, .air, .qmg, .rx, .link]
  | .regRd _ _ => [.regs, .free, .pass, .host, .eth, .time, .safe, .log, .cvn, .cvnIds, .air, .qmg, .shp, .rf, .rx, .link, .key, .vault,
    .mesh]
  | .regWr _ _ => [.regs, .free, .pass, .host, .eth, .time, .safe, .log, .save, .pwr, .boot, .cmds, .ends, .ndir, .cvn, .cvnIds, .air,
    .qmg, .shp, .rf, .rx, .link, .slot, .key, .vault, .lpm, .mesh]
  | .regRsp _ _ => [.regs, .free, .pass, .host, .air, .qmg, .rx, .link]
  | .timeSync _ => [.regs, .now, .free, .pass, .host, .time, .air, .qmg, .rx, .link]
  | .tsReport _ => [.regs, .free, .pass, .host, .time, .air, .qmg, .rx, .link]
  | .health _ _ => [.regs, .free, .pass, .host, .safe, .log, .boot, .cvn, .cvnIds, .air, .qmg, .rf, .rx, .link]
  | .healthSend _ => [.pass]
  | .healthTimeout _ => [.regs, .now, .pass, .host, .time, .safe, .log, .boot, .cvn, .cvnIds, .air, .qmg, .rf, .link]
  | .safeAssert _ _ => [.regs, .free, .pass, .host, .safe, .log, .cvn, .cvnIds, .air, .qmg, .rf, .rx, .link]
  | .bootLoad _ => [.regs, .free, .pass, .host, .air, .qmg, .rx, .link]
  | .resetReq _ _ => [.regs, .free, .pass, .host, .safe, .log, .pwr, .boot, .cmds, .ends, .cvn, .cvnIds, .air, .qmg, .rf, .rx, .link, .key,
    .vault, .mesh]
  | .passResendTimeout _ => [.regs, .now, .pass, .host, .time]
  | .bandplanWrite _ _ => [.regs]
  | .arrayEnable _ _ _ => [.regs, .free, .pass, .host, .safe, .log, .cvn, .cvnIds, .air, .qmg, .rf, .rx, .link, .slot, .key, .vault, .mesh]
  | .arrayDisable _ _ _ => [.regs, .free, .pass, .host, .safe, .log, .cvn, .cvnIds, .air, .qmg, .rf, .rx, .link, .slot, .key, .vault, .mesh]
  | .arrayConfigUpdate _ _ _ => [.regs, .free, .pass, .host, .safe, .log, .cvn, .cvnIds, .air, .qmg, .rf, .rx, .link, .slot, .key, .vault,
    .mesh]
  | .beamEnable _ _ _ => [.regs, .free, .pass, .host, .safe, .log, .cvn, .cvnIds, .air, .qmg, .rf, .rx, .link, .slot, .key, .vault, .mesh]
  | .beamDisable _ _ _ => [.regs, .free, .pass, .host, .safe, .log, .cvn, .cvnIds, .air, .qmg, .rf, .rx, .link, .slot, .key, .vault, .mesh]
  | .weightWrite _ _ => [.regs, .rf]
  | .weightRead _ => [.regs, .host]
  | .weightCommit _ _ => [.regs]
  | .calRun _ _ => [.regs, .rf]
  | .calIntervalExpiry _ => [.now, .time, .rf]
  | .calibrationStart _ => [.regs, .pwr, .rf, .rx]
  | .calibrationDone _ _ => [.regs, .now, .free, .pass, .time, .rf]
  | .calMaxageExpiry _ => [.regs, .now, .pass, .time]
  | .dieTempSample _ => [.regs, .pass, .host, .safe, .log, .cvn, .cvnIds, .air, .qmg, .rf, .link]
  | .slotPreparation _ => [.regs, .now, .free, .pass, .host, .time, .safe, .log, .ends, .cvn, .cvnIds, .air, .qmg, .shp, .rf, .link, .slot,
    .key, .vault, .mesh]
  | .blankingStart _ => [.regs, .now, .time, .air, .rx]
  | .feTxenAssert _ => [.now, .time, .air]
  | .txFrameStart _ _ => [.regs, .now, .pass, .host, .time, .safe, .log, .cvn, .cvnIds, .air, .qmg, .rf, .link, .slot]
  | .txFrameEnd _ => [.regs, .now, .free, .pass, .host, .time, .safe, .log, .cvn, .cvnIds, .air, .qmg, .rf, .link, .slot, .key, .vault,
    .mesh]
  | .blankingEnd _ => [.now, .time, .rf]
  | .ackPointOpen _ => [.now, .time, .slot]
  | .ackPointClose _ => [.regs, .now, .free, .pass, .host, .time, .safe, .log, .cvn, .cvnIds, .air, .qmg, .rf, .link, .slot, .key, .vault,
    .mesh]
  | .enhAckBeamFix _ => [.regs, .now, .pass, .host, .time, .safe, .log, .cvn, .cvnIds, .air, .qmg, .rf, .link, .slot, .key, .vault]
  | .preambleDetection _ => [.regs, .rx]
  | .sfdFound _ _ => [.regs, .time, .air, .qmg, .rx, .link]
  | .sfdLimitExpiry _ => [.regs, .now, .time, .rx]
  | .phrDecoded _ _ _ => [.regs, .air, .qmg, .rx, .link]
  | .psduEnd _ _ => [.regs, .ends, .air, .qmg, .rx, .link]
  | .fcsCheckDone _ _ _ _ => [.regs, .rx]
  | .crossroadsArrival _ _ _ => [.regs, .free, .pass, .host, .time, .safe, .log, .ndir, .cvn, .cvnIds, .air, .qmg, .shp, .rf, .rx, .link,
    .slot, .key, .vault, .dir, .mesh]
  | .mergeWindowClose _ => [.regs, .now, .time, .ndir, .rx, .link, .dir]
  | .recentKeyExpiry _ => [.now, .time, .rx]
  | .noiseFloorSample _ _ => [.rx]
  | .lpEnable _ _ => [.regs, .rx]
  | .lpDisable _ _ => [.regs, .rx]
  | .lpRead _ => [.regs, .host]
  | .profileWrite _ _ => [.regs, .rx]
  | .slotStart _ => [.regs, .slot]
  | .slotStop _ => [.regs, .slot]
  | .slotframeEnable _ _ _ => [.regs]
  | .slotframeDisable _ _ _ => [.regs]
  | .cellWrite _ _ => [.regs, .slot]
  | .cellRead _ => [.regs, .host]
  | .hopEntryWrite _ _ => [.regs, .slot]
  | .engineBistStart _ => [.regs, .now, .time, .slot]
  | .engineBistDone _ _ => [.regs, .now, .time, .air, .qmg, .link, .slot]
  | .engineProbationEnd _ => [.regs, .now, .time, .slot]
  | .rxWindowOpen _ => [.now, .time, .slot]
  | .rxWindowClose _ => [.now, .time, .slot]
  | .reassemblyTimeout _ _ _ _ => [.regs, .now, .time, .qmg, .mesh]
  | .panCreate _ _ _ => [.regs, .free, .pass, .host, .time, .safe, .log, .ends, .ndir, .cvn, .cvnIds, .air, .qmg, .rf, .link, .slot, .key,
    .vault, .mesh]
  | .panDelete _ _ _ => [.regs, .free, .pass, .host, .time, .safe, .log, .ends, .ndir, .cvn, .cvnIds, .air, .qmg, .rf, .link, .slot, .key,
    .vault, .mesh]
  | .panOwnerChange _ _ _ => [.regs, .free, .pass, .host, .time, .safe, .log, .ends, .ndir, .cvn, .cvnIds, .air, .qmg, .rf, .link, .slot,
    .key, .vault, .mesh]
  | .nbrEntryWrite _ _ => [.regs, .link]
  | .livenessPeriodExpiry _ => [.regs, .now, .pass, .host, .time, .safe, .log, .ndir, .cvn, .cvnIds, .air, .qmg, .rf, .link, .key, .vault,
    .mesh]
  | .heldFrameExpiry _ => [.regs, .now, .pass, .host, .time, .safe, .log, .cvn, .cvnIds, .air, .qmg, .rf, .link, .key, .vault, .mesh]
  | .quarantineExpiry _ _ => [.regs, .link]
  | .joinCacheExpiry _ => [.now, .time, .link]
  | .joinAccept _ _ => [.regs, .pass, .host, .safe, .log, .cmds, .ends, .ndir, .cvn, .cvnIds, .air, .qmg, .rf, .link, .key, .vault, .dir]
  | .nodeRelease _ => [.regs, .pass, .host, .safe, .log, .cmds, .ends, .ndir, .cvn, .cvnIds, .air, .qmg, .rf, .link, .key, .vault, .dir,
    .mesh]
  | .nbrAdd _ _ => [.regs, .pass, .host, .safe, .log, .cmds, .ends, .ndir, .cvn, .cvnIds, .air, .qmg, .rf, .link, .key, .vault]
  | .nbrRemove _ => [.regs, .pass, .host, .safe, .log, .cmds, .ends, .ndir, .cvn, .cvnIds, .air, .qmg, .rf, .link, .key, .vault, .mesh]
  | .addrQuarantine _ => [.regs, .pass, .cmds, .ends, .link]
  | .keyLoadDone _ => [.regs, .free, .pass, .host, .time, .safe, .log, .ndir, .cvn, .cvnIds, .air, .qmg, .shp, .rf, .rx, .link, .slot,
    .key, .vault, .dir, .mesh]
  | .keyLoadTimeout _ => [.regs, .now, .pass, .host, .time, .safe, .log, .cvn, .cvnIds, .air, .qmg, .rf, .link, .key, .vault, .mesh]
  | .keyScrub _ _ => [.regs, .pass, .host, .safe, .log, .cvn, .cvnIds, .air, .qmg, .rf, .link, .key]
  | .keySlotErase _ _ => [.regs, .pass, .host, .safe, .log, .cvn, .cvnIds, .air, .qmg, .rf, .link, .key]
  | .tamperInput _ _ _ => [.regs, .free, .pass, .host, .safe, .log, .cvn, .cvnIds, .air, .qmg, .rf, .link, .key, .vault]
  | .tamperLatchClear _ _ => [.regs, .free, .pass, .host, .safe, .log, .cvn, .cvnIds, .air, .qmg, .rf, .link, .vault]
  | .keyStore _ _ => [.regs, .pass, .host, .safe, .log, .cmds, .ends, .cvn, .cvnIds, .air, .qmg, .rf, .link, .key, .vault]
  | .keyDelete _ => [.regs, .pass, .cmds, .ends, .key]
  | .panKeySet _ => [.regs, .pass, .host, .safe, .log, .cmds, .ends, .cvn, .cvnIds, .air, .qmg, .rf, .link, .key, .vault]
  | .groupRoll _ => [.regs, .pass, .cmds, .ends, .key, .vault]
  | .groupGraceExpiry _ => [.regs, .now, .time, .key, .vault]
  | .deriveLoad _ => [.regs, .pass, .host, .safe, .log, .cmds, .ends, .cvn, .cvnIds, .air, .qmg, .rf, .link, .key, .vault]
  | .deriveUnload _ => [.regs, .pass, .cmds, .ends, .key]
  | .kekSet _ _ => [.regs, .free, .pass, .host, .safe, .log, .cmds, .ends, .cvn, .cvnIds, .air, .qmg, .rf, .link, .key, .vault]
  | .kekRewrapDone _ => [.regs, .pass, .ends, .key]
  | .keyCtrRaise _ => [.pass, .cmds, .ends, .key, .vault]
  | .search _ => [.pass, .host, .cmds, .ends]
  | .insert _ _ => [.regs, .pass, .cmds, .ends, .ndir, .link, .dir]
  | .delete _ => [.regs, .pass, .host, .safe, .log, .cmds, .ends, .ndir, .cvn, .cvnIds, .air, .qmg, .rf, .link, .key, .vault, .dir, .mesh]
  | .update _ _ => [.pass, .cmds, .ends, .ndir]
  | .next _ => [.free, .pass, .host, .cmds, .ends, .dir]
  | .flushByPort _ => [.pass, .pwr, .cmds, .ends, .dir]
  | .iterationExpiry _ _ => [.now, .time, .dir]
  | .prefixSearch _ => [.regs, .pass, .cmds, .ends]
  | .prefixInsert _ => [.regs, .pass, .cmds, .ends, .lpm]
  | .prefixDelete _ => [.regs, .pass, .cmds, .ends, .lpm]
  | .prefixUpdate _ => [.regs, .pass, .cmds, .ends, .lpm]
  | .prefixNext _ => [.pass, .host, .cmds, .ends]
  | .lpmModeChange _ _ => [.regs, .pass, .host, .safe, .log, .cvn, .cvnIds, .air, .qmg, .rf, .link, .lpm]
  | .contextWrite _ _ => [.regs, .mesh]
  | .mplSeed _ => [.regs, .free, .pass, .host, .safe, .log, .cvn, .cvnIds, .air, .qmg, .rf, .link, .key, .vault, .mesh]
  | .trickleInstant _ _ => [.regs, .now, .pass, .host, .time, .safe, .log, .cvn, .cvnIds, .air, .qmg, .shp, .rf, .rx, .link, .key, .vault,
    .mesh]
  | .trickleIntervalEnd _ => [.regs, .now, .free, .pass, .time, .cvn, .qmg, .mesh]
  | .seenEntryExpiry _ _ _ => [.regs, .now, .time, .mesh]
  | .twinEntryExpiry _ _ _ => [.regs, .now, .time, .mesh]
  | .groupDefine _ => [.pass, .cmds, .ends, .cvn]
  | .groupAdd _ _ => [.regs, .pass, .cmds, .ends, .cvn]
  | .groupRemove _ _ => [.pass, .cmds, .ends, .cvn]
  | .groupCompact _ => [.regs, .pass, .cmds, .ends, .cvn]
  | .groupRead _ => [.regs, .pass, .host, .cmds, .ends, .air, .qmg, .link]
  | .groupDelete _ => [.regs, .pass, .cmds, .ends, .cvn]
  | .cvnPost _ _ _ => [.regs, .free, .pass, .host, .time, .safe, .log, .cmds, .ends, .ndir, .cvn, .cvnIds, .air, .qmg, .shp, .rf, .rx,
    .link, .key, .vault, .mesh]
  | .cvnCancel _ => [.regs, .pass, .host, .safe, .log, .cmds, .ends, .cvn, .cvnIds, .air, .qmg, .rf, .link, .key, .vault, .mesh]
  | .caravanPhaseEnd _ => [.regs, .now, .pass, .host, .time, .cvn, .cvnIds, .air, .qmg, .link]
  | .sweepCopyQueue _ _ => [.regs, .free, .pass, .host, .time, .safe, .log, .ndir, .cvn, .cvnIds, .air, .qmg, .shp, .rf, .rx, .link, .key,
    .vault, .mesh]
  | .caravanExpiry _ => [.regs, .now, .pass, .host, .time, .safe, .log, .cvn, .cvnIds, .air, .qmg, .rf, .link, .key, .vault, .mesh]
  | .concurTimeout _ _ => [.regs, .now, .pass, .time, .ends, .cvn]
  | .caravanIdRelease _ => [.regs, .cvnIds]
  | .imgOpen _ _ => [.regs, .free, .pass, .host, .cmds, .ends, .cvn, .air, .qmg, .link]
  | .imgCancel _ => [.regs, .free, .pass, .host, .safe, .log, .cmds, .ends, .cvn, .cvnIds, .air, .qmg, .rf, .link, .key, .vault, .mesh]
  | .imageLoadDone _ => [.regs, .cvn]
  | .imageBlockSend _ _ => [.regs, .now, .free, .pass, .host, .time, .safe, .log, .ndir, .cvn, .cvnIds, .air, .qmg, .shp, .rf, .rx, .link,
    .key, .vault, .mesh]
  | .reportWindowExpiry _ => [.regs, .now, .pass, .host, .time, .cvn, .air, .qmg, .link]
  | .refillDone _ => [.regs, .pass, .host, .safe, .log, .cvn, .cvnIds, .air, .qmg, .rf, .link, .key, .vault, .mesh]
  | .queueFlush _ _ => [.regs, .pass, .host, .safe, .log, .cvn, .cvnIds, .air, .qmg, .rf, .link, .key, .vault, .mesh]
  | .queueEntryWrite _ _ => [.regs, .qmg]
  | .egressDequeue _ => [.regs, .pass, .host, .time, .safe, .log, .cvn, .cvnIds, .air, .qmg, .shp, .rf, .link, .key, .vault, .mesh]
  | .popWait _ => [.regs, .pass, .host, .time, .safe, .log, .cvn, .cvnIds, .air, .qmg, .shp, .rf, .link, .key, .vault, .mesh]
  | .popData _ => [.regs, .host, .air, .qmg, .link]
  | .shaperRateWrite _ _ => [.regs, .shp]
  | .shaperBurstWrite _ _ => [.regs, .shp]
  | .policerWrite _ _ => [.regs, .shp]
  | .shaperEligible _ => [.regs, .now, .pass, .host, .time, .air, .qmg, .shp, .rx, .link]
  | .gclCommit _ _ _ => [.regs]
  | .gclSwitch _ => [.regs, .now, .eth, .time, .shp]
  | .gateIntervalEnd _ => [.regs, .now, .free, .host, .eth, .time, .air, .qmg, .shp, .link]
  | .doorbell _ _ _ => [.regs, .host, .pwr, .air, .qmg, .link]
  | .ringEnable _ _ _ => [.regs, .host, .air, .qmg, .link]
  | .ringDisable _ _ _ => [.regs, .host, .air, .qmg, .link]
  | .txDescFetch _ _ _ => [.regs, .pass, .host, .pwr, .air, .qmg, .link]
  | .commandFetch _ _ => [.regs, .pass, .host, .pwr, .air, .qmg, .link]
  | .rxWriteback _ _ _ => [.regs, .host, .air, .qmg, .link]
  | .vectorHoldoffExpiry _ _ => [.now, .host, .time]
  | .msixUnmask _ _ _ => [.host]
  | .configRequest _ _ => [.regs, .free, .host, .air, .qmg, .link]
  | .bar0ReadTimeout _ => [.now, .host, .time]
  | .partMapWrite _ _ => [.regs, .pass, .host, .safe, .log, .cvn, .cvnIds, .air, .qmg, .rf, .link]
  | .partReset _ _ => [.regs, .pass, .host, .eth, .safe, .log, .pwr, .cmds, .ends, .cvn, .cvnIds, .air, .qmg, .rf, .rx, .link, .key,
    .vault, .mesh]
  | .functionLevelReset _ => [.regs, .pass, .host, .eth, .safe, .log, .pwr, .cmds, .ends, .cvn, .cvnIds, .air, .qmg, .rf, .rx, .link, .key,
    .vault, .mesh]
  | .schedWrite _ _ => [.pass, .cmds, .ends, .slot]
  | .schedRead _ => [.pass, .host, .cmds, .ends]
  | .quietExit _ => [.regs, .pass, .host, .safe, .log, .cmds, .ends, .cvn, .cvnIds, .air, .qmg, .rf, .link]
  | .bistRun _ => [.regs, .free, .pass, .bist, .cmds, .ends, .rx, .slot]
  | .bistDone _ _ _ _ => [.regs, .now, .pass, .host, .time, .safe, .log, .save, .pwr, .bist, .ends, .cvn, .cvnIds, .air, .qmg, .rf, .link,
    .slot]
  | .lockUnlock _ => [.regs, .host]
  | .lockArm _ _ => [.regs, .host]
  | .lockTimeout _ => [.regs, .now, .host, .time]
  | .bankSelect _ _ => [.regs]
  | .portEnable _ _ _ => [.regs, .free, .pass, .host, .eth, .air, .qmg, .link]
  | .portDisable _ _ _ => [.regs, .free, .pass, .host, .eth, .air, .qmg, .link]
  | .ethLink _ _ _ _ => [.regs, .free, .pass, .host, .eth, .air, .qmg, .link]
  | .ethFrameRx _ _ _ => [.regs, .eth, .pwr, .air, .qmg, .link]
  | .ethIngressDrain _ => [.regs, .pass, .host, .eth, .safe, .log, .cvn, .cvnIds, .air, .qmg, .rf, .link, .key, .vault, .mesh]
  | .ethTxDone _ => [.regs, .now, .pass, .host, .eth, .time, .air, .qmg, .link]
  | .prpConfigWrite _ _ => [.regs]
  | .prpEntryForget _ => [.regs, .now, .eth, .time]
  | .txtsPop _ _ => [.regs, .host, .eth]
  | .mdioWrite _ _ => [.regs, .eth]
  | .mdioRead _ _ => [.regs, .eth]
  | .mdioDone _ => [.regs, .eth]
  | .timeSet _ => [.regs, .pass, .time]
  | .timeAdjust _ => [.regs, .time]
  | .delayReqSend _ => [.regs, .now, .pass, .eth, .time]
  | .domainTimeout _ => [.regs, .now, .pass, .time]
  | .timerWrap _ => [.regs, .now, .pass, .time, .pwr]
  | .timerCompare _ => [.regs, .now, .pass, .time, .pwr]
  | .timerClear _ _ => [.regs, .time]
  | .timerCompareWrite _ _ _ => [.regs, .pass, .time, .pwr]
  | .timerPeriodWrite _ _ _ => [.regs, .pass, .time, .pwr]
  | .timerCountRead _ _ => [.host, .time]
  | .timeRead _ => [.host, .time]
  | .captureEdge _ _ _ => [.regs, .pass, .time, .pwr]
  | .toutPulseEnd _ => [.regs, .now, .time]
  | .memoryUe _ => everyComp
  | .clockCheck _ _ _ => [.regs, .pass, .host, .safe, .log, .cvn, .cvnIds, .air, .qmg, .rf, .link]
  | .timePlausibilityCheck _ => [.regs, .pass, .host, .safe, .log, .cvn, .cvnIds, .air, .qmg, .rf, .link]
  | .islandSelfCheck _ => [.regs, .pass, .host, .safe, .log, .cvn, .cvnIds, .air, .qmg, .rf, .link]
  | .outputMonitor _ _ _ => [.regs, .pass, .host, .safe, .log, .save, .pwr, .cvn, .cvnIds, .air, .qmg, .rf, .link]
  | .beaconCheck _ => [.regs, .now, .pass, .host, .time, .safe, .log, .cvn, .cvnIds, .air, .qmg, .rf, .link]
  | .lockstepMismatch _ _ => [.regs, .pass, .host, .safe, .log, .save, .pwr, .cmds, .ends, .cvn, .cvnIds, .air, .qmg, .rf, .link]
  | .watchdogExpiry _ => [.regs, .pass, .host, .safe, .log, .save, .pwr, .cmds, .ends, .cvn, .cvnIds, .air, .qmg, .rf, .link]
  | .pairRestartDone _ => [.regs, .safe]
  | .forceQuiet _ _ => [.regs, .pass, .host, .safe, .log, .cvn, .cvnIds, .air, .qmg, .rf, .link]
  | .yarrowResume _ _ => [.regs, .pass, .host, .safe, .log, .cvn, .cvnIds, .air, .qmg, .rf, .link]
  | .yarrowClusterDone _ _ => [.regs, .now, .pass, .host, .time, .safe, .log, .cvn, .cvnIds, .air, .qmg, .rf, .link, .slot]
  | .droverAttempt _ _ => [.regs, .now, .pass, .host, .time, .safe, .log, .cvn, .cvnIds, .air, .qmg, .shp, .rf, .rx, .link, .key, .vault,
    .mesh]
  | .ledgerFreeze _ => [.regs, .pass, .host, .safe, .log, .cvn, .cvnIds, .air, .qmg, .rf, .link]
  | .ledgerUnfreeze _ => [.regs, .pass, .host, .safe, .log, .cvn, .cvnIds, .air, .qmg, .rf, .link]
  | .logDataRead _ _ => [.regs, .pass, .host, .safe, .log, .cvn, .cvnIds, .air, .qmg, .rf, .link]
  | .latencyToleranceWrite _ _ => [.regs, .pass, .pwr, .air, .rf, .rx]
  | .powerForce _ _ => [.regs, .pass, .host, .safe, .log, .pwr, .cvn, .cvnIds, .air, .qmg, .rf, .rx, .link]
  | .clusterUngateDone _ => [.now, .time, .pwr]
  | .wakeNInput _ => [.pwr]
  | .supplyFault _ => everyComp
  | .soft _ _ => [.regs, .pass, .host, .safe, .log, .save, .pwr, .cvn, .cvnIds, .air, .qmg, .rf, .link]
  | .recovery _ _ => [.regs, .pass, .host, .safe, .log, .save, .pwr, .cvn, .cvnIds, .air, .qmg, .rf, .link]
  | .fDieBoot _ => [.regs, .host, .safe, .boot, .air, .qmg, .rf, .link]
  | .bootSelftestDone _ => [.regs, .free, .pass, .host, .time, .safe, .log, .save, .pwr, .boot, .cvn, .cvnIds, .air, .qmg, .rf, .link,
    .key, .vault, .dir]
  | .rollbackCommit _ _ => [.regs, .pass, .host, .safe, .log, .boot, .cvn, .cvnIds, .air, .qmg, .rf, .link]
  | .bootSelect _ _ => [.regs, .pass, .host, .safe, .log, .cvn, .cvnIds, .air, .qmg, .rf, .link]
  | .clrTriesA _ _ => [.regs, .pass, .host, .safe, .log, .cvn, .cvnIds, .air, .qmg, .rf, .link]
  | .clrTriesB _ _ => [.regs, .pass, .host, .safe, .log, .cvn, .cvnIds, .air, .qmg, .rf, .link]
  | .ident _ => [.boot]
  | .slots _ => [.boot]
  | .flashErase _ _ _ _ => [.boot]
  | .flashWrite _ _ _ _ => [.boot]
  | .flashRead _ _ _ _ => [.boot]
  | .slotCrc _ _ _ _ => [.boot]
  | .flashOpDone _ => [.regs, .free, .boot, .slot]
  | .ramLoad _ _ _ => [.boot]
  | .ramRun _ => [.regs, .safe, .boot, .air, .qmg, .link]
  | .smiviReset _ => [.boot]
  | .clusterFaultInService _ => [.regs, .pass, .host, .safe, .log, .cvn, .cvnIds, .air, .qmg, .rf, .rx, .link]
  | .reservedTypeMessage _ _ => [.regs, .free, .pass, .host, .air, .qmg, .rx, .link]
  | .smiviInvalidCommand _ => [.regs, .pass, .safe, .save, .pwr, .boot, .air, .qmg, .rf, .link]
  | .bucketRebuildDone _ _ => [.regs, .free, .dir]
  | .timeSyncSend => [.pass]
  | .passRetrainDone => [.regs, .pass, .host, .safe]
  | .passDown => [.regs, .now, .pass, .host, .time, .safe, .log, .boot, .cvn, .cvnIds, .air, .qmg, .rf, .link]
  | .k6ClockLoss => [.regs, .pass, .host]
  | .weightBankSwap => [.regs, .rf]
  | .slotBoundary => [.regs, .now, .pass, .host, .time, .safe, .log, .pwr, .cvn, .cvnIds, .air, .qmg, .rf, .rx, .link, .slot]
  | .detectionCommit => [.regs, .pwr, .rx]
  | .flushPassStart => [.dir]
  | .flushDone => [.regs, .pass, .host, .safe, .log, .ndir, .cvn, .cvnIds, .air, .qmg, .rf, .link, .key, .vault, .dir, .mesh]
  | .sweeperVisit => [.regs, .pass, .host, .safe, .log, .ndir, .cvn, .cvnIds, .air, .qmg, .rf, .link, .key, .vault, .dir, .mesh]
  | .filterRebuildDone => [.regs, .air, .qmg, .link, .lpm]
  | .lpmModeChangeDone => [.regs]
  | .cellAudit => [.regs, .pass, .host, .safe, .log, .cvn, .cvnIds, .air, .qmg, .rf, .link]
  | .popWaitExpiry => [.now, .pass, .host, .time, .qmg, .rx]
  | .depthSample => [.qmg]
  | .fwReady => [.regs, .pass, .host, .safe, .log, .boot, .cvn, .cvnIds, .air, .qmg, .rf, .link]
  | .supervisionTx => [.regs, .now, .free, .host, .eth, .time, .air, .qmg, .link]
  | .domainRevert => [.regs, .now, .pass, .time]
  | .ppsInEdge => [.regs, .free, .pass, .time]
  | .ppsOutPulse => [.now, .time]
  | .ppsOutEnd => [.now, .time]
  | .rtcUpdate => [.regs, .vault]
  | .quietEscalation => [.regs, .now, .pass, .host, .time, .safe, .log, .save, .pwr, .cvn, .cvnIds, .air, .qmg, .rf, .link]
  | .yarrowClusterStart => [.regs, .free, .safe, .pwr, .rx]
  | .droverIntervalEnd => [.regs, .now, .pass, .host, .time, .safe, .log, .cvn, .cvnIds, .air, .qmg, .rf, .link, .key, .vault, .mesh]
  | .freezeLimitExpiry => [.regs, .now, .pass, .host, .time, .safe, .log, .cvn, .cvnIds, .air, .qmg, .rf, .link]
  | .powerStateExitDone => [.regs, .now, .pass, .time, .pwr, .air, .rf, .rx]
  | .idleTimerExpiry => [.regs, .now, .pass, .time, .pwr, .air, .rf, .rx]
  | .vaultSaveStart => [.regs, .now, .time, .save]
  | .rtcAlarm => [.now, .time, .pwr]
  | .holdupTrigger => [.regs, .safe, .save, .pwr, .air, .rf]
  | .saveComplete => everyComp
  | .vholdLow => [.regs, .free, .pass, .host, .safe, .log, .save, .cvn, .cvnIds, .air, .qmg, .rf, .link, .key, .vault]
  | .rideThrough => everyComp
  | .vbatLoss => [.regs, .pwr, .vault]
  | .porF => everyComp
  | .porH => everyComp
  | .pinF => [.regs, .pass, .safe, .save, .pwr, .air, .rf]
  | .pinH => everyComp
  | .resetPassTimeout => [.regs, .now, .pass, .host, .time, .boot, .air, .qmg, .link]
  | .triesClearTimer => [.regs, .now, .time, .boot]
  | .fuseBlowDone => [.regs, .boot]
  | .smiviResponseRead => [.regs, .pass, .safe, .save, .pwr, .boot, .air, .rf]
  | .ppsSourceTimeout => [.regs, .now, .pass, .time]
  | .ledgerDrainDone => [.regs, .pass, .host, .safe, .log, .cvn, .cvnIds, .air, .qmg, .rf, .link]
  | .powerStateEntryDone => [.pwr]

/-- A command answers a next state that differs from the state at most in the components listed. -/
def Keeps (c : Instr) (s : State) (l : List Comp) : Prop := Does c s (fun t => t.onlyIn s l)

end Sys2Proof.Machine
end

