-- ==== Sys2Proof/Certificates/Slice0/Obligations.lean ====
section
/-! DEFINITION. The statements for the provers. -/

open Sys2Proof Sys2Proof.Machine


/-! ### The queue, reset and the canonical forms -/

/-- A step takes the command at the front of the queue, and its outcome is that of `exec` on the state with the queue's rest. -/
def Obligations.StepRunsTheFrontCommand : Prop :=
  ∀ (c : Instr) (rest : List Instr) (s : State), step { s with pending := c :: rest } = exec c { s with pending := rest }

/-- On an empty queue 1 µs passes, 256 ticks of K4, whatever the block does of itself meanwhile; a held F-die does nothing else. That a step
on an empty queue is 1 µs is the model's choice (log entry 1). Where it touches them it rests on the model's choices of log entries 1,
19. -/
def Obligations.EmptyQueueLetsAMicrosecondPass : Prop :=
  ∀ s : State, s.pending = [] → step s = .next s.tick ∧ s.tick.now = s.now + 256 ∧ (s.pwr.fHeld = true → s.tick = s.elapse 256)

/-- No command of the table stops the block: each one answers a next state in every state. Where it touches them it rests on the model's
choices of log entry 28. -/
def Obligations.NoCommandStopsTheBlock : Prop :=
  ∀ (c : Instr) (s : State), ∃ t, exec c s = .next t

/-- Reset values that the register tables of the spec give. Where it touches them it rests on the model's choices of log entries 5, 78. -/
def Obligations.ResetLeavesTheTableValues : Prop :=
  let s := State.reset
  s.fld R.QMG_SPILL_CFG F.QMG_SPILL_CFG_NEXT_MIB = 1024 ∧ s.fld R.QMG_THRESH F.QMG_THRESH_SPILL_LOW = 16384 ∧
    s.fld R.QMG_THRESH F.QMG_THRESH_SPILL_HIGH = 24576 ∧ s.fld R.MESH_TWIN_CFG F.MESH_TWIN_CFG_DISPATCH = 0x5A ∧
    s.fld R.SAFE_DROVER_CFG F.SAFE_DROVER_CFG_INTERVAL_MS = 40 ∧ s.fld R.SAFE_DROVER_CFG F.SAFE_DROVER_CFG_ATTEMPTS = 4 ∧
    s.fld R.PART_MAP F.PART_MAP_MAP = 0x50 ∧ s.fld R.PART_MAP F.PART_MAP_ACTIVE = 0x50 ∧
    s.fld R.QMG_WAIT_LIMIT F.QMG_WAIT_LIMIT_WAIT_LIMIT = 8 ∧ s.flag R.PWR_WAKE_CFG F.PWR_WAKE_CFG_WAKE_EN = true ∧
    s.fld R.TMR_PPS F.TMR_PPS_WIDTH = 100 ∧ (∀ p : Part, s.fld (R.QMG_HOST_CREDIT_P p) F.QMG_HOST_CREDIT_P_CELLS = 1024) ∧
    (∀ a : Fin 4, s.rd (R.ARR_BLANK a) = w32 (2 ^ a.val)) ∧ (∀ a : Fin 4, s.fld (R.ARR_CAL_STATUS a) F.ARR_CAL_STATUS_CAUSE = 1) ∧
    (∀ p : Part, s.rd (R.SYS_LOCK p) = 0 ∧ s.rd (R.SYS_BANK p) = 0 ∧ s.rd (R.SYS_CNT_GUARD p) = 0) ∧
    (∀ p : Part, ∀ i : Fin 128, aget 0 (routeKey p i) s.host.route = if p.val = 0 then 1 else 0) ∧
    s.rd R.PASS_STATUS = 0 ∧ s.rd R.SAFE_STATE = 0 ∧ s.host.mem = [] ∧ s.pending = []

/-- The register file and the hosts' memory are canonical at reset. Where it touches them it rests on the model's choices of log entry 5. -/
def Obligations.CanonicalAtReset : Prop :=
  State.reset.canon = true

/-- Every step keeps the register file and the hosts' memory canonical. Where it touches them it rests on the model's choices of log entry
5. -/
def Obligations.CanonicalKept : Prop :=
  ∀ s t : State, s.canon = true → step s = .next t → t.canon = true

/-! ### The Pass (R14 to R26, R447, R451) -/

/-- Every message is checked before it acts: one that does not fit the order or the `CRC` is discarded, a malformed one is rejected and
acknowledged, and a LINK_IDLE does no more than acknowledge. Of every message that a command of the table brings: while the Pass is not
up nothing arrives; one with a wrong `CRC` is counted and starts the discarding, and nothing else changes; one out of order is
discarded. A malformed message with a correct `CRC`, of any type, is dropped and acknowledged, so that the next one is expected; it is
counted in `PASS_REJECT` of the H-die or in the F-die's count, which HEALTH brings to the H-die, and noted in `PASS_LAST_REJECT`.
PASS_REJECT, event source 6, is raised from the receiving die: by the F-die as the last message it sends, at the H-die through its own
event router. What the event's parameters are is not given, and they are free values (log entry 6). An accepted LINK_IDLE is
acknowledged: the receiver expects the next `SEQ` and no longer discards, the sender's next message takes the `SEQ` behind it, and what
`ACKSEQ` acknowledges leaves the opposite retry buffer, which what waits for room then enters, a TIME_SYNC with the city time of that
instant. It does nothing else. Where it touches them it rests on the model's choices of log entries 3, 6, 23. -/
def Obligations.MessagesAreCheckedFirst : Prop :=
  (∀ (c : Instr) (s : State) (d : Die) (typ : Nat) (m : PassMsg), passMessage c = some (d, typ, m) →
    let count := match d with | .h => R.PASS_CNT_CRC | .f => R.PASS_FCNT_CRC
    (s.passUp = false → exec c s = .next s) ∧
    (s.passUp = true → m.crc = passCrc typ m → m.seq ≠ (s.rxDir d).rx → exec c s = .next s) ∧
    (s.passUp = true → m.crc ≠ passCrc typ m → Does c s (fun t =>
      (t.rxDir d).discarding = true ∧ (t.rxDir d).rx = (s.rxDir d).rx ∧ t.rd count = satInc (s.rd count) ∧
      t.onlyIn s [.regs, .pass] ∧ ∀ k, k ≠ count → t.rd k = s.rd k))) ∧
  (∀ (c : Instr) (s : State) (d : Die) (typ : Nat) (m : PassMsg), passMessage c = some (d, typ, m) →
    s.passUp = true → m.crc = passCrc typ m → m.seq = (s.rxDir d).rx → passMalformed typ m = true →
    Does c s (fun t => (t.rxDir d).rx = (s.rxDir d).rx + 1 ∧ (t.rxDir d).discarding = false ∧
      t.fld R.PASS_LAST_REJECT F.PASS_LAST_REJECT_TYPE = typ % 256 ∧
      (match d with
        | .h => t.rd R.PASS_REJECT = satInc (s.rd R.PASS_REJECT) ∧ t.fld R.PASS_LAST_REJECT F.PASS_LAST_REJECT_DIE = 0
        | .f => t.pass.fReject = s.pass.fReject + 1 ∧ t.fld R.PASS_LAST_REJECT F.PASS_LAST_REJECT_DIE = 1))) ∧
  (∀ (s : State) (m : PassMsg), let typ := 0x10 + m.typ % 0xF0
    s.passUp = true → m.crc = passCrc typ m →
    passMalformed typ m = true ∧
    (m.seq = (s.rxDir .f).rx → Does (.reservedTypeMessage .f m) s (fun t =>
      (t.lastSent .f).map (fun e => (e.typ, (wordAt e.payload 0).toNat)) = some (6, 6))) ∧
    (m.seq = (s.rxDir .h).rx → Does (.reservedTypeMessage .h m) s (fun t => ∃ (u : State) (p0 p1 p2 : Word),
      t = u.evtH 6 0 p0 p1 p2 ∧ u.host = s.host ∧ u.rd R.PASS_REJECT = satInc (s.rd R.PASS_REJECT)))) ∧
  (∀ (s : State) (d : Die) (m : PassMsg), Accepted s d 0x00 m →
    Does (.linkIdle d m) s (fun t => (t.rxDir d).rx = (s.rxDir d).rx + 1 ∧ (t.rxDir d).discarding = false ∧
      ((s.rxDir d).next = m.seq → (t.rxDir d).next = m.seq + 1) ∧
      (t.txDir d).retry ++ (t.txDir d).waiting = dropAcked m.ack (s.txDir d).retry ++ (s.txDir d).waiting.map (s.passStamp d) ∧
      t = { s with pass := t.pass }))

/-- What each type of message does at the die that has accepted it. What the messages to the H-die do once accepted. What the messages to
the F-die do once accepted. Where it touches them it rests on the model's choices of log entries 4, 23. -/
def Obligations.MessagesDoTheirWork : Prop :=
  (∀ (s : State) (m : PassMsg),
    (Accepted s .h 0x05 m → exec (.compl m) s = .next ((s.acked .h m).cplDeliver (m.part % 4) m.payload)) ∧
    (Accepted s .h 0x06 m → exec (.event m) s = .next ((s.acked .h m).evtRoute m.payload)) ∧
    (Accepted s .h 0x09 m → aget 0 (m.part % 4) s.host.readTag = (wordAt m.payload 0).toNat + 1 →
      Does (.regRsp .h m) s (fun t => t.reads (m.part % 4) = wordAt m.payload 1 ∧ aget 0 (m.part % 4) t.host.readTag = 0)) ∧
    (Accepted s .h 0x0A m → Does (.timeSync m) s (fun t =>
      t.hCityNs = (wordAt m.payload 0).toNat * 1000000000 + (wordAt m.payload 1).toNat + 180 ∧ t.now = max s.now (s.pass.syncAt + 46))) ∧
    (Accepted s .h 0x0D m → Does (.safeAssert .h m) s (fun t =>
      t.fld R.SAFE_STATE F.SAFE_STATE_DRIVE_H = 1 ∧ t.safe.hQuiet = true)) ∧
    (Accepted s .h 0x0E m → Does (.bootLoad m) s (fun t =>
      t.host.bootBytes = s.host.bootBytes + m.len ∧
      t.host.microcode = (s.host.microcode || decide (s.host.microLen ≤ s.host.bootBytes + m.len)))) ∧
    (Accepted s .h 0x01 m → Does (.credit .h m) s (fun t =>
      aget 0 (m.part % 4) t.pass.spent = aget 0 (m.part % 4) s.pass.spent - (wordAt m.payload 0).toNat)) ∧
    (Accepted s .h 0x0C m → healthFault m.payload = false → Does (.health .h m) s (fun t =>
      t.safe.healthH = some s.now ∧ t.pass.fRejectSeen = (wordAt m.payload 2).toNat ∧
      (t.rd R.PASS_REJECT).toNat = min ((s.rd R.PASS_REJECT).toNat + ((wordAt m.payload 2).toNat - s.pass.fRejectSeen)) (2 ^ 32 - 1))) ∧
    (Accepted s .h 0x0F m → Does (.resetReq .h m) s (fun t =>
      t.pass.resetReqAt = some s.now ∧ t.host.stopped = true ∧ t.host.fwReady = false ∧ t.host.readTag = [] ∧
      t.fld R.PASS_STATUS F.PASS_STATUS_F_RESET = 1))) ∧
  (∀ (s : State) (m : PassMsg),
    (Accepted s .f 0x0C m → healthFault m.payload = true → exec (.health .f m) s = .next (((({ s.acked .f m with
        safe := { s.safe with healthF := some s.now, healthGoodSince := none } }).setFld R.SAFE_PEER F.SAFE_PEER_PEER_OK 0).quiet 10))) ∧
    (Accepted s .f 0x0D m → (wordAt m.payload 0).toNat < 16 → (wordAt m.payload 0).toNat ≠ 11 →
      exec (.safeAssert .f m) s = .next ((s.acked .f m).quiet (wordAt m.payload 0).toNat)) ∧
    (Accepted s .f 0x04 m → opcodeListed ((wordAt m.payload 0).toNat % 256) = true → opcodeGuarded ((wordAt m.payload 0).toNat % 256) = false →
      s.inQuiet = false → Does (.desc m) s (fun t => t.cmds = s.cmds ++ [descOf m] ∧
        (cmdLoose (descOf m) = false → t.ends.order = s.ends.order ++ [{ cmd := descOf m }]))) ∧
    (Accepted s .f 0x0B m → (s.dom ((wordAt m.payload 0).toNat % 2)).delaySeq = (wordAt m.payload 1).toNat →
      Does (.tsReport m) s (fun t => (t.dom ((wordAt m.payload 0).toNat % 2)).t3 =
        some ((wordAt m.payload 2).toNat * 1000000000 + (wordAt m.payload 3).toNat : Int))) ∧
    (Accepted s .f 0x07 m → (wordAt m.payload 0).toNat = R.NDIR_AGE → (s.acked .f m).passClear .f = false → Does (.regRd .f m) s (fun t =>
      t.sent .f = some (9, m.part % 4, [wordAt m.payload 1, s.rd R.NDIR_AGE &&& 0x1FFFF]))) ∧
    (Accepted s .f 0x07 m → (wordAt m.payload 0).toNat = R.NDIR_AGE → (s.acked .f m).passClear .f = true →
      aget 0 (m.part % 4) s.host.readTag = (wordAt m.payload 1).toNat + 1 → Does (.regRd .f m) s (fun t =>
      t.reads (m.part % 4) = s.rd R.NDIR_AGE &&& 0x1FFFF ∧ aget 0 (m.part % 4) t.host.readTag = 0)) ∧
    (Accepted s .f 0x08 m → m.part % 4 = 0 → (wordAt m.payload 0).toNat = R.NDIR_AGE → Does (.regWr .f m) s (fun t =>
      t.fld R.NDIR_AGE F.NDIR_AGE_SWEEP_S = (wordAt m.payload 1).toNat % 2 ^ 17)) ∧
    (Accepted s .f 0x08 m → m.guard = false → (wordAt m.payload 0).toNat = R.LPM_MODE → Does (.regWr .f m) s (fun t =>
      t.rd R.LPM_MODE = s.rd R.LPM_MODE ∧ t.rd (R.SYS_LOCK (m.part % 4)) = s.rd (R.SYS_LOCK (m.part % 4)))) ∧
    (Accepted s .f 0x08 m → m.guard = true → m.part % 4 = 0 → (wordAt m.payload 0).toNat = R.BIST_CTRL → Does (.regWr .f m) s (fun t =>
      t.fld R.BIST_CTRL F.BIST_CTRL_MAINT = (wordAt m.payload 1).toNat % 2 ∧ t.rd (R.SYS_LOCK 0) = s.rd (R.SYS_LOCK 0))))

/-- What the two dies send of their own accord, and when the link is resent, retrained and lost. Where it touches them it rests on the
model's choices of log entries 4, 23. -/
def Obligations.PassTimersAndLink : Prop :=
  ∀ (s : State) (d : Die), let resent := match d with | .h => R.PASS_CNT_RESEND | .f => R.PASS_FCNT_RESEND
    let lost (at_ : Nat) := (((s.advanceTo at_).setFld R.PASS_STATUS F.PASS_STATUS_DOWN 1).setFld R.PASS_STATUS F.PASS_STATUS_K6_LOCAL 1).bump
      R.PASS_CNT_DOWN
    Does .timeSyncSend s (fun t => t.sent .f = some (0x0A, 0, [w32 s.citySec, w32 s.cityNsec, 0, 0]) ∧ t.pass.syncAt = s.now ∧
      t = { s with pass := t.pass }) ∧
    Does (.healthSend d) s (fun t => (t.lastSent d).map (fun e => (e.typ, e.len, e.payload.length)) = some (0x0C, 32, 8) ∧
      t = { s with pass := t.pass }) ∧
    (s.passUp = true → exec (.healthTimeout .f) s =
      .next (({ s.advanceTo ((s.safe.healthF.getD s.now) + ms 10) with safe := { s.safe with healthGoodSince := none } }).quiet 10)) ∧
    (s.passUp = true → s.safe.hPeerBad = false → exec (.healthTimeout .h) s =
      .next (({ s.advanceTo ((s.safe.healthH.getD s.now) + ms 10) with safe := { s.safe with hPeerBad := true } }).hQuiet 10)) ∧
    (s.passUp = true → s.safe.hPeerBad = true → exec (.healthTimeout .h) s = .next (s.advanceTo ((s.safe.healthH.getD s.now) + ms 10))) ∧
    (s.passUp = true → (s.txDir d).retry ≠ [] → Does (.passResendTimeout d) s (fun t =>
      t.now = max s.now ((s.txDir d).progress + 512) ∧ t.rd resent = BitVec.ofNat 32 (satAdd 32 (s.rd resent).toNat (s.txDir d).retry.length) ∧
      (t.txDir d).retry.map (fun e => (e.seq, e.typ, e.part)) = (s.txDir d).retry.map (fun e => (e.seq, e.typ, e.part)) ∧
      ((s.txDir d).resends + 1 < 16 → (t.txDir d).resends = (s.txDir d).resends + 1 ∧ t.passUp = true) ∧
      (16 ≤ (s.txDir d).resends + 1 → (t.txDir d).resends = 0 ∧ t.passUp = false ∧ t.fld R.PASS_STATUS F.PASS_STATUS_RETRAIN = 1 ∧
        t.rd R.PASS_CNT_RETRAIN = satInc (s.rd R.PASS_CNT_RETRAIN) ∧ t.pass.retrainAt = t.now ∧ ∀ p : Part, t.unlocked p = false))) ∧
    Does .k6ClockLoss s (fun t => t.passUp = false ∧ t.fld R.PASS_STATUS F.PASS_STATUS_K6_LOCAL = 1 ∧ t.now = s.now ∧
      (s.passUp = true → t.fld R.PASS_STATUS F.PASS_STATUS_RETRAIN = 1 ∧ t.pass.retrainAt = s.now)) ∧
    (s.passUp = false → Does .passRetrainDone s (fun t => t.passUp = true ∧ t.fld R.PASS_STATUS F.PASS_STATUS_RETRAIN = 0 ∧
      t.fld R.PASS_STATUS F.PASS_STATUS_K6_LOCAL = 0 ∧ t.pass.resetReqAt = none ∧ (t.txDir d).resends = 0 ∧ (t.txDir d).discarding = false ∧
      (t.txDir d).retry.length = (s.txDir d).retry.length)) ∧
    (s.flag R.PASS_STATUS F.PASS_STATUS_RETRAIN = true → s.flag R.PASS_STATUS F.PASS_STATUS_DOWN = false →
      s.flag R.PASS_STATUS F.PASS_STATUS_F_RESET = false → let u := lost (s.pass.retrainAt + ms 10)
      let v := if s.pwr.fHeld then u else u.quiet 1
      u.fld R.PASS_STATUS F.PASS_STATUS_DOWN = 1 ∧ u.fld R.PASS_STATUS F.PASS_STATUS_K6_LOCAL = 1 ∧
      u.rd R.PASS_CNT_DOWN = satInc (s.rd R.PASS_CNT_DOWN) ∧ u.now = max s.now (s.pass.retrainAt + ms 10) ∧
      exec .passDown s = .next (if v.pwr.hHeld then v else v.hQuiet 1)) ∧
    (∀ n, s.pass.resetReqAt = some n → s.passUp = false → s.flag R.PASS_STATUS F.PASS_STATUS_DOWN = false →
      exec .resetPassTimeout s = .next ((lost (n + sec 5)).hQuiet 1))

/-! ### Host partitions, rings, vectors and locks (R304 to R333, R443 to R451) -/

/-- Doorbells, the enabling and disabling of rings, the fetch of descriptors and commands, and the order of a family of commands. A doorbell
write is taken when it does not overrun its ring, and otherwise leaves the index and raises RING_ERR; on a disabled ring it is ignored.
Enabling a ring of a mapped partition with a `SIZE` of 6 to 16 while it is disabled starts both indices at 0; a `SIZE` outside that sets
`SIZE_INVALID`; on an enabled ring the write sets `RING_BUSY`, whatever its `SIZE`; disabling stores `SIZE` 0. A partition mapped to no
port has no rings. Fetching: a good TX descriptor with credit goes to the F-die as FRAME_DN and stays in the list of fetched ones; one
that fails a check completes BAD_PARAM, cause 23, and one whose buffer cannot be read BAD_PARAM, cause 20, both by the H-die itself and
written at once where the completion ring can take them; a descriptor error disables the ring. A command is fetched and sent as DESC
with the descriptor's words; `GRANT` is set only for a guarded command from an unlocked lock, which the fetch arms. A command waits
while an earlier one of its family is still to run, and its completion waits while an earlier one of its family that runs on has not
completed; with that one's completion it goes. Where it touches them it rests on the model's choices of log entries 5, 72, 75, 87, 135. -/
def Obligations.RingsAndDescriptors : Prop :=
  (∀ (s : State) (p : Part) (r : Nat) (data : Word), r < 35 →
    (s.ringSize p r = 0 → exec (.doorbell p r data) s = .next s) ∧
    (s.ringSize p r ≠ 0 → s.doorbellOk p r (data.toNat % 65536) = false → Does (.doorbell p r data) s (fun t =>
      t.ringHost p r = s.ringHost p r ∧ t.flag (R.RING_ERR p) F.RING_ERR_DB_OVERRUN = true)) ∧
    (s.ringSize p r ≠ 0 → s.doorbellOk p r (data.toNat % 65536) = true → 16 ≤ r → r ≠ 32 → r ≠ 33 → Does (.doorbell p r data) s (fun t =>
      t.ringHost p r = data.toNat % 65536 ∧ t.onlyKeys s [R.RING_STATE r p]))) ∧
  (∀ (s : State) (p : Part) (r : Nat) (data : Word), r < 35 → let size := fget F.RING_CFG_SIZE data
    (s.mapped p = true → 6 ≤ size → size ≤ 16 → s.ringSize p r = 0 → r ≠ 33 → Does (.ringEnable p r data) s (fun t =>
      t.rd (R.RING_CFG r p) = data &&& 0x7FF ∧ t.rd (R.RING_STATE r p) = 0 ∧ aget 0 (ringKey p r) t.host.written = 0)) ∧
    (s.mapped p = true → size ≠ 0 → (size < 6 ∨ 16 < size) → Does (.ringEnable p r data) s (fun t =>
      t.flag (R.RING_ERR p) F.RING_ERR_SIZE_INVALID = true ∧ t.rd (R.RING_CFG r p) = s.rd (R.RING_CFG r p))) ∧
    (size ≠ 0 → s.ringSize p r ≠ 0 → Does (.ringEnable p r data) s (fun t =>
      t.flag (R.RING_ERR p) F.RING_ERR_RING_BUSY = true ∧ t.rd (R.RING_CFG r p) = s.rd (R.RING_CFG r p) ∧
      t.rd (R.RING_STATE r p) = s.rd (R.RING_STATE r p))) ∧
    (s.mapped p = true → Does (.ringDisable p r data) s (fun t => t.fld (R.RING_CFG r p) F.RING_CFG_SIZE = 0 ∧ t.onlyKeys s [R.RING_CFG r p])) ∧
    (s.mapped p = false → exec (.ringEnable p r data) s = .next s ∧ exec (.ringDisable p r data) s = .next s)) ∧
  (∀ (s : State) (p : Part) (r : Fin 16), s.mayFetch p r = true →
    let ws := s.ringWords p r (s.ringChip p r)
    let frame := s.memBytes p (addr64 (wordAt ws 2) (wordAt ws 3)) (bitsAt (wordAt ws 0) 0 13)
    let f : Fetched := ⟨p, r, s.ringChip p r, 0, 0, wordAt ws 4, 0⟩
    (txDescOk p (wordAt ws 0) frame = true → frameCells (bitsAt (wordAt ws 0) 0 13) ≤ s.creditLeft p →
      Does (.txDescFetch p r .ok) s (fun t =>
        (t.lastSent .h).map (fun e => (e.typ, e.part)) = some (2, p.val) ∧
        t.host.fetched = s.host.fetched ++ [f] ∧
        aget 0 p.val t.pass.spent = aget 0 p.val s.pass.spent + frameCells (bitsAt (wordAt ws 0) 0 13) ∧
        t.ringChip p r = (s.ringChip p r + 1) % 65536)) ∧
    (txDescOk p (wordAt ws 0) frame = false → s.cplReady p = true → Does (.txDescFetch p r .ok) s (fun t =>
      t.cplWritten s p (txRecord f stBAD_PARAM 0 0 63 false 23 0) ∧ t.ringChip p r = (s.ringChip p r + 1) % 65536)) ∧
    (s.cplReady p = true → Does (.txDescFetch p r .bufError) s (fun t =>
      t.cplWritten s p (txRecord f stBAD_PARAM 0 0 63 false 20 0) ∧ t.ringChip p r = (s.ringChip p r + 1) % 65536 ∧
      t.flag (R.RING_ERR p) F.RING_ERR_BUF_DMA = true)) ∧
    Does (.txDescFetch p r .descError) s (fun t =>
      t.ringSize p r = 0 ∧ t.flag (R.RING_ERR p) F.RING_ERR_DESC_DMA = true ∧ t.host.fetched = s.host.fetched)) ∧
  (∀ (s : State) (p : Part), s.mayFetch p 32 = true →
    let ws := s.ringWords p 32 (s.ringChip p 32)
    let grant := opcodeGuarded ((wordAt ws 0).toNat % 256) && s.unlocked p
    Does (.commandFetch p .ok) s (fun t =>
      (t.lastSent .h).map (fun e => (e.typ, e.part, bitAt (wordAt e.payload 0) 8, e.payload.drop 1)) = some (4, p.val, grant, ws.drop 1) ∧
      (grant = true → t.unlocked p = false) ∧ (grant = false → t.unlocked p = s.unlocked p) ∧
      t.host.fetched.length = s.host.fetched.length + 1)) ∧
  ((∀ (i : Instr) (c : CmdDesc) (s : State), commandOf i = some c → s.cmdTurn c = false → exec i s = .next s) ∧
  (∀ (s : State) (c : CmdDesc) (x : CplSlot), s.cmdTurn c = true → s.ends.order = [x, { cmd := c }] → x.done = none → x.cmd ≠ c →
    cmdFamily x.cmd = cmdFamily c → cmdLoose c = false → Does (.addrQuarantine c) s (fun t =>
      t.pass.fh = s.pass.fh ∧ t.ends.order.length = 2 ∧ t.ends.order.head? = some x ∧ (t.ends.order.all (fun y => y = x || y.done.isSome)) = true)) ∧
  (∀ (s : State) (c d : CmdDesc) (ws : List Word), s.cmdTurn c = true → s.ends.order = [{ cmd := c }, { cmd := d, done := some ws }] →
    cmdFamily c = cmdFamily d → cmdLoose c = false → Does (.addrQuarantine c) s (fun t =>
      t.sent .f = some (5, d.part.val, ws) ∧ t.ends.order = [])))

/-- Frames that a ring takes, interrupt vectors, configuration accesses and reads that wait. Receive write-back waits for enough posted
descriptors; with them the frame leaves the H-die, and a frame from a partition completes the sender's descriptor OK, written at once
where its completion ring can take it. A read error on a descriptor disables the ring, and the frame stays. Interrupt vectors: while
MSI-X is enabled, a pending trigger fires when the hold-off ends and when the vector is unmasked; a vector can be masked again, and the
words of the MSI-X table read back as written. Configuration requests are answered with retry status until the microcode is loaded, then
with the words that the spec gives: a BAR takes the address bits above its size, and the codes of the Max Payload and Max Read Request
Size that the spec lists are taken. A BAR0 read that waits for a retrain answers all ones once the retrain has lasted 2 ms. Where it
touches them it rests on the model's choices of log entries 81, 83, 105. -/
def Obligations.FramesVectorsAndReads : Prop :=
  (∀ (s : State) (p : Part) (r : Fin 16) (f : HeldFrame), s.host.held.find? (fun f => f.part = p.val && f.ring = r.val) = some f →
    (∀ dma, s.ringSize p (16 + r) = 0 → exec (.rxWriteback p r dma) s = .next s) ∧
    (∀ dma, s.ringSize p (16 + r) ≠ 0 → dma ≠ .descError →
      s.rxPlan p (16 + r) (s.ringPosted p (16 + r)) (s.ringChip p (16 + r)) f.bytes.length = none → exec (.rxWriteback p r dma) s = .next s) ∧
    (∀ plan, s.ringSize p (16 + r) ≠ 0 →
      s.rxPlan p (16 + r) (s.ringPosted p (16 + r)) (s.ringChip p (16 + r)) f.bytes.length = some plan → f.src = none →
      Does (.rxWriteback p r .ok) s (fun t => t.host.held = s.host.held.erase f ∧ t.ringChip p 33 = s.ringChip p 33)) ∧
    (∀ plan d, s.ringSize p (16 + r) ≠ 0 →
      s.rxPlan p (16 + r) (s.ringPosted p (16 + r)) (s.ringChip p (16 + r)) f.bytes.length = some plan → f.src = some d →
      s.host.fetched.any (cplAnswers d.part (txRecord d stOK 0 0 63 false 0 0)) = true →
      s.cplReady d.part = true → Does (.rxWriteback p r .ok) s (fun t => t.host.held = s.host.held.erase f ∧
        t.cplWritten s d.part (txRecord d stOK 0 0 63 false 0 0))) ∧
    (s.ringSize p (16 + r) ≠ 0 → Does (.rxWriteback p r .descError) s (fun t => t.ringSize p (16 + r) = 0 ∧
      t.flag (R.RING_ERR p) F.RING_ERR_DESC_DMA = true ∧ t.host.held = s.host.held))) ∧
  (∀ (s : State) (p : Part) (v : Fin 32) (data : Word), let control := BitVec.ofNat 14 (16 * v + 12)
    (aget 0 (vecKey p v) s.host.holdoff ≠ 0 → aget 0 (vecKey p v) s.host.pba ≠ 0 → s.vecOpen p v = true →
      Does (.vectorHoldoffExpiry p v) s (fun t =>
        aget 0 (vecKey p v) t.host.fired = aget 0 (vecKey p v) s.host.fired + 1 ∧ aget 0 (vecKey p v) t.host.pba = 0)) ∧
    (s.mapped p = true → s.pwr.hHeld = false → aget 0 p.val s.host.msixOn ≠ 0 → aget 0 (vecKey p v) s.host.pba ≠ 0 →
      aget 0 (vecKey p v) s.host.holdoff ≤ s.now → bitAt data 0 = false → Does (.msixUnmask p control (some data)) s (fun t =>
      aget 0 (vecKey p v) t.host.fired = aget 0 (vecKey p v) s.host.fired + 1 ∧ aget 0 (vecKey p v) t.host.pba = 0 ∧ t.vecOpen p v = true)) ∧
    (s.mapped p = true → s.pwr.hHeld = false → bitAt data 0 = true → Does (.msixUnmask p control (some data)) s (fun t =>
      t.vecOpen p v = false ∧ t.host.fired = s.host.fired)) ∧
    (∀ k : Fin 3, s.mapped p = true → s.pwr.hHeld = false → Does (.msixUnmask p (BitVec.ofNat 14 (16 * v + 4 * k)) (some data)) s (fun t =>
      t.msixRead p (16 * v + 4 * k) = data)) ∧
    (∀ off, s.mapped p = true → s.pwr.hHeld = false → exec (.msixUnmask p off none) s = .next (s.answer p (s.msixRead p off.toNat)))) ∧
  (∀ (s : State) (p : Part) (data : Word), let ready := s.mapped p = true ∧ s.pwr.hHeld = false ∧ s.host.microcode = true
    (∀ a, s.mapped p = true → s.pwr.hHeld = false → s.host.microcode = false → Does (.configRequest p a) s (fun t => aget 0 p.val t.host.cfgAnswer = 2)) ∧
    (ready → Does (.configRequest p (.read 0)) s (fun t => aget 0 p.val t.host.cfgAnswer = 1 ∧ t.reads p = 0x71601FB3)) ∧
    (ready → Does (.configRequest p (.write 0x10 data)) s (fun t => aget 0 p.val t.host.cfgAnswer = 1 ∧ t.barWord p 0 = (data &&& 0xFFFF0000) ||| 4)) ∧
    (ready → Does (.configRequest p (.writeMsix true)) s (fun t => aget 0 p.val t.host.msixOn = 1)) ∧
    (∀ m q, ready → m.val ≤ 2 → q.val ≤ 5 → Does (.configRequest p (.writeDevice m q)) s (fun t =>
      aget 0 p.val t.host.mps = m.val ∧ aget 2 p.val t.host.mrrs = q.val)) ∧
    (aget 0 p.val s.host.readTag ≠ 0 → s.passUp = false → Does (.bar0ReadTimeout p) s (fun t =>
      t.reads p = 0xFFFFFFFF ∧ aget 0 p.val t.host.readTag = 0 ∧ t.now = max s.now (s.pass.retrainAt + ms 2))))

/-- Locks, banks, and the accesses to registers through their windows. A lock: 0x0000_C35A unlocks it and starts its 100 µs, any other value
arms it, and it arms by itself. A bank is selected; 3 is ignored and sets `BANK_INVALID`. A register write and a read through any alias
of a register reach the register: `EVT_HOLDOFFv` stores its field, `EVT_CNT_DROP` clears when it is read, an empty window reads 0 and
ignores writes; F-die registers answer all ones and drop writes while the Pass is down. A write without all four byte enables is
ignored. An access of 64 bits is split in two, the lower address first. Where it touches them it rests on the model's choices of log
entries 29, 83. -/
def Obligations.LocksBanksAndRegisters : Prop :=
  (∀ (s : State) (p : Part) (data : Word),
    Does (.lockUnlock p) s (fun t => t.unlocked p = true ∧ aget 0 p.val t.host.lockAt = s.now + 1 ∧ t.onlyKeys { s with host := t.host } [R.SYS_LOCK p]) ∧
    (data ≠ 0x0000C35A → Does (.lockArm p data) s (fun t => t.unlocked p = false ∧ ∀ q : Part, q ≠ p → t.unlocked q = s.unlocked q)) ∧
    (s.unlocked p = true → Does (.lockTimeout p) s (fun t =>
      t.unlocked p = false ∧ t.now = max s.now (aget 0 p.val s.host.lockAt - 1 + us 100)))) ∧
  (∀ (s : State) (p : Part) (data : Word),
    (fget F.SYS_BANK_BANK data ≠ 3 → Does (.bankSelect p data) s (fun t =>
      t.fld (R.SYS_BANK p) F.SYS_BANK_BANK = fget F.SYS_BANK_BANK data ∧ t.onlyKeys s [R.SYS_BANK p])) ∧
    (fget F.SYS_BANK_BANK data = 3 → Does (.bankSelect p data) s (fun t =>
      t.flag (R.SYS_ERR p) F.SYS_ERR_BANK_INVALID = true ∧ t.onlyKeys s [R.SYS_ERR p]))) ∧
  (∀ (s : State) (p : Part) (v : Fin 32) (k : Fin 4) (data : Word), s.mapped p = true →
    Does (.registerWrite p (BitVec.ofNat 16 (0x3100 + 4 * v + 1024 * k)) 15 data none) s (fun t =>
      t.fld (R.EVT_HOLDOFF v p) F.EVT_HOLDOFF_HOLDOFF = data.toNat % 1024 ∧ t.onlyKeys s [R.EVT_HOLDOFF v p]) ∧
    Does (.readClear p (BitVec.ofNat 16 (0x3008 + 1024 * k)) false) s (fun t =>
      t.reads p = s.rd (R.EVT_CNT_DROP p) ∧ t.rd (R.EVT_CNT_DROP p) = 0 ∧ t.onlyKeys { s with host := t.host } [R.EVT_CNT_DROP p]) ∧
    (exec (.registerWrite p (BitVec.ofNat 16 (0xF000 + 4 * v)) 15 data none) s = .next s ∧
      Does (.readClear p (BitVec.ofNat 16 (0xF000 + 4 * v)) false) s (fun t => t.reads p = 0)) ∧
    (s.fld (R.SYS_BANK p) F.SYS_BANK_BANK = 0 → s.fAccess = 0 → s.passClear .h = true → s.passClear .f = true →
      Does (.readClear p 0x7020 false) s (fun t => t.reads p = s.rd R.SRCH_CNT_COLLIDE ∧ t.rd R.SRCH_CNT_COLLIDE = 0)) ∧
    (s.fld (R.SYS_BANK p) F.SYS_BANK_BANK = 0 → s.fAccess ≠ 2 → s.passClear .h = false → Does (.readClear p 0x7020 false) s (fun t =>
      t.sent .h = some (7, p.val, [w32 R.SRCH_CNT_COLLIDE, w32 s.pass.hf.next.toNat]) ∧ t.regs = s.regs)) ∧
    (s.fld (R.SYS_BANK p) F.SYS_BANK_BANK = 0 → s.fAccess = 2 → Does (.readClear p 0x7020 false) s (fun t =>
      t.reads p = 0xFFFFFFFF ∧ t.rd R.SRCH_CNT_COLLIDE = s.rd R.SRCH_CNT_COLLIDE)) ∧
    (s.fld (R.SYS_BANK p) F.SYS_BANK_BANK = 0 → s.fAccess = 2 → exec (.registerWrite p 0x7010 15 data none) s = .next s) ∧
    (∀ off be, be ≠ 15 → exec (.registerWrite p off be data none) s = .next s) ∧
    (∀ (r : Fin 35) (high : Word), s.ringSize p r = 0 → Does (.registerWrite p (BitVec.ofNat 16 (0x2100 + 16 * r)) 15 data (some (15, high))) s (fun t =>
      t.rd (R.RING_BASE_LO r p) = data &&& 0xFFFFFFC0 ∧ t.rd (R.RING_BASE_HI r p) = high ∧ t.onlyKeys s [R.RING_BASE_LO r p, R.RING_BASE_HI r p])) ∧
    (∀ r : Fin 35, Does (.readClear p (BitVec.ofNat 16 (0x2100 + 16 * r)) true) s (fun t =>
      t.reads p = s.rd (R.RING_BASE_HI r p) ∧ aget 0 p.val t.host.readLow = s.rd (R.RING_BASE_LO r p) ∧ t.regs = s.regs)))

/-- R305: `PART_MAP` is guarded and written by partition 0 only; a mapping that leaves P0 unmapped or names the reserved value is ignored
and sets `MAP_INVALID`; the mapping is kept by an F-die reset and by POR_H and PIN_H, which apply it; `ACTIVE`, the mapping in force,
does not change at the write. -/
def Obligations.PartMapIsGuardedAndApplied : Prop :=
  ∀ (s : State) (q : Part) (data : Word) (k : Nat) (b : Bool), let m := fget F.PART_MAP_MAP data
    (s.unlocked q = false → exec (.partMapWrite q data) s = .next (s.guardViolationH q 0x1008 data)) ∧
    (s.unlocked 0 = true → mapInvalid m = false → Does (.partMapWrite 0 data) s (fun t =>
      t.fld R.PART_MAP F.PART_MAP_MAP = m ∧ t.fld R.PART_MAP F.PART_MAP_ACTIVE = s.fld R.PART_MAP F.PART_MAP_ACTIVE ∧ t.unlocked 0 = false)) ∧
    (s.unlocked 0 = true → mapInvalid m = true → Does (.partMapWrite 0 data) s (fun t =>
      t.rd R.PART_MAP = s.rd R.PART_MAP ∧ t.flag (R.PART_ERR 0) F.PART_ERR_MAP_INVALID = true ∧ t.unlocked 0 = false)) ∧
    (q ≠ 0 → s.unlocked q = true → Does (.partMapWrite q data) s (fun t =>
      t.rd R.PART_MAP = s.rd R.PART_MAP ∧ t.flag (R.PART_ERR q) F.PART_ERR_PART_WRITE = true ∧ t.unlocked q = false)) ∧
    (s.canon = true → (s.fDieReset k b).rd R.PART_MAP = s.rd R.PART_MAP ∧
      (s.hDieReset b).fld R.PART_MAP F.PART_MAP_MAP = s.fld R.PART_MAP F.PART_MAP_MAP ∧
      (s.hDieReset b).fld R.PART_MAP F.PART_MAP_ACTIVE = s.fld R.PART_MAP F.PART_MAP_MAP)

/-- A write of a guarded register of the F-die through an armed lock changes nothing of the register, whatever offset of its window it uses.
It is counted in the writer's `SYS_CNT_GUARD` and crosses the Pass with `GUARD` 0; the F-die raises GUARD_VIOLATION to the writer, with
the register's address and the data, and writes the Ledger record: at once when no earlier message is on its way, else as the REG_WR
arrives. Where it touches them it rests on the model's choices of log entry 29. -/
def Obligations.ArmedLockRefusesGuardedWrites : Prop :=
  ∀ (s : State) (p : Part) (off : BitVec 16) (data : Word) (a : Nat), s.barAddr p off.toNat = some a →
    a ∈ [R.SYS_RESET, R.KEY_SLOT_ERASE, R.KEY_TAMPER_CFG, R.KEY_TAMPER_STAT, R.LPM_MODE, R.SAFE_CTRL, R.SAFE_ESC, R.SAFE_DROVER_CFG,
      R.PWR_FORCE, R.BOOT_SEL, R.BOOT_RB, R.BIST_CTRL] →
    s.mapped p = true → s.unlocked p = false → s.fAccess = 0 →
    (s.passClear .h = true → let u := ((s.passCross .h).bump (R.SYS_CNT_GUARD p)).evtF 7 (2 ^ p.val) (w32 a) 0 data
      u.raised 7 (w32 a) 0 data ∧
      exec (.registerWrite p off 15 data none) s = .next (u.ledger 0x0040 p (w32 a) 0 0) ∧
      Does (.registerWrite p off 15 data none) s (fun t => t.rd a = s.rd a ∧ t.rd (R.SYS_CNT_GUARD p) = satInc (s.rd (R.SYS_CNT_GUARD p)) ∧
        t.unlocked p = false)) ∧
    (s.passClear .h = false → Does (.registerWrite p off 15 data none) s (fun t =>
      (t.lastSent .h).map (fun e => (e.typ, e.part, e.guard, e.payload)) = some (8, p.val, false, [w32 a, data]) ∧
      t.rd a = s.rd a ∧ t.onlyKeys { s with pass := t.pass } [R.SYS_CNT_GUARD p] ∧
      t.rd (R.SYS_CNT_GUARD p) = satInc (s.rd (R.SYS_CNT_GUARD p)))) ∧
    (∀ m : PassMsg, Accepted s .f 8 m → m.guard = false → m.part % 4 = p.val → wordAt m.payload 0 = w32 a → wordAt m.payload 1 = data →
      let u := (s.acked .f m).evtF 7 (2 ^ p.val) (w32 a) 0 data
      u.raised 7 (w32 a) 0 data ∧
      Does (.regWr .f m) s (fun t => t.rd a = s.rd a ∧ t.rd (R.SYS_CNT_GUARD p) = s.rd (R.SYS_CNT_GUARD p) ∧
        t.pass = (u.ledger 0x0040 p (w32 a) 0 0).pass ∧ t.log = (u.ledger 0x0040 p (w32 a) 0 0).log))

/-! ### Ethernet (R296 to R298, R334 to R345, R364, R365) -/

/-- Ethernet ports, reception and sending. Ports are configured by partition 0; a port that is up keeps its mode and its frame length, a
disabled one has no link; a change of the link is raised. Reception: what is counted and dropped, and what goes on to the ingress FIFO
with a timestamp corrected by `RX_LAT`; the oldest frame crosses the Pass when its cells leave the floor. Sending: the next frame leaves
the port's FIFO and is counted; when its descriptor asks, its timestamp joins the port's queue of 64, behind the entries kept, or is
discarded and counted; a host's frame completes OK with the instant of its first bit; timestamps are read oldest first. Where it touches
them it rests on the model's choices of log entries 28, 83, 104, 106. -/
def Obligations.EthernetRuns : Prop :=
  (∀ (s : State) (p : Part) (e : Fin 4) (data : Word),
    (p ≠ 0 → Does (.portEnable p e data) s (fun t => t.flag R.ETH_ERR F.ETH_ERR_PART_WRITE = true ∧ t.onlyKeys s [R.ETH_ERR])) ∧
    (s.flag (R.ETH_CFG e) F.ETH_CFG_EN = false → Does (.portEnable 0 e data) s (fun t =>
      t.rd (R.ETH_CFG e) = fset F.ETH_CFG_EN data 1 &&& 0x1FFFFFFF ∧ t.regsBut s [R.ETH_CFG e] ∧ t = { s with regs := t.regs, eth := t.eth } ∧
      t.eth = s.eth ∧ (s.pwr.vaultOff = false → s.pwr.hHeld = false → t.txDis e = some false))) ∧
    (s.flag (R.ETH_CFG e) F.ETH_CFG_EN = true →
      (fget F.ETH_CFG_MAX_LEN data ≠ s.fld (R.ETH_CFG e) F.ETH_CFG_MAX_LEN ∨ fget F.ETH_CFG_MODE data ≠ s.fld (R.ETH_CFG e) F.ETH_CFG_MODE) →
      Does (.portEnable 0 e data) s (fun t => t.flag R.ETH_ERR F.ETH_ERR_CFG_BUSY = true ∧
        t.fld (R.ETH_CFG e) F.ETH_CFG_MAX_LEN = s.fld (R.ETH_CFG e) F.ETH_CFG_MAX_LEN ∧
        t.fld (R.ETH_CFG e) F.ETH_CFG_MODE = s.fld (R.ETH_CFG e) F.ETH_CFG_MODE ∧ t.regsBut s [R.ETH_CFG e, R.ETH_ERR])) ∧
    Does (.portDisable 0 e data) s (fun t =>
      t.flag (R.ETH_CFG e) F.ETH_CFG_EN = false ∧ t.flag (R.ETH_STATUS e) F.ETH_STATUS_LINK = false) ∧
    (s.flag (R.ETH_CFG e) F.ETH_CFG_EN = true → s.flag (R.ETH_STATUS e) F.ETH_STATUS_LINK = false → Does (.ethLink e true 1 false) s (fun t =>
      t.flag (R.ETH_STATUS e) F.ETH_STATUS_LINK = true ∧ t.regsBut s [R.ETH_STATUS e] ∧
      (t.lastSent .f).map (fun m => (m.typ, (wordAt m.payload 0).toNat, (wordAt m.payload 1).toNat)) = some (6, 23, e.val)))) ∧
  (∀ (s : State) (e : Fin 4) (bs : List Byte), s.flag (R.ETH_CFG e) F.ETH_CFG_EN = true → s.flag (R.ETH_STATUS e) F.ETH_STATUS_LINK = true →
    (exec (.ethFrameRx e bs false) s = .next (s.bump (R.ETH_CNT_RXERR e))) ∧
    (bs.length < 60 ∨ s.maxLen e < bs.length + 4 → exec (.ethFrameRx e bs true) s = .next (s.bump (R.ETH_CNT_RXERR e))) ∧
    (60 ≤ bs.length → bs.length + 4 ≤ s.maxLen e → isPause bs = true → exec (.ethFrameRx e bs true) s = .next (s.bump (R.ETH_CNT_PAUSE e))) ∧
    (60 ≤ bs.length → bs.length + 4 ≤ s.maxLen e → isPause bs = false → s.ethForMe e bs = false → exec (.ethFrameRx e bs true) s = .next s) ∧
    (60 ≤ bs.length → bs.length + 4 ≤ s.maxLen e → isPause bs = false → s.ethForMe e bs = true → s.eth.rxFifo = [] →
      s.prpOn = false → s.ptpTracked e bs = true → Does (.ethFrameRx e bs true) s (fun t =>
        t.eth = { s.eth with rxFifo := [⟨e, bs, s.portTime - s.fld (R.PTP_LAT e) F.PTP_LAT_RX_LAT⟩] } ∧
        t.rd (R.ETH_CNT_RXOK e) = satInc (s.rd (R.ETH_CNT_RXOK e)) ∧ t.regsBut s [R.ETH_CNT_RXOK e])) ∧
    (∀ x, s.eth.rxFifo.find? (fun x => x.port = e.val) = some x → s.passUp = true → s.pwr.hush = false → s.pwrState ≠ 3 →
      s.cellsOk (frameCells x.bytes.length) false = true → Does (.ethIngressDrain e) s (fun t =>
        t.eth.rxFifo = s.eth.rxFifo.erase x ∧ (t.lastSent .h).map (fun m => (m.typ, m.len)) = some (2, 32 + x.bytes.length) ∧
        t.qmg.inHand = s.qmg.inHand ++ [(s.takeChain (frameCells x.bytes.length)).1]))) ∧
  (∀ (s : State) (e : Fin 4),
    (∀ f, s.flag (R.ETH_STATUS e) F.ETH_STATUS_LINK = true → s.ethNext e = some f → f.src = none → f.tsReq = false →
      Does (.ethTxDone e) s (fun t => t.eth.tx = s.eth.tx.erase f ∧ t.rd (R.ETH_CNT_TXOK e) = satInc (s.rd (R.ETH_CNT_TXOK e)) ∧
        t.regsBut s [R.ETH_CNT_TXOK e] ∧ t.host = s.host)) ∧
    (∀ f, s.flag (R.ETH_STATUS e) F.ETH_STATUS_LINK = true → s.ethNext e = some f → f.src = none → f.tsReq = true →
      (aget [] e.val s.eth.txts).length < 64 → Does (.ethTxDone e) s (fun t => t.eth.tx = s.eth.tx.erase f ∧
        aget [] e.val t.eth.txts = aget [] e.val s.eth.txts ++ [(f.tsId, s.portTime + s.fld (R.PTP_LAT e) F.PTP_LAT_TX_LAT)])) ∧
    (∀ f, s.flag (R.ETH_STATUS e) F.ETH_STATUS_LINK = true → s.ethNext e = some f → f.src = none → f.tsReq = true →
      64 ≤ (aget [] e.val s.eth.txts).length → Does (.ethTxDone e) s (fun t => t.eth.tx = s.eth.tx.erase f ∧
        t.eth.txts = s.eth.txts ∧ t.rd (R.PTP_CNT_TSOVF e) = satInc (s.rd (R.PTP_CNT_TSOVF e)))) ∧
    (∀ f d, s.flag (R.ETH_STATUS e) F.ETH_STATUS_LINK = true → s.ethNext e = some f → f.src = some d → f.tsReq = false →
      s.host.fetched.any (cplAnswers d.part (txRecord d stOK (descTime s.portTime) 0 63 false 0 0)) = true → s.cplReady d.part = true →
      Does (.ethTxDone e) s (fun t => t.cplWritten s d.part (txRecord d stOK (descTime s.portTime) 0 63 false 0 0) ∧
        t.rd (R.ETH_CNT_TXOK e) = satInc (s.rd (R.ETH_CNT_TXOK e)))) ∧
    (∀ i ns r, aget [] e.val s.eth.txts = (i, ns) :: r → Does (.txtsPop 0 e) s (fun t =>
      t.reads 0 = w32 (i % 65536 + 2 ^ 16) ∧ t.rd (R.PTP_TXTS_S e) = w32 (ns / 1000000000) ∧
      t.rd (R.PTP_TXTS_NS e) = w32 (ns % 1000000000) ∧ aget [] e.val t.eth.txts = r)) ∧
    (aget [] e.val s.eth.txts = [] → exec (.txtsPop 0 e) s = .next (s.answer 0 0)) ∧
    (s.prpOn = true → s.flag (R.ETH_STATUS 0) F.ETH_STATUS_LINK = true → s.flag (R.ETH_STATUS 1) F.ETH_STATUS_LINK = true →
      Does .supervisionTx s (fun t => t.eth.tx.map (·.port) = s.eth.tx.map (·.port) ++ [0, 1] ∧ t.eth.prpSeq = (s.eth.prpSeq + 1) % 65536 ∧
        t.eth.supSeq = (s.eth.supSeq + 1) % 65536 ∧ t.eth.supAt = t.now + 1 ∧
        t.now = (if s.eth.supAt = 0 then s.now else max s.now (s.eth.supAt - 1 + ms s.lifeCheck)) ∧ t.regs = s.regs)) ∧
    (s.prpOn = false → exec .supervisionTx s = .next s))

/-- PRP's configuration and table, and the MDIO bus. Where it touches them it rests on the model's choices of log entries 10, 12, 106. -/
def Obligations.PrpAndMdio : Prop :=
  ∀ (s : State) (data : Word) (src : BitVec 48) (x : PrpEntry) (answer : BitVec 16),
    (s.flag (R.ETH_CFG 0) F.ETH_CFG_EN = false → s.flag (R.ETH_CFG 1) F.ETH_CFG_EN = false →
      exec (.prpConfigWrite 0 data) s = .next (s.wr R.PRP_CFG (data &&& 0x7FFFFFF))) ∧
    (s.flag (R.ETH_CFG 0) F.ETH_CFG_EN = true → fget F.PRP_CFG_PRP_EN data ≠ s.fld R.PRP_CFG F.PRP_CFG_PRP_EN →
      Does (.prpConfigWrite 0 data) s (fun t => t.flag R.PRP_ERR F.PRP_ERR_PRP_BUSY = true ∧
        t.fld R.PRP_CFG F.PRP_CFG_PRP_EN = s.fld R.PRP_CFG F.PRP_CFG_PRP_EN ∧
        t.fld R.PRP_CFG F.PRP_CFG_ENTRY_FORGET = fget F.PRP_CFG_ENTRY_FORGET data)) ∧
    (s.eth.prp.find? (fun x => x.src = src) = some x → Does (.prpEntryForget src) s (fun t =>
      t.eth.prp = s.eth.prp.filter (fun y => y.src ≠ src) ∧ t.now = max s.now (x.last + ms s.entryForget))) ∧
    (s.flag R.ETH_MDIO F.ETH_MDIO_BUSY = false →
      Does (.mdioWrite 0 data) s (fun t => t.flag R.ETH_MDIO F.ETH_MDIO_BUSY = true ∧ t.eth = { s.eth with mdio := 1 }) ∧
      Does (.mdioRead 0 data) s (fun t => t.flag R.ETH_MDIO F.ETH_MDIO_BUSY = true ∧ t.eth = { s.eth with mdio := 2 })) ∧
    (s.flag R.ETH_MDIO F.ETH_MDIO_BUSY = true → exec (.mdioWrite 0 data) s = .next s ∧ exec (.mdioRead 0 data) s = .next s) ∧
    (s.eth.mdio = 2 → Does (.mdioDone answer) s (fun t => t.flag R.ETH_MDIO F.ETH_MDIO_BUSY = false ∧
      t.fld R.ETH_MDIO F.ETH_MDIO_DATA = answer.toNat ∧ t.eth.mdio = 0 ∧ t.regsBut s [R.ETH_MDIO])) ∧
    (s.eth.mdio = 1 → Does (.mdioDone answer) s (fun t => t.flag R.ETH_MDIO F.ETH_MDIO_BUSY = false ∧
      t.fld R.ETH_MDIO F.ETH_MDIO_DATA = s.fld R.ETH_MDIO F.ETH_MDIO_DATA ∧ t.eth.mdio = 0 ∧ t.regsBut s [R.ETH_MDIO]))

/-- Gate lists: a commit is pending unless its base is no time of day, and the switch makes the admin list operational; the end of an
interval moves on to the next entry that has one. Where it touches them it rests on the model's choices of log entries 28, 36, 106. -/
def Obligations.GateLists : Prop :=
  ∀ (s : State) (e : Fin 4) (data : Word), let k := R.SHP_GCL_CTRL e
    (s.fld (R.SHP_GCL_BASE_NS e) F.SHP_GCL_BASE_NS_NS < 1000000000 → Does (.gclCommit 0 e data) s (fun t =>
      t.flag k F.SHP_GCL_CTRL_PENDING = true ∧ t.fld k F.SHP_GCL_CTRL_LEN = fget F.SHP_GCL_CTRL_LEN data ∧ t.onlyKeys s [k])) ∧
    (1000000000 ≤ s.fld (R.SHP_GCL_BASE_NS e) F.SHP_GCL_BASE_NS_NS → Does (.gclCommit 0 e data) s (fun t =>
      t.flag R.SHP_ERR F.SHP_ERR_GCL_BUSY = true ∧ t.flag k F.SHP_GCL_CTRL_PENDING = s.flag k F.SHP_GCL_CTRL_PENDING ∧
      t.onlyKeys s [k, R.SHP_ERR])) ∧
    (s.flag k F.SHP_GCL_CTRL_PENDING = true → Does (.gclSwitch e) s (fun t =>
      t.flag k F.SHP_GCL_CTRL_PENDING = false ∧ (∀ i, i < 256 → t.gclEntry 1 e i = s.gclEntry 0 e i) ∧
      (t.gate e).len = min 256 (s.fld k F.SHP_GCL_CTRL_LEN) ∧ (t.gate e).idx = 0 ∧ t.regsBut s [k])) ∧
    (s.flag k F.SHP_GCL_CTRL_PENDING = false → exec (.gclSwitch e) s = .next s) ∧
    (∀ g n rest, s.gateRound e (s.gate e).idx = (g, n) :: rest → Does (.gateIntervalEnd e) s (fun t =>
      (t.gate e).since = (s.gate e).since + n ∧ (t.gate e).idx = s.gateSeek e ((s.gateSeek e (s.gate e).idx + 1) % (s.gate e).len) ∧
      fget F.SHP_GCL_DATA_INTERVAL (t.gclEntry 1 e (t.gate e).idx) ≠ 0)) ∧
    (s.gateRound e (s.gate e).idx = [] → exec (.gateIntervalEnd e) s = .next s)

/-! ### City time and timers (R345 to R364) -/

/-- City time, the tracked PTP domains, and the second pulses and time reads. City time is set and adjusted: SET steps it, enters MANUAL
with `SRC` 0 and makes it valid; with the slot engine running it is refused; an adjustment above 100 µs with the engine stopped steps,
any other is added to what is still to be slewed. The tracked domains: Delay_Req is sent and reported, a domain whose messages cease is
re-evaluated after its time, and the preferred domain becomes active again. The pins and registers of time: an edge of PPS_IN more than
400 ms off is rejected; two seconds without an edge put a locked servo in HOLDOVER; PPS_OUT rises at a whole second and falls after its
width; the vault seconds follow; a read latches the seconds. Where it touches them it rests on the model's choices of log entries 4, 13,
107, 115. -/
def Obligations.CityTimeRuns : Prop :=
  (∀ s : State, let ns := (s.rd R.TMR_SET_S).toNat * 1000000000 + s.fld R.TMR_SET_NS F.TMR_SET_NS_NS
    let adj := (s.rd R.TMR_ADJ_NS).toInt
    (s.running = false → s.fld R.TMR_SET_NS F.TMR_SET_NS_NS < 1000000000 → Does (.timeSet 0) s (fun t =>
      t.cityNs = ns ∧ t.time.valid = true ∧ t.servo = 4 ∧ t.src = 0 ∧ t.regsBut s [R.TMR_SRC, R.TMR_SERVO])) ∧
    (s.running = true → Does (.timeSet 0) s (fun t => t.flag R.TMR_ERR F.TMR_ERR_TIME_RUNNING = true ∧ t.onlyKeys s [R.TMR_ERR])) ∧
    (s.running = false → 100000 < adj.natAbs → exec (.timeAdjust 0) s =
      .next { s with time := { s.time with city32 := ((s.time.city32 : Int) + 32 * adj).toNat } }) ∧
    (s.running = true ∨ adj.natAbs ≤ 100000 → exec (.timeAdjust 0) s = .next { s with time := { s.time with slew := s.time.slew + adj } }) ∧
    (∀ p : Part, p ≠ 0 → Does (.timeSet p) s (fun t => t.flag R.TMR_ERR F.TMR_ERR_PART_WRITE = true ∧ t.onlyKeys s [R.TMR_ERR]) ∧
      Does (.timeAdjust p) s (fun t => t.flag R.TMR_ERR F.TMR_ERR_PART_WRITE = true ∧ t.onlyKeys s [R.TMR_ERR]))) ∧
  (∀ (s : State) (d : Fin 2),
    (s.domEn d = true → (s.dom d).syncSeen = true → s.flag (R.ETH_STATUS (s.fld (R.TMR_DOM_CFG d) F.TMR_DOM_CFG_PORT)) F.ETH_STATUS_LINK = true →
      s.passUp = true → (s.dom d).delayAt = 0 → Does (.delayReqSend d) s (fun t =>
        (t.dom d).delaySeq = ((s.dom d).delaySeq + 1) % 65536 ∧ (t.dom d).t3 = none ∧
        (t.lastSent .h).map (fun m => (m.typ, m.payload.take 2)) = some (0x0B, [w32 d, w32 (((s.dom d).delaySeq + 1) % 65536)]))) ∧
    (∀ m, s.domEn d = true → (s.dom d).goodSince.isSome = true → (s.dom d).master = some m → Does (.domainTimeout d) s (fun t =>
      t.now = max s.now (min (m.at_ + 3 * m.interval) ((s.dom d).syncAt + 3 * (s.dom d).syncInt) + 1) ∧
        t.fld (R.TMR_DOM_STATE d) F.TMR_DOM_STATE_GOOD = 0 ∧ (t.dom d).goodSince = none)) ∧
    (∀ n, let pr := s.fld R.TMR_SRC F.TMR_SRC_PREFER
      (s.dom pr).goodSince = some n → s.src = 1 → s.activeDom ≠ pr → s.revertS ≠ 0 → s.time.chosen = true →
      (s.advanceTo (n + sec s.revertS)).domGood pr = true → Does .domainRevert s (fun t =>
        t.activeDom = pr ∧ t.now = max s.now (n + sec s.revertS) ∧ ((s.advanceTo (n + sec s.revertS)).domGood s.activeDom = true →
          t.raised 24 (w32 (1 + pr * 4)) (w32 (1 + s.activeDom * 4)) 2)))) ∧
  (∀ (s : State) (p : Part),
    (s.src = 2 → s.flag R.TMR_PPS F.TMR_PPS_IN_EN = true → 400000000 < (s.cityNs - 12) % 1000000000 →
      (s.cityNs - 12) % 1000000000 < 600000000 → exec .ppsInEdge s = .next (s.bump R.TMR_CNT_PPSREJ)) ∧
    (s.src = 2 → s.flag R.TMR_PPS F.TMR_PPS_IN_EN = true → s.servo = 2 → (s.cityNs - 12) % 1000000000 ≤ 400000000 →
      Does .ppsInEdge s (fun t => t.rd R.TMR_OFFSET = w32 ((s.cityNs - 12) % 1000000000) ∧ t.time.ppsAt = some s.now ∧ t.servo = 2)) ∧
    (∀ n, s.time.ppsAt = some n → s.src = 2 → s.servo = 2 → Does .ppsSourceTimeout s (fun t =>
      t.servo = 3 ∧ t.time.ppsAt = none ∧ t.time.holdSince = max s.now (n + sec 2) ∧ t.raised 25 1 2 0)) ∧
    (s.flag R.TMR_PPS F.TMR_PPS_OUT_EN = true → s.time.valid = true → Does .ppsOutPulse s (fun t =>
      t.time.ppsHigh = some (t.now + ms (max 1 (min 999 (s.fld R.TMR_PPS F.TMR_PPS_WIDTH)))) ∧ t.regs = s.regs)) ∧
    (∀ n, s.time.ppsHigh = some n → Does .ppsOutEnd s (fun t => t.time.ppsHigh = none ∧ t.now = max s.now n ∧ t.regs = s.regs)) ∧
    (s.time.valid = true → Does .rtcUpdate s (fun t => t.rd R.PWR_RTC_S = w32 s.citySec ∧ t.vault.rtcAt = s.now ∧
      t.regsBut s [R.PWR_RTC_S])) ∧
    (s.time.valid = false → exec .rtcUpdate s = .next s) ∧
    Does (.timeRead p) s (fun t => t.reads p = w32 (s.cityNsec + (if s.time.valid then 2 ^ 31 else 0)) ∧
      t.time = { s.time with latchS := some (w32 s.citySec) } ∧ t.regs = s.regs))

/-- A timer with `CMP_EN` 1 and P 0 never fires its compare: not by counting, and not at a write of C or of `CLR`, nor at a write of P which
leaves P at 0 or is made in immediate mode (R361). -/
def Obligations.NoCompareWithPeriodZero : Prop :=
  ∀ (s : State) (p : Part) (t : Fin 8) (data : Word), s.cmpEn t = true → (s.timer t).p = 0 →
    exec (.timerCompare t) s = .next s ∧ exec (.timerWrap t) s = .next s ∧
    Does (.timerCompareWrite p t data) s (fun u => u.regsBut s [R.TMR_ERR] ∧ (u.timer t).firedAt = (s.timer t).firedAt) ∧
    (s.preload t = false ∨ (data = 0 ∧ (s.timer t).stageP = 0) → Does (.timerPeriodWrite p t data) s (fun u =>
      u.regsBut s [R.TMR_ERR] ∧ (u.timer t).firedAt = (s.timer t).firedAt)) ∧
    Does (.timerClear p t) s (fun u => u.regsBut s [R.TMR_ERR] ∧ (u.timer t).firedAt = (s.timer t).firedAt)

/-- Timers, their compares and wraps, and captures. Timers count, wrap, compare, and take C and P at once or, with `PRELOAD`, at the next
wrap; a stopped timer takes both as its period is written. A `CLR`, and a P at or below the count, return the counter to 0 in the next
tick, from which the compare and a further P then count. Captures latch the count and the time of the edge at the pin and overrun while
they are full; a pulse of a compare output ends. Where it touches them it rests on the model's choices of log entry 36. -/
def Obligations.TimersAndCaptures : Prop :=
  (∀ (s : State) (p : Part) (t : Fin 8) (data : Word), let x := s.timer t
    let v := data.toNat * 2 ^ 32
    (x.p ≠ 0 → s.preload t = false → Does (.timerWrap t) s (fun u =>
      u.timer t = { x with base := 0, since := x.since + (x.p - x.base) } ∧ u.flag (R.TMR_STAT t) F.TMR_STAT_WRAP = true ∧
      u.regsBut s [R.TMR_STAT t])) ∧
    (x.p ≠ 0 → s.preload t = true → s.cmpEn t = false → Does (.timerWrap t) s (fun u =>
      (u.timer t).c = x.preC.getD x.c ∧ (u.timer t).p = x.preP.getD x.p ∧ (u.timer t).preC = none ∧ (u.timer t).preP = none)) ∧
    (s.cmpEn t = true → x.since ≤ s.now → x.count s.now < x.c → x.c < x.p → Does (.timerCompare t) s (fun u =>
      u.flag (R.TMR_STAT t) F.TMR_STAT_CMP = true ∧ (u.timer t).firedAt = some (s.now + (x.c - x.count s.now)))) ∧
    (s.cmpEn t = true → s.now < x.since → x.base = 0 → x.c < x.p → Does (.timerCompare t) s (fun u =>
      u.flag (R.TMR_STAT t) F.TMR_STAT_CMP = true ∧ (u.timer t).firedAt = some (x.since + x.c))) ∧
    Does (.timerClear 0 t) s (fun u => u.timer t = { x with base := 0, since := s.now + 1, held := x.count s.now } ∧ u.regs = s.regs) ∧
    (s.preload t = true → Does (.timerCompareWrite 0 t data) s (fun u =>
      u.timer t = { x with preC := some (v + x.stageC.toNat) } ∧ u.regs = s.regs)) ∧
    (s.preload t = false → s.cmpEn t = true → x.p ≠ 0 → v + x.stageC.toNat ≤ x.count s.now → Does (.timerCompareWrite 0 t data) s (fun u =>
      (u.timer t).c = v + x.stageC.toNat ∧ u.flag (R.TMR_STAT t) F.TMR_STAT_CMP = true ∧ (u.timer t).firedAt = some s.now)) ∧
    (s.preload t = false → x.p ≠ 0 → v + x.stageP.toNat ≤ x.count s.now → Does (.timerPeriodWrite 0 t data) s (fun u =>
      u.timer t = { x with p := v + x.stageP.toNat, base := 0, since := s.now + 1, held := x.count s.now } ∧ u.flag (R.TMR_STAT t) F.TMR_STAT_WRAP = true)) ∧
    (s.preload t = false → x.p ≠ 0 → s.now < x.since → x.count s.now < v + x.stageP.toNat → Does (.timerPeriodWrite 0 t data) s (fun u =>
      u.timer t = { x with p := v + x.stageP.toNat } ∧ u.regs = s.regs)) ∧
    (s.preload t = false → x.p ≠ 0 → x.since ≤ s.now → x.count s.now < v + x.stageP.toNat → Does (.timerPeriodWrite 0 t data) s (fun u =>
      u.timer t = { x with p := v + x.stageP.toNat, base := x.count s.now, since := s.now } ∧ u.regs = s.regs)) ∧
    (s.preload t = false → x.p = 0 → x.since ≤ s.now → Does (.timerPeriodWrite 0 t data) s (fun u =>
      u.timer t = { x with p := v + x.stageP.toNat, base := 0, since := s.now } ∧ u.regs = s.regs)) ∧
    (s.preload t = true → x.p ≠ 0 → Does (.timerPeriodWrite 0 t data) s (fun u =>
      u.timer t = { x with preP := some (v + x.stageP.toNat) } ∧ u.regs = s.regs)) ∧
    (s.preload t = true → x.p = 0 → x.since ≤ s.now → s.cmpEn t = false → Does (.timerPeriodWrite 0 t data) s (fun u =>
      u.timer t = { x with p := v + x.stageP.toNat, c := x.preC.getD x.c, preP := none, preC := none, base := 0, since := s.now } ∧
      u.regs = s.regs)) ∧
    Does (.timerCountRead p t) s (fun u => u.reads p = w32 (x.count s.now) ∧
      u.timer t = { x with latched := some (w32 (x.count s.now / 2 ^ 32)) } ∧ u.regs = s.regs)) ∧
  (∀ (s : State) (i : Fin 4) (rising : Bool) (samples : Nat), let r := R.TMR_CAP_CFG i
    let f := s.fld r F.TMR_CAP_CFG_FILTER
    let x := s.timer (s.fld r F.TMR_CAP_CFG_TIMER)
    (s.flag r F.TMR_CAP_CFG_EN = false → exec (.captureEdge i rising samples) s = .next s) ∧
    (samples < f → exec (.captureEdge i rising samples) s = .next s) ∧
    (s.flag r F.TMR_CAP_CFG_EN = true → s.fld r F.TMR_CAP_CFG_EDGE = 2 → s.fld r F.TMR_CAP_CFG_DIV = 1 → f ≤ samples →
      s.flag (R.TMR_CAP_STAT i) F.TMR_CAP_STAT_FULL = true → Does (.captureEdge i rising samples) s (fun t =>
        t.flag (R.TMR_CAP_STAT i) F.TMR_CAP_STAT_OVERRUN = true ∧ t.rd (R.TMR_CAP_CNT_LO i) = s.rd (R.TMR_CAP_CNT_LO i) ∧
        t.rd (R.TMR_CAP_S i) = s.rd (R.TMR_CAP_S i))) ∧
    (s.flag r F.TMR_CAP_CFG_EN = true → s.fld r F.TMR_CAP_CFG_EDGE = 2 → s.fld r F.TMR_CAP_CFG_DIV = 1 → f ≤ samples → s.flag r F.TMR_CAP_CFG_IRQ = false →
      s.flag (R.TMR_CAP_STAT i) F.TMR_CAP_STAT_FULL = false → x.p ≠ 0 → f < x.p → f ≤ x.count s.now → Does (.captureEdge i rising samples) s (fun t =>
        t.rd (R.TMR_CAP_CNT_LO i) = w32 (x.count s.now - f) ∧ t.rd (R.TMR_CAP_NS i) = w32 ((s.time.city32 - f * 125) / 32 % 1000000000) ∧
        t.flag (R.TMR_CAP_STAT i) F.TMR_CAP_STAT_FULL = true ∧
        t.regsBut s [R.TMR_CAP_CNT_LO i, R.TMR_CAP_CNT_HI i, R.TMR_CAP_S i, R.TMR_CAP_NS i, R.TMR_CAP_STAT i])) ∧
    (aget 0 i.val s.time.pulse ≠ 0 → Does (.toutPulseEnd i) s (fun t =>
      t.flag (R.TMR_TOUT i) F.TMR_TOUT_LEVEL = false ∧ aget 0 i.val t.time.pulse = 0 ∧ t.now = max s.now (aget 0 i.val s.time.pulse) ∧
      t.regsBut s [R.TMR_TOUT i])))

/-! ### Queues, shapers and policers (R277 to R303) -/

/-- Queues refill, are audited and read as entries, and egress is served. Refills, the cell audit and queue entries. A refill brings the
head frame wholly back on die, and the first two cells of the frame after it; a frame with an error in a spilled cell is discarded and
counted. The audit returns cells that are in use and belong to no chain. The scheduler serves an Ethernet port's highest ready queue,
and a partition's next ready RX queue, with FRAME_UP, and takes the cells back; in Hush, while the Pass is not up and while its retry
buffer has no room it serves nothing. A frame whose check word fails is discarded instead, and two copies of a queue's pointers that
differ are a queue fault. Where it touches them it rests on the model's choices of log entries 8, 104, 116. -/
def Obligations.QueuesAreServed : Prop :=
  (∀ (s : State) (q : Nat) (data : Word), let lost := s.qmg.used.filter (fun c => !s.chains.flatten.contains c)
    (∀ f r, s.pwr.hush = false → (s.queue q).mismatch = false → (s.queue q).frames = f :: r → refillBad (f :: r) = none →
      s.fld R.QMG_THRESH F.QMG_THRESH_SPILL_LOW = 0 → refillNeed (f :: r) ≤ s.freeCells → Does (.refillDone q) s (fun t =>
        (t.queue q).frames = refill (s.takeChain (refillNeed (f :: r))).1 (f :: r) ∧
        ((t.queue q).frames.head?.map Frame.spilled) = some 0 ∧ (t.queue q).frames.length = (f :: r).length)) ∧
    (∀ f c, s.pwr.hush = false → q < 32832 → (s.queue q).mismatch = false → (s.queue q).frames = [f] → f.spillBad = some c → f.gram = none →
      f.origin = .own → s.fld R.QMG_THRESH F.QMG_THRESH_SPILL_LOW = 0 → Does (.refillDone q) s (fun t => (t.queue q).frames = [] ∧
        t.rd R.QMG_CNT_SPILLERR = satInc (s.rd R.QMG_CNT_SPILLERR))) ∧
    (s.pwr.hush = true → exec (.refillDone q) s = .next s) ∧
    (lost ≠ [] → exec .cellAudit s = .next (((s.freeChain lost).bumpBy R.QMG_CNT_LEAK lost.length).ledger 0x0032 0 (w32 lost.length) 0 0)) ∧
    (lost = [] → exec .cellAudit s = .next s) ∧
    (queueValid (s.fld R.QMG_Q_ADDR F.QMG_Q_ADDR_QUEUE) = true → Does (.queueEntryWrite 0 data) s (fun t =>
      (t.queue (s.fld R.QMG_Q_ADDR F.QMG_Q_ADDR_QUEUE)).entry = data &&& 0x7FFF ∧ t.regsBut s [R.QMG_Q_ADDR])) ∧
    (queueValid (s.fld R.QMG_Q_ADDR F.QMG_Q_ADDR_QUEUE) = false → Does (.queueEntryWrite 0 data) s (fun t =>
      t.flag R.QMG_ERR F.QMG_ERR_QUEUE_INVALID = true ∧ t.qmg = s.qmg ∧ t.regsBut s [R.QMG_Q_ADDR, R.QMG_ERR])) ∧
    (∀ p : Part, p ≠ 0 → Does (.queueEntryWrite p data) s (fun t => t.flag R.QMG_ERR F.QMG_ERR_PART_WRITE = true ∧ t.onlyKeys s [R.QMG_ERR]))) ∧
  (∀ (s : State) (port : Fin 8) (q : Nat) (f : Frame),
    let served := s.pwr.hush = false ∧ s.passUp = true ∧
      (if port.val < 4 then s.ethServed port = true ∧ s.ethPick port = some q else s.hostPick (port.val - 4) = some q)
    (served → (s.queue q).mismatch = false → s.qHead q = some f → f.checkOk = true → s.upRoom f = false → exec (.egressDequeue port) s = .next s) ∧
    (served → (s.queue q).mismatch = true → (s.queue q).frames = [f] → f.gram = none → f.origin = .own → Does (.egressDequeue port) s (fun t =>
      t.rd R.QMG_CNT_FAULT = satInc (s.rd R.QMG_CNT_FAULT) ∧ (t.queue q).mismatch = false ∧ (t.queue q).frames = [])) ∧
    (served → (s.queue q).mismatch = false → s.qHead q = some f → f.checkOk = true → s.upRoom f = true → Does (.egressDequeue port) s (fun t =>
        (t.lastSent .f).map (fun m => (m.typ, m.len)) = some (3, 32 + f.bytes.length) ∧
        (t.queue q).frames = (s.queue q).frames.drop 1 ∧ t.qmg.used = s.qmg.used.filter (fun c => !f.onDie.contains c) ∧
        t.regsBut s [R.QMG_FREE])) ∧
    (served → (s.queue q).mismatch = false → s.qHead q = some f → f.checkOk = false →
      exec (.egressDequeue port) s = .next (s.frameCheckFail q f)) ∧
    (s.pwr.hush = true ∨ s.passUp = false → exec (.egressDequeue port) s = .next s))

/-- The window reader takes frames out of a window queue; a flush empties a queue. The window reader: a read takes the next frame that is on
die and that its queue's shaper lets go, or stalls up to its limit and then answers EMPTY; in Hush it takes none; the data are read in
words. A flush empties a queue of the partition that may flush it; one that names a reserved queue is ignored and flagged; in Hush it
stores nothing. Where it touches them it rests on the model's choices of log entries 29, 117. -/
def Obligations.WindowsAndFlushes : Prop :=
  (∀ (s : State) (p : Part), let k := s.fld R.QMG_POP_Q F.QMG_POP_Q_WINDOW
    (∀ f r, s.qmg.popCur = none → s.pwr.hush = false → (s.queue (qWindow k)).mismatch = false → (s.queue (qWindow k)).frames = f :: r →
      s.qHead (qWindow k) = some f →
      Does (.popWait 0) s (fun t => t.reads 0 = w32 (f.len % 4096 + f.tsId % 65536 * 2 ^ 12) ∧ t.qmg.popCur = some f ∧
        (t.queue (qWindow k)).frames = r ∧ t.regs = s.regs)) ∧
    (s.qmg.popCur = none → (s.queue (qWindow k)).mismatch = false → (s.queue (qWindow k)).frames = [] → s.waitLimit = 0 →
      exec (.popWait 0) s = .next (s.answer 0 0xFFFFFFFF)) ∧
    (s.qmg.popCur = none → (s.queue (qWindow k)).mismatch = false → (s.queue (qWindow k)).frames = [] → s.waitLimit ≠ 0 →
      exec (.popWait 0) s = .next { s with qmg := { s.qmg with popWait := s.qmg.popWait ++ [(s.now + us s.waitLimit, none)] } }) ∧
    (s.qmg.popCur = none → s.pwr.hush = true → s.waitLimit = 0 → exec (.popWait 0) s = .next (s.answer 0 0xFFFFFFFF)) ∧
    (∀ n r, s.qmg.popWait = (n, none) :: r → Does .popWaitExpiry s (fun t =>
      t.reads 0 = 0xFFFFFFFF ∧ t.qmg.popWait = r ∧ t.now = max s.now n)) ∧
    (∀ n g r, s.qmg.popWait = (n, some g) :: r → s.passClear .f = false → Does .popWaitExpiry s (fun t =>
      t.sent .f = some (9, 0, [w32 g, 0xFFFFFFFF]) ∧ t.qmg.popWait = r ∧ t.now = max s.now n)) ∧
    (∀ f, s.qmg.popCur = some f → Does (.popData 0) s (fun t =>
      t.reads 0 = w32 (leNat ((f.windowBytes.drop s.qmg.popOff).take 4)) ∧ t.qmg = { s.qmg with popOff := s.qmg.popOff + 4 } ∧
      t.regs = s.regs)) ∧
    (p ≠ 0 → exec (.popWait p) s = .next (s.answer p 0) ∧ exec (.popData p) s = .next (s.answer p 0))) ∧
  (∀ (s : State) (p : Part) (data : Word), let q := data.toNat % 65536
    let s1 := s.setFld (R.QMG_FLUSH p) F.QMG_FLUSH_QUEUE q
    (queueValid q = false → exec (.queueFlush p data) s = .next (s.err R.QMG_ERR F.QMG_ERR_QUEUE_INVALID)) ∧
    (queueValid q = true → bitAt data 16 = false → exec (.queueFlush p data) s = .next s1) ∧
    (queueValid q = true → bitAt data 16 = true → s.mayFlush p q = false → exec (.queueFlush p data) s =
      .next (s.err R.QMG_ERR F.QMG_ERR_PART_WRITE)) ∧
    (queueValid q = true → bitAt data 16 = true → s.mayFlush p q = true → s.pwr.hush = true → exec (.queueFlush p data) s = .next s) ∧
    (∀ f, bitAt data 16 = true → s.pwr.hush = false → s.mayFlush p q = true → q < 32832 → (s.queue q).mismatch = false →
      (s.queue q).frames = [f] → f.gram = none → f.origin = .own → Does (.queueFlush p data) s (fun t => (t.queue q).frames = [] ∧
        t.qmg.used = s.qmg.used.filter (fun c => !f.onDie.contains c))))

/-- Shapers and policers are set through their windows. A write of `RATE` settles the level at the old rate; a level above a new `BURST`
falls to it; the unlimited rate fills the bucket. A shaper becomes eligible when its level has risen to 0. Every sample counts in one
bin of each histogram of its class, for depth and for sojourn, and in no other. Where it touches them it rests on the model's choices of
log entry 133. -/
def Obligations.ShapersPolicersAndSamples : Prop :=
  ∀ (s : State) (p : Part) (data : Word), let i := s.fld R.SHP_SH_ADDR F.SHP_SH_ADDR_SHAPER
    let x := (s.shaper i).settle s.now
    let j := s.fld R.SHP_POL_ADDR F.SHP_POL_ADDR_POLICER
    let w := s.fld R.SHP_POL_ADDR F.SHP_POL_ADDR_WORD
    let y := (s.policer j).settle s.now
    (Does (.shaperRateWrite 0 data) s (fun t => (t.shaper i).rate = bitsAt data 0 24 ∧ (t.shaper i).burst = (s.shaper i).burst ∧
      (t.shaper i).adjust = sext 7 (bitsAt data 24 7) ∧
      (t.shaper i).level = (if bitsAt data 0 24 = unlimited then ((s.shaper i).burst * 65536 : Int) else x.level) ∧ t.regs = s.regs)) ∧
    (Does (.shaperBurstWrite 0 data) s (fun t => (t.shaper i).burst = bitsAt data 0 20 ∧ (t.shaper i).rate = (s.shaper i).rate ∧
      (t.shaper i).level = (if (s.shaper i).rate = unlimited then (bitsAt data 0 20 * 65536 : Int) else min x.level (bitsAt data 0 20 * 65536)) ∧
      t.regs = s.regs)) ∧
    (Does (.policerWrite 0 data) s (fun t => t.regs = s.regs ∧
      (w = 0 → t.policer j = { y with mode := bitsAt data 0 1, aware := bitAt data 1 }) ∧
      (w = 1 → t.policer j = { y with cir := bitsAt data 0 24 }) ∧ (w = 2 → t.policer j = { y with pir := bitsAt data 0 24 }) ∧
      (w = 3 → t.policer j = { y with cbs := bitsAt data 0 20, tc := min y.tc (bitsAt data 0 20 * 65536) }) ∧
      (w = 4 → t.policer j = { y with ebs := bitsAt data 0 20, te := min y.te (bitsAt data 0 20 * 65536) }) ∧
      (4 < w → t.policer j = s.policer j))) ∧
    (p ≠ 0 → exec (.shaperRateWrite p data) s = .next (s.err R.SHP_ERR F.SHP_ERR_PART_WRITE) ∧
      exec (.shaperBurstWrite p data) s = .next (s.err R.SHP_ERR F.SHP_ERR_PART_WRITE) ∧
      exec (.policerWrite p data) s = .next (s.err R.SHP_ERR F.SHP_ERR_PART_WRITE)) ∧
    (∀ k : Fin 1024, ((s.shaper k).settle s.now).level < 0 → 0 < (s.shaper k).rate → Does (.shaperEligible k) s (fun t =>
      s.now < t.now ∧ (s.qmg.popWait = [] → 0 ≤ (t.shaper k).level ∧ t.regs = s.regs))) ∧
    (Does .depthSample s (fun t => t.regs = s.regs ∧ t.qmg.queues = s.qmg.queues ∧ ∀ (c : Fin 13) (b : Fin 16),
      aget 0 (c.val * 32 + b.val) t.qmg.hist = (if b.val = histBin (s.depth c) then satInc (aget 0 (c.val * 32 + b.val) s.qmg.hist)
        else aget 0 (c.val * 32 + b.val) s.qmg.hist) ∧
      aget 0 (c.val * 32 + 16 + b.val) t.qmg.hist = (if b.val = histBin (s.sojourn c) then satInc (aget 0 (c.val * 32 + 16 + b.val) s.qmg.hist)
        else aget 0 (c.val * 32 + 16 + b.val) s.qmg.hist)))

/-! ### Arrays, beams, weights and calibration (R43 to R76) -/

/-- Arrays, beams and weight banks are configured. The band plan is written until an array has been enabled; an array is enabled when it is
valid, which locks the plan and asks for its calibration; an enabled array keeps its configuration but for `STALE_OMNI`; a disabled one
neither transmits nor receives. Beams keep their array while it is enabled, the omni beam of an enabled array is not disabled, and 48
beams of 96 low-window-equivalents bound what is enabled. Weights are written to the shadow bank and read from either, a commit is
pending until the swap, which copies the new active bank, and a running slot engine swaps at its own boundaries. An address that names
no weight reads 0. Where it touches them it rests on the model's choices of log entries 28, 94. -/
def Obligations.ArraysAndBeams : Prop :=
  (∀ (s : State) (a : Fin 4) (data : Word), let k := R.ARR_CFG a
    let d := fset F.ARR_CFG_ENABLE data 1 &&& 0xFFFF03FF
    (s.flag R.RFP_BANDPLAN F.RFP_BANDPLAN_LOCKED = false → exec (.bandplanWrite 0 data) s = .next (s.wr R.RFP_BANDPLAN (data &&& 0x7F))) ∧
    (s.flag R.RFP_BANDPLAN F.RFP_BANDPLAN_LOCKED = true → exec (.bandplanWrite 0 data) s = .next (s.err R.RFP_ERR F.RFP_ERR_PLAN_LOCKED)) ∧
    (s.arrOn a = false → s.arrValid a d = false → exec (.arrayEnable 0 a data) s = .next (s.err R.RFP_ERR F.RFP_ERR_ARRAY_INVALID)) ∧
    (s.arrOn a = false → s.arrValid a d = true → (s.wr k d).lwe ≤ 96 → s.lpsOn = [] → Does (.arrayEnable 0 a data) s (fun t =>
      t.rd k = d ∧ t.flag R.RFP_BANDPLAN F.RFP_BANDPLAN_LOCKED = true ∧ t.arrOn a = true ∧
      t.rf.calPending.contains a.val = true ∧ t.regsBut s [k, R.RFP_BANDPLAN, R.CHZ_LWE, R.CHZ_BINS, R.CHZ_NARROW, R.SRCH_LP_USE])) ∧
    (s.arrOn a = false → s.arrValid a d = true → s.lwe < (s.wr k d).lwe → 96 < (s.wr k d).lwe →
      exec (.arrayEnable 0 a data) s = .next (s.err R.RFP_ERR F.RFP_ERR_CAPACITY)) ∧
    (s.arrOn a = true → d &&& 0xFFFF03F6 ≠ s.rd k &&& 0xFFFF03F6 → Does (.arrayConfigUpdate 0 a data) s (fun t =>
      t.flag R.RFP_ERR F.RFP_ERR_ARRAY_BUSY = true ∧ t.fld k F.ARR_CFG_STALE_OMNI = fget F.ARR_CFG_STALE_OMNI data ∧
      t.fld k F.ARR_CFG_ELEMENTS = s.fld k F.ARR_CFG_ELEMENTS)) ∧
    (s.arrOn a = true → s.rx.lanes = [] → s.air = [] → (s.wr k (fset F.ARR_CFG_ENABLE data 0 &&& 0xFFFF03FF)).lwe ≤ s.lwe → Does (.arrayDisable 0 a data) s (fun t =>
      t.arrOn a = false ∧ t.arrTxen a = false ∧ t.arrRxen a = false ∧ t.rf.calPending = s.rf.calPending.filter (· ≠ a.val)))) ∧
  (∀ (s : State) (b : Fin 48) (data : Word), let k := R.ARR_BEAM b
    let on := fset F.ARR_BEAM_ENABLE data 1 &&& 0xF
    (s.arrOn (s.beamArray b) = false → (s.wr k on).lwe ≤ 96 → (s.beamActive b = false ∨ (s.wr k on).beamActive b = true) →
      Does (.beamEnable 0 b data) s (fun t => t.rd k = on ∧ t.onlyKeys s [k, R.CHZ_LWE])) ∧
    (s.arrOn (s.beamArray b) = false → s.lwe < (s.wr k on).lwe → 96 < (s.wr k on).lwe →
      exec (.beamEnable 0 b data) s = .next (s.err R.RFP_ERR F.RFP_ERR_CAPACITY)) ∧
    (s.arrOn (s.beamArray b) = true → fget F.ARR_BEAM_ARRAY data ≠ s.beamArray b → let keep := fset F.ARR_BEAM_ARRAY on (s.beamArray b)
      (s.wr k keep).lwe ≤ 96 → (s.beamActive b = false ∨ (s.wr k keep).beamActive b = true) → Does (.beamEnable 0 b data) s (fun t =>
        t.rd k = keep ∧ t.beamArray b = s.beamArray b ∧ t.flag R.RFP_ERR F.RFP_ERR_ARRAY_BUSY = true ∧ t.onlyKeys s [k, R.RFP_ERR, R.CHZ_LWE])) ∧
    (s.arrOn (s.beamArray b) = true → s.fld (R.ARR_CFG (s.beamArray b)) F.ARR_CFG_OMNI = b →
      exec (.beamDisable 0 b data) s = .next (s.err R.RFP_ERR F.RFP_ERR_ARRAY_BUSY)) ∧
    (s.arrOn (s.beamArray b) = false → s.beamActive b = false → (s.wr k (fset F.ARR_BEAM_ENABLE data 0 &&& 0xF)).lwe ≤ s.lwe →
      Does (.beamDisable 0 b data) s (fun t => t.rd k = fset F.ARR_BEAM_ENABLE data 0 &&& 0xF ∧ t.onlyKeys s [k, R.CHZ_LWE]))) ∧
  (∀ (s : State) (p : Part) (data : Word), let set := s.fld R.ARR_WADDR F.ARR_WADDR_SET
    (s.waddrNone = false → set = 2 ∨ s.flag R.ARR_WCOMMIT F.ARR_WCOMMIT_PENDING = false → Does (.weightWrite 0 data) s (fun t =>
      aget 0 (s.waddrKey 0) t.rf.weights = data ∧ t.regsBut s [R.ARR_WADDR])) ∧
    (s.waddrNone = true → set = 3 ∨ s.flag R.ARR_WCOMMIT F.ARR_WCOMMIT_PENDING = false → exec (.weightWrite 0 data) s = .next s.waddrNext) ∧
    (set < 2 → s.flag R.ARR_WCOMMIT F.ARR_WCOMMIT_PENDING = true → exec (.weightWrite 0 data) s =
      .next (s.err R.RFP_ERR F.RFP_ERR_WEIGHT_BUSY)) ∧
    (p ≠ 0 → exec (.weightWrite p data) s = .next (s.err R.RFP_ERR F.RFP_ERR_PART_WRITE)) ∧
    (s.waddrNone = false → Does (.weightRead p) s (fun t =>
      t.reads p = aget 0 (s.waddrKey (s.fld R.ARR_WADDR F.ARR_WADDR_BANK)) s.rf.weights ∧ t.rf = s.rf ∧ t.regsBut s [R.ARR_WADDR])) ∧
    (s.waddrNone = true → Does (.weightRead p) s (fun t => t.reads p = 0 ∧ t.rf = s.rf ∧ t.regsBut s [R.ARR_WADDR])) ∧
    (bitAt data 0 = true → exec (.weightCommit 0 data) s = .next (s.setFld R.ARR_WCOMMIT F.ARR_WCOMMIT_PENDING 1)) ∧
    (s.running = false → s.flag R.ARR_WCOMMIT F.ARR_WCOMMIT_PENDING = true → Does .weightBankSwap s (fun t =>
      t.rf.weights = bankSwap s.rf.weights ∧ t.flag R.ARR_WCOMMIT F.ARR_WCOMMIT_PENDING = false ∧ t.regsBut s [R.ARR_WCOMMIT])) ∧
    (s.running = true ∨ s.flag R.ARR_WCOMMIT F.ARR_WCOMMIT_PENDING = false → exec .weightBankSwap s = .next s))

/-- Calibration: requests, the start of a run, its end, its age, and what the die temperature asks for. Where it touches them it rests on
the model's choices of log entries 28, 95, 128. -/
def Obligations.CalibrationRuns : Prop :=
  ∀ (s : State) (a : Fin 4) (data : Word) (t0 : Nat) (rx tx : List (Int × Int)) (quarter : BitVec 12), let k := R.ARR_CAL_STATUS a
    let mine (b : Nat) : Bool := s.beamArray b == a.val
    let m (l : List (Int × Int)) (w i : Nat) : Cx := ((l.getD (w * 16 + i) (0, 0)).1, (l.getD (w * 16 + i) (0, 0)).2)
    let low (w : Nat) : List Nat := lowSlots (s.slots a) (m rx w) ++ lowSlots (s.slots a) (m tx w)
    let done := max s.now (t0 + us (320 * (s.windows a).length))
    (Does (.calRun 0 data) s (fun t => t.rd R.ARR_CAL_CTRL = (data ||| 1) &&& 0x0FFFFFF0 ∧ t.regsBut s [R.ARR_CAL_CTRL] ∧
      (s.arrOn a = true → t.rf.calPending.contains a.val = true))) ∧
    (s.fld R.ARR_CAL_CTRL F.ARR_CAL_CTRL_INTERVAL ≠ 0 → s.arrOn a = true → Does (.calIntervalExpiry a) s (fun t =>
      t.rf.calPending.contains a.val = true ∧ t.now = max s.now (s.calAge a + sec (s.fld R.ARR_CAL_CTRL F.ARR_CAL_CTRL_INTERVAL)))) ∧
    (s.fld R.ARR_CAL_CTRL F.ARR_CAL_CTRL_MAXAGE ≠ 0 → s.flag k F.ARR_CAL_STATUS_STALE = false → Does (.calMaxageExpiry a) s (fun t =>
      t.flag k F.ARR_CAL_STATUS_STALE = true ∧ t.fld k F.ARR_CAL_STATUS_CAUSE = 2 ∧ t.raised 11 (w32 a) 2 0 ∧ t.regsBut s [k])) ∧
    (s.rf.calPending.contains a.val = true → s.rf.calRun = none → s.droverWin a = false → s.inQuiet = false → s.pwr.hush = false → s.pwrState < 3 →
      s.arrOn a = true → (s.running = false ∨ s.now = s.slot.boundaryAt) → s.lanesOf mine [2, 3] = [] →
      (∀ x ∈ s.air, x.array = a.val → x.holds s.cityNs = false) → let u := (s.lanesOf mine [1]).foldl State.abandon s
      exec (.calibrationStart a) s =
        .next { u with rf := { u.rf with calRun := some (a.val, u.now) }, pwr := { u.pwr with idleSince := none } }) ∧
    (s.rf.calPending.contains a.val = false ∨ s.inQuiet = true ∨ s.pwr.hush = true ∨ 3 ≤ s.pwrState ∨ (s.running = true ∧ s.now ≠ s.slot.boundaryAt) →
      exec (.calibrationStart a) s = .next s) ∧
    (s.rf.calRun = some (a.val, t0) → (∀ w ∈ s.windows a, low w = []) → Does (.calibrationDone rx tx) s (fun t =>
      t.rf.calRun = none ∧ t.rd k = 0 ∧ aget 0 a.val t.rf.calLast = t.now ∧ (a.val, s.rf.dieTemp) ∈ t.rf.calTemp ∧ t.now = done ∧
      (∀ w i, w ∈ s.windows a → i < s.slots a → cxPow (m tx w i) ≠ 0 →
        (a.val * 32 + w * 16 + i, cxDiv (m rx w i) (m tx w i)) ∈ t.rf.factors) ∧ t.regsBut s [k])) ∧
    (∀ w, s.rf.calRun = some (a.val, t0) → w ∈ s.windows a → low w ≠ [] → Does (.calibrationDone rx tx) s (fun t =>
      t.rf.calRun = none ∧ t.fld k F.ARR_CAL_STATUS_FAULT ≠ 0 ∧ t.flag k F.ARR_CAL_STATUS_STALE = true ∧
      t.fld k F.ARR_CAL_STATUS_CAUSE = 4 ∧ t.rf.factors = s.rf.factors ∧ t.now = done)) ∧
    (s.rf.calRun = none → exec (.calibrationDone rx tx) s = .next s) ∧
    (maxJunction * 4 + 20 < quarter.toInt → nbit (s.fld R.SAFE_CAUSE F.SAFE_CAUSE_LIVE) 12 = false → Does (.dieTempSample quarter) s (fun t =>
      t.inQuiet = true ∧ nbit (t.fld R.SAFE_CAUSE F.SAFE_CAUSE_LIVE) 12 = true)) ∧
    (∀ r : Int, s.rf.calTemp = [(a.val, r)] → s.arrOn a = true → quarter.toInt ≤ maxJunction * 4 + 20 → 40 < (quarter.toInt - r).natAbs →
      Does (.dieTempSample quarter) s (fun t => t.rf.calPending.contains a.val = true ∧ t.rf.dieTemp = quarter.toInt ∧
        (80 < (quarter.toInt - r).natAbs → s.flag k F.ARR_CAL_STATUS_STALE = false →
          t.flag k F.ARR_CAL_STATUS_STALE = true ∧ t.fld k F.ARR_CAL_STATUS_CAUSE = 3 ∧ t.raised 11 (w32 a) 3 0))) ∧
    (quarter = 100 → s.rf.calTemp = [] → nbit (s.fld R.SAFE_CAUSE F.SAFE_CAUSE_LIVE) 12 = false → s.inQuiet = false →
      Does (.dieTempSample quarter) s (fun t => t.rf.dieTemp = 100 ∧ t.fld R.SYS_TEMP F.SYS_TEMP_TEMP = 100 ∧
        t.regsBut s [R.SYS_TEMP, R.SAFE_CAUSE]))

/-! ### Listening points, lanes and the Crossroads (R77 to R102) -/

/-- A listening point is stored with its words when every check passes, else each failing check sets its flag (width code, profile, narrow
conditions, beam or span, band plan, bin budget) and nothing is stored; an enabled point is not enabled again; disabling and reading; a
profile of no enabled point is written; partitions 1 to 3 write none of it. Where it touches them it rests on the model's choices of log
entry 87. -/
def Obligations.ListeningPointsAreChecked : Prop :=
  ∀ (s : State) (p : Part) (data : Word), let n := s.fld R.SRCH_LP_ADDR F.SRCH_LP_ADDR_LP
    let w0 := (data ||| 1) &&& 0x3FFFF
    let w1 := s.rd R.SRCH_LP_DATA1 &&& 0x1FFFFFF
    (s.lpOn n = false → bitsAt w0 14 4 ≤ 8 → s.profileBad (bitsAt w0 8 6) = false → s.lpSpanOk w0 w1 = true → s.lpPlanOk w0 w1 = true →
      s.bins + lpBins (s.family (bitsAt w0 8 6)) (bitsAt w1 0 25) (bitsAt w0 14 4) ≤ 131072 → Does (.lpEnable 0 data) s (fun t =>
        t.lpOn n = true ∧ t.lpWord n 0 = w0 ∧ t.lpWord n 1 = w1 ∧
        t.regsBut s [R.SRCH_LP_ADDR, R.CHZ_BINS, R.CHZ_NARROW, R.SRCH_LP_USE])) ∧
    (s.lpOn n = false → bitsAt w0 14 4 = 15 → s.narrowOk w0 w1 = true → s.profileBad (bitsAt w0 8 6) = false → s.lpSpanOk w0 w1 = true →
      s.lpPlanOk w0 w1 = true → s.bins + (if s.narrowBeams.contains (bitsAt w0 1 6) then 0 else 5) ≤ 131072 → Does (.lpEnable 0 data) s (fun t =>
        t.lpOn n = true ∧ t.lpWord n 0 = w0 ∧ t.lpWord n 1 = w1 ∧
        t.regsBut s [R.SRCH_LP_ADDR, R.CHZ_BINS, R.CHZ_NARROW, R.SRCH_LP_USE])) ∧
    (s.lpOn n = false → 9 ≤ bitsAt w0 14 4 → bitsAt w0 14 4 ≤ 14 → Does (.lpEnable 0 data) s (fun t =>
      t.flag R.SRCH_ERR F.SRCH_ERR_WIDTH_INVALID = true ∧ t.rx = s.rx)) ∧
    (s.lpOn n = false → s.profileBad (bitsAt w0 8 6) = true → Does (.lpEnable 0 data) s (fun t =>
      t.flag R.SRCH_ERR F.SRCH_ERR_PROFILE_INVALID = true ∧ t.rx = s.rx)) ∧
    (s.lpOn n = false → bitsAt w0 14 4 = 15 → s.narrowOk w0 w1 = false → Does (.lpEnable 0 data) s (fun t =>
      t.flag R.SRCH_ERR F.SRCH_ERR_NARROW = true ∧ t.rx = s.rx)) ∧
    (s.lpOn n = false → 48 ≤ bitsAt w0 1 6 → Does (.lpEnable 0 data) s (fun t =>
      t.flag R.SRCH_ERR F.SRCH_ERR_SPAN = true ∧ t.rx = s.rx)) ∧
    (s.lpOn n = false → s.lpSpanOk w0 w1 = false → bitsAt w0 14 4 ≤ 8 ∨ bitsAt w0 14 4 = 15 → Does (.lpEnable 0 data) s (fun t =>
      t.flag R.SRCH_ERR F.SRCH_ERR_SPAN = true ∧ t.rx = s.rx)) ∧
    (s.lpOn n = false → s.lpPlanOk w0 w1 = false → bitsAt w0 14 4 ≤ 8 ∨ bitsAt w0 14 4 = 15 → Does (.lpEnable 0 data) s (fun t =>
      t.flag R.RFP_ERR F.RFP_ERR_OUT_OF_PLAN = true ∧ t.rx = s.rx)) ∧
    (s.lpOn n = false → bitsAt w0 14 4 ≤ 8 →
      131072 < s.bins + lpBins (s.family (bitsAt w0 8 6)) (bitsAt w1 0 25) (bitsAt w0 14 4) → Does (.lpEnable 0 data) s (fun t =>
        t.flag R.SRCH_ERR F.SRCH_ERR_BUDGET = true ∧ t.rx = s.rx)) ∧
    (s.lpOn n = false → bitsAt w0 14 4 = 15 → bitsAt w0 1 6 < 48 → s.narrowBeams.contains (bitsAt w0 1 6) = false → 131072 < s.bins + 5 →
      Does (.lpEnable 0 data) s (fun t => t.flag R.SRCH_ERR F.SRCH_ERR_BUDGET = true ∧ t.rx = s.rx)) ∧
    (s.lpOn n = true → Does (.lpEnable 0 data) s (fun t => t.flag R.SRCH_ERR F.SRCH_ERR_LP_BUSY = true ∧ t.rx = s.rx ∧
      t.regsBut s [R.SRCH_LP_ADDR, R.SRCH_ERR])) ∧
    Does (.lpDisable 0 data) s (fun t => t.lpOn n = false ∧ t.lpWord n 0 = data &&& 0x3FFFE ∧
      t.regsBut s [R.SRCH_LP_ADDR, R.CHZ_BINS, R.CHZ_NARROW, R.SRCH_LP_USE]) ∧
    Does (.lpRead p) s (fun t => t.reads p = s.lpWord n 0 ∧ t.rd R.SRCH_LP_DATA1 = s.lpWord n 1 ∧
      t.regsBut s [R.SRCH_LP_ADDR, R.SRCH_LP_DATA1]) ∧
    ((s.lpsOn.any fun l => s.lpProfile l == s.fld R.SRCH_PROF_ADDR F.SRCH_PROF_ADDR_PROFILE) = false → Does (.profileWrite 0 data) s (fun t =>
      t.profWord (s.fld R.SRCH_PROF_ADDR F.SRCH_PROF_ADDR_PROFILE) (s.fld R.SRCH_PROF_ADDR F.SRCH_PROF_ADDR_WORD) =
        profBits (s.fld R.SRCH_PROF_ADDR F.SRCH_PROF_ADDR_WORD) data ∧ t.regs = s.regs)) ∧
    ((s.lpsOn.any fun l => s.lpProfile l == s.fld R.SRCH_PROF_ADDR F.SRCH_PROF_ADDR_PROFILE) = true →
      exec (.profileWrite 0 data) s = .next (s.err R.SRCH_ERR F.SRCH_ERR_LP_BUSY)) ∧
    (p.val ≠ 0 → exec (.lpEnable p data) s = .next (s.err R.SRCH_ERR F.SRCH_ERR_PART_WRITE)) ∧
    (p.val ≠ 0 → exec (.lpDisable p data) s = .next (s.err R.SRCH_ERR F.SRCH_ERR_PART_WRITE)) ∧
    (p.val ≠ 0 → exec (.profileWrite p data) s = .next (s.err R.SRCH_ERR F.SRCH_ERR_PART_WRITE))

/-- Detections take lanes, and a lane follows its frame to the end. A detection waits for its commit, which gives it an idle lane in SYNC; a
point that is not watched detects nothing, nor does a power below the noise floor and `THRESH`; without an idle lane the detection is
lost and counted. A lane from SYNC to MERGE: the SFD, the PHR, the PSDU and the FCS move it on with their symbols; an expired limit, a
bad PHR and a wrong FCS free it and count; a mode switch starts it again in the new mode. The noise floor of an idle watched point is
kept. Where it touches them it rests on the model's choices of log entries 28, 82, 97, 131, 132. -/
def Obligations.ReceptionRuns : Prop :=
  (∀ (s : State) (d : Detection) (x : Det),
    (s.watched d.point = false → exec (.preambleDetection d) s = .next s) ∧
    (s.detStrong d = false → exec (.preambleDetection d) s = .next s) ∧
    (s.family (s.pointProfile d.point) ≠ 1 → d.point < 8192 →
      d.strength < sext 16 (aget 0 (16 * d.point + 9) s.rx.stat).toNat + max 6 (bitsAt (s.profWord (s.pointProfile d.point) 3) 6 6) →
      s.detStrong d = false) ∧
    (s.watched d.point = true → s.detStrong d = true → d.mode < 6 → 128 ≤ s.modeByte (s.pointProfile d.point) d.mode → s.rx.lanes = [] → s.rx.firsts = [] →
      d.point < 8192 → Does (.preambleDetection d) s (fun t => t.rx.dets = s.rx.dets ++ [s.detOf d] ∧
        aget 0 (16 * d.point) t.rx.stat = satInc (aget 0 (16 * d.point) s.rx.stat) ∧ t.regs = s.regs)) ∧
    (s.rx.dets = [x] → s.rx.lanes = [] → s.pwrState = 0 → s.reserve < s.available → s.pwr.gated = [] → ∀ c, s.idleCluster = some c →
      Does .detectionCommit s (fun t => (t.lane (s.idleLane c)).state = 1 ∧ (t.lane (s.idleLane c)).point = x.point ∧
        (t.lane (s.idleLane c)).det = x.id ∧ t.rx.dets = [] ∧ t.rd (R.LANE_COMMIT c) = satInc (s.rd (R.LANE_COMMIT c)))) ∧
    (s.rx.dets = [x] → s.rx.lanes = [] → s.pwrState = 0 → s.available = 0 → Does .detectionCommit s (fun t =>
      t.rd R.SRCH_CNT_NOLANE = satInc (s.rd R.SRCH_CNT_NOLANE) ∧ t.rx.lanes = [] ∧ t.rx.dets = [])) ∧
    (s.rx.dets = [] → exec .detectionCommit s = .next s)) ∧
  (∀ (s : State) (l : Fin 1152) (h : Phr) (syms : List RxSym) (rssi : BitVec 16) (cfo : Int) (p : Fin 8192) (floor : BitVec 16), let x := s.lane l
    let y := { x with eq := syms.foldl Equaliser.follow x.eq }
    let late := s.advanceTo (x.since + nsTicks (symsNs x.fam x.byte (bitsAt (wordAt x.prof 0) 20 12)))
    (x.state = 1 → exec (.sfdFound l syms) s = .next (s.setLane l { x with
      state := 2, time := s.atPins x.width, eq := syms.foldl Equaliser.train x.eq })) ∧
    (x.state ≠ 1 → exec (.sfdFound l syms) s = .next s ∧ exec (.sfdLimitExpiry l) s = .next s) ∧
    (x.state = 1 → x.point < 8192 → late.suspended x.point = false → Does (.sfdLimitExpiry l) s (fun t => (t.lane l).state = 0 ∧
      aget 0 (16 * x.point + 1) t.rx.stat = satInc (aget 0 (16 * x.point + 1) s.rx.stat) ∧ t.now = late.now)) ∧
    (x.state = 2 → h.switch = none → x.phrOk h = true → exec (.phrDecoded l h syms) s = .next (s.setLane l { y with
      state := 3, len := h.len, fcs2 := x.fcsLen h = 2, mcs := h.mcs, fec := h.fec })) ∧
    (x.state = 2 → h.switch = none → x.phrOk h = false → x.point < 8192 → s.suspended x.point = false → Does (.phrDecoded l h syms) s (fun t =>
      (t.lane l).state = 0 ∧ aget 0 (16 * x.point + 2) t.rx.stat = satInc (aget 0 (16 * x.point + 2) s.rx.stat))) ∧
    (∀ fam m i, x.state = 2 → h.switch = some (fam, m) → x.fam = 0 → h.check = true → h.reserved = false → bitAt (wordAt x.prof 0) 4 = true →
      x.switchMode fam m = some i → exec (.phrDecoded l h syms) s = .next (s.setLane l (y.switched fam i s.now))) ∧
    (∀ fam m, x.state = 2 → h.switch = some (fam, m) → x.fam = 0 → h.check = true → h.reserved = false → bitAt (wordAt x.prof 0) 4 = true →
      x.switchMode fam m = none → x.point < 8192 → s.suspended x.point = false → Does (.phrDecoded l h syms) s (fun t => (t.lane l).state = 0 ∧
        aget 0 (16 * x.point + 8) t.rx.stat = satInc (aget 0 (16 * x.point + 8) s.rx.stat))) ∧
    (x.state = 3 → exec (.psduEnd l syms) s = .next (s.setLane l { syms.foldl Lane.symbol x with state := 4, ends := s.atPins x.width })) ∧
    (x.state = 4 → x.point < 8192 → s.suspended x.point = false → Does (.fcsCheckDone l true rssi cfo) s (fun t => (t.lane l).state = 5 ∧
      (t.lane l).q = qOf x.sig x.err ∧ aget 0 (16 * x.point + 4) t.rx.stat = satInc (aget 0 (16 * x.point + 4) s.rx.stat) ∧
      aget 0 (16 * x.point + 10) t.rx.stat = w32 rssi.toNat ∧ aget 0 (16 * x.point + 11) t.rx.stat = w32 (qOf x.sig x.err))) ∧
    (x.state = 4 → x.point < 8192 → s.suspended x.point = false → Does (.fcsCheckDone l false rssi cfo) s (fun t => (t.lane l).state = 0 ∧
      aget 0 (16 * x.point + 3) t.rx.stat = satInc (aget 0 (16 * x.point + 3) s.rx.stat))) ∧
    (s.watched p = true → s.rx.lanes = [] → Does (.noiseFloorSample p floor) s (fun t =>
      aget 0 (16 * p.val + 9) t.rx.stat = w32 floor.toNat ∧ t.regs = s.regs ∧ t = { s with rx := t.rx })))

/-- The Crossroads merges the copies of a frame, and frames wait for their keys. The Crossroads merges copies: a copy of an open entry is
counted and, when it is better, becomes the best copy; a late copy and a retransmission are counted; a new frame opens an entry on its
pair of cores; windows and recent keys close in time. Key loads end in their units with the key, with a cause, or with the time-out,
after which the frames that waited go on or are dropped. Where it touches them it rests on the model's choices of log entries 28, 100,
121, 122. -/
def Obligations.CopiesAndKeyLoads : Prop :=
  (∀ (s : State) (l : Fin 1152) (f : RxFrame) (faults : Fin 5) (n : Nat), let y := s.lane l
    let x := y.ctx l f
    let k := matchKey f x.psdu
    let c : Copy := ⟨x.q, x.beam, x.point, x.time⟩
    let s1 := s.freeLane l
    let recent := s.rx.recent.filter (fun e => e.key = k)
    (y.state ≠ 5 → exec (.crossroadsArrival l f faults) s = .next s) ∧
    (∀ e, y.state = 5 → s.rx.xrd.find? (fun e => e.key = k) = some e → c.better e.best = false →
      exec (.crossroadsArrival l f faults) s = .next (s1.bump R.XRD_CNT_MERGED)) ∧
    (∀ e, y.state = 5 → s.rx.xrd.find? (fun e => e.key = k) = some e → c.better e.best = true →
      exec (.crossroadsArrival l f faults) s = .next ((s1.bump R.XRD_CNT_MERGED).xrdBest e.id c)) ∧
    (y.state = 5 → s.rx.xrd.find? (fun e => e.key = k) = none → recent.any (fun e => nearTimes x.time e.rxTime) = true →
      exec (.crossroadsArrival l f faults) s = .next (s1.bump R.XRD_CNT_LATECOPY)) ∧
    (∀ r, y.state = 5 → s.rx.xrd.find? (fun e => e.key = k) = none → recent.getLast? = some r →
      recent.any (fun e => nearTimes x.time e.rxTime) = false → exec (.crossroadsArrival l f faults) s =
        .next ((s1.bump R.XRD_CNT_RETX).xrdPipe x faults.val (some r.best))) ∧
    (y.state = 5 → s.rx.xrd.find? (fun e => e.key = k) = none → recent = [] → exec (.crossroadsArrival l f faults) s =
      .next (s1.xrdPipe x faults.val none)) ∧
    (∀ prior, f.drover.isSome = true → s1.xrdPipe x faults.val prior = s1.xrdOpen x prior) ∧
    (∀ prior, f.drover.isSome = false →
      s1.xrdPipe x faults.val prior = s1.onPipe x.beam (srcNum f.src) faults.val (fun u => u.xrdOpen x prior)) ∧
    (y.state = 5 → s.rx.xrd = [] → s.rx.recent = [] → faults = 0 → s.fld R.SAFE_HEALTH F.SAFE_HEALTH_PIPE_OK ≠ 0 → f.drover = none →
      s.pwr.hush = true → Does (.crossroadsArrival l f faults) s (fun t =>
      t.rd R.XRD_CNT_FIRST = satInc (s.rd R.XRD_CNT_FIRST) ∧ t.rx.xrd.map (·.key) = [k] ∧ t.rx.recent.map (·.key) = [k] ∧
      t.fld R.XRD_OPEN F.XRD_OPEN_ENTRIES = 1)) ∧
    (∀ e, s.rx.xrd.find? (fun e => e.id = n) = some e → exec (.mergeWindowClose n) s =
      .next ((s.advanceTo (e.openedAt + us 400)).xrdClose e)) ∧
    (∀ e, s.rx.recent.find? (fun e => e.id = n) = some e → Does (.recentKeyExpiry n) s (fun t =>
      t.rx.recent = s.rx.recent.filter (fun y => y.id ≠ n) ∧ t.now = max s.now (e.openedAt + ms 50) ∧ t.regs = s.regs))) ∧
  (∀ (s : State) (k : Fin 4) (j : Fin 516) (l : KeyLoad), let u := s.keyUnits
    let all := s.key.units.map (fun e => e.2) ++ s.loadOrder
    (u.key.units.find? (fun e => e.1 = k.val) = none → exec (.keyLoadDone k) s = .next u) ∧
    (∀ e cause, u.key.units.find? (fun e => e.1 = k.val) = some e → (u.keyReady e.2.role).keyLoad e.2.role = some (.error cause) →
      exec (.keyLoadDone k) s = .next (((u.keyReady e.2.role).loadBad e.2 cause).keyUnits)) ∧
    (∀ e, u.key.units.find? (fun e => e.1 = k.val) = some e → (u.keyReady e.2.role).keyLoad e.2.role = none →
      exec (.keyLoadDone k) s = .next (u.keyReady e.2.role).keyUnits) ∧
    (∀ t, s.key.loads = [] → s.key.units.find? (fun e => e.1 = k.val) = some (k.val, l) → (s.keyReady l.role).keyLoad l.role = some (.ok t) →
      t.key.waits = [] → t.key.loads = [] → Does (.keyLoadDone k) s (fun v =>
        v.key.units = t.key.units.filter (fun e => e.2 ≠ l) ∧ v.key.slots = t.key.slots ∧ v.regs = t.regs)) ∧
    (all[j.val]? = some l → let w := ((s.advanceTo (l.at_ + s.missTimeout)).loadDrop l).waitsTake l.role
      exec (.keyLoadTimeout j) s = .next (((if w.1.isEmpty then w.2 else w.2.bump R.KEY_CNT_TIMEOUT).keyFramesEnd l.role
        stKEY_MISS_TIMEOUT 0).keyUnits)) ∧
    (all[j.val]? = none → exec (.keyLoadTimeout j) s = .next s))

/-! ### The slot engine (R103 to R131) -/

/-- Cells, hop entries and slotframes are written by their PAN's owner or partition 0, each with its checks: a refused partition, a hop
sequence or slotframe in use, a template or hop sequence that is not valid and a descriptor that does not fit each set their flag. Where
it touches them it rests on the model's choices of log entries 61, 62, 87, 96. -/
def Obligations.ScheduleIsWritten : Prop :=
  ∀ (s : State) (p : Part) (i : Fin 64) (data : Word), let c := s.fld R.SLOT_CELL_ADDR F.SLOT_CELL_ADDR_CELL
    let w1 := s.rd R.SLOT_CELL_DATA1
    let k := R.SLOT_SF_W0 i
    let on := fset F.SLOT_SF_W0_ENABLE data 1 &&& 0x3FFFF
    (s.cellMay p c = true → cellBad data w1 = false → Does (.cellWrite p data) s (fun t =>
      t.cellWord c 0 = data ∧ t.cellWord c 1 = w1 ∧ (∀ d w, d ≠ c → w < 2 → t.cellWord d w = s.cellWord d w) ∧ t.regsBut s [R.SLOT_CELL_ADDR])) ∧
    (s.cellMay p c = true → cellBad data w1 = true → Does (.cellWrite p data) s (fun t =>
      t.flag R.SLOT_ERR F.SLOT_ERR_CELL_INVALID = true ∧ t.slot = s.slot)) ∧
    (s.cellMay p c = false → Does (.cellWrite p data) s (fun t => t.flag R.SLOT_ERR F.SLOT_ERR_PART_WRITE = true ∧ t.slot = s.slot)) ∧
    Does (.cellRead p) s (fun t => t.reads p = s.cellWord c 0 ∧ t.rd R.SLOT_CELL_DATA1 = s.cellWord c 1 ∧
      t.regsBut s [R.SLOT_CELL_ADDR, R.SLOT_CELL_DATA1]) ∧
    (s.hopBusy (s.fld R.SLOT_HOP_ADDR F.SLOT_HOP_ADDR_SEQ) = false → Does (.hopEntryWrite 0 data) s (fun t =>
      aget 0 s.hopKey t.slot.hops = bitsAt data 0 16 ∧ (∀ j, j ≠ s.hopKey → aget 0 j t.slot.hops = aget 0 j s.slot.hops) ∧
      t.regsBut s [R.SLOT_HOP_ADDR])) ∧
    (s.hopBusy (s.fld R.SLOT_HOP_ADDR F.SLOT_HOP_ADDR_SEQ) = true → exec (.hopEntryWrite 0 data) s = .next (s.err R.SLOT_ERR F.SLOT_ERR_SF_BUSY)) ∧
    (p.val ≠ 0 → exec (.hopEntryWrite p data) s = .next (s.err R.SLOT_ERR F.SLOT_ERR_PART_WRITE)) ∧
    (s.panMay p (s.sfPan i) = false ∨ s.panMay p (fget F.SLOT_SF_W0_PAN on) = false →
      exec (.slotframeEnable p i data) s = .next (s.err R.SLOT_ERR F.SLOT_ERR_PART_WRITE)) ∧
    (s.panMay p (s.sfPan i) = false ∨ s.panMay p (fget F.SLOT_SF_W0_PAN on) = false →
      exec (.slotframeDisable p i data) s = .next (s.err R.SLOT_ERR F.SLOT_ERR_PART_WRITE)) ∧
    (s.sfOn i = false → s.tplValid (fget F.SLOT_SF_W0_TEMPLATE on) = false → Does (.slotframeEnable 0 i data) s (fun t =>
      t.flag R.SLOT_ERR F.SLOT_ERR_TEMPLATE = true ∧ t.flag R.SLOT_ERR F.SLOT_ERR_SF_INVALID = true ∧ t.onlyKeys s [R.SLOT_ERR])) ∧
    (s.sfOn i = false → s.hopValid (fget F.SLOT_SF_W0_HOP on) = false → Does (.slotframeEnable 0 i data) s (fun t =>
      t.flag R.SLOT_ERR F.SLOT_ERR_HOP_INVALID = true ∧ t.flag R.SLOT_ERR F.SLOT_ERR_SF_INVALID = true ∧ t.onlyKeys s [R.SLOT_ERR])) ∧
    (s.sfOn i = true → on ≠ s.rd k → Does (.slotframeEnable 0 i data) s (fun t =>
      t.flag R.SLOT_ERR F.SLOT_ERR_SF_BUSY = true ∧ t.sfOn i = true ∧ t.onlyKeys s [k, R.SLOT_ERR])) ∧
    (s.sfOn i = false → s.sfBad i on (s.rd (R.SLOT_SF_W1 i)) (s.rd (R.SLOT_SF_W2 i)) = false → s.tplValid (fget F.SLOT_SF_W0_TEMPLATE on) = true →
      s.hopValid (fget F.SLOT_SF_W0_HOP on) = true → exec (.slotframeEnable 0 i data) s = .next (s.wr k on)) ∧
    (s.sfOn i = false → s.sfBad i on (s.rd (R.SLOT_SF_W1 i)) (s.rd (R.SLOT_SF_W2 i)) = true → Does (.slotframeEnable 0 i data) s (fun t =>
      t.flag R.SLOT_ERR F.SLOT_ERR_SF_INVALID = true ∧ t.onlyKeys s [R.SLOT_ERR])) ∧
    Does (.slotframeDisable 0 i data) s (fun t => t.sfOn i = false ∧ t.regsBut s [k, R.SLOT_ERR])

/-- The schedule commands: a block of any number of cells is written when each may be written and holds no reserved value, else the first
one refused is named and none is written; a block is read with cells that the issuer may not write as 0; the checks complete BAD_PARAM.
Where it touches them it rests on the model's choices of log entry 63. -/
def Obligations.ScheduleCommands : Prop :=
  ∀ (s : State) (c : CmdDesc) (dma : Dma), s.leads c = true → let p := c.part.val
    let n := schedCount c
    let first := schedFirst c
    let word (i w : Nat) : Word := s.memWord p (addr64 c.w4 c.w5 + 8 * i + 4 * w)
    let good (i : Nat) : Bool := s.cellMay p (first + i) && !cellBad (word i 0) (word i 1)
    (schedBad c dma = none → (∀ i, i < n → good i = true) → Does (.schedWrite c dma) s (fun t =>
      (∀ i w, i < n → w < 2 → t.cellWord (first + i) w = word i w) ∧
      (∀ d w, d < first ∨ first + n ≤ d → w < 2 → t.cellWord d w = s.cellWord d w) ∧
      t.completed c stOK [] 0 ∧ t.cmds = s.cmds.erase c ∧ t.regs = s.regs)) ∧
    (∀ m : Nat, schedBad c dma = none → m < n → (∀ i, i < m → good i = true) → good m = false → Does (.schedWrite c dma) s (fun t =>
      t.completed c stBAD_PARAM [w32 (first + m)] (if s.cellMay p (first + m) then 22 else 1) ∧ t.slot = s.slot)) ∧
    (∀ cause, schedBad c dma = some cause → Does (.schedWrite c dma) s (fun t => t.completed c stBAD_PARAM [] cause ∧ t.slot = s.slot)) ∧
    (∀ cause, schedBad c .ok = some cause → Does (.schedRead c) s (fun t => t.completed c stBAD_PARAM [] cause ∧ t.host = s.host)) ∧
    (schedBad c .ok = none → addr64 c.w4 c.w5 + 8 * n ≤ 2 ^ 64 → Does (.schedRead c) s (fun t =>
      t.completed c stOK [w32 n] 0 ∧ t.slot = s.slot ∧ ∀ i w, i < n → w < 2 →
        t.memWord p (addr64 c.w4 c.w5 + 8 * i + 4 * w) = if s.cellMay p (first + i) then s.cellWord (first + i) w else 0))

/-- Start, stop, preparation and boundary: a start names its first slot or is refused; a stop acts at the next boundary; the preparation
checks the engines and plans one slot; a boundary takes the next ASN. Where it touches them it rests on the model's choices of log
entries 28, 60, 69, 92, 93, 96, 118, 129. -/
def Obligations.SlotEngineRuns : Prop :=
  ∀ (s : State) (k : SlotCheck) (n : Nat), let at_ := s.boundary n - s.prepNs
    let s1 := (((s.toNs at_).prepSettle).rollsRun).engStart
    let s2 := (s1.slotRead n).engCheck k (n % 2 ^ 40)
    let s3 := { s2 with slot := { s2.slot with
      prepared := n + 1
      wins := s2.slot.wins.filter (fun (w : RxWin) => w.open_ || at_ ≤ w.until_) } }
    (s.running = false → s.slotPending = false → s.time.valid = false → exec (.slotStart 0) s = .next (s.err R.SLOT_ERR F.SLOT_ERR_START_REFUSED)) ∧
    (s.running = false → s.slotPending = false → s.time.valid = true → s.gridNow.1 ≤ s.cityNs →
      s.fld R.SLOT_EPOCH_NS F.SLOT_EPOCH_NS_NS < 1000000000 → s.sfs ≠ [] → 5000000 ≤ s.gridNow.2.1 → s.gridNow.2.1 ≤ 80000000 →
      (∀ i ∈ s.sfs, s.tplValid (s.sfTpl i) = true) → Does (.slotStart 0) s (fun t => t.slot.grid = some s.gridNow ∧ t.slot.stopping = false ∧
        t.regs = s.regs ∧ ∃ m, t.slot.startAsn = some m ∧ s.cityNs + 1000000 ≤ s.gridNow.1 + m * s.gridNow.2.1 ∧
          s.gridNow.1 + m * s.gridNow.2.1 ≤ s.cityNs + 1000000 + s.gridNow.2.1)) ∧
    (s.running = true ∨ s.slotPending = true → exec (.slotStop 0) s = .next { s with slot := { s.slot with stopping := true } }) ∧
    (s.running = true → s.slot.stopping = true → Does .slotBoundary s (fun t =>
      t.running = false ∧ t.slot.startAsn = none ∧ t.slot.wins = [] ∧ ∀ u ∈ t.air, u.kind ≠ 2 → u.started = false → u.ended = true)) ∧
    (s.running = true → s.slot.stopping = false → s.pwr.deeper = none → s.slot.engA.revert = false → s.slot.engB.revert = false →
      Does .slotBoundary s (fun t => let asn := (s.slot.cur + 1) % 2 ^ 40
        t.running = true ∧ t.slot.cur = s.slot.cur + 1 ∧ t.rd R.SLOT_ASN_LO = w32 asn ∧ t.rd R.SLOT_ASN_HI = w32 (asn / 2 ^ 32))) ∧
    (s.running = false → s.slot.startAsn = some n → s.slot.stopping = false → s.pwr.deeper = none → s.engState 0 = 6 → s.engState 1 = 6 →
      Does .slotBoundary s (fun t => t.running = true ∧ t.slot.cur = n ∧ t.slot.startAsn = none ∧ t.primary = s.prefer ∧
        t.engState s.prefer = 0 ∧ t.engState (1 - s.prefer) = 1)) ∧
    (s.running = false → s.slot.startAsn = none → exec .slotBoundary s = .next s ∧ exec (.slotPreparation k) s = .next s) ∧
    (s.prepNext = some n → at_ + 20000 < s.cityNs → exec (.slotPreparation k) s = .next s) ∧
    (s.prepNext = some n → s.cityNs ≤ at_ + 20000 → 3 ≤ s2.pwrState → exec (.slotPreparation k) s = .next s3) ∧
    (s.prepNext = some n → s.cityNs ≤ at_ + 20000 → s2.pwrState < 3 → s1.inQuiet = true ∨ s2.inQuiet = false →
      exec (.slotPreparation k) s = .next (s3.slotPlan n)) ∧
    (s.prepNext = some n → s.cityNs ≤ at_ + 20000 → s2.pwrState < 3 → s1.inQuiet = false → s2.inQuiet = true →
      exec (.slotPreparation k) s = .next (s3.winPlan (s3.slotCells (n % 2 ^ 40)) [] n)) ∧
    (s.prepNext = some n → s.cityNs ≤ at_ + 20000 → s.sfs = [] → s.slot.acks = [] → s.key.rolls = [] → s.slot.wins = [] → s.pwrState = 0 →
      k.aFail = 0 → k.bFail = 0 → k.agree = true → Does (.slotPreparation k) s (fun t => t.slot.prepared = n + 1 ∧ t.air = s.air ∧
        t.qmg = s.qmg ∧ t.regsBut s [R.SLOT_HEALTH, R.SAFE_CAUSE]))

/-- Transmissions of a plan: blanking begins, the front end is switched, the frame starts and ends; a transmission that was cut does not
start. Where it touches them it rests on the model's choices of log entries 28, 127, 129. -/
def Obligations.TransmissionsGoOnAir : Prop :=
  ∀ (s : State) (id : Nat) (k : SlotCheck) (x : AirTx) (a : Fin 4), let begun := (s.toNs x.tStart).txMod id (fun u => { u with started := true })
    (s.tx id = some x → x.cut = false → Does (.blankingStart id) s (fun t => t.tx id = some { x with blk := true } ∧
      t.arrRxen x.array = false ∧ ∀ i, nbit (t.blankMask x.array) i = true → t.blanked i = true)) ∧
    (s.tx id = some x → x.cut = false → Does (.feTxenAssert id) s (fun t => t.tx id = some { x with txen := true } ∧ t.regs = s.regs ∧
      (s.arrOn x.array = true → s.pwrState < 3 → s.calibrating x.array = false → t.arrTxen x.array = true))) ∧
    (s.tx id = some x → x.cut = true → exec (.blankingStart id) s = .next s ∧ exec (.feTxenAssert id) s = .next s ∧
      exec (.txFrameStart id k) s = .next s) ∧
    (s.tx id = some x → x.cut = false → s.running = false ∨ x.kind = 2 → exec (.txFrameStart id k) s = .next begun) ∧
    (s.tx id = some x → x.cut = false → s.running = true → x.kind ≠ 2 → exec (.txFrameStart id k) s =
      .next (begun.engCheck k (s.slot.cur % 2 ^ 40))) ∧
    (s.tx id = some x → x.cut = false → x.started = true → s.slot.attempts = [] → exec (.txFrameEnd id) s =
      .next (((s.toNs x.tEnd).txMod id (fun u => { u with ended := true, tEnd := x.tEnd })).txPins x x.tEnd)) ∧
    (s.tx id = some x → x.cut = false → x.started = false → exec (.txFrameEnd id) s = .next s) ∧
    (s.tx id = none → exec (.blankingStart id) s = .next s ∧ exec (.feTxenAssert id) s = .next s ∧ exec (.txFrameStart id k) s = .next s ∧
      exec (.txFrameEnd id) s = .next s) ∧
    Does (.blankingEnd a) s (fun t => aget 0 a.val t.rf.blankEnd = 0 ∧
      (∀ b, b ≠ a.val → aget 0 b t.rf.blankEnd = aget 0 b s.rf.blankEnd) ∧ t.air = s.air ∧ t.regs = s.regs) ∧
    (∀ w, s.nextWin a = some w → s.doze = true → Does (.rxWindowOpen a) s (fun t =>
      t.slot.wins = s.slot.wins.map (fun v => if v = w then { v with open_ := true } else v) ∧ t.regs = s.regs)) ∧
    (s.nextWin a = none ∨ s.doze = false → exec (.rxWindowOpen a) s = .next s) ∧
    (s.slot.wins.any (fun w => w.array = a.val && w.open_) = true → s.lanesOf (fun b => s.beamArray b == a.val) [1, 2, 3] = [] →
      Does (.rxWindowClose a) s (fun t => t.slot.wins = s.slot.wins.filter (fun w => !(w.array = a.val && w.open_)) ∧ t.regs = s.regs))

/-- Acknowledgement points search between their instants, and one whose lanes still hold a frame waits for them; an Enh-Ack is sent on its
beam when the beam is fixed, and not in Quiet. Where it touches them it rests on the model's choices of log entries 42, 58, 68, 99, 118,
120. -/
def Obligations.AcknowledgementsAreHeardAndSent : Prop :=
  ∀ (s : State) (k : Fin 16) (id : Nat),
    (∀ p, s.ackFirst k (fun p => !p.open_) = some p → Does (.ackPointOpen k) s (fun t =>
      t.slot = { s.slot with acks := s.slot.acks.map (fun q => if q = p then { p with open_ := true } else q) } ∧ t.regs = s.regs)) ∧
    (s.ackFirst k (fun p => !p.open_) = none → exec (.ackPointOpen k) s = .next s) ∧
    (∀ p, s.ackFirst k (fun p => p.open_ && !p.stopped) = some p → s.rx.lanes = [] → s.rx.dets = [] →
      s.slot.attempts = [] → Does (.ackPointClose k) s (fun t =>
        t.slot.acks = s.slot.acks.filter (fun q => q ≠ p && !q.stopped) ∧ t.regs = s.regs)) ∧
    (∀ p, s.ackFirst k (fun p => p.open_ && !p.stopped) = some p → (∃ e ∈ s.rx.lanes, e.2.point = 8192 + p.stream) →
      (∀ q ∈ s.slot.acks, q.stopped = false) → Does (.ackPointClose k) s (fun t =>
        t.slot = { s.slot with acks := s.slot.acks.map (fun q => if q = p then { p with stopped := true } else q) } ∧ t.regs = s.regs)) ∧
    (∀ a, s.link.acks.find? (fun a => a.id = id) = some a → a.level = 0 ∨ s.ackKey a = none →
      s.inQuiet = true ∨ s.pwr.hush = true ∨ a.level ≠ 0 → Does (.enhAckBeamFix id) s (fun t =>
        t.link.acks = s.link.acks.filter (fun b => b.id ≠ id) ∧ t.air = s.air ∧ t.regs = s.regs)) ∧
    (∀ a b st code, s.link.acks.find? (fun a => a.id = id) = some a → s.inQuiet = false → s.pwr.hush = false → a.level = 0 → s.key.slots = [] →
      s.air = [] → let s1 := s.toNs (a.start - 50000)
      let s2 := { s1 with link := { s1.link with acks := s1.link.acks.filter (fun b => b.id ≠ id) } }
      s2.beamsFor a.family ⟨a.centre, (widthHz a.width).getD 0⟩ (some a.beam) = [b] → s2.ackYields a (s2.beamArray b) = false →
      s2.grant (s2.beamArray b) a.start (a.start + a.air) a.power = .ok st code → Does (.enhAckBeamFix id) s (fun t =>
        t.air.map (fun u => (u.id, u.beam, u.stream, u.power, u.tStart, u.kind)) = [(s.slot.nextTx, b, st, code, a.start, 2)] ∧
        t.air.map AirTx.bytes = [a.ie] ∧ t.link.acks = s.link.acks.filter (fun b => b.id ≠ id)))

/-- A disabled engine is tested, serves its probation and returns. Where it touches them it rests on the model's choices of log entries 64,
119. -/
def Obligations.EnginesReturn : Prop :=
  ∀ (s : State) (e : Fin 2) (sig : BitVec 128), let good := s.bistGood (16 + e.val) 3 sig
    let tested := s.engState e = 3 ∧ (s.eng e).ready = false ∧ s.bistRegion ≠ some (16 + e.val)
    (s.engState e = 2 → Does (.engineBistStart e) s (fun t => t.engState e = 3 ∧ t.engTries e = min 3 (s.engTries e + 1) ∧
      t.now = max s.now ((s.eng e).since + sec 1) ∧ t.regsBut s [R.SLOT_HEALTH])) ∧
    (tested → good = true → Does (.engineBistDone e sig) s (fun t =>
      (t.eng e).ready = true ∧ t.now = max s.now ((s.eng e).since + ms 20) ∧ t.regs = s.regs)) ∧
    (tested → good = false → s.engTries e = 3 → Does (.engineBistDone e sig) s (fun t => t.engState e = 5 ∧ t.regsBut s [R.SLOT_HEALTH])) ∧
    (tested → good = false → s.engTries e < 3 → Does (.engineBistDone e sig) s (fun t =>
      t.engState e = 2 ∧ (t.eng e).since = t.now ∧ t.regsBut s [R.SLOT_HEALTH])) ∧
    (s.engState e = 4 → (s.eng e).revert = false → s.prefer ≠ e ∨ s.flag R.SLOT_CFG F.SLOT_CFG_REVERT_EN = false →
      Does (.engineProbationEnd e) s (fun t => t.engState e = 1 ∧ t.now = max s.now ((s.eng e).probFrom + sec 60))) ∧
    (s.engState e = 4 → (s.eng e).revert = false → s.prefer = e → s.flag R.SLOT_CFG F.SLOT_CFG_REVERT_EN = true →
      Does (.engineProbationEnd e) s (fun t => (t.eng e).revert = true ∧ t.regs = s.regs))

/-! ### Frames across the Pass, floods and reassembly (R228 to R254, R278, R279, R316, R320, R336) -/

/-- Frames come from the hosts and go up to them. FRAME_DN from a TX ring: below the ingress floor it completes INSERT_FULL, cause 7, and
its credit returns; with a direct destination its frame joins that port's queue. A malformed one completes PASS_REJECT, and its credit
returns. In Hush a frame waits in front of its pipeline. A frame for a partition's ring is held in the H-die until it is written back; a
frame for an Ethernet port joins the egress FIFO of its port, padded, unless it is too long for it. Where it touches them it rests on
the model's choices of log entries 4, 52, 55, 117. -/
def Obligations.HostAndUplinkFrames : Prop :=
  (∀ (s : State) (m : PassMsg) (p : Part), let w0 := wordAt m.payload 0
    let w2 := wordAt m.payload 2
    let s1 := s.acked .f m
    let bs := passFrame m
    let n := frameCells bs.length
    let f : Fetched := ⟨p, bitsAt w2 16 4, bitsAt w2 0 16, 0, 0, wordAt m.payload 4, aget 0 p.val s.ends.gens⟩
    let fine := s.fld R.SAFE_HEALTH F.SAFE_HEALTH_PIPE_OK ≠ 0 ∧ s.pwr.hush = false
    let q := qEth 2 (bitsAt w0 13 3)
    (Accepted s .f 0x02 m → fine → bitsAt w2 20 6 = 52 + p.val → s.cellsOk n (bitsAt w0 16 2 == 0) = false →
      exec (.frameDn m 0) s = .next (((s1.bump R.QMG_CNT_HOSTFLOOR).txDone f stINSERT_FULL 0 0 63 false 7 2).creditBack p n)) ∧
    (Accepted s .f 0x02 m → fine → bitsAt w2 20 6 = 52 + p.val → s.cellsOk n (bitsAt w0 16 2 == 0) = true → bitAt w0 20 = true →
      bitsAt w0 21 6 = 50 → s.flag (R.SHP_ING (4 + p)) F.SHP_ING_EN = false → (s.queue q).mismatch = false → (s.queue q).frames = [] →
      s.queueRefuses q n (bitAt w0 18) = none → (∀ k : Fin 8, s.flag (R.QMG_TAP k) F.QMG_TAP_EN = false) →
      s.fld R.QMG_THRESH F.QMG_THRESH_SPILL_LOW = 0 → Does (.frameDn m 0) s (fun t =>
        (t.queue q).frames.map (fun g => (g.bytes, g.origin, g.direct, g.cells)) = [(bs, .host f, true, n)] ∧
        (s.qmg.used.Pairwise (· < ·) → ∀ g ∈ (t.queue q).frames, ∀ c ∈ g.onDie, c ∉ s.qmg.used ∧ c ∈ t.qmg.used) ∧
        t.freeCells = (65536 - t.qmg.used.length) % 2 ^ 17 ∧ t.sent .f = some (1, p.val, [w32 n, 0]))) ∧
    (s.passUp = true → m.crc = passCrc 0x02 m → m.seq = (s.rxDir .f).rx → passMalformed 0x02 m = true → bitsAt w2 20 6 = 52 + p.val →
      exec (.frameDn m 0) s = .next (((s1.passReject .f 0x02 m).txDone f stPASS_REJECT 0 0 63 false 0 0).creditBack p (frameCells (m.len - 32)))) ∧
    (Accepted s .f 0x02 m → s.pwr.hush = true → ∀ faults : Fin 5, exec (.frameDn m faults) s =
      .next { s1 with qmg := { s1.qmg with frozen := s1.qmg.frozen ++ [(m, faults.val)] } }) ∧
    (Accepted s .f 0x02 m → fine → bitsAt w2 20 6 < 48 → exec (.frameDn m 0) s = .next s1)) ∧
  (∀ (s : State) (m : PassMsg), let w0 := wordAt m.payload 0
    let port := bitsAt w0 0 6
    let x := (s.acked .h m).takeSide m.seq.toNat
    let bs := passFrame m
    (Accepted s .h 0x03 m → 52 ≤ port → port < 56 → Does (.frameUp m) s (fun t =>
      t.host = { s.host with held := s.host.held ++ [⟨port - 52, bitsAt w0 6 4, m.payload.take 8, bs, x.1.src⟩] } ∧ t.regs = s.regs)) ∧
    (Accepted s .h 0x03 m → port = 50 → x.1.direct = true → bs.length + 4 ≤ s.maxLen 2 → Does (.frameUp m) s (fun t =>
      t.eth.tx = markHeads s.portTime [] (s.eth.tx ++ [⟨2, x.1.prio, ethPad bs,
        bitAt w0 10 && x.1.src.any (fun f => f.part = 0 || f.part = s.fld R.PTP_CFG F.PTP_CFG_PTP_PART), bitsAt w0 11 16, x.1.src, false, 0⟩]) ∧
      (markHeads s.portTime [] t.eth.tx).length = s.eth.tx.length + 1 ∧ t.regs = s.regs)) ∧
    (Accepted s .h 0x03 m → port = 50 → x.1.direct = true → x.1.src = none → s.maxLen 2 < bs.length + 4 → Does (.frameUp m) s (fun t =>
      t.eth.tx = s.eth.tx ∧ t.rd (R.ETH_CNT_TOOBIG 2) = satInc (s.rd (R.ETH_CNT_TOOBIG 2)) ∧ t.regsBut s [R.ETH_CNT_TOOBIG 2])))

/-- Floods: a waiting one is seeded when a seed ID is free and its frame check word verifies; an instant places a copy unless K suppresses
it; an interval ends with a longer one or with the flood's end. In Hush neither touches a queue. Where it touches them it rests on the
model's choices of log entries 9, 11, 28, 42, 54. -/
def Obligations.FloodsRun : Prop :=
  ∀ (s : State) (p : Fin 8) (n : Nat) (x : Flood) (faults : Fin 5), let live := s.mesh.floods.find? (fun x => x.n = n) = some x
    ((s.queue (qFlood p)).mismatch = false → s.qHead (qFlood p) = none → exec (.mplSeed p) s = .next s) ∧
    (s.pwr.hush = true → exec (.mplSeed p) s = .next s) ∧
    (∀ f, (s.queue (qFlood p)).mismatch = false → s.pwr.hush = false → s.qHead (qFlood p) = some f → f.checkOk = false →
      exec (.mplSeed p) s = .next (s.frameCheckFail (qFlood p) f)) ∧
    (∀ f, (s.queue (qFlood p)).mismatch = false → s.qHead (qFlood p) = some f → f.checkOk = true → s.seedTake p = none →
      exec (.mplSeed p) s = .next s) ∧
    (∀ f id q s1, (s.queue (qFlood p)).mismatch = false → s.pwr.hush = false → s.qHead (qFlood p) = some f → f.checkOk = true →
      s.seedTake p = some (id, q, s1) → s.mplField p F.MESH_PAN_MPL_EXPIRATIONS ≠ 0 → Does (.mplSeed p) s (fun t =>
        (t.queue (qFlood p)).frames = (s.queue (qFlood p)).frames.drop 1 ∧ t.seenHas (seenKey p (seed16 id) q) = true ∧
        (t.mesh.floods.getLast?).map (fun y => (y.n, y.pan, y.seed, y.seq, y.left, y.sent)) =
          some (s.mesh.nextFlood, p.val, seed16 id, q, s.mplField p F.MESH_PAN_MPL_EXPIRATIONS, false))) ∧
    (∀ i, live → x.instant = some i → s.mplField x.pan F.MESH_PAN_MPL_K ≠ 0 → s.mplField x.pan F.MESH_PAN_MPL_K ≤ x.heard →
      exec (.trickleInstant n faults) s = .next ((s.advanceTo i).setFlood { x with instant := none })) ∧
    (∀ i, live → x.instant = some i → s.panOn x.pan = false →
      exec (.trickleInstant n faults) s = .next ((s.advanceTo i).setFlood { x with instant := none })) ∧
    (∀ i, live → x.instant = some i → s.panOn x.pan = true →
      s.mplField x.pan F.MESH_PAN_MPL_K = 0 ∨ x.heard < s.mplField x.pan F.MESH_PAN_MPL_K → s.pwr.hush = true →
      exec (.trickleInstant n faults) s = .next (s.advanceTo i)) ∧
    (∀ i f, live → x.instant = some i → s.panOn x.pan = true →
      s.mplField x.pan F.MESH_PAN_MPL_K = 0 ∨ x.heard < s.mplField x.pan F.MESH_PAN_MPL_K → s.pwr.hush = false →
      s.fld R.SAFE_HEALTH F.SAFE_HEALTH_PIPE_OK ≠ 0 →
      let c := ((s.advanceTo i).setFlood { x with instant := none }).radioCopy x.pan x.cls 0 none (!x.relay) x.bytes
      let need := frameCells (c.1.parts.headD []).length
      c.1.parts.length ≤ 1 ∨ x.origin = .host f →
        (c.2.cellsOk need false = false → exec (.trickleInstant n 0) s = .next (s.advanceTo i)) ∧
        (c.2.cellsOk need false = true → exec (.trickleInstant n 0) s = .next (((c.2.takeChain need).2.radioSend
          ⟨x.bytes, (c.2.takeChain need).1, 56, .flood n, false, x.cls, 0, [], false, 0⟩ x.pan false [c.1]).getD (s.advanceTo i)))) ∧
    (live → 2 ≤ x.left → x.doublings < s.mplField x.pan F.MESH_PAN_MPL_IMAX →
      Does (.trickleIntervalEnd n) s (fun t => t.now = max s.now (x.start + x.interval) ∧ t.regs = s.regs ∧
        ∃ y, t.mesh.floods.find? (fun x => x.n = n) = some y ∧ y.interval = 2 * x.interval ∧ y.left = x.left - 1 ∧ y.heard = 0 ∧
          y.doublings = x.doublings + 1 ∧ ∃ i, y.instant = some i ∧ t.now + x.interval ≤ i ∧ (0 < x.interval → i < t.now + 2 * x.interval))) ∧
    (live → x.left = 1 → exec (.trickleIntervalEnd n) s = .next ((s.advanceTo (x.start + x.interval)).floodEnd x))

/-- Entries of the caches expire, a reassembly that lasts too long frees its cells, and a compression context is written whole or refused.
Where it touches them it rests on the model's choices of log entry 40. -/
def Obligations.MeshCachesAndContexts : Prop :=
  ∀ (s : State) (p : Fin 8) (q : Part) (seed size tag src : Nat) (seq : Byte) (o : Fin 524288) (tseq : BitVec 16) (data : Word),
    let c := s.fld R.MESH_CTX_ADDR F.MESH_CTX_ADDR_CTX
    let pan := s.fld R.MESH_CTX_ADDR F.MESH_CTX_ADDR_PAN
    (∀ e, s.mesh.seen.find? (fun e => e.1 = seenKey p seed seq.toNat) = some e → Does (.seenEntryExpiry p seed seq) s (fun t =>
      t.mesh.seen = adel e.1 s.mesh.seen ∧ t.now = max s.now e.2 ∧ t.regsBut s [R.MESH_SEEN_USE, R.MESH_TWIN_USE])) ∧
    (∀ e, s.mesh.twins.find? (fun e => e.1 = twinKey p o tseq.toNat) = some e → Does (.twinEntryExpiry p o tseq) s (fun t =>
      t.mesh.twins = adel e.1 s.mesh.twins ∧ t.now = max s.now e.2 ∧ t.regsBut s [R.MESH_SEEN_USE, R.MESH_TWIN_USE])) ∧
    (∀ y, s.mesh.reasm.find? (fun y => y.pan = p.val && y.src = src && y.size = size && y.tag = tag) = some y →
      Does (.reassemblyTimeout p src size tag) s (fun t =>
        (∀ z ∈ t.mesh.reasm, z ∈ s.mesh.reasm ∧ z ≠ y) ∧ (∀ k ∈ y.chain, k ∉ t.qmg.used) ∧ t.freeCells = (65536 - t.qmg.used.length) % 2 ^ 17 ∧
        t.rd R.MESH_CNT_REASMTMO = satInc (s.rd R.MESH_CNT_REASMTMO) ∧ t.now = max s.now (y.start + sec 60))) ∧
    (s.panMay q pan = true → bitsAt data 0 7 ≤ 64 → c ≠ 0 ∨ (bitAt data 7 = true ∧ bitsAt data 0 7 = 64) → Does (.contextWrite q data) s (fun t =>
      aget 0 (ctxKey pan c 2) t.mesh.ctx = data &&& 0x1FF ∧ aget 0 (ctxKey pan c 1) t.mesh.ctx = s.rd R.MESH_CTX_LO ∧
      aget 0 (ctxKey pan c 0) t.mesh.ctx = s.rd R.MESH_CTX_HI ∧ t.regs = s.regs)) ∧
    (s.panMay q pan = true → 64 < bitsAt data 0 7 → exec (.contextWrite q data) s = .next (s.err R.MESH_ERR F.MESH_ERR_CTX_INVALID)) ∧
    (s.panMay q pan = false → exec (.contextWrite q data) s = .next (s.err R.MESH_ERR F.MESH_ERR_PART_WRITE))

/-! ### PANs, neighbours and joins (R132 to R164) -/

/-- PANs are created and deleted; a deleted PAN has nothing left. A PAN is created, changed and deleted by partition 0 through its unlocked
lock (R132, R133). Deleting a PAN clears its `ENABLE`, disables its slotframes, removes its neighbours and leaves none of its addresses
assigned (R134). Where it touches them it rests on the model's choices of log entry 28. -/
def Obligations.PansAreKept : Prop :=
  (∀ (s : State) (q : Part) (p : Fin 8) (data : Word), let on := fset F.PAN_CTRL_ENABLE data 1 &&& 0xF
    let off := fset F.PAN_CTRL_ENABLE data 0 &&& 0xE
    (s.unlocked 0 = true → s.panOn p = false → s.panId p ≠ 0xFFFF → (∀ r : Fin 8, s.panOn r = true → s.panId r ≠ s.panId p) →
      Does (.panCreate 0 p data) s (fun t => t.rd (R.PAN_CTRL p) = on ∧ t.panOn p = true ∧ t.unlocked 0 = false ∧
        aget 0 p.val t.link.quarId = s.panId p + 1 ∧ t.regsBut s [R.PAN_CTRL p, R.SYS_LOCK 0, R.PAN_ADDR p, R.PAN_QUAR p])) ∧
    (s.unlocked 0 = true → s.panOn p = false → s.panId p = 0xFFFF ∨ (∃ r : Fin 8, r ≠ p ∧ s.panOn r = true ∧ s.panId r = s.panId p) →
      Does (.panCreate 0 p data) s (fun t => t.flag R.LINK_ERR F.LINK_ERR_PAN_INVALID = true ∧ t.panOn p = false ∧ t.unlocked 0 = false ∧
        t.regsBut s [R.LINK_ERR, R.SYS_LOCK 0])) ∧
    (s.panOn p = true → exec (.panCreate q p data) s = .next s) ∧
    (s.unlocked 0 = true → s.panOn p = true → Does (.panOwnerChange 0 p data) s (fun t =>
      t.panOwner p = fget F.PAN_CTRL_OWNER data ∧ t.panOn p = true ∧ t.panSecured p = s.panSecured p ∧ t.unlocked 0 = false ∧
      t.regsBut s [R.PAN_CTRL p, R.SYS_LOCK 0, R.LINK_ERR])) ∧
    (s.panOn p = false → exec (.panOwnerChange q p data) s = .next s) ∧
    (s.unlocked 0 = true → s.panOn p = true → exec (.panDelete 0 p data) s =
      .next ((s.armLock 0).panDelete p (fset F.PAN_CTRL_ENABLE data 0))) ∧
    (s.unlocked 0 = true → s.panOn p = false → Does (.panDelete 0 p data) s (fun t =>
      t.rd (R.PAN_CTRL p) = off ∧ t.regsBut s [R.PAN_CTRL p, R.SYS_LOCK 0])) ∧
    (s.unlocked q = true → q ≠ 0 → s.panOn p = true → Does (.panDelete q p data) s (fun t =>
      t.flag R.LINK_ERR F.LINK_ERR_PART_WRITE = true ∧ t.panOn p = true ∧ t.unlocked q = false)) ∧
    (s.unlocked q = false → s.panOn p = true → exec (.panDelete q p data) s =
      .next (s.guardViolation q (w32 (R.PAN_CTRL p)) false (fset F.PAN_CTRL_ENABLE data 0)))) ∧
  (∀ (s : State) (p : Fin 8) (data : Word), s.unlocked 0 = true → s.panOn p = true → Does (.panDelete 0 p data) s (fun t =>
    t.panOn p = false ∧ t.unlocked 0 = false ∧ (∀ i : Fin 64, s.sfPan i = p.val → t.sfOn i = false) ∧
    (∀ n, (t.nbr n).valid = true → (t.nbr n).pan ≠ p.val) ∧ ∀ a : BitVec 16, t.shortAssigned p a.toNat = false))

/-- Neighbour entries: words are written to a valid entry by its PAN's owner; liveness counts misses, suspects at two and loses at three; a
lost neighbour's frames complete after 30 s. Where it touches them it rests on the model's choices of log entry 20. -/
def Obligations.NeighboursLiveAndAreLost : Prop :=
  ∀ (s : State) (q : Part) (n : Fin 8192) (data : Word), let x := s.nbr n
    let k := s.fld (R.LINK_NBR_ADDR q) F.LINK_NBR_ADDR_NBR
    let w := s.fld (R.LINK_NBR_ADDR q) F.LINK_NBR_ADDR_WORD
    let y := (s.nbr k).setWord w data
    ((s.nbr k).valid = true → s.panMay q (s.nbr k).pan = true → nbrWordsBad s (y.word 1) (y.word 2) = false →
      exec (.nbrEntryWrite q data) s = .next (s.setNbr k y)) ∧
    ((s.nbr k).valid = true → s.panMay q (s.nbr k).pan = true → nbrWordsBad s (y.word 1) (y.word 2) = true →
      exec (.nbrEntryWrite q data) s = .next (s.err R.LINK_ERR F.LINK_ERR_NBR_INVALID)) ∧
    ((s.nbr k).valid = false → exec (.nbrEntryWrite q data) s = .next (s.err R.LINK_ERR F.LINK_ERR_NBR_INVALID)) ∧
    ((s.nbr k).valid = true → s.panMay q (s.nbr k).pan = false → exec (.nbrEntryWrite q data) s = .next (s.err R.LINK_ERR F.LINK_ERR_PART_WRITE)) ∧
    (x.valid = true → x.livePeriod ≠ 0 → x.misses = 1 → Does (.livenessPeriodExpiry n) s (fun t =>
      (t.nbr n).misses = 2 ∧ (t.nbr n).state = 2 ∧ (t.nbr n).missFrom = max s.now (x.missFrom + ms (100 * x.livePeriod)) ∧ t.regs = s.regs)) ∧
    (x.valid = true → x.livePeriod ≠ 0 → x.misses = 2 → x.state = 2 → s.qmg.queues = [] → s.src ≠ 3 → Does (.livenessPeriodExpiry n) s (fun t =>
      (t.nbr n).misses = 3 ∧ (t.nbr n).state = 3 ∧ (t.nbr n).lostAt = t.now ∧ (t.node x.node).reach = false ∧
      t.raised 15 (w32 n) (w32 x.node) (w32 x.pan))) ∧
    (∀ f, x.valid = true → x.state = 3 → (s.queue (qNbr n 0)).frames = [f] → (s.queue (qNbr n 0)).mismatch = false →
      (∀ c : Fin 4, c ≠ 0 → (s.queue (qNbr n c)).frames = []) → f.gram = none → f.origin = .own → Does (.heldFrameExpiry n) s (fun t =>
        (t.queue (qNbr n 0)).frames = [] ∧ t.now = max s.now (x.lostAt + sec 30)))

/-- Joins: an accepted node gets an ordinal, an address and, when asked, a neighbour entry and its link key's store position; the checks
complete with their cause; entries and quarantines expire. A command acts when it leads its family (R323). Where it touches them it
rests on the model's choices of log entries 31, 34, 59, 103. -/
def Obligations.JoinsAndAddresses : Prop :=
  ∀ (s : State) (c : CmdDesc) (dma : Dma) (p : Fin 8) (a : BitVec 16) (eui : Word64), let t0 := s.cmdTake c
    let o := bitsAt c.w2 0 19
    let n := bitsAt c.w2 0 13
    let t1 := if bitAt c.w1 4 && dma = .ok then t0.blobReady (s.paramBlock c.part.val (addr64 c.w4 c.w5)).2 else t0
    (∀ st cause, s.cmdTurn c = true → t1.joinBad c dma = some (st, cause) → exec (.joinAccept c dma) s = .next (t1.cmdDone c st [] cause 0)) ∧
    (∀ k, s.leads c = true → t0.joinBad c dma = none → bitAt c.w1 3 = false → bitAt c.w1 4 = false → t0.ordLowest 524288 0 = some k →
      t0.dir.a.ents = [] → t0.dir.b.ents = [] → t0.dir.lost = [] → bitsAt c.w1 16 16 ≠ 0 → Does (.joinAccept c dma) s (fun t =>
        t.completed c stOK [w32 k, w32 (bitsAt c.w1 16 16), 0x1FFF] 0 ∧ (t.node k).valid = true ∧ (t.node k).pan = lpan c ∧
        (t.node k).eui = cmdEui c ∧ (t.node k).short = bitsAt c.w1 16 16 ∧ t.shortAssigned (lpan c) (bitsAt c.w1 16 16) = true)) ∧
    (∀ k j, s.leads c = true → t1.joinBad c dma = none → bitAt c.w1 3 = true → t1.ordLowest 524288 0 = some k → t1.nbrLowest 8192 0 = some j →
      t1.dir.a.ents = [] → t1.dir.b.ents = [] → t1.dir.lost = [] → bitsAt c.w1 16 16 ≠ 0 → Does (.joinAccept c dma) s (fun t =>
        t.completed c stOK [w32 k, w32 (bitsAt c.w1 16 16), w32 j] 0 ∧ (t.node k).valid = true ∧ (t.node k).eui = cmdEui c ∧
        (t.node k).hasNbr = true ∧ (t.node k).nbr = j ∧ (t.nbr j).valid = true ∧ (t.nbr j).node = k ∧ (t.nbr j).pan = lpan c)) ∧
    (∀ k, s.leads c = true → t1.joinBad c dma = none → bitAt c.w1 3 = false → bitAt c.w1 4 = true → t1.ordLowest 524288 0 = some k →
      t1.dir.a.ents = [] → t1.dir.b.ents = [] → t1.dir.lost = [] → bitsAt c.w1 16 16 ≠ 0 → Does (.joinAccept c dma) s (fun t =>
        t.completed c stOK [w32 k, w32 (bitsAt c.w1 16 16), 0x1FFF] 0 ∧ (t.node k).valid = true ∧
        aget [] k t.key.store = (s.paramBlock c.part.val (addr64 c.w4 c.w5)).2)) ∧
    (s.cmdTurn c = true → s.panMay c.part.val (lpan c) = false → exec (.nodeRelease c) s = .next (t0.cmdBad c 1)) ∧
    (s.cmdTurn c = true → s.panMay c.part.val (lpan c) = true → (s.node o).valid = true → (s.node o).pan = lpan c → exec (.nodeRelease c) s =
      .next ((t0.nodeDelete o).cmdOk c [0, 0, 0, 0, w32 (if (t0.node o).hasNbr then t0.finalN (t0.node o).nbr else 0)])) ∧
    (∀ k, s.leads c = true → s.panOn (lpan c) = true → s.panMay c.part.val (lpan c) = true → unaligned c.w4 c.w5 = false → dma = .ok → (s.node o).valid = true →
      (s.node o).pan = lpan c → (s.node o).hasNbr = false →
      let ws := (t0.paramBlock c.part.val (addr64 c.w4 c.w5)).1
      nbrWordsBad t0 ws.1 ws.2.1 = false → t0.nbrLowest 8192 0 = some k → bitAt c.w1 4 = false → Does (.nbrAdd c dma) s (fun t =>
        t.completed c stOK [0, 0, w32 k] 0 ∧ (t.nbr k).node = o ∧ (t.nbr k).pan = lpan c ∧ (t.node o).hasNbr = true ∧ (t.node o).nbr = k)) ∧
    (s.cmdTurn c = true → (s.nbr n).valid = false → exec (.nbrRemove c) s = .next (t0.cmdBad c 4)) ∧
    (s.cmdTurn c = true → (s.nbr n).valid = true → s.panMay c.part.val (s.nbr n).pan = true → exec (.nbrRemove c) s =
      .next ((t0.nbrRemove n).cmdOk c [0, 0, 0, 0, w32 (t0.finalN n)])) ∧
    (s.leads c = true → s.panMay c.part.val (lpan c) = true → 1 ≤ bitsAt c.w1 16 16 → bitsAt c.w1 16 16 ≤ 0xFFEF → s.shortAssigned (lpan c) (bitsAt c.w1 16 16) = false →
      1 ≤ bitsAt c.w2 0 17 → bitsAt c.w2 0 17 ≤ 86400 → Does (.addrQuarantine c) s (fun t => t.completed c stOK [] 0 ∧
        aget 0 (shortKey (lpan c) (bitsAt c.w1 16 16)) t.link.quar = s.citySec + bitsAt c.w2 0 17 + 1)) ∧
    (aget 0 (shortKey p a.toNat) s.link.quar ≠ 0 → aget 0 (shortKey p a.toNat) s.link.quar ≤ s.citySec + 2 → Does (.quarantineExpiry p a) s (fun t =>
      t.shortQuarantined p a.toNat = false ∧ t.regsBut s [R.PAN_ADDR p, R.PAN_QUAR p])) ∧
    (∀ j, s.link.joins.find? (fun j => j.eui = eui.toNat) = some j → Does (.joinCacheExpiry eui) s (fun t =>
      t.link.joins = s.link.joins.filter (fun x => x.eui ≠ eui.toNat) ∧ t.now = max s.now (j.at_ + sec 120) ∧ t.regs = s.regs))

/-! ### Keys (R165 to R201) -/

/-- Slots that fail their check, erasures and tamper inputs: what leaves the cache, and what is latched, counted and reported. Where it
touches them it rests on the model's choices of log entries 6, 22, 25, 100, 123, 124. -/
def Obligations.KeysAreErased : Prop :=
  ∀ (s : State) (data : Word) (i : Fin 4) (x : KeySlot) (p : Part) (high : Bool) (n : Nat), let l := s.fld R.KEY_TAMPER_STAT F.KEY_TAMPER_STAT_LATCH
    let cfg := s.rd R.KEY_TAMPER_CFG
    (∀ a, s.key.slots = [x] → x.loaded = true → x.attrs.find? (fun a => !x.good a) = some a →
      exec (.keyScrub [] []) s = .next (s.slotFail x (x.number a))) ∧
    ((∀ y ∈ s.key.slots, y.loaded = true → ∀ a ∈ y.attrs, y.good a = true) → exec (.keyScrub [] []) s = .next s) ∧
    (s.unlocked 0 = true → bitAt data 14 = true → bitAt data 13 = true → Does (.keySlotErase 0 data) s (fun t =>
      (∀ y ∈ t.key.slots, y.loaded = false) ∧ t.key.store = s.key.store ∧ t.unlocked 0 = false)) ∧
    (s.unlocked 0 = true → bitAt data 14 = false → Does (.keySlotErase 0 data) s (fun t => t.key = s.key ∧
      t.rd R.KEY_SLOT_ERASE = data &&& 0x7FFF ∧ t.unlocked 0 = false)) ∧
    (bitAt cfg (8 * i) = false ∨ bitAt cfg (8 * i + 1) ≠ high ∨ n < bitsAt cfg (8 * i + 4) 4 → exec (.tamperInput i high n) s = .next s) ∧
    (tamperQualifies cfg i high n = true → bitAt cfg (8 * i + 2) = false → s.pwr.fHeld = true → Does (.tamperInput i high n) s (fun t =>
      nbit (t.fld R.KEY_TAMPER_STAT F.KEY_TAMPER_STAT_LATCH) i = true ∧ t.flag R.KEY_STATUS F.KEY_STATUS_TAMPERED = true ∧
      t.flag R.KEY_TAMPER_STAT F.KEY_TAMPER_STAT_ZEROIZED = true ∧ t.vault = { s.vault with secret := 0, tamperAtBoot := 1 } ∧
      t.regsBut s [R.KEY_TAMPER_STAT, R.KEY_STATUS])) ∧
    (tamperQualifies cfg i high n = true → bitAt cfg (8 * i + 2) = true → s.pwr.fHeld = true → Does (.tamperInput i high n) s (fun t =>
      nbit (t.fld R.KEY_TAMPER_STAT F.KEY_TAMPER_STAT_LATCH) i = true ∧ t.flag R.KEY_STATUS F.KEY_STATUS_TAMPERED = true ∧ t.key = s.key ∧
      t.vault = { s.vault with tamperAtBoot := 1 } ∧ t.regsBut s [R.KEY_TAMPER_STAT, R.KEY_STATUS])) ∧
    (tamperQualifies cfg i high n = true → bitAt cfg (8 * i + 2) = false → s.pwr.fHeld = false → Does (.tamperInput i high n) s (fun t =>
      nbit (t.fld R.KEY_TAMPER_STAT F.KEY_TAMPER_STAT_LATCH) i = true ∧ t.vault.keks = [] ∧ t.vault.secret = 0 ∧
      (∀ y ∈ t.key.slots, y.loaded = false ∧ y.key = 0) ∧
      (t.lastSent .f).map (fun e => (e.typ, (wordAt e.payload 0).toNat)) = some (6, 12))) ∧
    (s.unlocked 0 = true → l ≠ 0 → clearBits l (data.toNat % 16) = 0 → s.flag R.KEY_TAMPER_STAT F.KEY_TAMPER_STAT_ZEROIZED = true →
      Does (.tamperLatchClear 0 data) s (fun t => t.fld R.KEY_TAMPER_STAT F.KEY_TAMPER_STAT_LATCH = 0 ∧
        t.flag R.KEY_STATUS F.KEY_STATUS_TAMPERED = false ∧ t.flag R.KEY_TAMPER_STAT F.KEY_TAMPER_STAT_ZEROIZED = false ∧
        t.fld R.KEY_STATUS F.KEY_STATUS_VAULT_CAUSE = 2 ∧ t.vault = { s.vault with secret := t.vault.secret, made := true } ∧ t.vault.secret < 2 ^ 256 ∧
        t.free = s.free + 1)) ∧
    (s.unlocked p = false → exec (.keySlotErase p data) s = .next (s.guardViolation p (w32 R.KEY_SLOT_ERASE) false data) ∧
      exec (.tamperLatchClear p data) s = .next (s.guardViolation p (w32 R.KEY_TAMPER_STAT) false data))

/-- The store and the KEKs: KEY_STORE opens the blob and keeps it, KEY_DELETE takes a range away, KEK_SET and the end of its rewrap. Where
it touches them it rests on the model's choices of log entries 16, 21, 28, 38, 100, 122. -/
def Obligations.KeyStoreAndKeks : Prop :=
  ∀ (s : State) (c : CmdDesc) (dma : Dma) (p : Part), let t0 := s.cmdTake c
    let b := s.memBytes c.part.val (addr64 c.w4 c.w5) 64
    let n := bitsAt c.w3 0 17
    let u := t0.kekReady (blobPart b)
    let turn := s.cmdTurn c = true
    let takes := turn ∧ unaligned c.w4 c.w5 = false ∧ s.key.rewraps = [] ∧ s.flag R.KEY_STATUS F.KEY_STATUS_TAMPERED = false ∧ bitAt c.w1 0 = false ∧
      nbit (s.fld R.KEY_KEKCTL F.KEY_KEKCTL_KEK_PROV) c.part = true ∧ dma = .ok
    (turn → unaligned c.w4 c.w5 = true → exec (.keyStore c dma) s = .next (t0.cmdBad c 8) ∧ exec (.kekSet c dma) s = .next (t0.cmdBad c 8)) ∧
    (turn → unaligned c.w4 c.w5 = false → dma ≠ .ok → exec (.keyStore c dma) s = .next (t0.cmdBad c 20)) ∧
    (turn → unaligned c.w4 c.w5 = false → dma = .ok → exec (.keyStore c dma) s = .next (
      match u.blobOpen c.part.val b with
      | .error e => u.cmdDone c stKEY_BAD [] e 0
      | .ok o => if storeKindOk (kpos c) o.kind then (u.blobPut (kpos c) b).cmdOk c [w32 o.keyId] else u.cmdBad c 31)) ∧
    (turn → 1048576 < kpos c + n ∨ 65536 < n → exec (.keyDelete c) s = .next (t0.cmdBad c 31)) ∧
    (s.leads c = true → kpos c + n ≤ 1048576 → n ≤ 65536 →
      (s.key.store.filter fun e => decide (kpos c ≤ e.1) && decide (e.1 < kpos c + n)).all (fun e => blobPart e.2 = c.part.val) = true →
      Does (.keyDelete c) s (fun t => (∀ e ∈ t.key.store, e.1 < kpos c ∨ kpos c + n ≤ e.1) ∧
        (∀ e ∈ s.key.store, e.1 < kpos c ∨ kpos c + n ≤ e.1 → e ∈ t.key.store) ∧
        t.completed c stOK [w32 (s.key.store.filter fun e => decide (kpos c ≤ e.1) && decide (e.1 < kpos c + n)).length] 0)) ∧
    (∀ s1, takes → t0.keyRoom (.kek c.part.val) = some s1 → exec (.kekSet c dma) s =
      .next ((s1.kekReady c.part.val).kekTake c (beNat (s.memBytes c.part.val (addr64 c.w4 c.w5) 32)))) ∧
    (takes → t0.keyRoom (.kek c.part.val) = none → exec (.kekSet c dma) s = .next s) ∧
    (∀ d, s.key.rewraps.find? (fun x => x.part = p) = some d → bitAt d.w1 0 = false → s.clearFor d = true → Does (.kekRewrapDone p) s (fun t =>
      t.key.rewraps = s.key.rewraps.erase d ∧ t.completed d stOK [] 0 ∧ t.regsBut s [R.KEY_KEKCTL] ∧
      t.fld R.KEY_KEKCTL F.KEY_KEKCTL_KEK_PROV = clrNbit (s.fld R.KEY_KEKCTL F.KEY_KEKCTL_KEK_PROV) p % 2 ^ F.KEY_KEKCTL_KEK_PROV.w)) ∧
    (s.key.rewraps = [] → exec (.kekRewrapDone p) s = .next s)

/-- Group, join and DERIVE keys: they are loaded from the store, rolled over with a grace period, and unloaded; an outgoing counter is only
raised. Where it touches them it rests on the model's choices of log entries 28, 35, 122, 125, 126. -/
def Obligations.PanKeysRollAndCount : Prop :=
  ∀ (s : State) (c : CmdDesc) (p : Fin 8), let t0 := s.cmdTake c
    let pan := lpan c
    let d := bitsAt c.w1 0 6
    let e := bitsAt c.w2 0 14
    let x := s.ctr e
    let old := s.groupCur pan
    let idx := bitsAt c.w1 8 8
    let turn := s.cmdTurn c = true
    let u := t0.kekReady (blobPart (t0.blob (kpos c)))
    (turn → s.panOn pan = true → s.panMay c.part.val pan = true → bitAt c.w1 3 = false → idx ≠ 0 → idx ≠ s.groupIdx pan 0 → idx ≠ s.groupIdx pan 1 →
      exec (.panKeySet c) s = .next (
        match u.fromStore (u.panOwner pan) (kpos c) 0 with
        | .error k => u.cmdDone c stKEY_BAD [] k 0
        | .ok m =>
          match u.keyRoom (.join pan) with
          | none => s
          | some v => (((v.bump R.KEY_CNT_MISS).keyPut (.join pan) m).setFld (R.KEY_PAN_CFG pan) F.KEY_PAN_CFG_JOIN_KIDX idx).cmdOk c [])) ∧
    (∀ m v, s.leads c = true → s.panOn pan = true → s.panMay c.part.val pan = true → bitAt c.w1 3 = true → idx ≠ 0 → idx ≠ s.joinIdx pan → idx ≠ s.groupIdx pan old →
      old < 2 → u.fromStore (u.panOwner pan) (kpos c) 0 = .ok m → u.keyRoom (.group pan (1 - old)) = some v → Does (.panKeySet c) s (fun t =>
        t.nextValid pan = true ∧ t.groupIdx pan (1 - old) = idx ∧ t.inGrace pan = false ∧ t.keyHeld (.group pan (1 - old)) = true ∧
        t.completed c stOK [] 0)) ∧
    (turn → s.panOn pan = true → s.panMay c.part.val pan = true → idx = 0 → exec (.panKeySet c) s = .next (t0.cmdBad c 33)) ∧
    (turn → s.panOn pan = true → s.panMay c.part.val pan = true → s.nextValid pan = false → exec (.groupRoll c) s = .next (t0.cmdBad c 34)) ∧
    (turn → s.panOn pan = true → s.panMay c.part.val pan = true → s.nextValid pan = true → s.key.rolls = [] → s.running = true →
      Does (.groupRoll c) s (fun t => t.key = { s.key with rolls := [⟨c, pan, bitsAt c.w1 16 16⟩] } ∧ t.regs = s.regs)) ∧
    (turn → s.panOn pan = true → s.panMay c.part.val pan = true → s.nextValid pan = true → s.key.rolls = [] → s.running = false → s.groupIdx pan old ≠ 0 →
      bitsAt c.w1 16 16 ≠ 0 → Does (.groupRoll c) s (fun t => t.groupCur pan = 1 - old ∧ t.nextValid pan = false ∧ t.inGrace pan = true ∧
        aget 0 pan t.key.grace = s.now + sec (bitsAt c.w1 16 16) ∧ t.regsBut s [R.KEY_PAN_CFG pan])) ∧
    (s.inGrace p = true → exec (.groupGraceExpiry p) s = .next ((s.advanceTo (aget 0 p.val s.key.grace)).graceEnd p)) ∧
    (s.inGrace p = false → exec (.groupGraceExpiry p) s = .next s) ∧
    (turn → (s.keyEntry (.derive d)).all (fun y => y.part = c.part.val) = true → exec (.deriveLoad c) s = .next (
      match u.fromStore c.part.val (kpos c) 1 with
      | .error k => u.cmdDone c stKEY_BAD [] k 0
      | .ok m =>
        match u.keyRoom (.derive d) with
        | none => s
        | some v => (((v.setSlots (v.key.slots.filter (fun x => x.derived ≠ d + 1))).bump R.KEY_CNT_MISS).keyPut (.derive d) m).cmdOk c [])) ∧
    (turn → s.keyEntry (.derive d) = none → exec (.deriveUnload c) s = .next (t0.cmdBad c 37)) ∧
    (∀ y, s.leads c = true → s.keyEntry (.derive d) = some y → y.part = c.part.val → Does (.deriveUnload c) s (fun t =>
      t.keyEntry (.derive d) = none ∧ t.completed c stOK [] 0)) ∧
    (turn → x.bound = false ∨ x.part ≠ c.part.val → exec (.keyCtrRaise c) s = .next (t0.cmdBad c 35)) ∧
    (s.leads c = true → x.bound = true → x.part = c.part.val → x.warned = true → Does (.keyCtrRaise c) s (fun t =>
      (t.ctr e).n = max x.n c.w3.toNat ∧ (t.record x.record).out = max x.n c.w3.toNat ∧ t.completed c stOK [w32 (max x.n c.w3.toNat)] 0 ∧
      t.regs = s.regs))

/-! ### The directory and the prefixes (R202 to R233, R371) -/

/-- Records are found, created, changed and deleted by their keys. Where it touches them it rests on the model's choices of log entries 31,
103. -/
def Obligations.DirectoryCommands : Prop :=
  ∀ (s : State) (c : CmdDesc) (dma : Dma), s.cmdTurn c = true → let t0 := s.cmdTake c
    (cmdTable c = 0 → ∀ o, s.keyFind c = .ok (some o) → s.nodeBad o = false → unaligned c.w4 c.w5 = false → addr64 c.w4 c.w5 = 0 →
      exec (.search c) s = .next (t0.cmdOk c (t0.dirWords o false))) ∧
    (cmdTable c = 0 → s.keyFind c = .ok none → unaligned c.w4 c.w5 = false → exec (.search c) s = .next (t0.cmdOk c [0, 0, 0xFFFFF])) ∧
    (cmdTable c = 0 → ∀ e, s.keyFind c = .error e → exec (.search c) s = .next (t0.cmdBad c e) ∧ exec (.delete c) s = .next (t0.cmdBad c e) ∧
      exec (.update c dma) s = .next (t0.cmdBad c e)) ∧
    (cmdTable c = 0 → ∀ e, s.insertBad c = some e → exec (.insert c dma) s = .next (t0.cmdBad c e)) ∧
    (s.clearFor c = true → cmdTable c = 0 → s.insertBad c = none → bitAt c.w1 7 = false → bitAt c.w1 8 = true → addr64 c.w6 c.w7 = 0 → s.dir.a.ents = [] →
      s.dir.lost = [] → let o := bitsAt c.w5 0 19
      Does (.insert c dma) s (fun t => (t.node o).valid = true ∧ (t.node o).eui = cmdEui c ∧ (t.node o).pan = cmdPan c ∧
        (t.node o).port = bitsAt c.w4 16 6 ∧ t.keyPresent (cmdPan c) (cmdEui c) = true ∧
        (t.lastSent .f).map (fun m => ((wordAt m.payload 0).toNat / 2 ^ 8 % 32, bitsAt (wordAt m.payload 1) 0 20)) = some (stOK, o + 2 ^ 19))) ∧
    (cmdTable c = 0 → s.keyFind c = .ok none → exec (.delete c) s = .next (t0.cmdBad c 4) ∧ exec (.update c dma) s = .next (t0.cmdBad c 4)) ∧
    (cmdTable c = 0 → ∀ o, s.keyFind c = .ok (some o) → s.nodeBad o = false → exec (.delete c) s = .next ((t0.nodeDelete o).cmdOk c
      (t0.dirWords o false ++ [0, w32 (if (t0.node o).hasNbr then t0.finalN (t0.node o).nbr else 0)]))) ∧
    (cmdTable c = 0 → ∀ o, s.keyFind c = .ok (some o) → s.nodeBad o = false → bitAt c.w1 6 = true → bindPortOk c.part.val (bitsAt c.w4 2 6) = true →
      bitAt c.w1 5 = false → bitAt c.w1 7 = false → bitAt c.w1 8 = false → unaligned c.w6 c.w7 = false → Does (.update c dma) s (fun t =>
        t.node o = { s.node o with port := bitsAt c.w4 2 6, bound := bitAt c.w4 8, heardS := s.citySec, heardNs := s.cityNsec } ∧ t.regs = s.regs)) ∧
    (2 ≤ cmdTable c → exec (.search c) s = .next (t0.cmdBad c 2) ∧ exec (.insert c dma) s = .next (t0.cmdBad c 2) ∧
      exec (.delete c) s = .next (t0.cmdBad c 2) ∧ exec (.update c dma) s = .next (t0.cmdBad c 2) ∧ exec (.next c) s = .next (t0.cmdBad c 2))

/-- Iterations over any number of entries, flushes, the sweeper, and buckets and overflow entries that firmware has rebuilt. A command acts
when it leads its family (R323). Where it touches them it rests on the model's choices of log entries 28, 32, 80, 102. -/
def Obligations.DirectoryWalks : Prop :=
  ∀ (s : State) (c : CmdDesc) (p : Part) (b : Bool) (i : Fin 135168), let t0 := s.cmdTake c
    let turn := s.cmdTurn c = true
    (turn → cmdTable c = 0 → unaligned c.w4 c.w5 = true → exec (.next c) s = .next (t0.cmdBad c 8)) ∧
    (s.leads c = true → cmdTable c = 0 → unaligned c.w4 c.w5 = false → 0 < bitsAt c.w1 6 9 → let k := bitAt c.w1 5
      let cur := bitsAt c.w2 0 20
      let all := (s.idx k).ents.filter (fun e => cur ≤ e.1 && s.panMay c.part.val (idxPan k e.2.key))
      let out := all.take (min 256 (bitsAt c.w1 6 9))
      let since := if cur = 0 then some s.dir.moves else (s.iterOf c.part.val (if k then 1 else 0)).map Iter.moves
      let ung := cur ≠ 0 && (s.iterOf c.part.val (if k then 1 else 0)).isNone
      let next := if out.length < min 256 (bitsAt c.w1 6 9) then idxEnd else (out.getLast?.map (·.1 + 1)).getD idxEnd
      cur < idxEnd → (∀ e ∈ (s.idx k).ents, e.1 < idxEnd) → addr64 c.w4 c.w5 + 16 * out.length ≤ 2 ^ 64 →
      Does (.next c) s (fun t => t.memBytes c.part.val (addr64 c.w4 c.w5) (16 * out.length) = (t0.nextItems k since out).1 ∧
        t.completed c stOK [0x80000, 0, 0xFFFFF, nextWord next out.length (idxEnd ≤ next) ung] 0 ∧
        (ung = false → t.iterOf c.part.val (if k then 1 else 0) =
          if idxEnd ≤ next then none else some ⟨c.part.val, if k then 1 else 0, next, s.now, since.getD 0⟩))) ∧
    (s.leads c = true → cmdTable c = 0 → unaligned c.w4 c.w5 = false → 0 < bitsAt c.w1 6 9 → bitsAt c.w2 0 20 = 0 → bitAt c.w1 5 = false → s.dir.a.ents = [] →
      Does (.next c) s (fun t => t.iterOf c.part.val 0 = none ∧ t.completed c stOK [0x80000, 0, 0xFFFFF, nextWord idxEnd 0 true false] 0)) ∧
    (∀ x, s.iterOf p.val (if b then 1 else 0) = some x → Does (.iterationExpiry p b) s (fun t =>
      t.iterOf p.val (if b then 1 else 0) = none ∧ t.now = max s.now (x.last + sec 10) ∧ t.regs = s.regs)) ∧
    (s.leads c = true → cmdTable c = 0 → bitAt c.w1 11 = true → bindPortOk c.part.val (bitsAt c.w1 5 6) = true → s.dir.flushes.length < 8 → Does (.flushByPort c) s (fun t =>
      t.dir.flushes = s.dir.flushes ++ [⟨s.dir.nextFlush, c.part.val, bitsAt c.w1 5 6, none, false, 0, 0, 0⟩] ∧
      t.dir.nextFlush = (s.dir.nextFlush + 1) % 256 ∧ t.completed c stOK [0x80000, 0, 0xFFFFF, w32 s.dir.nextFlush] 0 ∧ t.regs = s.regs)) ∧
    (turn → cmdTable c ≠ 0 → exec (.flushByPort c) s = .next (t0.cmdBad c 2)) ∧
    (∀ j r, s.dir.flushes = j :: r → j.running = false → r.all (fun x => !x.running) = true → exec .flushPassStart s =
      .next (s.setFlush { j with running := true, pos := 0 })) ∧
    (∀ j, s.flushNow = some j → s.dir.a.ents = [] → Does .flushDone s (fun t => t.dir.flushes = s.dir.flushes.filter (fun x => x.id ≠ j.id) ∧
      t.raised 17 (w32 (j.id + j.port * 2 ^ 8)) (w32 j.deleted) (w32 j.cleared) ∧ t.regs = s.regs)) ∧
    (s.flushNow = none → exec .flushDone s = .next s) ∧
    (s.sweepS ≠ 0 → s.dir.a.at s.dir.sweepPos = none → Does .sweeperVisit s (fun t => t.ndir = s.ndir ∧ t.regs = s.regs ∧
      t.dir = { s.dir with sweepPos := if idxEnd ≤ s.dir.sweepPos + 1 then 0 else s.dir.sweepPos + 1 })) ∧
    (∀ e, s.sweepS ≠ 0 → s.dir.a.at s.dir.sweepPos = some e → e.hit = true → Does .sweeperVisit s (fun t =>
      (t.dir.a.at s.dir.sweepPos).map (fun x => (x.key, x.ord, x.hit, x.aged)) = some (e.key, e.ord, false, false) ∧ t.ndir = s.ndir)) ∧
    (s.sweepS = 0 → exec .sweeperVisit s = .next s) ∧
    (∀ l, s.dir.lost = [l] → l.1 = (if b then 1 else 0) → l.2.1 = i.val → l.2.2 = [] → Does (.bucketRebuildDone b i) s (fun t =>
      t.dir.lost = [] ∧ t.dir.a = s.dir.a ∧ t.dir.b = s.dir.b)) ∧
    (s.dir.lost = [] → exec (.bucketRebuildDone b i) s = .next s)

/-- Prefixes: the longest match, exact commands, the limits, iteration over any number of prefixes, the filter's rebuild, and the mode
change that empties the table. A command acts when it leads its family (R323). Where it touches them it rests on the model's choices of
log entries 33, 103. -/
def Obligations.PrefixCommands : Prop :=
  ∀ (s : State) (c : CmdDesc) (p : Part) (data : Word), let t0 := s.cmdTake c
    let x : Prefix := { bits := maskTo (cmdLen c) (cmdAddr c), len := cmdLen c, owner := c.part.val, result := c.w6 &&& 0x7FFFFF, bucket := 0 }
    let runs := s.cmdTurn c = true ∧ cmdTable c = 1 ∧ s.lpmChanging = false
    let lead := s.leads c = true ∧ cmdTable c = 1 ∧ s.lpmChanging = false
    let fresh := cmdLen c ≤ 128 ∧ s.resultCause c.part.val c.w6 = 0 ∧ (exactPrefix s.lpm.prefixes c).isSome = false
    let buckets := lpmBuckets (cmdLen c) x.bits
    let home := if s.lpmFill buckets.2 < s.lpmFill buckets.1 then buckets.2 else buckets.1
    (s.cmdTurn c = true → cmdTable c = 1 → s.lpmChanging = true → exec (.prefixSearch c) s = .next (t0.cmdBad c 12) ∧ exec (.prefixInsert c) s = .next (t0.cmdBad c 12) ∧
      exec (.prefixDelete c) s = .next (t0.cmdBad c 12) ∧ exec (.prefixUpdate c) s = .next (t0.cmdBad c 12) ∧
      exec (.prefixNext c) s = .next (t0.cmdBad c 12)) ∧
    (lead → bitAt c.w1 8 = true → s.modeH = false → ∀ i y, longest (s.prefixesOf c.part.val) (cmdAddr c) = some (i, y) →
      Does (.prefixSearch c) s (fun t => t.completed c stOK (prefixWords i y) 0 ∧ t.lpm = s.lpm)) ∧
    (lead → bitAt c.w1 8 = false → cmdLen c ≤ 128 → ∀ i y, exactPrefix (s.prefixesOf c.part.val) c = some (i, y) →
      Does (.prefixSearch c) s (fun t => t.completed c stOK (prefixWords i y) 0 ∧ t.lpm = s.lpm ∧ t.regs = s.regs)) ∧
    (∀ i, lead → fresh → s.modeH = false → s.idLowest 65536 0 = some i → lpmNodes (s.lpm.prefixes ++ [(i, x)]) ≤ 8192 →
      Does (.prefixInsert c) s (fun t =>
        t.lpm.prefixes = aput i x (adel i s.lpm.prefixes) ∧ t.completed c stOK (prefixWords i x) 0)) ∧
    (∀ i, runs → fresh → s.modeH = false → s.idLowest 65536 0 = some i → 8192 < lpmNodes (s.lpm.prefixes ++ [(i, x)]) →
      exec (.prefixInsert c) s = .next (t0.cmdDone c stINSERT_FULL [] 3 1)) ∧
    (∀ i, lead → fresh → s.modeH = true → s.idLowest 1048576 0 = some i → s.lpmFill home < 4 → Does (.prefixInsert c) s (fun t =>
      t.lpm.prefixes = aput i { x with bucket := home } (adel i s.lpm.prefixes) ∧ t.completed c stOK (prefixWords i x) 0)) ∧
    (∀ i, runs → fresh → s.modeH = true → s.idLowest 1048576 0 = some i → 4 ≤ s.lpmFill home →
      exec (.prefixInsert c) s = .next (t0.cmdDone c stINSERT_FULL [] 3 2)) ∧
    (runs → fresh → s.idLowest (if s.modeH then 1048576 else 65536) 0 = none →
      exec (.prefixInsert c) s = .next (t0.cmdDone c stINSERT_FULL [] 3 0)) ∧
    (runs → 128 < cmdLen c → exec (.prefixInsert c) s = .next (t0.cmdBad c 9) ∧ exec (.prefixDelete c) s = .next (t0.cmdBad c 9) ∧
      exec (.prefixUpdate c) s = .next (t0.cmdBad c 9)) ∧
    (runs → cmdLen c ≤ 128 → s.resultCause c.part.val c.w6 ≠ 0 → exec (.prefixInsert c) s = .next (t0.cmdBad c (s.resultCause c.part.val c.w6)) ∧
      exec (.prefixUpdate c) s = .next (t0.cmdBad c (s.resultCause c.part.val c.w6))) ∧
    (runs → cmdLen c ≤ 128 → s.resultCause c.part.val c.w6 = 0 → (exactPrefix s.lpm.prefixes c).isSome = true →
      exec (.prefixInsert c) s = .next (t0.cmdBad c 3)) ∧
    (lead → s.modeH = false → cmdLen c ≤ 128 → ∀ i y, exactPrefix (s.prefixesOf c.part.val) c = some (i, y) →
      s.lpm.ghosts = [] → Does (.prefixDelete c) s (fun t => t.lpm.prefixes = adel i s.lpm.prefixes ∧ t.completed c stOK (prefixWords i y) 0)) ∧
    (lead → cmdLen c ≤ 128 → s.resultCause c.part.val c.w6 = 0 → ∀ i y,
      exactPrefix (s.prefixesOf c.part.val) c = some (i, y) → Does (.prefixUpdate c) s (fun t =>
        t.lpm.prefixes = aput i { y with result := c.w6 &&& 0x7FFFFF } (adel i s.lpm.prefixes) ∧ t.completed c stOK (prefixWords i { y with result := c.w6 &&& 0x7FFFFF }) 0)) ∧
    (lead → unaligned c.w4 c.w5 = false → 0 < bitsAt c.w1 9 9 → let cur := bitsAt c.w2 0 20
      let last := if s.modeH then 1048576 else 65536
      let out := ((s.prefixesOf c.part.val).filter (fun e => cur ≤ e.1)).take (min 256 (bitsAt c.w1 9 9))
      let next := if out.length < min 256 (bitsAt c.w1 9 9) then last else (out.getLast?.map (·.1 + 1)).getD last
      cur < last → (∀ e ∈ s.lpm.prefixes, e.1 < last) → addr64 c.w4 c.w5 + 32 * out.length ≤ 2 ^ 64 → Does (.prefixNext c) s (fun t =>
        t.lpm = s.lpm ∧ t.memBytes c.part.val (addr64 c.w4 c.w5) (32 * out.length) = out.flatMap (fun e => prefixItem e.1 e.2) ∧
        t.completed c stOK [w32 (next % 2 ^ 20 + out.length * 2 ^ 21 + (if last ≤ next then 2 ^ 30 else 0))] 0)) ∧
    (s.lpm.rebuilding = true → s.lpm.ghosts.length = s.lpm.ghostsAt → Does .filterRebuildDone s (fun t =>
      t.lpm = { s.lpm with ghosts := [], rebuilding := false, ghostsAt := 0 } ∧ t.regs = s.regs)) ∧
    (s.unlocked 0 = true → s.lpmChanging = false → bitAt data 0 ≠ s.modeH → Does (.lpmModeChange 0 data) s (fun t =>
      t.modeH = bitAt data 0 ∧ t.lpmChanging = true ∧ t.lpm.prefixes = [] ∧ t.unlocked 0 = false)) ∧
    (s.unlocked 0 = true → s.lpmChanging = true → Does (.lpmModeChange 0 data) s (fun t =>
      t.flag R.LPM_ERR F.LPM_ERR_MODE_BUSY = true ∧ t.modeH = s.modeH ∧ t.unlocked 0 = false)) ∧
    (s.unlocked p = false → exec (.lpmModeChange p data) s = .next (s.guardViolation p (w32 R.LPM_MODE) false data)) ∧
    Does .lpmModeChangeDone s (fun t => t.lpmChanging = false ∧ t.modeH = s.modeH ∧ t.lpm = s.lpm ∧ t.onlyKeys s [R.LPM_MODE])

/-! ### Groups, Caravans and images (R255 to R276) -/

/-- The group commands. Where it touches them it rests on the model's choices of log entry 47. -/
def Obligations.GroupCommands : Prop :=
  ∀ (s : State) (c : CmdDesc) (dma : Dma), s.cmdTurn c = true → let t0 := s.cmdTake c
    let g := cmdGroup c
    let x := s.group g
    let p := bitsAt c.w1 16 3
    let may := s.groupMay c.part.val g = true
    let free := s.groupLocked g = false
    (s.clearFor c = true → s.panOn p = true → s.panMay c.part.val p = true → x.defined = false → bitAt c.w1 21 = false → Does (.groupDefine c) s (fun t =>
      t.group g = ⟨true, p, c.part.val, none, []⟩ ∧ (∀ h, h ≠ g → t.group h = s.group h) ∧ t.completed c stOK (groupWords 0 0 0) 0 ∧ t.regs = s.regs)) ∧
    (s.panOn p = true → s.panMay c.part.val p = true → x.defined = true → exec (.groupDefine c) s = .next (t0.cmdBad c 3)) ∧
    (may → free → s.panOn x.pan = true → unaligned c.w4 c.w5 = false → dma = .ok → ∀ o, s.bufOrds c (groupCount c.w2 17) = [o] →
      s.addable c.part.val x x.entries o = true → x.entries.length < 524288 →
      s.poolUsed - extents x.entries.length + extents (x.entries.length + 1) ≤ 7936 → Does (.groupAdd c dma) s (fun t =>
        t.group g = { x with entries := x.entries ++ [w32 o] } ∧ (∀ h, h ≠ g → t.group h = s.group h) ∧
        t.regsBut s [R.CVN_POOL_USE])) ∧
    (may → free → unaligned c.w4 c.w5 = false → dma = .ok → ∀ o, s.bufOrds c (groupCount c.w2 17) = [o] → Does (.groupRemove c dma) s (fun t =>
      (t.group g).entries.length = x.entries.length ∧ (∀ e ∈ (t.group g).entries, entVoid e = true ∨ entOrd e ≠ o) ∧ t.regs = s.regs)) ∧
    (may → free → Does (.groupCompact c) s (fun t => (t.group g).entries = x.entries.filter (fun e => !entVoid e) ∧
      (∀ h, h ≠ g → t.group h = s.group h) ∧ t.regsBut s [R.CVN_POOL_USE])) ∧
    (may → unaligned c.w4 c.w5 = false → exec (.groupRead c) s = .next (
      let es := (x.entries.drop (bitsAt c.w2 0 20)).take (groupCount c.w3 20)
      (t0.memWrite c.part.val (addr64 c.w4 c.w5) (wordsBytes es)).cmdOk c (groupWords x.entries.length es.length 0))) ∧
    (s.clearFor c = true → may → free → Does (.groupDelete c) s (fun t => (t.group g).defined = false ∧ (∀ h, h ≠ g → t.group h = s.group h) ∧
      t.completed c stOK (groupWords 0 0 0) 0 ∧ t.regsBut s [R.CVN_POOL_USE])) ∧
    (may → s.groupLocked g = true → exec (.groupAdd c dma) s = .next (t0.cmdBad c 13) ∧ exec (.groupRemove c dma) s = .next (t0.cmdBad c 13) ∧
      exec (.groupCompact c) s = .next (t0.cmdBad c 13) ∧ exec (.groupDelete c) s = .next (t0.cmdBad c 13)) ∧
    (s.groupMay c.part.val g = false → exec (.groupAdd c dma) s = .next (t0.cmdBad c 16) ∧ exec (.groupRemove c dma) s = .next (t0.cmdBad c 16) ∧
      exec (.groupCompact c) s = .next (t0.cmdBad c 16) ∧ exec (.groupRead c) s = .next (t0.cmdBad c 16) ∧
      exec (.groupDelete c) s = .next (t0.cmdBad c 16))

/-- Caravans are posted, cancelled, and run their phases; an ID leaves quarantine when its time is over. Where it touches them it rests on
the model's choices of log entries 4, 28, 48, 49, 87. -/
def Obligations.CaravansRun : Prop :=
  ∀ (s : State) (c : CmdDesc) (dma : Dma) (n : Fin 5) (cid : BitVec 16) (p : Part), let t0 := s.cmdTake c
    let d := t0.engineDraw
    let payload := s.memBytes c.part.val (addr64 c.w4 c.w5) (bitsAt c.w3 0 11)
    let turn := s.cmdTurn c = true
    let good := turn ∧ s.inQuiet = false ∧ d.2.cvnBad c dma d.1.1 d.1.2 = none
    (turn → s.inQuiet = true → exec (.cvnPost c dma n) s = .next (d.2.cmdDone c stQUIET [] 0 0)) ∧
    (∀ e, turn → s.inQuiet = false → d.2.cvnBad c dma d.1.1 d.1.2 = some e → exec (.cvnPost c dma n) s = .next (d.2.cmdDone c stBAD_PARAM [] e.1 e.2)) ∧
    (good → s.cvnFull c.part.val = none → cvnCls c ≠ 0 → exec (.cvnPost c dma n) s = .next (d.2.cvnAccept c [c] payload d.1.1 d.1.2 n.val)) ∧
    (∀ id, good → s.cvnFull c.part.val = none → cvnCls c ≠ 0 → s.cvnId 65536 ((s.cvnIds.last + 1) % 65536) = some id → cvnMode c = 1 →
      (s.group (cmdGroup c)).members ≠ [] → 0 < bitsAt c.w1 20 4 → Does (.cvnPost c dma n) s (fun t => t.cvnIds.last = id ∧
        ∃ v, t.cvnOf id = some v ∧ v.phase = 2 ∧ v.round = 1 ∧ v.pending = (s.group (cmdGroup c)).members ∧ v.posts = [c] ∧ v.payload = payload)) ∧
    (good → s.cvnFull c.part.val = none → cvnCls c = 0 → s.cvn.waiting = [] → exec (.cvnPost c dma n) s =
      .next ({ d.2 with cvn := { s.cvn with waiting := [⟨c, payload, s.now⟩] } } : State).cvnSync) ∧
    (∀ w, good → s.cvnFull c.part.val ≠ some 0 → cvnCls c = 0 → s.cvn.waiting = [w] → cmdGroup w.cmd = cmdGroup c → w.cmd.part ≠ c.part →
      s.now ≤ w.at_ + s.concurWindow → s.fld R.SAFE_HEALTH F.SAFE_HEALTH_PIPE_OK ≠ 0 →
      let s1 := ({ d.2 with cvn := { s.cvn with waiting := [] } } : State).cvnSync
      (cvnSame w c payload = true → exec (.cvnPost c dma 0) s = .next (s1.cvnAccept c [w.cmd, c] payload d.1.1 d.1.2 0)) ∧
      (cvnSame w c payload = false → Does (.cvnPost c dma 0) s (fun t => t.cvn.waiting = [] ∧
        t.rd R.CVN_CNT_MISMATCH = satInc (s.rd R.CVN_CNT_MISMATCH)))) ∧
    (s.leads c = true → (s.group (cmdGroup c)).defined = true → (s.group (cmdGroup c)).owner = c.part.val → s.cvn.open_ = [] → s.cvn.waiting = [] →
      Does (.cvnCancel c) s (fun t => t.completed c stOK [0] 0 ∧ t.cvn = s.cvn ∧ t.regs = s.regs)) ∧
    (turn → (s.group (cmdGroup c)).defined = false → exec (.cvnCancel c) s = .next (t0.cmdBad c 16)) ∧
    (∀ v, s.cvnOf cid.toNat = some v → v.phase = 1 → v.mode = 0 →
      exec (.caravanPhaseEnd cid) s = .next ((s.advanceTo v.waitEnd).cvnEnd v stOK false)) ∧
    (∀ v, s.cvnOf cid.toNat = some v → v.phase = 3 → v.round < v.rounds → Does (.caravanPhaseEnd cid) s (fun t =>
      ∃ w, t.cvnOf cid.toNat = some w ∧ w.phase = 2 ∧ w.round = v.round + 1 ∧ w.pending = v.pending ∧ t.now = max s.now v.waitEnd ∧ t.regs = s.regs)) ∧
    (∀ v, s.cvnOf cid.toNat = some v → v.expiry ≠ 0 → exec (.caravanExpiry cid) s = .next ((s.toCity v.expiry).cvnAbort cid.toNat stOK true)) ∧
    (∀ v o r, s.cvnOf cid.toNat = some v → v.toSend = o :: r → v.phase = 2 → v.inFlight.length < s.sweepMax → v.pending.contains o = false →
      exec (.sweepCopyQueue cid n) s = .next ((s.setCvn { v with toSend := r }).cvnSent v.cid)) ∧
    (∀ v o r, s.cvnOf cid.toNat = some v → v.toSend = o :: r → v.phase = 2 → v.inFlight.length < s.sweepMax → v.pending.contains o = true →
      let pan := (s.group v.group).pan
      let dg := udpDatagram (s.chipAddr pan) (s.nodeAddr o) v.sport s.cvnPort v.hop (cvnEnvelope v true)
      let s2 := s.setCvn { v with toSend := r, inFlight := v.inFlight ++ [o] }
      exec (.sweepCopyQueue cid 0) s = .next ((s2.engineSend (enginePkt 58 (.caravan v.cid o) v.cls dg) pan).getD s)) ∧
    (s.cvnOf cid.toNat = none → exec (.caravanPhaseEnd cid) s = .next s ∧ exec (.sweepCopyQueue cid n) s = .next s ∧
      exec (.caravanExpiry cid) s = .next s) ∧
    (∀ w, s.cvn.waiting.find? (fun w => cmdGroup w.cmd = cid.toNat && w.cmd.part = p) = some w →
      exec (.concurTimeout cid p) s = .next ((s.advanceTo (w.at_ + s.concurWindow)).cvnWaitEnd w stCONCUR_TIMEOUT)) ∧
    (s.cvn.waiting = [] → exec (.concurTimeout cid p) s = .next s) ∧
    ((aget (0, 0, 0) cid.toNat s.cvnIds.quar).2.2 ≠ 0 → (aget (0, 0, 0) cid.toNat s.cvnIds.quar).2.2 ≤ s.citySec + 2 →
      Does (.caravanIdRelease cid) s (fun t => t.cvnIds.quar = adel cid.toNat s.cvnIds.quar ∧ t.regsBut s [R.CVN_USE, R.CVN_IDQ])) ∧
    ((aget (0, 0, 0) cid.toNat s.cvnIds.quar).2.2 = 0 → exec (.caravanIdRelease cid) s = .next s)

/-- Image sessions open, load, send block by block, collect reports and end. Where it touches them it rests on the model's choices of log
entries 28, 48, 51. -/
def Obligations.ImageSessionsRun : Prop :=
  ∀ (s : State) (c : CmdDesc) (dma : Dma) (j : Fin 4) (n : Fin 5), let t0 := s.cmdTake c
    let i := bitsAt c.w1 0 2
    let d := t0.engineDraw
    let turn := s.cmdTurn c = true
    (turn → s.inQuiet = true → exec (.imgOpen c dma) s = .next (d.2.cmdDone c stQUIET [] 0 0)) ∧
    (turn → s.inQuiet = false → (s.sess i).isSome = true → exec (.imgOpen c dma) s = .next (d.2.cmdDone c stBAD_PARAM [] 19 0)) ∧
    (∀ e, turn → s.inQuiet = false → d.2.imgBad c dma d.1.1 d.1.2 = some e → exec (.imgOpen c dma) s = .next (d.2.cmdDone c stBAD_PARAM [] e.1 e.2)) ∧
    (turn → s.inQuiet = false → d.2.imgBad c dma d.1.1 d.1.2 = none → (s.group (bitsAt c.w1 16 16)).members ≠ [] → Does (.imgOpen c dma) s (fun t =>
      t.regsBut s [R.IMG_SESS i] ∧ ∃ x, t.sess i = some x ∧ x.state = 1 ∧ x.cmd = c ∧ x.round = 0 ∧
        x.image = s.memBytes c.part.val (addr64 c.w4 c.w5) (bitsAt c.w2 0 25))) ∧
    (turn → s.inQuiet = false → d.2.imgBad c dma d.1.1 d.1.2 = none → (s.group (bitsAt c.w1 16 16)).members = [] → Does (.imgOpen c dma) s (fun t =>
      (t.sess i).isNone = true ∧ t.cvn.open_ = s.cvn.open_)) ∧
    (∀ x, turn → s.sess i = some x → c.part ≠ 0 → c.part ≠ x.cmd.part → exec (.imgCancel c) s = .next (t0.cmdBad c 16)) ∧
    (∀ x, turn → s.sess i = some x → c.part = 0 ∨ c.part = x.cmd.part → exec (.imgCancel c) s = .next ((t0.imgAbort i x).cmdOk c [])) ∧
    (∀ x, s.sess j.val = some x → x.state = 1 → Does (.imageLoadDone j) s (fun t => t.regsBut s [R.IMG_SESS j] ∧
      ∃ y, t.sess j.val = some y ∧ y.state = 2 ∧ y.round = x.round ∧ y.reports = [] ∧ y.toSend =
        (List.range x.gens).flatMap (fun g => (List.range (x.kOf g + s.proactive x)).map (fun e => (g, e, none))))) ∧
    (∀ x g e dest rest, s.sess j.val = some x → x.toSend = (g, e, dest) :: rest → rest ≠ [] →
      let s1 := s.advanceTo x.nextAt
      let pan := (s.group x.group).pan
      let dst := match dest with
        | some o => s.nodeAddr o
        | none => groupAddr x.group
      let dg := udpDatagram (s.chipAddr pan) dst x.sport s.imgPort x.hop (x.message g e s.reportWindow false)
      exec (.imageBlockSend j 0) s = .next (
        match s1.engineSend (enginePkt 57 (.image j.val) x.cls dg) pan with
        | none => s1
        | some s2 => s2.setSess j.val { x with toSend := rest, sent := x.sent + 1, nextAt := s2.now + sec 1 / s2.imgRate })) ∧
    (∀ x, s.sess j.val = some x → x.toSend = [] → exec (.imageBlockSend j n) s = .next s) ∧
    (∀ x, s.sess j.val = some x → 2 ≤ x.state → x.toSend = [] → x.needs = [] ∨ x.rounds ≤ x.round →
      exec (.reportWindowExpiry j) s = .next ((s.advanceTo x.waitEnd).imgEnd j.val x stOK)) ∧
    (∀ x, s.sess j.val = some x → 2 ≤ x.state → x.toSend = [] → x.needs ≠ [] → x.round < x.rounds → Does (.reportWindowExpiry j) s (fun t =>
      t.regsBut s [R.IMG_SESS j] ∧ t.now = max s.now x.waitEnd ∧
      ∃ y, t.sess j.val = some y ∧ y.state = 4 ∧ y.round = x.round + 1 ∧ y.reports = [] ∧ y.done = x.done)) ∧
    (s.sess j.val = none → exec (.imageLoadDone j) s = .next s ∧ exec (.imageBlockSend j n) s = .next s ∧ exec (.reportWindowExpiry j) s = .next s)

/-! ### Safety, the logs, Yarrow and the Drover (R372 to R391) -/

/-- Quiet is entered by a write and by the checks, left by QUIET_EXIT, and escalated. Where it touches them it rests on the model's choices
of log entries 28, 109. -/
def Obligations.QuietIsEnteredAndLeft : Prop :=
  ∀ (s : State) (c : CmdDesc) (p : Part) (data : Word) (id ppm : Nat) (a : Fin 4) (txen dac lock : Bool) (k3 k4 : Int), let t0 := s.cmdTake c
    let latched := s.fld R.SAFE_CAUSE F.SAFE_CAUSE_LATCHED
    let live := s.fld R.SAFE_CAUSE F.SAFE_CAUSE_LIVE
    let turn := s.cmdTurn c = true
    (turn → c.part.val ≠ 0 → exec (.quietExit c) s = .next (t0.cmdBad c 26)) ∧
    (turn → c.part.val = 0 → s.inQuiet = false → exec (.quietExit c) s = .next (t0.cmdOk c [])) ∧
    (turn → c.part.val = 0 → s.inQuiet = true → bitsAt c.w1 0 16 ≠ latched → exec (.quietExit c) s = .next (t0.cmdBad c 25)) ∧
    (turn → c.part.val = 0 → s.inQuiet = true → bitsAt c.w1 0 16 = latched → live ≠ 0 → exec (.quietExit c) s = .next (t0.cmdBad c 24)) ∧
    (s.leads c = true → c.part.val = 0 → s.inQuiet = true → bitsAt c.w1 0 16 = latched → live = 0 → s.log.bad = [] → Does (.quietExit c) s (fun t =>
      t.inQuiet = false ∧ t.fld R.SAFE_CAUSE F.SAFE_CAUSE_LATCHED = 0 ∧ t.safe.dacMuted = false ∧ t.safe.liveSince = none ∧
      t.completed c stOK [] 0)) ∧
    (∀ u, s.safe.liveSince = some u → s.escS ≠ 0 → s.inQuiet = true →
      exec .quietEscalation s = .next ((s.advanceTo (u + sec s.escS)).escalate 16)) ∧
    (s.safe.liveSince = none ∨ s.escS = 0 ∨ s.inQuiet = false → exec .quietEscalation s = .next s) ∧
    (s.unlocked 0 = true → bitAt data 0 = true → nbit live 13 = false → s.cvn.open_ = [] → s.cvn.sess = [] → s.log.bad = [] →
      Does (.forceQuiet 0 data) s (fun t => t.inQuiet = true ∧ nbit (t.fld R.SAFE_CAUSE F.SAFE_CAUSE_LATCHED) 13 = true ∧
        nbit (t.fld R.SAFE_CAUSE F.SAFE_CAUSE_LIVE) 13 = true ∧ t.safe.dacMuted = true ∧ t.feTxen = 0 ∧ (∀ u ∈ t.air, u.ended = true ∨ u.cut = true) ∧
        t.unlocked 0 = false)) ∧
    (s.unlocked 0 = true → bitAt data 0 = false → Does (.yarrowResume 0 data) s (fun t => t.flag R.SAFE_YARROW F.SAFE_YARROW_PAUSED = false ∧
      t.flag R.SAFE_CTRL F.SAFE_CTRL_YARROW_CONT = true ∧ t.fld R.SAFE_CAUSE F.SAFE_CAUSE_LIVE = clrNbit live 13 % 2 ^ F.SAFE_CAUSE_LIVE.w ∧
      t.unlocked 0 = false)) ∧
    (s.unlocked p = true → p.val ≠ 0 → Does (.forceQuiet p data) s (fun t => t.flag R.SAFE_ERR F.SAFE_ERR_PART_WRITE = true ∧
      t.regsBut s [R.SAFE_ERR, R.SYS_LOCK p])) ∧
    (s.unlocked p = false → exec (.forceQuiet p data) s = .next (s.guardViolation p (w32 R.SAFE_CTRL) false data)) ∧
    (s.outputAllowed a txen dac = true → exec (.outputMonitor a txen dac) s = .next s) ∧
    (s.outputAllowed a txen dac = false → s.inQuiet = true → exec (.outputMonitor a txen dac) s = .next ((s.quiet 4).escalate 4)) ∧
    (s.outputAllowed a txen dac = false → s.inQuiet = false → exec (.outputMonitor a txen dac) s = .next (s.quiet 4)) ∧
    (s.air = [] → exec (.beaconCheck id) s = .next s) ∧
    (∀ u, s.air = [u] → u.id = id → u.kind = 1 → u.ended = false → u.cut = false →
      exec (.beaconCheck id) s = .next ((s.elapse (nsTicks (u.tEnd + 1000 - s.cityNs))).quiet 7)) ∧
    (∀ u, clockGood lock k3 k4 = true → s.safe.clockGoodSince = some u → u + sec 1 ≤ s.now → Does (.clockCheck lock k3 k4) s (fun t =>
      t.flag R.SAFE_HEALTH F.SAFE_HEALTH_CLOCK_OK = true ∧ t.fld R.SAFE_CAUSE F.SAFE_CAUSE_LIVE = clrNbit live 3 % 2 ^ F.SAFE_CAUSE_LIVE.w ∧
      t.regsBut s [R.SAFE_HEALTH, R.SAFE_CAUSE])) ∧
    (clockGood lock k3 k4 = true → s.safe.clockGoodSince = none → Does (.clockCheck lock k3 k4) s (fun t => t.safe = { s.safe with clockGoodSince := some s.now } ∧
      t.onlyKeys { s with safe := t.safe } [R.SAFE_HEALTH])) ∧
    (lock = false ∨ 20000 < k3.natAbs ∨ 20000 < k4.natAbs → exec (.clockCheck lock k3 k4) s =
      .next ((({ s with safe := { s.safe with clockGoodSince := none } } : State).setFld R.SAFE_HEALTH F.SAFE_HEALTH_CLOCK_OK 0).quiet 3)) ∧
    (s.running = true → 2000 < ppm → exec (.timePlausibilityCheck ppm) s = .next ((s.setFld R.SAFE_HEALTH F.SAFE_HEALTH_TIME_OK 0).quiet 8)) ∧
    (s.running = false ∨ ppm ≤ 2000 → Does (.timePlausibilityCheck ppm) s (fun t => t.flag R.SAFE_HEALTH F.SAFE_HEALTH_TIME_OK = true ∧
      t.regsBut s [R.SAFE_HEALTH, R.SAFE_CAUSE])) ∧
    Does (.islandSelfCheck true) s (fun t => t.flag R.SAFE_HEALTH F.SAFE_HEALTH_ISLAND_OK = true ∧
      nbit (t.fld R.SAFE_CAUSE F.SAFE_CAUSE_LIVE) 15 = false ∧ t.regsBut s [R.SAFE_HEALTH, R.SAFE_CAUSE]) ∧
    exec (.islandSelfCheck false) s = .next ((s.setFld R.SAFE_HEALTH F.SAFE_HEALTH_ISLAND_OK 0).quiet 15)

/-- Core pairs, memory errors, and the two logs. Core pairs restart, their commands complete FLUSHED, or pair 0 resets the F-die; memory
errors, those of a pair's local memory too, are counted, recorded and have their store's effect. The Ledger freezes, thaws, drains and
is read. Where it touches them it rests on the model's choices of log entries 14, 28, 88, 108, 109. -/
def Obligations.PairsMemoriesAndLogs : Prop :=
  (∀ (s : State) (c : CmdDesc) (i : Fin 4) (sram : Bool) (u : UeStore),
    (i ≠ 0 → s.cmds = [] → s.log.bad = [] → Does (.lockstepMismatch i sram) s (fun t =>
      t.safe.restarting = s.safe.restarting.filter (· ≠ i.val) ++ [i.val] ∧ nbit (t.fld R.SAFE_HEALTH F.SAFE_HEALTH_PAIR_OK) i = false ∧
      t.inQuiet = s.inQuiet)) ∧
    (i ≠ 0 → s.cmds = [c] → pairOf (c.w0.toNat % 256) = i.val → s.clearFor c = true → s.log.bad = [] → Does (.lockstepMismatch i sram) s (fun t =>
      t.cmds = [] ∧ t.completed c stFLUSHED [] 0)) ∧
    (i ≠ 0 → s.cmds = [] → s.log.bad = [] → Does (.lockstepMismatch i true) s (fun t =>
      t.rd R.SYS_CNT_UE = (s.bump R.SYS_CNT_UE).rd R.SYS_CNT_UE)) ∧
    exec (.lockstepMismatch 0 false) s = .next ((s.quiet 6).escalate 6) ∧
    exec (.lockstepMismatch 0 true) s = .next (((s.bump R.SYS_CNT_UE).quiet 6).escalate 6) ∧
    (i ≠ 0 → s.cmds = [] → s.log.bad = [] → Does (.watchdogExpiry i) s (fun t =>
      t.safe.restarting = s.safe.restarting.filter (· ≠ i.val) ++ [i.val] ∧ nbit (t.fld R.SAFE_HEALTH F.SAFE_HEALTH_PAIR_OK) i = false)) ∧
    (s.pwr.resetCode = none → Does (.watchdogExpiry 0) s (fun t => t.pwr.resetCode = some 4 ∧ t.pwr.hush = true ∧ t.feTxen = 0 ∧
      t.save.active.isSome = true ∧ t.sent .f = some (0x0F, 0, [4, 0]))) ∧
    (s.safe.restarting.contains i.val = true → Does (.pairRestartDone i) s (fun t =>
      t.safe = { s.safe with restarting := s.safe.restarting.filter (· ≠ i.val) } ∧ nbit (t.fld R.SAFE_HEALTH F.SAFE_HEALTH_PAIR_OK) i = true ∧
      t.regsBut s [R.SAFE_HEALTH])) ∧
    (s.safe.restarting.contains i.val = false → exec (.pairRestartDone i) s = .next s) ∧
    exec (.memoryUe u) s = .next (((s.bump R.SYS_CNT_UE).ledger 0x0034 (s.ueRow u).1 (w32 (s.ueRow u).2) 0 0).ueEffect u) ∧
    (∀ a, s.log.bad = [] → Does (.memoryUe (.mram a)) s (fun t => t.rd R.SYS_CNT_UE = (s.bump R.SYS_CNT_UE).rd R.SYS_CNT_UE ∧
      t.rd R.LOG_LNEXT = s.rd R.LOG_LNEXT + 1 ∧ t.inQuiet = s.inQuiet))) ∧
  (∀ (s : State) (p : Part),
    (s.log.frozen = false → s.log.draining = false → Does (.ledgerFreeze 0) s (fun t =>
      t.log = { s.log with frozen := true, frozenAt := s.now } ∧ t.rd R.LOG_LCTRL = 3 ∧ t.regsBut s [R.LOG_LCTRL])) ∧
    (s.log.frozen = true ∨ s.log.draining = true → exec (.ledgerFreeze 0) s = .next s) ∧
    (p.val ≠ 0 → Does (.ledgerFreeze p) s (fun t => t.flag R.LOG_ERR F.LOG_ERR_PART_WRITE = true ∧ t.onlyKeys s [R.LOG_ERR]) ∧
      Does (.ledgerUnfreeze p) s (fun t => t.flag R.LOG_ERR F.LOG_ERR_PART_WRITE = true ∧ t.onlyKeys s [R.LOG_ERR])) ∧
    (s.log.frozen = true → s.log.lostCount = 0 → s.log.bad = [] → Does (.ledgerUnfreeze 0) s (fun t => t.log.frozen = false ∧ t.log.draining = true ∧
      t.log.fifo = [] ∧ t.flag R.LOG_LCTRL F.LOG_LCTRL_FREEZE = false ∧ t.rd R.LOG_LNEXT = s.rd R.LOG_LNEXT)) ∧
    (s.log.frozen = true → s.log.lostCount = 0 → s.log.bad = [] → Does .freezeLimitExpiry s (fun t => t.log.frozen = false ∧ t.log.draining = true ∧
      t.log.fifo = [] ∧ t.now = max s.now (s.log.frozenAt + ms 100))) ∧
    (s.log.frozen = false → exec .freezeLimitExpiry s = .next s ∧ exec (.ledgerUnfreeze 0) s = .next s) ∧
    (s.log.draining = true → s.log.bad = [] → Does .ledgerDrainDone s (fun t => t.log.draining = false ∧ t.log.fifo = [] ∧
      t.flag R.LOG_LCTRL F.LOG_LCTRL_FROZEN = false ∧ t.regsBut s [R.LOG_LCTRL, R.LOG_LFIFO, R.SAFE_HEALTH, R.SAFE_CAUSE])) ∧
    (s.log.draining = false → exec .ledgerDrainDone s = .next s) ∧
    Does (.logDataRead p false) s (fun t => t.reads p = wordAt (aget [] (s.fld (R.LOG_LADDR p) F.LOG_LADDR_INDEX) s.log.ledger)
      (s.fld (R.LOG_LADDR p) F.LOG_LADDR_WORD) ∧ t.log = s.log ∧ t.regsBut s [R.LOG_LADDR p]) ∧
    Does (.logDataRead p true) s (fun t => t.reads p = wordAt (aget [] (s.fld (R.LOG_TADDR p) F.LOG_TADDR_INDEX) s.log.trail)
      (s.fld (R.LOG_TADDR p) F.LOG_TADDR_WORD) ∧ t.log = s.log ∧ t.regsBut s [R.LOG_TADDR p]))

/-- Yarrow takes a cluster out, tests it and puts it back, and reads the standby slot engine's memories, whose uncorrectable error disables
it; a cluster that fails stays out; the Drover tries and judges each array. Where it touches them it rests on the model's choices of log
entries 6, 28, 98, 134. -/
def Obligations.ClustersAndArraysAreTested : Prop :=
  ∀ (s : State) (c : Fin 16) (a : Fin 4) (tx : Bool) (sig : BitVec 128) (found : Fin 3), let active := s.flag R.SAFE_YARROW F.SAFE_YARROW_ACTIVE
    let tested := s.fld R.SAFE_YARROW F.SAFE_YARROW_CLUSTER
    let due := s.advanceTo (s.droverDue (s.droverSt a).attempts)
    let ended := s.advanceTo (s.safe.droverAt + ms s.droverMs)
    (s.clusterOut c = true → exec (.clusterFaultInService c) s = .next s) ∧
    (s.clusterOut c = false → s.rx.lanes = [] → s.log.bad = [] → s.rx.closing = none → s.flag R.SAFE_CTRL F.SAFE_CTRL_YARROW_CONT = true →
      Does (.clusterFaultInService c) s (fun t => nbit (t.fld R.LANE_STATE F.LANE_STATE_FAILED) c = true ∧ t.rx = s.rx ∧
        t.rd R.SAFE_YARROW = s.rd R.SAFE_YARROW)) ∧
    (active = true → exec .yarrowClusterStart s = .next s) ∧
    (active = false → s.flag R.SAFE_YARROW F.SAFE_YARROW_PAUSED = false → s.safe.restarting.contains 3 = false → s.safe.turn = [c.val] →
      nbit (s.fld R.LANE_STATE F.LANE_STATE_FAILED) c = false → s.bistRegion ≠ some c.val → s.bist.closing ≠ some c.val → s.rx.lanes = [] →
      Does .yarrowClusterStart s (fun t => t.flag R.SAFE_YARROW F.SAFE_YARROW_ACTIVE = true ∧ t.fld R.SAFE_YARROW F.SAFE_YARROW_CLUSTER = c.val ∧
        t.flag R.LANE_STATE F.LANE_STATE_OFFLINE_VALID = true ∧ t.fld R.LANE_STATE F.LANE_STATE_OFFLINE = c.val ∧ t.safe.turn = [] ∧
        t.safe.yarrowAt = s.now)) ∧
    (active = true → s.safe.restarting.contains 3 = false → s.bistGood tested 3 sig = true → Does (.yarrowClusterDone sig found) s (fun t =>
      t.flag R.SAFE_YARROW F.SAFE_YARROW_ACTIVE = false ∧ t.flag R.LANE_STATE F.LANE_STATE_OFFLINE_VALID = false ∧
      t.fld R.LANE_STATE F.LANE_STATE_FAILED = s.fld R.LANE_STATE F.LANE_STATE_FAILED ∧ t.now = max s.now (s.safe.yarrowAt + us 2500))) ∧
    (active = true → s.safe.restarting.contains 3 = false → s.bistGood tested 3 sig = false → s.log.bad = [] → Does (.yarrowClusterDone sig found) s (fun t =>
      nbit (t.fld R.LANE_STATE F.LANE_STATE_FAILED) tested = true)) ∧
    (active = false ∨ s.safe.restarting.contains 3 = true → exec (.yarrowClusterDone sig found) s = .next s) ∧
    (active = true → s.safe.restarting.contains 3 = false → s.engState (1 - s.primary) = 1 → s.log.bad = [] → Does (.yarrowClusterDone sig 2) s (fun t =>
      t.engState (1 - s.primary) = 2 ∧ t.rd R.SYS_CNT_UE = (s.bump R.SYS_CNT_UE).rd R.SYS_CNT_UE)) ∧
    (active = true → s.safe.restarting.contains 3 = false → s.engState (1 - s.primary) = 1 → s.log.bad = [] → Does (.yarrowClusterDone sig 1) s (fun t =>
      t.engState (1 - s.primary) = 1 ∧ t.rd R.SYS_CNT_CE_SRAM = (s.bump R.SYS_CNT_CE_SRAM).rd R.SYS_CNT_CE_SRAM)) ∧
    (s.droverOn a = false ∨ s.calibrating a = true ∨ s.pwr.hush = true ∨ 3 ≤ s.pwrState ∨ s.droverMax ≤ (s.droverSt a).attempts →
      exec (.droverAttempt a tx) s = .next due) ∧
    (s.droverOn a = true → s.calibrating a = false → s.pwr.hush = false → s.pwrState < 3 → (s.droverSt a).attempts < s.droverMax → s.inQuiet = false →
      due.droverTxFree a = false → exec (.droverAttempt a tx) s = .next due) ∧
    (s.droverOn a = true → s.calibrating a = false → s.pwr.hush = false → s.pwrState < 3 → (s.droverSt a).attempts < s.droverMax →
      s.inQuiet = true ∨ due.droverTxFree a = true → (due.droverDone a).cellsOk 1 false = true →
      (due.droverDone a).queueRefuses (qDrover a) 1 false = none → Does (.droverAttempt a tx) s (fun t =>
        (t.droverSt a).attempts = (s.droverSt a).attempts + 1 ∧ (t.droverSt a).out = some (s.slot.cur % 2 ^ 40, due.cityNs) ∧
        t.flag (R.SAFE_DROVER_STAT a) F.SAFE_DROVER_STAT_RX_OK = false ∧
        (s.inQuiet = false → t.flag (R.SAFE_DROVER_STAT a) F.SAFE_DROVER_STAT_TX_OK = tx))) ∧
    ((∀ b : Fin 4, s.droverOn b = false) → exec .droverIntervalEnd s = .next (({ ended with safe := { s.safe with
      droverLapse := s.safe.restarting.contains 3
      droverAt := ended.now } } : State).quietOver 5)) ∧
    (s.droverOn a = true → (s.droverSt a).passed = true → (s.queue (qDrover a)).frames = [] → (∀ b : Fin 4, b ≠ a → s.droverOn b = false) →
      Does .droverIntervalEnd s (fun t => nbit (t.fld R.SAFE_HEALTH F.SAFE_HEALTH_DROVER_OK) a = true ∧
        t.droverSt a = { seq := (s.droverSt a).seq } ∧ t.regsBut s [R.SAFE_HEALTH, R.SAFE_DROVER_STAT a, R.SAFE_CAUSE]))

/-! ### Power, the save, resets, boot, Smivi and self-test (R332, R392 to R437) -/

/-- The power states follow the tolerances, a forced state, the idle timer and the ends of their moves; the vault wakes by its inputs. Where
it touches them it rests on the model's choices of log entries 28, 72, 111, 130. -/
def Obligations.PowerStatesMove : Prop :=
  ∀ (s : State) (p : Part) (data : Word) (c : Fin 16) (n : Nat), let st := fget F.PWR_FORCE_STATE data
    Does (.latencyToleranceWrite p data) s (fun t => t.rd (R.PWR_LAT_TOL p) = data &&& 0x7FFFFF ∧ t.fld R.PWR_LAT_MIN F.PWR_LAT_MIN_T_US = t.latMin) ∧
    (s.unlocked p = false → exec (.powerForce p data) s = .next (s.guardViolation p (w32 R.PWR_FORCE) false data)) ∧
    (s.unlocked p = true → p.val ≠ 0 → Does (.powerForce p data) s (fun t => t.flag R.PWR_ERR F.PWR_ERR_PART_WRITE = true ∧
      t.regsBut s [R.PWR_ERR, R.SYS_LOCK p])) ∧
    (s.unlocked 0 = true → bitAt data 0 = true → 5 ≤ st ∨ (3 ≤ st ∧ s.flag R.PWR_PERMIT F.PWR_PERMIT_PERMIT_DEEP = false) →
      Does (.powerForce 0 data) s (fun t => t.flag R.PWR_ERR F.PWR_ERR_FORCE_INVALID = true ∧ t.rd R.PWR_FORCE = s.rd R.PWR_FORCE ∧
        t.unlocked 0 = false ∧ t.pwr = s.pwr)) ∧
    (s.unlocked 0 = true → bitAt data 0 = false ∨ st < 3 ∨ (st < 5 ∧ s.flag R.PWR_PERMIT F.PWR_PERMIT_PERMIT_DEEP = true) →
      Does (.powerForce 0 data) s (fun t => t.rd R.PWR_FORCE = data &&& 0xF ∧
      t.flag R.PWR_STATE F.PWR_STATE_FORCED = bitAt data 0 ∧ t.unlocked 0 = false)) ∧
    (s.pwr.ungating.contains c.val = true → Does (.clusterUngateDone c) s (fun t => t.pwr = { s.pwr with
      gated := s.pwr.gated.filter (· ≠ c.val), ungating := s.pwr.ungating.filter (· ≠ c.val) } ∧ t.now = max s.now s.pwr.ungateAt ∧ t.regs = s.regs)) ∧
    (s.pwr.ungating.contains c.val = false → exec (.clusterUngateDone c) s = .next s) ∧
    (s.idleNow = true → s.pwrState < 3 → let u := s.advanceTo s.idleDue
      exec .idleTimerExpiry s = .next (({ u with pwr := { u.pwr with
        idleSince := some (s.idleDue - ms s.idleMs, u.qmg.nextId) } } : State).pwrEval true 3 0)) ∧
    (s.idleNow = true → s.pwrState < 3 → s.pwr.hush = false → s.running = false → 3 ≤ s.pwrTarget true → s.pwrTarget true < 5 →
      Does .idleTimerExpiry s (fun t => t.now = max s.now s.idleDue ∧ t.pwrState = s.pwrTarget true ∧ t.pwr.entering = true ∧
        t.rx.lanes = [] ∧ (∀ u ∈ t.air, u.ended = true ∨ u.cut = true) ∧ t.raised 29 (w32 (s.pwrTarget true)) (w32 s.pwrState) (w32 3))) ∧
    (s.idleNow = true → s.pwrState < 3 → s.pwr.hush = false → s.running = true → 3 ≤ s.pwrTarget true →
      Does .idleTimerExpiry s (fun t => t.pwr.deeper = some (s.pwrTarget true, 3, 0) ∧ t.pwrState = s.pwrState ∧ t.air = s.air)) ∧
    (s.idleNow = false ∨ 3 ≤ s.pwrState → exec .idleTimerExpiry s = .next s) ∧
    (∀ x, s.pwr.exiting = some x → s.pwr.hush = false → let s1 := s.advanceTo x.2.2.2.2
      exec .powerStateExitDone s = .next ((({ s1 with pwr := { s1.pwr with exiting := none } } : State).pwrTake x.1 x.2.2.1 x.2.2.2.1).gateEval)) ∧
    (∀ x, s.pwr.exiting = some x → s.pwr.hush = false → x.1 ≠ s.pwrState → x.1 < 5 → Does .powerStateExitDone s (fun t =>
      t.now = max s.now x.2.2.2.2 ∧ t.pwrState = x.1 ∧ t.pwr.exiting = none ∧
      t.raised 29 (w32 x.1) (w32 s.pwrState) (w32 (x.2.2.1 + x.2.2.2.1 * 256)))) ∧
    (s.pwr.exiting = none ∨ s.pwr.hush = true → exec .powerStateExitDone s = .next s) ∧
    (s.pwr.entering = true → s.pwrState = 3 → s.pwr.wakeDuring = none →
      exec .powerStateEntryDone s = .next { s with pwr := { s.pwr with entering := false } }) ∧
    (s.pwr.entering = true → s.pwrState = 3 → s.pwr.hush = false → s.pwr.exiting = none → ∀ w, s.pwr.wakeDuring = some w →
      Does .powerStateEntryDone s (fun t => t.pwr.entering = false ∧ t.pwr.wakeDuring = none ∧
        t.pwr.exiting = some (s.pwrTarget false, 3, w.1, w.2, s.now + ms 40) ∧ t.regs = s.regs)) ∧
    (s.pwr.entering = false → exec .powerStateEntryDone s = .next s) ∧
    (2 ≤ n → s.flag R.PWR_WAKE_CFG F.PWR_WAKE_CFG_WAKE_EN = true → exec (.wakeNInput n) s = .next (s.vaultWakes 5)) ∧
    (n < 2 ∨ s.flag R.PWR_WAKE_CFG F.PWR_WAKE_CFG_WAKE_EN = false → exec (.wakeNInput n) s = .next s) ∧
    (∀ k, s.pwr.vaultOff = false → s.pwr.vaultEntry = none → s.vaultWakes k = s) ∧
    (∀ k, s.pwr.vaultOff = true ∨ s.pwr.vaultEntry.isSome = true → (s.vaultWakes k).pwr = { s.pwr with
      vaultOff := false
      vaultWake := true
      vaultCode := if s.pwr.vaultWake then s.pwr.vaultCode else k } ∧ (s.vaultWakes k).regs = s.regs) ∧
    (s.rtc ≤ (s.rd R.PWR_ALARM_S).toNat → let u := s.vault.rtcAt + sec ((s.rd R.PWR_ALARM_S).toNat - (s.rd R.PWR_RTC_S).toNat)
      exec .rtcAlarm s = .next (if s.flag R.PWR_WAKE_CFG F.PWR_WAKE_CFG_ALARM_EN then (s.advanceTo u).vaultWakes 6 else s.advanceTo u)) ∧
    ((s.rd R.PWR_ALARM_S).toNat < s.rtc → exec .rtcAlarm s = .next s)

/-- The save starts at a holdup or on the way to VAULT, completes or is cut off; a ride-through leaves Hush. Where it touches them it rests
on the model's choices of log entries 17, 25, 28, 114. -/
def Obligations.SavesAndHoldup : Prop :=
  ∀ (s : State), let hushed (t : State) : Prop := t.pwr.hush = true ∧ t.feTxen = 0 ∧ (∀ u ∈ t.air, u.ended = true ∨ u.cut = true)
    (s.pwr.holdup = false → Does .holdupTrigger s (fun t => hushed t ∧ t.pwr.holdup = true ∧ t.pwr.supplyLeft = false ∧
      t.save.active.isSome = true ∧ t.regsBut s [R.PWR_CNT_SAVE])) ∧
    (s.pwr.holdup = true → exec .holdupTrigger s = .next s) ∧
    (∀ u, s.pwr.vaultEntry = some u → s.save.active = none → s.pwr.vaultOff = false → Does .vaultSaveStart s (fun t =>
      t.save = { s.save with busy := true, ok := false, active := some (max s.now u) } ∧ t.now = max s.now u ∧ t.regsBut s [R.PWR_CNT_SAVE])) ∧
    (s.pwr.vaultEntry = none ∨ s.save.active.isSome = true → exec .vaultSaveStart s = .next s) ∧
    (s.save.active.isSome = true → let s1 := s.saveItems
      s1.pwr.resetCode = none → s1.pwr.vaultEntry = none ∨ s1.pwr.holdup = true → exec .saveComplete s = .next s1) ∧
    (s.save.active.isSome = true → let s1 := s.saveItems
      ∀ k, s1.pwr.resetCode = some k → s1.pwr.supplyLeft = false → s1.flag R.PASS_STATUS F.PASS_STATUS_F_RESET = true →
      exec .saveComplete s = .next (s1.fDieReset k true)) ∧
    (s.save.active.isSome = true → let s1 := s.saveItems
      s1.pwr.resetCode = none → s1.pwr.vaultEntry.isSome = true → s1.pwr.holdup = false → s1.pwr.vaultOff = false → Does .saveComplete s (fun t =>
        t.pwr.fHeld = true ∧ t.pwr.hHeld = true ∧ t.key.slots = [] ∧ t.pwr.vaultOff = !s1.pwr.vaultWake ∧
        t.pwr.vaultWake = s1.pwr.vaultWake ∧ t.pwr.vaultCode = s1.pwr.vaultCode)) ∧
    (s.save.active.isSome = true → s.pwr.resetCode = none → s.pwr.vaultEntry = none → Does .saveComplete s (fun t => t.save.ok = true ∧
      t.save.busy = false ∧ t.save.active = none ∧ t.fld R.PWR_SAVE_STAT F.PWR_SAVE_STAT_RESULT = 1 ∧ t.save.anchorValid = true ∧
      t.save.anchorAsn = s.slot.cur)) ∧
    (s.save.active = none → exec .saveComplete s = .next s ∧ exec .vholdLow s = .next s) ∧
    (s.save.active.isSome = true → Does .vholdLow s (fun t => t.save.active = none ∧ t.save.ok = s.save.ok ∧
      t.fld R.PWR_SAVE_STAT F.PWR_SAVE_STAT_RESULT = 2)) ∧
    (∀ r, (s.ledgerStore r).2 = false → nbit (s.fld R.SAFE_CAUSE F.SAFE_CAUSE_LIVE) 9 = false → s.cvn.open_ = [] → s.cvn.sess = [] →
      nbit ((s.storeAll [r]).fld R.SAFE_CAUSE F.SAFE_CAUSE_LATCHED) 9 = true ∧ (s.storeAll [r]).inQuiet = true) ∧
    (s.pwr.holdup = true → s.save.active = none → s.pwr.supplyLeft = false → s.save.ok = true → exec .rideThrough s = .next s.hushOver.thaw) ∧
    (let u := s.hushOver; 
      u.pwr.hush = false ∧ u.pwr.holdup = false ∧ u.pwr.saveIsland = false ∧ u.save.ok = false ∧ u.safe.dacMuted = s.inQuiet ∧
      u.fld R.PWR_SAVE_STAT F.PWR_SAVE_STAT_RESULT = 3 ∧ u.qmg.frozen = s.qmg.frozen) ∧
    (s.pwr.holdup = true → s.save.active = none → s.pwr.supplyLeft = false → s.save.ok = false → exec .rideThrough s = .next s) ∧
    (s.pwr.holdup = true → s.save.active.isSome = true → exec .rideThrough s = .next s) ∧
    (s.pwr.holdup = true → s.save.active = none → s.pwr.supplyLeft = true → exec .rideThrough s = .next (s.fDieReset 0 true)) ∧
    (s.pwr.holdup = false → exec .rideThrough s = .next s) ∧
    (s.pwr.fHeld = true → Does .vbatLoss s (fun t => t.vault.secret = 0 ∧ t.pwr.vbatLost = true ∧
      (∀ k ∈ [R.PWR_RTC_S, R.KEY_TAMPER_CFG, R.PWR_WAKE_CFG, R.PWR_ALARM_S], t.rd k = State.reset.rd k) ∧
      t.flag R.PWR_VAULT_STAT F.PWR_VAULT_STAT_ON_VBAT = true ∧
      t.regsBut s [R.PWR_RTC_S, R.KEY_TAMPER_CFG, R.PWR_WAKE_CFG, R.PWR_ALARM_S, R.PWR_VAULT_STAT])) ∧
    (s.pwr.fHeld = false → exec .vbatLoss s = .next s)

/-- The dies are reset by their supplies, pins, commands and faults. Where it touches them it rests on the model's choices of log entries 7,
18, 23, 27, 28, 110, 113. -/
def Obligations.DiesAreReset : Prop :=
  ∀ (s : State) (p : Part) (data : Word),
    (s.pwr.fHeld = true → s.pwr.vaultOff = false → s.save.active = none → Does .porF s (fun t => t.pwr.fHeld = false ∧ t.pwr.lastKind = 0 ∧
      t.key.slots = [] ∧ t.vault = recordsUnbind s.vault ∧ t.boot.booting = true ∧ t.pending = s.pending)) ∧
    (s.pwr.fHeld = false ∨ s.pwr.vaultOff = true ∨ s.save.active.isSome = true → exec .porF s = .next s) ∧
    (s.canon = true → s.pwr.hHeld = true → s.pwr.vaultOff = false → s.fwRuns = false → Does .porH s (fun t => t.pwr.hHeld = false ∧ t.eth = {} ∧
      t.host.mem = s.host.mem ∧ t.shp.gcl = [] ∧ t.fld R.PART_MAP F.PART_MAP_ACTIVE = s.fld R.PART_MAP F.PART_MAP_MAP)) ∧
    (s.pwr.hHeld = false ∨ s.pwr.vaultOff = true → exec .porH s = .next s) ∧
    (s.pwr.fHeld = false → exec .pinF s = .next (s.requestReset 2)) ∧
    (s.pwr.fHeld = true → exec .pinF s = .next s) ∧
    (s.pwr.hHeld = false → exec .pinH s = .next (((s.hDieReset true).hGone).hBack)) ∧
    (s.pwr.hHeld = false → s.cvn.open_ = [] → s.cvn.sess = [] → s.fwRuns = false → Does .pinH s (fun t => t.eth = {} ∧
      t.boot.readySince = none ∧ t.host.fwReady = false ∧ t.host.mem = s.host.mem)) ∧
    (s.pwr.hHeld = true → exec .pinH s = .next s) ∧
    (s.unlocked 0 = true → bitAt data 1 = false → bitAt data 0 = true → s.pwr.resetCode = none → Does (.soft 0 data) s (fun t =>
      t.pwr.resetCode = some 5 ∧ t.pwr.hush = true ∧ t.unlocked 0 = false ∧ t.sent .f = some (0x0F, 0, [5, 0]))) ∧
    (s.unlocked 0 = true → s.pwr.resetCode = none → Does (.recovery 0 data) s (fun t =>
      t.pwr.resetCode = some 9 ∧ t.pwr.hush = true ∧ t.unlocked 0 = false ∧ t.sent .f = some (0x0F, 0, [9, 0]))) ∧
    (s.unlocked 0 = true → s.pwr.resetCode = some 5 → Does (.recovery 0 data) s (fun t => t.pwr.resetCode = some 9 ∧ t.pass = s.pass)) ∧
    (s.unlocked p = false → exec (.soft p data) s = .next (s.guardViolation p (w32 R.SYS_RESET) false data)) ∧
    (s.unlocked p = true → p.val ≠ 0 → Does (.soft p data) s (fun t => t.flag (R.SYS_ERR p) F.SYS_ERR_PART_WRITE = true ∧ t.pwr = s.pwr)) ∧
    (s.unlocked p = true → data.toNat % 16 = 2 ^ p.val → exec (.partReset p data) s = .next ((s.armLock p).partReset p false)) ∧
    (s.unlocked p = false → exec (.partReset p data) s = .next (s.guardViolationH p 0x100C data)) ∧
    (s.mapped p = true → exec (.functionLevelReset p) s = .next ((s.cfgReset p).partReset p true)) ∧
    (s.mapped p = true → s.qmg.queues = [] → s.qmg.aside = [] → s.host.held = [] → s.cvn.open_ = [] → s.cvn.sess = [] →
      Does (.functionLevelReset p) s (fun t => (∀ r : Fin 35, t.rd (R.RING_CFG r p) = 0) ∧ t.unlocked p = false)) ∧
    (s.mapped p = true → s.passClear .h = true → s.qmg.queues = [] → s.qmg.aside = [] → s.host.held = [] → s.cvn.open_ = [] →
      s.cvn.sess = [] → Does (.functionLevelReset p) s (fun t => t.rd (R.LINK_NBR_ADDR p) = 0 ∧ t.rd (R.QMG_FLUSH p) = 0 ∧
        t.rd (R.PWR_LAT_TOL p) = 0 ∧ (∀ c ∈ t.cmds, c.part ≠ p) ∧ (∀ f ∈ t.host.fetched, f.part ≠ p.val))) ∧
    (s.mapped p = false → exec (.functionLevelReset p) s = .next s) ∧
    (s.pwr.fHeld = true → s.dacsLive = false ∧ s.smvAttn = false ∧ s.safeNLowF = false ∧
      (s.pwr.fSup ≠ 3 → s.fePins = some (0, 0, 0) ∧ s.ppsOut = some false ∧ s.ddrReset = some false ∧ (∀ k : Fin 4, s.toutPin k = some false))) ∧
    (s.pwr.fSup = 3 → s.fePins = none ∧ s.ppsOut = none ∧ s.ddrReset = none ∧ (∀ k : Fin 4, s.toutPin k = none)) ∧
    (s.pwr.hHeld = true → s.safeNLowH = false ∧ s.mdioDriven = false ∧ (∀ e : Fin 4, s.lanPin e = .highZ) ∧
      (s.pwr.hSup ≠ 3 → (∀ e : Fin 4, s.txDis e = some true) ∧ s.pciePin 0 = .idle ∧ s.pciePin 1 = .idle)) ∧
    (s.pwr.hSup = 3 → (∀ e : Fin 4, s.txDis e = none ∧ s.lanPin e = .highZ) ∧ s.mdioDriven = false ∧ s.pciePin 0 = .highZ ∧ s.pciePin 1 = .highZ) ∧
    s.vaultOffPin = s.pwr.vaultOff ∧
    (s.pwr.fHeld = false → s.pwr.saveIsland = false → nbit (s.fld R.SAFE_CAUSE F.SAFE_CAUSE_LIVE) 12 = false → s.cvn.open_ = [] → s.cvn.sess = [] →
      Does (.supplyFault .f) s (fun t => t.pwr.fHeld = true ∧ 1 ≤ t.pwr.fSup ∧ nbit (t.fld R.SAFE_CAUSE F.SAFE_CAUSE_LATCHED) 12 = true)) ∧
    (s.pwr.hHeld = false → s.pwr.fHeld = false → nbit (s.fld R.SAFE_CAUSE F.SAFE_CAUSE_LIVE) 12 = false → s.cvn.open_ = [] → s.cvn.sess = [] →
      Does (.supplyFault .h) s (fun t => t.pwr.hHeld = true ∧ 1 ≤ t.pwr.hSup ∧ t.eth = {} ∧
        nbit (t.fld R.SAFE_CAUSE F.SAFE_CAUSE_LATCHED) 12 = true)) ∧
    (s.pwr.fHeld = false → Does (.supplyFault .f) s (fun t => t.pwr.fHeld = true)) ∧
    (s.pwr.hHeld = false → s.pwr.fHeld = true → Does (.supplyFault .h) s (fun t => t.pwr.hHeld = true ∧ t.eth = {})) ∧
    (s.pwr.fHeld = true → exec (.supplyFault .f) s = .next s) ∧
    (s.pwr.hHeld = true → exec (.supplyFault .h) s = .next s)

/-- The ROM boots a slot or enters recovery; the firmware starts, becomes ready, and keeps the attempt counts and the fuses. Where it
touches them it rests on the model's choices of log entries 26, 28, 78, 101, 111, 112. -/
def Obligations.FirmwareBoots : Prop :=
  ∀ (s : State) (low : Bool) (data : Word) (sigs : List (BitVec 128)) (p : Part) (c : Nat),
    let s1 := s.wr R.SYS_RESET_CAUSE (w32 (s.pwr.lastKind + (if s.pwr.vaultWake then 16 else 0)))
    let s2 := (s1.slotCheck 1).slotCheck 2
    let on := s.pwr.fHeld = false ∧ s.boot.booting = true
    let test := s.pwr.fHeld = false ∧ s.boot.booting = false ∧ s.boot.mode ≠ 0 ∧ s.boot.selfTestDone = false
    let fail := s.bootFails sigs
    let down := 2 ^ 22 ≤ fail ∨ bitsAt (w32 fail) 16 2 = 3 ∨ bitsAt (w32 fail) 18 4 = 15
    (s.pwr.fHeld = true ∨ s.boot.booting = false → exec (.fDieBoot low) s = .next s) ∧
    (on → Does (.fDieBoot true) s (fun t => t.boot.mode = 0 ∧ t.boot.recovery = 1 ∧ t.boot.booting = false ∧ t.boot.resp.isSome = true ∧ t.host.microcode = false ∧
      t.safe.dacMuted = true ∧ t.fld R.SYS_RESET_CAUSE F.SYS_RESET_CAUSE_KIND = 9)) ∧
    (on → s.boot.recoveryReq = false → s2.candidate 1 = false → s2.candidate 2 = false → Does (.fDieBoot false) s (fun t =>
      t.boot.mode = 0 ∧ t.boot.recovery = 3)) ∧
    (on → s.boot.recoveryReq = false → s2.fld R.BOOT_SEL F.BOOT_SEL_SEL = 0 → s2.bootOrder = [c] → s2.bodyOk c = true →
      Does (.fDieBoot false) s (fun t => t.boot.mode = c ∧ t.boot.booting = false ∧ t.tries c = min 3 (s2.tries c + 1) ∧
        t.flag R.BOOT_STATUS F.BOOT_STATUS_FALLBACK = false ∧ t.rd R.BOOT_VERSION = s2.rd (slotVer c))) ∧
    (∀ r < 32, nbit fail r = !s.bistGood r 3 (sigs.getD r 0)) ∧
    (test → down → exec (.bootSelftestDone sigs) s = .next ((s.wr R.BIST_BOOT_FAIL (w32 fail)).recover 4)) ∧
    (test → ¬ down → exec (.bootSelftestDone sigs) s = .next (let u := (s.wr R.BIST_BOOT_FAIL (w32 fail)).bootUnits fail
      ({ u with boot := { u.boot with selfTestDone := true } } : State).bootFinish)) ∧
    (s.boot.mode = 0 → exec (.bootSelftestDone sigs) s = .next s) ∧
    (s.pwr.vaultWake = true → s.bootWake.boot.events = s.boot.events ++ [(29, 0, 0, 4, w32 (2 + s.pwr.vaultCode * 256))] ∧
      s.bootWake.pwr.vaultWake = false) ∧
    (s.passUp = true → s.fwRuns = true → s.host.microcode = true → s.host.fwReady = false → s.boot.bootFailClusters = [] →
      s.boot.bootFailPairs = [] → s.boot.events = [] → Does .fwReady s (fun t => t.host.fwReady = true ∧ t.host.stopped = false ∧
        t.boot.readySince = some s.now)) ∧
    (s.passUp = false ∨ s.fwRuns = false ∨ s.host.microcode = false ∨ s.host.fwReady = true → exec .fwReady s = .next s) ∧
    (∀ u, s.boot.readySince = some u → s.boot.mode = 1 ∨ s.boot.mode = 2 → Does .triesClearTimer s (fun t => t.tries s.boot.mode = 0 ∧
      t.boot.readySince = none ∧ t.now = max s.now (u + sec 60) ∧ t.regsBut s [slotReg s.boot.mode])) ∧
    (s.boot.readySince = none → exec .triesClearTimer s = .next s) ∧
    (s.unlocked 0 = true → bitAt data 0 = true → s.boot.mode ≠ 3 → s.boot.fuseF < s.fld R.BOOT_STATUS F.BOOT_STATUS_RUN_SVN →
      s.flag R.BOOT_RB F.BOOT_RB_BLOWING = false → Does (.rollbackCommit 0 data) s (fun t => t.flag R.BOOT_RB F.BOOT_RB_BLOWING = true ∧
        t.boot = { s.boot with fuseTarget := s.fld R.BOOT_STATUS F.BOOT_STATUS_RUN_SVN } ∧ t.unlocked 0 = false)) ∧
    (s.flag R.BOOT_RB F.BOOT_RB_BLOWING = true → Does .fuseBlowDone s (fun t => t.flag R.BOOT_RB F.BOOT_RB_BLOWING = false ∧
      t.boot = { s.boot with fuseF := max s.boot.fuseF s.boot.fuseTarget })) ∧
    (s.flag R.BOOT_RB F.BOOT_RB_BLOWING = false → exec .fuseBlowDone s = .next s) ∧
    (s.unlocked 0 = true → bitsAt data 0 2 = 3 → Does (.bootSelect 0 data) s (fun t => t.flag R.BOOT_ERR F.BOOT_ERR_SEL_INVALID = true ∧
      t.rd R.BOOT_SEL = s.rd R.BOOT_SEL ∧ t.unlocked 0 = false)) ∧
    (s.unlocked 0 = true → bitsAt data 0 2 ≠ 3 → Does (.bootSelect 0 data) s (fun t => t.rd R.BOOT_SEL = data &&& 7 ∧
        t.tries 1 = (if bitAt data 3 then 0 else s.tries 1) ∧ t.tries 2 = (if bitAt data 4 then 0 else s.tries 2) ∧ t.unlocked 0 = false) ∧
      Does (.clrTriesA 0 data) s (fun t => t.tries 1 = 0 ∧ t.rd R.BOOT_SEL = data &&& 7) ∧
      Does (.clrTriesB 0 data) s (fun t => t.tries 2 = 0 ∧ t.rd R.BOOT_SEL = data &&& 7)) ∧
    (s.unlocked 0 = true → bitsAt data 0 2 = 3 → Does (.clrTriesA 0 data) s (fun t => t.flag R.BOOT_ERR F.BOOT_ERR_SEL_INVALID = true ∧
        t.tries 1 = s.tries 1) ∧
      Does (.clrTriesB 0 data) s (fun t => t.flag R.BOOT_ERR F.BOOT_ERR_SEL_INVALID = true ∧ t.tries 2 = s.tries 2)) ∧
    (s.unlocked p = false → exec (.bootSelect p data) s = .next (s.guardViolation p (w32 R.BOOT_SEL) false data) ∧
      exec (.rollbackCommit p data) s = .next (s.guardViolation p (w32 R.BOOT_RB) false data)) ∧
    (s.unlocked p = true → p.val ≠ 0 → Does (.bootSelect p data) s (fun t => t.flag R.BOOT_ERR F.BOOT_ERR_PART_WRITE = true ∧
      t.rd R.BOOT_SEL = s.rd R.BOOT_SEL ∧ t.boot = s.boot))

/-- The Smivi port answers each command, or discards it while a response waits. Where it touches them it rests on the model's choices of log
entries 18, 28, 74. -/
def Obligations.SmiviAnswers : Prop :=
  ∀ (s : State) (q slot op : Byte) (off n : Word) (len first count : BitVec 16) (data octets : List Byte) (good : Bool),
    let ready := s.pwr.fHeld = false ∧ s.boot.resp = none ∧ s.boot.op = none ∧ s.smBusy = false
    let base := slotBase slot.toNat + off.toNat
    (s.boot.resp.isSome = true → exec (.ident q) s = .next s ∧ exec (.slots q) s = .next s ∧ exec (.flashErase q slot first count) s = .next s ∧
      exec (.flashWrite q slot off data) s = .next s ∧ exec (.flashRead q slot off len) s = .next s ∧ exec (.slotCrc q slot off n) s = .next s ∧
      exec (.ramLoad q off data) s = .next s ∧ exec (.ramRun q) s = .next s ∧ exec (.smiviReset q) s = .next s) ∧
    (s.pwr.fHeld = false → s.boot.resp = none → s.boot.op = none → s.smBusy = true → exec (.ident q) s = .next (s.smReply 8 q []) ∧
      exec (.ramRun q) s = .next (s.smReply 8 q [])) ∧
    (ready → exec (.ident q) s = .next (s.smReply 1 q s.identPayload) ∧ exec (.slots q) s = .next (s.smReply 1 q (s.slotInfo 1 ++ s.slotInfo 2)) ∧
      exec (.smiviReset q) s = .next (({ s with boot := { s.boot with resetAfter := true } } : State).smReply 1 q [])) ∧
    (ready → smRange slot (65536 * first.toNat) (65536 * count.toNat) = true → s.smMayWrite slot = true →
      exec (.flashErase q slot first count) s = .next { s with boot := { s.boot with
        op := some ⟨0x10, q, slotBase slot.toNat + 65536 * first.toNat, [], 65536 * count.toNat⟩ } }) ∧
    (ready → smRange slot off.toNat data.length = true → off.toNat % 256 = 0 → data ≠ [] → data.length ≤ 1024 →
      exec (.flashWrite q slot off data) s = .next (if s.smMayWrite slot then
        { s with boot := { s.boot with op := some ⟨0x11, q, base, data, data.length⟩ } } else s.smReply 5 q [])) ∧
    (ready → smRange slot off.toNat len.toNat = true → 1 ≤ len.toNat → len.toNat ≤ 1024 → exec (.flashRead q slot off len) s =
      .next (s.smReply 1 q (storeOctets 0xFF s.boot.flash base len.toNat))) ∧
    (ready → smRange slot off.toNat n.toNat = true → exec (.slotCrc q slot off n) s =
      .next (s.smReply 1 q (be 4 (crc32c (storeOctets 0xFF s.boot.flash base n.toNat)).toNat))) ∧
    (ready → smRange slot off.toNat n.toNat = false → exec (.slotCrc q slot off n) s = .next (s.smReply 4 q [])) ∧
    (∀ o, s.boot.op = some o → o.opcode = 0x11 → (storeOctets 0xFF s.boot.flash o.addr o.count).all (fun b => b = 0xFF) = true →
      Does (.flashOpDone true) s (fun t => t.boot.op = none ∧ t.boot.flash = octetsPut 0xFF o.addr o.data s.boot.flash ∧
        t.boot.resp = some (smiviFrame 1 o.seq []) ∧ t.regsBut s [slotReg (o.addr / slotSize + 1)])) ∧
    (∀ o, s.boot.op = some o → o.opcode = 0x10 → Does (.flashOpDone true) s (fun t => t.boot.op = none ∧
      t.boot.flash = flashErased o.addr o.count s.boot.flash ∧ t.boot.resp = some (smiviFrame 1 o.seq []))) ∧
    (∀ o, s.boot.op = some o → Does (.flashOpDone false) s (fun t => t.boot.op = none ∧ t.boot.resp = some (smiviFrame 6 o.seq []))) ∧
    (s.boot.op = none → exec (.flashOpDone good) s = .next s) ∧
    (ready → off.toNat + data.length ≤ 16777216 → data ≠ [] → data.length ≤ 1024 → exec (.ramLoad q off data) s = .next (
      if s.boot.mode = 0 then ({ s with boot := { s.boot with staging := octetsPut 0 off.toNat data s.boot.staging } } : State).smReply 1 q []
      else s.smReply 5 q [])) ∧
    (ready → s.boot.mode ≠ 0 → exec (.ramRun q) s = .next (s.smReply 5 q [])) ∧
    (ready → s.boot.mode = 0 → s.imageFail 3 ≠ 0 → exec (.ramRun q) s = .next (s.smReply 7 q [BitVec.ofNat 8 (s.imageFail 3)])) ∧
    (ready → s.boot.mode = 0 → s.imageFail 3 = 0 → Does (.ramRun q) s (fun t => t.boot.mode = 3 ∧ t.boot.booting = false ∧
      t.boot.resp = some (smiviFrame 1 q []) ∧ t.safe.dacMuted = s.inQuiet)) ∧
    exec (.smiviInvalidCommand []) s = .next s ∧
    (op ≠ 0xA5 → op ≠ 0x5A → exec (.smiviInvalidCommand (op :: octets)) s = .next s) ∧
    exec (.smiviInvalidCommand (0x5A :: octets)) s = exec .smiviResponseRead s ∧
    (ready → octets.length < 8 + beAt octets 2 2 ∨ 1030 < beAt octets 2 2 ∨
        beAt octets (4 + beAt octets 2 2) 4 ≠ (crc32c (octets.take (4 + beAt octets 2 2))).toNat →
      exec (.smiviInvalidCommand (0xA5 :: octets)) s = .next (s.smReply 2 (octets.getD 1 0) [])) ∧
    (ready → data.length ≤ 1030 → op.toNat ∉ [1, 2, 0x10, 0x11, 0x12, 0x13, 0x20, 0x21, 0x30] →
      exec (.smiviInvalidCommand (smiviCommand op q data)) s = .next (s.smReply 3 q [])) ∧
    (exec (.smiviInvalidCommand (smiviCommand 0x01 q [])) s = exec (.ident q) s ∧
      exec (.smiviInvalidCommand (smiviCommand 0x02 q [])) s = exec (.slots q) s ∧
      exec (.smiviInvalidCommand (smiviCommand 0x21 q [])) s = exec (.ramRun q) s ∧
      exec (.smiviInvalidCommand (smiviCommand 0x30 q [])) s = exec (.smiviReset q) s) ∧
    (data.length ≤ 1024 →
      exec (.smiviInvalidCommand (smiviCommand 0x10 q ([slot] ++ be 2 first.toNat ++ be 2 count.toNat))) s = exec (.flashErase q slot first count) s ∧
      exec (.smiviInvalidCommand (smiviCommand 0x11 q ([slot, op] ++ be 4 off.toNat ++ data))) s = exec (.flashWrite q slot off data) s ∧
      exec (.smiviInvalidCommand (smiviCommand 0x12 q ([slot, op] ++ be 4 off.toNat ++ be 2 len.toNat))) s = exec (.flashRead q slot off len) s ∧
      exec (.smiviInvalidCommand (smiviCommand 0x13 q ([slot, op] ++ be 4 off.toNat ++ be 4 n.toNat))) s = exec (.slotCrc q slot off n) s ∧
      exec (.smiviInvalidCommand (smiviCommand 0x20 q (be 4 off.toNat ++ data))) s = exec (.ramLoad q off data) s) ∧
    (s.pwr.fHeld = true → exec .smiviResponseRead s = .next s ∧ exec (.ident q) s = .next s) ∧
    (s.pwr.fHeld = false → s.boot.resetAfter = false → exec .smiviResponseRead s = .next { s with boot := { s.boot with
      sent := s.boot.resp.getD (List.replicate 8 0), resp := none } }) ∧
    (∀ r, s.pwr.fHeld = false → s.boot.resetAfter = true → s.boot.resp = some r → s.pwr.resetCode = none → Does .smiviResponseRead s (fun t =>
      t.boot = { s.boot with sent := r, resp := none, resetAfter := false } ∧ t.pwr.resetCode = some 2))

/-- Self-test: a region is tested on command when it may be, and its signature is reported. Where it touches them it rests on the model's
choices of log entries 28, 112. -/
def Obligations.SelfTestRuns : Prop :=
  ∀ (s : State) (c : CmdDesc) (w0 w1 w2 w3 : Word), let r := bistReg c
    let good := s.bistGood r (bitsAt c.w1 8 2) (w3 ++ w2 ++ w1 ++ w0)
    let free := s.cmdTurn c = true ∧ s.bist.cmd = none ∧ s.bist.closing = none
    (∀ k, free → s.bistBad c = some k → exec (.bistRun c) s = .next ((s.cmdTake c).cmdBad c k)) ∧
    (∀ k, s.leads c = true → s.bist.cmd = none → s.bist.closing = none → s.bistBad c = some k →
      Does (.bistRun c) s (fun t => t.completed c stBAD_PARAM [] k)) ∧
    (s.cmdTurn c = false ∨ s.bist.cmd.isSome = true → exec (.bistRun c) s = .next s) ∧
    (free → s.bistBad c = none → 18 ≤ r → Does (.bistRun c) s (fun t =>
      t.bist = { cmd := some c, since := s.now, closing := none } ∧ t.cmds = s.cmds.erase c ∧
      t.flag R.BIST_STATUS F.BIST_STATUS_RUNNING = true ∧ t.regsBut s [R.BIST_STATUS])) ∧
    (free → s.bistBad c = none → r < 16 → s.rx.closing = none → s.rx.lanes = [] →
      s.flag R.LANE_STATE F.LANE_STATE_OFFLINE_VALID = false → Does (.bistRun c) s (fun t => t.bistRegion = some r ∧ t.cmds = s.cmds.erase c)) ∧
    (free → s.bistBad c = none → r = 16 → s.engState 0 ≠ 5 → Does (.bistRun c) s (fun t =>
      t.engState 0 = 3 ∧ t.bist.cmd = some c)) ∧
    (s.bist.cmd = none → exec (.bistDone w0 w1 w2 w3) s = .next s) ∧
    (s.bist.cmd = some c → s.clearFor c = true → 18 ≤ r → r < 22 → good = true → Does (.bistDone w0 w1 w2 w3) s (fun t => t.bist = {} ∧ t.rd (R.BIST_MISR 0) = w0 ∧
      t.rd (R.BIST_MISR 1) = w1 ∧ t.rd (R.BIST_MISR 2) = w2 ∧ t.rd (R.BIST_MISR 3) = w3 ∧ t.now = max s.now (s.bist.since + ms 5) ∧
      t.completed c stOK [w32 (1 + bitsAt c.w1 8 2 * 2), w0, w1, w2, w3] 0)) ∧
    (s.bist.cmd = some c → 22 ≤ r → s.pwr.resetCode = none → Does (.bistDone w0 w1 w2 w3) s (fun t => t.bist = {} ∧
      t.pwr.resetCode = some 5 ∧ t.rd (R.BIST_MISR 0) = w0 ∧ t.sent .f = some (0x0F, 0, [5, 0])))

/-! ### Events that a ring cannot take (R328) -/

/-- R328 over the shared operation that writes an event record: an event that finds the ring full or disabled is dropped and counted, and
takes its `SEQ`; the next event that is written carries `LOST` 1 and the `SEQ` that follows, and clears the mark. -/
def Obligations.DroppedEventsAreCounted : Prop :=
  ∀ (s : State) (p : Part) (ws : List Word), let t := s.evtWrite p ws
    let seq := aget 0 p.val s.host.evtSeq
    let lost := aget 0 p.val s.host.evtLost
    let w := t.memWord p (s.ringSlot p 34 (s.ringChip p 34))
    (s.ringSize p 34 = 0 ∨ 2 ^ s.ringSize p 34 - 1 ≤ occupancy (s.ringChip p 34) (s.ringHost p 34) → t.host.mem = s.host.mem ∧
      t.rd (R.EVT_CNT_DROP p) = satInc (s.rd (R.EVT_CNT_DROP p)) ∧ aget 0 p.val t.host.evtLost = 1 ∧
      aget 0 p.val t.host.evtSeq = (seq + 1) % 65536 ∧ t.regsBut s [R.EVT_CNT_DROP p]) ∧
    (s.ringRoom p 34 = true → lost < 2 → seq < 65536 → bitsAt w 8 1 = lost ∧ bitsAt w 16 16 = seq ∧ aget 0 p.val t.host.evtLost = 0 ∧
      aget 0 p.val t.host.evtSeq = (seq + 1) % 65536)

/-! ### Frames -/

/-- Each command leaves every component of the state that its effect does not reach as it was, and none changes the queue: the components
that a command may change are those `touches` lists, and it answers a next state in every state. -/
def Obligations.CommandsTouchOnlyTheirComponents : Prop :=
  ∀ (c : Instr) (s : State), Keeps c s (touches c)
end

