-- ==== Sys2Proof/Laws/Assoc.lean ====
section
/-! SUPPORT. The laws of the sparse tables: reading after a write, and that every operation keeps the canonical form. -/

namespace Sys2Proof.Machine

section
variable {α : Type} (d v : α) (k j : Nat) (m : List (Nat × α))

@[simp] theorem aget_adel_same : aget d k (adel k m) = d := by
  induction m with
  | nil => rfl
  | cons e m ih =>
    obtain ⟨a, b⟩ := e
    by_cases h : a = k <;> simp [adel, aget, h, ih]

theorem aget_adel_ne (h : j ≠ k) : aget d j (adel k m) = aget d j m := by
  induction m with
  | nil => rfl
  | cons e m ih =>
    obtain ⟨a, b⟩ := e
    by_cases hk : a = k
    · subst hk; simp [adel, aget, ih, Ne.symm h]
    · by_cases hj : a = j
      · subst hj; simp [adel, aget, h]
      · simp [adel, aget, hk, hj, ih]

theorem aget_aput_same (h : ∀ e ∈ m, e.1 ≠ k) : aget d k (aput k v m) = v := by
  induction m with
  | nil => simp [aput, aget]
  | cons e m ih =>
    obtain ⟨a, b⟩ := e
    have ha : a ≠ k := h (a, b) (by simp)
    by_cases hl : k < a
    · simp [aput, aget, hl]
    · simp [aput, aget, hl, ha, ih (fun e he => h e (by simp [he]))]

theorem aget_aput_ne (h : j ≠ k) : aget d j (aput k v m) = aget d j m := by
  induction m with
  | nil => simp [aput, aget, Ne.symm h]
  | cons e m ih =>
    obtain ⟨a, b⟩ := e
    by_cases hl : k < a
    · simp [aput, aget, hl, Ne.symm h]
    · simp [aput, aget, hl, ih]

theorem adel_no_key : ∀ e ∈ adel k m, e.1 ≠ k := by
  induction m with
  | nil => simp [adel]
  | cons e m ih =>
    obtain ⟨a, b⟩ := e
    by_cases h : a = k
    · simpa [adel, h] using ih
    · intro e he
      rcases List.mem_cons.mp (by simpa [adel, h] using he) with rfl | he
      · exact h
      · exact ih e he

theorem adel_mem {e : Nat × α} (h : e ∈ adel k m) : e ∈ m := by
  induction m with
  | nil => simp [adel] at h
  | cons x m ih =>
    obtain ⟨a, b⟩ := x
    by_cases ha : a = k
    · simp only [adel, ha, if_true] at h
      exact List.mem_cons_of_mem _ (ih h)
    · simp only [adel, ha, if_false, List.mem_cons] at h
      rcases h with rfl | h
      · simp
      · exact List.mem_cons_of_mem _ (ih h)

theorem aput_mem {e : Nat × α} (h : e ∈ aput k v m) : e = (k, v) ∨ e ∈ m := by
  induction m with
  | nil => simpa [aput] using h
  | cons x m ih =>
    obtain ⟨a, b⟩ := x
    by_cases hl : k < a
    · simpa [aput, hl] using h
    · simp only [aput, hl, if_false, List.mem_cons] at h
      rcases h with rfl | h
      · simp
      · rcases ih h with h | h <;> simp [h]

variable [DecidableEq α]

/-- A read after a write of the same key. -/
@[simp] theorem aget_aset_same : aget d k (aset d k v m) = v := by
  unfold aset
  split
  · simp_all
  · exact aget_aput_same d v k _ (adel_no_key k m)

/-- A write leaves every other key alone. -/
theorem aget_aset_ne (h : j ≠ k) : aget d j (aset d k v m) = aget d j m := by
  unfold aset
  split
  · exact aget_adel_ne d k j m h
  · rw [aget_aput_ne d v k j _ h, aget_adel_ne d k j m h]

theorem awf_cons (e : Nat × α) : awf d (e :: m) = true ↔ e.2 ≠ d ∧ (∀ x ∈ m, e.1 < x.1) ∧ awf d m = true := by
  obtain ⟨a, b⟩ := e
  simp [awf, and_assoc]

theorem awf_adel (h : awf d m = true) : awf d (adel k m) = true := by
  induction m with
  | nil => rfl
  | cons e m ih =>
    obtain ⟨a, b⟩ := e
    obtain ⟨h1, h2, h3⟩ := (awf_cons d m (a, b)).mp h
    by_cases ha : a = k
    · simpa [adel, ha] using ih h3
    · simp only [adel, ha, if_false]
      exact (awf_cons d _ _).mpr ⟨h1, fun x hx => h2 x (adel_mem k m hx), ih h3⟩

theorem awf_aput (h : awf d m = true) (hv : v ≠ d) (hk : ∀ e ∈ m, e.1 ≠ k) : awf d (aput k v m) = true := by
  induction m with
  | nil => simp [aput, awf, hv]
  | cons e m ih =>
    obtain ⟨a, b⟩ := e
    obtain ⟨h1, h2, h3⟩ := (awf_cons d m (a, b)).mp h
    have ha : a ≠ k := hk (a, b) (by simp)
    by_cases hl : k < a
    · simp only [aput, hl, if_true]
      refine (awf_cons d _ _).mpr ⟨hv, fun x hx => ?_, h⟩
      rcases List.mem_cons.mp hx with rfl | hx
      · exact hl
      · exact Nat.lt_trans hl (h2 x hx)
    · simp only [aput, hl, if_false]
      refine (awf_cons d _ _).mpr ⟨h1, fun x hx => ?_, ih h3 (fun e he => hk e (by simp [he]))⟩
      rcases aput_mem v k m hx with rfl | hx
      · show a < k
        omega
      · exact h2 x hx

/-- A write keeps the canonical form. -/
theorem awf_aset (h : awf d m = true) : awf d (aset d k v m) = true := by
  unfold aset
  split
  · exact awf_adel d k m h
  · rename_i hv
    exact awf_aput d v k _ (awf_adel d k m h) hv (adel_no_key k m)

theorem awf_amod (f : α → α) (h : awf d m = true) : awf d (amod d k f m) = true := awf_aset d _ k m h

theorem awf_filter (p : Nat × α → Bool) (h : awf d m = true) : awf d (m.filter p) = true := by
  induction m with
  | nil => rfl
  | cons e m ih =>
    obtain ⟨h1, h2, h3⟩ := (awf_cons d m e).mp h
    by_cases hp : p e = true
    · rw [List.filter_cons_of_pos hp]
      exact (awf_cons d _ _).mpr ⟨h1, fun x hx => h2 x (List.mem_filter.mp hx).1, ih h3⟩
    · rw [List.filter_cons_of_neg hp]
      exact ih h3

end

/-! ### Fields of a register word -/

theorem fget_lt (f : Fld) (v : Word) : fget f v < 2 ^ f.w := Nat.mod_lt _ (Nat.two_pow_pos _)

/-- A word splits at a field: the bits below it, the field, the bits above it. -/
theorem fld_split (f : Fld) (v : Word) :
    v.toNat = v.toNat % 2 ^ f.lo + fget f v * 2 ^ f.lo + v.toNat / 2 ^ (f.lo + f.w) * 2 ^ (f.lo + f.w) := by
  have h1 := Nat.div_add_mod v.toNat (2 ^ f.lo)
  have h2 := Nat.div_add_mod (v.toNat / 2 ^ f.lo) (2 ^ f.w)
  have h3 : v.toNat / 2 ^ (f.lo + f.w) = v.toNat / 2 ^ f.lo / 2 ^ f.w := by rw [pow_add, Nat.div_div_eq_div_mul]
  rw [h3, pow_add]
  unfold fget
  have h4 : (v.toNat / 2 ^ f.lo) * 2 ^ f.lo = (2 ^ f.w * (v.toNat / 2 ^ f.lo / 2 ^ f.w) + v.toNat / 2 ^ f.lo % 2 ^ f.w) * 2 ^ f.lo := by
    rw [h2]
  have h5 := Nat.mul_comm (2 ^ f.lo) (v.toNat / 2 ^ f.lo)
  calc v.toNat = (v.toNat / 2 ^ f.lo) * 2 ^ f.lo + v.toNat % 2 ^ f.lo := by omega
    _ = _ := by rw [h4]; ring

/-- The number a word with a field replaced holds. -/
theorem fset_toNat (f : Fld) (v : Word) (x : Nat) (h : f.lo + f.w ≤ 32) :
    (fset f v x).toNat =
      v.toNat % 2 ^ f.lo + x % 2 ^ f.w * 2 ^ f.lo + v.toNat / 2 ^ (f.lo + f.w) * 2 ^ (f.lo + f.w) := by
  have hs := fld_split f v
  have hx : x % 2 ^ f.w < 2 ^ f.w := Nat.mod_lt _ (Nat.two_pow_pos _)
  have ha : v.toNat % 2 ^ f.lo < 2 ^ f.lo := Nat.mod_lt _ (Nat.two_pow_pos _)
  have hc : v.toNat / 2 ^ (f.lo + f.w) < 2 ^ (32 - (f.lo + f.w)) := by
    rw [Nat.div_lt_iff_lt_mul (Nat.two_pow_pos _), ← pow_add]
    have : 32 - (f.lo + f.w) + (f.lo + f.w) = 32 := by omega
    rw [this]; exact v.isLt
  have hp : 2 ^ (f.lo + f.w) = 2 ^ f.lo * 2 ^ f.w := pow_add 2 f.lo f.w
  have hq : 2 ^ (32 - (f.lo + f.w)) * 2 ^ (f.lo + f.w) = 2 ^ 32 := by rw [← pow_add]; congr 1; omega
  have e : v.toNat - fget f v * 2 ^ f.lo + x % 2 ^ f.w * 2 ^ f.lo =
      v.toNat % 2 ^ f.lo + x % 2 ^ f.w * 2 ^ f.lo + v.toNat / 2 ^ (f.lo + f.w) * 2 ^ (f.lo + f.w) := by omega
  unfold fset
  rw [BitVec.toNat_ofNat, e, Nat.mod_eq_of_lt]
  have b1 : (x % 2 ^ f.w + 1) * 2 ^ f.lo ≤ 2 ^ f.w * 2 ^ f.lo := Nat.mul_le_mul_right _ hx
  have b2 : (v.toNat / 2 ^ (f.lo + f.w) + 1) * 2 ^ (f.lo + f.w) ≤ 2 ^ (32 - (f.lo + f.w)) * 2 ^ (f.lo + f.w) :=
    Nat.mul_le_mul_right _ hc
  rw [hq] at b2
  rw [hp] at b2 ⊢
  nlinarith [b1, b2, ha]

/-- The field of a word in which it was replaced. -/
theorem fget_fset (f : Fld) (v : Word) (x : Nat) (h : f.lo + f.w ≤ 32) : fget f (fset f v x) = x % 2 ^ f.w := by
  have hx : x % 2 ^ f.w < 2 ^ f.w := Nat.mod_lt _ (Nat.two_pow_pos _)
  have ha : v.toNat % 2 ^ f.lo < 2 ^ f.lo := Nat.mod_lt _ (Nat.two_pow_pos _)
  unfold fget
  rw [fset_toNat f v x h, pow_add]
  have e : v.toNat % 2 ^ f.lo + x % 2 ^ f.w * 2 ^ f.lo + v.toNat / (2 ^ f.lo * 2 ^ f.w) * (2 ^ f.lo * 2 ^ f.w) =
      v.toNat % 2 ^ f.lo + (x % 2 ^ f.w + v.toNat / (2 ^ f.lo * 2 ^ f.w) * 2 ^ f.w) * 2 ^ f.lo := by ring
  rw [e, Nat.add_mul_div_right _ _ (Nat.two_pow_pos _), Nat.div_eq_of_lt ha, Nat.zero_add, Nat.add_mul_mod_self_right,
    Nat.mod_eq_of_lt hx]

/-- A field below one that is replaced stays. -/
theorem fget_fset_below (f g : Fld) (v : Word) (x : Nat) (h : f.lo + f.w ≤ 32) (hg : g.lo + g.w ≤ f.lo) :
    fget g (fset f v x) = fget g v := by
  have key : ∀ n : Nat, (n / 2 ^ g.lo) % 2 ^ g.w = (n % 2 ^ f.lo / 2 ^ g.lo) % 2 ^ g.w := by
    intro n
    have : f.lo = g.lo + (f.lo - g.lo) := by omega
    rw [this, pow_add, Nat.mod_mul_right_div_self, Nat.mod_mod_of_dvd]
    exact pow_dvd_pow 2 (by omega)
  unfold fget
  rw [key (fset f v x).toNat, key v.toNat, fset_toNat f v x h]
  congr 2
  rw [pow_add]
  have e : v.toNat % 2 ^ f.lo + x % 2 ^ f.w * 2 ^ f.lo + v.toNat / (2 ^ f.lo * 2 ^ f.w) * (2 ^ f.lo * 2 ^ f.w) =
      v.toNat % 2 ^ f.lo + (x % 2 ^ f.w + v.toNat / (2 ^ f.lo * 2 ^ f.w) * 2 ^ f.w) * 2 ^ f.lo := by ring
  rw [e, Nat.add_mul_mod_self_right, Nat.mod_mod]

/-- A field above one that is replaced stays. -/
theorem fget_fset_above (f g : Fld) (v : Word) (x : Nat) (h : f.lo + f.w ≤ 32) (hg : f.lo + f.w ≤ g.lo) :
    fget g (fset f v x) = fget g v := by
  have key : ∀ n : Nat, n / 2 ^ g.lo = n / 2 ^ (f.lo + f.w) / 2 ^ (g.lo - (f.lo + f.w)) := by
    intro n
    rw [Nat.div_div_eq_div_mul, ← pow_add]
    congr 2
    omega
  have hx : x % 2 ^ f.w < 2 ^ f.w := Nat.mod_lt _ (Nat.two_pow_pos _)
  have ha : v.toNat % 2 ^ f.lo < 2 ^ f.lo := Nat.mod_lt _ (Nat.two_pow_pos _)
  unfold fget
  rw [key (fset f v x).toNat, key v.toNat, fset_toNat f v x h]
  congr 2
  rw [Nat.add_mul_div_right _ _ (Nat.two_pow_pos _), Nat.div_eq_of_lt, Nat.zero_add]
  rw [pow_add]
  have b1 : (x % 2 ^ f.w + 1) * 2 ^ f.lo ≤ 2 ^ f.w * 2 ^ f.lo := Nat.mul_le_mul_right _ hx
  nlinarith [b1, ha]

end Sys2Proof.Machine
end

