-- ==== Sys2Proof/Laws/State.lean ====
section
/-! SUPPORT. What each basic update of the state leaves unchanged, field by field, and what it changes. -/

namespace Sys2Proof.Machine

variable (s : State)

/-! ### `wr` -/

@[simp] theorem State.wr_now (k : Nat) (v : Word) : (s.wr k v).now = s.now := rfl
@[simp] theorem State.wr_free (k : Nat) (v : Word) : (s.wr k v).free = s.free := rfl
@[simp] theorem State.wr_pass (k : Nat) (v : Word) : (s.wr k v).pass = s.pass := rfl
@[simp] theorem State.wr_host (k : Nat) (v : Word) : (s.wr k v).host = s.host := rfl
@[simp] theorem State.wr_eth (k : Nat) (v : Word) : (s.wr k v).eth = s.eth := rfl
@[simp] theorem State.wr_time (k : Nat) (v : Word) : (s.wr k v).time = s.time := rfl
@[simp] theorem State.wr_safe (k : Nat) (v : Word) : (s.wr k v).safe = s.safe := rfl
@[simp] theorem State.wr_log (k : Nat) (v : Word) : (s.wr k v).log = s.log := rfl
@[simp] theorem State.wr_save (k : Nat) (v : Word) : (s.wr k v).save = s.save := rfl
@[simp] theorem State.wr_pwr (k : Nat) (v : Word) : (s.wr k v).pwr = s.pwr := rfl
@[simp] theorem State.wr_boot (k : Nat) (v : Word) : (s.wr k v).boot = s.boot := rfl
@[simp] theorem State.wr_bist (k : Nat) (v : Word) : (s.wr k v).bist = s.bist := rfl
@[simp] theorem State.wr_cmds (k : Nat) (v : Word) : (s.wr k v).cmds = s.cmds := rfl
@[simp] theorem State.wr_ends (k : Nat) (v : Word) : (s.wr k v).ends = s.ends := rfl
@[simp] theorem State.wr_ndir (k : Nat) (v : Word) : (s.wr k v).ndir = s.ndir := rfl
@[simp] theorem State.wr_cvn (k : Nat) (v : Word) : (s.wr k v).cvn = s.cvn := rfl
@[simp] theorem State.wr_cvnIds (k : Nat) (v : Word) : (s.wr k v).cvnIds = s.cvnIds := rfl
@[simp] theorem State.wr_air (k : Nat) (v : Word) : (s.wr k v).air = s.air := rfl
@[simp] theorem State.wr_qmg (k : Nat) (v : Word) : (s.wr k v).qmg = s.qmg := rfl
@[simp] theorem State.wr_shp (k : Nat) (v : Word) : (s.wr k v).shp = s.shp := rfl
@[simp] theorem State.wr_rf (k : Nat) (v : Word) : (s.wr k v).rf = s.rf := rfl
@[simp] theorem State.wr_rx (k : Nat) (v : Word) : (s.wr k v).rx = s.rx := rfl
@[simp] theorem State.wr_link (k : Nat) (v : Word) : (s.wr k v).link = s.link := rfl
@[simp] theorem State.wr_slot (k : Nat) (v : Word) : (s.wr k v).slot = s.slot := rfl
@[simp] theorem State.wr_key (k : Nat) (v : Word) : (s.wr k v).key = s.key := rfl
@[simp] theorem State.wr_vault (k : Nat) (v : Word) : (s.wr k v).vault = s.vault := rfl
@[simp] theorem State.wr_dir (k : Nat) (v : Word) : (s.wr k v).dir = s.dir := rfl
@[simp] theorem State.wr_lpm (k : Nat) (v : Word) : (s.wr k v).lpm = s.lpm := rfl
@[simp] theorem State.wr_mesh (k : Nat) (v : Word) : (s.wr k v).mesh = s.mesh := rfl
@[simp] theorem State.wr_pending (k : Nat) (v : Word) : (s.wr k v).pending = s.pending := rfl

/-! ### `setFld` -/

@[simp] theorem State.setFld_now (k : Nat) (f : Fld) (x : Nat) : (s.setFld k f x).now = s.now := rfl
@[simp] theorem State.setFld_free (k : Nat) (f : Fld) (x : Nat) : (s.setFld k f x).free = s.free := rfl
@[simp] theorem State.setFld_pass (k : Nat) (f : Fld) (x : Nat) : (s.setFld k f x).pass = s.pass := rfl
@[simp] theorem State.setFld_host (k : Nat) (f : Fld) (x : Nat) : (s.setFld k f x).host = s.host := rfl
@[simp] theorem State.setFld_eth (k : Nat) (f : Fld) (x : Nat) : (s.setFld k f x).eth = s.eth := rfl
@[simp] theorem State.setFld_time (k : Nat) (f : Fld) (x : Nat) : (s.setFld k f x).time = s.time := rfl
@[simp] theorem State.setFld_safe (k : Nat) (f : Fld) (x : Nat) : (s.setFld k f x).safe = s.safe := rfl
@[simp] theorem State.setFld_log (k : Nat) (f : Fld) (x : Nat) : (s.setFld k f x).log = s.log := rfl
@[simp] theorem State.setFld_save (k : Nat) (f : Fld) (x : Nat) : (s.setFld k f x).save = s.save := rfl
@[simp] theorem State.setFld_pwr (k : Nat) (f : Fld) (x : Nat) : (s.setFld k f x).pwr = s.pwr := rfl
@[simp] theorem State.setFld_boot (k : Nat) (f : Fld) (x : Nat) : (s.setFld k f x).boot = s.boot := rfl
@[simp] theorem State.setFld_bist (k : Nat) (f : Fld) (x : Nat) : (s.setFld k f x).bist = s.bist := rfl
@[simp] theorem State.setFld_cmds (k : Nat) (f : Fld) (x : Nat) : (s.setFld k f x).cmds = s.cmds := rfl
@[simp] theorem State.setFld_ends (k : Nat) (f : Fld) (x : Nat) : (s.setFld k f x).ends = s.ends := rfl
@[simp] theorem State.setFld_ndir (k : Nat) (f : Fld) (x : Nat) : (s.setFld k f x).ndir = s.ndir := rfl
@[simp] theorem State.setFld_cvn (k : Nat) (f : Fld) (x : Nat) : (s.setFld k f x).cvn = s.cvn := rfl
@[simp] theorem State.setFld_cvnIds (k : Nat) (f : Fld) (x : Nat) : (s.setFld k f x).cvnIds = s.cvnIds := rfl
@[simp] theorem State.setFld_air (k : Nat) (f : Fld) (x : Nat) : (s.setFld k f x).air = s.air := rfl
@[simp] theorem State.setFld_qmg (k : Nat) (f : Fld) (x : Nat) : (s.setFld k f x).qmg = s.qmg := rfl
@[simp] theorem State.setFld_shp (k : Nat) (f : Fld) (x : Nat) : (s.setFld k f x).shp = s.shp := rfl
@[simp] theorem State.setFld_rf (k : Nat) (f : Fld) (x : Nat) : (s.setFld k f x).rf = s.rf := rfl
@[simp] theorem State.setFld_rx (k : Nat) (f : Fld) (x : Nat) : (s.setFld k f x).rx = s.rx := rfl
@[simp] theorem State.setFld_link (k : Nat) (f : Fld) (x : Nat) : (s.setFld k f x).link = s.link := rfl
@[simp] theorem State.setFld_slot (k : Nat) (f : Fld) (x : Nat) : (s.setFld k f x).slot = s.slot := rfl
@[simp] theorem State.setFld_key (k : Nat) (f : Fld) (x : Nat) : (s.setFld k f x).key = s.key := rfl
@[simp] theorem State.setFld_vault (k : Nat) (f : Fld) (x : Nat) : (s.setFld k f x).vault = s.vault := rfl
@[simp] theorem State.setFld_dir (k : Nat) (f : Fld) (x : Nat) : (s.setFld k f x).dir = s.dir := rfl
@[simp] theorem State.setFld_lpm (k : Nat) (f : Fld) (x : Nat) : (s.setFld k f x).lpm = s.lpm := rfl
@[simp] theorem State.setFld_mesh (k : Nat) (f : Fld) (x : Nat) : (s.setFld k f x).mesh = s.mesh := rfl
@[simp] theorem State.setFld_pending (k : Nat) (f : Fld) (x : Nat) : (s.setFld k f x).pending = s.pending := rfl

/-! ### `bump` -/

@[simp] theorem State.bump_now (k : Nat) : (s.bump k).now = s.now := rfl
@[simp] theorem State.bump_free (k : Nat) : (s.bump k).free = s.free := rfl
@[simp] theorem State.bump_pass (k : Nat) : (s.bump k).pass = s.pass := rfl
@[simp] theorem State.bump_host (k : Nat) : (s.bump k).host = s.host := rfl
@[simp] theorem State.bump_eth (k : Nat) : (s.bump k).eth = s.eth := rfl
@[simp] theorem State.bump_time (k : Nat) : (s.bump k).time = s.time := rfl
@[simp] theorem State.bump_safe (k : Nat) : (s.bump k).safe = s.safe := rfl
@[simp] theorem State.bump_log (k : Nat) : (s.bump k).log = s.log := rfl
@[simp] theorem State.bump_save (k : Nat) : (s.bump k).save = s.save := rfl
@[simp] theorem State.bump_pwr (k : Nat) : (s.bump k).pwr = s.pwr := rfl
@[simp] theorem State.bump_boot (k : Nat) : (s.bump k).boot = s.boot := rfl
@[simp] theorem State.bump_bist (k : Nat) : (s.bump k).bist = s.bist := rfl
@[simp] theorem State.bump_cmds (k : Nat) : (s.bump k).cmds = s.cmds := rfl
@[simp] theorem State.bump_ends (k : Nat) : (s.bump k).ends = s.ends := rfl
@[simp] theorem State.bump_ndir (k : Nat) : (s.bump k).ndir = s.ndir := rfl
@[simp] theorem State.bump_cvn (k : Nat) : (s.bump k).cvn = s.cvn := rfl
@[simp] theorem State.bump_cvnIds (k : Nat) : (s.bump k).cvnIds = s.cvnIds := rfl
@[simp] theorem State.bump_air (k : Nat) : (s.bump k).air = s.air := rfl
@[simp] theorem State.bump_qmg (k : Nat) : (s.bump k).qmg = s.qmg := rfl
@[simp] theorem State.bump_shp (k : Nat) : (s.bump k).shp = s.shp := rfl
@[simp] theorem State.bump_rf (k : Nat) : (s.bump k).rf = s.rf := rfl
@[simp] theorem State.bump_rx (k : Nat) : (s.bump k).rx = s.rx := rfl
@[simp] theorem State.bump_link (k : Nat) : (s.bump k).link = s.link := rfl
@[simp] theorem State.bump_slot (k : Nat) : (s.bump k).slot = s.slot := rfl
@[simp] theorem State.bump_key (k : Nat) : (s.bump k).key = s.key := rfl
@[simp] theorem State.bump_vault (k : Nat) : (s.bump k).vault = s.vault := rfl
@[simp] theorem State.bump_dir (k : Nat) : (s.bump k).dir = s.dir := rfl
@[simp] theorem State.bump_lpm (k : Nat) : (s.bump k).lpm = s.lpm := rfl
@[simp] theorem State.bump_mesh (k : Nat) : (s.bump k).mesh = s.mesh := rfl
@[simp] theorem State.bump_pending (k : Nat) : (s.bump k).pending = s.pending := rfl

/-! ### `bumpBy` -/

@[simp] theorem State.bumpBy_now (k n : Nat) : (s.bumpBy k n).now = s.now := rfl
@[simp] theorem State.bumpBy_free (k n : Nat) : (s.bumpBy k n).free = s.free := rfl
@[simp] theorem State.bumpBy_pass (k n : Nat) : (s.bumpBy k n).pass = s.pass := rfl
@[simp] theorem State.bumpBy_host (k n : Nat) : (s.bumpBy k n).host = s.host := rfl
@[simp] theorem State.bumpBy_eth (k n : Nat) : (s.bumpBy k n).eth = s.eth := rfl
@[simp] theorem State.bumpBy_time (k n : Nat) : (s.bumpBy k n).time = s.time := rfl
@[simp] theorem State.bumpBy_safe (k n : Nat) : (s.bumpBy k n).safe = s.safe := rfl
@[simp] theorem State.bumpBy_log (k n : Nat) : (s.bumpBy k n).log = s.log := rfl
@[simp] theorem State.bumpBy_save (k n : Nat) : (s.bumpBy k n).save = s.save := rfl
@[simp] theorem State.bumpBy_pwr (k n : Nat) : (s.bumpBy k n).pwr = s.pwr := rfl
@[simp] theorem State.bumpBy_boot (k n : Nat) : (s.bumpBy k n).boot = s.boot := rfl
@[simp] theorem State.bumpBy_bist (k n : Nat) : (s.bumpBy k n).bist = s.bist := rfl
@[simp] theorem State.bumpBy_cmds (k n : Nat) : (s.bumpBy k n).cmds = s.cmds := rfl
@[simp] theorem State.bumpBy_ends (k n : Nat) : (s.bumpBy k n).ends = s.ends := rfl
@[simp] theorem State.bumpBy_ndir (k n : Nat) : (s.bumpBy k n).ndir = s.ndir := rfl
@[simp] theorem State.bumpBy_cvn (k n : Nat) : (s.bumpBy k n).cvn = s.cvn := rfl
@[simp] theorem State.bumpBy_cvnIds (k n : Nat) : (s.bumpBy k n).cvnIds = s.cvnIds := rfl
@[simp] theorem State.bumpBy_air (k n : Nat) : (s.bumpBy k n).air = s.air := rfl
@[simp] theorem State.bumpBy_qmg (k n : Nat) : (s.bumpBy k n).qmg = s.qmg := rfl
@[simp] theorem State.bumpBy_shp (k n : Nat) : (s.bumpBy k n).shp = s.shp := rfl
@[simp] theorem State.bumpBy_rf (k n : Nat) : (s.bumpBy k n).rf = s.rf := rfl
@[simp] theorem State.bumpBy_rx (k n : Nat) : (s.bumpBy k n).rx = s.rx := rfl
@[simp] theorem State.bumpBy_link (k n : Nat) : (s.bumpBy k n).link = s.link := rfl
@[simp] theorem State.bumpBy_slot (k n : Nat) : (s.bumpBy k n).slot = s.slot := rfl
@[simp] theorem State.bumpBy_key (k n : Nat) : (s.bumpBy k n).key = s.key := rfl
@[simp] theorem State.bumpBy_vault (k n : Nat) : (s.bumpBy k n).vault = s.vault := rfl
@[simp] theorem State.bumpBy_dir (k n : Nat) : (s.bumpBy k n).dir = s.dir := rfl
@[simp] theorem State.bumpBy_lpm (k n : Nat) : (s.bumpBy k n).lpm = s.lpm := rfl
@[simp] theorem State.bumpBy_mesh (k n : Nat) : (s.bumpBy k n).mesh = s.mesh := rfl
@[simp] theorem State.bumpBy_pending (k n : Nat) : (s.bumpBy k n).pending = s.pending := rfl

/-! ### `bumpFld` -/

@[simp] theorem State.bumpFld_now (k : Nat) (f : Fld) : (s.bumpFld k f).now = s.now := rfl
@[simp] theorem State.bumpFld_free (k : Nat) (f : Fld) : (s.bumpFld k f).free = s.free := rfl
@[simp] theorem State.bumpFld_pass (k : Nat) (f : Fld) : (s.bumpFld k f).pass = s.pass := rfl
@[simp] theorem State.bumpFld_host (k : Nat) (f : Fld) : (s.bumpFld k f).host = s.host := rfl
@[simp] theorem State.bumpFld_eth (k : Nat) (f : Fld) : (s.bumpFld k f).eth = s.eth := rfl
@[simp] theorem State.bumpFld_time (k : Nat) (f : Fld) : (s.bumpFld k f).time = s.time := rfl
@[simp] theorem State.bumpFld_safe (k : Nat) (f : Fld) : (s.bumpFld k f).safe = s.safe := rfl
@[simp] theorem State.bumpFld_log (k : Nat) (f : Fld) : (s.bumpFld k f).log = s.log := rfl
@[simp] theorem State.bumpFld_save (k : Nat) (f : Fld) : (s.bumpFld k f).save = s.save := rfl
@[simp] theorem State.bumpFld_pwr (k : Nat) (f : Fld) : (s.bumpFld k f).pwr = s.pwr := rfl
@[simp] theorem State.bumpFld_boot (k : Nat) (f : Fld) : (s.bumpFld k f).boot = s.boot := rfl
@[simp] theorem State.bumpFld_bist (k : Nat) (f : Fld) : (s.bumpFld k f).bist = s.bist := rfl
@[simp] theorem State.bumpFld_cmds (k : Nat) (f : Fld) : (s.bumpFld k f).cmds = s.cmds := rfl
@[simp] theorem State.bumpFld_ends (k : Nat) (f : Fld) : (s.bumpFld k f).ends = s.ends := rfl
@[simp] theorem State.bumpFld_ndir (k : Nat) (f : Fld) : (s.bumpFld k f).ndir = s.ndir := rfl
@[simp] theorem State.bumpFld_cvn (k : Nat) (f : Fld) : (s.bumpFld k f).cvn = s.cvn := rfl
@[simp] theorem State.bumpFld_cvnIds (k : Nat) (f : Fld) : (s.bumpFld k f).cvnIds = s.cvnIds := rfl
@[simp] theorem State.bumpFld_air (k : Nat) (f : Fld) : (s.bumpFld k f).air = s.air := rfl
@[simp] theorem State.bumpFld_qmg (k : Nat) (f : Fld) : (s.bumpFld k f).qmg = s.qmg := rfl
@[simp] theorem State.bumpFld_shp (k : Nat) (f : Fld) : (s.bumpFld k f).shp = s.shp := rfl
@[simp] theorem State.bumpFld_rf (k : Nat) (f : Fld) : (s.bumpFld k f).rf = s.rf := rfl
@[simp] theorem State.bumpFld_rx (k : Nat) (f : Fld) : (s.bumpFld k f).rx = s.rx := rfl
@[simp] theorem State.bumpFld_link (k : Nat) (f : Fld) : (s.bumpFld k f).link = s.link := rfl
@[simp] theorem State.bumpFld_slot (k : Nat) (f : Fld) : (s.bumpFld k f).slot = s.slot := rfl
@[simp] theorem State.bumpFld_key (k : Nat) (f : Fld) : (s.bumpFld k f).key = s.key := rfl
@[simp] theorem State.bumpFld_vault (k : Nat) (f : Fld) : (s.bumpFld k f).vault = s.vault := rfl
@[simp] theorem State.bumpFld_dir (k : Nat) (f : Fld) : (s.bumpFld k f).dir = s.dir := rfl
@[simp] theorem State.bumpFld_lpm (k : Nat) (f : Fld) : (s.bumpFld k f).lpm = s.lpm := rfl
@[simp] theorem State.bumpFld_mesh (k : Nat) (f : Fld) : (s.bumpFld k f).mesh = s.mesh := rfl
@[simp] theorem State.bumpFld_pending (k : Nat) (f : Fld) : (s.bumpFld k f).pending = s.pending := rfl

/-! ### `err` -/

@[simp] theorem State.err_now (k : Nat) (f : Fld) : (s.err k f).now = s.now := rfl
@[simp] theorem State.err_free (k : Nat) (f : Fld) : (s.err k f).free = s.free := rfl
@[simp] theorem State.err_pass (k : Nat) (f : Fld) : (s.err k f).pass = s.pass := rfl
@[simp] theorem State.err_host (k : Nat) (f : Fld) : (s.err k f).host = s.host := rfl
@[simp] theorem State.err_eth (k : Nat) (f : Fld) : (s.err k f).eth = s.eth := rfl
@[simp] theorem State.err_time (k : Nat) (f : Fld) : (s.err k f).time = s.time := rfl
@[simp] theorem State.err_safe (k : Nat) (f : Fld) : (s.err k f).safe = s.safe := rfl
@[simp] theorem State.err_log (k : Nat) (f : Fld) : (s.err k f).log = s.log := rfl
@[simp] theorem State.err_save (k : Nat) (f : Fld) : (s.err k f).save = s.save := rfl
@[simp] theorem State.err_pwr (k : Nat) (f : Fld) : (s.err k f).pwr = s.pwr := rfl
@[simp] theorem State.err_boot (k : Nat) (f : Fld) : (s.err k f).boot = s.boot := rfl
@[simp] theorem State.err_bist (k : Nat) (f : Fld) : (s.err k f).bist = s.bist := rfl
@[simp] theorem State.err_cmds (k : Nat) (f : Fld) : (s.err k f).cmds = s.cmds := rfl
@[simp] theorem State.err_ends (k : Nat) (f : Fld) : (s.err k f).ends = s.ends := rfl
@[simp] theorem State.err_ndir (k : Nat) (f : Fld) : (s.err k f).ndir = s.ndir := rfl
@[simp] theorem State.err_cvn (k : Nat) (f : Fld) : (s.err k f).cvn = s.cvn := rfl
@[simp] theorem State.err_cvnIds (k : Nat) (f : Fld) : (s.err k f).cvnIds = s.cvnIds := rfl
@[simp] theorem State.err_air (k : Nat) (f : Fld) : (s.err k f).air = s.air := rfl
@[simp] theorem State.err_qmg (k : Nat) (f : Fld) : (s.err k f).qmg = s.qmg := rfl
@[simp] theorem State.err_shp (k : Nat) (f : Fld) : (s.err k f).shp = s.shp := rfl
@[simp] theorem State.err_rf (k : Nat) (f : Fld) : (s.err k f).rf = s.rf := rfl
@[simp] theorem State.err_rx (k : Nat) (f : Fld) : (s.err k f).rx = s.rx := rfl
@[simp] theorem State.err_link (k : Nat) (f : Fld) : (s.err k f).link = s.link := rfl
@[simp] theorem State.err_slot (k : Nat) (f : Fld) : (s.err k f).slot = s.slot := rfl
@[simp] theorem State.err_key (k : Nat) (f : Fld) : (s.err k f).key = s.key := rfl
@[simp] theorem State.err_vault (k : Nat) (f : Fld) : (s.err k f).vault = s.vault := rfl
@[simp] theorem State.err_dir (k : Nat) (f : Fld) : (s.err k f).dir = s.dir := rfl
@[simp] theorem State.err_lpm (k : Nat) (f : Fld) : (s.err k f).lpm = s.lpm := rfl
@[simp] theorem State.err_mesh (k : Nat) (f : Fld) : (s.err k f).mesh = s.mesh := rfl
@[simp] theorem State.err_pending (k : Nat) (f : Fld) : (s.err k f).pending = s.pending := rfl

/-! ### `elapse` -/

@[simp] theorem State.elapse_regs (n : Nat) : (s.elapse n).regs = s.regs := rfl
@[simp] theorem State.elapse_free (n : Nat) : (s.elapse n).free = s.free := rfl
@[simp] theorem State.elapse_pass (n : Nat) : (s.elapse n).pass = s.pass := rfl
@[simp] theorem State.elapse_host (n : Nat) : (s.elapse n).host = s.host := rfl
@[simp] theorem State.elapse_eth (n : Nat) : (s.elapse n).eth = s.eth := rfl
@[simp] theorem State.elapse_safe (n : Nat) : (s.elapse n).safe = s.safe := rfl
@[simp] theorem State.elapse_log (n : Nat) : (s.elapse n).log = s.log := rfl
@[simp] theorem State.elapse_save (n : Nat) : (s.elapse n).save = s.save := rfl
@[simp] theorem State.elapse_pwr (n : Nat) : (s.elapse n).pwr = s.pwr := rfl
@[simp] theorem State.elapse_boot (n : Nat) : (s.elapse n).boot = s.boot := rfl
@[simp] theorem State.elapse_bist (n : Nat) : (s.elapse n).bist = s.bist := rfl
@[simp] theorem State.elapse_cmds (n : Nat) : (s.elapse n).cmds = s.cmds := rfl
@[simp] theorem State.elapse_ends (n : Nat) : (s.elapse n).ends = s.ends := rfl
@[simp] theorem State.elapse_ndir (n : Nat) : (s.elapse n).ndir = s.ndir := rfl
@[simp] theorem State.elapse_cvn (n : Nat) : (s.elapse n).cvn = s.cvn := rfl
@[simp] theorem State.elapse_cvnIds (n : Nat) : (s.elapse n).cvnIds = s.cvnIds := rfl
@[simp] theorem State.elapse_air (n : Nat) : (s.elapse n).air = s.air := rfl
@[simp] theorem State.elapse_qmg (n : Nat) : (s.elapse n).qmg = s.qmg := rfl
@[simp] theorem State.elapse_shp (n : Nat) : (s.elapse n).shp = s.shp := rfl
@[simp] theorem State.elapse_rf (n : Nat) : (s.elapse n).rf = s.rf := rfl
@[simp] theorem State.elapse_rx (n : Nat) : (s.elapse n).rx = s.rx := rfl
@[simp] theorem State.elapse_link (n : Nat) : (s.elapse n).link = s.link := rfl
@[simp] theorem State.elapse_slot (n : Nat) : (s.elapse n).slot = s.slot := rfl
@[simp] theorem State.elapse_key (n : Nat) : (s.elapse n).key = s.key := rfl
@[simp] theorem State.elapse_vault (n : Nat) : (s.elapse n).vault = s.vault := rfl
@[simp] theorem State.elapse_dir (n : Nat) : (s.elapse n).dir = s.dir := rfl
@[simp] theorem State.elapse_lpm (n : Nat) : (s.elapse n).lpm = s.lpm := rfl
@[simp] theorem State.elapse_mesh (n : Nat) : (s.elapse n).mesh = s.mesh := rfl
@[simp] theorem State.elapse_pending (n : Nat) : (s.elapse n).pending = s.pending := rfl

/-! ### `advanceTo` -/

@[simp] theorem State.advanceTo_regs (n : Nat) : (s.advanceTo n).regs = s.regs := rfl
@[simp] theorem State.advanceTo_free (n : Nat) : (s.advanceTo n).free = s.free := rfl
@[simp] theorem State.advanceTo_pass (n : Nat) : (s.advanceTo n).pass = s.pass := rfl
@[simp] theorem State.advanceTo_host (n : Nat) : (s.advanceTo n).host = s.host := rfl
@[simp] theorem State.advanceTo_eth (n : Nat) : (s.advanceTo n).eth = s.eth := rfl
@[simp] theorem State.advanceTo_safe (n : Nat) : (s.advanceTo n).safe = s.safe := rfl
@[simp] theorem State.advanceTo_log (n : Nat) : (s.advanceTo n).log = s.log := rfl
@[simp] theorem State.advanceTo_save (n : Nat) : (s.advanceTo n).save = s.save := rfl
@[simp] theorem State.advanceTo_pwr (n : Nat) : (s.advanceTo n).pwr = s.pwr := rfl
@[simp] theorem State.advanceTo_boot (n : Nat) : (s.advanceTo n).boot = s.boot := rfl
@[simp] theorem State.advanceTo_bist (n : Nat) : (s.advanceTo n).bist = s.bist := rfl
@[simp] theorem State.advanceTo_cmds (n : Nat) : (s.advanceTo n).cmds = s.cmds := rfl
@[simp] theorem State.advanceTo_ends (n : Nat) : (s.advanceTo n).ends = s.ends := rfl
@[simp] theorem State.advanceTo_ndir (n : Nat) : (s.advanceTo n).ndir = s.ndir := rfl
@[simp] theorem State.advanceTo_cvn (n : Nat) : (s.advanceTo n).cvn = s.cvn := rfl
@[simp] theorem State.advanceTo_cvnIds (n : Nat) : (s.advanceTo n).cvnIds = s.cvnIds := rfl
@[simp] theorem State.advanceTo_air (n : Nat) : (s.advanceTo n).air = s.air := rfl
@[simp] theorem State.advanceTo_qmg (n : Nat) : (s.advanceTo n).qmg = s.qmg := rfl
@[simp] theorem State.advanceTo_shp (n : Nat) : (s.advanceTo n).shp = s.shp := rfl
@[simp] theorem State.advanceTo_rf (n : Nat) : (s.advanceTo n).rf = s.rf := rfl
@[simp] theorem State.advanceTo_rx (n : Nat) : (s.advanceTo n).rx = s.rx := rfl
@[simp] theorem State.advanceTo_link (n : Nat) : (s.advanceTo n).link = s.link := rfl
@[simp] theorem State.advanceTo_slot (n : Nat) : (s.advanceTo n).slot = s.slot := rfl
@[simp] theorem State.advanceTo_key (n : Nat) : (s.advanceTo n).key = s.key := rfl
@[simp] theorem State.advanceTo_vault (n : Nat) : (s.advanceTo n).vault = s.vault := rfl
@[simp] theorem State.advanceTo_dir (n : Nat) : (s.advanceTo n).dir = s.dir := rfl
@[simp] theorem State.advanceTo_lpm (n : Nat) : (s.advanceTo n).lpm = s.lpm := rfl
@[simp] theorem State.advanceTo_mesh (n : Nat) : (s.advanceTo n).mesh = s.mesh := rfl
@[simp] theorem State.advanceTo_pending (n : Nat) : (s.advanceTo n).pending = s.pending := rfl

/-! ### `memWrite` -/

@[simp] theorem State.memWrite_regs (p a : Nat) (bs : List Byte) : (s.memWrite p a bs).regs = s.regs := rfl
@[simp] theorem State.memWrite_now (p a : Nat) (bs : List Byte) : (s.memWrite p a bs).now = s.now := rfl
@[simp] theorem State.memWrite_free (p a : Nat) (bs : List Byte) : (s.memWrite p a bs).free = s.free := rfl
@[simp] theorem State.memWrite_pass (p a : Nat) (bs : List Byte) : (s.memWrite p a bs).pass = s.pass := rfl
@[simp] theorem State.memWrite_eth (p a : Nat) (bs : List Byte) : (s.memWrite p a bs).eth = s.eth := rfl
@[simp] theorem State.memWrite_time (p a : Nat) (bs : List Byte) : (s.memWrite p a bs).time = s.time := rfl
@[simp] theorem State.memWrite_safe (p a : Nat) (bs : List Byte) : (s.memWrite p a bs).safe = s.safe := rfl
@[simp] theorem State.memWrite_log (p a : Nat) (bs : List Byte) : (s.memWrite p a bs).log = s.log := rfl
@[simp] theorem State.memWrite_save (p a : Nat) (bs : List Byte) : (s.memWrite p a bs).save = s.save := rfl
@[simp] theorem State.memWrite_pwr (p a : Nat) (bs : List Byte) : (s.memWrite p a bs).pwr = s.pwr := rfl
@[simp] theorem State.memWrite_boot (p a : Nat) (bs : List Byte) : (s.memWrite p a bs).boot = s.boot := rfl
@[simp] theorem State.memWrite_bist (p a : Nat) (bs : List Byte) : (s.memWrite p a bs).bist = s.bist := rfl
@[simp] theorem State.memWrite_cmds (p a : Nat) (bs : List Byte) : (s.memWrite p a bs).cmds = s.cmds := rfl
@[simp] theorem State.memWrite_ends (p a : Nat) (bs : List Byte) : (s.memWrite p a bs).ends = s.ends := rfl
@[simp] theorem State.memWrite_ndir (p a : Nat) (bs : List Byte) : (s.memWrite p a bs).ndir = s.ndir := rfl
@[simp] theorem State.memWrite_cvn (p a : Nat) (bs : List Byte) : (s.memWrite p a bs).cvn = s.cvn := rfl
@[simp] theorem State.memWrite_cvnIds (p a : Nat) (bs : List Byte) : (s.memWrite p a bs).cvnIds = s.cvnIds := rfl
@[simp] theorem State.memWrite_air (p a : Nat) (bs : List Byte) : (s.memWrite p a bs).air = s.air := rfl
@[simp] theorem State.memWrite_qmg (p a : Nat) (bs : List Byte) : (s.memWrite p a bs).qmg = s.qmg := rfl
@[simp] theorem State.memWrite_shp (p a : Nat) (bs : List Byte) : (s.memWrite p a bs).shp = s.shp := rfl
@[simp] theorem State.memWrite_rf (p a : Nat) (bs : List Byte) : (s.memWrite p a bs).rf = s.rf := rfl
@[simp] theorem State.memWrite_rx (p a : Nat) (bs : List Byte) : (s.memWrite p a bs).rx = s.rx := rfl
@[simp] theorem State.memWrite_link (p a : Nat) (bs : List Byte) : (s.memWrite p a bs).link = s.link := rfl
@[simp] theorem State.memWrite_slot (p a : Nat) (bs : List Byte) : (s.memWrite p a bs).slot = s.slot := rfl
@[simp] theorem State.memWrite_key (p a : Nat) (bs : List Byte) : (s.memWrite p a bs).key = s.key := rfl
@[simp] theorem State.memWrite_vault (p a : Nat) (bs : List Byte) : (s.memWrite p a bs).vault = s.vault := rfl
@[simp] theorem State.memWrite_dir (p a : Nat) (bs : List Byte) : (s.memWrite p a bs).dir = s.dir := rfl
@[simp] theorem State.memWrite_lpm (p a : Nat) (bs : List Byte) : (s.memWrite p a bs).lpm = s.lpm := rfl
@[simp] theorem State.memWrite_mesh (p a : Nat) (bs : List Byte) : (s.memWrite p a bs).mesh = s.mesh := rfl
@[simp] theorem State.memWrite_pending (p a : Nat) (bs : List Byte) : (s.memWrite p a bs).pending = s.pending := rfl

/-! ### `answer` -/

@[simp] theorem State.answer_regs (p : Nat) (w : Word) : (s.answer p w).regs = s.regs := rfl
@[simp] theorem State.answer_now (p : Nat) (w : Word) : (s.answer p w).now = s.now := rfl
@[simp] theorem State.answer_free (p : Nat) (w : Word) : (s.answer p w).free = s.free := rfl
@[simp] theorem State.answer_pass (p : Nat) (w : Word) : (s.answer p w).pass = s.pass := rfl
@[simp] theorem State.answer_eth (p : Nat) (w : Word) : (s.answer p w).eth = s.eth := rfl
@[simp] theorem State.answer_time (p : Nat) (w : Word) : (s.answer p w).time = s.time := rfl
@[simp] theorem State.answer_safe (p : Nat) (w : Word) : (s.answer p w).safe = s.safe := rfl
@[simp] theorem State.answer_log (p : Nat) (w : Word) : (s.answer p w).log = s.log := rfl
@[simp] theorem State.answer_save (p : Nat) (w : Word) : (s.answer p w).save = s.save := rfl
@[simp] theorem State.answer_pwr (p : Nat) (w : Word) : (s.answer p w).pwr = s.pwr := rfl
@[simp] theorem State.answer_boot (p : Nat) (w : Word) : (s.answer p w).boot = s.boot := rfl
@[simp] theorem State.answer_bist (p : Nat) (w : Word) : (s.answer p w).bist = s.bist := rfl
@[simp] theorem State.answer_cmds (p : Nat) (w : Word) : (s.answer p w).cmds = s.cmds := rfl
@[simp] theorem State.answer_ends (p : Nat) (w : Word) : (s.answer p w).ends = s.ends := rfl
@[simp] theorem State.answer_ndir (p : Nat) (w : Word) : (s.answer p w).ndir = s.ndir := rfl
@[simp] theorem State.answer_cvn (p : Nat) (w : Word) : (s.answer p w).cvn = s.cvn := rfl
@[simp] theorem State.answer_cvnIds (p : Nat) (w : Word) : (s.answer p w).cvnIds = s.cvnIds := rfl
@[simp] theorem State.answer_air (p : Nat) (w : Word) : (s.answer p w).air = s.air := rfl
@[simp] theorem State.answer_qmg (p : Nat) (w : Word) : (s.answer p w).qmg = s.qmg := rfl
@[simp] theorem State.answer_shp (p : Nat) (w : Word) : (s.answer p w).shp = s.shp := rfl
@[simp] theorem State.answer_rf (p : Nat) (w : Word) : (s.answer p w).rf = s.rf := rfl
@[simp] theorem State.answer_rx (p : Nat) (w : Word) : (s.answer p w).rx = s.rx := rfl
@[simp] theorem State.answer_link (p : Nat) (w : Word) : (s.answer p w).link = s.link := rfl
@[simp] theorem State.answer_slot (p : Nat) (w : Word) : (s.answer p w).slot = s.slot := rfl
@[simp] theorem State.answer_key (p : Nat) (w : Word) : (s.answer p w).key = s.key := rfl
@[simp] theorem State.answer_vault (p : Nat) (w : Word) : (s.answer p w).vault = s.vault := rfl
@[simp] theorem State.answer_dir (p : Nat) (w : Word) : (s.answer p w).dir = s.dir := rfl
@[simp] theorem State.answer_lpm (p : Nat) (w : Word) : (s.answer p w).lpm = s.lpm := rfl
@[simp] theorem State.answer_mesh (p : Nat) (w : Word) : (s.answer p w).mesh = s.mesh := rfl
@[simp] theorem State.answer_pending (p : Nat) (w : Word) : (s.answer p w).pending = s.pending := rfl

/-! ### `setTxDir` -/

@[simp] theorem State.setTxDir_regs (d : Die) (x : PassDir) : (s.setTxDir d x).regs = s.regs := by cases d <;> rfl
@[simp] theorem State.setTxDir_now (d : Die) (x : PassDir) : (s.setTxDir d x).now = s.now := by cases d <;> rfl
@[simp] theorem State.setTxDir_free (d : Die) (x : PassDir) : (s.setTxDir d x).free = s.free := by cases d <;> rfl
@[simp] theorem State.setTxDir_host (d : Die) (x : PassDir) : (s.setTxDir d x).host = s.host := by cases d <;> rfl
@[simp] theorem State.setTxDir_eth (d : Die) (x : PassDir) : (s.setTxDir d x).eth = s.eth := by cases d <;> rfl
@[simp] theorem State.setTxDir_time (d : Die) (x : PassDir) : (s.setTxDir d x).time = s.time := by cases d <;> rfl
@[simp] theorem State.setTxDir_safe (d : Die) (x : PassDir) : (s.setTxDir d x).safe = s.safe := by cases d <;> rfl
@[simp] theorem State.setTxDir_log (d : Die) (x : PassDir) : (s.setTxDir d x).log = s.log := by cases d <;> rfl
@[simp] theorem State.setTxDir_save (d : Die) (x : PassDir) : (s.setTxDir d x).save = s.save := by cases d <;> rfl
@[simp] theorem State.setTxDir_pwr (d : Die) (x : PassDir) : (s.setTxDir d x).pwr = s.pwr := by cases d <;> rfl
@[simp] theorem State.setTxDir_boot (d : Die) (x : PassDir) : (s.setTxDir d x).boot = s.boot := by cases d <;> rfl
@[simp] theorem State.setTxDir_bist (d : Die) (x : PassDir) : (s.setTxDir d x).bist = s.bist := by cases d <;> rfl
@[simp] theorem State.setTxDir_cmds (d : Die) (x : PassDir) : (s.setTxDir d x).cmds = s.cmds := by cases d <;> rfl
@[simp] theorem State.setTxDir_ends (d : Die) (x : PassDir) : (s.setTxDir d x).ends = s.ends := by cases d <;> rfl
@[simp] theorem State.setTxDir_ndir (d : Die) (x : PassDir) : (s.setTxDir d x).ndir = s.ndir := by cases d <;> rfl
@[simp] theorem State.setTxDir_cvn (d : Die) (x : PassDir) : (s.setTxDir d x).cvn = s.cvn := by cases d <;> rfl
@[simp] theorem State.setTxDir_cvnIds (d : Die) (x : PassDir) : (s.setTxDir d x).cvnIds = s.cvnIds := by cases d <;> rfl
@[simp] theorem State.setTxDir_air (d : Die) (x : PassDir) : (s.setTxDir d x).air = s.air := by cases d <;> rfl
@[simp] theorem State.setTxDir_qmg (d : Die) (x : PassDir) : (s.setTxDir d x).qmg = s.qmg := by cases d <;> rfl
@[simp] theorem State.setTxDir_shp (d : Die) (x : PassDir) : (s.setTxDir d x).shp = s.shp := by cases d <;> rfl
@[simp] theorem State.setTxDir_rf (d : Die) (x : PassDir) : (s.setTxDir d x).rf = s.rf := by cases d <;> rfl
@[simp] theorem State.setTxDir_rx (d : Die) (x : PassDir) : (s.setTxDir d x).rx = s.rx := by cases d <;> rfl
@[simp] theorem State.setTxDir_link (d : Die) (x : PassDir) : (s.setTxDir d x).link = s.link := by cases d <;> rfl
@[simp] theorem State.setTxDir_slot (d : Die) (x : PassDir) : (s.setTxDir d x).slot = s.slot := by cases d <;> rfl
@[simp] theorem State.setTxDir_key (d : Die) (x : PassDir) : (s.setTxDir d x).key = s.key := by cases d <;> rfl
@[simp] theorem State.setTxDir_vault (d : Die) (x : PassDir) : (s.setTxDir d x).vault = s.vault := by cases d <;> rfl
@[simp] theorem State.setTxDir_dir (d : Die) (x : PassDir) : (s.setTxDir d x).dir = s.dir := by cases d <;> rfl
@[simp] theorem State.setTxDir_lpm (d : Die) (x : PassDir) : (s.setTxDir d x).lpm = s.lpm := by cases d <;> rfl
@[simp] theorem State.setTxDir_mesh (d : Die) (x : PassDir) : (s.setTxDir d x).mesh = s.mesh := by cases d <;> rfl
@[simp] theorem State.setTxDir_pending (d : Die) (x : PassDir) : (s.setTxDir d x).pending = s.pending := by cases d <;> rfl

/-! ### `setRxDir` -/

@[simp] theorem State.setRxDir_regs (d : Die) (x : PassDir) : (s.setRxDir d x).regs = s.regs := by cases d <;> rfl
@[simp] theorem State.setRxDir_now (d : Die) (x : PassDir) : (s.setRxDir d x).now = s.now := by cases d <;> rfl
@[simp] theorem State.setRxDir_free (d : Die) (x : PassDir) : (s.setRxDir d x).free = s.free := by cases d <;> rfl
@[simp] theorem State.setRxDir_host (d : Die) (x : PassDir) : (s.setRxDir d x).host = s.host := by cases d <;> rfl
@[simp] theorem State.setRxDir_eth (d : Die) (x : PassDir) : (s.setRxDir d x).eth = s.eth := by cases d <;> rfl
@[simp] theorem State.setRxDir_time (d : Die) (x : PassDir) : (s.setRxDir d x).time = s.time := by cases d <;> rfl
@[simp] theorem State.setRxDir_safe (d : Die) (x : PassDir) : (s.setRxDir d x).safe = s.safe := by cases d <;> rfl
@[simp] theorem State.setRxDir_log (d : Die) (x : PassDir) : (s.setRxDir d x).log = s.log := by cases d <;> rfl
@[simp] theorem State.setRxDir_save (d : Die) (x : PassDir) : (s.setRxDir d x).save = s.save := by cases d <;> rfl
@[simp] theorem State.setRxDir_pwr (d : Die) (x : PassDir) : (s.setRxDir d x).pwr = s.pwr := by cases d <;> rfl
@[simp] theorem State.setRxDir_boot (d : Die) (x : PassDir) : (s.setRxDir d x).boot = s.boot := by cases d <;> rfl
@[simp] theorem State.setRxDir_bist (d : Die) (x : PassDir) : (s.setRxDir d x).bist = s.bist := by cases d <;> rfl
@[simp] theorem State.setRxDir_cmds (d : Die) (x : PassDir) : (s.setRxDir d x).cmds = s.cmds := by cases d <;> rfl
@[simp] theorem State.setRxDir_ends (d : Die) (x : PassDir) : (s.setRxDir d x).ends = s.ends := by cases d <;> rfl
@[simp] theorem State.setRxDir_ndir (d : Die) (x : PassDir) : (s.setRxDir d x).ndir = s.ndir := by cases d <;> rfl
@[simp] theorem State.setRxDir_cvn (d : Die) (x : PassDir) : (s.setRxDir d x).cvn = s.cvn := by cases d <;> rfl
@[simp] theorem State.setRxDir_cvnIds (d : Die) (x : PassDir) : (s.setRxDir d x).cvnIds = s.cvnIds := by cases d <;> rfl
@[simp] theorem State.setRxDir_air (d : Die) (x : PassDir) : (s.setRxDir d x).air = s.air := by cases d <;> rfl
@[simp] theorem State.setRxDir_qmg (d : Die) (x : PassDir) : (s.setRxDir d x).qmg = s.qmg := by cases d <;> rfl
@[simp] theorem State.setRxDir_shp (d : Die) (x : PassDir) : (s.setRxDir d x).shp = s.shp := by cases d <;> rfl
@[simp] theorem State.setRxDir_rf (d : Die) (x : PassDir) : (s.setRxDir d x).rf = s.rf := by cases d <;> rfl
@[simp] theorem State.setRxDir_rx (d : Die) (x : PassDir) : (s.setRxDir d x).rx = s.rx := by cases d <;> rfl
@[simp] theorem State.setRxDir_link (d : Die) (x : PassDir) : (s.setRxDir d x).link = s.link := by cases d <;> rfl
@[simp] theorem State.setRxDir_slot (d : Die) (x : PassDir) : (s.setRxDir d x).slot = s.slot := by cases d <;> rfl
@[simp] theorem State.setRxDir_key (d : Die) (x : PassDir) : (s.setRxDir d x).key = s.key := by cases d <;> rfl
@[simp] theorem State.setRxDir_vault (d : Die) (x : PassDir) : (s.setRxDir d x).vault = s.vault := by cases d <;> rfl
@[simp] theorem State.setRxDir_dir (d : Die) (x : PassDir) : (s.setRxDir d x).dir = s.dir := by cases d <;> rfl
@[simp] theorem State.setRxDir_lpm (d : Die) (x : PassDir) : (s.setRxDir d x).lpm = s.lpm := by cases d <;> rfl
@[simp] theorem State.setRxDir_mesh (d : Die) (x : PassDir) : (s.setRxDir d x).mesh = s.mesh := by cases d <;> rfl
@[simp] theorem State.setRxDir_pending (d : Die) (x : PassDir) : (s.setRxDir d x).pending = s.pending := by cases d <;> rfl

/-! ### `passSend` -/

@[simp] theorem State.passSend_regs (d : Die) (typ part : Nat) (g : Bool) (len : Nat) (ws : List Word) : (s.passSend d typ part g len ws).regs = s.regs := by cases d <;> rfl
@[simp] theorem State.passSend_now (d : Die) (typ part : Nat) (g : Bool) (len : Nat) (ws : List Word) : (s.passSend d typ part g len ws).now = s.now := by cases d <;> rfl
@[simp] theorem State.passSend_free (d : Die) (typ part : Nat) (g : Bool) (len : Nat) (ws : List Word) : (s.passSend d typ part g len ws).free = s.free := by cases d <;> rfl
@[simp] theorem State.passSend_host (d : Die) (typ part : Nat) (g : Bool) (len : Nat) (ws : List Word) : (s.passSend d typ part g len ws).host = s.host := by cases d <;> rfl
@[simp] theorem State.passSend_eth (d : Die) (typ part : Nat) (g : Bool) (len : Nat) (ws : List Word) : (s.passSend d typ part g len ws).eth = s.eth := by cases d <;> rfl
@[simp] theorem State.passSend_time (d : Die) (typ part : Nat) (g : Bool) (len : Nat) (ws : List Word) : (s.passSend d typ part g len ws).time = s.time := by cases d <;> rfl
@[simp] theorem State.passSend_safe (d : Die) (typ part : Nat) (g : Bool) (len : Nat) (ws : List Word) : (s.passSend d typ part g len ws).safe = s.safe := by cases d <;> rfl
@[simp] theorem State.passSend_log (d : Die) (typ part : Nat) (g : Bool) (len : Nat) (ws : List Word) : (s.passSend d typ part g len ws).log = s.log := by cases d <;> rfl
@[simp] theorem State.passSend_save (d : Die) (typ part : Nat) (g : Bool) (len : Nat) (ws : List Word) : (s.passSend d typ part g len ws).save = s.save := by cases d <;> rfl
@[simp] theorem State.passSend_pwr (d : Die) (typ part : Nat) (g : Bool) (len : Nat) (ws : List Word) : (s.passSend d typ part g len ws).pwr = s.pwr := by cases d <;> rfl
@[simp] theorem State.passSend_boot (d : Die) (typ part : Nat) (g : Bool) (len : Nat) (ws : List Word) : (s.passSend d typ part g len ws).boot = s.boot := by cases d <;> rfl
@[simp] theorem State.passSend_bist (d : Die) (typ part : Nat) (g : Bool) (len : Nat) (ws : List Word) : (s.passSend d typ part g len ws).bist = s.bist := by cases d <;> rfl
@[simp] theorem State.passSend_cmds (d : Die) (typ part : Nat) (g : Bool) (len : Nat) (ws : List Word) : (s.passSend d typ part g len ws).cmds = s.cmds := by cases d <;> rfl
@[simp] theorem State.passSend_ends (d : Die) (typ part : Nat) (g : Bool) (len : Nat) (ws : List Word) : (s.passSend d typ part g len ws).ends = s.ends := by cases d <;> rfl
@[simp] theorem State.passSend_ndir (d : Die) (typ part : Nat) (g : Bool) (len : Nat) (ws : List Word) : (s.passSend d typ part g len ws).ndir = s.ndir := by cases d <;> rfl
@[simp] theorem State.passSend_cvn (d : Die) (typ part : Nat) (g : Bool) (len : Nat) (ws : List Word) : (s.passSend d typ part g len ws).cvn = s.cvn := by cases d <;> rfl
@[simp] theorem State.passSend_cvnIds (d : Die) (typ part : Nat) (g : Bool) (len : Nat) (ws : List Word) : (s.passSend d typ part g len ws).cvnIds = s.cvnIds := by cases d <;> rfl
@[simp] theorem State.passSend_air (d : Die) (typ part : Nat) (g : Bool) (len : Nat) (ws : List Word) : (s.passSend d typ part g len ws).air = s.air := by cases d <;> rfl
@[simp] theorem State.passSend_qmg (d : Die) (typ part : Nat) (g : Bool) (len : Nat) (ws : List Word) : (s.passSend d typ part g len ws).qmg = s.qmg := by cases d <;> rfl
@[simp] theorem State.passSend_shp (d : Die) (typ part : Nat) (g : Bool) (len : Nat) (ws : List Word) : (s.passSend d typ part g len ws).shp = s.shp := by cases d <;> rfl
@[simp] theorem State.passSend_rf (d : Die) (typ part : Nat) (g : Bool) (len : Nat) (ws : List Word) : (s.passSend d typ part g len ws).rf = s.rf := by cases d <;> rfl
@[simp] theorem State.passSend_rx (d : Die) (typ part : Nat) (g : Bool) (len : Nat) (ws : List Word) : (s.passSend d typ part g len ws).rx = s.rx := by cases d <;> rfl
@[simp] theorem State.passSend_link (d : Die) (typ part : Nat) (g : Bool) (len : Nat) (ws : List Word) : (s.passSend d typ part g len ws).link = s.link := by cases d <;> rfl
@[simp] theorem State.passSend_slot (d : Die) (typ part : Nat) (g : Bool) (len : Nat) (ws : List Word) : (s.passSend d typ part g len ws).slot = s.slot := by cases d <;> rfl
@[simp] theorem State.passSend_key (d : Die) (typ part : Nat) (g : Bool) (len : Nat) (ws : List Word) : (s.passSend d typ part g len ws).key = s.key := by cases d <;> rfl
@[simp] theorem State.passSend_vault (d : Die) (typ part : Nat) (g : Bool) (len : Nat) (ws : List Word) : (s.passSend d typ part g len ws).vault = s.vault := by cases d <;> rfl
@[simp] theorem State.passSend_dir (d : Die) (typ part : Nat) (g : Bool) (len : Nat) (ws : List Word) : (s.passSend d typ part g len ws).dir = s.dir := by cases d <;> rfl
@[simp] theorem State.passSend_lpm (d : Die) (typ part : Nat) (g : Bool) (len : Nat) (ws : List Word) : (s.passSend d typ part g len ws).lpm = s.lpm := by cases d <;> rfl
@[simp] theorem State.passSend_mesh (d : Die) (typ part : Nat) (g : Bool) (len : Nat) (ws : List Word) : (s.passSend d typ part g len ws).mesh = s.mesh := by cases d <;> rfl
@[simp] theorem State.passSend_pending (d : Die) (typ part : Nat) (g : Bool) (len : Nat) (ws : List Word) : (s.passSend d typ part g len ws).pending = s.pending := by cases d <;> rfl

/-! ### `passAck` -/

@[simp] theorem State.passAck_regs (d : Die) (a : Word) : (s.passAck d a).regs = s.regs := by cases d <;> rfl
@[simp] theorem State.passAck_now (d : Die) (a : Word) : (s.passAck d a).now = s.now := by cases d <;> rfl
@[simp] theorem State.passAck_free (d : Die) (a : Word) : (s.passAck d a).free = s.free := by cases d <;> rfl
@[simp] theorem State.passAck_host (d : Die) (a : Word) : (s.passAck d a).host = s.host := by cases d <;> rfl
@[simp] theorem State.passAck_eth (d : Die) (a : Word) : (s.passAck d a).eth = s.eth := by cases d <;> rfl
@[simp] theorem State.passAck_time (d : Die) (a : Word) : (s.passAck d a).time = s.time := by cases d <;> rfl
@[simp] theorem State.passAck_safe (d : Die) (a : Word) : (s.passAck d a).safe = s.safe := by cases d <;> rfl
@[simp] theorem State.passAck_log (d : Die) (a : Word) : (s.passAck d a).log = s.log := by cases d <;> rfl
@[simp] theorem State.passAck_save (d : Die) (a : Word) : (s.passAck d a).save = s.save := by cases d <;> rfl
@[simp] theorem State.passAck_pwr (d : Die) (a : Word) : (s.passAck d a).pwr = s.pwr := by cases d <;> rfl
@[simp] theorem State.passAck_boot (d : Die) (a : Word) : (s.passAck d a).boot = s.boot := by cases d <;> rfl
@[simp] theorem State.passAck_bist (d : Die) (a : Word) : (s.passAck d a).bist = s.bist := by cases d <;> rfl
@[simp] theorem State.passAck_cmds (d : Die) (a : Word) : (s.passAck d a).cmds = s.cmds := by cases d <;> rfl
@[simp] theorem State.passAck_ends (d : Die) (a : Word) : (s.passAck d a).ends = s.ends := by cases d <;> rfl
@[simp] theorem State.passAck_ndir (d : Die) (a : Word) : (s.passAck d a).ndir = s.ndir := by cases d <;> rfl
@[simp] theorem State.passAck_cvn (d : Die) (a : Word) : (s.passAck d a).cvn = s.cvn := by cases d <;> rfl
@[simp] theorem State.passAck_cvnIds (d : Die) (a : Word) : (s.passAck d a).cvnIds = s.cvnIds := by cases d <;> rfl
@[simp] theorem State.passAck_air (d : Die) (a : Word) : (s.passAck d a).air = s.air := by cases d <;> rfl
@[simp] theorem State.passAck_qmg (d : Die) (a : Word) : (s.passAck d a).qmg = s.qmg := by cases d <;> rfl
@[simp] theorem State.passAck_shp (d : Die) (a : Word) : (s.passAck d a).shp = s.shp := by cases d <;> rfl
@[simp] theorem State.passAck_rf (d : Die) (a : Word) : (s.passAck d a).rf = s.rf := by cases d <;> rfl
@[simp] theorem State.passAck_rx (d : Die) (a : Word) : (s.passAck d a).rx = s.rx := by cases d <;> rfl
@[simp] theorem State.passAck_link (d : Die) (a : Word) : (s.passAck d a).link = s.link := by cases d <;> rfl
@[simp] theorem State.passAck_slot (d : Die) (a : Word) : (s.passAck d a).slot = s.slot := by cases d <;> rfl
@[simp] theorem State.passAck_key (d : Die) (a : Word) : (s.passAck d a).key = s.key := by cases d <;> rfl
@[simp] theorem State.passAck_vault (d : Die) (a : Word) : (s.passAck d a).vault = s.vault := by cases d <;> rfl
@[simp] theorem State.passAck_dir (d : Die) (a : Word) : (s.passAck d a).dir = s.dir := by cases d <;> rfl
@[simp] theorem State.passAck_lpm (d : Die) (a : Word) : (s.passAck d a).lpm = s.lpm := by cases d <;> rfl
@[simp] theorem State.passAck_mesh (d : Die) (a : Word) : (s.passAck d a).mesh = s.mesh := by cases d <;> rfl
@[simp] theorem State.passAck_pending (d : Die) (a : Word) : (s.passAck d a).pending = s.pending := by cases d <;> rfl

/-! ### `setTimer` -/

@[simp] theorem State.setTimer_regs (t : Nat) (x : TimerSt) : (s.setTimer t x).regs = s.regs := rfl
@[simp] theorem State.setTimer_now (t : Nat) (x : TimerSt) : (s.setTimer t x).now = s.now := rfl
@[simp] theorem State.setTimer_free (t : Nat) (x : TimerSt) : (s.setTimer t x).free = s.free := rfl
@[simp] theorem State.setTimer_pass (t : Nat) (x : TimerSt) : (s.setTimer t x).pass = s.pass := rfl
@[simp] theorem State.setTimer_host (t : Nat) (x : TimerSt) : (s.setTimer t x).host = s.host := rfl
@[simp] theorem State.setTimer_eth (t : Nat) (x : TimerSt) : (s.setTimer t x).eth = s.eth := rfl
@[simp] theorem State.setTimer_safe (t : Nat) (x : TimerSt) : (s.setTimer t x).safe = s.safe := rfl
@[simp] theorem State.setTimer_log (t : Nat) (x : TimerSt) : (s.setTimer t x).log = s.log := rfl
@[simp] theorem State.setTimer_save (t : Nat) (x : TimerSt) : (s.setTimer t x).save = s.save := rfl
@[simp] theorem State.setTimer_pwr (t : Nat) (x : TimerSt) : (s.setTimer t x).pwr = s.pwr := rfl
@[simp] theorem State.setTimer_boot (t : Nat) (x : TimerSt) : (s.setTimer t x).boot = s.boot := rfl
@[simp] theorem State.setTimer_bist (t : Nat) (x : TimerSt) : (s.setTimer t x).bist = s.bist := rfl
@[simp] theorem State.setTimer_cmds (t : Nat) (x : TimerSt) : (s.setTimer t x).cmds = s.cmds := rfl
@[simp] theorem State.setTimer_ends (t : Nat) (x : TimerSt) : (s.setTimer t x).ends = s.ends := rfl
@[simp] theorem State.setTimer_ndir (t : Nat) (x : TimerSt) : (s.setTimer t x).ndir = s.ndir := rfl
@[simp] theorem State.setTimer_cvn (t : Nat) (x : TimerSt) : (s.setTimer t x).cvn = s.cvn := rfl
@[simp] theorem State.setTimer_cvnIds (t : Nat) (x : TimerSt) : (s.setTimer t x).cvnIds = s.cvnIds := rfl
@[simp] theorem State.setTimer_air (t : Nat) (x : TimerSt) : (s.setTimer t x).air = s.air := rfl
@[simp] theorem State.setTimer_qmg (t : Nat) (x : TimerSt) : (s.setTimer t x).qmg = s.qmg := rfl
@[simp] theorem State.setTimer_shp (t : Nat) (x : TimerSt) : (s.setTimer t x).shp = s.shp := rfl
@[simp] theorem State.setTimer_rf (t : Nat) (x : TimerSt) : (s.setTimer t x).rf = s.rf := rfl
@[simp] theorem State.setTimer_rx (t : Nat) (x : TimerSt) : (s.setTimer t x).rx = s.rx := rfl
@[simp] theorem State.setTimer_link (t : Nat) (x : TimerSt) : (s.setTimer t x).link = s.link := rfl
@[simp] theorem State.setTimer_slot (t : Nat) (x : TimerSt) : (s.setTimer t x).slot = s.slot := rfl
@[simp] theorem State.setTimer_key (t : Nat) (x : TimerSt) : (s.setTimer t x).key = s.key := rfl
@[simp] theorem State.setTimer_vault (t : Nat) (x : TimerSt) : (s.setTimer t x).vault = s.vault := rfl
@[simp] theorem State.setTimer_dir (t : Nat) (x : TimerSt) : (s.setTimer t x).dir = s.dir := rfl
@[simp] theorem State.setTimer_lpm (t : Nat) (x : TimerSt) : (s.setTimer t x).lpm = s.lpm := rfl
@[simp] theorem State.setTimer_mesh (t : Nat) (x : TimerSt) : (s.setTimer t x).mesh = s.mesh := rfl
@[simp] theorem State.setTimer_pending (t : Nat) (x : TimerSt) : (s.setTimer t x).pending = s.pending := rfl

/-! ### `setQueue` -/

@[simp] theorem State.setQueue_regs (q : Nat) (x : Queue) : (s.setQueue q x).regs = s.regs := rfl
@[simp] theorem State.setQueue_now (q : Nat) (x : Queue) : (s.setQueue q x).now = s.now := rfl
@[simp] theorem State.setQueue_free (q : Nat) (x : Queue) : (s.setQueue q x).free = s.free := rfl
@[simp] theorem State.setQueue_pass (q : Nat) (x : Queue) : (s.setQueue q x).pass = s.pass := rfl
@[simp] theorem State.setQueue_host (q : Nat) (x : Queue) : (s.setQueue q x).host = s.host := rfl
@[simp] theorem State.setQueue_eth (q : Nat) (x : Queue) : (s.setQueue q x).eth = s.eth := rfl
@[simp] theorem State.setQueue_time (q : Nat) (x : Queue) : (s.setQueue q x).time = s.time := rfl
@[simp] theorem State.setQueue_safe (q : Nat) (x : Queue) : (s.setQueue q x).safe = s.safe := rfl
@[simp] theorem State.setQueue_log (q : Nat) (x : Queue) : (s.setQueue q x).log = s.log := rfl
@[simp] theorem State.setQueue_save (q : Nat) (x : Queue) : (s.setQueue q x).save = s.save := rfl
@[simp] theorem State.setQueue_pwr (q : Nat) (x : Queue) : (s.setQueue q x).pwr = s.pwr := rfl
@[simp] theorem State.setQueue_boot (q : Nat) (x : Queue) : (s.setQueue q x).boot = s.boot := rfl
@[simp] theorem State.setQueue_bist (q : Nat) (x : Queue) : (s.setQueue q x).bist = s.bist := rfl
@[simp] theorem State.setQueue_cmds (q : Nat) (x : Queue) : (s.setQueue q x).cmds = s.cmds := rfl
@[simp] theorem State.setQueue_ends (q : Nat) (x : Queue) : (s.setQueue q x).ends = s.ends := rfl
@[simp] theorem State.setQueue_ndir (q : Nat) (x : Queue) : (s.setQueue q x).ndir = s.ndir := rfl
@[simp] theorem State.setQueue_cvn (q : Nat) (x : Queue) : (s.setQueue q x).cvn = s.cvn := rfl
@[simp] theorem State.setQueue_cvnIds (q : Nat) (x : Queue) : (s.setQueue q x).cvnIds = s.cvnIds := rfl
@[simp] theorem State.setQueue_air (q : Nat) (x : Queue) : (s.setQueue q x).air = s.air := rfl
@[simp] theorem State.setQueue_shp (q : Nat) (x : Queue) : (s.setQueue q x).shp = s.shp := rfl
@[simp] theorem State.setQueue_rf (q : Nat) (x : Queue) : (s.setQueue q x).rf = s.rf := rfl
@[simp] theorem State.setQueue_rx (q : Nat) (x : Queue) : (s.setQueue q x).rx = s.rx := rfl
@[simp] theorem State.setQueue_link (q : Nat) (x : Queue) : (s.setQueue q x).link = s.link := rfl
@[simp] theorem State.setQueue_slot (q : Nat) (x : Queue) : (s.setQueue q x).slot = s.slot := rfl
@[simp] theorem State.setQueue_key (q : Nat) (x : Queue) : (s.setQueue q x).key = s.key := rfl
@[simp] theorem State.setQueue_vault (q : Nat) (x : Queue) : (s.setQueue q x).vault = s.vault := rfl
@[simp] theorem State.setQueue_dir (q : Nat) (x : Queue) : (s.setQueue q x).dir = s.dir := rfl
@[simp] theorem State.setQueue_lpm (q : Nat) (x : Queue) : (s.setQueue q x).lpm = s.lpm := rfl
@[simp] theorem State.setQueue_mesh (q : Nat) (x : Queue) : (s.setQueue q x).mesh = s.mesh := rfl
@[simp] theorem State.setQueue_pending (q : Nat) (x : Queue) : (s.setQueue q x).pending = s.pending := rfl

/-! ### `evtF` -/

@[simp] theorem State.evtF_regs (src mask : Nat) (a b c : Word) : (s.evtF src mask a b c).regs = s.regs := rfl
@[simp] theorem State.evtF_now (src mask : Nat) (a b c : Word) : (s.evtF src mask a b c).now = s.now := rfl
@[simp] theorem State.evtF_free (src mask : Nat) (a b c : Word) : (s.evtF src mask a b c).free = s.free := rfl
@[simp] theorem State.evtF_host (src mask : Nat) (a b c : Word) : (s.evtF src mask a b c).host = s.host := rfl
@[simp] theorem State.evtF_eth (src mask : Nat) (a b c : Word) : (s.evtF src mask a b c).eth = s.eth := rfl
@[simp] theorem State.evtF_time (src mask : Nat) (a b c : Word) : (s.evtF src mask a b c).time = s.time := rfl
@[simp] theorem State.evtF_safe (src mask : Nat) (a b c : Word) : (s.evtF src mask a b c).safe = s.safe := rfl
@[simp] theorem State.evtF_log (src mask : Nat) (a b c : Word) : (s.evtF src mask a b c).log = s.log := rfl
@[simp] theorem State.evtF_save (src mask : Nat) (a b c : Word) : (s.evtF src mask a b c).save = s.save := rfl
@[simp] theorem State.evtF_pwr (src mask : Nat) (a b c : Word) : (s.evtF src mask a b c).pwr = s.pwr := rfl
@[simp] theorem State.evtF_boot (src mask : Nat) (a b c : Word) : (s.evtF src mask a b c).boot = s.boot := rfl
@[simp] theorem State.evtF_bist (src mask : Nat) (a b c : Word) : (s.evtF src mask a b c).bist = s.bist := rfl
@[simp] theorem State.evtF_cmds (src mask : Nat) (a b c : Word) : (s.evtF src mask a b c).cmds = s.cmds := rfl
@[simp] theorem State.evtF_ends (src mask : Nat) (a b c : Word) : (s.evtF src mask a b c).ends = s.ends := rfl
@[simp] theorem State.evtF_ndir (src mask : Nat) (a b c : Word) : (s.evtF src mask a b c).ndir = s.ndir := rfl
@[simp] theorem State.evtF_cvn (src mask : Nat) (a b c : Word) : (s.evtF src mask a b c).cvn = s.cvn := rfl
@[simp] theorem State.evtF_cvnIds (src mask : Nat) (a b c : Word) : (s.evtF src mask a b c).cvnIds = s.cvnIds := rfl
@[simp] theorem State.evtF_air (src mask : Nat) (a b c : Word) : (s.evtF src mask a b c).air = s.air := rfl
@[simp] theorem State.evtF_qmg (src mask : Nat) (a b c : Word) : (s.evtF src mask a b c).qmg = s.qmg := rfl
@[simp] theorem State.evtF_shp (src mask : Nat) (a b c : Word) : (s.evtF src mask a b c).shp = s.shp := rfl
@[simp] theorem State.evtF_rf (src mask : Nat) (a b c : Word) : (s.evtF src mask a b c).rf = s.rf := rfl
@[simp] theorem State.evtF_rx (src mask : Nat) (a b c : Word) : (s.evtF src mask a b c).rx = s.rx := rfl
@[simp] theorem State.evtF_link (src mask : Nat) (a b c : Word) : (s.evtF src mask a b c).link = s.link := rfl
@[simp] theorem State.evtF_slot (src mask : Nat) (a b c : Word) : (s.evtF src mask a b c).slot = s.slot := rfl
@[simp] theorem State.evtF_key (src mask : Nat) (a b c : Word) : (s.evtF src mask a b c).key = s.key := rfl
@[simp] theorem State.evtF_vault (src mask : Nat) (a b c : Word) : (s.evtF src mask a b c).vault = s.vault := rfl
@[simp] theorem State.evtF_dir (src mask : Nat) (a b c : Word) : (s.evtF src mask a b c).dir = s.dir := rfl
@[simp] theorem State.evtF_lpm (src mask : Nat) (a b c : Word) : (s.evtF src mask a b c).lpm = s.lpm := rfl
@[simp] theorem State.evtF_mesh (src mask : Nat) (a b c : Word) : (s.evtF src mask a b c).mesh = s.mesh := rfl
@[simp] theorem State.evtF_pending (src mask : Nat) (a b c : Word) : (s.evtF src mask a b c).pending = s.pending := rfl

/-! ### `cmdDone` -/

@[simp] theorem State.cmdDone_regs (c : CmdDesc) (st : Nat) (ws : List Word) (x y : Nat) : (s.cmdDone c st ws x y).regs = s.regs := rfl
@[simp] theorem State.cmdDone_now (c : CmdDesc) (st : Nat) (ws : List Word) (x y : Nat) : (s.cmdDone c st ws x y).now = s.now := rfl
@[simp] theorem State.cmdDone_free (c : CmdDesc) (st : Nat) (ws : List Word) (x y : Nat) : (s.cmdDone c st ws x y).free = s.free := rfl
@[simp] theorem State.cmdDone_host (c : CmdDesc) (st : Nat) (ws : List Word) (x y : Nat) : (s.cmdDone c st ws x y).host = s.host := rfl
@[simp] theorem State.cmdDone_eth (c : CmdDesc) (st : Nat) (ws : List Word) (x y : Nat) : (s.cmdDone c st ws x y).eth = s.eth := rfl
@[simp] theorem State.cmdDone_time (c : CmdDesc) (st : Nat) (ws : List Word) (x y : Nat) : (s.cmdDone c st ws x y).time = s.time := rfl
@[simp] theorem State.cmdDone_safe (c : CmdDesc) (st : Nat) (ws : List Word) (x y : Nat) : (s.cmdDone c st ws x y).safe = s.safe := rfl
@[simp] theorem State.cmdDone_log (c : CmdDesc) (st : Nat) (ws : List Word) (x y : Nat) : (s.cmdDone c st ws x y).log = s.log := rfl
@[simp] theorem State.cmdDone_save (c : CmdDesc) (st : Nat) (ws : List Word) (x y : Nat) : (s.cmdDone c st ws x y).save = s.save := rfl
@[simp] theorem State.cmdDone_pwr (c : CmdDesc) (st : Nat) (ws : List Word) (x y : Nat) : (s.cmdDone c st ws x y).pwr = s.pwr := rfl
@[simp] theorem State.cmdDone_boot (c : CmdDesc) (st : Nat) (ws : List Word) (x y : Nat) : (s.cmdDone c st ws x y).boot = s.boot := rfl
@[simp] theorem State.cmdDone_bist (c : CmdDesc) (st : Nat) (ws : List Word) (x y : Nat) : (s.cmdDone c st ws x y).bist = s.bist := rfl
@[simp] theorem State.cmdDone_cmds (c : CmdDesc) (st : Nat) (ws : List Word) (x y : Nat) : (s.cmdDone c st ws x y).cmds = s.cmds := rfl
@[simp] theorem State.cmdDone_ndir (c : CmdDesc) (st : Nat) (ws : List Word) (x y : Nat) : (s.cmdDone c st ws x y).ndir = s.ndir := rfl
@[simp] theorem State.cmdDone_cvn (c : CmdDesc) (st : Nat) (ws : List Word) (x y : Nat) : (s.cmdDone c st ws x y).cvn = s.cvn := rfl
@[simp] theorem State.cmdDone_cvnIds (c : CmdDesc) (st : Nat) (ws : List Word) (x y : Nat) : (s.cmdDone c st ws x y).cvnIds = s.cvnIds := rfl
@[simp] theorem State.cmdDone_air (c : CmdDesc) (st : Nat) (ws : List Word) (x y : Nat) : (s.cmdDone c st ws x y).air = s.air := rfl
@[simp] theorem State.cmdDone_qmg (c : CmdDesc) (st : Nat) (ws : List Word) (x y : Nat) : (s.cmdDone c st ws x y).qmg = s.qmg := rfl
@[simp] theorem State.cmdDone_shp (c : CmdDesc) (st : Nat) (ws : List Word) (x y : Nat) : (s.cmdDone c st ws x y).shp = s.shp := rfl
@[simp] theorem State.cmdDone_rf (c : CmdDesc) (st : Nat) (ws : List Word) (x y : Nat) : (s.cmdDone c st ws x y).rf = s.rf := rfl
@[simp] theorem State.cmdDone_rx (c : CmdDesc) (st : Nat) (ws : List Word) (x y : Nat) : (s.cmdDone c st ws x y).rx = s.rx := rfl
@[simp] theorem State.cmdDone_link (c : CmdDesc) (st : Nat) (ws : List Word) (x y : Nat) : (s.cmdDone c st ws x y).link = s.link := rfl
@[simp] theorem State.cmdDone_slot (c : CmdDesc) (st : Nat) (ws : List Word) (x y : Nat) : (s.cmdDone c st ws x y).slot = s.slot := rfl
@[simp] theorem State.cmdDone_key (c : CmdDesc) (st : Nat) (ws : List Word) (x y : Nat) : (s.cmdDone c st ws x y).key = s.key := rfl
@[simp] theorem State.cmdDone_vault (c : CmdDesc) (st : Nat) (ws : List Word) (x y : Nat) : (s.cmdDone c st ws x y).vault = s.vault := rfl
@[simp] theorem State.cmdDone_dir (c : CmdDesc) (st : Nat) (ws : List Word) (x y : Nat) : (s.cmdDone c st ws x y).dir = s.dir := rfl
@[simp] theorem State.cmdDone_lpm (c : CmdDesc) (st : Nat) (ws : List Word) (x y : Nat) : (s.cmdDone c st ws x y).lpm = s.lpm := rfl
@[simp] theorem State.cmdDone_mesh (c : CmdDesc) (st : Nat) (ws : List Word) (x y : Nat) : (s.cmdDone c st ws x y).mesh = s.mesh := rfl
@[simp] theorem State.cmdDone_pending (c : CmdDesc) (st : Nat) (ws : List Word) (x y : Nat) : (s.cmdDone c st ws x y).pending = s.pending := rfl

/-! ### `txDone` -/

@[simp] theorem State.txDone_regs (f : Fetched) (st : Nat) (t : Word) (a b : Nat) (tw : Bool) (x y : Nat) : (s.txDone f st t a b tw x y).regs = s.regs := rfl
@[simp] theorem State.txDone_now (f : Fetched) (st : Nat) (t : Word) (a b : Nat) (tw : Bool) (x y : Nat) : (s.txDone f st t a b tw x y).now = s.now := rfl
@[simp] theorem State.txDone_free (f : Fetched) (st : Nat) (t : Word) (a b : Nat) (tw : Bool) (x y : Nat) : (s.txDone f st t a b tw x y).free = s.free := rfl
@[simp] theorem State.txDone_host (f : Fetched) (st : Nat) (t : Word) (a b : Nat) (tw : Bool) (x y : Nat) : (s.txDone f st t a b tw x y).host = s.host := rfl
@[simp] theorem State.txDone_eth (f : Fetched) (st : Nat) (t : Word) (a b : Nat) (tw : Bool) (x y : Nat) : (s.txDone f st t a b tw x y).eth = s.eth := rfl
@[simp] theorem State.txDone_time (f : Fetched) (st : Nat) (t : Word) (a b : Nat) (tw : Bool) (x y : Nat) : (s.txDone f st t a b tw x y).time = s.time := rfl
@[simp] theorem State.txDone_safe (f : Fetched) (st : Nat) (t : Word) (a b : Nat) (tw : Bool) (x y : Nat) : (s.txDone f st t a b tw x y).safe = s.safe := rfl
@[simp] theorem State.txDone_log (f : Fetched) (st : Nat) (t : Word) (a b : Nat) (tw : Bool) (x y : Nat) : (s.txDone f st t a b tw x y).log = s.log := rfl
@[simp] theorem State.txDone_save (f : Fetched) (st : Nat) (t : Word) (a b : Nat) (tw : Bool) (x y : Nat) : (s.txDone f st t a b tw x y).save = s.save := rfl
@[simp] theorem State.txDone_pwr (f : Fetched) (st : Nat) (t : Word) (a b : Nat) (tw : Bool) (x y : Nat) : (s.txDone f st t a b tw x y).pwr = s.pwr := rfl
@[simp] theorem State.txDone_boot (f : Fetched) (st : Nat) (t : Word) (a b : Nat) (tw : Bool) (x y : Nat) : (s.txDone f st t a b tw x y).boot = s.boot := rfl
@[simp] theorem State.txDone_bist (f : Fetched) (st : Nat) (t : Word) (a b : Nat) (tw : Bool) (x y : Nat) : (s.txDone f st t a b tw x y).bist = s.bist := rfl
@[simp] theorem State.txDone_cmds (f : Fetched) (st : Nat) (t : Word) (a b : Nat) (tw : Bool) (x y : Nat) : (s.txDone f st t a b tw x y).cmds = s.cmds := rfl
@[simp] theorem State.txDone_ends (f : Fetched) (st : Nat) (t : Word) (a b : Nat) (tw : Bool) (x y : Nat) : (s.txDone f st t a b tw x y).ends = s.ends := rfl
@[simp] theorem State.txDone_ndir (f : Fetched) (st : Nat) (t : Word) (a b : Nat) (tw : Bool) (x y : Nat) : (s.txDone f st t a b tw x y).ndir = s.ndir := rfl
@[simp] theorem State.txDone_cvn (f : Fetched) (st : Nat) (t : Word) (a b : Nat) (tw : Bool) (x y : Nat) : (s.txDone f st t a b tw x y).cvn = s.cvn := rfl
@[simp] theorem State.txDone_cvnIds (f : Fetched) (st : Nat) (t : Word) (a b : Nat) (tw : Bool) (x y : Nat) : (s.txDone f st t a b tw x y).cvnIds = s.cvnIds := rfl
@[simp] theorem State.txDone_air (f : Fetched) (st : Nat) (t : Word) (a b : Nat) (tw : Bool) (x y : Nat) : (s.txDone f st t a b tw x y).air = s.air := rfl
@[simp] theorem State.txDone_qmg (f : Fetched) (st : Nat) (t : Word) (a b : Nat) (tw : Bool) (x y : Nat) : (s.txDone f st t a b tw x y).qmg = s.qmg := rfl
@[simp] theorem State.txDone_shp (f : Fetched) (st : Nat) (t : Word) (a b : Nat) (tw : Bool) (x y : Nat) : (s.txDone f st t a b tw x y).shp = s.shp := rfl
@[simp] theorem State.txDone_rf (f : Fetched) (st : Nat) (t : Word) (a b : Nat) (tw : Bool) (x y : Nat) : (s.txDone f st t a b tw x y).rf = s.rf := rfl
@[simp] theorem State.txDone_rx (f : Fetched) (st : Nat) (t : Word) (a b : Nat) (tw : Bool) (x y : Nat) : (s.txDone f st t a b tw x y).rx = s.rx := rfl
@[simp] theorem State.txDone_link (f : Fetched) (st : Nat) (t : Word) (a b : Nat) (tw : Bool) (x y : Nat) : (s.txDone f st t a b tw x y).link = s.link := rfl
@[simp] theorem State.txDone_slot (f : Fetched) (st : Nat) (t : Word) (a b : Nat) (tw : Bool) (x y : Nat) : (s.txDone f st t a b tw x y).slot = s.slot := rfl
@[simp] theorem State.txDone_key (f : Fetched) (st : Nat) (t : Word) (a b : Nat) (tw : Bool) (x y : Nat) : (s.txDone f st t a b tw x y).key = s.key := rfl
@[simp] theorem State.txDone_vault (f : Fetched) (st : Nat) (t : Word) (a b : Nat) (tw : Bool) (x y : Nat) : (s.txDone f st t a b tw x y).vault = s.vault := rfl
@[simp] theorem State.txDone_dir (f : Fetched) (st : Nat) (t : Word) (a b : Nat) (tw : Bool) (x y : Nat) : (s.txDone f st t a b tw x y).dir = s.dir := rfl
@[simp] theorem State.txDone_lpm (f : Fetched) (st : Nat) (t : Word) (a b : Nat) (tw : Bool) (x y : Nat) : (s.txDone f st t a b tw x y).lpm = s.lpm := rfl
@[simp] theorem State.txDone_mesh (f : Fetched) (st : Nat) (t : Word) (a b : Nat) (tw : Bool) (x y : Nat) : (s.txDone f st t a b tw x y).mesh = s.mesh := rfl
@[simp] theorem State.txDone_pending (f : Fetched) (st : Nat) (t : Word) (a b : Nat) (tw : Bool) (x y : Nat) : (s.txDone f st t a b tw x y).pending = s.pending := rfl

/-! ### `setNbr` -/

@[simp] theorem State.setNbr_regs (n : Nat) (x : Nbr) : (s.setNbr n x).regs = s.regs := rfl
@[simp] theorem State.setNbr_now (n : Nat) (x : Nbr) : (s.setNbr n x).now = s.now := rfl
@[simp] theorem State.setNbr_free (n : Nat) (x : Nbr) : (s.setNbr n x).free = s.free := rfl
@[simp] theorem State.setNbr_pass (n : Nat) (x : Nbr) : (s.setNbr n x).pass = s.pass := rfl
@[simp] theorem State.setNbr_host (n : Nat) (x : Nbr) : (s.setNbr n x).host = s.host := rfl
@[simp] theorem State.setNbr_eth (n : Nat) (x : Nbr) : (s.setNbr n x).eth = s.eth := rfl
@[simp] theorem State.setNbr_time (n : Nat) (x : Nbr) : (s.setNbr n x).time = s.time := rfl
@[simp] theorem State.setNbr_safe (n : Nat) (x : Nbr) : (s.setNbr n x).safe = s.safe := rfl
@[simp] theorem State.setNbr_log (n : Nat) (x : Nbr) : (s.setNbr n x).log = s.log := rfl
@[simp] theorem State.setNbr_save (n : Nat) (x : Nbr) : (s.setNbr n x).save = s.save := rfl
@[simp] theorem State.setNbr_pwr (n : Nat) (x : Nbr) : (s.setNbr n x).pwr = s.pwr := rfl
@[simp] theorem State.setNbr_boot (n : Nat) (x : Nbr) : (s.setNbr n x).boot = s.boot := rfl
@[simp] theorem State.setNbr_bist (n : Nat) (x : Nbr) : (s.setNbr n x).bist = s.bist := rfl
@[simp] theorem State.setNbr_cmds (n : Nat) (x : Nbr) : (s.setNbr n x).cmds = s.cmds := rfl
@[simp] theorem State.setNbr_ends (n : Nat) (x : Nbr) : (s.setNbr n x).ends = s.ends := rfl
@[simp] theorem State.setNbr_ndir (n : Nat) (x : Nbr) : (s.setNbr n x).ndir = s.ndir := rfl
@[simp] theorem State.setNbr_cvn (n : Nat) (x : Nbr) : (s.setNbr n x).cvn = s.cvn := rfl
@[simp] theorem State.setNbr_cvnIds (n : Nat) (x : Nbr) : (s.setNbr n x).cvnIds = s.cvnIds := rfl
@[simp] theorem State.setNbr_air (n : Nat) (x : Nbr) : (s.setNbr n x).air = s.air := rfl
@[simp] theorem State.setNbr_qmg (n : Nat) (x : Nbr) : (s.setNbr n x).qmg = s.qmg := rfl
@[simp] theorem State.setNbr_shp (n : Nat) (x : Nbr) : (s.setNbr n x).shp = s.shp := rfl
@[simp] theorem State.setNbr_rf (n : Nat) (x : Nbr) : (s.setNbr n x).rf = s.rf := rfl
@[simp] theorem State.setNbr_rx (n : Nat) (x : Nbr) : (s.setNbr n x).rx = s.rx := rfl
@[simp] theorem State.setNbr_slot (n : Nat) (x : Nbr) : (s.setNbr n x).slot = s.slot := rfl
@[simp] theorem State.setNbr_key (n : Nat) (x : Nbr) : (s.setNbr n x).key = s.key := rfl
@[simp] theorem State.setNbr_vault (n : Nat) (x : Nbr) : (s.setNbr n x).vault = s.vault := rfl
@[simp] theorem State.setNbr_dir (n : Nat) (x : Nbr) : (s.setNbr n x).dir = s.dir := rfl
@[simp] theorem State.setNbr_lpm (n : Nat) (x : Nbr) : (s.setNbr n x).lpm = s.lpm := rfl
@[simp] theorem State.setNbr_mesh (n : Nat) (x : Nbr) : (s.setNbr n x).mesh = s.mesh := rfl
@[simp] theorem State.setNbr_pending (n : Nat) (x : Nbr) : (s.setNbr n x).pending = s.pending := rfl

/-! ### What they change -/

@[simp] theorem State.rd_wr (k : Nat) (v : Word) : (s.wr k v).rd k = v := by simp [State.rd, State.wr]

theorem State.rd_wr_ne {j k : Nat} (v : Word) (h : j ≠ k) : (s.wr k v).rd j = s.rd j := aget_aset_ne 0 v k j s.regs h

@[simp] theorem State.rd_setFld (k : Nat) (f : Fld) (x : Nat) : (s.setFld k f x).rd k = fset f (s.rd k) x := s.rd_wr k _

theorem State.rd_setFld_ne {j k : Nat} (f : Fld) (x : Nat) (h : j ≠ k) : (s.setFld k f x).rd j = s.rd j := s.rd_wr_ne _ h

@[simp] theorem State.rd_bump (k : Nat) : (s.bump k).rd k = satInc (s.rd k) := s.rd_wr k _

theorem State.rd_bump_ne {j k : Nat} (h : j ≠ k) : (s.bump k).rd j = s.rd j := s.rd_wr_ne _ h

theorem State.fld_setFld (k : Nat) (f : Fld) (x : Nat) (h : f.lo + f.w ≤ 32) : (s.setFld k f x).fld k f = x % 2 ^ f.w := by
  simp [State.fld, fget_fset f _ x h]

theorem State.fld_setFld_ne {j k : Nat} (f g : Fld) (x : Nat) (h : j ≠ k) : (s.setFld k f x).fld j g = s.fld j g := by
  simp [State.fld, s.rd_setFld_ne f x h]

theorem State.fld_setFld_other (k : Nat) (f g : Fld) (x : Nat) (h : f.lo + f.w ≤ 32) (hd : g.lo + g.w ≤ f.lo ∨ f.lo + f.w ≤ g.lo) :
    (s.setFld k f x).fld k g = s.fld k g := by
  rcases hd with hd | hd
  · simp [State.fld, fget_fset_below f g _ x h hd]
  · simp [State.fld, fget_fset_above f g _ x h hd]

@[simp] theorem State.setTxDir_txDir (d : Die) (x : PassDir) : (s.setTxDir d x).txDir d = x := by cases d <;> rfl
@[simp] theorem State.setRxDir_rxDir (d : Die) (x : PassDir) : (s.setRxDir d x).rxDir d = x := by cases d <;> rfl
@[simp] theorem State.elapse_now (n : Nat) : (s.elapse n).now = s.now + n := rfl
@[simp] theorem State.advanceTo_now (n : Nat) : (s.advanceTo n).now = max s.now n := by
  simp only [State.advanceTo, State.elapse_now]; omega

/-- Filling the retry buffer keeps the messages in their order. -/
theorem passFill_append (r w : List PassMsg) : (passFill r w).1 ++ (passFill r w).2 = r ++ w := by
  induction w generalizing r with
  | nil => simp [passFill]
  | cons m ms ih =>
    unfold passFill
    split
    · rw [ih]; simp
    · rfl

@[simp] theorem PassDir.fill_append (x : PassDir) : x.fill.retry ++ x.fill.waiting = x.retry ++ x.waiting := passFill_append x.retry x.waiting

/-- A message that a die sends comes behind all that it has sent, with the next `SEQ`. -/
@[simp] theorem State.passSend_queue (d : Die) (typ part : Nat) (g : Bool) (len : Nat) (ws : List Word) :
    ((s.passSend d typ part g len ws).txDir d).retry ++ ((s.passSend d typ part g len ws).txDir d).waiting =
      (s.txDir d).retry ++ (s.txDir d).waiting ++ [⟨typ, part, g, len, (s.txDir d).next, 0, 0, ws⟩] := by
  simp [State.passSend]

/-- An answer is what the partition reads. -/
@[simp] theorem State.answer_readData (p : Nat) (w : Word) : aget 0 p (s.answer p w).host.readData = w := by simp [State.answer]

/-! ### Registers are not touched by what lies beside them -/

@[simp] theorem State.rd_elapse (n k : Nat) : (s.elapse n).rd k = s.rd k := rfl
@[simp] theorem State.rd_advanceTo (n k : Nat) : (s.advanceTo n).rd k = s.rd k := rfl
@[simp] theorem State.rd_passSend (d : Die) (typ part : Nat) (g : Bool) (len : Nat) (ws : List Word) (k : Nat) :
    (s.passSend d typ part g len ws).rd k = s.rd k := by cases d <;> rfl
@[simp] theorem State.rd_answer (p : Nat) (w : Word) (k : Nat) : (s.answer p w).rd k = s.rd k := rfl
@[simp] theorem State.rd_memWrite (p a : Nat) (bs : List Byte) (k : Nat) : (s.memWrite p a bs).rd k = s.rd k := rfl

/-! ### The canonical forms of the register file and of host memory -/

theorem State.wr_canon (k : Nat) (v : Word) (h : awf 0 s.regs = true) : awf 0 (s.wr k v).regs = true := awf_aset 0 v k s.regs h

theorem memPut_canon (p a : Nat) (bs : List Byte) (m : List (Nat × Byte)) (h : awf 0 m = true) : awf 0 (memPut p a bs m) = true := by
  induction bs generalizing a m with
  | nil => exact h
  | cons b bs ih => exact ih (a + 1) _ (awf_aset 0 b (memKey p a) m h)

theorem State.memWrite_canon (p a : Nat) (bs : List Byte) (h : awf 0 s.host.mem = true) : awf 0 (s.memWrite p a bs).host.mem = true :=
  memPut_canon p a bs s.host.mem h

end Sys2Proof.Machine
end

