-- ==== Sys2Proof/Laws/Within.lean ====
section
/-! SUPPORT. What an operation leaves alone: `Within l s t` says that `t` differs from `s` at most in the components `l`, and keeps the
canonical forms. Its laws follow the shapes in which the operations are written. -/

namespace Sys2Proof.Machine

/-- Every component of a list is in another. -/
def compsIn (l m : List Comp) : Bool := l.all (fun k => m.contains k)

/-- From a state to another only the components listed changed, and the canonical forms stayed. -/
structure Within (l : List Comp) (s t : State) : Prop where
  canon : s.canon = true → t.canon = true
  only : t.onlyIn s l

theorem sameAt_refl (s : State) (k : Comp) : s.sameAt s k := by cases k <;> rfl
theorem sameAt_trans {s t u : State} {k : Comp} (h : t.sameAt s k) (h2 : u.sameAt t k) : u.sameAt s k := by
  cases k <;> exact Eq.trans h2 h

theorem Within.refl (l : List Comp) (s : State) : Within l s s := ⟨id, fun k _ => sameAt_refl s k⟩

theorem Within.comp {l m : List Comp} {a b c : State} (h : Within m b c) (hs : compsIn m l = true) (h2 : Within l a b) : Within l a c := by
  refine ⟨fun x => h.canon (h2.canon x), fun k hk => sameAt_trans (h2.only k hk) (h.only k (fun hm => hk ?_))⟩
  simp only [compsIn, List.all_eq_true] at hs
  simpa using hs k hm

theorem compsIn_mem {m l : List Comp} {k : Comp} (hs : compsIn m l = true) (h : k ∈ m) : k ∈ l := by
  simp only [compsIn, List.all_eq_true] at hs
  simpa using hs k h

theorem compsIn_trans {c m l : List Comp} (h : compsIn c m = true) (h2 : compsIn m l = true) : compsIn c l = true := by
  simp only [compsIn, List.all_eq_true] at *
  intro k hk
  have := h k hk
  exact h2 k (by simpa using this)

theorem Within.ite {l : List Comp} {a b c : State} {p : Prop} [Decidable p] (h : p → Within l a b) (h2 : ¬p → Within l a c) : Within l a (if p then b else c) := by
  split
  · exact h ‹_›
  · exact h2 ‹_›

theorem Within.dite {l : List Comp} {a : State} {p : Prop} [Decidable p] {b : p → State} {c : ¬p → State} (h : ∀ x, Within l a (b x)) (h2 : ∀ x, Within l a (c x)) :
    Within l a (if x : p then b x else c x) := by
  split
  · exact h ‹_›
  · exact h2 ‹_›

theorem Within.foldl {α : Type} {l : List Comp} {a b : State} {f : State → α → State} {xs : List α} (h : Within l a b)
    (hf : ∀ u x, Within l a u → Within l a (f u x)) : Within l a (xs.foldl f b) := by
  induction xs generalizing b with
  | nil => exact h
  | cons x xs ih => exact ih (hf b x h)

/-- What an operation that may fail leaves of a state when it does not. -/
def WithinOpt (l : List Comp) (s : State) (o : Option State) : Prop := ∀ t, o = some t → Within l s t

theorem WithinOpt.use {l : List Comp} {a t : State} {o : Option State} (h : WithinOpt l a o) (e : o = some t) : Within l a t := h t e
theorem WithinOpt.some {l : List Comp} {a t : State} (h : Within l a t) : WithinOpt l a (some t) := fun _ e => Option.some.inj e ▸ h
theorem WithinOpt.none {l : List Comp} {a : State} : WithinOpt l a none := fun _ e => nomatch e
theorem WithinOpt.ite {l : List Comp} {a : State} {o q : Option State} {p : Prop} [Decidable p] (h : p → WithinOpt l a o) (h2 : ¬p → WithinOpt l a q) :
    WithinOpt l a (if p then o else q) := by
  split
  · exact h ‹_›
  · exact h2 ‹_›
theorem WithinOpt.map {α : Type} {l : List Comp} {a : State} {o : Option α} {f : α → State} (h : ∀ x, Within l a (f x)) : WithinOpt l a (o.map f) := by
  cases o with
  | none => exact WithinOpt.none
  | some x => exact WithinOpt.some (h x)
theorem WithinOpt.getD {l : List Comp} {a b : State} {o : Option State} (h : WithinOpt l a o) (h2 : Within l a b) : Within l a (o.getD b) := by
  cases o with
  | none => exact h2
  | some t => exact h t rfl
theorem Within.of1 {α : Type} {l : List Comp} {a t : State} {p : State × α} {x : α} (h : Within l a p.1) (e : p = (t, x)) : Within l a t := by
  subst e; exact h
theorem Within.of2 {α : Type} {l : List Comp} {a t : State} {p : α × State} {x : α} (h : Within l a p.2) (e : p = (x, t)) : Within l a t := by
  subst e; exact h
theorem Within.of1_2 {α β : Type} {l : List Comp} {a t : State} {p : State × α × β} {x : α} {y : β} (h : Within l a p.1) (e : p = (t, x, y)) : Within l a t := by
  subst e; exact h
theorem Within.ite1 {α : Type} {l : List Comp} {a : State} {b c : State × α} {p : Prop} [Decidable p] (h : p → Within l a b.1) (h2 : ¬p → Within l a c.1) :
    Within l a (if p then b else c).1 := by
  split
  · exact h ‹_›
  · exact h2 ‹_›
theorem Within.ite2 {α : Type} {l : List Comp} {a : State} {b c : α × State} {p : Prop} [Decidable p] (h : p → Within l a b.2) (h2 : ¬p → Within l a c.2) :
    Within l a (if p then b else c).2 := by
  split
  · exact h ‹_›
  · exact h2 ‹_›
theorem Within.foldl1 {α β : Type} {l : List Comp} {a : State} {f : State × β → α → State × β} {xs : List α} {b : State × β} (h : Within l a b.1)
    (hf : ∀ u x, Within l a u.1 → Within l a (f u x).1) : Within l a (xs.foldl f b).1 := by
  induction xs generalizing b with
  | nil => exact h
  | cons x xs ih => exact ih (hf b x h)
theorem Within.foldl2 {α β : Type} {l : List Comp} {a : State} {f : β × State → α → β × State} {xs : List α} {b : β × State} (h : Within l a b.2)
    (hf : ∀ u x, Within l a u.2 → Within l a (f u x).2) : Within l a (xs.foldl f b).2 := by
  induction xs generalizing b with
  | nil => exact h
  | cons x xs ih => exact ih (hf b x h)

/-- A state that is written out. -/
def WithinLit (l : List Comp) (s t : State) : Prop := Within l s t

theorem Within.lit {l : List Comp} {a : State} {regs now free pass host eth time safe log save pwr boot bist cmds ends ndir cvn cvnIds air qmg shp rf rx link slot key vault dir lpm mesh pending} :
    Within l a (State.mk regs now free pass host eth time safe log save pwr boot bist cmds ends ndir cvn cvnIds air qmg shp rf rx link slot key vault dir lpm mesh pending) = WithinLit l a (State.mk regs now free pass host eth time safe log save pwr boot bist cmds ends ndir cvn cvnIds air qmg shp rf rx link slot key vault dir lpm mesh pending) := rfl

theorem Within.upd {l : List Comp} {a b : State} {now free pass host eth time safe log save pwr boot bist cmds ends ndir cvn cvnIds air qmg shp rf rx link slot key vault dir lpm mesh pending}
    (h : Within l a b) (hm : host.mem = b.host.mem)
    (hk : ∀ k, k ∉ l → (State.mk b.regs now free pass host eth time safe log save pwr boot bist cmds ends ndir cvn cvnIds air qmg shp rf rx link slot key vault dir lpm mesh pending).sameAt b k) :
    WithinLit l a (State.mk b.regs now free pass host eth time safe log save pwr boot bist cmds ends ndir cvn cvnIds air qmg shp rf rx link slot key vault dir lpm mesh pending) := by
  refine ⟨fun x => ?_, fun k hl => sameAt_trans (h.only k hl) (hk k hl)⟩
  have := h.canon x
  simpa [State.canon, hm] using this

/-- Every component. -/
def allComps : List Comp := [.regs, .now, .free, .pass, .host, .eth, .time, .safe, .log, .save, .pwr, .boot, .bist, .cmds, .ends, .ndir, .cvn,
  .cvnIds, .air, .qmg, .shp, .rf, .rx, .link, .slot, .key, .vault, .dir, .lpm, .mesh, .pending]

theorem Within.all {s t : State} (h : s.canon = true → t.canon = true) : Within allComps s t :=
  ⟨h, fun k hk => absurd (by cases k <;> decide) hk⟩

theorem awf_foldl_aset (es m : List (Nat × Word)) (h : awf 0 m = true) : awf 0 (es.foldl (fun m e => aset 0 e.1 e.2 m) m) = true := by
  induction es generalizing m with
  | nil => exact h
  | cons e es ih => exact ih _ (awf_aset 0 _ _ _ h)

theorem awf_regReset : awf 0 regReset = true := by decide +kernel

theorem awf_regsAfter (f : Nat → Bool) (r : List (Nat × Word)) : awf 0 (regsAfter f r) = true :=
  awf_foldl_aset _ _ (awf_filter 0 regReset _ awf_regReset)

theorem State.wr_within {l : List Comp} {a : State} (s : State) (k : Nat) (v : Word) (h0 : Within l a s) (hs : compsIn [.regs] l = true) : Within l a (s.wr k v) := by
  refine Within.comp (m := [.regs]) ?_ hs h0
  refine ⟨fun h => ?_, fun k hk => ?_⟩
  · simp only [State.canon, Bool.and_eq_true] at h ⊢
    exact ⟨State.wr_canon s _ _ h.1, h.2⟩
  · cases k <;> first | exact absurd (by decide) hk | rfl

theorem State.memWrite_within {l : List Comp} {a : State} (s : State) (p addr : Nat) (bs : List Byte) (h0 : Within l a s) (hs : compsIn [.host] l = true) : Within l a (s.memWrite p addr bs) := by
  refine Within.comp (m := [.host]) ?_ hs h0
  refine ⟨fun h => ?_, fun k hk => ?_⟩
  · simp only [State.canon, Bool.and_eq_true] at h ⊢
    exact ⟨h.1, State.memWrite_canon s _ _ _ h.2⟩
  · cases k <;> first | exact absurd (by decide) hk | rfl

end Sys2Proof.Machine
end

