-- ==== Sys2Proof/Laws/Frames.lean ====
section
/-! SUPPORT. One lemma for each operation of the model that answers a state: the components it may change. Every lemma also carries the
canonical forms (see `Within`). -/

set_option linter.unusedTactic false
set_option linter.unreachableTactic false

namespace Sys2Proof.Machine

theorem State.setNode_within {L : List Comp} {σ : State} (s : State) (o : Nat) (x : NodeRec) (h0 : Within L σ s) (hs : compsIn [.ndir] L = true) :
    Within L σ (State.setNode s o x) := by
  refine Within.comp ?_ hs h0
  clear h0 hs
  unfold State.setNode
  repeat' first
    | (with_reducible exact Within.refl _ _)
    | (simp only [Within.lit]; with_reducible refine Within.upd ?_ rfl (fun k hk => ?_))
    | (cases k <;> first | (exact absurd (by decide) hk) | rfl)

theorem State.cutFrame_within {L : List Comp} {σ : State} (s : State) (id : Nat) (h0 : Within L σ s) (hs : compsIn [.air] L = true) : Within L σ
    (State.cutFrame s id) := by
  refine Within.comp ?_ hs h0
  clear h0 hs
  unfold State.cutFrame
  repeat' first
    | (with_reducible exact Within.refl _ _)
    | (simp only [Within.lit]; with_reducible refine Within.upd ?_ rfl (fun k hk => ?_))
    | (cases k <;> first | (exact absurd (by decide) hk) | rfl)

theorem State.setNbr_within {L : List Comp} {σ : State} (s : State) (n : Nat) (x : Nbr) (h0 : Within L σ s) (hs : compsIn [.link] L = true) : Within L
    σ (State.setNbr s n x) := by
  refine Within.comp ?_ hs h0
  clear h0 hs
  unfold State.setNbr
  dsimp only
  repeat' first
    | (with_reducible exact Within.refl _ _)
    | (simp only [Within.lit]; with_reducible refine Within.upd ?_ rfl (fun k hk => ?_))
    | (cases k <;> first | (exact absurd (by decide) hk) | rfl)

theorem State.backoffReset_within {L : List Comp} {σ : State} (s : State) (n : Nat) (h0 : Within L σ s) (hs : compsIn [.link] L = true) : Within L σ
    (State.backoffReset s n) := by
  refine Within.comp ?_ hs h0
  clear h0 hs
  unfold State.backoffReset
  dsimp only
  repeat' first
    | (with_reducible exact Within.refl _ _)
    | (with_reducible apply State.setNbr_within)
    | ((with_reducible show compsIn _ _ = true); rfl)

theorem State.nbrIdle_within {L : List Comp} {σ : State} (s : State) (n : Nat) (h0 : Within L σ s) (hs : compsIn [.link] L = true) : Within L σ
    (State.nbrIdle s n) := by
  refine Within.comp ?_ hs h0
  clear h0 hs
  unfold State.nbrIdle
  repeat' first
    | (with_reducible exact Within.refl _ _)
    | (with_reducible apply State.backoffReset_within)
    | ((with_reducible show compsIn _ _ = true); rfl)
    | (with_reducible refine Within.ite (fun _ => ?_) (fun _ => ?_))

theorem State.setFld_within {L : List Comp} {σ : State} (s : State) (k : Nat) (f : Fld) (x : Nat) (h0 : Within L σ s) (hs : compsIn [.regs] L =
    true) : Within L σ (State.setFld s k f x) := by
  refine Within.comp ?_ hs h0
  clear h0 hs
  unfold State.setFld
  repeat' first
    | (with_reducible exact Within.refl _ _)
    | (with_reducible apply State.wr_within)
    | ((with_reducible show compsIn _ _ = true); rfl)

theorem State.setUsed_within {L : List Comp} {σ : State} (s : State) (u : List Nat) (h0 : Within L σ s) (hs : compsIn [.regs, .qmg] L = true) : Within
    L σ (State.setUsed s u) := by
  refine Within.comp ?_ hs h0
  clear h0 hs
  unfold State.setUsed
  dsimp only
  repeat' first
    | (with_reducible exact Within.refl _ _)
    | (with_reducible apply State.setFld_within)
    | ((with_reducible show compsIn _ _ = true); rfl)
    | (simp only [Within.lit]; with_reducible refine Within.upd ?_ rfl (fun k hk => ?_))
    | (cases k <;> first | (exact absurd (by decide) hk) | rfl)

theorem State.freeChain_within {L : List Comp} {σ : State} (s : State) (cs : List Nat) (h0 : Within L σ s) (hs : compsIn [.regs, .qmg] L = true) :
    Within L σ (State.freeChain s cs) := by
  refine Within.comp ?_ hs h0
  clear h0 hs
  unfold State.freeChain
  repeat' first
    | (with_reducible exact Within.refl _ _)
    | (with_reducible apply State.setUsed_within)
    | ((with_reducible show compsIn _ _ = true); rfl)

theorem State.release_within {L : List Comp} {σ : State} (s : State) (f : Frame) (h0 : Within L σ s) (hs : compsIn [.regs, .qmg] L = true) : Within L
    σ (State.release s f) := by
  refine Within.comp ?_ hs h0
  clear h0 hs
  unfold State.release
  repeat' first
    | (with_reducible exact Within.refl _ _)
    | (with_reducible apply State.freeChain_within)
    | ((with_reducible show compsIn _ _ = true); rfl)

theorem State.setQueue_within {L : List Comp} {σ : State} (s : State) (q : Nat) (x : Queue) (h0 : Within L σ s) (hs : compsIn [.qmg] L = true) :
    Within L σ (State.setQueue s q x) := by
  refine Within.comp ?_ hs h0
  clear h0 hs
  unfold State.setQueue
  dsimp only
  repeat' first
    | (with_reducible exact Within.refl _ _)
    | (simp only [Within.lit]; with_reducible refine Within.upd ?_ rfl (fun k hk => ?_))
    | (cases k <;> first | (exact absurd (by decide) hk) | rfl)

theorem State.drop_within {L : List Comp} {σ : State} (s : State) (q : Nat) (f : Frame) (h0 : Within L σ s) (hs : compsIn [.regs, .air, .qmg,
    .link] L = true) : Within L σ (State.drop s q f) := by
  refine Within.comp ?_ hs h0
  clear h0 hs
  unfold State.drop
  dsimp only
  repeat' first
    | (with_reducible exact Within.refl _ _)
    | (with_reducible apply State.cutFrame_within)
    | (with_reducible apply State.nbrIdle_within)
    | (with_reducible apply State.release_within)
    | (with_reducible apply State.setQueue_within)
    | ((with_reducible show compsIn _ _ = true); rfl)
    | (with_reducible refine Within.ite (fun _ => ?_) (fun _ => ?_))

theorem State.keySync_within {L : List Comp} {σ : State} (s : State) (h0 : Within L σ s) (hs : compsIn [.regs] L = true) : Within L σ (State.keySync
    s) := by
  refine Within.comp ?_ hs h0
  clear h0 hs
  unfold State.keySync
  dsimp only
  repeat' first
    | (with_reducible exact Within.refl _ _)
    | (with_reducible apply State.setFld_within)
    | ((with_reducible show compsIn _ _ = true); rfl)

theorem State.setSlots_within {L : List Comp} {σ : State} (s : State) (l : List KeySlot) (h0 : Within L σ s) (hs : compsIn [.regs, .key] L = true)
    : Within L σ (State.setSlots s l) := by
  refine Within.comp ?_ hs h0
  clear h0 hs
  unfold State.setSlots
  dsimp only
  repeat' first
    | (with_reducible exact Within.refl _ _)
    | (with_reducible apply State.keySync_within)
    | ((with_reducible show compsIn _ _ = true); rfl)
    | (simp only [Within.lit]; with_reducible refine Within.upd ?_ rfl (fun k hk => ?_))
    | (cases k <;> first | (exact absurd (by decide) hk) | rfl)

theorem State.keyErase_within {L : List Comp} {σ : State} (s : State) (r : KeyRole) (h0 : Within L σ s) (hs : compsIn [.regs, .key] L = true) : Within
    L σ (State.keyErase s r) := by
  refine Within.comp ?_ hs h0
  clear h0 hs
  unfold State.keyErase
  repeat' first
    | (with_reducible exact Within.refl _ _)
    | (with_reducible apply State.setSlots_within)
    | ((with_reducible show compsIn _ _ = true); rfl)

theorem State.keyForget_within {L : List Comp} {σ : State} (s : State) (r : KeyRole) (h0 : Within L σ s) (hs : compsIn [.regs, .key] L = true) :
    Within L σ (State.keyForget s r) := by
  refine Within.comp ?_ hs h0
  clear h0 hs
  unfold State.keyForget
  repeat' first
    | (with_reducible exact Within.refl _ _)
    | (with_reducible apply State.setSlots_within)
    | ((with_reducible show compsIn _ _ = true); rfl)

theorem State.bump_within {L : List Comp} {σ : State} (s : State) (k : Nat) (h0 : Within L σ s) (hs : compsIn [.regs] L = true) : Within L σ
    (State.bump s k) := by
  refine Within.comp ?_ hs h0
  clear h0 hs
  unfold State.bump
  repeat' first
    | (with_reducible exact Within.refl _ _)
    | (with_reducible apply State.wr_within)
    | ((with_reducible show compsIn _ _ = true); rfl)

theorem State.keyRoom_within {L : List Comp} {σ : State} (s : State) (r : KeyRole) (h0 : Within L σ s) (hs : compsIn [.regs, .key] L = true) : WithinOpt
    L σ (State.keyRoom s r) := by
  have key : WithinOpt [.regs, .key] s (State.keyRoom s r) := ?_
  · exact fun t e => Within.comp (key t e) hs h0
  clear h0 hs
  unfold State.keyRoom
  repeat' first
    | (with_reducible exact Within.refl _ _)
    | (with_reducible apply State.bump_within)
    | (with_reducible apply State.keyForget_within)
    | ((with_reducible show compsIn _ _ = true); rfl)
    | (with_reducible refine WithinOpt.ite (fun _ => ?_) (fun _ => ?_))
    | (with_reducible apply WithinOpt.some)
    | (with_reducible refine WithinOpt.map (fun _ => ?_))

theorem State.keyUse_within {L : List Comp} {σ : State} (s : State) (r : KeyRole) (h0 : Within L σ s) (hs : compsIn [.key] L = true) : Within L σ
    (State.keyUse s r) := by
  refine Within.comp ?_ hs h0
  clear h0 hs
  unfold State.keyUse
  dsimp only
  repeat' first
    | (with_reducible exact Within.refl _ _)
    | (simp only [Within.lit]; with_reducible refine Within.upd ?_ rfl (fun k hk => ?_))
    | (cases k <;> first | (exact absurd (by decide) hk) | rfl)

theorem State.setTxDir_within {L : List Comp} {σ : State} (s : State) (d : Die) (x : PassDir) (h0 : Within L σ s) (hs : compsIn [.pass] L = true)
    : Within L σ (State.setTxDir s d x) := by
  refine Within.comp ?_ hs h0
  clear h0 hs
  unfold State.setTxDir
  dsimp only
  repeat' first
    | (with_reducible exact Within.refl _ _)
    | (simp only [Within.lit]; with_reducible refine Within.upd ?_ rfl (fun k hk => ?_))
    | (cases k <;> first | (exact absurd (by decide) hk) | rfl)
    | split

theorem State.passSend_within {L : List Comp} {σ : State} (s : State) (d : Die) (typ part : Nat) (guard : Bool) (len : Nat) (payload : List
    Word) (h0 : Within L σ s) (hs : compsIn [.pass] L = true) : Within L σ (State.passSend s d typ part guard len payload) := by
  refine Within.comp ?_ hs h0
  clear h0 hs
  unfold State.passSend
  dsimp only
  repeat' first
    | (with_reducible exact Within.refl _ _)
    | (with_reducible apply State.setTxDir_within)
    | ((with_reducible show compsIn _ _ = true); rfl)

theorem State.evtF_within {L : List Comp} {σ : State} (s : State) (src mask : Nat) (p0 p1 p2 : Word) (h0 : Within L σ s) (hs : compsIn [.pass] L =
    true) : Within L σ (State.evtF s src mask p0 p1 p2) := by
  refine Within.comp ?_ hs h0
  clear h0 hs
  unfold State.evtF
  repeat' first
    | (with_reducible exact Within.refl _ _)
    | (with_reducible apply State.passSend_within)
    | ((with_reducible show compsIn _ _ = true); rfl)

theorem State.fifoSync_within {L : List Comp} {σ : State} (s : State) (h0 : Within L σ s) (hs : compsIn [.regs] L = true) : Within L σ (State.fifoSync
    s) := by
  refine Within.comp ?_ hs h0
  clear h0 hs
  unfold State.fifoSync
  repeat' first
    | (with_reducible exact Within.refl _ _)
    | (with_reducible apply State.setFld_within)
    | ((with_reducible show compsIn _ _ = true); rfl)

theorem State.ledgerStore_within {L : List Comp} {σ : State} (s : State) (r : List Word) (h0 : Within L σ s) (hs : compsIn [.regs, .pass, .host,
    .safe, .log, .cvn, .cvnIds, .air, .qmg, .rf, .link] L = true) : Within L σ (State.ledgerStore s r).1 := by
  refine Within.comp ?_ hs h0
  clear h0 hs
  unfold State.ledgerStore
  dsimp only
  repeat' first
    | (with_reducible exact Within.refl _ _)
    | (with_reducible apply State.setFld_within)
    | ((with_reducible show compsIn _ _ = true); rfl)
    | (with_reducible refine Within.ite1 (fun _ => ?_) (fun _ => ?_))
    | (simp only [Within.lit]; with_reducible refine Within.upd ?_ rfl (fun k hk => ?_))
    | (cases k <;> first | (exact absurd (by decide) hk) | rfl)

theorem State.trail_within {L : List Comp} {σ : State} (s : State) (code src : Nat) (p0 p1 p2 : Word) (h0 : Within L σ s) (hs : compsIn [.regs,
    .log] L = true) : Within L σ (State.trail s code src p0 p1 p2) := by
  refine Within.comp ?_ hs h0
  clear h0 hs
  unfold State.trail
  dsimp only
  repeat' first
    | (with_reducible exact Within.refl _ _)
    | (with_reducible apply State.wr_within)
    | ((with_reducible show compsIn _ _ = true); rfl)
    | (simp only [Within.lit]; with_reducible refine Within.upd ?_ rfl (fun k hk => ?_))
    | (cases k <;> first | (exact absurd (by decide) hk) | rfl)

theorem State.ledgerPut_within {L : List Comp} {σ : State} (s : State) (code src : Nat) (p0 p1 p2 : Word) (h0 : Within L σ s) (hs : compsIn
    [.regs, .pass, .host, .safe, .log, .cvn, .cvnIds, .air, .qmg, .rf, .link] L = true) : Within L σ (State.ledgerPut s code src p0 p1 p2).1
    := by
  refine Within.comp ?_ hs h0
  clear h0 hs
  unfold State.ledgerPut
  dsimp only
  repeat' first
    | (with_reducible exact Within.refl _ _)
    | (with_reducible apply State.fifoSync_within)
    | (with_reducible apply State.ledgerStore_within)
    | (with_reducible apply State.trail_within)
    | (with_reducible apply State.wr_within)
    | ((with_reducible show compsIn _ _ = true); rfl)
    | (with_reducible refine Within.ite1 (fun _ => ?_) (fun _ => ?_))
    | (simp only [Within.lit]; with_reducible refine Within.upd ?_ rfl (fun k hk => ?_))
    | (cases k <;> first | (exact absurd (by decide) hk) | rfl)

theorem State.cmdDoneFull_within {L : List Comp} {σ : State} (s : State) (c : CmdDesc) (status : Nat) (w1 w2 w3 w4 w5 w6 w7 : Word) (h0 : Within L
    σ s) (hs : compsIn [.pass] L = true) : Within L σ (State.cmdDoneFull s c status w1 w2 w3 w4 w5 w6 w7) := by
  refine Within.comp ?_ hs h0
  clear h0 hs
  unfold State.cmdDoneFull
  repeat' first
    | (with_reducible exact Within.refl _ _)
    | (with_reducible apply State.passSend_within)
    | ((with_reducible show compsIn _ _ = true); rfl)

theorem State.cvnAnswer_within {L : List Comp} {σ : State} (s : State) (c : Caravan) (status : Nat) (expired : Bool) (p : CmdDesc) (h0 : Within L
    σ s) (hs : compsIn [.regs, .pass, .host, .air, .qmg, .link] L = true) : Within L σ (State.cvnAnswer s c status expired p) := by
  refine Within.comp ?_ hs h0
  clear h0 hs
  unfold State.cvnAnswer
  dsimp only
  repeat' first
    | (with_reducible exact Within.refl _ _)
    | (with_reducible apply State.cmdDoneFull_within)
    | (with_reducible apply State.memWrite_within)
    | ((with_reducible show compsIn _ _ = true); rfl)

theorem State.cvnSync_within {L : List Comp} {σ : State} (s : State) (h0 : Within L σ s) (hs : compsIn [.regs] L = true) : Within L σ (State.cvnSync
    s) := by
  refine Within.comp ?_ hs h0
  clear h0 hs
  unfold State.cvnSync
  dsimp only
  repeat' first
    | (with_reducible exact Within.refl _ _)
    | (with_reducible apply State.setFld_within)
    | ((with_reducible show compsIn _ _ = true); rfl)

theorem State.cvnEnd_within {L : List Comp} {σ : State} (s : State) (c : Caravan) (status : Nat) (expired : Bool) (h0 : Within L σ s) (hs :
    compsIn [.regs, .pass, .host, .cvn, .cvnIds, .air, .qmg, .link] L = true) : Within L σ (State.cvnEnd s c status expired) := by
  refine Within.comp ?_ hs h0
  clear h0 hs
  unfold State.cvnEnd
  dsimp only
  repeat' first
    | (with_reducible exact Within.refl _ _)
    | (with_reducible assumption)
    | (with_reducible apply State.cvnAnswer_within)
    | (with_reducible apply State.cvnSync_within)
    | (with_reducible apply State.evtF_within)
    | ((with_reducible show compsIn _ _ = true); rfl)
    | (with_reducible refine Within.foldl ?_ (fun _ _ _ => ?_))
    | (simp only [Within.lit]; with_reducible refine Within.upd ?_ rfl (fun k hk => ?_))
    | (cases k <;> first | (exact absurd (by decide) hk) | rfl)

theorem State.imgEnd_within {L : List Comp} {σ : State} (s : State) (i : Nat) (x : ImgSess) (status : Nat) (h0 : Within L σ s) (hs : compsIn
    [.regs, .pass, .host, .cvn, .air, .qmg, .link] L = true) : Within L σ (State.imgEnd s i x status) := by
  refine Within.comp ?_ hs h0
  clear h0 hs
  unfold State.imgEnd
  dsimp only
  repeat' first
    | (with_reducible exact Within.refl _ _)
    | (with_reducible apply State.cmdDoneFull_within)
    | (with_reducible apply State.memWrite_within)
    | (with_reducible apply State.wr_within)
    | ((with_reducible show compsIn _ _ = true); rfl)
    | (simp only [Within.lit]; with_reducible refine Within.upd ?_ rfl (fun k hk => ?_))
    | (cases k <;> first | (exact absurd (by decide) hk) | rfl)

theorem State.quietEnds_within {L : List Comp} {σ : State} (s : State) (h0 : Within L σ s) (hs : compsIn [.regs, .pass, .host, .cvn, .cvnIds,
    .air, .qmg, .link] L = true) : Within L σ (State.quietEnds s) := by
  refine Within.comp ?_ hs h0
  clear h0 hs
  unfold State.quietEnds
  dsimp only
  repeat' first
    | (with_reducible exact Within.refl _ _)
    | (with_reducible assumption)
    | (with_reducible apply State.cvnEnd_within)
    | (with_reducible apply State.imgEnd_within)
    | ((with_reducible show compsIn _ _ = true); rfl)
    | (with_reducible refine Within.foldl ?_ (fun _ _ _ => ?_))

theorem State.cutAir_within {L : List Comp} {σ : State} (s : State) (h0 : Within L σ s) (hs : compsIn [.air, .rf] L = true) : Within L σ (State.cutAir
    s) := by
  refine Within.comp ?_ hs h0
  clear h0 hs
  unfold State.cutAir
  dsimp only
  repeat' first
    | (with_reducible exact Within.refl _ _)
    | (simp only [Within.lit]; with_reducible refine Within.upd ?_ rfl (fun k hk => ?_))
    | (cases k <;> first | (exact absurd (by decide) hk) | rfl)

theorem State.quietLatch_within {L : List Comp} {σ : State} (s : State) (c : Nat) (h0 : Within L σ s) (hs : compsIn [.regs, .pass, .safe, .air,
    .rf] L = true) : Within L σ (State.quietLatch s c) := by
  refine Within.comp ?_ hs h0
  clear h0 hs
  unfold State.quietLatch
  dsimp only
  repeat' first
    | (with_reducible exact Within.refl _ _)
    | (with_reducible apply State.cutAir_within)
    | (with_reducible apply State.passSend_within)
    | (with_reducible apply State.setFld_within)
    | ((with_reducible show compsIn _ _ = true); rfl)
    | (with_reducible refine Within.ite (fun _ => ?_) (fun _ => ?_))
    | (simp only [Within.lit]; with_reducible refine Within.upd ?_ rfl (fun k hk => ?_))
    | (cases k <;> first | (exact absurd (by decide) hk) | rfl)

theorem State.quietOver_within {L : List Comp} {σ : State} (s : State) (c : Nat) (h0 : Within L σ s) (hs : compsIn [.regs, .safe] L = true) : Within L
    σ (State.quietOver s c) := by
  refine Within.comp ?_ hs h0
  clear h0 hs
  unfold State.quietOver
  dsimp only
  repeat' first
    | (with_reducible exact Within.refl _ _)
    | (with_reducible apply State.setFld_within)
    | ((with_reducible show compsIn _ _ = true); rfl)
    | (with_reducible refine Within.ite (fun _ => ?_) (fun _ => ?_))
    | (simp only [Within.lit]; with_reducible refine Within.upd ?_ rfl (fun k hk => ?_))
    | (cases k <;> first | (exact absurd (by decide) hk) | rfl)

theorem State.quietReport_within {L : List Comp} {σ : State} (s : State) (c : Nat) (h0 : Within L σ s) (hs : compsIn [.regs, .pass, .host, .safe,
    .log, .cvn, .cvnIds, .air, .qmg, .rf, .link] L = true) : Within L σ (State.quietReport s c).1 := by
  refine Within.comp ?_ hs h0
  clear h0 hs
  unfold State.quietReport
  dsimp only
  repeat' first
    | (with_reducible exact Within.refl _ _)
    | (with_reducible apply State.evtF_within)
    | (with_reducible apply State.ledgerPut_within)
    | (with_reducible apply State.quietOver_within)
    | ((with_reducible show compsIn _ _ = true); rfl)
    | (with_reducible refine Within.ite (fun _ => ?_) (fun _ => ?_))

theorem State.quietLedger_within {L : List Comp} {σ : State} (s : State) (h0 : Within L σ s) (hs : compsIn [.regs, .pass, .host, .safe, .log,
    .cvn, .cvnIds, .air, .qmg, .rf, .link] L = true) : Within L σ (State.quietLedger s) := by
  refine Within.comp ?_ hs h0
  clear h0 hs
  unfold State.quietLedger
  repeat' first
    | (with_reducible exact Within.refl _ _)
    | (with_reducible apply State.quietEnds_within)
    | (with_reducible apply State.quietLatch_within)
    | (with_reducible apply State.quietReport_within)
    | ((with_reducible show compsIn _ _ = true); rfl)
    | (with_reducible refine Within.ite (fun _ => ?_) (fun _ => ?_))

theorem State.ledger_within {L : List Comp} {σ : State} (s : State) (code src : Nat) (p0 p1 p2 : Word) (h0 : Within L σ s) (hs : compsIn [.regs,
    .pass, .host, .safe, .log, .cvn, .cvnIds, .air, .qmg, .rf, .link] L = true) : Within L σ (State.ledger s code src p0 p1 p2) := by
  refine Within.comp ?_ hs h0
  clear h0 hs
  unfold State.ledger
  dsimp only
  repeat' first
    | (with_reducible exact Within.refl _ _)
    | (with_reducible apply State.ledgerPut_within)
    | (with_reducible apply State.quietLedger_within)
    | (with_reducible apply State.quietOver_within)
    | ((with_reducible show compsIn _ _ = true); rfl)
    | (with_reducible refine Within.ite (fun _ => ?_) (fun _ => ?_))

theorem State.slotFail_within {L : List Comp} {σ : State} (s : State) (x : KeySlot) (no : Nat) (h0 : Within L σ s) (hs : compsIn [.regs, .pass,
    .host, .safe, .log, .cvn, .cvnIds, .air, .qmg, .rf, .link, .key] L = true) : Within L σ (State.slotFail s x no) := by
  refine Within.comp ?_ hs h0
  clear h0 hs
  unfold State.slotFail
  dsimp only
  repeat' first
    | (with_reducible exact Within.refl _ _)
    | (with_reducible apply State.bump_within)
    | (with_reducible apply State.evtF_within)
    | (with_reducible apply State.keyErase_within)
    | (with_reducible apply State.ledger_within)
    | ((with_reducible show compsIn _ _ = true); rfl)

theorem State.keyCheck_within {L : List Comp} {σ : State} (s : State) (r : KeyRole) (attr : Nat) (h0 : Within L σ s) (hs : compsIn [.regs, .pass,
    .host, .safe, .log, .cvn, .cvnIds, .air, .qmg, .rf, .link, .key] L = true) : Within L σ (State.keyCheck s r attr) := by
  refine Within.comp ?_ hs h0
  clear h0 hs
  unfold State.keyCheck
  repeat' first
    | (with_reducible exact Within.refl _ _)
    | (with_reducible apply State.slotFail_within)
    | ((with_reducible show compsIn _ _ = true); rfl)
    | (with_reducible refine Within.ite (fun _ => ?_) (fun _ => ?_))
    | split

theorem State.keyTake_within {L : List Comp} {σ : State} (s : State) (r : KeyRole) (attr : Nat) (h0 : Within L σ s) (hs : compsIn [.regs, .pass,
    .host, .safe, .log, .cvn, .cvnIds, .air, .qmg, .rf, .link, .key] L = true) : Within L σ (State.keyTake s r attr).1 := by
  refine Within.comp ?_ hs h0
  clear h0 hs
  unfold State.keyTake
  dsimp only
  repeat' first
    | (with_reducible exact Within.refl _ _)
    | (with_reducible apply State.keyCheck_within)
    | (with_reducible apply State.keyUse_within)
    | ((with_reducible show compsIn _ _ = true); rfl)
    | split

theorem State.setCtr_within {L : List Comp} {σ : State} (s : State) (e : Nat) (x : CtrEntry) (h0 : Within L σ s) (hs : compsIn [.key] L = true) :
    Within L σ (State.setCtr s e x) := by
  refine Within.comp ?_ hs h0
  clear h0 hs
  unfold State.setCtr
  dsimp only
  repeat' first
    | (with_reducible exact Within.refl _ _)
    | (simp only [Within.lit]; with_reducible refine Within.upd ?_ rfl (fun k hk => ?_))
    | (cases k <;> first | (exact absurd (by decide) hk) | rfl)

theorem State.setRecord_within {L : List Comp} {σ : State} (s : State) (i : Nat) (x : CtrRec) (h0 : Within L σ s) (hs : compsIn [.vault] L = true)
    : Within L σ (State.setRecord s i x) := by
  refine Within.comp ?_ hs h0
  clear h0 hs
  unfold State.setRecord
  dsimp only
  repeat' first
    | (with_reducible exact Within.refl _ _)
    | (simp only [Within.lit]; with_reducible refine Within.upd ?_ rfl (fun k hk => ?_))
    | (cases k <;> first | (exact absurd (by decide) hk) | rfl)

theorem State.checkpoint_within {L : List Comp} {σ : State} (s : State) (e : Nat) (h0 : Within L σ s) (hs : compsIn [.key, .vault] L = true) : Within
    L σ (State.checkpoint s e) := by
  refine Within.comp ?_ hs h0
  clear h0 hs
  unfold State.checkpoint
  dsimp only
  repeat' first
    | (with_reducible exact Within.refl _ _)
    | (with_reducible apply State.setCtr_within)
    | (with_reducible apply State.setRecord_within)
    | ((with_reducible show compsIn _ _ = true); rfl)

theorem State.unbind_within {L : List Comp} {σ : State} (s : State) (e : Nat) (h0 : Within L σ s) (hs : compsIn [.key, .vault] L = true) : Within L σ
    (State.unbind s e) := by
  refine Within.comp ?_ hs h0
  clear h0 hs
  unfold State.unbind
  dsimp only
  repeat' first
    | (with_reducible exact Within.refl _ _)
    | (with_reducible apply State.setCtr_within)
    | (with_reducible apply State.setRecord_within)
    | ((with_reducible show compsIn _ _ = true); rfl)
    | (with_reducible refine Within.ite (fun _ => ?_) (fun _ => ?_))
    | (simp only [Within.lit]; with_reducible refine Within.upd ?_ rfl (fun k hk => ?_))
    | (cases k <;> first | (exact absurd (by decide) hk) | rfl)

theorem State.bind_within {L : List Comp} {σ : State} (s0 : State) (e fp keyId part floor : Nat) (h0 : Within L σ s0) (hs : compsIn [.regs, .pass,
    .host, .safe, .log, .cvn, .cvnIds, .air, .qmg, .rf, .link, .key, .vault] L = true) : Within L σ (State.bind s0 e fp keyId part floor) :=
    by
  refine Within.comp ?_ hs h0
  clear h0 hs
  unfold State.bind
  dsimp only
  repeat' first
    | (with_reducible exact Within.refl _ _)
    | (with_reducible apply State.ledger_within)
    | (with_reducible apply State.setCtr_within)
    | (with_reducible apply State.setNbr_within)
    | (with_reducible apply State.setRecord_within)
    | (with_reducible apply State.unbind_within)
    | ((with_reducible show compsIn _ _ = true); rfl)
    | (with_reducible refine Within.ite (fun _ => ?_) (fun _ => ?_))
    | split

theorem State.ctrTake_within {L : List Comp} {σ : State} (s : State) (e : Nat) (h0 : Within L σ s) (hs : compsIn [.pass, .key, .vault] L = true) :
    Within L σ (State.ctrTake s e).2 := by
  refine Within.comp ?_ hs h0
  clear h0 hs
  unfold State.ctrTake
  dsimp only
  repeat' first
    | (with_reducible exact Within.refl _ _)
    | (with_reducible apply State.checkpoint_within)
    | (with_reducible apply State.evtF_within)
    | (with_reducible apply State.setCtr_within)
    | ((with_reducible show compsIn _ _ = true); rfl)
    | (with_reducible refine Within.ite (fun _ => ?_) (fun _ => ?_))
    | (with_reducible refine Within.ite2 (fun _ => ?_) (fun _ => ?_))

theorem State.keyPut_within {L : List Comp} {σ : State} (s : State) (r : KeyRole) (m : Material) (h0 : Within L σ s) (hs : compsIn [.regs, .pass,
    .host, .safe, .log, .cvn, .cvnIds, .air, .qmg, .rf, .link, .key, .vault] L = true) : Within L σ (State.keyPut s r m) := by
  refine Within.comp ?_ hs h0
  clear h0 hs
  unfold State.keyPut
  dsimp only
  repeat' first
    | (with_reducible exact Within.refl _ _)
    | (with_reducible apply State.bind_within)
    | (with_reducible apply State.setSlots_within)
    | ((with_reducible show compsIn _ _ = true); rfl)
    | (simp only [Within.lit]; with_reducible refine Within.upd ?_ rfl (fun k hk => ?_))
    | (cases k <;> first | (exact absurd (by decide) hk) | rfl)
    | split

theorem State.keyLoad_within {L : List Comp} {σ : State} {s : State} {r : KeyRole} (h0 : Within L σ s) (hs : compsIn [.regs, .pass, .host, .safe,
    .log, .cvn, .cvnIds, .air, .qmg, .rf, .link, .key, .vault] L = true) (t : State) (h : s.keyLoad r = some (.ok t)) : Within L σ t := by
  unfold State.keyLoad at h
  split at h
  · simp at h
  · simp only [Option.map_eq_some_iff] at h
    obtain ⟨u, hu, e⟩ := h
    cases e
    exact State.keyPut_within _ _ _ (State.keyRoom_within s r h0 (compsIn_trans (m := [.regs, .pass, .host, .safe, .log, .cvn, .cvnIds, .air,
        .qmg, .rf, .link, .key, .vault]) rfl hs) u hu) (compsIn_trans (m := [.regs, .pass, .host, .safe, .log, .cvn, .cvnIds, .air, .qmg,
        .rf, .link, .key, .vault]) rfl hs)

theorem State.kekReady_within {L : List Comp} {σ : State} (s : State) (p : Nat) (h0 : Within L σ s) (hs : compsIn [.regs, .pass, .host, .safe,
    .log, .cvn, .cvnIds, .air, .qmg, .rf, .link, .key, .vault] L = true) : Within L σ (State.kekReady s p) := by
  refine Within.comp ?_ hs h0
  clear h0 hs
  unfold State.kekReady
  dsimp only
  repeat' first
    | (with_reducible exact Within.refl _ _)
    | (with_reducible apply State.keyCheck_within)
    | (with_reducible apply State.keyForget_within)
    | (with_reducible refine State.keyLoad_within ?_ ?_ _ (by assumption))
    | ((with_reducible show compsIn _ _ = true); rfl)
    | (with_reducible refine Within.ite (fun _ => ?_) (fun _ => ?_))
    | split

theorem State.deriveReady_within {L : List Comp} {σ : State} (s : State) (d : Nat) (h0 : Within L σ s) (hs : compsIn [.regs, .pass, .host, .safe,
    .log, .cvn, .cvnIds, .air, .qmg, .rf, .link, .key, .vault] L = true) : Within L σ (State.deriveReady s d) := by
  refine Within.comp ?_ hs h0
  clear h0 hs
  unfold State.deriveReady
  dsimp only
  repeat' first
    | (with_reducible exact Within.refl _ _)
    | (with_reducible apply State.bump_within)
    | (with_reducible apply State.kekReady_within)
    | (with_reducible apply State.keyCheck_within)
    | (with_reducible refine State.keyLoad_within ?_ ?_ _ (by assumption))
    | ((with_reducible show compsIn _ _ = true); rfl)
    | (with_reducible refine Within.ite (fun _ => ?_) (fun _ => ?_))
    | split

theorem State.keyReady_within {L : List Comp} {σ : State} (s : State) (r : KeyRole) (h0 : Within L σ s) (hs : compsIn [.regs, .pass, .host, .safe,
    .log, .cvn, .cvnIds, .air, .qmg, .rf, .link, .key, .vault] L = true) : Within L σ (State.keyReady s r) := by
  refine Within.comp ?_ hs h0
  clear h0 hs
  unfold State.keyReady
  repeat' first
    | (with_reducible exact Within.refl _ _)
    | (with_reducible apply State.deriveReady_within)
    | (with_reducible apply State.kekReady_within)
    | ((with_reducible show compsIn _ _ = true); rfl)
    | (with_reducible refine Within.ite (fun _ => ?_) (fun _ => ?_))
    | split

theorem State.keyRequest_within {L : List Comp} {σ : State} (s : State) (cls : Nat) (r : KeyRole) (h0 : Within L σ s) (hs : compsIn [.regs, .key]
    L = true) : Within L σ (State.keyRequest s cls r) := by
  refine Within.comp ?_ hs h0
  clear h0 hs
  unfold State.keyRequest
  dsimp only
  repeat' first
    | (with_reducible exact Within.refl _ _)
    | (with_reducible apply State.bump_within)
    | ((with_reducible show compsIn _ _ = true); rfl)
    | (with_reducible refine Within.ite (fun _ => ?_) (fun _ => ?_))
    | (simp only [Within.lit]; with_reducible refine Within.upd ?_ rfl (fun k hk => ?_))
    | (cases k <;> first | (exact absurd (by decide) hk) | rfl)

theorem State.laterAsk_within {L : List Comp} {σ : State} (s : State) (h0 : Within L σ s) (hs : compsIn [.regs, .key] L = true) : Within L σ
    (State.laterAsk s) := by
  refine Within.comp ?_ hs h0
  clear h0 hs
  unfold State.laterAsk
  dsimp only
  repeat' first
    | (with_reducible exact Within.refl _ _)
    | (with_reducible assumption)
    | (with_reducible apply State.keyRequest_within)
    | ((with_reducible show compsIn _ _ = true); rfl)
    | (with_reducible refine Within.ite (fun _ => ?_) (fun _ => ?_))
    | (with_reducible refine Within.foldl ?_ (fun _ _ _ => ?_))
    | (simp only [Within.lit]; with_reducible refine Within.upd ?_ rfl (fun k hk => ?_))
    | (cases k <;> first | (exact absurd (by decide) hk) | rfl)

theorem State.loadDrop_within {L : List Comp} {σ : State} (s : State) (l : KeyLoad) (h0 : Within L σ s) (hs : compsIn [.key] L = true) : Within L σ
    (State.loadDrop s l) := by
  refine Within.comp ?_ hs h0
  clear h0 hs
  unfold State.loadDrop
  dsimp only
  repeat' first
    | (with_reducible exact Within.refl _ _)
    | (simp only [Within.lit]; with_reducible refine Within.upd ?_ rfl (fun k hk => ?_))
    | (cases k <;> first | (exact absurd (by decide) hk) | rfl)

theorem State.txDone_within {L : List Comp} {σ : State} (s : State) (f : Fetched) (status : Nat) (txTime : Word) (attempts beam : Nat) (twin :
    Bool) (cause detail : Nat) (h0 : Within L σ s) (hs : compsIn [.pass] L = true) : Within L σ (State.txDone s f status txTime attempts beam twin
    cause detail) := by
  refine Within.comp ?_ hs h0
  clear h0 hs
  unfold State.txDone
  repeat' first
    | (with_reducible exact Within.refl _ _)
    | (simp only [Within.lit]; with_reducible refine Within.upd ?_ rfl (fun k hk => ?_))
    | (cases k <;> first | (exact absurd (by decide) hk) | rfl)

theorem State.floodHeard_within {L : List Comp} {σ : State} (s : State) (n status time attempts beam cause detail : Nat) (h0 : Within L σ s) (hs :
    compsIn [.pass, .mesh] L = true) : Within L σ (State.floodHeard s n status time attempts beam cause detail) := by
  refine Within.comp ?_ hs h0
  clear h0 hs
  unfold State.floodHeard
  dsimp only
  repeat' first
    | (with_reducible exact Within.refl _ _)
    | (with_reducible apply State.txDone_within)
    | ((with_reducible show compsIn _ _ = true); rfl)
    | (with_reducible refine Within.ite (fun _ => ?_) (fun _ => ?_))
    | (simp only [Within.lit]; with_reducible refine Within.upd ?_ rfl (fun k hk => ?_))
    | (cases k <;> first | (exact absurd (by decide) hk) | rfl)
    | split

theorem State.originEnd_within {L : List Comp} {σ : State} (s : State) (o : Origin) (status time attempts beam : Nat) (twin : Bool) (cause
    detail : Nat) (h0 : Within L σ s) (hs : compsIn [.pass, .cvn, .mesh] L = true) : Within L σ (State.originEnd s o status time attempts beam
    twin cause detail) := by
  refine Within.comp ?_ hs h0
  clear h0 hs
  unfold State.originEnd
  dsimp only
  repeat' first
    | (with_reducible exact Within.refl _ _)
    | (with_reducible apply State.floodHeard_within)
    | (with_reducible apply State.txDone_within)
    | ((with_reducible show compsIn _ _ = true); rfl)
    | (simp only [Within.lit]; with_reducible refine Within.upd ?_ rfl (fun k hk => ?_))
    | (cases k <;> first | (exact absurd (by decide) hk) | rfl)
    | split

theorem State.frameEnd_within {L : List Comp} {σ : State} (s : State) (f : Frame) (status cause detail : Nat) (h0 : Within L σ s) (hs : compsIn
    [.regs, .pass, .cvn, .air, .qmg, .link, .mesh] L = true) : Within L σ (State.frameEnd s f status cause detail) := by
  refine Within.comp ?_ hs h0
  clear h0 hs
  unfold State.frameEnd
  dsimp only
  repeat' first
    | (with_reducible exact Within.refl _ _)
    | (with_reducible assumption)
    | (with_reducible apply State.bump_within)
    | (with_reducible apply State.drop_within)
    | (with_reducible apply State.originEnd_within)
    | ((with_reducible show compsIn _ _ = true); rfl)
    | (with_reducible refine Within.ite (fun _ => ?_) (fun _ => ?_))
    | (with_reducible refine Within.foldl ?_ (fun _ _ _ => ?_))
    | (simp only [Within.lit]; with_reducible refine Within.upd ?_ rfl (fun k hk => ?_))
    | (cases k <;> first | (exact absurd (by decide) hk) | rfl)
    | split

theorem State.finishNow_within {L : List Comp} {σ : State} (s : State) (q : Nat) (f : Frame) (status cause detail : Nat) (h0 : Within L σ s) (hs :
    compsIn [.regs, .pass, .cvn, .air, .qmg, .link, .mesh] L = true) : Within L σ (State.finishNow s q f status cause detail) := by
  refine Within.comp ?_ hs h0
  clear h0 hs
  unfold State.finishNow
  repeat' first
    | (with_reducible exact Within.refl _ _)
    | (with_reducible apply State.drop_within)
    | (with_reducible apply State.frameEnd_within)
    | ((with_reducible show compsIn _ _ = true); rfl)

theorem State.queueFault_within {L : List Comp} {σ : State} (s : State) (q : Nat) (h0 : Within L σ s) (hs : compsIn [.regs, .pass, .host, .safe,
    .log, .cvn, .cvnIds, .air, .qmg, .rf, .link, .mesh] L = true) : Within L σ (State.queueFault s q) := by
  refine Within.comp ?_ hs h0
  clear h0 hs
  unfold State.queueFault
  dsimp only
  repeat' first
    | (with_reducible exact Within.refl _ _)
    | (with_reducible assumption)
    | (with_reducible apply State.bump_within)
    | (with_reducible apply State.evtF_within)
    | (with_reducible apply State.finishNow_within)
    | (with_reducible apply State.ledger_within)
    | (with_reducible apply State.setQueue_within)
    | ((with_reducible show compsIn _ _ = true); rfl)
    | (with_reducible refine Within.ite (fun _ => ?_) (fun _ => ?_))
    | (with_reducible refine Within.foldl ?_ (fun _ _ _ => ?_))

theorem State.finish_within {L : List Comp} {σ : State} (s : State) (q : Nat) (f : Frame) (status cause detail : Nat) (h0 : Within L σ s) (hs :
    compsIn [.regs, .pass, .host, .safe, .log, .cvn, .cvnIds, .air, .qmg, .rf, .link, .key, .vault, .mesh] L = true) : Within L σ
    (State.finish s q f status cause detail) := by
  refine Within.comp ?_ hs h0
  clear h0 hs
  unfold State.finish
  dsimp only
  repeat' first
    | (with_reducible exact Within.refl _ _)
    | (with_reducible apply State.finishNow_within)
    | (with_reducible apply State.queueFault_within)
    | ((with_reducible show compsIn _ _ = true); rfl)
    | (with_reducible refine Within.ite (fun _ => ?_) (fun _ => ?_))

theorem State.keyFramesEnd_within {L : List Comp} {σ : State} (s : State) (r : KeyRole) (status cause : Nat) (h0 : Within L σ s) (hs : compsIn
    [.regs, .pass, .host, .safe, .log, .cvn, .cvnIds, .air, .qmg, .rf, .link, .key, .vault, .mesh] L = true) : Within L σ (State.keyFramesEnd
    s r status cause) := by
  refine Within.comp ?_ hs h0
  clear h0 hs
  unfold State.keyFramesEnd
  dsimp only
  repeat' first
    | (with_reducible exact Within.refl _ _)
    | (with_reducible assumption)
    | (with_reducible apply State.finish_within)
    | ((with_reducible show compsIn _ _ = true); rfl)
    | (with_reducible refine Within.ite (fun _ => ?_) (fun _ => ?_))
    | (with_reducible refine Within.foldl ?_ (fun _ _ _ => ?_))

theorem State.slotFlip_within {L : List Comp} {σ : State} (s : State) (e : Fin 8192 × Nat) (h0 : Within L σ s) (hs : compsIn [.key] L = true) : Within
    L σ (State.slotFlip s e) := by
  refine Within.comp ?_ hs h0
  clear h0 hs
  unfold State.slotFlip
  dsimp only
  repeat' first
    | (with_reducible exact Within.refl _ _)
    | (simp only [Within.lit]; with_reducible refine Within.upd ?_ rfl (fun k hk => ?_))
    | (cases k <;> first | (exact absurd (by decide) hk) | rfl)

theorem State.slotScrub_within {L : List Comp} {σ : State} (s : State) (x : KeySlot) (h0 : Within L σ s) (hs : compsIn [.regs, .pass, .host,
    .safe, .log, .cvn, .cvnIds, .air, .qmg, .rf, .link, .key] L = true) : Within L σ (State.slotScrub s x) := by
  refine Within.comp ?_ hs h0
  clear h0 hs
  unfold State.slotScrub
  repeat' first
    | (with_reducible exact Within.refl _ _)
    | (with_reducible apply State.slotFail_within)
    | ((with_reducible show compsIn _ _ = true); rfl)
    | (with_reducible refine Within.ite (fun _ => ?_) (fun _ => ?_))
    | split

theorem State.keyScrub_within {L : List Comp} {σ : State} (s : State) (before after : List (Fin 8192 × Nat)) (h0 : Within L σ s) (hs : compsIn
    [.regs, .pass, .host, .safe, .log, .cvn, .cvnIds, .air, .qmg, .rf, .link, .key] L = true) : Within L σ (State.keyScrub s before after) :=
    by
  refine Within.comp ?_ hs h0
  clear h0 hs
  unfold State.keyScrub
  dsimp only
  repeat' first
    | (with_reducible exact Within.refl _ _)
    | (with_reducible assumption)
    | (with_reducible apply State.slotFlip_within)
    | (with_reducible apply State.slotScrub_within)
    | ((with_reducible show compsIn _ _ = true); rfl)
    | (with_reducible refine Within.foldl ?_ (fun _ _ _ => ?_))

theorem State.err_within {L : List Comp} {σ : State} (s : State) (k : Nat) (f : Fld) (h0 : Within L σ s) (hs : compsIn [.regs] L = true) : Within L σ
    (State.err s k f) := by
  refine Within.comp ?_ hs h0
  clear h0 hs
  unfold State.err
  repeat' first
    | (with_reducible exact Within.refl _ _)
    | (with_reducible apply State.setFld_within)
    | ((with_reducible show compsIn _ _ = true); rfl)

theorem State.armLock_within {L : List Comp} {σ : State} (s : State) (p : Nat) (h0 : Within L σ s) (hs : compsIn [.regs, .host] L = true) : Within L σ
    (State.armLock s p) := by
  refine Within.comp ?_ hs h0
  clear h0 hs
  unfold State.armLock
  dsimp only
  repeat' first
    | (with_reducible exact Within.refl _ _)
    | (with_reducible apply State.setFld_within)
    | ((with_reducible show compsIn _ _ = true); rfl)
    | (simp only [Within.lit]; with_reducible refine Within.upd ?_ rfl (fun k hk => ?_))
    | (cases k <;> first | (exact absurd (by decide) hk) | rfl)

theorem State.guardTake_within {L : List Comp} {σ : State} (s : State) (p : Nat) (h0 : Within L σ s) (hs : compsIn [.regs, .host] L = true) : Within L
    σ (State.guardTake s p).1 := by
  refine Within.comp ?_ hs h0
  clear h0 hs
  unfold State.guardTake
  repeat' first
    | (with_reducible exact Within.refl _ _)
    | (with_reducible apply State.armLock_within)
    | ((with_reducible show compsIn _ _ = true); rfl)
    | (with_reducible refine Within.ite1 (fun _ => ?_) (fun _ => ?_))

theorem State.guardRaise_within {L : List Comp} {σ : State} (s : State) (p : Nat) (what : Word) (command : Bool) (data : Word) (h0 : Within L σ s)
    (hs : compsIn [.regs, .pass, .host, .safe, .log, .cvn, .cvnIds, .air, .qmg, .rf, .link] L = true) : Within L σ (State.guardRaise s p what
    command data) := by
  refine Within.comp ?_ hs h0
  clear h0 hs
  unfold State.guardRaise
  dsimp only
  repeat' first
    | (with_reducible exact Within.refl _ _)
    | (with_reducible apply State.evtF_within)
    | (with_reducible apply State.ledger_within)
    | ((with_reducible show compsIn _ _ = true); rfl)

theorem State.guardViolation_within {L : List Comp} {σ : State} (s : State) (p : Nat) (what : Word) (command : Bool) (data : Word) (h0 : Within L
    σ s) (hs : compsIn [.regs, .pass, .host, .safe, .log, .cvn, .cvnIds, .air, .qmg, .rf, .link] L = true) : Within L σ (State.guardViolation
    s p what command data) := by
  refine Within.comp ?_ hs h0
  clear h0 hs
  unfold State.guardViolation
  repeat' first
    | (with_reducible exact Within.refl _ _)
    | (with_reducible apply State.bump_within)
    | (with_reducible apply State.guardRaise_within)
    | ((with_reducible show compsIn _ _ = true); rfl)

theorem State.guarded_within {L : List Comp} {σ : State} (s : State) (p k : Nat) (data : Word) (ok : State → State) (h0 : Within L σ s) (hok : ∀ u
    , Within L σ u → Within L σ (ok u )) (hs : compsIn [.regs, .pass, .host, .safe, .log, .cvn, .cvnIds, .air, .qmg, .rf, .link] L = true) : Within L
    σ (State.guarded s p k data ok) := by
  unfold State.guarded
  dsimp only
  repeat' first
    | (with_reducible assumption)
    | (with_reducible apply hok)
    | (with_reducible apply State.guardTake_within)
    | (with_reducible apply State.guardViolation_within)
    | (exact compsIn_trans (m := [.regs, .pass, .host, .safe, .log, .cvn, .cvnIds, .air, .qmg, .rf, .link]) rfl hs)
    | (with_reducible refine Within.ite (fun _ => ?_) (fun _ => ?_))

theorem State.slotErase_within {L : List Comp} {σ : State} (s : State) (p : Nat) (data : Word) (h0 : Within L σ s) (hs : compsIn [.regs, .pass,
    .host, .safe, .log, .cvn, .cvnIds, .air, .qmg, .rf, .link, .key] L = true) : Within L σ (State.slotErase s p data) := by
  refine Within.comp ?_ hs h0
  clear h0 hs
  unfold State.slotErase
  dsimp only
  repeat' first
    | (with_reducible exact Within.refl _ _)
    | (with_reducible assumption)
    | (with_reducible apply State.err_within)
    | (with_reducible apply State.guarded_within)
    | (with_reducible apply State.keyErase_within)
    | (with_reducible apply State.wr_within)
    | ((with_reducible show compsIn _ _ = true); rfl)
    | (with_reducible refine Within.ite (fun _ => ?_) (fun _ => ?_))
    | (with_reducible refine Within.foldl ?_ (fun _ _ _ => ?_))
    | (intro _)

theorem State.free!_within {L : List Comp} {σ : State} (s : State) (h0 : Within L σ s) (hs : compsIn [.free] L = true) : Within L σ (State.free! s).2
    := by
  refine Within.comp ?_ hs h0
  clear h0 hs
  unfold State.free!
  dsimp only
  repeat' first
    | (with_reducible exact Within.refl _ _)
    | (simp only [Within.lit]; with_reducible refine Within.upd ?_ rfl (fun k hk => ?_))
    | (cases k <;> first | (exact absurd (by decide) hk) | rfl)

theorem State.evtFree_within {L : List Comp} {σ : State} (s : State) (src mask : Nat) (h0 : Within L σ s) (hs : compsIn [.free, .pass] L = true) :
    Within L σ (State.evtFree s src mask) := by
  refine Within.comp ?_ hs h0
  clear h0 hs
  unfold State.evtFree
  dsimp only
  repeat' first
    | (with_reducible exact Within.refl _ _)
    | (with_reducible apply State.evtF_within)
    | (with_reducible apply State.free!_within)
    | ((with_reducible show compsIn _ _ = true); rfl)

theorem State.tamperSync_within {L : List Comp} {σ : State} (s : State) (h0 : Within L σ s) (hs : compsIn [.regs] L = true) : Within L σ
    (State.tamperSync s) := by
  refine Within.comp ?_ hs h0
  clear h0 hs
  unfold State.tamperSync
  repeat' first
    | (with_reducible exact Within.refl _ _)
    | (with_reducible apply State.setFld_within)
    | ((with_reducible show compsIn _ _ = true); rfl)

theorem State.keyWipe_within {L : List Comp} {σ : State} (s : State) (h0 : Within L σ s) (hs : compsIn [.regs, .key, .vault] L = true) : Within L σ
    (State.keyWipe s) := by
  refine Within.comp ?_ hs h0
  clear h0 hs
  unfold State.keyWipe
  repeat' first
    | (with_reducible exact Within.refl _ _)
    | (with_reducible apply State.setSlots_within)
    | ((with_reducible show compsIn _ _ = true); rfl)
    | (simp only [Within.lit]; with_reducible refine Within.upd ?_ rfl (fun k hk => ?_))
    | (cases k <;> first | (exact absurd (by decide) hk) | rfl)

theorem State.tamperReport_within {L : List Comp} {σ : State} (s : State) (h0 : Within L σ s) (hs : compsIn [.regs, .free, .pass, .host, .safe,
    .log, .cvn, .cvnIds, .air, .qmg, .rf, .link] L = true) : Within L σ (State.tamperReport s) := by
  refine Within.comp ?_ hs h0
  clear h0 hs
  unfold State.tamperReport
  repeat' first
    | (with_reducible exact Within.refl _ _)
    | (with_reducible apply State.evtFree_within)
    | (with_reducible apply State.ledger_within)
    | ((with_reducible show compsIn _ _ = true); rfl)

theorem State.draw_within {L : List Comp} {σ : State} (s : State) (n : Nat) (h0 : Within L σ s) (hs : compsIn [.free] L = true) : Within L σ
    (State.draw s n).2 := by
  refine Within.comp ?_ hs h0
  clear h0 hs
  unfold State.draw
  dsimp only
  repeat' first
    | (with_reducible exact Within.refl _ _)
    | (simp only [Within.lit]; with_reducible refine Within.upd ?_ rfl (fun k hk => ?_))
    | (cases k <;> first | (exact absurd (by decide) hk) | rfl)

theorem State.newSecret_within {L : List Comp} {σ : State} (s : State) (h0 : Within L σ s) (hs : compsIn [.free, .vault] L = true) : Within L σ
    (State.newSecret s) := by
  refine Within.comp ?_ hs h0
  clear h0 hs
  unfold State.newSecret
  dsimp only
  repeat' first
    | (with_reducible exact Within.refl _ _)
    | (with_reducible apply State.draw_within)
    | ((with_reducible show compsIn _ _ = true); rfl)
    | (simp only [Within.lit]; with_reducible refine Within.upd ?_ rfl (fun k hk => ?_))
    | (cases k <;> first | (exact absurd (by decide) hk) | rfl)

theorem State.tamperClear_within {L : List Comp} {σ : State} (s : State) (p : Nat) (data : Word) (h0 : Within L σ s) (hs : compsIn [.regs, .free,
    .pass, .host, .safe, .log, .cvn, .cvnIds, .air, .qmg, .rf, .link, .vault] L = true) : Within L σ (State.tamperClear s p data) := by
  refine Within.comp ?_ hs h0
  clear h0 hs
  unfold State.tamperClear
  dsimp only
  repeat' first
    | (with_reducible exact Within.refl _ _)
    | (with_reducible assumption)
    | (with_reducible apply State.err_within)
    | (with_reducible apply State.guarded_within)
    | (with_reducible apply State.newSecret_within)
    | (with_reducible apply State.setFld_within)
    | (with_reducible apply State.tamperSync_within)
    | ((with_reducible show compsIn _ _ = true); rfl)
    | (with_reducible refine Within.ite (fun _ => ?_) (fun _ => ?_))
    | (intro _)

theorem State.derivedForget_within {L : List Comp} {σ : State} (s : State) (p : Nat) (h0 : Within L σ s) (hs : compsIn [.regs, .key] L = true) :
    Within L σ (State.derivedForget s p) := by
  refine Within.comp ?_ hs h0
  clear h0 hs
  unfold State.derivedForget
  repeat' first
    | (with_reducible exact Within.refl _ _)
    | (with_reducible apply State.setSlots_within)
    | ((with_reducible show compsIn _ _ = true); rfl)

theorem State.keyPanWrite_within {L : List Comp} {σ : State} (s : State) (part p : Nat) (drv : Bool) (data : Word) (h0 : Within L σ s) (hs :
    compsIn [.regs, .key] L = true) : Within L σ (State.keyPanWrite s part p drv data) := by
  refine Within.comp ?_ hs h0
  clear h0 hs
  unfold State.keyPanWrite
  dsimp only
  repeat' first
    | (with_reducible exact Within.refl _ _)
    | (with_reducible apply State.derivedForget_within)
    | (with_reducible apply State.err_within)
    | (with_reducible apply State.setFld_within)
    | (with_reducible apply State.wr_within)
    | ((with_reducible show compsIn _ _ = true); rfl)
    | (with_reducible refine Within.ite (fun _ => ?_) (fun _ => ?_))

theorem State.setServo_within {L : List Comp} {σ : State} (s : State) (x : Nat) (h0 : Within L σ s) (hs : compsIn [.regs] L = true) : Within L σ
    (State.setServo s x) := by
  refine Within.comp ?_ hs h0
  clear h0 hs
  unfold State.setServo
  repeat' first
    | (with_reducible exact Within.refl _ _)
    | (with_reducible apply State.setFld_within)
    | ((with_reducible show compsIn _ _ = true); rfl)

theorem State.setValid_within {L : List Comp} {σ : State} (s : State) (v : Bool) (h0 : Within L σ s) (hs : compsIn [.time] L = true) : Within L σ
    (State.setValid s v) := by
  refine Within.comp ?_ hs h0
  clear h0 hs
  unfold State.setValid
  dsimp only
  repeat' first
    | (with_reducible exact Within.refl _ _)
    | (simp only [Within.lit]; with_reducible refine Within.upd ?_ rfl (fun k hk => ?_))
    | (cases k <;> first | (exact absurd (by decide) hk) | rfl)

theorem State.timeSource_within {L : List Comp} {σ : State} (s : State) (newSrc newDom oldSrc oldDom cause : Nat) (h0 : Within L σ s) (hs :
    compsIn [.pass] L = true) : Within L σ (State.timeSource s newSrc newDom oldSrc oldDom cause) := by
  refine Within.comp ?_ hs h0
  clear h0 hs
  unfold State.timeSource
  repeat' first
    | (with_reducible exact Within.refl _ _)
    | (with_reducible apply State.evtF_within)
    | ((with_reducible show compsIn _ _ = true); rfl)

theorem State.rateTake_within {L : List Comp} {σ : State} (s : State) (h0 : Within L σ s) (hs : compsIn [.free, .time] L = true) : Within L σ
    (State.rateTake s) := by
  refine Within.comp ?_ hs h0
  clear h0 hs
  unfold State.rateTake
  dsimp only
  repeat' first
    | (with_reducible exact Within.refl _ _)
    | (with_reducible apply State.draw_within)
    | ((with_reducible show compsIn _ _ = true); rfl)
    | (simp only [Within.lit]; with_reducible refine Within.upd ?_ rfl (fun k hk => ?_))
    | (cases k <;> first | (exact absurd (by decide) hk) | rfl)

theorem State.enterHoldover_within {L : List Comp} {σ : State} (s : State) (h0 : Within L σ s) (hs : compsIn [.regs, .pass, .time] L = true) : Within
    L σ (State.enterHoldover s) := by
  refine Within.comp ?_ hs h0
  clear h0 hs
  unfold State.enterHoldover
  dsimp only
  repeat' first
    | (with_reducible exact Within.refl _ _)
    | (with_reducible apply State.evtF_within)
    | (with_reducible apply State.setServo_within)
    | ((with_reducible show compsIn _ _ = true); rfl)
    | (with_reducible refine Within.ite (fun _ => ?_) (fun _ => ?_))
    | (simp only [Within.lit]; with_reducible refine Within.upd ?_ rfl (fun k hk => ?_))
    | (cases k <;> first | (exact absurd (by decide) hk) | rfl)

theorem State.leaveHoldover_within {L : List Comp} {σ : State} (s : State) (h0 : Within L σ s) (hs : compsIn [.pass] L = true) : Within L σ
    (State.leaveHoldover s) := by
  refine Within.comp ?_ hs h0
  clear h0 hs
  unfold State.leaveHoldover
  repeat' first
    | (with_reducible exact Within.refl _ _)
    | (with_reducible apply State.evtF_within)
    | ((with_reducible show compsIn _ _ = true); rfl)

theorem State.correct_within {L : List Comp} {σ : State} (s : State) (ahead : Int) (h0 : Within L σ s) (hs : compsIn [.time] L = true) : Within L σ
    (State.correct s ahead) := by
  refine Within.comp ?_ hs h0
  clear h0 hs
  unfold State.correct
  dsimp only
  repeat' first
    | (with_reducible exact Within.refl _ _)
    | (with_reducible refine Within.ite (fun _ => ?_) (fun _ => ?_))
    | (simp only [Within.lit]; with_reducible refine Within.upd ?_ rfl (fun k hk => ?_))
    | (cases k <;> first | (exact absurd (by decide) hk) | rfl)

theorem State.adjust_within {L : List Comp} {σ : State} (s : State) (by_ : Int) (h0 : Within L σ s) (hs : compsIn [.time] L = true) : Within L σ
    (State.adjust s by_) := by
  refine Within.comp ?_ hs h0
  clear h0 hs
  unfold State.adjust
  dsimp only
  repeat' first
    | (with_reducible exact Within.refl _ _)
    | (with_reducible refine Within.ite (fun _ => ?_) (fun _ => ?_))
    | (simp only [Within.lit]; with_reducible refine Within.upd ?_ rfl (fun k hk => ?_))
    | (cases k <;> first | (exact absurd (by decide) hk) | rfl)

theorem State.servoOffset_within {L : List Comp} {σ : State} (s : State) (ahead : Int) (h0 : Within L σ s) (hs : compsIn [.regs, .free, .pass,
    .time] L = true) : Within L σ (State.servoOffset s ahead) := by
  refine Within.comp ?_ hs h0
  clear h0 hs
  unfold State.servoOffset
  dsimp only
  repeat' first
    | (with_reducible exact Within.refl _ _)
    | (with_reducible apply State.correct_within)
    | (with_reducible apply State.leaveHoldover_within)
    | (with_reducible apply State.rateTake_within)
    | (with_reducible apply State.setServo_within)
    | (with_reducible apply State.setValid_within)
    | (with_reducible apply State.wr_within)
    | ((with_reducible show compsIn _ _ = true); rfl)
    | (with_reducible refine Within.ite (fun _ => ?_) (fun _ => ?_))
    | (simp only [Within.lit]; with_reducible refine Within.upd ?_ rfl (fun k hk => ?_))
    | (cases k <;> first | (exact absurd (by decide) hk) | rfl)
    | split

theorem State.only0_within {L : List Comp} {σ : State} (s : State) (p : Nat) (k : Nat) (f : Fld) (ok : State) (h0 : Within L σ s) (hok : Within L σ
    ok) (hs : compsIn [.regs] L = true) : Within L σ (State.only0 s p k f ok) := by
  unfold State.only0
  repeat' first
    | (with_reducible assumption)
    | (with_reducible apply State.err_within)
    | (with_reducible refine Within.ite (fun _ => ?_) (fun _ => ?_))

theorem State.timeSet_within {L : List Comp} {σ : State} (s : State) (p : Nat) (h0 : Within L σ s) (hs : compsIn [.regs, .pass, .time] L = true) :
    Within L σ (State.timeSet s p) := by
  refine Within.comp ?_ hs h0
  clear h0 hs
  unfold State.timeSet
  dsimp only
  repeat' first
    | (with_reducible exact Within.refl _ _)
    | (with_reducible apply State.err_within)
    | (with_reducible apply State.leaveHoldover_within)
    | (with_reducible apply State.only0_within)
    | (with_reducible apply State.setFld_within)
    | (with_reducible apply State.setServo_within)
    | (with_reducible apply State.timeSource_within)
    | ((with_reducible show compsIn _ _ = true); rfl)
    | (with_reducible refine Within.ite (fun _ => ?_) (fun _ => ?_))
    | (simp only [Within.lit]; with_reducible refine Within.upd ?_ rfl (fun k hk => ?_))
    | (cases k <;> first | (exact absurd (by decide) hk) | rfl)

theorem State.timeAdjust_within {L : List Comp} {σ : State} (s : State) (p : Nat) (h0 : Within L σ s) (hs : compsIn [.regs, .time] L = true) : Within
    L σ (State.timeAdjust s p) := by
  refine Within.comp ?_ hs h0
  clear h0 hs
  unfold State.timeAdjust
  repeat' first
    | (with_reducible exact Within.refl _ _)
    | (with_reducible apply State.adjust_within)
    | (with_reducible apply State.only0_within)
    | ((with_reducible show compsIn _ _ = true); rfl)

theorem State.setDom_within {L : List Comp} {σ : State} (s : State) (d : Nat) (x : PtpDom) (h0 : Within L σ s) (hs : compsIn [.time] L = true) :
    Within L σ (State.setDom s d x) := by
  refine Within.comp ?_ hs h0
  clear h0 hs
  unfold State.setDom
  dsimp only
  repeat' first
    | (with_reducible exact Within.refl _ _)
    | (simp only [Within.lit]; with_reducible refine Within.upd ?_ rfl (fun k hk => ?_))
    | (cases k <;> first | (exact absurd (by decide) hk) | rfl)

theorem State.utcSync_within {L : List Comp} {σ : State} (s : State) (h0 : Within L σ s) (hs : compsIn [.regs] L = true) : Within L σ (State.utcSync
    s) := by
  refine Within.comp ?_ hs h0
  clear h0 hs
  unfold State.utcSync
  repeat' first
    | (with_reducible exact Within.refl _ _)
    | (with_reducible apply State.setFld_within)
    | ((with_reducible show compsIn _ _ = true); rfl)
    | split

theorem State.setActive_within {L : List Comp} {σ : State} (s : State) (d cause : Nat) (h0 : Within L σ s) (hs : compsIn [.regs, .pass] L = true)
    : Within L σ (State.setActive s d cause) := by
  refine Within.comp ?_ hs h0
  clear h0 hs
  unfold State.setActive
  dsimp only
  repeat' first
    | (with_reducible exact Within.refl _ _)
    | (with_reducible apply State.setFld_within)
    | (with_reducible apply State.timeSource_within)
    | (with_reducible apply State.utcSync_within)
    | ((with_reducible show compsIn _ _ = true); rfl)
    | (with_reducible refine Within.ite (fun _ => ?_) (fun _ => ?_))

theorem State.domEval_within {L : List Comp} {σ : State} (s : State) (h0 : Within L σ s) (hs : compsIn [.regs, .pass, .time] L = true) : Within L σ
    (State.domEval s) := by
  refine Within.comp ?_ hs h0
  clear h0 hs
  unfold State.domEval
  dsimp only
  repeat' first
    | (with_reducible exact Within.refl _ _)
    | (with_reducible apply State.enterHoldover_within)
    | (with_reducible apply State.setActive_within)
    | (with_reducible apply State.setDom_within)
    | (with_reducible apply State.setFld_within)
    | ((with_reducible show compsIn _ _ = true); rfl)
    | (with_reducible refine Within.ite (fun _ => ?_) (fun _ => ?_))
    | (simp only [Within.lit]; with_reducible refine Within.upd ?_ rfl (fun k hk => ?_))
    | (cases k <;> first | (exact absurd (by decide) hk) | rfl)

theorem State.ptpAnnounce_within {L : List Comp} {σ : State} (s : State) (d : Nat) (m : List Byte) (h0 : Within L σ s) (hs : compsIn [.regs,
    .time, .air, .qmg, .link] L = true) : Within L σ (State.ptpAnnounce s d m) := by
  refine Within.comp ?_ hs h0
  clear h0 hs
  unfold State.ptpAnnounce
  dsimp only
  repeat' first
    | (with_reducible exact Within.refl _ _)
    | (with_reducible apply State.setDom_within)
    | (with_reducible apply State.setFld_within)
    | (with_reducible apply State.utcSync_within)
    | ((with_reducible show compsIn _ _ = true); rfl)
    | split

theorem State.ptpSync_within {L : List Comp} {σ : State} (s : State) (d interval : Nat) (t1 t2 : Int) (h0 : Within L σ s) (hs : compsIn [.regs,
    .free, .pass, .time] L = true) : Within L σ (State.ptpSync s d interval t1 t2) := by
  refine Within.comp ?_ hs h0
  clear h0 hs
  unfold State.ptpSync
  dsimp only
  repeat' first
    | (with_reducible exact Within.refl _ _)
    | (with_reducible apply State.domEval_within)
    | (with_reducible apply State.servoOffset_within)
    | (with_reducible apply State.setDom_within)
    | (with_reducible apply State.wr_within)
    | ((with_reducible show compsIn _ _ = true); rfl)
    | (with_reducible refine Within.ite (fun _ => ?_) (fun _ => ?_))

theorem State.ptpMessage_within {L : List Comp} {σ : State} (s0 : State) (d rx : Nat) (m : List Byte) (h0 : Within L σ s0) (hs : compsIn [.regs,
    .free, .pass, .time, .air, .qmg, .link] L = true) : Within L σ (State.ptpMessage s0 d rx m) := by
  refine Within.comp ?_ hs h0
  clear h0 hs
  unfold State.ptpMessage
  dsimp only
  repeat' first
    | (with_reducible exact Within.refl _ _)
    | (with_reducible apply State.domEval_within)
    | (with_reducible apply State.ptpAnnounce_within)
    | (with_reducible apply State.ptpSync_within)
    | (with_reducible apply State.setDom_within)
    | (with_reducible apply State.setFld_within)
    | (with_reducible apply State.wr_within)
    | ((with_reducible show compsIn _ _ = true); rfl)
    | (with_reducible refine Within.ite (fun _ => ?_) (fun _ => ?_))
    | split

theorem State.elapse_within {L : List Comp} {σ : State} (s : State) (dt : Nat) (h0 : Within L σ s) (hs : compsIn [.now, .time] L = true) : Within L σ
    (State.elapse s dt) := by
  refine Within.comp ?_ hs h0
  clear h0 hs
  unfold State.elapse
  repeat' first
    | (with_reducible exact Within.refl _ _)
    | (simp only [Within.lit]; with_reducible refine Within.upd ?_ rfl (fun k hk => ?_))
    | (cases k <;> first | (exact absurd (by decide) hk) | rfl)

theorem State.advanceTo_within {L : List Comp} {σ : State} (s : State) (t : Nat) (h0 : Within L σ s) (hs : compsIn [.now, .time] L = true) : Within L
    σ (State.advanceTo s t) := by
  refine Within.comp ?_ hs h0
  clear h0 hs
  unfold State.advanceTo
  repeat' first
    | (with_reducible exact Within.refl _ _)
    | (with_reducible apply State.elapse_within)
    | ((with_reducible show compsIn _ _ = true); rfl)

theorem State.passAck_within {L : List Comp} {σ : State} (s : State) (d : Die) (ack : Word) (h0 : Within L σ s) (hs : compsIn [.regs, .pass, .air,
    .qmg, .link] L = true) : Within L σ (State.passAck s d ack) := by
  refine Within.comp ?_ hs h0
  clear h0 hs
  unfold State.passAck
  dsimp only
  repeat' first
    | (with_reducible exact Within.refl _ _)
    | (with_reducible apply State.setTxDir_within)
    | ((with_reducible show compsIn _ _ = true); rfl)
    | (simp only [Within.lit]; with_reducible refine Within.upd ?_ rfl (fun k hk => ?_))
    | (cases k <;> first | (exact absurd (by decide) hk) | rfl)

theorem State.ringPut_within {L : List Comp} {σ : State} (s : State) (p r : Nat) (ws : List Word) (h0 : Within L σ s) (hs : compsIn [.regs, .host]
    L = true) : Within L σ (State.ringPut s p r ws) := by
  refine Within.comp ?_ hs h0
  clear h0 hs
  unfold State.ringPut
  dsimp only
  repeat' first
    | (with_reducible exact Within.refl _ _)
    | (with_reducible apply State.memWrite_within)
    | (with_reducible apply State.setFld_within)
    | ((with_reducible show compsIn _ _ = true); rfl)
    | (simp only [Within.lit]; with_reducible refine Within.upd ?_ rfl (fun k hk => ?_))
    | (cases k <;> first | (exact absurd (by decide) hk) | rfl)

theorem State.vecFire_within {L : List Comp} {σ : State} (s : State) (p v : Nat) (h0 : Within L σ s) (hs : compsIn [.host] L = true) : Within L σ
    (State.vecFire s p v) := by
  refine Within.comp ?_ hs h0
  clear h0 hs
  unfold State.vecFire
  dsimp only
  repeat' first
    | (with_reducible exact Within.refl _ _)
    | (simp only [Within.lit]; with_reducible refine Within.upd ?_ rfl (fun k hk => ?_))
    | (cases k <;> first | (exact absurd (by decide) hk) | rfl)

theorem State.vecTrigger_within {L : List Comp} {σ : State} (s : State) (p v : Nat) (h0 : Within L σ s) (hs : compsIn [.host] L = true) : Within L σ
    (State.vecTrigger s p v) := by
  refine Within.comp ?_ hs h0
  clear h0 hs
  unfold State.vecTrigger
  dsimp only
  repeat' first
    | (with_reducible exact Within.refl _ _)
    | (with_reducible apply State.vecFire_within)
    | ((with_reducible show compsIn _ _ = true); rfl)
    | (with_reducible refine Within.ite (fun _ => ?_) (fun _ => ?_))
    | (simp only [Within.lit]; with_reducible refine Within.upd ?_ rfl (fun k hk => ?_))
    | (cases k <;> first | (exact absurd (by decide) hk) | rfl)

theorem State.evtWrite_within {L : List Comp} {σ : State} (s : State) (p : Nat) (ws : List Word) (h0 : Within L σ s) (hs : compsIn [.regs, .host]
    L = true) : Within L σ (State.evtWrite s p ws) := by
  refine Within.comp ?_ hs h0
  clear h0 hs
  unfold State.evtWrite
  dsimp only
  repeat' first
    | (with_reducible exact Within.refl _ _)
    | (with_reducible apply State.bump_within)
    | (with_reducible apply State.ringPut_within)
    | (with_reducible apply State.vecTrigger_within)
    | ((with_reducible show compsIn _ _ = true); rfl)
    | (with_reducible refine Within.ite (fun _ => ?_) (fun _ => ?_))
    | (simp only [Within.lit]; with_reducible refine Within.upd ?_ rfl (fun k hk => ?_))
    | (cases k <;> first | (exact absurd (by decide) hk) | rfl)

theorem State.evtDeliver_within {L : List Comp} {σ : State} (s : State) (ws : List Word) (p : Nat) (h0 : Within L σ s) (hs : compsIn [.regs,
    .host] L = true) : Within L σ (State.evtDeliver s ws p) := by
  refine Within.comp ?_ hs h0
  clear h0 hs
  unfold State.evtDeliver
  repeat' first
    | (with_reducible exact Within.refl _ _)
    | (with_reducible apply State.evtWrite_within)
    | ((with_reducible show compsIn _ _ = true); rfl)
    | (with_reducible refine Within.ite (fun _ => ?_) (fun _ => ?_))

theorem State.evtRoute_within {L : List Comp} {σ : State} (s : State) (ws : List Word) (h0 : Within L σ s) (hs : compsIn [.regs, .host] L = true)
    : Within L σ (State.evtRoute s ws) := by
  refine Within.comp ?_ hs h0
  clear h0 hs
  unfold State.evtRoute
  repeat' first
    | (with_reducible exact Within.refl _ _)
    | (with_reducible assumption)
    | (with_reducible apply State.evtDeliver_within)
    | ((with_reducible show compsIn _ _ = true); rfl)
    | (with_reducible refine Within.foldl ?_ (fun _ _ _ => ?_))

theorem State.evtH_within {L : List Comp} {σ : State} (s : State) (src mask : Nat) (p0 p1 p2 : Word) (h0 : Within L σ s) (hs : compsIn [.regs,
    .host] L = true) : Within L σ (State.evtH s src mask p0 p1 p2) := by
  refine Within.comp ?_ hs h0
  clear h0 hs
  unfold State.evtH
  repeat' first
    | (with_reducible exact Within.refl _ _)
    | (with_reducible apply State.evtRoute_within)
    | ((with_reducible show compsIn _ _ = true); rfl)

theorem State.passReject_within {L : List Comp} {σ : State} (s : State) (d : Die) (typ : Nat) (m : PassMsg) (h0 : Within L σ s) (hs : compsIn
    [.regs, .free, .pass, .host] L = true) : Within L σ (State.passReject s d typ m) := by
  refine Within.comp ?_ hs h0
  clear h0 hs
  unfold State.passReject
  dsimp only
  repeat' first
    | (with_reducible exact Within.refl _ _)
    | (with_reducible apply State.bump_within)
    | (with_reducible apply State.evtF_within)
    | (with_reducible apply State.evtH_within)
    | (with_reducible apply State.free!_within)
    | (with_reducible apply State.wr_within)
    | ((with_reducible show compsIn _ _ = true); rfl)
    | (simp only [Within.lit]; with_reducible refine Within.upd ?_ rfl (fun k hk => ?_))
    | (cases k <;> first | (exact absurd (by decide) hk) | rfl)
    | split

theorem State.setRxDir_within {L : List Comp} {σ : State} (s : State) (d : Die) (x : PassDir) (h0 : Within L σ s) (hs : compsIn [.pass] L = true)
    : Within L σ (State.setRxDir s d x) := by
  refine Within.comp ?_ hs h0
  clear h0 hs
  unfold State.setRxDir
  dsimp only
  repeat' first
    | (with_reducible exact Within.refl _ _)
    | (simp only [Within.lit]; with_reducible refine Within.upd ?_ rfl (fun k hk => ?_))
    | (cases k <;> first | (exact absurd (by decide) hk) | rfl)
    | split

theorem State.passRx_within {L : List Comp} {σ : State} (s : State) (d : Die) (typ : Nat) (m : PassMsg) (act rejected : State → State) (h0 :
    Within L σ s) (hact : ∀ u , Within L σ u → Within L σ (act u )) (hrejected : ∀ u , Within L σ u → Within L σ (rejected u )) (hs : compsIn [.regs, .free,
    .pass, .host, .air, .qmg, .rx, .link] L = true) : Within L σ (State.passRx s d typ m act rejected) := by
  unfold State.passRx
  dsimp only
  repeat' first
    | (with_reducible assumption)
    | (with_reducible apply hact)
    | (with_reducible apply hrejected)
    | (with_reducible apply State.bump_within)
    | (with_reducible apply State.passAck_within)
    | (with_reducible apply State.passReject_within)
    | (with_reducible apply State.setRxDir_within)
    | (exact compsIn_trans (m := [.regs, .free, .pass, .host, .air, .qmg, .rx, .link]) rfl hs)
    | (with_reducible refine Within.ite (fun _ => ?_) (fun _ => ?_))

theorem State.srcWrite_within {L : List Comp} {σ : State} (s : State) (p : Nat) (data : Word) (h0 : Within L σ s) (hs : compsIn [.regs, .pass,
    .time] L = true) : Within L σ (State.srcWrite s p data) := by
  refine Within.comp ?_ hs h0
  clear h0 hs
  unfold State.srcWrite
  dsimp only
  repeat' first
    | (with_reducible exact Within.refl _ _)
    | (with_reducible apply State.domEval_within)
    | (with_reducible apply State.enterHoldover_within)
    | (with_reducible apply State.only0_within)
    | (with_reducible apply State.timeSource_within)
    | (with_reducible apply State.wr_within)
    | ((with_reducible show compsIn _ _ = true); rfl)
    | (with_reducible refine Within.ite (fun _ => ?_) (fun _ => ?_))
    | (simp only [Within.lit]; with_reducible refine Within.upd ?_ rfl (fun k hk => ?_))
    | (cases k <;> first | (exact absurd (by decide) hk) | rfl)

theorem State.toNs_within {L : List Comp} {σ : State} (s : State) (t : Nat) (h0 : Within L σ s) (hs : compsIn [.now, .time] L = true) : Within L σ
    (State.toNs s t) := by
  refine Within.comp ?_ hs h0
  clear h0 hs
  unfold State.toNs
  dsimp only
  repeat' first
    | (with_reducible exact Within.refl _ _)
    | (with_reducible apply State.elapse_within)
    | ((with_reducible show compsIn _ _ = true); rfl)

theorem State.ppsWrite_within {L : List Comp} {σ : State} (_s : State) (p : Nat) (plain : State) (h0 : Within L σ _s) (hplain : Within L σ plain) (hs
    : compsIn [.time] L = true) : Within L σ (State.ppsWrite _s p plain) := by
  unfold State.ppsWrite
  dsimp only
  repeat' first
    | (with_reducible assumption)
    | (with_reducible refine Within.ite (fun _ => ?_) (fun _ => ?_))
    | (simp only [Within.lit]; with_reducible refine Within.upd ?_ rfl (fun k hk => ?_))
    | (cases k <;> first | (exact absurd (compsIn_mem hs (by decide)) hk) | rfl)

theorem State.answer_within {L : List Comp} {σ : State} (s : State) (p : Nat) (w : Word) (h0 : Within L σ s) (hs : compsIn [.host] L = true) : Within
    L σ (State.answer s p w) := by
  refine Within.comp ?_ hs h0
  clear h0 hs
  unfold State.answer
  dsimp only
  repeat' first
    | (with_reducible exact Within.refl _ _)
    | (simp only [Within.lit]; with_reducible refine Within.upd ?_ rfl (fun k hk => ?_))
    | (cases k <;> first | (exact absurd (by decide) hk) | rfl)

theorem State.timeRead_within {L : List Comp} {σ : State} (s : State) (p : Nat) (h0 : Within L σ s) (hs : compsIn [.host, .time] L = true) : Within L
    σ (State.timeRead s p) := by
  refine Within.comp ?_ hs h0
  clear h0 hs
  unfold State.timeRead
  dsimp only
  repeat' first
    | (with_reducible exact Within.refl _ _)
    | (with_reducible apply State.answer_within)
    | ((with_reducible show compsIn _ _ = true); rfl)
    | (simp only [Within.lit]; with_reducible refine Within.upd ?_ rfl (fun k hk => ?_))
    | (cases k <;> first | (exact absurd (by decide) hk) | rfl)

theorem State.setTimer_within {L : List Comp} {σ : State} (s : State) (t : Nat) (x : TimerSt) (h0 : Within L σ s) (hs : compsIn [.time] L = true)
    : Within L σ (State.setTimer s t x) := by
  refine Within.comp ?_ hs h0
  clear h0 hs
  unfold State.setTimer
  dsimp only
  repeat' first
    | (with_reducible exact Within.refl _ _)
    | (simp only [Within.lit]; with_reducible refine Within.upd ?_ rfl (fun k hk => ?_))
    | (cases k <;> first | (exact absurd (by decide) hk) | rfl)

theorem State.tmrEvt_within {L : List Comp} {σ : State} (s : State) (p0 p1 : Nat) (h0 : Within L σ s) (hs : compsIn [.pass] L = true) : Within L σ
    (State.tmrEvt s p0 p1) := by
  refine Within.comp ?_ hs h0
  clear h0 hs
  unfold State.tmrEvt
  repeat' first
    | (with_reducible exact Within.refl _ _)
    | (with_reducible apply State.evtF_within)
    | ((with_reducible show compsIn _ _ = true); rfl)

theorem State.setTout_within {L : List Comp} {σ : State} (s : State) (k : Nat) (v : Bool) (h0 : Within L σ s) (hs : compsIn [.regs] L = true) : Within
    L σ (State.setTout s k v) := by
  refine Within.comp ?_ hs h0
  clear h0 hs
  unfold State.setTout
  repeat' first
    | (with_reducible exact Within.refl _ _)
    | (with_reducible apply State.setFld_within)
    | ((with_reducible show compsIn _ _ = true); rfl)

set_option maxRecDepth 20000 in
theorem State.toutFire_within {L : List Comp} {σ : State} (s : State) (t k : Nat) (h0 : Within L σ s) (hs : compsIn [.regs, .time] L = true) : Within
    L σ (State.toutFire s t k) := by
  refine Within.comp ?_ hs h0
  clear h0 hs
  unfold State.toutFire
  dsimp only
  repeat' first
    | (with_reducible exact Within.refl _ _)
    | (with_reducible apply State.setTout_within)
    | ((with_reducible show compsIn _ _ = true); rfl)
    | (with_reducible refine Within.ite (fun _ => ?_) (fun _ => ?_))
    | (simp only [Within.lit]; with_reducible refine Within.upd ?_ rfl (fun k hk => ?_))
    | (cases k <;> first | (exact absurd (by decide) hk) | (simp only [State.sameAt]; done) | rfl)
    | split

theorem State.pwrExit_within {L : List Comp} {σ : State} (s : State) (st cause wake : Nat) (h0 : Within L σ s) (hs : compsIn [.pwr] L = true) : Within
    L σ (State.pwrExit s st cause wake) := by
  refine Within.comp ?_ hs h0
  clear h0 hs
  unfold State.pwrExit
  dsimp only
  repeat' first
    | (with_reducible exact Within.refl _ _)
    | (simp only [Within.lit]; with_reducible refine Within.upd ?_ rfl (fun k hk => ?_))
    | (cases k <;> first | (exact absurd (by decide) hk) | rfl)

theorem State.vaultLeave_within {L : List Comp} {σ : State} (s : State) (code : Nat) (h0 : Within L σ s) (hs : compsIn [.pwr] L = true) : Within L σ
    (State.vaultLeave s code) := by
  refine Within.comp ?_ hs h0
  clear h0 hs
  unfold State.vaultLeave
  dsimp only
  repeat' first
    | (with_reducible exact Within.refl _ _)
    | (with_reducible refine Within.ite (fun _ => ?_) (fun _ => ?_))
    | (simp only [Within.lit]; with_reducible refine Within.upd ?_ rfl (fun k hk => ?_))
    | (cases k <;> first | (exact absurd (by decide) hk) | rfl)

theorem State.pwrLeave_within {L : List Comp} {σ : State} (s : State) (st cause wake : Nat) (h0 : Within L σ s) (hs : compsIn [.pwr] L = true) :
    Within L σ (State.pwrLeave s st cause wake) := by
  refine Within.comp ?_ hs h0
  clear h0 hs
  unfold State.pwrLeave
  dsimp only
  repeat' first
    | (with_reducible exact Within.refl _ _)
    | (with_reducible apply State.pwrExit_within)
    | (with_reducible apply State.vaultLeave_within)
    | ((with_reducible show compsIn _ _ = true); rfl)
    | (with_reducible refine Within.ite (fun _ => ?_) (fun _ => ?_))
    | (simp only [Within.lit]; with_reducible refine Within.upd ?_ rfl (fun k hk => ?_))
    | (cases k <;> first | (exact absurd (by decide) hk) | rfl)

theorem State.wake_within {L : List Comp} {σ : State} (s : State) (code : Nat) (h0 : Within L σ s) (hs : compsIn [.pwr] L = true) : Within L σ
    (State.wake s code) := by
  refine Within.comp ?_ hs h0
  clear h0 hs
  unfold State.wake
  repeat' first
    | (with_reducible exact Within.refl _ _)
    | (with_reducible apply State.pwrLeave_within)
    | (with_reducible apply State.vaultLeave_within)
    | ((with_reducible show compsIn _ _ = true); rfl)
    | (with_reducible refine Within.ite (fun _ => ?_) (fun _ => ?_))

theorem State.compareFire_within {L : List Comp} {σ : State} (s : State) (t : Nat) (h0 : Within L σ s) (hs : compsIn [.regs, .pass, .time, .pwr] L
    = true) : Within L σ (State.compareFire s t) := by
  refine Within.comp ?_ hs h0
  clear h0 hs
  unfold State.compareFire
  dsimp only
  repeat' first
    | (with_reducible exact Within.refl _ _)
    | (with_reducible assumption)
    | (with_reducible apply State.setFld_within)
    | (with_reducible apply State.setTimer_within)
    | (with_reducible apply State.tmrEvt_within)
    | (with_reducible apply State.toutFire_within)
    | (with_reducible apply State.wake_within)
    | ((with_reducible show compsIn _ _ = true); rfl)
    | (with_reducible refine Within.ite (fun _ => ?_) (fun _ => ?_))
    | (with_reducible refine Within.foldl ?_ (fun _ _ _ => ?_))

theorem State.wrapRaise_within {L : List Comp} {σ : State} (s : State) (t : Nat) (h0 : Within L σ s) (hs : compsIn [.regs, .pass] L = true) : Within L
    σ (State.wrapRaise s t) := by
  refine Within.comp ?_ hs h0
  clear h0 hs
  unfold State.wrapRaise
  dsimp only
  repeat' first
    | (with_reducible exact Within.refl _ _)
    | (with_reducible apply State.setFld_within)
    | (with_reducible apply State.tmrEvt_within)
    | ((with_reducible show compsIn _ _ = true); rfl)
    | (with_reducible refine Within.ite (fun _ => ?_) (fun _ => ?_))

theorem State.preloadTake_within {L : List Comp} {σ : State} (s : State) (t : Nat) (h0 : Within L σ s) (hs : compsIn [.regs, .pass, .time, .pwr] L
    = true) : Within L σ (State.preloadTake s t) := by
  refine Within.comp ?_ hs h0
  clear h0 hs
  unfold State.preloadTake
  dsimp only
  repeat' first
    | (with_reducible exact Within.refl _ _)
    | (with_reducible apply State.compareFire_within)
    | (with_reducible apply State.setTimer_within)
    | ((with_reducible show compsIn _ _ = true); rfl)
    | (with_reducible refine Within.ite (fun _ => ?_) (fun _ => ?_))

theorem State.timerClear_within {L : List Comp} {σ : State} (s : State) (p t : Nat) (h0 : Within L σ s) (hs : compsIn [.regs, .time] L = true) :
    Within L σ (State.timerClear s p t) := by
  refine Within.comp ?_ hs h0
  clear h0 hs
  unfold State.timerClear
  dsimp only
  repeat' first
    | (with_reducible exact Within.refl _ _)
    | (with_reducible apply State.only0_within)
    | (with_reducible apply State.setTimer_within)
    | ((with_reducible show compsIn _ _ = true); rfl)

theorem State.compareWrite_within {L : List Comp} {σ : State} (s : State) (p t : Nat) (data : Word) (h0 : Within L σ s) (hs : compsIn [.regs,
    .pass, .time, .pwr] L = true) : Within L σ (State.compareWrite s p t data) := by
  refine Within.comp ?_ hs h0
  clear h0 hs
  unfold State.compareWrite
  dsimp only
  repeat' first
    | (with_reducible exact Within.refl _ _)
    | (with_reducible apply State.compareFire_within)
    | (with_reducible apply State.only0_within)
    | (with_reducible apply State.setTimer_within)
    | ((with_reducible show compsIn _ _ = true); rfl)
    | (with_reducible refine Within.ite (fun _ => ?_) (fun _ => ?_))

theorem State.periodWrite_within {L : List Comp} {σ : State} (s : State) (p t : Nat) (data : Word) (h0 : Within L σ s) (hs : compsIn [.regs,
    .pass, .time, .pwr] L = true) : Within L σ (State.periodWrite s p t data) := by
  refine Within.comp ?_ hs h0
  clear h0 hs
  unfold State.periodWrite
  dsimp only
  repeat' first
    | (with_reducible exact Within.refl _ _)
    | (with_reducible apply State.only0_within)
    | (with_reducible apply State.preloadTake_within)
    | (with_reducible apply State.setTimer_within)
    | (with_reducible apply State.wrapRaise_within)
    | ((with_reducible show compsIn _ _ = true); rfl)
    | (with_reducible refine Within.ite (fun _ => ?_) (fun _ => ?_))

theorem State.countRead_within {L : List Comp} {σ : State} (s : State) (p t : Nat) (h0 : Within L σ s) (hs : compsIn [.host, .time] L = true) : Within
    L σ (State.countRead s p t) := by
  refine Within.comp ?_ hs h0
  clear h0 hs
  unfold State.countRead
  dsimp only
  repeat' first
    | (with_reducible exact Within.refl _ _)
    | (with_reducible apply State.answer_within)
    | (with_reducible apply State.setTimer_within)
    | ((with_reducible show compsIn _ _ = true); rfl)

theorem State.toutWrite_within {L : List Comp} {σ : State} (s : State) (p k : Nat) (data : Word) (h0 : Within L σ s) (hs : compsIn [.regs, .time]
    L = true) : Within L σ (State.toutWrite s p k data) := by
  refine Within.comp ?_ hs h0
  clear h0 hs
  unfold State.toutWrite
  dsimp only
  repeat' first
    | (with_reducible exact Within.refl _ _)
    | (with_reducible apply State.only0_within)
    | (with_reducible apply State.setTout_within)
    | (with_reducible apply State.wr_within)
    | ((with_reducible show compsIn _ _ = true); rfl)
    | (with_reducible refine Within.ite (fun _ => ?_) (fun _ => ?_))
    | (simp only [Within.lit]; with_reducible refine Within.upd ?_ rfl (fun k hk => ?_))
    | (cases k <;> first | (exact absurd (by decide) hk) | rfl)

theorem State.capWrite_within {L : List Comp} {σ : State} (s : State) (p i : Nat) (data : Word) (h0 : Within L σ s) (hs : compsIn [.regs, .time] L
    = true) : Within L σ (State.capWrite s p i data) := by
  refine Within.comp ?_ hs h0
  clear h0 hs
  unfold State.capWrite
  dsimp only
  repeat' first
    | (with_reducible exact Within.refl _ _)
    | (with_reducible apply State.only0_within)
    | (with_reducible apply State.wr_within)
    | ((with_reducible show compsIn _ _ = true); rfl)
    | (simp only [Within.lit]; with_reducible refine Within.upd ?_ rfl (fun k hk => ?_))
    | (cases k <;> first | (exact absurd (by decide) hk) | rfl)

theorem State.engSet_within {L : List Comp} {σ : State} (s : State) (e st : Nat) (h0 : Within L σ s) (hs : compsIn [.regs] L = true) : Within L σ
    (State.engSet s e st) := by
  refine Within.comp ?_ hs h0
  clear h0 hs
  unfold State.engSet
  repeat' first
    | (with_reducible exact Within.refl _ _)
    | (with_reducible apply State.setFld_within)
    | ((with_reducible show compsIn _ _ = true); rfl)

theorem State.setEng_within {L : List Comp} {σ : State} (s : State) (e : Nat) (x : EngineSt) (h0 : Within L σ s) (hs : compsIn [.slot] L = true) :
    Within L σ (State.setEng s e x) := by
  refine Within.comp ?_ hs h0
  clear h0 hs
  unfold State.setEng
  dsimp only
  repeat' first
    | (with_reducible exact Within.refl _ _)
    | (simp only [Within.lit]; with_reducible refine Within.upd ?_ rfl (fun k hk => ?_))
    | (cases k <;> first | (exact absurd (by decide) hk) | rfl)

theorem State.engPrimary_within {L : List Comp} {σ : State} (s : State) (e : Nat) (h0 : Within L σ s) (hs : compsIn [.regs] L = true) : Within L σ
    (State.engPrimary s e) := by
  refine Within.comp ?_ hs h0
  clear h0 hs
  unfold State.engPrimary
  repeat' first
    | (with_reducible exact Within.refl _ _)
    | (with_reducible apply State.engSet_within)
    | (with_reducible apply State.setFld_within)
    | ((with_reducible show compsIn _ _ = true); rfl)

theorem State.matchSync_within {L : List Comp} {σ : State} (s : State) (h0 : Within L σ s) (hs : compsIn [.regs] L = true) : Within L σ
    (State.matchSync s) := by
  refine Within.comp ?_ hs h0
  clear h0 hs
  unfold State.matchSync
  dsimp only
  repeat' first
    | (with_reducible exact Within.refl _ _)
    | (with_reducible apply State.setFld_within)
    | ((with_reducible show compsIn _ _ = true); rfl)

theorem State.engStart_within {L : List Comp} {σ : State} (s : State) (h0 : Within L σ s) (hs : compsIn [.regs] L = true) : Within L σ (State.engStart
    s) := by
  refine Within.comp ?_ hs h0
  clear h0 hs
  unfold State.engStart
  dsimp only
  repeat' first
    | (with_reducible exact Within.refl _ _)
    | (with_reducible assumption)
    | (with_reducible apply State.engPrimary_within)
    | (with_reducible apply State.engSet_within)
    | ((with_reducible show compsIn _ _ = true); rfl)
    | (with_reducible refine Within.foldl ?_ (fun _ _ _ => ?_))
    | split

theorem State.engDisable_within {L : List Comp} {σ : State} (s : State) (e : Nat) (h0 : Within L σ s) (hs : compsIn [.regs, .slot] L = true) : Within
    L σ (State.engDisable s e) := by
  refine Within.comp ?_ hs h0
  clear h0 hs
  unfold State.engDisable
  repeat' first
    | (with_reducible exact Within.refl _ _)
    | (with_reducible apply State.engSet_within)
    | (with_reducible apply State.matchSync_within)
    | (with_reducible apply State.setEng_within)
    | (with_reducible apply State.setFld_within)
    | ((with_reducible show compsIn _ _ = true); rfl)

theorem State.switchOver_within {L : List Comp} {σ : State} (s : State) (e cause asn : Nat) (h0 : Within L σ s) (hs : compsIn [.regs, .pass,
    .host, .safe, .log, .cvn, .cvnIds, .air, .qmg, .rf, .link, .slot] L = true) : Within L σ (State.switchOver s e cause asn) := by
  refine Within.comp ?_ hs h0
  clear h0 hs
  unfold State.switchOver
  dsimp only
  repeat' first
    | (with_reducible exact Within.refl _ _)
    | (with_reducible apply State.bump_within)
    | (with_reducible apply State.engDisable_within)
    | (with_reducible apply State.engPrimary_within)
    | (with_reducible apply State.evtF_within)
    | (with_reducible apply State.ledger_within)
    | (with_reducible apply State.matchSync_within)
    | (with_reducible apply State.setEng_within)
    | ((with_reducible show compsIn _ _ = true); rfl)

theorem State.engGood_within {L : List Comp} {σ : State} (s : State) (h0 : Within L σ s) (hs : compsIn [.regs, .safe] L = true) : Within L σ
    (State.engGood s) := by
  refine Within.comp ?_ hs h0
  clear h0 hs
  unfold State.engGood
  dsimp only
  repeat' first
    | (with_reducible exact Within.refl _ _)
    | (with_reducible apply State.quietOver_within)
    | ((with_reducible show compsIn _ _ = true); rfl)
    | (with_reducible refine Within.ite (fun _ => ?_) (fun _ => ?_))
    | (simp only [Within.lit]; with_reducible refine Within.upd ?_ rfl (fun k hk => ?_))
    | (cases k <;> first | (exact absurd (by decide) hk) | rfl)
    | split

theorem State.engBad_within {L : List Comp} {σ : State} (s : State) (h0 : Within L σ s) (hs : compsIn [.safe] L = true) : Within L σ (State.engBad s)
    := by
  refine Within.comp ?_ hs h0
  clear h0 hs
  unfold State.engBad
  dsimp only
  repeat' first
    | (with_reducible exact Within.refl _ _)
    | (simp only [Within.lit]; with_reducible refine Within.upd ?_ rfl (fun k hk => ?_))
    | (cases k <;> first | (exact absurd (by decide) hk) | rfl)

theorem State.quiet_within {L : List Comp} {σ : State} (s : State) (c : Nat) (h0 : Within L σ s) (hs : compsIn [.regs, .pass, .host, .safe, .log,
    .cvn, .cvnIds, .air, .qmg, .rf, .link] L = true) : Within L σ (State.quiet s c) := by
  refine Within.comp ?_ hs h0
  clear h0 hs
  unfold State.quiet
  dsimp only
  repeat' first
    | (with_reducible exact Within.refl _ _)
    | (with_reducible apply State.quietEnds_within)
    | (with_reducible apply State.quietLatch_within)
    | (with_reducible apply State.quietLedger_within)
    | (with_reducible apply State.quietReport_within)
    | ((with_reducible show compsIn _ _ = true); rfl)
    | (with_reducible refine Within.ite (fun _ => ?_) (fun _ => ?_))

theorem State.engCheck_within {L : List Comp} {σ : State} (s : State) (k : SlotCheck) (asn : Nat) (h0 : Within L σ s) (hs : compsIn [.regs, .pass,
    .host, .safe, .log, .cvn, .cvnIds, .air, .qmg, .rf, .link, .slot] L = true) : Within L σ (State.engCheck s k asn) := by
  refine Within.comp ?_ hs h0
  clear h0 hs
  unfold State.engCheck
  dsimp only
  repeat' first
    | (with_reducible exact Within.refl _ _)
    | (with_reducible apply State.engBad_within)
    | (with_reducible apply State.engDisable_within)
    | (with_reducible apply State.engGood_within)
    | (with_reducible apply State.matchSync_within)
    | (with_reducible apply State.quiet_within)
    | (with_reducible apply State.setEng_within)
    | (with_reducible apply State.switchOver_within)
    | ((with_reducible show compsIn _ _ = true); rfl)
    | (with_reducible refine Within.ite (fun _ => ?_) (fun _ => ?_))

theorem State.queueCheck_within {L : List Comp} {σ : State} (s : State) (q : Nat) (h0 : Within L σ s) (hs : compsIn [.regs, .pass, .host, .safe,
    .log, .cvn, .cvnIds, .air, .qmg, .rf, .link, .key, .vault, .mesh] L = true) : Within L σ (State.queueCheck s q) := by
  refine Within.comp ?_ hs h0
  clear h0 hs
  unfold State.queueCheck
  repeat' first
    | (with_reducible exact Within.refl _ _)
    | (with_reducible apply State.queueFault_within)
    | ((with_reducible show compsIn _ _ = true); rfl)
    | (with_reducible refine Within.ite (fun _ => ?_) (fun _ => ?_))

theorem State.slotQueueCheck_within {L : List Comp} {σ : State} (s : State) (cells : List Cell) (h0 : Within L σ s) (hs : compsIn [.regs, .pass,
    .host, .safe, .log, .cvn, .cvnIds, .air, .qmg, .rf, .link, .key, .vault, .mesh] L = true) : Within L σ (State.slotQueueCheck s cells) :=
    by
  refine Within.comp ?_ hs h0
  clear h0 hs
  unfold State.slotQueueCheck
  repeat' first
    | (with_reducible exact Within.refl _ _)
    | (with_reducible assumption)
    | (with_reducible apply State.queueCheck_within)
    | ((with_reducible show compsIn _ _ = true); rfl)
    | (with_reducible refine Within.foldl ?_ (fun _ _ _ => ?_))

theorem State.grantCount_within {L : List Comp} {σ : State} (s : State) (g : Grant) (h0 : Within L σ s) (hs : compsIn [.regs] L = true) : Within L σ
    (State.grantCount s g) := by
  cases g
  · exact h0
  · exact State.bump_within _ _ h0 hs
  · exact State.bump_within _ _ h0 hs

theorem State.admitOn_within {L : List Comp} {σ : State} (s : State) (p : Plan) (b : Nat) (h0 : Within L σ s) (hs : compsIn [.regs, .air, .slot] L
    = true) : Within L σ (State.admitOn s p b) := by
  refine Within.comp ?_ hs h0
  clear h0 hs
  unfold State.admitOn
  dsimp only
  repeat' first
    | (with_reducible exact Within.refl _ _)
    | (with_reducible apply State.bump_within)
    | (with_reducible apply State.grantCount_within)
    | ((with_reducible show compsIn _ _ = true); rfl)
    | (with_reducible refine Within.ite (fun _ => ?_) (fun _ => ?_))
    | (simp only [Within.lit]; with_reducible refine Within.upd ?_ rfl (fun k hk => ?_))
    | (cases k <;> first | (exact absurd (by decide) hk) | rfl)
    | split

theorem State.fillTx_within {L : List Comp} {σ : State} (s : State) (from_ level : Nat) (counter dsn : Option Nat) (bytes : List Byte) (hdr :
    MacHdr) (psdu : List Byte) (h0 : Within L σ s) (hs : compsIn [.air] L = true) : Within L σ (State.fillTx s from_ level counter dsn bytes hdr
    psdu) := by
  refine Within.comp ?_ hs h0
  clear h0 hs
  unfold State.fillTx
  repeat' first
    | (with_reducible exact Within.refl _ _)
    | (simp only [Within.lit]; with_reducible refine Within.upd ?_ rfl (fun k hk => ?_))
    | (cases k <;> first | (exact absurd (by decide) hk) | rfl)

theorem State.unadmit_within {L : List Comp} {σ : State} (s : State) (from_ : Nat) (h0 : Within L σ s) (hs : compsIn [.air, .slot] L = true) : Within
    L σ (State.unadmit s from_) := by
  refine Within.comp ?_ hs h0
  clear h0 hs
  unfold State.unadmit
  dsimp only
  repeat' first
    | (with_reducible exact Within.refl _ _)
    | (simp only [Within.lit]; with_reducible refine Within.upd ?_ rfl (fun k hk => ?_))
    | (cases k <;> first | (exact absurd (by decide) hk) | rfl)

theorem State.prepBad_within {L : List Comp} {σ : State} (s : State) (x : Cand) (h0 : Within L σ s) (hs : compsIn [.regs, .free, .pass, .host,
    .safe, .log, .cvn, .cvnIds, .air, .qmg, .rf, .link, .key, .vault, .mesh] L = true) : Within L σ (State.prepBad s x) := by
  refine Within.comp ?_ hs h0
  clear h0 hs
  unfold State.prepBad
  dsimp only
  repeat' first
    | (with_reducible exact Within.refl _ _)
    | (with_reducible apply State.draw_within)
    | (with_reducible apply State.finish_within)
    | ((with_reducible show compsIn _ _ = true); rfl)

theorem State.frameMod_within {L : List Comp} {σ : State} (s : State) (q id : Nat) (g : Frame → Frame) (h0 : Within L σ s) (hs : compsIn [.qmg] L
    = true) : Within L σ (State.frameMod s q id g) := by
  refine Within.comp ?_ hs h0
  clear h0 hs
  unfold State.frameMod
  dsimp only
  repeat' first
    | (with_reducible exact Within.refl _ _)
    | (with_reducible apply State.setQueue_within)
    | ((with_reducible show compsIn _ _ = true); rfl)

theorem State.setShaper_within {L : List Comp} {σ : State} (s : State) (i : Nat) (x : Shaper) (h0 : Within L σ s) (hs : compsIn [.shp] L = true) :
    Within L σ (State.setShaper s i x) := by
  refine Within.comp ?_ hs h0
  clear h0 hs
  unfold State.setShaper
  dsimp only
  repeat' first
    | (with_reducible exact Within.refl _ _)
    | (simp only [Within.lit]; with_reducible refine Within.upd ?_ rfl (fun k hk => ?_))
    | (cases k <;> first | (exact absurd (by decide) hk) | rfl)

theorem State.shapeCharge_within {L : List Comp} {σ : State} (s : State) (q len : Nat) (h0 : Within L σ s) (hs : compsIn [.time, .shp] L = true) :
    Within L σ (State.shapeCharge s q len) := by
  refine Within.comp ?_ hs h0
  clear h0 hs
  unfold State.shapeCharge
  dsimp only
  repeat' first
    | (with_reducible exact Within.refl _ _)
    | (with_reducible apply State.setShaper_within)
    | ((with_reducible show compsIn _ _ = true); rfl)
    | (with_reducible refine Within.ite (fun _ => ?_) (fun _ => ?_))
    | split

theorem State.commit__within {L : List Comp} {σ : State} (s : State) (x : Cand) (p : Plan) (from_ : Nat) (key : Option (KeyRole × KeySlot))
    (h0 : Within L σ s) (hs : compsIn [.regs, .pass, .time, .air, .qmg, .shp, .link, .slot, .key, .vault] L = true) : Within L σ (State.commit_ s
    x p from_ key) := by
  refine Within.comp ?_ hs h0
  clear h0 hs
  unfold State.commit_
  dsimp only
  repeat' first
    | (with_reducible exact Within.refl _ _)
    | (with_reducible apply State.bump_within)
    | (with_reducible apply State.ctrTake_within)
    | (with_reducible apply State.fillTx_within)
    | (with_reducible apply State.frameMod_within)
    | (with_reducible apply State.keyUse_within)
    | (with_reducible apply State.setNbr_within)
    | (with_reducible apply State.shapeCharge_within)
    | ((with_reducible show compsIn _ _ = true); rfl)
    | (with_reducible refine Within.ite (fun _ => ?_) (fun _ => ?_))
    | (with_reducible refine Within.ite2 (fun _ => ?_) (fun _ => ?_))
    | (simp only [Within.lit]; with_reducible refine Within.upd ?_ rfl (fun k hk => ?_))
    | (cases k <;> first | (exact absurd (by decide) hk) | rfl)
    | split

theorem State.frameCheckFail_within {L : List Comp} {σ : State} (s : State) (q : Nat) (f : Frame) (h0 : Within L σ s) (hs : compsIn [.regs, .pass,
    .host, .safe, .log, .cvn, .cvnIds, .air, .qmg, .rf, .link, .key, .vault, .mesh] L = true) : Within L σ (State.frameCheckFail s q f) := by
  refine Within.comp ?_ hs h0
  clear h0 hs
  unfold State.frameCheckFail
  repeat' first
    | (with_reducible exact Within.refl _ _)
    | (with_reducible apply State.bump_within)
    | (with_reducible apply State.finish_within)
    | (with_reducible apply State.ledger_within)
    | ((with_reducible show compsIn _ _ = true); rfl)

theorem State.candAdmit_within {L : List Comp} {σ : State} (s : State) (x : Cand) (p : Plan) (beams : List Nat) (key : Option (KeyRole ×
    KeySlot)) (h0 : Within L σ s) (hs : compsIn [.regs, .pass, .host, .time, .safe, .log, .cvn, .cvnIds, .air, .qmg, .shp, .rf, .link, .slot,
    .key, .vault, .mesh] L = true) : Within L σ (State.candAdmit s x p beams key) := by
  refine Within.comp ?_ hs h0
  clear h0 hs
  unfold State.candAdmit
  dsimp only
  repeat' first
    | (with_reducible exact Within.refl _ _)
    | (with_reducible assumption)
    | (with_reducible apply State.admitOn_within)
    | (with_reducible apply State.commit__within)
    | (with_reducible apply State.frameCheckFail_within)
    | (with_reducible apply State.unadmit_within)
    | ((with_reducible show compsIn _ _ = true); rfl)
    | (with_reducible refine Within.ite (fun _ => ?_) (fun _ => ?_))
    | (with_reducible refine Within.foldl ?_ (fun _ _ _ => ?_))

theorem State.candKey_within {L : List Comp} {σ : State} (s : State) (x : Cand) (p : Plan) (beams : List Nat) (h0 : Within L σ s) (hs : compsIn
    [.regs, .pass, .host, .time, .safe, .log, .cvn, .cvnIds, .air, .qmg, .shp, .rf, .link, .slot, .key, .vault, .mesh] L = true) : Within L σ
    (State.candKey s x p beams) := by
  refine Within.comp ?_ hs h0
  clear h0 hs
  unfold State.candKey
  dsimp only
  repeat' first
    | (with_reducible exact Within.refl _ _)
    | (with_reducible apply State.bump_within)
    | (with_reducible apply State.candAdmit_within)
    | (with_reducible apply State.finish_within)
    | (with_reducible apply State.keyRequest_within)
    | (with_reducible apply State.keyTake_within)
    | ((with_reducible show compsIn _ _ = true); rfl)
    | (with_reducible refine Within.ite (fun _ => ?_) (fun _ => ?_))
    | split

theorem State.candPlanIn_within {L : List Comp} {σ : State} (s : State) (x : Cand) (n : Nat) (h0 : Within L σ s) (hs : compsIn [.regs, .free,
    .pass, .host, .time, .safe, .log, .cvn, .cvnIds, .air, .qmg, .shp, .rf, .link, .slot, .key, .vault, .mesh] L = true) : Within L σ
    (State.candPlanIn s x n) := by
  refine Within.comp ?_ hs h0
  clear h0 hs
  unfold State.candPlanIn
  dsimp only
  repeat' first
    | (with_reducible exact Within.refl _ _)
    | (with_reducible apply State.bump_within)
    | (with_reducible apply State.candKey_within)
    | (with_reducible apply State.err_within)
    | (with_reducible apply State.prepBad_within)
    | (with_reducible apply State.setNbr_within)
    | ((with_reducible show compsIn _ _ = true); rfl)
    | (with_reducible refine Within.ite (fun _ => ?_) (fun _ => ?_))
    | split

theorem State.candRun_within {L : List Comp} {σ : State} (s : State) (x : Cand) (n : Nat) (h0 : Within L σ s) (hs : compsIn [.regs, .free, .pass,
    .host, .time, .safe, .log, .cvn, .cvnIds, .air, .qmg, .shp, .rf, .link, .slot, .key, .vault, .mesh] L = true) : Within L σ (State.candRun
    s x n) := by
  refine Within.comp ?_ hs h0
  clear h0 hs
  unfold State.candRun
  repeat' first
    | (with_reducible exact Within.refl _ _)
    | (with_reducible apply State.bump_within)
    | (with_reducible apply State.candPlanIn_within)
    | (with_reducible apply State.finish_within)
    | ((with_reducible show compsIn _ _ = true); rfl)
    | (with_reducible refine Within.ite (fun _ => ?_) (fun _ => ?_))

theorem State.beaconRun_within {L : List Comp} {σ : State} (s : State) (c : Cell) (n : Nat) (h0 : Within L σ s) (hs : compsIn [.regs, .pass,
    .host, .safe, .log, .cvn, .cvnIds, .air, .qmg, .rf, .link, .slot, .key, .vault] L = true) : Within L σ (State.beaconRun s c n) := by
  refine Within.comp ?_ hs h0
  clear h0 hs
  unfold State.beaconRun
  dsimp only
  repeat' first
    | (with_reducible exact Within.refl _ _)
    | (with_reducible assumption)
    | (with_reducible apply State.admitOn_within)
    | (with_reducible apply State.bump_within)
    | (with_reducible apply State.ctrTake_within)
    | (with_reducible apply State.err_within)
    | (with_reducible apply State.fillTx_within)
    | (with_reducible apply State.keyRequest_within)
    | (with_reducible apply State.keyTake_within)
    | (with_reducible apply State.keyUse_within)
    | ((with_reducible show compsIn _ _ = true); rfl)
    | (with_reducible refine Within.ite (fun _ => ?_) (fun _ => ?_))
    | (with_reducible refine Within.foldl ?_ (fun _ _ _ => ?_))
    | (with_reducible refine Within.ite1 (fun _ => ?_) (fun _ => ?_))

theorem State.winAdd_within {L : List Comp} {σ : State} (s : State) (fam : Nat) (ch : Chan) (from_ until_ : Nat) (h0 : Within L σ s) (hs : compsIn
    [.slot] L = true) : Within L σ (State.winAdd s fam ch from_ until_) := by
  refine Within.comp ?_ hs h0
  clear h0 hs
  unfold State.winAdd
  dsimp only
  repeat' first
    | (with_reducible exact Within.refl _ _)
    | (simp only [Within.lit]; with_reducible refine Within.upd ?_ rfl (fun k hk => ?_))
    | (cases k <;> first | (exact absurd (by decide) hk) | rfl)

theorem State.winPlan_within {L : List Comp} {σ : State} (s : State) (cells : List Cell) (sent : List Nat) (n : Nat) (h0 : Within L σ s) (hs :
    compsIn [.slot] L = true) : Within L σ (State.winPlan s cells sent n) := by
  refine Within.comp ?_ hs h0
  clear h0 hs
  unfold State.winPlan
  dsimp only
  repeat' first
    | (with_reducible exact Within.refl _ _)
    | (with_reducible assumption)
    | (with_reducible apply State.winAdd_within)
    | ((with_reducible show compsIn _ _ = true); rfl)
    | (with_reducible refine Within.foldl ?_ (fun _ _ _ => ?_))

theorem State.attemptDrop_within {L : List Comp} {σ : State} (s : State) (a : Nat) (h0 : Within L σ s) (hs : compsIn [.slot] L = true) : Within L σ
    (State.attemptDrop s a) := by
  refine Within.comp ?_ hs h0
  clear h0 hs
  unfold State.attemptDrop
  dsimp only
  repeat' first
    | (with_reducible exact Within.refl _ _)
    | (simp only [Within.lit]; with_reducible refine Within.upd ?_ rfl (fun k hk => ?_))
    | (cases k <;> first | (exact absurd (by decide) hk) | rfl)

theorem State.attemptFail_within {L : List Comp} {σ : State} (s : State) (a : Attempt) (h0 : Within L σ s) (hs : compsIn [.regs, .free, .pass,
    .host, .safe, .log, .cvn, .cvnIds, .air, .qmg, .rf, .link, .slot, .key, .vault, .mesh] L = true) : Within L σ (State.attemptFail s a) :=
    by
  refine Within.comp ?_ hs h0
  clear h0 hs
  unfold State.attemptFail
  dsimp only
  repeat' first
    | (with_reducible exact Within.refl _ _)
    | (with_reducible apply State.attemptDrop_within)
    | (with_reducible apply State.draw_within)
    | (with_reducible apply State.finish_within)
    | (with_reducible apply State.frameMod_within)
    | (with_reducible apply State.setNbr_within)
    | ((with_reducible show compsIn _ _ = true); rfl)
    | (with_reducible refine Within.ite (fun _ => ?_) (fun _ => ?_))
    | split

theorem State.attemptCheck_within {L : List Comp} {σ : State} (s : State) (id : Nat) (h0 : Within L σ s) (hs : compsIn [.regs, .free, .pass,
    .host, .safe, .log, .cvn, .cvnIds, .air, .qmg, .rf, .link, .slot, .key, .vault, .mesh] L = true) : Within L σ (State.attemptCheck s id) :=
    by
  refine Within.comp ?_ hs h0
  clear h0 hs
  unfold State.attemptCheck
  repeat' first
    | (with_reducible exact Within.refl _ _)
    | (with_reducible apply State.attemptFail_within)
    | ((with_reducible show compsIn _ _ = true); rfl)
    | (with_reducible refine Within.ite (fun _ => ?_) (fun _ => ?_))
    | split

theorem State.ackSettle_within {L : List Comp} {σ : State} (s : State) (h0 : Within L σ s) (hs : compsIn [.regs, .free, .pass, .host, .safe, .log,
    .cvn, .cvnIds, .air, .qmg, .rf, .link, .slot, .key, .vault, .mesh] L = true) : Within L σ (State.ackSettle s) := by
  refine Within.comp ?_ hs h0
  clear h0 hs
  unfold State.ackSettle
  dsimp only
  repeat' first
    | (with_reducible exact Within.refl _ _)
    | (with_reducible assumption)
    | (with_reducible apply State.attemptCheck_within)
    | ((with_reducible show compsIn _ _ = true); rfl)
    | (with_reducible refine Within.foldl ?_ (fun _ _ _ => ?_))
    | (simp only [Within.lit]; with_reducible refine Within.upd ?_ rfl (fun k hk => ?_))
    | (cases k <;> first | (exact absurd (by decide) hk) | rfl)

theorem State.cellRun_within {L : List Comp} {σ : State} (s : State) (e : Cell × Option Cand) (n : Nat) (h0 : Within L σ s) (hs : compsIn [.regs,
    .free, .pass, .host, .time, .safe, .log, .cvn, .cvnIds, .air, .qmg, .shp, .rf, .link, .slot, .key, .vault, .mesh] L = true) : Within L σ
    (State.cellRun s e n).1 := by
  refine Within.comp ?_ hs h0
  clear h0 hs
  unfold State.cellRun
  dsimp only
  repeat' first
    | (with_reducible exact Within.refl _ _)
    | (with_reducible apply State.beaconRun_within)
    | (with_reducible apply State.candRun_within)
    | ((with_reducible show compsIn _ _ = true); rfl)
    | (with_reducible refine Within.ite (fun _ => ?_) (fun _ => ?_))
    | split

theorem State.slotPlan_within {L : List Comp} {σ : State} (s0 : State) (n : Nat) (h0 : Within L σ s0) (hs : compsIn [.regs, .free, .pass, .host,
    .time, .safe, .log, .cvn, .cvnIds, .air, .qmg, .shp, .rf, .link, .slot, .key, .vault, .mesh] L = true) : Within L σ (State.slotPlan s0 n)
    := by
  refine Within.comp ?_ hs h0
  clear h0 hs
  unfold State.slotPlan
  dsimp only
  repeat' first
    | (with_reducible exact Within.refl _ _)
    | (with_reducible assumption)
    | (with_reducible apply State.cellRun_within)
    | (with_reducible apply State.slotQueueCheck_within)
    | (with_reducible apply State.winPlan_within)
    | ((with_reducible show compsIn _ _ = true); rfl)
    | (with_reducible refine Within.foldl1 ?_ (fun _ _ _ => ?_))

theorem State.snapPut_within {L : List Comp} {σ : State} (s : State) (x : SlotSnap) (h0 : Within L σ s) (hs : compsIn [.slot] L = true) : Within L σ
    (State.snapPut s x) := by
  refine Within.comp ?_ hs h0
  clear h0 hs
  unfold State.snapPut
  dsimp only
  repeat' first
    | (with_reducible exact Within.refl _ _)
    | (simp only [Within.lit]; with_reducible refine Within.upd ?_ rfl (fun k hk => ?_))
    | (cases k <;> first | (exact absurd (by decide) hk) | rfl)

theorem State.slotRead_within {L : List Comp} {σ : State} (s : State) (n : Nat) (h0 : Within L σ s) (hs : compsIn [.slot] L = true) : Within L σ
    (State.slotRead s n) := by
  refine Within.comp ?_ hs h0
  clear h0 hs
  unfold State.slotRead
  repeat' first
    | (with_reducible exact Within.refl _ _)
    | (with_reducible apply State.snapPut_within)
    | ((with_reducible show compsIn _ _ = true); rfl)

theorem State.prepSettle_within {L : List Comp} {σ : State} (s : State) (h0 : Within L σ s) (hs : compsIn [.regs, .free, .pass, .host, .safe,
    .log, .cvn, .cvnIds, .air, .qmg, .rf, .link, .slot, .key, .vault, .mesh] L = true) : Within L σ (State.prepSettle s) := by
  refine Within.comp ?_ hs h0
  clear h0 hs
  unfold State.prepSettle
  repeat' first
    | (with_reducible exact Within.refl _ _)
    | (with_reducible apply State.ackSettle_within)
    | ((with_reducible show compsIn _ _ = true); rfl)
    | (with_reducible refine Within.ite (fun _ => ?_) (fun _ => ?_))

theorem State.cplSend_within {L : List Comp} {σ : State} (s : State) (f : Nat) (xs : List CplSlot) (h0 : Within L σ s) (hs : compsIn [.pass,
    .ends] L = true) : Within L σ (State.cplSend s f xs) := by
  induction xs generalizing s with
  | nil => exact h0
  | cons x xs ih =>
  unfold State.cplSend
  dsimp only
  repeat' first
    | (with_reducible assumption)
    | (with_reducible apply State.passSend_within)
    | (with_reducible apply ih)
    | (exact compsIn_trans (m := [.pass, .ends]) rfl hs)
    | (with_reducible refine Within.ite (fun _ => ?_) (fun _ => ?_))
    | (simp only [Within.lit]; with_reducible refine Within.upd ?_ rfl (fun k hk => ?_))
    | (cases k <;> first | (exact absurd (compsIn_mem hs (by decide)) hk) | rfl)
    | split

theorem State.cplOffer_within {L : List Comp} {σ : State} (s : State) (c : CmdDesc) (ws : List Word) (h0 : Within L σ s) (hs : compsIn [.pass,
    .ends] L = true) : Within L σ (State.cplOffer s c ws) := by
  refine Within.comp ?_ hs h0
  clear h0 hs
  unfold State.cplOffer
  dsimp only
  repeat' first
    | (with_reducible exact Within.refl _ _)
    | (with_reducible apply State.cplSend_within)
    | (with_reducible apply State.passSend_within)
    | ((with_reducible show compsIn _ _ = true); rfl)
    | (with_reducible refine Within.ite (fun _ => ?_) (fun _ => ?_))
    | (simp only [Within.lit]; with_reducible refine Within.upd ?_ rfl (fun k hk => ?_))
    | (cases k <;> first | (exact absurd (by decide) hk) | rfl)

theorem State.cmdDone_within {L : List Comp} {σ : State} (s : State) (c : CmdDesc) (status : Nat) (ws : List Word) (cause detail : Nat) (h0 :
    Within L σ s) (hs : compsIn [.pass, .ends] L = true) : Within L σ (State.cmdDone s c status ws cause detail) := by
  refine Within.comp ?_ hs h0
  clear h0 hs
  unfold State.cmdDone
  dsimp only
  repeat' first
    | (with_reducible exact Within.refl _ _)
    | (simp only [Within.lit]; with_reducible refine Within.upd ?_ rfl (fun k hk => ?_))
    | (cases k <;> first | (exact absurd (by decide) hk) | rfl)

theorem State.cmdOk_within {L : List Comp} {σ : State} (s : State) (c : CmdDesc) (ws : List Word) (h0 : Within L σ s) (hs : compsIn [.pass, .ends]
    L = true) : Within L σ (State.cmdOk s c ws) := by
  refine Within.comp ?_ hs h0
  clear h0 hs
  unfold State.cmdOk
  repeat' first
    | (with_reducible exact Within.refl _ _)
    | (with_reducible apply State.cmdDone_within)
    | ((with_reducible show compsIn _ _ = true); rfl)

theorem State.groupUnload_within {L : List Comp} {σ : State} (s : State) (p pos : Nat) (h0 : Within L σ s) (hs : compsIn [.regs, .key, .vault] L =
    true) : Within L σ (State.groupUnload s p pos) := by
  refine Within.comp ?_ hs h0
  clear h0 hs
  unfold State.groupUnload
  repeat' first
    | (with_reducible exact Within.refl _ _)
    | (with_reducible apply State.keyForget_within)
    | (with_reducible apply State.setFld_within)
    | (with_reducible apply State.unbind_within)
    | ((with_reducible show compsIn _ _ = true); rfl)

theorem State.rollRun_within {L : List Comp} {σ : State} (s : State) (r : Roll) (h0 : Within L σ s) (hs : compsIn [.regs, .pass, .ends, .key,
    .vault] L = true) : Within L σ (State.rollRun s r) := by
  refine Within.comp ?_ hs h0
  clear h0 hs
  unfold State.rollRun
  dsimp only
  repeat' first
    | (with_reducible exact Within.refl _ _)
    | (with_reducible apply State.cmdOk_within)
    | (with_reducible apply State.groupUnload_within)
    | (with_reducible apply State.setFld_within)
    | ((with_reducible show compsIn _ _ = true); rfl)
    | (with_reducible refine Within.ite (fun _ => ?_) (fun _ => ?_))
    | (simp only [Within.lit]; with_reducible refine Within.upd ?_ rfl (fun k hk => ?_))
    | (cases k <;> first | (exact absurd (by decide) hk) | rfl)

theorem State.rollsRun_within {L : List Comp} {σ : State} (s : State) (h0 : Within L σ s) (hs : compsIn [.regs, .pass, .ends, .key, .vault] L =
    true) : Within L σ (State.rollsRun s) := by
  refine Within.comp ?_ hs h0
  clear h0 hs
  unfold State.rollsRun
  dsimp only
  repeat' first
    | (with_reducible exact Within.refl _ _)
    | (with_reducible assumption)
    | (with_reducible apply State.rollRun_within)
    | ((with_reducible show compsIn _ _ = true); rfl)
    | (with_reducible refine Within.foldl ?_ (fun _ _ _ => ?_))
    | (simp only [Within.lit]; with_reducible refine Within.upd ?_ rfl (fun k hk => ?_))
    | (cases k <;> first | (exact absurd (by decide) hk) | rfl)

theorem State.keepFld_within {L : List Comp} {σ : State} (s old : State) (k : Nat) (f : Fld) (h0 : Within L σ s) (hold : Within L σ old) (hs : compsIn
    [.regs] L = true) : Within L σ (State.keepFld s old k f) := by
  unfold State.keepFld
  repeat' first
    | (with_reducible assumption)
    | (with_reducible apply State.setFld_within)

theorem State.keepFields_within {L : List Comp} {σ : State} (s old : State) (h0 : Within L σ s) (hold : Within L σ old) (hs : compsIn [.regs] L =
    true) : Within L σ (State.keepFields s old) := by
  unfold State.keepFields
  dsimp only
  repeat' first
    | (with_reducible assumption)
    | (with_reducible apply State.keepFld_within)
    | (with_reducible apply State.setFld_within)

theorem State.flashFree_within {L : List Comp} {σ : State} (s : State) (addr n : Nat) (h0 : Within L σ s) (hs : compsIn [.free, .boot] L = true) :
    Within L σ (State.flashFree s addr n) := by
  induction n generalizing s addr with
  | zero => exact h0
  | succ n ih =>
  unfold State.flashFree
  dsimp only
  repeat' first
    | (with_reducible assumption)
    | (with_reducible apply State.draw_within)
    | (with_reducible apply ih)
    | (exact compsIn_trans (m := [.free, .boot]) rfl hs)
    | (simp only [Within.lit]; with_reducible refine Within.upd ?_ rfl (fun k hk => ?_))
    | (cases k <;> first | (exact absurd (compsIn_mem hs (by decide)) hk) | rfl)

theorem State.flashCut_within {L : List Comp} {σ : State} (s : State) (h0 : Within L σ s) (hs : compsIn [.free, .boot] L = true) : Within L σ
    (State.flashCut s) := by
  refine Within.comp ?_ hs h0
  clear h0 hs
  unfold State.flashCut
  dsimp only
  repeat' first
    | (with_reducible exact Within.refl _ _)
    | (with_reducible apply State.flashFree_within)
    | ((with_reducible show compsIn _ _ = true); rfl)
    | (simp only [Within.lit]; with_reducible refine Within.upd ?_ rfl (fun k hk => ?_))
    | (cases k <;> first | (exact absurd (by decide) hk) | rfl)
    | split

theorem State.fuseCut_within {L : List Comp} {σ : State} (s : State) (h0 : Within L σ s) (hs : compsIn [.free, .boot] L = true) : Within L σ
    (State.fuseCut s) := by
  refine Within.comp ?_ hs h0
  clear h0 hs
  unfold State.fuseCut
  dsimp only
  repeat' first
    | (with_reducible exact Within.refl _ _)
    | (with_reducible apply State.draw_within)
    | ((with_reducible show compsIn _ _ = true); rfl)
    | (with_reducible refine Within.ite (fun _ => ?_) (fun _ => ?_))
    | (simp only [Within.lit]; with_reducible refine Within.upd ?_ rfl (fun k hk => ?_))
    | (cases k <;> first | (exact absurd (by decide) hk) | rfl)

theorem State.ringSignal_within {L : List Comp} {σ : State} (s : State) (p r : Nat) (h0 : Within L σ s) (hs : compsIn [.host] L = true) : Within L σ
    (State.ringSignal s p r) := by
  refine Within.comp ?_ hs h0
  clear h0 hs
  unfold State.ringSignal
  repeat' first
    | (with_reducible exact Within.refl _ _)
    | (with_reducible apply State.vecTrigger_within)
    | ((with_reducible show compsIn _ _ = true); rfl)
    | (with_reducible refine Within.ite (fun _ => ?_) (fun _ => ?_))

theorem State.cplWrite_within {L : List Comp} {σ : State} (s : State) (p : Nat) (ws : List Word) (h0 : Within L σ s) (hs : compsIn [.regs, .host,
    .air, .qmg, .link] L = true) : Within L σ (State.cplWrite s p ws) := by
  refine Within.comp ?_ hs h0
  clear h0 hs
  unfold State.cplWrite
  dsimp only
  repeat' first
    | (with_reducible exact Within.refl _ _)
    | (with_reducible apply State.ringPut_within)
    | (with_reducible apply State.ringSignal_within)
    | ((with_reducible show compsIn _ _ = true); rfl)
    | (with_reducible refine Within.ite (fun _ => ?_) (fun _ => ?_))
    | (simp only [Within.lit]; with_reducible refine Within.upd ?_ rfl (fun k hk => ?_))
    | (cases k <;> first | (exact absurd (by decide) hk) | rfl)

theorem State.resvSync_within {L : List Comp} {σ : State} (s : State) (p : Nat) (h0 : Within L σ s) (hs : compsIn [.regs] L = true) : Within L σ
    (State.resvSync s p) := by
  refine Within.comp ?_ hs h0
  clear h0 hs
  unfold State.resvSync
  repeat' first
    | (with_reducible exact Within.refl _ _)
    | (with_reducible apply State.setFld_within)
    | ((with_reducible show compsIn _ _ = true); rfl)

theorem State.cplEnd_within {L : List Comp} {σ : State} (s : State) (p : Nat) (ws : List Word) (h0 : Within L σ s) (hs : compsIn [.regs, .host,
    .air, .qmg, .link] L = true) : Within L σ (State.cplEnd s p ws) := by
  refine Within.comp ?_ hs h0
  clear h0 hs
  unfold State.cplEnd
  dsimp only
  repeat' first
    | (with_reducible exact Within.refl _ _)
    | (with_reducible apply State.cplWrite_within)
    | (with_reducible apply State.resvSync_within)
    | ((with_reducible show compsIn _ _ = true); rfl)
    | (simp only [Within.lit]; with_reducible refine Within.upd ?_ rfl (fun k hk => ?_))
    | (cases k <;> first | (exact absurd (by decide) hk) | rfl)

theorem State.cplOwn_within {L : List Comp} {σ : State} (s : State) (p : Nat) (ws : List Word) (h0 : Within L σ s) (hs : compsIn [.regs, .host,
    .air, .qmg, .link] L = true) : Within L σ (State.cplOwn s p ws) := by
  refine Within.comp ?_ hs h0
  clear h0 hs
  unfold State.cplOwn
  dsimp only
  repeat' first
    | (with_reducible exact Within.refl _ _)
    | (with_reducible apply State.cplEnd_within)
    | ((with_reducible show compsIn _ _ = true); rfl)
    | (with_reducible refine Within.ite (fun _ => ?_) (fun _ => ?_))
    | (simp only [Within.lit]; with_reducible refine Within.upd ?_ rfl (fun k hk => ?_))
    | (cases k <;> first | (exact absurd (by decide) hk) | rfl)

theorem State.txDoneH_within {L : List Comp} {σ : State} (s : State) (f : Fetched) (status : Nat) (cause detail : Nat) (h0 : Within L σ s) (hs :
    compsIn [.regs, .host, .air, .qmg, .link] L = true) : Within L σ (State.txDoneH s f status cause detail) := by
  refine Within.comp ?_ hs h0
  clear h0 hs
  unfold State.txDoneH
  repeat' first
    | (with_reducible exact Within.refl _ _)
    | (with_reducible apply State.cplOwn_within)
    | ((with_reducible show compsIn _ _ = true); rfl)

theorem State.flushFetched_within {L : List Comp} {σ : State} (s : State) (f : Fetched) (h0 : Within L σ s) (hs : compsIn [.regs, .host, .air,
    .qmg, .link] L = true) : Within L σ (State.flushFetched s f) := by
  refine Within.comp ?_ hs h0
  clear h0 hs
  unfold State.flushFetched
  repeat' first
    | (with_reducible exact Within.refl _ _)
    | (with_reducible apply State.cplOwn_within)
    | (with_reducible apply State.txDoneH_within)
    | ((with_reducible show compsIn _ _ = true); rfl)
    | (with_reducible refine Within.ite (fun _ => ?_) (fun _ => ?_))

theorem State.flushAllFetched_within {L : List Comp} {σ : State} (s : State) (h0 : Within L σ s) (hs : compsIn [.regs, .host, .air, .qmg, .link] L
    = true) : Within L σ (State.flushAllFetched s) := by
  refine Within.comp ?_ hs h0
  clear h0 hs
  unfold State.flushAllFetched
  dsimp only
  repeat' first
    | (with_reducible exact Within.refl _ _)
    | (with_reducible assumption)
    | (with_reducible apply State.flushFetched_within)
    | ((with_reducible show compsIn _ _ = true); rfl)
    | (with_reducible refine Within.foldl ?_ (fun _ _ _ => ?_))
    | (simp only [Within.lit]; with_reducible refine Within.upd ?_ rfl (fun k hk => ?_))
    | (cases k <;> first | (exact absurd (by decide) hk) | rfl)

theorem State.hLose_within {L : List Comp} {σ : State} (s : State) (h0 : Within L σ s) (hs : compsIn [.regs, .host, .boot, .air, .qmg, .link] L =
    true) : Within L σ (State.hLose s) := by
  refine Within.comp ?_ hs h0
  clear h0 hs
  unfold State.hLose
  dsimp only
  repeat' first
    | (with_reducible exact Within.refl _ _)
    | (with_reducible apply State.flushAllFetched_within)
    | ((with_reducible show compsIn _ _ = true); rfl)
    | (simp only [Within.lit]; with_reducible refine Within.upd ?_ rfl (fun k hk => ?_))
    | (cases k <;> first | (exact absurd (by decide) hk) | rfl)

theorem State.hForget_within {L : List Comp} {σ : State} (s : State) (h0 : Within L σ s) (hs : compsIn [.regs, .host, .eth, .boot, .air, .qmg,
    .link] L = true) : Within L σ (State.hForget s) := by
  refine Within.comp ?_ hs h0
  clear h0 hs
  unfold State.hForget
  dsimp only
  repeat' first
    | (with_reducible exact Within.refl _ _)
    | (with_reducible apply State.hLose_within)
    | ((with_reducible show compsIn _ _ = true); rfl)
    | (simp only [Within.lit]; with_reducible refine Within.upd ?_ rfl (fun k hk => ?_))
    | (cases k <;> first | (exact absurd (by decide) hk) | rfl)

theorem State.onVbat_within {L : List Comp} {σ : State} (s : State) (h0 : Within L σ s) (hs : compsIn [.regs] L = true) : Within L σ (State.onVbat s)
    := by
  refine Within.comp ?_ hs h0
  clear h0 hs
  unfold State.onVbat
  repeat' first
    | (with_reducible exact Within.refl _ _)
    | (with_reducible apply State.setFld_within)
    | ((with_reducible show compsIn _ _ = true); rfl)

theorem State.supplies_within {L : List Comp} {σ : State} (s : State) (least : Nat) (d : Die) (h0 : Within L σ s) (hs : compsIn [.regs, .free,
    .pwr] L = true) : Within L σ (State.supplies s least d) := by
  refine Within.comp ?_ hs h0
  clear h0 hs
  unfold State.supplies
  dsimp only
  repeat' first
    | (with_reducible exact Within.refl _ _)
    | (with_reducible apply State.draw_within)
    | (with_reducible apply State.onVbat_within)
    | ((with_reducible show compsIn _ _ = true); rfl)
    | (simp only [Within.lit]; with_reducible refine Within.upd ?_ rfl (fun k hk => ?_))
    | (cases k <;> first | (exact absurd (by decide) hk) | rfl)
    | split

theorem State.armLocks_within {L : List Comp} {σ : State} (s : State) (h0 : Within L σ s) (hs : compsIn [.regs, .host] L = true) : Within L σ
    (State.armLocks s) := by
  refine Within.comp ?_ hs h0
  clear h0 hs
  unfold State.armLocks
  repeat' first
    | (with_reducible exact Within.refl _ _)
    | (with_reducible assumption)
    | (with_reducible apply State.armLock_within)
    | ((with_reducible show compsIn _ _ = true); rfl)
    | (with_reducible refine Within.foldl ?_ (fun _ _ _ => ?_))

theorem State.hQuiet_within {L : List Comp} {σ : State} (s : State) (cause : Nat) (h0 : Within L σ s) (hs : compsIn [.regs, .host, .boot, .air,
    .qmg, .link] L = true) : Within L σ (State.hQuiet s cause) := by
  refine Within.comp ?_ hs h0
  clear h0 hs
  unfold State.hQuiet
  dsimp only
  repeat' first
    | (with_reducible exact Within.refl _ _)
    | (with_reducible apply State.evtH_within)
    | (with_reducible apply State.hLose_within)
    | (with_reducible apply State.setFld_within)
    | ((with_reducible show compsIn _ _ = true); rfl)

theorem State.fDieReset_pending (s : State) (kind : Nat) (release : Bool) :
    (s.fDieReset kind release).pending = s.flashCut.fuseCut.hForget.pending := by
  unfold State.fDieReset
  dsimp only
  by_cases h : kind = 0
  · simp only [h, if_true]; rfl
  · simp only [h, if_false]; rfl

theorem State.fDieReset_within {L : List Comp} {σ : State} (s : State) (kind : Nat) (release : Bool) (h0 : Within L σ s) (hs : compsIn [.regs,
    .now, .free, .pass, .host, .eth, .time, .safe, .log, .save, .pwr, .boot, .bist, .cmds, .ends, .ndir, .cvn, .cvnIds, .air, .qmg, .shp,
    .rf, .rx, .link, .slot, .key, .vault, .dir, .lpm, .mesh] L = true) : Within L σ (State.fDieReset s kind release) := by
  refine Within.comp (m := [.regs, .now, .free, .pass, .host, .eth, .time, .safe, .log, .save, .pwr, .boot, .bist, .cmds, .ends, .ndir, .cvn,
      .cvnIds, .air, .qmg, .shp, .rf, .rx, .link, .slot, .key, .vault, .dir, .lpm, .mesh]) ⟨fun h => ?_, fun k hk => ?_⟩ hs h0
  · have g : (s.flashCut.fuseCut.hForget).canon = true :=
      (State.hForget_within _ (State.fuseCut_within _ (State.flashCut_within _ (Within.refl allComps s) rfl) rfl) rfl).canon h
    refine (?_ : Within allComps s _).canon h
    unfold State.fDieReset
    dsimp only
    refine State.armLocks_within _ (State.setFld_within _ _ _ _ (State.onVbat_within _ ?_ rfl) rfl) rfl
    have fin : ∀ u : State, Within allComps s u → Within allComps s (if kind = 0 then u else u.setFld R.PASS_STATUS F.PASS_STATUS_RETRAIN 0) := by
      intro u hu
      split
      · exact hu
      · exact State.setFld_within _ _ _ _ hu rfl
    refine State.setFld_within _ _ _ _ (fin _ (State.setFld_within _ _ _ _ ?_ rfl)) rfl
    unfold State.keepFields State.keepFld
    dsimp only
    iterate 9 refine State.setFld_within _ _ _ _ ?_ rfl
    refine Within.all (fun _ => ?_)
    simp only [State.canon, Bool.and_eq_true] at g ⊢
    exact ⟨awf_regsAfter _ _, g.2⟩
  · cases k <;> first | exact absurd (by decide) hk | exact Eq.trans (State.fDieReset_pending s kind release) ((State.hForget_within _
      (State.fuseCut_within _ (State.flashCut_within _ (Within.refl everyComp s) rfl) rfl) rfl).only .pending (by decide))

theorem State.loadChunks_within {L : List Comp} {σ : State} (s : State) (n : Nat) (bs : List Byte) (h0 : Within L σ s) (hs : compsIn [.regs,
    .pass, .air, .qmg, .link] L = true) : Within L σ (State.loadChunks s n bs) := by
  induction n generalizing s bs with
  | zero => exact h0
  | succ n ih =>
  unfold State.loadChunks
  repeat' first
    | (with_reducible assumption)
    | (with_reducible apply State.passSend_within)
    | (with_reducible apply ih)
    | (exact compsIn_trans (m := [.regs, .pass, .air, .qmg, .link]) rfl hs)
    | (with_reducible refine Within.ite (fun _ => ?_) (fun _ => ?_))

theorem State.sendMicrocode_within {L : List Comp} {σ : State} (s : State) (h0 : Within L σ s) (hs : compsIn [.regs, .pass, .host, .air, .qmg,
    .link] L = true) : Within L σ (State.sendMicrocode s) := by
  refine Within.comp ?_ hs h0
  clear h0 hs
  unfold State.sendMicrocode
  dsimp only
  repeat' first
    | (with_reducible exact Within.refl _ _)
    | (with_reducible apply State.loadChunks_within)
    | ((with_reducible show compsIn _ _ = true); rfl)
    | (simp only [Within.lit]; with_reducible refine Within.upd ?_ rfl (fun k hk => ?_))
    | (cases k <;> first | (exact absurd (by decide) hk) | rfl)

theorem State.hDieReset_within {L : List Comp} {σ : State} (s : State) (release : Bool) (h0 : Within L σ s) (hs : compsIn [.regs, .now, .free,
    .pass, .host, .eth, .time, .safe, .log, .save, .pwr, .boot, .bist, .cmds, .ends, .ndir, .cvn, .cvnIds, .air, .qmg, .shp, .rf, .rx,
    .link, .slot, .key, .vault, .dir, .lpm, .mesh] L = true) : Within L σ (State.hDieReset s release) := by
  refine Within.comp (m := [.regs, .now, .free, .pass, .host, .eth, .time, .safe, .log, .save, .pwr, .boot, .bist, .cmds, .ends, .ndir, .cvn,
      .cvnIds, .air, .qmg, .shp, .rf, .rx, .link, .slot, .key, .vault, .dir, .lpm, .mesh]) ⟨fun h => ?_, fun k hk => ?_⟩ hs h0
  · have g : (s.freeChain s.qmg.inHand.flatten).canon = true := (State.freeChain_within _ _ (Within.refl allComps s) rfl).canon h
    refine (?_ : Within allComps s _).canon h
    unfold State.hDieReset
    dsimp only
    refine State.armLocks_within _ (State.setFld_within _ _ _ _ (State.setFld_within _ _ _ _ ?_ rfl) rfl) rfl
    refine Within.all (fun _ => ?_)
    simp only [State.canon, Bool.and_eq_true] at g ⊢
    exact ⟨awf_regsAfter _ _, g.2⟩
  · cases k <;> first | exact absurd (by decide) hk | rfl

theorem State.hGone_within {L : List Comp} {σ : State} (s : State) (h0 : Within L σ s) (hs : compsIn [.regs, .pass, .host, .safe, .log, .cvn,
    .cvnIds, .air, .qmg, .rf, .link] L = true) : Within L σ (State.hGone s) := by
  refine Within.comp ?_ hs h0
  clear h0 hs
  unfold State.hGone
  repeat' first
    | (with_reducible exact Within.refl _ _)
    | (with_reducible apply State.quiet_within)
    | ((with_reducible show compsIn _ _ = true); rfl)
    | (with_reducible refine Within.ite (fun _ => ?_) (fun _ => ?_))

theorem State.gate1_within {L : List Comp} {σ : State} (s : State) (c : Nat) (h0 : Within L σ s) (hs : compsIn [.pwr] L = true) : Within L σ
    (State.gate1 s c) := by
  refine Within.comp ?_ hs h0
  clear h0 hs
  unfold State.gate1
  dsimp only
  repeat' first
    | (with_reducible exact Within.refl _ _)
    | (with_reducible refine Within.ite (fun _ => ?_) (fun _ => ?_))
    | (simp only [Within.lit]; with_reducible refine Within.upd ?_ rfl (fun k hk => ?_))
    | (cases k <;> first | (exact absurd (by decide) hk) | rfl)

theorem State.ungate_within {L : List Comp} {σ : State} (s : State) (h0 : Within L σ s) (hs : compsIn [.pwr] L = true) : Within L σ (State.ungate s)
    := by
  refine Within.comp ?_ hs h0
  clear h0 hs
  unfold State.ungate
  dsimp only
  repeat' first
    | (with_reducible exact Within.refl _ _)
    | (with_reducible refine Within.ite (fun _ => ?_) (fun _ => ?_))
    | (simp only [Within.lit]; with_reducible refine Within.upd ?_ rfl (fun k hk => ?_))
    | (cases k <;> first | (exact absurd (by decide) hk) | rfl)
    | split

theorem State.gateEval_within {L : List Comp} {σ : State} (s : State) (h0 : Within L σ s) (hs : compsIn [.pwr] L = true) : Within L σ (State.gateEval
    s) := by
  refine Within.comp ?_ hs h0
  clear h0 hs
  unfold State.gateEval
  dsimp only
  repeat' first
    | (with_reducible exact Within.refl _ _)
    | (with_reducible assumption)
    | (with_reducible apply State.gate1_within)
    | (with_reducible apply State.ungate_within)
    | ((with_reducible show compsIn _ _ = true); rfl)
    | (with_reducible refine Within.ite (fun _ => ?_) (fun _ => ?_))
    | (with_reducible refine Within.foldl ?_ (fun _ _ _ => ?_))
    | (simp only [Within.lit]; with_reducible refine Within.upd ?_ rfl (fun k hk => ?_))
    | (cases k <;> first | (exact absurd (by decide) hk) | rfl)

theorem State.radioOff_within {L : List Comp} {σ : State} (s : State) (h0 : Within L σ s) (hs : compsIn [.regs, .air, .rf, .rx] L = true) : Within L σ
    (State.radioOff s) := by
  refine Within.comp ?_ hs h0
  clear h0 hs
  unfold State.radioOff
  dsimp only
  repeat' first
    | (with_reducible exact Within.refl _ _)
    | (with_reducible apply State.cutAir_within)
    | (with_reducible apply State.setFld_within)
    | ((with_reducible show compsIn _ _ = true); rfl)
    | (simp only [Within.lit]; with_reducible refine Within.upd ?_ rfl (fun k hk => ?_))
    | (cases k <;> first | (exact absurd (by decide) hk) | rfl)

theorem State.pwrTake_within {L : List Comp} {σ : State} (s : State) (st cause wake : Nat) (h0 : Within L σ s) (hs : compsIn [.regs, .pass, .pwr,
    .air, .rf, .rx] L = true) : Within L σ (State.pwrTake s st cause wake) := by
  refine Within.comp ?_ hs h0
  clear h0 hs
  unfold State.pwrTake
  dsimp only
  repeat' first
    | (with_reducible exact Within.refl _ _)
    | (with_reducible apply State.evtF_within)
    | (with_reducible apply State.radioOff_within)
    | (with_reducible apply State.setFld_within)
    | ((with_reducible show compsIn _ _ = true); rfl)
    | (with_reducible refine Within.ite (fun _ => ?_) (fun _ => ?_))
    | (simp only [Within.lit]; with_reducible refine Within.upd ?_ rfl (fun k hk => ?_))
    | (cases k <;> first | (exact absurd (by decide) hk) | rfl)

theorem State.pwrEval_within {L : List Comp} {σ : State} (s : State) (idle : Bool) (cause wake : Nat) (h0 : Within L σ s) (hs : compsIn [.regs,
    .pass, .pwr, .air, .rf, .rx] L = true) : Within L σ (State.pwrEval s idle cause wake) := by
  refine Within.comp ?_ hs h0
  clear h0 hs
  unfold State.pwrEval
  dsimp only
  repeat' first
    | (with_reducible exact Within.refl _ _)
    | (with_reducible apply State.pwrLeave_within)
    | (with_reducible apply State.pwrTake_within)
    | (with_reducible apply State.setFld_within)
    | ((with_reducible show compsIn _ _ = true); rfl)
    | (with_reducible refine Within.ite (fun _ => ?_) (fun _ => ?_))
    | (simp only [Within.lit]; with_reducible refine Within.upd ?_ rfl (fun k hk => ?_))
    | (cases k <;> first | (exact absurd (by decide) hk) | rfl)

theorem State.pwrInput_within {L : List Comp} {σ : State} (s : State) (cause : Nat) (h0 : Within L σ s) (hs : compsIn [.regs, .pass, .pwr, .air,
    .rf, .rx] L = true) : Within L σ (State.pwrInput s cause) := by
  refine Within.comp ?_ hs h0
  clear h0 hs
  unfold State.pwrInput
  dsimp only
  repeat' first
    | (with_reducible exact Within.refl _ _)
    | (with_reducible apply State.gateEval_within)
    | (with_reducible apply State.pwrEval_within)
    | (with_reducible apply State.pwrLeave_within)
    | (with_reducible apply State.setFld_within)
    | ((with_reducible show compsIn _ _ = true); rfl)
    | (with_reducible refine Within.ite (fun _ => ?_) (fun _ => ?_))

theorem State.hBack_within {L : List Comp} {σ : State} (s : State) (h0 : Within L σ s) (hs : compsIn [.regs, .pass, .host, .pwr, .air, .qmg, .rf,
    .rx, .link] L = true) : Within L σ (State.hBack s) := by
  refine Within.comp ?_ hs h0
  clear h0 hs
  unfold State.hBack
  repeat' first
    | (with_reducible exact Within.refl _ _)
    | (with_reducible apply State.pwrInput_within)
    | (with_reducible apply State.sendMicrocode_within)
    | ((with_reducible show compsIn _ _ = true); rfl)
    | (with_reducible refine Within.ite (fun _ => ?_) (fun _ => ?_))

theorem State.suppliesBack_within {L : List Comp} {σ : State} (s : State) (h0 : Within L σ s) (hs : compsIn [.regs, .safe] L = true) : Within L σ
    (State.suppliesBack s) := by
  refine Within.comp ?_ hs h0
  clear h0 hs
  unfold State.suppliesBack
  repeat' first
    | (with_reducible exact Within.refl _ _)
    | (with_reducible apply State.quietOver_within)
    | ((with_reducible show compsIn _ _ = true); rfl)
    | (with_reducible refine Within.ite (fun _ => ?_) (fun _ => ?_))

theorem State.enterHush_within {L : List Comp} {σ : State} (s : State) (h0 : Within L σ s) (hs : compsIn [.safe, .pwr, .air, .rf] L = true) : Within L
    σ (State.enterHush s) := by
  refine Within.comp ?_ hs h0
  clear h0 hs
  unfold State.enterHush
  dsimp only
  repeat' first
    | (with_reducible exact Within.refl _ _)
    | (with_reducible apply State.cutAir_within)
    | ((with_reducible show compsIn _ _ = true); rfl)
    | (simp only [Within.lit]; with_reducible refine Within.upd ?_ rfl (fun k hk => ?_))
    | (cases k <;> first | (exact absurd (by decide) hk) | rfl)

theorem State.sendResetReq_within {L : List Comp} {σ : State} (s : State) (code part : Nat) (h0 : Within L σ s) (hs : compsIn [.pass] L = true) :
    Within L σ (State.sendResetReq s code part) := by
  refine Within.comp ?_ hs h0
  clear h0 hs
  unfold State.sendResetReq
  repeat' first
    | (with_reducible exact Within.refl _ _)
    | (with_reducible apply State.passSend_within)
    | ((with_reducible show compsIn _ _ = true); rfl)

theorem State.startSave_within {L : List Comp} {σ : State} (s : State) (h0 : Within L σ s) (hs : compsIn [.regs, .save] L = true) : Within L σ
    (State.startSave s) := by
  refine Within.comp ?_ hs h0
  clear h0 hs
  unfold State.startSave
  dsimp only
  repeat' first
    | (with_reducible exact Within.refl _ _)
    | (with_reducible apply State.bump_within)
    | ((with_reducible show compsIn _ _ = true); rfl)
    | (with_reducible refine Within.ite (fun _ => ?_) (fun _ => ?_))
    | (simp only [Within.lit]; with_reducible refine Within.upd ?_ rfl (fun k hk => ?_))
    | (cases k <;> first | (exact absurd (by decide) hk) | rfl)

theorem State.requestReset_within {L : List Comp} {σ : State} (s : State) (code : Nat) (h0 : Within L σ s) (hs : compsIn [.regs, .pass, .safe,
    .save, .pwr, .air, .rf] L = true) : Within L σ (State.requestReset s code) := by
  refine Within.comp ?_ hs h0
  clear h0 hs
  unfold State.requestReset
  dsimp only
  repeat' first
    | (with_reducible exact Within.refl _ _)
    | (with_reducible apply State.enterHush_within)
    | (with_reducible apply State.sendResetReq_within)
    | (with_reducible apply State.startSave_within)
    | ((with_reducible show compsIn _ _ = true); rfl)
    | (simp only [Within.lit]; with_reducible refine Within.upd ?_ rfl (fun k hk => ?_))
    | (cases k <;> first | (exact absurd (by decide) hk) | rfl)
    | split

theorem State.sysReset_within {L : List Comp} {σ : State} (s : State) (p : Nat) (data : Word) (h0 : Within L σ s) (hs : compsIn [.regs, .pass,
    .host, .safe, .log, .save, .pwr, .cvn, .cvnIds, .air, .qmg, .rf, .link] L = true) : Within L σ (State.sysReset s p data) := by
  refine Within.comp ?_ hs h0
  clear h0 hs
  unfold State.sysReset
  repeat' first
    | (with_reducible exact Within.refl _ _)
    | (with_reducible assumption)
    | (with_reducible apply State.err_within)
    | (with_reducible apply State.guarded_within)
    | (with_reducible apply State.requestReset_within)
    | ((with_reducible show compsIn _ _ = true); rfl)
    | (with_reducible refine Within.ite (fun _ => ?_) (fun _ => ?_))
    | (intro _)

theorem State.resetReqTake_within {L : List Comp} {σ : State} (s : State) (h0 : Within L σ s) (hs : compsIn [.regs, .pass, .host, .boot, .air,
    .qmg, .link] L = true) : Within L σ (State.resetReqTake s) := by
  refine Within.comp ?_ hs h0
  clear h0 hs
  unfold State.resetReqTake
  dsimp only
  repeat' first
    | (with_reducible exact Within.refl _ _)
    | (with_reducible apply State.hLose_within)
    | (with_reducible apply State.setFld_within)
    | ((with_reducible show compsIn _ _ = true); rfl)
    | (simp only [Within.lit]; with_reducible refine Within.upd ?_ rfl (fun k hk => ?_))
    | (cases k <;> first | (exact absurd (by decide) hk) | rfl)

theorem State.ctrSave_within {L : List Comp} {σ : State} (s : State) (e : Nat) (h0 : Within L σ s) (hs : compsIn [.key, .vault] L = true) : Within L σ
    (State.ctrSave s e) := by
  refine Within.comp ?_ hs h0
  clear h0 hs
  unfold State.ctrSave
  dsimp only
  repeat' first
    | (with_reducible exact Within.refl _ _)
    | (with_reducible apply State.checkpoint_within)
    | (with_reducible apply State.setRecord_within)
    | ((with_reducible show compsIn _ _ = true); rfl)
    | (with_reducible refine Within.ite (fun _ => ?_) (fun _ => ?_))

theorem State.storeAll_within {L : List Comp} {σ : State} (s : State) (rs : List (List Word)) (h0 : Within L σ s) (hs : compsIn [.regs, .pass,
    .host, .safe, .log, .cvn, .cvnIds, .air, .qmg, .rf, .link] L = true) : Within L σ (State.storeAll s rs) := by
  refine Within.comp ?_ hs h0
  clear h0 hs
  unfold State.storeAll
  dsimp only
  repeat' first
    | (with_reducible exact Within.refl _ _)
    | (with_reducible assumption)
    | (with_reducible apply State.ledgerStore_within)
    | (with_reducible apply State.quietLedger_within)
    | (with_reducible apply State.quietOver_within)
    | ((with_reducible show compsIn _ _ = true); rfl)
    | (with_reducible refine Within.ite (fun _ => ?_) (fun _ => ?_))
    | (with_reducible refine Within.foldl1 ?_ (fun _ _ _ => ?_))

theorem State.fifoDrain_within {L : List Comp} {σ : State} (s : State) (h0 : Within L σ s) (hs : compsIn [.regs, .pass, .host, .safe, .log, .cvn,
    .cvnIds, .air, .qmg, .rf, .link] L = true) : Within L σ (State.fifoDrain s) := by
  refine Within.comp ?_ hs h0
  clear h0 hs
  unfold State.fifoDrain
  dsimp only
  repeat' first
    | (with_reducible exact Within.refl _ _)
    | (with_reducible apply State.fifoSync_within)
    | (with_reducible apply State.storeAll_within)
    | ((with_reducible show compsIn _ _ = true); rfl)
    | (simp only [Within.lit]; with_reducible refine Within.upd ?_ rfl (fun k hk => ?_))
    | (cases k <;> first | (exact absurd (by decide) hk) | rfl)

theorem State.saveItems_within {L : List Comp} {σ : State} (s0 : State) (h0 : Within L σ s0) (hs : compsIn [.regs, .now, .free, .pass, .host,
    .time, .safe, .log, .save, .cvn, .cvnIds, .air, .qmg, .rf, .link, .key, .vault] L = true) : Within L σ (State.saveItems s0) := by
  refine Within.comp ?_ hs h0
  clear h0 hs
  unfold State.saveItems
  dsimp only
  repeat' first
    | (with_reducible exact Within.refl _ _)
    | (with_reducible assumption)
    | (with_reducible apply State.advanceTo_within)
    | (with_reducible apply State.ctrSave_within)
    | (with_reducible apply State.draw_within)
    | (with_reducible apply State.fifoDrain_within)
    | (with_reducible apply State.ledgerStore_within)
    | (with_reducible apply State.quietLedger_within)
    | (with_reducible apply State.quietOver_within)
    | (with_reducible apply State.trail_within)
    | (with_reducible apply State.wr_within)
    | ((with_reducible show compsIn _ _ = true); rfl)
    | (with_reducible refine Within.ite (fun _ => ?_) (fun _ => ?_))
    | (with_reducible refine Within.foldl ?_ (fun _ _ _ => ?_))
    | (simp only [Within.lit]; with_reducible refine Within.upd ?_ rfl (fun k hk => ?_))
    | (cases k <;> first | (exact absurd (by decide) hk) | rfl)

theorem State.hushOver_within {L : List Comp} {σ : State} (s : State) (h0 : Within L σ s) (hs : compsIn [.regs, .pass, .safe, .save, .pwr, .air,
    .rf, .rx] L = true) : Within L σ (State.hushOver s) := by
  refine Within.comp ?_ hs h0
  clear h0 hs
  unfold State.hushOver
  dsimp only
  repeat' first
    | (with_reducible exact Within.refl _ _)
    | (with_reducible apply State.evtF_within)
    | (with_reducible apply State.pwrInput_within)
    | (with_reducible apply State.setFld_within)
    | ((with_reducible show compsIn _ _ = true); rfl)
    | (simp only [Within.lit]; with_reducible refine Within.upd ?_ rfl (fun k hk => ?_))
    | (cases k <;> first | (exact absurd (by decide) hk) | rfl)

theorem State.cvnFloodEnd_within {L : List Comp} {σ : State} (s : State) (cid : Nat) (h0 : Within L σ s) (hs : compsIn [.cvn] L = true) : Within L σ
    (State.cvnFloodEnd s cid) := by
  refine Within.comp ?_ hs h0
  clear h0 hs
  unfold State.cvnFloodEnd
  dsimp only
  repeat' first
    | (with_reducible exact Within.refl _ _)
    | (simp only [Within.lit]; with_reducible refine Within.upd ?_ rfl (fun k hk => ?_))
    | (cases k <;> first | (exact absurd (by decide) hk) | rfl)

theorem State.floodInterval_within {L : List Comp} {σ : State} (s : State) (x : Flood) (len : Nat) (h0 : Within L σ s) (hs : compsIn [.free] L =
    true) : Within L σ (State.floodInterval s x len).2 := by
  refine Within.comp ?_ hs h0
  clear h0 hs
  unfold State.floodInterval
  dsimp only
  repeat' first
    | (with_reducible exact Within.refl _ _)
    | (with_reducible apply State.draw_within)
    | ((with_reducible show compsIn _ _ = true); rfl)

theorem State.floodStart_within {L : List Comp} {σ : State} (s : State) (p cls seed seq : Nat) (dg : List Byte) (chain : List Nat) (o :
    Origin) (relay : Bool) (h0 : Within L σ s) (hs : compsIn [.regs, .free, .pass, .cvn, .qmg, .mesh] L = true) : Within L σ (State.floodStart s p
    cls seed seq dg chain o relay) := by
  refine Within.comp ?_ hs h0
  clear h0 hs
  unfold State.floodStart
  dsimp only
  repeat' first
    | (with_reducible exact Within.refl _ _)
    | (with_reducible apply State.cvnFloodEnd_within)
    | (with_reducible apply State.floodInterval_within)
    | (with_reducible apply State.freeChain_within)
    | (with_reducible apply State.txDone_within)
    | ((with_reducible show compsIn _ _ = true); rfl)
    | (with_reducible refine Within.ite (fun _ => ?_) (fun _ => ?_))
    | (simp only [Within.lit]; with_reducible refine Within.upd ?_ rfl (fun k hk => ?_))
    | (cases k <;> first | (exact absurd (by decide) hk) | rfl)
    | split

theorem State.newId_within {L : List Comp} {σ : State} (s : State) (h0 : Within L σ s) (hs : compsIn [.qmg] L = true) : Within L σ (State.newId s).2
    := by
  refine Within.comp ?_ hs h0
  clear h0 hs
  unfold State.newId
  dsimp only
  repeat' first
    | (with_reducible exact Within.refl _ _)
    | (simp only [Within.lit]; with_reducible refine Within.upd ?_ rfl (fun k hk => ?_))
    | (cases k <;> first | (exact absurd (by decide) hk) | rfl)

theorem State.qAppend_within {L : List Comp} {σ : State} (s : State) (q : Nat) (f : Frame) (h0 : Within L σ s) (hs : compsIn [.qmg] L = true) : Within
    L σ (State.qAppend s q f) := by
  refine Within.comp ?_ hs h0
  clear h0 hs
  unfold State.qAppend
  dsimp only
  repeat' first
    | (with_reducible exact Within.refl _ _)
    | (with_reducible apply State.setQueue_within)
    | ((with_reducible show compsIn _ _ = true); rfl)

theorem State.spillLoop_within {L : List Comp} {σ : State} (s : State) (high : Nat) (n : Nat) (h0 : Within L σ s) (hs : compsIn [.regs, .pass,
    .host, .safe, .log, .cvn, .cvnIds, .air, .qmg, .rf, .link, .key, .vault, .mesh] L = true) : Within L σ (State.spillLoop s high n) := by
  induction n generalizing s high with
  | zero => exact h0
  | succ n ih =>
  unfold State.spillLoop
  dsimp only
  repeat' first
    | (with_reducible assumption)
    | (with_reducible apply ih)
    | (with_reducible apply State.freeChain_within)
    | (with_reducible apply State.queueFault_within)
    | (with_reducible apply State.setQueue_within)
    | (exact compsIn_trans (m := [.regs, .pass, .host, .safe, .log, .cvn, .cvnIds, .air, .qmg, .rf, .link, .key, .vault, .mesh]) rfl hs)
    | (with_reducible refine Within.ite (fun _ => ?_) (fun _ => ?_))
    | split

theorem State.spill_within {L : List Comp} {σ : State} (s : State) (h0 : Within L σ s) (hs : compsIn [.regs, .pass, .host, .safe, .log, .cvn,
    .cvnIds, .air, .qmg, .rf, .link, .key, .vault, .mesh] L = true) : Within L σ (State.spill s) := by
  refine Within.comp ?_ hs h0
  clear h0 hs
  unfold State.spill
  dsimp only
  repeat' first
    | (with_reducible exact Within.refl _ _)
    | (with_reducible apply State.spillLoop_within)
    | ((with_reducible show compsIn _ _ = true); rfl)
    | (with_reducible refine Within.ite (fun _ => ?_) (fun _ => ?_))

theorem State.passCross_within {L : List Comp} {σ : State} (s : State) (d : Die) (h0 : Within L σ s) (hs : compsIn [.pass, .rx] L = true) : Within L σ
    (State.passCross s d) := by
  refine Within.comp ?_ hs h0
  clear h0 hs
  unfold State.passCross
  dsimp only
  repeat' first
    | (with_reducible exact Within.refl _ _)
    | (with_reducible apply State.setTxDir_within)
    | ((with_reducible show compsIn _ _ = true); rfl)

theorem State.rspTake_within {L : List Comp} {σ : State} (s : State) (p tag : Nat) (w : Word) (h0 : Within L σ s) (hs : compsIn [.host] L = true)
    : Within L σ (State.rspTake s p tag w) := by
  refine Within.comp ?_ hs h0
  clear h0 hs
  unfold State.rspTake
  dsimp only
  repeat' first
    | (with_reducible exact Within.refl _ _)
    | (with_reducible apply State.answer_within)
    | ((with_reducible show compsIn _ _ = true); rfl)
    | (with_reducible refine Within.ite (fun _ => ?_) (fun _ => ?_))
    | (simp only [Within.lit]; with_reducible refine Within.upd ?_ rfl (fun k hk => ?_))
    | (cases k <;> first | (exact absurd (by decide) hk) | rfl)

theorem State.regRsp_within {L : List Comp} {σ : State} (s : State) (p tag : Nat) (w : Word) (h0 : Within L σ s) (hs : compsIn [.pass, .host, .rx]
    L = true) : Within L σ (State.regRsp s p tag w) := by
  refine Within.comp ?_ hs h0
  clear h0 hs
  unfold State.regRsp
  repeat' first
    | (with_reducible exact Within.refl _ _)
    | (with_reducible apply State.passCross_within)
    | (with_reducible apply State.passSend_within)
    | (with_reducible apply State.rspTake_within)
    | ((with_reducible show compsIn _ _ = true); rfl)
    | (with_reducible refine Within.ite (fun _ => ?_) (fun _ => ?_))

theorem State.popAnswer_within {L : List Comp} {σ : State} (s : State) (w : Word) (h0 : Within L σ s) (hs : compsIn [.pass, .host, .qmg, .rx] L =
    true) : Within L σ (State.popAnswer s w) := by
  refine Within.comp ?_ hs h0
  clear h0 hs
  unfold State.popAnswer
  dsimp only
  repeat' first
    | (with_reducible exact Within.refl _ _)
    | (with_reducible apply State.answer_within)
    | (with_reducible apply State.regRsp_within)
    | ((with_reducible show compsIn _ _ = true); rfl)
    | (simp only [Within.lit]; with_reducible refine Within.upd ?_ rfl (fun k hk => ?_))
    | (cases k <;> first | (exact absurd (by decide) hk) | rfl)
    | split

theorem State.popRelease_within {L : List Comp} {σ : State} (s : State) (h0 : Within L σ s) (hs : compsIn [.regs, .qmg] L = true) : Within L σ
    (State.popRelease s) := by
  refine Within.comp ?_ hs h0
  clear h0 hs
  unfold State.popRelease
  dsimp only
  repeat' first
    | (with_reducible exact Within.refl _ _)
    | (with_reducible apply State.release_within)
    | ((with_reducible show compsIn _ _ = true); rfl)
    | (simp only [Within.lit]; with_reducible refine Within.upd ?_ rfl (fun k hk => ?_))
    | (cases k <;> first | (exact absurd (by decide) hk) | rfl)
    | split

theorem State.popTake_within {L : List Comp} {σ : State} {s : State} {k : Nat} {τ : State} {ξ : Word} (h : State.popTake s k = some (ξ, τ))
    (h0 : Within L σ s) (hs : compsIn [.regs, .time, .air, .qmg, .shp, .link] L = true) : Within L σ τ := by
  refine Within.comp ?_ hs h0
  clear h0 hs
  revert h
  unfold State.popTake
  dsimp only
  (repeat' split) <;> intro h <;> simp only [reduceCtorEq, Option.some.injEq, Prod.mk.injEq] at h <;> (first | (obtain ⟨rfl, rfl⟩ := h) |
      subst h) <;> (repeat' first
    | (with_reducible exact Within.refl _ _)
    | (with_reducible apply State.popRelease_within)
    | (with_reducible apply State.setQueue_within)
    | (with_reducible apply State.shapeCharge_within)
    | ((with_reducible show compsIn _ _ = true); rfl)
    | (simp only [Within.lit]; with_reducible refine Within.upd ?_ rfl (fun k hk => ?_))
    | (cases k <;> first | (exact absurd (by decide) hk) | rfl))

theorem State.popServe_within {L : List Comp} {σ : State} (s : State) (k : Nat) (h0 : Within L σ s) (hs : compsIn [.regs, .pass, .host, .time,
    .air, .qmg, .shp, .rx, .link] L = true) : Within L σ (State.popServe s k) := by
  refine Within.comp ?_ hs h0
  clear h0 hs
  unfold State.popServe
  repeat' first
    | (with_reducible exact Within.refl _ _)
    | (with_reducible apply State.popAnswer_within)
    | (with_reducible apply State.popTake_within; assumption)
    | ((with_reducible show compsIn _ _ = true); rfl)
    | (with_reducible refine Within.ite (fun _ => ?_) (fun _ => ?_))
    | split

theorem State.takeChain_within {L : List Comp} {σ : State} (s : State) (n : Nat) (h0 : Within L σ s) (hs : compsIn [.regs, .pass, .host, .safe,
    .log, .cvn, .cvnIds, .air, .qmg, .rf, .link, .key, .vault, .mesh] L = true) : Within L σ (State.takeChain s n).2 := by
  refine Within.comp ?_ hs h0
  clear h0 hs
  unfold State.takeChain
  dsimp only
  repeat' first
    | (with_reducible exact Within.refl _ _)
    | (with_reducible apply State.setUsed_within)
    | (with_reducible apply State.spill_within)
    | ((with_reducible show compsIn _ _ = true); rfl)

theorem State.tapOne_within {L : List Comp} {σ : State} (s : State) (q : Nat) (f : Frame) (k : Nat) (h0 : Within L σ s) (hs : compsIn [.regs,
    .pass, .host, .time, .safe, .log, .cvn, .cvnIds, .air, .qmg, .shp, .rf, .rx, .link, .key, .vault, .mesh] L = true) : Within L σ
    (State.tapOne s q f k) := by
  refine Within.comp ?_ hs h0
  clear h0 hs
  unfold State.tapOne
  dsimp only
  repeat' first
    | (with_reducible exact Within.refl _ _)
    | (with_reducible apply State.bump_within)
    | (with_reducible apply State.newId_within)
    | (with_reducible apply State.popServe_within)
    | (with_reducible apply State.qAppend_within)
    | (with_reducible apply State.queueCheck_within)
    | (with_reducible apply State.takeChain_within)
    | ((with_reducible show compsIn _ _ = true); rfl)
    | (with_reducible refine Within.ite (fun _ => ?_) (fun _ => ?_))

theorem State.taps_within {L : List Comp} {σ : State} (s : State) (q : Nat) (f : Frame) (h0 : Within L σ s) (hs : compsIn [.regs, .pass, .host,
    .time, .safe, .log, .cvn, .cvnIds, .air, .qmg, .shp, .rf, .rx, .link, .key, .vault, .mesh] L = true) : Within L σ (State.taps s q f) := by
  refine Within.comp ?_ hs h0
  clear h0 hs
  unfold State.taps
  repeat' first
    | (with_reducible exact Within.refl _ _)
    | (with_reducible assumption)
    | (with_reducible apply State.tapOne_within)
    | ((with_reducible show compsIn _ _ = true); rfl)
    | (with_reducible refine Within.ite (fun _ => ?_) (fun _ => ?_))
    | (with_reducible refine Within.foldl ?_ (fun _ _ _ => ?_))

theorem State.offer_within {L : List Comp} {σ : State} (s0 : State) (q : Nat) (f : Frame) (h0 : Within L σ s0) (hs : compsIn [.regs, .pass, .host,
    .time, .safe, .log, .cvn, .cvnIds, .air, .qmg, .shp, .rf, .rx, .link, .key, .vault, .mesh] L = true) : Within L σ (State.offer s0 q f).1
    := by
  refine Within.comp ?_ hs h0
  clear h0 hs
  unfold State.offer
  dsimp only
  repeat' first
    | (with_reducible exact Within.refl _ _)
    | (with_reducible apply State.bump_within)
    | (with_reducible apply State.frameEnd_within)
    | (with_reducible apply State.qAppend_within)
    | (with_reducible apply State.queueCheck_within)
    | (with_reducible apply State.release_within)
    | (with_reducible apply State.setQueue_within)
    | (with_reducible apply State.spill_within)
    | (with_reducible apply State.taps_within)
    | ((with_reducible show compsIn _ _ = true); rfl)
    | split

theorem State.floodWait_within {L : List Comp} {σ : State} (s : State) (x : Pkt) (p : Nat) (h0 : Within L σ s) (hs : compsIn [.regs, .pass, .host,
    .time, .safe, .log, .cvn, .cvnIds, .air, .qmg, .shp, .rf, .rx, .link, .key, .vault, .mesh] L = true) : WithinOpt L σ (State.floodWait s x p)
    := by
  have key : WithinOpt [.regs, .pass, .host, .time, .safe, .log, .cvn, .cvnIds, .air, .qmg, .shp, .rf, .rx, .link, .key, .vault, .mesh] s
      (State.floodWait s x p) := ?_
  · exact fun t e => Within.comp (key t e) hs h0
  clear h0 hs
  unfold State.floodWait
  dsimp only
  repeat' first
    | (with_reducible exact Within.refl _ _)
    | (with_reducible apply State.bump_within)
    | (with_reducible apply State.newId_within)
    | (with_reducible apply State.offer_within)
    | ((with_reducible show compsIn _ _ = true); rfl)
    | (with_reducible refine WithinOpt.ite (fun _ => ?_) (fun _ => ?_))
    | (with_reducible exact WithinOpt.none)
    | (with_reducible apply WithinOpt.some)

theorem State.seedTake_within {L : List Comp} {σ : State} {s : State} {p i q : Nat} {τ : State} (h : s.seedTake p = some (i, q, τ)) (h0 : Within L
    σ s)
    (hs : compsIn [.mesh] L = true) : Within L σ τ := by
  refine Within.comp ?_ hs h0
  clear h0 hs
  unfold State.seedTake at h
  dsimp only at h
  split at h
  · simp at h
  · simp only [Option.some.injEq, Prod.mk.injEq] at h
    obtain ⟨_, _, rfl⟩ := h
    repeat' first
    | (with_reducible exact Within.refl _ _)
    | (simp only [Within.lit]; with_reducible refine Within.upd ?_ rfl (fun k hk => ?_))
    | (cases k <;> first | (exact absurd (by decide) hk) | rfl)

theorem State.cacheSync_within {L : List Comp} {σ : State} (s : State) (h0 : Within L σ s) (hs : compsIn [.regs] L = true) : Within L σ
    (State.cacheSync s) := by
  refine Within.comp ?_ hs h0
  clear h0 hs
  unfold State.cacheSync
  repeat' first
    | (with_reducible exact Within.refl _ _)
    | (with_reducible apply State.setFld_within)
    | ((with_reducible show compsIn _ _ = true); rfl)

theorem State.seenPut_within {L : List Comp} {σ : State} (s : State) (k : Nat) (h0 : Within L σ s) (hs : compsIn [.regs, .mesh] L = true) : Within L σ
    (State.seenPut s k) := by
  refine Within.comp ?_ hs h0
  clear h0 hs
  unfold State.seenPut
  dsimp only
  repeat' first
    | (with_reducible exact Within.refl _ _)
    | (with_reducible apply State.bump_within)
    | (with_reducible apply State.cacheSync_within)
    | ((with_reducible show compsIn _ _ = true); rfl)
    | (with_reducible refine Within.ite (fun _ => ?_) (fun _ => ?_))
    | (simp only [Within.lit]; with_reducible refine Within.upd ?_ rfl (fun k hk => ?_))
    | (cases k <;> first | (exact absurd (by decide) hk) | rfl)

theorem State.floodSeed_within {L : List Comp} {σ : State} (s : State) (x : Pkt) (p : Nat) (h0 : Within L σ s) (hs : compsIn [.regs, .free, .pass,
    .host, .time, .safe, .log, .cvn, .cvnIds, .air, .qmg, .shp, .rf, .rx, .link, .key, .vault, .mesh] L = true) : WithinOpt L σ (State.floodSeed
    s x p) := by
  have key : WithinOpt [.regs, .free, .pass, .host, .time, .safe, .log, .cvn, .cvnIds, .air, .qmg, .shp, .rf, .rx, .link, .key, .vault, .mesh] s
      (State.floodSeed s x p) := ?_
  · exact fun t e => Within.comp (key t e) hs h0
  clear h0 hs
  unfold State.floodSeed
  repeat' first
    | (with_reducible exact Within.refl _ _)
    | (with_reducible apply State.floodStart_within)
    | (with_reducible apply State.floodWait_within)
    | (with_reducible apply State.seedTake_within; assumption)
    | (with_reducible apply State.seenPut_within)
    | ((with_reducible show compsIn _ _ = true); rfl)
    | split
    | (with_reducible apply WithinOpt.some)

theorem State.pktEnd_within {L : List Comp} {σ : State} (s : State) (x : Pkt) (status cause detail : Nat) (h0 : Within L σ s) (hs : compsIn
    [.regs, .pass, .cvn, .qmg, .mesh] L = true) : Within L σ (State.pktEnd s x status cause detail) := by
  refine Within.comp ?_ hs h0
  clear h0 hs
  unfold State.pktEnd
  repeat' first
    | (with_reducible exact Within.refl _ _)
    | (with_reducible apply State.freeChain_within)
    | (with_reducible apply State.originEnd_within)
    | ((with_reducible show compsIn _ _ = true); rfl)

theorem State.pktFail_within {L : List Comp} {σ : State} (s : State) (x : Pkt) (status cause cnt : Nat) (h0 : Within L σ s) (hs : compsIn [.regs,
    .pass, .cvn, .qmg, .mesh] L = true) : Within L σ (State.pktFail s x status cause cnt) := by
  refine Within.comp ?_ hs h0
  clear h0 hs
  unfold State.pktFail
  repeat' first
    | (with_reducible exact Within.refl _ _)
    | (with_reducible apply State.bump_within)
    | (with_reducible apply State.pktEnd_within)
    | ((with_reducible show compsIn _ _ = true); rfl)
    | (with_reducible refine Within.ite (fun _ => ?_) (fun _ => ?_))

theorem State.pktFree_within {L : List Comp} {σ : State} (s : State) (x : Pkt) (h0 : Within L σ s) (hs : compsIn [.regs, .free, .pass, .cvn, .qmg,
    .mesh] L = true) : Within L σ (State.pktFree s x) := by
  refine Within.comp ?_ hs h0
  clear h0 hs
  unfold State.pktFree
  dsimp only
  repeat' first
    | (with_reducible exact Within.refl _ _)
    | (with_reducible apply State.draw_within)
    | (with_reducible apply State.pktEnd_within)
    | ((with_reducible show compsIn _ _ = true); rfl)

theorem State.radioCopy_within {L : List Comp} {σ : State} (s : State) (p cls ord : Nat) (nbr : Option Nat) (own : Bool) (dg : List Byte) (h0
    : Within L σ s) (hs : compsIn [.regs, .air, .qmg, .link, .mesh] L = true) : Within L σ (State.radioCopy s p cls ord nbr own dg).2 := by
  refine Within.comp ?_ hs h0
  clear h0 hs
  unfold State.radioCopy
  dsimp only
  repeat' first
    | (with_reducible exact Within.refl _ _)
    | (with_reducible refine Within.ite (fun _ => ?_) (fun _ => ?_))
    | (simp only [Within.lit]; with_reducible refine Within.upd ?_ rfl (fun k hk => ?_))
    | (cases k <;> first | (exact absurd (by decide) hk) | rfl)

theorem State.prefetch_within {L : List Comp} {σ : State} (s : State) (f : Frame) (h0 : Within L σ s) (hs : compsIn [.regs, .key] L = true) : Within L
    σ (State.prefetch s f) := by
  refine Within.comp ?_ hs h0
  clear h0 hs
  unfold State.prefetch
  repeat' first
    | (with_reducible exact Within.refl _ _)
    | (with_reducible apply State.keyRequest_within)
    | ((with_reducible show compsIn _ _ = true); rfl)
    | split

theorem State.offerPart_within {L : List Comp} {σ : State} (s : State) (e : Nat × Frame) (h0 : Within L σ s) (hs : compsIn [.regs, .pass, .host,
    .time, .safe, .log, .cvn, .cvnIds, .air, .qmg, .shp, .rf, .rx, .link, .key, .vault, .mesh] L = true) : Within L σ (State.offerPart s e) :=
    by
  refine Within.comp ?_ hs h0
  clear h0 hs
  unfold State.offerPart
  dsimp only
  repeat' first
    | (with_reducible exact Within.refl _ _)
    | (with_reducible apply State.newId_within)
    | (with_reducible apply State.offer_within)
    | (with_reducible apply State.prefetch_within)
    | (with_reducible apply State.release_within)
    | ((with_reducible show compsIn _ _ = true); rfl)
    | (with_reducible refine Within.ite (fun _ => ?_) (fun _ => ?_))
    | split

theorem State.takeEach_within {L : List Comp} {σ : State} (s : State) (xs : List (Nat × Frame)) (h0 : Within L σ s) (hs : compsIn [.regs, .pass,
    .host, .safe, .log, .cvn, .cvnIds, .air, .qmg, .rf, .link, .key, .vault, .mesh] L = true) : Within L σ (State.takeEach s xs).2 := by
  induction xs generalizing s with
  | nil => exact h0
  | cons x xs ih => exact ih _ (State.takeChain_within _ _ h0 (compsIn_trans (m := [.regs, .pass, .host, .safe, .log, .cvn, .cvnIds, .air,
      .qmg, .rf, .link, .key, .vault, .mesh]) rfl hs))

theorem State.takeRest_within {L : List Comp} {σ : State} (s : State) (chain : List Nat) (xs : List (Nat × Frame)) (h0 : Within L σ s) (hs :
    compsIn [.regs, .pass, .host, .safe, .log, .cvn, .cvnIds, .air, .qmg, .rf, .link, .key, .vault, .mesh] L = true) : Within L σ
    (State.takeRest s chain xs).2 := by
  cases xs with
  | nil => exact h0
  | cons x xs => exact State.takeEach_within _ _ h0 (compsIn_trans (m := [.regs, .pass, .host, .safe, .log, .cvn, .cvnIds, .air, .qmg, .rf,
      .link, .key, .vault, .mesh]) rfl hs)

theorem State.radioSend_within {L : List Comp} {σ : State} (s : State) (x : Pkt) (pan : Nat) (twin : Bool) (cs : List RadioCopy) (h0 : Within L σ
    s) (hs : compsIn [.regs, .pass, .host, .time, .safe, .log, .cvn, .cvnIds, .air, .qmg, .shp, .rf, .rx, .link, .key, .vault, .mesh] L =
    true) : WithinOpt L σ (State.radioSend s x pan twin cs) := by
  have key : WithinOpt [.regs, .pass, .host, .time, .safe, .log, .cvn, .cvnIds, .air, .qmg, .shp, .rf, .rx, .link, .key, .vault, .mesh] s
      (State.radioSend s x pan twin cs) := ?_
  · exact fun t e => Within.comp (key t e) hs h0
  clear h0 hs
  unfold State.radioSend
  dsimp only
  repeat' first
    | (with_reducible exact Within.refl _ _)
    | (with_reducible assumption)
    | (with_reducible apply State.bump_within)
    | (with_reducible apply State.offerPart_within)
    | (with_reducible apply State.pktEnd_within)
    | (with_reducible apply State.takeRest_within)
    | ((with_reducible show compsIn _ _ = true); rfl)
    | (with_reducible refine Within.foldl ?_ (fun _ _ _ => ?_))
    | (with_reducible refine WithinOpt.ite (fun _ => ?_) (fun _ => ?_))
    | (with_reducible exact WithinOpt.none)
    | (with_reducible apply WithinOpt.some)
    | (simp only [Within.lit]; with_reducible refine Within.upd ?_ rfl (fun k hk => ?_))
    | (cases k <;> first | (exact absurd (by decide) hk) | rfl)

theorem State.floodIn_within {L : List Comp} {σ : State} (s : State) (x : Pkt) (p : Nat) (h0 : Within L σ s) (hs : compsIn [.regs, .free, .pass,
    .host, .time, .safe, .log, .cvn, .cvnIds, .air, .qmg, .shp, .rf, .rx, .link, .key, .vault, .mesh] L = true) : WithinOpt L σ (State.floodIn s
    x p) := by
  have key : WithinOpt [.regs, .free, .pass, .host, .time, .safe, .log, .cvn, .cvnIds, .air, .qmg, .shp, .rf, .rx, .link, .key, .vault, .mesh] s
      (State.floodIn s x p) := ?_
  · exact fun t e => Within.comp (key t e) hs h0
  clear h0 hs
  unfold State.floodIn
  dsimp only
  repeat' first
    | (with_reducible exact Within.refl _ _)
    | (with_reducible apply State.bump_within)
    | (with_reducible apply State.floodSeed_within)
    | (with_reducible apply State.pktEnd_within)
    | (with_reducible apply State.pktFail_within)
    | (with_reducible apply State.pktFree_within)
    | (with_reducible apply State.radioCopy_within)
    | (with_reducible apply State.radioSend_within)
    | ((with_reducible show compsIn _ _ = true); rfl)
    | (with_reducible refine WithinOpt.ite (fun _ => ?_) (fun _ => ?_))
    | (with_reducible apply WithinOpt.some)

theorem State.bumpBy_within {L : List Comp} {σ : State} (s : State) (k : Nat) (n : Nat) (h0 : Within L σ s) (hs : compsIn [.regs] L = true) : Within L
    σ (State.bumpBy s k n) := by
  refine Within.comp ?_ hs h0
  clear h0 hs
  unfold State.bumpBy
  repeat' first
    | (with_reducible exact Within.refl _ _)
    | (with_reducible apply State.wr_within)
    | ((with_reducible show compsIn _ _ = true); rfl)

theorem State.idxLook_within {L : List Comp} {σ : State} (s : State) (b : Bool) (key : Nat) (h0 : Within L σ s) (hs : compsIn [.regs, .free] L =
    true) : Within L σ (State.idxLook s b key).2 := by
  refine Within.comp ?_ hs h0
  clear h0 hs
  unfold State.idxLook
  dsimp only
  repeat' first
    | (with_reducible exact Within.refl _ _)
    | (with_reducible apply State.bump_within)
    | (with_reducible apply State.bumpBy_within)
    | (with_reducible apply State.draw_within)
    | ((with_reducible show compsIn _ _ = true); rfl)
    | (with_reducible refine Within.ite (fun _ => ?_) (fun _ => ?_))
    | (with_reducible refine Within.ite2 (fun _ => ?_) (fun _ => ?_))

theorem State.iidLook_within {L : List Comp} {σ : State} (s : State) (p iid : Nat) (h0 : Within L σ s) (hs : compsIn [.regs, .free] L = true) : Within
    L σ (State.iidLook s p iid).2 := by
  refine Within.comp ?_ hs h0
  clear h0 hs
  unfold State.iidLook
  repeat' first
    | (with_reducible exact Within.refl _ _)
    | (with_reducible apply State.idxLook_within)
    | ((with_reducible show compsIn _ _ = true); rfl)
    | (with_reducible refine Within.ite2 (fun _ => ?_) (fun _ => ?_))

theorem State.sendOn_within {L : List Comp} {σ : State} (s : State) (x : Pkt) (p d : Nat) (l : List Nat) (ci0 : Nat) (h0 : Within L σ s) (hs :
    compsIn [.regs, .pass, .host, .time, .safe, .log, .cvn, .cvnIds, .air, .qmg, .shp, .rf, .rx, .link, .key, .vault, .mesh] L = true) :
    WithinOpt L σ (State.sendOn s x p d l ci0) := by
  have key : WithinOpt [.regs, .pass, .host, .time, .safe, .log, .cvn, .cvnIds, .air, .qmg, .shp, .rf, .rx, .link, .key, .vault, .mesh] s
      (State.sendOn s x p d l ci0) := ?_
  · exact fun t e => Within.comp (key t e) hs h0
  clear h0 hs
  unfold State.sendOn
  dsimp only
  repeat' first
    | (with_reducible exact Within.refl _ _)
    | (with_reducible apply State.pktEnd_within)
    | (with_reducible apply State.radioCopy_within)
    | (with_reducible apply State.radioSend_within)
    | ((with_reducible show compsIn _ _ = true); rfl)
    | (with_reducible refine WithinOpt.ite (fun _ => ?_) (fun _ => ?_))
    | (with_reducible apply WithinOpt.some)

theorem State.sendTwin_within {L : List Comp} {σ : State} (s : State) (x : Pkt) (p d : Nat) (l1 l2 : List Nat) (ci0 : Nat) (h0 : Within L σ s) (hs
    : compsIn [.regs, .pass, .host, .time, .safe, .log, .cvn, .cvnIds, .air, .qmg, .shp, .rf, .rx, .link, .key, .vault, .mesh] L = true) :
    WithinOpt L σ (State.sendTwin s x p d l1 l2 ci0) := by
  have key : WithinOpt [.regs, .pass, .host, .time, .safe, .log, .cvn, .cvnIds, .air, .qmg, .shp, .rf, .rx, .link, .key, .vault, .mesh] s
      (State.sendTwin s x p d l1 l2 ci0) := ?_
  · exact fun t e => Within.comp (key t e) hs h0
  clear h0 hs
  unfold State.sendTwin
  dsimp only
  repeat' first
    | (with_reducible exact Within.refl _ _)
    | (with_reducible apply State.radioSend_within)
    | (with_reducible apply State.setFld_within)
    | ((with_reducible show compsIn _ _ = true); rfl)

theorem State.meshSend_within {L : List Comp} {σ : State} (s : State) (x : Pkt) (p : Nat) (h0 : Within L σ s) (hs : compsIn [.regs, .free, .pass,
    .host, .time, .safe, .log, .ndir, .cvn, .cvnIds, .air, .qmg, .shp, .rf, .rx, .link, .key, .vault, .mesh] L = true) : WithinOpt L σ
    (State.meshSend s x p) := by
  have key : WithinOpt [.regs, .free, .pass, .host, .time, .safe, .log, .ndir, .cvn, .cvnIds, .air, .qmg, .shp, .rf, .rx, .link, .key, .vault,
      .mesh] s (State.meshSend s x p) := ?_
  · exact fun t e => Within.comp (key t e) hs h0
  clear h0 hs
  unfold State.meshSend
  dsimp only
  repeat' first
    | (with_reducible exact Within.refl _ _)
    | (with_reducible apply State.bump_within)
    | (with_reducible apply State.draw_within)
    | (with_reducible apply State.iidLook_within)
    | (with_reducible apply State.pktFail_within)
    | (with_reducible apply State.pktFree_within)
    | (with_reducible apply State.sendOn_within)
    | (with_reducible apply State.sendTwin_within)
    | (with_reducible apply State.setNode_within)
    | ((with_reducible show compsIn _ _ = true); rfl)
    | split
    | (with_reducible apply WithinOpt.some)
    | (with_reducible refine Within.of2 ?_ (by assumption))

theorem State.pktQueue_within {L : List Comp} {σ : State} (s : State) (x : Pkt) (q : Nat) (h0 : Within L σ s) (hs : compsIn [.regs, .pass, .host,
    .time, .safe, .log, .cvn, .cvnIds, .air, .qmg, .shp, .rf, .rx, .link, .key, .vault, .mesh] L = true) : Within L σ (State.pktQueue s x q)
    := by
  refine Within.comp ?_ hs h0
  clear h0 hs
  unfold State.pktQueue
  dsimp only
  repeat' first
    | (with_reducible exact Within.refl _ _)
    | (with_reducible apply State.newId_within)
    | (with_reducible apply State.offer_within)
    | ((with_reducible show compsIn _ _ = true); rfl)

theorem State.forward_within {L : List Comp} {σ : State} (s : State) (x : Pkt) (r : Word) (h0 : Within L σ s) (hs : compsIn [.regs, .free, .pass,
    .host, .time, .safe, .log, .ndir, .cvn, .cvnIds, .air, .qmg, .shp, .rf, .rx, .link, .key, .vault, .mesh] L = true) : Within L σ
    (State.forward s x r) := by
  refine Within.comp ?_ hs h0
  clear h0 hs
  unfold State.forward
  dsimp only
  repeat' first
    | (with_reducible exact Within.refl _ _)
    | (with_reducible apply State.bump_within)
    | (with_reducible apply State.floodIn_within)
    | (with_reducible apply State.meshSend_within)
    | (with_reducible apply State.pktEnd_within)
    | (with_reducible apply State.pktFail_within)
    | (with_reducible apply State.pktQueue_within)
    | ((with_reducible show compsIn _ _ = true); rfl)
    | (with_reducible refine Within.ite (fun _ => ?_) (fun _ => ?_))
    | (with_reducible refine WithinOpt.ite (fun _ => ?_) (fun _ => ?_))
    | (with_reducible refine WithinOpt.getD ?_ ?_)

theorem State.lpmReads_within {L : List Comp} {σ : State} (s : State) (ps : List (Nat × Prefix)) (a : Nat) (h0 : Within L σ s) (hs : compsIn
    [.regs] L = true) : Within L σ (State.lpmReads s ps a) := by
  refine Within.comp ?_ hs h0
  clear h0 hs
  unfold State.lpmReads
  repeat' first
    | (with_reducible exact Within.refl _ _)
    | (with_reducible apply State.bumpBy_within)
    | ((with_reducible show compsIn _ _ = true); rfl)

theorem State.lpmLookup_within {L : List Comp} {σ : State} (s : State) (a : Nat) (h0 : Within L σ s) (hs : compsIn [.regs] L = true) : Within L σ
    (State.lpmLookup s a).2 := by
  refine Within.comp ?_ hs h0
  clear h0 hs
  unfold State.lpmLookup
  dsimp only
  repeat' first
    | (with_reducible exact Within.refl _ _)
    | (with_reducible apply State.bump_within)
    | (with_reducible apply State.lpmReads_within)
    | ((with_reducible show compsIn _ _ = true); rfl)
    | (with_reducible refine Within.ite (fun _ => ?_) (fun _ => ?_))

theorem State.setPolicer_within {L : List Comp} {σ : State} (s : State) (i : Nat) (x : Policer) (h0 : Within L σ s) (hs : compsIn [.shp] L = true)
    : Within L σ (State.setPolicer s i x) := by
  refine Within.comp ?_ hs h0
  clear h0 hs
  unfold State.setPolicer
  dsimp only
  repeat' first
    | (with_reducible exact Within.refl _ _)
    | (simp only [Within.lit]; with_reducible refine Within.upd ?_ rfl (fun k hk => ?_))
    | (cases k <;> first | (exact absurd (by decide) hk) | rfl)

theorem State.police_within {L : List Comp} {σ : State} (s : State) (i len : Nat) (c : Colour) (h0 : Within L σ s) (hs : compsIn [.shp] L = true)
    : Within L σ (State.police s i len c).2 := by
  refine Within.comp ?_ hs h0
  clear h0 hs
  unfold State.police
  dsimp only
  repeat' first
    | (with_reducible exact Within.refl _ _)
    | (with_reducible apply State.setPolicer_within)
    | ((with_reducible show compsIn _ _ = true); rfl)

theorem State.lpmForward_within {L : List Comp} {σ : State} (s : State) (x : Pkt) (h0 : Within L σ s) (hs : compsIn [.regs, .free, .pass, .host,
    .time, .safe, .log, .ndir, .cvn, .cvnIds, .air, .qmg, .shp, .rf, .rx, .link, .key, .vault, .mesh] L = true) : Within L σ (State.lpmForward
    s x) := by
  refine Within.comp ?_ hs h0
  clear h0 hs
  unfold State.lpmForward
  dsimp only
  repeat' first
    | (with_reducible exact Within.refl _ _)
    | (with_reducible apply State.forward_within)
    | (with_reducible apply State.lpmLookup_within)
    | (with_reducible apply State.pktEnd_within)
    | (with_reducible apply State.police_within)
    | ((with_reducible show compsIn _ _ = true); rfl)
    | (with_reducible refine Within.ite (fun _ => ?_) (fun _ => ?_))
    | (with_reducible refine Within.of2 ?_ (by assumption))
    | split

theorem State.rawUp_within {L : List Comp} {σ : State} (s : State) (x : Pkt) (bs : List Byte) (time : Word) (p r : Nat) (h0 : Within L σ s) (hs :
    compsIn [.regs, .pass, .host, .time, .safe, .log, .cvn, .cvnIds, .air, .qmg, .shp, .rf, .rx, .link, .key, .vault, .mesh] L = true) :
    Within L σ (State.rawUp s x bs time p r) := by
  refine Within.comp ?_ hs h0
  clear h0 hs
  unfold State.rawUp
  dsimp only
  repeat' first
    | (with_reducible exact Within.refl _ _)
    | (with_reducible apply State.pktQueue_within)
    | ((with_reducible show compsIn _ _ = true); rfl)

theorem State.ptpUp_within {L : List Comp} {σ : State} (s : State) (x : Pkt) (bs : List Byte) (time : Word) (h0 : Within L σ s) (hs : compsIn
    [.regs, .pass, .host, .time, .safe, .log, .cvn, .cvnIds, .air, .qmg, .shp, .rf, .rx, .link, .key, .vault, .mesh] L = true) : Within L σ
    (State.ptpUp s x bs time) := by
  refine Within.comp ?_ hs h0
  clear h0 hs
  unfold State.ptpUp
  repeat' first
    | (with_reducible exact Within.refl _ _)
    | (with_reducible apply State.rawUp_within)
    | ((with_reducible show compsIn _ _ = true); rfl)

theorem State.ethSort_within {L : List Comp} {σ : State} (s1 : State) (y : Pkt) (bs : List Byte) (time : Word) (e : Nat) (h0 : Within L σ s1) (hs
    : compsIn [.regs, .free, .pass, .host, .time, .safe, .log, .ndir, .cvn, .cvnIds, .air, .qmg, .shp, .rf, .rx, .link, .key, .vault,
    .mesh] L = true) : Within L σ (State.ethSort s1 y bs time e) := by
  refine Within.comp ?_ hs h0
  clear h0 hs
  unfold State.ethSort
  dsimp only
  repeat' first
    | (with_reducible exact Within.refl _ _)
    | (with_reducible assumption)
    | (with_reducible apply State.bump_within)
    | (with_reducible apply State.draw_within)
    | (with_reducible apply State.lpmForward_within)
    | (with_reducible apply State.pktEnd_within)
    | (with_reducible apply State.ptpMessage_within)
    | (with_reducible apply State.ptpUp_within)
    | (with_reducible apply State.rawUp_within)
    | ((with_reducible show compsIn _ _ = true); rfl)
    | (with_reducible refine Within.ite (fun _ => ?_) (fun _ => ?_))
    | (with_reducible refine Within.foldl ?_ (fun _ _ _ => ?_))
    | split

theorem State.handTake_within {L : List Comp} {σ : State} (s : State) (n : Nat) (h0 : Within L σ s) (hs : compsIn [.regs, .pass, .host, .safe,
    .log, .cvn, .cvnIds, .air, .qmg, .rf, .link, .key, .vault, .mesh] L = true) : Within L σ (State.handTake s n).2 := by
  refine Within.comp ?_ hs h0
  clear h0 hs
  unfold State.handTake
  dsimp only
  repeat' first
    | (with_reducible exact Within.refl _ _)
    | (with_reducible apply State.takeChain_within)
    | ((with_reducible show compsIn _ _ = true); rfl)
    | (simp only [Within.lit]; with_reducible refine Within.upd ?_ rfl (fun k hk => ?_))
    | (cases k <;> first | (exact absurd (by decide) hk) | rfl)
    | split

theorem State.policeIngress_within {L : List Comp} {σ : State} (s : State) (i len : Nat) (c : Colour) (h0 : Within L σ s) (hs : compsIn [.shp] L =
    true) : Within L σ (State.policeIngress s i len c).2 := by
  refine Within.comp ?_ hs h0
  clear h0 hs
  unfold State.policeIngress
  repeat' first
    | (with_reducible exact Within.refl _ _)
    | (with_reducible apply State.police_within)
    | ((with_reducible show compsIn _ _ = true); rfl)
    | (with_reducible refine Within.ite2 (fun _ => ?_) (fun _ => ?_))

theorem State.policed_within {L : List Comp} {σ : State} (s : State) (i len : Nat) (x : Pkt) (go : State → Pkt → State) (h0 : Within L σ s) (hgo :
    ∀ u x0, Within L σ u → Within L σ (go u x0)) (hs : compsIn [.regs, .pass, .cvn, .qmg, .shp, .mesh] L = true) : Within L σ (State.policed s i len x
    go) := by
  unfold State.policed
  repeat' first
    | (with_reducible assumption)
    | (with_reducible apply hgo)
    | (with_reducible apply State.pktEnd_within)
    | (with_reducible apply State.policeIngress_within)
    | (exact compsIn_trans (m := [.regs, .pass, .cvn, .qmg, .shp, .mesh]) rfl hs)
    | (with_reducible refine Within.of2 ?_ (by assumption))
    | split

theorem State.ethDn_within {L : List Comp} {σ : State} (s0 : State) (ws : List Word) (bs : List Byte) (e : Nat) (h0 : Within L σ s0) (hs : compsIn
    [.regs, .free, .pass, .host, .time, .safe, .log, .ndir, .cvn, .cvnIds, .air, .qmg, .shp, .rf, .rx, .link, .key, .vault, .mesh] L =
    true) : Within L σ (State.ethDn s0 ws bs e) := by
  refine Within.comp ?_ hs h0
  clear h0 hs
  unfold State.ethDn
  dsimp only
  repeat' first
    | (with_reducible exact Within.refl _ _)
    | (with_reducible assumption)
    | (with_reducible apply State.ethSort_within)
    | (with_reducible apply State.handTake_within)
    | (with_reducible apply State.policed_within)
    | ((with_reducible show compsIn _ _ = true); rfl)
    | (intro _)

theorem State.creditBack_within {L : List Comp} {σ : State} (s : State) (p n : Nat) (h0 : Within L σ s) (hs : compsIn [.pass] L = true) : Within L σ
    (State.creditBack s p n) := by
  refine Within.comp ?_ hs h0
  clear h0 hs
  unfold State.creditBack
  repeat' first
    | (with_reducible exact Within.refl _ _)
    | (with_reducible apply State.passSend_within)
    | ((with_reducible show compsIn _ _ = true); rfl)

theorem State.hostGo_within {L : List Comp} {σ : State} (s : State) (w0 : Word) (y : Pkt) (h0 : Within L σ s) (hs : compsIn [.regs, .free, .pass,
    .host, .time, .safe, .log, .ndir, .cvn, .cvnIds, .air, .qmg, .shp, .rf, .rx, .link, .key, .vault, .mesh] L = true) : Within L σ
    (State.hostGo s w0 y) := by
  refine Within.comp ?_ hs h0
  clear h0 hs
  unfold State.hostGo
  dsimp only
  repeat' first
    | (with_reducible exact Within.refl _ _)
    | (with_reducible apply State.lpmForward_within)
    | (with_reducible apply State.newId_within)
    | (with_reducible apply State.offer_within)
    | ((with_reducible show compsIn _ _ = true); rfl)
    | (with_reducible refine Within.ite (fun _ => ?_) (fun _ => ?_))

theorem State.hostTake_within {L : List Comp} {σ : State} (s : State) (ws : List Word) (bs : List Byte) (p : Nat) (f : Fetched) (h0 : Within L σ
    s) (hs : compsIn [.regs, .free, .pass, .host, .time, .safe, .log, .ndir, .cvn, .cvnIds, .air, .qmg, .shp, .rf, .rx, .link, .key,
    .vault, .mesh] L = true) : Within L σ (State.hostTake s ws bs p f) := by
  refine Within.comp ?_ hs h0
  clear h0 hs
  unfold State.hostTake
  dsimp only
  repeat' first
    | (with_reducible exact Within.refl _ _)
    | (with_reducible assumption)
    | (with_reducible apply State.hostGo_within)
    | (with_reducible apply State.policed_within)
    | (with_reducible apply State.takeChain_within)
    | ((with_reducible show compsIn _ _ = true); rfl)
    | (intro _)

theorem State.hostDn_within {L : List Comp} {σ : State} (s : State) (ws : List Word) (bs : List Byte) (p : Nat) (h0 : Within L σ s) (hs : compsIn
    [.regs, .free, .pass, .host, .time, .safe, .log, .ndir, .cvn, .cvnIds, .air, .qmg, .shp, .rf, .rx, .link, .key, .vault, .mesh] L =
    true) : Within L σ (State.hostDn s ws bs p) := by
  refine Within.comp ?_ hs h0
  clear h0 hs
  unfold State.hostDn
  dsimp only
  repeat' first
    | (with_reducible exact Within.refl _ _)
    | (with_reducible apply State.bump_within)
    | (with_reducible apply State.creditBack_within)
    | (with_reducible apply State.hostTake_within)
    | (with_reducible apply State.txDone_within)
    | ((with_reducible show compsIn _ _ = true); rfl)
    | (with_reducible refine Within.ite (fun _ => ?_) (fun _ => ?_))

theorem State.pipeReport_within {L : List Comp} {σ : State} (s : State) (pair again left : Nat) (h0 : Within L σ s) (hs : compsIn [.regs, .pass,
    .host, .safe, .log, .cvn, .cvnIds, .air, .qmg, .rf, .link] L = true) : Within L σ (State.pipeReport s pair again left) := by
  refine Within.comp ?_ hs h0
  clear h0 hs
  unfold State.pipeReport
  repeat' first
    | (with_reducible exact Within.refl _ _)
    | (with_reducible apply State.bump_within)
    | (with_reducible apply State.evtF_within)
    | (with_reducible apply State.ledger_within)
    | ((with_reducible show compsIn _ _ = true); rfl)

theorem State.pipeFail_within {L : List Comp} {σ : State} (s : State) (pair frames : Nat) (h0 : Within L σ s) (hs : compsIn [.regs, .pass, .host,
    .safe, .log, .cvn, .cvnIds, .air, .qmg, .rf, .link] L = true) : Within L σ (State.pipeFail s pair frames) := by
  refine Within.comp ?_ hs h0
  clear h0 hs
  unfold State.pipeFail
  dsimp only
  repeat' first
    | (with_reducible exact Within.refl _ _)
    | (with_reducible apply State.pipeReport_within)
    | (with_reducible apply State.quiet_within)
    | (with_reducible apply State.setFld_within)
    | ((with_reducible show compsIn _ _ = true); rfl)
    | (with_reducible refine Within.ite (fun _ => ?_) (fun _ => ?_))

theorem State.onPipe_within {L : List Comp} {σ : State} (s : State) (port src n : Nat) (run : State → State) (h0 : Within L σ s) (hs : compsIn
    [.regs, .pass, .host, .safe, .log, .cvn, .cvnIds, .air, .qmg, .rf, .link] L = true) (hr : ∀ u, Within L σ u → Within L σ (run u)): Within L σ
    (State.onPipe s port src n run) := by
  induction n generalizing s with
  | zero =>
    unfold State.onPipe
    exact Within.ite (fun _ => h0) (fun _ => hr _ h0)
  | succ n ih =>
    unfold State.onPipe
    exact Within.ite (fun _ => h0) (fun _ => ih _ (State.pipeFail_within _ _ _ h0 (compsIn_trans (m := [.regs, .pass, .host, .safe, .log, .cvn,
        .cvnIds, .air, .qmg, .rf, .link]) rfl hs)))

theorem State.frameDn_within {L : List Comp} {σ : State} (s : State) (m : PassMsg) (faults : Nat) (h0 : Within L σ s) (hs : compsIn [.regs, .free,
    .pass, .host, .time, .safe, .log, .ndir, .cvn, .cvnIds, .air, .qmg, .shp, .rf, .rx, .link, .key, .vault, .mesh] L = true) : Within L σ
    (State.frameDn s m faults) := by
  refine Within.comp ?_ hs h0
  clear h0 hs
  unfold State.frameDn
  dsimp only
  repeat' first
    | (with_reducible exact Within.refl _ _)
    | (with_reducible assumption)
    | (with_reducible apply State.ethDn_within)
    | (with_reducible apply State.hostDn_within)
    | (with_reducible refine State.onPipe_within _ _ _ _ _ ?_ ?_ (fun _ _ => ?_))
    | ((with_reducible show compsIn _ _ = true); rfl)
    | (with_reducible refine Within.ite (fun _ => ?_) (fun _ => ?_))

theorem State.thaw_within {L : List Comp} {σ : State} (s : State) (h0 : Within L σ s) (hs : compsIn [.regs, .free, .pass, .host, .time, .safe,
    .log, .ndir, .cvn, .cvnIds, .air, .qmg, .shp, .rf, .rx, .link, .key, .vault, .mesh] L = true) : Within L σ (State.thaw s) := by
  refine Within.comp ?_ hs h0
  clear h0 hs
  unfold State.thaw
  dsimp only
  repeat' first
    | (with_reducible exact Within.refl _ _)
    | (with_reducible assumption)
    | (with_reducible apply State.frameDn_within)
    | ((with_reducible show compsIn _ _ = true); rfl)
    | (with_reducible refine Within.foldl ?_ (fun _ _ _ => ?_))
    | (simp only [Within.lit]; with_reducible refine Within.upd ?_ rfl (fun k hk => ?_))
    | (cases k <;> first | (exact absurd (by decide) hk) | rfl)

theorem State.hFree_within {L : List Comp} {σ : State} (s : State) (h0 : Within L σ s) (hs : compsIn [.regs, .pass] L = true) : Within L σ
    (State.hFree s) := by
  refine Within.comp ?_ hs h0
  clear h0 hs
  unfold State.hFree
  dsimp only
  repeat' first
    | (with_reducible exact Within.refl _ _)
    | (with_reducible apply State.setFld_within)
    | ((with_reducible show compsIn _ _ = true); rfl)
    | (simp only [Within.lit]; with_reducible refine Within.upd ?_ rfl (fun k hk => ?_))
    | (cases k <;> first | (exact absurd (by decide) hk) | rfl)

theorem State.passLocal_within {L : List Comp} {σ : State} (s : State) (h0 : Within L σ s) (hs : compsIn [.regs, .pass] L = true) : Within L σ
    (State.passLocal s) := by
  refine Within.comp ?_ hs h0
  clear h0 hs
  unfold State.passLocal
  repeat' first
    | (with_reducible exact Within.refl _ _)
    | (with_reducible apply State.hFree_within)
    | (with_reducible apply State.setFld_within)
    | ((with_reducible show compsIn _ _ = true); rfl)
    | (with_reducible refine Within.ite (fun _ => ?_) (fun _ => ?_))

theorem State.passRetrain_within {L : List Comp} {σ : State} (s : State) (n : Nat) (h0 : Within L σ s) (hs : compsIn [.regs, .pass, .host] L =
    true) : Within L σ (State.passRetrain s n) := by
  refine Within.comp ?_ hs h0
  clear h0 hs
  unfold State.passRetrain
  dsimp only
  repeat' first
    | (with_reducible exact Within.refl _ _)
    | (with_reducible apply State.armLocks_within)
    | (with_reducible apply State.bump_within)
    | (with_reducible apply State.setFld_within)
    | ((with_reducible show compsIn _ _ = true); rfl)
    | (simp only [Within.lit]; with_reducible refine Within.upd ?_ rfl (fun k hk => ?_))
    | (cases k <;> first | (exact absurd (by decide) hk) | rfl)

theorem State.fSupplyFault_within {L : List Comp} {σ : State} (s : State) (h0 : Within L σ s) (hs : compsIn [.regs, .now, .free, .pass, .host,
    .eth, .time, .safe, .log, .save, .pwr, .boot, .bist, .cmds, .ends, .ndir, .cvn, .cvnIds, .air, .qmg, .shp, .rf, .rx, .link, .slot,
    .key, .vault, .dir, .lpm, .mesh] L = true) : Within L σ (State.fSupplyFault s) := by
  refine Within.comp ?_ hs h0
  clear h0 hs
  unfold State.fSupplyFault
  dsimp only
  repeat' first
    | (with_reducible exact Within.refl _ _)
    | (with_reducible apply State.fDieReset_within)
    | (with_reducible apply State.passLocal_within)
    | (with_reducible apply State.passRetrain_within)
    | (with_reducible apply State.quiet_within)
    | (with_reducible apply State.supplies_within)
    | ((with_reducible show compsIn _ _ = true); rfl)
    | (with_reducible refine Within.ite (fun _ => ?_) (fun _ => ?_))
    | (simp only [Within.lit]; with_reducible refine Within.upd ?_ rfl (fun k hk => ?_))
    | (cases k <;> first | (exact absurd (by decide) hk) | rfl)

theorem State.ringNext_within {L : List Comp} {σ : State} (s : State) (p r : Nat) (h0 : Within L σ s) (hs : compsIn [.regs] L = true) : Within L σ
    (State.ringNext s p r) := by
  refine Within.comp ?_ hs h0
  clear h0 hs
  unfold State.ringNext
  repeat' first
    | (with_reducible exact Within.refl _ _)
    | (with_reducible apply State.setFld_within)
    | ((with_reducible show compsIn _ _ = true); rfl)

theorem State.rxBack_within {L : List Comp} {σ : State} (s : State) (p r : Nat) (meta_ : List Word) (part_ : List Byte) (i : Nat) (skip more :
    Bool) (h0 : Within L σ s) (hs : compsIn [.regs, .host] L = true) : Within L σ (State.rxBack s p r meta_ part_ i skip more) := by
  refine Within.comp ?_ hs h0
  clear h0 hs
  unfold State.rxBack
  dsimp only
  repeat' first
    | (with_reducible exact Within.refl _ _)
    | (with_reducible apply State.memWrite_within)
    | (with_reducible apply State.ringNext_within)
    | (with_reducible apply State.ringSignal_within)
    | ((with_reducible show compsIn _ _ = true); rfl)
    | (with_reducible refine Within.ite (fun _ => ?_) (fun _ => ?_))

theorem State.backFlush_within {L : List Comp} {σ : State} (s : State) (p r : Nat) (h0 : Within L σ s) (hs : compsIn [.regs, .host] L = true) : Within
    L σ (State.backFlush s p r) := by
  refine Within.comp ?_ hs h0
  clear h0 hs
  unfold State.backFlush
  dsimp only
  repeat' first
    | (with_reducible exact Within.refl _ _)
    | (with_reducible assumption)
    | (with_reducible apply State.rxBack_within)
    | ((with_reducible show compsIn _ _ = true); rfl)
    | (with_reducible refine Within.foldl ?_ (fun _ _ _ => ?_))
    | split

theorem State.heldFlush_within {L : List Comp} {σ : State} (s0 : State) (p r : Nat) (h0 : Within L σ s0) (hs : compsIn [.regs, .host, .air, .qmg,
    .link] L = true) : Within L σ (State.heldFlush s0 p r) := by
  refine Within.comp ?_ hs h0
  clear h0 hs
  unfold State.heldFlush
  dsimp only
  repeat' first
    | (with_reducible exact Within.refl _ _)
    | (with_reducible assumption)
    | (with_reducible apply State.backFlush_within)
    | (with_reducible apply State.txDoneH_within)
    | ((with_reducible show compsIn _ _ = true); rfl)
    | (with_reducible refine Within.foldl ?_ (fun _ _ _ => ?_))
    | (simp only [Within.lit]; with_reducible refine Within.upd ?_ rfl (fun k hk => ?_))
    | (cases k <;> first | (exact absurd (by decide) hk) | rfl)
    | split

theorem State.sendRingFlush_within {L : List Comp} {σ : State} (s : State) (p r : Nat) (h0 : Within L σ s) (hs : compsIn [.pass] L = true) : Within L
    σ (State.sendRingFlush s p r) := by
  refine Within.comp ?_ hs h0
  clear h0 hs
  unfold State.sendRingFlush
  repeat' first
    | (with_reducible exact Within.refl _ _)
    | (with_reducible apply State.passSend_within)
    | ((with_reducible show compsIn _ _ = true); rfl)

theorem State.flushFrame_within {L : List Comp} {σ : State} (s : State) (q : Nat) (f : Frame) (h0 : Within L σ s) (hs : compsIn [.regs, .pass,
    .host, .safe, .log, .cvn, .cvnIds, .air, .qmg, .rf, .link, .key, .vault, .mesh] L = true) : Within L σ (State.flushFrame s q f) := by
  refine Within.comp ?_ hs h0
  clear h0 hs
  unfold State.flushFrame
  repeat' first
    | (with_reducible exact Within.refl _ _)
    | (with_reducible apply State.finish_within)
    | ((with_reducible show compsIn _ _ = true); rfl)
    | (with_reducible refine Within.ite (fun _ => ?_) (fun _ => ?_))

theorem State.flushQueue_within {L : List Comp} {σ : State} (s0 : State) (q : Nat) (h0 : Within L σ s0) (hs : compsIn [.regs, .pass, .host, .safe,
    .log, .cvn, .cvnIds, .air, .qmg, .rf, .link, .key, .vault, .mesh] L = true) : Within L σ (State.flushQueue s0 q) := by
  refine Within.comp ?_ hs h0
  clear h0 hs
  unfold State.flushQueue
  dsimp only
  repeat' first
    | (with_reducible exact Within.refl _ _)
    | (with_reducible assumption)
    | (with_reducible apply State.flushFrame_within)
    | (with_reducible apply State.queueCheck_within)
    | ((with_reducible show compsIn _ _ = true); rfl)
    | (with_reducible refine Within.foldl ?_ (fun _ _ _ => ?_))

theorem State.flushWrite_within {L : List Comp} {σ : State} (s : State) (p : Nat) (data : Word) (h0 : Within L σ s) (hs : compsIn [.regs, .pass,
    .host, .safe, .log, .cvn, .cvnIds, .air, .qmg, .rf, .link, .key, .vault, .mesh] L = true) : Within L σ (State.flushWrite s p data) := by
  refine Within.comp ?_ hs h0
  clear h0 hs
  unfold State.flushWrite
  dsimp only
  repeat' first
    | (with_reducible exact Within.refl _ _)
    | (with_reducible apply State.err_within)
    | (with_reducible apply State.flushQueue_within)
    | (with_reducible apply State.sendRingFlush_within)
    | (with_reducible apply State.setFld_within)
    | ((with_reducible show compsIn _ _ = true); rfl)
    | (with_reducible refine Within.ite (fun _ => ?_) (fun _ => ?_))

theorem State.partHost_within {L : List Comp} {σ : State} (s : State) (p : Nat) (h0 : Within L σ s) (hs : compsIn [.regs, .host, .eth] L = true) :
    Within L σ (State.partHost s p) := by
  refine Within.comp ?_ hs h0
  clear h0 hs
  unfold State.partHost
  dsimp only
  repeat' first
    | (with_reducible exact Within.refl _ _)
    | (with_reducible assumption)
    | (with_reducible apply State.wr_within)
    | ((with_reducible show compsIn _ _ = true); rfl)
    | (with_reducible refine Within.foldl ?_ (fun _ _ _ => ?_))
    | (simp only [Within.lit]; with_reducible refine Within.upd ?_ rfl (fun k hk => ?_))
    | (cases k <;> first | (exact absurd (by decide) hk) | rfl)

theorem State.partFrames_within {L : List Comp} {σ : State} (s : State) (p : Nat) (h0 : Within L σ s) (hs : compsIn [.regs, .pass, .host, .safe,
    .log, .cvn, .cvnIds, .air, .qmg, .rf, .link, .key, .vault, .mesh] L = true) : Within L σ (State.partFrames s p) := by
  refine Within.comp ?_ hs h0
  clear h0 hs
  unfold State.partFrames
  dsimp only
  repeat' first
    | (with_reducible exact Within.refl _ _)
    | (with_reducible assumption)
    | (with_reducible apply State.flushQueue_within)
    | (with_reducible apply State.heldFlush_within)
    | (with_reducible apply State.sendRingFlush_within)
    | ((with_reducible show compsIn _ _ = true); rfl)
    | (with_reducible refine Within.ite (fun _ => ?_) (fun _ => ?_))
    | (with_reducible refine Within.foldl ?_ (fun _ _ _ => ?_))

theorem State.engineStop_within {L : List Comp} {σ : State} (s : State) (mine : Origin → Bool) (h0 : Within L σ s) (hs : compsIn [.regs, .pass,
    .host, .safe, .log, .cvn, .cvnIds, .air, .qmg, .rf, .link, .key, .vault, .mesh] L = true) : Within L σ (State.engineStop s mine) := by
  refine Within.comp ?_ hs h0
  clear h0 hs
  unfold State.engineStop
  dsimp only
  repeat' first
    | (with_reducible exact Within.refl _ _)
    | (with_reducible assumption)
    | (with_reducible apply State.flushFrame_within)
    | (with_reducible apply State.freeChain_within)
    | ((with_reducible show compsIn _ _ = true); rfl)
    | (with_reducible refine Within.foldl ?_ (fun _ _ _ => ?_))
    | (simp only [Within.lit]; with_reducible refine Within.upd ?_ rfl (fun k hk => ?_))
    | (cases k <;> first | (exact absurd (by decide) hk) | rfl)

theorem State.cvnStop_within {L : List Comp} {σ : State} (s : State) (cid : Nat) (h0 : Within L σ s) (hs : compsIn [.regs, .pass, .host, .safe,
    .log, .cvn, .cvnIds, .air, .qmg, .rf, .link, .key, .vault, .mesh] L = true) : Within L σ (State.cvnStop s cid) := by
  refine Within.comp ?_ hs h0
  clear h0 hs
  unfold State.cvnStop
  repeat' first
    | (with_reducible exact Within.refl _ _)
    | (with_reducible apply State.engineStop_within)
    | ((with_reducible show compsIn _ _ = true); rfl)

theorem State.cvnAbort_within {L : List Comp} {σ : State} (s : State) (cid status : Nat) (expired : Bool) (h0 : Within L σ s) (hs : compsIn
    [.regs, .pass, .host, .safe, .log, .cvn, .cvnIds, .air, .qmg, .rf, .link, .key, .vault, .mesh] L = true) : Within L σ (State.cvnAbort s
    cid status expired) := by
  refine Within.comp ?_ hs h0
  clear h0 hs
  unfold State.cvnAbort
  dsimp only
  repeat' first
    | (with_reducible exact Within.refl _ _)
    | (with_reducible apply State.cvnEnd_within)
    | (with_reducible apply State.cvnStop_within)
    | ((with_reducible show compsIn _ _ = true); rfl)
    | split

theorem State.partCvn_within {L : List Comp} {σ : State} (s : State) (p : Nat) (h0 : Within L σ s) (hs : compsIn [.regs, .pass, .host, .safe,
    .log, .cvn, .cvnIds, .air, .qmg, .rf, .link, .key, .vault, .mesh] L = true) : Within L σ (State.partCvn s p) := by
  refine Within.comp ?_ hs h0
  clear h0 hs
  unfold State.partCvn
  dsimp only
  repeat' first
    | (with_reducible exact Within.refl _ _)
    | (with_reducible assumption)
    | (with_reducible apply State.cvnAbort_within)
    | (with_reducible apply State.cvnSync_within)
    | (with_reducible apply State.flushFrame_within)
    | (with_reducible apply State.wr_within)
    | ((with_reducible show compsIn _ _ = true); rfl)
    | (with_reducible refine Within.foldl ?_ (fun _ _ _ => ?_))
    | (simp only [Within.lit]; with_reducible refine Within.upd ?_ rfl (fun k hk => ?_))
    | (cases k <;> first | (exact absurd (by decide) hk) | rfl)

theorem State.partForget_within {L : List Comp} {σ : State} (s : State) (p : Nat) (h0 : Within L σ s) (hs : compsIn [.host, .cmds, .ends, .qmg] L
    = true) : Within L σ (State.partForget s p) := by
  refine Within.comp ?_ hs h0
  clear h0 hs
  unfold State.partForget
  dsimp only
  repeat' first
    | (with_reducible exact Within.refl _ _)
    | (simp only [Within.lit]; with_reducible refine Within.upd ?_ rfl (fun k hk => ?_))
    | (cases k <;> first | (exact absurd (by decide) hk) | rfl)

theorem State.partResetF_within {L : List Comp} {σ : State} (s : State) (p : Nat) (h0 : Within L σ s) (hs : compsIn [.regs, .pass, .host, .safe,
    .log, .pwr, .cmds, .ends, .cvn, .cvnIds, .air, .qmg, .rf, .rx, .link, .key, .vault, .mesh] L = true) : Within L σ (State.partResetF s p)
    := by
  refine Within.comp ?_ hs h0
  clear h0 hs
  unfold State.partResetF
  dsimp only
  repeat' first
    | (with_reducible exact Within.refl _ _)
    | (with_reducible apply State.partCvn_within)
    | (with_reducible apply State.partForget_within)
    | (with_reducible apply State.partFrames_within)
    | (with_reducible apply State.pwrInput_within)
    | (with_reducible apply State.wr_within)
    | ((with_reducible show compsIn _ _ = true); rfl)

theorem State.partReset_within {L : List Comp} {σ : State} (s : State) (p : Nat) (flr : Bool) (h0 : Within L σ s) (hs : compsIn [.regs, .pass,
    .host, .eth, .safe, .log, .pwr, .cmds, .ends, .cvn, .cvnIds, .air, .qmg, .rf, .rx, .link, .key, .vault, .mesh] L = true) : Within L σ
    (State.partReset s p flr) := by
  refine Within.comp ?_ hs h0
  clear h0 hs
  unfold State.partReset
  dsimp only
  repeat' first
    | (with_reducible exact Within.refl _ _)
    | (with_reducible apply State.armLock_within)
    | (with_reducible apply State.evtH_within)
    | (with_reducible apply State.partHost_within)
    | (with_reducible apply State.partResetF_within)
    | (with_reducible apply State.passCross_within)
    | (with_reducible apply State.passSend_within)
    | ((with_reducible show compsIn _ _ = true); rfl)
    | (with_reducible refine Within.ite (fun _ => ?_) (fun _ => ?_))

theorem State.sendRegWr_within {L : List Comp} {σ : State} (s : State) (p a : Nat) (guard : Bool) (data : Word) (h0 : Within L σ s) (hs : compsIn
    [.pass] L = true) : Within L σ (State.sendRegWr s p a guard data) := by
  refine Within.comp ?_ hs h0
  clear h0 hs
  unfold State.sendRegWr
  repeat' first
    | (with_reducible exact Within.refl _ _)
    | (with_reducible apply State.passSend_within)
    | ((with_reducible show compsIn _ _ = true); rfl)

theorem State.guardViolationH_within {L : List Comp} {σ : State} (s : State) (p : Nat) (addr data : Word) (h0 : Within L σ s) (hs : compsIn
    [.regs, .pass, .host, .safe, .log, .cvn, .cvnIds, .air, .qmg, .rf, .link] L = true) : Within L σ (State.guardViolationH s p addr data) :=
    by
  refine Within.comp ?_ hs h0
  clear h0 hs
  unfold State.guardViolationH
  dsimp only
  repeat' first
    | (with_reducible exact Within.refl _ _)
    | (with_reducible apply State.bump_within)
    | (with_reducible apply State.guardRaise_within)
    | (with_reducible apply State.sendRegWr_within)
    | ((with_reducible show compsIn _ _ = true); rfl)
    | split

theorem State.partResetWrite_within {L : List Comp} {σ : State} (s : State) (p : Nat) (data : Word) (h0 : Within L σ s) (hs : compsIn [.regs,
    .pass, .host, .eth, .safe, .log, .pwr, .cmds, .ends, .cvn, .cvnIds, .air, .qmg, .rf, .rx, .link, .key, .vault, .mesh] L = true) : Within L
    σ (State.partResetWrite s p data) := by
  refine Within.comp ?_ hs h0
  clear h0 hs
  unfold State.partResetWrite
  dsimp only
  repeat' first
    | (with_reducible exact Within.refl _ _)
    | (with_reducible assumption)
    | (with_reducible apply State.err_within)
    | (with_reducible apply State.guardTake_within)
    | (with_reducible apply State.guardViolationH_within)
    | (with_reducible apply State.partReset_within)
    | ((with_reducible show compsIn _ _ = true); rfl)
    | (with_reducible refine Within.ite (fun _ => ?_) (fun _ => ?_))
    | (with_reducible refine Within.foldl ?_ (fun _ _ _ => ?_))

theorem State.cfgReset_within {L : List Comp} {σ : State} (s : State) (p : Nat) (h0 : Within L σ s) (hs : compsIn [.host] L = true) : Within L σ
    (State.cfgReset s p) := by
  refine Within.comp ?_ hs h0
  clear h0 hs
  unfold State.cfgReset
  dsimp only
  repeat' first
    | (with_reducible exact Within.refl _ _)
    | (simp only [Within.lit]; with_reducible refine Within.upd ?_ rfl (fun k hk => ?_))
    | (cases k <;> first | (exact absurd (by decide) hk) | rfl)

theorem State.capSync_within {L : List Comp} {σ : State} (s : State) (h0 : Within L σ s) (hs : compsIn [.regs] L = true) : Within L σ (State.capSync
    s) := by
  refine Within.comp ?_ hs h0
  clear h0 hs
  unfold State.capSync
  repeat' first
    | (with_reducible exact Within.refl _ _)
    | (with_reducible apply State.setFld_within)
    | ((with_reducible show compsIn _ _ = true); rfl)

theorem State.clusterFail_within {L : List Comp} {σ : State} (s : State) (c lost how : Nat) (h0 : Within L σ s) (hs : compsIn [.regs, .pass,
    .host, .safe, .log, .cvn, .cvnIds, .air, .qmg, .rf, .link] L = true) : Within L σ (State.clusterFail s c lost how) := by
  refine Within.comp ?_ hs h0
  clear h0 hs
  unfold State.clusterFail
  dsimp only
  repeat' first
    | (with_reducible exact Within.refl _ _)
    | (with_reducible apply State.bump_within)
    | (with_reducible apply State.capSync_within)
    | (with_reducible apply State.evtF_within)
    | (with_reducible apply State.ledger_within)
    | (with_reducible apply State.setFld_within)
    | ((with_reducible show compsIn _ _ = true); rfl)
    | (with_reducible refine Within.ite (fun _ => ?_) (fun _ => ?_))

theorem State.bootReports_within {L : List Comp} {σ : State} (s : State) (h0 : Within L σ s) (hs : compsIn [.regs, .pass, .host, .safe, .log,
    .boot, .cvn, .cvnIds, .air, .qmg, .rf, .link] L = true) : Within L σ (State.bootReports s) := by
  refine Within.comp ?_ hs h0
  clear h0 hs
  unfold State.bootReports
  dsimp only
  repeat' first
    | (with_reducible exact Within.refl _ _)
    | (with_reducible assumption)
    | (with_reducible apply State.clusterFail_within)
    | (with_reducible apply State.evtF_within)
    | (with_reducible apply State.pipeReport_within)
    | ((with_reducible show compsIn _ _ = true); rfl)
    | (with_reducible refine Within.foldl ?_ (fun _ _ _ => ?_))
    | (simp only [Within.lit]; with_reducible refine Within.upd ?_ rfl (fun k hk => ?_))
    | (cases k <;> first | (exact absurd (by decide) hk) | rfl)

theorem State.reasmSync_within {L : List Comp} {σ : State} (s : State) (h0 : Within L σ s) (hs : compsIn [.regs] L = true) : Within L σ
    (State.reasmSync s) := by
  refine Within.comp ?_ hs h0
  clear h0 hs
  unfold State.reasmSync
  repeat' first
    | (with_reducible exact Within.refl _ _)
    | (with_reducible apply State.setFld_within)
    | ((with_reducible show compsIn _ _ = true); rfl)

theorem State.reasmForget_within {L : List Comp} {σ : State} (s : State) (x : Reasm) (h0 : Within L σ s) (hs : compsIn [.regs, .mesh] L = true) :
    Within L σ (State.reasmForget s x) := by
  refine Within.comp ?_ hs h0
  clear h0 hs
  unfold State.reasmForget
  dsimp only
  repeat' first
    | (with_reducible exact Within.refl _ _)
    | (with_reducible apply State.reasmSync_within)
    | ((with_reducible show compsIn _ _ = true); rfl)
    | (simp only [Within.lit]; with_reducible refine Within.upd ?_ rfl (fun k hk => ?_))
    | (cases k <;> first | (exact absurd (by decide) hk) | rfl)

theorem State.reasmDrop_within {L : List Comp} {σ : State} (s : State) (x : Reasm) (h0 : Within L σ s) (hs : compsIn [.regs, .qmg, .mesh] L =
    true) : Within L σ (State.reasmDrop s x) := by
  refine Within.comp ?_ hs h0
  clear h0 hs
  unfold State.reasmDrop
  repeat' first
    | (with_reducible exact Within.refl _ _)
    | (with_reducible apply State.freeChain_within)
    | (with_reducible apply State.reasmForget_within)
    | ((with_reducible show compsIn _ _ = true); rfl)

theorem State.reasmPut_within {L : List Comp} {σ : State} (s : State) (x : Pkt) (p src size tag off : Nat) (bs : List Byte) (h0 : Within L σ s)
    (hs : compsIn [.regs, .pass, .cvn, .qmg, .mesh] L = true) : Within L σ (State.reasmPut s x p src size tag off bs).1 := by
  refine Within.comp ?_ hs h0
  clear h0 hs
  unfold State.reasmPut
  dsimp only
  repeat' first
    | (with_reducible exact Within.refl _ _)
    | (with_reducible apply State.bump_within)
    | (with_reducible apply State.pktEnd_within)
    | (with_reducible apply State.reasmDrop_within)
    | (with_reducible apply State.reasmForget_within)
    | (with_reducible apply State.reasmSync_within)
    | ((with_reducible show compsIn _ _ = true); rfl)
    | (with_reducible refine Within.ite1 (fun _ => ?_) (fun _ => ?_))
    | (simp only [Within.lit]; with_reducible refine Within.upd ?_ rfl (fun k hk => ?_))
    | (cases k <;> first | (exact absurd (by decide) hk) | rfl)
    | split

theorem State.twinSeen_within {L : List Comp} {σ : State} (s : State) (k : Nat) (h0 : Within L σ s) (hs : compsIn [.regs, .mesh] L = true) : Within L
    σ (State.twinSeen s k).1 := by
  refine Within.comp ?_ hs h0
  clear h0 hs
  unfold State.twinSeen
  dsimp only
  repeat' first
    | (with_reducible exact Within.refl _ _)
    | (with_reducible apply State.bump_within)
    | (with_reducible apply State.cacheSync_within)
    | ((with_reducible show compsIn _ _ = true); rfl)
    | (with_reducible refine Within.ite (fun _ => ?_) (fun _ => ?_))
    | (with_reducible refine Within.ite1 (fun _ => ?_) (fun _ => ?_))
    | (simp only [Within.lit]; with_reducible refine Within.upd ?_ rfl (fun k hk => ?_))
    | (cases k <;> first | (exact absurd (by decide) hk) | rfl)

theorem State.daoTarget_within {L : List Comp} {σ : State} (s : State) (p : Nat) (ts : List Transit) (o : Nat) (h0 : Within L σ s) (hs : compsIn
    [.regs, .ndir] L = true) : Within L σ (State.daoTarget s p ts o) := by
  refine Within.comp ?_ hs h0
  clear h0 hs
  unfold State.daoTarget
  dsimp only
  repeat' first
    | (with_reducible exact Within.refl _ _)
    | (with_reducible apply State.bump_within)
    | (with_reducible apply State.bumpBy_within)
    | (with_reducible apply State.setNode_within)
    | ((with_reducible show compsIn _ _ = true); rfl)
    | (with_reducible refine Within.ite (fun _ => ?_) (fun _ => ?_))
    | split

theorem State.dao_within {L : List Comp} {σ : State} (s : State) (p : Nat) (dg : List Byte) (h0 : Within L σ s) (hs : compsIn [.regs, .ndir, .air,
    .qmg, .link] L = true) : Within L σ (State.dao s p dg) := by
  refine Within.comp ?_ hs h0
  clear h0 hs
  unfold State.dao
  dsimp only
  repeat' first
    | (with_reducible exact Within.refl _ _)
    | (with_reducible assumption)
    | (with_reducible apply State.daoTarget_within)
    | ((with_reducible show compsIn _ _ = true); rfl)
    | (with_reducible refine Within.foldl ?_ (fun _ _ _ => ?_))

theorem State.daoCopy_within {L : List Comp} {σ : State} (s : State) (x : Pkt) (p : Nat) (h0 : Within L σ s) (hs : compsIn [.regs, .pass, .host,
    .time, .safe, .log, .cvn, .cvnIds, .air, .qmg, .shp, .rf, .rx, .link, .key, .vault, .mesh] L = true) : Within L σ (State.daoCopy s x p) :=
    by
  refine Within.comp ?_ hs h0
  clear h0 hs
  unfold State.daoCopy
  dsimp only
  repeat' first
    | (with_reducible exact Within.refl _ _)
    | (with_reducible apply State.pktQueue_within)
    | (with_reducible apply State.takeChain_within)
    | ((with_reducible show compsIn _ _ = true); rfl)
    | (with_reducible refine Within.ite (fun _ => ?_) (fun _ => ?_))

theorem State.cvnDeliver_within {L : List Comp} {σ : State} (s : State) (x : Pkt) (cid mask : Nat) (late : Bool) (h0 : Within L σ s) (hs : compsIn
    [.regs, .pass, .host, .time, .safe, .log, .cvn, .cvnIds, .air, .qmg, .shp, .rf, .rx, .link, .key, .vault, .mesh] L = true) : Within L σ
    (State.cvnDeliver s x cid mask late) := by
  refine Within.comp ?_ hs h0
  clear h0 hs
  unfold State.cvnDeliver
  dsimp only
  repeat' first
    | (with_reducible exact Within.refl _ _)
    | (with_reducible assumption)
    | (with_reducible apply State.pktEnd_within)
    | (with_reducible apply State.pktQueue_within)
    | (with_reducible apply State.takeChain_within)
    | ((with_reducible show compsIn _ _ = true); rfl)
    | (with_reducible refine Within.ite (fun _ => ?_) (fun _ => ?_))
    | (with_reducible refine Within.foldl ?_ (fun _ _ _ => ?_))
    | split

theorem State.setCvn_within {L : List Comp} {σ : State} (s : State) (c : Caravan) (h0 : Within L σ s) (hs : compsIn [.cvn] L = true) : Within L σ
    (State.setCvn s c) := by
  refine Within.comp ?_ hs h0
  clear h0 hs
  unfold State.setCvn
  dsimp only
  repeat' first
    | (with_reducible exact Within.refl _ _)
    | (simp only [Within.lit]; with_reducible refine Within.upd ?_ rfl (fun k hk => ?_))
    | (cases k <;> first | (exact absurd (by decide) hk) | rfl)

theorem State.cvnRx_within {L : List Comp} {σ : State} (s : State) (x : Pkt) (ord : Option Nat) (b : List Byte) (h0 : Within L σ s) (hs : compsIn
    [.regs, .pass, .host, .time, .safe, .log, .cvn, .cvnIds, .air, .qmg, .shp, .rf, .rx, .link, .key, .vault, .mesh] L = true) : Within L σ
    (State.cvnRx s x ord b) := by
  refine Within.comp ?_ hs h0
  clear h0 hs
  unfold State.cvnRx
  dsimp only
  repeat' first
    | (with_reducible exact Within.refl _ _)
    | (with_reducible apply State.bump_within)
    | (with_reducible apply State.cvnDeliver_within)
    | (with_reducible apply State.cvnEnd_within)
    | (with_reducible apply State.pktEnd_within)
    | (with_reducible apply State.setCvn_within)
    | ((with_reducible show compsIn _ _ = true); rfl)
    | (with_reducible refine Within.ite (fun _ => ?_) (fun _ => ?_))
    | split

theorem State.setSess_within {L : List Comp} {σ : State} (s : State) (i : Nat) (x : ImgSess) (h0 : Within L σ s) (hs : compsIn [.regs, .cvn] L =
    true) : Within L σ (State.setSess s i x) := by
  refine Within.comp ?_ hs h0
  clear h0 hs
  unfold State.setSess
  dsimp only
  repeat' first
    | (with_reducible exact Within.refl _ _)
    | (with_reducible apply State.wr_within)
    | ((with_reducible show compsIn _ _ = true); rfl)
    | (simp only [Within.lit]; with_reducible refine Within.upd ?_ rfl (fun k hk => ?_))
    | (cases k <;> first | (exact absurd (by decide) hk) | rfl)

theorem State.imgRx_within {L : List Comp} {σ : State} (s : State) (x : Pkt) (ord : Option Nat) (b : List Byte) (h0 : Within L σ s) (hs : compsIn
    [.regs, .pass, .host, .safe, .log, .cvn, .cvnIds, .air, .qmg, .rf, .link, .key, .vault, .mesh] L = true) : Within L σ (State.imgRx s x ord
    b) := by
  refine Within.comp ?_ hs h0
  clear h0 hs
  unfold State.imgRx
  dsimp only
  repeat' first
    | (with_reducible exact Within.refl _ _)
    | (with_reducible apply State.bump_within)
    | (with_reducible apply State.imgEnd_within)
    | (with_reducible apply State.pktEnd_within)
    | (with_reducible apply State.setSess_within)
    | ((with_reducible show compsIn _ _ = true); rfl)
    | (with_reducible refine Within.ite (fun _ => ?_) (fun _ => ?_))
    | split

theorem State.localOrForward_within {L : List Comp} {σ : State} (s : State) (x : Pkt) (p : Nat) (own : Bool) (h0 : Within L σ s) (hs : compsIn
    [.regs, .free, .pass, .host, .time, .safe, .log, .ndir, .cvn, .cvnIds, .air, .qmg, .shp, .rf, .rx, .link, .key, .vault, .mesh] L =
    true) : Within L σ (State.localOrForward s x p own) := by
  refine Within.comp ?_ hs h0
  clear h0 hs
  unfold State.localOrForward
  dsimp only
  repeat' first
    | (with_reducible exact Within.refl _ _)
    | (with_reducible apply State.cvnRx_within)
    | (with_reducible apply State.imgRx_within)
    | (with_reducible apply State.lpmForward_within)
    | ((with_reducible show compsIn _ _ = true); rfl)
    | (with_reducible refine Within.ite (fun _ => ?_) (fun _ => ?_))

theorem State.mplRx_within {L : List Comp} {σ : State} (s : State) (x : Pkt) (p seed seq : Nat) (h0 : Within L σ s) (hs : compsIn [.regs, .free,
    .pass, .host, .time, .safe, .log, .ndir, .cvn, .cvnIds, .air, .qmg, .shp, .rf, .rx, .link, .key, .vault, .mesh] L = true) : Within L σ
    (State.mplRx s x p seed seq) := by
  refine Within.comp ?_ hs h0
  clear h0 hs
  unfold State.mplRx
  dsimp only
  repeat' first
    | (with_reducible exact Within.refl _ _)
    | (with_reducible apply State.bump_within)
    | (with_reducible apply State.floodStart_within)
    | (with_reducible apply State.lpmForward_within)
    | (with_reducible apply State.pktEnd_within)
    | (with_reducible apply State.seenPut_within)
    | (with_reducible apply State.takeChain_within)
    | ((with_reducible show compsIn _ _ = true); rfl)
    | (with_reducible refine Within.ite (fun _ => ?_) (fun _ => ?_))
    | (with_reducible refine Within.ite2 (fun _ => ?_) (fun _ => ?_))
    | (simp only [Within.lit]; with_reducible refine Within.upd ?_ rfl (fun k hk => ?_))
    | (cases k <;> first | (exact absurd (by decide) hk) | rfl)

theorem State.uplinkOne_within {L : List Comp} {σ : State} (s : State) (x : Pkt) (p : Nat) (tunnelled : Bool) (h0 : Within L σ s) (hs : compsIn
    [.regs, .free, .pass, .host, .time, .safe, .log, .ndir, .cvn, .cvnIds, .air, .qmg, .shp, .rf, .rx, .link, .key, .vault, .mesh] L =
    true) : Within L σ (State.uplinkOne s x p tunnelled) := by
  refine Within.comp ?_ hs h0
  clear h0 hs
  unfold State.uplinkOne
  dsimp only
  repeat' first
    | (with_reducible exact Within.refl _ _)
    | (with_reducible apply State.dao_within)
    | (with_reducible apply State.daoCopy_within)
    | (with_reducible apply State.localOrForward_within)
    | ((with_reducible show compsIn _ _ = true); rfl)
    | (with_reducible refine Within.ite (fun _ => ?_) (fun _ => ?_))

theorem State.uplinkDg_within {L : List Comp} {σ : State} (s : State) (x : Pkt) (p : Nat) (tunnelled : Bool) (h0 : Within L σ s) (hs : compsIn
    [.regs, .free, .pass, .host, .time, .safe, .log, .ndir, .cvn, .cvnIds, .air, .qmg, .shp, .rf, .rx, .link, .key, .vault, .mesh] L =
    true) : Within L σ (State.uplinkDg s x p tunnelled) := by
  refine Within.comp ?_ hs h0
  clear h0 hs
  unfold State.uplinkDg
  repeat' first
    | (with_reducible exact Within.refl _ _)
    | (with_reducible apply State.mplRx_within)
    | (with_reducible apply State.uplinkOne_within)
    | ((with_reducible show compsIn _ _ = true); rfl)
    | (with_reducible refine Within.ite (fun _ => ?_) (fun _ => ?_))
    | split

theorem State.uplinkWhole_within {L : List Comp} {σ : State} (s : State) (x : Pkt) (p : Nat) (dg : List Byte) (twin : Option Nat) (h0 : Within L σ
    s) (hs : compsIn [.regs, .free, .pass, .host, .time, .safe, .log, .ndir, .cvn, .cvnIds, .air, .qmg, .shp, .rf, .rx, .link, .key,
    .vault, .mesh] L = true) : Within L σ (State.uplinkWhole s x p dg twin) := by
  refine Within.comp ?_ hs h0
  clear h0 hs
  unfold State.uplinkWhole
  dsimp only
  repeat' first
    | (with_reducible exact Within.refl _ _)
    | (with_reducible apply State.bump_within)
    | (with_reducible apply State.pktEnd_within)
    | (with_reducible apply State.twinSeen_within)
    | (with_reducible apply State.uplinkDg_within)
    | ((with_reducible show compsIn _ _ = true); rfl)
    | (with_reducible refine Within.ite (fun _ => ?_) (fun _ => ?_))
    | split

theorem State.uplink_within {L : List Comp} {σ : State} (s0 : State) (x0 : Pkt) (p src dst : Nat) (h0 : Within L σ s0) (hs : compsIn [.regs,
    .free, .pass, .host, .time, .safe, .log, .ndir, .cvn, .cvnIds, .air, .qmg, .shp, .rf, .rx, .link, .key, .vault, .mesh] L = true) : Within
    L σ (State.uplink s0 x0 p src dst) := by
  refine Within.comp ?_ hs h0
  clear h0 hs
  unfold State.uplink
  dsimp only
  repeat' first
    | (with_reducible exact Within.refl _ _)
    | (with_reducible apply State.bump_within)
    | (with_reducible apply State.draw_within)
    | (with_reducible apply State.pktEnd_within)
    | (with_reducible apply State.reasmPut_within)
    | (with_reducible apply State.uplinkWhole_within)
    | ((with_reducible show compsIn _ _ = true); rfl)
    | (with_reducible refine Within.ite (fun _ => ?_) (fun _ => ?_))
    | (with_reducible refine Within.of1 ?_ (by assumption))
    | split

theorem State.ackPlan_within {L : List Comp} {σ : State} (s : State) (x : RxCtx) (p : Nat) (n : Option Nat) (nack : Bool) (role : Option
    KeyRole) (key : Nat) (h0 : Within L σ s) (hs : compsIn [.regs, .air, .qmg, .link, .key] L = true) : Within L σ (State.ackPlan s x p n nack
    role key) := by
  refine Within.comp ?_ hs h0
  clear h0 hs
  unfold State.ackPlan
  dsimp only
  repeat' first
    | (with_reducible exact Within.refl _ _)
    | (with_reducible apply State.bump_within)
    | ((with_reducible show compsIn _ _ = true); rfl)
    | (with_reducible refine Within.ite (fun _ => ?_) (fun _ => ?_))
    | (simp only [Within.lit]; with_reducible refine Within.upd ?_ rfl (fun k hk => ?_))
    | (cases k <;> first | (exact absurd (by decide) hk) | rfl)

theorem State.rxTake_within {L : List Comp} {σ : State} (s : State) (x : RxCtx) (p : Nat) (h0 : Within L σ s) (hs : compsIn [.regs, .pass, .host,
    .safe, .log, .cvn, .cvnIds, .air, .qmg, .shp, .rf, .link, .key, .vault, .mesh] L = true) : Within L σ (State.rxTake s x p).2 := by
  refine Within.comp ?_ hs h0
  clear h0 hs
  unfold State.rxTake
  dsimp only
  repeat' first
    | (with_reducible exact Within.refl _ _)
    | (with_reducible apply State.bump_within)
    | (with_reducible apply State.policeIngress_within)
    | (with_reducible apply State.takeChain_within)
    | ((with_reducible show compsIn _ _ = true); rfl)
    | split

theorem State.xrdMark_within {L : List Comp} {σ : State} (s : State) (id pan ord join : Nat) (h0 : Within L σ s) (hs : compsIn [.rx] L = true) :
    Within L σ (State.xrdMark s id pan ord join) := by
  refine Within.comp ?_ hs h0
  clear h0 hs
  unfold State.xrdMark
  dsimp only
  repeat' first
    | (with_reducible exact Within.refl _ _)
    | (simp only [Within.lit]; with_reducible refine Within.upd ?_ rfl (fun k hk => ?_))
    | (cases k <;> first | (exact absurd (by decide) hk) | rfl)

theorem State.nodeHeard_within {L : List Comp} {σ : State} (s : State) (o : Nat) (x : RxCtx) (h0 : Within L σ s) (hs : compsIn [.ndir] L = true) :
    Within L σ (State.nodeHeard s o x) := by
  refine Within.comp ?_ hs h0
  clear h0 hs
  unfold State.nodeHeard
  dsimp only
  repeat' first
    | (with_reducible exact Within.refl _ _)
    | (with_reducible apply State.setNode_within)
    | ((with_reducible show compsIn _ _ = true); rfl)

theorem State.setAir_within {L : List Comp} {σ : State} (s : State) (pos : Option Nat) (hold : Bool) (h0 : Within L σ s) (hs : compsIn [.regs] L =
    true) : Within L σ (State.setAir s pos hold) := by
  refine Within.comp ?_ hs h0
  clear h0 hs
  unfold State.setAir
  repeat' first
    | (with_reducible exact Within.refl _ _)
    | (with_reducible apply State.wr_within)
    | ((with_reducible show compsIn _ _ = true); rfl)

theorem State.airOffset_within {L : List Comp} {σ : State} (s : State) (n : Nat) (off : Int) (h0 : Within L σ s) (hs : compsIn [.regs, .free,
    .pass, .time] L = true) : Within L σ (State.airOffset s n off) := by
  refine Within.comp ?_ hs h0
  clear h0 hs
  unfold State.airOffset
  repeat' first
    | (with_reducible exact Within.refl _ _)
    | (with_reducible apply State.servoOffset_within)
    | (with_reducible apply State.setAir_within)
    | ((with_reducible show compsIn _ _ = true); rfl)
    | (with_reducible refine Within.ite (fun _ => ?_) (fun _ => ?_))
    | split

theorem State.timeFrom_within {L : List Comp} {σ : State} (s : State) (x : RxCtx) (n : Nat) (h0 : Within L σ s) (hs : compsIn [.regs, .free,
    .pass, .time] L = true) : Within L σ (State.timeFrom s x n) := by
  refine Within.comp ?_ hs h0
  clear h0 hs
  unfold State.timeFrom
  dsimp only
  repeat' first
    | (with_reducible exact Within.refl _ _)
    | (with_reducible apply State.airOffset_within)
    | ((with_reducible show compsIn _ _ = true); rfl)
    | (with_reducible refine Within.ite (fun _ => ?_) (fun _ => ?_))
    | split

theorem State.synchronise_within {L : List Comp} {σ : State} (s : State) (n start : Nat) (h0 : Within L σ s) (hs : compsIn [.ndir, .link] L =
    true) : Within L σ (State.synchronise s n start) := by
  refine Within.comp ?_ hs h0
  clear h0 hs
  unfold State.synchronise
  dsimp only
  repeat' first
    | (with_reducible exact Within.refl _ _)
    | (with_reducible apply State.setNbr_within)
    | (with_reducible apply State.setNode_within)
    | ((with_reducible show compsIn _ _ = true); rfl)
    | (with_reducible refine Within.ite (fun _ => ?_) (fun _ => ?_))

theorem State.rxSync_within {L : List Comp} {σ : State} (s : State) (x : RxCtx) (n : Nat) (h0 : Within L σ s) (hs : compsIn [.regs, .free, .pass,
    .time, .ndir, .link] L = true) : Within L σ (State.rxSync s x n) := by
  refine Within.comp ?_ hs h0
  clear h0 hs
  unfold State.rxSync
  repeat' first
    | (with_reducible exact Within.refl _ _)
    | (with_reducible apply State.synchronise_within)
    | (with_reducible apply State.timeFrom_within)
    | ((with_reducible show compsIn _ _ = true); rfl)

theorem State.setReplay_within {L : List Comp} {σ : State} (s : State) (n : Nat) (isLink : Bool) (r : ReplayRec) (h0 : Within L σ s) (hs : compsIn
    [.link] L = true) : Within L σ (State.setReplay s n isLink r) := by
  refine Within.comp ?_ hs h0
  clear h0 hs
  unfold State.setReplay
  dsimp only
  repeat' first
    | (with_reducible exact Within.refl _ _)
    | (with_reducible apply State.setNbr_within)
    | ((with_reducible show compsIn _ _ = true); rfl)

theorem State.replayTake_within {L : List Comp} {σ : State} (s : State) (n : Nat) (isLink : Bool) (r : ReplayRec) (f : RxFrame) (h0 : Within L σ
    s) (hs : compsIn [.link, .key, .vault] L = true) : Within L σ (State.replayTake s n isLink r f) := by
  refine Within.comp ?_ hs h0
  clear h0 hs
  unfold State.replayTake
  dsimp only
  repeat' first
    | (with_reducible exact Within.refl _ _)
    | (with_reducible apply State.setCtr_within)
    | (with_reducible apply State.setRecord_within)
    | (with_reducible apply State.setReplay_within)
    | ((with_reducible show compsIn _ _ = true); rfl)
    | (with_reducible refine Within.ite (fun _ => ?_) (fun _ => ?_))

theorem State.replayDrop_within {L : List Comp} {σ : State} (s : State) (p n key : Nat) (f : RxFrame) (h0 : Within L σ s) (hs : compsIn [.regs,
    .log, .link] L = true) : Within L σ (State.replayDrop s p n key f) := by
  refine Within.comp ?_ hs h0
  clear h0 hs
  unfold State.replayDrop
  dsimp only
  repeat' first
    | (with_reducible exact Within.refl _ _)
    | (with_reducible apply State.bump_within)
    | (with_reducible apply State.setNbr_within)
    | (with_reducible apply State.trail_within)
    | ((with_reducible show compsIn _ _ = true); rfl)

theorem State.dupAgain_within {L : List Comp} {σ : State} (s : State) (x : RxCtx) (p n : Nat) (role : Option KeyRole) (key : Nat) (h0 : Within L σ
    s) (hs : compsIn [.regs, .free, .pass, .time, .ndir, .air, .qmg, .rx, .link, .key] L = true) : Within L σ (State.dupAgain s x p n role
    key) := by
  refine Within.comp ?_ hs h0
  clear h0 hs
  unfold State.dupAgain
  dsimp only
  repeat' first
    | (with_reducible exact Within.refl _ _)
    | (with_reducible apply State.ackPlan_within)
    | (with_reducible apply State.bump_within)
    | (with_reducible apply State.rxSync_within)
    | (with_reducible apply State.setNbr_within)
    | (with_reducible apply State.xrdMark_within)
    | ((with_reducible show compsIn _ _ = true); rfl)

theorem State.rxNew_within {L : List Comp} {σ : State} (s : State) (x : RxCtx) (p n : Nat) (role : Option KeyRole) (key : Nat) (taken : State
    → State) (h0 : Within L σ s) (htaken : ∀ u , Within L σ u → Within L σ (taken u )) (hs : compsIn [.regs, .free, .pass, .host, .time, .safe, .log,
    .ndir, .cvn, .cvnIds, .air, .qmg, .shp, .rf, .rx, .link, .key, .vault, .mesh] L = true) : Within L σ (State.rxNew s x p n role key taken)
    := by
  unfold State.rxNew
  dsimp only
  repeat' first
    | (with_reducible assumption)
    | (with_reducible apply htaken)
    | (with_reducible apply State.ackPlan_within)
    | (with_reducible apply State.nodeHeard_within)
    | (with_reducible apply State.rxSync_within)
    | (with_reducible apply State.rxTake_within)
    | (with_reducible apply State.uplink_within)
    | (with_reducible apply State.xrdMark_within)
    | (exact compsIn_trans (m := [.regs, .free, .pass, .host, .time, .safe, .log, .ndir, .cvn, .cvnIds, .air, .qmg, .shp, .rf, .rx, .link,
        .key, .vault, .mesh]) rfl hs)
    | (with_reducible refine Within.ite (fun _ => ?_) (fun _ => ?_))
    | (with_reducible refine Within.of2 ?_ (by assumption))
    | split

theorem State.rxSecured_within {L : List Comp} {σ : State} (s : State) (x : RxCtx) (p n : Nat) (role : KeyRole) (key : Nat) (h0 : Within L σ s)
    (hs : compsIn [.regs, .free, .pass, .host, .time, .safe, .log, .ndir, .cvn, .cvnIds, .air, .qmg, .shp, .rf, .rx, .link, .key, .vault,
    .mesh] L = true) : Within L σ (State.rxSecured s x p n role key) := by
  refine Within.comp ?_ hs h0
  clear h0 hs
  unfold State.rxSecured
  dsimp only
  repeat' first
    | (with_reducible exact Within.refl _ _)
    | (with_reducible assumption)
    | (with_reducible apply State.dupAgain_within)
    | (with_reducible apply State.replayDrop_within)
    | (with_reducible apply State.replayTake_within)
    | (with_reducible apply State.rxNew_within)
    | (with_reducible apply State.setReplay_within)
    | ((with_reducible show compsIn _ _ = true); rfl)
    | (intro _)
    | split

theorem State.rxOpen_within {L : List Comp} {σ : State} (s : State) (x : RxCtx) (p n : Nat) (h0 : Within L σ s) (hs : compsIn [.regs, .free,
    .pass, .host, .time, .safe, .log, .ndir, .cvn, .cvnIds, .air, .qmg, .shp, .rf, .rx, .link, .key, .vault, .mesh] L = true) : Within L σ
    (State.rxOpen s x p n) := by
  refine Within.comp ?_ hs h0
  clear h0 hs
  unfold State.rxOpen
  dsimp only
  repeat' first
    | (with_reducible exact Within.refl _ _)
    | (with_reducible assumption)
    | (with_reducible apply State.dupAgain_within)
    | (with_reducible apply State.rxNew_within)
    | (with_reducible apply State.setNbr_within)
    | ((with_reducible show compsIn _ _ = true); rfl)
    | (with_reducible refine Within.ite (fun _ => ?_) (fun _ => ?_))
    | (intro _)
    | split

theorem State.joinPut_within {L : List Comp} {σ : State} (s : State) (x : RxCtx) (eui : Nat) (h0 : Within L σ s) (hs : compsIn [.link] L = true) :
    Within L σ (State.joinPut s x eui) := by
  refine Within.comp ?_ hs h0
  clear h0 hs
  unfold State.joinPut
  dsimp only
  repeat' first
    | (with_reducible exact Within.refl _ _)
    | (simp only [Within.lit]; with_reducible refine Within.upd ?_ rfl (fun k hk => ?_))
    | (cases k <;> first | (exact absurd (by decide) hk) | rfl)

theorem State.rxJoin_within {L : List Comp} {σ : State} (s : State) (x : RxCtx) (p eui : Nat) (role : Option KeyRole) (key : Nat) (h0 : Within L σ
    s) (hs : compsIn [.regs, .pass, .host, .time, .safe, .log, .cvn, .cvnIds, .air, .qmg, .shp, .rf, .rx, .link, .key, .vault, .mesh] L =
    true) : Within L σ (State.rxJoin s x p eui role key) := by
  refine Within.comp ?_ hs h0
  clear h0 hs
  unfold State.rxJoin
  dsimp only
  repeat' first
    | (with_reducible exact Within.refl _ _)
    | (with_reducible apply State.ackPlan_within)
    | (with_reducible apply State.bump_within)
    | (with_reducible apply State.joinPut_within)
    | (with_reducible apply State.pktQueue_within)
    | (with_reducible apply State.rxTake_within)
    | (with_reducible apply State.xrdMark_within)
    | ((with_reducible show compsIn _ _ = true); rfl)
    | (with_reducible refine Within.ite (fun _ => ?_) (fun _ => ?_))
    | (with_reducible refine Within.of2 ?_ (by assumption))
    | (simp only [Within.lit]; with_reducible refine Within.upd ?_ rfl (fun k hk => ?_))
    | (cases k <;> first | (exact absurd (by decide) hk) | rfl)
    | split

theorem State.rxVerify_within {L : List Comp} {σ : State} (s : State) (x : RxCtx) (r : KeyRole) (eui : Nat) (ok : State → RxCtx → Nat → State)
    (h0 : Within L σ s) (hok : ∀ u x0 x1, Within L σ u → Within L σ (ok u x0 x1)) (hs : compsIn [.regs, .pass, .host, .safe, .log, .cvn, .cvnIds,
    .air, .qmg, .rf, .link, .key] L = true) : Within L σ (State.rxVerify s x r eui ok) := by
  unfold State.rxVerify
  dsimp only
  repeat' first
    | (with_reducible assumption)
    | (with_reducible apply hok)
    | (with_reducible apply State.bump_within)
    | (with_reducible apply State.keyRequest_within)
    | (with_reducible apply State.keyTake_within)
    | (exact compsIn_trans (m := [.regs, .pass, .host, .safe, .log, .cvn, .cvnIds, .air, .qmg, .rf, .link, .key]) rfl hs)
    | (with_reducible refine Within.of1 ?_ (by assumption))
    | (simp only [Within.lit]; with_reducible refine Within.upd ?_ rfl (fun k hk => ?_))
    | (cases k <;> first | (exact absurd (compsIn_mem hs (by decide)) hk) | rfl)
    | split

theorem State.attemptOk_within {L : List Comp} {σ : State} (s : State) (a : Attempt) (h0 : Within L σ s) (hs : compsIn [.regs, .pass, .host,
    .safe, .log, .cvn, .cvnIds, .air, .qmg, .rf, .link, .slot, .key, .vault, .mesh] L = true) : Within L σ (State.attemptOk s a) := by
  refine Within.comp ?_ hs h0
  clear h0 hs
  unfold State.attemptOk
  dsimp only
  repeat' first
    | (with_reducible exact Within.refl _ _)
    | (with_reducible apply State.attemptDrop_within)
    | (with_reducible apply State.backoffReset_within)
    | (with_reducible apply State.finish_within)
    | ((with_reducible show compsIn _ _ = true); rfl)
    | split

theorem State.ackTake_within {L : List Comp} {σ : State} (s : State) (x : RxCtx) (a : Attempt) (n : Nat) (h0 : Within L σ s) (hs : compsIn [.regs,
    .free, .pass, .host, .time, .safe, .log, .ndir, .cvn, .cvnIds, .air, .qmg, .rf, .link, .slot, .key, .vault, .mesh] L = true) : Within L σ
    (State.ackTake s x a n) := by
  refine Within.comp ?_ hs h0
  clear h0 hs
  unfold State.ackTake
  dsimp only
  repeat' first
    | (with_reducible exact Within.refl _ _)
    | (with_reducible apply State.airOffset_within)
    | (with_reducible apply State.attemptOk_within)
    | (with_reducible apply State.bump_within)
    | (with_reducible apply State.setNode_within)
    | (with_reducible apply State.synchronise_within)
    | ((with_reducible show compsIn _ _ = true); rfl)
    | (with_reducible refine Within.ite (fun _ => ?_) (fun _ => ?_))
    | split

theorem State.setIdx_within {L : List Comp} {σ : State} (s : State) (b : Bool) (x : Index) (h0 : Within L σ s) (hs : compsIn [.dir] L = true) : Within
    L σ (State.setIdx s b x) := by
  refine Within.comp ?_ hs h0
  clear h0 hs
  unfold State.setIdx
  dsimp only
  repeat' first
    | (with_reducible exact Within.refl _ _)
    | (simp only [Within.lit]; with_reducible refine Within.upd ?_ rfl (fun k hk => ?_))
    | (cases k <;> first | (exact absurd (by decide) hk) | rfl)

theorem State.idxMark_within {L : List Comp} {σ : State} (s : State) (pos : Nat) (hit aged : Bool) (h0 : Within L σ s) (hs : compsIn [.dir] L =
    true) : Within L σ (State.idxMark s pos hit aged) := by
  refine Within.comp ?_ hs h0
  clear h0 hs
  unfold State.idxMark
  repeat' first
    | (with_reducible exact Within.refl _ _)
    | (with_reducible apply State.setIdx_within)
    | ((with_reducible show compsIn _ _ = true); rfl)
    | split

theorem State.nodeHit_within {L : List Comp} {σ : State} (s : State) (o : Nat) (h0 : Within L σ s) (hs : compsIn [.dir] L = true) : Within L σ
    (State.nodeHit s o) := by
  refine Within.comp ?_ hs h0
  clear h0 hs
  unfold State.nodeHit
  dsimp only
  repeat' first
    | (with_reducible exact Within.refl _ _)
    | (with_reducible apply State.idxMark_within)
    | ((with_reducible show compsIn _ _ = true); rfl)
    | split

theorem State.srcLook_within {L : List Comp} {σ : State} (s : State) (p : Nat) (a : MacAddr) (h0 : Within L σ s) (hs : compsIn [.regs, .free,
    .dir] L = true) : Within L σ (State.srcLook s p a) := by
  refine Within.comp ?_ hs h0
  clear h0 hs
  unfold State.srcLook
  dsimp only
  repeat' first
    | (with_reducible exact Within.refl _ _)
    | (with_reducible apply State.idxLook_within)
    | (with_reducible apply State.nodeHit_within)
    | ((with_reducible show compsIn _ _ = true); rfl)
    | (with_reducible refine Within.ite (fun _ => ?_) (fun _ => ?_))
    | split

theorem State.rxAck_within {L : List Comp} {σ : State} (s : State) (x : RxCtx) (h0 : Within L σ s) (hs : compsIn [.regs, .free, .pass, .host,
    .time, .safe, .log, .ndir, .cvn, .cvnIds, .air, .qmg, .rf, .link, .slot, .key, .vault, .dir, .mesh] L = true) : Within L σ (State.rxAck s
    x) := by
  refine Within.comp ?_ hs h0
  clear h0 hs
  unfold State.rxAck
  dsimp only
  repeat' first
    | (with_reducible exact Within.refl _ _)
    | (with_reducible assumption)
    | (with_reducible apply State.ackTake_within)
    | (with_reducible apply State.bump_within)
    | (with_reducible apply State.replayDrop_within)
    | (with_reducible apply State.replayTake_within)
    | (with_reducible apply State.rxVerify_within)
    | (with_reducible apply State.srcLook_within)
    | ((with_reducible show compsIn _ _ = true); rfl)
    | (with_reducible refine Within.ite (fun _ => ?_) (fun _ => ?_))
    | (intro _)
    | split

theorem State.rxJoinPolicy_within {L : List Comp} {σ : State} (s : State) (x : RxCtx) (p eui : Nat) (h0 : Within L σ s) (hs : compsIn [.regs,
    .pass, .host, .time, .safe, .log, .cvn, .cvnIds, .air, .qmg, .shp, .rf, .rx, .link, .key, .vault, .mesh] L = true) : Within L σ
    (State.rxJoinPolicy s x p eui) := by
  refine Within.comp ?_ hs h0
  clear h0 hs
  unfold State.rxJoinPolicy
  dsimp only
  repeat' first
    | (with_reducible exact Within.refl _ _)
    | (with_reducible assumption)
    | (with_reducible apply State.bump_within)
    | (with_reducible apply State.rxJoin_within)
    | (with_reducible apply State.rxVerify_within)
    | ((with_reducible show compsIn _ _ = true); rfl)
    | (with_reducible refine Within.ite (fun _ => ?_) (fun _ => ?_))
    | (intro _)

theorem State.rxPolicy_within {L : List Comp} {σ : State} (s : State) (x : RxCtx) (p n : Nat) (h0 : Within L σ s) (hs : compsIn [.regs, .free,
    .pass, .host, .time, .safe, .log, .ndir, .cvn, .cvnIds, .air, .qmg, .shp, .rf, .rx, .link, .key, .vault, .mesh] L = true) : Within L σ
    (State.rxPolicy s x p n) := by
  refine Within.comp ?_ hs h0
  clear h0 hs
  unfold State.rxPolicy
  dsimp only
  repeat' first
    | (with_reducible exact Within.refl _ _)
    | (with_reducible assumption)
    | (with_reducible apply State.bump_within)
    | (with_reducible apply State.rxOpen_within)
    | (with_reducible apply State.rxSecured_within)
    | (with_reducible apply State.rxVerify_within)
    | ((with_reducible show compsIn _ _ = true); rfl)
    | (with_reducible refine Within.ite (fun _ => ?_) (fun _ => ?_))
    | (intro _)
    | split

theorem State.rxAddressed_within {L : List Comp} {σ : State} (s : State) (f : RxFrame) (ok : State) (h0 : Within L σ s) (hok : Within L σ ok) (hs :
    compsIn [.regs] L = true) : Within L σ (State.rxAddressed s f ok) := by
  unfold State.rxAddressed
  repeat' first
    | (with_reducible assumption)
    | (with_reducible apply State.bump_within)
    | (with_reducible refine Within.ite (fun _ => ?_) (fun _ => ?_))

theorem State.linkRx_within {L : List Comp} {σ : State} (s : State) (x : RxCtx) (h0 : Within L σ s) (hs : compsIn [.regs, .free, .pass, .host,
    .time, .safe, .log, .ndir, .cvn, .cvnIds, .air, .qmg, .shp, .rf, .rx, .link, .slot, .key, .vault, .dir, .mesh] L = true) : Within L σ
    (State.linkRx s x) := by
  refine Within.comp ?_ hs h0
  clear h0 hs
  unfold State.linkRx
  dsimp only
  repeat' first
    | (with_reducible exact Within.refl _ _)
    | (with_reducible apply State.bump_within)
    | (with_reducible apply State.rxAck_within)
    | (with_reducible apply State.rxAddressed_within)
    | (with_reducible apply State.rxJoinPolicy_within)
    | (with_reducible apply State.rxPolicy_within)
    | (with_reducible apply State.srcLook_within)
    | ((with_reducible show compsIn _ _ = true); rfl)
    | (with_reducible refine Within.ite (fun _ => ?_) (fun _ => ?_))
    | split

theorem State.xrdSync_within {L : List Comp} {σ : State} (s : State) (h0 : Within L σ s) (hs : compsIn [.regs] L = true) : Within L σ (State.xrdSync
    s) := by
  refine Within.comp ?_ hs h0
  clear h0 hs
  unfold State.xrdSync
  repeat' first
    | (with_reducible exact Within.refl _ _)
    | (with_reducible apply State.setFld_within)
    | ((with_reducible show compsIn _ _ = true); rfl)

theorem State.learn_within {L : List Comp} {σ : State} (s : State) (o port q t : Nat) (h0 : Within L σ s) (hs : compsIn [.regs, .ndir, .dir] L =
    true) : Within L σ (State.learn s o port q t) := by
  refine Within.comp ?_ hs h0
  clear h0 hs
  unfold State.learn
  dsimp only
  repeat' first
    | (with_reducible exact Within.refl _ _)
    | (with_reducible apply State.bump_within)
    | (with_reducible apply State.nodeHit_within)
    | (with_reducible apply State.setNode_within)
    | ((with_reducible show compsIn _ _ = true); rfl)
    | (with_reducible refine Within.ite (fun _ => ?_) (fun _ => ?_))

theorem State.xrdClose_within {L : List Comp} {σ : State} (s : State) (e : XrdEntry) (h0 : Within L σ s) (hs : compsIn [.regs, .ndir, .rx, .link,
    .dir] L = true) : Within L σ (State.xrdClose s e) := by
  refine Within.comp ?_ hs h0
  clear h0 hs
  unfold State.xrdClose
  dsimp only
  repeat' first
    | (with_reducible exact Within.refl _ _)
    | (with_reducible apply State.learn_within)
    | (with_reducible apply State.xrdSync_within)
    | ((with_reducible show compsIn _ _ = true); rfl)
    | (with_reducible refine Within.ite (fun _ => ?_) (fun _ => ?_))
    | (simp only [Within.lit]; with_reducible refine Within.upd ?_ rfl (fun k hk => ?_))
    | (cases k <;> first | (exact absurd (by decide) hk) | rfl)

theorem State.xrdRoom_within {L : List Comp} {σ : State} (s : State) (h0 : Within L σ s) (hs : compsIn [.regs, .ndir, .rx, .link, .dir] L = true)
    : Within L σ (State.xrdRoom s) := by
  refine Within.comp ?_ hs h0
  clear h0 hs
  unfold State.xrdRoom
  dsimp only
  repeat' first
    | (with_reducible exact Within.refl _ _)
    | (with_reducible apply State.bump_within)
    | (with_reducible apply State.xrdClose_within)
    | ((with_reducible show compsIn _ _ = true); rfl)
    | (with_reducible refine Within.ite (fun _ => ?_) (fun _ => ?_))
    | split

theorem State.recentPut_within {L : List Comp} {σ : State} (s : State) (r : RecentKey) (h0 : Within L σ s) (hs : compsIn [.regs, .rx] L = true) :
    Within L σ (State.recentPut s r) := by
  refine Within.comp ?_ hs h0
  clear h0 hs
  unfold State.recentPut
  dsimp only
  repeat' first
    | (with_reducible exact Within.refl _ _)
    | (with_reducible apply State.bump_within)
    | ((with_reducible show compsIn _ _ = true); rfl)
    | (with_reducible refine Within.ite (fun _ => ?_) (fun _ => ?_))
    | (simp only [Within.lit]; with_reducible refine Within.upd ?_ rfl (fun k hk => ?_))
    | (cases k <;> first | (exact absurd (by decide) hk) | rfl)

theorem State.dropChecked_within {L : List Comp} {σ : State} (s : State) (q : Nat) (f : Frame) (h0 : Within L σ s) (hs : compsIn [.regs, .pass,
    .host, .safe, .log, .cvn, .cvnIds, .air, .qmg, .rf, .link, .key, .vault, .mesh] L = true) : Within L σ (State.dropChecked s q f) := by
  refine Within.comp ?_ hs h0
  clear h0 hs
  unfold State.dropChecked
  repeat' first
    | (with_reducible exact Within.refl _ _)
    | (with_reducible apply State.drop_within)
    | (with_reducible apply State.queueFault_within)
    | ((with_reducible show compsIn _ _ = true); rfl)
    | (with_reducible refine Within.ite (fun _ => ?_) (fun _ => ?_))

theorem State.droverDone_within {L : List Comp} {σ : State} (s : State) (a : Nat) (h0 : Within L σ s) (hs : compsIn [.regs, .pass, .host, .safe,
    .log, .cvn, .cvnIds, .air, .qmg, .rf, .link, .key, .vault, .mesh] L = true) : Within L σ (State.droverDone s a) := by
  refine Within.comp ?_ hs h0
  clear h0 hs
  unfold State.droverDone
  dsimp only
  repeat' first
    | (with_reducible exact Within.refl _ _)
    | (with_reducible assumption)
    | (with_reducible apply State.dropChecked_within)
    | ((with_reducible show compsIn _ _ = true); rfl)
    | (with_reducible refine Within.ite (fun _ => ?_) (fun _ => ?_))
    | (with_reducible refine Within.foldl ?_ (fun _ _ _ => ?_))
    | (simp only [Within.lit]; with_reducible refine Within.upd ?_ rfl (fun k hk => ?_))
    | (cases k <;> first | (exact absurd (by decide) hk) | rfl)

theorem State.droverTake_within {L : List Comp} {σ : State} (s : State) (a asn seq start : Nat) (h0 : Within L σ s) (hs : compsIn [.regs, .pass,
    .host, .safe, .log, .cvn, .cvnIds, .air, .qmg, .rf, .link, .key, .vault, .mesh] L = true) : Within L σ (State.droverTake s a asn seq
    start) := by
  refine Within.comp ?_ hs h0
  clear h0 hs
  unfold State.droverTake
  dsimp only
  repeat' first
    | (with_reducible exact Within.refl _ _)
    | (with_reducible apply State.droverDone_within)
    | (with_reducible apply State.setFld_within)
    | ((with_reducible show compsIn _ _ = true); rfl)
    | (with_reducible refine Within.ite (fun _ => ?_) (fun _ => ?_))
    | (simp only [Within.lit]; with_reducible refine Within.upd ?_ rfl (fun k hk => ?_))
    | (cases k <;> first | (exact absurd (by decide) hk) | rfl)
    | split

theorem State.xrdOpen_within {L : List Comp} {σ : State} (s : State) (x : RxCtx) (prior : Option Copy) (h0 : Within L σ s) (hs : compsIn [.regs,
    .free, .pass, .host, .time, .safe, .log, .ndir, .cvn, .cvnIds, .air, .qmg, .shp, .rf, .rx, .link, .slot, .key, .vault, .dir, .mesh] L
    = true) : Within L σ (State.xrdOpen s x prior) := by
  refine Within.comp ?_ hs h0
  clear h0 hs
  unfold State.xrdOpen
  dsimp only
  repeat' first
    | (with_reducible exact Within.refl _ _)
    | (with_reducible apply State.bump_within)
    | (with_reducible apply State.droverTake_within)
    | (with_reducible apply State.linkRx_within)
    | (with_reducible apply State.recentPut_within)
    | (with_reducible apply State.xrdRoom_within)
    | (with_reducible apply State.xrdSync_within)
    | ((with_reducible show compsIn _ _ = true); rfl)
    | (simp only [Within.lit]; with_reducible refine Within.upd ?_ rfl (fun k hk => ?_))
    | (cases k <;> first | (exact absurd (by decide) hk) | rfl)
    | split

theorem State.xrdBest_within {L : List Comp} {σ : State} (s : State) (id : Nat) (c : Copy) (h0 : Within L σ s) (hs : compsIn [.rx, .link] L =
    true) : Within L σ (State.xrdBest s id c) := by
  refine Within.comp ?_ hs h0
  clear h0 hs
  unfold State.xrdBest
  dsimp only
  repeat' first
    | (with_reducible exact Within.refl _ _)
    | (simp only [Within.lit]; with_reducible refine Within.upd ?_ rfl (fun k hk => ?_))
    | (cases k <;> first | (exact absurd (by decide) hk) | rfl)

theorem State.xrdPipe_within {L : List Comp} {σ : State} (s : State) (x : RxCtx) (faults : Nat) (prior : Option Copy) (h0 : Within L σ s) (hs :
    compsIn [.regs, .free, .pass, .host, .time, .safe, .log, .ndir, .cvn, .cvnIds, .air, .qmg, .shp, .rf, .rx, .link, .slot, .key, .vault,
    .dir, .mesh] L = true) : Within L σ (State.xrdPipe s x faults prior) := by
  refine Within.comp ?_ hs h0
  clear h0 hs
  unfold State.xrdPipe
  repeat' first
    | (with_reducible exact Within.refl _ _)
    | (with_reducible assumption)
    | (with_reducible refine State.onPipe_within _ _ _ _ _ ?_ ?_ (fun _ _ => ?_))
    | (with_reducible apply State.xrdOpen_within)
    | ((with_reducible show compsIn _ _ = true); rfl)
    | (with_reducible refine Within.ite (fun _ => ?_) (fun _ => ?_))

theorem State.laneSync_within {L : List Comp} {σ : State} (s : State) (h0 : Within L σ s) (hs : compsIn [.regs] L = true) : Within L σ (State.laneSync
    s) := by
  refine Within.comp ?_ hs h0
  clear h0 hs
  unfold State.laneSync
  dsimp only
  repeat' first
    | (with_reducible exact Within.refl _ _)
    | (with_reducible apply State.setFld_within)
    | ((with_reducible show compsIn _ _ = true); rfl)

theorem State.setLane_within {L : List Comp} {σ : State} (s : State) (l : Nat) (x : Lane) (h0 : Within L σ s) (hs : compsIn [.regs, .rx] L = true)
    : Within L σ (State.setLane s l x) := by
  refine Within.comp ?_ hs h0
  clear h0 hs
  unfold State.setLane
  dsimp only
  repeat' first
    | (with_reducible exact Within.refl _ _)
    | (with_reducible apply State.laneSync_within)
    | ((with_reducible show compsIn _ _ = true); rfl)
    | (simp only [Within.lit]; with_reducible refine Within.upd ?_ rfl (fun k hk => ?_))
    | (cases k <;> first | (exact absurd (by decide) hk) | rfl)

theorem State.freeLane_within {L : List Comp} {σ : State} (s : State) (l : Nat) (h0 : Within L σ s) (hs : compsIn [.regs, .rx] L = true) : Within L σ
    (State.freeLane s l) := by
  refine Within.comp ?_ hs h0
  clear h0 hs
  unfold State.freeLane
  repeat' first
    | (with_reducible exact Within.refl _ _)
    | (with_reducible apply State.setLane_within)
    | ((with_reducible show compsIn _ _ = true); rfl)

theorem State.keyBadEvent_within {L : List Comp} {σ : State} (s : State) (r : KeyRole) (x : RxCtx) (cause : Nat) (h0 : Within L σ s) (hs : compsIn
    [.regs, .pass, .host, .safe, .log, .cvn, .cvnIds, .air, .qmg, .rf, .link, .key, .vault] L = true) : Within L σ (State.keyBadEvent s r x
    cause) := by
  refine Within.comp ?_ hs h0
  clear h0 hs
  unfold State.keyBadEvent
  dsimp only
  repeat' first
    | (with_reducible exact Within.refl _ _)
    | (with_reducible apply State.evtF_within)
    | ((with_reducible show compsIn _ _ = true); rfl)

theorem State.waitsTake_within {L : List Comp} {σ : State} (s : State) (r : KeyRole) (h0 : Within L σ s) (hs : compsIn [.key] L = true) : Within L σ
    (State.waitsTake s r).2 := by
  refine Within.comp ?_ hs h0
  clear h0 hs
  unfold State.waitsTake
  dsimp only
  repeat' first
    | (with_reducible exact Within.refl _ _)
    | (simp only [Within.lit]; with_reducible refine Within.upd ?_ rfl (fun k hk => ?_))
    | (cases k <;> first | (exact absurd (by decide) hk) | rfl)

theorem State.loadBad_within {L : List Comp} {σ : State} (s : State) (l : KeyLoad) (cause : Nat) (h0 : Within L σ s) (hs : compsIn [.regs, .pass,
    .host, .safe, .log, .cvn, .cvnIds, .air, .qmg, .rf, .link, .key, .vault, .mesh] L = true) : Within L σ (State.loadBad s l cause) := by
  refine Within.comp ?_ hs h0
  clear h0 hs
  unfold State.loadBad
  dsimp only
  repeat' first
    | (with_reducible exact Within.refl _ _)
    | (with_reducible apply State.keyBadEvent_within)
    | (with_reducible apply State.keyFramesEnd_within)
    | (with_reducible apply State.loadDrop_within)
    | (with_reducible apply State.waitsTake_within)
    | ((with_reducible show compsIn _ _ = true); rfl)
    | split

theorem State.loadEnd_within {L : List Comp} {σ : State} (s : State) (l : KeyLoad) (h0 : Within L σ s) (hs : compsIn [.regs, .free, .pass, .host,
    .time, .safe, .log, .ndir, .cvn, .cvnIds, .air, .qmg, .shp, .rf, .rx, .link, .slot, .key, .vault, .dir, .mesh] L = true) : Within L σ
    (State.loadEnd s l) := by
  refine Within.comp ?_ hs h0
  clear h0 hs
  unfold State.loadEnd
  dsimp only
  repeat' first
    | (with_reducible exact Within.refl _ _)
    | (with_reducible assumption)
    | (with_reducible apply State.bump_within)
    | (with_reducible refine State.keyLoad_within ?_ ?_ _ (by assumption))
    | (with_reducible apply State.keyReady_within)
    | (with_reducible apply State.linkRx_within)
    | (with_reducible apply State.loadBad_within)
    | (with_reducible apply State.loadDrop_within)
    | (with_reducible apply State.waitsTake_within)
    | ((with_reducible show compsIn _ _ = true); rfl)
    | (with_reducible refine Within.ite (fun _ => ?_) (fun _ => ?_))
    | (with_reducible refine Within.foldl ?_ (fun _ _ _ => ?_))
    | split

theorem State.keyPump_within {L : List Comp} {σ : State} (n : Nat) (s : State) (h0 : Within L σ s) (hs : compsIn [.regs, .pass, .host, .safe,
    .log, .cvn, .cvnIds, .air, .qmg, .rf, .link, .key, .vault, .mesh] L = true) : Within L σ (State.keyPump n s) := by
  induction n generalizing s with
  | zero => exact h0
  | succ n ih =>
  unfold State.keyPump
  dsimp only
  repeat' first
    | (with_reducible assumption)
    | (with_reducible apply State.keyReady_within)
    | (with_reducible apply State.loadBad_within)
    | (with_reducible apply ih)
    | (exact compsIn_trans (m := [.regs, .pass, .host, .safe, .log, .cvn, .cvnIds, .air, .qmg, .rf, .link, .key, .vault, .mesh]) rfl hs)
    | (simp only [Within.lit]; with_reducible refine Within.upd ?_ rfl (fun k hk => ?_))
    | (cases k <;> first | (exact absurd (compsIn_mem hs (by decide)) hk) | rfl)
    | split

theorem State.keyUnits_within {L : List Comp} {σ : State} (s : State) (h0 : Within L σ s) (hs : compsIn [.regs, .pass, .host, .safe, .log, .cvn,
    .cvnIds, .air, .qmg, .rf, .link, .key, .vault, .mesh] L = true) : Within L σ (State.keyUnits s) := by
  refine Within.comp ?_ hs h0
  clear h0 hs
  unfold State.keyUnits
  repeat' first
    | (with_reducible exact Within.refl _ _)
    | (with_reducible apply State.keyPump_within)
    | ((with_reducible show compsIn _ _ = true); rfl)

theorem State.waitsRetry_within {L : List Comp} {σ : State} (s : State) (h0 : Within L σ s) (hs : compsIn [.regs, .pass, .host, .safe, .log, .cvn,
    .cvnIds, .air, .qmg, .rf, .link, .key, .vault, .mesh] L = true) : Within L σ (State.waitsRetry s) := by
  refine Within.comp ?_ hs h0
  clear h0 hs
  unfold State.waitsRetry
  repeat' first
    | (with_reducible exact Within.refl _ _)
    | (with_reducible assumption)
    | (with_reducible apply State.keyRequest_within)
    | (with_reducible apply State.keyUnits_within)
    | (with_reducible apply State.laterAsk_within)
    | ((with_reducible show compsIn _ _ = true); rfl)
    | (with_reducible refine Within.foldl ?_ (fun _ _ _ => ?_))

theorem State.ringErr_within {L : List Comp} {σ : State} (s : State) (p r : Nat) (f : Fld) (raise : Bool) (idx : Nat) (h0 : Within L σ s) (hs :
    compsIn [.regs, .host] L = true) : Within L σ (State.ringErr s p r f raise idx) := by
  refine Within.comp ?_ hs h0
  clear h0 hs
  unfold State.ringErr
  dsimp only
  repeat' first
    | (with_reducible exact Within.refl _ _)
    | (with_reducible apply State.err_within)
    | (with_reducible apply State.evtH_within)
    | (with_reducible apply State.wr_within)
    | ((with_reducible show compsIn _ _ = true); rfl)
    | (with_reducible refine Within.ite (fun _ => ?_) (fun _ => ?_))

theorem State.cplFlush_within {L : List Comp} {σ : State} (s : State) (p : Nat) (n : Nat) (h0 : Within L σ s) (hs : compsIn [.regs, .host, .air,
    .qmg, .link] L = true) : Within L σ (State.cplFlush s p n) := by
  induction n generalizing s p with
  | zero => exact h0
  | succ n ih =>
  unfold State.cplFlush
  dsimp only
  repeat' first
    | (with_reducible assumption)
    | (with_reducible apply ih)
    | (with_reducible apply State.resvSync_within)
    | (with_reducible apply State.ringPut_within)
    | (with_reducible apply State.ringSignal_within)
    | (exact compsIn_trans (m := [.regs, .host, .air, .qmg, .link]) rfl hs)
    | (with_reducible refine Within.ite (fun _ => ?_) (fun _ => ?_))
    | (simp only [Within.lit]; with_reducible refine Within.upd ?_ rfl (fun k hk => ?_))
    | (cases k <;> first | (exact absurd (compsIn_mem hs (by decide)) hk) | rfl)
    | split

theorem State.doorbell_within {L : List Comp} {σ : State} (s : State) (p r : Nat) (data : Word) (h0 : Within L σ s) (hs : compsIn [.regs, .host,
    .pwr, .air, .qmg, .link] L = true) : Within L σ (State.doorbell s p r data) := by
  refine Within.comp ?_ hs h0
  clear h0 hs
  unfold State.doorbell
  dsimp only
  repeat' first
    | (with_reducible exact Within.refl _ _)
    | (with_reducible apply State.cplFlush_within)
    | (with_reducible apply State.ringErr_within)
    | (with_reducible apply State.setFld_within)
    | (with_reducible apply State.wake_within)
    | ((with_reducible show compsIn _ _ = true); rfl)
    | (with_reducible refine Within.ite (fun _ => ?_) (fun _ => ?_))

theorem State.ringCfg_within {L : List Comp} {σ : State} (s : State) (p r : Nat) (data : Word) (h0 : Within L σ s) (hs : compsIn [.regs, .host,
    .air, .qmg, .link] L = true) : Within L σ (State.ringCfg s p r data) := by
  refine Within.comp ?_ hs h0
  clear h0 hs
  unfold State.ringCfg
  dsimp only
  repeat' first
    | (with_reducible exact Within.refl _ _)
    | (with_reducible apply State.cplFlush_within)
    | (with_reducible apply State.ringErr_within)
    | (with_reducible apply State.wr_within)
    | ((with_reducible show compsIn _ _ = true); rfl)
    | (with_reducible refine Within.ite (fun _ => ?_) (fun _ => ?_))
    | (simp only [Within.lit]; with_reducible refine Within.upd ?_ rfl (fun k hk => ?_))
    | (cases k <;> first | (exact absurd (by decide) hk) | rfl)

theorem State.ringBaseWrite_within {L : List Comp} {σ : State} (s : State) (p r : Nat) (hi : Bool) (data : Word) (h0 : Within L σ s) (hs : compsIn
    [.regs, .host] L = true) : Within L σ (State.ringBaseWrite s p r hi data) := by
  refine Within.comp ?_ hs h0
  clear h0 hs
  unfold State.ringBaseWrite
  repeat' first
    | (with_reducible exact Within.refl _ _)
    | (with_reducible apply State.ringErr_within)
    | (with_reducible apply State.wr_within)
    | ((with_reducible show compsIn _ _ = true); rfl)
    | (with_reducible refine Within.ite (fun _ => ?_) (fun _ => ?_))

theorem State.addFetched_within {L : List Comp} {σ : State} (s : State) (f : Fetched) (h0 : Within L σ s) (hs : compsIn [.regs, .host, .pwr] L =
    true) : Within L σ (State.addFetched s f) := by
  refine Within.comp ?_ hs h0
  clear h0 hs
  unfold State.addFetched
  dsimp only
  repeat' first
    | (with_reducible exact Within.refl _ _)
    | (with_reducible apply State.resvSync_within)
    | ((with_reducible show compsIn _ _ = true); rfl)
    | (simp only [Within.lit]; with_reducible refine Within.upd ?_ rfl (fun k hk => ?_))
    | (cases k <;> first | (exact absurd (by decide) hk) | rfl)

theorem State.cmdBad_within {L : List Comp} {σ : State} (s : State) (c : CmdDesc) (cause : Nat) (h0 : Within L σ s) (hs : compsIn [.pass, .ends] L
    = true) : Within L σ (State.cmdBad s c cause) := by
  refine Within.comp ?_ hs h0
  clear h0 hs
  unfold State.cmdBad
  repeat' first
    | (with_reducible exact Within.refl _ _)
    | (with_reducible apply State.cmdDone_within)
    | ((with_reducible show compsIn _ _ = true); rfl)

theorem State.cplOpen_within {L : List Comp} {σ : State} (s : State) (c : CmdDesc) (h0 : Within L σ s) (hs : compsIn [.ends] L = true) : Within L σ
    (State.cplOpen s c) := by
  refine Within.comp ?_ hs h0
  clear h0 hs
  unfold State.cplOpen
  dsimp only
  repeat' first
    | (with_reducible exact Within.refl _ _)
    | (with_reducible refine Within.ite (fun _ => ?_) (fun _ => ?_))
    | (simp only [Within.lit]; with_reducible refine Within.upd ?_ rfl (fun k hk => ?_))
    | (cases k <;> first | (exact absurd (by decide) hk) | rfl)

theorem State.descTake_within {L : List Comp} {σ : State} (s0 : State) (c : CmdDesc) (h0 : Within L σ s0) (hs : compsIn [.regs, .pass, .host,
    .safe, .log, .cmds, .ends, .cvn, .cvnIds, .air, .qmg, .rf, .link] L = true) : Within L σ (State.descTake s0 c) := by
  refine Within.comp ?_ hs h0
  clear h0 hs
  unfold State.descTake
  dsimp only
  repeat' first
    | (with_reducible exact Within.refl _ _)
    | (with_reducible apply State.cmdBad_within)
    | (with_reducible apply State.cmdDone_within)
    | (with_reducible apply State.cplOpen_within)
    | (with_reducible apply State.guardViolation_within)
    | ((with_reducible show compsIn _ _ = true); rfl)
    | (with_reducible refine Within.ite (fun _ => ?_) (fun _ => ?_))
    | (simp only [Within.lit]; with_reducible refine Within.upd ?_ rfl (fun k hk => ?_))
    | (cases k <;> first | (exact absurd (by decide) hk) | rfl)

theorem State.rxWrite_within {L : List Comp} {σ : State} (s : State) (p r : Nat) (meta_ : List Word) (xs : List (Nat × Nat × Bool)) (bs : List
    Byte) (h0 : Within L σ s) (hs : compsIn [.regs, .host, .air, .qmg, .link] L = true) : Within L σ (State.rxWrite s p r meta_ xs bs) := by
  induction xs generalizing s bs with
  | nil => exact h0
  | cons x xs ih => exact ih _ _ (State.rxBack_within _ _ _ _ _ _ _ _ h0 (compsIn_trans (m := [.regs, .host, .air, .qmg, .link]) rfl hs))

theorem State.vecRetry_within {L : List Comp} {σ : State} (s : State) (p v : Nat) (h0 : Within L σ s) (hs : compsIn [.host] L = true) : Within L σ
    (State.vecRetry s p v) := by
  refine Within.comp ?_ hs h0
  clear h0 hs
  unfold State.vecRetry
  repeat' first
    | (with_reducible exact Within.refl _ _)
    | (with_reducible apply State.vecFire_within)
    | ((with_reducible show compsIn _ _ = true); rfl)
    | (with_reducible refine Within.ite (fun _ => ?_) (fun _ => ?_))

theorem State.msixWrite_within {L : List Comp} {σ : State} (s : State) (p i : Nat) (data : Word) (h0 : Within L σ s) (hs : compsIn [.host] L =
    true) : Within L σ (State.msixWrite s p i data) := by
  refine Within.comp ?_ hs h0
  clear h0 hs
  unfold State.msixWrite
  dsimp only
  repeat' first
    | (with_reducible exact Within.refl _ _)
    | (with_reducible apply State.vecRetry_within)
    | ((with_reducible show compsIn _ _ = true); rfl)
    | (with_reducible refine Within.ite (fun _ => ?_) (fun _ => ?_))
    | (simp only [Within.lit]; with_reducible refine Within.upd ?_ rfl (fun k hk => ?_))
    | (cases k <;> first | (exact absurd (by decide) hk) | rfl)

theorem State.msixEnable_within {L : List Comp} {σ : State} (s : State) (p : Nat) (on : Bool) (h0 : Within L σ s) (hs : compsIn [.host] L = true)
    : Within L σ (State.msixEnable s p on) := by
  refine Within.comp ?_ hs h0
  clear h0 hs
  unfold State.msixEnable
  dsimp only
  repeat' first
    | (with_reducible exact Within.refl _ _)
    | (with_reducible assumption)
    | (with_reducible apply State.vecRetry_within)
    | ((with_reducible show compsIn _ _ = true); rfl)
    | (with_reducible refine Within.foldl ?_ (fun _ _ _ => ?_))
    | (simp only [Within.lit]; with_reducible refine Within.upd ?_ rfl (fun k hk => ?_))
    | (cases k <;> first | (exact absurd (by decide) hk) | rfl)

theorem State.cfgRun_within {L : List Comp} {σ : State} (s : State) (p : Nat) (a : CfgAccess) (h0 : Within L σ s) (hs : compsIn [.free, .host] L =
    true) : Within L σ (State.cfgRun s p a) := by
  refine Within.comp ?_ hs h0
  clear h0 hs
  unfold State.cfgRun
  dsimp only
  repeat' first
    | (with_reducible exact Within.refl _ _)
    | (with_reducible apply State.answer_within)
    | (with_reducible apply State.free!_within)
    | (with_reducible apply State.msixEnable_within)
    | ((with_reducible show compsIn _ _ = true); rfl)
    | (with_reducible refine Within.ite (fun _ => ?_) (fun _ => ?_))
    | (simp only [Within.lit]; with_reducible refine Within.upd ?_ rfl (fun k hk => ?_))
    | (cases k <;> first | (exact absurd (by decide) hk) | rfl)
    | split

theorem State.lockWrite_within {L : List Comp} {σ : State} (s : State) (p : Nat) (data : Word) (h0 : Within L σ s) (hs : compsIn [.regs, .host] L
    = true) : Within L σ (State.lockWrite s p data) := by
  refine Within.comp ?_ hs h0
  clear h0 hs
  unfold State.lockWrite
  dsimp only
  repeat' first
    | (with_reducible exact Within.refl _ _)
    | (with_reducible apply State.armLock_within)
    | (with_reducible apply State.setFld_within)
    | ((with_reducible show compsIn _ _ = true); rfl)
    | (with_reducible refine Within.ite (fun _ => ?_) (fun _ => ?_))
    | (simp only [Within.lit]; with_reducible refine Within.upd ?_ rfl (fun k hk => ?_))
    | (cases k <;> first | (exact absurd (by decide) hk) | rfl)

theorem State.bankWrite_within {L : List Comp} {σ : State} (s : State) (p : Nat) (data : Word) (h0 : Within L σ s) (hs : compsIn [.regs] L = true)
    : Within L σ (State.bankWrite s p data) := by
  refine Within.comp ?_ hs h0
  clear h0 hs
  unfold State.bankWrite
  dsimp only
  repeat' first
    | (with_reducible exact Within.refl _ _)
    | (with_reducible apply State.err_within)
    | (with_reducible apply State.setFld_within)
    | ((with_reducible show compsIn _ _ = true); rfl)
    | (with_reducible refine Within.ite (fun _ => ?_) (fun _ => ?_))

theorem State.partMapWrite_within {L : List Comp} {σ : State} (s : State) (p : Nat) (data : Word) (h0 : Within L σ s) (hs : compsIn [.regs, .pass,
    .host, .safe, .log, .cvn, .cvnIds, .air, .qmg, .rf, .link] L = true) : Within L σ (State.partMapWrite s p data) := by
  refine Within.comp ?_ hs h0
  clear h0 hs
  unfold State.partMapWrite
  dsimp only
  repeat' first
    | (with_reducible exact Within.refl _ _)
    | (with_reducible apply State.err_within)
    | (with_reducible apply State.guardTake_within)
    | (with_reducible apply State.guardViolationH_within)
    | (with_reducible apply State.setFld_within)
    | ((with_reducible show compsIn _ _ = true); rfl)
    | (with_reducible refine Within.ite (fun _ => ?_) (fun _ => ?_))

theorem State.droverClear_within {L : List Comp} {σ : State} (s : State) (a : Nat) (h0 : Within L σ s) (hs : compsIn [.safe] L = true) : Within L σ
    (State.droverClear s a) := by
  refine Within.comp ?_ hs h0
  clear h0 hs
  unfold State.droverClear
  dsimp only
  repeat' first
    | (with_reducible exact Within.refl _ _)
    | (simp only [Within.lit]; with_reducible refine Within.upd ?_ rfl (fun k hk => ?_))
    | (cases k <;> first | (exact absurd (by decide) hk) | rfl)

theorem State.bumpFld_within {L : List Comp} {σ : State} (s : State) (k : Nat) (f : Fld) (h0 : Within L σ s) (hs : compsIn [.regs] L = true) : Within
    L σ (State.bumpFld s k f) := by
  refine Within.comp ?_ hs h0
  clear h0 hs
  unfold State.bumpFld
  repeat' first
    | (with_reducible exact Within.refl _ _)
    | (with_reducible apply State.setFld_within)
    | ((with_reducible show compsIn _ _ = true); rfl)

theorem State.droverEnd_within {L : List Comp} {σ : State} (s : State) (a : Nat) (h0 : Within L σ s) (hs : compsIn [.regs, .pass, .host, .safe,
    .log, .cvn, .cvnIds, .air, .qmg, .rf, .link, .key, .vault, .mesh] L = true) : Within L σ (State.droverEnd s a) := by
  refine Within.comp ?_ hs h0
  clear h0 hs
  unfold State.droverEnd
  dsimp only
  repeat' first
    | (with_reducible exact Within.refl _ _)
    | (with_reducible apply State.bumpFld_within)
    | (with_reducible apply State.droverClear_within)
    | (with_reducible apply State.droverDone_within)
    | (with_reducible apply State.evtF_within)
    | (with_reducible apply State.ledger_within)
    | (with_reducible apply State.quiet_within)
    | (with_reducible apply State.setFld_within)
    | ((with_reducible show compsIn _ _ = true); rfl)
    | (with_reducible refine Within.ite (fun _ => ?_) (fun _ => ?_))

theorem State.droverWrite_within {L : List Comp} {σ : State} (s : State) (p a : Nat) (data : Word) (h0 : Within L σ s) (hs : compsIn [.regs,
    .pass, .host, .safe, .log, .cvn, .cvnIds, .air, .qmg, .rf, .link, .key, .vault, .mesh] L = true) : Within L σ (State.droverWrite s p a
    data) := by
  refine Within.comp ?_ hs h0
  clear h0 hs
  unfold State.droverWrite
  dsimp only
  repeat' first
    | (with_reducible exact Within.refl _ _)
    | (with_reducible apply State.droverClear_within)
    | (with_reducible apply State.droverDone_within)
    | (with_reducible apply State.only0_within)
    | (with_reducible apply State.setFld_within)
    | (with_reducible apply State.wr_within)
    | ((with_reducible show compsIn _ _ = true); rfl)
    | (with_reducible refine Within.ite (fun _ => ?_) (fun _ => ?_))

theorem State.nbrSync_within {L : List Comp} {σ : State} (s : State) (h0 : Within L σ s) (hs : compsIn [.regs] L = true) : Within L σ (State.nbrSync
    s) := by
  refine Within.comp ?_ hs h0
  clear h0 hs
  unfold State.nbrSync
  repeat' first
    | (with_reducible exact Within.refl _ _)
    | (with_reducible apply State.setFld_within)
    | ((with_reducible show compsIn _ _ = true); rfl)

theorem State.withdraw_within {L : List Comp} {σ : State} (s : State) (which : AirTx → Bool) (h0 : Within L σ s) (hs : compsIn [.regs, .free,
    .pass, .host, .safe, .log, .cvn, .cvnIds, .air, .qmg, .rf, .link, .slot, .key, .vault, .mesh] L = true) : Within L σ (State.withdraw s
    which) := by
  refine Within.comp ?_ hs h0
  clear h0 hs
  unfold State.withdraw
  dsimp only
  repeat' first
    | (with_reducible exact Within.refl _ _)
    | (with_reducible assumption)
    | (with_reducible apply State.attemptCheck_within)
    | ((with_reducible show compsIn _ _ = true); rfl)
    | (with_reducible refine Within.foldl ?_ (fun _ _ _ => ?_))
    | (simp only [Within.lit]; with_reducible refine Within.upd ?_ rfl (fun k hk => ?_))
    | (cases k <;> first | (exact absurd (by decide) hk) | rfl)

theorem State.latWrite_within {L : List Comp} {σ : State} (s : State) (p : Nat) (data : Word) (h0 : Within L σ s) (hs : compsIn [.regs, .pass,
    .pwr, .air, .rf, .rx] L = true) : Within L σ (State.latWrite s p data) := by
  refine Within.comp ?_ hs h0
  clear h0 hs
  unfold State.latWrite
  repeat' first
    | (with_reducible exact Within.refl _ _)
    | (with_reducible apply State.pwrInput_within)
    | (with_reducible apply State.wr_within)
    | ((with_reducible show compsIn _ _ = true); rfl)

theorem State.pwrWriter_within {L : List Comp} {σ : State} (s : State) (p : Nat) (ok : State) (h0 : Within L σ s) (hok : Within L σ ok) (hs : compsIn
    [.regs] L = true) : Within L σ (State.pwrWriter s p ok) := by
  unfold State.pwrWriter
  repeat' first
    | (with_reducible assumption)
    | (with_reducible apply State.only0_within)

theorem State.permitWrite_within {L : List Comp} {σ : State} (s : State) (p : Nat) (data : Word) (h0 : Within L σ s) (hs : compsIn [.regs, .pass,
    .pwr, .air, .rf, .rx] L = true) : Within L σ (State.permitWrite s p data) := by
  refine Within.comp ?_ hs h0
  clear h0 hs
  unfold State.permitWrite
  dsimp only
  repeat' first
    | (with_reducible exact Within.refl _ _)
    | (with_reducible apply State.err_within)
    | (with_reducible apply State.pwrInput_within)
    | (with_reducible apply State.pwrWriter_within)
    | (with_reducible apply State.wr_within)
    | ((with_reducible show compsIn _ _ = true); rfl)
    | (with_reducible refine Within.ite (fun _ => ?_) (fun _ => ?_))

theorem State.forceWrite_within {L : List Comp} {σ : State} (s : State) (p : Nat) (data : Word) (h0 : Within L σ s) (hs : compsIn [.regs, .pass,
    .host, .safe, .log, .pwr, .cvn, .cvnIds, .air, .qmg, .rf, .rx, .link] L = true) : Within L σ (State.forceWrite s p data) := by
  refine Within.comp ?_ hs h0
  clear h0 hs
  unfold State.forceWrite
  dsimp only
  repeat' first
    | (with_reducible exact Within.refl _ _)
    | (with_reducible assumption)
    | (with_reducible apply State.err_within)
    | (with_reducible apply State.guarded_within)
    | (with_reducible apply State.pwrInput_within)
    | (with_reducible apply State.pwrWriter_within)
    | (with_reducible apply State.setFld_within)
    | (with_reducible apply State.wr_within)
    | ((with_reducible show compsIn _ _ = true); rfl)
    | (with_reducible refine Within.ite (fun _ => ?_) (fun _ => ?_))
    | (intro _)

theorem State.idleSync_within {L : List Comp} {σ : State} (s : State) (h0 : Within L σ s) (hs : compsIn [.pwr] L = true) : Within L σ (State.idleSync
    s) := by
  refine Within.comp ?_ hs h0
  clear h0 hs
  unfold State.idleSync
  dsimp only
  repeat' first
    | (with_reducible exact Within.refl _ _)
    | (with_reducible refine Within.ite (fun _ => ?_) (fun _ => ?_))
    | (simp only [Within.lit]; with_reducible refine Within.upd ?_ rfl (fun k hk => ?_))
    | (cases k <;> first | (exact absurd (by decide) hk) | rfl)

theorem State.vaultWakes_within {L : List Comp} {σ : State} (s : State) (code : Nat) (h0 : Within L σ s) (hs : compsIn [.pwr] L = true) : Within L σ
    (State.vaultWakes s code) := by
  refine Within.comp ?_ hs h0
  clear h0 hs
  unfold State.vaultWakes
  dsimp only
  repeat' first
    | (with_reducible exact Within.refl _ _)
    | (with_reducible apply State.vaultLeave_within)
    | ((with_reducible show compsIn _ _ = true); rfl)
    | (with_reducible refine Within.ite (fun _ => ?_) (fun _ => ?_))
    | (simp only [Within.lit]; with_reducible refine Within.upd ?_ rfl (fun k hk => ?_))
    | (cases k <;> first | (exact absurd (by decide) hk) | rfl)

theorem State.srchWriter_within {L : List Comp} {σ : State} (s : State) (p : Nat) (ok : State) (h0 : Within L σ s) (hok : Within L σ ok) (hs : compsIn
    [.regs] L = true) : Within L σ (State.srchWriter s p ok) := by
  unfold State.srchWriter
  repeat' first
    | (with_reducible assumption)
    | (with_reducible apply State.only0_within)

theorem State.flagIf_within {L : List Comp} {σ : State} (s : State) (bad : Bool) (k : Nat) (f : Fld) (h0 : Within L σ s) (hs : compsIn [.regs] L =
    true) : Within L σ (State.flagIf s bad k f) := by
  refine Within.comp ?_ hs h0
  clear h0 hs
  unfold State.flagIf
  repeat' first
    | (with_reducible exact Within.refl _ _)
    | (with_reducible apply State.err_within)
    | ((with_reducible show compsIn _ _ = true); rfl)
    | (with_reducible refine Within.ite (fun _ => ?_) (fun _ => ?_))

theorem State.lpSync_within {L : List Comp} {σ : State} (s : State) (h0 : Within L σ s) (hs : compsIn [.regs] L = true) : Within L σ (State.lpSync s)
    := by
  refine Within.comp ?_ hs h0
  clear h0 hs
  unfold State.lpSync
  dsimp only
  repeat' first
    | (with_reducible exact Within.refl _ _)
    | (with_reducible apply State.setFld_within)
    | ((with_reducible show compsIn _ _ = true); rfl)

theorem State.setLpWord_within {L : List Comp} {σ : State} (s : State) (p w : Nat) (v : Word) (h0 : Within L σ s) (hs : compsIn [.rx] L = true) :
    Within L σ (State.setLpWord s p w v) := by
  refine Within.comp ?_ hs h0
  clear h0 hs
  unfold State.setLpWord
  dsimp only
  repeat' first
    | (with_reducible exact Within.refl _ _)
    | (simp only [Within.lit]; with_reducible refine Within.upd ?_ rfl (fun k hk => ?_))
    | (cases k <;> first | (exact absurd (by decide) hk) | rfl)

theorem State.lpEnable_within {L : List Comp} {σ : State} (s : State) (p : Nat) (w0 w1 : Word) (h0 : Within L σ s) (hs : compsIn [.regs, .rx] L =
    true) : Within L σ (State.lpEnable s p w0 w1) := by
  refine Within.comp ?_ hs h0
  clear h0 hs
  unfold State.lpEnable
  dsimp only
  repeat' first
    | (with_reducible exact Within.refl _ _)
    | (with_reducible apply State.flagIf_within)
    | (with_reducible apply State.lpSync_within)
    | (with_reducible apply State.setLpWord_within)
    | ((with_reducible show compsIn _ _ = true); rfl)
    | (with_reducible refine Within.ite (fun _ => ?_) (fun _ => ?_))

theorem State.lpNext_within {L : List Comp} {σ : State} (s : State) (h0 : Within L σ s) (hs : compsIn [.regs] L = true) : Within L σ (State.lpNext s)
    := by
  refine Within.comp ?_ hs h0
  clear h0 hs
  unfold State.lpNext
  repeat' first
    | (with_reducible exact Within.refl _ _)
    | (with_reducible apply State.setFld_within)
    | ((with_reducible show compsIn _ _ = true); rfl)
    | (with_reducible refine Within.ite (fun _ => ?_) (fun _ => ?_))

theorem State.lpWrite_within {L : List Comp} {σ : State} (s : State) (part : Nat) (data : Word) (h0 : Within L σ s) (hs : compsIn [.regs, .rx] L =
    true) : Within L σ (State.lpWrite s part data) := by
  refine Within.comp ?_ hs h0
  clear h0 hs
  unfold State.lpWrite
  dsimp only
  repeat' first
    | (with_reducible exact Within.refl _ _)
    | (with_reducible apply State.err_within)
    | (with_reducible apply State.lpEnable_within)
    | (with_reducible apply State.lpNext_within)
    | (with_reducible apply State.lpSync_within)
    | (with_reducible apply State.setLpWord_within)
    | (with_reducible apply State.srchWriter_within)
    | ((with_reducible show compsIn _ _ = true); rfl)
    | (with_reducible refine Within.ite (fun _ => ?_) (fun _ => ?_))

theorem State.lpRead_within {L : List Comp} {σ : State} (s : State) (part : Nat) (h0 : Within L σ s) (hs : compsIn [.regs, .host] L = true) : Within L
    σ (State.lpRead s part) := by
  refine Within.comp ?_ hs h0
  clear h0 hs
  unfold State.lpRead
  dsimp only
  repeat' first
    | (with_reducible exact Within.refl _ _)
    | (with_reducible apply State.answer_within)
    | (with_reducible apply State.lpNext_within)
    | (with_reducible apply State.wr_within)
    | ((with_reducible show compsIn _ _ = true); rfl)

theorem State.profileWrite_within {L : List Comp} {σ : State} (s : State) (part : Nat) (data : Word) (h0 : Within L σ s) (hs : compsIn [.regs,
    .rx] L = true) : Within L σ (State.profileWrite s part data) := by
  refine Within.comp ?_ hs h0
  clear h0 hs
  unfold State.profileWrite
  dsimp only
  repeat' first
    | (with_reducible exact Within.refl _ _)
    | (with_reducible apply State.err_within)
    | (with_reducible apply State.srchWriter_within)
    | ((with_reducible show compsIn _ _ = true); rfl)
    | (with_reducible refine Within.ite (fun _ => ?_) (fun _ => ?_))
    | (simp only [Within.lit]; with_reducible refine Within.upd ?_ rfl (fun k hk => ?_))
    | (cases k <;> first | (exact absurd (by decide) hk) | rfl)

theorem State.stat_within {L : List Comp} {σ : State} (s : State) (p i : Nat) (h0 : Within L σ s) (hs : compsIn [.rx] L = true) : Within L σ
    (State.stat s p i) := by
  refine Within.comp ?_ hs h0
  clear h0 hs
  unfold State.stat
  dsimp only
  repeat' first
    | (with_reducible exact Within.refl _ _)
    | (with_reducible refine Within.ite (fun _ => ?_) (fun _ => ?_))
    | (simp only [Within.lit]; with_reducible refine Within.upd ?_ rfl (fun k hk => ?_))
    | (cases k <;> first | (exact absurd (by decide) hk) | rfl)

theorem State.statRead_within {L : List Comp} {σ : State} (s : State) (part : Nat) (h0 : Within L σ s) (hs : compsIn [.host, .rx] L = true) : Within L
    σ (State.statRead s part) := by
  refine Within.comp ?_ hs h0
  clear h0 hs
  unfold State.statRead
  dsimp only
  repeat' first
    | (with_reducible exact Within.refl _ _)
    | (with_reducible apply State.answer_within)
    | ((with_reducible show compsIn _ _ = true); rfl)
    | (with_reducible refine Within.ite (fun _ => ?_) (fun _ => ?_))
    | (simp only [Within.lit]; with_reducible refine Within.upd ?_ rfl (fun k hk => ?_))
    | (cases k <;> first | (exact absurd (by decide) hk) | rfl)

theorem State.laneCfg_within {L : List Comp} {σ : State} (s : State) (part : Nat) (data : Word) (h0 : Within L σ s) (hs : compsIn [.regs] L =
    true) : Within L σ (State.laneCfg s part data) := by
  refine Within.comp ?_ hs h0
  clear h0 hs
  unfold State.laneCfg
  repeat' first
    | (with_reducible exact Within.refl _ _)
    | (with_reducible apply State.capSync_within)
    | (with_reducible apply State.srchWriter_within)
    | (with_reducible apply State.wr_within)
    | ((with_reducible show compsIn _ _ = true); rfl)

theorem State.detNew_within {L : List Comp} {σ : State} (s : State) (d : Detection) (h0 : Within L σ s) (hs : compsIn [.rx] L = true) : Within L σ
    (State.detNew s d) := by
  refine Within.comp ?_ hs h0
  clear h0 hs
  unfold State.detNew
  dsimp only
  repeat' first
    | (with_reducible exact Within.refl _ _)
    | (with_reducible apply State.stat_within)
    | ((with_reducible show compsIn _ _ = true); rfl)
    | (simp only [Within.lit]; with_reducible refine Within.upd ?_ rfl (fun k hk => ?_))
    | (cases k <;> first | (exact absurd (by decide) hk) | rfl)

theorem State.detLater_within {L : List Comp} {σ : State} (s : State) (d : Detection) (f : FirstDet) (h0 : Within L σ s) (hs : compsIn [.regs,
    .rx] L = true) : Within L σ (State.detLater s d f) := by
  refine Within.comp ?_ hs h0
  clear h0 hs
  unfold State.detLater
  dsimp only
  repeat' first
    | (with_reducible exact Within.refl _ _)
    | (with_reducible apply State.setLane_within)
    | (with_reducible apply State.stat_within)
    | ((with_reducible show compsIn _ _ = true); rfl)
    | (with_reducible refine Within.ite (fun _ => ?_) (fun _ => ?_))
    | (simp only [Within.lit]; with_reducible refine Within.upd ?_ rfl (fun k hk => ?_))
    | (cases k <;> first | (exact absurd (by decide) hk) | rfl)
    | split

theorem State.detLost_within {L : List Comp} {σ : State} (s : State) (d : Det) (h0 : Within L σ s) (hs : compsIn [.rx] L = true) : Within L σ
    (State.detLost s d) := by
  refine Within.comp ?_ hs h0
  clear h0 hs
  unfold State.detLost
  dsimp only
  repeat' first
    | (with_reducible exact Within.refl _ _)
    | (simp only [Within.lit]; with_reducible refine Within.upd ?_ rfl (fun k hk => ?_))
    | (cases k <;> first | (exact absurd (by decide) hk) | rfl)

theorem State.noLane_within {L : List Comp} {σ : State} (s : State) (d : Det) (h0 : Within L σ s) (hs : compsIn [.regs, .rx] L = true) : Within L σ
    (State.noLane s d) := by
  refine Within.comp ?_ hs h0
  clear h0 hs
  unfold State.noLane
  repeat' first
    | (with_reducible exact Within.refl _ _)
    | (with_reducible apply State.bump_within)
    | (with_reducible apply State.detLost_within)
    | ((with_reducible show compsIn _ _ = true); rfl)

theorem State.commit_within {L : List Comp} {σ : State} (s : State) (d : Det) (reserve : Bool) (h0 : Within L σ s) (hs : compsIn [.regs, .pwr,
    .rx] L = true) : Within L σ (State.commit s d reserve) := by
  refine Within.comp ?_ hs h0
  clear h0 hs
  unfold State.commit
  dsimp only
  repeat' first
    | (with_reducible exact Within.refl _ _)
    | (with_reducible apply State.bump_within)
    | (with_reducible apply State.noLane_within)
    | (with_reducible apply State.setLane_within)
    | (with_reducible apply State.ungate_within)
    | ((with_reducible show compsIn _ _ = true); rfl)
    | (with_reducible refine Within.ite (fun _ => ?_) (fun _ => ?_))
    | (simp only [Within.lit]; with_reducible refine Within.upd ?_ rfl (fun k hk => ?_))
    | (cases k <;> first | (exact absurd (by decide) hk) | rfl)
    | split

theorem State.preempt_within {L : List Comp} {σ : State} (s : State) (l : Nat) (d : Det) (h0 : Within L σ s) (hs : compsIn [.regs, .rx] L = true)
    : Within L σ (State.preempt s l d) := by
  refine Within.comp ?_ hs h0
  clear h0 hs
  unfold State.preempt
  dsimp only
  repeat' first
    | (with_reducible exact Within.refl _ _)
    | (with_reducible apply State.bump_within)
    | (with_reducible apply State.setLane_within)
    | (with_reducible apply State.stat_within)
    | ((with_reducible show compsIn _ _ = true); rfl)

theorem State.handle_within {L : List Comp} {σ : State} (s : State) (d : Det) (h0 : Within L σ s) (hs : compsIn [.regs, .pwr, .rx] L = true) : Within
    L σ (State.handle s d) := by
  refine Within.comp ?_ hs h0
  clear h0 hs
  unfold State.handle
  dsimp only
  repeat' first
    | (with_reducible exact Within.refl _ _)
    | (with_reducible apply State.bump_within)
    | (with_reducible apply State.commit_within)
    | (with_reducible apply State.detLost_within)
    | (with_reducible apply State.noLane_within)
    | (with_reducible apply State.preempt_within)
    | (with_reducible apply State.stat_within)
    | ((with_reducible show compsIn _ _ = true); rfl)
    | (with_reducible refine Within.ite (fun _ => ?_) (fun _ => ?_))
    | split

theorem State.statSet_within {L : List Comp} {σ : State} (s : State) (p i : Nat) (v : Word) (h0 : Within L σ s) (hs : compsIn [.rx] L = true) : Within
    L σ (State.statSet s p i v) := by
  refine Within.comp ?_ hs h0
  clear h0 hs
  unfold State.statSet
  dsimp only
  repeat' first
    | (with_reducible exact Within.refl _ _)
    | (with_reducible refine Within.ite (fun _ => ?_) (fun _ => ?_))
    | (simp only [Within.lit]; with_reducible refine Within.upd ?_ rfl (fun k hk => ?_))
    | (cases k <;> first | (exact absurd (by decide) hk) | rfl)

theorem State.rfWriter_within {L : List Comp} {σ : State} (s : State) (p : Nat) (ok : State) (h0 : Within L σ s) (hok : Within L σ ok) (hs : compsIn
    [.regs] L = true) : Within L σ (State.rfWriter s p ok) := by
  unfold State.rfWriter
  repeat' first
    | (with_reducible assumption)
    | (with_reducible apply State.only0_within)

theorem State.bandPlan_within {L : List Comp} {σ : State} (s : State) (p : Nat) (data : Word) (h0 : Within L σ s) (hs : compsIn [.regs] L = true)
    : Within L σ (State.bandPlan s p data) := by
  refine Within.comp ?_ hs h0
  clear h0 hs
  unfold State.bandPlan
  repeat' first
    | (with_reducible exact Within.refl _ _)
    | (with_reducible apply State.err_within)
    | (with_reducible apply State.rfWriter_within)
    | (with_reducible apply State.wr_within)
    | ((with_reducible show compsIn _ _ = true); rfl)
    | (with_reducible refine Within.ite (fun _ => ?_) (fun _ => ?_))

theorem State.lweSync_within {L : List Comp} {σ : State} (s : State) (h0 : Within L σ s) (hs : compsIn [.regs] L = true) : Within L σ (State.lweSync
    s) := by
  refine Within.comp ?_ hs h0
  clear h0 hs
  unfold State.lweSync
  repeat' first
    | (with_reducible exact Within.refl _ _)
    | (with_reducible apply State.setFld_within)
    | ((with_reducible show compsIn _ _ = true); rfl)

theorem State.capacity_within {L : List Comp} {σ : State} (s t : State) (ok : State → State) (h0 : Within L σ s) (ht : Within L σ t) (hok : ∀ u , Within L
    σ u → Within L σ (ok u )) (hs : compsIn [.regs] L = true) : Within L σ (State.capacity s t ok) := by
  unfold State.capacity
  repeat' first
    | (with_reducible assumption)
    | (with_reducible apply hok)
    | (with_reducible apply State.err_within)
    | (with_reducible apply State.lweSync_within)
    | (with_reducible refine Within.ite (fun _ => ?_) (fun _ => ?_))

theorem State.lpRecheck_within {L : List Comp} {σ : State} (s : State) (a : Nat) (h0 : Within L σ s) (hs : compsIn [.regs, .rx] L = true) : Within L σ
    (State.lpRecheck s a) := by
  refine Within.comp ?_ hs h0
  clear h0 hs
  unfold State.lpRecheck
  dsimp only
  repeat' first
    | (with_reducible exact Within.refl _ _)
    | (with_reducible assumption)
    | (with_reducible apply State.err_within)
    | (with_reducible apply State.lpSync_within)
    | (with_reducible apply State.setLpWord_within)
    | ((with_reducible show compsIn _ _ = true); rfl)
    | (with_reducible refine Within.ite (fun _ => ?_) (fun _ => ?_))
    | (with_reducible refine Within.foldl ?_ (fun _ _ _ => ?_))

theorem State.abandon_within {L : List Comp} {σ : State} (s : State) (l : Nat) (h0 : Within L σ s) (hs : compsIn [.regs, .rx] L = true) : Within L σ
    (State.abandon s l) := by
  refine Within.comp ?_ hs h0
  clear h0 hs
  unfold State.abandon
  repeat' first
    | (with_reducible exact Within.refl _ _)
    | (with_reducible apply State.freeLane_within)
    | (with_reducible apply State.stat_within)
    | ((with_reducible show compsIn _ _ = true); rfl)

theorem State.beamOff_within {L : List Comp} {σ : State} (s : State) (b : Nat) (h0 : Within L σ s) (hs : compsIn [.regs, .free, .pass, .host,
    .safe, .log, .cvn, .cvnIds, .air, .qmg, .rf, .rx, .link, .slot, .key, .vault, .mesh] L = true) : Within L σ (State.beamOff s b) := by
  refine Within.comp ?_ hs h0
  clear h0 hs
  unfold State.beamOff
  dsimp only
  repeat' first
    | (with_reducible exact Within.refl _ _)
    | (with_reducible assumption)
    | (with_reducible apply State.abandon_within)
    | (with_reducible apply State.withdraw_within)
    | ((with_reducible show compsIn _ _ = true); rfl)
    | (with_reducible refine Within.foldl ?_ (fun _ _ _ => ?_))
    | (simp only [Within.lit]; with_reducible refine Within.upd ?_ rfl (fun k hk => ?_))
    | (cases k <;> first | (exact absurd (by decide) hk) | rfl)

theorem State.calRequest_within {L : List Comp} {σ : State} (s : State) (a : Nat) (h0 : Within L σ s) (hs : compsIn [.rf] L = true) : Within L σ
    (State.calRequest s a) := by
  refine Within.comp ?_ hs h0
  clear h0 hs
  unfold State.calRequest
  dsimp only
  repeat' first
    | (with_reducible exact Within.refl _ _)
    | (with_reducible refine Within.ite (fun _ => ?_) (fun _ => ?_))
    | (simp only [Within.lit]; with_reducible refine Within.upd ?_ rfl (fun k hk => ?_))
    | (cases k <;> first | (exact absurd (by decide) hk) | rfl)

theorem State.calStale_within {L : List Comp} {σ : State} (s : State) (a cause : Nat) (h0 : Within L σ s) (hs : compsIn [.regs, .pass] L = true) :
    Within L σ (State.calStale s a cause) := by
  refine Within.comp ?_ hs h0
  clear h0 hs
  unfold State.calStale
  dsimp only
  repeat' first
    | (with_reducible exact Within.refl _ _)
    | (with_reducible apply State.evtF_within)
    | (with_reducible apply State.setFld_within)
    | ((with_reducible show compsIn _ _ = true); rfl)
    | (with_reducible refine Within.ite (fun _ => ?_) (fun _ => ?_))

theorem State.arrOff_within {L : List Comp} {σ : State} (s : State) (a : Nat) (cfg : Word) (h0 : Within L σ s) (hs : compsIn [.regs, .free, .pass,
    .host, .safe, .log, .cvn, .cvnIds, .air, .qmg, .rf, .rx, .link, .slot, .key, .vault, .mesh] L = true) : Within L σ (State.arrOff s a cfg)
    := by
  refine Within.comp ?_ hs h0
  clear h0 hs
  unfold State.arrOff
  dsimp only
  repeat' first
    | (with_reducible exact Within.refl _ _)
    | (with_reducible assumption)
    | (with_reducible apply State.beamOff_within)
    | (with_reducible apply State.lweSync_within)
    | (with_reducible apply State.wr_within)
    | ((with_reducible show compsIn _ _ = true); rfl)
    | (with_reducible refine Within.foldl ?_ (fun _ _ _ => ?_))
    | (simp only [Within.lit]; with_reducible refine Within.upd ?_ rfl (fun k hk => ?_))
    | (cases k <;> first | (exact absurd (by decide) hk) | rfl)

theorem State.arrCfg_within {L : List Comp} {σ : State} (s : State) (p a : Nat) (data : Word) (h0 : Within L σ s) (hs : compsIn [.regs, .free,
    .pass, .host, .safe, .log, .cvn, .cvnIds, .air, .qmg, .rf, .rx, .link, .slot, .key, .vault, .mesh] L = true) : Within L σ (State.arrCfg s
    p a data) := by
  refine Within.comp ?_ hs h0
  clear h0 hs
  unfold State.arrCfg
  dsimp only
  repeat' first
    | (with_reducible exact Within.refl _ _)
    | (with_reducible assumption)
    | (with_reducible apply State.arrOff_within)
    | (with_reducible apply State.calRequest_within)
    | (with_reducible apply State.capacity_within)
    | (with_reducible apply State.err_within)
    | (with_reducible apply State.lpRecheck_within)
    | (with_reducible apply State.rfWriter_within)
    | (with_reducible apply State.setFld_within)
    | (with_reducible apply State.wr_within)
    | ((with_reducible show compsIn _ _ = true); rfl)
    | (with_reducible refine Within.ite (fun _ => ?_) (fun _ => ?_))
    | (simp only [id]; assumption)
    | (intro _)

theorem State.winWrite_within {L : List Comp} {σ : State} (s : State) (p a w : Nat) (data : Word) (h0 : Within L σ s) (hs : compsIn [.regs] L =
    true) : Within L σ (State.winWrite s p a w data) := by
  refine Within.comp ?_ hs h0
  clear h0 hs
  unfold State.winWrite
  repeat' first
    | (with_reducible exact Within.refl _ _)
    | (with_reducible apply State.err_within)
    | (with_reducible apply State.rfWriter_within)
    | (with_reducible apply State.wr_within)
    | ((with_reducible show compsIn _ _ = true); rfl)
    | (with_reducible refine Within.ite (fun _ => ?_) (fun _ => ?_))

theorem State.blankHit_within {L : List Comp} {σ : State} (s t : State) (h0 : Within L σ s) (ht : Within L σ t) (hs : compsIn [.regs, .rx] L = true) :
    Within L σ (State.blankHit s t) := by
  unfold State.blankHit
  dsimp only
  repeat' first
    | (with_reducible assumption)
    | (with_reducible apply State.abandon_within)
    | (with_reducible apply State.bump_within)
    | (with_reducible apply State.stat_within)
    | (exact compsIn_trans (m := [.regs, .rx]) rfl hs)
    | (with_reducible refine Within.foldl ?_ (fun _ _ _ => ?_))
    | (simp only [Within.lit]; with_reducible refine Within.upd ?_ rfl (fun k hk => ?_))
    | (cases k <;> first | (exact absurd (compsIn_mem hs (by decide)) hk) | rfl)

theorem State.blankWrite_within {L : List Comp} {σ : State} (s : State) (p a : Nat) (data : Word) (h0 : Within L σ s) (hs : compsIn [.regs, .rx] L
    = true) : Within L σ (State.blankWrite s p a data) := by
  refine Within.comp ?_ hs h0
  clear h0 hs
  unfold State.blankWrite
  repeat' first
    | (with_reducible exact Within.refl _ _)
    | (with_reducible apply State.blankHit_within)
    | (with_reducible apply State.rfWriter_within)
    | (with_reducible apply State.wr_within)
    | ((with_reducible show compsIn _ _ = true); rfl)

theorem State.beamCfg_within {L : List Comp} {σ : State} (s : State) (p b : Nat) (data : Word) (h0 : Within L σ s) (hs : compsIn [.regs, .free,
    .pass, .host, .safe, .log, .cvn, .cvnIds, .air, .qmg, .rf, .rx, .link, .slot, .key, .vault, .mesh] L = true) : Within L σ (State.beamCfg s
    p b data) := by
  refine Within.comp ?_ hs h0
  clear h0 hs
  unfold State.beamCfg
  dsimp only
  repeat' first
    | (with_reducible exact Within.refl _ _)
    | (with_reducible assumption)
    | (with_reducible apply State.beamOff_within)
    | (with_reducible apply State.capacity_within)
    | (with_reducible apply State.err_within)
    | (with_reducible apply State.rfWriter_within)
    | (with_reducible apply State.wr_within)
    | ((with_reducible show compsIn _ _ = true); rfl)
    | (with_reducible refine Within.ite (fun _ => ?_) (fun _ => ?_))
    | (intro _)

theorem State.waddrNext_within {L : List Comp} {σ : State} (s : State) (h0 : Within L σ s) (hs : compsIn [.regs] L = true) : Within L σ
    (State.waddrNext s) := by
  refine Within.comp ?_ hs h0
  clear h0 hs
  unfold State.waddrNext
  dsimp only
  repeat' first
    | (with_reducible exact Within.refl _ _)
    | (with_reducible apply State.setFld_within)
    | ((with_reducible show compsIn _ _ = true); rfl)
    | (with_reducible refine Within.ite (fun _ => ?_) (fun _ => ?_))

theorem State.waddrWrite_within {L : List Comp} {σ : State} (s : State) (p : Nat) (data : Word) (h0 : Within L σ s) (hs : compsIn [.regs] L =
    true) : Within L σ (State.waddrWrite s p data) := by
  refine Within.comp ?_ hs h0
  clear h0 hs
  unfold State.waddrWrite
  repeat' first
    | (with_reducible exact Within.refl _ _)
    | (with_reducible apply State.rfWriter_within)
    | (with_reducible apply State.wr_within)
    | ((with_reducible show compsIn _ _ = true); rfl)

theorem State.weightWrite_within {L : List Comp} {σ : State} (s : State) (p : Nat) (data : Word) (h0 : Within L σ s) (hs : compsIn [.regs, .rf] L
    = true) : Within L σ (State.weightWrite s p data) := by
  refine Within.comp ?_ hs h0
  clear h0 hs
  unfold State.weightWrite
  dsimp only
  repeat' first
    | (with_reducible exact Within.refl _ _)
    | (with_reducible apply State.err_within)
    | (with_reducible apply State.rfWriter_within)
    | (with_reducible apply State.waddrNext_within)
    | ((with_reducible show compsIn _ _ = true); rfl)
    | (with_reducible refine Within.ite (fun _ => ?_) (fun _ => ?_))
    | (simp only [Within.lit]; with_reducible refine Within.upd ?_ rfl (fun k hk => ?_))
    | (cases k <;> first | (exact absurd (by decide) hk) | rfl)

theorem State.weightRead_within {L : List Comp} {σ : State} (s : State) (p : Nat) (h0 : Within L σ s) (hs : compsIn [.regs, .host] L = true) : Within
    L σ (State.weightRead s p) := by
  refine Within.comp ?_ hs h0
  clear h0 hs
  unfold State.weightRead
  dsimp only
  repeat' first
    | (with_reducible exact Within.refl _ _)
    | (with_reducible apply State.answer_within)
    | (with_reducible apply State.waddrNext_within)
    | ((with_reducible show compsIn _ _ = true); rfl)

theorem State.weightCommit_within {L : List Comp} {σ : State} (s : State) (p : Nat) (data : Word) (h0 : Within L σ s) (hs : compsIn [.regs] L =
    true) : Within L σ (State.weightCommit s p data) := by
  refine Within.comp ?_ hs h0
  clear h0 hs
  unfold State.weightCommit
  repeat' first
    | (with_reducible exact Within.refl _ _)
    | (with_reducible apply State.rfWriter_within)
    | (with_reducible apply State.setFld_within)
    | ((with_reducible show compsIn _ _ = true); rfl)
    | (with_reducible refine Within.ite (fun _ => ?_) (fun _ => ?_))

theorem State.weightSwap_within {L : List Comp} {σ : State} (s : State) (h0 : Within L σ s) (hs : compsIn [.regs, .rf] L = true) : Within L σ
    (State.weightSwap s) := by
  refine Within.comp ?_ hs h0
  clear h0 hs
  unfold State.weightSwap
  dsimp only
  repeat' first
    | (with_reducible exact Within.refl _ _)
    | (with_reducible apply State.setFld_within)
    | ((with_reducible show compsIn _ _ = true); rfl)
    | (with_reducible refine Within.ite (fun _ => ?_) (fun _ => ?_))
    | (simp only [Within.lit]; with_reducible refine Within.upd ?_ rfl (fun k hk => ?_))
    | (cases k <;> first | (exact absurd (by decide) hk) | rfl)

theorem State.calCtrl_within {L : List Comp} {σ : State} (s : State) (p : Nat) (data : Word) (h0 : Within L σ s) (hs : compsIn [.regs, .rf] L =
    true) : Within L σ (State.calCtrl s p data) := by
  refine Within.comp ?_ hs h0
  clear h0 hs
  unfold State.calCtrl
  dsimp only
  repeat' first
    | (with_reducible exact Within.refl _ _)
    | (with_reducible assumption)
    | (with_reducible apply State.calRequest_within)
    | (with_reducible apply State.rfWriter_within)
    | (with_reducible apply State.wr_within)
    | ((with_reducible show compsIn _ _ = true); rfl)
    | (with_reducible refine Within.ite (fun _ => ?_) (fun _ => ?_))
    | (with_reducible refine Within.foldl ?_ (fun _ _ _ => ?_))

theorem State.cxQuot_within {L : List Comp} {σ : State} (s : State) (x y : Cx) (h0 : Within L σ s) (hs : compsIn [.free] L = true) : Within L σ
    (State.cxQuot s x y).2 := by
  refine Within.comp ?_ hs h0
  clear h0 hs
  unfold State.cxQuot
  dsimp only
  repeat' first
    | (with_reducible exact Within.refl _ _)
    | (with_reducible apply State.free!_within)
    | ((with_reducible show compsIn _ _ = true); rfl)
    | (with_reducible refine Within.ite2 (fun _ => ?_) (fun _ => ?_))

theorem State.calPut_within {L : List Comp} {σ : State} (s : State) (a : Nat) (rx tx : Nat → Nat → Cx) (e : Nat × Nat) (h0 : Within L σ s) (hs :
    compsIn [.free, .rf] L = true) : Within L σ (State.calPut s a rx tx e) := by
  refine Within.comp ?_ hs h0
  clear h0 hs
  unfold State.calPut
  dsimp only
  repeat' first
    | (with_reducible exact Within.refl _ _)
    | (with_reducible apply State.cxQuot_within)
    | ((with_reducible show compsIn _ _ = true); rfl)
    | (with_reducible refine Within.ite (fun _ => ?_) (fun _ => ?_))
    | (simp only [Within.lit]; with_reducible refine Within.upd ?_ rfl (fun k hk => ?_))
    | (cases k <;> first | (exact absurd (by decide) hk) | rfl)

theorem State.cvnSettle_within {L : List Comp} {σ : State} (s : State) (h0 : Within L σ s) (hs : compsIn [.regs, .pass, .host, .cvn, .cvnIds,
    .air, .qmg, .link] L = true) : Within L σ (State.cvnSettle s) := by
  refine Within.comp ?_ hs h0
  clear h0 hs
  unfold State.cvnSettle
  dsimp only
  repeat' first
    | (with_reducible exact Within.refl _ _)
    | (with_reducible assumption)
    | (with_reducible apply State.cvnEnd_within)
    | (with_reducible apply State.imgEnd_within)
    | ((with_reducible show compsIn _ _ = true); rfl)
    | (with_reducible refine Within.ite (fun _ => ?_) (fun _ => ?_))
    | (with_reducible refine Within.foldl ?_ (fun _ _ _ => ?_))

theorem State.lpmSync_within {L : List Comp} {σ : State} (s : State) (h0 : Within L σ s) (hs : compsIn [.regs] L = true) : Within L σ (State.lpmSync
    s) := by
  refine Within.comp ?_ hs h0
  clear h0 hs
  unfold State.lpmSync
  dsimp only
  repeat' first
    | (with_reducible exact Within.refl _ _)
    | (with_reducible assumption)
    | (with_reducible apply State.setFld_within)
    | (with_reducible apply State.wr_within)
    | ((with_reducible show compsIn _ _ = true); rfl)
    | (with_reducible refine Within.foldl ?_ (fun _ _ _ => ?_))

theorem State.setPrefixes_within {L : List Comp} {σ : State} (s : State) (l : List (Nat × Prefix)) (h0 : Within L σ s) (hs : compsIn [.regs, .lpm]
    L = true) : Within L σ (State.setPrefixes s l) := by
  refine Within.comp ?_ hs h0
  clear h0 hs
  unfold State.setPrefixes
  dsimp only
  repeat' first
    | (with_reducible exact Within.refl _ _)
    | (with_reducible apply State.lpmSync_within)
    | ((with_reducible show compsIn _ _ = true); rfl)
    | (simp only [Within.lit]; with_reducible refine Within.upd ?_ rfl (fun k hk => ?_))
    | (cases k <;> first | (exact absurd (by decide) hk) | rfl)

theorem State.cmdTake_within {L : List Comp} {σ : State} (s : State) (c : CmdDesc) (h0 : Within L σ s) (hs : compsIn [.cmds] L = true) : Within L σ
    (State.cmdTake s c) := by
  refine Within.comp ?_ hs h0
  clear h0 hs
  unfold State.cmdTake
  repeat' first
    | (with_reducible exact Within.refl _ _)
    | (simp only [Within.lit]; with_reducible refine Within.upd ?_ rfl (fun k hk => ?_))
    | (cases k <;> first | (exact absurd (by decide) hk) | rfl)

theorem State.prefixRun_within {L : List Comp} {σ : State} (s : State) (c : CmdDesc) (f : State → State) (h0 : Within L σ s) (hf : ∀ u , Within L σ u
    → Within L σ (f u )) (hs : compsIn [.pass, .cmds, .ends] L = true) : Within L σ (State.prefixRun s c f) := by
  unfold State.prefixRun
  repeat' first
    | (with_reducible assumption)
    | (with_reducible apply hf)
    | (with_reducible apply State.cmdBad_within)
    | (with_reducible apply State.cmdTake_within)
    | (exact compsIn_trans (m := [.pass, .cmds, .ends]) rfl hs)
    | (with_reducible refine Within.ite (fun _ => ?_) (fun _ => ?_))

theorem State.filterCheck_within {L : List Comp} {σ : State} (s : State) (h0 : Within L σ s) (hs : compsIn [.lpm] L = true) : Within L σ
    (State.filterCheck s) := by
  refine Within.comp ?_ hs h0
  clear h0 hs
  unfold State.filterCheck
  dsimp only
  repeat' first
    | (with_reducible exact Within.refl _ _)
    | (with_reducible refine Within.ite (fun _ => ?_) (fun _ => ?_))
    | (simp only [Within.lit]; with_reducible refine Within.upd ?_ rfl (fun k hk => ?_))
    | (cases k <;> first | (exact absurd (by decide) hk) | rfl)

theorem State.lpmModeWrite_within {L : List Comp} {σ : State} (s : State) (p : Nat) (data : Word) (h0 : Within L σ s) (hs : compsIn [.regs, .pass,
    .host, .safe, .log, .cvn, .cvnIds, .air, .qmg, .rf, .link, .lpm] L = true) : Within L σ (State.lpmModeWrite s p data) := by
  refine Within.comp ?_ hs h0
  clear h0 hs
  unfold State.lpmModeWrite
  dsimp only
  repeat' first
    | (with_reducible exact Within.refl _ _)
    | (with_reducible assumption)
    | (with_reducible apply State.err_within)
    | (with_reducible apply State.guarded_within)
    | (with_reducible apply State.lpmSync_within)
    | (with_reducible apply State.setFld_within)
    | ((with_reducible show compsIn _ _ = true); rfl)
    | (with_reducible refine Within.ite (fun _ => ?_) (fun _ => ?_))
    | (simp only [Within.lit]; with_reducible refine Within.upd ?_ rfl (fun k hk => ?_))
    | (cases k <;> first | (exact absurd (by decide) hk) | rfl)
    | (intro _)

theorem State.setFlood_within {L : List Comp} {σ : State} (s : State) (x : Flood) (h0 : Within L σ s) (hs : compsIn [.mesh] L = true) : Within L σ
    (State.setFlood s x) := by
  refine Within.comp ?_ hs h0
  clear h0 hs
  unfold State.setFlood
  dsimp only
  repeat' first
    | (with_reducible exact Within.refl _ _)
    | (simp only [Within.lit]; with_reducible refine Within.upd ?_ rfl (fun k hk => ?_))
    | (cases k <;> first | (exact absurd (by decide) hk) | rfl)

theorem State.floodMute_within {L : List Comp} {σ : State} (s : State) (o : Origin) (sent : Bool) (h0 : Within L σ s) (hs : compsIn [.free, .pass,
    .cvn] L = true) : Within L σ (State.floodMute s o sent) := by
  refine Within.comp ?_ hs h0
  clear h0 hs
  unfold State.floodMute
  dsimp only
  repeat' first
    | (with_reducible exact Within.refl _ _)
    | (with_reducible apply State.cvnFloodEnd_within)
    | (with_reducible apply State.draw_within)
    | (with_reducible apply State.txDone_within)
    | ((with_reducible show compsIn _ _ = true); rfl)
    | (with_reducible refine Within.ite (fun _ => ?_) (fun _ => ?_))
    | split

theorem State.floodEnd_within {L : List Comp} {σ : State} (s : State) (x : Flood) (h0 : Within L σ s) (hs : compsIn [.regs, .free, .pass, .cvn,
    .qmg, .mesh] L = true) : Within L σ (State.floodEnd s x) := by
  refine Within.comp ?_ hs h0
  clear h0 hs
  unfold State.floodEnd
  dsimp only
  repeat' first
    | (with_reducible exact Within.refl _ _)
    | (with_reducible apply State.floodMute_within)
    | (with_reducible apply State.freeChain_within)
    | (with_reducible apply State.setFlood_within)
    | ((with_reducible show compsIn _ _ = true); rfl)
    | (with_reducible refine Within.ite (fun _ => ?_) (fun _ => ?_))
    | (simp only [Within.lit]; with_reducible refine Within.upd ?_ rfl (fun k hk => ?_))
    | (cases k <;> first | (exact absurd (by decide) hk) | rfl)
    | split

theorem State.floodSend_within {L : List Comp} {σ : State} (s : State) (x : Flood) (h0 : Within L σ s) (hs : compsIn [.regs, .pass, .host, .time,
    .safe, .log, .cvn, .cvnIds, .air, .qmg, .shp, .rf, .rx, .link, .key, .vault, .mesh] L = true) : Within L σ (State.floodSend s x) := by
  refine Within.comp ?_ hs h0
  clear h0 hs
  unfold State.floodSend
  dsimp only
  repeat' first
    | (with_reducible exact Within.refl _ _)
    | (with_reducible apply State.radioCopy_within)
    | (with_reducible apply State.radioSend_within)
    | (with_reducible apply State.setFlood_within)
    | (with_reducible apply State.takeChain_within)
    | ((with_reducible show compsIn _ _ = true); rfl)
    | (with_reducible refine Within.ite (fun _ => ?_) (fun _ => ?_))
    | (with_reducible refine WithinOpt.getD ?_ ?_)

theorem State.frameDnRejected_within {L : List Comp} {σ : State} (m : PassMsg) (s : State) (h0 : Within L σ s) (hs : compsIn [.regs, .pass, .qmg]
    L = true) : Within L σ (State.frameDnRejected m s) := by
  refine Within.comp ?_ hs h0
  clear h0 hs
  unfold State.frameDnRejected
  dsimp only
  repeat' first
    | (with_reducible exact Within.refl _ _)
    | (with_reducible apply State.creditBack_within)
    | (with_reducible apply State.freeChain_within)
    | (with_reducible apply State.txDone_within)
    | ((with_reducible show compsIn _ _ = true); rfl)
    | (with_reducible refine Within.ite (fun _ => ?_) (fun _ => ?_))
    | (simp only [Within.lit]; with_reducible refine Within.upd ?_ rfl (fun k hk => ?_))
    | (cases k <;> first | (exact absurd (by decide) hk) | rfl)
    | split

theorem State.takeSide_within {L : List Comp} {σ : State} (s : State) (seq : Nat) (h0 : Within L σ s) (hs : compsIn [.qmg] L = true) : Within L σ
    (State.takeSide s seq).2 := by
  refine Within.comp ?_ hs h0
  clear h0 hs
  unfold State.takeSide
  dsimp only
  repeat' first
    | (with_reducible exact Within.refl _ _)
    | (simp only [Within.lit]; with_reducible refine Within.upd ?_ rfl (fun k hk => ?_))
    | (cases k <;> first | (exact absurd (by decide) hk) | rfl)

theorem State.setTx_within {L : List Comp} {σ : State} (s : State) (l : List EthTx) (h0 : Within L σ s) (hs : compsIn [.eth] L = true) : Within L σ
    (State.setTx s l) := by
  refine Within.comp ?_ hs h0
  clear h0 hs
  unfold State.setTx
  dsimp only
  repeat' first
    | (with_reducible exact Within.refl _ _)
    | (simp only [Within.lit]; with_reducible refine Within.upd ?_ rfl (fun k hk => ?_))
    | (cases k <;> first | (exact absurd (by decide) hk) | rfl)

theorem State.ethPut_within {L : List Comp} {σ : State} (s : State) (t : EthTx) (h0 : Within L σ s) (hs : compsIn [.eth] L = true) : Within L σ
    (State.ethPut s t) := by
  refine Within.comp ?_ hs h0
  clear h0 hs
  unfold State.ethPut
  repeat' first
    | (with_reducible exact Within.refl _ _)
    | (with_reducible apply State.setTx_within)
    | ((with_reducible show compsIn _ _ = true); rfl)

theorem State.ethRefuse_within {L : List Comp} {σ : State} (s : State) (k : Nat) (src : Option Fetched) (status cause : Nat) (h0 : Within L σ s)
    (hs : compsIn [.regs, .host, .air, .qmg, .link] L = true) : Within L σ (State.ethRefuse s k src status cause) := by
  refine Within.comp ?_ hs h0
  clear h0 hs
  unfold State.ethRefuse
  dsimp only
  repeat' first
    | (with_reducible exact Within.refl _ _)
    | (with_reducible apply State.bump_within)
    | (with_reducible apply State.txDoneH_within)
    | ((with_reducible show compsIn _ _ = true); rfl)
    | split

theorem State.prpSend_within {L : List Comp} {σ : State} (s : State) (prio : Nat) (bs : List Byte) (tsReq : Bool) (tsId : Nat) (src : Option
    Fetched) (h0 : Within L σ s) (hs : compsIn [.regs, .free, .host, .eth, .air, .qmg, .link] L = true) : Within L σ (State.prpSend s prio bs
    tsReq tsId src) := by
  refine Within.comp ?_ hs h0
  clear h0 hs
  unfold State.prpSend
  dsimp only
  repeat' first
    | (with_reducible exact Within.refl _ _)
    | (with_reducible apply State.bump_within)
    | (with_reducible apply State.draw_within)
    | (with_reducible apply State.ethPut_within)
    | (with_reducible apply State.txDoneH_within)
    | ((with_reducible show compsIn _ _ = true); rfl)
    | (with_reducible refine Within.ite (fun _ => ?_) (fun _ => ?_))
    | (simp only [Within.lit]; with_reducible refine Within.upd ?_ rfl (fun k hk => ?_))
    | (cases k <;> first | (exact absurd (by decide) hk) | rfl)
    | split

theorem State.ethUp_within {L : List Comp} {σ : State} (s : State) (e : Nat) (x : UpSide) (tsReq : Bool) (tsId : Nat) (bs : List Byte) (h0 :
    Within L σ s) (hs : compsIn [.regs, .free, .host, .eth, .air, .qmg, .link] L = true) : Within L σ (State.ethUp s e x tsReq tsId bs) := by
  refine Within.comp ?_ hs h0
  clear h0 hs
  unfold State.ethUp
  dsimp only
  repeat' first
    | (with_reducible exact Within.refl _ _)
    | (with_reducible apply State.bump_within)
    | (with_reducible apply State.ethPut_within)
    | (with_reducible apply State.ethRefuse_within)
    | (with_reducible apply State.prpSend_within)
    | (with_reducible apply State.txDoneH_within)
    | ((with_reducible show compsIn _ _ = true); rfl)
    | (with_reducible refine Within.ite (fun _ => ?_) (fun _ => ?_))
    | split

theorem State.partRefuse_within {L : List Comp} {σ : State} (s : State) (p a : Nat) (h0 : Within L σ s) (hs : compsIn [.regs] L = true) : Within L σ
    (State.partRefuse s p a) := by
  refine Within.comp ?_ hs h0
  clear h0 hs
  unfold State.partRefuse
  repeat' first
    | (with_reducible exact Within.refl _ _)
    | (with_reducible apply State.err_within)
    | ((with_reducible show compsIn _ _ = true); rfl)
    | split

theorem State.putPlain_within {L : List Comp} {σ : State} (s : State) (p a : Nat) (r : RegRow) (data : Word) (h0 : Within L σ s) (hs : compsIn
    [.regs] L = true) : Within L σ (State.putPlain s p a r data) := by
  refine Within.comp ?_ hs h0
  clear h0 hs
  unfold State.putPlain
  repeat' first
    | (with_reducible exact Within.refl _ _)
    | (with_reducible apply State.partRefuse_within)
    | (with_reducible apply State.wr_within)
    | ((with_reducible show compsIn _ _ = true); rfl)
    | (with_reducible refine Within.ite (fun _ => ?_) (fun _ => ?_))

theorem State.ethLinkEvt_within {L : List Comp} {σ : State} (s : State) (e : Nat) (h0 : Within L σ s) (hs : compsIn [.pass] L = true) : Within L σ
    (State.ethLinkEvt s e) := by
  refine Within.comp ?_ hs h0
  clear h0 hs
  unfold State.ethLinkEvt
  repeat' first
    | (with_reducible exact Within.refl _ _)
    | (with_reducible apply State.evtF_within)
    | ((with_reducible show compsIn _ _ = true); rfl)

theorem State.ethLost_within {L : List Comp} {σ : State} (s : State) (t : EthTx) (h0 : Within L σ s) (hs : compsIn [.regs, .free, .host, .air,
    .qmg, .link] L = true) : Within L σ (State.ethLost s t) := by
  refine Within.comp ?_ hs h0
  clear h0 hs
  unfold State.ethLost
  dsimp only
  repeat' first
    | (with_reducible exact Within.refl _ _)
    | (with_reducible apply State.draw_within)
    | (with_reducible apply State.txDoneH_within)
    | ((with_reducible show compsIn _ _ = true); rfl)
    | (with_reducible refine Within.ite (fun _ => ?_) (fun _ => ?_))
    | split

theorem State.prpLinkDown_within {L : List Comp} {σ : State} (s : State) (e : Nat) (h0 : Within L σ s) (hs : compsIn [.regs, .free, .host, .eth,
    .air, .qmg, .link] L = true) : Within L σ (State.prpLinkDown s e) := by
  refine Within.comp ?_ hs h0
  clear h0 hs
  unfold State.prpLinkDown
  dsimp only
  repeat' first
    | (with_reducible exact Within.refl _ _)
    | (with_reducible assumption)
    | (with_reducible apply State.bumpBy_within)
    | (with_reducible apply State.ethLost_within)
    | (with_reducible apply State.setTx_within)
    | ((with_reducible show compsIn _ _ = true); rfl)
    | (with_reducible refine Within.ite (fun _ => ?_) (fun _ => ?_))
    | (with_reducible refine Within.foldl ?_ (fun _ _ _ => ?_))

theorem State.ethLink_within {L : List Comp} {σ : State} (s : State) (e : Nat) (up : Bool) (speed : Nat) (los : Bool) (h0 : Within L σ s) (hs :
    compsIn [.regs, .free, .pass, .host, .eth, .air, .qmg, .link] L = true) : Within L σ (State.ethLink s e up speed los) := by
  refine Within.comp ?_ hs h0
  clear h0 hs
  unfold State.ethLink
  dsimp only
  repeat' first
    | (with_reducible exact Within.refl _ _)
    | (with_reducible apply State.ethLinkEvt_within)
    | (with_reducible apply State.prpLinkDown_within)
    | (with_reducible apply State.wr_within)
    | ((with_reducible show compsIn _ _ = true); rfl)
    | (with_reducible refine Within.ite (fun _ => ?_) (fun _ => ?_))

theorem State.ethCfg_within {L : List Comp} {σ : State} (s : State) (p e : Nat) (data : Word) (h0 : Within L σ s) (hs : compsIn [.regs, .free,
    .pass, .host, .eth, .air, .qmg, .link] L = true) : Within L σ (State.ethCfg s p e data) := by
  refine Within.comp ?_ hs h0
  clear h0 hs
  unfold State.ethCfg
  dsimp only
  repeat' first
    | (with_reducible exact Within.refl _ _)
    | (with_reducible apply State.err_within)
    | (with_reducible apply State.ethLink_within)
    | (with_reducible apply State.only0_within)
    | (with_reducible apply State.wr_within)
    | ((with_reducible show compsIn _ _ = true); rfl)
    | (with_reducible refine Within.ite (fun _ => ?_) (fun _ => ?_))

theorem State.ethMacWrite_within {L : List Comp} {σ : State} (s : State) (p e k : Nat) (data : Word) (h0 : Within L σ s) (hs : compsIn [.regs] L =
    true) : Within L σ (State.ethMacWrite s p e k data) := by
  refine Within.comp ?_ hs h0
  clear h0 hs
  unfold State.ethMacWrite
  repeat' first
    | (with_reducible exact Within.refl _ _)
    | (with_reducible apply State.err_within)
    | (with_reducible apply State.only0_within)
    | (with_reducible apply State.wr_within)
    | ((with_reducible show compsIn _ _ = true); rfl)
    | (with_reducible refine Within.ite (fun _ => ?_) (fun _ => ?_))

theorem State.shpWriter_within {L : List Comp} {σ : State} (s : State) (p : Nat) (ok : State) (h0 : Within L σ s) (hok : Within L σ ok) (hs : compsIn
    [.regs] L = true) : Within L σ (State.shpWriter s p ok) := by
  unfold State.shpWriter
  repeat' first
    | (with_reducible assumption)
    | (with_reducible apply State.err_within)
    | (with_reducible refine Within.ite (fun _ => ?_) (fun _ => ?_))

theorem State.gclCtrl_within {L : List Comp} {σ : State} (s : State) (p e : Nat) (data : Word) (h0 : Within L σ s) (hs : compsIn [.regs] L = true)
    : Within L σ (State.gclCtrl s p e data) := by
  refine Within.comp ?_ hs h0
  clear h0 hs
  unfold State.gclCtrl
  dsimp only
  repeat' first
    | (with_reducible exact Within.refl _ _)
    | (with_reducible apply State.err_within)
    | (with_reducible apply State.setFld_within)
    | (with_reducible apply State.shpWriter_within)
    | ((with_reducible show compsIn _ _ = true); rfl)
    | (with_reducible refine Within.ite (fun _ => ?_) (fun _ => ?_))

theorem State.gclWrite_within {L : List Comp} {σ : State} (s : State) (p : Nat) (data : Word) (h0 : Within L σ s) (hs : compsIn [.regs, .shp] L =
    true) : Within L σ (State.gclWrite s p data) := by
  refine Within.comp ?_ hs h0
  clear h0 hs
  unfold State.gclWrite
  dsimp only
  repeat' first
    | (with_reducible exact Within.refl _ _)
    | (with_reducible apply State.err_within)
    | (with_reducible apply State.setFld_within)
    | (with_reducible apply State.shpWriter_within)
    | ((with_reducible show compsIn _ _ = true); rfl)
    | (with_reducible refine Within.ite (fun _ => ?_) (fun _ => ?_))
    | (simp only [Within.lit]; with_reducible refine Within.upd ?_ rfl (fun k hk => ?_))
    | (cases k <;> first | (exact absurd (by decide) hk) | rfl)

theorem State.mdioWrite_within {L : List Comp} {σ : State} (s : State) (p : Nat) (data : Word) (h0 : Within L σ s) (hs : compsIn [.regs, .eth] L =
    true) : Within L σ (State.mdioWrite s p data) := by
  refine Within.comp ?_ hs h0
  clear h0 hs
  unfold State.mdioWrite
  dsimp only
  repeat' first
    | (with_reducible exact Within.refl _ _)
    | (with_reducible apply State.only0_within)
    | (with_reducible apply State.setFld_within)
    | (with_reducible apply State.wr_within)
    | ((with_reducible show compsIn _ _ = true); rfl)
    | (with_reducible refine Within.ite (fun _ => ?_) (fun _ => ?_))
    | (simp only [Within.lit]; with_reducible refine Within.upd ?_ rfl (fun k hk => ?_))
    | (cases k <;> first | (exact absurd (by decide) hk) | rfl)

theorem State.prpCfg_within {L : List Comp} {σ : State} (s : State) (p : Nat) (data : Word) (h0 : Within L σ s) (hs : compsIn [.regs] L = true) :
    Within L σ (State.prpCfg s p data) := by
  refine Within.comp ?_ hs h0
  clear h0 hs
  unfold State.prpCfg
  dsimp only
  repeat' first
    | (with_reducible exact Within.refl _ _)
    | (with_reducible apply State.err_within)
    | (with_reducible apply State.only0_within)
    | (with_reducible apply State.wr_within)
    | ((with_reducible show compsIn _ _ = true); rfl)
    | (with_reducible refine Within.ite (fun _ => ?_) (fun _ => ?_))

theorem State.putHost_within {L : List Comp} {σ : State} (s : State) (p b i : Nat) (data : Word) (plain : State) (h0 : Within L σ s) (hplain : Within
    L σ plain) (hs : compsIn [.regs, .free, .pass, .host, .eth, .safe, .log, .pwr, .cmds, .ends, .cvn, .cvnIds, .air, .qmg, .shp, .rf,
    .rx, .link, .key, .vault, .mesh] L = true) : Within L σ (State.putHost s p b i data plain) := by
  unfold State.putHost
  dsimp only
  repeat' first
    | (with_reducible assumption)
    | (with_reducible apply State.bankWrite_within)
    | (with_reducible apply State.doorbell_within)
    | (with_reducible apply State.ethCfg_within)
    | (with_reducible apply State.ethMacWrite_within)
    | (with_reducible apply State.gclCtrl_within)
    | (with_reducible apply State.gclWrite_within)
    | (with_reducible apply State.lockWrite_within)
    | (with_reducible apply State.mdioWrite_within)
    | (with_reducible apply State.partMapWrite_within)
    | (with_reducible apply State.partResetWrite_within)
    | (with_reducible apply State.prpCfg_within)
    | (with_reducible apply State.ringBaseWrite_within)
    | (with_reducible apply State.ringCfg_within)
    | (exact compsIn_trans (m := [.regs, .free, .pass, .host, .eth, .safe, .log, .pwr, .cmds, .ends, .cvn, .cvnIds, .air, .qmg, .shp, .rf,
        .rx, .link, .key, .vault, .mesh]) rfl hs)
    | (with_reducible refine Within.ite (fun _ => ?_) (fun _ => ?_))
    | (simp only [Within.lit]; with_reducible refine Within.upd ?_ rfl (fun k hk => ?_))
    | (cases k <;> first | (exact absurd (compsIn_mem hs (by decide)) hk) | rfl)

theorem State.putRadio_within {L : List Comp} {σ : State} (s : State) (p b i j : Nat) (data : Word) (plain : State) (h0 : Within L σ s) (hplain :
    Within L σ plain) (hs : compsIn [.regs, .free, .pass, .host, .safe, .log, .cvn, .cvnIds, .air, .qmg, .rf, .rx, .link, .slot, .key, .vault,
    .mesh] L = true) : Within L σ (State.putRadio s p b i j data plain) := by
  unfold State.putRadio
  repeat' first
    | (with_reducible assumption)
    | (with_reducible apply State.arrCfg_within)
    | (with_reducible apply State.bandPlan_within)
    | (with_reducible apply State.beamCfg_within)
    | (with_reducible apply State.blankWrite_within)
    | (with_reducible apply State.calCtrl_within)
    | (with_reducible apply State.laneCfg_within)
    | (with_reducible apply State.lpWrite_within)
    | (with_reducible apply State.profileWrite_within)
    | (with_reducible apply State.waddrWrite_within)
    | (with_reducible apply State.weightCommit_within)
    | (with_reducible apply State.weightWrite_within)
    | (with_reducible apply State.winWrite_within)
    | (exact compsIn_trans (m := [.regs, .free, .pass, .host, .safe, .log, .cvn, .cvnIds, .air, .qmg, .rf, .rx, .link, .slot, .key,
        .vault, .mesh]) rfl hs)
    | (with_reducible refine Within.ite (fun _ => ?_) (fun _ => ?_))

theorem State.cellNext_within {L : List Comp} {σ : State} (s : State) (h0 : Within L σ s) (hs : compsIn [.regs] L = true) : Within L σ (State.cellNext
    s) := by
  refine Within.comp ?_ hs h0
  clear h0 hs
  unfold State.cellNext
  dsimp only
  repeat' first
    | (with_reducible exact Within.refl _ _)
    | (with_reducible apply State.setFld_within)
    | ((with_reducible show compsIn _ _ = true); rfl)
    | (with_reducible refine Within.ite (fun _ => ?_) (fun _ => ?_))

theorem State.setCell_within {L : List Comp} {σ : State} (s : State) (c : Nat) (w0 w1 : Word) (h0 : Within L σ s) (hs : compsIn [.slot] L = true)
    : Within L σ (State.setCell s c w0 w1) := by
  refine Within.comp ?_ hs h0
  clear h0 hs
  unfold State.setCell
  dsimp only
  repeat' first
    | (with_reducible exact Within.refl _ _)
    | (simp only [Within.lit]; with_reducible refine Within.upd ?_ rfl (fun k hk => ?_))
    | (cases k <;> first | (exact absurd (by decide) hk) | rfl)

theorem State.cellWrite_within {L : List Comp} {σ : State} (s : State) (part : Nat) (data : Word) (h0 : Within L σ s) (hs : compsIn [.regs, .slot]
    L = true) : Within L σ (State.cellWrite s part data) := by
  refine Within.comp ?_ hs h0
  clear h0 hs
  unfold State.cellWrite
  dsimp only
  repeat' first
    | (with_reducible exact Within.refl _ _)
    | (with_reducible apply State.cellNext_within)
    | (with_reducible apply State.err_within)
    | (with_reducible apply State.setCell_within)
    | ((with_reducible show compsIn _ _ = true); rfl)
    | (with_reducible refine Within.ite (fun _ => ?_) (fun _ => ?_))

theorem State.slotWriter_within {L : List Comp} {σ : State} (s : State) (part : Nat) (ok : State) (h0 : Within L σ s) (hok : Within L σ ok) (hs :
    compsIn [.regs] L = true) : Within L σ (State.slotWriter s part ok) := by
  unfold State.slotWriter
  repeat' first
    | (with_reducible assumption)
    | (with_reducible apply State.only0_within)

theorem State.epochWrite_within {L : List Comp} {σ : State} (s : State) (part k : Nat) (v : Word) (h0 : Within L σ s) (hs : compsIn [.regs] L =
    true) : Within L σ (State.epochWrite s part k v) := by
  refine Within.comp ?_ hs h0
  clear h0 hs
  unfold State.epochWrite
  repeat' first
    | (with_reducible exact Within.refl _ _)
    | (with_reducible apply State.err_within)
    | (with_reducible apply State.slotWriter_within)
    | (with_reducible apply State.wr_within)
    | ((with_reducible show compsIn _ _ = true); rfl)
    | (with_reducible refine Within.ite (fun _ => ?_) (fun _ => ?_))

theorem State.hopPlanWrite_within {L : List Comp} {σ : State} (s : State) (part h k : Nat) (v : Word) (h0 : Within L σ s) (hs : compsIn [.regs] L
    = true) : Within L σ (State.hopPlanWrite s part h k v) := by
  refine Within.comp ?_ hs h0
  clear h0 hs
  unfold State.hopPlanWrite
  repeat' first
    | (with_reducible exact Within.refl _ _)
    | (with_reducible apply State.err_within)
    | (with_reducible apply State.slotWriter_within)
    | (with_reducible apply State.wr_within)
    | ((with_reducible show compsIn _ _ = true); rfl)
    | (with_reducible refine Within.ite (fun _ => ?_) (fun _ => ?_))

theorem State.hopNext_within {L : List Comp} {σ : State} (s : State) (h0 : Within L σ s) (hs : compsIn [.regs] L = true) : Within L σ (State.hopNext
    s) := by
  refine Within.comp ?_ hs h0
  clear h0 hs
  unfold State.hopNext
  dsimp only
  repeat' first
    | (with_reducible exact Within.refl _ _)
    | (with_reducible apply State.setFld_within)
    | ((with_reducible show compsIn _ _ = true); rfl)
    | (with_reducible refine Within.ite (fun _ => ?_) (fun _ => ?_))

theorem State.hopWrite_within {L : List Comp} {σ : State} (s : State) (part : Nat) (data : Word) (h0 : Within L σ s) (hs : compsIn [.regs, .slot]
    L = true) : Within L σ (State.hopWrite s part data) := by
  refine Within.comp ?_ hs h0
  clear h0 hs
  unfold State.hopWrite
  dsimp only
  repeat' first
    | (with_reducible exact Within.refl _ _)
    | (with_reducible apply State.err_within)
    | (with_reducible apply State.hopNext_within)
    | (with_reducible apply State.slotWriter_within)
    | ((with_reducible show compsIn _ _ = true); rfl)
    | (with_reducible refine Within.ite (fun _ => ?_) (fun _ => ?_))
    | (simp only [Within.lit]; with_reducible refine Within.upd ?_ rfl (fun k hk => ?_))
    | (cases k <;> first | (exact absurd (by decide) hk) | rfl)

theorem State.sfWrite_within {L : List Comp} {σ : State} (s : State) (part i k : Nat) (v : Word) (h0 : Within L σ s) (hs : compsIn [.regs] L =
    true) : Within L σ (State.sfWrite s part i k v) := by
  refine Within.comp ?_ hs h0
  clear h0 hs
  unfold State.sfWrite
  repeat' first
    | (with_reducible exact Within.refl _ _)
    | (with_reducible apply State.err_within)
    | (with_reducible apply State.wr_within)
    | ((with_reducible show compsIn _ _ = true); rfl)
    | (with_reducible refine Within.ite (fun _ => ?_) (fun _ => ?_))

theorem State.sfEnable_within {L : List Comp} {σ : State} (s : State) (i : Nat) (w0 : Word) (h0 : Within L σ s) (hs : compsIn [.regs] L = true) :
    Within L σ (State.sfEnable s i w0) := by
  refine Within.comp ?_ hs h0
  clear h0 hs
  unfold State.sfEnable
  dsimp only
  repeat' first
    | (with_reducible exact Within.refl _ _)
    | (with_reducible apply State.err_within)
    | (with_reducible apply State.flagIf_within)
    | (with_reducible apply State.wr_within)
    | ((with_reducible show compsIn _ _ = true); rfl)
    | (with_reducible refine Within.ite (fun _ => ?_) (fun _ => ?_))

theorem State.sfWrite0_within {L : List Comp} {σ : State} (s : State) (part i : Nat) (data : Word) (h0 : Within L σ s) (hs : compsIn [.regs] L =
    true) : Within L σ (State.sfWrite0 s part i data) := by
  refine Within.comp ?_ hs h0
  clear h0 hs
  unfold State.sfWrite0
  dsimp only
  repeat' first
    | (with_reducible exact Within.refl _ _)
    | (with_reducible apply State.err_within)
    | (with_reducible apply State.setFld_within)
    | (with_reducible apply State.sfEnable_within)
    | (with_reducible apply State.wr_within)
    | ((with_reducible show compsIn _ _ = true); rfl)
    | (with_reducible refine Within.ite (fun _ => ?_) (fun _ => ?_))

theorem State.slotCfg_within {L : List Comp} {σ : State} (s : State) (part : Nat) (data : Word) (h0 : Within L σ s) (hs : compsIn [.regs] L =
    true) : Within L σ (State.slotCfg s part data) := by
  refine Within.comp ?_ hs h0
  clear h0 hs
  unfold State.slotCfg
  dsimp only
  repeat' first
    | (with_reducible exact Within.refl _ _)
    | (with_reducible apply State.err_within)
    | (with_reducible apply State.slotWriter_within)
    | (with_reducible apply State.wr_within)
    | ((with_reducible show compsIn _ _ = true); rfl)
    | (with_reducible refine Within.ite (fun _ => ?_) (fun _ => ?_))

theorem State.slotStart_within {L : List Comp} {σ : State} (s : State) (h0 : Within L σ s) (hs : compsIn [.regs, .slot] L = true) : Within L σ
    (State.slotStart s) := by
  refine Within.comp ?_ hs h0
  clear h0 hs
  unfold State.slotStart
  dsimp only
  repeat' first
    | (with_reducible exact Within.refl _ _)
    | (with_reducible apply State.err_within)
    | ((with_reducible show compsIn _ _ = true); rfl)
    | (with_reducible refine Within.ite (fun _ => ?_) (fun _ => ?_))
    | (simp only [Within.lit]; with_reducible refine Within.upd ?_ rfl (fun k hk => ?_))
    | (cases k <;> first | (exact absurd (by decide) hk) | rfl)

theorem State.slotStop_within {L : List Comp} {σ : State} (s : State) (h0 : Within L σ s) (hs : compsIn [.slot] L = true) : Within L σ (State.slotStop
    s) := by
  refine Within.comp ?_ hs h0
  clear h0 hs
  unfold State.slotStop
  dsimp only
  repeat' first
    | (with_reducible exact Within.refl _ _)
    | (with_reducible refine Within.ite (fun _ => ?_) (fun _ => ?_))
    | (simp only [Within.lit]; with_reducible refine Within.upd ?_ rfl (fun k hk => ?_))
    | (cases k <;> first | (exact absurd (by decide) hk) | rfl)

theorem State.slotCtrl_within {L : List Comp} {σ : State} (s : State) (part : Nat) (data : Word) (h0 : Within L σ s) (hs : compsIn [.regs, .slot]
    L = true) : Within L σ (State.slotCtrl s part data) := by
  refine Within.comp ?_ hs h0
  clear h0 hs
  unfold State.slotCtrl
  dsimp only
  repeat' first
    | (with_reducible exact Within.refl _ _)
    | (with_reducible apply State.slotStart_within)
    | (with_reducible apply State.slotStop_within)
    | (with_reducible apply State.slotWriter_within)
    | ((with_reducible show compsIn _ _ = true); rfl)
    | (with_reducible refine Within.ite (fun _ => ?_) (fun _ => ?_))

theorem State.tplWrite_within {L : List Comp} {σ : State} (s : State) (part t k : Nat) (v : Word) (h0 : Within L σ s) (hs : compsIn [.regs] L =
    true) : Within L σ (State.tplWrite s part t k v) := by
  refine Within.comp ?_ hs h0
  clear h0 hs
  unfold State.tplWrite
  repeat' first
    | (with_reducible exact Within.refl _ _)
    | (with_reducible apply State.err_within)
    | (with_reducible apply State.slotWriter_within)
    | (with_reducible apply State.wr_within)
    | ((with_reducible show compsIn _ _ = true); rfl)
    | (with_reducible refine Within.ite (fun _ => ?_) (fun _ => ?_))

theorem State.putSlot_within {L : List Comp} {σ : State} (s : State) (p b i : Nat) (data : Word) (plain : State) (h0 : Within L σ s) (hplain : Within
    L σ plain) (hs : compsIn [.regs, .slot] L = true) : Within L σ (State.putSlot s p b i data plain) := by
  unfold State.putSlot
  repeat' first
    | (with_reducible assumption)
    | (with_reducible apply State.cellWrite_within)
    | (with_reducible apply State.epochWrite_within)
    | (with_reducible apply State.hopPlanWrite_within)
    | (with_reducible apply State.hopWrite_within)
    | (with_reducible apply State.sfWrite_within)
    | (with_reducible apply State.sfWrite0_within)
    | (with_reducible apply State.slotCfg_within)
    | (with_reducible apply State.slotCtrl_within)
    | (with_reducible apply State.tplWrite_within)
    | (exact compsIn_trans (m := [.regs, .slot]) rfl hs)
    | (with_reducible refine Within.ite (fun _ => ?_) (fun _ => ?_))

theorem State.ctxWrite_within {L : List Comp} {σ : State} (s : State) (part : Nat) (data : Word) (h0 : Within L σ s) (hs : compsIn [.regs, .mesh]
    L = true) : Within L σ (State.ctxWrite s part data) := by
  refine Within.comp ?_ hs h0
  clear h0 hs
  unfold State.ctxWrite
  dsimp only
  repeat' first
    | (with_reducible exact Within.refl _ _)
    | (with_reducible apply State.err_within)
    | ((with_reducible show compsIn _ _ = true); rfl)
    | (with_reducible refine Within.ite (fun _ => ?_) (fun _ => ?_))
    | (simp only [Within.lit]; with_reducible refine Within.upd ?_ rfl (fun k hk => ?_))
    | (cases k <;> first | (exact absurd (by decide) hk) | rfl)

theorem State.nbrWrite_within {L : List Comp} {σ : State} (s : State) (p : Nat) (data : Word) (h0 : Within L σ s) (hs : compsIn [.regs, .link] L =
    true) : Within L σ (State.nbrWrite s p data) := by
  refine Within.comp ?_ hs h0
  clear h0 hs
  unfold State.nbrWrite
  dsimp only
  repeat' first
    | (with_reducible exact Within.refl _ _)
    | (with_reducible apply State.err_within)
    | (with_reducible apply State.setNbr_within)
    | ((with_reducible show compsIn _ _ = true); rfl)
    | (with_reducible refine Within.ite (fun _ => ?_) (fun _ => ?_))

theorem State.panChange_within {L : List Comp} {σ : State} (s : State) (p : Nat) (data : Word) (h0 : Within L σ s) (hs : compsIn [.regs] L = true)
    : Within L σ (State.panChange s p data) := by
  refine Within.comp ?_ hs h0
  clear h0 hs
  unfold State.panChange
  dsimp only
  repeat' first
    | (with_reducible exact Within.refl _ _)
    | (with_reducible apply State.err_within)
    | (with_reducible apply State.setFld_within)
    | ((with_reducible show compsIn _ _ = true); rfl)
    | (with_reducible refine Within.ite (fun _ => ?_) (fun _ => ?_))

theorem State.addrSync_within {L : List Comp} {σ : State} (s : State) (p : Nat) (h0 : Within L σ s) (hs : compsIn [.regs] L = true) : Within L σ
    (State.addrSync s p) := by
  refine Within.comp ?_ hs h0
  clear h0 hs
  unfold State.addrSync
  repeat' first
    | (with_reducible exact Within.refl _ _)
    | (with_reducible apply State.setFld_within)
    | ((with_reducible show compsIn _ _ = true); rfl)

theorem State.panCreate_within {L : List Comp} {σ : State} (s : State) (p : Nat) (data : Word) (h0 : Within L σ s) (hs : compsIn [.regs, .link] L
    = true) : Within L σ (State.panCreate s p data) := by
  refine Within.comp ?_ hs h0
  clear h0 hs
  unfold State.panCreate
  dsimp only
  repeat' first
    | (with_reducible exact Within.refl _ _)
    | (with_reducible apply State.addrSync_within)
    | (with_reducible apply State.err_within)
    | (with_reducible apply State.wr_within)
    | ((with_reducible show compsIn _ _ = true); rfl)
    | (with_reducible refine Within.ite (fun _ => ?_) (fun _ => ?_))
    | (simp only [Within.lit]; with_reducible refine Within.upd ?_ rfl (fun k hk => ?_))
    | (cases k <;> first | (exact absurd (by decide) hk) | rfl)

theorem State.airSync_within {L : List Comp} {σ : State} (s : State) (h0 : Within L σ s) (hs : compsIn [.regs, .pass, .time, .link] L = true) : Within
    L σ (State.airSync s) := by
  refine Within.comp ?_ hs h0
  clear h0 hs
  unfold State.airSync
  dsimp only
  repeat' first
    | (with_reducible exact Within.refl _ _)
    | (with_reducible apply State.enterHoldover_within)
    | (with_reducible apply State.setAir_within)
    | (with_reducible apply State.wr_within)
    | ((with_reducible show compsIn _ _ = true); rfl)
    | (with_reducible refine Within.ite (fun _ => ?_) (fun _ => ?_))
    | (simp only [Within.lit]; with_reducible refine Within.upd ?_ rfl (fun k hk => ?_))
    | (cases k <;> first | (exact absurd (by decide) hk) | rfl)
    | split

theorem State.tsrcClear_within {L : List Comp} {σ : State} (s : State) (n : Nat) (h0 : Within L σ s) (hs : compsIn [.regs] L = true) : Within L σ
    (State.tsrcClear s n) := by
  refine Within.comp ?_ hs h0
  clear h0 hs
  unfold State.tsrcClear
  dsimp only
  repeat' first
    | (with_reducible exact Within.refl _ _)
    | (with_reducible apply State.setFld_within)
    | ((with_reducible show compsIn _ _ = true); rfl)
    | (with_reducible refine Within.ite (fun _ => ?_) (fun _ => ?_))

theorem State.nbrRemove_within {L : List Comp} {σ : State} (s : State) (n : Nat) (h0 : Within L σ s) (hs : compsIn [.regs, .pass, .host, .safe,
    .log, .ndir, .cvn, .cvnIds, .air, .qmg, .rf, .link, .key, .vault, .mesh] L = true) : Within L σ (State.nbrRemove s n) := by
  refine Within.comp ?_ hs h0
  clear h0 hs
  unfold State.nbrRemove
  dsimp only
  repeat' first
    | (with_reducible exact Within.refl _ _)
    | (with_reducible assumption)
    | (with_reducible apply State.flushQueue_within)
    | (with_reducible apply State.keyForget_within)
    | (with_reducible apply State.nbrSync_within)
    | (with_reducible apply State.setNbr_within)
    | (with_reducible apply State.setNode_within)
    | (with_reducible apply State.tsrcClear_within)
    | (with_reducible apply State.unbind_within)
    | ((with_reducible show compsIn _ _ = true); rfl)
    | (with_reducible refine Within.foldl ?_ (fun _ _ _ => ?_))
    | (simp only [Within.lit]; with_reducible refine Within.upd ?_ rfl (fun k hk => ?_))
    | (cases k <;> first | (exact absurd (by decide) hk) | (simp only [State.sameAt]; done) | rfl)

theorem State.cvnWaitEnd_within {L : List Comp} {σ : State} (s : State) (w : CvnWait) (status : Nat) (h0 : Within L σ s) (hs : compsIn [.regs,
    .pass, .ends, .cvn] L = true) : Within L σ (State.cvnWaitEnd s w status) := by
  refine Within.comp ?_ hs h0
  clear h0 hs
  unfold State.cvnWaitEnd
  dsimp only
  repeat' first
    | (with_reducible exact Within.refl _ _)
    | (with_reducible apply State.cmdDone_within)
    | (with_reducible apply State.cvnSync_within)
    | ((with_reducible show compsIn _ _ = true); rfl)
    | (simp only [Within.lit]; with_reducible refine Within.upd ?_ rfl (fun k hk => ?_))
    | (cases k <;> first | (exact absurd (by decide) hk) | rfl)

theorem State.imgAbort_within {L : List Comp} {σ : State} (s : State) (i : Nat) (x : ImgSess) (h0 : Within L σ s) (hs : compsIn [.regs, .pass,
    .host, .safe, .log, .cvn, .cvnIds, .air, .qmg, .rf, .link, .key, .vault, .mesh] L = true) : Within L σ (State.imgAbort s i x) := by
  refine Within.comp ?_ hs h0
  clear h0 hs
  unfold State.imgAbort
  repeat' first
    | (with_reducible exact Within.refl _ _)
    | (with_reducible apply State.engineStop_within)
    | (with_reducible apply State.imgEnd_within)
    | ((with_reducible show compsIn _ _ = true); rfl)

theorem State.panGroups_within {L : List Comp} {σ : State} (s : State) (p : Nat) (h0 : Within L σ s) (hs : compsIn [.regs, .pass, .host, .safe,
    .log, .ends, .cvn, .cvnIds, .air, .qmg, .rf, .link, .key, .vault, .mesh] L = true) : Within L σ (State.panGroups s p) := by
  refine Within.comp ?_ hs h0
  clear h0 hs
  unfold State.panGroups
  dsimp only
  repeat' first
    | (with_reducible exact Within.refl _ _)
    | (with_reducible assumption)
    | (with_reducible apply State.cvnAbort_within)
    | (with_reducible apply State.cvnWaitEnd_within)
    | (with_reducible apply State.flushQueue_within)
    | (with_reducible apply State.imgAbort_within)
    | ((with_reducible show compsIn _ _ = true); rfl)
    | (with_reducible refine Within.ite (fun _ => ?_) (fun _ => ?_))
    | (with_reducible refine Within.foldl ?_ (fun _ _ _ => ?_))
    | split

theorem State.panKeys_within {L : List Comp} {σ : State} (s : State) (p : Nat) (h0 : Within L σ s) (hs : compsIn [.regs, .key, .vault] L = true) :
    Within L σ (State.panKeys s p) := by
  refine Within.comp ?_ hs h0
  clear h0 hs
  unfold State.panKeys
  dsimp only
  repeat' first
    | (with_reducible exact Within.refl _ _)
    | (with_reducible apply State.groupUnload_within)
    | (with_reducible apply State.keyForget_within)
    | (with_reducible apply State.setFld_within)
    | (with_reducible apply State.unbind_within)
    | (with_reducible apply State.wr_within)
    | ((with_reducible show compsIn _ _ = true); rfl)
    | (simp only [Within.lit]; with_reducible refine Within.upd ?_ rfl (fun k hk => ?_))
    | (cases k <;> first | (exact absurd (by decide) hk) | (simp only [State.sameAt]; done) | rfl)

theorem State.panRolls_within {L : List Comp} {σ : State} (s : State) (p : Nat) (h0 : Within L σ s) (hs : compsIn [.pass, .ends, .key] L = true) :
    Within L σ (State.panRolls s p) := by
  refine Within.comp ?_ hs h0
  clear h0 hs
  unfold State.panRolls
  dsimp only
  repeat' first
    | (with_reducible exact Within.refl _ _)
    | (with_reducible assumption)
    | (with_reducible apply State.cmdDone_within)
    | ((with_reducible show compsIn _ _ = true); rfl)
    | (with_reducible refine Within.foldl ?_ (fun _ _ _ => ?_))
    | (simp only [Within.lit]; with_reducible refine Within.upd ?_ rfl (fun k hk => ?_))
    | (cases k <;> first | (exact absurd (by decide) hk) | rfl)

theorem State.panSilence_within {L : List Comp} {σ : State} (s : State) (p : Nat) (h0 : Within L σ s) (hs : compsIn [.regs, .free, .pass, .host,
    .safe, .log, .cvn, .cvnIds, .air, .qmg, .rf, .link, .slot, .key, .vault, .mesh] L = true) : Within L σ (State.panSilence s p) := by
  refine Within.comp ?_ hs h0
  clear h0 hs
  unfold State.panSilence
  dsimp only
  repeat' first
    | (with_reducible exact Within.refl _ _)
    | (with_reducible assumption)
    | (with_reducible apply State.setFld_within)
    | (with_reducible apply State.withdraw_within)
    | ((with_reducible show compsIn _ _ = true); rfl)
    | (with_reducible refine Within.ite (fun _ => ?_) (fun _ => ?_))
    | (with_reducible refine Within.foldl ?_ (fun _ _ _ => ?_))

theorem State.shortQuar_within {L : List Comp} {σ : State} (s : State) (p a secs : Nat) (h0 : Within L σ s) (hs : compsIn [.regs, .link] L = true)
    : Within L σ (State.shortQuar s p a secs) := by
  refine Within.comp ?_ hs h0
  clear h0 hs
  unfold State.shortQuar
  dsimp only
  repeat' first
    | (with_reducible exact Within.refl _ _)
    | (with_reducible apply State.addrSync_within)
    | ((with_reducible show compsIn _ _ = true); rfl)
    | (simp only [Within.lit]; with_reducible refine Within.upd ?_ rfl (fun k hk => ?_))
    | (cases k <;> first | (exact absurd (by decide) hk) | rfl)

theorem State.panDelete_within {L : List Comp} {σ : State} (s : State) (p : Nat) (data : Word) (h0 : Within L σ s) (hs : compsIn [.regs, .free,
    .pass, .host, .time, .safe, .log, .ends, .ndir, .cvn, .cvnIds, .air, .qmg, .rf, .link, .slot, .key, .vault, .mesh] L = true) : Within L σ
    (State.panDelete s p data) := by
  refine Within.comp ?_ hs h0
  clear h0 hs
  unfold State.panDelete
  dsimp only
  repeat' first
    | (with_reducible exact Within.refl _ _)
    | (with_reducible assumption)
    | (with_reducible apply State.airSync_within)
    | (with_reducible apply State.flushQueue_within)
    | (with_reducible apply State.nbrRemove_within)
    | (with_reducible apply State.panGroups_within)
    | (with_reducible apply State.panKeys_within)
    | (with_reducible apply State.panRolls_within)
    | (with_reducible apply State.panSilence_within)
    | (with_reducible apply State.shortQuar_within)
    | (with_reducible apply State.wr_within)
    | ((with_reducible show compsIn _ _ = true); rfl)
    | (with_reducible refine Within.ite (fun _ => ?_) (fun _ => ?_))
    | (with_reducible refine Within.foldl ?_ (fun _ _ _ => ?_))

theorem State.panCtrl_within {L : List Comp} {σ : State} (s : State) (part p : Nat) (data : Word) (h0 : Within L σ s) (hs : compsIn [.regs, .free,
    .pass, .host, .time, .safe, .log, .ends, .ndir, .cvn, .cvnIds, .air, .qmg, .rf, .link, .slot, .key, .vault, .mesh] L = true) : Within L σ
    (State.panCtrl s part p data) := by
  refine Within.comp ?_ hs h0
  clear h0 hs
  unfold State.panCtrl
  repeat' first
    | (with_reducible exact Within.refl _ _)
    | (with_reducible assumption)
    | (with_reducible apply State.err_within)
    | (with_reducible apply State.guarded_within)
    | (with_reducible apply State.panChange_within)
    | (with_reducible apply State.panCreate_within)
    | (with_reducible apply State.panDelete_within)
    | ((with_reducible show compsIn _ _ = true); rfl)
    | (with_reducible refine Within.ite (fun _ => ?_) (fun _ => ?_))
    | (intro _)

theorem State.panIdWrite_within {L : List Comp} {σ : State} (s : State) (part p : Nat) (data : Word) (h0 : Within L σ s) (hs : compsIn [.regs] L =
    true) : Within L σ (State.panIdWrite s part p data) := by
  refine Within.comp ?_ hs h0
  clear h0 hs
  unfold State.panIdWrite
  repeat' first
    | (with_reducible exact Within.refl _ _)
    | (with_reducible apply State.err_within)
    | (with_reducible apply State.wr_within)
    | ((with_reducible show compsIn _ _ = true); rfl)
    | (with_reducible refine Within.ite (fun _ => ?_) (fun _ => ?_))

theorem State.policerWrite_within {L : List Comp} {σ : State} (s : State) (p : Nat) (data : Word) (h0 : Within L σ s) (hs : compsIn [.regs, .shp]
    L = true) : Within L σ (State.policerWrite s p data) := by
  refine Within.comp ?_ hs h0
  clear h0 hs
  unfold State.policerWrite
  dsimp only
  repeat' first
    | (with_reducible exact Within.refl _ _)
    | (with_reducible apply State.setPolicer_within)
    | (with_reducible apply State.shpWriter_within)
    | ((with_reducible show compsIn _ _ = true); rfl)

theorem State.qAddrNext_within {L : List Comp} {σ : State} (s : State) (h0 : Within L σ s) (hs : compsIn [.regs] L = true) : Within L σ
    (State.qAddrNext s) := by
  refine Within.comp ?_ hs h0
  clear h0 hs
  unfold State.qAddrNext
  dsimp only
  repeat' first
    | (with_reducible exact Within.refl _ _)
    | (with_reducible apply State.setFld_within)
    | ((with_reducible show compsIn _ _ = true); rfl)
    | (with_reducible refine Within.ite (fun _ => ?_) (fun _ => ?_))

theorem State.qmgWriter_within {L : List Comp} {σ : State} (s : State) (p : Nat) (ok : State) (h0 : Within L σ s) (hok : Within L σ ok) (hs : compsIn
    [.regs] L = true) : Within L σ (State.qmgWriter s p ok) := by
  unfold State.qmgWriter
  repeat' first
    | (with_reducible assumption)
    | (with_reducible apply State.err_within)
    | (with_reducible refine Within.ite (fun _ => ?_) (fun _ => ?_))

theorem State.qEntryWrite_within {L : List Comp} {σ : State} (s : State) (p : Nat) (data : Word) (h0 : Within L σ s) (hs : compsIn [.regs, .qmg] L
    = true) : Within L σ (State.qEntryWrite s p data) := by
  refine Within.comp ?_ hs h0
  clear h0 hs
  unfold State.qEntryWrite
  dsimp only
  repeat' first
    | (with_reducible exact Within.refl _ _)
    | (with_reducible apply State.err_within)
    | (with_reducible apply State.qAddrNext_within)
    | (with_reducible apply State.qmgWriter_within)
    | (with_reducible apply State.setQueue_within)
    | ((with_reducible show compsIn _ _ = true); rfl)
    | (with_reducible refine Within.ite (fun _ => ?_) (fun _ => ?_))

theorem State.shaperBurstWrite_within {L : List Comp} {σ : State} (s : State) (p : Nat) (data : Word) (h0 : Within L σ s) (hs : compsIn [.regs,
    .shp] L = true) : Within L σ (State.shaperBurstWrite s p data) := by
  refine Within.comp ?_ hs h0
  clear h0 hs
  unfold State.shaperBurstWrite
  dsimp only
  repeat' first
    | (with_reducible exact Within.refl _ _)
    | (with_reducible apply State.setShaper_within)
    | (with_reducible apply State.shpWriter_within)
    | ((with_reducible show compsIn _ _ = true); rfl)

theorem State.shaperRateWrite_within {L : List Comp} {σ : State} (s : State) (p : Nat) (data : Word) (h0 : Within L σ s) (hs : compsIn [.regs,
    .shp] L = true) : Within L σ (State.shaperRateWrite s p data) := by
  refine Within.comp ?_ hs h0
  clear h0 hs
  unfold State.shaperRateWrite
  dsimp only
  repeat' first
    | (with_reducible exact Within.refl _ _)
    | (with_reducible apply State.setShaper_within)
    | (with_reducible apply State.shpWriter_within)
    | ((with_reducible show compsIn _ _ = true); rfl)

theorem State.tsrcWrite_within {L : List Comp} {σ : State} (s : State) (p k : Nat) (data : Word) (h0 : Within L σ s) (hs : compsIn [.regs, .pass,
    .time, .link] L = true) : Within L σ (State.tsrcWrite s p k data) := by
  refine Within.comp ?_ hs h0
  clear h0 hs
  unfold State.tsrcWrite
  dsimp only
  repeat' first
    | (with_reducible exact Within.refl _ _)
    | (with_reducible apply State.airSync_within)
    | (with_reducible apply State.err_within)
    | (with_reducible apply State.wr_within)
    | ((with_reducible show compsIn _ _ = true); rfl)
    | (with_reducible refine Within.ite (fun _ => ?_) (fun _ => ?_))

theorem State.putNet_within {L : List Comp} {σ : State} (s : State) (p b i : Nat) (data : Word) (plain : State) (h0 : Within L σ s) (hplain : Within L
    σ plain) (hs : compsIn [.regs, .free, .pass, .host, .time, .safe, .log, .ends, .ndir, .cvn, .cvnIds, .air, .qmg, .shp, .rf, .link,
    .slot, .key, .vault, .lpm, .mesh] L = true) : Within L σ (State.putNet s p b i data plain) := by
  unfold State.putNet
  repeat' first
    | (with_reducible assumption)
    | (with_reducible apply State.ctxWrite_within)
    | (with_reducible apply State.err_within)
    | (with_reducible apply State.flushWrite_within)
    | (with_reducible apply State.keyPanWrite_within)
    | (with_reducible apply State.lpmModeWrite_within)
    | (with_reducible apply State.nbrWrite_within)
    | (with_reducible apply State.panCtrl_within)
    | (with_reducible apply State.panIdWrite_within)
    | (with_reducible apply State.policerWrite_within)
    | (with_reducible apply State.qEntryWrite_within)
    | (with_reducible apply State.shaperBurstWrite_within)
    | (with_reducible apply State.shaperRateWrite_within)
    | (with_reducible apply State.slotErase_within)
    | (with_reducible apply State.spill_within)
    | (with_reducible apply State.tamperClear_within)
    | (with_reducible apply State.tsrcWrite_within)
    | (exact compsIn_trans (m := [.regs, .free, .pass, .host, .time, .safe, .log, .ends, .ndir, .cvn, .cvnIds, .air, .qmg, .shp, .rf,
        .link, .slot, .key, .vault, .lpm, .mesh]) rfl hs)
    | (with_reducible refine Within.ite (fun _ => ?_) (fun _ => ?_))

theorem State.bootGuarded_within {L : List Comp} {σ : State} (s : State) (p k : Nat) (data : Word) (ok : State → State) (h0 : Within L σ s) (hok :
    ∀ u , Within L σ u → Within L σ (ok u )) (hs : compsIn [.regs, .pass, .host, .safe, .log, .cvn, .cvnIds, .air, .qmg, .rf, .link] L = true) :
    Within L σ (State.bootGuarded s p k data ok) := by
  unfold State.bootGuarded
  repeat' first
    | (with_reducible assumption)
    | (with_reducible apply hok)
    | (with_reducible apply State.err_within)
    | (with_reducible apply State.guarded_within)
    | (exact compsIn_trans (m := [.regs, .pass, .host, .safe, .log, .cvn, .cvnIds, .air, .qmg, .rf, .link]) rfl hs)
    | (with_reducible refine Within.ite (fun _ => ?_) (fun _ => ?_))
    | (intro _)

theorem State.setTries_within {L : List Comp} {σ : State} (s : State) (slot n : Nat) (h0 : Within L σ s) (hs : compsIn [.regs] L = true) : Within L σ
    (State.setTries s slot n) := by
  refine Within.comp ?_ hs h0
  clear h0 hs
  unfold State.setTries
  repeat' first
    | (with_reducible exact Within.refl _ _)
    | (with_reducible apply State.setFld_within)
    | ((with_reducible show compsIn _ _ = true); rfl)

theorem State.bootSelWrite_within {L : List Comp} {σ : State} (s : State) (p : Nat) (data : Word) (h0 : Within L σ s) (hs : compsIn [.regs, .pass,
    .host, .safe, .log, .cvn, .cvnIds, .air, .qmg, .rf, .link] L = true) : Within L σ (State.bootSelWrite s p data) := by
  refine Within.comp ?_ hs h0
  clear h0 hs
  unfold State.bootSelWrite
  dsimp only
  repeat' first
    | (with_reducible exact Within.refl _ _)
    | (with_reducible assumption)
    | (with_reducible apply State.bootGuarded_within)
    | (with_reducible apply State.err_within)
    | (with_reducible apply State.setTries_within)
    | (with_reducible apply State.wr_within)
    | ((with_reducible show compsIn _ _ = true); rfl)
    | (with_reducible refine Within.ite (fun _ => ?_) (fun _ => ?_))
    | (intro _)

theorem State.ledgerGap_within {L : List Comp} {σ : State} (s : State) (first : Word) (n : Nat) (h0 : Within L σ s) (hs : compsIn [.regs, .pass,
    .host, .safe, .log, .cvn, .cvnIds, .air, .qmg, .rf, .link] L = true) : Within L σ (State.ledgerGap s first n) := by
  refine Within.comp ?_ hs h0
  clear h0 hs
  unfold State.ledgerGap
  repeat' first
    | (with_reducible exact Within.refl _ _)
    | (with_reducible apply State.bumpBy_within)
    | (with_reducible apply State.evtF_within)
    | (with_reducible apply State.ledger_within)
    | ((with_reducible show compsIn _ _ = true); rfl)

theorem State.unfreeze_within {L : List Comp} {σ : State} (s : State) (h0 : Within L σ s) (hs : compsIn [.regs, .pass, .host, .safe, .log, .cvn,
    .cvnIds, .air, .qmg, .rf, .link] L = true) : Within L σ (State.unfreeze s) := by
  refine Within.comp ?_ hs h0
  clear h0 hs
  unfold State.unfreeze
  dsimp only
  repeat' first
    | (with_reducible exact Within.refl _ _)
    | (with_reducible apply State.fifoDrain_within)
    | (with_reducible apply State.ledgerGap_within)
    | (with_reducible apply State.setFld_within)
    | ((with_reducible show compsIn _ _ = true); rfl)
    | (with_reducible refine Within.ite (fun _ => ?_) (fun _ => ?_))
    | (simp only [Within.lit]; with_reducible refine Within.upd ?_ rfl (fun k hk => ?_))
    | (cases k <;> first | (exact absurd (by decide) hk) | rfl)

theorem State.lctrlWrite_within {L : List Comp} {σ : State} (s : State) (p : Nat) (data : Word) (h0 : Within L σ s) (hs : compsIn [.regs, .pass,
    .host, .safe, .log, .cvn, .cvnIds, .air, .qmg, .rf, .link] L = true) : Within L σ (State.lctrlWrite s p data) := by
  refine Within.comp ?_ hs h0
  clear h0 hs
  unfold State.lctrlWrite
  dsimp only
  repeat' first
    | (with_reducible exact Within.refl _ _)
    | (with_reducible apply State.only0_within)
    | (with_reducible apply State.unfreeze_within)
    | (with_reducible apply State.wr_within)
    | ((with_reducible show compsIn _ _ = true); rfl)
    | (with_reducible refine Within.ite (fun _ => ?_) (fun _ => ?_))
    | (simp only [Within.lit]; with_reducible refine Within.upd ?_ rfl (fun k hk => ?_))
    | (cases k <;> first | (exact absurd (by decide) hk) | rfl)

theorem State.rollbackWrite_within {L : List Comp} {σ : State} (s : State) (p : Nat) (data : Word) (h0 : Within L σ s) (hs : compsIn [.regs,
    .pass, .host, .safe, .log, .boot, .cvn, .cvnIds, .air, .qmg, .rf, .link] L = true) : Within L σ (State.rollbackWrite s p data) := by
  refine Within.comp ?_ hs h0
  clear h0 hs
  unfold State.rollbackWrite
  dsimp only
  repeat' first
    | (with_reducible exact Within.refl _ _)
    | (with_reducible assumption)
    | (with_reducible apply State.bootGuarded_within)
    | (with_reducible apply State.setFld_within)
    | ((with_reducible show compsIn _ _ = true); rfl)
    | (with_reducible refine Within.ite (fun _ => ?_) (fun _ => ?_))
    | (simp only [Within.lit]; with_reducible refine Within.upd ?_ rfl (fun k hk => ?_))
    | (cases k <;> first | (exact absurd (by decide) hk) | rfl)
    | (intro _)

theorem State.safeCtrl_within {L : List Comp} {σ : State} (s : State) (p : Nat) (data : Word) (h0 : Within L σ s) (hs : compsIn [.regs, .pass,
    .host, .safe, .log, .cvn, .cvnIds, .air, .qmg, .rf, .link] L = true) : Within L σ (State.safeCtrl s p data) := by
  refine Within.comp ?_ hs h0
  clear h0 hs
  unfold State.safeCtrl
  dsimp only
  repeat' first
    | (with_reducible exact Within.refl _ _)
    | (with_reducible assumption)
    | (with_reducible apply State.err_within)
    | (with_reducible apply State.guarded_within)
    | (with_reducible apply State.quiet_within)
    | (with_reducible apply State.quietOver_within)
    | (with_reducible apply State.setFld_within)
    | (with_reducible apply State.wr_within)
    | ((with_reducible show compsIn _ _ = true); rfl)
    | (with_reducible refine Within.ite (fun _ => ?_) (fun _ => ?_))
    | (intro _)

theorem State.putSys_within {L : List Comp} {σ : State} (s : State) (p b i : Nat) (data : Word) (plain : State) (h0 : Within L σ s) (hplain : Within L
    σ plain) (hs : compsIn [.regs, .pass, .host, .time, .safe, .log, .save, .pwr, .boot, .cvn, .cvnIds, .air, .qmg, .rf, .rx, .link, .key,
    .vault, .mesh] L = true) : Within L σ (State.putSys s p b i data plain) := by
  unfold State.putSys
  dsimp only
  repeat' first
    | (with_reducible assumption)
    | (with_reducible apply State.bootSelWrite_within)
    | (with_reducible apply State.capWrite_within)
    | (with_reducible apply State.compareWrite_within)
    | (with_reducible apply State.domEval_within)
    | (with_reducible apply State.droverWrite_within)
    | (with_reducible apply State.forceWrite_within)
    | (with_reducible apply State.latWrite_within)
    | (with_reducible apply State.lctrlWrite_within)
    | (with_reducible apply State.only0_within)
    | (with_reducible apply State.periodWrite_within)
    | (with_reducible apply State.permitWrite_within)
    | (with_reducible apply State.ppsWrite_within)
    | (with_reducible apply State.rollbackWrite_within)
    | (with_reducible apply State.safeCtrl_within)
    | (with_reducible apply State.setTimer_within)
    | (with_reducible apply State.srcWrite_within)
    | (with_reducible apply State.sysReset_within)
    | (with_reducible apply State.timeAdjust_within)
    | (with_reducible apply State.timeSet_within)
    | (with_reducible apply State.timerClear_within)
    | (with_reducible apply State.toutWrite_within)
    | (exact compsIn_trans (m := [.regs, .pass, .host, .time, .safe, .log, .save, .pwr, .boot, .cvn, .cvnIds, .air, .qmg, .rf, .rx, .link,
        .key, .vault, .mesh]) rfl hs)
    | (with_reducible refine Within.ite (fun _ => ?_) (fun _ => ?_))

theorem State.regPut_within {L : List Comp} {σ : State} (s : State) (p a : Nat) (data : Word) (h0 : Within L σ s) (hs : compsIn [.regs, .free,
    .pass, .host, .eth, .time, .safe, .log, .save, .pwr, .boot, .cmds, .ends, .ndir, .cvn, .cvnIds, .air, .qmg, .shp, .rf, .rx, .link,
    .slot, .key, .vault, .lpm, .mesh] L = true) : Within L σ (State.regPut s p a data) := by
  refine Within.comp ?_ hs h0
  clear h0 hs
  unfold State.regPut
  dsimp only
  repeat' first
    | (with_reducible exact Within.refl _ _)
    | (with_reducible assumption)
    | (with_reducible apply State.guarded_within)
    | (with_reducible apply State.putHost_within)
    | (with_reducible apply State.putNet_within)
    | (with_reducible apply State.putPlain_within)
    | (with_reducible apply State.putRadio_within)
    | (with_reducible apply State.putSlot_within)
    | (with_reducible apply State.putSys_within)
    | ((with_reducible show compsIn _ _ = true); rfl)
    | (with_reducible refine Within.ite (fun _ => ?_) (fun _ => ?_))
    | (intro _)
    | split

theorem State.getPlain_within {L : List Comp} {σ : State} (s : State) (p a : Nat) (r : RegRow) (h0 : Within L σ s) (hs : compsIn [.regs, .host] L
    = true) : Within L σ (State.getPlain s p a r) := by
  refine Within.comp ?_ hs h0
  clear h0 hs
  unfold State.getPlain
  dsimp only
  repeat' first
    | (with_reducible exact Within.refl _ _)
    | (with_reducible apply State.answer_within)
    | (with_reducible apply State.wr_within)
    | ((with_reducible show compsIn _ _ = true); rfl)
    | (with_reducible refine Within.ite (fun _ => ?_) (fun _ => ?_))

theorem State.txtsSync_within {L : List Comp} {σ : State} (s : State) (e : Nat) (h0 : Within L σ s) (hs : compsIn [.regs] L = true) : Within L σ
    (State.txtsSync s e) := by
  refine Within.comp ?_ hs h0
  clear h0 hs
  unfold State.txtsSync
  repeat' first
    | (with_reducible exact Within.refl _ _)
    | (with_reducible apply State.setFld_within)
    | ((with_reducible show compsIn _ _ = true); rfl)

theorem State.txtsPop_within {L : List Comp} {σ : State} (s : State) (p e : Nat) (h0 : Within L σ s) (hs : compsIn [.regs, .host, .eth] L = true)
    : Within L σ (State.txtsPop s p e) := by
  refine Within.comp ?_ hs h0
  clear h0 hs
  unfold State.txtsPop
  dsimp only
  repeat' first
    | (with_reducible exact Within.refl _ _)
    | (with_reducible apply State.answer_within)
    | (with_reducible apply State.txtsSync_within)
    | (with_reducible apply State.wr_within)
    | ((with_reducible show compsIn _ _ = true); rfl)
    | (with_reducible refine Within.ite (fun _ => ?_) (fun _ => ?_))
    | (simp only [Within.lit]; with_reducible refine Within.upd ?_ rfl (fun k hk => ?_))
    | (cases k <;> first | (exact absurd (by decide) hk) | rfl)
    | split

theorem State.getHost_within {L : List Comp} {σ : State} (s : State) (p b i : Nat) (plain : State) (h0 : Within L σ s) (hplain : Within L σ plain) (hs
    : compsIn [.regs, .host, .eth] L = true) : Within L σ (State.getHost s p b i plain) := by
  unfold State.getHost
  dsimp only
  repeat' first
    | (with_reducible assumption)
    | (with_reducible apply State.answer_within)
    | (with_reducible apply State.setFld_within)
    | (with_reducible apply State.txtsPop_within)
    | (exact compsIn_trans (m := [.regs, .host, .eth]) rfl hs)
    | (with_reducible refine Within.ite (fun _ => ?_) (fun _ => ?_))

theorem State.getRadio_within {L : List Comp} {σ : State} (s : State) (p b i : Nat) (plain : State) (h0 : Within L σ s) (hplain : Within L σ plain)
    (hs : compsIn [.regs, .host, .rx] L = true) : Within L σ (State.getRadio s p b i plain) := by
  unfold State.getRadio
  repeat' first
    | (with_reducible assumption)
    | (with_reducible apply State.answer_within)
    | (with_reducible apply State.lpRead_within)
    | (with_reducible apply State.statRead_within)
    | (with_reducible apply State.weightRead_within)
    | (with_reducible apply State.wr_within)
    | (exact compsIn_trans (m := [.regs, .host, .rx]) rfl hs)
    | (with_reducible refine Within.ite (fun _ => ?_) (fun _ => ?_))

theorem State.popDataRead_within {L : List Comp} {σ : State} (s : State) (p : Nat) (h0 : Within L σ s) (hs : compsIn [.regs, .host, .air, .qmg,
    .link] L = true) : Within L σ (State.popDataRead s p) := by
  refine Within.comp ?_ hs h0
  clear h0 hs
  unfold State.popDataRead
  dsimp only
  repeat' first
    | (with_reducible exact Within.refl _ _)
    | (with_reducible apply State.answer_within)
    | ((with_reducible show compsIn _ _ = true); rfl)
    | (with_reducible refine Within.ite (fun _ => ?_) (fun _ => ?_))
    | (simp only [Within.lit]; with_reducible refine Within.upd ?_ rfl (fun k hk => ?_))
    | (cases k <;> first | (exact absurd (by decide) hk) | rfl)
    | split

theorem State.popWaitRead_within {L : List Comp} {σ : State} (s : State) (p : Nat) (h0 : Within L σ s) (hs : compsIn [.regs, .pass, .host, .time,
    .safe, .log, .cvn, .cvnIds, .air, .qmg, .shp, .rf, .link, .key, .vault, .mesh] L = true) : Within L σ (State.popWaitRead s p) := by
  refine Within.comp ?_ hs h0
  clear h0 hs
  unfold State.popWaitRead
  dsimp only
  repeat' first
    | (with_reducible exact Within.refl _ _)
    | (with_reducible apply State.answer_within)
    | (with_reducible apply State.popRelease_within)
    | (with_reducible apply State.popTake_within; assumption)
    | (with_reducible apply State.queueCheck_within)
    | ((with_reducible show compsIn _ _ = true); rfl)
    | (with_reducible refine Within.ite (fun _ => ?_) (fun _ => ?_))
    | (simp only [Within.lit]; with_reducible refine Within.upd ?_ rfl (fun k hk => ?_))
    | (cases k <;> first | (exact absurd (by decide) hk) | rfl)
    | split

theorem State.getQueue_within {L : List Comp} {σ : State} (s : State) (p b : Nat) (plain : State) (h0 : Within L σ s) (hplain : Within L σ plain) (hs
    : compsIn [.regs, .pass, .host, .time, .safe, .log, .cvn, .cvnIds, .air, .qmg, .shp, .rf, .link, .key, .vault, .mesh] L = true) : Within L
    σ (State.getQueue s p b plain) := by
  unfold State.getQueue
  dsimp only
  repeat' first
    | (with_reducible assumption)
    | (with_reducible apply State.answer_within)
    | (with_reducible apply State.popDataRead_within)
    | (with_reducible apply State.popWaitRead_within)
    | (with_reducible apply State.qAddrNext_within)
    | (with_reducible apply State.setPolicer_within)
    | (with_reducible apply State.setQueue_within)
    | (exact compsIn_trans (m := [.regs, .pass, .host, .time, .safe, .log, .cvn, .cvnIds, .air, .qmg, .shp, .rf, .link, .key, .vault,
        .mesh]) rfl hs)
    | (with_reducible refine Within.ite (fun _ => ?_) (fun _ => ?_))
    | (simp only [Within.lit]; with_reducible refine Within.upd ?_ rfl (fun k hk => ?_))
    | (cases k <;> first | (exact absurd (compsIn_mem hs (by decide)) hk) | rfl)
    | split

theorem State.cellRead_within {L : List Comp} {σ : State} (s : State) (part : Nat) (h0 : Within L σ s) (hs : compsIn [.regs, .host] L = true) : Within
    L σ (State.cellRead s part) := by
  refine Within.comp ?_ hs h0
  clear h0 hs
  unfold State.cellRead
  dsimp only
  repeat' first
    | (with_reducible exact Within.refl _ _)
    | (with_reducible apply State.answer_within)
    | (with_reducible apply State.cellNext_within)
    | (with_reducible apply State.wr_within)
    | ((with_reducible show compsIn _ _ = true); rfl)

theorem State.hopRead_within {L : List Comp} {σ : State} (s : State) (part : Nat) (h0 : Within L σ s) (hs : compsIn [.regs, .host] L = true) : Within
    L σ (State.hopRead s part) := by
  refine Within.comp ?_ hs h0
  clear h0 hs
  unfold State.hopRead
  repeat' first
    | (with_reducible exact Within.refl _ _)
    | (with_reducible apply State.answer_within)
    | (with_reducible apply State.hopNext_within)
    | ((with_reducible show compsIn _ _ = true); rfl)

theorem State.getNet_within {L : List Comp} {σ : State} (s : State) (p b : Nat) (plain : State) (h0 : Within L σ s) (hplain : Within L σ plain) (hs :
    compsIn [.regs, .host] L = true) : Within L σ (State.getNet s p b plain) := by
  unfold State.getNet
  dsimp only
  repeat' first
    | (with_reducible assumption)
    | (with_reducible apply State.answer_within)
    | (with_reducible apply State.cellRead_within)
    | (with_reducible apply State.hopRead_within)
    | (exact compsIn_trans (m := [.regs, .host]) rfl hs)
    | (with_reducible refine Within.ite (fun _ => ?_) (fun _ => ?_))

theorem State.countHigh_within {L : List Comp} {σ : State} (s : State) (p t : Nat) (h0 : Within L σ s) (hs : compsIn [.host, .time] L = true) : Within
    L σ (State.countHigh s p t) := by
  refine Within.comp ?_ hs h0
  clear h0 hs
  unfold State.countHigh
  dsimp only
  repeat' first
    | (with_reducible exact Within.refl _ _)
    | (with_reducible apply State.answer_within)
    | (with_reducible apply State.setTimer_within)
    | ((with_reducible show compsIn _ _ = true); rfl)
    | split

theorem State.timeHigh_within {L : List Comp} {σ : State} (s : State) (p : Nat) (h0 : Within L σ s) (hs : compsIn [.host, .time] L = true) : Within L
    σ (State.timeHigh s p) := by
  refine Within.comp ?_ hs h0
  clear h0 hs
  unfold State.timeHigh
  dsimp only
  repeat' first
    | (with_reducible exact Within.refl _ _)
    | (with_reducible apply State.answer_within)
    | ((with_reducible show compsIn _ _ = true); rfl)
    | (simp only [Within.lit]; with_reducible refine Within.upd ?_ rfl (fun k hk => ?_))
    | (cases k <;> first | (exact absurd (by decide) hk) | rfl)
    | split

theorem State.logNext_within {L : List Comp} {σ : State} (s : State) (k : Nat) (fi fw : Fld) (h0 : Within L σ s) (hs : compsIn [.regs] L = true) :
    Within L σ (State.logNext s k fi fw) := by
  refine Within.comp ?_ hs h0
  clear h0 hs
  unfold State.logNext
  dsimp only
  repeat' first
    | (with_reducible exact Within.refl _ _)
    | (with_reducible apply State.setFld_within)
    | ((with_reducible show compsIn _ _ = true); rfl)
    | (with_reducible refine Within.ite (fun _ => ?_) (fun _ => ?_))

theorem State.logRead_within {L : List Comp} {σ : State} (s : State) (p : Nat) (trail : Bool) (h0 : Within L σ s) (hs : compsIn [.regs, .pass,
    .host, .safe, .log, .cvn, .cvnIds, .air, .qmg, .rf, .link] L = true) : Within L σ (State.logRead s p trail) := by
  refine Within.comp ?_ hs h0
  clear h0 hs
  unfold State.logRead
  dsimp only
  repeat' first
    | (with_reducible exact Within.refl _ _)
    | (with_reducible apply State.answer_within)
    | (with_reducible apply State.logNext_within)
    | ((with_reducible show compsIn _ _ = true); rfl)
    | (with_reducible refine Within.ite (fun _ => ?_) (fun _ => ?_))

theorem State.getSys_within {L : List Comp} {σ : State} (s : State) (p b i : Nat) (plain : State) (h0 : Within L σ s) (hplain : Within L σ plain) (hs
    : compsIn [.regs, .free, .pass, .host, .time, .safe, .log, .cvn, .cvnIds, .air, .qmg, .rf, .link] L = true) : Within L σ (State.getSys s p
    b i plain) := by
  unfold State.getSys
  dsimp only
  repeat' first
    | (with_reducible assumption)
    | (with_reducible apply State.answer_within)
    | (with_reducible apply State.countHigh_within)
    | (with_reducible apply State.countRead_within)
    | (with_reducible apply State.free!_within)
    | (with_reducible apply State.logRead_within)
    | (with_reducible apply State.timeHigh_within)
    | (with_reducible apply State.timeRead_within)
    | (with_reducible apply State.wr_within)
    | (exact compsIn_trans (m := [.regs, .free, .pass, .host, .time, .safe, .log, .cvn, .cvnIds, .air, .qmg, .rf, .link]) rfl hs)
    | (with_reducible refine Within.ite (fun _ => ?_) (fun _ => ?_))

theorem State.regGet_within {L : List Comp} {σ : State} (s : State) (p a : Nat) (h0 : Within L σ s) (hs : compsIn [.regs, .free, .pass, .host,
    .eth, .time, .safe, .log, .cvn, .cvnIds, .air, .qmg, .shp, .rf, .rx, .link, .key, .vault, .mesh] L = true) : Within L σ (State.regGet s p
    a) := by
  refine Within.comp ?_ hs h0
  clear h0 hs
  unfold State.regGet
  dsimp only
  repeat' first
    | (with_reducible exact Within.refl _ _)
    | (with_reducible apply State.answer_within)
    | (with_reducible apply State.getHost_within)
    | (with_reducible apply State.getNet_within)
    | (with_reducible apply State.getPlain_within)
    | (with_reducible apply State.getQueue_within)
    | (with_reducible apply State.getRadio_within)
    | (with_reducible apply State.getSys_within)
    | ((with_reducible show compsIn _ _ = true); rfl)
    | (with_reducible refine Within.ite (fun _ => ?_) (fun _ => ?_))
    | split

theorem State.writeSend_within {L : List Comp} {σ : State} (s : State) (p a : Nat) (data : Word) (h0 : Within L σ s) (hs : compsIn [.regs, .pass,
    .host] L = true) : Within L σ (State.writeSend s p a data) := by
  refine Within.comp ?_ hs h0
  clear h0 hs
  unfold State.writeSend
  dsimp only
  repeat' first
    | (with_reducible exact Within.refl _ _)
    | (with_reducible apply State.bump_within)
    | (with_reducible apply State.guardTake_within)
    | (with_reducible apply State.sendRegWr_within)
    | ((with_reducible show compsIn _ _ = true); rfl)
    | (with_reducible refine Within.ite (fun _ => ?_) (fun _ => ?_))

theorem State.sysRefuse_within {L : List Comp} {σ : State} (s : State) (p a : Nat) (h0 : Within L σ s) (hs : compsIn [.regs, .host] L = true) : Within
    L σ (State.sysRefuse s p a) := by
  refine Within.comp ?_ hs h0
  clear h0 hs
  unfold State.sysRefuse
  repeat' first
    | (with_reducible exact Within.refl _ _)
    | (with_reducible apply State.armLock_within)
    | (with_reducible apply State.partRefuse_within)
    | ((with_reducible show compsIn _ _ = true); rfl)
    | (with_reducible refine Within.ite (fun _ => ?_) (fun _ => ?_))

theorem State.barWrite_within {L : List Comp} {σ : State} (s : State) (p a : Nat) (data : Word) (h0 : Within L σ s) (hs : compsIn [.regs, .free,
    .pass, .host, .eth, .time, .safe, .log, .save, .pwr, .boot, .cmds, .ends, .ndir, .cvn, .cvnIds, .air, .qmg, .shp, .rf, .rx, .link,
    .slot, .key, .vault, .lpm, .mesh] L = true) : Within L σ (State.barWrite s p a data) := by
  refine Within.comp ?_ hs h0
  clear h0 hs
  unfold State.barWrite
  dsimp only
  repeat' first
    | (with_reducible exact Within.refl _ _)
    | (with_reducible apply State.bump_within)
    | (with_reducible apply State.guardTake_within)
    | (with_reducible apply State.passCross_within)
    | (with_reducible apply State.regPut_within)
    | (with_reducible apply State.sysRefuse_within)
    | (with_reducible apply State.writeSend_within)
    | ((with_reducible show compsIn _ _ = true); rfl)
    | (with_reducible refine Within.ite (fun _ => ?_) (fun _ => ?_))
    | split

theorem State.busWrite_within {L : List Comp} {σ : State} (s : State) (p off : Nat) (be : BitVec 4) (data : Word) (h0 : Within L σ s) (hs :
    compsIn [.regs, .free, .pass, .host, .eth, .time, .safe, .log, .save, .pwr, .boot, .cmds, .ends, .ndir, .cvn, .cvnIds, .air, .qmg,
    .shp, .rf, .rx, .link, .slot, .key, .vault, .lpm, .mesh] L = true) : Within L σ (State.busWrite s p off be data) := by
  refine Within.comp ?_ hs h0
  clear h0 hs
  unfold State.busWrite
  repeat' first
    | (with_reducible exact Within.refl _ _)
    | (with_reducible apply State.barWrite_within)
    | ((with_reducible show compsIn _ _ = true); rfl)
    | (with_reducible refine Within.ite (fun _ => ?_) (fun _ => ?_))
    | split

theorem State.fRead_within {L : List Comp} {σ : State} (s : State) (p a tag : Nat) (h0 : Within L σ s) (hs : compsIn [.regs, .free, .pass, .host,
    .eth, .time, .safe, .log, .cvn, .cvnIds, .air, .qmg, .shp, .rf, .rx, .link, .key, .vault, .mesh] L = true) : Within L σ (State.fRead s p a
    tag) := by
  refine Within.comp ?_ hs h0
  clear h0 hs
  unfold State.fRead
  dsimp only
  repeat' first
    | (with_reducible exact Within.refl _ _)
    | (with_reducible apply State.regGet_within)
    | (with_reducible apply State.regRsp_within)
    | ((with_reducible show compsIn _ _ = true); rfl)
    | (with_reducible refine Within.ite (fun _ => ?_) (fun _ => ?_))
    | (simp only [Within.lit]; with_reducible refine Within.upd ?_ rfl (fun k hk => ?_))
    | (cases k <;> first | (exact absurd (by decide) hk) | rfl)

theorem State.barRead_within {L : List Comp} {σ : State} (s : State) (p a : Nat) (h0 : Within L σ s) (hs : compsIn [.regs, .free, .pass, .host,
    .eth, .time, .safe, .log, .cvn, .cvnIds, .air, .qmg, .shp, .rf, .rx, .link, .key, .vault, .mesh] L = true) : Within L σ (State.barRead s p
    a) := by
  refine Within.comp ?_ hs h0
  clear h0 hs
  unfold State.barRead
  dsimp only
  repeat' first
    | (with_reducible exact Within.refl _ _)
    | (with_reducible apply State.answer_within)
    | (with_reducible apply State.fRead_within)
    | (with_reducible apply State.passCross_within)
    | (with_reducible apply State.passSend_within)
    | (with_reducible apply State.regGet_within)
    | ((with_reducible show compsIn _ _ = true); rfl)
    | (with_reducible refine Within.ite (fun _ => ?_) (fun _ => ?_))
    | (simp only [Within.lit]; with_reducible refine Within.upd ?_ rfl (fun k hk => ?_))
    | (cases k <;> first | (exact absurd (by decide) hk) | rfl)

theorem State.busRead_within {L : List Comp} {σ : State} (s : State) (p off : Nat) (h0 : Within L σ s) (hs : compsIn [.regs, .free, .pass, .host,
    .eth, .time, .safe, .log, .cvn, .cvnIds, .air, .qmg, .shp, .rf, .rx, .link, .key, .vault, .mesh] L = true) : Within L σ (State.busRead s p
    off) := by
  refine Within.comp ?_ hs h0
  clear h0 hs
  unfold State.busRead
  repeat' first
    | (with_reducible exact Within.refl _ _)
    | (with_reducible apply State.answer_within)
    | (with_reducible apply State.barRead_within)
    | ((with_reducible show compsIn _ _ = true); rfl)
    | (with_reducible refine Within.ite (fun _ => ?_) (fun _ => ?_))
    | split

theorem State.readSplit_within {L : List Comp} {σ : State} (s : State) (p : Nat) (h0 : Within L σ s) (hs : compsIn [.host] L = true) : Within L σ
    (State.readSplit s p) := by
  refine Within.comp ?_ hs h0
  clear h0 hs
  unfold State.readSplit
  dsimp only
  repeat' first
    | (with_reducible exact Within.refl _ _)
    | (simp only [Within.lit]; with_reducible refine Within.upd ?_ rfl (fun k hk => ?_))
    | (cases k <;> first | (exact absurd (by decide) hk) | rfl)

theorem State.regReject_within {L : List Comp} {σ : State} (s : State) (d : Die) (typ : Nat) (m : PassMsg) (h0 : Within L σ s) (hs : compsIn
    [.regs, .free, .pass, .host] L = true) : Within L σ (State.regReject s d typ m) := by
  refine Within.comp ?_ hs h0
  clear h0 hs
  unfold State.regReject
  repeat' first
    | (with_reducible exact Within.refl _ _)
    | (with_reducible apply State.passReject_within)
    | (with_reducible apply State.setFld_within)
    | ((with_reducible show compsIn _ _ = true); rfl)

theorem State.withGuard_within {L : List Comp} {σ : State} (s : State) (p : Nat) (g : Bool) (f : State → State) (h0 : Within L σ s) (hf : ∀ u , Within
    L σ u → Within L σ (f u )) (hs : compsIn [.regs, .host] L = true) : Within L σ (State.withGuard s p g f) := by
  unfold State.withGuard
  dsimp only
  repeat' first
    | (with_reducible assumption)
    | (with_reducible apply hf)
    | (with_reducible apply State.setFld_within)
    | (with_reducible apply State.wr_within)
    | (exact compsIn_trans (m := [.regs, .host]) rfl hs)
    | (simp only [Within.lit]; with_reducible refine Within.upd ?_ rfl (fun k hk => ?_))
    | (cases k <;> first | (exact absurd (compsIn_mem hs (by decide)) hk) | rfl)

theorem State.panReg_within {L : List Comp} {σ : State} (s : State) (part p k : Nat) (v : Word) (h0 : Within L σ s) (hs : compsIn [.regs] L =
    true) : Within L σ (State.panReg s part p k v) := by
  refine Within.comp ?_ hs h0
  clear h0 hs
  unfold State.panReg
  repeat' first
    | (with_reducible exact Within.refl _ _)
    | (with_reducible apply State.err_within)
    | (with_reducible apply State.wr_within)
    | ((with_reducible show compsIn _ _ = true); rfl)
    | (with_reducible refine Within.ite (fun _ => ?_) (fun _ => ?_))

theorem State.engStop_within {L : List Comp} {σ : State} (s : State) (h0 : Within L σ s) (hs : compsIn [.regs, .slot] L = true) : Within L σ
    (State.engStop s) := by
  refine Within.comp ?_ hs h0
  clear h0 hs
  unfold State.engStop
  repeat' first
    | (with_reducible exact Within.refl _ _)
    | (with_reducible assumption)
    | (with_reducible apply State.engSet_within)
    | (with_reducible apply State.matchSync_within)
    | (with_reducible apply State.setEng_within)
    | ((with_reducible show compsIn _ _ = true); rfl)
    | (with_reducible refine Within.ite (fun _ => ?_) (fun _ => ?_))
    | (with_reducible refine Within.foldl ?_ (fun _ _ _ => ?_))

theorem State.planDrop_within {L : List Comp} {σ : State} (s : State) (h0 : Within L σ s) (hs : compsIn [.air, .qmg, .slot] L = true) : Within L σ
    (State.planDrop s) := by
  refine Within.comp ?_ hs h0
  clear h0 hs
  unfold State.planDrop
  dsimp only
  repeat' first
    | (with_reducible exact Within.refl _ _)
    | (with_reducible assumption)
    | (with_reducible apply State.attemptDrop_within)
    | (with_reducible apply State.frameMod_within)
    | ((with_reducible show compsIn _ _ = true); rfl)
    | (with_reducible refine Within.ite (fun _ => ?_) (fun _ => ?_))
    | (with_reducible refine Within.foldl ?_ (fun _ _ _ => ?_))
    | (simp only [Within.lit]; with_reducible refine Within.upd ?_ rfl (fun k hk => ?_))
    | (cases k <;> first | (exact absurd (by decide) hk) | rfl)
    | split

theorem State.slotHalt_within {L : List Comp} {σ : State} (s : State) (h0 : Within L σ s) (hs : compsIn [.regs, .air, .qmg, .slot] L = true) : Within
    L σ (State.slotHalt s) := by
  refine Within.comp ?_ hs h0
  clear h0 hs
  unfold State.slotHalt
  dsimp only
  repeat' first
    | (with_reducible exact Within.refl _ _)
    | (with_reducible apply State.engStop_within)
    | (with_reducible apply State.planDrop_within)
    | (with_reducible apply State.wr_within)
    | ((with_reducible show compsIn _ _ = true); rfl)
    | (simp only [Within.lit]; with_reducible refine Within.upd ?_ rfl (fun k hk => ?_))
    | (cases k <;> first | (exact absurd (by decide) hk) | rfl)

theorem State.engProbation_within {L : List Comp} {σ : State} (s : State) (e : Nat) (h0 : Within L σ s) (hs : compsIn [.regs, .slot] L = true) :
    Within L σ (State.engProbation s e) := by
  refine Within.comp ?_ hs h0
  clear h0 hs
  unfold State.engProbation
  repeat' first
    | (with_reducible exact Within.refl _ _)
    | (with_reducible apply State.engSet_within)
    | (with_reducible apply State.matchSync_within)
    | (with_reducible apply State.setEng_within)
    | ((with_reducible show compsIn _ _ = true); rfl)
    | (with_reducible refine Within.ite (fun _ => ?_) (fun _ => ?_))

theorem State.engRevert_within {L : List Comp} {σ : State} (s : State) (e n : Nat) (h0 : Within L σ s) (hs : compsIn [.regs, .pass, .host, .safe,
    .log, .cvn, .cvnIds, .air, .qmg, .rf, .link, .slot] L = true) : Within L σ (State.engRevert s e n) := by
  refine Within.comp ?_ hs h0
  clear h0 hs
  unfold State.engRevert
  dsimp only
  repeat' first
    | (with_reducible exact Within.refl _ _)
    | (with_reducible apply State.engPrimary_within)
    | (with_reducible apply State.engSet_within)
    | (with_reducible apply State.evtF_within)
    | (with_reducible apply State.ledger_within)
    | (with_reducible apply State.matchSync_within)
    | (with_reducible apply State.setEng_within)
    | ((with_reducible show compsIn _ _ = true); rfl)
    | (with_reducible refine Within.ite (fun _ => ?_) (fun _ => ?_))

theorem State.dozeDrop_within {L : List Comp} {σ : State} (s : State) (h0 : Within L σ s) (hs : compsIn [.regs, .rx] L = true) : Within L σ
    (State.dozeDrop s) := by
  refine Within.comp ?_ hs h0
  clear h0 hs
  unfold State.dozeDrop
  dsimp only
  repeat' first
    | (with_reducible exact Within.refl _ _)
    | (with_reducible assumption)
    | (with_reducible apply State.freeLane_within)
    | ((with_reducible show compsIn _ _ = true); rfl)
    | (with_reducible refine Within.foldl ?_ (fun _ _ _ => ?_))
    | (simp only [Within.lit]; with_reducible refine Within.upd ?_ rfl (fun k hk => ?_))
    | (cases k <;> first | (exact absurd (by decide) hk) | rfl)

theorem State.deeperDue_within {L : List Comp} {σ : State} (s : State) (h0 : Within L σ s) (hs : compsIn [.regs, .pass, .pwr, .air, .rf, .rx] L =
    true) : Within L σ (State.deeperDue s) := by
  refine Within.comp ?_ hs h0
  clear h0 hs
  unfold State.deeperDue
  dsimp only
  repeat' first
    | (with_reducible exact Within.refl _ _)
    | (with_reducible apply State.dozeDrop_within)
    | (with_reducible apply State.gateEval_within)
    | (with_reducible apply State.pwrTake_within)
    | ((with_reducible show compsIn _ _ = true); rfl)
    | (with_reducible refine Within.ite (fun _ => ?_) (fun _ => ?_))
    | (simp only [Within.lit]; with_reducible refine Within.upd ?_ rfl (fun k hk => ?_))
    | (cases k <;> first | (exact absurd (by decide) hk) | rfl)
    | split

theorem State.boundaryDue_within {L : List Comp} {σ : State} (s : State) (h0 : Within L σ s) (hs : compsIn [.regs, .pass, .pwr, .air, .rf, .rx,
    .slot] L = true) : Within L σ (State.boundaryDue s) := by
  refine Within.comp ?_ hs h0
  clear h0 hs
  unfold State.boundaryDue
  dsimp only
  repeat' first
    | (with_reducible exact Within.refl _ _)
    | (with_reducible apply State.deeperDue_within)
    | (with_reducible apply State.weightSwap_within)
    | ((with_reducible show compsIn _ _ = true); rfl)
    | (simp only [Within.lit]; with_reducible refine Within.upd ?_ rfl (fun k hk => ?_))
    | (cases k <;> first | (exact absurd (by decide) hk) | rfl)

theorem State.txMod_within {L : List Comp} {σ : State} (s : State) (id : Nat) (g : AirTx → AirTx) (h0 : Within L σ s) (hs : compsIn [.air] L =
    true) : Within L σ (State.txMod s id g) := by
  refine Within.comp ?_ hs h0
  clear h0 hs
  unfold State.txMod
  repeat' first
    | (with_reducible exact Within.refl _ _)
    | (simp only [Within.lit]; with_reducible refine Within.upd ?_ rfl (fun k hk => ?_))
    | (cases k <;> first | (exact absurd (by decide) hk) | rfl)

theorem State.txPins_within {L : List Comp} {σ : State} (s : State) (t : AirTx) (end_ : Nat) (h0 : Within L σ s) (hs : compsIn [.rf] L = true) :
    Within L σ (State.txPins s t end_) := by
  refine Within.comp ?_ hs h0
  clear h0 hs
  unfold State.txPins
  dsimp only
  repeat' first
    | (with_reducible exact Within.refl _ _)
    | (simp only [Within.lit]; with_reducible refine Within.upd ?_ rfl (fun k hk => ?_))
    | (cases k <;> first | (exact absurd (by decide) hk) | rfl)

theorem State.txAttempt_within {L : List Comp} {σ : State} (s : State) (t : AirTx) (h0 : Within L σ s) (hs : compsIn [.regs, .free, .pass, .host,
    .safe, .log, .cvn, .cvnIds, .air, .qmg, .rf, .link, .slot, .key, .vault, .mesh] L = true) : Within L σ (State.txAttempt s t) := by
  refine Within.comp ?_ hs h0
  clear h0 hs
  unfold State.txAttempt
  dsimp only
  repeat' first
    | (with_reducible exact Within.refl _ _)
    | (with_reducible apply State.attemptCheck_within)
    | (with_reducible apply State.attemptDrop_within)
    | (with_reducible apply State.attemptFail_within)
    | (with_reducible apply State.finish_within)
    | ((with_reducible show compsIn _ _ = true); rfl)
    | (with_reducible refine Within.ite (fun _ => ?_) (fun _ => ?_))
    | (simp only [Within.lit]; with_reducible refine Within.upd ?_ rfl (fun k hk => ?_))
    | (cases k <;> first | (exact absurd (by decide) hk) | rfl)
    | split

theorem State.ackMod_within {L : List Comp} {σ : State} (s : State) (q : AckPt) (g : AckPt → AckPt) (h0 : Within L σ s) (hs : compsIn [.slot] L =
    true) : Within L σ (State.ackMod s q g) := by
  refine Within.comp ?_ hs h0
  clear h0 hs
  unfold State.ackMod
  dsimp only
  repeat' first
    | (with_reducible exact Within.refl _ _)
    | (simp only [Within.lit]; with_reducible refine Within.upd ?_ rfl (fun k hk => ?_))
    | (cases k <;> first | (exact absurd (by decide) hk) | rfl)

theorem State.ackAdmit_within {L : List Comp} {σ : State} (s : State) (a : EnhAck) (b : Nat) (h0 : Within L σ s) (hs : compsIn [.regs, .air,
    .slot] L = true) : Within L σ (State.ackAdmit s a b) := by
  refine Within.comp ?_ hs h0
  clear h0 hs
  unfold State.ackAdmit
  dsimp only
  repeat' first
    | (with_reducible exact Within.refl _ _)
    | (with_reducible apply State.bump_within)
    | (with_reducible apply State.grantCount_within)
    | ((with_reducible show compsIn _ _ = true); rfl)
    | (with_reducible refine Within.ite (fun _ => ?_) (fun _ => ?_))
    | (simp only [Within.lit]; with_reducible refine Within.upd ?_ rfl (fun k hk => ?_))
    | (cases k <;> first | (exact absurd (by decide) hk) | rfl)
    | split

theorem State.ackSend_within {L : List Comp} {σ : State} (s : State) (a : EnhAck) (from_ : Nat) (h0 : Within L σ s) (hs : compsIn [.regs, .pass,
    .host, .safe, .log, .cvn, .cvnIds, .air, .qmg, .rf, .link, .key, .vault] L = true) : Within L σ (State.ackSend s a from_) := by
  refine Within.comp ?_ hs h0
  clear h0 hs
  unfold State.ackSend
  dsimp only
  repeat' first
    | (with_reducible exact Within.refl _ _)
    | (with_reducible apply State.bump_within)
    | (with_reducible apply State.ctrTake_within)
    | (with_reducible apply State.fillTx_within)
    | (with_reducible apply State.keyUse_within)
    | (with_reducible apply State.setNbr_within)
    | ((with_reducible show compsIn _ _ = true); rfl)
    | (with_reducible refine Within.ite (fun _ => ?_) (fun _ => ?_))
    | split

theorem State.dirRun_within {L : List Comp} {σ : State} (s : State) (c : CmdDesc) (f : State → State) (h0 : Within L σ s) (hf : ∀ u , Within L σ u →
    Within L σ (f u )) (hs : compsIn [.pass, .cmds, .ends] L = true) : Within L σ (State.dirRun s c f) := by
  unfold State.dirRun
  repeat' first
    | (with_reducible assumption)
    | (with_reducible apply hf)
    | (with_reducible apply State.cmdBad_within)
    | (with_reducible apply State.cmdTake_within)
    | (exact compsIn_trans (m := [.pass, .cmds, .ends]) rfl hs)
    | (with_reducible refine Within.ite (fun _ => ?_) (fun _ => ?_))

theorem State.dirSync_within {L : List Comp} {σ : State} (s : State) (h0 : Within L σ s) (hs : compsIn [.regs] L = true) : Within L σ (State.dirSync
    s) := by
  refine Within.comp ?_ hs h0
  clear h0 hs
  unfold State.dirSync
  dsimp only
  repeat' first
    | (with_reducible exact Within.refl _ _)
    | (with_reducible apply State.setFld_within)
    | ((with_reducible show compsIn _ _ = true); rfl)

theorem State.evtInsertFull_within {L : List Comp} {σ : State} (s : State) (b : Bool) (detail key : Nat) (h0 : Within L σ s) (hs : compsIn [.pass]
    L = true) : Within L σ (State.evtInsertFull s b detail key) := by
  refine Within.comp ?_ hs h0
  clear h0 hs
  unfold State.evtInsertFull
  dsimp only
  repeat' first
    | (with_reducible exact Within.refl _ _)
    | (with_reducible apply State.evtF_within)
    | ((with_reducible show compsIn _ _ = true); rfl)

theorem State.idxMove_within {L : List Comp} {σ : State} (s : State) (b : Bool) (src dst : Nat) (e : IdxEntry) (h0 : Within L σ s) (hs : compsIn
    [.regs, .dir] L = true) : Within L σ (State.idxMove s b src dst e) := by
  refine Within.comp ?_ hs h0
  clear h0 hs
  unfold State.idxMove
  dsimp only
  repeat' first
    | (with_reducible exact Within.refl _ _)
    | (with_reducible apply State.bump_within)
    | (with_reducible apply State.setIdx_within)
    | ((with_reducible show compsIn _ _ = true); rfl)
    | (simp only [Within.lit]; with_reducible refine Within.upd ?_ rfl (fun k hk => ?_))
    | (cases k <;> first | (exact absurd (by decide) hk) | rfl)

theorem State.idxInsert_within {L : List Comp} {σ : State} {s : State} {b : Bool} {key ord : Nat} {τ : State} {ξ : Bool} (h : State.idxInsert
    s b key ord = some (τ, ξ)) (h0 : Within L σ s) (hs : compsIn [.regs, .pass, .dir] L = true) : Within L σ τ := by
  refine Within.comp ?_ hs h0
  clear h0 hs
  revert h
  unfold State.idxInsert
  dsimp only
  (repeat' split) <;> intro h <;> simp only [reduceCtorEq, Option.some.injEq, Prod.mk.injEq] at h <;> (first | (obtain ⟨rfl, rfl⟩ := h) |
      subst h) <;> (repeat' first
    | (with_reducible exact Within.refl _ _)
    | (with_reducible apply State.evtInsertFull_within)
    | (with_reducible apply State.idxMove_within)
    | (with_reducible apply State.setIdx_within)
    | ((with_reducible show compsIn _ _ = true); rfl)
    | (simp only [Within.lit]; with_reducible refine Within.upd ?_ rfl (fun k hk => ?_))
    | (cases k <;> first | (exact absurd (by decide) hk) | rfl))

theorem State.idxRemove_within {L : List Comp} {σ : State} (s : State) (b : Bool) (key : Nat) (h0 : Within L σ s) (hs : compsIn [.regs, .dir] L =
    true) : Within L σ (State.idxRemove s b key) := by
  refine Within.comp ?_ hs h0
  clear h0 hs
  unfold State.idxRemove
  dsimp only
  repeat' first
    | (with_reducible exact Within.refl _ _)
    | (with_reducible apply State.bump_within)
    | (with_reducible apply State.idxMove_within)
    | (with_reducible apply State.setIdx_within)
    | ((with_reducible show compsIn _ _ = true); rfl)
    | (with_reducible refine Within.ite (fun _ => ?_) (fun _ => ?_))
    | split

theorem State.shortAssign_within {L : List Comp} {σ : State} (s : State) (p a : Nat) (h0 : Within L σ s) (hs : compsIn [.regs, .link] L = true) :
    Within L σ (State.shortAssign s p a) := by
  refine Within.comp ?_ hs h0
  clear h0 hs
  unfold State.shortAssign
  dsimp only
  repeat' first
    | (with_reducible exact Within.refl _ _)
    | (with_reducible apply State.addrSync_within)
    | ((with_reducible show compsIn _ _ = true); rfl)
    | (simp only [Within.lit]; with_reducible refine Within.upd ?_ rfl (fun k hk => ?_))
    | (cases k <;> first | (exact absurd (by decide) hk) | rfl)

theorem State.nodeCreate_within {L : List Comp} {σ : State} {s : State} {o : Nat} {r : NodeRec} (h0 : Within L σ s) (hs : compsIn [.regs, .pass,
    .ndir, .link, .dir] L = true) :
    (∀ k t, s.nodeCreate o r = .error (k, t) → Within L σ t) ∧ ∀ t m, s.nodeCreate o r = .ok (t, m) → Within L σ t := by
  constructor <;> intro x y h <;> unfold State.nodeCreate at h <;> dsimp only at h <;> (repeat' split at h) <;>
    simp only [reduceCtorEq, Except.error.injEq, Except.ok.injEq, Prod.mk.injEq] at h <;> obtain ⟨rfl, rfl⟩ := h <;>
    (repeat' first
    | (with_reducible assumption)
    | (with_reducible apply State.bump_within)
    | (with_reducible apply State.idxInsert_within; assumption)
    | (with_reducible apply State.dirSync_within)
    | (with_reducible apply State.setNode_within)
    | (with_reducible apply State.shortAssign_within)
    | (with_reducible apply State.idxRemove_within)
    | (exact compsIn_trans (m := [.regs, .pass, .ndir, .link, .dir]) rfl hs))

theorem State.ordVoid_within {L : List Comp} {σ : State} (s : State) (o : Nat) (h0 : Within L σ s) (hs : compsIn [.cvn] L = true) : Within L σ
    (State.ordVoid s o) := by
  refine Within.comp ?_ hs h0
  clear h0 hs
  unfold State.ordVoid
  dsimp only
  repeat' first
    | (with_reducible exact Within.refl _ _)
    | (simp only [Within.lit]; with_reducible refine Within.upd ?_ rfl (fun k hk => ?_))
    | (cases k <;> first | (exact absurd (by decide) hk) | rfl)

theorem State.nodeDelete_within {L : List Comp} {σ : State} (s : State) (o : Nat) (h0 : Within L σ s) (hs : compsIn [.regs, .pass, .host, .safe,
    .log, .ndir, .cvn, .cvnIds, .air, .qmg, .rf, .link, .key, .vault, .dir, .mesh] L = true) : Within L σ (State.nodeDelete s o) := by
  refine Within.comp ?_ hs h0
  clear h0 hs
  unfold State.nodeDelete
  dsimp only
  repeat' first
    | (with_reducible exact Within.refl _ _)
    | (with_reducible apply State.cvnSettle_within)
    | (with_reducible apply State.dirSync_within)
    | (with_reducible apply State.idxRemove_within)
    | (with_reducible apply State.nbrRemove_within)
    | (with_reducible apply State.ordVoid_within)
    | (with_reducible apply State.setNode_within)
    | (with_reducible apply State.shortQuar_within)
    | ((with_reducible show compsIn _ _ = true); rfl)
    | (with_reducible refine Within.ite (fun _ => ?_) (fun _ => ?_))
    | (simp only [Within.lit]; with_reducible refine Within.upd ?_ rfl (fun k hk => ?_))
    | (cases k <;> first | (exact absurd (by decide) hk) | rfl)

theorem State.nextItems_within {L : List Comp} {σ : State} (s : State) (b : Bool) (since : Option Nat) (es : List (Nat × IdxEntry)) (h0 : Within L
    σ s) (hs : compsIn [.free] L = true) : Within L σ (State.nextItems s b since es).2 := by
  refine Within.comp ?_ hs h0
  clear h0 hs
  unfold State.nextItems
  dsimp only
  repeat' first
    | (with_reducible exact Within.refl _ _)
    | (with_reducible assumption)
    | (with_reducible apply State.draw_within)
    | ((with_reducible show compsIn _ _ = true); rfl)
    | (with_reducible refine Within.foldl2 ?_ (fun _ _ _ => ?_))
    | (with_reducible refine Within.ite2 (fun _ => ?_) (fun _ => ?_))

theorem State.setIter_within {L : List Comp} {σ : State} (s : State) (p i : Nat) (x : Option Iter) (h0 : Within L σ s) (hs : compsIn [.dir] L =
    true) : Within L σ (State.setIter s p i x) := by
  refine Within.comp ?_ hs h0
  clear h0 hs
  unfold State.setIter
  dsimp only
  repeat' first
    | (with_reducible exact Within.refl _ _)
    | (simp only [Within.lit]; with_reducible refine Within.upd ?_ rfl (fun k hk => ?_))
    | (cases k <;> first | (exact absurd (by decide) hk) | rfl)

theorem State.setFlush_within {L : List Comp} {σ : State} (s : State) (j : FlushJob) (h0 : Within L σ s) (hs : compsIn [.dir] L = true) : Within L σ
    (State.setFlush s j) := by
  refine Within.comp ?_ hs h0
  clear h0 hs
  unfold State.setFlush
  dsimp only
  repeat' first
    | (with_reducible exact Within.refl _ _)
    | (simp only [Within.lit]; with_reducible refine Within.upd ?_ rfl (fun k hk => ?_))
    | (cases k <;> first | (exact absurd (by decide) hk) | rfl)

theorem State.ageNode_within {L : List Comp} {σ : State} (s : State) (o : Nat) (sweep : Bool) (h0 : Within L σ s) (hs : compsIn [.regs, .pass,
    .host, .safe, .log, .ndir, .cvn, .cvnIds, .air, .qmg, .rf, .link, .key, .vault, .dir, .mesh] L = true) : Within L σ (State.ageNode s o
    sweep).1 := by
  refine Within.comp ?_ hs h0
  clear h0 hs
  unfold State.ageNode
  dsimp only
  repeat' first
    | (with_reducible exact Within.refl _ _)
    | (with_reducible apply State.bump_within)
    | (with_reducible apply State.nodeDelete_within)
    | (with_reducible apply State.setNode_within)
    | (with_reducible apply State.trail_within)
    | ((with_reducible show compsIn _ _ = true); rfl)
    | (with_reducible refine Within.ite (fun _ => ?_) (fun _ => ?_))
    | (with_reducible refine Within.ite1 (fun _ => ?_) (fun _ => ?_))

theorem State.flushVisit_within {L : List Comp} {σ : State} (s : State) (hi : Nat) (n : Nat) (h0 : Within L σ s) (hs : compsIn [.regs, .pass,
    .host, .safe, .log, .ndir, .cvn, .cvnIds, .air, .qmg, .rf, .link, .key, .vault, .dir, .mesh] L = true) : Within L σ (State.flushVisit s hi
    n) := by
  induction n generalizing s hi with
  | zero => exact h0
  | succ n ih =>
  unfold State.flushVisit
  dsimp only
  repeat' first
    | (with_reducible assumption)
    | (with_reducible apply ih)
    | (with_reducible apply State.ageNode_within)
    | (with_reducible apply State.setFlush_within)
    | (exact compsIn_trans (m := [.regs, .pass, .host, .safe, .log, .ndir, .cvn, .cvnIds, .air, .qmg, .rf, .link, .key, .vault, .dir,
        .mesh]) rfl hs)
    | (with_reducible refine Within.ite (fun _ => ?_) (fun _ => ?_))
    | split

theorem State.flushTick_within {L : List Comp} {σ : State} (s : State) (h0 : Within L σ s) (hs : compsIn [.regs, .pass, .host, .safe, .log, .ndir,
    .cvn, .cvnIds, .air, .qmg, .rf, .link, .key, .vault, .dir, .mesh] L = true) : Within L σ (State.flushTick s) := by
  refine Within.comp ?_ hs h0
  clear h0 hs
  unfold State.flushTick
  repeat' first
    | (with_reducible exact Within.refl _ _)
    | (with_reducible apply State.flushVisit_within)
    | ((with_reducible show compsIn _ _ = true); rfl)
    | (with_reducible refine Within.ite (fun _ => ?_) (fun _ => ?_))
    | split

theorem State.cplKeep_within {L : List Comp} {σ : State} (s : State) (c : CmdDesc) (h0 : Within L σ s) (hs : compsIn [.ends] L = true) : Within L σ
    (State.cplKeep s c) := by
  refine Within.comp ?_ hs h0
  clear h0 hs
  unfold State.cplKeep
  repeat' first
    | (with_reducible exact Within.refl _ _)
    | (with_reducible apply State.cplOpen_within)
    | ((with_reducible show compsIn _ _ = true); rfl)
    | (with_reducible refine Within.ite (fun _ => ?_) (fun _ => ?_))

theorem State.cplDeliver_within {L : List Comp} {σ : State} (s : State) (p : Nat) (ws : List Word) (h0 : Within L σ s) (hs : compsIn [.regs,
    .host, .air, .qmg, .link] L = true) : Within L σ (State.cplDeliver s p ws) := by
  refine Within.comp ?_ hs h0
  clear h0 hs
  unfold State.cplDeliver
  dsimp only
  repeat' first
    | (with_reducible exact Within.refl _ _)
    | (with_reducible apply State.cplEnd_within)
    | ((with_reducible show compsIn _ _ = true); rfl)
    | (with_reducible refine Within.ite (fun _ => ?_) (fun _ => ?_))
    | (simp only [Within.lit]; with_reducible refine Within.upd ?_ rfl (fun k hk => ?_))
    | (cases k <;> first | (exact absurd (by decide) hk) | rfl)

theorem State.bistStart_within {L : List Comp} {σ : State} (s : State) (c : CmdDesc) (h0 : Within L σ s) (hs : compsIn [.regs, .bist, .cmds,
    .ends] L = true) : Within L σ (State.bistStart s c) := by
  refine Within.comp ?_ hs h0
  clear h0 hs
  unfold State.bistStart
  dsimp only
  repeat' first
    | (with_reducible exact Within.refl _ _)
    | (with_reducible apply State.cmdTake_within)
    | (with_reducible apply State.cplKeep_within)
    | (with_reducible apply State.setFld_within)
    | ((with_reducible show compsIn _ _ = true); rfl)
    | (simp only [Within.lit]; with_reducible refine Within.upd ?_ rfl (fun k hk => ?_))
    | (cases k <;> first | (exact absurd (by decide) hk) | rfl)

theorem State.migrate_within {L : List Comp} {σ : State} (s : State) (l : Nat) (h0 : Within L σ s) (hs : compsIn [.regs, .free, .rx] L = true) :
    Within L σ (State.migrate s l) := by
  refine Within.comp ?_ hs h0
  clear h0 hs
  unfold State.migrate
  dsimp only
  repeat' first
    | (with_reducible exact Within.refl _ _)
    | (with_reducible apply State.bump_within)
    | (with_reducible apply State.laneSync_within)
    | ((with_reducible show compsIn _ _ = true); rfl)
    | (simp only [Within.lit]; with_reducible refine Within.upd ?_ rfl (fun k hk => ?_))
    | (cases k <;> first | (exact absurd (by decide) hk) | rfl)
    | split

theorem State.migrateAll_within {L : List Comp} {σ : State} (s : State) (c : Nat) (h0 : Within L σ s) (hs : compsIn [.regs, .free, .rx] L = true)
    : Within L σ (State.migrateAll s c) := by
  refine Within.comp ?_ hs h0
  clear h0 hs
  unfold State.migrateAll
  repeat' first
    | (with_reducible exact Within.refl _ _)
    | (with_reducible assumption)
    | (with_reducible apply State.migrate_within)
    | ((with_reducible show compsIn _ _ = true); rfl)
    | (with_reducible refine Within.foldl ?_ (fun _ _ _ => ?_))

theorem State.bistReturn_within {L : List Comp} {σ : State} (s : State) (r : Nat) (good : Bool) (h0 : Within L σ s) (hs : compsIn [.regs, .pass,
    .host, .safe, .log, .save, .pwr, .cvn, .cvnIds, .air, .qmg, .rf, .link, .slot] L = true) : Within L σ (State.bistReturn s r good) := by
  refine Within.comp ?_ hs h0
  clear h0 hs
  unfold State.bistReturn
  repeat' first
    | (with_reducible exact Within.refl _ _)
    | (with_reducible apply State.capSync_within)
    | (with_reducible apply State.clusterFail_within)
    | (with_reducible apply State.engDisable_within)
    | (with_reducible apply State.pipeFail_within)
    | (with_reducible apply State.requestReset_within)
    | (with_reducible apply State.setEng_within)
    | ((with_reducible show compsIn _ _ = true); rfl)
    | (with_reducible refine Within.ite (fun _ => ?_) (fun _ => ?_))

theorem State.yarrowTurn_within {L : List Comp} {σ : State} (s : State) (h0 : Within L σ s) (hs : compsIn [.regs, .safe] L = true) : Within L σ
    (State.yarrowTurn s) := by
  refine Within.comp ?_ hs h0
  clear h0 hs
  unfold State.yarrowTurn
  dsimp only
  repeat' first
    | (with_reducible exact Within.refl _ _)
    | (with_reducible apply State.setFld_within)
    | ((with_reducible show compsIn _ _ = true); rfl)
    | (with_reducible refine Within.ite (fun _ => ?_) (fun _ => ?_))
    | (simp only [Within.lit]; with_reducible refine Within.upd ?_ rfl (fun k hk => ?_))
    | (cases k <;> first | (exact absurd (by decide) hk) | rfl)
    | split

theorem State.yarrowTake_within {L : List Comp} {σ : State} (s : State) (c : Nat) (h0 : Within L σ s) (hs : compsIn [.regs, .safe, .pwr, .rx] L =
    true) : Within L σ (State.yarrowTake s c) := by
  refine Within.comp ?_ hs h0
  clear h0 hs
  unfold State.yarrowTake
  dsimp only
  repeat' first
    | (with_reducible exact Within.refl _ _)
    | (with_reducible apply State.capSync_within)
    | (with_reducible apply State.setFld_within)
    | ((with_reducible show compsIn _ _ = true); rfl)
    | (simp only [Within.lit]; with_reducible refine Within.upd ?_ rfl (fun k hk => ?_))
    | (cases k <;> first | (exact absurd (by decide) hk) | (simp only [State.sameAt]; done) | rfl)

theorem State.yarrowSkip_within {L : List Comp} {σ : State} (s : State) (c : Nat) (h0 : Within L σ s) (hs : compsIn [.regs, .safe, .rx] L = true)
    : Within L σ (State.yarrowSkip s c) := by
  refine Within.comp ?_ hs h0
  clear h0 hs
  unfold State.yarrowSkip
  dsimp only
  repeat' first
    | (with_reducible exact Within.refl _ _)
    | (with_reducible apply State.bumpFld_within)
    | ((with_reducible show compsIn _ _ = true); rfl)
    | (simp only [Within.lit]; with_reducible refine Within.upd ?_ rfl (fun k hk => ?_))
    | (cases k <;> first | (exact absurd (by decide) hk) | rfl)

theorem State.standbyRead_within {L : List Comp} {σ : State} (s : State) (found : Fin 3) (h0 : Within L σ s) (hs : compsIn [.regs, .safe, .slot] L
    = true) : Within L σ (State.standbyRead s found) := by
  refine Within.comp ?_ hs h0
  clear h0 hs
  unfold State.standbyRead
  dsimp only
  repeat' first
    | (with_reducible exact Within.refl _ _)
    | (with_reducible apply State.bump_within)
    | (with_reducible apply State.engBad_within)
    | (with_reducible apply State.engDisable_within)
    | ((with_reducible show compsIn _ _ = true); rfl)
    | (with_reducible refine Within.ite (fun _ => ?_) (fun _ => ?_))

theorem State.bucketDrop_within {L : List Comp} {σ : State} (s : State) (b : Bool) (i : Nat) (h0 : Within L σ s) (hs : compsIn [.regs, .dir] L =
    true) : Within L σ (State.bucketDrop s b i) := by
  refine Within.comp ?_ hs h0
  clear h0 hs
  unfold State.bucketDrop
  dsimp only
  repeat' first
    | (with_reducible exact Within.refl _ _)
    | (with_reducible apply State.dirSync_within)
    | (with_reducible apply State.setIdx_within)
    | ((with_reducible show compsIn _ _ = true); rfl)
    | (with_reducible refine Within.ite (fun _ => ?_) (fun _ => ?_))
    | (simp only [Within.lit]; with_reducible refine Within.upd ?_ rfl (fun k hk => ?_))
    | (cases k <;> first | (exact absurd (by decide) hk) | rfl)

theorem State.descFault_within {L : List Comp} {σ : State} (s : State) (f : Fetched) (h0 : Within L σ s) (hs : compsIn [.regs, .host, .air, .qmg,
    .link] L = true) : Within L σ (State.descFault s f) := by
  refine Within.comp ?_ hs h0
  clear h0 hs
  unfold State.descFault
  dsimp only
  repeat' first
    | (with_reducible exact Within.refl _ _)
    | (with_reducible apply State.cplOwn_within)
    | (with_reducible apply State.txDoneH_within)
    | ((with_reducible show compsIn _ _ = true); rfl)
    | (with_reducible refine Within.ite (fun _ => ?_) (fun _ => ?_))
    | (simp only [Within.lit]; with_reducible refine Within.upd ?_ rfl (fun k hk => ?_))
    | (cases k <;> first | (exact absurd (by decide) hk) | rfl)

theorem State.escalate_within {L : List Comp} {σ : State} (s : State) (src : Nat) (h0 : Within L σ s) (hs : compsIn [.regs, .pass, .host, .safe,
    .log, .save, .pwr, .cvn, .cvnIds, .air, .qmg, .rf, .link] L = true) : Within L σ (State.escalate s src) := by
  refine Within.comp ?_ hs h0
  clear h0 hs
  unfold State.escalate
  repeat' first
    | (with_reducible exact Within.refl _ _)
    | (with_reducible apply State.ledger_within)
    | (with_reducible apply State.requestReset_within)
    | ((with_reducible show compsIn _ _ = true); rfl)

theorem State.pairRestart_within {L : List Comp} {σ : State} (s : State) (i why : Nat) (h0 : Within L σ s) (hs : compsIn [.regs, .pass, .host,
    .safe, .log, .cmds, .ends, .cvn, .cvnIds, .air, .qmg, .rf, .link] L = true) : Within L σ (State.pairRestart s i why) := by
  refine Within.comp ?_ hs h0
  clear h0 hs
  unfold State.pairRestart
  dsimp only
  repeat' first
    | (with_reducible exact Within.refl _ _)
    | (with_reducible assumption)
    | (with_reducible apply State.bump_within)
    | (with_reducible apply State.cmdDone_within)
    | (with_reducible apply State.cmdTake_within)
    | (with_reducible apply State.ledger_within)
    | (with_reducible apply State.setFld_within)
    | ((with_reducible show compsIn _ _ = true); rfl)
    | (with_reducible refine Within.foldl ?_ (fun _ _ _ => ?_))
    | (simp only [Within.lit]; with_reducible refine Within.upd ?_ rfl (fun k hk => ?_))
    | (cases k <;> first | (exact absurd (by decide) hk) | rfl)

theorem State.ueEffect_within {L : List Comp} {σ : State} (s : State) (u : UeStore) (h0 : Within L σ s) (hs : compsIn [.regs, .now, .free, .pass,
    .host, .eth, .time, .safe, .log, .save, .pwr, .boot, .bist, .cmds, .ends, .ndir, .cvn, .cvnIds, .air, .qmg, .shp, .rf, .rx, .link,
    .slot, .key, .vault, .dir, .lpm, .mesh] L = true) : Within L σ (State.ueEffect s u) := by
  refine Within.comp ?_ hs h0
  clear h0 hs
  cases u <;> unfold State.ueEffect <;> dsimp only <;>
    (repeat' first
    | (with_reducible exact Within.refl _ _)
    | (with_reducible apply State.bucketDrop_within)
    | (with_reducible apply State.bump_within)
    | (with_reducible apply State.cacheSync_within)
    | (with_reducible apply State.descFault_within)
    | (with_reducible apply State.escalate_within)
    | (with_reducible apply State.frameMod_within)
    | (with_reducible apply State.nbrRemove_within)
    | (with_reducible apply State.pairRestart_within)
    | (with_reducible apply State.quiet_within)
    | (with_reducible apply State.setCell_within)
    | (with_reducible apply State.setPrefixes_within)
    | (with_reducible apply State.setQueue_within)
    | (with_reducible apply State.slotFail_within)
    | (with_reducible apply State.takeChain_within)
    | (with_reducible apply State.txDoneH_within)
    | ((with_reducible show compsIn _ _ = true); rfl)
    | (with_reducible refine Within.ite (fun _ => ?_) (fun _ => ?_))
    | (simp only [Within.lit]; with_reducible refine Within.upd ?_ rfl (fun k hk => ?_))
    | (cases k <;> first | (exact absurd (by decide) hk) | rfl)
    | split)

theorem State.nbrAdd_within {L : List Comp} {σ : State} (s : State) (n pan node : Nat) (w1 w2 w3 : Word) (h0 : Within L σ s) (hs : compsIn [.regs,
    .ndir, .link] L = true) : Within L σ (State.nbrAdd s n pan node w1 w2 w3) := by
  refine Within.comp ?_ hs h0
  clear h0 hs
  unfold State.nbrAdd
  dsimp only
  repeat' first
    | (with_reducible exact Within.refl _ _)
    | (with_reducible apply State.nbrSync_within)
    | (with_reducible apply State.setNbr_within)
    | (with_reducible apply State.setNode_within)
    | ((with_reducible show compsIn _ _ = true); rfl)

theorem State.smReply_within {L : List Comp} {σ : State} (s : State) (status : Nat) (seq : Byte) (payload : List Byte) (h0 : Within L σ s) (hs :
    compsIn [.boot] L = true) : Within L σ (State.smReply s status seq payload) := by
  refine Within.comp ?_ hs h0
  clear h0 hs
  unfold State.smReply
  dsimp only
  repeat' first
    | (with_reducible exact Within.refl _ _)
    | (simp only [Within.lit]; with_reducible refine Within.upd ?_ rfl (fun k hk => ?_))
    | (cases k <;> first | (exact absurd (by decide) hk) | rfl)

theorem State.smivi_within {L : List Comp} {σ : State} (s : State) (seq : Byte) (run : State → State) (h0 : Within L σ s) (hrun : ∀ u , Within L σ u →
    Within L σ (run u )) (hs : compsIn [.boot] L = true) : Within L σ (State.smivi s seq run) := by
  unfold State.smivi
  repeat' first
    | (with_reducible assumption)
    | (with_reducible apply hrun)
    | (with_reducible apply State.smReply_within)
    | (with_reducible refine Within.ite (fun _ => ?_) (fun _ => ?_))

theorem State.smIdent_within {L : List Comp} {σ : State} (s : State) (seq : Byte) (h0 : Within L σ s) (hs : compsIn [.boot] L = true) : Within L σ
    (State.smIdent s seq) := by
  refine Within.comp ?_ hs h0
  clear h0 hs
  unfold State.smIdent
  repeat' first
    | (with_reducible exact Within.refl _ _)
    | (with_reducible assumption)
    | (with_reducible apply State.smReply_within)
    | (with_reducible apply State.smivi_within)
    | ((with_reducible show compsIn _ _ = true); rfl)
    | (intro _)

theorem State.smSlots_within {L : List Comp} {σ : State} (s : State) (seq : Byte) (h0 : Within L σ s) (hs : compsIn [.boot] L = true) : Within L σ
    (State.smSlots s seq) := by
  refine Within.comp ?_ hs h0
  clear h0 hs
  unfold State.smSlots
  repeat' first
    | (with_reducible exact Within.refl _ _)
    | (with_reducible assumption)
    | (with_reducible apply State.smReply_within)
    | (with_reducible apply State.smivi_within)
    | ((with_reducible show compsIn _ _ = true); rfl)
    | (intro _)

theorem State.smFlash_within {L : List Comp} {σ : State} (s : State) (seq : Byte) (slot : Byte) (off n opcode : Nat) (data : List Byte) (good
    : Bool) (h0 : Within L σ s) (hs : compsIn [.boot] L = true) : Within L σ (State.smFlash s seq slot off n opcode data good) := by
  refine Within.comp ?_ hs h0
  clear h0 hs
  unfold State.smFlash
  dsimp only
  repeat' first
    | (with_reducible exact Within.refl _ _)
    | (with_reducible apply State.smReply_within)
    | ((with_reducible show compsIn _ _ = true); rfl)
    | (with_reducible refine Within.ite (fun _ => ?_) (fun _ => ?_))
    | (simp only [Within.lit]; with_reducible refine Within.upd ?_ rfl (fun k hk => ?_))
    | (cases k <;> first | (exact absurd (by decide) hk) | rfl)

theorem State.smErase_within {L : List Comp} {σ : State} (s : State) (seq slot : Byte) (first count : BitVec 16) (h0 : Within L σ s) (hs : compsIn
    [.boot] L = true) : Within L σ (State.smErase s seq slot first count) := by
  refine Within.comp ?_ hs h0
  clear h0 hs
  unfold State.smErase
  repeat' first
    | (with_reducible exact Within.refl _ _)
    | (with_reducible assumption)
    | (with_reducible apply State.smFlash_within)
    | (with_reducible apply State.smivi_within)
    | ((with_reducible show compsIn _ _ = true); rfl)
    | (intro _)

theorem State.smWrite_within {L : List Comp} {σ : State} (s : State) (seq slot : Byte) (off : Word) (data : List Byte) (h0 : Within L σ s) (hs :
    compsIn [.boot] L = true) : Within L σ (State.smWrite s seq slot off data) := by
  refine Within.comp ?_ hs h0
  clear h0 hs
  unfold State.smWrite
  repeat' first
    | (with_reducible exact Within.refl _ _)
    | (with_reducible assumption)
    | (with_reducible apply State.smFlash_within)
    | (with_reducible apply State.smivi_within)
    | ((with_reducible show compsIn _ _ = true); rfl)
    | (intro _)

theorem State.smRead_within {L : List Comp} {σ : State} (s : State) (seq slot : Byte) (off : Word) (len : BitVec 16) (h0 : Within L σ s) (hs :
    compsIn [.boot] L = true) : Within L σ (State.smRead s seq slot off len) := by
  refine Within.comp ?_ hs h0
  clear h0 hs
  unfold State.smRead
  repeat' first
    | (with_reducible exact Within.refl _ _)
    | (with_reducible assumption)
    | (with_reducible apply State.smReply_within)
    | (with_reducible apply State.smivi_within)
    | ((with_reducible show compsIn _ _ = true); rfl)
    | (with_reducible refine Within.ite (fun _ => ?_) (fun _ => ?_))
    | (intro _)

theorem State.smSlotCrc_within {L : List Comp} {σ : State} (s : State) (seq slot : Byte) (off len : Word) (h0 : Within L σ s) (hs : compsIn
    [.boot] L = true) : Within L σ (State.smSlotCrc s seq slot off len) := by
  refine Within.comp ?_ hs h0
  clear h0 hs
  unfold State.smSlotCrc
  repeat' first
    | (with_reducible exact Within.refl _ _)
    | (with_reducible assumption)
    | (with_reducible apply State.smReply_within)
    | (with_reducible apply State.smivi_within)
    | ((with_reducible show compsIn _ _ = true); rfl)
    | (with_reducible refine Within.ite (fun _ => ?_) (fun _ => ?_))
    | (intro _)

theorem State.smRamLoad_within {L : List Comp} {σ : State} (s : State) (seq : Byte) (off : Word) (data : List Byte) (h0 : Within L σ s) (hs :
    compsIn [.boot] L = true) : Within L σ (State.smRamLoad s seq off data) := by
  refine Within.comp ?_ hs h0
  clear h0 hs
  unfold State.smRamLoad
  dsimp only
  repeat' first
    | (with_reducible exact Within.refl _ _)
    | (with_reducible assumption)
    | (with_reducible apply State.smReply_within)
    | (with_reducible apply State.smivi_within)
    | ((with_reducible show compsIn _ _ = true); rfl)
    | (with_reducible refine Within.ite (fun _ => ?_) (fun _ => ?_))
    | (simp only [Within.lit]; with_reducible refine Within.upd ?_ rfl (fun k hk => ?_))
    | (cases k <;> first | (exact absurd (by decide) hk) | rfl)
    | (intro _)

theorem State.imageStart_within {L : List Comp} {σ : State} (s : State) (mode svn version : Nat) (fallback : Bool) (h0 : Within L σ s) (hs :
    compsIn [.regs, .boot] L = true) : Within L σ (State.imageStart s mode svn version fallback) := by
  refine Within.comp ?_ hs h0
  clear h0 hs
  unfold State.imageStart
  dsimp only
  repeat' first
    | (with_reducible exact Within.refl _ _)
    | (with_reducible apply State.setFld_within)
    | (with_reducible apply State.wr_within)
    | ((with_reducible show compsIn _ _ = true); rfl)
    | (simp only [Within.lit]; with_reducible refine Within.upd ?_ rfl (fun k hk => ?_))
    | (cases k <;> first | (exact absurd (by decide) hk) | rfl)

theorem State.smRamRun_within {L : List Comp} {σ : State} (s : State) (seq : Byte) (h0 : Within L σ s) (hs : compsIn [.regs, .safe, .boot, .air,
    .qmg, .link] L = true) : Within L σ (State.smRamRun s seq) := by
  refine Within.comp ?_ hs h0
  clear h0 hs
  unfold State.smRamRun
  dsimp only
  repeat' first
    | (with_reducible exact Within.refl _ _)
    | (with_reducible assumption)
    | (with_reducible apply State.imageStart_within)
    | (with_reducible apply State.setFld_within)
    | (with_reducible apply State.smReply_within)
    | (with_reducible apply State.smivi_within)
    | ((with_reducible show compsIn _ _ = true); rfl)
    | (with_reducible refine Within.ite (fun _ => ?_) (fun _ => ?_))
    | (simp only [Within.lit]; with_reducible refine Within.upd ?_ rfl (fun k hk => ?_))
    | (cases k <;> first | (exact absurd (by decide) hk) | (simp only [State.sameAt]; done) | rfl)
    | (intro _)

theorem State.smReset_within {L : List Comp} {σ : State} (s : State) (seq : Byte) (h0 : Within L σ s) (hs : compsIn [.boot] L = true) : Within L σ
    (State.smReset s seq) := by
  refine Within.comp ?_ hs h0
  clear h0 hs
  unfold State.smReset
  dsimp only
  repeat' first
    | (with_reducible exact Within.refl _ _)
    | (with_reducible assumption)
    | (with_reducible apply State.smReply_within)
    | (with_reducible apply State.smivi_within)
    | ((with_reducible show compsIn _ _ = true); rfl)
    | (simp only [Within.lit]; with_reducible refine Within.upd ?_ rfl (fun k hk => ?_))
    | (cases k <;> first | (exact absurd (by decide) hk) | rfl)
    | (intro _)

theorem State.smRun_within {L : List Comp} {σ : State} (s : State) (opcode : Nat) (seq : Byte) (pl : List Byte) (h0 : Within L σ s) (hs : compsIn
    [.regs, .safe, .boot, .air, .qmg, .link] L = true) : Within L σ (State.smRun s opcode seq pl) := by
  refine Within.comp ?_ hs h0
  clear h0 hs
  unfold State.smRun
  dsimp only
  repeat' first
    | (with_reducible exact Within.refl _ _)
    | (with_reducible assumption)
    | (with_reducible apply State.smErase_within)
    | (with_reducible apply State.smIdent_within)
    | (with_reducible apply State.smRamLoad_within)
    | (with_reducible apply State.smRamRun_within)
    | (with_reducible apply State.smRead_within)
    | (with_reducible apply State.smReply_within)
    | (with_reducible apply State.smReset_within)
    | (with_reducible apply State.smSlotCrc_within)
    | (with_reducible apply State.smSlots_within)
    | (with_reducible apply State.smWrite_within)
    | (with_reducible apply State.smivi_within)
    | ((with_reducible show compsIn _ _ = true); rfl)
    | (with_reducible refine Within.ite (fun _ => ?_) (fun _ => ?_))
    | (intro _)
    | split

theorem State.smFrame_within {L : List Comp} {σ : State} (s : State) (f : List Byte) (h0 : Within L σ s) (hs : compsIn [.regs, .safe, .boot, .air,
    .qmg, .link] L = true) : Within L σ (State.smFrame s f) := by
  refine Within.comp ?_ hs h0
  clear h0 hs
  unfold State.smFrame
  dsimp only
  repeat' first
    | (with_reducible exact Within.refl _ _)
    | (with_reducible assumption)
    | (with_reducible apply State.smReply_within)
    | (with_reducible apply State.smRun_within)
    | (with_reducible apply State.smivi_within)
    | ((with_reducible show compsIn _ _ = true); rfl)
    | (with_reducible refine Within.ite (fun _ => ?_) (fun _ => ?_))
    | (intro _)

theorem State.smRespond_within {L : List Comp} {σ : State} (s : State) (h0 : Within L σ s) (hs : compsIn [.regs, .pass, .safe, .save, .pwr, .boot,
    .air, .rf] L = true) : Within L σ (State.smRespond s) := by
  refine Within.comp ?_ hs h0
  clear h0 hs
  unfold State.smRespond
  dsimp only
  repeat' first
    | (with_reducible exact Within.refl _ _)
    | (with_reducible apply State.requestReset_within)
    | ((with_reducible show compsIn _ _ = true); rfl)
    | (with_reducible refine Within.ite (fun _ => ?_) (fun _ => ?_))
    | (simp only [Within.lit]; with_reducible refine Within.upd ?_ rfl (fun k hk => ?_))
    | (cases k <;> first | (exact absurd (by decide) hk) | rfl)

theorem State.recover_within {L : List Comp} {σ : State} (s : State) (reason : Nat) (h0 : Within L σ s) (hs : compsIn [.regs, .host, .safe, .boot,
    .air, .rf] L = true) : Within L σ (State.recover s reason) := by
  refine Within.comp ?_ hs h0
  clear h0 hs
  unfold State.recover
  dsimp only
  repeat' first
    | (with_reducible exact Within.refl _ _)
    | (with_reducible apply State.cutAir_within)
    | (with_reducible apply State.setFld_within)
    | ((with_reducible show compsIn _ _ = true); rfl)
    | (with_reducible refine Within.ite (fun _ => ?_) (fun _ => ?_))
    | (simp only [Within.lit]; with_reducible refine Within.upd ?_ rfl (fun k hk => ?_))
    | (cases k <;> first | (exact absurd (by decide) hk) | rfl)

theorem State.slotCheck_within {L : List Comp} {σ : State} (s : State) (slot : Nat) (h0 : Within L σ s) (hs : compsIn [.regs, .air, .qmg, .link] L
    = true) : Within L σ (State.slotCheck s slot) := by
  refine Within.comp ?_ hs h0
  clear h0 hs
  unfold State.slotCheck
  dsimp only
  repeat' first
    | (with_reducible exact Within.refl _ _)
    | (with_reducible apply State.setFld_within)
    | (with_reducible apply State.wr_within)
    | ((with_reducible show compsIn _ _ = true); rfl)

theorem State.bootTry_within {L : List Comp} {σ : State} (s : State) (first : Bool) (n : List Nat) (h0 : Within L σ s) (hs : compsIn [.regs,
    .host, .safe, .boot, .air, .qmg, .rf, .link] L = true) : Within L σ (State.bootTry s first n) := by
  induction n generalizing s first with
  | nil => exact State.recover_within _ _ h0 (compsIn_trans (m := [.regs, .host, .safe, .boot, .air, .qmg, .rf, .link]) rfl hs)
  | cons c n ih =>
  unfold State.bootTry
  split
  · exact State.imageStart_within _ _ _ _ _ (State.setTries_within _ _ _ h0 (compsIn_trans (m := [.regs, .host, .safe, .boot, .air, .qmg, .rf,
      .link]) rfl hs)) (compsIn_trans (m := [.regs, .host, .safe, .boot, .air, .qmg, .rf, .link]) rfl hs)
  · exact ih _ _ (State.setFld_within _ _ _ _ h0 (compsIn_trans (m := [.regs, .host, .safe, .boot, .air, .qmg, .rf, .link]) rfl hs))

theorem State.bootEvent_within {L : List Comp} {σ : State} (s : State) (src mask : Nat) (p0 p1 p2 : Word) (h0 : Within L σ s) (hs : compsIn
    [.boot] L = true) : Within L σ (State.bootEvent s src mask p0 p1 p2) := by
  refine Within.comp ?_ hs h0
  clear h0 hs
  unfold State.bootEvent
  dsimp only
  repeat' first
    | (with_reducible exact Within.refl _ _)
    | (simp only [Within.lit]; with_reducible refine Within.upd ?_ rfl (fun k hk => ?_))
    | (cases k <;> first | (exact absurd (by decide) hk) | rfl)

theorem State.bootUnits_within {L : List Comp} {σ : State} (s : State) (fail : Nat) (h0 : Within L σ s) (hs : compsIn [.regs, .boot] L = true) :
    Within L σ (State.bootUnits s fail) := by
  refine Within.comp ?_ hs h0
  clear h0 hs
  unfold State.bootUnits
  dsimp only
  repeat' first
    | (with_reducible exact Within.refl _ _)
    | (with_reducible assumption)
    | (with_reducible apply State.capSync_within)
    | (with_reducible apply State.engSet_within)
    | (with_reducible apply State.setFld_within)
    | ((with_reducible show compsIn _ _ = true); rfl)
    | (with_reducible refine Within.ite (fun _ => ?_) (fun _ => ?_))
    | (with_reducible refine Within.foldl ?_ (fun _ _ _ => ?_))
    | (simp only [Within.lit]; with_reducible refine Within.upd ?_ rfl (fun k hk => ?_))
    | (cases k <;> first | (exact absurd (by decide) hk) | rfl)

theorem State.bootTime_within {L : List Comp} {σ : State} (s : State) (h0 : Within L σ s) (hs : compsIn [.time] L = true) : Within L σ (State.bootTime
    s) := by
  refine Within.comp ?_ hs h0
  clear h0 hs
  unfold State.bootTime
  dsimp only
  repeat' first
    | (with_reducible exact Within.refl _ _)
    | (simp only [Within.lit]; with_reducible refine Within.upd ?_ rfl (fun k hk => ?_))
    | (cases k <;> first | (exact absurd (by decide) hk) | rfl)

theorem State.bootSave_within {L : List Comp} {σ : State} (s : State) (h0 : Within L σ s) (hs : compsIn [.regs, .pass, .host, .safe, .log, .save,
    .boot, .cvn, .cvnIds, .air, .qmg, .rf, .link, .vault] L = true) : Within L σ (State.bootSave s) := by
  refine Within.comp ?_ hs h0
  clear h0 hs
  unfold State.bootSave
  dsimp only
  repeat' first
    | (with_reducible exact Within.refl _ _)
    | (with_reducible apply State.bootEvent_within)
    | (with_reducible apply State.ledger_within)
    | (with_reducible apply State.setFld_within)
    | ((with_reducible show compsIn _ _ = true); rfl)
    | (with_reducible refine Within.ite (fun _ => ?_) (fun _ => ?_))
    | (simp only [Within.lit]; with_reducible refine Within.upd ?_ rfl (fun k hk => ?_))
    | (cases k <;> first | (exact absurd (by decide) hk) | rfl)

theorem State.bootGap_within {L : List Comp} {σ : State} (s : State) (h0 : Within L σ s) (hs : compsIn [.regs, .pass, .host, .safe, .log, .boot,
    .cvn, .cvnIds, .air, .qmg, .rf, .link] L = true) : Within L σ (State.bootGap s) := by
  refine Within.comp ?_ hs h0
  clear h0 hs
  unfold State.bootGap
  repeat' first
    | (with_reducible exact Within.refl _ _)
    | (with_reducible apply State.bootEvent_within)
    | (with_reducible apply State.bumpBy_within)
    | (with_reducible apply State.ledger_within)
    | ((with_reducible show compsIn _ _ = true); rfl)
    | split

theorem State.bootKeks_within {L : List Comp} {σ : State} (s : State) (h0 : Within L σ s) (hs : compsIn [.regs, .pass, .host, .safe, .log, .cvn,
    .cvnIds, .air, .qmg, .rf, .link, .key, .vault] L = true) : Within L σ (State.bootKeks s) := by
  refine Within.comp ?_ hs h0
  clear h0 hs
  unfold State.bootKeks
  dsimp only
  repeat' first
    | (with_reducible exact Within.refl _ _)
    | (with_reducible assumption)
    | (with_reducible refine State.keyLoad_within ?_ ?_ _ (by assumption))
    | ((with_reducible show compsIn _ _ = true); rfl)
    | (with_reducible refine Within.ite (fun _ => ?_) (fun _ => ?_))
    | (with_reducible refine Within.foldl ?_ (fun _ _ _ => ?_))
    | (simp only [Within.lit]; with_reducible refine Within.upd ?_ rfl (fun k hk => ?_))
    | (cases k <;> first | (exact absurd (by decide) hk) | rfl)
    | split

theorem State.bootVault_within {L : List Comp} {σ : State} (s : State) (h0 : Within L σ s) (hs : compsIn [.regs, .free, .pass, .host, .safe, .log,
    .pwr, .cvn, .cvnIds, .air, .qmg, .rf, .link, .vault] L = true) : Within L σ (State.bootVault s) := by
  refine Within.comp ?_ hs h0
  clear h0 hs
  unfold State.bootVault
  dsimp only
  repeat' first
    | (with_reducible exact Within.refl _ _)
    | (with_reducible apply State.newSecret_within)
    | (with_reducible apply State.setFld_within)
    | (with_reducible apply State.tamperReport_within)
    | ((with_reducible show compsIn _ _ = true); rfl)
    | (with_reducible refine Within.ite (fun _ => ?_) (fun _ => ?_))
    | (simp only [Within.lit]; with_reducible refine Within.upd ?_ rfl (fun k hk => ?_))
    | (cases k <;> first | (exact absurd (by decide) hk) | rfl)

theorem State.bootCaravans_within {L : List Comp} {σ : State} (s : State) (h0 : Within L σ s) (hs : compsIn [.regs, .cvnIds] L = true) : Within L σ
    (State.bootCaravans s) := by
  refine Within.comp ?_ hs h0
  clear h0 hs
  unfold State.bootCaravans
  dsimp only
  repeat' first
    | (with_reducible exact Within.refl _ _)
    | (with_reducible apply State.cvnSync_within)
    | ((with_reducible show compsIn _ _ = true); rfl)
    | (simp only [Within.lit]; with_reducible refine Within.upd ?_ rfl (fun k hk => ?_))
    | (cases k <;> first | (exact absurd (by decide) hk) | rfl)

theorem State.bootQuiet_within {L : List Comp} {σ : State} (s : State) (h0 : Within L σ s) (hs : compsIn [.regs, .pass, .host, .safe, .log, .pwr,
    .boot, .cvn, .cvnIds, .air, .qmg, .rf, .link] L = true) : Within L σ (State.bootQuiet s) := by
  refine Within.comp ?_ hs h0
  clear h0 hs
  unfold State.bootQuiet
  dsimp only
  repeat' first
    | (with_reducible exact Within.refl _ _)
    | (with_reducible apply State.bootEvent_within)
    | (with_reducible apply State.cutAir_within)
    | (with_reducible apply State.ledger_within)
    | (with_reducible apply State.quiet_within)
    | (with_reducible apply State.quietOver_within)
    | (with_reducible apply State.setFld_within)
    | ((with_reducible show compsIn _ _ = true); rfl)
    | (with_reducible refine Within.ite (fun _ => ?_) (fun _ => ?_))
    | (simp only [Within.lit]; with_reducible refine Within.upd ?_ rfl (fun k hk => ?_))
    | (cases k <;> first | (exact absurd (by decide) hk) | rfl)

theorem State.bootWake_within {L : List Comp} {σ : State} (s : State) (h0 : Within L σ s) (hs : compsIn [.pwr, .boot] L = true) : Within L σ
    (State.bootWake s) := by
  refine Within.comp ?_ hs h0
  clear h0 hs
  unfold State.bootWake
  dsimp only
  repeat' first
    | (with_reducible exact Within.refl _ _)
    | (with_reducible apply State.bootEvent_within)
    | ((with_reducible show compsIn _ _ = true); rfl)
    | (with_reducible refine Within.ite (fun _ => ?_) (fun _ => ?_))
    | (simp only [Within.lit]; with_reducible refine Within.upd ?_ rfl (fun k hk => ?_))
    | (cases k <;> first | (exact absurd (by decide) hk) | rfl)

theorem State.bootMemory_within {L : List Comp} {σ : State} (s : State) (h0 : Within L σ s) (hs : compsIn [.regs, .free, .boot, .dir] L = true) :
    Within L σ (State.bootMemory s) := by
  refine Within.comp ?_ hs h0
  clear h0 hs
  unfold State.bootMemory
  dsimp only
  repeat' first
    | (with_reducible exact Within.refl _ _)
    | (with_reducible apply State.free!_within)
    | (with_reducible apply State.setFld_within)
    | (with_reducible apply State.wr_within)
    | ((with_reducible show compsIn _ _ = true); rfl)
    | (simp only [Within.lit]; with_reducible refine Within.upd ?_ rfl (fun k hk => ?_))
    | (cases k <;> first | (exact absurd (by decide) hk) | rfl)

theorem State.poolSync_within {L : List Comp} {σ : State} (s : State) (h0 : Within L σ s) (hs : compsIn [.regs] L = true) : Within L σ (State.poolSync
    s) := by
  refine Within.comp ?_ hs h0
  clear h0 hs
  unfold State.poolSync
  repeat' first
    | (with_reducible exact Within.refl _ _)
    | (with_reducible apply State.setFld_within)
    | ((with_reducible show compsIn _ _ = true); rfl)

theorem State.bootFinish_within {L : List Comp} {σ : State} (s : State) (h0 : Within L σ s) (hs : compsIn [.regs, .free, .pass, .host, .time,
    .safe, .log, .save, .pwr, .boot, .cvn, .cvnIds, .air, .qmg, .rf, .link, .key, .vault, .dir] L = true) : Within L σ (State.bootFinish s) :=
    by
  refine Within.comp ?_ hs h0
  clear h0 hs
  unfold State.bootFinish
  dsimp only
  repeat' first
    | (with_reducible exact Within.refl _ _)
    | (with_reducible assumption)
    | (with_reducible apply State.bootCaravans_within)
    | (with_reducible apply State.bootEvent_within)
    | (with_reducible apply State.bootGap_within)
    | (with_reducible apply State.bootKeks_within)
    | (with_reducible apply State.bootMemory_within)
    | (with_reducible apply State.bootQuiet_within)
    | (with_reducible apply State.bootSave_within)
    | (with_reducible apply State.bootTime_within)
    | (with_reducible apply State.bootVault_within)
    | (with_reducible apply State.bootWake_within)
    | (with_reducible apply State.poolSync_within)
    | (with_reducible apply State.sendMicrocode_within)
    | ((with_reducible show compsIn _ _ = true); rfl)
    | (with_reducible refine Within.foldl ?_ (fun _ _ _ => ?_))
    | (simp only [Within.lit]; with_reducible refine Within.upd ?_ rfl (fun k hk => ?_))
    | (cases k <;> first | (exact absurd (by decide) hk) | rfl)

theorem State.hFollows_within {L : List Comp} {σ : State} (s : State) (h0 : Within L σ s) (hs : compsIn [.pass] L = true) : Within L σ (State.hFollows
    s) := by
  refine Within.comp ?_ hs h0
  clear h0 hs
  unfold State.hFollows
  dsimp only
  repeat' first
    | (with_reducible exact Within.refl _ _)
    | (simp only [Within.lit]; with_reducible refine Within.upd ?_ rfl (fun k hk => ?_))
    | (cases k <;> first | (exact absurd (by decide) hk) | rfl)

theorem State.passRestamp_within {L : List Comp} {σ : State} (s : State) (h0 : Within L σ s) (hs : compsIn [.pass] L = true) : Within L σ
    (State.passRestamp s) := by
  refine Within.comp ?_ hs h0
  clear h0 hs
  unfold State.passRestamp
  dsimp only
  repeat' first
    | (with_reducible exact Within.refl _ _)
    | (simp only [Within.lit]; with_reducible refine Within.upd ?_ rfl (fun k hk => ?_))
    | (cases k <;> first | (exact absurd (by decide) hk) | rfl)

theorem State.hPeer_within {L : List Comp} {σ : State} (s : State) (h0 : Within L σ s) (hs : compsIn [.regs, .host, .safe, .boot, .air, .qmg,
    .link] L = true) : Within L σ (State.hPeer s) := by
  refine Within.comp ?_ hs h0
  clear h0 hs
  unfold State.hPeer
  dsimp only
  repeat' first
    | (with_reducible exact Within.refl _ _)
    | (with_reducible apply State.hQuiet_within)
    | ((with_reducible show compsIn _ _ = true); rfl)
    | (with_reducible refine Within.ite (fun _ => ?_) (fun _ => ?_))
    | (simp only [Within.lit]; with_reducible refine Within.upd ?_ rfl (fun k hk => ?_))
    | (cases k <;> first | (exact absurd (by decide) hk) | rfl)

theorem State.corrected_within {L : List Comp} {σ : State} (s : State) (h0 : Within L σ s) (hs : compsIn [.regs, .free] L = true) : Within L σ
    (State.corrected s) := by
  refine Within.comp ?_ hs h0
  clear h0 hs
  unfold State.corrected
  dsimp only
  repeat' first
    | (with_reducible exact Within.refl _ _)
    | (with_reducible apply State.bumpBy_within)
    | (with_reducible apply State.free!_within)
    | ((with_reducible show compsIn _ _ = true); rfl)

theorem State.engineSend_within {L : List Comp} {σ : State} (s : State) (x : Pkt) (p : Nat) (h0 : Within L σ s) (hs : compsIn [.regs, .free,
    .pass, .host, .time, .safe, .log, .ndir, .cvn, .cvnIds, .air, .qmg, .shp, .rf, .rx, .link, .key, .vault, .mesh] L = true) : WithinOpt L σ
    (State.engineSend s x p) := by
  have key : WithinOpt [.regs, .free, .pass, .host, .time, .safe, .log, .ndir, .cvn, .cvnIds, .air, .qmg, .shp, .rf, .rx, .link, .key, .vault,
      .mesh] s (State.engineSend s x p) := ?_
  · exact fun t e => Within.comp (key t e) hs h0
  clear h0 hs
  unfold State.engineSend
  dsimp only
  repeat' first
    | (with_reducible exact Within.refl _ _)
    | (with_reducible apply State.floodIn_within)
    | (with_reducible apply State.meshSend_within)
    | (with_reducible apply State.takeChain_within)
    | ((with_reducible show compsIn _ _ = true); rfl)
    | (with_reducible refine WithinOpt.ite (fun _ => ?_) (fun _ => ?_))
    | (with_reducible exact WithinOpt.none)

theorem State.cvnFloodTry_within {L : List Comp} {σ : State} (s : State) (c : Caravan) (h0 : Within L σ s) (hs : compsIn [.regs, .free, .pass,
    .host, .time, .safe, .log, .ndir, .cvn, .cvnIds, .air, .qmg, .shp, .rf, .rx, .link, .key, .vault, .mesh] L = true) : Within L σ
    (State.cvnFloodTry s c) := by
  refine Within.comp ?_ hs h0
  clear h0 hs
  unfold State.cvnFloodTry
  dsimp only
  repeat' first
    | (with_reducible exact Within.refl _ _)
    | (with_reducible apply State.engineSend_within)
    | (with_reducible apply State.setCvn_within)
    | ((with_reducible show compsIn _ _ = true); rfl)
    | (with_reducible refine WithinOpt.getD ?_ ?_)

theorem State.cvnRetry_within {L : List Comp} {σ : State} (s : State) (h0 : Within L σ s) (hs : compsIn [.regs, .free, .pass, .host, .time, .safe,
    .log, .ndir, .cvn, .cvnIds, .air, .qmg, .shp, .rf, .rx, .link, .key, .vault, .mesh] L = true) : Within L σ (State.cvnRetry s) := by
  refine Within.comp ?_ hs h0
  clear h0 hs
  unfold State.cvnRetry
  repeat' first
    | (with_reducible exact Within.refl _ _)
    | (with_reducible assumption)
    | (with_reducible apply State.cvnFloodTry_within)
    | ((with_reducible show compsIn _ _ = true); rfl)
    | (with_reducible refine Within.ite (fun _ => ?_) (fun _ => ?_))
    | (with_reducible refine Within.foldl ?_ (fun _ _ _ => ?_))

theorem State.selfTick_within {L : List Comp} {σ : State} (s : State) (h0 : Within L σ s) (hs : compsIn [.regs, .free, .pass, .host, .time, .safe,
    .log, .pwr, .ndir, .cvn, .cvnIds, .air, .qmg, .shp, .rf, .rx, .link, .slot, .key, .vault, .dir, .mesh] L = true) : Within L σ
    (State.selfTick s) := by
  refine Within.comp ?_ hs h0
  clear h0 hs
  unfold State.selfTick
  repeat' first
    | (with_reducible exact Within.refl _ _)
    | (with_reducible apply State.ackSettle_within)
    | (with_reducible apply State.airSync_within)
    | (with_reducible apply State.corrected_within)
    | (with_reducible apply State.cvnRetry_within)
    | (with_reducible apply State.flushTick_within)
    | (with_reducible apply State.gateEval_within)
    | (with_reducible apply State.idleSync_within)
    | (with_reducible apply State.waitsRetry_within)
    | ((with_reducible show compsIn _ _ = true); rfl)
    | (with_reducible refine Within.ite (fun _ => ?_) (fun _ => ?_))

theorem State.tick_within {L : List Comp} {σ : State} (s : State) (h0 : Within L σ s) (hs : compsIn [.regs, .now, .free, .pass, .host, .time,
    .safe, .log, .pwr, .ndir, .cvn, .cvnIds, .air, .qmg, .shp, .rf, .rx, .link, .slot, .key, .vault, .dir, .mesh] L = true) : Within L σ
    (State.tick s) := by
  refine Within.comp ?_ hs h0
  clear h0 hs
  unfold State.tick
  repeat' first
    | (with_reducible exact Within.refl _ _)
    | (with_reducible apply State.elapse_within)
    | (with_reducible apply State.selfTick_within)
    | ((with_reducible show compsIn _ _ = true); rfl)

theorem State.setGroup_within {L : List Comp} {σ : State} (s : State) (g : Nat) (x : Group) (h0 : Within L σ s) (hs : compsIn [.cvn] L = true) :
    Within L σ (State.setGroup s g x) := by
  refine Within.comp ?_ hs h0
  clear h0 hs
  unfold State.setGroup
  dsimp only
  repeat' first
    | (with_reducible exact Within.refl _ _)
    | (simp only [Within.lit]; with_reducible refine Within.upd ?_ rfl (fun k hk => ?_))
    | (cases k <;> first | (exact absurd (by decide) hk) | rfl)

theorem State.engineDraw_within {L : List Comp} {σ : State} (s : State) (h0 : Within L σ s) (hs : compsIn [.free] L = true) : Within L σ
    (State.engineDraw s).2 := by
  refine Within.comp ?_ hs h0
  clear h0 hs
  unfold State.engineDraw
  dsimp only
  repeat' first
    | (with_reducible exact Within.refl _ _)
    | (with_reducible apply State.draw_within)
    | ((with_reducible show compsIn _ _ = true); rfl)

theorem State.enginePipe_within {L : List Comp} {σ : State} (s : State) (port p faults : Nat) (h0 : Within L σ s) (hs : compsIn [.regs, .pass,
    .host, .safe, .log, .cvn, .cvnIds, .air, .qmg, .rf, .link] L = true) : Within L σ (State.enginePipe s port p faults) := by
  refine Within.comp ?_ hs h0
  clear h0 hs
  unfold State.enginePipe
  repeat' first
    | (with_reducible exact Within.refl _ _)
    | (with_reducible refine State.onPipe_within _ _ _ _ _ ?_ ?_ (fun _ _ => ?_))
    | ((with_reducible show compsIn _ _ = true); rfl)
    | (simp only [id]; assumption)

theorem State.cvnRound_within {L : List Comp} {σ : State} (s : State) (c : Caravan) (h0 : Within L σ s) (hs : compsIn [.regs, .pass, .host, .cvn,
    .cvnIds, .air, .qmg, .link] L = true) : Within L σ (State.cvnRound s c) := by
  refine Within.comp ?_ hs h0
  clear h0 hs
  unfold State.cvnRound
  dsimp only
  repeat' first
    | (with_reducible exact Within.refl _ _)
    | (with_reducible apply State.cvnEnd_within)
    | (with_reducible apply State.setCvn_within)
    | ((with_reducible show compsIn _ _ = true); rfl)
    | (with_reducible refine Within.ite (fun _ => ?_) (fun _ => ?_))

theorem State.cvnAccept_within {L : List Comp} {σ : State} (s : State) (c : CmdDesc) (posts : List CmdDesc) (payload : List Byte) (sport hop
    faults : Nat) (h0 : Within L σ s) (hs : compsIn [.regs, .free, .pass, .host, .time, .safe, .log, .ends, .ndir, .cvn, .cvnIds, .air, .qmg,
    .shp, .rf, .rx, .link, .key, .vault, .mesh] L = true) : Within L σ (State.cvnAccept s c posts payload sport hop faults) := by
  refine Within.comp ?_ hs h0
  clear h0 hs
  unfold State.cvnAccept
  dsimp only
  repeat' first
    | (with_reducible exact Within.refl _ _)
    | (with_reducible assumption)
    | (with_reducible apply State.cmdDone_within)
    | (with_reducible apply State.cvnEnd_within)
    | (with_reducible apply State.cvnFloodTry_within)
    | (with_reducible apply State.cvnRound_within)
    | (with_reducible apply State.cvnSync_within)
    | (with_reducible apply State.enginePipe_within)
    | ((with_reducible show compsIn _ _ = true); rfl)
    | (with_reducible refine Within.ite (fun _ => ?_) (fun _ => ?_))
    | (with_reducible refine Within.foldl ?_ (fun _ _ _ => ?_))
    | (simp only [Within.lit]; with_reducible refine Within.upd ?_ rfl (fun k hk => ?_))
    | (cases k <;> first | (exact absurd (by decide) hk) | rfl)
    | split

theorem State.cvnHold_within {L : List Comp} {σ : State} (s : State) (c : CmdDesc) (payload : List Byte) (h0 : Within L σ s) (hs : compsIn [.regs,
    .cvn] L = true) : Within L σ (State.cvnHold s c payload) := by
  refine Within.comp ?_ hs h0
  clear h0 hs
  unfold State.cvnHold
  dsimp only
  repeat' first
    | (with_reducible exact Within.refl _ _)
    | (with_reducible apply State.cvnSync_within)
    | ((with_reducible show compsIn _ _ = true); rfl)
    | (simp only [Within.lit]; with_reducible refine Within.upd ?_ rfl (fun k hk => ?_))
    | (cases k <;> first | (exact absurd (by decide) hk) | rfl)

theorem State.cvnDual_within {L : List Comp} {σ : State} (s : State) (c : CmdDesc) (payload : List Byte) (sport hop faults : Nat) (h0 : Within L σ
    s) (hs : compsIn [.regs, .free, .pass, .host, .time, .safe, .log, .ends, .ndir, .cvn, .cvnIds, .air, .qmg, .shp, .rf, .rx, .link,
    .key, .vault, .mesh] L = true) : Within L σ (State.cvnDual s c payload sport hop faults) := by
  refine Within.comp ?_ hs h0
  clear h0 hs
  unfold State.cvnDual
  dsimp only
  repeat' first
    | (with_reducible exact Within.refl _ _)
    | (with_reducible apply State.bump_within)
    | (with_reducible apply State.cmdBad_within)
    | (with_reducible apply State.cmdDone_within)
    | (with_reducible apply State.cvnAccept_within)
    | (with_reducible apply State.cvnHold_within)
    | (with_reducible apply State.cvnSync_within)
    | (with_reducible apply State.cvnWaitEnd_within)
    | (with_reducible apply State.ledger_within)
    | (with_reducible refine State.onPipe_within _ _ _ _ _ ?_ ?_ (fun _ _ => ?_))
    | ((with_reducible show compsIn _ _ = true); rfl)
    | (with_reducible refine Within.ite (fun _ => ?_) (fun _ => ?_))
    | (simp only [Within.lit]; with_reducible refine Within.upd ?_ rfl (fun k hk => ?_))
    | (cases k <;> first | (exact absurd (by decide) hk) | rfl)
    | (simp only [id]; assumption)
    | split

theorem State.cvnSent_within {L : List Comp} {σ : State} (s : State) (cid : Nat) (h0 : Within L σ s) (hs : compsIn [.cvn] L = true) : Within L σ
    (State.cvnSent s cid) := by
  refine Within.comp ?_ hs h0
  clear h0 hs
  unfold State.cvnSent
  repeat' first
    | (with_reducible exact Within.refl _ _)
    | (with_reducible apply State.setCvn_within)
    | ((with_reducible show compsIn _ _ = true); rfl)
    | (with_reducible refine Within.ite (fun _ => ?_) (fun _ => ?_))
    | split

theorem State.toCity_within {L : List Comp} {σ : State} (s : State) (t : Nat) (h0 : Within L σ s) (hs : compsIn [.now, .time] L = true) : Within L σ
    (State.toCity s t) := by
  refine Within.comp ?_ hs h0
  clear h0 hs
  unfold State.toCity
  repeat' first
    | (with_reducible exact Within.refl _ _)
    | (with_reducible apply State.elapse_within)
    | ((with_reducible show compsIn _ _ = true); rfl)
    | (with_reducible refine Within.ite (fun _ => ?_) (fun _ => ?_))

theorem State.quietExit_within {L : List Comp} {σ : State} (s : State) (h0 : Within L σ s) (hs : compsIn [.regs, .pass, .host, .safe, .log, .cvn,
    .cvnIds, .air, .qmg, .rf, .link] L = true) : Within L σ (State.quietExit s) := by
  refine Within.comp ?_ hs h0
  clear h0 hs
  unfold State.quietExit
  dsimp only
  repeat' first
    | (with_reducible exact Within.refl _ _)
    | (with_reducible apply State.evtF_within)
    | (with_reducible apply State.ledger_within)
    | (with_reducible apply State.setFld_within)
    | (with_reducible apply State.wr_within)
    | ((with_reducible show compsIn _ _ = true); rfl)
    | (simp only [Within.lit]; with_reducible refine Within.upd ?_ rfl (fun k hk => ?_))
    | (cases k <;> first | (exact absurd (by decide) hk) | rfl)

theorem State.blobPut_within {L : List Comp} {σ : State} (s : State) (j : Nat) (b : List Byte) (h0 : Within L σ s) (hs : compsIn [.regs, .key] L =
    true) : Within L σ (State.blobPut s j b) := by
  refine Within.comp ?_ hs h0
  clear h0 hs
  unfold State.blobPut
  dsimp only
  repeat' first
    | (with_reducible exact Within.refl _ _)
    | (with_reducible apply State.keyForget_within)
    | ((with_reducible show compsIn _ _ = true); rfl)
    | (with_reducible refine Within.ite (fun _ => ?_) (fun _ => ?_))
    | (simp only [Within.lit]; with_reducible refine Within.upd ?_ rfl (fun k hk => ?_))
    | (cases k <;> first | (exact absurd (by decide) hk) | rfl)

theorem State.graceEnd_within {L : List Comp} {σ : State} (s : State) (p : Nat) (h0 : Within L σ s) (hs : compsIn [.regs, .key, .vault] L = true)
    : Within L σ (State.graceEnd s p) := by
  refine Within.comp ?_ hs h0
  clear h0 hs
  unfold State.graceEnd
  dsimp only
  repeat' first
    | (with_reducible exact Within.refl _ _)
    | (with_reducible apply State.groupUnload_within)
    | (with_reducible apply State.setFld_within)
    | ((with_reducible show compsIn _ _ = true); rfl)
    | (simp only [Within.lit]; with_reducible refine Within.upd ?_ rfl (fun k hk => ?_))
    | (cases k <;> first | (exact absurd (by decide) hk) | (simp only [State.sameAt]; done) | rfl)

theorem State.rewrap_within {L : List Comp} {σ : State} (s : State) (p new : Nat) (h0 : Within L σ s) (hs : compsIn [.regs, .air, .qmg, .link,
    .key] L = true) : Within L σ (State.rewrap s p new) := by
  refine Within.comp ?_ hs h0
  clear h0 hs
  unfold State.rewrap
  dsimp only
  repeat' first
    | (with_reducible exact Within.refl _ _)
    | (simp only [Within.lit]; with_reducible refine Within.upd ?_ rfl (fun k hk => ?_))
    | (cases k <;> first | (exact absurd (by decide) hk) | rfl)
    | split

theorem State.kekTake_within {L : List Comp} {σ : State} (s : State) (c : CmdDesc) (k : Nat) (h0 : Within L σ s) (hs : compsIn [.regs, .pass,
    .host, .safe, .log, .ends, .cvn, .cvnIds, .air, .qmg, .rf, .link, .key, .vault] L = true) : Within L σ (State.kekTake s c k) := by
  refine Within.comp ?_ hs h0
  clear h0 hs
  unfold State.kekTake
  dsimp only
  repeat' first
    | (with_reducible exact Within.refl _ _)
    | (with_reducible apply State.cplKeep_within)
    | (with_reducible apply State.keyPut_within)
    | (with_reducible apply State.rewrap_within)
    | ((with_reducible show compsIn _ _ = true); rfl)
    | (simp only [Within.lit]; with_reducible refine Within.upd ?_ rfl (fun k hk => ?_))
    | (cases k <;> first | (exact absurd (by decide) hk) | rfl)

theorem State.spillError_within {L : List Comp} {σ : State} (s : State) (q : Nat) (f : Frame) (cell : Nat) (h0 : Within L σ s) (hs : compsIn
    [.regs, .pass, .host, .safe, .log, .cvn, .cvnIds, .air, .qmg, .rf, .link, .key, .vault, .mesh] L = true) : Within L σ (State.spillError s
    q f cell) := by
  refine Within.comp ?_ hs h0
  clear h0 hs
  unfold State.spillError
  repeat' first
    | (with_reducible exact Within.refl _ _)
    | (with_reducible apply State.bump_within)
    | (with_reducible apply State.finish_within)
    | (with_reducible apply State.ledger_within)
    | ((with_reducible show compsIn _ _ = true); rfl)

theorem State.spillErrors_within {L : List Comp} {σ : State} (s : State) (q : Nat) (n : Nat) (h0 : Within L σ s) (hs : compsIn [.regs, .pass,
    .host, .safe, .log, .cvn, .cvnIds, .air, .qmg, .rf, .link, .key, .vault, .mesh] L = true) : Within L σ (State.spillErrors s q n) := by
  induction n generalizing s q with
  | zero => exact h0
  | succ n ih =>
  unfold State.spillErrors
  repeat' first
    | (with_reducible assumption)
    | (with_reducible apply ih)
    | (with_reducible apply State.spillError_within)
    | split

theorem State.sendUp_within {L : List Comp} {σ : State} (s : State) (q port0 ring part : Nat) (f : Frame) (h0 : Within L σ s) (hs : compsIn
    [.regs, .pass, .time, .air, .qmg, .shp, .link] L = true) : Within L σ (State.sendUp s q port0 ring part f) := by
  refine Within.comp ?_ hs h0
  clear h0 hs
  unfold State.sendUp
  dsimp only
  repeat' first
    | (with_reducible exact Within.refl _ _)
    | (with_reducible apply State.passSend_within)
    | (with_reducible apply State.release_within)
    | (with_reducible apply State.setQueue_within)
    | (with_reducible apply State.shapeCharge_within)
    | ((with_reducible show compsIn _ _ = true); rfl)
    | (simp only [Within.lit]; with_reducible refine Within.upd ?_ rfl (fun k hk => ?_))
    | (cases k <;> first | (exact absurd (by decide) hk) | rfl)

theorem State.serve_within {L : List Comp} {σ : State} (s0 : State) (q port ring part : Nat) (h0 : Within L σ s0) (hs : compsIn [.regs, .pass,
    .host, .time, .safe, .log, .cvn, .cvnIds, .air, .qmg, .shp, .rf, .link, .key, .vault, .mesh] L = true) : Within L σ (State.serve s0 q port
    ring part) := by
  refine Within.comp ?_ hs h0
  clear h0 hs
  unfold State.serve
  dsimp only
  repeat' first
    | (with_reducible exact Within.refl _ _)
    | (with_reducible apply State.frameCheckFail_within)
    | (with_reducible apply State.queueCheck_within)
    | (with_reducible apply State.sendUp_within)
    | ((with_reducible show compsIn _ _ = true); rfl)
    | (with_reducible refine Within.ite (fun _ => ?_) (fun _ => ?_))
    | split

theorem State.histPut_within {L : List Comp} {σ : State} (s : State) (c kind v : Nat) (h0 : Within L σ s) (hs : compsIn [.qmg] L = true) : Within L σ
    (State.histPut s c kind v) := by
  refine Within.comp ?_ hs h0
  clear h0 hs
  unfold State.histPut
  dsimp only
  repeat' first
    | (with_reducible exact Within.refl _ _)
    | (simp only [Within.lit]; with_reducible refine Within.upd ?_ rfl (fun k hk => ?_))
    | (cases k <;> first | (exact absurd (by decide) hk) | rfl)

theorem State.twinDrop_within {L : List Comp} {σ : State} (s : State) (q : Nat) (f : Frame) (h0 : Within L σ s) (hs : compsIn [.regs, .pass,
    .host, .safe, .log, .cvn, .cvnIds, .air, .qmg, .rf, .link, .key, .vault, .mesh] L = true) : Within L σ (State.twinDrop s q f) := by
  refine Within.comp ?_ hs h0
  clear h0 hs
  unfold State.twinDrop
  dsimp only
  repeat' first
    | (with_reducible exact Within.refl _ _)
    | (with_reducible apply State.drop_within)
    | (with_reducible apply State.queueFault_within)
    | ((with_reducible show compsIn _ _ = true); rfl)
    | (with_reducible refine Within.ite (fun _ => ?_) (fun _ => ?_))
    | (simp only [Within.lit]; with_reducible refine Within.upd ?_ rfl (fun k hk => ?_))
    | (cases k <;> first | (exact absurd (by decide) hk) | rfl)
    | split

theorem State.nbrLost_within {L : List Comp} {σ : State} (s : State) (n : Nat) (h0 : Within L σ s) (hs : compsIn [.regs, .pass, .host, .time,
    .safe, .log, .ndir, .cvn, .cvnIds, .air, .qmg, .rf, .link, .key, .vault, .mesh] L = true) : Within L σ (State.nbrLost s n) := by
  refine Within.comp ?_ hs h0
  clear h0 hs
  unfold State.nbrLost
  dsimp only
  repeat' first
    | (with_reducible exact Within.refl _ _)
    | (with_reducible assumption)
    | (with_reducible apply State.airSync_within)
    | (with_reducible apply State.evtF_within)
    | (with_reducible apply State.setNbr_within)
    | (with_reducible apply State.setNode_within)
    | (with_reducible apply State.twinDrop_within)
    | ((with_reducible show compsIn _ _ = true); rfl)
    | (with_reducible refine Within.foldl ?_ (fun _ _ _ => ?_))

theorem State.blobReady_within {L : List Comp} {σ : State} (s : State) (b : List Byte) (h0 : Within L σ s) (hs : compsIn [.regs, .pass, .host,
    .safe, .log, .cvn, .cvnIds, .air, .qmg, .rf, .link, .key, .vault] L = true) : Within L σ (State.blobReady s b) := by
  refine Within.comp ?_ hs h0
  clear h0 hs
  unfold State.blobReady
  repeat' first
    | (with_reducible exact Within.refl _ _)
    | (with_reducible apply State.kekReady_within)
    | ((with_reducible show compsIn _ _ = true); rfl)

theorem State.linkLoad_within {L : List Comp} {σ : State} (s : State) (n : Nat) (h0 : Within L σ s) (hs : compsIn [.regs, .pass, .host, .safe,
    .log, .cvn, .cvnIds, .air, .qmg, .rf, .link, .key, .vault] L = true) : Within L σ (State.linkLoad s n) := by
  refine Within.comp ?_ hs h0
  clear h0 hs
  unfold State.linkLoad
  dsimp only
  repeat' first
    | (with_reducible exact Within.refl _ _)
    | (with_reducible apply State.bump_within)
    | (with_reducible refine State.keyLoad_within ?_ ?_ _ (by assumption))
    | (with_reducible apply State.keyReady_within)
    | (with_reducible apply State.keyRequest_within)
    | ((with_reducible show compsIn _ _ = true); rfl)
    | split

theorem State.joinBind_within {L : List Comp} {σ : State} (s : State) (o eui : Nat) (h0 : Within L σ s) (hs : compsIn [.ndir] L = true) : Within L σ
    (State.joinBind s o eui) := by
  refine Within.comp ?_ hs h0
  clear h0 hs
  unfold State.joinBind
  dsimp only
  repeat' first
    | (with_reducible exact Within.refl _ _)
    | (with_reducible apply State.setNode_within)
    | ((with_reducible show compsIn _ _ = true); rfl)
    | split

theorem State.prpSync_within {L : List Comp} {σ : State} (s : State) (h0 : Within L σ s) (hs : compsIn [.regs] L = true) : Within L σ (State.prpSync
    s) := by
  refine Within.comp ?_ hs h0
  clear h0 hs
  unfold State.prpSync
  repeat' first
    | (with_reducible exact Within.refl _ _)
    | (with_reducible apply State.setFld_within)
    | ((with_reducible show compsIn _ _ = true); rfl)

theorem State.prpDup_within {L : List Comp} {σ : State} (s : State) (src seq : Nat) (h0 : Within L σ s) (hs : compsIn [.regs, .eth] L = true) : Within
    L σ (State.prpDup s src seq).1 := by
  refine Within.comp ?_ hs h0
  clear h0 hs
  unfold State.prpDup
  dsimp only
  repeat' first
    | (with_reducible exact Within.refl _ _)
    | (with_reducible apply State.bump_within)
    | (with_reducible apply State.prpSync_within)
    | ((with_reducible show compsIn _ _ = true); rfl)
    | (with_reducible refine Within.ite (fun _ => ?_) (fun _ => ?_))
    | (with_reducible refine Within.ite1 (fun _ => ?_) (fun _ => ?_))
    | (simp only [Within.lit]; with_reducible refine Within.upd ?_ rfl (fun k hk => ?_))
    | (cases k <;> first | (exact absurd (by decide) hk) | rfl)
    | split

theorem State.prpRx_within {L : List Comp} {σ : State} (s : State) (e : Nat) (bs : List Byte) (h0 : Within L σ s) (hs : compsIn [.regs, .eth,
    .air, .qmg, .link] L = true) : Within L σ (State.prpRx s e bs).1 := by
  refine Within.comp ?_ hs h0
  clear h0 hs
  unfold State.prpRx
  dsimp only
  repeat' first
    | (with_reducible exact Within.refl _ _)
    | (with_reducible apply State.bump_within)
    | (with_reducible apply State.prpDup_within)
    | ((with_reducible show compsIn _ _ = true); rfl)
    | (with_reducible refine Within.ite (fun _ => ?_) (fun _ => ?_))
    | split

theorem State.gateCycle_within {L : List Comp} {σ : State} (s : State) (e at_ : Nat) (h0 : Within L σ s) (hs : compsIn [.regs, .free, .host, .eth,
    .air, .qmg, .link] L = true) : Within L σ (State.gateCycle s e at_) := by
  refine Within.comp ?_ hs h0
  clear h0 hs
  unfold State.gateCycle
  dsimp only
  repeat' first
    | (with_reducible exact Within.refl _ _)
    | (with_reducible assumption)
    | (with_reducible apply State.bump_within)
    | (with_reducible apply State.ethLost_within)
    | (with_reducible apply State.setTx_within)
    | ((with_reducible show compsIn _ _ = true); rfl)
    | (with_reducible refine Within.ite (fun _ => ?_) (fun _ => ?_))
    | (with_reducible refine Within.foldl ?_ (fun _ _ _ => ?_))

theorem State.txtsPut_within {L : List Comp} {σ : State} (s : State) (e tsId ns : Nat) (h0 : Within L σ s) (hs : compsIn [.regs, .pass, .eth] L =
    true) : Within L σ (State.txtsPut s e tsId ns) := by
  refine Within.comp ?_ hs h0
  clear h0 hs
  unfold State.txtsPut
  dsimp only
  repeat' first
    | (with_reducible exact Within.refl _ _)
    | (with_reducible apply State.bump_within)
    | (with_reducible apply State.evtF_within)
    | (with_reducible apply State.txtsSync_within)
    | ((with_reducible show compsIn _ _ = true); rfl)
    | (with_reducible refine Within.ite (fun _ => ?_) (fun _ => ?_))
    | (simp only [Within.lit]; with_reducible refine Within.upd ?_ rfl (fun k hk => ?_))
    | (cases k <;> first | (exact absurd (by decide) hk) | rfl)

end Sys2Proof.Machine
end

