-- ==== Sys2Proof/Laws/Iphc.lean ====
section
/-! SUPPORT. How long the compressed form of a datagram can be (R237). -/

namespace Sys2Proof.Machine

theorem leBytes_length (n x : Nat) : (leBytes n x).length = n := by
  induction n generalizing x with
  | zero => rfl
  | succ n ih => simp [leBytes, ih]

@[simp] theorem beBytes_length (n x : Nat) : (beBytes n x).length = n := by
  simp [beBytes, leBytes_length]

theorem iidForms_le (ac ctx link iid : Nat) : ∀ f ∈ iidForms ac ctx link iid, f.bytes.length ≤ 16 := by
  intro f h
  simp only [iidForms, List.mem_append, List.mem_ite_nil_right, List.mem_singleton] at h
  rcases h with (⟨-, rfl⟩ | ⟨-, rfl⟩) | rfl <;> simp

theorem uniForms_le (cs : List Ctx) (link a : Nat) : ∀ f ∈ uniForms cs link a, f.bytes.length ≤ 16 := by
  intro f h
  simp only [uniForms, List.mem_append, List.mem_ite_nil_right, List.mem_singleton, List.mem_flatMap] at h
  rcases h with (⟨-, h⟩ | rfl) | ⟨c, -, -, h⟩
  · exact iidForms_le _ _ _ _ f h
  · simp
  · exact iidForms_le _ _ _ _ f h

theorem srcForms_le (cs : List Ctx) (link a : Nat) : ∀ f ∈ srcForms cs link a, f.bytes.length ≤ 16 := by
  intro f h
  unfold srcForms at h
  split at h
  · simp only [List.mem_singleton] at h
    subst h; simp
  · exact uniForms_le _ _ _ f h

theorem mcastForms_le (cs : List Ctx) (a : Nat) : ∀ f ∈ mcastForms cs a, f.bytes.length ≤ 16 := by
  intro f h
  simp only [mcastForms, List.mem_append, List.mem_ite_nil_right, List.mem_singleton, List.mem_flatMap] at h
  rcases h with (((⟨-, rfl⟩ | ⟨-, rfl⟩) | ⟨-, rfl⟩) | rfl) | ⟨c, -, -, rfl⟩ <;> simp

theorem dstForms_le (cs : List Ctx) (link a : Nat) : ∀ f ∈ dstForms cs link a, f.bytes.length ≤ 16 := by
  intro f h
  unfold dstForms at h
  split at h
  · exact mcastForms_le _ _ f h
  · exact uniForms_le _ _ _ f h

theorem headD_le (l : List AddrForm) (h : ∀ f ∈ l, f.bytes.length ≤ 16) : (l.headD ⟨0, 0, 0, []⟩).bytes.length ≤ 16 := by
  cases l with
  | nil => simp
  | cons a l => exact h a (by simp)

theorem foldl_choice {α : Type} (q : α → Prop) (better : α → α → Bool) (l : List α) (m : α) (hm : q m) (hl : ∀ x ∈ l, q x) :
    q (l.foldl (fun m e => if better e m then e else m) m) := by
  induction l generalizing m with
  | nil => exact hm
  | cons a l ih =>
    refine ih _ ?_ (fun x hx => hl x (by simp [hx]))
    dsimp only
    split
    · exact hl a (by simp)
    · exact hm

theorem bestPair_le (ss ds : List AddrForm) (hs : ∀ f ∈ ss, f.bytes.length ≤ 16) (hd : ∀ f ∈ ds, f.bytes.length ≤ 16) :
    (bestPair ss ds).1.bytes.length ≤ 16 ∧ (bestPair ss ds).2.bytes.length ≤ 16 := by
  have h := foldl_choice (fun e : AddrForm × AddrForm => e.1.bytes.length ≤ 16 ∧ e.2.bytes.length ≤ 16)
    (fun e m => decide (pairCost e < pairCost m)) (ss.flatMap (fun s => ds.map (fun d => (s, d))))
    (ss.headD ⟨0, 0, 0, []⟩, ds.headD ⟨0, 0, 0, []⟩) ⟨headD_le _ hs, headD_le _ hd⟩ (by
      intro x hx
      simp only [List.mem_flatMap, List.mem_map] at hx
      obtain ⟨s, h1, d, h2, rfl⟩ := hx
      exact ⟨hs s h1, hd d h2⟩)
  simpa [bestPair] using h

theorem flowForm_le (b : List Byte) : (flowForm b).2.length ≤ 4 := by
  unfold flowForm
  dsimp only
  repeat' split
  all_goals simp

theorem hopForm_le (b : List Byte) : (hopForm b).2.length ≤ 1 := by
  unfold hopForm
  split <;> simp

/-- An IPHC header takes at most 41 octets. -/
theorem ip6Form_le (cs : List Ctx) (ls ld : Nat) (b : List Byte) (sub : Option (List Byte × Nat)) (k : Nat)
    (hs : ∀ e, sub = some e → e.1.length ≤ k) (hb : b.length - 40 ≤ k) : (ip6Form cs ls ld b sub).1.length ≤ 41 + k := by
  have hp := bestPair_le _ _ (srcForms_le cs ls (ipSrc b)) (dstForms_le cs ld (ipDst b))
  have hf := flowForm_le b
  have hh := hopForm_le b
  have hr : ((sub.map (fun e => e.1)).getD (b.drop 40)).length ≤ k := by
    cases sub with
    | none => simpa using hb
    | some e => exact hs e rfl
  unfold ip6Form
  dsimp only
  simp only [List.length_append, beBytes_length]
  have h1 : ∀ (c : Prop) [Decidable c] (x : Nat), (if c then beBytes 1 x else []).length ≤ 1 := by
    intro c _ x; split <;> simp
  have h2 : ∀ (c : Prop) [Decidable c] (x : Nat), (if c then [] else beBytes 1 x).length ≤ 1 := by
    intro c _ x; split <;> simp
  have := h1 ((if (bestPair (srcForms cs ls (ipSrc b)) (dstForms cs ld (ipDst b))).1.ctx = 0 &&
    (bestPair (srcForms cs ls (ipSrc b)) (dstForms cs ld (ipDst b))).2.ctx = 0 then 0 else 1) = 1)
    ((bestPair (srcForms cs ls (ipSrc b)) (dstForms cs ld (ipDst b))).1.ctx * 16 +
      (bestPair (srcForms cs ls (ipSrc b)) (dstForms cs ld (ipDst b))).2.ctx)
  have := h2 ((if sub.isSome then 1 else 0) = 1) (ipNext b)
  omega

theorem udpForm_le (b : List Byte) : (udpForm b).length ≤ 7 := by
  unfold udpForm
  dsimp only
  have : ((b.drop 6).take 2).length ≤ 2 := by simp
  simp only [List.length_append]
  repeat' split
  all_goals simp only [List.length_cons, List.length_append, beBytes_length]
  all_goals omega

/-- Each compressed header adds at most 42 octets to what it stands for. -/
theorem nhcForm_le (cs : List Ctx) (n : Nat) : ∀ (own : Bool) (next ls ld : Nat) (b : List Byte),
    ∀ e, nhcForm cs n own next ls ld b = some e → e.1.length ≤ b.length + 42 * n := by
  induction n with
  | zero => intro own next ls ld b e h; simp [nhcForm] at h
  | succ n ih =>
    intro own next ls ld b e h
    unfold nhcForm at h
    split at h
    · split at h
      · cases h
      · rename_i hl
        have := udpForm_le b
        have h8 : 8 ≤ b.length := by
          simp only [Bool.or_eq_true, decide_eq_true_eq, not_or, Nat.not_lt] at hl
          exact hl.1
        cases h
        simp only [List.length_append, List.length_drop]
        omega
    · split at h
      · cases h
      · split at h
        · have := ip6Form_le cs ls ld b (nhcForm cs n false (ipNext b) (ipSrc b % 2 ^ 64) (ipDst b % 2 ^ 64) (b.drop 40))
            (b.length + 42 * n) (by
              intro e he
              have := ih _ _ _ _ _ e he
              simp only [List.length_drop] at this
              omega) (by omega)
          generalize ip6Form cs ls ld b _ = r at h this
          cases h
          simp only [List.length_cons]
          omega
        · cases hx : extEid next with
          | none => rw [hx] at h; cases h
          | some eid =>
            rw [hx] at h
            simp only [Option.map_some, Option.some.injEq] at h
            subst h
            have hr : (((nhcForm cs n own (beAt b 0 1) ls ld (b.drop ((beAt b 1 1 + 1) * 8))).map (fun e => e.1)).getD
                (b.drop ((beAt b 1 1 + 1) * 8))).length ≤ (b.length - (beAt b 1 1 + 1) * 8) + 42 * n := by
              cases hy : nhcForm cs n own (beAt b 0 1) ls ld (b.drop ((beAt b 1 1 + 1) * 8)) with
              | none => simp
              | some e =>
                have := ih _ _ _ _ _ e hy
                simpa using this
            have ht : ((b.drop 2).take ((beAt b 1 1 + 1) * 8 - 2)).length ≤ min (b.length - 2) ((beAt b 1 1 + 1) * 8 - 2) := by
              simp
            have h2 : ∀ (c : Prop) [Decidable c] (x : Nat), (if c then [] else beBytes 1 x).length ≤ 1 := by
              intro c _ x; split <;> simp
            have := h2 ((nhcForm cs n own (beAt b 0 1) ls ld (b.drop ((beAt b 1 1 + 1) * 8))).isSome = true) (beAt b 0 1)
            simp only [List.length_append, beBytes_length]
            omega

/-- A compressed form of a datagram with eight headers after the first is at most 377 octets longer than the datagram. -/
theorem iphcForm_le (cs : List Ctx) (own : Bool) (src dst : Nat) (dg : List Byte) :
    (iphcForm cs 8 own src dst dg).1.length ≤ dg.length + 377 := by
  unfold iphcForm
  refine Nat.le_trans (ip6Form_le _ _ _ _ _ (dg.length + 336) ?_ (by omega)) (by omega)
  intro e he
  have := nhcForm_le _ _ _ _ _ _ _ e he
  simp only [List.length_drop] at this
  omega

/-- The compressed form of a datagram is at most 377 octets longer than the datagram. -/
theorem compress_le (s : State) (p : Nat) (nbr : Option Nat) (own : Bool) (dg : List Byte) :
    (s.compress p nbr own dg).length ≤ dg.length + 377 := iphcForm_le _ _ _ _ _

/-- A unicast frame to an EUI-64 has at most 6 octets more beside its payload than a broadcast one. -/
theorem macOverUni_le (s : State) (p : Nat) : s.macOverUni p ≤ s.macOver p none + 6 := by
  unfold State.macOverUni State.macOver State.macOverAt
  dsimp only
  split <;> simp <;> omega

theorem ipHeader_length (next hop src dst : Nat) (payload : List Byte) : (ipHeader next hop src dst payload).length = payload.length + 40 := by
  simp [ipHeader]; omega

theorem udpDatagram_length (src dst sport dport hop : Nat) (payload : List Byte) :
    (udpDatagram src dst sport dport hop payload).length = payload.length + 48 := by
  simp [udpDatagram, ipHeader_length]; omega

/-- A datagram of an engine fits one frame of its PAN when the frame has room for its payload and 479 octets more (R261). -/
theorem engineFits_of_room (s : State) (p dport sport hop : Nat) (payload : List Byte) (flood uni : Bool)
    (h : payload.length + 479 ≤ s.payloadMax p none) : s.engineFits p dport sport hop payload flood uni = true := by
  have room : s.payloadMax p none ≤ s.maxFrame p - s.macOverUni p + 6 := by
    have := macOverUni_le s p
    unfold State.payloadMax
    omega
  unfold State.engineFits
  simp only [Bool.and_eq_true, Bool.or_eq_true, decide_eq_true_eq]
  refine ⟨.inr (Nat.le_trans (compress_le s p none true _) ?_), .inr (Nat.le_trans (iphcForm_le _ _ _ _ _) ?_)⟩
  · simp [State.mplDatagram, ipHeader_length, udpDatagram_length]
    omega
  · simp [ipHeader_length, udpDatagram_length]
    omega

end Sys2Proof.Machine
end

