-- ==== Sys2Proof/Laws/Ops.lean ====
section
/-! SUPPORT. What the shared operations do, said once for the proofs that cite them: messages over the Pass, completions, events, host
memory, rings and locks. -/

namespace Sys2Proof.Machine

/-! ### Answers -/

theorem Does.of_next {c : Instr} {s t : State} {q : State → Prop} (h : exec c s = .next t) (hq : q t) : Does c s q := ⟨t, h, hq⟩

theorem Does.and {c : Instr} {s : State} {q r : State → Prop} (h : Does c s q) (h2 : Does c s r) : Does c s (fun t => q t ∧ r t) := by
  obtain ⟨t, e, hq⟩ := h
  obtain ⟨u, e2, hr⟩ := h2
  cases e.symm.trans e2
  exact ⟨t, e, hq, hr⟩

/-- A command whose state stays within its components answers within them. -/
theorem Does.keeps {c : Instr} {s t : State} {l : List Comp} (h : exec c s = .next t) (hw : Within l s t) : Keeps c s l := ⟨t, h, hw.only⟩

/-! ### Messages over the Pass -/

section
variable (s : State) (d : Die) (typ : Nat) (m : PassMsg) (act rejected : State → State)

theorem State.passRx_accepted (h : Accepted s d typ m) : s.passRx d typ m act rejected = act (s.acked d m) := by
  obtain ⟨h1, h2, h3, h4⟩ := h
  cases d <;> simp [State.passRx, h1, h3, h4, ← h2, State.acked]

theorem State.passRx_down (h : s.passUp = false) : s.passRx d typ m act rejected = s := by simp [State.passRx, h]

theorem State.passRx_order (h : s.passUp = true) (hc : m.crc = passCrc typ m) (hs : m.seq ≠ (s.rxDir d).rx) :
    s.passRx d typ m act rejected = s := by simp [State.passRx, h, hc, hs]

theorem State.passRx_crc (h : s.passUp = true) (hc : m.crc ≠ passCrc typ m) : s.passRx d typ m act rejected =
    (s.setRxDir d { s.rxDir d with discarding := true }).bump (match d with | .h => R.PASS_CNT_CRC | .f => R.PASS_FCNT_CRC) := by
  cases d <;> simp [State.passRx, h, hc]

theorem State.passRx_malformed (h : s.passUp = true) (hc : m.crc = passCrc typ m) (hs : m.seq = (s.rxDir d).rx)
    (hm : passMalformed typ m = true) : s.passRx d typ m act rejected = rejected ((s.acked d m).passReject d typ m) := by
  cases d <;> simp [State.passRx, h, hc, hm, ← hs, State.acked]

@[simp] theorem State.acked_regs : (s.acked d m).regs = s.regs := by cases d <;> rfl
@[simp] theorem State.acked_rd (k : Nat) : (s.acked d m).rd k = s.rd k := by cases d <;> rfl
@[simp] theorem State.acked_fld (k : Nat) (f : Fld) : (s.acked d m).fld k f = s.fld k f := by cases d <;> rfl
@[simp] theorem State.acked_flag (k : Nat) (f : Fld) : (s.acked d m).flag k f = s.flag k f := by cases d <;> rfl
@[simp] theorem State.acked_now : (s.acked d m).now = s.now := by cases d <;> rfl
@[simp] theorem State.acked_host : (s.acked d m).host = s.host := by cases d <;> rfl
@[simp] theorem State.acked_safe : (s.acked d m).safe = s.safe := by cases d <;> rfl
@[simp] theorem State.acked_time : (s.acked d m).time = s.time := by cases d <;> rfl
@[simp] theorem State.acked_cmds : (s.acked d m).cmds = s.cmds := by cases d <;> rfl
@[simp] theorem State.acked_rx : ((s.acked d m).rxDir d).rx = (s.rxDir d).rx + 1 := by cases d <;> rfl
@[simp] theorem State.acked_discarding : ((s.acked d m).rxDir d).discarding = false := by cases d <;> rfl
@[simp] theorem State.acked_queue : ((s.acked d m).txDir d).retry ++ ((s.acked d m).txDir d).waiting =
    dropAcked m.ack (s.txDir d).retry ++ (s.txDir d).waiting.map (s.passStamp d) := by
  cases d <;> exact passFill_append _ _

theorem State.acked_onlyIn : (s.acked d m).onlyIn s [.pass] := by
  intro k hk
  cases d <;> cases k <;> first | exact absurd (by decide) hk | rfl

end

section
variable (s : State) (d : Die) (typ part : Nat) (g : Bool) (len : Nat) (ws : List Word)

/-- What a die sends is the last message it has sent. -/
@[simp] theorem State.passSend_sent : (s.passSend d typ part g len ws).sent d = some (typ, part, ws) := by
  simp [State.sent, State.lastSent]

@[simp] theorem State.passSend_lastSent :
    (s.passSend d typ part g len ws).lastSent d = some ⟨typ, part, g, len, (s.txDir d).next, 0, 0, ws⟩ := by simp [State.lastSent]

theorem State.passSend_onlyIn : (s.passSend d typ part g len ws).onlyIn s [.pass] :=
  (State.passSend_within s d typ part g len ws (Within.refl [.pass] s) rfl).only

end

/-! ### Completions and events -/

section
variable (s : State) (c : CmdDesc) (status : Nat) (ws : List Word) (cause : Nat)

theorem State.leads_turn (h : s.leads c = true) : s.cmdTurn c = true := by
  simp only [State.leads, Bool.and_eq_true] at h
  exact h.1

theorem State.leads_clear (h : s.leads c = true) : s.clearFor c = true := by
  simp only [State.leads, Bool.and_eq_true] at h
  exact h.2

/-- Places of which none of the family is done send nothing. -/
theorem State.cplSend_none (f : Nat) (l : List CplSlot) (h : ∀ x ∈ l, cmdFamily x.cmd = f → x.done = none) (s : State) :
    (s.cplSend f l).pass = s.pass := by
  induction l generalizing s with
  | nil => rfl
  | cons x xs ih =>
    by_cases hc : cmdFamily x.cmd = f
    · simp [State.cplSend, hc, h x List.mem_cons_self hc]
    · simpa [State.cplSend, hc] using ih (fun y hy => h y (List.mem_cons_of_mem x hy)) _

/-- Where nothing of the family is outstanding but the command itself, its record goes. -/
theorem State.cplSend_mark (l : List CplSlot) (h : ∀ x ∈ l, cmdFamily x.cmd = cmdFamily c → x = { cmd := c }) (s : State) :
    (s.cplSend (cmdFamily c) (cplMark c ws l)).pass = (s.passSend .f 5 c.part.val false 32 ws).pass := by
  induction l generalizing s with
  | nil => simp [cplMark, State.cplSend]
  | cons x xs ih =>
    have hx := h x List.mem_cons_self
    have hxs : ∀ y ∈ xs, cmdFamily y.cmd = cmdFamily c → y = { cmd := c } := fun y hy => h y (List.mem_cons_of_mem x hy)
    by_cases hc : cmdFamily x.cmd = cmdFamily c
    · rw [hx hc]
      simp only [cplMark, decide_true, Option.isNone_none, Bool.and_self, if_true, State.cplSend, ne_eq, not_true_eq_false, if_false]
      exact State.cplSend_none _ xs (fun y hy hf => by rw [hxs y hy hf]) _
    · have hn : x.cmd ≠ c := fun e => hc (by rw [e])
      simp only [cplMark, hn, decide_false, Bool.false_and, Bool.false_eq_true, if_false, State.cplSend, ne_eq, hc, not_false_eq_true, if_true]
      rw [ih hxs]
      rfl

/-- A command of whose family nothing else is outstanding sends its record to the H-die as it completes. -/
theorem State.cmdDone_completed (h : s.clearFor c = true) : (s.cmdDone c status ws cause 0).completed c status ws cause := by
  have h2 : ∀ x ∈ s.ends.order, cmdFamily x.cmd = cmdFamily c → x = { cmd := c } := by
    intro x hx hf
    simpa [hf] using List.all_eq_true.mp h x hx
  have e : (s.cmdDone c status ws cause 0).pass = (s.passSend .f 5 c.part.val false 32 (cplRecord c status ws cause 0)).pass := by
    simp only [State.cmdDone, State.cplOffer]
    split
    · rfl
    · rw [State.cplSend_mark c _ _ h2]
      rfl
  have e2 : (s.cmdDone c status ws cause 0).sent .f = some (5, c.part.val, cplRecord c status ws cause 0) := by
    rw [← s.passSend_sent .f 5 c.part.val false 32 (cplRecord c status ws cause 0)]
    simp only [State.sent, State.lastSent, State.txDir, e]
  simpa [State.completed, cplRecord] using e2

theorem State.cmdOk_completed (h : s.clearFor c = true) : (s.cmdOk c ws).completed c stOK ws 0 := State.cmdDone_completed s c stOK ws 0 h

theorem State.cmdBad_completed (h : s.clearFor c = true) : (s.cmdBad c cause).completed c stBAD_PARAM [] cause :=
  State.cmdDone_completed s c stBAD_PARAM [] cause h

/-- While an earlier command of its family runs on, the record of a command waits and nothing goes. -/
theorem State.cplOffer_held (x : CplSlot) (l : List CplSlot) (ho : s.ends.order = x :: l) (hx : x.done = none) (hc : x.cmd ≠ c)
    (hf : cmdFamily x.cmd = cmdFamily c) (hl : cmdLoose c = false) :
    s.cplOffer c ws = { s with ends := { s.ends with order := x :: cplMark c ws l } } := by
  simp [State.cplOffer, ho, hf, hc, hl, hx, cplMark, State.cplSend]

@[simp] theorem State.cmdDone_rd (detail k : Nat) : (s.cmdDone c status ws cause detail).rd k = s.rd k := rfl
@[simp] theorem State.cmdOk_rd (k : Nat) : (s.cmdOk c ws).rd k = s.rd k := rfl
@[simp] theorem State.cmdBad_rd (k : Nat) : (s.cmdBad c cause).rd k = s.rd k := rfl
@[simp] theorem State.cmdTake_rd (k : Nat) : (s.cmdTake c).rd k = s.rd k := rfl
@[simp] theorem State.cmdTake_ends : (s.cmdTake c).ends = s.ends := rfl

theorem State.cplOpen_order (h : cmdLoose c = false) : (s.cplOpen c).ends.order = s.ends.order ++ [{ cmd := c }] := by simp [State.cplOpen, h]

theorem State.cmdDone_onlyIn (detail : Nat) : (s.cmdDone c status ws cause detail).onlyIn s [.pass, .ends] := by
  intro k hk
  cases k <;> first | exact absurd (by decide) hk | rfl

/-- A descriptor fetched before a reset of its partition does not complete. -/
theorem State.txDone_stale (f : Fetched) (t : Word) (a b : Nat) (tw : Bool) (detail : Nat) (h : f.gen ≠ aget 0 f.part s.ends.gens) :
    s.txDone f status t a b tw cause detail = s := by simp [State.txDone, h]

/-- A transmit descriptor completes with its record to the H-die. -/
theorem State.txDone_sent (f : Fetched) (t : Word) (a b : Nat) (tw : Bool) (detail : Nat) (h : f.gen = aget 0 f.part s.ends.gens) :
    (s.txDone f status t a b tw cause detail).sent .f = some (5, f.part, txRecord f status t a b tw cause detail) := by
  have e : s.txDone f status t a b tw cause detail = s.passSend .f 5 f.part false 32 (txRecord f status t a b tw cause detail) := by
    simp only [State.txDone, h, ne_eq, not_true_eq_false, if_false]
    rfl
  rw [e]
  simp

/-- A completion that a descriptor of before is owed is discarded: nothing but the host side's list of them changes. -/
theorem State.cplDeliver_stale (p : Nat) (r : List Word) (h : s.host.stale.any (cplAnswers p r) = true) :
    (s.cplDeliver p r).onlyIn s [.host] := by
  intro k hk
  simp only [State.cplDeliver, h, if_true]
  cases k <;> first | exact absurd (by decide) hk | rfl

/-- Any other is written to its ring. -/
theorem State.cplDeliver_fresh (p : Nat) (r : List Word) (h : s.host.stale.any (cplAnswers p r) = false) :
    s.cplDeliver p r = s.cplEnd p r := by simp [State.cplDeliver, h]

/-- The H-die completes a descriptor only while it is still fetched. -/
theorem State.cplOwn_fetched (p : Nat) (r : List Word) (h : s.host.fetched.any (cplAnswers p r) = true) :
    s.cplOwn p r = s.cplEnd p r := by simp [State.cplOwn, h]

theorem State.cplOwn_flushed (p : Nat) (r : List Word) (h : s.host.fetched.any (cplAnswers p r) = false) :
    (s.cplOwn p r).onlyIn s [.host] := by
  intro k hk
  simp only [State.cplOwn, h, Bool.false_eq_true, if_false]
  cases k <;> first | exact absurd (by decide) hk | rfl

/-- The F-die's event crosses the Pass with its source and parameters. -/
theorem State.evtF_sent (src mask : Nat) (p0 p1 p2 : Word) : (s.evtF src mask p0 p1 p2).sent .f = some (6, 0, evtWords s.cityNs src mask p0 p1 p2) :=
  State.passSend_sent ..

theorem State.evtF_raised {src : Nat} (mask : Nat) (p0 p1 p2 : Word) (h : src < 128) : (s.evtF src mask p0 p1 p2).raised src p0 p1 p2 := by
  simp [State.raised, State.evtF, evtWords, wordAt, Nat.mod_eq_of_lt h]
  omega

@[simp] theorem State.evtF_rd (src mask : Nat) (p0 p1 p2 : Word) (k : Nat) : (s.evtF src mask p0 p1 p2).rd k = s.rd k := State.rd_passSend ..

end

/-! ### Host memory -/

section
variable (s : State)

theorem aget_memPut_ne (p a : Nat) (bs : List Byte) (m : List (Nat × Byte)) (k : Nat) (h : ∀ i, i < bs.length → k ≠ memKey p (a + i)) :
    aget 0 k (memPut p a bs m) = aget 0 k m := by
  induction bs generalizing a m with
  | nil => rfl
  | cons b bs ih =>
    rw [memPut, ih (a + 1) _ (fun i hi => by
      have := h (i + 1) (by simpa using hi)
      rwa [show a + 1 + i = a + (i + 1) by omega])]
    exact aget_aset_ne 0 b _ _ m (h 0 (by simp))

/-- An octet outside those written reads as before. -/
theorem State.memByte_memWrite_ne (p a q b : Nat) (bs : List Byte) (h : ∀ i, i < bs.length → memKey q b ≠ memKey p (a + i)) :
    (s.memWrite p a bs).memByte q b = s.memByte q b := aget_memPut_ne p a bs s.host.mem _ h

/-- Another partition's memory reads as before. -/
theorem State.memByte_memWrite_part (p a q b : Nat) (bs : List Byte) (h : q ≠ p) : (s.memWrite p a bs).memByte q b = s.memByte q b :=
  s.memByte_memWrite_ne p a q b bs (fun i _ e => h (by unfold memKey at e; omega))

end

/-! ### Locks -/

section
variable (s : State) (p k : Nat) (data : Word) (ok : State → State)

/-- Through an armed lock a guarded write is a violation. -/
theorem State.guarded_armed (h : s.unlocked p = false) : s.guarded p k data ok = s.guardViolation p (w32 k) false data := by
  simp [State.guarded, State.guardTake, h]

/-- Through an unlocked lock it takes place, and arms the lock. -/
theorem State.guarded_unlocked (h : s.unlocked p = true) : s.guarded p k data ok = ok (s.armLock p) := by
  simp [State.guarded, State.guardTake, h]

end

end Sys2Proof.Machine
end

