-- ==== Sys2Proof/WellFormed.lean ====
section
/-! DEFINITION. Which commands are well formed: operands within what the spec's formats can carry. The machine takes the others too; a
sender that keeps to the spec sends none of them. -/

namespace Sys2Proof

/-- A Pass message whose header fields fit their widths and whose payload has the octets that `LEN` counts, in words (R16). -/
def msgOk (m : PassMsg) : Bool := m.part < 4 && m.len < 65536 && m.payload.length = (m.len + 3) / 4

/-- A descriptor that carries the opcode of its row (R322). -/
def descOk (op : Nat) (c : CmdDesc) : Bool := c.w0.toNat % 256 = op

/-- Places of R371 that exist. -/
def ueOk : UeStore → Bool
  | .cell q _ _ x => q < 36864 && x ≠ 0
  | .pointers q _ => q < 36864
  | .spill q _ _ => q < 36864
  | _ => true

/-- A configuration access within the 4 KiB of a function, aligned to a word (R306). -/
def cfgOk : CfgAccess → Bool
  | .read off => off < 4096 && off % 4 = 0
  | .write off _ => off < 4096 && off % 4 = 0
  | _ => true

/-- A detection on a listening point or an acknowledgement point (R82, R119). -/
def detectionOk (d : Detection) : Bool := d.point < 8208 && d.tracked.all (fun t => t.1 < 1152)

/-- A frame whose fields fit their widths. -/
def frameOk (f : RxFrame) : Bool :=
  f.ftype < 8 && f.mhr.length + f.payload.length + f.mic.length < 2048 && f.level < 8 && f.keyMode < 4 && f.keyIndex < 256 &&
    f.counter < 2 ^ 32 && f.dsn.all (· < 256) && f.dstPan.all (· < 65536)

/-- Symbols as a demodulator meets them: 12 samples each where an equaliser is in use, else one. -/
def symsOk (l : List RxSym) : Bool := l.all (fun y => y.x.length = 12 || y.x.length = 1)

/-- A PHR whose fields fit their widths. -/
def phrWf (h : Phr) : Bool := h.len < 2048 && (h.fcsLen = 2 || h.fcsLen = 4) && h.switch.all (fun m => m.2 < 128)

/-- Well-formedness of a command. -/
def Instr.wf : Instr → Bool
  | .registerWrite _ off _ _ _ => off.toNat % 4 = 0
  | .readClear _ off _ => off.toNat % 4 = 0
  | .linkIdle _ m => msgOk m
  | .credit _ m => msgOk m
  | .frameDn m _ => msgOk m
  | .frameUp m => msgOk m
  | .desc m => msgOk m
  | .compl m => msgOk m
  | .event m => msgOk m
  | .regRd _ m => msgOk m
  | .regWr _ m => msgOk m
  | .regRsp _ m => msgOk m
  | .timeSync m => msgOk m
  | .tsReport m => msgOk m
  | .health _ m => msgOk m
  | .healthSend _ => true
  | .healthTimeout _ => true
  | .safeAssert _ m => msgOk m
  | .bootLoad m => msgOk m
  | .resetReq _ m => msgOk m
  | .passResendTimeout _ => true
  | .bandplanWrite _ _ => true
  | .arrayEnable _ _ _ => true
  | .arrayDisable _ _ _ => true
  | .arrayConfigUpdate _ _ _ => true
  | .beamEnable _ _ _ => true
  | .beamDisable _ _ _ => true
  | .weightWrite _ _ => true
  | .weightRead _ => true
  | .weightCommit _ _ => true
  | .calRun _ _ => true
  | .calIntervalExpiry _ => true
  | .calibrationStart _ => true
  | .calibrationDone rx tx => rx.length = 32 && tx.length = 32
  | .calMaxageExpiry _ => true
  | .dieTempSample _ => true
  | .slotPreparation _ => true
  | .blankingStart _ => true
  | .feTxenAssert _ => true
  | .txFrameStart _ _ => true
  | .txFrameEnd _ => true
  | .blankingEnd _ => true
  | .ackPointOpen _ => true
  | .ackPointClose _ => true
  | .enhAckBeamFix _ => true
  | .preambleDetection d => detectionOk d
  | .sfdFound _ syms => symsOk syms
  | .sfdLimitExpiry _ => true
  | .phrDecoded _ h syms => phrWf h && symsOk syms
  | .psduEnd _ syms => symsOk syms
  | .fcsCheckDone _ _ _ _ => true
  | .crossroadsArrival _ f _ => frameOk f
  | .mergeWindowClose _ => true
  | .recentKeyExpiry _ => true
  | .noiseFloorSample _ _ => true
  | .lpEnable _ _ => true
  | .lpDisable _ _ => true
  | .lpRead _ => true
  | .profileWrite _ _ => true
  | .slotStart _ => true
  | .slotStop _ => true
  | .slotframeEnable _ _ _ => true
  | .slotframeDisable _ _ _ => true
  | .cellWrite _ _ => true
  | .cellRead _ => true
  | .hopEntryWrite _ _ => true
  | .engineBistStart _ => true
  | .engineBistDone _ _ => true
  | .engineProbationEnd _ => true
  | .rxWindowOpen _ => true
  | .rxWindowClose _ => true
  | .reassemblyTimeout _ src size tag => src < 2 ^ 64 && size < 2048 && tag < 65536
  | .panCreate _ _ _ => true
  | .panDelete _ _ _ => true
  | .panOwnerChange _ _ _ => true
  | .nbrEntryWrite _ _ => true
  | .livenessPeriodExpiry _ => true
  | .heldFrameExpiry _ => true
  | .quarantineExpiry _ _ => true
  | .joinCacheExpiry _ => true
  | .joinAccept c _ => descOk 0x10 c
  | .nodeRelease c => descOk 0x11 c
  | .nbrAdd c _ => descOk 0x12 c
  | .nbrRemove c => descOk 0x13 c
  | .addrQuarantine c => descOk 0x14 c
  | .keyLoadDone _ => true
  | .keyLoadTimeout _ => true
  | .keyScrub _ _ => true
  | .keySlotErase _ _ => true
  | .tamperInput _ _ _ => true
  | .tamperLatchClear _ _ => true
  | .keyStore c _ => descOk 0x20 c
  | .keyDelete c => descOk 0x21 c
  | .panKeySet c => descOk 0x22 c
  | .groupRoll c => descOk 0x23 c
  | .groupGraceExpiry _ => true
  | .deriveLoad c => descOk 0x24 c
  | .deriveUnload c => descOk 0x25 c
  | .kekSet c _ => descOk 0x26 c
  | .kekRewrapDone _ => true
  | .keyCtrRaise c => descOk 0x27 c
  | .search c => descOk 0x01 c
  | .insert c _ => descOk 0x02 c
  | .delete c => descOk 0x03 c
  | .update c _ => descOk 0x04 c
  | .next c => descOk 0x05 c
  | .flushByPort c => descOk 0x06 c
  | .iterationExpiry _ _ => true
  | .prefixSearch c => descOk 0x01 c
  | .prefixInsert c => descOk 0x02 c
  | .prefixDelete c => descOk 0x03 c
  | .prefixUpdate c => descOk 0x04 c
  | .prefixNext c => descOk 0x05 c
  | .lpmModeChange _ _ => true
  | .contextWrite _ _ => true
  | .mplSeed _ => true
  | .trickleInstant _ _ => true
  | .trickleIntervalEnd _ => true
  | .seenEntryExpiry _ seed _ => seed < 65536
  | .twinEntryExpiry _ _ _ => true
  | .groupDefine c => descOk 0x30 c
  | .groupAdd c _ => descOk 0x31 c
  | .groupRemove c _ => descOk 0x32 c
  | .groupCompact c => descOk 0x33 c
  | .groupRead c => descOk 0x34 c
  | .groupDelete c => descOk 0x35 c
  | .cvnPost c _ _ => descOk 0x38 c
  | .cvnCancel c => descOk 0x39 c
  | .caravanPhaseEnd _ => true
  | .sweepCopyQueue _ _ => true
  | .caravanExpiry _ => true
  | .concurTimeout _ _ => true
  | .caravanIdRelease _ => true
  | .imgOpen c _ => descOk 0x3C c
  | .imgCancel c => descOk 0x3D c
  | .imageLoadDone _ => true
  | .imageBlockSend _ _ => true
  | .reportWindowExpiry _ => true
  | .refillDone q => q < 36864
  | .queueFlush _ _ => true
  | .queueEntryWrite _ _ => true
  | .egressDequeue _ => true
  | .popWait _ => true
  | .popData _ => true
  | .shaperRateWrite _ _ => true
  | .shaperBurstWrite _ _ => true
  | .policerWrite _ _ => true
  | .shaperEligible _ => true
  | .gclCommit _ _ _ => true
  | .gclSwitch _ => true
  | .gateIntervalEnd _ => true
  | .doorbell _ r _ => r < 35
  | .ringEnable _ r _ => r < 35
  | .ringDisable _ r _ => r < 35
  | .txDescFetch _ _ _ => true
  | .commandFetch _ _ => true
  | .rxWriteback _ _ _ => true
  | .vectorHoldoffExpiry _ _ => true
  | .msixUnmask _ off _ => off.toNat % 4 = 0
  | .configRequest _ a => cfgOk a
  | .bar0ReadTimeout _ => true
  | .partMapWrite _ _ => true
  | .partReset _ _ => true
  | .functionLevelReset _ => true
  | .schedWrite c _ => descOk 0x40 c
  | .schedRead c => descOk 0x41 c
  | .quietExit c => descOk 0x51 c
  | .bistRun c => descOk 0x50 c
  | .bistDone _ _ _ _ => true
  | .lockUnlock _ => true
  | .lockArm _ _ => true
  | .lockTimeout _ => true
  | .bankSelect _ _ => true
  | .portEnable _ _ _ => true
  | .portDisable _ _ _ => true
  | .ethLink _ _ _ _ => true
  | .ethFrameRx _ bs _ => 14 ≤ bs.length
  | .ethIngressDrain _ => true
  | .ethTxDone _ => true
  | .prpConfigWrite _ _ => true
  | .prpEntryForget _ => true
  | .txtsPop _ _ => true
  | .mdioWrite _ _ => true
  | .mdioRead _ _ => true
  | .mdioDone _ => true
  | .timeSet _ => true
  | .timeAdjust _ => true
  | .delayReqSend _ => true
  | .domainTimeout _ => true
  | .timerWrap _ => true
  | .timerCompare _ => true
  | .timerClear _ _ => true
  | .timerCompareWrite _ _ _ => true
  | .timerPeriodWrite _ _ _ => true
  | .timerCountRead _ _ => true
  | .timeRead _ => true
  | .captureEdge _ _ _ => true
  | .toutPulseEnd _ => true
  | .memoryUe u => ueOk u
  | .clockCheck _ _ _ => true
  | .timePlausibilityCheck _ => true
  | .islandSelfCheck _ => true
  | .outputMonitor _ _ _ => true
  | .beaconCheck _ => true
  | .lockstepMismatch _ _ => true
  | .watchdogExpiry _ => true
  | .pairRestartDone _ => true
  | .forceQuiet _ _ => true
  | .yarrowResume _ _ => true
  | .yarrowClusterDone _ _ => true
  | .droverAttempt _ _ => true
  | .ledgerFreeze _ => true
  | .ledgerUnfreeze _ => true
  | .logDataRead _ _ => true
  | .latencyToleranceWrite _ _ => true
  | .powerForce _ _ => true
  | .clusterUngateDone _ => true
  | .wakeNInput _ => true
  | .supplyFault _ => true
  | .soft _ _ => true
  | .recovery _ _ => true
  | .fDieBoot _ => true
  | .bootSelftestDone sigs => sigs.length = 32
  | .rollbackCommit _ _ => true
  | .bootSelect _ _ => true
  | .clrTriesA _ _ => true
  | .clrTriesB _ _ => true
  | .ident _ => true
  | .slots _ => true
  | .flashErase _ _ _ _ => true
  | .flashWrite _ _ _ data => data.length ≤ 1024
  | .flashRead _ _ _ _ => true
  | .slotCrc _ _ _ _ => true
  | .flashOpDone _ => true
  | .ramLoad _ _ data => data.length ≤ 1024
  | .ramRun _ => true
  | .smiviReset _ => true
  | .clusterFaultInService _ => true
  | .reservedTypeMessage _ m => msgOk m
  | .smiviInvalidCommand _ => true
  | .bucketRebuildDone _ _ => true
  | .timeSyncSend => true
  | .passRetrainDone => true
  | .passDown => true
  | .k6ClockLoss => true
  | .weightBankSwap => true
  | .slotBoundary => true
  | .detectionCommit => true
  | .flushPassStart => true
  | .flushDone => true
  | .sweeperVisit => true
  | .filterRebuildDone => true
  | .lpmModeChangeDone => true
  | .cellAudit => true
  | .popWaitExpiry => true
  | .depthSample => true
  | .fwReady => true
  | .supervisionTx => true
  | .domainRevert => true
  | .ppsInEdge => true
  | .ppsOutPulse => true
  | .ppsOutEnd => true
  | .rtcUpdate => true
  | .quietEscalation => true
  | .yarrowClusterStart => true
  | .droverIntervalEnd => true
  | .freezeLimitExpiry => true
  | .powerStateExitDone => true
  | .idleTimerExpiry => true
  | .vaultSaveStart => true
  | .rtcAlarm => true
  | .holdupTrigger => true
  | .saveComplete => true
  | .vholdLow => true
  | .rideThrough => true
  | .vbatLoss => true
  | .porF => true
  | .porH => true
  | .pinF => true
  | .pinH => true
  | .resetPassTimeout => true
  | .triesClearTimer => true
  | .fuseBlowDone => true
  | .smiviResponseRead => true
  | .ppsSourceTimeout => true
  | .ledgerDrainDone => true
  | .powerStateEntryDone => true

end Sys2Proof
end

