-- ==== Sys2Proof/Tests/Slice0.lean ====
section
/-! SUPPORT. The model's own tests: worked examples of the spec and vectors of the algorithms it names, ill-formed commands, and for each statement a
state and operands that meet the hypotheses of its clauses. -/

namespace Sys2Proof.Tests
open Sys2Proof Sys2Proof.Machine

set_option Elab.async false
set_option linter.unusedVariables false

/-! ### Small states -/

def sf (k : Nat) (f : Fld) (n : Nat) (s : State) : State := s.setFld k f n

/-- After reset, with both dies powered, slot A running and the Pass up. -/
def st0 : State := ({ State.reset with
  pwr := { State.reset.pwr with fHeld := false, hHeld := false }
  boot := { State.reset.boot with booting := false, mode := 1, selfTestDone := true }
  host := { State.reset.host with fwReady := true, stopped := false, microcode := true }
  now := 1000000000000 } : State).wr R.PASS_STATUS 1
def panSet (p : Nat) (s : State) : State := s.setFld (R.PAN_CTRL p) F.PAN_CTRL_ENABLE 1
def un (p : Nat) (s : State) : State :=
  let t := s.setFld (R.SYS_LOCK p) F.SYS_LOCK_UNLOCKED 1
  { t with host := { t.host with lockAt := aset 0 p (t.now + 1) t.host.lockAt } }
def cmd0 : CmdDesc := ⟨0, 0x00050000, 0, 0, 0, 0, 0, 0, 0⟩

def mk (typ part len : Nat) (p : List Word) (guard : Bool := false) : PassMsg :=
  let m : PassMsg := ⟨typ, part, guard, len, 0, 0, 0, p⟩
  { m with crc := passCrc typ m }
def cmdW (part : Fin 4) (op : Nat) (w1 : Word := 0) (w2 : Word := 0) (w3 : Word := 0) (w4 : Word := 0) (w5 : Word := 0) (w6 : Word := 0) (w7 : Word := 0) : CmdDesc :=
  ⟨part, BitVec.ofNat 32 (op + 0x50000), w1, w2, w3, w4, w5, w6, w7⟩
def wrs (k : Nat) (w : Word) (s : State) : State := s.wr k w
def mem1 (p : Nat) (l : List (Nat × Word)) (s : State) : State := l.foldl (fun s e => s.memWrite p e.1 (wordsBytes [e.2])) s
def mem0 (l : List (Nat × Word)) (s : State) : State := l.foldl (fun s e => s.memWrite 0 e.1 (wordsBytes [e.2])) s
def ringOn (p r size host chip : Nat) (s : State) : State := ((s.wr (R.RING_CFG r p) (BitVec.ofNat 32 size)).setFld (R.RING_STATE r p) F.RING_STATE_HOST host).setFld (R.RING_STATE r p) F.RING_STATE_CHIP chip
def bset (k : Nat) (f : Fld) (s : State) : State := s.setFld k f 1
def tail12 : List Byte := List.replicate 60 0
def held1 : HeldFrame := ⟨1, 2, [0,0,0,0,0,0,0,0], [1,2,3,4], none⟩
def fet : Fetched := ⟨0, 1, 5, 9, 0, 77, 0⟩
def hostF (f : HostSt → HostSt) (s : State) : State := { s with host := f s.host }
def ethF (f : EthSt → EthSt) (s : State) : State := { s with eth := f s.eth }
def shpF (f : ShpSt → ShpSt) (s : State) : State := { s with shp := f s.shp }
def timF (f : TimeSt → TimeSt) (s : State) : State := { s with time := f s.time }
def qmgF (f : QmgSt → QmgSt) (s : State) : State := { s with qmg := f s.qmg }
def tmr (t : Nat) (x : TimerSt) (s : State) : State := s.setTimer t x
def fr1 : Frame := { id := 5, bytes := [1,2,3], chain := [some 3], check := crc32c [1,2,3] }
def putQ (q : Nat) (x : Machine.Queue) (s : State) : State := (s.setQueue q x).setUsed [3]
def rfF (f : RfSt → RfSt) (s : State) : State := { s with rf := f s.rf }
def rxF (f : RxSt → RxSt) (s : State) : State := { s with rx := f s.rx }
def slotF (f : SlotSt → SlotSt) (s : State) : State := { s with slot := f s.slot }
def keyF (f : KeySt → KeySt) (s : State) : State := { s with key := f s.key }
/-- array 3 (elements 2 and 3, window 0 at 915 MHz), omni beam 47, and profile 5 -/
def siteOff (s : State) : State :=
  let s := (s.setFld (R.ARR_BEAM 47) F.ARR_BEAM_ENABLE 1).setFld (R.ARR_BEAM 47) F.ARR_BEAM_ARRAY 3
  let s := (s.wr (R.ARR_WIN 3 0) 915000).wr R.RFP_BANDPLAN 0x7F
  { s with rx := { s.rx with prof := [(20, 0x00805114), (21, 0x8A89)] } }
def cfg3 : Word := 0x000C02F0
def site (s : State) : State := (siteOff s).wr (R.ARR_CFG 3) (cfg3 + 1)
def lpw0 : Word := 1 + 47 * 2 + 5 * 256
def lpw1 : Word := 7320000
def lpSet (s : State) : State := { s with rx := { s.rx with lp := [(16382, lpw0), (16383, lpw1)] } }
def ln (st : Nat) : Lane := { state := st, point := 8191, beam := 47, mode := 0, byte := 0x89, fam := 0, prof := [0x00805514, 0x8A89, 0, 0], since := 1000000000000, centre := 7320000, sig := 4, err := 2 }
def ln1 (x : Lane) (s : State) : State := s.setLane 1151 x
def phr0 : Phr := ⟨true, 20, 4, 0, false, false, none⟩
def sym1 : RxSym := { x := [(1,0),(2,1)], d := (1,0) }
def frx0 : RxFrame := ⟨1, 7, some 0x1234, .short 0, .short 0x22, true, some 3, 0, 0, 0, true, 0, [0x41,0xA8], [1,2], [], none, false, 0, none⟩
def keyOf (r : KeyRole) (slot key part pos : Nat) : KeySlot :=
  let fp := keyFp false key
  { role := r, slot := slot, long := false, fp := fp, part := part, keyId := 9, pos := pos, derived := 0, used := 1, loaded := true,
    a := ⟨r.attr, key, slotCrc false key r.attr part fp⟩, b := if r.frameKey then ⟨attrDEC, key, slotCrc false key attrDEC part fp⟩ else {} }
def linkF (f : LinkSt → LinkSt) (s : State) : State := { s with link := f s.link }
def meshF (f : MeshSt → MeshSt) (s : State) : State := { s with mesh := f s.mesh }
def tx1 : AirTx := { (⟨0, 0, 0, 0, 0, 0, 0, 0, 0, 0, 0, 0, 0, 0, 0, none, none, [], false, {}, [], false, false, false, false, false⟩ : AirTx) with id := 4, array := 3, beam := 47, stream := 15, tStart := 5000000, tEnd := 6000000, started := false, ended := false, cut := false }
def putT (x : AirTx) (s : State) : State := { s with air := [x] }
def ackPt : AckPt := ⟨15, 9, 47, 7320000, 0, 5, false, false, 1000, 2000, 3000⟩
def ack1 : EnhAck := { (⟨0, none, 0, none, false, 0, 0, none, 0, 0, 0, 0, 0, 0, 0, 0, 0, 0, {}⟩ : EnhAck) with id := 4, level := 0, beam := 47, centre := 7320000, width := 0, family := 0, start := 90000000, air := 100000, power := 100 }
def flood1 : Flood := ⟨7, 7, 1, 2^128+9, 255, [0x60], 1000, 1000000000000, some 1000000000600, 0, 2, 0, false, [3], .own, false⟩
def setEngSt (e st : Nat) (s : State) : State := s.engSet e st
def schedC (part : Fin 4) (first count : Nat) (addr : Nat) : CmdDesc := cmdW part 0x20 0 (BitVec.ofNat 32 first) (BitVec.ofNat 32 count) (BitVec.ofNat 32 addr)
def nbr1 : Nbr := { valid := true, pan := 7, node := 77, state := 1, profile := 5, txMode := 0x89, preamble := 8, livePeriod := 9, missFrom := 1000000000000 }
def nbrPut (x : Nbr) (s : State) : State := s.setNbr 8191 x
def dirF (f : DirSt → DirSt) (s : State) : State := { s with dir := f s.dir }
def lpmF (f : LpmSt → LpmSt) (s : State) : State := { s with lpm := f s.lpm }
def cvnF (f : CvnSt → CvnSt) (s : State) : State := { s with cvn := f s.cvn }
def nodeAt (o pan eui : Nat) (s : State) : State := s.setNode o { valid := true, kind := 1, pan := pan, eui := eui }
def px (b len owner : Nat) : Prefix := { bits := b, len := len, owner := owner, result := 0x40, bucket := 0 }
def grp (pan owner : Nat) (es : List Word) : Machine.Group := { defined := true, pan := pan, owner := owner, peer := none, entries := es }
def grpP (pan owner peer : Nat) (es : List Word) : Machine.Group := { defined := true, pan := pan, owner := owner, peer := some peer, entries := es }
def van : Caravan := { (⟨0, 0, 0, 0, 0, false, 0, 0, [], [], 0, [], [], [], 0, 0, [], [], [], 0, 0, 0⟩ : Caravan) with cid := 65535, group := 9, mode := 1, rounds := 3, ackReq := true, window := 5, phase := 3, round := 1, pending := [4], waitEnd := 1000000000099, sport := 5, hop := 64 }
def img1 : ImgSess := { (⟨cmd0, 0, 0, 0, 0, 0, 0, 0, [], 0, 0, 0, [], [], [], [], [], 0, 0, 0, 0, 0⟩ : ImgSess) with cmd := cmdW 1 0x3C 3, group := 9, rounds := 3, k := 2, r := 1, len := 3000, image := List.replicate 3000 1, state := 1, sport := 5, hop := 64, waitEnd := 1000000000099 }

/-- A staged image whose section 7 gives each region from 1 to 31 the signature 0 (R419). -/
def kekOf (part key : Nat) : KeySlot :=
  let fp := keyFp true key
  { keyOf (.kek part) part key part 0 with long := true, fp := fp, a := ⟨KeyRole.attr (.kek part), key, slotCrc true key (KeyRole.attr (.kek part)) part fp⟩, b := {} }
def blobOf (kek part key : Nat) : List Byte :=
  let hd := [1, 0, part, 0, 0, 0, 0, 9]
  (hd ++ keyWrap (keyOctets true kek) (hd ++ octets 16 key ++ List.replicate 16 0 ++ octets 4 5 ++ List.replicate 4 0)).map (BitVec.ofNat 8)
def kekIn (part : Nat) (s : State) : State := { s with key := { s.key with slots := [kekOf part 7] } }
def ramImg : List (Nat × Byte) :=
  [(69, 1), (136, 7), (146, 4)] ++ (List.range 31).map (fun i => (4096 + 32 * (i + 1) + 1, BitVec.ofNat 8 (i + 1)))

/-! ### Worked examples of the spec, and published vectors of the algorithms it names -/

/-- `10_queues_shaping.md`, R277: 1, 7 and 9 cells. -/
theorem test_frameCells : frameCells 127 = 1 ∧ frameCells 1518 = 7 ∧ frameCells 2047 = 9 := by decide

/-- `11_host_interface.md`, R314: an occupancy of 530. -/
theorem test_occupancy : occupancy 294 65300 = 530 := by decide

/-- `02_rf_ports_arrays.md`, R70: beside code 12 a second stream asked for at code 12 goes out at code 13. -/
theorem test_fitCode : fitCode (codePower 12) (codePower 0) 161 12 = some 13 := by decide +kernel

/-- `01_architecture.md`, R28: 4 GiB leave 3,840 MiB. -/
theorem test_dramUsable : dramUsable 4 = 3840 := by decide

/-- `09_caravans_images.md`, R271: 10,240 blocks in 52 generations, the last of 40 blocks. -/
theorem test_generations : let x := { img1 with len := 10485760, k := 200 }
    x.blocks = 10240 ∧ x.gens = 52 ∧ x.kOf 51 = 40 := by decide +kernel

/-- `05_link_layer.md`, R153: a correction of -37 us is 0x0FDB in the Time Correction IE. -/
theorem test_timeCorrection : (EnhAck.ie { ack1 with correction := -37 }).drop 2 = [0xDB, 0x0F] := by decide +kernel

/-- `16_registers.md`, R444: with bank 1, BAR0 offset 0x5404 is `LPM_MODE`. -/
theorem test_bank : (st0 |> sf (R.SYS_BANK 1) F.SYS_BANK_BANK 1).barAddr 1 0x5404 = some R.LPM_MODE := by decide +kernel

/-- `06_security_keys.md`, R182: the input of the CMAC of a link key. -/
theorem test_linkKdf : let s := st0 |> sf (R.PAN_ID 2) F.PAN_ID_PAN_ID 0x4C21 |> sf (R.KEY_PAN_DRV 2) F.KEY_PAN_DRV_VERSION 1
    s.linkKdf 2 0x02579C0000013A2E false 5 = octNat (cmac (keyOctets false 5)
      [0, 0, 0, 1, 0x5A, 0x58, 0x2D, 0x4C, 0x49, 0x4E, 0x4B, 0, 0x4C, 0x21, 0x02, 0x57, 0x9C, 0, 0, 1, 0x3A, 0x2E, 0, 1, 0, 0, 0, 0x80]) := by
  decide +kernel

/-- FIPS 197, appendix C.3 (AES-256), and its inverse. -/
theorem test_aes256 : aesEnc (octets 32 0x000102030405060708090A0B0C0D0E0F101112131415161718191A1B1C1D1E1F) (octets 16 0x00112233445566778899AABBCCDDEEFF)
      = octets 16 0x8EA2B7CA516745BFEAFC49904B496089 ∧
    aesDec (octets 32 0x000102030405060708090A0B0C0D0E0F101112131415161718191A1B1C1D1E1F) (octets 16 0x8EA2B7CA516745BFEAFC49904B496089)
      = octets 16 0x00112233445566778899AABBCCDDEEFF := by decide +kernel

/-- RFC 4493, example 2. -/
theorem test_cmac : cmac (octets 16 0x2B7E151628AED2A6ABF7158809CF4F3C) (octets 16 0x6BC1BEE22E409F96E93D7E117393172A)
    = octets 16 0x070A16B46B4D4144F79BDD9DD04A287C := by decide +kernel

/-- FIPS 180-4: SHA-256 of "abc". -/
theorem test_sha256 : (sha256 [0x61, 0x62, 0x63]).map (fun b => b.toNat)
    = octets 32 0xBA7816BF8F01CFEA414140DE5DAE2223B00361A396177A9CB410FF61F20015AD := by decide +kernel

/-- The check values of CRC-32 and CRC-32C over "123456789". -/
theorem test_crc : let m : List Byte := [0x31, 0x32, 0x33, 0x34, 0x35, 0x36, 0x37, 0x38, 0x39]
    crc32 m = 0xCBF43926 ∧ crc32c m = 0xE3069283 := by decide +kernel

/-- RFC 5649: a wrapped key of 16 octets is unwrapped again. -/
theorem test_wrap : keyUnwrap (octets 32 7) (keyWrap (octets 32 7) (octets 16 9)) = some (octets 16 9) := by decide +kernel

/-! ### Commands that are not well formed, one for each check, and the table's words -/

theorem test_wf : [
    Instr.registerWrite 0 2 0 15 none, .readClear 0 6 false, .msixUnmask 0 5 none, .linkIdle .f ⟨0, 4, false, 0, 0, 0, 0, []⟩, .event ⟨4, 0, false, 8, 0, 0, 0, [1]⟩,
    .ringEnable 0 35 0, .ringDisable 0 35 0, .doorbell 0 35 0, .refillDone 36864, .configRequest 0 (.read 2), .ethFrameRx 0 [] true,
    .memoryUe (.cell 0 0 0 0), .bootSelftestDone [], .flashWrite 0 0 0 (List.replicate 1025 0), .ramLoad 0 0 (List.replicate 1025 0),
    .calibrationDone [] [], .preambleDetection ⟨8208, 0, 0, 0, 0, 0, []⟩, .sfdFound 0 [{ x := [], d := (0, 0) }],
    .phrDecoded 0 ⟨true, 2048, 4, 0, false, false, none⟩ [], .psduEnd 0 [{ x := [], d := (0, 0) }], .crossroadsArrival 0 { frx0 with ftype := 8 } 0,
    .reassemblyTimeout 0 0 2048 0, .seenEntryExpiry 0 65536 0, .joinAccept cmd0 .ok, .kekSet cmd0 .ok, .search cmd0, .prefixNext cmd0,
    .groupDefine cmd0, .cvnPost cmd0 .ok 0, .imgCancel cmd0, .schedRead cmd0, .quietExit cmd0, .bistRun cmd0].all (fun i => !i.wf) = true := by
  decide +kernel

theorem test_wf_holds : [
    Instr.registerWrite 0 4 0 15 none, .linkIdle .f (mk 0 0 0 []), .doorbell 0 34 0, .quietExit (cmdW 0 0x51), .crossroadsArrival 0 frx0 0,
    .phrDecoded 0 phr0 [{ x := [(1, 0)], d := (1, 0) }]].all Instr.wf = true := by decide +kernel

/-- The table gives its rows no bits: no word spells a command, and placing one changes nothing. -/
theorem test_words (n w : Nat) (s : State) : decodeTableWord n w = none ∧ s.withFetchWord n w = s := ⟨rfl, rfl⟩

/-! ### Invariants at reset -/

theorem test_CanonicalAtReset : State.reset.canon = true := by decide

/-- The hypotheses of the canonical form's invariant: a step from reset. -/
theorem test_CanonicalKept_met : State.reset.canon = true ∧ ∃ t, step State.reset = .next t := ⟨by decide, _, rfl⟩


/-! ### The hypotheses of the statements can be met: one witness for each clause that has hypotheses -/

theorem test_EmptyQueueLetsAMicrosecondPass_met :
    (
      let s : State := st0 |> (fun s => { s with pending := [] })
      decide (s.pending = [])) = true ∧
    (
      let s : State := st0 |> (fun s => { s with pending := [] })
      decide (s.pending = [])) = true ∧
    (
      let s : State := st0 |> (fun s => { s with pending := [] }) |> (fun s => { s with pwr := { s.pwr with fHeld := true } })
      decide (s.pending = []) && decide (s.pwr.fHeld = true)) = true := by and_intros <;> decide +kernel

theorem test_MessagesAreCheckedFirst_1_met :
    (
      let c : Instr := .linkIdle .f ({ mk 0 0 0 [] with seq := 5, crc := passCrc 0 { mk 0 0 0 [] with seq := 5 } })
      let d : Die := .f
      let typ : Nat := 0
      let m : PassMsg := { mk 0 0 0 [] with seq := 5, crc := passCrc 0 { mk 0 0 0 [] with seq := 5 } }
      let s : State := st0 |> sf R.PASS_STATUS F.PASS_STATUS_UP 0
      decide (passMessage c = some (d, typ, m)) && decide (s.passUp = false)) = true ∧
    (
      let c : Instr := .linkIdle .f ({ mk 0 0 0 [] with seq := 5, crc := passCrc 0 { mk 0 0 0 [] with seq := 5 } })
      let d : Die := .f
      let typ : Nat := 0
      let m : PassMsg := { mk 0 0 0 [] with seq := 5, crc := passCrc 0 { mk 0 0 0 [] with seq := 5 } }
      let s : State := st0
      decide (passMessage c = some (d, typ, m)) && decide (s.passUp = true) && decide (m.crc = passCrc typ m) &&
          decide (m.seq ≠ (s.rxDir d).rx)) = true ∧
    (
      let c : Instr := .linkIdle .f ({ mk 0 0 0 [] with crc := 99 })
      let d : Die := .f
      let typ : Nat := 0
      let m : PassMsg := { mk 0 0 0 [] with crc := 99 }
      let s : State := st0
      decide (passMessage c = some (d, typ, m)) && decide (s.passUp = true) &&
          decide (m.crc ≠ passCrc typ m)) = true := by and_intros <;> decide +kernel

theorem test_MessagesAreCheckedFirst_2_met :
    (
      let c : Instr := .linkIdle .h (mk 0 0 4 [1])
      let d : Die := .h
      let typ : Nat := 0
      let m : PassMsg := mk 0 0 4 [1]
      let s : State := st0
      decide (passMessage c = some (d, typ, m)) && decide (s.passUp = true) && decide (m.crc = passCrc typ m) &&
          decide (m.seq = (s.rxDir d).rx) && decide (passMalformed typ m = true)) = true := by decide +kernel

theorem test_MessagesAreCheckedFirst_3_met :
    (
      let m : PassMsg := { mk 0x30 0 0 [] with typ := 0x20 }
      let typ := 0x10 + m.typ % 0xF0
      let s : State := st0
      decide (s.passUp = true) && decide (m.crc = passCrc typ m)) = true ∧
    (
      let m : PassMsg := { mk 0x30 0 0 [] with typ := 0x20 }
      let typ := 0x10 + m.typ % 0xF0
      let s : State := st0
      decide (s.passUp = true) && decide (m.crc = passCrc typ m) && decide (m.seq = (s.rxDir .f).rx)) = true ∧
    (
      let m : PassMsg := { mk 0x30 0 0 [] with typ := 0x20 }
      let typ := 0x10 + m.typ % 0xF0
      let s : State := st0
      decide (s.passUp = true) && decide (m.crc = passCrc typ m) && decide (m.seq = (s.rxDir .h).rx)) = true := by and_intros <;> decide +kernel

theorem test_MessagesAreCheckedFirst_4_met :
    (
      let d : Die := Die.f
      let m : PassMsg := mk 0 0 0 []
      let s : State := st0
      decide (Accepted s d 0x00 m)) = true := by decide +kernel

theorem test_MessagesDoTheirWork_1_met :
    (
      let m : PassMsg := mk 5 0 32 [5,1,2,3,4,5,6,7]
      let s : State := st0
      decide (Accepted s .h 0x05 m)) = true ∧
    (
      let m : PassMsg := mk 6 0 32 [5,1,2,3,0,0,0xF,7]
      let s : State := st0
      decide (Accepted s .h 0x06 m)) = true ∧
    (
      let m : PassMsg := mk 9 0 8 [3,77]
      let s : State := st0 |> (fun s => {s with host := {s.host with readTag := [(0,4)]}})
      decide (Accepted s .h 0x09 m) && decide (aget 0 (m.part % 4) s.host.readTag = (wordAt m.payload 0).toNat + 1)) = true ∧
    (
      let m : PassMsg := mk 10 0 16 [3,77,0,0]
      let s : State := st0 |> (fun s => {s with pass := {s.pass with syncAt := s.now + 100}})
      decide (Accepted s .h 0x0A m)) = true ∧
    (
      let m : PassMsg := mk 13 0 8 [5,0]
      let s : State := st0
      decide (Accepted s .h 0x0D m)) = true ∧
    (
      let m : PassMsg := mk 14 0 8 [5,0]
      let s : State := st0 |> (fun s => {s with host := {s.host with microcode := false, microLen := 8}})
      decide (Accepted s .h 0x0E m)) = true ∧
    (
      let m : PassMsg := mk 1 2 8 [5,0]
      let s : State := st0 |> (fun s => {s with pass := {s.pass with spent := [(2,9)]}})
      decide (Accepted s .h 0x01 m)) = true ∧
    (
      let m : PassMsg := mk 12 0 32 [0,0,5,0,0,0,0,0]
      let s : State := st0
      decide (Accepted s .h 0x0C m) && decide (healthFault m.payload = false)) = true ∧
    (
      let m : PassMsg := mk 15 0 8 [5,0]
      let s : State := st0 |> (fun s => {s with host := {s.host with readTag := [(0,4)]}})
      decide (Accepted s .h 0x0F m)) = true := by and_intros <;> decide +kernel

theorem test_MessagesDoTheirWork_2_met :
    (
      let m : PassMsg := mk 12 0 32 [0,0,5,1,0,0,0,0]
      let s : State := st0
      decide (Accepted s .f 0x0C m) && decide (healthFault m.payload = true)) = true ∧
    (
      let m : PassMsg := mk 13 0 8 [5,0]
      let s : State := st0
      decide (Accepted s .f 0x0D m) && decide ((wordAt m.payload 0).toNat < 16) && decide ((wordAt m.payload 0).toNat ≠ 11)) = true ∧
    (
      let m : PassMsg := mk 4 0 32 [0x20,0,5,1,0,0,0,0]
      let s : State := st0
      decide (Accepted s .f 0x04 m) && decide (opcodeListed ((wordAt m.payload 0).toNat % 256) = true) &&
          decide (opcodeGuarded ((wordAt m.payload 0).toNat % 256) = false) && decide (s.inQuiet = false)) = true ∧
    (
      let m : PassMsg := mk 11 0 16 [0,0,5,1]
      let s : State := st0
      decide (Accepted s .f 0x0B m) && decide ((s.dom ((wordAt m.payload 0).toNat % 2)).delaySeq = (wordAt m.payload 1).toNat)) = true ∧
    (
      let m : PassMsg := mk 7 0 8 [BitVec.ofNat 32 R.NDIR_AGE,3]
      let s : State := st0 |> (fun s => {s with pass := {s.pass with fh := {s.pass.fh with next := 7}}})
      decide (Accepted s .f 0x07 m) && decide ((wordAt m.payload 0).toNat = R.NDIR_AGE) && decide ((s.acked .f m).passClear .f = false)) = true ∧
    (
      let m : PassMsg := mk 7 0 8 [BitVec.ofNat 32 R.NDIR_AGE,3]
      let s : State := st0 |> (fun s => {s with host := {s.host with readTag := [(0,4)]}})
      decide (Accepted s .f 0x07 m) && decide ((wordAt m.payload 0).toNat = R.NDIR_AGE) && decide ((s.acked .f m).passClear .f = true) &&
          decide (aget 0 (m.part % 4) s.host.readTag = (wordAt m.payload 1).toNat + 1)) = true ∧
    (
      let m : PassMsg := mk 8 0 8 [BitVec.ofNat 32 R.NDIR_AGE,0x12345]
      let s : State := st0
      decide (Accepted s .f 0x08 m) && decide (m.part % 4 = 0) && decide ((wordAt m.payload 0).toNat = R.NDIR_AGE)) = true ∧
    (
      let m : PassMsg := mk 8 1 8 [BitVec.ofNat 32 R.LPM_MODE,1]
      let s : State := st0
      decide (Accepted s .f 0x08 m) && decide (m.guard = false) && decide ((wordAt m.payload 0).toNat = R.LPM_MODE)) = true ∧
    (
      let m : PassMsg := mk 8 0 8 [BitVec.ofNat 32 R.BIST_CTRL,1] true
      let s : State := st0
      decide (Accepted s .f 0x08 m) && decide (m.guard = true) && decide (m.part % 4 = 0) &&
          decide ((wordAt m.payload 0).toNat = R.BIST_CTRL)) = true := by and_intros <;> decide +kernel

theorem test_PassTimersAndLink_met :
    (
      let s : State := st0
      decide (s.passUp = true)) = true ∧
    (
      let s : State := st0
      decide (s.passUp = true) && decide (s.safe.hPeerBad = false)) = true ∧
    (
      let s : State := st0 |> (fun s => { s with safe := { s.safe with hPeerBad := true } })
      decide (s.passUp = true) && decide (s.safe.hPeerBad = true)) = true ∧
    (
      let d : Die := Die.f
      let s : State := st0 |>
          (fun s => {s with pass := {s.pass with fh := {s.pass.fh with retry := [mk 6 0 32 [1,2,3,4,5,6,7,8]], resends := 15}, hf := {s.pass.hf with retry := [mk 6 0 32 [1,2,3,4,5,6,7,8]]}}})
      decide (s.passUp = true) && decide ((s.txDir d).retry ≠ [])) = true ∧
    (
      let s : State := st0 |> sf R.PASS_STATUS F.PASS_STATUS_UP 0
      decide (s.passUp = false)) = true ∧
    (
      let s : State := st0 |> sf R.PASS_STATUS F.PASS_STATUS_RETRAIN 1 |> sf R.PASS_STATUS F.PASS_STATUS_DOWN 0 |>
          sf R.PASS_STATUS F.PASS_STATUS_F_RESET 0
      decide (s.flag R.PASS_STATUS F.PASS_STATUS_RETRAIN = true) && decide (s.flag R.PASS_STATUS F.PASS_STATUS_DOWN = false) &&
          decide (s.flag R.PASS_STATUS F.PASS_STATUS_F_RESET = false)) = true ∧
    (
      let s : State := st0 |> (fun s => { s with pass := { s.pass with resetReqAt := some 0 } }) |> sf R.PASS_STATUS F.PASS_STATUS_UP 0 |>
          sf R.PASS_STATUS F.PASS_STATUS_DOWN 0
      match s.pass.resetReqAt with
      | some _ => decide (s.passUp = false) && decide (s.flag R.PASS_STATUS F.PASS_STATUS_DOWN = false)
      | _ => false) = true := by and_intros <;> decide +kernel

theorem test_RingsAndDescriptors_1_met :
    (
      let p : Part := 0
      let r : Nat := 0
      let s : State := st0
      decide (r < 35) && decide (s.ringSize p r = 0)) = true ∧
    (
      let p : Part := 1
      let r : Nat := 33
      let data : Word := 9
      let s : State := st0 |> ringOn 1 33 6 0 3
      decide (r < 35) && decide (s.ringSize p r ≠ 0) && decide (s.doorbellOk p r (data.toNat % 65536) = false)) = true ∧
    (
      let p : Part := 3
      let r : Nat := 34
      let data : Word := 3
      let s : State := st0 |> ringOn 3 34 16 0 3
      decide (r < 35) && decide (s.ringSize p r ≠ 0) && decide (s.doorbellOk p r (data.toNat % 65536) = true) && decide (16 ≤ r) &&
          decide (r ≠ 32) && decide (r ≠ 33)) = true := by and_intros <;> decide +kernel

theorem test_RingsAndDescriptors_2_met :
    (
      let p : Part := 0
      let r : Nat := 3
      let data : Word := 6
      let size := fget F.RING_CFG_SIZE data
      let s : State := st0
      decide (r < 35) && decide (s.mapped p = true) && decide (6 ≤ size) && decide (size ≤ 16) && decide (s.ringSize p r = 0) &&
          decide (r ≠ 33)) = true ∧
    (
      let p : Part := 0
      let r : Nat := 0
      let data : Word := 1
      let size := fget F.RING_CFG_SIZE data
      let s : State := st0
      decide (r < 35) && decide (s.mapped p = true) && decide (size ≠ 0) && decide (size < 6 ∨ 16 < size)) = true ∧
    (
      let p : Part := 1
      let r : Nat := 34
      let data : Word := 0x12010
      let size := fget F.RING_CFG_SIZE data
      let s : State := st0 |> ringOn 1 34 6 0 3
      decide (r < 35) && decide (size ≠ 0) && decide (s.ringSize p r ≠ 0)) = true ∧
    (
      let p : Part := 0
      let r : Nat := 0
      let s : State := st0
      decide (r < 35) && decide (s.mapped p = true)) = true ∧
    (
      let p : Part := 1
      let r : Nat := 4
      let s : State := st0 |> sf R.PART_MAP F.PART_MAP_ACTIVE 0x5F
      decide (r < 35) && decide (s.mapped p = false)) = true := by and_intros <;> decide +kernel

theorem test_RingsAndDescriptors_3_met :
    (
      let p : Part := 1
      let r : Fin 16 := 3
      let s : State := st0 |> ringOn 1 3 6 65535 65534 |> ringOn 1 33 6 0 0 |> sf (R.QMG_HOST_CREDIT_P 1) F.QMG_HOST_CREDIT_P_CELLS 1 |>
          mem1 1 [(32*62, 40 + 32*2^21), (32*62+8, 4096), (4096, 0x60)]
      decide (s.mayFetch p r = true) && (let ws := s.ringWords p r (s.ringChip p r)
      let frame := s.memBytes p (addr64 (wordAt ws 2) (wordAt ws 3)) (bitsAt (wordAt ws 0) 0 13)
      decide (txDescOk p (wordAt ws 0) frame = true) && decide (frameCells (bitsAt (wordAt ws 0) 0 13) ≤ s.creditLeft p))) = true ∧
    (
      let p : Part := 1
      let r : Fin 16 := 3
      let s : State := st0 |> ringOn 1 3 6 65535 65534 |> ringOn 1 33 6 0 0 |> sf (R.QMG_HOST_CREDIT_P 1) F.QMG_HOST_CREDIT_P_CELLS 1 |>
          mem1 1 [(32*62, 39 + 32*2^21), (32*62+8, 4096), (4096, 0x60)]
      decide (s.mayFetch p r = true) && (let ws := s.ringWords p r (s.ringChip p r)
      let frame := s.memBytes p (addr64 (wordAt ws 2) (wordAt ws 3)) (bitsAt (wordAt ws 0) 0 13)
      decide (txDescOk p (wordAt ws 0) frame = false) && decide (s.cplReady p = true))) = true ∧
    (
      let p : Part := 1
      let r : Fin 16 := 3
      let s : State := st0 |> ringOn 1 3 6 65535 65534 |> ringOn 1 33 6 0 0 |> sf (R.QMG_HOST_CREDIT_P 1) F.QMG_HOST_CREDIT_P_CELLS 1 |>
          mem1 1 [(32*62, 39 + 32*2^21), (32*62+8, 4096), (4096, 0x60)]
      decide (s.mayFetch p r = true) && decide (s.cplReady p = true)) = true ∧
    (
      let p : Part := 1
      let r : Fin 16 := 3
      let s : State := st0 |> ringOn 1 3 6 65535 65534 |> ringOn 1 33 6 0 0 |> sf (R.QMG_HOST_CREDIT_P 1) F.QMG_HOST_CREDIT_P_CELLS 1 |>
          mem1 1 [(32*62, 39 + 32*2^21), (32*62+8, 4096), (4096, 0x60)]
      decide (s.mayFetch p r = true)) = true := by and_intros <;> decide +kernel

theorem test_RingsAndDescriptors_4_met :
    (
      let p : Part := 2
      let s : State := st0 |> ringOn 2 32 6 1 0 |> ringOn 2 33 6 0 0 |> mem1 2 [(0, 0x50050)] |> un 2
      decide (s.mayFetch p 32 = true)) = true := by decide +kernel

theorem test_RingsAndDescriptors_5_met :
    (
      let i : Instr := .addrQuarantine (cmdW 0 0x14 (0x20000000 + 3) 5)
      let c : CmdDesc := cmdW 0 0x14 (0x20000000 + 3) 5
      let s : State := st0 |> (fun s => { s with cmds := [cmdW 1 0x10] })
      decide (commandOf i = some c) && decide (s.cmdTurn c = false)) = true ∧
    (
      let c : CmdDesc := cmdW 0 0x14 (0x20000000 + 3) 5
      let x : CplSlot := { cmd := cmdW 1 0x10 }
      let s : State := st0 |> (fun s => { s with ends := { s.ends with order := [x, { cmd := c }] } })
      decide (s.cmdTurn c = true) && decide (s.ends.order = [x, { cmd := c }]) && decide (x.done = none) && decide (x.cmd ≠ c) &&
          decide (cmdFamily x.cmd = cmdFamily c) && decide (cmdLoose c = false)) = true ∧
    (
      let c : CmdDesc := cmdW 0 0x14 (0x20000000 + 3) 5
      let d : CmdDesc := cmdW 1 0x10
      let ws : List Word := [1,2]
      let s : State := st0 |> (fun s => { s with ends := { s.ends with order := [{ cmd := c }, { cmd := d, done := some ws }] } })
      decide (s.cmdTurn c = true) && decide (s.ends.order = [{ cmd := c }, { cmd := d, done := some ws }]) &&
          decide (cmdFamily c = cmdFamily d) && decide (cmdLoose c = false)) = true := by and_intros <;> decide +kernel

theorem test_FramesVectorsAndReads_1_met :
    (
      let p : Part := 1
      let r : Fin 16 := 2
      let f : HeldFrame := held1
      let s : State := st0 |> hostF (fun h => { h with held := [held1] })
      decide (s.host.held.find? (fun f => f.part = p.val && f.ring = r.val) = some f) && decide (s.ringSize p (16 + r) = 0)) = true ∧
    (
      let p : Part := 1
      let r : Fin 16 := 2
      let f : HeldFrame := held1
      let dma  := Dma.ok
      let s : State := st0 |> hostF (fun h => { h with held := [held1] }) |> ringOn 1 18 6 0 0
      decide (s.host.held.find? (fun f => f.part = p.val && f.ring = r.val) = some f) && decide (s.ringSize p (16 + r) ≠ 0) &&
          decide (dma ≠ .descError) && decide (s.rxPlan p (16 + r) (s.ringPosted p (16 + r)) (s.ringChip p (16 + r)) f.bytes.length = none)) = true ∧
    (
      let p : Part := 1
      let r : Fin 16 := 2
      let f : HeldFrame := held1
      let s : State := st0 |> hostF (fun h => { h with held := [held1] }) |> ringOn 1 18 6 2 0 |> mem1 1 [(0,2),(32,4)]
      decide (s.host.held.find? (fun f => f.part = p.val && f.ring = r.val) = some f) && decide (s.ringSize p (16 + r) ≠ 0) &&
          (match s.rxPlan p (16 + r) (s.ringPosted p (16 + r)) (s.ringChip p (16 + r)) f.bytes.length with
      | some _ => decide (f.src = none)
      | _ => false)) = true ∧
    (
      let p : Part := 1
      let r : Fin 16 := 2
      let f : HeldFrame := { held1 with src := some fet }
      let s : State := st0 |> hostF (fun h => { h with held := [{ held1 with src := some fet }], fetched := [fet] }) |>
          ringOn 1 18 6 2 0 |> ringOn 0 33 6 0 3 |> mem1 1 [(0,2),(32,4)]
      decide (s.host.held.find? (fun f => f.part = p.val && f.ring = r.val) = some f) && decide (s.ringSize p (16 + r) ≠ 0) &&
          (match s.rxPlan p (16 + r) (s.ringPosted p (16 + r)) (s.ringChip p (16 + r)) f.bytes.length with
      | some _ => (match f.src with
      | some d => decide (s.host.fetched.any (cplAnswers d.part (txRecord d stOK 0 0 63 false 0 0)) = true) && decide (s.cplReady d.part = true)
      | _ => false)
      | _ => false)) = true ∧
    (
      let p : Part := 1
      let r : Fin 16 := 2
      let f : HeldFrame := held1
      let s : State := st0 |> hostF (fun h => { h with held := [held1] }) |> ringOn 1 18 6 2 0
      decide (s.host.held.find? (fun f => f.part = p.val && f.ring = r.val) = some f) &&
          decide (s.ringSize p (16 + r) ≠ 0)) = true := by and_intros <;> decide +kernel

theorem test_FramesVectorsAndReads_2_met :
    (
      let p : Part := 1
      let v : Fin 32 := 31
      let s : State := st0 |>
          hostF (fun h => { h with holdoff := [(1*32+31, 7)], pba := [(1*32+31, 1)], unmasked := [(1*32+31, 1)], msixOn := [(1,1)] })
      decide (aget 0 (vecKey p v) s.host.holdoff ≠ 0) && decide (aget 0 (vecKey p v) s.host.pba ≠ 0) && decide (s.vecOpen p v = true)) = true ∧
    (
      let p : Part := 1
      let v : Fin 32 := 31
      let data : Word := 0
      let s : State := st0 |>
          hostF (fun h => { h with holdoff := [(1*32+31, 7)], pba := [(1*32+31, 1)], unmasked := [(1*32+31, 1)], msixOn := [(1,1)] })
      decide (s.mapped p = true) && decide (s.pwr.hHeld = false) && decide (aget 0 p.val s.host.msixOn ≠ 0) &&
          decide (aget 0 (vecKey p v) s.host.pba ≠ 0) && decide (aget 0 (vecKey p v) s.host.holdoff ≤ s.now) &&
              decide (bitAt data 0 = false)) = true ∧
    (
      let p : Part := 1
      let data : Word := 1
      let s : State := st0 |>
          hostF (fun h => { h with holdoff := [(1*32+31, 7)], pba := [(1*32+31, 1)], unmasked := [(1*32+31, 1)], msixOn := [(1,1)] })
      decide (s.mapped p = true) && decide (s.pwr.hHeld = false) && decide (bitAt data 0 = true)) = true ∧
    (
      let p : Part := 1
      let s : State := st0 |>
          hostF (fun h => { h with holdoff := [(1*32+31, 7)], pba := [(1*32+31, 1)], unmasked := [(1*32+31, 1)], msixOn := [(1,1)] })
      decide (s.mapped p = true) && decide (s.pwr.hHeld = false)) = true ∧
    (
      let p : Part := 1
      let s : State := st0 |>
          hostF (fun h => { h with holdoff := [(1*32+31, 7)], pba := [(1*32+31, 1)], unmasked := [(1*32+31, 1)], msixOn := [(1,1)] })
      decide (s.mapped p = true) && decide (s.pwr.hHeld = false)) = true := by and_intros <;> decide +kernel

theorem test_FramesVectorsAndReads_3_met :
    (
      let p : Part := 0
      let s : State := st0 |> (fun s => { s with host := { s.host with microcode := false } })
      decide (s.mapped p = true) && decide (s.pwr.hHeld = false) && decide (s.host.microcode = false)) = true ∧
    (
      let p : Part := 0
      let s : State := st0 |> (fun s => { s with host := { s.host with microcode := true } })
      decide (s.mapped p = true) && decide (s.pwr.hHeld = false) && decide (s.host.microcode = true)) = true ∧
    (
      let p : Part := 0
      let s : State := st0 |> (fun s => { s with host := { s.host with microcode := true } })
      decide (s.mapped p = true) && decide (s.pwr.hHeld = false) && decide (s.host.microcode = true)) = true ∧
    (
      let p : Part := 0
      let s : State := st0 |> (fun s => { s with host := { s.host with microcode := true } })
      decide (s.mapped p = true) && decide (s.pwr.hHeld = false) && decide (s.host.microcode = true)) = true ∧
    (
      let p : Part := 0
      let m  := (1 : Fin 8)
      let q  := (5 : Fin 8)
      let s : State := st0 |> (fun s => { s with host := { s.host with microcode := true } })
      decide (s.mapped p = true) && decide (s.pwr.hHeld = false) && decide (s.host.microcode = true) && decide (m.val ≤ 2) &&
          decide (q.val ≤ 5)) = true ∧
    (
      let p : Part := 0
      let s : State := st0 |> sf R.PASS_STATUS F.PASS_STATUS_UP 0 |> hostF (fun h => { h with readTag := [(0,4)], readAt := [(0,1000000000000)] })
      decide (aget 0 p.val s.host.readTag ≠ 0) && decide (s.passUp = false)) = true := by and_intros <;> decide +kernel

theorem test_LocksBanksAndRegisters_1_met :
    (
      let data : Word := 0
      decide (data ≠ 0x0000C35A)) = true ∧
    (
      let p : Part := 0
      let s : State := st0 |> un p
      decide (s.unlocked p = true)) = true := by and_intros <;> decide +kernel

theorem test_LocksBanksAndRegisters_2_met :
    (
      let data : Word := 0
      decide (fget F.SYS_BANK_BANK data ≠ 3)) = true ∧
    (
      let data : Word := 3
      decide (fget F.SYS_BANK_BANK data = 3)) = true := by and_intros <;> decide +kernel

theorem test_PartMapIsGuardedAndApplied_met :
    (
      let q : Part := 0
      let s : State := st0
      decide (s.unlocked q = false)) = true ∧
    (
      let data : Word := 0
      let m := fget F.PART_MAP_MAP data
      let s : State := st0 |> un 0
      decide (s.unlocked 0 = true) && decide (mapInvalid m = false)) = true ∧
    (
      let data : Word := 3
      let m := fget F.PART_MAP_MAP data
      let s : State := st0 |> un 0
      decide (s.unlocked 0 = true) && decide (mapInvalid m = true)) = true ∧
    (
      let q : Part := 3
      let s : State := st0 |> un q
      decide (q ≠ 0) && decide (s.unlocked q = true)) = true ∧
    (
      let s : State := st0
      decide (s.canon = true)) = true := by and_intros <;> decide +kernel

theorem test_ArmedLockRefusesGuardedWrites_met :
    (
      let p : Part := 1
      let off : BitVec 16 := BitVec.ofNat 16 (R.PWR_FORCE % 4096 + 4096*8)
      let a : Nat := R.PWR_FORCE
      let s : State := st0 |> sf (R.SYS_BANK 1) F.SYS_BANK_BANK 2
      decide (s.barAddr p off.toNat = some a) &&
          decide (a ∈ [R.SYS_RESET, R.KEY_SLOT_ERASE, R.KEY_TAMPER_CFG, R.KEY_TAMPER_STAT, R.LPM_MODE, R.SAFE_CTRL, R.SAFE_ESC, R.SAFE_DROVER_CFG, R.PWR_FORCE, R.BOOT_SEL, R.BOOT_RB, R.BIST_CTRL]) && decide (s.mapped p = true) && decide (s.unlocked p = false) && decide (s.fAccess = 0) && decide (s.passClear .h = true)) = true ∧
    (
      let p : Part := 1
      let off : BitVec 16 := BitVec.ofNat 16 (R.PWR_FORCE % 4096 + 4096*8)
      let a : Nat := R.PWR_FORCE
      let s : State := st0 |> sf (R.SYS_BANK 1) F.SYS_BANK_BANK 2 |> (fun s => {s with pass := {s.pass with hf := {s.pass.hf with next := 7}}})
      decide (s.barAddr p off.toNat = some a) &&
          decide (a ∈ [R.SYS_RESET, R.KEY_SLOT_ERASE, R.KEY_TAMPER_CFG, R.KEY_TAMPER_STAT, R.LPM_MODE, R.SAFE_CTRL, R.SAFE_ESC, R.SAFE_DROVER_CFG, R.PWR_FORCE, R.BOOT_SEL, R.BOOT_RB, R.BIST_CTRL]) && decide (s.mapped p = true) && decide (s.unlocked p = false) && decide (s.fAccess = 0) && decide (s.passClear .h = false)) = true ∧
    (
      let p : Part := 1
      let off : BitVec 16 := BitVec.ofNat 16 (R.PWR_FORCE % 4096 + 4096*8)
      let data : Word := 3
      let a : Nat := R.PWR_FORCE
      let m : PassMsg := mk 8 1 8 [BitVec.ofNat 32 R.PWR_FORCE,3]
      let s : State := st0 |> sf (R.SYS_BANK 1) F.SYS_BANK_BANK 2
      decide (s.barAddr p off.toNat = some a) &&
          decide (a ∈ [R.SYS_RESET, R.KEY_SLOT_ERASE, R.KEY_TAMPER_CFG, R.KEY_TAMPER_STAT, R.LPM_MODE, R.SAFE_CTRL, R.SAFE_ESC, R.SAFE_DROVER_CFG, R.PWR_FORCE, R.BOOT_SEL, R.BOOT_RB, R.BIST_CTRL]) && decide (s.mapped p = true) && decide (s.unlocked p = false) && decide (s.fAccess = 0) && decide (Accepted s .f 8 m) && decide (m.guard = false) && decide (m.part % 4 = p.val) && decide (wordAt m.payload 0 = w32 a) && decide (wordAt m.payload 1 = data)) = true := by and_intros <;> decide +kernel

theorem test_LocksBanksAndRegisters_3_met :
    (
      let p : Part := 0
      let s : State := st0
      decide (s.mapped p = true)) = true ∧
    (
      let p : Part := 0
      let s : State := st0
      decide (s.mapped p = true)) = true ∧
    (
      let p : Part := 0
      let s : State := st0
      decide (s.mapped p = true)) = true ∧
    (
      let p : Part := 0
      let s : State := st0 |> sf (R.SYS_BANK p) F.SYS_BANK_BANK 0
      decide (s.mapped p = true) && decide (s.fld (R.SYS_BANK p) F.SYS_BANK_BANK = 0) && decide (s.fAccess = 0) &&
          decide (s.passClear .h = true) && decide (s.passClear .f = true)) = true ∧
    (
      let p : Part := 0
      let s : State := st0 |> sf (R.SYS_BANK p) F.SYS_BANK_BANK 0 |> (fun s => {s with pass := {s.pass with hf := {s.pass.hf with next := 7}}})
      decide (s.mapped p = true) && decide (s.fld (R.SYS_BANK p) F.SYS_BANK_BANK = 0) && decide (s.fAccess ≠ 2) &&
          decide (s.passClear .h = false)) = true ∧
    (
      let p : Part := 0
      let s : State := st0 |> sf (R.SYS_BANK p) F.SYS_BANK_BANK 0 |> sf R.PASS_STATUS F.PASS_STATUS_DOWN 1
      decide (s.mapped p = true) && decide (s.fld (R.SYS_BANK p) F.SYS_BANK_BANK = 0) && decide (s.fAccess = 2)) = true ∧
    (
      let p : Part := 0
      let s : State := st0 |> sf (R.SYS_BANK p) F.SYS_BANK_BANK 0 |> sf R.PASS_STATUS F.PASS_STATUS_DOWN 1
      decide (s.mapped p = true) && decide (s.fld (R.SYS_BANK p) F.SYS_BANK_BANK = 0) && decide (s.fAccess = 2)) = true ∧
    (
      let p : Part := 0
      let be  := 7
      let s : State := st0
      decide (s.mapped p = true) && decide (be ≠ 15)) = true ∧
    (
      let p : Part := 0
      let r : Fin 35 := 3
      let s : State := st0 |> wrs (R.RING_BASE_HI 3 0) 9
      decide (s.mapped p = true) && decide (s.ringSize p r = 0)) = true ∧
    (
      let p : Part := 0
      let s : State := st0 |> wrs (R.RING_BASE_HI 3 0) 9
      decide (s.mapped p = true)) = true := by and_intros <;> decide +kernel

theorem test_EthernetRuns_1_met :
    (
      let p : Part := 3
      decide (p ≠ 0)) = true ∧
    (
      let e : Fin 4 := 0
      let s : State := st0 |> sf (R.ETH_CFG e) F.ETH_CFG_EN 0
      decide (s.flag (R.ETH_CFG e) F.ETH_CFG_EN = false)) = true ∧
    (
      let e : Fin 4 := 0
      let data : Word := 0
      let s : State := st0 |> sf (R.ETH_CFG e) F.ETH_CFG_EN 1
      decide (s.flag (R.ETH_CFG e) F.ETH_CFG_EN = true) &&
          decide (fget F.ETH_CFG_MAX_LEN data ≠ s.fld (R.ETH_CFG e) F.ETH_CFG_MAX_LEN ∨ fget F.ETH_CFG_MODE data ≠ s.fld (R.ETH_CFG e) F.ETH_CFG_MODE)) = true ∧
    (
      let e : Fin 4 := 0
      let s : State := st0 |> sf (R.ETH_CFG e) F.ETH_CFG_EN 1 |> sf (R.ETH_STATUS e) F.ETH_STATUS_LINK 0
      decide (s.flag (R.ETH_CFG e) F.ETH_CFG_EN = true) &&
          decide (s.flag (R.ETH_STATUS e) F.ETH_STATUS_LINK = false)) = true := by and_intros <;> decide +kernel

theorem test_EthernetRuns_2_met :
    (
      let e : Fin 4 := 0
      let s : State := st0 |> sf (R.ETH_CFG e) F.ETH_CFG_EN 1 |> sf (R.ETH_STATUS e) F.ETH_STATUS_LINK 1
      decide (s.flag (R.ETH_CFG e) F.ETH_CFG_EN = true) && decide (s.flag (R.ETH_STATUS e) F.ETH_STATUS_LINK = true)) = true ∧
    (
      let e : Fin 4 := 0
      let bs : List Byte := []
      let s : State := st0 |> sf (R.ETH_CFG e) F.ETH_CFG_EN 1 |> sf (R.ETH_STATUS e) F.ETH_STATUS_LINK 1
      decide (s.flag (R.ETH_CFG e) F.ETH_CFG_EN = true) && decide (s.flag (R.ETH_STATUS e) F.ETH_STATUS_LINK = true) &&
          decide (bs.length < 60 ∨ s.maxLen e < bs.length + 4)) = true ∧
    (
      let e : Fin 4 := 3
      let bs : List Byte := (0x01 :: List.replicate 11 0 ++ [0x88,0x08,0,1] ++ tail12)
      let s : State := st0 |> sf (R.ETH_CFG e) F.ETH_CFG_EN 1 |> sf (R.ETH_STATUS e) F.ETH_STATUS_LINK 1 |> sf (R.ETH_CFG 3) F.ETH_CFG_MAX_LEN 200
      decide (s.flag (R.ETH_CFG e) F.ETH_CFG_EN = true) && decide (s.flag (R.ETH_STATUS e) F.ETH_STATUS_LINK = true) &&
          decide (60 ≤ bs.length) && decide (bs.length + 4 ≤ s.maxLen e) && decide (isPause bs = true)) = true ∧
    (
      let e : Fin 4 := 3
      let bs : List Byte := (0x01 :: List.replicate 11 0 ++ [0x88,0xF7,0,0,0,64,5] ++ tail12)
      let s : State := st0 |> sf (R.ETH_CFG e) F.ETH_CFG_EN 1 |> sf (R.ETH_STATUS e) F.ETH_STATUS_LINK 1 |>
          sf (R.ETH_CFG 3) F.ETH_CFG_MAX_LEN 200 |> sf R.TMR_SRC F.TMR_SRC_SRC 1 |> bset (R.TMR_DOM_CFG 1) F.TMR_DOM_CFG_EN |>
              sf (R.TMR_DOM_CFG 1) F.TMR_DOM_CFG_PORT 3 |> sf (R.TMR_DOM_CFG 1) F.TMR_DOM_CFG_DOMAIN 5 |> sf (R.PTP_LAT 3) F.PTP_LAT_RX_LAT 100
      decide (s.flag (R.ETH_CFG e) F.ETH_CFG_EN = true) && decide (s.flag (R.ETH_STATUS e) F.ETH_STATUS_LINK = true) &&
          decide (60 ≤ bs.length) && decide (bs.length + 4 ≤ s.maxLen e) && decide (isPause bs = false) &&
              decide (s.ethForMe e bs = true) && decide (s.eth.rxFifo = []) && decide (s.prpOn = false) && decide (s.ptpTracked e bs = true)) = true ∧
    (
      let e : Fin 4 := 3
      let s : State := st0 |> sf (R.ETH_CFG e) F.ETH_CFG_EN 1 |> sf (R.ETH_STATUS e) F.ETH_STATUS_LINK 1 |>
          ethF (fun h => { h with rxFifo := [⟨2,tail12,9⟩,⟨3,tail12,9⟩] })
      decide (s.flag (R.ETH_CFG e) F.ETH_CFG_EN = true) && decide (s.flag (R.ETH_STATUS e) F.ETH_STATUS_LINK = true) &&
          (match s.eth.rxFifo.find? (fun x => x.port = e.val) with
      | some x => decide (s.passUp = true) && decide (s.pwr.hush = false) && decide (s.pwrState ≠ 3) &&
          decide (s.cellsOk (frameCells x.bytes.length) false = true)
      | _ => false)) = true := by and_intros <;> decide +kernel

theorem test_EthernetRuns_3_met :
    (
      let e : Fin 4 := 3
      let s : State := st0 |> sf (R.ETH_STATUS e) F.ETH_STATUS_LINK 1 |> ethF (fun h => { h with tx := [⟨3,7,tail12,false,9,none,false,0⟩] })
      decide (s.flag (R.ETH_STATUS e) F.ETH_STATUS_LINK = true) && (match s.ethNext e with
      | some f => decide (f.src = none) && decide (f.tsReq = false)
      | _ => false)) = true ∧
    (
      let e : Fin 4 := 3
      let s : State := st0 |> sf (R.ETH_STATUS e) F.ETH_STATUS_LINK 1 |>
          ethF (fun h => { h with tx := [⟨3,7,tail12,true,9,none,false,0⟩] }) |> sf (R.PTP_LAT 3) F.PTP_LAT_TX_LAT 100 |>
              ethF (fun h => { h with txts := [(3,[(65535,1999999999),(2,3)])] })
      decide (s.flag (R.ETH_STATUS e) F.ETH_STATUS_LINK = true) && (match s.ethNext e with
      | some f => decide (f.src = none) && decide (f.tsReq = true) && decide ((aget [] e.val s.eth.txts).length < 64)
      | _ => false)) = true ∧
    (
      let e : Fin 4 := 3
      let s : State := st0 |> sf (R.ETH_STATUS e) F.ETH_STATUS_LINK 1 |>
          ethF (fun h => { h with tx := [⟨3,7,tail12,true,9,none,false,0⟩] }) |> ethF (fun h => { h with txts := [(3,List.replicate 64 (2,3))] })
      decide (s.flag (R.ETH_STATUS e) F.ETH_STATUS_LINK = true) && (match s.ethNext e with
      | some f => decide (f.src = none) && decide (f.tsReq = true) && decide (64 ≤ (aget [] e.val s.eth.txts).length)
      | _ => false)) = true ∧
    (
      let e : Fin 4 := 3
      let s : State := st0 |> sf (R.ETH_STATUS e) F.ETH_STATUS_LINK 1 |>
          ethF (fun h => { h with tx := [⟨3,7,tail12,false,9,some fet,false,0⟩] }) |> ringOn 0 33 6 0 3 |>
              hostF (fun h => { h with fetched := [fet] })
      decide (s.flag (R.ETH_STATUS e) F.ETH_STATUS_LINK = true) && (match s.ethNext e with
      | some f => (match f.src with
      | some d => decide (f.tsReq = false) &&
          decide (s.host.fetched.any (cplAnswers d.part (txRecord d stOK (descTime s.portTime) 0 63 false 0 0)) = true) &&
              decide (s.cplReady d.part = true)
      | _ => false)
      | _ => false)) = true ∧
    (
      let e : Fin 4 := 3
      let s : State := st0 |> ethF (fun h => { h with txts := [(3,[(65535,1999999999),(2,3)])] })
      match aget [] e.val s.eth.txts with
      | (_, _) :: _ => true
      | _ => false) = true ∧
    (
      let e : Fin 4 := 0
      let s : State := st0
      decide (aget [] e.val s.eth.txts = [])) = true ∧
    (
      let s : State := st0 |> sf (R.ETH_STATUS 0) F.ETH_STATUS_LINK 1 |> sf (R.ETH_STATUS 1) F.ETH_STATUS_LINK 1 |> bset R.PRP_CFG F.PRP_CFG_PRP_EN
      decide (s.prpOn = true) && decide (s.flag (R.ETH_STATUS 0) F.ETH_STATUS_LINK = true) &&
          decide (s.flag (R.ETH_STATUS 1) F.ETH_STATUS_LINK = true)) = true ∧
    (
      let s : State := st0
      decide (s.prpOn = false)) = true := by and_intros <;> decide +kernel

theorem test_PrpAndMdio_met :
    (
      let s : State := st0 |> sf (R.ETH_CFG 0) F.ETH_CFG_EN 0 |> sf (R.ETH_CFG 1) F.ETH_CFG_EN 0
      decide (s.flag (R.ETH_CFG 0) F.ETH_CFG_EN = false) && decide (s.flag (R.ETH_CFG 1) F.ETH_CFG_EN = false)) = true ∧
    (
      let data : Word := 0x7FFF
      let s : State := st0 |> sf (R.ETH_CFG 0) F.ETH_CFG_EN 1
      decide (s.flag (R.ETH_CFG 0) F.ETH_CFG_EN = true) && decide (fget F.PRP_CFG_PRP_EN data ≠ s.fld R.PRP_CFG F.PRP_CFG_PRP_EN)) = true ∧
    (
      let src : BitVec 48 := 0xFFFFFFFFFFFF
      let x : PrpEntry := ⟨0xFFFFFFFFFFFF,1,0,77⟩
      let s : State := st0 |> ethF (fun h => { h with prp := [⟨0xFFFFFFFFFFFF,1,0,77⟩] })
      decide (s.eth.prp.find? (fun x => x.src = src) = some x)) = true ∧
    (
      let s : State := st0 |> sf R.ETH_MDIO F.ETH_MDIO_BUSY 0
      decide (s.flag R.ETH_MDIO F.ETH_MDIO_BUSY = false)) = true ∧
    (
      let s : State := st0 |> sf R.ETH_MDIO F.ETH_MDIO_BUSY 1
      decide (s.flag R.ETH_MDIO F.ETH_MDIO_BUSY = true)) = true ∧
    (
      let s : State := st0 |> (fun s => { s with eth := { s.eth with mdio := 2 } })
      decide (s.eth.mdio = 2)) = true ∧
    (
      let s : State := st0 |> (fun s => { s with eth := { s.eth with mdio := 1 } })
      decide (s.eth.mdio = 1)) = true := by and_intros <;> decide +kernel

theorem test_GateLists_met :
    (
      let e : Fin 4 := 0
      let s : State := st0
      decide (s.fld (R.SHP_GCL_BASE_NS e) F.SHP_GCL_BASE_NS_NS < 1000000000)) = true ∧
    (
      let e : Fin 4 := 3
      let s : State := st0 |> sf (R.SHP_GCL_BASE_NS 3) F.SHP_GCL_BASE_NS_NS 1000000000
      decide (1000000000 ≤ s.fld (R.SHP_GCL_BASE_NS e) F.SHP_GCL_BASE_NS_NS)) = true ∧
    (
      let e : Fin 4 := 0
      let k := R.SHP_GCL_CTRL e
      let s : State := st0 |> sf k F.SHP_GCL_CTRL_PENDING 1
      decide (s.flag k F.SHP_GCL_CTRL_PENDING = true)) = true ∧
    (
      let e : Fin 4 := 0
      let k := R.SHP_GCL_CTRL e
      let s : State := st0 |> sf k F.SHP_GCL_CTRL_PENDING 0
      decide (s.flag k F.SHP_GCL_CTRL_PENDING = false)) = true ∧
    (
      let e : Fin 4 := 3
      let s : State := st0 |> shpF (fun h => { h with gcl := [(1024+768+1,0x0100FFF0)], gates := [(3,⟨2,1,0,0⟩)] })
      match s.gateRound e (s.gate e).idx with
      | (_, _) :: _ => true
      | _ => false) = true ∧
    (
      let e : Fin 4 := 0
      let s : State := st0
      decide (s.gateRound e (s.gate e).idx = [])) = true := by and_intros <;> decide +kernel

theorem test_CityTimeRuns_1_met :
    (
      let s : State := st0
      decide (s.running = false) && decide (s.fld R.TMR_SET_NS F.TMR_SET_NS_NS < 1000000000)) = true ∧
    (
      let s : State := st0 |> sf R.SLOT_CTRL F.SLOT_CTRL_RUNNING 1
      decide (s.running = true)) = true ∧
    (
      let s : State := st0 |> wrs R.TMR_ADJ_NS (-100001)
      let adj := (s.rd R.TMR_ADJ_NS).toInt
      decide (s.running = false) && decide (100000 < adj.natAbs)) = true ∧
    (
      let s : State := st0 |> wrs R.TMR_ADJ_NS (-100) |> timF (fun h => {h with slew := 9})
      let adj := (s.rd R.TMR_ADJ_NS).toInt
      decide (s.running = true ∨ adj.natAbs ≤ 100000)) = true ∧
    (
      let p : Part := 3
      decide (p ≠ 0)) = true := by and_intros <;> decide +kernel

theorem test_CityTimeRuns_2_met :
    (
      let d : Fin 2 := 1
      let s : State := st0 |> sf R.TMR_SRC F.TMR_SRC_SRC 1 |> bset (R.TMR_DOM_CFG 1) F.TMR_DOM_CFG_EN |>
          sf (R.TMR_DOM_CFG 1) F.TMR_DOM_CFG_CLASS_MAX 255 |> sf (R.TMR_DOM_CFG 1) F.TMR_DOM_CFG_PORT 3 |>
              bset (R.ETH_STATUS 3) F.ETH_STATUS_LINK |> timF (fun h => { h with dom := [(1, { syncSeen := true, delaySeq := 65535 })] })
      decide (s.domEn d = true) && decide ((s.dom d).syncSeen = true) &&
          decide (s.flag (R.ETH_STATUS (s.fld (R.TMR_DOM_CFG d) F.TMR_DOM_CFG_PORT)) F.ETH_STATUS_LINK = true) &&
              decide (s.passUp = true) && decide ((s.dom d).delayAt = 0)) = true ∧
    (
      let d : Fin 2 := 1
      let s : State := st0 |> sf R.TMR_SRC F.TMR_SRC_SRC 1 |> bset (R.TMR_DOM_CFG 1) F.TMR_DOM_CFG_EN |>
          sf (R.TMR_DOM_CFG 1) F.TMR_DOM_CFG_CLASS_MAX 255 |> sf (R.TMR_DOM_CFG 1) F.TMR_DOM_CFG_PORT 3 |>
              bset (R.ETH_STATUS 3) F.ETH_STATUS_LINK |>
                  timF (fun h => { h with dom := [(1, { masters := [⟨7,[],6,1000000000000,1000,37,0⟩], chosen := some 7, syncSeen := true, delayMeasured := true, syncAt := 1000000000000, syncInt := 500, delayInt := 9, goodSince := some 5 })] })
      decide (s.domEn d = true) && decide ((s.dom d).goodSince.isSome = true) && (match (s.dom d).master with
      | some _ => true
      | _ => false)) = true ∧
    (
      let s : State := st0 |> (fun s => { s with time := { s.time with chosen := true } }) |> sf R.TMR_SRC F.TMR_SRC_SRC 1 |>
          bset (R.TMR_DOM_CFG 1) F.TMR_DOM_CFG_EN |> sf (R.TMR_DOM_CFG 1) F.TMR_DOM_CFG_CLASS_MAX 255 |>
              sf (R.TMR_DOM_CFG 1) F.TMR_DOM_CFG_PORT 3 |> bset (R.ETH_STATUS 3) F.ETH_STATUS_LINK |>
                  timF (fun h => { h with dom := [(1, { masters := [⟨7,[],6,1000000000000,100000000,37,0⟩], chosen := some 7, syncSeen := true, delayMeasured := true, syncAt := 1000000000000, syncInt := 300000000, delayInt := 9, goodSince := some (1000000000000-256000000) })] }) |> sf R.TMR_SRC F.TMR_SRC_PREFER 1 |> sf R.TMR_SRC F.TMR_SRC_REVERT_S 1 |> timF (fun h => {h with chosen := true})
      let pr := s.fld R.TMR_SRC F.TMR_SRC_PREFER
      match (s.dom pr).goodSince with
      | some n => decide (s.src = 1) && decide (s.activeDom ≠ pr) && decide (s.revertS ≠ 0) && decide (s.time.chosen = true) &&
          decide ((s.advanceTo (n + sec s.revertS)).domGood pr = true)
      | _ => false) = true := by and_intros <;> decide +kernel

theorem test_CityTimeRuns_3_met :
    (
      let s : State := st0 |> sf R.TMR_PPS F.TMR_PPS_IN_EN 1 |> sf R.TMR_SRC F.TMR_SRC_SRC 2 |> bset R.TMR_PPS F.TMR_PPS_IN_EN |>
          timF (fun h => {h with city32 := 32*500000012}) |> sf R.TMR_SERVO F.TMR_SERVO_STATE 2
      decide (s.src = 2) && decide (s.flag R.TMR_PPS F.TMR_PPS_IN_EN = true) && decide (400000000 < (s.cityNs - 12) % 1000000000) &&
          decide ((s.cityNs - 12) % 1000000000 < 600000000)) = true ∧
    (
      let s : State := st0 |> sf R.TMR_PPS F.TMR_PPS_IN_EN 1 |> sf R.TMR_SRC F.TMR_SRC_SRC 2 |> bset R.TMR_PPS F.TMR_PPS_IN_EN |>
          timF (fun h => {h with city32 := 32*400000012}) |> sf R.TMR_SERVO F.TMR_SERVO_STATE 2
      decide (s.src = 2) && decide (s.flag R.TMR_PPS F.TMR_PPS_IN_EN = true) && decide (s.servo = 2) &&
          decide ((s.cityNs - 12) % 1000000000 ≤ 400000000)) = true ∧
    (
      let s : State := st0 |> (fun s => { s with time := { s.time with ppsAt := some 0 } }) |> sf R.TMR_SRC F.TMR_SRC_SRC 2 |>
          sf R.TMR_SERVO F.TMR_SERVO_STATE 2
      match s.time.ppsAt with
      | some _ => decide (s.src = 2) && decide (s.servo = 2)
      | _ => false) = true ∧
    (
      let s : State := st0 |> sf R.TMR_PPS F.TMR_PPS_OUT_EN 1 |> (fun s => { s with time := { s.time with valid := true } })
      decide (s.flag R.TMR_PPS F.TMR_PPS_OUT_EN = true) && decide (s.time.valid = true)) = true ∧
    (
      let s : State := st0 |> (fun s => { s with time := { s.time with ppsHigh := some 0 } })
      match s.time.ppsHigh with
      | some _ => true
      | _ => false) = true ∧
    (
      let s : State := st0 |> (fun s => { s with time := { s.time with valid := true } })
      decide (s.time.valid = true)) = true ∧
    (
      let s : State := st0
      decide (s.time.valid = false)) = true := by and_intros <;> decide +kernel

theorem test_NoCompareWithPeriodZero_met :
    (
      let t : Fin 8 := 7
      let s : State := st0 |> bset (R.TMR_CTRL 7) F.TMR_CTRL_CMP_EN
      decide (s.cmpEn t = true) && decide ((s.timer t).p = 0)) = true ∧
    (
      let t : Fin 8 := 7
      let s : State := st0 |> bset (R.TMR_CTRL 7) F.TMR_CTRL_CMP_EN
      decide (s.cmpEn t = true) && decide ((s.timer t).p = 0)) = true ∧
    (
      let t : Fin 8 := 7
      let s : State := st0 |> bset (R.TMR_CTRL 7) F.TMR_CTRL_CMP_EN
      decide (s.cmpEn t = true) && decide ((s.timer t).p = 0)) = true ∧
    (
      let t : Fin 8 := 7
      let data : Word := 0
      let s : State := st0 |> bset (R.TMR_CTRL 7) F.TMR_CTRL_CMP_EN
      decide (s.cmpEn t = true) && decide ((s.timer t).p = 0) && decide (s.preload t = false ∨ (data = 0 ∧ (s.timer t).stageP = 0))) = true ∧
    (
      let t : Fin 8 := 7
      let s : State := st0 |> bset (R.TMR_CTRL 7) F.TMR_CTRL_CMP_EN
      decide (s.cmpEn t = true) && decide ((s.timer t).p = 0)) = true := by and_intros <;> decide +kernel

theorem test_TimersAndCaptures_1_met :
    (
      let p : Part := 0
      let t : Fin 8 := 7
      let s : State := st0 |> tmr 7 { p := 100, c := 50, base := 20, since := 1000000000000-10 }
      let x := s.timer t
      decide (x.p ≠ 0) && decide (s.preload t = false)) = true ∧
    (
      let p : Part := 0
      let t : Fin 8 := 7
      let s : State := st0 |> tmr 7 { p := 100, c := 50, base := 20, since := 1000000000000-10, preC := some 3, preP := some 77 } |>
          bset (R.TMR_CTRL 7) F.TMR_CTRL_PRELOAD
      let x := s.timer t
      decide (x.p ≠ 0) && decide (s.preload t = true) && decide (s.cmpEn t = false)) = true ∧
    (
      let p : Part := 0
      let t : Fin 8 := 7
      let s : State := st0 |> tmr 7 { p := 100, c := 50, base := 20, since := 1000000000000-10 } |> bset (R.TMR_CTRL 7) F.TMR_CTRL_CMP_EN
      let x := s.timer t
      decide (s.cmpEn t = true) && decide (x.since ≤ s.now) && decide (x.count s.now < x.c) && decide (x.c < x.p)) = true ∧
    (
      let p : Part := 0
      let t : Fin 8 := 7
      let s : State := st0 |> tmr 7 { p := 100, c := 50, base := 0, held := 30, since := 1000000000001 } |> bset (R.TMR_CTRL 7) F.TMR_CTRL_CMP_EN
      let x := s.timer t
      decide (s.cmpEn t = true) && decide (s.now < x.since) && decide (x.base = 0) && decide (x.c < x.p)) = true ∧
    (
      let p : Part := 0
      let t : Fin 8 := 7
      let s : State := st0 |> tmr 7 { p := 100, c := 50, base := 20, since := 1000000000000-10 } |> bset (R.TMR_CTRL 7) F.TMR_CTRL_PRELOAD
      decide (s.preload t = true)) = true ∧
    (
      let p : Part := 0
      let t : Fin 8 := 7
      let data : Word := 0
      let v := data.toNat * 2 ^ 32
      let s : State := st0 |> tmr 7 { p := 100, c := 50, base := 20, since := 1000000000000-10, stageC := 30 } |>
          bset (R.TMR_CTRL 7) F.TMR_CTRL_CMP_EN
      let x := s.timer t
      decide (s.preload t = false) && decide (s.cmpEn t = true) && decide (x.p ≠ 0) && decide (v + x.stageC.toNat ≤ x.count s.now)) = true ∧
    (
      let p : Part := 0
      let t : Fin 8 := 7
      let data : Word := 0
      let v := data.toNat * 2 ^ 32
      let s : State := st0 |> tmr 7 { p := 100, c := 50, base := 20, since := 1000000000000-10, stageP := 30 }
      let x := s.timer t
      decide (s.preload t = false) && decide (x.p ≠ 0) && decide (v + x.stageP.toNat ≤ x.count s.now)) = true ∧
    (
      let p : Part := 0
      let t : Fin 8 := 7
      let data : Word := 0
      let v := data.toNat * 2 ^ 32
      let s : State := st0 |> tmr 7 { p := 100, c := 50, base := 0, held := 30, since := 1000000000001, stageP := 31 }
      let x := s.timer t
      decide (s.preload t = false) && decide (x.p ≠ 0) && decide (s.now < x.since) && decide (x.count s.now < v + x.stageP.toNat)) = true ∧
    (
      let p : Part := 0
      let t : Fin 8 := 7
      let data : Word := 0
      let v := data.toNat * 2 ^ 32
      let s : State := st0 |> tmr 7 { p := 100, c := 50, base := 20, since := 1000000000000-10, stageP := 31 }
      let x := s.timer t
      decide (s.preload t = false) && decide (x.p ≠ 0) && decide (x.since ≤ s.now) && decide (x.count s.now < v + x.stageP.toNat)) = true ∧
    (
      let p : Part := 0
      let t : Fin 8 := 7
      let s : State := st0 |> tmr 7 { p := 0, c := 50, base := 20, since := 5, stageP := 31 }
      let x := s.timer t
      decide (s.preload t = false) && decide (x.p = 0) && decide (x.since ≤ s.now)) = true ∧
    (
      let p : Part := 0
      let t : Fin 8 := 7
      let s : State := st0 |> tmr 7 { p := 100, c := 50, base := 20, since := 1000000000000-10, stageP := 31 } |>
          bset (R.TMR_CTRL 7) F.TMR_CTRL_PRELOAD
      let x := s.timer t
      decide (s.preload t = true) && decide (x.p ≠ 0)) = true ∧
    (
      let p : Part := 0
      let t : Fin 8 := 7
      let s : State := st0 |> tmr 7 { p := 0, c := 50, base := 20, since := 5, stageP := 31, preC := some 9 } |>
          bset (R.TMR_CTRL 7) F.TMR_CTRL_PRELOAD
      let x := s.timer t
      decide (s.preload t = true) && decide (x.p = 0) && decide (x.since ≤ s.now) &&
          decide (s.cmpEn t = false)) = true := by and_intros <;> decide +kernel

theorem test_TimersAndCaptures_2_met :
    (
      let i : Fin 4 := 0
      let r := R.TMR_CAP_CFG i
      let s : State := st0 |> sf r F.TMR_CAP_CFG_EN 0
      decide (s.flag r F.TMR_CAP_CFG_EN = false)) = true ∧
    (
      let i : Fin 4 := 3
      let samples : Nat := 3
      let r := R.TMR_CAP_CFG i
      let s : State := st0 |> sf (R.TMR_CAP_CFG 3) F.TMR_CAP_CFG_FILTER 4 |> bset (R.TMR_CAP_CFG 3) F.TMR_CAP_CFG_EN
      let f := s.fld r F.TMR_CAP_CFG_FILTER
      decide (samples < f)) = true ∧
    (
      let i : Fin 4 := 0
      let samples : Nat := 0
      let r := R.TMR_CAP_CFG i
      let s : State := st0 |> sf r F.TMR_CAP_CFG_EN 1 |> sf r F.TMR_CAP_CFG_EDGE 2 |> sf r F.TMR_CAP_CFG_DIV 1 |>
          sf (R.TMR_CAP_STAT i) F.TMR_CAP_STAT_FULL 1
      let f := s.fld r F.TMR_CAP_CFG_FILTER
      decide (s.flag r F.TMR_CAP_CFG_EN = true) && decide (s.fld r F.TMR_CAP_CFG_EDGE = 2) && decide (s.fld r F.TMR_CAP_CFG_DIV = 1) &&
          decide (f ≤ samples) && decide (s.flag (R.TMR_CAP_STAT i) F.TMR_CAP_STAT_FULL = true)) = true ∧
    (
      let i : Fin 4 := 3
      let samples : Nat := 4
      let r := R.TMR_CAP_CFG i
      let s : State := st0 |> sf r F.TMR_CAP_CFG_EN 1 |> sf r F.TMR_CAP_CFG_EDGE 2 |> sf r F.TMR_CAP_CFG_DIV 1 |>
          sf r F.TMR_CAP_CFG_IRQ 0 |> sf (R.TMR_CAP_STAT i) F.TMR_CAP_STAT_FULL 0 |> sf (R.TMR_CAP_CFG 3) F.TMR_CAP_CFG_FILTER 4 |>
              sf (R.TMR_CAP_CFG 3) F.TMR_CAP_CFG_TIMER 7 |> tmr 7 { p := 100, c := 50, base := 20, since := 1000000000000-10 } |>
                  timF (fun h => {h with city32 := 32000000099})
      let f := s.fld r F.TMR_CAP_CFG_FILTER
      let x := s.timer (s.fld r F.TMR_CAP_CFG_TIMER)
      decide (s.flag r F.TMR_CAP_CFG_EN = true) && decide (s.fld r F.TMR_CAP_CFG_EDGE = 2) && decide (s.fld r F.TMR_CAP_CFG_DIV = 1) &&
          decide (f ≤ samples) && decide (s.flag r F.TMR_CAP_CFG_IRQ = false) &&
              decide (s.flag (R.TMR_CAP_STAT i) F.TMR_CAP_STAT_FULL = false) && decide (x.p ≠ 0) && decide (f < x.p) &&
                  decide (f ≤ x.count s.now)) = true ∧
    (
      let i : Fin 4 := 3
      let s : State := st0 |> timF (fun h => {h with pulse := [(3,1000000000099)]})
      decide (aget 0 i.val s.time.pulse ≠ 0)) = true := by and_intros <;> decide +kernel

theorem test_QueuesAreServed_1_met :
    (
      let q : Nat := 32807
      let s : State := st0 |> sf R.QMG_THRESH F.QMG_THRESH_SPILL_LOW 0 |>
          putQ 32807 { frames := [{ fr1 with chain := [none, some 3, none] }, { fr1 with chain := [none,none,none] }] }
      decide (s.pwr.hush = false) && decide ((s.queue q).mismatch = false) && (match (s.queue q).frames with
      | f :: r => decide (refillBad (f :: r) = none) && decide (s.fld R.QMG_THRESH F.QMG_THRESH_SPILL_LOW = 0) &&
          decide (refillNeed (f :: r) ≤ s.freeCells)
      | _ => false)) = true ∧
    (
      let q : Nat := 32807
      let s : State := st0 |> sf R.QMG_THRESH F.QMG_THRESH_SPILL_LOW 0 |>
          putQ 32807 { frames := [{ fr1 with spillBad := some 7, chain := [none, some 3, none] }] }
      decide (s.pwr.hush = false) && decide (q < 32832) && decide ((s.queue q).mismatch = false) && (match (s.queue q).frames with
      | [f] => (match f.spillBad with
      | some _ => decide (f.gram = none) && decide (f.origin = .own) && decide (s.fld R.QMG_THRESH F.QMG_THRESH_SPILL_LOW = 0)
      | _ => false)
      | _ => false)) = true ∧
    (
      let s : State := st0 |> (fun s => { s with pwr := { s.pwr with hush := true } })
      decide (s.pwr.hush = true)) = true ∧
    (
      let s : State := st0 |> putQ 32807 { frames := [] }
      let lost := s.qmg.used.filter (fun c => !s.chains.flatten.contains c)
      decide (lost ≠ [])) = true ∧
    (
      let s : State := st0
      let lost := s.qmg.used.filter (fun c => !s.chains.flatten.contains c)
      decide (lost = [])) = true ∧
    (
      let s : State := st0
      decide (queueValid (s.fld R.QMG_Q_ADDR F.QMG_Q_ADDR_QUEUE) = true)) = true ∧
    (
      let s : State := st0 |> sf R.QMG_Q_ADDR F.QMG_Q_ADDR_QUEUE 32920
      decide (queueValid (s.fld R.QMG_Q_ADDR F.QMG_Q_ADDR_QUEUE) = false)) = true ∧
    (
      let p : Part := 1
      decide (p ≠ 0)) = true := by and_intros <;> decide +kernel

theorem test_QueuesAreServed_2_met :
    (
      let port : Fin 8 := 5
      let q : Nat := 32850
      let f : Frame := fr1
      let s : State := st0 |> putQ 32850 { frames := [fr1] } |> ringOn 1 18 6 1 0 |> mem1 1 [(0,64)] |>
          (fun s => {s with pass := {s.pass with fh := {s.pass.fh with retry := List.replicate 17 { mk 3 0 4064 [] with payload := List.replicate 1020 0 }}}})
      decide (s.pwr.hush = false) && decide (s.passUp = true) &&
          decide (if port.val < 4 then s.ethServed port = true ∧ s.ethPick port = some q else s.hostPick (port.val - 4) = some q) &&
              decide ((s.queue q).mismatch = false) && decide (s.qHead q = some f) && decide (f.checkOk = true) &&
                  decide (s.upRoom f = false)) = true ∧
    (
      let port : Fin 8 := 5
      let q : Nat := 32850
      let f : Frame := fr1
      let s : State := st0 |> putQ 32850 { frames := [fr1], second := some ⟨none, none, 7, 0⟩ } |> ringOn 1 18 6 1 0 |> mem1 1 [(0,64)]
      decide (s.pwr.hush = false) && decide (s.passUp = true) &&
          decide (if port.val < 4 then s.ethServed port = true ∧ s.ethPick port = some q else s.hostPick (port.val - 4) = some q) &&
              decide ((s.queue q).mismatch = true) && decide ((s.queue q).frames = [f]) && decide (f.gram = none) &&
                  decide (f.origin = .own)) = true ∧
    (
      let port : Fin 8 := 5
      let q : Nat := 32850
      let f : Frame := fr1
      let s : State := st0 |> putQ 32850 { frames := [fr1] } |> ringOn 1 18 6 1 0 |> mem1 1 [(0,64)]
      decide (s.pwr.hush = false) && decide (s.passUp = true) &&
          decide (if port.val < 4 then s.ethServed port = true ∧ s.ethPick port = some q else s.hostPick (port.val - 4) = some q) &&
              decide ((s.queue q).mismatch = false) && decide (s.qHead q = some f) && decide (f.checkOk = true) &&
                  decide (s.upRoom f = true)) = true ∧
    (
      let port : Fin 8 := 5
      let q : Nat := 32850
      let f : Frame := { fr1 with check := 0 }
      let s : State := st0 |> putQ 32850 { frames := [{ fr1 with check := 0 }] } |> ringOn 1 18 6 1 0 |> mem1 1 [(0,64)]
      decide (s.pwr.hush = false) && decide (s.passUp = true) &&
          decide (if port.val < 4 then s.ethServed port = true ∧ s.ethPick port = some q else s.hostPick (port.val - 4) = some q) &&
              decide ((s.queue q).mismatch = false) && decide (s.qHead q = some f) && decide (f.checkOk = false)) = true ∧
    (
      let s : State := st0 |> sf R.PASS_STATUS F.PASS_STATUS_UP 0
      decide (s.pwr.hush = true ∨ s.passUp = false)) = true := by and_intros <;> decide +kernel

theorem test_WindowsAndFlushes_1_met :
    (
      let f  := fr1
      let r  := []
      let s : State := st0 |> sf R.QMG_POP_Q F.QMG_POP_Q_WINDOW 7 |> putQ 32919 { frames := [fr1] }
      let k := s.fld R.QMG_POP_Q F.QMG_POP_Q_WINDOW
      decide (s.qmg.popCur = none) && decide (s.pwr.hush = false) && decide ((s.queue (qWindow k)).mismatch = false) &&
          decide ((s.queue (qWindow k)).frames = f :: r) && decide (s.qHead (qWindow k) = some f)) = true ∧
    (
      let s : State := st0 |> sf R.QMG_WAIT_LIMIT F.QMG_WAIT_LIMIT_WAIT_LIMIT 0
      let k := s.fld R.QMG_POP_Q F.QMG_POP_Q_WINDOW
      decide (s.qmg.popCur = none) && decide ((s.queue (qWindow k)).mismatch = false) && decide ((s.queue (qWindow k)).frames = []) &&
          decide (s.waitLimit = 0)) = true ∧
    (
      let s : State := st0
      let k := s.fld R.QMG_POP_Q F.QMG_POP_Q_WINDOW
      decide (s.qmg.popCur = none) && decide ((s.queue (qWindow k)).mismatch = false) && decide ((s.queue (qWindow k)).frames = []) &&
          decide (s.waitLimit ≠ 0)) = true ∧
    (
      let s : State := st0 |> (fun s => { s with pwr := { s.pwr with hush := true } }) |> sf R.QMG_POP_Q F.QMG_POP_Q_WINDOW 7 |>
          sf R.QMG_WAIT_LIMIT F.QMG_WAIT_LIMIT_WAIT_LIMIT 0 |> putQ 32919 { frames := [fr1] }
      decide (s.qmg.popCur = none) && decide (s.pwr.hush = true) && decide (s.waitLimit = 0)) = true ∧
    (
      let s : State := st0 |> qmgF (fun h => {h with popWait := [(1000000000099,none)]})
      match s.qmg.popWait with
      | (_, none) :: _ => true
      | _ => false) = true ∧
    (
      let s : State := st0 |> qmgF (fun h => {h with popWait := [(1000000000099,some 7)]}) |> sf R.PASS_STATUS F.PASS_STATUS_UP 0
      match s.qmg.popWait with
      | (_, some _) :: _ => decide (s.passClear .f = false)
      | _ => false) = true ∧
    (
      let s : State := st0 |> (fun s => { s with qmg := { s.qmg with popCur := some fr1 } })
      match s.qmg.popCur with
      | some _ => true
      | _ => false) = true ∧
    (
      let p : Part := 3
      decide (p ≠ 0)) = true := by and_intros <;> decide +kernel

theorem test_WindowsAndFlushes_2_met :
    (
      let data : Word := 0xFFFFFFFF
      let q := data.toNat % 65536
      decide (queueValid q = false)) = true ∧
    (
      let data : Word := 0
      let q := data.toNat % 65536
      decide (queueValid q = true) && decide (bitAt data 16 = false)) = true ∧
    (
      let p : Part := 2
      let data : Word := 0x10000
      let q := data.toNat % 65536
      let s : State := st0
      decide (queueValid q = true) && decide (bitAt data 16 = true) && decide (s.mayFlush p q = false)) = true ∧
    (
      let p : Part := 0
      let data : Word := 0x10001
      let q := data.toNat % 65536
      let s : State := st0 |> (fun s => { s with pwr := { s.pwr with hush := true } })
      decide (queueValid q = true) && decide (bitAt data 16 = true) && decide (s.mayFlush p q = true) && decide (s.pwr.hush = true)) = true ∧
    (
      let p : Part := 0
      let data : Word := 0x18000+31
      let q := data.toNat % 65536
      let s : State := st0 |> putQ 32799 { frames := [fr1] }
      decide (bitAt data 16 = true) && decide (s.pwr.hush = false) && decide (s.mayFlush p q = true) && decide (q < 32832) &&
          decide ((s.queue q).mismatch = false) && (match (s.queue q).frames with
      | [f] => decide (f.gram = none) && decide (f.origin = .own)
      | _ => false)) = true := by and_intros <;> decide +kernel

theorem test_ShapersPolicersAndSamples_met :
    (
      let p : Part := 3
      decide (p ≠ 0)) = true ∧
    (
      let k : Fin 1024 := 1023
      let s : State := st0 |> shpF (fun h => {h with shapers := [(1023,{ rate := 1, level := -65536*9, burst := 77, at_ := 1000000000000 })]})
      decide (((s.shaper k).settle s.now).level < 0) && decide (0 < (s.shaper k).rate)) = true := by and_intros <;> decide +kernel

theorem test_ArraysAndBeams_1_met :
    (
      let s : State := st0 |> sf R.RFP_BANDPLAN F.RFP_BANDPLAN_LOCKED 0
      decide (s.flag R.RFP_BANDPLAN F.RFP_BANDPLAN_LOCKED = false)) = true ∧
    (
      let s : State := st0 |> sf R.RFP_BANDPLAN F.RFP_BANDPLAN_LOCKED 1
      decide (s.flag R.RFP_BANDPLAN F.RFP_BANDPLAN_LOCKED = true)) = true ∧
    (
      let a : Fin 4 := 0
      let data : Word := 0
      let d := fset F.ARR_CFG_ENABLE data 1 &&& 0xFFFF03FF
      let s : State := st0
      decide (s.arrOn a = false) && decide (s.arrValid a d = false)) = true ∧
    (
      let a : Fin 4 := 3
      let data : Word := cfg3
      let k := R.ARR_CFG a
      let d := fset F.ARR_CFG_ENABLE data 1 &&& 0xFFFF03FF
      let s : State := st0 |> siteOff
      decide (s.arrOn a = false) && decide (s.arrValid a d = true) && decide ((s.wr k d).lwe ≤ 96) && decide (s.lpsOn = [])) = true ∧
    (
      let a : Fin 4 := 3
      let data : Word := 0x100002F2
      let k := R.ARR_CFG a
      let d := fset F.ARR_CFG_ENABLE data 1 &&& 0xFFFF03FF
      let s : State := st0 |> siteOff |> wrs (R.ARR_WIN 3 0) 2440000 |>
          (fun s => (List.range 47).foldl (fun s b => (s.setFld (R.ARR_BEAM b) F.ARR_BEAM_ENABLE 1).setFld (R.ARR_BEAM b) F.ARR_BEAM_ARRAY 3) s)
      decide (s.arrOn a = false) && decide (s.arrValid a d = true) && decide (s.lwe < (s.wr k d).lwe) && decide (96 < (s.wr k d).lwe)) = true ∧
    (
      let a : Fin 4 := 3
      let data : Word := 0x000402F0
      let k := R.ARR_CFG a
      let d := fset F.ARR_CFG_ENABLE data 1 &&& 0xFFFF03FF
      let s : State := st0 |> site
      decide (s.arrOn a = true) && decide (d &&& 0xFFFF03F6 ≠ s.rd k &&& 0xFFFF03F6)) = true ∧
    (
      let a : Fin 4 := 3
      let data : Word := cfg3
      let k := R.ARR_CFG a
      let s : State := st0 |> (fun s => { s with air := [] }) |> site
      decide (s.arrOn a = true) && decide (s.rx.lanes = []) && decide (s.air = []) &&
          decide ((s.wr k (fset F.ARR_CFG_ENABLE data 0 &&& 0xFFFF03FF)).lwe ≤ s.lwe)) = true := by and_intros <;> decide +kernel

theorem test_ArraysAndBeams_2_met :
    (
      let b : Fin 48 := 0
      let data : Word := 0
      let k := R.ARR_BEAM b
      let s : State := st0
      decide (s.arrOn (s.beamArray b) = false) && decide ((s.wr k (fset F.ARR_BEAM_ENABLE data 1 &&& 0xF)).lwe ≤ 96) &&
          decide (s.beamActive b = false ∨ (s.wr k (fset F.ARR_BEAM_ENABLE data 1 &&& 0xF)).beamActive b = true)) = true ∧
    (
      let b : Fin 48 := 46
      let data : Word := 0xC
      let k := R.ARR_BEAM b
      let s : State := st0 |>
          (fun s => (List.range 46).foldl (fun s b => (s.setFld (R.ARR_BEAM b) F.ARR_BEAM_ENABLE 1).setFld (R.ARR_BEAM b) F.ARR_BEAM_ARRAY 2) s) |> wrs (R.ARR_CFG 2) 2 |> wrs (R.ARR_CFG 3) 2 |> (fun s => (s.setFld (R.ARR_BEAM 46) F.ARR_BEAM_ARRAY 3))
      decide (s.arrOn (s.beamArray b) = false) && decide (s.lwe < (s.wr k (fset F.ARR_BEAM_ENABLE data 1 &&& 0xF)).lwe) &&
          decide (96 < (s.wr k (fset F.ARR_BEAM_ENABLE data 1 &&& 0xF)).lwe)) = true ∧
    (
      let b : Fin 48 := 47
      let data : Word := 0x4
      let k := R.ARR_BEAM b
      let s : State := st0 |> site
      decide (s.arrOn (s.beamArray b) = true) && decide (fget F.ARR_BEAM_ARRAY data ≠ s.beamArray b) &&
          (let keep := fset F.ARR_BEAM_ARRAY (fset F.ARR_BEAM_ENABLE data 1 &&& 0xF) (s.beamArray b)
      decide ((s.wr k keep).lwe ≤ 96) && decide (s.beamActive b = false ∨ (s.wr k keep).beamActive b = true))) = true ∧
    (
      let b : Fin 48 := 47
      let s : State := st0 |> site
      decide (s.arrOn (s.beamArray b) = true) && decide (s.fld (R.ARR_CFG (s.beamArray b)) F.ARR_CFG_OMNI = b)) = true ∧
    (
      let b : Fin 48 := 0
      let data : Word := 0
      let k := R.ARR_BEAM b
      let s : State := st0
      decide (s.arrOn (s.beamArray b) = false) && decide (s.beamActive b = false) &&
          decide ((s.wr k (fset F.ARR_BEAM_ENABLE data 0 &&& 0xF)).lwe ≤ s.lwe)) = true := by and_intros <;> decide +kernel

theorem test_ArraysAndBeams_3_met :
    (
      let s : State := st0
      let set := s.fld R.ARR_WADDR F.ARR_WADDR_SET
      decide (s.waddrNone = false) && decide (set = 2 ∨ s.flag R.ARR_WCOMMIT F.ARR_WCOMMIT_PENDING = false)) = true ∧
    (
      let s : State := st0 |> sf R.ARR_WADDR F.ARR_WADDR_SET 3
      let set := s.fld R.ARR_WADDR F.ARR_WADDR_SET
      decide (s.waddrNone = true) && decide (set = 3 ∨ s.flag R.ARR_WCOMMIT F.ARR_WCOMMIT_PENDING = false)) = true ∧
    (
      let s : State := st0 |> sf R.ARR_WCOMMIT F.ARR_WCOMMIT_PENDING 1
      let set := s.fld R.ARR_WADDR F.ARR_WADDR_SET
      decide (set < 2) && decide (s.flag R.ARR_WCOMMIT F.ARR_WCOMMIT_PENDING = true)) = true ∧
    (
      let p : Part := 3
      decide (p ≠ 0)) = true ∧
    (
      let s : State := st0
      decide (s.waddrNone = false)) = true ∧
    (
      let s : State := st0 |> sf R.ARR_WADDR F.ARR_WADDR_BEAM 48
      decide (s.waddrNone = true)) = true ∧
    (
      let data : Word := 0x80000001
      decide (bitAt data 0 = true)) = true ∧
    (
      let s : State := st0 |> sf R.ARR_WCOMMIT F.ARR_WCOMMIT_PENDING 1
      decide (s.running = false) && decide (s.flag R.ARR_WCOMMIT F.ARR_WCOMMIT_PENDING = true)) = true ∧
    (
      let s : State := st0
      decide (s.running = true ∨ s.flag R.ARR_WCOMMIT F.ARR_WCOMMIT_PENDING = false)) = true := by and_intros <;> decide +kernel

theorem test_CalibrationRuns_met :
    (
      let a : Fin 4 := 3
      let s : State := st0 |> site |> sf R.ARR_CAL_CTRL F.ARR_CAL_CTRL_INTERVAL 4095
      decide (s.fld R.ARR_CAL_CTRL F.ARR_CAL_CTRL_INTERVAL ≠ 0) && decide (s.arrOn a = true)) = true ∧
    (
      let a : Fin 4 := 3
      let k := R.ARR_CAL_STATUS a
      let s : State := st0 |> sf k F.ARR_CAL_STATUS_STALE 0 |> site
      decide (s.fld R.ARR_CAL_CTRL F.ARR_CAL_CTRL_MAXAGE ≠ 0) && decide (s.flag k F.ARR_CAL_STATUS_STALE = false)) = true ∧
    (
      let a : Fin 4 := 3
      let s : State := st0 |> site |> rfF (fun h => { h with calPending := [3] })
      let mine (b : Nat) : Bool := s.beamArray b == a.val
      decide (s.rf.calPending.contains a.val = true) && decide (s.rf.calRun = none) && decide (s.droverWin a = false) &&
          decide (s.inQuiet = false) && decide (s.pwr.hush = false) && decide (s.pwrState < 3) && decide (s.arrOn a = true) &&
              decide (s.running = false ∨ s.now = s.slot.boundaryAt) && decide (s.lanesOf mine [2, 3] = []) &&
                  decide (∀ x ∈ s.air, x.array = a.val → x.holds s.cityNs = false)) = true ∧
    (
      let a : Fin 4 := 3
      let s : State := st0 |> site
      decide (s.rf.calPending.contains a.val = false ∨ s.inQuiet = true ∨ s.pwr.hush = true ∨ 3 ≤ s.pwrState ∨ (s.running = true ∧ s.now ≠ s.slot.boundaryAt))) = true ∧
    (
      let a : Fin 4 := 3
      let t0 : Nat := 5
      let rx : List (Int × Int) := [(3,4),(6,0)]
      let tx : List (Int × Int) := [(1,0),(1,2)]
      let m (l : List (Int × Int)) (w i : Nat) : Cx := ((l.getD (w * 16 + i) (0, 0)).1, (l.getD (w * 16 + i) (0, 0)).2)
      let s : State := st0 |> site |> rfF (fun h => { h with calRun := some (3,5) })
      let low (w : Nat) : List Nat := lowSlots (s.slots a) (m rx w) ++ lowSlots (s.slots a) (m tx w)
      decide (s.rf.calRun = some (a.val, t0)) && decide (∀ w ∈ s.windows a, low w = [])) = true ∧
    (
      let a : Fin 4 := 3
      let t0 : Nat := 5
      let rx : List (Int × Int) := [(3,4),(6,0)]
      let tx : List (Int × Int) := [(1,0),(0,0)]
      let w  := 0
      let m (l : List (Int × Int)) (w i : Nat) : Cx := ((l.getD (w * 16 + i) (0, 0)).1, (l.getD (w * 16 + i) (0, 0)).2)
      let s : State := st0 |> site |> rfF (fun h => { h with calRun := some (3,5) })
      let low (w : Nat) : List Nat := lowSlots (s.slots a) (m rx w) ++ lowSlots (s.slots a) (m tx w)
      decide (s.rf.calRun = some (a.val, t0)) && decide (w ∈ s.windows a) && decide (low w ≠ [])) = true ∧
    (
      let s : State := st0 |> site
      decide (s.rf.calRun = none)) = true ∧
    (
      let quarter : BitVec 12 := 100
      let s : State := st0 |> site
      decide (quarter = 100) && decide (s.rf.calTemp = []) && decide (nbit (s.fld R.SAFE_CAUSE F.SAFE_CAUSE_LIVE) 12 = false) &&
          decide (s.inQuiet = false)) = true := by and_intros <;> decide +kernel

theorem test_ListeningPointsAreChecked_met :
    (
      let data : Word := lpw0
      let w0 := (data ||| 1) &&& 0x3FFFF
      let s : State := st0 |> site |> sf R.SRCH_LP_ADDR F.SRCH_LP_ADDR_LP 8191 |> wrs R.SRCH_LP_DATA1 lpw1
      let n := s.fld R.SRCH_LP_ADDR F.SRCH_LP_ADDR_LP
      let w1 := s.rd R.SRCH_LP_DATA1 &&& 0x1FFFFFF
      decide (s.lpOn n = false) && decide (bitsAt w0 14 4 ≤ 8) && decide (s.profileBad (bitsAt w0 8 6) = false) &&
          decide (s.lpSpanOk w0 w1 = true) && decide (s.lpPlanOk w0 w1 = true) &&
              decide (s.bins + lpBins (s.family (bitsAt w0 8 6)) (bitsAt w1 0 25) (bitsAt w0 14 4) ≤ 131072)) = true ∧
    (
      let data : Word := lpw0 + 15*2^14
      let w0 := (data ||| 1) &&& 0x3FFFF
      let s : State := st0 |> site |> sf R.SRCH_LP_ADDR F.SRCH_LP_ADDR_LP 8191 |> wrs R.SRCH_LP_DATA1 1355550 |>
          wrs (R.ARR_WIN 3 0) 169000 |> (fun s => { s with rx := { s.rx with prof := [(20, 0x00805114), (21, 0x8180)] } })
      let n := s.fld R.SRCH_LP_ADDR F.SRCH_LP_ADDR_LP
      let w1 := s.rd R.SRCH_LP_DATA1 &&& 0x1FFFFFF
      decide (s.lpOn n = false) && decide (bitsAt w0 14 4 = 15) && decide (s.narrowOk w0 w1 = true) &&
          decide (s.profileBad (bitsAt w0 8 6) = false) && decide (s.lpSpanOk w0 w1 = true) && decide (s.lpPlanOk w0 w1 = true) &&
              decide (s.bins + (if s.narrowBeams.contains (bitsAt w0 1 6) then 0 else 5) ≤ 131072)) = true ∧
    (
      let data : Word := lpw0 + 10*2^14
      let w0 := (data ||| 1) &&& 0x3FFFF
      let s : State := st0 |> site |> sf R.SRCH_LP_ADDR F.SRCH_LP_ADDR_LP 8191 |> wrs R.SRCH_LP_DATA1 lpw1
      let n := s.fld R.SRCH_LP_ADDR F.SRCH_LP_ADDR_LP
      decide (s.lpOn n = false) && decide (9 ≤ bitsAt w0 14 4) && decide (bitsAt w0 14 4 ≤ 14)) = true ∧
    (
      let data : Word := lpw0 + 256
      let w0 := (data ||| 1) &&& 0x3FFFF
      let s : State := st0 |> site |> sf R.SRCH_LP_ADDR F.SRCH_LP_ADDR_LP 8191 |> wrs R.SRCH_LP_DATA1 lpw1
      let n := s.fld R.SRCH_LP_ADDR F.SRCH_LP_ADDR_LP
      decide (s.lpOn n = false) && decide (s.profileBad (bitsAt w0 8 6) = true)) = true ∧
    (
      let data : Word := lpw0 + 15*2^14
      let w0 := (data ||| 1) &&& 0x3FFFF
      let s : State := st0 |> site |> sf R.SRCH_LP_ADDR F.SRCH_LP_ADDR_LP 8191 |> wrs R.SRCH_LP_DATA1 lpw1
      let n := s.fld R.SRCH_LP_ADDR F.SRCH_LP_ADDR_LP
      let w1 := s.rd R.SRCH_LP_DATA1 &&& 0x1FFFFFF
      decide (s.lpOn n = false) && decide (bitsAt w0 14 4 = 15) && decide (s.narrowOk w0 w1 = false)) = true ∧
    (
      let data : Word := lpw0 + 2
      let w0 := (data ||| 1) &&& 0x3FFFF
      let s : State := st0 |> site |> sf R.SRCH_LP_ADDR F.SRCH_LP_ADDR_LP 8191 |> wrs R.SRCH_LP_DATA1 lpw1
      let n := s.fld R.SRCH_LP_ADDR F.SRCH_LP_ADDR_LP
      decide (s.lpOn n = false) && decide (48 ≤ bitsAt w0 1 6)) = true ∧
    (
      let data : Word := lpw0
      let w0 := (data ||| 1) &&& 0x3FFFF
      let s : State := st0 |> site |> sf R.SRCH_LP_ADDR F.SRCH_LP_ADDR_LP 8191 |> wrs R.SRCH_LP_DATA1 100
      let n := s.fld R.SRCH_LP_ADDR F.SRCH_LP_ADDR_LP
      let w1 := s.rd R.SRCH_LP_DATA1 &&& 0x1FFFFFF
      decide (s.lpOn n = false) && decide (s.lpSpanOk w0 w1 = false) && decide (bitsAt w0 14 4 ≤ 8 ∨ bitsAt w0 14 4 = 15)) = true ∧
    (
      let data : Word := lpw0
      let w0 := (data ||| 1) &&& 0x3FFFF
      let s : State := st0 |> site |> sf R.SRCH_LP_ADDR F.SRCH_LP_ADDR_LP 8191 |> wrs R.SRCH_LP_DATA1 100
      let n := s.fld R.SRCH_LP_ADDR F.SRCH_LP_ADDR_LP
      let w1 := s.rd R.SRCH_LP_DATA1 &&& 0x1FFFFFF
      decide (s.lpOn n = false) && decide (s.lpPlanOk w0 w1 = false) && decide (bitsAt w0 14 4 ≤ 8 ∨ bitsAt w0 14 4 = 15)) = true ∧
    (
      let s : State := st0 |> site |> lpSet |> sf R.SRCH_LP_ADDR F.SRCH_LP_ADDR_LP 8191
      let n := s.fld R.SRCH_LP_ADDR F.SRCH_LP_ADDR_LP
      decide (s.lpOn n = true)) = true ∧
    (
      let s : State := st0 |> site |> sf R.SRCH_LP_ADDR F.SRCH_LP_ADDR_LP 8191 |> wrs R.SRCH_LP_DATA1 lpw1
      decide ((s.lpsOn.any fun l => s.lpProfile l == s.fld R.SRCH_PROF_ADDR F.SRCH_PROF_ADDR_PROFILE) = false)) = true ∧
    (
      let s : State := st0 |> site |> lpSet |> sf R.SRCH_PROF_ADDR F.SRCH_PROF_ADDR_PROFILE 5
      decide ((s.lpsOn.any fun l => s.lpProfile l == s.fld R.SRCH_PROF_ADDR F.SRCH_PROF_ADDR_PROFILE) = true)) = true ∧
    (
      let p : Part := 3
      decide (p.val ≠ 0)) = true ∧
    (
      let p : Part := 3
      decide (p.val ≠ 0)) = true ∧
    (
      let p : Part := 3
      decide (p.val ≠ 0)) = true := by and_intros <;> decide +kernel

theorem test_ReceptionRuns_1_met :
    (
      let d : Detection := ⟨0, 0, 0, 0, 0, 0, []⟩
      let s : State := st0
      decide (s.watched d.point = false)) = true ∧
    (
      let d : Detection := ⟨8191,0,-1,50,7,9,[]⟩
      let s : State := st0 |> site |> lpSet
      decide (s.detStrong d = false)) = true ∧
    (
      let d : Detection := ⟨8191,0,-1,50,7,9,[]⟩
      let s : State := st0 |> site |> lpSet
      decide (s.family (s.pointProfile d.point) ≠ 1) && decide (d.point < 8192) &&
          decide (d.strength < sext 16 (aget 0 (16 * d.point + 9) s.rx.stat).toNat + max 6 (bitsAt (s.profWord (s.pointProfile d.point) 3) 6 6))) = true ∧
    (
      let d : Detection := ⟨8191,0,100,50,7,9,[]⟩
      let s : State := st0 |> site |> lpSet
      decide (s.watched d.point = true) && decide (s.detStrong d = true) && decide (d.mode < 6) &&
          decide (128 ≤ s.modeByte (s.pointProfile d.point) d.mode) && decide (s.rx.lanes = []) && decide (s.rx.firsts = []) &&
              decide (d.point < 8192)) = true ∧
    (
      let x : Det := ⟨0, 0, 0, 0, 0, 0, 0, 0⟩
      let s : State := st0 |> (fun s => { s with rx := { s.rx with dets := [x] } }) |> sf R.PWR_STATE F.PWR_STATE_STATE 0
      decide (s.rx.dets = [x]) && decide (s.rx.lanes = []) && decide (s.pwrState = 0) && decide (s.reserve < s.available) &&
          decide (s.pwr.gated = []) && (match s.idleCluster with
      | some _ => true
      | _ => false)) = true ∧
    (
      let x : Det := ⟨0, 0, 0, 0, 0, 0, 0, 0⟩
      let s : State := st0 |> (fun s => { s with rx := { s.rx with dets := [x] } }) |> sf R.PWR_STATE F.PWR_STATE_STATE 0 |>
          bset R.LANE_STATE F.LANE_STATE_OFFLINE_VALID |> sf R.LANE_STATE F.LANE_STATE_FAILED 0xFFFF
      decide (s.rx.dets = [x]) && decide (s.rx.lanes = []) && decide (s.pwrState = 0) && decide (s.available = 0)) = true ∧
    (
      let s : State := st0
      decide (s.rx.dets = [])) = true := by and_intros <;> decide +kernel

theorem test_ReceptionRuns_2_met :
    (
      let l : Fin 1152 := 1151
      let s : State := st0 |> site |> lpSet |> ln1 (ln 1)
      let x := s.lane l
      decide (x.state = 1)) = true ∧
    (
      let l : Fin 1152 := 0
      let s : State := st0
      let x := s.lane l
      decide (x.state ≠ 1)) = true ∧
    (
      let l : Fin 1152 := 1151
      let s : State := st0 |> site |> lpSet |> ln1 (ln 1)
      let x := s.lane l
      let late := s.advanceTo (x.since + nsTicks (symsNs x.fam x.byte (bitsAt (wordAt x.prof 0) 20 12)))
      decide (x.state = 1) && decide (x.point < 8192) && decide (late.suspended x.point = false)) = true ∧
    (
      let l : Fin 1152 := 1151
      let h : Phr := phr0
      let s : State := st0 |> site |> lpSet |> ln1 (ln 2)
      let x := s.lane l
      decide (x.state = 2) && decide (h.switch = none) && decide (x.phrOk h = true)) = true ∧
    (
      let l : Fin 1152 := 1151
      let h : Phr := {phr0 with fcsLen := 21}
      let s : State := st0 |> site |> lpSet |> ln1 (ln 2)
      let x := s.lane l
      decide (x.state = 2) && decide (h.switch = none) && decide (x.phrOk h = false) && decide (x.point < 8192) &&
          decide (s.suspended x.point = false)) = true ∧
    (
      let l : Fin 1152 := 1151
      let h : Phr := {phr0 with switch := some (0,10)}
      let s : State := st0 |> site |> lpSet |> ln1 (ln 2)
      let x := s.lane l
      decide (x.state = 2) && (match h.switch with
      | some (fam, m) => decide (x.fam = 0) && decide (h.check = true) && decide (h.reserved = false) &&
          decide (bitAt (wordAt x.prof 0) 4 = true) && (match x.switchMode fam m with
      | some _ => true
      | _ => false)
      | _ => false)) = true ∧
    (
      let l : Fin 1152 := 1151
      let h : Phr := {phr0 with switch := some (0,1)}
      let s : State := st0 |> site |> lpSet |> ln1 (ln 2)
      let x := s.lane l
      decide (x.state = 2) && (match h.switch with
      | some (fam, m) => decide (x.fam = 0) && decide (h.check = true) && decide (h.reserved = false) &&
          decide (bitAt (wordAt x.prof 0) 4 = true) && decide (x.switchMode fam m = none) && decide (x.point < 8192) &&
              decide (s.suspended x.point = false)
      | _ => false)) = true ∧
    (
      let l : Fin 1152 := 1151
      let s : State := st0 |> site |> lpSet |> ln1 (ln 3)
      let x := s.lane l
      decide (x.state = 3)) = true ∧
    (
      let l : Fin 1152 := 1151
      let s : State := st0 |> site |> lpSet |> ln1 (ln 4)
      let x := s.lane l
      decide (x.state = 4) && decide (x.point < 8192) && decide (s.suspended x.point = false)) = true ∧
    (
      let l : Fin 1152 := 1151
      let s : State := st0 |> site |> lpSet |> ln1 (ln 4)
      let x := s.lane l
      decide (x.state = 4) && decide (x.point < 8192) && decide (s.suspended x.point = false)) = true ∧
    (
      let p : Fin 8192 := 8191
      let s : State := st0 |> site |> lpSet
      decide (s.watched p = true) && decide (s.rx.lanes = [])) = true := by and_intros <;> decide +kernel

theorem test_CopiesAndKeyLoads_1_met :
    (
      let l : Fin 1152 := 1151
      let s : State := st0 |> site |> lpSet
      let y := s.lane l
      decide (y.state ≠ 5)) = true ∧
    (
      let l : Fin 1152 := 1151
      let f : RxFrame := frx0
      let s : State := st0 |> site |> lpSet |> ln1 { ln 5 with len := 20, q := 30, time := 5000 } |>
          rxF (fun h => { h with xrd := [{ id := 7, key := (matchKey frx0 20), openedAt := 1000000000000, rxTime := 0, best := ⟨31,47,8191,0⟩, prior := none, pan := 0, ord := 0, join := 0 }] })
      let y := s.lane l
      let x := y.ctx l f
      let k := matchKey f x.psdu
      let c : Copy := ⟨x.q, x.beam, x.point, x.time⟩
      decide (y.state = 5) && (match s.rx.xrd.find? (fun e => e.key = k) with
      | some e => decide (c.better e.best = false)
      | _ => false)) = true ∧
    (
      let l : Fin 1152 := 1151
      let f : RxFrame := frx0
      let s : State := st0 |> site |> lpSet |> ln1 { ln 5 with len := 20, q := 30, time := 5000 } |>
          rxF (fun h => { h with xrd := [{ id := 7, key := (matchKey frx0 20), openedAt := 1000000000000, rxTime := 0, best := ⟨3,47,8191,0⟩, prior := none, pan := 0, ord := 0, join := 0 }] })
      let y := s.lane l
      let x := y.ctx l f
      let k := matchKey f x.psdu
      let c : Copy := ⟨x.q, x.beam, x.point, x.time⟩
      decide (y.state = 5) && (match s.rx.xrd.find? (fun e => e.key = k) with
      | some e => decide (c.better e.best = true)
      | _ => false)) = true ∧
    (
      let l : Fin 1152 := 1151
      let f : RxFrame := frx0
      let s : State := st0 |> site |> lpSet |> ln1 { ln 5 with len := 20, q := 30, time := 5000 } |>
          rxF (fun h => { h with recent := [{ id := 7, key := (matchKey frx0 20), openedAt := 1000000000000, rxTime := 5000, best := ⟨3,47,8191,0⟩ }] })
      let y := s.lane l
      let x := y.ctx l f
      let k := matchKey f x.psdu
      let recent := s.rx.recent.filter (fun e => e.key = k)
      decide (y.state = 5) && decide (s.rx.xrd.find? (fun e => e.key = k) = none) &&
          decide (recent.any (fun e => nearTimes x.time e.rxTime) = true)) = true ∧
    (
      let l : Fin 1152 := 1151
      let f : RxFrame := frx0
      let s : State := st0 |> site |> lpSet |> ln1 { ln 5 with len := 20, q := 30, time := 5000 } |>
          rxF (fun h => { h with recent := [{ id := 7, key := (matchKey frx0 20), openedAt := 1000000000000, rxTime := 500000000, best := ⟨3,47,8191,0⟩ }] })
      let y := s.lane l
      let x := y.ctx l f
      let k := matchKey f x.psdu
      let recent := s.rx.recent.filter (fun e => e.key = k)
      decide (y.state = 5) && decide (s.rx.xrd.find? (fun e => e.key = k) = none) && (match recent.getLast? with
      | some _ => decide (recent.any (fun e => nearTimes x.time e.rxTime) = false)
      | _ => false)) = true ∧
    (
      let l : Fin 1152 := 1151
      let f : RxFrame := frx0
      let s : State := st0 |> site |> lpSet |> ln1 { ln 5 with len := 20, q := 30, time := 5000 }
      let y := s.lane l
      let x := y.ctx l f
      let k := matchKey f x.psdu
      let recent := s.rx.recent.filter (fun e => e.key = k)
      decide (y.state = 5) && decide (s.rx.xrd.find? (fun e => e.key = k) = none) && decide (recent = [])) = true ∧
    (
      let f : RxFrame := {frx0 with drover := some (3,1,2)}
      decide (f.drover.isSome = true)) = true ∧
    (
      let f : RxFrame := frx0
      decide (f.drover.isSome = false)) = true ∧
    (
      let l : Fin 1152 := 1151
      let f : RxFrame := frx0
      let faults : Fin 5 := 0
      let s : State := st0 |> (fun s => { s with pwr := { s.pwr with hush := true } }) |> site |> lpSet |>
          ln1 { ln 5 with len := 20, q := 30, time := 5000 }
      let y := s.lane l
      decide (y.state = 5) && decide (s.rx.xrd = []) && decide (s.rx.recent = []) && decide (faults = 0) &&
          decide (s.fld R.SAFE_HEALTH F.SAFE_HEALTH_PIPE_OK ≠ 0) && decide (f.drover = none) && decide (s.pwr.hush = true)) = true ∧
    (
      let n : Nat := 7
      let s : State := st0 |> site |> lpSet |> ln1 { ln 5 with len := 20, q := 30, time := 5000 } |>
          rxF (fun h => { h with xrd := [{ id := 7, key := (matchKey frx0 20), openedAt := 1000000000000, rxTime := 0, best := ⟨3,47,8191,0⟩, prior := none, pan := 0, ord := 0, join := 0 }] })
      match s.rx.xrd.find? (fun e => e.id = n) with
      | some _ => true
      | _ => false) = true ∧
    (
      let n : Nat := 7
      let s : State := st0 |> site |> lpSet |> ln1 { ln 5 with len := 20, q := 30, time := 5000 } |>
          rxF (fun h => { h with recent := [{ id := 7, key := (matchKey frx0 20), openedAt := 1000000000000, rxTime := 500000000, best := ⟨3,47,8191,0⟩ }] })
      match s.rx.recent.find? (fun e => e.id = n) with
      | some _ => true
      | _ => false) = true := by and_intros <;> decide +kernel

theorem test_CopiesAndKeyLoads_2_met :
    (
      let k : Fin 4 := 0
      let s : State := st0
      let u := s.keyUnits
      decide (u.key.units.find? (fun e => e.1 = k.val) = none)) = true ∧
    (
      let k : Fin 4 := 3
      let s : State := st0 |> keyF (fun h => { h with units := [(3,⟨0,.link 5,1000000000000⟩)] })
      let u := s.keyUnits
      match u.key.units.find? (fun e => e.1 = k.val) with
      | some e => (match (u.keyReady e.2.role).keyLoad e.2.role with
      | some (.error _) => true
      | _ => false)
      | _ => false) = true ∧
    (
      let k : Fin 4 := 3
      let l : KeyLoad := ⟨0,.link 5,1000000000000⟩
      let s : State := st0 |> keyF (fun h => { h with units := [(3,⟨0,.link 5,1000000000000⟩)], slots := [keyOf (.derive 2) 6 77 0 0] }) |>
          bset (R.KEY_PAN_DRV 0) F.KEY_PAN_DRV_DRV_EN |> sf (R.KEY_PAN_DRV 0) F.KEY_PAN_DRV_DRV 2
      decide (s.key.loads = []) && decide (s.key.units.find? (fun e => e.1 = k.val) = some (k.val, l)) &&
          (match (s.keyReady l.role).keyLoad l.role with
      | some (.ok t) => decide (t.key.waits = []) && decide (t.key.loads = [])
      | _ => false)) = true ∧
    (
      let j : Fin 516 := 0
      let l : KeyLoad := ⟨0,.link 5,1000000000000⟩
      let s : State := st0 |> keyF (fun h => { h with units := [(3,⟨0,.link 5,1000000000000⟩)] })
      let all := s.key.units.map (fun e => e.2) ++ s.loadOrder
      decide (all[j.val]? = some l)) = true ∧
    (
      let j : Fin 516 := 0
      let s : State := st0
      let all := s.key.units.map (fun e => e.2) ++ s.loadOrder
      decide (all[j.val]? = none)) = true := by and_intros <;> decide +kernel

theorem test_ScheduleIsWritten_met :
    (
      let p : Part := 0
      let data : Word := 0
      let s : State := st0
      let c := s.fld R.SLOT_CELL_ADDR F.SLOT_CELL_ADDR_CELL
      let w1 := s.rd R.SLOT_CELL_DATA1
      decide (s.cellMay p c = true) && decide (cellBad data w1 = false)) = true ∧
    (
      let p : Part := 0
      let data : Word := 1
      let s : State := st0
      let c := s.fld R.SLOT_CELL_ADDR F.SLOT_CELL_ADDR_CELL
      let w1 := s.rd R.SLOT_CELL_DATA1
      decide (s.cellMay p c = true) && decide (cellBad data w1 = true)) = true ∧
    (
      let p : Part := 3
      let s : State := st0
      let c := s.fld R.SLOT_CELL_ADDR F.SLOT_CELL_ADDR_CELL
      decide (s.cellMay p c = false)) = true ∧
    (
      let s : State := st0
      decide (s.hopBusy (s.fld R.SLOT_HOP_ADDR F.SLOT_HOP_ADDR_SEQ) = false)) = true ∧
    (
      let s : State := st0 |> sf (R.SLOT_SF_W0 63) F.SLOT_SF_W0_ENABLE 1
      decide (s.hopBusy (s.fld R.SLOT_HOP_ADDR F.SLOT_HOP_ADDR_SEQ) = true)) = true ∧
    (
      let p : Part := 3
      decide (p.val ≠ 0)) = true ∧
    (
      let p : Part := 3
      let i : Fin 64 := 0
      let data : Word := 0
      let s : State := st0
      decide (s.panMay p (s.sfPan i) = false ∨ s.panMay p (fget F.SLOT_SF_W0_PAN (fset F.SLOT_SF_W0_ENABLE data 1 &&& 0x3FFFF)) = false)) = true ∧
    (
      let p : Part := 3
      let i : Fin 64 := 0
      let data : Word := 0
      let s : State := st0
      decide (s.panMay p (s.sfPan i) = false ∨ s.panMay p (fget F.SLOT_SF_W0_PAN (fset F.SLOT_SF_W0_ENABLE data 1 &&& 0x3FFFF)) = false)) = true ∧
    (
      let i : Fin 64 := 0
      let data : Word := 0
      let s : State := st0 |> wrs (R.SLOT_TPL_W0 0) 0xFFFFFFFF
      decide (s.sfOn i = false) && decide (s.tplValid (fget F.SLOT_SF_W0_TEMPLATE (fset F.SLOT_SF_W0_ENABLE data 1 &&& 0x3FFFF)) = false)) = true ∧
    (
      let i : Fin 64 := 0
      let data : Word := 0
      let s : State := st0
      decide (s.sfOn i = false) && decide (s.hopValid (fget F.SLOT_SF_W0_HOP (fset F.SLOT_SF_W0_ENABLE data 1 &&& 0x3FFFF)) = false)) = true ∧
    (
      let i : Fin 64 := 63
      let data : Word := 2
      let k := R.SLOT_SF_W0 i
      let s : State := st0 |> sf (R.SLOT_SF_W0 63) F.SLOT_SF_W0_ENABLE 1
      decide (s.sfOn i = true) && decide ((fset F.SLOT_SF_W0_ENABLE data 1 &&& 0x3FFFF) ≠ s.rd k)) = true ∧
    (
      let i : Fin 64 := 63
      let data : Word := 14 + 3*128 + 7*512 + 2*4096
      let s : State := st0 |> panSet 7 |> wrs (R.SLOT_SF_W1 63) 5 |> wrs (R.SLOT_SF_W2 63) 1048566 |> wrs (R.SLOT_HOP_CH0 7) 7320000 |>
          wrs (R.SLOT_HOP_CFG 7) 0x10640 |> wrs R.RFP_BANDPLAN 0x7F |> wrs R.SLOT_CFG 10000 |> wrs (R.SLOT_TPL_W0 3) 2120 |>
              wrs (R.SLOT_TPL_W2 3) 0x1900320 |> wrs (R.SLOT_TPL_W3 3) 1000
      decide (s.sfOn i = false) &&
          decide (s.sfBad i (fset F.SLOT_SF_W0_ENABLE data 1 &&& 0x3FFFF) (s.rd (R.SLOT_SF_W1 i)) (s.rd (R.SLOT_SF_W2 i)) = false) &&
              decide (s.tplValid (fget F.SLOT_SF_W0_TEMPLATE (fset F.SLOT_SF_W0_ENABLE data 1 &&& 0x3FFFF)) = true) &&
                  decide (s.hopValid (fget F.SLOT_SF_W0_HOP (fset F.SLOT_SF_W0_ENABLE data 1 &&& 0x3FFFF)) = true)) = true ∧
    (
      let i : Fin 64 := 0
      let data : Word := 0
      let s : State := st0
      decide (s.sfOn i = false) &&
          decide (s.sfBad i (fset F.SLOT_SF_W0_ENABLE data 1 &&& 0x3FFFF) (s.rd (R.SLOT_SF_W1 i)) (s.rd (R.SLOT_SF_W2 i)) = true)) = true := by and_intros <;> decide +kernel

theorem test_ScheduleCommands_met :
    (
      let c : CmdDesc := schedC 1 1048575 1 64
      let dma : Dma := .ok
      let p := c.part.val
      let n := schedCount c
      let first := schedFirst c
      let s : State := st0 |> wrs (R.SLOT_SF_W1 63) 5 |> wrs (R.SLOT_SF_W2 63) 1048571 |> sf (R.SLOT_SF_W0 63) F.SLOT_SF_W0_DEPTH 1 |>
          sf (R.SLOT_SF_W0 63) F.SLOT_SF_W0_PAN 7 |> sf (R.PAN_CTRL 7) F.PAN_CTRL_OWNER 1 |> mem1 1 [(64,3),(68,9)]
      decide (s.leads c = true) && (let word (i w : Nat) : Word := s.memWord p (addr64 c.w4 c.w5 + 8 * i + 4 * w)
      let good (i : Nat) : Bool := s.cellMay p (first + i) && !cellBad (word i 0) (word i 1)
      decide (schedBad c dma = none) && decide (∀ i, i < n → good i = true))) = true ∧
    (
      let c : CmdDesc := schedC 1 1048575 1 64
      let dma : Dma := .ok
      let m : Nat := 0
      let p := c.part.val
      let n := schedCount c
      let first := schedFirst c
      let s : State := st0
      decide (s.leads c = true) && (let word (i w : Nat) : Word := s.memWord p (addr64 c.w4 c.w5 + 8 * i + 4 * w)
      let good (i : Nat) : Bool := s.cellMay p (first + i) && !cellBad (word i 0) (word i 1)
      decide (schedBad c dma = none) && decide (m < n) && decide (∀ i, i < m → good i = true) && decide (good m = false))) = true ∧
    (
      let c : CmdDesc := schedC 1 1048575 2 64
      let dma : Dma := .ok
      let s : State := st0
      decide (s.leads c = true) && (match schedBad c dma with
      | some _ => true
      | _ => false)) = true ∧
    (
      let c : CmdDesc := schedC 1 1048575 2 64
      let s : State := st0
      decide (s.leads c = true) && (match schedBad c .ok with
      | some _ => true
      | _ => false)) = true ∧
    (
      let c : CmdDesc := schedC 1 1048575 1 64
      let n := schedCount c
      let s : State := st0 |> wrs (R.SLOT_SF_W1 63) 5 |> wrs (R.SLOT_SF_W2 63) 1048571 |> sf (R.SLOT_SF_W0 63) F.SLOT_SF_W0_DEPTH 1 |>
          sf (R.SLOT_SF_W0 63) F.SLOT_SF_W0_PAN 7 |> sf (R.PAN_CTRL 7) F.PAN_CTRL_OWNER 1 |> mem1 1 [(64,3),(68,9)]
      decide (s.leads c = true) && decide (schedBad c .ok = none) &&
          decide (addr64 c.w4 c.w5 + 8 * n ≤ 2 ^ 64)) = true := by and_intros <;> decide +kernel

theorem test_SlotEngineRuns_met :
    (
      let s : State := st0
      decide (s.running = false) && decide (s.slotPending = false) && decide (s.time.valid = false)) = true ∧
    (
      let s : State := st0 |> (fun s => { s with time := { s.time with valid := true } }) |> panSet 7 |> wrs (R.SLOT_SF_W1 63) 5 |>
          wrs (R.SLOT_SF_W2 63) 1048566 |> wrs (R.SLOT_HOP_CH0 7) 7320000 |> wrs (R.SLOT_HOP_CFG 7) 0x10640 |> wrs R.RFP_BANDPLAN 0x7F |>
              wrs R.SLOT_CFG 10000 |> wrs (R.SLOT_TPL_W0 3) 2120 |> wrs (R.SLOT_TPL_W2 3) 0x1900320 |> wrs (R.SLOT_TPL_W3 3) 1000 |>
                  sf (R.SLOT_SF_W0 63) F.SLOT_SF_W0_ENABLE 1 |> sf (R.SLOT_SF_W0 63) F.SLOT_SF_W0_TEMPLATE 3 |>
                      timF (fun h => {h with city32 := 32*1000000000})
      decide (s.running = false) && decide (s.slotPending = false) && decide (s.time.valid = true) && decide (s.gridNow.1 ≤ s.cityNs) &&
          decide (s.fld R.SLOT_EPOCH_NS F.SLOT_EPOCH_NS_NS < 1000000000) && decide (s.sfs ≠ []) && decide (5000000 ≤ s.gridNow.2.1) &&
              decide (s.gridNow.2.1 ≤ 80000000) && decide (∀ i ∈ s.sfs, s.tplValid (s.sfTpl i) = true)) = true ∧
    (
      let s : State := st0 |> slotF (fun h => {h with startAsn := some 7})
      decide (s.running = true ∨ s.slotPending = true)) = true ∧
    (
      let s : State := st0 |> sf R.SLOT_CTRL F.SLOT_CTRL_RUNNING 1 |> (fun s => { s with slot := { s.slot with stopping := true } })
      decide (s.running = true) && decide (s.slot.stopping = true)) = true ∧
    (
      let s : State := st0 |> sf R.SLOT_CTRL F.SLOT_CTRL_RUNNING 1 |>
          (fun s => { s with slot := { s.slot with engA := { s.slot.engA with revert := false } } }) |>
              (fun s => { s with slot := { s.slot with engB := { s.slot.engB with revert := false } } })
      decide (s.running = true) && decide (s.slot.stopping = false) && decide (s.pwr.deeper = none) &&
          decide (s.slot.engA.revert = false) && decide (s.slot.engB.revert = false)) = true ∧
    (
      let n : Nat := 0
      let s : State := st0 |> (fun s => { s with slot := { s.slot with startAsn := some n } })
      decide (s.running = false) && decide (s.slot.startAsn = some n) && decide (s.slot.stopping = false) &&
          decide (s.pwr.deeper = none) && decide (s.engState 0 = 6) && decide (s.engState 1 = 6)) = true ∧
    (
      let s : State := st0
      decide (s.running = false) && decide (s.slot.startAsn = none)) = true ∧
    (
      let n : Nat := 7
      let s : State := st0 |> slotF (fun h => {h with startAsn := some 7, grid := some (1000000000,10000000,1000000)}) |>
          timF (fun h => {h with city32 := 32*1069020001})
      let at_ := s.boundary n - s.prepNs
      decide (s.prepNext = some n) && decide (at_ + 20000 < s.cityNs)) = true ∧
    (
      let k : SlotCheck := ⟨0, 0, true⟩
      let n : Nat := 7
      let s : State := st0 |> slotF (fun h => {h with startAsn := some 7, grid := some (1000000000,10000000,1000000)}) |>
          sf R.PWR_STATE F.PWR_STATE_STATE 3
      let at_ := s.boundary n - s.prepNs
      let s1 := (((s.toNs at_).prepSettle).rollsRun).engStart
      let s2 := (s1.slotRead n).engCheck k (n % 2 ^ 40)
      decide (s.prepNext = some n) && decide (s.cityNs ≤ at_ + 20000) && decide (3 ≤ s2.pwrState)) = true ∧
    (
      let k : SlotCheck := ⟨0,0,true⟩
      let n : Nat := 7
      let s : State := st0 |> slotF (fun h => {h with startAsn := some 7, grid := some (1000000000,10000000,1000000)})
      let at_ := s.boundary n - s.prepNs
      let s1 := (((s.toNs at_).prepSettle).rollsRun).engStart
      let s2 := (s1.slotRead n).engCheck k (n % 2 ^ 40)
      decide (s.prepNext = some n) && decide (s.cityNs ≤ at_ + 20000) && decide (s2.pwrState < 3) &&
          decide (s1.inQuiet = true ∨ s2.inQuiet = false)) = true ∧
    (
      let k : SlotCheck := ⟨1,1,false⟩
      let n : Nat := 7
      let s : State := st0 |> slotF (fun h => {h with startAsn := some 7, grid := some (1000000000,10000000,1000000)})
      let at_ := s.boundary n - s.prepNs
      let s1 := (((s.toNs at_).prepSettle).rollsRun).engStart
      let s2 := (s1.slotRead n).engCheck k (n % 2 ^ 40)
      decide (s.prepNext = some n) && decide (s.cityNs ≤ at_ + 20000) && decide (s2.pwrState < 3) && decide (s1.inQuiet = false) &&
          decide (s2.inQuiet = true)) = true ∧
    (
      let k : SlotCheck := ⟨0,0,true⟩
      let n : Nat := 7
      let s : State := st0 |> sf R.PWR_STATE F.PWR_STATE_STATE 0 |>
          slotF (fun h => {h with startAsn := some 7, grid := some (1000000000,10000000,1000000)})
      let at_ := s.boundary n - s.prepNs
      decide (s.prepNext = some n) && decide (s.cityNs ≤ at_ + 20000) && decide (s.sfs = []) && decide (s.slot.acks = []) &&
          decide (s.key.rolls = []) && decide (s.slot.wins = []) && decide (s.pwrState = 0) && decide (k.aFail = 0) &&
              decide (k.bFail = 0) && decide (k.agree = true)) = true := by and_intros <;> decide +kernel

theorem test_TransmissionsGoOnAir_met :
    (
      let id : Nat := 4
      let x : AirTx := tx1
      let s : State := st0 |> site |> putT tx1
      decide (s.tx id = some x) && decide (x.cut = false)) = true ∧
    (
      let id : Nat := 4
      let x : AirTx := tx1
      let s : State := st0 |> site |> putT tx1
      decide (s.tx id = some x) && decide (x.cut = false)) = true ∧
    (
      let id : Nat := 4
      let x : AirTx := { tx1 with cut := true }
      let s : State := st0 |> site |> putT { tx1 with cut := true }
      decide (s.tx id = some x) && decide (x.cut = true)) = true ∧
    (
      let id : Nat := 4
      let x : AirTx := tx1
      let s : State := st0 |> site |> putT tx1
      decide (s.tx id = some x) && decide (x.cut = false) && decide (s.running = false ∨ x.kind = 2)) = true ∧
    (
      let id : Nat := 4
      let x : AirTx := tx1
      let s : State := st0 |> site |> putT tx1 |> bset R.SLOT_CTRL F.SLOT_CTRL_RUNNING
      decide (s.tx id = some x) && decide (x.cut = false) && decide (s.running = true) && decide (x.kind ≠ 2)) = true ∧
    (
      let id : Nat := 4
      let x : AirTx := { tx1 with started := true }
      let s : State := st0 |> site |> putT { tx1 with started := true }
      decide (s.tx id = some x) && decide (x.cut = false) && decide (x.started = true) && decide (s.slot.attempts = [])) = true ∧
    (
      let id : Nat := 4
      let x : AirTx := tx1
      let s : State := st0 |> site |> putT tx1
      decide (s.tx id = some x) && decide (x.cut = false) && decide (x.started = false)) = true ∧
    (
      let id : Nat := 0
      let s : State := st0
      decide (s.tx id = none)) = true ∧
    (
      let a : Fin 4 := 3
      let s : State := st0 |> slotF (fun h => {h with wins := [⟨3,7320000,5000,9000,false⟩]}) |>
          bset R.SLOT_CTRL F.SLOT_CTRL_DOZE_ACTIVE |> sf R.PWR_STATE F.PWR_STATE_STATE 2 |> bset R.SLOT_CTRL F.SLOT_CTRL_RUNNING
      match s.nextWin a with
      | some _ => decide (s.doze = true)
      | _ => false) = true ∧
    (
      let a : Fin 4 := 0
      let s : State := st0
      decide (s.nextWin a = none ∨ s.doze = false)) = true ∧
    (
      let a : Fin 4 := 3
      let s : State := st0 |> slotF (fun h => {h with wins := [⟨3,7320000,5000,9000,true⟩]})
      decide (s.slot.wins.any (fun w => w.array = a.val && w.open_) = true) &&
          decide (s.lanesOf (fun b => s.beamArray b == a.val) [1, 2, 3] = [])) = true := by and_intros <;> decide +kernel

theorem test_AcknowledgementsAreHeardAndSent_met :
    (
      let k : Fin 16 := 15
      let s : State := st0 |> slotF (fun h => {h with acks := [ackPt]})
      match s.ackFirst k (fun p => !p.open_) with
      | some _ => true
      | _ => false) = true ∧
    (
      let k : Fin 16 := 0
      let s : State := st0
      decide (s.ackFirst k (fun p => !p.open_) = none)) = true ∧
    (
      let k : Fin 16 := 15
      let s : State := st0 |> slotF (fun h => {h with acks := [{ackPt with open_ := true}]})
      match s.ackFirst k (fun p => p.open_ && !p.stopped) with
      | some _ => decide (s.rx.lanes = []) && decide (s.rx.dets = []) && decide (s.slot.attempts = [])
      | _ => false) = true ∧
    (
      let k : Fin 16 := 15
      let s : State := st0 |> slotF (fun h => {h with acks := [{ackPt with open_ := true}]}) |>
          rxF (fun h => {h with lanes := [(5, { ln 1 with point := 8207 })]})
      match s.ackFirst k (fun p => p.open_ && !p.stopped) with
      | some p => decide (∃ e ∈ s.rx.lanes, e.2.point = 8192 + p.stream) && decide (∀ q ∈ s.slot.acks, q.stopped = false)
      | _ => false) = true ∧
    (
      let id : Nat := 4
      let s : State := st0 |> linkF (fun h => {h with acks := [ack1]}) |> bset R.SAFE_STATE F.SAFE_STATE_QUIET
      match s.link.acks.find? (fun a => a.id = id) with
      | some a => decide (a.level = 0 ∨ s.ackKey a = none) && decide (s.inQuiet = true ∨ s.pwr.hush = true ∨ a.level ≠ 0)
      | _ => false) = true ∧
    (
      let id : Nat := 4
      let a  := ack1
      let b  := 47
      let st  := 0
      let code  := 160
      let s : State := st0 |> site |> linkF (fun h => {h with acks := [ack1]}) |>
          rfF (fun h => {h with weights := [(weightKey 1 0 47 0 0, 0x4000)]}) |> sf (R.ARR_TX_CAP 3) F.ARR_TX_CAP_CAP 160
      decide (s.link.acks.find? (fun a => a.id = id) = some a) && decide (s.inQuiet = false) && decide (s.pwr.hush = false) &&
          decide (a.level = 0) && decide (s.key.slots = []) && decide (s.air = []) && (let s1 := s.toNs (a.start - 50000)
      let s2 := { s1 with link := { s1.link with acks := s1.link.acks.filter (fun b => b.id ≠ id) } }
      decide (s2.beamsFor a.family ⟨a.centre, (widthHz a.width).getD 0⟩ (some a.beam) = [b]) &&
          decide (s2.ackYields a (s2.beamArray b) = false) &&
              decide (s2.grant (s2.beamArray b) a.start (a.start + a.air) a.power = .ok st code))) = true := by and_intros <;> decide +kernel

theorem test_EnginesReturn_met :
    (
      let e : Fin 2 := 1
      let s : State := st0 |> setEngSt 1 2
      decide (s.engState e = 2)) = true ∧
    (
      let e : Fin 2 := 1
      let sig : BitVec 128 := 0
      let s : State := st0 |> setEngSt 1 3 |> (fun s => {s with boot := {s.boot with mode := 3, staging := ramImg}})
      let good := s.bistGood (16 + e.val) 3 sig
      decide (s.engState e = 3) && decide ((s.eng e).ready = false) && decide (s.bistRegion ≠ some (16 + e.val)) && decide (good = true)) = true ∧
    (
      let e : Fin 2 := 1
      let sig : BitVec 128 := 0x1234
      let s : State := st0 |> setEngSt 1 3 |> sf R.SLOT_HEALTH F.SLOT_HEALTH_B_TRIES 3 |>
          (fun s => {s with boot := {s.boot with mode := 3, staging := ramImg}})
      let good := s.bistGood (16 + e.val) 3 sig
      decide (s.engState e = 3) && decide ((s.eng e).ready = false) && decide (s.bistRegion ≠ some (16 + e.val)) &&
          decide (good = false) && decide (s.engTries e = 3)) = true ∧
    (
      let e : Fin 2 := 1
      let sig : BitVec 128 := 0x1234
      let s : State := st0 |> setEngSt 1 3 |> (fun s => {s with boot := {s.boot with mode := 3, staging := ramImg}})
      let good := s.bistGood (16 + e.val) 3 sig
      decide (s.engState e = 3) && decide ((s.eng e).ready = false) && decide (s.bistRegion ≠ some (16 + e.val)) &&
          decide (good = false) && decide (s.engTries e < 3)) = true ∧
    (
      let e : Fin 2 := 1
      let s : State := st0 |> setEngSt 1 4
      decide (s.engState e = 4) && decide ((s.eng e).revert = false) &&
          decide (s.prefer ≠ e ∨ s.flag R.SLOT_CFG F.SLOT_CFG_REVERT_EN = false)) = true ∧
    (
      let e : Fin 2 := 1
      let s : State := st0 |> setEngSt 1 4 |> bset R.SLOT_CFG F.SLOT_CFG_PREFER |> bset R.SLOT_CFG F.SLOT_CFG_REVERT_EN
      decide (s.engState e = 4) && decide ((s.eng e).revert = false) && decide (s.prefer = e) &&
          decide (s.flag R.SLOT_CFG F.SLOT_CFG_REVERT_EN = true)) = true := by and_intros <;> decide +kernel

theorem test_HostAndUplinkFrames_1_met :
    (
      let m : PassMsg := mk 2 3 36 [BitVec.ofNat 32 (4+65536),0,BitVec.ofNat 32 (5+15*65536+55*2^20),0,9,0,0,0,0x04030201]
      let p : Part := 3
      let w0 := wordAt m.payload 0
      let w2 := wordAt m.payload 2
      let bs := passFrame m
      let n := frameCells bs.length
      let s : State := st0 |> sf R.QMG_RESERVE F.QMG_RESERVE_INGRESS_FLOOR 65535 |> wrs R.SAFE_HEALTH 15 |> sf R.QMG_FREE F.QMG_FREE_CELLS 100
      let fine := s.fld R.SAFE_HEALTH F.SAFE_HEALTH_PIPE_OK ≠ 0 ∧ s.pwr.hush = false
      decide (Accepted s .f 0x02 m) && decide (fine) && decide (bitsAt w2 20 6 = 52 + p.val) &&
          decide (s.cellsOk n (bitsAt w0 16 2 == 0) = false)) = true ∧
    (
      let m : PassMsg := mk 2 3 36 [BitVec.ofNat 32 (4+7*2^13+2^20+50*2^21),0,BitVec.ofNat 32 (5+15*65536+55*2^20),0,9,0,0,0,0x04030201]
      let p : Part := 3
      let w0 := wordAt m.payload 0
      let w2 := wordAt m.payload 2
      let bs := passFrame m
      let n := frameCells bs.length
      let q := qEth 2 (bitsAt w0 13 3)
      let s : State := st0 |> sf (R.SHP_ING (4 + p)) F.SHP_ING_EN 0 |> sf R.QMG_THRESH F.QMG_THRESH_SPILL_LOW 0 |> wrs R.SAFE_HEALTH 15 |>
          sf (R.QMG_PROF_LIM 0) F.QMG_PROF_LIM_LIMIT 100
      let fine := s.fld R.SAFE_HEALTH F.SAFE_HEALTH_PIPE_OK ≠ 0 ∧ s.pwr.hush = false
      decide (Accepted s .f 0x02 m) && decide (fine) && decide (bitsAt w2 20 6 = 52 + p.val) &&
          decide (s.cellsOk n (bitsAt w0 16 2 == 0) = true) && decide (bitAt w0 20 = true) && decide (bitsAt w0 21 6 = 50) &&
              decide (s.flag (R.SHP_ING (4 + p)) F.SHP_ING_EN = false) && decide ((s.queue q).mismatch = false) &&
                  decide ((s.queue q).frames = []) && decide (s.queueRefuses q n (bitAt w0 18) = none) &&
                      decide (∀ k : Fin 8, s.flag (R.QMG_TAP k) F.QMG_TAP_EN = false) &&
                          decide (s.fld R.QMG_THRESH F.QMG_THRESH_SPILL_LOW = 0)) = true ∧
    (
      let m : PassMsg := mk 2 0 20 [4,0,BitVec.ofNat 32 (5+15*65536+55*2^20),0,9,0,0,0,0x04030201]
      let p : Part := 3
      let w2 := wordAt m.payload 2
      let s : State := st0
      decide (s.passUp = true) && decide (m.crc = passCrc 0x02 m) && decide (m.seq = (s.rxDir .f).rx) &&
          decide (passMalformed 0x02 m = true) && decide (bitsAt w2 20 6 = 52 + p.val)) = true ∧
    (
      let m : PassMsg := mk 2 3 36 [4,0,BitVec.ofNat 32 (5+15*65536+47*2^20),0,9,0,0,0,0x04030201]
      let s : State := st0 |> (fun s => { s with pwr := { s.pwr with hush := true } }) |> (fun s => {s with pwr := {s.pwr with hush := true}})
      decide (Accepted s .f 0x02 m) && decide (s.pwr.hush = true)) = true ∧
    (
      let m : PassMsg := mk 2 3 36 [4,0,BitVec.ofNat 32 (5+15*65536+47*2^20),0,9,0,0,0,0x04030201]
      let w2 := wordAt m.payload 2
      let s : State := st0 |> wrs R.SAFE_HEALTH 15
      let fine := s.fld R.SAFE_HEALTH F.SAFE_HEALTH_PIPE_OK ≠ 0 ∧ s.pwr.hush = false
      decide (Accepted s .f 0x02 m) && decide (fine) && decide (bitsAt w2 20 6 < 48)) = true := by and_intros <;> decide +kernel

theorem test_HostAndUplinkFrames_2_met :
    (
      let m : PassMsg := mk 3 3 36 [55+15*64,0,0,0,9,0,0,0,0x04030201]
      let w0 := wordAt m.payload 0
      let port := bitsAt w0 0 6
      let s : State := st0
      decide (Accepted s .h 0x03 m) && decide (52 ≤ port) && decide (port < 56)) = true ∧
    (
      let m : PassMsg := mk 3 0 36 [50,0,0,0,9,0,0,0,0x04030201]
      let w0 := wordAt m.payload 0
      let port := bitsAt w0 0 6
      let bs := passFrame m
      let s : State := st0 |> qmgF (fun h => {h with upSide := [(0,⟨none,3,true,50,4⟩)]})
      let x := (s.acked .h m).takeSide m.seq.toNat
      decide (Accepted s .h 0x03 m) && decide (port = 50) && decide (x.1.direct = true) &&
          decide (bs.length + 4 ≤ s.maxLen 2)) = true := by and_intros <;> decide +kernel

theorem test_FloodsRun_met :
    (
      let p : Fin 8 := 0
      let s : State := st0
      decide ((s.queue (qFlood p)).mismatch = false) && decide (s.qHead (qFlood p) = none)) = true ∧
    (
      let s : State := st0 |> (fun s => { s with pwr := { s.pwr with hush := true } }) |> (fun s => {s with pwr := {s.pwr with hush := true}})
      decide (s.pwr.hush = true)) = true ∧
    (
      let p : Fin 8 := 7
      let s : State := st0 |> putQ 32903 { frames := [{fr1 with check := 1}] }
      decide ((s.queue (qFlood p)).mismatch = false) && decide (s.pwr.hush = false) && (match s.qHead (qFlood p) with
      | some f => decide (f.checkOk = false)
      | _ => false)) = true ∧
    (
      let p : Fin 8 := 7
      let s : State := st0 |> putQ 32903 { frames := [fr1] } |> sf (R.MESH_PAN_MPL 7) F.MESH_PAN_MPL_SEEDS 1 |>
          meshF (fun h => {h with seedUsed := [(seenKey 7 (seed16 0) 0,1000000000000)] })
      decide ((s.queue (qFlood p)).mismatch = false) && (match s.qHead (qFlood p) with
      | some f => decide (f.checkOk = true) && decide (s.seedTake p = none)
      | _ => false)) = true ∧
    (
      let p : Fin 8 := 7
      let s : State := st0 |> putQ 32903 { frames := [fr1] } |> wrs (R.MESH_PAN_MPL 7) 0x1F100001
      decide ((s.queue (qFlood p)).mismatch = false) && decide (s.pwr.hush = false) && (match s.qHead (qFlood p) with
      | some f => decide (f.checkOk = true) && (match s.seedTake p with
      | some (_, _, _) => decide (s.mplField p F.MESH_PAN_MPL_EXPIRATIONS ≠ 0)
      | _ => false)
      | _ => false)) = true ∧
    (
      let n : Nat := 7
      let x : Flood := {flood1 with heard := 1}
      let i  := 1000000000600
      let s : State := st0 |> meshF (fun h => {h with floods := [{flood1 with heard := 1}] }) |> wrs (R.MESH_PAN_MPL 7) 0x1F110001
      let live := s.mesh.floods.find? (fun x => x.n = n) = some x
      decide (live) && decide (x.instant = some i) && decide (s.mplField x.pan F.MESH_PAN_MPL_K ≠ 0) &&
          decide (s.mplField x.pan F.MESH_PAN_MPL_K ≤ x.heard)) = true ∧
    (
      let n : Nat := 7
      let x : Flood := flood1
      let i  := 1000000000600
      let s : State := st0 |> meshF (fun h => {h with floods := [flood1] }) |> wrs (R.MESH_PAN_MPL 7) 0x1F110001
      let live := s.mesh.floods.find? (fun x => x.n = n) = some x
      decide (live) && decide (x.instant = some i) && decide (s.panOn x.pan = false)) = true ∧
    (
      let n : Nat := 7
      let x : Flood := flood1
      let i  := 1000000000600
      let s : State := st0 |> panSet x.pan |> (fun s => { s with pwr := { s.pwr with hush := true } }) |>
          meshF (fun h => {h with floods := [flood1] }) |> wrs (R.MESH_PAN_MPL 7) 0x1F110001 |>
              (fun s => {s with pwr := {s.pwr with hush := true}}) |> panSet 7
      let live := s.mesh.floods.find? (fun x => x.n = n) = some x
      decide (live) && decide (x.instant = some i) && decide (s.panOn x.pan = true) &&
          decide (s.mplField x.pan F.MESH_PAN_MPL_K = 0 ∨ x.heard < s.mplField x.pan F.MESH_PAN_MPL_K) && decide (s.pwr.hush = true)) = true ∧
    (
      let n : Nat := 7
      let x : Flood := flood1
      let i  := 1000000000600
      let f  := fet
      let s : State := st0 |> panSet x.pan |> meshF (fun h => {h with floods := [flood1] }) |> wrs (R.MESH_PAN_MPL 7) 0x1F110001 |>
          wrs R.SAFE_HEALTH 15 |> panSet 7
      let live := s.mesh.floods.find? (fun x => x.n = n) = some x
      decide (live) && decide (x.instant = some i) && decide (s.panOn x.pan = true) &&
          decide (s.mplField x.pan F.MESH_PAN_MPL_K = 0 ∨ x.heard < s.mplField x.pan F.MESH_PAN_MPL_K) && decide (s.pwr.hush = false) &&
              decide (s.fld R.SAFE_HEALTH F.SAFE_HEALTH_PIPE_OK ≠ 0) &&
                  (let c := ((s.advanceTo i).setFlood { x with instant := none }).radioCopy x.pan x.cls 0 none (!x.relay) x.bytes
      decide (c.1.parts.length ≤ 1 ∨ x.origin = .host f))) = true ∧
    (
      let n : Nat := 7
      let x : Flood := flood1
      let s : State := st0 |> meshF (fun h => {h with floods := [flood1] }) |> wrs (R.MESH_PAN_MPL 7) 0x1F110001
      let live := s.mesh.floods.find? (fun x => x.n = n) = some x
      decide (live) && decide (2 ≤ x.left) && decide (x.doublings < s.mplField x.pan F.MESH_PAN_MPL_IMAX)) = true ∧
    (
      let n : Nat := 7
      let x : Flood := {flood1 with left := 1}
      let s : State := st0 |> meshF (fun h => {h with floods := [{flood1 with left := 1}] })
      let live := s.mesh.floods.find? (fun x => x.n = n) = some x
      decide (live) && decide (x.left = 1)) = true := by and_intros <;> decide +kernel

theorem test_MeshCachesAndContexts_met :
    (
      let p : Fin 8 := 7
      let seed : Nat := 2^128+65535
      let seq : Byte := 255
      let s : State := st0 |> meshF (fun h => {h with seen := [(seenKey 7 (2^128+65535) 255, 1000000000099)]})
      match s.mesh.seen.find? (fun e => e.1 = seenKey p seed seq.toNat) with
      | some _ => true
      | _ => false) = true ∧
    (
      let p : Fin 8 := 7
      let o : Fin 524288 := 524287
      let tseq : BitVec 16 := 65535
      let s : State := st0 |> meshF (fun h => {h with twins := [(twinKey 7 524287 65535, 1000000000099)]})
      match s.mesh.twins.find? (fun e => e.1 = twinKey p o tseq.toNat) with
      | some _ => true
      | _ => false) = true ∧
    (
      let p : Fin 8 := 7
      let size : Nat := 100
      let tag : Nat := 65535
      let src : Nat := 9
      let s : State := st0 |> meshF (fun h => {h with reasm := [⟨7,9,100,65535,5,[3,4],[]⟩]}) |> qmgF (fun h => {h with used := [3,4,9]})
      match s.mesh.reasm.find? (fun y => y.pan = p.val && y.src = src && y.size = size && y.tag = tag) with
      | some _ => true
      | _ => false) = true ∧
    (
      let q : Part := 1
      let data : Word := 0x140
      let s : State := st0 |> sf R.MESH_CTX_ADDR F.MESH_CTX_ADDR_PAN 7 |> sf R.MESH_CTX_ADDR F.MESH_CTX_ADDR_CTX 15 |>
          sf (R.PAN_CTRL 7) F.PAN_CTRL_OWNER 1
      let c := s.fld R.MESH_CTX_ADDR F.MESH_CTX_ADDR_CTX
      let pan := s.fld R.MESH_CTX_ADDR F.MESH_CTX_ADDR_PAN
      decide (s.panMay q pan = true) && decide (bitsAt data 0 7 ≤ 64) && decide (c ≠ 0 ∨ (bitAt data 7 = true ∧ bitsAt data 0 7 = 64))) = true ∧
    (
      let q : Part := 0
      let data : Word := 0xFFFFFFFF
      let s : State := st0
      let pan := s.fld R.MESH_CTX_ADDR F.MESH_CTX_ADDR_PAN
      decide (s.panMay q pan = true) && decide (64 < bitsAt data 0 7)) = true ∧
    (
      let q : Part := 3
      let s : State := st0
      let pan := s.fld R.MESH_CTX_ADDR F.MESH_CTX_ADDR_PAN
      decide (s.panMay q pan = false)) = true := by and_intros <;> decide +kernel

theorem test_PansAreKept_1_met :
    (
      let p : Fin 8 := 7
      let s : State := st0 |> un 0 |> wrs (R.PAN_ID 7) 0xFFFE
      decide (s.unlocked 0 = true) && decide (s.panOn p = false) && decide (s.panId p ≠ 0xFFFF) &&
          decide (∀ r : Fin 8, s.panOn r = true → s.panId r ≠ s.panId p)) = true ∧
    (
      let p : Fin 8 := 0
      let s : State := st0 |> un 0
      decide (s.unlocked 0 = true) && decide (s.panOn p = false) &&
          decide (s.panId p = 0xFFFF ∨ (∃ r : Fin 8, r ≠ p ∧ s.panOn r = true ∧ s.panId r = s.panId p))) = true ∧
    (
      let p : Fin 8 := 0
      let s : State := st0 |> panSet p
      decide (s.panOn p = true)) = true ∧
    (
      let p : Fin 8 := 0
      let s : State := st0 |> un 0 |> panSet p
      decide (s.unlocked 0 = true) && decide (s.panOn p = true)) = true ∧
    (
      let p : Fin 8 := 0
      let s : State := st0
      decide (s.panOn p = false)) = true ∧
    (
      let p : Fin 8 := 0
      let s : State := st0 |> un 0 |> panSet p
      decide (s.unlocked 0 = true) && decide (s.panOn p = true)) = true ∧
    (
      let p : Fin 8 := 0
      let s : State := st0 |> un 0
      decide (s.unlocked 0 = true) && decide (s.panOn p = false)) = true ∧
    (
      let q : Part := 3
      let p : Fin 8 := 3
      let s : State := st0 |> un q |> panSet p
      decide (s.unlocked q = true) && decide (q ≠ 0) && decide (s.panOn p = true)) = true ∧
    (
      let q : Part := 0
      let p : Fin 8 := 0
      let s : State := st0 |> panSet p
      decide (s.unlocked q = false) && decide (s.panOn p = true)) = true := by and_intros <;> decide +kernel

theorem test_PansAreKept_2_met :
    (
      let p : Fin 8 := 0
      let s : State := st0 |> un 0 |> panSet p
      decide (s.unlocked 0 = true) && decide (s.panOn p = true)) = true := by decide +kernel

theorem test_NeighboursLiveAndAreLost_met :
    (
      let q : Part := 1
      let data : Word := 0x00040089
      let s : State := st0 |> sf (R.LINK_NBR_ADDR 1) F.LINK_NBR_ADDR_NBR 8191 |> sf (R.LINK_NBR_ADDR 1) F.LINK_NBR_ADDR_WORD 2 |>
          sf (R.PAN_CTRL 7) F.PAN_CTRL_OWNER 1 |> siteOff |> nbrPut nbr1
      let k := s.fld (R.LINK_NBR_ADDR q) F.LINK_NBR_ADDR_NBR
      let w := s.fld (R.LINK_NBR_ADDR q) F.LINK_NBR_ADDR_WORD
      let y := (s.nbr k).setWord w data
      decide ((s.nbr k).valid = true) && decide (s.panMay q (s.nbr k).pan = true) && decide (nbrWordsBad s (y.word 1) (y.word 2) = false)) = true ∧
    (
      let q : Part := 1
      let data : Word := 0x00030089
      let s : State := st0 |> sf (R.LINK_NBR_ADDR 1) F.LINK_NBR_ADDR_NBR 8191 |> sf (R.LINK_NBR_ADDR 1) F.LINK_NBR_ADDR_WORD 2 |>
          sf (R.PAN_CTRL 7) F.PAN_CTRL_OWNER 1 |> siteOff |> nbrPut nbr1
      let k := s.fld (R.LINK_NBR_ADDR q) F.LINK_NBR_ADDR_NBR
      let w := s.fld (R.LINK_NBR_ADDR q) F.LINK_NBR_ADDR_WORD
      let y := (s.nbr k).setWord w data
      decide ((s.nbr k).valid = true) && decide (s.panMay q (s.nbr k).pan = true) && decide (nbrWordsBad s (y.word 1) (y.word 2) = true)) = true ∧
    (
      let q : Part := 0
      let s : State := st0
      let k := s.fld (R.LINK_NBR_ADDR q) F.LINK_NBR_ADDR_NBR
      decide ((s.nbr k).valid = false)) = true ∧
    (
      let q : Part := 2
      let s : State := st0 |> sf (R.LINK_NBR_ADDR 2) F.LINK_NBR_ADDR_NBR 8191 |> sf (R.LINK_NBR_ADDR 2) F.LINK_NBR_ADDR_WORD 2 |>
          sf (R.PAN_CTRL 7) F.PAN_CTRL_OWNER 1 |> siteOff |> nbrPut nbr1
      let k := s.fld (R.LINK_NBR_ADDR q) F.LINK_NBR_ADDR_NBR
      decide ((s.nbr k).valid = true) && decide (s.panMay q (s.nbr k).pan = false)) = true ∧
    (
      let n : Fin 8192 := 8191
      let s : State := st0 |> nbrPut {nbr1 with misses := 1}
      let x := s.nbr n
      decide (x.valid = true) && decide (x.livePeriod ≠ 0) && decide (x.misses = 1)) = true ∧
    (
      let n : Fin 8192 := 8191
      let s : State := st0 |> nbrPut {nbr1 with misses := 2, state := 2}
      let x := s.nbr n
      decide (x.valid = true) && decide (x.livePeriod ≠ 0) && decide (x.misses = 2) && decide (x.state = 2) &&
          decide (s.qmg.queues = []) && decide (s.src ≠ 3)) = true ∧
    (
      let n : Fin 8192 := 8191
      let s : State := st0 |> nbrPut {nbr1 with state := 3, lostAt := 5} |> putQ 32764 { frames := [fr1] }
      let x := s.nbr n
      decide (x.valid = true) && decide (x.state = 3) && (match (s.queue (qNbr n 0)).frames with
      | [f] => decide ((s.queue (qNbr n 0)).mismatch = false) && decide (∀ c : Fin 4, c ≠ 0 → (s.queue (qNbr n c)).frames = []) &&
          decide (f.gram = none) && decide (f.origin = .own)
      | _ => false)) = true := by and_intros <;> decide +kernel

theorem test_JoinsAndAddresses_met :
    (
      let c : CmdDesc := cmd0
      let dma : Dma := Dma.ok
      let s : State := st0
      let t0 := s.cmdTake c
      let t1 := if bitAt c.w1 4 && dma = .ok then t0.blobReady (s.paramBlock c.part.val (addr64 c.w4 c.w5)).2 else t0
      decide (s.cmdTurn c = true) && (match t1.joinBad c dma with
      | some (_, _) => true
      | _ => false)) = true ∧
    (
      let c : CmdDesc := cmdW 1 0x10 (7+0xFFEF*65536) (9) 3 (BitVec.ofNat 32 (64))
      let dma : Dma := .ok
      let s : State := st0 |> panSet 7 |> sf (R.PAN_CTRL 7) F.PAN_CTRL_OWNER 1
      let t0 := s.cmdTake c
      decide (s.leads c = true) && decide (t0.joinBad c dma = none) && decide (bitAt c.w1 3 = false) && decide (bitAt c.w1 4 = false) &&
          (match t0.ordLowest 524288 0 with
      | some _ => decide (t0.dir.a.ents = []) && decide (t0.dir.b.ents = []) && decide (t0.dir.lost = []) && decide (bitsAt c.w1 16 16 ≠ 0)
      | _ => false)) = true ∧
    (
      let c : CmdDesc := cmdW 1 0x10 (7+8+0xFFEF*65536) (9) 3 (BitVec.ofNat 32 (64))
      let dma : Dma := .ok
      let s : State := st0 |> panSet 7 |> sf (R.PAN_CTRL 7) F.PAN_CTRL_OWNER 1 |> siteOff |> mem1 1 [(64,5*65536),(68,0x80089)]
      let t0 := s.cmdTake c
      let t1 := if bitAt c.w1 4 && dma = .ok then t0.blobReady (s.paramBlock c.part.val (addr64 c.w4 c.w5)).2 else t0
      decide (s.leads c = true) && decide (t1.joinBad c dma = none) && decide (bitAt c.w1 3 = true) && (match t1.ordLowest 524288 0 with
      | some _ => (match t1.nbrLowest 8192 0 with
      | some _ => decide (t1.dir.a.ents = []) && decide (t1.dir.b.ents = []) && decide (t1.dir.lost = []) && decide (bitsAt c.w1 16 16 ≠ 0)
      | _ => false)
      | _ => false)) = true ∧
    (
      let c : CmdDesc := cmdW 1 0x10 (7+16+0xFFEF*65536) (9) 3 (BitVec.ofNat 32 (64))
      let dma : Dma := .ok
      let s : State := st0 |> panSet 7 |> sf (R.PAN_CTRL 7) F.PAN_CTRL_OWNER 1 |> siteOff |> kekIn 1 |> (fun s => s.memWrite 1 80 (blobOf 7 1 99))
      let t0 := s.cmdTake c
      let t1 := if bitAt c.w1 4 && dma = .ok then t0.blobReady (s.paramBlock c.part.val (addr64 c.w4 c.w5)).2 else t0
      decide (s.leads c = true) && decide (t1.joinBad c dma = none) && decide (bitAt c.w1 3 = false) && decide (bitAt c.w1 4 = true) &&
          (match t1.ordLowest 524288 0 with
      | some _ => decide (t1.dir.a.ents = []) && decide (t1.dir.b.ents = []) && decide (t1.dir.lost = []) && decide (bitsAt c.w1 16 16 ≠ 0)
      | _ => false)) = true ∧
    (
      let c : CmdDesc := cmdW 2 0x10 (7) (9) 3 (BitVec.ofNat 32 (64))
      let s : State := st0 |> panSet 7 |> sf (R.PAN_CTRL 7) F.PAN_CTRL_OWNER 1
      decide (s.cmdTurn c = true) && decide (s.panMay c.part.val (lpan c) = false)) = true ∧
    (
      let c : CmdDesc := cmdW 1 0x10 (7) (524287) 3 (BitVec.ofNat 32 (64))
      let eui : Word64 := 0
      let o := bitsAt c.w2 0 19
      let s : State := st0 |> panSet 7 |> sf (R.PAN_CTRL 7) F.PAN_CTRL_OWNER 1 |>
          (fun s => s.setNode 524287 { valid := true, kind := 1, pan := 7, eui := 9, hasNbr := true, nbr := 8191 }) |> siteOff |>
              mem1 1 [(64,5*65536),(68,0x80089)]
      decide (s.cmdTurn c = true) && decide (s.panMay c.part.val (lpan c) = true) && decide ((s.node o).valid = true) &&
          decide ((s.node o).pan = lpan c)) = true ∧
    (
      let c : CmdDesc := cmdW 1 0x10 (7) (524287) 3 (BitVec.ofNat 32 (64))
      let dma : Dma := .ok
      let eui : Word64 := 0
      let o := bitsAt c.w2 0 19
      let s : State := st0 |> panSet 7 |> sf (R.PAN_CTRL 7) F.PAN_CTRL_OWNER 1 |>
          (fun s => s.setNode 524287 { valid := true, kind := 1, pan := 7, eui := 9, hasNbr := false, nbr := 8191 }) |> siteOff |>
              mem1 1 [(64,5*65536),(68,0x80089)]
      let t0 := s.cmdTake c
      decide (s.leads c = true) && decide (s.panOn (lpan c) = true) && decide (s.panMay c.part.val (lpan c) = true) &&
          decide (unaligned c.w4 c.w5 = false) && decide (dma = .ok) && decide ((s.node o).valid = true) &&
              decide ((s.node o).pan = lpan c) && decide ((s.node o).hasNbr = false) && (let ws := (t0.paramBlock c.part.val (addr64 c.w4 c.w5)).1
      decide (nbrWordsBad t0 ws.1 ws.2.1 = false) && (match t0.nbrLowest 8192 0 with
      | some _ => decide (bitAt c.w1 4 = false)
      | _ => false))) = true ∧
    (
      let c : CmdDesc := cmd0
      let n := bitsAt c.w2 0 13
      let s : State := st0
      decide (s.cmdTurn c = true) && decide ((s.nbr n).valid = false)) = true ∧
    (
      let c : CmdDesc := cmdW 1 0x10 (7) (8191) 3 (BitVec.ofNat 32 (64))
      let n := bitsAt c.w2 0 13
      let s : State := st0 |> panSet 7 |> sf (R.PAN_CTRL 7) F.PAN_CTRL_OWNER 1 |> nbrPut nbr1
      decide (s.cmdTurn c = true) && decide ((s.nbr n).valid = true) && decide (s.panMay c.part.val (s.nbr n).pan = true)) = true ∧
    (
      let c : CmdDesc := cmdW 1 0x10 (7+0xFFEF*65536) (86400) 3 (BitVec.ofNat 32 (64))
      let s : State := st0 |> panSet 7 |> sf (R.PAN_CTRL 7) F.PAN_CTRL_OWNER 1
      decide (s.leads c = true) && decide (s.panMay c.part.val (lpan c) = true) && decide (1 ≤ bitsAt c.w1 16 16) &&
          decide (bitsAt c.w1 16 16 ≤ 0xFFEF) && decide (s.shortAssigned (lpan c) (bitsAt c.w1 16 16) = false) &&
              decide (1 ≤ bitsAt c.w2 0 17) && decide (bitsAt c.w2 0 17 ≤ 86400)) = true ∧
    (
      let p : Fin 8 := 7
      let a : BitVec 16 := 0xFFEF
      let s : State := st0 |> linkF (fun h => {h with quar := [(shortKey 7 0xFFEF, 2)]})
      decide (aget 0 (shortKey p a.toNat) s.link.quar ≠ 0) && decide (aget 0 (shortKey p a.toNat) s.link.quar ≤ s.citySec + 2)) = true ∧
    (
      let eui : Word64 := 0xFFFFFFFFFFFFFFFF
      let s : State := st0 |> linkF (fun h => {h with joins := [⟨0xFFFFFFFFFFFFFFFF,1,1000000000000,3,9⟩]})
      match s.link.joins.find? (fun j => j.eui = eui.toNat) with
      | some _ => true
      | _ => false) = true := by and_intros <;> decide +kernel

theorem test_KeysAreErased_met :
    (
      let x : KeySlot := { keyOf (.link 5) 6 77 0 0 with b := ⟨2, 78, 0⟩ }
      let a  := attrDEC
      let s : State := st0 |> keyF (fun h => {h with slots := [{ keyOf (.link 5) 6 77 0 0 with b := ⟨2, 78, 0⟩ }]})
      decide (s.key.slots = [x]) && decide (x.loaded = true) && decide (x.attrs.find? (fun a => !x.good a) = some a)) = true ∧
    (
      let s : State := st0
      decide (∀ y ∈ s.key.slots, y.loaded = true → ∀ a ∈ y.attrs, y.good a = true)) = true ∧
    (
      let data : Word := 0x7FFF
      let s : State := st0 |> un 0
      decide (s.unlocked 0 = true) && decide (bitAt data 14 = true) && decide (bitAt data 13 = true)) = true ∧
    (
      let data : Word := 0
      let s : State := st0 |> un 0
      decide (s.unlocked 0 = true) && decide (bitAt data 14 = false)) = true ∧
    (
      let i : Fin 4 := 0
      let high : Bool := true
      let n : Nat := 0
      let s : State := st0
      let cfg := s.rd R.KEY_TAMPER_CFG
      decide (bitAt cfg (8 * i) = false ∨ bitAt cfg (8 * i + 1) ≠ high ∨ n < bitsAt cfg (8 * i + 4) 4)) = true ∧
    (
      let i : Fin 4 := 3
      let high : Bool := true
      let n : Nat := 15
      let s : State := st0 |> (fun s => { s with pwr := { s.pwr with fHeld := true } }) |> wrs R.KEY_TAMPER_CFG 0xF3000000 |>
          keyF (fun h => {h with slots := [keyOf (.link 5) 6 77 0 0]})
      let cfg := s.rd R.KEY_TAMPER_CFG
      decide (tamperQualifies cfg i high n = true) && decide (bitAt cfg (8 * i + 2) = false) && decide (s.pwr.fHeld = true)) = true ∧
    (
      let i : Fin 4 := 3
      let high : Bool := true
      let n : Nat := 15
      let s : State := st0 |> (fun s => { s with pwr := { s.pwr with fHeld := true } }) |> wrs R.KEY_TAMPER_CFG 0xF7000000 |>
          keyF (fun h => {h with slots := [keyOf (.link 5) 6 77 0 0]})
      let cfg := s.rd R.KEY_TAMPER_CFG
      decide (tamperQualifies cfg i high n = true) && decide (bitAt cfg (8 * i + 2) = true) && decide (s.pwr.fHeld = true)) = true ∧
    (
      let i : Fin 4 := 3
      let high : Bool := true
      let n : Nat := 15
      let s : State := st0 |> wrs R.KEY_TAMPER_CFG 0xF3000000 |> keyF (fun h => {h with slots := [keyOf (.link 5) 6 77 0 0]})
      let cfg := s.rd R.KEY_TAMPER_CFG
      decide (tamperQualifies cfg i high n = true) && decide (bitAt cfg (8 * i + 2) = false) && decide (s.pwr.fHeld = false)) = true ∧
    (
      let data : Word := 0xF
      let s : State := st0 |> un 0 |> sf R.KEY_TAMPER_STAT F.KEY_TAMPER_STAT_ZEROIZED 1 |> wrs R.KEY_TAMPER_STAT 0x1F
      let l := s.fld R.KEY_TAMPER_STAT F.KEY_TAMPER_STAT_LATCH
      decide (s.unlocked 0 = true) && decide (l ≠ 0) && decide (clearBits l (data.toNat % 16) = 0) &&
          decide (s.flag R.KEY_TAMPER_STAT F.KEY_TAMPER_STAT_ZEROIZED = true)) = true ∧
    (
      let p : Part := 0
      let s : State := st0
      decide (s.unlocked p = false)) = true := by and_intros <;> decide +kernel

theorem test_KeyStoreAndKeks_met :
    (
      let c : CmdDesc := cmdW 1 0x21 0 (5) (0) (4)
      let s : State := st0
      let turn := s.cmdTurn c = true
      decide (turn) && decide (unaligned c.w4 c.w5 = true)) = true ∧
    (
      let c : CmdDesc := cmdW 1 0x21 0 (5) (0) (8)
      let dma : Dma := .bufError
      let s : State := st0
      let turn := s.cmdTurn c = true
      decide (turn) && decide (unaligned c.w4 c.w5 = false) && decide (dma ≠ .ok)) = true ∧
    (
      let c : CmdDesc := cmdW 1 0x21 0 (5) (0) (80)
      let dma : Dma := .ok
      let s : State := st0 |> kekIn 1 |> (fun s => s.memWrite 1 80 (blobOf 7 1 99))
      let turn := s.cmdTurn c = true
      decide (turn) && decide (unaligned c.w4 c.w5 = false) && decide (dma = .ok)) = true ∧
    (
      let c : CmdDesc := cmdW 1 0x21 0 (1048575) (2) (8)
      let n := bitsAt c.w3 0 17
      let s : State := st0
      let turn := s.cmdTurn c = true
      decide (turn) && decide (1048576 < kpos c + n ∨ 65536 < n)) = true ∧
    (
      let c : CmdDesc := cmd0
      let n := bitsAt c.w3 0 17
      let s : State := st0
      decide (s.leads c = true) && decide (kpos c + n ≤ 1048576) && decide (n ≤ 65536) &&
          decide ((s.key.store.filter fun e => decide (kpos c ≤ e.1) &&
              decide (e.1 < kpos c + n)).all (fun e => blobPart e.2 = c.part.val) = true)) = true ∧
    (
      let c : CmdDesc := cmdW 1 0x21 0 (5) (0) (64)
      let dma : Dma := Dma.ok
      let s : State := st0 |> sf R.KEY_KEKCTL F.KEY_KEKCTL_KEK_PROV 15 |> mem1 1 [(64,5)]
      let t0 := s.cmdTake c
      let turn := s.cmdTurn c = true
      decide (turn) && decide (unaligned c.w4 c.w5 = false) && decide (s.key.rewraps = []) &&
          decide (s.flag R.KEY_STATUS F.KEY_STATUS_TAMPERED = false) && decide (bitAt c.w1 0 = false) &&
              decide (nbit (s.fld R.KEY_KEKCTL F.KEY_KEKCTL_KEK_PROV) c.part = true) && decide (dma = .ok) && (match t0.keyRoom (.kek c.part.val) with
      | some _ => true
      | _ => false)) = true ∧
    (
      let p : Part := 1
      let s : State := st0 |> keyF (fun h => {h with rewraps := [cmdW 1 0x24 0]}) |> sf R.KEY_KEKCTL F.KEY_KEKCTL_KEK_PROV 15
      match s.key.rewraps.find? (fun x => x.part = p) with
      | some d => decide (bitAt d.w1 0 = false) && decide (s.clearFor d = true)
      | _ => false) = true ∧
    (
      let s : State := st0
      decide (s.key.rewraps = [])) = true := by and_intros <;> decide +kernel

theorem test_PanKeysRollAndCount_met :
    (
      let c : CmdDesc := cmdW 1 0x22 (7+9*256) (5) (0)
      let pan := lpan c
      let idx := bitsAt c.w1 8 8
      let s : State := st0 |> panSet pan |> panSet 7 |> sf (R.PAN_CTRL 7) F.PAN_CTRL_OWNER 1
      let turn := s.cmdTurn c = true
      decide (turn) && decide (s.panOn pan = true) && decide (s.panMay c.part.val pan = true) && decide (bitAt c.w1 3 = false) &&
          decide (idx ≠ 0) && decide (idx ≠ s.groupIdx pan 0) && decide (idx ≠ s.groupIdx pan 1)) = true ∧
    (
      let c : CmdDesc := cmd0
      let pan := lpan c
      let idx := bitsAt c.w1 8 8
      let s : State := st0 |> panSet pan
      let turn := s.cmdTurn c = true
      decide (turn) && decide (s.panOn pan = true) && decide (s.panMay c.part.val pan = true) && decide (idx = 0)) = true ∧
    (
      let c : CmdDesc := cmd0
      let pan := lpan c
      let s : State := st0 |> panSet pan
      let turn := s.cmdTurn c = true
      decide (turn) && decide (s.panOn pan = true) && decide (s.panMay c.part.val pan = true) && decide (s.nextValid pan = false)) = true ∧
    (
      let c : CmdDesc := cmdW 1 0x22 (7+9*65536) (5) (0)
      let pan := lpan c
      let s : State := st0 |> panSet pan |> sf R.SLOT_CTRL F.SLOT_CTRL_RUNNING 1 |> panSet 7 |> sf (R.PAN_CTRL 7) F.PAN_CTRL_OWNER 1 |>
          bset (R.KEY_PAN_CFG 7) F.KEY_PAN_CFG_NEXT_VALID
      let turn := s.cmdTurn c = true
      decide (turn) && decide (s.panOn pan = true) && decide (s.panMay c.part.val pan = true) && decide (s.nextValid pan = true) &&
          decide (s.key.rolls = []) && decide (s.running = true)) = true ∧
    (
      let c : CmdDesc := cmdW 1 0x22 (7+9*65536) (5) (0)
      let pan := lpan c
      let s : State := st0 |> panSet pan |> panSet 7 |> sf (R.PAN_CTRL 7) F.PAN_CTRL_OWNER 1 |>
          bset (R.KEY_PAN_CFG 7) F.KEY_PAN_CFG_NEXT_VALID |> sf (R.KEY_PAN_CFG 7) F.KEY_PAN_CFG_A_KIDX 5
      let old := s.groupCur pan
      let turn := s.cmdTurn c = true
      decide (turn) && decide (s.panOn pan = true) && decide (s.panMay c.part.val pan = true) && decide (s.nextValid pan = true) &&
          decide (s.key.rolls = []) && decide (s.running = false) && decide (s.groupIdx pan old ≠ 0) && decide (bitsAt c.w1 16 16 ≠ 0)) = true ∧
    (
      let p : Fin 8 := 7
      let s : State := st0 |> bset (R.KEY_PAN_CFG 7) F.KEY_PAN_CFG_GRACE
      decide (s.inGrace p = true)) = true ∧
    (
      let p : Fin 8 := 0
      let s : State := st0
      decide (s.inGrace p = false)) = true ∧
    (
      let c : CmdDesc := cmd0
      let d := bitsAt c.w1 0 6
      let s : State := st0
      let turn := s.cmdTurn c = true
      decide (turn) && decide ((s.keyEntry (.derive d)).all (fun y => y.part = c.part.val) = true)) = true ∧
    (
      let c : CmdDesc := cmd0
      let d := bitsAt c.w1 0 6
      let s : State := st0
      let turn := s.cmdTurn c = true
      decide (turn) && decide (s.keyEntry (.derive d) = none)) = true ∧
    (
      let c : CmdDesc := cmdW 1 0x22 (63) (5) (0)
      let d := bitsAt c.w1 0 6
      let s : State := st0 |> keyF (fun h => {h with slots := [keyOf (.derive 63) 6 77 1 0]})
      decide (s.leads c = true) && (match s.keyEntry (.derive d) with
      | some y => decide (y.part = c.part.val)
      | _ => false)) = true ∧
    (
      let c : CmdDesc := cmd0
      let e := bitsAt c.w2 0 14
      let s : State := st0
      let x := s.ctr e
      let turn := s.cmdTurn c = true
      decide (turn) && decide (x.bound = false ∨ x.part ≠ c.part.val)) = true ∧
    (
      let c : CmdDesc := cmdW 1 0x22 (0) (0x2003) (0xFFFFFFFF)
      let e := bitsAt c.w2 0 14
      let s : State := st0 |> keyF (fun h => {h with ctrs := [(0x2003,⟨true,5,9,true,3,1,2,8223,0⟩)]})
      let x := s.ctr e
      decide (s.leads c = true) && decide (x.bound = true) && decide (x.part = c.part.val) &&
          decide (x.warned = true)) = true := by and_intros <;> decide +kernel

theorem test_DirectoryCommands_met :
    (
      let c : CmdDesc := cmdW 1 0x01 (2+7*4) (524287) (1) (0)
      let s : State := st0 |> panSet 7 |> sf (R.PAN_CTRL 7) F.PAN_CTRL_OWNER 1 |> nodeAt 524287 7 0x100000009
      decide (s.cmdTurn c = true) && decide (cmdTable c = 0) && (match s.keyFind c with
      | .ok (some o) => decide (s.nodeBad o = false) && decide (unaligned c.w4 c.w5 = false) && decide (addr64 c.w4 c.w5 = 0)
      | _ => false)) = true ∧
    (
      let c : CmdDesc := cmdW 1 0x01 (2+7*4) (524287) (1) (8)
      let s : State := st0
      decide (s.cmdTurn c = true) && decide (cmdTable c = 0) && decide (s.keyFind c = .ok none) && decide (unaligned c.w4 c.w5 = false)) = true ∧
    (
      let c : CmdDesc := cmdW 1 0x01 (3) (524287) (1) (8)
      let s : State := st0
      decide (s.cmdTurn c = true) && decide (cmdTable c = 0) && (match s.keyFind c with
      | .error _ => true
      | _ => false)) = true ∧
    (
      let c : CmdDesc := cmd0
      let s : State := st0
      decide (s.cmdTurn c = true) && decide (cmdTable c = 0) && (match s.insertBad c with
      | some _ => true
      | _ => false)) = true ∧
    (
      let c : CmdDesc := cmdW 1 0x02 (7*4+256) 9 1 (47*65536) 524287
      let s : State := st0 |> (fun s => { s with dir := { s.dir with a := { s.dir.a with ents := [] } } }) |> panSet 7 |>
          sf (R.PAN_CTRL 7) F.PAN_CTRL_OWNER 1
      decide (s.cmdTurn c = true) && decide (s.clearFor c = true) && decide (cmdTable c = 0) && decide (s.insertBad c = none) &&
          decide (bitAt c.w1 7 = false) && decide (bitAt c.w1 8 = true) && decide (addr64 c.w6 c.w7 = 0) && decide (s.dir.a.ents = []) &&
              decide (s.dir.lost = [])) = true ∧
    (
      let c : CmdDesc := cmd0
      let s : State := st0
      decide (s.cmdTurn c = true) && decide (cmdTable c = 0) && decide (s.keyFind c = .ok none)) = true ∧
    (
      let c : CmdDesc := cmdW 1 0x01 (2+7*4) (524287) (1) (0)
      let s : State := st0 |> panSet 7 |> sf (R.PAN_CTRL 7) F.PAN_CTRL_OWNER 1 |> nodeAt 524287 7 0x100000009
      decide (s.cmdTurn c = true) && decide (cmdTable c = 0) && (match s.keyFind c with
      | .ok (some o) => decide (s.nodeBad o = false)
      | _ => false)) = true ∧
    (
      let c : CmdDesc := cmdW 1 0x01 (2+7*4+64) (524287) (1) ((47*4+256))
      let s : State := st0 |> panSet 7 |> sf (R.PAN_CTRL 7) F.PAN_CTRL_OWNER 1 |> nodeAt 524287 7 0x100000009
      decide (s.cmdTurn c = true) && decide (cmdTable c = 0) && (match s.keyFind c with
      | .ok (some o) => decide (s.nodeBad o = false) && decide (bitAt c.w1 6 = true) &&
          decide (bindPortOk c.part.val (bitsAt c.w4 2 6) = true) && decide (bitAt c.w1 5 = false) && decide (bitAt c.w1 7 = false) &&
              decide (bitAt c.w1 8 = false) && decide (unaligned c.w6 c.w7 = false)
      | _ => false)) = true ∧
    (
      let c : CmdDesc := cmdW 1 0x01 (0xC0000000) (524287) (1) (8)
      let s : State := st0
      decide (s.cmdTurn c = true) && decide (2 ≤ cmdTable c)) = true := by and_intros <;> decide +kernel

theorem test_DirectoryWalks_met :
    (
      let c : CmdDesc := cmdW 1 0x05 (0) (0) 0 (4)
      let s : State := st0
      let turn := s.cmdTurn c = true
      decide (turn) && decide (cmdTable c = 0) && decide (unaligned c.w4 c.w5 = true)) = true ∧
    (
      let c : CmdDesc := cmdW 1 0x05 (64) (5) 0 (64)
      let k := bitAt c.w1 5
      let cur := bitsAt c.w2 0 20
      let s : State := st0 |> panSet 7 |> sf (R.PAN_CTRL 7) F.PAN_CTRL_OWNER 1 |>
          dirF (fun h => {h with a := {h.a with ents := [(7,{key := 7*2^64+9, ord := 3})]}})
      decide (s.leads c = true) && decide (cmdTable c = 0) && decide (unaligned c.w4 c.w5 = false) && decide (0 < bitsAt c.w1 6 9) &&
          (let all := (s.idx k).ents.filter (fun e => cur ≤ e.1 && s.panMay c.part.val (idxPan k e.2.key))
      let out := all.take (min 256 (bitsAt c.w1 6 9))
      decide (cur < idxEnd) && decide (∀ e ∈ (s.idx k).ents, e.1 < idxEnd) && decide (addr64 c.w4 c.w5 + 16 * out.length ≤ 2 ^ 64))) = true ∧
    (
      let c : CmdDesc := cmdW 1 0x05 (64*256) (0) 0 (64)
      let s : State := st0 |> (fun s => { s with dir := { s.dir with a := { s.dir.a with ents := [] } } })
      decide (s.leads c = true) && decide (cmdTable c = 0) && decide (unaligned c.w4 c.w5 = false) && decide (0 < bitsAt c.w1 6 9) &&
          decide (bitsAt c.w2 0 20 = 0) && decide (bitAt c.w1 5 = false) && decide (s.dir.a.ents = [])) = true ∧
    (
      let p : Part := 1
      let b : Bool := true
      let s : State := st0 |> dirF (fun h => {h with iters := [⟨1,1,5,1000000000000,3⟩]})
      match s.iterOf p.val (if b then 1 else 0) with
      | some _ => true
      | _ => false) = true ∧
    (
      let c : CmdDesc := cmdW 1 0x05 (63*32+2048) (0) 0 (64)
      let s : State := st0
      decide (s.leads c = true) && decide (cmdTable c = 0) && decide (bitAt c.w1 11 = true) &&
          decide (bindPortOk c.part.val (bitsAt c.w1 5 6) = true) && decide (s.dir.flushes.length < 8)) = true ∧
    (
      let c : CmdDesc := cmdW 1 0x05 (0x40000000) (0) 0 (64)
      let s : State := st0
      let turn := s.cmdTurn c = true
      decide (turn) && decide (cmdTable c ≠ 0)) = true ∧
    (
      let s : State := st0 |> dirF (fun h => {h with flushes := [⟨255,1,47,none,false,0,0,0⟩]})
      match s.dir.flushes with
      | j :: r => decide (j.running = false) && decide (r.all (fun x => !x.running) = true)
      | _ => false) = true ∧
    (
      let s : State := st0 |> dirF (fun h => {h with flushes := [⟨255,1,47,none,true,5,0,0⟩]})
      match s.flushNow with
      | some _ => decide (s.dir.a.ents = [])
      | _ => false) = true ∧
    (
      let s : State := st0
      decide (s.flushNow = none)) = true ∧
    (
      let s : State := st0
      decide (s.sweepS ≠ 0) && decide (s.dir.a.at s.dir.sweepPos = none)) = true ∧
    (
      let s : State := st0 |> sf R.NDIR_AGE F.NDIR_AGE_SWEEP_S 86400 |>
          dirF (fun h => {h with sweepPos := 5, a := {h.a with ents := [(5,{key := 7, ord := 3, hit := true})]}})
      decide (s.sweepS ≠ 0) && (match s.dir.a.at s.dir.sweepPos with
      | some e => decide (e.hit = true)
      | _ => false)) = true ∧
    (
      let s : State := st0 |> sf R.NDIR_AGE F.NDIR_AGE_SWEEP_S 0
      decide (s.sweepS = 0)) = true ∧
    (
      let b : Bool := true
      let i : Fin 135168 := 135167
      let s : State := st0 |> dirF (fun h => {h with lost := [(1,135167,[])]})
      match s.dir.lost with
      | [l] => decide (l.1 = (if b then 1 else 0)) && decide (l.2.1 = i.val) && decide (l.2.2 = [])
      | _ => false) = true ∧
    (
      let s : State := st0
      decide (s.dir.lost = [])) = true := by and_intros <;> decide +kernel

theorem test_PrefixCommands_met :
    (
      let c : CmdDesc := cmdW 1 0x30 (0x40000000 + (128)) (0x20010db8) 0 0 0 (53)
      let s : State := st0 |> bset R.LPM_MODE F.LPM_MODE_CHANGING
      decide (s.cmdTurn c = true) && decide (cmdTable c = 1) && decide (s.lpmChanging = true)) = true ∧
    (
      let c : CmdDesc := cmdW 1 0x30 (0x40000000 + (256)) (0x20010db8) 0 0 0 (53)
      let s : State := st0 |> lpmF (fun h => {h with prefixes := [(65535,px (0x20010db8*2^96) 128 1)]})
      let lead := s.leads c = true ∧ cmdTable c = 1 ∧ s.lpmChanging = false
      decide (lead) && decide (bitAt c.w1 8 = true) && decide (s.modeH = false) && (match longest (s.prefixesOf c.part.val) (cmdAddr c) with
      | some (_, _) => true
      | _ => false)) = true ∧
    (
      let c : CmdDesc := cmdW 1 0x30 (0x40000000 + (128)) (0x20010db8) 0 0 0 (53)
      let s : State := st0 |> lpmF (fun h => {h with prefixes := [(65535,px (0x20010db8*2^96) 128 1)]})
      let lead := s.leads c = true ∧ cmdTable c = 1 ∧ s.lpmChanging = false
      decide (lead) && decide (bitAt c.w1 8 = false) && decide (cmdLen c ≤ 128) && (match exactPrefix (s.prefixesOf c.part.val) c with
      | some (_, _) => true
      | _ => false)) = true ∧
    (
      let c : CmdDesc := cmdW 1 0x30 (0x40000000 + (128)) (0x20010db8) 0 0 0 (53)
      let x : Prefix := { bits := maskTo (cmdLen c) (cmdAddr c), len := cmdLen c, owner := c.part.val, result := c.w6 &&& 0x7FFFFF, bucket := 0 }
      let s : State := st0
      let lead := s.leads c = true ∧ cmdTable c = 1 ∧ s.lpmChanging = false
      let fresh := cmdLen c ≤ 128 ∧ s.resultCause c.part.val c.w6 = 0 ∧ (exactPrefix s.lpm.prefixes c).isSome = false
      decide (lead) && decide (fresh) && decide (s.modeH = false) && (match s.idLowest 65536 0 with
      | some i => decide (lpmNodes (s.lpm.prefixes ++ [(i, x)]) ≤ 8192)
      | _ => false)) = true ∧
    (
      let c : CmdDesc := cmdW 1 0x30 (0x40000000 + (128)) (0x20010db8) 0 0 0 (53)
      let x : Prefix := { bits := maskTo (cmdLen c) (cmdAddr c), len := cmdLen c, owner := c.part.val, result := c.w6 &&& 0x7FFFFF, bucket := 0 }
      let buckets := lpmBuckets (cmdLen c) x.bits
      let s : State := st0 |> bset R.LPM_MODE F.LPM_MODE_MODE
      let lead := s.leads c = true ∧ cmdTable c = 1 ∧ s.lpmChanging = false
      let fresh := cmdLen c ≤ 128 ∧ s.resultCause c.part.val c.w6 = 0 ∧ (exactPrefix s.lpm.prefixes c).isSome = false
      let home := if s.lpmFill buckets.2 < s.lpmFill buckets.1 then buckets.2 else buckets.1
      decide (lead) && decide (fresh) && decide (s.modeH = true) && (match s.idLowest 1048576 0 with
      | some _ => decide (s.lpmFill home < 4)
      | _ => false)) = true ∧
    (
      let c : CmdDesc := cmdW 1 0x30 (0x40000000 + (129)) (0x20010db8) 0 0 0 (53)
      let s : State := st0
      let runs := s.cmdTurn c = true ∧ cmdTable c = 1 ∧ s.lpmChanging = false
      decide (runs) && decide (128 < cmdLen c)) = true ∧
    (
      let c : CmdDesc := cmdW 1 0x30 (0x40000000 + (128)) (0x20010db8) 0 0 0 (47)
      let s : State := st0
      let runs := s.cmdTurn c = true ∧ cmdTable c = 1 ∧ s.lpmChanging = false
      decide (runs) && decide (cmdLen c ≤ 128) && decide (s.resultCause c.part.val c.w6 ≠ 0)) = true ∧
    (
      let c : CmdDesc := cmdW 1 0x30 (0x40000000 + (128)) (0x20010db8) 0 0 0 (53)
      let s : State := st0 |> lpmF (fun h => {h with prefixes := [(65535,px (0x20010db8*2^96) 128 1)]})
      let runs := s.cmdTurn c = true ∧ cmdTable c = 1 ∧ s.lpmChanging = false
      decide (runs) && decide (cmdLen c ≤ 128) && decide (s.resultCause c.part.val c.w6 = 0) &&
          decide ((exactPrefix s.lpm.prefixes c).isSome = true)) = true ∧
    (
      let c : CmdDesc := cmdW 1 0x30 (0x40000000 + (128)) (0x20010db8) 0 0 0 (53)
      let s : State := st0 |> lpmF (fun h => {h with prefixes := [(65535,px (0x20010db8*2^96) 128 1)]})
      let lead := s.leads c = true ∧ cmdTable c = 1 ∧ s.lpmChanging = false
      decide (lead) && decide (s.modeH = false) && decide (cmdLen c ≤ 128) && (match exactPrefix (s.prefixesOf c.part.val) c with
      | some (_, _) => decide (s.lpm.ghosts = [])
      | _ => false)) = true ∧
    (
      let c : CmdDesc := cmdW 1 0x30 (0x40000000 + (128)) (0x20010db8) 0 0 0 (53)
      let s : State := st0 |> lpmF (fun h => {h with prefixes := [(65535,px (0x20010db8*2^96) 128 1)]})
      let lead := s.leads c = true ∧ cmdTable c = 1 ∧ s.lpmChanging = false
      decide (lead) && decide (cmdLen c ≤ 128) && decide (s.resultCause c.part.val c.w6 = 0) && (match exactPrefix (s.prefixesOf c.part.val) c with
      | some (_, _) => true
      | _ => false)) = true ∧
    (
      let c : CmdDesc := cmdW 1 0x30 (0x40000000 + 512) 0 0 64 0
      let cur := bitsAt c.w2 0 20
      let s : State := st0 |> lpmF (fun h => {h with prefixes := [(65535,px (0x20010db8*2^96) 128 1)]})
      let lead := s.leads c = true ∧ cmdTable c = 1 ∧ s.lpmChanging = false
      decide (lead) && decide (unaligned c.w4 c.w5 = false) && decide (0 < bitsAt c.w1 9 9) && (let last := if s.modeH then 1048576 else 65536
      let out := ((s.prefixesOf c.part.val).filter (fun e => cur ≤ e.1)).take (min 256 (bitsAt c.w1 9 9))
      decide (cur < last) && decide (∀ e ∈ s.lpm.prefixes, e.1 < last) && decide (addr64 c.w4 c.w5 + 32 * out.length ≤ 2 ^ 64))) = true ∧
    (
      let s : State := st0 |> lpmF (fun h => {h with rebuilding := true, ghosts := [(1,2)], ghostsAt := 1})
      decide (s.lpm.rebuilding = true) && decide (s.lpm.ghosts.length = s.lpm.ghostsAt)) = true ∧
    (
      let data : Word := 1
      let s : State := st0 |> un 0
      decide (s.unlocked 0 = true) && decide (s.lpmChanging = false) && decide (bitAt data 0 ≠ s.modeH)) = true ∧
    (
      let s : State := st0 |> un 0 |> bset R.LPM_MODE F.LPM_MODE_CHANGING
      decide (s.unlocked 0 = true) && decide (s.lpmChanging = true)) = true ∧
    (
      let p : Part := 0
      let s : State := st0
      decide (s.unlocked p = false)) = true := by and_intros <;> decide +kernel

theorem test_GroupCommands_met :
    (
      let c : CmdDesc := cmd0
      let g := cmdGroup c
      let p := bitsAt c.w1 16 3
      let s : State := st0 |> panSet p
      decide (s.cmdTurn c = true) && (let x := s.group g
      decide (s.clearFor c = true) && decide (s.panOn p = true) && decide (s.panMay c.part.val p = true) && decide (x.defined = false) &&
          decide (bitAt c.w1 21 = false))) = true ∧
    (
      let c : CmdDesc := cmdW 1 0x06 (65535+7*65536) (0) (0) (0)
      let g := cmdGroup c
      let p := bitsAt c.w1 16 3
      let s : State := st0 |> panSet 7 |> sf (R.PAN_CTRL 7) F.PAN_CTRL_OWNER 1 |> cvnF (fun h => {h with groups := [(65535,grp 7 1 [])]})
      decide (s.cmdTurn c = true) && (let x := s.group g
      decide (s.panOn p = true) && decide (s.panMay c.part.val p = true) && decide (x.defined = true))) = true ∧
    (
      let c : CmdDesc := cmdW 1 0x06 (65535) (1) (5) (64)
      let dma : Dma := .ok
      let g := cmdGroup c
      let s : State := st0 |> panSet 7 |> sf (R.PAN_CTRL 7) F.PAN_CTRL_OWNER 1 |>
          cvnF (fun h => {h with groups := [(65535,grp 7 1 [4])]}) |> nodeAt 524287 7 9 |> mem1 1 [(64,524287)]
      decide (s.cmdTurn c = true) && (let x := s.group g
      decide (s.groupMay c.part.val g = true) && decide (s.groupLocked g = false) && decide (s.panOn x.pan = true) &&
          decide (unaligned c.w4 c.w5 = false) && decide (dma = .ok) && (match s.bufOrds c (groupCount c.w2 17) with
      | [o] => decide (s.addable c.part.val x x.entries o = true) && decide (x.entries.length < 524288) &&
          decide (s.poolUsed - extents x.entries.length + extents (x.entries.length + 1) ≤ 7936)
      | _ => false))) = true ∧
    (
      let c : CmdDesc := cmdW 1 0x06 (65535) (1) (5) (64)
      let dma : Dma := .ok
      let g := cmdGroup c
      let s : State := st0 |> panSet 7 |> sf (R.PAN_CTRL 7) F.PAN_CTRL_OWNER 1 |>
          cvnF (fun h => {h with groups := [(65535,grp 7 1 [4])]}) |> nodeAt 524287 7 9 |> mem1 1 [(64,4)]
      decide (s.cmdTurn c = true) && decide (s.groupMay c.part.val g = true) && decide (s.groupLocked g = false) &&
          decide (unaligned c.w4 c.w5 = false) && decide (dma = .ok) && (match s.bufOrds c (groupCount c.w2 17) with
      | [_] => true
      | _ => false)) = true ∧
    (
      let c : CmdDesc := cmdW 1 0x06 (65535) (1) (5) (64)
      let g := cmdGroup c
      let s : State := st0 |> panSet 7 |> sf (R.PAN_CTRL 7) F.PAN_CTRL_OWNER 1 |>
          cvnF (fun h => {h with groups := [(65535,grp 7 1 [4])]}) |> nodeAt 524287 7 9 |> mem1 1 [(64,524287)]
      decide (s.cmdTurn c = true) && decide (s.groupMay c.part.val g = true) && decide (s.groupLocked g = false)) = true ∧
    (
      let c : CmdDesc := cmdW 1 0x06 (65535) (1) (5) (64)
      let g := cmdGroup c
      let s : State := st0 |> panSet 7 |> sf (R.PAN_CTRL 7) F.PAN_CTRL_OWNER 1 |>
          cvnF (fun h => {h with groups := [(65535,grp 7 1 [4])]}) |> nodeAt 524287 7 9 |> mem1 1 [(64,524287)]
      decide (s.cmdTurn c = true) && decide (s.groupMay c.part.val g = true) && decide (unaligned c.w4 c.w5 = false)) = true ∧
    (
      let c : CmdDesc := cmdW 1 0x06 (65535) (1) (5) (64)
      let g := cmdGroup c
      let s : State := st0 |> panSet 7 |> sf (R.PAN_CTRL 7) F.PAN_CTRL_OWNER 1 |>
          cvnF (fun h => {h with groups := [(65535,grp 7 1 [4])]}) |> nodeAt 524287 7 9 |> mem1 1 [(64,524287)]
      decide (s.cmdTurn c = true) && decide (s.clearFor c = true) && decide (s.groupMay c.part.val g = true) &&
          decide (s.groupLocked g = false)) = true ∧
    (
      let c : CmdDesc := cmdW 1 0x06 (65535) (1) (5) (64)
      let g := cmdGroup c
      let s : State := st0 |> panSet 7 |> sf (R.PAN_CTRL 7) F.PAN_CTRL_OWNER 1 |>
          cvnF (fun h => {h with groups := [(65535,grp 7 1 [4])]}) |> nodeAt 524287 7 9 |> mem1 1 [(64,524287)] |>
              cvnF (fun h => {h with open_ := [{van with group := 65535}]})
      decide (s.cmdTurn c = true) && decide (s.groupMay c.part.val g = true) && decide (s.groupLocked g = true)) = true ∧
    (
      let c : CmdDesc := cmd0
      let g := cmdGroup c
      let s : State := st0
      decide (s.cmdTurn c = true) && decide (s.groupMay c.part.val g = false)) = true := by and_intros <;> decide +kernel

theorem test_CaravansRun_met :
    (
      let c : CmdDesc := cmd0
      let s : State := st0 |> sf R.SAFE_STATE F.SAFE_STATE_QUIET 1
      let turn := s.cmdTurn c = true
      decide (turn) && decide (s.inQuiet = true)) = true ∧
    (
      let c : CmdDesc := cmdW 1 0x38 (65535 + 0x40000) 0 0 64
      let dma : Dma := Dma.ok
      let s : State := st0
      let t0 := s.cmdTake c
      let d := t0.engineDraw
      let turn := s.cmdTurn c = true
      decide (turn) && decide (s.inQuiet = false) && (match d.2.cvnBad c dma d.1.1 d.1.2 with
      | some _ => true
      | _ => false)) = true ∧
    (
      let c : CmdDesc := cmdW 1 0x39 65535
      let s : State := st0 |> panSet 7 |> sf (R.PAN_CTRL 7) F.PAN_CTRL_OWNER 1 |>
          cvnF (fun h => {h with groups := [(65535,grp 7 1 [4])]}) |> nodeAt 4 7 9
      decide (s.leads c = true) && decide ((s.group (cmdGroup c)).defined = true) && decide ((s.group (cmdGroup c)).owner = c.part.val) &&
          decide (s.cvn.open_ = []) && decide (s.cvn.waiting = [])) = true ∧
    (
      let c : CmdDesc := cmd0
      let s : State := st0
      let turn := s.cmdTurn c = true
      decide (turn) && decide ((s.group (cmdGroup c)).defined = false)) = true ∧
    (
      let cid : BitVec 16 := 65535
      let s : State := st0 |> panSet 7 |> sf (R.PAN_CTRL 7) F.PAN_CTRL_OWNER 1 |>
          cvnF (fun h => {h with groups := [(65535,grp 7 1 [4])]}) |> nodeAt 4 7 9 |>
              cvnF (fun h => {h with open_ := [{van with phase := 1, mode := 0}]})
      match s.cvnOf cid.toNat with
      | some v => decide (v.phase = 1) && decide (v.mode = 0)
      | _ => false) = true ∧
    (
      let cid : BitVec 16 := 65535
      let s : State := st0 |> panSet 7 |> sf (R.PAN_CTRL 7) F.PAN_CTRL_OWNER 1 |>
          cvnF (fun h => {h with groups := [(65535,grp 7 1 [4])]}) |> nodeAt 4 7 9 |> cvnF (fun h => {h with open_ := [van]})
      match s.cvnOf cid.toNat with
      | some v => decide (v.phase = 3) && decide (v.round < v.rounds)
      | _ => false) = true ∧
    (
      let cid : BitVec 16 := 65535
      let s : State := st0 |> panSet 7 |> sf (R.PAN_CTRL 7) F.PAN_CTRL_OWNER 1 |>
          cvnF (fun h => {h with groups := [(65535,grp 7 1 [4])]}) |> nodeAt 4 7 9 |> cvnF (fun h => {h with open_ := [{van with expiry := 5}]})
      match s.cvnOf cid.toNat with
      | some v => decide (v.expiry ≠ 0)
      | _ => false) = true ∧
    (
      let cid : BitVec 16 := 65535
      let s : State := st0 |> panSet 7 |> sf (R.PAN_CTRL 7) F.PAN_CTRL_OWNER 1 |>
          cvnF (fun h => {h with groups := [(65535,grp 7 1 [4])]}) |> nodeAt 4 7 9 |>
              cvnF (fun h => {h with open_ := [{van with phase := 2, toSend := [3,4]}]})
      match s.cvnOf cid.toNat with
      | some v => (match v.toSend with
      | o :: _ => decide (v.phase = 2) && decide (v.inFlight.length < s.sweepMax) && decide (v.pending.contains o = false)
      | _ => false)
      | _ => false) = true ∧
    (
      let cid : BitVec 16 := 65535
      let s : State := st0 |> panSet 7 |> sf (R.PAN_CTRL 7) F.PAN_CTRL_OWNER 1 |>
          cvnF (fun h => {h with groups := [(65535,grp 7 1 [4])]}) |> nodeAt 4 7 9 |>
              cvnF (fun h => {h with open_ := [{van with phase := 2, toSend := [4]}]})
      match s.cvnOf cid.toNat with
      | some v => (match v.toSend with
      | o :: _ => decide (v.phase = 2) && decide (v.inFlight.length < s.sweepMax) && decide (v.pending.contains o = true)
      | _ => false)
      | _ => false) = true ∧
    (
      let cid : BitVec 16 := 0
      let s : State := st0
      decide (s.cvnOf cid.toNat = none)) = true ∧
    (
      let cid : BitVec 16 := 65535
      let p : Part := 1
      let s : State := st0 |> cvnF (fun h => {h with waiting := [⟨cmdW 1 0x38 65535,[],1000000000000⟩]})
      match s.cvn.waiting.find? (fun w => cmdGroup w.cmd = cid.toNat && w.cmd.part = p) with
      | some _ => true
      | _ => false) = true ∧
    (
      let s : State := st0
      decide (s.cvn.waiting = [])) = true ∧
    (
      let cid : BitVec 16 := 65535
      let s : State := st0 |> (fun s => {s with cvnIds := {s.cvnIds with quar := [(65535,(9,2,2))]}})
      decide ((aget (0, 0, 0) cid.toNat s.cvnIds.quar).2.2 ≠ 0) && decide ((aget (0, 0, 0) cid.toNat s.cvnIds.quar).2.2 ≤ s.citySec + 2)) = true ∧
    (
      let cid : BitVec 16 := 0
      let s : State := st0
      decide ((aget (0, 0, 0) cid.toNat s.cvnIds.quar).2.2 = 0)) = true := by and_intros <;> decide +kernel

theorem test_ImageSessionsRun_met :
    (
      let c : CmdDesc := cmd0
      let s : State := st0 |> sf R.SAFE_STATE F.SAFE_STATE_QUIET 1
      let turn := s.cmdTurn c = true
      decide (turn) && decide (s.inQuiet = true)) = true ∧
    (
      let c : CmdDesc := cmdW 1 0x3C (3 + 2*256 + 65535*65536) (3000 + 2^25) 7 64
      let i := bitsAt c.w1 0 2
      let s : State := st0 |> cvnF (fun h => {h with sess := [(3,{img1 with round := 0})]})
      let turn := s.cmdTurn c = true
      decide (turn) && decide (s.inQuiet = false) && decide ((s.sess i).isSome = true)) = true ∧
    (
      let c : CmdDesc := cmd0
      let dma : Dma := Dma.ok
      let s : State := st0
      let t0 := s.cmdTake c
      let d := t0.engineDraw
      let turn := s.cmdTurn c = true
      decide (turn) && decide (s.inQuiet = false) && (match d.2.imgBad c dma d.1.1 d.1.2 with
      | some _ => true
      | _ => false)) = true ∧
    (
      let c : CmdDesc := cmdW 2 0x3C (3 + 2*256 + 65535*65536) (3000 + 2^25) 7 64
      let i := bitsAt c.w1 0 2
      let s : State := st0 |> cvnF (fun h => {h with sess := [(3,{img1 with round := 0})]})
      let turn := s.cmdTurn c = true
      decide (turn) && (match s.sess i with
      | some x => decide (c.part ≠ 0) && decide (c.part ≠ x.cmd.part)
      | _ => false)) = true ∧
    (
      let c : CmdDesc := cmdW 1 0x3C (3 + 2*256 + 65535*65536) (3000 + 2^25) 7 64
      let i := bitsAt c.w1 0 2
      let s : State := st0 |> cvnF (fun h => {h with sess := [(3,{img1 with round := 0})]})
      let turn := s.cmdTurn c = true
      decide (turn) && (match s.sess i with
      | some x => decide (c.part = 0 ∨ c.part = x.cmd.part)
      | _ => false)) = true ∧
    (
      let j : Fin 4 := 3
      let s : State := st0 |> panSet 7 |> sf (R.PAN_CTRL 7) F.PAN_CTRL_OWNER 1 |>
          cvnF (fun h => {h with groups := [(65535,grp 7 1 [4])]}) |> nodeAt 4 7 9 |> cvnF (fun h => {h with sess := [(3,{img1 with round := 0})]})
      match s.sess j.val with
      | some x => decide (x.state = 1)
      | _ => false) = true ∧
    (
      let j : Fin 4 := 3
      let s : State := st0 |> panSet 7 |> sf (R.PAN_CTRL 7) F.PAN_CTRL_OWNER 1 |>
          cvnF (fun h => {h with groups := [(65535,grp 7 1 [4])]}) |> nodeAt 4 7 9 |>
              cvnF (fun h => {h with sess := [(3,{img1 with state := 2, toSend := [(0,0,none),(1,0,none)]})]})
      match s.sess j.val with
      | some x => (match x.toSend with
      | (_, _, _) :: rest => decide (rest ≠ [])
      | _ => false)
      | _ => false) = true ∧
    (
      let j : Fin 4 := 3
      let s : State := st0 |> panSet 7 |> sf (R.PAN_CTRL 7) F.PAN_CTRL_OWNER 1 |>
          cvnF (fun h => {h with groups := [(65535,grp 7 1 [4])]}) |> nodeAt 4 7 9 |> cvnF (fun h => {h with sess := [(3,{img1 with state := 2})]})
      match s.sess j.val with
      | some x => decide (x.toSend = [])
      | _ => false) = true ∧
    (
      let j : Fin 4 := 3
      let s : State := st0 |> panSet 7 |> sf (R.PAN_CTRL 7) F.PAN_CTRL_OWNER 1 |>
          cvnF (fun h => {h with groups := [(65535,grp 7 1 [4])]}) |> nodeAt 4 7 9 |>
              cvnF (fun h => {h with sess := [(3,{img1 with state := 2, round := 3, reports := [(4,[(0,1)])]})]})
      match s.sess j.val with
      | some x => decide (2 ≤ x.state) && decide (x.toSend = []) && decide (x.needs = [] ∨ x.rounds ≤ x.round)
      | _ => false) = true ∧
    (
      let j : Fin 4 := 3
      let s : State := st0 |> panSet 7 |> sf (R.PAN_CTRL 7) F.PAN_CTRL_OWNER 1 |>
          cvnF (fun h => {h with groups := [(65535,grp 7 1 [4])]}) |> nodeAt 4 7 9 |>
              cvnF (fun h => {h with sess := [(3,{img1 with state := 2, round := 1, reports := [(4,[(0,1)])]})]})
      match s.sess j.val with
      | some x => decide (2 ≤ x.state) && decide (x.toSend = []) && decide (x.needs ≠ []) && decide (x.round < x.rounds)
      | _ => false) = true ∧
    (
      let j : Fin 4 := 0
      let s : State := st0
      decide (s.sess j.val = none)) = true := by and_intros <;> decide +kernel

theorem test_QuietIsEnteredAndLeft_met :
    (
      let c : CmdDesc := cmdW 1 0x1F (0)
      let s : State := st0
      let turn := s.cmdTurn c = true
      decide (turn) && decide (c.part.val ≠ 0)) = true ∧
    (
      let c : CmdDesc := cmd0
      let s : State := st0
      let turn := s.cmdTurn c = true
      decide (turn) && decide (c.part.val = 0) && decide (s.inQuiet = false)) = true ∧
    (
      let c : CmdDesc := cmdW 0 0x1F (5)
      let s : State := st0 |> sf R.SAFE_STATE F.SAFE_STATE_QUIET 1 |> bset R.SAFE_STATE F.SAFE_STATE_QUIET |> sf R.SAFE_CAUSE F.SAFE_CAUSE_LATCHED 8
      let latched := s.fld R.SAFE_CAUSE F.SAFE_CAUSE_LATCHED
      let turn := s.cmdTurn c = true
      decide (turn) && decide (c.part.val = 0) && decide (s.inQuiet = true) && decide (bitsAt c.w1 0 16 ≠ latched)) = true ∧
    (
      let c : CmdDesc := cmdW 0 0x1F (8)
      let s : State := st0 |> sf R.SAFE_STATE F.SAFE_STATE_QUIET 1 |> bset R.SAFE_STATE F.SAFE_STATE_QUIET |>
          sf R.SAFE_CAUSE F.SAFE_CAUSE_LATCHED 8 |> sf R.SAFE_CAUSE F.SAFE_CAUSE_LIVE 8
      let latched := s.fld R.SAFE_CAUSE F.SAFE_CAUSE_LATCHED
      let live := s.fld R.SAFE_CAUSE F.SAFE_CAUSE_LIVE
      let turn := s.cmdTurn c = true
      decide (turn) && decide (c.part.val = 0) && decide (s.inQuiet = true) && decide (bitsAt c.w1 0 16 = latched) && decide (live ≠ 0)) = true ∧
    (
      let c : CmdDesc := cmd0
      let s : State := st0 |> sf R.SAFE_STATE F.SAFE_STATE_QUIET 1
      let latched := s.fld R.SAFE_CAUSE F.SAFE_CAUSE_LATCHED
      let live := s.fld R.SAFE_CAUSE F.SAFE_CAUSE_LIVE
      decide (s.leads c = true) && decide (c.part.val = 0) && decide (s.inQuiet = true) && decide (bitsAt c.w1 0 16 = latched) &&
          decide (live = 0) && decide (s.log.bad = [])) = true ∧
    (
      let s : State := st0 |> bset R.SAFE_STATE F.SAFE_STATE_QUIET |> sf R.SAFE_ESC F.SAFE_ESC_ESC_S 3 |>
          (fun s => {s with safe := {s.safe with liveSince := some 1000000000000}})
      match s.safe.liveSince with
      | some _ => decide (s.escS ≠ 0) && decide (s.inQuiet = true)
      | _ => false) = true ∧
    (
      let s : State := st0
      decide (s.safe.liveSince = none ∨ s.escS = 0 ∨ s.inQuiet = false)) = true ∧
    (
      let data : Word := 1
      let s : State := st0 |> un 0
      let live := s.fld R.SAFE_CAUSE F.SAFE_CAUSE_LIVE
      decide (s.unlocked 0 = true) && decide (bitAt data 0 = true) && decide (nbit live 13 = false) && decide (s.cvn.open_ = []) &&
          decide (s.cvn.sess = []) && decide (s.log.bad = [])) = true ∧
    (
      let data : Word := 0
      let s : State := st0 |> un 0
      decide (s.unlocked 0 = true) && decide (bitAt data 0 = false)) = true ∧
    (
      let p : Part := 3
      let s : State := st0 |> un p
      decide (s.unlocked p = true) && decide (p.val ≠ 0)) = true ∧
    (
      let p : Part := 0
      let s : State := st0
      decide (s.unlocked p = false)) = true ∧
    (
      let a : Fin 4 := 0
      let txen : Bool := false
      let dac : Bool := false
      let s : State := st0
      decide (s.outputAllowed a txen dac = true)) = true ∧
    (
      let a : Fin 4 := 0
      let txen : Bool := true
      let dac : Bool := true
      let s : State := st0 |> sf R.SAFE_STATE F.SAFE_STATE_QUIET 1
      decide (s.outputAllowed a txen dac = false) && decide (s.inQuiet = true)) = true ∧
    (
      let a : Fin 4 := 0
      let txen : Bool := true
      let dac : Bool := true
      let s : State := st0
      decide (s.outputAllowed a txen dac = false) && decide (s.inQuiet = false)) = true ∧
    (
      let s : State := st0 |> (fun s => { s with air := [] })
      decide (s.air = [])) = true ∧
    (
      let id : Nat := 4
      let u  := {tx1 with kind := 1}
      let s : State := st0 |> putT {tx1 with kind := 1}
      decide (s.air = [u]) && decide (u.id = id) && decide (u.kind = 1) && decide (u.ended = false) && decide (u.cut = false)) = true ∧
    (
      let lock : Bool := true
      let k3 : Int := 0
      let k4 : Int := 0
      let s : State := st0 |> (fun s => { s with safe := { s.safe with clockGoodSince := some 0 } })
      decide (clockGood lock k3 k4 = true) && (match s.safe.clockGoodSince with
      | some u => decide (u + sec 1 ≤ s.now)
      | _ => false)) = true ∧
    (
      let lock : Bool := true
      let k3 : Int := 0
      let k4 : Int := 0
      let s : State := st0
      decide (clockGood lock k3 k4 = true) && decide (s.safe.clockGoodSince = none)) = true ∧
    (
      let lock : Bool := false
      let k3 : Int := 0
      let k4 : Int := 0
      decide (lock = false ∨ 20000 < k3.natAbs ∨ 20000 < k4.natAbs)) = true ∧
    (
      let ppm : Nat := 2001
      let s : State := st0 |> sf R.SLOT_CTRL F.SLOT_CTRL_RUNNING 1 |> sf R.SLOT_CTRL F.SLOT_CTRL_RUNNING 1
      decide (s.running = true) && decide (2000 < ppm)) = true ∧
    (
      let ppm : Nat := 0
      let s : State := st0
      decide (s.running = false ∨ ppm ≤ 2000)) = true := by and_intros <;> decide +kernel

theorem test_PairsMemoriesAndLogs_1_met :
    (
      let i : Fin 4 := 3
      let s : State := st0 |> (fun s => { s with cmds := [] })
      decide (i ≠ 0) && decide (s.cmds = []) && decide (s.log.bad = [])) = true ∧
    (
      let c : CmdDesc := cmdW 1 0x21 0
      let i : Fin 4 := 1
      let s : State := st0 |> (fun s => {s with cmds := [cmdW 1 0x21 0]})
      decide (i ≠ 0) && decide (s.cmds = [c]) && decide (pairOf (c.w0.toNat % 256) = i.val) && decide (s.clearFor c = true) &&
          decide (s.log.bad = [])) = true ∧
    (
      let i : Fin 4 := 3
      let s : State := st0 |> (fun s => { s with cmds := [] })
      decide (i ≠ 0) && decide (s.cmds = []) && decide (s.log.bad = [])) = true ∧
    (
      let i : Fin 4 := 3
      let s : State := st0 |> (fun s => { s with cmds := [] })
      decide (i ≠ 0) && decide (s.cmds = []) && decide (s.log.bad = [])) = true ∧
    (
      let s : State := st0
      decide (s.pwr.resetCode = none)) = true ∧
    (
      let i : Fin 4 := 3
      let s : State := st0 |> (fun s => {s with safe := {s.safe with restarting := [3]}})
      decide (s.safe.restarting.contains i.val = true)) = true ∧
    (
      let i : Fin 4 := 0
      let s : State := st0
      decide (s.safe.restarting.contains i.val = false)) = true ∧
    (
      let s : State := st0
      decide (s.log.bad = [])) = true := by and_intros <;> decide +kernel

theorem test_PairsMemoriesAndLogs_2_met :
    (
      let s : State := st0
      decide (s.log.frozen = false) && decide (s.log.draining = false)) = true ∧
    (
      let s : State := st0 |> (fun s => {s with log := {s.log with frozen := true}})
      decide (s.log.frozen = true ∨ s.log.draining = true)) = true ∧
    (
      let p : Part := 3
      decide (p.val ≠ 0)) = true ∧
    (
      let s : State := st0 |> (fun s => { s with log := { s.log with frozen := true } }) |> (fun s => { s with log := { s.log with lostCount := 0 } })
      decide (s.log.frozen = true) && decide (s.log.lostCount = 0) && decide (s.log.bad = [])) = true ∧
    (
      let s : State := st0 |> (fun s => { s with log := { s.log with frozen := true } }) |> (fun s => { s with log := { s.log with lostCount := 0 } })
      decide (s.log.frozen = true) && decide (s.log.lostCount = 0) && decide (s.log.bad = [])) = true ∧
    (
      let s : State := st0
      decide (s.log.frozen = false)) = true ∧
    (
      let s : State := st0 |> (fun s => { s with log := { s.log with draining := true } })
      decide (s.log.draining = true) && decide (s.log.bad = [])) = true ∧
    (
      let s : State := st0
      decide (s.log.draining = false)) = true := by and_intros <;> decide +kernel

theorem test_ClustersAndArraysAreTested_met :
    (
      let c : Fin 16 := 15
      let s : State := st0 |> sf R.LANE_STATE F.LANE_STATE_FAILED 0x8000
      decide (s.clusterOut c = true)) = true ∧
    (
      let c : Fin 16 := 0
      let s : State := st0 |> sf R.SAFE_CTRL F.SAFE_CTRL_YARROW_CONT 1
      decide (s.clusterOut c = false) && decide (s.rx.lanes = []) && decide (s.log.bad = []) && decide (s.rx.closing = none) &&
          decide (s.flag R.SAFE_CTRL F.SAFE_CTRL_YARROW_CONT = true)) = true ∧
    (
      let s : State := st0 |> bset R.SAFE_YARROW F.SAFE_YARROW_ACTIVE
      let active := s.flag R.SAFE_YARROW F.SAFE_YARROW_ACTIVE
      decide (active = true)) = true ∧
    (
      let c : Fin 16 := 0
      let s : State := st0 |> sf R.SAFE_YARROW F.SAFE_YARROW_PAUSED 0 |> (fun s => { s with safe := { s.safe with turn := [c.val] } })
      let active := s.flag R.SAFE_YARROW F.SAFE_YARROW_ACTIVE
      decide (active = false) && decide (s.flag R.SAFE_YARROW F.SAFE_YARROW_PAUSED = false) &&
          decide (s.safe.restarting.contains 3 = false) && decide (s.safe.turn = [c.val]) &&
              decide (nbit (s.fld R.LANE_STATE F.LANE_STATE_FAILED) c = false) && decide (s.bistRegion ≠ some c.val) &&
                  decide (s.bist.closing ≠ some c.val) && decide (s.rx.lanes = [])) = true ∧
    (
      let sig : BitVec 128 := 0
      let s : State := st0 |> bset R.SAFE_YARROW F.SAFE_YARROW_ACTIVE |> sf R.SAFE_YARROW F.SAFE_YARROW_CLUSTER 15 |>
          (fun s => {s with boot := {s.boot with mode := 3, staging := ramImg}})
      let active := s.flag R.SAFE_YARROW F.SAFE_YARROW_ACTIVE
      decide (active = true) && decide (s.safe.restarting.contains 3 = false) &&
          decide (s.bistGood (s.fld R.SAFE_YARROW F.SAFE_YARROW_CLUSTER) 3 sig = true)) = true ∧
    (
      let sig : BitVec 128 := 0x1234
      let s : State := st0 |> bset R.SAFE_YARROW F.SAFE_YARROW_ACTIVE |> sf R.SAFE_YARROW F.SAFE_YARROW_CLUSTER 15 |>
          (fun s => {s with boot := {s.boot with mode := 3, staging := ramImg}})
      let active := s.flag R.SAFE_YARROW F.SAFE_YARROW_ACTIVE
      decide (active = true) && decide (s.safe.restarting.contains 3 = false) &&
          decide (s.bistGood (s.fld R.SAFE_YARROW F.SAFE_YARROW_CLUSTER) 3 sig = false) && decide (s.log.bad = [])) = true ∧
    (
      let s : State := st0
      let active := s.flag R.SAFE_YARROW F.SAFE_YARROW_ACTIVE
      decide (active = false ∨ s.safe.restarting.contains 3 = true)) = true ∧
    (
      let s : State := st0 |> bset R.SAFE_YARROW F.SAFE_YARROW_ACTIVE |> sf R.SAFE_YARROW F.SAFE_YARROW_CLUSTER 15 |> setEngSt 1 1
      let active := s.flag R.SAFE_YARROW F.SAFE_YARROW_ACTIVE
      decide (active = true) && decide (s.safe.restarting.contains 3 = false) && decide (s.engState (1 - s.primary) = 1) &&
          decide (s.log.bad = [])) = true ∧
    (
      let s : State := st0 |> bset R.SAFE_YARROW F.SAFE_YARROW_ACTIVE |> sf R.SAFE_YARROW F.SAFE_YARROW_CLUSTER 15 |> setEngSt 1 1
      let active := s.flag R.SAFE_YARROW F.SAFE_YARROW_ACTIVE
      decide (active = true) && decide (s.safe.restarting.contains 3 = false) && decide (s.engState (1 - s.primary) = 1) &&
          decide (s.log.bad = [])) = true ∧
    (
      let a : Fin 4 := 0
      let s : State := st0
      decide (s.droverOn a = false ∨ s.calibrating a = true ∨ s.pwr.hush = true ∨ 3 ≤ s.pwrState ∨ s.droverMax ≤ (s.droverSt a).attempts)) = true ∧
    (
      let a : Fin 4 := 3
      let s : State := st0 |> site |> lpSet |> bset (R.SAFE_DROVER 3) F.SAFE_DROVER_EN |> sf (R.SAFE_DROVER 3) F.SAFE_DROVER_LP 8191 |> ln1 (ln 3)
      let due := s.advanceTo (s.droverDue (s.droverSt a).attempts)
      decide (s.droverOn a = true) && decide (s.calibrating a = false) && decide (s.pwr.hush = false) && decide (s.pwrState < 3) &&
          decide ((s.droverSt a).attempts < s.droverMax) && decide (s.inQuiet = false) && decide (due.droverTxFree a = false)) = true ∧
    (
      let a : Fin 4 := 3
      let s : State := st0 |> site |> lpSet |> bset (R.SAFE_DROVER 3) F.SAFE_DROVER_EN |> sf (R.SAFE_DROVER 3) F.SAFE_DROVER_LP 8191 |>
          bset R.SAFE_STATE F.SAFE_STATE_QUIET
      let due := s.advanceTo (s.droverDue (s.droverSt a).attempts)
      decide (s.droverOn a = true) && decide (s.calibrating a = false) && decide (s.pwr.hush = false) && decide (s.pwrState < 3) &&
          decide ((s.droverSt a).attempts < s.droverMax) && decide (s.inQuiet = true ∨ due.droverTxFree a = true) &&
              decide ((due.droverDone a).cellsOk 1 false = true) && decide ((due.droverDone a).queueRefuses (qDrover a) 1 false = none)) = true ∧
    (
      let s : State := st0
      decide (∀ b : Fin 4, s.droverOn b = false)) = true ∧
    (
      let a : Fin 4 := 3
      let s : State := st0 |> site |> lpSet |> bset (R.SAFE_DROVER 3) F.SAFE_DROVER_EN |> sf (R.SAFE_DROVER 3) F.SAFE_DROVER_LP 8191 |>
          (fun s => {s with safe := {s.safe with drover := [(3,{seq := 7, passed := true})]}})
      decide (s.droverOn a = true) && decide ((s.droverSt a).passed = true) && decide ((s.queue (qDrover a)).frames = []) &&
          decide (∀ b : Fin 4, b ≠ a → s.droverOn b = false)) = true := by and_intros <;> decide +kernel

theorem test_PowerStatesMove_met :
    (
      let p : Part := 0
      let s : State := st0
      decide (s.unlocked p = false)) = true ∧
    (
      let p : Part := 3
      let s : State := st0 |> un p
      decide (s.unlocked p = true) && decide (p.val ≠ 0)) = true ∧
    (
      let data : Word := 0xFFFFFFFF
      let st := fget F.PWR_FORCE_STATE data
      let s : State := st0 |> un 0
      decide (s.unlocked 0 = true) && decide (bitAt data 0 = true) &&
          decide (5 ≤ st ∨ (3 ≤ st ∧ s.flag R.PWR_PERMIT F.PWR_PERMIT_PERMIT_DEEP = false))) = true ∧
    (
      let data : Word := 0
      let st := fget F.PWR_FORCE_STATE data
      let s : State := st0 |> un 0
      decide (s.unlocked 0 = true) &&
          decide (bitAt data 0 = false ∨ st < 3 ∨ (st < 5 ∧ s.flag R.PWR_PERMIT F.PWR_PERMIT_PERMIT_DEEP = true))) = true ∧
    (
      let c : Fin 16 := 15
      let s : State := st0 |> (fun s => {s with pwr := {s.pwr with ungating := [15], gated := [15], ungateAt := 1000000000777}})
      decide (s.pwr.ungating.contains c.val = true)) = true ∧
    (
      let c : Fin 16 := 0
      let s : State := st0
      decide (s.pwr.ungating.contains c.val = false)) = true ∧
    (
      let s : State := st0 |> wrs (R.PWR_LAT_TOL 0) 100000 |> wrs (R.PWR_LAT_TOL 1) 100000 |> wrs (R.PWR_LAT_TOL 2) 100000 |>
          wrs (R.PWR_LAT_TOL 3) 100000 |> bset R.PWR_PERMIT F.PWR_PERMIT_PERMIT_DEEP |> (fun s => {s with pwr := {s.pwr with deeper := none}})
      decide (s.idleNow = true) && decide (s.pwrState < 3)) = true ∧
    (
      let s : State := st0 |> wrs (R.PWR_LAT_TOL 0) 100000 |> wrs (R.PWR_LAT_TOL 1) 100000 |> wrs (R.PWR_LAT_TOL 2) 100000 |>
          wrs (R.PWR_LAT_TOL 3) 100000 |> bset R.PWR_PERMIT F.PWR_PERMIT_PERMIT_DEEP |> (fun s => {s with pwr := {s.pwr with deeper := none}})
      decide (s.idleNow = true) && decide (s.pwrState < 3) && decide (s.pwr.hush = false) && decide (s.running = false) &&
          decide (3 ≤ s.pwrTarget true) && decide (s.pwrTarget true < 5)) = true ∧
    (
      let s : State := st0 |> wrs (R.PWR_LAT_TOL 0) 100000 |> wrs (R.PWR_LAT_TOL 1) 100000 |> wrs (R.PWR_LAT_TOL 2) 100000 |>
          wrs (R.PWR_LAT_TOL 3) 100000 |> bset R.PWR_PERMIT F.PWR_PERMIT_PERMIT_DEEP |>
              (fun s => {s with pwr := {s.pwr with deeper := none}}) |> bset R.SLOT_CTRL F.SLOT_CTRL_RUNNING
      decide (s.idleNow = true) && decide (s.pwrState < 3) && decide (s.pwr.hush = false) && decide (s.running = true) &&
          decide (3 ≤ s.pwrTarget true)) = true ∧
    (
      let s : State := st0 |> sf R.PWR_STATE F.PWR_STATE_STATE 3
      decide (s.idleNow = false ∨ 3 ≤ s.pwrState)) = true ∧
    (
      let x  := (1,3,2,5,1000000000000)
      let s : State := st0 |> sf R.PWR_STATE F.PWR_STATE_STATE 3 |> (fun s => {s with pwr := {s.pwr with exiting := some (1,3,2,5,1000000000000)}})
      decide (s.pwr.exiting = some x) && decide (s.pwr.hush = false)) = true ∧
    (
      let x  := (1,3,2,5,1000000000000)
      let s : State := st0 |> sf R.PWR_STATE F.PWR_STATE_STATE 3 |> (fun s => {s with pwr := {s.pwr with exiting := some (1,3,2,5,1000000000000)}})
      decide (s.pwr.exiting = some x) && decide (s.pwr.hush = false) && decide (x.1 ≠ s.pwrState) && decide (x.1 < 5)) = true ∧
    (
      let s : State := st0
      decide (s.pwr.exiting = none ∨ s.pwr.hush = true)) = true ∧
    (
      let s : State := st0 |> (fun s => { s with pwr := { s.pwr with entering := true } }) |> sf R.PWR_STATE F.PWR_STATE_STATE 3
      decide (s.pwr.entering = true) && decide (s.pwrState = 3) && decide (s.pwr.wakeDuring = none)) = true ∧
    (
      let w  := (2,5)
      let s : State := st0 |> sf R.PWR_STATE F.PWR_STATE_STATE 3 |> (fun s => {s with pwr := {s.pwr with entering := true, wakeDuring := some (2,5)}})
      decide (s.pwr.entering = true) && decide (s.pwrState = 3) && decide (s.pwr.hush = false) && decide (s.pwr.exiting = none) &&
          decide (s.pwr.wakeDuring = some w)) = true ∧
    (
      let s : State := st0
      decide (s.pwr.entering = false)) = true ∧
    (
      let n : Nat := 64
      let s : State := st0 |> sf R.PWR_WAKE_CFG F.PWR_WAKE_CFG_WAKE_EN 1
      decide (2 ≤ n) && decide (s.flag R.PWR_WAKE_CFG F.PWR_WAKE_CFG_WAKE_EN = true)) = true ∧
    (
      let n : Nat := 0
      let s : State := st0
      decide (n < 2 ∨ s.flag R.PWR_WAKE_CFG F.PWR_WAKE_CFG_WAKE_EN = false)) = true ∧
    (
      let s : State := st0
      decide (s.pwr.vaultOff = false) && decide (s.pwr.vaultEntry = none)) = true ∧
    (
      let s : State := st0 |> (fun s => {s with pwr := {s.pwr with vaultOff := true}})
      decide (s.pwr.vaultOff = true ∨ s.pwr.vaultEntry.isSome = true)) = true ∧
    (
      let s : State := st0 |> wrs R.PWR_ALARM_S 0xFFFFFFF0
      decide (s.rtc ≤ (s.rd R.PWR_ALARM_S).toNat)) = true ∧
    (
      let s : State := st0 |> wrs R.PWR_RTC_S 9
      decide ((s.rd R.PWR_ALARM_S).toNat < s.rtc)) = true := by and_intros <;> decide +kernel

theorem test_SavesAndHoldup_met :
    (
      let s : State := st0
      decide (s.pwr.holdup = false)) = true ∧
    (
      let s : State := st0 |> (fun s => { s with pwr := { s.pwr with holdup := true } })
      decide (s.pwr.holdup = true)) = true ∧
    (
      let s : State := st0 |> (fun s => { s with pwr := { s.pwr with vaultEntry := some 0 } })
      match s.pwr.vaultEntry with
      | some _ => decide (s.save.active = none) && decide (s.pwr.vaultOff = false)
      | _ => false) = true ∧
    (
      let s : State := st0
      decide (s.pwr.vaultEntry = none ∨ s.save.active.isSome = true)) = true ∧
    (
      let s : State := st0 |> (fun s => { s with save := { s.save with active := some 0 } })
      decide (s.save.active.isSome = true) && (let s1 := s.saveItems
      decide (s1.pwr.resetCode = none) && decide (s1.pwr.vaultEntry = none ∨ s1.pwr.holdup = true))) = true ∧
    (
      let s : State := st0 |> (fun s => {s with save := {s.save with active := some 5, busy := true}}) |>
          (fun s => {s with pwr := {s.pwr with vaultEntry := some 5}})
      decide (s.save.active.isSome = true) && (let s1 := s.saveItems
      decide (s1.pwr.resetCode = none) && decide (s1.pwr.vaultEntry.isSome = true) && decide (s1.pwr.holdup = false) &&
          decide (s1.pwr.vaultOff = false))) = true ∧
    (
      let s : State := st0 |> (fun s => { s with save := { s.save with active := some 0 } })
      decide (s.save.active.isSome = true) && decide (s.pwr.resetCode = none) && decide (s.pwr.vaultEntry = none)) = true ∧
    (
      let s : State := st0
      decide (s.save.active = none)) = true ∧
    (
      let s : State := st0 |> (fun s => { s with save := { s.save with active := some 0 } })
      decide (s.save.active.isSome = true)) = true ∧
    (
      let r  := [1,2,3,4,5,6,7,8]
      let s : State := st0 |> (fun s => {s with log := {s.log with bad := [1]}})
      decide ((s.ledgerStore r).2 = false) && decide (nbit (s.fld R.SAFE_CAUSE F.SAFE_CAUSE_LIVE) 9 = false) &&
          decide (s.cvn.open_ = []) && decide (s.cvn.sess = [])) = true ∧
    (
      let s : State := st0 |> (fun s => { s with pwr := { s.pwr with holdup := true } }) |> (fun s => { s with save := { s.save with ok := true } })
      decide (s.pwr.holdup = true) && decide (s.save.active = none) && decide (s.pwr.supplyLeft = false) && decide (s.save.ok = true)) = true ∧
    (
      let s : State := st0 |> (fun s => { s with pwr := { s.pwr with holdup := true } })
      decide (s.pwr.holdup = true) && decide (s.save.active = none) && decide (s.pwr.supplyLeft = false) && decide (s.save.ok = false)) = true ∧
    (
      let s : State := st0 |> (fun s => { s with pwr := { s.pwr with holdup := true } }) |>
          (fun s => { s with save := { s.save with active := some 0 } })
      decide (s.pwr.holdup = true) && decide (s.save.active.isSome = true)) = true ∧
    (
      let s : State := st0 |> (fun s => { s with pwr := { s.pwr with holdup := true } }) |>
          (fun s => { s with pwr := { s.pwr with supplyLeft := true } })
      decide (s.pwr.holdup = true) && decide (s.save.active = none) && decide (s.pwr.supplyLeft = true)) = true ∧
    (
      let s : State := st0
      decide (s.pwr.holdup = false)) = true ∧
    (
      let s : State := st0 |> (fun s => { s with pwr := { s.pwr with fHeld := true } })
      decide (s.pwr.fHeld = true)) = true ∧
    (
      let s : State := st0
      decide (s.pwr.fHeld = false)) = true := by and_intros <;> decide +kernel

theorem test_DiesAreReset_met :
    (
      let s : State := st0 |> (fun s => { s with pwr := { s.pwr with fHeld := true } })
      decide (s.pwr.fHeld = true) && decide (s.pwr.vaultOff = false) && decide (s.save.active = none)) = true ∧
    (
      let s : State := st0
      decide (s.pwr.fHeld = false ∨ s.pwr.vaultOff = true ∨ s.save.active.isSome = true)) = true ∧
    (
      let s : State := st0 |> (fun s => {s with pwr := {s.pwr with hHeld := true, fHeld := true}, boot := {s.boot with mode := 0}})
      decide (s.canon = true) && decide (s.pwr.hHeld = true) && decide (s.pwr.vaultOff = false) && decide (s.fwRuns = false)) = true ∧
    (
      let s : State := st0
      decide (s.pwr.hHeld = false ∨ s.pwr.vaultOff = true)) = true ∧
    (
      let s : State := st0
      decide (s.pwr.fHeld = false)) = true ∧
    (
      let s : State := st0 |> (fun s => { s with pwr := { s.pwr with fHeld := true } })
      decide (s.pwr.fHeld = true)) = true ∧
    (
      let s : State := st0
      decide (s.pwr.hHeld = false)) = true ∧
    (
      let s : State := st0 |> (fun s => {s with boot := {s.boot with mode := 0}})
      decide (s.pwr.hHeld = false) && decide (s.cvn.open_ = []) && decide (s.cvn.sess = []) && decide (s.fwRuns = false)) = true ∧
    (
      let s : State := st0 |> (fun s => { s with pwr := { s.pwr with hHeld := true } })
      decide (s.pwr.hHeld = true)) = true ∧
    (
      let data : Word := 0x80000001
      let s : State := st0 |> un 0
      decide (s.unlocked 0 = true) && decide (bitAt data 1 = false) && decide (bitAt data 0 = true) && decide (s.pwr.resetCode = none)) = true ∧
    (
      let s : State := st0 |> un 0
      decide (s.unlocked 0 = true) && decide (s.pwr.resetCode = none)) = true ∧
    (
      let s : State := st0 |> un 0 |> (fun s => { s with pwr := { s.pwr with resetCode := some 5 } })
      decide (s.unlocked 0 = true) && decide (s.pwr.resetCode = some 5)) = true ∧
    (
      let p : Part := 0
      let s : State := st0
      decide (s.unlocked p = false)) = true ∧
    (
      let p : Part := 3
      let s : State := st0 |> un p
      decide (s.unlocked p = true) && decide (p.val ≠ 0)) = true ∧
    (
      let p : Part := 0
      let data : Word := 0x80000001
      let s : State := st0 |> un p
      decide (s.unlocked p = true) && decide (data.toNat % 16 = 2 ^ p.val)) = true ∧
    (
      let p : Part := 0
      let s : State := st0
      decide (s.unlocked p = false)) = true ∧
    (
      let p : Part := 0
      let s : State := st0
      decide (s.mapped p = true)) = true ∧
    (
      let p : Part := 3
      let s : State := st0 |> sf R.PART_MAP F.PART_MAP_ACTIVE 0x6A
      decide (s.mapped p = true) && decide (s.qmg.queues = []) && decide (s.qmg.aside = []) && decide (s.host.held = []) &&
          decide (s.cvn.open_ = []) && decide (s.cvn.sess = [])) = true ∧
    (
      let p : Part := 3
      let s : State := st0 |> sf R.PART_MAP F.PART_MAP_ACTIVE 0x6A
      decide (s.mapped p = true) && decide (s.passClear .h = true) && decide (s.qmg.queues = []) && decide (s.qmg.aside = []) &&
          decide (s.host.held = []) && decide (s.cvn.open_ = []) && decide (s.cvn.sess = [])) = true ∧
    (
      let p : Part := 3
      let s : State := st0 |> sf R.PART_MAP F.PART_MAP_ACTIVE 0xAA
      decide (s.mapped p = false)) = true ∧
    (
      let s : State := st0 |> (fun s => { s with pwr := { s.pwr with fHeld := true } })
      decide (s.pwr.fHeld = true)) = true ∧
    (
      let s : State := st0 |> (fun s => {s with pwr := {s.pwr with fSup := 3}})
      decide (s.pwr.fSup = 3)) = true ∧
    (
      let s : State := st0 |> (fun s => { s with pwr := { s.pwr with hHeld := true } })
      decide (s.pwr.hHeld = true)) = true ∧
    (
      let s : State := st0 |> (fun s => {s with pwr := {s.pwr with hSup := 3}})
      decide (s.pwr.hSup = 3)) = true ∧
    (
      let s : State := st0
      decide (s.pwr.fHeld = false) && decide (s.pwr.saveIsland = false) &&
          decide (nbit (s.fld R.SAFE_CAUSE F.SAFE_CAUSE_LIVE) 12 = false) && decide (s.cvn.open_ = []) && decide (s.cvn.sess = [])) = true ∧
    (
      let s : State := st0
      decide (s.pwr.hHeld = false) && decide (s.pwr.fHeld = false) && decide (nbit (s.fld R.SAFE_CAUSE F.SAFE_CAUSE_LIVE) 12 = false) &&
          decide (s.cvn.open_ = []) && decide (s.cvn.sess = [])) = true ∧
    (
      let s : State := st0
      decide (s.pwr.fHeld = false)) = true ∧
    (
      let s : State := st0 |> (fun s => { s with pwr := { s.pwr with fHeld := true } })
      decide (s.pwr.hHeld = false) && decide (s.pwr.fHeld = true)) = true ∧
    (
      let s : State := st0 |> (fun s => { s with pwr := { s.pwr with fHeld := true } })
      decide (s.pwr.fHeld = true)) = true ∧
    (
      let s : State := st0 |> (fun s => { s with pwr := { s.pwr with hHeld := true } })
      decide (s.pwr.hHeld = true)) = true := by and_intros <;> decide +kernel

theorem test_FirmwareBoots_met :
    (
      let s : State := st0
      decide (s.pwr.fHeld = true ∨ s.boot.booting = false)) = true ∧
    (
      let s : State := st0 |> (fun s => {s with boot := {s.boot with booting := true}})
      decide (s.pwr.fHeld = false) && decide (s.boot.booting = true)) = true ∧
    (
      let s : State := st0 |> (fun s => {s with boot := {s.boot with booting := true}})
      let s1 := s.wr R.SYS_RESET_CAUSE (w32 (s.pwr.lastKind + (if s.pwr.vaultWake then 16 else 0)))
      let s2 := (s1.slotCheck 1).slotCheck 2
      decide (s.pwr.fHeld = false) && decide (s.boot.booting = true) && decide (s.boot.recoveryReq = false) &&
          decide (s2.candidate 1 = false) && decide (s2.candidate 2 = false)) = true ∧
    (
      let sigs : List (BitVec 128) := (List.replicate 32 1)
      let s : State := st0 |> (fun s => {s with boot := {s.boot with mode := 3, booting := false, selfTestDone := false}}) |>
          (fun s => {s with boot := {s.boot with mode := 3, staging := ramImg}})
      let fail := s.bootFails sigs
      decide (s.pwr.fHeld = false) && decide (s.boot.booting = false) && decide (s.boot.mode ≠ 0) &&
          decide (s.boot.selfTestDone = false) && decide (2 ^ 22 ≤ fail ∨ bitsAt (w32 fail) 16 2 = 3 ∨ bitsAt (w32 fail) 18 4 = 15)) = true ∧
    (
      let sigs : List (BitVec 128) := []
      let s : State := st0 |> (fun s => {s with boot := {s.boot with mode := 3, booting := false, selfTestDone := false}}) |>
          (fun s => {s with boot := {s.boot with mode := 3, staging := ramImg}})
      let fail := s.bootFails sigs
      decide (s.pwr.fHeld = false) && decide (s.boot.booting = false) && decide (s.boot.mode ≠ 0) &&
          decide (s.boot.selfTestDone = false) && decide (¬ (2 ^ 22 ≤ fail ∨ bitsAt (w32 fail) 16 2 = 3 ∨ bitsAt (w32 fail) 18 4 = 15))) = true ∧
    (
      let s : State := st0 |> (fun s => { s with boot := { s.boot with mode := 0 } }) |> (fun s => {s with boot := {s.boot with mode := 0}})
      decide (s.boot.mode = 0)) = true ∧
    (
      let s : State := st0 |> (fun s => {s with pwr := {s.pwr with vaultWake := true, vaultCode := 6}})
      decide (s.pwr.vaultWake = true)) = true ∧
    (
      let s : State := st0 |> (fun s => {s with host := {s.host with fwReady := false}})
      decide (s.passUp = true) && decide (s.fwRuns = true) && decide (s.host.microcode = true) && decide (s.host.fwReady = false) &&
          decide (s.boot.bootFailClusters = []) && decide (s.boot.bootFailPairs = []) && decide (s.boot.events = [])) = true ∧
    (
      let s : State := st0
      decide (s.passUp = false ∨ s.fwRuns = false ∨ s.host.microcode = false ∨ s.host.fwReady = true)) = true ∧
    (
      let u  := 1000000000000
      let s : State := st0 |> (fun s => {s with boot := {s.boot with mode := 2, readySince := some 1000000000000}})
      decide (s.boot.readySince = some u) && decide (s.boot.mode = 1 ∨ s.boot.mode = 2)) = true ∧
    (
      let s : State := st0
      decide (s.boot.readySince = none)) = true ∧
    (
      let data : Word := 1
      let s : State := st0 |> un 0 |> sf R.BOOT_RB F.BOOT_RB_BLOWING 0 |> sf R.BOOT_STATUS F.BOOT_STATUS_RUN_SVN 9
      decide (s.unlocked 0 = true) && decide (bitAt data 0 = true) && decide (s.boot.mode ≠ 3) &&
          decide (s.boot.fuseF < s.fld R.BOOT_STATUS F.BOOT_STATUS_RUN_SVN) && decide (s.flag R.BOOT_RB F.BOOT_RB_BLOWING = false)) = true ∧
    (
      let s : State := st0 |> sf R.BOOT_RB F.BOOT_RB_BLOWING 1
      decide (s.flag R.BOOT_RB F.BOOT_RB_BLOWING = true)) = true ∧
    (
      let s : State := st0 |> sf R.BOOT_RB F.BOOT_RB_BLOWING 0
      decide (s.flag R.BOOT_RB F.BOOT_RB_BLOWING = false)) = true ∧
    (
      let data : Word := 3
      let s : State := st0 |> un 0
      decide (s.unlocked 0 = true) && decide (bitsAt data 0 2 = 3)) = true ∧
    (
      let data : Word := 26
      let s : State := st0 |> un 0
      decide (s.unlocked 0 = true) && decide (bitsAt data 0 2 ≠ 3)) = true ∧
    (
      let data : Word := 3
      let s : State := st0 |> un 0
      decide (s.unlocked 0 = true) && decide (bitsAt data 0 2 = 3)) = true ∧
    (
      let p : Part := 3
      let s : State := st0
      decide (s.unlocked p = false)) = true ∧
    (
      let p : Part := 3
      let s : State := st0 |> un p |> un 3
      decide (s.unlocked p = true) && decide (p.val ≠ 0)) = true := by and_intros <;> decide +kernel

theorem test_SmiviAnswers_met :
    (
      let s : State := st0 |> (fun s => { s with boot := { s.boot with resp := some [] } })
      decide (s.boot.resp.isSome = true)) = true ∧
    (
      let s : State := st0 |> (fun s => {s with boot := {s.boot with mode := 0, booting := true}})
      decide (s.pwr.fHeld = false) && decide (s.boot.resp = none) && decide (s.boot.op = none) && decide (s.smBusy = true)) = true ∧
    (
      let op : Byte := 0
      let s : State := st0
      decide (s.pwr.fHeld = false) && decide (s.boot.resp = none) && decide (s.boot.op = none) && decide (s.smBusy = false)) = true ∧
    (
      let slot : Byte := 1
      let op : Byte := 0
      let first : BitVec 16 := 2
      let count : BitVec 16 := 2
      let s : State := st0
      decide (s.pwr.fHeld = false) && decide (s.boot.resp = none) && decide (s.boot.op = none) && decide (s.smBusy = false) &&
          decide (smRange slot (65536 * first.toNat) (65536 * count.toNat) = true) && decide (s.smMayWrite slot = true)) = true ∧
    (
      let slot : Byte := 1
      let op : Byte := 0
      let off : Word := 0x100
      let data : List Byte := [1,2,3]
      let s : State := st0 |> (fun s => {s with boot := {s.boot with mode := 0, booting := false, resp := none, op := none}})
      decide (s.pwr.fHeld = false) && decide (s.boot.resp = none) && decide (s.boot.op = none) && decide (s.smBusy = false) &&
          decide (smRange slot off.toNat data.length = true) && decide (off.toNat % 256 = 0) && decide (data ≠ []) &&
              decide (data.length ≤ 1024)) = true ∧
    (
      let slot : Byte := 1
      let op : Byte := 0
      let off : Word := 8
      let len : BitVec 16 := 256
      let s : State := st0
      decide (s.pwr.fHeld = false) && decide (s.boot.resp = none) && decide (s.boot.op = none) && decide (s.smBusy = false) &&
          decide (smRange slot off.toNat len.toNat = true) && decide (1 ≤ len.toNat) && decide (len.toNat ≤ 1024)) = true ∧
    (
      let slot : Byte := 0
      let op : Byte := 0
      let off : Word := 0
      let n : Word := 0
      let s : State := st0
      decide (s.pwr.fHeld = false) && decide (s.boot.resp = none) && decide (s.boot.op = none) && decide (s.smBusy = false) &&
          decide (smRange slot off.toNat n.toNat = true)) = true ∧
    (
      let slot : Byte := 0x30
      let op : Byte := 0x30
      let off : Word := 0x10001
      let n : Word := 2
      let s : State := st0
      decide (s.pwr.fHeld = false) && decide (s.boot.resp = none) && decide (s.boot.op = none) && decide (s.smBusy = false) &&
          decide (smRange slot off.toNat n.toNat = false)) = true ∧
    (
      let op : Byte := 0
      let s : State := st0 |> (fun s => {s with boot := {s.boot with op := some ⟨17,7,slotBase 2,[1,2],2⟩}})
      match s.boot.op with
      | some o => decide (o.opcode = 0x11) && decide ((storeOctets 0xFF s.boot.flash o.addr o.count).all (fun b => b = 0xFF) = true)
      | _ => false) = true ∧
    (
      let op : Byte := 0
      let s : State := st0 |> (fun s => {s with boot := {s.boot with op := some ⟨16,7,slotBase 2,[1,2],65536⟩}})
      match s.boot.op with
      | some o => decide (o.opcode = 0x10)
      | _ => false) = true ∧
    (
      let op : Byte := 0
      let s : State := st0 |> (fun s => { s with boot := { s.boot with op := some ⟨0x10, 7, 0, [], 0⟩ } })
      match s.boot.op with
      | some _ => true
      | _ => false) = true ∧
    (
      let op : Byte := 0
      let s : State := st0
      decide (s.boot.op = none)) = true ∧
    (
      let op : Byte := 0
      let off : Word := 0x100
      let data : List Byte := [1,2,3]
      let s : State := st0 |> (fun s => {s with boot := {s.boot with mode := 0, booting := false, resp := none, op := none}})
      decide (s.pwr.fHeld = false) && decide (s.boot.resp = none) && decide (s.boot.op = none) && decide (s.smBusy = false) &&
          decide (off.toNat + data.length ≤ 16777216) && decide (data ≠ []) && decide (data.length ≤ 1024)) = true ∧
    (
      let op : Byte := 0
      let s : State := st0
      decide (s.pwr.fHeld = false) && decide (s.boot.resp = none) && decide (s.boot.op = none) && decide (s.smBusy = false) &&
          decide (s.boot.mode ≠ 0)) = true ∧
    (
      let op : Byte := 0
      let s : State := st0 |> (fun s => { s with boot := { s.boot with mode := 0 } })
      decide (s.pwr.fHeld = false) && decide (s.boot.resp = none) && decide (s.boot.op = none) && decide (s.smBusy = false) &&
          decide (s.boot.mode = 0) && decide (s.imageFail 3 ≠ 0)) = true ∧
    (
      let op : Byte := 7
      decide (op ≠ 0xA5) && decide (op ≠ 0x5A)) = true ∧
    (
      let op : Byte := 0
      let octets : List Byte := [1,2,0,0,9,9,9,9]
      let s : State := st0
      decide (s.pwr.fHeld = false) && decide (s.boot.resp = none) && decide (s.boot.op = none) && decide (s.smBusy = false) &&
          decide (octets.length < 8 + beAt octets 2 2 ∨ 1030 < beAt octets 2 2 ∨ beAt octets (4 + beAt octets 2 2) 4 ≠ (crc32c (octets.take (4 + beAt octets 2 2))).toNat)) = true ∧
    (
      let op : Byte := 9
      let data : List Byte := [1,2,3]
      let s : State := st0
      decide (s.pwr.fHeld = false) && decide (s.boot.resp = none) && decide (s.boot.op = none) && decide (s.smBusy = false) &&
          decide (data.length ≤ 1030) && decide (op.toNat ∉ [1, 2, 0x10, 0x11, 0x12, 0x13, 0x20, 0x21, 0x30])) = true ∧
    (
      let data : List Byte := [7,8,9]
      decide (data.length ≤ 1024)) = true ∧
    (
      let s : State := st0 |> (fun s => { s with pwr := { s.pwr with fHeld := true } })
      decide (s.pwr.fHeld = true)) = true ∧
    (
      let s : State := st0
      decide (s.pwr.fHeld = false) && decide (s.boot.resetAfter = false)) = true ∧
    (
      let s : State := st0 |> (fun s => { s with boot := { s.boot with resetAfter := true } }) |>
          (fun s => { s with boot := { s.boot with resp := some [] } })
      decide (s.pwr.fHeld = false) && decide (s.boot.resetAfter = true) && (match s.boot.resp with
      | some _ => decide (s.pwr.resetCode = none)
      | _ => false)) = true := by and_intros <;> decide +kernel

theorem test_SelfTestRuns_met :
    (
      let c : CmdDesc := cmdW 1 0x50 (0)
      let k  := 26
      let s : State := st0
      decide (s.cmdTurn c = true) && decide (s.bist.cmd = none) && decide (s.bist.closing = none) && decide (s.bistBad c = some k)) = true ∧
    (
      let c : CmdDesc := cmdW 1 0x50 (0)
      let k  := 26
      let s : State := st0
      decide (s.leads c = true) && decide (s.bist.cmd = none) && decide (s.bist.closing = none) && decide (s.bistBad c = some k)) = true ∧
    (
      let c : CmdDesc := cmdW 0 0x50 (19+3*256)
      let s : State := st0 |> (fun s => {s with bist := {s.bist with cmd := some cmd0}})
      decide (s.cmdTurn c = false ∨ s.bist.cmd.isSome = true)) = true ∧
    (
      let s : State := st0
      decide (s.bist.cmd = none)) = true ∧
    (
      let c : CmdDesc := cmdW 0 0x50 (21+3*256)
      let w0 : Word := 0
      let w1 : Word := 0
      let w2 : Word := 0
      let w3 : Word := 0
      let r := bistReg c
      let s : State := st0 |> (fun s => {s with boot := {s.boot with mode := 3, staging := ramImg}}) |>
          (fun s => {s with bist := {s.bist with cmd := some (cmdW 0 0x50 (21+3*256)), since := 1000000000000}})
      let good := s.bistGood r (bitsAt c.w1 8 2) (w3 ++ w2 ++ w1 ++ w0)
      decide (s.bist.cmd = some c) && decide (s.clearFor c = true) && decide (18 ≤ r) && decide (r < 22) && decide (good = true)) = true ∧
    (
      let c : CmdDesc := cmdW 0 0x50 (31+3*256)
      let r := bistReg c
      let s : State := st0 |> (fun s => {s with bist := {s.bist with cmd := some (cmdW 0 0x50 (31+3*256)), since := 1000000000000}})
      decide (s.bist.cmd = some c) && decide (22 ≤ r) && decide (s.pwr.resetCode = none)) = true := by and_intros <;> decide +kernel

theorem test_DroppedEventsAreCounted_met :
    (
      let p : Part := 0
      let s : State := st0
      decide (s.ringSize p 34 = 0 ∨ 2 ^ s.ringSize p 34 - 1 ≤ occupancy (s.ringChip p 34) (s.ringHost p 34))) = true ∧
    (
      let p : Part := 3
      let s : State := st0 |> ringOn 3 34 5 0 3
      let seq := aget 0 p.val s.host.evtSeq
      let lost := aget 0 p.val s.host.evtLost
      decide (s.ringRoom p 34 = true) && decide (lost < 2) && decide (seq < 65536)) = true := by and_intros <;> decide +kernel

/-! ### A Caravan that is accepted, and self-tests that start: with the free values of `Config` as they may be -/

/-- A node and a group of it on PAN slot 7, whose frames hold 2,047 octets. -/
def sCvn : State := st0 |> panSet 7 |> sf (R.PAN_CTRL 7) F.PAN_CTRL_OWNER 1 |> sf (R.MESH_PAN_CFG 7) F.MESH_PAN_CFG_MAX_FRAME 2047 |>
  cvnF (fun h => { h with groups := [(65535, grpP 7 1 0 [4])] }) |> nodeAt 4 7 9
/-- A sweep of three rounds of class Command; a flood of class Safety. -/
def cSweep : CmdDesc := cmdW 1 0x38 (65535 + (0x40000 + 0x10000 + 0x300000 + 0x1000000)) 0 0 64
def cSafety : CmdDesc := cmdW 1 0x38 (65535 + 0x300000) 0 0 64

theorem test_cvnBad_none (s : State) (c : CmdDesc) (sport hop : Nat) (hx : (s.group (cmdGroup c)).defined = true)
    (ho : (s.group (cmdGroup c)).owner = c.part.val) (hp : s.panOn (s.group (cmdGroup c)).pan = true)
    (hm : cvnMode c ≠ 3 ∧ (cvnMode c = 0 ∨ bitAt c.w1 24 = true)) (he : c.w2 = 0) (hl : bitsAt c.w3 0 11 = 0)
    (ha : unaligned c.w6 c.w7 = false) (hs : cvnCls c = 0 → (s.group (cmdGroup c)).peer.isNone = false ∧ s.cvn.waiting.any
      (fun w => cmdGroup w.cmd = cmdGroup c && w.cmd.part.val = c.part.val) = false)
    (hr : 499 ≤ s.payloadMax (s.group (cmdGroup c)).pan none) : s.cvnBad c .ok sport hop = none := by
  have hf := engineFits_of_room s (s.group (cmdGroup c)).pan s.cvnPort sport hop (List.replicate (0 + 20) 0) (cvnMode c ≠ 1)
    (cvnMode c ≠ 0) (by simpa using hr)
  have hq : (cvnCls c = 0 && ((s.group (cmdGroup c)).peer.isNone || !((s.group (cmdGroup c)).owner = c.part.val ||
      (s.group (cmdGroup c)).peer = some c.part.val) || s.cvn.waiting.any (fun w => cmdGroup w.cmd = cmdGroup c && w.cmd.part.val = c.part.val)))
      = false := by
    by_cases h : cvnCls c = 0
    · obtain ⟨h1, h2⟩ := hs h
      simp only [h1, h2, ho]; simp
    · simp [h]
  unfold State.cvnBad
  simp only [hl, hf, hx, hp, he, ha, hq]
  rcases hm with ⟨h1, h2 | h2⟩ <;> simp [h1, h2, ho]

theorem test_CaravansRun_accepted (sport hop : Nat) :
    (sCvn.inQuiet = false ∧ ((sCvn.cmdTake cSweep).engineDraw.2).cvnBad cSweep .ok sport hop = none ∧ sCvn.cvnFull 1 = none ∧
      cvnCls cSweep ≠ 0 ∧ sCvn.cvnId 65536 ((sCvn.cvnIds.last + 1) % 65536) = some 0 ∧ cvnMode cSweep = 1 ∧
      (sCvn.group (cmdGroup cSweep)).members ≠ [] ∧ 0 < bitsAt cSweep.w1 20 4) ∧
    (((sCvn.cmdTake cSafety).engineDraw.2).cvnBad cSafety .ok sport hop = none ∧ cvnCls cSafety = 0 ∧ sCvn.cvn.waiting = []) := by
  refine ⟨⟨by decide +kernel, test_cvnBad_none _ _ _ _ ?_ ?_ ?_ ?_ ?_ ?_ ?_ ?_ ?_, ?_⟩, test_cvnBad_none _ _ _ _ ?_ ?_ ?_ ?_ ?_ ?_ ?_ ?_ ?_, ?_⟩
    <;> decide +kernel

theorem test_CaravansRun_second (sport hop : Nat) : let w : CvnWait := ⟨{ cSafety with part := 0 }, [], 1000000000000⟩
    let s := (cvnF (fun h => { h with waiting := [w] }) sCvn).wr R.SAFE_HEALTH 15
    s.inQuiet = false ∧ ((s.cmdTake cSafety).engineDraw.2).cvnBad cSafety .ok sport hop = none ∧ s.cvnFull 1 ≠ some 0 ∧
      cmdGroup w.cmd = cmdGroup cSafety ∧ w.cmd.part ≠ cSafety.part ∧ s.now ≤ w.at_ + s.concurWindow ∧
      s.fld R.SAFE_HEALTH F.SAFE_HEALTH_PIPE_OK ≠ 0 := by
  refine ⟨by decide +kernel, test_cvnBad_none _ _ _ _ ?_ ?_ ?_ ?_ ?_ ?_ ?_ ?_ ?_, ?_⟩ <;> decide +kernel

theorem test_imgBad_none (s : State) (c : CmdDesc) (sport hop : Nat) (hi : (s.sess (bitsAt c.w1 0 2)).isSome = false)
    (hg : s.groupMay c.part.val (bitsAt c.w1 16 16) = true) (hp : s.panOn (s.group (bitsAt c.w1 16 16)).pan = true)
    (hk : bitsAt c.w1 8 8 = 2) (hl : bitsAt c.w2 0 25 = 3000) (hr : bitsAt c.w2 25 7 = 1) (ha : unaligned c.w6 c.w7 = false)
    (hm : 1527 ≤ s.payloadMax (s.group (bitsAt c.w1 16 16)).pan none) : s.imgBad c .ok sport hop = none := by
  have hf := engineFits_of_room s (s.group (bitsAt c.w1 16 16)).pan s.imgPort sport hop (List.replicate 1048 0) true true
    (by rw [List.length_replicate]; exact hm)
  unfold State.imgBad
  simp only [hi, hg, hp, hk, hl, hr, ha, hf]
  decide

/-- An image of 3,000 octets for a group of one member, and for an empty one. -/
def cImg : CmdDesc := cmdW 1 0x3C (3 + 2 * 256 + 65535 * 65536) (3000 + 2 ^ 25) 7 64

theorem test_ImageSessionsRun_opens (sport hop : Nat) :
    (sCvn.cmdTurn cImg = true ∧ sCvn.inQuiet = false ∧ ((sCvn.cmdTake cImg).engineDraw.2).imgBad cImg .ok sport hop = none ∧
      (sCvn.group (bitsAt cImg.w1 16 16)).members ≠ []) ∧
    (let s := cvnF (fun h => { h with groups := [(65535, grp 7 1 [])] }) sCvn;
      s.cmdTurn cImg = true ∧ s.inQuiet = false ∧ ((s.cmdTake cImg).engineDraw.2).imgBad cImg .ok sport hop = none ∧
      (s.group (bitsAt cImg.w1 16 16)).members = []) := by
  refine ⟨⟨by decide +kernel, by decide +kernel, test_imgBad_none _ _ _ _ ?_ ?_ ?_ ?_ ?_ ?_ ?_ ?_, ?_⟩, by decide +kernel, by decide +kernel,
    test_imgBad_none _ _ _ _ ?_ ?_ ?_ ?_ ?_ ?_ ?_ ?_, ?_⟩ <;> decide +kernel

/-- `MAINT` acts, on a part of either life cycle. -/
def sBist : State := bset R.BIST_CTRL F.BIST_CTRL_MAINT st0

theorem test_bistBad_none (s : State) (c : CmdDesc) (hm : s.flag R.BIST_CTRL F.BIST_CTRL_MAINT = true) (hp : c.part.val = 0)
    (hr : bistReg c < 22) (hs : bitsAt c.w1 8 2 ≠ 0) (hu : s.bistInUse (bistReg c) = false) : s.bistBad c = none := by
  have h1 : ¬ 22 ≤ bistReg c := by omega
  have h2 : ¬ 32 ≤ bistReg c := by omega
  simp [State.bistBad, State.bistAllowed, hm, hp, hs, hu, h1, h2]

theorem test_SelfTestRuns_starts : let c1 := cmdW 0 0x50 (21 + 3 * 256)
    let c2 := cmdW 0 0x50 (15 + 256)
    let c3 := cmdW 0 0x50 (16 + 512)
    (sBist.bistBad c1 = none ∧ sBist.cmdTurn c1 = true ∧ sBist.bist.cmd = none ∧ sBist.bist.closing = none ∧ 18 ≤ bistReg c1) ∧
    (sBist.bistBad c2 = none ∧ sBist.cmdTurn c2 = true ∧ bistReg c2 < 16 ∧ sBist.rx.closing = none ∧ sBist.rx.lanes = [] ∧
      sBist.flag R.LANE_STATE F.LANE_STATE_OFFLINE_VALID = false) ∧
    (sBist.bistBad c3 = none ∧ sBist.cmdTurn c3 = true ∧ bistReg c3 = 16 ∧ sBist.engState 0 ≠ 5) := by
  refine ⟨⟨test_bistBad_none _ _ ?_ ?_ ?_ ?_ ?_, ?_⟩, ⟨test_bistBad_none _ _ ?_ ?_ ?_ ?_ ?_, ?_⟩, test_bistBad_none _ _ ?_ ?_ ?_ ?_ ?_, ?_⟩
    <;> decide +kernel

/-- A die above the threshold of cause 12, and one that has moved by 25 °C below it, whatever its grade. -/
theorem test_CalibrationRuns_junction : maxJunction * 4 + 20 < (2047 : BitVec 12).toInt ∧ (100 : BitVec 12).toInt ≤ maxJunction * 4 + 20 ∧
    40 < ((100 : BitVec 12).toInt - 0).natAbs ∧ (site st0).arrOn 3 = true ∧ nbit ((site st0).fld R.SAFE_CAUSE F.SAFE_CAUSE_LIVE) 12 = false := by
  refine ⟨?_, ?_, ?_, ?_, ?_⟩
  · unfold maxJunction; split <;> decide
  · unfold maxJunction; split <;> decide
  all_goals decide +kernel


end Sys2Proof.Tests
end

section
/-! O7: what every message of the Pass meets before it acts (R16 to R19). The message commands all run through `State.passRx`; what a rejection
records stays through the event that it raises and through what the command does with a rejected message. -/

namespace Sys2Proof.Machine

/-! ### Reserved types (R17) -/

theorem passLens_reserved {typ : Nat} (h : 0x10 ≤ typ) : passLens typ = none := by
  unfold passLens
  split
  case h_17 => rfl
  all_goals omega

theorem passMalformed_reserved {typ : Nat} (m : PassMsg) (h : 0x10 ≤ typ) : passMalformed typ m = true := by
  simp [passMalformed, passLens_reserved h]

/-! ### Events leave the registers that no partition has a copy of -/

section
variable (s : State) (p : Nat)

@[simp] theorem State.vecTrigger_regs (v : Nat) : (s.vecTrigger p v).regs = s.regs := by
  unfold State.vecTrigger
  split <;> rfl

theorem State.rd_ringPut_ne (r : Nat) (ws : List Word) {k : Nat} (h : k ≠ R.RING_STATE r p) : (s.ringPut p r ws).rd k = s.rd k :=
  State.rd_setFld_ne _ _ _ h

variable {k : Nat} (hk : k < 0x20000) (ws : List Word)
include hk

theorem State.rd_evtWrite_shared : (s.evtWrite p ws).rd k = s.rd k := by
  unfold State.evtWrite
  dsimp only
  split
  · rw [State.rd, State.vecTrigger_regs]
    exact State.rd_ringPut_ne _ p 34 _ (by unfold R.RING_STATE; omega)
  · exact State.rd_bump_ne _ (by unfold R.EVT_CNT_DROP; omega)

theorem State.rd_evtDeliver_shared : (s.evtDeliver ws p).rd k = s.rd k := by
  unfold State.evtDeliver
  split
  · exact s.rd_evtWrite_shared p hk ws
  · rfl

theorem State.rd_evtRoute_shared : (s.evtRoute ws).rd k = s.rd k := by
  simp only [State.evtRoute, List.foldl_cons, List.foldl_nil, State.rd_evtDeliver_shared _ _ hk]

end

theorem State.evtH_pass (s : State) (src mask : Nat) (p0 p1 p2 : Word) : (s.evtH src mask p0 p1 p2).pass = s.pass :=
  (State.evtRoute_within s _ (Within.refl [.regs, .host] s) rfl).only .pass (by decide)

/-! ### What a rejection records, and what leaves it as it is -/

/-- `DIE` of `PASS_LAST_REJECT`. -/
def rejectDie : Die → Nat
  | .h => 0
  | .f => 1

/-- A die has counted one rejection. -/
def State.rejectCounted (t s : State) : Die → Prop
  | .h => t.rd R.PASS_REJECT = satInc (s.rd R.PASS_REJECT)
  | .f => t.pass.fReject = s.pass.fReject + 1

/-- A die has recorded the rejection of a message of a type: in `PASS_LAST_REJECT` and in its count, its receiver left as it was (R19, R455). -/
structure RejectRecorded (d : Die) (typ : Nat) (s t : State) : Prop where
  dir : t.rxDir d = s.rxDir d
  type : t.fld R.PASS_LAST_REJECT F.PASS_LAST_REJECT_TYPE = typ % 256
  die : t.fld R.PASS_LAST_REJECT F.PASS_LAST_REJECT_DIE = rejectDie d
  count : t.rejectCounted s d

/-- A die's receiver and everything that records rejections are as they were. -/
structure RejectKept (d : Die) (s t : State) : Prop where
  dir : t.rxDir d = s.rxDir d
  last : t.rd R.PASS_LAST_REJECT = s.rd R.PASS_LAST_REJECT
  count : t.rd R.PASS_REJECT = s.rd R.PASS_REJECT
  fCount : t.pass.fReject = s.pass.fReject

section
variable {d : Die} {s t u : State}

theorem RejectKept.refl (d : Die) (s : State) : RejectKept d s s := ⟨rfl, rfl, rfl, rfl⟩

theorem RejectKept.trans (h : RejectKept d s t) (h2 : RejectKept d t u) : RejectKept d s u :=
  ⟨h2.dir.trans h.dir, h2.last.trans h.last, h2.count.trans h.count, h2.fCount.trans h.fCount⟩

/-- Only the registers and the Pass matter. -/
theorem RejectKept.of_regs_pass (hr : t.regs = s.regs) (hp : t.pass = s.pass) : RejectKept d s t :=
  ⟨by cases d <;> simp [State.rxDir, hp], by simp [State.rd, hr], by simp [State.rd, hr], by rw [hp]⟩

theorem RejectKept.free! (d : Die) (s : State) : RejectKept d s s.free!.2 := RejectKept.of_regs_pass rfl rfl

/-- A record that is kept stands. -/
theorem RejectRecorded.kept {typ : Nat} (h : RejectRecorded d typ s t) (h2 : RejectKept d t u) : RejectRecorded d typ s u := by
  obtain ⟨dir, type, die, count⟩ := h
  refine ⟨h2.dir.trans dir, ?_, ?_, ?_⟩
  · rwa [State.fld, h2.last]
  · rwa [State.fld, h2.last]
  · cases d
    case h => exact h2.count.trans count
    case f => exact h2.fCount.trans count

end

section
variable (s : State)

/-- The F-die's receiver does not depend on what it sends. -/
theorem RejectKept.passSend (typ part : Nat) (g : Bool) (len : Nat) (ws : List Word) :
    RejectKept .f s (s.passSend .f typ part g len ws) :=
  ⟨rfl, rfl, rfl, rfl⟩

theorem RejectKept.evtH (d : Die) (src mask : Nat) (p0 p1 p2 : Word) : RejectKept d s (s.evtH src mask p0 p1 p2) where
  dir := by cases d <;> simp [State.rxDir, s.evtH_pass]
  last := s.rd_evtRoute_shared (by decide) _
  count := s.rd_evtRoute_shared (by decide) _
  fCount := by rw [s.evtH_pass]

theorem RejectKept.cplSend (f : Nat) (l : List CplSlot) : RejectKept .f s (s.cplSend f l) := by
  induction l generalizing s with
  | nil => exact RejectKept.refl _ s
  | cons x xs ih =>
    unfold State.cplSend
    split
    · refine RejectKept.trans ?_ (ih _)
      exact RejectKept.of_regs_pass rfl rfl
    · split
      · refine RejectKept.trans ?_ (ih _)
        split
        · exact RejectKept.refl _ s
        · exact RejectKept.passSend s ..
      · exact RejectKept.of_regs_pass rfl rfl

theorem RejectKept.cmdDone (c : CmdDesc) (status : Nat) (ws : List Word) (cause detail : Nat) :
    RejectKept .f s (s.cmdDone c status ws cause detail) := by
  have h : RejectKept .f s (s.cplOffer c (cplRecord c status ws cause detail)) := by
    unfold State.cplOffer
    split
    · exact RejectKept.passSend s ..
    · refine RejectKept.trans ?_ (RejectKept.cplSend _ _ _)
      exact RejectKept.of_regs_pass rfl rfl
  exact ⟨h.dir, rfl, rfl, h.fCount⟩

theorem RejectKept.cplOpen (d : Die) (c : CmdDesc) : RejectKept d s (s.cplOpen c) := by
  unfold State.cplOpen
  split <;> exact RejectKept.of_regs_pass rfl rfl

theorem RejectKept.txDone (f : Fetched) (status : Nat) (time : Word) (a b : Nat) (tw : Bool) (cause detail : Nat) :
    RejectKept .f s (s.txDone f status time a b tw cause detail) := by
  by_cases hg : f.gen = aget 0 f.part s.ends.gens
  · have hp : (s.txDone f status time a b tw cause detail).pass =
        (s.passSend .f 5 f.part false 32 (txRecord f status time a b tw cause detail)).pass := by simp [State.txDone, hg]
    exact (RejectKept.passSend s ..).trans (RejectKept.of_regs_pass (by simp) hp)
  · rw [State.txDone_stale (h := hg)]
    exact RejectKept.refl _ s

theorem RejectKept.freeChain (d : Die) (cs : List Nat) : RejectKept d s (s.freeChain cs) where
  dir := by cases d <;> rfl
  last := State.rd_setFld_ne _ _ _ (by decide)
  count := State.rd_setFld_ne _ _ _ (by decide)
  fCount := rfl

theorem RejectKept.frameDnRejected (m : PassMsg) : RejectKept .f s (s.frameDnRejected m) := by
  unfold State.frameDnRejected
  dsimp only
  split
  · exact (RejectKept.txDone s ..).trans (RejectKept.passSend _ ..)
  · split
    · exact RejectKept.refl _ s
    · refine RejectKept.trans ?_ (RejectKept.freeChain _ _ _)
      exact RejectKept.of_regs_pass rfl rfl

end

/-! ### Rejecting a message (R19) -/

/-- `PASS_LAST_REJECT` as a rejection leaves it. -/
def rejectWord (d : Die) (typ : Nat) (lenErr : Bool) : Word :=
  w32 (typ % 256 + (if d = .f then 2 ^ 8 else 0) + (if lenErr then 2 ^ 9 else 0))

theorem rejectWord_type (d : Die) (typ : Nat) (e : Bool) : fget F.PASS_LAST_REJECT_TYPE (rejectWord d typ e) = typ % 256 := by
  cases d <;> cases e <;> simp [fget, rejectWord] <;> omega

theorem rejectWord_die (d : Die) (typ : Nat) (e : Bool) :
    fget F.PASS_LAST_REJECT_DIE (rejectWord d typ e) = rejectDie d := by
  cases d <;> cases e <;> simp [fget, rejectWord, rejectDie] <;> omega

section
variable (s : State) (d : Die) (typ : Nat) (e : Bool)

/-- The state after a die has recorded a rejection, before it raises the event. -/
def State.noteReject : State :=
  let s1 := s.wr R.PASS_LAST_REJECT (rejectWord d typ e)
  match d with
  | .h => s1.bump R.PASS_REJECT
  | .f => { s1 with pass := { s1.pass with fReject := s1.pass.fReject + 1 } }

theorem State.rd_noteReject_last : (s.noteReject d typ e).rd R.PASS_LAST_REJECT = rejectWord d typ e := by
  cases d
  case h => exact (State.rd_bump_ne _ (by decide)).trans (s.rd_wr _ _)
  case f => exact s.rd_wr _ _

theorem State.noteReject_host : (s.noteReject d typ e).host = s.host := by cases d <;> simp [State.noteReject, State.bump]

theorem State.noteReject_recorded : RejectRecorded d typ s (s.noteReject d typ e) where
  dir := by cases d <;> rfl
  type := (congrArg _ (s.rd_noteReject_last d typ e)).trans (rejectWord_type d typ e)
  die := (congrArg _ (s.rd_noteReject_last d typ e)).trans (rejectWord_die d typ e)
  count := by
    cases d
    case h => exact (State.rd_bump _ _).trans (congrArg satInc (s.rd_wr_ne _ (by decide)))
    case f => rfl

end

/-- The state in which a die raises the event of a rejection: the rejection is recorded, and the event's three free parameters are taken. -/
def State.rejectNoted (s : State) (d : Die) (typ : Nat) (m : PassMsg) : State :=
  (s.noteReject d typ ((passLens typ).isSome || 4096 < m.len)).free!.2.free!.2.free!.2

section
variable (s : State) (d : Die) (typ : Nat) (m : PassMsg)

theorem State.rejectNoted_host : (s.rejectNoted d typ m).host = s.host := s.noteReject_host d typ _

theorem State.rejectNoted_recorded : RejectRecorded d typ s (s.rejectNoted d typ m) :=
  (s.noteReject_recorded d typ _).kept (((RejectKept.free! d _).trans (RejectKept.free! d _)).trans (RejectKept.free! d _))

/-- The H-die raises PASS_REJECT through its own event router. -/
theorem State.passReject_h : ∃ p0 p1 p2 : Word, s.passReject .h typ m = (s.rejectNoted .h typ m).evtH 6 0 p0 p1 p2 := ⟨_, _, _, rfl⟩

/-- The F-die raises PASS_REJECT as a message. -/
theorem State.passReject_f : ∃ p0 p1 p2 : Word, s.passReject .f typ m = (s.rejectNoted .f typ m).evtF 6 0 p0 p1 p2 := ⟨_, _, _, rfl⟩

theorem State.passReject_recorded : RejectRecorded d typ s (s.passReject d typ m) := by
  cases d
  case h =>
    obtain ⟨p0, p1, p2, e⟩ := s.passReject_h typ m
    rw [e]
    exact (s.rejectNoted_recorded .h typ m).kept (RejectKept.evtH ..)
  case f =>
    obtain ⟨p0, p1, p2, e⟩ := s.passReject_f typ m
    rw [e]
    exact (s.rejectNoted_recorded .f typ m).kept (RejectKept.passSend ..)

end

/-! ### The commands that bring messages -/

/-- The counter of `CRC` errors of a die. -/
def crcCounter : Die → Nat
  | .h => R.PASS_CNT_CRC
  | .f => R.PASS_FCNT_CRC

/-- Every message command runs through `passRx`, and what it does with a rejected message leaves the record of the rejection. Only FRAME_DN and
DESC do anything with one. -/
theorem exec_passMessage {c : Instr} {d : Die} {typ : Nat} {m : PassMsg} (h : passMessage c = some (d, typ, m)) :
    ∃ act rejected : State → State, (∀ u, RejectKept d u (rejected u)) ∧
      ∀ s, exec c s = .next (s.passRx d typ m act rejected) := by
  unfold passMessage at h
  split at h <;> cases h
  case h_3 => exact ⟨_, _, fun u => RejectKept.frameDnRejected u m, fun _ => rfl⟩
  case h_5 => exact ⟨_, _, fun u => (RejectKept.cplOpen u _ _).trans (RejectKept.cmdDone _ ..), fun _ => rfl⟩
  all_goals exact ⟨_, id, fun u => RejectKept.refl _ u, fun _ => rfl⟩

section
variable {c : Instr} {s : State} {d : Die} {typ : Nat} {m : PassMsg} (h : passMessage c = some (d, typ, m))
include h

/-- While the Pass is not up nothing arrives. -/
theorem exec_passMessage_down (hd : s.passUp = false) : exec c s = .next s := by
  obtain ⟨act, rejected, -, he⟩ := exec_passMessage h
  rw [he, State.passRx_down _ _ _ _ _ _ hd]

/-- A message out of order is discarded. -/
theorem exec_passMessage_order (hu : s.passUp = true) (hc : m.crc = passCrc typ m) (hs : m.seq ≠ (s.rxDir d).rx) : exec c s = .next s := by
  obtain ⟨act, rejected, -, he⟩ := exec_passMessage h
  rw [he, State.passRx_order _ _ _ _ _ _ hu hc hs]

/-- A message with a wrong `CRC` is counted and starts the discarding. -/
theorem exec_passMessage_crc (hu : s.passUp = true) (hc : m.crc ≠ passCrc typ m) :
    exec c s = .next ((s.setRxDir d { s.rxDir d with discarding := true }).bump (crcCounter d)) := by
  obtain ⟨act, rejected, -, he⟩ := exec_passMessage h
  rw [he, State.passRx_crc _ _ _ _ _ _ hu hc]
  rfl

/-- A malformed message that is next in order is acknowledged and its rejection recorded, whatever the command then does with it. -/
theorem Does.malformed (hu : s.passUp = true) (hc : m.crc = passCrc typ m) (hs : m.seq = (s.rxDir d).rx) (hm : passMalformed typ m = true) :
    Does c s (RejectRecorded d typ (s.acked d m)) := by
  obtain ⟨act, rejected, hk, he⟩ := exec_passMessage h
  refine Does.of_next (he s) ?_
  rw [State.passRx_malformed _ _ _ _ _ _ hu hc hs hm]
  exact ((s.acked d m).passReject_recorded d typ m).kept (hk _)

end

/-- Discarding after a wrong `CRC` changes the receiver's mark and its counter only. -/
theorem discard_effect (s : State) (d : Die) : let t := (s.setRxDir d { s.rxDir d with discarding := true }).bump (crcCounter d)
    (t.rxDir d).discarding = true ∧ (t.rxDir d).rx = (s.rxDir d).rx ∧ t.rd (crcCounter d) = satInc (s.rd (crcCounter d)) ∧
      t.onlyIn s [.regs, .pass] ∧ ∀ k, k ≠ crcCounter d → t.rd k = s.rd k := by
  intro t
  have hr (k : Nat) : (s.setRxDir d { s.rxDir d with discarding := true }).rd k = s.rd k := by cases d <;> rfl
  refine ⟨by cases d <;> rfl, by cases d <;> rfl, (State.rd_bump _ _).trans (congrArg satInc (hr _)), fun k hk => ?_,
    fun k hk => (State.rd_bump_ne _ hk).trans (hr k)⟩
  cases k
  case regs | pass => exact absurd (by decide) hk
  all_goals cases d <;> rfl

/-- A message of a reserved type that is next in order is acknowledged and rejected, and no more. -/
theorem exec_reservedTypeMessage {s : State} {d : Die} {m : PassMsg} (hu : s.passUp = true) (hc : m.crc = passCrc (0x10 + m.typ % 0xF0) m)
    (hs : m.seq = (s.rxDir d).rx) :
    exec (.reservedTypeMessage d m) s = .next ((s.acked d m).passReject d (0x10 + m.typ % 0xF0) m) :=
  congrArg _ (State.passRx_malformed _ _ _ _ _ _ hu hc hs (passMalformed_reserved m (Nat.le_add_right _ _)))

/-- An accepted LINK_IDLE is acknowledged, and no more. -/
theorem exec_linkIdle {s : State} {d : Die} {m : PassMsg} (h : Accepted s d 0x00 m) : exec (.linkIdle d m) s = .next (s.acked d m) :=
  congrArg _ (State.passRx_accepted _ _ _ _ _ _ h)

/-- The sender's next message takes the `SEQ` behind an acknowledged one that had its next. -/
theorem State.acked_next {s : State} {d : Die} {m : PassMsg} (h : (s.rxDir d).next = m.seq) : ((s.acked d m).rxDir d).next = m.seq + 1 := by
  cases d <;> exact if_pos h

/-! ### The obligation -/

/-- Settles O7: every message command runs through `passRx`, whose branches are the statement's cases. -/
theorem messagesAreCheckedFirst : Obligations.MessagesAreCheckedFirst := by
  unfold Obligations.MessagesAreCheckedFirst
  refine ⟨fun c s d typ m h => ?_, fun c s d typ m h hu hc hs hm => ?_, fun s m => ?_, fun s d m h => ?_⟩
  · exact ⟨exec_passMessage_down h, exec_passMessage_order h,
      fun hu hc => Does.of_next (exec_passMessage_crc h hu hc) (discard_effect s d)⟩
  · obtain ⟨t, ht, hr⟩ := Does.malformed h hu hc hs hm
    refine ⟨t, ht, by rw [hr.dir, State.acked_rx], by rw [hr.dir, State.acked_discarding], hr.type, ?_⟩
    cases d
    case h => exact ⟨hr.count.trans (by rw [State.acked_rd]), hr.die⟩
    case f => exact ⟨hr.count, hr.die⟩
  · intro typ hu hc
    refine ⟨passMalformed_reserved m (Nat.le_add_right _ _), fun hs => ?_, fun hs => ?_⟩
    · obtain ⟨p0, p1, p2, e⟩ := (s.acked .f m).passReject_f typ m
      refine Does.of_next (exec_reservedTypeMessage hu hc hs) ?_
      rw [e]
      simp [State.evtF, evtWords, wordAt]
    · obtain ⟨p0, p1, p2, e⟩ := (s.acked .h m).passReject_h typ m
      have hr := (s.acked .h m).rejectNoted_recorded .h typ m
      exact Does.of_next (exec_reservedTypeMessage hu hc hs)
        ⟨_, p0, p1, p2, e, State.rejectNoted_host .., hr.count.trans (by rw [State.acked_rd])⟩
  · exact Does.of_next (exec_linkIdle h)
      ⟨s.acked_rx d m, s.acked_discarding d m, State.acked_next, s.acked_queue d m, by cases d <;> rfl⟩

end Sys2Proof.Machine
end

section
/-! O32: transmissions of a plan (R49, R72, R108, R129). A transmission keeps its number through what begins and ends on air, and one that is
neither over nor cut holds its array's pins and blanking whatever the time. -/

-- One proof at a time: the joined text is elaborated near its limit of memory, which proofs side by side would pass.
set_option Elab.async false

namespace Sys2Proof.Machine

/-! ### The arms of `exec` -/

section
variable (s : State)

theorem exec_blankingStart_arm (id : Nat) : exec (.blankingStart id) s = execBlankingStart id s := rfl
theorem exec_feTxenAssert_arm (id : Nat) : exec (.feTxenAssert id) s = execFeTxenAssert id s := rfl
theorem exec_txFrameStart_arm (id : Nat) (k : SlotCheck) : exec (.txFrameStart id k) s = execTxFrameStart id k s := rfl
theorem exec_txFrameEnd_arm (id : Nat) : exec (.txFrameEnd id) s = execTxFrameEnd id s := rfl
theorem exec_blankingEnd_arm (a : Fin 4) : exec (.blankingEnd a) s = execBlankingEnd a s := rfl
theorem exec_rxWindowOpen_arm (a : Fin 4) : exec (.rxWindowOpen a) s = execRxWindowOpen a s := rfl
theorem exec_rxWindowClose_arm (a : Fin 4) : exec (.rxWindowClose a) s = execRxWindowClose a s := rfl

end

/-! ### A transmission of the plan -/

section
variable {s : State} {id : Nat} {x : AirTx}

/-- A transmission that is neither over nor cut holds at every instant. -/
theorem AirTx.holds_of_uncut (he : x.ended = false) (hc : x.cut = false) (now : Nat) : x.holds now = true := by simp [AirTx.holds, he, hc]

theorem State.tx_mem (h : s.tx id = some x) : x ∈ s.air := List.mem_of_find?_eq_some h

theorem State.tx_open (h : s.tx id = some x) : x.ended = false := by
  have := List.find?_some h
  simp_all

/-- A change of a transmission that leaves its number and its end alone is found under the same number. -/
theorem State.tx_txMod (g : AirTx → AirTx) (hid : ∀ u, (g u).id = u.id) (hend : ∀ u, (g u).ended = u.ended) (h : s.tx id = some x) :
    (s.txMod id g).tx id = some (g x) := by
  have hx : x.id = id := by have := List.find?_some h; simp_all
  have hp : (fun t : AirTx => t.id = id && !t.ended) ∘ (fun t => if t.id = id then g t else t) = fun t => t.id = id && !t.ended := by
    funext t
    by_cases ht : t.id = id <;> simp [ht, hid, hend]
  have h2 : s.air.find? (fun t => t.id = id && !t.ended) = some x := h
  simp only [State.tx, State.txMod, List.find?_map, hp, h2, Option.map_some, hx, if_true]

end

/-- What every step of a fold keeps, the fold keeps. -/
theorem State.foldl_kept {α β : Type} (p : State → β) (f : State → α → State) (hf : ∀ u x, p (f u x) = p u) (l : List α) (u : State) :
    p (l.foldl f u) = p u := by
  induction l generalizing u with
  | nil => rfl
  | cons x l ih => exact (ih _).trans (hf u x)

theorem State.abandon_air (s : State) (l : Nat) : (s.abandon l).air = s.air :=
  (State.abandon_within s l (Within.refl [.regs, .rx] s) rfl).only .air (by decide)

theorem State.stat_air (s : State) (p i : Nat) : (s.stat p i).air = s.air := by
  unfold State.stat
  split <;> rfl

/-- The start of blanking abandons lanes and detections; the transmissions stay. -/
theorem State.blankHit_air (s t : State) : (s.blankHit t).air = t.air := by
  unfold State.blankHit
  exact (State.foldl_kept State.air (fun u (d : Det) => (u.stat d.point stABANDONED).bump R.ARR_CNT_BLANKAB)
      (fun u d => u.stat_air d.point _) _ _).trans
    (State.foldl_kept State.air (fun u l => (u.abandon l).bump R.ARR_CNT_BLANKAB) (fun u l => u.abandon_air l) _ t)

/-! ### Blanking and the front end -/

section
variable {s : State} {x : AirTx} (hm : x ∈ s.air) (he : x.ended = false) (hc : x.cut = false)
include hm he hc

/-- While blanking for a transmission goes on, its array does not receive (R49). -/
theorem State.arrRxen_of_blk (hb : x.blk = true) : s.arrRxen x.array = false := by
  have : s.air.any (fun t => t.array = x.array && t.blk && t.holds s.cityNs) = true :=
    List.any_eq_true.mpr ⟨x, hm, by simp [hb, AirTx.holds_of_uncut he hc]⟩
  simp [State.arrRxen, this]

/-- It blanks every array of its array's mask (R72). -/
theorem State.blanked_of_blk (hb : x.blk = true) {i : Nat} (hi : nbit (s.blankMask x.array) i = true) : s.blanked i = true := by
  have : s.air.any (fun t => t.blk && t.holds s.cityNs && nbit (s.blankMask t.array) i) = true :=
    List.any_eq_true.mpr ⟨x, hm, by simp [hb, AirTx.holds_of_uncut he hc, hi]⟩
  simp [State.blanked, this]

/-- A transmission for which FE_TXEN has been asserted asserts it on an array that may transmit (R49). -/
theorem State.arrTxen_of_txen (ht : x.txen = true) (ha : s.arrOn x.array = true) (hp : s.pwrState < 3)
    (hcal : s.calibrating x.array = false) : s.arrTxen x.array = true := by
  have : s.air.any (fun t => t.array = x.array && t.txen && t.holds s.cityNs) = true :=
    List.any_eq_true.mpr ⟨x, hm, by simp [ht, AirTx.holds_of_uncut he hc]⟩
  simp [State.arrTxen, this, ha, hp, hcal]

end

/-! ### What each command does to a transmission -/

section
variable {s : State} {id : Nat} {x : AirTx} (h : s.tx id = some x)
include h

theorem Does.blankingStart (hc : x.cut = false) : Does (.blankingStart id) s (fun t => t.tx id = some { x with blk := true } ∧
    t.arrRxen x.array = false ∧ ∀ i, nbit (t.blankMask x.array) i = true → t.blanked i = true) := by
  let s1 := s.toNs (x.tStart - 1000 * (s.txLead + s.trGap))
  let t := s1.blankHit (s1.txMod id (fun u => { u with blk := true }))
  have e : exec (.blankingStart id) s = .next t := by simp [exec_blankingStart_arm, execBlankingStart, h, hc, t, s1]
  have hx : t.tx id = some { x with blk := true } := by
    rw [State.tx, State.blankHit_air]
    exact State.tx_txMod _ (fun _ => rfl) (fun _ => rfl) h
  have he := State.tx_open hx
  have hm := State.tx_mem hx
  exact Does.of_next e ⟨hx, State.arrRxen_of_blk (x := { x with blk := true }) hm he hc rfl,
    fun i => State.blanked_of_blk (x := { x with blk := true }) hm he hc rfl⟩

theorem Does.feTxenAssert (hc : x.cut = false) : Does (.feTxenAssert id) s (fun t => t.tx id = some { x with txen := true } ∧ t.regs = s.regs ∧
    (s.arrOn x.array = true → s.pwrState < 3 → s.calibrating x.array = false → t.arrTxen x.array = true)) := by
  let t := (s.toNs (x.tStart - 1000 * s.txLead)).txMod id (fun u => { u with txen := true })
  have e : exec (.feTxenAssert id) s = .next t := by simp [exec_feTxenAssert_arm, execFeTxenAssert, h, hc, t]
  have hx : t.tx id = some { x with txen := true } := State.tx_txMod _ (fun _ => rfl) (fun _ => rfl) h
  exact Does.of_next e ⟨hx, rfl, State.arrTxen_of_txen (x := { x with txen := true }) (State.tx_mem hx) (State.tx_open hx) hc rfl⟩

/-- A transmission that was cut does not start. -/
theorem exec_cut (hc : x.cut = true) (k : SlotCheck) : exec (.blankingStart id) s = .next s ∧ exec (.feTxenAssert id) s = .next s ∧
    exec (.txFrameStart id k) s = .next s := by
  simp [exec_blankingStart_arm, exec_feTxenAssert_arm, exec_txFrameStart_arm, execBlankingStart, execFeTxenAssert, execTxFrameStart, h, hc]

/-- The first symbol is on air; an engine that runs checks an action of the plan. -/
theorem exec_txFrameStart (hc : x.cut = false) (k : SlotCheck) :
    let begun := (s.toNs x.tStart).txMod id (fun u => { u with started := true })
    exec (.txFrameStart id k) s =
      .next (if s.running && x.kind ≠ 2 then begun.engCheck k (s.slot.cur % 2 ^ 40) else begun) := by
  simp only [exec_txFrameStart_arm, execTxFrameStart, h, hc]
  rfl

/-- Without attempts that wait for it, the end of a transmission frees it and its pins follow. -/
theorem exec_txFrameEnd (hc : x.cut = false) (hs : x.started = true) (ha : s.slot.attempts = []) : exec (.txFrameEnd id) s =
    .next (((s.toNs x.tEnd).txMod id (fun u => { u with ended := true, tEnd := x.tEnd })).txPins x x.tEnd) := by
  have hn (u : State) (hu : u.slot = s.slot) : u.txAttempt x = u := by simp [State.txAttempt, hu, ha]
  simp only [exec_txFrameEnd_arm, execTxFrameEnd, h, hc, hs, Bool.not_true, Bool.false_eq_true, Bool.not_false, Bool.true_or, Bool.and_true,
    if_false, if_true]
  exact congrArg _ (hn _ rfl)

theorem exec_txFrameEnd_unstarted (hc : x.cut = false) (hs : x.started = false) : exec (.txFrameEnd id) s = .next s := by
  simp [exec_txFrameEnd_arm, execTxFrameEnd, h, hc, hs]

end

/-- A number that no transmission of the plan has does nothing. -/
theorem exec_tx_none {s : State} {id : Nat} (h : s.tx id = none) (k : SlotCheck) : exec (.blankingStart id) s = .next s ∧
    exec (.feTxenAssert id) s = .next s ∧ exec (.txFrameStart id k) s = .next s ∧ exec (.txFrameEnd id) s = .next s := by
  simp [exec_blankingStart_arm, exec_feTxenAssert_arm, exec_txFrameStart_arm, exec_txFrameEnd_arm, execBlankingStart,
    execFeTxenAssert, execTxFrameStart, execTxFrameEnd, h]

/-! ### The end of blanking, and DOZE windows (R129) -/

section
variable (s : State) (a : Fin 4)

theorem Does.blankingEnd : Does (.blankingEnd a) s (fun t => aget 0 a.val t.rf.blankEnd = 0 ∧
    (∀ b, b ≠ a.val → aget 0 b t.rf.blankEnd = aget 0 b s.rf.blankEnd) ∧ t.air = s.air ∧ t.regs = s.regs) := by
  by_cases h : aget 0 a.val s.rf.blankEnd = 0
  · exact Does.of_next (t := s) (by simp [exec_blankingEnd_arm, execBlankingEnd, h]) ⟨h, fun _ _ => rfl, rfl, rfl⟩
  · let s1 := s.toNs (aget 0 a.val s.rf.blankEnd)
    have e : exec (.blankingEnd a) s = .next { s1 with rf := { s1.rf with blankEnd := aset 0 a.val 0 s1.rf.blankEnd } } := by
      simp only [exec_blankingEnd_arm, execBlankingEnd, h, if_false, s1]
    exact Does.of_next e ⟨aget_aset_same 0 0 a.val s.rf.blankEnd, fun b hb => aget_aset_ne 0 0 a.val b s.rf.blankEnd hb, rfl, rfl⟩

variable {s a}

theorem Does.rxWindowOpen {w : RxWin} (hw : s.nextWin a = some w) (hd : s.doze = true) : Does (.rxWindowOpen a) s (fun t =>
    t.slot.wins = s.slot.wins.map (fun v => if v = w then { v with open_ := true } else v) ∧ t.regs = s.regs) := by
  simp only [Does, exec_rxWindowOpen_arm, execRxWindowOpen, hw, hd, Bool.not_true, Bool.false_eq_true, if_false]
  exact ⟨_, rfl, rfl, rfl⟩

theorem exec_rxWindowOpen_none (h : s.nextWin a = none ∨ s.doze = false) : exec (.rxWindowOpen a) s = .next s := by
  rcases h with h | h
  · simp [exec_rxWindowOpen_arm, execRxWindowOpen, h]
  · cases hw : s.nextWin a <;> simp [exec_rxWindowOpen_arm, execRxWindowOpen, h, hw]

theorem Does.rxWindowClose (ho : s.slot.wins.any (fun w => w.array = a.val && w.open_) = true)
    (hl : s.lanesOf (fun b => s.beamArray b == a.val) [1, 2, 3] = []) : Does (.rxWindowClose a) s (fun t =>
      t.slot.wins = s.slot.wins.filter (fun w => !(w.array = a.val && w.open_)) ∧ t.regs = s.regs) := by
  simp only [Does, exec_rxWindowClose_arm, execRxWindowClose, ho, hl, Bool.not_true, List.isEmpty_nil, Bool.or_self, Bool.false_eq_true, if_false]
  exact ⟨_, rfl, rfl, rfl⟩

end

/-! ### The obligation -/

/-- Settles O32: each command looks its transmission up once, and what it marks there decides the pins and the blanking. -/
theorem transmissionsGoOnAir : Obligations.TransmissionsGoOnAir := by
  unfold Obligations.TransmissionsGoOnAir
  intro s id k x a begun
  refine ⟨Does.blankingStart, Does.feTxenAssert, fun h hc => exec_cut h hc k, fun h hc hr => ?_, fun h hc hr hk => ?_, exec_txFrameEnd,
    exec_txFrameEnd_unstarted, fun h => exec_tx_none h k, Does.blankingEnd s a, fun w => Does.rxWindowOpen, exec_rxWindowOpen_none,
    Does.rxWindowClose⟩
  · rw [exec_txFrameStart h hc k]
    rcases hr with hr | hr <;> simp [hr, begun]
  · rw [exec_txFrameStart h hc k]
    simp [hr, hk, begun]

end Sys2Proof.Machine
end

section
/-! O24: the band plan, arrays, beams and weight banks (R43, R54 to R62, R75). A write of a configuration register is decided by the word that
it would leave and by what is enabled; the capacity check stands in front of every accepted one. -/

-- One proof at a time: the joined text is elaborated near its limit of memory, which proofs side by side would pass.
set_option Elab.async false

namespace Sys2Proof.Machine

/-! ### The arms of `exec` -/

section
variable (s : State)

theorem exec_arrayEnable_arm (p : Part) (a : Fin 4) (data : Word) : exec (.arrayEnable p a data) s = execArrayEnable p a data s := rfl
theorem exec_arrayConfigUpdate_arm (p : Part) (a : Fin 4) (data : Word) :
    exec (.arrayConfigUpdate p a data) s = execArrayConfigUpdate p a data s := rfl
theorem exec_arrayDisable_arm (p : Part) (a : Fin 4) (data : Word) : exec (.arrayDisable p a data) s = execArrayDisable p a data s := rfl
theorem exec_weightBankSwap_arm : exec .weightBankSwap s = execWeightBankSwap s := rfl

end

/-! ### Fields of masked words, and flags -/

theorem fget_and (f : Fld) (v m : Word) : fget f (v &&& m) = fget f v &&& fget f m := by
  simp [fget, Nat.and_div_two_pow, Nat.and_mod_two_pow]

/-- A mask that covers a field keeps it. -/
theorem fget_mask {f : Fld} {m : Word} (v : Word) (h : fget f m = 2 ^ f.w - 1) : fget f (v &&& m) = fget f v := by
  rw [fget_and, h, Nat.and_two_pow_sub_one_eq_mod, Nat.mod_eq_of_lt (fget_lt f v)]

section
variable (s : State) (k : Nat) {f : Fld}

theorem State.flag_err (h : f.lo + f.w ≤ 32) (hw : 0 < f.w) : (s.err k f).flag k f = true := by
  simp [State.flag, State.err, State.fld_setFld s k f 1 h, Nat.mod_eq_of_lt (Nat.one_lt_two_pow (Nat.ne_of_gt hw))]

theorem State.rd_err_ne {j : Nat} (f : Fld) (h : j ≠ k) : (s.err k f).rd j = s.rd j := s.rd_setFld_ne f 1 h

end

/-! ### Writers and capacity (R73, R75) -/

section
variable (s : State)

@[simp] theorem State.rfWriter_zero (ok : State) : s.rfWriter 0 ok = ok := rfl

theorem State.rfWriter_other {p : Nat} (hp : p ≠ 0) (ok : State) : s.rfWriter p ok = s.err R.RFP_ERR F.RFP_ERR_PART_WRITE := if_neg hp

variable {s}

/-- A write that leaves 96 low-window-equivalents, or no more than before, is accepted. -/
theorem State.capacity_ok {t : State} (ok : State → State) (h : t.lwe ≤ 96 ∨ t.lwe ≤ s.lwe) : s.capacity t ok = ok t.lweSync := by
  refine if_neg fun hc => ?_
  simp only [Bool.and_eq_true, decide_eq_true_eq] at hc
  omega

theorem State.capacity_exceeded {t : State} (ok : State → State) (h : s.lwe < t.lwe) (h2 : 96 < t.lwe) :
    s.capacity t ok = s.err R.RFP_ERR F.RFP_ERR_CAPACITY := if_pos (by simp [h, h2])

end

/-! ### What the synchronised counts leave alone -/

section
variable (s : State) (a : Nat)

theorem State.rd_lweSync_ne {k : Nat} (h : k ≠ R.CHZ_LWE) : s.lweSync.rd k = s.rd k := s.rd_setFld_ne _ _ h

theorem State.rd_lpSync_ne {k : Nat} (h1 : k ≠ R.CHZ_BINS) (h2 : k ≠ R.CHZ_NARROW) (h3 : k ≠ R.SRCH_LP_USE) : s.lpSync.rd k = s.rd k :=
  (State.rd_setFld_ne _ _ _ h3).trans ((State.rd_setFld_ne _ _ _ h2).trans (s.rd_setFld_ne _ _ h1))

variable {s a}

/-- Without an enabled listening point an array's enable has none to check again. -/
theorem State.lpRecheck_none (h : s.lpsOn = []) : s.lpRecheck a = s.lpSync := by simp [State.lpRecheck, h]

theorem State.rd_calRequest (k : Nat) : (s.calRequest a).rd k = s.rd k := by
  unfold State.calRequest
  split <;> rfl

/-- A request of an enabled array waits for its run. -/
theorem State.calRequest_pending (h : s.arrOn a = true) : (s.calRequest a).rf.calPending.contains a = true := by
  unfold State.calRequest
  rw [h, Bool.true_and]
  split
  · simp
  · simp_all

end

/-! ### Arrays (R54 to R57) -/

/-- The keys of `ARR_CFG` are 0x5000 to 0x500F. -/
theorem arrCfg_ne {a n : Nat} (ha : a < 4) (hn : n < 0x5000 ∨ 0x5010 ≤ n) : R.ARR_CFG a ≠ n := by
  unfold R.ARR_CFG
  omega

/-- `ENABLE` of the word that a write of `ARR_CFGa` stores. -/
theorem arrWord_enable (data : Word) (x : Nat) : fget F.ARR_CFG_ENABLE (fset F.ARR_CFG_ENABLE data x &&& 0xFFFF03FF) = x % 2 :=
  (fget_mask _ (by decide)).trans (fget_fset _ _ _ (by decide))

theorem arrWord_staleOmni (data : Word) (x : Nat) :
    fget F.ARR_CFG_STALE_OMNI (fset F.ARR_CFG_ENABLE data x &&& 0xFFFF03FF) = fget F.ARR_CFG_STALE_OMNI data :=
  (fget_mask _ (by decide)).trans (fget_fset_above _ _ _ _ (by decide) (by decide))

/-- Without lanes and transmissions nothing ends as a beam becomes inactive. -/
theorem State.beamOff_idle {s : State} (hl : s.rx.lanes = []) (ha : s.air = []) (b : Nat) : s.beamOff b = s := by
  cases s
  simp_all [State.beamOff, State.withdraw, State.lanesOf]

section
variable {s : State} {a : Fin 4} (data : Word)

/-- A disabled array is enabled when the word that it would have is valid and fits. -/
theorem exec_arrayEnable (h : s.arrOn a = false) : let d := fset F.ARR_CFG_ENABLE data 1 &&& 0xFFFF03FF
    exec (.arrayEnable 0 a data) s = .next (if !s.arrValid a d then s.err R.RFP_ERR F.RFP_ERR_ARRAY_INVALID
      else s.capacity (s.wr (R.ARR_CFG a) d) (fun t =>
        ((t.setFld R.RFP_BANDPLAN F.RFP_BANDPLAN_LOCKED 1).lpRecheck a).calRequest a)) := by
  simp only [exec_arrayEnable_arm, execArrayEnable, State.arrCfg, h, arrWord_enable]
  rfl

/-- An enabled array keeps its configuration but for `STALE_OMNI`. -/
theorem exec_arrayConfigUpdate (h : s.arrOn a = true)
    (hd : (fset F.ARR_CFG_ENABLE data 1 &&& 0xFFFF03FF) &&& 0xFFFF03F6 ≠ s.rd (R.ARR_CFG a) &&& 0xFFFF03F6) :
    exec (.arrayConfigUpdate 0 a data) s = .next
      ((s.setFld (R.ARR_CFG a) F.ARR_CFG_STALE_OMNI (fget F.ARR_CFG_STALE_OMNI data)).err R.RFP_ERR F.RFP_ERR_ARRAY_BUSY) := by
  simp only [exec_arrayConfigUpdate_arm, execArrayConfigUpdate, State.arrCfg, h, arrWord_enable, arrWord_staleOmni, if_neg hd]
  rfl

theorem exec_arrayDisable (h : s.arrOn a = true) : let d := fset F.ARR_CFG_ENABLE data 0 &&& 0xFFFF03FF
    exec (.arrayDisable 0 a data) s = .next (s.capacity (s.wr (R.ARR_CFG a) d) (fun _ => s.arrOff a d)) := by
  simp only [exec_arrayDisable_arm, execArrayDisable, State.arrCfg, h, arrWord_enable]
  rfl

end

/-- The registers as the enable of an array leaves them where no listening point is checked again. -/
def State.arrEnabled (s : State) (a : Nat) (d : Word) : State :=
  ((s.wr (R.ARR_CFG a) d).lweSync.setFld R.RFP_BANDPLAN F.RFP_BANDPLAN_LOCKED 1).lpSync

section
variable (s : State) {a : Nat} (d : Word)

theorem State.rd_arrEnabled (ha : a < 4) : (s.arrEnabled a d).rd (R.ARR_CFG a) = d := by
  have hne {n : Nat} (hn : n < 0x5000 ∨ 0x5010 ≤ n) : R.ARR_CFG a ≠ n := arrCfg_ne ha hn
  rw [State.arrEnabled, State.rd_lpSync_ne _ (hne (by decide)) (hne (by decide)) (hne (by decide)),
    State.rd_setFld_ne _ _ _ (hne (by decide)), State.rd_lweSync_ne _ (hne (by decide)), State.rd_wr]

theorem State.arrEnabled_locked : (s.arrEnabled a d).flag R.RFP_BANDPLAN F.RFP_BANDPLAN_LOCKED = true := by
  rw [State.flag, State.fld, State.arrEnabled, State.rd_lpSync_ne _ (by decide) (by decide) (by decide)]
  exact State.flag_err _ _ (by decide) (by decide)

theorem State.arrEnabled_regsBut :
    (s.arrEnabled a d).regsBut s [R.ARR_CFG a, R.RFP_BANDPLAN, R.CHZ_LWE, R.CHZ_BINS, R.CHZ_NARROW, R.SRCH_LP_USE] := by
  intro k hk
  simp only [List.mem_cons, List.not_mem_nil, or_false, not_or] at hk
  obtain ⟨hcfg, hplan, hlwe, hbins, hnarrow, huse⟩ := hk
  rw [State.arrEnabled, State.rd_lpSync_ne _ hbins hnarrow huse, State.rd_setFld_ne _ _ _ hplan, State.rd_lweSync_ne _ hlwe,
    State.rd_wr_ne _ _ hcfg]

end

section
variable {s : State} {a : Fin 4} {data : Word}

/-- A valid array that fits is enabled: the plan is locked and its calibration asked for (R54, R65). -/
theorem Does.arrayEnable (h : s.arrOn a = false) (hl : s.lpsOn = []) : let k := R.ARR_CFG a
    let d := fset F.ARR_CFG_ENABLE data 1 &&& 0xFFFF03FF
    s.arrValid a d = true → (s.wr k d).lwe ≤ 96 → Does (.arrayEnable 0 a data) s (fun t =>
      t.rd k = d ∧ t.flag R.RFP_BANDPLAN F.RFP_BANDPLAN_LOCKED = true ∧ t.arrOn a = true ∧
      t.rf.calPending.contains a.val = true ∧ t.regsBut s [k, R.RFP_BANDPLAN, R.CHZ_LWE, R.CHZ_BINS, R.CHZ_NARROW, R.SRCH_LP_USE]) := by
  intro k d hv hw
  have hlu : ((s.wr k d).lweSync.setFld R.RFP_BANDPLAN F.RFP_BANDPLAN_LOCKED 1).lpsOn = [] := by
    rw [State.lpsOn, State.setFld_rx, State.lweSync, State.setFld_rx, State.wr_rx]
    exact hl
  have e : exec (.arrayEnable 0 a data) s = .next ((s.arrEnabled a d).calRequest a) := by
    rw [exec_arrayEnable data h, hv, Bool.not_true, if_neg Bool.false_ne_true, State.capacity_ok _ (.inl hw),
      State.lpRecheck_none hlu, State.arrEnabled]
  have hr (j : Nat) : ((s.arrEnabled a d).calRequest a).rd j = (s.arrEnabled a d).rd j := State.rd_calRequest j
  have hk := s.rd_arrEnabled d a.isLt
  have hon : (s.arrEnabled a d).arrOn a = true := by
    rw [State.arrOn, State.flag, State.fld, hk, arrWord_enable]
    rfl
  refine Does.of_next e ⟨(hr k).trans hk, ?_, ?_, State.calRequest_pending hon, fun j hj => (hr j).trans (s.arrEnabled_regsBut d j hj)⟩
  · rw [← s.arrEnabled_locked (a := a) d, State.flag, State.flag, State.fld, State.fld, hr]
  · rw [← hon, State.arrOn, State.arrOn, State.flag, State.flag, State.fld, State.fld, hr]

/-- A write that would change more than `STALE_OMNI` of an enabled array is flagged (R55). -/
theorem Does.arrayConfigUpdate (h : s.arrOn a = true) : let k := R.ARR_CFG a
    let d := fset F.ARR_CFG_ENABLE data 1 &&& 0xFFFF03FF
    d &&& 0xFFFF03F6 ≠ s.rd k &&& 0xFFFF03F6 → Does (.arrayConfigUpdate 0 a data) s (fun t =>
      t.flag R.RFP_ERR F.RFP_ERR_ARRAY_BUSY = true ∧ t.fld k F.ARR_CFG_STALE_OMNI = fget F.ARR_CFG_STALE_OMNI data ∧
      t.fld k F.ARR_CFG_ELEMENTS = s.fld k F.ARR_CFG_ELEMENTS) := by
  intro k d hd
  have hk : k ≠ R.RFP_ERR := arrCfg_ne a.isLt (by decide)
  refine Does.of_next (exec_arrayConfigUpdate data h hd) ⟨State.flag_err _ _ (by decide) (by decide), ?_, ?_⟩
  · rw [State.err, State.fld_setFld_ne _ _ _ _ hk, State.fld_setFld _ _ _ _ (by decide)]
    exact Nat.mod_eq_of_lt (fget_lt _ _)
  · rw [State.err, State.fld_setFld_ne _ _ _ _ hk, State.fld_setFld_other _ _ _ _ _ (by decide) (by decide)]

/-- A disabled array neither transmits nor receives (R45). -/
theorem Does.arrayDisable (h : s.arrOn a = true) (hl : s.rx.lanes = []) (ha : s.air = []) :
    (s.wr (R.ARR_CFG a) (fset F.ARR_CFG_ENABLE data 0 &&& 0xFFFF03FF)).lwe ≤ s.lwe → Does (.arrayDisable 0 a data) s (fun t =>
      t.arrOn a = false ∧ t.arrTxen a = false ∧ t.arrRxen a = false ∧ t.rf.calPending = s.rf.calPending.filter (· ≠ a.val)) := by
  intro hw
  let d := fset F.ARR_CFG_ENABLE data 0 &&& 0xFFFF03FF
  let s1 := (s.wr (R.ARR_CFG a) d).lweSync
  have e : exec (.arrayDisable 0 a data) s = .next (s.arrOff a d) := by
    rw [exec_arrayDisable data h, State.capacity_ok _ (.inr hw)]
  have hidle (l : List Nat) : l.foldl State.beamOff s1 = s1 := List.foldl_fixed' (State.beamOff_idle (s := s1) hl ha) l
  have hregs : (s.arrOff a d).regs = s1.regs := by simp only [State.arrOff]; exact congrArg State.regs (hidle _)
  have hoff : (s.arrOff a d).arrOn a = false := by
    have hk : (s.arrOff a d).rd (R.ARR_CFG a) = d := by
      rw [State.rd, hregs]
      exact (State.rd_lweSync_ne _ (arrCfg_ne a.isLt (by decide))).trans (s.rd_wr _ _)
    rw [State.arrOn, State.flag, State.fld, hk, arrWord_enable]
    rfl
  refine Does.of_next e ⟨hoff, by simp [State.arrTxen, hoff], by simp [State.arrRxen, hoff], ?_⟩
  simp only [State.arrOff]
  rw [show ∀ l : List Nat, l.foldl State.beamOff (s.wr (R.ARR_CFG a) d).lweSync = s1 from hidle]
  rfl

end

/-! ### Beams (R55 to R57, R75) -/

/-- The keys of `ARR_BEAM` are 0x5100 to 0x51BF. -/
theorem arrBeam_ne {b n : Nat} (hb : b < 48) (hn : n < 0x5100 ∨ 0x51C0 ≤ n) : R.ARR_BEAM b ≠ n := by
  unfold R.ARR_BEAM
  omega

theorem State.beamArray_lt (s : State) (b : Nat) : s.beamArray b < 4 := fget_lt F.ARR_BEAM_ARRAY _

section
variable {s t : State}

/-- Which beams are active follows from the registers of beams and arrays. -/
theorem State.beamActive_congr {b : Nat} (hb : t.rd (R.ARR_BEAM b) = s.rd (R.ARR_BEAM b))
    (ha : ∀ a, a < 4 → t.rd (R.ARR_CFG a) = s.rd (R.ARR_CFG a)) : t.beamActive b = s.beamActive b := by
  have hba : t.beamArray b = s.beamArray b := congrArg (fget _) hb
  simp only [State.beamActive, State.beamEn, State.arrOn, State.flag, State.fld, hb, hba, ha _ (s.beamArray_lt b)]

/-- So does the count of low-window-equivalents. -/
theorem State.lwe_congr (hb : ∀ b, b < 48 → t.rd (R.ARR_BEAM b) = s.rd (R.ARR_BEAM b))
    (ha : ∀ a, a < 4 → t.rd (R.ARR_CFG a) = s.rd (R.ARR_CFG a)) : t.lwe = s.lwe := by
  have hen : (List.range 48).filter t.beamEn = (List.range 48).filter s.beamEn := by
    refine List.filter_congr fun b h => ?_
    simp only [State.beamEn, State.flag, State.fld, hb b (List.mem_range.mp h)]
  have hcfg : ∀ b ∈ (List.range 48).filter s.beamEn, lweOf (t.rd (R.ARR_CFG (t.beamArray b))) = lweOf (s.rd (R.ARR_CFG (s.beamArray b))) := by
    intro b h
    have hba : t.beamArray b = s.beamArray b := congrArg (fget _) (hb b (List.mem_range.mp (List.mem_filter.mp h).1))
    rw [hba, ha _ (s.beamArray_lt b)]
  rw [State.lwe, State.lwe, hen, List.map_congr_left hcfg]

/-- A write after an error flag leaves every register but the flag's as the write alone does. -/
theorem State.rd_err_wr (s : State) {e k j : Nat} (f : Fld) (w : Word) (h : j ≠ e) : ((s.err e f).wr k w).rd j = (s.wr k w).rd j := by
  by_cases hj : j = k
  · rw [hj, State.rd_wr, State.rd_wr]
  · rw [State.rd_wr_ne _ _ hj, State.rd_wr_ne _ _ hj, State.rd_err_ne _ _ _ h]

end

/-! A write of `ARR_BEAMb` by what is enabled: nothing holds a beam of a disabled array. -/

section
variable {s : State} {b : Fin 48} (data : Word)

/-- What an accepted write does to a beam that it makes inactive. -/
def State.beamSettle (s : State) (b : Nat) (t : State) : State := if s.beamActive b && !t.beamActive b then t.beamOff b else t

theorem State.beamCfg_free (h : s.arrOn (s.beamArray b) = false) :
    s.beamCfg 0 b data = s.capacity (s.wr (R.ARR_BEAM b) (data &&& 0xF)) (s.beamSettle b) := by
  have h2 : s.arrOn (fget F.ARR_BEAM_ARRAY (s.rd (R.ARR_BEAM b))) = false := h
  simp only [State.beamCfg, State.rfWriter_zero, if_neg (Nat.not_le.mpr b.isLt), h2, Bool.false_and, Bool.false_eq_true, if_false]
  rfl

theorem State.beamCfg_held (h : s.arrOn (s.beamArray b) = true) (he : fget F.ARR_BEAM_ENABLE data ≠ 0)
    (hd : fget F.ARR_BEAM_ARRAY data ≠ s.beamArray b) : let s0 := s.err R.RFP_ERR F.RFP_ERR_ARRAY_BUSY
    s.beamCfg 0 b data =
      s0.capacity (s0.wr (R.ARR_BEAM b) (fset F.ARR_BEAM_ARRAY (data &&& 0xF) (s.beamArray b))) (s.beamSettle b) := by
  have h2 : s.arrOn (fget F.ARR_BEAM_ARRAY (s.rd (R.ARR_BEAM b))) = true := h
  have hd2 : fget F.ARR_BEAM_ARRAY data ≠ fget F.ARR_BEAM_ARRAY (s.rd (R.ARR_BEAM b)) := hd
  simp only [State.beamCfg, State.rfWriter_zero, if_neg (Nat.not_le.mpr b.isLt), h2, he, hd2, decide_false, Bool.and_false,
    Bool.false_eq_true, ne_eq, not_false_eq_true, decide_true, Bool.and_self, if_false, if_true]
  rfl

theorem State.beamCfg_omni (h : s.arrOn (s.beamArray b) = true) (ho : s.fld (R.ARR_CFG (s.beamArray b)) F.ARR_CFG_OMNI = b)
    (he : fget F.ARR_BEAM_ENABLE data = 0) : s.beamCfg 0 b data = s.err R.RFP_ERR F.RFP_ERR_ARRAY_BUSY := by
  have h2 : s.arrOn (fget F.ARR_BEAM_ARRAY (s.rd (R.ARR_BEAM b))) = true := h
  have ho2 : s.fld (R.ARR_CFG (fget F.ARR_BEAM_ARRAY (s.rd (R.ARR_BEAM b)))) F.ARR_CFG_OMNI = b := ho
  simp only [State.beamCfg, State.rfWriter_zero, if_neg (Nat.not_le.mpr b.isLt), h2, ho2, he, decide_true, Bool.and_self, if_true]

end

section
variable {s s0 : State} {b : Fin 48} {w : Word}

/-- Where the beam was inactive or stays active, an accepted write leaves its word and the count. -/
theorem State.beamSettle_stays (hst : s.beamActive b = false ∨ (s0.wr (R.ARR_BEAM b) w).beamActive b = true) :
    s.beamSettle b (s0.wr (R.ARR_BEAM b) w).lweSync = (s0.wr (R.ARR_BEAM b) w).lweSync := by
  have hact : (s0.wr (R.ARR_BEAM b) w).lweSync.beamActive b = (s0.wr (R.ARR_BEAM b) w).beamActive b :=
    State.beamActive_congr (State.rd_lweSync_ne _ (arrBeam_ne b.isLt (by decide)))
      (fun a ha => State.rd_lweSync_ne _ (arrCfg_ne ha (by decide)))
  rw [State.beamSettle, hact]
  rcases hst with h | h <;> simp [h]

theorem State.rd_beamWrite : (s.wr (R.ARR_BEAM b) w).lweSync.rd (R.ARR_BEAM b) = w :=
  (State.rd_lweSync_ne _ (arrBeam_ne b.isLt (by decide))).trans (s.rd_wr _ _)

theorem State.beamWrite_onlyKeys : (s.wr (R.ARR_BEAM b) w).lweSync.onlyKeys s [R.ARR_BEAM b, R.CHZ_LWE] := by
  refine ⟨rfl, fun k hk => ?_⟩
  simp only [List.mem_cons, List.not_mem_nil, or_false, not_or] at hk
  rw [State.rd_lweSync_ne _ hk.2, State.rd_wr_ne _ _ hk.1]

end

section
variable {s : State} {b : Fin 48} {data : Word}

/-- A write to a beam of a disabled array that fits and does not end the beam. -/
theorem State.beamCfg_free_accepted (h : s.arrOn (s.beamArray b) = false)
    (hw : (s.wr (R.ARR_BEAM b) (data &&& 0xF)).lwe ≤ 96 ∨ (s.wr (R.ARR_BEAM b) (data &&& 0xF)).lwe ≤ s.lwe)
    (hst : s.beamActive b = false ∨ (s.wr (R.ARR_BEAM b) (data &&& 0xF)).beamActive b = true) :
    let t := s.beamCfg 0 b data
    t.rd (R.ARR_BEAM b) = data &&& 0xF ∧ t.onlyKeys s [R.ARR_BEAM b, R.CHZ_LWE] := by
  rw [State.beamCfg_free data h, State.capacity_ok _ hw, State.beamSettle_stays hst]
  exact ⟨State.rd_beamWrite, State.beamWrite_onlyKeys⟩

/-- A beam of an enabled array keeps its array. -/
theorem Does.beamEnable_held (h : s.arrOn (s.beamArray b) = true) (hd : fget F.ARR_BEAM_ARRAY data ≠ s.beamArray b) :
    let k := R.ARR_BEAM b
    let keep := fset F.ARR_BEAM_ARRAY (fset F.ARR_BEAM_ENABLE data 1 &&& 0xF) (s.beamArray b)
    (s.wr k keep).lwe ≤ 96 → (s.beamActive b = false ∨ (s.wr k keep).beamActive b = true) → Does (.beamEnable 0 b data) s (fun t =>
      t.rd k = keep ∧ t.beamArray b = s.beamArray b ∧ t.flag R.RFP_ERR F.RFP_ERR_ARRAY_BUSY = true ∧
      t.onlyKeys s [k, R.RFP_ERR, R.CHZ_LWE]) := by
  intro k keep hw hst
  let s0 := s.err R.RFP_ERR F.RFP_ERR_ARRAY_BUSY
  have hb (c : Nat) (hc : c < 48) : (s0.wr k keep).rd (R.ARR_BEAM c) = (s.wr k keep).rd (R.ARR_BEAM c) :=
    s.rd_err_wr _ _ (arrBeam_ne hc (by decide))
  have ha (a : Nat) (h : a < 4) : (s0.wr k keep).rd (R.ARR_CFG a) = (s.wr k keep).rd (R.ARR_CFG a) :=
    s.rd_err_wr _ _ (arrCfg_ne h (by decide))
  have he : fget F.ARR_BEAM_ENABLE (fset F.ARR_BEAM_ENABLE data 1) ≠ 0 := by rw [fget_fset _ _ _ (by decide)]; decide
  have hd2 : fget F.ARR_BEAM_ARRAY (fset F.ARR_BEAM_ENABLE data 1) ≠ s.beamArray b := by
    rwa [fget_fset_above _ _ _ _ (by decide) (by decide)]
  have hw0 : (s0.wr k keep).lwe ≤ 96 := State.lwe_congr hb ha ▸ hw
  have hst0 : s.beamActive b = false ∨ (s0.wr k keep).beamActive b = true := State.beamActive_congr (hb b b.isLt) ha ▸ hst
  have e : exec (.beamEnable 0 b data) s = .next (s0.wr k keep).lweSync :=
    congrArg _ ((State.beamCfg_held _ h he hd2).trans ((State.capacity_ok _ (.inl hw0)).trans (State.beamSettle_stays hst0)))
  have hk : (s0.wr k keep).lweSync.rd k = keep := State.rd_beamWrite
  refine Does.of_next e ⟨hk, ?_, ?_, rfl, fun j hj => ?_⟩
  · rw [State.beamArray, State.fld, hk, fget_fset _ _ _ (by decide)]
    exact Nat.mod_eq_of_lt (s.beamArray_lt b)
  · rw [State.flag, State.fld, State.rd_lweSync_ne _ (by decide), State.rd_wr_ne _ _ (arrBeam_ne b.isLt (by decide)).symm]
    exact s.flag_err _ (by decide) (by decide)
  · simp only [List.mem_cons, List.not_mem_nil, or_false, not_or] at hj
    obtain ⟨h0, h1, h2⟩ := hj
    rw [State.rd_lweSync_ne _ h2, s.rd_err_wr _ _ h1, State.rd_wr_ne _ _ h0]

end

/-! ### Weights (R58 to R61) -/

section
variable (s : State)

theorem State.rd_waddrNext_ne {k : Nat} (h : k ≠ R.ARR_WADDR) : s.waddrNext.rd k = s.rd k := by
  unfold State.waddrNext
  dsimp only
  split_ifs <;> simp only [State.rd_setFld_ne _ _ _ h]

theorem State.waddrNext_onlyIn : s.waddrNext.onlyIn s [.regs] := (State.waddrNext_within s (Within.refl _ s) rfl).only

theorem State.waddrNext_regsBut : s.waddrNext.regsBut s [R.ARR_WADDR] := fun _ hk => s.rd_waddrNext_ne (List.ne_of_not_mem_cons hk)

variable {s} {data : Word}

theorem State.weightWrite_busy (hs : s.fld R.ARR_WADDR F.ARR_WADDR_SET < 2) (hp : s.flag R.ARR_WCOMMIT F.ARR_WCOMMIT_PENDING = true) :
    s.weightWrite 0 data = s.err R.RFP_ERR F.RFP_ERR_WEIGHT_BUSY := by
  simp [State.weightWrite, hs, hp]

/-- While no commit is pending, or to sets 2 and 3, a write takes place where the address names a weight, and the address goes on. -/
theorem State.weightWrite_free
    (hb : 2 ≤ s.fld R.ARR_WADDR F.ARR_WADDR_SET ∨ s.flag R.ARR_WCOMMIT F.ARR_WCOMMIT_PENDING = false) : s.weightWrite 0 data =
      if s.waddrNone then s.waddrNext
      else ({ s with rf := { s.rf with weights := aset 0 (s.waddrKey 0) data s.rf.weights } }).waddrNext := by
  refine if_neg fun hc => ?_
  rw [Bool.and_eq_true, decide_eq_true_eq] at hc
  rcases hb with h | h
  · omega
  · exact absurd (h ▸ hc.2) Bool.false_ne_true

theorem Does.weightWrite (hn : s.waddrNone = false)
    (hb : s.fld R.ARR_WADDR F.ARR_WADDR_SET = 2 ∨ s.flag R.ARR_WCOMMIT F.ARR_WCOMMIT_PENDING = false) :
    Does (.weightWrite 0 data) s (fun t => aget 0 (s.waddrKey 0) t.rf.weights = data ∧ t.regsBut s [R.ARR_WADDR]) := by
  let s1 := { s with rf := { s.rf with weights := aset 0 (s.waddrKey 0) data s.rf.weights } }
  have e : exec (.weightWrite 0 data) s = .next s1.waddrNext :=
    congrArg _ ((State.weightWrite_free (hb.imp_left ge_of_eq)).trans (if_neg (by rw [hn]; exact Bool.false_ne_true)))
  refine Does.of_next e ⟨?_, s1.waddrNext_regsBut⟩
  rw [s1.waddrNext_onlyIn .rf (by decide)]
  exact aget_aset_same 0 data (s.waddrKey 0) s.rf.weights

theorem exec_weightWrite_none (hn : s.waddrNone = true)
    (hb : s.fld R.ARR_WADDR F.ARR_WADDR_SET = 3 ∨ s.flag R.ARR_WCOMMIT F.ARR_WCOMMIT_PENDING = false) :
    exec (.weightWrite 0 data) s = .next s.waddrNext :=
  congrArg _ ((State.weightWrite_free (hb.imp_left fun h => h ▸ (by decide))).trans (if_pos hn))

/-- A read answers the weight that the address names, or 0. -/
theorem Does.weightRead (s : State) (p : Part) : Does (.weightRead p) s (fun t =>
    t.reads p = (if s.waddrNone then 0 else aget 0 (s.waddrKey (s.fld R.ARR_WADDR F.ARR_WADDR_BANK)) s.rf.weights) ∧ t.rf = s.rf ∧
      t.regsBut s [R.ARR_WADDR]) := by
  refine ⟨_, rfl, ?_, State.waddrNext_onlyIn _ .rf (by decide), State.waddrNext_regsBut _⟩
  rw [State.reads, State.weightRead, State.waddrNext_onlyIn _ .host (by decide)]
  exact State.answer_readData ..

theorem Does.weightBankSwap (hr : s.running = false) (hp : s.flag R.ARR_WCOMMIT F.ARR_WCOMMIT_PENDING = true) :
    Does .weightBankSwap s (fun t => t.rf.weights = bankSwap s.rf.weights ∧ t.flag R.ARR_WCOMMIT F.ARR_WCOMMIT_PENDING = false ∧
      t.regsBut s [R.ARR_WCOMMIT]) := by
  let s1 := { s with rf := { s.rf with weights := bankSwap s.rf.weights } }
  have e : exec .weightBankSwap s = .next (s1.setFld R.ARR_WCOMMIT F.ARR_WCOMMIT_PENDING 0) := by
    simp [exec_weightBankSwap_arm, execWeightBankSwap, State.weightSwap, hr, hp, s1]
  refine Does.of_next e ⟨rfl, ?_, fun k hk => s1.rd_setFld_ne _ _ (List.ne_of_not_mem_cons hk)⟩
  rw [State.flag, State.fld_setFld _ _ _ _ (by decide)]
  rfl

theorem exec_weightBankSwap_waits (h : s.running = true ∨ s.flag R.ARR_WCOMMIT F.ARR_WCOMMIT_PENDING = false) :
    exec .weightBankSwap s = .next s := by
  rcases h with h | h <;> simp [exec_weightBankSwap_arm, execWeightBankSwap, State.weightSwap, h]

end

/-! ### The obligation -/

/-- Settles O24: the arrays' clauses from the equations of `State.arrCfg`, the beams' from those of `State.beamCfg`, and the weights' from
those of `State.weightWrite` with what `State.waddrNext` leaves alone. -/
theorem arraysAndBeams : Obligations.ArraysAndBeams := by
  unfold Obligations.ArraysAndBeams
  refine ⟨fun s a data => ?_, fun s b data => ?_, fun s p data => ?_⟩
  · intro k d
    refine ⟨fun h => ?_, fun h => ?_, fun h hv => ?_, fun h hv hw hl => Does.arrayEnable h hl hv hw, fun h hv hw hw2 => ?_,
      Does.arrayConfigUpdate, Does.arrayDisable⟩
    · exact congrArg _ (if_neg (by rw [h]; exact Bool.false_ne_true))
    · exact congrArg _ (if_pos h)
    · rw [exec_arrayEnable data h, hv, Bool.not_false, if_pos rfl]
    · rw [exec_arrayEnable data h, hv, Bool.not_true, if_neg Bool.false_ne_true, State.capacity_exceeded _ hw hw2]
  · intro k on
    refine ⟨fun h hw hst => Does.of_next rfl (State.beamCfg_free_accepted h (.inl hw) hst), fun h hw hw2 => ?_,
      Does.beamEnable_held, fun h ho => ?_, fun h hb hw => Does.of_next rfl (State.beamCfg_free_accepted h (.inr hw) (.inl hb))⟩
    · exact congrArg _ ((State.beamCfg_free _ h).trans (State.capacity_exceeded _ hw hw2))
    · exact congrArg _ (State.beamCfg_omni _ h ho (fget_fset _ _ _ (by decide)))
  · intro set
    refine ⟨Does.weightWrite, exec_weightWrite_none, fun hs hp => congrArg _ (State.weightWrite_busy hs hp), fun hp => ?_, fun hn => ?_,
      fun hn => ?_, fun hc => congrArg _ (if_pos hc), Does.weightBankSwap, exec_weightBankSwap_waits⟩
    · exact congrArg _ (s.rfWriter_other (fun h => hp (Fin.ext h)) _)
    · simpa [hn] using Does.weightRead s p
    · simpa [hn] using Does.weightRead s p

end Sys2Proof.Machine
end

section
/-! O25: why a hot die need not leave the chip in Quiet. As it enters Quiet every image session ends, and the end of a session clears its
`IMG_SESS` register, whose key follows from the session's number. The model's sessions are a list of any numbers; a session that were numbered
8,189, of which no command opens one, has the key of `SAFE_STATE`. -/

-- One proof at a time: the joined text is elaborated near its limit of memory, which proofs side by side would pass.
set_option Elab.async false

namespace Sys2Proof.Machine

/-! ### The arms of `exec` -/

section
variable (s : State)

theorem exec_dieTempSample_arm (quarter : BitVec 12) : exec (.dieTempSample quarter) s = execDieTempSample quarter s := rfl

end

/-! ### What the record of a Quiet cause leaves alone -/

section
variable (s : State) (c : Nat)

theorem State.ledgerStore_cvn (r : List Word) : (s.ledgerStore r).1.cvn = s.cvn := by
  unfold State.ledgerStore
  dsimp only
  split <;> exact State.setFld_cvn ..

theorem State.ledgerPut_cvn (code src : Nat) (p0 p1 p2 : Word) : (s.ledgerPut code src p0 p1 p2).1.cvn = s.cvn := by
  unfold State.ledgerPut
  dsimp only
  split
  · split <;> rfl
  · exact State.ledgerStore_cvn ..

/-- While no index of the Ledger fails its verification, a record stands. -/
theorem State.ledgerPut_ok (h : s.log.bad = []) (code src : Nat) (p0 p1 p2 : Word) : (s.ledgerPut code src p0 p1 p2).2 = true := by
  unfold State.ledgerPut
  dsimp only
  split
  · split <;> rfl
  · simp [State.ledgerStore, State.trail, h]

theorem State.quietOver_cvn : (s.quietOver c).cvn = s.cvn := by
  unfold State.quietOver
  dsimp only
  split <;> rfl

theorem State.quietReport_cvn : (s.quietReport c).1.cvn = s.cvn := by
  unfold State.quietReport
  dsimp only
  rw [State.evtF_cvn]
  split
  · rw [State.quietOver_cvn, State.ledgerPut_cvn]
  · exact State.ledgerPut_cvn ..

theorem State.quietLatch_cvn : (s.quietLatch c).cvn = s.cvn :=
  (State.quietLatch_within s c (Within.refl [.regs, .pass, .safe, .air, .rf] s) rfl).only .cvn (by decide)

theorem State.quietLatch_log : (s.quietLatch c).log = s.log :=
  (State.quietLatch_within s c (Within.refl [.regs, .pass, .safe, .air, .rf] s) rfl).only .log (by decide)

end

/-! ### The session that ends as the chip enters Quiet -/

section
variable {s : State} {i : Nat} {x : ImgSess} (ho : s.cvn.open_ = []) (hs : s.cvn.sess = [(i, x)])
include ho hs

/-- The one open session is the last to write. -/
theorem State.rd_quietEnds_session : s.quietEnds.rd (R.IMG_SESS i) = 0 := by
  simp only [State.quietEnds, ho, hs, List.foldl_nil, List.foldl_cons]
  exact State.rd_wr ..

/-- A cause that appears ends the session behind the latch of Quiet. -/
theorem State.rd_quiet_session {c : Nat} (hl : nbit (s.fld R.SAFE_CAUSE F.SAFE_CAUSE_LIVE) c = false) (hb : s.log.bad = []) :
    (s.quiet c).rd (R.IMG_SESS i) = 0 := by
  have hok : ((s.quietLatch c).quietReport c).2 = true := State.ledgerPut_ok _ (by rw [State.quietLatch_log, hb]) ..
  have hc : ((s.quietLatch c).quietReport c).1.cvn = s.cvn := (State.quietReport_cvn ..).trans (s.quietLatch_cvn c)
  have e : s.quiet c = ((s.quietLatch c).quietReport c).1.quietEnds := by
    simp only [State.quiet, hl, Bool.false_eq_true, if_false, hok, if_true]
  rw [e]
  exact State.rd_quietEnds_session (hc ▸ ho) (hc ▸ hs)

end

/-- A hot sample on a die without calibrated arrays is the appearance of cause 12. -/
theorem exec_dieTempSample_hot {s : State} {quarter : BitVec 12} (hq : maxJunction * 4 + 20 < quarter.toInt) (ht : s.rf.calTemp = []) :
    exec (.dieTempSample quarter) s =
      .next (({ s with rf := { s.rf with dieTemp := quarter.toInt } }.setFld R.SYS_TEMP F.SYS_TEMP_TEMP quarter.toNat).quiet 12) := by
  simp only [exec_dieTempSample_arm, execDieTempSample, if_pos hq, State.setFld_rf, ht, List.foldl_nil]

/-! ### The counterexample -/

/-- An image session of no blocks, posted by partition 0. -/
def emptySession : ImgSess where
  cmd := ⟨0, 0, 0, 0, 0, 0, 0, 0, 0⟩
  group := 0
  cls := 0
  rounds := 0
  k := 0
  r := 0
  len := 0
  imageId := 0
  image := []
  entries := 0
  state := 0
  round := 0
  next := []
  reports := []
  heard := []
  done := []
  toSend := []
  sent := 0
  waitEnd := 0
  nextAt := 0
  sport := 0
  hop := 0

/-- The block at reset, with one image session whose number gives it the key of `SAFE_STATE`. -/
def strayState : State := { State.reset with cvn := { State.reset.cvn with sess := [(8189, emptySession)] } }

theorem strayState_cool : nbit (strayState.fld R.SAFE_CAUSE F.SAFE_CAUSE_LIVE) 12 = false := by decide +kernel

/-- The highest sample lies above the threshold of cause 12 in either grade. -/
theorem maxJunction_lt_highest : maxJunction * 4 + 20 < (2047 : BitVec 12).toInt := by
  unfold maxJunction
  split <;> decide

/-- Refutes O25: the clause of the hot die. With the stray session the chip latches Quiet, and the session's end clears `SAFE_STATE` again. In the
states that runs reach the sessions are numbered 0 to 3, and no register of theirs is `SAFE_STATE`; the statement is about every state. -/
theorem not_calibrationRuns : ¬ Obligations.CalibrationRuns := by
  unfold Obligations.CalibrationRuns
  intro h
  obtain ⟨-, -, -, -, -, -, -, -, hot, -⟩ := h strayState 0 0 0 [] [] 2047
  obtain ⟨t, e, hq, -⟩ := hot maxJunction_lt_highest strayState_cool
  rw [exec_dieTempSample_hot maxJunction_lt_highest rfl, Host.Outcome.next.injEq] at e
  have hz : t.rd R.SAFE_STATE = 0 := by
    rw [← e]
    refine State.rd_quiet_session (i := 8189) (x := emptySession) rfl rfl ?_ rfl
    rw [State.fld_setFld_ne _ _ _ _ (by decide)]
    exact strayState_cool
  rw [State.inQuiet, State.flag, State.fld, hz] at hq
  exact absurd hq (by decide)

end Sys2Proof.Machine
end

section
/-! O26: listening points and profiles (R81, R102, R481). A write that enables a point runs a list of checks: the entry is stored when none of them
fails, and each that fails leaves its flag. -/

-- One proof at a time: the joined text is elaborated near its limit of memory, which proofs side by side would pass.
set_option Elab.async false

namespace Sys2Proof.Machine

/-! ### The arms of `exec` -/

section
variable (s : State) (p : Part) (data : Word)

theorem exec_lpEnable : exec (.lpEnable p data) s = .next (s.lpWrite p (data ||| 1)) := rfl
theorem exec_lpDisable : exec (.lpDisable p data) s = .next (s.lpWrite p (data &&& 0xFFFFFFFE)) := rfl
theorem exec_lpRead : exec (.lpRead p) s = .next (s.lpRead p) := rfl
theorem exec_profileWrite : exec (.profileWrite p data) s = .next (s.profileWrite p data) := rfl

end

/-! ### The writer, the point's address and its words -/

section
variable (s : State)

@[simp] theorem State.srchWriter_zero (ok : State) : s.srchWriter 0 ok = ok := rfl

theorem State.srchWriter_other {p : Nat} (hp : p ≠ 0) (ok : State) : s.srchWriter p ok = s.err R.SRCH_ERR F.SRCH_ERR_PART_WRITE := if_neg hp

theorem State.lpNext_onlyIn : s.lpNext.onlyIn s [.regs] := (State.lpNext_within s (Within.refl _ s) rfl).only

@[simp] theorem State.lpNext_rx : s.lpNext.rx = s.rx := s.lpNext_onlyIn .rx (by decide)

theorem State.rd_lpNext_ne {k : Nat} (h : k ≠ R.SRCH_LP_ADDR) : s.lpNext.rd k = s.rd k := by
  unfold State.lpNext
  split
  · exact State.rd_setFld_ne _ _ _ h
  · rfl

theorem State.flag_lpNext_ne {k : Nat} (f : Fld) (h : k ≠ R.SRCH_LP_ADDR) : s.lpNext.flag k f = s.flag k f := by
  rw [State.flag, State.flag, State.fld, State.fld, s.rd_lpNext_ne h]

variable (n : Nat) (w0 w1 : Word)

/-- Both words of a point stored, and the registers that count points brought up to date. -/
def State.lpStore : State := ((s.setLpWord n 0 w0).setLpWord n 1 w1).lpSync

theorem State.lpWord_lpStore_zero : (s.lpStore n w0 w1).lpWord n 0 = w0 :=
  (aget_aset_ne 0 w1 (2 * n + 1) (2 * n + 0) _ (by omega)).trans (aget_aset_same 0 w0 (2 * n + 0) s.rx.lp)

theorem State.lpWord_lpStore_one : (s.lpStore n w0 w1).lpWord n 1 = w1 := aget_aset_same 0 w1 (2 * n + 1) _

/-- What a write of `SRCH_LP_DATA0` that stores its words leaves. -/
theorem State.lpStore_effect : let t := (s.lpStore n w0 w1).lpNext
    t.lpOn n = bitAt w0 0 ∧ t.lpWord n 0 = w0 ∧ t.lpWord n 1 = w1 ∧
      t.regsBut s [R.SRCH_LP_ADDR, R.CHZ_BINS, R.CHZ_NARROW, R.SRCH_LP_USE] := by
  intro t
  have hw (w : Nat) : t.lpWord n w = (s.lpStore n w0 w1).lpWord n w := by rw [State.lpWord, State.lpNext_rx, State.lpWord]
  have h0 : t.lpWord n 0 = w0 := (hw 0).trans (s.lpWord_lpStore_zero n w0 w1)
  refine ⟨congrArg (bitAt · 0) h0, h0, (hw 1).trans (s.lpWord_lpStore_one n w0 w1), fun k hk => ?_⟩
  simp only [List.mem_cons, List.not_mem_nil, or_false, not_or] at hk
  obtain ⟨haddr, hbins, hnarrow, huse⟩ := hk
  exact (State.rd_lpNext_ne _ haddr).trans (State.rd_lpSync_ne _ hbins hnarrow huse)

end

/-! ### Flags of failing checks -/

section
variable (s : State)

/-- A one-bit flag that is set stays set whatever other one-bit flag is. -/
theorem State.flag_err_keeps {j k : Nat} {f g : Fld} (hf : f.lo < 32 ∧ f.w = 1) (hg : g.w = 1) (h : s.flag k g = true) :
    (s.err j f).flag k g = true := by
  obtain ⟨a, w⟩ := f
  obtain ⟨b, v⟩ := g
  obtain ⟨ha, rfl⟩ := hf
  obtain rfl : v = 1 := hg
  by_cases hk : k = j
  · subst hk
    by_cases hab : b = a
    · subst hab
      exact State.flag_err s k ha Nat.one_pos
    · have hd : b + 1 ≤ a ∨ a + 1 ≤ b := by omega
      rw [State.flag, State.err, State.fld_setFld_other s k ⟨a, 1⟩ ⟨b, 1⟩ 1 ha hd]
      exact h
  · rw [State.flag, State.err, State.fld_setFld_ne _ _ _ _ hk]
    exact h

/-- The flags of a list of checks, each with whether it fails. -/
def State.flagAll (l : List (Bool × Nat × Fld)) : State := l.foldl (fun u c => u.flagIf c.1 c.2.1 c.2.2) s

@[simp] theorem State.flagIf_false (k : Nat) (f : Fld) : s.flagIf false k f = s := rfl
@[simp] theorem State.flagIf_true (k : Nat) (f : Fld) : s.flagIf true k f = s.err k f := rfl

@[simp] theorem State.flagIf_rx (b : Bool) (k : Nat) (f : Fld) : (s.flagIf b k f).rx = s.rx := by cases b <;> rfl

@[simp] theorem State.flagAll_rx (l : List (Bool × Nat × Fld)) : (s.flagAll l).rx = s.rx :=
  State.foldl_kept State.rx _ (fun u _ => u.flagIf_rx ..) l s

variable {s} {l : List (Bool × Nat × Fld)} {k : Nat} {f : Fld}

theorem State.flagAll_cons (s : State) (c : Bool × Nat × Fld) (l : List (Bool × Nat × Fld)) :
    s.flagAll (c :: l) = (s.flagIf c.1 c.2.1 c.2.2).flagAll l := rfl

/-- Checks that all pass set nothing. -/
theorem State.flagAll_passed (h : ∀ c ∈ l, c.1 = false) : s.flagAll l = s := by
  induction l with
  | nil => rfl
  | cons c l ih =>
    have hc : c.1 = false := h c List.mem_cons_self
    rw [State.flagAll_cons, hc, State.flagIf_false]
    exact ih fun d hd => h d (List.mem_cons_of_mem _ hd)

theorem State.flagAll_keeps (hl : ∀ c ∈ l, c.2.2.lo < 32 ∧ c.2.2.w = 1) (hf : f.w = 1) (h : s.flag k f = true) :
    (s.flagAll l).flag k f = true := by
  induction l generalizing s with
  | nil => exact h
  | cons c l ih =>
    rw [State.flagAll_cons]
    refine ih (fun d hd => hl d (List.mem_cons_of_mem _ hd)) ?_
    rcases c.1 with _ | _
    · rwa [State.flagIf_false]
    · rw [State.flagIf_true]
      exact State.flag_err_keeps s (hl c List.mem_cons_self) hf h

/-- Each check that fails leaves its flag set. -/
theorem State.flagAll_failed (hl : ∀ c ∈ l, c.2.2.lo < 32 ∧ c.2.2.w = 1) (h : (true, k, f) ∈ l) : (s.flagAll l).flag k f = true := by
  obtain ⟨hlo, hw⟩ : f.lo < 32 ∧ f.w = 1 := hl _ h
  induction l generalizing s with
  | nil => exact absurd h List.not_mem_nil
  | cons c l ih =>
    have hl2 : ∀ d ∈ l, d.2.2.lo < 32 ∧ d.2.2.w = 1 := fun d hd => hl d (List.mem_cons_of_mem _ hd)
    rw [State.flagAll_cons]
    rcases List.mem_cons.mp h with e | h
    · have hk : (s.err k f).flag k f = true := State.flag_err s k (by omega) (by omega)
      rw [← e, State.flagIf_true]
      exact State.flagAll_keeps hl2 hw hk
    · exact ih hl2 h

end

/-! ### The checks of a point (R481) -/

section
variable (s : State) (w0 w1 : Word)

/-- The bins that a point would add to those in use. -/
def State.lpCharge : Nat :=
  if bitsAt w0 14 4 = 15 then (if s.narrowBeams.contains (bitsAt w0 1 6) then 0 else 5)
  else lpBins (s.family (bitsAt w0 8 6)) (bitsAt w1 0 25) (bitsAt w0 14 4)

/-- The code names no width. -/
def lpWidthBad : Bool := 9 ≤ bitsAt w0 14 4 && bitsAt w0 14 4 ≤ 14

/-- The beam does not exist, or the channel is outside its window's span. -/
def State.lpSpanBad : Bool := 48 ≤ bitsAt w0 1 6 || (!lpWidthBad w0 && !s.lpSpanOk w0 w1)

/-- The checks of a point's words: whether each fails, and its flag. -/
def State.lpChecks : List (Bool × Nat × Fld) :=
  [(lpWidthBad w0, R.SRCH_ERR, F.SRCH_ERR_WIDTH_INVALID),
    (s.profileBad (bitsAt w0 8 6), R.SRCH_ERR, F.SRCH_ERR_PROFILE_INVALID),
    (bitsAt w0 14 4 == 15 && !s.narrowOk w0 w1, R.SRCH_ERR, F.SRCH_ERR_NARROW),
    (s.lpSpanBad w0 w1, R.SRCH_ERR, F.SRCH_ERR_SPAN),
    (!lpWidthBad w0 && !s.lpPlanOk w0 w1, R.RFP_ERR, F.RFP_ERR_OUT_OF_PLAN),
    (!lpWidthBad w0 && (bitsAt w0 1 6 < 48 || bitsAt w0 14 4 ≠ 15) && 131072 < s.bins + s.lpCharge w0 w1, R.SRCH_ERR, F.SRCH_ERR_BUDGET)]

theorem State.lpEnable_eq (n : Nat) : s.lpEnable n w0 w1 =
    if (s.lpChecks w0 w1).any (·.1) then s.flagAll (s.lpChecks w0 w1) else (s.flagAll (s.lpChecks w0 w1)).lpStore n w0 w1 := by
  simp only [State.lpChecks, List.any_cons, List.any_nil, Bool.or_false, ← Bool.or_assoc]
  rfl

theorem State.lpChecks_flags : ∀ c ∈ s.lpChecks w0 w1, (c.2.1 = R.SRCH_ERR ∨ c.2.1 = R.RFP_ERR) ∧ c.2.2.lo < 32 ∧ c.2.2.w = 1 := by
  simp [State.lpChecks]

variable {s w0 w1}

theorem State.lpEnable_passed (n : Nat) (h : ∀ c ∈ s.lpChecks w0 w1, c.1 = false) : s.lpEnable n w0 w1 = s.lpStore n w0 w1 := by
  have hany : (s.lpChecks w0 w1).any (·.1) = false := by simpa using h
  rw [State.lpEnable_eq, hany, if_neg Bool.false_ne_true, State.flagAll_passed h]

theorem State.lpEnable_failed (n : Nat) {k : Nat} {f : Fld} (h : (true, k, f) ∈ s.lpChecks w0 w1) :
    s.lpEnable n w0 w1 = s.flagAll (s.lpChecks w0 w1) := by
  rw [State.lpEnable_eq, if_pos (List.any_eq_true.mpr ⟨_, h, rfl⟩)]

theorem lpWidthBad_of (h : bitsAt w0 14 4 ≤ 8 ∨ bitsAt w0 14 4 = 15) : lpWidthBad w0 = false := by
  simp only [lpWidthBad, Bool.and_eq_false_iff, decide_eq_false_iff_not]
  omega

/-- A point that is within a span has a beam. -/
theorem State.lpSpanOk_beam (h : s.lpSpanOk w0 w1 = true) : bitsAt w0 1 6 < 48 := by
  simp only [State.lpSpanOk, Bool.and_eq_true, decide_eq_true_eq] at h
  exact h.1.1

theorem State.lpCharge_narrow (h : bitsAt w0 14 4 = 15) : s.lpCharge w0 w1 = if s.narrowBeams.contains (bitsAt w0 1 6) then 0 else 5 := if_pos h

theorem State.lpCharge_wide (h : bitsAt w0 14 4 ≤ 8) :
    s.lpCharge w0 w1 = lpBins (s.family (bitsAt w0 8 6)) (bitsAt w1 0 25) (bitsAt w0 14 4) := if_neg (by omega)

/-- Every check passes of a point whose width is a code, narrow with its conditions or not, and that fits its profile, span, plan and the budget. -/
theorem State.lpChecks_passed (hw : bitsAt w0 14 4 ≤ 8 ∨ bitsAt w0 14 4 = 15 ∧ s.narrowOk w0 w1 = true)
    (hp : s.profileBad (bitsAt w0 8 6) = false) (hs : s.lpSpanOk w0 w1 = true) (hb : s.lpPlanOk w0 w1 = true)
    (hc : s.bins + s.lpCharge w0 w1 ≤ 131072) : ∀ c ∈ s.lpChecks w0 w1, c.1 = false := by
  have hwidth : lpWidthBad w0 = false := lpWidthBad_of (hw.imp_right And.left)
  have hbeam := State.lpSpanOk_beam hs
  have hnarrow : bitsAt w0 14 4 = 15 → s.narrowOk w0 w1 = true := fun h => hw.elim (fun h2 => by omega) And.right
  simp [State.lpChecks, State.lpSpanBad, hwidth, hp, hs, hb, hbeam, hc]
  exact hnarrow

/-! The check that each fault of a point's words fails. -/

theorem State.lpChecks_width (h : 9 ≤ bitsAt w0 14 4) (h2 : bitsAt w0 14 4 ≤ 14) :
    (true, R.SRCH_ERR, F.SRCH_ERR_WIDTH_INVALID) ∈ s.lpChecks w0 w1 := by
  have hbad : lpWidthBad w0 = true := by simp [lpWidthBad, h, h2]
  simp [State.lpChecks, hbad]

theorem State.lpChecks_profile (h : s.profileBad (bitsAt w0 8 6) = true) :
    (true, R.SRCH_ERR, F.SRCH_ERR_PROFILE_INVALID) ∈ s.lpChecks w0 w1 := by
  simp [State.lpChecks, h]

theorem State.lpChecks_narrow (h : bitsAt w0 14 4 = 15) (hn : s.narrowOk w0 w1 = false) :
    (true, R.SRCH_ERR, F.SRCH_ERR_NARROW) ∈ s.lpChecks w0 w1 := by
  simp [State.lpChecks, h, hn]

theorem State.lpChecks_span (h : s.lpSpanBad w0 w1 = true) : (true, R.SRCH_ERR, F.SRCH_ERR_SPAN) ∈ s.lpChecks w0 w1 := by
  simp [State.lpChecks, h]

theorem State.lpSpanBad_beam (h : 48 ≤ bitsAt w0 1 6) : s.lpSpanBad w0 w1 = true := by simp [State.lpSpanBad, h]

theorem State.lpSpanBad_window (hw : lpWidthBad w0 = false) (h : s.lpSpanOk w0 w1 = false) : s.lpSpanBad w0 w1 = true := by
  simp [State.lpSpanBad, hw, h]

theorem State.lpChecks_plan (hw : lpWidthBad w0 = false) (h : s.lpPlanOk w0 w1 = false) :
    (true, R.RFP_ERR, F.RFP_ERR_OUT_OF_PLAN) ∈ s.lpChecks w0 w1 := by
  simp [State.lpChecks, hw, h]

theorem State.lpChecks_budget (hw : lpWidthBad w0 = false) (hb : bitsAt w0 1 6 < 48 ∨ bitsAt w0 14 4 ≠ 15)
    (h : 131072 < s.bins + s.lpCharge w0 w1) : (true, R.SRCH_ERR, F.SRCH_ERR_BUDGET) ∈ s.lpChecks w0 w1 := by
  have hb2 : (bitsAt w0 1 6 < 48 || bitsAt w0 14 4 ≠ 15) = true := by simpa using hb
  simp only [State.lpChecks, hw, hb2, h]
  simp

end

/-! ### Writes of `SRCH_LP_DATA0` -/

section
variable {s : State} {data : Word}

/-- The point that `SRCH_LP_ADDR` names. -/
abbrev State.lpAt (s : State) : Nat := s.fld R.SRCH_LP_ADDR F.SRCH_LP_ADDR_LP

/-- The words that an enabling write would store. -/
abbrev lpWord0 (data : Word) : Word := (data ||| 1) &&& 0x3FFFF
abbrev State.lpWord1 (s : State) : Word := s.rd R.SRCH_LP_DATA1 &&& 0x1FFFFFF

theorem bitAt_or_one (data : Word) : bitAt (data ||| 1) 0 = true := by simp [bitAt]

theorem bitAt_lpWord0 (data : Word) : bitAt (lpWord0 data) 0 = true := by simp [bitAt]

theorem exec_lpEnable_off (h : s.lpOn s.lpAt = false) :
    exec (.lpEnable 0 data) s = .next (s.lpEnable s.lpAt (lpWord0 data) s.lpWord1).lpNext := by
  rw [exec_lpEnable]
  simp only [State.lpWrite, Fin.val_zero, State.srchWriter_zero, bitAt_or_one, h, if_true, Bool.false_eq_true, if_false]

theorem exec_lpEnable_on (h : s.lpOn s.lpAt = true) : exec (.lpEnable 0 data) s = .next (s.err R.SRCH_ERR F.SRCH_ERR_LP_BUSY).lpNext := by
  rw [exec_lpEnable]
  simp only [State.lpWrite, Fin.val_zero, State.srchWriter_zero, bitAt_or_one, h, if_true]

/-- A point is stored and enabled when every check passes. -/
theorem Does.lpEnable_passed (h : s.lpOn s.lpAt = false) (hc : ∀ c ∈ s.lpChecks (lpWord0 data) s.lpWord1, c.1 = false) :
    Does (.lpEnable 0 data) s (fun t => t.lpOn s.lpAt = true ∧ t.lpWord s.lpAt 0 = lpWord0 data ∧ t.lpWord s.lpAt 1 = s.lpWord1 ∧
      t.regsBut s [R.SRCH_LP_ADDR, R.CHZ_BINS, R.CHZ_NARROW, R.SRCH_LP_USE]) := by
  obtain ⟨hon, hw⟩ := s.lpStore_effect s.lpAt (lpWord0 data) s.lpWord1
  refine Does.of_next (exec_lpEnable_off h) ?_
  rw [State.lpEnable_passed _ hc]
  exact ⟨hon.trans (bitAt_lpWord0 data), hw⟩

/-- A check that fails sets its flag, and nothing is stored. -/
theorem Does.lpEnable_failed (h : s.lpOn s.lpAt = false) {k : Nat} {f : Fld} (hc : (true, k, f) ∈ s.lpChecks (lpWord0 data) s.lpWord1) :
    Does (.lpEnable 0 data) s (fun t => t.flag k f = true ∧ t.rx = s.rx) := by
  have hflags := s.lpChecks_flags (lpWord0 data) s.lpWord1
  have hk : k ≠ R.SRCH_LP_ADDR := by rcases (hflags _ hc).1 with e | e <;> (dsimp only at e; rw [e]; decide)
  refine Does.of_next (exec_lpEnable_off h) ?_
  rw [State.lpEnable_failed _ hc]
  exact ⟨(State.flag_lpNext_ne _ f hk).trans (State.flagAll_failed (fun c hc => (hflags c hc).2) hc), by simp⟩

/-- An enabled point is not enabled again (R102). -/
theorem Does.lpEnable_busy (h : s.lpOn s.lpAt = true) : Does (.lpEnable 0 data) s (fun t =>
    t.flag R.SRCH_ERR F.SRCH_ERR_LP_BUSY = true ∧ t.rx = s.rx ∧ t.regsBut s [R.SRCH_LP_ADDR, R.SRCH_ERR]) := by
  refine Does.of_next (exec_lpEnable_on h) ⟨?_, by simp, fun k hk => ?_⟩
  · rw [State.flag_lpNext_ne _ _ (by decide)]
    exact State.flag_err _ _ (by decide) (by decide)
  · simp only [List.mem_cons, List.not_mem_nil, or_false, not_or] at hk
    exact (State.rd_lpNext_ne _ hk.1).trans (State.rd_err_ne _ _ _ hk.2)

theorem exec_lpDisable_zero (s : State) (data : Word) :
    exec (.lpDisable 0 data) s = .next (s.lpStore s.lpAt (data &&& 0x3FFFE) s.lpWord1).lpNext := by
  have hb : bitAt (data &&& 0xFFFFFFFE) 0 = false := by simp [bitAt]
  have hw : data &&& 0xFFFFFFFE &&& 0x3FFFF = data &&& 0x3FFFE := BitVec.and_assoc ..
  rw [exec_lpDisable]
  simp only [State.lpWrite, Fin.val_zero, State.srchWriter_zero, hb, hw, Bool.false_eq_true, if_false]
  rfl

theorem Does.lpDisable (s : State) (data : Word) : Does (.lpDisable 0 data) s (fun t =>
    t.lpOn s.lpAt = false ∧ t.lpWord s.lpAt 0 = data &&& 0x3FFFE ∧ t.regsBut s [R.SRCH_LP_ADDR, R.CHZ_BINS, R.CHZ_NARROW, R.SRCH_LP_USE]) := by
  obtain ⟨hon, hw0, -, hr⟩ := s.lpStore_effect s.lpAt (data &&& 0x3FFFE) s.lpWord1
  exact Does.of_next (exec_lpDisable_zero s data) ⟨hon.trans (by simp [bitAt]), hw0, hr⟩

end

/-! ### Reads, and profiles -/

section
variable (s : State)

theorem Does.lpRead (p : Part) : Does (.lpRead p) s (fun t => t.reads p = s.lpWord s.lpAt 0 ∧ t.rd R.SRCH_LP_DATA1 = s.lpWord s.lpAt 1 ∧
    t.regsBut s [R.SRCH_LP_ADDR, R.SRCH_LP_DATA1]) := by
  refine Does.of_next (exec_lpRead s p) ⟨?_, ?_, fun k hk => ?_⟩
  · rw [State.reads, State.lpRead, State.lpNext_onlyIn _ .host (by decide)]
    exact State.answer_readData ..
  · exact (State.rd_lpNext_ne _ (by decide)).trans (State.rd_wr _ _ _)
  · simp only [List.mem_cons, List.not_mem_nil, or_false, not_or] at hk
    exact (State.rd_lpNext_ne _ hk.1).trans (State.rd_wr_ne _ _ hk.2)

/-- Whether an enabled point uses the profile that `SRCH_PROF_ADDR` names. -/
abbrev State.profUsed : Bool := s.lpsOn.any fun l => s.lpProfile l == s.fld R.SRCH_PROF_ADDR F.SRCH_PROF_ADDR_PROFILE

variable {s} (data : Word)

theorem exec_profileWrite_used (h : s.profUsed = true) : exec (.profileWrite 0 data) s = .next (s.err R.SRCH_ERR F.SRCH_ERR_LP_BUSY) :=
  congrArg _ (if_pos h)

theorem Does.profileWrite (h : s.profUsed = false) :
    let p := s.fld R.SRCH_PROF_ADDR F.SRCH_PROF_ADDR_PROFILE
    let w := s.fld R.SRCH_PROF_ADDR F.SRCH_PROF_ADDR_WORD
    Does (.profileWrite 0 data) s (fun t => t.profWord p w = profBits w data ∧ t.regs = s.regs) := by
  intro p w
  have e : exec (.profileWrite 0 data) s =
      .next { s with rx := { s.rx with prof := aset 0 (4 * p + w) (profBits w data) s.rx.prof } } :=
    congrArg _ (if_neg (Bool.not_eq_true _ ▸ h))
  exact Does.of_next e ⟨aget_aset_same 0 _ (4 * p + w) _, rfl⟩

end

/-! ### The obligation -/

/-- Settles O26: an enabling write is decided by the list of its checks, each clause naming the one that fails or that none does. -/
theorem listeningPointsAreChecked : Obligations.ListeningPointsAreChecked := by
  unfold Obligations.ListeningPointsAreChecked
  intro s p data n w0 w1
  refine ⟨fun h hw hp hs hb hc => ?_, fun h hw hn hp hs hb hc => ?_, fun h hw hw2 => ?_, fun h hp => ?_, fun h hw hn => ?_, fun h hb => ?_,
    fun h hs hw => ?_, fun h hb hw => ?_, fun h hw hc => ?_, fun h hw hb hg hc => ?_, Does.lpEnable_busy, Does.lpDisable s data,
    Does.lpRead s p, Does.profileWrite data, exec_profileWrite_used data, fun hp => congrArg _ (s.srchWriter_other hp _),
    fun hp => congrArg _ (s.srchWriter_other hp _), fun hp => congrArg _ (s.srchWriter_other hp _)⟩
  · exact Does.lpEnable_passed h (State.lpChecks_passed (.inl hw) hp hs hb ((State.lpCharge_wide hw).symm ▸ hc))
  · exact Does.lpEnable_passed h (State.lpChecks_passed (.inr ⟨hw, hn⟩) hp hs hb ((State.lpCharge_narrow hw).symm ▸ hc))
  · exact Does.lpEnable_failed h (State.lpChecks_width hw hw2)
  · exact Does.lpEnable_failed h (State.lpChecks_profile hp)
  · exact Does.lpEnable_failed h (State.lpChecks_narrow hw hn)
  · exact Does.lpEnable_failed h (State.lpChecks_span (State.lpSpanBad_beam hb))
  · exact Does.lpEnable_failed h (State.lpChecks_span (State.lpSpanBad_window (lpWidthBad_of hw) hs))
  · exact Does.lpEnable_failed h (State.lpChecks_plan (lpWidthBad_of hw) hb)
  · have hne : bitsAt w0 14 4 ≠ 15 := by omega
    exact Does.lpEnable_failed h (State.lpChecks_budget (lpWidthBad_of (.inl hw)) (.inr hne) ((State.lpCharge_wide hw).symm ▸ hc))
  · refine Does.lpEnable_failed h (State.lpChecks_budget (lpWidthBad_of (.inr hw)) (.inl hb) ?_)
    rwa [State.lpCharge_narrow hw, if_neg (ne_true_of_eq_false hg)]

end Sys2Proof.Machine
end

section
/-! O27: detections and lanes (R82 to R90, R100). A detection that waits takes an idle lane at its commit; a lane ends by being freed with a count of
its point, or moves on with its symbols. -/

-- One proof at a time: the joined text is elaborated near its limit of memory, which proofs side by side would pass.
set_option Elab.async false

namespace Sys2Proof.Machine

/-! ### The arms of `exec` -/

section
variable (s : State) (l : Fin 1152)

theorem exec_preambleDetection_arm (d : Detection) : exec (.preambleDetection d) s = execPreambleDetection d s := rfl
theorem exec_detectionCommit_arm : exec .detectionCommit s = execDetectionCommit s := rfl
theorem exec_sfdFound_arm (syms : List RxSym) : exec (.sfdFound l syms) s = execSfdFound l syms s := rfl
theorem exec_sfdLimitExpiry_arm : exec (.sfdLimitExpiry l) s = execSfdLimitExpiry l s := rfl
theorem exec_phrDecoded_arm (h : Phr) (syms : List RxSym) : exec (.phrDecoded l h syms) s = execPhrDecoded l h syms s := rfl
theorem exec_psduEnd_arm (syms : List RxSym) : exec (.psduEnd l syms) s = execPsduEnd l syms s := rfl
theorem exec_fcsCheckDone_arm (ok : Bool) (rssi : BitVec 16) (cfo : Int) :
    exec (.fcsCheckDone l ok rssi cfo) s = execFcsCheckDone l ok rssi cfo s := rfl
theorem exec_noiseFloorSample_arm (p : Fin 8192) (floor : BitVec 16) :
    exec (.noiseFloorSample p floor) s = execNoiseFloorSample p floor s := rfl

end

/-! ### Lanes and statistics -/

section
variable (s : State) (l : Nat) (x : Lane)

@[simp] theorem State.lane_setLane : (s.setLane l x).lane l = x := aget_aset_same ({} : Lane) x l s.rx.lanes

@[simp] theorem State.setLane_stat : (s.setLane l x).rx.stat = s.rx.stat := rfl

theorem State.rd_setLane_ne {k : Nat} (h1 : k ≠ R.LANE_BUSY) (h2 : k ≠ R.LANE_HIGHWATER) : (s.setLane l x).rd k = s.rd k :=
  (State.rd_setFld_ne _ _ _ h2).trans (State.rd_setFld_ne _ _ _ h1)

theorem State.rd_freeLane_ne {k : Nat} (h1 : k ≠ R.LANE_BUSY) (h2 : k ≠ R.LANE_HIGHWATER) : (s.freeLane l).rd k = s.rd k :=
  s.rd_setLane_ne l {} h1 h2

variable (p i : Nat) (v : Word)

@[simp] theorem State.stat_regs : (s.stat p i).regs = s.regs := by
  unfold State.stat
  split <;> rfl

@[simp] theorem State.stat_now : (s.stat p i).now = s.now := by
  unfold State.stat
  split <;> rfl

@[simp] theorem State.stat_dets : (s.stat p i).rx.dets = s.rx.dets := by
  unfold State.stat
  split <;> rfl

variable {s p}

/-- A point that is not suspended counts (R80). -/
theorem State.stat_item (hp : p < 8192) (hs : s.suspended p = false) :
    aget 0 (16 * p + i) (s.stat p i).rx.stat = satInc (aget 0 (16 * p + i) s.rx.stat) := by
  have hc : (p < 8192 && (i = stABANDONED || !s.suspended p)) = true := by simp [hp, hs]
  rw [State.stat, if_pos hc]
  exact aget_aset_same ..

theorem State.statSet_item (hp : p < 8192) : aget 0 (16 * p + i) (s.statSet p i v).rx.stat = v := by
  rw [State.statSet, if_pos hp]
  exact aget_aset_same ..

theorem State.statSet_item_ne {j : Nat} (h : 16 * p + j ≠ 16 * p + i) :
    aget 0 (16 * p + j) (s.statSet p i v).rx.stat = aget 0 (16 * p + j) s.rx.stat := by
  unfold State.statSet
  split
  · exact aget_aset_ne _ _ _ _ _ h
  · rfl

/-- A lane that ends with a count of its point. -/
theorem State.stat_freeLane (hp : p < 8192) (hs : s.suspended p = false) : let t := (s.stat p i).freeLane l
    (t.lane l).state = 0 ∧ aget 0 (16 * p + i) t.rx.stat = satInc (aget 0 (16 * p + i) s.rx.stat) :=
  ⟨congrArg Lane.state (State.lane_setLane _ l {}), State.stat_item i hp hs⟩

end

/-! ### Detections (R82) -/

section
variable {s : State} {d : Detection}

/-- A watched listening point is not suspended. -/
theorem State.suspended_of_watched {p : Nat} (hp : p < 8192) (h : s.watched p = true) : s.suspended p = false := by
  simp only [State.watched, State.pointBeam, if_pos hp, Bool.and_eq_true] at h
  obtain ⟨⟨hb, ha⟩, hl, -⟩ := h
  simp [State.suspended, hb, ha, hl]

theorem exec_preambleDetection_unwatched (h : s.watched d.point = false) : exec (.preambleDetection d) s = .next s := by
  simp [exec_preambleDetection_arm, execPreambleDetection, h]

theorem exec_preambleDetection_weak (h : s.detStrong d = false) : exec (.preambleDetection d) s = .next s := by
  simp [exec_preambleDetection_arm, execPreambleDetection, h]

/-- A power below the noise floor and `THRESH` is too low, but for SUN OFDM. -/
theorem State.detStrong_below (hf : s.family (s.pointProfile d.point) ≠ 1) (hp : d.point < 8192)
    (h : d.strength < sext 16 (aget 0 (16 * d.point + 9) s.rx.stat).toNat + max 6 (bitsAt (s.profWord (s.pointProfile d.point) 3) 6 6)) :
    s.detStrong d = false := by
  simp only [State.detStrong, hf, Nat.not_le.mpr hp, decide_false, Bool.false_or]
  exact decide_eq_false (Int.not_le.mpr h)

/-- With no lane and no earlier detection in the way, a detection is new. -/
theorem exec_preambleDetection_new (hw : s.watched d.point = true) (hs : s.detStrong d = true) (hm : d.mode < 6)
    (hb : 128 ≤ s.modeByte (s.pointProfile d.point) d.mode) (hl : s.rx.lanes = []) (hf : s.rx.firsts = []) :
    exec (.preambleDetection d) s = .next (s.detNew d) := by
  have hr : s.isRepeat d = false := by simp [State.isRepeat, hl]
  simp [exec_preambleDetection_arm, execPreambleDetection, hw, hs, hr, hf, Nat.not_le.mpr hm, Nat.not_lt.mpr hb]

/-- A new detection of a watched point waits for its commit and is counted. -/
theorem State.detNew_effect (hp : d.point < 8192) (hw : s.watched d.point = true) : let t := s.detNew d
    t.rx.dets = s.rx.dets ++ [s.detOf d] ∧ aget 0 (16 * d.point) t.rx.stat = satInc (aget 0 (16 * d.point) s.rx.stat) ∧ t.regs = s.regs :=
  ⟨congrArg (· ++ [s.detOf d]) (s.stat_dets _ _), State.stat_item stDETECT hp (State.suspended_of_watched hp hw), s.stat_regs _ _⟩

end

/-! ### The commit (R84, R85, R90) -/

/-- The keys of `LANE_COMMIT` are 0x8040 and up. -/
theorem laneCommit_ne (c : Nat) {n : Nat} (hn : n < 0x8040) : R.LANE_COMMIT c ≠ n := by
  unfold R.LANE_COMMIT
  omega

section
variable (s : State)

theorem State.gateEval_onlyIn : s.gateEval.onlyIn s [.pwr] := (State.gateEval_within s (Within.refl _ s) rfl).only

@[simp] theorem State.gateEval_rx : s.gateEval.rx = s.rx := s.gateEval_onlyIn .rx (by decide)
@[simp] theorem State.gateEval_regs : s.gateEval.regs = s.regs := s.gateEval_onlyIn .regs (by decide)

variable {s} {x : Det}

theorem exec_detectionCommit {ds : List Det} (h : s.rx.dets = x :: ds) :
    exec .detectionCommit s = .next (({ s with rx := { s.rx with dets := ds } }).handle x).gateEval := by
  simp only [exec_detectionCommit_arm, execDetectionCommit, h]

/-- Where no lane is busy, a detection takes one of the general lanes, if there are any. -/
theorem State.handle_idle (h : s.rx.lanes = []) :
    s.handle x = if 0 < s.available - s.reserve then s.commit x false else s.noLane x := by
  simp [State.handle, weakest, State.poolBusy, h]

/-- The last detection that waits takes the lowest idle lane of the cluster with the most. -/
theorem Does.detectionCommit (hd : s.rx.dets = [x]) (hl : s.rx.lanes = []) (hr : s.reserve < s.available) {c : Nat} (hc : s.idleCluster = some c) :
    Does .detectionCommit s (fun t => (t.lane (s.idleLane c)).state = 1 ∧ (t.lane (s.idleLane c)).point = x.point ∧
      (t.lane (s.idleLane c)).det = x.id ∧ t.rx.dets = [] ∧ t.rd (R.LANE_COMMIT c) = satInc (s.rd (R.LANE_COMMIT c))) := by
  let u : State := { s with rx := { s.rx with dets := [] } }
  let v := (u.setLane (s.idleLane c) (u.laneFor x false)).bump (R.LANE_COMMIT c)
  have hu : u.idleCluster = some c := hc
  have hg : 0 < u.available - u.reserve := Nat.sub_pos_of_lt hr
  have hcommit : u.commit x false = v := by
    rw [State.commit, hu]
    rfl
  have e : exec .detectionCommit s = .next v.gateEval := by
    rw [exec_detectionCommit hd, State.handle_idle (s := u) hl, if_pos hg, hcommit]
  have hlane : v.gateEval.lane (s.idleLane c) = u.laneFor x false := by
    rw [State.lane, State.gateEval_rx]
    exact State.lane_setLane u (s.idleLane c) (u.laneFor x false)
  have hcount : v.gateEval.rd (R.LANE_COMMIT c) = satInc (s.rd (R.LANE_COMMIT c)) := by
    rw [State.rd, State.gateEval_regs]
    exact (State.rd_bump _ _).trans (congrArg satInc (u.rd_setLane_ne _ _ (laneCommit_ne c (by decide)) (laneCommit_ne c (by decide))))
  refine Does.of_next e ⟨by rw [hlane]; rfl, by rw [hlane]; rfl, by rw [hlane]; rfl, by rw [State.gateEval_rx]; rfl, hcount⟩

/-- Without an available lane a detection is lost and counted. -/
theorem Does.detectionCommit_noLane (hd : s.rx.dets = [x]) (hl : s.rx.lanes = []) (ha : s.available = 0) : Does .detectionCommit s (fun t =>
    t.rd R.SRCH_CNT_NOLANE = satInc (s.rd R.SRCH_CNT_NOLANE) ∧ t.rx.lanes = [] ∧ t.rx.dets = []) := by
  let u : State := { s with rx := { s.rx with dets := [] } }
  have hg : ¬0 < u.available - u.reserve := by
    have : u.available = 0 := ha
    omega
  have e : exec .detectionCommit s = .next (u.noLane x).gateEval := by
    rw [exec_detectionCommit hd, State.handle_idle (s := u) hl, if_neg hg]
  refine Does.of_next e ⟨?_, by rw [State.gateEval_rx]; exact hl, by rw [State.gateEval_rx]; rfl⟩
  rw [State.rd, State.gateEval_regs]
  exact State.rd_bump _ _

theorem exec_detectionCommit_none (h : s.rx.dets = []) : exec .detectionCommit s = .next s := by
  simp only [exec_detectionCommit_arm, execDetectionCommit, h]

end

/-! ### A lane from SYNC to MERGE (R86 to R89) -/

section
variable {s : State} {l : Fin 1152} {syms : List RxSym} {h : Phr}

theorem exec_sfdFound (hx : (s.lane l).state = 1) : exec (.sfdFound l syms) s = .next (s.setLane l { s.lane l with
    state := 2, time := s.atPins (s.lane l).width, eq := syms.foldl Equaliser.train (s.lane l).eq }) :=
  congrArg _ (if_pos hx)

/-- A lane that is not in SYNC has no SFD to find or to miss. -/
theorem exec_sfd_other (hx : (s.lane l).state ≠ 1) : exec (.sfdFound l syms) s = .next s ∧ exec (.sfdLimitExpiry l) s = .next s :=
  ⟨congrArg _ (if_neg hx), congrArg _ (if_pos hx)⟩

/-- The instant at which `SFD_LIMIT` of a lane expires. -/
def Lane.sfdLimit (x : Lane) : Nat := x.since + nsTicks (symsNs x.fam x.byte (bitsAt (wordAt x.prof 0) 20 12))

theorem exec_sfdLimitExpiry (hx : (s.lane l).state = 1) : exec (.sfdLimitExpiry l) s =
    .next (((s.advanceTo (s.lane l).sfdLimit).stat (s.lane l).point stFALSE_SYNC).freeLane l) :=
  congrArg _ (if_neg (not_not.mpr hx))

/-- A lane whose limit expires is freed and counted as a false synchronisation at that instant (R86). -/
theorem Does.sfdLimitExpiry (hx : (s.lane l).state = 1) (hp : (s.lane l).point < 8192) {late : State}
    (hlate : late = s.advanceTo (s.lane l).sfdLimit) (hs : late.suspended (s.lane l).point = false) : let p := (s.lane l).point
    Does (.sfdLimitExpiry l) s (fun t => (t.lane l).state = 0 ∧
      aget 0 (16 * p + 1) t.rx.stat = satInc (aget 0 (16 * p + 1) s.rx.stat) ∧ t.now = late.now) := by
  have hrx : late.rx = s.rx := by rw [hlate, State.advanceTo_rx]
  obtain ⟨hfree, hcount⟩ := State.stat_freeLane l stFALSE_SYNC hp hs
  refine Does.of_next ((exec_sfdLimitExpiry hx).trans (by rw [← hlate])) ⟨hfree, hcount.trans (by rw [hrx]; rfl), late.stat_now _ _⟩

/-- A lane that follows the symbols of its PHR. -/
def Lane.follow (x : Lane) (syms : List RxSym) : Lane := { x with eq := syms.foldl Equaliser.follow x.eq }

theorem exec_phrDecoded_frame (hx : (s.lane l).state = 2) (hs : h.switch = none) : let x := s.lane l
    exec (.phrDecoded l h syms) s = .next (if x.phrOk h then s.setLane l { x.follow syms with
      state := 3, len := h.len, fcs2 := x.fcsLen h = 2, mcs := h.mcs, fec := h.fec }
      else (s.stat x.point stPHR_ERR).freeLane l) := by
  simp only [exec_phrDecoded_arm, execPhrDecoded, hx, hs, ne_eq, not_true_eq_false, if_false]
  rfl

section
variable {fam : Fin 4} {m : Nat} (hx : (s.lane l).state = 2) (hs : h.switch = some (fam, m)) (hf : (s.lane l).fam = 0) (hc : h.check = true)
  (hr : h.reserved = false) (hb : bitAt (wordAt (s.lane l).prof 0) 4 = true)
include hx hs hf hc hr hb

/-- A mode switch that the lane's profile enables and that names one of its modes is followed (R89). -/
theorem exec_phrDecoded_switched {i : Nat} (hi : (s.lane l).switchMode fam m = some i) :
    exec (.phrDecoded l h syms) s = .next (s.setLane l (((s.lane l).follow syms).switched fam i s.now)) := by
  simp only [exec_phrDecoded_arm, execPhrDecoded, hx, hs, hf, hc, hr, hb, ne_eq, not_true_eq_false, decide_false, Bool.not_true, Bool.or_self,
    Bool.false_eq_true, if_false]
  split
  next j hj =>
    cases hj.symm.trans hi
    rw [Lane.follow, hx, hf]
  next hj => cases hj.symm.trans hi

theorem exec_phrDecoded_unsupported (hi : (s.lane l).switchMode fam m = none) :
    exec (.phrDecoded l h syms) s = .next ((s.stat (s.lane l).point stMS_UNSUPPORTED).freeLane l) := by
  simp only [exec_phrDecoded_arm, execPhrDecoded, hx, hs, hf, hc, hr, hb, ne_eq, not_true_eq_false, decide_false, Bool.not_true, Bool.or_self,
    Bool.false_eq_true, if_false]
  split
  next j hj => cases hj.symm.trans hi
  next => rfl

end

theorem exec_psduEnd (hx : (s.lane l).state = 3) : exec (.psduEnd l syms) s =
    .next (s.setLane l { syms.foldl Lane.symbol (s.lane l) with state := 4, ends := s.atPins (s.lane l).width }) :=
  congrArg _ (if_pos hx)

variable {rssi : BitVec 16} {cfo : Int}

theorem exec_fcsCheckDone_bad (hx : (s.lane l).state = 4) :
    exec (.fcsCheckDone l false rssi cfo) s = .next ((s.stat (s.lane l).point stFCS_ERR).freeLane l) :=
  congrArg _ (if_neg (not_not.mpr hx))

theorem exec_fcsCheckDone_ok (hx : (s.lane l).state = 4) : let x := s.lane l
    let q := qOf x.sig x.err
    exec (.fcsCheckDone l true rssi cfo) s = .next ((((s.stat x.point stFCS_OK).statSet x.point 10 (w32 rssi.toNat)).statSet x.point 11
      (w32 q)).setLane l { x with state := 5, q := q, rssi := rssi.toInt, cfo := cfo }) :=
  congrArg _ (if_neg (not_not.mpr hx))

/-- A right FCS takes the lane to MERGE, with what its point's statistics hold of the frame (R88, R100). -/
theorem Does.fcsCheckDone_ok (hx : (s.lane l).state = 4) (hp : (s.lane l).point < 8192) (hs : s.suspended (s.lane l).point = false) :
    let x := s.lane l
    Does (.fcsCheckDone l true rssi cfo) s (fun t => (t.lane l).state = 5 ∧ (t.lane l).q = qOf x.sig x.err ∧
      aget 0 (16 * x.point + 4) t.rx.stat = satInc (aget 0 (16 * x.point + 4) s.rx.stat) ∧
      aget 0 (16 * x.point + 10) t.rx.stat = w32 rssi.toNat ∧ aget 0 (16 * x.point + 11) t.rx.stat = w32 (qOf x.sig x.err)) := by
  intro x
  refine Does.of_next (exec_fcsCheckDone_ok hx) ⟨by rw [State.lane_setLane], by rw [State.lane_setLane], ?_, ?_, ?_⟩ <;> rw [State.setLane_stat]
  · rw [State.statSet_item_ne _ _ (by omega), State.statSet_item_ne _ _ (by omega)]
    exact State.stat_item stFCS_OK hp hs
  · rw [State.statSet_item_ne _ _ (by omega)]
    exact State.statSet_item _ _ hp
  · exact State.statSet_item _ _ hp

/-- The noise floor of a watched point is kept while no lane is busy (R100). -/
theorem Does.noiseFloorSample {p : Fin 8192} {floor : BitVec 16} (hw : s.watched p = true) (hl : s.rx.lanes = []) :
    Does (.noiseFloorSample p floor) s (fun t =>
      aget 0 (16 * p.val + 9) t.rx.stat = w32 floor.toNat ∧ t.regs = s.regs ∧ t = { s with rx := t.rx }) := by
  have e : exec (.noiseFloorSample p floor) s = .next (s.statSet p 9 (w32 floor.toNat)) := by
    simp [exec_noiseFloorSample_arm, execNoiseFloorSample, hw, hl]
  refine Does.of_next e ⟨State.statSet_item _ _ p.isLt, ?_, ?_⟩ <;> rw [State.statSet, if_pos p.isLt]

end

/-! ### The obligation -/

/-- Settles O27: each clause is the equation of its command, with what the freed lane or the taken one and the count of its point then hold. -/
theorem receptionRuns : Obligations.ReceptionRuns := by
  unfold Obligations.ReceptionRuns
  refine ⟨fun s d x => ?_, fun s l h syms rssi cfo p floor => ?_⟩
  · refine ⟨exec_preambleDetection_unwatched, exec_preambleDetection_weak, State.detStrong_below, fun hw hs hm hb hl hf hp => ?_,
      fun hd hl _ hr _ c hc => Does.detectionCommit hd hl hr hc, fun hd hl _ ha => Does.detectionCommit_noLane hd hl ha,
      exec_detectionCommit_none⟩
    exact Does.of_next (exec_preambleDetection_new hw hs hm hb hl hf) (State.detNew_effect hp hw)
  · intro x y late
    refine ⟨exec_sfdFound, exec_sfd_other, fun hx hp hs => Does.sfdLimitExpiry hx hp rfl hs, fun hx hn ho => ?_,
      fun hx hn ho hp hs => ?_, fun fam m i hx hm hf hc hr hb => exec_phrDecoded_switched hx hm hf hc hr hb,
      fun fam m hx hm hf hc hr hb hi hp hs => ?_, exec_psduEnd, Does.fcsCheckDone_ok, fun hx hp hs => ?_, Does.noiseFloorSample⟩
    · rw [exec_phrDecoded_frame hx hn, if_pos ho]
      rfl
    · refine Does.of_next (exec_phrDecoded_frame hx hn) ?_
      rw [if_neg (ne_true_of_eq_false ho)]
      exact State.stat_freeLane l stPHR_ERR hp hs
    · exact Does.of_next (exec_phrDecoded_unsupported hx hm hf hc hr hb hi) (State.stat_freeLane l stMS_UNSUPPORTED hp hs)
    · exact Does.of_next (exec_fcsCheckDone_bad hx) (State.stat_freeLane l stFCS_ERR hp hs)

end Sys2Proof.Machine
end

section
/-! O28: copies of a frame and frames that wait for their keys (R98, R99, R184 to R186). A frame that leaves its lane meets the open entries
first, then the recent keys; a key load ends in its unit as the load of its role turns out, or at its time-out. -/

-- One proof at a time: the joined text is elaborated near its limit of memory, which proofs side by side would pass.
set_option Elab.async false

namespace Sys2Proof.Machine

/-! ### The arms of `exec` -/

section
variable (s : State)

theorem exec_crossroadsArrival_arm (l : Fin 1152) (f : RxFrame) (faults : Fin 5) :
    exec (.crossroadsArrival l f faults) s = execCrossroadsArrival l f faults s := rfl
theorem exec_mergeWindowClose_arm (n : Nat) : exec (.mergeWindowClose n) s = execMergeWindowClose n s := rfl
theorem exec_recentKeyExpiry_arm (n : Nat) : exec (.recentKeyExpiry n) s = execRecentKeyExpiry n s := rfl
theorem exec_keyLoadDone_arm (k : Fin 4) : exec (.keyLoadDone k) s = execKeyLoadDone k s := rfl
theorem exec_keyLoadTimeout_arm (j : Fin 516) : exec (.keyLoadTimeout j) s = execKeyLoadTimeout j s := rfl

end

/-! ### Copies of a frame (R95 to R99) -/

/-- The copy that a lane hands over. -/
def RxCtx.copy (x : RxCtx) : Copy := ⟨x.q, x.beam, x.point, x.time⟩

/-- The recent keys that equal a match key. -/
def State.recentOf (s : State) (k : MatchKey) : List RecentKey := s.rx.recent.filter (fun e => e.key = k)

section
variable {s : State} {l : Fin 1152} {f : RxFrame} {faults : Fin 5}

/-- A lane that is not in MERGE hands nothing over. -/
theorem exec_crossroadsArrival_other (h : (s.lane l).state ≠ 5) : exec (.crossroadsArrival l f faults) s = .next s := congrArg _ (if_pos h)

variable (h : (s.lane l).state = 5)
include h

/-- The frame is a copy of an open entry: it is counted, and kept where it is better. -/
theorem exec_crossroadsArrival_open {e : XrdEntry} :
    let x := (s.lane l).ctx l f
    s.rx.xrd.find? (fun e => e.key = matchKey f x.psdu) = some e →
      exec (.crossroadsArrival l f faults) s = .next (let t := (s.freeLane l).bump R.XRD_CNT_MERGED
        if x.copy.better e.best then t.xrdBest e.id x.copy else t) := by
  intro x he
  have he2 : (s.freeLane l).rx.xrd.find? (fun e => e.key = matchKey f x.psdu) = some e := he
  simp only [exec_crossroadsArrival_arm, execCrossroadsArrival, h, ne_eq, not_true_eq_false, if_false]
  rw [he2]
  rfl

/-- Without an open entry the frame meets the recent keys: none of them is its own. -/
theorem exec_crossroadsArrival_new :
    let x := (s.lane l).ctx l f
    s.rx.xrd.find? (fun e => e.key = matchKey f x.psdu) = none → s.recentOf (matchKey f x.psdu) = [] →
      exec (.crossroadsArrival l f faults) s = .next ((s.freeLane l).xrdPipe x faults none) := by
  intro x he hr
  have he2 : (s.freeLane l).rx.xrd.find? (fun e => e.key = matchKey f x.psdu) = none := he
  have hr2 : (s.freeLane l).rx.recent.filter (fun e => e.key = matchKey f x.psdu) = [] := hr
  simp only [exec_crossroadsArrival_arm, execCrossroadsArrival, h, ne_eq, not_true_eq_false, if_false]
  rw [he2]
  dsimp only
  rw [hr2]
  rfl

/-- One of them is its own, of a transmission within 100 µs or of an earlier one. -/
theorem exec_crossroadsArrival_recent {r : RecentKey} :
    let x := (s.lane l).ctx l f
    let rs := s.recentOf (matchKey f x.psdu)
    s.rx.xrd.find? (fun e => e.key = matchKey f x.psdu) = none → rs.getLast? = some r →
      exec (.crossroadsArrival l f faults) s = .next (if rs.any (fun e => nearTimes x.time e.rxTime)
        then (s.freeLane l).bump R.XRD_CNT_LATECOPY
        else ((s.freeLane l).bump R.XRD_CNT_RETX).xrdPipe x faults (some r.best)) := by
  intro x rs he hr
  have he2 : (s.freeLane l).rx.xrd.find? (fun e => e.key = matchKey f x.psdu) = none := he
  have hr2 : ((s.freeLane l).rx.recent.filter (fun e => e.key = matchKey f x.psdu)).getLast? = some r := hr
  simp only [exec_crossroadsArrival_arm, execCrossroadsArrival, h, ne_eq, not_true_eq_false, if_false]
  rw [he2]
  dsimp only
  rw [hr2]
  rfl

end

/-! ### A new frame (R98, R99) -/

section
variable (s : State) (x : RxCtx)

theorem State.xrdPipe_drover (faults : Nat) (prior : Option Copy) (h : x.frame.drover.isSome = true) :
    s.xrdPipe x faults prior = s.xrdOpen x prior := if_pos h

theorem State.xrdPipe_pair (faults : Nat) (prior : Option Copy) (h : x.frame.drover.isSome = false) :
    s.xrdPipe x faults prior = s.onPipe x.beam (srcNum x.frame.src) faults (fun u => u.xrdOpen x prior) :=
  if_neg (ne_true_of_eq_false h)

variable {s} {x}

/-- A pair in service executes a frame in which no comparator finds a fault. -/
theorem State.onPipe_zero {port src : Nat} {run : State → State} (h : s.fld R.SAFE_HEALTH F.SAFE_HEALTH_PIPE_OK ≠ 0) :
    s.onPipe port src 0 run = run s := if_neg h

/-- Under Hush the link layer takes nothing. -/
theorem State.linkRx_hush (h : s.pwr.hush = true) : s.linkRx x = s := if_pos h

theorem State.xrdRoom_empty (h : s.rx.xrd = []) : s.xrdRoom = s := if_pos (by rw [h]; decide)

theorem State.recentPut_empty (r : RecentKey) (h : s.rx.recent = []) : s.recentPut r = { s with rx := { s.rx with recent := [r] } } := by
  simp [State.recentPut, h]

/-- With no entry open and no key kept, a frame opens the one entry, enters its key and counts as a first copy. -/
theorem State.xrdOpen_first (hx : s.rx.xrd = []) (hr : s.rx.recent = []) (hd : x.frame.drover = none) (hh : s.pwr.hush = true) :
    let t := s.xrdOpen x none
    t.rd R.XRD_CNT_FIRST = satInc (s.rd R.XRD_CNT_FIRST) ∧ t.rx.xrd.map (·.key) = [matchKey x.frame x.psdu] ∧
      t.rx.recent.map (·.key) = [matchKey x.frame x.psdu] ∧ t.fld R.XRD_OPEN F.XRD_OPEN_ENTRIES = 1 := by
  intro t
  let k := matchKey x.frame x.psdu
  let e : XrdEntry := ⟨s.rx.nextXrd, k, s.now, x.time, x.copy, none, 0, 0, 0⟩
  let r : RecentKey := ⟨s.rx.nextXrd, k, s.now, x.time, x.copy⟩
  let u := ({ s with rx := { s.rx with xrd := [e], nextXrd := s.rx.nextXrd + 1 } }).xrdSync
  let v : State := { u with rx := { u.rx with recent := [r] } }
  have hput : u.recentPut r = v := State.recentPut_empty r hr
  have ht : t = v.bump R.XRD_CNT_FIRST := by
    simp only [t, State.xrdOpen, State.xrdRoom_empty hx, hx, hd, List.nil_append]
    exact (State.linkRx_hush (s := (u.recentPut r).bump R.XRD_CNT_FIRST) (by rw [hput]; exact hh)).trans (by rw [hput])
  have hcount : v.rd R.XRD_CNT_FIRST = s.rd R.XRD_CNT_FIRST := State.rd_setFld_ne _ _ _ (by decide)
  have hopen : v.fld R.XRD_OPEN F.XRD_OPEN_ENTRIES = 1 := State.fld_setFld _ _ _ 1 (by decide)
  rw [ht]
  refine ⟨(v.rd_bump _).trans (congrArg satInc hcount), rfl, rfl, ?_⟩
  rw [State.fld, State.rd_bump_ne _ (by decide)]
  exact hopen

/-- A frame that no pair finds a fault in, beside no entry and no recent key, leaves its lane as the first of its copies. -/
theorem Does.crossroadsArrival_first {l : Fin 1152} {f : RxFrame} (h : (s.lane l).state = 5) (hx : s.rx.xrd = []) (hr : s.rx.recent = [])
    (hp : s.fld R.SAFE_HEALTH F.SAFE_HEALTH_PIPE_OK ≠ 0) (hd : f.drover = none) (hh : s.pwr.hush = true) :
    let k := matchKey f ((s.lane l).ctx l f).psdu
    Does (.crossroadsArrival l f 0) s (fun t => t.rd R.XRD_CNT_FIRST = satInc (s.rd R.XRD_CNT_FIRST) ∧ t.rx.xrd.map (·.key) = [k] ∧
      t.rx.recent.map (·.key) = [k] ∧ t.fld R.XRD_OPEN F.XRD_OPEN_ENTRIES = 1) := by
  intro k
  let x := (s.lane l).ctx l f
  let s1 := s.freeLane l
  have he : s.rx.xrd.find? (fun e => e.key = k) = none := by rw [hx, List.find?_nil]
  have hk : s.recentOf k = [] := by rw [State.recentOf, hr, List.filter_nil]
  have hrd {n : Nat} (h1 : n ≠ R.LANE_BUSY) (h2 : n ≠ R.LANE_HIGHWATER) : s1.rd n = s.rd n := s.rd_freeLane_ne _ h1 h2
  have hpipe : s1.fld R.SAFE_HEALTH F.SAFE_HEALTH_PIPE_OK ≠ 0 := by rwa [State.fld, hrd (by decide) (by decide)]
  have hdrover : x.frame.drover.isSome = false := by rw [show x.frame.drover = none from hd, Option.isSome_none]
  have hrun : s1.xrdPipe x 0 none = s1.xrdOpen x none := (s1.xrdPipe_pair x _ _ hdrover).trans (State.onPipe_zero hpipe)
  obtain ⟨hfirst, heff⟩ := State.xrdOpen_first (s := s1) (x := x) hx hr hd hh
  refine Does.of_next ((exec_crossroadsArrival_new h he hk).trans (congrArg _ hrun)) ⟨?_, heff⟩
  rw [hfirst, hrd (by decide) (by decide)]

end

/-! ### Windows and recent keys close -/

section
variable {s : State} {n : Nat}

theorem exec_mergeWindowClose {e : XrdEntry} (h : s.rx.xrd.find? (fun e => e.id = n) = some e) :
    exec (.mergeWindowClose n) s = .next ((s.advanceTo (e.openedAt + us 400)).xrdClose e) := by
  rw [exec_mergeWindowClose_arm, execMergeWindowClose, h]

/-- The recent keys with a number leave the memory at an instant. -/
def State.recentDrop (s : State) (n at_ : Nat) : State :=
  let u := s.advanceTo at_
  { u with rx := { u.rx with recent := u.rx.recent.filter (fun y => y.id ≠ n) } }

theorem State.recentDrop_effect (s : State) (n at_ : Nat) : let t := s.recentDrop n at_
    t.rx.recent = s.rx.recent.filter (fun y => y.id ≠ n) ∧ t.now = max s.now at_ ∧ t.regs = s.regs := ⟨rfl, s.advanceTo_now at_, rfl⟩

theorem Does.recentKeyExpiry {e : RecentKey} (h : s.rx.recent.find? (fun e => e.id = n) = some e) : Does (.recentKeyExpiry n) s (fun t =>
    t.rx.recent = s.rx.recent.filter (fun y => y.id ≠ n) ∧ t.now = max s.now (e.openedAt + ms 50) ∧ t.regs = s.regs) := by
  have ht : exec (.recentKeyExpiry n) s = .next (s.recentDrop n (e.openedAt + ms 50)) := by
    rw [exec_recentKeyExpiry_arm, execRecentKeyExpiry, h]
    rfl
  exact Does.of_next ht (s.recentDrop_effect n _)

end

/-! ### Key loads (R184 to R186) -/

section
variable {s : State} {k : Fin 4}

/-- With no load queued the units have none to take. -/
theorem State.keyUnits_idle (h : s.key.loads = []) : s.keyUnits = s := by
  have ho : s.loadOrder = [] := by simp [State.loadOrder, h]
  rw [State.keyUnits, h, List.length_nil, State.keyPump, ho]
  cases s.unitFree <;> rfl

/-- A unit that serves no load finishes none. -/
theorem exec_keyLoadDone_free (h : s.keyUnits.key.units.find? (fun e => e.1 = k.val) = none) : exec (.keyLoadDone k) s = .next s.keyUnits := by
  rw [exec_keyLoadDone_arm, execKeyLoadDone]
  dsimp only
  rw [h]

theorem exec_keyLoadDone {e : Nat × KeyLoad} (h : s.keyUnits.key.units.find? (fun e => e.1 = k.val) = some e) :
    exec (.keyLoadDone k) s = .next (s.keyUnits.loadEnd e.2).keyUnits := by
  rw [exec_keyLoadDone_arm, execKeyLoadDone]
  dsimp only
  rw [h]

variable {l : KeyLoad}

/-- While every unpinned pair is locked, a load waits. -/
theorem State.loadEnd_waits (h : (s.keyReady l.role).keyLoad l.role = none) : s.loadEnd l = s.keyReady l.role := by
  rw [State.loadEnd]
  dsimp only
  rw [h]

theorem State.loadEnd_error {cause : Nat} (h : (s.keyReady l.role).keyLoad l.role = some (.error cause)) :
    s.loadEnd l = (s.keyReady l.role).loadBad l cause := by
  rw [State.loadEnd]
  dsimp only
  rw [h]

/-- A key that no frame waits for: its load leaves its unit. -/
theorem State.loadEnd_ok {t : State} (h : (s.keyReady l.role).keyLoad l.role = some (.ok t)) (hw : t.key.waits = []) :
    s.loadEnd l = ((t.loadDrop l).waitsTake l.role).2 := by
  have hn : ((t.loadDrop l).waitsTake l.role).1 = [] := by
    rw [State.waitsTake, State.loadDrop, hw]
    rfl
  rw [State.loadEnd]
  dsimp only
  rw [h]
  dsimp only
  rw [hn]
  rfl

theorem Does.keyLoadDone {t : State} (hl : s.key.loads = []) (hu : s.key.units.find? (fun e => e.1 = k.val) = some (k.val, l))
    (h : (s.keyReady l.role).keyLoad l.role = some (.ok t)) (hw : t.key.waits = []) (ht : t.key.loads = []) : Does (.keyLoadDone k) s (fun v =>
      v.key.units = t.key.units.filter (fun e => e.2 ≠ l) ∧ v.key.slots = t.key.slots ∧ v.regs = t.regs) := by
  have hs : s.keyUnits = s := State.keyUnits_idle hl
  have hd : ((t.loadDrop l).waitsTake l.role).2.key.loads = [] := by
    rw [State.waitsTake, State.loadDrop, ht]
    rfl
  have e : exec (.keyLoadDone k) s = .next ((t.loadDrop l).waitsTake l.role).2 := by
    rw [exec_keyLoadDone (hs.symm ▸ hu), hs, State.loadEnd_ok h hw, State.keyUnits_idle hd]
  exact Does.of_next e ⟨rfl, rfl, rfl⟩

variable {j : Fin 516}

theorem exec_keyLoadTimeout (h : (s.key.units.map (fun e => e.2) ++ s.loadOrder)[j.val]? = some l) :
    let w := ((s.advanceTo (l.at_ + s.missTimeout)).loadDrop l).waitsTake l.role
    exec (.keyLoadTimeout j) s = .next (((if w.1.isEmpty then w.2 else w.2.bump R.KEY_CNT_TIMEOUT).keyFramesEnd l.role
      stKEY_MISS_TIMEOUT 0).keyUnits) := by
  rw [exec_keyLoadTimeout_arm, execKeyLoadTimeout, h]

theorem exec_keyLoadTimeout_none (h : (s.key.units.map (fun e => e.2) ++ s.loadOrder)[j.val]? = none) :
    exec (.keyLoadTimeout j) s = .next s := by
  rw [exec_keyLoadTimeout_arm, execKeyLoadTimeout, h]

end

/-! ### The obligation -/

/-- Settles O28: what an arrival meets decides it, and what the load of its role gives decides the end of a load. -/
theorem copiesAndKeyLoads : Obligations.CopiesAndKeyLoads := by
  unfold Obligations.CopiesAndKeyLoads
  refine ⟨fun s l f faults n => ?_, fun s k j l => ?_⟩
  · intro y x q c s1 recent
    refine ⟨exec_crossroadsArrival_other, fun e h he hb => ?_, fun e h he hb => ?_, fun h he hr => ?_, fun r h he hr hn => ?_,
      exec_crossroadsArrival_new, fun prior h => s1.xrdPipe_drover x _ _ h, fun prior h => s1.xrdPipe_pair x _ _ h,
      fun h hx hr hf hp hd hh => hf ▸ Does.crossroadsArrival_first h hx hr hp hd hh,
      fun e => exec_mergeWindowClose, fun e => Does.recentKeyExpiry⟩
    · rw [exec_crossroadsArrival_open h he]
      exact congrArg _ (if_neg (ne_true_of_eq_false hb))
    · rw [exec_crossroadsArrival_open h he]
      exact congrArg _ (if_pos hb)
    · have hne : recent ≠ [] := fun hn => by simp [hn] at hr
      obtain ⟨r, hl⟩ := Option.isSome_iff_exists.mp (List.getLast?_isSome.mpr hne)
      rw [exec_crossroadsArrival_recent h he hl]
      exact congrArg _ (if_pos hr)
    · rw [exec_crossroadsArrival_recent h he hr]
      exact congrArg _ (if_neg (ne_true_of_eq_false hn))
  · intro u all
    refine ⟨exec_keyLoadDone_free, fun e cause he hc => ?_, fun e he hn => ?_, fun t => Does.keyLoadDone, exec_keyLoadTimeout,
      exec_keyLoadTimeout_none⟩
    · rw [exec_keyLoadDone he, State.loadEnd_error hc]
    · rw [exec_keyLoadDone he, State.loadEnd_waits hn]

end Sys2Proof.Machine
end

section
/-! O34: the return of a disabled engine (R126). The engines' states, tries and roles are fields of `SLOT_HEALTH` that do not touch one another; what
else an engine holds stands beside the registers. -/

-- One proof at a time: the joined text is elaborated near its limit of memory, which proofs side by side would pass.
set_option Elab.async false

namespace Sys2Proof.Machine

/-! ### The arms of `exec` -/

section
variable (s : State) (e : Fin 2)

theorem exec_engineBistStart_arm : exec (.engineBistStart e) s = execEngineBistStart e s := rfl
theorem exec_engineBistDone_arm (sig : BitVec 128) : exec (.engineBistDone e sig) s = execEngineBistDone e sig s := rfl
theorem exec_engineProbationEnd_arm : exec (.engineProbationEnd e) s = execEngineProbationEnd e s := rfl

end

/-! ### Registers but for a few -/

section
variable {s t u : State} {ks : List Nat}

theorem State.regsBut_refl (s : State) (ks : List Nat) : s.regsBut s ks := fun _ _ => rfl

theorem State.regsBut_trans (h : t.regsBut s ks) (h2 : u.regsBut t ks) : u.regsBut s ks := fun k hk => (h2 k hk).trans (h k hk)

theorem State.regsBut_mono {ls : List Nat} (h : t.regsBut s ks) (hs : ks ⊆ ls) : t.regsBut s ls := fun k hk => h k (fun hm => hk (hs hm))

theorem State.regsBut_of_regs (h : t.regs = s.regs) : t.regsBut s ks := fun k _ => congrArg (aget 0 k) h

theorem State.wr_regsBut (s : State) {k : Nat} (v : Word) (hk : k ∈ ks) : (s.wr k v).regsBut s ks :=
  fun _ hj => s.rd_wr_ne v (fun e => hj (e ▸ hk))

theorem State.setFld_regsBut (s : State) {k : Nat} (f : Fld) (x : Nat) (hk : k ∈ ks) : (s.setFld k f x).regsBut s ks := s.wr_regsBut _ hk

theorem State.fld_of_regsBut (h : t.regsBut s ks) {k : Nat} (hk : k ∉ ks) (f : Fld) : t.fld k f = s.fld k f := congrArg (fget f) (h k hk)

theorem State.flag_of_regsBut (h : t.regsBut s ks) {k : Nat} (hk : k ∉ ks) (f : Fld) : t.flag k f = s.flag k f :=
  congrArg (· != 0) (State.fld_of_regsBut h hk f)

theorem State.foldl_regsBut {α : Type} {f : State → α → State} (hf : ∀ u x, (f u x).regsBut u ks) (l : List α) (u : State) :
    (l.foldl f u).regsBut u ks := by
  induction l generalizing u with
  | nil => exact State.regsBut_refl u ks
  | cons x l ih => exact State.regsBut_trans (hf u x) (ih (f u x))

end

/-! ### The fields of `SLOT_HEALTH` -/

section
variable (s : State)

/-- A field of `SLOT_HEALTH` that is set leaves a field apart from it as it is. -/
theorem State.health_setFld {f g : Fld} (x : Nat) (h : f.lo + f.w ≤ 32) (hd : g.lo + g.w ≤ f.lo ∨ f.lo + f.w ≤ g.lo) :
    (s.setFld R.SLOT_HEALTH f x).fld R.SLOT_HEALTH g = s.fld R.SLOT_HEALTH g := s.fld_setFld_other _ f g x h hd

theorem engField_or (e : Nat) : engField e = F.SLOT_HEALTH_A_STATE ∨ engField e = F.SLOT_HEALTH_B_STATE := by
  unfold engField
  split <;> simp

theorem triesField_or (e : Nat) : triesField e = F.SLOT_HEALTH_A_TRIES ∨ triesField e = F.SLOT_HEALTH_B_TRIES := by
  unfold triesField
  split <;> simp

/-- A field of `SLOT_HEALTH` outside the states keeps every engine's state. -/
theorem State.engState_setFld {f : Fld} (x e : Nat) (h : f.lo + f.w ≤ 32) (hf : 6 ≤ f.lo) :
    (s.setFld R.SLOT_HEALTH f x).engState e = s.engState e := by
  refine s.health_setFld x h (.inl (Nat.le_trans ?_ hf))
  rcases engField_or e with hg | hg <;> (rw [hg]; decide)

theorem State.engState_engSet (e : Nat) {st : Nat} (h : st < 8) : (s.engSet e st).engState e = st := by
  have hf : (engField e).w = 3 ∧ (engField e).lo + (engField e).w ≤ 32 := by rcases engField_or e with hg | hg <;> (rw [hg]; decide)
  rw [State.engState, State.engSet, State.fld_setFld _ _ _ _ hf.2, hf.1]
  exact Nat.mod_eq_of_lt h

/-- The state of one engine leaves that of the other. -/
theorem State.engState_engSet_other {e o : Nat} (h : e + o = 1) (st : Nat) : (s.engSet e st).engState o = s.engState o := by
  rcases (by omega : e = 0 ∧ o = 1 ∨ e = 1 ∧ o = 0) with ⟨rfl, rfl⟩ | ⟨rfl, rfl⟩
  · exact s.health_setFld st (by decide) (.inr (by decide))
  · exact s.health_setFld st (by decide) (.inl (by decide))

/-- What a write of an engine's tries stores. -/
theorem State.engTries_setTries (e : Nat) {x : Nat} (h : x < 4) : (s.setFld R.SLOT_HEALTH (triesField e) x).engTries e = x := by
  have hf : (triesField e).w = 2 ∧ (triesField e).lo + (triesField e).w ≤ 32 := by rcases triesField_or e with hg | hg <;> (rw [hg]; decide)
  rw [State.engTries, State.fld_setFld _ _ _ _ hf.2, hf.1]
  exact Nat.mod_eq_of_lt h

theorem State.engState_setTries (e o x : Nat) : (s.setFld R.SLOT_HEALTH (triesField e) x).engState o = s.engState o := by
  refine s.engState_setFld x o ?_ ?_ <;> rcases triesField_or e with hg | hg <;> (rw [hg]; decide)

theorem State.engSet_regsBut (e st : Nat) : (s.engSet e st).regsBut s [R.SLOT_HEALTH] := s.setFld_regsBut _ _ (by simp)

theorem State.matchSync_regsBut : s.matchSync.regsBut s [R.SLOT_HEALTH] := s.setFld_regsBut _ _ (by simp)

theorem State.engState_matchSync (e : Nat) : s.matchSync.engState e = s.engState e := s.engState_setFld _ e (by decide) (by decide)

end

/-- What an engine holds beside the registers. -/
@[simp] theorem State.eng_setEng (s : State) (e : Nat) (x : EngineSt) : (s.setEng e x).eng e = x := by
  by_cases he : e = 0 <;> simp [State.eng, State.setEng, he]

/-! ### The self-test and the probation -/

/-- A self-test of an engine begins, one try more. -/
def State.engTest (s : State) (e : Nat) : State :=
  ((s.engSet e 3).setFld R.SLOT_HEALTH (triesField e) (min 3 (s.engTries e + 1))).setEng e { since := s.now }

/-- An engine that failed a self-test is disabled again, from now on. -/
def State.engAgain (s : State) (e : Nat) : State := (s.engSet e 2).setEng e { since := s.now }

/-- Its probation over, an engine stands by. -/
def State.engStandby (s : State) (e : Nat) : State := ((s.engSet e 1).setEng e {}).matchSync

/-- What a signature makes of an engine under test: it waits for the boundary, has failed for good, or is disabled again. -/
def State.engVerdict (s : State) (e : Nat) (sig : BitVec 128) : State :=
  if s.bistGood (16 + e) 3 sig then s.setEng e { ready := true }
  else if 3 ≤ s.engTries e then s.engSet e 5
  else s.engAgain e

/-- What 60 s of matching make of an engine in probation: it waits for the revert boundary, or stands by. -/
def State.engMatched (s : State) (e : Nat) : State :=
  if s.prefer = e && s.flag R.SLOT_CFG F.SLOT_CFG_REVERT_EN then s.setEng e { s.eng e with revert := true }
  else s.engStandby e

/-! What they leave at an instant `n`, in terms of the state before it. -/

section
variable (s : State) (e n : Nat)

theorem State.engTest_effect : let t := (s.advanceTo n).engTest e
    t.engState e = 3 ∧ t.engTries e = min 3 (s.engTries e + 1) ∧ t.now = max s.now n ∧ t.regsBut s [R.SLOT_HEALTH] := by
  refine ⟨?_, State.engTries_setTries _ e (by omega), s.advanceTo_now n, ?_⟩
  · exact (State.engState_setTries _ e e _).trans (s.engState_engSet e (by decide))
  · exact State.regsBut_trans (s.engSet_regsBut e 3) (State.setFld_regsBut _ _ _ (by simp))

theorem State.engStandby_effect : let t := (s.advanceTo n).engStandby e
    t.engState e = 1 ∧ t.now = max s.now n :=
  ⟨(State.engState_matchSync _ e).trans (s.engState_engSet e (by decide)), s.advanceTo_now n⟩

variable {s e n} {sig : BitVec 128}

theorem State.engVerdict_good (h : s.bistGood (16 + e) 3 sig = true) : let t := (s.advanceTo n).engVerdict e sig
    (t.eng e).ready = true ∧ t.now = max s.now n ∧ t.regs = s.regs := by
  have he : (s.advanceTo n).engVerdict e sig = (s.advanceTo n).setEng e { ready := true } := if_pos h
  rw [he]
  exact ⟨congrArg EngineSt.ready (State.eng_setEng _ e _), s.advanceTo_now n, rfl⟩

theorem State.engVerdict_failed (h : s.bistGood (16 + e) 3 sig = false) (hn : s.engTries e = 3) : let t := (s.advanceTo n).engVerdict e sig
    t.engState e = 5 ∧ t.regsBut s [R.SLOT_HEALTH] := by
  have he : (s.advanceTo n).engVerdict e sig = (s.advanceTo n).engSet e 5 := (if_neg (ne_true_of_eq_false h)).trans (if_pos hn.ge)
  rw [he]
  exact ⟨State.engState_engSet _ e (by decide), s.engSet_regsBut e 5⟩

theorem State.engVerdict_again (h : s.bistGood (16 + e) 3 sig = false) (hn : s.engTries e < 3) : let t := (s.advanceTo n).engVerdict e sig
    t.engState e = 2 ∧ (t.eng e).since = t.now ∧ t.regsBut s [R.SLOT_HEALTH] := by
  have he : (s.advanceTo n).engVerdict e sig = (s.advanceTo n).engAgain e :=
    (if_neg (ne_true_of_eq_false h)).trans (if_neg (Nat.not_le.mpr hn))
  rw [he]
  exact ⟨State.engState_engSet _ e (by decide), congrArg EngineSt.since (State.eng_setEng _ e _), s.engSet_regsBut e 2⟩

theorem State.engMatched_standby (h : s.prefer ≠ e ∨ s.flag R.SLOT_CFG F.SLOT_CFG_REVERT_EN = false) :
    (s.advanceTo n).engMatched e = (s.advanceTo n).engStandby e := by
  refine if_neg fun hc => ?_
  simp only [Bool.and_eq_true, decide_eq_true_eq] at hc
  exact h.elim (fun hp => hp hc.1) (fun hf => ne_true_of_eq_false hf hc.2)

theorem State.engMatched_revert (h : s.prefer = e) (hr : s.flag R.SLOT_CFG F.SLOT_CFG_REVERT_EN = true) :
    let t := (s.advanceTo n).engMatched e
    (t.eng e).revert = true ∧ t.regs = s.regs := by
  have he : (s.advanceTo n).engMatched e = (s.advanceTo n).setEng e { (s.advanceTo n).eng e with revert := true } :=
    if_pos ((Bool.and_eq_true _ _).mpr ⟨decide_eq_true h, hr⟩)
  rw [he]
  exact ⟨congrArg EngineSt.revert (State.eng_setEng _ e _), rfl⟩

end

section
variable {s : State} {e : Fin 2} {sig : BitVec 128}

theorem exec_engineBistStart (h : s.engState e = 2) :
    exec (.engineBistStart e) s = .next ((s.advanceTo ((s.eng e).since + sec 1)).engTest e) := by
  simp only [exec_engineBistStart_arm, execEngineBistStart, State.engTest, h, ne_eq, not_true_eq_false, if_false]

/-- The end of a self-test that a BIST_RUN has not taken over. -/
theorem exec_engineBistDone (h : s.engState e = 3) (hr : (s.eng e).ready = false) (hb : s.bistRegion ≠ some (16 + e.val)) :
    exec (.engineBistDone e sig) s = .next ((s.advanceTo ((s.eng e).since + ms 20)).engVerdict e sig) := by
  simp only [exec_engineBistDone_arm, execEngineBistDone, State.engVerdict, State.engAgain, h, hr, hb, ne_eq, not_true_eq_false, decide_false,
    Bool.or_self, Bool.false_eq_true, if_false]

theorem exec_engineProbationEnd (h : s.engState e = 4) (hr : (s.eng e).revert = false) :
    exec (.engineProbationEnd e) s = .next ((s.advanceTo ((s.eng e).probFrom + sec 60)).engMatched e) := by
  simp only [exec_engineProbationEnd_arm, execEngineProbationEnd, State.engMatched, State.engStandby, h, hr, ne_eq, not_true_eq_false, decide_false,
    Bool.or_self, Bool.false_eq_true, if_false]

end

/-! ### The obligation -/

/-- Settles O34: each clause is the branch of its command that the signature, the tries or `PREFER` chooses. -/
theorem enginesReturn : Obligations.EnginesReturn := by
  unfold Obligations.EnginesReturn
  intro s e sig good tested
  refine ⟨fun h => ?_, fun ⟨h, hr, hb⟩ hg => ?_, fun ⟨h, hr, hb⟩ hg hn => ?_, fun ⟨h, hr, hb⟩ hg hn => ?_, fun h hr hp => ?_,
    fun h hr hp hf => ?_⟩
  · obtain ⟨hst, htries, hnow, hregs⟩ := s.engTest_effect e ((s.eng e).since + sec 1)
    exact Does.of_next (exec_engineBistStart h) ⟨hst, htries, hnow, hregs⟩
  · exact Does.of_next (exec_engineBistDone h hr hb) (State.engVerdict_good hg)
  · exact Does.of_next (exec_engineBistDone h hr hb) (State.engVerdict_failed hg hn)
  · exact Does.of_next (exec_engineBistDone h hr hb) (State.engVerdict_again hg hn)
  · refine Does.of_next (exec_engineProbationEnd h hr) ?_
    rw [State.engMatched_standby hp]
    exact s.engStandby_effect e _
  · exact Does.of_next (exec_engineProbationEnd h hr) (State.engMatched_revert hp hf)

end Sys2Proof.Machine
end

section
/-! O31: the slot engine from its start to its stop (R103, R104, R114). A boundary enters its slot, does what is due there and settles the roles; a
preparation reads and compares first and plans then. -/

-- One proof at a time: the joined text is elaborated near its limit of memory, which proofs side by side would pass.
set_option Elab.async false

namespace Sys2Proof.Machine

/-! ### The arms of `exec` -/

section
variable (s : State)

theorem exec_slotStart_zero : exec (.slotStart 0) s = .next s.slotStart := rfl
theorem exec_slotStop_zero : exec (.slotStop 0) s = .next s.slotStop := rfl
theorem exec_slotBoundary_arm : exec .slotBoundary s = execSlotBoundary s := rfl
theorem exec_slotPreparation_arm (k : SlotCheck) : exec (.slotPreparation k) s = execSlotPreparation k s := rfl

end

/-! ### Start and stop (R104) -/

/-- The first slot of a start at city time `t`, on a grid with epoch `e` and slots of `l` ns: the first whose boundary is 1 ms away or more. -/
def firstSlot (e l t : Nat) : Nat :=
  let n := (t - e) / l + 1
  if e + n * l < t + 1000000 then n + 1 else n

theorem firstSlot_bounds {e l t : Nat} (he : e ≤ t) (hl : 5000000 ≤ l) :
    t + 1000000 ≤ e + firstSlot e l t * l ∧ e + firstSlot e l t * l ≤ t + 1000000 + l := by
  have hdiv : l * ((t - e) / l) + (t - e) % l = t - e := Nat.div_add_mod _ _
  have hmod : (t - e) % l < l := Nat.mod_lt _ (by omega)
  have h1 : ((t - e) / l + 1) * l = l * ((t - e) / l) + l := by ring
  have h2 : ((t - e) / l + 1 + 1) * l = l * ((t - e) / l) + l + l := by ring
  unfold firstSlot
  dsimp only
  split <;> omega

section
variable {s : State}

theorem State.slotStart_refused (hr : s.running = false) (hp : s.slotPending = false) (ht : s.time.valid = false) :
    s.slotStart = s.err R.SLOT_ERR F.SLOT_ERR_START_REFUSED := by simp [State.slotStart, hr, hp, ht]

/-- A start that passes its checks. -/
theorem State.slotStart_accepted (hr : s.running = false) (hp : s.slotPending = false) (ht : s.time.valid = true) (he : s.gridNow.1 ≤ s.cityNs)
    (hn : s.fld R.SLOT_EPOCH_NS F.SLOT_EPOCH_NS_NS < 1000000000) (hs : s.sfs ≠ []) (hl : 5000000 ≤ s.gridNow.2.1)
    (hl2 : s.gridNow.2.1 ≤ 80000000) (hv : ∀ i ∈ s.sfs, s.tplValid (s.sfTpl i) = true) :
    s.slotStart = { s with slot := { s.slot with
      startAsn := some (firstSlot s.gridNow.1 s.gridNow.2.1 s.cityNs), grid := some s.gridNow, stopping := false } } := by
  have hi : s.sfs.isEmpty = false := by simpa using hs
  have ha : s.sfs.any (fun i => !s.tplValid (s.sfTpl i)) = false := by simpa using hv
  have hc : (!s.time.valid || s.cityNs < s.gridNow.1 || 1000000000 ≤ s.fld R.SLOT_EPOCH_NS F.SLOT_EPOCH_NS_NS || s.sfs.isEmpty ||
      s.gridNow.2.1 < 5000000 || 80000000 < s.gridNow.2.1) = false := by
    simp only [ht, hi, Bool.not_true, Bool.or_false, Bool.or_eq_false_iff, decide_eq_false_iff_not, true_and]
    omega
  have hb : (s.running || s.slotPending) = false := by simp [hr, hp]
  rw [State.slotStart]
  dsimp only
  rw [hb, hc, ha]
  rfl

theorem State.slotStop_active (h : s.running = true ∨ s.slotPending = true) :
    s.slotStop = { s with slot := { s.slot with stopping := true } } := if_pos (by simpa using h)

end

/-! ### The engines as they start, stop and change roles (R125 to R127) -/

section
variable (s : State)

theorem State.engState_setPrimary (x e : Nat) : (s.setFld R.SLOT_HEALTH F.SLOT_HEALTH_PRIMARY x).engState e = s.engState e :=
  s.engState_setFld x e (by decide) (by decide)

theorem State.engPrimary_regsBut (e : Nat) : (s.engPrimary e).regsBut s [R.SLOT_HEALTH] :=
  State.regsBut_trans (s.engSet_regsBut e 0) (State.setFld_regsBut _ _ _ (by simp))

theorem State.engStart_regsBut : s.engStart.regsBut s [R.SLOT_HEALTH] := by
  unfold State.engStart
  dsimp only
  split
  · exact State.regsBut_refl s _
  · exact State.regsBut_trans (s.engPrimary_regsBut _) (State.foldl_regsBut (fun u o => u.engSet_regsBut o 1) _ _)

theorem State.engStart_onlyIn : s.engStart.onlyIn s [.regs] := (State.engStart_within s (Within.refl _ s) rfl).only

theorem State.engStop_regsBut : s.engStop.regsBut s [R.SLOT_HEALTH] := by
  refine State.regsBut_trans (State.foldl_regsBut (fun u e => ?_) _ _) (State.matchSync_regsBut _)
  split
  · exact u.engSet_regsBut e 6
  · exact State.regsBut_refl u _

theorem State.engProbation_regsBut (e : Nat) : (s.engProbation e).regsBut s [R.SLOT_HEALTH] := by
  unfold State.engProbation
  split
  · exact State.regsBut_trans (s.engSet_regsBut e 4) (State.matchSync_regsBut _)
  · exact State.regsBut_refl s _

@[simp] theorem State.setEng_cur (e : Nat) (x : EngineSt) : (s.setEng e x).slot.cur = s.slot.cur := by
  unfold State.setEng
  split <;> rfl

@[simp] theorem State.engProbation_cur (e : Nat) : (s.engProbation e).slot.cur = s.slot.cur := by
  unfold State.engProbation
  split
  · exact State.setEng_cur ..
  · rfl

variable {s}

/-- An engine that enters probation waits for no revert. -/
theorem State.engProbation_revert (e : Nat) {o : Nat} (h : (s.eng o).revert = false) : ((s.engProbation e).eng o).revert = false := by
  have he (x : EngineSt) (hx : x.revert = false) : ((s.setEng e x).eng o).revert = false := by
    unfold State.eng State.setEng at *
    by_cases h1 : e = 0 <;> by_cases h2 : o = 0 <;> simp_all
  unfold State.engProbation
  split
  · exact he _ rfl
  · exact h

theorem State.engProbation_other {e : Nat} (h : s.engState e ≠ 3) : s.engProbation e = s := if_neg (by simp [h])

theorem State.engRevert_none {e : Nat} (n : Nat) (h : s.engState e ≠ 4 ∨ (s.eng e).revert = false) : s.engRevert e n = s :=
  if_neg (by rcases h with h | h <;> simp [h])

/-- With both engines in service, the one that `PREFER` names is primary and the other stands by (R127). -/
theorem State.engStart_both (h0 : s.engState 0 = 6) (h1 : s.engState 1 = 6) : s.engStart = (s.engPrimary s.prefer).engSet (1 - s.prefer) 1 := by
  have hp : s.prefer = 0 ∨ s.prefer = 1 := by
    have : s.prefer < 2 := fget_lt F.SLOT_CFG_PREFER _
    omega
  have hup : [s.prefer, 1 - s.prefer].filter (fun e => s.engState e = 6) = [s.prefer, 1 - s.prefer] := by
    rcases hp with hp | hp <;> simp [hp, h0, h1]
  rw [State.engStart, hup]
  rfl

theorem State.engStart_roles (h0 : s.engState 0 = 6) (h1 : s.engState 1 = 6) : let t := s.engStart
    t.primary = s.prefer ∧ t.engState s.prefer = 0 ∧ t.engState (1 - s.prefer) = 1 := by
  have hp : s.prefer < 2 := fget_lt F.SLOT_CFG_PREFER _
  have ho : (1 - s.prefer) + s.prefer = 1 := by omega
  rw [State.engStart_both h0 h1]
  refine ⟨?_, ?_, State.engState_engSet _ _ (by decide)⟩
  · have hf : F.SLOT_HEALTH_PRIMARY.lo + F.SLOT_HEALTH_PRIMARY.w ≤ 32 := by decide
    have hlo : (engField (1 - s.prefer)).lo + (engField (1 - s.prefer)).w ≤ 6 := by
      rcases engField_or (1 - s.prefer) with hg | hg <;> (rw [hg]; decide)
    refine ((State.health_setFld _ 1 (by omega) (.inr hlo)).trans (State.fld_setFld _ _ _ _ hf)).trans ?_
    exact Nat.mod_eq_of_lt hp
  · exact (State.engState_engSet_other _ ho 1).trans ((State.engState_setPrimary _ _ _).trans (s.engState_engSet _ (by decide)))

end

/-! ### What a boundary does (R103, R110, R126) -/

/-- Slot `n` is the current one, and the ASN registers show it. -/
def State.slotTake (s : State) (n : Nat) : State :=
  let asn := n % 2 ^ 40
  let s1 := (s.wr R.SLOT_ASN_LO (w32 asn)).wr R.SLOT_ASN_HI (w32 (asn / 2 ^ 32))
  { s1 with slot := { s1.slot with cur := n, startAsn := none } }

/-- A slot that had no preparation is read now. -/
def State.snapDue (s : State) (n : Nat) : State := if s.slot.prepared = n + 1 then s else s.snapPut (s.snapNow n)

/-- A slot is entered, by an engine that ran or by one that starts and takes its roles. -/
def State.slotEnter (s : State) (n : Nat) (ran : Bool) : State :=
  (if ran then s.slotTake n else ((s.slotTake n).setFld R.SLOT_CTRL F.SLOT_CTRL_RUNNING 1).engStart).snapDue n

/-- What the roles of the engines become at the boundary of slot `n`. -/
def State.slotRoles (s : State) (n : Nat) : State := (((s.engProbation 0).engProbation 1).engRevert 0 n).engRevert 1 n

section
variable (s : State) (n : Nat)

@[simp] theorem State.snapDue_regs : (s.snapDue n).regs = s.regs := by
  unfold State.snapDue
  split <;> rfl

@[simp] theorem State.snapDue_pwr : (s.snapDue n).pwr = s.pwr := by
  unfold State.snapDue
  split <;> rfl

@[simp] theorem State.snapDue_cur : (s.snapDue n).slot.cur = s.slot.cur := by
  unfold State.snapDue
  split <;> rfl

@[simp] theorem State.snapDue_startAsn : (s.snapDue n).slot.startAsn = s.slot.startAsn := by
  unfold State.snapDue
  split <;> rfl

@[simp] theorem State.snapDue_eng (e : Nat) : (s.snapDue n).eng e = s.eng e := by
  unfold State.snapDue
  split <;> rfl

theorem State.slotTake_regsBut : (s.slotTake n).regsBut s [R.SLOT_ASN_LO, R.SLOT_ASN_HI] :=
  State.regsBut_trans (s.wr_regsBut (k := R.SLOT_ASN_LO) _ (by simp)) (State.wr_regsBut _ (k := R.SLOT_ASN_HI) _ (by simp))

theorem State.weightSwap_regsBut : s.weightSwap.regsBut s [R.ARR_WCOMMIT] := by
  unfold State.weightSwap
  split
  · exact State.setFld_regsBut _ _ _ (by simp)
  · exact State.regsBut_refl s _

theorem State.weightSwap_onlyIn : s.weightSwap.onlyIn s [.regs, .rf] := (State.weightSwap_within s (Within.refl _ s) rfl).only

/-- Of the slot engine's own state, what is due at a boundary changes the instant of the boundary. -/
theorem State.boundaryDue_slot : s.boundaryDue.slot = { s.slot with boundaryAt := s.now } := by
  have hw := s.weightSwap_onlyIn
  have hd := (State.deeperDue_within s.weightSwap (Within.refl [.regs, .pass, .pwr, .air, .rf, .rx] _) rfl).only
  have hslot : s.weightSwap.deeperDue.slot = s.slot := (hd .slot (by decide)).trans (hw .slot (by decide))
  have hnow : s.weightSwap.deeperDue.now = s.now := (hd .now (by decide)).trans (hw .now (by decide))
  rw [State.boundaryDue]
  dsimp only
  rw [hslot, hnow]

theorem State.eng_boundaryDue (e : Nat) : s.boundaryDue.eng e = s.eng e := by
  rw [State.eng, State.boundaryDue_slot]
  rfl

variable {s}

/-- With no deeper power state waiting, a boundary leaves the registers but for a swap of the weight banks. -/
theorem State.boundaryDue_regsBut (h : s.pwr.deeper = none) : s.boundaryDue.regsBut s [R.ARR_WCOMMIT] := by
  have hp : s.weightSwap.pwr.deeper = none := by rw [s.weightSwap_onlyIn .pwr (by decide), h]
  have hd : s.weightSwap.deeperDue = s.weightSwap := by rw [State.deeperDue, hp]
  rw [State.boundaryDue, hd]
  exact s.weightSwap_regsBut

theorem State.slotRoles_settled (h0 : (s.eng 0).revert = false) (h1 : (s.eng 1).revert = false) :
    s.slotRoles n = (s.engProbation 0).engProbation 1 := by
  have h (o : Nat) (ho : (s.eng o).revert = false) : (((s.engProbation 0).engProbation 1).eng o).revert = false :=
    State.engProbation_revert 1 (State.engProbation_revert 0 ho)
  rw [State.slotRoles, State.engRevert_none n (.inr (h 0 h0)), State.engRevert_none n (.inr (h 1 h1))]

/-- Engines in service keep their roles. -/
theorem State.slotRoles_serving (h0 : s.engState 0 < 3) (h1 : s.engState 1 < 3) : s.slotRoles n = s := by
  rw [State.slotRoles, State.engProbation_other (by omega : s.engState 0 ≠ 3), State.engProbation_other (by omega : s.engState 1 ≠ 3),
    State.engRevert_none n (.inl (by omega : s.engState 0 ≠ 4)), State.engRevert_none n (.inl (by omega : s.engState 1 ≠ 4))]

/-- An engine that ran enters the next slot. -/
theorem State.slotEnter_ran (s : State) (n : Nat) : let t := s.slotEnter n true
    t.running = s.running ∧ t.slot.cur = n ∧ t.rd R.SLOT_ASN_LO = w32 (n % 2 ^ 40) ∧ t.rd R.SLOT_ASN_HI = w32 (n % 2 ^ 40 / 2 ^ 32) := by
  have hregs : (s.slotEnter n true).regsBut (s.slotTake n) [] := State.regsBut_of_regs (State.snapDue_regs _ n)
  refine ⟨?_, State.snapDue_cur _ n, ?_, ?_⟩
  · exact (State.flag_of_regsBut hregs List.not_mem_nil _).trans (State.flag_of_regsBut (s.slotTake_regsBut n) (by decide) _)
  · exact (hregs _ List.not_mem_nil).trans ((State.rd_wr_ne _ _ (by decide)).trans (State.rd_wr _ _ _))
  · exact (hregs _ List.not_mem_nil).trans (State.rd_wr _ _ _)

/-- An engine that starts enters its first slot, and both engines take their roles. -/
theorem State.slotEnter_first (h0 : s.engState 0 = 6) (h1 : s.engState 1 = 6) : let t := s.slotEnter n false
    t.running = true ∧ t.slot.cur = n ∧ t.slot.startAsn = none ∧ t.pwr = s.pwr ∧ t.primary = s.prefer ∧ t.engState s.prefer = 0 ∧
      t.engState (1 - s.prefer) = 1 := by
  let u := (s.slotTake n).setFld R.SLOT_CTRL F.SLOT_CTRL_RUNNING 1
  have hu : u.regsBut s [R.SLOT_ASN_LO, R.SLOT_ASN_HI, R.SLOT_CTRL] :=
    State.regsBut_trans (State.regsBut_mono (s.slotTake_regsBut n) (by simp)) (State.setFld_regsBut _ _ _ (by simp))
  have hstate (e : Nat) : u.engState e = s.engState e := State.fld_of_regsBut hu (by decide) _
  have hprefer : u.prefer = s.prefer := State.fld_of_regsBut hu (by decide) _
  have hslot : u.engStart.slot = (s.slotTake n).slot := u.engStart_onlyIn .slot (by decide)
  have hrun : u.engStart.running = true :=
    (State.flag_of_regsBut u.engStart_regsBut (by decide) _).trans (State.flag_err _ _ (by decide) (by decide))
  have hroles := State.engStart_roles ((hstate 0).trans h0) ((hstate 1).trans h1)
  rw [hprefer] at hroles
  obtain ⟨hprim, hst, hother⟩ := hroles
  have hregs : (s.slotEnter n false).regsBut u.engStart [] := State.regsBut_of_regs (State.snapDue_regs _ n)
  have hfld (k : Nat) (f : Fld) : (s.slotEnter n false).fld k f = u.engStart.fld k f := State.fld_of_regsBut hregs List.not_mem_nil f
  exact ⟨(State.flag_of_regsBut hregs List.not_mem_nil _).trans hrun, (State.snapDue_cur _ n).trans (congrArg SlotSt.cur hslot),
    (State.snapDue_startAsn _ n).trans (congrArg SlotSt.startAsn hslot),
    (State.snapDue_pwr _ n).trans (u.engStart_onlyIn .pwr (by decide)), (hfld _ _).trans hprim, (hfld _ _).trans hst, (hfld _ _).trans hother⟩

/-- A boundary of an engine that runs on takes the next ASN. -/
theorem State.slotRun_effect (hd : s.pwr.deeper = none) (h0 : (s.eng 0).revert = false) (h1 : (s.eng 1).revert = false) :
    let t := ((s.slotEnter n true).boundaryDue).slotRoles n
    t.running = s.running ∧ t.slot.cur = n ∧ t.rd R.SLOT_ASN_LO = w32 (n % 2 ^ 40) ∧ t.rd R.SLOT_ASN_HI = w32 (n % 2 ^ 40 / 2 ^ 32) := by
  intro t
  let u := s.slotEnter n true
  have hpwr : u.pwr.deeper = none := (congrArg PwrSt.deeper (State.snapDue_pwr _ n)).trans hd
  have heng (e : Nat) : u.boundaryDue.eng e = s.eng e := (State.eng_boundaryDue _ e).trans (State.snapDue_eng _ n e)
  have ht : t = (u.boundaryDue.engProbation 0).engProbation 1 := State.slotRoles_settled n (by rw [heng, h0]) (by rw [heng, h1])
  have hregs : t.regsBut u [R.ARR_WCOMMIT, R.SLOT_HEALTH] := by
    rw [ht]
    exact State.regsBut_trans (State.regsBut_mono (State.boundaryDue_regsBut hpwr) (by simp))
      (State.regsBut_mono (State.regsBut_trans (State.engProbation_regsBut _ 0) (State.engProbation_regsBut _ 1)) (by simp))
  have hcur : t.slot.cur = u.slot.cur := by rw [ht, State.engProbation_cur, State.engProbation_cur, State.boundaryDue_slot]
  obtain ⟨hrun, hn, hlo, hhi⟩ := s.slotEnter_ran n
  exact ⟨(State.flag_of_regsBut hregs (by decide) _).trans hrun, hcur.trans hn, (hregs _ (by decide)).trans hlo, (hregs _ (by decide)).trans hhi⟩

/-- The first boundary of an engine that starts: its engines keep the roles that they have just taken. -/
theorem State.slotFirst_effect (hd : s.pwr.deeper = none) (h0 : s.engState 0 = 6) (h1 : s.engState 1 = 6) :
    let t := ((s.slotEnter n false).boundaryDue).slotRoles n
    t.running = true ∧ t.slot.cur = n ∧ t.slot.startAsn = none ∧ t.primary = s.prefer ∧ t.engState s.prefer = 0 ∧
      t.engState (1 - s.prefer) = 1 := by
  let v := (s.slotEnter n false).boundaryDue
  obtain ⟨hrun, hcur, hstart, hpwr, hprim, hst, hother⟩ := State.slotEnter_first n h0 h1
  have hregs : v.regsBut (s.slotEnter n false) [R.ARR_WCOMMIT] := State.boundaryDue_regsBut (by rw [hpwr, hd])
  have hhealth (f : Fld) : v.fld R.SLOT_HEALTH f = (s.slotEnter n false).fld R.SLOT_HEALTH f := State.fld_of_regsBut hregs (by decide) f
  have hv : v.engState s.prefer = 0 ∧ v.engState (1 - s.prefer) = 1 := ⟨(hhealth _).trans hst, (hhealth _).trans hother⟩
  have hserve : v.engState 0 < 3 ∧ v.engState 1 < 3 := by
    have hp : s.prefer < 2 := fget_lt F.SLOT_CFG_PREFER _
    obtain ⟨hst, hother⟩ := hv
    rcases (by omega : s.prefer = 0 ∨ s.prefer = 1) with hp | hp <;> rw [hp] at hst hother
    · exact ⟨hst.trans_lt (by decide), hother.trans_lt (by decide)⟩
    · exact ⟨hother.trans_lt (by decide), hst.trans_lt (by decide)⟩
  have hslot : v.slot.cur = n ∧ v.slot.startAsn = none := by
    rw [State.boundaryDue_slot]
    exact ⟨hcur, hstart⟩
  show (v.slotRoles n).running = true ∧ _
  rw [State.slotRoles_serving n hserve.1 hserve.2]
  exact ⟨(State.flag_of_regsBut hregs (by decide) _).trans hrun, hslot.1, hslot.2, (hhealth _).trans hprim, hv⟩

end

/-! ### The engine stops (R104) -/

section
variable (s : State)

/-- A transmission of the plan whose first symbol is still to come as the engine stops. -/
def AirTx.unsent (t : AirTx) : Bool := t.kind ≠ 2 && !t.started && !t.ended

theorem State.planDrop_air : s.planDrop.air = s.air.map (fun t => if t.unsent then { t with cut := true, ended := true } else t) := by
  refine State.foldl_kept State.air _ (fun u x => ?_) _ _
  split
  · rfl
  · split <;> rfl

theorem State.planDrop_regs : s.planDrop.regs = s.regs := (State.planDrop_within s (Within.refl [.air, .qmg, .slot] s) rfl).only .regs (by decide)

theorem State.slotHalt_effect : let t := s.slotHalt
    t.running = false ∧ t.slot.startAsn = none ∧ t.slot.wins = [] ∧ ∀ u ∈ t.air, u.kind ≠ 2 → u.started = false → u.ended = true := by
  refine ⟨?_, rfl, rfl, fun u hu hk hs => ?_⟩
  · have hregs : s.slotHalt.regsBut (s.wr R.SLOT_CTRL 0) [R.SLOT_HEALTH] :=
      State.regsBut_trans (State.engStop_regsBut _) (State.regsBut_of_regs (State.planDrop_regs _))
    refine (State.flag_of_regsBut hregs (by decide) _).trans ?_
    rw [State.flag, State.fld, State.rd_wr]
    rfl
  · have hair : s.slotHalt.air = _ := State.planDrop_air _
    rw [hair] at hu
    obtain ⟨x, -, rfl⟩ := List.mem_map.mp hu
    by_cases hx : x.unsent = true
    · simp [hx]
    · simp only [hx, Bool.false_eq_true, if_false] at hk hs ⊢
      simpa [AirTx.unsent, hk, hs] using hx

end

/-! ### SLOT_BOUNDARY -/

section
variable {s : State} {n : Nat}

/-- The slot whose boundary comes next. -/
def State.nextSlot (s : State) : Option Nat := if s.running then some (s.slot.cur + 1) else s.slot.startAsn

theorem exec_slotBoundary_none (h : s.nextSlot = none) : exec .slotBoundary s = .next s := by
  rw [State.nextSlot] at h
  simp only [exec_slotBoundary_arm, execSlotBoundary, h]

theorem exec_slotBoundary_stop (h : s.nextSlot = some n) (hs : s.slot.stopping = true) :
    exec .slotBoundary s = .next ((s.toNs (s.boundary n)).boundaryDue.slotHalt) := by
  have hs2 : (s.toNs (s.boundary n)).slot.stopping = true := hs
  rw [State.nextSlot] at h
  simp only [exec_slotBoundary_arm, execSlotBoundary, h, hs2, if_true]

theorem exec_slotBoundary_go (h : s.nextSlot = some n) (hs : s.slot.stopping = false) :
    exec .slotBoundary s = .next (((s.toNs (s.boundary n)).slotEnter n s.running).boundaryDue.slotRoles n) := by
  have hs2 : (s.toNs (s.boundary n)).slot.stopping = false := hs
  rw [State.nextSlot] at h
  simp only [exec_slotBoundary_arm, execSlotBoundary, h, hs2, Bool.false_eq_true, if_false]
  rfl

end

/-! ### SLOT_PREPARATION (R114) -/

/-- The state with the points, the rolls and the roles settled, as the preparation of slot `n` begins to read. -/
def State.prepReady (s : State) (n : Nat) : State := ((((s.toNs (s.boundary n - s.prepNs)).prepSettle).rollsRun).engStart)

/-- The slot has been read and the engines have been compared. -/
def State.prepCheck (s : State) (k : SlotCheck) (n : Nat) : State := ((s.prepReady n).slotRead n).engCheck k (n % 2 ^ 40)

/-- Slot `n` has passed its preparation point at `at_`: windows that are over leave the plan. -/
def State.prepPassed (s : State) (n at_ : Nat) : State :=
  { s with slot := { s.slot with prepared := n + 1, wins := s.slot.wins.filter (fun (w : RxWin) => w.open_ || at_ ≤ w.until_) } }

section
variable {s : State} {k : SlotCheck} {n : Nat}

theorem exec_slotPreparation_none (h : s.prepNext = none) : exec (.slotPreparation k) s = .next s := by
  simp only [exec_slotPreparation_arm, execSlotPreparation, h]

theorem exec_slotPreparation_late (h : s.prepNext = some n) (hl : s.boundary n - s.prepNs + 20000 < s.cityNs) :
    exec (.slotPreparation k) s = .next s := by
  simp only [exec_slotPreparation_arm, execSlotPreparation, h, hl, if_true]

/-- A preparation in time: what is planned depends on the power state and on Quiet before and after the comparison. -/
theorem exec_slotPreparation (h : s.prepNext = some n) (hl : s.cityNs ≤ s.boundary n - s.prepNs + 20000) :
    let t := (s.prepCheck k n).prepPassed n (s.boundary n - s.prepNs)
    exec (.slotPreparation k) s = .next (if 3 ≤ t.pwrState then t
      else if t.inQuiet && !(s.prepReady n).inQuiet then t.winPlan (t.slotCells (n % 2 ^ 40)) [] n else t.slotPlan n) := by
  simp only [exec_slotPreparation_arm, execSlotPreparation, h, Nat.not_lt.mpr hl, if_false]
  rfl

end

/-! ### A preparation with nothing to plan -/

section
variable {s : State}

theorem State.ackSettle_idle (h : s.slot.acks = []) : s.ackSettle = s := by
  rw [State.ackSettle, h]
  show { s with slot := { s.slot with acks := [] } } = s
  rw [← h]

theorem State.prepSettle_idle (h : s.slot.acks = []) : s.prepSettle = s := by
  unfold State.prepSettle
  split
  · rfl
  · exact State.ackSettle_idle h

theorem State.rollsRun_idle (h : s.key.rolls = []) : s.rollsRun = s := by
  rw [State.rollsRun, h]
  show { s with key := { s.key with rolls := [] } } = s
  rw [← h]

theorem State.quietOver_regsBut (s : State) (c : Nat) : (s.quietOver c).regsBut s [R.SAFE_CAUSE] := by
  unfold State.quietOver
  have hl (x : Nat) : (s.setFld R.SAFE_CAUSE F.SAFE_CAUSE_LIVE x).regsBut s [R.SAFE_CAUSE] := s.setFld_regsBut _ x (by simp)
  dsimp only
  split
  · exact State.regsBut_trans (hl _) (State.regsBut_of_regs rfl)
  · exact hl _

theorem State.engGood_regsBut (s : State) : s.engGood.regsBut s [R.SAFE_CAUSE] := by
  unfold State.engGood
  split
  · exact State.regsBut_refl s _
  · split
    · exact s.quietOver_regsBut 0
    · exact State.regsBut_refl s _

theorem State.engGood_onlyIn (s : State) : s.engGood.onlyIn s [.regs, .safe] := (State.engGood_within s (Within.refl _ s) rfl).only

/-- Engines that agree, whichever are in service, go on (R124). -/
theorem State.engCheck_agrees {k : SlotCheck} (asn : Nat) (ha : k.aFail = 0) (hb : k.bFail = 0) (hk : k.agree = true) :
    s.engCheck k asn = s.engGood.matchSync := by
  have hf (e : Nat) : engFail k e = 0 := by
    unfold engFail
    split <;> simp [ha, hb]
  unfold State.engCheck
  simp [hf, hk]

/-- The enabled slotframes are those of any state with the same descriptors. -/
theorem State.sfs_of_regsBut {t : State} {ks : List Nat} (h : t.regsBut s ks) (hk : ∀ k ∈ ks, k < 0xA400 ∨ 0xA800 ≤ k) : t.sfs = s.sfs := by
  refine List.filter_congr fun i hi => State.flag_of_regsBut h (fun hm => ?_) _
  have hlt : i < 64 := List.mem_range.mp hi
  have := hk _ hm
  unfold R.SLOT_SF_W0 at this
  omega

/-- With no slotframe and no acknowledgement point there is nothing to plan. -/
theorem State.slotPlan_idle (n : Nat) (h : s.sfs = []) (ha : s.slot.acks = []) : s.slotPlan n = s := by
  have hc : s.slotCells (n % 2 ^ 40) = [] := by rw [State.slotCells, h, List.flatMap_nil]
  rw [State.slotPlan]
  dsimp only
  rw [hc]
  simp only [State.slotQueueCheck, State.winPlan, ha, List.filter_nil, List.map_nil, List.append_nil, List.foldl_nil]

variable {k : SlotCheck} {n : Nat}

theorem State.prepReady_idle (n : Nat) (ha : s.slot.acks = []) (hr : s.key.rolls = []) :
    s.prepReady n = (s.toNs (s.boundary n - s.prepNs)).engStart := by
  obtain ⟨u, hu⟩ : ∃ u, s.toNs (s.boundary n - s.prepNs) = u := ⟨_, rfl⟩
  have hacks : u.slot.acks = [] := by rw [← hu]; exact ha
  have hrolls : u.key.rolls = [] := by rw [← hu]; exact hr
  rw [State.prepReady, hu, State.prepSettle_idle hacks, State.rollsRun_idle hrolls]

/-- What the first steps of such a preparation leave as it is. -/
theorem State.prepReady_kept (n : Nat) (ha : s.slot.acks = []) (hr : s.key.rolls = []) : let t := s.prepReady n
    t.regsBut s [R.SLOT_HEALTH] ∧ t.slot = s.slot ∧ t.air = s.air ∧ t.qmg = s.qmg := by
  have h := (s.toNs (s.boundary n - s.prepNs)).engStart_onlyIn
  rw [State.prepReady_idle n ha hr]
  exact ⟨State.engStart_regsBut _, h .slot (by decide), h .air (by decide), h .qmg (by decide)⟩

/-- Engines that agree leave all but their health and the cause of Quiet that ends with it. -/
theorem State.engAgreed_kept (s : State) : let t := s.engGood.matchSync
    t.regsBut s [R.SLOT_HEALTH, R.SAFE_CAUSE] ∧ t.slot = s.slot ∧ t.air = s.air ∧ t.qmg = s.qmg := by
  refine ⟨?_, s.engGood_onlyIn .slot (by decide), s.engGood_onlyIn .air (by decide), s.engGood_onlyIn .qmg (by decide)⟩
  exact State.regsBut_trans (State.regsBut_mono s.engGood_regsBut (by simp)) (State.regsBut_mono (State.matchSync_regsBut _) (by simp))

theorem Does.slotPreparation_idle (h : s.prepNext = some n) (hl : s.cityNs ≤ s.boundary n - s.prepNs + 20000) (hs : s.sfs = [])
    (ha : s.slot.acks = []) (hr : s.key.rolls = []) (hp : s.pwrState = 0) (hf : k.aFail = 0) (hg : k.bFail = 0) (hk : k.agree = true) :
    Does (.slotPreparation k) s (fun t =>
      t.slot.prepared = n + 1 ∧ t.air = s.air ∧ t.qmg = s.qmg ∧ t.regsBut s [R.SLOT_HEALTH, R.SAFE_CAUSE]) := by
  let t := (s.prepCheck k n).prepPassed n (s.boundary n - s.prepNs)
  obtain ⟨hready, hslot, hair, hqmg⟩ := State.prepReady_kept n ha hr
  obtain ⟨hregs, hslot2, hair2, hqmg2⟩ := ((s.prepReady n).slotRead n).engAgreed_kept
  rw [← State.engCheck_agrees (n % 2 ^ 40) hf hg hk] at hregs hslot2 hair2 hqmg2
  have hstart : (s.prepReady n).regsBut s [R.SLOT_HEALTH, R.SAFE_CAUSE] := State.regsBut_mono hready (by simp)
  have ht : t.regsBut s [R.SLOT_HEALTH, R.SAFE_CAUSE] := State.regsBut_trans hstart hregs
  have hacks : t.slot.acks = [] := (congrArg SlotSt.acks hslot2).trans ((congrArg SlotSt.acks hslot).trans ha)
  have hquiet : t.inQuiet = (s.prepReady n).inQuiet := State.flag_of_regsBut hregs (by decide) _
  have hpwr : t.pwrState = 0 := (State.fld_of_regsBut ht (by decide) _).trans hp
  have hplan : t.slotPlan n = t := State.slotPlan_idle n ((State.sfs_of_regsBut ht (by decide)).trans hs) hacks
  have e : exec (.slotPreparation k) s = .next t := by
    refine (exec_slotPreparation h hl).trans (congrArg _ ?_)
    show (if 3 ≤ t.pwrState then t
      else if t.inQuiet && !(s.prepReady n).inQuiet then t.winPlan (t.slotCells (n % 2 ^ 40)) [] n else t.slotPlan n) = t
    rw [hpwr, hquiet, hplan]
    simp
  exact Does.of_next e ⟨rfl, hair2.trans hair, hqmg2.trans hqmg, ht⟩

end

/-! ### The obligation -/

/-- Settles O31: a start is decided by its checks, a boundary by whether the engine runs or stops, a preparation by what its comparison leaves. -/
theorem slotEngineRuns : Obligations.SlotEngineRuns := by
  unfold Obligations.SlotEngineRuns
  intro s k n at_ s1 s2 s3
  refine ⟨fun hr hp ht => (exec_slotStart_zero s).trans (congrArg _ (State.slotStart_refused hr hp ht)), fun hr hp ht he hn hs hl hl2 hv => ?_,
    fun h => (exec_slotStop_zero s).trans (congrArg _ (State.slotStop_active h)), fun hr hs => ?_, fun hr hs hd h0 h1 => ?_,
    fun hr ha hs hd h0 h1 => ?_, fun hr ha => ?_,
    exec_slotPreparation_late, fun h hl hp => ?_, fun h hl hp hq => ?_, fun h hl hp hq hq2 => ?_,
    fun h hl hs ha hro _ hp hf hg hk => Does.slotPreparation_idle h hl hs ha hro hp hf hg hk⟩
  · exact Does.of_next ((exec_slotStart_zero s).trans (congrArg _ (State.slotStart_accepted hr hp ht he hn hs hl hl2 hv)))
      ⟨rfl, rfl, rfl, _, rfl, firstSlot_bounds he hl⟩
  · exact Does.of_next (exec_slotBoundary_stop (if_pos hr) hs) (State.slotHalt_effect _)
  · obtain ⟨hrun, hcur, hlo, hhi⟩ := State.slotRun_effect (s := s.toNs (s.boundary (s.slot.cur + 1))) (s.slot.cur + 1) hd h0 h1
    exact Does.of_next ((exec_slotBoundary_go (if_pos hr) hs).trans (by rw [hr])) ⟨hrun.trans hr, hcur, hlo, hhi⟩
  · have hnext : s.nextSlot = some n := (if_neg (ne_true_of_eq_false hr)).trans ha
    exact Does.of_next ((exec_slotBoundary_go hnext hs).trans (by rw [hr])) (State.slotFirst_effect (s := s.toNs (s.boundary n)) n hd h0 h1)
  · have hnext : s.nextSlot = none := (if_neg (ne_true_of_eq_false hr)).trans ha
    refine ⟨exec_slotBoundary_none hnext, exec_slotPreparation_none ?_⟩
    simp [State.prepNext, hr, ha]
  · exact (exec_slotPreparation h hl).trans (congrArg _ (if_pos hp))
  · refine (exec_slotPreparation h hl).trans (congrArg _ ((if_neg (Nat.not_le.mpr hp)).trans (if_neg fun hc => ?_)))
    obtain ⟨ht, hn⟩ := Bool.and_eq_true_iff.mp hc
    rcases hq with hq | hq
    · exact Bool.false_ne_true ((congrArg not hq).symm.trans hn)
    · exact ne_true_of_eq_false hq ht
  · exact (exec_slotPreparation h hl).trans (congrArg _ ((if_neg (Nat.not_le.mpr hp)).trans
      (if_pos (Bool.and_eq_true_iff.mpr ⟨hq2, congrArg not hq⟩))))

end Sys2Proof.Machine
end

section
/-! O29: cells, hop entries and slotframes (R109 to R113, R131). A write is decided by its owner first and by its checks then; a refused one sets the
flag of each check that fails. -/

-- One proof at a time: the joined text is elaborated near its limit of memory, which proofs side by side would pass.
set_option Elab.async false

namespace Sys2Proof.Machine

/-! ### The arms of `exec` -/

section
variable (s : State) (p : Part) (i : Fin 64) (data : Word)

theorem exec_cellWrite : exec (.cellWrite p data) s = .next (s.cellWrite p data) := rfl
theorem exec_cellRead : exec (.cellRead p) s = .next (s.cellRead p) := rfl
theorem exec_hopEntryWrite : exec (.hopEntryWrite p data) s = .next (s.hopWrite p data) := rfl
theorem exec_slotframeEnable : exec (.slotframeEnable p i data) s = .next (s.sfWrite0 p i (fset F.SLOT_SF_W0_ENABLE data 1)) := rfl
theorem exec_slotframeDisable : exec (.slotframeDisable p i data) s = .next (s.sfWrite0 p i (fset F.SLOT_SF_W0_ENABLE data 0)) := rfl

end

/-! ### Addresses that advance -/

section
variable (s : State)

theorem State.cellNext_onlyIn : s.cellNext.onlyIn s [.regs] := (State.cellNext_within s (Within.refl _ s) rfl).only

@[simp] theorem State.cellNext_slot : s.cellNext.slot = s.slot := s.cellNext_onlyIn .slot (by decide)

theorem State.cellNext_regsBut : s.cellNext.regsBut s [R.SLOT_CELL_ADDR] := by
  unfold State.cellNext
  dsimp only
  split
  · exact s.setFld_regsBut _ _ (by simp)
  · exact State.regsBut_refl s _

@[simp] theorem State.hopNext_slot : s.hopNext.slot = s.slot := (State.hopNext_within s (Within.refl [.regs] s) rfl).only .slot (by decide)

theorem State.hopNext_regsBut : s.hopNext.regsBut s [R.SLOT_HOP_ADDR] := by
  unfold State.hopNext
  dsimp only
  split
  · exact s.setFld_regsBut _ _ (by simp)
  · exact State.regsBut_refl s _

theorem State.slotWriter_other {p : Nat} (hp : p ≠ 0) (ok : State) : s.slotWriter p ok = s.err R.SLOT_ERR F.SLOT_ERR_PART_WRITE := if_neg hp

/-- A flag of `SLOT_ERR` that a refused access sets before the address moves on stands after it. -/
theorem State.cellNext_err {f : Fld} (h : f.lo + f.w ≤ 32) (hw : 0 < f.w) : (s.err R.SLOT_ERR f).cellNext.flag R.SLOT_ERR f = true :=
  (State.flag_of_regsBut (State.cellNext_regsBut _) (by decide) f).trans (State.flag_err s _ h hw)

end

/-! ### Cells (R112, R113) -/

section
variable (s : State) (c : Nat) (w0 w1 : Word)

theorem State.cellWord_setCell_zero : (s.setCell c w0 w1).cellWord c 0 = w0 :=
  (aget_aset_ne 0 w1 (2 * c + 1) (2 * c) _ (by omega)).trans (aget_aset_same 0 w0 (2 * c) s.slot.cells)

theorem State.cellWord_setCell_one : (s.setCell c w0 w1).cellWord c 1 = w1 := aget_aset_same 0 w1 (2 * c + 1) _

theorem State.cellWord_setCell_ne {d w : Nat} (hd : d ≠ c) (hw : w < 2) : (s.setCell c w0 w1).cellWord d w = s.cellWord d w :=
  (aget_aset_ne 0 w1 (2 * c + 1) (2 * d + w) _ (by omega)).trans (aget_aset_ne 0 w0 (2 * c) (2 * d + w) s.slot.cells (by omega))

variable {s} {p : Nat} {data : Word}

/-- The cell that `SLOT_CELL_ADDR` names. -/
abbrev State.cellAt (s : State) : Nat := s.fld R.SLOT_CELL_ADDR F.SLOT_CELL_ADDR_CELL

theorem State.cellWrite_stored (hm : s.cellMay p s.cellAt = true) (hb : cellBad data (s.rd R.SLOT_CELL_DATA1) = false) :
    s.cellWrite p data = (s.setCell s.cellAt data (s.rd R.SLOT_CELL_DATA1)).cellNext := by simp [State.cellWrite, hm, hb]

theorem State.cellWrite_bad (hm : s.cellMay p s.cellAt = true) (hb : cellBad data (s.rd R.SLOT_CELL_DATA1) = true) :
    s.cellWrite p data = (s.err R.SLOT_ERR F.SLOT_ERR_CELL_INVALID).cellNext := by simp [State.cellWrite, hm, hb]

theorem State.cellWrite_refused (hm : s.cellMay p s.cellAt = false) :
    s.cellWrite p data = (s.err R.SLOT_ERR F.SLOT_ERR_PART_WRITE).cellNext := by simp [State.cellWrite, hm]

theorem State.cellWord_cellNext (s : State) (d w : Nat) : s.cellNext.cellWord d w = s.cellWord d w := by
  rw [State.cellWord, State.cellNext_slot, State.cellWord]

end

section
variable {s : State} {p : Part} {data : Word}

theorem Does.cellWrite (hm : s.cellMay p s.cellAt = true) (hb : cellBad data (s.rd R.SLOT_CELL_DATA1) = false) :
    Does (.cellWrite p data) s (fun t => t.cellWord s.cellAt 0 = data ∧ t.cellWord s.cellAt 1 = s.rd R.SLOT_CELL_DATA1 ∧
      (∀ d w, d ≠ s.cellAt → w < 2 → t.cellWord d w = s.cellWord d w) ∧ t.regsBut s [R.SLOT_CELL_ADDR]) := by
  refine Does.of_next ((exec_cellWrite s p data).trans (congrArg _ (State.cellWrite_stored hm hb))) ⟨?_, ?_, fun d w hd hw => ?_, ?_⟩
  · rw [State.cellWord_cellNext, State.cellWord_setCell_zero]
  · rw [State.cellWord_cellNext, State.cellWord_setCell_one]
  · rw [State.cellWord_cellNext, State.cellWord_setCell_ne s _ _ _ hd hw]
  · exact State.cellNext_regsBut _

theorem Does.cellWrite_bad (hm : s.cellMay p s.cellAt = true) (hb : cellBad data (s.rd R.SLOT_CELL_DATA1) = true) :
    Does (.cellWrite p data) s (fun t => t.flag R.SLOT_ERR F.SLOT_ERR_CELL_INVALID = true ∧ t.slot = s.slot) :=
  Does.of_next ((exec_cellWrite s p data).trans (congrArg _ (State.cellWrite_bad hm hb)))
    ⟨s.cellNext_err (by decide) (by decide), State.cellNext_slot _⟩

theorem Does.cellWrite_refused (hm : s.cellMay p s.cellAt = false) :
    Does (.cellWrite p data) s (fun t => t.flag R.SLOT_ERR F.SLOT_ERR_PART_WRITE = true ∧ t.slot = s.slot) :=
  Does.of_next ((exec_cellWrite s p data).trans (congrArg _ (State.cellWrite_refused hm)))
    ⟨s.cellNext_err (by decide) (by decide), State.cellNext_slot _⟩

theorem Does.cellRead (s : State) (p : Part) : Does (.cellRead p) s (fun t => t.reads p = s.cellWord s.cellAt 0 ∧
    t.rd R.SLOT_CELL_DATA1 = s.cellWord s.cellAt 1 ∧ t.regsBut s [R.SLOT_CELL_ADDR, R.SLOT_CELL_DATA1]) := by
  refine Does.of_next (exec_cellRead s p) ⟨?_, ?_, fun k hk => ?_⟩
  · rw [State.reads, State.cellRead, State.cellNext_onlyIn _ .host (by decide)]
    exact State.answer_readData ..
  · exact (State.cellNext_regsBut _ _ (by decide)).trans (State.rd_wr _ _ _)
  · simp only [List.mem_cons, List.not_mem_nil, or_false, not_or] at hk
    exact (State.cellNext_regsBut _ k (by simp [hk.1])).trans (State.rd_wr_ne _ _ hk.2)

/-! ### Hop entries (R111) -/

/-- Whether an enabled slotframe uses the hop sequence that `SLOT_HOP_ADDR` names. -/
abbrev State.hopUsed (s : State) : Bool := s.hopBusy (s.fld R.SLOT_HOP_ADDR F.SLOT_HOP_ADDR_SEQ)

theorem Does.hopEntryWrite (h : s.hopUsed = false) : Does (.hopEntryWrite 0 data) s (fun t =>
    aget 0 s.hopKey t.slot.hops = bitsAt data 0 16 ∧ (∀ j, j ≠ s.hopKey → aget 0 j t.slot.hops = aget 0 j s.slot.hops) ∧
      t.regsBut s [R.SLOT_HOP_ADDR]) := by
  let u : State := { s with slot := { s.slot with hops := aset 0 s.hopKey (bitsAt data 0 16) s.slot.hops } }
  have e : exec (.hopEntryWrite 0 data) s = .next u.hopNext := (exec_hopEntryWrite s 0 data).trans (congrArg _ (if_neg (ne_true_of_eq_false h)))
  have hh : u.hopNext.slot.hops = aset 0 s.hopKey (bitsAt data 0 16) s.slot.hops := congrArg SlotSt.hops u.hopNext_slot
  refine Does.of_next e ⟨?_, fun j hj => ?_, u.hopNext_regsBut⟩
  · rw [hh, aget_aset_same]
  · rw [hh, aget_aset_ne _ _ _ _ _ hj]

theorem exec_hopEntryWrite_busy (h : s.hopUsed = true) : exec (.hopEntryWrite 0 data) s = .next (s.err R.SLOT_ERR F.SLOT_ERR_SF_BUSY) :=
  (exec_hopEntryWrite s 0 data).trans (congrArg _ (if_pos h))

theorem exec_hopEntryWrite_refused (h : p.val ≠ 0) : exec (.hopEntryWrite p data) s = .next (s.err R.SLOT_ERR F.SLOT_ERR_PART_WRITE) :=
  (exec_hopEntryWrite s p data).trans (congrArg _ (s.slotWriter_other h _))

end

/-! ### The word of a slotframe (R109) -/

section
variable (data : Word)

/-- The word that an enabling write of `SLOT_SF_W0` stores, and the one that a disabling write stores. -/
abbrev sfOnWord (data : Word) : Word := fset F.SLOT_SF_W0_ENABLE data 1 &&& 0x3FFFF
abbrev sfOffWord (data : Word) : Word := fset F.SLOT_SF_W0_ENABLE data 0 &&& 0x3FFFF

theorem sfOnWord_enable : fget F.SLOT_SF_W0_ENABLE (sfOnWord data) = 1 := (fget_mask _ (by decide)).trans (fget_fset _ _ _ (by decide))

theorem sfOffWord_enable : fget F.SLOT_SF_W0_ENABLE (sfOffWord data) = 0 := (fget_mask _ (by decide)).trans (fget_fset _ _ _ (by decide))

/-- Both words name the same PAN. -/
theorem sfOffWord_pan : fget F.SLOT_SF_W0_PAN (sfOffWord data) = fget F.SLOT_SF_W0_PAN (sfOnWord data) := by
  have h (x : Nat) : fget F.SLOT_SF_W0_PAN (fset F.SLOT_SF_W0_ENABLE data x &&& 0x3FFFF) = fget F.SLOT_SF_W0_PAN data :=
    (fget_mask _ (by decide)).trans (fget_fset_above _ _ _ _ (by decide) (by decide))
  exact (h 0).trans (h 1).symm

/-- A field set to what it holds leaves its word. -/
theorem fset_fget (f : Fld) (v : Word) : fset f v (fget f v) = v := by
  have hf : fget f v * 2 ^ f.lo ≤ v.toNat := by
    have := fld_split f v
    omega
  rw [fset, Nat.mod_eq_of_lt (fget_lt f v), Nat.sub_add_cancel hf, BitVec.ofNat_toNat, BitVec.setWidth_eq]

theorem fset_sfOnWord : fset F.SLOT_SF_W0_ENABLE (sfOnWord data) 1 = sfOnWord data := by
  have h := fset_fget F.SLOT_SF_W0_ENABLE (sfOnWord data)
  rwa [sfOnWord_enable] at h

end

/-! ### States that differ in a few registers -/

section
variable {s t u : State} {ks : List Nat}

theorem State.onlyKeys_refl (s : State) (ks : List Nat) : s.onlyKeys s ks := ⟨rfl, fun _ _ => rfl⟩

theorem State.onlyKeys_trans (h : t.onlyKeys s ks) (h2 : u.onlyKeys t ks) : u.onlyKeys s ks := by
  obtain ⟨ht, hrd⟩ := h
  obtain ⟨hu, hrd2⟩ := h2
  refine ⟨?_, State.regsBut_trans hrd hrd2⟩
  rw [State.onlyRegs, ht] at hu
  exact hu

theorem State.wr_onlyKeys (s : State) {k : Nat} (v : Word) (hk : k ∈ ks) : (s.wr k v).onlyKeys s ks := ⟨rfl, s.wr_regsBut v hk⟩

theorem State.err_onlyKeys (s : State) {k : Nat} (f : Fld) (hk : k ∈ ks) : (s.err k f).onlyKeys s ks := s.wr_onlyKeys _ hk

/-- Flags of one register. -/
theorem State.flagAll_onlyKeys {l : List (Bool × Nat × Fld)} {k : Nat} (hl : ∀ c ∈ l, c.2.1 = k) (s : State) :
    (s.flagAll l).onlyKeys s [k] := by
  induction l generalizing s with
  | nil => exact State.onlyKeys_refl s _
  | cons c l ih =>
    rw [State.flagAll_cons]
    refine State.onlyKeys_trans ?_ (ih (fun d hd => hl d (List.mem_cons_of_mem _ hd)) _)
    rcases c.1 with _ | _
    · exact State.onlyKeys_refl s _
    · exact s.err_onlyKeys _ (by simp [hl c List.mem_cons_self])

end

/-! ### Slotframes (R109, R110) -/

/-- The keys of `SLOT_SF_W0` are 0xA400 and up. -/
theorem slotSfW0_ne (i : Nat) {n : Nat} (hn : n < 0xA400) : R.SLOT_SF_W0 i ≠ n := by
  unfold R.SLOT_SF_W0
  omega

@[simp] theorem State.panMay_zero (s : State) (n : Nat) : s.panMay 0 n = true := rfl

section
variable (s : State) (i : Nat) (w0 : Word)

/-- The words of a descriptor do not make a slotframe. -/
def State.sfWordsBad : Bool := s.sfBad i w0 (s.rd (R.SLOT_SF_W1 i)) (s.rd (R.SLOT_SF_W2 i))

/-- The flags that a refused enable of a slotframe leaves. -/
def State.sfFlags : List (Bool × Nat × Fld) :=
  [(!s.tplValid (fget F.SLOT_SF_W0_TEMPLATE w0), R.SLOT_ERR, F.SLOT_ERR_TEMPLATE),
    (!s.hopValid (fget F.SLOT_SF_W0_HOP w0), R.SLOT_ERR, F.SLOT_ERR_HOP_INVALID), (true, R.SLOT_ERR, F.SLOT_ERR_SF_INVALID)]

theorem State.sfFlags_keys : ∀ c ∈ s.sfFlags w0, c.2.1 = R.SLOT_ERR ∧ c.2.2.lo < 32 ∧ c.2.2.w = 1 := by simp [State.sfFlags]

/-- What a refused enable leaves: the flags of the checks that fail and nothing else. -/
theorem State.sfFlags_effect {f : Fld} (h : (true, R.SLOT_ERR, f) ∈ s.sfFlags w0) : let t := s.flagAll (s.sfFlags w0)
    t.flag R.SLOT_ERR f = true ∧ t.flag R.SLOT_ERR F.SLOT_ERR_SF_INVALID = true ∧ t.onlyKeys s [R.SLOT_ERR] := by
  have hflags : ∀ c ∈ s.sfFlags w0, c.2.2.lo < 32 ∧ c.2.2.w = 1 := fun c hc => (s.sfFlags_keys w0 c hc).2
  exact ⟨State.flagAll_failed hflags h, State.flagAll_failed hflags (by simp [State.sfFlags]),
    State.flagAll_onlyKeys (fun c hc => (s.sfFlags_keys w0 c hc).1) s⟩

variable {s i w0}

theorem State.sfEnable_refused (h : s.sfWordsBad i w0 = true ∨ s.tplValid (fget F.SLOT_SF_W0_TEMPLATE w0) = false ∨
    s.hopValid (fget F.SLOT_SF_W0_HOP w0) = false) : s.sfEnable i w0 = s.flagAll (s.sfFlags w0) :=
  if_pos (by unfold State.sfWordsBad at h; rcases h with h | h | h <;> simp [h])

theorem State.sfEnable_accepted (h : s.sfWordsBad i w0 = false) (ht : s.tplValid (fget F.SLOT_SF_W0_TEMPLATE w0) = true)
    (hh : s.hopValid (fget F.SLOT_SF_W0_HOP w0) = true) : s.sfEnable i w0 = s.wr (R.SLOT_SF_W0 i) w0 := by
  unfold State.sfWordsBad at h
  simp [State.sfEnable, h, ht, hh]

end

section
variable {s : State} {p : Part} {i : Fin 64} {data : Word}

theorem State.sfWrite0_refused {q j : Nat} (h : s.panMay q (s.sfPan j) = false ∨ s.panMay q (fget F.SLOT_SF_W0_PAN (data &&& 0x3FFFF)) = false) :
    s.sfWrite0 q j data = s.err R.SLOT_ERR F.SLOT_ERR_PART_WRITE :=
  if_pos (by simpa using h)

/-- Partition 0 may write every descriptor: what the word enables decides. -/
theorem State.sfWrite0_zero (s : State) (j : Nat) (data : Word) : let k := R.SLOT_SF_W0 j
    let d := data &&& 0x3FFFF
    let s1 := s.setFld k F.SLOT_SF_W0_ENABLE (fget F.SLOT_SF_W0_ENABLE d)
    s.sfWrite0 0 j data = if s.sfOn j then (if fset F.SLOT_SF_W0_ENABLE d 1 = s.rd k then s1 else s1.err R.SLOT_ERR F.SLOT_ERR_SF_BUSY)
      else if fget F.SLOT_SF_W0_ENABLE d = 0 then s.wr k d else s.sfEnable j d := by
  simp [State.sfWrite0]

theorem exec_slotframeEnable_refused (h : s.panMay p (s.sfPan i) = false ∨ s.panMay p (fget F.SLOT_SF_W0_PAN (sfOnWord data)) = false) :
    exec (.slotframeEnable p i data) s = .next (s.err R.SLOT_ERR F.SLOT_ERR_PART_WRITE) :=
  (exec_slotframeEnable s p i data).trans (congrArg _ (State.sfWrite0_refused h))

theorem exec_slotframeDisable_refused (h : s.panMay p (s.sfPan i) = false ∨ s.panMay p (fget F.SLOT_SF_W0_PAN (sfOnWord data)) = false) :
    exec (.slotframeDisable p i data) s = .next (s.err R.SLOT_ERR F.SLOT_ERR_PART_WRITE) :=
  (exec_slotframeDisable s p i data).trans (congrArg _ (State.sfWrite0_refused (by rwa [sfOffWord_pan])))

theorem exec_slotframeEnable_off (h : s.sfOn i = false) : exec (.slotframeEnable 0 i data) s = .next (s.sfEnable i (sfOnWord data)) := by
  have he : fget F.SLOT_SF_W0_ENABLE (sfOnWord data) ≠ 0 := by rw [sfOnWord_enable]; decide
  refine (exec_slotframeEnable s 0 i data).trans (congrArg _ ((s.sfWrite0_zero i _).trans ?_))
  rw [if_neg (ne_true_of_eq_false h), if_neg he]

/-- An enable that is refused sets the flag of a check that fails. -/
theorem Does.slotframeEnable_refused {f : Fld} (h : s.sfOn i = false) (hf : (true, R.SLOT_ERR, f) ∈ s.sfFlags (sfOnWord data))
    (hb : s.sfWordsBad i (sfOnWord data) = true ∨ s.tplValid (fget F.SLOT_SF_W0_TEMPLATE (sfOnWord data)) = false ∨
      s.hopValid (fget F.SLOT_SF_W0_HOP (sfOnWord data)) = false) : Does (.slotframeEnable 0 i data) s (fun t =>
      t.flag R.SLOT_ERR f = true ∧ t.flag R.SLOT_ERR F.SLOT_ERR_SF_INVALID = true ∧ t.onlyKeys s [R.SLOT_ERR]) :=
  Does.of_next ((exec_slotframeEnable_off h).trans (congrArg _ (State.sfEnable_refused hb))) (s.sfFlags_effect _ hf)

/-- A write of an enabled slotframe's descriptor that would change it is refused; the slotframe stays enabled. -/
theorem Does.slotframeEnable_busy (h : s.sfOn i = true) (hd : sfOnWord data ≠ s.rd (R.SLOT_SF_W0 i)) : Does (.slotframeEnable 0 i data) s (fun t =>
    t.flag R.SLOT_ERR F.SLOT_ERR_SF_BUSY = true ∧ t.sfOn i = true ∧ t.onlyKeys s [R.SLOT_SF_W0 i, R.SLOT_ERR]) := by
  let u := s.setFld (R.SLOT_SF_W0 i) F.SLOT_SF_W0_ENABLE 1
  have hne : fset F.SLOT_SF_W0_ENABLE (sfOnWord data) 1 ≠ s.rd (R.SLOT_SF_W0 i) := by rwa [fset_sfOnWord]
  have e : exec (.slotframeEnable 0 i data) s = .next (u.err R.SLOT_ERR F.SLOT_ERR_SF_BUSY) := by
    refine (exec_slotframeEnable s 0 i data).trans (congrArg _ ((s.sfWrite0_zero i _).trans ?_))
    rw [if_pos h, if_neg hne, sfOnWord_enable]
  refine Does.of_next e ⟨State.flag_err _ _ (by decide) (by decide), ?_, ?_⟩
  · have hon : u.sfOn i = true := State.flag_err s _ (by decide) (by decide)
    rw [State.sfOn, State.flag, State.fld, State.rd_err_ne _ _ _ (slotSfW0_ne i (by decide))]
    exact hon
  · exact State.onlyKeys_trans (s.wr_onlyKeys _ (by simp)) (State.err_onlyKeys _ _ (by simp))

theorem Does.slotframeDisable (s : State) (i : Fin 64) (data : Word) : Does (.slotframeDisable 0 i data) s (fun t =>
    t.sfOn i = false ∧ t.regsBut s [R.SLOT_SF_W0 i, R.SLOT_ERR]) := by
  let k := R.SLOT_SF_W0 i
  let u := s.setFld k F.SLOT_SF_W0_ENABLE 0
  have hu : u.sfOn i = false := by simp [u, k, State.sfOn, State.flag, State.fld_setFld]
  have e := (exec_slotframeDisable s 0 i data).trans (congrArg _ (s.sfWrite0_zero i (fset F.SLOT_SF_W0_ENABLE data 0)))
  rw [sfOffWord_enable, if_pos rfl] at e
  refine Does.of_next e ?_
  have hregs : u.regsBut s [k, R.SLOT_ERR] := s.setFld_regsBut _ _ (by simp)
  split
  · split
    · exact ⟨hu, hregs⟩
    · refine ⟨?_, State.regsBut_trans hregs (State.setFld_regsBut _ _ _ (by simp))⟩
      rw [State.sfOn, State.flag, State.fld, State.rd_err_ne _ _ _ (slotSfW0_ne i (by decide))]
      exact hu
  · refine ⟨?_, s.wr_regsBut _ (by simp)⟩
    rw [State.sfOn, State.flag, State.fld, State.rd_wr, sfOffWord_enable]
    rfl

end

/-! ### The obligation -/

/-- Settles O29: a write is decided by its owner first and by its checks then, and each clause names the check that fails or that none does. -/
theorem scheduleIsWritten : Obligations.ScheduleIsWritten := by
  unfold Obligations.ScheduleIsWritten
  intro s p i data c w1 k on
  refine ⟨Does.cellWrite, Does.cellWrite_bad, Does.cellWrite_refused, Does.cellRead s p, Does.hopEntryWrite, exec_hopEntryWrite_busy,
    exec_hopEntryWrite_refused, exec_slotframeEnable_refused, exec_slotframeDisable_refused, fun h ht => ?_, fun h hh => ?_,
    Does.slotframeEnable_busy, fun h hb ht hh => ?_, fun h hb => ?_, Does.slotframeDisable s i data⟩
  · exact Does.slotframeEnable_refused h (by simp [State.sfFlags, on, ht]) (.inr (.inl ht))
  · exact Does.slotframeEnable_refused h (by simp [State.sfFlags, on, hh]) (.inr (.inr hh))
  · exact (exec_slotframeEnable_off h).trans (congrArg _ (State.sfEnable_accepted hb ht hh))
  · obtain ⟨t, e, hf, -, hk⟩ := Does.slotframeEnable_refused (f := F.SLOT_ERR_SF_INVALID) h (by simp [State.sfFlags]) (.inl hb)
    exact ⟨t, e, hf, hk⟩

end Sys2Proof.Machine
end

section
/-! O33: acknowledgement points and Enh-Acks (R119, R120). A point that closes leaves the list once nothing of it is left in the lanes; an Enh-Ack
leaves its own list as its beam is fixed, whether it is sent or not. -/

-- One proof at a time: the joined text is elaborated near its limit of memory, which proofs side by side would pass.
set_option Elab.async false

namespace Sys2Proof.Machine

/-! ### The arms of `exec` -/

section
variable (s : State)

theorem exec_ackPointOpen_arm (k : Fin 16) : exec (.ackPointOpen k) s = execAckPointOpen k s := rfl
theorem exec_ackPointClose_arm (k : Fin 16) : exec (.ackPointClose k) s = execAckPointClose k s := rfl
theorem exec_enhAckBeamFix_arm (id : Nat) : exec (.enhAckBeamFix id) s = execEnhAckBeamFix id s := rfl

end

/-! ### Acknowledgement points (R119) -/

section
variable {s : State} {k : Fin 16} {p : AckPt}

theorem exec_ackPointOpen (h : s.ackFirst k (fun p => !p.open_) = some p) :
    exec (.ackPointOpen k) s = .next ((s.toNs p.from_).ackMod p (fun q => { q with open_ := true })) := by
  simp only [exec_ackPointOpen_arm, execAckPointOpen, h]

theorem exec_ackPointOpen_none (h : s.ackFirst k (fun p => !p.open_) = none) : exec (.ackPointOpen k) s = .next s := by
  simp only [exec_ackPointOpen_arm, execAckPointOpen, h]

theorem exec_ackPointClose (h : s.ackFirst k (fun p => p.open_ && !p.stopped) = some p) :
    exec (.ackPointClose k) s = .next (((s.toNs p.until_).ackMod p (fun q => { q with stopped := true })).ackSettle) := by
  simp only [exec_ackPointClose_arm, execAckPointClose, h]

/-- A change of one point, written with the point that it changes. -/
theorem ackMod_self (l : List AckPt) (p : AckPt) (g : AckPt → AckPt) :
    l.map (fun q => if q = p then g q else q) = l.map (fun q => if q = p then g p else q) :=
  List.map_congr_left fun q _ => by split <;> simp_all

theorem Does.ackPointOpen (h : s.ackFirst k (fun p => !p.open_) = some p) : Does (.ackPointOpen k) s (fun t =>
    t.slot = { s.slot with acks := s.slot.acks.map (fun q => if q = p then { p with open_ := true } else q) } ∧ t.regs = s.regs) := by
  refine Does.of_next (exec_ackPointOpen h) ⟨?_, rfl⟩
  rw [← ackMod_self _ p (fun q => { q with open_ := true })]
  rfl

/-- A lane or a detection of a point still holds a frame. -/
def State.ackBusy (s : State) (p : AckPt) : Bool :=
  s.rx.lanes.any (fun e => e.2.point == 8192 + p.stream) || s.rx.dets.any (fun d => d.point == 8192 + p.stream)

/-- The points that do not settle, those that do. -/
theorem State.ackSettle_eq (s : State) : s.ackSettle = (s.slot.acks.filter (fun p => p.stopped && !s.ackBusy p)).foldl
    (fun s p => s.attemptCheck p.attempt)
    { s with slot := { s.slot with acks := s.slot.acks.filter (fun p => !p.stopped || s.ackBusy p) } } := rfl

theorem State.attemptCheck_none (h : s.slot.attempts = []) (id : Nat) : s.attemptCheck id = s := by simp [State.attemptCheck, h]

/-- Without attempts, points that settle leave the list and nothing else happens. -/
theorem State.ackSettle_unattended (h : s.slot.attempts = []) :
    s.ackSettle = { s with slot := { s.slot with acks := s.slot.acks.filter (fun p => !p.stopped || s.ackBusy p) } } := by
  have hfold (l : List AckPt) (u : State) (hu : u.slot.attempts = []) : l.foldl (fun s p => s.attemptCheck p.attempt) u = u := by
    induction l with
    | nil => rfl
    | cons p l ih => rw [List.foldl_cons, State.attemptCheck_none hu, ih]
  rw [State.ackSettle_eq]
  exact hfold _ _ h

/-- Points of which each stopped one is busy stay. -/
theorem State.ackSettle_busy (h : ∀ q ∈ s.slot.acks, q.stopped = true → s.ackBusy q = true) : s.ackSettle = s := by
  have hkeep : s.slot.acks.filter (fun p => !p.stopped || s.ackBusy p) = s.slot.acks := by
    refine List.filter_eq_self.mpr fun q hq => ?_
    cases hs : q.stopped
    · rfl
    · simp [h q hq hs]
  have hgone : s.slot.acks.filter (fun p => p.stopped && !s.ackBusy p) = [] := by
    refine List.filter_eq_nil_iff.mpr fun q hq => ?_
    cases hs : q.stopped
    · simp
    · simp [h q hq hs]
  rw [State.ackSettle_eq, hgone, hkeep]
  rfl

/-- The points of a list with one stopped. -/
def ackStopped (l : List AckPt) (p : AckPt) : List AckPt := l.map (fun q => if q = p then { p with stopped := true } else q)

/-- Those still searching are the others that were. -/
theorem ackStopped_searching (l : List AckPt) (p : AckPt) :
    (ackStopped l p).filter (fun q => !q.stopped) = l.filter (fun q => q ≠ p && !q.stopped) := by
  induction l with
  | nil => rfl
  | cons q l ih =>
    rw [ackStopped] at ih ⊢
    by_cases hq : q = p
    · simp [hq, ih]
    · cases hs : q.stopped <;> simp [hq, hs, ih]

variable (h : s.ackFirst k (fun p => p.open_ && !p.stopped) = some p)
include h

/-- The point's search is over, and the points settle. -/
theorem exec_ackPointClose_stopped : exec (.ackPointClose k) s =
    .next (State.ackSettle { s.toNs p.until_ with slot := { s.slot with acks := ackStopped s.slot.acks p } }) := by
  rw [exec_ackPointClose h, ackStopped, ← ackMod_self _ p (fun q => { q with stopped := true })]
  rfl

theorem Does.ackPointClose_idle (hl : s.rx.lanes = []) (hd : s.rx.dets = []) (ha : s.slot.attempts = []) : Does (.ackPointClose k) s (fun t =>
    t.slot.acks = s.slot.acks.filter (fun q => q ≠ p && !q.stopped) ∧ t.regs = s.regs) := by
  let u : State := { s.toNs p.until_ with slot := { s.slot with acks := ackStopped s.slot.acks p } }
  have hidle (q : AckPt) : u.ackBusy q = false := by
    have hrx : u.rx = s.rx := rfl
    simp [State.ackBusy, hrx, hl, hd]
  have hfilter : u.slot.acks.filter (fun q => !q.stopped || u.ackBusy q) = s.slot.acks.filter (fun q => q ≠ p && !q.stopped) := by
    simp only [hidle, Bool.or_false]
    exact ackStopped_searching s.slot.acks p
  refine Does.of_next ((exec_ackPointClose_stopped h).trans (congrArg _ (State.ackSettle_unattended (s := u) ha))) ⟨hfilter, rfl⟩

theorem Does.ackPointClose_busy (hl : ∃ e ∈ s.rx.lanes, e.2.point = 8192 + p.stream) (hs : ∀ q ∈ s.slot.acks, q.stopped = false) :
    Does (.ackPointClose k) s (fun t =>
      t.slot = { s.slot with acks := s.slot.acks.map (fun q => if q = p then { p with stopped := true } else q) } ∧ t.regs = s.regs) := by
  let u : State := { s.toNs p.until_ with slot := { s.slot with acks := ackStopped s.slot.acks p } }
  have hbusy : ∀ q ∈ u.slot.acks, q.stopped = true → u.ackBusy q = true := by
    intro q hq hst
    obtain ⟨x, hx, rfl⟩ := List.mem_map.mp hq
    by_cases hxp : x = p
    · obtain ⟨e, he, hp⟩ := hl
      have : s.rx.lanes.any (fun e => e.2.point == 8192 + p.stream) = true := List.any_eq_true.mpr ⟨e, he, by simp [hp]⟩
      rw [if_pos hxp]
      exact Bool.or_eq_true_iff.mpr (.inl this)
    · rw [if_neg hxp, hs x hx] at hst
      exact absurd hst Bool.false_ne_true
  exact Does.of_next ((exec_ackPointClose_stopped h).trans (congrArg _ (State.ackSettle_busy hbusy))) ⟨rfl, rfl⟩

end

/-! ### Enh-Acks (R120, R152) -/

/-- An Enh-Ack whose beam is fixed at city time `at_` waits no longer. -/
def State.ackTaken (s : State) (id at_ : Nat) : State :=
  let s1 := s.toNs at_
  { s1 with link := { s1.link with acks := s1.link.acks.filter (fun (b : EnhAck) => b.id ≠ id) } }

/-- The slot of the key that secures an Enh-Ack is checked. -/
def State.ackChecked (s : State) (a : EnhAck) : State :=
  match s.ackKey a with
  | some x => if a.level = 0 then s else s.keyCheck x.role attrENC
  | none => s

/-- What holds an Enh-Ack back: Quiet, Hush, level 4 where it is not enabled, and a key that is gone. -/
def State.ackHeld (s : State) (a : EnhAck) : Bool :=
  s.inQuiet || s.pwr.hush || (a.level = 4 && !s.flag (R.PAN_POLICY a.pan) F.PAN_POLICY_LEVEL4_EN) || (a.level ≠ 0 && (s.ackKey a).isNone)

/-- The copies of an Enh-Ack that meet the checks. -/
def State.ackAdmitAll (s : State) (a : EnhAck) : State :=
  (s.beamsFor a.family ⟨a.centre, (widthHz a.width).getD 0⟩ (some a.beam)).foldl (fun s b => s.ackAdmit a b) s

/-- The Enh-Ack is sent where a copy was admitted and its counter is not spent. -/
def State.ackFix (s : State) (a : EnhAck) : State :=
  if s.ackHeld a then s
  else if ((s.ackAdmitAll a).admitted s.slot.nextTx).isEmpty then s.ackAdmitAll a
  else if a.level ≠ 0 && (s.ackKey a).any (fun x => (s.ctr ((ctrOf x.role).getD 0)).n = 0xFFFFFFFF) then s.bump R.KEY_CNT_ACKSPENT
  else (s.ackAdmitAll a).ackSend a s.slot.nextTx

/-- An Enh-Ack as it joins the plan on a beam. -/
def EnhAck.tx (a : EnhAck) (id array b stream code : Nat) : AirTx :=
  { id := id
    attempt := 0
    frame := 0
    array := array
    beam := b
    stream := stream
    power := code
    centre := a.centre
    width := a.width
    tStart := a.start
    tEnd := a.start + a.air
    kind := 2
    pan := a.pan
    mode := a.mode
    level := 0
    counter := none
    dsn := none
    bytes := []
    pending := false
    started := false
    ended := false
    cut := false }

section
variable {s : State} {a : EnhAck}

theorem State.ackChecked_unkeyed (h : a.level = 0 ∨ s.ackKey a = none) : s.ackChecked a = s := by
  unfold State.ackChecked
  split
  next x hx => exact if_pos (h.resolve_right (by simp [hx]))
  next => rfl

theorem State.ackHeld_of (hk : a.level = 0 ∨ s.ackKey a = none) (h : s.inQuiet = true ∨ s.pwr.hush = true ∨ a.level ≠ 0) :
    s.ackHeld a = true := by
  rcases h with h | h | h
  · simp [State.ackHeld, h]
  · simp [State.ackHeld, h]
  · simp [State.ackHeld, h, hk.resolve_left h]

theorem State.ackHeld_unsecured (hq : s.inQuiet = false) (hh : s.pwr.hush = false) (hl : a.level = 0) : s.ackHeld a = false := by
  simp [State.ackHeld, hq, hh, hl]

theorem State.ackKey_empty (h : s.key.slots = []) : s.ackKey a = none := by
  unfold State.ackKey
  cases a.role <;> simp [h]

theorem State.ackAdmit_ok {b st code : Nat} (hy : s.ackYields a (s.beamArray b) = false)
    (hg : s.grant (s.beamArray b) a.start (a.start + a.air) a.power = .ok st code) : s.ackAdmit a b =
      { s with air := s.air ++ [a.tx s.slot.nextTx (s.beamArray b) b st code], slot := { s.slot with nextTx := s.slot.nextTx + 1 } } := by
  rw [State.ackAdmit]
  dsimp only
  rw [hy, hg]
  rfl

/-- An unsecured Enh-Ack takes no counter. -/
theorem State.ackSend_unsecured (h : s.key.slots = []) (from_ : Nat) : ∃ hdr psdu, s.ackSend a from_ =
    (if a.nack then s.bump R.LINK_CNT_NACKTX else s).fillTx from_ a.level none a.dsn a.ie hdr psdu := by
  have hk : (if a.nack then s.bump R.LINK_CNT_NACKTX else s).ackKey a = none := State.ackKey_empty (by split <;> exact h)
  rw [State.ackSend]
  dsimp only
  rw [hk]
  exact ⟨_, _, rfl⟩

/-- The only copy of an unsecured Enh-Ack joins an empty plan with its content. -/
theorem State.ackFix_sent {b st code : Nat} (hh : s.ackHeld a = false) (hl : a.level = 0) (hk : s.key.slots = []) (ha : s.air = [])
    (hb : s.beamsFor a.family ⟨a.centre, (widthHz a.width).getD 0⟩ (some a.beam) = [b]) (hy : s.ackYields a (s.beamArray b) = false)
    (hg : s.grant (s.beamArray b) a.start (a.start + a.air) a.power = .ok st code) : let t := s.ackFix a
      t.air.map (fun u => (u.id, u.beam, u.stream, u.power, u.tStart, u.kind)) = [(s.slot.nextTx, b, st, code, a.start, 2)] ∧
        t.air.map AirTx.bytes = [a.ie] ∧ t.link = s.link := by
  let x := a.tx s.slot.nextTx (s.beamArray b) b st code
  have hall : s.ackAdmitAll a = { s with air := [x], slot := { s.slot with nextTx := s.slot.nextTx + 1 } } := by
    rw [State.ackAdmitAll, hb, List.foldl_cons, List.foldl_nil, State.ackAdmit_ok hy hg, ha, List.nil_append]
  have hadm : ((s.ackAdmitAll a).admitted s.slot.nextTx).isEmpty = false := by simp [hall, State.admitted, x, EnhAck.tx]
  have hfix : s.ackFix a = (s.ackAdmitAll a).ackSend a s.slot.nextTx := by
    rw [State.ackFix, hh, hadm]
    simp [hl]
  obtain ⟨hdr, psdu, hsend⟩ := State.ackSend_unsecured (s := s.ackAdmitAll a) (a := a) (by rw [hall, hk]) s.slot.nextTx
  have hkept : (if a.nack then (s.ackAdmitAll a).bump R.LINK_CNT_NACKTX else s.ackAdmitAll a).air = [x] ∧
      (if a.nack then (s.ackAdmitAll a).bump R.LINK_CNT_NACKTX else s.ackAdmitAll a).link = s.link := by
    rw [hall]
    split <;> exact ⟨rfl, rfl⟩
  obtain ⟨hair, hlink⟩ := hkept
  rw [hfix, hsend]
  refine ⟨?_, ?_, hlink⟩ <;> simp [State.fillTx, hair, x, EnhAck.tx]

end

/-! What waits as a beam is fixed, and what time does not change. -/

section
variable (s : State) (id at_ : Nat) (a : EnhAck)

theorem State.ackTaken_ackKey : (s.ackTaken id at_).ackKey a = s.ackKey a := rfl
theorem State.ackTaken_inQuiet : (s.ackTaken id at_).inQuiet = s.inQuiet := rfl
theorem State.ackTaken_pwr : (s.ackTaken id at_).pwr = s.pwr := rfl
theorem State.ackTaken_slot : (s.ackTaken id at_).slot = s.slot := rfl
theorem State.ackTaken_key : (s.ackTaken id at_).key = s.key := rfl
theorem State.ackTaken_air : (s.ackTaken id at_).air = s.air := rfl
theorem State.ackTaken_regs : (s.ackTaken id at_).regs = s.regs := rfl
theorem State.ackTaken_acks : (s.ackTaken id at_).link.acks = s.link.acks.filter (fun b => b.id ≠ id) := rfl

end

section
variable {s : State} {id : Nat} {a : EnhAck} (h : s.link.acks.find? (fun a => a.id = id) = some a)
include h

theorem exec_enhAckBeamFix : exec (.enhAckBeamFix id) s = .next (((s.ackTaken id (a.start - 50000)).ackChecked a).ackFix a) := by
  obtain ⟨u, hu⟩ : ∃ u, s.ackTaken id (a.start - 50000) = u := ⟨_, rfl⟩
  rw [hu, exec_enhAckBeamFix_arm, execEnhAckBeamFix, h]
  simp only [State.ackTaken] at hu
  simp only [hu]
  rfl

/-- One that needs no check of its slot. -/
theorem exec_enhAckBeamFix_unkeyed (hk : a.level = 0 ∨ s.ackKey a = none) :
    exec (.enhAckBeamFix id) s = .next ((s.ackTaken id (a.start - 50000)).ackFix a) := by
  rw [exec_enhAckBeamFix h, State.ackChecked_unkeyed (by rwa [State.ackTaken_ackKey])]

/-- One that is held back leaves the list, and nothing is sent. -/
theorem Does.enhAckBeamFix_held (hk : a.level = 0 ∨ s.ackKey a = none) (hh : s.inQuiet = true ∨ s.pwr.hush = true ∨ a.level ≠ 0) :
    Does (.enhAckBeamFix id) s (fun t => t.link.acks = s.link.acks.filter (fun b => b.id ≠ id) ∧ t.air = s.air ∧ t.regs = s.regs) := by
  have hheld : (s.ackTaken id (a.start - 50000)).ackHeld a = true :=
    State.ackHeld_of (by rwa [State.ackTaken_ackKey]) (by rwa [State.ackTaken_inQuiet, State.ackTaken_pwr])
  exact Does.of_next ((exec_enhAckBeamFix_unkeyed h hk).trans (congrArg _ (if_pos hheld)))
    ⟨s.ackTaken_acks id _, s.ackTaken_air id _, s.ackTaken_regs id _⟩

/-- An unsecured one is sent on its beam (R120). -/
theorem Does.enhAckBeamFix_sent {b st code : Nat} (hq : s.inQuiet = false) (hh : s.pwr.hush = false) (hl : a.level = 0) (hk : s.key.slots = [])
    (ha : s.air = []) {u : State} (hu : u = s.ackTaken id (a.start - 50000))
    (hb : u.beamsFor a.family ⟨a.centre, (widthHz a.width).getD 0⟩ (some a.beam) = [b]) (hy : u.ackYields a (u.beamArray b) = false)
    (hg : u.grant (u.beamArray b) a.start (a.start + a.air) a.power = .ok st code) :
    Does (.enhAckBeamFix id) s (fun t =>
      t.air.map (fun u => (u.id, u.beam, u.stream, u.power, u.tStart, u.kind)) = [(s.slot.nextTx, b, st, code, a.start, 2)] ∧
        t.air.map AirTx.bytes = [a.ie] ∧ t.link.acks = s.link.acks.filter (fun b => b.id ≠ id)) := by
  have hheld : u.ackHeld a = false :=
    State.ackHeld_unsecured (by rw [hu, State.ackTaken_inQuiet, hq]) (by rw [hu, State.ackTaken_pwr, hh]) hl
  obtain ⟨htx, hbytes, hlink⟩ := State.ackFix_sent hheld hl (by rw [hu, State.ackTaken_key, hk]) (by rw [hu, State.ackTaken_air, ha]) hb hy hg
  refine Does.of_next ((exec_enhAckBeamFix_unkeyed h (.inl hl)).trans (by rw [← hu])) ⟨?_, hbytes, ?_⟩
  · rw [htx, hu, State.ackTaken_slot]
  · rw [hlink, hu, State.ackTaken_acks]

end

/-! ### The obligation -/

/-- Settles O33: a point is found by its stream and what its lanes hold decides its close; an Enh-Ack is held back or its one copy is sent. -/
theorem acknowledgementsAreHeardAndSent : Obligations.AcknowledgementsAreHeardAndSent := by
  unfold Obligations.AcknowledgementsAreHeardAndSent
  intro s k id
  exact ⟨fun p => Does.ackPointOpen, exec_ackPointOpen_none, fun p => Does.ackPointClose_idle, fun p => Does.ackPointClose_busy,
    fun a h hk hh => Does.enhAckBeamFix_held h hk hh, fun a b st code h hq hh hl hk ha => Does.enhAckBeamFix_sent h hq hh hl hk ha rfl⟩

end Sys2Proof.Machine
end

section
/-! The tables of nodes, neighbours and queues: what a read returns after a write of the same and of another entry (R140, R202, R280). -/

-- One proof at a time: the joined text is elaborated near its limit of memory, which proofs side by side would pass.
set_option Elab.async false

namespace Sys2Proof.Machine

section
variable (s : State)

@[simp] theorem State.nbr_setNbr (n : Nat) (x : Nbr) : (s.setNbr n x).nbr n = x := aget_aset_same ({} : Nbr) x n s.link.nbrs

theorem State.nbr_setNbr_ne {n m : Nat} (x : Nbr) (h : m ≠ n) : (s.setNbr n x).nbr m = s.nbr m := aget_aset_ne ({} : Nbr) x n m s.link.nbrs h

@[simp] theorem State.node_setNode (o : Nat) (r : NodeRec) : (s.setNode o r).node o = r := aget_aset_same ({} : NodeRec) r o s.ndir

@[simp] theorem State.queue_setQueue (q : Nat) (x : Queue) : (s.setQueue q x).queue q = x := aget_aset_same ({} : Queue) x q s.qmg.queues

theorem State.queue_setQueue_ne {q r : Nat} (x : Queue) (h : r ≠ q) : (s.setQueue q x).queue r = s.queue r :=
  aget_aset_ne ({} : Queue) x q r s.qmg.queues h

variable {s} {t : State}

theorem State.nbr_of_link (h : t.link = s.link) (n : Nat) : t.nbr n = s.nbr n := by rw [State.nbr, h, State.nbr]

theorem State.node_of_ndir (h : t.ndir = s.ndir) (o : Nat) : t.node o = s.node o := by rw [State.node, h, State.node]

theorem State.queue_of_qmg (h : t.qmg = s.qmg) (q : Nat) : t.queue q = s.queue q := by rw [State.queue, h, State.queue]

/-- Two states with the same registers have the same words. -/
theorem State.rd_of_regs (h : t.regs = s.regs) (k : Nat) : t.rd k = s.rd k := congrArg (aget 0 k) h

end

end Sys2Proof.Machine
end

section
/-! O39: neighbour entries (R141, R143, R145). A write of a word is decided by the entry, its owner and the words it would have; a liveness period
counts a miss first and makes the neighbour LOST then; the frames of a lost neighbour complete one by one. -/

set_option Elab.async false

namespace Sys2Proof.Machine

/-! ### The arms of `exec` -/

section
variable (s : State)

theorem exec_livenessPeriodExpiry_arm (n : Fin 8192) : exec (.livenessPeriodExpiry n) s = execLivenessPeriodExpiry n s := rfl
theorem exec_heldFrameExpiry_arm (n : Fin 8192) : exec (.heldFrameExpiry n) s = execHeldFrameExpiry n s := rfl

end

/-! ### Writes of `LINK_NBR_DATA` (R141) -/

section
variable {s : State} {p : Nat} {data : Word}

/-- The entry that a partition's `LINK_NBR_ADDR` names. -/
abbrev State.nbrAt (s : State) (p : Nat) : Nat := s.fld (R.LINK_NBR_ADDR p) F.LINK_NBR_ADDR_NBR

/-- That entry as a write of its word would leave it. -/
abbrev State.nbrWritten (s : State) (p : Nat) (data : Word) : Nbr :=
  (s.nbr (s.nbrAt p)).setWord (s.fld (R.LINK_NBR_ADDR p) F.LINK_NBR_ADDR_WORD) data

theorem State.nbrWrite_invalid (hv : (s.nbr (s.nbrAt p)).valid = false) : s.nbrWrite p data = s.err R.LINK_ERR F.LINK_ERR_NBR_INVALID := by
  simp [State.nbrWrite, hv]

theorem State.nbrWrite_refused (hv : (s.nbr (s.nbrAt p)).valid = true) (hm : s.panMay p (s.nbr (s.nbrAt p)).pan = false) :
    s.nbrWrite p data = s.err R.LINK_ERR F.LINK_ERR_PART_WRITE := by
  simp [State.nbrWrite, hv, hm]

theorem State.nbrWrite_bad (hv : (s.nbr (s.nbrAt p)).valid = true) (hm : s.panMay p (s.nbr (s.nbrAt p)).pan = true)
    (hb : nbrWordsBad s ((s.nbrWritten p data).word 1) ((s.nbrWritten p data).word 2) = true) :
    s.nbrWrite p data = s.err R.LINK_ERR F.LINK_ERR_NBR_INVALID := by
  simp [State.nbrWrite, hv, hm, hb]

theorem State.nbrWrite_stored (hv : (s.nbr (s.nbrAt p)).valid = true) (hm : s.panMay p (s.nbr (s.nbrAt p)).pan = true)
    (hb : nbrWordsBad s ((s.nbrWritten p data).word 1) ((s.nbrWritten p data).word 2) = false) :
    s.nbrWrite p data = s.setNbr (s.nbrAt p) (s.nbrWritten p data) := by
  simp [State.nbrWrite, hv, hm, hb]

end

/-! ### Liveness (R143, R144) -/

/-- A liveness period of a neighbour ends and counts a miss, the second of which makes it SUSPECT. -/
def State.missCounted (s : State) (n : Nat) : State :=
  let x := s.nbr n
  let s1 := s.advanceTo (x.missFrom + ms (100 * x.livePeriod))
  let m := min 15 (x.misses + 1)
  s1.setNbr n { x with misses := m, missFrom := s1.now, state := if m = 2 then 2 else x.state }

/-- The entry and the node of a neighbour that enters LOST. -/
def State.lostMarked (s : State) (n : Nat) : State :=
  let x := s.nbr n
  let s1 := s.setNbr n { x with state := 3, lostAt := s.now }
  s1.setNode x.node { s1.node x.node with reach := false }

section
variable {s : State}

/-- Another source than AIR leaves no AIR source active. -/
theorem State.airSync_other (h : s.src ≠ 3) : s.airSync = s.wr R.LINK_TSRC_STATE 0 := if_pos h

/-- With nothing queued, an entry into LOST marks the neighbour and is reported. -/
theorem State.nbrLost_unqueued (n : Nat) (hq : s.qmg.queues = []) : s.nbrLost n = ((s.lostMarked n).evtF 15
    (2 ^ (s.lostMarked n).panOwner (s.nbr n).pan) (w32 n) (w32 (s.nbr n).node) (w32 (s.nbr n).pan)).airSync := by
  have hf : ∀ q, ((s.lostMarked n).queue q).frames = [] := fun q => by
    rw [State.queue, show (s.lostMarked n).qmg = s.qmg from rfl, hq]
    rfl
  simp only [State.lostMarked] at hf ⊢
  simp only [State.nbrLost, List.foldl_cons, List.foldl_nil, hf]

theorem State.nbrLost_effect (n : Nat) (hq : s.qmg.queues = []) (hs : s.src ≠ 3) : let t := s.nbrLost n
    t.nbr n = { s.nbr n with state := 3, lostAt := s.now } ∧ t.now = s.now ∧ (t.node (s.nbr n).node).reach = false ∧
      t.raised 15 (w32 n) (w32 (s.nbr n).node) (w32 (s.nbr n).pan) := by
  have ha (m : Nat) (p0 p1 p2 : Word) : ((s.lostMarked n).evtF 15 m p0 p1 p2).airSync =
      ((s.lostMarked n).evtF 15 m p0 p1 p2).wr R.LINK_TSRC_STATE 0 := State.airSync_other hs
  intro t
  rw [show t = s.nbrLost n from rfl, State.nbrLost_unqueued n hq, ha]
  refine ⟨s.nbr_setNbr n _, rfl, ?_, State.evtF_raised _ _ _ _ _ (by decide)⟩
  exact congrArg NodeRec.reach (State.node_setNode _ _ _)

variable {n : Fin 8192} (hv : (s.nbr n).valid = true) (hp : (s.nbr n).livePeriod ≠ 0)
include hv hp

theorem exec_livenessPeriodExpiry : exec (.livenessPeriodExpiry n) s = .next
    (if min 15 ((s.nbr n).misses + 1) = 3 && (s.nbr n).state ≠ 3 then (s.missCounted n).nbrLost n else s.missCounted n) := by
  rw [exec_livenessPeriodExpiry_arm, execLivenessPeriodExpiry]
  exact congrArg _ (if_neg (by simp [hv, hp]))

/-- The second miss in a row makes a neighbour SUSPECT. -/
theorem Does.livenessPeriodExpiry_suspect (hm : (s.nbr n).misses = 1) : Does (.livenessPeriodExpiry n) s (fun t =>
    (t.nbr n).misses = 2 ∧ (t.nbr n).state = 2 ∧ (t.nbr n).missFrom = max s.now ((s.nbr n).missFrom + ms (100 * (s.nbr n).livePeriod)) ∧
      t.regs = s.regs) := by
  refine Does.of_next ((exec_livenessPeriodExpiry hv hp).trans (congrArg _ (if_neg (by simp [hm])))) ?_
  simp [State.missCounted, hm]

/-- The third makes it LOST. -/
theorem Does.livenessPeriodExpiry_lost (hm : (s.nbr n).misses = 2) (hs : (s.nbr n).state = 2) (hq : s.qmg.queues = []) (ha : s.src ≠ 3) :
    Does (.livenessPeriodExpiry n) s (fun t => (t.nbr n).misses = 3 ∧ (t.nbr n).state = 3 ∧ (t.nbr n).lostAt = t.now ∧
      (t.node (s.nbr n).node).reach = false ∧ t.raised 15 (w32 n) (w32 (s.nbr n).node) (w32 (s.nbr n).pan)) := by
  have hx : (s.missCounted n).nbr n = { s.nbr n with
      misses := 3, missFrom := max s.now ((s.nbr n).missFrom + ms (100 * (s.nbr n).livePeriod)) } := by
    simp [State.missCounted, hm]
  obtain ⟨hnbr, hnow, hnode, hevt⟩ := State.nbrLost_effect (s := s.missCounted n) n hq ha
  rw [hx] at hnbr hnode hevt
  refine Does.of_next ((exec_livenessPeriodExpiry hv hp).trans (congrArg _ (if_pos (by simp [hm, hs])))) ?_
  exact ⟨by rw [hnbr], by rw [hnbr], by rw [hnbr, hnow], hnode, hevt⟩

end

/-! ### Frames held for a lost neighbour (R145) -/

section
variable (s : State) (q : Nat) (f : Frame)

theorem State.nbrIdle_qmg (n : Nat) : (s.nbrIdle n).qmg = s.qmg := (State.nbrIdle_within s n (Within.refl [.link] s) rfl).only .qmg (by decide)

/-- A frame that leaves its queue leaves the others as they are. -/
theorem State.queue_drop (r : Nat) : (s.drop q f).queue r =
    if r = q then { s.queue q with frames := (s.queue q).frames.filter (fun g => g.id ≠ f.id) } else s.queue r := by
  have hq : (s.drop q f).queue r =
      (s.setQueue q { s.queue q with frames := (s.queue q).frames.filter (fun g => g.id ≠ f.id) }).queue r := by
    unfold State.drop
    dsimp only
    split
    · rw [State.queue, State.nbrIdle_qmg]; rfl
    · rfl
  rw [hq]
  split
  next h => rw [h, State.queue_setQueue]
  next h => rw [State.queue_setQueue_ne _ _ h]

theorem State.drop_now : (s.drop q f).now = s.now := (State.drop_within s q f (Within.refl [.regs, .air, .qmg, .link] s) rfl).only .now (by decide)

variable {s q f}

/-- A frame of the chip's own that is no part of a datagram just leaves its queue. -/
theorem State.finish_own (status cause detail : Nat) (hm : (s.queue q).mismatch = false) (hg : f.gram = none) (ho : f.origin = .own) :
    s.finish q f status cause detail = s.drop q f := by
  simp [State.finish, State.finishNow, State.frameEnd, State.originEnd, hm, hg, ho]

end

/-- The frames of a lost neighbour's queue of one class complete NBR_LOST. -/
def State.heldEnd (s : State) (n c : Nat) : State :=
  (s.queue (qNbr n c)).frames.foldl (fun s f =>
    if (s.queue (qNbr n c)).frames.any (fun g => g.id = f.id) then s.finish (qNbr n c) f stNBR_LOST 0 0 else s) s

section
variable {s : State}

theorem State.heldEnd_empty {n c : Nat} (h : (s.queue (qNbr n c)).frames = []) : s.heldEnd n c = s := by simp [State.heldEnd, h]

theorem State.heldEnd_own {n c : Nat} {f : Frame} (h : (s.queue (qNbr n c)).frames = [f]) (hm : (s.queue (qNbr n c)).mismatch = false)
    (hg : f.gram = none) (ho : f.origin = .own) : s.heldEnd n c = s.drop (qNbr n c) f := by
  simp [State.heldEnd, h, State.finish_own _ _ _ hm hg ho]

theorem exec_heldFrameExpiry {n : Fin 8192} (hv : (s.nbr n).valid = true) (hs : (s.nbr n).state = 3) :
    exec (.heldFrameExpiry n) s = .next (((((s.advanceTo ((s.nbr n).lostAt + sec 30)).heldEnd n 0).heldEnd n 1).heldEnd n 2).heldEnd n 3) := by
  rw [exec_heldFrameExpiry_arm, execHeldFrameExpiry]
  exact congrArg _ (if_neg (by simp [hv, hs]))

theorem Does.heldFrameExpiry {n : Fin 8192} {f : Frame} (hv : (s.nbr n).valid = true) (hs : (s.nbr n).state = 3)
    (hf : (s.queue (qNbr n 0)).frames = [f]) (hm : (s.queue (qNbr n 0)).mismatch = false)
    (hc : ∀ c : Fin 4, c ≠ 0 → (s.queue (qNbr n c)).frames = []) (hg : f.gram = none) (ho : f.origin = .own) :
    Does (.heldFrameExpiry n) s (fun t => (t.queue (qNbr n 0)).frames = [] ∧ t.now = max s.now ((s.nbr n).lostAt + sec 30)) := by
  obtain ⟨u, hu⟩ : ∃ u, s.advanceTo ((s.nbr n).lostAt + sec 30) = u := ⟨_, rfl⟩
  have hqu : ∀ q, u.queue q = s.queue q := fun q => State.queue_of_qmg (by rw [← hu, State.advanceTo_qmg]) q
  have h0 : u.heldEnd n 0 = u.drop (qNbr n 0) f := State.heldEnd_own (by rw [hqu, hf]) (by rw [hqu, hm]) hg ho
  have hother : ∀ c : Fin 4, c ≠ 0 → ((u.drop (qNbr n 0) f).queue (qNbr n c)).frames = [] := fun c hne => by
    have hq : qNbr n c ≠ qNbr n 0 := by
      have : c.val ≠ 0 := fun h => hne (Fin.ext h)
      unfold qNbr
      omega
    rw [State.queue_drop, if_neg hq, hqu, hc c hne]
  have hkept : ∀ c : Fin 4, c ≠ 0 → (u.drop (qNbr n 0) f).heldEnd n c = u.drop (qNbr n 0) f := fun c hne => State.heldEnd_empty (hother c hne)
  refine Does.of_next (t := u.drop (qNbr n 0) f) ?_ ⟨?_, ?_⟩
  · rw [exec_heldFrameExpiry hv hs, hu, h0]
    exact congrArg _ (((congrArg (fun v => (v.heldEnd n 2).heldEnd n 3) (hkept 1 (by decide))).trans
      (congrArg (fun v => v.heldEnd n 3) (hkept 2 (by decide)))).trans (hkept 3 (by decide)))
  · rw [State.queue_drop, if_pos rfl, hqu, hf]
    simp
  · rw [State.drop_now, ← hu, State.advanceTo_now]

end

/-! ### The obligation -/

/-- Settles O39: a write is decided by the entry and its owner, a period by the misses it counts, and the one held frame leaves its queue. -/
theorem neighboursLiveAndAreLost : Obligations.NeighboursLiveAndAreLost := by
  unfold Obligations.NeighboursLiveAndAreLost
  intro s q n data x k w y
  exact ⟨fun hv hm hb => congrArg _ (State.nbrWrite_stored hv hm hb), fun hv hm hb => congrArg _ (State.nbrWrite_bad hv hm hb),
    fun hv => congrArg _ (State.nbrWrite_invalid hv), fun hv hm => congrArg _ (State.nbrWrite_refused hv hm),
    fun hv hp hm => Does.livenessPeriodExpiry_suspect hv hp hm,
    fun hv hp hm hs hq ha => Does.livenessPeriodExpiry_lost hv hp hm hs hq ha,
    fun f hv hs hf hm hc hg ho => Does.heldFrameExpiry hv hs hf hm hc hg ho⟩

end Sys2Proof.Machine
end

section
/-! What an operation of the queues, the keys, the logs and the engines never does: it makes no PAN, slotframe, lock, neighbour or short address
appear or move (R132 to R142). The registers concerned stay as they are or become 0: an image session of any number that ends clears its register.
The deletion of a PAN (O38) and the load of a new neighbour's key (O40) rest on it. -/

-- One proof at a time: the joined text is elaborated near its limit of memory, which proofs side by side would pass.
set_option Elab.async false

namespace Sys2Proof.Machine

/-- Registers that make a PAN or a slotframe exist and unlock partition 0's lock: `SLOT_SF_W0` and its neighbours, `PAN_pCTRL`, `SYS_LOCK`. -/
abbrev EntryKey (k : Nat) : Prop := (0xA400 ≤ k ∧ k < 0xA800) ∨ (0xC000 ≤ k ∧ k < 0xC200 ∧ k % 64 = 0) ∨ k = 0x20000

/-- What a neighbour entry is about: whether it is valid, its PAN and its node. -/
def Nbr.core (x : Nbr) : Bool × Nat × Nat := (x.valid, x.pan, x.node)

/-- From a state to another no PAN, slotframe, lock, neighbour or short address appeared or moved. -/
structure EntriesKept (s t : State) : Prop where
  regs : ∀ k, EntryKey k → t.rd k = s.rd k ∨ t.rd k = 0
  assigned : t.link.assigned = s.link.assigned
  nbrs : ∀ n, (t.nbr n).core = (s.nbr n).core

/-! ### The rules -/

section
variable {s t u : State}

theorem EntriesKept.refl (s : State) : EntriesKept s s := ⟨fun _ _ => .inl rfl, rfl, fun _ => rfl⟩

theorem EntriesKept.trans (h : EntriesKept s t) (h2 : EntriesKept t u) : EntriesKept s u where
  regs k hk := (h2.regs k hk).elim (fun e => (h.regs k hk).imp e.trans e.trans) .inr
  assigned := h2.assigned.trans h.assigned
  nbrs n := (h2.nbrs n).trans (h.nbrs n)

variable (h : EntriesKept s t)
include h

/-- Only the registers and the link layer's tables matter. -/
theorem EntriesKept.same (hr : u.regs = t.regs := by rfl) (hl : u.link = t.link := by rfl) : EntriesKept s u :=
  h.trans ⟨fun k _ => .inl (State.rd_of_regs hr k), by rw [hl], fun n => by rw [State.nbr_of_link hl]⟩

theorem EntriesKept.within {l : List Comp} (hw : Within l t u) (hr : Comp.regs ∉ l) (hl : Comp.link ∉ l) : EntriesKept s u :=
  h.same (hw.only .regs hr) (hw.only .link hl)

theorem EntriesKept.wr (k : Nat) (v : Word) (hk : ¬EntryKey k) : EntriesKept s (t.wr k v) :=
  h.trans ⟨fun _ hj => .inl (t.rd_wr_ne v (fun e => hk (e ▸ hj))), rfl, fun _ => rfl⟩

/-- Any register may be cleared. -/
theorem EntriesKept.clear (k : Nat) : EntriesKept s (t.wr k 0) := by
  refine h.trans ⟨fun j _ => ?_, rfl, fun _ => rfl⟩
  by_cases e : j = k
  · exact .inr (by rw [e, State.rd_wr])
  · exact .inl (t.rd_wr_ne 0 e)

theorem EntriesKept.setFld (k : Nat) (f : Fld) (x : Nat) (hk : ¬EntryKey k) : EntriesKept s (t.setFld k f x) := h.wr k _ hk

theorem EntriesKept.bump (k : Nat) (hk : ¬EntryKey k) : EntriesKept s (t.bump k) := h.wr k _ hk

/-- A neighbour entry may change in what it is not about. -/
theorem EntriesKept.setNbr (n : Nat) {x : Nbr} (hx : x.core = (t.nbr n).core) : EntriesKept s (t.setNbr n x) := by
  refine h.trans ⟨fun _ _ => .inl rfl, rfl, fun m => ?_⟩
  by_cases e : m = n
  · rw [e, State.nbr_setNbr, hx]
  · rw [State.nbr_setNbr_ne _ _ e]

theorem EntriesKept.foldl {α : Type} {f : State → α → State} (hf : ∀ u x, EntriesKept s u → EntriesKept s (f u x)) (l : List α) :
    EntriesKept s (l.foldl f t) := by
  induction l generalizing t with
  | nil => exact h
  | cons x l ih => exact ih (hf t x h)

end

/-- Where an operation branches, both branches keep them. -/
theorem EntriesKept.ite {s t u : State} {p : Prop} [Decidable p] (ht : p → EntriesKept s t) (hu : ¬p → EntriesKept s u) :
    EntriesKept s (if p then t else u) := by
  split
  · exact ht ‹p›
  · exact hu ‹¬p›


/-! ### Logs and Quiet (R377, R386 to R390) -/

section
variable {s t : State} (h : EntriesKept s t)
include h

theorem EntriesKept.evtF (src mask : Nat) (p0 p1 p2 : Word) : EntriesKept s (t.evtF src mask p0 p1 p2) := h.same

theorem EntriesKept.cmdDone (c : CmdDesc) (status : Nat) (ws : List Word) (cause detail : Nat) :
    EntriesKept s (t.cmdDone c status ws cause detail) := h.same

theorem EntriesKept.ledgerStore (r : List Word) : EntriesKept s (t.ledgerStore r).1 := by
  unfold State.ledgerStore
  dsimp only
  split
  · exact h.setFld R.SAFE_HEALTH _ _ (by decide)
  · exact EntriesKept.setFld (h.same) R.SAFE_HEALTH _ _ (by decide)

theorem EntriesKept.ledgerPut (code src : Nat) (p0 p1 p2 : Word) : EntriesKept s (t.ledgerPut code src p0 p1 p2).1 := by
  have ht : EntriesKept s (t.trail code src p0 p1 p2) := by
    unfold State.trail
    exact EntriesKept.wr (h.same) R.LOG_TNEXT _ (by decide)
  have hn := ht.wr R.LOG_LNEXT (t.rd R.LOG_LNEXT + 1) (by decide)
  unfold State.ledgerPut
  dsimp only
  split
  · split
    · unfold State.fifoSync
      exact EntriesKept.setFld (hn.same) R.LOG_LFIFO _ _ (by decide)
    · exact hn.same
  · exact hn.ledgerStore _

theorem EntriesKept.quietOver (c : Nat) : EntriesKept s (t.quietOver c) := by
  have hl : EntriesKept s (t.setFld R.SAFE_CAUSE F.SAFE_CAUSE_LIVE (clrNbit (t.fld R.SAFE_CAUSE F.SAFE_CAUSE_LIVE) c)) :=
    h.setFld R.SAFE_CAUSE _ _ (by decide)
  exact .ite (fun _ => hl.same) (fun _ => hl)

theorem EntriesKept.quietLatch (c : Nat) : EntriesKept s (t.quietLatch c) := by
  unfold State.quietLatch
  have h1 := h.setFld R.SAFE_CAUSE F.SAFE_CAUSE_LATCHED (setNbit (t.fld R.SAFE_CAUSE F.SAFE_CAUSE_LATCHED) c) (by decide)
  have h2 : EntriesKept s (if causeMomentary c then _ else _) := .ite (fun _ => h1)
    (fun _ => h1.setFld R.SAFE_CAUSE F.SAFE_CAUSE_LIVE (setNbit (t.fld R.SAFE_CAUSE F.SAFE_CAUSE_LIVE) c) (by decide))
  exact ((h2.setFld R.SAFE_STATE F.SAFE_STATE_QUIET 1 (by decide)).setFld R.SAFE_STATE F.SAFE_STATE_DRIVE_F 1 (by decide)).same

theorem EntriesKept.quietReport (c : Nat) : EntriesKept s (t.quietReport c).1 := by
  unfold State.quietReport
  exact (EntriesKept.ite (fun _ => (h.ledgerPut ..).quietOver 9) (fun _ => h.ledgerPut ..)).evtF _ _ _ _ _

theorem EntriesKept.cvnSync : EntriesKept s t.cvnSync :=
  ((h.setFld R.CVN_USE _ _ (by decide)).setFld R.CVN_USE _ _ (by decide)).setFld R.CVN_IDQ _ _ (by decide)

theorem EntriesKept.cvnEnd (c : Caravan) (status : Nat) (expired : Bool) : EntriesKept s (t.cvnEnd c status expired) := by
  have ha := h.foldl (f := fun s p => s.cvnAnswer c status expired p) (fun _ _ hu => hu.same) c.posts
  unfold State.cvnEnd
  exact EntriesKept.cvnSync (ha.same)

theorem EntriesKept.imgEnd (i : Nat) (x : ImgSess) (status : Nat) : EntriesKept s (t.imgEnd i x status) := by
  unfold State.imgEnd
  exact EntriesKept.clear (h.same) _

theorem EntriesKept.quietEnds : EntriesKept s t.quietEnds :=
  (h.foldl (fun _ c hu => hu.cvnEnd c stQUIET false) _).foldl (fun _ e hu => hu.imgEnd e.1 e.2 stQUIET) _

theorem EntriesKept.quietLedger : EntriesKept s t.quietLedger := .ite (fun _ => h) (fun _ => ((h.quietLatch 9).quietReport 9).quietEnds)

theorem EntriesKept.ledger (code src : Nat) (p0 p1 p2 : Word) : EntriesKept s (t.ledger code src p0 p1 p2) := by
  have hp := h.ledgerPut code src p0 p1 p2
  exact .ite (fun _ => hp.quietLedger) (fun _ => .ite (fun _ => hp) (fun _ => hp.quietOver 9))

/-! ### Queues (R237, R278, R287, R289) -/

theorem EntriesKept.freeChain (cs : List Nat) : EntriesKept s (t.freeChain cs) := by
  unfold State.freeChain State.setUsed
  exact EntriesKept.setFld (h.same) R.QMG_FREE _ _ (by decide)

theorem EntriesKept.nbrIdle (n : Nat) : EntriesKept s (t.nbrIdle n) := .ite (fun _ => h.setNbr n rfl) (fun _ => h)

theorem EntriesKept.drop (q : Nat) (f : Frame) : EntriesKept s (t.drop q f) := by
  have hd : EntriesKept s (((t.setQueue q { t.queue q with
      frames := (t.queue q).frames.filter (fun g => g.id ≠ f.id) }).release f).cutFrame f.id) :=
    (EntriesKept.freeChain (h.same) f.onDie).same
  exact .ite (fun _ => hd.nbrIdle _) (fun _ => hd)

theorem EntriesKept.originEnd (o : Origin) (status time attempts beam : Nat) (twin : Bool) (cause detail : Nat) :
    EntriesKept s (t.originEnd o status time attempts beam twin cause detail) :=
  h.within (State.originEnd_within t o status time attempts beam twin cause detail (Within.refl [.pass, .cvn, .mesh] t) rfl)
    (by decide) (by decide)

theorem EntriesKept.frameEnd (f : Frame) (status cause detail : Nat) : EntriesKept s (t.frameEnd f status cause detail) := by
  unfold State.frameEnd
  dsimp only
  split
  · exact h.originEnd ..
  next g _ =>
    have hd := h.foldl (f := fun s e => s.drop e.1 e.2) (fun _ e hu => hu.drop e.1 e.2) (t.gramFrames g)
    refine .ite (fun _ => .ite (fun _ => .ite (fun _ => ?_) (fun _ => h.same)) (fun _ => .ite (fun _ => ?_) (fun _ => h.same)))
      (fun _ => .ite (fun _ => h.same) (fun _ => .ite (fun _ => ?_) (fun _ => .ite (fun _ => ?_) (fun _ => h.same))))
    · exact EntriesKept.bump (h.same) R.MESH_CNT_TWINLATE (by decide)
    · exact EntriesKept.originEnd (h.same) ..
    · exact EntriesKept.originEnd (hd.same) ..
    · exact EntriesKept.originEnd (h.same) ..

theorem EntriesKept.finishNow (q : Nat) (f : Frame) (status cause detail : Nat) : EntriesKept s (t.finishNow q f status cause detail) :=
  (h.drop q f).frameEnd ..

theorem EntriesKept.queueFault (q : Nat) : EntriesKept s (t.queueFault q) := by
  have hf := h.foldl (f := fun s f => if s.inQueue q f then s.finishNow q f stQUEUE_FAULT 0 0 else s)
    (fun u f hu => .ite (fun _ => hu.finishNow q f _ _ _) (fun _ => hu)) (t.queue q).frames
  unfold State.queueFault
  exact EntriesKept.ledger (EntriesKept.bump (hf.same) R.QMG_CNT_FAULT (by decide)) ..

theorem EntriesKept.finish (q : Nat) (f : Frame) (status cause detail : Nat) : EntriesKept s (t.finish q f status cause detail) :=
  .ite (fun _ => .ite (fun _ => (h.queueFault q).finishNow ..) (fun _ => h.queueFault q)) (fun _ => h.finishNow ..)

theorem EntriesKept.flushFrame (q : Nat) (f : Frame) : EntriesKept s (t.flushFrame q f) := .ite (fun _ => h.finish ..) (fun _ => h)

theorem EntriesKept.flushQueue (q : Nat) : EntriesKept s (t.flushQueue q) := by
  have hc : EntriesKept s (t.queueCheck q) := .ite (fun _ => h.queueFault q) (fun _ => h)
  exact hc.foldl (fun _ f hu => hu.flushFrame q f) _

/-! ### Attempts and plans (R57, R156) -/

theorem EntriesKept.frameMod (q id : Nat) (g : Frame → Frame) : EntriesKept s (t.frameMod q id g) := h.same

theorem EntriesKept.attemptFail (a : Attempt) : EntriesKept s (t.attemptFail a) := by
  have hd : EntriesKept s (t.attemptDrop a.id) := h.same
  unfold State.attemptFail
  dsimp only
  split
  · exact hd
  next f _ =>
    split
    · exact hd.finish ..
    next n _ =>
      refine .ite (fun _ => EntriesKept.finish ?_ ..) (fun _ => EntriesKept.frameMod ?_ ..) <;>
        exact .ite (fun _ => EntriesKept.setNbr (hd.same) n rfl) (fun _ => hd)

theorem EntriesKept.attemptCheck (id : Nat) : EntriesKept s (t.attemptCheck id) := by
  unfold State.attemptCheck
  split
  · exact h
  · exact .ite (fun _ => h) (fun _ => h.attemptFail _)

theorem EntriesKept.withdraw (which : AirTx → Bool) : EntriesKept s (t.withdraw which) := by
  unfold State.withdraw
  exact EntriesKept.foldl (h.same) (fun _ x hu => hu.attemptCheck x.attempt) _

/-! ### Keys (R175, R180 to R190) -/

theorem EntriesKept.setSlots (l : List KeySlot) : EntriesKept s (t.setSlots l) := by
  unfold State.setSlots State.keySync
  exact EntriesKept.setFld (EntriesKept.setFld (EntriesKept.setFld (h.same) R.KEY_CACHE_USE _ _ (by decide))
    R.KEY_CACHE_USE _ _ (by decide)) R.KEY_STATUS _ _ (by decide)

theorem EntriesKept.keyForget (r : KeyRole) : EntriesKept s (t.keyForget r) := h.setSlots _

theorem EntriesKept.unbind (e : Nat) : EntriesKept s (t.unbind e) :=
  h.within (State.unbind_within t e (Within.refl [.key, .vault] t) rfl) (by decide) (by decide)

theorem EntriesKept.slotFail (x : KeySlot) (no : Nat) : EntriesKept s (t.slotFail x no) := by
  unfold State.slotFail State.keyErase
  exact EntriesKept.ledger (EntriesKept.evtF (EntriesKept.bump (h.setSlots _) R.KEY_CNT_SCRUB (by decide)) ..) ..

theorem EntriesKept.keyCheck (r : KeyRole) (attr : Nat) : EntriesKept s (t.keyCheck r attr) := by
  unfold State.keyCheck
  split
  · exact h
  · exact .ite (fun _ => h.slotFail ..) (fun _ => h)

theorem EntriesKept.keyRoom {r : KeyRole} {u : State} (hu : t.keyRoom r = some u) : EntriesKept s u := by
  unfold State.keyRoom at hu
  split at hu
  · exact Option.some.inj hu ▸ h
  · obtain ⟨x, -, rfl⟩ := Option.map_eq_some_iff.mp hu
    exact EntriesKept.bump (h.keyForget x.role) R.KEY_CNT_EVICT (by decide)

/-- A record and an entry of the counters. -/
theorem EntriesKept.bound (i : Nat) (r : CtrRec) (e : Nat) (x : CtrEntry) : EntriesKept s ((t.setRecord i r).setCtr e x) := h.same

theorem EntriesKept.bind (e fp keyId part floor : Nat) : EntriesKept s (t.bind e fp keyId part floor) := by
  have hu := h.unbind e
  unfold State.bind
  split
  · exact h
  · dsimp only
    split
    · split
      · exact .ite (fun _ => EntriesKept.setNbr (hu.same) e rfl) (fun _ => hu.same)
      · exact hu.same
    · refine EntriesKept.bound ?_ ..
      exact .ite (fun _ => hu) (fun _ => hu.ledger ..)

theorem EntriesKept.keyPut (r : KeyRole) (m : Material) : EntriesKept s (t.keyPut r m) := by
  unfold State.keyPut
  dsimp only
  split
  · exact EntriesKept.setSlots (h.same) _
  · exact EntriesKept.bind (EntriesKept.setSlots (h.same) _) ..

theorem EntriesKept.keyLoad {r : KeyRole} {u : State} (hu : t.keyLoad r = some (.ok u)) : EntriesKept s u := by
  unfold State.keyLoad at hu
  split at hu
  · cases hu
  · obtain ⟨v, hv, e⟩ := Option.map_eq_some_iff.mp hu
    cases e
    exact (h.keyRoom hv).keyPut ..

theorem EntriesKept.kekReady (p : Nat) : EntriesKept s (t.kekReady p) := by
  have hc := h.keyCheck (.kek p) attrWRAP
  unfold State.kekReady
  dsimp only
  split
  · exact hc
  · split
    · exact hc.keyLoad ‹_›
    · exact hc.keyForget _
    · exact hc

theorem EntriesKept.deriveReady (d : Nat) : EntriesKept s (t.deriveReady d) := by
  have hc := h.keyCheck (.derive d) attrDERIVE
  unfold State.deriveReady
  dsimp only
  split
  · exact hc
  · split
    · exact hc
    · split
      · exact ((hc.kekReady _).keyLoad ‹_›).bump R.KEY_CNT_MISS (by decide)
      · exact hc.kekReady _

theorem EntriesKept.keyReady (r : KeyRole) : EntriesKept s (t.keyReady r) := by
  unfold State.keyReady
  split
  · exact .ite (fun _ => h.deriveReady _) (fun _ => h.kekReady _)
  · exact h
  · split
    · exact h
    · exact h.kekReady _

theorem EntriesKept.keyRequest (cls : Nat) (r : KeyRole) : EntriesKept s (t.keyRequest cls r) :=
  .ite (fun _ => h) (fun _ => .ite (fun _ => h.same) (fun _ => .ite (fun _ => .ite (fun _ => h) (fun _ => h.same))
    (fun _ => EntriesKept.bump (h.same) R.KEY_CNT_MISS (by decide))))

theorem EntriesKept.linkLoad (n : Nat) : EntriesKept s (t.linkLoad n) := by
  have hr := h.keyReady (.link n)
  unfold State.linkLoad
  dsimp only
  split
  · exact (hr.keyLoad ‹_›).bump R.KEY_CNT_MISS (by decide)
  · exact hr
  · exact hr.keyRequest ..

end

end Sys2Proof.Machine
end

section
/-! O38: PANs (R132 to R134). A write of `PAN_pCTRL` is decided by the lock, the writer and whether the PAN exists; the deletion of a PAN differs from
a state without its slotframes, neighbours and addresses only in what makes none of them appear. -/

set_option Elab.async false

namespace Sys2Proof.Machine

/-! ### Registers, locks and masked words -/

theorem panCtrl_ne_sysLock (p : Fin 8) (q : Nat) : R.PAN_CTRL p ≠ R.SYS_LOCK q := by
  simp only [R.PAN_CTRL, R.SYS_LOCK]
  omega

theorem sysLock_not_mem_pan (p : Fin 8) : R.SYS_LOCK 0 ∉ [R.PAN_CTRL p, R.PAN_ADDR p, R.PAN_QUAR p] := by
  simp only [R.PAN_CTRL, R.PAN_ADDR, R.PAN_QUAR, R.SYS_LOCK, List.mem_cons, List.not_mem_nil, or_false]
  omega

theorem sysLock_not_mem_change (p : Fin 8) : R.SYS_LOCK 0 ∉ [R.PAN_CTRL p, R.LINK_ERR] := by
  simp only [R.PAN_CTRL, R.LINK_ERR, R.SYS_LOCK, List.mem_cons, List.not_mem_nil, or_false]
  omega

theorem panCtrl_ne_linkErr (p : Nat) : R.PAN_CTRL p ≠ R.LINK_ERR := by
  simp only [R.PAN_CTRL, R.LINK_ERR]
  omega

theorem entryKey_panCtrl (p : Fin 8) : EntryKey (R.PAN_CTRL p) := by
  simp only [EntryKey, R.PAN_CTRL]
  omega

theorem entryKey_slotSf (i : Fin 64) : EntryKey (R.SLOT_SF_W0 i) := by
  simp only [EntryKey, R.SLOT_SF_W0]
  omega

section
variable (s : State) (q : Nat)

theorem State.rd_armLock_ne {k : Nat} (h : k ≠ R.SYS_LOCK q) : (s.armLock q).rd k = s.rd k := s.rd_setFld_ne _ _ h

theorem State.armLock_regsBut : (s.armLock q).regsBut s [R.SYS_LOCK q] := fun _ hk => s.rd_armLock_ne q (List.ne_of_not_mem_cons hk)

theorem State.flag_armLock : (s.armLock q).flag (R.SYS_LOCK q) F.SYS_LOCK_UNLOCKED = false := by
  have h : (s.armLock q).fld (R.SYS_LOCK q) F.SYS_LOCK_UNLOCKED = 0 := s.fld_setFld (R.SYS_LOCK q) F.SYS_LOCK_UNLOCKED 0 (by decide)
  rw [State.flag, h]
  rfl

variable {s q}

theorem State.unlocked_of_flag (h : s.flag (R.SYS_LOCK q) F.SYS_LOCK_UNLOCKED = false) : s.unlocked q = false := by
  rw [State.unlocked, h, Bool.false_and]

/-- A lock that was armed is armed while its register stays. -/
theorem State.armLock_locked {t : State} (h : t.rd (R.SYS_LOCK q) = (s.armLock q).rd (R.SYS_LOCK q)) : t.unlocked q = false :=
  State.unlocked_of_flag (by rw [State.flag, State.fld, h]; exact s.flag_armLock q)

theorem State.panOn_of_rd {t : State} {p : Nat} (h : t.rd (R.PAN_CTRL p) = s.rd (R.PAN_CTRL p)) : t.panOn p = s.panOn p := by
  simp only [State.panOn, State.flag, State.fld, h]

theorem State.panOn_armLock (p : Fin 8) : (s.armLock q).panOn p = s.panOn p := State.panOn_of_rd (s.rd_armLock_ne q (panCtrl_ne_sysLock p q))

end

section
variable (data : Word)

/-- The word that a write of `PAN_pCTRL` brings with `ENABLE` as it has to be. -/
abbrev panWord (data : Word) (x : Nat) : Word := fset F.PAN_CTRL_ENABLE data x

theorem panWord_enable (x : Nat) : fget F.PAN_CTRL_ENABLE (panWord data x) = x % 2 := fget_fset _ _ _ (by decide)

theorem panWord_on : fget F.PAN_CTRL_ENABLE (panWord data 1 &&& 0xF) = 1 := (fget_mask _ (by decide)).trans (panWord_enable data 1)

theorem panWord_off : fget F.PAN_CTRL_ENABLE (panWord data 0 &&& 0xE) = 0 := by
  rw [fget_and, panWord_enable]
  decide

theorem panWord_owner (x : Nat) : fget F.PAN_CTRL_OWNER (panWord data x) = fget F.PAN_CTRL_OWNER data :=
  fget_fset_above _ _ _ _ (by decide) (by decide)

end

/-! ### Writes of `PAN_pCTRL` (R132, R133) -/

section
variable {s : State} {q : Part} {p : Fin 8} (data : Word)

theorem exec_panCreate_exists (h : s.panOn p = true) : exec (.panCreate q p data) s = .next s := congrArg _ (if_pos h)

theorem exec_panOwnerChange_none (h : s.panOn p = false) : exec (.panOwnerChange q p data) s = .next s :=
  congrArg _ (if_neg (ne_true_of_eq_false h))

theorem exec_panDelete_armed (h : s.unlocked q = false) :
    exec (.panDelete q p data) s = .next (s.guardViolation q (w32 (R.PAN_CTRL p)) false (panWord data 0)) :=
  congrArg _ (State.guarded_armed _ _ _ _ _ h)

/-- No other partition may write it. -/
theorem State.panCtrl_other (h : s.unlocked q = true) (hq : q ≠ 0) (w : Word) :
    s.panCtrl q p w = (s.armLock q).err R.LINK_ERR F.LINK_ERR_PART_WRITE := by
  rw [State.panCtrl, State.guarded_unlocked _ _ _ _ _ h]
  exact if_pos (fun e => hq (Fin.ext e))

variable (h : s.unlocked 0 = true)
include h

/-- Partition 0's write through its unlocked lock. -/
theorem State.panCtrl_zero (w : Word) : s.panCtrl 0 p w =
    if fget F.PAN_CTRL_ENABLE w = 0 then (s.armLock 0).panDelete p w
    else if s.panOn p then (s.armLock 0).panChange p w else (s.armLock 0).panCreate p w := by
  rw [State.panCtrl, State.guarded_unlocked _ _ _ _ _ h, State.panOn_armLock]
  rfl

theorem exec_panDelete : exec (.panDelete 0 p data) s = .next ((s.armLock 0).panDelete p (panWord data 0)) :=
  congrArg _ ((State.panCtrl_zero h _).trans (if_pos (panWord_enable data 0)))

theorem exec_panOwnerChange (ho : s.panOn p = true) :
    exec (.panOwnerChange 0 p data) s = .next ((s.armLock 0).panChange p (panWord data 1)) := by
  have he : fget F.PAN_CTRL_ENABLE (panWord data 1) ≠ 0 := by simp [panWord_enable]
  exact congrArg _ ((if_pos ho).trans ((State.panCtrl_zero h _).trans ((if_neg he).trans (if_pos ho))))

theorem exec_panCreate (ho : s.panOn p = false) :
    exec (.panCreate 0 p data) s = .next ((s.armLock 0).panCreate p (panWord data 1)) := by
  have he : fget F.PAN_CTRL_ENABLE (panWord data 1) ≠ 0 := by simp [panWord_enable]
  have hn : ¬s.panOn p = true := ne_true_of_eq_false ho
  exact congrArg _ ((if_neg hn).trans ((State.panCtrl_zero h _).trans ((if_neg he).trans (if_neg hn))))

end

/-! ### Creation and change (R132, R133, R139) -/

section
variable (s : State)

theorem State.addrSync_regsBut (p : Nat) : (s.addrSync p).regsBut s [R.PAN_ADDR p, R.PAN_QUAR p] :=
  State.regsBut_trans (s.setFld_regsBut _ _ (by simp)) (State.setFld_regsBut _ _ _ (by simp))

@[simp] theorem State.addrSync_link (p : Nat) : (s.addrSync p).link = s.link := rfl

/-- A PAN may be created with the slot's `PAN_ID` (R132). -/
def State.panIdFree (s : State) (p : Nat) : Prop :=
  s.panId p ≠ 0xFFFF ∧ ∀ r : Fin 8, r.val ≠ p → s.panOn r = true → s.panId r ≠ s.panId p

variable {s} {q : Part} {p : Fin 8} {data : Word}

theorem State.panId_armLock (q : Nat) (r : Fin 8) : (s.armLock q).panId r = s.panId r := by
  refine congrArg (fget F.PAN_ID_PAN_ID) (s.rd_armLock_ne q ?_)
  simp only [R.PAN_ID, R.SYS_LOCK]
  omega

theorem State.panIdFree_iff : s.panIdFree p ↔
    ¬(s.panId p = 0xFFFF || (List.range 8).any (fun q => q ≠ p && s.panOn q && s.panId q = s.panId p)) = true := by
  simp only [State.panIdFree, Bool.or_eq_true, decide_eq_true_eq, List.any_eq_true, List.mem_range, Bool.and_eq_true, not_or, not_exists,
    not_and]
  exact and_congr_right fun _ => ⟨fun h r hr hc => h ⟨r, hr⟩ hc.1 hc.2, fun h r hp ho => h r r.isLt ⟨hp, ho⟩⟩

theorem State.panCreate_invalid (h : ¬s.panIdFree p) : s.panCreate p data = s.err R.LINK_ERR F.LINK_ERR_PAN_INVALID :=
  if_pos (by_contra fun hc => h (State.panIdFree_iff.mpr hc))

/-- The registers and the quarantines of a created PAN, before its counts follow. -/
def State.panStored (s : State) (p : Nat) (data : Word) : State :=
  let was := aget 0 p s.link.quarId
  let s1 := s.wr (R.PAN_CTRL p) (data &&& 0xF)
  { s1 with link := { s1.link with
      quarId := aset 0 p (s.panId p + 1) s1.link.quarId
      quar := if was = 0 || was = s.panId p + 1 then s1.link.quar else s1.link.quar.filter (fun (e : Nat × Nat) => e.1 / 2 ^ 16 ≠ p) } }

theorem State.panCreate_valid (h : s.panIdFree p) : s.panCreate p data = (s.panStored p data).addrSync p :=
  if_neg (State.panIdFree_iff.mp h)

theorem State.panCreate_effect (h : s.panIdFree p) : let t := s.panCreate p data
    t.rd (R.PAN_CTRL p) = data &&& 0xF ∧ aget 0 p.val t.link.quarId = s.panId p + 1 ∧
      t.regsBut s [R.PAN_CTRL p, R.PAN_ADDR p, R.PAN_QUAR p] := by
  have hr : (s.panStored p data).regs = (s.wr (R.PAN_CTRL p) (data &&& 0xF)).regs := rfl
  have ha := (s.panStored p data).addrSync_regsBut p
  intro t
  rw [show t = _ from State.panCreate_valid h]
  refine ⟨?_, aget_aset_same 0 (s.panId p + 1) p.val s.link.quarId, ?_⟩
  · rw [ha (R.PAN_CTRL p) (by simp [R.PAN_CTRL, R.PAN_ADDR, R.PAN_QUAR]), State.rd_of_regs hr, State.rd_wr]
  · have hs := s.wr_regsBut (ks := [R.PAN_CTRL p, R.PAN_ADDR p, R.PAN_QUAR p]) (data &&& 0xF) (List.mem_cons_self ..)
    exact State.regsBut_trans (State.regsBut_trans hs (State.regsBut_of_regs hr)) (State.regsBut_mono ha (List.subset_cons_self ..))

/-- A change writes `OWNER` alone; one that asks for another `SECURED` is refused that part. -/
theorem State.panChange_effect : let t := s.panChange p data
    t.rd (R.PAN_CTRL p) = fset F.PAN_CTRL_OWNER (s.rd (R.PAN_CTRL p)) (fget F.PAN_CTRL_OWNER data) ∧
      t.regsBut s [R.PAN_CTRL p, R.LINK_ERR] := by
  have h1 := s.setFld_regsBut (ks := [R.PAN_CTRL p, R.LINK_ERR]) F.PAN_CTRL_OWNER (fget F.PAN_CTRL_OWNER data) (List.mem_cons_self ..)
  intro t
  rw [show t = if _ then _ else _ from rfl]
  split
  · exact ⟨State.rd_wr .., h1⟩
  · exact ⟨(State.rd_err_ne _ _ _ (panCtrl_ne_linkErr p)).trans (State.rd_wr ..), State.regsBut_trans h1 (State.setFld_regsBut _ _ _ (by simp))⟩

theorem Does.panCreate_valid (h : s.unlocked 0 = true) (ho : s.panOn p = false) (hf : s.panId p ≠ 0xFFFF)
    (hr : ∀ r : Fin 8, s.panOn r = true → s.panId r ≠ s.panId p) : Does (.panCreate 0 p data) s (fun t =>
      t.rd (R.PAN_CTRL p) = panWord data 1 &&& 0xF ∧ t.panOn p = true ∧ t.unlocked 0 = false ∧ aget 0 p.val t.link.quarId = s.panId p + 1 ∧
        t.regsBut s [R.PAN_CTRL p, R.SYS_LOCK 0, R.PAN_ADDR p, R.PAN_QUAR p]) := by
  have hfree : (s.armLock 0).panIdFree p :=
    ⟨by rwa [State.panId_armLock], fun r _ hr' => by rw [State.panId_armLock, State.panId_armLock]; exact hr r ((s.panOn_armLock r) ▸ hr')⟩
  obtain ⟨hc, hq, hk⟩ := State.panCreate_effect (data := panWord data 1) hfree
  refine Does.of_next (exec_panCreate data h ho) ⟨hc, ?_, ?_, ?_, ?_⟩
  · rw [State.panOn, State.flag, State.fld, hc, panWord_on, decide_eq_true p.isLt]
    rfl
  · exact State.armLock_locked (hk (R.SYS_LOCK 0) (sysLock_not_mem_pan p))
  · rw [hq, State.panId_armLock]
  · exact State.regsBut_trans (State.regsBut_mono (s.armLock_regsBut 0) (by simp)) (State.regsBut_mono hk (by simp))

theorem Does.panCreate_invalid (h : s.unlocked 0 = true) (ho : s.panOn p = false)
    (hi : s.panId p = 0xFFFF ∨ ∃ r : Fin 8, r ≠ p ∧ s.panOn r = true ∧ s.panId r = s.panId p) : Does (.panCreate 0 p data) s (fun t =>
      t.flag R.LINK_ERR F.LINK_ERR_PAN_INVALID = true ∧ t.panOn p = false ∧ t.unlocked 0 = false ∧ t.regsBut s [R.LINK_ERR, R.SYS_LOCK 0]) := by
  have hn : ¬(s.armLock 0).panIdFree p := by
    rintro ⟨hf, hr⟩
    rw [State.panId_armLock] at hf
    obtain ⟨r, hne, hon, hid⟩ := hi.resolve_left hf
    refine hr r (fun e => hne (Fin.ext e)) (by rw [State.panOn_armLock, hon]) ?_
    rw [State.panId_armLock, State.panId_armLock, hid]
  have hw : exec (.panCreate 0 p data) s = .next ((s.armLock 0).err R.LINK_ERR F.LINK_ERR_PAN_INVALID) :=
    (exec_panCreate data h ho).trans (congrArg _ (State.panCreate_invalid hn))
  refine Does.of_next hw ⟨State.flag_err _ _ (by decide) (by decide), ?_, State.armLock_locked (State.rd_err_ne _ _ _ (by decide)), ?_⟩
  · rw [State.panOn_of_rd (State.rd_err_ne _ _ _ (panCtrl_ne_linkErr p)), State.panOn_armLock, ho]
  · exact State.regsBut_trans (State.regsBut_mono (s.armLock_regsBut 0) (by simp)) (State.setFld_regsBut _ _ _ (by simp))

theorem Does.panOwnerChange (h : s.unlocked 0 = true) (ho : s.panOn p = true) : Does (.panOwnerChange 0 p data) s (fun t =>
    t.panOwner p = fget F.PAN_CTRL_OWNER data ∧ t.panOn p = true ∧ t.panSecured p = s.panSecured p ∧ t.unlocked 0 = false ∧
      t.regsBut s [R.PAN_CTRL p, R.SYS_LOCK 0, R.LINK_ERR]) := by
  obtain ⟨hc, hk⟩ := State.panChange_effect (s := s.armLock 0) (p := p) (data := panWord data 1)
  rw [s.rd_armLock_ne 0 (panCtrl_ne_sysLock p 0), panWord_owner] at hc
  refine Does.of_next (exec_panOwnerChange data h ho) ⟨?_, ?_, ?_, ?_, ?_⟩
  · rw [State.panOwner, State.fld, hc, fget_fset _ _ _ (by decide), Nat.mod_eq_of_lt (fget_lt _ data)]
  · rw [← ho]
    simp only [State.panOn, State.flag, State.fld, hc,
      fget_fset_below F.PAN_CTRL_OWNER F.PAN_CTRL_ENABLE (s.rd (R.PAN_CTRL p)) (fget F.PAN_CTRL_OWNER data) (by decide) (by decide)]
  · simp only [State.panSecured, State.flag, State.fld, hc,
      fget_fset_above F.PAN_CTRL_OWNER F.PAN_CTRL_SECURED (s.rd (R.PAN_CTRL p)) (fget F.PAN_CTRL_OWNER data) (by decide) (by decide)]
  · exact State.armLock_locked (hk (R.SYS_LOCK 0) (sysLock_not_mem_change p))
  · exact State.regsBut_trans (State.regsBut_mono (s.armLock_regsBut 0) (by simp)) (State.regsBut_mono hk (by simp))

/-- A deletion of a PAN that does not exist writes the register and nothing else. -/
theorem Does.panDelete_none (h : s.unlocked 0 = true) (ho : s.panOn p = false) : Does (.panDelete 0 p data) s (fun t =>
    t.rd (R.PAN_CTRL p) = panWord data 0 &&& 0xE ∧ t.regsBut s [R.PAN_CTRL p, R.SYS_LOCK 0]) := by
  have hd : (s.armLock 0).panDelete p (panWord data 0) = (s.armLock 0).wr (R.PAN_CTRL p) (panWord data 0 &&& 0xE) :=
    if_pos (by rw [State.panOn_armLock, ho]; rfl)
  refine Does.of_next ((exec_panDelete data h).trans (congrArg _ hd)) ⟨State.rd_wr .., ?_⟩
  exact State.regsBut_trans (State.regsBut_mono (s.armLock_regsBut 0) (by simp)) (State.wr_regsBut _ _ (by simp))

theorem Does.panDelete_other (h : s.unlocked q = true) (hq : q ≠ 0) (ho : s.panOn p = true) : Does (.panDelete q p data) s (fun t =>
    t.flag R.LINK_ERR F.LINK_ERR_PART_WRITE = true ∧ t.panOn p = true ∧ t.unlocked q = false) := by
  have hw : exec (.panDelete q p data) s = .next (s.panCtrl q p (panWord data 0)) := rfl
  rw [State.panCtrl_other h hq] at hw
  refine Does.of_next hw ⟨State.flag_err _ _ (by decide) (by decide), ?_, ?_⟩
  · rw [State.panOn_of_rd (State.rd_err_ne _ _ _ (panCtrl_ne_linkErr p)), State.panOn_armLock, ho]
  · refine State.armLock_locked (State.rd_err_ne _ _ _ ?_)
    simp only [R.SYS_LOCK, R.LINK_ERR]
    omega

end

end Sys2Proof.Machine
end

section
/-! O38: the deletion of a PAN (R134). Whatever it ends, it makes no entry appear; and each entry of the PAN is gone after its own step. -/

set_option Elab.async false

namespace Sys2Proof.Machine

/-! ### The operations of a deletion that make no entry appear -/

section
variable {s t : State} (h : EntriesKept s t)
include h

theorem EntriesKept.groupUnload (p : Fin 8) (pos : Nat) : EntriesKept s (t.groupUnload p pos) :=
  ((h.unbind _).keyForget _).setFld (R.KEY_PAN_CFG p) _ _ (by simp only [EntryKey, R.KEY_PAN_CFG]; omega)

theorem EntriesKept.panKeys (p : Fin 8) : EntriesKept s (t.panKeys p) := by
  have hk : ¬EntryKey (R.KEY_PAN_CFG p) := by
    simp only [EntryKey, R.KEY_PAN_CFG]
    omega
  unfold State.panKeys
  extract_lets s1 s2 s3 mine
  have h1 : EntriesKept s s1 := (h.groupUnload p 0).groupUnload p 1
  have h2 : EntriesKept s s2 := ((h1.unbind _).keyForget _).wr _ _ hk
  have h3 : EntriesKept s s3 := h2.setFld _ _ _ hk
  clear_value s3
  exact h3.same

theorem EntriesKept.tsrcClear (n : Nat) : EntriesKept s (t.tsrcClear n) := by
  have one {u : State} {k : Nat} (f v : Fld) (hk : ¬EntryKey k) (hu : EntriesKept s u) :
      EntriesKept s (if u.flag k v && u.fld k f = n then u.setFld k v 0 else u) := .ite (fun _ => hu.setFld k v 0 hk) (fun _ => hu)
  unfold State.tsrcClear
  exact one _ _ (by decide) (one _ _ (by decide) (one _ _ (by decide) (one _ _ (by decide) h)))

theorem EntriesKept.nbrSync : EntriesKept s t.nbrSync := h.setFld R.LINK_NBR_USE _ _ (by decide)

theorem EntriesKept.addrSync (p : Nat) : EntriesKept s (t.addrSync p) := by
  have ha : ¬EntryKey (R.PAN_ADDR p) ∧ ¬EntryKey (R.PAN_QUAR p) := by
    simp only [EntryKey, R.PAN_ADDR, R.PAN_QUAR]
    omega
  exact (h.setFld (R.PAN_ADDR p) _ _ ha.1).setFld (R.PAN_QUAR p) _ _ ha.2

theorem EntriesKept.engineStop (mine : Origin → Bool) : EntriesKept s (t.engineStop mine) := by
  unfold State.engineStop
  extract_lets ns hit fs s1 cells
  have h1 : EntriesKept s s1 := h.foldl (fun _ e hu => hu.flushFrame e.1 e.2) fs
  exact EntriesKept.freeChain (h1.same) cells

theorem EntriesKept.cvnAbort (cid status : Nat) (expired : Bool) : EntriesKept s (t.cvnAbort cid status expired) := by
  have hs := h.engineStop (ofCaravan cid)
  unfold State.cvnAbort State.cvnStop
  dsimp only
  split
  · exact hs
  · exact hs.cvnEnd ..

theorem EntriesKept.cvnWaitEnd (w : CvnWait) (status : Nat) : EntriesKept s (t.cvnWaitEnd w status) := by
  unfold State.cvnWaitEnd
  exact EntriesKept.cmdDone (EntriesKept.cvnSync (h.same)) ..

theorem EntriesKept.imgAbort (i : Nat) (x : ImgSess) : EntriesKept s (t.imgAbort i x) := (h.engineStop _).imgEnd ..

theorem EntriesKept.panGroups (p : Nat) : EntriesKept s (t.panGroups p) := by
  unfold State.panGroups
  dsimp only
  refine EntriesKept.foldl ((h.foldl (fun _ c hu => hu.cvnAbort ..) _).foldl (fun _ w hu => hu.cvnWaitEnd ..) _) (fun u i hu => ?_) _
  split
  · exact hu
  · exact .ite (fun _ => (hu.flushQueue _).imgAbort ..) (fun _ => hu)

theorem EntriesKept.panRolls (p : Nat) : EntriesKept s (t.panRolls p) := by
  unfold State.panRolls
  exact EntriesKept.foldl (h.same) (fun _ r hu => hu.cmdDone ..) _

theorem EntriesKept.setAir (pos : Option Nat) (hold : Bool) : EntriesKept s (t.setAir pos hold) := h.wr R.LINK_TSRC_STATE _ (by decide)

theorem EntriesKept.enterHoldover : EntriesKept s t.enterHoldover := by
  have hs := h.setFld R.TMR_SERVO F.TMR_SERVO_STATE 3 (by decide)
  exact .ite (fun _ => h) (fun _ => hs.same)

/-- What else the link layer holds does not matter. -/
theorem EntriesKept.tables {u : State} (hr : u.regs = t.regs := by rfl) (ha : u.link.assigned = t.link.assigned := by rfl)
    (hn : u.link.nbrs = t.link.nbrs := by rfl) : EntriesKept s u :=
  h.trans ⟨fun k _ => .inl (State.rd_of_regs hr k), ha, fun n => by rw [State.nbr, hn, State.nbr]⟩

theorem EntriesKept.airSync : EntriesKept s t.airSync := by
  refine .ite (fun _ => h.wr R.LINK_TSRC_STATE _ (by decide)) (fun _ => .ite (fun _ => h) (fun _ => ?_))
  split
  · exact h.setAir ..
  · exact .ite (fun _ => EntriesKept.enterHoldover ((h.setAir none true).tables)) (fun _ => h.enterHoldover)

end

/-! ### Entries that go and never come -/

/-- From a state to another entries went, and none appeared or moved. -/
structure EntriesLess (s t : State) : Prop where
  regs : ∀ k, EntryKey k → t.rd k = s.rd k ∨ t.rd k = 0
  assigned : ∀ k, aget 0 k t.link.assigned = aget 0 k s.link.assigned ∨ aget 0 k t.link.assigned = 0
  nbrs : ∀ n, (t.nbr n).valid = true → (t.nbr n).core = (s.nbr n).core

theorem EntriesKept.less {s t : State} (h : EntriesKept s t) : EntriesLess s t :=
  ⟨h.regs, fun _ => .inl (by rw [h.assigned]), fun n _ => h.nbrs n⟩

section
variable {s t u : State}

theorem Nbr.valid_of_core {x y : Nbr} (h : x.core = y.core) : x.valid = y.valid := congrArg Prod.fst h
theorem Nbr.pan_of_core {x y : Nbr} (h : x.core = y.core) : x.pan = y.pan := congrArg (fun c => c.2.1) h

theorem EntriesLess.trans (h : EntriesLess s t) (h2 : EntriesLess t u) : EntriesLess s u where
  regs k hk := (h2.regs k hk).elim (fun e => (h.regs k hk).imp e.trans e.trans) .inr
  assigned k := (h2.assigned k).elim (fun e => (h.assigned k).imp e.trans e.trans) .inr
  nbrs n hv := by
    have e := h2.nbrs n hv
    exact e.trans (h.nbrs n ((Nbr.valid_of_core e).symm.trans hv))

theorem EntriesLess.foldl {α : Type} {f : State → α → State} (hf : ∀ u x, EntriesLess u (f u x)) (l : List α) (s : State) :
    EntriesLess s (l.foldl f s) := by
  induction l generalizing s with
  | nil => exact (EntriesKept.refl s).less
  | cons x l ih => exact (hf s x).trans (ih (f s x))

variable (h : EntriesLess s t)
include h

/-- A flag of such a register that is clear stays clear. -/
theorem EntriesLess.flag_off {k : Nat} (hk : EntryKey k) {f : Fld} (ho : s.flag k f = false) : t.flag k f = false := by
  rcases h.regs k hk with e | e
  · rw [State.flag, State.fld, e]
    exact ho
  · simp [State.flag, State.fld, e, fget]

theorem EntriesLess.invalid {n : Nat} (hn : (s.nbr n).valid = false) : (t.nbr n).valid = false := by
  by_contra hv
  rw [Bool.not_eq_false] at hv
  rw [Nbr.valid_of_core (h.nbrs n hv), hn] at hv
  exact absurd hv (by decide)

theorem EntriesLess.unassigned {p a : Nat} (ha : s.shortAssigned p a = false) : t.shortAssigned p a = false := by
  simp only [State.shortAssigned, decide_eq_false_iff_not] at ha ⊢
  rcases h.assigned (shortKey p a) with e | e <;> rw [e]
  · exact ha
  · decide

end

/-- What one element of a list brings about and no element undoes holds after the whole list. -/
theorem State.foldl_reaches {α : Type} {P Q : State → Prop} {f : State → α → State} (hP : ∀ u x, P u → P (f u x))
    (hQ : ∀ u x, Q u → Q (f u x)) {x : α} (hx : ∀ u, Q u → P (f u x)) {l : List α} (hm : x ∈ l) {s : State} (hs : Q s) : P (l.foldl f s) := by
  induction l generalizing s with
  | nil => exact absurd hm List.not_mem_nil
  | cons y l ih =>
    rcases List.mem_cons.mp hm with rfl | hm
    · exact List.foldlRecOn l f (hx s hs) (fun u hu z _ => hP u z hu)
    · exact ih hm (hQ s y hs)

/-- A table that does not hold the default at a key lists the key. -/
theorem aget_mem {α : Type} {d : α} {k : Nat} : ∀ {m : List (Nat × α)}, aget d k m ≠ d → (k, aget d k m) ∈ m
  | [], h => absurd rfl h
  | (j, v) :: m, h => by
    by_cases e : j = k
    · rw [e, aget, if_pos rfl]
      exact List.mem_cons_self ..
    · rw [aget, if_neg e] at h ⊢
      exact List.mem_cons_of_mem _ (aget_mem h)

/-! ### Neighbours and addresses that go -/

section
variable (s : State)

/-- A removal makes the neighbour's entry invalid (R142). -/
theorem State.nbrRemove_less (n : Nat) : EntriesLess s (s.nbrRemove n) ∧ ((s.nbrRemove n).nbr n).valid = false := by
  unfold State.nbrRemove
  extract_lets x s1 s2 key s3 node s4
  have h1 : EntriesKept s s1 := (EntriesKept.refl s).foldl (fun _ c hu => hu.flushQueue _) _
  have h2 : EntriesKept s s2 := (h1.unbind n).keyForget _
  clear_value s2
  have h3 : EntriesKept s s3 := h2.same
  have h4 : EntriesKept s s4 := h3.same
  have h5 := h4.tsrcClear n
  have hs : EntriesLess (s4.tsrcClear n) ((s4.tsrcClear n).setNbr n {}) := by
    refine ⟨fun _ _ => .inl rfl, fun _ => .inl rfl, fun m hv => ?_⟩
    by_cases e : m = n
    · rw [e, State.nbr_setNbr] at hv
      exact absurd hv (by decide)
    · rw [State.nbr_setNbr_ne _ _ e]
  refine ⟨(h5.less.trans hs).trans (EntriesKept.refl _).nbrSync.less, ?_⟩
  exact congrArg Nbr.valid (State.nbr_setNbr (s4.tsrcClear n) n {})

/-- An address is quarantined instead of assigned, before the counts follow (R163). -/
def State.unassigned (s : State) (p a secs : Nat) : State :=
  { s with link := { s.link with
      assigned := aset 0 (shortKey p a) 0 s.link.assigned
      quar := aset 0 (shortKey p a) (s.citySec + secs + 1) s.link.quar } }

theorem State.shortQuar_eq (p a secs : Nat) : s.shortQuar p a secs = (s.unassigned p a secs).addrSync p := rfl

theorem State.shortQuar_less (p a secs : Nat) : EntriesLess s (s.shortQuar p a secs) ∧ (s.shortQuar p a secs).shortAssigned p a = false := by
  have hu : EntriesLess s (s.unassigned p a secs) := by
    refine ⟨fun _ _ => .inl rfl, fun k => ?_, fun _ _ => rfl⟩
    by_cases e : k = shortKey p a
    · exact .inr (e ▸ aget_aset_same 0 0 k s.link.assigned)
    · exact .inl (aget_aset_ne 0 0 (shortKey p a) k s.link.assigned e)
  refine ⟨hu.trans ((EntriesKept.refl (s.unassigned p a secs)).addrSync p).less, decide_eq_false ?_⟩
  rw [State.shortQuar_eq, State.addrSync_link, State.unassigned, aget_aset_same]
  decide

end

/-! ### The PAN's slotframes (R112) -/

/-- The `ENABLE` of a slotframe of the PAN is cleared. -/
def State.sfSilence (p : Nat) (s : State) (i : Nat) : State :=
  if s.sfPan i = p then s.setFld (R.SLOT_SF_W0 i) F.SLOT_SF_W0_ENABLE 0 else s

section
variable (s : State) (p i : Nat)

theorem State.sfSilence_sfPan (j : Nat) : (s.sfSilence p j).sfPan i = s.sfPan i := by
  unfold State.sfSilence
  split
  · by_cases e : R.SLOT_SF_W0 i = R.SLOT_SF_W0 j
    · rw [State.sfPan, e, State.fld_setFld_other _ _ _ _ _ (by decide) (by decide), State.sfPan, e]
    · exact State.fld_setFld_ne _ _ _ _ e
  · rfl

theorem State.sfSilence_sfOn (j : Nat) (h : s.sfOn i = false) : (s.sfSilence p j).sfOn i = false := by
  unfold State.sfSilence
  split
  · by_cases e : R.SLOT_SF_W0 i = R.SLOT_SF_W0 j
    · simp [State.sfOn, State.flag, e, State.fld_setFld]
    · rw [State.sfOn, State.flag, State.fld_setFld_ne _ _ _ _ e]
      exact h
  · exact h

theorem State.sfSilence_off (h : s.sfPan i = p) : (s.sfSilence p i).sfOn i = false := by
  simp [State.sfSilence, h, State.sfOn, State.flag, State.fld_setFld]

end

/-! ### The deletion -/

section
variable (s : State) (p : Fin 8) (data : Word)

/-- The PAN's register is written without `ENABLE` and its slotframes are disabled. -/
def State.sfsSilenced (s : State) (p : Fin 8) (data : Word) : State :=
  (List.range 64).foldl (State.sfSilence p) (s.wr (R.PAN_CTRL p) (data &&& 0xE))

theorem State.sfSilence_rd {k : Nat} (hk : 0xA800 ≤ k) {i : Nat} (hi : i < 64) (q : Nat) : (s.sfSilence q i).rd k = s.rd k := by
  unfold State.sfSilence
  split
  · exact State.rd_setFld_ne _ _ _ (by simp only [R.SLOT_SF_W0]; omega)
  · rfl

theorem State.sfsSilenced_rd {k : Nat} (hk : 0xA800 ≤ k) : (s.sfsSilenced p data).rd k = (s.wr (R.PAN_CTRL p) (data &&& 0xE)).rd k :=
  List.foldlRecOn (motive := fun t : State => t.rd k = (s.wr (R.PAN_CTRL p) (data &&& 0xE)).rd k) _ _ rfl
    (fun t ht _ hi => (t.sfSilence_rd hk (List.mem_range.mp hi) p).trans ht)

theorem State.sfsSilenced_sfOn (i : Fin 64) (h : s.sfPan i = p) : (s.sfsSilenced p data).sfOn i = false := by
  refine State.foldl_reaches (P := fun t => t.sfOn i = false) (Q := fun t => t.sfPan i = p) (fun t j => t.sfSilence_sfOn p i j)
    (fun t j ht => (t.sfSilence_sfPan p i j).trans ht) (fun t => t.sfSilence_off p i) (List.mem_range.mpr i.isLt) ?_
  exact (State.fld_of_regsBut (s.wr_regsBut _ (List.mem_singleton_self _)) (by simp [R.SLOT_SF_W0, R.PAN_CTRL]; omega) _).trans h

/-- The neighbours of a PAN are removed. -/
theorem State.panNbrs_gone (n : Nat) (hp : (s.nbr n).pan = p) : (((s.panNbrs p).foldl State.nbrRemove s).nbr n).valid = false := by
  by_cases hv : (s.nbr n).valid = true
  · have hm : (n, s.nbr n) ∈ s.link.nbrs := aget_mem (fun e => absurd ((congrArg Nbr.valid e).symm.trans hv) (by decide))
    refine State.foldl_reaches (P := fun t => (t.nbr n).valid = false) (Q := fun _ => True) (fun t m => (t.nbrRemove_less m).1.invalid)
      (fun _ _ _ => trivial) (fun t _ => (t.nbrRemove_less n).2) (x := n) ?_ trivial
    exact List.mem_map.mpr ⟨_, List.mem_filter.mpr ⟨hm, by simp [hv, hp]⟩, rfl⟩
  · exact (EntriesLess.foldl (fun t m => (t.nbrRemove_less m).1) _ s).invalid (Bool.not_eq_true _ ▸ hv)

/-- The addresses of a PAN are quarantined. -/
def State.panUnassigned (s : State) (p : Nat) : State :=
  ((s.link.assigned.filter (fun e => e.1 / 2 ^ 16 = p)).map (fun e => e.1 % 2 ^ 16)).foldl (fun s a => s.shortQuar p a 86400) s

theorem State.panUnassigned_less : EntriesLess s (s.panUnassigned p) := EntriesLess.foldl (fun t a => (t.shortQuar_less p a _).1) _ s

theorem State.panUnassigned_gone (a : BitVec 16) : (s.panUnassigned p).shortAssigned p a.toNat = false := by
  by_cases ha : s.shortAssigned p a.toNat = true
  · have hk : aget 0 (shortKey p a.toNat) s.link.assigned = 1 := of_decide_eq_true ha
    have hm := aget_mem (d := 0) (k := shortKey p a.toNat) (m := s.link.assigned) (by rw [hk]; decide)
    refine State.foldl_reaches (P := fun t => t.shortAssigned p a.toNat = false) (Q := fun _ => True)
      (fun t b => (t.shortQuar_less p b _).1.unassigned) (fun _ _ _ => trivial) (fun t _ => (t.shortQuar_less p a.toNat _).2)
      (x := a.toNat) (List.mem_map.mpr ⟨_, List.mem_filter.mpr ⟨hm, decide_eq_true ?_⟩, ?_⟩) trivial
    · simp only [shortKey]
      omega
    · simp only [shortKey]
      omega
  · exact (s.panUnassigned_less p).unassigned (Bool.not_eq_true _ ▸ ha)

/-- The four steps of a deletion that take entries, with what comes between them. -/
theorem State.panDelete_steps (ho : s.panOn p = true) : ∃ s2 s3, EntriesKept (s.sfsSilenced p data) s2 ∧
    s3 = (s2.panNbrs p).foldl State.nbrRemove s2 ∧ EntriesKept (s3.panUnassigned p) (s.panDelete p data) := by
  have hd : s.panDelete p data = _ := if_neg (by rw [ho]; decide)
  rw [hd]
  extract_lets s1 s2 s3 as s4
  have h1 : EntriesKept (s.sfsSilenced p data) s1 := (EntriesKept.refl (s.sfsSilenced p data)).withdraw _
  have h2 : EntriesKept (s.sfsSilenced p data) s2 := h1.foldl (fun _ q hu => hu.flushQueue q) _
  exact ⟨s2, s3, h2, rfl, ((((EntriesKept.refl s4).panKeys p).panGroups p).panRolls p).airSync⟩

/-- What a deleted PAN leaves (R134). -/
theorem State.panDelete_effect (ho : s.panOn p = true) : let t := s.panDelete p data
    (∀ k, 0xA800 ≤ k → EntryKey k → t.rd k = (s.wr (R.PAN_CTRL p) (data &&& 0xE)).rd k ∨ t.rd k = 0) ∧
      (∀ i : Fin 64, s.sfPan i = p.val → t.sfOn i = false) ∧ (∀ n, (t.nbr n).valid = true → (t.nbr n).pan ≠ p.val) ∧
      ∀ a : BitVec 16, t.shortAssigned p a.toNat = false := by
  obtain ⟨s2, s3, h2, h3, h4⟩ := s.panDelete_steps p data ho
  have h23 : EntriesLess s2 s3 := h3 ▸ EntriesLess.foldl (fun t m => (t.nbrRemove_less m).1) _ s2
  have h3t : EntriesLess s3 (s.panDelete p data) := (s3.panUnassigned_less p).trans h4.less
  have h0t : EntriesLess (s.sfsSilenced p data) (s.panDelete p data) := (h2.less.trans h23).trans h3t
  refine ⟨fun k hk he => ?_, fun i hi => h0t.flag_off (entryKey_slotSf i) (s.sfsSilenced_sfOn p data i hi), fun n hv hp => ?_, fun a => ?_⟩
  · rw [← s.sfsSilenced_rd p data hk]
    exact h0t.regs k he
  · have hc := (h23.trans h3t).nbrs n hv
    have hg := h3t.invalid (h3 ▸ s2.panNbrs_gone p n ((Nbr.pan_of_core hc).symm.trans hp))
    exact absurd (hg.symm.trans hv) (by decide)
  · exact h4.less.unassigned (s3.panUnassigned_gone p a)

end

theorem Does.panDelete_effect {s : State} {p : Fin 8} (data : Word) (h : s.unlocked 0 = true) (ho : s.panOn p = true) :
    Does (.panDelete 0 p data) s (fun t => t.panOn p = false ∧ t.unlocked 0 = false ∧ (∀ i : Fin 64, s.sfPan i = p.val → t.sfOn i = false) ∧
      (∀ n, (t.nbr n).valid = true → (t.nbr n).pan ≠ p.val) ∧ ∀ a : BitVec 16, t.shortAssigned p a.toNat = false) := by
  obtain ⟨hr, hs, hn, ha⟩ := (s.armLock 0).panDelete_effect p (panWord data 0) (by rw [State.panOn_armLock, ho])
  refine Does.of_next (exec_panDelete data h) ⟨?_, State.unlocked_of_flag ?_, fun i hi => hs i ?_, hn, ha⟩
  · rcases hr (R.PAN_CTRL p) (by simp only [R.PAN_CTRL]; omega) (entryKey_panCtrl p) with e | e
    · rw [State.rd_wr] at e
      rw [State.panOn, State.flag, State.fld, e, panWord_off, bne_self_eq_false, Bool.and_false]
    · simp [State.panOn, State.flag, State.fld, e, fget]
  · rcases hr (R.SYS_LOCK 0) (by decide) (by decide) with e | e
    · rw [State.rd_wr_ne _ _ (panCtrl_ne_sysLock p 0).symm] at e
      rw [State.flag, State.fld, e]
      exact s.flag_armLock 0
    · simp [State.flag, State.fld, e, fget]
  · rw [State.sfPan, State.fld, s.rd_armLock_ne 0 (by simp only [R.SLOT_SF_W0, R.SYS_LOCK]; omega)]
    exact hi

/-! ### The obligation -/

/-- Settles O38: a write of `PAN_pCTRL` by its cases, and a deletion step by step: what takes no entry keeps all, and each entry of the PAN is gone
after its own step. -/
theorem pansAreKept : Obligations.PansAreKept :=
  ⟨fun _ _ _ data => ⟨Does.panCreate_valid, Does.panCreate_invalid, exec_panCreate_exists data, Does.panOwnerChange,
    exec_panOwnerChange_none data, fun h _ => exec_panDelete data h, Does.panDelete_none, Does.panDelete_other,
    fun h _ => exec_panDelete_armed data h⟩,
    fun _ _ data => Does.panDelete_effect data⟩

end Sys2Proof.Machine
end

section
/-! O40: joins and addresses (R139, R142, R162, R163). An accepted join creates a node in an empty directory, and may store its blob, add its
neighbour and load its link key: each step keeps what the steps before it entered. -/

set_option Elab.async false

namespace Sys2Proof.Machine

/-! ### The arms of `exec` -/

section
variable (s : State) (c : CmdDesc) (dma : Dma)

theorem exec_joinAccept_arm : exec (.joinAccept c dma) s = execJoinAccept c dma s := rfl
theorem exec_nodeRelease_arm : exec (.nodeRelease c) s = execNodeRelease c s := rfl
theorem exec_nbrAdd_arm : exec (.nbrAdd c dma) s = execNbrAdd c dma s := rfl
theorem exec_nbrRemove_arm : exec (.nbrRemove c) s = execNbrRemove c s := rfl
theorem exec_addrQuarantine_arm : exec (.addrQuarantine c) s = execAddrQuarantine c s := rfl
theorem exec_quarantineExpiry_arm (p : Fin 8) (a : BitVec 16) : exec (.quarantineExpiry p a) s = execQuarantineExpiry p a s := rfl
theorem exec_joinCacheExpiry_arm (eui : Word64) : exec (.joinCacheExpiry eui) s = execJoinCacheExpiry eui s := rfl

end

/-! ### A node created in an empty directory (R202, R210) -/

section
variable {s : State}

/-- An empty index takes an entry at once. -/
theorem State.idxInsert_empty (b : Bool) (key o : Nat) (h : (s.idx b).ents = []) (hl : s.dir.lost = []) :
    ∃ x, s.idxInsert b key o = some (s.setIdx b x, false) := by
  have hw (i : Nat) : s.freeWays b i = (List.range 4).map (4 * i + ·) := by
    simp [State.freeWays, State.bucketLost, Index.at, h, hl]
  have hf (i : Nat) : s.freeWays b i = 4 * i :: [4 * i + 1, 4 * i + 2, 4 * i + 3] := hw i
  rw [State.idxInsert]
  simp only [hf, List.length_cons, lt_irrefl, if_false]
  exact ⟨_, rfl⟩

/-- A node with its entries in the indexes and its address, before the counts follow. -/
def State.nodeStored (s : State) (o : Nat) (r : NodeRec) (x y : Index) : State :=
  (((s.setNode o r).setIdx false x).setIdx true y).shortAssign r.pan r.short

theorem State.nodeCreate_empty (o : Nat) (r : NodeRec) (hr : r.hasShort = true) (ha : s.dir.a.ents = []) (hb : s.dir.b.ents = [])
    (hl : s.dir.lost = []) : ∃ x y, s.nodeCreate o r = .ok ((s.nodeStored o r x y).dirSync, false) := by
  obtain ⟨x, hx⟩ := State.idxInsert_empty (s := s.setNode o r) false (idxKeyA r.pan r.eui) o ha hl
  obtain ⟨y, hy⟩ := State.idxInsert_empty (s := (s.setNode o r).setIdx false x) true (idxKeyB r.pan r.short) o hb hl
  refine ⟨x, y, ?_⟩
  simp only [State.nodeCreate, hx, hy, hr, if_true]
  rfl

section
variable (s) (o : Nat) (r : NodeRec) (x y : Index)

@[simp] theorem State.node_nodeStored : (s.nodeStored o r x y).dirSync.node o = r := State.node_setNode s o r
@[simp] theorem State.nbr_nodeStored (n : Nat) : (s.nodeStored o r x y).dirSync.nbr n = s.nbr n := rfl

theorem State.shortAssigned_nodeStored : (s.nodeStored o r x y).dirSync.shortAssigned r.pan r.short = true :=
  decide_eq_true (aget_aset_same 0 1 (shortKey r.pan r.short) s.link.assigned)

end

/-! ### Blobs, neighbours and keys of a node (R139, R167) -/

/-- The lowest free neighbour entry is found among the neighbours alone. -/
theorem State.nbrLowest_congr {t : State} (h : ∀ n, t.nbr n = s.nbr n) (n i : Nat) : t.nbrLowest n i = s.nbrLowest n i := by
  induction n generalizing i with
  | zero => rfl
  | succ n ih => rw [State.nbrLowest, State.nbrLowest, h, ih]

/-- A blob of a node without a neighbour is stored, and nothing else changes. -/
theorem State.blobPut_noNbr (s : State) (o : Nat) (b : List Byte) (h : (s.node o).hasNbr = false) : s.blobPut o b =
    { s with key := { s.key with
        store := aset [] o b s.key.store
        badBlobs := s.key.badBlobs.filter (· ≠ o) } } := by
  refine if_neg (fun hc => ?_)
  exact absurd (h.symm.trans (Bool.and_eq_true_iff.mp hc).2) (by decide)

theorem State.blobPut_store (s : State) (o : Nat) (b : List Byte) (h : (s.node o).hasNbr = false) : aget [] o (s.blobPut o b).key.store = b := by
  rw [State.blobPut_noNbr s o b h]
  exact aget_aset_same [] b o s.key.store

theorem State.blobPut_only (s : State) (o : Nat) (b : List Byte) :
    (s.blobPut o b).ndir = s.ndir ∧ (s.blobPut o b).link = s.link ∧ (s.blobPut o b).ends = s.ends := by
  have h := State.blobPut_within s o b (Within.refl [.regs, .key] s) rfl
  exact ⟨h.only .ndir (by decide), h.only .link (by decide), h.only .ends (by decide)⟩

theorem Nbr.core_setWord (x : Nbr) (i : Nat) (w : Word) : (x.setWord i w).core = x.core := by
  unfold Nbr.setWord
  split <;> rfl

theorem State.nbrAdd_nbr (s : State) (n p o : Nat) (w1 w2 w3 : Word) : ((s.nbrAdd n p o w1 w2 w3).nbr n).core = (true, p, o) := by
  refine (congrArg Nbr.core (State.nbr_setNbr s n _)).trans ?_
  rw [Nbr.core_setWord, Nbr.core_setWord, Nbr.core_setWord]
  rfl

theorem State.nbrAdd_node (s : State) (n p o : Nat) (w1 w2 w3 : Word) : (s.nbrAdd n p o w1 w2 w3).node o =
    { s.node o with hasNbr := true, nbr := n, reach := true } := State.node_setNode _ o _

/-- What a join enters about a node's identity and its neighbour. -/
def NodeRec.joined (r : NodeRec) : Bool × Nat × Bool × Nat := (r.valid, r.eui, r.hasNbr, r.nbr)

/-- The frame of a join request makes a node bound, and leaves what it is. -/
theorem State.joinBind_joined (s : State) (o eui : Nat) : ((s.joinBind o eui).node o).joined = (s.node o).joined := by
  unfold State.joinBind
  split
  · rfl
  · rw [State.node_setNode]
    rfl

theorem State.joinBind_only (s : State) (o eui : Nat) : (s.joinBind o eui).link = s.link ∧ (s.joinBind o eui).ends = s.ends := by
  have h := State.joinBind_within s o eui (Within.refl [.ndir] s) rfl
  exact ⟨h.only .link (by decide), h.only .ends (by decide)⟩

theorem State.linkLoad_only (s : State) (n : Nat) : (s.linkLoad n).ndir = s.ndir ∧ (s.linkLoad n).ends = s.ends := by
  have h := State.linkLoad_within s n (Within.refl [.regs, .pass, .host, .safe, .log, .cvn, .cvnIds, .air, .qmg, .rf, .link, .key, .vault] s) rfl
  exact ⟨h.only .ndir (by decide), h.only .ends (by decide)⟩

/-- A joined node becomes a neighbour, with its link key. -/
def State.joinHop (s : State) (n p o eui : Nat) (w1 w2 w3 : Word) : State := ((s.nbrAdd n p o w1 w2 w3).joinBind o eui).linkLoad n

theorem State.joinHop_effect (s : State) (n p o eui : Nat) (w1 w2 w3 : Word) : let t := s.joinHop n p o eui w1 w2 w3
    (t.node o).joined = ((s.node o).valid, (s.node o).eui, true, n) ∧ (t.nbr n).core = (true, p, o) ∧ t.ends = s.ends := by
  have hb := State.joinBind_only (s.nbrAdd n p o w1 w2 w3) o eui
  have hl := State.linkLoad_only ((s.nbrAdd n p o w1 w2 w3).joinBind o eui) n
  refine ⟨?_, ?_, hl.2.trans hb.2⟩
  · rw [State.joinHop, State.node_of_ndir hl.1, State.joinBind_joined, State.nbrAdd_node]
    rfl
  · rw [State.joinHop, (EntriesKept.refl _).linkLoad n |>.nbrs n, State.nbr_of_link hb.1, State.nbrAdd_nbr]

end

/-! ### JOIN_ACCEPT (R139) -/

section
variable {s : State} {c : CmdDesc} {dma : Dma}

/-- The words and the blob of a command's parameter block. -/
abbrev State.cmdBlock (s : State) (c : CmdDesc) : (Word × Word × Word) × List Byte := s.paramBlock c.part.val (addr64 c.w4 c.w5)

/-- The state in which a join is checked: the command taken, and the key at hand that its blob needs. -/
abbrev State.joinTaken (s : State) (c : CmdDesc) (dma : Dma) : State :=
  if bitAt c.w1 4 && dma = .ok then (s.cmdTake c).blobReady (s.cmdBlock c).2 else s.cmdTake c

/-- The short address that a join asks for. -/
abbrev cmdShort (c : CmdDesc) : Nat := bitsAt c.w1 16 16

/-- The record of an accepted node. -/
abbrev State.joinRec (s : State) (c : CmdDesc) : NodeRec :=
  { valid := true
    kind := 1
    pan := lpan c
    hasShort := true
    eui := cmdEui c
    short := cmdShort c
    createdS := s.citySec
    reach := true }

theorem exec_joinAccept_bad {st cause : Nat} (h : s.cmdTurn c = true) (hb : (s.joinTaken c dma).joinBad c dma = some (st, cause)) :
    exec (.joinAccept c dma) s = .next ((s.joinTaken c dma).cmdDone c st [] cause 0) := by
  rw [exec_joinAccept_arm, execJoinAccept]
  simp only [h, Bool.not_true, Bool.false_eq_true, if_false]
  rw [hb]

/-- Whatever a join takes along, none of the family's records moves. -/
theorem State.joinTaken_ends : (s.joinTaken c dma).ends = s.ends := by
  unfold State.joinTaken
  split
  · exact (State.blobReady_within (s.cmdTake c) (s.cmdBlock c).2 (Within.refl
      [.regs, .pass, .host, .safe, .log, .cvn, .cvnIds, .air, .qmg, .rf, .link, .key, .vault] _) rfl).only .ends (by decide)
  · rfl

theorem State.clearFor_of_ends {t : State} (he : t.ends = s.ends) (h : s.clearFor c = true) : t.clearFor c = true := by
  rw [State.clearFor, he]
  exact h

/-- The node of an accepted join with its blob. -/
def State.joinStored (t : State) (c : CmdDesc) (k : Nat) (x y : Index) (blob : List Byte) : State :=
  if bitAt c.w1 4 then ((t.nodeStored k (t.joinRec c) x y).dirSync).blobPut k blob else (t.nodeStored k (t.joinRec c) x y).dirSync

/-- The end of an accepted join, with or without a neighbour. -/
def State.joinOk (u : State) (c : CmdDesc) (k : Nat) (ws : Word × Word × Word) : State :=
  let n := (u.nbrLowest 8192 0).getD 0
  if bitAt c.w1 3 then (u.joinHop n (lpan c) k (cmdEui c) ws.1 ws.2.1 ws.2.2).cmdOk c [w32 k, w32 (cmdShort c), w32 n]
  else u.cmdOk c [w32 k, w32 (cmdShort c), 0x1FFF]

theorem State.joinOk_node (u : State) (k : Nat) (ws : Word × Word × Word) (h : bitAt c.w1 3 = false) :
    u.joinOk c k ws = u.cmdOk c [w32 k, w32 (cmdShort c), 0x1FFF] := if_neg (ne_true_of_eq_false h)

theorem State.joinOk_hop (u : State) (k : Nat) (ws : Word × Word × Word) (h : bitAt c.w1 3 = true) {j : Nat} (hj : u.nbrLowest 8192 0 = some j) :
    u.joinOk c k ws = (u.joinHop j (lpan c) k (cmdEui c) ws.1 ws.2.1 ws.2.2).cmdOk c [w32 k, w32 (cmdShort c), w32 j] := by
  rw [State.joinOk, hj]
  exact if_pos h

theorem exec_joinAccept_ok {k : Nat} (h : s.cmdTurn c = true) (hb : (s.joinTaken c dma).joinBad c dma = none)
    (hk : (s.joinTaken c dma).ordLowest 524288 0 = some k) (ha : (s.joinTaken c dma).dir.a.ents = [])
    (hi : (s.joinTaken c dma).dir.b.ents = []) (hl : (s.joinTaken c dma).dir.lost = []) (hs : cmdShort c ≠ 0) :
    ∃ x y, exec (.joinAccept c dma) s =
      .next (((s.joinTaken c dma).joinStored c k x y (s.cmdBlock c).2).joinOk c k (s.cmdBlock c).1) := by
  obtain ⟨x, y, hn⟩ := State.nodeCreate_empty k ((s.joinTaken c dma).joinRec c) rfl ha hi hl
  refine ⟨x, y, ?_⟩
  rw [exec_joinAccept_arm, execJoinAccept]
  simp only [h, Bool.not_true, Bool.false_eq_true, if_false]
  rw [hb]
  simp only [hk, hs, if_false]
  rw [show State.nodeCreate _ k _ = _ from hn]
  rfl

end

section
variable (t : State) (c : CmdDesc) (k : Nat) (x y : Index) (blob : List Byte)

theorem State.joinStored_blob (hb : bitAt c.w1 4 = true) :
    t.joinStored c k x y blob = (t.nodeStored k (t.joinRec c) x y).dirSync.blobPut k blob := if_pos hb

theorem State.joinStored_plain (hb : bitAt c.w1 4 = false) : t.joinStored c k x y blob = (t.nodeStored k (t.joinRec c) x y).dirSync :=
  if_neg (ne_true_of_eq_false hb)

/-- With and without a blob, the node is stored, and neighbours and records stay. -/
theorem State.joinStored_effect : (t.joinStored c k x y blob).node k = t.joinRec c ∧ (∀ n, (t.joinStored c k x y blob).nbr n = t.nbr n) ∧
    (t.joinStored c k x y blob).ends = t.ends := by
  cases hb : bitAt c.w1 4
  · rw [t.joinStored_plain c k x y blob hb]
    exact ⟨t.node_nodeStored k _ x y, fun _ => rfl, rfl⟩
  · rw [t.joinStored_blob c k x y blob hb]
    obtain ⟨hn, hl, he⟩ := (t.nodeStored k (t.joinRec c) x y).dirSync.blobPut_only k blob
    exact ⟨(State.node_of_ndir hn k).trans (t.node_nodeStored k _ x y), fun n => (State.nbr_of_link hl n).trans (t.nbr_nodeStored k _ x y n), he⟩

end

section
variable {s : State} {c : CmdDesc} {dma : Dma}

section
variable {k : Nat} (h : s.leads c = true)
include h

/-- Without a blob and a neighbour (R139). -/
theorem Does.joinAccept_node (hb : (s.cmdTake c).joinBad c dma = none) (h3 : bitAt c.w1 3 = false) (h4 : bitAt c.w1 4 = false)
    (hk : (s.cmdTake c).ordLowest 524288 0 = some k) (ha : (s.cmdTake c).dir.a.ents = []) (hi : (s.cmdTake c).dir.b.ents = [])
    (hl : (s.cmdTake c).dir.lost = []) (hs : cmdShort c ≠ 0) : Does (.joinAccept c dma) s (fun t =>
      t.completed c stOK [w32 k, w32 (cmdShort c), 0x1FFF] 0 ∧ (t.node k).valid = true ∧ (t.node k).pan = lpan c ∧
        (t.node k).eui = cmdEui c ∧ (t.node k).short = cmdShort c ∧ t.shortAssigned (lpan c) (cmdShort c) = true) := by
  have ht : s.joinTaken c dma = s.cmdTake c := if_neg (by simp [h4])
  rw [← ht] at hb hk ha hi hl
  obtain ⟨x, y, he⟩ := exec_joinAccept_ok (s.leads_turn c h) hb hk ha hi hl hs
  rw [State.joinOk_node _ k _ h3] at he
  obtain ⟨hn, -, hends⟩ := (s.joinTaken c dma).joinStored_effect c k x y (s.cmdBlock c).2
  have hf {α : Type} (f : NodeRec → α) := congrArg f hn
  refine Does.of_next he ⟨State.cmdOk_completed _ c _ ?_, hf NodeRec.valid, hf NodeRec.pan, hf NodeRec.eui, hf NodeRec.short, ?_⟩
  · exact State.clearFor_of_ends (hends.trans State.joinTaken_ends) (s.leads_clear c h)
  · rw [State.shortAssigned, State.cmdOk, State.cmdDone_link, State.joinStored_plain _ c k x y _ h4]
    exact State.shortAssigned_nodeStored (s.joinTaken c dma) k ((s.joinTaken c dma).joinRec c) x y

/-- With a neighbour entry (R139, R142). -/
theorem Does.joinAccept_hop {j : Nat} (hb : (s.joinTaken c dma).joinBad c dma = none) (h3 : bitAt c.w1 3 = true)
    (hk : (s.joinTaken c dma).ordLowest 524288 0 = some k) (hj : (s.joinTaken c dma).nbrLowest 8192 0 = some j)
    (ha : (s.joinTaken c dma).dir.a.ents = []) (hi : (s.joinTaken c dma).dir.b.ents = []) (hl : (s.joinTaken c dma).dir.lost = [])
    (hs : cmdShort c ≠ 0) : Does (.joinAccept c dma) s (fun t =>
      t.completed c stOK [w32 k, w32 (cmdShort c), w32 j] 0 ∧ (t.node k).valid = true ∧ (t.node k).eui = cmdEui c ∧
        (t.node k).hasNbr = true ∧ (t.node k).nbr = j ∧ (t.nbr j).valid = true ∧ (t.nbr j).node = k ∧ (t.nbr j).pan = lpan c) := by
  obtain ⟨x, y, he⟩ := exec_joinAccept_ok (s.leads_turn c h) hb hk ha hi hl hs
  obtain ⟨hn, hnb, hends⟩ := (s.joinTaken c dma).joinStored_effect c k x y (s.cmdBlock c).2
  rw [State.joinOk_hop _ k _ h3 ((State.nbrLowest_congr hnb 8192 0).trans hj)] at he
  obtain ⟨hnode, hnbr, hend⟩ := State.joinHop_effect ((s.joinTaken c dma).joinStored c k x y (s.cmdBlock c).2) j (lpan c) k (cmdEui c)
    (s.cmdBlock c).1.1 (s.cmdBlock c).1.2.1 (s.cmdBlock c).1.2.2
  rw [hn] at hnode
  simp only [NodeRec.joined, Nbr.core, Prod.mk.injEq] at hnode hnbr
  obtain ⟨hv, heui, hhas, hnum⟩ := hnode
  obtain ⟨hv2, hpan, hno⟩ := hnbr
  refine Does.of_next he ⟨State.cmdOk_completed _ c _ ?_, hv, heui, hhas, hnum, hv2, hno, hpan⟩
  exact State.clearFor_of_ends (hend.trans (hends.trans State.joinTaken_ends)) (s.leads_clear c h)

/-- With a blob and no neighbour: the blob stands at the node's ordinal (R167). -/
theorem Does.joinAccept_blob (hb : (s.joinTaken c dma).joinBad c dma = none) (h3 : bitAt c.w1 3 = false) (h4 : bitAt c.w1 4 = true)
    (hk : (s.joinTaken c dma).ordLowest 524288 0 = some k) (ha : (s.joinTaken c dma).dir.a.ents = [])
    (hi : (s.joinTaken c dma).dir.b.ents = []) (hl : (s.joinTaken c dma).dir.lost = []) (hs : cmdShort c ≠ 0) :
    Does (.joinAccept c dma) s (fun t => t.completed c stOK [w32 k, w32 (cmdShort c), 0x1FFF] 0 ∧ (t.node k).valid = true ∧
      aget [] k t.key.store = (s.cmdBlock c).2) := by
  obtain ⟨x, y, he⟩ := exec_joinAccept_ok (s.leads_turn c h) hb hk ha hi hl hs
  rw [State.joinOk_node _ k _ h3] at he
  obtain ⟨hn, -, hends⟩ := (s.joinTaken c dma).joinStored_effect c k x y (s.cmdBlock c).2
  refine Does.of_next he ⟨State.cmdOk_completed _ c _ ?_, congrArg NodeRec.valid hn, ?_⟩
  · exact State.clearFor_of_ends (hends.trans State.joinTaken_ends) (s.leads_clear c h)
  · rw [State.cmdOk, State.cmdDone_key, State.joinStored_blob _ c k x y _ h4]
    exact State.blobPut_store _ k _ (congrArg NodeRec.hasNbr (State.node_nodeStored _ k _ x y))

end

end

/-! ### NODE_RELEASE, NBR_ADD and NBR_REMOVE (R139, R142) -/

section
variable {s : State} {c : CmdDesc}

section
variable (h : s.cmdTurn c = true)
include h

theorem exec_nodeRelease_refused (hm : s.panMay c.part.val (lpan c) = false) : exec (.nodeRelease c) s = .next ((s.cmdTake c).cmdBad c 1) := by
  have hm' : (s.cmdTake c).panMay c.part.val (lpan c) = false := hm
  simp only [exec_nodeRelease_arm, execNodeRelease, h, hm', Bool.not_true, Bool.not_false, Bool.false_eq_true, if_true, if_false]

theorem exec_nodeRelease (hm : s.panMay c.part.val (lpan c) = true) (hv : (s.node (bitsAt c.w2 0 19)).valid = true)
    (hp : (s.node (bitsAt c.w2 0 19)).pan = lpan c) : exec (.nodeRelease c) s =
      .next (((s.cmdTake c).nodeDelete (bitsAt c.w2 0 19)).cmdOk c [0, 0, 0, 0, w32 (if ((s.cmdTake c).node (bitsAt c.w2 0 19)).hasNbr then
        (s.cmdTake c).finalN ((s.cmdTake c).node (bitsAt c.w2 0 19)).nbr else 0)]) := by
  have hm' : (s.cmdTake c).panMay c.part.val (lpan c) = true := hm
  have hv' : ((s.cmdTake c).node (bitsAt c.w2 0 19)).valid = true := hv
  have hp' : ((s.cmdTake c).node (bitsAt c.w2 0 19)).pan = lpan c := hp
  simp only [exec_nodeRelease_arm, execNodeRelease, h, hm', hv', hp', Bool.not_true, Bool.false_eq_true, Bool.or_false, if_false, ne_eq,
    not_true, decide_false]

theorem exec_nbrRemove_none (hv : (s.nbr (bitsAt c.w2 0 13)).valid = false) : exec (.nbrRemove c) s = .next ((s.cmdTake c).cmdBad c 4) := by
  have hv' : ((s.cmdTake c).nbr (bitsAt c.w2 0 13)).valid = false := hv
  simp only [exec_nbrRemove_arm, execNbrRemove, h, hv', Bool.not_true, Bool.not_false, Bool.false_eq_true, if_true, if_false]

theorem exec_nbrRemove (hv : (s.nbr (bitsAt c.w2 0 13)).valid = true) (hm : s.panMay c.part.val (s.nbr (bitsAt c.w2 0 13)).pan = true) :
    exec (.nbrRemove c) s = .next (((s.cmdTake c).nbrRemove (bitsAt c.w2 0 13)).cmdOk c
      [0, 0, 0, 0, w32 ((s.cmdTake c).finalN (bitsAt c.w2 0 13))]) := by
  have hv' : ((s.cmdTake c).nbr (bitsAt c.w2 0 13)).valid = true := hv
  have hm' : (s.cmdTake c).panMay c.part.val ((s.cmdTake c).nbr (bitsAt c.w2 0 13)).pan = true := hm
  simp only [exec_nbrRemove_arm, execNbrRemove, h, hv', hm', Bool.not_true, Bool.false_eq_true, if_false]

end

/-- NBR_ADD without a blob enters a node as the lowest free neighbour. -/
theorem Does.nbrAdd {dma : Dma} {k : Nat} (h : s.leads c = true) (ho : s.panOn (lpan c) = true) (hm : s.panMay c.part.val (lpan c) = true)
    (hu : unaligned c.w4 c.w5 = false) (hd : dma = .ok) (hv : (s.node (bitsAt c.w2 0 19)).valid = true)
    (hp : (s.node (bitsAt c.w2 0 19)).pan = lpan c) (hn : (s.node (bitsAt c.w2 0 19)).hasNbr = false)
    (hw : nbrWordsBad (s.cmdTake c) ((s.cmdTake c).cmdBlock c).1.1 ((s.cmdTake c).cmdBlock c).1.2.1 = false)
    (hk : (s.cmdTake c).nbrLowest 8192 0 = some k) (h4 : bitAt c.w1 4 = false) : Does (.nbrAdd c dma) s (fun t =>
      t.completed c stOK [0, 0, w32 k] 0 ∧ (t.nbr k).node = bitsAt c.w2 0 19 ∧ (t.nbr k).pan = lpan c ∧
        (t.node (bitsAt c.w2 0 19)).hasNbr = true ∧ (t.node (bitsAt c.w2 0 19)).nbr = k) := by
  have ho' : (s.cmdTake c).panOn (lpan c) = true := ho
  have hm' : (s.cmdTake c).panMay c.part.val (lpan c) = true := hm
  have hv' : ((s.cmdTake c).node (bitsAt c.w2 0 19)).valid = true := hv
  have hp' : ((s.cmdTake c).node (bitsAt c.w2 0 19)).pan = lpan c := hp
  have hn' : ((s.cmdTake c).node (bitsAt c.w2 0 19)).hasNbr = false := hn
  have hw' : nbrWordsBad (s.cmdTake c) (s.cmdBlock c).1.1 (s.cmdBlock c).1.2.1 = false := hw
  have he : exec (.nbrAdd c dma) s = .next (((s.cmdTake c).nbrAdd k (lpan c) (bitsAt c.w2 0 19) (s.cmdBlock c).1.1 (s.cmdBlock c).1.2.1
      (s.cmdBlock c).1.2.2).cmdOk c [0, 0, w32 k]) := by
    simp only [exec_nbrAdd_arm, execNbrAdd, s.leads_turn c h, h4, ho', hm', hu, hd, hv', hp', hn', hw', hk, Bool.not_true, Bool.false_and,
      Bool.false_eq_true, Bool.or_false, if_false, ne_eq, not_true, decide_false]
  have hc := (s.cmdTake c).nbrAdd_nbr k (lpan c) (bitsAt c.w2 0 19) (s.cmdBlock c).1.1 (s.cmdBlock c).1.2.1 (s.cmdBlock c).1.2.2
  have hr := (s.cmdTake c).nbrAdd_node k (lpan c) (bitsAt c.w2 0 19) (s.cmdBlock c).1.1 (s.cmdBlock c).1.2.1 (s.cmdBlock c).1.2.2
  refine Does.of_next he ⟨State.cmdOk_completed _ c _ ?_, congrArg (fun x => x.2.2) hc, congrArg (fun x => x.2.1) hc,
    congrArg NodeRec.hasNbr hr, congrArg NodeRec.nbr hr⟩
  exact State.clearFor_of_ends (s := s) rfl (s.leads_clear c h)

/-! ### Quarantines and the join cache (R162, R163) -/

theorem Does.addrQuarantine (h : s.leads c = true) (hm : s.panMay c.part.val (lpan c) = true) (h1 : 1 ≤ cmdShort c) (h2 : cmdShort c ≤ 0xFFEF)
    (hf : s.shortAssigned (lpan c) (cmdShort c) = false) (h3 : 1 ≤ bitsAt c.w2 0 17) (h4 : bitsAt c.w2 0 17 ≤ 86400) :
    Does (.addrQuarantine c) s (fun t => t.completed c stOK [] 0 ∧
      aget 0 (shortKey (lpan c) (cmdShort c)) t.link.quar = s.citySec + bitsAt c.w2 0 17 + 1) := by
  have hm' : (s.cmdTake c).panMay c.part.val (lpan c) = true := hm
  have hf' : (s.cmdTake c).shortAssigned (lpan c) (cmdShort c) = false := hf
  have ha : ¬(cmdShort c = 0) ∧ ¬(0xFFEF < cmdShort c) := by omega
  have hs : ¬(bitsAt c.w2 0 17 = 0) ∧ ¬(86400 < bitsAt c.w2 0 17) := by omega
  have he : exec (.addrQuarantine c) s = .next (((s.cmdTake c).shortQuar (lpan c) (cmdShort c) (bitsAt c.w2 0 17)).cmdOk c []) := by
    simp only [exec_addrQuarantine_arm, execAddrQuarantine, s.leads_turn c h, hm', hf', ha, hs, Bool.not_true, Bool.false_eq_true,
      Bool.or_false, if_false, decide_false]
  refine Does.of_next he ⟨State.cmdOk_completed _ c _ (State.clearFor_of_ends (s := s) rfl (s.leads_clear c h)), ?_⟩
  exact aget_aset_same 0 (s.citySec + bitsAt c.w2 0 17 + 1) (shortKey (lpan c) (cmdShort c)) s.link.quar

/-- An address is no longer quarantined, before the counts follow. -/
def State.quarEnded (s : State) (p a : Nat) : State := { s with link := { s.link with quar := aset 0 (shortKey p a) 0 s.link.quar } }

theorem Does.quarantineExpiry {p : Fin 8} {a : BitVec 16} (h : aget 0 (shortKey p a.toNat) s.link.quar ≠ 0)
    (ht : aget 0 (shortKey p a.toNat) s.link.quar ≤ s.citySec + 2) : Does (.quarantineExpiry p a) s (fun t =>
      t.shortQuarantined p a.toNat = false ∧ t.regsBut s [R.PAN_ADDR p, R.PAN_QUAR p]) := by
  have he : exec (.quarantineExpiry p a) s = .next ((s.quarEnded p a.toNat).addrSync p) := by
    rw [exec_quarantineExpiry_arm, execQuarantineExpiry]
    refine congrArg _ (if_neg ?_)
    simp only [Bool.or_eq_true, decide_eq_true_eq]
    omega
  refine Does.of_next he ⟨?_, (s.quarEnded p a.toNat).addrSync_regsBut p⟩
  have hq : aget 0 (shortKey p a.toNat) ((s.quarEnded p a.toNat).addrSync p).link.quar = 0 :=
    aget_aset_same 0 0 (shortKey p a.toNat) s.link.quar
  rw [State.shortQuarantined, hq]
  decide

/-- A join request leaves the cache. -/
def State.joinDropped (s : State) (eui : Nat) : State :=
  { s with link := { s.link with joins := s.link.joins.filter (fun (x : JoinEnt) => x.eui ≠ eui) } }

theorem State.joinDropped_joins (s : State) (eui : Nat) : (s.joinDropped eui).link.joins = s.link.joins.filter (fun x => x.eui ≠ eui) := rfl
theorem State.joinDropped_now (s : State) (eui : Nat) : (s.joinDropped eui).now = s.now := rfl
theorem State.joinDropped_regs (s : State) (eui : Nat) : (s.joinDropped eui).regs = s.regs := rfl

theorem Does.joinCacheExpiry {eui : Word64} {j : JoinEnt} (h : s.link.joins.find? (fun j => j.eui = eui.toNat) = some j) :
    Does (.joinCacheExpiry eui) s (fun t => t.link.joins = s.link.joins.filter (fun x => x.eui ≠ eui.toNat) ∧
      t.now = max s.now (j.at_ + sec 120) ∧ t.regs = s.regs) := by
  have he : exec (.joinCacheExpiry eui) s = .next ((s.advanceTo (j.at_ + sec 120)).joinDropped eui.toNat) := by
    simp only [exec_joinCacheExpiry_arm, execJoinCacheExpiry, h, State.joinDropped]
  refine Does.of_next he ⟨?_, ?_, ?_⟩
  · rw [State.joinDropped_joins, State.advanceTo_link]
  · rw [State.joinDropped_now, State.advanceTo_now]
  · rw [State.joinDropped_regs, State.advanceTo_regs]

end

/-! ### The obligation -/

/-- Settles O40: each command by its cases; an accepted join through the node it creates, the blob it stores and the neighbour it adds. -/
theorem joinsAndAddresses : Obligations.JoinsAndAddresses :=
  fun _ _ _ _ _ _ => ⟨fun _ _ h hb => exec_joinAccept_bad h hb, fun _ h => Does.joinAccept_node h, fun _ _ h => Does.joinAccept_hop h,
    fun _ h => Does.joinAccept_blob h, exec_nodeRelease_refused, exec_nodeRelease, fun _ => Does.nbrAdd, exec_nbrRemove_none, exec_nbrRemove,
    Does.addrQuarantine, Does.quarantineExpiry, fun _ => Does.joinCacheExpiry⟩

end Sys2Proof.Machine
end

section
/-! The H-die's rings and host memory (R311 to R316, R327): a word reads back as it was written, an event leaves the registers and lists that a
ring depends on, and a completion record that the H-die writes at once stands in its slot. -/

set_option Elab.async false

namespace Sys2Proof.Machine

/-! ### Host memory (R308, R313) -/

section
variable (p : Nat)

/-- Addresses less than the address space apart have keys of their own. -/
theorem memKey_ne {a b : Nat} (h : a < b) (hd : b - a < 2 ^ 64) : memKey p a ≠ memKey p b := by
  unfold memKey
  omega

/-- An octet that is written reads as written. -/
theorem aget_memPut (bs : List Byte) (a j : Nat) (m : List (Nat × Byte)) (hj : j < bs.length) (hl : bs.length ≤ 2 ^ 64) :
    aget 0 (memKey p (a + j)) (memPut p a bs m) = bs.getD j 0 := by
  induction bs generalizing a j m with
  | nil => exact absurd hj (Nat.not_lt_zero _)
  | cons b bs ih =>
    rw [List.length_cons] at hj hl
    cases j with
    | zero =>
      rw [memPut, aget_memPut_ne]
      · exact aget_aset_same ..
      · exact fun i hi => memKey_ne p (by omega) (by omega)
    | succ j => rw [memPut, show a + (j + 1) = a + 1 + j by omega, ih (a + 1) j _ (by omega) (by omega), List.getD_cons_succ]

theorem length_wordsBytes (ws : List Word) : (wordsBytes ws).length = 4 * ws.length := by
  induction ws with
  | nil => rfl
  | cons w ws ih => rw [wordsBytes, List.flatMap_cons, List.length_append, ← wordsBytes, ih, List.length_cons, Nat.mul_succ, Nat.add_comm]; rfl

/-- The octets of a word, its least significant first, spell the word. -/
theorem leNat_wordBytes (w : Word) : BitVec.ofNat 32 (leNat (wordBytes w)) = w := by
  refine BitVec.eq_of_toNat_eq ?_
  simp only [wordBytes, leNat, BitVec.extractLsb'_toNat, BitVec.toNat_ofNat, Nat.shiftRight_eq_div_pow]
  have := w.isLt
  omega

/-- The octets of a list of words at a word's place are the word's. -/
theorem getD_wordsBytes (ws : List Word) (k i : Nat) (hk : k < ws.length) (hi : i < 4) :
    (wordsBytes ws).getD (4 * k + i) 0 = (wordBytes (wordAt ws k)).getD i 0 := by
  induction ws generalizing k with
  | nil => exact absurd hk (Nat.not_lt_zero _)
  | cons w ws ih =>
    rw [wordsBytes, List.flatMap_cons, ← wordsBytes]
    cases k with
    | zero =>
      rw [Nat.mul_zero, Nat.zero_add]
      exact List.getD_append (wordBytes w) (wordsBytes ws) 0 i hi
    | succ k =>
      have hl : (wordBytes w).length = 4 := rfl
      rw [List.getD_append_right _ _ _ _ (by omega), hl, show 4 * (k + 1) + i - 4 = 4 * k + i by omega]
      exact ih k (by simpa using hk)

/-- A word that is written reads as written (R7, R313). -/
theorem State.memWord_memWrite (s : State) (a : Nat) (ws : List Word) (k : Nat) (hk : k < ws.length) (hl : 4 * ws.length ≤ 2 ^ 64) :
    (s.memWrite p a (wordsBytes ws)).memWord p (a + 4 * k) = wordAt ws k := by
  have hb (i : Nat) (hi : i < 4) : (s.memWrite p a (wordsBytes ws)).memByte p (a + (4 * k + i)) = (wordBytes (wordAt ws k)).getD i 0 := by
    rw [← getD_wordsBytes ws k i hk hi]
    exact aget_memPut p _ a _ s.host.mem (by rw [length_wordsBytes]; omega) (by rw [length_wordsBytes]; exact hl)
  have h4 : (s.memWrite p a (wordsBytes ws)).memBytes p (a + 4 * k) 4 = wordBytes (wordAt ws k) := by
    have h0 := hb 0 (by decide)
    have h1 := hb 1 (by decide)
    have h2 := hb 2 (by decide)
    have h3 := hb 3 (by decide)
    simp only [State.memBytes, ← Nat.add_assoc, Nat.add_zero] at h0 h1 h2 h3 ⊢
    rw [h0, h1, h2, h3]
    rfl
  rw [State.memWord, h4, leNat_wordBytes]

end

/-! ### What an event on the H-die leaves (R327 to R330) -/

/-- The registers that an event may change: the indices of a partition's event ring, and its counter of drops. -/
abbrev EvtKey (k : Nat) : Prop := k % 0x20000 = 0x232C ∨ k % 0x20000 = 0x3008

/-- An event reached no more than event rings: the registers of the other rings, their lists and what the host has taken stay. -/
structure EvtKept (s t : State) : Prop where
  regs : ∀ k, ¬EvtKey k → t.rd k = s.rd k
  hosts : ∀ q, t.ringHost q 34 = s.ringHost q 34
  fetched : t.host.fetched = s.host.fetched
  cplWait : t.host.cplWait = s.host.cplWait
  written : ∀ k, k % 64 ≠ 34 → aget 0 k t.host.written = aget 0 k s.host.written

section
variable {s t u : State}

theorem EvtKept.refl (s : State) : EvtKept s s := ⟨fun _ _ => rfl, fun _ => rfl, rfl, rfl, fun _ _ => rfl⟩

theorem EvtKept.trans (h : EvtKept s t) (h2 : EvtKept t u) : EvtKept s u where
  regs k hk := (h2.regs k hk).trans (h.regs k hk)
  hosts q := (h2.hosts q).trans (h.hosts q)
  fetched := h2.fetched.trans h.fetched
  cplWait := h2.cplWait.trans h.cplWait
  written k hk := (h2.written k hk).trans (h.written k hk)

theorem evtKey_state (q : Nat) : EvtKey (R.RING_STATE 34 q) := by
  simp only [EvtKey, R.RING_STATE]
  omega

theorem evtKey_drop (q : Nat) : EvtKey (R.EVT_CNT_DROP q) := by
  simp only [EvtKey, R.EVT_CNT_DROP]
  omega

variable (h : EvtKept s t)
include h

/-- Only the registers and these lists matter. -/
theorem EvtKept.same (hr : u.regs = t.regs := by rfl) (hf : u.host.fetched = t.host.fetched := by rfl)
    (hc : u.host.cplWait = t.host.cplWait := by rfl) (hw : u.host.written = t.host.written := by rfl) : EvtKept s u :=
  h.trans ⟨fun k _ => State.rd_of_regs hr k, fun _ => congrArg (fget _) (State.rd_of_regs hr _), hf, hc, fun _ _ => by rw [hw]⟩

theorem EvtKept.ringPut (p : Nat) (ws : List Word) : EvtKept s (t.ringPut p 34 ws) := by
  refine h.trans ⟨fun k hk => t.rd_ringPut_ne p 34 ws (fun e => hk (e ▸ evtKey_state p)), fun q => ?_, rfl, rfl, fun k hk => ?_⟩
  · by_cases e : R.RING_STATE 34 q = R.RING_STATE 34 p
    · unfold State.ringHost State.ringPut
      dsimp only
      rw [e]
      exact State.fld_setFld_other _ _ _ _ _ (by decide) (by decide)
    · exact State.fld_setFld_ne _ _ _ _ e
  · exact aget_aset_ne 0 (aget 0 (ringKey p 34) t.host.written + 1) (ringKey p 34) k t.host.written (fun e => hk (by rw [e, ringKey]; omega))

theorem EvtKept.vecTrigger (p v : Nat) : EvtKept s (t.vecTrigger p v) := by
  unfold State.vecTrigger
  split
  · exact h.same
  · exact h.same

theorem EvtKept.dropBump (p : Nat) : EvtKept s (t.bump (R.EVT_CNT_DROP p)) := by
  refine h.trans ⟨fun k hk => State.rd_bump_ne _ (fun e => hk (e ▸ evtKey_drop p)), fun q => ?_, rfl, rfl, fun _ _ => rfl⟩
  exact congrArg (fget _) (State.rd_bump_ne _ (by simp only [R.RING_STATE, R.EVT_CNT_DROP]; omega))

theorem EvtKept.evtWrite (p : Nat) (ws : List Word) : EvtKept s (t.evtWrite p ws) := by
  unfold State.evtWrite
  extract_lets seq host s1 src w0 s2 host2 s3 s4 host4
  have h1 : EvtKept s s1 := h.same
  split
  · have h2 : EvtKept s s2 := h1.ringPut p _
    have h3 : EvtKept s s3 := h2.same
    exact h3.vecTrigger p _
  · have h4 : EvtKept s s4 := h1.dropBump p
    exact h4.same

theorem EvtKept.evtH (src mask : Nat) (p0 p1 p2 : Word) : EvtKept s (t.evtH src mask p0 p1 p2) := by
  unfold State.evtH State.evtRoute
  refine List.foldlRecOn _ _ h (fun u hu q _ => ?_)
  unfold State.evtDeliver
  split
  · exact hu.evtWrite q _
  · exact hu

end

/-! ### Errors of rings (R316) -/

section
variable (s : State) (p r : Nat) (f : Fld) (raise : Bool) (idx : Nat)

theorem State.ringErr_kept : EvtKept ((s.err (R.RING_ERR p) f).wr (R.RING_ERR_INFO p) (w32 (r % 64 + idx % 65536 * 2 ^ 16)))
    (s.ringErr p r f raise idx) := by
  unfold State.ringErr
  dsimp only
  split
  · exact (EvtKept.refl _).evtH ..
  · exact EvtKept.refl _

/-- A register that is neither an event's nor the error's own. -/
theorem State.rd_ringErr {k : Nat} (hk : ¬EvtKey k) (h1 : k ≠ R.RING_ERR p) (h2 : k ≠ R.RING_ERR_INFO p) :
    (s.ringErr p r f raise idx).rd k = s.rd k :=
  ((s.ringErr_kept p r f raise idx).regs k hk).trans ((State.rd_wr_ne _ _ h2).trans (State.rd_err_ne _ _ _ h1))

/-- An error that raises no event. -/
theorem State.rd_ringErr_quiet {k : Nat} (h1 : k ≠ R.RING_ERR p) (h2 : k ≠ R.RING_ERR_INFO p) : (s.ringErr p r f false idx).rd k = s.rd k :=
  (State.rd_wr_ne _ _ h2).trans (State.rd_err_ne _ _ _ h1)

theorem State.rd_ringErr_own : (s.ringErr p r f raise idx).rd (R.RING_ERR p) = (s.err (R.RING_ERR p) f).rd (R.RING_ERR p) :=
  ((s.ringErr_kept p r f raise idx).regs _ (by simp only [EvtKey, R.RING_ERR]; omega)).trans
    (State.rd_wr_ne _ _ (by simp only [R.RING_ERR, R.RING_ERR_INFO]; omega))

theorem State.ringErr_flag (h : f.lo + f.w ≤ 32) (hw : 0 < f.w) : (s.ringErr p r f raise idx).flag (R.RING_ERR p) f = true := by
  rw [State.flag, State.fld, s.rd_ringErr_own p r f raise idx]
  exact s.flag_err (R.RING_ERR p) h hw

/-- A flag that is up stays up. -/
theorem State.ringErr_flag_keeps {g : Fld} (hf : f.lo < 32 ∧ f.w = 1) (hg : g.w = 1) (h : s.flag (R.RING_ERR p) g = true) :
    (s.ringErr p r f raise idx).flag (R.RING_ERR p) g = true := by
  rw [State.flag, State.fld, s.rd_ringErr_own p r f raise idx]
  exact State.flag_err_keeps (s := s) hf hg h

theorem State.ringErr_host : (s.ringErr p r f raise idx).host.fetched = s.host.fetched ∧
    (s.ringErr p r f raise idx).host.cplWait = s.host.cplWait ∧
    ∀ k, k % 64 ≠ 34 → aget 0 k (s.ringErr p r f raise idx).host.written = aget 0 k s.host.written :=
  have h := s.ringErr_kept p r f raise idx
  ⟨h.fetched, h.cplWait, h.written⟩

end

/-! ### Completions that the H-die writes itself (R312, R318, R321) -/

/-- What a partition's completion ring depends on is as it was. -/
structure CplRingKept (s u : State) (p : Nat) : Prop where
  map : u.rd R.PART_MAP = s.rd R.PART_MAP
  cfg : u.rd (R.RING_CFG 33 p) = s.rd (R.RING_CFG 33 p)
  state : u.rd (R.RING_STATE 33 p) = s.rd (R.RING_STATE 33 p)
  lo : u.rd (R.RING_BASE_LO 33 p) = s.rd (R.RING_BASE_LO 33 p)
  hi : u.rd (R.RING_BASE_HI 33 p) = s.rd (R.RING_BASE_HI 33 p)
  written : aget 0 (ringKey p 33) u.host.written = aget 0 (ringKey p 33) s.host.written
  cplWait : u.host.cplWait = s.host.cplWait

section
variable {s u t : State} {p : Nat}

section
variable (h : CplRingKept s u p)
include h

theorem CplRingKept.chip : u.ringChip p 33 = s.ringChip p 33 := congrArg (fget _) h.state

theorem CplRingKept.host : u.ringHost p 33 = s.ringHost p 33 := congrArg (fget _) h.state

theorem CplRingKept.size : u.ringSize p 33 = s.ringSize p 33 := by
  have hm : u.mapped p = s.mapped p := by
    rw [State.mapped, State.fld, h.map]
    rfl
  have hc : u.fld (R.RING_CFG 33 p) F.RING_CFG_SIZE = s.fld (R.RING_CFG 33 p) F.RING_CFG_SIZE := congrArg (fget _) h.cfg
  rw [State.ringSize, hm, hc, State.ringSize]

theorem CplRingKept.slot (i : Nat) : u.ringSlot p 33 i = s.ringSlot p 33 i := by
  simp only [State.ringSlot, State.ringBase, h.lo, h.hi, h.size]

theorem CplRingKept.phase : u.ringPhase p 33 = s.ringPhase p 33 := by
  simp only [State.ringPhase, h.written, h.size]

theorem CplRingKept.ready : u.cplReady p = s.cplReady p := by
  rw [State.cplReady, State.ringRoom, h.size, h.chip, h.host, h.cplWait, State.cplReady, State.ringRoom]

theorem CplRingKept.stands {ws : List Word} (hw : t.cplWritten u p ws) : t.cplWritten s p ws := by
  rw [State.cplWritten, h.chip, h.slot, h.phase] at hw
  exact hw

end

theorem State.cplWrite_ready (ws : List Word) (h : s.cplReady p = true) : s.cplWrite p ws =
    (s.ringPut p 33 ((wordAt ws 0 + BitVec.ofNat 32 (s.ringPhase p 33 * 2 ^ 13)) :: ws.drop 1)).ringSignal p 33 := if_pos h

theorem State.setChip_chip (s : State) (p r : Nat) :
    (s.setFld (R.RING_STATE r p) F.RING_STATE_CHIP ((s.ringChip p r + 1) % 65536)).ringChip p r = (s.ringChip p r + 1) % 65536 := by
  rw [State.ringChip, State.fld_setFld _ _ _ _ (by decide)]
  exact Nat.mod_mod _ 65536

theorem State.ringChip_ringPut (s : State) (p r : Nat) (ws : List Word) : (s.ringPut p r ws).ringChip p r = (s.ringChip p r + 1) % 65536 :=
  State.setChip_chip _ p r

theorem State.ringSignal_only (s : State) (p r : Nat) : (s.ringSignal p r).regs = s.regs ∧ (s.ringSignal p r).host.mem = s.host.mem := by
  unfold State.ringSignal
  split
  · refine ⟨s.vecTrigger_regs p _, ?_⟩
    unfold State.vecTrigger
    split <;> rfl
  · exact ⟨rfl, rfl⟩

/-- The registers of `ringPut` and `resvSync` are a ring's own and the count of R314. -/
theorem State.rd_cplEnd {k : Nat} (ws : List Word) (h1 : k ≠ R.RING_STATE 33 p) (h2 : k ≠ R.RING_CPL_RESV p) : (s.cplEnd p ws).rd k = s.rd k := by
  refine (State.rd_setFld_ne _ _ _ h2).trans ?_
  unfold State.cplWrite
  split
  · exact (State.rd_of_regs (State.ringSignal_only _ p 33).1 k).trans (State.rd_ringPut_ne _ p 33 _ h1)
  · rfl

theorem wordAt_cons_drop (ws : List Word) (w : Word) (k : Nat) (hk : k < ws.length) :
    wordAt ((wordAt ws 0 + w) :: ws.drop 1) k = wordAt ws k + (if k = 0 then w else 0) := by
  cases k with
  | zero => rfl
  | succ k =>
    rw [if_neg (Nat.succ_ne_zero k), add_zero, wordAt, List.getD_cons_succ, wordAt]
    simp [List.getD_eq_getElem?_getD]

/-- A descriptor leaves the list of R314. -/
def State.unfetched (s : State) (p : Nat) (ws : List Word) : State :=
  { s with host := { s.host with fetched := s.host.fetched.eraseP (cplAnswers p ws) } }

theorem State.memWord_of_mem (h : t.host.mem = s.host.mem) (q a : Nat) : t.memWord q a = s.memWord q a := by
  have hb (n : Nat) (a : Nat) : t.memBytes q a n = s.memBytes q a n := by
    induction n generalizing a with
    | zero => rfl
    | succ n ih => rw [State.memBytes, State.memBytes, ih, State.memByte, State.memByte, h]
  rw [State.memWord, State.memWord, hb]

theorem State.memWord_ringPut (s : State) (p r : Nat) (ws : List Word) (k : Nat) (hk : k < ws.length) (hl : 4 * ws.length ≤ 2 ^ 64) :
    (s.ringPut p r ws).memWord p (s.ringSlot p r (s.ringChip p r) + 4 * k) = wordAt ws k := by
  have hm : (s.ringPut p r ws).host.mem = (s.memWrite p (s.ringSlot p r (s.ringChip p r)) (wordsBytes ws)).host.mem := rfl
  rw [State.memWord_of_mem hm, State.memWord_memWrite p s _ ws k hk hl]

theorem State.ringChip_of_regs (h : t.regs = s.regs) (q r : Nat) : t.ringChip q r = s.ringChip q r :=
  congrArg (fget F.RING_STATE_CHIP) (State.rd_of_regs h (R.RING_STATE r q))

/-- A record that the ring can take stands in its slot, and the ring has moved on (R318, R321). -/
theorem State.cplWrite_written {ws : List Word} (hr : s.cplReady p = true) (hl : ws.length = 8) : (s.cplWrite p ws).cplWritten s p ws := by
  rw [State.cplWrite_ready ws hr]
  obtain ⟨hregs, hmem⟩ := State.ringSignal_only
    (s.ringPut p 33 ((wordAt ws 0 + BitVec.ofNat 32 (s.ringPhase p 33 * 2 ^ 13)) :: ws.drop 1)) p 33
  refine ⟨(State.ringChip_of_regs hregs p 33).trans (s.ringChip_ringPut p 33 _), fun k => ?_⟩
  rw [State.memWord_of_mem hmem, ← wordAt_cons_drop ws _ k (by omega), State.memWord_ringPut s p 33 _ k (by simp; omega) (by simp; omega)]

theorem State.cplEnd_written {ws : List Word} (hr : s.cplReady p = true) (hl : ws.length = 8) : (s.cplEnd p ws).cplWritten s p ws := by
  have hk : CplRingKept s (s.unfetched p ws) p := ⟨rfl, rfl, rfl, rfl, rfl, rfl, rfl⟩
  obtain ⟨hc, hm⟩ := hk.stands (State.cplWrite_written (hk.ready.trans hr) hl)
  refine ⟨(congrArg (fget _) (State.rd_setFld_ne _ _ _ ?_)).trans hc, fun k => (State.memWord_of_mem rfl _ _).trans (hm k)⟩
  simp only [R.RING_STATE, R.RING_CPL_RESV]
  omega

end

end Sys2Proof.Machine
end

section
/-! O10: doorbells, the enabling of rings, fetching and the order of a family (R310 to R323). -/

set_option Elab.async false

namespace Sys2Proof.Machine

/-! ### The arms of `exec` -/

section
variable (s : State) (p : Part)

theorem exec_ringEnable_arm (r : Nat) (data : Word) : exec (.ringEnable p r data) s = execRingEnable p r data s := rfl
theorem exec_ringDisable (r : Nat) (data : Word) :
    exec (.ringDisable p r data) s = .next (s.ringCfg p r (fset F.RING_CFG_SIZE data 0)) := rfl
theorem exec_txDescFetch_arm (r : Fin 16) (dma : Dma) : exec (.txDescFetch p r dma) s = execTxDescFetch p r dma s := rfl
theorem exec_commandFetch_arm (dma : Dma) : exec (.commandFetch p dma) s = execCommandFetch p dma s := rfl

end

/-! ### The registers of rings -/

section
variable (p r : Nat)

theorem ringCfg_plain (h : r < 35) : ¬EvtKey (R.RING_CFG r p) ∧ R.RING_CFG r p ≠ R.RING_ERR p ∧ R.RING_CFG r p ≠ R.RING_ERR_INFO p := by
  simp only [EvtKey, R.RING_CFG, R.RING_ERR, R.RING_ERR_INFO]
  omega

theorem ringState_plain (h : r < 34) :
    ¬EvtKey (R.RING_STATE r p) ∧ R.RING_STATE r p ≠ R.RING_ERR p ∧ R.RING_STATE r p ≠ R.RING_ERR_INFO p := by
  simp only [EvtKey, R.RING_STATE, R.RING_ERR, R.RING_ERR_INFO]
  omega

variable (s : State) (f : Fld) (raise : Bool) (idx q : Nat)

theorem State.ringCfg_ringErr (h : r < 35) : (s.ringErr p q f raise idx).rd (R.RING_CFG r p) = s.rd (R.RING_CFG r p) :=
  have hp := ringCfg_plain p r h
  s.rd_ringErr p q f raise idx hp.1 hp.2.1 hp.2.2

theorem State.ringState_ringErr (h : r < 34) : (s.ringErr p q f raise idx).rd (R.RING_STATE r p) = s.rd (R.RING_STATE r p) :=
  have hp := ringState_plain p r h
  s.rd_ringErr p q f raise idx hp.1 hp.2.1 hp.2.2

/-- An error leaves the host's index of every ring: an event moves the chip's index of event rings alone. -/
theorem State.ringHost_ringErr (h : r < 35) : (s.ringErr p q f raise idx).ringHost p r = s.ringHost p r := by
  by_cases e : r = 34
  · subst e
    refine ((s.ringErr_kept p q f raise idx).hosts p).trans (congrArg (fget _) ?_)
    refine (State.rd_wr_ne _ _ ?_).trans (State.rd_err_ne _ _ _ ?_)
    · simp only [R.RING_STATE, R.RING_ERR_INFO]
      omega
    · simp only [R.RING_STATE, R.RING_ERR]
      omega
  · exact congrArg (fget _) (s.ringState_ringErr p r f raise idx q (by omega))

end

/-! ### Doorbells (R311) -/

section
variable {s : State} {p : Part} {r : Nat} {data : Word}

theorem exec_doorbell_disabled (h : s.ringSize p r = 0) : exec (.doorbell p r data) s = .next s :=
  congrArg _ (if_pos (by simp [h]))

variable (hr : r < 35)
include hr

theorem State.doorbell_enabled (h : s.ringSize p r ≠ 0) : s.doorbell p r data =
    if !s.doorbellOk p r (data.toNat % 65536) then s.ringErr p r F.RING_ERR_DB_OVERRUN true (data.toNat % 65536)
    else
      let s1 := s.setFld (R.RING_STATE r p) F.RING_STATE_HOST (data.toNat % 65536)
      if r < 16 || r = 32 then s1.wake 1
      else if r = 33 then s1.cplFlush p s1.host.cplWait.length
      else s1 := if_neg (by simp [h]; omega)

theorem Does.doorbell_overrun (h : s.ringSize p r ≠ 0) (hd : s.doorbellOk p r (data.toNat % 65536) = false) : Does (.doorbell p r data) s (fun t =>
    t.ringHost p r = s.ringHost p r ∧ t.flag (R.RING_ERR p) F.RING_ERR_DB_OVERRUN = true) := by
  have he : exec (.doorbell p r data) s = .next (s.ringErr p r F.RING_ERR_DB_OVERRUN true (data.toNat % 65536)) :=
    congrArg _ ((State.doorbell_enabled hr h).trans (if_pos (by rw [hd]; rfl)))
  exact Does.of_next he ⟨State.ringHost_ringErr p r s _ _ _ r hr, State.ringErr_flag s p r _ _ _ (by decide) (by decide)⟩

theorem Does.doorbell_ok (h : s.ringSize p r ≠ 0) (hd : s.doorbellOk p r (data.toNat % 65536) = true) (h1 : 16 ≤ r) (h2 : r ≠ 32)
    (h3 : r ≠ 33) : Does (.doorbell p r data) s (fun t => t.ringHost p r = data.toNat % 65536 ∧ t.onlyKeys s [R.RING_STATE r p]) := by
  have he : exec (.doorbell p r data) s = .next (s.setFld (R.RING_STATE r p) F.RING_STATE_HOST (data.toNat % 65536)) :=
    congrArg _ ((State.doorbell_enabled hr h).trans ((if_neg (by rw [hd]; decide)).trans ((if_neg (by simp; omega)).trans (if_neg h3))))
  exact Does.of_next he ⟨(State.fld_setFld _ _ _ _ (by decide)).trans (Nat.mod_mod _ 65536), State.wr_onlyKeys _ _ (List.mem_singleton_self _)⟩

end

/-! ### Rings enabled and disabled (R310, R312) -/

/-- A `SIZE` other than 6 to 16. -/
abbrev sizeBad (data : Word) : Bool := fget F.RING_CFG_SIZE data < 6 || 16 < fget F.RING_CFG_SIZE data

section
variable {s : State} {p : Part} {r : Nat} {data : Word}

theorem State.ringCfg_unmapped (h : s.mapped p = false) : s.ringCfg p r data = s := if_pos (by simp [h])

theorem exec_ringEnable (h : fget F.RING_CFG_SIZE data ≠ 0) : exec (.ringEnable p r data) s = .next (s.ringCfg p r data) := congrArg _ (if_neg h)

theorem exec_ringEnable_unmapped (h : s.mapped p = false) : exec (.ringEnable p r data) s = .next s := by
  rw [exec_ringEnable_arm, execRingEnable, State.ringCfg_unmapped h, ite_self]

theorem exec_ringDisable_unmapped (h : s.mapped p = false) : exec (.ringDisable p r data) s = .next s :=
  congrArg _ (State.ringCfg_unmapped h)

theorem State.mapped_of_ringSize (h : s.ringSize p r ≠ 0) : s.mapped p = true := by
  by_contra hm
  exact h (if_neg hm)

/-- A ring with both indices at 0. -/
def State.ringStarted (s : State) (p r : Nat) (data : Word) : State :=
  let s1 := (s.wr (R.RING_CFG r p) (data &&& 0x7FF)).wr (R.RING_STATE r p) 0
  { s1 with host := { s1.host with written := aset 0 (ringKey p r) 0 s1.host.written } }

theorem State.rd_ringStarted (k : Nat) :
    (s.ringStarted p r data).rd k = ((s.wr (R.RING_CFG r p) (data &&& 0x7FF)).wr (R.RING_STATE r p) 0).rd k := rfl

variable (hr : r < 35)
include hr

theorem State.ringCfg_reached (hm : s.mapped p = true) : ¬(r ≥ 35 || !s.mapped p) = true := by
  simp [hm]
  omega

/-- `SIZE` 0 disables a ring. -/
theorem State.ringCfg_off (hm : s.mapped p = true) (h0 : fget F.RING_CFG_SIZE data = 0) :
    s.ringCfg p r data = s.wr (R.RING_CFG r p) (data &&& 0x7FF) :=
  (if_neg (State.ringCfg_reached hr hm)).trans (if_pos h0)

/-- A `SIZE` that no ring has. -/
theorem State.ringCfg_bad (hm : s.mapped p = true) (h0 : fget F.RING_CFG_SIZE data ≠ 0) (hb : sizeBad data = true) : s.ringCfg p r data =
    if s.ringSize p r ≠ 0 then
      (s.ringErr p r F.RING_ERR_SIZE_INVALID false (s.ringChip p r)).ringErr p r F.RING_ERR_RING_BUSY false (s.ringChip p r)
    else s.ringErr p r F.RING_ERR_SIZE_INVALID false (s.ringChip p r) := by
  have hc : s.ringCfg p r data = _ :=
    (if_neg (State.ringCfg_reached hr hm)).trans ((if_neg h0).trans (if_pos (Bool.or_eq_true_iff.mpr (.inl hb))))
  rw [hc, if_pos hb]

/-- A ring that is enabled. -/
theorem State.ringCfg_busy (h0 : fget F.RING_CFG_SIZE data ≠ 0) (hs : s.ringSize p r ≠ 0) : s.ringCfg p r data =
    (if sizeBad data = true then s.ringErr p r F.RING_ERR_SIZE_INVALID false (s.ringChip p r) else s).ringErr p r F.RING_ERR_RING_BUSY false
      (s.ringChip p r) :=
  (if_neg (State.ringCfg_reached hr (State.mapped_of_ringSize hs))).trans ((if_neg h0).trans
    ((if_pos (Bool.or_eq_true_iff.mpr (.inr (decide_eq_true hs)))).trans (if_pos hs)))

theorem State.ringCfg_on (hm : s.mapped p = true) (h6 : 6 ≤ fget F.RING_CFG_SIZE data) (h16 : fget F.RING_CFG_SIZE data ≤ 16)
    (hs : s.ringSize p r = 0) (h33 : r ≠ 33) : s.ringCfg p r data = s.ringStarted p r data := by
  have hb : ¬(sizeBad data || decide (s.ringSize p r ≠ 0)) = true := by
    simp [hs, sizeBad]
    omega
  exact (if_neg (State.ringCfg_reached hr hm)).trans ((if_neg (by omega)).trans ((if_neg hb).trans (if_neg h33)))

theorem Does.ringEnable_on (hm : s.mapped p = true) (h6 : 6 ≤ fget F.RING_CFG_SIZE data) (h16 : fget F.RING_CFG_SIZE data ≤ 16)
    (hs : s.ringSize p r = 0) (h33 : r ≠ 33) : Does (.ringEnable p r data) s (fun t =>
      t.rd (R.RING_CFG r p) = data &&& 0x7FF ∧ t.rd (R.RING_STATE r p) = 0 ∧ aget 0 (ringKey p r) t.host.written = 0) := by
  have he := (exec_ringEnable (s := s) (p := p) (r := r) (show fget F.RING_CFG_SIZE data ≠ 0 by omega)).trans
    (congrArg _ (State.ringCfg_on hr hm h6 h16 hs h33))
  have hne : R.RING_CFG r p ≠ R.RING_STATE r p := by
    simp only [R.RING_CFG, R.RING_STATE]
    omega
  refine Does.of_next he ⟨?_, ?_, ?_⟩
  · rw [State.rd_ringStarted, State.rd_wr_ne _ _ hne, State.rd_wr]
  · rw [State.rd_ringStarted, State.rd_wr]
  · exact aget_aset_same 0 0 (ringKey p r) s.host.written

theorem Does.ringEnable_bad (hm : s.mapped p = true) (h0 : fget F.RING_CFG_SIZE data ≠ 0)
    (hb : fget F.RING_CFG_SIZE data < 6 ∨ 16 < fget F.RING_CFG_SIZE data) : Does (.ringEnable p r data) s (fun t =>
      t.flag (R.RING_ERR p) F.RING_ERR_SIZE_INVALID = true ∧ t.rd (R.RING_CFG r p) = s.rd (R.RING_CFG r p)) := by
  have hf := s.ringErr_flag p r F.RING_ERR_SIZE_INVALID false (s.ringChip p r) (by decide) (by decide)
  have hk := State.ringCfg_ringErr p r s F.RING_ERR_SIZE_INVALID false (s.ringChip p r) r hr
  refine Does.of_next ((exec_ringEnable h0).trans (congrArg _ (State.ringCfg_bad hr hm h0 (by simpa [sizeBad] using hb)))) ?_
  split
  · exact ⟨State.ringErr_flag_keeps _ _ _ _ _ _ (by decide) (by decide) hf, (State.ringCfg_ringErr p r _ _ _ _ r hr).trans hk⟩
  · exact ⟨hf, hk⟩

theorem Does.ringEnable_busy (h0 : fget F.RING_CFG_SIZE data ≠ 0) (hs : s.ringSize p r ≠ 0) : Does (.ringEnable p r data) s (fun t =>
    t.flag (R.RING_ERR p) F.RING_ERR_RING_BUSY = true ∧ t.rd (R.RING_CFG r p) = s.rd (R.RING_CFG r p) ∧
      t.rd (R.RING_STATE r p) = s.rd (R.RING_STATE r p)) := by
  have hk {k : Nat} (h1 : k ≠ R.RING_ERR p) (h2 : k ≠ R.RING_ERR_INFO p) : (s.ringCfg p r data).rd k = s.rd k := by
    rw [State.ringCfg_busy hr h0 hs, State.rd_ringErr_quiet _ _ _ _ _ h1 h2]
    split
    · exact s.rd_ringErr_quiet p r _ _ h1 h2
    · rfl
  refine Does.of_next (exec_ringEnable h0) ⟨?_, hk (ringCfg_plain p r hr).2.1 (ringCfg_plain p r hr).2.2, ?_⟩
  · rw [State.ringCfg_busy hr h0 hs]
    exact State.ringErr_flag _ p r _ _ _ (by decide) (by decide)
  · exact hk (by simp only [R.RING_STATE, R.RING_ERR]; omega) (by simp only [R.RING_STATE, R.RING_ERR_INFO]; omega)

theorem Does.ringDisable (hm : s.mapped p = true) : Does (.ringDisable p r data) s (fun t =>
    t.fld (R.RING_CFG r p) F.RING_CFG_SIZE = 0 ∧ t.onlyKeys s [R.RING_CFG r p]) := by
  have h0 : fget F.RING_CFG_SIZE (fset F.RING_CFG_SIZE data 0) = 0 := fget_fset _ _ _ (by decide)
  have he := (exec_ringDisable s p r data).trans (congrArg _ (State.ringCfg_off hr hm h0))
  refine Does.of_next he ⟨?_, State.wr_onlyKeys _ _ (List.mem_singleton_self _)⟩
  rw [State.fld, State.rd_wr, fget_and, h0]
  decide

end

/-! ### Transmit descriptors fetched (R314 to R316) -/

/-- The registers that a partition's completion ring depends on. -/
abbrev CplKey (p k : Nat) : Prop :=
  k = R.PART_MAP ∨ k = R.RING_CFG 33 p ∨ k = R.RING_STATE 33 p ∨ k = R.RING_BASE_LO 33 p ∨ k = R.RING_BASE_HI 33 p

theorem cplKey_plain {p k : Nat} (h : CplKey p k) : ¬EvtKey k ∧ k ≠ R.RING_ERR p ∧ k ≠ R.RING_ERR_INFO p ∧ k ≠ R.RING_CPL_RESV p ∧
    ∀ r : Fin 16, k ≠ R.RING_STATE r p := by
  simp only [CplKey, EvtKey, R.PART_MAP, R.RING_CFG, R.RING_STATE, R.RING_BASE_LO, R.RING_BASE_HI, R.RING_ERR, R.RING_ERR_INFO,
    R.RING_CPL_RESV] at h ⊢
  refine ⟨?_, ?_, ?_, ?_, fun r => ?_⟩ <;> omega

/-- What a fetch reads of a transmit ring is not the completion ring's. -/
theorem txRing_plain (p : Nat) (r : Fin 16) : (R.RING_STATE r p ≠ R.RING_STATE 33 p ∧ R.RING_STATE r p ≠ R.RING_CPL_RESV p) ∧
    R.RING_ERR p ≠ R.RING_STATE 33 p ∧ R.RING_ERR p ≠ R.RING_CPL_RESV p := by
  simp only [R.RING_STATE, R.RING_CPL_RESV, R.RING_ERR]
  omega

@[simp] theorem State.passSend_spent (s : State) (d : Die) (typ part : Nat) (g : Bool) (len : Nat) (ws : List Word) :
    (s.passSend d typ part g len ws).pass.spent = s.pass.spent := by cases d <;> rfl

section
variable (s : State) (p r : Nat)

/-- The transmit descriptor at the chip's index of a ring, as it is fetched. -/
abbrev State.txFetched (s : State) (p r : Nat) : Fetched := ⟨p, r, s.ringChip p r, 0, 0, wordAt (s.ringWords p r (s.ringChip p r)) 4, 0⟩

/-- The frame that it names. -/
abbrev State.txFrame (s : State) (p r : Nat) : List Byte :=
  let ws := s.ringWords p r (s.ringChip p r)
  s.memBytes p (addr64 (wordAt ws 2) (wordAt ws 3)) (bitsAt (wordAt ws 0) 0 13)

theorem State.ringChip_lt : s.ringChip p r < 65536 := fget_lt F.RING_STATE_CHIP _

/-- The record of a transmit descriptor answers it. -/
theorem cplAnswers_txRecord {f : Fetched} (ho : f.opcode = 0) (hi : f.index < 65536) (hr : f.ring < 16) (status cause detail : Nat) :
    cplAnswers f.part (txRecord f status 0 0 63 false cause detail) f = true := by
  have h0 : 0 = (cplWord0 0 status f.index).toNat % 256 ∧ f.index = (cplWord0 0 status f.index).toNat / 2 ^ 16 := by
    rw [cplWord0, BitVec.toNat_ofNat]
    omega
  have h3 : f.ring = (w32 (f.ring % 16 + 0 % 32 * 2 ^ 4 + 63 % 64 * 2 ^ 9 + 0)).toNat % 16 := by
    rw [BitVec.toNat_ofNat]
    omega
  simp only [cplAnswers, ho, Bool.and_eq_true, decide_eq_true_eq, if_true]
  exact ⟨⟨trivial, h0.1⟩, h0.2, h3⟩

/-- What completes of a fetched transmit descriptor is written at once where the ring can take it. -/
theorem State.txDoneH_written {u : State} {f : Fetched} (hk : CplRingKept s u f.part) (hm : f ∈ u.host.fetched) (ho : f.opcode = 0)
    (hi : f.index < 65536) (hr : f.ring < 16) (hc : s.cplReady f.part = true) (status cause : Nat) :
    (u.txDoneH f status cause 0).cplWritten s f.part (txRecord f status 0 0 63 false cause 0) ∧
      ∀ k, k ≠ R.RING_STATE 33 f.part → k ≠ R.RING_CPL_RESV f.part → (u.txDoneH f status cause 0).rd k = u.rd k := by
  have he : u.txDoneH f status cause 0 = u.cplEnd f.part (txRecord f status 0 0 63 false cause 0) :=
    u.cplOwn_fetched _ _ (List.any_eq_true.mpr ⟨f, hm, cplAnswers_txRecord ho hi hr status cause 0⟩)
  rw [he]
  exact ⟨hk.stands (State.cplEnd_written (hk.ready.trans hc) rfl), fun k => State.rd_cplEnd _⟩

@[simp] theorem State.rd_addFetched {k : Nat} (f : Fetched) (h : k ≠ R.RING_CPL_RESV f.part) : (s.addFetched f).rd k = s.rd k :=
  State.rd_setFld_ne _ _ _ h

theorem State.rd_ringNext {k : Nat} (h : k ≠ R.RING_STATE r p) : (s.ringNext p r).rd k = s.rd k := s.rd_setFld_ne _ _ h

theorem State.ringChip_ringNext : (s.ringNext p r).ringChip p r = (s.ringChip p r + 1) % 65536 := s.setChip_chip p r

end

section
variable {s : State} {p : Part} {r : Fin 16} (h : s.mayFetch p r = true)
include h

theorem exec_txDescFetch_descError : exec (.txDescFetch p r .descError) s =
    .next ((s.setFld (R.RING_CFG r p) F.RING_CFG_SIZE 0).ringErr p r F.RING_ERR_DESC_DMA true (s.ringChip p r)) := by
  rw [exec_txDescFetch_arm, execTxDescFetch]
  exact congrArg _ (if_neg (by rw [h]; decide))

theorem exec_txDescFetch_bufError : exec (.txDescFetch p r .bufError) s =
    .next ((((s.ringNext p r).ringErr p r F.RING_ERR_BUF_DMA true (s.ringChip p r)).addFetched (s.txFetched p r)).txDoneH (s.txFetched p r)
      stBAD_PARAM 20 0) := by
  rw [exec_txDescFetch_arm, execTxDescFetch]
  exact congrArg _ (if_neg (by rw [h]; decide))

theorem exec_txDescFetch_bad (hb : txDescOk p (wordAt (s.ringWords p r (s.ringChip p r)) 0) (s.txFrame p r) = false) :
    exec (.txDescFetch p r .ok) s = .next (((s.ringNext p r).addFetched (s.txFetched p r)).txDoneH (s.txFetched p r) stBAD_PARAM 23 0) := by
  rw [exec_txDescFetch_arm, execTxDescFetch]
  exact congrArg _ ((if_neg (by rw [h]; decide)).trans (if_pos (by rw [hb]; rfl)))

theorem exec_txDescFetch_ok (hb : txDescOk p (wordAt (s.ringWords p r (s.ringChip p r)) 0) (s.txFrame p r) = true)
    (hc : frameCells (bitsAt (wordAt (s.ringWords p r (s.ringChip p r)) 0) 0 13) ≤ s.creditLeft p) :
    exec (.txDescFetch p r .ok) s = .next (
      let ws := s.ringWords p r (s.ringChip p r)
      let len := bitsAt (wordAt ws 0) 0 13
      let s1 := (s.ringNext p r).addFetched (s.txFetched p r)
      let s2 := { s1 with pass := { s1.pass with spent := amod 0 p.val (· + frameCells len) s1.pass.spent } }
      s2.passSend .h 0x02 p false (32 + len) ([wordAt ws 0, wordAt ws 1, w32 (s.ringChip p r + r.val * 2 ^ 16 + (52 + p.val) * 2 ^ 20), 0,
        wordAt ws 4, 0, 0, 0] ++ bytesWords (s.txFrame p r))) := by
  rw [exec_txDescFetch_arm, execTxDescFetch]
  exact congrArg _ ((if_neg (by rw [h]; decide)).trans ((if_neg (by rw [hb]; decide)).trans (if_neg (Nat.not_lt.mpr hc))))

theorem Does.txDescFetch_ok (hb : txDescOk p (wordAt (s.ringWords p r (s.ringChip p r)) 0) (s.txFrame p r) = true)
    (hc : frameCells (bitsAt (wordAt (s.ringWords p r (s.ringChip p r)) 0) 0 13) ≤ s.creditLeft p) : Does (.txDescFetch p r .ok) s (fun t =>
      (t.lastSent .h).map (fun e => (e.typ, e.part)) = some (2, p.val) ∧ t.host.fetched = s.host.fetched ++ [s.txFetched p r] ∧
        aget 0 p.val t.pass.spent = aget 0 p.val s.pass.spent + frameCells (bitsAt (wordAt (s.ringWords p r (s.ringChip p r)) 0) 0 13) ∧
        t.ringChip p r = (s.ringChip p r + 1) % 65536) := by
  have hn := (txRing_plain p r).1.2
  refine Does.of_next (exec_txDescFetch_ok h hb hc) ⟨?_, ?_, ?_, ?_⟩
  · rw [State.passSend_lastSent]
    rfl
  · rw [State.passSend_host]
    rfl
  · rw [State.passSend_spent]
    exact aget_aset_same 0 _ p.val s.pass.spent
  · rw [State.ringChip, State.fld, State.rd_passSend]
    exact (congrArg (fget F.RING_STATE_CHIP) (State.rd_addFetched (s.ringNext p r) (s.txFetched p r) hn)).trans (s.ringChip_ringNext p r)

omit h in
/-- The fetch of a transmit descriptor leaves what the completion ring depends on. -/
theorem CplRingKept.fetch {u : State} (f : Fetched) (hf : f.part = p) (hu : ∀ k, CplKey p k → u.rd k = s.rd k)
    (hw : aget 0 (ringKey p 33) u.host.written = aget 0 (ringKey p 33) s.host.written) (hc : u.host.cplWait = s.host.cplWait) :
    CplRingKept s (u.addFetched f) p := by
  have hk (k : Nat) (hk : CplKey p k) : (u.addFetched f).rd k = s.rd k :=
    (u.rd_addFetched f (hf ▸ (cplKey_plain hk).2.2.2.1)).trans (hu k hk)
  exact ⟨hk _ (.inl rfl), hk _ (.inr (.inl rfl)), hk _ (.inr (.inr (.inl rfl))), hk _ (.inr (.inr (.inr (.inl rfl)))),
    hk _ (.inr (.inr (.inr (.inr rfl)))), hw, hc⟩

omit h in
/-- A fetched descriptor that fails is completed at once, and no register but the completion ring's and the count of R314 follows. -/
theorem State.txFetch_written {u : State} (hu : ∀ k, CplKey p k → u.rd k = s.rd k)
    (hw : aget 0 (ringKey p 33) u.host.written = aget 0 (ringKey p 33) s.host.written) (hcw : u.host.cplWait = s.host.cplWait)
    (hr : u.ringChip p r = (s.ringChip p r + 1) % 65536) (hc : s.cplReady p = true) (cause : Nat) :
    let t := (u.addFetched (s.txFetched p r)).txDoneH (s.txFetched p r) stBAD_PARAM cause 0
    t.cplWritten s p (txRecord (s.txFetched p r) stBAD_PARAM 0 0 63 false cause 0) ∧ t.ringChip p r = (s.ringChip p r + 1) % 65536 ∧
      t.rd (R.RING_ERR p) = u.rd (R.RING_ERR p) := by
  have hm : s.txFetched p r ∈ (u.addFetched (s.txFetched p r)).host.fetched := List.mem_append_right _ (List.mem_singleton_self _)
  have hkept := CplRingKept.fetch (s.txFetched p r) rfl hu hw hcw
  obtain ⟨ht, hk⟩ := State.txDoneH_written (s := s) hkept hm rfl (s.ringChip_lt p r) r.isLt hc stBAD_PARAM cause
  have hrd {k : Nat} (h1 : k ≠ R.RING_STATE 33 p) (h2 : k ≠ R.RING_CPL_RESV p) := (hk k h1 h2).trans (u.rd_addFetched (s.txFetched p r) h2)
  obtain ⟨hs, he⟩ := txRing_plain p r
  exact ⟨ht, (congrArg (fget F.RING_STATE_CHIP) (hrd hs.1 hs.2)).trans hr, hrd he.1 he.2⟩

theorem Does.txDescFetch_bad (hb : txDescOk p (wordAt (s.ringWords p r (s.ringChip p r)) 0) (s.txFrame p r) = false) (hc : s.cplReady p = true) :
    Does (.txDescFetch p r .ok) s (fun t => t.cplWritten s p (txRecord (s.txFetched p r) stBAD_PARAM 0 0 63 false 23 0) ∧
      t.ringChip p r = (s.ringChip p r + 1) % 65536) := by
  obtain ⟨ht, hr, -⟩ := State.txFetch_written (u := s.ringNext p r) (fun k hk => s.rd_ringNext p r ((cplKey_plain hk).2.2.2.2 r)) rfl rfl
    (s.ringChip_ringNext p r) hc 23
  exact Does.of_next (exec_txDescFetch_bad h hb) ⟨ht, hr⟩

theorem Does.txDescFetch_bufError (hc : s.cplReady p = true) : Does (.txDescFetch p r .bufError) s (fun t =>
    t.cplWritten s p (txRecord (s.txFetched p r) stBAD_PARAM 0 0 63 false 20 0) ∧ t.ringChip p r = (s.ringChip p r + 1) % 65536 ∧
      t.flag (R.RING_ERR p) F.RING_ERR_BUF_DMA = true) := by
  obtain ⟨-, hcw, hw⟩ := (s.ringNext p r).ringErr_host p r F.RING_ERR_BUF_DMA true (s.ringChip p r)
  have hf := (s.ringNext p r).ringErr_flag p r F.RING_ERR_BUF_DMA true (s.ringChip p r) (by decide) (by decide)
  have hst := State.ringState_ringErr p r (s.ringNext p r) F.RING_ERR_BUF_DMA true (s.ringChip p r) r (by omega)
  obtain ⟨ht, hr, he⟩ := State.txFetch_written (s := s) (p := p) (r := r)
    (u := (s.ringNext p r).ringErr p r F.RING_ERR_BUF_DMA true (s.ringChip p r)) (fun k hk => by
      obtain ⟨h1, h2, h3, -, h5⟩ := cplKey_plain hk
      rw [State.rd_ringErr _ _ _ _ _ _ h1 h2 h3, State.rd_ringNext _ _ _ (h5 r)])
    (hw _ (by rw [ringKey]; omega)) hcw ((congrArg (fget F.RING_STATE_CHIP) hst).trans (s.ringChip_ringNext p r)) hc 20
  exact Does.of_next (exec_txDescFetch_bufError h) ⟨ht, hr, by rw [State.flag, State.fld, he]; exact hf⟩

theorem Does.txDescFetch_descError : Does (.txDescFetch p r .descError) s (fun t =>
    t.ringSize p r = 0 ∧ t.flag (R.RING_ERR p) F.RING_ERR_DESC_DMA = true ∧ t.host.fetched = s.host.fetched) := by
  obtain ⟨hf, -, -⟩ := (s.setFld (R.RING_CFG r p) F.RING_CFG_SIZE 0).ringErr_host p r F.RING_ERR_DESC_DMA true (s.ringChip p r)
  refine Does.of_next (exec_txDescFetch_descError h) ⟨?_, State.ringErr_flag _ p r _ _ _ (by decide) (by decide), hf⟩
  have hz : ((s.setFld (R.RING_CFG r p) F.RING_CFG_SIZE 0).ringErr p r F.RING_ERR_DESC_DMA true (s.ringChip p r)).fld (R.RING_CFG r p)
      F.RING_CFG_SIZE = 0 := by
    rw [State.fld, State.ringCfg_ringErr p r _ _ _ _ r (by omega)]
    exact State.fld_setFld _ _ _ _ (by decide)
  rw [State.ringSize, hz, ite_self]

end

/-! ### Commands fetched (R310, R323) -/

section
variable {s : State} {p : Part}

/-- The words of the command at the chip's index, and whether it is granted. -/
abbrev State.cmdWords (s : State) (p : Nat) : List Word := s.ringWords p 32 (s.ringChip p 32)
abbrev State.cmdGrant (s : State) (p : Nat) : Bool := opcodeGuarded ((wordAt (s.cmdWords p) 0).toNat % 256) && s.unlocked p

/-- A command is fetched. -/
abbrev State.cmdFetched (s : State) (p : Nat) : State :=
  (s.ringNext p 32).addFetched ⟨p, 32, s.ringChip p 32, (wordAt (s.cmdWords p) 0).toNat / 2 ^ 16, (wordAt (s.cmdWords p) 0).toNat % 256, 0, 0⟩

/-- Its first word, with `GRANT` as it is. -/
abbrev cmdWord0 (w : Word) (grant : Bool) : Word := (w &&& 0xFFFFFEFF) ||| (if grant then 0x100 else 0)

theorem bitAt_cmdWord0 (w : Word) (grant : Bool) : bitAt (cmdWord0 w grant) 8 = grant := by
  cases grant <;> simp [bitAt, cmdWord0]

theorem exec_commandFetch (h : s.mayFetch p 32 = true) : exec (.commandFetch p .ok) s = .next
    ((if s.cmdGrant p = true then (s.cmdFetched p).armLock p else s.cmdFetched p).passSend .h 0x04 p false 32
      (cmdWord0 (wordAt (s.cmdWords p) 0) (s.cmdGrant p) :: (s.cmdWords p).drop 1)) := by
  rw [exec_commandFetch_arm, execCommandFetch]
  exact congrArg _ (if_neg (by rw [h]; decide))

theorem State.unlocked_congr {t : State} {q : Nat} (hr : t.rd (R.SYS_LOCK q) = s.rd (R.SYS_LOCK q)) (hn : t.now = s.now)
    (hl : t.host.lockAt = s.host.lockAt) : t.unlocked q = s.unlocked q := by
  rw [State.unlocked, State.flag, State.fld, hr, hn, hl]
  rfl

theorem State.cmdFetched_unlocked (s : State) (p : Nat) : (s.cmdFetched p).unlocked p = s.unlocked p := by
  refine State.unlocked_congr ?_ rfl rfl
  refine (State.rd_addFetched _ _ ?_).trans (State.rd_ringNext _ _ _ ?_)
  · simp only [R.SYS_LOCK, R.RING_CPL_RESV]
    omega
  · simp only [R.SYS_LOCK, R.RING_STATE]
    omega

theorem State.armLock_unlocked (s : State) (q : Nat) : (s.armLock q).unlocked q = false := State.armLock_locked (s := s) rfl

theorem Does.commandFetch (h : s.mayFetch p 32 = true) : Does (.commandFetch p .ok) s (fun t =>
    (t.lastSent .h).map (fun e => (e.typ, e.part, bitAt (wordAt e.payload 0) 8, e.payload.drop 1)) =
      some (4, p.val, s.cmdGrant p, (s.cmdWords p).drop 1) ∧ (s.cmdGrant p = true → t.unlocked p = false) ∧
      (s.cmdGrant p = false → t.unlocked p = s.unlocked p) ∧ t.host.fetched.length = s.host.fetched.length + 1) := by
  have hu (u : State) (ws : List Word) : (u.passSend .h 0x04 p false 32 ws).unlocked p = u.unlocked p :=
    State.unlocked_congr (State.rd_passSend ..) (State.passSend_now ..) (by rw [State.passSend_host])
  refine Does.of_next (exec_commandFetch h) ⟨?_, fun hg => ?_, fun hg => ?_, ?_⟩
  · rw [State.passSend_lastSent]
    exact congrArg (fun b => some (4, p.val, b, (s.cmdWords p).drop 1)) (bitAt_cmdWord0 _ _)
  · rw [hu, if_pos hg, State.armLock_unlocked]
  · rw [hu, if_neg (ne_true_of_eq_false hg), State.cmdFetched_unlocked]
  · rw [State.passSend_host]
    split <;> exact List.length_append

end

/-! ### The order of a family (R323) -/

section
variable {s : State} {c : CmdDesc}

theorem State.dirRun_waits (s : State) (h : s.cmdTurn c = false) (f : State → State) : s.dirRun c f = s := if_pos (by simp [h])

theorem State.prefixRun_waits (s : State) (h : s.cmdTurn c = false) (f : State → State) : s.prefixRun c f = s := if_pos (by simp [h])

/-- A command that an earlier one of its family precedes does nothing yet. -/
theorem exec_command_waits {i : Instr} (hi : commandOf i = some c) (h : s.cmdTurn c = false) : exec i s = .next s := by
  have hn : (!s.cmdTurn c) = true := by rw [h]; rfl
  unfold commandOf at hi
  split at hi
  case h_14 | h_15 | h_16 | h_17 | h_18 =>
    cases hi
    exact congrArg Host.Outcome.next (s.dirRun_waits h _)
  case h_20 | h_21 | h_22 | h_23 | h_24 =>
    cases hi
    exact congrArg Host.Outcome.next (s.prefixRun_waits h _)
  case h_38 =>
    cases hi
    exact congrArg Host.Outcome.next (if_pos (by rw [hn]; rfl))
  case h_39 => cases hi
  all_goals
    cases hi
    exact congrArg Host.Outcome.next (if_pos hn)

/-- Whatever ADDR_QUARANTINE finds, it completes, with the order of the family as it was. -/
theorem exec_addrQuarantine_done (h : s.cmdTurn c = true) : ∃ (u : State) (st cause : Nat), u.pass = s.pass ∧ u.ends = s.ends ∧
    exec (.addrQuarantine c) s = .next (u.cmdDone c st [] cause 0) := by
  rw [exec_addrQuarantine_arm, execAddrQuarantine, if_neg (by rw [h]; decide)]
  dsimp only
  split
  · exact ⟨s.cmdTake c, _, _, rfl, rfl, rfl⟩
  · split
    · exact ⟨s.cmdTake c, _, _, rfl, rfl, rfl⟩
    · split
      · exact ⟨s.cmdTake c, _, _, rfl, rfl, rfl⟩
      · exact ⟨(s.cmdTake c).shortQuar (lpan c) (bitsAt c.w1 16 16) (bitsAt c.w2 0 17), _, _, rfl, rfl, rfl⟩

/-- The place that a command keeps takes its record. -/
theorem cplMark_own (ws : List Word) (l : List CplSlot) : cplMark c ws ({ cmd := c } :: l) = { cmd := c, done := some ws } :: l :=
  if_pos (by simp)

variable {u : State} (ws : List Word)

theorem State.cplOffer_first {d : CmdDesc} {ws2 : List Word} (ho : u.ends.order = [{ cmd := c }, { cmd := d, done := some ws2 }])
    (hf : cmdFamily c = cmdFamily d) (hl : cmdLoose c = false) : u.cplOffer c ws =
      (State.passSend { u with ends := { u.ends with order := [] } } .f 5 c.part.val false 32 ws).passSend .f 5 d.part.val false 32 ws2 := by
  simp [State.cplOffer, ho, hl, cplMark_own, State.cplSend, hf]

theorem Does.addrQuarantine_held {x : CplSlot} (h : s.cmdTurn c = true) (ho : s.ends.order = [x, { cmd := c }]) (hx : x.done = none)
    (hc : x.cmd ≠ c) (hf : cmdFamily x.cmd = cmdFamily c) (hl : cmdLoose c = false) : Does (.addrQuarantine c) s (fun t =>
      t.pass.fh = s.pass.fh ∧ t.ends.order.length = 2 ∧ t.ends.order.head? = some x ∧
        (t.ends.order.all (fun y => y = x || y.done.isSome)) = true) := by
  obtain ⟨u, st, cause, hp, hends, he⟩ := exec_addrQuarantine_done h
  have hd : u.cplOffer c (cplRecord c st [] cause 0) = _ := State.cplOffer_held u c _ x [{ cmd := c }] (by rw [hends, ho]) hx hc hf hl
  rw [cplMark_own] at hd
  refine Does.of_next he ?_
  rw [State.cmdDone, hd]
  exact ⟨by rw [hp], rfl, rfl, by simp⟩

theorem Does.addrQuarantine_first {d : CmdDesc} {ws : List Word} (h : s.cmdTurn c = true)
    (ho : s.ends.order = [{ cmd := c }, { cmd := d, done := some ws }]) (hf : cmdFamily c = cmdFamily d) (hl : cmdLoose c = false) :
    Does (.addrQuarantine c) s (fun t => t.sent .f = some (5, d.part.val, ws) ∧ t.ends.order = []) := by
  obtain ⟨u, st, cause, -, hends, he⟩ := exec_addrQuarantine_done h
  have hd := State.cplOffer_first (cplRecord c st [] cause 0) (show u.ends.order = _ by rw [hends, ho]) hf hl
  refine Does.of_next he ?_
  rw [State.cmdDone, hd]
  refine ⟨?_, ?_⟩
  · exact State.passSend_sent _ .f 5 d.part.val false 32 ws
  · rw [State.passSend_ends, State.passSend_ends]

end

/-! ### The obligation -/

/-- Settles O10: a doorbell, a write of a ring's register and a fetch by their cases; the order of a family by what a completion finds in it. -/
theorem ringsAndDescriptors : Obligations.RingsAndDescriptors :=
  ⟨fun _ _ _ _ hr => ⟨exec_doorbell_disabled, Does.doorbell_overrun hr, Does.doorbell_ok hr⟩,
    fun _ _ _ _ hr => ⟨Does.ringEnable_on hr, Does.ringEnable_bad hr, Does.ringEnable_busy hr, Does.ringDisable hr,
      fun h => ⟨exec_ringEnable_unmapped h, exec_ringDisable_unmapped h⟩⟩,
    fun _ _ _ h => ⟨Does.txDescFetch_ok h, Does.txDescFetch_bad h, Does.txDescFetch_bufError h, Does.txDescFetch_descError h⟩,
    fun _ _ => Does.commandFetch,
    fun _ _ _ => exec_command_waits, fun _ _ _ => Does.addrQuarantine_held, fun _ _ _ _ => Does.addrQuarantine_first⟩

end Sys2Proof.Machine
end

section
/-! The KEY block beside the logs (R201, R386 to R390): a Ledger record, whatever it sets off, leaves every register of the KEY block, and what the
shared operations do to the list of slots. -/

set_option Elab.async false

namespace Sys2Proof.Machine

/-- Registers of the KEY block (R201). -/
abbrev KeyBlock (k : Nat) : Prop := 0xD000 ≤ k ∧ k < 0xE000

/-! ### Logs and Quiet (R377, R386 to R390) -/

/-- The answer to a posting is a message, and its bitmap goes to host memory. -/
theorem State.rd_cvnAnswer (s : State) (c : Caravan) (status : Nat) (expired : Bool) (p : CmdDesc) (k : Nat) :
    (s.cvnAnswer c status expired p).rd k = s.rd k := by
  unfold State.cvnAnswer State.cmdDoneFull
  exact State.rd_passSend ..

theorem State.quietOver_regs (s : State) (c : Nat) :
    (s.quietOver c).regs = (s.setFld R.SAFE_CAUSE F.SAFE_CAUSE_LIVE (clrNbit (s.fld R.SAFE_CAUSE F.SAFE_CAUSE_LIVE) c)).regs := by
  unfold State.quietOver
  dsimp only
  split <;> rfl

section
variable {k : Nat} (hk : KeyBlock k) (s : State)
include hk

/-- A register outside the KEY block is another one. -/
theorem KeyBlock.ne {j : Nat} (hj : ¬KeyBlock j) : k ≠ j := fun e => hj (e ▸ hk)

theorem State.rd_ledgerStore_key (r : List Word) : (s.ledgerStore r).1.rd k = s.rd k := by
  unfold State.ledgerStore
  dsimp only
  split <;> exact State.rd_setFld_ne _ _ _ (hk.ne (by decide))

theorem State.rd_ledgerPut_key (code src : Nat) (p0 p1 p2 : Word) : (s.ledgerPut code src p0 p1 p2).1.rd k = s.rd k := by
  have ht : ((s.trail code src p0 p1 p2).wr R.LOG_LNEXT (s.rd R.LOG_LNEXT + 1)).rd k = s.rd k :=
    (State.rd_wr_ne _ _ (hk.ne (by decide))).trans (State.rd_wr_ne _ _ (hk.ne (by decide)))
  unfold State.ledgerPut
  dsimp only
  split
  · split
    · exact (State.rd_setFld_ne _ _ _ (hk.ne (by decide))).trans ht
    · exact ht
  · exact (State.rd_ledgerStore_key hk _ _).trans ht

theorem State.rd_quietOver_key (c : Nat) : (s.quietOver c).rd k = s.rd k :=
  (State.rd_of_regs (s.quietOver_regs c) k).trans (State.rd_setFld_ne _ _ _ (hk.ne (by decide)))

theorem State.rd_quietLatch_key (c : Nat) : (s.quietLatch c).rd k = s.rd k := by
  have hc : k ≠ R.SAFE_CAUSE := hk.ne (by decide)
  have hs : k ≠ R.SAFE_STATE := hk.ne (by decide)
  unfold State.quietLatch
  refine (State.rd_passSend ..).trans ((State.rd_setFld_ne _ _ _ hs).trans ((State.rd_setFld_ne _ _ _ hs).trans ?_))
  split
  · exact State.rd_setFld_ne _ _ _ hc
  · exact (State.rd_setFld_ne _ _ _ hc).trans (State.rd_setFld_ne _ _ _ hc)

theorem State.rd_quietReport_key (c : Nat) : (s.quietReport c).1.rd k = s.rd k := by
  unfold State.quietReport
  dsimp only
  rw [State.evtF_rd]
  split
  · rw [State.rd_quietOver_key hk, State.rd_ledgerPut_key hk]
  · exact State.rd_ledgerPut_key hk ..

theorem State.rd_cvnEnd_key (c : Caravan) (status : Nat) (expired : Bool) : (s.cvnEnd c status expired).rd k = s.rd k := by
  have ha : (c.posts.foldl (fun s p => s.cvnAnswer c status expired p) s).rd k = s.rd k :=
    State.foldl_kept (State.rd · k) (fun s p => s.cvnAnswer c status expired p) (fun u p => State.rd_cvnAnswer u c status expired p k) c.posts s
  unfold State.cvnEnd State.cvnSync
  dsimp only
  rw [State.rd_setFld_ne _ _ _ (hk.ne (by decide)), State.rd_setFld_ne _ _ _ (hk.ne (by decide)), State.rd_setFld_ne _ _ _ (hk.ne (by decide))]
  exact ha

/-- The registers of the image sessions lie above the KEY block, whatever the session's number. -/
theorem State.rd_imgEnd_key (i : Nat) (x : ImgSess) (status : Nat) : (s.imgEnd i x status).rd k = s.rd k :=
  (State.rd_wr_ne _ _ (hk.ne (by simp only [KeyBlock, R.IMG_SESS]; omega))).trans (State.rd_passSend ..)

theorem State.rd_quietEnds_key : s.quietEnds.rd k = s.rd k := by
  have hc : (s.cvn.open_.foldl (fun s c => s.cvnEnd c stQUIET false) s).rd k = s.rd k :=
    State.foldl_kept (State.rd · k) (fun s c => s.cvnEnd c stQUIET false) (fun u c => State.rd_cvnEnd_key hk u c stQUIET false) _ s
  unfold State.quietEnds
  refine Eq.trans (State.foldl_kept (State.rd · k) _ (fun u e => ?_) _ _) hc
  exact State.rd_imgEnd_key hk u e.1 e.2 stQUIET

theorem State.rd_quietLedger_key : s.quietLedger.rd k = s.rd k := by
  unfold State.quietLedger
  split
  · rfl
  · rw [State.rd_quietEnds_key hk, State.rd_quietReport_key hk, State.rd_quietLatch_key hk]

theorem State.rd_ledger_key (code src : Nat) (p0 p1 p2 : Word) : (s.ledger code src p0 p1 p2).rd k = s.rd k := by
  have hp := s.rd_ledgerPut_key hk code src p0 p1 p2
  unfold State.ledger
  dsimp only
  split
  · rw [State.rd_quietLedger_key hk, hp]
  · split
    · exact hp
    · rw [State.rd_quietOver_key hk, hp]

end

/-- A Ledger record leaves the keys and what the vault keeps of them. -/
theorem State.ledger_keys (s : State) (code src : Nat) (p0 p1 p2 : Word) : (s.ledger code src p0 p1 p2).key = s.key ∧
    (s.ledger code src p0 p1 p2).vault = s.vault := by
  have h := State.ledger_within s code src p0 p1 p2
    (Within.refl [.regs, .pass, .host, .safe, .log, .cvn, .cvnIds, .air, .qmg, .rf, .link] s) rfl
  exact ⟨h.only .key (by decide), h.only .vault (by decide)⟩

/-! ### The list of slots (R172 to R176) -/

section
variable (s : State)

@[simp] theorem State.setSlots_slots (l : List KeySlot) : (s.setSlots l).key.slots = l := rfl

theorem State.setSlots_key (l : List KeySlot) : (s.setSlots l).key = { s.key with slots := l } := rfl

theorem State.setSlots_ends (l : List KeySlot) : (s.setSlots l).ends = s.ends :=
  (State.setSlots_within s l (Within.refl [.regs, .key] s) rfl).only .ends (by decide)

theorem State.setSlots_regsBut (l : List KeySlot) : (s.setSlots l).regsBut s [R.KEY_CACHE_USE, R.KEY_STATUS] :=
  State.regsBut_trans (t := State.setFld (State.setFld _ R.KEY_CACHE_USE _ _) R.KEY_CACHE_USE _ _)
    (State.regsBut_trans (State.setFld_regsBut _ _ _ (by simp)) (State.setFld_regsBut _ _ _ (by simp))) (State.setFld_regsBut _ _ _ (by simp))

end

end Sys2Proof.Machine
end

section
/-! O41: keys that are erased (R188, R189, R197 to R201). The scrub invalidates a key whose slot fails its check; KEY_SLOT_ERASE and a tamper input
that is not log-only leave no key loaded; a tamper input is latched first, and the report that follows it leaves the latch. -/

set_option Elab.async false

namespace Sys2Proof.Machine

/-! ### The arms of `exec` -/

section
variable (s : State)

theorem exec_keyScrub_arm (before after : List (Fin 8192 × Nat)) : exec (.keyScrub before after) s = execKeyScrub before after s := rfl
theorem exec_keySlotErase_arm (p : Part) (data : Word) : exec (.keySlotErase p data) s = execKeySlotErase p data s := rfl
theorem exec_tamperInput_arm (i : Fin 4) (high : Bool) (n : Nat) : exec (.tamperInput i high n) s = execTamperInput i high n s := rfl
theorem exec_tamperLatchClear_arm (p : Part) (data : Word) : exec (.tamperLatchClear p data) s = execTamperLatchClear p data s := rfl

end

/-! ### The scrub (R188, R189) -/

section
variable {s : State} {x : KeySlot}

theorem State.slotScrub_good (h : x.loaded = true → ∀ a ∈ x.attrs, x.good a = true) : s.slotScrub x = s := by
  unfold State.slotScrub
  cases hl : x.loaded
  · rfl
  · have hn : x.attrs.find? (fun a => !x.good a) = none := List.find?_eq_none.mpr (fun a ha => by simp [h hl a ha])
    simp only [hn, Bool.not_true, Bool.false_eq_true, if_false]

theorem exec_keyScrub_bad {a : Nat} (hs : s.key.slots = [x]) (hl : x.loaded = true) (ha : x.attrs.find? (fun a => !x.good a) = some a) :
    exec (.keyScrub [] []) s = .next (s.slotFail x (x.number a)) := by
  simp only [exec_keyScrub_arm, execKeyScrub, State.keyScrub, List.foldl_nil, hs, List.foldl_cons, State.slotScrub, hl, ha, Bool.not_true,
    Bool.false_eq_true, if_false]

theorem exec_keyScrub_good (h : ∀ y ∈ s.key.slots, y.loaded = true → ∀ a ∈ y.attrs, y.good a = true) : exec (.keyScrub [] []) s = .next s :=
  congrArg _ (List.foldlRecOn (motive := (· = s)) s.key.slots State.slotScrub rfl
    (fun u hu y hy => by rw [hu, State.slotScrub_good (h y hy)]))

end

/-! ### KEY_SLOT_ERASE (R201) -/

section
variable {s : State} {y : KeySlot}

/-- What is still loaded after an erasure was so before, in another role. -/
theorem State.keyErase_loaded {r : KeyRole} (hy : y ∈ (s.keyErase r).key.slots) (hl : y.loaded = true) : y ∈ s.key.slots ∧ y.role ≠ r := by
  unfold State.keyErase at hy
  rw [State.setSlots_slots] at hy
  split at hy
  · obtain ⟨z, hz, rfl⟩ := List.mem_map.mp hy
    by_cases hr : z.role = r
    · rw [if_pos hr] at hl
      cases hl
    · rw [if_neg hr]
      exact ⟨hz, hr⟩
  · simpa using hy

theorem State.keysErase_loaded (l : List KeySlot) (u : State) (hy : y ∈ (l.foldl (fun s x => s.keyErase x.role) u).key.slots)
    (hl : y.loaded = true) : y ∈ u.key.slots ∧ ∀ x ∈ l, y.role ≠ x.role := by
  induction l generalizing u with
  | nil => exact ⟨hy, by simp⟩
  | cons x l ih =>
    obtain ⟨hm, hne⟩ := ih (u.keyErase x.role) hy
    obtain ⟨hu, hx⟩ := State.keyErase_loaded hm hl
    exact ⟨hu, by simpa using ⟨hx, hne⟩⟩

theorem State.keyErase_store (s : State) (r : KeyRole) : (s.keyErase r).key.store = s.key.store := by
  rw [State.keyErase, State.setSlots_key]

theorem State.keysErase_store (l : List KeySlot) (u : State) : (l.foldl (fun s x => s.keyErase x.role) u).key.store = u.key.store := by
  induction l generalizing u with
  | nil => rfl
  | cons x l ih => rw [List.foldl_cons, ih, State.keyErase_store]

theorem State.keysErase_regsBut (l : List KeySlot) (u : State) :
    (l.foldl (fun s x => s.keyErase x.role) u).regsBut u [R.KEY_CACHE_USE, R.KEY_STATUS] :=
  State.foldl_regsBut (fun v _ => v.setSlots_regsBut _) l u

end

section
variable {s : State} {data : Word} (h : s.unlocked 0 = true)
include h

theorem exec_keySlotErase_idle (hg : bitAt data 14 = false) :
    exec (.keySlotErase 0 data) s = .next ((s.armLock 0).wr R.KEY_SLOT_ERASE (data &&& 0x7FFF)) := by
  rw [exec_keySlotErase_arm, execKeySlotErase, State.slotErase]
  simp only [Fin.val_zero, State.guarded_unlocked _ _ _ _ _ h, hg, ne_eq, not_true, if_false, Bool.not_false, if_true]

theorem exec_keySlotErase_all (hg : bitAt data 14 = true) (ha : bitAt data 13 = true) : exec (.keySlotErase 0 data) s =
    .next ((s.key.slots.filter (·.loaded)).foldl (fun s x => s.keyErase x.role) ((s.armLock 0).wr R.KEY_SLOT_ERASE (data &&& 0x7FFF))) := by
  rw [exec_keySlotErase_arm, execKeySlotErase, State.slotErase]
  simp only [Fin.val_zero, State.guarded_unlocked _ _ _ _ _ h, hg, ha, ne_eq, not_true, if_false, Bool.not_true, Bool.false_eq_true,
    Bool.true_or, Bool.and_true]
  rfl

theorem Does.keySlotErase_idle (hg : bitAt data 14 = false) : Does (.keySlotErase 0 data) s (fun t =>
    t.key = s.key ∧ t.rd R.KEY_SLOT_ERASE = data &&& 0x7FFF ∧ t.unlocked 0 = false) :=
  Does.of_next (exec_keySlotErase_idle h hg) ⟨rfl, State.rd_wr .., State.armLock_locked (State.rd_wr_ne _ _ (by decide))⟩

theorem Does.keySlotErase_all (hg : bitAt data 14 = true) (ha : bitAt data 13 = true) : Does (.keySlotErase 0 data) s (fun t =>
    (∀ y ∈ t.key.slots, y.loaded = false) ∧ t.key.store = s.key.store ∧ t.unlocked 0 = false) := by
  refine Does.of_next (exec_keySlotErase_all h hg ha) ⟨fun y hy => ?_, State.keysErase_store .., State.armLock_locked (s := s) ?_⟩
  · by_contra hl
    obtain ⟨hm, hn⟩ := State.keysErase_loaded _ _ hy (by simpa using hl)
    exact hn y (List.mem_filter.mpr ⟨hm, by simpa using hl⟩) rfl
  · exact (State.keysErase_regsBut _ _ _ (by decide)).trans (State.rd_wr_ne _ _ (by decide))

end

theorem exec_keySlotErase_armed {s : State} {p : Part} {data : Word} (h : s.unlocked p = false) :
    exec (.keySlotErase p data) s = .next (s.guardViolation p (w32 R.KEY_SLOT_ERASE) false data) :=
  congrArg _ (State.guarded_armed s p _ data _ h)

/-! ### Bits and fields of the tamper registers -/

theorem nbit_testBit (m i : Nat) : nbit m i = m.testBit i := by
  rw [nbit, Nat.testBit_eq_decide_div_mod_eq, beq_eq_decide]

/-- A bit that is set reads 1 in every field that holds it. -/
theorem nbit_setNbit (m : Nat) {i w : Nat} (h : i < w) : nbit (setNbit m i % 2 ^ w) i = true := by
  rw [nbit_testBit, Nat.testBit_mod_two_pow, setNbit, nbit_testBit]
  split
  · simp [h, ‹m.testBit i = true›]
  · rw [Nat.add_comm, Nat.testBit_two_pow_add_eq]
    simp [h, ‹¬m.testBit i = true›]

theorem ne_zero_of_nbit {m i : Nat} (h : nbit m i = true) : m ≠ 0 := by
  rintro rfl
  simp [nbit] at h

section
variable (s : State)

theorem State.tamperSync_regsBut : s.tamperSync.regsBut s [R.KEY_STATUS] := s.setFld_regsBut _ _ (by simp)

theorem State.tamperSync_latch (f : Fld) : s.tamperSync.fld R.KEY_TAMPER_STAT f = s.fld R.KEY_TAMPER_STAT f :=
  State.fld_of_regsBut s.tamperSync_regsBut (by decide) f

/-- `TAMPERED` follows `LATCH`. -/
theorem State.tamperSync_tampered :
    s.tamperSync.flag R.KEY_STATUS F.KEY_STATUS_TAMPERED = (s.fld R.KEY_TAMPER_STAT F.KEY_TAMPER_STAT_LATCH != 0) := by
  rw [State.flag, State.tamperSync, State.fld_setFld _ _ _ _ (by decide)]
  by_cases h : s.fld R.KEY_TAMPER_STAT F.KEY_TAMPER_STAT_LATCH = 0 <;> simp [h]

/-! ### TAMPER_INPUT (R197, R198) -/

/-- A tamper input is latched. -/
def State.tamperLatched (i : Nat) : State :=
  (s.setFld R.KEY_TAMPER_STAT F.KEY_TAMPER_STAT_LATCH (setNbit (s.fld R.KEY_TAMPER_STAT F.KEY_TAMPER_STAT_LATCH) i)).tamperSync

/-- The vault's secret is zeroized. -/
def State.zeroized : State :=
  (s.setFld R.KEY_TAMPER_STAT F.KEY_TAMPER_STAT_ZEROIZED 1) |> fun t => { t with vault := { t.vault with secret := 0 } }

/-- The next boot reports a tamper input. -/
def State.tamperDeferred : State := { s with vault := { s.vault with tamperAtBoot := 1 } }

variable {s} {i : Fin 4}

theorem State.tamperLatched_latch : nbit ((s.tamperLatched i).fld R.KEY_TAMPER_STAT F.KEY_TAMPER_STAT_LATCH) i = true := by
  rw [State.tamperLatched, State.tamperSync_latch, State.fld_setFld _ _ _ _ (by decide)]
  exact nbit_setNbit _ i.isLt

theorem State.tamperLatched_tampered : (s.tamperLatched i).flag R.KEY_STATUS F.KEY_STATUS_TAMPERED = true := by
  have h := ne_zero_of_nbit (s.tamperLatched_latch (i := i))
  rw [State.tamperLatched, State.tamperSync_latch] at h
  rw [State.tamperLatched, State.tamperSync_tampered]
  simpa using h

theorem State.tamperLatched_regsBut : (s.tamperLatched i).regsBut s [R.KEY_TAMPER_STAT, R.KEY_STATUS] :=
  State.regsBut_trans (s.setFld_regsBut _ _ (by simp)) (State.regsBut_mono (State.tamperSync_regsBut _) (by simp))

theorem State.zeroized_latch : s.zeroized.fld R.KEY_TAMPER_STAT F.KEY_TAMPER_STAT_LATCH = s.fld R.KEY_TAMPER_STAT F.KEY_TAMPER_STAT_LATCH :=
  s.fld_setFld_other _ _ _ _ (by decide) (by decide)

theorem State.zeroized_zeroized : s.zeroized.flag R.KEY_TAMPER_STAT F.KEY_TAMPER_STAT_ZEROIZED = true :=
  s.flag_err R.KEY_TAMPER_STAT (f := F.KEY_TAMPER_STAT_ZEROIZED) (by decide) (by decide)

theorem State.zeroized_regsBut : s.zeroized.regsBut s [R.KEY_TAMPER_STAT, R.KEY_STATUS] := s.setFld_regsBut _ _ (by simp)

variable {high : Bool} {n : Nat}

theorem exec_tamperInput_unqualified (h : tamperQualifies (s.rd R.KEY_TAMPER_CFG) i high n = false) :
    exec (.tamperInput i high n) s = .next s := by
  simp only [exec_tamperInput_arm, execTamperInput, h, Bool.not_false, if_true]

/-- Each of the three conditions of a tamper input is needed. -/
theorem tamperQualifies_false {cfg : Word} (h : bitAt cfg (8 * i) = false ∨ bitAt cfg (8 * i + 1) ≠ high ∨ n < bitsAt cfg (8 * i + 4) 4) :
    tamperQualifies cfg i high n = false := by
  unfold tamperQualifies
  rcases h with h | h | h
  · rw [h, Bool.false_and, Bool.false_and]
  · rw [beq_eq_false_iff_ne.mpr h.symm, Bool.and_false, Bool.false_and]
  · rw [decide_eq_false (Nat.not_le.mpr h), Bool.and_false]

section
variable (hq : tamperQualifies (s.rd R.KEY_TAMPER_CFG) i high n = true)
include hq

/-- While the F-die is held, a tamper input that erases. -/
theorem exec_tamperInput_held (he : bitAt (s.rd R.KEY_TAMPER_CFG) (8 * i + 2) = false) (hf : s.pwr.fHeld = true) :
    exec (.tamperInput i high n) s = .next (s.tamperLatched i).zeroized.tamperDeferred := by
  simp only [exec_tamperInput_arm, execTamperInput, hq, he, hf, Bool.not_true, Bool.not_false, Bool.false_eq_true, if_false, if_true]
  rfl

/-- While the F-die is held, a tamper input that is only logged. -/
theorem exec_tamperInput_held_log (he : bitAt (s.rd R.KEY_TAMPER_CFG) (8 * i + 2) = true) (hf : s.pwr.fHeld = true) :
    exec (.tamperInput i high n) s = .next (s.tamperLatched i).tamperDeferred := by
  simp only [exec_tamperInput_arm, execTamperInput, hq, he, hf, Bool.not_true, Bool.false_eq_true, if_false, if_true]
  rfl

theorem exec_tamperInput_erase (he : bitAt (s.rd R.KEY_TAMPER_CFG) (8 * i + 2) = false) (hf : s.pwr.fHeld = false) :
    exec (.tamperInput i high n) s = .next (s.tamperLatched i).zeroized.keyWipe.tamperReport := by
  simp only [exec_tamperInput_arm, execTamperInput, hq, he, hf, Bool.not_true, Bool.not_false, Bool.false_eq_true, if_false, if_true]
  rfl

theorem Does.tamperInput_held (he : bitAt (s.rd R.KEY_TAMPER_CFG) (8 * i + 2) = false) (hf : s.pwr.fHeld = true) :
    Does (.tamperInput i high n) s (fun t => nbit (t.fld R.KEY_TAMPER_STAT F.KEY_TAMPER_STAT_LATCH) i = true ∧
      t.flag R.KEY_STATUS F.KEY_STATUS_TAMPERED = true ∧ t.flag R.KEY_TAMPER_STAT F.KEY_TAMPER_STAT_ZEROIZED = true ∧
      t.vault = { s.vault with secret := 0, tamperAtBoot := 1 } ∧ t.regsBut s [R.KEY_TAMPER_STAT, R.KEY_STATUS]) := by
  refine Does.of_next (exec_tamperInput_held hq he hf) ⟨?_, ?_, State.zeroized_zeroized, rfl,
    State.regsBut_trans State.tamperLatched_regsBut State.zeroized_regsBut⟩
  · exact (congrArg (nbit · i) State.zeroized_latch).trans State.tamperLatched_latch
  · exact (congrArg (· != 0) (State.fld_setFld_ne _ _ _ _ (by decide))).trans State.tamperLatched_tampered

theorem Does.tamperInput_held_log (he : bitAt (s.rd R.KEY_TAMPER_CFG) (8 * i + 2) = true) (hf : s.pwr.fHeld = true) :
    Does (.tamperInput i high n) s (fun t => nbit (t.fld R.KEY_TAMPER_STAT F.KEY_TAMPER_STAT_LATCH) i = true ∧
      t.flag R.KEY_STATUS F.KEY_STATUS_TAMPERED = true ∧ t.key = s.key ∧ t.vault = { s.vault with tamperAtBoot := 1 } ∧
      t.regsBut s [R.KEY_TAMPER_STAT, R.KEY_STATUS]) :=
  Does.of_next (exec_tamperInput_held_log hq he hf)
    ⟨State.tamperLatched_latch, State.tamperLatched_tampered, rfl, rfl, State.tamperLatched_regsBut⟩

end

end

/-! ### What a wipe leaves, and the report behind it (R198) -/

section
variable (s : State)

theorem State.keyWipe_slots : ∀ y ∈ s.keyWipe.key.slots, y.loaded = false ∧ y.key = 0 := by
  intro y hy
  obtain ⟨x, -, hx⟩ := List.mem_filterMap.mp hy
  split at hx
  · cases hx
  · cases hx
  · cases hx
    exact ⟨rfl, rfl⟩

theorem State.keyWipe_vault : s.keyWipe.vault = { s.vault with keks := [] } := rfl

theorem State.keyWipe_regsBut : s.keyWipe.regsBut s [R.KEY_CACHE_USE, R.KEY_STATUS] := State.setSlots_regsBut _ _

/-- An event of free parameters is the last message sent. -/
theorem State.evtFree_sent {src : Nat} (mask : Nat) (h : src < 128) :
    ((s.evtFree src mask).lastSent .f).map (fun e => (e.typ, (wordAt e.payload 0).toNat)) = some (6, src) := by
  have hs : (wordAt (evtWords s.cityNs src mask (w32 s.free!.1) (w32 s.free!.2.free!.1) (w32 s.free!.2.free!.2.free!.1)) 0).toNat = src := by
    simp only [evtWords, wordAt, List.getD_cons_zero, Nat.mod_eq_of_lt h, BitVec.toNat_ofNat]
    omega
  have he := State.passSend_lastSent s.free!.2.free!.2.free!.2 .f 6 0 false 32
    (evtWords s.cityNs src mask (w32 s.free!.1) (w32 s.free!.2.free!.1) (w32 s.free!.2.free!.2.free!.1))
  exact (congrArg _ he).trans (by simp only [Option.map_some, hs])

theorem State.evtFree_only (src mask : Nat) : (s.evtFree src mask).regs = s.regs ∧ (s.evtFree src mask).key = s.key ∧
    (s.evtFree src mask).vault = s.vault := by
  have h := State.evtFree_within s src mask (Within.refl [.free, .pass] s) rfl
  exact ⟨h.only .regs (by decide), h.only .key (by decide), h.only .vault (by decide)⟩

theorem State.tamperReport_keys : s.tamperReport.key = s.key ∧ s.tamperReport.vault = s.vault := by
  obtain ⟨-, hk, hv⟩ := State.evtFree_only (s.ledger 0x0042 0 (w32 (s.fld R.KEY_TAMPER_STAT F.KEY_TAMPER_STAT_LATCH))
    (w32 (s.fld R.KEY_STATUS F.KEY_STATUS_VAULT_CAUSE)) 0) 12 0xF
  exact ⟨hk.trans (s.ledger_keys ..).1, hv.trans (s.ledger_keys ..).2⟩

theorem State.tamperReport_latch :
    s.tamperReport.fld R.KEY_TAMPER_STAT F.KEY_TAMPER_STAT_LATCH = s.fld R.KEY_TAMPER_STAT F.KEY_TAMPER_STAT_LATCH :=
  congrArg (fget _) ((State.rd_of_regs (State.evtFree_only _ 12 0xF).1 _).trans (State.rd_ledger_key (by decide) ..))

variable {s} {i : Fin 4} {high : Bool} {n : Nat}

theorem Does.tamperInput_erase (hq : tamperQualifies (s.rd R.KEY_TAMPER_CFG) i high n = true)
    (he : bitAt (s.rd R.KEY_TAMPER_CFG) (8 * i + 2) = false) (hf : s.pwr.fHeld = false) :
    Does (.tamperInput i high n) s (fun t => nbit (t.fld R.KEY_TAMPER_STAT F.KEY_TAMPER_STAT_LATCH) i = true ∧ t.vault.keks = [] ∧
      t.vault.secret = 0 ∧ (∀ y ∈ t.key.slots, y.loaded = false ∧ y.key = 0) ∧
      (t.lastSent .f).map (fun e => (e.typ, (wordAt e.payload 0).toNat)) = some (6, 12)) := by
  obtain ⟨hk, hv⟩ := (s.tamperLatched i).zeroized.keyWipe.tamperReport_keys
  refine Does.of_next (exec_tamperInput_erase hq he hf) ⟨?_, ?_, ?_, ?_, State.evtFree_sent _ 0xF (by decide)⟩
  · rw [State.tamperReport_latch, State.fld_of_regsBut (State.keyWipe_regsBut _) (by decide), State.zeroized_latch]
    exact State.tamperLatched_latch
  · rw [hv, State.keyWipe_vault]
  · rw [hv, State.keyWipe_vault]
    rfl
  · rw [hk]
    exact State.keyWipe_slots _

end

/-! ### TAMPER_LATCH_CLEAR (R199) -/

section
variable {s : State} {data : Word}

/-- The last latched input is cleared where the vault was zeroized. -/
theorem exec_tamperLatchClear_last (h : s.unlocked 0 = true) (hl : s.fld R.KEY_TAMPER_STAT F.KEY_TAMPER_STAT_LATCH ≠ 0)
    (hc : clearBits (s.fld R.KEY_TAMPER_STAT F.KEY_TAMPER_STAT_LATCH) (data.toNat % 16) = 0)
    (hz : s.flag R.KEY_TAMPER_STAT F.KEY_TAMPER_STAT_ZEROIZED = true) : exec (.tamperLatchClear 0 data) s =
      .next ((((((s.armLock 0).setFld R.KEY_TAMPER_STAT F.KEY_TAMPER_STAT_LATCH 0).tamperSync).setFld R.KEY_TAMPER_STAT
        F.KEY_TAMPER_STAT_ZEROIZED 0).setFld R.KEY_STATUS F.KEY_STATUS_VAULT_CAUSE 2).newSecret) := by
  have ha {f : Fld} : (s.armLock 0).fld R.KEY_TAMPER_STAT f = s.fld R.KEY_TAMPER_STAT f :=
    State.fld_of_regsBut (s.armLock_regsBut 0) (by decide) f
  have hz' : (s.armLock 0).flag R.KEY_TAMPER_STAT F.KEY_TAMPER_STAT_ZEROIZED = true := (congrArg (· != 0) ha).trans hz
  rw [exec_tamperLatchClear_arm, execTamperLatchClear, State.tamperClear]
  simp only [Fin.val_zero, State.guarded_unlocked _ _ _ _ _ h, ha, hc, hl, hz', ne_eq, not_true, not_false_eq_true, if_false, if_true,
    decide_true, Bool.and_true]

theorem State.newSecret_secret : s.newSecret.vault.secret < 2 ^ 256 := Nat.mod_lt _ (Nat.two_pow_pos 256)

theorem Does.tamperLatchClear_last (h : s.unlocked 0 = true) (hl : s.fld R.KEY_TAMPER_STAT F.KEY_TAMPER_STAT_LATCH ≠ 0)
    (hc : clearBits (s.fld R.KEY_TAMPER_STAT F.KEY_TAMPER_STAT_LATCH) (data.toNat % 16) = 0)
    (hz : s.flag R.KEY_TAMPER_STAT F.KEY_TAMPER_STAT_ZEROIZED = true) : Does (.tamperLatchClear 0 data) s (fun t =>
      t.fld R.KEY_TAMPER_STAT F.KEY_TAMPER_STAT_LATCH = 0 ∧ t.flag R.KEY_STATUS F.KEY_STATUS_TAMPERED = false ∧
      t.flag R.KEY_TAMPER_STAT F.KEY_TAMPER_STAT_ZEROIZED = false ∧ t.fld R.KEY_STATUS F.KEY_STATUS_VAULT_CAUSE = 2 ∧
      t.vault = { s.vault with secret := t.vault.secret, made := true } ∧ t.vault.secret < 2 ^ 256 ∧ t.free = s.free + 1) := by
  have h0 : ((s.armLock 0).setFld R.KEY_TAMPER_STAT F.KEY_TAMPER_STAT_LATCH 0).fld R.KEY_TAMPER_STAT F.KEY_TAMPER_STAT_LATCH = 0 :=
    State.fld_setFld _ _ _ 0 (by decide)
  refine Does.of_next (exec_tamperLatchClear_last h hl hc hz) ⟨?_, ?_, ?_, State.fld_setFld _ _ _ 2 (by decide), rfl, State.newSecret_secret, rfl⟩
  · refine (State.fld_setFld_ne _ _ _ _ (by decide)).trans ((State.fld_setFld_other _ _ _ _ _ (by decide) (by decide)).trans ?_)
    rw [State.tamperSync_latch, h0]
  · refine (congrArg (· != 0) ((State.fld_setFld_other _ _ _ _ _ (by decide) (by decide)).trans (State.fld_setFld_ne _ _ _ _ (by decide)))).trans ?_
    exact (State.tamperSync_tampered _).trans (by rw [h0]; rfl)
  · exact congrArg (· != 0) ((State.fld_setFld_ne _ _ _ _ (by decide)).trans (State.fld_setFld _ _ _ 0 (by decide)))

theorem exec_tamperLatchClear_armed {p : Part} (h : s.unlocked p = false) :
    exec (.tamperLatchClear p data) s = .next (s.guardViolation p (w32 R.KEY_TAMPER_STAT) false data) :=
  congrArg _ (State.guarded_armed s p _ data _ h)

end

/-! ### The obligation -/

/-- Settles O41: the scrub by the slots' checks, KEY_SLOT_ERASE role by role, a tamper input through its latch, its erasure and its report. -/
theorem keysAreErased : Obligations.KeysAreErased :=
  fun _ _ _ _ _ _ _ => ⟨fun _ => exec_keyScrub_bad, exec_keyScrub_good, Does.keySlotErase_all, Does.keySlotErase_idle,
    fun h => exec_tamperInput_unqualified (tamperQualifies_false h), Does.tamperInput_held, Does.tamperInput_held_log, Does.tamperInput_erase,
    Does.tamperLatchClear_last, fun h => ⟨exec_keySlotErase_armed h, exec_tamperLatchClear_armed h⟩⟩

end Sys2Proof.Machine
end

section
/-! O42: the store and the KEKs (R181, R200). Each key command is decided by its checks in their order; what a command reads of the state that has
taken it is what it was. -/

set_option Elab.async false

namespace Sys2Proof.Machine

/-! ### The arms of `exec` -/

section
variable (s : State) (c : CmdDesc) (dma : Dma)

theorem exec_keyStore_arm : exec (.keyStore c dma) s = execKeyStore c dma s := rfl
theorem exec_keyDelete_arm : exec (.keyDelete c) s = execKeyDelete c s := rfl
theorem exec_kekSet_arm : exec (.kekSet c dma) s = execKekSet c dma s := rfl
theorem exec_kekRewrapDone_arm (p : Part) : exec (.kekRewrapDone p) s = execKekRewrapDone p s := rfl

/-! ### A command that is taken -/

@[simp] theorem State.cmdTake_key : (s.cmdTake c).key = s.key := rfl
@[simp] theorem State.cmdTake_fld (k : Nat) (f : Fld) : (s.cmdTake c).fld k f = s.fld k f := rfl
@[simp] theorem State.cmdTake_flag (k : Nat) (f : Fld) : (s.cmdTake c).flag k f = s.flag k f := rfl

theorem State.memBytes_of_host {t : State} (h : t.host = s.host) (p a n : Nat) : t.memBytes p a n = s.memBytes p a n := by
  induction n generalizing a with
  | zero => rfl
  | succ n ih => rw [State.memBytes, State.memBytes, ih, State.memByte, State.memByte, h]

@[simp] theorem State.cmdTake_memBytes (p a n : Nat) : (s.cmdTake c).memBytes p a n = s.memBytes p a n :=
  State.memBytes_of_host (t := s.cmdTake c) s rfl p a n

end

section
variable {s : State} {c : CmdDesc} {dma : Dma}

@[simp] theorem State.cmdOk_key (s : State) (c : CmdDesc) (ws : List Word) : (s.cmdOk c ws).key = s.key := rfl
@[simp] theorem State.cmdOk_vault (s : State) (c : CmdDesc) (ws : List Word) : (s.cmdOk c ws).vault = s.vault := rfl

/-! ### KEY_STORE (R178, R179) -/

section
variable (h : s.cmdTurn c = true)
include h

theorem exec_keyStore_unaligned (hu : unaligned c.w4 c.w5 = true) : exec (.keyStore c dma) s = .next ((s.cmdTake c).cmdBad c 8) := by
  simp only [exec_keyStore_arm, execKeyStore, h, hu, Bool.not_true, Bool.false_eq_true, if_false, if_true]

theorem exec_keyStore_dma (hu : unaligned c.w4 c.w5 = false) (hd : dma ≠ .ok) :
    exec (.keyStore c dma) s = .next ((s.cmdTake c).cmdBad c 20) := by
  simp only [exec_keyStore_arm, execKeyStore, h, hu, hd, Bool.not_true, Bool.false_eq_true, if_false, if_true, ne_eq, not_false_eq_true]

theorem exec_keyStore (hu : unaligned c.w4 c.w5 = false) (hd : dma = .ok) :
    let b := s.memBytes c.part.val (addr64 c.w4 c.w5) 64
    let u := (s.cmdTake c).kekReady (blobPart b)
    exec (.keyStore c dma) s = .next (
      match u.blobOpen c.part.val b with
      | .error e => u.cmdDone c stKEY_BAD [] e 0
      | .ok o => if storeKindOk (kpos c) o.kind then (u.blobPut (kpos c) b).cmdOk c [w32 o.keyId] else u.cmdBad c 31) := by
  intro b u
  simp only [exec_keyStore_arm, execKeyStore, h, hu, hd, Bool.not_true, Bool.false_eq_true, if_false, ne_eq, not_true, State.cmdTake_memBytes]
  change Host.Outcome.next (match u.blobOpen c.part.val b with | .error e => _ | .ok o => _) = _
  cases u.blobOpen c.part.val b with
  | error e => rfl
  | ok o =>
    dsimp only
    cases storeKindOk (kpos c) o.kind <;> rfl

/-! ### KEY_DELETE (R200) -/

theorem exec_keyDelete_bad (hn : 1048576 < kpos c + bitsAt c.w3 0 17 ∨ 65536 < bitsAt c.w3 0 17) :
    exec (.keyDelete c) s = .next ((s.cmdTake c).cmdBad c 31) := by
  have hn' : (decide (1048576 < kpos c + bitsAt c.w3 0 17) || decide (65536 < bitsAt c.w3 0 17)) = true := by simpa using hn
  simp only [exec_keyDelete_arm, execKeyDelete, h, hn', Bool.not_true, Bool.false_eq_true, if_false, if_true]

end

/-- A store position that KEY_DELETE names. -/
def delHit (c : CmdDesc) (j : Nat) : Bool := decide (kpos c ≤ j) && decide (j < kpos c + bitsAt c.w3 0 17)

/-- Positions of a range leave the store, and the unpinned keys loaded from them leave the cache. -/
def State.storeDrop (s : State) (hit : Nat → Bool) : State :=
  State.setSlots { s with key := { s.key with store := s.key.store.filter (fun e => !hit e.1) } }
    (s.key.slots.filter (fun x => x.role.pinned || x.pos = 0 || !hit (x.pos - 1)))

theorem State.storeDrop_store (s : State) (hit : Nat → Bool) : (s.storeDrop hit).key.store = s.key.store.filter (fun e => !hit e.1) := by
  rw [State.storeDrop, State.setSlots_key]

theorem State.storeDrop_ends (s : State) (hit : Nat → Bool) : (s.storeDrop hit).ends = s.ends := by
  rw [State.storeDrop, State.setSlots_ends]

theorem exec_keyDelete (h : s.cmdTurn c = true) (ha : kpos c + bitsAt c.w3 0 17 ≤ 1048576) (hn : bitsAt c.w3 0 17 ≤ 65536)
    (hb : (s.key.store.filter fun e => delHit c e.1).all (fun e => blobPart e.2 = c.part.val) = true) :
    exec (.keyDelete c) s = .next (((s.cmdTake c).storeDrop (delHit c)).cmdOk c [w32 (s.key.store.filter fun e => delHit c e.1).length]) := by
  have hr : (decide (1048576 < kpos c + bitsAt c.w3 0 17) || decide (65536 < bitsAt c.w3 0 17)) = false := by
    simp only [Bool.or_eq_false_iff, decide_eq_false_iff_not]
    omega
  have hp : ((s.key.store.filter fun e => delHit c e.1).any fun e => blobPart e.2 ≠ c.part.val) = false := by
    rw [List.any_eq_not_all_not, Bool.not_eq_false']
    simpa using hb
  rw [exec_keyDelete_arm, execKeyDelete]
  refine congrArg _ ((if_neg (by rw [h]; decide)).trans ((if_neg (by rw [hr]; decide)).trans ((if_neg ?_).trans rfl)))
  exact Bool.eq_false_iff.mp hp

theorem Does.keyDelete (h : s.leads c = true) (ha : kpos c + bitsAt c.w3 0 17 ≤ 1048576) (hn : bitsAt c.w3 0 17 ≤ 65536)
    (hb : (s.key.store.filter fun e => delHit c e.1).all (fun e => blobPart e.2 = c.part.val) = true) : Does (.keyDelete c) s (fun t =>
      (∀ e ∈ t.key.store, e.1 < kpos c ∨ kpos c + bitsAt c.w3 0 17 ≤ e.1) ∧
      (∀ e ∈ s.key.store, e.1 < kpos c ∨ kpos c + bitsAt c.w3 0 17 ≤ e.1 → e ∈ t.key.store) ∧
      t.completed c stOK [w32 (s.key.store.filter fun e => delHit c e.1).length] 0) := by
  have hit (j : Nat) : (!delHit c j) = true ↔ j < kpos c ∨ kpos c + bitsAt c.w3 0 17 ≤ j := by
    simp only [delHit, Bool.not_eq_true', Bool.and_eq_false_iff, decide_eq_false_iff_not]
    omega
  have hs (ws : List Word) (e : Nat × List Byte) : e ∈ (((s.cmdTake c).storeDrop (delHit c)).cmdOk c ws).key.store ↔
      e ∈ s.key.store ∧ (e.1 < kpos c ∨ kpos c + bitsAt c.w3 0 17 ≤ e.1) := by
    rw [State.cmdOk_key, State.storeDrop_store, State.cmdTake_key, List.mem_filter, hit]
  refine Does.of_next (exec_keyDelete (s.leads_turn c h) ha hn hb) ⟨fun e he => ((hs _ e).mp he).2, fun e he hr => (hs _ e).mpr ⟨he, hr⟩, ?_⟩
  exact State.cmdOk_completed _ c _ (State.clearFor_of_ends (s := s.cmdTake c) (State.storeDrop_ends _ _) (s.leads_clear c h))

/-! ### KEK_SET and the end of its rewrap (R181) -/

theorem exec_kekSet_unaligned (h : s.cmdTurn c = true) (hu : unaligned c.w4 c.w5 = true) :
    exec (.kekSet c dma) s = .next ((s.cmdTake c).cmdBad c 8) := by
  simp only [exec_kekSet_arm, execKekSet, h, hu, Bool.not_true, Bool.false_eq_true, if_false, if_true]

/-- A plaintext KEK_SET that its checks let through: it has its turn, an aligned buffer that can be read, no rewrap runs, no tamper input is latched
and the partition may still be provisioned. -/
structure KekTakes (s : State) (c : CmdDesc) (dma : Dma) : Prop where
  turn : s.cmdTurn c = true
  aligned : unaligned c.w4 c.w5 = false
  rewraps : s.key.rewraps = []
  untampered : s.flag R.KEY_STATUS F.KEY_STATUS_TAMPERED = false
  plain : bitAt c.w1 0 = false
  prov : nbit (s.fld R.KEY_KEKCTL F.KEY_KEKCTL_KEK_PROV) c.part = true
  dma : dma = .ok

theorem exec_kekSet_plain (h : KekTakes s c dma) : exec (.kekSet c dma) s = .next (
    match (s.cmdTake c).keyRoom (.kek c.part.val) with
    | none => s
    | some s1 => (s1.kekReady c.part.val).kekTake c (beNat (s.memBytes c.part.val (addr64 c.w4 c.w5) 32))) := by
  obtain ⟨ht, ha, hr, hu, hp, hv, hd⟩ := h
  simp only [exec_kekSet_arm, execKekSet, ht, ha, hr, hu, hp, hv, hd, State.cmdTake_key, State.cmdTake_fld, State.cmdTake_flag,
    State.cmdTake_memBytes, List.any_nil, Bool.not_true, Bool.not_false, Bool.true_and, Bool.false_eq_true, if_false, ne_eq, not_true] <;>
    rfl

theorem exec_kekSet_waits (h : KekTakes s c dma) (hr : (s.cmdTake c).keyRoom (.kek c.part.val) = none) : exec (.kekSet c dma) s = .next s := by
  rw [exec_kekSet_plain h, hr]

theorem exec_kekSet_room (s1 : State) (h : KekTakes s c dma) (hr : (s.cmdTake c).keyRoom (.kek c.part.val) = some s1) :
    exec (.kekSet c dma) s =
      .next ((s1.kekReady c.part.val).kekTake c (beNat (s.memBytes c.part.val (addr64 c.w4 c.w5) 32))) := by
  rw [exec_kekSet_plain h, hr]

/-- A rewrap leaves the list of those that run. -/
def State.rewrapDrop (s : State) (d : CmdDesc) : State := { s with key := { s.key with rewraps := s.key.rewraps.erase d } }

theorem exec_kekRewrapDone_plain {p : Part} {d : CmdDesc} (hd : s.key.rewraps.find? (fun x => x.part = p) = some d) (hp : bitAt d.w1 0 = false) :
    exec (.kekRewrapDone p) s = .next (((s.rewrapDrop d).setFld R.KEY_KEKCTL F.KEY_KEKCTL_KEK_PROV
      (clrNbit (s.fld R.KEY_KEKCTL F.KEY_KEKCTL_KEK_PROV) p)).cmdOk d []) := by
  simp only [exec_kekRewrapDone_arm, execKekRewrapDone, hd, hp, Bool.false_eq_true, if_false]
  rfl

theorem Does.kekRewrapDone {p : Part} {d : CmdDesc} (hd : s.key.rewraps.find? (fun x => x.part = p) = some d) (hp : bitAt d.w1 0 = false)
    (hc : s.clearFor d = true) : Does (.kekRewrapDone p) s (fun t =>
      t.key.rewraps = s.key.rewraps.erase d ∧ t.completed d stOK [] 0 ∧ t.regsBut s [R.KEY_KEKCTL] ∧
      t.fld R.KEY_KEKCTL F.KEY_KEKCTL_KEK_PROV = clrNbit (s.fld R.KEY_KEKCTL F.KEY_KEKCTL_KEK_PROV) p % 2 ^ F.KEY_KEKCTL_KEK_PROV.w) :=
  Does.of_next (exec_kekRewrapDone_plain hd hp) ⟨rfl, State.cmdOk_completed _ d _ (State.clearFor_of_ends (s := s) rfl hc),
    State.setFld_regsBut (s.rewrapDrop d) _ _ (by simp), State.fld_setFld _ _ _ _ (by decide)⟩

theorem exec_kekRewrapDone_none {p : Part} (h : s.key.rewraps = []) : exec (.kekRewrapDone p) s = .next s := by
  simp only [exec_kekRewrapDone_arm, execKekRewrapDone, h, List.find?_nil]

end

/-! ### The obligation -/

/-- Settles O42: each command by its checks in their order, and the end of a plaintext KEK_SET. -/
theorem keyStoreAndKeks : Obligations.KeyStoreAndKeks :=
  fun s c dma _ =>
    have takes : _ → KekTakes s c dma := fun ⟨ht, ha, hr, hu, hp, hv, hd⟩ => ⟨ht, ha, hr, hu, hp, hv, hd⟩
    ⟨fun h hu => ⟨exec_keyStore_unaligned h hu, exec_kekSet_unaligned h hu⟩, exec_keyStore_dma, exec_keyStore, exec_keyDelete_bad,
      Does.keyDelete, fun s1 h => exec_kekSet_room s1 (takes h), fun h => exec_kekSet_waits (takes h), fun _ => Does.kekRewrapDone,
      exec_kekRewrapDone_none⟩

end Sys2Proof.Machine
end

section
/-! O43: the keys of PANs and of derivation, and outgoing counters (R190, R191, R200). A command that loads a key opens its blob, takes a slot and
enters the key; what a PAN's registers show of it are fields of `KEY_PANp_CFG` that do not touch one another. -/

set_option Elab.async false

namespace Sys2Proof.Machine

/-! ### The arms of `exec` -/

section
variable (s : State) (c : CmdDesc)

theorem exec_panKeySet_arm : exec (.panKeySet c) s = execPanKeySet c s := rfl
theorem exec_groupRoll_arm : exec (.groupRoll c) s = execGroupRoll c s := rfl
theorem exec_groupGraceExpiry_arm (p : Fin 8) : exec (.groupGraceExpiry p) s = execGroupGraceExpiry p s := rfl
theorem exec_deriveLoad_arm : exec (.deriveLoad c) s = execDeriveLoad c s := rfl
theorem exec_deriveUnload_arm : exec (.deriveUnload c) s = execDeriveUnload c s := rfl
theorem exec_keyCtrRaise_arm : exec (.keyCtrRaise c) s = execKeyCtrRaise c s := rfl

end

/-! ### A key enters the cache (R175, R183, R190) -/

section
variable (s : State)

theorem State.unbind_slots (e : Nat) : (s.unbind e).key.slots = s.key.slots := by
  unfold State.unbind
  dsimp only
  split <;> rfl

/-- The binding of a counter entry leaves the slots. -/
theorem State.bind_slots (e fp keyId part floor : Nat) : (s.bind e fp keyId part floor).key.slots = s.key.slots := by
  unfold State.bind
  split
  · rfl
  · refine Eq.trans ?_ (s.unbind_slots e)
    dsimp only
    split
    · split
      · split <;> rfl
      · rfl
    · have hl (t : State) (code src : Nat) (p0 p1 p2 : Word) : (t.ledger code src p0 p1 p2).key.slots = t.key.slots :=
        congrArg KeySt.slots (t.ledger_keys ..).1
      split
      · rfl
      · exact hl _ _ _ _ _ _

theorem State.keyPut_held (r : KeyRole) (m : Material) : (s.keyPut r m).keyHeld r = true := by
  unfold State.keyPut State.keyHeld
  dsimp only
  split
  · simp
  · rw [State.bind_slots]
    simp

/-- The components that a load of a key may change. -/
abbrev loadComps : List Comp := [.regs, .pass, .host, .safe, .log, .cvn, .cvnIds, .air, .qmg, .rf, .link, .key, .vault]

theorem State.kekReady_ends (p : Nat) : (s.kekReady p).ends = s.ends :=
  (State.kekReady_within s p (Within.refl loadComps s) rfl).only .ends (by decide)

theorem State.keyLoaded_ends {r : KeyRole} {v : State} (m : Material) (k : Nat) (h : s.keyRoom r = some v) :
    ((v.bump k).keyPut r m).ends = s.ends := by
  have hv : Within loadComps s v := (State.keyRoom_within s r (Within.refl loadComps s) rfl).use h
  exact ((State.keyPut_within _ r m (Within.refl loadComps _) rfl).only .ends (by decide)).trans (hv.only .ends (by decide))

end

/-! ### The fields of `KEY_PANp_CFG` -/

theorem kidxFld_or (pos : Nat) : kidxFld pos = F.KEY_PAN_CFG_A_KIDX ∨ kidxFld pos = F.KEY_PAN_CFG_B_KIDX := by
  unfold kidxFld
  split <;> simp

/-- The index of a group position is an octet above the other fields that a roll writes. -/
theorem kidxFld_place (pos : Nat) : (kidxFld pos).w = 8 ∧ 16 ≤ (kidxFld pos).lo ∧ (kidxFld pos).lo + (kidxFld pos).w ≤ 32 := by
  rcases kidxFld_or pos with h | h <;> (rw [h]; decide)

section
variable (s : State) (p : Nat)

/-- What the registers show of a PAN's keys follows from the registers. -/
theorem State.panKeys_of_regs {s t : State} (h : t.regs = s.regs) (p : Nat) : t.groupCur p = s.groupCur p ∧ t.nextValid p = s.nextValid p ∧
    t.inGrace p = s.inGrace p ∧ ∀ pos, t.groupIdx p pos = s.groupIdx p pos := by
  have hf (f : Fld) : t.fld (R.KEY_PAN_CFG p) f = s.fld (R.KEY_PAN_CFG p) f := congrArg (fget f) (State.rd_of_regs h _)
  exact ⟨hf _, congrArg (· != 0) (hf _), congrArg (· != 0) (hf _), fun _ => hf _⟩

/-- A group position takes an index, as the PAN's next key; the grace period of an older key ends. -/
def State.nextFields (pos idx : Nat) : State :=
  ((s.setFld (R.KEY_PAN_CFG p) (kidxFld pos) idx).setFld (R.KEY_PAN_CFG p) F.KEY_PAN_CFG_NEXT_VALID 1).setFld
    (R.KEY_PAN_CFG p) F.KEY_PAN_CFG_GRACE 0

/-- NEXT becomes the current key, and a grace period of the one before it begins. -/
def State.rollFields : State :=
  ((s.setFld (R.KEY_PAN_CFG p) F.KEY_PAN_CFG_CUR (1 - s.groupCur p)).setFld (R.KEY_PAN_CFG p) F.KEY_PAN_CFG_NEXT_VALID 0).setFld
    (R.KEY_PAN_CFG p) F.KEY_PAN_CFG_GRACE 1

/-- The end of a PAN's grace period, 0 for none. -/
def State.graceAt (n : Nat) : State := { s with key := { s.key with grace := aset 0 p n s.key.grace } }

theorem State.cmdOk_graceAt_regs (n : Nat) (c : CmdDesc) (ws : List Word) : ((s.graceAt p n).cmdOk c ws).regs = s.regs := rfl
@[simp] theorem State.graceAt_key (n : Nat) : (s.graceAt p n).key = { s.key with grace := aset 0 p n s.key.grace } := rfl
@[simp] theorem State.graceAt_ends (n : Nat) : (s.graceAt p n).ends = s.ends := rfl
@[simp] theorem State.nextFields_key (pos idx : Nat) : (s.nextFields p pos idx).key = s.key := rfl
@[simp] theorem State.nextFields_ends (pos idx : Nat) : (s.nextFields p pos idx).ends = s.ends := rfl

theorem State.nextFields_effect (pos : Nat) {idx : Nat} (hi : idx < 256) : (s.nextFields p pos idx).nextValid p = true ∧
    (s.nextFields p pos idx).groupIdx p pos = idx ∧ (s.nextFields p pos idx).inGrace p = false := by
  obtain ⟨hw, hlo, hhi⟩ := kidxFld_place pos
  have hg : F.KEY_PAN_CFG_GRACE.lo + F.KEY_PAN_CFG_GRACE.w ≤ (kidxFld pos).lo := Nat.le_trans (by decide) hlo
  have hn : F.KEY_PAN_CFG_NEXT_VALID.lo + F.KEY_PAN_CFG_NEXT_VALID.w ≤ (kidxFld pos).lo := Nat.le_trans (by decide) hlo
  unfold State.nextFields State.nextValid State.groupIdx State.inGrace State.flag
  refine ⟨?_, ?_, ?_⟩
  · rw [State.fld_setFld_other _ _ _ _ _ (by decide) (by decide), State.fld_setFld _ _ _ _ (by decide)]
    rfl
  · rw [State.fld_setFld_other _ _ _ _ _ (by decide) (.inr hg), State.fld_setFld_other _ _ _ _ _ (by decide) (.inr hn),
      State.fld_setFld _ _ _ _ hhi, hw]
    exact Nat.mod_eq_of_lt hi
  · rw [State.fld_setFld _ _ _ _ (by decide)]
    rfl

theorem State.rollFields_effect : (s.rollFields p).groupCur p = 1 - s.groupCur p ∧ (s.rollFields p).nextValid p = false ∧
    (s.rollFields p).inGrace p = true := by
  have hlt : 1 - s.groupCur p < 2 := by omega
  unfold State.rollFields State.nextValid State.inGrace State.flag
  refine ⟨?_, ?_, ?_⟩
  · rw [State.groupCur, State.fld_setFld_other _ _ _ _ _ (by decide) (by decide), State.fld_setFld_other _ _ _ _ _ (by decide) (by decide),
      State.fld_setFld _ _ _ _ (by decide)]
    exact Nat.mod_eq_of_lt hlt
  · rw [State.fld_setFld_other _ _ _ _ _ (by decide) (by decide), State.fld_setFld _ _ _ _ (by decide)]
    rfl
  · rw [State.fld_setFld _ _ _ _ (by decide)]
    rfl

theorem State.rollFields_regsBut : (s.rollFields p).regsBut s [R.KEY_PAN_CFG p] :=
  State.regsBut_trans (State.regsBut_trans (State.setFld_regsBut _ _ _ (by simp)) (State.setFld_regsBut _ _ _ (by simp)))
    (State.setFld_regsBut _ _ _ (by simp))

end

/-! ### What a completion leaves of the keys -/

section
variable {s t : State}

theorem State.keyEntry_of_key (h : t.key = s.key) (r : KeyRole) : t.keyEntry r = s.keyEntry r := by rw [State.keyEntry, State.keyEntry, h]
theorem State.ctr_of_key (h : t.key = s.key) (e : Nat) : t.ctr e = s.ctr e := by rw [State.ctr, State.ctr, h]
theorem State.record_of_vault (h : t.vault = s.vault) (i : Nat) : t.record i = s.record i := by rw [State.record, State.record, h]

end

section
variable {s : State} {c : CmdDesc}

/-! ### PAN_KEY_SET (R178, R200) -/

/-- The key index that PAN_KEY_SET brings. -/
abbrev cmdKidx (c : CmdDesc) : Nat := bitsAt c.w1 8 8

/-- The state in which a command that has been taken opens the blob of its store position: the KEK it is wrapped under is ready. -/
abbrev State.kekTaken (s : State) (c : CmdDesc) : State := (s.cmdTake c).kekReady (blobPart ((s.cmdTake c).blob (kpos c)))

section
variable (h : s.cmdTurn c = true) (ho : s.panOn (lpan c) = true) (hm : s.panMay c.part.val (lpan c) = true)
include h ho hm

theorem exec_panKeySet_noIdx (hi : cmdKidx c = 0) : exec (.panKeySet c) s = .next ((s.cmdTake c).cmdBad c 33) := by
  have ho' : (s.cmdTake c).panOn (lpan c) = true := ho
  have hm' : (s.cmdTake c).panMay c.part.val (lpan c) = true := hm
  simp only [exec_panKeySet_arm, execPanKeySet, h, ho', hm', hi, Bool.not_true, Bool.or_false, Bool.false_eq_true, if_false, decide_true,
    Bool.true_or, if_true]

theorem exec_panKeySet_join (h3 : bitAt c.w1 3 = false) (hi : cmdKidx c ≠ 0) (ha : cmdKidx c ≠ s.groupIdx (lpan c) 0)
    (hb : cmdKidx c ≠ s.groupIdx (lpan c) 1) : exec (.panKeySet c) s = .next (
      match (s.kekTaken c).fromStore ((s.kekTaken c).panOwner (lpan c)) (kpos c) 0 with
      | .error k => (s.kekTaken c).cmdDone c stKEY_BAD [] k 0
      | .ok m =>
        match (s.kekTaken c).keyRoom (.join (lpan c)) with
        | none => s
        | some v => (((v.bump R.KEY_CNT_MISS).keyPut (.join (lpan c)) m).setFld (R.KEY_PAN_CFG (lpan c)) F.KEY_PAN_CFG_JOIN_KIDX
            (cmdKidx c)).cmdOk c []) := by
  have ho' : (s.cmdTake c).panOn (lpan c) = true := ho
  have hm' : (s.cmdTake c).panMay c.part.val (lpan c) = true := hm
  have ha' : cmdKidx c ≠ (s.cmdTake c).groupIdx (lpan c) 0 := ha
  have hb' : cmdKidx c ≠ (s.cmdTake c).groupIdx (lpan c) 1 := hb
  simp only [exec_panKeySet_arm, execPanKeySet, h, ho', hm', h3, hi, ha', hb', Bool.not_true, Bool.or_false, Bool.false_eq_true, if_false,
    decide_false] <;> rfl

theorem exec_panKeySet_next {m : Material} {v : State} (h3 : bitAt c.w1 3 = true) (hi : cmdKidx c ≠ 0) (hj : cmdKidx c ≠ s.joinIdx (lpan c))
    (hg : cmdKidx c ≠ s.groupIdx (lpan c) (s.groupCur (lpan c)))
    (hs : (s.kekTaken c).fromStore ((s.kekTaken c).panOwner (lpan c)) (kpos c) 0 = .ok m)
    (hr : (s.kekTaken c).keyRoom (.group (lpan c) (1 - s.groupCur (lpan c))) = some v) : exec (.panKeySet c) s =
      .next (((((v.bump R.KEY_CNT_MISS).keyPut (.group (lpan c) (1 - s.groupCur (lpan c))) m).nextFields (lpan c) (1 - s.groupCur (lpan c))
        (cmdKidx c)).graceAt (lpan c) 0).cmdOk c []) := by
  have ho' : (s.cmdTake c).panOn (lpan c) = true := ho
  have hm' : (s.cmdTake c).panMay c.part.val (lpan c) = true := hm
  have hj' : cmdKidx c ≠ (s.cmdTake c).joinIdx (lpan c) := hj
  have hlt : s.groupCur (lpan c) < 2 := fget_lt F.KEY_PAN_CFG_CUR _
  have hg' : cmdKidx c ≠ (s.cmdTake c).groupIdx (lpan c) (1 - (1 - (s.cmdTake c).groupCur (lpan c))) := by
    rwa [show 1 - (1 - (s.cmdTake c).groupCur (lpan c)) = s.groupCur (lpan c) from by show 1 - (1 - s.groupCur (lpan c)) = _; omega]
  have hr' : (s.kekTaken c).keyRoom (.group (lpan c) (1 - (s.cmdTake c).groupCur (lpan c))) = some v := hr
  simp only [exec_panKeySet_arm, execPanKeySet, h, ho', hm', h3, hi, hj', hg', hs, hr', Bool.not_true, Bool.or_false, Bool.false_eq_true, if_false,
    if_true, decide_false]
  rfl

end

theorem Does.panKeySet_next {m : Material} {v : State} (h : s.leads c = true) (ho : s.panOn (lpan c) = true)
    (hm : s.panMay c.part.val (lpan c) = true) (h3 : bitAt c.w1 3 = true) (hi : cmdKidx c ≠ 0) (hj : cmdKidx c ≠ s.joinIdx (lpan c))
    (hg : cmdKidx c ≠ s.groupIdx (lpan c) (s.groupCur (lpan c)))
    (hs : (s.kekTaken c).fromStore ((s.kekTaken c).panOwner (lpan c)) (kpos c) 0 = .ok m)
    (hr : (s.kekTaken c).keyRoom (.group (lpan c) (1 - s.groupCur (lpan c))) = some v) : Does (.panKeySet c) s (fun t =>
      t.nextValid (lpan c) = true ∧ t.groupIdx (lpan c) (1 - s.groupCur (lpan c)) = cmdKidx c ∧ t.inGrace (lpan c) = false ∧
      t.keyHeld (.group (lpan c) (1 - s.groupCur (lpan c))) = true ∧ t.completed c stOK [] 0) := by
  have hidx : cmdKidx c < 256 := Nat.mod_lt _ (by decide)
  have hheld := State.keyPut_held (v.bump R.KEY_CNT_MISS) (.group (lpan c) (1 - s.groupCur (lpan c))) m
  have hends := ((s.kekTaken c).keyLoaded_ends m R.KEY_CNT_MISS hr).trans ((s.cmdTake c).kekReady_ends _)
  obtain ⟨hv, hx, hgr⟩ := State.nextFields_effect ((v.bump R.KEY_CNT_MISS).keyPut (.group (lpan c) (1 - s.groupCur (lpan c))) m)
    (lpan c) (1 - s.groupCur (lpan c)) hidx
  refine Does.of_next (exec_panKeySet_next (s.leads_turn c h) ho hm h3 hi hj hg hs hr) ?_
  obtain ⟨-, ev, eg, ex⟩ := State.panKeys_of_regs (State.cmdOk_graceAt_regs (((v.bump R.KEY_CNT_MISS).keyPut
    (.group (lpan c) (1 - s.groupCur (lpan c))) m).nextFields (lpan c) (1 - s.groupCur (lpan c)) (cmdKidx c)) (lpan c) 0 c []) (lpan c)
  refine ⟨ev.trans hv, (ex _).trans hx, eg.trans hgr, ?_, ?_⟩
  · rwa [State.keyHeld, State.cmdOk, State.cmdDone_key, State.graceAt_key, State.nextFields_key]
  · have hends' := (State.graceAt_ends _ (lpan c) 0).trans ((State.nextFields_ends _ (lpan c) (1 - s.groupCur (lpan c)) (cmdKidx c)).trans hends)
    exact State.cmdOk_completed _ c _ (State.clearFor_of_ends (s := s) hends' (s.leads_clear c h))

/-! ### GROUP_ROLL and the end of its grace period (R187, R200) -/

section
variable (h : s.cmdTurn c = true) (ho : s.panOn (lpan c) = true) (hm : s.panMay c.part.val (lpan c) = true)
include h ho hm

theorem exec_groupRoll_noNext (hn : s.nextValid (lpan c) = false) : exec (.groupRoll c) s = .next ((s.cmdTake c).cmdBad c 34) := by
  have ho' : (s.cmdTake c).panOn (lpan c) = true := ho
  have hm' : (s.cmdTake c).panMay c.part.val (lpan c) = true := hm
  have hn' : (s.cmdTake c).nextValid (lpan c) = false := hn
  simp only [exec_groupRoll_arm, execGroupRoll, h, ho', hm', hn', Bool.not_true, Bool.not_false, Bool.or_false, Bool.true_or, Bool.false_eq_true,
    if_false, if_true]

/-- A roll of a PAN that has a NEXT key, where no roll waits. -/
theorem exec_groupRoll (hn : s.nextValid (lpan c) = true) (hr : s.key.rolls = []) : exec (.groupRoll c) s = .next (
    if s.running then ({ s.cmdTake c with key := { s.key with rolls := [⟨c, lpan c, bitsAt c.w1 16 16⟩] } }).cplKeep c
    else (s.cmdTake c).rollRun ⟨c, lpan c, bitsAt c.w1 16 16⟩) := by
  have ho' : (s.cmdTake c).panOn (lpan c) = true := ho
  have hm' : (s.cmdTake c).panMay c.part.val (lpan c) = true := hm
  have hn' : (s.cmdTake c).nextValid (lpan c) = true := hn
  have hr' : (s.cmdTake c).key.rolls = [] := hr
  simp only [exec_groupRoll_arm, execGroupRoll, h, ho', hm', hn', hr', List.any_nil, List.nil_append, Bool.not_true, Bool.or_false,
    Bool.false_eq_true, if_false]
  rfl

/-- While the slot engine runs, the roll waits for the next preparation point. -/
theorem Does.groupRoll_waits (hn : s.nextValid (lpan c) = true) (hr : s.key.rolls = []) (hrun : s.running = true) :
    Does (.groupRoll c) s (fun t => t.key = { s.key with rolls := [⟨c, lpan c, bitsAt c.w1 16 16⟩] } ∧ t.regs = s.regs) := by
  have hk (u : State) : (u.cplKeep c).key = u.key ∧ (u.cplKeep c).regs = u.regs := by
    have hw := State.cplKeep_within u c (Within.refl [.ends] u) rfl
    exact ⟨hw.only .key (by decide), hw.only .regs (by decide)⟩
  exact Does.of_next ((exec_groupRoll h ho hm hn hr).trans (congrArg _ (if_pos hrun))) (hk _)

theorem Does.groupRoll_now (hn : s.nextValid (lpan c) = true) (hr : s.key.rolls = []) (hrun : s.running = false)
    (hx : s.groupIdx (lpan c) (s.groupCur (lpan c)) ≠ 0) (hg : bitsAt c.w1 16 16 ≠ 0) : Does (.groupRoll c) s (fun t =>
      t.groupCur (lpan c) = 1 - s.groupCur (lpan c) ∧ t.nextValid (lpan c) = false ∧ t.inGrace (lpan c) = true ∧
      aget 0 (lpan c) t.key.grace = s.now + sec (bitsAt c.w1 16 16) ∧ t.regsBut s [R.KEY_PAN_CFG (lpan c)]) := by
  have hx' : (s.cmdTake c).groupIdx (lpan c) ((s.cmdTake c).groupCur (lpan c)) ≠ 0 := hx
  have he : (s.cmdTake c).rollRun ⟨c, lpan c, bitsAt c.w1 16 16⟩ =
      (((s.cmdTake c).rollFields (lpan c)).graceAt (lpan c) (s.now + sec (bitsAt c.w1 16 16))).cmdOk c
        [0, 0, 0, 0, w32 ((s.cmdTake c).finalN (8193 + 4 * lpan c + (s.cmdTake c).groupCur (lpan c)))] := by
    simp only [State.rollRun, hx', hg, ne_eq, not_false_eq_true, decide_true, Bool.and_self, if_true]
    rfl
  refine Does.of_next ((exec_groupRoll h ho hm hn hr).trans (congrArg _ ((if_neg (by rw [hrun]; decide)).trans he))) ?_
  obtain ⟨hcur, hnext, hgrace⟩ := (s.cmdTake c).rollFields_effect (lpan c)
  obtain ⟨ec, ev, eg, -⟩ := State.panKeys_of_regs (State.cmdOk_graceAt_regs ((s.cmdTake c).rollFields (lpan c)) (lpan c)
    (s.now + sec (bitsAt c.w1 16 16)) c
    [0, 0, 0, 0, w32 ((s.cmdTake c).finalN (8193 + 4 * lpan c + (s.cmdTake c).groupCur (lpan c)))]) (lpan c)
  refine ⟨ec.trans hcur, ev.trans hnext, eg.trans hgrace, ?_, (s.cmdTake c).rollFields_regsBut (lpan c)⟩
  rw [State.cmdOk, State.cmdDone_key, State.graceAt_key]
  exact aget_aset_same ..

end

theorem exec_groupGraceExpiry {p : Fin 8} (h : s.inGrace p = true) :
    exec (.groupGraceExpiry p) s = .next ((s.advanceTo (aget 0 p.val s.key.grace)).graceEnd p) := by
  rw [exec_groupGraceExpiry_arm, execGroupGraceExpiry, if_pos h]

theorem exec_groupGraceExpiry_none {p : Fin 8} (h : s.inGrace p = false) : exec (.groupGraceExpiry p) s = .next s := by
  rw [exec_groupGraceExpiry_arm, execGroupGraceExpiry, if_neg (by rw [h]; decide)]

/-! ### DERIVE_LOAD and DERIVE_UNLOAD (R200) -/

/-- The number of the DERIVE key that a command names. -/
abbrev cmdDerive (c : CmdDesc) : Nat := bitsAt c.w1 0 6

theorem exec_deriveLoad (h : s.cmdTurn c = true) (hp : (s.keyEntry (.derive (cmdDerive c))).all (fun y => y.part = c.part.val) = true) :
    exec (.deriveLoad c) s = .next (
      match (s.kekTaken c).fromStore c.part.val (kpos c) 1 with
      | .error k => (s.kekTaken c).cmdDone c stKEY_BAD [] k 0
      | .ok m =>
        match (s.kekTaken c).keyRoom (.derive (cmdDerive c)) with
        | none => s
        | some v => (((v.setSlots (v.key.slots.filter (fun x => x.derived ≠ cmdDerive c + 1))).bump R.KEY_CNT_MISS).keyPut
            (.derive (cmdDerive c)) m).cmdOk c []) := by
  have hp' : ((s.cmdTake c).keyEntry (.derive (cmdDerive c))).any (fun x => x.part ≠ c.part.val) = false := by
    change (s.keyEntry (.derive (cmdDerive c))).any (fun x => x.part ≠ c.part.val) = false
    cases he : s.keyEntry (.derive (cmdDerive c)) with
    | none => rfl
    | some y => simpa [he] using hp
  simp only [exec_deriveLoad_arm, execDeriveLoad, h, hp', Bool.not_true, Bool.false_eq_true, if_false] <;> rfl

theorem exec_deriveUnload_none (h : s.cmdTurn c = true) (he : s.keyEntry (.derive (cmdDerive c)) = none) :
    exec (.deriveUnload c) s = .next ((s.cmdTake c).cmdBad c 37) := by
  have he' : (s.cmdTake c).keyEntry (.derive (cmdDerive c)) = none := he
  simp only [exec_deriveUnload_arm, execDeriveUnload, h, he', Option.any_none, Bool.not_true, Bool.not_false, Bool.false_eq_true, if_false, if_true]

theorem exec_deriveUnload {y : KeySlot} (h : s.cmdTurn c = true) (he : s.keyEntry (.derive (cmdDerive c)) = some y) (hp : y.part = c.part.val) :
    exec (.deriveUnload c) s = .next (((s.cmdTake c).keyForget (.derive (cmdDerive c))).cmdOk c []) := by
  have he' : (s.cmdTake c).keyEntry (.derive (cmdDerive c)) = some y := he
  simp only [exec_deriveUnload_arm, execDeriveUnload, h, he', hp, Option.any_some, decide_true, Bool.not_true, Bool.false_eq_true, if_false]

theorem State.keyEntry_keyForget (s : State) (r : KeyRole) : (s.keyForget r).keyEntry r = none := by
  rw [State.keyEntry, State.keyForget, State.setSlots_slots, List.find?_eq_none]
  intro x hx
  simpa using (List.mem_filter.mp hx).2

theorem Does.deriveUnload {y : KeySlot} (h : s.leads c = true) (he : s.keyEntry (.derive (cmdDerive c)) = some y) (hp : y.part = c.part.val) :
    Does (.deriveUnload c) s (fun t => t.keyEntry (.derive (cmdDerive c)) = none ∧ t.completed c stOK [] 0) :=
  Does.of_next (exec_deriveUnload (s.leads_turn c h) he hp)
    ⟨(State.keyEntry_of_key (State.cmdOk_key _ c []) _).trans ((s.cmdTake c).keyEntry_keyForget _),
    State.cmdOk_completed _ c _ (State.clearFor_of_ends (s := s.cmdTake c) (State.setSlots_ends ..) (s.leads_clear c h))⟩

/-! ### KEY_CTR_RAISE (R191, R193) -/

/-- The counter entry that KEY_CTR_RAISE names. -/
abbrev cmdCtr (c : CmdDesc) : Nat := bitsAt c.w2 0 14

@[simp] theorem State.ctr_setCtr (e : Nat) (x : CtrEntry) : (s.setCtr e x).ctr e = x := aget_aset_same ({} : CtrEntry) x e s.key.ctrs
@[simp] theorem State.record_setRecord (i : Nat) (r : CtrRec) : (s.setRecord i r).record i = r :=
  aget_aset_same ({} : CtrRec) r i s.vault.records

theorem State.checkpoint_ctr (e : Nat) : (s.checkpoint e).ctr e = { s.ctr e with cp := (s.ctr e).n } := State.ctr_setCtr e _

theorem State.checkpoint_record (e : Nat) : (s.checkpoint e).record (s.ctr e).record = { s.record (s.ctr e).record with out := (s.ctr e).n } :=
  State.record_setRecord (s := s.setCtr e _) _ _

/-- An entry's counter is raised to a value, and its record with it. -/
def State.ctrRaised (s : State) (e n : Nat) : State := (s.setCtr e { s.ctr e with n := n }).checkpoint e

theorem State.ctrRaised_effect (e n : Nat) : ((s.ctrRaised e n).ctr e).n = n ∧ ((s.ctrRaised e n).record (s.ctr e).record).out = n := by
  have hr := State.checkpoint_record (s := s.setCtr e { s.ctr e with n := n }) e
  rw [State.ctr_setCtr] at hr
  exact ⟨by rw [State.ctrRaised, State.checkpoint_ctr, State.ctr_setCtr], by rw [State.ctrRaised, hr]⟩

theorem State.ctrRaised_only (e n : Nat) : (s.ctrRaised e n).regs = s.regs ∧ (s.ctrRaised e n).ends = s.ends := by
  have h := State.checkpoint_within _ e (State.setCtr_within s e { s.ctr e with n := n } (Within.refl [.key, .vault] s) rfl) rfl
  exact ⟨h.only .regs (by decide), h.only .ends (by decide)⟩

theorem exec_keyCtrRaise_unbound (h : s.cmdTurn c = true) (hx : (s.ctr (cmdCtr c)).bound = false ∨ (s.ctr (cmdCtr c)).part ≠ c.part.val) :
    exec (.keyCtrRaise c) s = .next ((s.cmdTake c).cmdBad c 35) := by
  have hx' : (!((s.cmdTake c).ctr (cmdCtr c)).bound || decide (((s.cmdTake c).ctr (cmdCtr c)).part ≠ c.part.val)) = true := by
    change (!(s.ctr (cmdCtr c)).bound || decide ((s.ctr (cmdCtr c)).part ≠ c.part.val)) = true
    simpa using hx
  simp only [exec_keyCtrRaise_arm, execKeyCtrRaise, h, hx', Bool.not_true, Bool.false_eq_true, if_false, if_true]

/-- A counter that has warned is raised without an event. -/
theorem exec_keyCtrRaise_warned (h : s.cmdTurn c = true) (hb : (s.ctr (cmdCtr c)).bound = true) (hp : (s.ctr (cmdCtr c)).part = c.part.val)
    (hw : (s.ctr (cmdCtr c)).warned = true) : exec (.keyCtrRaise c) s =
      .next (((s.cmdTake c).ctrRaised (cmdCtr c) (max (s.ctr (cmdCtr c)).n c.w3.toNat)).cmdOk c [w32 (max (s.ctr (cmdCtr c)).n c.w3.toNat)]) := by
  have hb' : ((s.cmdTake c).ctr (cmdCtr c)).bound = true := hb
  have hp' : ((s.cmdTake c).ctr (cmdCtr c)).part = c.part.val := hp
  have hw' : ((s.cmdTake c).ctr (cmdCtr c)).warned = true := hw
  rw [exec_keyCtrRaise_arm, execKeyCtrRaise]
  refine congrArg _ ((if_neg (by rw [h]; decide)).trans ((if_neg (by simp [hb', hp'])).trans ?_))
  exact congrArg (State.cmdOk · c _) (if_neg (by simp [hw']))

theorem Does.keyCtrRaise_warned (h : s.leads c = true) (hb : (s.ctr (cmdCtr c)).bound = true) (hp : (s.ctr (cmdCtr c)).part = c.part.val)
    (hw : (s.ctr (cmdCtr c)).warned = true) : Does (.keyCtrRaise c) s (fun t =>
      (t.ctr (cmdCtr c)).n = max (s.ctr (cmdCtr c)).n c.w3.toNat ∧
      (t.record (s.ctr (cmdCtr c)).record).out = max (s.ctr (cmdCtr c)).n c.w3.toNat ∧
      t.completed c stOK [w32 (max (s.ctr (cmdCtr c)).n c.w3.toNat)] 0 ∧ t.regs = s.regs) := by
  obtain ⟨hn, hr⟩ := State.ctrRaised_effect (s := s.cmdTake c) (cmdCtr c) (max (s.ctr (cmdCtr c)).n c.w3.toNat)
  obtain ⟨hregs, hends⟩ := State.ctrRaised_only (s := s.cmdTake c) (cmdCtr c) (max (s.ctr (cmdCtr c)).n c.w3.toNat)
  refine Does.of_next (exec_keyCtrRaise_warned (s.leads_turn c h) hb hp hw) ⟨?_, ?_, ?_, hregs⟩
  · rwa [State.ctr_of_key (State.cmdOk_key ..)]
  · rwa [State.record_of_vault (State.cmdOk_vault ..)]
  · exact State.cmdOk_completed _ c _ (State.clearFor_of_ends (s := s.cmdTake c) hends (s.leads_clear c h))

end

/-! ### The obligation -/

/-- Settles O43: each command by its checks in their order; the next group key through its load, and the fields that it sets. -/
theorem panKeysRollAndCount : Obligations.PanKeysRollAndCount :=
  fun _ _ _ => ⟨exec_panKeySet_join, fun _ _ h ho hm h3 hi hj hg _ => Does.panKeySet_next h ho hm h3 hi hj hg, exec_panKeySet_noIdx,
    exec_groupRoll_noNext, Does.groupRoll_waits, Does.groupRoll_now, exec_groupGraceExpiry, exec_groupGraceExpiry_none, exec_deriveLoad,
    exec_deriveUnload_none, fun _ => Does.deriveUnload, exec_keyCtrRaise_unbound, Does.keyCtrRaise_warned⟩

end Sys2Proof.Machine
end

section
/-! The indexes of the directory (R206 to R212) and the host memory that the table commands write (R225, R230): a key that was placed is present, an
entry that was put stands at its position, and octets that were written read back. -/

set_option Elab.async false

namespace Sys2Proof.Machine

/-! ### Tables and host memory -/

section
variable {α : Type}

/-- An entry that is put into a table is in it. -/
theorem mem_aput_self (k : Nat) (v : α) (m : List (Nat × α)) : (k, v) ∈ aput k v m := by
  induction m with
  | nil => exact List.mem_singleton_self _
  | cons e m ih =>
    rw [aput]
    split
    · exact List.mem_cons_self
    · exact List.mem_cons_of_mem _ ih

/-- It is the only one with its key. -/
theorem find?_aput_adel (k : Nat) (v : α) (m : List (Nat × α)) : (aput k v (adel k m)).find? (fun e => e.1 = k) = some (k, v) := by
  obtain ⟨e, he⟩ := Option.isSome_iff_exists.mp (List.find?_isSome (p := fun e : Nat × α => decide (e.1 = k)) |>.mpr
    ⟨(k, v), mem_aput_self k v (adel k m), decide_eq_true rfl⟩)
  have hk : e.1 = k := of_decide_eq_true (List.find?_some (p := fun e : Nat × α => decide (e.1 = k)) he)
  rcases aput_mem v k (adel k m) (List.mem_of_find?_eq_some he) with rfl | hm
  · exact he
  · exact absurd hk (adel_no_key k m e hm)

end

/-- A block of octets that is written reads as written (R308). -/
theorem State.memBytes_memWrite (s : State) (p a : Nat) (bs : List Byte) (hl : bs.length ≤ 2 ^ 64) :
    (s.memWrite p a bs).memBytes p a bs.length = bs := by
  induction bs generalizing s a with
  | nil => rfl
  | cons b bs ih =>
    have h0 : (s.memWrite p a (b :: bs)).memByte p a = b := aget_memPut p (b :: bs) a 0 s.host.mem (Nat.succ_pos _) hl
    rw [List.length_cons, State.memBytes, h0]
    exact congrArg (b :: ·) (ih (s.memWrite p a [b]) (a + 1) (Nat.le_of_succ_le hl))

theorem State.cmdOk_memBytes (s : State) (c : CmdDesc) (ws : List Word) (p a n : Nat) : (s.cmdOk c ws).memBytes p a n = s.memBytes p a n :=
  State.memBytes_of_host (t := s.cmdOk c ws) s rfl p a n

/-! ### Positions and keys of an index -/

section
variable {s t : State} {b : Bool}

@[simp] theorem State.idx_setIdx (s : State) (b : Bool) (x : Index) : (s.setIdx b x).idx b = x := by cases b <;> rfl

theorem State.idx_of_dir (h : t.dir = s.dir) (b : Bool) : t.idx b = s.idx b := by rw [State.idx, h, State.idx]

theorem Index.at_put (x : Index) (pos : Nat) (e : IdxEntry) : (x.put pos e).at pos = some e := by
  rw [Index.at, Index.put, find?_aput_adel]
  rfl

theorem Index.find_put (x : Index) (pos : Nat) (e : IdxEntry) : ((x.put pos e).find e.key).isSome = true :=
  List.find?_isSome.mpr ⟨(pos, e), mem_aput_self pos e _, decide_eq_true rfl⟩

theorem State.evtInsertFull_dir (s : State) (b : Bool) (detail key : Nat) : (s.evtInsertFull b detail key).dir = s.dir := rfl

/-- Wherever an insertion finds a place, it makes its key present (R210). -/
theorem State.idxInsert_present {key o : Nat} {m : Bool} (h : s.idxInsert b key o = some (t, m)) : ((t.idx b).find key).isSome = true := by
  have hp (u : State) (x : Index) (pos age : Nat) :
      (((u.setIdx b (x.put pos { key := key, ord := o, age := age })).idx b).find key).isSome = true := by
    rw [State.idx_setIdx]
    exact x.find_put pos { key := key, ord := o, age := age }
  unfold State.idxInsert at h
  dsimp only at h
  split at h
  · cases h
    exact hp s (s.idx b) _ 0
  · split at h
    · cases h
      exact hp _ _ _ 0
    · split at h
      · cases h
      · cases h
        split
        · rw [State.idx_of_dir (State.evtInsertFull_dir ..) b]
          exact hp _ (s.idx b) _ _
        · exact hp _ (s.idx b) _ _

end

end Sys2Proof.Machine
end

section
/-! O44: the directory's commands (R203, R204, R210, R224 to R226). Each one runs in its turn with `TABLE` 0 and is decided by its checks in their
order; a record that INSERT makes in an empty directory takes its place at once. -/

set_option Elab.async false

namespace Sys2Proof.Machine

/-! ### The arms of `exec` -/

section
variable (s : State) (c : CmdDesc) (dma : Dma)

theorem exec_search_arm : exec (.search c) s = execSearch c s := rfl
theorem exec_insert_arm : exec (.insert c dma) s = execInsert c dma s := rfl
theorem exec_delete_arm : exec (.delete c) s = execDelete c s := rfl
theorem exec_update_arm : exec (.update c dma) s = execUpdate c dma s := rfl
theorem exec_next_arm : exec (.next c) s = execNext c s := rfl

end

/-! ### A directory command runs (R224) -/

section
variable {s : State} {c : CmdDesc} {dma : Dma} (h : s.cmdTurn c = true)
include h

theorem State.dirRun_runs (ht : cmdTable c = 0) (f : State → State) : s.dirRun c f = f (s.cmdTake c) :=
  (if_neg (by simp [ht, h])).trans (if_pos ht)

theorem State.dirRun_reserved (ht : 2 ≤ cmdTable c) (f : State → State) : s.dirRun c f = (s.cmdTake c).cmdBad c 2 :=
  (if_neg (by simp only [h, Bool.not_true, Bool.or_false, decide_eq_true_eq]; omega)).trans (if_neg (by omega))

/-- Whatever the command, a reserved `TABLE` is refused. -/
theorem exec_dir_reserved (ht : 2 ≤ cmdTable c) : exec (.search c) s = .next ((s.cmdTake c).cmdBad c 2) ∧
    exec (.insert c dma) s = .next ((s.cmdTake c).cmdBad c 2) ∧ exec (.delete c) s = .next ((s.cmdTake c).cmdBad c 2) ∧
    exec (.update c dma) s = .next ((s.cmdTake c).cmdBad c 2) ∧ exec (.next c) s = .next ((s.cmdTake c).cmdBad c 2) :=
  have hr (f : State → State) := congrArg (Host.Outcome.next (φ := Fault) (ρ := Refusal)) (State.dirRun_reserved h ht f)
  ⟨hr _, hr _, hr _, hr _, hr _⟩

end

/-! ### SEARCH, DELETE and UPDATE by what their key names (R203, R204, R226) -/

section
variable {s : State} {c : CmdDesc} {dma : Dma} (h : s.cmdTurn c = true) (ht : cmdTable c = 0)
include h ht

/-- A key block that names nothing the partition may see is refused with its cause. -/
theorem exec_key_error {e : Nat} (hk : s.keyFind c = .error e) : exec (.search c) s = .next ((s.cmdTake c).cmdBad c e) ∧
    exec (.delete c) s = .next ((s.cmdTake c).cmdBad c e) ∧ exec (.update c dma) s = .next ((s.cmdTake c).cmdBad c e) := by
  have hk' : (s.cmdTake c).keyFind c = .error e := hk
  simp only [exec_search_arm, execSearch, exec_delete_arm, execDelete, exec_update_arm, execUpdate, State.dirRun_runs h ht, hk', and_self]

/-- DELETE and UPDATE of a key without a record. -/
theorem exec_key_none (hk : s.keyFind c = .ok none) :
    exec (.delete c) s = .next ((s.cmdTake c).cmdBad c 4) ∧ exec (.update c dma) s = .next ((s.cmdTake c).cmdBad c 4) := by
  have hk' : (s.cmdTake c).keyFind c = .ok none := hk
  simp only [exec_delete_arm, execDelete, exec_update_arm, execUpdate, State.dirRun_runs h ht, hk', and_self]

theorem exec_search_none (hk : s.keyFind c = .ok none) (hu : unaligned c.w4 c.w5 = false) :
    exec (.search c) s = .next ((s.cmdTake c).cmdOk c [0, 0, 0xFFFFF]) := by
  have hk' : (s.cmdTake c).keyFind c = .ok none := hk
  simp only [exec_search_arm, execSearch, State.dirRun_runs h ht, hk', hu, noRecord, Bool.false_eq_true, if_false]

variable {o : Nat} (hk : s.keyFind c = .ok (some o)) (hb : s.nodeBad o = false)
include hk hb

theorem exec_search_found (hu : unaligned c.w4 c.w5 = false) (ha : addr64 c.w4 c.w5 = 0) :
    exec (.search c) s = .next ((s.cmdTake c).cmdOk c ((s.cmdTake c).dirWords o false)) := by
  have hk' : (s.cmdTake c).keyFind c = .ok (some o) := hk
  have hb' : (s.cmdTake c).nodeBad o = false := hb
  simp only [exec_search_arm, execSearch, State.dirRun_runs h ht, hk', hb', hu, ha, Bool.false_eq_true, if_false, if_true]

theorem exec_delete_found : exec (.delete c) s = .next (((s.cmdTake c).nodeDelete o).cmdOk c
    ((s.cmdTake c).dirWords o false ++ [0, w32 (if ((s.cmdTake c).node o).hasNbr then (s.cmdTake c).finalN ((s.cmdTake c).node o).nbr else 0)])) := by
  have hk' : (s.cmdTake c).keyFind c = .ok (some o) := hk
  have hb' : (s.cmdTake c).nodeBad o = false := hb
  simp only [exec_delete_arm, execDelete, State.dirRun_runs h ht, hk', hb', Bool.false_eq_true, if_false]

/-- The record with the binding that UPDATE brings. -/
abbrev State.boundRec (s : State) (c : CmdDesc) (o : Nat) : NodeRec :=
  { s.node o with port := bitsAt c.w4 2 6, bound := bitAt c.w4 8, heardS := s.citySec, heardNs := s.cityNsec }

section
variable (h6 : bitAt c.w1 6 = true) (hp : bindPortOk c.part.val (bitsAt c.w4 2 6) = true) (h5 : bitAt c.w1 5 = false)
  (h7 : bitAt c.w1 7 = false) (h8 : bitAt c.w1 8 = false) (hu : unaligned c.w6 c.w7 = false)
include h6 hp h5 h7 h8 hu

/-- UPDATE of the binding alone. -/
theorem exec_update_binding : exec (.update c dma) s = .next (((s.cmdTake c).setNode o (s.boundRec c o)).cmdOk c
    (((s.cmdTake c).setNode o (s.boundRec c o)).dirWords o false)) := by
  have hk' : (s.cmdTake c).keyFind c = .ok (some o) := hk
  have hb' : (s.cmdTake c).nodeBad o = false := hb
  simp only [exec_update_arm, execUpdate, State.dirRun_runs h ht, hk', hb', h5, h6, h7, h8, hp, hu, Bool.not_true, Bool.and_false,
    Bool.false_and, Bool.or_false, Bool.false_eq_true, if_false, if_true]
  rfl

theorem Does.update_binding : Does (.update c dma) s (fun t => t.node o = s.boundRec c o ∧ t.regs = s.regs) :=
  Does.of_next (exec_update_binding h ht hk hb h6 hp h5 h7 h8 hu) ⟨State.node_setNode (s.cmdTake c) o (s.boundRec c o), rfl⟩

end

end

/-! ### INSERT (R202, R210) -/

section
variable {s : State} {c : CmdDesc} {dma : Dma}

theorem exec_insert_bad (h : s.cmdTurn c = true) (ht : cmdTable c = 0) {e : Nat} (hb : s.insertBad c = some e) :
    exec (.insert c dma) s = .next ((s.cmdTake c).cmdBad c e) := by
  have hb' : (s.cmdTake c).insertBad c = some e := hb
  simp only [exec_insert_arm, execInsert, State.dirRun_runs h ht, hb']

/-- The record of an INSERT without a short address and without a buffer. -/
abbrev State.insertRec (s : State) (c : CmdDesc) : NodeRec :=
  { valid := true
    kind := bitsAt c.w1 5 2
    pan := cmdPan c
    eui := cmdEui c
    port := bitsAt c.w4 16 6
    bound := bitAt c.w4 22
    createdS := s.citySec
    reach := true }

/-- A record that is made anew is not among those that DRAM has lost (R371). -/
abbrev State.badForget (s : State) (o : Nat) : State := { s with dir := { s.dir with bad := s.dir.bad.filter (· ≠ o) } }

/-- A record with its entry in index A, and the counts that follow. -/
def State.nodeEntered (s : State) (o : Nat) (r : NodeRec) (x : Index) : State := ((s.setNode o r).setIdx false x).dirSync

/-- The directory after INSERT has made its record under the ordinal given. -/
abbrev State.insertDone (s : State) (c : CmdDesc) (x : Index) : State :=
  (s.badForget (bitsAt c.w5 0 19)).nodeEntered (bitsAt c.w5 0 19) (s.insertRec c) x

theorem State.node_nodeEntered (s : State) (o : Nat) (r : NodeRec) (x : Index) : (s.nodeEntered o r x).node o = r := s.node_setNode o r

theorem State.keyPresent_nodeEntered (s : State) (o : Nat) (r : NodeRec) (x : Index) {pan eui : Nat}
    (hx : (x.find (idxKeyA pan eui)).isSome = true) : (s.nodeEntered o r x).keyPresent pan eui = true :=
  Bool.or_eq_true_iff.mpr (.inl hx)

theorem State.node_cmdOk (s : State) (c : CmdDesc) (ws : List Word) (o : Nat) : (s.cmdOk c ws).node o = s.node o := rfl
theorem State.keyPresent_cmdOk (s : State) (c : CmdDesc) (ws : List Word) (pan eui : Nat) :
    (s.cmdOk c ws).keyPresent pan eui = s.keyPresent pan eui := rfl

/-- In an empty directory a record without a short address is placed at once, and its key is present. -/
theorem State.nodeCreate_long (o : Nat) (r : NodeRec) (hr : r.hasShort = false) (ha : s.dir.a.ents = []) (hl : s.dir.lost = []) :
    ∃ x : Index, (x.find (idxKeyA r.pan r.eui)).isSome = true ∧ s.nodeCreate o r = .ok (s.nodeEntered o r x, false) := by
  obtain ⟨x, hx⟩ := State.idxInsert_empty (s := s.setNode o r) false (idxKeyA r.pan r.eui) o ha hl
  refine ⟨x, State.idxInsert_present hx, ?_⟩
  simp only [State.nodeCreate, hx, hr, Bool.false_eq_true, if_false]
  rfl

/-- INSERT with a given ordinal into an empty index A. -/
theorem exec_insert_given (h : s.cmdTurn c = true) (ht : cmdTable c = 0) (hb : s.insertBad c = none) (h7 : bitAt c.w1 7 = false)
    (h8 : bitAt c.w1 8 = true) (haddr : addr64 c.w6 c.w7 = 0) (ha : s.dir.a.ents = []) (hl : s.dir.lost = []) :
    ∃ x : Index, (x.find (idxKeyA (cmdPan c) (cmdEui c))).isSome = true ∧ exec (.insert c dma) s = .next
      (((s.cmdTake c).insertDone c x).cmdOk c (((s.cmdTake c).insertDone c x).dirWords (bitsAt c.w5 0 19) false)) := by
  obtain ⟨x, hx, hc⟩ := State.nodeCreate_long (s := (s.cmdTake c).badForget (bitsAt c.w5 0 19)) (bitsAt c.w5 0 19)
    ((s.cmdTake c).insertRec c) rfl ha hl
  refine ⟨x, hx, ?_⟩
  have hb' : (s.cmdTake c).insertBad c = none := hb
  have hdma : (decide ((0 : Nat) ≠ 0) && decide (dma ≠ .ok)) = false := rfl
  have hbuf : (s.cmdTake c).hostBuf c.part.val c.w6 c.w7 = [] := if_pos haddr
  simp only [exec_insert_arm, execInsert, State.dirRun_runs h ht, hb', haddr, h7, h8, hbuf, hdma, Bool.false_eq_true, if_false, if_true]
  rw [show State.nodeCreate _ _ _ = _ from hc]

/-- The status and the first result word of a record that was sent (R225, R321). -/
theorem State.completed.word0 {t : State} {st : Nat} {ws : List Word} {cause : Nat} (h : t.completed c st ws cause) :
    (t.lastSent .f).map (fun m => ((wordAt m.payload 0).toNat / 2 ^ 8 % 32, bitsAt (wordAt m.payload 1) 0 20)) =
      some (st % 32, bitsAt (wordAt ws 0) 0 20) := by
  obtain ⟨m, hm, he⟩ := Option.map_eq_some_iff.mp h
  simp only [Prod.mk.injEq] at he
  obtain ⟨-, -, hw⟩ := he
  have hs : (cplWord0 (c.w0.toNat % 256) st (c.w0.toNat / 2 ^ 16)).toNat / 2 ^ 8 % 32 = st % 32 := by
    rw [cplWord0, BitVec.toNat_ofNat]
    omega
  rw [hm, Option.map_some, hw]
  exact congrArg (fun n => some (n, bitsAt (wordAt ws 0) 0 20)) hs

/-- The ordinal of a record, with `FOUND`, in the first result word (R225). -/
theorem State.dirWords_ord (s : State) {o : Nat} (ho : o < 2 ^ 19) (m : Bool) : bitsAt (wordAt (s.dirWords o m) 0) 0 20 = o + 2 ^ 19 := by
  have hw (k a b d : Nat) : bitsAt (w32 (o + 2 ^ 19 + k * 2 ^ 20 + a * 2 ^ 22 + b * 2 ^ 23 + d * 2 ^ 24)) 0 20 = o + 2 ^ 19 := by
    rw [bitsAt, BitVec.toNat_ofNat]
    omega
  have hbit (x : Bool) (k : Nat) : (if x then 2 ^ k else 0) = x.toNat * 2 ^ k := by cases x <;> simp
  simp only [State.dirWords, hbit]
  exact hw _ _ _ _

theorem Does.insert_given (h : s.cmdTurn c = true) (hc : s.clearFor c = true) (ht : cmdTable c = 0) (hb : s.insertBad c = none)
    (h7 : bitAt c.w1 7 = false) (h8 : bitAt c.w1 8 = true) (haddr : addr64 c.w6 c.w7 = 0) (ha : s.dir.a.ents = []) (hl : s.dir.lost = []) :
    let o := bitsAt c.w5 0 19
    Does (.insert c dma) s (fun t => (t.node o).valid = true ∧ (t.node o).eui = cmdEui c ∧ (t.node o).pan = cmdPan c ∧
      (t.node o).port = bitsAt c.w4 16 6 ∧ t.keyPresent (cmdPan c) (cmdEui c) = true ∧
      (t.lastSent .f).map (fun m => ((wordAt m.payload 0).toNat / 2 ^ 8 % 32, bitsAt (wordAt m.payload 1) 0 20)) = some (stOK, o + 2 ^ 19)) := by
  intro o
  obtain ⟨x, hx, he⟩ := exec_insert_given (dma := dma) h ht hb h7 h8 haddr ha hl
  have hn := ((s.cmdTake c).badForget o).node_nodeEntered o ((s.cmdTake c).insertRec c) x
  refine Does.of_next he ?_
  rw [State.node_cmdOk, hn, State.keyPresent_cmdOk, State.keyPresent_nodeEntered _ _ _ _ hx]
  have hends : ((s.cmdTake c).insertDone c x).ends = s.ends := rfl
  refine ⟨rfl, rfl, rfl, rfl, rfl, (State.cmdOk_completed _ c _ (State.clearFor_of_ends hends hc)).word0.trans ?_⟩
  have ho : o < 2 ^ 19 := Nat.mod_lt _ (by decide)
  exact congrArg (fun n => some (stOK, n)) (State.dirWords_ord _ ho false)

end

/-! ### The obligation -/

/-- Settles O44: each command by its checks in their order; an accepted INSERT through the place that it takes in an empty index A. -/
theorem directoryCommands : Obligations.DirectoryCommands :=
  fun _ _ _ h => ⟨fun ht _ hk hb hu ha => exec_search_found h ht hk hb hu ha, fun ht hk hu => exec_search_none h ht hk hu,
    fun ht _ hk => exec_key_error h ht hk, fun ht _ hb => exec_insert_bad h ht hb, Does.insert_given h, fun ht hk => exec_key_none h ht hk,
    fun ht _ hk hb => exec_delete_found h ht hk hb, fun ht _ hk hb => Does.update_binding h ht hk hb, exec_dir_reserved h⟩

end Sys2Proof.Machine
end

section
/-! O45: walks of the directory (R214, R215, R220, R223, R371): NEXT and its open iterations, flushes by port, the sweeper, and what firmware has
rebuilt. -/

set_option Elab.async false

namespace Sys2Proof.Machine

/-! ### The arms of `exec` -/

section
variable (s : State) (c : CmdDesc) (p : Part) (b : Bool)

theorem exec_flushByPort_arm : exec (.flushByPort c) s = execFlushByPort c s := rfl
theorem exec_iterationExpiry_arm : exec (.iterationExpiry p b) s = execIterationExpiry p b s := rfl
theorem exec_flushPassStart_arm : exec .flushPassStart s = execFlushPassStart s := rfl
theorem exec_flushDone_arm : exec .flushDone s = execFlushDone s := rfl
theorem exec_sweeperVisit_arm : exec .sweeperVisit s = execSweeperVisit s := rfl
theorem exec_bucketRebuildDone_arm (i : Fin 135168) : exec (.bucketRebuildDone b i) s = execBucketRebuildDone b i s := rfl

end

/-! ### Iterations (R214) -/

section
variable (s : State) (p i : Nat)

theorem State.iterOf_setIter_none : (s.setIter p i none).iterOf p i = none := by
  rw [State.iterOf, List.find?_eq_none]
  intro y hy
  simpa [State.setIter, not_and_or, -not_and] using (List.mem_filter.mp ((List.mem_append.mp hy).resolve_right List.not_mem_nil)).2

theorem State.iterOf_setIter_some {x : Iter} (hp : x.part = p) (hi : x.idx = i) : (s.setIter p i (some x)).iterOf p i = some x := by
  have hn := s.iterOf_setIter_none p i
  simp only [State.iterOf, State.setIter, Option.toList_none, List.append_nil] at hn
  simp only [State.iterOf, State.setIter, Option.toList_some, List.find?_append, hn, Option.none_or]
  exact List.find?_cons_of_pos (by simp [hp, hi])

@[simp] theorem State.setIter_now (x : Option Iter) : (s.setIter p i x).now = s.now := rfl
@[simp] theorem State.setIter_regs (x : Option Iter) : (s.setIter p i x).regs = s.regs := rfl

theorem Does.iterationExpiry {p : Part} {b : Bool} {x : Iter} (h : s.iterOf p.val (if b then 1 else 0) = some x) :
    Does (.iterationExpiry p b) s (fun t => t.iterOf p.val (if b then 1 else 0) = none ∧ t.now = max s.now (x.last + sec 10) ∧
      t.regs = s.regs) := by
  refine Does.of_next (t := (s.advanceTo (x.last + sec 10)).setIter p.val (if b then 1 else 0) none) ?_
    ⟨State.iterOf_setIter_none _ _ _, ?_, ?_⟩
  · simp only [exec_iterationExpiry_arm, execIterationExpiry, h]
  · rw [State.setIter_now, State.advanceTo_now]
  · rw [State.setIter_regs, State.advanceTo_regs]

end

/-! ### The items of a NEXT (R214) -/

section
variable (s : State) (b : Bool) (since : Option Nat)

theorem State.length_nextItem (pos : Nat) (e : IdxEntry) (moving : Bool) : (s.nextItem b since pos e moving).length = 16 :=
  length_wordsBytes _

/-- One item more, as `nextItems` adds it. -/
def State.nextAdd (o : List Byte × State) (e : Nat × IdxEntry) : List Byte × State :=
  let (m, t) := if o.2.moveOpen b e.2 then o.2.draw 2 else (0, o.2)
  (o.1 ++ t.nextItem b since e.1 e.2 (m == 1), t)

theorem State.nextItems_eq_foldl (es : List (Nat × IdxEntry)) : s.nextItems b since es = es.foldl (State.nextAdd b since) ([], s) := rfl

theorem State.length_nextAdd (o : List Byte × State) (e : Nat × IdxEntry) : (State.nextAdd b since o e).1.length = o.1.length + 16 :=
  List.length_append.trans (congrArg (o.1.length + ·) (State.length_nextItem ..))

theorem State.length_nextItems (es : List (Nat × IdxEntry)) : (s.nextItems b since es).1.length = 16 * es.length := by
  have hf (l : List (Nat × IdxEntry)) (o : List Byte × State) : (l.foldl (State.nextAdd b since) o).1.length = o.1.length + 16 * l.length := by
    induction l generalizing o with
    | nil => rfl
    | cons e l ih =>
      rw [List.foldl_cons, ih, State.length_nextAdd, List.length_cons]
      omega
  rw [State.nextItems_eq_foldl, hf]
  exact Nat.zero_add _

theorem State.nextItems_ends (es : List (Nat × IdxEntry)) : (s.nextItems b since es).2.ends = s.ends :=
  (State.nextItems_within s b since es (Within.refl [.free] s) rfl).only .ends (by decide)

end

/-! ### NEXT (R214, R216) -/

/-- What a NEXT asks for: the index, the position to go on from and the greatest number of items. -/
abbrev nextIdx (c : CmdDesc) : Nat := if bitAt c.w1 5 then 1 else 0
abbrev nextFrom (c : CmdDesc) : Nat := bitsAt c.w2 0 20
abbrev nextCount (c : CmdDesc) : Nat := min 256 (bitsAt c.w1 6 9)

/-- The entries that it reports. -/
abbrev State.nextOut (s : State) (c : CmdDesc) : List (Nat × IdxEntry) :=
  ((s.idx (bitAt c.w1 5)).ents.filter (fun e => nextFrom c ≤ e.1 && s.panMay c.part.val (idxPan (bitAt c.w1 5) e.2.key))).take (nextCount c)

/-- The number of moves as its iteration began. -/
abbrev State.nextSince (s : State) (c : CmdDesc) : Option Nat :=
  if nextFrom c = 0 then some s.dir.moves else (s.iterOf c.part.val (nextIdx c)).map Iter.moves

/-- It goes on from a position without an open iteration. -/
abbrev State.nextUnguarded (s : State) (c : CmdDesc) : Bool := nextFrom c ≠ 0 && (s.iterOf c.part.val (nextIdx c)).isNone

/-- The position that the next NEXT goes on from. -/
abbrev State.nextAfter (s : State) (c : CmdDesc) : Nat :=
  if (s.nextOut c).length < nextCount c then idxEnd else ((s.nextOut c).getLast?.map (·.1 + 1)).getD idxEnd

/-- The octets of its items, and the state in which they have been read. -/
abbrev State.nextRead (s : State) (c : CmdDesc) : List Byte × State := s.nextItems (bitAt c.w1 5) (s.nextSince c) (s.nextOut c)

/-- The items stand in the buffer, and the iteration goes on or ends. -/
def State.nextDone (s : State) (c : CmdDesc) : State :=
  let s1 := (s.nextRead c).2.memWrite c.part.val (addr64 c.w4 c.w5) (s.nextRead c).1
  if s.nextUnguarded c then s1
  else if idxEnd ≤ s.nextAfter c then s1.setIter c.part.val (nextIdx c) none
  else s1.setIter c.part.val (nextIdx c) (some ⟨c.part.val, nextIdx c, s.nextAfter c, s.now, (s.nextSince c).getD 0⟩)

section
variable (s : State) (c : CmdDesc)

theorem State.nextDone_host : (s.nextDone c).host =
    ((s.nextRead c).2.memWrite c.part.val (addr64 c.w4 c.w5) (s.nextRead c).1).host := by
  unfold State.nextDone
  dsimp only
  split
  · rfl
  · split <;> rfl

theorem State.nextDone_ends : (s.nextDone c).ends = s.ends := by
  refine Eq.trans ?_ (s.nextItems_ends (bitAt c.w1 5) (s.nextSince c) (s.nextOut c))
  unfold State.nextDone
  dsimp only
  split
  · rfl
  · split <;> rfl

/-- The buffer holds the items. -/
theorem State.nextDone_memBytes (hl : 16 * (s.nextOut c).length ≤ 2 ^ 64) :
    (s.nextDone c).memBytes c.part.val (addr64 c.w4 c.w5) (16 * (s.nextOut c).length) = (s.nextRead c).1 := by
  rw [State.memBytes_of_host _ (s.nextDone_host c), ← s.length_nextItems (bitAt c.w1 5) (s.nextSince c) (s.nextOut c)]
  exact State.memBytes_memWrite _ _ _ _ (by rwa [State.length_nextItems])

theorem State.nextDone_iterOf (hg : s.nextUnguarded c = false) : (s.nextDone c).iterOf c.part.val (nextIdx c) =
    if idxEnd ≤ s.nextAfter c then none
    else some ⟨c.part.val, nextIdx c, s.nextAfter c, s.now, (s.nextSince c).getD 0⟩ := by
  unfold State.nextDone
  simp only [hg, Bool.false_eq_true, if_false]
  split
  · exact State.iterOf_setIter_none _ _ _
  · exact State.iterOf_setIter_some _ _ _ rfl rfl

end

section
variable {s : State} {c : CmdDesc}

theorem exec_next_unaligned (h : s.cmdTurn c = true) (ht : cmdTable c = 0) (hu : unaligned c.w4 c.w5 = true) :
    exec (.next c) s = .next ((s.cmdTake c).cmdBad c 8) := by
  simp only [exec_next_arm, execNext, State.dirRun_runs h ht, hu, if_true]

/-- Full or not, the items decide where the iteration goes on. -/
theorem State.nextAfter_eq (s : State) (c : CmdDesc) : (if (s.nextOut c).length = nextCount c then
    ((s.nextOut c).getLast?.map (·.1 + 1)).getD idxEnd else idxEnd) = s.nextAfter c := by
  have hl : (s.nextOut c).length ≤ nextCount c := List.length_take_le _ _
  by_cases he : (s.nextOut c).length = nextCount c
  · rw [if_pos he, State.nextAfter, if_neg (by omega)]
  · rw [if_neg he, State.nextAfter, if_pos (by omega)]

theorem exec_next (h : s.cmdTurn c = true) (ht : cmdTable c = 0) (hu : unaligned c.w4 c.w5 = false) (hn : 0 < bitsAt c.w1 6 9)
    (hc : nextFrom c < idxEnd) : exec (.next c) s = .next (((s.cmdTake c).nextDone c).cmdOk c [0x80000, 0, 0xFFFFF,
      nextWord (s.nextAfter c) (s.nextOut c).length (idxEnd ≤ s.nextAfter c) (s.nextUnguarded c)]) := by
  have hc' : ¬idxEnd ≤ nextFrom c := Nat.not_le.mpr hc
  have hn' : ¬nextCount c = 0 := by simp only [nextCount]; omega
  have ha : (if ((s.cmdTake c).nextOut c).length = nextCount c then
    (((s.cmdTake c).nextOut c).getLast?.map (·.1 + 1)).getD idxEnd else idxEnd) = s.nextAfter c := State.nextAfter_eq (s.cmdTake c) c
  rw [exec_next_arm, execNext, State.dirRun_runs h ht]
  refine congrArg _ ((if_neg (by rw [hu]; decide)).trans ((if_neg hn').trans ?_))
  dsimp only
  rw [ha, if_neg hc']
  simp only [hc', decide_false, Bool.or_false, decide_eq_true_eq]
  rfl

theorem Does.next (h : s.leads c = true) (ht : cmdTable c = 0) (hu : unaligned c.w4 c.w5 = false) (hn : 0 < bitsAt c.w1 6 9)
    (hc : nextFrom c < idxEnd) (hl : addr64 c.w4 c.w5 + 16 * (s.nextOut c).length ≤ 2 ^ 64) : Does (.next c) s (fun t =>
      t.memBytes c.part.val (addr64 c.w4 c.w5) (16 * (s.nextOut c).length) = ((s.cmdTake c).nextRead c).1 ∧
      t.completed c stOK [0x80000, 0, 0xFFFFF,
        nextWord (s.nextAfter c) (s.nextOut c).length (idxEnd ≤ s.nextAfter c) (s.nextUnguarded c)] 0 ∧
      (s.nextUnguarded c = false → t.iterOf c.part.val (nextIdx c) =
        if idxEnd ≤ s.nextAfter c then none
        else some ⟨c.part.val, nextIdx c, s.nextAfter c, s.now, (s.nextSince c).getD 0⟩)) := by
  refine Does.of_next (exec_next (s.leads_turn c h) ht hu hn hc) ⟨?_, ?_, fun hg => ?_⟩
  · rw [State.cmdOk_memBytes]
    exact (s.cmdTake c).nextDone_memBytes c (Nat.le_of_add_left_le hl)
  · exact State.cmdOk_completed _ c _ (State.clearFor_of_ends ((s.cmdTake c).nextDone_ends c) (s.leads_clear c h))
  · exact (s.cmdTake c).nextDone_iterOf c hg

/-- A walk of an empty index A ends at once. -/
theorem Does.next_empty (h : s.leads c = true) (ht : cmdTable c = 0) (hu : unaligned c.w4 c.w5 = false) (hn : 0 < bitsAt c.w1 6 9)
    (hc : nextFrom c = 0) (hi : bitAt c.w1 5 = false) (he : s.dir.a.ents = []) : Does (.next c) s (fun t =>
      t.iterOf c.part.val 0 = none ∧ t.completed c stOK [0x80000, 0, 0xFFFFF, nextWord idxEnd 0 true false] 0) := by
  have hout : s.nextOut c = [] := by simp [State.nextOut, hi, State.idx, he]
  have hafter : s.nextAfter c = idxEnd := if_pos (by rw [hout]; simp only [nextCount, List.length_nil]; omega)
  have hidx : nextIdx c = 0 := if_neg (ne_true_of_eq_false hi)
  have hg : s.nextUnguarded c = false := by simp [State.nextUnguarded, hc]
  have hlen : addr64 c.w4 c.w5 + 16 * (s.nextOut c).length ≤ 2 ^ 64 := by
    rw [hout, addr64]
    have h4 := c.w4.isLt
    have h5 := c.w5.isLt
    simp only [List.length_nil]
    omega
  obtain ⟨t, hx, -, hcomp, hiter⟩ := Does.next h ht hu hn (by rw [hc]; decide) hlen
  rw [hafter, hout, hg] at hcomp
  have hi0 := hiter hg
  rw [hafter, hidx] at hi0
  exact Does.of_next hx ⟨hi0.trans (if_pos le_rfl), hcomp⟩

end

/-! ### Flushes (R223) -/

section
variable {s : State} {c : CmdDesc}

/-- A flush is queued behind the others. -/
def State.flushQueued (s : State) (p port : Nat) : State :=
  { s with
    dir := { s.dir with
      flushes := s.dir.flushes ++ [⟨s.dir.nextFlush, p, port, none, false, 0, 0, 0⟩]
      nextFlush := (s.dir.nextFlush + 1) % 256 }
    pwr := { s.pwr with idleSince := none } }

theorem exec_flushByPort_table (h : s.cmdTurn c = true) (ht : cmdTable c ≠ 0) :
    exec (.flushByPort c) s = .next ((s.cmdTake c).cmdBad c 2) := by
  rw [exec_flushByPort_arm, execFlushByPort]
  exact congrArg _ ((if_neg (by rw [h]; decide)).trans (if_pos ht))

theorem Does.flushByPort_all (h : s.leads c = true) (ht : cmdTable c = 0) (hall : bitAt c.w1 11 = true)
    (hp : bindPortOk c.part.val (bitsAt c.w1 5 6) = true) (hl : s.dir.flushes.length < 8) : Does (.flushByPort c) s (fun t =>
      t.dir.flushes = s.dir.flushes ++ [⟨s.dir.nextFlush, c.part.val, bitsAt c.w1 5 6, none, false, 0, 0, 0⟩] ∧
      t.dir.nextFlush = (s.dir.nextFlush + 1) % 256 ∧ t.completed c stOK [0x80000, 0, 0xFFFFF, w32 s.dir.nextFlush] 0 ∧ t.regs = s.regs) := by
  have hl' : ¬8 ≤ (s.cmdTake c).dir.flushes.length := Nat.not_le.mpr hl
  refine Does.of_next (t := ((s.cmdTake c).flushQueued c.part.val (bitsAt c.w1 5 6)).cmdOk c
    [0x80000, 0, 0xFFFFF, w32 s.dir.nextFlush]) ?_ ⟨rfl, rfl, ?_, rfl⟩
  · simp only [exec_flushByPort_arm, execFlushByPort, s.leads_turn c h, ht, hall, hp, hl', Bool.not_true, Bool.false_and, Bool.false_eq_true,
      ne_eq, not_true, if_false, if_true]
    rfl
  · exact State.cmdOk_completed _ c _ (State.clearFor_of_ends (s := s) rfl (s.leads_clear c h))

theorem exec_flushPassStart {j : FlushJob} {r : List FlushJob} (h : s.dir.flushes = j :: r) (hj : j.running = false)
    (hr : r.all (fun x => !x.running) = true) : exec .flushPassStart s = .next (s.setFlush { j with running := true, pos := 0 }) := by
  have hn : s.flushNow = none := by
    rw [State.flushNow, h, List.find?_cons_of_neg (by simp [hj]), List.find?_eq_none]
    exact fun x hx => by simpa using List.all_eq_true.mp hr x hx
  simp only [exec_flushPassStart_arm, execFlushPassStart, hn, h]

theorem exec_flushDone_none (h : s.flushNow = none) : exec .flushDone s = .next s := by
  simp only [exec_flushDone_arm, execFlushDone, h]

/-- The running flush that is replaced by another state of it is still the one that runs. -/
theorem find?_running_map {j k : FlushJob} (hk : k.id = j.id) (hr : k.running = true) {l : List FlushJob}
    (h : l.find? (·.running) = some j) : (l.map (fun x => if x.id = k.id then k else x)).find? (·.running) = some k := by
  induction l with
  | nil => cases h
  | cons x l ih =>
    rw [List.map_cons]
    by_cases hx : x.id = k.id
    · rw [if_pos hx]
      exact List.find?_cons_of_pos hr
    · by_cases hrun : x.running = true
      · rw [List.find?_cons_of_pos hrun] at h
        exact absurd ((congrArg FlushJob.id (Option.some.inj h)).trans hk.symm) hx
      · rw [if_neg hx, List.find?_cons_of_neg hrun]
        rw [List.find?_cons_of_neg hrun] at h
        exact ih h

theorem State.flushNow_setFlush {j k : FlushJob} (h : s.flushNow = some j) (hk : k.id = j.id) (hr : k.running = true) :
    (s.setFlush k).flushNow = some k := find?_running_map hk hr h

/-- Without the flushes of an identifier, a new state of such a flush makes no difference. -/
theorem filter_id_map (k : FlushJob) (l : List FlushJob) :
    (l.map (fun x => if x.id = k.id then k else x)).filter (fun x => x.id ≠ k.id) = l.filter (fun x => x.id ≠ k.id) := by
  induction l with
  | nil => rfl
  | cons x l ih =>
    rw [List.map_cons]
    by_cases hx : x.id = k.id
    · rw [if_pos hx, List.filter_cons_of_neg (by simp), List.filter_cons_of_neg (by simp [hx]), ih]
    · rw [if_neg hx, List.filter_cons_of_pos (by simp [hx]), List.filter_cons_of_pos (by simp [hx]), ih]

/-- In an empty index A the running flush has nothing to visit. -/
theorem State.flushVisit_empty {j : FlushJob} (h : s.flushNow = some j) (he : s.dir.a.ents = []) (hi n : Nat) :
    s.flushVisit hi (n + 1) = s.setFlush { j with pos := max j.pos hi } := by
  simp only [State.flushVisit, h, he, List.find?_nil]

/-- The flushes but those of an identifier. -/
def State.flushDropped (s : State) (id : Nat) : State := { s with dir := { s.dir with flushes := s.dir.flushes.filter (fun x => x.id ≠ id) } }

theorem Does.flushDone_empty {j : FlushJob} (h : s.flushNow = some j) (he : s.dir.a.ents = []) : Does .flushDone s (fun t =>
    t.dir.flushes = s.dir.flushes.filter (fun x => x.id ≠ j.id) ∧
    t.raised 17 (w32 (j.id + j.port * 2 ^ 8)) (w32 j.deleted) (w32 j.cleared) ∧ t.regs = s.regs) := by
  have hr : j.running = true := List.find?_some (p := fun x : FlushJob => x.running) h
  have hnow := State.flushNow_setFlush (k := { j with pos := max j.pos idxEnd }) h rfl hr
  refine Does.of_next (t := ((s.setFlush { j with pos := max j.pos idxEnd }).flushDropped j.id).evtF 17 (2 ^ j.part)
    (w32 (j.id + j.port * 2 ^ 8)) (w32 j.deleted) (w32 j.cleared)) ?_ ⟨?_, State.evtF_raised _ _ _ _ _ (by decide), rfl⟩
  · simp only [exec_flushDone_arm, execFlushDone, h, State.flushVisit_empty h he, hnow, Option.getD_some]
    rfl
  · exact filter_id_map { j with pos := max j.pos idxEnd } s.dir.flushes

end

/-! ### The sweeper (R220) -/

section
variable {s : State}

/-- The sweeper has passed its position. -/
def State.sweepPassed (s : State) : State :=
  { s with dir := { s.dir with sweepPos := if idxEnd ≤ s.dir.sweepPos + 1 then 0 else s.dir.sweepPos + 1 } }

theorem exec_sweeperVisit_off (h : s.sweepS = 0) : exec .sweeperVisit s = .next s := by
  rw [exec_sweeperVisit_arm, execSweeperVisit, if_pos h]

theorem exec_sweeperVisit_vacant (h : s.sweepS ≠ 0) (he : s.dir.a.at s.dir.sweepPos = none) : exec .sweeperVisit s = .next s.sweepPassed := by
  simp only [exec_sweeperVisit_arm, execSweeperVisit, h, he, if_false]
  rfl

theorem exec_sweeperVisit_hit {e : IdxEntry} (h : s.sweepS ≠ 0) (he : s.dir.a.at s.dir.sweepPos = some e) (hh : e.hit = true) :
    exec .sweeperVisit s = .next (s.sweepPassed.idxMark s.dir.sweepPos false false) := by
  simp only [exec_sweeperVisit_arm, execSweeperVisit, h, he, hh, if_false, if_true]
  rfl

/-- An entry that is marked keeps its key and its record. -/
theorem State.idxMark_eq {pos : Nat} {e : IdxEntry} (he : s.dir.a.at pos = some e) (hit aged : Bool) :
    s.idxMark pos hit aged = s.setIdx false (s.dir.a.put pos { e with hit := hit, aged := aged }) := by
  rw [State.idxMark, he]

theorem Does.sweeperVisit_vacant (h : s.sweepS ≠ 0) (he : s.dir.a.at s.dir.sweepPos = none) : Does .sweeperVisit s (fun t =>
    t.ndir = s.ndir ∧ t.regs = s.regs ∧
      t.dir = { s.dir with sweepPos := if idxEnd ≤ s.dir.sweepPos + 1 then 0 else s.dir.sweepPos + 1 }) :=
  Does.of_next (exec_sweeperVisit_vacant h he) ⟨rfl, rfl, rfl⟩

theorem Does.sweeperVisit_hit {e : IdxEntry} (h : s.sweepS ≠ 0) (he : s.dir.a.at s.dir.sweepPos = some e) (hh : e.hit = true) :
    Does .sweeperVisit s (fun t => (t.dir.a.at s.dir.sweepPos).map (fun x => (x.key, x.ord, x.hit, x.aged)) = some (e.key, e.ord, false, false) ∧
      t.ndir = s.ndir) := by
  have hm := State.idxMark_eq (s := s.sweepPassed) he false false
  refine Does.of_next ((exec_sweeperVisit_hit h he hh).trans (congrArg _ hm)) ⟨?_, rfl⟩
  exact congrArg _ (s.dir.a.at_put s.dir.sweepPos { e with hit := false, aged := false })

end

/-! ### What firmware has rebuilt (R371) -/

section
variable {s : State} {b : Bool} {i : Fin 135168}

theorem exec_bucketRebuildDone_none (h : s.dir.lost = []) : exec (.bucketRebuildDone b i) s = .next s := by
  simp only [exec_bucketRebuildDone_arm, execBucketRebuildDone, h, List.find?_nil]

/-- The only lost bucket, which held no entries, is whole again. -/
theorem Does.bucketRebuildDone_last {l : Nat × Nat × List (Nat × IdxEntry)} (h : s.dir.lost = [l]) (hb : l.1 = (if b then 1 else 0))
    (hi : l.2.1 = i.val) (he : l.2.2 = []) : Does (.bucketRebuildDone b i) s (fun t =>
      t.dir.lost = [] ∧ t.dir.a = s.dir.a ∧ t.dir.b = s.dir.b) := by
  refine Does.of_next (t := ({ s with dir := { s.dir with lost := [] } } : State).dirSync) ?_ ⟨rfl, rfl, rfl⟩
  have hf : [l].find? (fun l => l.1 = (if b then 1 else 0) && l.2.1 = i.val) = some l := List.find?_cons_of_pos (by simp [hb, hi])
  simp only [exec_bucketRebuildDone_arm, execBucketRebuildDone, hf, he, List.filter_nil, List.foldl_nil, h, List.erase_cons_head]

end

/-! ### The obligation -/

/-- Settles O45: NEXT through the entries that it reports and the iteration that it leaves, the others by their cases. -/
theorem directoryWalks : Obligations.DirectoryWalks :=
  fun _ _ _ _ _ => ⟨exec_next_unaligned, fun h ht hu hn hc _ hl => Does.next h ht hu hn hc hl, Does.next_empty,
    fun _ => Does.iterationExpiry _, Does.flushByPort_all, exec_flushByPort_table, fun _ _ => exec_flushPassStart,
    fun _ => Does.flushDone_empty, exec_flushDone_none, Does.sweeperVisit_vacant, fun _ => Does.sweeperVisit_hit, exec_sweeperVisit_off,
    fun _ => Does.bucketRebuildDone_last, exec_bucketRebuildDone_none⟩

end Sys2Proof.Machine
end

section
/-! O46: the commands on prefixes (R227 to R233). Each one runs in its turn with `TABLE` 1 while no mode change is under way; the registers that show
the tables follow every change, and nothing but them. -/

set_option Elab.async false

namespace Sys2Proof.Machine

/-! ### The arms of `exec` -/

section
variable (s : State) (c : CmdDesc) (p : Part) (data : Word)

theorem exec_prefixSearch_arm : exec (.prefixSearch c) s = execPrefixSearch c s := rfl
theorem exec_prefixInsert_arm : exec (.prefixInsert c) s = execPrefixInsert c s := rfl
theorem exec_prefixDelete_arm : exec (.prefixDelete c) s = execPrefixDelete c s := rfl
theorem exec_prefixUpdate_arm : exec (.prefixUpdate c) s = execPrefixUpdate c s := rfl
theorem exec_prefixNext_arm : exec (.prefixNext c) s = execPrefixNext c s := rfl
theorem exec_filterRebuildDone_arm : exec .filterRebuildDone s = execFilterRebuildDone s := rfl
theorem exec_lpmModeChange_arm : exec (.lpmModeChange p data) s = execLpmModeChange p data s := rfl
theorem exec_lpmModeChangeDone_arm : exec .lpmModeChangeDone s = execLpmModeChangeDone s := rfl

end

/-! ### A command on prefixes runs (R229, R233) -/

/-- A command on prefixes is due and no mode change is under way. -/
abbrev State.prefixRuns (s : State) (c : CmdDesc) : Prop := s.cmdTurn c = true ∧ cmdTable c = 1 ∧ s.lpmChanging = false

/-- And it leads its family. -/
abbrev State.prefixLeads (s : State) (c : CmdDesc) : Prop := s.leads c = true ∧ cmdTable c = 1 ∧ s.lpmChanging = false

section
variable {s : State} {c : CmdDesc}

theorem State.prefixLeads.runs (h : s.prefixLeads c) : s.prefixRuns c := ⟨s.leads_turn c h.1, h.2⟩

/-- Its completion goes as it completes, whatever it does to anything but the completions. -/
theorem State.prefixLeads.completed (h : s.prefixLeads c) {t : State} (ws : List Word) (he : t.ends = s.ends := by rfl) :
    (t.cmdOk c ws).completed c stOK ws 0 := State.cmdOk_completed _ c _ (State.clearFor_of_ends he (s.leads_clear c h.1))

theorem State.prefixRun_runs (h : s.prefixRuns c) (f : State → State) : s.prefixRun c f = f (s.cmdTake c) := by
  obtain ⟨hturn, ht, hm⟩ := h
  exact (if_neg (by simp [ht, hturn])).trans (if_neg (ne_true_of_eq_false hm))

theorem State.prefixRun_changing (h : s.cmdTurn c = true) (ht : cmdTable c = 1) (hm : s.lpmChanging = true) (f : State → State) :
    s.prefixRun c f = (s.cmdTake c).cmdBad c 12 := (if_neg (by simp [ht, h])).trans (if_pos hm)

/-- Whatever the command, it is refused while the mode changes. -/
theorem exec_prefix_changing (h : s.cmdTurn c = true) (ht : cmdTable c = 1) (hm : s.lpmChanging = true) :
    exec (.prefixSearch c) s = .next ((s.cmdTake c).cmdBad c 12) ∧ exec (.prefixInsert c) s = .next ((s.cmdTake c).cmdBad c 12) ∧
    exec (.prefixDelete c) s = .next ((s.cmdTake c).cmdBad c 12) ∧ exec (.prefixUpdate c) s = .next ((s.cmdTake c).cmdBad c 12) ∧
    exec (.prefixNext c) s = .next ((s.cmdTake c).cmdBad c 12) :=
  have hr (f : State → State) := congrArg (Host.Outcome.next (φ := Fault) (ρ := Refusal)) (State.prefixRun_changing h ht hm f)
  ⟨hr _, hr _, hr _, hr _, hr _⟩

end

/-! ### The registers that show the tables -/

section
variable (s : State)

theorem State.lpmSync_only : s.lpmSync.lpm = s.lpm ∧ s.lpmSync.ends = s.ends := by
  have h := State.lpmSync_within s (Within.refl [.regs] s) rfl
  exact ⟨h.only .lpm (by decide), h.only .ends (by decide)⟩

/-- They are the prefixes and nodes in use and the lengths in use. -/
theorem State.rd_lpmSync_ne {k : Nat} (hu : k ≠ R.LPM_USE) (hn : k ≠ R.LPM_NODES) (hl : ∀ i < 5, k ≠ R.LPM_LENGTHS i) :
    s.lpmSync.rd k = s.rd k := by
  unfold State.lpmSync
  dsimp only
  refine List.foldlRecOn (motive := fun u : State => u.rd k = s.rd k) _ _
    ((State.rd_setFld_ne _ _ _ hn).trans (s.rd_setFld_ne _ _ hu)) (fun u hk i hi => ?_)
  exact (u.rd_wr_ne _ (hl i (List.mem_range.mp hi))).trans hk

/-- Of the tables, the prefixes alone are replaced. -/
theorem State.setPrefixes_only (l : List (Nat × Prefix)) :
    (s.setPrefixes l).lpm = { s.lpm with prefixes := l } ∧ (s.setPrefixes l).ends = s.ends :=
  State.lpmSync_only { s with lpm := { s.lpm with prefixes := l } }

/-- Few deleted prefixes start no rebuild. -/
theorem State.filterCheck_few (h : s.lpm.ghosts.length < 65536) : s.filterCheck = s :=
  if_neg (by rw [Bool.and_eq_true_iff, decide_eq_true_eq]; omega)

variable {s} {c : CmdDesc} {x : Instr} {l : List (Nat × Prefix)} {ws : List Word}

/-- A command that replaces the prefixes and completes. -/
theorem Does.setPrefixes (h : s.prefixLeads c) (he : exec x s = .next (((s.cmdTake c).setPrefixes l).cmdOk c ws)) :
    Does x s (fun t => t.lpm.prefixes = l ∧ t.completed c stOK ws 0) :=
  have ⟨hl, hends⟩ := (s.cmdTake c).setPrefixes_only l
  Does.of_next he ⟨congrArg LpmSt.prefixes hl, h.completed ws hends⟩

end

/-! ### PREFIX_SEARCH (R228 to R230) -/

section
variable {s : State} {c : CmdDesc} {i : Nat} {y : Prefix} (h : s.prefixLeads c)
include h

theorem Does.prefixSearch_longest (h8 : bitAt c.w1 8 = true) (hy : longest (s.prefixesOf c.part.val) (cmdAddr c) = some (i, y)) :
    Does (.prefixSearch c) s (fun t => t.completed c stOK (prefixWords i y) 0 ∧ t.lpm = s.lpm) := by
  have hy' : longest ((s.cmdTake c).prefixesOf c.part.val) (cmdAddr c) = some (i, y) := hy
  refine Does.of_next (t := ((s.cmdTake c).lpmReads ((s.cmdTake c).prefixesOf c.part.val) (cmdAddr c)).cmdOk c (prefixWords i y)) ?_
    ⟨h.completed _, rfl⟩
  simp only [exec_prefixSearch_arm, execPrefixSearch, State.prefixRun_runs h.runs, h8, hy', if_true]

theorem Does.prefixSearch_exact (h8 : bitAt c.w1 8 = false) (hl : cmdLen c ≤ 128)
    (hy : exactPrefix (s.prefixesOf c.part.val) c = some (i, y)) :
    Does (.prefixSearch c) s (fun t => t.completed c stOK (prefixWords i y) 0 ∧ t.lpm = s.lpm ∧ t.regs = s.regs) := by
  have hy' : exactPrefix ((s.cmdTake c).prefixesOf c.part.val) c = some (i, y) := hy
  have hl' : ¬128 < cmdLen c := Nat.not_lt.mpr hl
  refine Does.of_next (t := (s.cmdTake c).cmdOk c (prefixWords i y)) ?_ ⟨h.completed _, rfl, rfl⟩
  simp only [exec_prefixSearch_arm, execPrefixSearch, State.prefixRun_runs h.runs, h8, hl', hy', Bool.false_eq_true, if_false]

end

/-! ### The checks of PREFIX_INSERT, PREFIX_DELETE and PREFIX_UPDATE (R227, R229) -/

section
variable {s : State} {c : CmdDesc} (h : s.prefixRuns c)
include h

theorem exec_prefix_long (hl : 128 < cmdLen c) : exec (.prefixInsert c) s = .next ((s.cmdTake c).cmdBad c 9) ∧
    exec (.prefixDelete c) s = .next ((s.cmdTake c).cmdBad c 9) ∧ exec (.prefixUpdate c) s = .next ((s.cmdTake c).cmdBad c 9) := by
  simp only [exec_prefixInsert_arm, execPrefixInsert, exec_prefixDelete_arm, execPrefixDelete, exec_prefixUpdate_arm, execPrefixUpdate,
    State.prefixRun_runs h, hl, if_true, and_self]

theorem exec_prefix_result (hl : cmdLen c ≤ 128) (hr : s.resultCause c.part.val c.w6 ≠ 0) :
    exec (.prefixInsert c) s = .next ((s.cmdTake c).cmdBad c (s.resultCause c.part.val c.w6)) ∧
    exec (.prefixUpdate c) s = .next ((s.cmdTake c).cmdBad c (s.resultCause c.part.val c.w6)) := by
  have hl' : ¬128 < cmdLen c := Nat.not_lt.mpr hl
  have he : (s.cmdTake c).resultCause c.part.val c.w6 = s.resultCause c.part.val c.w6 := rfl
  simp only [exec_prefixInsert_arm, execPrefixInsert, exec_prefixUpdate_arm, execPrefixUpdate, State.prefixRun_runs h, hl', he, ne_eq, hr,
    not_false_eq_true, if_true, if_false, and_self]

theorem exec_prefixInsert_present (hl : cmdLen c ≤ 128) (hr : s.resultCause c.part.val c.w6 = 0)
    (hx : (exactPrefix s.lpm.prefixes c).isSome = true) : exec (.prefixInsert c) s = .next ((s.cmdTake c).cmdBad c 3) := by
  have hl' : ¬128 < cmdLen c := Nat.not_lt.mpr hl
  have hr' : (s.cmdTake c).resultCause c.part.val c.w6 = 0 := hr
  have hx' : (exactPrefix (s.cmdTake c).lpm.prefixes c).isSome = true := hx
  simp only [exec_prefixInsert_arm, execPrefixInsert, State.prefixRun_runs h, hl', hr', hx', ne_eq, not_true, if_true, if_false]

end

/-! ### PREFIX_INSERT in either mode (R227, R231, R232) -/

/-- What a command brings to the table, as mode T holds it. -/
abbrev cmdPrefix (c : CmdDesc) : Prefix :=
  { bits := maskTo (cmdLen c) (cmdAddr c), len := cmdLen c, owner := c.part.val, result := c.w6 &&& 0x7FFFFF, bucket := 0 }

/-- The emptier of its two buckets in mode H. -/
abbrev State.prefixHome (s : State) (c : CmdDesc) : Nat :=
  let buckets := lpmBuckets (cmdLen c) (cmdPrefix c).bits
  if s.lpmFill buckets.2 < s.lpmFill buckets.1 then buckets.2 else buckets.1

/-- It is well formed, its result is the partition's to name, and it is not yet stored. -/
abbrev State.prefixFresh (s : State) (c : CmdDesc) : Prop :=
  cmdLen c ≤ 128 ∧ s.resultCause c.part.val c.w6 = 0 ∧ (exactPrefix s.lpm.prefixes c).isSome = false

/-- The number of prefixes that a mode holds. -/
abbrev State.prefixRoom (s : State) : Nat := if s.modeH then 1048576 else 65536

/-- What a command brings takes its place under an identifier, within the limits of the mode. -/
def State.prefixPlace (s : State) (c : CmdDesc) (i : Nat) : State :=
  if s.modeH && 4 ≤ s.lpmFill (s.prefixHome c) then s.cmdDone c stINSERT_FULL [] 3 2
  else if !s.modeH && 8192 < lpmNodes (s.lpm.prefixes ++ [(i, cmdPrefix c)]) then s.cmdDone c stINSERT_FULL [] 3 1
  else
    let y := if s.modeH then { cmdPrefix c with bucket := s.prefixHome c } else cmdPrefix c
    (s.setPrefixes (aput i y (adel i s.lpm.prefixes))).cmdOk c (prefixWords i y)

section
variable (s : State) {c : CmdDesc} {i : Nat}

theorem State.prefixPlace_noNodes (hm : s.modeH = false) (hn : 8192 < lpmNodes (s.lpm.prefixes ++ [(i, cmdPrefix c)])) :
    s.prefixPlace c i = s.cmdDone c stINSERT_FULL [] 3 1 := by
  simp only [State.prefixPlace, hm, hn, decide_true, Bool.false_and, Bool.not_false, Bool.and_self, Bool.false_eq_true, if_false, if_true]

theorem State.prefixPlace_trie (hm : s.modeH = false) (hn : lpmNodes (s.lpm.prefixes ++ [(i, cmdPrefix c)]) ≤ 8192) : s.prefixPlace c i =
    (s.setPrefixes (aput i (cmdPrefix c) (adel i s.lpm.prefixes))).cmdOk c (prefixWords i (cmdPrefix c)) := by
  simp only [State.prefixPlace, hm, Nat.not_lt.mpr hn, decide_false, Bool.false_and, Bool.and_false, Bool.false_eq_true, if_false]

theorem State.prefixPlace_noWay (hm : s.modeH = true) (hn : 4 ≤ s.lpmFill (s.prefixHome c)) :
    s.prefixPlace c i = s.cmdDone c stINSERT_FULL [] 3 2 := by
  simp only [State.prefixPlace, hm, hn, decide_true, Bool.and_self, if_true]

theorem State.prefixPlace_hash (hm : s.modeH = true) (hn : s.lpmFill (s.prefixHome c) < 4) : s.prefixPlace c i =
    (s.setPrefixes (aput i { cmdPrefix c with bucket := s.prefixHome c } (adel i s.lpm.prefixes))).cmdOk c
      (prefixWords i (cmdPrefix c)) := by
  simp only [State.prefixPlace, hm, Nat.not_le.mpr hn, decide_false, Bool.not_true, Bool.false_and, Bool.and_false, Bool.false_eq_true,
    if_false, if_true]
  rfl

end

section
variable {s : State} {c : CmdDesc}

theorem State.idLowest_of_lpm {t : State} (h : t.lpm = s.lpm) (n i : Nat) : t.idLowest n i = s.idLowest n i := by
  induction n generalizing i with
  | zero => rfl
  | succ n ih => rw [State.idLowest, State.idLowest, h, ih]

section
variable (h : s.prefixRuns c) (hf : s.prefixFresh c)
include h hf

/-- What may be stored takes the lowest identifier, if one is left. -/
theorem exec_prefixInsert_fresh : exec (.prefixInsert c) s = .next ((s.idLowest s.prefixRoom 0).elim
    ((s.cmdTake c).cmdDone c stINSERT_FULL [] 3 0) (fun i => (s.cmdTake c).prefixPlace c i)) := by
  obtain ⟨hl, hr, hx⟩ := hf
  have hl' : ¬128 < cmdLen c := Nat.not_lt.mpr hl
  have hr' : (s.cmdTake c).resultCause c.part.val c.w6 = 0 := hr
  have hx' : (exactPrefix (s.cmdTake c).lpm.prefixes c).isSome = false := hx
  have hi : (s.cmdTake c).idLowest (s.cmdTake c).prefixRoom 0 = s.idLowest s.prefixRoom 0 :=
    State.idLowest_of_lpm (s := s) (t := s.cmdTake c) rfl _ _
  simp only [exec_prefixInsert_arm, execPrefixInsert, State.prefixRun_runs h, hl', hr', hx', hi, ne_eq, not_true, Bool.false_eq_true,
    if_false]
  cases s.idLowest s.prefixRoom 0 <;> rfl

theorem exec_prefixInsert_noId (hi : s.idLowest s.prefixRoom 0 = none) :
    exec (.prefixInsert c) s = .next ((s.cmdTake c).cmdDone c stINSERT_FULL [] 3 0) := by
  rw [exec_prefixInsert_fresh h hf, hi]
  rfl

theorem exec_prefixInsert_id {i : Nat} (hi : s.idLowest s.prefixRoom 0 = some i) :
    exec (.prefixInsert c) s = .next ((s.cmdTake c).prefixPlace c i) := by
  rw [exec_prefixInsert_fresh h hf, hi]
  rfl

section
variable {i : Nat} (hm : s.modeH = false) (hi : s.idLowest 65536 0 = some i)
include hm hi

theorem exec_prefixInsert_noNodes (hn : 8192 < lpmNodes (s.lpm.prefixes ++ [(i, cmdPrefix c)])) :
    exec (.prefixInsert c) s = .next ((s.cmdTake c).cmdDone c stINSERT_FULL [] 3 1) :=
  (exec_prefixInsert_id h hf (by rwa [State.prefixRoom, hm])).trans (congrArg _ (State.prefixPlace_noNodes _ hm hn))

theorem exec_prefixInsert_trie (hn : lpmNodes (s.lpm.prefixes ++ [(i, cmdPrefix c)]) ≤ 8192) : exec (.prefixInsert c) s =
    .next (((s.cmdTake c).setPrefixes (aput i (cmdPrefix c) (adel i s.lpm.prefixes))).cmdOk c (prefixWords i (cmdPrefix c))) :=
  (exec_prefixInsert_id h hf (by rwa [State.prefixRoom, hm])).trans (congrArg _ (State.prefixPlace_trie _ hm hn))

end

section
variable {i : Nat} (hm : s.modeH = true) (hi : s.idLowest 1048576 0 = some i)
include hm hi

theorem exec_prefixInsert_noWay (hn : 4 ≤ s.lpmFill (s.prefixHome c)) :
    exec (.prefixInsert c) s = .next ((s.cmdTake c).cmdDone c stINSERT_FULL [] 3 2) :=
  (exec_prefixInsert_id h hf (by rwa [State.prefixRoom, hm])).trans (congrArg _ (State.prefixPlace_noWay _ hm hn))

theorem exec_prefixInsert_hash (hn : s.lpmFill (s.prefixHome c) < 4) : exec (.prefixInsert c) s =
    .next (((s.cmdTake c).setPrefixes (aput i { cmdPrefix c with bucket := s.prefixHome c } (adel i s.lpm.prefixes))).cmdOk c
      (prefixWords i (cmdPrefix c))) :=
  (exec_prefixInsert_id h hf (by rwa [State.prefixRoom, hm])).trans (congrArg _ (State.prefixPlace_hash _ hm hn))

end

end

/-! ### PREFIX_DELETE and PREFIX_UPDATE (R227, R232) -/

variable {i : Nat} {y : Prefix}

theorem exec_prefixDelete (h : s.prefixRuns c) (hm : s.modeH = false) (hl : cmdLen c ≤ 128)
    (hy : exactPrefix (s.prefixesOf c.part.val) c = some (i, y)) (hg : s.lpm.ghosts = []) : exec (.prefixDelete c) s =
      .next (((s.cmdTake c).setPrefixes (adel i s.lpm.prefixes)).cmdOk c (prefixWords i y)) := by
  have hl' : ¬128 < cmdLen c := Nat.not_lt.mpr hl
  have hy' : exactPrefix ((s.cmdTake c).prefixesOf c.part.val) c = some (i, y) := hy
  have hm' : (s.cmdTake c).modeH = false := hm
  have hf : ((s.cmdTake c).setPrefixes (adel i s.lpm.prefixes)).filterCheck = (s.cmdTake c).setPrefixes (adel i s.lpm.prefixes) :=
    State.filterCheck_few _ (by rw [(State.setPrefixes_only _ _).1]; exact hg ▸ Nat.zero_lt_succ 65535)
  simp only [exec_prefixDelete_arm, execPrefixDelete, State.prefixRun_runs h, hl', hy', hm', Bool.false_eq_true, if_false]
  exact congrArg (fun t => Host.Outcome.next (State.cmdOk t c (prefixWords i y))) hf

theorem exec_prefixUpdate (h : s.prefixRuns c) (hl : cmdLen c ≤ 128) (hr : s.resultCause c.part.val c.w6 = 0)
    (hy : exactPrefix (s.prefixesOf c.part.val) c = some (i, y)) : exec (.prefixUpdate c) s =
      .next (((s.cmdTake c).setPrefixes (aput i { y with result := c.w6 &&& 0x7FFFFF } (adel i s.lpm.prefixes))).cmdOk c
        (prefixWords i { y with result := c.w6 &&& 0x7FFFFF })) := by
  have hl' : ¬128 < cmdLen c := Nat.not_lt.mpr hl
  have hr' : (s.cmdTake c).resultCause c.part.val c.w6 = 0 := hr
  have hy' : exactPrefix ((s.cmdTake c).prefixesOf c.part.val) c = some (i, y) := hy
  simp only [exec_prefixUpdate_arm, execPrefixUpdate, State.prefixRun_runs h, hl', hr', hy', ne_eq, not_true, if_false]
  rfl

end

/-! ### PREFIX_NEXT (R230) -/

/-- The prefixes that a PREFIX_NEXT reports. -/
abbrev State.prefixOut (s : State) (c : CmdDesc) : List (Nat × Prefix) :=
  ((s.prefixesOf c.part.val).filter (fun e => bitsAt c.w2 0 20 ≤ e.1)).take (min 256 (bitsAt c.w1 9 9))

/-- The identifier that the next one goes on from. -/
abbrev State.prefixAfter (s : State) (c : CmdDesc) : Nat :=
  if (s.prefixOut c).length < min 256 (bitsAt c.w1 9 9) then s.prefixRoom else ((s.prefixOut c).getLast?.map (·.1 + 1)).getD s.prefixRoom

/-- The octets of its items. -/
abbrev prefixItems (l : List (Nat × Prefix)) : List Byte := l.flatMap (fun e => prefixItem e.1 e.2)

theorem length_prefixItem (i : Nat) (x : Prefix) : (prefixItem i x).length = 32 := length_wordsBytes _

theorem length_prefixItems (l : List (Nat × Prefix)) : (prefixItems l).length = 32 * l.length := by
  induction l with
  | nil => rfl
  | cons e l ih => rw [prefixItems, List.flatMap_cons, List.length_append, length_prefixItem, ih, List.length_cons, Nat.mul_succ, Nat.add_comm]

section
variable {s : State} {c : CmdDesc}

/-- Full or not, the items decide where the iteration goes on. -/
theorem State.prefixAfter_eq (hc : bitsAt c.w2 0 20 < s.prefixRoom) : (if (s.prefixOut c).length = min 256 (bitsAt c.w1 9 9) then
    ((s.prefixOut c).getLast?.map (·.1 + 1)).getD s.prefixRoom else max (bitsAt c.w2 0 20) s.prefixRoom) = s.prefixAfter c := by
  have hl : (s.prefixOut c).length ≤ min 256 (bitsAt c.w1 9 9) := List.length_take_le _ _
  by_cases he : (s.prefixOut c).length = min 256 (bitsAt c.w1 9 9)
  · rw [if_pos he, State.prefixAfter, if_neg (by omega)]
  · rw [if_neg he, State.prefixAfter, if_pos (by omega), Nat.max_eq_right (Nat.le_of_lt hc)]

theorem exec_prefixNext (h : s.prefixRuns c) (hu : unaligned c.w4 c.w5 = false) (hn : 0 < bitsAt c.w1 9 9)
    (hc : bitsAt c.w2 0 20 < s.prefixRoom) : exec (.prefixNext c) s =
      .next (((s.cmdTake c).memWrite c.part.val (addr64 c.w4 c.w5) (prefixItems (s.prefixOut c))).cmdOk c
        [w32 (s.prefixAfter c % 2 ^ 20 + (s.prefixOut c).length * 2 ^ 21 + (if s.prefixRoom ≤ s.prefixAfter c then 2 ^ 30 else 0))]) := by
  have hn' : ¬min 256 (bitsAt c.w1 9 9) = 0 := by omega
  have ha := State.prefixAfter_eq (s := s.cmdTake c) (c := c) hc
  rw [exec_prefixNext_arm, execPrefixNext, State.prefixRun_runs h]
  refine congrArg _ ((if_neg (by rw [hu]; decide)).trans ((if_neg hn').trans ?_))
  dsimp only
  rw [ha]
  rfl

theorem Does.prefixNext (h : s.prefixLeads c) (hu : unaligned c.w4 c.w5 = false) (hn : 0 < bitsAt c.w1 9 9)
    (hc : bitsAt c.w2 0 20 < s.prefixRoom) (hl : addr64 c.w4 c.w5 + 32 * (s.prefixOut c).length ≤ 2 ^ 64) : Does (.prefixNext c) s (fun t =>
      t.lpm = s.lpm ∧ t.memBytes c.part.val (addr64 c.w4 c.w5) (32 * (s.prefixOut c).length) = prefixItems (s.prefixOut c) ∧
      t.completed c stOK
        [w32 (s.prefixAfter c % 2 ^ 20 + (s.prefixOut c).length * 2 ^ 21 + (if s.prefixRoom ≤ s.prefixAfter c then 2 ^ 30 else 0))] 0) := by
  refine Does.of_next (exec_prefixNext h.runs hu hn hc) ⟨rfl, ?_, h.completed _⟩
  rw [State.cmdOk_memBytes,
    ← length_prefixItems]
  exact State.memBytes_memWrite _ _ _ _ (by rw [length_prefixItems]; exact Nat.le_of_add_left_le hl)

end

/-! ### The filter's rebuild and mode changes (R232, R233) -/

section
variable {s : State}

theorem Does.filterRebuildDone (hr : s.lpm.rebuilding = true) (hg : s.lpm.ghosts.length = s.lpm.ghostsAt) : Does .filterRebuildDone s (fun t =>
    t.lpm = { s.lpm with ghosts := [], rebuilding := false, ghostsAt := 0 } ∧ t.regs = s.regs) := by
  refine Does.of_next (t := { s with lpm := { s.lpm with ghosts := [], rebuilding := false, ghostsAt := 0 } }) ?_ ⟨rfl, rfl⟩
  have hd : s.lpm.ghosts.drop s.lpm.ghostsAt = [] := List.drop_eq_nil_of_le (Nat.le_of_eq hg)
  simp only [exec_filterRebuildDone_arm, execFilterRebuildDone, hr, hd, Bool.not_true, Bool.false_eq_true, if_false]
  exact congrArg _ (State.filterCheck_few _ (Nat.zero_lt_succ 65535))

variable {p : Part} {data : Word}

theorem exec_lpmModeChange_armed (h : s.unlocked p = false) :
    exec (.lpmModeChange p data) s = .next (s.guardViolation p (w32 R.LPM_MODE) false data) :=
  congrArg _ (State.guarded_armed _ _ _ _ _ h)

/-- The register of the mode is no lock's. -/
theorem State.lpm_armLock {f : Fld} : (s.armLock 0).flag R.LPM_MODE f = s.flag R.LPM_MODE f :=
  State.flag_of_regsBut (s.armLock_regsBut 0) (by decide) f

/-- The mode is another, its change is under way, and the table is empty. -/
def State.modeChanged (s : State) (data : Word) : State :=
  ({ (s.setFld R.LPM_MODE F.LPM_MODE_CHANGING 1).setFld R.LPM_MODE F.LPM_MODE_MODE (if bitAt data 0 then 1 else 0) with lpm := {} }).lpmSync

/-- Partition 0's write through its unlocked lock. -/
theorem State.lpmModeWrite_zero (h : s.unlocked 0 = true) : s.lpmModeWrite 0 data =
    if s.lpmChanging then (s.armLock 0).err R.LPM_ERR F.LPM_ERR_MODE_BUSY
    else if bitAt data 0 = s.modeH then s.armLock 0
    else (s.armLock 0).modeChanged data := by
  have hb : (s.armLock 0).lpmChanging = s.lpmChanging := State.lpm_armLock
  have hm : (s.armLock 0).modeH = s.modeH := State.lpm_armLock
  rw [State.lpmModeWrite, State.guarded_unlocked _ _ _ _ _ h, hb, hm]
  exact if_neg (by decide)

theorem exec_lpmModeChange_busy (h : s.unlocked 0 = true) (hb : s.lpmChanging = true) :
    exec (.lpmModeChange 0 data) s = .next ((s.armLock 0).err R.LPM_ERR F.LPM_ERR_MODE_BUSY) :=
  congrArg _ ((State.lpmModeWrite_zero h).trans (if_pos hb))

theorem exec_lpmModeChange_starts (h : s.unlocked 0 = true) (hb : s.lpmChanging = false) (hd : bitAt data 0 ≠ s.modeH) :
    exec (.lpmModeChange 0 data) s = .next ((s.armLock 0).modeChanged data) := by
  have he : s.lpmModeWrite 0 data = (s.armLock 0).modeChanged data := by
    rw [State.lpmModeWrite_zero h, if_neg (ne_true_of_eq_false hb), if_neg hd]
  exact congrArg Host.Outcome.next he

/-- What a mode change leaves in the registers but for those that show the tables. -/
theorem State.rd_modeChanged {k : Nat} (hu : k ≠ R.LPM_USE) (hn : k ≠ R.LPM_NODES) (hl : ∀ i < 5, k ≠ R.LPM_LENGTHS i) :
    (s.modeChanged data).rd k =
      ((s.setFld R.LPM_MODE F.LPM_MODE_CHANGING 1).setFld R.LPM_MODE F.LPM_MODE_MODE (if bitAt data 0 then 1 else 0)).rd k :=
  State.rd_lpmSync_ne _ hu hn hl

theorem State.modeChanged_mode : (s.modeChanged data).rd R.LPM_MODE =
    ((s.setFld R.LPM_MODE F.LPM_MODE_CHANGING 1).setFld R.LPM_MODE F.LPM_MODE_MODE (if bitAt data 0 then 1 else 0)).rd R.LPM_MODE :=
  State.rd_modeChanged (by decide) (by decide) (by decide)

theorem State.modeH_modeChanged : (s.modeChanged data).modeH = bitAt data 0 := by
  rw [State.modeH, State.flag, State.fld, State.modeChanged_mode]
  refine (congrArg (· != 0) (State.fld_setFld _ R.LPM_MODE F.LPM_MODE_MODE _ (by decide))).trans ?_
  cases bitAt data 0 <;> rfl

theorem State.lpmChanging_modeChanged : (s.modeChanged data).lpmChanging = true := by
  rw [State.lpmChanging, State.flag, State.fld, State.modeChanged_mode]
  refine (congrArg (· != 0) ((State.fld_setFld_other _ R.LPM_MODE F.LPM_MODE_MODE F.LPM_MODE_CHANGING _ (by decide) (by decide)).trans
    (State.fld_setFld _ R.LPM_MODE F.LPM_MODE_CHANGING 1 (by decide)))).trans ?_
  rfl

theorem Does.lpmModeChange_starts (h : s.unlocked 0 = true) (hb : s.lpmChanging = false) (hd : bitAt data 0 ≠ s.modeH) :
    Does (.lpmModeChange 0 data) s (fun t => t.modeH = bitAt data 0 ∧ t.lpmChanging = true ∧ t.lpm.prefixes = [] ∧ t.unlocked 0 = false) := by
  refine Does.of_next (exec_lpmModeChange_starts h hb hd) ⟨State.modeH_modeChanged, State.lpmChanging_modeChanged,
    congrArg LpmSt.prefixes (State.lpmSync_only _).1, State.armLock_locked (s := s) ?_⟩
  refine (State.rd_modeChanged (by decide) (by decide) (by decide)).trans ?_
  exact (State.rd_setFld_ne _ _ _ (by decide)).trans (State.rd_setFld_ne _ _ _ (by decide))

theorem Does.lpmModeChange_busy (h : s.unlocked 0 = true) (hb : s.lpmChanging = true) : Does (.lpmModeChange 0 data) s (fun t =>
    t.flag R.LPM_ERR F.LPM_ERR_MODE_BUSY = true ∧ t.modeH = s.modeH ∧ t.unlocked 0 = false) := by
  refine Does.of_next (exec_lpmModeChange_busy h hb) ⟨State.flag_err _ _ (by decide) (by decide), ?_, ?_⟩
  · exact (State.fld_setFld_ne _ _ _ _ (by decide) |> congrArg (· != 0)).trans State.lpm_armLock
  · exact State.armLock_locked (s := s) (State.rd_err_ne _ _ _ (by decide))

theorem Does.lpmModeChangeDone (s : State) : Does .lpmModeChangeDone s (fun t =>
    t.lpmChanging = false ∧ t.modeH = s.modeH ∧ t.lpm = s.lpm ∧ t.onlyKeys s [R.LPM_MODE]) :=
  Does.of_next (t := s.setFld R.LPM_MODE F.LPM_MODE_CHANGING 0) rfl
    ⟨congrArg (· != 0) (s.fld_setFld R.LPM_MODE F.LPM_MODE_CHANGING 0 (by decide)),
      congrArg (· != 0) (s.fld_setFld_other R.LPM_MODE F.LPM_MODE_CHANGING F.LPM_MODE_MODE 0 (by decide) (by decide)), rfl,
      s.wr_onlyKeys _ (List.mem_singleton_self _)⟩

end

/-! ### The obligation -/

/-- Settles O46: the commands by their checks and limits in their order, through the prefixes that each one leaves; a mode change through the
registers that it sets. -/
theorem prefixCommands : Obligations.PrefixCommands :=
  fun _ _ _ _ => ⟨exec_prefix_changing, fun h h8 _ _ _ hy => Does.prefixSearch_longest h h8 hy,
    fun h h8 hl _ _ hy => Does.prefixSearch_exact h h8 hl hy,
    fun _ h hf hm hi hn => Does.setPrefixes h (exec_prefixInsert_trie (State.prefixLeads.runs h) hf hm hi hn),
    fun _ h hf hm hi hn => exec_prefixInsert_noNodes h hf hm hi hn,
    fun _ h hf hm hi hn => Does.setPrefixes h (exec_prefixInsert_hash (State.prefixLeads.runs h) hf hm hi hn),
    fun _ h hf hm hi hn => exec_prefixInsert_noWay h hf hm hi hn,
    exec_prefixInsert_noId, exec_prefix_long, exec_prefix_result, exec_prefixInsert_present,
    fun h hm hl _ _ hy hg => Does.setPrefixes h (exec_prefixDelete (State.prefixLeads.runs h) hm hl hy hg),
    fun h hl hr _ _ hy => Does.setPrefixes h (exec_prefixUpdate (State.prefixLeads.runs h) hl hr hy),
    fun h hu hn hc _ hl => Does.prefixNext h hu hn hc hl, Does.filterRebuildDone, Does.lpmModeChange_starts, Does.lpmModeChange_busy,
    exec_lpmModeChange_armed, Does.lpmModeChangeDone _⟩

end Sys2Proof.Machine
end

section
/-! O37: the mesh's caches, reassembly contexts and compression contexts (R236, R238, R248, R253, R254). An entry that expires leaves its cache
alone; a reassembly that lasts too long leaves the contexts, and its cells the ones in use; a write of `MESH_CTX_CFG` is decided by the writer
first and by the word it brings then. -/

set_option Elab.async false

namespace Sys2Proof.Machine

/-! ### The arms of `exec` -/

section
variable (s : State)

theorem exec_seenEntryExpiry_arm (p : Fin 8) (seed : Nat) (seq : Byte) :
    exec (.seenEntryExpiry p seed seq) s = execSeenEntryExpiry p seed seq s := rfl
theorem exec_twinEntryExpiry_arm (p : Fin 8) (o : Fin 524288) (seq : BitVec 16) :
    exec (.twinEntryExpiry p o seq) s = execTwinEntryExpiry p o seq s := rfl
theorem exec_reassemblyTimeout_arm (p : Fin 8) (src size tag : Nat) :
    exec (.reassemblyTimeout p src size tag) s = execReassemblyTimeout p src size tag s := rfl
theorem exec_contextWrite_arm (q : Part) (data : Word) : exec (.contextWrite q data) s = .next (s.ctxWrite q data) := rfl

end

/-! ### The caches (R248, R253) -/

section
variable (s : State)

@[simp] theorem State.cacheSync_mesh : s.cacheSync.mesh = s.mesh := rfl
@[simp] theorem State.cacheSync_qmg : s.cacheSync.qmg = s.qmg := rfl

theorem State.cacheSync_regsBut : s.cacheSync.regsBut s [R.MESH_SEEN_USE, R.MESH_TWIN_USE] :=
  State.regsBut_trans (s.setFld_regsBut _ _ (by simp)) (State.setFld_regsBut _ _ _ (by simp))

/-- At the instant of its expiry an entry has left the seen cache. -/
def State.seenExpired (e : Nat × Nat) : State :=
  let s1 := s.advanceTo e.2
  ({ s1 with mesh := { s1.mesh with seen := adel e.1 s1.mesh.seen } }).cacheSync

/-- The same for an entry of the elimination cache. -/
def State.twinExpired (e : Nat × Nat) : State :=
  let s1 := s.advanceTo e.2
  ({ s1 with mesh := { s1.mesh with twins := adel e.1 s1.mesh.twins } }).cacheSync

variable {s} {p : Fin 8}

/-- An entry of the seen cache leaves it 60 s after its insertion. -/
theorem Does.seenEntryExpiry {seed : Nat} {seq : Byte} {e : Nat × Nat}
    (h : s.mesh.seen.find? (fun e => e.1 = seenKey p seed seq.toNat) = some e) : Does (.seenEntryExpiry p seed seq) s (fun t =>
      t.mesh.seen = adel e.1 s.mesh.seen ∧ t.now = max s.now e.2 ∧ t.regsBut s [R.MESH_SEEN_USE, R.MESH_TWIN_USE]) :=
  Does.of_next (t := s.seenExpired e) (by rw [exec_seenEntryExpiry_arm, execSeenEntryExpiry, h]; rfl)
    ⟨rfl, s.advanceTo_now e.2, State.cacheSync_regsBut _⟩

/-- An entry of the elimination cache leaves it 16 s after its insertion. -/
theorem Does.twinEntryExpiry {o : Fin 524288} {seq : BitVec 16} {e : Nat × Nat}
    (h : s.mesh.twins.find? (fun e => e.1 = twinKey p o seq.toNat) = some e) : Does (.twinEntryExpiry p o seq) s (fun t =>
      t.mesh.twins = adel e.1 s.mesh.twins ∧ t.now = max s.now e.2 ∧ t.regsBut s [R.MESH_SEEN_USE, R.MESH_TWIN_USE]) :=
  Does.of_next (t := s.twinExpired e) (by rw [exec_twinEntryExpiry_arm, execTwinEntryExpiry, h]; rfl)
    ⟨rfl, s.advanceTo_now e.2, State.cacheSync_regsBut _⟩

end

/-! ### Cells that return (R278) -/

section
variable (s : State) (cs : List Nat)

theorem State.freeChain_gone : ∀ k ∈ cs, k ∉ (s.freeChain cs).qmg.used := fun k hk hm => by
  have hnot := (List.mem_filter.mp hm).2
  simp [hk] at hnot

/-- `QMG_FREE` shows what the cells in use leave. -/
theorem State.freeChain_freeCells : (s.freeChain cs).freeCells = (65536 - (s.freeChain cs).qmg.used.length) % 2 ^ 17 :=
  State.fld_setFld _ R.QMG_FREE F.QMG_FREE_CELLS _ (by decide)

theorem State.bump_freeCells {k : Nat} (h : R.QMG_FREE ≠ k) : (s.bump k).freeCells = s.freeCells :=
  congrArg (fget F.QMG_FREE_CELLS) (s.rd_bump_ne h)

end

/-! ### Reassembly (R238) -/

section
variable (s : State) (y : Reasm)

theorem State.reasmDrop_eq : s.reasmDrop y = (s.reasmForget y).freeChain y.chain := rfl

theorem State.reasmDrop_rd {k : Nat} (hu : k ≠ R.MESH_REASM_USE) (hf : k ≠ R.QMG_FREE) : (s.reasmDrop y).rd k = s.rd k :=
  (State.rd_setFld_ne _ _ _ hf).trans (State.rd_setFld_ne _ _ _ hu)

/-- A context that has lasted too long is discarded and counted. -/
def State.reasmTimedOut : State := (s.reasmDrop y).bump R.MESH_CNT_REASMTMO

theorem State.reasmTimedOut_freeCells : (s.reasmTimedOut y).freeCells = (65536 - (s.reasmTimedOut y).qmg.used.length) % 2 ^ 17 := by
  rw [State.reasmTimedOut, State.bump_freeCells _ (by decide), State.bump_qmg, State.reasmDrop_eq, State.freeChain_freeCells]

theorem State.reasmTimedOut_count : (s.reasmTimedOut y).rd R.MESH_CNT_REASMTMO = satInc (s.rd R.MESH_CNT_REASMTMO) := by
  rw [State.reasmTimedOut, State.rd_bump, State.reasmDrop_rd s y (by decide) (by decide)]

/-- The contexts that are left are others than the one discarded. -/
theorem State.reasmTimedOut_reasm : ∀ z ∈ (s.reasmTimedOut y).mesh.reasm, z ∈ s.mesh.reasm ∧ z ≠ y := fun z hz => by
  obtain ⟨hmem, hkey⟩ := List.mem_filter.mp hz
  exact ⟨hmem, fun e => by simp [e] at hkey⟩

theorem State.reasmTimedOut_gone : ∀ k ∈ y.chain, k ∉ (s.reasmTimedOut y).qmg.used := (s.reasmForget y).freeChain_gone y.chain

theorem State.reasmTimedOut_now : (s.reasmTimedOut y).now = s.now := rfl

variable {s} {y} {p : Fin 8} {src size tag : Nat}

theorem exec_reassemblyTimeout
    (h : s.mesh.reasm.find? (fun y => y.pan = p.val && y.src = src && y.size = size && y.tag = tag) = some y) :
    exec (.reassemblyTimeout p src size tag) s = .next ((s.advanceTo (y.start + sec 60)).reasmTimedOut y) := by
  rw [exec_reassemblyTimeout_arm, execReassemblyTimeout, h]
  rfl

theorem Does.reassemblyTimeout
    (h : s.mesh.reasm.find? (fun y => y.pan = p.val && y.src = src && y.size = size && y.tag = tag) = some y) :
    Does (.reassemblyTimeout p src size tag) s (fun t => (∀ z ∈ t.mesh.reasm, z ∈ s.mesh.reasm ∧ z ≠ y) ∧
      (∀ k ∈ y.chain, k ∉ t.qmg.used) ∧ t.freeCells = (65536 - t.qmg.used.length) % 2 ^ 17 ∧
      t.rd R.MESH_CNT_REASMTMO = satInc (s.rd R.MESH_CNT_REASMTMO) ∧ t.now = max s.now (y.start + sec 60)) := by
  obtain ⟨u, hu⟩ : ∃ u, s.advanceTo (y.start + sec 60) = u := ⟨_, rfl⟩
  have hmesh : s.mesh = u.mesh := hu ▸ (s.advanceTo_mesh _).symm
  have hrd : s.rd R.MESH_CNT_REASMTMO = u.rd R.MESH_CNT_REASMTMO := hu ▸ (s.rd_advanceTo _ _).symm
  have hnow : max s.now (y.start + sec 60) = u.now := hu ▸ (s.advanceTo_now _).symm
  rw [hmesh, hrd, hnow]
  exact Does.of_next (hu ▸ exec_reassemblyTimeout h) ⟨u.reasmTimedOut_reasm y, u.reasmTimedOut_gone y, u.reasmTimedOut_freeCells y,
    u.reasmTimedOut_count y, u.reasmTimedOut_now y⟩

end

/-! ### Compression contexts (R236, R254) -/

section
variable {s : State} {q : Nat} {data : Word}

/-- The PAN that `MESH_CTX_ADDR` names. -/
abbrev State.ctxPan (s : State) : Nat := s.fld R.MESH_CTX_ADDR F.MESH_CTX_ADDR_PAN

/-- The context of that PAN that it names. -/
abbrev State.ctxNum (s : State) : Nat := s.fld R.MESH_CTX_ADDR F.MESH_CTX_ADDR_CTX

/-- The contexts once the staged prefix is stored with a configuration word. -/
def State.ctxStored (s : State) (data : Word) : List (Nat × Word) :=
  aset 0 (ctxKey s.ctxPan s.ctxNum 2) (data &&& 0x1FF) (aset 0 (ctxKey s.ctxPan s.ctxNum 1) (s.rd R.MESH_CTX_LO)
    (aset 0 (ctxKey s.ctxPan s.ctxNum 0) (s.rd R.MESH_CTX_HI) s.mesh.ctx))

theorem ctxLength_mask (data : Word) : bitsAt (data &&& 0x1FF) 0 7 = bitsAt data 0 7 :=
  fget_mask (f := F.MESH_CTX_CFG_LENGTH) data (by decide)

theorem ctxValid_mask (data : Word) : bitAt (data &&& 0x1FF) 7 = bitAt data 7 := by simp [bitAt]

/-- A configuration word is refused for its length, or where the PAN needs context 0. -/
def State.ctxBad (s : State) (data : Word) : Bool :=
  64 < bitsAt data 0 7 || (s.ctxNum = 0 &&
    (s.flag (R.MESH_PAN_CFG s.ctxPan) F.MESH_PAN_CFG_TWIN_EN || s.flag (R.MESH_PAN_CFG s.ctxPan) F.MESH_PAN_CFG_MPL_FWD) &&
    !(bitAt data 7 && bitsAt data 0 7 = 64))

theorem State.ctxWrite_eq (s : State) (q : Nat) (data : Word) : s.ctxWrite q data =
    if !s.panMay q s.ctxPan then s.err R.MESH_ERR F.MESH_ERR_PART_WRITE
    else if s.ctxBad data then s.err R.MESH_ERR F.MESH_ERR_CTX_INVALID
    else { s with mesh := { s.mesh with ctx := s.ctxStored data } } := by
  unfold State.ctxWrite
  dsimp only
  rw [ctxLength_mask, ctxValid_mask]
  rfl

theorem State.ctxWrite_refused (h : s.panMay q s.ctxPan = false) : s.ctxWrite q data = s.err R.MESH_ERR F.MESH_ERR_PART_WRITE := by
  simp [State.ctxWrite_eq, h]

theorem State.ctxWrite_invalid (h : s.panMay q s.ctxPan = true) (hl : 64 < bitsAt data 0 7) :
    s.ctxWrite q data = s.err R.MESH_ERR F.MESH_ERR_CTX_INVALID := by
  simp [State.ctxWrite_eq, h, State.ctxBad, hl]

/-- A prefix of at most 64 bits is good; in context 0, valid and with 64 bits, it serves whatever the PAN needs of it. -/
theorem State.ctxBad_good (hl : bitsAt data 0 7 ≤ 64) (hc : s.ctxNum ≠ 0 ∨ (bitAt data 7 = true ∧ bitsAt data 0 7 = 64)) :
    s.ctxBad data = false := by
  rcases hc with hc | ⟨hv, h64⟩
  · simp [State.ctxBad, hl, hc]
  · simp [State.ctxBad, hv, h64]

theorem State.ctxWrite_stored (h : s.panMay q s.ctxPan = true) (hb : s.ctxBad data = false) :
    s.ctxWrite q data = { s with mesh := { s.mesh with ctx := s.ctxStored data } } := by
  simp [State.ctxWrite_eq, h, hb]

theorem ctxKey_ne {p c v w : Nat} (h : v ≠ w) : ctxKey p c v ≠ ctxKey p c w := fun e => h (Nat.add_left_cancel e)

theorem State.ctxStored_words (s : State) (data : Word) :
    aget 0 (ctxKey s.ctxPan s.ctxNum 2) (s.ctxStored data) = data &&& 0x1FF ∧
    aget 0 (ctxKey s.ctxPan s.ctxNum 1) (s.ctxStored data) = s.rd R.MESH_CTX_LO ∧
    aget 0 (ctxKey s.ctxPan s.ctxNum 0) (s.ctxStored data) = s.rd R.MESH_CTX_HI := by
  refine ⟨aget_aset_same .., ?_, ?_⟩ <;> rw [State.ctxStored, aget_aset_ne _ _ _ _ _ (ctxKey_ne (by decide))]
  · exact aget_aset_same ..
  · rw [aget_aset_ne _ _ _ _ _ (ctxKey_ne (by decide)), aget_aset_same]

theorem Does.contextWrite {q : Part} (h : s.panMay q s.ctxPan = true) (hl : bitsAt data 0 7 ≤ 64)
    (hc : s.ctxNum ≠ 0 ∨ (bitAt data 7 = true ∧ bitsAt data 0 7 = 64)) : Does (.contextWrite q data) s (fun t =>
      aget 0 (ctxKey s.ctxPan s.ctxNum 2) t.mesh.ctx = data &&& 0x1FF ∧ aget 0 (ctxKey s.ctxPan s.ctxNum 1) t.mesh.ctx = s.rd R.MESH_CTX_LO ∧
      aget 0 (ctxKey s.ctxPan s.ctxNum 0) t.mesh.ctx = s.rd R.MESH_CTX_HI ∧ t.regs = s.regs) := by
  obtain ⟨hcfg, hlo, hhi⟩ := s.ctxStored_words data
  exact Does.of_next ((exec_contextWrite_arm s q data).trans (congrArg _ (State.ctxWrite_stored h (State.ctxBad_good hl hc))))
    ⟨hcfg, hlo, hhi, rfl⟩

end

/-! ### The obligation -/

/-- Settles O37: an expiry by the entry that it finds, a time-out by the context that it discards, a write of a context by its owner and its
length. -/
theorem meshCachesAndContexts : Obligations.MeshCachesAndContexts := by
  unfold Obligations.MeshCachesAndContexts
  intro s p q seed size tag src seq o tseq data c pan
  exact ⟨fun _ => Does.seenEntryExpiry, fun _ => Does.twinEntryExpiry, fun _ => Does.reassemblyTimeout, Does.contextWrite,
    fun h hl => congrArg _ (State.ctxWrite_invalid h hl), fun h => congrArg _ (State.ctxWrite_refused h)⟩

end Sys2Proof.Machine
end

section
/-! O36: floods as they are seeded (R246, R247, R290, R370). MPL_SEED is decided by the queue's two copies, Hush, the head and its frame check word,
and the seed IDs that are free; the seed that it takes moves nothing but the seeds' own bookkeeping. -/

set_option Elab.async false

namespace Sys2Proof.Machine

/-! ### A seed that is taken (R246, R247) -/

section
variable {s t : State} {p id seq : Nat}

/-- The mesh's state with the seed IDs' rotation, sequences and uses as in another. -/
def MeshSt.withSeeds (x y : MeshSt) : MeshSt := { x with seedTurn := y.seedTurn, seedSeq := y.seedSeq, seedUsed := y.seedUsed }

theorem State.seedTake_mesh (h : s.seedTake p = some (id, seq, t)) : t = { s with mesh := s.mesh.withSeeds t.mesh } := by
  unfold State.seedTake at h
  dsimp only at h
  split at h
  · cases h
  · cases h
    rfl

end

/-! ### The seen cache (R248) -/

section
variable (s : State) (k : Nat)

/-- An insertion changes no other part of the mesh's state. -/
theorem State.seenPut_mesh : ∃ l, (s.seenPut k).mesh = { s.mesh with seen := aput k (s.now + sec 60) (adel k l) } := by
  refine ⟨if 16384 ≤ s.mesh.seen.length then adel (nearest s.mesh.seen) s.mesh.seen else s.mesh.seen, ?_⟩
  rw [State.seenPut, State.cacheSync_mesh]
  split <;> rfl

theorem State.seenPut_qmg : (s.seenPut k).qmg = s.qmg := by
  rw [State.seenPut, State.cacheSync_qmg]
  split <;> rfl

theorem State.seenPut_regsBut : (s.seenPut k).regsBut s [R.MESH_CNT_MPLEVICT, R.MESH_SEEN_USE, R.MESH_TWIN_USE] := by
  refine State.regsBut_trans ?_ (State.regsBut_mono (State.cacheSync_regsBut _) (by simp))
  split
  · exact State.wr_regsBut _ _ (by simp)
  · exact State.regsBut_refl s _

/-- A key that was inserted is present. -/
theorem State.seenPut_has : (s.seenPut k).seenHas k = true := by
  obtain ⟨l, hl⟩ := s.seenPut_mesh k
  rw [State.seenHas, hl]
  exact List.any_eq_true.mpr ⟨_, mem_aput_self k _ _, decide_eq_true rfl⟩

theorem State.seenPut_mplField (p : Fin 8) (f : Fld) : (s.seenPut k).mplField p f = s.mplField p f := by
  refine State.fld_of_regsBut (s.seenPut_regsBut k) ?_ f
  simp only [R.MESH_PAN_MPL, R.MESH_CNT_MPLEVICT, R.MESH_SEEN_USE, R.MESH_TWIN_USE, List.mem_cons, List.not_mem_nil, or_false]
  omega

end

/-! ### A flood that starts (R249) -/

section
variable {s : State} {p cls seed seq : Nat} {dg : List Byte} {chain : List Nat} {o : Origin} {relay : Bool}

/-- A flood with intervals to run joins those in progress, and no queue changes. -/
theorem State.floodStart_runs (h : s.mplField p F.MESH_PAN_MPL_EXPIRATIONS ≠ 0) : ∃ y : Flood,
    (y.n, y.pan, y.seed, y.seq, y.left, y.sent) = (s.mesh.nextFlood, p, seed, seq, s.mplField p F.MESH_PAN_MPL_EXPIRATIONS, false) ∧
    (s.floodStart p cls seed seq dg chain o relay).mesh = { s.mesh with floods := s.mesh.floods ++ [y], nextFlood := s.mesh.nextFlood + 1 } ∧
    (s.floodStart p cls seed seq dg chain o relay).qmg = s.qmg := by
  simp only [State.floodStart, h, if_false]
  exact ⟨_, rfl, rfl, rfl⟩

end

/-! ### MPL_SEED (R247) -/

section
variable {s t : State} {p : Fin 8} {f : Frame} {id seq : Nat}

theorem exec_mplSeed_arm (s : State) (p : Fin 8) : exec (.mplSeed p) s = execMplSeed p s := rfl

theorem State.queueCheck_agreed {q : Nat} (h : (s.queue q).mismatch = false) : s.queueCheck q = s := if_neg (ne_true_of_eq_false h)

/-- The flood that has waited longest leaves its queue with a seed ID and a sequence, and starts. -/
def State.seeded (s : State) (p : Nat) (f : Frame) (id seq : Nat) : State :=
  let s1 := s.setQueue (qFlood p) { s.queue (qFlood p) with frames := (s.queue (qFlood p)).frames.drop 1 }
  (s1.seenPut (seenKey p (seed16 id) seq)).floodStart p f.cls (seed16 id) seq (s1.mplDatagram p id seq f.bytes) f.onDie f.origin false

theorem exec_mplSeed_hush (h : s.pwr.hush = true) : exec (.mplSeed p) s = .next s := by
  rw [exec_mplSeed_arm, execMplSeed, if_pos h]
  simp only [h, if_true]
  split <;> rfl

section
variable (hm : (s.queue (qFlood p)).mismatch = false)
include hm

theorem exec_mplSeed_empty (hq : s.qHead (qFlood p) = none) : exec (.mplSeed p) s = .next s := by
  simp only [exec_mplSeed_arm, execMplSeed, State.queueCheck_agreed hm, ite_self, hq]

theorem exec_mplSeed_failed (hh : s.pwr.hush = false) (hq : s.qHead (qFlood p) = some f) (hc : f.checkOk = false) :
    exec (.mplSeed p) s = .next (s.frameCheckFail (qFlood p) f) := by
  simp [exec_mplSeed_arm, execMplSeed, State.queueCheck_agreed hm, hh, hq, hc]

theorem exec_mplSeed_noSeed (hq : s.qHead (qFlood p) = some f) (hc : f.checkOk = true) (ht : s.seedTake p = none) :
    exec (.mplSeed p) s = .next s := by
  simp [exec_mplSeed_arm, execMplSeed, State.queueCheck_agreed hm, hq, hc, ht]

theorem exec_mplSeed (hh : s.pwr.hush = false) (hq : s.qHead (qFlood p) = some f) (hc : f.checkOk = true)
    (ht : s.seedTake p = some (id, seq, t)) : exec (.mplSeed p) s = .next (t.seeded p f id seq) := by
  simp [exec_mplSeed_arm, execMplSeed, State.queueCheck_agreed hm, hh, hq, hc, ht, State.seeded]

end

/-- What a flood that is seeded leaves in its queue, in the seen cache and among the floods. -/
theorem State.seeded_effect (he : s.mplField p F.MESH_PAN_MPL_EXPIRATIONS ≠ 0) : let t := s.seeded p f id seq
    (t.queue (qFlood p)).frames = (s.queue (qFlood p)).frames.drop 1 ∧ t.seenHas (seenKey p (seed16 id) seq) = true ∧
      (t.mesh.floods.getLast?).map (fun y => (y.n, y.pan, y.seed, y.seq, y.left, y.sent)) =
        some (s.mesh.nextFlood, p.val, seed16 id, seq, s.mplField p F.MESH_PAN_MPL_EXPIRATIONS, false) := by
  let u := s.setQueue (qFlood p) { s.queue (qFlood p) with frames := (s.queue (qFlood p)).frames.drop 1 }
  obtain ⟨k, hk⟩ : ∃ k, seenKey p (seed16 id) seq = k := ⟨_, rfl⟩
  have hexp : (u.seenPut k).mplField p F.MESH_PAN_MPL_EXPIRATIONS = s.mplField p F.MESH_PAN_MPL_EXPIRATIONS := u.seenPut_mplField k p _
  obtain ⟨y, hy, hmesh, hqmg⟩ := State.floodStart_runs (s := u.seenPut k) (p := p) (cls := f.cls) (seed := seed16 id) (seq := seq)
    (dg := u.mplDatagram p id seq f.bytes) (chain := f.onDie) (o := f.origin) (relay := false) (by rwa [hexp])
  obtain ⟨l, hl⟩ := u.seenPut_mesh k
  have hseeded : s.seeded p f id seq = (u.seenPut k).floodStart p f.cls (seed16 id) seq (u.mplDatagram p id seq f.bytes) f.onDie f.origin
    false := by rw [State.seeded, hk]
  intro t
  rw [show t = _ from hseeded, hk]
  refine ⟨?_, ?_, ?_⟩
  · rw [State.queue_of_qmg (hqmg.trans (u.seenPut_qmg k)), State.queue_setQueue]
  · rw [State.seenHas, hmesh]
    exact u.seenPut_has k
  · rw [hmesh, List.getLast?_concat, Option.map_some, hy, hexp, hl]
    rfl

theorem Does.mplSeed (hm : (s.queue (qFlood p)).mismatch = false) (hh : s.pwr.hush = false) (hq : s.qHead (qFlood p) = some f)
    (hc : f.checkOk = true) (ht : s.seedTake p = some (id, seq, t)) (he : s.mplField p F.MESH_PAN_MPL_EXPIRATIONS ≠ 0) :
    Does (.mplSeed p) s (fun t => (t.queue (qFlood p)).frames = (s.queue (qFlood p)).frames.drop 1 ∧
      t.seenHas (seenKey p (seed16 id) seq) = true ∧ (t.mesh.floods.getLast?).map (fun y => (y.n, y.pan, y.seed, y.seq, y.left, y.sent)) =
        some (s.mesh.nextFlood, p.val, seed16 id, seq, s.mplField p F.MESH_PAN_MPL_EXPIRATIONS, false)) := by
  have hmesh := State.seedTake_mesh ht
  obtain ⟨hqueue, hseen, hflood⟩ := State.seeded_effect (s := t) (p := p) (f := f) (id := id) (seq := seq) (by rw [hmesh]; exact he)
  refine Does.of_next (exec_mplSeed hm hh hq hc ht) ⟨?_, hseen, ?_⟩
  · rw [hqueue, hmesh]
    rfl
  · rw [hflood, hmesh]
    rfl

end

end Sys2Proof.Machine
end

section
/-! O36: floods as they run (R249, R290). A flood is found by its number. An instant is decided by its PAN, by what has been heard, and by Hush; the
end of an interval starts the next one or ends the flood. -/

set_option Elab.async false

namespace Sys2Proof.Machine

/-! ### The arms of `exec` -/

section
variable (s : State) (n : Nat)

theorem exec_trickleInstant_arm (faults : Fin 5) : exec (.trickleInstant n faults) s = execTrickleInstant n faults s := rfl
theorem exec_trickleIntervalEnd_arm : exec (.trickleIntervalEnd n) s = execTrickleIntervalEnd n s := rfl

end

/-! ### Floods by their number -/

section
variable {s : State} {n : Nat} {x y : Flood}

/-- The flood in progress that has a number. -/
abbrev State.floodAt (s : State) (n : Nat) : Option Flood := s.mesh.floods.find? (fun x => x.n = n)

theorem State.floodAt_n (h : s.floodAt n = some x) : x.n = n := of_decide_eq_true (List.find?_some (p := fun x : Flood => decide (x.n = n)) h)

/-- A flood that is written in the place of one reads as written. -/
theorem State.floodAt_setFlood (h : s.floodAt n = some x) (hy : y.n = n) : (s.setFlood y).floodAt n = some y := by
  have hkeep : (fun z : Flood => decide (z.n = n)) ∘ (fun z => if z.n = y.n then y else z) = fun z => decide (z.n = n) := by
    funext z
    by_cases hz : z.n = n <;> simp [hy, hz]
  calc (s.setFlood y).floodAt n = (s.floodAt n).map (fun z => if z.n = y.n then y else z) := by
        rw [State.floodAt, State.setFlood, List.find?_map, hkeep]
    _ = some y := by rw [h, Option.map_some, if_pos ((State.floodAt_n h).trans hy.symm)]

end

/-! ### TRICKLE_INSTANT (R249) -/

section
variable {s : State} {n i : Nat} {x : Flood} {faults : Fin 5}

/-- A copy of a flood is not to be placed: its PAN is disabled, or K copies have been heard. -/
def State.suppresses (s : State) (x : Flood) : Bool :=
  !s.panOn x.pan || (s.mplField x.pan F.MESH_PAN_MPL_K ≠ 0 && s.mplField x.pan F.MESH_PAN_MPL_K ≤ x.heard)

theorem State.suppresses_heard (hk : s.mplField x.pan F.MESH_PAN_MPL_K ≠ 0) (h : s.mplField x.pan F.MESH_PAN_MPL_K ≤ x.heard) :
    s.suppresses x = true := by simp [State.suppresses, hk, h]

theorem State.suppresses_off (h : s.panOn x.pan = false) : s.suppresses x = true := by simp [State.suppresses, h]

theorem State.suppresses_not (hp : s.panOn x.pan = true)
    (hk : s.mplField x.pan F.MESH_PAN_MPL_K = 0 ∨ x.heard < s.mplField x.pan F.MESH_PAN_MPL_K) : s.suppresses x = false := by
  rcases hk with hk | hk
  · simp [State.suppresses, hp, hk]
  · simp [State.suppresses, hp, hk]

section
variable (hx : s.floodAt n = some x) (hi : x.instant = some i)
include hx hi

theorem exec_trickleInstant : exec (.trickleInstant n faults) s = .next (
    if s.suppresses x then (s.advanceTo i).setFlood { x with instant := none }
    else if s.pwr.hush then s.advanceTo i
    else (s.advanceTo i).onPipe 56 (ipSrc x.bytes) faults.val (fun s => s.floodSend x)) := by
  rw [State.floodAt] at hx
  simp only [exec_trickleInstant_arm, execTrickleInstant, hx, hi]
  rfl

theorem exec_trickleInstant_suppressed (h : s.suppresses x = true) :
    exec (.trickleInstant n faults) s = .next ((s.advanceTo i).setFlood { x with instant := none }) := by
  rw [exec_trickleInstant hx hi, if_pos h]

theorem exec_trickleInstant_hush (h : s.suppresses x = false) (hh : s.pwr.hush = true) :
    exec (.trickleInstant n faults) s = .next (s.advanceTo i) := by
  rw [exec_trickleInstant hx hi, if_neg (ne_true_of_eq_false h), if_pos hh]

theorem exec_trickleInstant_sends (h : s.suppresses x = false) (hh : s.pwr.hush = false)
    (hp : s.fld R.SAFE_HEALTH F.SAFE_HEALTH_PIPE_OK ≠ 0) : exec (.trickleInstant n 0) s = .next ((s.advanceTo i).floodSend x) := by
  rw [exec_trickleInstant hx hi, if_neg (ne_true_of_eq_false h), if_neg (ne_true_of_eq_false hh)]
  exact congrArg _ (State.onPipe_zero hp)

end

/-- The copy of a flood that an instant makes, and the state with its fragment tag taken. -/
abbrev State.floodCopy (s : State) (x : Flood) : RadioCopy × State :=
  (s.setFlood { x with instant := none }).radioCopy x.pan x.cls 0 none (!x.relay) x.bytes

/-- The cells that the copy's first frame needs. -/
abbrev State.floodNeed (s : State) (x : Flood) : Nat := frameCells ((s.floodCopy x).1.parts.headD []).length

section
variable (hf : (s.floodCopy x).1.parts.length ≤ 1 ∨ ∃ f, x.origin = .host f)
include hf

/-- A flood that may be sent, being a partition's or in one frame, is sent as its cells allow. -/
theorem State.floodSend_eq : s.floodSend x =
    if !(s.floodCopy x).2.cellsOk (s.floodNeed x) false then s
    else (((s.floodCopy x).2.takeChain (s.floodNeed x)).2.radioSend
      ⟨x.bytes, ((s.floodCopy x).2.takeChain (s.floodNeed x)).1, 56, .flood x.n, false, x.cls, 0, [], false, 0⟩ x.pan false
      [(s.floodCopy x).1]).getD s := by
  unfold State.floodSend
  dsimp only
  rw [if_neg]
  rcases hf with hone | ⟨f, hhost⟩
  · simp [Nat.not_lt.mpr hone]
  · simp [hhost]

theorem State.floodSend_noCells (hc : (s.floodCopy x).2.cellsOk (s.floodNeed x) false = false) : s.floodSend x = s := by
  rw [State.floodSend_eq hf, hc]
  rfl

theorem State.floodSend_placed (hc : (s.floodCopy x).2.cellsOk (s.floodNeed x) false = true) : s.floodSend x =
    (((s.floodCopy x).2.takeChain (s.floodNeed x)).2.radioSend
      ⟨x.bytes, ((s.floodCopy x).2.takeChain (s.floodNeed x)).1, 56, .flood x.n, false, x.cls, 0, [], false, 0⟩ x.pan false
      [(s.floodCopy x).1]).getD s := by
  rw [State.floodSend_eq hf, hc]
  rfl

end

end

/-! ### TRICKLE_INTERVAL_END (R249) -/

section
variable {s : State} {n : Nat} {x : Flood}

/-- The flood with an interval less to run, that has doubled once more. -/
def Flood.doubled (x : Flood) : Flood := { x with left := x.left - 1, doublings := x.doublings + 1 }

/-- The flood in its next interval, of double length, and the state with the instant's free value drawn. -/
abbrev State.floodNext (s : State) (x : Flood) : Flood × State := s.floodInterval x.doubled (2 * x.interval)

/-- An interval's instant lies in its second half. -/
theorem State.floodInterval_instant (s : State) (x : Flood) (m : Nat) : ∃ i, (s.floodInterval x (2 * m)).1.instant = some i ∧
    s.now + m ≤ i ∧ (0 < m → i < s.now + 2 * m) := by
  refine ⟨_, rfl, ?_, fun hm => ?_⟩ <;> rw [Nat.mul_div_cancel_left m Nat.two_pos]
  · exact Nat.le_add_right _ _
  · have hr : Config.freeVal s.free % max 1 m < m := (Nat.mod_lt _ (by omega)).trans_eq (Nat.max_eq_right hm)
    omega

section
variable (hx : s.floodAt n = some x)
include hx

theorem exec_trickleIntervalEnd_last (hl : x.left = 1) :
    exec (.trickleIntervalEnd n) s = .next ((s.advanceTo (x.start + x.interval)).floodEnd x) := by
  rw [State.floodAt] at hx
  simp [exec_trickleIntervalEnd_arm, execTrickleIntervalEnd, hx, hl]

theorem exec_trickleIntervalEnd_doubled (hl : 2 ≤ x.left) (hd : x.doublings < s.mplField x.pan F.MESH_PAN_MPL_IMAX) :
    let y := (s.advanceTo (x.start + x.interval)).floodNext x
    exec (.trickleIntervalEnd n) s = .next (y.2.setFlood y.1) := by
  have h0 : x.left ≠ 0 := by omega
  have h1 : x.left ≠ 1 := by omega
  have hup : x.doublings < (s.advanceTo (x.start + x.interval)).mplField x.pan F.MESH_PAN_MPL_IMAX := hd
  rw [State.floodAt] at hx
  simp only [exec_trickleIntervalEnd_arm, execTrickleIntervalEnd, hx, h0, h1, hup, if_false, if_true]
  rfl

theorem Does.trickleIntervalEnd (hl : 2 ≤ x.left) (hd : x.doublings < s.mplField x.pan F.MESH_PAN_MPL_IMAX) :
    Does (.trickleIntervalEnd n) s (fun t => t.now = max s.now (x.start + x.interval) ∧ t.regs = s.regs ∧
      ∃ y, t.floodAt n = some y ∧ y.interval = 2 * x.interval ∧ y.left = x.left - 1 ∧ y.heard = 0 ∧ y.doublings = x.doublings + 1 ∧
        ∃ i, y.instant = some i ∧ t.now + x.interval ≤ i ∧ (0 < x.interval → i < t.now + 2 * x.interval)) := by
  obtain ⟨u, hu⟩ : ∃ u, s.advanceTo (x.start + x.interval) = u := ⟨_, rfl⟩
  have hnow : max s.now (x.start + x.interval) = u.now := hu ▸ (s.advanceTo_now _).symm
  have hmesh : u.mesh = s.mesh := hu ▸ s.advanceTo_mesh _
  have hregs : u.regs = s.regs := hu ▸ rfl
  have hxu : (u.floodNext x).2.floodAt n = some x := by rwa [State.floodAt, show (u.floodNext x).2.mesh = s.mesh from hmesh]
  have hn : (u.floodNext x).1.n = n := show x.n = n from State.floodAt_n hx
  have hrun := exec_trickleIntervalEnd_doubled hx hl hd
  rw [hu] at hrun
  rw [hnow]
  exact Does.of_next hrun ⟨rfl, hregs, (u.floodNext x).1, State.floodAt_setFlood hxu hn, rfl, rfl, rfl, rfl,
    u.floodInterval_instant x.doubled x.interval⟩

end

end

/-! ### The obligation -/

/-- Settles O36: seeding by what the flood queue and the seed IDs hold, an instant by what suppresses a copy, an interval's end by the intervals
left. -/
theorem floodsRun : Obligations.FloodsRun := by
  unfold Obligations.FloodsRun
  intro s p n x faults live
  refine ⟨exec_mplSeed_empty, exec_mplSeed_hush, fun f hm => exec_mplSeed_failed hm, fun f hm => exec_mplSeed_noSeed hm,
    fun f id q t hm hh hq hc => Does.mplSeed hm hh hq hc, fun i hx hi hk hn => exec_trickleInstant_suppressed hx hi (State.suppresses_heard hk hn),
    fun i hx hi hp => exec_trickleInstant_suppressed hx hi (State.suppresses_off hp),
    fun i hx hi hp hk => exec_trickleInstant_hush hx hi (State.suppresses_not hp hk), ?_,
    fun hx => Does.trickleIntervalEnd hx, fun hx => exec_trickleIntervalEnd_last hx⟩
  intro i f hx hi hp hk hh hok c need hone
  have hf : ((s.advanceTo i).floodCopy x).1.parts.length ≤ 1 ∨ ∃ f, x.origin = .host f := hone.imp_right fun h => ⟨f, h⟩
  have hrun := exec_trickleInstant_sends hx hi (State.suppresses_not hp hk) hh hok
  refine ⟨fun hc => hrun.trans (congrArg _ (State.floodSend_noCells hf hc)), fun hc => hrun.trans (congrArg _ ?_)⟩
  rw [State.floodSend_placed hf hc, State.floodAt_n hx]

end Sys2Proof.Machine
end

section
/-! O47: the group commands (R256 to R258). Each one runs in its turn and is decided by its checks in their order: whose group it is, whether anything
open names it, then the buffer. What it leaves of the group is one entry of the table of groups, and the registers show at most the pool. -/

set_option Elab.async false

namespace Sys2Proof.Machine

/-! ### The arms of `exec` -/

section
variable (s : State) (c : CmdDesc) (dma : Dma)

theorem exec_groupDefine_arm : exec (.groupDefine c) s = execGroupDefine c s := rfl
theorem exec_groupAdd_arm : exec (.groupAdd c dma) s = execGroupAdd c dma s := rfl
theorem exec_groupRemove_arm : exec (.groupRemove c dma) s = execGroupRemove c dma s := rfl
theorem exec_groupCompact_arm : exec (.groupCompact c) s = execGroupCompact c s := rfl
theorem exec_groupRead_arm : exec (.groupRead c) s = execGroupRead c s := rfl
theorem exec_groupDelete_arm : exec (.groupDelete c) s = execGroupDelete c s := rfl

end

/-! ### Groups in the state (R255, R258) -/

section
variable (s : State) (g : Nat) (x : Group)

@[simp] theorem State.group_setGroup : (s.setGroup g x).group g = x := aget_aset_same ({} : Group) x g s.cvn.groups

theorem State.group_setGroup_ne {h : Nat} (hh : h ≠ g) : (s.setGroup g x).group h = s.group h := aget_aset_ne ({} : Group) x g h s.cvn.groups hh

theorem State.poolSync_regsBut : s.poolSync.regsBut s [R.CVN_POOL_USE] := s.setFld_regsBut _ _ (by simp)

end

/-! ### What a command reads is as it was before it was taken -/

section
variable (s : State) (c : CmdDesc)

@[simp] theorem State.cmdTake_group (g : Nat) : (s.cmdTake c).group g = s.group g := rfl
@[simp] theorem State.cmdTake_groupMay (p g : Nat) : (s.cmdTake c).groupMay p g = s.groupMay p g := rfl
@[simp] theorem State.cmdTake_groupLocked (g : Nat) : (s.cmdTake c).groupLocked g = s.groupLocked g := rfl
@[simp] theorem State.cmdTake_poolUsed : (s.cmdTake c).poolUsed = s.poolUsed := rfl
@[simp] theorem State.cmdTake_panOn (p : Nat) : (s.cmdTake c).panOn p = s.panOn p := rfl
@[simp] theorem State.cmdTake_panMay (q p : Nat) : (s.cmdTake c).panMay q p = s.panMay q p := rfl

@[simp] theorem State.cmdTake_bufOrds (d : CmdDesc) (n : Nat) : (s.cmdTake c).bufOrds d n = s.bufOrds d n := by
  rw [State.bufOrds, State.cmdTake_memBytes, State.bufOrds]

end

/-! ### What the commands leave of a group -/

section
variable {s : State} {c : CmdDesc} {i : Instr} {g : Nat} {x : Group} {ws : List Word}

/-- A command that stores a group and completes: every other group is as it was, and every register. -/
theorem Does.setGroup (he : exec i s = .next (((s.cmdTake c).setGroup g x).cmdOk c ws)) :
    Does i s (fun t => t.group g = x ∧ (∀ h, h ≠ g → t.group h = s.group h) ∧ t.regs = s.regs ∧
      (s.clearFor c = true → t.completed c stOK ws 0)) :=
  Does.of_next he ⟨State.group_setGroup .., fun _ hh => State.group_setGroup_ne (s.cmdTake c) g x hh, rfl,
    fun hc => State.cmdOk_completed ((s.cmdTake c).setGroup g x) c ws hc⟩

/-- One that may change the extents in use shows them too. -/
theorem Does.setGroup_pool (he : exec i s = .next (((s.cmdTake c).setGroup g x).poolSync.cmdOk c ws)) :
    Does i s (fun t => t.group g = x ∧ (∀ h, h ≠ g → t.group h = s.group h) ∧ t.regsBut s [R.CVN_POOL_USE] ∧
      (s.clearFor c = true → t.completed c stOK ws 0)) :=
  Does.of_next he ⟨State.group_setGroup .., fun _ hh => State.group_setGroup_ne (s.cmdTake c) g x hh,
    ((s.cmdTake c).setGroup g x).poolSync_regsBut, fun hc => State.cmdOk_completed ((s.cmdTake c).setGroup g x).poolSync c ws hc⟩

end

theorem Does.mono {i : Instr} {s : State} {q r : State → Prop} (h : Does i s q) (hr : ∀ t, q t → r t) : Does i s r :=
  h.imp fun _ ⟨e, ht⟩ => ⟨e, hr _ ht⟩

/-! ### GROUP_DEFINE (R256) -/

section
variable {s : State} {c : CmdDesc} (hturn : s.cmdTurn c = true) (ho : s.panOn (bitsAt c.w1 16 3) = true)
  (hm : s.panMay c.part.val (bitsAt c.w1 16 3) = true)
include hturn ho hm

theorem exec_groupDefine (hd : (s.group (cmdGroup c)).defined = false) (hp : bitAt c.w1 21 = false) :
    exec (.groupDefine c) s = .next (((s.cmdTake c).setGroup (cmdGroup c) ⟨true, bitsAt c.w1 16 3, c.part.val, none, []⟩).cmdOk c
      (groupWords 0 0 0)) := by
  simp [exec_groupDefine_arm, execGroupDefine, hturn, ho, hm, hd, hp]

theorem exec_groupDefine_defined (hd : (s.group (cmdGroup c)).defined = true) :
    exec (.groupDefine c) s = .next ((s.cmdTake c).cmdBad c 3) := by
  simp [exec_groupDefine_arm, execGroupDefine, hturn, ho, hm, hd]

end

/-! ### Refusals: the group is another's, or something open names it (R258) -/

section
variable {s : State} {c : CmdDesc} {dma : Dma} (hturn : s.cmdTurn c = true)
include hturn

theorem exec_group_refused (hm : s.groupMay c.part.val (cmdGroup c) = false) :
    exec (.groupAdd c dma) s = .next ((s.cmdTake c).cmdBad c 16) ∧ exec (.groupRemove c dma) s = .next ((s.cmdTake c).cmdBad c 16) ∧
    exec (.groupCompact c) s = .next ((s.cmdTake c).cmdBad c 16) ∧ exec (.groupRead c) s = .next ((s.cmdTake c).cmdBad c 16) ∧
    exec (.groupDelete c) s = .next ((s.cmdTake c).cmdBad c 16) := by
  simp [exec_groupAdd_arm, execGroupAdd, exec_groupRemove_arm, execGroupRemove, exec_groupCompact_arm, execGroupCompact, exec_groupRead_arm,
    execGroupRead, exec_groupDelete_arm, execGroupDelete, hturn, hm]

variable (hm : s.groupMay c.part.val (cmdGroup c) = true)
include hm

theorem exec_group_locked (hl : s.groupLocked (cmdGroup c) = true) :
    exec (.groupAdd c dma) s = .next ((s.cmdTake c).cmdBad c 13) ∧ exec (.groupRemove c dma) s = .next ((s.cmdTake c).cmdBad c 13) ∧
    exec (.groupCompact c) s = .next ((s.cmdTake c).cmdBad c 13) ∧ exec (.groupDelete c) s = .next ((s.cmdTake c).cmdBad c 13) := by
  simp [exec_groupAdd_arm, execGroupAdd, exec_groupRemove_arm, execGroupRemove, exec_groupCompact_arm, execGroupCompact,
    exec_groupDelete_arm, execGroupDelete, hturn, hm, hl]

/-- Reading needs no more than that. -/
theorem exec_groupRead (hu : unaligned c.w4 c.w5 = false) :
    exec (.groupRead c) s = .next (
      let es := ((s.group (cmdGroup c)).entries.drop (bitsAt c.w2 0 20)).take (groupCount c.w3 20)
      ((s.cmdTake c).memWrite c.part.val (addr64 c.w4 c.w5) (wordsBytes es)).cmdOk c
        (groupWords (s.group (cmdGroup c)).entries.length es.length 0)) := by
  simp [exec_groupRead_arm, execGroupRead, hturn, hm, hu]

variable (hf : s.groupLocked (cmdGroup c) = false)
include hf

theorem exec_groupCompact : let x := s.group (cmdGroup c)
    let es := x.entries.filter (fun e => !entVoid e)
    exec (.groupCompact c) s = .next (((s.cmdTake c).setGroup (cmdGroup c) { x with entries := es }).poolSync.cmdOk c
      (groupWords es.length (x.entries.length - es.length) 0)) := by
  simp [exec_groupCompact_arm, execGroupCompact, hturn, hm, hf]

theorem exec_groupDelete :
    exec (.groupDelete c) s = .next (((s.cmdTake c).setGroup (cmdGroup c) {}).poolSync.cmdOk c (groupWords 0 0 0)) := by
  simp [exec_groupDelete_arm, execGroupDelete, hturn, hm, hf]

end

/-! ### GROUP_ADD and GROUP_REMOVE of one ordinal (R256) -/

theorem State.appendOrds_one {s : State} {p o n : Nat} {x : Group} {es : List Word} (h : s.addable p x es o = true) :
    s.appendOrds p x [o] es n = (es ++ [w32 o], n + 1) := by
  simp [State.appendOrds, h]

theorem voidOne_length (o : Nat) (es : List Word) : (voidOne o es).1.length = es.length := List.length_map ..

theorem entVoid_or (e : Word) : entVoid (e ||| 0x80000000) = true := by simp [entVoid, bitAt]

/-- No entry that is not void holds a voided ordinal. -/
theorem voidOne_gone (o : Nat) (es : List Word) : ∀ e ∈ (voidOne o es).1, entVoid e = true ∨ entOrd e ≠ o := by
  intro e he
  obtain ⟨a, -, rfl⟩ := List.mem_map.mp he
  split
  case isTrue => exact .inl (entVoid_or a)
  case isFalse h =>
    by_cases hv : entVoid a = true
    · exact .inl hv
    · exact .inr fun ho => h (by simp [hv, ho])

section
variable {s : State} {c : CmdDesc} {dma : Dma} {o : Nat} (hturn : s.cmdTurn c = true) (hm : s.groupMay c.part.val (cmdGroup c) = true)
  (hf : s.groupLocked (cmdGroup c) = false) (hu : unaligned c.w4 c.w5 = false) (hd : dma = .ok)
  (hb : s.bufOrds c (groupCount c.w2 17) = [o])
include hturn hm hf hu hd hb

theorem exec_groupAdd_one (ho : s.panOn (s.group (cmdGroup c)).pan = true)
    (ha : s.addable c.part.val (s.group (cmdGroup c)) (s.group (cmdGroup c)).entries o = true)
    (hl : (s.group (cmdGroup c)).entries.length < 524288)
    (hpool : s.poolUsed - extents (s.group (cmdGroup c)).entries.length + extents ((s.group (cmdGroup c)).entries.length + 1) ≤ 7936) :
    let x := s.group (cmdGroup c)
    exec (.groupAdd c dma) s = .next (((s.cmdTake c).setGroup (cmdGroup c) { x with entries := x.entries ++ [w32 o] }).poolSync.cmdOk c
      (groupWords (x.entries.length + 1) 1 (groupCount c.w2 17 - 1))) := by
  have ha' : (s.cmdTake c).addable c.part.val (s.group (cmdGroup c)) (s.group (cmdGroup c)).entries o = true := ha
  have hl' : ¬524288 < (s.group (cmdGroup c)).entries.length + 1 := by omega
  simp [exec_groupAdd_arm, execGroupAdd, hturn, hm, hf, hu, hd, hb, ho, State.appendOrds_one ha', hl', Nat.not_lt.mpr hpool]

theorem exec_groupRemove_one : let x := s.group (cmdGroup c)
    let v := voidOne o x.entries
    let k := if v.2 then 1 else 0
    exec (.groupRemove c dma) s = .next (((s.cmdTake c).setGroup (cmdGroup c) { x with entries := v.1 }).cmdOk c
      (groupWords v.1.length k (groupCount c.w2 17 - k))) := by
  simp [exec_groupRemove_arm, execGroupRemove, hturn, hm, hf, hu, hd, hb]

end

/-! ### The obligation -/

/-- Settles O47: each command by its checks in their order, and by the one group that it stores. -/
theorem groupCommands : Obligations.GroupCommands := by
  unfold Obligations.GroupCommands
  intro s c dma hturn
  refine ⟨fun hc ho hm hd hp => ?_, exec_groupDefine_defined hturn, fun hm hf ho hu hd o hb ha hl hpool => ?_, fun hm hf hu hd o hb => ?_,
    fun hm hf => ?_, exec_groupRead hturn, fun hc hm hf => ?_, exec_group_locked hturn, exec_group_refused hturn⟩
  · exact (Does.setGroup (exec_groupDefine hturn ho hm hd hp)).mono fun _ ⟨hg, hne, hr, hcpl⟩ => ⟨hg, hne, hcpl hc, hr⟩
  · exact (Does.setGroup_pool (exec_groupAdd_one hturn hm hf hu hd hb ho ha hl hpool)).mono fun _ ⟨hg, hne, hr, _⟩ => ⟨hg, hne, hr⟩
  · refine (Does.setGroup (exec_groupRemove_one hturn hm hf hu hd hb)).mono fun _ ⟨hg, _, hr, _⟩ => ?_
    rw [hg]
    exact ⟨voidOne_length o _, voidOne_gone o _, hr⟩
  · exact (Does.setGroup_pool (exec_groupCompact hturn hm hf)).mono fun _ ⟨hg, hne, hr, _⟩ => ⟨congrArg Group.entries hg, hne, hr⟩
  · exact (Does.setGroup_pool (exec_groupDelete hturn hm hf)).mono fun _ ⟨hg, hne, hr, hcpl⟩ =>
      ⟨congrArg Group.defined hg, hne, hcpl hc, hr⟩

end Sys2Proof.Machine
end

section
/-! Postings beside the logs (R268, R386 to R389): a Ledger record, whatever it sets off, leaves the count of postings that differ and the list of
postings that wait. The registers that a session's end clears lie above that count, whatever the session's number. -/

set_option Elab.async false

namespace Sys2Proof.Machine

/-- From a state to another the count of postings that differ and the postings that wait stayed. -/
structure PostingsKept (s t : State) : Prop where
  count : t.rd R.CVN_CNT_MISMATCH = s.rd R.CVN_CNT_MISMATCH
  waiting : t.cvn.waiting = s.cvn.waiting

/-! ### The rules -/

section
variable {s t u : State}

theorem PostingsKept.refl (s : State) : PostingsKept s s := ⟨rfl, rfl⟩

theorem PostingsKept.trans (h : PostingsKept s t) (h2 : PostingsKept t u) : PostingsKept s u :=
  ⟨h2.count.trans h.count, h2.waiting.trans h.waiting⟩

theorem PostingsKept.ite {p : Prop} [Decidable p] (ht : p → PostingsKept s t) (hu : ¬p → PostingsKept s u) :
    PostingsKept s (if p then t else u) := by
  split
  · exact ht ‹p›
  · exact hu ‹¬p›

variable (h : PostingsKept s t)
include h

/-- Only the registers and the postings matter. -/
theorem PostingsKept.same (hr : u.regs = t.regs := by rfl) (hw : u.cvn.waiting = t.cvn.waiting := by rfl) : PostingsKept s u :=
  h.trans ⟨State.rd_of_regs hr _, hw⟩

theorem PostingsKept.wr (k : Nat) (v : Word) (hk : R.CVN_CNT_MISMATCH ≠ k) : PostingsKept s (t.wr k v) := h.trans ⟨t.rd_wr_ne v hk, rfl⟩

theorem PostingsKept.setFld (k : Nat) (f : Fld) (x : Nat) (hk : R.CVN_CNT_MISMATCH ≠ k) : PostingsKept s (t.setFld k f x) := h.wr k _ hk

theorem PostingsKept.foldl {α : Type} {f : State → α → State} (hf : ∀ u x, PostingsKept s u → PostingsKept s (f u x)) (l : List α) :
    PostingsKept s (l.foldl f t) :=
  List.foldlRecOn (motive := PostingsKept s) l f h fun u hu x _ => hf u x hu

/-! ### Caravans and sessions that end (R265, R275) -/

theorem PostingsKept.cvnSync : PostingsKept s t.cvnSync :=
  ((h.setFld R.CVN_USE _ _ (by decide)).setFld R.CVN_USE _ _ (by decide)).setFld R.CVN_IDQ _ _ (by decide)

theorem PostingsKept.cvnEnd (c : Caravan) (status : Nat) (expired : Bool) : PostingsKept s (t.cvnEnd c status expired) := by
  have ha := h.foldl (f := fun s p => s.cvnAnswer c status expired p) (fun _ _ hu => hu.same) c.posts
  unfold State.cvnEnd
  exact PostingsKept.cvnSync ha.same

theorem PostingsKept.imgEnd (i : Nat) (x : ImgSess) (status : Nat) : PostingsKept s (t.imgEnd i x status) := by
  unfold State.imgEnd
  exact PostingsKept.wr h.same _ _ (by simp only [R.CVN_CNT_MISMATCH, R.IMG_SESS]; omega)

theorem PostingsKept.quietEnds : PostingsKept s t.quietEnds :=
  (h.foldl (fun _ c hu => hu.cvnEnd c stQUIET false) _).foldl (fun _ e hu => hu.imgEnd e.1 e.2 stQUIET) _

/-! ### The Ledger and Quiet (R372, R377, R386 to R389) -/

theorem PostingsKept.ledgerStore (r : List Word) : PostingsKept s (t.ledgerStore r).1 := by
  unfold State.ledgerStore
  dsimp only
  split
  · exact h.setFld R.SAFE_HEALTH _ _ (by decide)
  · exact PostingsKept.setFld h.same R.SAFE_HEALTH _ _ (by decide)

theorem PostingsKept.ledgerPut (code src : Nat) (p0 p1 p2 : Word) : PostingsKept s (t.ledgerPut code src p0 p1 p2).1 := by
  have ht : PostingsKept s (t.trail code src p0 p1 p2) := PostingsKept.wr h.same R.LOG_TNEXT _ (by decide)
  have hn := ht.wr R.LOG_LNEXT (t.rd R.LOG_LNEXT + 1) (by decide)
  unfold State.ledgerPut
  dsimp only
  split
  · split
    · exact PostingsKept.setFld hn.same R.LOG_LFIFO _ _ (by decide)
    · exact hn.same
  · exact hn.ledgerStore _

theorem PostingsKept.quietOver (c : Nat) : PostingsKept s (t.quietOver c) :=
  h.trans ⟨t.quietOver_regsBut c _ (by decide), congrArg CvnSt.waiting (t.quietOver_cvn c)⟩

theorem PostingsKept.quietLatch (c : Nat) : PostingsKept s (t.quietLatch c) := by
  have h1 := h.setFld R.SAFE_CAUSE F.SAFE_CAUSE_LATCHED (setNbit (t.fld R.SAFE_CAUSE F.SAFE_CAUSE_LATCHED) c) (by decide)
  have h2 : PostingsKept s (if causeMomentary c then _ else _) := .ite (fun _ => h1)
    (fun _ => h1.setFld R.SAFE_CAUSE F.SAFE_CAUSE_LIVE (setNbit (t.fld R.SAFE_CAUSE F.SAFE_CAUSE_LIVE) c) (by decide))
  unfold State.quietLatch
  exact ((h2.setFld R.SAFE_STATE F.SAFE_STATE_QUIET 1 (by decide)).setFld R.SAFE_STATE F.SAFE_STATE_DRIVE_F 1 (by decide)).same

theorem PostingsKept.quietReport (c : Nat) : PostingsKept s (t.quietReport c).1 := by
  unfold State.quietReport
  exact (PostingsKept.ite (fun _ => (h.ledgerPut ..).quietOver 9) (fun _ => h.ledgerPut ..)).same

theorem PostingsKept.quietLedger : PostingsKept s t.quietLedger :=
  .ite (fun _ => h) (fun _ => ((h.quietLatch 9).quietReport 9).quietEnds)

theorem PostingsKept.ledger (code src : Nat) (p0 p1 p2 : Word) : PostingsKept s (t.ledger code src p0 p1 p2) := by
  have hp := h.ledgerPut code src p0 p1 p2
  exact .ite (fun _ => hp.quietLedger) (fun _ => .ite (fun _ => hp) (fun _ => hp.quietOver 9))

end

end Sys2Proof.Machine
end

section
/-! O48: Caravans (R262 to R270). A posting draws its source port and Hop Limit and is decided by Quiet, by its checks and by its limits; a Caravan is
found by its ID, and one that is written in its place reads as written. -/

set_option Elab.async false

namespace Sys2Proof.Machine

/-! ### The arms of `exec` -/

section
variable (s : State) (c : CmdDesc) (cid : BitVec 16)

theorem exec_cvnPost_arm (dma : Dma) (n : Fin 5) : exec (.cvnPost c dma n) s = execCvnPost c dma n s := rfl
theorem exec_cvnCancel_arm : exec (.cvnCancel c) s = execCvnCancel c s := rfl
theorem exec_caravanPhaseEnd_arm : exec (.caravanPhaseEnd cid) s = execCaravanPhaseEnd cid s := rfl
theorem exec_sweepCopyQueue_arm (n : Fin 5) : exec (.sweepCopyQueue cid n) s = execSweepCopyQueue cid n s := rfl
theorem exec_caravanExpiry_arm : exec (.caravanExpiry cid) s = execCaravanExpiry cid s := rfl
theorem exec_concurTimeout_arm (p : Part) : exec (.concurTimeout cid p) s = execConcurTimeout cid p s := rfl
theorem exec_caravanIdRelease_arm : exec (.caravanIdRelease cid) s = execCaravanIdRelease cid s := rfl

end

/-! ### Caravans by their IDs (R264, R269) -/

section
variable {s : State} {id : Nat} {v w : Caravan}

theorem State.cvnOf_cid (h : s.cvnOf id = some v) : v.cid = id :=
  of_decide_eq_true (List.find?_some (p := fun x : Caravan => decide (x.cid = id)) h)

/-- A Caravan that is written in the place of one reads as written. -/
theorem State.cvnOf_setCvn (h : s.cvnOf id = some v) (hw : w.cid = id) : (s.setCvn w).cvnOf id = some w := by
  have hkeep : (fun x : Caravan => decide (x.cid = id)) ∘ (fun x => if x.cid = w.cid then w else x) = fun x => decide (x.cid = id) := by
    funext x
    by_cases hx : x.cid = id <;> simp [hw, hx]
  calc (s.setCvn w).cvnOf id = (s.cvnOf id).map (fun x => if x.cid = w.cid then w else x) := by
        rw [State.cvnOf, State.setCvn, List.find?_map, hkeep, State.cvnOf]
    _ = some w := by rw [h, Option.map_some, if_pos ((State.cvnOf_cid h).trans hw.symm)]

/-- The next ID depends on the Caravans and the IDs alone. -/
theorem State.cvnId_of {t : State} (hc : t.cvn = s.cvn) (hi : t.cvnIds = s.cvnIds) (n i : Nat) : t.cvnId n i = s.cvnId n i := by
  induction n generalizing i with
  | zero => rfl
  | succ n ih => rw [State.cvnId, State.cvnId, hc, hi, ih]

/-- An ID that is assigned is that of no open Caravan. -/
theorem State.cvnId_fresh {n i : Nat} (h : s.cvnId n i = some id) : ∀ v ∈ s.cvn.open_, v.cid ≠ id := by
  induction n generalizing i with
  | zero => cases h
  | succ n ih =>
    rw [State.cvnId] at h
    split at h
    case isTrue => exact ih h
    case isFalse hfree =>
      cases h
      intro v hv e
      exact hfree (by simpa using .inl (.inl ⟨v, hv, e⟩))

/-- A Caravan that opens under such an ID is found by it. -/
theorem find?_opened {l : List Caravan} (hl : ∀ x ∈ l, x.cid ≠ v.cid) : (l ++ [v]).find? (fun x => x.cid = v.cid) = some v := by
  have hnone : l.find? (fun x => decide (x.cid = v.cid)) = none := List.find?_eq_none.mpr fun x hx => by simpa using hl x hx
  rw [List.find?_append, hnone]
  simp

end

/-! ### Sweep rounds (R264) -/

/-- A Caravan in its next sweep round. -/
def State.cvnSwept (s : State) (v : Caravan) : Caravan :=
  { v with
    phase := 2
    round := v.round + 1
    toSend := (((s.group v.group).entries.take v.entries).filter (fun e => !entVoid e && v.pending.contains (entOrd e))).map entOrd
    inFlight := [] }

theorem State.cvnRound_next {s : State} {v : Caravan} (h : v.round < v.rounds) : s.cvnRound v = s.setCvn (s.cvnSwept v) :=
  if_neg (Nat.not_le.mpr h)

/-! ### An accepted posting (R263, R264) -/

/-- The Caravan of a posting as it opens. -/
abbrev State.cvnNew (s : State) (c : CmdDesc) (posts : List CmdDesc) (payload : List Byte) (sport hop id : Nat) : Caravan where
  cid := id
  group := cmdGroup c
  mode := cvnMode c
  cls := cvnCls c
  rounds := bitsAt c.w1 20 4
  ackReq := bitAt c.w1 24
  window := max 1 (bitsAt c.w3 12 12)
  expiry := c.w2.toNat
  payload := payload
  posts := posts
  entries := (s.group (cmdGroup c)).entries.length
  pending := (s.group (cmdGroup c)).members
  answered := []
  refused := []
  phase := 4
  round := 0
  toSend := []
  inFlight := []
  unreached := []
  waitEnd := 0
  sport := sport
  hop := hop

/-- The state as a Caravan opens for its postings. -/
def State.cvnOpened (s : State) (v : Caravan) : State :=
  ({ s with
    cvn := { s.cvn with open_ := s.cvn.open_ ++ [v] }
    cvnIds := { s.cvnIds with
      last := v.cid
      openIds := aput v.cid (v.group, v.posts.foldl (fun m (d : CmdDesc) => setNbit m d.part.val) 0) (adel v.cid s.cvnIds.openIds) } }).cvnSync

section
variable {s : State} {c : CmdDesc} {posts : List CmdDesc} {payload : List Byte} {sport hop faults id : Nat}
  (hid : s.cvnId 65536 ((s.cvnIds.last + 1) % 65536) = some id)
include hid

theorem State.cvnOf_cvnOpened {v : Caravan} (hv : v.cid = id) : (s.cvnOpened v).cvnOf id = some v := by
  subst hv
  exact find?_opened (State.cvnId_fresh hid)

/-- A Caravan without a flood goes into its first sweep round. -/
theorem State.cvnAccept_sweep (hm : cvnMode c = 1) (hg : (s.group (cmdGroup c)).members ≠ []) (hr : 0 < bitsAt c.w1 20 4) :
    let v := s.cvnNew c posts payload sport hop id
    s.cvnAccept c posts payload sport hop faults = (s.cvnOpened v).setCvn ((s.cvnOpened v).cvnSwept v) := by
  intro v
  rw [← State.cvnRound_next (v := v) hr, State.cvnAccept, hid]
  exact (if_neg (by rwa [List.isEmpty_iff])).trans (if_pos hm)

theorem State.cvnAccept_sweep_effect (hm : cvnMode c = 1) (hg : (s.group (cmdGroup c)).members ≠ []) (hr : 0 < bitsAt c.w1 20 4) :
    let t := s.cvnAccept c posts payload sport hop faults
    t.cvnIds.last = id ∧ ∃ v, t.cvnOf id = some v ∧ v.phase = 2 ∧ v.round = 1 ∧ v.pending = (s.group (cmdGroup c)).members ∧
      v.posts = posts ∧ v.payload = payload := by
  intro t
  rw [show t = _ from State.cvnAccept_sweep hid hm hg hr]
  exact ⟨rfl, _, State.cvnOf_setCvn (State.cvnOf_cvnOpened hid rfl) rfl, rfl, rfl, rfl, rfl, rfl⟩

end

/-! ### CVN_POST (R263, R268 to R270) -/

theorem State.cvnFull_of_room {s : State} {p : Nat} (h : s.cvnFull p ≠ some 0) : s.cvnFull p = none ∨ s.cvnFull p = some 1 := by
  unfold State.cvnFull at h ⊢
  split
  case isTrue hl => exact absurd (if_pos hl) h
  case isFalse => split <;> simp

section
variable {s : State} {c : CmdDesc} {dma : Dma} {n : Fin 5} (hturn : s.cmdTurn c = true)
include hturn

theorem exec_cvnPost_quiet (hq : s.inQuiet = true) :
    exec (.cvnPost c dma n) s = .next ((s.cmdTake c).engineDraw.2.cmdDone c stQUIET [] 0 0) := by
  have hq' : (s.cmdTake c).engineDraw.2.inQuiet = true := hq
  simp only [exec_cvnPost_arm, execCvnPost, hturn, hq', Bool.not_true, Bool.false_eq_true, if_false, if_true]

variable (hq : s.inQuiet = false)
include hq

theorem exec_cvnPost_bad {e : Nat × Nat}
    (hb : (s.cmdTake c).engineDraw.2.cvnBad c dma (s.cmdTake c).engineDraw.1.1 (s.cmdTake c).engineDraw.1.2 = some e) :
    exec (.cvnPost c dma n) s = .next ((s.cmdTake c).engineDraw.2.cmdDone c stBAD_PARAM [] e.1 e.2) := by
  have hq' : (s.cmdTake c).engineDraw.2.inQuiet = false := hq
  simp only [exec_cvnPost_arm, execCvnPost, hturn, hq', hb, Bool.not_true, Bool.false_eq_true, if_false]

/-- A good posting that the limits do not stop is accepted, or goes to the comparison of dual postings. -/
theorem exec_cvnPost_taken
    (hb : (s.cmdTake c).engineDraw.2.cvnBad c dma (s.cmdTake c).engineDraw.1.1 (s.cmdTake c).engineDraw.1.2 = none)
    (hf : s.cvnFull c.part.val = none ∨ s.cvnFull c.part.val = some 1 ∧ s.cvnSecond c = true) :
    let d := (s.cmdTake c).engineDraw
    let payload := s.memBytes c.part.val (addr64 c.w4 c.w5) (bitsAt c.w3 0 11)
    exec (.cvnPost c dma n) s = .next (if cvnCls c = 0 then d.2.cvnDual c payload d.1.1 d.1.2 n.val
      else d.2.cvnAccept c [c] payload d.1.1 d.1.2 n.val) := by
  have hq' : (s.cmdTake c).engineDraw.2.inQuiet = false := hq
  have hp : (s.cmdTake c).engineDraw.2.memBytes c.part.val (addr64 c.w4 c.w5) (bitsAt c.w3 0 11) =
      s.memBytes c.part.val (addr64 c.w4 c.w5) (bitsAt c.w3 0 11) := 
    State.memBytes_of_host (t := (s.cmdTake c).engineDraw.2) s rfl ..
  have hsec : (s.cmdTake c).engineDraw.2.cvnSecond c = s.cvnSecond c := rfl
  have hfull : (s.cmdTake c).engineDraw.2.cvnFull c.part.val = s.cvnFull c.part.val := rfl
  have hroom : (if (s.cvnSecond c && decide (s.cvnFull c.part.val = some 1)) = true then none else s.cvnFull c.part.val) = none := by
    rcases hf with hf | ⟨hf, h2⟩
    · simp [hf]
    · simp [hf, h2]
  simp only [exec_cvnPost_arm, execCvnPost, hturn, hq', hb, hp, hsec, hfull, hroom, Bool.not_true, Bool.false_eq_true, if_false]

end

/-! ### Dual postings (R268, R369) -/

/-- Two postings differ: both are refused, the difference is counted and goes into the Ledger. -/
def State.cvnDiffer (s : State) (w : CvnWait) (c : CmdDesc) : State :=
  (((s.cmdBad w.cmd 15).cmdBad c 15).bump R.CVN_CNT_MISMATCH).ledger 0x0050 (cmdGroup c) (w32 w.cmd.part.val) (w32 c.part.val) 0

theorem State.cvnDiffer_effect (s : State) (w : CvnWait) (c : CmdDesc) : (s.cvnDiffer w c).cvn.waiting = s.cvn.waiting ∧
    (s.cvnDiffer w c).rd R.CVN_CNT_MISMATCH = satInc (s.rd R.CVN_CNT_MISMATCH) := by
  have h := (PostingsKept.refl (((s.cmdBad w.cmd 15).cmdBad c 15).bump R.CVN_CNT_MISMATCH)).ledger 0x0050 (cmdGroup c)
    (w32 w.cmd.part.val) (w32 c.part.val) 0
  exact ⟨h.waiting, h.count.trans (State.rd_bump ..)⟩

section
variable {s : State} {c : CmdDesc} {payload : List Byte} {sport hop faults : Nat} {w : CvnWait}

theorem State.cvnDual_first (hw : s.cvn.waiting = []) : s.cvnDual c payload sport hop faults =
    ({ s with cvn := { s.cvn with waiting := [⟨c, payload, s.now⟩] } } : State).cvnSync := by
  simp only [State.cvnDual, State.cvnHold, hw, List.find?_nil, List.nil_append]

variable (hw : s.cvn.waiting = [w]) (hg : cmdGroup w.cmd = cmdGroup c) (hp : w.cmd.part ≠ c.part)
include hw hg hp

theorem State.cvnSecond_waiting (hc : cvnCls c = 0) : s.cvnSecond c = true := by simp [State.cvnSecond, hw, hg, hp, hc]

/-- The second posting in time, compared by a pair in service that no fault strikes. -/
theorem State.cvnDual_second (ht : s.now ≤ w.at_ + s.concurWindow) (hh : s.fld R.SAFE_HEALTH F.SAFE_HEALTH_PIPE_OK ≠ 0) :
    let s1 := ({ s with cvn := { s.cvn with waiting := [] } } : State).cvnSync
    s.cvnDual c payload sport hop 0 =
      if cvnSame w c payload then s1.cvnAccept c [w.cmd, c] payload sport hop 0 else s1.cvnDiffer w c := by
  have hfind : s.cvn.waiting.find? (fun w => cmdGroup w.cmd = cmdGroup c && w.cmd.part ≠ c.part) = some w := by simp [hw, hg, hp]
  have hrest : s.cvn.waiting.filter (fun v => v.cmd ≠ w.cmd) = [] := by simp [hw]
  simp only [State.cvnDual, hfind, ht, State.onPipe_zero hh, id, hh, hrest, if_true, if_false]
  rfl

end

/-! ### CVN_CANCEL (R265) -/

section
variable {s : State} {c : CmdDesc} (hturn : s.cmdTurn c = true)
include hturn

theorem exec_cvnCancel_undefined (hd : (s.group (cmdGroup c)).defined = false) : exec (.cvnCancel c) s = .next ((s.cmdTake c).cmdBad c 16) := by
  simp [exec_cvnCancel_arm, execCvnCancel, hturn, hd]

/-- Where nothing is open and nothing waits, none is ended. -/
theorem exec_cvnCancel_none (hd : (s.group (cmdGroup c)).defined = true) (ho : (s.group (cmdGroup c)).owner = c.part.val)
    (hopen : s.cvn.open_ = []) (hwait : s.cvn.waiting = []) : exec (.cvnCancel c) s = .next ((s.cmdTake c).cmdOk c [0]) := by
  have hopen' : (s.cmdTake c).cvn.open_ = [] := hopen
  have hwait' : (s.cmdTake c).cvn.waiting = [] := hwait
  simp [exec_cvnCancel_arm, execCvnCancel, hturn, hd, ho, hopen', hwait']

end

/-! ### Phases, expiry and sweep copies of an open Caravan (R264, R265, R369) -/

/-- A pair that no fault strikes leaves what it executes as it was, in service or not. -/
theorem State.enginePipe_zero (s : State) (port p : Nat) : s.enginePipe port p 0 = s := ite_self s

section
variable {s : State} {cid : BitVec 16} {v : Caravan} {n : Fin 5} {o : Nat} {r : List Nat}

theorem exec_caravan_none (h : s.cvnOf cid.toNat = none) : exec (.caravanPhaseEnd cid) s = .next s ∧
    exec (.sweepCopyQueue cid n) s = .next s ∧ exec (.caravanExpiry cid) s = .next s := by
  simp only [exec_caravanPhaseEnd_arm, execCaravanPhaseEnd, exec_sweepCopyQueue_arm, execSweepCopyQueue, exec_caravanExpiry_arm,
    execCaravanExpiry, h, and_self]

variable (h : s.cvnOf cid.toNat = some v)
include h

theorem exec_caravanPhaseEnd_flooded (hp : v.phase = 1) (hm : v.mode = 0) :
    exec (.caravanPhaseEnd cid) s = .next ((s.advanceTo v.waitEnd).cvnEnd v stOK false) := by
  simp only [exec_caravanPhaseEnd_arm, execCaravanPhaseEnd, h, hp, hm, if_true]

theorem exec_caravanPhaseEnd_swept (hp : v.phase = 3) :
    exec (.caravanPhaseEnd cid) s = .next ((s.advanceTo v.waitEnd).cvnRound v) := by
  simp only [exec_caravanPhaseEnd_arm, execCaravanPhaseEnd, h, hp, if_true]
  rfl

theorem Does.caravanPhaseEnd_round (hp : v.phase = 3) (hr : v.round < v.rounds) : Does (.caravanPhaseEnd cid) s (fun t =>
    ∃ w, t.cvnOf cid.toNat = some w ∧ w.phase = 2 ∧ w.round = v.round + 1 ∧ w.pending = v.pending ∧ t.now = max s.now v.waitEnd ∧
      t.regs = s.regs) := by
  have hup : (s.advanceTo v.waitEnd).cvnOf cid.toNat = some v := h
  refine Does.of_next (exec_caravanPhaseEnd_swept h hp) ?_
  rw [State.cvnRound_next hr]
  have hcid : ((s.advanceTo v.waitEnd).cvnSwept v).cid = cid.toNat := show v.cid = cid.toNat from State.cvnOf_cid h
  exact ⟨_, State.cvnOf_setCvn hup hcid, rfl, rfl, rfl, s.advanceTo_now _, rfl⟩

theorem exec_caravanExpiry (he : v.expiry ≠ 0) :
    exec (.caravanExpiry cid) s = .next ((s.toCity v.expiry).cvnAbort cid.toNat stOK true) := by
  simp only [exec_caravanExpiry_arm, execCaravanExpiry, h, he, if_false, State.cvnOf_cid h]

variable (ht : v.toSend = o :: r) (hp : v.phase = 2) (hl : v.inFlight.length < s.sweepMax)
include ht hp hl

/-- A member that has answered, or has been voided, is skipped. -/
theorem exec_sweepCopyQueue_skips (ho : v.pending.contains o = false) :
    exec (.sweepCopyQueue cid n) s = .next ((s.setCvn { v with toSend := r }).cvnSent v.cid) := by
  have hn : ¬(decide (v.phase ≠ 2) || decide (s.sweepMax ≤ v.inFlight.length)) = true := by simp [hp, hl]
  simp only [exec_sweepCopyQueue_arm, execSweepCopyQueue, h, ht, if_neg hn, ho, Bool.not_false, if_true]

theorem exec_sweepCopyQueue_sends (ho : v.pending.contains o = true) : let pan := (s.group v.group).pan
    let dg := udpDatagram (s.chipAddr pan) (s.nodeAddr o) v.sport s.cvnPort v.hop (cvnEnvelope v true)
    let s2 := s.setCvn { v with toSend := r, inFlight := v.inFlight ++ [o] }
    exec (.sweepCopyQueue cid 0) s = .next ((s2.engineSend (enginePkt 58 (.caravan v.cid o) v.cls dg) pan).getD s) := by
  have hn : ¬(decide (v.phase ≠ 2) || decide (s.sweepMax ≤ v.inFlight.length)) = true := by simp [hp, hl]
  have hz (port p : Nat) : s.enginePipe port p (0 : Fin 5).val = s := s.enginePipe_zero port p
  simp only [exec_sweepCopyQueue_arm, execSweepCopyQueue, h, ht, if_neg hn, ho, hz, Bool.not_true, Bool.false_eq_true, if_false]

end

/-! ### Postings that wait in vain, and IDs in quarantine (R268, R269) -/

section
variable {s : State} {cid : BitVec 16} {p : Part}

theorem exec_concurTimeout {w : CvnWait}
    (h : s.cvn.waiting.find? (fun w => cmdGroup w.cmd = cid.toNat && w.cmd.part = p) = some w) :
    exec (.concurTimeout cid p) s = .next ((s.advanceTo (w.at_ + s.concurWindow)).cvnWaitEnd w stCONCUR_TIMEOUT) := by
  simp only [exec_concurTimeout_arm, execConcurTimeout, h]

theorem exec_concurTimeout_none (h : s.cvn.waiting = []) : exec (.concurTimeout cid p) s = .next s := by
  simp only [exec_concurTimeout_arm, execConcurTimeout, h, List.find?_nil]

/-- An ID in quarantine has a release time, at which it may leave. -/
theorem exec_caravanIdRelease (s : State) (cid : BitVec 16) : let r := (aget (0, 0, 0) cid.toNat s.cvnIds.quar).2.2
    exec (.caravanIdRelease cid) s = .next (if r = 0 || s.citySec + 2 < r then s
      else ({ s with cvnIds := { s.cvnIds with quar := adel cid.toNat s.cvnIds.quar } } : State).cvnSync) := rfl

theorem exec_caravanIdRelease_none (h : (aget (0, 0, 0) cid.toNat s.cvnIds.quar).2.2 = 0) :
    exec (.caravanIdRelease cid) s = .next s := by
  simp [exec_caravanIdRelease, h]

theorem State.cvnSync_regsBut (s : State) : s.cvnSync.regsBut s [R.CVN_USE, R.CVN_IDQ] :=
  State.regsBut_trans (State.regsBut_trans (s.setFld_regsBut _ _ (by simp)) (State.setFld_regsBut _ _ _ (by simp)))
    (State.setFld_regsBut _ _ _ (by simp))

theorem Does.caravanIdRelease (h0 : (aget (0, 0, 0) cid.toNat s.cvnIds.quar).2.2 ≠ 0)
    (h : (aget (0, 0, 0) cid.toNat s.cvnIds.quar).2.2 ≤ s.citySec + 2) : Does (.caravanIdRelease cid) s (fun t =>
      t.cvnIds.quar = adel cid.toNat s.cvnIds.quar ∧ t.regsBut s [R.CVN_USE, R.CVN_IDQ]) := by
  refine Does.of_next ((exec_caravanIdRelease s cid).trans (congrArg _ (if_neg (by simp [h0, h])))) ⟨rfl, State.cvnSync_regsBut _⟩

end

/-! ### The obligation -/

/-- Settles O48: a posting by what decides it and by the Caravan that it opens, a phase by the Caravan that is found, an ID by its release time. -/
theorem caravansRun : Obligations.CaravansRun := by
  unfold Obligations.CaravansRun
  intro s c dma n cid p
  refine ⟨exec_cvnPost_quiet, fun _ ht hq => exec_cvnPost_bad ht hq, fun ⟨ht, hq, hb⟩ hf hc => ?_, fun id ⟨ht, hq, hb⟩ hf hc hid hm hg hr => ?_,
    fun ⟨ht, hq, hb⟩ hf hc hw => ?_, fun w ⟨ht, hq, hb⟩ hf hc hw hg hp hnow hh => ?_, fun hl hd ho hopen hwait => ?_, exec_cvnCancel_undefined,
    fun _ => exec_caravanPhaseEnd_flooded, fun _ => Does.caravanPhaseEnd_round, fun _ => exec_caravanExpiry,
    fun _ _ _ => exec_sweepCopyQueue_skips, fun _ _ _ => exec_sweepCopyQueue_sends, exec_caravan_none, fun _ => exec_concurTimeout,
    exec_concurTimeout_none, Does.caravanIdRelease, exec_caravanIdRelease_none⟩
  · rw [exec_cvnPost_taken ht hq hb (.inl hf), if_neg hc]
  · have hid' := (State.cvnId_of (s := s) (t := (s.cmdTake c).engineDraw.2) rfl rfl _ _).trans hid
    exact Does.of_next ((exec_cvnPost_taken ht hq hb (.inl hf)).trans (congrArg _ (if_neg hc)))
      (State.cvnAccept_sweep_effect hid' hm hg hr)
  · rw [exec_cvnPost_taken ht hq hb (.inl hf), if_pos hc]
    exact congrArg _ (State.cvnDual_first hw)
  · have hroom := (State.cvnFull_of_room hf).imp_right fun h1 => And.intro h1 (State.cvnSecond_waiting hw hg hp hc)
    have hrun := (exec_cvnPost_taken (n := 0) ht hq hb hroom).trans (congrArg _ ((if_pos hc).trans (State.cvnDual_second hw hg hp hnow hh)))
    refine ⟨fun hs => hrun.trans (congrArg _ (if_pos hs)), fun hs => ?_⟩
    obtain ⟨hwait, hcount⟩ := State.cvnDiffer_effect ({ (s.cmdTake c).engineDraw.2 with cvn := { s.cvn with waiting := [] } } : State).cvnSync w c
    exact Does.of_next (hrun.trans (congrArg _ (if_neg (ne_true_of_eq_false hs))))
      ⟨hwait, hcount.trans (congrArg satInc (State.cvnSync_regsBut _ _ (by decide)))⟩
  · exact Does.of_next (exec_cvnCancel_none (s.leads_turn c hl) hd ho hopen hwait)
      ⟨State.cmdOk_completed (s.cmdTake c) c _ (s.leads_clear c hl), rfl, rfl⟩

end Sys2Proof.Machine
end

section
/-! O49: image sessions (R271 to R275). A session is found by its number, and one that is stored reads as stored; what a command does to it shows in
its own `IMG_SESS` register alone. -/

set_option Elab.async false

namespace Sys2Proof.Machine

/-! ### The arms of `exec` -/

section
variable (s : State) (c : CmdDesc) (j : Fin 4)

theorem exec_imgOpen_arm (dma : Dma) : exec (.imgOpen c dma) s = execImgOpen c dma s := rfl
theorem exec_imgCancel_arm : exec (.imgCancel c) s = execImgCancel c s := rfl
theorem exec_imageLoadDone_arm : exec (.imageLoadDone j) s = execImageLoadDone j s := rfl
theorem exec_imageBlockSend_arm (n : Fin 5) : exec (.imageBlockSend j n) s = execImageBlockSend j n s := rfl
theorem exec_reportWindowExpiry_arm : exec (.reportWindowExpiry j) s = execReportWindowExpiry j s := rfl

end

/-! ### Sessions in the state (R271) -/

section
variable (s : State) (i : Nat) (x : ImgSess)

@[simp] theorem State.sess_setSess : (s.setSess i x).sess i = some x :=
  congrArg (Option.map Prod.snd) (find?_aput_adel i x s.cvn.sess)

theorem State.setSess_regsBut : (s.setSess i x).regsBut s [R.IMG_SESS i] := State.wr_regsBut _ _ (by simp)

/-- A session that ends is no longer found, and no Caravan ends with it. -/
theorem State.imgEnd_effect (status : Nat) : (s.imgEnd i x status).sess i = none ∧ (s.imgEnd i x status).cvn.open_ = s.cvn.open_ := by
  refine ⟨?_, rfl⟩
  have hnone : (s.cvn.sess.filter (fun e => e.1 ≠ i)).find? (fun e => e.1 = i) = none :=
    List.find?_eq_none.mpr fun e he => by simpa using (List.mem_filter.mp he).2
  exact congrArg (Option.map Prod.snd) hnone

end

/-! ### IMG_OPEN (R271) -/

/-- The session that a command opens. -/
def State.imgNew (s : State) (c : CmdDesc) (sport hop : Nat) : ImgSess where
  cmd := c
  group := bitsAt c.w1 16 16
  cls := bitsAt c.w1 2 2
  rounds := bitsAt c.w1 4 4
  k := bitsAt c.w1 8 8
  r := bitsAt c.w2 25 7
  len := bitsAt c.w2 0 25
  imageId := c.w3
  image := s.memBytes c.part.val (addr64 c.w4 c.w5) (bitsAt c.w2 0 25)
  entries := (s.group (bitsAt c.w1 16 16)).entries.length
  state := 1
  round := 0
  next := []
  reports := []
  heard := []
  done := []
  toSend := []
  sent := 0
  waitEnd := 0
  nextAt := 0
  sport := sport
  hop := hop

section
variable {s : State} {c : CmdDesc} {dma : Dma} (hturn : s.cmdTurn c = true)
include hturn

theorem exec_imgOpen_quiet (hq : s.inQuiet = true) :
    exec (.imgOpen c dma) s = .next ((s.cmdTake c).engineDraw.2.cmdDone c stQUIET [] 0 0) := by
  have hq' : (s.cmdTake c).engineDraw.2.inQuiet = true := hq
  simp only [exec_imgOpen_arm, execImgOpen, hturn, hq', Bool.not_true, Bool.false_eq_true, if_false, if_true]

variable (hq : s.inQuiet = false)
include hq

theorem exec_imgOpen_bad {e : Nat × Nat}
    (hb : (s.cmdTake c).engineDraw.2.imgBad c dma (s.cmdTake c).engineDraw.1.1 (s.cmdTake c).engineDraw.1.2 = some e) :
    exec (.imgOpen c dma) s = .next ((s.cmdTake c).engineDraw.2.cmdDone c stBAD_PARAM [] e.1 e.2) := by
  have hq' : (s.cmdTake c).engineDraw.2.inQuiet = false := hq
  simp only [exec_imgOpen_arm, execImgOpen, hturn, hq', hb, Bool.not_true, Bool.false_eq_true, if_false]

/-- The first check: the session is not open yet. -/
theorem exec_imgOpen_open (ho : (s.sess (bitsAt c.w1 0 2)).isSome = true) :
    exec (.imgOpen c dma) s = .next ((s.cmdTake c).engineDraw.2.cmdDone c stBAD_PARAM [] 19 0) :=
  exec_imgOpen_bad hturn hq (e := (19, 0)) (if_pos ho)

/-- A session for a group without members ends at once. -/
theorem exec_imgOpen
    (hb : (s.cmdTake c).engineDraw.2.imgBad c dma (s.cmdTake c).engineDraw.1.1 (s.cmdTake c).engineDraw.1.2 = none) :
    let d := (s.cmdTake c).engineDraw
    let x := d.2.imgNew c d.1.1 d.1.2
    exec (.imgOpen c dma) s = .next (if (s.group (bitsAt c.w1 16 16)).members.isEmpty then d.2.imgEnd (bitsAt c.w1 0 2) x stOK
      else d.2.setSess (bitsAt c.w1 0 2) x) := by
  have hq' : (s.cmdTake c).engineDraw.2.inQuiet = false := hq
  simp only [exec_imgOpen_arm, execImgOpen, hturn, hq', hb, Bool.not_true, Bool.false_eq_true, if_false]
  rfl

theorem Does.imgOpen_members
    (hb : (s.cmdTake c).engineDraw.2.imgBad c dma (s.cmdTake c).engineDraw.1.1 (s.cmdTake c).engineDraw.1.2 = none)
    (hm : (s.group (bitsAt c.w1 16 16)).members ≠ []) : Does (.imgOpen c dma) s (fun t =>
      t.regsBut s [R.IMG_SESS (bitsAt c.w1 0 2)] ∧ ∃ x, t.sess (bitsAt c.w1 0 2) = some x ∧ x.state = 1 ∧ x.cmd = c ∧ x.round = 0 ∧
        x.image = s.memBytes c.part.val (addr64 c.w4 c.w5) (bitsAt c.w2 0 25)) :=
  Does.of_next ((exec_imgOpen hturn hq hb).trans (congrArg _ (if_neg (by rwa [List.isEmpty_iff]))))
    ⟨State.setSess_regsBut _ _ _, _, State.sess_setSess .., rfl, rfl, rfl,
      State.memBytes_of_host (t := (s.cmdTake c).engineDraw.2) s rfl ..⟩

theorem Does.imgOpen_noMembers
    (hb : (s.cmdTake c).engineDraw.2.imgBad c dma (s.cmdTake c).engineDraw.1.1 (s.cmdTake c).engineDraw.1.2 = none)
    (hm : (s.group (bitsAt c.w1 16 16)).members = []) : Does (.imgOpen c dma) s (fun t =>
      (t.sess (bitsAt c.w1 0 2)).isNone = true ∧ t.cvn.open_ = s.cvn.open_) := by
  refine Does.of_next ((exec_imgOpen hturn hq hb).trans (congrArg _ (if_pos (by rw [hm]; rfl)))) ?_
  obtain ⟨hnone, hopen⟩ := State.imgEnd_effect (s.cmdTake c).engineDraw.2 (bitsAt c.w1 0 2) _ stOK
  exact ⟨Option.isNone_iff_eq_none.mpr hnone, hopen⟩

end

/-! ### IMG_CANCEL (R275) -/

section
variable {s : State} {c : CmdDesc} {x : ImgSess} (hturn : s.cmdTurn c = true) (hx : s.sess (bitsAt c.w1 0 2) = some x)
include hturn hx

theorem exec_imgCancel_refused (h0 : c.part ≠ 0) (hp : c.part ≠ x.cmd.part) : exec (.imgCancel c) s = .next ((s.cmdTake c).cmdBad c 16) := by
  have hx' : (s.cmdTake c).sess (bitsAt c.w1 0 2) = some x := hx
  simp [exec_imgCancel_arm, execImgCancel, hturn, hx', h0, hp]

theorem exec_imgCancel (hp : c.part = 0 ∨ c.part = x.cmd.part) :
    exec (.imgCancel c) s = .next (((s.cmdTake c).imgAbort (bitsAt c.w1 0 2) x).cmdOk c []) := by
  have hx' : (s.cmdTake c).sess (bitsAt c.w1 0 2) = some x := hx
  have hn : ¬(decide (c.part ≠ 0) && decide (c.part ≠ x.cmd.part)) = true := by simpa [or_iff_not_imp_left] using hp
  simp only [exec_imgCancel_arm, execImgCancel, hturn, hx', if_neg hn, Bool.not_true, Bool.false_eq_true, if_false]

end

/-! ### The rounds of a session (R273, R274) -/

/-- A session as its initial round starts, with `p` proactive blocks of each generation. -/
def ImgSess.loaded (x : ImgSess) (p : Nat) : ImgSess :=
  { x with
    state := 2
    reports := []
    next := (List.range x.gens).map (fun g => (g, (x.kOf g + p) % (x.kOf g + x.r)))
    toSend := (List.range x.gens).flatMap (fun g => (List.range (x.kOf g + p)).map (fun e => (g, e, none))) }

/-- The blocks of a repair round, and the indices after them. -/
def ImgSess.repairs (x : ImgSess) (uni : Nat) : List (Nat × Nat × Option Nat) × List (Nat × Nat) :=
  x.needs.foldl (fun a e =>
    let b := x.repair uni e.1 e.2
    (a.1 ++ b.1, aset 0 e.1 b.2 a.2)) ([], x.next)

/-- A session as a repair round starts. -/
def ImgSess.repairing (x : ImgSess) (uni : Nat) : ImgSess :=
  { x with
    state := 4
    round := x.round + 1
    toSend := (x.repairs uni).1
    next := (x.repairs uni).2
    reports := [] }

/-- A block of a session as a packet, to one node or to the group. -/
def State.blockPkt (s : State) (j : Nat) (x : ImgSess) (g e : Nat) (dest : Option Nat) : Pkt :=
  let dst := match dest with
    | some o => s.nodeAddr o
    | none => groupAddr x.group
  enginePkt 57 (.image j) x.cls
    (udpDatagram (s.chipAddr (s.group x.group).pan) dst x.sport s.imgPort x.hop (x.message g e s.reportWindow false))

/-- A session after its next block: taken by the engine, which may have to keep it, with others to follow. -/
def State.blockTaken (s : State) (j : Nat) (x : ImgSess) (rest : List (Nat × Nat × Option Nat)) : Option State → State
  | none => s
  | some s2 => s2.setSess j { x with toSend := rest, sent := x.sent + 1, nextAt := s2.now + sec 1 / s2.imgRate }

section
variable {s : State} {j : Fin 4} {n : Fin 5} {x : ImgSess}

theorem exec_image_none (h : s.sess j.val = none) : exec (.imageLoadDone j) s = .next s ∧ exec (.imageBlockSend j n) s = .next s ∧
    exec (.reportWindowExpiry j) s = .next s := by
  simp only [exec_imageLoadDone_arm, execImageLoadDone, exec_imageBlockSend_arm, execImageBlockSend, exec_reportWindowExpiry_arm,
    execReportWindowExpiry, h, and_self]

variable (h : s.sess j.val = some x)
include h

theorem exec_imageLoadDone (hs : x.state = 1) : exec (.imageLoadDone j) s = .next (s.setSess j.val (x.loaded (s.proactive x))) := by
  simp only [exec_imageLoadDone_arm, execImageLoadDone, h, hs, ne_eq, not_true, if_false]
  rfl

/-- The session's next block goes out, with more to come behind it, while no fault strikes the pair. -/
theorem exec_imageBlockSend_more {g e : Nat} {dest : Option Nat} {rest : List (Nat × Nat × Option Nat)} (ht : x.toSend = (g, e, dest) :: rest)
    (hr : rest ≠ []) : let s1 := s.advanceTo x.nextAt
    exec (.imageBlockSend j 0) s =
      .next (s1.blockTaken j.val x rest (s1.engineSend (s.blockPkt j.val x g e dest) (s.group x.group).pan)) := by
  have hz (p : Nat) : (s.advanceTo x.nextAt).enginePipe 57 p (0 : Fin 5).val = s.advanceTo x.nextAt := State.enginePipe_zero _ 57 p
  have hr' : rest.isEmpty = false := by simpa using hr
  simp only [exec_imageBlockSend_arm, execImageBlockSend, h, ht, hz, hr', Bool.false_eq_true, if_false]
  rfl

theorem exec_imageBlockSend_idle (ht : x.toSend = []) : exec (.imageBlockSend j n) s = .next s := by
  simp only [exec_imageBlockSend_arm, execImageBlockSend, h, ht]

variable (hs : 2 ≤ x.state) (ht : x.toSend = [])
include hs ht

theorem exec_reportWindowExpiry_over (hn : x.needs = [] ∨ x.rounds ≤ x.round) :
    exec (.reportWindowExpiry j) s = .next ((s.advanceTo x.waitEnd).imgEnd j.val x stOK) := by
  have h1 : ¬(decide (x.state < 2) || !x.toSend.isEmpty) = true := by simp [ht, Nat.not_lt.mpr hs]
  have h2 : (x.needs.isEmpty || decide (x.rounds ≤ x.round)) = true := by simpa using hn
  simp only [exec_reportWindowExpiry_arm, execReportWindowExpiry, h, if_neg h1, if_pos h2]

theorem exec_reportWindowExpiry_repairs (hn : x.needs ≠ []) (hr : x.round < x.rounds) : exec (.reportWindowExpiry j) s =
    .next ((s.advanceTo x.waitEnd).setSess j.val (x.repairing (s.fld R.IMG_CFG F.IMG_CFG_UNICAST_MAX))) := by
  have h1 : ¬(decide (x.state < 2) || !x.toSend.isEmpty) = true := by simp [ht, Nat.not_lt.mpr hs]
  have h2 : ¬(x.needs.isEmpty || decide (x.rounds ≤ x.round)) = true := by simp [hn, hr]
  simp only [exec_reportWindowExpiry_arm, execReportWindowExpiry, h, if_neg h1, if_neg h2]
  rfl

theorem Does.reportWindowExpiry (hn : x.needs ≠ []) (hr : x.round < x.rounds) : Does (.reportWindowExpiry j) s (fun t =>
    t.regsBut s [R.IMG_SESS j] ∧ t.now = max s.now x.waitEnd ∧
    ∃ y, t.sess j.val = some y ∧ y.state = 4 ∧ y.round = x.round + 1 ∧ y.reports = [] ∧ y.done = x.done) :=
  Does.of_next (exec_reportWindowExpiry_repairs h hs ht hn hr)
    ⟨State.setSess_regsBut (s.advanceTo x.waitEnd) _ _, s.advanceTo_now x.waitEnd, _, State.sess_setSess .., rfl, rfl, rfl, rfl⟩

end

/-! ### The obligation -/

/-- Settles O49: each command by what it finds of its session and by the session that it stores. -/
theorem imageSessionsRun : Obligations.ImageSessionsRun := by
  unfold Obligations.ImageSessionsRun
  intro s c dma j n
  exact ⟨exec_imgOpen_quiet, exec_imgOpen_open, fun _ ht hq => exec_imgOpen_bad ht hq, Does.imgOpen_members, Does.imgOpen_noMembers,
    fun _ => exec_imgCancel_refused, fun _ => exec_imgCancel,
    fun x h hs => Does.of_next (exec_imageLoadDone h hs)
      ⟨s.setSess_regsBut _ _, _, State.sess_setSess .., rfl, rfl, rfl, rfl⟩,
    fun _ _ _ _ _ h ht => exec_imageBlockSend_more h ht, fun _ => exec_imageBlockSend_idle, fun _ => exec_reportWindowExpiry_over,
    fun _ => Does.reportWindowExpiry, exec_image_none⟩

end Sys2Proof.Machine
end

section
/-! O17: gate lists. A commit writes one register. The switch copies the 256 entries of the admin bank, and the end of an interval
seeks the next entry that has one; a seek in a list that has such an entry finds one from wherever it begins. -/

set_option Elab.async false

namespace Sys2Proof.Machine

/-! ### The arms of `exec` -/

section
variable (s : State) (e : Fin 4)

theorem exec_gclCommit_arm (p : Part) (data : Word) : exec (.gclCommit p e data) s = execGclCommit p e data s := rfl
theorem exec_gclSwitch_arm : exec (.gclSwitch e) s = execGclSwitch e s := rfl
theorem exec_gateIntervalEnd_arm : exec (.gateIntervalEnd e) s = execGateIntervalEnd e s := rfl

end

/-! ### Commits (R297) -/

section
variable (s : State) (e : Fin 4) (data : Word)

theorem fset_commit : fget F.SHP_GCL_CTRL_COMMIT (fset F.SHP_GCL_CTRL_COMMIT data 1) = 1 := fget_fset _ _ _ (by decide)

theorem fget_len_commit : fget F.SHP_GCL_CTRL_LEN (fset F.SHP_GCL_CTRL_COMMIT data 1) = fget F.SHP_GCL_CTRL_LEN data :=
  fget_fset_below _ _ _ _ (by decide) (by decide)

/-- The list's register with the length of a commit. -/
def State.gclLen : State := s.setFld (R.SHP_GCL_CTRL e) F.SHP_GCL_CTRL_LEN (fget F.SHP_GCL_CTRL_LEN data)

theorem exec_gclCommit : exec (.gclCommit 0 e data) s =
    .next (if 1000000000 ≤ s.fld (R.SHP_GCL_BASE_NS e) F.SHP_GCL_BASE_NS_NS then (s.gclLen e data).err R.SHP_ERR F.SHP_ERR_GCL_BUSY
      else (s.gclLen e data).setFld (R.SHP_GCL_CTRL e) F.SHP_GCL_CTRL_PENDING 1) := by
  rw [exec_gclCommit_arm, execGclCommit, State.gclCtrl, fset_commit, fget_len_commit]
  rfl

theorem State.gclLen_onlyKeys {ks : List Nat} (h : R.SHP_GCL_CTRL e ∈ ks) : (s.gclLen e data).onlyKeys s ks := s.wr_onlyKeys _ h

theorem State.fld_gclLen : (s.gclLen e data).fld (R.SHP_GCL_CTRL e) F.SHP_GCL_CTRL_LEN = fget F.SHP_GCL_CTRL_LEN data := by
  rw [State.gclLen, State.fld_setFld _ _ _ _ (by decide)]
  exact Nat.mod_eq_of_lt (fget_lt _ _)

theorem State.flag_gclLen :
    (s.gclLen e data).flag (R.SHP_GCL_CTRL e) F.SHP_GCL_CTRL_PENDING = s.flag (R.SHP_GCL_CTRL e) F.SHP_GCL_CTRL_PENDING := by
  rw [State.flag, State.gclLen, State.fld_setFld_other _ _ _ _ _ (by decide) (by decide), State.flag]

theorem gclCtrl_ne_err : R.SHP_GCL_CTRL e ≠ R.SHP_ERR := by
  unfold R.SHP_GCL_CTRL R.SHP_ERR
  omega

theorem commitPends (h : s.fld (R.SHP_GCL_BASE_NS e) F.SHP_GCL_BASE_NS_NS < 1000000000) : Does (.gclCommit 0 e data) s (fun t =>
    t.flag (R.SHP_GCL_CTRL e) F.SHP_GCL_CTRL_PENDING = true ∧
    t.fld (R.SHP_GCL_CTRL e) F.SHP_GCL_CTRL_LEN = fget F.SHP_GCL_CTRL_LEN data ∧ t.onlyKeys s [R.SHP_GCL_CTRL e]) := by
  refine .of_next (exec_gclCommit s e data) ?_
  rw [if_neg (by omega)]
  refine ⟨?_, ?_, State.onlyKeys_trans (s.gclLen_onlyKeys e data (by simp)) (State.wr_onlyKeys _ _ (by simp))⟩
  · exact State.flag_err _ _ (by decide) (by decide)
  · rw [State.fld_setFld_other _ _ _ _ _ (by decide) (by decide), s.fld_gclLen]

theorem commitRefused (h : 1000000000 ≤ s.fld (R.SHP_GCL_BASE_NS e) F.SHP_GCL_BASE_NS_NS) : Does (.gclCommit 0 e data) s (fun t =>
    t.flag R.SHP_ERR F.SHP_ERR_GCL_BUSY = true ∧
    t.flag (R.SHP_GCL_CTRL e) F.SHP_GCL_CTRL_PENDING = s.flag (R.SHP_GCL_CTRL e) F.SHP_GCL_CTRL_PENDING ∧
    t.onlyKeys s [R.SHP_GCL_CTRL e, R.SHP_ERR]) := by
  refine .of_next (exec_gclCommit s e data) ?_
  rw [if_pos h]
  refine ⟨State.flag_err _ _ (by decide) (by decide), ?_,
    State.onlyKeys_trans (s.gclLen_onlyKeys e data (by simp)) (State.err_onlyKeys _ _ (by simp))⟩
  rw [State.flag, State.err, State.fld_setFld_ne _ _ _ _ (gclCtrl_ne_err e)]
  exact s.flag_gclLen e data

end

/-! ### The switch -/

/-- A fold that stores a value under each key of a list leaves it under the key of every element. -/
theorem aget_foldl_aset {ι α : Type} [DecidableEq α] {d : α} (key : ι → Nat) (val : ι → α) (hk : Function.Injective key) {l : List ι}
    {i : ι} (hi : i ∈ l) (m : List (Nat × α)) : aget d (key i) (l.foldl (fun m i => aset d (key i) (val i) m) m) = val i := by
  induction l using List.reverseRecOn with
  | nil => cases hi
  | append_singleton l j ih =>
    rw [List.foldl_append, List.foldl_cons, List.foldl_nil]
    rcases eq_or_ne i j with rfl | hne
    · exact aget_aset_same ..
    · rw [aget_aset_ne _ _ _ _ _ (fun h => hne (hk h))]
      exact ih (by simpa [hne] using hi)

theorem gclKey_injective (bank e : Nat) : Function.Injective (gclKey bank e) := by
  intro i j h
  unfold gclKey at h
  omega

theorem switchTakes (s : State) (e : Fin 4) (h : s.flag (R.SHP_GCL_CTRL e) F.SHP_GCL_CTRL_PENDING = true) :
    Does (.gclSwitch e) s (fun t => t.flag (R.SHP_GCL_CTRL e) F.SHP_GCL_CTRL_PENDING = false ∧
      (∀ i, i < 256 → t.gclEntry 1 e i = s.gclEntry 0 e i) ∧
      (t.gate e).len = min 256 (s.fld (R.SHP_GCL_CTRL e) F.SHP_GCL_CTRL_LEN) ∧ (t.gate e).idx = 0 ∧
      t.regsBut s [R.SHP_GCL_CTRL e]) := by
  refine .of_next ((exec_gclSwitch_arm s e).trans (congrArg Host.Outcome.next (if_neg (by simp [h])))) ?_
  refine ⟨?_, fun i hi => ?_, ?_, ?_, ?_⟩
  · simp [State.flag, State.fld_setFld _ _ F.SHP_GCL_CTRL_PENDING 0 (by decide)]
  · simp only [State.gclEntry, State.setFld_shp]
    exact aget_foldl_aset (gclKey 1 e) (s.gclEntry 0 e) (gclKey_injective 1 e) (List.mem_range.2 hi) _
  · simp [State.gate]
  · simp [State.gate]
  · exact State.setFld_regsBut _ _ _ (by simp)

theorem switchIdle (s : State) (e : Fin 4) (h : s.flag (R.SHP_GCL_CTRL e) F.SHP_GCL_CTRL_PENDING = false) :
    exec (.gclSwitch e) s = .next s :=
  (exec_gclSwitch_arm s e).trans (congrArg Host.Outcome.next (if_pos (by simp [h])))

/-! ### The end of an interval (R296) -/

section
variable (s : State) (e : Nat)

/-- Every place of a list is reached once round from anywhere. -/
theorem mod_reached {m n : Nat} (h : m < n) (j : Nat) : ∃ k < n, (j + k) % n = m := by
  have hj := Nat.div_add_mod j n
  have hl : j % n < n := Nat.mod_lt _ (by omega)
  rcases Nat.lt_or_ge m (j % n) with hm | hm
  · refine ⟨m + n - j % n, by omega, ?_⟩
    rw [show j + (m + n - j % n) = m + n * (j / n + 1) by rw [Nat.mul_add]; omega, Nat.add_mul_mod_self_left, Nat.mod_eq_of_lt h]
  · refine ⟨m - j % n, by omega, ?_⟩
    rw [show j + (m - j % n) = m + n * (j / n) by omega, Nat.add_mul_mod_self_left, Nat.mod_eq_of_lt h]

/-- A round that is not empty has an entry with an interval. -/
theorem State.interval_of_gateRound {i : Nat} (h : s.gateRound e i ≠ []) :
    ∃ m < (s.gate e).len, fget F.SHP_GCL_DATA_INTERVAL (s.gclEntry 1 e m) ≠ 0 := by
  obtain ⟨x, hx⟩ := List.exists_mem_of_ne_nil _ h
  simp only [State.gateRound, List.mem_filterMap, List.mem_map, List.mem_range] at hx
  obtain ⟨w, ⟨k, hk, rfl⟩, hw⟩ := hx
  refine ⟨(i + k) % (s.gate e).len, Nat.mod_lt _ (by omega), fun h0 => ?_⟩
  rw [if_pos h0] at hw
  cases hw

/-- A seek finds an entry with an interval, when the list has one. -/
theorem State.gateSeek_interval {i : Nat} (h : s.gateRound e i ≠ []) (j : Nat) :
    fget F.SHP_GCL_DATA_INTERVAL (s.gclEntry 1 e (s.gateSeek e j)) ≠ 0 := by
  obtain ⟨m, hm, hi⟩ := s.interval_of_gateRound e h
  obtain ⟨k, hk, rfl⟩ := mod_reached hm j
  have hr : (j + k) % (s.gate e).len ∈ (List.range (s.gate e).len).map (fun k => (j + k) % (s.gate e).len) :=
    List.mem_map.2 ⟨k, List.mem_range.2 hk, rfl⟩
  obtain ⟨x, hx⟩ := Option.isSome_iff_exists.1
    (List.find?_isSome (p := fun k => decide (fget F.SHP_GCL_DATA_INTERVAL (s.gclEntry 1 e k) ≠ 0)) |>.2 ⟨_, hr, decide_eq_true hi⟩)
  rw [State.gateSeek, hx]
  simpa using List.find?_some hx

theorem State.gateCycle_shp (at_ : Nat) : (s.gateCycle e at_).shp = s.shp :=
  (State.gateCycle_within s e at_ (Within.refl [.regs, .free, .host, .eth, .air, .qmg, .link] s) rfl).only .shp (by decide)

/-- The end of an interval: the list at the next entry that has one. -/
def State.gateNext (i : Nat) (n : Nat) : State :=
  let g := s.gate e
  let s2 := (s.elapse (nsTicks (g.since + n - s.portTime))).gateCycle e (g.since + n)
  { s2 with shp := { s2.shp with gates := aset {} e { g with idx := i, since := g.since + n } s2.shp.gates } }

end

theorem exec_gateIntervalEnd (s : State) (e : Fin 4) {g n : Nat} {rest : List (Nat × Nat)}
    (h : s.gateRound e (s.gate e).idx = (g, n) :: rest) : exec (.gateIntervalEnd e) s =
      .next (s.gateNext e (s.gateSeek e ((s.gateSeek e (s.gate e).idx + 1) % (s.gate e).len)) n) := by
  rw [exec_gateIntervalEnd_arm, execGateIntervalEnd]
  simp only [h]
  rfl

theorem State.gate_gateNext (s : State) (e i n : Nat) :
    (s.gateNext e i n).gate e = { s.gate e with idx := i, since := (s.gate e).since + n } := aget_aset_same ..

theorem State.gcl_gateNext (s : State) (e i n : Nat) : (s.gateNext e i n).shp.gcl = s.shp.gcl := by
  unfold State.gateNext
  dsimp only
  rw [State.gateCycle_shp, State.elapse_shp]

theorem intervalEnds (s : State) (e : Fin 4) {g n : Nat} {rest : List (Nat × Nat)}
    (h : s.gateRound e (s.gate e).idx = (g, n) :: rest) : Does (.gateIntervalEnd e) s (fun t =>
      (t.gate e).since = (s.gate e).since + n ∧ (t.gate e).idx = s.gateSeek e ((s.gateSeek e (s.gate e).idx + 1) % (s.gate e).len) ∧
      fget F.SHP_GCL_DATA_INTERVAL (t.gclEntry 1 e (t.gate e).idx) ≠ 0) := by
  refine .of_next (exec_gateIntervalEnd s e h) ?_
  rw [State.gclEntry, State.gcl_gateNext, State.gate_gateNext]
  exact ⟨rfl, rfl, s.gateSeek_interval e (i := (s.gate e).idx) (by simp [h]) _⟩

theorem intervalIdle (s : State) (e : Fin 4) (h : s.gateRound e (s.gate e).idx = []) : exec (.gateIntervalEnd e) s = .next s := by
  rw [exec_gateIntervalEnd_arm, execGateIntervalEnd]
  simp only [h]

/-- Settles O17: a commit writes the list's register, the switch copies the admin bank, and the seek for the next interval finds one. -/
theorem gateLists : Obligations.GateLists := by
  unfold Obligations.GateLists
  intro s e data
  exact ⟨commitPends s e data, commitRefused s e data, switchTakes s e, switchIdle s e, fun _ _ _ => intervalEnds s e, intervalIdle s e⟩

end Sys2Proof.Machine
end

section
/-! O23: shapers, policers and histograms. A write of a window stores one shaper or policer; a shaper that waits long enough is no longer
in debt; the bins of two samples of one instant lie apart, so each counts alone. -/

set_option Elab.async false

namespace Sys2Proof.Machine

/-! ### The arms of `exec` -/

section
variable (s : State) (p : Part) (data : Word)

theorem exec_shaperRateWrite_arm : exec (.shaperRateWrite p data) s = .next (s.shaperRateWrite p data) := rfl
theorem exec_shaperBurstWrite_arm : exec (.shaperBurstWrite p data) s = .next (s.shaperBurstWrite p data) := rfl
theorem exec_policerWrite_arm : exec (.policerWrite p data) s = .next (s.policerWrite p data) := rfl
theorem exec_shaperEligible_arm (k : Fin 1024) : exec (.shaperEligible k) s = execShaperEligible k s := rfl
theorem exec_depthSample_arm : exec .depthSample s = execDepthSample s := rfl

end

/-! ### The tables of shapers and policers -/

section
variable (s ok : State) (i : Nat)

@[simp] theorem State.shaper_setShaper (x : Shaper) : (s.setShaper i x).shaper i = x := aget_aset_same ..
@[simp] theorem State.policer_setPolicer (x : Policer) : (s.setPolicer i x).policer i = x := aget_aset_same ..
@[simp] theorem State.setPolicer_regs (x : Policer) : (s.setPolicer i x).regs = s.regs := rfl
@[simp] theorem State.setShaper_now (x : Shaper) : (s.setShaper i x).now = s.now := rfl
@[simp] theorem State.setShaper_qmg (x : Shaper) : (s.setShaper i x).qmg = s.qmg := rfl

theorem State.shpWriter_zero : s.shpWriter 0 ok = ok := rfl

theorem State.shpWriter_other {p : Part} (h : p ≠ 0) : s.shpWriter p ok = s.err R.SHP_ERR F.SHP_ERR_PART_WRITE :=
  if_neg (fun h0 => h (Fin.ext h0))

end

/-! ### Writes of the windows (R294, R299) -/

section
variable (s : State) (data : Word)

theorem rateWrite : let i := s.fld R.SHP_SH_ADDR F.SHP_SH_ADDR_SHAPER
    Does (.shaperRateWrite 0 data) s (fun t => (t.shaper i).rate = bitsAt data 0 24 ∧ (t.shaper i).burst = (s.shaper i).burst ∧
      (t.shaper i).adjust = sext 7 (bitsAt data 24 7) ∧
      (t.shaper i).level = (if bitsAt data 0 24 = unlimited then ((s.shaper i).burst * 65536 : Int) else ((s.shaper i).settle s.now).level) ∧
      t.regs = s.regs) := by
  intro i
  refine .of_next (exec_shaperRateWrite_arm s 0 data) ?_
  rw [State.shaperRateWrite, Fin.val_zero, State.shpWriter_zero, State.shaper_setShaper]
  exact ⟨rfl, rfl, rfl, rfl, rfl⟩

theorem burstWrite : let i := s.fld R.SHP_SH_ADDR F.SHP_SH_ADDR_SHAPER
    Does (.shaperBurstWrite 0 data) s (fun t => (t.shaper i).burst = bitsAt data 0 20 ∧ (t.shaper i).rate = (s.shaper i).rate ∧
      (t.shaper i).level = (if (s.shaper i).rate = unlimited then (bitsAt data 0 20 * 65536 : Int)
        else min ((s.shaper i).settle s.now).level (bitsAt data 0 20 * 65536)) ∧
      t.regs = s.regs) := by
  intro i
  refine .of_next (exec_shaperBurstWrite_arm s 0 data) ?_
  rw [State.shaperBurstWrite, Fin.val_zero, State.shpWriter_zero, State.shaper_setShaper]
  exact ⟨rfl, rfl, rfl, rfl⟩

theorem setWord_spare (x : Policer) (now : Nat) : ∀ {w : Nat}, 4 < w → x.setWord now w data = x
  | _ + 5, _ => rfl

theorem policerWords : let j := s.fld R.SHP_POL_ADDR F.SHP_POL_ADDR_POLICER
    let w := s.fld R.SHP_POL_ADDR F.SHP_POL_ADDR_WORD
    let y := (s.policer j).settle s.now
    Does (.policerWrite 0 data) s (fun t => t.regs = s.regs ∧
      (w = 0 → t.policer j = { y with mode := bitsAt data 0 1, aware := bitAt data 1 }) ∧
      (w = 1 → t.policer j = { y with cir := bitsAt data 0 24 }) ∧ (w = 2 → t.policer j = { y with pir := bitsAt data 0 24 }) ∧
      (w = 3 → t.policer j = { y with cbs := bitsAt data 0 20, tc := min y.tc (bitsAt data 0 20 * 65536) }) ∧
      (w = 4 → t.policer j = { y with ebs := bitsAt data 0 20, te := min y.te (bitsAt data 0 20 * 65536) }) ∧
      (4 < w → t.policer j = s.policer j)) := by
  intro j w y
  refine .of_next (exec_policerWrite_arm s 0 data) ?_
  rw [State.policerWrite, Fin.val_zero, State.shpWriter_zero, State.policer_setPolicer, State.setPolicer_regs]
  change _ ∧ (w = 0 → (s.policer j).setWord s.now w data = _) ∧ (w = 1 → (s.policer j).setWord s.now w data = _) ∧
    (w = 2 → (s.policer j).setWord s.now w data = _) ∧ (w = 3 → (s.policer j).setWord s.now w data = _) ∧
    (w = 4 → (s.policer j).setWord s.now w data = _) ∧ (4 < w → (s.policer j).setWord s.now w data = _)
  refine ⟨rfl, ?_, ?_, ?_, ?_, ?_, setWord_spare data _ _⟩ <;>
    · intro h
      rw [h]
      rfl

theorem shapersRefused {p : Part} (h : p ≠ 0) : exec (.shaperRateWrite p data) s = .next (s.err R.SHP_ERR F.SHP_ERR_PART_WRITE) ∧
    exec (.shaperBurstWrite p data) s = .next (s.err R.SHP_ERR F.SHP_ERR_PART_WRITE) ∧
    exec (.policerWrite p data) s = .next (s.err R.SHP_ERR F.SHP_ERR_PART_WRITE) :=
  ⟨congrArg Host.Outcome.next (s.shpWriter_other _ h), congrArg Host.Outcome.next (s.shpWriter_other _ h),
    congrArg Host.Outcome.next (s.shpWriter_other _ h)⟩

end

/-! ### Eligibility (R293) -/

/-- The time after which a shaper in debt is at 0, in ticks of K4. -/
def Shaper.wait (x : Shaper) : Nat := (x.level.natAbs * 1000 + x.rate * 32 - 1) / (x.rate * 32)

section
variable {x : Shaper}

theorem Shaper.wait_pays (hr : 0 < x.rate) : x.level.natAbs * 1000 ≤ x.rate * x.wait * 32 := by
  have hd := Nat.div_add_mod (x.level.natAbs * 1000 + x.rate * 32 - 1) (x.rate * 32)
  have hm := Nat.mod_lt (x.level.natAbs * 1000 + x.rate * 32 - 1) (show 0 < x.rate * 32 by omega)
  rw [show x.rate * x.wait * 32 = x.rate * 32 * x.wait by ring, Shaper.wait]
  omega

theorem Shaper.wait_pos (hr : 0 < x.rate) (hl : x.level < 0) : 0 < x.wait :=
  Nat.div_pos (by omega) (by omega)

/-- A shaper in debt has no debt left after its wait. -/
theorem Shaper.settle_wait (now : Nat) (hr : 0 < x.rate) (ha : x.at_ = now) : 0 ≤ (x.settle (now + x.wait)).level := by
  have hp := Shaper.wait_pays hr
  simp only [Shaper.settle, ha, Nat.add_sub_cancel_left]
  split
  · positivity
  · have : x.level.natAbs ≤ x.rate * x.wait * 32 / 1000 := (Nat.le_div_iff_mul_le (by norm_num)).2 hp
    omega

end

section
variable (s : State) (k : Fin 1024)

theorem State.popServe_now (w : Nat) : (s.popServe w).now = s.now :=
  (State.popServe_within s w (Within.refl [.regs, .pass, .host, .time, .air, .qmg, .shp, .rx, .link] s) rfl).only .now (by decide)

theorem State.popServe_idle (w : Nat) (h : s.qmg.popWait = []) : s.popServe w = s := by simp [State.popServe, h]

/-- The state when a shaper has waited. -/
def State.shaperWaited : State :=
  let x := (s.shaper k).settle s.now
  (s.advanceTo (s.now + x.wait)).setShaper k (x.settle (s.advanceTo (s.now + x.wait)).now)

theorem exec_shaperEligible (hl : ((s.shaper k).settle s.now).level < 0) (hr : 0 < (s.shaper k).rate) : exec (.shaperEligible k) s =
    .next (if (s.shaperWaited k).pwr.hush then s.shaperWaited k
      else (s.shaperWaited k).popServe ((s.shaperWaited k).fld R.QMG_POP_Q F.QMG_POP_Q_WINDOW)) := by
  rw [exec_shaperEligible_arm, execShaperEligible]
  exact congrArg Host.Outcome.next (if_pos (by simpa using ⟨hl, hr⟩))

theorem shaperRises (hl : ((s.shaper k).settle s.now).level < 0) (hr : 0 < (s.shaper k).rate) : Does (.shaperEligible k) s (fun t =>
    s.now < t.now ∧ (s.qmg.popWait = [] → 0 ≤ (t.shaper k).level ∧ t.regs = s.regs)) := by
  have hn : (s.shaperWaited k).now = s.now + ((s.shaper k).settle s.now).wait := by simp [State.shaperWaited]
  have hw := Shaper.wait_pos (x := (s.shaper k).settle s.now) hr hl
  refine .of_next (exec_shaperEligible s k hl hr) ⟨?_, fun hp => ?_⟩
  · split
    · omega
    · rw [State.popServe_now]
      omega
  · rw [State.popServe_idle _ _ (by simpa [State.shaperWaited] using hp), ite_self]
    refine ⟨?_, rfl⟩
    rw [State.shaperWaited, State.shaper_setShaper, State.advanceTo_now, Nat.max_eq_right (Nat.le_add_right _ _)]
    exact Shaper.settle_wait s.now hr rfl

end

/-! ### Samples (R302) -/

theorem histBin_lt (v : Nat) : histBin v < 16 := by
  unfold histBin
  split <;> omega

/-- What a class's histogram of one kind counts: depths for 0, sojourns for 1. -/
def State.sample (s : State) (c kind : Nat) : Nat := if kind = 0 then s.depth c else s.sojourn c

/-- Both samples of a class. -/
def State.sampled (s : State) (c : Nat) : State := (s.histPut c 0 (s.depth c)).histPut c 1 (s.sojourn c)

section
variable (s : State)

/-- A bin of a histogram after a sample of the same or of another histogram. -/
theorem State.hist_histPut {c d k l b : Nat} (v : Nat) (hk : k < 2) (hl : l < 2) (hb : b < 16) :
    aget 0 (c * 32 + k * 16 + b) (s.histPut d l v).qmg.hist =
      if c = d ∧ k = l ∧ b = histBin v then satInc (aget 0 (c * 32 + k * 16 + b) s.qmg.hist) else aget 0 (c * 32 + k * 16 + b) s.qmg.hist := by
  have hv := histBin_lt v
  unfold State.histPut amod
  split
  · next h =>
    obtain ⟨rfl, rfl, rfl⟩ := h
    exact aget_aset_same ..
  · next h => exact aget_aset_ne _ _ _ _ _ (by omega)

/-- A bin after both samples of a class. -/
theorem State.hist_sampled {c d k b : Nat} (hk : k < 2) (hb : b < 16) :
    aget 0 (c * 32 + k * 16 + b) (s.sampled d).qmg.hist = if c = d ∧ b = histBin (s.sample d k) then
      satInc (aget 0 (c * 32 + k * 16 + b) s.qmg.hist) else aget 0 (c * 32 + k * 16 + b) s.qmg.hist := by
  rw [State.sampled, State.hist_histPut _ _ hk (by omega) hb, State.hist_histPut _ _ hk (by omega) hb]
  obtain rfl | rfl : k = 0 ∨ k = 1 := by omega
  · simp [State.sample]
  · simp [State.sample]

/-- What the samples of some classes leave as it was. -/
theorem State.sampled_keeps (l : List Nat) : let t := l.foldl State.sampled s
    t.regs = s.regs ∧ t.now = s.now ∧ t.qmg.queues = s.qmg.queues := by
  induction l generalizing s with
  | nil => exact ⟨rfl, rfl, rfl⟩
  | cons c l ih => exact ih (s.sampled c)

theorem State.sample_foldl (l : List Nat) (c k : Nat) : (l.foldl State.sampled s).sample c k = s.sample c k := by
  obtain ⟨-, hn, hq⟩ := s.sampled_keeps l
  simp only [State.sample, State.depth, State.sojourn, hn, hq]

/-- A bin after the samples of distinct classes. -/
theorem State.hist_foldl {l : List Nat} (hl : l.Nodup) {c k b : Nat} (hk : k < 2) (hb : b < 16) :
    aget 0 (c * 32 + k * 16 + b) (l.foldl State.sampled s).qmg.hist = if c ∈ l ∧ b = histBin (s.sample c k) then
      satInc (aget 0 (c * 32 + k * 16 + b) s.qmg.hist) else aget 0 (c * 32 + k * 16 + b) s.qmg.hist := by
  induction l using List.reverseRecOn with
  | nil => simp
  | append_singleton l d ih =>
    obtain ⟨hl, -, hd⟩ := List.nodup_append.1 hl
    rw [List.foldl_append, List.foldl_cons, List.foldl_nil, State.hist_sampled _ hk hb, ih hl, State.sample_foldl]
    by_cases hc : c = d
    · subst hc
      simp [show c ∉ l from fun h => hd c h c (by simp) rfl]
    · simp [hc]

theorem samplesCount : Does .depthSample s (fun t => t.regs = s.regs ∧ t.qmg.queues = s.qmg.queues ∧ ∀ (c : Fin 13) (b : Fin 16),
      aget 0 (c.val * 32 + b.val) t.qmg.hist = (if b.val = histBin (s.depth c) then satInc (aget 0 (c.val * 32 + b.val) s.qmg.hist)
        else aget 0 (c.val * 32 + b.val) s.qmg.hist) ∧
      aget 0 (c.val * 32 + 16 + b.val) t.qmg.hist = (if b.val = histBin (s.sojourn c) then satInc (aget 0 (c.val * 32 + 16 + b.val) s.qmg.hist)
        else aget 0 (c.val * 32 + 16 + b.val) s.qmg.hist)) := by
  refine .of_next (t := (List.range 13).foldl State.sampled s) (exec_depthSample_arm s) ?_
  obtain ⟨hr, -, hq⟩ := s.sampled_keeps (List.range 13)
  refine ⟨hr, hq, fun c b => ⟨?_, ?_⟩⟩
  · simpa [State.sample, c.2] using s.hist_foldl (l := List.range 13) List.nodup_range (c := c) (k := 0) (by omega) b.2
  · simpa [State.sample, c.2] using s.hist_foldl (l := List.range 13) List.nodup_range (c := c) (k := 1) (by omega) b.2

end

/-- Settles O23: the writes store one shaper or policer, the wait pays the debt, and a sample moves only its own bin. -/
theorem shapersPolicersAndSamples : Obligations.ShapersPolicersAndSamples := by
  unfold Obligations.ShapersPolicersAndSamples
  intro s p data
  exact ⟨rateWrite s data, burstWrite s data, policerWords s data, shapersRefused s data, fun k hl hr => shaperRises s k hl hr,
    samplesCount s⟩

end Sys2Proof.Machine
end

section
/-! O21: why a spilled frame that is discarded need not be counted. Its Ledger record may fail, which is a Quiet cause; the end of the image
sessions that follows clears their `IMG_SESS` registers, and a session numbered 1,084, of which no command opens one, has the key of
`QMG_CNT_SPILLERR`. -/

set_option Elab.async false

namespace Sys2Proof.Machine

/-- A frame with an error in a spilled cell. -/
def spoiltFrame : Frame := { spillBad := some 0 }

/-- The block at reset with that frame alone in a queue of port 0, no spilling, the next place of the Ledger bad, and one image session whose
number gives it the key of `QMG_CNT_SPILLERR`. -/
def spoiltState : State :=
  let s := State.reset.setFld R.QMG_THRESH F.QMG_THRESH_SPILL_LOW 0
  let u := s.setQueue 32800 { frames := [spoiltFrame] }
  { u with cvn := { u.cvn with sess := [(1084, emptySession)] }, log := { u.log with bad := [(u.rd R.LOG_LNEXT).toNat % 16384] } }

/-- What `QMG_CNT_SPILLERR` reads after a refill of a queue. -/
def State.spillCount (s : State) (q : Nat) : Option Word :=
  match exec (.refillDone q) s with
  | .next t => some (t.rd R.QMG_CNT_SPILLERR)
  | _ => none

theorem State.spillCount_next {s t : State} {q : Nat} (h : exec (.refillDone q) s = .next t) :
    s.spillCount q = some (t.rd R.QMG_CNT_SPILLERR) := by
  rw [State.spillCount, h]

theorem spoiltState_before : spoiltState.rd R.QMG_CNT_SPILLERR = 0 := by decide +kernel

theorem spoiltState_after : spoiltState.spillCount 32800 = some 0 := by decide +kernel

/-- Refutes O21: the clause of the frame with an error in a spilled cell. The stray session's end clears the count of the frame that was
discarded. In the states that runs reach the sessions are numbered 0 to 3, and no register of theirs is a counter; the statement is about every
state. -/
theorem not_queuesAreServed : ¬ Obligations.QueuesAreServed := by
  unfold Obligations.QueuesAreServed
  intro h
  obtain ⟨queues, -⟩ := h
  obtain ⟨-, spoilt, -⟩ := queues spoiltState 32800 0
  obtain ⟨t, ht, -, hc⟩ := spoilt spoiltFrame 0 (by decide +kernel) (by decide) (by decide +kernel) (by decide +kernel) rfl rfl rfl
    (by decide +kernel)
  have ha := spoiltState_after
  rw [State.spillCount_next ht, hc, spoiltState_before] at ha
  exact absurd ha (by decide)

end Sys2Proof.Machine
end

section
/-! O22: the window reader and the flush. What a read of `QMG_POP_WAIT` does turns on whether the reader takes a frame; a flush turns on its
refusals in their order, and a frame of the chip's own just leaves its queue. -/

set_option Elab.async false

namespace Sys2Proof.Machine

/-! ### The arms of `exec` -/

section
variable (s : State) (p : Part)

theorem exec_popWait_arm : exec (.popWait p) s = .next (s.popWaitRead p) := rfl
theorem exec_popWaitExpiry_arm : exec .popWaitExpiry s = execPopWaitExpiry s := rfl
theorem exec_popData_arm : exec (.popData p) s = .next (s.popDataRead p) := rfl
theorem exec_queueFlush_arm (data : Word) : exec (.queueFlush p data) s = .next (s.flushWrite p data) := rfl

end

/-! ### What the reader finds (R292) -/

section
variable {s : State} {k : Nat} {f : Frame}

/-- An empty queue shows no head. -/
theorem State.qHead_empty {q : Nat} (h : (s.queue q).frames = []) : s.qHead q = none := by simp [State.qHead, h]

theorem State.popRelease_none (h : s.qmg.popCur = none) : s.popRelease = s := by simp [State.popRelease, h]

theorem State.popTake_hush (h : s.pwr.hush = true) : s.popTake k = none := by simp [State.popTake, h]

theorem State.popTake_empty (h : (s.queue (qWindow k)).frames = []) : s.popTake k = none := by
  simp [State.popTake, State.qHead_empty h]

theorem State.shapeCharge_qmg (s : State) (q len : Nat) : (s.shapeCharge q len).qmg = s.qmg :=
  (State.shapeCharge_within s q len (Within.refl [.time, .shp] s) rfl).only .qmg (by decide)

theorem State.shapeCharge_regs (s : State) (q len : Nat) : (s.shapeCharge q len).regs = s.regs :=
  (State.shapeCharge_within s q len (Within.refl [.time, .shp] s) rfl).only .regs (by decide)

/-- The state in which the reader holds a frame that it has taken, none before it. -/
def State.popped (s : State) (k : Nat) (f : Frame) : State :=
  let s1 := (s.shapeCharge (qWindow k) f.len).setQueue (qWindow k)
    { s.queue (qWindow k) with frames := (s.queue (qWindow k)).frames.drop 1 }
  { s1 with qmg := { s1.qmg with popCur := some f, popOff := 0 } }

theorem State.popTake_head (hh : s.pwr.hush = false) (hc : s.qmg.popCur = none) (hq : s.qHead (qWindow k) = some f) :
    s.popTake k = some (w32 (f.len % 4096 + f.tsId % 65536 * 2 ^ 12), s.popped k f) := by
  have hr : (s.shapeCharge (qWindow k) f.len).popRelease = s.shapeCharge (qWindow k) f.len :=
    State.popRelease_none (by rw [State.shapeCharge_qmg, hc])
  simp [State.popTake, hh, hq, hr, State.popped]

end

/-! ### Reads of the window (R292) -/

section
variable {s : State}

theorem exec_popWait_other (s : State) {p : Part} (h : p ≠ 0) : exec (.popWait p) s = .next (s.answer p 0) :=
  congrArg Host.Outcome.next (if_pos (fun h0 => h (Fin.ext h0)))

theorem exec_popData_other (s : State) {p : Part} (h : p ≠ 0) : exec (.popData p) s = .next (s.answer p 0) :=
  congrArg Host.Outcome.next (if_pos (fun h0 => h (Fin.ext h0)))

/-- The answer of a read that finds no frame: EMPTY at once without a limit, else the read stalls. -/
def State.popStall (s : State) : State :=
  if s.waitLimit = 0 then s.answer 0 0xFFFFFFFF
  else { s with qmg := { s.qmg with popWait := s.qmg.popWait ++ [(s.now + us s.waitLimit, none)] } }

theorem State.popStall_zero (h : s.waitLimit = 0) : s.popStall = s.answer 0 0xFFFFFFFF := if_pos h

theorem State.popStall_waits (h : s.waitLimit ≠ 0) :
    s.popStall = { s with qmg := { s.qmg with popWait := s.qmg.popWait ++ [(s.now + us s.waitLimit, none)] } } := if_neg h

section
variable (hc : s.qmg.popCur = none)
include hc

/-- A read in Hush takes nothing. -/
theorem exec_popWait_hush (hh : s.pwr.hush = true) : exec (.popWait 0) s = .next s.popStall := by
  rw [exec_popWait_arm, State.popWaitRead, if_neg (by decide)]
  simp only [State.popRelease_none hc, hh, if_true, State.popTake_hush hh]
  rfl

variable (hm : (s.queue (qWindow (s.fld R.QMG_POP_Q F.QMG_POP_Q_WINDOW))).mismatch = false)
include hm

/-- A read of an empty queue finds nothing, in Hush or not. -/
theorem exec_popWait_empty (he : (s.queue (qWindow (s.fld R.QMG_POP_Q F.QMG_POP_Q_WINDOW))).frames = []) :
    exec (.popWait 0) s = .next s.popStall := by
  rw [exec_popWait_arm, State.popWaitRead, if_neg (by decide)]
  simp only [State.popRelease_none hc, State.queueCheck_agreed hm, ite_self, State.popTake_empty he]
  rfl

theorem exec_popWait_head {f : Frame} (hh : s.pwr.hush = false) (hq : s.qHead (qWindow (s.fld R.QMG_POP_Q F.QMG_POP_Q_WINDOW)) = some f) :
    exec (.popWait 0) s = .next ((s.popped (s.fld R.QMG_POP_Q F.QMG_POP_Q_WINDOW) f).answer 0
      (w32 (f.len % 4096 + f.tsId % 65536 * 2 ^ 12))) := by
  rw [exec_popWait_arm, State.popWaitRead, if_neg (by decide)]
  simp only [State.popRelease_none hc, State.queueCheck_agreed hm, ite_self, State.popTake_head hh hc hq]

theorem popWaitTakes {f : Frame} {r : List Frame} (hh : s.pwr.hush = false)
    (hf : (s.queue (qWindow (s.fld R.QMG_POP_Q F.QMG_POP_Q_WINDOW))).frames = f :: r)
    (hq : s.qHead (qWindow (s.fld R.QMG_POP_Q F.QMG_POP_Q_WINDOW)) = some f) : Does (.popWait 0) s (fun t =>
      t.reads 0 = w32 (f.len % 4096 + f.tsId % 65536 * 2 ^ 12) ∧ t.qmg.popCur = some f ∧
      (t.queue (qWindow (s.fld R.QMG_POP_Q F.QMG_POP_Q_WINDOW))).frames = r ∧ t.regs = s.regs) := by
  refine .of_next (exec_popWait_head hc hm hh hq) ⟨State.answer_readData .., rfl, ?_, State.shapeCharge_regs ..⟩
  have hx : ∀ k, ((s.popped k f).answer 0 (w32 (f.len % 4096 + f.tsId % 65536 * 2 ^ 12))).queue (qWindow k) =
      { s.queue (qWindow k) with frames := (s.queue (qWindow k)).frames.drop 1 } := fun k => State.queue_setQueue ..
  rw [hx, hf]
  rfl

end

/-- The limit of the oldest stalled read expires. -/
theorem exec_popWaitExpiry {n : Nat} {tag : Option Nat} {r : List (Nat × Option Nat)} (h : s.qmg.popWait = (n, tag) :: r) :
    exec .popWaitExpiry s = .next ((s.advanceTo n).popAnswer 0xFFFFFFFF) := by
  rw [exec_popWaitExpiry_arm, execPopWaitExpiry]
  simp only [h]

/-- The oldest stalled read is over. -/
def State.popUnstalled (s : State) : State := { s with qmg := { s.qmg with popWait := s.qmg.popWait.tail } }

/-- Where messages of the F-die are still on their way, an answer goes behind them. -/
theorem State.regRsp_queued (p tag : Nat) (w : Word) (h : s.passClear .f = false) :
    s.regRsp p tag w = s.passSend .f 9 p false 8 [BitVec.ofNat 32 tag, w] := if_neg (ne_true_of_eq_false h)

theorem State.popAnswer_own {n : Nat} {r : List (Nat × Option Nat)} (h : s.qmg.popWait = (n, none) :: r) (w : Word) :
    s.popAnswer w = s.popUnstalled.answer 0 w := by simp [State.popAnswer, State.popUnstalled, h]

theorem State.popAnswer_crosses {n g : Nat} {r : List (Nat × Option Nat)} (h : s.qmg.popWait = (n, some g) :: r)
    (hp : s.passClear .f = false) (w : Word) : s.popAnswer w = s.popUnstalled.passSend .f 9 0 false 8 [w32 g, w] := by
  rw [← State.regRsp_queued 0 g w (s := s.popUnstalled) hp]
  simp [State.popAnswer, State.popUnstalled, h]

theorem expiryAnswers {n : Nat} {r : List (Nat × Option Nat)} (h : s.qmg.popWait = (n, none) :: r) : Does .popWaitExpiry s (fun t =>
    t.reads 0 = 0xFFFFFFFF ∧ t.qmg.popWait = r ∧ t.now = max s.now n) := by
  refine .of_next (exec_popWaitExpiry h) ?_
  rw [State.popAnswer_own (s := s.advanceTo n) h]
  exact ⟨State.answer_readData .., congrArg List.tail h, State.advanceTo_now ..⟩

theorem expiryCrosses {n g : Nat} {r : List (Nat × Option Nat)} (h : s.qmg.popWait = (n, some g) :: r) (hp : s.passClear .f = false) :
    Does .popWaitExpiry s (fun t => t.sent .f = some (9, 0, [w32 g, 0xFFFFFFFF]) ∧ t.qmg.popWait = r ∧ t.now = max s.now n) := by
  refine .of_next (exec_popWaitExpiry h) ?_
  rw [State.popAnswer_crosses (s := s.advanceTo n) h hp]
  exact ⟨State.passSend_sent .., congrArg List.tail h, State.advanceTo_now ..⟩

theorem popDataReads {f : Frame} (h : s.qmg.popCur = some f) : Does (.popData 0) s (fun t =>
    t.reads 0 = w32 (leNat ((f.windowBytes.drop s.qmg.popOff).take 4)) ∧ t.qmg = { s.qmg with popOff := s.qmg.popOff + 4 } ∧
    t.regs = s.regs) := by
  refine .of_next (exec_popData_arm s 0) ?_
  rw [State.popDataRead, if_neg (by decide)]
  simp only [h]
  exact ⟨State.answer_readData .., rfl, rfl⟩

end

/-! ### Flushes (R280, R289, R290) -/

section
variable {s : State} {q : Nat} {f : Frame}

/-- The cells of a frame that leaves are free. -/
theorem State.used_drop : (s.drop q f).qmg.used = s.qmg.used.filter (fun c => !f.onDie.contains c) := by
  unfold State.drop
  dsimp only
  split
  · rw [State.nbrIdle_qmg]
    rfl
  · rfl

/-- A queue with one frame of the chip's own is flushed by its leaving. -/
theorem State.flushQueue_own (hm : (s.queue q).mismatch = false) (hf : (s.queue q).frames = [f]) (hg : f.gram = none)
    (ho : f.origin = .own) : s.flushQueue q = s.drop q f := by
  have hi : s.inQueue q f = true := by simp [State.inQueue, hf]
  rw [State.flushQueue, State.queueCheck_agreed hm]
  simp only [hf, List.foldl_cons, List.foldl_nil, State.flushFrame, hi, if_true]
  exact State.finish_own _ _ _ hm hg ho

variable {p : Part} {data : Word}

theorem exec_queueFlush_invalid (hv : queueValid (data.toNat % 65536) = false) :
    exec (.queueFlush p data) s = .next (s.err R.QMG_ERR F.QMG_ERR_QUEUE_INVALID) := by
  rw [exec_queueFlush_arm, State.flushWrite, if_pos (by simp [hv])]

section
variable (hv : queueValid (data.toNat % 65536) = true)
include hv

theorem exec_queueFlush_store (hg : bitAt data 16 = false) :
    exec (.queueFlush p data) s = .next (s.setFld (R.QMG_FLUSH p) F.QMG_FLUSH_QUEUE (data.toNat % 65536)) := by
  rw [exec_queueFlush_arm, State.flushWrite, if_neg (by simp [hv]), if_pos (by simp [hg])]

theorem exec_queueFlush_refused (hg : bitAt data 16 = true) (hp : s.mayFlush p (data.toNat % 65536) = false) :
    exec (.queueFlush p data) s = .next (s.err R.QMG_ERR F.QMG_ERR_PART_WRITE) := by
  rw [exec_queueFlush_arm, State.flushWrite, if_neg (by simp [hv]), if_neg (by simp [hg]), if_pos (by simp [hp])]

theorem exec_queueFlush_hush (hg : bitAt data 16 = true) (hp : s.mayFlush p (data.toNat % 65536) = true) (hh : s.pwr.hush = true) :
    exec (.queueFlush p data) s = .next s := by
  rw [exec_queueFlush_arm, State.flushWrite, if_neg (by simp [hv]), if_neg (by simp [hg]), if_neg (by simp [hp]), if_pos hh]

end

/-- A flush of another queue than a host RX queue is the H-die's no concern. -/
theorem exec_queueFlush (hg : bitAt data 16 = true) (hp : s.mayFlush p (data.toNat % 65536) = true) (hh : s.pwr.hush = false)
    (hq : data.toNat % 65536 < 32832) : exec (.queueFlush p data) s =
      .next ((s.setFld (R.QMG_FLUSH p) F.QMG_FLUSH_QUEUE (data.toNat % 65536)).flushQueue (data.toNat % 65536)) := by
  have hv : queueValid (data.toNat % 65536) = true := decide_eq_true (show data.toNat % 65536 < 32920 by omega)
  rw [exec_queueFlush_arm, State.flushWrite, if_neg (by simp [hv]), if_neg (by simp [hg]), if_neg (by simp [hp]), if_neg (by simp [hh])]
  exact congrArg Host.Outcome.next (if_neg (by simp; omega))

theorem flushEmpties (hg : bitAt data 16 = true) (hp : s.mayFlush p (data.toNat % 65536) = true) (hh : s.pwr.hush = false)
    (hq : data.toNat % 65536 < 32832) (hm : (s.queue (data.toNat % 65536)).mismatch = false)
    (hf : (s.queue (data.toNat % 65536)).frames = [f]) (hn : f.gram = none) (ho : f.origin = .own) : Does (.queueFlush p data) s (fun t =>
      (t.queue (data.toNat % 65536)).frames = [] ∧ t.qmg.used = s.qmg.used.filter (fun c => !f.onDie.contains c)) := by
  refine .of_next (exec_queueFlush hg hp hh hq) ?_
  rw [State.flushQueue_own (s := s.setFld _ _ _) hm hf hn ho, State.queue_drop, if_pos rfl, State.used_drop]
  refine ⟨?_, rfl⟩
  change (s.queue _).frames.filter _ = []
  simp [hf]

end

/-- Settles O22: a read turns on whether the reader takes a frame, and a flush on its refusals in their order. -/
theorem windowsAndFlushes : Obligations.WindowsAndFlushes := by
  unfold Obligations.WindowsAndFlushes
  constructor
  · intro s p
    exact ⟨fun _ _ hc hh hm hf hq => popWaitTakes hc hm hh hf hq,
      fun hc hm he hw => (exec_popWait_empty hc hm he).trans (congrArg _ (State.popStall_zero hw)),
      fun hc hm he hw => (exec_popWait_empty hc hm he).trans (congrArg _ (State.popStall_waits hw)),
      fun hc hh hw => (exec_popWait_hush hc hh).trans (congrArg _ (State.popStall_zero hw)),
      fun _ _ => expiryAnswers, fun _ _ _ => expiryCrosses, fun _ => popDataReads,
      fun h => ⟨exec_popWait_other s h, exec_popData_other s h⟩⟩
  · intro s p data
    exact ⟨exec_queueFlush_invalid, exec_queueFlush_store, exec_queueFlush_refused, exec_queueFlush_hush,
      fun _ hg hh hp hq hm hf hn ho => flushEmpties hg hp hh hq hm hf hn ho⟩

end Sys2Proof.Machine
end

section
/-! O35: frames from the hosts and up to them. A frame that has room takes the lowest free cells, which are not in use and come into use; with
no policer, tap or spilling in its way it then stands at the tail of its port's queue, and its credit returns. A frame that goes up is held for
its ring, or joins the egress FIFO of its port. -/

set_option Elab.async false

namespace Sys2Proof.Machine

/-! ### The arms of `exec` -/

section
variable (s : State) (m : PassMsg)

theorem exec_frameDn_arm (faults : Fin 5) : exec (.frameDn m faults) s = execFrameDn m faults s := rfl
theorem exec_frameUp_arm : exec (.frameUp m) s = execFrameUp m s := rfl

end

/-! ### Cells (R277, R278) -/

theorem pickCells_length (n c : Nat) (us : List Nat) : (pickCells n c us).length = n := by
  induction us generalizing n c with
  | nil => simp [pickCells]
  | cons u us ih =>
    unfold pickCells
    split
    · simp
    · simp only [List.length_append, List.length_map, List.length_range, ih]
      omega

/-- The cells picked are none of those in use. -/
theorem pickCells_free {n c x : Nat} {us : List Nat} (hs : us.Pairwise (· < ·)) (hc : ∀ u ∈ us, c ≤ u) (hx : x ∈ pickCells n c us) :
    c ≤ x ∧ x ∉ us := by
  induction us generalizing n c with
  | nil =>
    obtain ⟨i, -, rfl⟩ := List.mem_map.1 hx
    exact ⟨Nat.le_add_right c i, by simp⟩
  | cons u us ih =>
    obtain ⟨hu, hs⟩ := List.pairwise_cons.1 hs
    have hcu := hc u List.mem_cons_self
    have low : ∀ i < u - c, c ≤ c + i ∧ c + i ∉ u :: us := fun i hi => ⟨Nat.le_add_right c i, fun h => by
      rcases List.mem_cons.1 h with h | h
      · omega
      · have := hu _ h
        omega⟩
    unfold pickCells at hx
    split at hx
    · obtain ⟨i, hi, rfl⟩ := List.mem_map.1 hx
      exact low i (by have := List.mem_range.1 hi; omega)
    · rcases List.mem_append.1 hx with hx | hx
      · obtain ⟨i, hi, rfl⟩ := List.mem_map.1 hx
        exact low i (List.mem_range.1 hi)
      · obtain ⟨h1, h2⟩ := ih hs hu hx
        exact ⟨by omega, by simp only [List.mem_cons, not_or]; exact ⟨by omega, h2⟩⟩

theorem mem_cellInsert {x c : Nat} {us : List Nat} : x ∈ cellInsert c us ↔ x = c ∨ x ∈ us := by
  induction us with
  | nil => simp [cellInsert]
  | cons u us ih =>
    unfold cellInsert
    split
    · simp
    · split
      · next h => simp [h]
      · simp only [List.mem_cons, ih]
        tauto

theorem mem_cellsInserted {x : Nat} {cs us : List Nat} : x ∈ cs.foldl (fun u c => cellInsert c u) us ↔ x ∈ cs ∨ x ∈ us := by
  induction cs generalizing us with
  | nil => simp
  | cons c cs ih =>
    rw [List.foldl_cons, ih, mem_cellInsert, List.mem_cons]
    tauto

section
variable (s : State)

/-- The cells that a chain of `n` takes. -/
def State.picked (n : Nat) : List Nat := pickCells n 0 s.qmg.used

/-- The state in which they are in use. -/
def State.took (n : Nat) : State := s.setUsed ((s.picked n).foldl (fun u c => cellInsert c u) s.qmg.used)

theorem State.took_freeCells (n : Nat) : (s.took n).freeCells = (65536 - (s.took n).qmg.used.length) % 2 ^ 17 :=
  State.fld_setFld _ R.QMG_FREE F.QMG_FREE_CELLS _ (by decide)

theorem State.took_rd (n : Nat) {k : Nat} (h : k ≠ R.QMG_FREE) : (s.took n).rd k = s.rd k := State.rd_setFld_ne _ _ _ h

theorem State.took_flag (n : Nat) {k : Nat} (f : Fld) (h : k ≠ R.QMG_FREE) : (s.took n).flag k f = s.flag k f := by
  rw [State.flag, State.fld, s.took_rd n h, State.flag, State.fld]

/-- The state in which the frame that takes them has its number. -/
def State.roomed (n : Nat) : State := (s.took n).newId.2

theorem State.roomed_queue (n q : Nat) : (s.roomed n).queue q = s.queue q := rfl

theorem State.roomed_rd (n : Nat) {k : Nat} (h : k ≠ R.QMG_FREE) : (s.roomed n).rd k = s.rd k := s.took_rd n h

theorem State.roomed_flag (n : Nat) {k : Nat} (f : Fld) (h : k ≠ R.QMG_FREE) : (s.roomed n).flag k f = s.flag k f := s.took_flag n f h

variable {s}

/-- Without a threshold nothing spills. -/
theorem State.spill_idle (h : s.fld R.QMG_THRESH F.QMG_THRESH_SPILL_LOW = 0) : s.spill = s := by simp [State.spill, h]

theorem State.takeChain_took {n : Nat} (hn : n ≤ s.freeCells) (h : s.fld R.QMG_THRESH F.QMG_THRESH_SPILL_LOW = 0) :
    s.takeChain n = (s.picked n, s.took n) := by
  have hl : (s.took n).fld R.QMG_THRESH F.QMG_THRESH_SPILL_LOW = 0 := by rw [State.fld, s.took_rd n (by decide)]; exact h
  rw [State.takeChain, Nat.min_eq_left hn]
  exact Prod.ext rfl (State.spill_idle hl)

/-! ### Queues without taps (R282, R291) -/

theorem State.tapOne_off {q k : Nat} {f : Frame} (h : s.flag (R.QMG_TAP k) F.QMG_TAP_EN = false) : s.tapOne q f k = s :=
  if_pos (by simp [h])

theorem State.taps_off {q : Nat} {f : Frame} (h : ∀ k < 8, s.flag (R.QMG_TAP k) F.QMG_TAP_EN = false) : s.taps q f = s := by
  have hl : ∀ l : List Nat, (∀ k ∈ l, k < 8) → l.foldl (fun s k => s.tapOne q f k) s = s := fun l hl => by
    induction l with
    | nil => rfl
    | cons k l ih =>
      rw [List.foldl_cons, State.tapOne_off (h k (hl k List.mem_cons_self))]
      exact ih fun j hj => hl j (List.mem_cons_of_mem _ hj)
  rw [State.taps, hl _ fun k hk => List.mem_range.1 hk, ite_self]

/-- What a frame meets at a queue follows from the queue and the profiles. -/
theorem State.queueRefuses_eq {t : State} {q : Nat} (hq : t.queue q = s.queue q) (hr : ∀ k, k ≠ R.QMG_FREE → t.rd k = s.rd k) (n : Nat)
    (y : Bool) : t.queueRefuses q n y = s.queueRefuses q n y := by
  have h1 : ∀ j, R.QMG_PROF_LIM j ≠ R.QMG_FREE := fun j => by unfold R.QMG_PROF_LIM R.QMG_FREE; omega
  have h2 : ∀ j, R.QMG_PROF_YLIM j ≠ R.QMG_FREE := fun j => by unfold R.QMG_PROF_YLIM R.QMG_FREE; omega
  have hf1 : ∀ j f, t.fld (R.QMG_PROF_LIM j) f = s.fld (R.QMG_PROF_LIM j) f := fun j f => congrArg (fget f) (hr _ (h1 j))
  have hf2 : ∀ j f, t.fld (R.QMG_PROF_YLIM j) f = s.fld (R.QMG_PROF_YLIM j) f := fun j f => congrArg (fget f) (hr _ (h2 j))
  rw [State.queueRefuses, State.queueRefuses, State.profile, State.profile, hq, hf1, hf2]

theorem State.offer_admitted {q : Nat} {f : Frame} (hm : (s.queue q).mismatch = false) (hr : s.queueRefuses q f.cells f.yellow = none)
    (ht : ∀ k < 8, s.flag (R.QMG_TAP k) F.QMG_TAP_EN = false) (hl : s.fld R.QMG_THRESH F.QMG_THRESH_SPILL_LOW = 0) :
    (s.offer q f).1 = s.qAppend q f.checked := by
  simp only [State.offer, State.queueCheck_agreed hm, hr]
  rw [State.taps_off (s := s.qAppend q f.checked) ht, State.spill_idle (s := s.qAppend q f.checked) hl]

/-- A source without a policer lets every packet through in its colour. -/
theorem State.policed_off {i len : Nat} {x : Pkt} {go : State → Pkt → State} (h : s.flag (R.SHP_ING i) F.SHP_ING_EN = false) :
    s.policed i len x go = go s x := by
  obtain ⟨_, _, _, _, _ | _, _, _, _, _, _⟩ := x
  all_goals
    simp only [State.policed, State.policeIngress, h, Bool.false_eq_true, if_false, if_true]
    rfl

end

/-! ### FRAME_DN of a TX ring (R278, R279, R316) -/

/-- The descriptor of a FRAME_DN of a partition's TX ring. -/
def dnFetched (s : State) (m : PassMsg) (p : Nat) : Fetched :=
  ⟨p, bitsAt (wordAt m.payload 2) 16 4, bitsAt (wordAt m.payload 2) 0 16, 0, 0, wordAt m.payload 4, aget 0 p s.ends.gens⟩

/-- The frame of a FRAME_DN with a direct destination, in the cells it has taken. -/
def dnFrame (s : State) (m : PassMsg) (p : Nat) : Frame where
  id := s.qmg.nextId
  bytes := passFrame m
  ingress := 52 + p
  origin := .host (dnFetched s m p)
  yellow := bitAt (wordAt m.payload 0) 18
  cls := bitsAt (wordAt m.payload 0) 16 2
  prio := bitsAt (wordAt m.payload 0) 13 3
  up := upOf (52 + p) false (passFrame m).length 0
  tsReq := bitAt (wordAt m.payload 0) 19
  tsId := bitsAt (wordAt m.payload 1) 0 16
  direct := true
  chain := (s.picked (frameCells (passFrame m).length)).map some

section
variable (s : State) (m : PassMsg)

theorem State.acked_qmg (d : Die) : (s.acked d m).qmg = s.qmg := (s.acked_onlyIn d m) .qmg (by decide)
theorem State.acked_ends (d : Die) : (s.acked d m).ends = s.ends := (s.acked_onlyIn d m) .ends (by decide)
theorem State.acked_pwr (d : Die) : (s.acked d m).pwr = s.pwr := (s.acked_onlyIn d m) .pwr (by decide)

theorem State.acked_cellsOk (d : Die) (n : Nat) (b : Bool) : (s.acked d m).cellsOk n b = s.cellsOk n b := by
  rw [State.cellsOk, State.freeCells, State.floor, State.acked_fld, State.acked_fld]
  rfl

theorem dnFetched_acked (p : Nat) : dnFetched (s.acked .f m) m p = dnFetched s m p := by rw [dnFetched, State.acked_ends, dnFetched]

theorem State.passReject_ends (d : Die) (typ : Nat) : (s.passReject d typ m).ends = s.ends :=
  (State.passReject_within s d typ m (Within.refl [.regs, .free, .pass, .host] s) rfl).only .ends (by decide)

/-- The state after a frame of a host has joined an Ethernet port's queue. -/
def State.joined (q p : Nat) : State := (s.roomed (frameCells (passFrame m).length)).qAppend q (dnFrame s m p).checked

/-- A frame that is sent as posted to port 2 is offered to the port's queue of its priority. -/
theorem State.hostGo_direct {w : Word} (y : Pkt) (hd : bitAt w 20 = true) (he : bitsAt w 21 6 = 50) : s.hostGo w y =
    (s.newId.2.offer (qEth 2 y.prio) { y.frame s.newId.1 y.dg with direct := true }).1 := by
  rw [State.hostGo, if_pos hd, he]
  simp only [show (50 - 48 = 1) = False by simp, decide_false, Bool.and_false, Bool.false_eq_true, if_false, Bool.false_and]
  rfl

variable {s m} {p : Nat}

theorem dnFrame_cells : (dnFrame s m p).cells = frameCells (passFrame m).length := by
  rw [Frame.cells, dnFrame, List.length_map, State.picked, pickCells_length]

/-- A frame for port 2 that meets nothing in its way joins the port's queue of its priority. -/
theorem State.hostTake_joined (hn : frameCells (passFrame m).length ≤ s.freeCells) (hd : bitAt (wordAt m.payload 0) 20 = true)
    (he : bitsAt (wordAt m.payload 0) 21 6 = 50) (hi : s.flag (R.SHP_ING (4 + p)) F.SHP_ING_EN = false)
    (hm : (s.queue (qEth 2 (bitsAt (wordAt m.payload 0) 13 3))).mismatch = false)
    (hr : s.queueRefuses (qEth 2 (bitsAt (wordAt m.payload 0) 13 3)) (frameCells (passFrame m).length) (bitAt (wordAt m.payload 0) 18) = none)
    (ht : ∀ k < 8, s.flag (R.QMG_TAP k) F.QMG_TAP_EN = false) (hl : s.fld R.QMG_THRESH F.QMG_THRESH_SPILL_LOW = 0) :
    s.hostTake m.payload (passFrame m) p (dnFetched s m p) = s.joined m (qEth 2 (bitsAt (wordAt m.payload 0) 13 3)) p := by
  have hing : R.SHP_ING (4 + p) ≠ R.QMG_FREE := by unfold R.SHP_ING R.QMG_FREE; omega
  have htap : ∀ k, R.QMG_TAP k ≠ R.QMG_FREE := fun k => by unfold R.QMG_TAP R.QMG_FREE; omega
  rw [State.hostTake]
  simp only [State.takeChain_took hn hl]
  rw [State.policed_off ((s.took_flag _ _ hing).trans hi), State.hostGo_direct _ _ hd he]
  refine State.offer_admitted (s := s.roomed (frameCells (passFrame m).length)) (f := dnFrame s m p) hm ?_ (fun k hk => ?_) ?_
  · rw [dnFrame_cells, State.queueRefuses_eq (s := s) (s.roomed_queue _ _) (fun k => s.roomed_rd _)]
    exact hr
  · rw [s.roomed_flag _ _ (htap k), ht k hk]
  · rw [State.fld, s.roomed_rd _ (by decide)]
    exact hl

theorem State.joined_queue (q : Nat) (h : (s.queue q).frames = []) :
    ((s.joined m q p).queue q).frames = [{ (dnFrame s m p).checked with enq := s.now }] := by
  rw [State.joined, State.qAppend, State.queue_setQueue]
  change (s.queue q).frames ++ _ = _
  rw [h]
  rfl

theorem dnFrame_onDie : (dnFrame s m p).onDie = s.picked (frameCells (passFrame m).length) := by
  simp [Frame.onDie, dnFrame, List.filterMap_map]

theorem State.joined_freeCells (q : Nat) : (s.joined m q p).freeCells = (65536 - (s.joined m q p).qmg.used.length) % 2 ^ 17 :=
  s.took_freeCells _

/-- The cells of the frame were free, and are in use. -/
theorem State.joined_cells (q : Nat) (hs : s.qmg.used.Pairwise (· < ·)) {c : Nat} (hc : c ∈ s.picked (frameCells (passFrame m).length)) :
    c ∉ s.qmg.used ∧ c ∈ (s.joined m q p).qmg.used :=
  ⟨(pickCells_free hs (fun _ _ => Nat.zero_le _) hc).2, mem_cellsInserted.2 (Or.inl hc)⟩

end

section
variable {s : State} {m : PassMsg}

section
variable (ha : Accepted s .f 0x02 m)
include ha

/-- In Hush a frame waits in front of its pipeline. -/
theorem exec_frameDn_hush (h : s.pwr.hush = true) (faults : Fin 5) : exec (.frameDn m faults) s = .next { s.acked .f m with
    qmg := { (s.acked .f m).qmg with frozen := (s.acked .f m).qmg.frozen ++ [(m, faults.val)] } } := by
  rw [exec_frameDn_arm, execFrameDn, State.passRx_accepted _ _ _ _ _ _ ha, if_pos (by rw [State.acked_pwr, h])]

variable (hp : s.fld R.SAFE_HEALTH F.SAFE_HEALTH_PIPE_OK ≠ 0) (hh : s.pwr.hush = false)
include hp hh

/-- Without a fault a frame goes through its pipeline. -/
theorem exec_frameDn : exec (.frameDn m 0) s = .next (
    let i := bitsAt (wordAt m.payload 2) 20 6
    if 52 ≤ i && i < 56 then (s.acked .f m).hostDn m.payload (passFrame m) (i - 52)
    else if 48 ≤ i && i < 52 then (s.acked .f m).ethDn m.payload (passFrame m) (i - 48)
    else s.acked .f m) := by
  rw [exec_frameDn_arm, execFrameDn, State.passRx_accepted _ _ _ _ _ _ ha, if_neg (by rw [State.acked_pwr, hh]; decide), State.frameDn]
  exact congrArg Host.Outcome.next (State.onPipe_zero (by rw [State.acked_fld]; exact hp))

theorem exec_frameDn_nowhere (hi : bitsAt (wordAt m.payload 2) 20 6 < 48) : exec (.frameDn m 0) s = .next (s.acked .f m) := by
  rw [exec_frameDn ha hp hh]
  dsimp only
  rw [if_neg (by simp; omega), if_neg (by simp; omega)]

variable {p : Part} (hi : bitsAt (wordAt m.payload 2) 20 6 = 52 + p.val)
include hi

theorem exec_frameDn_host : exec (.frameDn m 0) s = .next ((s.acked .f m).hostDn m.payload (passFrame m) p) := by
  have := p.2
  rw [exec_frameDn ha hp hh]
  dsimp only
  rw [hi, if_pos (by simp; omega), Nat.add_sub_cancel_left]

theorem exec_frameDn_floor (hc : s.cellsOk (frameCells (passFrame m).length) (bitsAt (wordAt m.payload 0) 16 2 == 0) = false) :
    exec (.frameDn m 0) s = .next ((((s.acked .f m).bump R.QMG_CNT_HOSTFLOOR).txDone (dnFetched s m p) stINSERT_FULL 0 0 63 false 7 2).creditBack
      p (frameCells (passFrame m).length)) := by
  rw [exec_frameDn_host ha hp hh hi, State.hostDn, ← dnFetched_acked, if_pos (by rw [State.acked_cellsOk, hc]; rfl)]
  rfl

theorem exec_frameDn_room (hc : s.cellsOk (frameCells (passFrame m).length) (bitsAt (wordAt m.payload 0) 16 2 == 0) = true) :
    exec (.frameDn m 0) s = .next (((s.acked .f m).hostTake m.payload (passFrame m) p (dnFetched (s.acked .f m) m p)).creditBack
      p (frameCells (passFrame m).length)) := by
  rw [exec_frameDn_host ha hp hh hi, State.hostDn, if_neg (by rw [State.acked_cellsOk, hc]; decide)]
  rfl

theorem frameDnJoins (hc : s.cellsOk (frameCells (passFrame m).length) (bitsAt (wordAt m.payload 0) 16 2 == 0) = true)
    (hd : bitAt (wordAt m.payload 0) 20 = true) (he : bitsAt (wordAt m.payload 0) 21 6 = 50)
    (hing : s.flag (R.SHP_ING (4 + p)) F.SHP_ING_EN = false) (hm : (s.queue (qEth 2 (bitsAt (wordAt m.payload 0) 13 3))).mismatch = false)
    (hf : (s.queue (qEth 2 (bitsAt (wordAt m.payload 0) 13 3))).frames = [])
    (hr : s.queueRefuses (qEth 2 (bitsAt (wordAt m.payload 0) 13 3)) (frameCells (passFrame m).length) (bitAt (wordAt m.payload 0) 18) = none)
    (ht : ∀ k : Fin 8, s.flag (R.QMG_TAP k) F.QMG_TAP_EN = false) (hl : s.fld R.QMG_THRESH F.QMG_THRESH_SPILL_LOW = 0) :
    let q := qEth 2 (bitsAt (wordAt m.payload 0) 13 3)
    Does (.frameDn m 0) s (fun t =>
      (t.queue q).frames.map (fun g => (g.bytes, g.origin, g.direct, g.cells)) =
        [(passFrame m, .host (dnFetched s m p), true, frameCells (passFrame m).length)] ∧
      (s.qmg.used.Pairwise (· < ·) → ∀ g ∈ (t.queue q).frames, ∀ c ∈ g.onDie, c ∉ s.qmg.used ∧ c ∈ t.qmg.used) ∧
      t.freeCells = (65536 - t.qmg.used.length) % 2 ^ 17 ∧ t.sent .f = some (1, p.val, [w32 (frameCells (passFrame m).length), 0])) := by
  intro q
  have hq : ∀ r, (s.acked .f m).queue r = s.queue r := fun r => State.queue_of_qmg (s.acked_qmg m .f) r
  have hn : frameCells (passFrame m).length ≤ (s.acked .f m).freeCells := by
    simp only [State.cellsOk, Bool.and_eq_true, decide_eq_true_eq] at hc
    exact hc.1.trans (s.acked_fld .f m _ _).ge
  have hj := State.hostTake_joined (s := s.acked .f m) (p := p) hn hd he (by rw [State.acked_flag, hing]) (by rw [hq, hm])
    ((State.queueRefuses_eq (hq _) (fun k _ => s.acked_rd .f m k) _ _).trans hr)
    (fun k hk => (s.acked_flag .f m _ _).trans (ht ⟨k, hk⟩)) (by rw [State.acked_fld, hl])
  refine .of_next (exec_frameDn_room ha hp hh hi hc) ?_
  rw [hj]
  have hframes : (((s.acked .f m).joined m q p).creditBack p (frameCells (passFrame m).length)).queue q = ((s.acked .f m).joined m q p).queue q := rfl
  rw [hframes, State.joined_queue q (by rw [hq]; exact hf), ← dnFetched_acked]
  refine ⟨?_, fun hs g hg c hgc => ?_, State.joined_freeCells q, State.passSend_sent ..⟩
  · exact congrArg (fun n => [(passFrame m, Origin.host (dnFetched (s.acked .f m) m p), true, n)]) (dnFrame_cells (p := p))
  · rw [List.mem_singleton.1 hg] at hgc
    rw [← State.acked_qmg s m .f] at hs ⊢
    exact State.joined_cells q hs ((dnFrame_onDie (s := s.acked .f m) (p := p)) ▸ hgc)

end

/-- A malformed frame of a TX ring completes and its credit returns. -/
theorem exec_frameDn_malformed {p : Part} (hu : s.passUp = true) (hc : m.crc = passCrc 0x02 m) (hs : m.seq = (s.rxDir .f).rx)
    (hm : passMalformed 0x02 m = true) (hi : bitsAt (wordAt m.payload 2) 20 6 = 52 + p.val) : exec (.frameDn m 0) s =
      .next ((((s.acked .f m).passReject .f 0x02 m).txDone (dnFetched s m p) stPASS_REJECT 0 0 63 false 0 0).creditBack
        p (frameCells (m.len - 32))) := by
  have := p.2
  have hf : dnFetched ((s.acked .f m).passReject .f 0x02 m) m p = dnFetched s m p := by
    rw [← dnFetched_acked s, dnFetched, State.passReject_ends, dnFetched]
  rw [exec_frameDn_arm, execFrameDn, State.passRx_malformed _ _ _ _ _ _ hu hc hs hm, State.frameDnRejected]
  dsimp only
  rw [hi, if_pos (by simp; omega), Nat.add_sub_cancel_left, ← hf]
  rfl

/-! ### FRAME_UP (R319, R320) -/

theorem markHeads_length (now : Nat) (seen : List (Nat × Nat)) (l : List EthTx) : (markHeads now seen l).length = l.length := by
  induction l generalizing seen with
  | nil => rfl
  | cons t r ih =>
    unfold markHeads
    split <;> simp [ih]

/-- A frame that no host posted is only counted. -/
theorem State.ethRefuse_chip {src : Option Fetched} (h : src = none) (k status cause : Nat) : s.ethRefuse k src status cause = s.bump k := by
  rw [h]
  rfl

section
variable {e : Nat} {x : UpSide} {tsReq : Bool} {tsId : Nat} {bs : List Byte} (hd : x.direct = true)
include hd

/-- A frame sent as posted is too long for its port. -/
theorem State.ethUp_long (h : s.maxLen e < bs.length + 4) :
    s.ethUp e x tsReq tsId bs = s.ethRefuse (R.ETH_CNT_TOOBIG e) x.src stBAD_PARAM 23 := by
  simp [State.ethUp, hd, h]

/-- A frame sent as posted to a port that knows no PRP joins its FIFO. -/
theorem State.ethUp_put (he : 2 ≤ e) (h : bs.length + 4 ≤ s.maxLen e) : s.ethUp e x tsReq tsId bs =
    s.ethPut ⟨e, x.prio, ethPad bs, tsReq && x.src.any (fun f => f.part = 0 || f.part = s.fld R.PTP_CFG F.PTP_CFG_PTP_PART), tsId, x.src,
      false, 0⟩ := by
  simp [State.ethUp, hd, Nat.not_lt.2 h, Nat.not_lt.2 he]

end

section
variable (ha : Accepted s .h 0x03 m)
include ha

/-- A frame that goes up to a partition is held for its ring. -/
theorem frameUpHeld (h52 : 52 ≤ bitsAt (wordAt m.payload 0) 0 6) (h56 : bitsAt (wordAt m.payload 0) 0 6 < 56) : Does (.frameUp m) s (fun t =>
    t.host = { s.host with held := s.host.held ++ [⟨bitsAt (wordAt m.payload 0) 0 6 - 52, bitsAt (wordAt m.payload 0) 6 4, m.payload.take 8,
      passFrame m, ((s.acked .h m).takeSide m.seq.toNat).1.src⟩] } ∧ t.regs = s.regs) := by
  refine .of_next ((exec_frameUp_arm s m).trans (congrArg Host.Outcome.next (State.passRx_accepted _ _ _ _ _ _ ha))) ?_
  dsimp only
  rw [if_neg (by simp; omega), if_pos (by simp; omega)]
  exact ⟨rfl, rfl⟩

/-- A frame that goes up to port 2. -/
theorem exec_frameUp_port (h : bitsAt (wordAt m.payload 0) 0 6 = 50) : exec (.frameUp m) s =
    .next (((s.acked .h m).takeSide m.seq.toNat).2.ethUp 2 ((s.acked .h m).takeSide m.seq.toNat).1 (bitAt (wordAt m.payload 0) 10)
      (bitsAt (wordAt m.payload 0) 11 16) (passFrame m)) := by
  refine (exec_frameUp_arm s m).trans (congrArg Host.Outcome.next ((State.passRx_accepted _ _ _ _ _ _ ha).trans ?_))
  dsimp only
  rw [h, if_pos (by decide)]

variable (h : bitsAt (wordAt m.payload 0) 0 6 = 50) (hd : ((s.acked .h m).takeSide m.seq.toNat).1.direct = true)
include h hd

theorem frameUpQueued (hl : (passFrame m).length + 4 ≤ s.maxLen 2) : let x := (s.acked .h m).takeSide m.seq.toNat
    Does (.frameUp m) s (fun t => t.eth.tx = markHeads s.portTime [] (s.eth.tx ++ [⟨2, x.1.prio, ethPad (passFrame m),
        bitAt (wordAt m.payload 0) 10 && x.1.src.any (fun f => f.part = 0 || f.part = s.fld R.PTP_CFG F.PTP_CFG_PTP_PART),
        bitsAt (wordAt m.payload 0) 11 16, x.1.src, false, 0⟩]) ∧
      (markHeads s.portTime [] t.eth.tx).length = s.eth.tx.length + 1 ∧ t.regs = s.regs) := by
  intro x
  refine .of_next (exec_frameUp_port ha h) ?_
  rw [State.ethUp_put (s := ((s.acked .h m).takeSide m.seq.toNat).2) hd (le_refl 2) hl]
  refine ⟨rfl, ?_, rfl⟩
  rw [markHeads_length, State.ethPut, State.setTx]
  simp only [markHeads_length, List.length_append, List.length_singleton]
  rfl

theorem frameUpRefused (hs : ((s.acked .h m).takeSide m.seq.toNat).1.src = none) (hl : s.maxLen 2 < (passFrame m).length + 4) :
    Does (.frameUp m) s (fun t => t.eth.tx = s.eth.tx ∧ t.rd (R.ETH_CNT_TOOBIG 2) = satInc (s.rd (R.ETH_CNT_TOOBIG 2)) ∧
      t.regsBut s [R.ETH_CNT_TOOBIG 2]) := by
  refine .of_next (exec_frameUp_port ha h) ?_
  rw [State.ethUp_long (s := ((s.acked .h m).takeSide m.seq.toNat).2) hd hl, State.ethRefuse_chip hs]
  exact ⟨rfl, State.rd_bump _ _, State.wr_regsBut _ _ (by simp)⟩

end

end

/-- Settles O35: what a FRAME_DN does turns on Hush, on its source and on the room for its cells; a FRAME_UP is held, or joins its port. -/
theorem hostAndUplinkFrames : Obligations.HostAndUplinkFrames := by
  unfold Obligations.HostAndUplinkFrames
  constructor
  · intro s m p
    exact ⟨fun ha hf hi hc => exec_frameDn_floor ha hf.1 hf.2 hi hc,
      fun ha hf hi hc hd he hing hm hq hr ht hl => frameDnJoins ha hf.1 hf.2 hi hc hd he hing hm hq hr ht hl,
      exec_frameDn_malformed, exec_frameDn_hush, fun ha hf hi => exec_frameDn_nowhere ha hf.1 hf.2 hi⟩
  · intro s m
    exact ⟨frameUpHeld, frameUpQueued, frameUpRefused⟩

end Sys2Proof.Machine
end

section
/-! O8: what the messages do. An accepted message is acted on in the state that acknowledges it, which differs from the one before in the link
alone. A register message goes to one register of the map; what it may not write, it leaves, and the Ledger record of the violation touches no
register below the Caravan block. -/

set_option Elab.async false

namespace Sys2Proof.Machine

/-! ### The arms of `exec` -/

section
variable (s : State) (d : Die) (m : PassMsg)

theorem exec_compl_arm : exec (.compl m) s = execCompl m s := rfl
theorem exec_event_arm : exec (.event m) s = execEvent m s := rfl
theorem exec_regRsp_arm : exec (.regRsp d m) s = execRegRsp d m s := rfl
theorem exec_timeSync_arm : exec (.timeSync m) s = execTimeSync m s := rfl
theorem exec_safeAssert_arm : exec (.safeAssert d m) s = execSafeAssert d m s := rfl
theorem exec_bootLoad_arm : exec (.bootLoad m) s = execBootLoad m s := rfl
theorem exec_credit_arm : exec (.credit d m) s = execCredit d m s := rfl
theorem exec_health_arm : exec (.health d m) s = execHealth d m s := rfl
theorem exec_resetReq_arm : exec (.resetReq d m) s = execResetReq d m s := rfl
theorem exec_desc_arm : exec (.desc m) s = execDesc m s := rfl
theorem exec_tsReport_arm : exec (.tsReport m) s = execTsReport m s := rfl
theorem exec_regRd_arm : exec (.regRd d m) s = execRegRd d m s := rfl
theorem exec_regWr_arm : exec (.regWr d m) s = execRegWr d m s := rfl

end

/-! ### Messages to the H-die -/

section
variable {s : State} {m : PassMsg}

theorem exec_compl (h : Accepted s .h 0x05 m) : exec (.compl m) s = .next ((s.acked .h m).cplDeliver (m.part % 4) m.payload) :=
  (exec_compl_arm s m).trans (congrArg Host.Outcome.next (State.passRx_accepted _ _ _ _ _ _ h))

theorem exec_event (h : Accepted s .h 0x06 m) : exec (.event m) s = .next ((s.acked .h m).evtRoute m.payload) :=
  (exec_event_arm s m).trans (congrArg Host.Outcome.next (State.passRx_accepted _ _ _ _ _ _ h))

/-- The access that waits for a tag has the word of the answer, and no longer waits. -/
theorem State.rspTake_waiting (s : State) {p tag : Nat} (w : Word) (h : aget 0 p s.host.readTag = tag + 1) :
    (s.rspTake p tag w).reads p = w ∧ aget 0 p (s.rspTake p tag w).host.readTag = 0 := by
  rw [State.rspTake, if_pos h]
  exact ⟨State.answer_readData .., aget_aset_same 0 0 p s.host.readTag⟩

theorem regRspAnswers (h : Accepted s .h 0x09 m) (ht : aget 0 (m.part % 4) s.host.readTag = (wordAt m.payload 0).toNat + 1) :
    Does (.regRsp .h m) s (fun t => t.reads (m.part % 4) = wordAt m.payload 1 ∧ aget 0 (m.part % 4) t.host.readTag = 0) :=
  .of_next ((exec_regRsp_arm s .h m).trans (congrArg Host.Outcome.next (State.passRx_accepted _ _ _ _ _ _ h)))
    (State.rspTake_waiting _ _ ht)

/-- The H-die's copy of city time follows the F-die's from a value on. -/
theorem State.hCityNs_follows (s : State) (v : Nat) :
    { s with pass := { s.pass with hFollow := true, hOff := (v : Int) - s.cityNs } }.hCityNs = v := by
  change ((s.cityNs : Int) + (v - s.cityNs)).toNat = v
  rw [add_sub_cancel, Int.toNat_natCast]

theorem timeSyncSets (h : Accepted s .h 0x0A m) : Does (.timeSync m) s (fun t =>
    t.hCityNs = (wordAt m.payload 0).toNat * 1000000000 + (wordAt m.payload 1).toNat + 180 ∧ t.now = max s.now (s.pass.syncAt + 46)) := by
  exact .of_next ((exec_timeSync_arm s m).trans (congrArg Host.Outcome.next (State.passRx_accepted _ _ _ _ _ _ h)))
    ⟨State.hCityNs_follows ((s.acked .h m).advanceTo (s.pass.syncAt + 46)) _, State.advanceTo_now ..⟩

theorem safeAssertDrives (h : Accepted s .h 0x0D m) : Does (.safeAssert .h m) s (fun t =>
    t.fld R.SAFE_STATE F.SAFE_STATE_DRIVE_H = 1 ∧ t.safe.hQuiet = true) :=
  .of_next ((exec_safeAssert_arm s .h m).trans (congrArg Host.Outcome.next (State.passRx_accepted _ _ _ _ _ _ h)))
    ⟨State.fld_setFld _ R.SAFE_STATE F.SAFE_STATE_DRIVE_H 1 (by decide), rfl⟩

theorem bootLoadCounts (h : Accepted s .h 0x0E m) : Does (.bootLoad m) s (fun t =>
    t.host.bootBytes = s.host.bootBytes + m.len ∧
    t.host.microcode = (s.host.microcode || decide (s.host.microLen ≤ s.host.bootBytes + m.len))) :=
  .of_next ((exec_bootLoad_arm s m).trans (congrArg Host.Outcome.next (State.passRx_accepted _ _ _ _ _ _ h))) ⟨rfl, rfl⟩

theorem creditReturns (h : Accepted s .h 0x01 m) : Does (.credit .h m) s (fun t =>
    aget 0 (m.part % 4) t.pass.spent = aget 0 (m.part % 4) s.pass.spent - (wordAt m.payload 0).toNat) :=
  .of_next ((exec_credit_arm s .h m).trans (congrArg Host.Outcome.next (State.passRx_accepted _ _ _ _ _ _ h))) (aget_aset_same ..)

theorem State.rd_bumpBy (s : State) (k n : Nat) : ((s.bumpBy k n).rd k).toNat = min ((s.rd k).toNat + n) (2 ^ 32 - 1) := by
  rw [State.bumpBy, State.rd_wr, satAdd, BitVec.toNat_ofNat]
  omega

theorem healthHeard (h : Accepted s .h 0x0C m) (hf : healthFault m.payload = false) : Does (.health .h m) s (fun t =>
    t.safe.healthH = some s.now ∧ t.pass.fRejectSeen = (wordAt m.payload 2).toNat ∧
    (t.rd R.PASS_REJECT).toNat = min ((s.rd R.PASS_REJECT).toNat + ((wordAt m.payload 2).toNat - s.pass.fRejectSeen)) (2 ^ 32 - 1)) := by
  refine .of_next ((exec_health_arm s .h m).trans (congrArg Host.Outcome.next ((State.passRx_accepted _ _ _ _ _ _ h).trans
    (if_neg (by rw [hf]; decide))))) ?_
  exact ⟨rfl, rfl, State.rd_bumpBy (s.acked .h m) R.PASS_REJECT _⟩

/-! ### RESET_REQ (R309, R331) -/

/-- Whether the H-die has stopped using the F-die, and whether the firmware is ready. -/
def State.uses (s : State) : Bool × Bool := (s.host.stopped, s.host.fwReady)

theorem State.vecTrigger_uses (s : State) (p v : Nat) : (s.vecTrigger p v).uses = s.uses := by
  unfold State.vecTrigger
  split <;> rfl

theorem State.ringSignal_uses (s : State) (p r : Nat) : (s.ringSignal p r).uses = s.uses := by
  unfold State.ringSignal
  split
  · exact State.vecTrigger_uses ..
  · rfl

theorem State.cplOwn_uses (s : State) (p : Nat) (ws : List Word) : (s.cplOwn p ws).uses = s.uses := by
  have hw (u : State) : (u.cplWrite p ws).uses = u.uses := by
    unfold State.cplWrite
    split
    · exact State.ringSignal_uses ..
    · rfl
  unfold State.cplOwn
  split
  · exact hw _
  · rfl

theorem State.flushFetched_uses (s : State) (f : Fetched) : (s.flushFetched f).uses = s.uses := by
  unfold State.flushFetched
  split <;> exact State.cplOwn_uses ..

/-- The completions of what the H-die has fetched leave it stopped. -/
theorem State.hLose_uses (s : State) : s.hLose.uses = (true, false) :=
  State.foldl_kept State.uses State.flushFetched State.flushFetched_uses _ _

theorem State.hLose_now (s : State) : s.hLose.now = s.now :=
  (State.hLose_within s (Within.refl [.regs, .host, .boot, .air, .qmg, .link] s) rfl).only .now (by decide)

theorem resetReqStops (h : Accepted s .h 0x0F m) : Does (.resetReq .h m) s (fun t =>
    t.pass.resetReqAt = some s.now ∧ t.host.stopped = true ∧ t.host.fwReady = false ∧ t.host.readTag = [] ∧
    t.fld R.PASS_STATUS F.PASS_STATUS_F_RESET = 1) := by
  refine .of_next ((exec_resetReq_arm s .h m).trans (congrArg Host.Outcome.next (State.passRx_accepted _ _ _ _ _ _ h))) ?_
  obtain ⟨hs, hr⟩ := Prod.mk.inj (State.hLose_uses (s.acked .h m))
  exact ⟨congrArg some ((State.hLose_now _).trans (s.acked_now .h m)), hs, hr, rfl,
    State.fld_setFld _ R.PASS_STATUS F.PASS_STATUS_F_RESET 1 (by decide)⟩

end

/-! ### Messages to the F-die -/

section
variable {s : State} {m : PassMsg}

theorem exec_health_fault (h : Accepted s .f 0x0C m) (hf : healthFault m.payload = true) : exec (.health .f m) s =
    .next (((({ s.acked .f m with safe := { s.safe with healthF := some s.now, healthGoodSince := none } }).setFld R.SAFE_PEER
      F.SAFE_PEER_PEER_OK 0).quiet 10)) := by
  refine (exec_health_arm s .f m).trans (congrArg Host.Outcome.next ((State.passRx_accepted _ _ _ _ _ _ h).trans ?_))
  simp only [hf, if_true]
  rfl

theorem exec_safeAssert_cause (h : Accepted s .f 0x0D m) (h16 : (wordAt m.payload 0).toNat < 16) (h11 : (wordAt m.payload 0).toNat ≠ 11) :
    exec (.safeAssert .f m) s = .next ((s.acked .f m).quiet (wordAt m.payload 0).toNat) := by
  refine (exec_safeAssert_arm s .f m).trans (congrArg Host.Outcome.next ((State.passRx_accepted _ _ _ _ _ _ h).trans ?_))
  exact if_pos (by simp [h16, h11])

theorem State.cplOpen_cmds (s : State) (c : CmdDesc) : (s.cplOpen c).cmds = s.cmds :=
  (State.cplOpen_within s c (Within.refl [.ends] s) rfl).only .cmds (by decide)

theorem State.cplOpen_regs (s : State) (c : CmdDesc) : (s.cplOpen c).regs = s.regs :=
  (State.cplOpen_within s c (Within.refl [.ends] s) rfl).only .regs (by decide)

/-- A command that nothing ends at once is still to run. -/
theorem State.descTake_runs {c : CmdDesc} (hl : opcodeListed (c.w0.toNat % 256) = true) (hg : opcodeGuarded (c.w0.toNat % 256) = false)
    (hq : s.inQuiet = false) : s.descTake c = { s.cplOpen c with cmds := (s.cplOpen c).cmds ++ [c] } := by
  have hq2 : (s.cplOpen c).inQuiet = false := (congrArg (fget F.SAFE_STATE_QUIET · != 0) (State.rd_of_regs (s.cplOpen_regs c) _)).trans hq
  simp [State.descTake, hl, hg, hq2]

theorem descTaken (h : Accepted s .f 0x04 m) (hl : opcodeListed ((wordAt m.payload 0).toNat % 256) = true)
    (hg : opcodeGuarded ((wordAt m.payload 0).toNat % 256) = false) (hq : s.inQuiet = false) : Does (.desc m) s (fun t =>
      t.cmds = s.cmds ++ [descOf m] ∧ (cmdLoose (descOf m) = false → t.ends.order = s.ends.order ++ [{ cmd := descOf m }])) := by
  have hq2 : (s.acked .f m).inQuiet = false := (s.acked_flag .f m _ _).trans hq
  refine .of_next ((exec_desc_arm s m).trans (congrArg Host.Outcome.next ((State.passRx_accepted _ _ _ _ _ _ h).trans
    (State.descTake_runs (c := descOf m) hl hg hq2)))) ⟨?_, fun hc => ?_⟩
  · exact congrArg (· ++ [descOf m]) ((State.cplOpen_cmds _ _).trans (s.acked_cmds .f m))
  · exact (State.cplOpen_order _ _ hc).trans (by rw [State.acked_ends])

theorem tsReportStored (h : Accepted s .f 0x0B m) (hq : (s.dom ((wordAt m.payload 0).toNat % 2)).delaySeq = (wordAt m.payload 1).toNat) :
    Does (.tsReport m) s (fun t => (t.dom ((wordAt m.payload 0).toNat % 2)).t3 =
      some ((wordAt m.payload 2).toNat * 1000000000 + (wordAt m.payload 3).toNat : Int)) := by
  refine .of_next ((exec_tsReport_arm s m).trans (congrArg Host.Outcome.next ((State.passRx_accepted _ _ _ _ _ _ h).trans (if_pos hq)))) ?_
  exact congrArg PtpDom.t3 (aget_aset_same ..)

end

/-! ### The registers that the messages name (R439 to R442) -/

def ndirAgeRow : RegRow := ⟨0xE014, 1, 4096, 1, 4, false, 0x1FFFF, 0x0, 0x0, 0x0, 0x0, 0x0⟩
def lpmModeRow : RegRow := ⟨0xF004, 1, 4096, 1, 4, false, 0x0, 0x0, 0x0, 0x0, 0x1, 0x2⟩
def bistCtrlRow : RegRow := ⟨0x1E004, 1, 4096, 1, 4, false, 0x0, 0x0, 0x0, 0x0, 0x1, 0x0⟩

theorem rowAt_ndirAge : rowAt R.NDIR_AGE = some ndirAgeRow := by decide +kernel
theorem rowAt_lpmMode : rowAt R.LPM_MODE = some lpmModeRow := by decide +kernel
theorem rowAt_bistCtrl : rowAt R.BIST_CTRL = some bistCtrlRow := by decide +kernel

section
variable (s : State) (p : Nat) (data : Word)

theorem State.regGet_ndirAge : s.regGet p R.NDIR_AGE = s.answer p (s.rd R.NDIR_AGE &&& 0x1FFFF) := by
  rw [State.regGet, rowAt_ndirAge]
  rfl

/-- Partition 0 writes the sweep's period. -/
theorem State.regPut_ndirAge : s.regPut 0 R.NDIR_AGE data = s.wr R.NDIR_AGE (plainWord ndirAgeRow (s.rd R.NDIR_AGE) data) := by
  rw [State.regPut, rowAt_ndirAge]
  rfl

theorem State.regPut_lpmMode : s.regPut p R.LPM_MODE data = s.lpmModeWrite p data := by
  rw [State.regPut, rowAt_lpmMode]
  rfl

/-- Partition 0 writes the maintenance bit under its lock. -/
theorem State.regPut_bistCtrl : s.regPut 0 R.BIST_CTRL data = s.guarded 0 R.BIST_CTRL data (fun s =>
    s.wr R.BIST_CTRL (plainWord bistCtrlRow (s.rd R.BIST_CTRL) data)) := by
  rw [State.regPut, rowAt_bistCtrl]
  rfl

/-- A field that a write may change takes its bits of the data. -/
theorem fget_plainWord {f : Fld} {r : RegRow} (old data : Word) (hw : r.w1c = 0) (hm : fget f (r.rw ||| r.rwl) = 2 ^ f.w - 1)
    (hn : fget f (~~~(r.rw ||| r.rwl)) = 0) : fget f (plainWord r old data) = fget f data := by
  have ho (a b : Word) : fget f (a ||| b) = fget f a ||| fget f b := by simp [fget, Nat.or_div_two_pow, Nat.or_mod_two_pow]
  have hz : ~~~(data &&& r.w1c) = BitVec.allOnes 32 := by rw [hw]; simp
  rw [plainWord, hz, BitVec.and_allOnes, ho, fget_and, hn, Nat.and_zero, Nat.zero_or, fget_mask _ hm]

end

/-! ### A violation leaves the registers below the Caravan block (R386 to R390, R451) -/

/-- Registers below the Caravan block. -/
abbrev LowBlock (k : Nat) : Prop := k < R.CVN_ERR

section
variable {k : Nat} (hk : LowBlock k) (s : State)
include hk

/-- A write above the block. -/
theorem State.rd_wr_low {j : Nat} (hj : R.CVN_ERR ≤ j) (v : Word) : (s.wr j v).rd k = s.rd k :=
  s.rd_wr_ne v (Nat.ne_of_lt (Nat.lt_of_lt_of_le hk hj))

theorem State.rd_ledgerPut_low (code src : Nat) (p0 p1 p2 : Word) : (s.ledgerPut code src p0 p1 p2).1.rd k = s.rd k := by
  have ht : ((s.trail code src p0 p1 p2).wr R.LOG_LNEXT (s.rd R.LOG_LNEXT + 1)).rd k = s.rd k :=
    (State.rd_wr_low hk _ (by decide) _).trans (State.rd_wr_low hk _ (by decide) _)
  have hs (u : State) (r : List Word) : (u.ledgerStore r).1.rd k = u.rd k := by
    unfold State.ledgerStore
    dsimp only
    split <;> exact State.rd_wr_low hk _ (by decide) _
  unfold State.ledgerPut
  dsimp only
  split
  · split
    · exact (State.rd_wr_low hk _ (by decide) _).trans ht
    · exact ht
  · exact (hs _ _).trans ht

theorem State.rd_quietOver_low (c : Nat) : (s.quietOver c).rd k = s.rd k :=
  (State.rd_of_regs (s.quietOver_regs c) k).trans (State.rd_wr_low hk _ (by decide) _)

theorem State.rd_quietReport_low (c : Nat) : (s.quietReport c).1.rd k = s.rd k := by
  unfold State.quietReport
  dsimp only
  rw [State.evtF_rd]
  split
  · exact (State.rd_quietOver_low hk _ _).trans (State.rd_ledgerPut_low hk ..)
  · exact State.rd_ledgerPut_low hk ..

theorem State.rd_quietLatch_low (c : Nat) : (s.quietLatch c).rd k = s.rd k := by
  unfold State.quietLatch
  refine (State.rd_passSend ..).trans ((State.rd_wr_low hk _ (by decide) _).trans ((State.rd_wr_low hk _ (by decide) _).trans ?_))
  split
  · exact State.rd_wr_low hk _ (by decide) _
  · exact (State.rd_wr_low hk _ (by decide) _).trans (State.rd_wr_low hk _ (by decide) _)

/-- The registers of the image sessions lie above the Caravan block, whatever the session's number. -/
theorem State.rd_quietEnds_low : s.quietEnds.rd k = s.rd k := by
  have hc (u : State) (c : Caravan) : (u.cvnEnd c stQUIET false).rd k = u.rd k := by
    unfold State.cvnEnd State.cvnSync
    refine (State.rd_wr_low hk _ (by decide) _).trans ((State.rd_wr_low hk _ (by decide) _).trans
      ((State.rd_wr_low hk _ (by decide) _).trans ?_))
    exact State.foldl_kept (State.rd · k) _ (fun u p => State.rd_cvnAnswer u c stQUIET false p k) _ _
  have hi (u : State) (e : Nat × ImgSess) : (u.imgEnd e.1 e.2 stQUIET).rd k = u.rd k :=
    (State.rd_wr_low hk _ (Nat.le_add_right_of_le (by decide)) _).trans (State.rd_passSend ..)
  exact (State.foldl_kept (State.rd · k) _ hi _ _).trans (State.foldl_kept (State.rd · k) _ hc _ _)

theorem State.rd_ledger_low (code src : Nat) (p0 p1 p2 : Word) : (s.ledger code src p0 p1 p2).rd k = s.rd k := by
  have hq (u : State) : u.quietLedger.rd k = u.rd k := by
    unfold State.quietLedger
    split
    · rfl
    · rw [State.rd_quietEnds_low hk, State.rd_quietReport_low hk, State.rd_quietLatch_low hk]
  have hp := s.rd_ledgerPut_low hk code src p0 p1 p2
  unfold State.ledger
  dsimp only
  split
  · exact (hq _).trans hp
  · split
    · exact hp
    · exact (State.rd_quietOver_low hk _ _).trans hp

theorem State.rd_guardViolation_low (p : Nat) (what : Word) (command : Bool) (data : Word) :
    (s.guardViolation p what command data).rd k = s.rd k := by
  refine (State.rd_ledger_low hk ..).trans ((State.evtF_rd ..).trans (State.rd_wr_low hk _ ?_ _))
  unfold R.CVN_ERR R.SYS_CNT_GUARD
  omega

end

/-! ### Writes under the guard of a message (R21) -/

section
variable (s : State) (p : Nat) (g : Bool) (f : State → State)

/-- The state in which the F-die writes: the lock is what the message's guard says. -/
def State.guardHeld : State :=
  let s0 := s.setFld (R.SYS_LOCK p) F.SYS_LOCK_UNLOCKED (if g then 1 else 0)
  { s0 with host := { s0.host with lockAt := aset 0 p (s.now + 1) s0.host.lockAt } }

theorem sysLock_ne_cntGuard : R.SYS_LOCK p ≠ R.SYS_CNT_GUARD p := by
  unfold R.SYS_LOCK R.SYS_CNT_GUARD
  omega

/-- A partition's copy of a register lies above the map. -/
theorem mapKey_ne_sysLock {k : Nat} (hk : k < 0x20000) : k ≠ R.SYS_LOCK p := by
  unfold R.SYS_LOCK
  omega

theorem mapKey_ne_cntGuard {k : Nat} (hk : k < 0x20000) : k ≠ R.SYS_CNT_GUARD p := by
  unfold R.SYS_CNT_GUARD
  omega

/-- What the F-die has written, with the H-die's own two registers put back. -/
theorem State.withGuard_regs : (s.withGuard p g f).regs =
    (((f (s.guardHeld p g)).wr (R.SYS_LOCK p) (s.rd (R.SYS_LOCK p))).wr (R.SYS_CNT_GUARD p) (s.rd (R.SYS_CNT_GUARD p))).regs := rfl

/-- The H-die's lock is as it was. -/
theorem State.rd_withGuard_lock : (s.withGuard p g f).rd (R.SYS_LOCK p) = s.rd (R.SYS_LOCK p) := by
  rw [State.rd_of_regs (s.withGuard_regs p g f), State.rd_wr_ne _ _ (sysLock_ne_cntGuard p), State.rd_wr]

/-- A register of the map itself is as the write leaves it. -/
theorem State.rd_withGuard {k : Nat} (hk : k < 0x20000) : (s.withGuard p g f).rd k = (f (s.guardHeld p g)).rd k := by
  rw [State.rd_of_regs (s.withGuard_regs p g f), State.rd_wr_ne _ _ (mapKey_ne_cntGuard p hk), State.rd_wr_ne _ _ (mapKey_ne_sysLock p hk)]

theorem State.guardHeld_regs : (s.guardHeld p g).regs = (s.setFld (R.SYS_LOCK p) F.SYS_LOCK_UNLOCKED (if g then 1 else 0)).regs := rfl

theorem State.rd_guardHeld {k : Nat} (hk : k < 0x20000) : (s.guardHeld p g).rd k = s.rd k := by
  rw [State.rd_of_regs (s.guardHeld_regs p g), State.rd_setFld_ne _ _ _ (mapKey_ne_sysLock p hk)]

theorem State.fld_guardHeld : (s.guardHeld p g).fld (R.SYS_LOCK p) F.SYS_LOCK_UNLOCKED = if g then 1 else 0 := by
  rw [State.fld, State.rd_of_regs (s.guardHeld_regs p g)]
  refine (State.fld_setFld s (R.SYS_LOCK p) F.SYS_LOCK_UNLOCKED _ (by decide)).trans ?_
  cases g <;> rfl

/-- Without the guard the lock is armed. -/
theorem State.guardHeld_armed : (s.guardHeld p false).unlocked p = false :=
  State.unlocked_of_flag (by rw [State.flag, State.fld_guardHeld]; rfl)

/-- With the guard it is unlocked, since now. -/
theorem State.guardHeld_unlocked : (s.guardHeld p true).unlocked p = true := by
  have ha : aget 0 p (s.guardHeld p true).host.lockAt = s.now + 1 := aget_aset_same 0 (s.now + 1) p s.host.lockAt
  have hn : (s.guardHeld p true).now = s.now := rfl
  rw [State.unlocked, State.flag, State.fld_guardHeld, ha, hn]
  simp [us]

end

/-! ### REG_RD and REG_WR at the F-die (R14, R20, R21, R447) -/

section
variable {s : State} {m : PassMsg}

section
variable (h : Accepted s .f 0x07 m) (ha : (wordAt m.payload 0).toNat = R.NDIR_AGE)
include h ha

theorem exec_regRd_ndirAge : exec (.regRd .f m) s =
    .next ((s.acked .f m).regRsp (m.part % 4) (wordAt m.payload 1).toNat (s.rd R.NDIR_AGE &&& 0x1FFFF)) := by
  refine (exec_regRd_arm s .f m).trans (congrArg Host.Outcome.next ((State.passRx_accepted _ _ _ _ _ _ h).trans ?_))
  have hr : aget 0 (m.part % 4) ((s.acked .f m).answer (m.part % 4) (s.rd R.NDIR_AGE &&& 0x1FFFF)).host.readData =
    s.rd R.NDIR_AGE &&& 0x1FFFF := State.answer_readData ..
  dsimp only
  rw [ha, show R.NDIR_AGE % 0x20000 = R.NDIR_AGE by decide, if_neg (by decide), State.fRead]
  simp only [State.regGet_ndirAge, State.acked_rd, hr]
  exact if_neg (by simp)

theorem regRdQueued (hp : (s.acked .f m).passClear .f = false) : Does (.regRd .f m) s (fun t =>
    t.sent .f = some (9, m.part % 4, [wordAt m.payload 1, s.rd R.NDIR_AGE &&& 0x1FFFF])) := by
  refine .of_next (exec_regRd_ndirAge h ha) ?_
  rw [State.regRsp_queued _ _ _ hp, State.passSend_sent, BitVec.ofNat_toNat, BitVec.setWidth_eq]

theorem regRdCrosses (hp : (s.acked .f m).passClear .f = true)
    (ht : aget 0 (m.part % 4) s.host.readTag = (wordAt m.payload 1).toNat + 1) : Does (.regRd .f m) s (fun t =>
      t.reads (m.part % 4) = s.rd R.NDIR_AGE &&& 0x1FFFF ∧ aget 0 (m.part % 4) t.host.readTag = 0) := by
  refine .of_next (exec_regRd_ndirAge h ha) ?_
  rw [State.regRsp, if_pos hp]
  exact State.rspTake_waiting _ _ ht

end

section
variable (h : Accepted s .f 0x08 m)
include h

/-- A write of a register of the F-die that is none of the two guarded ones of the H-die. -/
theorem exec_regWr {a : Nat} (ha : (wordAt m.payload 0).toNat = a) (hl : a < 0x20000) (h1 : a ≠ R.PART_MAP) (h2 : a ≠ R.PART_RESET)
    (hb : regAddrBad .f a = false) : exec (.regWr .f m) s =
      .next ((s.acked .f m).withGuard (m.part % 4) m.guard (fun s => s.regPut (m.part % 4) a (wordAt m.payload 1))) := by
  refine (exec_regWr_arm s .f m).trans (congrArg Host.Outcome.next ((State.passRx_accepted _ _ _ _ _ _ h).trans ?_))
  dsimp only
  rw [ha, Nat.mod_eq_of_lt hl, if_neg (by simp [h1, h2]), if_neg (by simp [hb])]

theorem regWrStores (hp : m.part % 4 = 0) (ha : (wordAt m.payload 0).toNat = R.NDIR_AGE) : Does (.regWr .f m) s (fun t =>
    t.fld R.NDIR_AGE F.NDIR_AGE_SWEEP_S = (wordAt m.payload 1).toNat % 2 ^ 17) := by
  refine .of_next (exec_regWr h ha (by decide) (by decide) (by decide) (by decide)) ?_
  rw [State.fld, State.rd_withGuard _ _ _ _ (by decide), hp, State.regPut_ndirAge, State.rd_wr,
    fget_plainWord _ _ rfl (by decide) (by decide)]
  simp [fget]

theorem regWrUnguarded (hg : m.guard = false) (ha : (wordAt m.payload 0).toNat = R.LPM_MODE) : Does (.regWr .f m) s (fun t =>
    t.rd R.LPM_MODE = s.rd R.LPM_MODE ∧ t.rd (R.SYS_LOCK (m.part % 4)) = s.rd (R.SYS_LOCK (m.part % 4))) := by
  refine .of_next (exec_regWr h ha (by decide) (by decide) (by decide) (by decide)) ⟨?_, ?_⟩
  · rw [State.rd_withGuard _ _ _ _ (by decide), State.regPut_lpmMode, State.lpmModeWrite, hg,
      State.guarded_armed _ _ _ _ _ (State.guardHeld_armed _ _), State.rd_guardViolation_low (by decide), State.rd_guardHeld _ _ _ (by decide),
      State.acked_rd]
  · rw [State.rd_withGuard_lock, State.acked_rd]

theorem regWrGuarded (hg : m.guard = true) (hp : m.part % 4 = 0) (ha : (wordAt m.payload 0).toNat = R.BIST_CTRL) :
    Does (.regWr .f m) s (fun t =>
      t.fld R.BIST_CTRL F.BIST_CTRL_MAINT = (wordAt m.payload 1).toNat % 2 ∧ t.rd (R.SYS_LOCK 0) = s.rd (R.SYS_LOCK 0)) := by
  refine .of_next (exec_regWr h ha (by decide) (by decide) (by decide) (by decide)) ?_
  rw [hp]
  refine ⟨?_, ?_⟩
  · rw [State.fld, State.rd_withGuard _ _ _ _ (by decide), State.regPut_bistCtrl, hg,
      State.guarded_unlocked _ _ _ _ _ (State.guardHeld_unlocked _ _), State.rd_wr, fget_plainWord _ _ rfl (by decide) (by decide)]
    simp [fget]
  · rw [State.rd_withGuard_lock, State.acked_rd]

end

end

/-- Settles O8: each accepted message by the one thing it does at its die. -/
theorem messagesDoTheirWork : Obligations.MessagesDoTheirWork := by
  unfold Obligations.MessagesDoTheirWork
  constructor
  · intro s m
    exact ⟨exec_compl, exec_event, regRspAnswers, timeSyncSets, safeAssertDrives, bootLoadCounts, creditReturns, healthHeard, resetReqStops⟩
  · intro s m
    exact ⟨exec_health_fault, exec_safeAssert_cause, descTaken, tsReportStored, regRdQueued, regRdCrosses, regWrStores, regWrUnguarded,
      regWrGuarded⟩

end Sys2Proof.Machine
end

section
/-! O4: the values of the register tables at reset (16_registers.md, R305, R398). -/

set_option Elab.async false

namespace Sys2Proof.Machine

/-- Settles O4: the state at reset is one state, and each of its values is read off it. -/
theorem resetLeavesTheTableValues : Obligations.ResetLeavesTheTableValues := by
  unfold Obligations.ResetLeavesTheTableValues
  decide +kernel

end Sys2Proof.Machine
end

section
/-! O59: an event that its ring cannot take, and the next one that it takes (R327, R328). Either way the event takes its `SEQ`; it leaves the mark
of a loss, or carries it away in the first word of its record. -/

set_option Elab.async false

namespace Sys2Proof.Machine

/-! ### The parts of an event's delivery -/

section
variable (s : State) (p : Nat) (ws : List Word)

/-- The event takes its `SEQ`. -/
def State.evtCounted (s : State) (p : Nat) : State :=
  { s with host := { s.host with evtSeq := aset 0 p ((aget 0 p s.host.evtSeq + 1) % 65536) s.host.evtSeq } }

/-- The mark that the next record carries. -/
def State.evtMarked (s : State) (p lost : Nat) : State := { s with host := { s.host with evtLost := aset 0 p lost s.host.evtLost } }

/-- Its record: source, `PHASE`, `LOST` and `SEQ` in the first word, then the words of the event. -/
def State.evtRecord (s : State) (p : Nat) (ws : List Word) : List Word :=
  [BitVec.ofNat 32 ((wordAt ws 0).toNat % 128 + s.ringPhase p 34 * 2 ^ 7 + aget 0 p s.host.evtLost * 2 ^ 8 + aget 0 p s.host.evtSeq * 2 ^ 16),
    wordAt ws 1, wordAt ws 2, wordAt ws 3, wordAt ws 4, wordAt ws 5, 0, 0]

theorem State.evtMarked_lost (lost : Nat) : aget 0 p (s.evtMarked p lost).host.evtLost = lost := aget_aset_same ..

theorem State.evtCounted_seq : aget 0 p (s.evtCounted p).host.evtSeq = (aget 0 p s.host.evtSeq + 1) % 65536 := aget_aset_same ..

/-- An event that finds no room is dropped. -/
theorem State.evtWrite_dropped (h : s.ringRoom p 34 = false) :
    s.evtWrite p ws = ((s.evtCounted p).bump (R.EVT_CNT_DROP p)).evtMarked p 1 := if_neg (by rw [h]; decide)

/-- One that finds room is written, and triggers the vector of its source. -/
theorem State.evtWrite_taken (h : s.ringRoom p 34 = true) : s.evtWrite p ws =
    (((s.evtCounted p).ringPut p 34 (s.evtRecord p ws)).evtMarked p 0).vecTrigger p
      (aget 0 (routeKey p ((wordAt ws 0).toNat % 128)) s.host.route / 2 % 32) := if_pos h

theorem State.vecTrigger_mem (v : Nat) : (s.vecTrigger p v).host.mem = s.host.mem := by
  unfold State.vecTrigger
  split <;> rfl

theorem State.vecTrigger_evtSeq (v : Nat) : (s.vecTrigger p v).host.evtSeq = s.host.evtSeq := by
  unfold State.vecTrigger
  split <;> rfl

theorem State.vecTrigger_evtLost (v : Nat) : (s.vecTrigger p v).host.evtLost = s.host.evtLost := by
  unfold State.vecTrigger
  split <;> rfl

variable {s p}

theorem State.ringRoom_full {r : Nat} (h : s.ringSize p r = 0 ∨ 2 ^ s.ringSize p r - 1 ≤ occupancy (s.ringChip p r) (s.ringHost p r)) :
    s.ringRoom p r = false := by
  rcases h with h | h
  · simp [State.ringRoom, h]
  · simp [State.ringRoom, Nat.not_lt.mpr h]

/-- No field of the first word reaches into another. -/
theorem State.evtRecord_fields (hl : aget 0 p s.host.evtLost < 2) (hs : aget 0 p s.host.evtSeq < 65536) :
    bitsAt (wordAt (s.evtRecord p ws) 0) 8 1 = aget 0 p s.host.evtLost ∧
      bitsAt (wordAt (s.evtRecord p ws) 0) 16 16 = aget 0 p s.host.evtSeq := by
  have hp : s.ringPhase p 34 < 2 := Nat.mod_lt _ (by decide)
  simp only [bitsAt, State.evtRecord, wordAt, List.getD_cons_zero, BitVec.toNat_ofNat]
  omega

/-- The first word of a written record stands in the slot of the chip's index. -/
theorem State.memWord_evtWrite (h : s.ringRoom p 34 = true) :
    (s.evtWrite p ws).memWord p (s.ringSlot p 34 (s.ringChip p 34)) = wordAt (s.evtRecord p ws) 0 := by
  have hm : (s.evtWrite p ws).host.mem = ((s.evtCounted p).ringPut p 34 (s.evtRecord p ws)).host.mem := by
    rw [State.evtWrite_taken s p ws h, State.vecTrigger_mem]
    rfl
  have hw := State.memWord_ringPut (s.evtCounted p) p 34 (s.evtRecord p ws) 0 (Nat.succ_pos 7) (by norm_num [State.evtRecord])
  rw [Nat.mul_zero, Nat.add_zero] at hw
  exact (State.memWord_of_mem hm _ _).trans hw

end

/-! ### The obligation -/

/-- Settles O59: whether the ring has room decides between the drop and the record, whose first word takes the mark and the `SEQ`. -/
theorem droppedEventsAreCounted : Obligations.DroppedEventsAreCounted := by
  unfold Obligations.DroppedEventsAreCounted
  intro s p ws
  dsimp only
  constructor
  · intro hfull
    rw [State.evtWrite_dropped s p ws (State.ringRoom_full hfull)]
    exact ⟨rfl, State.rd_bump .., State.evtMarked_lost .., s.evtCounted_seq p, fun k hk => State.rd_bump_ne _ (List.ne_of_not_mem_cons hk)⟩
  · intro hroom hl hs
    obtain ⟨hlost, hseq⟩ := State.evtRecord_fields ws hl hs
    rw [State.memWord_evtWrite ws hroom, State.evtWrite_taken s p ws hroom, State.vecTrigger_evtSeq, State.vecTrigger_evtLost]
    exact ⟨hlost, hseq, State.evtMarked_lost .., s.evtCounted_seq p⟩

end Sys2Proof.Machine
end

section
/-! O11: frames that an RX ring takes (R312, R319, R333). A write-back writes the host's memory, triggers vectors and moves its own ring's index
on, and leaves what a completion ring depends on; the sender's descriptor then completes as one that the H-die completes itself. -/

set_option Elab.async false

namespace Sys2Proof.Machine

/-! ### The arms of `exec` -/

theorem exec_rxWriteback_arm (s : State) (p : Part) (r : Fin 16) (dma : Dma) : exec (.rxWriteback p r dma) s = execRxWriteback p r dma s := rfl

/-! ### What a write-back leaves -/

section
variable (s : State) (p r : Nat)

/-- The lists of the host's side that no write-back changes. -/
def State.rxLists (s : State) : List HeldFrame × List Fetched × List (Nat × List Word) × List (Nat × Nat) :=
  (s.host.held, s.host.fetched, s.host.cplWait, s.host.written)

theorem State.vecTrigger_lists (v : Nat) : (s.vecTrigger p v).rxLists = s.rxLists := by
  unfold State.vecTrigger
  split <;> rfl

theorem State.ringSignal_lists : (s.ringSignal p r).rxLists = s.rxLists := by
  unfold State.ringSignal
  split
  · exact s.vecTrigger_lists p _
  · rfl

variable (meta_ : List Word)

theorem State.rxBack_lists (part_ : List Byte) (i : Nat) (skip more : Bool) : (s.rxBack p r meta_ part_ i skip more).rxLists = s.rxLists := by
  have hm (u : State) (a : Nat) (bs : List Byte) : ((u.memWrite p a bs).ringNext p r).rxLists = u.rxLists := rfl
  unfold State.rxBack
  dsimp only
  rw [State.ringSignal_lists, hm]
  split <;> rfl

theorem State.rd_rxBack {k : Nat} (hk : k ≠ R.RING_STATE r p) (part_ : List Byte) (i : Nat) (skip more : Bool) :
    (s.rxBack p r meta_ part_ i skip more).rd k = s.rd k := by
  unfold State.rxBack
  dsimp only
  rw [State.rd_of_regs (State.ringSignal_only _ p r).1 k, State.rd_ringNext _ p r hk, State.rd_memWrite]
  split <;> rfl

theorem State.rxWrite_lists (plan : List (Nat × Nat × Bool)) (bs : List Byte) : (s.rxWrite p r meta_ plan bs).rxLists = s.rxLists := by
  induction plan generalizing s bs with
  | nil => rfl
  | cons e plan ih => exact (ih _ _).trans (s.rxBack_lists ..)

theorem State.rd_rxWrite {k : Nat} (hk : k ≠ R.RING_STATE r p) (plan : List (Nat × Nat × Bool)) (bs : List Byte) :
    (s.rxWrite p r meta_ plan bs).rd k = s.rd k := by
  induction plan generalizing s bs with
  | nil => rfl
  | cons e plan ih => exact (ih _ _).trans (s.rd_rxBack p r meta_ hk ..)

/-- The completion of a descriptor leaves the frames that are held. -/
theorem State.cplEnd_held (ws : List Word) : (s.cplEnd p ws).host.held = s.host.held := by
  have hw (u : State) : (u.cplWrite p ws).host.held = u.host.held := by
    unfold State.cplWrite
    split
    · exact congrArg Prod.fst (State.ringSignal_lists _ p 33)
    · rfl
  exact hw _

/-- So does an event. -/
theorem State.evtWrite_held (ws : List Word) : (s.evtWrite p ws).host.held = s.host.held := by
  cases h : s.ringRoom p 34
  · rw [s.evtWrite_dropped p ws h]
    rfl
  · rw [s.evtWrite_taken p ws h]
    exact congrArg Prod.fst (State.vecTrigger_lists _ p _)

theorem State.evtH_held (src mask : Nat) (p0 p1 p2 : Word) : (s.evtH src mask p0 p1 p2).host.held = s.host.held := by
  refine State.foldl_kept (fun u : State => u.host.held) _ (fun u q => ?_) _ _
  unfold State.evtDeliver
  split
  · exact u.evtWrite_held q _
  · rfl

theorem State.ringErr_held (f : Fld) (raise : Bool) (idx : Nat) : (s.ringErr p r f raise idx).host.held = s.host.held := by
  unfold State.ringErr
  dsimp only
  split
  · exact State.evtH_held ..
  · rfl

end

/-- A ring that an error disables. -/
theorem State.ringSize_ringErr_off {s : State} {p r : Nat} (hr : r < 35) (f : Fld) (raise : Bool) (idx : Nat) :
    ((s.setFld (R.RING_CFG r p) F.RING_CFG_SIZE 0).ringErr p r f raise idx).ringSize p r = 0 := by
  have hz : ((s.setFld (R.RING_CFG r p) F.RING_CFG_SIZE 0).ringErr p r f raise idx).fld (R.RING_CFG r p) F.RING_CFG_SIZE = 0 := by
    rw [State.fld, State.ringCfg_ringErr p r _ _ _ _ r hr]
    exact State.fld_setFld _ _ _ _ (by decide)
  rw [State.ringSize, hz, ite_self]

/-! ### A frame that its ring takes -/

section
variable (s : State) (p : Nat) (r : Fin 16) (f : HeldFrame) (plan : List (Nat × Nat × Bool))

/-- The frame is written into its descriptors, and leaves the H-die. -/
def State.rxTaken : State :=
  let u : State := { s with
    host := { s.host with held := s.host.held.erase f }
    qmg := { s.qmg with aside := s.qmg.aside.erase (p, r.val, f.bytes.length) } }
  u.rxWrite p (16 + r.val) f.meta_ plan f.bytes

theorem State.rxTaken_lists :
    (s.rxTaken p r f plan).rxLists = (s.host.held.erase f, s.host.fetched, s.host.cplWait, s.host.written) := State.rxWrite_lists ..

/-- With the frame, the descriptor of a partition that sent it completes OK. -/
def State.rxDone : State :=
  match f.src with
  | none => s.rxTaken p r f plan
  | some d => (s.rxTaken p r f plan).txDoneH d stOK 0 0

/-- A completion ring is none of the RX rings. -/
theorem cplKey_ne_rxState {q k : Nat} (hk : CplKey q k) : k ≠ R.RING_STATE (16 + r.val) p := by
  simp only [CplKey, R.PART_MAP, R.RING_CFG, R.RING_STATE, R.RING_BASE_LO, R.RING_BASE_HI] at hk ⊢
  omega

theorem State.rxTaken_cplRing (q : Nat) : CplRingKept s (s.rxTaken p r f plan) q := by
  have hk {k : Nat} (hk : CplKey q k) : (s.rxTaken p r f plan).rd k = s.rd k := State.rd_rxWrite _ p _ _ (cplKey_ne_rxState p r hk) ..
  obtain ⟨-, -, hc, hw⟩ : _ ∧ _ ∧ _ ∧ _ := by simpa only [State.rxLists, Prod.mk.injEq] using s.rxTaken_lists p r f plan
  exact ⟨hk (.inl rfl), hk (.inr (.inl rfl)), hk (.inr (.inr (.inl rfl))), hk (.inr (.inr (.inr (.inl rfl)))),
    hk (.inr (.inr (.inr (.inr rfl)))), by rw [hw], hc⟩

end

/-! ### RX write-back -/

section
variable {s : State} {p : Part} {r : Fin 16} {f : HeldFrame} {dma : Dma}
variable (hf : s.host.held.find? (fun f => f.part = p.val && f.ring = r.val) = some f)
include hf

/-- The ring, the host's answer and the posted descriptors decide, in this order. -/
theorem exec_rxWriteback : exec (.rxWriteback p r dma) s = .next (
    if s.ringSize p (16 + r) = 0 then s
    else if dma = .descError then
      (s.setFld (R.RING_CFG (16 + r) p) F.RING_CFG_SIZE 0).ringErr p (16 + r) F.RING_ERR_DESC_DMA true (s.ringChip p (16 + r))
    else ((s.rxPlan p (16 + r) (s.ringPosted p (16 + r)) (s.ringChip p (16 + r)) f.bytes.length).map (s.rxDone p r f)).getD s) := by
  rw [exec_rxWriteback_arm, execRxWriteback]
  dsimp only
  rw [hf]
  dsimp only
  cases s.rxPlan p (16 + r) (s.ringPosted p (16 + r)) (s.ringChip p (16 + r)) f.bytes.length <;> rfl

theorem exec_rxWriteback_disabled (hs : s.ringSize p (16 + r) = 0) : exec (.rxWriteback p r dma) s = .next s :=
  (exec_rxWriteback hf).trans (congrArg _ (if_pos hs))

theorem exec_rxWriteback_descError (hs : s.ringSize p (16 + r) ≠ 0) : exec (.rxWriteback p r .descError) s =
    .next ((s.setFld (R.RING_CFG (16 + r) p) F.RING_CFG_SIZE 0).ringErr p (16 + r) F.RING_ERR_DESC_DMA true (s.ringChip p (16 + r))) :=
  (exec_rxWriteback hf).trans (congrArg _ ((if_neg hs).trans (if_pos rfl)))

theorem exec_rxWriteback_waits (hs : s.ringSize p (16 + r) ≠ 0) (hd : dma ≠ .descError)
    (hp : s.rxPlan p (16 + r) (s.ringPosted p (16 + r)) (s.ringChip p (16 + r)) f.bytes.length = none) :
    exec (.rxWriteback p r dma) s = .next s := by
  rw [exec_rxWriteback hf, if_neg hs, if_neg hd, hp]
  rfl

section
variable {plan : List (Nat × Nat × Bool)} (hs : s.ringSize p (16 + r) ≠ 0)
  (hp : s.rxPlan p (16 + r) (s.ringPosted p (16 + r)) (s.ringChip p (16 + r)) f.bytes.length = some plan)
include hs hp

theorem exec_rxWriteback_posted : exec (.rxWriteback p r .ok) s = .next (s.rxDone p r f plan) := by
  rw [exec_rxWriteback hf, if_neg hs, if_neg (by decide), hp]
  rfl

theorem Does.rxWriteback_uplink (hn : f.src = none) : Does (.rxWriteback p r .ok) s (fun t =>
    t.host.held = s.host.held.erase f ∧ t.ringChip p 33 = s.ringChip p 33) :=
  have hd : s.rxDone p r f plan = s.rxTaken p r f plan := by rw [State.rxDone, hn]
  Does.of_next ((exec_rxWriteback_posted hf hs hp).trans (congrArg _ hd)) ⟨congrArg Prod.fst (s.rxTaken_lists p r f plan),
    (s.rxTaken_cplRing p r f plan p).chip⟩

theorem Does.rxWriteback_host {d : Fetched} (hd : f.src = some d)
    (ha : s.host.fetched.any (cplAnswers d.part (txRecord d stOK 0 0 63 false 0 0)) = true) (hr : s.cplReady d.part = true) :
    Does (.rxWriteback p r .ok) s (fun t =>
      t.host.held = s.host.held.erase f ∧ t.cplWritten s d.part (txRecord d stOK 0 0 63 false 0 0)) := by
  have hk := s.rxTaken_cplRing p r f plan d.part
  obtain ⟨hh, hm, -⟩ : _ ∧ _ ∧ _ ∧ _ := by simpa only [State.rxLists, Prod.mk.injEq] using s.rxTaken_lists p r f plan
  have he : s.rxDone p r f plan = (s.rxTaken p r f plan).cplEnd d.part (txRecord d stOK 0 0 63 false 0 0) := by
    rw [State.rxDone, hd]
    exact State.cplOwn_fetched _ _ _ (by rw [hm, ha])
  refine Does.of_next ((exec_rxWriteback_posted hf hs hp).trans (congrArg _ he)) ⟨?_, ?_⟩
  · exact (State.cplEnd_held ..).trans hh
  · exact hk.stands (State.cplEnd_written (hk.ready.trans hr) rfl)

end

theorem Does.rxWriteback_descError (hs : s.ringSize p (16 + r) ≠ 0) : Does (.rxWriteback p r .descError) s (fun t =>
    t.ringSize p (16 + r) = 0 ∧ t.flag (R.RING_ERR p) F.RING_ERR_DESC_DMA = true ∧ t.host.held = s.host.held) := by
  refine Does.of_next (exec_rxWriteback_descError hf hs) ⟨?_, State.ringErr_flag _ p _ _ _ _ (by decide) (by decide), State.ringErr_held ..⟩
  exact State.ringSize_ringErr_off (by omega) ..

end

end Sys2Proof.Machine
end

section
/-! O11: vectors, configuration requests and reads that wait (R306, R307, R309, R330). A vector fires where its PBA bit is set, it may send its
message and its hold-off is over; an access to BAR2 or to configuration space reaches one word of the function. -/

set_option Elab.async false

namespace Sys2Proof.Machine

/-! ### The arms of `exec` -/

section
variable (s : State) (p : Part)

theorem exec_vectorHoldoffExpiry_arm (v : Fin 32) : exec (.vectorHoldoffExpiry p v) s = execVectorHoldoffExpiry p v s := rfl
theorem exec_msixUnmask_arm (off : BitVec 14) (data : Option Word) : exec (.msixUnmask p off data) s = execMsixUnmask p off data s := rfl
theorem exec_configRequest_arm (a : CfgAccess) : exec (.configRequest p a) s = execConfigRequest p a s := rfl
theorem exec_bar0ReadTimeout_arm : exec (.bar0ReadTimeout p) s = execBar0ReadTimeout p s := rfl

end

/-! ### Vectors (R330) -/

section
variable (s : State) (p v : Nat)

/-- The hold-off of a vector is over. -/
def State.vecReady (s : State) (p v : Nat) : State := { s with host := { s.host with holdoff := aset 0 (vecKey p v) 0 s.host.holdoff } }

/-- The table leaves the vector unmasked (1) or masks it (0). -/
def State.vecMask (s : State) (p v on : Nat) : State := { s with host := { s.host with unmasked := aset 0 (vecKey p v) on s.host.unmasked } }

theorem State.vecMask_open (on : Nat) : (s.vecMask p v on).vecOpen p v = (aget 0 p s.host.msixOn != 0 && on != 0) := by
  have h : aget 0 (vecKey p v) (s.vecMask p v on).host.unmasked = on := aget_aset_same ..
  rw [State.vecOpen, h]
  rfl

/-- A vector that fires counts a message and clears its PBA bit. -/
theorem State.vecFire_fired : aget 0 (vecKey p v) (s.vecFire p v).host.fired = aget 0 (vecKey p v) s.host.fired + 1 ∧
    aget 0 (vecKey p v) (s.vecFire p v).host.pba = 0 :=
  ⟨aget_aset_same 0 (aget 0 (vecKey p v) s.host.fired + 1) (vecKey p v) s.host.fired, aget_aset_same 0 0 (vecKey p v) s.host.pba⟩

variable {s p v}

theorem State.vecRetry_fires (hp : aget 0 (vecKey p v) s.host.pba ≠ 0) (ho : s.vecOpen p v = true)
    (hh : aget 0 (vecKey p v) s.host.holdoff ≤ s.now) : s.vecRetry p v = s.vecFire p v := if_pos (by simp [hp, ho, hh])

theorem State.vecRetry_closed (ho : s.vecOpen p v = false) : s.vecRetry p v = s := if_neg (by simp [ho])

end

section
variable {s : State} {p : Part} {v : Fin 32}

theorem exec_vectorHoldoffExpiry (h : aget 0 (vecKey p v) s.host.holdoff ≠ 0) : exec (.vectorHoldoffExpiry p v) s =
    .next (((s.advanceTo (aget 0 (vecKey p v) s.host.holdoff)).vecReady p v).vecRetry p v) := by
  rw [exec_vectorHoldoffExpiry_arm, execVectorHoldoffExpiry]
  exact congrArg _ (if_neg h)

theorem Does.vectorHoldoffExpiry (h : aget 0 (vecKey p v) s.host.holdoff ≠ 0) (hp : aget 0 (vecKey p v) s.host.pba ≠ 0)
    (ho : s.vecOpen p v = true) : Does (.vectorHoldoffExpiry p v) s (fun t =>
      aget 0 (vecKey p v) t.host.fired = aget 0 (vecKey p v) s.host.fired + 1 ∧ aget 0 (vecKey p v) t.host.pba = 0) := by
  have hz : aget 0 (vecKey p v) ((s.advanceTo (aget 0 (vecKey p v) s.host.holdoff)).vecReady p v).host.holdoff = 0 :=
    aget_aset_same 0 0 (vecKey p v) s.host.holdoff
  have he := (exec_vectorHoldoffExpiry h).trans (congrArg _ (State.vecRetry_fires
    (s := (s.advanceTo (aget 0 (vecKey p v) s.host.holdoff)).vecReady p v) hp ho (by rw [hz]; exact Nat.zero_le _)))
  exact Does.of_next he (State.vecFire_fired _ p v)

end

/-! ### The MSI-X table (R306) -/

section
variable {s : State} {p : Part} {v : Fin 32} {data : Word} (hm : s.mapped p = true) (hh : s.pwr.hHeld = false)

/-- The word of an entry of the table that an offset names. -/
theorem msixOff_toNat (v : Fin 32) {k : Nat} (hk : k < 4) : (BitVec.ofNat 14 (16 * v.val + 4 * k)).toNat = 4 * (4 * v.val + k) := by
  rw [BitVec.toNat_ofNat]
  omega

/-- A write of the vector control of an entry. -/
theorem State.msixWrite_control (s : State) (p v : Nat) (data : Word) : s.msixWrite p (4 * v + 3) data =
    (s.vecMask p v (if bitAt data 0 then 0 else 1)).vecRetry p v := by
  have hv : (4 * v + 3) / 4 = v := by omega
  rw [State.msixWrite, if_neg (by omega), hv]
  rfl

include hm hh

theorem exec_msixUnmask_read (off : BitVec 14) : exec (.msixUnmask p off none) s = .next (s.answer p (s.msixRead p off.toNat)) := by
  rw [exec_msixUnmask_arm, execMsixUnmask]
  exact congrArg _ (if_neg (by simp [hm, hh]))

theorem exec_msixUnmask_write {k : Nat} (hk : k < 4) : exec (.msixUnmask p (BitVec.ofNat 14 (16 * v + 4 * k)) (some data)) s =
    .next (s.msixWrite p (4 * v + k) data) := by
  have hd : 4 * (4 * v.val + k) / 4 = 4 * v.val + k := Nat.mul_div_cancel_left _ (by decide)
  rw [exec_msixUnmask_arm, execMsixUnmask, msixOff_toNat v hk, hd]
  exact congrArg _ ((if_neg (by simp [hm, hh])).trans (if_pos (by omega)))

theorem exec_msixUnmask_control : exec (.msixUnmask p (BitVec.ofNat 14 (16 * v + 12)) (some data)) s =
    .next ((s.vecMask p v (if bitAt data 0 then 0 else 1)).vecRetry p v) :=
  (exec_msixUnmask_write hm hh (k := 3) (by decide)).trans (congrArg _ (s.msixWrite_control p v data))

theorem Does.msixUnmask_fires (ho : aget 0 p.val s.host.msixOn ≠ 0) (hp : aget 0 (vecKey p v) s.host.pba ≠ 0)
    (hn : aget 0 (vecKey p v) s.host.holdoff ≤ s.now) (hb : bitAt data 0 = false) :
    Does (.msixUnmask p (BitVec.ofNat 14 (16 * v + 12)) (some data)) s (fun t =>
      aget 0 (vecKey p v) t.host.fired = aget 0 (vecKey p v) s.host.fired + 1 ∧ aget 0 (vecKey p v) t.host.pba = 0 ∧
        t.vecOpen p v = true) := by
  have hopen : (s.vecMask p v 1).vecOpen p v = true := by
    rw [State.vecMask_open]
    simp [ho]
  have he : exec (.msixUnmask p (BitVec.ofNat 14 (16 * v + 12)) (some data)) s = .next ((s.vecMask p v 1).vecFire p v) := by
    rw [exec_msixUnmask_control hm hh, hb, if_neg (by decide), State.vecRetry_fires (s := s.vecMask p v 1) hp hopen hn]
  obtain ⟨hfired, hpba⟩ := (s.vecMask p v 1).vecFire_fired p v
  exact Does.of_next he ⟨hfired, hpba, hopen⟩

theorem Does.msixUnmask_masks (hb : bitAt data 0 = true) : Does (.msixUnmask p (BitVec.ofNat 14 (16 * v + 12)) (some data)) s (fun t =>
    t.vecOpen p v = false ∧ t.host.fired = s.host.fired) := by
  have hopen : (s.vecMask p v 0).vecOpen p v = false := by
    rw [State.vecMask_open]
    exact Bool.and_false _
  have he : exec (.msixUnmask p (BitVec.ofNat 14 (16 * v + 12)) (some data)) s = .next (s.vecMask p v 0) := by
    rw [exec_msixUnmask_control hm hh, hb, if_pos rfl, State.vecRetry_closed hopen]
  exact Does.of_next he ⟨hopen, rfl⟩

theorem Does.msixUnmask_stores (k : Fin 3) : Does (.msixUnmask p (BitVec.ofNat 14 (16 * v + 4 * k)) (some data)) s (fun t =>
    t.msixRead p (16 * v + 4 * k) = data) := by
  refine Does.of_next (exec_msixUnmask_write hm hh (k := k) (by omega)) ?_
  have hi : (16 * v.val + 4 * k.val) / 4 = 4 * v.val + k.val := by omega
  have h3 : (4 * v.val + k.val) % 4 < 3 := by omega
  simp only [State.msixRead, State.msixWrite, hi, if_pos h3, if_pos (show 4 * v.val + k.val < 128 by omega)]
  exact aget_aset_same ..

end

/-! ### Configuration space (R306, R307) -/

section
variable {s : State} {p : Part} {data : Word}

/-- How a request was answered: 2 with retry status, 1 with the word. -/
def State.cfgAnswered (s : State) (p n : Nat) : State := { s with host := { s.host with cfgAnswer := aset 0 p n s.host.cfgAnswer } }

theorem State.cfgAnswered_answer (s : State) (p n : Nat) : aget 0 p (s.cfgAnswered p n).host.cfgAnswer = n := aget_aset_same ..

theorem exec_configRequest_retry (a : CfgAccess) (hm : s.mapped p = true) (hh : s.pwr.hHeld = false) (hu : s.host.microcode = false) :
    exec (.configRequest p a) s = .next (s.cfgAnswered p 2) := by
  rw [exec_configRequest_arm, execConfigRequest]
  exact congrArg _ ((if_neg (by simp [hm, hh])).trans (if_pos (by simp [hu])))

/-- The functions answer: the partition is mapped, the H-die is out of its reset, and the microcode is loaded. -/
abbrev State.cfgReady (s : State) (p : Nat) : Prop := s.mapped p = true ∧ s.pwr.hHeld = false ∧ s.host.microcode = true

theorem State.cfgRun_id (s : State) (p : Nat) : s.cfgRun p (.read 0) = s.answer p 0x71601FB3 := rfl

theorem State.cfgRun_msix (s : State) (p : Nat) (on : Bool) : s.cfgRun p (.writeMsix on) = s.msixEnable p on := rfl

theorem State.cfgRun_bar (s : State) (p : Nat) (data : Word) : s.cfgRun p (.write 0x10 data) =
    { s with host := { s.host with bars := aset 0 (p * 2) (data &&& 0xFFFF0000) s.host.bars } } := by
  rw [State.cfgRun, if_pos rfl]

theorem State.msixEnable_on (s : State) (p : Nat) (on : Bool) : aget 0 p (s.msixEnable p on).host.msixOn = if on then 1 else 0 := by
  have hv (u : State) (v : Nat) : (u.vecRetry p v).host.msixOn = u.host.msixOn := by
    unfold State.vecRetry
    split <;> rfl
  unfold State.msixEnable
  dsimp only
  rw [State.foldl_kept (fun u : State => u.host.msixOn) _ hv]
  exact aget_aset_same 0 _ p s.host.msixOn

theorem State.cfgRun_device (s : State) (p : Nat) {m q : Fin 8} (hm : m.val ≤ 2) (hq : q.val ≤ 5) : s.cfgRun p (.writeDevice m q) =
    { s with host := { s.host with mps := aset 0 p m.val s.host.mps, mrrs := aset 2 p q.val s.host.mrrs } } := by
  rw [State.cfgRun, if_pos hm, if_pos hq]

variable (h : s.cfgReady p)
include h

theorem exec_configRequest (a : CfgAccess) : exec (.configRequest p a) s = .next ((s.cfgAnswered p 1).cfgRun p a) := by
  obtain ⟨hm, hh, hu⟩ := h
  rw [exec_configRequest_arm, execConfigRequest]
  exact congrArg _ ((if_neg (by simp [hm, hh])).trans (if_neg (by simp [hu])))

theorem Does.configRequest_id : Does (.configRequest p (.read 0)) s (fun t =>
    aget 0 p.val t.host.cfgAnswer = 1 ∧ t.reads p = 0x71601FB3) :=
  Does.of_next ((exec_configRequest h (.read 0)).trans (congrArg _ ((s.cfgAnswered p 1).cfgRun_id p)))
    ⟨s.cfgAnswered_answer p 1, State.answer_readData ..⟩

theorem Does.configRequest_bar : Does (.configRequest p (.write 0x10 data)) s (fun t =>
    aget 0 p.val t.host.cfgAnswer = 1 ∧ t.barWord p 0 = (data &&& 0xFFFF0000) ||| 4) :=
  Does.of_next ((exec_configRequest h (.write 0x10 data)).trans (congrArg _ ((s.cfgAnswered p 1).cfgRun_bar p data)))
    ⟨s.cfgAnswered_answer p 1, congrArg (· ||| 4) (aget_aset_same 0 (data &&& 0xFFFF0000) (p.val * 2) s.host.bars)⟩

theorem Does.configRequest_msix : Does (.configRequest p (.writeMsix true)) s (fun t => aget 0 p.val t.host.msixOn = 1) :=
  Does.of_next ((exec_configRequest h (.writeMsix true)).trans (congrArg _ ((s.cfgAnswered p 1).cfgRun_msix p true)))
    (State.msixEnable_on (s.cfgAnswered p 1) p true)

theorem Does.configRequest_device {m q : Fin 8} (hm : m.val ≤ 2) (hq : q.val ≤ 5) : Does (.configRequest p (.writeDevice m q)) s (fun t =>
    aget 0 p.val t.host.mps = m.val ∧ aget 2 p.val t.host.mrrs = q.val) :=
  Does.of_next ((exec_configRequest h (.writeDevice m q)).trans (congrArg _ ((s.cfgAnswered p 1).cfgRun_device p hm hq)))
    ⟨aget_aset_same 0 m.val p.val s.host.mps, aget_aset_same 2 q.val p.val s.host.mrrs⟩

end

/-! ### Reads that wait for a retrain (R309) -/

section
variable {s : State} {p : Part}

/-- A read that has waited too long has all ones in the place of its word, and waits no longer. -/
def State.readGivenUp (s : State) (p : Nat) : State :=
  { s with host := { s.host with
      readData := aset 0 p 0xFFFFFFFF s.host.readData
      readTag := aset 0 p 0 s.host.readTag
      readLow := if aget 0 p s.host.readLowTag ≠ 0 then aset 0 p 0xFFFFFFFF s.host.readLow else s.host.readLow
      readLowTag := aset 0 p 0 s.host.readLowTag } }

theorem State.readGivenUp_reads (s : State) (p : Nat) : (s.readGivenUp p).reads p = 0xFFFFFFFF :=
  aget_aset_same 0 0xFFFFFFFF p s.host.readData

theorem State.readGivenUp_tag (s : State) (p : Nat) : aget 0 p (s.readGivenUp p).host.readTag = 0 := aget_aset_same 0 0 p s.host.readTag

variable (ht : aget 0 p.val s.host.readTag ≠ 0) (hu : s.passUp = false)
include ht hu

theorem exec_bar0ReadTimeout : exec (.bar0ReadTimeout p) s = .next ((s.advanceTo (s.pass.retrainAt + ms 2)).readGivenUp p) := by
  have hf : s.flag R.PASS_STATUS F.PASS_STATUS_UP = false := hu
  rw [exec_bar0ReadTimeout_arm, execBar0ReadTimeout]
  dsimp only
  rw [if_neg (by simp [ht, hf]), if_pos ht, State.readGivenUp, State.advanceTo_host]

theorem Does.bar0ReadTimeout : Does (.bar0ReadTimeout p) s (fun t =>
    t.reads p = 0xFFFFFFFF ∧ aget 0 p.val t.host.readTag = 0 ∧ t.now = max s.now (s.pass.retrainAt + ms 2)) :=
  Does.of_next (exec_bar0ReadTimeout ht hu) ⟨State.readGivenUp_reads _ p, State.readGivenUp_tag _ p, s.advanceTo_now _⟩

end

/-! ### The obligation -/

/-- Settles O11: a frame by its descriptors and its sender, a vector by what it waits for, a configuration request by its word. -/
theorem framesVectorsAndReads : Obligations.FramesVectorsAndReads := by
  unfold Obligations.FramesVectorsAndReads
  refine ⟨fun s p r f hf => ⟨?_, ?_, ?_, ?_, ?_⟩, fun s p v data => ⟨?_, ?_, ?_, ?_, ?_⟩, fun s p data => ⟨?_, ?_, ?_, ?_, ?_, ?_⟩⟩
  · exact fun _ => exec_rxWriteback_disabled hf
  · exact fun _ => exec_rxWriteback_waits hf
  · exact fun _ => Does.rxWriteback_uplink hf
  · exact fun _ _ hs hp => Does.rxWriteback_host hf hs hp
  · exact Does.rxWriteback_descError hf
  · exact Does.vectorHoldoffExpiry
  · exact Does.msixUnmask_fires
  · exact Does.msixUnmask_masks
  · exact fun k hm hh => Does.msixUnmask_stores hm hh k
  · exact fun off hm hh => exec_msixUnmask_read hm hh off
  · exact fun a hm hh hu => Does.of_next (exec_configRequest_retry a hm hh hu) (s.cfgAnswered_answer p 2)
  · exact Does.configRequest_id
  · exact Does.configRequest_bar
  · exact Does.configRequest_msix
  · exact fun _ _ h => Does.configRequest_device h
  · exact Does.bar0ReadTimeout

end Sys2Proof.Machine
end

section
/-! O13: `PART_MAP` (R305). A write takes the lock first and is then decided by its writer and by its mapping. A reset keeps a register by listing it
again: of a canonical register file it keeps what the file holds. -/

set_option Elab.async false

namespace Sys2Proof.Machine

/-! ### The arms of `exec` -/

theorem exec_partMapWrite_arm (s : State) (q : Part) (data : Word) : exec (.partMapWrite q data) s = execPartMapWrite q data s := rfl

/-! ### Writes of `PART_MAP` -/

section
variable {s : State} {q : Part} {data : Word}

theorem exec_partMapWrite_armed (h : s.unlocked q = false) :
    exec (.partMapWrite q data) s = .next (s.guardViolationH q 0x1008 data) := by
  simp [exec_partMapWrite_arm, execPartMapWrite, State.partMapWrite, State.guardTake, h]

/-- Through an unlocked lock a write takes effect behind the arming of the lock. -/
theorem exec_partMapWrite_unlocked (h : s.unlocked q = true) : exec (.partMapWrite q data) s = .next (
    if q.val ≠ 0 then (s.armLock q).err (R.PART_ERR q) F.PART_ERR_PART_WRITE
    else if mapInvalid (fget F.PART_MAP_MAP data) then (s.armLock q).err (R.PART_ERR q) F.PART_ERR_MAP_INVALID
    else (s.armLock q).setFld R.PART_MAP F.PART_MAP_MAP (fget F.PART_MAP_MAP data)) := by
  simp [exec_partMapWrite_arm, execPartMapWrite, State.partMapWrite, State.guardTake, h]

theorem partMap_ne_sysLock (q : Nat) : R.PART_MAP ≠ R.SYS_LOCK q := by
  unfold R.PART_MAP R.SYS_LOCK
  omega

theorem partMap_ne_partErr (q : Nat) : R.PART_MAP ≠ R.PART_ERR q := by
  unfold R.PART_MAP R.PART_ERR
  omega

theorem sysLock_ne_partErr (q : Nat) : R.SYS_LOCK q ≠ R.PART_ERR q := by
  unfold R.SYS_LOCK R.PART_ERR
  omega

/-- A refused write sets its flag and arms the lock. -/
theorem State.partErr_locked (s : State) (q : Nat) {f : Fld} (hf : f.lo + f.w ≤ 32) (hw : 0 < f.w) :
    let t := (s.armLock q).err (R.PART_ERR q) f
    t.rd R.PART_MAP = s.rd R.PART_MAP ∧ t.flag (R.PART_ERR q) f = true ∧ t.unlocked q = false :=
  ⟨(State.rd_err_ne _ _ _ (partMap_ne_partErr q)).trans (s.rd_armLock_ne q (partMap_ne_sysLock q)), State.flag_err _ _ hf hw,
    State.armLock_locked (s := s) (State.rd_err_ne _ _ _ (sysLock_ne_partErr q))⟩

theorem Does.partMapWrite_stored (h : s.unlocked 0 = true) (hm : mapInvalid (fget F.PART_MAP_MAP data) = false) :
    Does (.partMapWrite 0 data) s (fun t => t.fld R.PART_MAP F.PART_MAP_MAP = fget F.PART_MAP_MAP data ∧
      t.fld R.PART_MAP F.PART_MAP_ACTIVE = s.fld R.PART_MAP F.PART_MAP_ACTIVE ∧ t.unlocked 0 = false) := by
  refine Does.of_next ((exec_partMapWrite_unlocked (q := 0) h).trans (congrArg _ ((if_neg (by decide)).trans (if_neg (by rw [hm]; decide)))))
    ⟨?_, ?_, ?_⟩
  · exact (State.fld_setFld _ _ _ _ (by decide)).trans (Nat.mod_eq_of_lt (fget_lt F.PART_MAP_MAP data))
  · exact (State.fld_setFld_other _ _ _ _ _ (by decide) (by decide)).trans (congrArg (fget _) (s.rd_armLock_ne 0 (partMap_ne_sysLock 0)))
  · exact State.armLock_locked (s := s) (State.rd_setFld_ne _ _ _ (partMap_ne_sysLock 0).symm)

theorem Does.partMapWrite_invalid (h : s.unlocked 0 = true) (hm : mapInvalid (fget F.PART_MAP_MAP data) = true) :
    Does (.partMapWrite 0 data) s (fun t => t.rd R.PART_MAP = s.rd R.PART_MAP ∧
      t.flag (R.PART_ERR 0) F.PART_ERR_MAP_INVALID = true ∧ t.unlocked 0 = false) :=
  Does.of_next ((exec_partMapWrite_unlocked (q := 0) h).trans (congrArg _ ((if_neg (by decide)).trans (if_pos hm))))
    (s.partErr_locked 0 (by decide) (by decide))

theorem Does.partMapWrite_other (hq : q ≠ 0) (h : s.unlocked q = true) : Does (.partMapWrite q data) s (fun t =>
    t.rd R.PART_MAP = s.rd R.PART_MAP ∧ t.flag (R.PART_ERR q) F.PART_ERR_PART_WRITE = true ∧ t.unlocked q = false) :=
  Does.of_next ((exec_partMapWrite_unlocked h).trans (congrArg _ (if_pos (fun e => hq (Fin.ext e))))) (s.partErr_locked q (by decide) (by decide))

end

/-! ### What a reset keeps of the register file -/

section
variable (keep : Nat → Bool) {k : Nat}

theorem aget_filter (hk : keep k = true) (l : List (Nat × Word)) : aget 0 k (l.filter (fun e => keep e.1)) = aget 0 k l := by
  induction l with
  | nil => rfl
  | cons e l ih =>
    by_cases he : e.1 = k
    · rw [List.filter_cons_of_pos (by rw [he, hk]), aget, aget, if_pos he, if_pos he]
    · cases hx : keep e.1
      · rw [List.filter_cons_of_neg (by simp [hx]), ih, aget, if_neg he]
      · rw [List.filter_cons_of_pos (p := fun e : Nat × Word => keep e.1) hx, aget, aget, if_neg he, if_neg he, ih]

theorem aget_filter_none {p : Nat × Word → Bool} (hp : ∀ v, p (k, v) = false) (l : List (Nat × Word)) : aget 0 k (l.filter p) = 0 := by
  induction l with
  | nil => rfl
  | cons e l ih =>
    cases hx : p e
    · rwa [List.filter_cons_of_neg (by simp [hx])]
    · have he : e.1 ≠ k := fun h => by rw [← Prod.mk.eta (p := e), h, hp] at hx; cases hx
      rw [List.filter_cons_of_pos hx, aget, if_neg he, ih]

/-- Entries of other keys leave a key as it is. -/
theorem aget_foldl_absent {l : List (Nat × Word)} (hl : ∀ e ∈ l, e.1 ≠ k) (m : List (Nat × Word)) :
    aget 0 k (l.foldl (fun m e => aset 0 e.1 e.2 m) m) = aget 0 k m := by
  induction l generalizing m with
  | nil => rfl
  | cons e l ih =>
    rw [List.foldl_cons, ih (fun x hx => hl x (List.mem_cons_of_mem e hx)), aget_aset_ne _ _ _ _ _ (hl e List.mem_cons_self).symm]

/-- Entries of a canonical table, put into a table that lacks the key, read there as they read in their own. -/
theorem aget_foldl_entries {l : List (Nat × Word)} (hl : awf 0 l = true) (m : List (Nat × Word)) (hm : aget 0 k m = 0) :
    aget 0 k (l.foldl (fun m e => aset 0 e.1 e.2 m) m) = aget 0 k l := by
  induction l generalizing m with
  | nil => exact hm
  | cons e l ih =>
    obtain ⟨-, hrise, htail⟩ := (awf_cons 0 l e).mp hl
    rw [List.foldl_cons, aget]
    by_cases he : e.1 = k
    · rw [if_pos he, aget_foldl_absent (fun x hx => by have := hrise x hx; omega), ← he, aget_aset_same]
    · rw [if_neg he, ih htail _ (by rw [aget_aset_ne _ _ _ _ _ (Ne.symm he), hm])]

/-- A register that a reset keeps holds what a canonical register file held. -/
theorem aget_regsAfter {regs : List (Nat × Word)} (hr : awf 0 regs = true) (hk : keep k = true) :
    aget 0 k (regsAfter keep regs) = aget 0 k regs := by
  rw [regsAfter, aget_foldl_entries (awf_filter 0 regs _ hr) _ (aget_filter_none (by simp [hk]) _), aget_filter keep hk]

end

/-! ### `PART_MAP` behind the resets -/

section
variable (s : State)

theorem State.rd_cplOwn_partMap (p : Nat) (ws : List Word) : (s.cplOwn p ws).rd R.PART_MAP = s.rd R.PART_MAP := by
  unfold State.cplOwn
  split
  · refine s.rd_cplEnd ws ?_ ?_
    · unfold R.PART_MAP R.RING_STATE
      omega
    · unfold R.PART_MAP R.RING_CPL_RESV
      omega
  · rfl

theorem State.rd_hForget_partMap : s.hForget.rd R.PART_MAP = s.rd R.PART_MAP := by
  have hf (u : State) (f : Fetched) : (u.flushFetched f).rd R.PART_MAP = u.rd R.PART_MAP := by
    unfold State.flushFetched
    split <;> exact u.rd_cplOwn_partMap _ _
  exact State.foldl_kept (State.rd · R.PART_MAP) _ hf _ _

theorem State.rd_armLocks_partMap : s.armLocks.rd R.PART_MAP = s.rd R.PART_MAP :=
  State.foldl_kept (State.rd · R.PART_MAP) _ (fun u q => u.rd_armLock_ne q (partMap_ne_sysLock q)) _ _

theorem State.rd_keepFields_partMap (old : State) : (s.keepFields old).rd R.PART_MAP = s.rd R.PART_MAP := by
  unfold State.keepFields State.keepFld
  iterate 9 rw [State.rd_setFld_ne _ _ _ (by decide)]

theorem State.rd_onVbat_partMap : s.onVbat.rd R.PART_MAP = s.rd R.PART_MAP := State.rd_setFld_ne _ _ _ (by decide)

theorem State.rd_fDieReset_partMap (hc : s.canon = true) (kind : Nat) (release : Bool) :
    (s.fDieReset kind release).rd R.PART_MAP = s.rd R.PART_MAP := by
  have hw : Within [.free, .boot] s s.flashCut.fuseCut := State.fuseCut_within _ (State.flashCut_within _ (Within.refl _ s) rfl) rfl
  have hc2 : s.flashCut.fuseCut.hForget.canon = true :=
    (State.hForget_within _ (Within.refl [.regs, .host, .eth, .boot, .air, .qmg, .link] _) rfl).canon (hw.canon hc)
  have hf : s.flashCut.fuseCut.hForget.rd R.PART_MAP = s.rd R.PART_MAP :=
    (State.rd_hForget_partMap _).trans (State.rd_of_regs (hw.only .regs (by decide)) _)
  have hr : aget 0 R.PART_MAP (regsAfter (fun k => hostReg k || keptReg k) s.flashCut.fuseCut.hForget.regs) = s.rd R.PART_MAP := by
    rw [aget_regsAfter _ (Bool.and_eq_true_iff.mp hc2).1 (by decide)]
    exact hf
  unfold State.fDieReset
  dsimp only
  rw [State.rd_armLocks_partMap, State.rd_setFld_ne _ _ _ (by decide), State.rd_onVbat_partMap, State.rd_setFld_ne _ _ _ (by decide)]
  split
  · rw [State.rd_setFld_ne _ _ _ (by decide), State.rd_keepFields_partMap]
    exact hr
  · rw [State.rd_setFld_ne _ _ _ (by decide), State.rd_setFld_ne _ _ _ (by decide), State.rd_keepFields_partMap]
    exact hr

theorem State.rd_hDieReset_partMap (hc : s.canon = true) (release : Bool) :
    (s.hDieReset release).rd R.PART_MAP = fset F.PART_MAP_ACTIVE (s.rd R.PART_MAP) (s.fld R.PART_MAP F.PART_MAP_MAP) := by
  have hw : Within [.regs, .qmg] s (s.freeChain s.qmg.inHand.flatten) := State.freeChain_within s _ (Within.refl _ s) rfl
  have hf : (s.freeChain s.qmg.inHand.flatten).rd R.PART_MAP = s.rd R.PART_MAP := State.rd_setFld_ne _ _ _ (by decide)
  have hr : aget 0 R.PART_MAP (regsAfter (fun k => !hostReg k || k == R.PART_MAP) (s.freeChain s.qmg.inHand.flatten).regs) = s.rd R.PART_MAP := by
    rw [aget_regsAfter _ (Bool.and_eq_true_iff.mp (hw.canon hc)).1 (by decide)]
    exact hf
  unfold State.hDieReset
  dsimp only
  rw [State.rd_armLocks_partMap, State.rd_setFld_ne _ _ _ (by decide), State.rd_setFld]
  simp only [State.fld, State.rd] at hr ⊢
  rw [hr]

end

/-! ### The obligation -/

/-- Settles O13: a write by its lock, its writer and its mapping; of a canonical register file both resets keep the register. -/
theorem partMapIsGuardedAndApplied : Obligations.PartMapIsGuardedAndApplied := by
  unfold Obligations.PartMapIsGuardedAndApplied
  intro s q data k b
  refine ⟨exec_partMapWrite_armed, Does.partMapWrite_stored, Does.partMapWrite_invalid, Does.partMapWrite_other, fun hc => ?_⟩
  refine ⟨s.rd_fDieReset_partMap hc k b, ?_, ?_⟩
  · rw [State.fld, s.rd_hDieReset_partMap hc]
    exact fget_fset_below _ _ _ _ (by decide) (by decide)
  · rw [State.fld, s.rd_hDieReset_partMap hc, fget_fset _ _ _ (by decide)]
    exact Nat.mod_eq_of_lt (fget_lt F.PART_MAP_MAP _)

end Sys2Proof.Machine
end

section
/-! O30: SCHED_WRITE and SCHED_READ (R324). Either one is decided by its checks; a block that is written is searched first for a cell that may not be
written, and a block that is read is a list of two words for each cell. -/

set_option Elab.async false

namespace Sys2Proof.Machine

/-! ### The arms of `exec` -/

theorem exec_schedWrite_arm (s : State) (c : CmdDesc) (dma : Dma) : exec (.schedWrite c dma) s = execSchedWrite c dma s := rfl
theorem exec_schedRead_arm (s : State) (c : CmdDesc) : exec (.schedRead c) s = execSchedRead c s := rfl

/-! ### The cells of a block -/

section
variable (s : State) (first : Nat) (word : Nat → Nat → Word)

/-- A block of cells from a first one on, with two words for each. -/
def State.setCells (n : Nat) : State := (List.range n).foldl (fun s i => s.setCell (first + i) (word i 0) (word i 1)) s

theorem State.setCells_succ (n : Nat) :
    s.setCells first word (n + 1) = (s.setCells first word n).setCell (first + n) (word n 0) (word n 1) := by
  rw [State.setCells, List.range_succ, List.foldl_append]
  rfl

/-- Nothing but the schedule changes. -/
theorem State.setCells_only (n : Nat) : s.setCells first word n = { s with slot := (s.setCells first word n).slot } := by
  induction n with
  | zero => rfl
  | succ n ih =>
    rw [State.setCells_succ, ih]
    rfl

theorem State.cellWord_setCells_out {n d w : Nat} (hd : d < first ∨ first + n ≤ d) (hw : w < 2) :
    (s.setCells first word n).cellWord d w = s.cellWord d w := by
  induction n with
  | zero => rfl
  | succ n ih => rw [State.setCells_succ, State.cellWord_setCell_ne _ _ _ _ (by omega) hw, ih (by omega)]

theorem State.cellWord_setCells {n i w : Nat} (hi : i < n) (hw : w < 2) : (s.setCells first word n).cellWord (first + i) w = word i w := by
  induction n with
  | zero => exact absurd hi (Nat.not_lt_zero i)
  | succ n ih =>
    rw [State.setCells_succ]
    rcases Nat.lt_succ_iff_lt_or_eq.mp hi with h | rfl
    · rw [State.cellWord_setCell_ne _ _ _ _ (by omega) hw, ih h]
    · match w, hw with
      | 0, _ => exact State.cellWord_setCell_zero ..
      | 1, _ => exact State.cellWord_setCell_one ..

end

/-- Of lists of two words each, joined, the words of one stand at twice its place. -/
theorem wordAt_flatMap_range {f : Nat → List Word} (hf : ∀ i, (f i).length = 2) {n i w : Nat} (hi : i < n) (hw : w < 2) :
    wordAt ((List.range n).flatMap f) (2 * i + w) = wordAt (f i) w := by
  have hl (n : Nat) : ((List.range n).flatMap f).length = 2 * n := by simp [List.length_flatMap, hf, Nat.mul_comm]
  induction n with
  | zero => exact absurd hi (Nat.not_lt_zero i)
  | succ n ih =>
    rw [List.range_succ, List.flatMap_append, wordAt, List.flatMap_singleton]
    rcases Nat.lt_succ_iff_lt_or_eq.mp hi with h | rfl
    · rw [List.getD_append _ _ _ _ (by rw [hl]; omega)]
      exact ih h
    · rw [List.getD_append_right _ _ _ _ (by rw [hl]; omega), hl, Nat.add_sub_cancel_left, wordAt]

/-! ### The commands -/

section
variable (s : State) (c : CmdDesc)

/-- A word of the block in the issuer's memory. -/
abbrev State.schedWord (i w : Nat) : Word := s.memWord c.part.val (addr64 c.w4 c.w5 + 8 * i + 4 * w)

/-- The issuer may write the cell, and its words hold no reserved value. -/
abbrev State.schedGood (i : Nat) : Bool :=
  s.cellMay c.part.val (schedFirst c + i) && !cellBad (s.schedWord c i 0) (s.schedWord c i 1)

/-- What SCHED_WRITE searches for, once it has left its family's list. -/
abbrev State.schedRefuses (i : Nat) : Bool :=
  !(s.cmdTake c).cellMay c.part.val (schedFirst c + i) || cellBad ((s.cmdTake c).schedWord c i 0) ((s.cmdTake c).schedWord c i 1)

theorem State.schedRefuses_eq (i : Nat) : s.schedRefuses c i = !s.schedGood c i := by
  rw [State.schedGood, Bool.not_and, Bool.not_not]
  rfl

/-- The words of a cell as the issuer reads them. -/
abbrev State.schedShown (i : Nat) : List Word :=
  if s.cellMay c.part.val (schedFirst c + i) then [s.cellWord (schedFirst c + i) 0, s.cellWord (schedFirst c + i) 1] else [0, 0]

theorem State.length_schedShown (i : Nat) : (s.schedShown c i).length = 2 := by
  unfold State.schedShown
  split <;> rfl

theorem State.wordAt_schedShown (i : Nat) {w : Nat} (hw : w < 2) : wordAt (s.schedShown c i) w =
    if s.cellMay c.part.val (schedFirst c + i) then s.cellWord (schedFirst c + i) w else 0 := by
  unfold State.schedShown
  match w, hw with
  | 0, _ => split <;> rfl
  | 1, _ => split <;> rfl

variable {s c} {dma : Dma} {cause : Nat} (h : s.leads c = true)
include h

theorem exec_schedWrite_bad (hb : schedBad c dma = some cause) : exec (.schedWrite c dma) s = .next ((s.cmdTake c).cmdBad c cause) := by
  rw [exec_schedWrite_arm, execSchedWrite, if_neg (by simp [s.leads_turn c h]), hb]

theorem exec_schedWrite_good (hb : schedBad c dma = none) (hg : ∀ i, i < schedCount c → s.schedGood c i = true) :
    exec (.schedWrite c dma) s = .next (((s.cmdTake c).setCells (schedFirst c) (s.schedWord c) (schedCount c)).cmdOk c []) := by
  have hf : (List.range (schedCount c)).find? (s.schedRefuses c) = none :=
    List.find?_range_eq_none.mpr (fun i hi => by rw [State.schedRefuses_eq, hg i hi]; rfl)
  rw [exec_schedWrite_arm, execSchedWrite, if_neg (by simp [s.leads_turn c h]), hb]
  dsimp only
  rw [hf]
  rfl

/-- The first cell that may not be written is named. -/
theorem exec_schedWrite_refused {m : Nat} (hb : schedBad c dma = none) (hm : m < schedCount c) (hg : ∀ i, i < m → s.schedGood c i = true)
    (hn : s.schedGood c m = false) : exec (.schedWrite c dma) s = .next ((s.cmdTake c).cmdDone c stBAD_PARAM [w32 (schedFirst c + m)]
      (if s.cellMay c.part.val (schedFirst c + m) then 22 else 1) 0) := by
  have hf : (List.range (schedCount c)).find? (s.schedRefuses c) = some m :=
    List.find?_range_eq_some.mpr ⟨by rw [State.schedRefuses_eq, hn]; rfl, List.mem_range.mpr hm,
      fun i hi => by rw [State.schedRefuses_eq, hg i hi]; rfl⟩
  rw [exec_schedWrite_arm, execSchedWrite, if_neg (by simp [s.leads_turn c h]), hb]
  dsimp only
  rw [hf]
  rfl

theorem exec_schedRead_bad (hb : schedBad c .ok = some cause) : exec (.schedRead c) s = .next ((s.cmdTake c).cmdBad c cause) := by
  rw [exec_schedRead_arm, execSchedRead, if_neg (by simp [s.leads_turn c h]), hb]

theorem exec_schedRead_good (hb : schedBad c .ok = none) : exec (.schedRead c) s = .next (((s.cmdTake c).memWrite c.part.val
    (addr64 c.w4 c.w5) (wordsBytes ((List.range (schedCount c)).flatMap (s.schedShown c)))).cmdOk c [w32 (schedCount c)]) := by
  rw [exec_schedRead_arm, execSchedRead, if_neg (by simp [s.leads_turn c h]), hb]
  rfl

end

section
variable {s : State} {c : CmdDesc} {dma : Dma} {cause : Nat} (h : s.leads c = true)
include h

theorem Does.schedWrite (hb : schedBad c dma = none) (hg : ∀ i, i < schedCount c → s.schedGood c i = true) :
    Does (.schedWrite c dma) s (fun t =>
      (∀ i w, i < schedCount c → w < 2 → t.cellWord (schedFirst c + i) w = s.schedWord c i w) ∧
      (∀ d w, d < schedFirst c ∨ schedFirst c + schedCount c ≤ d → w < 2 → t.cellWord d w = s.cellWord d w) ∧
      t.completed c stOK [] 0 ∧ t.cmds = s.cmds.erase c ∧ t.regs = s.regs) := by
  have ho := (s.cmdTake c).setCells_only (schedFirst c) (s.schedWord c) (schedCount c)
  refine Does.of_next (exec_schedWrite_good h hb hg) ⟨?_, ?_, ?_, ?_, ?_⟩
  · exact fun i w hi hw => State.cellWord_setCells _ _ _ hi hw
  · exact fun d w hd hw => State.cellWord_setCells_out _ _ _ hd hw
  · exact State.cmdOk_completed _ c [] (by rw [ho]; exact s.leads_clear c h)
  · exact (congrArg State.cmds ho :)
  · exact (congrArg State.regs ho :)

theorem Does.schedWrite_refused {m : Nat} (hb : schedBad c dma = none) (hm : m < schedCount c) (hg : ∀ i, i < m → s.schedGood c i = true)
    (hn : s.schedGood c m = false) : Does (.schedWrite c dma) s (fun t =>
      t.completed c stBAD_PARAM [w32 (schedFirst c + m)] (if s.cellMay c.part.val (schedFirst c + m) then 22 else 1) ∧ t.slot = s.slot) :=
  Does.of_next (exec_schedWrite_refused h hb hm hg hn) ⟨State.cmdDone_completed _ c _ _ _ (s.leads_clear c h), rfl⟩

theorem Does.schedWrite_bad (hb : schedBad c dma = some cause) : Does (.schedWrite c dma) s (fun t =>
    t.completed c stBAD_PARAM [] cause ∧ t.slot = s.slot) :=
  Does.of_next (exec_schedWrite_bad h hb) ⟨State.cmdBad_completed _ c cause (s.leads_clear c h), rfl⟩

theorem Does.schedRead_bad (hb : schedBad c .ok = some cause) : Does (.schedRead c) s (fun t =>
    t.completed c stBAD_PARAM [] cause ∧ t.host = s.host) :=
  Does.of_next (exec_schedRead_bad h hb) ⟨State.cmdBad_completed _ c cause (s.leads_clear c h), rfl⟩

theorem Does.schedRead (hb : schedBad c .ok = none) (ha : addr64 c.w4 c.w5 + 8 * schedCount c ≤ 2 ^ 64) : Does (.schedRead c) s (fun t =>
    t.completed c stOK [w32 (schedCount c)] 0 ∧ t.slot = s.slot ∧ ∀ i w, i < schedCount c → w < 2 →
      t.memWord c.part.val (addr64 c.w4 c.w5 + 8 * i + 4 * w) =
        if s.cellMay c.part.val (schedFirst c + i) then s.cellWord (schedFirst c + i) w else 0) := by
  have hl : ((List.range (schedCount c)).flatMap (s.schedShown c)).length = 2 * schedCount c := by
    simp [List.length_flatMap, State.length_schedShown, Nat.mul_comm]
  refine Does.of_next (exec_schedRead_good h hb) ⟨State.cmdOk_completed _ c _ (s.leads_clear c h), rfl, fun i w hi hw => ?_⟩
  have hm := State.memWord_memWrite c.part.val (s.cmdTake c) (addr64 c.w4 c.w5) ((List.range (schedCount c)).flatMap (s.schedShown c))
    (2 * i + w) (by omega) (by omega)
  rw [wordAt_flatMap_range (s.length_schedShown c) hi hw, s.wordAt_schedShown c i hw,
    show addr64 c.w4 c.w5 + 4 * (2 * i + w) = addr64 c.w4 c.w5 + 8 * i + 4 * w by omega] at hm
  exact (State.memWord_of_mem rfl _ _).trans hm

end

/-! ### The obligation -/

/-- Settles O30: each command by its checks; a block that is written by the search for a cell that may not be, one that is read by its list of
words. -/
theorem scheduleCommands : Obligations.ScheduleCommands := by
  unfold Obligations.ScheduleCommands
  intro s c dma h
  exact ⟨Does.schedWrite h, fun _ => Does.schedWrite_refused h, fun _ => Does.schedWrite_bad h, fun _ => Does.schedRead_bad h,
    Does.schedRead h⟩

end Sys2Proof.Machine
end

section
/-! O55: why a fault of an H-die supply need not latch Quiet cause 12. The register file is a list, and a register that it listed twice would be
read from the first entry, while the reset of the H-die keeps the last. The clause of the fault reads the live causes before that reset, and it does
not ask for the canonical form, in which no register is listed twice. -/

set_option Elab.async false

namespace Sys2Proof.Machine

/-! ### The arms of `exec` -/

theorem exec_supplyFault_arm (s : State) (d : Die) : exec (.supplyFault d) s = execSupplyFault d s := rfl

/-! ### A cause that is live already -/

section
variable {s : State} {c : Nat}

/-- Nothing more happens for a cause that is live (R372). -/
theorem State.quiet_live (h : nbit (s.fld R.SAFE_CAUSE F.SAFE_CAUSE_LIVE) c = true) : s.quiet c = s := if_pos h

/-- The H-die's supplies are no registers. -/
theorem State.fld_supplies_h (s : State) (least k : Nat) (f : Fld) : (s.supplies least .h).fld k f = s.fld k f := rfl

/-- Where causes 1 and 12 are live behind the reset of the H-die, a fault of its supplies leaves the registers of that reset. -/
theorem Does.supplyFault_h_live (hh : s.pwr.hHeld = false) (h1 : nbit ((s.hDieReset false).fld R.SAFE_CAUSE F.SAFE_CAUSE_LIVE) 1 = true)
    (h12 : nbit ((s.hDieReset false).fld R.SAFE_CAUSE F.SAFE_CAUSE_LIVE) 12 = true) :
    Does (.supplyFault .h) s (fun t => t.regs = (s.hDieReset false).regs) := by
  have hg : (s.hDieReset false).hGone = s.hDieReset false := by rw [State.hGone, State.quiet_live h1, ite_self]
  have hq : ((s.hDieReset false).supplies 1 .h).quiet 12 = (s.hDieReset false).supplies 1 .h :=
    State.quiet_live (by rw [State.fld_supplies_h, h12])
  refine Does.of_next (exec_supplyFault_arm s .h) ?_
  dsimp only
  rw [hh, if_neg Bool.false_ne_true, hg, hq, ite_self]
  rfl

end

/-! ### The counterexample -/

/-- A word of `SAFE_CAUSE` with causes 1 and 12 live and no cause latched. -/
def liveWord : Word := w32 ((2 ^ 1 + 2 ^ 12) * 2 ^ 16)

/-- The block at reset, but with both dies out of their resets and a register file that lists `SAFE_CAUSE` twice, first with no cause. -/
def twiceListed : State :=
  { State.reset with
    regs := [(R.SAFE_CAUSE, 0), (R.SAFE_CAUSE, liveWord)]
    pwr := { fHeld := false, hHeld := false } }

theorem twiceListed_kept : (twiceListed.hDieReset false).rd R.SAFE_CAUSE = liveWord := by decide +kernel

/-- Refutes O55: the clause of a fault of an H-die supply. The reset of the H-die brings up the second entry, in which cause 12 is live, so that the
fault latches nothing. In the states that runs reach the register file is canonical (`State.canon`) and lists no register twice; the statement is
about every state, and this clause lacks the premise that the clause of `porH` has. -/
theorem not_diesAreReset : ¬ Obligations.DiesAreReset := by
  unfold Obligations.DiesAreReset
  intro h
  obtain ⟨-, -, -, -, -, -, -, -, -, -, -, -, -, -, -, -, -, -, -, -, -, -, -, -, -, -, fault, -⟩ := h twiceListed 0 0
  obtain ⟨t, e, -, -, -, hl⟩ := fault rfl rfl (by decide +kernel) rfl rfl
  obtain ⟨u, eu, hr⟩ := Does.supplyFault_h_live (s := twiceListed) rfl (by rw [State.fld, twiceListed_kept]; decide)
    (by rw [State.fld, twiceListed_kept]; decide)
  cases eu.symm.trans e
  rw [State.fld, State.rd_of_regs hr, twiceListed_kept] at hl
  exact absurd hl (by decide)

end Sys2Proof.Machine
end

section
/-! O60, O6, O3, O1, O2 and O5: what a command may change. Every command answers a next state that keeps the canonical forms and differs from
the state before it in the components that `touches` lists for the command, and in no other (`exec_framed`). The operations have their frame
lemmas (Laws/Frames); a command's frame is those of the operations along its body. -/

set_option Elab.async false

namespace Sys2Proof.Machine

/-- An outcome that is a next state which kept the canonical forms and changed none but the components listed. -/
def Framed (l : List Comp) (s : State) (o : Host.Outcome State Fault Refusal) : Prop := ∃ t, o = .next t ∧ Within l s t

theorem Framed.next {l : List Comp} {s t : State} (h : Within l s t) : Framed l s (.next t) := ⟨t, rfl, h⟩

/-! ### The frame of each command

The operations' frames are applied along the body (`Within.ite`, `Within.foldl` and `split` where it branches, `Within.upd` where it writes a
state out). What is left are inclusions of component lists, and for a state written out that the fields not named are as they were. -/

theorem execRegisterWrite_framed (p : Part) (off : BitVec 16) (be : BitVec 4) (data : Word) (high : Option (BitVec 4 × Word)) (s : State) :
    Framed [.regs, .free, .pass, .host, .eth, .time, .safe, .log, .save, .pwr, .boot, .cmds, .ends, .ndir, .cvn, .cvnIds, .air, .qmg,
    .shp, .rf, .rx, .link, .slot, .key, .vault, .lpm, .mesh] s (execRegisterWrite p off be data high s) := by
  refine Framed.next ?_
  dsimp only
  with_reducible repeat' first
    | exact Within.refl _ _ | apply State.busWrite_within | split
  all_goals rfl

theorem execReadClear_framed (p : Part) (off : BitVec 16) (wide : Bool) (s : State) : Framed [.regs, .free, .pass, .host, .eth, .time,
    .safe, .log, .cvn, .cvnIds, .air, .qmg, .shp, .rf, .rx, .link, .key, .vault, .mesh] s (execReadClear p off wide s) := by
  refine Framed.next ?_
  dsimp only
  with_reducible repeat' first
    | exact Within.refl _ _ | apply State.busRead_within | apply State.readSplit_within | refine Within.ite (fun _ => ?_) (fun _ => ?_)
  all_goals rfl

theorem execLinkIdle_framed (d : Die) (m : PassMsg) (s : State) : Framed [.regs, .free, .pass, .host, .air, .qmg, .rx, .link] s
    (execLinkIdle d m s) := by
  refine Framed.next ?_
  with_reducible repeat' first
    | exact Within.refl _ _ | apply State.passRx_within | (simp only [id]; assumption) | intro x h
  all_goals rfl

theorem execCredit_framed (d : Die) (m : PassMsg) (s : State) : Framed [.regs, .free, .pass, .host, .air, .qmg, .rx, .link] s (execCredit
    d m s) := by
  refine Framed.next ?_
  dsimp only
  with_reducible repeat' first
    | exact Within.refl _ _ | assumption | apply State.passRx_within | (simp only [id]; assumption) | intro x h
    | (simp only [Within.lit]; refine Within.upd ?_ ?_ ?_) | split
  all_goals first | (cases x <;> first | exact absurd (by decide) h | rfl) | rfl

theorem execFrameDn_framed (m : PassMsg) (faults : Fin 5) (s : State) : Framed [.regs, .free, .pass, .host, .time, .safe, .log, .ndir,
    .cvn, .cvnIds, .air, .qmg, .shp, .rf, .rx, .link, .key, .vault, .mesh] s (execFrameDn m faults s) := by
  refine Framed.next ?_
  dsimp only
  with_reducible repeat' first
    | exact Within.refl _ _ | assumption | apply State.passRx_within | apply State.frameDn_within | apply State.frameDnRejected_within
    | refine Within.ite (fun _ => ?_) (fun _ => ?_) | intro x h | (simp only [Within.lit]; refine Within.upd ?_ ?_ ?_)
  all_goals first | (cases x <;> first | exact absurd (by decide) h | rfl) | rfl

theorem execFrameUp_framed (m : PassMsg) (s : State) : Framed [.regs, .free, .pass, .host, .eth, .air, .qmg, .rx, .link] s (execFrameUp m
    s) := by
  refine Framed.next ?_
  dsimp only
  with_reducible repeat' first
    | exact Within.refl _ _ | assumption | apply State.passRx_within | apply State.takeSide_within | apply State.ethUp_within
    | (simp only [id]; assumption) | refine Within.ite (fun _ => ?_) (fun _ => ?_) | intro x h
    | (simp only [Within.lit]; refine Within.upd ?_ ?_ ?_)
  all_goals first | (cases x <;> first | exact absurd (by decide) h | rfl) | rfl

theorem execDesc_framed (m : PassMsg) (s : State) : Framed [.regs, .free, .pass, .host, .safe, .log, .cmds, .ends, .cvn, .cvnIds, .air,
    .qmg, .rf, .rx, .link] s (execDesc m s) := by
  refine Framed.next ?_
  with_reducible repeat' first
    | exact Within.refl _ _ | assumption | apply State.passRx_within | apply State.descTake_within | apply State.cplOpen_within
    | apply State.cmdDone_within | intro x h
  all_goals rfl

theorem execCompl_framed (m : PassMsg) (s : State) : Framed [.regs, .free, .pass, .host, .air, .qmg, .rx, .link] s (execCompl m s) := by
  refine Framed.next ?_
  with_reducible repeat' first
    | exact Within.refl _ _ | assumption | apply State.passRx_within | apply State.cplDeliver_within | (simp only [id]; assumption)
    | intro x h
  all_goals rfl

theorem execEvent_framed (m : PassMsg) (s : State) : Framed [.regs, .free, .pass, .host, .air, .qmg, .rx, .link] s (execEvent m s) := by
  refine Framed.next ?_
  with_reducible repeat' first
    | exact Within.refl _ _ | assumption | apply State.passRx_within | apply State.evtRoute_within | (simp only [id]; assumption)
    | intro x h
  all_goals rfl

theorem execRegRd_framed (d : Die) (m : PassMsg) (s : State) : Framed [.regs, .free, .pass, .host, .eth, .time, .safe, .log, .cvn,
    .cvnIds, .air, .qmg, .shp, .rf, .rx, .link, .key, .vault, .mesh] s (execRegRd d m s) := by
  refine Framed.next ?_
  dsimp only
  with_reducible repeat' first
    | exact Within.refl _ _ | assumption | apply State.passRx_within | apply State.regReject_within | apply State.fRead_within
    | apply State.regGet_within | apply State.passSend_within | (simp only [id]; assumption)
    | refine Within.ite (fun _ => ?_) (fun _ => ?_) | intro x h | (simp only [Within.lit]; refine Within.upd ?_ ?_ ?_) | split
  all_goals first | (cases x <;> first | exact absurd (by decide) h | rfl) | rfl

theorem execRegWr_framed (d : Die) (m : PassMsg) (s : State) : Framed [.regs, .free, .pass, .host, .eth, .time, .safe, .log, .save, .pwr,
    .boot, .cmds, .ends, .ndir, .cvn, .cvnIds, .air, .qmg, .shp, .rf, .rx, .link, .slot, .key, .vault, .lpm, .mesh] s (execRegWr d m s) := by
  refine Framed.next ?_
  dsimp only
  with_reducible repeat' first
    | exact Within.refl _ _ | assumption | apply State.passRx_within | apply State.guardRaise_within | apply State.regReject_within
    | apply State.withGuard_within | apply State.regPut_within | apply State.heldFlush_within | (simp only [id]; assumption)
    | refine Within.ite (fun _ => ?_) (fun _ => ?_) | intro x h | split
  all_goals rfl

theorem execRegRsp_framed (d : Die) (m : PassMsg) (s : State) : Framed [.regs, .free, .pass, .host, .air, .qmg, .rx, .link] s (execRegRsp
    d m s) := by
  refine Framed.next ?_
  with_reducible repeat' first
    | exact Within.refl _ _ | assumption | apply State.passRx_within | apply State.rspTake_within | (simp only [id]; assumption)
    | intro x h | split
  all_goals rfl

theorem execTimeSync_framed (m : PassMsg) (s : State) : Framed [.regs, .now, .free, .pass, .host, .time, .air, .qmg, .rx, .link] s
    (execTimeSync m s) := by
  refine Framed.next ?_
  dsimp only
  with_reducible repeat' first
    | exact Within.refl _ _ | assumption | apply State.passRx_within | apply State.advanceTo_within | (simp only [id]; assumption)
    | intro x h | (simp only [Within.lit]; refine Within.upd ?_ ?_ ?_)
  all_goals first | (cases x <;> first | exact absurd (by decide) h | rfl) | rfl

theorem execTsReport_framed (m : PassMsg) (s : State) : Framed [.regs, .free, .pass, .host, .time, .air, .qmg, .rx, .link] s (execTsReport
    m s) := by
  refine Framed.next ?_
  dsimp only
  with_reducible repeat' first
    | exact Within.refl _ _ | assumption | apply State.passRx_within | apply State.setDom_within | (simp only [id]; assumption)
    | refine Within.ite (fun _ => ?_) (fun _ => ?_) | intro x h
  all_goals rfl

theorem execHealth_framed (d : Die) (m : PassMsg) (s : State) : Framed [.regs, .free, .pass, .host, .safe, .log, .boot, .cvn, .cvnIds,
    .air, .qmg, .rf, .rx, .link] s (execHealth d m s) := by
  refine Framed.next ?_
  dsimp only
  with_reducible repeat' first
    | exact Within.refl _ _ | assumption | apply State.passRx_within | apply State.setFld_within | apply State.quiet_within
    | apply State.quietOver_within | apply State.bumpBy_within | apply State.hPeer_within | (simp only [id]; assumption)
    | refine Within.ite (fun _ => ?_) (fun _ => ?_) | intro x h | (simp only [Within.lit]; refine Within.upd ?_ ?_ ?_) | split
  all_goals first | (cases x <;> first | exact absurd (by decide) h | rfl) | rfl

theorem execHealthSend_framed (d : Die) (s : State) : Framed [.pass] s (execHealthSend d s) := by
  refine Framed.next ?_
  dsimp only
  with_reducible repeat' first
    | exact Within.refl _ _ | apply State.passSend_within | split
  all_goals rfl

theorem execHealthTimeout_framed (d : Die) (s : State) : Framed [.regs, .now, .pass, .host, .time, .safe, .log, .boot, .cvn, .cvnIds,
    .air, .qmg, .rf, .link] s (execHealthTimeout d s) := by
  refine Framed.next ?_
  dsimp only
  with_reducible repeat' first
    | exact Within.refl _ _ | apply State.advanceTo_within | apply State.quiet_within | apply State.hPeer_within
    | refine Within.ite (fun _ => ?_) (fun _ => ?_) | (simp only [Within.lit]; refine Within.upd ?_ ?_ ?_) | split | intro x h
  all_goals first | (cases x <;> first | exact absurd (by decide) h | rfl) | rfl

theorem execSafeAssert_framed (d : Die) (m : PassMsg) (s : State) : Framed [.regs, .free, .pass, .host, .safe, .log, .cvn, .cvnIds, .air,
    .qmg, .rf, .rx, .link] s (execSafeAssert d m s) := by
  refine Framed.next ?_
  dsimp only
  with_reducible repeat' first
    | exact Within.refl _ _ | assumption | apply State.passRx_within | apply State.setFld_within | apply State.quiet_within
    | (simp only [id]; assumption) | refine Within.ite (fun _ => ?_) (fun _ => ?_) | intro x h
    | (simp only [Within.lit]; refine Within.upd ?_ ?_ ?_) | split
  all_goals first | (cases x <;> first | exact absurd (by decide) h | rfl) | rfl

theorem execBootLoad_framed (m : PassMsg) (s : State) : Framed [.regs, .free, .pass, .host, .air, .qmg, .rx, .link] s (execBootLoad m s)
    := by
  refine Framed.next ?_
  dsimp only
  with_reducible repeat' first
    | exact Within.refl _ _ | assumption | apply State.passRx_within | (simp only [id]; assumption) | intro x h
    | (simp only [Within.lit]; refine Within.upd ?_ ?_ ?_)
  all_goals first | (cases x <;> first | exact absurd (by decide) h | rfl) | rfl

theorem execResetReq_framed (d : Die) (m : PassMsg) (s : State) : Framed [.regs, .free, .pass, .host, .safe, .log, .pwr, .boot, .cmds,
    .ends, .cvn, .cvnIds, .air, .qmg, .rf, .rx, .link, .key, .vault, .mesh] s (execResetReq d m s) := by
  refine Framed.next ?_
  with_reducible repeat' first
    | exact Within.refl _ _ | assumption | apply State.passRx_within | apply State.resetReqTake_within | apply State.partResetF_within
    | (simp only [id]; assumption) | refine Within.ite (fun _ => ?_) (fun _ => ?_) | intro x h | split
  all_goals rfl

theorem execPassResendTimeout_framed (d : Die) (s : State) : Framed [.regs, .now, .pass, .host, .time] s (execPassResendTimeout d s) := by
  refine Framed.next ?_
  dsimp only
  with_reducible repeat' first
    | exact Within.refl _ _ | apply State.advanceTo_within | apply State.bumpBy_within | apply State.setTxDir_within
    | apply State.passRestamp_within | apply State.hFree_within | apply State.passRetrain_within
    | refine Within.ite (fun _ => ?_) (fun _ => ?_) | split
  all_goals rfl

theorem execBandplanWrite_framed (p : Part) (data : Word) (s : State) : Framed [.regs] s (execBandplanWrite p data s) :=
  Framed.next (State.bandPlan_within _ _ _ (Within.refl _ _) rfl)

theorem execArrayEnable_framed (p : Part) (a : Fin 4) (data : Word) (s : State) : Framed [.regs, .free, .pass, .host, .safe, .log, .cvn,
    .cvnIds, .air, .qmg, .rf, .rx, .link, .slot, .key, .vault, .mesh] s (execArrayEnable p a data s) :=
  Framed.next (State.arrCfg_within _ _ _ _ (Within.refl _ _) rfl)

theorem execArrayDisable_framed (p : Part) (a : Fin 4) (data : Word) (s : State) : Framed [.regs, .free, .pass, .host, .safe, .log, .cvn,
    .cvnIds, .air, .qmg, .rf, .rx, .link, .slot, .key, .vault, .mesh] s (execArrayDisable p a data s) :=
  Framed.next (State.arrCfg_within _ _ _ _ (Within.refl _ _) rfl)

theorem execArrayConfigUpdate_framed (p : Part) (a : Fin 4) (data : Word) (s : State) : Framed [.regs, .free, .pass, .host, .safe, .log,
    .cvn, .cvnIds, .air, .qmg, .rf, .rx, .link, .slot, .key, .vault, .mesh] s (execArrayConfigUpdate p a data s) := by
  refine Framed.next ?_
  with_reducible repeat' first
    | exact Within.refl _ _ | apply State.arrCfg_within | refine Within.ite (fun _ => ?_) (fun _ => ?_)
  all_goals rfl

theorem execBeamEnable_framed (p : Part) (b : Fin 48) (data : Word) (s : State) : Framed [.regs, .free, .pass, .host, .safe, .log, .cvn,
    .cvnIds, .air, .qmg, .rf, .rx, .link, .slot, .key, .vault, .mesh] s (execBeamEnable p b data s) :=
  Framed.next (State.beamCfg_within _ _ _ _ (Within.refl _ _) rfl)

theorem execBeamDisable_framed (p : Part) (b : Fin 48) (data : Word) (s : State) : Framed [.regs, .free, .pass, .host, .safe, .log, .cvn,
    .cvnIds, .air, .qmg, .rf, .rx, .link, .slot, .key, .vault, .mesh] s (execBeamDisable p b data s) :=
  Framed.next (State.beamCfg_within _ _ _ _ (Within.refl _ _) rfl)

theorem execWeightWrite_framed (p : Part) (data : Word) (s : State) : Framed [.regs, .rf] s (execWeightWrite p data s) :=
  Framed.next (State.weightWrite_within _ _ _ (Within.refl _ _) rfl)

theorem execWeightRead_framed (p : Part) (s : State) : Framed [.regs, .host] s (execWeightRead p s) :=
  Framed.next (State.weightRead_within _ _ (Within.refl _ _) rfl)

theorem execWeightCommit_framed (p : Part) (data : Word) (s : State) : Framed [.regs] s (execWeightCommit p data s) :=
  Framed.next (State.weightCommit_within _ _ _ (Within.refl _ _) rfl)

theorem execCalRun_framed (p : Part) (data : Word) (s : State) : Framed [.regs, .rf] s (execCalRun p data s) :=
  Framed.next (State.calCtrl_within _ _ _ (Within.refl _ _) rfl)

theorem execCalIntervalExpiry_framed (a : Fin 4) (s : State) : Framed [.now, .time, .rf] s (execCalIntervalExpiry a s) := by
  refine Framed.next ?_
  dsimp only
  with_reducible repeat' first
    | exact Within.refl _ _ | apply State.advanceTo_within | apply State.calRequest_within | refine Within.ite (fun _ => ?_) (fun _ => ?_)
  all_goals rfl

theorem execCalibrationStart_framed (a : Fin 4) (s : State) : Framed [.regs, .pwr, .rf, .rx] s (execCalibrationStart a s) := by
  refine Framed.next ?_
  dsimp only
  with_reducible repeat' first
    | exact Within.refl _ _ | assumption | apply State.abandon_within | refine Within.ite (fun _ => ?_) (fun _ => ?_)
    | refine Within.foldl ?_ (fun _ _ _ => ?_) | (simp only [Within.lit]; refine Within.upd ?_ ?_ ?_) | intro x h
  all_goals first | (cases x <;> first | exact absurd (by decide) h | rfl) | rfl

theorem execCalibrationDone_framed (rx tx : List (Int × Int)) (s0 : State) : Framed [.regs, .now, .free, .pass, .time, .rf] s0
    (execCalibrationDone rx tx s0) := by
  refine Framed.next ?_
  dsimp only
  with_reducible repeat' first
    | exact Within.refl _ _ | assumption | apply State.advanceTo_within | apply State.setFld_within | apply State.calStale_within
    | apply State.calPut_within | apply State.wr_within | refine Within.ite (fun _ => ?_) (fun _ => ?_)
    | refine Within.foldl ?_ (fun _ _ _ => ?_) | (simp only [Within.lit]; refine Within.upd ?_ ?_ ?_) | split | intro x h
  all_goals first | (cases x <;> first | exact absurd (by decide) h | rfl) | rfl

theorem execCalMaxageExpiry_framed (a : Fin 4) (s : State) : Framed [.regs, .now, .pass, .time] s (execCalMaxageExpiry a s) := by
  refine Framed.next ?_
  dsimp only
  with_reducible repeat' first
    | exact Within.refl _ _ | apply State.advanceTo_within | apply State.calStale_within | refine Within.ite (fun _ => ?_) (fun _ => ?_)
  all_goals rfl

theorem execDieTempSample_framed (quarter : BitVec 12) (s0 : State) : Framed [.regs, .pass, .host, .safe, .log, .cvn, .cvnIds, .air, .qmg,
    .rf, .link] s0 (execDieTempSample quarter s0) := by
  refine Framed.next ?_
  dsimp only
  with_reducible repeat' first
    | exact Within.refl _ _ | assumption | apply State.setFld_within | apply State.calRequest_within | apply State.calStale_within
    | apply State.quiet_within | apply State.quietOver_within | refine Within.ite (fun _ => ?_) (fun _ => ?_)
    | refine Within.foldl ?_ (fun _ _ _ => ?_) | (simp only [Within.lit]; refine Within.upd ?_ ?_ ?_) | intro x h
  all_goals first | (cases x <;> first | exact absurd (by decide) h | rfl) | rfl

theorem execSlotPreparation_framed (k : SlotCheck) (s0 : State) : Framed [.regs, .now, .free, .pass, .host, .time, .safe, .log, .ends,
    .cvn, .cvnIds, .air, .qmg, .shp, .rf, .link, .slot, .key, .vault, .mesh] s0 (execSlotPreparation k s0) := by
  refine Framed.next ?_
  dsimp only
  with_reducible repeat' first
    | exact Within.refl _ _ | apply State.toNs_within | apply State.prepSettle_within | apply State.rollsRun_within
    | apply State.engStart_within | apply State.slotRead_within | apply State.engCheck_within | apply State.winPlan_within
    | apply State.slotPlan_within | refine Within.ite (fun _ => ?_) (fun _ => ?_) | (simp only [Within.lit]; refine Within.upd ?_ ?_ ?_)
    | split | intro x h
  all_goals first | (cases x <;> first | exact absurd (by decide) h | rfl) | rfl

theorem execBlankingStart_framed (id : Nat) (s : State) : Framed [.regs, .now, .time, .air, .rx] s (execBlankingStart id s) := by
  refine Framed.next ?_
  dsimp only
  with_reducible repeat' first
    | exact Within.refl _ _ | apply State.toNs_within | apply State.blankHit_within | apply State.txMod_within
    | refine Within.ite (fun _ => ?_) (fun _ => ?_) | split
  all_goals rfl

theorem execFeTxenAssert_framed (id : Nat) (s : State) : Framed [.now, .time, .air] s (execFeTxenAssert id s) := by
  refine Framed.next ?_
  with_reducible repeat' first
    | exact Within.refl _ _ | apply State.toNs_within | apply State.txMod_within | refine Within.ite (fun _ => ?_) (fun _ => ?_) | split
  all_goals rfl

theorem execTxFrameStart_framed (id : Nat) (k : SlotCheck) (s : State) : Framed [.regs, .now, .pass, .host, .time, .safe, .log, .cvn,
    .cvnIds, .air, .qmg, .rf, .link, .slot] s (execTxFrameStart id k s) := by
  refine Framed.next ?_
  dsimp only
  with_reducible repeat' first
    | exact Within.refl _ _ | apply State.toNs_within | apply State.txMod_within | apply State.engCheck_within
    | refine Within.ite (fun _ => ?_) (fun _ => ?_) | split
  all_goals rfl

theorem execTxFrameEnd_framed (id : Nat) (s : State) : Framed [.regs, .now, .free, .pass, .host, .time, .safe, .log, .cvn, .cvnIds, .air,
    .qmg, .rf, .link, .slot, .key, .vault, .mesh] s (execTxFrameEnd id s) := by
  refine Framed.next ?_
  dsimp only
  with_reducible repeat' first
    | exact Within.refl _ _ | apply State.toNs_within | apply State.txMod_within | apply State.txPins_within
    | apply State.txAttempt_within | refine Within.ite (fun _ => ?_) (fun _ => ?_) | split
  all_goals rfl

theorem execBlankingEnd_framed (a : Fin 4) (s : State) : Framed [.now, .time, .rf] s (execBlankingEnd a s) := by
  refine Framed.next ?_
  dsimp only
  with_reducible repeat' first
    | exact Within.refl _ _ | apply State.toNs_within | refine Within.ite (fun _ => ?_) (fun _ => ?_)
    | (simp only [Within.lit]; refine Within.upd ?_ ?_ ?_) | intro x h
  all_goals first | (cases x <;> first | exact absurd (by decide) h | rfl) | rfl

theorem execAckPointOpen_framed (k : Fin 16) (s : State) : Framed [.now, .time, .slot] s (execAckPointOpen k s) := by
  refine Framed.next ?_
  with_reducible repeat' first
    | exact Within.refl _ _ | apply State.toNs_within | apply State.ackMod_within | split
  all_goals rfl

theorem execAckPointClose_framed (k : Fin 16) (s : State) : Framed [.regs, .now, .free, .pass, .host, .time, .safe, .log, .cvn, .cvnIds,
    .air, .qmg, .rf, .link, .slot, .key, .vault, .mesh] s (execAckPointClose k s) := by
  refine Framed.next ?_
  with_reducible repeat' first
    | exact Within.refl _ _ | apply State.toNs_within | apply State.ackMod_within | apply State.ackSettle_within | split
  all_goals rfl

theorem execEnhAckBeamFix_framed (id : Nat) (s0 : State) : Framed [.regs, .now, .pass, .host, .time, .safe, .log, .cvn, .cvnIds, .air,
    .qmg, .rf, .link, .slot, .key, .vault] s0 (execEnhAckBeamFix id s0) := by
  refine Framed.next ?_
  dsimp only
  with_reducible repeat' first
    | exact Within.refl _ _ | assumption | apply State.toNs_within | apply State.keyCheck_within | apply State.ackAdmit_within
    | apply State.bump_within | apply State.ackSend_within | refine Within.ite (fun _ => ?_) (fun _ => ?_)
    | refine Within.foldl ?_ (fun _ _ _ => ?_) | (simp only [Within.lit]; refine Within.upd ?_ ?_ ?_) | split | intro x h
  all_goals first | (cases x <;> first | exact absurd (by decide) h | rfl) | rfl

theorem execPreambleDetection_framed (d : Detection) (s : State) : Framed [.regs, .rx] s (execPreambleDetection d s) := by
  refine Framed.next ?_
  with_reducible repeat' first
    | exact Within.refl _ _ | apply State.detLater_within | apply State.detNew_within | refine Within.ite (fun _ => ?_) (fun _ => ?_)
    | split
  all_goals rfl

theorem execSfdFound_framed (l : Fin 1152) (syms : List RxSym) (s : State) : Framed [.regs, .time, .air, .qmg, .rx, .link] s (execSfdFound
    l syms s) := by
  refine Framed.next ?_
  dsimp only
  with_reducible repeat' first
    | exact Within.refl _ _ | apply State.setLane_within | refine Within.ite (fun _ => ?_) (fun _ => ?_)
  all_goals rfl

theorem execSfdLimitExpiry_framed (l : Fin 1152) (s : State) : Framed [.regs, .now, .time, .rx] s (execSfdLimitExpiry l s) := by
  refine Framed.next ?_
  dsimp only
  with_reducible repeat' first
    | exact Within.refl _ _ | apply State.advanceTo_within | apply State.stat_within | apply State.freeLane_within
    | refine Within.ite (fun _ => ?_) (fun _ => ?_)
  all_goals rfl

theorem execPhrDecoded_framed (l : Fin 1152) (h : Phr) (syms : List RxSym) (s : State) : Framed [.regs, .air, .qmg, .rx, .link] s
    (execPhrDecoded l h syms s) := by
  refine Framed.next ?_
  dsimp only
  with_reducible repeat' first
    | exact Within.refl _ _ | apply State.stat_within | apply State.freeLane_within | apply State.setLane_within
    | refine Within.ite (fun _ => ?_) (fun _ => ?_) | split
  all_goals rfl

theorem execPsduEnd_framed (l : Fin 1152) (syms : List RxSym) (s : State) : Framed [.regs, .ends, .air, .qmg, .rx, .link] s (execPsduEnd l
    syms s) := by
  refine Framed.next ?_
  dsimp only
  with_reducible repeat' first
    | exact Within.refl _ _ | apply State.setLane_within | refine Within.ite (fun _ => ?_) (fun _ => ?_)
  all_goals rfl

theorem execFcsCheckDone_framed (l : Fin 1152) (ok : Bool) (rssi : BitVec 16) (cfo : Int) (s : State) : Framed [.regs, .rx] s
    (execFcsCheckDone l ok rssi cfo s) := by
  refine Framed.next ?_
  dsimp only
  with_reducible repeat' first
    | exact Within.refl _ _ | apply State.stat_within | apply State.statSet_within | apply State.setLane_within
    | apply State.freeLane_within | refine Within.ite (fun _ => ?_) (fun _ => ?_)
  all_goals rfl

theorem execCrossroadsArrival_framed (l : Fin 1152) (f : RxFrame) (faults : Fin 5) (s0 : State) : Framed [.regs, .free, .pass, .host,
    .time, .safe, .log, .ndir, .cvn, .cvnIds, .air, .qmg, .shp, .rf, .rx, .link, .slot, .key, .vault, .dir, .mesh] s0
    (execCrossroadsArrival l f faults s0) := by
  refine Framed.next ?_
  dsimp only
  with_reducible repeat' first
    | exact Within.refl _ _ | apply State.freeLane_within | apply State.bump_within | apply State.xrdBest_within
    | apply State.xrdPipe_within | refine Within.ite (fun _ => ?_) (fun _ => ?_) | split
  all_goals rfl

theorem execMergeWindowClose_framed (n : Nat) (s : State) : Framed [.regs, .now, .time, .ndir, .rx, .link, .dir] s (execMergeWindowClose n
    s) := by
  refine Framed.next ?_
  with_reducible repeat' first
    | exact Within.refl _ _ | apply State.advanceTo_within | apply State.xrdClose_within | split
  all_goals rfl

theorem execRecentKeyExpiry_framed (n : Nat) (s : State) : Framed [.now, .time, .rx] s (execRecentKeyExpiry n s) := by
  refine Framed.next ?_
  dsimp only
  with_reducible repeat' first
    | exact Within.refl _ _ | apply State.advanceTo_within | (simp only [Within.lit]; refine Within.upd ?_ ?_ ?_) | split | intro x h
  all_goals first | (cases x <;> first | exact absurd (by decide) h | rfl) | rfl

theorem execNoiseFloorSample_framed (p : Fin 8192) (floor : BitVec 16) (s : State) : Framed [.rx] s (execNoiseFloorSample p floor s) := by
  refine Framed.next ?_
  with_reducible repeat' first
    | exact Within.refl _ _ | apply State.statSet_within | refine Within.ite (fun _ => ?_) (fun _ => ?_)
  all_goals rfl

theorem execLpEnable_framed (part : Part) (data : Word) (s : State) : Framed [.regs, .rx] s (execLpEnable part data s) :=
  Framed.next (State.lpWrite_within _ _ _ (Within.refl _ _) rfl)

theorem execLpDisable_framed (part : Part) (data : Word) (s : State) : Framed [.regs, .rx] s (execLpDisable part data s) :=
  Framed.next (State.lpWrite_within _ _ _ (Within.refl _ _) rfl)

theorem execLpRead_framed (part : Part) (s : State) : Framed [.regs, .host] s (execLpRead part s) :=
  Framed.next (State.lpRead_within _ _ (Within.refl _ _) rfl)

theorem execProfileWrite_framed (part : Part) (data : Word) (s : State) : Framed [.regs, .rx] s (execProfileWrite part data s) :=
  Framed.next (State.profileWrite_within _ _ _ (Within.refl _ _) rfl)

theorem execSlotStart_framed (part : Part) (s : State) : Framed [.regs, .slot] s (execSlotStart part s) :=
  Framed.next (State.slotCtrl_within _ _ _ (Within.refl _ _) rfl)

theorem execSlotStop_framed (part : Part) (s : State) : Framed [.regs, .slot] s (execSlotStop part s) :=
  Framed.next (State.slotCtrl_within _ _ _ (Within.refl _ _) rfl)

theorem execSlotframeEnable_framed (part : Part) (i : Fin 64) (data : Word) (s : State) : Framed [.regs] s (execSlotframeEnable part i
    data s) :=
  Framed.next (State.sfWrite0_within _ _ _ _ (Within.refl _ _) rfl)

theorem execSlotframeDisable_framed (part : Part) (i : Fin 64) (data : Word) (s : State) : Framed [.regs] s (execSlotframeDisable part i
    data s) :=
  Framed.next (State.sfWrite0_within _ _ _ _ (Within.refl _ _) rfl)

theorem execCellWrite_framed (part : Part) (data : Word) (s : State) : Framed [.regs, .slot] s (execCellWrite part data s) :=
  Framed.next (State.cellWrite_within _ _ _ (Within.refl _ _) rfl)

theorem execCellRead_framed (part : Part) (s : State) : Framed [.regs, .host] s (execCellRead part s) :=
  Framed.next (State.cellRead_within _ _ (Within.refl _ _) rfl)

theorem execHopEntryWrite_framed (part : Part) (data : Word) (s : State) : Framed [.regs, .slot] s (execHopEntryWrite part data s) :=
  Framed.next (State.hopWrite_within _ _ _ (Within.refl _ _) rfl)

theorem execEngineBistStart_framed (e : Fin 2) (s : State) : Framed [.regs, .now, .time, .slot] s (execEngineBistStart e s) := by
  refine Framed.next ?_
  dsimp only
  with_reducible repeat' first
    | exact Within.refl _ _ | apply State.advanceTo_within | apply State.engSet_within | apply State.setFld_within
    | apply State.setEng_within | refine Within.ite (fun _ => ?_) (fun _ => ?_)
  all_goals rfl

theorem execEngineBistDone_framed (e : Fin 2) (sig : BitVec 128) (s : State) : Framed [.regs, .now, .time, .air, .qmg, .link, .slot] s
    (execEngineBistDone e sig s) := by
  refine Framed.next ?_
  dsimp only
  with_reducible repeat' first
    | exact Within.refl _ _ | apply State.advanceTo_within | apply State.setEng_within | apply State.engSet_within
    | refine Within.ite (fun _ => ?_) (fun _ => ?_)
  all_goals rfl

theorem execEngineProbationEnd_framed (e : Fin 2) (s : State) : Framed [.regs, .now, .time, .slot] s (execEngineProbationEnd e s) := by
  refine Framed.next ?_
  dsimp only
  with_reducible repeat' first
    | exact Within.refl _ _ | apply State.advanceTo_within | apply State.setEng_within | apply State.engSet_within
    | apply State.matchSync_within | refine Within.ite (fun _ => ?_) (fun _ => ?_)
  all_goals rfl

theorem execRxWindowOpen_framed (a : Fin 4) (s : State) : Framed [.now, .time, .slot] s (execRxWindowOpen a s) := by
  refine Framed.next ?_
  dsimp only
  with_reducible repeat' first
    | exact Within.refl _ _ | apply State.toNs_within | refine Within.ite (fun _ => ?_) (fun _ => ?_)
    | (simp only [Within.lit]; refine Within.upd ?_ ?_ ?_) | split | intro x h
  all_goals first | (cases x <;> first | exact absurd (by decide) h | rfl) | rfl

theorem execRxWindowClose_framed (a : Fin 4) (s : State) : Framed [.now, .time, .slot] s (execRxWindowClose a s) := by
  refine Framed.next ?_
  dsimp only
  with_reducible repeat' first
    | exact Within.refl _ _ | apply State.toNs_within | refine Within.ite (fun _ => ?_) (fun _ => ?_)
    | (simp only [Within.lit]; refine Within.upd ?_ ?_ ?_) | intro x h
  all_goals first | (cases x <;> first | exact absurd (by decide) h | rfl) | rfl

theorem execReassemblyTimeout_framed (p : Fin 8) (src size tag : Nat) (s : State) : Framed [.regs, .now, .time, .qmg, .mesh] s
    (execReassemblyTimeout p src size tag s) := by
  refine Framed.next ?_
  with_reducible repeat' first
    | exact Within.refl _ _ | apply State.advanceTo_within | apply State.reasmDrop_within | apply State.bump_within | split
  all_goals rfl

theorem execPanCreate_framed (part : Part) (p : Fin 8) (data : Word) (s : State) : Framed [.regs, .free, .pass, .host, .time, .safe, .log,
    .ends, .ndir, .cvn, .cvnIds, .air, .qmg, .rf, .link, .slot, .key, .vault, .mesh] s (execPanCreate part p data s) := by
  refine Framed.next ?_
  with_reducible repeat' first
    | exact Within.refl _ _ | apply State.panCtrl_within | refine Within.ite (fun _ => ?_) (fun _ => ?_)
  all_goals rfl

theorem execPanDelete_framed (part : Part) (p : Fin 8) (data : Word) (s : State) : Framed [.regs, .free, .pass, .host, .time, .safe, .log,
    .ends, .ndir, .cvn, .cvnIds, .air, .qmg, .rf, .link, .slot, .key, .vault, .mesh] s (execPanDelete part p data s) :=
  Framed.next (State.panCtrl_within _ _ _ _ (Within.refl _ _) rfl)

theorem execPanOwnerChange_framed (part : Part) (p : Fin 8) (data : Word) (s : State) : Framed [.regs, .free, .pass, .host, .time, .safe,
    .log, .ends, .ndir, .cvn, .cvnIds, .air, .qmg, .rf, .link, .slot, .key, .vault, .mesh] s (execPanOwnerChange part p data s) := by
  refine Framed.next ?_
  with_reducible repeat' first
    | exact Within.refl _ _ | apply State.panCtrl_within | refine Within.ite (fun _ => ?_) (fun _ => ?_)
  all_goals rfl

theorem execNbrEntryWrite_framed (p : Part) (data : Word) (s : State) : Framed [.regs, .link] s (execNbrEntryWrite p data s) :=
  Framed.next (State.nbrWrite_within _ _ _ (Within.refl _ _) rfl)

theorem execLivenessPeriodExpiry_framed (n : Fin 8192) (s : State) : Framed [.regs, .now, .pass, .host, .time, .safe, .log, .ndir, .cvn,
    .cvnIds, .air, .qmg, .rf, .link, .key, .vault, .mesh] s (execLivenessPeriodExpiry n s) := by
  refine Framed.next ?_
  dsimp only
  with_reducible repeat' first
    | exact Within.refl _ _ | apply State.advanceTo_within | apply State.setNbr_within | apply State.nbrLost_within
    | refine Within.ite (fun _ => ?_) (fun _ => ?_)
  all_goals rfl

theorem execHeldFrameExpiry_framed (n : Fin 8192) (s : State) : Framed [.regs, .now, .pass, .host, .time, .safe, .log, .cvn, .cvnIds,
    .air, .qmg, .rf, .link, .key, .vault, .mesh] s (execHeldFrameExpiry n s) := by
  refine Framed.next ?_
  dsimp only
  with_reducible repeat' first
    | exact Within.refl _ _ | assumption | apply State.advanceTo_within | apply State.finish_within
    | refine Within.ite (fun _ => ?_) (fun _ => ?_) | refine Within.foldl ?_ (fun _ _ _ => ?_)
  all_goals rfl

theorem execQuarantineExpiry_framed (p : Fin 8) (a : BitVec 16) (s : State) : Framed [.regs, .link] s (execQuarantineExpiry p a s) := by
  refine Framed.next ?_
  dsimp only
  with_reducible repeat' first
    | exact Within.refl _ _ | apply State.addrSync_within | refine Within.ite (fun _ => ?_) (fun _ => ?_)
    | (simp only [Within.lit]; refine Within.upd ?_ ?_ ?_) | intro x h
  all_goals first | (cases x <;> first | exact absurd (by decide) h | rfl) | rfl

theorem execJoinCacheExpiry_framed (eui : Word64) (s : State) : Framed [.now, .time, .link] s (execJoinCacheExpiry eui s) := by
  refine Framed.next ?_
  dsimp only
  with_reducible repeat' first
    | exact Within.refl _ _ | apply State.advanceTo_within | (simp only [Within.lit]; refine Within.upd ?_ ?_ ?_) | split | intro x h
  all_goals first | (cases x <;> first | exact absurd (by decide) h | rfl) | rfl

theorem execJoinAccept_framed (c : CmdDesc) (dma : Dma) (s0 : State) : Framed [.regs, .pass, .host, .safe, .log, .cmds, .ends, .ndir,
    .cvn, .cvnIds, .air, .qmg, .rf, .link, .key, .vault, .dir] s0 (execJoinAccept c dma s0) := by
  refine Framed.next ?_
  dsimp only
  with_reducible repeat' first
    | exact Within.refl _ _ | apply State.cmdTake_within | apply State.blobReady_within | apply State.cmdDone_within
    | apply State.bump_within | apply State.blobPut_within | apply State.nbrAdd_within | apply State.joinBind_within
    | apply State.linkLoad_within | apply State.cmdOk_within | refine (State.nodeCreate_within ?_ ?_).1 _ _ (by assumption)
    | refine (State.nodeCreate_within ?_ ?_).2 _ _ (by assumption) | refine Within.ite (fun _ => ?_) (fun _ => ?_) | split
  all_goals rfl

theorem execNodeRelease_framed (c : CmdDesc) (s0 : State) : Framed [.regs, .pass, .host, .safe, .log, .cmds, .ends, .ndir, .cvn, .cvnIds,
    .air, .qmg, .rf, .link, .key, .vault, .dir, .mesh] s0 (execNodeRelease c s0) := by
  refine Framed.next ?_
  dsimp only
  with_reducible repeat' first
    | exact Within.refl _ _ | apply State.cmdTake_within | apply State.cmdBad_within | apply State.nodeDelete_within
    | apply State.cmdOk_within | refine Within.ite (fun _ => ?_) (fun _ => ?_)
  all_goals rfl

theorem execNbrAdd_framed (c : CmdDesc) (dma : Dma) (s0 : State) : Framed [.regs, .pass, .host, .safe, .log, .cmds, .ends, .ndir, .cvn,
    .cvnIds, .air, .qmg, .rf, .link, .key, .vault] s0 (execNbrAdd c dma s0) := by
  refine Framed.next ?_
  dsimp only
  with_reducible repeat' first
    | exact Within.refl _ _ | apply State.cmdTake_within | apply State.blobReady_within | apply State.cmdBad_within
    | apply State.cmdDone_within | apply State.blobPut_within | apply State.nbrAdd_within | apply State.cmdOk_within
    | refine Within.ite (fun _ => ?_) (fun _ => ?_) | split
  all_goals rfl

theorem execNbrRemove_framed (c : CmdDesc) (s0 : State) : Framed [.regs, .pass, .host, .safe, .log, .cmds, .ends, .ndir, .cvn, .cvnIds,
    .air, .qmg, .rf, .link, .key, .vault, .mesh] s0 (execNbrRemove c s0) := by
  refine Framed.next ?_
  dsimp only
  with_reducible repeat' first
    | exact Within.refl _ _ | apply State.cmdTake_within | apply State.cmdBad_within | apply State.nbrRemove_within
    | apply State.cmdOk_within | refine Within.ite (fun _ => ?_) (fun _ => ?_)
  all_goals rfl

theorem execAddrQuarantine_framed (c : CmdDesc) (s0 : State) : Framed [.regs, .pass, .cmds, .ends, .link] s0 (execAddrQuarantine c s0) := by
  refine Framed.next ?_
  dsimp only
  with_reducible repeat' first
    | exact Within.refl _ _ | apply State.cmdTake_within | apply State.cmdBad_within | apply State.shortQuar_within
    | apply State.cmdOk_within | refine Within.ite (fun _ => ?_) (fun _ => ?_)
  all_goals rfl

theorem execKeyLoadDone_framed (k : Fin 4) (s0 : State) : Framed [.regs, .free, .pass, .host, .time, .safe, .log, .ndir, .cvn, .cvnIds,
    .air, .qmg, .shp, .rf, .rx, .link, .slot, .key, .vault, .dir, .mesh] s0 (execKeyLoadDone k s0) := by
  refine Framed.next ?_
  dsimp only
  with_reducible repeat' first
    | exact Within.refl _ _ | apply State.keyUnits_within | apply State.loadEnd_within | split
  all_goals rfl

theorem execKeyLoadTimeout_framed (k : Fin 516) (s : State) : Framed [.regs, .now, .pass, .host, .time, .safe, .log, .cvn, .cvnIds, .air,
    .qmg, .rf, .link, .key, .vault, .mesh] s (execKeyLoadTimeout k s) := by
  refine Framed.next ?_
  dsimp only
  with_reducible repeat' first
    | exact Within.refl _ _ | apply State.advanceTo_within | apply State.loadDrop_within | apply State.waitsTake_within
    | apply State.bump_within | apply State.keyFramesEnd_within | apply State.keyUnits_within
    | refine Within.ite (fun _ => ?_) (fun _ => ?_) | split
  all_goals rfl

theorem execKeyScrub_framed (before after : List (Fin 8192 × Nat)) (s : State) : Framed [.regs, .pass, .host, .safe, .log, .cvn, .cvnIds,
    .air, .qmg, .rf, .link, .key] s (execKeyScrub before after s) :=
  Framed.next (State.keyScrub_within _ _ _ (Within.refl _ _) rfl)

theorem execKeySlotErase_framed (p : Part) (data : Word) (s : State) : Framed [.regs, .pass, .host, .safe, .log, .cvn, .cvnIds, .air,
    .qmg, .rf, .link, .key] s (execKeySlotErase p data s) :=
  Framed.next (State.slotErase_within _ _ _ (Within.refl _ _) rfl)

theorem execTamperInput_framed (i : Fin 4) (high : Bool) (samples : Nat) (s : State) : Framed [.regs, .free, .pass, .host, .safe, .log,
    .cvn, .cvnIds, .air, .qmg, .rf, .link, .key, .vault] s (execTamperInput i high samples s) := by
  refine Framed.next ?_
  dsimp only
  with_reducible repeat' first
    | exact Within.refl _ _ | apply State.setFld_within | apply State.tamperSync_within | apply State.keyWipe_within
    | apply State.tamperReport_within | refine Within.ite (fun _ => ?_) (fun _ => ?_)
    | (simp only [Within.lit]; refine Within.upd ?_ ?_ ?_) | intro x h
  all_goals first | (cases x <;> first | exact absurd (by decide) h | rfl) | rfl

theorem execTamperLatchClear_framed (p : Part) (data : Word) (s : State) : Framed [.regs, .free, .pass, .host, .safe, .log, .cvn, .cvnIds,
    .air, .qmg, .rf, .link, .vault] s (execTamperLatchClear p data s) :=
  Framed.next (State.tamperClear_within _ _ _ (Within.refl _ _) rfl)

theorem execKeyStore_framed (c : CmdDesc) (dma : Dma) (s0 : State) : Framed [.regs, .pass, .host, .safe, .log, .cmds, .ends, .cvn,
    .cvnIds, .air, .qmg, .rf, .link, .key, .vault] s0 (execKeyStore c dma s0) := by
  refine Framed.next ?_
  dsimp only
  with_reducible repeat' first
    | exact Within.refl _ _ | apply State.cmdTake_within | apply State.cmdBad_within | apply State.kekReady_within
    | apply State.cmdDone_within | apply State.blobPut_within | apply State.cmdOk_within | refine Within.ite (fun _ => ?_) (fun _ => ?_)
    | split
  all_goals rfl

theorem execKeyDelete_framed (c : CmdDesc) (s0 : State) : Framed [.regs, .pass, .cmds, .ends, .key] s0 (execKeyDelete c s0) := by
  refine Framed.next ?_
  dsimp only
  with_reducible repeat' first
    | exact Within.refl _ _ | apply State.cmdTake_within | apply State.cmdBad_within | apply State.setSlots_within
    | apply State.cmdOk_within | refine Within.ite (fun _ => ?_) (fun _ => ?_) | (simp only [Within.lit]; refine Within.upd ?_ ?_ ?_)
    | intro x h
  all_goals first | (cases x <;> first | exact absurd (by decide) h | rfl) | rfl

theorem Within.setKey {l : List Comp} {a b : State} (h : Within l a b) (hkey : .key ∈ l) (x : KeySt) : Within l a { b with key := x } :=
  Within.upd h rfl (fun k hk => by cases k <;> first | exact absurd hkey hk | rfl)

theorem execPanKeySet_framed (c : CmdDesc) (s0 : State) : Framed [.regs, .pass, .host, .safe, .log, .cmds, .ends, .cvn, .cvnIds, .air,
    .qmg, .rf, .link, .key, .vault] s0 (execPanKeySet c s0) := by
  unfold execPanKeySet
  refine Framed.next (Within.ite (fun _ => Within.refl _ _) (fun _ => ?_))
  have htake := State.cmdTake_within s0 c (Within.refl [.regs, .pass, .host, .safe, .log, .cmds, .ends, .cvn, .cvnIds, .air, .qmg, .rf,
    .link, .key, .vault] s0) rfl
  generalize s0.cmdTake c = u at htake
  refine Within.ite (fun _ => State.cmdBad_within _ _ _ htake rfl) (fun _ => ?_)
  refine Within.ite (fun _ => State.cmdBad_within _ _ _ htake rfl) (fun _ => ?_)
  have hkek := State.kekReady_within u (blobPart (u.blob (kpos c))) htake rfl
  generalize u.kekReady (blobPart (u.blob (kpos c))) = v at hkek
  dsimp only
  split
  · exact State.cmdDone_within _ _ _ _ _ _ hkek rfl
  split
  · exact Within.refl _ _
  next m _ _ w hroom =>
  have hput := State.keyPut_within _ (if bitAt c.w1 3 then .group (lpan c) (1 - u.groupCur (lpan c)) else .join (lpan c)) m
    (State.bump_within _ R.KEY_CNT_MISS ((State.keyRoom_within v _ hkek rfl).use hroom) rfl) rfl
  refine Within.ite (fun _ => State.cmdOk_within _ _ _ ?_ rfl)
    (fun _ => State.cmdOk_within _ _ _ (State.setFld_within _ _ _ _ hput rfl) rfl)
  exact Within.setKey (State.setFld_within _ _ _ _ (State.setFld_within _ _ _ _ (State.setFld_within _ _ _ _ hput rfl) rfl) rfl) (by decide) _

theorem execGroupRoll_framed (c : CmdDesc) (s0 : State) : Framed [.regs, .pass, .cmds, .ends, .key, .vault] s0 (execGroupRoll c s0) := by
  refine Framed.next ?_
  dsimp only
  with_reducible repeat' first
    | exact Within.refl _ _ | apply State.cmdTake_within | apply State.cmdBad_within | apply State.cplKeep_within
    | apply State.rollRun_within | refine Within.ite (fun _ => ?_) (fun _ => ?_) | (simp only [Within.lit]; refine Within.upd ?_ ?_ ?_)
    | intro x h
  all_goals first | (cases x <;> first | exact absurd (by decide) h | rfl) | rfl

theorem execGroupGraceExpiry_framed (p : Fin 8) (s : State) : Framed [.regs, .now, .time, .key, .vault] s (execGroupGraceExpiry p s) := by
  refine Framed.next ?_
  with_reducible repeat' first
    | exact Within.refl _ _ | apply State.advanceTo_within | apply State.graceEnd_within | refine Within.ite (fun _ => ?_) (fun _ => ?_)
  all_goals rfl

theorem execDeriveLoad_framed (c : CmdDesc) (s0 : State) : Framed [.regs, .pass, .host, .safe, .log, .cmds, .ends, .cvn, .cvnIds, .air,
    .qmg, .rf, .link, .key, .vault] s0 (execDeriveLoad c s0) := by
  refine Framed.next ?_
  dsimp only
  with_reducible repeat' first
    | exact Within.refl _ _ | apply State.cmdTake_within | apply State.cmdBad_within | apply State.kekReady_within
    | apply State.cmdDone_within | refine WithinOpt.use (State.keyRoom_within _ _ ?_ ?_) (by assumption) | apply State.setSlots_within
    | apply State.bump_within | apply State.keyPut_within | apply State.cmdOk_within | refine Within.ite (fun _ => ?_) (fun _ => ?_)
    | split
  all_goals rfl

theorem execDeriveUnload_framed (c : CmdDesc) (s0 : State) : Framed [.regs, .pass, .cmds, .ends, .key] s0 (execDeriveUnload c s0) := by
  refine Framed.next ?_
  dsimp only
  with_reducible repeat' first
    | exact Within.refl _ _ | apply State.cmdTake_within | apply State.cmdBad_within | apply State.keyForget_within
    | apply State.cmdOk_within | refine Within.ite (fun _ => ?_) (fun _ => ?_)
  all_goals rfl

theorem execKekSet_framed (c : CmdDesc) (dma : Dma) (s0 : State) : Framed [.regs, .free, .pass, .host, .safe, .log, .cmds, .ends, .cvn,
    .cvnIds, .air, .qmg, .rf, .link, .key, .vault] s0 (execKekSet c dma s0) := by
  refine Framed.next ?_
  dsimp only
  with_reducible repeat' first
    | exact Within.refl _ _ | apply State.cmdTake_within | apply State.cmdBad_within | apply State.draw_within
    | apply State.cmdDone_within | refine WithinOpt.use (State.keyRoom_within _ _ ?_ ?_) (by assumption) | apply State.kekReady_within
    | apply State.kekTake_within | refine WithinOpt.getD ?_ ?_ | refine Within.ite (fun _ => ?_) (fun _ => ?_)
    | apply State.keyRoom_within | split
  all_goals rfl

theorem execKekRewrapDone_framed (p : Part) (s : State) : Framed [.regs, .pass, .ends, .key] s (execKekRewrapDone p s) := by
  refine Framed.next ?_
  dsimp only
  with_reducible repeat' first
    | exact Within.refl _ _ | apply State.setFld_within | apply State.cmdOk_within | refine Within.ite (fun _ => ?_) (fun _ => ?_)
    | (simp only [Within.lit]; refine Within.upd ?_ ?_ ?_) | split | intro x h
  all_goals first | (cases x <;> first | exact absurd (by decide) h | rfl) | rfl

theorem execKeyCtrRaise_framed (c : CmdDesc) (s0 : State) : Framed [.pass, .cmds, .ends, .key, .vault] s0 (execKeyCtrRaise c s0) := by
  refine Framed.next ?_
  dsimp only
  with_reducible repeat' first
    | exact Within.refl _ _ | apply State.cmdTake_within | apply State.cmdBad_within | apply State.setCtr_within
    | apply State.checkpoint_within | apply State.evtF_within | apply State.cmdOk_within | refine Within.ite (fun _ => ?_) (fun _ => ?_)
  all_goals rfl

theorem execSearch_framed (c : CmdDesc) (s : State) : Framed [.pass, .host, .cmds, .ends] s (execSearch c s) := by
  refine Framed.next ?_
  dsimp only
  with_reducible repeat' first
    | exact Within.refl _ _ | assumption | apply State.dirRun_within | apply State.cmdBad_within | apply State.cmdOk_within
    | apply State.memWrite_within | refine Within.ite (fun _ => ?_) (fun _ => ?_) | intro x h | split
  all_goals rfl

theorem execInsert_framed (c : CmdDesc) (dma : Dma) (s : State) : Framed [.regs, .pass, .cmds, .ends, .ndir, .link, .dir] s (execInsert c
    dma s) := by
  refine Framed.next ?_
  dsimp only
  with_reducible repeat' first
    | exact Within.refl _ _ | assumption | apply State.dirRun_within | apply State.cmdBad_within | apply State.bump_within
    | apply State.cmdDone_within | apply State.cmdOk_within | refine (State.nodeCreate_within ?_ ?_).1 _ _ (by assumption)
    | refine (State.nodeCreate_within ?_ ?_).2 _ _ (by assumption) | refine Within.ite (fun _ => ?_) (fun _ => ?_) | intro x h
    | (simp only [Within.lit]; refine Within.upd ?_ ?_ ?_) | split
  all_goals first | (cases x <;> first | exact absurd (by decide) h | rfl) | rfl

theorem execDelete_framed (c : CmdDesc) (s : State) : Framed [.regs, .pass, .host, .safe, .log, .cmds, .ends, .ndir, .cvn, .cvnIds, .air,
    .qmg, .rf, .link, .key, .vault, .dir, .mesh] s (execDelete c s) := by
  refine Framed.next ?_
  dsimp only
  with_reducible repeat' first
    | exact Within.refl _ _ | assumption | apply State.dirRun_within | apply State.cmdBad_within | apply State.nodeDelete_within
    | apply State.cmdOk_within | refine Within.ite (fun _ => ?_) (fun _ => ?_) | intro x h | split
  all_goals rfl

theorem execUpdate_framed (c : CmdDesc) (dma : Dma) (s : State) : Framed [.pass, .cmds, .ends, .ndir] s (execUpdate c dma s) := by
  refine Framed.next ?_
  dsimp only
  with_reducible repeat' first
    | exact Within.refl _ _ | assumption | apply State.dirRun_within | apply State.cmdBad_within | apply State.setNode_within
    | apply State.cmdOk_within | refine Within.ite (fun _ => ?_) (fun _ => ?_) | intro x h | split
  all_goals rfl

theorem execNext_framed (c : CmdDesc) (s : State) : Framed [.free, .pass, .host, .cmds, .ends, .dir] s (execNext c s) := by
  refine Framed.next ?_
  dsimp only
  with_reducible repeat' first
    | exact Within.refl _ _ | assumption | apply State.dirRun_within | apply State.cmdBad_within | apply State.cmdOk_within
    | apply State.nextItems_within | apply State.memWrite_within | apply State.setIter_within
    | refine Within.ite (fun _ => ?_) (fun _ => ?_) | intro x h
  all_goals rfl

theorem execFlushByPort_framed (c : CmdDesc) (s : State) : Framed [.pass, .pwr, .cmds, .ends, .dir] s (execFlushByPort c s) := by
  refine Framed.next ?_
  dsimp only
  with_reducible repeat' first
    | exact Within.refl _ _ | apply State.cmdTake_within | apply State.cmdBad_within | apply State.cmdOk_within
    | refine Within.ite (fun _ => ?_) (fun _ => ?_) | (simp only [Within.lit]; refine Within.upd ?_ ?_ ?_) | intro x h
  all_goals first | (cases x <;> first | exact absurd (by decide) h | rfl) | rfl

theorem execIterationExpiry_framed (p : Part) (b : Bool) (s : State) : Framed [.now, .time, .dir] s (execIterationExpiry p b s) := by
  refine Framed.next ?_
  dsimp only
  with_reducible repeat' first
    | exact Within.refl _ _ | apply State.advanceTo_within | apply State.setIter_within | split
  all_goals rfl

theorem execPrefixSearch_framed (c : CmdDesc) (s : State) : Framed [.regs, .pass, .cmds, .ends] s (execPrefixSearch c s) := by
  refine Framed.next ?_
  dsimp only
  with_reducible repeat' first
    | exact Within.refl _ _ | assumption | apply State.prefixRun_within | apply State.lpmReads_within | apply State.cmdOk_within
    | apply State.cmdBad_within | refine Within.ite (fun _ => ?_) (fun _ => ?_) | intro x h | split
  all_goals rfl

theorem execPrefixInsert_framed (c : CmdDesc) (s : State) : Framed [.regs, .pass, .cmds, .ends, .lpm] s (execPrefixInsert c s) := by
  refine Framed.next ?_
  dsimp only
  with_reducible repeat' first
    | exact Within.refl _ _ | assumption | apply State.prefixRun_within | apply State.cmdBad_within | apply State.cmdDone_within
    | apply State.setPrefixes_within | apply State.cmdOk_within | refine Within.ite (fun _ => ?_) (fun _ => ?_) | intro x h | split
  all_goals rfl

theorem execPrefixDelete_framed (c : CmdDesc) (s : State) :
    Framed [.regs, .pass, .cmds, .ends, .lpm] s (execPrefixDelete c s) := by
  refine Framed.next (State.prefixRun_within _ _ _ (Within.refl _ _) (fun u h => ?_) rfl)
  refine Within.ite (fun _ => State.cmdBad_within _ _ _ h rfl) (fun _ => ?_)
  dsimp only
  split
  · exact State.cmdBad_within _ _ _ h rfl
  next i x _ =>
    refine State.cmdOk_within _ _ _ (State.filterCheck_within _ ?_ rfl) rfl
    have hput := State.setPrefixes_within u (adel i u.lpm.prefixes) h rfl
    generalize u.setPrefixes (adel i u.lpm.prefixes) = v at hput
    refine Within.ite (fun _ => ?_) (fun _ => hput)
    simp only [Within.lit]
    exact Within.upd hput rfl (fun k hk => by cases k <;> first | exact absurd (by decide) hk | rfl)

theorem execPrefixUpdate_framed (c : CmdDesc) (s : State) : Framed [.regs, .pass, .cmds, .ends, .lpm] s (execPrefixUpdate c s) := by
  refine Framed.next ?_
  dsimp only
  with_reducible repeat' first
    | exact Within.refl _ _ | assumption | apply State.prefixRun_within | apply State.cmdBad_within | apply State.setPrefixes_within
    | apply State.cmdOk_within | refine Within.ite (fun _ => ?_) (fun _ => ?_) | intro x h | split
  all_goals rfl

theorem execPrefixNext_framed (c : CmdDesc) (s : State) : Framed [.pass, .host, .cmds, .ends] s (execPrefixNext c s) := by
  refine Framed.next ?_
  dsimp only
  with_reducible repeat' first
    | exact Within.refl _ _ | assumption | apply State.prefixRun_within | apply State.cmdBad_within | apply State.cmdOk_within
    | apply State.memWrite_within | refine Within.ite (fun _ => ?_) (fun _ => ?_) | intro x h
  all_goals rfl

theorem execLpmModeChange_framed (p : Part) (data : Word) (s : State) : Framed [.regs, .pass, .host, .safe, .log, .cvn, .cvnIds, .air,
    .qmg, .rf, .link, .lpm] s (execLpmModeChange p data s) :=
  Framed.next (State.lpmModeWrite_within _ _ _ (Within.refl _ _) rfl)

theorem execContextWrite_framed (p : Part) (data : Word) (s : State) : Framed [.regs, .mesh] s (execContextWrite p data s) :=
  Framed.next (State.ctxWrite_within _ _ _ (Within.refl _ _) rfl)

theorem execMplSeed_framed (p : Fin 8) (s0 : State) :
    Framed [.regs, .free, .pass, .host, .safe, .log, .cvn, .cvnIds, .air, .qmg, .rf, .link, .key, .vault, .mesh] s0 (execMplSeed p s0) := by
  refine Framed.next ?_
  dsimp only
  with_reducible repeat' first
    | exact Within.refl _ _ | apply State.queueCheck_within | apply State.frameCheckFail_within | apply State.setQueue_within
    | apply State.seenPut_within | apply State.floodStart_within | refine Within.ite (fun _ => ?_) (fun _ => ?_)
    | split | (apply State.seedTake_within; assumption)
  all_goals rfl

theorem execTrickleInstant_framed (n : Nat) (faults : Fin 5) (s : State) : Framed [.regs, .now, .pass, .host, .time, .safe, .log, .cvn,
    .cvnIds, .air, .qmg, .shp, .rf, .rx, .link, .key, .vault, .mesh] s (execTrickleInstant n faults s) := by
  refine Framed.next ?_
  dsimp only
  with_reducible repeat' first
    | exact Within.refl _ _ | assumption | apply State.advanceTo_within | apply State.setFlood_within | apply State.onPipe_within
    | apply State.floodSend_within | refine Within.ite (fun _ => ?_) (fun _ => ?_) | intro x h | split
  all_goals rfl

theorem execTrickleIntervalEnd_framed (n : Nat) (s : State) : Framed [.regs, .now, .free, .pass, .time, .cvn, .qmg, .mesh] s
    (execTrickleIntervalEnd n s) := by
  refine Framed.next ?_
  dsimp only
  with_reducible repeat' first
    | exact Within.refl _ _ | apply State.advanceTo_within | apply State.floodEnd_within | apply State.floodInterval_within
    | apply State.setFlood_within | refine Within.ite (fun _ => ?_) (fun _ => ?_) | split
  all_goals rfl

theorem execSeenEntryExpiry_framed (p : Fin 8) (seed : Nat) (seq : Byte) (s : State) : Framed [.regs, .now, .time, .mesh] s
    (execSeenEntryExpiry p seed seq s) := by
  refine Framed.next ?_
  dsimp only
  with_reducible repeat' first
    | exact Within.refl _ _ | apply State.advanceTo_within | apply State.cacheSync_within
    | (simp only [Within.lit]; refine Within.upd ?_ ?_ ?_) | split | intro x h
  all_goals first | (cases x <;> first | exact absurd (by decide) h | rfl) | rfl

theorem execTwinEntryExpiry_framed (p : Fin 8) (o : Fin 524288) (seq : BitVec 16) (s : State) : Framed [.regs, .now, .time, .mesh] s
    (execTwinEntryExpiry p o seq s) := by
  refine Framed.next ?_
  dsimp only
  with_reducible repeat' first
    | exact Within.refl _ _ | apply State.advanceTo_within | apply State.cacheSync_within
    | (simp only [Within.lit]; refine Within.upd ?_ ?_ ?_) | split | intro x h
  all_goals first | (cases x <;> first | exact absurd (by decide) h | rfl) | rfl

theorem execGroupDefine_framed (c : CmdDesc) (s0 : State) : Framed [.pass, .cmds, .ends, .cvn] s0 (execGroupDefine c s0) := by
  refine Framed.next ?_
  dsimp only
  with_reducible repeat' first
    | exact Within.refl _ _ | apply State.cmdTake_within | apply State.cmdBad_within | apply State.setGroup_within
    | apply State.cmdOk_within | refine Within.ite (fun _ => ?_) (fun _ => ?_)
  all_goals rfl

theorem execGroupAdd_framed (c : CmdDesc) (dma : Dma) (s0 : State) : Framed [.regs, .pass, .cmds, .ends, .cvn] s0 (execGroupAdd c dma s0)
    := by
  refine Framed.next ?_
  dsimp only
  with_reducible repeat' first
    | exact Within.refl _ _ | apply State.cmdTake_within | apply State.cmdBad_within | apply State.cmdDone_within
    | apply State.setGroup_within | apply State.poolSync_within | apply State.cmdOk_within | refine Within.ite (fun _ => ?_) (fun _ => ?_)
  all_goals rfl

theorem execGroupRemove_framed (c : CmdDesc) (dma : Dma) (s0 : State) : Framed [.pass, .cmds, .ends, .cvn] s0 (execGroupRemove c dma s0)
    := by
  refine Framed.next ?_
  dsimp only
  with_reducible repeat' first
    | exact Within.refl _ _ | apply State.cmdTake_within | apply State.cmdBad_within | apply State.setGroup_within
    | apply State.cmdOk_within | refine Within.ite (fun _ => ?_) (fun _ => ?_)
  all_goals rfl

theorem execGroupCompact_framed (c : CmdDesc) (s0 : State) : Framed [.regs, .pass, .cmds, .ends, .cvn] s0 (execGroupCompact c s0) := by
  refine Framed.next ?_
  dsimp only
  with_reducible repeat' first
    | exact Within.refl _ _ | apply State.cmdTake_within | apply State.cmdBad_within | apply State.setGroup_within
    | apply State.poolSync_within | apply State.cmdOk_within | refine Within.ite (fun _ => ?_) (fun _ => ?_)
  all_goals rfl

theorem execGroupRead_framed (c : CmdDesc) (s0 : State) : Framed [.regs, .pass, .host, .cmds, .ends, .air, .qmg, .link] s0 (execGroupRead
    c s0) := by
  refine Framed.next ?_
  dsimp only
  with_reducible repeat' first
    | exact Within.refl _ _ | apply State.cmdTake_within | apply State.cmdBad_within | apply State.memWrite_within
    | apply State.cmdOk_within | refine Within.ite (fun _ => ?_) (fun _ => ?_)
  all_goals rfl

theorem execGroupDelete_framed (c : CmdDesc) (s0 : State) : Framed [.regs, .pass, .cmds, .ends, .cvn] s0 (execGroupDelete c s0) := by
  refine Framed.next ?_
  dsimp only
  with_reducible repeat' first
    | exact Within.refl _ _ | apply State.cmdTake_within | apply State.cmdBad_within | apply State.setGroup_within
    | apply State.poolSync_within | apply State.cmdOk_within | refine Within.ite (fun _ => ?_) (fun _ => ?_)
  all_goals rfl

theorem execCvnPost_framed (c : CmdDesc) (dma : Dma) (faults : Fin 5) (s0 : State) : Framed [.regs, .free, .pass, .host, .time, .safe,
    .log, .cmds, .ends, .ndir, .cvn, .cvnIds, .air, .qmg, .shp, .rf, .rx, .link, .key, .vault, .mesh] s0 (execCvnPost c dma faults s0) := by
  refine Framed.next ?_
  dsimp only
  with_reducible repeat' first
    | exact Within.refl _ _ | apply State.cmdTake_within | apply State.engineDraw_within | apply State.cmdDone_within
    | apply State.cvnDual_within | apply State.cvnAccept_within | refine Within.ite (fun _ => ?_) (fun _ => ?_) | split
  all_goals rfl

theorem execCvnCancel_framed (c : CmdDesc) (s0 : State) : Framed [.regs, .pass, .host, .safe, .log, .cmds, .ends, .cvn, .cvnIds, .air,
    .qmg, .rf, .link, .key, .vault, .mesh] s0 (execCvnCancel c s0) := by
  refine Framed.next ?_
  dsimp only
  with_reducible repeat' first
    | exact Within.refl _ _ | assumption | apply State.cmdTake_within | apply State.cmdBad_within | apply State.cvnAbort_within
    | apply State.cvnWaitEnd_within | apply State.cmdOk_within | refine Within.ite (fun _ => ?_) (fun _ => ?_)
    | refine Within.foldl ?_ (fun _ _ _ => ?_)
  all_goals rfl

theorem execCaravanPhaseEnd_framed (cid : BitVec 16) (s : State) : Framed [.regs, .now, .pass, .host, .time, .cvn, .cvnIds, .air, .qmg,
    .link] s (execCaravanPhaseEnd cid s) := by
  refine Framed.next ?_
  dsimp only
  with_reducible repeat' first
    | exact Within.refl _ _ | apply State.advanceTo_within | apply State.cvnEnd_within | apply State.cvnRound_within
    | refine Within.ite (fun _ => ?_) (fun _ => ?_) | split
  all_goals rfl

theorem execSweepCopyQueue_framed (cid : BitVec 16) (faults : Fin 5) (s : State) : Framed [.regs, .free, .pass, .host, .time, .safe, .log,
    .ndir, .cvn, .cvnIds, .air, .qmg, .shp, .rf, .rx, .link, .key, .vault, .mesh] s (execSweepCopyQueue cid faults s) := by
  refine Framed.next ?_
  dsimp only
  with_reducible repeat' first
    | exact Within.refl _ _ | apply State.setCvn_within | apply State.cvnSent_within | apply State.enginePipe_within
    | refine WithinOpt.use (State.engineSend_within _ _ _ ?_ ?_) (by assumption) | refine WithinOpt.getD ?_ ?_
    | refine Within.ite (fun _ => ?_) (fun _ => ?_) | apply State.engineSend_within | split
  all_goals rfl

theorem execCaravanExpiry_framed (cid : BitVec 16) (s : State) : Framed [.regs, .now, .pass, .host, .time, .safe, .log, .cvn, .cvnIds,
    .air, .qmg, .rf, .link, .key, .vault, .mesh] s (execCaravanExpiry cid s) := by
  refine Framed.next ?_
  with_reducible repeat' first
    | exact Within.refl _ _ | apply State.toCity_within | apply State.cvnAbort_within | refine Within.ite (fun _ => ?_) (fun _ => ?_)
    | split
  all_goals rfl

theorem execConcurTimeout_framed (g : BitVec 16) (p : Part) (s : State) : Framed [.regs, .now, .pass, .time, .ends, .cvn] s
    (execConcurTimeout g p s) := by
  refine Framed.next ?_
  with_reducible repeat' first
    | exact Within.refl _ _ | apply State.advanceTo_within | apply State.cvnWaitEnd_within | split
  all_goals rfl

theorem execCaravanIdRelease_framed (cid : BitVec 16) (s : State) : Framed [.regs, .cvnIds] s (execCaravanIdRelease cid s) := by
  refine Framed.next ?_
  dsimp only
  with_reducible repeat' first
    | exact Within.refl _ _ | apply State.cvnSync_within | refine Within.ite (fun _ => ?_) (fun _ => ?_)
    | (simp only [Within.lit]; refine Within.upd ?_ ?_ ?_) | intro x h
  all_goals first | (cases x <;> first | exact absurd (by decide) h | rfl) | rfl

theorem execImgOpen_framed (c : CmdDesc) (dma : Dma) (s0 : State) : Framed [.regs, .free, .pass, .host, .cmds, .ends, .cvn, .air, .qmg,
    .link] s0 (execImgOpen c dma s0) := by
  refine Framed.next ?_
  dsimp only
  with_reducible repeat' first
    | exact Within.refl _ _ | apply State.cmdTake_within | apply State.engineDraw_within | apply State.cmdDone_within
    | apply State.imgEnd_within | apply State.setSess_within | refine Within.ite (fun _ => ?_) (fun _ => ?_) | split
  all_goals rfl

theorem execImgCancel_framed (c : CmdDesc) (s0 : State) : Framed [.regs, .free, .pass, .host, .safe, .log, .cmds, .ends, .cvn, .cvnIds,
    .air, .qmg, .rf, .link, .key, .vault, .mesh] s0 (execImgCancel c s0) := by
  refine Framed.next ?_
  dsimp only
  with_reducible repeat' first
    | exact Within.refl _ _ | apply State.cmdTake_within | apply State.draw_within | apply State.cmdDone_within
    | apply State.cmdBad_within | apply State.imgAbort_within | apply State.cmdOk_within | refine Within.ite (fun _ => ?_) (fun _ => ?_)
    | split
  all_goals rfl

theorem execImageLoadDone_framed (i : Fin 4) (s : State) : Framed [.regs, .cvn] s (execImageLoadDone i s) := by
  refine Framed.next ?_
  dsimp only
  with_reducible repeat' first
    | exact Within.refl _ _ | apply State.setSess_within | refine Within.ite (fun _ => ?_) (fun _ => ?_) | split
  all_goals rfl

theorem execImageBlockSend_framed (i : Fin 4) (faults : Fin 5) (s0 : State) : Framed [.regs, .now, .free, .pass, .host, .time, .safe,
    .log, .ndir, .cvn, .cvnIds, .air, .qmg, .shp, .rf, .rx, .link, .key, .vault, .mesh] s0 (execImageBlockSend i faults s0) := by
  refine Framed.next ?_
  dsimp only
  with_reducible repeat' first
    | exact Within.refl _ _ | apply State.advanceTo_within | apply State.enginePipe_within
    | refine WithinOpt.use (State.engineSend_within _ _ _ ?_ ?_) (by assumption) | apply State.setSess_within | split
  all_goals rfl

theorem execReportWindowExpiry_framed (i : Fin 4) (s0 : State) : Framed [.regs, .now, .pass, .host, .time, .cvn, .air, .qmg, .link] s0
    (execReportWindowExpiry i s0) := by
  refine Framed.next ?_
  dsimp only
  with_reducible repeat' first
    | exact Within.refl _ _ | apply State.advanceTo_within | apply State.imgEnd_within | apply State.setSess_within
    | refine Within.ite (fun _ => ?_) (fun _ => ?_) | split
  all_goals rfl

theorem execRefillDone_framed (q : Nat) (s : State) : Framed [.regs, .pass, .host, .safe, .log, .cvn, .cvnIds, .air, .qmg, .rf, .link,
    .key, .vault, .mesh] s (execRefillDone q s) := by
  refine Framed.next ?_
  dsimp only
  with_reducible repeat' first
    | exact Within.refl _ _ | apply State.queueCheck_within | apply State.spillErrors_within | apply State.takeChain_within
    | apply State.setQueue_within | apply State.spill_within | refine Within.ite (fun _ => ?_) (fun _ => ?_)
  all_goals rfl

theorem execQueueFlush_framed (p : Part) (data : Word) (s : State) : Framed [.regs, .pass, .host, .safe, .log, .cvn, .cvnIds, .air, .qmg,
    .rf, .link, .key, .vault, .mesh] s (execQueueFlush p data s) :=
  Framed.next (State.flushWrite_within _ _ _ (Within.refl _ _) rfl)

theorem execQueueEntryWrite_framed (p : Part) (data : Word) (s : State) : Framed [.regs, .qmg] s (execQueueEntryWrite p data s) :=
  Framed.next (State.qEntryWrite_within _ _ _ (Within.refl _ _) rfl)

theorem execEgressDequeue_framed (port : Fin 8) (s : State) : Framed [.regs, .pass, .host, .time, .safe, .log, .cvn, .cvnIds, .air, .qmg,
    .shp, .rf, .link, .key, .vault, .mesh] s (execEgressDequeue port s) := by
  refine Framed.next ?_
  dsimp only
  with_reducible repeat' first
    | exact Within.refl _ _ | apply State.serve_within | refine Within.ite (fun _ => ?_) (fun _ => ?_) | split
  all_goals rfl

theorem execPopWait_framed (p : Part) (s : State) : Framed [.regs, .pass, .host, .time, .safe, .log, .cvn, .cvnIds, .air, .qmg, .shp, .rf,
    .link, .key, .vault, .mesh] s (execPopWait p s) :=
  Framed.next (State.popWaitRead_within _ _ (Within.refl _ _) rfl)

theorem execPopData_framed (p : Part) (s : State) : Framed [.regs, .host, .air, .qmg, .link] s (execPopData p s) :=
  Framed.next (State.popDataRead_within _ _ (Within.refl _ _) rfl)

theorem execShaperRateWrite_framed (p : Part) (data : Word) (s : State) : Framed [.regs, .shp] s (execShaperRateWrite p data s) :=
  Framed.next (State.shaperRateWrite_within _ _ _ (Within.refl _ _) rfl)

theorem execShaperBurstWrite_framed (p : Part) (data : Word) (s : State) : Framed [.regs, .shp] s (execShaperBurstWrite p data s) :=
  Framed.next (State.shaperBurstWrite_within _ _ _ (Within.refl _ _) rfl)

theorem execPolicerWrite_framed (p : Part) (data : Word) (s : State) : Framed [.regs, .shp] s (execPolicerWrite p data s) :=
  Framed.next (State.policerWrite_within _ _ _ (Within.refl _ _) rfl)

theorem execShaperEligible_framed (i : Fin 1024) (s : State) : Framed [.regs, .now, .pass, .host, .time, .air, .qmg, .shp, .rx, .link] s
    (execShaperEligible i s) := by
  refine Framed.next ?_
  dsimp only
  with_reducible repeat' first
    | exact Within.refl _ _ | apply State.advanceTo_within | apply State.setShaper_within | apply State.popServe_within
    | refine Within.ite (fun _ => ?_) (fun _ => ?_)
  all_goals rfl

theorem execGclCommit_framed (p : Part) (e : Fin 4) (data : Word) (s : State) : Framed [.regs] s (execGclCommit p e data s) :=
  Framed.next (State.gclCtrl_within _ _ _ _ (Within.refl _ _) rfl)

theorem execGclSwitch_framed (e : Fin 4) (s : State) : Framed [.regs, .now, .eth, .time, .shp] s (execGclSwitch e s) := by
  refine Framed.next ?_
  dsimp only
  with_reducible repeat' first
    | exact Within.refl _ _ | apply State.elapse_within | apply State.setFld_within | refine Within.ite (fun _ => ?_) (fun _ => ?_)
    | (simp only [Within.lit]; refine Within.upd ?_ ?_ ?_) | intro x h
  all_goals first | (cases x <;> first | exact absurd (by decide) h | rfl) | rfl

theorem execGateIntervalEnd_framed (e : Fin 4) (s : State) : Framed [.regs, .now, .free, .host, .eth, .time, .air, .qmg, .shp, .link] s
    (execGateIntervalEnd e s) := by
  refine Framed.next ?_
  dsimp only
  with_reducible repeat' first
    | exact Within.refl _ _ | apply State.elapse_within | apply State.gateCycle_within
    | (simp only [Within.lit]; refine Within.upd ?_ ?_ ?_) | split | intro x h
  all_goals first | (cases x <;> first | exact absurd (by decide) h | rfl) | rfl

theorem execDoorbell_framed (p : Part) (r : Nat) (data : Word) (s : State) : Framed [.regs, .host, .pwr, .air, .qmg, .link] s
    (execDoorbell p r data s) :=
  Framed.next (State.doorbell_within _ _ _ _ (Within.refl _ _) rfl)

theorem execRingEnable_framed (p : Part) (r : Nat) (data : Word) (s : State) : Framed [.regs, .host, .air, .qmg, .link] s (execRingEnable
    p r data s) := by
  refine Framed.next ?_
  with_reducible repeat' first
    | exact Within.refl _ _ | apply State.ringCfg_within | refine Within.ite (fun _ => ?_) (fun _ => ?_)
  all_goals rfl

theorem execRingDisable_framed (p : Part) (r : Nat) (data : Word) (s : State) : Framed [.regs, .host, .air, .qmg, .link] s
    (execRingDisable p r data s) :=
  Framed.next (State.ringCfg_within _ _ _ _ (Within.refl _ _) rfl)

theorem execTxDescFetch_framed (p : Part) (r : Fin 16) (dma : Dma) (s : State) : Framed [.regs, .pass, .host, .pwr, .air, .qmg, .link] s
    (execTxDescFetch p r dma s) := by
  refine Framed.next ?_
  dsimp only
  with_reducible repeat' first
    | exact Within.refl _ _ | apply State.setFld_within | apply State.ringErr_within | apply State.ringNext_within
    | apply State.addFetched_within | apply State.txDoneH_within | apply State.passSend_within
    | refine Within.ite (fun _ => ?_) (fun _ => ?_) | (simp only [Within.lit]; refine Within.upd ?_ ?_ ?_) | split | intro x h
  all_goals first | (cases x <;> first | exact absurd (by decide) h | rfl) | rfl

theorem execCommandFetch_framed (p : Part) (dma : Dma) (s : State) : Framed [.regs, .pass, .host, .pwr, .air, .qmg, .link] s
    (execCommandFetch p dma s) := by
  refine Framed.next ?_
  dsimp only
  with_reducible repeat' first
    | exact Within.refl _ _ | apply State.setFld_within | apply State.ringErr_within | apply State.ringNext_within
    | apply State.addFetched_within | apply State.armLock_within | apply State.passSend_within
    | refine Within.ite (fun _ => ?_) (fun _ => ?_) | split
  all_goals rfl

theorem execRxWriteback_framed (p : Part) (r : Fin 16) (dma : Dma) (s : State) : Framed [.regs, .host, .air, .qmg, .link] s
    (execRxWriteback p r dma s) := by
  refine Framed.next ?_
  dsimp only
  with_reducible repeat' first
    | exact Within.refl _ _ | apply State.setFld_within | apply State.ringErr_within | apply State.rxWrite_within
    | apply State.txDoneH_within | refine Within.ite (fun _ => ?_) (fun _ => ?_) | (simp only [Within.lit]; refine Within.upd ?_ ?_ ?_)
    | split | intro x h
  all_goals first | (cases x <;> first | exact absurd (by decide) h | rfl) | rfl

theorem execVectorHoldoffExpiry_framed (p : Part) (v : Fin 32) (s : State) : Framed [.now, .host, .time] s (execVectorHoldoffExpiry p v s)
    := by
  refine Framed.next ?_
  dsimp only
  with_reducible repeat' first
    | exact Within.refl _ _ | apply State.advanceTo_within | apply State.vecRetry_within | refine Within.ite (fun _ => ?_) (fun _ => ?_)
    | (simp only [Within.lit]; refine Within.upd ?_ ?_ ?_) | intro x h
  all_goals first | (cases x <;> first | exact absurd (by decide) h | rfl) | rfl

theorem execMsixUnmask_framed (p : Part) (off : BitVec 14) (data : Option Word) (s : State) : Framed [.host] s (execMsixUnmask p off data
    s) := by
  refine Framed.next ?_
  with_reducible repeat' first
    | exact Within.refl _ _ | apply State.answer_within | apply State.msixWrite_within | refine Within.ite (fun _ => ?_) (fun _ => ?_)
    | split
  all_goals rfl

theorem execConfigRequest_framed (p : Part) (a : CfgAccess) (s : State) : Framed [.regs, .free, .host, .air, .qmg, .link] s
    (execConfigRequest p a s) := by
  refine Framed.next ?_
  dsimp only
  with_reducible repeat' first
    | exact Within.refl _ _ | apply State.cfgRun_within | refine Within.ite (fun _ => ?_) (fun _ => ?_)
    | (simp only [Within.lit]; refine Within.upd ?_ ?_ ?_) | intro x h
  all_goals first | (cases x <;> first | exact absurd (by decide) h | rfl) | rfl

theorem execBar0ReadTimeout_framed (p : Part) (s : State) : Framed [.now, .host, .time] s (execBar0ReadTimeout p s) := by
  refine Framed.next ?_
  dsimp only
  with_reducible repeat' first
    | exact Within.refl _ _ | apply State.advanceTo_within | refine Within.ite (fun _ => ?_) (fun _ => ?_)
    | (simp only [Within.lit]; refine Within.upd ?_ ?_ ?_) | intro x h
  all_goals first | (cases x <;> first | exact absurd (by decide) h | rfl) | rfl

theorem execPartMapWrite_framed (p : Part) (data : Word) (s : State) : Framed [.regs, .pass, .host, .safe, .log, .cvn, .cvnIds, .air,
    .qmg, .rf, .link] s (execPartMapWrite p data s) :=
  Framed.next (State.partMapWrite_within _ _ _ (Within.refl _ _) rfl)

theorem execPartReset_framed (p : Part) (data : Word) (s : State) : Framed [.regs, .pass, .host, .eth, .safe, .log, .pwr, .cmds, .ends,
    .cvn, .cvnIds, .air, .qmg, .rf, .rx, .link, .key, .vault, .mesh] s (execPartReset p data s) :=
  Framed.next (State.partResetWrite_within _ _ _ (Within.refl _ _) rfl)

theorem execFunctionLevelReset_framed (p : Part) (s : State) : Framed [.regs, .pass, .host, .eth, .safe, .log, .pwr, .cmds, .ends, .cvn,
    .cvnIds, .air, .qmg, .rf, .rx, .link, .key, .vault, .mesh] s (execFunctionLevelReset p s) := by
  refine Framed.next ?_
  with_reducible repeat' first
    | exact Within.refl _ _ | apply State.cfgReset_within | apply State.partReset_within | refine Within.ite (fun _ => ?_) (fun _ => ?_)
  all_goals rfl

theorem execSchedWrite_framed (c : CmdDesc) (dma : Dma) (s0 : State) :
    Framed [.pass, .cmds, .ends, .slot] s0 (execSchedWrite c dma s0) := by
  unfold execSchedWrite
  refine Framed.next ?_
  refine Within.ite (fun _ => Within.refl _ _) (fun _ => ?_)
  have htake := State.cmdTake_within s0 c (Within.refl [.pass, .cmds, .ends, .slot] s0) rfl
  generalize s0.cmdTake c = u at htake
  cases schedBad c dma with
  | some cause => exact State.cmdBad_within _ _ _ htake rfl
  | none =>
    dsimp only
    split
    · exact State.cmdDone_within _ _ _ _ _ _ htake rfl
    · exact State.cmdOk_within _ _ _ (Within.foldl htake (fun _ _ h => State.setCell_within _ _ _ _ h rfl)) rfl

theorem execSchedRead_framed (c : CmdDesc) (s0 : State) :
    Framed [.pass, .host, .cmds, .ends] s0 (execSchedRead c s0) := by
  unfold execSchedRead
  refine Framed.next ?_
  refine Within.ite (fun _ => Within.refl _ _) (fun _ => ?_)
  have htake := State.cmdTake_within s0 c (Within.refl [.pass, .host, .cmds, .ends] s0) rfl
  generalize s0.cmdTake c = u at htake
  cases schedBad c .ok with
  | some cause => exact State.cmdBad_within _ _ _ htake rfl
  | none => exact State.cmdOk_within _ _ _ (State.memWrite_within _ _ _ _ htake rfl) rfl

theorem execQuietExit_framed (c : CmdDesc) (s0 : State) : Framed [.regs, .pass, .host, .safe, .log, .cmds, .ends, .cvn, .cvnIds, .air,
    .qmg, .rf, .link] s0 (execQuietExit c s0) := by
  refine Framed.next ?_
  dsimp only
  with_reducible repeat' first
    | exact Within.refl _ _ | apply State.cmdTake_within | apply State.cmdBad_within | apply State.cmdOk_within
    | apply State.quietExit_within | refine Within.ite (fun _ => ?_) (fun _ => ?_)
  all_goals rfl

theorem execBistRun_framed (c : CmdDesc) (s : State) : Framed [.regs, .free, .pass, .bist, .cmds, .ends, .rx, .slot] s (execBistRun c s)
    := by
  refine Framed.next ?_
  dsimp only
  with_reducible repeat' first
    | exact Within.refl _ _ | apply State.cmdTake_within | apply State.cmdBad_within | apply State.migrateAll_within
    | apply State.bistStart_within | apply State.capSync_within | apply State.engSet_within | apply State.setEng_within
    | apply State.matchSync_within | refine Within.ite (fun _ => ?_) (fun _ => ?_) | (simp only [Within.lit]; refine Within.upd ?_ ?_ ?_)
    | split | intro x h
  all_goals first | (cases x <;> first | exact absurd (by decide) h | rfl) | rfl

theorem execBistDone_framed (w0 w1 w2 w3 : Word) (s : State) : Framed [.regs, .now, .pass, .host, .time, .safe, .log, .save, .pwr, .bist,
    .ends, .cvn, .cvnIds, .air, .qmg, .rf, .link, .slot] s (execBistDone w0 w1 w2 w3 s) := by
  refine Framed.next ?_
  dsimp only
  with_reducible repeat' first
    | exact Within.refl _ _ | apply State.advanceTo_within | apply State.wr_within | apply State.bistReturn_within
    | apply State.cmdOk_within | refine Within.ite (fun _ => ?_) (fun _ => ?_) | (simp only [Within.lit]; refine Within.upd ?_ ?_ ?_)
    | split | intro x h
  all_goals first | (cases x <;> first | exact absurd (by decide) h | rfl) | rfl

theorem execLockUnlock_framed (p : Part) (s : State) : Framed [.regs, .host] s (execLockUnlock p s) :=
  Framed.next (State.lockWrite_within _ _ _ (Within.refl _ _) rfl)

theorem execLockArm_framed (p : Part) (data : Word) (s : State) : Framed [.regs, .host] s (execLockArm p data s) := by
  refine Framed.next ?_
  with_reducible repeat' first
    | exact Within.refl _ _ | apply State.lockWrite_within | refine Within.ite (fun _ => ?_) (fun _ => ?_)
  all_goals rfl

theorem execLockTimeout_framed (p : Part) (s : State) : Framed [.regs, .now, .host, .time] s (execLockTimeout p s) := by
  refine Framed.next ?_
  with_reducible repeat' first
    | exact Within.refl _ _ | apply State.advanceTo_within | apply State.armLock_within | refine Within.ite (fun _ => ?_) (fun _ => ?_)
  all_goals rfl

theorem execBankSelect_framed (p : Part) (data : Word) (s : State) : Framed [.regs] s (execBankSelect p data s) :=
  Framed.next (State.bankWrite_within _ _ _ (Within.refl _ _) rfl)

theorem execPortEnable_framed (p : Part) (e : Fin 4) (data : Word) (s : State) : Framed [.regs, .free, .pass, .host, .eth, .air, .qmg,
    .link] s (execPortEnable p e data s) :=
  Framed.next (State.ethCfg_within _ _ _ _ (Within.refl _ _) rfl)

theorem execPortDisable_framed (p : Part) (e : Fin 4) (data : Word) (s : State) : Framed [.regs, .free, .pass, .host, .eth, .air, .qmg,
    .link] s (execPortDisable p e data s) :=
  Framed.next (State.ethCfg_within _ _ _ _ (Within.refl _ _) rfl)

theorem execEthLink_framed (e : Fin 4) (up : Bool) (speed : Fin 4) (los : Bool) (s : State) : Framed [.regs, .free, .pass, .host, .eth,
    .air, .qmg, .link] s (execEthLink e up speed los s) :=
  Framed.next (State.ethLink_within _ _ _ _ _ (Within.refl _ _) rfl)

theorem execEthFrameRx_framed (e : Fin 4) (bs : List Byte) (fcsOk : Bool) (s : State) : Framed [.regs, .eth, .pwr, .air, .qmg, .link] s
    (execEthFrameRx e bs fcsOk s) := by
  refine Framed.next ?_
  dsimp only
  with_reducible repeat' first
    | exact Within.refl _ _ | apply State.bump_within | apply State.prpRx_within | apply State.wake_within
    | refine Within.ite (fun _ => ?_) (fun _ => ?_) | (simp only [Within.lit]; refine Within.upd ?_ ?_ ?_) | split | intro x h
  all_goals first | (cases x <;> first | exact absurd (by decide) h | rfl) | rfl

theorem execEthIngressDrain_framed (e : Fin 4) (s : State) : Framed [.regs, .pass, .host, .eth, .safe, .log, .cvn, .cvnIds, .air, .qmg,
    .rf, .link, .key, .vault, .mesh] s (execEthIngressDrain e s) := by
  refine Framed.next ?_
  dsimp only
  with_reducible repeat' first
    | exact Within.refl _ _ | apply State.takeChain_within | apply State.passSend_within | refine Within.ite (fun _ => ?_) (fun _ => ?_)
    | (simp only [Within.lit]; refine Within.upd ?_ ?_ ?_) | split | intro x h
  all_goals first | (cases x <;> first | exact absurd (by decide) h | rfl) | rfl

theorem execEthTxDone_framed (e : Fin 4) (s : State) : Framed [.regs, .now, .pass, .host, .eth, .time, .air, .qmg, .link] s (execEthTxDone
    e s) := by
  refine Framed.next ?_
  dsimp only
  with_reducible repeat' first
    | exact Within.refl _ _ | apply State.elapse_within | apply State.setTx_within | apply State.bump_within | apply State.txtsPut_within
    | apply State.cplOwn_within | refine Within.ite (fun _ => ?_) (fun _ => ?_) | (simp only [Within.lit]; refine Within.upd ?_ ?_ ?_)
    | split | intro x h
  all_goals first | (cases x <;> first | exact absurd (by decide) h | rfl) | rfl

theorem execPrpConfigWrite_framed (p : Part) (data : Word) (s : State) : Framed [.regs] s (execPrpConfigWrite p data s) :=
  Framed.next (State.prpCfg_within _ _ _ (Within.refl _ _) rfl)

theorem execPrpEntryForget_framed (src : BitVec 48) (s : State) : Framed [.regs, .now, .eth, .time] s (execPrpEntryForget src s) := by
  refine Framed.next ?_
  dsimp only
  with_reducible repeat' first
    | exact Within.refl _ _ | apply State.advanceTo_within | apply State.prpSync_within
    | (simp only [Within.lit]; refine Within.upd ?_ ?_ ?_) | split | intro x h
  all_goals first | (cases x <;> first | exact absurd (by decide) h | rfl) | rfl

theorem execTxtsPop_framed (p : Part) (e : Fin 4) (s : State) : Framed [.regs, .host, .eth] s (execTxtsPop p e s) :=
  Framed.next (State.txtsPop_within _ _ _ (Within.refl _ _) rfl)

theorem execMdioWrite_framed (p : Part) (data : Word) (s : State) : Framed [.regs, .eth] s (execMdioWrite p data s) :=
  Framed.next (State.mdioWrite_within _ _ _ (Within.refl _ _) rfl)

theorem execMdioRead_framed (p : Part) (data : Word) (s : State) : Framed [.regs, .eth] s (execMdioRead p data s) :=
  Framed.next (State.mdioWrite_within _ _ _ (Within.refl _ _) rfl)

theorem execMdioDone_framed (answer : BitVec 16) (s : State) : Framed [.regs, .eth] s (execMdioDone answer s) := by
  refine Framed.next ?_
  dsimp only
  with_reducible repeat' first
    | exact Within.refl _ _ | apply State.setFld_within | refine Within.ite (fun _ => ?_) (fun _ => ?_)
    | (simp only [Within.lit]; refine Within.upd ?_ ?_ ?_) | intro x h
  all_goals first | (cases x <;> first | exact absurd (by decide) h | rfl) | rfl

theorem execTimeSet_framed (p : Part) (s : State) : Framed [.regs, .pass, .time] s (execTimeSet p s) :=
  Framed.next (State.timeSet_within _ _ (Within.refl _ _) rfl)

theorem execTimeAdjust_framed (p : Part) (s : State) : Framed [.regs, .time] s (execTimeAdjust p s) :=
  Framed.next (State.timeAdjust_within _ _ (Within.refl _ _) rfl)

theorem execDelayReqSend_framed (d : Fin 2) (s : State) : Framed [.regs, .now, .pass, .eth, .time] s (execDelayReqSend d s) := by
  refine Framed.next ?_
  dsimp only
  with_reducible repeat' first
    | exact Within.refl _ _ | apply State.advanceTo_within | apply State.setDom_within | apply State.bump_within
    | apply State.passSend_within | refine Within.ite (fun _ => ?_) (fun _ => ?_) | (simp only [Within.lit]; refine Within.upd ?_ ?_ ?_)
    | intro x h
  all_goals first | (cases x <;> first | exact absurd (by decide) h | rfl) | rfl

theorem execDomainTimeout_framed (d : Fin 2) (s : State) : Framed [.regs, .now, .pass, .time] s (execDomainTimeout d s) := by
  refine Framed.next ?_
  dsimp only
  with_reducible repeat' first
    | exact Within.refl _ _ | apply State.advanceTo_within | apply State.domEval_within | refine Within.ite (fun _ => ?_) (fun _ => ?_)
  all_goals rfl

theorem execTimerWrap_framed (t : Fin 8) (s : State) : Framed [.regs, .now, .pass, .time, .pwr] s (execTimerWrap t s) := by
  refine Framed.next ?_
  dsimp only
  with_reducible repeat' first
    | exact Within.refl _ _ | apply State.advanceTo_within | apply State.setTimer_within | apply State.wrapRaise_within
    | apply State.preloadTake_within | refine Within.ite (fun _ => ?_) (fun _ => ?_)
  all_goals rfl

theorem execTimerCompare_framed (t : Fin 8) (s : State) : Framed [.regs, .now, .pass, .time, .pwr] s (execTimerCompare t s) := by
  refine Framed.next ?_
  dsimp only
  with_reducible repeat' first
    | exact Within.refl _ _ | apply State.advanceTo_within | apply State.compareFire_within
    | refine Within.ite (fun _ => ?_) (fun _ => ?_)
  all_goals rfl

theorem execTimerClear_framed (p : Part) (t : Fin 8) (s : State) : Framed [.regs, .time] s (execTimerClear p t s) :=
  Framed.next (State.timerClear_within _ _ _ (Within.refl _ _) rfl)

theorem execTimerCompareWrite_framed (p : Part) (t : Fin 8) (data : Word) (s : State) : Framed [.regs, .pass, .time, .pwr] s
    (execTimerCompareWrite p t data s) :=
  Framed.next (State.compareWrite_within _ _ _ _ (Within.refl _ _) rfl)

theorem execTimerPeriodWrite_framed (p : Part) (t : Fin 8) (data : Word) (s : State) : Framed [.regs, .pass, .time, .pwr] s
    (execTimerPeriodWrite p t data s) :=
  Framed.next (State.periodWrite_within _ _ _ _ (Within.refl _ _) rfl)

theorem execTimerCountRead_framed (p : Part) (t : Fin 8) (s : State) : Framed [.host, .time] s (execTimerCountRead p t s) :=
  Framed.next (State.countRead_within _ _ _ (Within.refl _ _) rfl)

theorem execTimeRead_framed (p : Part) (s : State) : Framed [.host, .time] s (execTimeRead p s) :=
  Framed.next (State.timeRead_within _ _ (Within.refl _ _) rfl)

theorem execCaptureEdge_framed (i : Fin 4) (rising : Bool) (samples : Nat) (s : State) : Framed [.regs, .pass, .time, .pwr] s
    (execCaptureEdge i rising samples s) := by
  refine Framed.next ?_
  dsimp only
  with_reducible repeat' first
    | exact Within.refl _ _ | apply State.tmrEvt_within | apply State.wake_within | apply State.setFld_within | apply State.wr_within
    | refine Within.ite (fun _ => ?_) (fun _ => ?_) | (simp only [Within.lit]; refine Within.upd ?_ ?_ ?_) | intro x h
  all_goals first | (cases x <;> first | exact absurd (by decide) h | rfl) | rfl

theorem execToutPulseEnd_framed (k : Fin 4) (s : State) : Framed [.regs, .now, .time] s (execToutPulseEnd k s) := by
  refine Framed.next ?_
  dsimp only
  with_reducible repeat' first
    | exact Within.refl _ _ | apply State.advanceTo_within | apply State.setTout_within | refine Within.ite (fun _ => ?_) (fun _ => ?_)
    | (simp only [Within.lit]; refine Within.upd ?_ ?_ ?_) | intro x h
  all_goals first | (cases x <;> first | exact absurd (by decide) h | rfl) | rfl

theorem execMemoryUe_framed (u : UeStore) (s : State) : Framed everyComp s (execMemoryUe u s) := by
  refine Framed.next ?_
  with_reducible repeat' first
    | exact Within.refl _ _ | apply State.bump_within | apply State.ledger_within | apply State.ueEffect_within
  all_goals rfl

theorem execClockCheck_framed (lock : Bool) (k3 k4 : Int) (s : State) : Framed [.regs, .pass, .host, .safe, .log, .cvn, .cvnIds, .air,
    .qmg, .rf, .link] s (execClockCheck lock k3 k4 s) := by
  refine Framed.next ?_
  dsimp only
  with_reducible repeat' first
    | exact Within.refl _ _ | apply State.setFld_within | apply State.quietOver_within | apply State.quiet_within
    | refine Within.ite (fun _ => ?_) (fun _ => ?_) | (simp only [Within.lit]; refine Within.upd ?_ ?_ ?_) | intro x h
  all_goals first | (cases x <;> first | exact absurd (by decide) h | rfl) | rfl

theorem execTimePlausibilityCheck_framed (ppm : Nat) (s : State) : Framed [.regs, .pass, .host, .safe, .log, .cvn, .cvnIds, .air, .qmg,
    .rf, .link] s (execTimePlausibilityCheck ppm s) := by
  refine Framed.next ?_
  with_reducible repeat' first
    | exact Within.refl _ _ | apply State.setFld_within | apply State.quiet_within | apply State.quietOver_within
    | refine Within.ite (fun _ => ?_) (fun _ => ?_)
  all_goals rfl

theorem execIslandSelfCheck_framed (pass : Bool) (s : State) : Framed [.regs, .pass, .host, .safe, .log, .cvn, .cvnIds, .air, .qmg, .rf,
    .link] s (execIslandSelfCheck pass s) := by
  refine Framed.next ?_
  with_reducible repeat' first
    | exact Within.refl _ _ | apply State.setFld_within | apply State.quietOver_within | apply State.quiet_within
    | refine Within.ite (fun _ => ?_) (fun _ => ?_)
  all_goals rfl

theorem execOutputMonitor_framed (a : Fin 4) (txen dac : Bool) (s : State) : Framed [.regs, .pass, .host, .safe, .log, .save, .pwr, .cvn,
    .cvnIds, .air, .qmg, .rf, .link] s (execOutputMonitor a txen dac s) := by
  refine Framed.next ?_
  with_reducible repeat' first
    | exact Within.refl _ _ | apply State.quiet_within | apply State.escalate_within | refine Within.ite (fun _ => ?_) (fun _ => ?_)
  all_goals rfl

theorem execBeaconCheck_framed (id : Nat) (s : State) : Framed [.regs, .now, .pass, .host, .time, .safe, .log, .cvn, .cvnIds, .air, .qmg,
    .rf, .link] s (execBeaconCheck id s) := by
  refine Framed.next ?_
  with_reducible repeat' first
    | exact Within.refl _ _ | apply State.elapse_within | apply State.quiet_within | split
  all_goals rfl

theorem execLockstepMismatch_framed (i : Fin 4) (sram : Bool) (s : State) : Framed [.regs, .pass, .host, .safe, .log, .save, .pwr, .cmds,
    .ends, .cvn, .cvnIds, .air, .qmg, .rf, .link] s (execLockstepMismatch i sram s) := by
  refine Framed.next ?_
  dsimp only
  with_reducible repeat' first
    | exact Within.refl _ _ | apply State.bump_within | apply State.quiet_within | apply State.escalate_within
    | apply State.pairRestart_within | refine Within.ite (fun _ => ?_) (fun _ => ?_)
  all_goals rfl

theorem execWatchdogExpiry_framed (i : Fin 4) (s : State) : Framed [.regs, .pass, .host, .safe, .log, .save, .pwr, .cmds, .ends, .cvn,
    .cvnIds, .air, .qmg, .rf, .link] s (execWatchdogExpiry i s) := by
  refine Framed.next ?_
  with_reducible repeat' first
    | exact Within.refl _ _ | apply State.requestReset_within | apply State.pairRestart_within
    | refine Within.ite (fun _ => ?_) (fun _ => ?_)
  all_goals rfl

theorem execPairRestartDone_framed (i : Fin 4) (s : State) : Framed [.regs, .safe] s (execPairRestartDone i s) := by
  refine Framed.next ?_
  dsimp only
  with_reducible repeat' first
    | exact Within.refl _ _ | apply State.setFld_within | refine Within.ite (fun _ => ?_) (fun _ => ?_)
    | (simp only [Within.lit]; refine Within.upd ?_ ?_ ?_) | intro x h
  all_goals first | (cases x <;> first | exact absurd (by decide) h | rfl) | rfl

theorem execForceQuiet_framed (p : Part) (data : Word) (s : State) : Framed [.regs, .pass, .host, .safe, .log, .cvn, .cvnIds, .air, .qmg,
    .rf, .link] s (execForceQuiet p data s) :=
  Framed.next (State.safeCtrl_within _ _ _ (Within.refl _ _) rfl)

theorem execYarrowResume_framed (p : Part) (data : Word) (s : State) : Framed [.regs, .pass, .host, .safe, .log, .cvn, .cvnIds, .air,
    .qmg, .rf, .link] s (execYarrowResume p data s) :=
  Framed.next (State.safeCtrl_within _ _ _ (Within.refl _ _) rfl)

theorem execYarrowClusterDone_framed (sig : BitVec 128) (found : Fin 3) (s : State) : Framed [.regs, .now, .pass, .host, .time, .safe,
    .log, .cvn, .cvnIds, .air, .qmg, .rf, .link, .slot] s (execYarrowClusterDone sig found s) := by
  refine Framed.next ?_
  dsimp only
  with_reducible repeat' first
    | exact Within.refl _ _ | apply State.advanceTo_within | apply State.setFld_within | apply State.capSync_within
    | apply State.standbyRead_within | apply State.clusterFail_within | refine Within.ite (fun _ => ?_) (fun _ => ?_)
  all_goals rfl

theorem execDroverAttempt_framed (a : Fin 4) (tx : Bool) (st : State) : Framed [.regs, .now, .pass, .host, .time, .safe, .log, .cvn,
    .cvnIds, .air, .qmg, .shp, .rf, .rx, .link, .key, .vault, .mesh] st (execDroverAttempt a tx st) := by
  refine Framed.next ?_
  dsimp only
  with_reducible repeat' first
    | exact Within.refl _ _ | apply State.advanceTo_within | apply State.droverDone_within | apply State.newId_within
    | apply State.takeChain_within | apply State.offer_within | apply State.setFld_within | refine Within.ite (fun _ => ?_) (fun _ => ?_)
    | (simp only [Within.lit]; refine Within.upd ?_ ?_ ?_) | intro x h
  all_goals first | (cases x <;> first | exact absurd (by decide) h | rfl) | rfl

theorem execLedgerFreeze_framed (p : Part) (s : State) : Framed [.regs, .pass, .host, .safe, .log, .cvn, .cvnIds, .air, .qmg, .rf, .link]
    s (execLedgerFreeze p s) :=
  Framed.next (State.lctrlWrite_within _ _ _ (Within.refl _ _) rfl)

theorem execLedgerUnfreeze_framed (p : Part) (s : State) : Framed [.regs, .pass, .host, .safe, .log, .cvn, .cvnIds, .air, .qmg, .rf,
    .link] s (execLedgerUnfreeze p s) :=
  Framed.next (State.lctrlWrite_within _ _ _ (Within.refl _ _) rfl)

theorem execLogDataRead_framed (p : Part) (trail : Bool) (s : State) : Framed [.regs, .pass, .host, .safe, .log, .cvn, .cvnIds, .air,
    .qmg, .rf, .link] s (execLogDataRead p trail s) :=
  Framed.next (State.logRead_within _ _ _ (Within.refl _ _) rfl)

theorem execLatencyToleranceWrite_framed (p : Part) (data : Word) (s : State) : Framed [.regs, .pass, .pwr, .air, .rf, .rx] s
    (execLatencyToleranceWrite p data s) :=
  Framed.next (State.latWrite_within _ _ _ (Within.refl _ _) rfl)

theorem execPowerForce_framed (p : Part) (data : Word) (s : State) : Framed [.regs, .pass, .host, .safe, .log, .pwr, .cvn, .cvnIds, .air,
    .qmg, .rf, .rx, .link] s (execPowerForce p data s) :=
  Framed.next (State.forceWrite_within _ _ _ (Within.refl _ _) rfl)

theorem execClusterUngateDone_framed (c : Fin 16) (s : State) : Framed [.now, .time, .pwr] s (execClusterUngateDone c s) := by
  refine Framed.next ?_
  dsimp only
  with_reducible repeat' first
    | exact Within.refl _ _ | apply State.advanceTo_within | refine Within.ite (fun _ => ?_) (fun _ => ?_)
    | (simp only [Within.lit]; refine Within.upd ?_ ?_ ?_) | intro x h
  all_goals first | (cases x <;> first | exact absurd (by decide) h | rfl) | rfl

theorem execWakeNInput_framed (samples : Nat) (s : State) : Framed [.pwr] s (execWakeNInput samples s) := by
  refine Framed.next ?_
  with_reducible repeat' first
    | exact Within.refl _ _ | apply State.vaultWakes_within | refine Within.ite (fun _ => ?_) (fun _ => ?_)
  all_goals rfl

theorem execSupplyFault_framed (d : Die) (s : State) : Framed everyComp s (execSupplyFault d s) := by
  refine Framed.next ?_
  dsimp only
  with_reducible repeat' first
    | exact Within.refl _ _ | apply State.fSupplyFault_within | apply State.hDieReset_within | apply State.hGone_within
    | apply State.supplies_within | apply State.quiet_within | refine Within.ite (fun _ => ?_) (fun _ => ?_)
    | (simp only [Within.lit]; refine Within.upd ?_ ?_ ?_) | split | intro x h
  all_goals first | (cases x <;> first | exact absurd (by decide) h | rfl) | rfl

theorem execSoft_framed (p : Part) (data : Word) (s : State) : Framed [.regs, .pass, .host, .safe, .log, .save, .pwr, .cvn, .cvnIds, .air,
    .qmg, .rf, .link] s (execSoft p data s) :=
  Framed.next (State.sysReset_within _ _ _ (Within.refl _ _) rfl)

theorem execRecovery_framed (p : Part) (data : Word) (s : State) : Framed [.regs, .pass, .host, .safe, .log, .save, .pwr, .cvn, .cvnIds,
    .air, .qmg, .rf, .link] s (execRecovery p data s) :=
  Framed.next (State.sysReset_within _ _ _ (Within.refl _ _) rfl)

theorem execFDieBoot_framed (recovLow : Bool) (s : State) : Framed [.regs, .host, .safe, .boot, .air, .qmg, .rf, .link] s (execFDieBoot
    recovLow s) := by
  refine Framed.next ?_
  dsimp only
  with_reducible repeat' first
    | exact Within.refl _ _ | apply State.wr_within | apply State.setFld_within | apply State.recover_within
    | apply State.slotCheck_within | apply State.bootTry_within | refine Within.ite (fun _ => ?_) (fun _ => ?_)
  all_goals rfl

theorem execBootSelftestDone_framed (sigs : List (BitVec 128)) (s : State) : Framed [.regs, .free, .pass, .host, .time, .safe, .log,
    .save, .pwr, .boot, .cvn, .cvnIds, .air, .qmg, .rf, .link, .key, .vault, .dir] s (execBootSelftestDone sigs s) := by
  refine Framed.next ?_
  dsimp only
  with_reducible repeat' first
    | exact Within.refl _ _ | apply State.wr_within | apply State.recover_within | apply State.bootUnits_within
    | apply State.bootFinish_within | refine Within.ite (fun _ => ?_) (fun _ => ?_) | (simp only [Within.lit]; refine Within.upd ?_ ?_ ?_)
    | intro x h
  all_goals first | (cases x <;> first | exact absurd (by decide) h | rfl) | rfl

theorem execRollbackCommit_framed (p : Part) (data : Word) (s : State) : Framed [.regs, .pass, .host, .safe, .log, .boot, .cvn, .cvnIds,
    .air, .qmg, .rf, .link] s (execRollbackCommit p data s) :=
  Framed.next (State.rollbackWrite_within _ _ _ (Within.refl _ _) rfl)

theorem execBootSelect_framed (p : Part) (data : Word) (s : State) : Framed [.regs, .pass, .host, .safe, .log, .cvn, .cvnIds, .air, .qmg,
    .rf, .link] s (execBootSelect p data s) :=
  Framed.next (State.bootSelWrite_within _ _ _ (Within.refl _ _) rfl)

theorem execClrTriesA_framed (p : Part) (data : Word) (s : State) : Framed [.regs, .pass, .host, .safe, .log, .cvn, .cvnIds, .air, .qmg,
    .rf, .link] s (execClrTriesA p data s) :=
  Framed.next (State.bootSelWrite_within _ _ _ (Within.refl _ _) rfl)

theorem execClrTriesB_framed (p : Part) (data : Word) (s : State) : Framed [.regs, .pass, .host, .safe, .log, .cvn, .cvnIds, .air, .qmg,
    .rf, .link] s (execClrTriesB p data s) :=
  Framed.next (State.bootSelWrite_within _ _ _ (Within.refl _ _) rfl)

theorem execIdent_framed (seq : Byte) (s : State) : Framed [.boot] s (execIdent seq s) :=
  Framed.next (State.smIdent_within _ _ (Within.refl _ _) rfl)

theorem execSlots_framed (seq : Byte) (s : State) : Framed [.boot] s (execSlots seq s) :=
  Framed.next (State.smSlots_within _ _ (Within.refl _ _) rfl)

theorem execFlashErase_framed (seq slot : Byte) (first count : BitVec 16) (s : State) : Framed [.boot] s (execFlashErase seq slot first
    count s) :=
  Framed.next (State.smErase_within _ _ _ _ _ (Within.refl _ _) rfl)

theorem execFlashWrite_framed (seq slot : Byte) (off : Word) (data : List Byte) (s : State) : Framed [.boot] s (execFlashWrite seq slot
    off data s) :=
  Framed.next (State.smWrite_within _ _ _ _ _ (Within.refl _ _) rfl)

theorem execFlashRead_framed (seq slot : Byte) (off : Word) (len : BitVec 16) (s : State) : Framed [.boot] s (execFlashRead seq slot off
    len s) :=
  Framed.next (State.smRead_within _ _ _ _ _ (Within.refl _ _) rfl)

theorem execSlotCrc_framed (seq slot : Byte) (off len : Word) (s : State) : Framed [.boot] s (execSlotCrc seq slot off len s) :=
  Framed.next (State.smSlotCrc_within _ _ _ _ _ (Within.refl _ _) rfl)

theorem execFlashOpDone_framed (ok : Bool) (s : State) : Framed [.regs, .free, .boot, .slot] s (execFlashOpDone ok s) := by
  refine Framed.next ?_
  dsimp only
  with_reducible repeat' first
    | exact Within.refl _ _ | apply State.setFld_within | apply State.flashFree_within | apply State.smReply_within
    | apply State.setTries_within | refine Within.ite (fun _ => ?_) (fun _ => ?_) | (simp only [Within.lit]; refine Within.upd ?_ ?_ ?_)
    | split | intro x h
  all_goals first | (cases x <;> first | exact absurd (by decide) h | rfl) | rfl

theorem execRamLoad_framed (seq : Byte) (off : Word) (data : List Byte) (s : State) : Framed [.boot] s (execRamLoad seq off data s) :=
  Framed.next (State.smRamLoad_within _ _ _ _ (Within.refl _ _) rfl)

theorem execRamRun_framed (seq : Byte) (s : State) : Framed [.regs, .safe, .boot, .air, .qmg, .link] s (execRamRun seq s) :=
  Framed.next (State.smRamRun_within _ _ (Within.refl _ _) rfl)

theorem execSmiviReset_framed (seq : Byte) (s : State) : Framed [.boot] s (execSmiviReset seq s) :=
  Framed.next (State.smReset_within _ _ (Within.refl _ _) rfl)

theorem execClusterFaultInService_framed (c : Fin 16) (s : State) : Framed [.regs, .pass, .host, .safe, .log, .cvn, .cvnIds, .air, .qmg,
    .rf, .rx, .link] s (execClusterFaultInService c s) := by
  refine Framed.next ?_
  dsimp only
  with_reducible repeat' first
    | exact Within.refl _ _ | assumption | apply State.freeLane_within | apply State.clusterFail_within
    | refine Within.ite (fun _ => ?_) (fun _ => ?_) | refine Within.foldl ?_ (fun _ _ _ => ?_)
    | (simp only [Within.lit]; refine Within.upd ?_ ?_ ?_) | intro x h
  all_goals first | (cases x <;> first | exact absurd (by decide) h | rfl) | rfl

theorem execReservedTypeMessage_framed (d : Die) (m : PassMsg) (s : State) : Framed [.regs, .free, .pass, .host, .air, .qmg, .rx, .link] s
    (execReservedTypeMessage d m s) := by
  refine Framed.next ?_
  with_reducible repeat' first
    | exact Within.refl _ _ | apply State.passRx_within | (simp only [id]; assumption) | intro x h
  all_goals rfl

theorem execSmiviInvalidCommand_framed (octets : List Byte) (s : State) : Framed [.regs, .pass, .safe, .save, .pwr, .boot, .air, .qmg,
    .rf, .link] s (execSmiviInvalidCommand octets s) := by
  refine Framed.next ?_
  with_reducible repeat' first
    | exact Within.refl _ _ | apply State.smFrame_within | apply State.smRespond_within | refine Within.ite (fun _ => ?_) (fun _ => ?_)
    | split
  all_goals rfl

theorem execBucketRebuildDone_framed (b : Bool) (i : Fin 135168) (s : State) : Framed [.regs, .free, .dir] s (execBucketRebuildDone b i s)
    := by
  refine Framed.next ?_
  dsimp only
  with_reducible repeat' first
    | exact Within.refl _ _ | assumption | apply State.draw_within | apply State.setIdx_within | apply State.dirSync_within
    | refine Within.foldl ?_ (fun _ _ _ => ?_) | (simp only [Within.lit]; refine Within.upd ?_ ?_ ?_) | split | intro x h
  all_goals first | (cases x <;> first | exact absurd (by decide) h | rfl) | rfl

theorem execTimeSyncSend_framed (s : State) : Framed [.pass] s (execTimeSyncSend s) := by
  refine Framed.next ?_
  dsimp only
  with_reducible repeat' first
    | exact Within.refl _ _ | apply State.passSend_within | (simp only [Within.lit]; refine Within.upd ?_ ?_ ?_) | intro x h
  all_goals first | (cases x <;> first | exact absurd (by decide) h | rfl) | rfl

theorem execPassRetrainDone_framed (s : State) : Framed [.regs, .pass, .host, .safe] s (execPassRetrainDone s) := by
  refine Framed.next ?_
  dsimp only
  with_reducible repeat' first
    | exact Within.refl _ _ | apply State.wr_within | apply State.hFollows_within | apply State.passRestamp_within
    | apply State.quietOver_within | apply State.evtH_within | refine Within.ite (fun _ => ?_) (fun _ => ?_)
    | (simp only [Within.lit]; refine Within.upd ?_ ?_ ?_) | intro x h
  all_goals first | (cases x <;> first | exact absurd (by decide) h | rfl) | rfl

theorem execPassDown_framed (s : State) : Framed [.regs, .now, .pass, .host, .time, .safe, .log, .boot, .cvn, .cvnIds, .air, .qmg, .rf,
    .link] s (execPassDown s) := by
  refine Framed.next ?_
  dsimp only
  with_reducible repeat' first
    | exact Within.refl _ _ | apply State.advanceTo_within | apply State.setFld_within | apply State.passLocal_within
    | apply State.bump_within | apply State.quiet_within | apply State.hQuiet_within | refine Within.ite (fun _ => ?_) (fun _ => ?_)
  all_goals rfl

theorem execK6ClockLoss_framed (s : State) : Framed [.regs, .pass, .host] s (execK6ClockLoss s) := by
  refine Framed.next ?_
  dsimp only
  with_reducible repeat' first
    | exact Within.refl _ _ | apply State.passLocal_within | apply State.passRetrain_within
    | refine Within.ite (fun _ => ?_) (fun _ => ?_)
  all_goals rfl

theorem execWeightBankSwap_framed (s : State) : Framed [.regs, .rf] s (execWeightBankSwap s) := by
  refine Framed.next ?_
  with_reducible repeat' first
    | exact Within.refl _ _ | apply State.weightSwap_within | refine Within.ite (fun _ => ?_) (fun _ => ?_)
  all_goals rfl

theorem execSlotBoundary_framed (s0 : State) : Framed [.regs, .now, .pass, .host, .time, .safe, .log, .pwr, .cvn, .cvnIds, .air, .qmg,
    .rf, .rx, .link, .slot] s0 (execSlotBoundary s0) := by
  refine Framed.next ?_
  dsimp only
  with_reducible repeat' first
    | exact Within.refl _ _ | apply State.toNs_within | apply State.boundaryDue_within | apply State.slotHalt_within
    | apply State.wr_within | apply State.setFld_within | apply State.engStart_within | apply State.snapPut_within
    | apply State.engProbation_within | apply State.engRevert_within | refine Within.ite (fun _ => ?_) (fun _ => ?_)
    | (simp only [Within.lit]; refine Within.upd ?_ ?_ ?_) | split | intro x h
  all_goals first | (cases x <;> first | exact absurd (by decide) h | rfl) | rfl

theorem execDetectionCommit_framed (s : State) : Framed [.regs, .pwr, .rx] s (execDetectionCommit s) := by
  refine Framed.next ?_
  dsimp only
  with_reducible repeat' first
    | exact Within.refl _ _ | apply State.handle_within | apply State.gateEval_within
    | (simp only [Within.lit]; refine Within.upd ?_ ?_ ?_) | split | intro x h
  all_goals first | (cases x <;> first | exact absurd (by decide) h | rfl) | rfl

theorem execFlushPassStart_framed (s : State) : Framed [.dir] s (execFlushPassStart s) := by
  refine Framed.next ?_
  with_reducible repeat' first
    | exact Within.refl _ _ | apply State.setFlush_within | split
  all_goals rfl

theorem execFlushDone_framed (s : State) : Framed [.regs, .pass, .host, .safe, .log, .ndir, .cvn, .cvnIds, .air, .qmg, .rf, .link, .key,
    .vault, .dir, .mesh] s (execFlushDone s) := by
  refine Framed.next ?_
  dsimp only
  with_reducible repeat' first
    | exact Within.refl _ _ | apply State.flushVisit_within | apply State.evtF_within
    | (simp only [Within.lit]; refine Within.upd ?_ ?_ ?_) | split | intro x h
  all_goals first | (cases x <;> first | exact absurd (by decide) h | rfl) | rfl

theorem execSweeperVisit_framed (s : State) : Framed [.regs, .pass, .host, .safe, .log, .ndir, .cvn, .cvnIds, .air, .qmg, .rf, .link,
    .key, .vault, .dir, .mesh] s (execSweeperVisit s) := by
  refine Framed.next ?_
  dsimp only
  with_reducible repeat' first
    | exact Within.refl _ _ | apply State.idxMark_within | apply State.ageNode_within | refine Within.ite (fun _ => ?_) (fun _ => ?_)
    | (simp only [Within.lit]; refine Within.upd ?_ ?_ ?_) | split | intro x h
  all_goals first | (cases x <;> first | exact absurd (by decide) h | rfl) | rfl

theorem execFilterRebuildDone_framed (s : State) : Framed [.regs, .air, .qmg, .link, .lpm] s (execFilterRebuildDone s) := by
  refine Framed.next ?_
  dsimp only
  with_reducible repeat' first
    | exact Within.refl _ _ | apply State.filterCheck_within | refine Within.ite (fun _ => ?_) (fun _ => ?_)
    | (simp only [Within.lit]; refine Within.upd ?_ ?_ ?_) | intro x h
  all_goals first | (cases x <;> first | exact absurd (by decide) h | rfl) | rfl

theorem execLpmModeChangeDone_framed (s : State) : Framed [.regs] s (execLpmModeChangeDone s) :=
  Framed.next (State.setFld_within _ _ _ _ (Within.refl _ _) rfl)

theorem execCellAudit_framed (s : State) : Framed [.regs, .pass, .host, .safe, .log, .cvn, .cvnIds, .air, .qmg, .rf, .link] s
    (execCellAudit s) := by
  refine Framed.next ?_
  dsimp only
  with_reducible repeat' first
    | exact Within.refl _ _ | apply State.freeChain_within | apply State.bumpBy_within | apply State.ledger_within
    | refine Within.ite (fun _ => ?_) (fun _ => ?_)
  all_goals rfl

theorem execPopWaitExpiry_framed (s : State) : Framed [.now, .pass, .host, .time, .qmg, .rx] s (execPopWaitExpiry s) := by
  refine Framed.next ?_
  with_reducible repeat' first
    | exact Within.refl _ _ | apply State.advanceTo_within | apply State.popAnswer_within | split
  all_goals rfl

theorem execDepthSample_framed (s : State) : Framed [.qmg] s (execDepthSample s) := by
  refine Framed.next ?_
  with_reducible repeat' first
    | exact Within.refl _ _ | assumption | apply State.histPut_within | refine Within.foldl ?_ (fun _ _ _ => ?_)
  all_goals rfl

theorem execFwReady_framed (s : State) : Framed [.regs, .pass, .host, .safe, .log, .boot, .cvn, .cvnIds, .air, .qmg, .rf, .link] s
    (execFwReady s) := by
  refine Framed.next ?_
  dsimp only
  with_reducible repeat' first
    | exact Within.refl _ _ | apply State.evtH_within | apply State.bootReports_within | refine Within.ite (fun _ => ?_) (fun _ => ?_)
    | (simp only [Within.lit]; refine Within.upd ?_ ?_ ?_) | intro x h
  all_goals first | (cases x <;> first | exact absurd (by decide) h | rfl) | rfl

theorem execSupervisionTx_framed (s : State) : Framed [.regs, .now, .free, .host, .eth, .time, .air, .qmg, .link] s (execSupervisionTx s)
    := by
  refine Framed.next ?_
  dsimp only
  with_reducible repeat' first
    | exact Within.refl _ _ | apply State.advanceTo_within | apply State.draw_within | apply State.prpSend_within
    | refine Within.ite (fun _ => ?_) (fun _ => ?_) | (simp only [Within.lit]; refine Within.upd ?_ ?_ ?_) | intro x h
  all_goals first | (cases x <;> first | exact absurd (by decide) h | rfl) | rfl

theorem execDomainRevert_framed (s : State) : Framed [.regs, .now, .pass, .time] s (execDomainRevert s) := by
  refine Framed.next ?_
  dsimp only
  with_reducible repeat' first
    | exact Within.refl _ _ | apply State.advanceTo_within | apply State.domEval_within | apply State.setActive_within
    | refine Within.ite (fun _ => ?_) (fun _ => ?_) | split
  all_goals rfl

theorem execPpsInEdge_framed (s : State) : Framed [.regs, .free, .pass, .time] s (execPpsInEdge s) := by
  refine Framed.next ?_
  dsimp only
  with_reducible repeat' first
    | exact Within.refl _ _ | apply State.bump_within | apply State.servoOffset_within | refine Within.ite (fun _ => ?_) (fun _ => ?_)
    | (simp only [Within.lit]; refine Within.upd ?_ ?_ ?_) | intro x h
  all_goals first | (cases x <;> first | exact absurd (by decide) h | rfl) | rfl

theorem execPpsOutPulse_framed (s : State) : Framed [.now, .time] s (execPpsOutPulse s) := by
  refine Framed.next ?_
  dsimp only
  with_reducible repeat' first
    | exact Within.refl _ _ | apply State.toNs_within | refine Within.ite (fun _ => ?_) (fun _ => ?_)
    | (simp only [Within.lit]; refine Within.upd ?_ ?_ ?_) | intro x h
  all_goals first | (cases x <;> first | exact absurd (by decide) h | rfl) | rfl

theorem execPpsOutEnd_framed (s : State) : Framed [.now, .time] s (execPpsOutEnd s) := by
  refine Framed.next ?_
  dsimp only
  with_reducible repeat' first
    | exact Within.refl _ _ | apply State.advanceTo_within | (simp only [Within.lit]; refine Within.upd ?_ ?_ ?_) | split | intro x h
  all_goals first | (cases x <;> first | exact absurd (by decide) h | rfl) | rfl

theorem execRtcUpdate_framed (s : State) : Framed [.regs, .vault] s (execRtcUpdate s) := by
  refine Framed.next ?_
  dsimp only
  with_reducible repeat' first
    | exact Within.refl _ _ | apply State.wr_within | refine Within.ite (fun _ => ?_) (fun _ => ?_)
    | (simp only [Within.lit]; refine Within.upd ?_ ?_ ?_) | intro x h
  all_goals first | (cases x <;> first | exact absurd (by decide) h | rfl) | rfl

theorem execQuietEscalation_framed (s : State) : Framed [.regs, .now, .pass, .host, .time, .safe, .log, .save, .pwr, .cvn, .cvnIds, .air,
    .qmg, .rf, .link] s (execQuietEscalation s) := by
  refine Framed.next ?_
  with_reducible repeat' first
    | exact Within.refl _ _ | apply State.advanceTo_within | apply State.escalate_within | refine Within.ite (fun _ => ?_) (fun _ => ?_)
    | split
  all_goals rfl

theorem execYarrowClusterStart_framed (s : State) : Framed [.regs, .free, .safe, .pwr, .rx] s (execYarrowClusterStart s) := by
  refine Framed.next ?_
  dsimp only
  with_reducible repeat' first
    | exact Within.refl _ _ | apply State.yarrowTurn_within | apply State.yarrowSkip_within | apply State.migrateAll_within
    | apply State.yarrowTake_within | refine Within.ite (fun _ => ?_) (fun _ => ?_) | (simp only [Within.lit]; refine Within.upd ?_ ?_ ?_)
    | split | intro x h
  all_goals first | (cases x <;> first | exact absurd (by decide) h | rfl) | rfl

theorem execDroverIntervalEnd_framed (s : State) : Framed [.regs, .now, .pass, .host, .time, .safe, .log, .cvn, .cvnIds, .air, .qmg, .rf,
    .link, .key, .vault, .mesh] s (execDroverIntervalEnd s) := by
  refine Framed.next ?_
  dsimp only
  with_reducible repeat' first
    | exact Within.refl _ _ | assumption | apply State.advanceTo_within | apply State.droverEnd_within | apply State.quietOver_within
    | refine Within.ite (fun _ => ?_) (fun _ => ?_) | refine Within.foldl ?_ (fun _ _ _ => ?_)
    | (simp only [Within.lit]; refine Within.upd ?_ ?_ ?_) | intro x h
  all_goals first | (cases x <;> first | exact absurd (by decide) h | rfl) | rfl

theorem execFreezeLimitExpiry_framed (s : State) : Framed [.regs, .now, .pass, .host, .time, .safe, .log, .cvn, .cvnIds, .air, .qmg, .rf,
    .link] s (execFreezeLimitExpiry s) := by
  refine Framed.next ?_
  with_reducible repeat' first
    | exact Within.refl _ _ | apply State.advanceTo_within | apply State.unfreeze_within | refine Within.ite (fun _ => ?_) (fun _ => ?_)
  all_goals rfl

theorem execPowerStateExitDone_framed (s : State) : Framed [.regs, .now, .pass, .time, .pwr, .air, .rf, .rx] s (execPowerStateExitDone s)
    := by
  refine Framed.next ?_
  dsimp only
  with_reducible repeat' first
    | exact Within.refl _ _ | apply State.advanceTo_within | apply State.pwrTake_within | apply State.gateEval_within
    | refine Within.ite (fun _ => ?_) (fun _ => ?_) | (simp only [Within.lit]; refine Within.upd ?_ ?_ ?_) | split | intro x h
  all_goals first | (cases x <;> first | exact absurd (by decide) h | rfl) | rfl

theorem execIdleTimerExpiry_framed (s : State) : Framed [.regs, .now, .pass, .time, .pwr, .air, .rf, .rx] s (execIdleTimerExpiry s) := by
  refine Framed.next ?_
  dsimp only
  with_reducible repeat' first
    | exact Within.refl _ _ | apply State.advanceTo_within | apply State.pwrEval_within | refine Within.ite (fun _ => ?_) (fun _ => ?_)
    | (simp only [Within.lit]; refine Within.upd ?_ ?_ ?_) | intro x h
  all_goals first | (cases x <;> first | exact absurd (by decide) h | rfl) | rfl

theorem execVaultSaveStart_framed (s : State) : Framed [.regs, .now, .time, .save] s (execVaultSaveStart s) := by
  refine Framed.next ?_
  with_reducible repeat' first
    | exact Within.refl _ _ | apply State.advanceTo_within | apply State.startSave_within | refine Within.ite (fun _ => ?_) (fun _ => ?_)
    | split
  all_goals rfl

theorem execRtcAlarm_framed (s : State) : Framed [.now, .time, .pwr] s (execRtcAlarm s) := by
  refine Framed.next ?_
  dsimp only
  with_reducible repeat' first
    | exact Within.refl _ _ | apply State.advanceTo_within | apply State.vaultWakes_within | refine Within.ite (fun _ => ?_) (fun _ => ?_)
    | split
  all_goals rfl

theorem execHoldupTrigger_framed (s : State) : Framed [.regs, .safe, .save, .pwr, .air, .rf] s (execHoldupTrigger s) := by
  refine Framed.next ?_
  dsimp only
  with_reducible repeat' first
    | exact Within.refl _ _ | apply State.enterHush_within | apply State.startSave_within | refine Within.ite (fun _ => ?_) (fun _ => ?_)
    | (simp only [Within.lit]; refine Within.upd ?_ ?_ ?_) | intro x h
  all_goals first | (cases x <;> first | exact absurd (by decide) h | rfl) | rfl

theorem execSaveComplete_framed (s : State) : Framed everyComp s (execSaveComplete s) := by
  refine Framed.next (Within.ite (fun _ => Within.refl _ _) (fun _ => ?_))
  have hsave := State.saveItems_within s (Within.refl everyComp s) rfl
  generalize s.saveItems = u at hsave
  dsimp only
  split
  · refine Within.ite (fun _ => hsave) (fun _ => State.fDieReset_within _ _ _ ?_ rfl)
    exact Within.ite (fun _ => hsave) (fun _ => State.resetReqTake_within _ hsave rfl)
  · refine Within.ite (fun _ => ?_) (fun _ => hsave)
    have hreset := State.hDieReset_within _ false (State.fDieReset_within u 0 false hsave rfl) rfl
    generalize (u.fDieReset 0 false).hDieReset false = v at hreset
    refine Within.ite (fun _ => hreset) (fun _ => ?_)
    refine State.supplies_within _ _ _ (State.supplies_within _ _ _ ?_ rfl) rfl
    simp only [Within.lit]
    exact Within.upd hreset rfl (fun k hk => by cases k <;> first | exact absurd (by decide) hk | rfl)

theorem execVholdLow_framed (s : State) : Framed [.regs, .free, .pass, .host, .safe, .log, .save, .cvn, .cvnIds, .air, .qmg, .rf, .link,
    .key, .vault] s (execVholdLow s) := by
  refine Framed.next ?_
  dsimp only
  with_reducible repeat' first
    | exact Within.refl _ _ | assumption | apply State.draw_within | apply State.ctrSave_within | apply State.storeAll_within
    | apply State.wr_within | refine Within.ite (fun _ => ?_) (fun _ => ?_) | refine Within.foldl ?_ (fun _ _ _ => ?_)
    | (simp only [Within.lit]; refine Within.upd ?_ ?_ ?_) | intro x h
  all_goals first | (cases x <;> first | exact absurd (by decide) h | rfl) | rfl

theorem execRideThrough_framed (s : State) : Framed everyComp s (execRideThrough s) := by
  refine Framed.next ?_
  with_reducible repeat' first
    | exact Within.refl _ _ | apply State.fDieReset_within | apply State.hushOver_within | apply State.thaw_within
    | refine Within.ite (fun _ => ?_) (fun _ => ?_)
  all_goals rfl

theorem execVbatLoss_framed (s : State) : Framed [.regs, .pwr, .vault] s (execVbatLoss s) := by
  refine Framed.next (Within.ite (fun _ => Within.refl _ _) (fun _ => ?_))
  have hwr : Within [.regs, .pwr, .vault] s
      ([R.PWR_RTC_S, R.KEY_TAMPER_CFG, R.PWR_WAKE_CFG, R.PWR_ALARM_S].foldl (fun s k => s.wr k (aget 0 k regReset)) s) :=
    Within.foldl (Within.refl _ _) (fun _ _ h => State.wr_within _ _ _ h rfl)
  generalize ([R.PWR_RTC_S, R.KEY_TAMPER_CFG, R.PWR_WAKE_CFG, R.PWR_ALARM_S].foldl (fun s k => s.wr k (aget 0 k regReset)) s) = u at hwr
  have hfld := State.setFld_within u R.PWR_VAULT_STAT F.PWR_VAULT_STAT_ON_VBAT 1 hwr rfl
  simp only [Within.lit]
  exact Within.upd hfld rfl (fun k hk => by cases k <;> first | exact absurd (by decide) hk | rfl)

theorem execPorF_framed (s : State) : Framed everyComp s (execPorF s) := by
  refine Framed.next ?_
  with_reducible repeat' first
    | exact Within.refl _ _ | apply State.fDieReset_within | refine Within.ite (fun _ => ?_) (fun _ => ?_)
  all_goals rfl

theorem execPorH_framed (s : State) : Framed everyComp s (execPorH s) := by
  refine Framed.next ?_
  with_reducible repeat' first
    | exact Within.refl _ _ | apply State.hDieReset_within | apply State.hBack_within | apply State.suppliesBack_within
    | refine Within.ite (fun _ => ?_) (fun _ => ?_)
  all_goals rfl

theorem execPinF_framed (s : State) : Framed [.regs, .pass, .safe, .save, .pwr, .air, .rf] s (execPinF s) := by
  refine Framed.next ?_
  with_reducible repeat' first
    | exact Within.refl _ _ | apply State.requestReset_within | refine Within.ite (fun _ => ?_) (fun _ => ?_)
  all_goals rfl

theorem execPinH_framed (s : State) : Framed everyComp s (execPinH s) := by
  refine Framed.next ?_
  with_reducible repeat' first
    | exact Within.refl _ _ | apply State.hDieReset_within | apply State.hGone_within | apply State.hBack_within
    | refine Within.ite (fun _ => ?_) (fun _ => ?_)
  all_goals rfl

theorem execResetPassTimeout_framed (s : State) : Framed [.regs, .now, .pass, .host, .time, .boot, .air, .qmg, .link] s
    (execResetPassTimeout s) := by
  refine Framed.next ?_
  dsimp only
  with_reducible repeat' first
    | exact Within.refl _ _ | apply State.advanceTo_within | apply State.setFld_within | apply State.passLocal_within
    | apply State.bump_within | apply State.hQuiet_within | refine Within.ite (fun _ => ?_) (fun _ => ?_) | split
  all_goals rfl

theorem execTriesClearTimer_framed (s : State) : Framed [.regs, .now, .time, .boot] s (execTriesClearTimer s) := by
  refine Framed.next ?_
  dsimp only
  with_reducible repeat' first
    | exact Within.refl _ _ | apply State.advanceTo_within | apply State.setTries_within | refine Within.ite (fun _ => ?_) (fun _ => ?_)
    | (simp only [Within.lit]; refine Within.upd ?_ ?_ ?_) | split | intro x h
  all_goals first | (cases x <;> first | exact absurd (by decide) h | rfl) | rfl

theorem execFuseBlowDone_framed (s : State) : Framed [.regs, .boot] s (execFuseBlowDone s) := by
  refine Framed.next ?_
  dsimp only
  with_reducible repeat' first
    | exact Within.refl _ _ | apply State.setFld_within | refine Within.ite (fun _ => ?_) (fun _ => ?_)
    | (simp only [Within.lit]; refine Within.upd ?_ ?_ ?_) | intro x h
  all_goals first | (cases x <;> first | exact absurd (by decide) h | rfl) | rfl

theorem execSmiviResponseRead_framed (s : State) : Framed [.regs, .pass, .safe, .save, .pwr, .boot, .air, .rf] s (execSmiviResponseRead s)
    :=
  Framed.next (State.smRespond_within _ (Within.refl _ _) rfl)

theorem execPpsSourceTimeout_framed (s : State) : Framed [.regs, .now, .pass, .time] s (execPpsSourceTimeout s) := by
  refine Framed.next ?_
  dsimp only
  with_reducible repeat' first
    | exact Within.refl _ _ | apply State.advanceTo_within | apply State.enterHoldover_within
    | refine Within.ite (fun _ => ?_) (fun _ => ?_) | (simp only [Within.lit]; refine Within.upd ?_ ?_ ?_) | split | intro x h
  all_goals first | (cases x <;> first | exact absurd (by decide) h | rfl) | rfl

theorem execLedgerDrainDone_framed (s : State) : Framed [.regs, .pass, .host, .safe, .log, .cvn, .cvnIds, .air, .qmg, .rf, .link] s
    (execLedgerDrainDone s) := by
  refine Framed.next ?_
  dsimp only
  with_reducible repeat' first
    | exact Within.refl _ _ | apply State.fifoDrain_within | apply State.setFld_within | refine Within.ite (fun _ => ?_) (fun _ => ?_)
    | (simp only [Within.lit]; refine Within.upd ?_ ?_ ?_) | intro x h
  all_goals first | (cases x <;> first | exact absurd (by decide) h | rfl) | rfl

theorem execPowerStateEntryDone_framed (s : State) : Framed [.pwr] s (execPowerStateEntryDone s) := by
  refine Framed.next ?_
  dsimp only
  with_reducible repeat' first
    | exact Within.refl _ _ | apply State.pwrExit_within | refine Within.ite (fun _ => ?_) (fun _ => ?_)
    | (simp only [Within.lit]; refine Within.upd ?_ ?_ ?_) | split | intro x h
  all_goals first | (cases x <;> first | exact absurd (by decide) h | rfl) | rfl

/-! ### The frame of every command -/

/-- The frame of a command is `touches`. -/
theorem exec_framed : ∀ (c : Instr) (s : State), Framed (touches c) s (exec c s)
  | .registerWrite p off be data high, s => execRegisterWrite_framed p off be data high s
  | .readClear p off wide, s => execReadClear_framed p off wide s
  | .linkIdle d m, s => execLinkIdle_framed d m s
  | .credit d m, s => execCredit_framed d m s
  | .frameDn m faults, s => execFrameDn_framed m faults s
  | .frameUp m, s => execFrameUp_framed m s
  | .desc m, s => execDesc_framed m s
  | .compl m, s => execCompl_framed m s
  | .event m, s => execEvent_framed m s
  | .regRd d m, s => execRegRd_framed d m s
  | .regWr d m, s => execRegWr_framed d m s
  | .regRsp d m, s => execRegRsp_framed d m s
  | .timeSync m, s => execTimeSync_framed m s
  | .tsReport m, s => execTsReport_framed m s
  | .health d m, s => execHealth_framed d m s
  | .healthSend d, s => execHealthSend_framed d s
  | .healthTimeout d, s => execHealthTimeout_framed d s
  | .safeAssert d m, s => execSafeAssert_framed d m s
  | .bootLoad m, s => execBootLoad_framed m s
  | .resetReq d m, s => execResetReq_framed d m s
  | .passResendTimeout d, s => execPassResendTimeout_framed d s
  | .bandplanWrite p data, s => execBandplanWrite_framed p data s
  | .arrayEnable p a data, s => execArrayEnable_framed p a data s
  | .arrayDisable p a data, s => execArrayDisable_framed p a data s
  | .arrayConfigUpdate p a data, s => execArrayConfigUpdate_framed p a data s
  | .beamEnable p b data, s => execBeamEnable_framed p b data s
  | .beamDisable p b data, s => execBeamDisable_framed p b data s
  | .weightWrite p data, s => execWeightWrite_framed p data s
  | .weightRead p, s => execWeightRead_framed p s
  | .weightCommit p data, s => execWeightCommit_framed p data s
  | .calRun p data, s => execCalRun_framed p data s
  | .calIntervalExpiry a, s => execCalIntervalExpiry_framed a s
  | .calibrationStart a, s => execCalibrationStart_framed a s
  | .calibrationDone rx tx, s => execCalibrationDone_framed rx tx s
  | .calMaxageExpiry a, s => execCalMaxageExpiry_framed a s
  | .dieTempSample quarter, s => execDieTempSample_framed quarter s
  | .slotPreparation k, s => execSlotPreparation_framed k s
  | .blankingStart id, s => execBlankingStart_framed id s
  | .feTxenAssert id, s => execFeTxenAssert_framed id s
  | .txFrameStart id k, s => execTxFrameStart_framed id k s
  | .txFrameEnd id, s => execTxFrameEnd_framed id s
  | .blankingEnd a, s => execBlankingEnd_framed a s
  | .ackPointOpen k, s => execAckPointOpen_framed k s
  | .ackPointClose k, s => execAckPointClose_framed k s
  | .enhAckBeamFix id, s => execEnhAckBeamFix_framed id s
  | .preambleDetection d, s => execPreambleDetection_framed d s
  | .sfdFound l syms, s => execSfdFound_framed l syms s
  | .sfdLimitExpiry l, s => execSfdLimitExpiry_framed l s
  | .phrDecoded l h syms, s => execPhrDecoded_framed l h syms s
  | .psduEnd l syms, s => execPsduEnd_framed l syms s
  | .fcsCheckDone l ok rssi cfo, s => execFcsCheckDone_framed l ok rssi cfo s
  | .crossroadsArrival l f faults, s => execCrossroadsArrival_framed l f faults s
  | .mergeWindowClose n, s => execMergeWindowClose_framed n s
  | .recentKeyExpiry n, s => execRecentKeyExpiry_framed n s
  | .noiseFloorSample p floor, s => execNoiseFloorSample_framed p floor s
  | .lpEnable part data, s => execLpEnable_framed part data s
  | .lpDisable part data, s => execLpDisable_framed part data s
  | .lpRead part, s => execLpRead_framed part s
  | .profileWrite part data, s => execProfileWrite_framed part data s
  | .slotStart part, s => execSlotStart_framed part s
  | .slotStop part, s => execSlotStop_framed part s
  | .slotframeEnable part idx data, s => execSlotframeEnable_framed part idx data s
  | .slotframeDisable part idx data, s => execSlotframeDisable_framed part idx data s
  | .cellWrite part data, s => execCellWrite_framed part data s
  | .cellRead part, s => execCellRead_framed part s
  | .hopEntryWrite part data, s => execHopEntryWrite_framed part data s
  | .engineBistStart e, s => execEngineBistStart_framed e s
  | .engineBistDone e sig, s => execEngineBistDone_framed e sig s
  | .engineProbationEnd e, s => execEngineProbationEnd_framed e s
  | .rxWindowOpen a, s => execRxWindowOpen_framed a s
  | .rxWindowClose a, s => execRxWindowClose_framed a s
  | .reassemblyTimeout p src size tag, s => execReassemblyTimeout_framed p src size tag s
  | .panCreate part p data, s => execPanCreate_framed part p data s
  | .panDelete part p data, s => execPanDelete_framed part p data s
  | .panOwnerChange part p data, s => execPanOwnerChange_framed part p data s
  | .nbrEntryWrite p data, s => execNbrEntryWrite_framed p data s
  | .livenessPeriodExpiry n, s => execLivenessPeriodExpiry_framed n s
  | .heldFrameExpiry n, s => execHeldFrameExpiry_framed n s
  | .quarantineExpiry p a, s => execQuarantineExpiry_framed p a s
  | .joinCacheExpiry eui, s => execJoinCacheExpiry_framed eui s
  | .joinAccept c dma, s => execJoinAccept_framed c dma s
  | .nodeRelease c, s => execNodeRelease_framed c s
  | .nbrAdd c dma, s => execNbrAdd_framed c dma s
  | .nbrRemove c, s => execNbrRemove_framed c s
  | .addrQuarantine c, s => execAddrQuarantine_framed c s
  | .keyLoadDone k, s => execKeyLoadDone_framed k s
  | .keyLoadTimeout k, s => execKeyLoadTimeout_framed k s
  | .keyScrub before after, s => execKeyScrub_framed before after s
  | .keySlotErase p data, s => execKeySlotErase_framed p data s
  | .tamperInput idx high samples, s => execTamperInput_framed idx high samples s
  | .tamperLatchClear p data, s => execTamperLatchClear_framed p data s
  | .keyStore c dma, s => execKeyStore_framed c dma s
  | .keyDelete c, s => execKeyDelete_framed c s
  | .panKeySet c, s => execPanKeySet_framed c s
  | .groupRoll c, s => execGroupRoll_framed c s
  | .groupGraceExpiry p, s => execGroupGraceExpiry_framed p s
  | .deriveLoad c, s => execDeriveLoad_framed c s
  | .deriveUnload c, s => execDeriveUnload_framed c s
  | .kekSet c dma, s => execKekSet_framed c dma s
  | .kekRewrapDone p, s => execKekRewrapDone_framed p s
  | .keyCtrRaise c, s => execKeyCtrRaise_framed c s
  | .search c, s => execSearch_framed c s
  | .insert c dma, s => execInsert_framed c dma s
  | .delete c, s => execDelete_framed c s
  | .update c dma, s => execUpdate_framed c dma s
  | .next c, s => execNext_framed c s
  | .flushByPort c, s => execFlushByPort_framed c s
  | .iterationExpiry p b, s => execIterationExpiry_framed p b s
  | .prefixSearch c, s => execPrefixSearch_framed c s
  | .prefixInsert c, s => execPrefixInsert_framed c s
  | .prefixDelete c, s => execPrefixDelete_framed c s
  | .prefixUpdate c, s => execPrefixUpdate_framed c s
  | .prefixNext c, s => execPrefixNext_framed c s
  | .lpmModeChange p data, s => execLpmModeChange_framed p data s
  | .contextWrite p data, s => execContextWrite_framed p data s
  | .mplSeed p, s => execMplSeed_framed p s
  | .trickleInstant n faults, s => execTrickleInstant_framed n faults s
  | .trickleIntervalEnd n, s => execTrickleIntervalEnd_framed n s
  | .seenEntryExpiry p seed seq, s => execSeenEntryExpiry_framed p seed seq s
  | .twinEntryExpiry p o seq, s => execTwinEntryExpiry_framed p o seq s
  | .groupDefine c, s => execGroupDefine_framed c s
  | .groupAdd c dma, s => execGroupAdd_framed c dma s
  | .groupRemove c dma, s => execGroupRemove_framed c dma s
  | .groupCompact c, s => execGroupCompact_framed c s
  | .groupRead c, s => execGroupRead_framed c s
  | .groupDelete c, s => execGroupDelete_framed c s
  | .cvnPost c dma faults, s => execCvnPost_framed c dma faults s
  | .cvnCancel c, s => execCvnCancel_framed c s
  | .caravanPhaseEnd cid, s => execCaravanPhaseEnd_framed cid s
  | .sweepCopyQueue cid faults, s => execSweepCopyQueue_framed cid faults s
  | .caravanExpiry cid, s => execCaravanExpiry_framed cid s
  | .concurTimeout g p, s => execConcurTimeout_framed g p s
  | .caravanIdRelease cid, s => execCaravanIdRelease_framed cid s
  | .imgOpen c dma, s => execImgOpen_framed c dma s
  | .imgCancel c, s => execImgCancel_framed c s
  | .imageLoadDone idx, s => execImageLoadDone_framed idx s
  | .imageBlockSend idx faults, s => execImageBlockSend_framed idx faults s
  | .reportWindowExpiry idx, s => execReportWindowExpiry_framed idx s
  | .refillDone q, s => execRefillDone_framed q s
  | .queueFlush p data, s => execQueueFlush_framed p data s
  | .queueEntryWrite p data, s => execQueueEntryWrite_framed p data s
  | .egressDequeue port, s => execEgressDequeue_framed port s
  | .popWait p, s => execPopWait_framed p s
  | .popData p, s => execPopData_framed p s
  | .shaperRateWrite p data, s => execShaperRateWrite_framed p data s
  | .shaperBurstWrite p data, s => execShaperBurstWrite_framed p data s
  | .policerWrite p data, s => execPolicerWrite_framed p data s
  | .shaperEligible idx, s => execShaperEligible_framed idx s
  | .gclCommit p e data, s => execGclCommit_framed p e data s
  | .gclSwitch e, s => execGclSwitch_framed e s
  | .gateIntervalEnd e, s => execGateIntervalEnd_framed e s
  | .doorbell p r data, s => execDoorbell_framed p r data s
  | .ringEnable p r data, s => execRingEnable_framed p r data s
  | .ringDisable p r data, s => execRingDisable_framed p r data s
  | .txDescFetch p r dma, s => execTxDescFetch_framed p r dma s
  | .commandFetch p dma, s => execCommandFetch_framed p dma s
  | .rxWriteback p r dma, s => execRxWriteback_framed p r dma s
  | .vectorHoldoffExpiry p v, s => execVectorHoldoffExpiry_framed p v s
  | .msixUnmask p off data, s => execMsixUnmask_framed p off data s
  | .configRequest p a, s => execConfigRequest_framed p a s
  | .bar0ReadTimeout p, s => execBar0ReadTimeout_framed p s
  | .partMapWrite p data, s => execPartMapWrite_framed p data s
  | .partReset p data, s => execPartReset_framed p data s
  | .functionLevelReset p, s => execFunctionLevelReset_framed p s
  | .schedWrite c dma, s => execSchedWrite_framed c dma s
  | .schedRead c, s => execSchedRead_framed c s
  | .quietExit c, s => execQuietExit_framed c s
  | .bistRun c, s => execBistRun_framed c s
  | .bistDone w0 w1 w2 w3, s => execBistDone_framed w0 w1 w2 w3 s
  | .lockUnlock p, s => execLockUnlock_framed p s
  | .lockArm p data, s => execLockArm_framed p data s
  | .lockTimeout p, s => execLockTimeout_framed p s
  | .bankSelect p data, s => execBankSelect_framed p data s
  | .portEnable p e data, s => execPortEnable_framed p e data s
  | .portDisable p e data, s => execPortDisable_framed p e data s
  | .ethLink e up speed los, s => execEthLink_framed e up speed los s
  | .ethFrameRx e bs fcsOk, s => execEthFrameRx_framed e bs fcsOk s
  | .ethIngressDrain e, s => execEthIngressDrain_framed e s
  | .ethTxDone e, s => execEthTxDone_framed e s
  | .prpConfigWrite p data, s => execPrpConfigWrite_framed p data s
  | .prpEntryForget src, s => execPrpEntryForget_framed src s
  | .txtsPop p e, s => execTxtsPop_framed p e s
  | .mdioWrite p data, s => execMdioWrite_framed p data s
  | .mdioRead p data, s => execMdioRead_framed p data s
  | .mdioDone answer, s => execMdioDone_framed answer s
  | .timeSet p, s => execTimeSet_framed p s
  | .timeAdjust p, s => execTimeAdjust_framed p s
  | .delayReqSend d, s => execDelayReqSend_framed d s
  | .domainTimeout d, s => execDomainTimeout_framed d s
  | .timerWrap t, s => execTimerWrap_framed t s
  | .timerCompare t, s => execTimerCompare_framed t s
  | .timerClear p t, s => execTimerClear_framed p t s
  | .timerCompareWrite p t data, s => execTimerCompareWrite_framed p t data s
  | .timerPeriodWrite p t data, s => execTimerPeriodWrite_framed p t data s
  | .timerCountRead p t, s => execTimerCountRead_framed p t s
  | .timeRead p, s => execTimeRead_framed p s
  | .captureEdge idx rising samples, s => execCaptureEdge_framed idx rising samples s
  | .toutPulseEnd k, s => execToutPulseEnd_framed k s
  | .memoryUe u, s => execMemoryUe_framed u s
  | .clockCheck lock k3 k4, s => execClockCheck_framed lock k3 k4 s
  | .timePlausibilityCheck ppm, s => execTimePlausibilityCheck_framed ppm s
  | .islandSelfCheck pass, s => execIslandSelfCheck_framed pass s
  | .outputMonitor a txen dac, s => execOutputMonitor_framed a txen dac s
  | .beaconCheck id, s => execBeaconCheck_framed id s
  | .lockstepMismatch idx sram, s => execLockstepMismatch_framed idx sram s
  | .watchdogExpiry idx, s => execWatchdogExpiry_framed idx s
  | .pairRestartDone idx, s => execPairRestartDone_framed idx s
  | .forceQuiet p data, s => execForceQuiet_framed p data s
  | .yarrowResume p data, s => execYarrowResume_framed p data s
  | .yarrowClusterDone sig found, s => execYarrowClusterDone_framed sig found s
  | .droverAttempt a tx, s => execDroverAttempt_framed a tx s
  | .ledgerFreeze p, s => execLedgerFreeze_framed p s
  | .ledgerUnfreeze p, s => execLedgerUnfreeze_framed p s
  | .logDataRead p trail, s => execLogDataRead_framed p trail s
  | .latencyToleranceWrite p data, s => execLatencyToleranceWrite_framed p data s
  | .powerForce p data, s => execPowerForce_framed p data s
  | .clusterUngateDone c, s => execClusterUngateDone_framed c s
  | .wakeNInput samples, s => execWakeNInput_framed samples s
  | .supplyFault d, s => execSupplyFault_framed d s
  | .soft p data, s => execSoft_framed p data s
  | .recovery p data, s => execRecovery_framed p data s
  | .fDieBoot recovLow, s => execFDieBoot_framed recovLow s
  | .bootSelftestDone sigs, s => execBootSelftestDone_framed sigs s
  | .rollbackCommit p data, s => execRollbackCommit_framed p data s
  | .bootSelect p data, s => execBootSelect_framed p data s
  | .clrTriesA p data, s => execClrTriesA_framed p data s
  | .clrTriesB p data, s => execClrTriesB_framed p data s
  | .ident seq, s => execIdent_framed seq s
  | .slots seq, s => execSlots_framed seq s
  | .flashErase seq slot first count, s => execFlashErase_framed seq slot first count s
  | .flashWrite seq slot off data, s => execFlashWrite_framed seq slot off data s
  | .flashRead seq slot off len, s => execFlashRead_framed seq slot off len s
  | .slotCrc seq slot off len, s => execSlotCrc_framed seq slot off len s
  | .flashOpDone ok, s => execFlashOpDone_framed ok s
  | .ramLoad seq off data, s => execRamLoad_framed seq off data s
  | .ramRun seq, s => execRamRun_framed seq s
  | .smiviReset seq, s => execSmiviReset_framed seq s
  | .clusterFaultInService c, s => execClusterFaultInService_framed c s
  | .reservedTypeMessage d m, s => execReservedTypeMessage_framed d m s
  | .smiviInvalidCommand octets, s => execSmiviInvalidCommand_framed octets s
  | .bucketRebuildDone b idx, s => execBucketRebuildDone_framed b idx s
  | .timeSyncSend, s => execTimeSyncSend_framed s
  | .passRetrainDone, s => execPassRetrainDone_framed s
  | .passDown, s => execPassDown_framed s
  | .k6ClockLoss, s => execK6ClockLoss_framed s
  | .weightBankSwap, s => execWeightBankSwap_framed s
  | .slotBoundary, s => execSlotBoundary_framed s
  | .detectionCommit, s => execDetectionCommit_framed s
  | .flushPassStart, s => execFlushPassStart_framed s
  | .flushDone, s => execFlushDone_framed s
  | .sweeperVisit, s => execSweeperVisit_framed s
  | .filterRebuildDone, s => execFilterRebuildDone_framed s
  | .lpmModeChangeDone, s => execLpmModeChangeDone_framed s
  | .cellAudit, s => execCellAudit_framed s
  | .popWaitExpiry, s => execPopWaitExpiry_framed s
  | .depthSample, s => execDepthSample_framed s
  | .fwReady, s => execFwReady_framed s
  | .supervisionTx, s => execSupervisionTx_framed s
  | .domainRevert, s => execDomainRevert_framed s
  | .ppsInEdge, s => execPpsInEdge_framed s
  | .ppsOutPulse, s => execPpsOutPulse_framed s
  | .ppsOutEnd, s => execPpsOutEnd_framed s
  | .rtcUpdate, s => execRtcUpdate_framed s
  | .quietEscalation, s => execQuietEscalation_framed s
  | .yarrowClusterStart, s => execYarrowClusterStart_framed s
  | .droverIntervalEnd, s => execDroverIntervalEnd_framed s
  | .freezeLimitExpiry, s => execFreezeLimitExpiry_framed s
  | .powerStateExitDone, s => execPowerStateExitDone_framed s
  | .idleTimerExpiry, s => execIdleTimerExpiry_framed s
  | .vaultSaveStart, s => execVaultSaveStart_framed s
  | .rtcAlarm, s => execRtcAlarm_framed s
  | .holdupTrigger, s => execHoldupTrigger_framed s
  | .saveComplete, s => execSaveComplete_framed s
  | .vholdLow, s => execVholdLow_framed s
  | .rideThrough, s => execRideThrough_framed s
  | .vbatLoss, s => execVbatLoss_framed s
  | .porF, s => execPorF_framed s
  | .porH, s => execPorH_framed s
  | .pinF, s => execPinF_framed s
  | .pinH, s => execPinH_framed s
  | .resetPassTimeout, s => execResetPassTimeout_framed s
  | .triesClearTimer, s => execTriesClearTimer_framed s
  | .fuseBlowDone, s => execFuseBlowDone_framed s
  | .smiviResponseRead, s => execSmiviResponseRead_framed s
  | .ppsSourceTimeout, s => execPpsSourceTimeout_framed s
  | .ledgerDrainDone, s => execLedgerDrainDone_framed s
  | .powerStateEntryDone, s => execPowerStateEntryDone_framed s

/-- Settles O60: every command has its frame. -/
theorem commandsTouchOnlyTheirComponents : Obligations.CommandsTouchOnlyTheirComponents := by
  unfold Obligations.CommandsTouchOnlyTheirComponents
  intro c s
  obtain ⟨t, e, hw⟩ := exec_framed c s
  exact Does.keeps e hw

/-- Settles O3: every command has its frame, so it answers a next state. -/
theorem noCommandStopsTheBlock : Obligations.NoCommandStopsTheBlock := by
  unfold Obligations.NoCommandStopsTheBlock
  intro c s
  obtain ⟨t, e, -⟩ := exec_framed c s
  exact ⟨t, e⟩

/-! ### The steps -/

theorem step_nil {s : State} (h : s.pending = []) : step s = .next s.tick := by
  simp only [step, h]

theorem step_cons (c : Instr) (rest : List Instr) (s : State) :
    step { s with pending := c :: rest } = exec c { s with pending := rest } := rfl

theorem State.selfTick_now (s : State) : s.selfTick.now = s.now :=
  (State.selfTick_within s (Within.refl _ s) rfl :
    Within [.regs, .free, .pass, .host, .time, .safe, .log, .pwr, .ndir, .cvn, .cvnIds, .air, .qmg, .shp, .rf, .rx, .link, .slot, .key, .vault,
      .dir, .mesh] s s.selfTick).only .now (by decide)

theorem State.selfTick_held {s : State} (h : s.pwr.fHeld = true) : s.selfTick = s := by
  simp only [State.selfTick, h, if_true]

/-- Settles O1: the step at a queue with a command unfolds to the command's outcome. -/
theorem stepRunsTheFrontCommand : Obligations.StepRunsTheFrontCommand := by
  unfold Obligations.StepRunsTheFrontCommand
  exact step_cons

/-- Settles O2: what the block does of itself leaves the clock, and a held F-die does nothing of itself. -/
theorem emptyQueueLetsAMicrosecondPass : Obligations.EmptyQueueLetsAMicrosecondPass := by
  unfold Obligations.EmptyQueueLetsAMicrosecondPass
  intro s h
  exact ⟨step_nil h, (s.elapse 256).selfTick_now, fun hf => State.selfTick_held (s := s.elapse 256) hf⟩

/-- Settles O5: the table of the reset values is a canonical form, and no memory is written. -/
theorem canonicalAtReset : Obligations.CanonicalAtReset := by
  unfold Obligations.CanonicalAtReset
  exact (Bool.and_eq_true _ _).mpr ⟨awf_regReset, rfl⟩

theorem State.tick_canon {s : State} (h : s.canon = true) : s.tick.canon = true :=
  (State.tick_within s (Within.refl allComps s) rfl).canon h

theorem exec_canon {c : Instr} {s t : State} (h : s.canon = true) (e : exec c s = .next t) : t.canon = true := by
  obtain ⟨u, eu, hw⟩ := exec_framed c s
  cases eu.symm.trans e
  exact hw.canon h

/-- Settles O6: on an empty queue by the frame of the idle step, else by the frame of the command at the front. -/
theorem canonicalKept : Obligations.CanonicalKept := by
  unfold Obligations.CanonicalKept
  intro s t hc e
  cases hq : s.pending with
  | nil =>
    rw [step_nil hq] at e
    cases e
    exact State.tick_canon hc
  | cons c rest =>
    have hs : s = { s with pending := c :: rest } := by rw [← hq]
    rw [hs, step_cons] at e
    exact exec_canon (s := { s with pending := rest }) hc e

end Sys2Proof.Machine
end

section
/-! O19 and O20: timers. -/

set_option Elab.async false

namespace Sys2Proof.Machine

/-! ### A timer whose period is 0 (R361) -/

section
variable (s : State) (t : Nat)

@[simp] theorem State.timer_setTimer (x : TimerSt) : (s.setTimer t x).timer t = x := aget_aset_same ..
@[simp] theorem State.cmpEn_setTimer (x : TimerSt) : (s.setTimer t x).cmpEn t = s.cmpEn t := rfl
@[simp] theorem State.preload_setTimer (x : TimerSt) : (s.setTimer t x).preload t = s.preload t := rfl
@[simp] theorem State.timer_err (k : Nat) (f : Fld) : (s.err k f).timer t = s.timer t := rfl

theorem State.only0_own (k : Nat) (f : Fld) (ok : State) : s.only0 0 k f ok = ok := rfl
theorem State.only0_other {p : Nat} (h : p ≠ 0) (k : Nat) (f : Fld) (ok : State) : s.only0 p k f ok = s.err k f := if_neg h

/-- What a write may do to a timer with P 0: it fires nothing, and beside the refusal of another partition no register changes. -/
def Unfired (s : State) (t : Nat) (u : State) : Prop := u.regsBut s [R.TMR_ERR] ∧ (u.timer t).firedAt = (s.timer t).firedAt

variable {s t}

theorem Unfired.only0 {ok : State} (p : Part) (f : Fld) (h : Unfired s t ok) : Unfired s t (s.only0 p R.TMR_ERR f ok) := by
  unfold State.only0
  split
  · exact h
  · exact ⟨s.setFld_regsBut _ _ (by simp), rfl⟩

theorem Unfired.setTimer {x : TimerSt} (h : x.firedAt = (s.timer t).firedAt) : Unfired s t (s.setTimer t x) :=
  ⟨State.regsBut_of_regs rfl, by rw [State.timer_setTimer, h]⟩

/-- Preload values with a P of 0 leave the compare unfired, whatever C they bring. -/
theorem Unfired.preloadTake {x : TimerSt} (h : x.firedAt = (s.timer t).firedAt) (hp : x.preP.getD x.p = 0) :
    Unfired s t ((s.setTimer t x).preloadTake t) := by
  unfold State.preloadTake
  simp only [State.timer_setTimer, hp, ne_eq, not_true_eq_false, decide_false, Bool.and_false, Bool.false_eq_true, if_false]
  split
  · exact Unfired.setTimer h
  · exact ⟨State.regsBut_of_regs rfl, by rw [State.timer_setTimer]; exact h⟩

end

section
variable {s : State} {t : Nat} (hp : (s.timer t).p = 0) (p : Part) (data : Word)
include hp

theorem compareWrite_unfired : Unfired s t (s.compareWrite p t data) := by
  refine Unfired.only0 p _ ?_
  simp only [hp, ne_eq, not_true_eq_false, decide_false, Bool.and_false, Bool.false_and, Bool.false_eq_true, if_false]
  split <;> exact Unfired.setTimer rfl

theorem periodWrite_unfired (h : s.preload t = false ∨ (data = 0 ∧ (s.timer t).stageP = 0)) : Unfired s t (s.periodWrite p t data) := by
  refine Unfired.only0 p _ ?_
  simp only [hp, ne_eq, not_true_eq_false, if_false, if_true]
  rcases h with h | ⟨rfl, hs⟩
  · rw [h]
    exact Unfired.setTimer rfl
  · split
    · exact Unfired.preloadTake rfl (by simp [hs])
    · exact Unfired.setTimer rfl

omit hp in
theorem timerClear_unfired : Unfired s t (s.timerClear p t) := Unfired.only0 p _ (Unfired.setTimer rfl)

end

/-- Settles O19: counting and wrapping stop at P 0, and the writes reach `compareFire` only through a P that is not 0. -/
theorem noCompareWithPeriodZero : Obligations.NoCompareWithPeriodZero := by
  unfold Obligations.NoCompareWithPeriodZero
  intro s p t data _ hp
  refine ⟨?_, ?_, ⟨_, rfl, compareWrite_unfired hp p data⟩, fun h => ⟨_, rfl, periodWrite_unfired hp p data h⟩,
    ⟨_, rfl, timerClear_unfired p⟩⟩
  · show execTimerCompare t s = _
    simp [execTimerCompare, hp]
  · show execTimerWrap t s = _
    simp [execTimerWrap, hp]

/-! ### A capture while the counter returns to 0 -/

/-- A timer that has counted to 100, and capture input 0 on both edges of it, each edge taken. -/
def captureTimer : State :=
  { State.reset with
    regs := aset 0 (R.TMR_CAP_CFG 0) (fset F.TMR_CAP_CFG_DIV (fset F.TMR_CAP_CFG_EDGE (fset F.TMR_CAP_CFG_EN 0 1) 2) 1) State.reset.regs
    now := 100
    time := { State.reset.time with timers := [(0, { p := 1000, stageP := 10 })] } }

/-- Its period is lowered to 10, so that it returns to 0 in the next tick; in this one it stands at 100. -/
def captureLowered : State := captureTimer.periodWrite 0 0 0

/-- The command latches the count at the edge, taken modulo the new period: 0, where the counter stands at 100. -/
def captureLatched : State := match execCaptureEdge 0 true 0 captureLowered with
  | .next t => t
  | _ => captureLowered

theorem captureLatched_count : captureLatched.rd (R.TMR_CAP_CNT_LO 0) = 0 := by decide +kernel

/-- Refutes O20: the clause of the latched count. A P at or below the count leaves the counter where it stands until the next tick, at or above P
(R359); an edge that qualifies in that tick latches the count modulo P, and not the count. -/
theorem not_timersAndCaptures : ¬ Obligations.TimersAndCaptures := by
  unfold Obligations.TimersAndCaptures
  intro h
  obtain ⟨-, -, -, latched, -⟩ := h.2 captureLowered 0 true 0
  obtain ⟨t, e, hc, -⟩ := latched (by decide +kernel) (by decide +kernel) (by decide +kernel) (by decide +kernel) (by decide +kernel)
    (by decide +kernel) (by decide +kernel) (by decide +kernel) (by decide +kernel)
  have ht : captureLatched = t := by
    have he : execCaptureEdge 0 true 0 captureLowered = .next t := e
    simp only [captureLatched, he]
  rw [← ht] at hc
  exact absurd (captureLatched_count.symm.trans hc) (by decide +kernel)

end Sys2Proof.Machine
end

section
/-! O16: PRP's configuration and table, and the MDIO bus (R334, R340, R341). -/

set_option Elab.async false

namespace Sys2Proof.Machine

section
variable {s : State} {data : Word}

theorem exec_prpConfigWrite_arm (p : Part) : exec (.prpConfigWrite p data) s = .next (s.prpCfg p.val data) := rfl
theorem exec_prpEntryForget_arm (src : BitVec 48) : exec (.prpEntryForget src) s = execPrpEntryForget src s := rfl
theorem exec_mdioWrite_arm (p : Part) : exec (.mdioWrite p data) s = .next (s.mdioWrite p.val (fset F.ETH_MDIO_OP data 1)) := rfl
theorem exec_mdioRead_arm (p : Part) : exec (.mdioRead p data) s = .next (s.mdioWrite p.val (fset F.ETH_MDIO_OP data 2)) := rfl
theorem exec_mdioDone_arm (answer : BitVec 16) : exec (.mdioDone answer) s = execMdioDone answer s := rfl

theorem prpCfg_disabled (h0 : s.flag (R.ETH_CFG 0) F.ETH_CFG_EN = false) (h1 : s.flag (R.ETH_CFG 1) F.ETH_CFG_EN = false) :
    s.prpCfg 0 data = s.wr R.PRP_CFG (data &&& 0x7FFFFFF) := by
  simp [State.prpCfg, State.only0, h0, h1]

/-- `PRP_CFG` as a write leaves it while `PRP_EN` may not change. -/
def prpKept (s : State) (data : Word) : Word := fset F.PRP_CFG_PRP_EN (data &&& 0x7FFFFFF) (s.fld R.PRP_CFG F.PRP_CFG_PRP_EN)

theorem prpCfg_busy (h0 : s.flag (R.ETH_CFG 0) F.ETH_CFG_EN = true) (he : fget F.PRP_CFG_PRP_EN data ≠ s.fld R.PRP_CFG F.PRP_CFG_PRP_EN) :
    s.prpCfg 0 data = (s.wr R.PRP_CFG (prpKept s data)).err R.PRP_ERR F.PRP_ERR_PRP_BUSY := by
  have hd : fget F.PRP_CFG_PRP_EN (data &&& 0x7FFFFFF) ≠ s.fld R.PRP_CFG F.PRP_CFG_PRP_EN := by rwa [fget_mask _ (by decide)]
  simp only [State.prpCfg, State.only0, h0, Bool.true_or, Bool.true_and, decide_eq_true_eq, hd, ne_eq, not_false_eq_true, if_true, prpKept]

theorem fget_prpKept_en : fget F.PRP_CFG_PRP_EN (prpKept s data) = s.fld R.PRP_CFG F.PRP_CFG_PRP_EN := by
  rw [prpKept, fget_fset _ _ _ (by decide)]
  exact Nat.mod_eq_of_lt (fget_lt _ _)

theorem fget_prpKept_forget : fget F.PRP_CFG_ENTRY_FORGET (prpKept s data) = fget F.PRP_CFG_ENTRY_FORGET data := by
  rw [prpKept, fget_fset_above _ _ _ _ (by decide) (by decide)]
  exact fget_mask _ (by decide)

theorem Does.prpConfigWrite_busy (h0 : s.flag (R.ETH_CFG 0) F.ETH_CFG_EN = true)
    (he : fget F.PRP_CFG_PRP_EN data ≠ s.fld R.PRP_CFG F.PRP_CFG_PRP_EN) :
    Does (.prpConfigWrite 0 data) s (fun t => t.flag R.PRP_ERR F.PRP_ERR_PRP_BUSY = true ∧
      t.fld R.PRP_CFG F.PRP_CFG_PRP_EN = s.fld R.PRP_CFG F.PRP_CFG_PRP_EN ∧
      t.fld R.PRP_CFG F.PRP_CFG_ENTRY_FORGET = fget F.PRP_CFG_ENTRY_FORGET data) := by
  have hr : ((s.wr R.PRP_CFG (prpKept s data)).err R.PRP_ERR F.PRP_ERR_PRP_BUSY).rd R.PRP_CFG = prpKept s data := by
    rw [State.rd_err_ne _ _ _ (by decide), State.rd_wr]
  refine ⟨_, (exec_prpConfigWrite_arm 0).trans (congrArg _ (prpCfg_busy h0 he)), State.flag_err _ _ (by decide) (by decide), ?_, ?_⟩
  · rw [State.fld, hr, fget_prpKept_en]
  · rw [State.fld, hr, fget_prpKept_forget]

@[simp] theorem State.prpSync_eth (u : State) : u.prpSync.eth = u.eth := rfl
@[simp] theorem State.prpSync_now (u : State) : u.prpSync.now = u.now := rfl

theorem Does.prpEntryForget {src : BitVec 48} {x : PrpEntry} (h : s.eth.prp.find? (fun x => x.src = src) = some x) :
    Does (.prpEntryForget src) s (fun t =>
      t.eth.prp = s.eth.prp.filter (fun y => y.src ≠ src) ∧ t.now = max s.now (x.last + ms s.entryForget)) := by
  have hn : (s.advanceTo (x.last + ms s.entryForget)).now = max s.now (x.last + ms s.entryForget) := s.advanceTo_now _
  have he : (s.advanceTo (x.last + ms s.entryForget)).eth = s.eth := s.advanceTo_eth _
  simp only [Does, exec_prpEntryForget_arm, execPrpEntryForget, h]
  generalize s.advanceTo (x.last + ms s.entryForget) = u at hn he
  exact ⟨_, rfl, by rw [State.prpSync_eth, he], hn⟩

/-- An operation on the idle bus, by its `OP`. -/
theorem mdioWrite_idle {op : Nat} (h : s.flag R.ETH_MDIO F.ETH_MDIO_BUSY = false) (ho : op = 1 ∨ op = 2) :
    (s.mdioWrite 0 (fset F.ETH_MDIO_OP data op)).flag R.ETH_MDIO F.ETH_MDIO_BUSY = true ∧
      (s.mdioWrite 0 (fset F.ETH_MDIO_OP data op)).eth = { s.eth with mdio := op } := by
  have hop : fget F.ETH_MDIO_OP (fset F.ETH_MDIO_OP data op) = op := by
    rw [fget_fset _ _ _ (by decide)]
    rcases ho with rfl | rfl <;> rfl
  have hb : (op = 1 || op = 2) = true := by simpa using ho
  simp only [State.mdioWrite, State.only0, h, hop, hb, Bool.false_eq_true, if_false, if_true]
  have he : (s.wr R.ETH_MDIO (fset F.ETH_MDIO_OP data op &&& 0x03FFFFFF)).eth = s.eth := s.wr_eth _ _
  generalize s.wr R.ETH_MDIO (fset F.ETH_MDIO_OP data op &&& 0x03FFFFFF) = u at he
  rw [← he]
  exact ⟨State.flag_err _ _ (by decide) (by decide), State.setFld_eth ..⟩

theorem mdioWrite_busy (h : s.flag R.ETH_MDIO F.ETH_MDIO_BUSY = true) : s.mdioWrite 0 data = s := by
  simp [State.mdioWrite, State.only0, h]

theorem State.mdioFree (u : State) : (u.setFld R.ETH_MDIO F.ETH_MDIO_BUSY 0).flag R.ETH_MDIO F.ETH_MDIO_BUSY = false := by
  rw [State.flag, State.fld_setFld _ _ _ _ (by decide)]
  rfl

/-- The end of an operation clears `BUSY`; the rest is of the state with its data taken. -/
theorem Does.mdioDone_of {answer : BitVec 16} {x : Nat} {u : State} (h : s.eth.mdio ≠ 0)
    (hu : (if s.eth.mdio = 2 then (s.setFld R.ETH_MDIO F.ETH_MDIO_BUSY 0).setFld R.ETH_MDIO F.ETH_MDIO_DATA answer.toNat
      else s.setFld R.ETH_MDIO F.ETH_MDIO_BUSY 0) = u)
    (hf : u.flag R.ETH_MDIO F.ETH_MDIO_BUSY = false) (hx : u.fld R.ETH_MDIO F.ETH_MDIO_DATA = x) (hr : u.regsBut s [R.ETH_MDIO]) :
    Does (.mdioDone answer) s (fun t => t.flag R.ETH_MDIO F.ETH_MDIO_BUSY = false ∧ t.fld R.ETH_MDIO F.ETH_MDIO_DATA = x ∧
      t.eth.mdio = 0 ∧ t.regsBut s [R.ETH_MDIO]) := by
  simp only [Does, exec_mdioDone_arm, execMdioDone, h, if_false, hu]
  exact ⟨_, rfl, hf, hx, rfl, hr⟩

theorem Does.mdioDone_read (answer : BitVec 16) (h : s.eth.mdio = 2) : Does (.mdioDone answer) s (fun t =>
    t.flag R.ETH_MDIO F.ETH_MDIO_BUSY = false ∧ t.fld R.ETH_MDIO F.ETH_MDIO_DATA = answer.toNat ∧ t.eth.mdio = 0 ∧
      t.regsBut s [R.ETH_MDIO]) := by
  refine Does.mdioDone_of (by rw [h]; decide) (if_pos h) ?_ ?_ ?_
  · rw [State.flag, State.fld_setFld_other _ _ _ _ _ (by decide) (by decide)]
    exact s.mdioFree
  · rw [State.fld_setFld _ _ _ _ (by decide)]
    exact Nat.mod_eq_of_lt answer.isLt
  · exact State.regsBut_trans (s.setFld_regsBut _ _ (by simp)) (State.setFld_regsBut _ _ _ (by simp))

theorem Does.mdioDone_write (answer : BitVec 16) (h : s.eth.mdio = 1) : Does (.mdioDone answer) s (fun t =>
    t.flag R.ETH_MDIO F.ETH_MDIO_BUSY = false ∧ t.fld R.ETH_MDIO F.ETH_MDIO_DATA = s.fld R.ETH_MDIO F.ETH_MDIO_DATA ∧ t.eth.mdio = 0 ∧
      t.regsBut s [R.ETH_MDIO]) :=
  Does.mdioDone_of (by rw [h]; decide) (if_neg (by rw [h]; decide)) s.mdioFree
    (State.fld_setFld_other _ _ _ _ _ (by decide) (by decide)) (s.setFld_regsBut _ _ (by simp))

end

/-- Settles O16: a write of `PRP_CFG` keeps `PRP_EN` while a LAN port is enabled, and the MDIO bus takes one operation at a time. -/
theorem prpAndMdio : Obligations.PrpAndMdio := by
  unfold Obligations.PrpAndMdio
  intro s data src x answer
  refine ⟨fun h0 h1 => (exec_prpConfigWrite_arm 0).trans (congrArg _ (prpCfg_disabled h0 h1)), Does.prpConfigWrite_busy, Does.prpEntryForget,
    fun h => ⟨⟨_, exec_mdioWrite_arm 0, mdioWrite_idle h (.inl rfl)⟩, ⟨_, exec_mdioRead_arm 0, mdioWrite_idle h (.inr rfl)⟩⟩,
    fun h => ⟨(exec_mdioWrite_arm 0).trans (congrArg _ (mdioWrite_busy h)), (exec_mdioRead_arm 0).trans (congrArg _ (mdioWrite_busy h))⟩, Does.mdioDone_read answer,
    Does.mdioDone_write answer⟩

end Sys2Proof.Machine
end

section
/-! O18: city time, its domains, and the pulses and reads of time (R346 to R357). -/

set_option Elab.async false

namespace Sys2Proof.Machine

/-! ### City time is set and adjusted (R347, R348) -/

section
variable (s : State)

theorem exec_timeSet_arm (p : Part) : exec (.timeSet p) s = .next (s.timeSet p.val) := rfl
theorem exec_timeAdjust_arm (p : Part) : exec (.timeAdjust p) s = .next (s.timeAdjust p.val) := rfl

@[simp] theorem State.timeSource_regs (a b c d e : Nat) : (s.timeSource a b c d e).regs = s.regs := rfl
@[simp] theorem State.timeSource_time (a b c d e : Nat) : (s.timeSource a b c d e).time = s.time := rfl
@[simp] theorem State.timeSource_now (a b c d e : Nat) : (s.timeSource a b c d e).now = s.now := rfl
@[simp] theorem State.leaveHoldover_regs : s.leaveHoldover.regs = s.regs := rfl

theorem State.fld_setServo {x : Nat} (h : x < 8) : (s.setServo x).servo = x :=
  (State.fld_setFld _ _ _ _ (by decide)).trans (Nat.mod_eq_of_lt h)

/-- City time as SET leaves it, before the registers follow. -/
def State.timeStepped (s : State) (ns : Nat) : State :=
  let s1 := if s.servo = 3 then s.leaveHoldover else s
  let s2 := { s1 with time := { s1.time with city32 := 32 * ns, slew := 0, lockRun := 0, valid := true } }
  if s.src ≠ 0 then s2.timeSource 0 s.activeDom s.src s.activeDom 0 else s2

theorem State.timeStepped_regs (ns : Nat) : (s.timeStepped ns).regs = s.regs := by
  unfold State.timeStepped
  dsimp only
  split <;> split <;> rfl

theorem State.timeStepped_time (ns : Nat) : (s.timeStepped ns).time.city32 = 32 * ns ∧ (s.timeStepped ns).time.valid = true := by
  unfold State.timeStepped
  dsimp only
  split <;> exact ⟨rfl, rfl⟩

variable {s}

theorem timeSet_stopped (hr : s.running = false) (hn : s.fld R.TMR_SET_NS F.TMR_SET_NS_NS < 1000000000) :
    s.timeSet 0 = ((s.timeStepped ((s.rd R.TMR_SET_S).toNat * 1000000000 + s.fld R.TMR_SET_NS F.TMR_SET_NS_NS)).setFld R.TMR_SRC F.TMR_SRC_SRC
      0).setServo 4 := by
  simp only [State.timeSet, State.only0, hr, Nat.not_le.mpr hn, Bool.false_eq_true, if_false, if_true]
  rfl

theorem Does.timeSet (hr : s.running = false) (hn : s.fld R.TMR_SET_NS F.TMR_SET_NS_NS < 1000000000) : Does (.timeSet 0) s (fun t =>
    t.cityNs = (s.rd R.TMR_SET_S).toNat * 1000000000 + s.fld R.TMR_SET_NS F.TMR_SET_NS_NS ∧ t.time.valid = true ∧ t.servo = 4 ∧ t.src = 0 ∧
      t.regsBut s [R.TMR_SRC, R.TMR_SERVO]) := by
  refine ⟨_, (exec_timeSet_arm s 0).trans (congrArg _ (timeSet_stopped hr hn)), ?_⟩
  have hregs := s.timeStepped_regs ((s.rd R.TMR_SET_S).toNat * 1000000000 + s.fld R.TMR_SET_NS F.TMR_SET_NS_NS)
  obtain ⟨hcity, hvalid⟩ := s.timeStepped_time ((s.rd R.TMR_SET_S).toNat * 1000000000 + s.fld R.TMR_SET_NS F.TMR_SET_NS_NS)
  generalize s.timeStepped ((s.rd R.TMR_SET_S).toNat * 1000000000 + s.fld R.TMR_SET_NS F.TMR_SET_NS_NS) = u at hregs hcity hvalid ⊢
  refine ⟨?_, hvalid, State.fld_setServo _ (by decide), ?_, ?_⟩
  · show u.time.city32 / 32 = _
    omega
  · exact (State.fld_setFld_ne _ _ _ _ (by decide)).trans (State.fld_setFld _ _ _ _ (by decide))
  · exact State.regsBut_trans (State.regsBut_trans (State.regsBut_of_regs hregs) (u.setFld_regsBut _ _ (by simp)))
      (State.setFld_regsBut _ _ _ (by simp))

theorem Does.timeSet_running (hr : s.running = true) : Does (.timeSet 0) s (fun t =>
    t.flag R.TMR_ERR F.TMR_ERR_TIME_RUNNING = true ∧ t.onlyKeys s [R.TMR_ERR]) := by
  have e : s.timeSet 0 = s.err R.TMR_ERR F.TMR_ERR_TIME_RUNNING := by simp [State.timeSet, State.only0, hr]
  exact ⟨_, (exec_timeSet_arm s 0).trans (congrArg _ e), State.flag_err _ _ (by decide) (by decide), s.err_onlyKeys _ (by simp)⟩

theorem timeAdjust_step (hr : s.running = false) (h : 100000 < (s.rd R.TMR_ADJ_NS).toInt.natAbs) : exec (.timeAdjust 0) s =
    .next { s with time := { s.time with city32 := ((s.time.city32 : Int) + 32 * (s.rd R.TMR_ADJ_NS).toInt).toNat } } := by
  simp [exec_timeAdjust_arm, State.timeAdjust, State.only0, State.adjust, hr, h]

theorem timeAdjust_slew (h : s.running = true ∨ (s.rd R.TMR_ADJ_NS).toInt.natAbs ≤ 100000) : exec (.timeAdjust 0) s =
    .next { s with time := { s.time with slew := s.time.slew + (s.rd R.TMR_ADJ_NS).toInt } } := by
  rcases h with h | h
  · simp [exec_timeAdjust_arm, State.timeAdjust, State.only0, State.adjust, h]
  · simp [exec_timeAdjust_arm, State.timeAdjust, State.only0, State.adjust, Nat.not_lt.mpr h]

/-- What a partition other than 0 gets for a write of the block. -/
theorem timer_refused (ok : State) {p : Part} (hp : p ≠ 0) :
    (s.only0 p R.TMR_ERR F.TMR_ERR_PART_WRITE ok).flag R.TMR_ERR F.TMR_ERR_PART_WRITE = true ∧
      (s.only0 p R.TMR_ERR F.TMR_ERR_PART_WRITE ok).onlyKeys s [R.TMR_ERR] := by
  have e : s.only0 p R.TMR_ERR F.TMR_ERR_PART_WRITE ok = s.err R.TMR_ERR F.TMR_ERR_PART_WRITE := if_neg (fun h => hp (Fin.ext h))
  rw [e]
  exact ⟨State.flag_err _ _ (by decide) (by decide), s.err_onlyKeys _ (by simp)⟩

end

/-! ### The tracked domains (R350 to R352) -/

/-- A domain is marked good or not. -/
def State.domMark (s : State) (d : Nat) : State :=
  (s.setFld (R.TMR_DOM_STATE d) F.TMR_DOM_STATE_GOOD (if s.domGood d then 1 else 0)).setDom d
    { s.dom d with goodSince := if s.domGood d then some ((s.dom d).goodSince.getD s.now) else none }

/-- The active domain follows the marks. -/
def State.domPick (s : State) : State :=
  let prefer := s.fld R.TMR_SRC F.TMR_SRC_PREFER
  let a := s.activeDom
  if s.src ≠ 1 then s
  else if !s.time.chosen then
    (if s.domGood prefer then { s.setActive prefer 1 with time := { (s.setActive prefer 1).time with chosen := true } }
     else if s.domGood (1 - prefer) then
      { s.setActive (1 - prefer) 1 with time := { (s.setActive (1 - prefer) 1).time with chosen := true } }
     else s)
  else if s.domGood a then s
  else if s.domGood (1 - a) then s.setActive (1 - a) 1
  else s.enterHoldover

section
variable (s : State)

theorem State.domEval_eq : s.domEval = ((s.domMark 0).domMark 1).domPick := rfl

/-- What the choice of the active domain leaves: time and the domains' records, and every register but two. -/
def DomsKept (s t : State) : Prop := t.now = s.now ∧ t.time.dom = s.time.dom ∧ t.regsBut s [R.TMR_SERVO, R.PTP_UTC]

theorem DomsKept.refl : DomsKept s s := ⟨rfl, rfl, State.regsBut_refl _ _⟩

theorem State.utcSync_kept : s.utcSync.now = s.now ∧ s.utcSync.time = s.time ∧ s.utcSync.regsBut s [R.PTP_UTC] := by
  unfold State.utcSync
  split
  · exact ⟨rfl, rfl, State.regsBut_refl _ _⟩
  · exact ⟨by simp, by simp, State.regsBut_trans (s.setFld_regsBut _ _ (by simp)) (State.setFld_regsBut _ _ _ (by simp))⟩

/-- The new active domain is marked, and then announced. -/
theorem State.setActive_kept (d cause : Nat) : (s.setActive d cause).now = s.now ∧ (s.setActive d cause).time = s.time ∧
    (s.setActive d cause).regs = (s.setFld R.TMR_SERVO F.TMR_SERVO_ACTIVE d).utcSync.regs := by
  obtain ⟨hn, ht, -⟩ := (s.setFld R.TMR_SERVO F.TMR_SERVO_ACTIVE d).utcSync_kept
  rw [State.setFld_now] at hn
  rw [State.setFld_time] at ht
  unfold State.setActive
  generalize (s.setFld R.TMR_SERVO F.TMR_SERVO_ACTIVE d).utcSync = u at hn ht
  dsimp only
  split
  · exact ⟨hn, ht, rfl⟩
  · exact ⟨hn, ht, rfl⟩

theorem State.setActive_regsBut (d cause : Nat) : (s.setActive d cause).regsBut s [R.TMR_SERVO, R.PTP_UTC] := by
  obtain ⟨-, -, hr⟩ := s.setActive_kept d cause
  obtain ⟨-, -, hu⟩ := (s.setFld R.TMR_SERVO F.TMR_SERVO_ACTIVE d).utcSync_kept
  exact State.regsBut_trans (State.regsBut_trans (s.setFld_regsBut _ _ (by simp)) (State.regsBut_mono hu (by simp))) (State.regsBut_of_regs hr)

theorem DomsKept.setActive (d cause : Nat) : DomsKept s (s.setActive d cause) := by
  obtain ⟨hn, ht, -⟩ := s.setActive_kept d cause
  exact ⟨hn, by rw [ht], s.setActive_regsBut d cause⟩

theorem State.activeDom_setActive {d : Nat} (cause : Nat) (hd : d < 2) : (s.setActive d cause).activeDom = d := by
  obtain ⟨-, -, hr⟩ := s.setActive_kept d cause
  obtain ⟨-, -, hu⟩ := (s.setFld R.TMR_SERVO F.TMR_SERVO_ACTIVE d).utcSync_kept
  calc (s.setActive d cause).activeDom
      = (s.setFld R.TMR_SERVO F.TMR_SERVO_ACTIVE d).utcSync.fld R.TMR_SERVO F.TMR_SERVO_ACTIVE := congrArg (fget _) (State.rd_of_regs hr _)
    _ = (s.setFld R.TMR_SERVO F.TMR_SERVO_ACTIVE d).fld R.TMR_SERVO F.TMR_SERVO_ACTIVE := State.fld_of_regsBut hu (by decide) _
    _ = d := (State.fld_setFld _ _ _ _ (by decide)).trans (Nat.mod_eq_of_lt hd)

theorem State.setActive_raised {d cause : Nat} (h : s.activeDom ≠ d) :
    (s.setActive d cause).raised 24 (w32 (s.src + d * 4)) (w32 (s.src + s.activeDom * 4)) (w32 cause) := by
  unfold State.setActive
  dsimp only
  rw [if_neg h]
  exact State.evtF_raised _ _ _ _ _ (by decide)

theorem DomsKept.enterHoldover : DomsKept s s.enterHoldover := by
  unfold State.enterHoldover
  split
  · exact DomsKept.refl s
  · exact ⟨rfl, rfl, State.regsBut_trans (s.setFld_regsBut _ _ (by simp) : (s.setServo 3).regsBut s _) (State.regsBut_of_regs rfl)⟩

theorem DomsKept.chosen {t : State} (h : DomsKept s t) : DomsKept s { t with time := { t.time with chosen := true } } := h

theorem DomsKept.domPick : DomsKept s s.domPick := by
  unfold State.domPick
  dsimp only
  split
  · exact DomsKept.refl s
  split
  · split
    · exact DomsKept.chosen s (DomsKept.setActive s _ _)
    split
    · exact DomsKept.chosen s (DomsKept.setActive s _ _)
    · exact DomsKept.refl s
  split
  · exact DomsKept.refl s
  split
  · exact DomsKept.setActive s _ _
  · exact DomsKept.enterHoldover s

/-! #### The marks -/

@[simp] theorem State.domMark_dom (d : Nat) : (s.domMark d).dom d =
    { s.dom d with goodSince := if s.domGood d then some ((s.dom d).goodSince.getD s.now) else none } := aget_aset_same ..

theorem State.domMark_dom_ne {d e : Nat} (h : e ≠ d) : (s.domMark d).dom e = s.dom e := aget_aset_ne _ _ _ _ _ h

theorem State.domMark_regsBut (d : Nat) : (s.domMark d).regsBut s [R.TMR_DOM_STATE d] := s.setFld_regsBut _ _ (by simp)

theorem State.domMark_now (d : Nat) : (s.domMark d).now = s.now := rfl
theorem State.domMark_chosen (d : Nat) : (s.domMark d).time.chosen = s.time.chosen := rfl

theorem State.fld_domMark (d : Nat) : (s.domMark d).fld (R.TMR_DOM_STATE d) F.TMR_DOM_STATE_GOOD = if s.domGood d then 1 else 0 := by
  refine (State.fld_setFld s (R.TMR_DOM_STATE d) F.TMR_DOM_STATE_GOOD _ (by decide)).trans ?_
  split <;> rfl

/-- A mark is about when a domain became good, and not about whether it is. -/
theorem State.domGood_domMark {d : Nat} (e : Nat) (hd : d < 2) : (s.domMark d).domGood e = s.domGood e := by
  have hsrc : (s.domMark d).src = s.src := State.fld_of_regsBut (s.domMark_regsBut d) (by simp [R.TMR_SRC, R.TMR_DOM_STATE]; omega) _
  have hcfg : ∀ f, (s.domMark d).fld (R.TMR_DOM_CFG e) f = s.fld (R.TMR_DOM_CFG e) f := fun f =>
    State.fld_of_regsBut (s.domMark_regsBut d) (by simp [R.TMR_DOM_CFG, R.TMR_DOM_STATE]; omega) f
  have hgood : ((s.domMark d).dom e).good (s.domMark d).now = (s.dom e).good s.now := by
    by_cases h : e = d
    · subst h
      rw [State.domMark_dom]
      rfl
    · rw [State.domMark_dom_ne s h]
      rfl
  simp only [State.domGood, State.domEn, State.flag, hsrc, hcfg, hgood]

/-- Both domains marked. -/
abbrev State.domMarks : State := (s.domMark 0).domMark 1

theorem State.domMarks_regsBut : s.domMarks.regsBut s [R.TMR_DOM_STATE 0, R.TMR_DOM_STATE 1] :=
  State.regsBut_trans (State.regsBut_mono (s.domMark_regsBut 0) (by simp)) (State.regsBut_mono ((s.domMark 0).domMark_regsBut 1) (by simp))

theorem State.domGood_domMarks (e : Nat) : s.domMarks.domGood e = s.domGood e := by
  rw [State.domGood_domMark _ _ (by decide), State.domGood_domMark _ _ (by decide)]

theorem State.domMarks_dom (d : Fin 2) : (s.domMarks.dom d).goodSince = if s.domGood d then some ((s.dom d).goodSince.getD s.now) else none := by
  have h0 := State.domGood_domMark s (d := 0) 1 (by decide)
  have hd := State.domMark_dom_ne s (d := 0) (e := 1) (by decide)
  match d with
  | 0 => rw [State.domMark_dom_ne _ (by decide), Fin.val_zero, State.domMark_dom]
  | 1 => rw [Fin.val_one, State.domMark_dom, h0, hd, State.domMark_now]

theorem State.fld_domMarks (d : Fin 2) : s.domMarks.fld (R.TMR_DOM_STATE d) F.TMR_DOM_STATE_GOOD = if s.domGood d then 1 else 0 := by
  have h0 := State.domGood_domMark s (d := 0) 1 (by decide)
  match d with
  | 0 => exact (State.fld_of_regsBut ((s.domMark 0).domMark_regsBut 1) (by decide) _).trans (s.fld_domMark 0)
  | 1 => exact ((s.domMark 0).fld_domMark 1).trans (by rw [h0]; rfl)

/-- The states of the domains as they are re-evaluated. -/
theorem State.domEval_mark (d : Fin 2) : s.domEval.now = s.now ∧
    s.domEval.fld (R.TMR_DOM_STATE d) F.TMR_DOM_STATE_GOOD = (if s.domGood d then 1 else 0) ∧
    (s.domEval.dom d).goodSince = if s.domGood d then some ((s.dom d).goodSince.getD s.now) else none := by
  rw [State.domEval_eq]
  obtain ⟨hn, hd, hr⟩ := DomsKept.domPick s.domMarks
  refine ⟨hn, ?_, ?_⟩
  · rw [State.fld_of_regsBut hr (by simp [R.TMR_DOM_STATE, R.TMR_SERVO, R.PTP_UTC]; omega), State.fld_domMarks]
  · rw [State.dom, hd]
    exact s.domMarks_dom d

end

section
variable {s : State} {d : Fin 2}

theorem exec_delayReqSend_arm : exec (.delayReqSend d) s = execDelayReqSend d s := rfl
theorem exec_domainTimeout_arm : exec (.domainTimeout d) s = execDomainTimeout d s := rfl
theorem exec_domainRevert_arm : exec .domainRevert s = execDomainRevert s := rfl

@[simp] theorem State.dom_setDom (e : Nat) (x : PtpDom) : (s.setDom e x).dom e = x := aget_aset_same ..

theorem State.dom_of_time {t : State} (h : t.time = s.time) (e : Nat) : t.dom e = s.dom e := by rw [State.dom, State.dom, h]

theorem Does.delayReqSend (he : s.domEn d = true) (hs : (s.dom d).syncSeen = true)
    (hl : s.flag (R.ETH_STATUS (s.fld (R.TMR_DOM_CFG d) F.TMR_DOM_CFG_PORT)) F.ETH_STATUS_LINK = true) (hu : s.passUp = true)
    (h0 : (s.dom d).delayAt = 0) : Does (.delayReqSend d) s (fun t =>
      (t.dom d).delaySeq = ((s.dom d).delaySeq + 1) % 65536 ∧ (t.dom d).t3 = none ∧
      (t.lastSent .h).map (fun m => (m.typ, m.payload.take 2)) = some (0x0B, [w32 d, w32 (((s.dom d).delaySeq + 1) % 65536)])) := by
  have hcond : ¬ ((!s.domEn d || !(s.dom d).syncSeen || !s.flag (R.ETH_STATUS (s.fld (R.TMR_DOM_CFG d) F.TMR_DOM_CFG_PORT)) F.ETH_STATUS_LINK
      || !s.passUp) = true) := by simp [he, hs, hl, hu]
  simp only [Does, exec_delayReqSend_arm, execDelayReqSend, if_neg hcond, if_pos h0]
  generalize hx : ({ s.dom d with delaySeq := ((s.dom d).delaySeq + 1) % 65536, delayAt := s.now + 1, t3 := none } : PtpDom) = x
  have hd := State.dom_setDom (s := s) d.val x
  generalize s.setDom d.val x = u at hd
  refine ⟨_, rfl, ?_⟩
  rw [State.passSend_lastSent, State.dom_of_time (State.passSend_time ..), State.dom_of_time (State.bump_time ..)]
  refine ⟨?_, ?_, rfl⟩
  · exact (congrArg PtpDom.delaySeq (hd.trans hx.symm) :)
  · exact (congrArg PtpDom.t3 (hd.trans hx.symm) :)

/-- A domain whose Announce or Sync messages have lapsed is not good. -/
theorem PtpDom.good_lapsed {x : PtpDom} {m : PtpMaster} {now : Nat} (cls : Nat) (hm : x.master = some m)
    (h : min (m.at_ + 3 * m.interval) (x.syncAt + 3 * x.syncInt) + 1 ≤ now) : x.good now cls = false := by
  rw [PtpDom.good, hm]
  by_cases ha : now ≤ m.at_ + 3 * m.interval
  · have hs : ¬ now ≤ x.syncAt + 3 * x.syncInt := by omega
    simp [hs]
  · simp [ha]

theorem Does.domainTimeout {m : PtpMaster} (he : s.domEn d = true) (hg : (s.dom d).goodSince.isSome = true) (hm : (s.dom d).master = some m) :
    Does (.domainTimeout d) s (fun t =>
      t.now = max s.now (min (m.at_ + 3 * m.interval) ((s.dom d).syncAt + 3 * (s.dom d).syncInt) + 1) ∧
        t.fld (R.TMR_DOM_STATE d) F.TMR_DOM_STATE_GOOD = 0 ∧ (t.dom d).goodSince = none) := by
  have hn : (s.dom d).goodSince.isNone = false := by simpa using hg
  simp only [Does, exec_domainTimeout_arm, execDomainTimeout, he, hn, hm, Bool.not_true, Bool.or_self, Bool.false_eq_true, if_false]
  have hbad : (s.advanceTo (min (m.at_ + 3 * m.interval) ((s.dom d).syncAt + 3 * (s.dom d).syncInt) + 1)).domGood d = false := by
    have := PtpDom.good_lapsed (s.fld (R.TMR_DOM_CFG d) F.TMR_DOM_CFG_CLASS_MAX) hm
      (now := (s.advanceTo (min (m.at_ + 3 * m.interval) ((s.dom d).syncAt + 3 * (s.dom d).syncInt) + 1)).now)
      (by rw [State.advanceTo_now]; omega)
    exact (Bool.and_eq_false_iff.mpr (.inr this))
  obtain ⟨hnow, hf, hs⟩ := State.domEval_mark (s.advanceTo (min (m.at_ + 3 * m.interval) ((s.dom d).syncAt + 3 * (s.dom d).syncInt) + 1)) d
  rw [hbad] at hf hs
  exact ⟨_, rfl, hnow.trans (State.advanceTo_now _ _), hf, hs⟩

/-- Of two domains, the one that is not active and good becomes the active one, at once or at the end of its time. -/
theorem State.domPick_revert {pr : Nat} (hp : pr < 2) (hs : s.src = 1) (hc : s.time.chosen = true) (hg : s.domGood pr = true)
    (ha : s.activeDom ≠ pr) :
    (s.domGood s.activeDom = true ∧ s.domPick = s) ∨ (s.domGood s.activeDom = false ∧ s.domPick = s.setActive pr 1) := by
  have hact : s.activeDom < 2 := fget_lt _ _
  have hother : 1 - s.activeDom = pr := by omega
  unfold State.domPick
  dsimp only
  rw [if_neg (not_not.mpr hs), hc]
  cases h : s.domGood s.activeDom with
  | true => exact .inl ⟨rfl, rfl⟩
  | false => exact .inr ⟨rfl, by rw [hother, hg]; rfl⟩

end

/-- The re-evaluation after which the preferred domain has been good for its time. -/
theorem Does.domainRevert {s : State} {n : Nat} {pr : Nat} (hpr : s.fld R.TMR_SRC F.TMR_SRC_PREFER = pr) (hg : (s.dom pr).goodSince = some n)
    (hs : s.src = 1) (ha : s.activeDom ≠ pr) (hr : s.revertS ≠ 0) (hc : s.time.chosen = true)
    (hgood : (s.advanceTo (n + sec s.revertS)).domGood pr = true) : Does .domainRevert s (fun t =>
      t.activeDom = pr ∧ t.now = max s.now (n + sec s.revertS) ∧ ((s.advanceTo (n + sec s.revertS)).domGood s.activeDom = true →
        t.raised 24 (w32 (1 + pr * 4)) (w32 (1 + s.activeDom * 4)) 2)) := by
  have hp : pr < 2 := by rw [← hpr]; exact fget_lt _ _
  have hcond : ¬ ((decide (s.src ≠ 1) || decide (s.activeDom = pr) || decide (s.revertS = 0) || !s.time.chosen) = true) := by
    simp [hs, ha, hr, hc]
  have e : exec .domainRevert s = execDomainRevert s := rfl
  simp only [execDomainRevert, hpr, hg, if_neg hcond] at e
  have hnow : (s.advanceTo (n + sec s.revertS)).now = max s.now (n + sec s.revertS) := s.advanceTo_now _
  have hsu : (s.advanceTo (n + sec s.revertS)).src = 1 := hs
  have hau : (s.advanceTo (n + sec s.revertS)).activeDom = s.activeDom := rfl
  have hcu : (s.advanceTo (n + sec s.revertS)).time.chosen = true := hc
  have hgu : ((s.advanceTo (n + sec s.revertS)).dom pr).goodSince = some n := hg
  generalize s.advanceTo (n + sec s.revertS) = u at e hnow hsu hau hcu hgu hgood ⊢
  have hmr := u.domMarks_regsBut
  have hmsrc : u.domMarks.src = 1 := (State.fld_of_regsBut hmr (by decide) _).trans hsu
  have hmact : u.domMarks.activeDom = s.activeDom := (State.fld_of_regsBut hmr (by decide) _).trans hau
  have hsince : (u.domMarks.dom pr).goodSince = some n := by
    have := u.domMarks_dom ⟨pr, hp⟩
    rw [this, hgood, hgu]
    rfl
  have hpick := State.domPick_revert hp hmsrc hcu (by rw [State.domGood_domMarks, hgood]) (by rw [hmact]; exact ha)
  rw [hmact, State.domGood_domMarks, ← State.domEval_eq] at hpick
  refine ⟨_, e, ?_⟩
  rcases hpick with ⟨hold, hstay⟩ | ⟨hlost, hmove⟩
  · have hcond : (decide ((u.domEval.dom pr).goodSince = some n) && decide (u.domEval.activeDom ≠ pr)) = true := by
      rw [hstay, hmact]
      simp [hsince, ha]
    rw [if_pos hcond, hstay]
    obtain ⟨hn, -, -⟩ := u.domMarks.setActive_kept pr 2
    refine ⟨State.activeDom_setActive _ _ hp, hn.trans hnow, fun _ => ?_⟩
    have := State.setActive_raised u.domMarks (d := pr) (cause := 2) (by rw [hmact]; exact ha)
    rwa [hmsrc, hmact] at this
  · have hact := State.activeDom_setActive u.domMarks 1 hp
    obtain ⟨hn, -, -⟩ := u.domMarks.setActive_kept pr 1
    have hcond : ¬ (decide ((u.domEval.dom pr).goodSince = some n) && decide (u.domEval.activeDom ≠ pr)) = true := by
      rw [hmove, hact]
      simp
    rw [if_neg hcond, hmove]
    exact ⟨hact, hn.trans hnow, fun h => absurd (hlost.symm.trans h) (by decide)⟩

/-! ### The pins and registers of time (R346, R354, R355, R357) -/

section
variable {s : State}

theorem exec_ppsInEdge_arm : exec .ppsInEdge s = execPpsInEdge s := rfl
theorem exec_ppsSourceTimeout_arm : exec .ppsSourceTimeout s = execPpsSourceTimeout s := rfl
theorem exec_ppsOutPulse_arm : exec .ppsOutPulse s = execPpsOutPulse s := rfl
theorem exec_ppsOutEnd_arm : exec .ppsOutEnd s = execPpsOutEnd s := rfl
theorem exec_rtcUpdate_arm : exec .rtcUpdate s = execRtcUpdate s := rfl
theorem exec_timeRead_arm (p : Part) : exec (.timeRead p) s = .next (s.timeRead p.val) := rfl

theorem ppsInEdge_rejected (hs : s.src = 2) (he : s.flag R.TMR_PPS F.TMR_PPS_IN_EN = true) (h1 : 400000000 < (s.cityNs - 12) % 1000000000)
    (h2 : (s.cityNs - 12) % 1000000000 < 600000000) : exec .ppsInEdge s = .next (s.bump R.TMR_CNT_PPSREJ) := by
  have hfar : 400000000 < (if 2 * ((s.cityNs - 12) % secNs) < secNs then (((s.cityNs - 12) % secNs : Nat) : Int)
      else (((s.cityNs - 12) % secNs : Nat) : Int) - secNs).natAbs := by
    unfold secNs
    split <;> omega
  simp only [exec_ppsInEdge_arm, execPpsInEdge, hs, he, ne_eq, not_true_eq_false, decide_false, Bool.not_true, Bool.or_self, Bool.false_eq_true,
    if_false, hfar, if_true]

/-- A locked servo keeps its state at an offset, and reports it. -/
theorem State.servoOffset_locked (ahead : Int) (h : s.servo = 2) : (s.servoOffset ahead).rd R.TMR_OFFSET = satWord ahead ∧
    (s.servoOffset ahead).time.ppsAt = s.time.ppsAt ∧ (s.servoOffset ahead).servo = 2 := by
  have hc : (s.correct ahead).regs = s.regs ∧ (s.correct ahead).time.ppsAt = s.time.ppsAt := by
    unfold State.correct
    split <;> exact ⟨rfl, rfl⟩
  obtain ⟨hr, hp⟩ := hc
  simp only [State.servoOffset, h]
  generalize s.correct ahead = u at hr hp
  have hservo : u.servo = 2 := (congrArg (fget F.TMR_SERVO_STATE) (State.rd_of_regs hr R.TMR_SERVO)).trans h
  exact ⟨u.rd_wr _ _, hp, (congrArg (fget F.TMR_SERVO_STATE) (u.rd_wr_ne _ (by decide)) : (u.wr R.TMR_OFFSET _).servo = u.servo).trans hservo⟩

theorem satWord_small {n : Nat} (h : n ≤ 400000000) : satWord n = w32 n := by
  have : max (-(2 ^ 31)) (min (2 ^ 31 - 1) (n : Int)) = n := by omega
  rw [satWord, this]
  exact BitVec.ofInt_natCast ..

theorem Does.ppsInEdge (hs : s.src = 2) (he : s.flag R.TMR_PPS F.TMR_PPS_IN_EN = true) (hl : s.servo = 2)
    (h : (s.cityNs - 12) % 1000000000 ≤ 400000000) : Does .ppsInEdge s (fun t =>
      t.rd R.TMR_OFFSET = w32 ((s.cityNs - 12) % 1000000000) ∧ t.time.ppsAt = some s.now ∧ t.servo = 2) := by
  have hahead : (if 2 * ((s.cityNs - 12) % secNs) < secNs then (((s.cityNs - 12) % secNs : Nat) : Int)
      else (((s.cityNs - 12) % secNs : Nat) : Int) - secNs) = (((s.cityNs - 12) % 1000000000 : Nat) : Int) := if_pos (by unfold secNs; omega)
  have hnear : ¬ 400000000 < ((((s.cityNs - 12) % 1000000000 : Nat) : Int)).natAbs := by omega
  simp only [Does, exec_ppsInEdge_arm, execPpsInEdge, hs, he, ne_eq, not_true_eq_false, decide_false, Bool.not_true, Bool.or_self,
    Bool.false_eq_true, if_false, hahead, hnear]
  obtain ⟨ho, hp, hv⟩ := State.servoOffset_locked (s := { s with time := { s.time with ppsAt := some s.now } })
    (((s.cityNs - 12) % 1000000000 : Nat) : Int) hl
  exact ⟨_, rfl, ho.trans (satWord_small h), hp, hv⟩

/-- A locked servo enters HOLDOVER, which raises the event. -/
theorem State.enterHoldover_locked (h : s.servo = 2) (hs : s.src = 2) : s.enterHoldover.servo = 3 ∧ s.enterHoldover.time.ppsAt = s.time.ppsAt ∧
    s.enterHoldover.time.holdSince = s.now ∧ s.enterHoldover.raised 25 1 2 0 := by
  rw [State.enterHoldover, if_neg (not_not.mpr h), hs]
  dsimp only
  refine ⟨?_, ?_, ?_, State.evtF_raised _ _ _ _ _ (by decide)⟩
  · rw [State.servo, State.fld, State.evtF_rd]
    exact s.fld_setServo (by decide)
  · rw [State.evtF_time, State.setServo, State.setFld_time]
  · rw [State.evtF_time, State.setServo, State.setFld_now]

/-- Without its second edge a locked servo is held over. -/
theorem State.ppsLost_held (hl : s.servo = 2) (hs : s.src = 2) :
    let t := ({ s with time := { s.time with ppsAt := none } } : State).enterHoldover
    t.servo = 3 ∧ t.time.ppsAt = none ∧ t.time.holdSince = s.now ∧ t.raised 25 1 2 0 :=
  State.enterHoldover_locked (s := { s with time := { s.time with ppsAt := none } }) hl hs

theorem State.src_advanceTo (s : State) (n : Nat) : (s.advanceTo n).src = s.src := rfl
theorem State.servo_advanceTo (s : State) (n : Nat) : (s.advanceTo n).servo = s.servo := rfl

theorem Does.ppsSourceTimeout {n : Nat} (hp : s.time.ppsAt = some n) (hs : s.src = 2) (hl : s.servo = 2) : Does .ppsSourceTimeout s (fun t =>
    t.servo = 3 ∧ t.time.ppsAt = none ∧ t.time.holdSince = max s.now (n + sec 2) ∧ t.raised 25 1 2 0) := by
  obtain ⟨hservo, hpps, hhold, hraised⟩ := State.ppsLost_held (s := s.advanceTo (n + sec 2)) ((s.servo_advanceTo _).trans hl)
    ((s.src_advanceTo _).trans hs)
  have e : exec .ppsSourceTimeout s =
      .next (({ s.advanceTo (n + sec 2) with time := { (s.advanceTo (n + sec 2)).time with ppsAt := none } } : State).enterHoldover) := by
    rw [exec_ppsSourceTimeout_arm, execPpsSourceTimeout, hp]
    exact congrArg _ (if_neg (not_not.mpr hs))
  exact ⟨_, e, hservo, hpps, hhold.trans (s.advanceTo_now _), hraised⟩

theorem State.toNs_regs (n : Nat) : (s.toNs n).regs = s.regs := rfl

theorem Does.ppsOutPulse (he : s.flag R.TMR_PPS F.TMR_PPS_OUT_EN = true) (hv : s.time.valid = true) : Does .ppsOutPulse s (fun t =>
    t.time.ppsHigh = some (t.now + ms (max 1 (min 999 (s.fld R.TMR_PPS F.TMR_PPS_WIDTH)))) ∧ t.regs = s.regs) := by
  simp only [Does, exec_ppsOutPulse_arm, execPpsOutPulse, he, hv, Bool.not_true, Bool.or_self, Bool.false_eq_true, if_false]
  have hr := s.toNs_regs ((s.cityNs + secNs - 1) / secNs * secNs)
  generalize s.toNs ((s.cityNs + secNs - 1) / secNs * secNs) = u at hr
  have hw : u.fld R.TMR_PPS F.TMR_PPS_WIDTH = s.fld R.TMR_PPS F.TMR_PPS_WIDTH := congrArg (fget _) (State.rd_of_regs hr _)
  exact ⟨_, rfl, by rw [← hw], hr⟩

theorem Does.ppsOutEnd {n : Nat} (h : s.time.ppsHigh = some n) : Does .ppsOutEnd s (fun t =>
    t.time.ppsHigh = none ∧ t.now = max s.now n ∧ t.regs = s.regs) := by
  simp only [Does, exec_ppsOutEnd_arm, execPpsOutEnd, h]
  exact ⟨_, rfl, rfl, s.advanceTo_now n, rfl⟩

theorem Does.rtcUpdate (h : s.time.valid = true) : Does .rtcUpdate s (fun t =>
    t.rd R.PWR_RTC_S = w32 s.citySec ∧ t.vault.rtcAt = s.now ∧ t.regsBut s [R.PWR_RTC_S]) := by
  simp only [Does, exec_rtcUpdate_arm, execRtcUpdate, h, if_true]
  exact ⟨_, rfl, s.rd_wr _ _, rfl, s.wr_regsBut _ (by simp)⟩

theorem rtcUpdate_invalid (h : s.time.valid = false) : exec .rtcUpdate s = .next s := by
  simp only [exec_rtcUpdate_arm, execRtcUpdate, h, Bool.false_eq_true, if_false]

theorem Does.timeRead (p : Part) : Does (.timeRead p) s (fun t =>
    t.reads p = w32 (s.cityNsec + (if s.time.valid then 2 ^ 31 else 0)) ∧ t.time = { s.time with latchS := some (w32 s.citySec) } ∧
      t.regs = s.regs) :=
  ⟨_, exec_timeRead_arm p, State.answer_readData _ _ _, rfl, rfl⟩

end

/-- Settles O18: by the commands of city time, of the tracked domains, and of the pins and registers of time. -/
theorem cityTimeRuns : Obligations.CityTimeRuns := by
  unfold Obligations.CityTimeRuns
  refine ⟨fun s => ?_, fun s d => ?_, fun s p => ?_⟩
  · exact ⟨Does.timeSet, Does.timeSet_running, timeAdjust_step, timeAdjust_slew, fun p hp =>
      ⟨⟨_, exec_timeSet_arm s p, timer_refused _ hp⟩, ⟨_, exec_timeAdjust_arm s p, timer_refused _ hp⟩⟩⟩
  · exact ⟨Does.delayReqSend, fun m => Does.domainTimeout, fun n hg hs ha hr hc hgood => Does.domainRevert rfl hg hs ha hr hc hgood⟩
  · exact ⟨ppsInEdge_rejected, Does.ppsInEdge, fun n => Does.ppsSourceTimeout, Does.ppsOutPulse, fun n => Does.ppsOutEnd, Does.rtcUpdate,
      rtcUpdate_invalid, Does.timeRead p⟩

end Sys2Proof.Machine
end
section
/-! ## A 64-bit read of `RING_BASE` (R308, R319) -/
set_option Elab.async false
namespace Sys2Proof.Machine

/-- The reset state with a bit below the 64-byte alignment in the stored `RING_BASE_LO` of ring 0 of partition 0, which no read of the
register returns. -/
def ringBaseMisaligned : State := State.reset.wr (R.RING_BASE_LO 0 0) 1

theorem ringBaseMisaligned_mapped : ringBaseMisaligned.mapped 0 = true := by decide +kernel

theorem ringBaseMisaligned_rd : ringBaseMisaligned.rd (R.RING_BASE_LO 0 0) = 1 := State.rd_wr ..

/-- The 64-bit read of `RING_BASE`: the lower word, then the upper one. -/
def State.ringBaseWideRead (s : State) : State := ((s.busRead 0 0x2100).readSplit 0).busRead 0 0x2104

theorem exec_readClear_ringBase (s : State) : exec (.readClear 0 (BitVec.ofNat 16 0x2100) true) s = .next s.ringBaseWideRead := rfl

/-- The lower word arrives as the register reads: its reserved bits are 0. -/
theorem ringBaseMisaligned_readLow : aget 0 0 ringBaseMisaligned.ringBaseWideRead.host.readLow = 0 := by decide +kernel

/-- Refutes O12: a 64-bit read of `RING_BASE` returns the lower word with its six reserved bits 0 (the row's mask), not the word stored. In
a state that stores 1 there, the lower word read is 0. No write stores such a word; the clause has no such premise. -/
theorem not_locksBanksAndRegisters : ¬ Obligations.LocksBanksAndRegisters := by
  unfold Obligations.LocksBanksAndRegisters
  rintro ⟨-, -, h⟩
  obtain ⟨-, -, -, -, -, -, -, -, -, wide⟩ := h ringBaseMisaligned 0 0 0 0 ringBaseMisaligned_mapped
  obtain ⟨t, ht, -, hlow, -⟩ := wide 0
  have ht : ringBaseMisaligned.ringBaseWideRead = t :=
    Host.Outcome.next.inj ((exec_readClear_ringBase ringBaseMisaligned).symm.trans ht)
  have hlow : aget 0 0 t.host.readLow = 1 := hlow.trans ringBaseMisaligned_rd
  rw [← ht, ringBaseMisaligned_readLow] at hlow
  exact absurd hlow (by decide)

end Sys2Proof.Machine
end
section
/-! ## O14: a guarded register that a refused write can clear

The refusal writes a Ledger record. The record may fail, which is a Quiet cause; the end of the image sessions that follows clears their
`IMG_SESS` registers, and a session numbered 8,192, of which no command opens one, has the key of `SAFE_ESC`. -/
set_option Elab.async false
namespace Sys2Proof.Machine

/-- The block at reset with the Pass up, bank 2 shown to partition 0, 30 s in `SAFE_ESC`, the next place of the Ledger bad, and one image
session whose number gives it the key of `SAFE_ESC`. -/
def escStrayState : State :=
  let s := ((State.reset.wr R.PASS_STATUS 1).wr (R.SYS_BANK 0) 2).wr R.SAFE_ESC 30
  { s with
    cvn := { s.cvn with sess := [(8192, emptySession)] }
    log := { s.log with bad := [(s.rd R.LOG_LNEXT).toNat % 16384] } }

/-- Partition 0's write of 0 to `SAFE_ESC` through its window. -/
theorem exec_registerWrite_safeEsc (s : State) :
    exec (.registerWrite 0 0x6010 15 0 none) s = .next (s.busWrite 0 0x6010 15 0) := rfl

theorem escStrayState_before : escStrayState.rd R.SAFE_ESC = 30 := by decide +kernel

theorem escStrayState_after : (escStrayState.busWrite 0 0x6010 15 0).rd R.SAFE_ESC = 0 := by decide +kernel

/-- Refutes O14: the clause that the register keeps its value. The lock is armed and the write is refused, but the Ledger cannot store the
record of the refusal, the chip enters Quiet, and the stray session's end clears `SAFE_ESC`. In the states that runs reach the sessions are
numbered 0 to 3, and no register of theirs is a guarded one; the statement is about every state. -/
theorem not_armedLockRefusesGuardedWrites : ¬ Obligations.ArmedLockRefusesGuardedWrites := by
  unfold Obligations.ArmedLockRefusesGuardedWrites
  intro h
  obtain ⟨direct, -, -⟩ := h escStrayState 0 0x6010 0 R.SAFE_ESC (by decide +kernel) (by decide) (by decide +kernel) (by decide +kernel)
    (by decide +kernel)
  obtain ⟨-, -, t, ht, hkept, -⟩ := direct (by decide +kernel)
  have ht : escStrayState.busWrite 0 0x6010 15 0 = t :=
    Host.Outcome.next.inj ((exec_registerWrite_safeEsc escStrayState).symm.trans ht)
  rw [← ht, escStrayState_after, escStrayState_before] at hkept
  exact absurd hkept (by decide)

end Sys2Proof.Machine
end
section
/-! ## O9: the loss of the Pass while the H-die still follows the F-die's city time (R22, R26, R399) -/
set_option Elab.async false
namespace Sys2Proof.Machine

/-- The block at reset, with an F-die reset announced and the H-die's copy of city time running with the F-die's. -/
def followingState : State := { State.reset with pass := { State.reset.pass with resetReqAt := some 0, hFollow := true } }

/-- The loss of the Pass as O9 writes it for a RESET_REQ at 0: the flags and the count, with the H-die's city time left alone. -/
def State.lostByFlags (s : State) : State :=
  ((((s.advanceTo (0 + sec 5)).setFld R.PASS_STATUS F.PASS_STATUS_DOWN 1).setFld R.PASS_STATUS F.PASS_STATUS_K6_LOCAL 1).bump
    R.PASS_CNT_DOWN).hQuiet 1

/-- The loss as the model has it: the H-die's copy of city time goes on from its own clock. -/
def State.lostLocally (s : State) : State :=
  ((((s.advanceTo (0 + sec 5)).setFld R.PASS_STATUS F.PASS_STATUS_DOWN 1).passLocal).bump R.PASS_CNT_DOWN).hQuiet 1

theorem exec_resetPassTimeout_lost {s : State} (hr : s.pass.resetReqAt = some 0) (hu : s.passUp = false)
    (hd : s.flag R.PASS_STATUS F.PASS_STATUS_DOWN = false) : exec .resetPassTimeout s = .next s.lostLocally := by
  have h : exec .resetPassTimeout s = execResetPassTimeout s := rfl
  simp only [h, execResetPassTimeout, hr, hu, hd, Bool.or_self, Bool.false_eq_true, if_false, State.lostLocally]

theorem followingState_lostByFlags : followingState.lostByFlags.pass.hFollow = true := by decide +kernel

theorem followingState_lostLocally : followingState.lostLocally.pass.hFollow = false := by decide +kernel

/-- Refutes O9: the clause of the 5 s after RESET_REQ. The H-die that still follows city time as the Pass is lost takes it from its own clock
(R26); the state that the clause names still follows. In the states that runs reach the copy no longer follows once the Pass is not up; the
statement is about every state. -/
theorem not_passTimersAndLink : ¬ Obligations.PassTimersAndLink := by
  unfold Obligations.PassTimersAndLink
  intro h
  obtain ⟨-, -, -, -, -, -, -, -, -, lost⟩ := h followingState .h
  have hu : followingState.passUp = false := by decide +kernel
  have hd : followingState.flag R.PASS_STATUS F.PASS_STATUS_DOWN = false := by decide +kernel
  have he : followingState.lostLocally = followingState.lostByFlags :=
    Host.Outcome.next.inj ((exec_resetPassTimeout_lost rfl hu hd).symm.trans (lost 0 rfl hu hd))
  have hf := followingState_lostLocally
  rw [he, followingState_lostByFlags] at hf
  exact absurd hf (by decide)

end Sys2Proof.Machine
end
section
/-! ## O52: a Drover attempt that the release of its last frame turns into one without a transmit half

The release compares the two copies of the queue's pointers; where they differ the fault writes a Ledger record, whose failure is a Quiet
cause. The attempt then goes on in Quiet (R287, R372, R383, R388). -/
set_option Elab.async false
namespace Sys2Proof.Machine

/-- The block at reset with the Drover on array 0, its last frame in a queue whose second pointers are wrong, and the next place of the Ledger
bad. -/
def faultyDrover : State :=
  let s := State.reset.wr (R.SAFE_DROVER 0) 0x2000
  let u := s.setQueue (qDrover 0) { frames := [{ origin := .drover 0 }], second := some ⟨none, none, 7, 7⟩ }
  { u with
    rx := { u.rx with lp := [(0, 1)] }
    log := { u.log with bad := [(u.rd R.LOG_LNEXT).toNat % 16384] } }

/-- What `TX_OK` of an array reads after an attempt that finds the test sequence. -/
def State.txOkAfter (s : State) (a : Fin 4) : Option Bool :=
  match exec (.droverAttempt a true) s with
  | .next t => some (t.flag (R.SAFE_DROVER_STAT a) F.SAFE_DROVER_STAT_TX_OK)
  | _ => none

theorem State.txOkAfter_next {s t : State} {a : Fin 4} (h : exec (.droverAttempt a true) s = .next t) :
    s.txOkAfter a = some (t.flag (R.SAFE_DROVER_STAT a) F.SAFE_DROVER_STAT_TX_OK) := by
  rw [State.txOkAfter, h]

theorem faultyDrover_txOk : faultyDrover.txOkAfter 0 = some false := by decide +kernel

/-- Refutes O52: the clause of the attempt outside Quiet. The attempt begins outside Quiet and finds the test sequence, but the queue fault as
the last frame is released has put the chip into Quiet, where the transmit half is left out and `TX_OK` stays 0. -/
theorem not_clustersAndArraysAreTested : ¬ Obligations.ClustersAndArraysAreTested := by
  unfold Obligations.ClustersAndArraysAreTested
  intro h
  obtain ⟨-, -, -, -, -, -, -, -, -, -, -, attempt, -⟩ := h faultyDrover 0 0 true 0 0
  have hq : faultyDrover.inQuiet = false := by decide +kernel
  obtain ⟨t, ht, -, -, -, htx⟩ := attempt (by decide +kernel) (by decide +kernel) (by decide +kernel) (by decide +kernel) (by decide +kernel)
    (.inr (by decide +kernel)) (by decide +kernel) (by decide +kernel)
  have ha := faultyDrover_txOk
  rw [State.txOkAfter_next ht, htx hq] at ha
  exact absurd ha (by decide)

end Sys2Proof.Machine
end
section
/-! ## Hush, the save and the requested reset (R399, R406, R407)

What a die does as its transmissions are cut, as a save starts and as a reset is requested: the air, FE_TXEN, and the one register that changes.
The statements on Quiet, holdup, self-test, Smivi and the core pairs turn on these. -/
set_option Elab.async false
namespace Sys2Proof.Machine

section
variable (s : State)

/-! ### The cut of every transmission (R51, R377) -/

theorem State.cutAir_regs : s.cutAir.regs = s.regs := rfl

theorem State.cutAir_ended : ∀ u ∈ s.cutAir.air, u.ended = true ∨ u.cut = true := by
  intro u hu
  obtain ⟨x, -, rfl⟩ := List.mem_map.mp hu
  by_cases he : x.ended = true
  · exact .inl (by rw [if_pos he, he])
  · exact .inr (by rw [if_neg he])

/-- A transmission that is cut is over at once. -/
theorem State.cutAir_over : ∀ u ∈ s.cutAir.air, u.holds s.cityNs = false := by
  intro u hu
  obtain ⟨x, -, rfl⟩ := List.mem_map.mp hu
  by_cases he : x.ended = true
  · simp [AirTx.holds, he]
  · by_cases hs : x.started = true <;> simp [AirTx.holds, he, hs]

variable {s}

/-- With nothing on air and no FE_TXEN to hold, every FE_TXEN is low. -/
theorem State.feTxen_of_over (h : ∀ u ∈ s.air, u.holds s.cityNs = false) (ht : s.rf.txOff = []) : s.feTxen = 0 := by
  have hj (q : AirTx → Bool) : s.air.any (fun u => q u && u.holds s.cityNs) = false :=
    List.any_eq_false.mpr (fun u hu => by simp [h u hu])
  have hn (a : Nat) : s.arrTxen a = false := by
    have h1 : s.txJoined a = false := by
      rw [State.txJoined, List.any_eq_false.mpr (fun u hu => by simp [h u hu]), Bool.and_false]
    rw [State.arrTxen, h1, hj (fun u => decide (u.array = a) && u.txen), ht]
    simp [aget]
  simp [State.feTxen, State.elementsOf, hn]

end

/-- Two states that agree on the air, the radio front end and time have the same FE_TXEN off. -/
theorem State.feTxen_of_cut {s t : State} (ha : t.air = s.cutAir.air) (hr : t.rf = s.cutAir.rf) (ht : t.time = s.time) : t.feTxen = 0 := by
  refine State.feTxen_of_over ?_ (by rw [hr]; rfl)
  rw [ha, State.cityNs, ht]
  exact s.cutAir_over

section
variable (s : State)

/-! ### Hush and the save -/

theorem State.enterHush_regs : s.enterHush.regs = s.regs := rfl
theorem State.enterHush_air : s.enterHush.air = s.cutAir.air := rfl
theorem State.enterHush_rf : s.enterHush.rf = s.cutAir.rf := rfl
theorem State.enterHush_hush : s.enterHush.pwr.hush = true := rfl
theorem State.enterHush_resetCode : s.enterHush.pwr.resetCode = s.pwr.resetCode := rfl

theorem State.startSave_active : s.startSave.save.active.isSome = true := by
  unfold State.startSave
  split
  · assumption
  · rfl

theorem State.startSave_regsBut : s.startSave.regsBut s [R.PWR_CNT_SAVE] := by
  unfold State.startSave
  split
  · exact State.regsBut_refl s _
  · exact State.wr_regsBut s _ (by simp)

theorem State.startSave_only : s.startSave.onlyIn s [.regs, .save] := (State.startSave_within s (Within.refl [.regs, .save] s) rfl).only

theorem State.startSave_pwr : s.startSave.pwr = s.pwr := s.startSave_only .pwr (by decide)
theorem State.startSave_air : s.startSave.air = s.air := s.startSave_only .air (by decide)
theorem State.startSave_rf : s.startSave.rf = s.rf := s.startSave_only .rf (by decide)
theorem State.startSave_time : s.startSave.time = s.time := s.startSave_only .time (by decide)

/-- Hush with the save begun, as a holdup and a requested reset have it. -/
theorem State.hushSave_feTxen : s.enterHush.startSave.feTxen = 0 :=
  State.feTxen_of_cut (s := s) ((State.startSave_air _).trans s.enterHush_air) ((State.startSave_rf _).trans s.enterHush_rf)
    (State.startSave_time _)

theorem State.hushSave_ended : ∀ u ∈ s.enterHush.startSave.air, u.ended = true ∨ u.cut = true := by
  rw [State.startSave_air]
  exact s.cutAir_ended

theorem State.hushSave_hush : s.enterHush.startSave.pwr.hush = true := congrArg PwrSt.hush (State.startSave_pwr _)

theorem State.hushSave_regsBut : s.enterHush.startSave.regsBut s [R.PWR_CNT_SAVE] :=
  State.regsBut_trans (State.regsBut_of_regs s.enterHush_regs) (State.startSave_regsBut _)

/-! ### A requested reset -/

/-- The reset's code stands beside Hush and the save. -/
def State.hushFor (s : State) (code : Nat) : State :=
  let s1 := s.enterHush.startSave
  { s1 with pwr := { s1.pwr with resetCode := some code } }

variable {s} {code : Nat}

theorem State.requestReset_first (h : s.pwr.resetCode = none) : s.requestReset code = (s.hushFor code).sendResetReq code 0 := by
  rw [State.requestReset, h]
  rfl

theorem State.requestReset_regsBut : (s.requestReset code).regsBut s [R.PWR_CNT_SAVE] := by
  unfold State.requestReset
  split
  · exact State.regsBut_of_regs rfl
  · exact State.regsBut_trans s.hushSave_regsBut (fun k _ => State.rd_passSend ..)

theorem State.requestReset_only : (s.requestReset code).onlyIn s [.regs, .pass, .safe, .save, .pwr, .air, .rf] :=
  (State.requestReset_within s code (Within.refl [.regs, .pass, .safe, .save, .pwr, .air, .rf] s) rfl).only

variable (h : s.pwr.resetCode = none)
include h

theorem State.requestReset_code : (s.requestReset code).pwr.resetCode = some code := by
  rw [State.requestReset_first h]
  exact congrArg PwrSt.resetCode (State.passSend_pwr (s := s.hushFor code) ..)

theorem State.requestReset_hush : (s.requestReset code).pwr.hush = true := by
  rw [State.requestReset_first h]
  exact (congrArg PwrSt.hush (State.passSend_pwr (s := s.hushFor code) ..)).trans s.hushSave_hush

theorem State.requestReset_active : (s.requestReset code).save.active.isSome = true := by
  rw [State.requestReset_first h]
  exact (congrArg (fun x => x.active.isSome) (State.passSend_save (s := s.hushFor code) ..)).trans (State.startSave_active _)

theorem State.requestReset_feTxen : (s.requestReset code).feTxen = 0 := by
  rw [State.requestReset_first h]
  exact State.feTxen_of_cut (s := s)
    ((State.passSend_air (s := s.hushFor code) ..).trans ((State.startSave_air _).trans s.enterHush_air))
    ((State.passSend_rf (s := s.hushFor code) ..).trans ((State.startSave_rf _).trans s.enterHush_rf))
    ((State.passSend_time (s := s.hushFor code) ..).trans (State.startSave_time _))

theorem State.requestReset_sent : (s.requestReset code).sent .f = some (0x0F, 0, [w32 code, 0]) := by
  rw [State.requestReset_first h]
  exact State.passSend_sent ..

end

end Sys2Proof.Machine
end
section
/-! ## O58: self-test (R434 to R437)

A BIST_RUN that its turn has come for is refused by the first check that fails, or begins its region's test: at once from region 18 on, behind
the removal of a slot engine from the order of the primaries for 16 and 17, and behind the migration of a cluster's receptions below. -/
set_option Elab.async false
namespace Sys2Proof.Machine

section
variable (s : State) (c : CmdDesc)

theorem exec_bistRun_arm : exec (.bistRun c) s = execBistRun c s := rfl
theorem exec_bistDone_arm (w0 w1 w2 w3 : Word) : exec (.bistDone w0 w1 w2 w3) s = execBistDone w0 w1 w2 w3 s := rfl

/-! ### What a start leaves and sets -/

/-- A place in the order of completions is no other component. -/
theorem State.cplKeep_eq : ∃ e, s.cplKeep c = { s with ends := e } := by
  unfold State.cplKeep State.cplOpen
  split
  · exact ⟨_, rfl⟩
  · split <;> exact ⟨_, rfl⟩

theorem State.cplKeep_regs : (s.cplKeep c).regs = s.regs := by obtain ⟨e, h⟩ := s.cplKeep_eq c; rw [h]
theorem State.cplKeep_cmds : (s.cplKeep c).cmds = s.cmds := by obtain ⟨e, h⟩ := s.cplKeep_eq c; rw [h]

theorem State.bistStart_bist : (s.bistStart c).bist = { cmd := some c, since := s.now, closing := none } := by
  obtain ⟨e, h⟩ := (s.cmdTake c).cplKeep_eq c
  simp only [State.bistStart, h]
  rfl

theorem State.bistStart_cmds : (s.bistStart c).cmds = s.cmds.erase c := State.cplKeep_cmds (s.cmdTake c) c

theorem State.bistStart_running : (s.bistStart c).flag R.BIST_STATUS F.BIST_STATUS_RUNNING = true :=
  State.flag_err ((s.cmdTake c).cplKeep c) (k := R.BIST_STATUS) (f := F.BIST_STATUS_RUNNING) (by decide) (by decide)

theorem State.bistStart_regsBut : (s.bistStart c).regsBut s [R.BIST_STATUS] :=
  State.regsBut_trans (State.regsBut_of_regs (State.cplKeep_regs (s.cmdTake c) c)) (State.setFld_regsBut _ F.BIST_STATUS_RUNNING 1 (by simp))

theorem State.engState_bistStart (e : Nat) : (s.bistStart c).engState e = s.engState e :=
  State.fld_of_regsBut (s.bistStart_regsBut c) (by decide) _

theorem State.capSync_bist : s.capSync.bist = s.bist := rfl
theorem State.capSync_cmds : s.capSync.cmds = s.cmds := rfl

/-- A cluster without lanes has none to migrate. -/
theorem State.clusterLanes_idle (h : s.rx.lanes = []) (n : Nat) (l : List Nat) : s.clusterLanes n l = [] := by simp [State.clusterLanes, h]

theorem State.migrateAll_idle (h : s.rx.lanes = []) (n : Nat) : s.migrateAll n = s := by
  rw [State.migrateAll, s.clusterLanes_idle h, List.foldl_nil]

end

/-! ### BIST_RUN by its checks and its region -/

section
variable {s : State} {c : CmdDesc} (ht : s.cmdTurn c = true) (hb : s.bist.cmd = none) (hc : s.bist.closing = none)
include ht hb hc

theorem exec_bistRun_bad {k : Nat} (h : s.bistBad c = some k) : exec (.bistRun c) s = .next ((s.cmdTake c).cmdBad c k) := by
  simp [exec_bistRun_arm, execBistRun, ht, hb, hc, h]

theorem exec_bistRun_direct (h : s.bistBad c = none) (hr : 18 ≤ bistReg c) : exec (.bistRun c) s = .next (s.bistStart c) := by
  simp [exec_bistRun_arm, execBistRun, ht, hb, hc, h, Nat.not_lt.mpr hr, Nat.not_lt.mpr (Nat.le_trans (by decide : 16 ≤ 18) hr)]

theorem exec_bistRun_cluster (h : s.bistBad c = none) (hr : bistReg c < 16) (hx : s.rx.closing = none) (hl : s.rx.lanes = [])
    (ho : s.flag R.LANE_STATE F.LANE_STATE_OFFLINE_VALID = false) :
    exec (.bistRun c) s = .next ((({ s with bist := { s.bist with closing := some (bistReg c) } } : State).bistStart c).capSync) := by
  have h0 : ¬(!s.cmdTurn c || s.bist.cmd.isSome || s.bist.closing.any (· ≠ bistReg c)) = true := by simp [ht, hb, hc]
  have h1 : ¬(decide (s.rx.closing = some (bistReg c)) ||
      (s.flag R.LANE_STATE F.LANE_STATE_OFFLINE_VALID && decide (s.fld R.LANE_STATE F.LANE_STATE_OFFLINE = bistReg c))) = true := by
    simp [hx, ho]
  have hm := State.migrateAll_idle { s with bist := { s.bist with closing := some (bistReg c) } } hl (bistReg c)
  have hn := State.clusterLanes_idle { s with bist := { s.bist with closing := some (bistReg c) } } hl (bistReg c) [1, 2, 3, 4, 5]
  simp only [exec_bistRun_arm, execBistRun, if_neg h0, h, if_pos hr, if_neg h1, hm, hn, List.isEmpty_nil,
    if_true]

theorem exec_bistRun_engine (h : s.bistBad c = none) (hr : bistReg c = 16) (he : s.engState 0 ≠ 5) :
    exec (.bistRun c) s = .next ((((s.bistStart c).engSet 0 3).setEng 0 {}).matchSync) := by
  have he2 : (s.bistStart c).engState 0 ≠ 5 := by rwa [State.engState_bistStart]
  simp [exec_bistRun_arm, execBistRun, ht, hb, hc, h, hr, he2]

end

theorem exec_bistRun_waits {s : State} {c : CmdDesc} (h : s.cmdTurn c = false ∨ s.bist.cmd.isSome = true) :
    exec (.bistRun c) s = .next s := by
  rcases h with h | h <;> simp [exec_bistRun_arm, execBistRun, h]

/-! ### BIST_DONE -/

/-- The state once the signature has been stored: `BIST_STATUS` with the region and the result, and the four words. -/
def State.bistLatch (s : State) (r : Nat) (good : Bool) (w0 w1 w2 w3 : Word) : State :=
  let s3 := s.wr R.BIST_STATUS (w32 (r + (if good then 2 ^ 9 else 0) + 2 ^ 10))
  (((s3.wr (R.BIST_MISR 0) w0).wr (R.BIST_MISR 1) w1).wr (R.BIST_MISR 2) w2).wr (R.BIST_MISR 3) w3

section
variable (s : State) (r : Nat) (good : Bool) (w0 w1 w2 w3 : Word)

theorem State.bistLatch_rd0 : (s.bistLatch r good w0 w1 w2 w3).rd (R.BIST_MISR 0) = w0 := by
  simp only [State.bistLatch]
  rw [State.rd_wr_ne _ _ (by decide), State.rd_wr_ne _ _ (by decide), State.rd_wr_ne _ _ (by decide), State.rd_wr]

theorem State.bistLatch_rd1 : (s.bistLatch r good w0 w1 w2 w3).rd (R.BIST_MISR 1) = w1 := by
  simp only [State.bistLatch]
  rw [State.rd_wr_ne _ _ (by decide), State.rd_wr_ne _ _ (by decide), State.rd_wr]

theorem State.bistLatch_rd2 : (s.bistLatch r good w0 w1 w2 w3).rd (R.BIST_MISR 2) = w2 := by
  simp only [State.bistLatch]
  rw [State.rd_wr_ne _ _ (by decide), State.rd_wr]

theorem State.bistLatch_now : (s.bistLatch r good w0 w1 w2 w3).now = s.now := by simp only [State.bistLatch, State.wr_now]

theorem State.bistLatch_bist : (s.bistLatch r good w0 w1 w2 w3).bist = s.bist := by simp only [State.bistLatch, State.wr_bist]

theorem State.bistLatch_ends : (s.bistLatch r good w0 w1 w2 w3).ends = s.ends := by simp only [State.bistLatch, State.wr_ends]

theorem State.bistLatch_pwr : (s.bistLatch r good w0 w1 w2 w3).pwr = s.pwr := by simp only [State.bistLatch, State.wr_pwr]

theorem State.bistLatch_rd3 : (s.bistLatch r good w0 w1 w2 w3).rd (R.BIST_MISR 3) = w3 := State.rd_wr ..

end

/-- The state in which the region returns: its run time has passed and its signature stands. -/
def State.bistEnd (s : State) (c : CmdDesc) (good : Bool) (w0 w1 w2 w3 : Word) : State :=
  ({ s.advanceTo (s.bist.since + bistTime (bistReg c)) with bist := {} } : State).bistLatch (bistReg c) good w0 w1 w2 w3

section
variable (s : State) (c : CmdDesc) (good : Bool) (w0 w1 w2 w3 : Word)

theorem State.bistEnd_bist : (s.bistEnd c good w0 w1 w2 w3).bist = {} := State.bistLatch_bist ..

theorem State.bistEnd_now : (s.bistEnd c good w0 w1 w2 w3).now = max s.now (s.bist.since + bistTime (bistReg c)) :=
  (State.bistLatch_now ..).trans (s.advanceTo_now _)

theorem State.bistEnd_clearFor (d : CmdDesc) : (s.bistEnd c good w0 w1 w2 w3).clearFor d = s.clearFor d :=
  congrArg (fun e => e.order.all (fun x => cmdFamily x.cmd ≠ cmdFamily d || x = { cmd := d })) (State.bistLatch_ends ..)

theorem State.bistEnd_resetCode : (s.bistEnd c good w0 w1 w2 w3).pwr.resetCode = s.pwr.resetCode :=
  congrArg PwrSt.resetCode (State.bistLatch_pwr ..)

end

section
variable {s : State} {c : CmdDesc} (hc : s.bist.cmd = some c) (w0 w1 w2 w3 : Word)
include hc

/-- A pair's region that passes completes its command. -/
theorem exec_bistDone_pair (h1 : 18 ≤ bistReg c) (h2 : bistReg c < 22)
    (hg : s.bistGood (bistReg c) (bitsAt c.w1 8 2) (w3 ++ w2 ++ w1 ++ w0) = true) :
    exec (.bistDone w0 w1 w2 w3) s =
      .next ((s.bistEnd c true w0 w1 w2 w3).cmdOk c [w32 (1 + bitsAt c.w1 8 2 * 2), w0, w1, w2, w3]) := by
  have n16 : ¬bistReg c < 16 := by omega
  have n18 : ¬bistReg c < 18 := by omega
  have n22 : ¬22 ≤ bistReg c := by omega
  simp only [exec_bistDone_arm, execBistDone, hc, hg, State.bistReturn, n16, n18, n22, h2, if_true, if_false, State.bistEnd, State.bistLatch]

/-- A region of class F ends in a SOFT reset, which flushes the command. -/
theorem exec_bistDone_chip (h : 22 ≤ bistReg c) :
    exec (.bistDone w0 w1 w2 w3) s = .next ((s.bistEnd c (s.bistGood (bistReg c) (bitsAt c.w1 8 2) (w3 ++ w2 ++ w1 ++ w0)) w0 w1 w2 w3).requestReset 5) := by
  have n16 : ¬bistReg c < 16 := by omega
  have n18 : ¬bistReg c < 18 := by omega
  have n22 : ¬bistReg c < 22 := by omega
  simp only [exec_bistDone_arm, execBistDone, hc, State.bistReturn, n16, n18, n22, h, if_true, if_false, State.bistEnd, State.bistLatch]

end

/-! ### The obligation -/

section
variable {s : State} {c : CmdDesc} (ht : s.cmdTurn c = true) (hb : s.bist.cmd = none) (hc : s.bist.closing = none) (h : s.bistBad c = none)
include ht hb hc h

theorem Does.bistRun_direct (hr : 18 ≤ bistReg c) : Does (.bistRun c) s (fun t =>
    t.bist = { cmd := some c, since := s.now, closing := none } ∧ t.cmds = s.cmds.erase c ∧
    t.flag R.BIST_STATUS F.BIST_STATUS_RUNNING = true ∧ t.regsBut s [R.BIST_STATUS]) :=
  Does.of_next (exec_bistRun_direct ht hb hc h hr) ⟨s.bistStart_bist c, s.bistStart_cmds c, s.bistStart_running c, s.bistStart_regsBut c⟩

theorem Does.bistRun_cluster (hr : bistReg c < 16) (hx : s.rx.closing = none) (hl : s.rx.lanes = [])
    (ho : s.flag R.LANE_STATE F.LANE_STATE_OFFLINE_VALID = false) :
    Does (.bistRun c) s (fun t => t.bistRegion = some (bistReg c) ∧ t.cmds = s.cmds.erase c) := by
  refine Does.of_next (exec_bistRun_cluster ht hb hc h hr hx hl ho) ⟨?_, ?_⟩
  · rw [State.bistRegion, State.capSync_bist, State.bistStart_bist]
    rfl
  · rw [State.capSync_cmds, State.bistStart_cmds]

theorem Does.bistRun_engine (hr : bistReg c = 16) (he : s.engState 0 ≠ 5) :
    Does (.bistRun c) s (fun t => t.engState 0 = 3 ∧ t.bist.cmd = some c) := by
  refine Does.of_next (exec_bistRun_engine ht hb hc h hr he) ⟨?_, congrArg BistSt.cmd (s.bistStart_bist c)⟩
  rw [State.engState_matchSync]
  exact (s.bistStart c).engState_engSet 0 (by decide)

end

section
variable {s : State} {c : CmdDesc} (hc : s.bist.cmd = some c) (w0 w1 w2 w3 : Word)
include hc

theorem Does.bistDone_pair (hl : s.clearFor c = true) (h1 : 18 ≤ bistReg c) (h2 : bistReg c < 22)
    (hg : s.bistGood (bistReg c) (bitsAt c.w1 8 2) (w3 ++ w2 ++ w1 ++ w0) = true) : Does (.bistDone w0 w1 w2 w3) s (fun t =>
      t.bist = {} ∧ t.rd (R.BIST_MISR 0) = w0 ∧ t.rd (R.BIST_MISR 1) = w1 ∧ t.rd (R.BIST_MISR 2) = w2 ∧ t.rd (R.BIST_MISR 3) = w3 ∧
      t.now = max s.now (s.bist.since + ms 5) ∧ t.completed c stOK [w32 (1 + bitsAt c.w1 8 2 * 2), w0, w1, w2, w3] 0) := by
  have hn : bistTime (bistReg c) = ms 5 := by rw [bistTime, if_neg (by omega), if_neg (by omega), if_pos h2]
  refine Does.of_next (exec_bistDone_pair hc w0 w1 w2 w3 h1 h2 hg) ⟨?_, ?_, ?_, ?_, ?_, ?_, State.cmdOk_completed _ c _ ?_⟩
  · exact (State.cmdDone_bist ..).trans (State.bistEnd_bist ..)
  · exact (State.cmdOk_rd ..).trans (State.bistLatch_rd0 ..)
  · exact (State.cmdOk_rd ..).trans (State.bistLatch_rd1 ..)
  · exact (State.cmdOk_rd ..).trans (State.bistLatch_rd2 ..)
  · exact (State.cmdOk_rd ..).trans (State.bistLatch_rd3 ..)
  · rw [← hn]
    exact (State.cmdDone_now ..).trans (State.bistEnd_now ..)
  · rw [State.bistEnd_clearFor, hl]

theorem Does.bistDone_chip (h : 22 ≤ bistReg c) (hr : s.pwr.resetCode = none) : Does (.bistDone w0 w1 w2 w3) s (fun t =>
    t.bist = {} ∧ t.pwr.resetCode = some 5 ∧ t.rd (R.BIST_MISR 0) = w0 ∧ t.sent .f = some (0x0F, 0, [5, 0])) := by
  have hr2 := (State.bistEnd_resetCode s c (s.bistGood (bistReg c) (bitsAt c.w1 8 2) (w3 ++ w2 ++ w1 ++ w0)) w0 w1 w2 w3).trans hr
  refine Does.of_next (exec_bistDone_chip hc w0 w1 w2 w3 h) ⟨?_, State.requestReset_code hr2, ?_, State.requestReset_sent hr2⟩
  · exact (State.requestReset_only .bist (by decide)).trans (State.bistEnd_bist ..)
  · exact (State.requestReset_regsBut _ (by decide)).trans (State.bistLatch_rd0 ..)

end

/-- Settles O58: a start by the first check that fails or by the region, an end by the region's class. -/
theorem selfTestRuns : Obligations.SelfTestRuns := by
  unfold Obligations.SelfTestRuns
  rintro s c w0 w1 w2 w3
  refine ⟨?_, ?_, exec_bistRun_waits, ?_, ?_, ?_, ?_, fun hc => Does.bistDone_pair hc w0 w1 w2 w3, fun hc => Does.bistDone_chip hc w0 w1 w2 w3⟩
  · rintro k ⟨ht, hb, hc⟩ h
    exact exec_bistRun_bad ht hb hc h
  · intro k hl hb hc h
    exact Does.of_next (exec_bistRun_bad (s.leads_turn c hl) hb hc h) (State.cmdBad_completed _ c k (s.leads_clear c hl))
  · rintro ⟨ht, hb, hc⟩ h hr
    exact Does.bistRun_direct ht hb hc h hr
  · rintro ⟨ht, hb, hc⟩ h hr hx hl ho
    exact Does.bistRun_cluster ht hb hc h hr hx hl ho
  · rintro ⟨ht, hb, hc⟩ h hr he
    exact Does.bistRun_engine ht hb hc h hr he
  · intro hc
    rw [exec_bistDone_arm, execBistDone, hc]

end Sys2Proof.Machine
end
section
/-! ## O57: the Smivi port (R427 to R433)

Every command goes through the same gate (`State.smivi`), which a held die, a waiting response and a running operation close and the boot answers
BUSY; behind it each command has its own answer. A transaction that brings a well-formed frame is its command. -/
set_option Elab.async false
namespace Sys2Proof.Machine

/-! ### Numbers in octets, most significant first (R428) -/

theorem leNat_leBytes (n x : Nat) : leNat (leBytes n x) = x % 256 ^ n := by
  induction n generalizing x with
  | zero => simp [leBytes, leNat, Nat.mod_one]
  | succ n ih =>
    rw [Nat.pow_succ', Nat.mod_mul, leBytes, leNat, ih, BitVec.toNat_ofNat]

theorem beNat_reverse (l : List Byte) : beNat l.reverse = leNat l := by
  induction l with
  | nil => rfl
  | cons b bs ih =>
    have h : beNat (bs.reverse ++ [b]) = beNat bs.reverse * 256 + b.toNat := by simp [beNat]
    rw [List.reverse_cons, h, ih, leNat]
    omega

theorem beNat_be (n : Nat) {x : Nat} (h : x < 256 ^ n) : beNat (be n x) = x := by
  rw [be, beBytes, beNat_reverse, leNat_leBytes, Nat.mod_eq_of_lt h]

@[simp] theorem be_length (n x : Nat) : (be n x).length = n := beBytes_length n x

/-- A number stands between the octets before it and those behind it. -/
theorem beAt_be (l : List Byte) (n x : Nat) (r : List Byte) (h : x < 256 ^ n) : beAt (l ++ (be n x ++ r)) l.length n = x := by
  rw [beAt, List.drop_left, List.take_left' (be_length n x), beNat_be n h]

/-- The same behind `m` octets. -/
theorem beAt_be' {l : List Byte} {m : Nat} (hm : l.length = m) (n x : Nat) (r : List Byte) (h : x < 256 ^ n) :
    beAt (l ++ (be n x ++ r)) m n = x := hm ▸ beAt_be l n x r h

/-! ### The frame of a command -/

/-- The octets of a command frame before its `CHECK`. -/
def smiviBody (op q : Byte) (pl : List Byte) : List Byte := [op, q] ++ be 2 pl.length ++ pl

section
variable (op q : Byte) (pl : List Byte)

theorem smiviCommand_eq : smiviCommand op q pl = 0xA5 :: (smiviBody op q pl ++ be 4 (crc32c (smiviBody op q pl)).toNat) := rfl

theorem smiviBody_length : (smiviBody op q pl).length = 4 + pl.length := by
  simp [smiviBody]
  omega

theorem smiviBody_drop : (smiviBody op q pl).drop 4 = pl := by
  rw [smiviBody, List.drop_left' (by simp)]

variable {pl} (h : pl.length ≤ 1030) (r : List Byte)
include h

theorem beAt_smiviBody : beAt (smiviBody op q pl ++ r) 2 2 = pl.length := by
  have e : smiviBody op q pl ++ r = [op, q] ++ (be 2 pl.length ++ (pl ++ r)) := by simp [smiviBody]
  rw [e]
  exact beAt_be [op, q] 2 pl.length (pl ++ r) (by omega)

/-- A frame with a good `CHECK` runs its command. -/
theorem State.smFrame_command (s : State) :
    s.smFrame (smiviBody op q pl ++ be 4 (crc32c (smiviBody op q pl)).toNat) = s.smRun op.toNat q pl := by
  have hb := smiviBody_length op q pl
  have hl := beAt_smiviBody op q h (be 4 (crc32c (smiviBody op q pl)).toNat)
  have ht : (smiviBody op q pl ++ be 4 (crc32c (smiviBody op q pl)).toNat).take (4 + pl.length) = smiviBody op q pl := List.take_left' hb
  have hc : beAt (smiviBody op q pl ++ be 4 (crc32c (smiviBody op q pl)).toNat) (4 + pl.length) 4 = (crc32c (smiviBody op q pl)).toNat := by
    have e := beAt_be' hb 4 (crc32c (smiviBody op q pl)).toNat [] (crc32c (smiviBody op q pl)).isLt
    rwa [List.append_nil] at e
  have hd0 : (smiviBody op q pl ++ be 4 (crc32c (smiviBody op q pl)).toNat).getD 0 0 = op := rfl
  have hd1 : (smiviBody op q pl ++ be 4 (crc32c (smiviBody op q pl)).toNat).getD 1 0 = q := rfl
  have hn : (smiviBody op q pl ++ be 4 (crc32c (smiviBody op q pl)).toNat).length = 8 + pl.length := by
    rw [List.length_append, hb, be_length]; omega
  simp only [State.smFrame, hl, ht, hc, hn, hd0, hd1, smiviBody_drop, Nat.lt_irrefl, Nat.not_lt.mpr h, ne_eq, not_true_eq_false, decide_false,
    Bool.or_self, Bool.false_eq_true, if_false]

theorem exec_smiviCommand (s : State) : exec (.smiviInvalidCommand (smiviCommand op q pl)) s = .next (s.smRun op.toNat q pl) := by
  rw [smiviCommand_eq, ← State.smFrame_command op q h s]
  rfl

end

/-! ### The gate of the port -/

section
variable (s : State) (status : Nat) (q : Byte) (payload : List Byte)

theorem State.smReply_op : (s.smReply status q payload).boot.op = s.boot.op := rfl
theorem State.smReply_flash : (s.smReply status q payload).boot.flash = s.boot.flash := rfl
theorem State.smReply_rd (k : Nat) : (s.smReply status q payload).rd k = s.rd k := rfl
theorem State.smReply_resp : (s.smReply status q payload).boot.resp = some (smiviFrame status q payload) := rfl

end

section
variable {s : State} {q : Byte} {run : State → State}

/-- What lets a command through: a die that runs, no response waiting, no operation under way, and no boot. -/
abbrev State.smReady (s : State) : Prop := s.pwr.fHeld = false ∧ s.boot.resp = none ∧ s.boot.op = none ∧ s.smBusy = false

theorem State.smivi_ready (h : s.smReady) : s.smivi q run = run s := by
  obtain ⟨hf, hr, ho, hb⟩ := h
  simp [State.smivi, hf, hr, ho, hb]

theorem State.smivi_waiting (h : s.boot.resp.isSome = true) : s.smivi q run = s := by simp [State.smivi, h]

theorem State.smivi_held (h : s.pwr.fHeld = true) : s.smivi q run = s := by simp [State.smivi, h]

theorem State.smivi_busy (hf : s.pwr.fHeld = false) (hr : s.boot.resp = none) (ho : s.boot.op = none) (hb : s.smBusy = true) :
    s.smivi q run = s.smReply 8 q [] := by simp [State.smivi, hf, hr, ho, hb]

end

/-! ### The arms of `exec` -/

section
variable (s : State) (q slot : Byte) (off n : Word) (len first count : BitVec 16) (data octets : List Byte)

theorem exec_ident_arm : exec (.ident q) s = .next (s.smIdent q) := rfl
theorem exec_slots_arm : exec (.slots q) s = .next (s.smSlots q) := rfl
theorem exec_flashErase_arm : exec (.flashErase q slot first count) s = .next (s.smErase q slot first count) := rfl
theorem exec_flashWrite_arm : exec (.flashWrite q slot off data) s = .next (s.smWrite q slot off data) := rfl
theorem exec_flashRead_arm : exec (.flashRead q slot off len) s = .next (s.smRead q slot off len) := rfl
theorem exec_slotCrc_arm : exec (.slotCrc q slot off n) s = .next (s.smSlotCrc q slot off n) := rfl
theorem exec_ramLoad_arm : exec (.ramLoad q off data) s = .next (s.smRamLoad q off data) := rfl
theorem exec_ramRun_arm : exec (.ramRun q) s = .next (s.smRamRun q) := rfl
theorem exec_smiviReset_arm : exec (.smiviReset q) s = .next (s.smReset q) := rfl
theorem exec_smiviResponseRead_arm : exec .smiviResponseRead s = .next s.smRespond := rfl
theorem exec_flashOpDone_arm (ok : Bool) : exec (.flashOpDone ok) s = execFlashOpDone ok s := rfl
theorem exec_smiviFrame : exec (.smiviInvalidCommand (0xA5 :: octets)) s = .next (s.smFrame octets) := rfl
theorem exec_smiviRead : exec (.smiviInvalidCommand (0x5A :: octets)) s = exec .smiviResponseRead s := rfl

theorem exec_smiviOther {op : Byte} (h1 : op ≠ 0xA5) (h2 : op ≠ 0x5A) : exec (.smiviInvalidCommand (op :: octets)) s = .next s := by
  have e : exec (.smiviInvalidCommand (op :: octets)) s =
    .next (if op = 0xA5 then s.smFrame octets else if op = 0x5A then s.smRespond else s) := rfl
  rw [e, if_neg h1, if_neg h2]

end

/-! ### The answers of a port that is ready -/

/-- An erase or a program of a good range begins, or is denied. -/
theorem State.smFlash_eq (s : State) (q slot : Byte) (data : List Byte) (a m opcode : Nat) {good : Bool} (hg : good = true) : s.smFlash q slot a m opcode data good =
    if s.smMayWrite slot then { s with boot := { s.boot with op := some ⟨opcode, q, slotBase slot.toNat + a, data, m⟩ } }
    else s.smReply 5 q [] := by
  subst hg
  by_cases hw : s.smMayWrite slot = true <;> simp [State.smFlash, hw]

section
variable {s : State} (h : s.smReady) (q slot : Byte) (off n : Word) (len first count : BitVec 16) (data octets : List Byte)
include h

theorem exec_flashErase_ready (hr : smRange slot (65536 * first.toNat) (65536 * count.toNat) = true) (hw : s.smMayWrite slot = true) :
    exec (.flashErase q slot first count) s = .next { s with boot := { s.boot with
      op := some ⟨0x10, q, slotBase slot.toNat + 65536 * first.toNat, [], 65536 * count.toNat⟩ } } := by
  rw [exec_flashErase_arm, State.smErase, State.smivi_ready h, State.smFlash_eq s q slot [] _ _ _ hr, if_pos hw]

theorem exec_flashWrite_ready (hr : smRange slot off.toNat data.length = true) (ha : off.toNat % 256 = 0) (hd : data ≠ [])
    (hl : data.length ≤ 1024) : exec (.flashWrite q slot off data) s = .next (if s.smMayWrite slot then
      { s with boot := { s.boot with op := some ⟨0x11, q, slotBase slot.toNat + off.toNat, data, data.length⟩ } } else s.smReply 5 q []) := by
  have hp : 1 ≤ data.length := List.length_pos_iff.mpr hd
  rw [exec_flashWrite_arm, State.smWrite, State.smivi_ready h, State.smFlash_eq s q slot data _ _ _ (by simp [hr, ha, hp, hl])]

theorem exec_flashRead_ready (hr : smRange slot off.toNat len.toNat = true) (h1 : 1 ≤ len.toNat) (h2 : len.toNat ≤ 1024) :
    exec (.flashRead q slot off len) s =
      .next (s.smReply 1 q (storeOctets 0xFF s.boot.flash (slotBase slot.toNat + off.toNat) len.toNat)) := by
  rw [exec_flashRead_arm, State.smRead, State.smivi_ready h, if_pos (by simp [hr, h1, h2])]

theorem exec_slotCrc_ready (hr : smRange slot off.toNat n.toNat = true) : exec (.slotCrc q slot off n) s =
    .next (s.smReply 1 q (be 4 (crc32c (storeOctets 0xFF s.boot.flash (slotBase slot.toNat + off.toNat) n.toNat)).toNat)) := by
  rw [exec_slotCrc_arm, State.smSlotCrc, State.smivi_ready h, if_pos hr]

theorem exec_slotCrc_outside (hr : smRange slot off.toNat n.toNat = false) : exec (.slotCrc q slot off n) s = .next (s.smReply 4 q []) := by
  rw [exec_slotCrc_arm, State.smSlotCrc, State.smivi_ready h, if_neg (by simp [hr])]

theorem exec_ramLoad_ready (hr : off.toNat + data.length ≤ 16777216) (hd : data ≠ []) (hl : data.length ≤ 1024) :
    exec (.ramLoad q off data) s = .next (
      if s.boot.mode = 0 then ({ s with boot := { s.boot with staging := octetsPut 0 off.toNat data s.boot.staging } } : State).smReply 1 q []
      else s.smReply 5 q []) := by
  rw [exec_ramLoad_arm, State.smRamLoad, State.smivi_ready h, if_neg (by simp [Nat.not_lt.mpr hr, Nat.not_lt.mpr hl, hd])]
  by_cases hm : s.boot.mode = 0 <;> simp [hm]

theorem exec_ramRun_denied (hm : s.boot.mode ≠ 0) : exec (.ramRun q) s = .next (s.smReply 5 q []) := by
  rw [exec_ramRun_arm, State.smRamRun, State.smivi_ready h, if_pos hm]

theorem exec_ramRun_invalid (hm : s.boot.mode = 0) (hi : s.imageFail 3 ≠ 0) :
    exec (.ramRun q) s = .next (s.smReply 7 q [BitVec.ofNat 8 (s.imageFail 3)]) := by
  rw [exec_ramRun_arm, State.smRamRun, State.smivi_ready h, if_neg (not_not.mpr hm)]
  exact congrArg _ (if_pos hi)

end

/-! ### The image that RAM_RUN starts (R433) -/

section
variable (s : State) (q : Byte)

/-- The staged image runs, and the pins follow Quiet. -/
def State.ramStart (s : State) : State :=
  let m := s.manifest 3
  let s1 := (s.setFld R.SYS_RESET_CAUSE F.SYS_RESET_CAUSE_KIND 9).imageStart 3 (manSvn m) (manVersion m) false
  let s2 := s1.setFld R.SAFE_STATE F.SAFE_STATE_DRIVE_F (if s1.inQuiet then 1 else 0)
  { s2 with safe := { s2.safe with dacMuted := s2.inQuiet } }

theorem State.imageStart_regsBut (mode svn version : Nat) (fallback : Bool) :
    (s.imageStart mode svn version fallback).regsBut s [R.BOOT_STATUS, R.BOOT_VERSION] := by
  unfold State.imageStart
  refine State.regsBut_trans ?_ (State.wr_regsBut _ _ (by simp))
  exact State.regsBut_trans (State.regsBut_trans (State.setFld_regsBut s F.BOOT_STATUS_SLOT _ (by simp))
    (State.setFld_regsBut _ F.BOOT_STATUS_FALLBACK _ (by simp))) (State.setFld_regsBut _ F.BOOT_STATUS_RUN_SVN _ (by simp))

theorem State.imageStart_boot (mode svn version : Nat) (fallback : Bool) : (s.imageStart mode svn version fallback).boot =
    { s.boot with mode := mode, booting := false, selfTestDone := false } := rfl

theorem State.setDriveF_inQuiet (x : Nat) : (s.setFld R.SAFE_STATE F.SAFE_STATE_DRIVE_F x).inQuiet = s.inQuiet :=
  congrArg (· != 0) (s.fld_setFld_other _ _ _ x (by decide) (by decide))

theorem State.ramStart_muted : s.ramStart.safe.dacMuted = s.inQuiet := by
  have h : ((s.setFld R.SYS_RESET_CAUSE F.SYS_RESET_CAUSE_KIND 9).imageStart 3 (manSvn (s.manifest 3)) (manVersion (s.manifest 3)) false).inQuiet =
      s.inQuiet :=
    (State.flag_of_regsBut (State.imageStart_regsBut _ _ _ _ _) (by decide) _).trans
      (State.flag_of_regsBut (State.setFld_regsBut s _ 9 (List.mem_singleton_self R.SYS_RESET_CAUSE)) (by decide) _)
  exact (State.setDriveF_inQuiet ..).trans h

theorem State.ramStart_boot : s.ramStart.boot = { s.boot with mode := 3, booting := false, selfTestDone := false } :=
  State.imageStart_boot ..

variable {s}

theorem exec_ramRun_starts (h : s.smReady) (hm : s.boot.mode = 0) (hi : s.imageFail 3 = 0) :
    exec (.ramRun q) s = .next (s.ramStart.smReply 1 q []) := by
  rw [exec_ramRun_arm, State.smRamRun, State.smivi_ready h, if_neg (not_not.mpr hm)]
  exact congrArg _ (if_neg (not_not.mpr hi))

theorem Does.ramRun_starts (h : s.smReady) (hm : s.boot.mode = 0) (hi : s.imageFail 3 = 0) : Does (.ramRun q) s (fun t =>
    t.boot.mode = 3 ∧ t.boot.booting = false ∧ t.boot.resp = some (smiviFrame 1 q []) ∧ t.safe.dacMuted = s.inQuiet) :=
  Does.of_next (exec_ramRun_starts q h hm hi)
    ⟨congrArg BootSt.mode s.ramStart_boot, congrArg BootSt.booting s.ramStart_boot, rfl, s.ramStart_muted⟩

end

/-! ### FLASH_OP_DONE (R422, R430) -/

section
variable {s : State} {o : FlashOp} (ho : s.boot.op = some o)

theorem State.flashFree_op (s : State) (n : Nat) (a : Nat) : (s.flashFree a n).boot.op = s.boot.op := by
  induction n generalizing s a with
  | zero => rfl
  | succ n ih => exact ih _ (a + 1)

/-- The operation has ended, and the slot has changed since the boot. -/
def State.flashEnd (s : State) (o : FlashOp) : State :=
  ({ s with boot := { s.boot with op := none } } : State).setFld (slotReg (o.addr / slotSize + 1)) F.BOOT_SLOTA_CHANGED 1

/-- Other octets in the flash. -/
def State.withFlash (s : State) (m : List (Nat × Byte)) : State := { s with boot := { s.boot with flash := m } }

theorem State.withFlash_rd (s : State) (m : List (Nat × Byte)) (k : Nat) : (s.withFlash m).rd k = s.rd k := rfl
theorem State.withFlash_op (s : State) (m : List (Nat × Byte)) : (s.withFlash m).boot.op = s.boot.op := rfl
theorem State.withFlash_flash (s : State) (m : List (Nat × Byte)) : (s.withFlash m).boot.flash = m := rfl

theorem State.flashEnd_op (s : State) (o : FlashOp) : (s.flashEnd o).boot.op = none := by rw [State.flashEnd, State.setFld_boot]

theorem State.flashEnd_regsBut (s : State) (o : FlashOp) : (s.flashEnd o).regsBut s [slotReg (o.addr / slotSize + 1)] :=
  State.regsBut_trans (State.regsBut_of_regs rfl)
    (State.setFld_regsBut { s with boot := { s.boot with op := none } } F.BOOT_SLOTA_CHANGED 1 (List.mem_singleton_self _))

include ho

theorem exec_flashOpDone_bad : exec (.flashOpDone false) s = .next (((s.flashEnd o).flashFree o.addr o.count).smReply 6 o.seq []) := by
  rw [exec_flashOpDone_arm, execFlashOpDone, ho]
  rfl

theorem exec_flashOpDone_write (h : o.opcode = 0x11)
    (hc : (storeOctets 0xFF s.boot.flash o.addr o.count).all (fun b => b = 0xFF) = true) : exec (.flashOpDone true) s =
      .next (((s.flashEnd o).withFlash (octetsPut 0xFF o.addr o.data s.boot.flash)).smReply 1 o.seq []) := by
  simp only [exec_flashOpDone_arm, execFlashOpDone, ho, hc, h, Bool.or_true, Bool.and_self, Bool.not_true, Bool.false_eq_true, if_false,
    show ¬(0x11 : Nat) = 0x10 by decide]
  rfl

theorem exec_flashOpDone_erase (h : o.opcode = 0x10) : exec (.flashOpDone true) s =
    .next ((if o.addr % slotSize = 0 && o.count ≠ 0 then
      ((s.flashEnd o).withFlash (flashErased o.addr o.count s.boot.flash)).setTries (o.addr / slotSize + 1) 0
      else (s.flashEnd o).withFlash (flashErased o.addr o.count s.boot.flash)).smReply 1 o.seq []) := by
  simp only [exec_flashOpDone_arm, execFlashOpDone, ho, h, decide_true, Bool.true_or, Bool.and_self, Bool.not_true, Bool.false_eq_true, if_false,
    if_true]
  rfl

end

/-! ### The layouts of the payloads (R430) -/

section
variable (s : State) (q slot op : Byte) (off n : Word) (len first count : BitVec 16) (data : List Byte)

theorem BitVec.lt_256_pow_two (x : BitVec 16) : x.toNat < 256 ^ 2 := x.isLt
theorem BitVec.lt_256_pow_four (x : Word) : x.toNat < 256 ^ 4 := x.isLt

/-- A half-word and a word at a place of the payload, with what lies before and behind it. -/
theorem ofNat_beAt_half {l pl r : List Byte} {m : Nat} (hm : l.length = m) (x : BitVec 16) (hp : pl = l ++ be 2 x.toNat ++ r) :
    BitVec.ofNat 16 (beAt pl m 2) = x := by
  rw [hp, List.append_assoc, beAt_be' hm 2 x.toNat r (BitVec.lt_256_pow_two x), BitVec.ofNat_toNat, BitVec.setWidth_eq]

theorem w32_beAt_word {l pl r : List Byte} {m : Nat} (hm : l.length = m) (x : Word) (hp : pl = l ++ be 4 x.toNat ++ r) :
    w32 (beAt pl m 4) = x := by
  rw [hp, List.append_assoc, beAt_be' hm 4 x.toNat r (BitVec.lt_256_pow_four x), w32, BitVec.ofNat_toNat, BitVec.setWidth_eq]

theorem State.smRun_erase : s.smRun 0x10 q ([slot] ++ be 2 first.toNat ++ be 2 count.toNat) = s.smErase q slot first count := by
  have h1 := ofNat_beAt_half (l := [slot]) (m := 1) (pl := [slot] ++ be 2 first.toNat ++ be 2 count.toNat) rfl first rfl
  have h2 := ofNat_beAt_half (l := [slot] ++ be 2 first.toNat) (m := 3) (pl := [slot] ++ be 2 first.toNat ++ be 2 count.toNat) (r := []) (by simp)
    count (List.append_nil _).symm
  have hl : ([slot] ++ be 2 first.toNat ++ be 2 count.toNat).length = 5 := by simp
  simp only [State.smRun, hl, if_true, h1, h2]
  rfl

theorem State.smRun_write : s.smRun 0x11 q ([slot, op] ++ be 4 off.toNat ++ data) = s.smWrite q slot off data := by
  have h1 := w32_beAt_word (l := [slot, op]) (m := 2) (pl := [slot, op] ++ be 4 off.toNat ++ data) rfl off rfl
  have hl : 6 ≤ ([slot, op] ++ be 4 off.toNat ++ data).length := by simp
  have hd : ([slot, op] ++ be 4 off.toNat ++ data).drop 6 = data := List.drop_left' (by simp)
  simp only [State.smRun, hl, if_true, h1, hd]
  rfl

theorem State.smRun_read : s.smRun 0x12 q ([slot, op] ++ be 4 off.toNat ++ be 2 len.toNat) = s.smRead q slot off len := by
  have h1 := w32_beAt_word (l := [slot, op]) (m := 2) (pl := [slot, op] ++ be 4 off.toNat ++ be 2 len.toNat) rfl off rfl
  have h2 := ofNat_beAt_half (l := [slot, op] ++ be 4 off.toNat) (m := 6) (pl := [slot, op] ++ be 4 off.toNat ++ be 2 len.toNat) (r := [])
    (by simp) len (List.append_nil _).symm
  have hl : ([slot, op] ++ be 4 off.toNat ++ be 2 len.toNat).length = 8 := by simp
  simp only [State.smRun, hl, if_true, h1, h2]
  rfl

theorem State.smRun_slotCrc : s.smRun 0x13 q ([slot, op] ++ be 4 off.toNat ++ be 4 n.toNat) = s.smSlotCrc q slot off n := by
  have h1 := w32_beAt_word (l := [slot, op]) (m := 2) (pl := [slot, op] ++ be 4 off.toNat ++ be 4 n.toNat) rfl off rfl
  have h2 := w32_beAt_word (l := [slot, op] ++ be 4 off.toNat) (m := 6) (pl := [slot, op] ++ be 4 off.toNat ++ be 4 n.toNat) (r := [])
    (by simp) n (List.append_nil _).symm
  have hl : ([slot, op] ++ be 4 off.toNat ++ be 4 n.toNat).length = 10 := by simp
  simp only [State.smRun, hl, if_true, h1, h2]
  rfl

theorem State.smRun_ramLoad : s.smRun 0x20 q (be 4 off.toNat ++ data) = s.smRamLoad q off data := by
  have h1 := w32_beAt_word (l := []) (m := 0) (pl := be 4 off.toNat ++ data) rfl off rfl
  have hl : 4 ≤ (be 4 off.toNat ++ data).length := by simp
  have hd : (be 4 off.toNat ++ data).drop 4 = data := List.drop_left' (by simp)
  simp only [State.smRun, hl, if_true, h1, hd]

/-- An opcode outside the table. -/
theorem State.smRun_unlisted {o : Nat} (h : o ∉ [1, 2, 0x10, 0x11, 0x12, 0x13, 0x20, 0x21, 0x30]) :
    s.smRun o q data = s.smivi q (fun s => s.smReply smBAD_OPCODE q []) := by
  unfold State.smRun
  dsimp only
  split
  case h_10 => rfl
  all_goals exact absurd (by decide) h

end

/-! ### A transaction that is no good frame (R428, R429) -/

theorem State.smFrame_bad {s : State} {f : List Byte} (h : s.smReady) (hb : f.length < 8 + beAt f 2 2 ∨ 1030 < beAt f 2 2 ∨
    beAt f (4 + beAt f 2 2) 4 ≠ (crc32c (f.take (4 + beAt f 2 2))).toNat) : s.smFrame f = s.smReply 2 (f.getD 1 0) [] := by
  rw [State.smFrame, if_pos (by simpa using or_assoc.mpr hb), State.smivi_ready h]

/-! ### A response that is read (R428) -/

section
variable {s : State} (hf : s.pwr.fHeld = false)
include hf

theorem exec_smiviResponseRead_plain (hr : s.boot.resetAfter = false) : exec .smiviResponseRead s = .next { s with boot := { s.boot with
    sent := s.boot.resp.getD (List.replicate 8 0), resp := none } } := by
  simp only [exec_smiviResponseRead_arm, State.smRespond, hf, hr, Bool.false_and, Bool.false_eq_true, if_false]

theorem exec_smiviResponseRead_reset {r : List Byte} (ha : s.boot.resetAfter = true) (hr : s.boot.resp = some r) :
    exec .smiviResponseRead s =
      .next (({ s with boot := { s.boot with sent := r, resp := none, resetAfter := false } } : State).requestReset 2) := by
  simp only [exec_smiviResponseRead_arm, State.smRespond, hf, hr, ha, Option.isSome_some, Bool.and_self, Bool.not_true, Bool.and_false,
    Bool.false_eq_true, if_false, if_true, Option.getD_some]

theorem Does.smiviResponseRead_reset {r : List Byte} (ha : s.boot.resetAfter = true) (hr : s.boot.resp = some r)
    (hc : s.pwr.resetCode = none) : Does .smiviResponseRead s (fun t =>
      t.boot = { s.boot with sent := r, resp := none, resetAfter := false } ∧ t.pwr.resetCode = some 2) :=
  Does.of_next (exec_smiviResponseRead_reset hf ha hr) ⟨State.requestReset_only .boot (by decide), State.requestReset_code hc⟩

end

/-- Settles O57: the gate of the port, then each command's answer behind it, then the transactions by their octets. -/
theorem smiviAnswers : Obligations.SmiviAnswers := by
  unfold Obligations.SmiviAnswers
  intro s q slot op off n len first count data octets good ready base
  refine ⟨?_, ?_, ?_, ?_, ?_, ?_, ?_, ?_, ?_, ?_, ?_, ?_, ?_, ?_, ?_, ?_, rfl, ?_, rfl, ?_, ?_, ?_, ?_, ?_, ?_, ?_⟩
  · intro h
    exact ⟨congrArg _ (State.smivi_waiting h), congrArg _ (State.smivi_waiting h), congrArg _ (State.smivi_waiting h),
      congrArg _ (State.smivi_waiting h), congrArg _ (State.smivi_waiting h), congrArg _ (State.smivi_waiting h),
      congrArg _ (State.smivi_waiting h), congrArg _ (State.smivi_waiting h), congrArg _ (State.smivi_waiting h)⟩
  · intro hf hr ho hb
    exact ⟨congrArg _ (State.smivi_busy hf hr ho hb), congrArg _ (State.smivi_busy hf hr ho hb)⟩
  · intro h
    exact ⟨congrArg _ (State.smivi_ready h), congrArg _ (State.smivi_ready h), congrArg _ (State.smivi_ready h)⟩
  · exact fun h => exec_flashErase_ready h q slot first count
  · exact fun h => exec_flashWrite_ready h q slot off data
  · exact fun h => exec_flashRead_ready h q slot off len
  · exact fun h => exec_slotCrc_ready h q slot off n
  · exact fun h => exec_slotCrc_outside h q slot off n
  · exact fun o ho h hc => Does.of_next (exec_flashOpDone_write ho h hc) ⟨s.flashEnd_op o, rfl, rfl, fun k hk =>
      (State.smReply_rd ..).trans ((State.withFlash_rd ..).trans (s.flashEnd_regsBut o k hk))⟩
  · intro o ho h
    refine Does.of_next (exec_flashOpDone_erase ho h) ?_
    split <;> exact ⟨s.flashEnd_op o, rfl, rfl⟩
  · exact fun o ho => Does.of_next (exec_flashOpDone_bad ho) ⟨(State.smReply_op ..).trans ((State.flashFree_op _ _ _).trans (s.flashEnd_op o)), State.smReply_resp ..⟩
  · intro h
    rw [exec_flashOpDone_arm, execFlashOpDone, h]
  · exact fun h => exec_ramLoad_ready h q off data
  · exact fun h => exec_ramRun_denied h q
  · exact fun h => exec_ramRun_invalid h q
  · exact fun h => Does.ramRun_starts q h
  · exact exec_smiviOther s octets
  · exact fun h hb => congrArg _ (State.smFrame_bad h hb)
  · intro h hl ho
    rw [exec_smiviCommand op q hl, State.smRun_unlisted s q data ho, State.smivi_ready h]
  · exact ⟨exec_smiviCommand 0x01 q (by simp) s, exec_smiviCommand 0x02 q (by simp) s, exec_smiviCommand 0x21 q (by simp) s,
      exec_smiviCommand 0x30 q (by simp) s⟩
  · intro hl
    exact ⟨(exec_smiviCommand 0x10 q (by simp) s).trans (congrArg _ (s.smRun_erase q slot first count)),
      (exec_smiviCommand 0x11 q (by simp; omega) s).trans (congrArg _ (s.smRun_write q slot op off data)),
      (exec_smiviCommand 0x12 q (by simp) s).trans (congrArg _ (s.smRun_read q slot op off len)),
      (exec_smiviCommand 0x13 q (by simp) s).trans (congrArg _ (s.smRun_slotCrc q slot op off n)),
      (exec_smiviCommand 0x20 q (by simp; omega) s).trans (congrArg _ (s.smRun_ramLoad q off data))⟩
  · exact fun h => ⟨congrArg _ (if_pos h), congrArg _ (State.smivi_held h)⟩
  · exact fun hf => exec_smiviResponseRead_plain hf
  · exact fun r hf ha hr => Does.smiviResponseRead_reset hf ha hr

end Sys2Proof.Machine
end
section
/-! ## The moves of the power state (R392 to R396)

What taking a state sets, and which registers the choice of a state can reach: `PWR_LAT_MIN`, the state in `PWR_STATE`, and `LANE_BUSY` when the
radio stops. -/
set_option Elab.async false
namespace Sys2Proof.Machine

/-- The registers that the choice of a power state can change. -/
abbrev pwrKeys : List Nat := [R.PWR_LAT_MIN, R.PWR_STATE, R.LANE_BUSY]

/-! ### Gating touches only the list of gated clusters -/

section
variable (s : State)

/-- What gating leaves of the power state. -/
def GateKept (s t : State) : Prop := ∃ g u n, t.pwr = { s.pwr with gated := g, ungating := u, ungateAt := n }

theorem GateKept.refl : GateKept s s := ⟨_, _, _, rfl⟩

theorem GateKept.trans {s t u : State} (h : GateKept s t) (h2 : GateKept t u) : GateKept s u := by
  obtain ⟨g, x, n, h⟩ := h
  obtain ⟨g2, x2, n2, h2⟩ := h2
  exact ⟨g2, x2, n2, by rw [h2, h]⟩

theorem State.gate1_kept (c : Nat) : GateKept s (s.gate1 c) := by
  unfold State.gate1
  split
  · exact ⟨_, _, _, rfl⟩
  · exact GateKept.refl s

theorem State.ungate_kept : GateKept s s.ungate := by
  unfold State.ungate
  split
  · exact GateKept.refl s
  · split
    · exact GateKept.refl s
    · exact ⟨_, _, _, rfl⟩

theorem State.foldl_gate1_kept (l : List Nat) : GateKept s (l.foldl State.gate1 s) := by
  induction l generalizing s with
  | nil => exact GateKept.refl s
  | cons c l ih => exact (s.gate1_kept c).trans (ih _)

theorem State.gateEval_kept : GateKept s s.gateEval := by
  unfold State.gateEval
  split
  · exact ⟨_, _, _, rfl⟩
  · split
    · exact s.ungate_kept
    · exact s.foldl_gate1_kept _

theorem State.gateEval_exiting : s.gateEval.pwr.exiting = s.pwr.exiting := by
  obtain ⟨g, u, n, h⟩ := s.gateEval_kept
  rw [h]

theorem State.gateEval_pwrState : s.gateEval.pwrState = s.pwrState := congrArg (fun m => fget F.PWR_STATE_STATE (aget 0 R.PWR_STATE m)) s.gateEval_regs

theorem State.gateEval_lastSent (d : Die) : s.gateEval.lastSent d = s.lastSent d := by
  have h : s.gateEval.pass = s.pass := s.gateEval_onlyIn .pass (by decide)
  cases d <;> simp only [State.lastSent, State.txDir, h]

theorem State.gateEval_now : s.gateEval.now = s.now := s.gateEval_onlyIn .now (by decide)

end

/-! ### A state is taken (R393, R395) -/

section
variable (s : State) (st cause wake : Nat)

theorem State.radioOff_regsBut : s.radioOff.regsBut s pwrKeys :=
  State.regsBut_trans (State.regsBut_of_regs s.cutAir_regs) (State.setFld_regsBut _ F.LANE_BUSY_BUSY 0 (by simp))

/-- The state before the event: the radio is off for HOLD and VAULT, and `PWR_STATE` names the state. -/
def State.pwrMove (s : State) (st : Nat) : State :=
  (if st = 3 || st = 4 then s.radioOff else s).setFld R.PWR_STATE F.PWR_STATE_STATE st

theorem State.pwrMove_regsBut : (s.pwrMove st).regsBut s pwrKeys := by
  refine State.regsBut_trans (t := if st = 3 || st = 4 then s.radioOff else s) ?_ (State.setFld_regsBut _ F.PWR_STATE_STATE st (by simp))
  split
  · exact s.radioOff_regsBut
  · exact State.regsBut_refl s _

theorem State.pwrMove_state (h : st < 8) : (s.pwrMove st).pwrState = st := by
  rw [State.pwrState, State.pwrMove, State.fld_setFld _ _ _ _ (by decide)]
  exact Nat.mod_eq_of_lt h

theorem State.pwrMove_forced : (s.pwrMove st).flag R.PWR_STATE F.PWR_STATE_FORCED = s.flag R.PWR_STATE F.PWR_STATE_FORCED := by
  have h (u : State) : (u.setFld R.PWR_STATE F.PWR_STATE_STATE st).flag R.PWR_STATE F.PWR_STATE_FORCED = u.flag R.PWR_STATE F.PWR_STATE_FORCED :=
    congrArg (· != 0) (u.fld_setFld_other _ _ _ st (by decide) (by decide))
  unfold State.pwrMove
  rw [h]
  split
  · exact State.flag_of_regsBut (State.setFld_regsBut s.cutAir F.LANE_BUSY_BUSY 0 (List.mem_singleton_self R.LANE_BUSY)) (by decide) _
  · rfl

/-- POWER_STATE of the move. -/
def State.pwrEvent (s : State) (st cause wake : Nat) : State :=
  (s.pwrMove st).evtF 29 (if st = 4 then 0xF else 0) (w32 st) (w32 s.pwrState) (w32 (cause + wake * 256))

/-- What is pending of moves when the state is taken. -/
def State.pwrArrived (s u : State) (st : Nat) : PwrSt :=
  { u.pwr with
    deeper := none
    exiting := none
    entering := st == 3 || st == 4
    wakeDuring := none
    vaultEntry := if st = 4 then some (s.now + ms 10) else u.pwr.vaultEntry }

theorem State.pwrTake_same (h : st = s.pwrState) : s.pwrTake st cause wake = s := by rw [State.pwrTake]; exact if_pos h

variable {st} in
theorem State.pwrTake_other (h : st ≠ s.pwrState) :
    s.pwrTake st cause wake = { s.pwrEvent st cause wake with pwr := s.pwrArrived (s.pwrEvent st cause wake) st } := by
  rw [State.pwrTake]
  exact if_neg h

theorem State.rd_pwrEvent (k : Nat) : (s.pwrEvent st cause wake).rd k = (s.pwrMove st).rd k := State.evtF_rd ..

theorem State.pwrTake_regsBut : (s.pwrTake st cause wake).regsBut s pwrKeys := by
  by_cases h : st = s.pwrState
  · rw [State.pwrTake_same s st cause wake h]
    exact State.regsBut_refl s _
  · rw [State.pwrTake_other s cause wake h]
    exact fun k hk => (s.rd_pwrEvent st cause wake k).trans (s.pwrMove_regsBut st k hk)

theorem State.pwrTake_forced :
    (s.pwrTake st cause wake).flag R.PWR_STATE F.PWR_STATE_FORCED = s.flag R.PWR_STATE F.PWR_STATE_FORCED := by
  by_cases h : st = s.pwrState
  · rw [State.pwrTake_same s st cause wake h]
  · rw [State.pwrTake_other s cause wake h]
    exact (congrArg (fun w => fget F.PWR_STATE_FORCED w != 0) (s.rd_pwrEvent st cause wake R.PWR_STATE)).trans (s.pwrMove_forced st)

variable {st} (h : st ≠ s.pwrState)
include h

theorem State.pwrTake_state (hs : st < 8) : (s.pwrTake st cause wake).pwrState = st := by
  rw [State.pwrTake_other s cause wake h]
  exact (congrArg (fget F.PWR_STATE_STATE) (s.rd_pwrEvent st cause wake R.PWR_STATE)).trans (s.pwrMove_state st hs)

theorem State.pwrTake_exiting : (s.pwrTake st cause wake).pwr.exiting = none := by
  rw [State.pwrTake_other s cause wake h]
  rfl

theorem State.pwrTake_entering : (s.pwrTake st cause wake).pwr.entering = (st == 3 || st == 4) := by
  rw [State.pwrTake_other s cause wake h]
  rfl

theorem State.pwrTake_raised : (s.pwrTake st cause wake).raised 29 (w32 st) (w32 s.pwrState) (w32 (cause + wake * 256)) := by
  rw [State.pwrTake_other s cause wake h]
  exact State.evtF_raised (s.pwrMove st) (if st = 4 then 0xF else 0) (w32 st) (w32 s.pwrState) (w32 (cause + wake * 256)) (by decide)

omit h in
theorem State.pwrTake_now : (s.pwrTake st cause wake).now = s.now :=
  (State.pwrTake_within s st cause wake (Within.refl [.regs, .pass, .pwr, .air, .rf, .rx] s) rfl).only .now (by decide)

/-- HOLD and VAULT stop the radio. -/
theorem State.pwrTake_deep (hd : st = 3 ∨ st = 4) :
    (s.pwrTake st cause wake).rx.lanes = [] ∧ ∀ u ∈ (s.pwrTake st cause wake).air, u.ended = true ∨ u.cut = true := by
  have e : s.pwrMove st = s.radioOff.setFld R.PWR_STATE F.PWR_STATE_STATE st := by
    unfold State.pwrMove
    rw [if_pos (by simpa using hd)]
  have hx : (s.pwrEvent st cause wake).rx = s.radioOff.rx := by
    rw [State.pwrEvent, State.evtF_rx, e]
    rfl
  have ha : (s.pwrEvent st cause wake).air = s.cutAir.air := by
    rw [State.pwrEvent, State.evtF_air, e]
    rfl
  rw [State.pwrTake_other s cause wake h]
  exact ⟨congrArg RxSt.lanes hx, fun u hu => s.cutAir_ended u (ha ▸ hu)⟩

end

/-! ### The choice of a state -/

section
variable (s : State)

theorem State.pwrLeave_regs (st cause wake : Nat) : (s.pwrLeave st cause wake).regs = s.regs :=
  (State.pwrLeave_within s st cause wake (Within.refl [.pwr] s) rfl).only .regs (by decide)

/-- The least tolerance fits its field. -/
theorem State.latMin_lt : s.latMin < 2 ^ 23 := by
  have h (l : List Nat) (n : Nat) : l.foldl (fun t p => min t (s.fld (R.PWR_LAT_TOL p) F.PWR_LAT_TOL_TOL_US)) n ≤ n := by
    induction l generalizing n with
    | nil => exact Nat.le_refl n
    | cons p l ih => exact (ih _).trans (Nat.min_le_left ..)
  exact Nat.lt_of_le_of_lt (h _ _) (by decide)

/-- It reads the mapping and the tolerances. -/
theorem State.latMin_of_regsBut {t : State} (h : t.regsBut s pwrKeys) : t.latMin = s.latMin := by
  have hm : t.mapped = s.mapped := by
    funext p
    rw [State.mapped, State.mapped, State.fld_of_regsBut h (by decide)]
  have ht (p : Nat) : t.fld (R.PWR_LAT_TOL p) F.PWR_LAT_TOL_TOL_US = s.fld (R.PWR_LAT_TOL p) F.PWR_LAT_TOL_TOL_US :=
    State.fld_of_regsBut h (by simp [R.PWR_LAT_TOL, R.PWR_LAT_MIN, R.PWR_STATE, R.LANE_BUSY]; omega) _
  simp only [State.latMin, hm, ht]

/-- `PWR_LAT_MIN` shows it. -/
def State.latShown (s : State) : State := s.setFld R.PWR_LAT_MIN F.PWR_LAT_MIN_T_US s.latMin

theorem State.latShown_regsBut : s.latShown.regsBut s pwrKeys := State.setFld_regsBut _ _ _ (by simp)

theorem State.latShown_fld : s.latShown.fld R.PWR_LAT_MIN F.PWR_LAT_MIN_T_US = s.latMin := by
  rw [State.latShown, State.fld_setFld _ _ _ _ (by decide)]
  exact Nat.mod_eq_of_lt s.latMin_lt

theorem State.latShown_forced : s.latShown.flag R.PWR_STATE F.PWR_STATE_FORCED = s.flag R.PWR_STATE F.PWR_STATE_FORCED :=
  State.flag_of_regsBut (State.setFld_regsBut s F.PWR_LAT_MIN_T_US _ (List.mem_singleton_self R.PWR_LAT_MIN)) (by decide) _

/-- What the choice of a state keeps and shows: registers other than its own, the force, and the least tolerance. -/
structure PwrChosen (s t : State) : Prop where
  regs : t.regsBut s pwrKeys
  forced : t.flag R.PWR_STATE F.PWR_STATE_FORCED = s.flag R.PWR_STATE F.PWR_STATE_FORCED
  lat : t.fld R.PWR_LAT_MIN F.PWR_LAT_MIN_T_US = s.latMin

theorem State.latShown_chosen : PwrChosen s s.latShown := ⟨s.latShown_regsBut, s.latShown_forced, s.latShown_fld⟩

variable {s}

theorem PwrChosen.of_regs {t u : State} (h : PwrChosen s t) (e : u.regs = t.regs) : PwrChosen s u := by
  have hr (k : Nat) : u.rd k = t.rd k := congrArg (aget 0 k) e
  exact ⟨fun k hk => (hr k).trans (h.regs k hk), (congrArg (fun w => fget F.PWR_STATE_FORCED w != 0) (hr _)).trans h.forced,
    (congrArg (fget F.PWR_LAT_MIN_T_US) (hr _)).trans h.lat⟩

/-- Of a state that is taken nothing reaches `PWR_LAT_MIN`. -/
theorem State.pwrTake_latMin (u : State) (st cause wake : Nat) :
    (u.pwrTake st cause wake).fld R.PWR_LAT_MIN F.PWR_LAT_MIN_T_US = u.fld R.PWR_LAT_MIN F.PWR_LAT_MIN_T_US := by
  have hm : (u.pwrMove st).rd R.PWR_LAT_MIN = u.rd R.PWR_LAT_MIN := by
    unfold State.pwrMove
    rw [State.rd_setFld_ne _ _ _ (by decide)]
    split
    · exact (State.rd_setFld_ne _ _ _ (by decide)).trans rfl
    · rfl
  by_cases h : st = u.pwrState
  · rw [State.pwrTake_same u st cause wake h]
  · rw [State.pwrTake_other u cause wake h]
    exact congrArg (fget F.PWR_LAT_MIN_T_US) ((u.rd_pwrEvent st cause wake R.PWR_LAT_MIN).trans hm)

theorem PwrChosen.pwrTake {t : State} (h : PwrChosen s t) (st cause wake : Nat) : PwrChosen s (t.pwrTake st cause wake) :=
  ⟨State.regsBut_trans h.regs (t.pwrTake_regsBut st cause wake), (t.pwrTake_forced st cause wake).trans h.forced,
    (t.pwrTake_latMin st cause wake).trans h.lat⟩

variable (s)

theorem State.pwrEval_chosen (idle : Bool) (cause wake : Nat) : PwrChosen s (s.pwrEval idle cause wake) := by
  have h := s.latShown_chosen
  unfold State.pwrEval
  dsimp only
  split
  · exact h
  · split
    · exact h.of_regs rfl
    · split
      · exact h.of_regs (State.pwrLeave_regs ..)
      · split
        · exact h.of_regs rfl
        · exact h.pwrTake ..

theorem State.pwrInput_chosen (cause : Nat) : PwrChosen s (s.pwrInput cause) := by
  unfold State.pwrInput
  dsimp only
  refine PwrChosen.of_regs ?_ (State.gateEval_regs _)
  split
  · exact s.latShown_chosen.of_regs (State.pwrLeave_regs ..)
  · exact s.pwrEval_chosen ..

theorem State.pwrInput_shows (cause : Nat) :
    (s.pwrInput cause).fld R.PWR_LAT_MIN F.PWR_LAT_MIN_T_US = (s.pwrInput cause).latMin :=
  (s.pwrInput_chosen cause).lat.trans (s.latMin_of_regsBut (s.pwrInput_chosen cause).regs).symm

end

end Sys2Proof.Machine
end
section
/-! ## O53: the power states (R393 to R396) -/
set_option Elab.async false
namespace Sys2Proof.Machine

/-! ### The arms of `exec` -/

section
variable (s : State) (p : Part) (data : Word)

theorem exec_latencyToleranceWrite_arm : exec (.latencyToleranceWrite p data) s = .next (s.latWrite p data) := rfl
theorem exec_powerForce_arm : exec (.powerForce p data) s = .next (s.forceWrite p data) := rfl
theorem exec_clusterUngateDone_arm (c : Fin 16) : exec (.clusterUngateDone c) s = execClusterUngateDone c s := rfl
theorem exec_idleTimerExpiry_arm : exec .idleTimerExpiry s = execIdleTimerExpiry s := rfl
theorem exec_powerStateExitDone_arm : exec .powerStateExitDone s = execPowerStateExitDone s := rfl
theorem exec_powerStateEntryDone_arm : exec .powerStateEntryDone s = execPowerStateEntryDone s := rfl
theorem exec_wakeNInput_arm (n : Nat) : exec (.wakeNInput n) s = execWakeNInput n s := rfl
theorem exec_rtcAlarm_arm : exec .rtcAlarm s = execRtcAlarm s := rfl

end

/-! ### Tolerances and the force (R393, R394) -/

section
variable (s : State) (p : Part) (data : Word)

theorem Does.latencyToleranceWrite : Does (.latencyToleranceWrite p data) s (fun t =>
    t.rd (R.PWR_LAT_TOL p) = data &&& 0x7FFFFF ∧ t.fld R.PWR_LAT_MIN F.PWR_LAT_MIN_T_US = t.latMin) := by
  refine Does.of_next (exec_latencyToleranceWrite_arm s p data) ⟨?_, State.pwrInput_shows _ 0⟩
  have hk : R.PWR_LAT_TOL p ∉ pwrKeys := by simp [R.PWR_LAT_TOL, R.PWR_LAT_MIN, R.PWR_STATE, R.LANE_BUSY]; omega
  exact ((State.pwrInput_chosen _ 0).regs _ hk).trans (State.rd_wr ..)

theorem exec_powerForce_armed (h : s.unlocked p = false) : exec (.powerForce p data) s = .next (s.guardViolation p (w32 R.PWR_FORCE) false data) :=
  congrArg _ (State.guarded_armed s p _ data _ h)

theorem exec_powerForce_other (h : s.unlocked p = true) (hp : p.val ≠ 0) :
    exec (.powerForce p data) s = .next ((s.armLock p).err R.PWR_ERR F.PWR_ERR_PART_WRITE) := by
  rw [exec_powerForce_arm, State.forceWrite, State.guarded_unlocked s p _ data _ h, State.pwrWriter, State.only0, if_neg hp]

/-- A force that R394 refuses. -/
abbrev forceBad (s : State) (data : Word) : Prop :=
  bitAt data 0 = true ∧ (5 ≤ fget F.PWR_FORCE_STATE data ∨ 3 ≤ fget F.PWR_FORCE_STATE data ∧ s.flag R.PWR_PERMIT F.PWR_PERMIT_PERMIT_DEEP = false)

theorem State.permit_armLock : (s.armLock 0).flag R.PWR_PERMIT F.PWR_PERMIT_PERMIT_DEEP = s.flag R.PWR_PERMIT F.PWR_PERMIT_PERMIT_DEEP :=
  State.flag_of_regsBut (s.armLock_regsBut 0) (by decide) _

theorem exec_powerForce_zero : exec (.powerForce 0 data) s = .next (s.forceWrite 0 data) := rfl

/-- The force as it is stored. -/
def State.forceStored (s : State) (data : Word) : State :=
  (s.wr R.PWR_FORCE (data &&& 0xF)).setFld R.PWR_STATE F.PWR_STATE_FORCED (if bitAt data 0 then 1 else 0)

theorem State.forceStored_regsBut : (s.forceStored data).regsBut s [R.PWR_FORCE, R.PWR_STATE] :=
  State.regsBut_trans (State.wr_regsBut s _ (by simp)) (State.setFld_regsBut _ F.PWR_STATE_FORCED _ (by simp))

theorem State.forceStored_rd : (s.forceStored data).rd R.PWR_FORCE = data &&& 0xF :=
  (State.rd_setFld_ne _ _ _ (by decide)).trans (State.rd_wr ..)

theorem State.forceStored_forced : (s.forceStored data).flag R.PWR_STATE F.PWR_STATE_FORCED = bitAt data 0 := by
  rw [State.flag, State.forceStored, State.fld_setFld _ _ _ _ (by decide)]
  cases bitAt data 0 <;> rfl

variable (h : s.unlocked 0 = true)
include h

theorem exec_powerForce_bad (hb : forceBad s data) :
    exec (.powerForce 0 data) s = .next ((s.armLock 0).err R.PWR_ERR F.PWR_ERR_FORCE_INVALID) := by
  obtain ⟨hen, hst⟩ := hb
  rw [exec_powerForce_zero, State.forceWrite, State.guarded_unlocked s _ _ data _ h, State.pwrWriter, State.only0, if_pos rfl]
  dsimp only
  rw [if_pos (by simpa [hen, State.permit_armLock] using hst)]

theorem exec_powerForce_good (hb : ¬forceBad s data) :
    exec (.powerForce 0 data) s = .next (((s.armLock 0).forceStored data).pwrInput 1) := by
  rw [exec_powerForce_zero, State.forceWrite, State.guarded_unlocked s _ _ data _ h, State.pwrWriter, State.only0, if_pos rfl]
  dsimp only
  rw [if_neg (by simpa [forceBad, State.permit_armLock] using hb)]
  rfl

theorem Does.powerForce_bad (hb : forceBad s data) : Does (.powerForce 0 data) s (fun t =>
    t.flag R.PWR_ERR F.PWR_ERR_FORCE_INVALID = true ∧ t.rd R.PWR_FORCE = s.rd R.PWR_FORCE ∧ t.unlocked 0 = false ∧ t.pwr = s.pwr) :=
  Does.of_next (exec_powerForce_bad s data h hb) ⟨State.flag_err _ _ (by decide) (by decide),
    (State.rd_setFld_ne _ _ _ (by decide)).trans (s.armLock_regsBut 0 _ (by decide)),
    State.armLock_locked (s := s) (State.rd_setFld_ne _ _ _ (by decide)), rfl⟩

theorem Does.powerForce_good (hb : ¬forceBad s data) : Does (.powerForce 0 data) s (fun t =>
    t.rd R.PWR_FORCE = data &&& 0xF ∧ t.flag R.PWR_STATE F.PWR_STATE_FORCED = bitAt data 0 ∧ t.unlocked 0 = false) := by
  have hc := ((s.armLock 0).forceStored data).pwrInput_chosen 1
  refine Does.of_next (exec_powerForce_good s data h hb) ⟨?_, ?_, ?_⟩
  · exact (hc.regs _ (by decide)).trans (State.forceStored_rd ..)
  · exact hc.forced.trans (State.forceStored_forced ..)
  · exact State.armLock_locked (s := s) ((hc.regs _ (by decide)).trans (State.forceStored_regsBut _ _ _ (by decide)))

end

theorem Does.powerForce_other (s : State) (p : Part) (data : Word) (h : s.unlocked p = true) (hp : p.val ≠ 0) :
    Does (.powerForce p data) s (fun t => t.flag R.PWR_ERR F.PWR_ERR_PART_WRITE = true ∧ t.regsBut s [R.PWR_ERR, R.SYS_LOCK p]) :=
  Does.of_next (exec_powerForce_other s p data h hp) ⟨State.flag_err _ _ (by decide) (by decide),
    State.regsBut_trans (State.regsBut_mono (s.armLock_regsBut p) (by simp)) (State.setFld_regsBut _ _ 1 (by simp))⟩

/-! ### The idle timer (R395) -/

/-- The target reads the force, the permission and the least tolerance. -/
theorem State.pwrTarget_of_regsBut {s t : State} (h : t.regsBut s pwrKeys) (idle : Bool) : t.pwrTarget idle = s.pwrTarget idle := by
  have hf (f : Fld) : t.fld R.PWR_FORCE f = s.fld R.PWR_FORCE f := State.fld_of_regsBut h (by decide) f
  have hp (f : Fld) : t.flag R.PWR_PERMIT f = s.flag R.PWR_PERMIT f := State.flag_of_regsBut h (by decide) f
  have he : t.flag R.PWR_FORCE F.PWR_FORCE_EN = s.flag R.PWR_FORCE F.PWR_FORCE_EN := State.flag_of_regsBut h (by decide) _
  simp only [State.pwrTarget, State.deepest, hf, hp, he, s.latMin_of_regsBut h]

theorem State.latShown_pwrState (s : State) : s.latShown.pwrState = s.pwrState :=
  State.fld_of_regsBut (State.setFld_regsBut s F.PWR_LAT_MIN_T_US _ (List.mem_singleton_self R.PWR_LAT_MIN)) (by decide) _

theorem State.latShown_running (s : State) : s.latShown.running = s.running := State.flag_of_regsBut s.latShown_regsBut (by decide) _

section
variable {s : State} {idle : Bool} (cause wake : Nat) (hh : s.pwr.hush = false)
include hh

/-- A deeper target is taken at once while the slot engine stands. -/
theorem State.pwrEval_deeper (hr : s.running = false) (ht : s.pwrState < s.pwrTarget idle) :
    s.pwrEval idle cause wake = s.latShown.pwrTake (s.pwrTarget idle) cause wake := by
  have hl : s.latShown.pwrTarget idle = s.pwrTarget idle := State.pwrTarget_of_regsBut s.latShown_regsBut idle
  have hs := s.latShown_pwrState
  have hn := s.latShown_running
  rw [State.pwrEval, ← State.latShown]
  dsimp only
  rw [if_neg (by simp [hh]), hl, hs, hn, if_neg (by omega), if_neg (by omega), if_neg (by simp [hr])]

/-- While it runs the move waits. -/
theorem State.pwrEval_waits (hr : s.running = true) (ht : s.pwrState < s.pwrTarget idle) : s.pwrEval idle cause wake =
    { s.latShown with pwr := { s.latShown.pwr with deeper := some (s.pwrTarget idle, cause, wake), exiting := none } } := by
  have hl : s.latShown.pwrTarget idle = s.pwrTarget idle := State.pwrTarget_of_regsBut s.latShown_regsBut idle
  have hs := s.latShown_pwrState
  have hn := s.latShown_running
  rw [State.pwrEval, ← State.latShown]
  dsimp only
  rw [if_neg (by simp [hh]), hl, hs, hn, if_neg (by omega), if_neg (by omega), if_pos hr]

end

/-- The chip as the idle timer expires. -/
def State.idleExpired (s : State) : State :=
  let u := s.advanceTo s.idleDue
  { u with pwr := { u.pwr with idleSince := some (s.idleDue - ms s.idleMs, u.qmg.nextId) } }

section
variable {s : State}

theorem State.idleExpired_regsBut (s : State) (ks : List Nat) : s.idleExpired.regsBut s ks := fun _ _ => rfl
theorem State.idleExpired_pwrState (s : State) : s.idleExpired.pwrState = s.pwrState := rfl
theorem State.idleExpired_running (s : State) : s.idleExpired.running = s.running := rfl
theorem State.idleExpired_hush (s : State) : s.idleExpired.pwr.hush = s.pwr.hush := rfl
theorem State.idleExpired_air (s : State) : s.idleExpired.air = s.air := rfl
theorem State.idleExpired_now (s : State) : s.idleExpired.now = max s.now s.idleDue := s.advanceTo_now _

theorem State.idleExpired_target (s : State) : s.idleExpired.pwrTarget true = s.pwrTarget true :=
  State.pwrTarget_of_regsBut (s.idleExpired_regsBut _) true

variable (hi : s.idleNow = true) (hs : s.pwrState < 3)
include hi hs

theorem exec_idleTimerExpiry_idle : exec .idleTimerExpiry s = .next (s.idleExpired.pwrEval true 3 0) := by
  rw [exec_idleTimerExpiry_arm, execIdleTimerExpiry, if_pos (by simp [hi, hs])]
  rfl

variable (hh : s.pwr.hush = false)
include hh

theorem Does.idleTimerExpiry_moves (hr : s.running = false) (h3 : 3 ≤ s.pwrTarget true) (h5 : s.pwrTarget true < 5) :
    Does .idleTimerExpiry s (fun t => t.now = max s.now s.idleDue ∧ t.pwrState = s.pwrTarget true ∧ t.pwr.entering = true ∧
      t.rx.lanes = [] ∧ (∀ u ∈ t.air, u.ended = true ∨ u.cut = true) ∧ t.raised 29 (w32 (s.pwrTarget true)) (w32 s.pwrState) (w32 3)) := by
  have hl : s.idleExpired.latShown.pwrState = s.pwrState := (State.latShown_pwrState _).trans s.idleExpired_pwrState
  have hne : s.pwrTarget true ≠ s.idleExpired.latShown.pwrState := by omega
  have hd : s.pwrTarget true = 3 ∨ s.pwrTarget true = 4 := by omega
  have he := State.pwrEval_deeper (s := s.idleExpired) (idle := true) 3 0 hh hr
    (by rw [State.idleExpired_target, State.idleExpired_pwrState]; omega)
  rw [State.idleExpired_target] at he
  obtain ⟨hx, ha⟩ := s.idleExpired.latShown.pwrTake_deep 3 0 hne hd
  refine Does.of_next ((exec_idleTimerExpiry_idle hi hs).trans (congrArg _ he)) ⟨?_, State.pwrTake_state _ 3 0 hne (by omega), ?_, hx, ha, ?_⟩
  · exact (State.pwrTake_now ..).trans s.idleExpired_now
  · rw [State.pwrTake_entering _ 3 0 hne]
    simpa using hd
  · exact hl ▸ State.pwrTake_raised _ 3 0 hne

theorem Does.idleTimerExpiry_waits (hr : s.running = true) (h3 : 3 ≤ s.pwrTarget true) :
    Does .idleTimerExpiry s (fun t => t.pwr.deeper = some (s.pwrTarget true, 3, 0) ∧ t.pwrState = s.pwrState ∧ t.air = s.air) := by
  have he := State.pwrEval_waits (s := s.idleExpired) (idle := true) 3 0 hh hr
    (by rw [State.idleExpired_target, State.idleExpired_pwrState]; omega)
  rw [State.idleExpired_target] at he
  exact Does.of_next ((exec_idleTimerExpiry_idle hi hs).trans (congrArg _ he))
    ⟨rfl, (State.latShown_pwrState _).trans s.idleExpired_pwrState, s.idleExpired_air⟩

end

theorem exec_idleTimerExpiry_busy {s : State} (h : s.idleNow = false ∨ 3 ≤ s.pwrState) : exec .idleTimerExpiry s = .next s := by
  rw [exec_idleTimerExpiry_arm, execIdleTimerExpiry, if_neg]
  rcases h with h | h
  · simp [h]
  · simp [Nat.not_lt.mpr h]

/-! ### The end of a move (R393, R395) -/

section
variable {s : State}

/-- The chip at the end of a move to a shallower state. -/
def State.exitDue (s : State) (n : Nat) : State :=
  let u := s.advanceTo n
  { u with pwr := { u.pwr with exiting := none } }

theorem State.exitDue_pwrState (s : State) (n : Nat) : (s.exitDue n).pwrState = s.pwrState := rfl
theorem State.exitDue_now (s : State) (n : Nat) : (s.exitDue n).now = max s.now n := s.advanceTo_now n

variable {x : Nat × Nat × Nat × Nat × Nat}

theorem exec_powerStateExitDone_exits (hx : s.pwr.exiting = some x) (hh : s.pwr.hush = false) : exec .powerStateExitDone s =
    .next (((s.exitDue x.2.2.2.2).pwrTake x.1 x.2.2.1 x.2.2.2.1).gateEval) := by
  rw [exec_powerStateExitDone_arm, execPowerStateExitDone, hx]
  dsimp only
  rw [if_neg (by simp [hh])]
  rfl

theorem Does.powerStateExitDone (hx : s.pwr.exiting = some x) (hh : s.pwr.hush = false) (hn : x.1 ≠ s.pwrState) (h5 : x.1 < 5) :
    Does .powerStateExitDone s (fun t => t.now = max s.now x.2.2.2.2 ∧ t.pwrState = x.1 ∧ t.pwr.exiting = none ∧
      t.raised 29 (w32 x.1) (w32 s.pwrState) (w32 (x.2.2.1 + x.2.2.2.1 * 256))) := by
  have hne : x.1 ≠ (s.exitDue x.2.2.2.2).pwrState := hn
  refine Does.of_next (exec_powerStateExitDone_exits hx hh) ⟨?_, ?_, ?_, ?_⟩
  · exact (State.gateEval_now _).trans ((State.pwrTake_now ..).trans (s.exitDue_now _))
  · exact (State.gateEval_pwrState _).trans (State.pwrTake_state _ _ _ hne (by omega))
  · exact (State.gateEval_exiting _).trans (State.pwrTake_exiting _ _ _ hne)
  · exact (congrArg (fun m => Option.map _ m = _) (State.gateEval_lastSent _ .f)).mpr (State.pwrTake_raised (s.exitDue x.2.2.2.2) x.2.2.1 x.2.2.2.1 hne)

theorem exec_powerStateExitDone_none (h : s.pwr.exiting = none ∨ s.pwr.hush = true) : exec .powerStateExitDone s = .next s := by
  rw [exec_powerStateExitDone_arm, execPowerStateExitDone]
  split
  · rfl
  · rename_i hx
    rw [if_pos (h.resolve_left (by simp [hx]))]

/-- The chip at the end of the entry into HOLD. -/
def State.entryOver (s : State) : State := { s with pwr := { s.pwr with entering := false, wakeDuring := none } }

theorem State.entryOver_pwrState (s : State) : s.entryOver.pwrState = s.pwrState := rfl
theorem State.entryOver_target (s : State) (idle : Bool) : s.entryOver.pwrTarget idle = s.pwrTarget idle := rfl

theorem State.pwrExit_exiting (s : State) (st cause wake : Nat) (h : s.pwr.exiting = none) :
    (s.pwrExit st cause wake).pwr.exiting = some (st, s.pwrState, cause, wake, s.now + exitLatency s.pwrState) := by
  rw [State.pwrExit, h]

theorem State.pwrExit_entry (s : State) (st cause wake : Nat) : (s.entryOver.pwrExit st cause wake).pwr.entering = false ∧
    (s.entryOver.pwrExit st cause wake).pwr.wakeDuring = none ∧ (s.entryOver.pwrExit st cause wake).regs = s.regs := ⟨rfl, rfl, rfl⟩

variable (he : s.pwr.entering = true) (hs : s.pwrState = 3)
include he hs

theorem exec_powerStateEntryDone_quiet (hw : s.pwr.wakeDuring = none) :
    exec .powerStateEntryDone s = .next { s with pwr := { s.pwr with entering := false } } := by
  rw [exec_powerStateEntryDone_arm, execPowerStateEntryDone, if_neg (by simp [he, hs])]
  simp only [hw]

theorem exec_powerStateEntryDone_wakes {w : Nat × Nat} (hw : s.pwr.wakeDuring = some w) :
    exec .powerStateEntryDone s = .next (s.entryOver.pwrExit (s.pwrTarget false) w.1 w.2) := by
  rw [exec_powerStateEntryDone_arm, execPowerStateEntryDone, if_neg (by simp [he, hs])]
  dsimp only
  rw [hw]
  rfl

theorem Does.powerStateEntryDone_wakes (hx : s.pwr.exiting = none) {w : Nat × Nat} (hw : s.pwr.wakeDuring = some w) :
    Does .powerStateEntryDone s (fun t => t.pwr.entering = false ∧ t.pwr.wakeDuring = none ∧
      t.pwr.exiting = some (s.pwrTarget false, 3, w.1, w.2, s.now + ms 40) ∧ t.regs = s.regs) := by
  obtain ⟨h1, h2, h3⟩ := s.pwrExit_entry (s.pwrTarget false) w.1 w.2
  refine Does.of_next (exec_powerStateEntryDone_wakes he hs hw) ⟨h1, h2, ?_, h3⟩
  have hp := s.entryOver.pwrExit_exiting (s.pwrTarget false) w.1 w.2 hx
  rwa [State.entryOver_pwrState, hs] at hp

omit he hs in
theorem exec_powerStateEntryDone_none (he : s.pwr.entering = false) : exec .powerStateEntryDone s = .next s := by
  rw [exec_powerStateEntryDone_arm, execPowerStateEntryDone, if_pos (by simp [he])]

end

section
variable {s : State}

/-! ### The vault (R396, R411) -/

theorem State.vaultWakes_idle (k : Nat) (ho : s.pwr.vaultOff = false) (he : s.pwr.vaultEntry = none) : s.vaultWakes k = s := by
  simp [State.vaultWakes, ho, he]

theorem State.vaultLeave_regs (s : State) (k : Nat) : (s.vaultLeave k).regs = s.regs := by
  unfold State.vaultLeave
  split <;> rfl

theorem State.vaultLeave_pwr (s : State) (k : Nat) : (s.vaultLeave k).pwr =
    { s.pwr with vaultWake := true, vaultCode := if s.pwr.vaultWake then s.pwr.vaultCode else k } := by
  unfold State.vaultLeave
  split
  · rename_i h
    exact congrArg (fun b => ({ s.pwr with vaultWake := b } : PwrSt)) h
  · rfl

theorem State.vaultWakes_regs (s : State) (k : Nat) : (s.vaultWakes k).regs = s.regs := by
  unfold State.vaultWakes
  split
  · exact s.vaultLeave_regs k
  · split
    · exact s.vaultLeave_regs k
    · rfl

theorem State.vaultWakes_pwr (k : Nat) (h : s.pwr.vaultOff = true ∨ s.pwr.vaultEntry.isSome = true) : (s.vaultWakes k).pwr = { s.pwr with
    vaultOff := false
    vaultWake := true
    vaultCode := if s.pwr.vaultWake then s.pwr.vaultCode else k } := by
  unfold State.vaultWakes
  split
  · exact congrArg (fun p => { p with vaultOff := false }) (s.vaultLeave_pwr k)
  · rename_i ho
    rw [if_pos (h.resolve_left ho), s.vaultLeave_pwr k]
    simp only [Bool.eq_false_of_not_eq_true ho]

theorem exec_wakeNInput_wakes {n : Nat} (hn : 2 ≤ n) (h : s.flag R.PWR_WAKE_CFG F.PWR_WAKE_CFG_WAKE_EN = true) :
    exec (.wakeNInput n) s = .next (s.vaultWakes 5) := by
  rw [exec_wakeNInput_arm, execWakeNInput, if_pos (by simp [hn, h])]

theorem exec_wakeNInput_none {n : Nat} (h : n < 2 ∨ s.flag R.PWR_WAKE_CFG F.PWR_WAKE_CFG_WAKE_EN = false) :
    exec (.wakeNInput n) s = .next s := by
  rw [exec_wakeNInput_arm, execWakeNInput, if_neg]
  rcases h with h | h
  · simp [Nat.not_le.mpr h]
  · simp [h]

theorem exec_rtcAlarm_due (h : s.rtc ≤ (s.rd R.PWR_ALARM_S).toNat) :
    exec .rtcAlarm s = .next (
      let u := s.vault.rtcAt + sec ((s.rd R.PWR_ALARM_S).toNat - (s.rd R.PWR_RTC_S).toNat)
      if s.flag R.PWR_WAKE_CFG F.PWR_WAKE_CFG_ALARM_EN then (s.advanceTo u).vaultWakes 6 else s.advanceTo u) := by
  have ha : s.alarmAt = some (s.vault.rtcAt + sec ((s.rd R.PWR_ALARM_S).toNat - (s.rd R.PWR_RTC_S).toNat)) := if_pos h
  rw [exec_rtcAlarm_arm, execRtcAlarm, ha]
  rfl

theorem exec_rtcAlarm_past (h : (s.rd R.PWR_ALARM_S).toNat < s.rtc) : exec .rtcAlarm s = .next s := by
  have ha : s.alarmAt = none := if_neg (Nat.not_le.mpr h)
  rw [exec_rtcAlarm_arm, execRtcAlarm, ha]

theorem exec_clusterUngateDone_ready {c : Fin 16} (h : s.pwr.ungating.contains c.val = true) : exec (.clusterUngateDone c) s =
    .next { s.advanceTo s.pwr.ungateAt with pwr := { (s.advanceTo s.pwr.ungateAt).pwr with
      gated := s.pwr.gated.filter (· ≠ c.val), ungating := s.pwr.ungating.filter (· ≠ c.val) } } := by
  rw [exec_clusterUngateDone_arm, execClusterUngateDone, if_neg (by simpa using h)]
  rfl

theorem exec_clusterUngateDone_none {c : Fin 16} (h : s.pwr.ungating.contains c.val = false) : exec (.clusterUngateDone c) s = .next s := by
  rw [exec_clusterUngateDone_arm, execClusterUngateDone, if_pos (by simpa using h)]

end

/-- Settles O53: the writes by what the choice of a state can reach, the timers and the ends of moves by the state that they take. -/
theorem powerStatesMove : Obligations.PowerStatesMove := by
  unfold Obligations.PowerStatesMove
  intro s p data c n st
  refine ⟨Does.latencyToleranceWrite s p data, exec_powerForce_armed s p data, Does.powerForce_other s p data, ?_, ?_, ?_,
    exec_clusterUngateDone_none, exec_idleTimerExpiry_idle, Does.idleTimerExpiry_moves, Does.idleTimerExpiry_waits, exec_idleTimerExpiry_busy,
    fun x => exec_powerStateExitDone_exits, fun x => Does.powerStateExitDone, exec_powerStateExitDone_none, exec_powerStateEntryDone_quiet,
    fun he hs _ hx w => Does.powerStateEntryDone_wakes he hs hx, exec_powerStateEntryDone_none, exec_wakeNInput_wakes, exec_wakeNInput_none,
    State.vaultWakes_idle, fun k h => ⟨State.vaultWakes_pwr k h, s.vaultWakes_regs k⟩, exec_rtcAlarm_due, exec_rtcAlarm_past⟩
  · exact fun h he hst => Does.powerForce_bad s data h ⟨he, hst⟩
  · refine fun h hg => Does.powerForce_good s data h ?_
    rintro ⟨he, hb⟩
    rcases hg with hg | hg | ⟨hg, hp⟩
    · simp [he] at hg
    · rcases hb with hb | ⟨hb, -⟩ <;> omega
    · rcases hb with hb | ⟨-, hb⟩
      · omega
      · simp [hp] at hb
  · exact fun h => Does.of_next (exec_clusterUngateDone_ready h) ⟨rfl, s.advanceTo_now _, rfl⟩

end Sys2Proof.Machine
end
section
/-! ## The Ledger and the entry into Quiet (R372, R377, R388)

What a Ledger record and a Quiet cause change: the logs' own registers, the cause register and the safety island's state. -/
set_option Elab.async false
namespace Sys2Proof.Machine

/-! ### Bits -/

theorem nbit_clrNbit_same (m i : Nat) : nbit (clrNbit m i) i = false := by
  unfold clrNbit
  split
  next h =>
    have hd : (m - 2 ^ i) / 2 ^ i = m / 2 ^ i - 1 := by simpa using Nat.sub_mul_div m (2 ^ i) 1
    simp only [nbit, beq_iff_eq] at h
    simp only [nbit, hd, beq_eq_false_iff_ne]
    omega
  next h => simpa using h

/-- Above the cleared bit the quotients agree: an odd number and the one below it have the same half. -/
theorem nbit_clrNbit_above (m : Nat) {i j : Nat} (h : i < j) : nbit (clrNbit m i) j = nbit m j := by
  unfold clrNbit
  split
  next hb =>
    have hd : (m - 2 ^ i) / 2 ^ i = m / 2 ^ i - 1 := by simpa using Nat.sub_mul_div m (2 ^ i) 1
    have hj (n : Nat) : n / 2 ^ j = n / 2 ^ i / 2 / 2 ^ (j - i - 1) := by
      rw [Nat.div_div_eq_div_mul, Nat.div_div_eq_div_mul, ← pow_succ', ← pow_add]
      congr 2
      omega
    simp only [nbit, beq_iff_eq] at hb
    have h2 : (m / 2 ^ i - 1) / 2 = m / 2 ^ i / 2 := by
      generalize m / 2 ^ i = k at hb
      omega
    simp only [nbit, hj, hd, h2]
  next => rfl

theorem nbit_mod (m : Nat) {i w : Nat} (h : i < w) : nbit (m % 2 ^ w) i = nbit m i := by
  rw [nbit_testBit, nbit_testBit, Nat.testBit_mod_two_pow]
  simp [h]

/-! ### A Ledger record (R386 to R389) -/

/-- The registers of the two logs that a record moves, and the island's health, which shows whether it stands. -/
def ledgerKeys : List Nat := [R.LOG_TNEXT, R.LOG_LNEXT, R.LOG_LFIFO, R.SAFE_HEALTH]

section
variable (s : State) (code src : Nat) (p0 p1 p2 : Word)

/-- What becomes of a record at its index: it fails its verification, or stands. -/
theorem State.ledgerStore_cases (r : List Word) (P : State → Prop) (hb : P (s.setFld R.SAFE_HEALTH F.SAFE_HEALTH_LEDGER_OK 0))
    (hg : ∀ l, P (({ s with log := l } : State).setFld R.SAFE_HEALTH F.SAFE_HEALTH_LEDGER_OK 1)) : P (s.ledgerStore r).1 := by
  unfold State.ledgerStore
  dsimp only
  split
  · exact hb
  · exact hg _

theorem State.setFld_lit (l : LogSt) (k : Nat) (f : Fld) (x : Nat) : let t := ({ s with log := l } : State).setFld k f x
    t = { s with regs := t.regs, log := t.log } := rfl

theorem State.ledgerStore_lit (r : List Word) :
    (s.ledgerStore r).1 = { s with regs := (s.ledgerStore r).1.regs, log := (s.ledgerStore r).1.log } :=
  s.ledgerStore_cases r (fun t => t = { s with regs := t.regs, log := t.log }) (s.setFld_lit s.log _ _ _) (fun l => s.setFld_lit l _ _ _)

theorem State.ledgerStore_regsBut (r : List Word) : (s.ledgerStore r).1.regsBut s [R.SAFE_HEALTH] := by
  refine s.ledgerStore_cases r (·.regsBut s [R.SAFE_HEALTH]) (State.setFld_regsBut s _ _ (by simp)) (fun l k hk => ?_)
  exact State.rd_setFld_ne _ _ _ (fun e => hk (List.mem_singleton.mpr e))

/-- Beside `LEDGER_OK` the island's health stays. -/
theorem State.ledgerStore_health (r : List Word) (f : Fld) (hf : f.lo + f.w ≤ 14) :
    (s.ledgerStore r).1.fld R.SAFE_HEALTH f = s.fld R.SAFE_HEALTH f :=
  s.ledgerStore_cases r (·.fld R.SAFE_HEALTH f = s.fld R.SAFE_HEALTH f) (State.fld_setFld_other _ _ _ _ _ (by decide) (.inl hf))
    (fun _ => State.fld_setFld_other _ _ _ _ _ (by decide) (.inl hf))

/-- The record in the Trail and the next sequence of the Ledger. -/
def State.ledgerSeq (s : State) (code src : Nat) (p0 p1 p2 : Word) : State :=
  (s.trail code src p0 p1 p2).wr R.LOG_LNEXT (s.rd R.LOG_LNEXT + 1)

theorem State.ledgerSeq_regsBut : (s.ledgerSeq code src p0 p1 p2).regsBut s [R.LOG_TNEXT, R.LOG_LNEXT] :=
  fun _ hk => (State.rd_wr_ne _ _ (fun e => hk (by simp [e]))).trans (State.rd_wr_ne _ _ (fun e => hk (by simp [e])))

/-- What becomes of the record: into the ring, into the holding FIFO, or lost. -/
theorem State.ledgerPut_cases (P : State → Prop) (hs : ∀ r, P ((s.ledgerSeq code src p0 p1 p2).ledgerStore r).1)
    (hf : ∀ l, P ({ s.ledgerSeq code src p0 p1 p2 with log := l } : State).fifoSync)
    (hl : ∀ l, P { s.ledgerSeq code src p0 p1 p2 with log := l }) : P (s.ledgerPut code src p0 p1 p2).1 := by
  unfold State.ledgerPut
  dsimp only
  split
  · split
    · exact hf _
    · exact hl _
  · exact hs _

theorem State.ledgerPut_lit : (s.ledgerPut code src p0 p1 p2).1 =
    { s with regs := (s.ledgerPut code src p0 p1 p2).1.regs, log := (s.ledgerPut code src p0 p1 p2).1.log } := by
  refine State.ledgerPut_cases s code src p0 p1 p2 (fun t => t = { s with regs := t.regs, log := t.log }) (fun r => ?_) (fun _ => rfl)
    (fun _ => rfl)
  exact State.ledgerStore_lit ..

theorem State.ledgerPut_regsBut : (s.ledgerPut code src p0 p1 p2).1.regsBut s ledgerKeys := by
  have h0 : (s.ledgerSeq code src p0 p1 p2).regsBut s ledgerKeys :=
    State.regsBut_mono (s.ledgerSeq_regsBut code src p0 p1 p2) (by simp [ledgerKeys])
  refine State.ledgerPut_cases s code src p0 p1 p2 (fun t => t.regsBut s ledgerKeys) (fun r => ?_) (fun l => ?_) (fun l => h0)
  · exact State.regsBut_trans h0 (State.regsBut_mono (State.ledgerStore_regsBut _ r) (by simp [ledgerKeys]))
  · exact fun k hk => (State.rd_setFld_ne _ _ _ (fun e => hk (by simp [e, ledgerKeys]))).trans (h0 k hk)

/-- Beside `LEDGER_OK` the island's health stays. -/
theorem State.ledgerPut_health (f : Fld) (hf : f.lo + f.w ≤ 14) :
    (s.ledgerPut code src p0 p1 p2).1.fld R.SAFE_HEALTH f = s.fld R.SAFE_HEALTH f := by
  have h0 : (s.ledgerSeq code src p0 p1 p2).fld R.SAFE_HEALTH f = s.fld R.SAFE_HEALTH f :=
    State.fld_of_regsBut (s.ledgerSeq_regsBut code src p0 p1 p2) (by decide) f
  refine State.ledgerPut_cases s code src p0 p1 p2 (fun t => t.fld R.SAFE_HEALTH f = s.fld R.SAFE_HEALTH f) (fun r => ?_) (fun l => ?_)
    (fun l => h0)
  · exact (State.ledgerStore_health _ _ _ hf).trans h0
  · exact (State.fld_setFld_ne _ _ _ _ (by decide)).trans h0

theorem State.ledgerPut_next : (s.ledgerPut code src p0 p1 p2).1.rd R.LOG_LNEXT = s.rd R.LOG_LNEXT + 1 := by
  have h0 : (s.ledgerSeq code src p0 p1 p2).rd R.LOG_LNEXT = s.rd R.LOG_LNEXT + 1 := State.rd_wr ..
  refine State.ledgerPut_cases s code src p0 p1 p2 (fun t => t.rd R.LOG_LNEXT = s.rd R.LOG_LNEXT + 1) (fun r => ?_) (fun l => ?_)
    (fun l => h0)
  · exact (State.ledgerStore_regsBut _ _ _ (by decide)).trans h0
  · exact (State.rd_setFld_ne _ _ _ (by decide)).trans h0

end

/-! ### A cause that ends (R372) -/

section
variable (s : State) (c : Nat)

theorem State.quietOver_lit : s.quietOver c = { s with
    regs := (s.quietOver c).regs
    safe := { s.safe with liveSince := (s.quietOver c).safe.liveSince } } := by
  unfold State.quietOver
  dsimp only
  split <;> rfl

theorem State.quietOver_latched : (s.quietOver c).fld R.SAFE_CAUSE F.SAFE_CAUSE_LATCHED = s.fld R.SAFE_CAUSE F.SAFE_CAUSE_LATCHED :=
  (congrArg (fget F.SAFE_CAUSE_LATCHED) (State.rd_of_regs (s.quietOver_regs c) R.SAFE_CAUSE)).trans
    (State.fld_setFld_other _ _ _ _ _ (by decide) (by decide))

theorem State.quietOver_live :
    (s.quietOver c).fld R.SAFE_CAUSE F.SAFE_CAUSE_LIVE = clrNbit (s.fld R.SAFE_CAUSE F.SAFE_CAUSE_LIVE) c % 2 ^ F.SAFE_CAUSE_LIVE.w :=
  (congrArg (fget F.SAFE_CAUSE_LIVE) (State.rd_of_regs (s.quietOver_regs c) R.SAFE_CAUSE)).trans (State.fld_setFld _ _ _ _ (by decide))

/-- Causes above the one that ends stay live. -/
theorem State.quietOver_live_above {i : Nat} (h : c < i) (hi : i < 16) :
    nbit ((s.quietOver c).fld R.SAFE_CAUSE F.SAFE_CAUSE_LIVE) i = nbit (s.fld R.SAFE_CAUSE F.SAFE_CAUSE_LIVE) i := by
  rw [State.quietOver_live, nbit_mod _ hi, nbit_clrNbit_above _ h]

theorem State.quietOver_since (h : s.safe.liveSince = none) : (s.quietOver c).safe = s.safe := by
  unfold State.quietOver
  dsimp only
  split
  · rw [← h]
    rfl
  · rfl

end

/-! ### A record that stands (R387, R388) -/

/-- What a record that stands leaves: everything but the logs, their registers, cause 9 and the time since which a cause is live. -/
structure Recorded (s t : State) : Prop where
  lit : t = { s with regs := t.regs, log := t.log, safe := { s.safe with liveSince := t.safe.liveSince } }
  regs : t.regsBut s (R.SAFE_CAUSE :: ledgerKeys)
  health : ∀ f : Fld, f.lo + f.w ≤ 14 → t.fld R.SAFE_HEALTH f = s.fld R.SAFE_HEALTH f
  next : t.rd R.LOG_LNEXT = s.rd R.LOG_LNEXT + 1
  latched : t.fld R.SAFE_CAUSE F.SAFE_CAUSE_LATCHED = s.fld R.SAFE_CAUSE F.SAFE_CAUSE_LATCHED
  live : ∀ i, 9 < i → i < 16 → nbit (t.fld R.SAFE_CAUSE F.SAFE_CAUSE_LIVE) i = nbit (s.fld R.SAFE_CAUSE F.SAFE_CAUSE_LIVE) i
  since : s.safe.liveSince = none → t.safe.liveSince = none

section
variable {s t : State}

theorem Recorded.ofPut (code src : Nat) (p0 p1 p2 : Word) : Recorded s (s.ledgerPut code src p0 p1 p2).1 := by
  have hl := s.ledgerPut_lit code src p0 p1 p2
  have hr := s.ledgerPut_regsBut code src p0 p1 p2
  refine ⟨?_, State.regsBut_mono hr (by simp), s.ledgerPut_health code src p0 p1 p2, s.ledgerPut_next .., ?_, fun i _ _ => ?_, fun h => ?_⟩
  · rw [hl]
  · exact State.fld_of_regsBut hr (by decide) _
  · rw [State.fld_of_regsBut hr (by decide)]
  · rw [hl]
    exact h

theorem Recorded.over (h : Recorded s t) : Recorded s (t.quietOver 9) where
  lit := by
    rw [State.quietOver_lit, h.lit]
  regs := State.regsBut_trans h.regs (State.regsBut_mono (t.quietOver_regsBut 9) (by simp))
  health f hf := (State.fld_of_regsBut (t.quietOver_regsBut 9) (by decide) f).trans (h.health f hf)
  next := ((t.quietOver_regsBut 9) _ (by decide)).trans h.next
  latched := (t.quietOver_latched 9).trans h.latched
  live i hi hi2 := (t.quietOver_live_above 9 hi hi2).trans (h.live i hi hi2)
  since hn := (congrArg SafeSt.liveSince (t.quietOver_since 9 (h.since hn))).trans (h.since hn)

theorem State.ledger_recorded (hb : s.log.bad = []) (code src : Nat) (p0 p1 p2 : Word) : Recorded s (s.ledger code src p0 p1 p2) := by
  have h : Recorded s (s.ledgerPut code src p0 p1 p2).1 := .ofPut ..
  unfold State.ledger
  dsimp only
  rw [s.ledgerPut_ok hb]
  simp only [Bool.not_true, Bool.false_eq_true, if_false]
  split
  · exact h
  · exact h.over

theorem Recorded.inQuiet (h : Recorded s t) : t.inQuiet = s.inQuiet := State.flag_of_regsBut h.regs (by decide) _

end

/-! ### The hardware's reaction to a cause (R372, R377) -/

/-- The cause registers as a cause appears. -/
def State.causeShown (s : State) (c : Nat) : State :=
  let s1 := s.setFld R.SAFE_CAUSE F.SAFE_CAUSE_LATCHED (setNbit (s.fld R.SAFE_CAUSE F.SAFE_CAUSE_LATCHED) c)
  if causeMomentary c then s1 else s1.setFld R.SAFE_CAUSE F.SAFE_CAUSE_LIVE (setNbit (s.fld R.SAFE_CAUSE F.SAFE_CAUSE_LIVE) c)

/-- Quiet with the element DACs muted, before the air is cut. -/
def State.quietMuted (s : State) (c : Nat) : State :=
  let s3 := ((s.causeShown c).setFld R.SAFE_STATE F.SAFE_STATE_QUIET 1).setFld R.SAFE_STATE F.SAFE_STATE_DRIVE_F 1
  { s3 with safe := { s3.safe with
    dacMuted := true
    liveSince := if s.fld R.SAFE_CAUSE F.SAFE_CAUSE_LIVE = 0 && !causeMomentary c then some s.now else s3.safe.liveSince } }

section
variable (s : State) (c : Nat)

theorem State.quietLatch_eq : s.quietLatch c = (s.quietMuted c).cutAir.passSend .f 0x0D 0 false 8 [w32 c, 0] := rfl

theorem State.causeShown_regsBut : (s.causeShown c).regsBut s [R.SAFE_CAUSE] := by
  unfold State.causeShown
  dsimp only
  split
  · exact State.setFld_regsBut s _ _ (by simp)
  · exact State.regsBut_trans (State.setFld_regsBut s F.SAFE_CAUSE_LATCHED _ (by simp)) (State.setFld_regsBut _ _ _ (by simp))

theorem State.causeShown_latched (hc : c < 16) : nbit ((s.causeShown c).fld R.SAFE_CAUSE F.SAFE_CAUSE_LATCHED) c = true := by
  have h1 : nbit ((s.setFld R.SAFE_CAUSE F.SAFE_CAUSE_LATCHED (setNbit (s.fld R.SAFE_CAUSE F.SAFE_CAUSE_LATCHED) c)).fld R.SAFE_CAUSE
      F.SAFE_CAUSE_LATCHED) c = true := by
    rw [State.fld_setFld _ _ _ _ (by decide)]
    exact nbit_setNbit _ hc
  unfold State.causeShown
  dsimp only
  split
  · exact h1
  · rw [State.fld_setFld_other _ _ _ _ _ (by decide) (by decide)]
    exact h1

theorem State.causeShown_live (hm : causeMomentary c = false) (hc : c < 16) :
    nbit ((s.causeShown c).fld R.SAFE_CAUSE F.SAFE_CAUSE_LIVE) c = true := by
  unfold State.causeShown
  dsimp only
  rw [hm, if_neg (by decide), State.fld_setFld _ _ _ _ (by decide)]
  exact nbit_setNbit _ hc

theorem State.quietLatch_rd (k : Nat) : (s.quietLatch c).rd k = (s.quietMuted c).rd k := by
  rw [State.quietLatch_eq, State.rd_passSend]
  exact State.rd_of_regs (State.cutAir_regs _) k

theorem State.quietMuted_rd {k : Nat} (hk : k ≠ R.SAFE_STATE) : (s.quietMuted c).rd k = (s.causeShown c).rd k :=
  (State.rd_setFld_ne _ _ _ hk).trans (State.rd_setFld_ne _ _ _ hk)

theorem State.quietLatch_fld_cause (f : Fld) : (s.quietLatch c).fld R.SAFE_CAUSE f = (s.causeShown c).fld R.SAFE_CAUSE f :=
  congrArg (fget f) ((s.quietLatch_rd c _).trans (s.quietMuted_rd c (by decide)))

theorem State.quietLatch_regsBut : (s.quietLatch c).regsBut s [R.SAFE_CAUSE, R.SAFE_STATE] := by
  intro k hk
  have hs : k ≠ R.SAFE_STATE := fun e => hk (by simp [e])
  exact (s.quietLatch_rd c k).trans ((s.quietMuted_rd c hs).trans (s.causeShown_regsBut c k (fun e => hk (by simp_all))))

theorem State.quietMuted_inQuiet : (s.quietMuted c).inQuiet = true := by
  have h1 : ((s.causeShown c).setFld R.SAFE_STATE F.SAFE_STATE_QUIET 1).flag R.SAFE_STATE F.SAFE_STATE_QUIET = true :=
    State.flag_err _ _ (by decide) (by decide)
  exact (congrArg (· != 0) (State.fld_setFld_other _ _ _ F.SAFE_STATE_QUIET _ (by decide) (by decide))).trans h1

theorem State.quietLatch_inQuiet : (s.quietLatch c).inQuiet = true :=
  (congrArg (fun w => fget F.SAFE_STATE_QUIET w != 0) (s.quietLatch_rd c R.SAFE_STATE)).trans (s.quietMuted_inQuiet c)

theorem State.quietLatch_safe : (s.quietLatch c).safe = (s.quietMuted c).safe := State.passSend_safe ..

theorem State.quietLatch_muted : (s.quietLatch c).safe.dacMuted = true := congrArg SafeSt.dacMuted (s.quietLatch_safe c)

theorem State.quietLatch_air : (s.quietLatch c).air = (s.quietMuted c).cutAir.air := State.passSend_air ..
theorem State.quietLatch_rf : (s.quietLatch c).rf = (s.quietMuted c).cutAir.rf := State.passSend_rf ..
theorem State.quietLatch_time : (s.quietLatch c).time = (s.quietMuted c).time := State.passSend_time ..

end

/-! ### Quiet as a cause appears, with nothing of the Caravans open (R265, R275) -/

section
variable {s : State} {c : Nat}

/-- The report of a cause is a record and an event. -/
theorem State.quietReport_recorded (s : State) (c : Nat) : ∃ t, Recorded s t ∧
    (s.quietReport c).1 = t.evtF 0 0xF (w32 (s.fld R.SAFE_CAUSE F.SAFE_CAUSE_LATCHED)) 1 (w32 c) := by
  have h (p1 p2 : Word) : Recorded s (s.ledgerPut 0x0001 c p1 p2 0).1 := .ofPut ..
  unfold State.quietReport
  dsimp only
  split
  · exact ⟨_, (h _ _).over, rfl⟩
  · exact ⟨_, h _ _, rfl⟩

theorem State.quietEnds_none (ho : s.cvn.open_ = []) (hs : s.cvn.sess = []) : s.quietEnds = s := by
  rw [State.quietEnds, ho, List.foldl_nil, hs, List.foldl_nil]

/-- What stands once a cause has been latched and reported. -/
structure QuietFor (c : Nat) (t : State) : Prop where
  inQuiet : t.inQuiet = true
  latched : nbit (t.fld R.SAFE_CAUSE F.SAFE_CAUSE_LATCHED) c = true
  live : causeMomentary c = false → 9 < c → nbit (t.fld R.SAFE_CAUSE F.SAFE_CAUSE_LIVE) c = true
  muted : t.safe.dacMuted = true
  silent : ∀ u ∈ t.air, u.holds t.cityNs = false
  txOff : t.rf.txOff = []
  ended : ∀ u ∈ t.air, u.ended = true ∨ u.cut = true

theorem QuietFor.feTxen {t : State} (h : QuietFor c t) : t.feTxen = 0 := State.feTxen_of_over h.silent h.txOff

theorem State.quietReport_quiet (s : State) (hc : c < 16) : QuietFor c ((s.quietLatch c).quietReport c).1 := by
  obtain ⟨t, ht, e⟩ := (s.quietLatch c).quietReport_recorded c
  have ha : t.air = (s.quietMuted c).cutAir.air := (congrArg State.air ht.lit).trans (s.quietLatch_air c)
  rw [e]
  refine ⟨?_, ?_, fun hm h9 => ?_, ?_, fun u hu => ?_, ?_, fun u hu => ?_⟩
  · exact ht.inQuiet.trans (s.quietLatch_inQuiet c)
  · have h : t.fld R.SAFE_CAUSE F.SAFE_CAUSE_LATCHED = (s.causeShown c).fld R.SAFE_CAUSE F.SAFE_CAUSE_LATCHED :=
      ht.latched.trans (s.quietLatch_fld_cause c _)
    exact (congrArg (nbit · c) h).trans (s.causeShown_latched c hc)
  · have h : nbit ((s.quietLatch c).fld R.SAFE_CAUSE F.SAFE_CAUSE_LIVE) c = true := by
      rw [s.quietLatch_fld_cause]
      exact s.causeShown_live c hm hc
    exact (ht.live c h9 hc).trans h
  · exact (congrArg (·.safe.dacMuted) ht.lit).trans (s.quietLatch_muted c)
  · have hn : t.time = (s.quietMuted c).time := (congrArg State.time ht.lit).trans (s.quietLatch_time c)
    rw [State.cityNs, State.evtF_time, hn]
    exact (s.quietMuted c).cutAir_over u (ha ▸ hu)
  · exact congrArg RfSt.txOff ((congrArg State.rf ht.lit).trans (s.quietLatch_rf c))
  · exact (s.quietMuted c).cutAir_ended u (ha ▸ hu)

theorem State.quietReport_regsBut (s : State) (c : Nat) :
    ((s.quietLatch c).quietReport c).1.regsBut s (R.SAFE_STATE :: R.SAFE_CAUSE :: ledgerKeys) := by
  obtain ⟨t, ht, e⟩ := (s.quietLatch c).quietReport_recorded c
  rw [e]
  refine State.regsBut_trans (State.regsBut_mono (s.quietLatch_regsBut c) (by simp)) ?_
  exact State.regsBut_trans (State.regsBut_mono ht.regs (by simp)) (State.regsBut_of_regs rfl)

theorem State.quietReport_ends (ho : s.cvn.open_ = []) (hs : s.cvn.sess = []) :
    ((s.quietLatch c).quietReport c).1.quietEnds = ((s.quietLatch c).quietReport c).1 := by
  have h : ((s.quietLatch c).quietReport c).1.cvn = s.cvn := (State.quietReport_cvn ..).trans (s.quietLatch_cvn c)
  exact State.quietEnds_none (by rw [h, ho]) (by rw [h, hs])

/-- A cause that appears, whose record stands. -/
theorem State.quiet_new (hl : nbit (s.fld R.SAFE_CAUSE F.SAFE_CAUSE_LIVE) c = false) (ho : s.cvn.open_ = []) (hs : s.cvn.sess = [])
    (hb : s.log.bad = []) : s.quiet c = ((s.quietLatch c).quietReport c).1 := by
  have hok : ((s.quietLatch c).quietReport c).2 = true := State.ledgerPut_ok _ (by rw [State.quietLatch_log, hb]) ..
  rw [State.quiet, if_neg (by simp [hl])]
  dsimp only
  rw [if_pos hok]
  exact State.quietReport_ends ho hs

/-- Cause 9 needs no record that stands (R388). -/
theorem State.quietLedger_new (hl : nbit (s.fld R.SAFE_CAUSE F.SAFE_CAUSE_LIVE) 9 = false) (ho : s.cvn.open_ = []) (hs : s.cvn.sess = []) :
    s.quietLedger = ((s.quietLatch 9).quietReport 9).1 := by
  rw [State.quietLedger, if_neg (by simp [hl])]
  exact State.quietReport_ends ho hs

end

end Sys2Proof.Machine
end
section
/-! ## O50: Quiet is entered and left (R372 to R382) -/
set_option Elab.async false
namespace Sys2Proof.Machine

/-! ### QUIET_EXIT (R379) -/

section
variable (s : State) (c : CmdDesc)

theorem exec_quietExit_arm : exec (.quietExit c) s = execQuietExit c s := rfl

/-- The cause and state registers of the exit. -/
def State.quietWritten (s : State) : State := (s.setFld R.SAFE_CAUSE F.SAFE_CAUSE_LATCHED 0).wr R.SAFE_STATE 0

/-- The exit before its record. -/
def State.quietCleared (s : State) : State :=
  { s.quietWritten with safe := { s.quietWritten.safe with dacMuted := false, hQuiet := false, liveSince := none } }

theorem State.quietCleared_rd (k : Nat) : s.quietCleared.rd k = s.quietWritten.rd k := State.rd_of_regs rfl k
theorem State.quietCleared_log : s.quietCleared.log = s.log := rfl
theorem State.quietCleared_since : s.quietCleared.safe.liveSince = none := rfl
theorem State.quietCleared_muted : s.quietCleared.safe.dacMuted = false := rfl

theorem State.quietCleared_inQuiet : s.quietCleared.inQuiet = false := by
  have h : s.quietCleared.rd R.SAFE_STATE = 0 := (s.quietCleared_rd _).trans (State.rd_wr ..)
  rw [State.inQuiet, State.flag, State.fld, h]
  decide

theorem State.quietCleared_latched : s.quietCleared.fld R.SAFE_CAUSE F.SAFE_CAUSE_LATCHED = 0 := by
  have h : s.quietCleared.rd R.SAFE_CAUSE = (s.setFld R.SAFE_CAUSE F.SAFE_CAUSE_LATCHED 0).rd R.SAFE_CAUSE :=
    (s.quietCleared_rd _).trans (State.rd_wr_ne _ _ (by decide))
  have hz : (s.setFld R.SAFE_CAUSE F.SAFE_CAUSE_LATCHED 0).fld R.SAFE_CAUSE F.SAFE_CAUSE_LATCHED = 0 := by
    rw [State.fld_setFld _ _ _ _ (by decide), Nat.zero_mod]
  exact (congrArg (fget F.SAFE_CAUSE_LATCHED) h).trans hz

/-- The exit with its record, before its event. -/
def State.quietLeft (s : State) : State := s.quietCleared.ledger 0x0002 0 (w32 (s.fld R.SAFE_CAUSE F.SAFE_CAUSE_LATCHED)) 0 0

theorem State.quietExit_eq : s.quietExit = s.quietLeft.evtF 0 0xF 0 0 16 := rfl

/-- What the exit leaves. -/
theorem State.quietExit_left (hb : s.log.bad = []) : s.quietExit.inQuiet = false ∧ s.quietExit.fld R.SAFE_CAUSE F.SAFE_CAUSE_LATCHED = 0 ∧
    s.quietExit.safe.dacMuted = false ∧ s.quietExit.safe.liveSince = none := by
  have h : Recorded s.quietCleared s.quietLeft := State.ledger_recorded (s := s.quietCleared) (s.quietCleared_log ▸ hb) ..
  have hr (k : Nat) : s.quietExit.rd k = s.quietLeft.rd k := by rw [State.quietExit_eq, State.evtF_rd]
  have hs : s.quietExit.safe = s.quietLeft.safe := by rw [State.quietExit_eq, State.evtF_safe]
  refine ⟨?_, ?_, ?_, ?_⟩
  · exact (congrArg (fun w => fget F.SAFE_STATE_QUIET w != 0) (hr R.SAFE_STATE)).trans (h.inQuiet.trans s.quietCleared_inQuiet)
  · exact (congrArg (fget F.SAFE_CAUSE_LATCHED) (hr R.SAFE_CAUSE)).trans (h.latched.trans s.quietCleared_latched)
  · rw [hs, h.lit]
    exact s.quietCleared_muted
  · rw [hs]
    exact h.since s.quietCleared_since

variable {s c}

theorem exec_quietExit_other (h : s.cmdTurn c = true) (hp : c.part.val ≠ 0) :
    exec (.quietExit c) s = .next ((s.cmdTake c).cmdBad c 26) := by
  rw [exec_quietExit_arm, execQuietExit, if_neg (by simp [h]), if_pos hp]

section
variable (h : s.cmdTurn c = true) (hp : c.part.val = 0)
include h hp

theorem exec_quietExit_idle (hq : s.inQuiet = false) : exec (.quietExit c) s = .next ((s.cmdTake c).cmdOk c []) := by
  have hq0 : (s.cmdTake c).inQuiet = false := hq
  rw [exec_quietExit_arm, execQuietExit, if_neg (by simp [h]), if_neg (by simp [hp]), if_pos (by simp [hq0])]

variable (hq : s.inQuiet = true)
include hq

theorem exec_quietExit_stale (hl : bitsAt c.w1 0 16 ≠ s.fld R.SAFE_CAUSE F.SAFE_CAUSE_LATCHED) :
    exec (.quietExit c) s = .next ((s.cmdTake c).cmdBad c 25) := by
  have hq0 : (s.cmdTake c).inQuiet = true := hq
  rw [exec_quietExit_arm, execQuietExit, if_neg (by simp [h]), if_neg (by simp [hp]), if_neg (by simp [hq0])]
  exact congrArg _ (if_pos hl)

variable (hl : bitsAt c.w1 0 16 = s.fld R.SAFE_CAUSE F.SAFE_CAUSE_LATCHED)
include hl

theorem exec_quietExit_live (hv : s.fld R.SAFE_CAUSE F.SAFE_CAUSE_LIVE ≠ 0) :
    exec (.quietExit c) s = .next ((s.cmdTake c).cmdBad c 24) := by
  have hq0 : (s.cmdTake c).inQuiet = true := hq
  rw [exec_quietExit_arm, execQuietExit, if_neg (by simp [h]), if_neg (by simp [hp]), if_neg (by simp [hq0])]
  exact congrArg _ ((if_neg (not_not.mpr hl)).trans (if_pos hv))

theorem exec_quietExit_leaves (hv : s.fld R.SAFE_CAUSE F.SAFE_CAUSE_LIVE = 0) :
    exec (.quietExit c) s = .next ((s.cmdTake c).quietExit.cmdOk c []) := by
  have hq0 : (s.cmdTake c).inQuiet = true := hq
  rw [exec_quietExit_arm, execQuietExit, if_neg (by simp [h]), if_neg (by simp [hp]), if_neg (by simp [hq0])]
  exact congrArg _ ((if_neg (not_not.mpr hl)).trans (if_neg (not_not.mpr hv)))

end

theorem Does.quietExit (h : s.leads c = true) (hp : c.part.val = 0) (hq : s.inQuiet = true)
    (hl : bitsAt c.w1 0 16 = s.fld R.SAFE_CAUSE F.SAFE_CAUSE_LATCHED) (hv : s.fld R.SAFE_CAUSE F.SAFE_CAUSE_LIVE = 0) (hb : s.log.bad = []) :
    Does (.quietExit c) s (fun t => t.inQuiet = false ∧ t.fld R.SAFE_CAUSE F.SAFE_CAUSE_LATCHED = 0 ∧ t.safe.dacMuted = false ∧
      t.safe.liveSince = none ∧ t.completed c stOK [] 0) := by
  obtain ⟨hi, hla, hm, hs⟩ := (s.cmdTake c).quietExit_left hb
  have hw := State.quietExit_within (s.cmdTake c) (Within.refl [.regs, .pass, .host, .safe, .log, .cvn, .cvnIds, .air, .qmg, .rf, .link] _) rfl
  have he : (s.cmdTake c).quietExit.ends = s.ends := hw.only .ends (by decide)
  refine Does.of_next (exec_quietExit_leaves (State.leads_turn _ _ h) hp hq hl hv) ⟨?_, ?_, ?_, ?_, ?_⟩
  · exact hi
  · exact hla
  · exact hm
  · exact hs
  · exact State.cmdOk_completed _ c [] (by rw [State.clearFor, he]; exact State.leads_clear s c h)

end

/-! ### The escalation (R380) -/

section
variable {s : State}

theorem exec_quietEscalation_arm (s : State) : exec .quietEscalation s = execQuietEscalation s := rfl

theorem exec_quietEscalation_due {u : Nat} (hu : s.safe.liveSince = some u) (he : s.escS ≠ 0) (hq : s.inQuiet = true) :
    exec .quietEscalation s = .next ((s.advanceTo (u + sec s.escS)).escalate 16) := by
  rw [exec_quietEscalation_arm, execQuietEscalation, hu]
  dsimp only
  rw [if_neg (by simp [he, hq])]

theorem exec_quietEscalation_none (h : s.safe.liveSince = none ∨ s.escS = 0 ∨ s.inQuiet = false) : exec .quietEscalation s = .next s := by
  rw [exec_quietEscalation_arm, execQuietEscalation]
  cases hu : s.safe.liveSince with
  | none => rfl
  | some u =>
    have h2 : s.escS = 0 ∨ s.inQuiet = false := h.resolve_left (by simp [hu])
    dsimp only
    rw [if_pos (by rcases h2 with h2 | h2 <;> simp [h2])]

end

/-! ### `SAFE_CTRL` (R372, R382) -/

theorem bitAt_eq_fget (v : Word) (i : Nat) : bitAt v i = decide (fget ⟨i, 1⟩ v = 1) := by
  rw [bitAt, BitVec.getLsbD, Nat.testBit_eq_decide_div_mod_eq]
  rfl

/-- Yarrow goes on, as bit 1 of a write asks. -/
def State.yarrowOn (s : State) (data : Word) : State :=
  if bitAt data 1 then (s.setFld R.SAFE_YARROW F.SAFE_YARROW_PAUSED 0).setFld R.LANE_STATE F.LANE_STATE_YARROW_PAUSED 0 else s

/-- The write's own register, behind the lock it arms. -/
def State.ctrlStored (s : State) (data : Word) : State := (s.armLock 0).wr R.SAFE_CTRL (data &&& 3)

section
variable (s : State) (data : Word)

theorem State.yarrowOn_regsBut : (s.yarrowOn data).regsBut s [R.SAFE_YARROW, R.LANE_STATE] := by
  unfold State.yarrowOn
  split
  · exact State.regsBut_trans (State.setFld_regsBut s F.SAFE_YARROW_PAUSED _ (by simp)) (State.setFld_regsBut _ _ _ (by simp))
  · exact State.regsBut_refl s _

theorem State.setFlds_lit (j k : Nat) (f g : Fld) (x y : Nat) : let t := (s.setFld j f x).setFld k g y
    t = { s with regs := t.regs } := rfl

theorem State.yarrowOn_lit : s.yarrowOn data = { s with regs := (s.yarrowOn data).regs } := by
  unfold State.yarrowOn
  split
  · exact s.setFlds_lit _ _ _ _ _ _
  · rfl

theorem State.yarrowOn_resumed (h : bitAt data 1 = true) : (s.yarrowOn data).flag R.SAFE_YARROW F.SAFE_YARROW_PAUSED = false := by
  have hz : ((s.setFld R.SAFE_YARROW F.SAFE_YARROW_PAUSED 0).setFld R.LANE_STATE F.LANE_STATE_YARROW_PAUSED 0).fld R.SAFE_YARROW
      F.SAFE_YARROW_PAUSED = 0 := by
    rw [State.fld_setFld_ne _ _ _ _ (by decide), State.fld_setFld _ _ _ _ (by decide), Nat.zero_mod]
  rw [State.yarrowOn, if_pos h, State.flag, hz]
  rfl

theorem State.ctrlStored_regsBut : (s.ctrlStored data).regsBut s [R.SYS_LOCK 0, R.SAFE_CTRL] :=
  State.regsBut_trans (State.regsBut_mono (s.armLock_regsBut 0) (by simp)) (State.wr_regsBut _ _ (by simp))

theorem State.ctrlStored_cvn : (s.ctrlStored data).cvn = s.cvn := rfl
theorem State.ctrlStored_log : (s.ctrlStored data).log = s.log := rfl

theorem State.ctrlStored_lock : (s.ctrlStored data).rd (R.SYS_LOCK 0) = (s.armLock 0).rd (R.SYS_LOCK 0) := State.rd_wr_ne _ _ (by decide)

theorem exec_forceQuiet_zero : exec (.forceQuiet 0 data) s = .next (s.safeCtrl 0 data) := rfl
theorem exec_yarrowResume_zero :
    exec (.yarrowResume 0 data) s = .next (s.safeCtrl 0 (fset F.SAFE_CTRL_YARROW_CONT data 1)) := rfl

theorem State.safeCtrl_own (h : s.unlocked 0 = true) : s.safeCtrl 0 data =
    (if bitAt data 0 then (s.ctrlStored data).quiet 13 else (s.ctrlStored data).quietOver 13).yarrowOn data := by
  rw [State.safeCtrl, State.guarded_unlocked s _ _ data _ h]
  rfl

variable {s data}

theorem Does.forceQuiet (h : s.unlocked 0 = true) (hd : bitAt data 0 = true) (hl : nbit (s.fld R.SAFE_CAUSE F.SAFE_CAUSE_LIVE) 13 = false)
    (ho : s.cvn.open_ = []) (hs : s.cvn.sess = []) (hb : s.log.bad = []) : Does (.forceQuiet 0 data) s (fun t => t.inQuiet = true ∧
      nbit (t.fld R.SAFE_CAUSE F.SAFE_CAUSE_LATCHED) 13 = true ∧ nbit (t.fld R.SAFE_CAUSE F.SAFE_CAUSE_LIVE) 13 = true ∧
      t.safe.dacMuted = true ∧ t.feTxen = 0 ∧ (∀ u ∈ t.air, u.ended = true ∨ u.cut = true) ∧ t.unlocked 0 = false) := by
  have hv : nbit ((s.ctrlStored data).fld R.SAFE_CAUSE F.SAFE_CAUSE_LIVE) 13 = false := by
    rw [State.fld_of_regsBut (s.ctrlStored_regsBut data) (by decide)]
    exact hl
  have e := State.quiet_new hv (s.ctrlStored_cvn data ▸ ho) (s.ctrlStored_cvn data ▸ hs) (s.ctrlStored_log data ▸ hb)
  have hq := (s.ctrlStored data).quietReport_quiet (c := 13) (by decide)
  have hr := (s.ctrlStored data).quietReport_regsBut 13
  generalize (((s.ctrlStored data).quietLatch 13).quietReport 13).1 = t at e hq hr
  have hy := t.yarrowOn_regsBut data
  have hlit := t.yarrowOn_lit data
  have hair : (t.yarrowOn data).air = t.air := by rw [hlit]
  have htime : (t.yarrowOn data).cityNs = t.cityNs := by rw [hlit]; rfl
  refine Does.of_next ((exec_forceQuiet_zero s data).trans (congrArg _ ((s.safeCtrl_own data h).trans ((congrArg (State.yarrowOn · data)
    ((if_pos hd).trans e)))))) ⟨?_, ?_, ?_, ?_, ?_, ?_, ?_⟩
  · exact (State.flag_of_regsBut hy (by decide) _).trans hq.inQuiet
  · rw [State.fld_of_regsBut hy (by decide)]
    exact hq.latched
  · rw [State.fld_of_regsBut hy (by decide)]
    exact hq.live (by decide) (by decide)
  · exact (congrArg (·.safe.dacMuted) hlit).trans hq.muted
  · refine State.feTxen_of_over (fun u hu => ?_) ((congrArg (·.rf.txOff) hlit).trans hq.txOff)
    rw [htime]
    exact hq.silent u (hair ▸ hu)
  · exact fun u hu => hq.ended u (hair ▸ hu)
  · exact State.armLock_locked (s := s) ((hy _ (by decide)).trans ((hr _ (by decide)).trans (s.ctrlStored_lock data)))

theorem Does.yarrowResume (h : s.unlocked 0 = true) (hd : bitAt data 0 = false) : Does (.yarrowResume 0 data) s (fun t =>
    t.flag R.SAFE_YARROW F.SAFE_YARROW_PAUSED = false ∧ t.flag R.SAFE_CTRL F.SAFE_CTRL_YARROW_CONT = true ∧
    t.fld R.SAFE_CAUSE F.SAFE_CAUSE_LIVE = clrNbit (s.fld R.SAFE_CAUSE F.SAFE_CAUSE_LIVE) 13 % 2 ^ F.SAFE_CAUSE_LIVE.w ∧
    t.unlocked 0 = false) := by
  generalize hdef : fset F.SAFE_CTRL_YARROW_CONT data 1 = d
  have hc : fget F.SAFE_CTRL_YARROW_CONT d = 1 := by rw [← hdef, fget_fset _ _ _ (by decide)]; rfl
  have h0 : bitAt d 0 = false := by
    rw [bitAt_eq_fget] at hd ⊢
    rw [← hdef, fget_fset_below F.SAFE_CTRL_YARROW_CONT ⟨0, 1⟩ _ _ (by decide) (by decide)]
    exact hd
  have h1 : bitAt d 1 = true := by
    rw [bitAt_eq_fget]
    exact decide_eq_true hc
  have hv := s.ctrlStored_regsBut d
  have hr := (s.ctrlStored d).quietOver_regsBut 13
  have hy := ((s.ctrlStored d).quietOver 13).yarrowOn_regsBut d
  have hl : (s.ctrlStored d).fld R.SAFE_CAUSE F.SAFE_CAUSE_LIVE = s.fld R.SAFE_CAUSE F.SAFE_CAUSE_LIVE := State.fld_of_regsBut hv (by decide) _
  have hk : (s.ctrlStored d).rd R.SAFE_CTRL = d &&& 3 := State.rd_wr ..
  have e : exec (.yarrowResume 0 data) s = .next (((s.ctrlStored d).quietOver 13).yarrowOn d) := by
    rw [exec_yarrowResume_zero, hdef, s.safeCtrl_own d h, h0]
    rfl
  refine Does.of_next e ⟨State.yarrowOn_resumed _ d h1, ?_, ?_, ?_⟩
  · rw [State.flag_of_regsBut hy (by decide), State.flag_of_regsBut hr (by decide), State.flag, State.fld, hk, fget_mask d (by decide), hc]
    decide
  · rw [State.fld_of_regsBut hy (by decide), State.quietOver_live, hl]
  · exact State.armLock_locked (s := s) ((hy _ (by decide)).trans ((hr _ (by decide)).trans (s.ctrlStored_lock d)))

end

section
variable (s : State) (p : Part) (data : Word)

theorem exec_forceQuiet_arm : exec (.forceQuiet p data) s = .next (s.safeCtrl p data) := rfl

theorem Does.forceQuiet_other (h : s.unlocked p = true) (hp : p.val ≠ 0) : Does (.forceQuiet p data) s (fun t =>
    t.flag R.SAFE_ERR F.SAFE_ERR_PART_WRITE = true ∧ t.regsBut s [R.SAFE_ERR, R.SYS_LOCK p]) := by
  have e : s.safeCtrl p data = (s.armLock p).err R.SAFE_ERR F.SAFE_ERR_PART_WRITE := by
    rw [State.safeCtrl, State.guarded_unlocked s _ _ data _ h, if_pos hp]
  refine Does.of_next ((exec_forceQuiet_arm s p data).trans (congrArg _ e)) ⟨State.flag_err _ _ (by decide) (by decide), ?_⟩
  exact State.regsBut_trans (State.regsBut_mono (s.armLock_regsBut p) (by simp)) (State.setFld_regsBut _ _ 1 (by simp))

theorem exec_forceQuiet_armed (h : s.unlocked p = false) :
    exec (.forceQuiet p data) s = .next (s.guardViolation p (w32 R.SAFE_CTRL) false data) :=
  congrArg _ (State.guarded_armed s p _ data _ h)

end

/-! ### The island's checks (R372 to R374) -/

section
variable {s : State} {a : Fin 4} {txen dac : Bool}

theorem exec_outputMonitor_arm (s : State) (a : Fin 4) (txen dac : Bool) : exec (.outputMonitor a txen dac) s = execOutputMonitor a txen dac s := rfl

theorem exec_outputMonitor_allowed (h : s.outputAllowed a txen dac = true) : exec (.outputMonitor a txen dac) s = .next s := by
  rw [exec_outputMonitor_arm, execOutputMonitor, if_pos h]

theorem exec_outputMonitor_quiet (h : s.outputAllowed a txen dac = false) (hq : s.inQuiet = true) :
    exec (.outputMonitor a txen dac) s = .next ((s.quiet 4).escalate 4) := by
  rw [exec_outputMonitor_arm, execOutputMonitor, if_neg (by simp [h]), if_pos hq]

theorem exec_outputMonitor_stray (h : s.outputAllowed a txen dac = false) (hq : s.inQuiet = false) :
    exec (.outputMonitor a txen dac) s = .next (s.quiet 4) := by
  rw [exec_outputMonitor_arm, execOutputMonitor, if_neg (by simp [h]), if_neg (by simp [hq])]

theorem exec_beaconCheck_arm (s : State) (id : Nat) : exec (.beaconCheck id) s = execBeaconCheck id s := rfl

theorem exec_beaconCheck_none {id : Nat} (h : s.air = []) : exec (.beaconCheck id) s = .next s := by
  rw [exec_beaconCheck_arm, execBeaconCheck, h]
  rfl

theorem exec_beaconCheck_missing {id : Nat} {u : AirTx} (h : s.air = [u]) (hi : u.id = id) (hk : u.kind = 1) (he : u.ended = false)
    (hc : u.cut = false) : exec (.beaconCheck id) s = .next ((s.elapse (nsTicks (u.tEnd + 1000 - s.cityNs))).quiet 7) := by
  have hf : s.air.find? (fun t => t.id = id && t.kind = 1 && !t.ended && !t.cut) = some u := by
    rw [h, List.find?_cons_of_pos (by simp [hi, hk, he, hc])]
  rw [exec_beaconCheck_arm, execBeaconCheck, hf]

end

section
variable {s : State} {lock : Bool} {k3 k4 : Int}

theorem exec_clockCheck_arm (s : State) (lock : Bool) (k3 k4 : Int) : exec (.clockCheck lock k3 k4) s = execClockCheck lock k3 k4 s := rfl

/-- The health flag of good clocks, and since when they are. -/
def State.clockShown (s : State) (t : Nat) : State :=
  ({ s with safe := { s.safe with clockGoodSince := some t } } : State).setFld R.SAFE_HEALTH F.SAFE_HEALTH_CLOCK_OK 1

theorem State.clockShown_regsBut (t : Nat) : (s.clockShown t).regsBut s [R.SAFE_HEALTH] :=
  fun _ hk => State.rd_setFld_ne _ _ _ (fun e => hk (by simp [e]))

theorem State.clockShown_ok (t : Nat) : (s.clockShown t).flag R.SAFE_HEALTH F.SAFE_HEALTH_CLOCK_OK = true :=
  State.flag_err _ _ (by decide) (by decide)

theorem State.clockShown_now (t : Nat) : (s.clockShown t).now = s.now := State.setFld_now ..
theorem State.clockShown_safe (t : Nat) : (s.clockShown t).safe = { s.safe with clockGoodSince := some t } := State.setFld_safe ..

theorem State.setFld_onlyRegs (x : SafeSt) (k : Nat) (f : Fld) (v : Nat) :
    (({ s with safe := x } : State).setFld k f v).onlyRegs { s with safe := x } := rfl

section
variable (h : clockGood lock k3 k4 = true)
include h

theorem exec_clockCheck_good (s : State) : exec (.clockCheck lock k3 k4) s = .next (let t := s.safe.clockGoodSince.getD s.now
    if t + sec 1 ≤ (s.clockShown t).now then (s.clockShown t).quietOver 3 else s.clockShown t) := by
  rw [exec_clockCheck_arm, execClockCheck, if_pos h]
  unfold State.clockShown
  dsimp only

theorem Does.clockCheck_ends {u : Nat} (hu : s.safe.clockGoodSince = some u) (hn : u + sec 1 ≤ s.now) :
    Does (.clockCheck lock k3 k4) s (fun t => t.flag R.SAFE_HEALTH F.SAFE_HEALTH_CLOCK_OK = true ∧
      t.fld R.SAFE_CAUSE F.SAFE_CAUSE_LIVE = clrNbit (s.fld R.SAFE_CAUSE F.SAFE_CAUSE_LIVE) 3 % 2 ^ F.SAFE_CAUSE_LIVE.w ∧
      t.regsBut s [R.SAFE_HEALTH, R.SAFE_CAUSE]) := by
  have e : exec (.clockCheck lock k3 k4) s = .next ((s.clockShown u).quietOver 3) := by
    have hd : u + sec 1 ≤ (s.clockShown u).now := by rw [s.clockShown_now]; exact hn
    rw [exec_clockCheck_good h s, hu, Option.getD_some]
    dsimp only
    rw [if_pos hd]
  have hr := (s.clockShown u).quietOver_regsBut 3
  refine Does.of_next e ⟨(State.flag_of_regsBut hr (by decide) _).trans (s.clockShown_ok u), ?_, ?_⟩
  · rw [State.quietOver_live, State.fld_of_regsBut (s.clockShown_regsBut u) (by decide)]
  · exact State.regsBut_trans (State.regsBut_mono (s.clockShown_regsBut u) (by simp)) (State.regsBut_mono hr (by simp))

theorem Does.clockCheck_begins (hu : s.safe.clockGoodSince = none) : Does (.clockCheck lock k3 k4) s (fun t =>
    t.safe = { s.safe with clockGoodSince := some s.now } ∧ t.onlyKeys { s with safe := t.safe } [R.SAFE_HEALTH]) := by
  have e : exec (.clockCheck lock k3 k4) s = .next (s.clockShown s.now) := by
    have hd : ¬s.now + sec 1 ≤ (s.clockShown s.now).now := by rw [s.clockShown_now, sec]; omega
    rw [exec_clockCheck_good h s, hu, Option.getD_none]
    dsimp only
    rw [if_neg hd]
  refine Does.of_next e ⟨s.clockShown_safe s.now, ?_⟩
  rw [s.clockShown_safe]
  exact ⟨State.setFld_onlyRegs _ _ _ _, fun k hk => (s.clockShown_regsBut s.now k hk).trans (State.rd_of_regs rfl k)⟩

end

theorem exec_clockCheck_bad (h : lock = false ∨ 20000 < k3.natAbs ∨ 20000 < k4.natAbs) : exec (.clockCheck lock k3 k4) s =
    .next ((({ s with safe := { s.safe with clockGoodSince := none } } : State).setFld R.SAFE_HEALTH F.SAFE_HEALTH_CLOCK_OK 0).quiet 3) := by
  have hg : clockGood lock k3 k4 = false := by
    simp only [clockGood, Bool.and_eq_false_iff, decide_eq_false_iff_not, Nat.not_le]
    tauto
  rw [exec_clockCheck_arm, execClockCheck, if_neg (by simp [hg])]

theorem exec_timePlausibilityCheck_arm (s : State) (ppm : Nat) : exec (.timePlausibilityCheck ppm) s = execTimePlausibilityCheck ppm s := rfl

theorem exec_timePlausibilityCheck_bad {ppm : Nat} (hr : s.running = true) (hp : 2000 < ppm) :
    exec (.timePlausibilityCheck ppm) s = .next ((s.setFld R.SAFE_HEALTH F.SAFE_HEALTH_TIME_OK 0).quiet 8) := by
  rw [exec_timePlausibilityCheck_arm, execTimePlausibilityCheck, if_pos (by simp [hr, hp])]

/-- A health flag that shows good ends its cause. -/
theorem State.healthGood {f : Fld} (c : Nat) (hf : f.lo + f.w ≤ 32) (hw : 0 < f.w) :
    ((s.setFld R.SAFE_HEALTH f 1).quietOver c).flag R.SAFE_HEALTH f = true ∧
    ((s.setFld R.SAFE_HEALTH f 1).quietOver c).regsBut s [R.SAFE_HEALTH, R.SAFE_CAUSE] := by
  have hr := (s.setFld R.SAFE_HEALTH f 1).quietOver_regsBut c
  refine ⟨(State.flag_of_regsBut hr (by decide) _).trans (State.flag_err _ _ hf hw), ?_⟩
  exact State.regsBut_trans (State.setFld_regsBut s f 1 (by simp)) (State.regsBut_mono hr (by simp))

theorem Does.timePlausibilityCheck {ppm : Nat} (h : s.running = false ∨ ppm ≤ 2000) : Does (.timePlausibilityCheck ppm) s (fun t =>
    t.flag R.SAFE_HEALTH F.SAFE_HEALTH_TIME_OK = true ∧ t.regsBut s [R.SAFE_HEALTH, R.SAFE_CAUSE]) := by
  have e : exec (.timePlausibilityCheck ppm) s = .next ((s.setFld R.SAFE_HEALTH F.SAFE_HEALTH_TIME_OK 1).quietOver 8) := by
    rw [exec_timePlausibilityCheck_arm, execTimePlausibilityCheck, if_neg (by rcases h with h | h <;> simp [h])]
  exact Does.of_next e (State.healthGood 8 (by decide) (by decide))

theorem Does.islandSelfCheck (s : State) : Does (.islandSelfCheck true) s (fun t => t.flag R.SAFE_HEALTH F.SAFE_HEALTH_ISLAND_OK = true ∧
    nbit (t.fld R.SAFE_CAUSE F.SAFE_CAUSE_LIVE) 15 = false ∧ t.regsBut s [R.SAFE_HEALTH, R.SAFE_CAUSE]) := by
  have e : exec (.islandSelfCheck true) s = .next ((s.setFld R.SAFE_HEALTH F.SAFE_HEALTH_ISLAND_OK 1).quietOver 15) := rfl
  obtain ⟨hf, hr⟩ := State.healthGood (s := s) (f := F.SAFE_HEALTH_ISLAND_OK) 15 (by decide) (by decide)
  refine Does.of_next e ⟨hf, ?_, hr⟩
  rw [State.quietOver_live, nbit_mod _ (by decide), nbit_clrNbit_same]

theorem exec_islandSelfCheck_bad (s : State) :
    exec (.islandSelfCheck false) s = .next ((s.setFld R.SAFE_HEALTH F.SAFE_HEALTH_ISLAND_OK 0).quiet 15) := rfl

end

/-- Settles O50: the exit clears what stood once its record stands, a cause that appears latches, mutes and cuts, and each check shows its
health and ends or begins its cause. -/
theorem quietIsEnteredAndLeft : Obligations.QuietIsEnteredAndLeft := by
  intro s c p data id ppm a txen dac lock k3 k4
  exact ⟨exec_quietExit_other, exec_quietExit_idle, exec_quietExit_stale, exec_quietExit_live, Does.quietExit,
    fun _ => exec_quietEscalation_due, exec_quietEscalation_none, Does.forceQuiet, Does.yarrowResume,
    Does.forceQuiet_other s p data, exec_forceQuiet_armed s p data, exec_outputMonitor_allowed, exec_outputMonitor_quiet,
    exec_outputMonitor_stray, exec_beaconCheck_none, fun _ => exec_beaconCheck_missing,
    fun _ hg hu hn => Does.clockCheck_ends hg hu hn, fun hg hu => Does.clockCheck_begins hg hu, exec_clockCheck_bad,
    exec_timePlausibilityCheck_bad, Does.timePlausibilityCheck, Does.islandSelfCheck s, exec_islandSelfCheck_bad s⟩

end Sys2Proof.Machine
end
section
/-! ## O51: core pairs, memory errors and the two logs (R371, R375, R386 to R389) -/
set_option Elab.async false
namespace Sys2Proof.Machine

/-! ### A pair restarts (R375) -/

/-- The pair as it goes down, before its record. -/
def State.pairDown (s : State) (i : Nat) : State :=
  let s2 := s.setFld R.SAFE_HEALTH F.SAFE_HEALTH_PAIR_OK (clrNbit (s.fld R.SAFE_HEALTH F.SAFE_HEALTH_PAIR_OK) i)
  let s3 := { s2 with safe := { s2.safe with
    restarting := s2.safe.restarting.filter (· ≠ i) ++ [i]
    droverLapse := s2.safe.droverLapse || i == 3 } }
  s3.bump R.SAFE_CNT_PAIRRESTART

section
variable (s : State) (i why : Nat)

theorem State.pairRestart_idle (h : s.cmds = []) : s.pairRestart i why = (s.pairDown i).ledger 0x0022 i (w32 why) 0 0 := by
  unfold State.pairRestart
  dsimp only
  rw [h, List.filter_nil, List.foldl_nil]
  rfl

/-- A command of the pair completes FLUSHED first. -/
def State.flushed (s : State) (c : CmdDesc) : State := (s.cmdTake c).cmdDone c stFLUSHED [] 0 0

theorem State.pairRestart_one {c : CmdDesc} (h : s.cmds = [c]) (hp : pairOf (c.w0.toNat % 256) = i) :
    s.pairRestart i why = ((s.flushed c).pairDown i).ledger 0x0022 i (w32 why) 0 0 := by
  unfold State.pairRestart
  dsimp only
  rw [h, List.filter_cons_of_pos (by simpa using hp), List.filter_nil, List.foldl_cons, List.foldl_nil]
  rfl

/-- The health bit of the pair. -/
def State.pairShown (s : State) (i : Nat) : State :=
  s.setFld R.SAFE_HEALTH F.SAFE_HEALTH_PAIR_OK (clrNbit (s.fld R.SAFE_HEALTH F.SAFE_HEALTH_PAIR_OK) i)

theorem State.pairDown_rd (k : Nat) (hk : k ≠ R.SAFE_CNT_PAIRRESTART) : (s.pairDown i).rd k = (s.pairShown i).rd k := by
  unfold State.pairDown
  exact (State.rd_bump_ne _ hk).trans (State.rd_of_regs rfl k)

theorem State.pairDown_regsBut : (s.pairDown i).regsBut s [R.SAFE_HEALTH, R.SAFE_CNT_PAIRRESTART] :=
  fun k hk => (s.pairDown_rd i k (fun e => hk (by simp [e]))).trans (State.rd_setFld_ne _ _ _ (fun e => hk (by simp [e])))

theorem State.pairDown_health (hi : i < 4) : nbit ((s.pairDown i).fld R.SAFE_HEALTH F.SAFE_HEALTH_PAIR_OK) i = false := by
  have h : (s.pairDown i).fld R.SAFE_HEALTH F.SAFE_HEALTH_PAIR_OK = (s.pairShown i).fld R.SAFE_HEALTH F.SAFE_HEALTH_PAIR_OK :=
    congrArg (fget _) (s.pairDown_rd i _ (by decide))
  rw [h, State.pairShown, State.fld_setFld _ _ _ _ (by decide), nbit_mod _ hi, nbit_clrNbit_same]

theorem State.pairDown_restarting : (s.pairDown i).safe.restarting = s.safe.restarting.filter (· ≠ i) ++ [i] := by
  unfold State.pairDown
  dsimp only
  rw [State.bump_safe, State.setFld_safe]

theorem State.pairDown_log : (s.pairDown i).log = s.log := by
  unfold State.pairDown
  dsimp only
  rw [State.bump_log, State.setFld_log]

theorem State.pairDown_pass : (s.pairDown i).pass = s.pass := by
  unfold State.pairDown
  dsimp only
  rw [State.bump_pass, State.setFld_pass]

theorem State.pairDown_cmds : (s.pairDown i).cmds = s.cmds := by
  unfold State.pairDown
  dsimp only
  rw [State.bump_cmds, State.setFld_cmds]

end

/-- What the F-die sent last stands in the Pass. -/
theorem State.completed_of_pass {s t : State} {c : CmdDesc} {st x : Nat} {ws : List Word} (h : t.pass = s.pass) (hs : s.completed c st ws x) :
    t.completed c st ws x := by
  have hd : t.txDir .f = s.txDir .f := congrArg PassSt.fh h
  rw [State.completed, State.sent, State.lastSent, hd]
  exact hs

/-- Registers that a pair's restart moves. -/
def pairKeys : List Nat := R.SAFE_CNT_PAIRRESTART :: R.SAFE_CAUSE :: ledgerKeys

/-- A restart whose record stands. -/
structure PairOut (i : Nat) (s t : State) : Prop where
  restarting : t.safe.restarting = s.safe.restarting.filter (· ≠ i) ++ [i]
  health : nbit (t.fld R.SAFE_HEALTH F.SAFE_HEALTH_PAIR_OK) i = false
  regs : t.regsBut s pairKeys
  pass : t.pass = s.pass
  cmds : t.cmds = s.cmds

theorem State.pairDown_out {s : State} (hb : s.log.bad = []) {i : Nat} (hi : i < 4) (why : Nat) :
    PairOut i s ((s.pairDown i).ledger 0x0022 i (w32 why) 0 0) := by
  have h : Recorded (s.pairDown i) ((s.pairDown i).ledger 0x0022 i (w32 why) 0 0) :=
    State.ledger_recorded (by rw [s.pairDown_log, hb]) ..
  refine ⟨?_, ?_, ?_, ?_, ?_⟩
  · exact (congrArg (·.safe.restarting) h.lit).trans (s.pairDown_restarting i)
  · rw [h.health _ (by decide)]
    exact s.pairDown_health i hi
  · exact State.regsBut_trans (State.regsBut_mono (s.pairDown_regsBut i) (by decide)) (State.regsBut_mono h.regs (by decide))
  · exact (congrArg State.pass h.lit).trans (s.pairDown_pass i)
  · exact (congrArg State.cmds h.lit).trans (s.pairDown_cmds i)

section
variable {s : State} {i : Fin 4}

theorem exec_lockstepMismatch_arm (s : State) (i : Fin 4) (sram : Bool) : exec (.lockstepMismatch i sram) s = execLockstepMismatch i sram s := rfl
theorem exec_watchdogExpiry_arm (s : State) (i : Fin 4) : exec (.watchdogExpiry i) s = execWatchdogExpiry i s := rfl

/-- A local SRAM error is counted before the pair restarts (R454). -/
def State.ueCounted (s : State) (sram : Bool) : State := if sram then s.bump R.SYS_CNT_UE else s

theorem exec_lockstepMismatch_pair (s : State) (hi : i ≠ 0) (sram : Bool) : exec (.lockstepMismatch i sram) s =
    .next ((s.ueCounted sram).pairRestart i (if sram then 2 else 0)) := by
  have hv : i.val ≠ 0 := fun h => hi (Fin.ext h)
  rw [exec_lockstepMismatch_arm, execLockstepMismatch]
  dsimp only
  rw [if_neg hv, State.ueCounted]

theorem State.ueCounted_log (s : State) (sram : Bool) : (s.ueCounted sram).log = s.log := by cases sram <;> rfl
theorem State.ueCounted_cmds (s : State) (sram : Bool) : (s.ueCounted sram).cmds = s.cmds := by cases sram <;> rfl
theorem State.ueCounted_safe (s : State) (sram : Bool) : (s.ueCounted sram).safe = s.safe := by cases sram <;> rfl
theorem State.ueCounted_ends (s : State) (sram : Bool) : (s.ueCounted sram).ends = s.ends := by cases sram <;> rfl

theorem State.ueCounted_regsBut (s : State) (sram : Bool) : (s.ueCounted sram).regsBut s [R.SYS_CNT_UE] := by
  cases sram with
  | false => exact State.regsBut_refl s _
  | true => exact State.wr_regsBut s _ (by simp)

variable (hi : i ≠ 0) (hb : s.log.bad = [])
include hi hb

theorem Does.lockstepMismatch_idle (hc : s.cmds = []) (sram : Bool) : Does (.lockstepMismatch i sram) s (fun t =>
    PairOut i (s.ueCounted sram) t) := by
  refine Does.of_next (exec_lockstepMismatch_pair s hi sram) ?_
  rw [State.pairRestart_idle _ _ _ ((s.ueCounted_cmds sram).trans hc)]
  exact State.pairDown_out (by rw [s.ueCounted_log, hb]) i.isLt _

theorem Does.lockstepMismatch_restarts (hc : s.cmds = []) (sram : Bool) : Does (.lockstepMismatch i sram) s (fun t =>
    t.safe.restarting = s.safe.restarting.filter (· ≠ i.val) ++ [i.val] ∧ nbit (t.fld R.SAFE_HEALTH F.SAFE_HEALTH_PAIR_OK) i = false ∧
    t.inQuiet = s.inQuiet) := by
  obtain ⟨t, e, h⟩ := Does.lockstepMismatch_idle hi hb hc sram
  refine ⟨t, e, h.restarting.trans (by rw [s.ueCounted_safe]), h.health, ?_⟩
  exact (State.flag_of_regsBut h.regs (by decide) _).trans (State.flag_of_regsBut (s.ueCounted_regsBut sram) (by decide) _)

theorem Does.lockstepMismatch_counts (hc : s.cmds = []) : Does (.lockstepMismatch i true) s (fun t =>
    t.rd R.SYS_CNT_UE = (s.bump R.SYS_CNT_UE).rd R.SYS_CNT_UE) := by
  obtain ⟨t, e, h⟩ := Does.lockstepMismatch_idle hi hb hc true
  exact ⟨t, e, h.regs _ (by decide)⟩

theorem Does.lockstepMismatch_flushes {c : CmdDesc} (hc : s.cmds = [c]) (hp : pairOf (c.w0.toNat % 256) = i.val) (hl : s.clearFor c = true)
    (sram : Bool) : Does (.lockstepMismatch i sram) s (fun t => t.cmds = [] ∧ t.completed c stFLUSHED [] 0) := by
  refine Does.of_next (exec_lockstepMismatch_pair s hi sram) ?_
  rw [State.pairRestart_one _ _ _ ((s.ueCounted_cmds sram).trans hc) hp]
  have hg : ((s.ueCounted sram).flushed c).log.bad = [] := by
    rw [State.flushed, State.cmdDone_log]
    exact (congrArg LogSt.bad (s.ueCounted_log sram)).trans hb
  have h := State.pairDown_out hg i.isLt (if sram then 2 else 0)
  constructor
  · rw [h.cmds, State.flushed, State.cmdDone_cmds]
    show (s.ueCounted sram).cmds.erase c = []
    rw [s.ueCounted_cmds, hc, List.erase_cons_head]
  · refine State.completed_of_pass h.pass ?_
    refine State.cmdDone_completed ((s.ueCounted sram).cmdTake c) c stFLUSHED [] 0 ?_
    show ((s.ueCounted sram).ends.order.all _) = true
    rw [s.ueCounted_ends]
    exact hl

theorem Does.watchdogExpiry_pair (hc : s.cmds = []) : Does (.watchdogExpiry i) s (fun t =>
    t.safe.restarting = s.safe.restarting.filter (· ≠ i.val) ++ [i.val] ∧ nbit (t.fld R.SAFE_HEALTH F.SAFE_HEALTH_PAIR_OK) i = false) := by
  have e : exec (.watchdogExpiry i) s = .next (s.pairRestart i 1) := by
    have hv : i.val ≠ 0 := fun h => hi (Fin.ext h)
    rw [exec_watchdogExpiry_arm, execWatchdogExpiry, if_neg hv]
  refine Does.of_next e ?_
  rw [State.pairRestart_idle _ _ _ hc]
  have h := State.pairDown_out hb i.isLt 1
  exact ⟨h.restarting, h.health⟩

end

theorem Does.watchdogExpiry_zero {s : State} (h : s.pwr.resetCode = none) : Does (.watchdogExpiry 0) s (fun t =>
    t.pwr.resetCode = some 4 ∧ t.pwr.hush = true ∧ t.feTxen = 0 ∧ t.save.active.isSome = true ∧ t.sent .f = some (0x0F, 0, [4, 0])) := by
  have e : exec (.watchdogExpiry 0) s = .next (s.requestReset 4) := rfl
  exact Does.of_next e ⟨State.requestReset_code h, State.requestReset_hush h, State.requestReset_feTxen h, State.requestReset_active h,
    State.requestReset_sent h⟩

section
variable {s : State} {i : Fin 4}

theorem exec_pairRestartDone_arm (s : State) (i : Fin 4) : exec (.pairRestartDone i) s = execPairRestartDone i s := rfl

theorem exec_pairRestartDone_none (h : s.safe.restarting.contains i.val = false) : exec (.pairRestartDone i) s = .next s := by
  rw [exec_pairRestartDone_arm, execPairRestartDone, if_pos (by rw [h]; rfl)]

/-- The pair runs again. -/
def State.pairUp (s : State) (i : Nat) : State :=
  let s1 : State := { s with safe := { s.safe with restarting := s.safe.restarting.filter (· ≠ i) } }
  s1.setFld R.SAFE_HEALTH F.SAFE_HEALTH_PAIR_OK (setNbit (s1.fld R.SAFE_HEALTH F.SAFE_HEALTH_PAIR_OK) i)

theorem State.pairUp_safe (i : Nat) : (s.pairUp i).safe = { s.safe with restarting := s.safe.restarting.filter (· ≠ i) } := State.setFld_safe ..

theorem Does.pairRestartDone (h : s.safe.restarting.contains i.val = true) : Does (.pairRestartDone i) s (fun t =>
    t.safe = { s.safe with restarting := s.safe.restarting.filter (· ≠ i.val) } ∧ nbit (t.fld R.SAFE_HEALTH F.SAFE_HEALTH_PAIR_OK) i = true ∧
    t.regsBut s [R.SAFE_HEALTH]) := by
  have e : exec (.pairRestartDone i) s = .next (s.pairUp i) := by
    rw [exec_pairRestartDone_arm, execPairRestartDone, if_neg (by rw [h]; decide)]
    rfl
  refine Does.of_next e ⟨s.pairUp_safe i, ?_, fun k hk => State.rd_setFld_ne _ _ _ (fun e => hk (by simp [e]))⟩
  rw [State.pairUp, State.fld_setFld _ _ _ _ (by decide)]
  exact nbit_setNbit _ i.isLt

end

/-! ### Memory errors (R371) -/

theorem exec_memoryUe (s : State) (u : UeStore) :
    exec (.memoryUe u) s = .next (((s.bump R.SYS_CNT_UE).ledger 0x0034 (s.ueRow u).1 (w32 (s.ueRow u).2) 0 0).ueEffect u) := rfl

/-- An error of the MRAM has no effect beside its record. -/
theorem Does.memoryUe_mram {s : State} (a : _) (hb : s.log.bad = []) : Does (.memoryUe (.mram a)) s (fun t =>
    t.rd R.SYS_CNT_UE = (s.bump R.SYS_CNT_UE).rd R.SYS_CNT_UE ∧ t.rd R.LOG_LNEXT = s.rd R.LOG_LNEXT + 1 ∧ t.inQuiet = s.inQuiet) := by
  have h : Recorded (s.bump R.SYS_CNT_UE) ((s.bump R.SYS_CNT_UE).ledger 0x0034 (s.ueRow (.mram a)).1 (w32 (s.ueRow (.mram a)).2) 0 0) :=
    State.ledger_recorded (by rw [State.bump_log, hb]) ..
  have hk : (s.bump R.SYS_CNT_UE).regsBut s [R.SYS_CNT_UE] := State.wr_regsBut s _ (by simp)
  refine Does.of_next (exec_memoryUe s _) ⟨h.regs _ (by decide), ?_, ?_⟩
  · exact h.next.trans (congrArg (· + 1) (hk _ (by decide)))
  · exact h.inQuiet.trans (State.flag_of_regsBut hk (by decide) _)

/-! ### Held records go into the ring (R388, R389) -/

/-- What the storing of records leaves: everything but the ring, the Ledger's health, cause 9 and the time since which a cause is live. -/
structure Stored (s t : State) : Prop where
  log : t.log = { s.log with ledger := t.log.ledger }
  regs : t.regsBut s [R.SAFE_HEALTH, R.SAFE_CAUSE]
  now : t.now = s.now

theorem Stored.refl (s : State) : Stored s s := ⟨rfl, State.regsBut_refl s _, rfl⟩

theorem Stored.trans {s t u : State} (h : Stored s t) (h2 : Stored t u) : Stored s u :=
  ⟨by rw [h2.log, h.log], State.regsBut_trans h.regs h2.regs, h2.now.trans h.now⟩

section
variable (s : State) (hb : s.log.bad = []) (r : List Word)
include hb

/-- The ring with a record at its index, and the health that shows it. -/
theorem State.ledgerStore_good : s.ledgerStore r =
    (({ s with log := { s.log with ledger := aset [] ((wordAt r 0).toNat % 16384) r s.log.ledger } } : State).setFld R.SAFE_HEALTH
      F.SAFE_HEALTH_LEDGER_OK 1, true) := by
  unfold State.ledgerStore
  dsimp only
  rw [if_neg (by simp [hb])]

theorem State.ledgerStore_stored : Stored s ((s.ledgerStore r).1.quietOver 9) := by
  have hr := (s.ledgerStore r).1.quietOver_regsBut 9
  have hl : ((s.ledgerStore r).1.quietOver 9).log = (s.ledgerStore r).1.log := by rw [State.quietOver_lit]
  have hn : ((s.ledgerStore r).1.quietOver 9).now = s.now := by rw [State.quietOver_lit, State.ledgerStore_lit]
  refine ⟨?_, ?_, hn⟩
  · rw [hl, s.ledgerStore_good hb r]
    dsimp only
    rw [State.setFld_log]
  · exact State.regsBut_trans (State.regsBut_mono (s.ledgerStore_regsBut r) (by simp)) (State.regsBut_mono hr (by simp))

end

/-- One record of the FIFO: its write and what that ends. -/
def storeOne (x : State × Bool × Bool) (r : List Word) : State × Bool × Bool :=
  let (t, ok) := x.1.ledgerStore r
  (if ok then t.quietOver 9 else t, x.2.1 || !ok, ok)

theorem storeOne_good {s : State} (hb : s.log.bad = []) (last : Bool) (r : List Word) :
    storeOne (s, false, last) r = ((s.ledgerStore r).1.quietOver 9, false, true) := by
  have h : (s.ledgerStore r).2 = true := by rw [s.ledgerStore_good hb r]
  simp [storeOne, h]

theorem storeOne_foldl (rs : List (List Word)) : ∀ (s : State) (last : Bool), s.log.bad = [] →
    ∃ t last', rs.foldl storeOne (s, false, last) = (t, false, last') ∧ Stored s t := by
  induction rs with
  | nil => exact fun s last _ => ⟨s, last, rfl, .refl s⟩
  | cons r rs ih =>
    intro s last hb
    have h1 := s.ledgerStore_stored hb r
    have hb1 : ((s.ledgerStore r).1.quietOver 9).log.bad = [] := by rw [h1.log]; exact hb
    obtain ⟨t, last', e, h2⟩ := ih ((s.ledgerStore r).1.quietOver 9) true hb1
    exact ⟨t, last', by rw [List.foldl_cons, storeOne_good hb]; exact e, h1.trans h2⟩

theorem State.storeAll_stored {s : State} (hb : s.log.bad = []) (rs : List (List Word)) : Stored s (s.storeAll rs) := by
  obtain ⟨t, last, e, h⟩ := storeOne_foldl rs s true hb
  have e2 : s.storeAll rs = t := by
    show (let (s1, bad, last) := rs.foldl storeOne (s, false, true)
      if !bad then s1 else if last then s1.quietLedger.quietOver 9 else s1.quietLedger) = t
    rw [e]
    rfl
  exact e2 ▸ h

/-- The FIFO emptied, before its records are stored. -/
def State.fifoTaken (s : State) : State := ({ s with log := { s.log with fifo := [] } } : State).fifoSync

theorem State.fifoTaken_log (s : State) : s.fifoTaken.log = { s.log with fifo := [] } := State.setFld_log ..
theorem State.fifoTaken_now (s : State) : s.fifoTaken.now = s.now := State.setFld_now ..

theorem State.fifoTaken_regsBut (s : State) : s.fifoTaken.regsBut s [R.LOG_LFIFO] :=
  fun _ hk => State.rd_setFld_ne _ _ _ (fun e => hk (by simp [e]))

section
variable {s : State} (hb : s.log.bad = [])
include hb

theorem State.fifoDrain_stored : Stored s.fifoTaken s.fifoDrain := State.storeAll_stored (by rw [s.fifoTaken_log]; exact hb) _

theorem State.fifoDrain_log : s.fifoDrain.log = { s.log with fifo := [], ledger := s.fifoDrain.log.ledger } := by
  rw [(State.fifoDrain_stored hb).log, s.fifoTaken_log]

theorem State.fifoDrain_regsBut : s.fifoDrain.regsBut s [R.LOG_LFIFO, R.SAFE_HEALTH, R.SAFE_CAUSE] :=
  State.regsBut_trans (State.regsBut_mono s.fifoTaken_regsBut (by simp)) (State.regsBut_mono (State.fifoDrain_stored hb).regs (by simp))

theorem State.fifoDrain_now : s.fifoDrain.now = s.now := (State.fifoDrain_stored hb).now.trans s.fifoTaken_now

end

/-! ### The Ledger freezes, thaws and drains (R389) -/

section
variable (s : State) (p : Part)

theorem exec_ledgerFreeze_zero : exec (.ledgerFreeze 0) s = .next (s.lctrlWrite 0 1) := rfl
theorem exec_ledgerUnfreeze_zero : exec (.ledgerUnfreeze 0) s = .next (s.lctrlWrite 0 0) := rfl
theorem exec_ledgerFreeze_arm : exec (.ledgerFreeze p) s = .next (s.lctrlWrite p 1) := rfl
theorem exec_ledgerUnfreeze_arm : exec (.ledgerUnfreeze p) s = .next (s.lctrlWrite p 0) := rfl
theorem exec_freezeLimitExpiry_arm : exec .freezeLimitExpiry s = execFreezeLimitExpiry s := rfl
theorem exec_ledgerDrainDone_arm : exec .ledgerDrainDone s = execLedgerDrainDone s := rfl

theorem State.lctrlWrite_freeze : s.lctrlWrite 0 1 = if s.log.frozen || s.log.draining then s
    else ({ s with log := { s.log with frozen := true, frozenAt := s.now } } : State).wr R.LOG_LCTRL 3 := by
  rw [State.lctrlWrite, State.only0, if_pos rfl, if_pos (by decide)]

theorem State.lctrlWrite_thaw : s.lctrlWrite 0 0 = s.unfreeze := by
  rw [State.lctrlWrite, State.only0, if_pos rfl, if_neg (by decide)]

theorem Does.ledgerFreeze_other (hp : p.val ≠ 0) :
    Does (.ledgerFreeze p) s (fun t => t.flag R.LOG_ERR F.LOG_ERR_PART_WRITE = true ∧ t.onlyKeys s [R.LOG_ERR]) ∧
    Does (.ledgerUnfreeze p) s (fun t => t.flag R.LOG_ERR F.LOG_ERR_PART_WRITE = true ∧ t.onlyKeys s [R.LOG_ERR]) := by
  have h (d : Word) : s.lctrlWrite p d = s.err R.LOG_ERR F.LOG_ERR_PART_WRITE := State.only0_other s hp ..
  have hf : (s.err R.LOG_ERR F.LOG_ERR_PART_WRITE).flag R.LOG_ERR F.LOG_ERR_PART_WRITE = true := State.flag_err _ _ (by decide) (by decide)
  have hk : (s.err R.LOG_ERR F.LOG_ERR_PART_WRITE).onlyKeys s [R.LOG_ERR] := ⟨rfl, State.setFld_regsBut s _ 1 (by simp)⟩
  exact ⟨Does.of_next ((exec_ledgerFreeze_arm s p).trans (congrArg _ (h 1))) ⟨hf, hk⟩,
    Does.of_next ((exec_ledgerUnfreeze_arm s p).trans (congrArg _ (h 0))) ⟨hf, hk⟩⟩

variable {s}

theorem Does.ledgerFreeze (hf : s.log.frozen = false) (hd : s.log.draining = false) : Does (.ledgerFreeze 0) s (fun t =>
    t.log = { s.log with frozen := true, frozenAt := s.now } ∧ t.rd R.LOG_LCTRL = 3 ∧ t.regsBut s [R.LOG_LCTRL]) := by
  refine Does.of_next ((exec_ledgerFreeze_zero s).trans (congrArg _ (s.lctrlWrite_freeze.trans (if_neg (by simp [hf, hd])))))
    ⟨State.wr_log .., State.rd_wr .., fun k hk => State.rd_wr_ne _ _ (fun e => hk (by simp [e]))⟩

theorem exec_ledgerFreeze_again (h : s.log.frozen = true ∨ s.log.draining = true) : exec (.ledgerFreeze 0) s = .next s :=
  (exec_ledgerFreeze_zero s).trans (congrArg _ (s.lctrlWrite_freeze.trans (if_pos (by simpa using h))))

theorem exec_thaw_none (h : s.log.frozen = false) :
    exec .freezeLimitExpiry s = .next s ∧ exec (.ledgerUnfreeze 0) s = .next s := by
  constructor
  · rw [exec_freezeLimitExpiry_arm, execFreezeLimitExpiry, if_neg (by simp [h])]
  · rw [exec_ledgerUnfreeze_zero, s.lctrlWrite_thaw, State.unfreeze, if_pos (by simp [h])]

/-- The freeze ended. -/
def State.thawed (s : State) : State := { s with log := { s.log with frozen := false } }

/-- The losses of a freeze, reported after the drained records. -/
def State.lossReported (s : State) (first : Word) : State :=
  let s2 : State := { s with log := { s.log with lostCount := 0, lostFirst := 0 } }
  if s.log.lostCount = 0 then s2 else s2.ledgerGap first s.log.lostCount

theorem State.lossReported_none {s : State} (first : Word) (h : s.log.lostCount = 0) :
    s.lossReported first = { s with log := { s.log with lostCount := 0, lostFirst := 0 } } := if_pos h

/-- The FIFO drains until firmware has read it back. -/
def State.drainBegun (s : State) : State := { s with log := { s.log with draining := true } }

theorem State.unfreeze_eq (hf : s.log.frozen = true) : s.unfreeze =
    ((s.thawed.fifoDrain).lossReported s.log.lostFirst).drainBegun.setFld R.LOG_LCTRL F.LOG_LCTRL_FREEZE 0 := by
  rw [State.unfreeze, if_neg (by simp [hf])]
  rfl

/-- The FIFO drained with nothing lost. -/
def State.drained (s : State) : State :=
  let s1 := s.thawed.fifoDrain
  { s1 with log := { s1.log with lostCount := 0, lostFirst := 0, draining := true } }

section
variable (hf : s.log.frozen = true) (hn : s.log.lostCount = 0) (hb : s.log.bad = [])
include hf hn hb

theorem State.unfreeze_drained : s.unfreeze = s.drained.setFld R.LOG_LCTRL F.LOG_LCTRL_FREEZE 0 := by
  have h0 : s.thawed.fifoDrain.log.lostCount = 0 := by
    rw [State.fifoDrain_log (s := s.thawed) hb]
    exact hn
  rw [State.unfreeze_eq hf, State.lossReported_none _ h0]
  rfl

theorem State.unfreeze_log : s.unfreeze.log.frozen = false ∧ s.unfreeze.log.draining = true ∧ s.unfreeze.log.fifo = [] := by
  rw [State.unfreeze_drained hf hn hb, State.setFld_log]
  have h := State.fifoDrain_log (s := s.thawed) hb
  exact ⟨(congrArg LogSt.frozen h).trans rfl, rfl, (congrArg LogSt.fifo h).trans rfl⟩

omit hf hn in
theorem State.drained_regsBut : s.drained.regsBut s [R.LOG_LFIFO, R.SAFE_HEALTH, R.SAFE_CAUSE] :=
  fun k hk => State.fifoDrain_regsBut (s := s.thawed) hb k hk

theorem Does.ledgerUnfreeze : Does (.ledgerUnfreeze 0) s (fun t => t.log.frozen = false ∧ t.log.draining = true ∧ t.log.fifo = [] ∧
    t.flag R.LOG_LCTRL F.LOG_LCTRL_FREEZE = false ∧ t.rd R.LOG_LNEXT = s.rd R.LOG_LNEXT) := by
  obtain ⟨h1, h2, h3⟩ := State.unfreeze_log hf hn hb
  refine Does.of_next ((exec_ledgerUnfreeze_zero s).trans (congrArg _ s.lctrlWrite_thaw)) ⟨h1, h2, h3, ?_, ?_⟩
  · rw [State.unfreeze_drained hf hn hb, State.flag, State.fld_setFld _ _ _ _ (by decide)]
    rfl
  · rw [State.unfreeze_drained hf hn hb, State.rd_setFld_ne _ _ _ (by decide)]
    exact State.drained_regsBut hb _ (by decide)

theorem State.unfreeze_now : s.unfreeze.now = s.now := by
  rw [State.unfreeze_drained hf hn hb, State.setFld_now]
  exact State.fifoDrain_now (s := s.thawed) hb

end

/-- The same once time has passed. -/
theorem State.unfreeze_advanceTo (hf : s.log.frozen = true) (hn : s.log.lostCount = 0) (hb : s.log.bad = []) (u : Nat) :
    let t := (s.advanceTo u).unfreeze
    t.log.frozen = false ∧ t.log.draining = true ∧ t.log.fifo = [] ∧ t.now = max s.now u := by
  rw [← s.advanceTo_log u] at hf hn hb
  obtain ⟨h1, h2, h3⟩ := State.unfreeze_log hf hn hb
  exact ⟨h1, h2, h3, (State.unfreeze_now hf hn hb).trans (State.advanceTo_now ..)⟩

theorem Does.freezeLimitExpiry (hf : s.log.frozen = true) (hn : s.log.lostCount = 0) (hb : s.log.bad = []) :
    Does .freezeLimitExpiry s (fun t => t.log.frozen = false ∧ t.log.draining = true ∧ t.log.fifo = [] ∧
      t.now = max s.now (s.log.frozenAt + ms 100)) := by
  have e : exec .freezeLimitExpiry s = .next (s.advanceTo (s.log.frozenAt + ms 100)).unfreeze := by
    rw [exec_freezeLimitExpiry_arm, execFreezeLimitExpiry, if_pos hf]
  exact Does.of_next e (State.unfreeze_advanceTo hf hn hb _)

/-- The drain is over. -/
def State.drainOver (s : State) : State :=
  let s1 := s.fifoDrain
  { s1 with log := { s1.log with draining := false } }

theorem Does.ledgerDrainDone (hd : s.log.draining = true) (hb : s.log.bad = []) : Does .ledgerDrainDone s (fun t => t.log.draining = false ∧
    t.log.fifo = [] ∧ t.flag R.LOG_LCTRL F.LOG_LCTRL_FROZEN = false ∧
    t.regsBut s [R.LOG_LCTRL, R.LOG_LFIFO, R.SAFE_HEALTH, R.SAFE_CAUSE]) := by
  have e : exec .ledgerDrainDone s = .next (s.drainOver.setFld R.LOG_LCTRL F.LOG_LCTRL_FROZEN 0) := by
    rw [exec_ledgerDrainDone_arm, execLedgerDrainDone, if_neg (by simp [hd])]
    rfl
  have hl := State.fifoDrain_log hb
  have hr : s.drainOver.regsBut s [R.LOG_LFIFO, R.SAFE_HEALTH, R.SAFE_CAUSE] := fun k hk => State.fifoDrain_regsBut hb k hk
  refine Does.of_next e ⟨?_, ?_, ?_, ?_⟩
  · rw [State.setFld_log]
    rfl
  · rw [State.setFld_log]
    exact (congrArg LogSt.fifo hl).trans rfl
  · rw [State.flag, State.fld_setFld _ _ _ _ (by decide)]
    rfl
  · exact State.regsBut_trans (State.regsBut_mono hr (by simp)) (State.setFld_regsBut _ _ _ (by simp))

theorem exec_ledgerDrainDone_none (h : s.log.draining = false) : exec .ledgerDrainDone s = .next s := by
  rw [exec_ledgerDrainDone_arm, execLedgerDrainDone, if_pos (by simp [h])]

end

/-! ### The logs are read (R386) -/

section
variable (s : State) (p : Part)

theorem State.logNext_regsBut (k : Nat) (fi fw : Fld) : (s.logNext k fi fw).regsBut s [k] := by
  unfold State.logNext
  dsimp only
  split
  · exact State.setFld_regsBut s _ _ (by simp)
  · exact State.regsBut_trans (State.setFld_regsBut s fw 0 (by simp)) (State.setFld_regsBut _ _ _ (by simp))

theorem State.logNext_lit (k : Nat) (fi fw : Fld) : s.logNext k fi fw = { s with regs := (s.logNext k fi fw).regs } := by
  unfold State.logNext
  dsimp only
  split <;> rfl

/-- A word is answered, and the window goes on where it may. -/
theorem State.logAnswer (w : Word) (b : Bool) (k : Nat) (fi fw : Fld) :
    let t := if b then (s.answer p w).logNext k fi fw else s.answer p w
    t.reads p = w ∧ t.log = s.log ∧ t.regsBut s [k] := by
  have ha : (s.answer p w).reads p = w := aget_aset_same ..
  have hr : (s.answer p w).regsBut s [k] := State.regsBut_of_regs rfl
  cases b with
  | false => exact ⟨ha, rfl, hr⟩
  | true =>
    have hl := (s.answer p w).logNext_lit k fi fw
    refine ⟨?_, ?_, State.regsBut_trans hr ((s.answer p w).logNext_regsBut k fi fw)⟩
    · exact (congrArg (State.reads · p) hl).trans ha
    · exact (congrArg State.log hl).trans rfl

theorem exec_logDataRead_ledger : exec (.logDataRead p false) s = .next (s.logRead p false) := rfl
theorem exec_logDataRead_trail : exec (.logDataRead p true) s = .next (s.logRead p true) := rfl

theorem Does.logDataRead_ledger : Does (.logDataRead p false) s (fun t => t.reads p = wordAt (aget [] (s.fld (R.LOG_LADDR p)
    F.LOG_LADDR_INDEX) s.log.ledger) (s.fld (R.LOG_LADDR p) F.LOG_LADDR_WORD) ∧ t.log = s.log ∧ t.regsBut s [R.LOG_LADDR p]) :=
  Does.of_next (exec_logDataRead_ledger s p) (s.logAnswer p _ (s.flag (R.LOG_LADDR p) F.LOG_LADDR_AUTOINC) _ _ _)

theorem Does.logDataRead_trail : Does (.logDataRead p true) s (fun t => t.reads p = wordAt (aget [] (s.fld (R.LOG_TADDR p)
    F.LOG_TADDR_INDEX) s.log.trail) (s.fld (R.LOG_TADDR p) F.LOG_TADDR_WORD) ∧ t.log = s.log ∧ t.regsBut s [R.LOG_TADDR p]) :=
  Does.of_next (exec_logDataRead_trail s p) (s.logAnswer p _ (s.flag (R.LOG_TADDR p) F.LOG_TADDR_AUTOINC) _ _ _)

end

/-- Settles O51: while no index of the Ledger fails, a pair's record and a memory error's leave their registers, and held records go into the
ring one by one. -/
theorem pairsMemoriesAndLogs : Obligations.PairsMemoriesAndLogs := by
  refine ⟨fun s c i sram u => ⟨?_, ?_, ?_, rfl, rfl, ?_, Does.watchdogExpiry_zero, Does.pairRestartDone, exec_pairRestartDone_none,
      exec_memoryUe s u, fun a hb => Does.memoryUe_mram a hb⟩,
    fun s p => ⟨Does.ledgerFreeze, exec_ledgerFreeze_again, Does.ledgerFreeze_other s p, Does.ledgerUnfreeze, Does.freezeLimitExpiry,
      exec_thaw_none, Does.ledgerDrainDone, exec_ledgerDrainDone_none, Does.logDataRead_ledger s p, Does.logDataRead_trail s p⟩⟩
  · exact fun hi hc hb => Does.lockstepMismatch_restarts hi hb hc sram
  · exact fun hi hc hp hl hb => Does.lockstepMismatch_flushes hi hb hc hp hl sram
  · exact fun hi hc hb => Does.lockstepMismatch_counts hi hb hc
  · exact fun hi hc hb => Does.watchdogExpiry_pair hi hb hc

end Sys2Proof.Machine
end
section
/-! ## O54: the save, the holdup and the ride-through (R396, R406 to R412) -/
set_option Elab.async false
namespace Sys2Proof.Machine

/-! ### Holdup and the save on the way to VAULT -/

section
variable (s : State)

theorem exec_holdupTrigger_arm : exec .holdupTrigger s = execHoldupTrigger s := rfl
theorem exec_vaultSaveStart_arm : exec .vaultSaveStart s = execVaultSaveStart s := rfl
theorem exec_saveComplete_arm : exec .saveComplete s = execSaveComplete s := rfl
theorem exec_vholdLow_arm : exec .vholdLow s = execVholdLow s := rfl
theorem exec_rideThrough_arm : exec .rideThrough s = execRideThrough s := rfl
theorem exec_vbatLoss_arm : exec .vbatLoss s = execVbatLoss s := rfl

/-- Hush with the save begun, under a holdup. -/
def State.holdupBegun (s : State) : State :=
  let s1 := s.enterHush.startSave
  { s1 with pwr := { s1.pwr with holdup := true, supplyLeft := false } }

variable {s}

theorem exec_holdupTrigger_again (h : s.pwr.holdup = true) : exec .holdupTrigger s = .next s := by
  rw [exec_holdupTrigger_arm, execHoldupTrigger, if_pos h]

theorem Does.holdupTrigger (h : s.pwr.holdup = false) : Does .holdupTrigger s (fun t =>
    (t.pwr.hush = true ∧ t.feTxen = 0 ∧ (∀ u ∈ t.air, u.ended = true ∨ u.cut = true)) ∧ t.pwr.holdup = true ∧ t.pwr.supplyLeft = false ∧
    t.save.active.isSome = true ∧ t.regsBut s [R.PWR_CNT_SAVE]) := by
  have e : exec .holdupTrigger s = .next s.holdupBegun := by
    rw [exec_holdupTrigger_arm, execHoldupTrigger, if_neg (by simp [h])]
    rfl
  refine Does.of_next e ⟨⟨s.hushSave_hush, ?_, s.hushSave_ended⟩, rfl, rfl, State.startSave_active _, s.hushSave_regsBut⟩
  exact State.feTxen_of_cut (s := s) ((State.startSave_air _).trans s.enterHush_air) ((State.startSave_rf _).trans s.enterHush_rf)
    (State.startSave_time _)

theorem State.startSave_new (h : s.save.active = none) :
    s.startSave.save = { s.save with busy := true, ok := false, active := some s.now } := by
  rw [State.startSave, if_neg (by simp [h])]
  rfl

theorem State.startSave_now : s.startSave.now = s.now := s.startSave_only .now (by decide)

theorem Does.vaultSaveStart {u : Nat} (hu : s.pwr.vaultEntry = some u) (ha : s.save.active = none) (ho : s.pwr.vaultOff = false) :
    Does .vaultSaveStart s (fun t => t.save = { s.save with busy := true, ok := false, active := some (max s.now u) } ∧
      t.now = max s.now u ∧ t.regsBut s [R.PWR_CNT_SAVE]) := by
  have e : exec .vaultSaveStart s = .next (s.advanceTo u).startSave := by
    rw [exec_vaultSaveStart_arm, execVaultSaveStart, hu]
    dsimp only
    rw [if_neg (by simp [ha, ho])]
  refine Does.of_next e ⟨?_, State.startSave_now.trans (State.advanceTo_now ..), ?_⟩
  · rw [State.startSave_new (s := s.advanceTo u) (by rw [State.advanceTo_save, ha]), State.advanceTo_now, State.advanceTo_save]
  · exact State.regsBut_trans (State.regsBut_of_regs rfl) (State.startSave_regsBut _)

theorem exec_vaultSaveStart_none (h : s.pwr.vaultEntry = none ∨ s.save.active.isSome = true) : exec .vaultSaveStart s = .next s := by
  rw [exec_vaultSaveStart_arm, execVaultSaveStart]
  cases hu : s.pwr.vaultEntry with
  | none => rfl
  | some u =>
    have ha : s.save.active.isSome = true := h.resolve_left (by simp [hu])
    dsimp only
    rw [if_pos (by rw [ha, Bool.true_or])]

end

/-! ### The save's items (R407) -/

/-- The save's free duration has passed. -/
def State.saveRun (s : State) : State := (s.draw 3001).2.advanceTo (s.save.active.getD s.now + us (s.draw 3001).1)

/-- The time that the save has taken, in µs. -/
def State.saveTime (s : State) : Nat := (s.now - (s.save.active.getD s.now)) / us 1

/-- The counters and the anchor stand. -/
def State.saveAnchored (s : State) (bytes t : Nat) : State :=
  let s1 := s.boundCtrs.foldl State.ctrSave s
  { s1 with save := { s1.save with
    anchorCity := s1.time.city32
    anchorRate := s1.time.rate
    anchorAsn := s1.slot.cur
    anchorServo := s1.servo
    bytes := bytes
    time := t
    anchorValid := true
    lostFirst := s1.log.lostFirst
    lostCount := s1.log.lostCount } }

/-- The record of the save, as it stands or fails. -/
def State.saveRecorded (s : State) (bytes t : Nat) : State :=
  let q := s.rd R.LOG_LNEXT
  let r := logRecord q s.citySec s.cityNsec 0x0060 0 (w32 bytes) (w32 t) 0
  let x := ((s.trail 0x0060 0 (w32 bytes) (w32 t) 0).wr R.LOG_LNEXT (q + 1)).ledgerStore r
  if x.2 then x.1.quietOver 9 else x.1.quietLedger

/-- SAVE_OK stands. -/
def State.saveOver (s : State) (bytes t : Nat) : State :=
  let s5 := s.wr R.PWR_SAVE_STAT (saveStat 1 bytes t)
  { s5 with save := { s5.save with busy := false, ok := true, active := none } }

/-- The items in their order. -/
def State.saveFrom (s : State) (bytes t : Nat) : State := ((s.saveAnchored bytes t).fifoDrain.saveRecorded bytes t).saveOver bytes t

section
variable (s : State)

theorem State.saveItems_eq : s.saveItems = s.saveRun.saveFrom s.saveRun.saveBytes s.saveRun.saveTime := by
  unfold State.saveItems State.saveRun State.saveTime
  dsimp only
  generalize (s.draw 3001).2.advanceTo (s.save.active.getD s.now + us (s.draw 3001).1) = u
  generalize (u.now - u.save.active.getD u.now) / us 1 = t
  generalize u.saveBytes = b
  rfl

theorem State.saveRecorded_within (bytes t : Nat) : Within [.regs, .pass, .host, .safe, .log, .cvn, .cvnIds, .air, .qmg, .rf, .link] s
    (s.saveRecorded bytes t) := by
  have h := State.ledgerStore_within _ (logRecord (s.rd R.LOG_LNEXT) s.citySec s.cityNsec 0x0060 0 (w32 bytes) (w32 t) 0)
    (State.wr_within _ R.LOG_LNEXT (s.rd R.LOG_LNEXT + 1) (State.trail_within s 0x0060 0 (w32 bytes) (w32 t) 0
      (Within.refl [.regs, .pass, .host, .safe, .log, .cvn, .cvnIds, .air, .qmg, .rf, .link] s) rfl) rfl) rfl
  unfold State.saveRecorded
  dsimp only
  exact Within.ite (fun _ => State.quietOver_within _ _ h rfl) (fun _ => State.quietLedger_within _ h rfl)

theorem State.withSave_rd (x : SaveSt) (k : Nat) : ({ s with save := x } : State).rd k = s.rd k := rfl

theorem State.saveOver_save (b t : Nat) : (s.saveOver b t).save = { s.save with busy := false, ok := true, active := none } := by
  unfold State.saveOver
  dsimp only
  rw [State.wr_save]

theorem State.saveOver_stat (b t : Nat) : (s.saveOver b t).rd R.PWR_SAVE_STAT = saveStat 1 b t := by
  unfold State.saveOver
  dsimp only
  rw [State.withSave_rd, State.rd_wr]

/-- Between the anchor and SAVE_OK nothing of the save's own state moves. -/
theorem State.saveFrom_save (b t : Nat) : (s.saveFrom b t).save =
    { (s.saveAnchored b t).save with busy := false, ok := true, active := none } := by
  have h1 (u : State) : u.fifoDrain.save = u.save :=
    (State.fifoDrain_within _ (Within.refl [.regs, .pass, .host, .safe, .log, .cvn, .cvnIds, .air, .qmg, .rf, .link] _) rfl).only .save
      (by decide)
  have h2 (u : State) (b t : Nat) : (u.saveRecorded b t).save = u.save := (u.saveRecorded_within b t).only .save (by decide)
  rw [State.saveFrom, State.saveOver_save, h2, h1]

theorem State.ctrSaves_within (l : List Nat) : Within [.key, .vault] s (l.foldl State.ctrSave s) :=
  Within.foldl (Within.refl _ s) (fun t _ h => State.ctrSave_within t _ h rfl)

theorem State.saveAnchored_asn (b t : Nat) : (s.saveAnchored b t).save.anchorAsn = s.slot.cur :=
  congrArg SlotSt.cur ((s.ctrSaves_within s.boundCtrs).only .slot (by decide))

theorem State.saveAnchored_valid (b t : Nat) : (s.saveAnchored b t).save.anchorValid = true := rfl

theorem State.saveRun_slot : s.saveRun.slot = s.slot := rfl

theorem fget_saveStat (result bytes t : Nat) : fget F.PWR_SAVE_STAT_RESULT (saveStat result bytes t) = result % 4 := by
  simp only [fget, saveStat, w32, BitVec.toNat_ofNat]
  omega

theorem State.saveItems_result : s.saveItems.fld R.PWR_SAVE_STAT F.PWR_SAVE_STAT_RESULT = 1 := by
  rw [s.saveItems_eq, State.saveFrom, State.fld, State.saveOver_stat, fget_saveStat]

theorem State.saveItems_pwr : s.saveItems.pwr = s.pwr :=
  (State.saveItems_within s (Within.refl [.regs, .now, .free, .pass, .host, .time, .safe, .log, .save, .cvn, .cvnIds, .air, .qmg, .rf, .link,
    .key, .vault] s) rfl).only .pwr (by decide)

end

/-! ### The dies as the supplies are taken away (R396, R398) -/

/-- What an F-die reset that holds the die keeps of its power and its keys. -/
def HeldFrom (p : PwrSt) (t : State) : Prop :=
  t.pwr.fHeld = true ∧ t.pwr.vaultOff = p.vaultOff ∧ t.pwr.vaultWake = p.vaultWake ∧ t.pwr.vaultCode = p.vaultCode ∧ t.key.slots = []

theorem State.fDieReset_off (s : State) : HeldFrom s.pwr (s.fDieReset 0 false) := by
  have h : (s.flashCut.fuseCut.hForget).pwr = s.pwr := (State.hForget_within _ (State.fuseCut_within _ (State.flashCut_within _
    (Within.refl [.regs, .free, .host, .eth, .boot, .air, .qmg, .link] s) rfl) rfl) rfl).only .pwr (by decide)
  rw [← h, HeldFrom]
  unfold State.fDieReset
  dsimp only
  rw [if_pos rfl, if_pos rfl, if_neg (by decide)]
  exact ⟨rfl, rfl, Bool.and_true _, rfl, rfl⟩

theorem State.hDieReset_pwr (s : State) : (s.hDieReset false).pwr = { s.pwr with hHeld := true } := by
  have h : (s.freeChain s.qmg.inHand.flatten).pwr = s.pwr :=
    (State.freeChain_within s _ (Within.refl [.regs, .qmg] s) rfl).only .pwr (by decide)
  unfold State.hDieReset
  dsimp only
  rw [← h]
  rfl

theorem State.hDieReset_key (s : State) : (s.hDieReset false).key = s.key :=
  (State.freeChain_within s s.qmg.inHand.flatten (Within.refl [.regs, .qmg] s) rfl).only .key (by decide)

/-- Both dies held. -/
def State.diesOff (s : State) : State := (s.fDieReset 0 false).hDieReset false

theorem State.diesOff_off (s : State) : s.diesOff.pwr.fHeld = true ∧ s.diesOff.pwr.hHeld = true ∧ s.diesOff.key.slots = [] ∧
    s.diesOff.pwr.vaultOff = s.pwr.vaultOff ∧ s.diesOff.pwr.vaultWake = s.pwr.vaultWake ∧ s.diesOff.pwr.vaultCode = s.pwr.vaultCode := by
  obtain ⟨hf, ho, hw, hc, hk⟩ := s.fDieReset_off
  have hp : s.diesOff.pwr = { (s.fDieReset 0 false).pwr with hHeld := true } := State.hDieReset_pwr _
  have hq : s.diesOff.key = (s.fDieReset 0 false).key := State.hDieReset_key _
  rw [hp, hq]
  exact ⟨hf, rfl, hk, ho, hw, hc⟩

/-- The supplies that go with VAULT_OFF: how many is free. -/
theorem State.supplies_f (s : State) : ∃ n, (s.supplies 0 .f).pwr = { s.pwr with fSup := n } := ⟨_, rfl⟩
theorem State.supplies_h (s : State) : ∃ n, (s.supplies 0 .h).pwr = { s.pwr with hSup := n } := ⟨_, rfl⟩
theorem State.supplies_key (s : State) (d : Die) : (s.supplies 0 d).key = s.key :=
  (State.supplies_within s 0 d (Within.refl [.regs, .free, .pwr] s) rfl).only .key (by decide)

/-- VAULT_OFF deasserts the supplies. -/
def State.vaultOffNow (s : State) : State :=
  let s1 : State := { s with pwr := { s.pwr with vaultOff := true } }
  (s1.supplies 0 .f).supplies 0 .h

theorem State.vaultOffNow_pwr (s : State) : ∃ n m, s.vaultOffNow.pwr = { s.pwr with vaultOff := true, fSup := n, hSup := m } := by
  obtain ⟨n, hn⟩ := State.supplies_f { s with pwr := { s.pwr with vaultOff := true } }
  obtain ⟨m, hm⟩ := State.supplies_h (State.supplies { s with pwr := { s.pwr with vaultOff := true } } 0 .f)
  exact ⟨n, m, by rw [State.vaultOffNow]; dsimp only; rw [hm, hn]⟩

theorem State.vaultOffNow_key (s : State) : s.vaultOffNow.key = s.key := (State.supplies_key _ .h).trans (State.supplies_key _ .f)

/-! ### SAVE_COMPLETE (R407, R409) -/

/-- What follows the save's items. -/
def State.saveSettled (s : State) : State :=
  match s.pwr.resetCode with
  | some c =>
    if s.pwr.supplyLeft then s
    else (if s.flag R.PASS_STATUS F.PASS_STATUS_F_RESET || s.pwr.hHeld then s else s.resetReqTake).fDieReset c true
  | none =>
    if s.pwr.vaultEntry.isSome && !s.pwr.holdup then (if s.diesOff.pwr.vaultWake then s.diesOff else s.diesOff.vaultOffNow) else s

section
variable {s : State} (ha : s.save.active.isSome = true)
include ha

theorem exec_saveComplete_runs : exec .saveComplete s = .next s.saveItems.saveSettled := by
  have hn : s.save.active.isNone = false := by rw [Option.isNone_eq_false_iff, ha]
  rw [exec_saveComplete_arm, execSaveComplete, if_neg (by rw [hn]; decide)]
  rfl

theorem exec_saveComplete_holds (hc : s.saveItems.pwr.resetCode = none)
    (h : s.saveItems.pwr.vaultEntry = none ∨ s.saveItems.pwr.holdup = true) : exec .saveComplete s = .next s.saveItems := by
  rw [exec_saveComplete_runs ha, State.saveSettled, hc]
  dsimp only
  rw [if_neg (by rcases h with h | h <;> simp [h])]

theorem exec_saveComplete_resets {k : Nat} (hc : s.saveItems.pwr.resetCode = some k) (hl : s.saveItems.pwr.supplyLeft = false)
    (hf : s.saveItems.flag R.PASS_STATUS F.PASS_STATUS_F_RESET = true) : exec .saveComplete s = .next (s.saveItems.fDieReset k true) := by
  rw [exec_saveComplete_runs ha, State.saveSettled, hc]
  dsimp only
  rw [if_neg (by simp [hl]), if_pos (by rw [hf, Bool.true_or])]

theorem Does.saveComplete_saved (hc : s.pwr.resetCode = none) (hv : s.pwr.vaultEntry = none) : Does .saveComplete s (fun t =>
    t.save.ok = true ∧ t.save.busy = false ∧ t.save.active = none ∧ t.fld R.PWR_SAVE_STAT F.PWR_SAVE_STAT_RESULT = 1 ∧
    t.save.anchorValid = true ∧ t.save.anchorAsn = s.slot.cur) := by
  have e := exec_saveComplete_holds ha (s.saveItems_pwr ▸ hc) (.inl (s.saveItems_pwr ▸ hv))
  have hs : s.saveItems.save = { (s.saveRun.saveAnchored s.saveRun.saveBytes s.saveRun.saveTime).save with
      busy := false, ok := true, active := none } := by
    rw [s.saveItems_eq]
    exact State.saveFrom_save ..
  refine Does.of_next e ?_
  rw [hs]
  refine ⟨rfl, rfl, rfl, s.saveItems_result, s.saveRun.saveAnchored_valid s.saveRun.saveBytes s.saveRun.saveTime, ?_⟩
  · exact (s.saveRun.saveAnchored_asn s.saveRun.saveBytes s.saveRun.saveTime).trans (congrArg SlotSt.cur s.saveRun_slot)

end

theorem Does.saveComplete_vault {s : State} (ha : s.save.active.isSome = true) (hc : s.saveItems.pwr.resetCode = none)
    (hv : s.saveItems.pwr.vaultEntry.isSome = true) (hh : s.saveItems.pwr.holdup = false) (ho : s.saveItems.pwr.vaultOff = false) :
    Does .saveComplete s (fun t => t.pwr.fHeld = true ∧ t.pwr.hHeld = true ∧ t.key.slots = [] ∧
      t.pwr.vaultOff = !s.saveItems.pwr.vaultWake ∧ t.pwr.vaultWake = s.saveItems.pwr.vaultWake ∧
      t.pwr.vaultCode = s.saveItems.pwr.vaultCode) := by
  have e : exec .saveComplete s =
      .next (if s.saveItems.diesOff.pwr.vaultWake then s.saveItems.diesOff else s.saveItems.diesOff.vaultOffNow) := by
    rw [exec_saveComplete_runs ha, State.saveSettled, hc]
    dsimp only
    rw [if_pos (by rw [hv, hh]; rfl)]
  obtain ⟨h1, h2, h3, h4, h5, h6⟩ := s.saveItems.diesOff_off
  refine Does.of_next e ?_
  cases hw : s.saveItems.pwr.vaultWake with
  | true =>
    rw [if_pos (h5.trans hw)]
    exact ⟨h1, h2, h3, h4.trans ho, h5.trans hw, h6⟩
  | false =>
    obtain ⟨n, m, hp⟩ := s.saveItems.diesOff.vaultOffNow_pwr
    rw [if_neg (by rw [h5, hw]; decide), hp, State.vaultOffNow_key]
    exact ⟨h1, h2, h3, rfl, h5.trans hw, h6⟩

/-! ### VHOLD_LOW and a write that fails twice (R388, R409) -/

section
variable {s : State}

/-- What the save has done as VHOLD fails. -/
def State.saveBroken (s : State) : State :=
  let k := (s.draw (s.boundCtrs.length + s.log.fifo.length + 1)).1
  let s2 := (s.boundCtrs.take k).foldl State.ctrSave (s.draw (s.boundCtrs.length + s.log.fifo.length + 1)).2
  s2.storeAll (s2.log.fifo.take (k - s.boundCtrs.length))

/-- The status of a save that did not end, with so many bytes and so many records stored. -/
def State.saveFailed (s : State) (b t n : Nat) : State :=
  let s5 := s.wr R.PWR_SAVE_STAT (saveStat 2 b t)
  { s5 with
    save := { s5.save with active := none }
    log := { s5.log with fifo := s5.log.fifo.drop n } }

theorem State.saveFailed_save (s : State) (b t n : Nat) : (s.saveFailed b t n).save = { s.save with active := none } := by
  unfold State.saveFailed
  dsimp only
  rw [State.wr_save]

theorem State.withSaveLog_rd (s : State) (x : SaveSt) (l : LogSt) (k : Nat) : ({ s with save := x, log := l } : State).rd k = s.rd k := rfl

theorem State.saveFailed_stat (s : State) (b t n : Nat) : (s.saveFailed b t n).rd R.PWR_SAVE_STAT = saveStat 2 b t := by
  unfold State.saveFailed
  dsimp only
  rw [State.withSaveLog_rd, State.rd_wr]

theorem State.saveBroken_save (s : State) : s.saveBroken.save = s.save := by
  have hd := State.draw_within s (s.boundCtrs.length + s.log.fifo.length + 1)
    (Within.refl [.regs, .free, .pass, .host, .safe, .log, .cvn, .cvnIds, .air, .qmg, .rf, .link, .key, .vault] s) rfl
  unfold State.saveBroken
  dsimp only
  exact (State.storeAll_within _ _ (Within.foldl hd (fun t _ h => State.ctrSave_within t _ h rfl)) rfl).only .save (by decide)

theorem State.draw_save (s : State) (n : Nat) : (s.draw n).2.save = s.save := rfl

theorem exec_vholdLow_breaks (ha : s.save.active.isSome = true) : ∃ b t n, exec .vholdLow s =
    .next ((s.saveBroken.draw s.saveBytes).2.saveFailed b t n) := by
  have hn : s.save.active.isNone = false := by rw [Option.isNone_eq_false_iff, ha]
  rw [exec_vholdLow_arm, execVholdLow, if_neg (by rw [hn]; decide)]
  exact ⟨_, _, _, rfl⟩

theorem Does.vholdLow (ha : s.save.active.isSome = true) : Does .vholdLow s (fun t => t.save.active = none ∧ t.save.ok = s.save.ok ∧
    t.fld R.PWR_SAVE_STAT F.PWR_SAVE_STAT_RESULT = 2) := by
  obtain ⟨b, t, n, e⟩ := exec_vholdLow_breaks ha
  refine Does.of_next e ?_
  rw [State.saveFailed_save, State.draw_save, State.saveBroken_save, State.fld, State.saveFailed_stat, fget_saveStat]
  exact ⟨rfl, rfl, rfl⟩

theorem exec_saveEnds_none (h : s.save.active = none) : exec .saveComplete s = .next s ∧ exec .vholdLow s = .next s := by
  constructor
  · rw [exec_saveComplete_arm, execSaveComplete, if_pos (by rw [h]; rfl)]
  · rw [exec_vholdLow_arm, execVholdLow, if_pos (by rw [h]; rfl)]

/-- A held record whose write fails is cause 9. -/
theorem State.storeAll_fails {r : List Word} (hr : (s.ledgerStore r).2 = false) : s.storeAll [r] = (s.ledgerStore r).1.quietLedger := by
  unfold State.storeAll
  rw [List.foldl_cons, List.foldl_nil]
  dsimp only
  rw [hr]
  rfl

theorem State.storeAll_quiet {r : List Word} (hr : (s.ledgerStore r).2 = false)
    (hl : nbit (s.fld R.SAFE_CAUSE F.SAFE_CAUSE_LIVE) 9 = false) (ho : s.cvn.open_ = []) (hs : s.cvn.sess = []) :
    nbit ((s.storeAll [r]).fld R.SAFE_CAUSE F.SAFE_CAUSE_LATCHED) 9 = true ∧ (s.storeAll [r]).inQuiet = true := by
  have hc : (s.ledgerStore r).1.cvn = s.cvn := s.ledgerStore_cvn r
  have hv : nbit ((s.ledgerStore r).1.fld R.SAFE_CAUSE F.SAFE_CAUSE_LIVE) 9 = false := by
    rw [State.fld_of_regsBut (s.ledgerStore_regsBut r) (by decide)]
    exact hl
  have hq := (s.ledgerStore r).1.quietReport_quiet (c := 9) (by decide)
  rw [State.storeAll_fails hr, State.quietLedger_new hv (by rw [hc, ho]) (by rw [hc, hs])]
  exact ⟨hq.latched, hq.inQuiet⟩

end

/-! ### The ride-through (R406, R409) -/

section
variable {s : State}

theorem exec_rideThrough_clear (h : s.pwr.holdup = false) : exec .rideThrough s = .next s := by
  rw [exec_rideThrough_arm, execRideThrough, if_pos (by rw [h]; rfl)]

theorem exec_rideThrough_saving (ha : s.save.active.isSome = true) : exec .rideThrough s = .next s := by
  rw [exec_rideThrough_arm, execRideThrough, if_pos (by rw [ha, Bool.or_true])]

section
variable (h : s.pwr.holdup = true)
include h

variable (ha : s.save.active = none)
include ha

theorem exec_rideThrough_lost (hl : s.pwr.supplyLeft = true) : exec .rideThrough s = .next (s.fDieReset 0 true) := by
  rw [exec_rideThrough_arm, execRideThrough, if_neg (by rw [h, ha]; decide), if_pos hl]

variable (hl : s.pwr.supplyLeft = false)
include hl

theorem exec_rideThrough_unsaved (hk : s.save.ok = false) : exec .rideThrough s = .next s := by
  rw [exec_rideThrough_arm, execRideThrough, if_neg (by rw [h, ha]; decide), if_neg (by rw [hl]; decide), if_pos (by rw [hk]; rfl)]

theorem exec_rideThrough_over (hk : s.save.ok = true) : exec .rideThrough s = .next s.hushOver.thaw := by
  rw [exec_rideThrough_arm, execRideThrough, if_neg (by rw [h, ha]; decide), if_neg (by rw [hl]; decide), if_neg (by rw [hk]; decide)]

end

end

/-- What the choice of a power state leaves of Hush and the holdup. -/
structure HushKept (s t : State) : Prop where
  hush : t.pwr.hush = s.pwr.hush
  island : t.pwr.saveIsland = s.pwr.saveIsland
  holdup : t.pwr.holdup = s.pwr.holdup

theorem HushKept.refl (s : State) : HushKept s s := ⟨rfl, rfl, rfl⟩

theorem HushKept.trans {s t u : State} (h : HushKept s t) (h2 : HushKept t u) : HushKept s u :=
  ⟨h2.hush.trans h.hush, h2.island.trans h.island, h2.holdup.trans h.holdup⟩

theorem HushKept.of_pwr {s t : State} (h : t.pwr = s.pwr) : HushKept s t := ⟨by rw [h], by rw [h], by rw [h]⟩

section
variable (s : State)

theorem State.vaultLeave_hush (k : Nat) : HushKept s (s.vaultLeave k) := by
  unfold State.vaultLeave
  split
  · exact .refl s
  · exact ⟨rfl, rfl, rfl⟩

theorem State.pwrLeave_hush (st cause wake : Nat) : HushKept s (s.pwrLeave st cause wake) := by
  unfold State.pwrLeave
  split
  · split
    · exact .refl s
    · exact s.vaultLeave_hush wake
  · split
    · exact ⟨rfl, rfl, rfl⟩
    · exact ⟨rfl, rfl, rfl⟩

theorem State.pwrMove_pwr (st : Nat) : (s.pwrMove st).pwr = s.pwr := by
  unfold State.pwrMove
  rw [State.setFld_pwr]
  split
  · exact State.setFld_pwr ..
  · rfl

theorem State.pwrTake_hush (st cause wake : Nat) : HushKept s (s.pwrTake st cause wake) := by
  by_cases h : st = s.pwrState
  · rw [State.pwrTake_same s st cause wake h]
    exact .refl s
  · have hp : HushKept s (s.pwrEvent st cause wake) := .of_pwr ((State.evtF_pwr ..).trans (s.pwrMove_pwr st))
    rw [State.pwrTake_other s cause wake h]
    exact ⟨hp.hush, hp.island, hp.holdup⟩

theorem State.latShown_pwr : s.latShown.pwr = s.pwr := State.setFld_pwr ..

theorem State.pwrEval_hush (idle : Bool) (cause wake : Nat) : HushKept s (s.pwrEval idle cause wake) := by
  have h : HushKept s s.latShown := .of_pwr s.latShown_pwr
  unfold State.pwrEval
  rw [← State.latShown]
  dsimp only
  split
  · exact h
  · split
    · exact ⟨h.hush, h.island, h.holdup⟩
    · split
      · exact h.trans (State.pwrLeave_hush ..)
      · split
        · exact ⟨h.hush, h.island, h.holdup⟩
        · exact h.trans (State.pwrTake_hush ..)

theorem State.gateEval_hush : HushKept s s.gateEval := by
  obtain ⟨g, u, n, h⟩ := s.gateEval_kept
  exact ⟨by rw [h], by rw [h], by rw [h]⟩

theorem State.pwrInput_hush (cause : Nat) : HushKept s (s.pwrInput cause) := by
  have h : HushKept s s.latShown := .of_pwr s.latShown_pwr
  unfold State.pwrInput
  rw [← State.latShown]
  dsimp only
  refine HushKept.trans ?_ (State.gateEval_hush _)
  split
  · exact h.trans (State.pwrLeave_hush ..)
  · exact s.pwrEval_hush ..

/-- Hush left, before its status and event. -/
def State.hushCleared (s : State) : State :=
  { s with
    save := { s.save with ok := false }
    safe := { s.safe with dacMuted := s.inQuiet }
    pwr := { s.pwr with
      hush := false
      saveIsland := false
      holdup := false } }

/-- The status and the event of the save's end. -/
def State.hushTold (s : State) (b t : Nat) : State := (s.setFld R.PWR_SAVE_STAT F.PWR_SAVE_STAT_RESULT 3).evtF 9 0 (w32 b) (w32 t) 1

theorem State.hushOver_eq : s.hushOver = (s.hushCleared.hushTold s.save.bytes s.save.time).pwrInput 0 := rfl

theorem State.hushTold_save (b t : Nat) : (s.hushTold b t).save = s.save := (State.evtF_save ..).trans (State.setFld_save ..)
theorem State.hushTold_safe (b t : Nat) : (s.hushTold b t).safe = s.safe := (State.evtF_safe ..).trans (State.setFld_safe ..)
theorem State.hushTold_pwr (b t : Nat) : (s.hushTold b t).pwr = s.pwr := (State.evtF_pwr ..).trans (State.setFld_pwr ..)
theorem State.hushTold_qmg (b t : Nat) : (s.hushTold b t).qmg = s.qmg := (State.evtF_qmg ..).trans (State.setFld_qmg ..)

theorem State.hushTold_result (b t : Nat) : (s.hushTold b t).fld R.PWR_SAVE_STAT F.PWR_SAVE_STAT_RESULT = 3 := by
  have h : (s.hushTold b t).rd R.PWR_SAVE_STAT = (s.setFld R.PWR_SAVE_STAT F.PWR_SAVE_STAT_RESULT 3).rd R.PWR_SAVE_STAT := State.evtF_rd ..
  rw [State.fld, h]
  exact State.fld_setFld _ _ _ _ (by decide)

theorem State.hushOver_left : let u := s.hushOver
    u.pwr.hush = false ∧ u.pwr.holdup = false ∧ u.pwr.saveIsland = false ∧ u.save.ok = false ∧ u.safe.dacMuted = s.inQuiet ∧
    u.fld R.PWR_SAVE_STAT F.PWR_SAVE_STAT_RESULT = 3 ∧ u.qmg.frozen = s.qmg.frozen := by
  have hb := s.hushCleared.hushTold_result s.save.bytes s.save.time
  have hp := s.hushCleared.hushTold_pwr s.save.bytes s.save.time
  have hs := s.hushCleared.hushTold_save s.save.bytes s.save.time
  have hf := s.hushCleared.hushTold_safe s.save.bytes s.save.time
  have hq := s.hushCleared.hushTold_qmg s.save.bytes s.save.time
  dsimp only
  rw [s.hushOver_eq]
  generalize s.hushCleared.hushTold s.save.bytes s.save.time = u at hb hp hs hf hq
  have ho := (State.pwrInput_within u 0 (Within.refl [.regs, .pass, .pwr, .air, .rf, .rx] u) rfl).only
  have hk := u.pwrInput_hush 0
  refine ⟨?_, ?_, ?_, ?_, ?_, ?_, ?_⟩
  · exact hk.hush.trans (congrArg PwrSt.hush hp)
  · exact hk.holdup.trans (congrArg PwrSt.holdup hp)
  · exact hk.island.trans (congrArg PwrSt.saveIsland hp)
  · exact congrArg SaveSt.ok ((ho .save (by decide)).trans hs)
  · exact congrArg SafeSt.dacMuted ((ho .safe (by decide)).trans hf)
  · exact (State.fld_of_regsBut (u.pwrInput_chosen 0).regs (by decide) _).trans hb
  · exact congrArg QmgSt.frozen ((ho .qmg (by decide)).trans hq)

end

/-! ### The vault loses its contents (R410, R412) -/

theorem State.rd_foldl_wr (v : Nat → Word) (l : List Nat) : ∀ (s : State) (k : Nat),
    (l.foldl (fun s k => s.wr k (v k)) s).rd k = if k ∈ l then v k else s.rd k := by
  induction l with
  | nil => simp
  | cons j l ih =>
    intro s k
    rw [List.foldl_cons, ih]
    by_cases hl : k ∈ l
    · simp [hl]
    · by_cases hj : k = j
      · subst hj
        simp [hl]
      · simp [hl, hj, State.rd_wr_ne _ _ hj]

/-- The vault's registers at their reset values. -/
def State.vaultReset (s : State) : State :=
  [R.PWR_RTC_S, R.KEY_TAMPER_CFG, R.PWR_WAKE_CFG, R.PWR_ALARM_S].foldl (fun s k => s.wr k (aget 0 k regReset)) s

/-- The vault without its secret, and the supply that is gone. -/
def State.vaultEmptied (s : State) : State :=
  { s with
    pwr := { s.pwr with
      vbatLost := true
      fSup := max 2 s.pwr.fSup }
    vault := { s.vault with
      secret := 0
      rtcAt := s.now } }

/-- The vault as it stands without VBAT. -/
def State.vbatGone (s : State) : State := (s.vaultReset.setFld R.PWR_VAULT_STAT F.PWR_VAULT_STAT_ON_VBAT 1).vaultEmptied

theorem State.vaultEmptied_rd (s : State) (k : Nat) : s.vaultEmptied.rd k = s.rd k := rfl
theorem State.vaultEmptied_secret (s : State) : s.vaultEmptied.vault.secret = 0 := rfl
theorem State.vaultEmptied_lost (s : State) : s.vaultEmptied.pwr.vbatLost = true := rfl

theorem State.vbatGone_rd (s : State) (k : Nat) :
    s.vbatGone.rd k = (s.vaultReset.setFld R.PWR_VAULT_STAT F.PWR_VAULT_STAT_ON_VBAT 1).rd k := State.vaultEmptied_rd _ k

theorem State.reset_rd (k : Nat) : State.reset.rd k = aget 0 k regReset := rfl

section
variable {s : State}

theorem exec_vbatLoss_running (h : s.pwr.fHeld = false) : exec .vbatLoss s = .next s := by
  rw [exec_vbatLoss_arm, execVbatLoss, if_pos (by rw [h]; rfl)]

theorem Does.vbatLoss (h : s.pwr.fHeld = true) : Does .vbatLoss s (fun t => t.vault.secret = 0 ∧ t.pwr.vbatLost = true ∧
    (∀ k ∈ [R.PWR_RTC_S, R.KEY_TAMPER_CFG, R.PWR_WAKE_CFG, R.PWR_ALARM_S], t.rd k = State.reset.rd k) ∧
    t.flag R.PWR_VAULT_STAT F.PWR_VAULT_STAT_ON_VBAT = true ∧
    t.regsBut s [R.PWR_RTC_S, R.KEY_TAMPER_CFG, R.PWR_WAKE_CFG, R.PWR_ALARM_S, R.PWR_VAULT_STAT]) := by
  have e : exec .vbatLoss s = .next s.vbatGone := by
    rw [exec_vbatLoss_arm, execVbatLoss, if_neg (by rw [h]; decide)]
    simp only [State.vbatGone, State.vaultEmptied, State.vaultReset, State.setFld_pwr, State.setFld_vault, State.setFld_now]
  refine Does.of_next e ⟨State.vaultEmptied_secret _, State.vaultEmptied_lost _, fun k hk => ?_, ?_, fun k hk => ?_⟩
  · have hv : k ≠ R.PWR_VAULT_STAT := fun e => absurd (e ▸ hk) (by decide)
    rw [s.vbatGone_rd, State.rd_setFld_ne _ _ _ hv, State.vaultReset, State.rd_foldl_wr, if_pos hk, State.reset_rd]
  · exact (congrArg (fun w => fget F.PWR_VAULT_STAT_ON_VBAT w != 0) (s.vbatGone_rd _)).trans (State.flag_err _ _ (by decide) (by decide))
  · have hv : k ≠ R.PWR_VAULT_STAT := fun e => hk (by simp [e])
    rw [s.vbatGone_rd, State.rd_setFld_ne _ _ _ hv, State.vaultReset, State.rd_foldl_wr, if_neg (fun hm => hk (by simp at hm ⊢; tauto))]

end

/-- Settles O54: the save runs its items in order from Hush to its status, is broken off with the status of that, and what follows it depends
on the reset, the way to VAULT or the holdup that began it. -/
theorem savesAndHoldup : Obligations.SavesAndHoldup := by
  intro s
  exact ⟨Does.holdupTrigger, exec_holdupTrigger_again, fun _ => Does.vaultSaveStart, exec_vaultSaveStart_none, exec_saveComplete_holds,
    fun ha _ => exec_saveComplete_resets ha, Does.saveComplete_vault, Does.saveComplete_saved, exec_saveEnds_none, Does.vholdLow,
    fun _ => State.storeAll_quiet, exec_rideThrough_over, s.hushOver_left, exec_rideThrough_unsaved, fun _ => exec_rideThrough_saving,
    exec_rideThrough_lost, exec_rideThrough_clear, Does.vbatLoss, exec_vbatLoss_running⟩

end Sys2Proof.Machine
end
section
/-! ## O56: the boot, the firmware's readiness, attempt counts and fuses (R331, R398, R421 to R426) -/
set_option Elab.async false
namespace Sys2Proof.Machine

/-! ### Recovery (R432) -/

/-- The state and reset-cause registers as the ROM enters recovery. -/
def State.recoverRegs (s : State) (reason : Nat) : State :=
  let s1 := s.cutAir.setFld R.SAFE_STATE F.SAFE_STATE_DRIVE_F 1
  if reason = 4 then s1 else s1.setFld R.SYS_RESET_CAUSE F.SYS_RESET_CAUSE_KIND 9

/-- The boot as it stands in recovery, with IDENT to be sent. -/
def State.recoverSet (s : State) (reason : Nat) : State :=
  let s3 := { s with
    safe := { s.safe with dacMuted := true }
    host := { s.host with microcode := false }
    boot := { s.boot with
      mode := 0
      recovery := reason
      booting := false
      recoveryReq := false
      selfTestDone := false } }
  { s3 with boot := { s3.boot with resp := some (smiviFrame 1 0 s3.identPayload) } }

section
variable (s : State) (reason : Nat)

theorem State.recover_eq : s.recover reason = (s.recoverRegs reason).recoverSet reason := rfl

theorem State.recoverSet_left : let t := s.recoverSet reason
    t.boot.mode = 0 ∧ t.boot.recovery = reason ∧ t.boot.booting = false ∧ t.boot.resp.isSome = true ∧ t.host.microcode = false ∧
    t.safe.dacMuted = true := ⟨rfl, rfl, rfl, rfl, rfl, rfl⟩

theorem State.recoverSet_rd (k : Nat) : (s.recoverSet reason).rd k = s.rd k := rfl

theorem State.recover_kind (h : reason ≠ 4) : (s.recover reason).fld R.SYS_RESET_CAUSE F.SYS_RESET_CAUSE_KIND = 9 := by
  have hk : (s.recoverRegs reason).fld R.SYS_RESET_CAUSE F.SYS_RESET_CAUSE_KIND = 9 := by
    unfold State.recoverRegs
    dsimp only
    rw [if_neg h]
    exact State.fld_setFld _ _ _ _ (by decide)
  rw [s.recover_eq, State.fld, State.recoverSet_rd]
  exact hk

end

/-! ### The ROM (R421) -/

/-- The cause of the reset, in its register. -/
def State.bootCaused (s : State) : State := s.wr R.SYS_RESET_CAUSE (w32 (s.pwr.lastKind + (if s.pwr.vaultWake then 16 else 0)))

/-- Both slots checked. -/
def State.slotsChecked (s : State) : State := (s.bootCaused.slotCheck 1).slotCheck 2

/-- Neither slot is checked on the way into recovery. -/
def State.slotsSkipped (s : State) : State :=
  (s.bootCaused.setFld R.BOOT_SLOTA F.BOOT_SLOTA_FIRST_FAIL 9).setFld R.BOOT_SLOTB F.BOOT_SLOTA_FIRST_FAIL 9

section
variable {s : State}

theorem exec_fDieBoot_arm (s : State) (low : Bool) : exec (.fDieBoot low) s = execFDieBoot low s := rfl

theorem exec_fDieBoot_none {low : Bool} (h : s.pwr.fHeld = true ∨ s.boot.booting = false) : exec (.fDieBoot low) s = .next s := by
  rw [exec_fDieBoot_arm, execFDieBoot, if_pos (by rcases h with h | h <;> simp [h])]

variable (h : s.pwr.fHeld = false ∧ s.boot.booting = true)
include h

theorem exec_fDieBoot_low : exec (.fDieBoot true) s = .next (s.slotsSkipped.recover 1) := by
  rw [exec_fDieBoot_arm, execFDieBoot, if_neg (by simp [h.1, h.2])]
  dsimp only
  rw [if_pos (by rw [Bool.true_or]), if_pos rfl]
  rfl

theorem Does.fDieBoot_low : Does (.fDieBoot true) s (fun t => t.boot.mode = 0 ∧ t.boot.recovery = 1 ∧ t.boot.booting = false ∧
    t.boot.resp.isSome = true ∧ t.host.microcode = false ∧ t.safe.dacMuted = true ∧
    t.fld R.SYS_RESET_CAUSE F.SYS_RESET_CAUSE_KIND = 9) := by
  obtain ⟨h1, h2, h3, h4, h5, h6⟩ := (s.slotsSkipped.recoverRegs 1).recoverSet_left 1
  exact Does.of_next (exec_fDieBoot_low h) ⟨h1, h2, h3, h4, h5, h6, s.slotsSkipped.recover_kind 1 (by decide)⟩

/-- Without a forced slot that is a candidate, the order's first slot is tried. -/
theorem exec_fDieBoot_tries (hr : s.boot.recoveryReq = false) (hu : (s.slotsChecked.fld R.BOOT_SEL F.BOOT_SEL_SEL = 1 ∨
    s.slotsChecked.fld R.BOOT_SEL F.BOOT_SEL_SEL = 2) → s.slotsChecked.candidate (s.slotsChecked.fld R.BOOT_SEL F.BOOT_SEL_SEL) = false) :
    exec (.fDieBoot false) s = .next (s.slotsChecked.bootTry true s.slotsChecked.bootOrder) := by
  have hn : (decide (s.slotsChecked.fld R.BOOT_SEL F.BOOT_SEL_SEL = 1) || decide (s.slotsChecked.fld R.BOOT_SEL F.BOOT_SEL_SEL = 2)) = true →
      s.slotsChecked.candidate (s.slotsChecked.fld R.BOOT_SEL F.BOOT_SEL_SEL) = false := fun e => hu (by simpa using e)
  rw [exec_fDieBoot_arm, execFDieBoot, if_neg (by simp [h.1, h.2])]
  dsimp only
  rw [if_neg (by simp [hr]), ← State.bootCaused, ← State.slotsChecked]
  rw [if_neg]
  simp only [Bool.and_eq_true]
  rintro ⟨⟨h1, h2⟩, -⟩
  rw [hn h1] at h2
  exact Bool.false_ne_true h2

end

/-- With no candidate the order is empty. -/
theorem State.bootOrder_none {s : State} (h1 : s.candidate 1 = false) (h2 : s.candidate 2 = false) : s.bootOrder = [] := by
  have ha : [1, 2].filter s.candidate = [] := by simp [h1, h2]
  have hb : [2, 1].filter s.candidate = [] := by simp [h1, h2]
  unfold State.bootOrder
  dsimp only
  rw [h2]
  split_ifs <;> assumption

theorem Does.fDieBoot_empty {s : State} (h : s.pwr.fHeld = false ∧ s.boot.booting = true) (hr : s.boot.recoveryReq = false)
    (h1 : s.slotsChecked.candidate 1 = false) (h2 : s.slotsChecked.candidate 2 = false) :
    Does (.fDieBoot false) s (fun t => t.boot.mode = 0 ∧ t.boot.recovery = 3) := by
  have hu : (s.slotsChecked.fld R.BOOT_SEL F.BOOT_SEL_SEL = 1 ∨ s.slotsChecked.fld R.BOOT_SEL F.BOOT_SEL_SEL = 2) →
      s.slotsChecked.candidate (s.slotsChecked.fld R.BOOT_SEL F.BOOT_SEL_SEL) = false := by
    rintro (e | e)
    · rw [e, h1]
    · rw [e, h2]
  have e : exec (.fDieBoot false) s = .next (s.slotsChecked.recover 3) := by
    rw [exec_fDieBoot_tries h hr hu, State.bootOrder_none h1 h2]
    rfl
  obtain ⟨hm, hc, -⟩ := (s.slotsChecked.recoverRegs 3).recoverSet_left 3
  exact Does.of_next e ⟨hm, hc⟩

/-! ### An image starts (R421, R422) -/

theorem State.tries_setTries (s : State) (slot n : Nat) : (s.setTries slot n).tries slot = n % 4 := State.fld_setFld _ _ _ _ (by decide)

/-- The slots' registers are two. -/
theorem slotReg_cases (c : Nat) : slotReg c = R.BOOT_SLOTA ∨ slotReg c = R.BOOT_SLOTB := by
  unfold slotReg
  split
  · exact .inl rfl
  · exact .inr rfl

/-- The status and the version of the running image. -/
def State.imageShown (s : State) (mode svn version : Nat) (fallback : Bool) : State :=
  (((s.setFld R.BOOT_STATUS F.BOOT_STATUS_SLOT (mode - 1)).setFld R.BOOT_STATUS F.BOOT_STATUS_FALLBACK (if fallback then 1 else 0)).setFld
    R.BOOT_STATUS F.BOOT_STATUS_RUN_SVN svn).wr R.BOOT_VERSION (w32 version)

/-- Pair 0 runs its code. -/
def State.imageRuns (s : State) (mode : Nat) : State :=
  { s with boot := { s.boot with
      mode := mode
      booting := false
      selfTestDone := false } }

section
variable (s : State) (mode svn version : Nat) (fallback : Bool)

theorem State.imageRuns_rd (k : Nat) : (s.imageRuns mode).rd k = s.rd k := rfl

theorem State.imageShown_regsBut : (s.imageShown mode svn version fallback).regsBut s [R.BOOT_STATUS, R.BOOT_VERSION] :=
  fun _ hk => (State.rd_wr_ne _ _ (fun e => hk (by simp [e]))).trans ((State.rd_setFld_ne _ _ _ (fun e => hk (by simp [e]))).trans
    ((State.rd_setFld_ne _ _ _ (fun e => hk (by simp [e]))).trans (State.rd_setFld_ne _ _ _ (fun e => hk (by simp [e])))))

theorem State.imageShown_version : (s.imageShown mode svn version fallback).rd R.BOOT_VERSION = w32 version := State.rd_wr ..

theorem State.imageShown_fallback (h : fallback = false) :
    (s.imageShown mode svn version fallback).flag R.BOOT_STATUS F.BOOT_STATUS_FALLBACK = false := by
  unfold State.imageShown
  rw [h, State.flag, State.fld, State.rd_wr_ne _ _ (by decide)]
  have hf : (((s.setFld R.BOOT_STATUS F.BOOT_STATUS_SLOT (mode - 1)).setFld R.BOOT_STATUS F.BOOT_STATUS_FALLBACK 0).setFld R.BOOT_STATUS
      F.BOOT_STATUS_RUN_SVN svn).fld R.BOOT_STATUS F.BOOT_STATUS_FALLBACK = 0 := by
    rw [State.fld_setFld_other _ _ _ _ _ (by decide) (by decide), State.fld_setFld _ _ _ _ (by decide), Nat.zero_mod]
  exact congrArg (· != 0) hf

end

/-- A slot whose body passes check 8, and that the order names first. -/
theorem State.bootTry_first {s : State} {c : Nat} (hb : s.bodyOk c = true) (l : List Nat) : s.bootTry true (c :: l) =
    (((s.setTries c (min 3 (s.tries c + 1))).imageShown c (s.fld (slotReg c) F.BOOT_SLOTA_SVN) (s.rd (slotVer c)).toNat false).imageRuns c) := by
  rw [State.bootTry, if_pos hb]
  rfl

theorem Does.fDieBoot_boots {s : State} {c : Nat} (h : s.pwr.fHeld = false ∧ s.boot.booting = true) (hr : s.boot.recoveryReq = false)
    (hs : s.slotsChecked.fld R.BOOT_SEL F.BOOT_SEL_SEL = 0) (ho : s.slotsChecked.bootOrder = [c]) (hb : s.slotsChecked.bodyOk c = true) :
    Does (.fDieBoot false) s (fun t => t.boot.mode = c ∧ t.boot.booting = false ∧ t.tries c = min 3 (s.slotsChecked.tries c + 1) ∧
      t.flag R.BOOT_STATUS F.BOOT_STATUS_FALLBACK = false ∧ t.rd R.BOOT_VERSION = s.slotsChecked.rd (slotVer c)) := by
  have e := exec_fDieBoot_tries h hr (fun hu => absurd hu (by rw [hs]; decide))
  rw [ho, State.bootTry_first hb] at e
  refine Does.of_next e ?_
  generalize s.slotsChecked = u
  have hk : slotReg c ∉ [R.BOOT_STATUS, R.BOOT_VERSION] := by rcases slotReg_cases c with h | h <;> rw [h] <;> decide
  refine ⟨rfl, rfl, ?_, ?_, ?_⟩
  · rw [State.tries, State.fld, State.imageRuns_rd, State.imageShown_regsBut _ _ _ _ _ _ hk]
    refine (u.tries_setTries c _).trans (Nat.mod_eq_of_lt ?_)
    omega
  · rw [State.flag, State.fld, State.imageRuns_rd]
    exact State.imageShown_fallback _ _ _ _ _ rfl
  · rw [State.imageRuns_rd, State.imageShown_version, w32, BitVec.ofNat_toNat, BitVec.setWidth_eq]

/-! ### The boot self-test (R424, R435) -/

/-- The regions below `n` that failed. -/
def State.bootFailsTo (s : State) (sigs : List (BitVec 128)) (n : Nat) : Nat :=
  (List.range n).foldl (fun f r => if s.bistGood r 3 (sigs.getD r 0) then f else setNbit f r) 0

theorem State.bootFailsTo_succ (s : State) (sigs : List (BitVec 128)) (n : Nat) : s.bootFailsTo sigs (n + 1) =
    if s.bistGood n 3 (sigs.getD n 0) then s.bootFailsTo sigs n else setNbit (s.bootFailsTo sigs n) n := by
  unfold State.bootFailsTo
  rw [List.range_succ, List.foldl_append, List.foldl_cons, List.foldl_nil]

/-- Below 2^`n` the next bit is clear, and setting it adds it. -/
theorem setNbit_top {m n : Nat} (h : m < 2 ^ n) : setNbit m n = 2 ^ n + m := by
  have hn : nbit m n = false := by rw [nbit_testBit, Nat.testBit_lt_two_pow h]
  rw [setNbit, hn, if_neg (by decide), Nat.add_comm]

theorem State.bootFailsTo_bits (s : State) (sigs : List (BitVec 128)) (n : Nat) :
    s.bootFailsTo sigs n < 2 ^ n ∧ ∀ r < n, nbit (s.bootFailsTo sigs n) r = !s.bistGood r 3 (sigs.getD r 0) := by
  induction n with
  | zero => exact ⟨by simp [State.bootFailsTo], fun r hr => absurd hr (Nat.not_lt_zero r)⟩
  | succ n ih =>
    obtain ⟨hlt, hbits⟩ := ih
    rw [s.bootFailsTo_succ]
    cases hg : s.bistGood n 3 (sigs.getD n 0) with
    | true =>
      rw [if_pos rfl]
      refine ⟨hlt.trans (Nat.pow_lt_pow_right (by decide) (Nat.lt_succ_self n)), fun r hr => ?_⟩
      rcases Nat.lt_succ_iff_lt_or_eq.mp hr with hr | rfl
      · exact hbits r hr
      · rw [hg, nbit_testBit, Nat.testBit_lt_two_pow hlt]
        rfl
    | false =>
      rw [if_neg (by decide), setNbit_top hlt]
      refine ⟨by rw [pow_succ]; omega, fun r hr => ?_⟩
      rcases Nat.lt_succ_iff_lt_or_eq.mp hr with hr | rfl
      · rw [nbit_testBit, Nat.testBit_two_pow_add_gt hr, ← nbit_testBit]
        exact hbits r hr
      · rw [hg, nbit_testBit, Nat.testBit_two_pow_add_eq, Nat.testBit_lt_two_pow hlt]

theorem State.bootFails_bits (s : State) (sigs : List (BitVec 128)) : ∀ r < 32, nbit (s.bootFails sigs) r = !s.bistGood r 3 (sigs.getD r 0) :=
  (s.bootFailsTo_bits sigs 32).2

section
variable {s : State} {sigs : List (BitVec 128)}

theorem exec_bootSelftestDone_arm (s : State) (sigs : List (BitVec 128)) : exec (.bootSelftestDone sigs) s = execBootSelftestDone sigs s := rfl

theorem exec_bootSelftestDone_recovery (h : s.boot.mode = 0) : exec (.bootSelftestDone sigs) s = .next s := by
  rw [exec_bootSelftestDone_arm, execBootSelftestDone, if_pos (by simp [h])]

/-- Failures with which no image runs: a region that must work, both slot engines, or all core pairs. -/
abbrev bootDown (f : Nat) : Prop := 2 ^ 22 ≤ f ∨ bitsAt (w32 f) 16 2 = 3 ∨ bitsAt (w32 f) 18 4 = 15

variable (h : s.pwr.fHeld = false ∧ s.boot.booting = false ∧ s.boot.mode ≠ 0 ∧ s.boot.selfTestDone = false)
include h

theorem exec_bootSelftestDone_down (hd : bootDown (s.bootFails sigs)) :
    exec (.bootSelftestDone sigs) s = .next ((s.wr R.BIST_BOOT_FAIL (w32 (s.bootFails sigs))).recover 4) := by
  obtain ⟨h1, h2, h3, h4⟩ := h
  rw [exec_bootSelftestDone_arm, execBootSelftestDone, if_neg (by simp [h1, h2, h3, h4])]
  dsimp only
  rw [if_pos (by simpa [bootDown, or_assoc] using hd)]

theorem exec_bootSelftestDone_runs (hd : ¬bootDown (s.bootFails sigs)) : exec (.bootSelftestDone sigs) s =
    .next (let u := (s.wr R.BIST_BOOT_FAIL (w32 (s.bootFails sigs))).bootUnits (s.bootFails sigs)
      ({ u with boot := { u.boot with selfTestDone := true } } : State).bootFinish) := by
  obtain ⟨h1, h2, h3, h4⟩ := h
  rw [exec_bootSelftestDone_arm, execBootSelftestDone, if_neg (by simp [h1, h2, h3, h4])]
  dsimp only
  rw [if_neg (by simpa [bootDown, or_assoc] using hd)]

end

theorem State.bootWake_woken {s : State} (h : s.pwr.vaultWake = true) :
    s.bootWake.boot.events = s.boot.events ++ [(29, 0, 0, 4, w32 (2 + s.pwr.vaultCode * 256))] ∧ s.bootWake.pwr.vaultWake = false := by
  rw [State.bootWake, if_neg (by rw [h]; decide)]
  exact ⟨rfl, rfl⟩

/-! ### FW_READY (R331, R401) -/

/-- What the H-die keeps of the firmware's readiness as an event goes out. -/
def State.fwShown (s : State) : Bool × Bool := (s.host.fwReady, s.host.stopped)

section
variable (s : State)

theorem State.vecTrigger_fwShown (p v : Nat) : (s.vecTrigger p v).fwShown = s.fwShown := by
  unfold State.vecTrigger
  split <;> rfl

theorem State.evtWrite_fwShown (p : Nat) (ws : List Word) : (s.evtWrite p ws).fwShown = s.fwShown := by
  cases h : s.ringRoom p 34
  · rw [s.evtWrite_dropped p ws h]
    rfl
  · rw [s.evtWrite_taken p ws h]
    exact State.vecTrigger_fwShown _ p _

theorem State.evtH_fwShown (src mask : Nat) (p0 p1 p2 : Word) : (s.evtH src mask p0 p1 p2).fwShown = s.fwShown := by
  refine State.foldl_kept State.fwShown _ (fun u q => ?_) _ _
  unfold State.evtDeliver
  split
  · exact u.evtWrite_fwShown q _
  · rfl

theorem State.evtH_boot (src mask : Nat) (p0 p1 p2 : Word) : (s.evtH src mask p0 p1 p2).boot = s.boot :=
  (State.evtH_within s src mask p0 p1 p2 (Within.refl [.regs, .host] s) rfl).only .boot (by decide)

/-- With nothing that failed and no event that waits, nothing is reported. -/
theorem State.bootReports_none {s : State} (hc : s.boot.bootFailClusters = []) (hp : s.boot.bootFailPairs = []) (he : s.boot.events = []) :
    s.bootReports = { s with boot := { s.boot with bootFailClusters := [], bootFailPairs := [], events := [] } } := by
  unfold State.bootReports
  dsimp only
  rw [hc, hp, he, List.foldl_nil, List.foldl_nil, List.foldl_nil]

/-- The firmware is ready. -/
def State.fwUp (s : State) : State :=
  { s with
    host := { s.host with
      fwReady := true
      stopped := false }
    boot := { s.boot with readySince := some s.now } }

/-- The event of it. -/
def State.fwTold (s : State) : State := s.fwUp.evtH 30 0xF (s.fwUp.rd R.BOOT_VERSION) (w32 (s.fwUp.rd R.SYS_RESET_CAUSE).toNat) 0

theorem State.fwUp_boot : s.fwUp.boot = { s.boot with readySince := some s.now } := rfl
theorem State.fwUp_shown : s.fwUp.fwShown = (true, false) := rfl

theorem exec_fwReady_arm : exec .fwReady s = execFwReady s := rfl

variable {s}

theorem exec_fwReady_none (h : s.passUp = false ∨ s.fwRuns = false ∨ s.host.microcode = false ∨ s.host.fwReady = true) :
    exec .fwReady s = .next s := by
  rw [exec_fwReady_arm, execFwReady, if_pos (by rcases h with h | h | h | h <;> simp [h])]

theorem exec_fwReady_up (hu : s.passUp = true) (hr : s.fwRuns = true) (hm : s.host.microcode = true) (hf : s.host.fwReady = false) :
    exec .fwReady s = .next s.fwTold.bootReports := by
  rw [exec_fwReady_arm, execFwReady, if_neg (by simp [hu, hr, hm, hf])]
  unfold State.fwTold State.fwUp
  dsimp only

theorem State.fwTold_boot (s : State) : s.fwTold.boot = { s.boot with readySince := some s.now } := by
  rw [State.fwTold, State.evtH_boot, s.fwUp_boot]

theorem State.fwTold_shown (s : State) : s.fwTold.fwShown = (true, false) := by
  rw [State.fwTold, State.evtH_fwShown, s.fwUp_shown]

theorem State.withBoot_fwShown (s : State) (x : BootSt) : ({ s with boot := x } : State).fwShown = s.fwShown := rfl

theorem Does.fwReady (hu : s.passUp = true) (hr : s.fwRuns = true) (hm : s.host.microcode = true) (hf : s.host.fwReady = false)
    (hc : s.boot.bootFailClusters = []) (hp : s.boot.bootFailPairs = []) (he : s.boot.events = []) : Does .fwReady s (fun t =>
      t.host.fwReady = true ∧ t.host.stopped = false ∧ t.boot.readySince = some s.now) := by
  have e := exec_fwReady_up hu hr hm hf
  have hb := s.fwTold_boot
  have hs := s.fwTold_shown
  generalize s.fwTold = t at e hb hs
  have hn := State.bootReports_none (s := t) (by rw [hb]; exact hc) (by rw [hb]; exact hp) (by rw [hb]; exact he)
  have hr : t.bootReports.fwShown = (true, false) := by rw [hn, State.withBoot_fwShown, hs]
  refine Does.of_next e ⟨congrArg Prod.fst hr, congrArg Prod.snd hr, ?_⟩
  rw [hn, hb]

end

/-! ### Attempt counts (R422) -/

/-- The timer has run out. -/
def State.readyOver (s : State) (t : Nat) : State :=
  let s1 := s.advanceTo t
  { s1 with boot := { s1.boot with readySince := none } }

section
variable {s : State}

theorem exec_triesClearTimer_arm (s : State) : exec .triesClearTimer s = execTriesClearTimer s := rfl

theorem exec_triesClearTimer_none (h : s.boot.readySince = none) : exec .triesClearTimer s = .next s := by
  rw [exec_triesClearTimer_arm, execTriesClearTimer, h]

theorem State.setTries_regsBut (s : State) (slot n : Nat) : (s.setTries slot n).regsBut s [slotReg slot] := State.setFld_regsBut s _ _ (by simp)

theorem State.setTries_boot (s : State) (slot n : Nat) : (s.setTries slot n).boot = s.boot := State.setFld_boot ..
theorem State.setTries_now (s : State) (slot n : Nat) : (s.setTries slot n).now = s.now := State.setFld_now ..

theorem State.readyOver_now (s : State) (t : Nat) : (s.readyOver t).now = max s.now t := State.advanceTo_now ..

theorem State.readyOver_boot (s : State) (t : Nat) : (s.readyOver t).boot = { s.boot with readySince := none } := rfl
theorem State.readyOver_regs (s : State) (t : Nat) : (s.readyOver t).regs = s.regs := rfl

theorem exec_triesClearTimer_due {u : Nat} (hu : s.boot.readySince = some u) : exec .triesClearTimer s =
    .next (if (s.readyOver (u + sec 60)).boot.mode = 1 || (s.readyOver (u + sec 60)).boot.mode = 2 then
      (s.readyOver (u + sec 60)).setTries (s.readyOver (u + sec 60)).boot.mode 0 else s.readyOver (u + sec 60)) := by
  rw [exec_triesClearTimer_arm, execTriesClearTimer, hu]
  unfold State.readyOver
  dsimp only

theorem Does.triesClearTimer {u : Nat} (hu : s.boot.readySince = some u) (hm : s.boot.mode = 1 ∨ s.boot.mode = 2) :
    Does .triesClearTimer s (fun t => t.tries s.boot.mode = 0 ∧ t.boot.readySince = none ∧ t.now = max s.now (u + sec 60) ∧
      t.regsBut s [slotReg s.boot.mode]) := by
  have e := exec_triesClearTimer_due hu
  rw [State.readyOver_boot, if_pos (by simpa using hm)] at e
  refine Does.of_next e ⟨State.tries_setTries .., ?_, ?_, ?_⟩
  · rw [State.setTries_boot, State.readyOver_boot]
  · rw [State.setTries_now, State.readyOver_now]
  · exact State.regsBut_trans (State.regsBut_of_regs (s.readyOver_regs _)) (State.setTries_regsBut _ _ _)

end

/-! ### Guarded writes of the boot's registers (R425, R426, R438) -/

section
variable (s : State) (p : Part) (data : Word)

theorem exec_bootSelect_arm : exec (.bootSelect p data) s = .next (s.bootSelWrite p data) := rfl
theorem exec_rollbackCommit_arm : exec (.rollbackCommit p data) s = .next (s.rollbackWrite p data) := rfl
theorem exec_bootSelect_zero : exec (.bootSelect 0 data) s = .next (s.bootSelWrite 0 data) := rfl
theorem exec_rollbackCommit_zero : exec (.rollbackCommit 0 data) s = .next (s.rollbackWrite 0 data) := rfl
theorem exec_clrTriesA_zero : exec (.clrTriesA 0 data) s = .next (s.bootSelWrite 0 (fset F.BOOT_SEL_CLR_TRIES_A data 1)) := rfl
theorem exec_clrTriesB_zero : exec (.clrTriesB 0 data) s = .next (s.bootSelWrite 0 (fset F.BOOT_SEL_CLR_TRIES_B data 1)) := rfl
theorem exec_fuseBlowDone_arm : exec .fuseBlowDone s = execFuseBlowDone s := rfl

theorem exec_bootWrites_armed (h : s.unlocked p = false) :
    exec (.bootSelect p data) s = .next (s.guardViolation p (w32 R.BOOT_SEL) false data) ∧
    exec (.rollbackCommit p data) s = .next (s.guardViolation p (w32 R.BOOT_RB) false data) :=
  ⟨by rw [exec_bootSelect_arm, State.bootSelWrite, State.bootGuarded, State.guarded_armed s p _ data _ h],
    by rw [exec_rollbackCommit_arm, State.rollbackWrite, State.bootGuarded, State.guarded_armed s p _ data _ h]⟩

theorem State.armLock_boot (q : Nat) : (s.armLock q).boot = s.boot := rfl

theorem Does.bootSelect_other (h : s.unlocked p = true) (hp : p.val ≠ 0) : Does (.bootSelect p data) s (fun t =>
    t.flag R.BOOT_ERR F.BOOT_ERR_PART_WRITE = true ∧ t.rd R.BOOT_SEL = s.rd R.BOOT_SEL ∧ t.boot = s.boot) := by
  have e : s.bootSelWrite p data = (s.armLock p).err R.BOOT_ERR F.BOOT_ERR_PART_WRITE := by
    rw [State.bootSelWrite, State.bootGuarded, State.guarded_unlocked s _ _ data _ h, if_pos hp]
  have hk : R.BOOT_SEL ∉ [R.SYS_LOCK p] := by
    intro hm
    have hl := List.mem_singleton.mp hm
    simp only [R.BOOT_SEL, R.SYS_LOCK] at hl
    omega
  refine Does.of_next ((exec_bootSelect_arm s p data).trans (congrArg _ e)) ⟨State.flag_err _ _ (by decide) (by decide), ?_, ?_⟩
  · exact (State.rd_err_ne _ _ _ (by decide)).trans (s.armLock_regsBut p _ hk)
  · exact (State.setFld_boot ..).trans (s.armLock_boot p)

variable (h : s.unlocked 0 = true)
include h

/-- A write that partition 0 may make, behind the lock it arms. -/
theorem State.bootGuarded_own (k : Nat) (ok : State → State) : s.bootGuarded 0 k data ok = ok (s.armLock 0) := by
  rw [State.bootGuarded, State.guarded_unlocked s _ _ data _ h]
  rfl

end

/-- Blowing has begun towards a security version. -/
def State.fuseBegun (s : State) (svn : Nat) : State :=
  { s.setFld R.BOOT_RB F.BOOT_RB_BLOWING 1 with boot := { s.boot with fuseTarget := svn } }

/-- The fuses are blown. -/
def State.fuseOver (s : State) : State :=
  { s.setFld R.BOOT_RB F.BOOT_RB_BLOWING 0 with boot := { s.boot with fuseF := max s.boot.fuseF s.boot.fuseTarget } }

section
variable (s : State)

theorem State.withBoot_rd (x : BootSt) (k : Nat) : ({ s with boot := x } : State).rd k = s.rd k := rfl

theorem State.fuseBegun_rd (svn k : Nat) : (s.fuseBegun svn).rd k = (s.setFld R.BOOT_RB F.BOOT_RB_BLOWING 1).rd k := by
  unfold State.fuseBegun
  exact State.withBoot_rd _ _ k

theorem State.fuseOver_rd (k : Nat) : s.fuseOver.rd k = (s.setFld R.BOOT_RB F.BOOT_RB_BLOWING 0).rd k := by
  unfold State.fuseOver
  exact State.withBoot_rd _ _ k

theorem State.armLock_fld (k : Nat) (f : Fld) (hk : k ≠ R.SYS_LOCK 0) : (s.armLock 0).fld k f = s.fld k f :=
  State.fld_of_regsBut (s.armLock_regsBut 0) (by simpa using hk) f

variable {s} {data : Word}

theorem Does.rollbackCommit (h : s.unlocked 0 = true) (hd : bitAt data 0 = true) (hm : s.boot.mode ≠ 3)
    (hf : s.boot.fuseF < s.fld R.BOOT_STATUS F.BOOT_STATUS_RUN_SVN) (hb : s.flag R.BOOT_RB F.BOOT_RB_BLOWING = false) :
    Does (.rollbackCommit 0 data) s (fun t => t.flag R.BOOT_RB F.BOOT_RB_BLOWING = true ∧
      t.boot = { s.boot with fuseTarget := s.fld R.BOOT_STATUS F.BOOT_STATUS_RUN_SVN } ∧ t.unlocked 0 = false) := by
  have hs : (s.armLock 0).fld R.BOOT_STATUS F.BOOT_STATUS_RUN_SVN = s.fld R.BOOT_STATUS F.BOOT_STATUS_RUN_SVN :=
    s.armLock_fld _ _ (by decide)
  have hg : (s.armLock 0).flag R.BOOT_RB F.BOOT_RB_BLOWING = false := (congrArg (· != 0) (s.armLock_fld _ _ (by decide))).trans hb
  have e : s.rollbackWrite 0 data = (s.armLock 0).fuseBegun (s.fld R.BOOT_STATUS F.BOOT_STATUS_RUN_SVN) := by
    rw [State.rollbackWrite, State.bootGuarded_own s data h]
    dsimp only
    rw [hs, if_neg (by rw [s.armLock_boot, hg]; simp [hd, hm, hf])]
    rfl
  refine Does.of_next ((exec_rollbackCommit_zero s data).trans (congrArg _ e)) ⟨?_, ?_, ?_⟩
  · rw [State.flag, State.fld, State.fuseBegun_rd]
    exact State.flag_err _ _ (by decide) (by decide)
  · rfl
  · exact State.armLock_locked (s := s) ((State.fuseBegun_rd _ _ _).trans (State.rd_setFld_ne _ _ _ (by decide)))

theorem exec_fuseBlowDone_none (h : s.flag R.BOOT_RB F.BOOT_RB_BLOWING = false) : exec .fuseBlowDone s = .next s := by
  rw [exec_fuseBlowDone_arm, execFuseBlowDone, if_pos (by simp [h])]

theorem Does.fuseBlowDone (h : s.flag R.BOOT_RB F.BOOT_RB_BLOWING = true) : Does .fuseBlowDone s (fun t =>
    t.flag R.BOOT_RB F.BOOT_RB_BLOWING = false ∧ t.boot = { s.boot with fuseF := max s.boot.fuseF s.boot.fuseTarget }) := by
  have e : exec .fuseBlowDone s = .next s.fuseOver := by
    rw [exec_fuseBlowDone_arm, execFuseBlowDone, if_neg (by simp [h])]
    rfl
  have hz : (s.setFld R.BOOT_RB F.BOOT_RB_BLOWING 0).fld R.BOOT_RB F.BOOT_RB_BLOWING = 0 := by
    rw [State.fld_setFld _ _ _ _ (by decide), Nat.zero_mod]
  refine Does.of_next e ⟨?_, rfl⟩
  rw [State.flag, State.fld, State.fuseOver_rd]
  exact congrArg (· != 0) hz

end

/-! ### Slot selection (R426) -/

/-- The selection stored, and the attempt counts that its write clears. -/
def State.selStored (s : State) (data : Word) : State :=
  let s1 := s.wr R.BOOT_SEL (data &&& 7)
  let s2 := if bitAt data 3 then s1.setTries 1 0 else s1
  if bitAt data 4 then s2.setTries 2 0 else s2

section
variable (s : State) (data : Word)

theorem State.tries_of_rd {t : State} {c : Nat} (h : t.rd (slotReg c) = s.rd (slotReg c)) : t.tries c = s.tries c :=
  congrArg (fget F.BOOT_SLOTA_TRIES) h

/-- Two writes of attempt counts, each where its bit asks. -/
def State.triesCleared (s : State) (a b : Bool) : State :=
  let s2 := if a then s.setTries 1 0 else s
  if b then s2.setTries 2 0 else s2

theorem State.selStored_eq : s.selStored data = (s.wr R.BOOT_SEL (data &&& 7)).triesCleared (bitAt data 3) (bitAt data 4) := rfl

theorem State.triesCleared_one (a b : Bool) : (s.triesCleared a b).tries 1 = if a then 0 else s.tries 1 := by
  have h2 (u : State) : (u.setTries 2 0).tries 1 = u.tries 1 := u.tries_of_rd (State.setTries_regsBut u 2 0 _ (by decide))
  cases a <;> cases b <;> simp [State.triesCleared, h2, State.tries_setTries]

theorem State.triesCleared_two (a b : Bool) : (s.triesCleared a b).tries 2 = if b then 0 else s.tries 2 := by
  have h1 (u : State) : (u.setTries 1 0).tries 2 = u.tries 2 := u.tries_of_rd (State.setTries_regsBut u 1 0 _ (by decide))
  cases a <;> cases b <;> simp [State.triesCleared, h1, State.tries_setTries]

theorem State.triesCleared_regsBut (a b : Bool) : (s.triesCleared a b).regsBut s [R.BOOT_SLOTA, R.BOOT_SLOTB] := by
  have h1 (u : State) : (u.setTries 1 0).regsBut u [R.BOOT_SLOTA, R.BOOT_SLOTB] := State.setFld_regsBut u _ _ (by simp [slotReg])
  have h2 (u : State) : (u.setTries 2 0).regsBut u [R.BOOT_SLOTA, R.BOOT_SLOTB] := State.setFld_regsBut u _ _ (by simp [slotReg])
  have ha : (if a then s.setTries 1 0 else s).regsBut s [R.BOOT_SLOTA, R.BOOT_SLOTB] := by
    split
    · exact h1 s
    · exact State.regsBut_refl s _
  unfold State.triesCleared
  dsimp only
  split
  · exact State.regsBut_trans ha (h2 _)
  · exact ha

/-- The low three bits of a word. -/
theorem and_seven (v : Word) : v &&& 7 = w32 (fget ⟨0, 3⟩ v) := by
  apply BitVec.eq_of_toNat_eq
  rw [BitVec.toNat_and, w32, BitVec.toNat_ofNat, fget]
  exact (Nat.and_two_pow_sub_one_eq_mod v.toNat 3).trans (by simp only [pow_zero, Nat.div_one]; omega)

theorem and_seven_fset {f : Fld} (hf : f.lo + f.w ≤ 32) (hl : 3 ≤ f.lo) (x : Nat) : fset f data x &&& 7 = data &&& 7 := by
  rw [and_seven, and_seven, fget_fset_below f ⟨0, 3⟩ data x hf hl]

theorem bitsAt_fset {f : Fld} (hf : f.lo + f.w ≤ 32) (hl : 2 ≤ f.lo) (x : Nat) : bitsAt (fset f data x) 0 2 = bitsAt data 0 2 :=
  fget_fset_below f ⟨0, 2⟩ data x hf hl

theorem bitAt_fset_one (i : Nat) (hi : i < 32) : bitAt (fset ⟨i, 1⟩ data 1) i = true := by
  have h : fget ⟨i, 1⟩ (fset ⟨i, 1⟩ data 1) = 1 := fget_fset _ _ _ hi
  rw [bitAt, BitVec.getLsbD, Nat.testBit_eq_decide_div_mod_eq]
  exact decide_eq_true h

variable {s data} (h : s.unlocked 0 = true)
include h

theorem State.bootSelWrite_bad (hs : bitsAt data 0 2 = 3) : s.bootSelWrite 0 data = (s.armLock 0).err R.BOOT_ERR F.BOOT_ERR_SEL_INVALID := by
  rw [State.bootSelWrite, State.bootGuarded_own s data h]
  exact if_pos hs

theorem State.bootSelWrite_good (hs : bitsAt data 0 2 ≠ 3) : s.bootSelWrite 0 data = (s.armLock 0).selStored data := by
  rw [State.bootSelWrite, State.bootGuarded_own s data h]
  exact if_neg hs

/-- A refused selection sets its flag and nothing else of the boot. -/
theorem State.bootSelWrite_refused (hs : bitsAt data 0 2 = 3) : let t := s.bootSelWrite 0 data
    t.flag R.BOOT_ERR F.BOOT_ERR_SEL_INVALID = true ∧ t.rd R.BOOT_SEL = s.rd R.BOOT_SEL ∧ t.unlocked 0 = false ∧
    t.tries 1 = s.tries 1 ∧ t.tries 2 = s.tries 2 := by
  have hk (k : Nat) (h1 : k ≠ R.BOOT_ERR) (h2 : k ∉ [R.SYS_LOCK 0]) :
      ((s.armLock 0).err R.BOOT_ERR F.BOOT_ERR_SEL_INVALID).rd k = s.rd k := (State.rd_err_ne _ _ _ h1).trans (s.armLock_regsBut 0 k h2)
  dsimp only
  rw [State.bootSelWrite_bad h hs]
  exact ⟨State.flag_err _ _ (by decide) (by decide), hk _ (by decide) (by decide),
    State.armLock_locked (s := s) (State.rd_err_ne _ _ _ (by decide)), s.tries_of_rd (hk _ (by decide) (by decide)),
    s.tries_of_rd (hk _ (by decide) (by decide))⟩

theorem State.bootSelWrite_taken (hs : bitsAt data 0 2 ≠ 3) : let t := s.bootSelWrite 0 data
    t.rd R.BOOT_SEL = data &&& 7 ∧ t.tries 1 = (if bitAt data 3 then 0 else s.tries 1) ∧ t.tries 2 = (if bitAt data 4 then 0 else s.tries 2) ∧
    t.unlocked 0 = false := by
  have hc := ((s.armLock 0).wr R.BOOT_SEL (data &&& 7)).triesCleared_regsBut (bitAt data 3) (bitAt data 4)
  have hw (k : Nat) (h1 : k ≠ R.BOOT_SEL) (h2 : k ∉ [R.SYS_LOCK 0]) : ((s.armLock 0).wr R.BOOT_SEL (data &&& 7)).rd k = s.rd k :=
    (State.rd_wr_ne _ _ h1).trans (s.armLock_regsBut 0 k h2)
  dsimp only
  rw [State.bootSelWrite_good h hs, State.selStored_eq]
  refine ⟨?_, ?_, ?_, ?_⟩
  · exact (hc _ (by decide)).trans (State.rd_wr ..)
  · rw [State.triesCleared_one, s.tries_of_rd (hw _ (by decide) (by decide))]
  · rw [State.triesCleared_two, s.tries_of_rd (hw _ (by decide) (by decide))]
  · exact State.armLock_locked (s := s) ((hc _ (by decide)).trans (State.rd_wr_ne _ _ (by decide)))

theorem Does.bootSelect_refused (hs : bitsAt data 0 2 = 3) : Does (.bootSelect 0 data) s (fun t =>
    t.flag R.BOOT_ERR F.BOOT_ERR_SEL_INVALID = true ∧ t.rd R.BOOT_SEL = s.rd R.BOOT_SEL ∧ t.unlocked 0 = false) := by
  obtain ⟨h1, h2, h3, -⟩ := State.bootSelWrite_refused h hs
  exact Does.of_next (exec_bootSelect_zero s data) ⟨h1, h2, h3⟩

theorem Does.bootSelect_taken (hs : bitsAt data 0 2 ≠ 3) :
    Does (.bootSelect 0 data) s (fun t => t.rd R.BOOT_SEL = data &&& 7 ∧ t.tries 1 = (if bitAt data 3 then 0 else s.tries 1) ∧
      t.tries 2 = (if bitAt data 4 then 0 else s.tries 2) ∧ t.unlocked 0 = false) ∧
    Does (.clrTriesA 0 data) s (fun t => t.tries 1 = 0 ∧ t.rd R.BOOT_SEL = data &&& 7) ∧
    Does (.clrTriesB 0 data) s (fun t => t.tries 2 = 0 ∧ t.rd R.BOOT_SEL = data &&& 7) := by
  refine ⟨Does.of_next (exec_bootSelect_zero s data) (State.bootSelWrite_taken h hs), ?_, ?_⟩
  · obtain ⟨h1, h2, -⟩ := State.bootSelWrite_taken (data := fset F.BOOT_SEL_CLR_TRIES_A data 1) h
      (by rwa [bitsAt_fset data (by decide) (by decide)])
    refine Does.of_next (exec_clrTriesA_zero s data) ⟨?_, h1.trans (and_seven_fset data (by decide) (by decide) 1)⟩
    rw [h2, if_pos (bitAt_fset_one data 3 (by decide))]
  · obtain ⟨h1, -, h2, -⟩ := State.bootSelWrite_taken (data := fset F.BOOT_SEL_CLR_TRIES_B data 1) h
      (by rwa [bitsAt_fset data (by decide) (by decide)])
    refine Does.of_next (exec_clrTriesB_zero s data) ⟨?_, h1.trans (and_seven_fset data (by decide) (by decide) 1)⟩
    rw [h2, if_pos (bitAt_fset_one data 4 (by decide))]

theorem Does.clrTries_refused (hs : bitsAt data 0 2 = 3) :
    Does (.clrTriesA 0 data) s (fun t => t.flag R.BOOT_ERR F.BOOT_ERR_SEL_INVALID = true ∧ t.tries 1 = s.tries 1) ∧
    Does (.clrTriesB 0 data) s (fun t => t.flag R.BOOT_ERR F.BOOT_ERR_SEL_INVALID = true ∧ t.tries 2 = s.tries 2) := by
  constructor
  · obtain ⟨h1, -, -, h2, -⟩ := State.bootSelWrite_refused (data := fset F.BOOT_SEL_CLR_TRIES_A data 1) h
      (by rwa [bitsAt_fset data (by decide) (by decide)])
    exact Does.of_next (exec_clrTriesA_zero s data) ⟨h1, h2⟩
  · obtain ⟨h1, -, -, -, h2⟩ := State.bootSelWrite_refused (data := fset F.BOOT_SEL_CLR_TRIES_B data 1) h
      (by rwa [bitsAt_fset data (by decide) (by decide)])
    exact Does.of_next (exec_clrTriesB_zero s data) ⟨h1, h2⟩

end

/-- Settles O56: the ROM takes the first candidate of its order or enters recovery, the self-test's failures stand bit by bit, and the boot's
guarded writes change the register they name behind the lock they arm. -/
theorem firmwareBoots : Obligations.FirmwareBoots := by
  intro s low data sigs p c
  exact ⟨exec_fDieBoot_none, Does.fDieBoot_low, Does.fDieBoot_empty, Does.fDieBoot_boots, s.bootFails_bits sigs,
    exec_bootSelftestDone_down, exec_bootSelftestDone_runs, exec_bootSelftestDone_recovery, State.bootWake_woken, Does.fwReady,
    exec_fwReady_none, fun _ => Does.triesClearTimer, exec_triesClearTimer_none, Does.rollbackCommit, Does.fuseBlowDone,
    exec_fuseBlowDone_none, Does.bootSelect_refused, Does.bootSelect_taken, Does.clrTries_refused, exec_bootWrites_armed s p data,
    Does.bootSelect_other s p data⟩

end Sys2Proof.Machine
end
